-- ==== Sys2Proof/Word.lean ====
section
/-! DEFINITION. The word types and the small enumerations that commands and state share. -/

namespace Sys2Proof

/-- A register word (R8). -/
abbrev Word := BitVec 32

/-- The product variants of R2. -/
inductive Variant where
  | jk1024
  | jk512
  | jk256
  deriving DecidableEq, Repr

/-- The figure of a variant table's column (R2, R3). -/
def Variant.pick {α : Type} (v : Variant) (a b c : α) : α :=
  match v with
  | .jk1024 => a
  | .jk512 => b
  | .jk256 => c

/-- The register-space masters, in the codes of R398. -/
inductive Master where
  | mp
  | spi
  | f0
  | f1
  | scp
  deriving DecidableEq, Repr

/-- The switch ports: ring ports A and B and spur port C. -/
inductive Port where
  | a
  | b
  | c
  deriving DecidableEq, Repr

/-- The port's place in arrays of registers (A, B, C). -/
def Port.idx : Port → Nat
  | .a => 0
  | .b => 1
  | .c => 2

/-- The ring port's other end of the ring pair: the port a ring frame is forwarded to (R54). -/
def Port.other : Port → Port
  | .a => .b
  | .b => .a
  | .c => .c

/-- A master's code (R398). -/
def Master.code : Master → Nat
  | .mp => 0
  | .spi => 1
  | .f0 => 2
  | .f1 => 3
  | .scp => 4

/-- The references of R125 that a module without a splice master can follow. -/
inductive Reference where
  | ptpA
  | ptpB
  | ptpC
  | ppsIn
  | wckIn
  | frefIn
  deriving DecidableEq, Repr

/-- A reference's code (R125). -/
def Reference.code : Reference → Nat
  | .ptpA => 1
  | .ptpB => 2
  | .ptpC => 3
  | .ppsIn => 4
  | .wckIn => 5
  | .frefIn => 6

/-- The references with edges (R129). -/
inductive EdgeRef where
  | ppsIn
  | wckIn
  | frefIn
  deriving DecidableEq, Repr

/-- Its code (R125). -/
def EdgeRef.code : EdgeRef → Nat
  | .ppsIn => 4
  | .wckIn => 5
  | .frefIn => 6

/-- The two splice ports. -/
inductive Splice where
  | up
  | dn
  deriving DecidableEq, Repr

/-- The splice port's place in arrays of registers. -/
def Splice.idx : Splice → Nat
  | .up => 0
  | .dn => 1

/-! ### Acson instruction words (R242, R248 to R250, R256) -/

/-- The slot of a bundle (R241). -/
inductive Slot where
  | s
  | m
  deriving DecidableEq, Repr

/-- An instruction's predicate (R249): always, or when fF differs from NEG. -/
inductive Pred where
  | always
  | on (neg : Bool) (f : Fin 4)
  deriving DecidableEq, Repr

/-- A condition code (R256). -/
inductive Cc where
  | eq
  | ne
  | lt
  | le
  | ltu
  | leu
  deriving DecidableEq, Repr

/-- The error protection's finding at a data-memory access (R227). -/
inductive Ecc where
  | clean
  | single
  | double
  deriving DecidableEq, Repr

/-- Register numbers (R242). -/
abbrev D := Fin 32
abbrev P := Fin 8
abbrev Q := Fin 4

/-! ### Frames

A frame is its decoded header fields and its payload. Times on frames are deviations from the time base: the measured
timestamp of an event message is the time base at the event plus `tsErr` (R84), in units of 2^-16 ns. -/

/-- The PTP message types the rules of spec chapter 3 tell apart. -/
inductive PtpKind where
  | sync
  | delayReq
  | pdelayReq
  | pdelayResp
  | followUp
  | delayResp
  | pdelayRespFollowUp
  | announce
  | other
  deriving DecidableEq, Repr

/-- The dataset an Announce carries. -/
structure Ann where
  prio1 : Nat
  cls : Nat
  acc : Nat
  var : Nat
  prio2 : Nat
  identity : Nat
  steps : Nat
  utcOffset : Nat
  utcValid : Bool
  timeSource : Nat
  deriving DecidableEq, Repr

/-- A PTP message. `origin` is the originTimestamp, preciseOriginTimestamp or receiveTimestamp in ns since the PTP
epoch; `corr` is the correctionField in 2^-16 ns; `reqId` and `reqPort` are a response's requestingPortIdentity. -/
structure Ptp where
  kind : PtpKind
  domain : Nat
  srcId : Nat
  srcPort : Nat
  seq : Nat
  corr : Int
  origin : Nat
  twoStep : Bool
  reqId : Nat
  reqPort : Nat
  udp6 : Bool
  trailer : Bool
  ann : Option Ann
  deriving DecidableEq, Repr

/-- An audio packet, RTP over UDP or IEEE 1722 AAF, with the header fields R154 and R156 judge. `bytes` is the payload
after any CSRC identifiers and header extension; `pad` is the P bit. -/
structure Audio where
  aaf : Bool
  udp6 : Bool
  dest : Nat
  srcAddr : Nat
  udpPort : Nat
  version : Nat
  pt : Nat
  pad : Bool
  ssrc : Nat
  seq : Nat
  ts : Nat
  subtype : Nat
  format : Nat
  nsr : Nat
  chans : Nat
  bitDepth : Nat
  tv : Bool
  sp : Bool
  mr : Bool
  bytes : List Nat
  deriving DecidableEq, Repr

/-- The fields of a received SDP that R184 maps, with the listener entry Yunasel builds from it. -/
structure Sdp where
  entry : Nat
  source : Nat
  dest : Nat
  udp6 : Bool
  port : Nat
  pt : Nat
  l24 : Bool
  rate : Nat
  chans : Nat
  ptime : Option Nat
  offset : Nat
  filter : Option Nat
  refMatch : Bool
  deriving DecidableEq, Repr

/-- What a frame carries, as far as the rules tell frames apart. -/
inductive Body where
  | audio (a : Audio)
  | ptp (m : Ptp)
  | pause (quanta : Nat)
  | pfc (classes : Nat) (quanta : List Nat)
  | join (group : Nat) (source : Option Nat)
  | leave (group : Nat)
  | query (general : Bool) (group : Nat)
  | sdp (d : Sdp)
  | path (w0 run seq sent : Nat)
  | data
  deriving DecidableEq, Repr

/-- A frame. `vid` is 0 for an untagged or priority-tagged frame; `tags` counts its 802.1Q tags; `scp` says it goes to
UDP port 7431; `rtag` is the R-TAG's sequence number and hop count (R53); `len` is the length of R58; `raw` is the
frame's bytes without the FCS, as a host endpoint sees them (R411). -/

structure Frame where
  dst : Nat
  src : Nat
  vid : Nat
  tags : Nat
  pcp : Nat
  dscp : Nat
  scp : Bool
  group : Option Nat
  rtag : Option (Nat × Nat)
  len : Nat
  fcsOk : Bool
  oversize : Bool
  tsErr : Int
  body : Body
  raw : List Nat
  deriving DecidableEq, Repr

/-! ### Register access (R398, R418) -/

/-- A master's word write: its byte enables as a 4-bit mask and its word. `priv` says whether an access of the SCP master
is privileged; for every other master its path decides (R398). -/
structure BusWrite where
  m : Master
  priv : Bool
  be : Nat
  w : Word
  deriving DecidableEq, Repr

/-! ### Skonum control messages (R428) -/

/-- A message's header and what the module finds on receiving it: `session` to `seq` as R428 lays them out, `cls` the priority
class, `applyAt` APPLY_EF where APPLY_AT is set, the OBJECT as `kind` and `index`; `v6` that it came over IPv6, `formed` that it
has its operation's form; `tag` the 16 bytes after its payload, and `raw` the bytes of its header and payload where they are not
those that the fields and the operation's operands spell. -/
structure ScpMsg where
  version : Nat
  v6 : Bool
  tag : List Nat
  raw : Option (List Nat)
  formed : Bool
  cls : Nat
  applyAt : Option Nat
  controller : Nat
  session : Nat
  seq : Nat
  kind : Nat
  index : Nat
  deriving DecidableEq, Repr

/-! ### Splice frames (R377, R390) -/

/-- A control record: a forwarded access with the position that sent it, its completion, the master's module command in
bundle mode (R387), a member's FAULT_N, or traffic between MPs. -/
inductive Ctrl where
  | access (src dst adr : Nat) (value : Option Nat) (priv : Bool)
  | done (dst result data : Nat)
  | modCmd (code : Nat)
  | fault (pos : Nat) (on : Bool)
  | mp (dst : Nat)
  deriving DecidableEq, Repr

/-- A splice frame: SYNC (EF number and sender position), TIME (the master's time in units of 2^-16 ns with relayed link delay
added, the epoch, CLK state, rate code, flags, and the echo of a SYNC with its turnaround), the positions present with their
samples, and the control records. -/
structure SpliceFrame where
  crcOk : Bool
  ef : Nat
  pos : Nat
  time : Nat
  epoch : Nat
  clk : Nat
  rate : Nat
  acting : Bool
  upLost : Bool
  echo : Option (Nat × Nat)
  audio : List (Nat × List Word)
  ctrl : List Ctrl
  size : Nat
  deriving DecidableEq, Repr

end Sys2Proof
end

