-- ==== Sys2Proof/Syntax.lean ====
section
/-! DEFINITION. The commands of spec/opcode_table.json with their operands. -/

namespace Sys2Proof


/-- The commands: one constructor per row of spec/opcode_table.json. -/
inductive Instr where
  /-- An input rises above 40.0 V and U0 powers up, leaving OFF for RESET. (R500) -/
  | powerOn (rtc : Option Nat)
  /-- A PD interface completes detection and classification and the granted class is recorded. (R498) -/
  | pdClassification (p : Port) (cls : Nat)
  /-- Another input exceeds the supplying input by 0.5 V and takes over supply. (R499) -/
  | supplyingInputChange (p : Port)
  /-- 10 s after entering limited mode, a ring port above 2.5G restarts auto-negotiation. (R502) -/
  | limitedRetrainTimer
  /-- Every input has been below 36.0 V for 100 µs; units switch off, the bypass closes and the holdup sequence runs. (R513) -/
  | inputPowerLoss (dt : Nat)
  /-- At the exit from RESET the boot ROM verifies and starts the default or trial firmware bank. (R495) -/
  | bootRomStart (hostPriv strap : Bool)
  /-- Yunasel starts on the MP, logs the start and judges the configuration slots. (R484) -/
  | firmwareStart
  /-- With firmware verified, configuration loaded, budget sufficient and holdup armed, the sequencer starts staging U1. (R504) -/
  | stagingStart
  /-- A staging unit reports power-good and Yunasel writes its blocks' configuration. (R505) -/
  | unitPowerGood (u : Nat)
  /-- STAGE_INT after the previous unit started, the next unit is switched on if power-good has come. (R505) -/
  | stageIntervalExpiry
  /-- A unit reports no power-good within 2 ms and is switched off as failed. (R506) -/
  | unitPowerGoodTimeout (u : Nat)
  /-- After 2, 20 or 200 s the MP retries the whole start or a failed unit. (R506) -/
  | stageRetryTimer (u : Nat)
  /-- The last usable unit has staged, tests have ended and the image is certified, so the module enters READY. (R14) -/
  | readyEntry
  /-- A RUN command starts the EF trigger, wakes from QUIET, or is held as CMD_PEND. (R19) -/
  | modCmdRun (m : Master) (priv : Bool)
  /-- A QUIET command fades the TDM ports and puts units into Hold, or is refused. (R19) -/
  | modCmdQuiet (m : Master) (priv : Bool)
  /-- A READY command fades outputs, stops the EF trigger and cancels a pending RUN. (R19) -/
  | modCmdReady (m : Master) (priv : Bool)
  /-- An unused command code is refused with REFUSE_WHY 0x5. (R18) -/
  | modCmdInvalid (code : Nat) (m : Master) (priv : Bool)
  /-- The last condition holding a RUN clears and the EF trigger starts. (R19) -/
  | runHoldRelease
  /-- Within 10 ms of acceptance every unit reaches its QUIET condition. (R509) -/
  | quietEntryComplete
  /-- Units leave retention and U12 restages during a wake, so PLAY can start at the next tick. (R511) -/
  | wakeRestageComplete
  /-- A PWR.CTL.RESET write puts the module into RESET with LAST_CAUSE 0x1. (R516) -/
  | resetControl (m : Master) (priv : Bool)
  /-- RESET_N held low for 10 µs or more acts as reset control. (R545) -/
  | resetNPin (lowNs : Nat)
  /-- The 2 s MP watchdog expires and the module enters RESET with LAST_CAUSE 0x2. (R458) -/
  | mpWatchdogExpiry
  /-- RETRY clears permanent unit failures and STAGE_FAIL, restarting a module held in RESET. (R506) -/
  | pwrCtlRetry (m : Master) (priv : Bool)
  /-- AUX_RESTART restarts AUX_3V3 after overload shutdowns. (R503) -/
  | auxRestart (m : Master) (priv : Bool)
  /-- The AUX_3V3 load stays above its limit for 100 ms and the output switches off. (R503) -/
  | auxOverload
  /-- 1 s after an overload shutdown AUX_3V3 restarts, unless three shutdowns in a row have occurred. (R503) -/
  | auxAutoRestart
  /-- A restart that holds for 10 s clears AUX_FAULT. (R503) -/
  | auxRestartHold
  /-- V_HOLD crosses 40 V or 30 V and HOLD_ARMED sets or clears. (R513) -/
  | holdArmedChange (armed : Bool)
  /-- A sensor reaches its critical level and THERM_CRIT sets. (R514) -/
  | thermalCritical
  /-- A sensor reaches its shutdown level and U0 hardware switches U1 to U14 off. (R514) -/
  | thermalShutdown (dt : Nat)
  /-- Every sensor has been below its warning level for 60 s and the MP starts again. (R514) -/
  | thermalRestart
  /-- Every 100 ms the sensors are sampled into MGMT.SENSk. (R460) -/
  | sensorSample (vals : List Int)
  /-- A port configuration write whose RATE_ADV changes restarts auto-negotiation. (R31) -/
  | portCfgWrite (p : Port) (ws : List BusWrite)
  /-- Training fails three times at the negotiated rate and the port withholds that rate. (R28) -/
  | autonegTrainingFail (p : Port) (rate : Nat)
  /-- Training completes at the negotiated rate and the port declares link up. (R29) -/
  | linkUp (p : Port) (rate dt : Nat)
  /-- Within 1 ms of losing the far-end signal the port declares link down. (R29) -/
  | linkDown (p : Port) (dt : Nat)
  /-- The hold-down time expires; the port retrains and FLAPS clears. (R69) -/
  | holdDownEnd (p : Port) (dt : Nat)
  /-- After 3,600 s of continuous link HOLD_LEVEL returns to 0. (R69) -/
  | holdLevelDecay (p : Port)
  /-- RELEASE ends hold-down at once and clears FLAPS. (R70) -/
  | flapRelease (p : Port) (m : Master) (priv : Bool)
  /-- A frame from ring port A or B is stripped, forwarded, recovered and delivered. (R54) -/
  | ringFrameRx (dt : Nat) (portB : Bool) (f : Frame)
  /-- A frame from port C is classified, checked and switched. (R46) -/
  | spurFrameRx (dt : Nat) (f : Frame)
  /-- An egress starts a queued frame once gates and shaping allow it, truncating it if oversize. (R60) -/
  | frameTransmit (dt : Nat) (p : Port)
  /-- JOIN_NOW opens the bypass, or is refused. (R42) -/
  | bypassJoinNow (m : Master) (priv : Bool)
  /-- A change of FORCE_CLOSE closes the bypass or reapplies the join policy. (R42) -/
  | bypassForceClose (on : Bool) (m : Master) (priv : Bool)
  /-- DELAY_S seconds after entry to READY, a POLICY 0b01 join opens the bypass. (R39) -/
  | bypassJoinDelayExpiry
  /-- The contacts reach open or closed, setting JOIN_DONE or BYPASS_CLOSED. (R36) -/
  | bypassContactsSettled
  /-- A reservation write is clamped if needed and new slopes apply from the next frame boundary. (R45) -/
  | cbsWrite (p : Port) (ws : List BusWrite)
  /-- SWAP makes the other gate bank operative at the next cycle start, or is refused. (R49) -/
  | qbvSwap (b : Bool) (m : Master) (priv : Bool)
  /-- A gate cycle starts at its anchor and a pending bank swap takes effect. (R48) -/
  | qbvCycleStart (b : Bool) (dt : Nat)
  /-- A gate entry's interval ends and the next entry's mask applies. (R48) -/
  | qbvEntryExpiry (b : Bool) (dt : Nat)
  /-- A gate cycle is cut 1 s after it started and QBV_ERR sets. (R48) -/
  | qbvCycleCut (b : Bool) (dt : Nat)
  /-- A write to an operative-bank entry changes its mask at once. (R49) -/
  | qbvEntryWrite (k : Nat) (ws : List BusWrite)
  /-- Half the quanta elapse with the pool still high and the pause is repeated. (R63) -/
  | pauseRepeat (p : Port)
  /-- A watermark write across the current occupancy acts at once. (R62) -/
  | pauseWmWrite (ws : List BusWrite)
  /-- The paused time ends and the egress classes resume. (R64) -/
  | pauseQuantaExpiry (p : Port) (dt : Nat)
  /-- A read of an RC counter returns the count and clears it. (R67) -/
  | counterRead (adr : Nat) (m : Master) (priv : Bool)
  /-- A posted PHY management write reaches a Clause 45 register and may drop the link. (R562) -/
  | phyDataWrite (p : Port) (mmd reg val : Nat)
  /-- A read of TB_NS latches the other time-base registers for the reading master. (R73) -/
  | tbNsRead (m : Master) (priv : Bool)
  /-- ANN_TIMEOUT intervals pass without an Announce and the BMCA re-runs. (R77) -/
  | announceReceiptTimeout (p : Port)
  /-- At the LOG_DELAY interval a port sends a Pdelay_Req. (R75) -/
  | pdelayReqTimer (p : Port) (dt : Nat)
  /-- As slave of a grandmaster on port C, the module sends Delay_Req. (R81) -/
  | delayReqTimer (dt : Nat)
  /-- As grandmaster, the module sends Sync at the LOG_SYNC interval. (R87) -/
  | syncOriginate (dt : Nat)
  /-- As grandmaster, the module sends Announce at the LOG_ANNOUNCE interval. (R79) -/
  | announceOriginate (dt : Nat)
  /-- An unmatched two-step correction entry is freed after 1 s. (R91) -/
  | twoStepEntryExpiry (p : Port) (dt : Nat)
  /-- A transmit timestamp entry frees and a held timed frame may go. (R93) -/
  | tsQueueEntryFree
  /-- A profile change loads defaults and abandons the twin-path window. (R76) -/
  | ptpCfgWrite (ws : List BusWrite)
  /-- A 300 s window ends and may store a valid d. (R97) -/
  | twinWindowEnd (dt : Nat)
  /-- LOSS_INTV Sync intervals pass without a Sync on a path and it is lost. (R99) -/
  | twinPathLoss (b : Bool)
  /-- A change of PREF moves the module to the new path at once. (R98) -/
  | twinPrefWrite (pref : Fin 4) (m : Master) (priv : Bool)
  /-- At the EF boundary a pending jump is slewed or stepped, and the epoch increments for a step. (R109) -/
  | timeJumpApply
  /-- A slew has absorbed its Δ and the time base runs at nominal rate again. (R108) -/
  | slewComplete
  /-- SET applies the TB_SET registers as a jump, or is refused. (R112) -/
  | tbCtlSet (clash : Bool) (m : Master) (priv : Bool)
  /-- ADJ applies TB_ADJ as a jump, or is refused. (R112) -/
  | tbCtlAdj (clash : Bool) (m : Master) (priv : Bool)
  /-- A TPO_START_NS write applies the start and arms a one-shot. (R115) -/
  | tpoStartWrite (n : Fin 4) (ws : List BusWrite)
  /-- A TPO control write changes the output's mode at once. (R116) -/
  | tpoCtlWrite (n : Fin 4) (ws : List BusWrite)
  /-- The time base reaches a one-shot's start and the output fires. (R117) -/
  | tpoOneShotFire (n dt : Nat)
  /-- A periodic output produces its next edge. (R118) -/
  | tpoPeriodicEdge (n : Nat)
  /-- REALIGN.TPO moves a periodic output's next edge to its ideal time. (R118) -/
  | tpoRealign (n : Fin 4) (m : Master) (priv : Bool)
  /-- A selected TPI edge is captured into the capture queue. (R120) -/
  | tpiCapture (n : Nat) (rise popped : Bool) (dt : Nat)
  /-- A read of CAPQ_INFO pops the head capture entry. (R122) -/
  | capqInfoRead (m : Master) (priv : Bool)
  /-- An edge of PPS_IN, WCK_IN or FREF_IN is judged against its expected time. (R129) -/
  | refEdge (r : EdgeRef) (dt : Nat)
  /-- No edge arrives by e + 25 % of T and a glitch period is counted. (R129) -/
  | refMissingEdge (r : EdgeRef) (dt : Nat)
  /-- A ZDA or RMC sentence on TOD_RX labels a PPS edge. (R132) -/
  | todSentenceRx (utc : Nat) (checksumOk : Bool)
  /-- A reference valid for QUAL_S seconds qualifies. (R128) -/
  | refQualify (r : Reference)
  /-- A better reference has been qualified for REVERT_S and AUTO selection chooses it. (R133) -/
  | revertWaitExpiry
  /-- At an EF boundary the DPLL takes the reference SEL names and passes its phase step to TIME. (R144) -/
  | refSwitch
  /-- After 5 s within 10 µs the DPLL steps from 25 Hz to 2.5 Hz. (R136) -/
  | dpllBandwidthStep
  /-- After 60 s at 2.5 Hz within 500 ns, CLK enters LOCKED. (R136) -/
  | dpllLock
  /-- Phase error above 2 µs for 4 s returns CLK to ACQUIRING. (R136) -/
  | dpllLockLoss (errNs : Nat)
  /-- Once per second, disagreeing equal-rank references are voted and one may be marked SUSPECT. (R138) -/
  | refVote
  /-- Each second, FREQ and drift rate are checked against the soft and hard limits. (R139) -/
  | driftLimitCheck (freqs : List (Reference × Int))
  /-- Each second of DPLL time, CLK writes the mean FCW or an invalid marker into history. (R140) -/
  | historyWrite (mean phaseNs : Int) (dt : Nat)
  /-- REF_ALM_N goes high after 1 s with no alarm condition. (R151) -/
  | refAlmRelease
  /-- A REF_CTL write changes selection mode or SEL. (R134) -/
  | refCtlWrite (ws : List BusWrite)
  /-- REALIGN.MEDIA fades the TDM ports and starts a media-chain realign, or is refused. (R148) -/
  | realignMedia (m : Master) (priv : Bool)
  /-- The EF that carries the move ends at the moved boundary and the realign completes. (R148) -/
  | realignMove
  /-- A RATE write is accepted in STAGING only, otherwise ignored with RATE_REFUSED. (R149) -/
  | mediaCfgWrite (ws : List BusWrite)
  /-- Enabling an MCLK output starts it at a sample edge without a runt. (R150) -/
  | mclkCfgWrite (ws : List BusWrite)
  /-- A listener entry write is checked and the entry is accepted or refused. (R161) -/
  | listenerEntryWrite (n : Nat) (w : Fin 16) (ws : List BusWrite)
  /-- A talker entry write is checked, and enabling starts packets after the next committed EF. (R164) -/
  | talkerEntryWrite (n : Nat) (w : Fin 16) (ws : List BusWrite)
  /-- A lay write enables or disables the lay's members. (R173) -/
  | layEntryWrite (n : Nat) (w : Fin 8) (ws : List BusWrite)
  /-- A held packet's last sample enters the direct window and the packet is written. (R168) -/
  | arrivalHoldRelease (dt : Nat)
  /-- ACT_HOLD ms pass without activity and the lay goes inactive. (R176) -/
  | layIdle (n dt : Nat)
  /-- 100 ms without an accepted packet clears the entry's ACTIVE. (R160) -/
  | listenerActiveTimeout (n dt : Nat)
  /-- At the next EF boundary a new offset takes effect, muting an active lay. (R175) -/
  | presOffsetChange (n : Nat)
  /-- At the next EF boundary a change of SLIP_ALL takes effect. (R179) -/
  | slipAllChange (n : Nat)
  /-- 1 s after the first report, the report is sent again. (R182) -/
  | membershipRepeat (n dt : Nat)
  /-- Yunasel answers a query within its maximum response time. (R182) -/
  | queryResponse
  /-- 260 s after the last join on port C, a group stops reaching port C. (R183) -/
  | snoopJoinExpiry (group dt : Nat)
  /-- Every 30 s Yunasel announces each enabled talker's SDP by SAP. (R184) -/
  | sapAnnounce (n : Nat)
  /-- HOLD_MIB is accepted only in STAGING, otherwise ignored with CFG_REFUSED. (R186) -/
  | holdCfgWrite (ws : List BusWrite)
  /-- At the start of each EF of the media chain PLAY commits, moves the cleat and starts head computation. (R190) -/
  | efTick (hv : List (List Int))
  /-- At the first tick after RUN, PLAY sets K and computes its first EFs. (R195) -/
  | runPlayStart
  /-- The EF trigger stops after the last commit and uncommitted work is discarded. (R195) -/
  | efTriggerStop
  /-- The engine begins a computation of an EF with frame setup. (R218) -/
  | computationStart (dt : Nat)
  /-- Every core and the XPT mix finish a segment and the next segment starts. (R219) -/
  | segmentBarrier (dt : Nat)
  /-- Frame completion stages the EF's items and reports to PLAY. (R218) -/
  | computationComplete (dt ns : Nat) (cycles : List Nat)
  /-- SLACK is accepted in STAGING and READY only, otherwise refused. (R211) -/
  | playCfgWrite (ws : List BusWrite)
  /-- A read of NOW_EF latches CLEAT_EF and HEAD_EF for the reader. (R212) -/
  | nowEfRead (m : Master) (priv : Bool)
  /-- A core's cycle count exceeds CORE_CERT and OVERRUN counts. (R235) -/
  | coreOverrun (c : Nat)
  /-- A core's count reaches twice CORE_CERT and the core is halted. (R235) -/
  | forcedHalt (c : Nat)
  /-- COMMIT makes pending descriptors operative now or at the apply EF. (R231) -/
  | placeCommit (m : Master) (priv : Bool)
  /-- The apply EF is computed under the new placement and PENDING clears. (R231) -/
  | placementApply
  /-- Within 10 ms of a retirement the MP re-maps and commits the retired core's programs. (R237) -/
  | remap
  /-- STOP halts a READY core at ENTRY of its first program. (R233) -/
  | coreStop (c : Nat) (m : Master) (priv : Bool)
  /-- RESUME returns a STOPPED core to READY. (R233) -/
  | coreResume (c : Nat) (m : Master) (priv : Bool)
  /-- STEP runs one bundle on a STOPPED core. (R281) -/
  | coreStep (c : Nat) (m : Master) (priv : Bool)
  /-- RETIRE retires a core now with CAUSE 0x4. (R233) -/
  | coreRetire (c : Nat) (m : Master) (priv : Bool)
  /-- CLEAR_RETIRE runs the core's BIST and returns it to EMPTY on PASS. (R233) -/
  | coreClearRetire (c : Nat) (m : Master) (priv : Bool)
  /-- A master write to core memory lands in every version, or is refused. (R226) -/
  | coreMemoryWrite (c : Nat) (off : Fin 0x20000) (ws : List BusWrite)
  /-- XPT_SLOT is accepted only with the trigger stopped. (R238) -/
  | engCfgWrite (ws : List BusWrite)
  /-- A delay-engine block transfer completes. (R266) -/
  | dlyTransferComplete (c corrected : Nat) (bad : List Nat) (dt : Nat)
  /-- The all-zero word does nothing. (R250) -/
  | nop (c : Nat) (sl : Slot)
  /-- An undefined word executes as nop and traps. (R251) -/
  | undefinedWord (c : Nat) (sl : Slot)
  /-- Integer add modulo 2^32. (R253) -/
  | add (c : Nat) (sl : Slot) (pr : Pred) (d : D) (a : D) (b : D)
  /-- Integer subtract modulo 2^32. (R253) -/
  | sub (c : Nat) (sl : Slot) (pr : Pred) (d : D) (a : D) (b : D)
  /-- Bitwise AND. (R253) -/
  | and (c : Nat) (sl : Slot) (pr : Pred) (d : D) (a : D) (b : D)
  /-- Bitwise OR. (R253) -/
  | or (c : Nat) (sl : Slot) (pr : Pred) (d : D) (a : D) (b : D)
  /-- Bitwise XOR. (R253) -/
  | xor (c : Nat) (sl : Slot) (pr : Pred) (d : D) (a : D) (b : D)
  /-- AND with the complement of the second operand. (R253) -/
  | andn (c : Nat) (sl : Slot) (pr : Pred) (d : D) (a : D) (b : D)
  /-- Logical left shift by register. (R253) -/
  | shl (c : Nat) (sl : Slot) (pr : Pred) (d : D) (a : D) (b : D)
  /-- Logical right shift by register. (R253) -/
  | shr (c : Nat) (sl : Slot) (pr : Pred) (d : D) (a : D) (b : D)
  /-- Arithmetic right shift by register. (R253) -/
  | sar (c : Nat) (sl : Slot) (pr : Pred) (d : D) (a : D) (b : D)
  /-- Signed minimum. (R253) -/
  | min (c : Nat) (sl : Slot) (pr : Pred) (d : D) (a : D) (b : D)
  /-- Signed maximum. (R253) -/
  | max (c : Nat) (sl : Slot) (pr : Pred) (d : D) (a : D) (b : D)
  /-- Unsigned minimum. (R253) -/
  | minu (c : Nat) (sl : Slot) (pr : Pred) (d : D) (a : D) (b : D)
  /-- Unsigned maximum. (R253) -/
  | maxu (c : Nat) (sl : Slot) (pr : Pred) (d : D) (a : D) (b : D)
  /-- Add a sign-extended 12-bit immediate. (R254) -/
  | addi (c : Nat) (sl : Slot) (pr : Pred) (d : D) (a : D) (imm : BitVec 12)
  /-- AND with a zero-extended immediate. (R254) -/
  | andi (c : Nat) (pr : Pred) (d : D) (a : D) (imm : BitVec 12)
  /-- OR with a zero-extended immediate. (R254) -/
  | ori (c : Nat) (pr : Pred) (d : D) (a : D) (imm : BitVec 12)
  /-- XOR with a zero-extended immediate. (R254) -/
  | xori (c : Nat) (pr : Pred) (d : D) (a : D) (imm : BitVec 12)
  /-- Logical left shift by immediate. (R254) -/
  | shli (c : Nat) (sl : Slot) (pr : Pred) (d : D) (a : D) (n : Fin 32)
  /-- Logical right shift by immediate. (R254) -/
  | shri (c : Nat) (sl : Slot) (pr : Pred) (d : D) (a : D) (n : Fin 32)
  /-- Arithmetic right shift by immediate. (R254) -/
  | sari (c : Nat) (sl : Slot) (pr : Pred) (d : D) (a : D) (n : Fin 32)
  /-- Load a sign-extended 17-bit immediate. (R254) -/
  | movi (c : Nat) (sl : Slot) (pr : Pred) (d : D) (imm : BitVec 17)
  /-- Load the upper half of a data register. (R254) -/
  | movhi (c : Nat) (pr : Pred) (d : D) (imm : BitVec 16)
  /-- Add an immediate to an address register. (R254) -/
  | padd (c : Nat) (pr : Pred) (d : P) (a : P) (imm : BitVec 12)
  /-- Copy a data register. (R255) -/
  | movDD (c : Nat) (pr : Pred) (d : D) (a : D)
  /-- Copy an address register to a data register. (R255) -/
  | movDP (c : Nat) (pr : Pred) (d : D) (a : P)
  /-- Copy a data register to an address register. (R255) -/
  | movPD (c : Nat) (pr : Pred) (d : P) (a : D)
  /-- Read a loop counter. (R255) -/
  | movDLc (c : Nat) (pr : Pred) (d : D) (a : Fin 2)
  /-- Read sf after earlier instructions complete. (R255) -/
  | movDSf (c : Nat) (pr : Pred) (d : D)
  /-- Clear the sticky status. (R255) -/
  | clrSf (c : Nat) (pr : Pred)
  /-- Copy the predicates to a data register. (R255) -/
  | movDF (c : Nat) (pr : Pred) (d : D)
  /-- Set the predicates from a data register. (R255) -/
  | movFD (c : Nat) (pr : Pred) (a : D)
  /-- Compare two registers into a predicate. (R256) -/
  | cmp (c : Nat) (pr : Pred) (cc : Cc) (f : Q) (a : D) (b : D)
  /-- Compare a register with an immediate into a predicate. (R256) -/
  | cmpi (c : Nat) (pr : Pred) (cc : Cc) (f : Q) (a : D) (imm : BitVec 12)
  /-- Predicate AND. (R256) -/
  | pand (c : Nat) (pr : Pred) (d : Q) (a : Q) (b : Q)
  /-- Predicate OR. (R256) -/
  | por (c : Nat) (pr : Pred) (d : Q) (a : Q) (b : Q)
  /-- Predicate XOR. (R256) -/
  | pxor (c : Nat) (pr : Pred) (d : Q) (a : Q) (b : Q)
  /-- Predicate AND NOT. (R256) -/
  | pandn (c : Nat) (pr : Pred) (d : Q) (a : Q) (b : Q)
  /-- Predicate NOT. (R256) -/
  | pnot (c : Nat) (pr : Pred) (d : Q) (a : Q)
  /-- Clear a predicate. (R256) -/
  | pclr (c : Nat) (pr : Pred) (d : Q)
  /-- Set a predicate. (R256) -/
  | pset (c : Nat) (pr : Pred) (d : Q)
  /-- Select one of two registers by a predicate. (R256) -/
  | sel (c : Nat) (sl : Slot) (pr : Pred) (d : D) (f : Q) (a : D) (b : D)
  /-- Load a word from data memory. (R263) -/
  | ldW (c : Nat) (pr : Pred) (post : Bool) (d : D) (b : P) (off : BitVec 12) (ecc : Ecc)
  /-- Store a word to data memory. (R263) -/
  | stW (c : Nat) (pr : Pred) (post : Bool) (d : D) (b : P) (off : BitVec 12) (ecc : Ecc)
  /-- Load a sign-extended halfword. (R263) -/
  | ldH (c : Nat) (pr : Pred) (post : Bool) (d : D) (b : P) (off : BitVec 12) (ecc : Ecc)
  /-- Store a halfword. (R263) -/
  | stH (c : Nat) (pr : Pred) (post : Bool) (d : D) (b : P) (off : BitVec 12) (ecc : Ecc)
  /-- Read a bus sample of EF e, e − 1 or e − 2 through a cursor. (R265) -/
  | busLd (c : Nat) (pr : Pred) (d : D) (b : P) (mode : Q) (rel : Fin 3)
  /-- Write a bus sample of EF e through a cursor. (R265) -/
  | busSt (c : Nat) (pr : Pred) (d : D) (b : P) (mode : Q)
  /-- Issue a delay-line read of one EF into scratch. (R266) -/
  | dlyRd (c : Nat) (pr : Pred) (b : P) (line n : D)
  /-- Issue a delay-line write of one EF from data memory. (R266) -/
  | dlyWr (c : Nat) (pr : Pred) (b : P) (line : D)
  /-- Wait until the core's delay transfers complete. (R266) -/
  | dlyWait (c : Nat) (pr : Pred)
  /-- Read a table word. (R268) -/
  | tblLd (c : Nat) (pr : Pred) (d a : D)
  /-- Write or stage a control-block write and set a status predicate. (R269) -/
  | ctlWr (c : Nat) (pr : Pred) (f : Q) (a v : D)
  /-- Stage a message for a host message queue. (R272) -/
  | msgPush (c : Nat) (pr : Pred) (f : Q) (b : P) (h : D) (words : Fin 1024)
  /-- Branch forward within the program. (R273) -/
  | br (c : Nat) (pr : Pred) (off : BitVec 13)
  /-- End the program for this computation. (R275) -/
  | endEf (c : Nat) (pr : Pred)
  /-- q31 × q31 multiply, rounded and saturated. (R258) -/
  | mulQ31 (c : Nat) (pr : Pred) (d : D) (a : D) (b : D)
  /-- q31 sample × q30 gain multiply. (R258) -/
  | mulQ30 (c : Nat) (pr : Pred) (d : D) (a : D) (b : D)
  /-- Low 32 bits of an integer product. (R258) -/
  | mulI (c : Nat) (pr : Pred) (d : D) (a : D) (b : D)
  /-- High 32 bits of a signed product. (R258) -/
  | mulhI (c : Nat) (pr : Pred) (d : D) (a : D) (b : D)
  /-- q31 product into an accumulator. (R259) -/
  | mpyQ31 (c : Nat) (pr : Pred) (d : Q) (a : D) (b : D)
  /-- Accumulate a q31 product. (R259) -/
  | macQ31 (c : Nat) (pr : Pred) (d : Q) (a : D) (b : D)
  /-- Subtract a q31 product. (R259) -/
  | msuQ31 (c : Nat) (pr : Pred) (d : Q) (a : D) (b : D)
  /-- q31 × q30 product into an accumulator. (R259) -/
  | mpyQ30 (c : Nat) (pr : Pred) (d : Q) (a : D) (b : D)
  /-- Accumulate a q31 × q30 product. (R259) -/
  | macQ30 (c : Nat) (pr : Pred) (d : Q) (a : D) (b : D)
  /-- Subtract a q31 × q30 product. (R259) -/
  | msuQ30 (c : Nat) (pr : Pred) (d : Q) (a : D) (b : D)
  /-- Clear an accumulator. (R260) -/
  | accClr (c : Nat) (pr : Pred) (d : Q)
  /-- Load a q31 value into an accumulator. (R260) -/
  | accLdQ31 (c : Nat) (pr : Pred) (d : Q) (a : D)
  /-- Load a 64-bit value into an accumulator. (R260) -/
  | accLdw (c : Nat) (pr : Pred) (d : Q) (a : D) (b : D)
  /-- Add one accumulator to another. (R260) -/
  | accAdd (c : Nat) (pr : Pred) (d : Q) (a : Q)
  /-- Subtract one accumulator from another. (R260) -/
  | accSub (c : Nat) (pr : Pred) (d : Q) (a : Q)
  /-- Round an accumulator right by n bits. (R260) -/
  | accShr (c : Nat) (pr : Pred) (d : Q) (n : Fin 32)
  /-- Read an accumulator as saturated q31. (R260) -/
  | accRdQ31 (c : Nat) (pr : Pred) (d : D) (a : Q) (n : Fin 8)
  /-- Read accumulator bits [63:32]. (R260) -/
  | accRdHi (c : Nat) (pr : Pred) (d : D) (a : Q)
  /-- Read accumulator bits [31:0]. (R260) -/
  | accRdLo (c : Nat) (pr : Pred) (d : D) (a : Q)
  /-- Saturating q31 add. (R257) -/
  | addS (c : Nat) (pr : Pred) (d : D) (a : D) (b : D)
  /-- Saturating q31 subtract. (R257) -/
  | subS (c : Nat) (pr : Pred) (d : D) (a : D) (b : D)
  /-- Saturating negate. (R257) -/
  | negS (c : Nat) (pr : Pred) (d : D) (a : D)
  /-- Saturating absolute value. (R257) -/
  | absS (c : Nat) (pr : Pred) (d : D) (a : D)
  /-- Saturating left shift by immediate. (R257) -/
  | shlS (c : Nat) (pr : Pred) (d : D) (a : D) (n : Fin 32)
  /-- Two saturating q15 adds. (R261) -/
  | add2S (c : Nat) (pr : Pred) (d : D) (a : D) (b : D)
  /-- Two saturating q15 subtracts. (R261) -/
  | sub2S (c : Nat) (pr : Pred) (d : D) (a : D) (b : D)
  /-- Two q15 multiplies. (R261) -/
  | mul2Q15 (c : Nat) (pr : Pred) (d : D) (a : D) (b : D)
  /-- Two signed q15 maxima. (R261) -/
  | max2 (c : Nat) (pr : Pred) (d : D) (a : D) (b : D)
  /-- Two signed q15 minima. (R261) -/
  | min2 (c : Nat) (pr : Pred) (d : D) (a : D) (b : D)
  /-- Two saturating q15 absolute values. (R261) -/
  | abs2S (c : Nat) (pr : Pred) (d : D) (a : D)
  /-- Pack the high halves of two registers. (R261) -/
  | packHh (c : Nat) (pr : Pred) (d : D) (a : D) (b : D)
  /-- Unpack the high q15 half to q31. (R261) -/
  | unpkHi (c : Nat) (pr : Pred) (d : D) (a : D)
  /-- Unpack the low q15 half to q31. (R261) -/
  | unpkLo (c : Nat) (pr : Pred) (d : D) (a : D)
  /-- Sine of a 32-bit phase. (R262) -/
  | sinQ31 (c : Nat) (pr : Pred) (d : D) (a : D)
  /-- Cosine of a 32-bit phase. (R262) -/
  | cosQ31 (c : Nat) (pr : Pred) (d : D) (a : D)
  /-- Start a zero-overhead loop with an immediate count. (R274) -/
  | loopI (c : Nat) (n : Fin 2) (count : Fin 4096) (body : Fin 256)
  /-- Start a zero-overhead loop with a register count. (R274) -/
  | loopR (c : Nat) (n : Fin 2) (a : D) (top : Fin 4096) (body : Fin 256)
  /-- BEGIN discards the image buffer and starts receiving. (R287) -/
  | imgBegin (m : Master) (priv : Bool)
  /-- An IMG_DATA write appends one image word. (R288) -/
  | imgDataWrite (w : Word) (m : Master) (priv : Bool)
  /-- CHECK checks the buffered image without installing it. (R287) -/
  | imgCheck (m : Master) (priv : Bool)
  /-- INSTALL checks and installs the buffered image. (R287) -/
  | imgInstall (m : Master) (priv : Bool)
  /-- The loader's checks end in refusal, checked, installed or a live commit. (R291) -/
  | imageCheckComplete
  /-- No class 6 or 7 lay is active, so a held live install goes on. (R294) -/
  | installHoldRelease
  /-- After PERIOD committed EFs the meter registers update. (R318) -/
  | meterPeriodClose
  /-- A mix range write acts at the next mix start, clamped. (R308) -/
  | xptCfgWrite (ws : List BusWrite)
  /-- A master's target or ramp write lands in working state and every version. (R201) -/
  | crosspointWrite (n : Nat) (w : Fin 4) (ws : List BusWrite)
  /-- A master access to the delay-memory aperture reaches the selected bank, or reads zero while running. (R316) -/
  | dlyApertureAccess (off : Fin 0x800000) (m : Master) (priv : Bool) (w : Option Word)
  /-- A TDM frame moves one sample of each slot in each direction. (R326) -/
  | tdmFrame (n : Nat) (din : List Word) (bad : Bool) (dt : Nat)
  /-- No FS for two frames or no BCLK for 1 µs sets NO_CLOCK. (R329) -/
  | tdmNoClock (n : Nat)
  /-- A 1 s gate ends and the port's rate class is reported. (R330) -/
  | tdmRateGate (n mHz : Nat)
  /-- A port's fade ends and it becomes Silent. (R332) -/
  | tdmFadeComplete (n dt : Nat)
  /-- After two clean EFs a Silent port starts Ramping. (R332) -/
  | tdmRampStart (n : Nat)
  /-- A ramp ends and the port is Full. (R332) -/
  | tdmRampComplete (n dt : Nat)
  /-- A PORT_CFG write acts at the next frame start and silences the port. (R333) -/
  | tdmPortCfgWrite (n : Nat) (ws : List BusWrite)
  /-- MUTE starts or ends a port fade. (R331) -/
  | tdmMute (n : Nat) (on : Bool) (m : Master) (priv : Bool)
  /-- LOOP sets the port's loopback mode. (R336) -/
  | tdmLoop (n : Nat) (mode : Fin 4) (m : Master) (priv : Bool)
  /-- A slot map write acts at the port's next frame start. (R334) -/
  | tdmMapWrite (n : Nat) (output : Bool) (k : Fin 32) (ws : List BusWrite)
  /-- A line entry write is checked and the line is accepted or refused. (R353) -/
  | lineEntryWrite (n : Nat) (w : Fin 16) (ws : List BusWrite)
  /-- A changeover fade or ramp ends and the next step follows. (R357) -/
  | changeoverStep (n dt : Nat)
  /-- NO_SENSE with reason 0x1 lasts NOSENSE_S and SUPERVISION sets. (R356) -/
  | supervisionLoss (n : Nat)
  /-- Indeterminate verdicts last UNPROVEN_M minutes and the line becomes UNPROVEN. (R356) -/
  | unproven (n : Nat)
  /-- CLEAR restores a retired line or ends a retry sequence. (R359) -/
  | proofCmdClear (line : Fin 256) (all : Bool) (m : Master) (priv : Bool)
  /-- RETIRE makes a line's fault permanent now. (R359) -/
  | proofCmdRetire (line : Fin 256) (all : Bool) (m : Master) (priv : Bool)
  /-- COMMISSION starts a baseline measurement. (R351) -/
  | proofCmdCommission (line : Fin 256) (all : Bool) (m : Master) (priv : Bool)
  /-- A sweep not finished within 10 min fails commissioning. (R351) -/
  | commissionTimeout (n : Nat)
  /-- RUN starts a nightly run, or is refused. (R361) -/
  | proofCmdRun (m : Master) (priv : Bool)
  /-- ABORT_RUN ends the run with unfinished lines ABORTED. (R370) -/
  | proofCmdAbortRun (m : Master) (priv : Bool)
  /-- PATH_CLEAR clears PATH_FAULT. (R369) -/
  | proofCmdPathClear (m : Master) (priv : Bool)
  /-- No yielding lay has been active for RESUME_S and the sweep and path proof begin. (R362) -/
  | proofRunBegin
  /-- WINDOW_MIN passes and unfinished lines get ABORTED. (R365) -/
  | runDeadline
  /-- Every 1 ms during path proof a path frame, and finally an END frame, is sent. (R367) -/
  | pathFrameSend (group dt : Nat)
  /-- 5 s after a sender's last frame without an END, its results are set. (R369) -/
  | pathResultTimeout (k : Nat)
  /-- A splice lane reaches block lock and the link comes up. (R376) -/
  | spliceBlockLock (p : Splice)
  /-- 64 invalid sync headers or loss of signal take a splice link down. (R376) -/
  | spliceLinkDown (p : Splice)
  /-- A splice frame is checked and its audio, time and control are taken. (R377) -/
  | spliceFrameRx (dt : Nat) (p : Splice) (f : SpliceFrame)
  /-- A member steps its time, takes the EF number and moves its chain onto the master. (R385) -/
  | spliceAlign
  /-- Two EFs without a valid SYNC lose the SPLICE reference. (R383) -/
  | spliceRefLoss (dt : Nat)
  /-- 50 ms without a valid upstream frame makes the module acting master. (R388) -/
  | spliceSuccession (dt : Nat)
  /-- YIELD makes the acting master yield to the strapped master. (R389) -/
  | spliceYield (m : Master) (priv : Bool)
  /-- 10 s of valid strapped-master frames with REVERT make the acting master yield. (R389) -/
  | spliceRevert (dt : Nat)
  /-- RETRAIN_UP retrains port UP. (R393) -/
  | spliceRetrainUp (m : Master) (priv : Bool)
  /-- RETRAIN_DN retrains port DN. (R393) -/
  | spliceRetrainDn (m : Master) (priv : Bool)
  /-- MODE is accepted only in STAGING. (R393) -/
  | spliceCfgWrite (ws : List BusWrite)
  /-- RD forwards a register read to a member. (R391) -/
  | fwdRead (m : Master) (priv : Bool)
  /-- WR forwards a register write to a member. (R391) -/
  | fwdWrite (m : Master) (priv : Bool)
  /-- A forwarded access completes or times out after 1 ms. (R391) -/
  | fwdComplete (dt : Nat)
  /-- An SPI read frame fetches its words and returns them with status. (R401) -/
  | spiReadFrame (dt adr count rx : Nat) (quad crc incr : Bool)
  /-- An SPI write frame lands its words and returns status. (R401) -/
  | spiWriteFrame (dt adr count : Nat) (rx : Option Nat) (quad crc incr : Bool) (words : List Word)
  /-- FRAME_DB.TX scans the host transmit ring and sends owned descriptors. (R411) -/
  | frameDbTx (m : Master) (priv : Bool)
  /-- The PCIe data link comes up or goes down. (R412) -/
  | pcieLinkChange (speed : Nat)
  /-- PCIE_PERST_N low for 100 µs resets the PCIe endpoint only. (R548) -/
  | pciePerst
  /-- An EOI write re-arms MSI-X vectors. (R438) -/
  | msixEoi (f1 : Bool) (vecs : BitVec 16) (m : Master) (priv : Bool)
  /-- A write to a register without its own row lands under the access rules. (R417) -/
  | registerWrite (adr : Nat) (ws : List BusWrite)
  /-- A posted write drains from its FIFO and lands. (R414) -/
  | postedWriteLand (domain : Fin 5)
  /-- A read from a slow domain completes after earlier posted writes. (R416) -/
  | slowDomainRead (adr : Nat) (m : Master) (priv : Bool)
  /-- OPEN establishes a session and its key. (R429) -/
  | scpOpen (dt src sel : Nat) (nc : List Nat) (m : ScpMsg)
  /-- CLOSE ends a session. (R431) -/
  | scpClose (dt : Nat) (m : ScpMsg)
  /-- KEEPALIVE keeps a session open. (R431) -/
  | scpKeepalive (dt : Nat) (m : ScpMsg)
  /-- READ returns register words. (R431) -/
  | scpRead (dt : Nat) (m : ScpMsg) (addrs : List Nat)
  /-- WRITE writes address and value pairs, subject to ownership. (R431) -/
  | scpWrite (dt : Nat) (m : ScpMsg) (pairs : List (Nat × Word))
  /-- OBJ_SET writes words of an object's entry. (R431) -/
  | scpObjSet (dt : Nat) (m : ScpMsg) (off : Nat) (vals : List Word)
  /-- OBJ_GET returns words of an object's entry. (R431) -/
  | scpObjGet (dt : Nat) (m : ScpMsg) (off count : Nat)
  /-- CLAIM takes ownership of an object. (R434) -/
  | scpClaim (dt : Nat) (m : ScpMsg)
  /-- RELEASE gives up ownership or a hold. (R434) -/
  | scpRelease (dt : Nat) (m : ScpMsg)
  /-- SUBSCRIBE sets the session's log report level. (R475) -/
  | scpSubscribe (dt : Nat) (m : ScpMsg) (level : Nat)
  /-- LOG_GET returns held log records. (R475) -/
  | scpLogGet (dt : Nat) (m : ScpMsg) (first count : Nat)
  /-- 60 s without a valid message closes a session. (R429) -/
  | scpSessionTimeout (dt session : Nat)
  /-- At the start of the first computation of an EF queued commands are resolved and applied. (R433) -/
  | scpApplyAt (ef : Nat)
  /-- HOLD_S after the last class 7 command the hold ends and the owner returns. (R435) -/
  | scpHoldExpiry (dt kind n : Nat)
  /-- Every 100 ms Yunasel sends gathered records in a REPORT. (R475) -/
  | scpReport (dt session : Nat)
  /-- A message header is written and the message is admitted or refused. (R445) -/
  | hmqMessageOffer (q n : Nat)
  /-- A message's last word is written, MSGS increments and NOTICE sets. (R449) -/
  | hmqMessageComplete (q : Nat)
  /-- A read of RD_DATA pops the next word, or underruns. (R446) -/
  | hmqRdData (q : Fin 4) (m : Master) (priv : Bool)
  /-- FLUSH empties the queue. (R451) -/
  | hmqFlush (q : Fin 4) (m : Master) (priv : Bool)
  /-- A pointer copy mismatch resets the queue. (R450) -/
  | hmqPointerMismatch (q : Nat)
  /-- At every whole TAI second the MP evaluates scheduler entries. (R468) -/
  | schedulerTick (dt : Nat)
  /-- 60 s after a refused action, the action is retried. (R468) -/
  | schedulerRetry (n dt : Nat)
  /-- A staged record is written to MRAM. (R472) -/
  | logRecordWrite
  /-- A LOG_IDX write selects the record that LOG_DATA shows to the master. (R473) -/
  | logIdxWrite (seq : Word) (m : Master) (priv : Bool)
  /-- Every 60 s the lifetime counters are written to alternate copies. (R477) -/
  | lifetimeCounterWrite
  /-- Every second Yunasel reads MSTAT into 64-bit totals. (R479) -/
  | mstatTotals
  /-- SAVE snapshots the configuration and starts a save. (R483) -/
  | cfgSave (m : Master) (priv : Bool)
  /-- A save's read-back passes or fails. (R483) -/
  | cfgSaveComplete (ok : Bool)
  /-- COMMIT installs the staged installer key. (R489) -/
  | keyCommit (m : Master) (priv : Bool)
  /-- BEGIN starts receiving firmware into the bank not running. (R492) -/
  | fwBegin (m : Master) (priv : Bool)
  /-- An FW_DATA write appends one firmware word. (R492) -/
  | fwDataWrite (w : Word) (m : Master) (priv : Bool)
  /-- VERIFY starts checking the received firmware. (R492) -/
  | fwVerify (m : Master) (priv : Bool)
  /-- Verification ends in verified or refused. (R492) -/
  | fwVerifyComplete (sigOk : Bool)
  /-- ACTIVATE sets the verified image pending. (R493) -/
  | fwActivate (m : Master) (priv : Bool)
  /-- When WHEN allows and no class 6 or 7 service runs, the module restarts into a trial. (R493) -/
  | fwRestart
  /-- CONFIRM confirms the running trial. (R494) -/
  | fwConfirm (m : Master) (priv : Bool)
  /-- ABORT_TRIAL ends the trial and rolls back. (R494) -/
  | fwAbortTrial (m : Master) (priv : Bool)
  /-- After 300 s in READY or RUN Yunasel confirms the trial. (R494) -/
  | fwAutoConfirm
  /-- TRIAL_LEFT reaches 0 and the trial rolls back. (R494) -/
  | fwTrialExpiry (dt : Nat)
  /-- START queues the named test blocks. (R534) -/
  | testStartCmd (mask : Word) (m : Master) (priv : Bool)
  /-- CLEAR clears a retirement and queues the block's test. (R532) -/
  | testClear (mask : Word) (m : Master) (priv : Bool)
  /-- STOP aborts the running test and empties the queue. (R534) -/
  | testStop (m : Master) (priv : Bool)
  /-- The next queued test the state allows starts and isolates its block. (R523) -/
  | testRunStart
  /-- A test ends PASS, FAIL or ABORTED and writes its result. (R520) -/
  | testEnd (cycles sig : Nat) (good memory : Bool) (bad short : Nat)
  /-- The tested block is re-initialised and usable if its result allows. (R522) -/
  | testReinitComplete (dt : Nat)
  /-- 60 s without a class 6 or 7 request lets an aborted test start again. (R526) -/
  | testRequeueQuiet
  /-- After 2, 20 or 200 s a soft-faulted block is tested again. (R530) -/
  | softRetry (b : Nat)
  /-- 600 s without an uncorrectable delay error clears FAULT.DLY. (R531) -/
  | dlyFaultClear
  /-- A port with EEE permitted enters low-power idle once its link has been idle long enough, and LPI sets. (R32) -/
  | lpiEntry (p : Port) (dt : Nat)
  /-- WIDTH after a time pulse edge the output returns to its inactive level. (R116) -/
  | tpoPulseEnd (n dt : Nat)
  /-- 100 ms after a talker's last packet its SENDING bit clears. (R164) -/
  | talkerSendingTimeout (n dt : Nat)
  /-- At least 25 ms after power loss the holdup store is spent and U0 switches off, leaving the RTC on its capacitor. (R513) -/
  | holdupExhausted (dt : Nat)
  /-- The MP finishes writing both installer-key copies, so BUSY clears, KEY_CHANGED sets and installer-key sessions close. (R489) -/
  | keyCommitComplete
  /-- 1 s after start-up tests end under factory defaults, TEST.FAULT.CFG clears and FAULT_N may release. (R533) -/
  | cfgDefaultFaultPulseEnd
  /-- A PD input that is not supplying the module loses its PSE power, so its GRANT reads 0xF and its POE_EVENTS counter counts a power removal. (R476) -/
  | pdPowerRemoval (p : Port)
  /-- A read of LIFE_LOk, or of an MSTAT total's low word, latches the high word for the reading master. (R478) -/
  | lifetimeCounterLowRead (adr : Nat) (m : Master) (priv : Bool)
  deriving DecidableEq, Repr

end Sys2Proof
end

