-- ==== Sys2Proof/Decode.lean ====
section
/-! DEFINITION. The command a word spells: the block's table gives its rows no bits, so a word spells none. -/

namespace Sys2Proof

/-- The command that the low `nbits` bits of `w` spell. No row of spec/opcode_table.json gives bits: the commands of this
block are events and register accesses, not instruction words. (DESIGN CHOICE, notes/assumptions/55.md.) -/
def decodeTableWord (_nbits _w : Nat) : Option Instr := none

end Sys2Proof
end

