-- ==== Sys2Proof/Config.lean ====
section
/-! DEFINITION. What the spec leaves open: constants with no body, which no proof can evaluate. -/

namespace Sys2Proof

/-- The words written in manufacture (R558 "Factory"), by register address (notes/assumptions/2.md). -/
opaque Config.factory : Nat → BitVec 32

/-- The free values of the model (notes/assumptions/1.md): whatever the spec leaves undefined while the machine goes
on takes the next of these. -/
opaque Config.freeValue : Nat → BitVec 64

/-- The gain, q30, of a falling raised cosine after an elapsed part of a whole (R332, R197): the spec gives the curve and
leaves its rounding open (notes/assumptions/4.md). -/
opaque Config.raisedCos : Nat → Nat → BitVec 32

/-- The gain, q30, of a linear crossfade towards its new samples after an elapsed part of a whole (R169): the spec gives the line
and leaves its end points and rounding open (notes/assumptions/4.md). -/
opaque Config.crossGain : Nat → Nat → BitVec 32

/-- The error, below 33, of a core's sine (false) or cosine (true) of a phase, counted from 16 LSB below the exact value
(R262): the spec gives a bound of 16 LSB and no value (notes/assumptions/1.md). -/
opaque Config.trigErr : Bool → BitVec 32 → Nat

/-- Codes that a log record carries and whose encoding the spec leaves open (R471): which of changeover (0) and restore (1), the
wear counter (2), and the reasons of a rollback (3 and up) (notes/assumptions/1.md). -/
opaque Config.openCode : Nat → BitVec 32

end Sys2Proof
end

