-- ==== Sys2Proof/Machine/RegMap.lean ====
section
/-! DEFINITION. The register map: the address of every architectural register and table word (spec chapter 20,
R557 to R576), every field of the spec's field tables, and for each register the bits of each access type and the
reset value. One `Row` is one register of the map (an array row covers all its elements). -/

namespace Sys2Proof.Machine

/-- One register of the map (R558): the address of its first element, up to two array dimensions, the bits of each
access code of R9, and its reset value. `prv` holds the bits marked PRV, `rsv` the reserved bits that R421 says to
write back as read, `rc` the bits of a clear-on-read count, `fac` the bits written in manufacture. -/
structure Row where
  adr : Nat
  s1 : Nat
  c1 : Nat
  s2 : Nat
  c2 : Nat
  rw : Nat
  w1c : Nat
  sc : Nat
  wo : Nat
  rwp : Nat
  prv : Nat
  rsv : Nat
  rc : Nat
  fac : Nat
  reset : Nat
  deriving DecidableEq, Repr

/-- A field of a register: its word's address and its bit range. -/
structure Fld where
  adr : Nat
  hi : Nat
  lo : Nat
  deriving DecidableEq, Repr

/-! ### Addresses -/

abbrev A.SYS_ID : Nat := 0
abbrev A.SYS_REV : Nat := 4
abbrev A.SYS_SERIAL : Nat := 8
abbrev A.SYS_FEATURES : Nat := 0xc
abbrev A.SYS_STATUS : Nat := 0x10
abbrev A.SYS_MOD_STATE : Nat := 0x14
abbrev A.SYS_MOD_CMD : Nat := 0x18
abbrev A.SYS_MAC_HI : Nat := 0x20
abbrev A.SYS_MAC_LO : Nat := 0x24
abbrev A.SYS_POST_STATUS : Nat := 0x40
abbrev A.SYS_POST_LOST_ADDR : Nat := 0x44
abbrev A.SYS_ACC_STATUS : Nat := 0x48
abbrev A.SYS_ACC_ADDR : Nat := 0x4c
abbrev A.SYS_CONTEND : Nat := 0x50
abbrev A.SYS_EVT : Nat := 0x58
abbrev A.SYS_EVT_EN : Nat := 0x5c
abbrev A.SYS_IRQ_STATUS : Nat := 0x60
abbrev A.SYS_IRQ_EN_MP : Nat := 0x64
abbrev A.SYS_IRQ_EN_PIN : Nat := 0x68
abbrev A.SYS_IRQ_EN_F0 : Nat := 0x6c
abbrev A.SYS_IRQ_EN_F1 : Nat := 0x70
abbrev A.SYS_MSIX_ROUTE_F0 (n : Nat) : Nat := 0x80 + 4 * n
abbrev A.SYS_MSIX_ROUTE_F0_2 : Nat := 0x88
abbrev A.SYS_MSIX_ROUTE_F1 (n : Nat) : Nat := 0x90 + 4 * n
abbrev A.SYS_MSIX_ROUTE_F1_2 : Nat := 0x98
abbrev A.SYS_MSIX_EOI (n : Nat) : Nat := 0xa0 + 4 * n
abbrev A.SYS_SPI_CFG : Nat := 0xc0
abbrev A.SYS_PCIE_CFG : Nat := 0x100
abbrev A.SYS_PCIE_STATUS : Nat := 0x104
abbrev A.SYS_PCIE_EVT : Nat := 0x108
abbrev A.SYS_PCIE_EVT_EN : Nat := 0x10c
abbrev A.SYS_FRAME_DB : Nat := 0x110
abbrev A.SYS_CNT_RX_MISS : Nat := 0x180
abbrev A.SYS_CNT_FRAME_TX : Nat := 0x184
abbrev A.SYS_CNT_FRAME_RX : Nat := 0x188
abbrev A.SYS_CNT_FRAME_RX_DROP : Nat := 0x18c
abbrev A.SYS_CNT_SPI_CRC_ERR : Nat := 0x190
abbrev A.SYS_CNT_SPI_REFUSED : Nat := 0x194
abbrev A.SYS_CNT_CONTENDS : Nat := 0x198
abbrev A.SYS_CNT_SAT : Nat := 0x19c
abbrev A.PWR_CFG : Nat := 0x10000
abbrev A.PWR_UNIT_EN : Nat := 0x10004
abbrev A.PWR_STATUS : Nat := 0x10008
abbrev A.PWR_UNIT_STATUS : Nat := 0x1000c
abbrev A.PWR_CTL : Nat := 0x10010
abbrev A.PWR_EVT : Nat := 0x10014
abbrev A.PWR_EVT_EN : Nat := 0x10018
abbrev A.RING_PORT_CFG (n : Nat) : Nat := 0x20000 + 4 * n
abbrev A.RING_PORT_STATUS (n : Nat) : Nat := 0x20010 + 4 * n
abbrev A.RING_EVT : Nat := 0x20020
abbrev A.RING_EVT_EN : Nat := 0x20024
abbrev A.RING_BYPASS_JOIN : Nat := 0x20030
abbrev A.RING_BYPASS_CTL : Nat := 0x20034
abbrev A.RING_BYPASS_STATUS : Nat := 0x20038
abbrev A.RING_CBS (n : Nat) : Nat := 0x20040 + 4 * n
abbrev A.RING_QBV_CTL (n : Nat) : Nat := 0x20050 + 4 * n
abbrev A.RING_QBV_PHASE (n : Nat) : Nat := 0x20058 + 4 * n
abbrev A.RING_FRER_CFG : Nat := 0x20060
abbrev A.RING_PAUSE_WM : Nat := 0x20064
abbrev A.RING_FLAP (n : Nat) : Nat := 0x20070 + 4 * n
abbrev A.RING_PVID_C : Nat := 0x20080
abbrev A.RING_PHY_ADDR (n : Nat) : Nat := 0x20090 + 8 * n
abbrev A.RING_PHY_DATA (n : Nat) : Nat := 0x20094 + 8 * n
abbrev A.RING_VLAN (n : Nat) : Nat := 0x20400 + 4 * n
abbrev A.RING_GATE (n : Nat) : Nat := 0x20800 + 4 * n
abbrev A.MSTAT_RX_FRAMES (n : Nat) : Nat := 0x30000 + 0x100 * n
abbrev A.MSTAT_RX_BLK64 (n : Nat) : Nat := 0x30004 + 0x100 * n
abbrev A.MSTAT_RX_FCS_ERR (n : Nat) : Nat := 0x30008 + 0x100 * n
abbrev A.MSTAT_RX_RUNT (n : Nat) : Nat := 0x3000c + 0x100 * n
abbrev A.MSTAT_RX_OVERSIZE (n : Nat) : Nat := 0x30010 + 0x100 * n
abbrev A.MSTAT_RX_VLAN_DROP (n : Nat) : Nat := 0x30014 + 0x100 * n
abbrev A.MSTAT_RX_POOL_DROP (n : Nat) : Nat := 0x30018 + 0x100 * n
abbrev A.MSTAT_RX_PAUSE (n : Nat) : Nat := 0x3001c + 0x100 * n
abbrev A.MSTAT_RX_PFC (n : Nat) : Nat := 0x30020 + 0x100 * n
abbrev A.MSTAT_TX_FRAMES (n : Nat) : Nat := 0x30024 + 0x100 * n
abbrev A.MSTAT_TX_BLK64 (n : Nat) : Nat := 0x30028 + 0x100 * n
abbrev A.MSTAT_TX_TRUNC (n : Nat) : Nat := 0x3002c + 0x100 * n
abbrev A.MSTAT_TX_PAUSE (n : Nat) : Nat := 0x30030 + 0x100 * n
abbrev A.MSTAT_QBV_HOLD (n : Nat) : Nat := 0x30034 + 0x100 * n
abbrev A.MSTAT_FRER_DUP (n : Nat) : Nat := 0x30038 + 0x100 * n
abbrev A.MSTAT_FRER_ROGUE (n : Nat) : Nat := 0x3003c + 0x100 * n
abbrev A.MSTAT_RING_STRIP (n : Nat) : Nat := 0x30040 + 0x100 * n
abbrev A.MSTAT_HOP_EXPIRED (n : Nat) : Nat := 0x30044 + 0x100 * n
abbrev A.MSTAT_LINK_DOWN (n : Nat) : Nat := 0x30048 + 0x100 * n
abbrev A.MSTAT_FRER_OOO : Nat := 0x30300
abbrev A.MSTAT_FRER_LOST : Nat := 0x30304
abbrev A.MSTAT_FRER_RESET : Nat := 0x30308
abbrev A.MSTAT_SAT (n : Nat) : Nat := 0x30400 + 4 * n
abbrev A.MSTAT_SAT_REC : Nat := 0x3040c
abbrev A.MSTAT_SAT_SUM : Nat := 0x30410
abbrev A.TIME_TB_NS : Nat := 0x40000
abbrev A.TIME_TB_SEC_LO : Nat := 0x40004
abbrev A.TIME_TB_SEC_HI : Nat := 0x40008
abbrev A.TIME_TB_FRAC : Nat := 0x4000c
abbrev A.TIME_TB_CTL : Nat := 0x40010
abbrev A.TIME_TB_SET_NS : Nat := 0x40014
abbrev A.TIME_TB_SET_SEC_LO : Nat := 0x40018
abbrev A.TIME_TB_SET_SEC_HI : Nat := 0x4001c
abbrev A.TIME_TB_ADJ : Nat := 0x40020
abbrev A.TIME_SLEW_REMAIN : Nat := 0x40024
abbrev A.TIME_LAST_STEP : Nat := 0x40028
abbrev A.TIME_PTP_CFG : Nat := 0x40030
abbrev A.TIME_PTP_INTV : Nat := 0x40034
abbrev A.TIME_PTP_PRIO : Nat := 0x40038
abbrev A.TIME_MON_OFFSET : Nat := 0x4003c
abbrev A.TIME_OFFSET : Nat := 0x40040
abbrev A.TIME_ASYM (n : Nat) : Nat := 0x40044 + 4 * n
abbrev A.TIME_PSTAT (n : Nat) : Nat := 0x40050 + 4 * n
abbrev A.TIME_TWIN_CFG : Nat := 0x40060
abbrev A.TIME_TWIN_STATUS : Nat := 0x40064
abbrev A.TIME_TWIN_D : Nat := 0x40068
abbrev A.TIME_EVT : Nat := 0x40070
abbrev A.TIME_EVT_EN : Nat := 0x40074
abbrev A.TIME_TPO_STATUS : Nat := 0x40080
abbrev A.TIME_TPI_CTL : Nat := 0x40084
abbrev A.TIME_TPO_CTL (n : Nat) : Nat := 0x40100 + 0x20 * n
abbrev A.TIME_TPO_START_NS (n : Nat) : Nat := 0x40104 + 0x20 * n
abbrev A.TIME_TPO_START_SEC_LO (n : Nat) : Nat := 0x40108 + 0x20 * n
abbrev A.TIME_TPO_START_SEC_HI (n : Nat) : Nat := 0x4010c + 0x20 * n
abbrev A.TIME_TPO_PERIOD (n : Nat) : Nat := 0x40110 + 0x20 * n
abbrev A.TIME_TPO_MISALIGN (n : Nat) : Nat := 0x40114 + 0x20 * n
abbrev A.TIME_CAPQ_NS : Nat := 0x40200
abbrev A.TIME_CAPQ_SEC_LO : Nat := 0x40204
abbrev A.TIME_CAPQ_SEC_HI : Nat := 0x40208
abbrev A.TIME_CAPQ_INFO : Nat := 0x4020c
abbrev A.TIME_CAPQ_STATUS : Nat := 0x40210
abbrev A.TIME_CNT_TS_HOLD : Nat := 0x40800
abbrev A.TIME_CNT_TX_NO_TS : Nat := 0x40804
abbrev A.TIME_CNT_V6_NO_TRAILER : Nat := 0x40808
abbrev A.TIME_CNT_FU_ORPHAN : Nat := 0x4080c
abbrev A.TIME_CNT_PTP_LOOP_DROP : Nat := 0x40810
abbrev A.TIME_CNT_CAPQ_DROP : Nat := 0x40814
abbrev A.TIME_CNT_TPI_MERGE : Nat := 0x40818
abbrev A.TIME_CNT_STEPS : Nat := 0x4081c
abbrev A.TIME_SAT : Nat := 0x4083c
abbrev A.CLK_REF_CTL : Nat := 0x50000
abbrev A.CLK_REF_RANK : Nat := 0x50004
abbrev A.CLK_REF_STATUS : Nat := 0x50008
abbrev A.CLK_FCW : Nat := 0x5000c
abbrev A.CLK_PHASE_ERR : Nat := 0x50010
abbrev A.CLK_LIMITS : Nat := 0x50014
abbrev A.CLK_VOTE_CFG : Nat := 0x50018
abbrev A.CLK_TOD_CFG : Nat := 0x5001c
abbrev A.CLK_HO_CFG : Nat := 0x50020
abbrev A.CLK_HO_STATUS : Nat := 0x50024
abbrev A.CLK_HIST_SEQ : Nat := 0x50028
abbrev A.CLK_MISALIGN : Nat := 0x5002c
abbrev A.CLK_REALIGN : Nat := 0x50030
abbrev A.CLK_MEDIA_CFG : Nat := 0x50034
abbrev A.CLK_MCLK_CFG : Nat := 0x50038
abbrev A.CLK_WCK_PORTS : Nat := 0x5003c
abbrev A.CLK_EVT : Nat := 0x50040
abbrev A.CLK_EVT_EN : Nat := 0x50044
abbrev A.CLK_REF_INFO (n : Nat) : Nat := 0x50100 + 4 * n
abbrev A.CLK_HIST (n : Nat) : Nat := 0x51000 + 4 * n
abbrev A.STRM_CFG : Nat := 0x60000
abbrev A.STRM_ADJ_TOTAL : Nat := 0x60004
abbrev A.STRM_ADJ_STATUS : Nat := 0x60008
abbrev A.STRM_HOLD_CFG : Nat := 0x6000c
abbrev A.STRM_HOLD_STATUS : Nat := 0x60010
abbrev A.STRM_LAY_ACT_LO : Nat := 0x60014
abbrev A.STRM_LAY_ACT_HI : Nat := 0x60018
abbrev A.STRM_EVT : Nat := 0x6001c
abbrev A.STRM_EVT_EN : Nat := 0x60020
abbrev A.STRM_ADJ_SAMPLES : Nat := 0x67f00
abbrev A.STRM_ADJ_JUMPS : Nat := 0x67f04
abbrev A.STRM_SAT_G : Nat := 0x67f3c
abbrev A.STRM_L_RX_PKTS (n : Nat) : Nat := 0x68000 + 0x40 * n
abbrev A.STRM_L_RX_BAD (n : Nat) : Nat := 0x68004 + 0x40 * n
abbrev A.STRM_L_HDR_MISMATCH (n : Nat) : Nat := 0x68008 + 0x40 * n
abbrev A.STRM_L_LEN_ERR (n : Nat) : Nat := 0x6800c + 0x40 * n
abbrev A.STRM_L_SEQ_LOST (n : Nat) : Nat := 0x68010 + 0x40 * n
abbrev A.STRM_L_SEQ_OOO (n : Nat) : Nat := 0x68014 + 0x40 * n
abbrev A.STRM_L_DUP (n : Nat) : Nat := 0x68018 + 0x40 * n
abbrev A.STRM_L_TS_WILD (n : Nat) : Nat := 0x6801c + 0x40 * n
abbrev A.STRM_L_HELD (n : Nat) : Nat := 0x68020 + 0x40 * n
abbrev A.STRM_L_HOLD_FULL (n : Nat) : Nat := 0x68024 + 0x40 * n
abbrev A.STRM_L_HANDED (n : Nat) : Nat := 0x68028 + 0x40 * n
abbrev A.STRM_L_SSRC_CHG (n : Nat) : Nat := 0x6802c + 0x40 * n
abbrev A.STRM_L_PATH_FILL (n : Nat) : Nat := 0x68030 + 0x40 * n
abbrev A.STRM_L_SAT (n : Nat) : Nat := 0x6803c + 0x40 * n
abbrev A.STRM_T_TX_PKTS (n : Nat) : Nat := 0x6c000 + 0x40 * n
abbrev A.STRM_T_TX_DROP (n : Nat) : Nat := 0x6c004 + 0x40 * n
abbrev A.STRM_T_SAT (n : Nat) : Nat := 0x6c03c + 0x40 * n
abbrev A.PLAY_CFG : Nat := 0x70000
abbrev A.PLAY_STATUS : Nat := 0x70004
abbrev A.PLAY_NOW_EF : Nat := 0x70008
abbrev A.PLAY_CLEAT_EF : Nat := 0x7000c
abbrev A.PLAY_HEAD_EF : Nat := 0x70010
abbrev A.PLAY_RW_COST : Nat := 0x70014
abbrev A.PLAY_HITCH (n : Nat) : Nat := 0x70020 + 4 * n
abbrev A.PLAY_EVT : Nat := 0x70030
abbrev A.PLAY_EVT_EN : Nat := 0x70034
abbrev A.PLAY_REWINDS : Nat := 0x70100
abbrev A.PLAY_RW_EF : Nat := 0x70104
abbrev A.PLAY_RW_RESTART : Nat := 0x70108
abbrev A.PLAY_CNT_HITCH_EVICT : Nat := 0x7010c
abbrev A.PLAY_CNT_COMMIT_STALL : Nat := 0x70110
abbrev A.PLAY_STAGE_DROP : Nat := 0x70114
abbrev A.PLAY_SAT_G : Nat := 0x7013c
abbrev A.PLAY_LAY_REWOUND (n : Nat) : Nat := 0x71000 + 0x40 * n
abbrev A.PLAY_LAY_ABSORBED (n : Nat) : Nat := 0x71004 + 0x40 * n
abbrev A.PLAY_LAY_LATE_AFTER_CLEAT (n : Nat) : Nat := 0x71008 + 0x40 * n
abbrev A.PLAY_LAY_LATE_NO_BUDGET (n : Nat) : Nat := 0x7100c + 0x40 * n
abbrev A.PLAY_LAY_LATE_NO_HITCH (n : Nat) : Nat := 0x71010 + 0x40 * n
abbrev A.PLAY_LAY_CONCEAL_EF (n : Nat) : Nat := 0x71014 + 0x40 * n
abbrev A.PLAY_LAY_FADES (n : Nat) : Nat := 0x71018 + 0x40 * n
abbrev A.PLAY_LAY_SAT (n : Nat) : Nat := 0x7103c + 0x40 * n
abbrev A.ENG_CFG : Nat := 0x80000
abbrev A.ENG_STATUS : Nat := 0x80004
abbrev A.ENG_SPAN : Nat := 0x80008
abbrev A.ENG_SPAN_PEAK : Nat := 0x8000c
abbrev A.ENG_EVT : Nat := 0x80010
abbrev A.ENG_EVT_EN : Nat := 0x80014
abbrev A.ENG_PLACE_EF : Nat := 0x80018
abbrev A.ENG_PLACE_CTL : Nat := 0x8001c
abbrev A.ENG_CORE_CTL (n : Nat) : Nat := 0x80100 + 4 * n
abbrev A.ENG_CORE_STATUS (n : Nat) : Nat := 0x80200 + 4 * n
abbrev A.ENG_CORE_CERT (n : Nat) : Nat := 0x80300 + 4 * n
abbrev A.ENG_CORE_PEAK (n : Nat) : Nat := 0x80400 + 4 * n
abbrev A.ENG_CORE_COMPUTES (n : Nat) : Nat := 0x80800 + 0x20 * n
abbrev A.ENG_CORE_OVERRUNS (n : Nat) : Nat := 0x80804 + 0x20 * n
abbrev A.ENG_CORE_FORCED_HALTS (n : Nat) : Nat := 0x80808 + 0x20 * n
abbrev A.ENG_CORE_ACCESS_TRAPS (n : Nat) : Nat := 0x8080c + 0x20 * n
abbrev A.ENG_CORE_CNT_ECC_CORR (n : Nat) : Nat := 0x80810 + 0x20 * n
abbrev A.ENG_CORE_SAT (n : Nat) : Nat := 0x8081c + 0x20 * n
abbrev A.ENG_REMAPS : Nat := 0x80a00
abbrev A.ENG_PROGS_DROPPED : Nat := 0x80a04
abbrev A.ENG_SAT_G : Nat := 0x80a1c
abbrev A.ENG_DESC_W0 (n : Nat) : Nat := 0x81000 + 0x20 * n
abbrev A.ENG_DESC_W1 (n : Nat) : Nat := 0x81004 + 0x20 * n
abbrev A.ENG_DESC_W2 (n : Nat) : Nat := 0x81008 + 0x20 * n
abbrev A.ENG_DESC_W3 (n : Nat) : Nat := 0x8100c + 0x20 * n
abbrev A.ENG_DESC_W4 (n : Nat) : Nat := 0x81010 + 0x20 * n
abbrev A.ENG_DESC_W5 (n : Nat) : Nat := 0x81014 + 0x20 * n
abbrev A.ENG_DESC_W6 (n : Nat) : Nat := 0x81018 + 0x20 * n
abbrev A.ENG_DESC_W7 (n : Nat) : Nat := 0x8101c + 0x20 * n
abbrev A.ENG_PROG_STATUS (n : Nat) : Nat := 0x81800 + 4 * n
abbrev A.ENG_IMG_CTL : Nat := 0x81c00
abbrev A.ENG_IMG_DATA : Nat := 0x81c04
abbrev A.ENG_IMG_STATUS : Nat := 0x81c08
abbrev A.ENG_IMG_ID : Nat := 0x81c0c
abbrev A.ENG_IMG_APPLY_EF : Nat := 0x81c10
abbrev A.XPT_CFG : Nat := 0x90000
abbrev A.XPT_METER_CFG : Nat := 0x90004
abbrev A.XPT_DLY_BANK : Nat := 0x90008
abbrev A.XPT_EVT : Nat := 0x90010
abbrev A.XPT_EVT_EN : Nat := 0x90014
abbrev A.XPT_CNT_OUT_SAT : Nat := 0x90100
abbrev A.XPT_CNT_LIM_SAMPLES : Nat := 0x90104
abbrev A.XPT_CNT_BAD_ENTRY : Nat := 0x90108
abbrev A.XPT_CNT_SPLIT_RUN : Nat := 0x9010c
abbrev A.XPT_CNT_METER_DROP : Nat := 0x90110
abbrev A.XPT_CNT_DLY_ECC_CORR : Nat := 0x90114
abbrev A.XPT_CNT_DLY_ECC_UNC : Nat := 0x90118
abbrev A.XPT_CNT_SAT : Nat := 0x9011c
abbrev A.XPT_LIM_GAIN (n : Nat) : Nat := 0x91000 + 4 * n
abbrev A.XPT_METER_PEAK (n : Nat) : Nat := 0x92000 + 8 * n
abbrev A.XPT_METER_MS (n : Nat) : Nat := 0x92004 + 8 * n
abbrev A.TDM_PORT_CFG (n : Nat) : Nat := 0xa0000 + 0x100 * n
abbrev A.TDM_CTL (n : Nat) : Nat := 0xa0004 + 0x100 * n
abbrev A.TDM_STATUS (n : Nat) : Nat := 0xa0008 + 0x100 * n
abbrev A.TDM_RATE (n : Nat) : Nat := 0xa000c + 0x100 * n
abbrev A.TDM_PHASE (n : Nat) : Nat := 0xa0010 + 0x100 * n
abbrev A.TDM_EVT : Nat := 0xa0900
abbrev A.TDM_EVT_EN : Nat := 0xa0904
abbrev A.TDM_FADE_CFG : Nat := 0xa0908
abbrev A.TDM_SENSE_OK : Nat := 0xa090c
abbrev A.TDM_BIST_CFG : Nat := 0xa0910
abbrev A.TDM_OUT_MAP (n : Nat) (w : Nat) : Nat := 0xa1000 + 0x100 * n + 4 * w
abbrev A.TDM_IN_MAP (n : Nat) (w : Nat) : Nat := 0xa1080 + 0x100 * n + 4 * w
abbrev A.TDM_FRAME_ERR (n : Nat) : Nat := 0xa2000 + 0x20 * n
abbrev A.TDM_UNDERRUN (n : Nat) : Nat := 0xa2004 + 0x20 * n
abbrev A.TDM_OVERRUN (n : Nat) : Nat := 0xa2008 + 0x20 * n
abbrev A.TDM_LOS (n : Nat) : Nat := 0xa200c + 0x20 * n
abbrev A.TDM_FADES (n : Nat) : Nat := 0xa2010 + 0x20 * n
abbrev A.TDM_SAT (n : Nat) : Nat := 0xa201c + 0x20 * n
abbrev A.PROOF_CFG : Nat := 0xb0000
abbrev A.PROOF_STATUS : Nat := 0xb0004
abbrev A.PROOF_CMD : Nat := 0xb0008
abbrev A.PROOF_RUN_CFG : Nat := 0xb000c
abbrev A.PROOF_RUN_STATUS : Nat := 0xb0010
abbrev A.PROOF_EVT : Nat := 0xb0014
abbrev A.PROOF_EVT_EN : Nat := 0xb0018
abbrev A.PROOF_HV_CFG (n : Nat) : Nat := 0xb0020 + 4 * n
abbrev A.PROOF_CNT_VERDICTS : Nat := 0xb0100
abbrev A.PROOF_CNT_PARTIAL : Nat := 0xb0104
abbrev A.PROOF_CNT_REC_ERR : Nat := 0xb0108
abbrev A.PROOF_CNT_INDET : Nat := 0xb010c
abbrev A.PROOF_CNT_RETRIES : Nat := 0xb0110
abbrev A.PROOF_CNT_RETIREMENTS : Nat := 0xb0114
abbrev A.PROOF_CNT_CHANGEOVERS : Nat := 0xb0118
abbrev A.PROOF_CNT_RESTORES : Nat := 0xb011c
abbrev A.PROOF_CNT_RUN_ABORTS : Nat := 0xb0120
abbrev A.PROOF_CNT_PATH_LOSS : Nat := 0xb0124
abbrev A.PROOF_CNT_SAT : Nat := 0xb013c
abbrev A.PROOF_REC (n : Nat) (w : Nat) : Nat := 0xb4000 + 0x20 * n + 4 * w
abbrev A.SPLICE_CFG : Nat := 0xc0000
abbrev A.SPLICE_STATUS : Nat := 0xc0004
abbrev A.SPLICE_CTL : Nat := 0xc0008
abbrev A.SPLICE_ASYM : Nat := 0xc000c
abbrev A.SPLICE_PORT_STATUS (n : Nat) : Nat := 0xc0010 + 4 * n
abbrev A.SPLICE_FWD_ADDR : Nat := 0xc0018
abbrev A.SPLICE_FWD_DATA : Nat := 0xc001c
abbrev A.SPLICE_FWD_CTL : Nat := 0xc0020
abbrev A.SPLICE_EVT : Nat := 0xc0024
abbrev A.SPLICE_EVT_EN : Nat := 0xc0028
abbrev A.SPLICE_FRAMES_RX (n : Nat) : Nat := 0xc0100 + 0x40 * n
abbrev A.SPLICE_CRC_ERR (n : Nat) : Nat := 0xc0104 + 0x40 * n
abbrev A.SPLICE_FRAME_MISS (n : Nat) : Nat := 0xc0108 + 0x40 * n
abbrev A.SPLICE_PASS_LATE (n : Nat) : Nat := 0xc010c + 0x40 * n
abbrev A.SPLICE_CTRL_DROP (n : Nat) : Nat := 0xc0110 + 0x40 * n
abbrev A.SPLICE_CNT_LINK_DOWN (n : Nat) : Nat := 0xc0114 + 0x40 * n
abbrev A.SPLICE_SAT (n : Nat) : Nat := 0xc013c + 0x40 * n
abbrev A.HMQ_CFG (n : Nat) : Nat := 0xd0000 + 0x100 * n
abbrev A.HMQ_STATUS (n : Nat) : Nat := 0xd0004 + 0x100 * n
abbrev A.HMQ_FREE (n : Nat) : Nat := 0xd0008 + 0x100 * n
abbrev A.HMQ_CUR (n : Nat) : Nat := 0xd000c + 0x100 * n
abbrev A.HMQ_RD_DATA (n : Nat) : Nat := 0xd0010 + 0x100 * n
abbrev A.HMQ_CTL (n : Nat) : Nat := 0xd0014 + 0x100 * n
abbrev A.HMQ_EVT (n : Nat) : Nat := 0xd0018 + 0x100 * n
abbrev A.HMQ_EVT_EN (n : Nat) : Nat := 0xd001c + 0x100 * n
abbrev A.HMQ_CNT_PUSHED (n : Nat) : Nat := 0xd0040 + 0x100 * n
abbrev A.HMQ_CNT_READ (n : Nat) : Nat := 0xd0044 + 0x100 * n
abbrev A.HMQ_CNT_DROPPED (n : Nat) : Nat := 0xd0048 + 0x100 * n
abbrev A.HMQ_CNT_LOST_PTR (n : Nat) : Nat := 0xd004c + 0x100 * n
abbrev A.HMQ_CNT_FLUSHED (n : Nat) : Nat := 0xd0050 + 0x100 * n
abbrev A.HMQ_CNT_UNDERRUNS (n : Nat) : Nat := 0xd0054 + 0x100 * n
abbrev A.HMQ_CNT_SAT (n : Nat) : Nat := 0xd005c + 0x100 * n
abbrev A.MGMT_EVT : Nat := 0xe0000
abbrev A.MGMT_EVT_EN : Nat := 0xe0004
abbrev A.MGMT_RTC_STATUS : Nat := 0xe0010
abbrev A.MGMT_TZ_STD : Nat := 0xe0014
abbrev A.MGMT_TZ_DST (n : Nat) : Nat := 0xe0018 + 4 * n
abbrev A.MGMT_LOCAL : Nat := 0xe0020
abbrev A.MGMT_CFG_CTL : Nat := 0xe0040
abbrev A.MGMT_CFG_STATUS : Nat := 0xe0044
abbrev A.MGMT_CFG_GEN : Nat := 0xe0048
abbrev A.MGMT_KEY_CTL : Nat := 0xe0060
abbrev A.MGMT_KEY_STATUS : Nat := 0xe0064
abbrev A.MGMT_KEY_STAGE (n : Nat) : Nat := 0xe0080 + 4 * n
abbrev A.MGMT_FW_CTL : Nat := 0xe00c0
abbrev A.MGMT_FW_DATA : Nat := 0xe00c4
abbrev A.MGMT_FW_STATUS : Nat := 0xe00c8
abbrev A.MGMT_FW_INFO (n : Nat) : Nat := 0xe00cc + 4 * n
abbrev A.MGMT_ROLLBACK : Nat := 0xe00d4
abbrev A.MGMT_LOG_CTL : Nat := 0xe0100
abbrev A.MGMT_LOG_NEWEST : Nat := 0xe0104
abbrev A.MGMT_LOG_IDX : Nat := 0xe0108
abbrev A.MGMT_LOG_STATE : Nat := 0xe010c
abbrev A.MGMT_LOG_DATA (n : Nat) : Nat := 0xe0110 + 4 * n
abbrev A.MGMT_SENS (n : Nat) : Nat := 0xe0200 + 4 * n
abbrev A.MGMT_LIFE_LO (n : Nat) : Nat := 0xe1000 + 8 * n
abbrev A.MGMT_LIFE_HI (n : Nat) : Nat := 0xe1004 + 8 * n
abbrev A.MGMT_MSTAT_TOTAL (n : Nat) (w : Nat) : Nat := 0xe3000 + 0x200 * n + 4 * w
abbrev A.MGMT_MSTAT_TOTAL_REC (n : Nat) : Nat := 0xe3600 + 4 * n
abbrev A.TEST_START : Nat := 0xf0000
abbrev A.TEST_CLEAR : Nat := 0xf0004
abbrev A.TEST_CTL : Nat := 0xf0008
abbrev A.TEST_STATUS : Nat := 0xf000c
abbrev A.TEST_QUEUED : Nat := 0xf0010
abbrev A.TEST_USABLE : Nat := 0xf0014
abbrev A.TEST_RETIRED : Nat := 0xf0018
abbrev A.TEST_YIELD : Nat := 0xf001c
abbrev A.TEST_FAULT : Nat := 0xf0020
abbrev A.TEST_FAULT_CFG : Nat := 0xf0024
abbrev A.TEST_EVT : Nat := 0xf0028
abbrev A.TEST_EVT_EN : Nat := 0xf002c
abbrev A.TEST_RES_W0 (n : Nat) : Nat := 0xf0100 + 0x10 * n
abbrev A.TEST_RES_W1 (n : Nat) : Nat := 0xf0104 + 0x10 * n
abbrev A.TEST_RES_W2 (n : Nat) : Nat := 0xf0108 + 0x10 * n
abbrev A.TEST_RES_W3 (n : Nat) : Nat := 0xf010c + 0x10 * n
abbrev A.TEST_TRIM (n : Nat) : Nat := 0xf8000 + 4 * n
abbrev A.TBL_LISTENER_W0 (n : Nat) : Nat := 0x100000 + 0x40 * n
abbrev A.TBL_LISTENER_W1 (n : Nat) : Nat := 0x100004 + 0x40 * n
abbrev A.TBL_LISTENER_W2 (n : Nat) : Nat := 0x100008 + 0x40 * n
abbrev A.TBL_LISTENER_W3 (n : Nat) : Nat := 0x10000c + 0x40 * n
abbrev A.TBL_LISTENER_W4 (n : Nat) : Nat := 0x100010 + 0x40 * n
abbrev A.TBL_LISTENER_W5 (n : Nat) : Nat := 0x100014 + 0x40 * n
abbrev A.TBL_LISTENER_W6 (n : Nat) : Nat := 0x100018 + 0x40 * n
abbrev A.TBL_LISTENER_W7 (n : Nat) : Nat := 0x10001c + 0x40 * n
abbrev A.TBL_LISTENER_W8 (n : Nat) : Nat := 0x100020 + 0x40 * n
abbrev A.TBL_LISTENER_W9 (n : Nat) : Nat := 0x100024 + 0x40 * n
abbrev A.TBL_LISTENER_W10 (n : Nat) : Nat := 0x100028 + 0x40 * n
abbrev A.TBL_LISTENER_W11 (n : Nat) : Nat := 0x10002c + 0x40 * n
abbrev A.TBL_LISTENER_W12 (n : Nat) : Nat := 0x100030 + 0x40 * n
abbrev A.TBL_LISTENER_W13 (n : Nat) : Nat := 0x100034 + 0x40 * n
abbrev A.TBL_LISTENER_W14 (n : Nat) : Nat := 0x100038 + 0x40 * n
abbrev A.TBL_LISTENER_W15 (n : Nat) : Nat := 0x10003c + 0x40 * n
abbrev A.TBL_TALKER_W0 (n : Nat) : Nat := 0x104000 + 0x40 * n
abbrev A.TBL_TALKER_W1 (n : Nat) : Nat := 0x104004 + 0x40 * n
abbrev A.TBL_TALKER_W2 (n : Nat) : Nat := 0x104008 + 0x40 * n
abbrev A.TBL_TALKER_W3 (n : Nat) : Nat := 0x10400c + 0x40 * n
abbrev A.TBL_TALKER_W4 (n : Nat) : Nat := 0x104010 + 0x40 * n
abbrev A.TBL_TALKER_W5 (n : Nat) : Nat := 0x104014 + 0x40 * n
abbrev A.TBL_TALKER_W6 (n : Nat) : Nat := 0x104018 + 0x40 * n
abbrev A.TBL_TALKER_W7 (n : Nat) : Nat := 0x10401c + 0x40 * n
abbrev A.TBL_TALKER_W8 (n : Nat) : Nat := 0x104020 + 0x40 * n
abbrev A.TBL_TALKER_W9 (n : Nat) : Nat := 0x104024 + 0x40 * n
abbrev A.TBL_TALKER_W10 (n : Nat) : Nat := 0x104028 + 0x40 * n
abbrev A.TBL_TALKER_W11 (n : Nat) : Nat := 0x10402c + 0x40 * n
abbrev A.TBL_TALKER_W12 (n : Nat) : Nat := 0x104030 + 0x40 * n
abbrev A.TBL_TALKER_W13 (n : Nat) : Nat := 0x104034 + 0x40 * n
abbrev A.TBL_TALKER_W14 (n : Nat) : Nat := 0x104038 + 0x40 * n
abbrev A.TBL_TALKER_W15 (n : Nat) : Nat := 0x10403c + 0x40 * n
abbrev A.TBL_LAY_W0 (n : Nat) : Nat := 0x108000 + 0x20 * n
abbrev A.TBL_LAY_W1 (n : Nat) : Nat := 0x108004 + 0x20 * n
abbrev A.TBL_LAY_W2 (n : Nat) : Nat := 0x108008 + 0x20 * n
abbrev A.TBL_LAY_W3 (n : Nat) : Nat := 0x10800c + 0x20 * n
abbrev A.TBL_LAY_W4 (n : Nat) : Nat := 0x108010 + 0x20 * n
abbrev A.TBL_LAY_W5 (n : Nat) : Nat := 0x108014 + 0x20 * n
abbrev A.TBL_LAY_W6 (n : Nat) : Nat := 0x108018 + 0x20 * n
abbrev A.TBL_LAY_W7 (n : Nat) : Nat := 0x10801c + 0x20 * n
abbrev A.TBL_LMAP (n : Nat) (w : Nat) : Nat := 0x110000 + 0x80 * n + 4 * w
abbrev A.TBL_TMAP (n : Nat) (w : Nat) : Nat := 0x118000 + 0x80 * n + 4 * w
abbrev A.TBL_XP_W0 (n : Nat) : Nat := 0x120000 + 0x10 * n
abbrev A.TBL_XP_W1 (n : Nat) : Nat := 0x120004 + 0x10 * n
abbrev A.TBL_XP_W2 (n : Nat) : Nat := 0x120008 + 0x10 * n
abbrev A.TBL_XP_W3 (n : Nat) : Nat := 0x12000c + 0x10 * n
abbrev A.TBL_LIM_W0 (n : Nat) : Nat := 0x160000 + 0x10 * n
abbrev A.TBL_LIM_W1 (n : Nat) : Nat := 0x160004 + 0x10 * n
abbrev A.TBL_LIM_W2 (n : Nat) : Nat := 0x160008 + 0x10 * n
abbrev A.TBL_LIM_W3 (n : Nat) : Nat := 0x16000c + 0x10 * n
abbrev A.TBL_METER (n : Nat) : Nat := 0x164000 + 4 * n
abbrev A.TBL_DLINE_W0 (n : Nat) : Nat := 0x168000 + 0x10 * n
abbrev A.TBL_DLINE_W1 (n : Nat) : Nat := 0x168004 + 0x10 * n
abbrev A.TBL_DLINE_W2 (n : Nat) : Nat := 0x168008 + 0x10 * n
abbrev A.TBL_DLINE_W3 (n : Nat) : Nat := 0x16800c + 0x10 * n
abbrev A.TBL_PLINE_W0 (n : Nat) : Nat := 0x170000 + 0x40 * n
abbrev A.TBL_PLINE_W1 (n : Nat) : Nat := 0x170004 + 0x40 * n
abbrev A.TBL_PLINE_W2 (n : Nat) : Nat := 0x170008 + 0x40 * n
abbrev A.TBL_PLINE_W3 (n : Nat) : Nat := 0x17000c + 0x40 * n
abbrev A.TBL_PLINE_W4 (n : Nat) : Nat := 0x170010 + 0x40 * n
abbrev A.TBL_PLINE_W5 (n : Nat) : Nat := 0x170014 + 0x40 * n
abbrev A.TBL_PLINE_W6 (n : Nat) : Nat := 0x170018 + 0x40 * n
abbrev A.TBL_PLINE_W7 (n : Nat) : Nat := 0x17001c + 0x40 * n
abbrev A.TBL_PLINE_W8 (n : Nat) : Nat := 0x170020 + 0x40 * n
abbrev A.TBL_PLINE_W9 (n : Nat) : Nat := 0x170024 + 0x40 * n
abbrev A.TBL_PLINE_W10 (n : Nat) : Nat := 0x170028 + 0x40 * n
abbrev A.TBL_PLINE_W11 (n : Nat) : Nat := 0x17002c + 0x40 * n
abbrev A.TBL_PLINE_W12 (n : Nat) : Nat := 0x170030 + 0x40 * n
abbrev A.TBL_PLINE_W13 (n : Nat) : Nat := 0x170034 + 0x40 * n
abbrev A.TBL_PLINE_W14 (n : Nat) : Nat := 0x170038 + 0x40 * n
abbrev A.TBL_PLINE_W15 (n : Nat) : Nat := 0x17003c + 0x40 * n
abbrev A.TBL_SIG_MAG (n : Nat) (w : Nat) : Nat := 0x174000 + 0x80 * n + 8 * w
abbrev A.TBL_SIG_PH (n : Nat) (w : Nat) : Nat := 0x174004 + 0x80 * n + 8 * w
abbrev A.TBL_SIG_RUN (n : Nat) (w : Nat) : Nat := 0x174040 + 0x80 * n + 4 * w
abbrev A.TBL_PATH_W0 (n : Nat) : Nat := 0x17c000 + 0x10 * n
abbrev A.TBL_PATH_W1 (n : Nat) : Nat := 0x17c004 + 0x10 * n
abbrev A.TBL_PATH_W2 (n : Nat) : Nat := 0x17c008 + 0x10 * n
abbrev A.TBL_PATH_W3 (n : Nat) : Nat := 0x17c00c + 0x10 * n
abbrev A.TBL_SPL_UP_TX (n : Nat) : Nat := 0x180000 + 4 * n
abbrev A.TBL_SPL_UP_RX (n : Nat) : Nat := 0x181000 + 4 * n
abbrev A.TBL_SPL_DN_TX (n : Nat) : Nat := 0x182000 + 4 * n
abbrev A.TBL_SPL_DN_RX (n : Nat) : Nat := 0x183000 + 4 * n
abbrev A.TBL_HRX (n : Nat) : Nat := 0x184000 + 4 * n
abbrev A.TBL_HTX (n : Nat) : Nat := 0x184800 + 4 * n
abbrev A.TBL_SCHED_W0 (n : Nat) : Nat := 0x190000 + 0x10 * n
abbrev A.TBL_SCHED_W1 (n : Nat) : Nat := 0x190004 + 0x10 * n
abbrev A.TBL_SCHED_W2 (n : Nat) : Nat := 0x190008 + 0x10 * n
abbrev A.TBL_SCHED_W3 (n : Nat) : Nat := 0x19000c + 0x10 * n

/-! ### Fields -/

abbrev F.SYS_ID_VENDOR : Fld := ⟨A.SYS_ID, 31, 16⟩
abbrev F.SYS_ID_DEVICE : Fld := ⟨A.SYS_ID, 15, 0⟩
abbrev F.SYS_REV_ROM : Fld := ⟨A.SYS_REV, 15, 8⟩
abbrev F.SYS_REV_SILICON : Fld := ⟨A.SYS_REV, 7, 0⟩
abbrev F.SYS_SERIAL_NUM : Fld := ⟨A.SYS_SERIAL, 31, 0⟩
abbrev F.SYS_FEATURES_TDM_PORTS : Fld := ⟨A.SYS_FEATURES, 23, 20⟩
abbrev F.SYS_FEATURES_HV_INPUTS : Fld := ⟨A.SYS_FEATURES, 19, 16⟩
abbrev F.SYS_FEATURES_CLUSTERS : Fld := ⟨A.SYS_FEATURES, 15, 12⟩
abbrev F.SYS_FEATURES_MAX_RATE : Fld := ⟨A.SYS_FEATURES, 11, 8⟩
abbrev F.SYS_STATUS_TRIAL : Fld := ⟨A.SYS_STATUS, 6, 6⟩
abbrev F.SYS_STATUS_BANK : Fld := ⟨A.SYS_STATUS, 5, 5⟩
abbrev F.SYS_STATUS_ROLLED_BACK : Fld := ⟨A.SYS_STATUS, 4, 4⟩
abbrev F.SYS_STATUS_KEY_FAIL : Fld := ⟨A.SYS_STATUS, 3, 3⟩
abbrev F.SYS_STATUS_CFG_DEFAULT : Fld := ⟨A.SYS_STATUS, 2, 2⟩
abbrev F.SYS_STATUS_CFG_FALLBACK : Fld := ⟨A.SYS_STATUS, 1, 1⟩
abbrev F.SYS_MOD_STATE_REFUSE_WHY : Fld := ⟨A.SYS_MOD_STATE, 19, 16⟩
abbrev F.SYS_MOD_STATE_LAST_CAUSE : Fld := ⟨A.SYS_MOD_STATE, 11, 8⟩
abbrev F.SYS_MOD_STATE_CMD_REFUSED : Fld := ⟨A.SYS_MOD_STATE, 4, 4⟩
abbrev F.SYS_MOD_STATE_CMD_PEND : Fld := ⟨A.SYS_MOD_STATE, 3, 3⟩
abbrev F.SYS_MOD_STATE_STATE : Fld := ⟨A.SYS_MOD_STATE, 2, 0⟩
abbrev F.SYS_MOD_CMD_CMD : Fld := ⟨A.SYS_MOD_CMD, 2, 0⟩
abbrev F.SYS_MAC_HI_BASE : Fld := ⟨A.SYS_MAC_HI, 15, 0⟩
abbrev F.SYS_MAC_LO_BASE : Fld := ⟨A.SYS_MAC_LO, 31, 0⟩
abbrev F.SYS_POST_STATUS_POST_LOST : Fld := ⟨A.SYS_POST_STATUS, 16, 16⟩
abbrev F.SYS_POST_STATUS_PEND : Fld := ⟨A.SYS_POST_STATUS, 12, 8⟩
abbrev F.SYS_POST_STATUS_BUSY : Fld := ⟨A.SYS_POST_STATUS, 4, 0⟩
abbrev F.SYS_POST_LOST_ADDR_MASTER : Fld := ⟨A.SYS_POST_LOST_ADDR, 31, 28⟩
abbrev F.SYS_POST_LOST_ADDR_DOMAIN : Fld := ⟨A.SYS_POST_LOST_ADDR, 27, 25⟩
abbrev F.SYS_POST_LOST_ADDR_ADDR : Fld := ⟨A.SYS_POST_LOST_ADDR, 23, 0⟩
abbrev F.SYS_ACC_STATUS_SPI_PRIV : Fld := ⟨A.SYS_ACC_STATUS, 4, 4⟩
abbrev F.SYS_ACC_STATUS_RSV_WR : Fld := ⟨A.SYS_ACC_STATUS, 3, 3⟩
abbrev F.SYS_ACC_STATUS_ACC_ERR : Fld := ⟨A.SYS_ACC_STATUS, 2, 2⟩
abbrev F.SYS_ACC_STATUS_PRIV_VIOL : Fld := ⟨A.SYS_ACC_STATUS, 1, 1⟩
abbrev F.SYS_ACC_ADDR_MASTER : Fld := ⟨A.SYS_ACC_ADDR, 31, 28⟩
abbrev F.SYS_ACC_ADDR_ADDR : Fld := ⟨A.SYS_ACC_ADDR, 23, 0⟩
abbrev F.SYS_CONTEND_WINNER : Fld := ⟨A.SYS_CONTEND, 31, 28⟩
abbrev F.SYS_CONTEND_LOST_F0 : Fld := ⟨A.SYS_CONTEND, 27, 27⟩
abbrev F.SYS_CONTEND_LOST_F1 : Fld := ⟨A.SYS_CONTEND, 26, 26⟩
abbrev F.SYS_CONTEND_LOST_SPI : Fld := ⟨A.SYS_CONTEND, 25, 25⟩
abbrev F.SYS_CONTEND_LOST_SCP : Fld := ⟨A.SYS_CONTEND, 24, 24⟩
abbrev F.SYS_CONTEND_ADDR : Fld := ⟨A.SYS_CONTEND, 23, 0⟩
abbrev F.SYS_EVT_STATE_CHG : Fld := ⟨A.SYS_EVT, 5, 5⟩
abbrev F.SYS_EVT_CONTEND : Fld := ⟨A.SYS_EVT, 4, 4⟩
abbrev F.SYS_EVT_POST_LOST : Fld := ⟨A.SYS_EVT, 3, 3⟩
abbrev F.SYS_EVT_RSV_WR : Fld := ⟨A.SYS_EVT, 2, 2⟩
abbrev F.SYS_EVT_ACC_ERR : Fld := ⟨A.SYS_EVT, 1, 1⟩
abbrev F.SYS_EVT_PRIV_VIOL : Fld := ⟨A.SYS_EVT, 0, 0⟩
abbrev F.SYS_EVT_EN_STATE_CHG : Fld := ⟨A.SYS_EVT_EN, 5, 5⟩
abbrev F.SYS_EVT_EN_CONTEND : Fld := ⟨A.SYS_EVT_EN, 4, 4⟩
abbrev F.SYS_EVT_EN_POST_LOST : Fld := ⟨A.SYS_EVT_EN, 3, 3⟩
abbrev F.SYS_EVT_EN_RSV_WR : Fld := ⟨A.SYS_EVT_EN, 2, 2⟩
abbrev F.SYS_EVT_EN_ACC_ERR : Fld := ⟨A.SYS_EVT_EN, 1, 1⟩
abbrev F.SYS_EVT_EN_PRIV_VIOL : Fld := ⟨A.SYS_EVT_EN, 0, 0⟩
abbrev F.SYS_IRQ_STATUS_BRANCH : Fld := ⟨A.SYS_IRQ_STATUS, 19, 0⟩
abbrev F.SYS_IRQ_EN_MP_BITS : Fld := ⟨A.SYS_IRQ_EN_MP, 19, 0⟩
abbrev F.SYS_IRQ_EN_PIN_BITS : Fld := ⟨A.SYS_IRQ_EN_PIN, 19, 0⟩
abbrev F.SYS_IRQ_EN_F0_BITS : Fld := ⟨A.SYS_IRQ_EN_F0, 19, 0⟩
abbrev F.SYS_IRQ_EN_F1_BITS : Fld := ⟨A.SYS_IRQ_EN_F1, 19, 0⟩
abbrev F.SYS_MSIX_ROUTE_F0_ROUTE (n : Nat) : Fld := ⟨(A.SYS_MSIX_ROUTE_F0 n), 31, 0⟩
abbrev F.SYS_MSIX_ROUTE_F0_2_ROUTE : Fld := ⟨A.SYS_MSIX_ROUTE_F0_2, 15, 0⟩
abbrev F.SYS_MSIX_ROUTE_F1_ROUTE (n : Nat) : Fld := ⟨(A.SYS_MSIX_ROUTE_F1 n), 31, 0⟩
abbrev F.SYS_MSIX_ROUTE_F1_2_ROUTE : Fld := ⟨A.SYS_MSIX_ROUTE_F1_2, 15, 0⟩
abbrev F.SYS_MSIX_EOI_VEC (n : Nat) : Fld := ⟨(A.SYS_MSIX_EOI n), 15, 0⟩
abbrev F.SYS_SPI_CFG_CRC_REQ : Fld := ⟨A.SYS_SPI_CFG, 0, 0⟩
abbrev F.SYS_PCIE_CFG_TX_IRQ_N : Fld := ⟨A.SYS_PCIE_CFG, 15, 8⟩
abbrev F.SYS_PCIE_CFG_MC_ALL : Fld := ⟨A.SYS_PCIE_CFG, 2, 2⟩
abbrev F.SYS_PCIE_CFG_FRAME_EN : Fld := ⟨A.SYS_PCIE_CFG, 1, 1⟩
abbrev F.SYS_PCIE_CFG_AUDIO_EN : Fld := ⟨A.SYS_PCIE_CFG, 0, 0⟩
abbrev F.SYS_PCIE_STATUS_SPEED : Fld := ⟨A.SYS_PCIE_STATUS, 5, 4⟩
abbrev F.SYS_PCIE_STATUS_LINK_UP : Fld := ⟨A.SYS_PCIE_STATUS, 0, 0⟩
abbrev F.SYS_PCIE_EVT_CNT_SAT : Fld := ⟨A.SYS_PCIE_EVT, 6, 6⟩
abbrev F.SYS_PCIE_EVT_LINK_CHG : Fld := ⟨A.SYS_PCIE_EVT, 5, 5⟩
abbrev F.SYS_PCIE_EVT_FRAME_RX_DROP : Fld := ⟨A.SYS_PCIE_EVT, 4, 4⟩
abbrev F.SYS_PCIE_EVT_FRAME_RX : Fld := ⟨A.SYS_PCIE_EVT, 3, 3⟩
abbrev F.SYS_PCIE_EVT_FRAME_TXC : Fld := ⟨A.SYS_PCIE_EVT, 2, 2⟩
abbrev F.SYS_PCIE_EVT_RX_MISS : Fld := ⟨A.SYS_PCIE_EVT, 1, 1⟩
abbrev F.SYS_PCIE_EVT_TX_EF : Fld := ⟨A.SYS_PCIE_EVT, 0, 0⟩
abbrev F.SYS_PCIE_EVT_EN_CNT_SAT : Fld := ⟨A.SYS_PCIE_EVT_EN, 6, 6⟩
abbrev F.SYS_PCIE_EVT_EN_LINK_CHG : Fld := ⟨A.SYS_PCIE_EVT_EN, 5, 5⟩
abbrev F.SYS_PCIE_EVT_EN_FRAME_RX_DROP : Fld := ⟨A.SYS_PCIE_EVT_EN, 4, 4⟩
abbrev F.SYS_PCIE_EVT_EN_FRAME_RX : Fld := ⟨A.SYS_PCIE_EVT_EN, 3, 3⟩
abbrev F.SYS_PCIE_EVT_EN_FRAME_TXC : Fld := ⟨A.SYS_PCIE_EVT_EN, 2, 2⟩
abbrev F.SYS_PCIE_EVT_EN_RX_MISS : Fld := ⟨A.SYS_PCIE_EVT_EN, 1, 1⟩
abbrev F.SYS_PCIE_EVT_EN_TX_EF : Fld := ⟨A.SYS_PCIE_EVT_EN, 0, 0⟩
abbrev F.SYS_FRAME_DB_TX : Fld := ⟨A.SYS_FRAME_DB, 0, 0⟩
abbrev F.SYS_CNT_RX_MISS_COUNT : Fld := ⟨A.SYS_CNT_RX_MISS, 31, 0⟩
abbrev F.SYS_CNT_FRAME_TX_COUNT : Fld := ⟨A.SYS_CNT_FRAME_TX, 31, 0⟩
abbrev F.SYS_CNT_FRAME_RX_COUNT : Fld := ⟨A.SYS_CNT_FRAME_RX, 31, 0⟩
abbrev F.SYS_CNT_FRAME_RX_DROP_COUNT : Fld := ⟨A.SYS_CNT_FRAME_RX_DROP, 31, 0⟩
abbrev F.SYS_CNT_SPI_CRC_ERR_COUNT : Fld := ⟨A.SYS_CNT_SPI_CRC_ERR, 31, 0⟩
abbrev F.SYS_CNT_SPI_REFUSED_COUNT : Fld := ⟨A.SYS_CNT_SPI_REFUSED, 31, 0⟩
abbrev F.SYS_CNT_CONTENDS_COUNT : Fld := ⟨A.SYS_CNT_CONTENDS, 31, 0⟩
abbrev F.SYS_CNT_SAT_BITS : Fld := ⟨A.SYS_CNT_SAT, 6, 0⟩
abbrev F.PWR_CFG_STAGE_INT : Fld := ⟨A.PWR_CFG, 24, 16⟩
abbrev F.PWR_CFG_CLASS_REQ : Fld := ⟨A.PWR_CFG, 9, 8⟩
abbrev F.PWR_CFG_AUX_LIM : Fld := ⟨A.PWR_CFG, 1, 1⟩
abbrev F.PWR_CFG_AUX_EN : Fld := ⟨A.PWR_CFG, 0, 0⟩
abbrev F.PWR_UNIT_EN_UNIT : Fld := ⟨A.PWR_UNIT_EN, 14, 1⟩
abbrev F.PWR_STATUS_GRANT_A : Fld := ⟨A.PWR_STATUS, 31, 28⟩
abbrev F.PWR_STATUS_GRANT_B : Fld := ⟨A.PWR_STATUS, 27, 24⟩
abbrev F.PWR_STATUS_GRANT_C : Fld := ⟨A.PWR_STATUS, 23, 20⟩
abbrev F.PWR_STATUS_IN_USE : Fld := ⟨A.PWR_STATUS, 19, 18⟩
abbrev F.PWR_STATUS_BUDGET : Fld := ⟨A.PWR_STATUS, 15, 12⟩
abbrev F.PWR_STATUS_LIMITED : Fld := ⟨A.PWR_STATUS, 11, 11⟩
abbrev F.PWR_STATUS_LOW_BUDGET : Fld := ⟨A.PWR_STATUS, 10, 10⟩
abbrev F.PWR_STATUS_HOLD_ARMED : Fld := ⟨A.PWR_STATUS, 9, 9⟩
abbrev F.PWR_STATUS_AUX_ON : Fld := ⟨A.PWR_STATUS, 8, 8⟩
abbrev F.PWR_STATUS_AUX_FAULT : Fld := ⟨A.PWR_STATUS, 7, 7⟩
abbrev F.PWR_STATUS_STAGE_FAIL : Fld := ⟨A.PWR_STATUS, 6, 6⟩
abbrev F.PWR_STATUS_THERM_CRIT : Fld := ⟨A.PWR_STATUS, 5, 5⟩
abbrev F.PWR_STATUS_FAULT : Fld := ⟨A.PWR_STATUS, 0, 0⟩
abbrev F.PWR_UNIT_STATUS_FAILED : Fld := ⟨A.PWR_UNIT_STATUS, 30, 16⟩
abbrev F.PWR_UNIT_STATUS_POWERED : Fld := ⟨A.PWR_UNIT_STATUS, 14, 0⟩
abbrev F.PWR_CTL_RETRY : Fld := ⟨A.PWR_CTL, 2, 2⟩
abbrev F.PWR_CTL_AUX_RESTART : Fld := ⟨A.PWR_CTL, 1, 1⟩
abbrev F.PWR_CTL_RESET : Fld := ⟨A.PWR_CTL, 0, 0⟩
abbrev F.PWR_EVT_THERM_SHUTDOWN : Fld := ⟨A.PWR_EVT, 8, 8⟩
abbrev F.PWR_EVT_THERM_CRIT : Fld := ⟨A.PWR_EVT, 7, 7⟩
abbrev F.PWR_EVT_UNIT_FAIL : Fld := ⟨A.PWR_EVT, 6, 6⟩
abbrev F.PWR_EVT_STAGE_FAIL : Fld := ⟨A.PWR_EVT, 5, 5⟩
abbrev F.PWR_EVT_AUX_FAULT : Fld := ⟨A.PWR_EVT, 4, 4⟩
abbrev F.PWR_EVT_LOW_BUDGET : Fld := ⟨A.PWR_EVT, 3, 3⟩
abbrev F.PWR_EVT_LIMITED : Fld := ⟨A.PWR_EVT, 2, 2⟩
abbrev F.PWR_EVT_CLASS_CHG : Fld := ⟨A.PWR_EVT, 1, 1⟩
abbrev F.PWR_EVT_INPUT_CHG : Fld := ⟨A.PWR_EVT, 0, 0⟩
abbrev F.PWR_EVT_EN_THERM_SHUTDOWN : Fld := ⟨A.PWR_EVT_EN, 8, 8⟩
abbrev F.PWR_EVT_EN_THERM_CRIT : Fld := ⟨A.PWR_EVT_EN, 7, 7⟩
abbrev F.PWR_EVT_EN_UNIT_FAIL : Fld := ⟨A.PWR_EVT_EN, 6, 6⟩
abbrev F.PWR_EVT_EN_STAGE_FAIL : Fld := ⟨A.PWR_EVT_EN, 5, 5⟩
abbrev F.PWR_EVT_EN_AUX_FAULT : Fld := ⟨A.PWR_EVT_EN, 4, 4⟩
abbrev F.PWR_EVT_EN_LOW_BUDGET : Fld := ⟨A.PWR_EVT_EN, 3, 3⟩
abbrev F.PWR_EVT_EN_LIMITED : Fld := ⟨A.PWR_EVT_EN, 2, 2⟩
abbrev F.PWR_EVT_EN_CLASS_CHG : Fld := ⟨A.PWR_EVT_EN, 1, 1⟩
abbrev F.PWR_EVT_EN_INPUT_CHG : Fld := ⟨A.PWR_EVT_EN, 0, 0⟩
abbrev F.RING_PORT_CFG_MAX_FRAME (n : Nat) : Fld := ⟨(A.RING_PORT_CFG n), 31, 18⟩
abbrev F.RING_PORT_CFG_RX_KEEP_ERR (n : Nat) : Fld := ⟨(A.RING_PORT_CFG n), 17, 17⟩
abbrev F.RING_PORT_CFG_JUMBO_EN (n : Nat) : Fld := ⟨(A.RING_PORT_CFG n), 16, 16⟩
abbrev F.RING_PORT_CFG_PFC_EN (n : Nat) : Fld := ⟨(A.RING_PORT_CFG n), 15, 12⟩
abbrev F.RING_PORT_CFG_PAUSE_HONOUR_ALL (n : Nat) : Fld := ⟨(A.RING_PORT_CFG n), 11, 11⟩
abbrev F.RING_PORT_CFG_PAUSE_EN (n : Nat) : Fld := ⟨(A.RING_PORT_CFG n), 10, 10⟩
abbrev F.RING_PORT_CFG_EEE_MODE (n : Nat) : Fld := ⟨(A.RING_PORT_CFG n), 9, 8⟩
abbrev F.RING_PORT_CFG_RATE_ADV (n : Nat) : Fld := ⟨(A.RING_PORT_CFG n), 7, 4⟩
abbrev F.RING_PORT_CFG_ENABLE (n : Nat) : Fld := ⟨(A.RING_PORT_CFG n), 0, 0⟩
abbrev F.RING_PORT_STATUS_RATE (n : Nat) : Fld := ⟨(A.RING_PORT_STATUS n), 11, 8⟩
abbrev F.RING_PORT_STATUS_HELD (n : Nat) : Fld := ⟨(A.RING_PORT_STATUS n), 2, 2⟩
abbrev F.RING_PORT_STATUS_LPI (n : Nat) : Fld := ⟨(A.RING_PORT_STATUS n), 1, 1⟩
abbrev F.RING_PORT_STATUS_LINK (n : Nat) : Fld := ⟨(A.RING_PORT_STATUS n), 0, 0⟩
abbrev F.RING_EVT_HOLD_START : Fld := ⟨A.RING_EVT, 11, 9⟩
abbrev F.RING_EVT_LINK_CHG : Fld := ⟨A.RING_EVT, 8, 6⟩
abbrev F.RING_EVT_CBS_CLAMP : Fld := ⟨A.RING_EVT, 5, 5⟩
abbrev F.RING_EVT_JOIN_DONE : Fld := ⟨A.RING_EVT, 4, 4⟩
abbrev F.RING_EVT_BYPASS_CLOSED : Fld := ⟨A.RING_EVT, 3, 3⟩
abbrev F.RING_EVT_QBV_ERR : Fld := ⟨A.RING_EVT, 2, 2⟩
abbrev F.RING_EVT_EN_HOLD_START : Fld := ⟨A.RING_EVT_EN, 11, 9⟩
abbrev F.RING_EVT_EN_LINK_CHG : Fld := ⟨A.RING_EVT_EN, 8, 6⟩
abbrev F.RING_EVT_EN_CBS_CLAMP : Fld := ⟨A.RING_EVT_EN, 5, 5⟩
abbrev F.RING_EVT_EN_JOIN_DONE : Fld := ⟨A.RING_EVT_EN, 4, 4⟩
abbrev F.RING_EVT_EN_BYPASS_CLOSED : Fld := ⟨A.RING_EVT_EN, 3, 3⟩
abbrev F.RING_EVT_EN_QBV_ERR : Fld := ⟨A.RING_EVT_EN, 2, 2⟩
abbrev F.RING_BYPASS_JOIN_DELAY_S : Fld := ⟨A.RING_BYPASS_JOIN, 31, 16⟩
abbrev F.RING_BYPASS_JOIN_POLICY : Fld := ⟨A.RING_BYPASS_JOIN, 1, 0⟩
abbrev F.RING_BYPASS_CTL_JOIN_NOW : Fld := ⟨A.RING_BYPASS_CTL, 2, 2⟩
abbrev F.RING_BYPASS_CTL_FORCE_CLOSE : Fld := ⟨A.RING_BYPASS_CTL, 0, 0⟩
abbrev F.RING_BYPASS_STATUS_WAIT_S : Fld := ⟨A.RING_BYPASS_STATUS, 31, 16⟩
abbrev F.RING_BYPASS_STATUS_CLOSE_CAUSE : Fld := ⟨A.RING_BYPASS_STATUS, 11, 8⟩
abbrev F.RING_BYPASS_STATUS_JOIN_REFUSED : Fld := ⟨A.RING_BYPASS_STATUS, 4, 4⟩
abbrev F.RING_BYPASS_STATUS_STATE : Fld := ⟨A.RING_BYPASS_STATUS, 1, 0⟩
abbrev F.RING_CBS_IDLE5 (n : Nat) : Fld := ⟨(A.RING_CBS n), 25, 16⟩
abbrev F.RING_CBS_IDLE4 (n : Nat) : Fld := ⟨(A.RING_CBS n), 9, 0⟩
abbrev F.RING_QBV_CTL_ENTRY_COUNT (n : Nat) : Fld := ⟨(A.RING_QBV_CTL n), 14, 8⟩
abbrev F.RING_QBV_CTL_OPER_BANK (n : Nat) : Fld := ⟨(A.RING_QBV_CTL n), 2, 2⟩
abbrev F.RING_QBV_CTL_SWAP (n : Nat) : Fld := ⟨(A.RING_QBV_CTL n), 1, 1⟩
abbrev F.RING_QBV_CTL_EN (n : Nat) : Fld := ⟨(A.RING_QBV_CTL n), 0, 0⟩
abbrev F.RING_QBV_PHASE_NS (n : Nat) : Fld := ⟨(A.RING_QBV_PHASE n), 29, 0⟩
abbrev F.RING_FRER_CFG_HOP_LIMIT : Fld := ⟨A.RING_FRER_CFG, 23, 16⟩
abbrev F.RING_FRER_CFG_RESET_MS : Fld := ⟨A.RING_FRER_CFG, 11, 0⟩
abbrev F.RING_PAUSE_WM_HIGH_PCT : Fld := ⟨A.RING_PAUSE_WM, 23, 16⟩
abbrev F.RING_PAUSE_WM_LOW_PCT : Fld := ⟨A.RING_PAUSE_WM, 15, 8⟩
abbrev F.RING_FLAP_HOLD_REMAIN (n : Nat) : Fld := ⟨(A.RING_FLAP n), 31, 16⟩
abbrev F.RING_FLAP_HOLD_LEVEL (n : Nat) : Fld := ⟨(A.RING_FLAP n), 11, 8⟩
abbrev F.RING_FLAP_FLAPS (n : Nat) : Fld := ⟨(A.RING_FLAP n), 3, 1⟩
abbrev F.RING_FLAP_RELEASE (n : Nat) : Fld := ⟨(A.RING_FLAP n), 0, 0⟩
abbrev F.RING_PVID_C_PVID : Fld := ⟨A.RING_PVID_C, 11, 0⟩
abbrev F.RING_PHY_ADDR_MMD (n : Nat) : Fld := ⟨(A.RING_PHY_ADDR n), 20, 16⟩
abbrev F.RING_PHY_ADDR_REG (n : Nat) : Fld := ⟨(A.RING_PHY_ADDR n), 15, 0⟩
abbrev F.RING_PHY_DATA_DATA (n : Nat) : Fld := ⟨(A.RING_PHY_DATA n), 15, 0⟩
abbrev F.RING_VLAN_EN (n : Nat) : Fld := ⟨(A.RING_VLAN n), 31, 31⟩
abbrev F.RING_VLAN_C_MEMBER (n : Nat) : Fld := ⟨(A.RING_VLAN n), 30, 30⟩
abbrev F.RING_VLAN_VID (n : Nat) : Fld := ⟨(A.RING_VLAN n), 11, 0⟩
abbrev F.RING_GATE_MASK (n : Nat) : Fld := ⟨(A.RING_GATE n), 31, 24⟩
abbrev F.RING_GATE_INTERVAL (n : Nat) : Fld := ⟨(A.RING_GATE n), 23, 0⟩
abbrev F.MSTAT_RX_FRAMES_COUNT (n : Nat) : Fld := ⟨(A.MSTAT_RX_FRAMES n), 31, 0⟩
abbrev F.MSTAT_RX_BLK64_COUNT (n : Nat) : Fld := ⟨(A.MSTAT_RX_BLK64 n), 31, 0⟩
abbrev F.MSTAT_RX_FCS_ERR_COUNT (n : Nat) : Fld := ⟨(A.MSTAT_RX_FCS_ERR n), 31, 0⟩
abbrev F.MSTAT_RX_RUNT_COUNT (n : Nat) : Fld := ⟨(A.MSTAT_RX_RUNT n), 31, 0⟩
abbrev F.MSTAT_RX_OVERSIZE_COUNT (n : Nat) : Fld := ⟨(A.MSTAT_RX_OVERSIZE n), 31, 0⟩
abbrev F.MSTAT_RX_VLAN_DROP_COUNT (n : Nat) : Fld := ⟨(A.MSTAT_RX_VLAN_DROP n), 31, 0⟩
abbrev F.MSTAT_RX_POOL_DROP_COUNT (n : Nat) : Fld := ⟨(A.MSTAT_RX_POOL_DROP n), 31, 0⟩
abbrev F.MSTAT_RX_PAUSE_COUNT (n : Nat) : Fld := ⟨(A.MSTAT_RX_PAUSE n), 31, 0⟩
abbrev F.MSTAT_RX_PFC_COUNT (n : Nat) : Fld := ⟨(A.MSTAT_RX_PFC n), 31, 0⟩
abbrev F.MSTAT_TX_FRAMES_COUNT (n : Nat) : Fld := ⟨(A.MSTAT_TX_FRAMES n), 31, 0⟩
abbrev F.MSTAT_TX_BLK64_COUNT (n : Nat) : Fld := ⟨(A.MSTAT_TX_BLK64 n), 31, 0⟩
abbrev F.MSTAT_TX_TRUNC_COUNT (n : Nat) : Fld := ⟨(A.MSTAT_TX_TRUNC n), 31, 0⟩
abbrev F.MSTAT_TX_PAUSE_COUNT (n : Nat) : Fld := ⟨(A.MSTAT_TX_PAUSE n), 31, 0⟩
abbrev F.MSTAT_QBV_HOLD_COUNT (n : Nat) : Fld := ⟨(A.MSTAT_QBV_HOLD n), 31, 0⟩
abbrev F.MSTAT_FRER_DUP_COUNT (n : Nat) : Fld := ⟨(A.MSTAT_FRER_DUP n), 31, 0⟩
abbrev F.MSTAT_FRER_ROGUE_COUNT (n : Nat) : Fld := ⟨(A.MSTAT_FRER_ROGUE n), 31, 0⟩
abbrev F.MSTAT_RING_STRIP_COUNT (n : Nat) : Fld := ⟨(A.MSTAT_RING_STRIP n), 31, 0⟩
abbrev F.MSTAT_HOP_EXPIRED_COUNT (n : Nat) : Fld := ⟨(A.MSTAT_HOP_EXPIRED n), 31, 0⟩
abbrev F.MSTAT_LINK_DOWN_COUNT (n : Nat) : Fld := ⟨(A.MSTAT_LINK_DOWN n), 31, 0⟩
abbrev F.MSTAT_FRER_OOO_COUNT : Fld := ⟨A.MSTAT_FRER_OOO, 31, 0⟩
abbrev F.MSTAT_FRER_LOST_COUNT : Fld := ⟨A.MSTAT_FRER_LOST, 31, 0⟩
abbrev F.MSTAT_FRER_RESET_COUNT : Fld := ⟨A.MSTAT_FRER_RESET, 31, 0⟩
abbrev F.MSTAT_SAT_BITS (n : Nat) : Fld := ⟨(A.MSTAT_SAT n), 18, 0⟩
abbrev F.MSTAT_SAT_REC_BITS : Fld := ⟨A.MSTAT_SAT_REC, 2, 0⟩
abbrev F.MSTAT_SAT_SUM_BITS : Fld := ⟨A.MSTAT_SAT_SUM, 3, 0⟩
abbrev F.TIME_TB_NS_NS : Fld := ⟨A.TIME_TB_NS, 31, 0⟩
abbrev F.TIME_TB_SEC_LO_SEC : Fld := ⟨A.TIME_TB_SEC_LO, 31, 0⟩
abbrev F.TIME_TB_SEC_HI_EPOCH : Fld := ⟨A.TIME_TB_SEC_HI, 31, 16⟩
abbrev F.TIME_TB_SEC_HI_SEC : Fld := ⟨A.TIME_TB_SEC_HI, 15, 0⟩
abbrev F.TIME_TB_FRAC_FRAC : Fld := ⟨A.TIME_TB_FRAC, 15, 0⟩
abbrev F.TIME_TB_CTL_ADJ : Fld := ⟨A.TIME_TB_CTL, 1, 1⟩
abbrev F.TIME_TB_CTL_SET : Fld := ⟨A.TIME_TB_CTL, 0, 0⟩
abbrev F.TIME_TB_SET_NS_NS : Fld := ⟨A.TIME_TB_SET_NS, 31, 0⟩
abbrev F.TIME_TB_SET_SEC_LO_SEC : Fld := ⟨A.TIME_TB_SET_SEC_LO, 31, 0⟩
abbrev F.TIME_TB_SET_SEC_HI_SEC : Fld := ⟨A.TIME_TB_SET_SEC_HI, 15, 0⟩
abbrev F.TIME_TB_ADJ_ADJ : Fld := ⟨A.TIME_TB_ADJ, 31, 0⟩
abbrev F.TIME_SLEW_REMAIN_NS : Fld := ⟨A.TIME_SLEW_REMAIN, 31, 0⟩
abbrev F.TIME_LAST_STEP_NS : Fld := ⟨A.TIME_LAST_STEP, 31, 0⟩
abbrev F.TIME_PTP_CFG_DOMAIN : Fld := ⟨A.TIME_PTP_CFG, 31, 24⟩
abbrev F.TIME_PTP_CFG_MON_DOMAIN : Fld := ⟨A.TIME_PTP_CFG, 23, 16⟩
abbrev F.TIME_PTP_CFG_MON_EN : Fld := ⟨A.TIME_PTP_CFG, 15, 15⟩
abbrev F.TIME_PTP_CFG_PROFILE : Fld := ⟨A.TIME_PTP_CFG, 14, 12⟩
abbrev F.TIME_PTP_CFG_TRANSPORT : Fld := ⟨A.TIME_PTP_CFG, 11, 10⟩
abbrev F.TIME_PTP_CFG_TWO_STEP : Fld := ⟨A.TIME_PTP_CFG, 9, 9⟩
abbrev F.TIME_PTP_CFG_SLAVE_ONLY : Fld := ⟨A.TIME_PTP_CFG, 8, 8⟩
abbrev F.TIME_PTP_CFG_TC_EN : Fld := ⟨A.TIME_PTP_CFG, 7, 7⟩
abbrev F.TIME_PTP_CFG_SPUR_RESP : Fld := ⟨A.TIME_PTP_CFG, 6, 6⟩
abbrev F.TIME_PTP_INTV_LOG_SYNC : Fld := ⟨A.TIME_PTP_INTV, 31, 24⟩
abbrev F.TIME_PTP_INTV_LOG_ANNOUNCE : Fld := ⟨A.TIME_PTP_INTV, 23, 16⟩
abbrev F.TIME_PTP_INTV_LOG_DELAY : Fld := ⟨A.TIME_PTP_INTV, 15, 8⟩
abbrev F.TIME_PTP_INTV_ANN_TIMEOUT : Fld := ⟨A.TIME_PTP_INTV, 7, 4⟩
abbrev F.TIME_PTP_PRIO_PRIORITY1 : Fld := ⟨A.TIME_PTP_PRIO, 31, 24⟩
abbrev F.TIME_PTP_PRIO_PRIORITY2 : Fld := ⟨A.TIME_PTP_PRIO, 23, 16⟩
abbrev F.TIME_PTP_PRIO_DSCP : Fld := ⟨A.TIME_PTP_PRIO, 15, 10⟩
abbrev F.TIME_PTP_PRIO_PCP : Fld := ⟨A.TIME_PTP_PRIO, 9, 7⟩
abbrev F.TIME_MON_OFFSET_NS : Fld := ⟨A.TIME_MON_OFFSET, 31, 0⟩
abbrev F.TIME_OFFSET_OFFSET : Fld := ⟨A.TIME_OFFSET, 31, 0⟩
abbrev F.TIME_ASYM_NS (n : Nat) : Fld := ⟨(A.TIME_ASYM n), 31, 0⟩
abbrev F.TIME_PSTAT_LINK_DELAY (n : Nat) : Fld := ⟨(A.TIME_PSTAT n), 31, 8⟩
abbrev F.TIME_PSTAT_STATE (n : Nat) : Fld := ⟨(A.TIME_PSTAT n), 3, 0⟩
abbrev F.TIME_TWIN_CFG_DEV_LIMIT : Fld := ⟨A.TIME_TWIN_CFG, 31, 16⟩
abbrev F.TIME_TWIN_CFG_LOSS_INTV : Fld := ⟨A.TIME_TWIN_CFG, 11, 8⟩
abbrev F.TIME_TWIN_CFG_PREF : Fld := ⟨A.TIME_TWIN_CFG, 2, 1⟩
abbrev F.TIME_TWIN_CFG_EN : Fld := ⟨A.TIME_TWIN_CFG, 0, 0⟩
abbrev F.TIME_TWIN_STATUS_WIN_S : Fld := ⟨A.TIME_TWIN_STATUS, 31, 23⟩
abbrev F.TIME_TWIN_STATUS_CORR : Fld := ⟨A.TIME_TWIN_STATUS, 7, 7⟩
abbrev F.TIME_TWIN_STATUS_D_VALID : Fld := ⟨A.TIME_TWIN_STATUS, 6, 6⟩
abbrev F.TIME_TWIN_STATUS_WHOLE : Fld := ⟨A.TIME_TWIN_STATUS, 5, 5⟩
abbrev F.TIME_TWIN_STATUS_ACTIVE : Fld := ⟨A.TIME_TWIN_STATUS, 4, 4⟩
abbrev F.TIME_TWIN_STATUS_PREF_PATH : Fld := ⟨A.TIME_TWIN_STATUS, 3, 2⟩
abbrev F.TIME_TWIN_STATUS_IN_USE : Fld := ⟨A.TIME_TWIN_STATUS, 1, 0⟩
abbrev F.TIME_TWIN_D_D : Fld := ⟨A.TIME_TWIN_D, 31, 0⟩
abbrev F.TIME_EVT_TPO_FIRED : Fld := ⟨A.TIME_EVT, 15, 12⟩
abbrev F.TIME_EVT_CAPQ_NE : Fld := ⟨A.TIME_EVT, 11, 11⟩
abbrev F.TIME_EVT_CAPQ_OVF : Fld := ⟨A.TIME_EVT, 10, 10⟩
abbrev F.TIME_EVT_TS_HOLD : Fld := ⟨A.TIME_EVT, 9, 9⟩
abbrev F.TIME_EVT_GM_CHANGE : Fld := ⟨A.TIME_EVT, 8, 8⟩
abbrev F.TIME_EVT_TWIN_HEALED : Fld := ⟨A.TIME_EVT, 7, 7⟩
abbrev F.TIME_EVT_TWIN_NO_D : Fld := ⟨A.TIME_EVT, 6, 6⟩
abbrev F.TIME_EVT_TWIN_FAILOVER : Fld := ⟨A.TIME_EVT, 5, 5⟩
abbrev F.TIME_EVT_TWIN_LEARNED : Fld := ⟨A.TIME_EVT, 4, 4⟩
abbrev F.TIME_EVT_ADJ_REFUSED : Fld := ⟨A.TIME_EVT, 3, 3⟩
abbrev F.TIME_EVT_SLEW : Fld := ⟨A.TIME_EVT, 2, 2⟩
abbrev F.TIME_EVT_STEP : Fld := ⟨A.TIME_EVT, 1, 1⟩
abbrev F.TIME_EVT_EN_TPO_FIRED : Fld := ⟨A.TIME_EVT_EN, 15, 12⟩
abbrev F.TIME_EVT_EN_CAPQ_NE : Fld := ⟨A.TIME_EVT_EN, 11, 11⟩
abbrev F.TIME_EVT_EN_CAPQ_OVF : Fld := ⟨A.TIME_EVT_EN, 10, 10⟩
abbrev F.TIME_EVT_EN_TS_HOLD : Fld := ⟨A.TIME_EVT_EN, 9, 9⟩
abbrev F.TIME_EVT_EN_GM_CHANGE : Fld := ⟨A.TIME_EVT_EN, 8, 8⟩
abbrev F.TIME_EVT_EN_TWIN_HEALED : Fld := ⟨A.TIME_EVT_EN, 7, 7⟩
abbrev F.TIME_EVT_EN_TWIN_NO_D : Fld := ⟨A.TIME_EVT_EN, 6, 6⟩
abbrev F.TIME_EVT_EN_TWIN_FAILOVER : Fld := ⟨A.TIME_EVT_EN, 5, 5⟩
abbrev F.TIME_EVT_EN_TWIN_LEARNED : Fld := ⟨A.TIME_EVT_EN, 4, 4⟩
abbrev F.TIME_EVT_EN_ADJ_REFUSED : Fld := ⟨A.TIME_EVT_EN, 3, 3⟩
abbrev F.TIME_EVT_EN_SLEW : Fld := ⟨A.TIME_EVT_EN, 2, 2⟩
abbrev F.TIME_EVT_EN_STEP : Fld := ⟨A.TIME_EVT_EN, 1, 1⟩
abbrev F.TIME_TPO_STATUS_LATE : Fld := ⟨A.TIME_TPO_STATUS, 15, 12⟩
abbrev F.TIME_TPO_STATUS_FIRED : Fld := ⟨A.TIME_TPO_STATUS, 11, 8⟩
abbrev F.TIME_TPO_STATUS_ARMED : Fld := ⟨A.TIME_TPO_STATUS, 7, 4⟩
abbrev F.TIME_TPO_STATUS_RUNNING : Fld := ⟨A.TIME_TPO_STATUS, 3, 0⟩
abbrev F.TIME_TPI_CTL_EDGE : Fld := ⟨A.TIME_TPI_CTL, 7, 0⟩
abbrev F.TIME_TPO_CTL_WIDTH (n : Nat) : Fld := ⟨(A.TIME_TPO_CTL n), 31, 8⟩
abbrev F.TIME_TPO_CTL_LEVEL (n : Nat) : Fld := ⟨(A.TIME_TPO_CTL n), 3, 3⟩
abbrev F.TIME_TPO_CTL_POL (n : Nat) : Fld := ⟨(A.TIME_TPO_CTL n), 2, 2⟩
abbrev F.TIME_TPO_CTL_MODE (n : Nat) : Fld := ⟨(A.TIME_TPO_CTL n), 1, 0⟩
abbrev F.TIME_TPO_START_NS_NS (n : Nat) : Fld := ⟨(A.TIME_TPO_START_NS n), 31, 0⟩
abbrev F.TIME_TPO_START_SEC_LO_SEC (n : Nat) : Fld := ⟨(A.TIME_TPO_START_SEC_LO n), 31, 0⟩
abbrev F.TIME_TPO_START_SEC_HI_SEC (n : Nat) : Fld := ⟨(A.TIME_TPO_START_SEC_HI n), 15, 0⟩
abbrev F.TIME_TPO_PERIOD_NS (n : Nat) : Fld := ⟨(A.TIME_TPO_PERIOD n), 31, 0⟩
abbrev F.TIME_TPO_MISALIGN_NS (n : Nat) : Fld := ⟨(A.TIME_TPO_MISALIGN n), 31, 0⟩
abbrev F.TIME_CAPQ_NS_NS : Fld := ⟨A.TIME_CAPQ_NS, 31, 0⟩
abbrev F.TIME_CAPQ_SEC_LO_SEC : Fld := ⟨A.TIME_CAPQ_SEC_LO, 31, 0⟩
abbrev F.TIME_CAPQ_SEC_HI_EPOCH : Fld := ⟨A.TIME_CAPQ_SEC_HI, 31, 16⟩
abbrev F.TIME_CAPQ_SEC_HI_SEC : Fld := ⟨A.TIME_CAPQ_SEC_HI, 15, 0⟩
abbrev F.TIME_CAPQ_INFO_FRAC : Fld := ⟨A.TIME_CAPQ_INFO, 31, 16⟩
abbrev F.TIME_CAPQ_INFO_VALID : Fld := ⟨A.TIME_CAPQ_INFO, 15, 15⟩
abbrev F.TIME_CAPQ_INFO_RISE : Fld := ⟨A.TIME_CAPQ_INFO, 14, 14⟩
abbrev F.TIME_CAPQ_INFO_INPUT : Fld := ⟨A.TIME_CAPQ_INFO, 13, 12⟩
abbrev F.TIME_CAPQ_STATUS_OVF : Fld := ⟨A.TIME_CAPQ_STATUS, 7, 7⟩
abbrev F.TIME_CAPQ_STATUS_COUNT : Fld := ⟨A.TIME_CAPQ_STATUS, 6, 0⟩
abbrev F.TIME_CNT_TS_HOLD_COUNT : Fld := ⟨A.TIME_CNT_TS_HOLD, 31, 0⟩
abbrev F.TIME_CNT_TX_NO_TS_COUNT : Fld := ⟨A.TIME_CNT_TX_NO_TS, 31, 0⟩
abbrev F.TIME_CNT_V6_NO_TRAILER_COUNT : Fld := ⟨A.TIME_CNT_V6_NO_TRAILER, 31, 0⟩
abbrev F.TIME_CNT_FU_ORPHAN_COUNT : Fld := ⟨A.TIME_CNT_FU_ORPHAN, 31, 0⟩
abbrev F.TIME_CNT_PTP_LOOP_DROP_COUNT : Fld := ⟨A.TIME_CNT_PTP_LOOP_DROP, 31, 0⟩
abbrev F.TIME_CNT_CAPQ_DROP_COUNT : Fld := ⟨A.TIME_CNT_CAPQ_DROP, 31, 0⟩
abbrev F.TIME_CNT_TPI_MERGE_COUNT : Fld := ⟨A.TIME_CNT_TPI_MERGE, 31, 0⟩
abbrev F.TIME_CNT_STEPS_COUNT : Fld := ⟨A.TIME_CNT_STEPS, 31, 0⟩
abbrev F.TIME_SAT_BITS : Fld := ⟨A.TIME_SAT, 7, 0⟩
abbrev F.CLK_REF_CTL_QUAL_S : Fld := ⟨A.CLK_REF_CTL, 31, 24⟩
abbrev F.CLK_REF_CTL_REVERT_S : Fld := ⟨A.CLK_REF_CTL, 23, 16⟩
abbrev F.CLK_REF_CTL_MODE : Fld := ⟨A.CLK_REF_CTL, 4, 4⟩
abbrev F.CLK_REF_CTL_REVERT : Fld := ⟨A.CLK_REF_CTL, 3, 3⟩
abbrev F.CLK_REF_CTL_SEL : Fld := ⟨A.CLK_REF_CTL, 2, 0⟩
abbrev F.CLK_REF_RANK_FREF : Fld := ⟨A.CLK_REF_RANK, 27, 24⟩
abbrev F.CLK_REF_RANK_WCK : Fld := ⟨A.CLK_REF_RANK, 23, 20⟩
abbrev F.CLK_REF_RANK_PPS : Fld := ⟨A.CLK_REF_RANK, 19, 16⟩
abbrev F.CLK_REF_RANK_PTP_C : Fld := ⟨A.CLK_REF_RANK, 15, 12⟩
abbrev F.CLK_REF_RANK_PTP_B : Fld := ⟨A.CLK_REF_RANK, 11, 8⟩
abbrev F.CLK_REF_RANK_PTP_A : Fld := ⟨A.CLK_REF_RANK, 7, 4⟩
abbrev F.CLK_REF_STATUS_BW : Fld := ⟨A.CLK_REF_STATUS, 11, 10⟩
abbrev F.CLK_REF_STATUS_SEL : Fld := ⟨A.CLK_REF_STATUS, 9, 7⟩
abbrev F.CLK_REF_STATUS_DISAGREE : Fld := ⟨A.CLK_REF_STATUS, 6, 6⟩
abbrev F.CLK_REF_STATUS_SPLICE_MEMBER : Fld := ⟨A.CLK_REF_STATUS, 5, 5⟩
abbrev F.CLK_REF_STATUS_STATE : Fld := ⟨A.CLK_REF_STATUS, 1, 0⟩
abbrev F.CLK_FCW_FCW : Fld := ⟨A.CLK_FCW, 31, 0⟩
abbrev F.CLK_PHASE_ERR_NS : Fld := ⟨A.CLK_PHASE_ERR, 31, 0⟩
abbrev F.CLK_LIMITS_HARD_FREQ : Fld := ⟨A.CLK_LIMITS, 31, 24⟩
abbrev F.CLK_LIMITS_SOFT_FREQ : Fld := ⟨A.CLK_LIMITS, 23, 16⟩
abbrev F.CLK_LIMITS_HARD_RATE : Fld := ⟨A.CLK_LIMITS, 15, 8⟩
abbrev F.CLK_LIMITS_SOFT_RATE : Fld := ⟨A.CLK_LIMITS, 7, 0⟩
abbrev F.CLK_VOTE_CFG_THR_PTP : Fld := ⟨A.CLK_VOTE_CFG, 15, 8⟩
abbrev F.CLK_VOTE_CFG_THR_OTHER : Fld := ⟨A.CLK_VOTE_CFG, 7, 0⟩
abbrev F.CLK_TOD_CFG_UTC_OFFSET : Fld := ⟨A.CLK_TOD_CFG, 31, 24⟩
abbrev F.CLK_TOD_CFG_TOD_EN : Fld := ⟨A.CLK_TOD_CFG, 4, 4⟩
abbrev F.CLK_TOD_CFG_LABEL : Fld := ⟨A.CLK_TOD_CFG, 3, 3⟩
abbrev F.CLK_TOD_CFG_BAUD : Fld := ⟨A.CLK_TOD_CFG, 2, 0⟩
abbrev F.CLK_HO_CFG_H : Fld := ⟨A.CLK_HO_CFG, 25, 16⟩
abbrev F.CLK_HO_CFG_W : Fld := ⟨A.CLK_HO_CFG, 9, 0⟩
abbrev F.CLK_HO_STATUS_HO_S : Fld := ⟨A.CLK_HO_STATUS, 31, 12⟩
abbrev F.CLK_HO_STATUS_SRC : Fld := ⟨A.CLK_HO_STATUS, 1, 0⟩
abbrev F.CLK_HIST_SEQ_SEQ : Fld := ⟨A.CLK_HIST_SEQ, 31, 0⟩
abbrev F.CLK_MISALIGN_NS : Fld := ⟨A.CLK_MISALIGN, 31, 0⟩
abbrev F.CLK_REALIGN_BUSY : Fld := ⟨A.CLK_REALIGN, 8, 8⟩
abbrev F.CLK_REALIGN_MEDIA : Fld := ⟨A.CLK_REALIGN, 4, 4⟩
abbrev F.CLK_REALIGN_TPO : Fld := ⟨A.CLK_REALIGN, 3, 0⟩
abbrev F.CLK_MEDIA_CFG_WCK_BASE : Fld := ⟨A.CLK_MEDIA_CFG, 5, 5⟩
abbrev F.CLK_MEDIA_CFG_WCK_EN : Fld := ⟨A.CLK_MEDIA_CFG, 4, 4⟩
abbrev F.CLK_MEDIA_CFG_RATE : Fld := ⟨A.CLK_MEDIA_CFG, 2, 0⟩
abbrev F.CLK_MCLK_CFG_BITS : Fld := ⟨A.CLK_MCLK_CFG, 7, 0⟩
abbrev F.CLK_WCK_PORTS_BITS : Fld := ⟨A.CLK_WCK_PORTS, 7, 0⟩
abbrev F.CLK_EVT_RATE_REFUSED : Fld := ⟨A.CLK_EVT, 12, 12⟩
abbrev F.CLK_EVT_REALIGN_REFUSED : Fld := ⟨A.CLK_EVT, 11, 11⟩
abbrev F.CLK_EVT_REALIGNED : Fld := ⟨A.CLK_EVT, 10, 10⟩
abbrev F.CLK_EVT_MISALIGN : Fld := ⟨A.CLK_EVT, 9, 9⟩
abbrev F.CLK_EVT_HOLDOVER : Fld := ⟨A.CLK_EVT, 8, 8⟩
abbrev F.CLK_EVT_RATE_CHG : Fld := ⟨A.CLK_EVT, 7, 7⟩
abbrev F.CLK_EVT_SOFT_WARN : Fld := ⟨A.CLK_EVT, 6, 6⟩
abbrev F.CLK_EVT_DISAGREE : Fld := ⟨A.CLK_EVT, 5, 5⟩
abbrev F.CLK_EVT_SUSPECT : Fld := ⟨A.CLK_EVT, 4, 4⟩
abbrev F.CLK_EVT_REF_QUAL : Fld := ⟨A.CLK_EVT, 3, 3⟩
abbrev F.CLK_EVT_REF_LOST : Fld := ⟨A.CLK_EVT, 2, 2⟩
abbrev F.CLK_EVT_SWITCH : Fld := ⟨A.CLK_EVT, 1, 1⟩
abbrev F.CLK_EVT_STATE_CHG : Fld := ⟨A.CLK_EVT, 0, 0⟩
abbrev F.CLK_EVT_EN_RATE_REFUSED : Fld := ⟨A.CLK_EVT_EN, 12, 12⟩
abbrev F.CLK_EVT_EN_REALIGN_REFUSED : Fld := ⟨A.CLK_EVT_EN, 11, 11⟩
abbrev F.CLK_EVT_EN_REALIGNED : Fld := ⟨A.CLK_EVT_EN, 10, 10⟩
abbrev F.CLK_EVT_EN_MISALIGN : Fld := ⟨A.CLK_EVT_EN, 9, 9⟩
abbrev F.CLK_EVT_EN_HOLDOVER : Fld := ⟨A.CLK_EVT_EN, 8, 8⟩
abbrev F.CLK_EVT_EN_RATE_CHG : Fld := ⟨A.CLK_EVT_EN, 7, 7⟩
abbrev F.CLK_EVT_EN_SOFT_WARN : Fld := ⟨A.CLK_EVT_EN, 6, 6⟩
abbrev F.CLK_EVT_EN_DISAGREE : Fld := ⟨A.CLK_EVT_EN, 5, 5⟩
abbrev F.CLK_EVT_EN_SUSPECT : Fld := ⟨A.CLK_EVT_EN, 4, 4⟩
abbrev F.CLK_EVT_EN_REF_QUAL : Fld := ⟨A.CLK_EVT_EN, 3, 3⟩
abbrev F.CLK_EVT_EN_REF_LOST : Fld := ⟨A.CLK_EVT_EN, 2, 2⟩
abbrev F.CLK_EVT_EN_SWITCH : Fld := ⟨A.CLK_EVT_EN, 1, 1⟩
abbrev F.CLK_EVT_EN_STATE_CHG : Fld := ⟨A.CLK_EVT_EN, 0, 0⟩
abbrev F.CLK_REF_INFO_FREQ (n : Nat) : Fld := ⟨(A.CLK_REF_INFO n), 31, 12⟩
abbrev F.CLK_REF_INFO_RATE (n : Nat) : Fld := ⟨(A.CLK_REF_INFO n), 11, 9⟩
abbrev F.CLK_REF_INFO_WHY (n : Nat) : Fld := ⟨(A.CLK_REF_INFO n), 8, 5⟩
abbrev F.CLK_REF_INFO_SOFT (n : Nat) : Fld := ⟨(A.CLK_REF_INFO n), 4, 4⟩
abbrev F.CLK_REF_INFO_SUSPECT (n : Nat) : Fld := ⟨(A.CLK_REF_INFO n), 3, 3⟩
abbrev F.CLK_REF_INFO_STATE (n : Nat) : Fld := ⟨(A.CLK_REF_INFO n), 1, 0⟩
abbrev F.CLK_HIST_FCW (n : Nat) : Fld := ⟨(A.CLK_HIST n), 31, 0⟩
abbrev F.STRM_CFG_WAKE_MIN : Fld := ⟨A.STRM_CFG, 10, 8⟩
abbrev F.STRM_ADJ_TOTAL_ADJ : Fld := ⟨A.STRM_ADJ_TOTAL, 31, 0⟩
abbrev F.STRM_ADJ_STATUS_JUMP_MUTE : Fld := ⟨A.STRM_ADJ_STATUS, 8, 8⟩
abbrev F.STRM_ADJ_STATUS_PEND : Fld := ⟨A.STRM_ADJ_STATUS, 7, 0⟩
abbrev F.STRM_HOLD_CFG_HOLD_MIB : Fld := ⟨A.STRM_HOLD_CFG, 4, 0⟩
abbrev F.STRM_HOLD_STATUS_FREE : Fld := ⟨A.STRM_HOLD_STATUS, 16, 0⟩
abbrev F.STRM_LAY_ACT_LO_BITS : Fld := ⟨A.STRM_LAY_ACT_LO, 31, 0⟩
abbrev F.STRM_LAY_ACT_HI_BITS : Fld := ⟨A.STRM_LAY_ACT_HI, 31, 0⟩
abbrev F.STRM_EVT_CNT_SAT : Fld := ⟨A.STRM_EVT, 8, 8⟩
abbrev F.STRM_EVT_WAKE : Fld := ⟨A.STRM_EVT, 7, 7⟩
abbrev F.STRM_EVT_LAY_IDLE : Fld := ⟨A.STRM_EVT, 6, 6⟩
abbrev F.STRM_EVT_LAY_ACTIVE : Fld := ⟨A.STRM_EVT, 5, 5⟩
abbrev F.STRM_EVT_ADJ_JUMP : Fld := ⟨A.STRM_EVT, 4, 4⟩
abbrev F.STRM_EVT_HOLD_FULL : Fld := ⟨A.STRM_EVT, 3, 3⟩
abbrev F.STRM_EVT_SSRC_CHG : Fld := ⟨A.STRM_EVT, 2, 2⟩
abbrev F.STRM_EVT_REFUSED : Fld := ⟨A.STRM_EVT, 1, 1⟩
abbrev F.STRM_EVT_CFG_REFUSED : Fld := ⟨A.STRM_EVT, 0, 0⟩
abbrev F.STRM_EVT_EN_CNT_SAT : Fld := ⟨A.STRM_EVT_EN, 8, 8⟩
abbrev F.STRM_EVT_EN_WAKE : Fld := ⟨A.STRM_EVT_EN, 7, 7⟩
abbrev F.STRM_EVT_EN_LAY_IDLE : Fld := ⟨A.STRM_EVT_EN, 6, 6⟩
abbrev F.STRM_EVT_EN_LAY_ACTIVE : Fld := ⟨A.STRM_EVT_EN, 5, 5⟩
abbrev F.STRM_EVT_EN_ADJ_JUMP : Fld := ⟨A.STRM_EVT_EN, 4, 4⟩
abbrev F.STRM_EVT_EN_HOLD_FULL : Fld := ⟨A.STRM_EVT_EN, 3, 3⟩
abbrev F.STRM_EVT_EN_SSRC_CHG : Fld := ⟨A.STRM_EVT_EN, 2, 2⟩
abbrev F.STRM_EVT_EN_REFUSED : Fld := ⟨A.STRM_EVT_EN, 1, 1⟩
abbrev F.STRM_EVT_EN_CFG_REFUSED : Fld := ⟨A.STRM_EVT_EN, 0, 0⟩
abbrev F.STRM_ADJ_SAMPLES_COUNT : Fld := ⟨A.STRM_ADJ_SAMPLES, 31, 0⟩
abbrev F.STRM_ADJ_JUMPS_COUNT : Fld := ⟨A.STRM_ADJ_JUMPS, 31, 0⟩
abbrev F.STRM_SAT_G_BITS : Fld := ⟨A.STRM_SAT_G, 1, 0⟩
abbrev F.STRM_L_RX_PKTS_COUNT (n : Nat) : Fld := ⟨(A.STRM_L_RX_PKTS n), 31, 0⟩
abbrev F.STRM_L_RX_BAD_COUNT (n : Nat) : Fld := ⟨(A.STRM_L_RX_BAD n), 31, 0⟩
abbrev F.STRM_L_HDR_MISMATCH_COUNT (n : Nat) : Fld := ⟨(A.STRM_L_HDR_MISMATCH n), 31, 0⟩
abbrev F.STRM_L_LEN_ERR_COUNT (n : Nat) : Fld := ⟨(A.STRM_L_LEN_ERR n), 31, 0⟩
abbrev F.STRM_L_SEQ_LOST_COUNT (n : Nat) : Fld := ⟨(A.STRM_L_SEQ_LOST n), 31, 0⟩
abbrev F.STRM_L_SEQ_OOO_COUNT (n : Nat) : Fld := ⟨(A.STRM_L_SEQ_OOO n), 31, 0⟩
abbrev F.STRM_L_DUP_COUNT (n : Nat) : Fld := ⟨(A.STRM_L_DUP n), 31, 0⟩
abbrev F.STRM_L_TS_WILD_COUNT (n : Nat) : Fld := ⟨(A.STRM_L_TS_WILD n), 31, 0⟩
abbrev F.STRM_L_HELD_COUNT (n : Nat) : Fld := ⟨(A.STRM_L_HELD n), 31, 0⟩
abbrev F.STRM_L_HOLD_FULL_COUNT (n : Nat) : Fld := ⟨(A.STRM_L_HOLD_FULL n), 31, 0⟩
abbrev F.STRM_L_HANDED_COUNT (n : Nat) : Fld := ⟨(A.STRM_L_HANDED n), 31, 0⟩
abbrev F.STRM_L_SSRC_CHG_COUNT (n : Nat) : Fld := ⟨(A.STRM_L_SSRC_CHG n), 31, 0⟩
abbrev F.STRM_L_PATH_FILL_COUNT (n : Nat) : Fld := ⟨(A.STRM_L_PATH_FILL n), 31, 0⟩
abbrev F.STRM_L_SAT_BITS (n : Nat) : Fld := ⟨(A.STRM_L_SAT n), 12, 0⟩
abbrev F.STRM_T_TX_PKTS_COUNT (n : Nat) : Fld := ⟨(A.STRM_T_TX_PKTS n), 31, 0⟩
abbrev F.STRM_T_TX_DROP_COUNT (n : Nat) : Fld := ⟨(A.STRM_T_TX_DROP n), 31, 0⟩
abbrev F.STRM_T_SAT_BITS (n : Nat) : Fld := ⟨(A.STRM_T_SAT n), 1, 0⟩
abbrev F.PLAY_CFG_CONCEAL_EF : Fld := ⟨A.PLAY_CFG, 11, 8⟩
abbrev F.PLAY_CFG_SLACK : Fld := ⟨A.PLAY_CFG, 3, 0⟩
abbrev F.PLAY_STATUS_HITCH_VALID : Fld := ⟨A.PLAY_STATUS, 15, 12⟩
abbrev F.PLAY_STATUS_REWINDING : Fld := ⟨A.PLAY_STATUS, 11, 11⟩
abbrev F.PLAY_STATUS_DEPTH : Fld := ⟨A.PLAY_STATUS, 10, 8⟩
abbrev F.PLAY_STATUS_RUNNING : Fld := ⟨A.PLAY_STATUS, 0, 0⟩
abbrev F.PLAY_NOW_EF_EF : Fld := ⟨A.PLAY_NOW_EF, 31, 0⟩
abbrev F.PLAY_CLEAT_EF_EF : Fld := ⟨A.PLAY_CLEAT_EF, 31, 0⟩
abbrev F.PLAY_HEAD_EF_EF : Fld := ⟨A.PLAY_HEAD_EF, 31, 0⟩
abbrev F.PLAY_RW_COST_NS : Fld := ⟨A.PLAY_RW_COST, 23, 0⟩
abbrev F.PLAY_HITCH_EF (n : Nat) : Fld := ⟨(A.PLAY_HITCH n), 31, 0⟩
abbrev F.PLAY_EVT_CFG_REFUSED : Fld := ⟨A.PLAY_EVT, 9, 9⟩
abbrev F.PLAY_EVT_CNT_SAT : Fld := ⟨A.PLAY_EVT, 8, 8⟩
abbrev F.PLAY_EVT_STAGE_FULL : Fld := ⟨A.PLAY_EVT, 7, 7⟩
abbrev F.PLAY_EVT_COMMIT_STALL : Fld := ⟨A.PLAY_EVT, 6, 6⟩
abbrev F.PLAY_EVT_HITCH_EVICT : Fld := ⟨A.PLAY_EVT, 5, 5⟩
abbrev F.PLAY_EVT_FADE : Fld := ⟨A.PLAY_EVT, 4, 4⟩
abbrev F.PLAY_EVT_LATE_NO_HITCH : Fld := ⟨A.PLAY_EVT, 3, 3⟩
abbrev F.PLAY_EVT_LATE_NO_BUDGET : Fld := ⟨A.PLAY_EVT, 2, 2⟩
abbrev F.PLAY_EVT_LATE_AFTER_CLEAT : Fld := ⟨A.PLAY_EVT, 1, 1⟩
abbrev F.PLAY_EVT_REWIND : Fld := ⟨A.PLAY_EVT, 0, 0⟩
abbrev F.PLAY_EVT_EN_CFG_REFUSED : Fld := ⟨A.PLAY_EVT_EN, 9, 9⟩
abbrev F.PLAY_EVT_EN_CNT_SAT : Fld := ⟨A.PLAY_EVT_EN, 8, 8⟩
abbrev F.PLAY_EVT_EN_STAGE_FULL : Fld := ⟨A.PLAY_EVT_EN, 7, 7⟩
abbrev F.PLAY_EVT_EN_COMMIT_STALL : Fld := ⟨A.PLAY_EVT_EN, 6, 6⟩
abbrev F.PLAY_EVT_EN_HITCH_EVICT : Fld := ⟨A.PLAY_EVT_EN, 5, 5⟩
abbrev F.PLAY_EVT_EN_FADE : Fld := ⟨A.PLAY_EVT_EN, 4, 4⟩
abbrev F.PLAY_EVT_EN_LATE_NO_HITCH : Fld := ⟨A.PLAY_EVT_EN, 3, 3⟩
abbrev F.PLAY_EVT_EN_LATE_NO_BUDGET : Fld := ⟨A.PLAY_EVT_EN, 2, 2⟩
abbrev F.PLAY_EVT_EN_LATE_AFTER_CLEAT : Fld := ⟨A.PLAY_EVT_EN, 1, 1⟩
abbrev F.PLAY_EVT_EN_REWIND : Fld := ⟨A.PLAY_EVT_EN, 0, 0⟩
abbrev F.PLAY_REWINDS_COUNT : Fld := ⟨A.PLAY_REWINDS, 31, 0⟩
abbrev F.PLAY_RW_EF_COUNT : Fld := ⟨A.PLAY_RW_EF, 31, 0⟩
abbrev F.PLAY_RW_RESTART_COUNT : Fld := ⟨A.PLAY_RW_RESTART, 31, 0⟩
abbrev F.PLAY_CNT_HITCH_EVICT_COUNT : Fld := ⟨A.PLAY_CNT_HITCH_EVICT, 31, 0⟩
abbrev F.PLAY_CNT_COMMIT_STALL_COUNT : Fld := ⟨A.PLAY_CNT_COMMIT_STALL, 31, 0⟩
abbrev F.PLAY_STAGE_DROP_COUNT : Fld := ⟨A.PLAY_STAGE_DROP, 31, 0⟩
abbrev F.PLAY_SAT_G_BITS : Fld := ⟨A.PLAY_SAT_G, 5, 0⟩
abbrev F.PLAY_LAY_REWOUND_COUNT (n : Nat) : Fld := ⟨(A.PLAY_LAY_REWOUND n), 31, 0⟩
abbrev F.PLAY_LAY_ABSORBED_COUNT (n : Nat) : Fld := ⟨(A.PLAY_LAY_ABSORBED n), 31, 0⟩
abbrev F.PLAY_LAY_LATE_AFTER_CLEAT_COUNT (n : Nat) : Fld := ⟨(A.PLAY_LAY_LATE_AFTER_CLEAT n), 31, 0⟩
abbrev F.PLAY_LAY_LATE_NO_BUDGET_COUNT (n : Nat) : Fld := ⟨(A.PLAY_LAY_LATE_NO_BUDGET n), 31, 0⟩
abbrev F.PLAY_LAY_LATE_NO_HITCH_COUNT (n : Nat) : Fld := ⟨(A.PLAY_LAY_LATE_NO_HITCH n), 31, 0⟩
abbrev F.PLAY_LAY_CONCEAL_EF_COUNT (n : Nat) : Fld := ⟨(A.PLAY_LAY_CONCEAL_EF n), 31, 0⟩
abbrev F.PLAY_LAY_FADES_COUNT (n : Nat) : Fld := ⟨(A.PLAY_LAY_FADES n), 31, 0⟩
abbrev F.PLAY_LAY_SAT_BITS (n : Nat) : Fld := ⟨(A.PLAY_LAY_SAT n), 6, 0⟩
abbrev F.ENG_CFG_REMAP_EN : Fld := ⟨A.ENG_CFG, 8, 8⟩
abbrev F.ENG_CFG_XPT_SLOT : Fld := ⟨A.ENG_CFG, 6, 4⟩
abbrev F.ENG_STATUS_USABLE : Fld := ⟨A.ENG_STATUS, 31, 16⟩
abbrev F.ENG_STATUS_PRESENT : Fld := ⟨A.ENG_STATUS, 15, 0⟩
abbrev F.ENG_SPAN_NS : Fld := ⟨A.ENG_SPAN, 23, 0⟩
abbrev F.ENG_SPAN_PEAK_NS : Fld := ⟨A.ENG_SPAN_PEAK, 23, 0⟩
abbrev F.ENG_EVT_CNT_SAT : Fld := ⟨A.ENG_EVT, 10, 10⟩
abbrev F.ENG_EVT_CTL_REFUSED : Fld := ⟨A.ENG_EVT, 9, 9⟩
abbrev F.ENG_EVT_CFG_REFUSED : Fld := ⟨A.ENG_EVT, 8, 8⟩
abbrev F.ENG_EVT_IMEM_REFUSED : Fld := ⟨A.ENG_EVT, 7, 7⟩
abbrev F.ENG_EVT_PROG_DROPPED : Fld := ⟨A.ENG_EVT, 6, 6⟩
abbrev F.ENG_EVT_REMAPPED : Fld := ⟨A.ENG_EVT, 5, 5⟩
abbrev F.ENG_EVT_RETIRED : Fld := ⟨A.ENG_EVT, 4, 4⟩
abbrev F.ENG_EVT_ECC_CORR : Fld := ⟨A.ENG_EVT, 3, 3⟩
abbrev F.ENG_EVT_ACCESS_TRAP : Fld := ⟨A.ENG_EVT, 2, 2⟩
abbrev F.ENG_EVT_FORCED_HALT : Fld := ⟨A.ENG_EVT, 1, 1⟩
abbrev F.ENG_EVT_OVERRUN : Fld := ⟨A.ENG_EVT, 0, 0⟩
abbrev F.ENG_EVT_EN_CNT_SAT : Fld := ⟨A.ENG_EVT_EN, 10, 10⟩
abbrev F.ENG_EVT_EN_CTL_REFUSED : Fld := ⟨A.ENG_EVT_EN, 9, 9⟩
abbrev F.ENG_EVT_EN_CFG_REFUSED : Fld := ⟨A.ENG_EVT_EN, 8, 8⟩
abbrev F.ENG_EVT_EN_IMEM_REFUSED : Fld := ⟨A.ENG_EVT_EN, 7, 7⟩
abbrev F.ENG_EVT_EN_PROG_DROPPED : Fld := ⟨A.ENG_EVT_EN, 6, 6⟩
abbrev F.ENG_EVT_EN_REMAPPED : Fld := ⟨A.ENG_EVT_EN, 5, 5⟩
abbrev F.ENG_EVT_EN_RETIRED : Fld := ⟨A.ENG_EVT_EN, 4, 4⟩
abbrev F.ENG_EVT_EN_ECC_CORR : Fld := ⟨A.ENG_EVT_EN, 3, 3⟩
abbrev F.ENG_EVT_EN_ACCESS_TRAP : Fld := ⟨A.ENG_EVT_EN, 2, 2⟩
abbrev F.ENG_EVT_EN_FORCED_HALT : Fld := ⟨A.ENG_EVT_EN, 1, 1⟩
abbrev F.ENG_EVT_EN_OVERRUN : Fld := ⟨A.ENG_EVT_EN, 0, 0⟩
abbrev F.ENG_PLACE_EF_EF : Fld := ⟨A.ENG_PLACE_EF, 31, 0⟩
abbrev F.ENG_PLACE_CTL_PENDING : Fld := ⟨A.ENG_PLACE_CTL, 1, 1⟩
abbrev F.ENG_PLACE_CTL_COMMIT : Fld := ⟨A.ENG_PLACE_CTL, 0, 0⟩
abbrev F.ENG_CORE_CTL_CLEAR_RETIRE (n : Nat) : Fld := ⟨(A.ENG_CORE_CTL n), 4, 4⟩
abbrev F.ENG_CORE_CTL_RETIRE (n : Nat) : Fld := ⟨(A.ENG_CORE_CTL n), 3, 3⟩
abbrev F.ENG_CORE_CTL_STEP (n : Nat) : Fld := ⟨(A.ENG_CORE_CTL n), 2, 2⟩
abbrev F.ENG_CORE_CTL_RESUME (n : Nat) : Fld := ⟨(A.ENG_CORE_CTL n), 1, 1⟩
abbrev F.ENG_CORE_CTL_STOP (n : Nat) : Fld := ⟨(A.ENG_CORE_CTL n), 0, 0⟩
abbrev F.ENG_CORE_STATUS_PC (n : Nat) : Fld := ⟨(A.ENG_CORE_STATUS n), 27, 16⟩
abbrev F.ENG_CORE_STATUS_CAUSE (n : Nat) : Fld := ⟨(A.ENG_CORE_STATUS n), 11, 8⟩
abbrev F.ENG_CORE_STATUS_CONSEC (n : Nat) : Fld := ⟨(A.ENG_CORE_STATUS n), 7, 6⟩
abbrev F.ENG_CORE_STATUS_STATE (n : Nat) : Fld := ⟨(A.ENG_CORE_STATUS n), 2, 0⟩
abbrev F.ENG_CORE_CERT_CYC (n : Nat) : Fld := ⟨(A.ENG_CORE_CERT n), 17, 0⟩
abbrev F.ENG_CORE_PEAK_CYC (n : Nat) : Fld := ⟨(A.ENG_CORE_PEAK n), 17, 0⟩
abbrev F.ENG_CORE_COMPUTES_COUNT (n : Nat) : Fld := ⟨(A.ENG_CORE_COMPUTES n), 31, 0⟩
abbrev F.ENG_CORE_OVERRUNS_COUNT (n : Nat) : Fld := ⟨(A.ENG_CORE_OVERRUNS n), 31, 0⟩
abbrev F.ENG_CORE_FORCED_HALTS_COUNT (n : Nat) : Fld := ⟨(A.ENG_CORE_FORCED_HALTS n), 31, 0⟩
abbrev F.ENG_CORE_ACCESS_TRAPS_COUNT (n : Nat) : Fld := ⟨(A.ENG_CORE_ACCESS_TRAPS n), 31, 0⟩
abbrev F.ENG_CORE_CNT_ECC_CORR_COUNT (n : Nat) : Fld := ⟨(A.ENG_CORE_CNT_ECC_CORR n), 31, 0⟩
abbrev F.ENG_CORE_SAT_BITS (n : Nat) : Fld := ⟨(A.ENG_CORE_SAT n), 4, 0⟩
abbrev F.ENG_REMAPS_COUNT : Fld := ⟨A.ENG_REMAPS, 31, 0⟩
abbrev F.ENG_PROGS_DROPPED_COUNT : Fld := ⟨A.ENG_PROGS_DROPPED, 31, 0⟩
abbrev F.ENG_SAT_G_BITS : Fld := ⟨A.ENG_SAT_G, 1, 0⟩
abbrev F.ENG_DESC_W0_EN (n : Nat) : Fld := ⟨(A.ENG_DESC_W0 n), 31, 31⟩
abbrev F.ENG_DESC_W0_PLACED (n : Nat) : Fld := ⟨(A.ENG_DESC_W0 n), 30, 30⟩
abbrev F.ENG_DESC_W0_DROPPED (n : Nat) : Fld := ⟨(A.ENG_DESC_W0 n), 29, 29⟩
abbrev F.ENG_DESC_W0_CORE (n : Nat) : Fld := ⟨(A.ENG_DESC_W0 n), 23, 20⟩
abbrev F.ENG_DESC_W0_PHASE (n : Nat) : Fld := ⟨(A.ENG_DESC_W0 n), 19, 18⟩
abbrev F.ENG_DESC_W0_NO_LAY (n : Nat) : Fld := ⟨(A.ENG_DESC_W0 n), 6, 6⟩
abbrev F.ENG_DESC_W0_LAY (n : Nat) : Fld := ⟨(A.ENG_DESC_W0 n), 5, 0⟩
abbrev F.ENG_DESC_W1_CERT_CYC (n : Nat) : Fld := ⟨(A.ENG_DESC_W1 n), 17, 0⟩
abbrev F.ENG_DESC_W2_ENTRY (n : Nat) : Fld := ⟨(A.ENG_DESC_W2 n), 27, 16⟩
abbrev F.ENG_DESC_W2_IMEM_LEN (n : Nat) : Fld := ⟨(A.ENG_DESC_W2 n), 11, 0⟩
abbrev F.ENG_DESC_W3_STATE_BASE (n : Nat) : Fld := ⟨(A.ENG_DESC_W3 n), 31, 16⟩
abbrev F.ENG_DESC_W3_STATE_LEN (n : Nat) : Fld := ⟨(A.ENG_DESC_W3 n), 15, 0⟩
abbrev F.ENG_DESC_W4_SCRATCH_BASE (n : Nat) : Fld := ⟨(A.ENG_DESC_W4 n), 31, 16⟩
abbrev F.ENG_DESC_W4_SCRATCH_LEN (n : Nat) : Fld := ⟨(A.ENG_DESC_W4 n), 15, 0⟩
abbrev F.ENG_DESC_W5_OUT_FIRST (n : Nat) : Fld := ⟨(A.ENG_DESC_W5 n), 31, 20⟩
abbrev F.ENG_DESC_W5_OUT_COUNT (n : Nat) : Fld := ⟨(A.ENG_DESC_W5 n), 12, 0⟩
abbrev F.ENG_DESC_W6_DLY_FIRST (n : Nat) : Fld := ⟨(A.ENG_DESC_W6 n), 31, 16⟩
abbrev F.ENG_DESC_W6_DLY_COUNT (n : Nat) : Fld := ⟨(A.ENG_DESC_W6 n), 15, 0⟩
abbrev F.ENG_PROG_STATUS_VALUE (n : Nat) : Fld := ⟨(A.ENG_PROG_STATUS n), 31, 0⟩
abbrev F.ENG_IMG_CTL_FORCE : Fld := ⟨A.ENG_IMG_CTL, 3, 3⟩
abbrev F.ENG_IMG_CTL_CHECK : Fld := ⟨A.ENG_IMG_CTL, 2, 2⟩
abbrev F.ENG_IMG_CTL_INSTALL : Fld := ⟨A.ENG_IMG_CTL, 1, 1⟩
abbrev F.ENG_IMG_CTL_BEGIN : Fld := ⟨A.ENG_IMG_CTL, 0, 0⟩
abbrev F.ENG_IMG_DATA_DATA : Fld := ⟨A.ENG_IMG_DATA, 31, 0⟩
abbrev F.ENG_IMG_STATUS_WORDS : Fld := ⟨A.ENG_IMG_STATUS, 31, 13⟩
abbrev F.ENG_IMG_STATUS_WHY : Fld := ⟨A.ENG_IMG_STATUS, 12, 8⟩
abbrev F.ENG_IMG_STATUS_DONE : Fld := ⟨A.ENG_IMG_STATUS, 4, 4⟩
abbrev F.ENG_IMG_STATUS_STATE : Fld := ⟨A.ENG_IMG_STATUS, 3, 0⟩
abbrev F.ENG_IMG_ID_ID : Fld := ⟨A.ENG_IMG_ID, 31, 0⟩
abbrev F.ENG_IMG_APPLY_EF_EF : Fld := ⟨A.ENG_IMG_APPLY_EF, 31, 0⟩
abbrev F.XPT_CFG_FIRST : Fld := ⟨A.XPT_CFG, 29, 16⟩
abbrev F.XPT_CFG_COUNT : Fld := ⟨A.XPT_CFG, 14, 0⟩
abbrev F.XPT_METER_CFG_MSG_EN : Fld := ⟨A.XPT_METER_CFG, 21, 21⟩
abbrev F.XPT_METER_CFG_PRIO : Fld := ⟨A.XPT_METER_CFG, 20, 18⟩
abbrev F.XPT_METER_CFG_QUEUE : Fld := ⟨A.XPT_METER_CFG, 17, 16⟩
abbrev F.XPT_METER_CFG_PERIOD : Fld := ⟨A.XPT_METER_CFG, 15, 0⟩
abbrev F.XPT_DLY_BANK_BANK : Fld := ⟨A.XPT_DLY_BANK, 4, 0⟩
abbrev F.XPT_EVT_CNT_SAT : Fld := ⟨A.XPT_EVT, 6, 6⟩
abbrev F.XPT_EVT_DLY_ECC_UNC : Fld := ⟨A.XPT_EVT, 5, 5⟩
abbrev F.XPT_EVT_DLY_ECC_CORR : Fld := ⟨A.XPT_EVT, 4, 4⟩
abbrev F.XPT_EVT_METER_DROP : Fld := ⟨A.XPT_EVT, 3, 3⟩
abbrev F.XPT_EVT_SPLIT_RUN : Fld := ⟨A.XPT_EVT, 2, 2⟩
abbrev F.XPT_EVT_BAD_ENTRY : Fld := ⟨A.XPT_EVT, 1, 1⟩
abbrev F.XPT_EVT_OUT_SAT : Fld := ⟨A.XPT_EVT, 0, 0⟩
abbrev F.XPT_EVT_EN_CNT_SAT : Fld := ⟨A.XPT_EVT_EN, 6, 6⟩
abbrev F.XPT_EVT_EN_DLY_ECC_UNC : Fld := ⟨A.XPT_EVT_EN, 5, 5⟩
abbrev F.XPT_EVT_EN_DLY_ECC_CORR : Fld := ⟨A.XPT_EVT_EN, 4, 4⟩
abbrev F.XPT_EVT_EN_METER_DROP : Fld := ⟨A.XPT_EVT_EN, 3, 3⟩
abbrev F.XPT_EVT_EN_SPLIT_RUN : Fld := ⟨A.XPT_EVT_EN, 2, 2⟩
abbrev F.XPT_EVT_EN_BAD_ENTRY : Fld := ⟨A.XPT_EVT_EN, 1, 1⟩
abbrev F.XPT_EVT_EN_OUT_SAT : Fld := ⟨A.XPT_EVT_EN, 0, 0⟩
abbrev F.XPT_CNT_OUT_SAT_COUNT : Fld := ⟨A.XPT_CNT_OUT_SAT, 31, 0⟩
abbrev F.XPT_CNT_LIM_SAMPLES_COUNT : Fld := ⟨A.XPT_CNT_LIM_SAMPLES, 31, 0⟩
abbrev F.XPT_CNT_BAD_ENTRY_COUNT : Fld := ⟨A.XPT_CNT_BAD_ENTRY, 31, 0⟩
abbrev F.XPT_CNT_SPLIT_RUN_COUNT : Fld := ⟨A.XPT_CNT_SPLIT_RUN, 31, 0⟩
abbrev F.XPT_CNT_METER_DROP_COUNT : Fld := ⟨A.XPT_CNT_METER_DROP, 31, 0⟩
abbrev F.XPT_CNT_DLY_ECC_CORR_COUNT : Fld := ⟨A.XPT_CNT_DLY_ECC_CORR, 31, 0⟩
abbrev F.XPT_CNT_DLY_ECC_UNC_COUNT : Fld := ⟨A.XPT_CNT_DLY_ECC_UNC, 31, 0⟩
abbrev F.XPT_CNT_SAT_BITS : Fld := ⟨A.XPT_CNT_SAT, 6, 0⟩
abbrev F.XPT_LIM_GAIN_GAIN (n : Nat) : Fld := ⟨(A.XPT_LIM_GAIN n), 31, 0⟩
abbrev F.XPT_METER_PEAK_CLIP (n : Nat) : Fld := ⟨(A.XPT_METER_PEAK n), 31, 31⟩
abbrev F.XPT_METER_PEAK_MAG (n : Nat) : Fld := ⟨(A.XPT_METER_PEAK n), 30, 0⟩
abbrev F.XPT_METER_MS_MS (n : Nat) : Fld := ⟨(A.XPT_METER_MS n), 31, 0⟩
abbrev F.TDM_PORT_CFG_EN (n : Nat) : Fld := ⟨(A.TDM_PORT_CFG n), 31, 31⟩
abbrev F.TDM_PORT_CFG_MASTER (n : Nat) : Fld := ⟨(A.TDM_PORT_CFG n), 30, 30⟩
abbrev F.TDM_PORT_CFG_FORMAT (n : Nat) : Fld := ⟨(A.TDM_PORT_CFG n), 29, 28⟩
abbrev F.TDM_PORT_CFG_SLOT_W (n : Nat) : Fld := ⟨(A.TDM_PORT_CFG n), 27, 26⟩
abbrev F.TDM_PORT_CFG_DATA_W (n : Nat) : Fld := ⟨(A.TDM_PORT_CFG n), 25, 24⟩
abbrev F.TDM_PORT_CFG_SLOTS (n : Nat) : Fld := ⟨(A.TDM_PORT_CFG n), 23, 19⟩
abbrev F.TDM_PORT_CFG_FS_WIDTH (n : Nat) : Fld := ⟨(A.TDM_PORT_CFG n), 18, 18⟩
abbrev F.TDM_PORT_CFG_FS_POL (n : Nat) : Fld := ⟨(A.TDM_PORT_CFG n), 17, 17⟩
abbrev F.TDM_PORT_CFG_DELAY (n : Nat) : Fld := ⟨(A.TDM_PORT_CFG n), 16, 16⟩
abbrev F.TDM_PORT_CFG_BCLK_POL (n : Nat) : Fld := ⟨(A.TDM_PORT_CFG n), 15, 15⟩
abbrev F.TDM_PORT_CFG_UNUSED_HIZ (n : Nat) : Fld := ⟨(A.TDM_PORT_CFG n), 14, 14⟩
abbrev F.TDM_PORT_CFG_IN_EN (n : Nat) : Fld := ⟨(A.TDM_PORT_CFG n), 13, 13⟩
abbrev F.TDM_PORT_CFG_OUT_EN (n : Nat) : Fld := ⟨(A.TDM_PORT_CFG n), 12, 12⟩
abbrev F.TDM_CTL_LOOP (n : Nat) : Fld := ⟨(A.TDM_CTL n), 3, 2⟩
abbrev F.TDM_CTL_MUTE (n : Nat) : Fld := ⟨(A.TDM_CTL n), 0, 0⟩
abbrev F.TDM_STATUS_FILL (n : Nat) : Fld := ⟨(A.TDM_STATUS n), 19, 16⟩
abbrev F.TDM_STATUS_REFUSED (n : Nat) : Fld := ⟨(A.TDM_STATUS n), 8, 8⟩
abbrev F.TDM_STATUS_WRONG_RATE (n : Nat) : Fld := ⟨(A.TDM_STATUS n), 7, 7⟩
abbrev F.TDM_STATUS_NO_CLOCK (n : Nat) : Fld := ⟨(A.TDM_STATUS n), 6, 6⟩
abbrev F.TDM_STATUS_TESTING (n : Nat) : Fld := ⟨(A.TDM_STATUS n), 5, 5⟩
abbrev F.TDM_STATUS_MAP_OVER (n : Nat) : Fld := ⟨(A.TDM_STATUS n), 4, 4⟩
abbrev F.TDM_STATUS_GAIN_STATE (n : Nat) : Fld := ⟨(A.TDM_STATUS n), 3, 2⟩
abbrev F.TDM_STATUS_RUNNING (n : Nat) : Fld := ⟨(A.TDM_STATUS n), 0, 0⟩
abbrev F.TDM_RATE_PPM (n : Nat) : Fld := ⟨(A.TDM_RATE n), 31, 8⟩
abbrev F.TDM_RATE_CLASS (n : Nat) : Fld := ⟨(A.TDM_RATE n), 7, 5⟩
abbrev F.TDM_RATE_VALID (n : Nat) : Fld := ⟨(A.TDM_RATE n), 4, 4⟩
abbrev F.TDM_PHASE_NS (n : Nat) : Fld := ⟨(A.TDM_PHASE n), 31, 0⟩
abbrev F.TDM_EVT_MAP_OVER : Fld := ⟨A.TDM_EVT, 25, 25⟩
abbrev F.TDM_EVT_CNT_SAT : Fld := ⟨A.TDM_EVT, 24, 24⟩
abbrev F.TDM_EVT_RATE_CHG : Fld := ⟨A.TDM_EVT, 23, 16⟩
abbrev F.TDM_EVT_SLIP : Fld := ⟨A.TDM_EVT, 15, 8⟩
abbrev F.TDM_EVT_NO_CLOCK : Fld := ⟨A.TDM_EVT, 7, 0⟩
abbrev F.TDM_EVT_EN_MAP_OVER : Fld := ⟨A.TDM_EVT_EN, 25, 25⟩
abbrev F.TDM_EVT_EN_CNT_SAT : Fld := ⟨A.TDM_EVT_EN, 24, 24⟩
abbrev F.TDM_EVT_EN_RATE_CHG : Fld := ⟨A.TDM_EVT_EN, 23, 16⟩
abbrev F.TDM_EVT_EN_SLIP : Fld := ⟨A.TDM_EVT_EN, 15, 8⟩
abbrev F.TDM_EVT_EN_NO_CLOCK : Fld := ⟨A.TDM_EVT_EN, 7, 0⟩
abbrev F.TDM_FADE_CFG_RAMP_MS : Fld := ⟨A.TDM_FADE_CFG, 15, 8⟩
abbrev F.TDM_FADE_CFG_FADE_MS : Fld := ⟨A.TDM_FADE_CFG, 7, 0⟩
abbrev F.TDM_SENSE_OK_PORT : Fld := ⟨A.TDM_SENSE_OK, 7, 0⟩
abbrev F.TDM_BIST_CFG_TEST_YIELD : Fld := ⟨A.TDM_BIST_CFG, 0, 0⟩
abbrev F.TDM_OUT_MAP_EN (n : Nat) (w : Nat) : Fld := ⟨(A.TDM_OUT_MAP n w), 31, 31⟩
abbrev F.TDM_OUT_MAP_BUS_SLOT (n : Nat) (w : Nat) : Fld := ⟨(A.TDM_OUT_MAP n w), 11, 0⟩
abbrev F.TDM_IN_MAP_EN (n : Nat) (w : Nat) : Fld := ⟨(A.TDM_IN_MAP n w), 31, 31⟩
abbrev F.TDM_IN_MAP_KIND (n : Nat) (w : Nat) : Fld := ⟨(A.TDM_IN_MAP n w), 30, 29⟩
abbrev F.TDM_IN_MAP_LINE (n : Nat) (w : Nat) : Fld := ⟨(A.TDM_IN_MAP n w), 27, 20⟩
abbrev F.TDM_IN_MAP_BUS_SLOT (n : Nat) (w : Nat) : Fld := ⟨(A.TDM_IN_MAP n w), 11, 0⟩
abbrev F.TDM_FRAME_ERR_COUNT (n : Nat) : Fld := ⟨(A.TDM_FRAME_ERR n), 31, 0⟩
abbrev F.TDM_UNDERRUN_COUNT (n : Nat) : Fld := ⟨(A.TDM_UNDERRUN n), 31, 0⟩
abbrev F.TDM_OVERRUN_COUNT (n : Nat) : Fld := ⟨(A.TDM_OVERRUN n), 31, 0⟩
abbrev F.TDM_LOS_COUNT (n : Nat) : Fld := ⟨(A.TDM_LOS n), 31, 0⟩
abbrev F.TDM_FADES_COUNT (n : Nat) : Fld := ⟨(A.TDM_FADES n), 31, 0⟩
abbrev F.TDM_SAT_BITS (n : Nat) : Fld := ⟨(A.TDM_SAT n), 4, 0⟩
abbrev F.PROOF_CFG_EN : Fld := ⟨A.PROOF_CFG, 31, 31⟩
abbrev F.PROOF_CFG_QUEUE : Fld := ⟨A.PROOF_CFG, 30, 29⟩
abbrev F.PROOF_CFG_PRIO : Fld := ⟨A.PROOF_CFG, 28, 26⟩
abbrev F.PROOF_CFG_NOSENSE_S : Fld := ⟨A.PROOF_CFG, 15, 8⟩
abbrev F.PROOF_CFG_UNPROVEN_M : Fld := ⟨A.PROOF_CFG, 7, 0⟩
abbrev F.PROOF_STATUS_RETIRED_N : Fld := ⟨A.PROOF_STATUS, 15, 8⟩
abbrev F.PROOF_STATUS_PATH_FAULT : Fld := ⟨A.PROOF_STATUS, 3, 3⟩
abbrev F.PROOF_STATUS_SUPERVISION : Fld := ⟨A.PROOF_STATUS, 2, 2⟩
abbrev F.PROOF_STATUS_UNPROVEN : Fld := ⟨A.PROOF_STATUS, 1, 1⟩
abbrev F.PROOF_STATUS_FAULT : Fld := ⟨A.PROOF_STATUS, 0, 0⟩
abbrev F.PROOF_CMD_LINE : Fld := ⟨A.PROOF_CMD, 15, 8⟩
abbrev F.PROOF_CMD_ALL : Fld := ⟨A.PROOF_CMD, 7, 7⟩
abbrev F.PROOF_CMD_PATH_CLEAR : Fld := ⟨A.PROOF_CMD, 6, 6⟩
abbrev F.PROOF_CMD_ABORT_RUN : Fld := ⟨A.PROOF_CMD, 5, 5⟩
abbrev F.PROOF_CMD_RUN : Fld := ⟨A.PROOF_CMD, 4, 4⟩
abbrev F.PROOF_CMD_CLEAR : Fld := ⟨A.PROOF_CMD, 3, 3⟩
abbrev F.PROOF_CMD_RETIRE : Fld := ⟨A.PROOF_CMD, 2, 2⟩
abbrev F.PROOF_CMD_COMMISSION : Fld := ⟨A.PROOF_CMD, 1, 1⟩
abbrev F.PROOF_RUN_CFG_WINDOW_MIN : Fld := ⟨A.PROOF_RUN_CFG, 31, 24⟩
abbrev F.PROOF_RUN_CFG_RESUME_S : Fld := ⟨A.PROOF_RUN_CFG, 23, 16⟩
abbrev F.PROOF_RUN_CFG_RUN_DB : Fld := ⟨A.PROOF_RUN_CFG, 15, 8⟩
abbrev F.PROOF_RUN_CFG_PATH_EN : Fld := ⟨A.PROOF_RUN_CFG, 7, 7⟩
abbrev F.PROOF_RUN_CFG_YIELD_MIN : Fld := ⟨A.PROOF_RUN_CFG, 6, 4⟩
abbrev F.PROOF_RUN_STATUS_STATE : Fld := ⟨A.PROOF_RUN_STATUS, 31, 28⟩
abbrev F.PROOF_RUN_STATUS_ABORTS : Fld := ⟨A.PROOF_RUN_STATUS, 27, 20⟩
abbrev F.PROOF_RUN_STATUS_LINES_LEFT : Fld := ⟨A.PROOF_RUN_STATUS, 19, 11⟩
abbrev F.PROOF_EVT_CNT_SAT : Fld := ⟨A.PROOF_EVT, 13, 13⟩
abbrev F.PROOF_EVT_CMD_REFUSED : Fld := ⟨A.PROOF_EVT, 12, 12⟩
abbrev F.PROOF_EVT_REFUSED : Fld := ⟨A.PROOF_EVT, 11, 11⟩
abbrev F.PROOF_EVT_PATH_FAULT : Fld := ⟨A.PROOF_EVT, 10, 10⟩
abbrev F.PROOF_EVT_RUN_ABORT : Fld := ⟨A.PROOF_EVT, 9, 9⟩
abbrev F.PROOF_EVT_RUN_DONE : Fld := ⟨A.PROOF_EVT, 8, 8⟩
abbrev F.PROOF_EVT_COMM_FAIL : Fld := ⟨A.PROOF_EVT, 7, 7⟩
abbrev F.PROOF_EVT_COMM_DONE : Fld := ⟨A.PROOF_EVT, 6, 6⟩
abbrev F.PROOF_EVT_UNPROVEN : Fld := ⟨A.PROOF_EVT, 5, 5⟩
abbrev F.PROOF_EVT_SUPERVISION : Fld := ⟨A.PROOF_EVT, 4, 4⟩
abbrev F.PROOF_EVT_RESTORED : Fld := ⟨A.PROOF_EVT, 3, 3⟩
abbrev F.PROOF_EVT_CHANGEOVER : Fld := ⟨A.PROOF_EVT, 2, 2⟩
abbrev F.PROOF_EVT_RETIRED : Fld := ⟨A.PROOF_EVT, 1, 1⟩
abbrev F.PROOF_EVT_VERDICT : Fld := ⟨A.PROOF_EVT, 0, 0⟩
abbrev F.PROOF_EVT_EN_CNT_SAT : Fld := ⟨A.PROOF_EVT_EN, 13, 13⟩
abbrev F.PROOF_EVT_EN_CMD_REFUSED : Fld := ⟨A.PROOF_EVT_EN, 12, 12⟩
abbrev F.PROOF_EVT_EN_REFUSED : Fld := ⟨A.PROOF_EVT_EN, 11, 11⟩
abbrev F.PROOF_EVT_EN_PATH_FAULT : Fld := ⟨A.PROOF_EVT_EN, 10, 10⟩
abbrev F.PROOF_EVT_EN_RUN_ABORT : Fld := ⟨A.PROOF_EVT_EN, 9, 9⟩
abbrev F.PROOF_EVT_EN_RUN_DONE : Fld := ⟨A.PROOF_EVT_EN, 8, 8⟩
abbrev F.PROOF_EVT_EN_COMM_FAIL : Fld := ⟨A.PROOF_EVT_EN, 7, 7⟩
abbrev F.PROOF_EVT_EN_COMM_DONE : Fld := ⟨A.PROOF_EVT_EN, 6, 6⟩
abbrev F.PROOF_EVT_EN_UNPROVEN : Fld := ⟨A.PROOF_EVT_EN, 5, 5⟩
abbrev F.PROOF_EVT_EN_SUPERVISION : Fld := ⟨A.PROOF_EVT_EN, 4, 4⟩
abbrev F.PROOF_EVT_EN_RESTORED : Fld := ⟨A.PROOF_EVT_EN, 3, 3⟩
abbrev F.PROOF_EVT_EN_CHANGEOVER : Fld := ⟨A.PROOF_EVT_EN, 2, 2⟩
abbrev F.PROOF_EVT_EN_RETIRED : Fld := ⟨A.PROOF_EVT_EN, 1, 1⟩
abbrev F.PROOF_EVT_EN_VERDICT : Fld := ⟨A.PROOF_EVT_EN, 0, 0⟩
abbrev F.PROOF_HV_CFG_EN (n : Nat) : Fld := ⟨(A.PROOF_HV_CFG n), 31, 31⟩
abbrev F.PROOF_HV_CFG_RANGE (n : Nat) : Fld := ⟨(A.PROOF_HV_CFG n), 30, 30⟩
abbrev F.PROOF_HV_CFG_OVR (n : Nat) : Fld := ⟨(A.PROOF_HV_CFG n), 29, 29⟩
abbrev F.PROOF_HV_CFG_BUS_SLOT (n : Nat) : Fld := ⟨(A.PROOF_HV_CFG n), 11, 0⟩
abbrev F.PROOF_CNT_VERDICTS_COUNT : Fld := ⟨A.PROOF_CNT_VERDICTS, 31, 0⟩
abbrev F.PROOF_CNT_PARTIAL_COUNT : Fld := ⟨A.PROOF_CNT_PARTIAL, 31, 0⟩
abbrev F.PROOF_CNT_REC_ERR_COUNT : Fld := ⟨A.PROOF_CNT_REC_ERR, 31, 0⟩
abbrev F.PROOF_CNT_INDET_COUNT : Fld := ⟨A.PROOF_CNT_INDET, 31, 0⟩
abbrev F.PROOF_CNT_RETRIES_COUNT : Fld := ⟨A.PROOF_CNT_RETRIES, 31, 0⟩
abbrev F.PROOF_CNT_RETIREMENTS_COUNT : Fld := ⟨A.PROOF_CNT_RETIREMENTS, 31, 0⟩
abbrev F.PROOF_CNT_CHANGEOVERS_COUNT : Fld := ⟨A.PROOF_CNT_CHANGEOVERS, 31, 0⟩
abbrev F.PROOF_CNT_RESTORES_COUNT : Fld := ⟨A.PROOF_CNT_RESTORES, 31, 0⟩
abbrev F.PROOF_CNT_RUN_ABORTS_COUNT : Fld := ⟨A.PROOF_CNT_RUN_ABORTS, 31, 0⟩
abbrev F.PROOF_CNT_PATH_LOSS_COUNT : Fld := ⟨A.PROOF_CNT_PATH_LOSS, 31, 0⟩
abbrev F.PROOF_CNT_SAT_BITS : Fld := ⟨A.PROOF_CNT_SAT, 9, 0⟩
abbrev F.PROOF_REC_WORD (n : Nat) (w : Nat) : Fld := ⟨(A.PROOF_REC n w), 31, 0⟩
abbrev F.SPLICE_CFG_REVERT : Fld := ⟨A.SPLICE_CFG, 7, 7⟩
abbrev F.SPLICE_CFG_DN_EN : Fld := ⟨A.SPLICE_CFG, 4, 4⟩
abbrev F.SPLICE_CFG_UP_EN : Fld := ⟨A.SPLICE_CFG, 3, 3⟩
abbrev F.SPLICE_CFG_MODE : Fld := ⟨A.SPLICE_CFG, 0, 0⟩
abbrev F.SPLICE_STATUS_MEMBER_FAULT : Fld := ⟨A.SPLICE_STATUS, 31, 28⟩
abbrev F.SPLICE_STATUS_STACK_SIZE : Fld := ⟨A.SPLICE_STATUS, 23, 20⟩
abbrev F.SPLICE_STATUS_POSITION : Fld := ⟨A.SPLICE_STATUS, 17, 16⟩
abbrev F.SPLICE_STATUS_ROLE : Fld := ⟨A.SPLICE_STATUS, 11, 8⟩
abbrev F.SPLICE_STATUS_ALIGNED : Fld := ⟨A.SPLICE_STATUS, 1, 1⟩
abbrev F.SPLICE_STATUS_STRAP : Fld := ⟨A.SPLICE_STATUS, 0, 0⟩
abbrev F.SPLICE_CTL_YIELD : Fld := ⟨A.SPLICE_CTL, 2, 2⟩
abbrev F.SPLICE_CTL_RETRAIN_DN : Fld := ⟨A.SPLICE_CTL, 1, 1⟩
abbrev F.SPLICE_CTL_RETRAIN_UP : Fld := ⟨A.SPLICE_CTL, 0, 0⟩
abbrev F.SPLICE_ASYM_UP : Fld := ⟨A.SPLICE_ASYM, 31, 16⟩
abbrev F.SPLICE_ASYM_DN : Fld := ⟨A.SPLICE_ASYM, 15, 0⟩
abbrev F.SPLICE_PORT_STATUS_LINK_DELAY (n : Nat) : Fld := ⟨(A.SPLICE_PORT_STATUS n), 31, 16⟩
abbrev F.SPLICE_PORT_STATUS_DELAY_VALID (n : Nat) : Fld := ⟨(A.SPLICE_PORT_STATUS n), 2, 2⟩
abbrev F.SPLICE_PORT_STATUS_BLOCK_LOCK (n : Nat) : Fld := ⟨(A.SPLICE_PORT_STATUS n), 1, 1⟩
abbrev F.SPLICE_PORT_STATUS_LINK (n : Nat) : Fld := ⟨(A.SPLICE_PORT_STATUS n), 0, 0⟩
abbrev F.SPLICE_FWD_ADDR_POS : Fld := ⟨A.SPLICE_FWD_ADDR, 29, 28⟩
abbrev F.SPLICE_FWD_ADDR_ADDR : Fld := ⟨A.SPLICE_FWD_ADDR, 23, 0⟩
abbrev F.SPLICE_FWD_DATA_DATA : Fld := ⟨A.SPLICE_FWD_DATA, 31, 0⟩
abbrev F.SPLICE_FWD_CTL_RESULT : Fld := ⟨A.SPLICE_FWD_CTL, 7, 4⟩
abbrev F.SPLICE_FWD_CTL_BUSY : Fld := ⟨A.SPLICE_FWD_CTL, 2, 2⟩
abbrev F.SPLICE_FWD_CTL_RD : Fld := ⟨A.SPLICE_FWD_CTL, 1, 1⟩
abbrev F.SPLICE_FWD_CTL_WR : Fld := ⟨A.SPLICE_FWD_CTL, 0, 0⟩
abbrev F.SPLICE_EVT_CNT_SAT : Fld := ⟨A.SPLICE_EVT, 13, 13⟩
abbrev F.SPLICE_EVT_CFG_REFUSED : Fld := ⟨A.SPLICE_EVT, 12, 12⟩
abbrev F.SPLICE_EVT_FWD_REFUSED : Fld := ⟨A.SPLICE_EVT, 11, 11⟩
abbrev F.SPLICE_EVT_FWD_DONE : Fld := ⟨A.SPLICE_EVT, 10, 10⟩
abbrev F.SPLICE_EVT_RATE_MISMATCH : Fld := ⟨A.SPLICE_EVT, 9, 9⟩
abbrev F.SPLICE_EVT_CHAIN_LONG : Fld := ⟨A.SPLICE_EVT, 8, 8⟩
abbrev F.SPLICE_EVT_STRAP_CONFLICT : Fld := ⟨A.SPLICE_EVT, 7, 7⟩
abbrev F.SPLICE_EVT_YIELDED : Fld := ⟨A.SPLICE_EVT, 6, 6⟩
abbrev F.SPLICE_EVT_SUCCESSION : Fld := ⟨A.SPLICE_EVT, 5, 5⟩
abbrev F.SPLICE_EVT_ALIGN_LOST : Fld := ⟨A.SPLICE_EVT, 4, 4⟩
abbrev F.SPLICE_EVT_ALIGNED : Fld := ⟨A.SPLICE_EVT, 3, 3⟩
abbrev F.SPLICE_EVT_LINK_CHG_DN : Fld := ⟨A.SPLICE_EVT, 1, 1⟩
abbrev F.SPLICE_EVT_LINK_CHG_UP : Fld := ⟨A.SPLICE_EVT, 0, 0⟩
abbrev F.SPLICE_EVT_EN_CNT_SAT : Fld := ⟨A.SPLICE_EVT_EN, 13, 13⟩
abbrev F.SPLICE_EVT_EN_CFG_REFUSED : Fld := ⟨A.SPLICE_EVT_EN, 12, 12⟩
abbrev F.SPLICE_EVT_EN_FWD_REFUSED : Fld := ⟨A.SPLICE_EVT_EN, 11, 11⟩
abbrev F.SPLICE_EVT_EN_FWD_DONE : Fld := ⟨A.SPLICE_EVT_EN, 10, 10⟩
abbrev F.SPLICE_EVT_EN_RATE_MISMATCH : Fld := ⟨A.SPLICE_EVT_EN, 9, 9⟩
abbrev F.SPLICE_EVT_EN_CHAIN_LONG : Fld := ⟨A.SPLICE_EVT_EN, 8, 8⟩
abbrev F.SPLICE_EVT_EN_STRAP_CONFLICT : Fld := ⟨A.SPLICE_EVT_EN, 7, 7⟩
abbrev F.SPLICE_EVT_EN_YIELDED : Fld := ⟨A.SPLICE_EVT_EN, 6, 6⟩
abbrev F.SPLICE_EVT_EN_SUCCESSION : Fld := ⟨A.SPLICE_EVT_EN, 5, 5⟩
abbrev F.SPLICE_EVT_EN_ALIGN_LOST : Fld := ⟨A.SPLICE_EVT_EN, 4, 4⟩
abbrev F.SPLICE_EVT_EN_ALIGNED : Fld := ⟨A.SPLICE_EVT_EN, 3, 3⟩
abbrev F.SPLICE_EVT_EN_LINK_CHG_DN : Fld := ⟨A.SPLICE_EVT_EN, 1, 1⟩
abbrev F.SPLICE_EVT_EN_LINK_CHG_UP : Fld := ⟨A.SPLICE_EVT_EN, 0, 0⟩
abbrev F.SPLICE_FRAMES_RX_COUNT (n : Nat) : Fld := ⟨(A.SPLICE_FRAMES_RX n), 31, 0⟩
abbrev F.SPLICE_CRC_ERR_COUNT (n : Nat) : Fld := ⟨(A.SPLICE_CRC_ERR n), 31, 0⟩
abbrev F.SPLICE_FRAME_MISS_COUNT (n : Nat) : Fld := ⟨(A.SPLICE_FRAME_MISS n), 31, 0⟩
abbrev F.SPLICE_PASS_LATE_COUNT (n : Nat) : Fld := ⟨(A.SPLICE_PASS_LATE n), 31, 0⟩
abbrev F.SPLICE_CTRL_DROP_COUNT (n : Nat) : Fld := ⟨(A.SPLICE_CTRL_DROP n), 31, 0⟩
abbrev F.SPLICE_CNT_LINK_DOWN_COUNT (n : Nat) : Fld := ⟨(A.SPLICE_CNT_LINK_DOWN n), 31, 0⟩
abbrev F.SPLICE_SAT_BITS (n : Nat) : Fld := ⟨(A.SPLICE_SAT n), 5, 0⟩
abbrev F.HMQ_CFG_CT_64 (n : Nat) : Fld := ⟨(A.HMQ_CFG n), 6, 0⟩
abbrev F.HMQ_STATUS_LOCKED (n : Nat) : Fld := ⟨(A.HMQ_STATUS n), 31, 31⟩
abbrev F.HMQ_STATUS_DEPTH (n : Nat) : Fld := ⟨(A.HMQ_STATUS n), 30, 16⟩
abbrev F.HMQ_STATUS_MSGS (n : Nat) : Fld := ⟨(A.HMQ_STATUS n), 15, 4⟩
abbrev F.HMQ_FREE_WORDS (n : Nat) : Fld := ⟨(A.HMQ_FREE n), 14, 0⟩
abbrev F.HMQ_CUR_BODY_LEN (n : Nat) : Fld := ⟨(A.HMQ_CUR n), 31, 19⟩
abbrev F.HMQ_CUR_PRIO (n : Nat) : Fld := ⟨(A.HMQ_CUR n), 18, 16⟩
abbrev F.HMQ_CUR_VALID (n : Nat) : Fld := ⟨(A.HMQ_CUR n), 15, 15⟩
abbrev F.HMQ_CUR_LEFT (n : Nat) : Fld := ⟨(A.HMQ_CUR n), 10, 0⟩
abbrev F.HMQ_RD_DATA_DATA (n : Nat) : Fld := ⟨(A.HMQ_RD_DATA n), 31, 0⟩
abbrev F.HMQ_CTL_FLUSH (n : Nat) : Fld := ⟨(A.HMQ_CTL n), 0, 0⟩
abbrev F.HMQ_EVT_CNT_SAT (n : Nat) : Fld := ⟨(A.HMQ_EVT n), 4, 4⟩
abbrev F.HMQ_EVT_PTR_ERR (n : Nat) : Fld := ⟨(A.HMQ_EVT n), 3, 3⟩
abbrev F.HMQ_EVT_OVF (n : Nat) : Fld := ⟨(A.HMQ_EVT n), 2, 2⟩
abbrev F.HMQ_EVT_UNDERRUN (n : Nat) : Fld := ⟨(A.HMQ_EVT n), 1, 1⟩
abbrev F.HMQ_EVT_NOTICE (n : Nat) : Fld := ⟨(A.HMQ_EVT n), 0, 0⟩
abbrev F.HMQ_EVT_EN_CNT_SAT (n : Nat) : Fld := ⟨(A.HMQ_EVT_EN n), 4, 4⟩
abbrev F.HMQ_EVT_EN_PTR_ERR (n : Nat) : Fld := ⟨(A.HMQ_EVT_EN n), 3, 3⟩
abbrev F.HMQ_EVT_EN_OVF (n : Nat) : Fld := ⟨(A.HMQ_EVT_EN n), 2, 2⟩
abbrev F.HMQ_EVT_EN_UNDERRUN (n : Nat) : Fld := ⟨(A.HMQ_EVT_EN n), 1, 1⟩
abbrev F.HMQ_EVT_EN_NOTICE (n : Nat) : Fld := ⟨(A.HMQ_EVT_EN n), 0, 0⟩
abbrev F.HMQ_CNT_PUSHED_COUNT (n : Nat) : Fld := ⟨(A.HMQ_CNT_PUSHED n), 31, 0⟩
abbrev F.HMQ_CNT_READ_COUNT (n : Nat) : Fld := ⟨(A.HMQ_CNT_READ n), 31, 0⟩
abbrev F.HMQ_CNT_DROPPED_COUNT (n : Nat) : Fld := ⟨(A.HMQ_CNT_DROPPED n), 31, 0⟩
abbrev F.HMQ_CNT_LOST_PTR_COUNT (n : Nat) : Fld := ⟨(A.HMQ_CNT_LOST_PTR n), 31, 0⟩
abbrev F.HMQ_CNT_FLUSHED_COUNT (n : Nat) : Fld := ⟨(A.HMQ_CNT_FLUSHED n), 31, 0⟩
abbrev F.HMQ_CNT_UNDERRUNS_COUNT (n : Nat) : Fld := ⟨(A.HMQ_CNT_UNDERRUNS n), 31, 0⟩
abbrev F.HMQ_CNT_SAT_BITS (n : Nat) : Fld := ⟨(A.HMQ_CNT_SAT n), 5, 0⟩
abbrev F.MGMT_EVT_LIFE_SAT : Fld := ⟨A.MGMT_EVT, 12, 12⟩
abbrev F.MGMT_EVT_KEY_CHANGED : Fld := ⟨A.MGMT_EVT, 11, 11⟩
abbrev F.MGMT_EVT_ROLLED_BACK : Fld := ⟨A.MGMT_EVT, 10, 10⟩
abbrev F.MGMT_EVT_CONFIRMED : Fld := ⟨A.MGMT_EVT, 9, 9⟩
abbrev F.MGMT_EVT_FW_REFUSED : Fld := ⟨A.MGMT_EVT, 8, 8⟩
abbrev F.MGMT_EVT_FW_VERIFIED : Fld := ⟨A.MGMT_EVT, 7, 7⟩
abbrev F.MGMT_EVT_CFG_SAVE_FAIL : Fld := ⟨A.MGMT_EVT, 6, 6⟩
abbrev F.MGMT_EVT_CFG_SAVED : Fld := ⟨A.MGMT_EVT, 5, 5⟩
abbrev F.MGMT_EVT_TIME_GAP : Fld := ⟨A.MGMT_EVT, 4, 4⟩
abbrev F.MGMT_EVT_BYPASS_WEAR : Fld := ⟨A.MGMT_EVT, 3, 3⟩
abbrev F.MGMT_EVT_SENS_WARN : Fld := ⟨A.MGMT_EVT, 2, 2⟩
abbrev F.MGMT_EVT_SCHED_MISSED : Fld := ⟨A.MGMT_EVT, 1, 1⟩
abbrev F.MGMT_EVT_LOG_LOST : Fld := ⟨A.MGMT_EVT, 0, 0⟩
abbrev F.MGMT_EVT_EN_LIFE_SAT : Fld := ⟨A.MGMT_EVT_EN, 12, 12⟩
abbrev F.MGMT_EVT_EN_KEY_CHANGED : Fld := ⟨A.MGMT_EVT_EN, 11, 11⟩
abbrev F.MGMT_EVT_EN_ROLLED_BACK : Fld := ⟨A.MGMT_EVT_EN, 10, 10⟩
abbrev F.MGMT_EVT_EN_CONFIRMED : Fld := ⟨A.MGMT_EVT_EN, 9, 9⟩
abbrev F.MGMT_EVT_EN_FW_REFUSED : Fld := ⟨A.MGMT_EVT_EN, 8, 8⟩
abbrev F.MGMT_EVT_EN_FW_VERIFIED : Fld := ⟨A.MGMT_EVT_EN, 7, 7⟩
abbrev F.MGMT_EVT_EN_CFG_SAVE_FAIL : Fld := ⟨A.MGMT_EVT_EN, 6, 6⟩
abbrev F.MGMT_EVT_EN_CFG_SAVED : Fld := ⟨A.MGMT_EVT_EN, 5, 5⟩
abbrev F.MGMT_EVT_EN_TIME_GAP : Fld := ⟨A.MGMT_EVT_EN, 4, 4⟩
abbrev F.MGMT_EVT_EN_BYPASS_WEAR : Fld := ⟨A.MGMT_EVT_EN, 3, 3⟩
abbrev F.MGMT_EVT_EN_SENS_WARN : Fld := ⟨A.MGMT_EVT_EN, 2, 2⟩
abbrev F.MGMT_EVT_EN_SCHED_MISSED : Fld := ⟨A.MGMT_EVT_EN, 1, 1⟩
abbrev F.MGMT_EVT_EN_LOG_LOST : Fld := ⟨A.MGMT_EVT_EN, 0, 0⟩
abbrev F.MGMT_RTC_STATUS_HELD : Fld := ⟨A.MGMT_RTC_STATUS, 3, 3⟩
abbrev F.MGMT_RTC_STATUS_SRC : Fld := ⟨A.MGMT_RTC_STATUS, 2, 0⟩
abbrev F.MGMT_TZ_STD_STD_OFF : Fld := ⟨A.MGMT_TZ_STD, 31, 16⟩
abbrev F.MGMT_TZ_STD_DST_SHIFT : Fld := ⟨A.MGMT_TZ_STD, 15, 8⟩
abbrev F.MGMT_TZ_STD_DST_EN : Fld := ⟨A.MGMT_TZ_STD, 0, 0⟩
abbrev F.MGMT_TZ_DST_MONTH (n : Nat) : Fld := ⟨(A.MGMT_TZ_DST n), 20, 17⟩
abbrev F.MGMT_TZ_DST_WEEK (n : Nat) : Fld := ⟨(A.MGMT_TZ_DST n), 16, 14⟩
abbrev F.MGMT_TZ_DST_DAY (n : Nat) : Fld := ⟨(A.MGMT_TZ_DST n), 13, 11⟩
abbrev F.MGMT_TZ_DST_MINUTE (n : Nat) : Fld := ⟨(A.MGMT_TZ_DST n), 10, 0⟩
abbrev F.MGMT_LOCAL_YEAR : Fld := ⟨A.MGMT_LOCAL, 31, 20⟩
abbrev F.MGMT_LOCAL_MONTH : Fld := ⟨A.MGMT_LOCAL, 19, 16⟩
abbrev F.MGMT_LOCAL_DAY : Fld := ⟨A.MGMT_LOCAL, 15, 11⟩
abbrev F.MGMT_LOCAL_HOUR : Fld := ⟨A.MGMT_LOCAL, 10, 6⟩
abbrev F.MGMT_LOCAL_MINUTE : Fld := ⟨A.MGMT_LOCAL, 5, 0⟩
abbrev F.MGMT_CFG_CTL_SAVE : Fld := ⟨A.MGMT_CFG_CTL, 0, 0⟩
abbrev F.MGMT_CFG_STATUS_BUSY : Fld := ⟨A.MGMT_CFG_STATUS, 31, 31⟩
abbrev F.MGMT_CFG_STATUS_PENDING : Fld := ⟨A.MGMT_CFG_STATUS, 30, 30⟩
abbrev F.MGMT_CFG_STATUS_LAST : Fld := ⟨A.MGMT_CFG_STATUS, 29, 28⟩
abbrev F.MGMT_CFG_STATUS_SLOT : Fld := ⟨A.MGMT_CFG_STATUS, 0, 0⟩
abbrev F.MGMT_CFG_GEN_GEN : Fld := ⟨A.MGMT_CFG_GEN, 31, 0⟩
abbrev F.MGMT_KEY_CTL_COMMIT : Fld := ⟨A.MGMT_KEY_CTL, 0, 0⟩
abbrev F.MGMT_KEY_STATUS_VERSION : Fld := ⟨A.MGMT_KEY_STATUS, 31, 16⟩
abbrev F.MGMT_KEY_STATUS_BUSY : Fld := ⟨A.MGMT_KEY_STATUS, 2, 2⟩
abbrev F.MGMT_KEY_STATUS_REFUSED : Fld := ⟨A.MGMT_KEY_STATUS, 1, 1⟩
abbrev F.MGMT_KEY_STATUS_VALID : Fld := ⟨A.MGMT_KEY_STATUS, 0, 0⟩
abbrev F.MGMT_KEY_STAGE_BYTES (n : Nat) : Fld := ⟨(A.MGMT_KEY_STAGE n), 31, 0⟩
abbrev F.MGMT_FW_CTL_AUTO_CONFIRM : Fld := ⟨A.MGMT_FW_CTL, 7, 7⟩
abbrev F.MGMT_FW_CTL_WHEN : Fld := ⟨A.MGMT_FW_CTL, 6, 5⟩
abbrev F.MGMT_FW_CTL_ABORT_TRIAL : Fld := ⟨A.MGMT_FW_CTL, 4, 4⟩
abbrev F.MGMT_FW_CTL_CONFIRM : Fld := ⟨A.MGMT_FW_CTL, 3, 3⟩
abbrev F.MGMT_FW_CTL_ACTIVATE : Fld := ⟨A.MGMT_FW_CTL, 2, 2⟩
abbrev F.MGMT_FW_CTL_VERIFY : Fld := ⟨A.MGMT_FW_CTL, 1, 1⟩
abbrev F.MGMT_FW_CTL_BEGIN : Fld := ⟨A.MGMT_FW_CTL, 0, 0⟩
abbrev F.MGMT_FW_DATA_DATA : Fld := ⟨A.MGMT_FW_DATA, 31, 0⟩
abbrev F.MGMT_FW_STATUS_TRIAL_LEFT : Fld := ⟨A.MGMT_FW_STATUS, 31, 22⟩
abbrev F.MGMT_FW_STATUS_WHY : Fld := ⟨A.MGMT_FW_STATUS, 15, 12⟩
abbrev F.MGMT_FW_STATUS_DONE : Fld := ⟨A.MGMT_FW_STATUS, 7, 7⟩
abbrev F.MGMT_FW_STATUS_STATE : Fld := ⟨A.MGMT_FW_STATUS, 3, 0⟩
abbrev F.MGMT_FW_INFO_VERSION (n : Nat) : Fld := ⟨(A.MGMT_FW_INFO n), 31, 0⟩
abbrev F.MGMT_ROLLBACK_COUNT : Fld := ⟨A.MGMT_ROLLBACK, 31, 0⟩
abbrev F.MGMT_LOG_CTL_PUSH_MIN : Fld := ⟨A.MGMT_LOG_CTL, 7, 5⟩
abbrev F.MGMT_LOG_CTL_PUSH_Q : Fld := ⟨A.MGMT_LOG_CTL, 4, 3⟩
abbrev F.MGMT_LOG_NEWEST_SEQ : Fld := ⟨A.MGMT_LOG_NEWEST, 31, 0⟩
abbrev F.MGMT_LOG_IDX_SEQ : Fld := ⟨A.MGMT_LOG_IDX, 31, 0⟩
abbrev F.MGMT_LOG_STATE_BAD : Fld := ⟨A.MGMT_LOG_STATE, 1, 1⟩
abbrev F.MGMT_LOG_STATE_HELD : Fld := ⟨A.MGMT_LOG_STATE, 0, 0⟩
abbrev F.MGMT_LOG_DATA_DATA (n : Nat) : Fld := ⟨(A.MGMT_LOG_DATA n), 31, 0⟩
abbrev F.MGMT_SENS_VALID (n : Nat) : Fld := ⟨(A.MGMT_SENS n), 31, 31⟩
abbrev F.MGMT_SENS_WARN (n : Nat) : Fld := ⟨(A.MGMT_SENS n), 30, 30⟩
abbrev F.MGMT_SENS_VALUE (n : Nat) : Fld := ⟨(A.MGMT_SENS n), 15, 0⟩
abbrev F.MGMT_LIFE_LO_COUNT (n : Nat) : Fld := ⟨(A.MGMT_LIFE_LO n), 31, 0⟩
abbrev F.MGMT_LIFE_HI_SAT (n : Nat) : Fld := ⟨(A.MGMT_LIFE_HI n), 31, 31⟩
abbrev F.MGMT_LIFE_HI_COUNT (n : Nat) : Fld := ⟨(A.MGMT_LIFE_HI n), 15, 0⟩
abbrev F.MGMT_MSTAT_TOTAL_WORD (n : Nat) (w : Nat) : Fld := ⟨(A.MGMT_MSTAT_TOTAL n w), 31, 0⟩
abbrev F.MGMT_MSTAT_TOTAL_REC_WORD (n : Nat) : Fld := ⟨(A.MGMT_MSTAT_TOTAL_REC n), 31, 0⟩
abbrev F.TEST_START_MASK : Fld := ⟨A.TEST_START, 31, 0⟩
abbrev F.TEST_CLEAR_MASK : Fld := ⟨A.TEST_CLEAR, 31, 0⟩
abbrev F.TEST_CTL_STOP : Fld := ⟨A.TEST_CTL, 0, 0⟩
abbrev F.TEST_STATUS_RUNNING : Fld := ⟨A.TEST_STATUS, 31, 31⟩
abbrev F.TEST_STATUS_CUR : Fld := ⟨A.TEST_STATUS, 28, 24⟩
abbrev F.TEST_QUEUED_MASK : Fld := ⟨A.TEST_QUEUED, 31, 0⟩
abbrev F.TEST_USABLE_MASK : Fld := ⟨A.TEST_USABLE, 31, 0⟩
abbrev F.TEST_RETIRED_MASK : Fld := ⟨A.TEST_RETIRED, 31, 0⟩
abbrev F.TEST_YIELD_TDM : Fld := ⟨A.TEST_YIELD, 16, 16⟩
abbrev F.TEST_YIELD_MASK : Fld := ⟨A.TEST_YIELD, 15, 0⟩
abbrev F.TEST_FAULT_FORCE : Fld := ⟨A.TEST_FAULT, 9, 9⟩
abbrev F.TEST_FAULT_START : Fld := ⟨A.TEST_FAULT, 8, 8⟩
abbrev F.TEST_FAULT_MEMBER : Fld := ⟨A.TEST_FAULT, 7, 7⟩
abbrev F.TEST_FAULT_FW : Fld := ⟨A.TEST_FAULT, 6, 6⟩
abbrev F.TEST_FAULT_CFG : Fld := ⟨A.TEST_FAULT, 5, 5⟩
abbrev F.TEST_FAULT_DLY : Fld := ⟨A.TEST_FAULT, 4, 4⟩
abbrev F.TEST_FAULT_CORE : Fld := ⟨A.TEST_FAULT, 3, 3⟩
abbrev F.TEST_FAULT_BLOCK : Fld := ⟨A.TEST_FAULT, 2, 2⟩
abbrev F.TEST_FAULT_PROOF : Fld := ⟨A.TEST_FAULT, 1, 1⟩
abbrev F.TEST_FAULT_PWR : Fld := ⟨A.TEST_FAULT, 0, 0⟩
abbrev F.TEST_FAULT_CFG_MEMBERS : Fld := ⟨A.TEST_FAULT_CFG, 1, 1⟩
abbrev F.TEST_FAULT_CFG_FORCE : Fld := ⟨A.TEST_FAULT_CFG, 0, 0⟩
abbrev F.TEST_EVT_FAULT_CHG : Fld := ⟨A.TEST_EVT, 5, 5⟩
abbrev F.TEST_EVT_RESTORED : Fld := ⟨A.TEST_EVT, 4, 4⟩
abbrev F.TEST_EVT_RETIRED : Fld := ⟨A.TEST_EVT, 3, 3⟩
abbrev F.TEST_EVT_ABORTED : Fld := ⟨A.TEST_EVT, 2, 2⟩
abbrev F.TEST_EVT_FAIL : Fld := ⟨A.TEST_EVT, 1, 1⟩
abbrev F.TEST_EVT_DONE : Fld := ⟨A.TEST_EVT, 0, 0⟩
abbrev F.TEST_EVT_EN_FAULT_CHG : Fld := ⟨A.TEST_EVT_EN, 5, 5⟩
abbrev F.TEST_EVT_EN_RESTORED : Fld := ⟨A.TEST_EVT_EN, 4, 4⟩
abbrev F.TEST_EVT_EN_RETIRED : Fld := ⟨A.TEST_EVT_EN, 3, 3⟩
abbrev F.TEST_EVT_EN_ABORTED : Fld := ⟨A.TEST_EVT_EN, 2, 2⟩
abbrev F.TEST_EVT_EN_FAIL : Fld := ⟨A.TEST_EVT_EN, 1, 1⟩
abbrev F.TEST_EVT_EN_DONE : Fld := ⟨A.TEST_EVT_EN, 0, 0⟩
abbrev F.TEST_RES_W0_STATE (n : Nat) : Fld := ⟨(A.TEST_RES_W0 n), 31, 28⟩
abbrev F.TEST_RES_W0_KIND (n : Nat) : Fld := ⟨(A.TEST_RES_W0 n), 27, 24⟩
abbrev F.TEST_RES_W0_CORE_FAIL (n : Nat) : Fld := ⟨(A.TEST_RES_W0 n), 23, 20⟩
abbrev F.TEST_RES_W0_CONSEC (n : Nat) : Fld := ⟨(A.TEST_RES_W0 n), 19, 18⟩
abbrev F.TEST_RES_W0_USABLE (n : Nat) : Fld := ⟨(A.TEST_RES_W0 n), 17, 17⟩
abbrev F.TEST_RES_W0_RETIRED (n : Nat) : Fld := ⟨(A.TEST_RES_W0 n), 16, 16⟩
abbrev F.TEST_RES_W0_ABORT_WHY (n : Nat) : Fld := ⟨(A.TEST_RES_W0 n), 15, 12⟩
abbrev F.TEST_RES_W0_ORIGIN (n : Nat) : Fld := ⟨(A.TEST_RES_W0 n), 11, 8⟩
abbrev F.TEST_RES_W1_SIG (n : Nat) : Fld := ⟨(A.TEST_RES_W1 n), 31, 0⟩
abbrev F.TEST_RES_W2_CYCLES (n : Nat) : Fld := ⟨(A.TEST_RES_W2 n), 31, 0⟩
abbrev F.TEST_RES_W3_EXP_CYCLES (n : Nat) : Fld := ⟨(A.TEST_RES_W3 n), 31, 0⟩
abbrev F.TEST_TRIM_WORD (n : Nat) : Fld := ⟨(A.TEST_TRIM n), 31, 0⟩
abbrev F.TBL_LISTENER_W0_EN (n : Nat) : Fld := ⟨(A.TBL_LISTENER_W0 n), 31, 31⟩
abbrev F.TBL_LISTENER_W0_MAP_EN (n : Nat) : Fld := ⟨(A.TBL_LISTENER_W0 n), 30, 30⟩
abbrev F.TBL_LISTENER_W0_SSRC_LOCK (n : Nat) : Fld := ⟨(A.TBL_LISTENER_W0 n), 29, 29⟩
abbrev F.TBL_LISTENER_W0_SRC_FILTER (n : Nat) : Fld := ⟨(A.TBL_LISTENER_W0 n), 28, 28⟩
abbrev F.TBL_LISTENER_W0_MERGE_EN (n : Nat) : Fld := ⟨(A.TBL_LISTENER_W0 n), 27, 27⟩
abbrev F.TBL_LISTENER_W0_TRANSPORT (n : Nat) : Fld := ⟨(A.TBL_LISTENER_W0 n), 25, 24⟩
abbrev F.TBL_LISTENER_W0_ENC (n : Nat) : Fld := ⟨(A.TBL_LISTENER_W0 n), 23, 22⟩
abbrev F.TBL_LISTENER_W0_LAY (n : Nat) : Fld := ⟨(A.TBL_LISTENER_W0 n), 21, 16⟩
abbrev F.TBL_LISTENER_W0_CHANNELS (n : Nat) : Fld := ⟨(A.TBL_LISTENER_W0 n), 15, 8⟩
abbrev F.TBL_LISTENER_W0_PTIME (n : Nat) : Fld := ⟨(A.TBL_LISTENER_W0 n), 7, 4⟩
abbrev F.TBL_LISTENER_W1_FIRST_SLOT (n : Nat) : Fld := ⟨(A.TBL_LISTENER_W1 n), 31, 20⟩
abbrev F.TBL_LISTENER_W1_UDP_PORT (n : Nat) : Fld := ⟨(A.TBL_LISTENER_W1 n), 15, 0⟩
abbrev F.TBL_LISTENER_W2_PT (n : Nat) : Fld := ⟨(A.TBL_LISTENER_W2 n), 30, 24⟩
abbrev F.TBL_LISTENER_W2_VID (n : Nat) : Fld := ⟨(A.TBL_LISTENER_W2 n), 11, 0⟩
abbrev F.TBL_LISTENER_W3_SSRC (n : Nat) : Fld := ⟨(A.TBL_LISTENER_W3 n), 31, 0⟩
abbrev F.TBL_LISTENER_W4_RTP_OFFSET (n : Nat) : Fld := ⟨(A.TBL_LISTENER_W4 n), 31, 0⟩
abbrev F.TBL_LISTENER_W5_DEST_ADDR (n : Nat) : Fld := ⟨(A.TBL_LISTENER_W5 n), 31, 0⟩
abbrev F.TBL_LISTENER_W6_DEST_ADDR (n : Nat) : Fld := ⟨(A.TBL_LISTENER_W6 n), 31, 0⟩
abbrev F.TBL_LISTENER_W7_DEST_ADDR (n : Nat) : Fld := ⟨(A.TBL_LISTENER_W7 n), 31, 0⟩
abbrev F.TBL_LISTENER_W8_DEST_ADDR (n : Nat) : Fld := ⟨(A.TBL_LISTENER_W8 n), 31, 0⟩
abbrev F.TBL_LISTENER_W9_AAF_MTT (n : Nat) : Fld := ⟨(A.TBL_LISTENER_W9 n), 31, 16⟩
abbrev F.TBL_LISTENER_W10_SRC_ADDR (n : Nat) : Fld := ⟨(A.TBL_LISTENER_W10 n), 31, 0⟩
abbrev F.TBL_LISTENER_W11_SRC_ADDR (n : Nat) : Fld := ⟨(A.TBL_LISTENER_W11 n), 31, 0⟩
abbrev F.TBL_LISTENER_W12_SRC_ADDR (n : Nat) : Fld := ⟨(A.TBL_LISTENER_W12 n), 31, 0⟩
abbrev F.TBL_LISTENER_W13_OWNER (n : Nat) : Fld := ⟨(A.TBL_LISTENER_W13 n), 31, 16⟩
abbrev F.TBL_LISTENER_W13_PARTNER (n : Nat) : Fld := ⟨(A.TBL_LISTENER_W13 n), 7, 0⟩
abbrev F.TBL_LISTENER_W14_ACTIVE (n : Nat) : Fld := ⟨(A.TBL_LISTENER_W14 n), 31, 31⟩
abbrev F.TBL_LISTENER_W14_REFUSED (n : Nat) : Fld := ⟨(A.TBL_LISTENER_W14 n), 30, 30⟩
abbrev F.TBL_LISTENER_W14_WHY (n : Nat) : Fld := ⟨(A.TBL_LISTENER_W14 n), 29, 27⟩
abbrev F.TBL_LISTENER_W14_LAST_SEQ (n : Nat) : Fld := ⟨(A.TBL_LISTENER_W14 n), 15, 0⟩
abbrev F.TBL_LISTENER_W15_LAST_TS (n : Nat) : Fld := ⟨(A.TBL_LISTENER_W15 n), 31, 0⟩
abbrev F.TBL_TALKER_W0_EN (n : Nat) : Fld := ⟨(A.TBL_TALKER_W0 n), 31, 31⟩
abbrev F.TBL_TALKER_W0_MAP_EN (n : Nat) : Fld := ⟨(A.TBL_TALKER_W0 n), 30, 30⟩
abbrev F.TBL_TALKER_W0_SEQ_LINK (n : Nat) : Fld := ⟨(A.TBL_TALKER_W0 n), 27, 27⟩
abbrev F.TBL_TALKER_W0_TRANSPORT (n : Nat) : Fld := ⟨(A.TBL_TALKER_W0 n), 25, 24⟩
abbrev F.TBL_TALKER_W0_ENC (n : Nat) : Fld := ⟨(A.TBL_TALKER_W0 n), 23, 22⟩
abbrev F.TBL_TALKER_W0_CHANNELS (n : Nat) : Fld := ⟨(A.TBL_TALKER_W0 n), 15, 8⟩
abbrev F.TBL_TALKER_W0_PTIME (n : Nat) : Fld := ⟨(A.TBL_TALKER_W0 n), 7, 4⟩
abbrev F.TBL_TALKER_W1_FIRST_SLOT (n : Nat) : Fld := ⟨(A.TBL_TALKER_W1 n), 31, 20⟩
abbrev F.TBL_TALKER_W1_UDP_PORT (n : Nat) : Fld := ⟨(A.TBL_TALKER_W1 n), 15, 0⟩
abbrev F.TBL_TALKER_W2_PT (n : Nat) : Fld := ⟨(A.TBL_TALKER_W2 n), 30, 24⟩
abbrev F.TBL_TALKER_W2_MARK_OVR (n : Nat) : Fld := ⟨(A.TBL_TALKER_W2 n), 23, 23⟩
abbrev F.TBL_TALKER_W2_DSCP (n : Nat) : Fld := ⟨(A.TBL_TALKER_W2 n), 22, 17⟩
abbrev F.TBL_TALKER_W2_PCP (n : Nat) : Fld := ⟨(A.TBL_TALKER_W2 n), 16, 14⟩
abbrev F.TBL_TALKER_W2_VID (n : Nat) : Fld := ⟨(A.TBL_TALKER_W2 n), 11, 0⟩
abbrev F.TBL_TALKER_W3_SSRC (n : Nat) : Fld := ⟨(A.TBL_TALKER_W3 n), 31, 0⟩
abbrev F.TBL_TALKER_W4_RTP_OFFSET (n : Nat) : Fld := ⟨(A.TBL_TALKER_W4 n), 31, 0⟩
abbrev F.TBL_TALKER_W5_DEST_ADDR (n : Nat) : Fld := ⟨(A.TBL_TALKER_W5 n), 31, 0⟩
abbrev F.TBL_TALKER_W6_DEST_ADDR (n : Nat) : Fld := ⟨(A.TBL_TALKER_W6 n), 31, 0⟩
abbrev F.TBL_TALKER_W7_DEST_ADDR (n : Nat) : Fld := ⟨(A.TBL_TALKER_W7 n), 31, 0⟩
abbrev F.TBL_TALKER_W8_DEST_ADDR (n : Nat) : Fld := ⟨(A.TBL_TALKER_W8 n), 31, 0⟩
abbrev F.TBL_TALKER_W9_AAF_MTT (n : Nat) : Fld := ⟨(A.TBL_TALKER_W9 n), 31, 16⟩
abbrev F.TBL_TALKER_W13_OWNER (n : Nat) : Fld := ⟨(A.TBL_TALKER_W13 n), 31, 16⟩
abbrev F.TBL_TALKER_W13_LINK (n : Nat) : Fld := ⟨(A.TBL_TALKER_W13 n), 7, 0⟩
abbrev F.TBL_TALKER_W14_SENDING (n : Nat) : Fld := ⟨(A.TBL_TALKER_W14 n), 31, 31⟩
abbrev F.TBL_TALKER_W14_REFUSED (n : Nat) : Fld := ⟨(A.TBL_TALKER_W14 n), 30, 30⟩
abbrev F.TBL_TALKER_W14_WHY (n : Nat) : Fld := ⟨(A.TBL_TALKER_W14 n), 29, 27⟩
abbrev F.TBL_TALKER_W14_NEXT_SEQ (n : Nat) : Fld := ⟨(A.TBL_TALKER_W14 n), 15, 0⟩
abbrev F.TBL_TALKER_W15_NEXT_TS (n : Nat) : Fld := ⟨(A.TBL_TALKER_W15 n), 31, 0⟩
abbrev F.TBL_LAY_W0_EN (n : Nat) : Fld := ⟨(A.TBL_LAY_W0 n), 31, 31⟩
abbrev F.TBL_LAY_W0_SLIP_ALL (n : Nat) : Fld := ⟨(A.TBL_LAY_W0 n), 30, 30⟩
abbrev F.TBL_LAY_W0_ACT_MODE (n : Nat) : Fld := ⟨(A.TBL_LAY_W0 n), 29, 29⟩
abbrev F.TBL_LAY_W0_CLASS (n : Nat) : Fld := ⟨(A.TBL_LAY_W0 n), 26, 24⟩
abbrev F.TBL_LAY_W0_ACT_THR (n : Nat) : Fld := ⟨(A.TBL_LAY_W0 n), 23, 16⟩
abbrev F.TBL_LAY_W0_ACT_HOLD (n : Nat) : Fld := ⟨(A.TBL_LAY_W0 n), 15, 0⟩
abbrev F.TBL_LAY_W1_OWNER (n : Nat) : Fld := ⟨(A.TBL_LAY_W1 n), 31, 16⟩
abbrev F.TBL_LAY_W1_PRES_OFFSET (n : Nat) : Fld := ⟨(A.TBL_LAY_W1 n), 15, 0⟩
abbrev F.TBL_LAY_W2_ACTIVE (n : Nat) : Fld := ⟨(A.TBL_LAY_W2 n), 31, 31⟩
abbrev F.TBL_LAY_W2_MUTED (n : Nat) : Fld := ⟨(A.TBL_LAY_W2 n), 30, 30⟩
abbrev F.TBL_LAY_W2_MEMBERS (n : Nat) : Fld := ⟨(A.TBL_LAY_W2 n), 23, 16⟩
abbrev F.TBL_LAY_W2_CONCEALING (n : Nat) : Fld := ⟨(A.TBL_LAY_W2 n), 15, 0⟩
abbrev F.TBL_LAY_W3_LEAD_MIN (n : Nat) : Fld := ⟨(A.TBL_LAY_W3 n), 31, 16⟩
abbrev F.TBL_LAY_W3_LEAD_MAX (n : Nat) : Fld := ⟨(A.TBL_LAY_W3 n), 15, 0⟩
abbrev F.TBL_LMAP_SKIP1 (n : Nat) (w : Nat) : Fld := ⟨(A.TBL_LMAP n w), 31, 31⟩
abbrev F.TBL_LMAP_SLOT1 (n : Nat) (w : Nat) : Fld := ⟨(A.TBL_LMAP n w), 27, 16⟩
abbrev F.TBL_LMAP_SKIP0 (n : Nat) (w : Nat) : Fld := ⟨(A.TBL_LMAP n w), 15, 15⟩
abbrev F.TBL_LMAP_SLOT0 (n : Nat) (w : Nat) : Fld := ⟨(A.TBL_LMAP n w), 11, 0⟩
abbrev F.TBL_TMAP_SKIP1 (n : Nat) (w : Nat) : Fld := ⟨(A.TBL_TMAP n w), 31, 31⟩
abbrev F.TBL_TMAP_SLOT1 (n : Nat) (w : Nat) : Fld := ⟨(A.TBL_TMAP n w), 27, 16⟩
abbrev F.TBL_TMAP_SKIP0 (n : Nat) (w : Nat) : Fld := ⟨(A.TBL_TMAP n w), 15, 15⟩
abbrev F.TBL_TMAP_SLOT0 (n : Nat) (w : Nat) : Fld := ⟨(A.TBL_TMAP n w), 11, 0⟩
abbrev F.TBL_XP_W0_EN (n : Nat) : Fld := ⟨(A.TBL_XP_W0 n), 31, 31⟩
abbrev F.TBL_XP_W0_IN_SLOT (n : Nat) : Fld := ⟨(A.TBL_XP_W0 n), 27, 16⟩
abbrev F.TBL_XP_W0_OUT_SLOT (n : Nat) : Fld := ⟨(A.TBL_XP_W0 n), 11, 0⟩
abbrev F.TBL_XP_W1_TARGET (n : Nat) : Fld := ⟨(A.TBL_XP_W1 n), 31, 0⟩
abbrev F.TBL_XP_W2_REMAIN (n : Nat) : Fld := ⟨(A.TBL_XP_W2 n), 28, 16⟩
abbrev F.TBL_XP_W2_RAMP_LEN (n : Nat) : Fld := ⟨(A.TBL_XP_W2 n), 12, 0⟩
abbrev F.TBL_XP_W3_CUR (n : Nat) : Fld := ⟨(A.TBL_XP_W3 n), 31, 0⟩
abbrev F.TBL_LIM_W0_EN (n : Nat) : Fld := ⟨(A.TBL_LIM_W0 n), 31, 31⟩
abbrev F.TBL_LIM_W0_SLOT (n : Nat) : Fld := ⟨(A.TBL_LIM_W0 n), 11, 0⟩
abbrev F.TBL_LIM_W1_THRESH (n : Nat) : Fld := ⟨(A.TBL_LIM_W1 n), 31, 0⟩
abbrev F.TBL_LIM_W2_ATTACK (n : Nat) : Fld := ⟨(A.TBL_LIM_W2 n), 31, 0⟩
abbrev F.TBL_LIM_W3_RELEASE (n : Nat) : Fld := ⟨(A.TBL_LIM_W3 n), 31, 0⟩
abbrev F.TBL_METER_EN (n : Nat) : Fld := ⟨(A.TBL_METER n), 31, 31⟩
abbrev F.TBL_METER_SLOT (n : Nat) : Fld := ⟨(A.TBL_METER n), 11, 0⟩
abbrev F.TBL_DLINE_W0_EN (n : Nat) : Fld := ⟨(A.TBL_DLINE_W0 n), 31, 31⟩
abbrev F.TBL_DLINE_W0_BASE_KIB (n : Nat) : Fld := ⟨(A.TBL_DLINE_W0 n), 17, 0⟩
abbrev F.TBL_DLINE_W1_LEN (n : Nat) : Fld := ⟨(A.TBL_DLINE_W1 n), 18, 0⟩
abbrev F.TBL_DLINE_W2_ALLOC (n : Nat) : Fld := ⟨(A.TBL_DLINE_W2 n), 18, 0⟩
abbrev F.TBL_PLINE_W0_EN (n : Nat) : Fld := ⟨(A.TBL_PLINE_W0 n), 31, 31⟩
abbrev F.TBL_PLINE_W0_SPARE (n : Nat) : Fld := ⟨(A.TBL_PLINE_W0 n), 30, 30⟩
abbrev F.TBL_PLINE_W0_SIG_VALID (n : Nat) : Fld := ⟨(A.TBL_PLINE_W0 n), 29, 29⟩
abbrev F.TBL_PLINE_W0_SPARE_EN (n : Nat) : Fld := ⟨(A.TBL_PLINE_W0 n), 28, 28⟩
abbrev F.TBL_PLINE_W0_SRC (n : Nat) : Fld := ⟨(A.TBL_PLINE_W0 n), 27, 26⟩
abbrev F.TBL_PLINE_W0_HV_PAIR (n : Nat) : Fld := ⟨(A.TBL_PLINE_W0 n), 25, 24⟩
abbrev F.TBL_PLINE_W0_SPARE_LINE (n : Nat) : Fld := ⟨(A.TBL_PLINE_W0 n), 23, 16⟩
abbrev F.TBL_PLINE_W0_OUT_PORT (n : Nat) : Fld := ⟨(A.TBL_PLINE_W0 n), 11, 8⟩
abbrev F.TBL_PLINE_W0_OUT_SLOT (n : Nat) : Fld := ⟨(A.TBL_PLINE_W0 n), 4, 0⟩
abbrev F.TBL_PLINE_W1_PILOT (n : Nat) : Fld := ⟨(A.TBL_PLINE_W1 n), 31, 16⟩
abbrev F.TBL_PLINE_W1_V_FS (n : Nat) : Fld := ⟨(A.TBL_PLINE_W1 n), 15, 0⟩
abbrev F.TBL_PLINE_W2_I_FS (n : Nat) : Fld := ⟨(A.TBL_PLINE_W2 n), 31, 16⟩
abbrev F.TBL_PLINE_W2_CAL_PH (n : Nat) : Fld := ⟨(A.TBL_PLINE_W2 n), 15, 0⟩
abbrev F.TBL_PLINE_W3_CAL_MAG (n : Nat) : Fld := ⟨(A.TBL_PLINE_W3 n), 31, 0⟩
abbrev F.TBL_PLINE_W4_Z0_MAG (n : Nat) : Fld := ⟨(A.TBL_PLINE_W4 n), 31, 0⟩
abbrev F.TBL_PLINE_W5_Z0_PH (n : Nat) : Fld := ⟨(A.TBL_PLINE_W5 n), 31, 16⟩
abbrev F.TBL_PLINE_W5_DRIFT_PCT (n : Nat) : Fld := ⟨(A.TBL_PLINE_W5 n), 15, 8⟩
abbrev F.TBL_PLINE_W5_OPEN_X (n : Nat) : Fld := ⟨(A.TBL_PLINE_W5 n), 7, 4⟩
abbrev F.TBL_PLINE_W5_SHORT_DIV (n : Nat) : Fld := ⟨(A.TBL_PLINE_W5 n), 3, 0⟩
abbrev F.TBL_PLINE_W6_V_FLOOR (n : Nat) : Fld := ⟨(A.TBL_PLINE_W6 n), 31, 24⟩
abbrev F.TBL_PLINE_W6_I_FLOOR (n : Nat) : Fld := ⟨(A.TBL_PLINE_W6 n), 23, 16⟩
abbrev F.TBL_PLINE_W6_GUARD_LIM (n : Nat) : Fld := ⟨(A.TBL_PLINE_W6 n), 15, 8⟩
abbrev F.TBL_PLINE_W6_AUTO_N (n : Nat) : Fld := ⟨(A.TBL_PLINE_W6 n), 7, 0⟩
abbrev F.TBL_PLINE_W7_HARD_MASK (n : Nat) : Fld := ⟨(A.TBL_PLINE_W7 n), 31, 28⟩
abbrev F.TBL_PLINE_W7_CHG_MASK (n : Nat) : Fld := ⟨(A.TBL_PLINE_W7 n), 27, 24⟩
abbrev F.TBL_PLINE_W7_OWNER (n : Nat) : Fld := ⟨(A.TBL_PLINE_W7 n), 15, 0⟩
abbrev F.TBL_PLINE_W8_RUN_AMP (n : Nat) : Fld := ⟨(A.TBL_PLINE_W8 n), 31, 0⟩
abbrev F.TBL_PLINE_W9_RUN_STEP (n : Nat) : Fld := ⟨(A.TBL_PLINE_W9 n), 31, 0⟩
abbrev F.TBL_PLINE_W10_VERDICT (n : Nat) : Fld := ⟨(A.TBL_PLINE_W10 n), 31, 28⟩
abbrev F.TBL_PLINE_W10_REASON (n : Nat) : Fld := ⟨(A.TBL_PLINE_W10 n), 27, 24⟩
abbrev F.TBL_PLINE_W10_STATE (n : Nat) : Fld := ⟨(A.TBL_PLINE_W10 n), 23, 21⟩
abbrev F.TBL_PLINE_W10_RETRY (n : Nat) : Fld := ⟨(A.TBL_PLINE_W10 n), 20, 19⟩
abbrev F.TBL_PLINE_W10_PASSES (n : Nat) : Fld := ⟨(A.TBL_PLINE_W10 n), 18, 11⟩
abbrev F.TBL_PLINE_W10_RUN_VERDICT (n : Nat) : Fld := ⟨(A.TBL_PLINE_W10 n), 10, 7⟩
abbrev F.TBL_PLINE_W10_REFUSED (n : Nat) : Fld := ⟨(A.TBL_PLINE_W10 n), 6, 6⟩
abbrev F.TBL_PLINE_W10_WHY (n : Nat) : Fld := ⟨(A.TBL_PLINE_W10 n), 5, 3⟩
abbrev F.TBL_PLINE_W10_CARRYING (n : Nat) : Fld := ⟨(A.TBL_PLINE_W10 n), 2, 2⟩
abbrev F.TBL_PLINE_W10_CHANGED (n : Nat) : Fld := ⟨(A.TBL_PLINE_W10 n), 1, 1⟩
abbrev F.TBL_PLINE_W10_UNPROVEN (n : Nat) : Fld := ⟨(A.TBL_PLINE_W10 n), 0, 0⟩
abbrev F.TBL_PLINE_W11_Z_MAG (n : Nat) : Fld := ⟨(A.TBL_PLINE_W11 n), 31, 0⟩
abbrev F.TBL_PLINE_W12_Z_PH (n : Nat) : Fld := ⟨(A.TBL_PLINE_W12 n), 31, 16⟩
abbrev F.TBL_PLINE_W12_GUARD (n : Nat) : Fld := ⟨(A.TBL_PLINE_W12 n), 15, 0⟩
abbrev F.TBL_PLINE_W13_V_AMP (n : Nat) : Fld := ⟨(A.TBL_PLINE_W13 n), 31, 0⟩
abbrev F.TBL_PLINE_W14_I_AMP (n : Nat) : Fld := ⟨(A.TBL_PLINE_W14 n), 31, 0⟩
abbrev F.TBL_PLINE_W15_VERDICT_EF (n : Nat) : Fld := ⟨(A.TBL_PLINE_W15 n), 31, 0⟩
abbrev F.TBL_SIG_MAG_MAG (n : Nat) (w : Nat) : Fld := ⟨(A.TBL_SIG_MAG n w), 31, 0⟩
abbrev F.TBL_SIG_PH_PH (n : Nat) (w : Nat) : Fld := ⟨(A.TBL_SIG_PH n w), 31, 16⟩
abbrev F.TBL_SIG_RUN_WORD (n : Nat) (w : Nat) : Fld := ⟨(A.TBL_SIG_RUN n w), 31, 0⟩
abbrev F.TBL_PATH_W0_VALID (n : Nat) : Fld := ⟨(A.TBL_PATH_W0 n), 31, 31⟩
abbrev F.TBL_PATH_W0_MAC_HI (n : Nat) : Fld := ⟨(A.TBL_PATH_W0 n), 15, 0⟩
abbrev F.TBL_PATH_W1_MAC_LO (n : Nat) : Fld := ⟨(A.TBL_PATH_W1 n), 31, 0⟩
abbrev F.TBL_PATH_W2_GOT_A (n : Nat) : Fld := ⟨(A.TBL_PATH_W2 n), 31, 16⟩
abbrev F.TBL_PATH_W2_GOT_B (n : Nat) : Fld := ⟨(A.TBL_PATH_W2 n), 15, 0⟩
abbrev F.TBL_PATH_W3_SENT (n : Nat) : Fld := ⟨(A.TBL_PATH_W3 n), 31, 16⟩
abbrev F.TBL_PATH_W3_RESULT_B (n : Nat) : Fld := ⟨(A.TBL_PATH_W3 n), 7, 4⟩
abbrev F.TBL_PATH_W3_RESULT_A (n : Nat) : Fld := ⟨(A.TBL_PATH_W3 n), 3, 0⟩
abbrev F.TBL_SPL_UP_TX_SRC (n : Nat) : Fld := ⟨(A.TBL_SPL_UP_TX n), 31, 30⟩
abbrev F.TBL_SPL_UP_TX_BUS_SLOT (n : Nat) : Fld := ⟨(A.TBL_SPL_UP_TX n), 11, 0⟩
abbrev F.TBL_SPL_UP_RX_EN (n : Nat) : Fld := ⟨(A.TBL_SPL_UP_RX n), 31, 31⟩
abbrev F.TBL_SPL_UP_RX_BUS_SLOT (n : Nat) : Fld := ⟨(A.TBL_SPL_UP_RX n), 11, 0⟩
abbrev F.TBL_SPL_DN_TX_SRC (n : Nat) : Fld := ⟨(A.TBL_SPL_DN_TX n), 31, 30⟩
abbrev F.TBL_SPL_DN_TX_BUS_SLOT (n : Nat) : Fld := ⟨(A.TBL_SPL_DN_TX n), 11, 0⟩
abbrev F.TBL_SPL_DN_RX_EN (n : Nat) : Fld := ⟨(A.TBL_SPL_DN_RX n), 31, 31⟩
abbrev F.TBL_SPL_DN_RX_BUS_SLOT (n : Nat) : Fld := ⟨(A.TBL_SPL_DN_RX n), 11, 0⟩
abbrev F.TBL_HRX_EN (n : Nat) : Fld := ⟨(A.TBL_HRX n), 31, 31⟩
abbrev F.TBL_HRX_BUS_SLOT (n : Nat) : Fld := ⟨(A.TBL_HRX n), 11, 0⟩
abbrev F.TBL_HTX_EN (n : Nat) : Fld := ⟨(A.TBL_HTX n), 31, 31⟩
abbrev F.TBL_HTX_BUS_SLOT (n : Nat) : Fld := ⟨(A.TBL_HTX n), 11, 0⟩
abbrev F.TBL_SCHED_W0_EN (n : Nat) : Fld := ⟨(A.TBL_SCHED_W0 n), 31, 31⟩
abbrev F.TBL_SCHED_W0_KIND (n : Nat) : Fld := ⟨(A.TBL_SCHED_W0 n), 27, 24⟩
abbrev F.TBL_SCHED_W0_DAYS (n : Nat) : Fld := ⟨(A.TBL_SCHED_W0 n), 23, 17⟩
abbrev F.TBL_SCHED_W0_TOD (n : Nat) : Fld := ⟨(A.TBL_SCHED_W0 n), 16, 0⟩
abbrev F.TBL_SCHED_W1_YEAR (n : Nat) : Fld := ⟨(A.TBL_SCHED_W1 n), 31, 20⟩
abbrev F.TBL_SCHED_W1_MONTH (n : Nat) : Fld := ⟨(A.TBL_SCHED_W1 n), 19, 16⟩
abbrev F.TBL_SCHED_W1_DAY (n : Nat) : Fld := ⟨(A.TBL_SCHED_W1 n), 15, 11⟩
abbrev F.TBL_SCHED_W2_ARG (n : Nat) : Fld := ⟨(A.TBL_SCHED_W2 n), 31, 0⟩
abbrev F.TBL_SCHED_W3_LAST_DAY (n : Nat) : Fld := ⟨(A.TBL_SCHED_W3 n), 31, 16⟩
abbrev F.TBL_SCHED_W3_RESULT (n : Nat) : Fld := ⟨(A.TBL_SCHED_W3 n), 15, 12⟩

/-! ### Rows -/

/-- Rows of SYS (spec chapter 20), part 1. -/
def rowsSYS0 (v : Variant) : List Row := [
  ⟨0, 4, 1, 4, 1, 0, 0, 0, 0, 0, 0, 0, 0, 0, (v.pick 0x1f3b0400 0x1f3b0200 0x1f3b0100)⟩,
  ⟨4, 4, 1, 4, 1, 0, 0, 0, 0, 0, 0, 0, 0, 0xffff, 0⟩,
  ⟨8, 4, 1, 4, 1, 0, 0, 0, 0, 0, 0, 0, 0, 0xffffffff, 0⟩,
  ⟨0xc, 4, 1, 4, 1, 0, 0, 0, 0, 0, 0, 0, 0, 0, (v.pick 0x884500 0x482400 0x241300)⟩,
  ⟨0x10, 4, 1, 4, 1, 0, 0x10, 0, 0, 0, 0, 0, 0, 0, 0⟩,
  ⟨0x14, 4, 1, 4, 1, 0, 0x10, 0, 0, 0, 0, 0, 0, 0, 1⟩,
  ⟨0x18, 4, 1, 4, 1, 0, 0, 7, 0, 0, 0, 0, 0, 0, 0⟩,
  ⟨0x20, 4, 1, 4, 1, 0, 0, 0, 0, 0, 0, 0, 0, 0xffff, 0⟩,
  ⟨0x24, 4, 1, 4, 1, 0, 0, 0, 0, 0, 0, 0, 0, 0xffffffff, 0⟩,
  ⟨0x40, 4, 1, 4, 1, 0, 0x10000, 0, 0, 0, 0, 0, 0, 0, 0⟩,
  ⟨0x44, 4, 1, 4, 1, 0, 0, 0, 0, 0, 0, 0, 0, 0, 0⟩,
  ⟨0x48, 4, 1, 4, 1, 0, 0xe, 0, 0, 0, 0, 0, 0, 0, 0⟩,
  ⟨0x4c, 4, 1, 4, 1, 0, 0, 0, 0, 0, 0, 0, 0, 0, 0⟩,
  ⟨0x50, 4, 1, 4, 1, 0, 0, 0, 0, 0, 0, 0, 0, 0, 0⟩,
  ⟨0x58, 4, 1, 4, 1, 0, 0x3f, 0, 0, 0, 0, 0, 0, 0, 0⟩,
  ⟨0x5c, 4, 1, 4, 1, 0x3f, 0, 0, 0, 0, 0, 0, 0, 0, 0⟩,
  ⟨0x60, 4, 1, 4, 1, 0, 0, 0, 0, 0, 0, 0, 0, 0, 0⟩,
  ⟨0x64, 4, 1, 4, 1, 0xfffff, 0, 0, 0, 0, 0, 0xfff00000, 0, 0, 0⟩,
  ⟨0x68, 4, 1, 4, 1, 0xfffff, 0, 0, 0, 0, 0, 0xfff00000, 0, 0, 0⟩,
  ⟨0x6c, 4, 1, 4, 1, 0xfffff, 0, 0, 0, 0, 0, 0xfff00000, 0, 0, 0⟩,
  ⟨0x70, 4, 1, 4, 1, 0xfffff, 0, 0, 0, 0, 0, 0xfff00000, 0, 0, 0⟩,
  ⟨0x80, 4, 2, 4, 1, 0xffffffff, 0, 0, 0, 0, 0, 0, 0, 0, 0⟩,
  ⟨0x88, 4, 1, 4, 1, 0xffff, 0, 0, 0, 0, 0, 0xffff0000, 0, 0, 0⟩,
  ⟨0x90, 4, 2, 4, 1, 0xffffffff, 0, 0, 0, 0, 0, 0, 0, 0, 0⟩,
  ⟨0x98, 4, 1, 4, 1, 0xffff, 0, 0, 0, 0, 0, 0xffff0000, 0, 0, 0⟩,
  ⟨0xa0, 4, 2, 4, 1, 0, 0, 0, 0xffff, 0, 0, 0, 0, 0, 0⟩,
  ⟨0xc0, 4, 1, 4, 1, 1, 0, 0, 0, 0, 0, 0xfffffffe, 0, 0, 0⟩,
  ⟨0x100, 4, 1, 4, 1, 0xff07, 0, 0, 0, 0, 0, 0xffff00f8, 0, 0, 0⟩,
  ⟨0x104, 4, 1, 4, 1, 0, 0, 0, 0, 0, 0, 0, 0, 0, 0⟩,
  ⟨0x108, 4, 1, 4, 1, 0, 0x7f, 0, 0, 0, 0, 0, 0, 0, 0⟩,
  ⟨0x10c, 4, 1, 4, 1, 0x7f, 0, 0, 0, 0, 0, 0, 0, 0, 0⟩,
  ⟨0x110, 4, 1, 4, 1, 0, 0, 1, 0, 0, 0, 0xfffffffe, 0, 0, 0⟩,
  ⟨0x180, 4, 1, 4, 1, 0, 0, 0, 0, 0, 0, 0, 0xffffffff, 0, 0⟩,
  ⟨0x184, 4, 1, 4, 1, 0, 0, 0, 0, 0, 0, 0, 0xffffffff, 0, 0⟩,
  ⟨0x188, 4, 1, 4, 1, 0, 0, 0, 0, 0, 0, 0, 0xffffffff, 0, 0⟩,
  ⟨0x18c, 4, 1, 4, 1, 0, 0, 0, 0, 0, 0, 0, 0xffffffff, 0, 0⟩,
  ⟨0x190, 4, 1, 4, 1, 0, 0, 0, 0, 0, 0, 0, 0xffffffff, 0, 0⟩,
  ⟨0x194, 4, 1, 4, 1, 0, 0, 0, 0, 0, 0, 0, 0xffffffff, 0, 0⟩,
  ⟨0x198, 4, 1, 4, 1, 0, 0, 0, 0, 0, 0, 0, 0xffffffff, 0, 0⟩,
  ⟨0x19c, 4, 1, 4, 1, 0, 0x7f, 0, 0, 0, 0, 0, 0, 0, 0⟩]
/-- Rows of PWR (spec chapter 20), part 1. -/
def rowsPWR0 (v : Variant) : List Row := [
  ⟨0x10000, 4, 1, 4, 1, 0x1ff0303, 0, 0, 0, 0x1ff0303, 0x300, 0xfe00fcfc, 0, 0, 0x190001⟩,
  ⟨0x10004, 4, 1, 4, 1, 0x7ffe, 0, 0, 0, 0x7ffe, 0, 0xffff8001, 0, 0, (v.pick 0x7ffe 0x73fe 0x71fe)⟩,
  ⟨0x10008, 4, 1, 4, 1, 0, 0, 0, 0, 0, 0, 0, 0, 0, 0xfffc0000⟩,
  ⟨0x1000c, 4, 1, 4, 1, 0, 0, 0, 0, 0, 0, 0, 0, 0, 1⟩,
  ⟨0x10010, 4, 1, 4, 1, 0, 0, 7, 0, 7, 5, 0xfffffff8, 0, 0, 0⟩,
  ⟨0x10014, 4, 1, 4, 1, 0, 0x1ff, 0, 0, 0, 0, 0, 0, 0, 0⟩,
  ⟨0x10018, 4, 1, 4, 1, 0x1ff, 0, 0, 0, 0, 0, 0, 0, 0, 0⟩]
/-- Rows of RING (spec chapter 20), part 1. -/
def rowsRING0 (v : Variant) : List Row := [
  ⟨0x20000, 4, 1, 4, 1, 0xfffffff1, 0, 0, 0, 0, 0, 0xe, 0, 0, (v.pick 0x17c802f1 0x17c80271 0x17c80231)⟩,
  ⟨0x20004, 4, 1, 4, 1, 0xfffffff1, 0, 0, 0, 0, 0, 0xe, 0, 0, (v.pick 0x17c802f1 0x17c80271 0x17c80231)⟩,
  ⟨0x20008, 4, 1, 4, 1, 0xfffffff1, 0, 0, 0, 0, 0, 0xe, 0, 0, 0x17c80531⟩,
  ⟨0x20010, 4, 3, 4, 1, 0, 0, 0, 0, 0, 0, 0, 0, 0, 0⟩,
  ⟨0x20020, 4, 1, 4, 1, 0, 0xffc, 0, 0, 0, 0, 0, 0, 0, 0⟩,
  ⟨0x20024, 4, 1, 4, 1, 0xffc, 0, 0, 0, 0, 0, 0, 0, 0, 0⟩,
  ⟨0x20030, 4, 1, 4, 1, 0xffff0003, 0, 0, 0, 0, 0, 0xfffc, 0, 0, 0⟩,
  ⟨0x20034, 4, 1, 4, 1, 1, 0, 4, 0, 0, 5, 0xfffffffa, 0, 0, 0⟩,
  ⟨0x20038, 4, 1, 4, 1, 0, 0x10, 0, 0, 0, 0, 0, 0, 0, 0x100⟩,
  ⟨0x20040, 4, 3, 4, 1, 0x3ff03ff, 0, 0, 0, 0, 0, 0xfc00fc00, 0, 0, 0x2ee0014⟩,
  ⟨0x20050, 4, 2, 4, 1, 0x7f01, 0, 2, 0, 0, 0, 0xffff80f8, 0, 0, 0x100⟩,
  ⟨0x20058, 4, 2, 4, 1, 0x3fffffff, 0, 0, 0, 0, 0, 0xc0000000, 0, 0, 0⟩,
  ⟨0x20060, 4, 1, 4, 1, 0xff0fff, 0, 0, 0, 0, 0, 0xff00f000, 0, 0, 0x7f0032⟩,
  ⟨0x20064, 4, 1, 4, 1, 0xffff00, 0, 0, 0, 0, 0, 0xff0000ff, 0, 0, 0x4b1900⟩,
  ⟨0x20070, 4, 3, 4, 1, 0, 0, 1, 0, 0, 0, 0xf0, 0, 0, 0⟩,
  ⟨0x20080, 4, 1, 4, 1, 0xfff, 0, 0, 0, 0, 0, 0xfffff000, 0, 0, 1⟩,
  ⟨0x20090, 8, 3, 4, 1, 0x1fffff, 0, 0, 0, 0, 0, 0xffe00000, 0, 0, 0⟩,
  ⟨0x20094, 8, 3, 4, 1, 0xffff, 0, 0, 0, 0xffff, 0, 0xffff0000, 0, 0, 0⟩,
  ⟨0x20400, 4, 0x40, 4, 1, 0xc0000fff, 0, 0, 0, 0, 0, 0x3ffff000, 0, 0, 0⟩,
  ⟨0x20800, 4, 0x100, 4, 1, 0xffffffff, 0, 0, 0, 0, 0, 0, 0, 0, 0⟩]
/-- Rows of MSTAT (spec chapter 20), part 1. -/
def rowsMSTAT0 (_ : Variant) : List Row := [
  ⟨0x30000, 0x100, 3, 4, 1, 0, 0, 0, 0, 0, 0, 0, 0xffffffff, 0, 0⟩,
  ⟨0x30004, 0x100, 3, 4, 1, 0, 0, 0, 0, 0, 0, 0, 0xffffffff, 0, 0⟩,
  ⟨0x30008, 0x100, 3, 4, 1, 0, 0, 0, 0, 0, 0, 0, 0xffffffff, 0, 0⟩,
  ⟨0x3000c, 0x100, 3, 4, 1, 0, 0, 0, 0, 0, 0, 0, 0xffffffff, 0, 0⟩,
  ⟨0x30010, 0x100, 3, 4, 1, 0, 0, 0, 0, 0, 0, 0, 0xffffffff, 0, 0⟩,
  ⟨0x30014, 0x100, 3, 4, 1, 0, 0, 0, 0, 0, 0, 0, 0xffffffff, 0, 0⟩,
  ⟨0x30018, 0x100, 3, 4, 1, 0, 0, 0, 0, 0, 0, 0, 0xffffffff, 0, 0⟩,
  ⟨0x3001c, 0x100, 3, 4, 1, 0, 0, 0, 0, 0, 0, 0, 0xffffffff, 0, 0⟩,
  ⟨0x30020, 0x100, 3, 4, 1, 0, 0, 0, 0, 0, 0, 0, 0xffffffff, 0, 0⟩,
  ⟨0x30024, 0x100, 3, 4, 1, 0, 0, 0, 0, 0, 0, 0, 0xffffffff, 0, 0⟩,
  ⟨0x30028, 0x100, 3, 4, 1, 0, 0, 0, 0, 0, 0, 0, 0xffffffff, 0, 0⟩,
  ⟨0x3002c, 0x100, 3, 4, 1, 0, 0, 0, 0, 0, 0, 0, 0xffffffff, 0, 0⟩,
  ⟨0x30030, 0x100, 3, 4, 1, 0, 0, 0, 0, 0, 0, 0, 0xffffffff, 0, 0⟩,
  ⟨0x30034, 0x100, 3, 4, 1, 0, 0, 0, 0, 0, 0, 0, 0xffffffff, 0, 0⟩,
  ⟨0x30038, 0x100, 3, 4, 1, 0, 0, 0, 0, 0, 0, 0, 0xffffffff, 0, 0⟩,
  ⟨0x3003c, 0x100, 3, 4, 1, 0, 0, 0, 0, 0, 0, 0, 0xffffffff, 0, 0⟩,
  ⟨0x30040, 0x100, 3, 4, 1, 0, 0, 0, 0, 0, 0, 0, 0xffffffff, 0, 0⟩,
  ⟨0x30044, 0x100, 3, 4, 1, 0, 0, 0, 0, 0, 0, 0, 0xffffffff, 0, 0⟩,
  ⟨0x30048, 0x100, 3, 4, 1, 0, 0, 0, 0, 0, 0, 0, 0xffffffff, 0, 0⟩,
  ⟨0x30300, 4, 1, 4, 1, 0, 0, 0, 0, 0, 0, 0, 0xffffffff, 0, 0⟩,
  ⟨0x30304, 4, 1, 4, 1, 0, 0, 0, 0, 0, 0, 0, 0xffffffff, 0, 0⟩,
  ⟨0x30308, 4, 1, 4, 1, 0, 0, 0, 0, 0, 0, 0, 0xffffffff, 0, 0⟩,
  ⟨0x30400, 4, 3, 4, 1, 0, 0x7ffff, 0, 0, 0, 0, 0, 0, 0, 0⟩,
  ⟨0x3040c, 4, 1, 4, 1, 0, 7, 0, 0, 0, 0, 0, 0, 0, 0⟩,
  ⟨0x30410, 4, 1, 4, 1, 0, 0, 0, 0, 0, 0, 0, 0, 0, 0⟩]
/-- Rows of TIME (spec chapter 20), part 1. -/
def rowsTIME0 (_ : Variant) : List Row := [
  ⟨0x40000, 4, 1, 4, 1, 0, 0, 0, 0, 0, 0, 0, 0, 0, 0⟩,
  ⟨0x40004, 4, 1, 4, 1, 0, 0, 0, 0, 0, 0, 0, 0, 0, 0⟩,
  ⟨0x40008, 4, 1, 4, 1, 0, 0, 0, 0, 0, 0, 0, 0, 0, 0⟩,
  ⟨0x4000c, 4, 1, 4, 1, 0, 0, 0, 0, 0, 0, 0, 0, 0, 0⟩,
  ⟨0x40010, 4, 1, 4, 1, 0, 0, 3, 0, 0, 0, 0xfffffffc, 0, 0, 0⟩,
  ⟨0x40014, 4, 1, 4, 1, 0xffffffff, 0, 0, 0, 0, 0, 0, 0, 0, 0⟩,
  ⟨0x40018, 4, 1, 4, 1, 0xffffffff, 0, 0, 0, 0, 0, 0, 0, 0, 0⟩,
  ⟨0x4001c, 4, 1, 4, 1, 0xffff, 0, 0, 0, 0, 0, 0xffff0000, 0, 0, 0⟩,
  ⟨0x40020, 4, 1, 4, 1, 0xffffffff, 0, 0, 0, 0, 0, 0, 0, 0, 0⟩,
  ⟨0x40024, 4, 1, 4, 1, 0, 0, 0, 0, 0, 0, 0, 0, 0, 0⟩,
  ⟨0x40028, 4, 1, 4, 1, 0, 0, 0, 0, 0, 0, 0, 0, 0, 0⟩,
  ⟨0x40030, 4, 1, 4, 1, 0xffffffc0, 0, 0, 0, 0, 0, 0x3f, 0, 0, 0x121c0⟩,
  ⟨0x40034, 4, 1, 4, 1, 0xfffffff0, 0, 0, 0, 0, 0, 0xf, 0, 0, 0xfd010030⟩,
  ⟨0x40038, 4, 1, 4, 1, 0xffffff80, 0, 0, 0, 0, 0, 0x7f, 0, 0, 0x8080bb00⟩,
  ⟨0x4003c, 4, 1, 4, 1, 0, 0, 0, 0, 0, 0, 0, 0, 0, 0x80000000⟩,
  ⟨0x40040, 4, 1, 4, 1, 0, 0, 0, 0, 0, 0, 0, 0, 0, 0x80000000⟩,
  ⟨0x40044, 4, 3, 4, 1, 0xffffffff, 0, 0, 0, 0, 0, 0, 0, 0, 0⟩,
  ⟨0x40050, 4, 3, 4, 1, 0, 0, 0, 0, 0, 0, 0, 0, 0, 1⟩,
  ⟨0x40060, 4, 1, 4, 1, 0xffff0f07, 0, 0, 0, 0, 0, 0xf0f8, 0, 0, 0x640301⟩,
  ⟨0x40064, 4, 1, 4, 1, 0, 0, 0, 0, 0, 0, 0, 0, 0, 0⟩,
  ⟨0x40068, 4, 1, 4, 1, 0, 0, 0, 0, 0, 0, 0, 0, 0, 0⟩,
  ⟨0x40070, 4, 1, 4, 1, 0, 0xfffe, 0, 0, 0, 0, 0, 0, 0, 0⟩,
  ⟨0x40074, 4, 1, 4, 1, 0xfffe, 0, 0, 0, 0, 0, 0, 0, 0, 0⟩,
  ⟨0x40080, 4, 1, 4, 1, 0, 0xff00, 0, 0, 0, 0, 0, 0, 0, 0⟩,
  ⟨0x40084, 4, 1, 4, 1, 0xff, 0, 0, 0, 0, 0, 0xffffff00, 0, 0, 0⟩,
  ⟨0x40100, 0x20, 4, 4, 1, 0xffffff0f, 0, 0, 0, 0, 0, 0xf0, 0, 0, 0x100⟩,
  ⟨0x40104, 0x20, 4, 4, 1, 0xffffffff, 0, 0, 0, 0, 0, 0, 0, 0, 0⟩,
  ⟨0x40108, 0x20, 4, 4, 1, 0xffffffff, 0, 0, 0, 0, 0, 0, 0, 0, 0⟩,
  ⟨0x4010c, 0x20, 4, 4, 1, 0xffff, 0, 0, 0, 0, 0, 0xffff0000, 0, 0, 0⟩,
  ⟨0x40110, 0x20, 4, 4, 1, 0xffffffff, 0, 0, 0, 0, 0, 0, 0, 0, 0x3b9aca00⟩,
  ⟨0x40114, 0x20, 4, 4, 1, 0, 0, 0, 0, 0, 0, 0, 0, 0, 0⟩,
  ⟨0x40200, 4, 1, 4, 1, 0, 0, 0, 0, 0, 0, 0, 0, 0, 0⟩,
  ⟨0x40204, 4, 1, 4, 1, 0, 0, 0, 0, 0, 0, 0, 0, 0, 0⟩,
  ⟨0x40208, 4, 1, 4, 1, 0, 0, 0, 0, 0, 0, 0, 0, 0, 0⟩,
  ⟨0x4020c, 4, 1, 4, 1, 0, 0, 0, 0, 0, 0, 0, 0, 0, 0⟩,
  ⟨0x40210, 4, 1, 4, 1, 0, 0x80, 0, 0, 0, 0, 0, 0, 0, 0⟩,
  ⟨0x40800, 4, 1, 4, 1, 0, 0, 0, 0, 0, 0, 0, 0xffffffff, 0, 0⟩,
  ⟨0x40804, 4, 1, 4, 1, 0, 0, 0, 0, 0, 0, 0, 0xffffffff, 0, 0⟩,
  ⟨0x40808, 4, 1, 4, 1, 0, 0, 0, 0, 0, 0, 0, 0xffffffff, 0, 0⟩,
  ⟨0x4080c, 4, 1, 4, 1, 0, 0, 0, 0, 0, 0, 0, 0xffffffff, 0, 0⟩]
/-- Rows of TIME (spec chapter 20), part 2. -/
def rowsTIME1 (_ : Variant) : List Row := [
  ⟨0x40810, 4, 1, 4, 1, 0, 0, 0, 0, 0, 0, 0, 0xffffffff, 0, 0⟩,
  ⟨0x40814, 4, 1, 4, 1, 0, 0, 0, 0, 0, 0, 0, 0xffffffff, 0, 0⟩,
  ⟨0x40818, 4, 1, 4, 1, 0, 0, 0, 0, 0, 0, 0, 0xffffffff, 0, 0⟩,
  ⟨0x4081c, 4, 1, 4, 1, 0, 0, 0, 0, 0, 0, 0, 0xffffffff, 0, 0⟩,
  ⟨0x4083c, 4, 1, 4, 1, 0, 0xff, 0, 0, 0, 0, 0, 0, 0, 0⟩]
/-- Rows of CLK (spec chapter 20), part 1. -/
def rowsCLK0 (_ : Variant) : List Row := [
  ⟨0x50000, 4, 1, 4, 1, 0xffff001f, 0, 0, 0, 0, 0, 0xffe0, 0, 0, 0xa3c0008⟩,
  ⟨0x50004, 4, 1, 4, 1, 0xffffff0, 0, 0, 0, 0, 0, 0xf000000f, 0, 0, 0x2110⟩,
  ⟨0x50008, 4, 1, 4, 1, 0, 0, 0, 0, 0, 0, 0, 0, 0, 0⟩,
  ⟨0x5000c, 4, 1, 4, 1, 0, 0, 0, 0, 0, 0, 0, 0, 0, 0⟩,
  ⟨0x50010, 4, 1, 4, 1, 0, 0, 0, 0, 0, 0, 0, 0, 0, 0⟩,
  ⟨0x50014, 4, 1, 4, 1, 0xffffffff, 0, 0, 0, 0, 0, 0, 0, 0, 0x6432320a⟩,
  ⟨0x50018, 4, 1, 4, 1, 0xffff, 0, 0, 0, 0, 0, 0xffff0000, 0, 0, 0x32c8⟩,
  ⟨0x5001c, 4, 1, 4, 1, 0xff00001f, 0, 0, 0, 0, 0, 0xffffe0, 0, 0, 0x25000001⟩,
  ⟨0x50020, 4, 1, 4, 1, 0x3ff03ff, 0, 0, 0, 0, 0, 0xfc00fc00, 0, 0, 0x78003c⟩,
  ⟨0x50024, 4, 1, 4, 1, 0, 0, 0, 0, 0, 0, 0, 0, 0, 0⟩,
  ⟨0x50028, 4, 1, 4, 1, 0, 0, 0, 0, 0, 0, 0, 0, 0, 0⟩,
  ⟨0x5002c, 4, 1, 4, 1, 0, 0, 0, 0, 0, 0, 0, 0, 0, 0⟩,
  ⟨0x50030, 4, 1, 4, 1, 0, 0, 0x1f, 0, 0, 0, 0xfffffee0, 0, 0, 0⟩,
  ⟨0x50034, 4, 1, 4, 1, 0x37, 0, 0, 0, 0, 0, 0xffffffc8, 0, 0, 1⟩,
  ⟨0x50038, 4, 1, 4, 1, 0xff, 0, 0, 0, 0, 0, 0xffffff00, 0, 0, 0⟩,
  ⟨0x5003c, 4, 1, 4, 1, 0xff, 0, 0, 0, 0, 0, 0xffffff00, 0, 0, 0⟩,
  ⟨0x50040, 4, 1, 4, 1, 0, 0x1fff, 0, 0, 0, 0, 0, 0, 0, 0⟩,
  ⟨0x50044, 4, 1, 4, 1, 0x1fff, 0, 0, 0, 0, 0, 0, 0, 0, 0⟩,
  ⟨0x50100, 4, 7, 4, 1, 0, 0, 0, 0, 0, 0, 0, 0, 0, 0⟩,
  ⟨0x51000, 4, 0x400, 4, 1, 0, 0, 0, 0, 0, 0, 0, 0, 0, 0x80000000⟩]
/-- Rows of STRM (spec chapter 20), part 1. -/
def rowsSTRM0 (v : Variant) : List Row := [
  ⟨0x60000, 4, 1, 4, 1, 0x700, 0, 0, 0, 0, 0, 0xfffff8ff, 0, 0, 0x700⟩,
  ⟨0x60004, 4, 1, 4, 1, 0, 0, 0, 0, 0, 0, 0, 0, 0, 0⟩,
  ⟨0x60008, 4, 1, 4, 1, 0, 0, 0, 0, 0, 0, 0, 0, 0, 0⟩,
  ⟨0x6000c, 4, 1, 4, 1, 0x1f, 0, 0, 0, 0, 0, 0xffffffe0, 0, 0, 0⟩,
  ⟨0x60010, 4, 1, 4, 1, 0, 0, 0, 0, 0, 0, 0, 0, 0, 0⟩,
  ⟨0x60014, 4, 1, 4, 1, 0, 0, 0, 0, 0, 0, 0, 0, 0, 0⟩,
  ⟨0x60018, 4, 1, 4, 1, 0, 0, 0, 0, 0, 0, 0, 0, 0, 0⟩,
  ⟨0x6001c, 4, 1, 4, 1, 0, 0x1ff, 0, 0, 0, 0, 0, 0, 0, 0⟩,
  ⟨0x60020, 4, 1, 4, 1, 0x1ff, 0, 0, 0, 0, 0, 0, 0, 0, 0⟩,
  ⟨0x67f00, 4, 1, 4, 1, 0, 0, 0, 0, 0, 0, 0, 0xffffffff, 0, 0⟩,
  ⟨0x67f04, 4, 1, 4, 1, 0, 0, 0, 0, 0, 0, 0, 0xffffffff, 0, 0⟩,
  ⟨0x67f3c, 4, 1, 4, 1, 0, 3, 0, 0, 0, 0, 0, 0, 0, 0⟩,
  ⟨0x68000, 0x40, (v.pick 0x100 0x80 0x40), 4, 1, 0, 0, 0, 0, 0, 0, 0, 0xffffffff, 0, 0⟩,
  ⟨0x68004, 0x40, (v.pick 0x100 0x80 0x40), 4, 1, 0, 0, 0, 0, 0, 0, 0, 0xffffffff, 0, 0⟩,
  ⟨0x68008, 0x40, (v.pick 0x100 0x80 0x40), 4, 1, 0, 0, 0, 0, 0, 0, 0, 0xffffffff, 0, 0⟩,
  ⟨0x6800c, 0x40, (v.pick 0x100 0x80 0x40), 4, 1, 0, 0, 0, 0, 0, 0, 0, 0xffffffff, 0, 0⟩,
  ⟨0x68010, 0x40, (v.pick 0x100 0x80 0x40), 4, 1, 0, 0, 0, 0, 0, 0, 0, 0xffffffff, 0, 0⟩,
  ⟨0x68014, 0x40, (v.pick 0x100 0x80 0x40), 4, 1, 0, 0, 0, 0, 0, 0, 0, 0xffffffff, 0, 0⟩,
  ⟨0x68018, 0x40, (v.pick 0x100 0x80 0x40), 4, 1, 0, 0, 0, 0, 0, 0, 0, 0xffffffff, 0, 0⟩,
  ⟨0x6801c, 0x40, (v.pick 0x100 0x80 0x40), 4, 1, 0, 0, 0, 0, 0, 0, 0, 0xffffffff, 0, 0⟩,
  ⟨0x68020, 0x40, (v.pick 0x100 0x80 0x40), 4, 1, 0, 0, 0, 0, 0, 0, 0, 0xffffffff, 0, 0⟩,
  ⟨0x68024, 0x40, (v.pick 0x100 0x80 0x40), 4, 1, 0, 0, 0, 0, 0, 0, 0, 0xffffffff, 0, 0⟩,
  ⟨0x68028, 0x40, (v.pick 0x100 0x80 0x40), 4, 1, 0, 0, 0, 0, 0, 0, 0, 0xffffffff, 0, 0⟩,
  ⟨0x6802c, 0x40, (v.pick 0x100 0x80 0x40), 4, 1, 0, 0, 0, 0, 0, 0, 0, 0xffffffff, 0, 0⟩,
  ⟨0x68030, 0x40, (v.pick 0x100 0x80 0x40), 4, 1, 0, 0, 0, 0, 0, 0, 0, 0xffffffff, 0, 0⟩,
  ⟨0x6803c, 0x40, (v.pick 0x100 0x80 0x40), 4, 1, 0, 0x1fff, 0, 0, 0, 0, 0, 0, 0, 0⟩,
  ⟨0x6c000, 0x40, (v.pick 0x100 0x80 0x40), 4, 1, 0, 0, 0, 0, 0, 0, 0, 0xffffffff, 0, 0⟩,
  ⟨0x6c004, 0x40, (v.pick 0x100 0x80 0x40), 4, 1, 0, 0, 0, 0, 0, 0, 0, 0xffffffff, 0, 0⟩,
  ⟨0x6c03c, 0x40, (v.pick 0x100 0x80 0x40), 4, 1, 0, 3, 0, 0, 0, 0, 0, 0, 0, 0⟩]
/-- Rows of PLAY (spec chapter 20), part 1. -/
def rowsPLAY0 (v : Variant) : List Row := [
  ⟨0x70000, 4, 1, 4, 1, 0xf0f, 0, 0, 0, 0, 0, 0xfffff0f0, 0, 0, 0xc02⟩,
  ⟨0x70004, 4, 1, 4, 1, 0, 0, 0, 0, 0, 0, 0, 0, 0, 0⟩,
  ⟨0x70008, 4, 1, 4, 1, 0, 0, 0, 0, 0, 0, 0, 0, 0, 0⟩,
  ⟨0x7000c, 4, 1, 4, 1, 0, 0, 0, 0, 0, 0, 0, 0, 0, 0⟩,
  ⟨0x70010, 4, 1, 4, 1, 0, 0, 0, 0, 0, 0, 0, 0, 0, 0⟩,
  ⟨0x70014, 4, 1, 4, 1, 0xffffff, 0, 0, 0, 0, 0xffffff, 0xff000000, 0, 0, 0⟩,
  ⟨0x70020, 4, 4, 4, 1, 0, 0, 0, 0, 0, 0, 0, 0, 0, 0⟩,
  ⟨0x70030, 4, 1, 4, 1, 0, 0x3ff, 0, 0, 0, 0, 0, 0, 0, 0⟩,
  ⟨0x70034, 4, 1, 4, 1, 0x3ff, 0, 0, 0, 0, 0, 0, 0, 0, 0⟩,
  ⟨0x70100, 4, 1, 4, 1, 0, 0, 0, 0, 0, 0, 0, 0xffffffff, 0, 0⟩,
  ⟨0x70104, 4, 1, 4, 1, 0, 0, 0, 0, 0, 0, 0, 0xffffffff, 0, 0⟩,
  ⟨0x70108, 4, 1, 4, 1, 0, 0, 0, 0, 0, 0, 0, 0xffffffff, 0, 0⟩,
  ⟨0x7010c, 4, 1, 4, 1, 0, 0, 0, 0, 0, 0, 0, 0xffffffff, 0, 0⟩,
  ⟨0x70110, 4, 1, 4, 1, 0, 0, 0, 0, 0, 0, 0, 0xffffffff, 0, 0⟩,
  ⟨0x70114, 4, 1, 4, 1, 0, 0, 0, 0, 0, 0, 0, 0xffffffff, 0, 0⟩,
  ⟨0x7013c, 4, 1, 4, 1, 0, 0x3f, 0, 0, 0, 0, 0, 0, 0, 0⟩,
  ⟨0x71000, 0x40, (v.pick 0x40 0x20 0x10), 4, 1, 0, 0, 0, 0, 0, 0, 0, 0xffffffff, 0, 0⟩,
  ⟨0x71004, 0x40, (v.pick 0x40 0x20 0x10), 4, 1, 0, 0, 0, 0, 0, 0, 0, 0xffffffff, 0, 0⟩,
  ⟨0x71008, 0x40, (v.pick 0x40 0x20 0x10), 4, 1, 0, 0, 0, 0, 0, 0, 0, 0xffffffff, 0, 0⟩,
  ⟨0x7100c, 0x40, (v.pick 0x40 0x20 0x10), 4, 1, 0, 0, 0, 0, 0, 0, 0, 0xffffffff, 0, 0⟩,
  ⟨0x71010, 0x40, (v.pick 0x40 0x20 0x10), 4, 1, 0, 0, 0, 0, 0, 0, 0, 0xffffffff, 0, 0⟩,
  ⟨0x71014, 0x40, (v.pick 0x40 0x20 0x10), 4, 1, 0, 0, 0, 0, 0, 0, 0, 0xffffffff, 0, 0⟩,
  ⟨0x71018, 0x40, (v.pick 0x40 0x20 0x10), 4, 1, 0, 0, 0, 0, 0, 0, 0, 0xffffffff, 0, 0⟩,
  ⟨0x7103c, 0x40, (v.pick 0x40 0x20 0x10), 4, 1, 0, 0x7f, 0, 0, 0, 0, 0, 0, 0, 0⟩]
/-- Rows of ENG (spec chapter 20), part 1. -/
def rowsENG0 (v : Variant) : List Row := [
  ⟨0x80000, 4, 1, 4, 1, 0x170, 0, 0, 0, 0, 0x100, 0xfffffe8f, 0, 0, 0x100⟩,
  ⟨0x80004, 4, 1, 4, 1, 0, 0, 0, 0, 0, 0, 0, 0, 0, (v.pick 0xffff 0xff 0xf)⟩,
  ⟨0x80008, 4, 1, 4, 1, 0xffffff, 0, 0, 0, 0, 0xffffff, 0xff000000, 0, 0, 0⟩,
  ⟨0x8000c, 4, 1, 4, 1, 0, 0, 0, 0, 0, 0, 0, 0xffffff, 0, 0⟩,
  ⟨0x80010, 4, 1, 4, 1, 0, 0x7ff, 0, 0, 0, 0, 0, 0, 0, 0⟩,
  ⟨0x80014, 4, 1, 4, 1, 0x7ff, 0, 0, 0, 0, 0, 0, 0, 0, 0⟩,
  ⟨0x80018, 4, 1, 4, 1, 0xffffffff, 0, 0, 0, 0, 0xffffffff, 0, 0, 0, 0⟩,
  ⟨0x8001c, 4, 1, 4, 1, 0, 0, 1, 0, 0, 1, 0xfffffffc, 0, 0, 0⟩,
  ⟨0x80100, 4, (v.pick 0x10 8 4), 4, 1, 0, 0, 0x1f, 0, 0, 0x18, 0xffffffe0, 0, 0, 0⟩,
  ⟨0x80200, 4, (v.pick 0x10 8 4), 4, 1, 0, 0, 0, 0, 0, 0, 0, 0, 0, 0⟩,
  ⟨0x80300, 4, (v.pick 0x10 8 4), 4, 1, 0x3ffff, 0, 0, 0, 0, 0x3ffff, 0xfffc0000, 0, 0, 0⟩,
  ⟨0x80400, 4, (v.pick 0x10 8 4), 4, 1, 0, 0, 0, 0, 0, 0, 0, 0x3ffff, 0, 0⟩,
  ⟨0x80800, 0x20, (v.pick 0x10 8 4), 4, 1, 0, 0, 0, 0, 0, 0, 0, 0xffffffff, 0, 0⟩,
  ⟨0x80804, 0x20, (v.pick 0x10 8 4), 4, 1, 0, 0, 0, 0, 0, 0, 0, 0xffffffff, 0, 0⟩,
  ⟨0x80808, 0x20, (v.pick 0x10 8 4), 4, 1, 0, 0, 0, 0, 0, 0, 0, 0xffffffff, 0, 0⟩,
  ⟨0x8080c, 0x20, (v.pick 0x10 8 4), 4, 1, 0, 0, 0, 0, 0, 0, 0, 0xffffffff, 0, 0⟩,
  ⟨0x80810, 0x20, (v.pick 0x10 8 4), 4, 1, 0, 0, 0, 0, 0, 0, 0, 0xffffffff, 0, 0⟩,
  ⟨0x8081c, 0x20, (v.pick 0x10 8 4), 4, 1, 0, 0x1f, 0, 0, 0, 0, 0, 0, 0, 0⟩,
  ⟨0x80a00, 4, 1, 4, 1, 0, 0, 0, 0, 0, 0, 0, 0xffffffff, 0, 0⟩,
  ⟨0x80a04, 4, 1, 4, 1, 0, 0, 0, 0, 0, 0, 0, 0xffffffff, 0, 0⟩,
  ⟨0x80a1c, 4, 1, 4, 1, 0, 3, 0, 0, 0, 0, 0, 0, 0, 0⟩,
  ⟨0x81000, 0x20, 0x40, 4, 1, 0x80fc007f, 0, 0, 0, 0, 0x80fc007f, 0x1f03ff80, 0, 0, 0⟩,
  ⟨0x81004, 0x20, 0x40, 4, 1, 0x3ffff, 0, 0, 0, 0, 0x3ffff, 0xfffc0000, 0, 0, 0⟩,
  ⟨0x81008, 0x20, 0x40, 4, 1, 0xfff0fff, 0, 0, 0, 0, 0xfff0fff, 0xf000f000, 0, 0, 0⟩,
  ⟨0x8100c, 0x20, 0x40, 4, 1, 0xffffffff, 0, 0, 0, 0, 0xffffffff, 0, 0, 0, 0x80000000⟩,
  ⟨0x81010, 0x20, 0x40, 4, 1, 0xffffffff, 0, 0, 0, 0, 0xffffffff, 0, 0, 0, 0⟩,
  ⟨0x81014, 0x20, 0x40, 4, 1, 0xfff01fff, 0, 0, 0, 0, 0xfff01fff, 0xfe000, 0, 0, 0⟩,
  ⟨0x81018, 0x20, 0x40, 4, 1, 0xffffffff, 0, 0, 0, 0, 0xffffffff, 0, 0, 0, 0⟩,
  ⟨0x8101c, 0x20, 0x40, 4, 1, 0, 0, 0, 0, 0, 0, 0, 0, 0, 0⟩,
  ⟨0x81800, 4, 0x40, 4, 1, 0, 0, 0, 0, 0, 0, 0, 0, 0, 0⟩,
  ⟨0x81c00, 4, 1, 4, 1, 8, 0, 7, 0, 0, 0xf, 0xfffffff0, 0, 0, 0⟩,
  ⟨0x81c04, 4, 1, 4, 1, 0, 0, 0, 0xffffffff, 0xffffffff, 0xffffffff, 0, 0, 0, 0⟩,
  ⟨0x81c08, 4, 1, 4, 1, 0, 0x10, 0, 0, 0, 0, 0, 0, 0, 0⟩,
  ⟨0x81c0c, 4, 1, 4, 1, 0, 0, 0, 0, 0, 0, 0, 0, 0, 0⟩,
  ⟨0x81c10, 4, 1, 4, 1, 0xffffffff, 0, 0, 0, 0, 0xffffffff, 0, 0, 0, 0⟩]
/-- Rows of XPT (spec chapter 20), part 1. -/
def rowsXPT0 (v : Variant) : List Row := [
  ⟨0x90000, 4, 1, 4, 1, 0x3fff7fff, 0, 0, 0, 0, 0x3fff7fff, 0xc0008000, 0, 0, 0⟩,
  ⟨0x90004, 4, 1, 4, 1, 0x3fffff, 0, 0, 0, 0, 0, 0xffc00000, 0, 0, 0⟩,
  ⟨0x90008, 4, 1, 4, 1, 0x1f, 0, 0, 0, 0, 0, 0xffffffe0, 0, 0, 0⟩,
  ⟨0x90010, 4, 1, 4, 1, 0, 0x7f, 0, 0, 0, 0, 0, 0, 0, 0⟩,
  ⟨0x90014, 4, 1, 4, 1, 0x7f, 0, 0, 0, 0, 0, 0, 0, 0, 0⟩,
  ⟨0x90100, 4, 1, 4, 1, 0, 0, 0, 0, 0, 0, 0, 0xffffffff, 0, 0⟩,
  ⟨0x90104, 4, 1, 4, 1, 0, 0, 0, 0, 0, 0, 0, 0xffffffff, 0, 0⟩,
  ⟨0x90108, 4, 1, 4, 1, 0, 0, 0, 0, 0, 0, 0, 0xffffffff, 0, 0⟩,
  ⟨0x9010c, 4, 1, 4, 1, 0, 0, 0, 0, 0, 0, 0, 0xffffffff, 0, 0⟩,
  ⟨0x90110, 4, 1, 4, 1, 0, 0, 0, 0, 0, 0, 0, 0xffffffff, 0, 0⟩,
  ⟨0x90114, 4, 1, 4, 1, 0, 0, 0, 0, 0, 0, 0, 0xffffffff, 0, 0⟩,
  ⟨0x90118, 4, 1, 4, 1, 0, 0, 0, 0, 0, 0, 0, 0xffffffff, 0, 0⟩,
  ⟨0x9011c, 4, 1, 4, 1, 0, 0x7f, 0, 0, 0, 0, 0, 0, 0, 0⟩,
  ⟨0x91000, 4, (v.pick 0x100 0x80 0x40), 4, 1, 0, 0, 0, 0, 0, 0, 0, 0, 0, 0x40000000⟩,
  ⟨0x92000, 8, (v.pick 0x400 0x200 0x100), 4, 1, 0, 0, 0, 0, 0, 0, 0, 0, 0, 0⟩,
  ⟨0x92004, 8, (v.pick 0x400 0x200 0x100), 4, 1, 0, 0, 0, 0, 0, 0, 0, 0, 0, 0⟩]
/-- Rows of TDM (spec chapter 20), part 1. -/
def rowsTDM0 (v : Variant) : List Row := [
  ⟨0xa0000, 0x100, (v.pick 8 4 2), 4, 1, 0xfffff000, 0, 0, 0, 0, 0, 0xfff, 0, 0, 0x49393000⟩,
  ⟨0xa0004, 0x100, (v.pick 8 4 2), 4, 1, 0xd, 0, 0, 0, 0, 0, 0xfffffff2, 0, 0, 0⟩,
  ⟨0xa0008, 0x100, (v.pick 8 4 2), 4, 1, 0, 0, 0, 0, 0, 0, 0, 0, 0, 8⟩,
  ⟨0xa000c, 0x100, (v.pick 8 4 2), 4, 1, 0, 0, 0, 0, 0, 0, 0, 0, 0, 0xe0⟩,
  ⟨0xa0010, 0x100, (v.pick 8 4 2), 4, 1, 0, 0, 0, 0, 0, 0, 0, 0, 0, 0⟩,
  ⟨0xa0900, 4, 1, 4, 1, 0, 0x3ffffff, 0, 0, 0, 0, 0, 0, 0, 0⟩,
  ⟨0xa0904, 4, 1, 4, 1, 0x3ffffff, 0, 0, 0, 0, 0, 0, 0, 0, 0⟩,
  ⟨0xa0908, 4, 1, 4, 1, 0xffff, 0, 0, 0, 0, 0, 0xffff0000, 0, 0, 0x1405⟩,
  ⟨0xa090c, 4, 1, 4, 1, 0, 0, 0, 0, 0, 0, 0, 0, 0, 0⟩,
  ⟨0xa0910, 4, 1, 4, 1, 1, 0, 0, 0, 0, 0, 0xfffffffe, 0, 0, 0⟩,
  ⟨0xa1000, 0x100, (v.pick 8 4 2), 4, 0x20, 0x80000fff, 0, 0, 0, 0, 0, 0x7ffff000, 0, 0, 0⟩,
  ⟨0xa1080, 0x100, (v.pick 8 4 2), 4, 0x20, 0xeff00fff, 0, 0, 0, 0, 0, 0x100ff000, 0, 0, 0⟩,
  ⟨0xa2000, 0x20, (v.pick 8 4 2), 4, 1, 0, 0, 0, 0, 0, 0, 0, 0xffffffff, 0, 0⟩,
  ⟨0xa2004, 0x20, (v.pick 8 4 2), 4, 1, 0, 0, 0, 0, 0, 0, 0, 0xffffffff, 0, 0⟩,
  ⟨0xa2008, 0x20, (v.pick 8 4 2), 4, 1, 0, 0, 0, 0, 0, 0, 0, 0xffffffff, 0, 0⟩,
  ⟨0xa200c, 0x20, (v.pick 8 4 2), 4, 1, 0, 0, 0, 0, 0, 0, 0, 0xffffffff, 0, 0⟩,
  ⟨0xa2010, 0x20, (v.pick 8 4 2), 4, 1, 0, 0, 0, 0, 0, 0, 0, 0xffffffff, 0, 0⟩,
  ⟨0xa201c, 0x20, (v.pick 8 4 2), 4, 1, 0, 0x1f, 0, 0, 0, 0, 0, 0, 0, 0⟩]
/-- Rows of PROOF (spec chapter 20), part 1. -/
def rowsPROOF0 (v : Variant) : List Row := [
  ⟨0xb0000, 4, 1, 4, 1, 0xfc00ffff, 0, 0, 0, 0, 0, 0x3ff0000, 0, 0, 0x18006405⟩,
  ⟨0xb0004, 4, 1, 4, 1, 0, 0, 0, 0, 0, 0, 0, 0, 0, 0⟩,
  ⟨0xb0008, 4, 1, 4, 1, 0xff80, 0, 0x7e, 0, 0, 0, 0xffff0001, 0, 0, 0⟩,
  ⟨0xb000c, 4, 1, 4, 1, 0xfffffff0, 0, 0, 0, 0, 0, 0xf, 0, 0, 0x3c3c14c0⟩,
  ⟨0xb0010, 4, 1, 4, 1, 0, 0, 0, 0, 0, 0, 0, 0, 0, 0⟩,
  ⟨0xb0014, 4, 1, 4, 1, 0, 0x3fff, 0, 0, 0, 0, 0, 0, 0, 0⟩,
  ⟨0xb0018, 4, 1, 4, 1, 0x3fff, 0, 0, 0, 0, 0, 0, 0, 0, 0⟩,
  ⟨0xb0020, 4, (v.pick 8 8 4), 4, 1, 0xc0000fff, 0x20000000, 0, 0, 0, 0, 0x1ffff000, 0, 0, 0⟩,
  ⟨0xb0100, 4, 1, 4, 1, 0, 0, 0, 0, 0, 0, 0, 0xffffffff, 0, 0⟩,
  ⟨0xb0104, 4, 1, 4, 1, 0, 0, 0, 0, 0, 0, 0, 0xffffffff, 0, 0⟩,
  ⟨0xb0108, 4, 1, 4, 1, 0, 0, 0, 0, 0, 0, 0, 0xffffffff, 0, 0⟩,
  ⟨0xb010c, 4, 1, 4, 1, 0, 0, 0, 0, 0, 0, 0, 0xffffffff, 0, 0⟩,
  ⟨0xb0110, 4, 1, 4, 1, 0, 0, 0, 0, 0, 0, 0, 0xffffffff, 0, 0⟩,
  ⟨0xb0114, 4, 1, 4, 1, 0, 0, 0, 0, 0, 0, 0, 0xffffffff, 0, 0⟩,
  ⟨0xb0118, 4, 1, 4, 1, 0, 0, 0, 0, 0, 0, 0, 0xffffffff, 0, 0⟩,
  ⟨0xb011c, 4, 1, 4, 1, 0, 0, 0, 0, 0, 0, 0, 0xffffffff, 0, 0⟩,
  ⟨0xb0120, 4, 1, 4, 1, 0, 0, 0, 0, 0, 0, 0, 0xffffffff, 0, 0⟩,
  ⟨0xb0124, 4, 1, 4, 1, 0, 0, 0, 0, 0, 0, 0, 0xffffffff, 0, 0⟩,
  ⟨0xb013c, 4, 1, 4, 1, 0, 0x3ff, 0, 0, 0, 0, 0, 0, 0, 0⟩,
  ⟨0xb4000, 0x20, (v.pick 0x100 0x80 0x40), 4, 8, 0, 0, 0, 0, 0, 0, 0, 0, 0, 0⟩]
/-- Rows of SPLICE (spec chapter 20), part 1. -/
def rowsSPLICE0 (_ : Variant) : List Row := [
  ⟨0xc0000, 4, 1, 4, 1, 0x99, 0, 0, 0, 0, 0, 0xffffff66, 0, 0, 0x18⟩,
  ⟨0xc0004, 4, 1, 4, 1, 0, 0, 0, 0, 0, 0, 0, 0, 0, 0x100000⟩,
  ⟨0xc0008, 4, 1, 4, 1, 0, 0, 7, 0, 0, 4, 0xfffffff8, 0, 0, 0⟩,
  ⟨0xc000c, 4, 1, 4, 1, 0xffffffff, 0, 0, 0, 0, 0, 0, 0, 0, 0⟩,
  ⟨0xc0010, 4, 2, 4, 1, 0, 0, 0, 0, 0, 0, 0, 0, 0, 0⟩,
  ⟨0xc0018, 4, 1, 4, 1, 0x30ffffff, 0, 0, 0, 0, 0, 0xcf000000, 0, 0, 0⟩,
  ⟨0xc001c, 4, 1, 4, 1, 0xffffffff, 0, 0, 0, 0, 0, 0, 0, 0, 0⟩,
  ⟨0xc0020, 4, 1, 4, 1, 0, 0, 3, 0, 0, 0, 0xffffff08, 0, 0, 0⟩,
  ⟨0xc0024, 4, 1, 4, 1, 0, 0x3ffb, 0, 0, 0, 0, 0, 0, 0, 0⟩,
  ⟨0xc0028, 4, 1, 4, 1, 0x3ffb, 0, 0, 0, 0, 0, 0, 0, 0, 0⟩,
  ⟨0xc0100, 0x40, 2, 4, 1, 0, 0, 0, 0, 0, 0, 0, 0xffffffff, 0, 0⟩,
  ⟨0xc0104, 0x40, 2, 4, 1, 0, 0, 0, 0, 0, 0, 0, 0xffffffff, 0, 0⟩,
  ⟨0xc0108, 0x40, 2, 4, 1, 0, 0, 0, 0, 0, 0, 0, 0xffffffff, 0, 0⟩,
  ⟨0xc010c, 0x40, 2, 4, 1, 0, 0, 0, 0, 0, 0, 0, 0xffffffff, 0, 0⟩,
  ⟨0xc0110, 0x40, 2, 4, 1, 0, 0, 0, 0, 0, 0, 0, 0xffffffff, 0, 0⟩,
  ⟨0xc0114, 0x40, 2, 4, 1, 0, 0, 0, 0, 0, 0, 0, 0xffffffff, 0, 0⟩,
  ⟨0xc013c, 0x40, 2, 4, 1, 0, 0x3f, 0, 0, 0, 0, 0, 0, 0, 0⟩]
/-- Rows of HMQ (spec chapter 20), part 1. -/
def rowsHMQ0 (_ : Variant) : List Row := [
  ⟨0xd0000, 0x100, 4, 4, 1, 0x7f, 0, 0, 0, 0, 0, 0xffffff80, 0, 0, 0⟩,
  ⟨0xd0004, 0x100, 4, 4, 1, 0, 0, 0, 0, 0, 0, 0, 0, 0, 0⟩,
  ⟨0xd0008, 0x100, 4, 4, 1, 0, 0, 0, 0, 0, 0, 0, 0, 0, 0x4000⟩,
  ⟨0xd000c, 0x100, 4, 4, 1, 0, 0, 0, 0, 0, 0, 0, 0, 0, 0⟩,
  ⟨0xd0010, 0x100, 4, 4, 1, 0, 0, 0, 0, 0, 0, 0, 0, 0, 0⟩,
  ⟨0xd0014, 0x100, 4, 4, 1, 0, 0, 1, 0, 0, 0, 0xfffffffe, 0, 0, 0⟩,
  ⟨0xd0018, 0x100, 4, 4, 1, 0, 0x1f, 0, 0, 0, 0, 0, 0, 0, 0⟩,
  ⟨0xd001c, 0x100, 4, 4, 1, 0x1f, 0, 0, 0, 0, 0, 0, 0, 0, 0⟩,
  ⟨0xd0040, 0x100, 4, 4, 1, 0, 0, 0, 0, 0, 0, 0, 0xffffffff, 0, 0⟩,
  ⟨0xd0044, 0x100, 4, 4, 1, 0, 0, 0, 0, 0, 0, 0, 0xffffffff, 0, 0⟩,
  ⟨0xd0048, 0x100, 4, 4, 1, 0, 0, 0, 0, 0, 0, 0, 0xffffffff, 0, 0⟩,
  ⟨0xd004c, 0x100, 4, 4, 1, 0, 0, 0, 0, 0, 0, 0, 0xffffffff, 0, 0⟩,
  ⟨0xd0050, 0x100, 4, 4, 1, 0, 0, 0, 0, 0, 0, 0, 0xffffffff, 0, 0⟩,
  ⟨0xd0054, 0x100, 4, 4, 1, 0, 0, 0, 0, 0, 0, 0, 0xffffffff, 0, 0⟩,
  ⟨0xd005c, 0x100, 4, 4, 1, 0, 0x3f, 0, 0, 0, 0, 0, 0, 0, 0⟩]
/-- Rows of MGMT (spec chapter 20), part 1. -/
def rowsMGMT0 (_ : Variant) : List Row := [
  ⟨0xe0000, 4, 1, 4, 1, 0, 0x1fff, 0, 0, 0, 0, 0, 0, 0, 0⟩,
  ⟨0xe0004, 4, 1, 4, 1, 0x1fff, 0, 0, 0, 0, 0, 0, 0, 0, 0⟩,
  ⟨0xe0010, 4, 1, 4, 1, 0, 0, 0, 0, 0, 0, 0, 0, 0, 0⟩,
  ⟨0xe0014, 4, 1, 4, 1, 0xffffff01, 0, 0, 0, 0xffffff01, 0, 0xfe, 0, 0, 0x3c00⟩,
  ⟨0xe0018, 4, 2, 4, 1, 0x1fffff, 0, 0, 0, 0x1fffff, 0, 0xffe00000, 0, 0, 0⟩,
  ⟨0xe0020, 4, 1, 4, 1, 0, 0, 0, 0, 0, 0, 0, 0, 0, 0⟩,
  ⟨0xe0040, 4, 1, 4, 1, 0, 0, 1, 0, 1, 0, 0xfffffffe, 0, 0, 0⟩,
  ⟨0xe0044, 4, 1, 4, 1, 0, 0, 0, 0, 0, 0, 0, 0, 0, 0⟩,
  ⟨0xe0048, 4, 1, 4, 1, 0, 0, 0, 0, 0, 0, 0, 0, 0, 0⟩,
  ⟨0xe0060, 4, 1, 4, 1, 0, 0, 1, 0, 1, 1, 0xfffffffe, 0, 0, 0⟩,
  ⟨0xe0064, 4, 1, 4, 1, 0, 2, 0, 0, 0, 0xffff0007, 0, 0, 0, 0⟩,
  ⟨0xe0080, 4, 8, 4, 1, 0, 0, 0, 0xffffffff, 0xffffffff, 0xffffffff, 0, 0, 0, 0⟩,
  ⟨0xe00c0, 4, 1, 4, 1, 0xe0, 0, 0x1f, 0, 0xff, 0xff, 0xffffff00, 0, 0, 0x80⟩,
  ⟨0xe00c4, 4, 1, 4, 1, 0, 0, 0, 0xffffffff, 0xffffffff, 0xffffffff, 0, 0, 0, 0⟩,
  ⟨0xe00c8, 4, 1, 4, 1, 0, 0x80, 0, 0, 0, 0, 0, 0, 0, 0⟩,
  ⟨0xe00cc, 4, 2, 4, 1, 0, 0, 0, 0, 0, 0, 0, 0, 0, 0⟩,
  ⟨0xe00d4, 4, 1, 4, 1, 0, 0, 0, 0, 0, 0, 0, 0, 0, 0⟩,
  ⟨0xe0100, 4, 1, 4, 1, 0xf8, 0, 0, 0, 0xf8, 0, 0xffffff07, 0, 0, 0x60⟩,
  ⟨0xe0104, 4, 1, 4, 1, 0, 0, 0, 0, 0, 0, 0, 0, 0, 0⟩,
  ⟨0xe0108, 4, 1, 4, 1, 0xffffffff, 0, 0, 0, 0xffffffff, 0, 0, 0, 0, 0⟩,
  ⟨0xe010c, 4, 1, 4, 1, 0, 0, 0, 0, 0, 0, 0, 0, 0, 0⟩,
  ⟨0xe0110, 4, 0x10, 4, 1, 0, 0, 0, 0, 0, 0, 0, 0, 0, 0⟩,
  ⟨0xe0200, 4, 0xb, 4, 1, 0, 0, 0, 0, 0, 0, 0, 0, 0, 0⟩,
  ⟨0xe1000, 8, 0x17, 4, 1, 0, 0, 0, 0, 0, 0, 0, 0, 0, 0⟩,
  ⟨0xe1004, 8, 0x17, 4, 1, 0, 0, 0, 0, 0, 0, 0, 0, 0, 0⟩,
  ⟨0xe3000, 0x200, 3, 4, 0x26, 0, 0, 0, 0, 0, 0, 0, 0, 0, 0⟩,
  ⟨0xe3600, 4, 6, 4, 1, 0, 0, 0, 0, 0, 0, 0, 0, 0, 0⟩]
/-- Rows of TEST (spec chapter 20), part 1. -/
def rowsTEST0 (_ : Variant) : List Row := [
  ⟨0xf0000, 4, 1, 4, 1, 0, 0, 0xffffffff, 0, 0xffffffff, 0xffffffff, 0, 0, 0, 0⟩,
  ⟨0xf0004, 4, 1, 4, 1, 0, 0, 0xffffffff, 0, 0xffffffff, 0xffffffff, 0, 0, 0, 0⟩,
  ⟨0xf0008, 4, 1, 4, 1, 0, 0, 1, 0, 1, 1, 0xfffffffe, 0, 0, 0⟩,
  ⟨0xf000c, 4, 1, 4, 1, 0, 0, 0, 0, 0, 0, 0, 0, 0, 0⟩,
  ⟨0xf0010, 4, 1, 4, 1, 0, 0, 0, 0, 0, 0, 0, 0, 0, 0⟩,
  ⟨0xf0014, 4, 1, 4, 1, 0, 0, 0, 0, 0, 0, 0, 0, 0, 0⟩,
  ⟨0xf0018, 4, 1, 4, 1, 0, 0, 0, 0, 0, 0, 0, 0, 0, 0⟩,
  ⟨0xf001c, 4, 1, 4, 1, 0x1ffff, 0, 0, 0, 0x1ffff, 0, 0xfffe0000, 0, 0, 0⟩,
  ⟨0xf0020, 4, 1, 4, 1, 0, 0, 0, 0, 0, 0, 0, 0, 0, 0x100⟩,
  ⟨0xf0024, 4, 1, 4, 1, 3, 0, 0, 0, 3, 1, 0xfffffffc, 0, 0, 2⟩,
  ⟨0xf0028, 4, 1, 4, 1, 0, 0x3f, 0, 0, 0, 0, 0, 0, 0, 0⟩,
  ⟨0xf002c, 4, 1, 4, 1, 0x3f, 0, 0, 0, 0, 0, 0, 0, 0, 0⟩,
  ⟨0xf0100, 0x10, 0x20, 4, 1, 0, 0, 0, 0, 0, 0, 0, 0, 0, 0⟩,
  ⟨0xf0104, 0x10, 0x20, 4, 1, 0, 0, 0, 0, 0, 0, 0, 0, 0, 0⟩,
  ⟨0xf0108, 0x10, 0x20, 4, 1, 0, 0, 0, 0, 0, 0, 0, 0, 0, 0⟩,
  ⟨0xf010c, 0x10, 0x20, 4, 1, 0, 0, 0, 0, 0, 0, 0, 0, 0xffffffff, 0⟩,
  ⟨0xf8000, 4, 0x400, 4, 1, 0xffffffff, 0, 0, 0, 0, 0xffffffff, 0, 0, 0xffffffff, 0⟩]
/-- Table rows of the 64 KiB window 0x10 (R576). -/
def rowsTable10 (v : Variant) : List Row := [
  ⟨0x100000, 0x40, (v.pick 0x100 0x80 0x40), 4, 1, 0xfbfffff0, 0, 0, 0, 0, 0, 0x400000f, 0, 0, 0⟩,
  ⟨0x100004, 0x40, (v.pick 0x100 0x80 0x40), 4, 1, 0xfff0ffff, 0, 0, 0, 0, 0, 0xf0000, 0, 0, 0⟩,
  ⟨0x100008, 0x40, (v.pick 0x100 0x80 0x40), 4, 1, 0x7f000fff, 0, 0, 0, 0, 0, 0x80fff000, 0, 0, 0⟩,
  ⟨0x10000c, 0x40, (v.pick 0x100 0x80 0x40), 4, 1, 0xffffffff, 0, 0, 0, 0, 0, 0, 0, 0, 0⟩,
  ⟨0x100010, 0x40, (v.pick 0x100 0x80 0x40), 4, 1, 0xffffffff, 0, 0, 0, 0, 0, 0, 0, 0, 0⟩,
  ⟨0x100014, 0x40, (v.pick 0x100 0x80 0x40), 4, 1, 0xffffffff, 0, 0, 0, 0, 0, 0, 0, 0, 0⟩,
  ⟨0x100018, 0x40, (v.pick 0x100 0x80 0x40), 4, 1, 0xffffffff, 0, 0, 0, 0, 0, 0, 0, 0, 0⟩,
  ⟨0x10001c, 0x40, (v.pick 0x100 0x80 0x40), 4, 1, 0xffffffff, 0, 0, 0, 0, 0, 0, 0, 0, 0⟩,
  ⟨0x100020, 0x40, (v.pick 0x100 0x80 0x40), 4, 1, 0xffffffff, 0, 0, 0, 0, 0, 0, 0, 0, 0⟩,
  ⟨0x100024, 0x40, (v.pick 0x100 0x80 0x40), 4, 1, 0xffff0000, 0, 0, 0, 0, 0, 0xffff, 0, 0, 0⟩,
  ⟨0x100028, 0x40, (v.pick 0x100 0x80 0x40), 4, 1, 0xffffffff, 0, 0, 0, 0, 0, 0, 0, 0, 0⟩,
  ⟨0x10002c, 0x40, (v.pick 0x100 0x80 0x40), 4, 1, 0xffffffff, 0, 0, 0, 0, 0, 0, 0, 0, 0⟩,
  ⟨0x100030, 0x40, (v.pick 0x100 0x80 0x40), 4, 1, 0xffffffff, 0, 0, 0, 0, 0, 0, 0, 0, 0⟩,
  ⟨0x100034, 0x40, (v.pick 0x100 0x80 0x40), 4, 1, 0xffff00ff, 0, 0, 0, 0, 0, 0xff00, 0, 0, 0⟩,
  ⟨0x100038, 0x40, (v.pick 0x100 0x80 0x40), 4, 1, 0, 0, 0, 0, 0, 0, 0, 0, 0, 0⟩,
  ⟨0x10003c, 0x40, (v.pick 0x100 0x80 0x40), 4, 1, 0, 0, 0, 0, 0, 0, 0, 0, 0, 0⟩,
  ⟨0x104000, 0x40, (v.pick 0x100 0x80 0x40), 4, 1, 0xcbc0fff0, 0, 0, 0, 0, 0, 0x343f000f, 0, 0, 0⟩,
  ⟨0x104004, 0x40, (v.pick 0x100 0x80 0x40), 4, 1, 0xfff0ffff, 0, 0, 0, 0, 0, 0xf0000, 0, 0, 0⟩,
  ⟨0x104008, 0x40, (v.pick 0x100 0x80 0x40), 4, 1, 0x7fffcfff, 0, 0, 0, 0, 0, 0x80003000, 0, 0, 0⟩,
  ⟨0x10400c, 0x40, (v.pick 0x100 0x80 0x40), 4, 1, 0xffffffff, 0, 0, 0, 0, 0, 0, 0, 0, 0⟩,
  ⟨0x104010, 0x40, (v.pick 0x100 0x80 0x40), 4, 1, 0xffffffff, 0, 0, 0, 0, 0, 0, 0, 0, 0⟩,
  ⟨0x104014, 0x40, (v.pick 0x100 0x80 0x40), 4, 1, 0xffffffff, 0, 0, 0, 0, 0, 0, 0, 0, 0⟩,
  ⟨0x104018, 0x40, (v.pick 0x100 0x80 0x40), 4, 1, 0xffffffff, 0, 0, 0, 0, 0, 0, 0, 0, 0⟩,
  ⟨0x10401c, 0x40, (v.pick 0x100 0x80 0x40), 4, 1, 0xffffffff, 0, 0, 0, 0, 0, 0, 0, 0, 0⟩,
  ⟨0x104020, 0x40, (v.pick 0x100 0x80 0x40), 4, 1, 0xffffffff, 0, 0, 0, 0, 0, 0, 0, 0, 0⟩,
  ⟨0x104024, 0x40, (v.pick 0x100 0x80 0x40), 4, 1, 0xffff0000, 0, 0, 0, 0, 0, 0xffff, 0, 0, 0⟩,
  ⟨0x104028, 0x40, (v.pick 0x100 0x80 0x40), 4, 1, 0, 0, 0, 0, 0, 0, 0, 0, 0, 0⟩,
  ⟨0x10402c, 0x40, (v.pick 0x100 0x80 0x40), 4, 1, 0, 0, 0, 0, 0, 0, 0, 0, 0, 0⟩,
  ⟨0x104030, 0x40, (v.pick 0x100 0x80 0x40), 4, 1, 0, 0, 0, 0, 0, 0, 0, 0, 0, 0⟩,
  ⟨0x104034, 0x40, (v.pick 0x100 0x80 0x40), 4, 1, 0xffff00ff, 0, 0, 0, 0, 0, 0xff00, 0, 0, 0⟩,
  ⟨0x104038, 0x40, (v.pick 0x100 0x80 0x40), 4, 1, 0, 0, 0, 0, 0, 0, 0, 0, 0, 0⟩,
  ⟨0x10403c, 0x40, (v.pick 0x100 0x80 0x40), 4, 1, 0, 0, 0, 0, 0, 0, 0, 0, 0, 0⟩,
  ⟨0x108000, 0x20, (v.pick 0x40 0x20 0x10), 4, 1, 0xe7ffffff, 0, 0, 0, 0, 0, 0x18000000, 0, 0, 0⟩,
  ⟨0x108004, 0x20, (v.pick 0x40 0x20 0x10), 4, 1, 0xffffffff, 0, 0, 0, 0, 0, 0, 0, 0, 0⟩,
  ⟨0x108008, 0x20, (v.pick 0x40 0x20 0x10), 4, 1, 0, 0, 0, 0, 0, 0, 0, 0, 0, 0⟩,
  ⟨0x10800c, 0x20, (v.pick 0x40 0x20 0x10), 4, 1, 0, 0, 0, 0, 0, 0, 0, 0, 0, 0⟩,
  ⟨0x108010, 0x20, (v.pick 0x40 0x20 0x10), 4, 1, 0, 0, 0, 0, 0, 0, 0, 0, 0, 0⟩,
  ⟨0x108014, 0x20, (v.pick 0x40 0x20 0x10), 4, 1, 0, 0, 0, 0, 0, 0, 0, 0, 0, 0⟩,
  ⟨0x108018, 0x20, (v.pick 0x40 0x20 0x10), 4, 1, 0, 0, 0, 0, 0, 0, 0, 0, 0, 0⟩,
  ⟨0x10801c, 0x20, (v.pick 0x40 0x20 0x10), 4, 1, 0, 0, 0, 0, 0, 0, 0, 0, 0, 0⟩]
/-- Table rows of the 64 KiB window 0x11 (R576). -/
def rowsTable11 (v : Variant) : List Row := [
  ⟨0x110000, 0x80, (v.pick 0x100 0x80 0x40), 4, 0x20, 0x8fff8fff, 0, 0, 0, 0, 0, 0x70007000, 0, 0, 0⟩,
  ⟨0x118000, 0x80, (v.pick 0x100 0x80 0x40), 4, 0x20, 0x8fff8fff, 0, 0, 0, 0, 0, 0x70007000, 0, 0, 0⟩]
/-- Table rows of the 64 KiB window 0x12 (R576). -/
def rowsTable12 (v : Variant) : List Row := [
  ⟨0x120000, 0x10, (v.pick 0x4000 0x2000 0x1000), 4, 1, 0x8fff0fff, 0, 0, 0, 0, 0, 0x7000f000, 0, 0, 0⟩,
  ⟨0x120004, 0x10, (v.pick 0x4000 0x2000 0x1000), 4, 1, 0xffffffff, 0, 0, 0, 0, 0, 0, 0, 0, 0⟩,
  ⟨0x120008, 0x10, (v.pick 0x4000 0x2000 0x1000), 4, 1, 0x1fff, 0, 0, 0, 0, 0, 0xe000, 0, 0, 0⟩,
  ⟨0x12000c, 0x10, (v.pick 0x4000 0x2000 0x1000), 4, 1, 0, 0, 0, 0, 0, 0, 0, 0, 0, 0⟩]
/-- Table rows of the 64 KiB window 0x16 (R576). -/
def rowsTable16 (v : Variant) : List Row := [
  ⟨0x160000, 0x10, (v.pick 0x100 0x80 0x40), 4, 1, 0x80000fff, 0, 0, 0, 0, 0, 0x7ffff000, 0, 0, 0⟩,
  ⟨0x160004, 0x10, (v.pick 0x100 0x80 0x40), 4, 1, 0xffffffff, 0, 0, 0, 0, 0, 0, 0, 0, 0⟩,
  ⟨0x160008, 0x10, (v.pick 0x100 0x80 0x40), 4, 1, 0xffffffff, 0, 0, 0, 0, 0, 0, 0, 0, 0⟩,
  ⟨0x16000c, 0x10, (v.pick 0x100 0x80 0x40), 4, 1, 0xffffffff, 0, 0, 0, 0, 0, 0, 0, 0, 0⟩,
  ⟨0x164000, 4, (v.pick 0x400 0x200 0x100), 4, 1, 0x80000fff, 0, 0, 0, 0, 0, 0x7ffff000, 0, 0, 0⟩,
  ⟨0x168000, 0x10, (v.pick 0x800 0x400 0x200), 4, 1, 0x8003ffff, 0, 0, 0, 0, 0x8003ffff, 0x7ffc0000, 0, 0, 0⟩,
  ⟨0x168004, 0x10, (v.pick 0x800 0x400 0x200), 4, 1, 0x7ffff, 0, 0, 0, 0, 0x7ffff, 0xfff80000, 0, 0, 0⟩,
  ⟨0x168008, 0x10, (v.pick 0x800 0x400 0x200), 4, 1, 0, 0, 0, 0, 0, 0, 0, 0, 0, 0⟩,
  ⟨0x16800c, 0x10, (v.pick 0x800 0x400 0x200), 4, 1, 0, 0, 0, 0, 0, 0, 0, 0, 0, 0⟩]
/-- Table rows of the 64 KiB window 0x17 (R576). -/
def rowsTable17 (v : Variant) : List Row := [
  ⟨0x170000, 0x40, (v.pick 0x100 0x80 0x40), 4, 1, 0xdfff0f1f, 0, 0, 0, 0, 0, 0xf0e0, 0, 0, 0⟩,
  ⟨0x170004, 0x40, (v.pick 0x100 0x80 0x40), 4, 1, 0xffffffff, 0, 0, 0, 0, 0, 0, 0, 0, 0⟩,
  ⟨0x170008, 0x40, (v.pick 0x100 0x80 0x40), 4, 1, 0xffffffff, 0, 0, 0, 0, 0, 0, 0, 0, 0⟩,
  ⟨0x17000c, 0x40, (v.pick 0x100 0x80 0x40), 4, 1, 0xffffffff, 0, 0, 0, 0, 0, 0, 0, 0, 0⟩,
  ⟨0x170010, 0x40, (v.pick 0x100 0x80 0x40), 4, 1, 0xffffffff, 0, 0, 0, 0, 0, 0, 0, 0, 0⟩,
  ⟨0x170014, 0x40, (v.pick 0x100 0x80 0x40), 4, 1, 0xffffffff, 0, 0, 0, 0, 0, 0, 0, 0, 0⟩,
  ⟨0x170018, 0x40, (v.pick 0x100 0x80 0x40), 4, 1, 0xffffffff, 0, 0, 0, 0, 0, 0, 0, 0, 0⟩,
  ⟨0x17001c, 0x40, (v.pick 0x100 0x80 0x40), 4, 1, 0xff00ffff, 0, 0, 0, 0, 0, 0xff0000, 0, 0, 0⟩,
  ⟨0x170020, 0x40, (v.pick 0x100 0x80 0x40), 4, 1, 0, 0, 0, 0, 0, 0, 0, 0, 0, 0⟩,
  ⟨0x170024, 0x40, (v.pick 0x100 0x80 0x40), 4, 1, 0, 0, 0, 0, 0, 0, 0, 0, 0, 0⟩,
  ⟨0x170028, 0x40, (v.pick 0x100 0x80 0x40), 4, 1, 0, 0, 0, 0, 0, 0, 0, 0, 0, 0⟩,
  ⟨0x17002c, 0x40, (v.pick 0x100 0x80 0x40), 4, 1, 0, 0, 0, 0, 0, 0, 0, 0, 0, 0⟩,
  ⟨0x170030, 0x40, (v.pick 0x100 0x80 0x40), 4, 1, 0, 0, 0, 0, 0, 0, 0, 0, 0, 0⟩,
  ⟨0x170034, 0x40, (v.pick 0x100 0x80 0x40), 4, 1, 0, 0, 0, 0, 0, 0, 0, 0, 0, 0⟩,
  ⟨0x170038, 0x40, (v.pick 0x100 0x80 0x40), 4, 1, 0, 0, 0, 0, 0, 0, 0, 0, 0, 0⟩,
  ⟨0x17003c, 0x40, (v.pick 0x100 0x80 0x40), 4, 1, 0, 0, 0, 0, 0, 0, 0, 0, 0, 0⟩,
  ⟨0x174000, 0x80, (v.pick 0x100 0x80 0x40), 8, 8, 0xffffffff, 0, 0, 0, 0, 0, 0, 0, 0, 0⟩,
  ⟨0x174004, 0x80, (v.pick 0x100 0x80 0x40), 8, 8, 0xffff0000, 0, 0, 0, 0, 0, 0, 0, 0, 0⟩,
  ⟨0x174040, 0x80, (v.pick 0x100 0x80 0x40), 4, 0x10, 0, 0, 0, 0, 0, 0, 0, 0, 0, 0⟩,
  ⟨0x17c000, 0x10, 0x80, 4, 1, 0, 0, 0, 0, 0, 0, 0, 0, 0, 0⟩,
  ⟨0x17c004, 0x10, 0x80, 4, 1, 0, 0, 0, 0, 0, 0, 0, 0, 0, 0⟩,
  ⟨0x17c008, 0x10, 0x80, 4, 1, 0, 0, 0, 0, 0, 0, 0, 0, 0, 0⟩,
  ⟨0x17c00c, 0x10, 0x80, 4, 1, 0, 0, 0, 0, 0, 0, 0, 0, 0, 0⟩]
/-- Table rows of the 64 KiB window 0x18 (R576). -/
def rowsTable18 (v : Variant) : List Row := [
  ⟨0x180000, 4, 0x400, 4, 1, 0xc0000fff, 0, 0, 0, 0, 0, 0x3ffff000, 0, 0, 0⟩,
  ⟨0x181000, 4, 0x400, 4, 1, 0x80000fff, 0, 0, 0, 0, 0, 0x7ffff000, 0, 0, 0⟩,
  ⟨0x182000, 4, 0x400, 4, 1, 0xc0000fff, 0, 0, 0, 0, 0, 0x3ffff000, 0, 0, 0⟩,
  ⟨0x183000, 4, 0x400, 4, 1, 0x80000fff, 0, 0, 0, 0, 0, 0x7ffff000, 0, 0, 0⟩,
  ⟨0x184000, 4, (v.pick 0x200 0x100 0x80), 4, 1, 0x80000fff, 0, 0, 0, 0, 0, 0x7ffff000, 0, 0, 0⟩,
  ⟨0x184800, 4, (v.pick 0x200 0x100 0x80), 4, 1, 0x80000fff, 0, 0, 0, 0, 0, 0x7ffff000, 0, 0, 0⟩]
/-- Table rows of the 64 KiB window 0x19 (R576). -/
def rowsTable19 (_ : Variant) : List Row := [
  ⟨0x190000, 0x10, 0x40, 4, 1, 0x8fffffff, 0, 0, 0, 0, 0, 0x70000000, 0, 0, 0⟩,
  ⟨0x190004, 0x10, 0x40, 4, 1, 0xfffff800, 0, 0, 0, 0, 0, 0x7ff, 0, 0, 0⟩,
  ⟨0x190008, 0x10, 0x40, 4, 1, 0xffffffff, 0, 0, 0, 0, 0, 0, 0, 0, 0⟩,
  ⟨0x19000c, 0x10, 0x40, 4, 1, 0, 0, 0, 0, 0, 0, 0, 0, 0, 0⟩]

/-- The rows that can hold an address: the 64 KiB windows of R557 and R576. -/
def rowsAt (v : Variant) (adr : Nat) : List Row :=
  match adr / 0x10000 with
  | 0 => rowsSYS0 v
  | 1 => rowsPWR0 v
  | 2 => rowsRING0 v
  | 3 => rowsMSTAT0 v
  | 4 => rowsTIME0 v ++ rowsTIME1 v
  | 5 => rowsCLK0 v
  | 6 => rowsSTRM0 v
  | 7 => rowsPLAY0 v
  | 8 => rowsENG0 v
  | 9 => rowsXPT0 v
  | 10 => rowsTDM0 v
  | 11 => rowsPROOF0 v
  | 12 => rowsSPLICE0 v
  | 13 => rowsHMQ0 v
  | 14 => rowsMGMT0 v
  | 15 => rowsTEST0 v
  | 0x10 => rowsTable10 v
  | 0x11 => rowsTable11 v
  | 0x12 => rowsTable12 v
  | 0x16 => rowsTable16 v
  | 0x17 => rowsTable17 v
  | 0x18 => rowsTable18 v
  | 0x19 => rowsTable19 v
  | 0x13 => rowsTable12 v
  | 0x14 => rowsTable12 v
  | 0x15 => rowsTable12 v
  | _ => []

/-- The row holds the word at this address. -/
def Row.holds (r : Row) (adr : Nat) : Bool :=
  Nat.ble r.adr adr &&
    (let d := adr - r.adr
     Nat.blt (d / r.s1) r.c1 && (let e := d % r.s1; Nat.beq (e % r.s2) 0 && Nat.blt (e / r.s2) r.c2))

/-- The row of the word at an address; none where the map has no register there (R558, R418). -/
def rowAt (v : Variant) (adr : Nat) : Option Row :=
  (rowsAt v adr).find? (fun r => r.holds adr)

/-- The reset value of the word at an address (R558): the row's value, with the bits written in manufacture taken from
the module's factory constants. An address that no row holds is not architectural; its word is 0. -/
def resetWord (v : Variant) (adr : Nat) : BitVec 32 :=
  match rowAt v adr with
  | none => 0
  | some r =>
    if r.fac = 0 then BitVec.ofNat 32 r.reset
    else BitVec.ofNat 32 r.reset ||| (Config.factory adr &&& BitVec.ofNat 32 r.fac)

end Sys2Proof.Machine
end

