-- ==== Sys2Proof/Machine/Sparse.lean ====
section
/-! DEFINITION. Sparse stores: a list of keys and values with the keys strictly rising and no value equal to what an
unlisted key reads as. Registers and memories are held in this form. -/

namespace Sys2Proof.Machine

/-- The value listed for a key. -/
def Sparse.find {α : Type} : List (Nat × α) → Nat → Option α
  | [], _ => none
  | (k, v) :: t, a => if k = a then some v else Sparse.find t a

/-- Place a value under a key, in order. -/
def Sparse.insert {α : Type} (a : Nat) (v : α) : List (Nat × α) → List (Nat × α)
  | [] => [(a, v)]
  | (k, w) :: t =>
    if a < k then (a, v) :: (k, w) :: t
    else if a = k then (a, v) :: t
    else (k, w) :: Sparse.insert a v t

/-- Store a value under a key whose unlisted value is `d`: storing `d` removes the entry. -/
def Sparse.put {α : Type} [DecidableEq α] (d : α) (l : List (Nat × α)) (a : Nat) (v : α) : List (Nat × α) :=
  if v = d then l.filter (fun c => c.1 != a) else Sparse.insert a v l

/-- The keys of a store rise strictly. -/
def Sparse.sorted {α : Type} : List (Nat × α) → Bool
  | [] => true
  | [_] => true
  | (a, _) :: (b, w) :: t => Nat.blt a b && Sparse.sorted ((b, w) :: t)

/-- The canonical form: keys rise strictly, and no entry holds its key's unlisted value. -/
def Sparse.wf {α : Type} [DecidableEq α] (d : Nat → α) (l : List (Nat × α)) : Bool :=
  Sparse.sorted l && l.all (fun c => !(decide (c.2 = d c.1)))

end Sys2Proof.Machine
end

