-- ==== Sys2Proof/Machine/State.lean ====
section
/-! DEFINITION. The machine's state as plain data: every register and table word of the register map in one sparse
store, every memory in another, and for each block the state its chapter gives it beyond its registers. -/

namespace Sys2Proof.Machine

/-! ### Management subsystem (spec chapter 16) -/

/-- Yunasel's own settings, held by a configuration (R481). -/
structure Settings where
  autoStart : Bool
  holdS : Nat
  controllerKeys : List (Nat × List Word)
  deriving DecidableEq, Repr

/-- A configuration slot of MRAM (R480, R481): the header's checks and the snapshot it holds. -/
structure CfgSlot where
  magic : Bool
  good : Bool
  format : Nat
  gen : Nat
  length : Nat
  imageId : Word
  regs : List (Nat × Word)
  image : List Word
  retiredBlocks : Nat
  retiredUnits : Nat
  retiredLines : List (Nat × Nat)
  retiredCores : List (Nat × Nat)
  settings : Settings
  deriving DecidableEq, Repr

/-- One copy of the installer-key region (R487). -/
structure KeyCopy where
  ok : Bool
  key : List Word
  version : Nat
  deriving DecidableEq, Repr

/-- One copy of the lifetime counters (R477). -/
structure LifeCopy where
  ok : Bool
  gen : Nat
  counts : List Nat
  sat : Nat
  deriving DecidableEq, Repr

/-- A firmware bank of MRAM (R459, R492): the words delivered to it, whether it is marked
invalid, and whether the signature over its words verifies under the boot ROM's key. -/
structure FwBank where
  words : List Word
  invalid : Bool
  sigOk : Bool
  deriving DecidableEq, Repr

/-- Firmware (R492 to R495): the bank that runs and the default bank (true for B), whether it runs on trial and when the trial
ends, the slot that saves go to meanwhile, an activation that waits and whether its scheduler entry has come, whether the next
start is the trial's, and the rollback that the next start follows (its reason). -/
structure FwRun where
  bank : Bool
  dflt : Bool
  trial : Bool
  left : Nat
  slot : Bool
  pend : Bool
  go : Bool
  next : Bool
  rolled : Option Nat
  deriving DecidableEq, Repr

/-- The management subsystem: `slotA` configuration slot A of MRAM (R480); `slotB` configuration slot B of MRAM (R480); `keyA`
installer-key copy A (R487); `keyB` installer-key copy B (R487); `lifeA` lifetime counters, copy A (R477); `lifeB` lifetime
counters, copy B (R477); `bankA` firmware bank A (R459); `bankB` firmware bank B (R459); `rollback` anti-rollback counter
(R492); `log` the event log in MRAM, newest first, 65,536 records (R472); `logSeq` sequence number of the next record (R470);
`staging` records not yet written (R472); `logLost` records lost since the last loss record (R472); `logIdx` LOG_IDX of each
master (R473); `life` the 23 lifetime counters in RAM, 48 bits each (R476); `lifeSat` their saturation bits (R476); `lifeNext`
which copy is written next (R477); `lifeLatch` high-word latch of each master (R478); `lifeLatchSat` its SAT bit (R478);
`totals` the 60 totals of MSTAT counters, 64 bits (R479); `totalLatch` their high-word latch of each master (R479); `rtcSec`
RTC seconds, 48 bits (R462); `rtcTick` RTC fraction of a second (R462); `rtcRunning` the RTC runs (R462); `timeQuality` time
quality of log records (R463); `utcOffset` UTC offset last received (R465); `schedRetry` scheduler entries being retried, with
the minutes tried (R468); `saveSnap` the snapshot of a save being written (R483); `rtcHeld` the RTC ran through the last
outage (R463); `rtcKnown` the time is known (R463); `stageKey` the staged installer key, 8 words (R488); `keyCommit` a key
commit being written (R489); `settings` Yunasel's settings loaded (R481); `fw` firmware banks' use, trial and rollback (R493);
`started` Yunasel has started since power-up (R484); `bootFailed` no bank verifies (R495); `retiredBlocks` retired test
blocks, as a save holds them (R481); `retiredLines` retired lines (R481); `retiredCores` retired cores with their causes
(R481); `image` the operative image's words (R485); `imageCert` the image passes its checks at the rate (R292). -/
structure Mgmt where
  slotA : CfgSlot
  slotB : CfgSlot
  keyA : KeyCopy
  keyB : KeyCopy
  lifeA : LifeCopy
  lifeB : LifeCopy
  bankA : FwBank
  bankB : FwBank
  rollback : Nat
  log : List (List Word)
  logSeq : Nat
  staging : List (List Word)
  logLost : Nat
  logIdx : List Nat
  life : List Nat
  lifeSat : Nat
  lifeNext : Bool
  lifeLatch : List Nat
  lifeLatchSat : List Bool
  totals : List Nat
  totalLatch : List Nat
  rtcSec : Nat
  rtcTick : Nat
  rtcRunning : Bool
  timeQuality : Nat
  utcOffset : Option Nat
  schedRetry : List (Nat × Nat)
  saveSnap : Option CfgSlot
  rtcHeld : Bool
  rtcKnown : Bool
  stageKey : List Word
  keyCommit : Option (List Word × Nat)
  settings : Settings
  fw : FwRun
  started : Bool
  bootFailed : Bool
  retiredBlocks : Nat
  retiredLines : List (Nat × Nat)
  retiredCores : List (Nat × Nat)
  image : List Word
  imageCert : Bool
  deriving DecidableEq, Repr

/-! ### Host message queues (spec chapter 15) -/

/-- A message a producer offers (R441): the header fields the producer decides, and its body. -/
structure Msg where
  queue : Nat
  prio : Nat
  src : Nat
  core : Nat
  desc : Nat
  ef : Nat
  body : List Word
  deriving DecidableEq, Repr

/-- An admitted message: its words in order, how many the port has written and how many the reader has taken. -/
structure HeldMsg where
  prio : Nat
  bodyLen : Nat
  words : List Word
  written : Nat
  taken : Nat
  eligible : Bool
  deriving DecidableEq, Repr

/-- One host message queue (R442 to R448): waiting messages, admitted messages in header order, the message the port is
writing is the last held one that is not fully written; the reader's lock is the place of its message. -/
structure Hmq where
  waiting : List Msg
  held : List HeldMsg
  lock : Option Nat
  lastVal : Word
  nextSeq : Nat
  deriving DecidableEq, Repr

/-! ### Power (spec chapter 17) -/

/-- Power and start-up: `powered` U0 has power; false is OFF (R14); `holdup` the holdup sequence runs (R513); `powerBack`
power returned during it (R513); `fwVerified` firmware verified (R504); `cfgLoaded` configuration loaded (R504); `stagingUnit`
the unit that stages (R505); `stagePg` its power-good has come (R505); `stageInt` its interval has ended (R505); `stageFails`
failed starts in a row (R506); `stagePermanent` the start has failed for good (R506); `stageWait` a retry of the start waits
(R506); `unitTry` the unit tried again alone (R506); `unitFails` failures of each unit in a row (R506); `retiredUnits` units
retired (R506); `auxRun` AUX_3V3 overloads in a row (R503); `auxTimer` a restart of AUX_3V3 waits (R503); `auxHolding` a
restart has not yet held (R503); `limitedTimer` 10 s since limited mode run (R502); `thermal` held down by temperature (R514);
`thermalNext` the next start follows a thermal shutdown (R514); `quietEntry` QUIET is being entered (R509); `wake` a wake runs
(R511); `readyFade` READY fades the ports (R515); `trig` the EF trigger runs (R16); `readyReturn` READY abandons a wake
(R511); `heldCause` cause of a held RUN (R19); `defaultPulse` FAULT_N pulses for factory defaults (R485). -/
structure Pwr where
  powered : Bool
  holdup : Bool
  powerBack : Bool
  fwVerified : Bool
  cfgLoaded : Bool
  stagingUnit : Option Nat
  stagePg : Bool
  stageInt : Bool
  stageFails : Nat
  stagePermanent : Bool
  stageWait : Bool
  unitTry : Option Nat
  unitFails : List (Nat × Nat)
  retiredUnits : Nat
  auxRun : Nat
  auxTimer : Bool
  auxHolding : Bool
  limitedTimer : Bool
  thermal : Bool
  thermalNext : Bool
  quietEntry : Bool
  wake : Bool
  readyFade : Bool
  trig : Bool
  readyReturn : Bool
  heldCause : Nat
  defaultPulse : Bool
  deriving DecidableEq, Repr

/-! ### Ring ports, bypass and switch (spec chapter 2) -/

/-- A frame waiting at an egress: its traffic class, whether the module originated it, whether it takes a transmit
timestamp (R93), the host descriptor it came from, the DPLL count at its ingress and the correction owed besides
residence (R88, R89), the talker it belongs to, whether it has been counted as deferred by a gate (R48) or held for a
timestamp entry (R93), and the ingress pool it occupies (R62). -/
structure EgFrame where
  frame : Frame
  cls : Nat
  own : Bool
  timed : Bool
  host : Option Nat
  inUp : Nat
  addCorr : Int
  talker : Option Nat
  deferred : Bool
  tsHeld : Bool
  pool : Option Nat
  deriving DecidableEq, Repr

/-- A gate list's running cycle (R48): `anchor` is the time-base value at which a cycle is to start. -/
structure Gate where
  running : Bool
  entry : Nat
  count : Nat
  nextCount : Nat
  cycleUp : Nat
  swap : Bool
  anchor : Option Nat
  deriving DecidableEq, Repr

/-- A ring or spur port: `fails` training failures in succession (R28); `withheld` rates withheld (R28); `flaps` times of
flaps within 60 s (R69); `holdEnd` when hold-down ends (R69); `lastAudio` last audio-class frame (R32); `pool` bytes of the
256 KiB ingress pool in use (R62); `xoff` a pause has been sent (R63); `stopped` classes stopped by pause, with their ends
(R64); `rxRem` received bytes below 64, carried over (R66); `txRem` sent bytes below 64, carried over (R66); `queue` frames
waiting at the egress (R45); `credit5` credit of class 5 (R45); `credit4` credit of class 4 (R45); `up5` when
class 5's credit was last counted (R45); `up4` when class 4's was (R45); `idle5` reservation in force for class 5 (R45); `idle4`
that for class 4 (R45); `gate` the gate list's cycle (R48). -/
structure RingPort where
  fails : Nat
  withheld : Nat
  flaps : List Nat
  holdEnd : Nat
  lastAudio : Nat
  pool : Nat
  xoff : Bool
  stopped : List (Nat × Nat)
  rxRem : Nat
  txRem : Nat
  queue : List EgFrame
  credit5 : Int
  credit4 : Int
  up5 : Nat
  up4 : Nat
  idle5 : Nat
  idle4 : Nat
  gate : Gate
  deriving DecidableEq, Repr

/-- A recovery entry (R55): `since` counts the positions passed since the frame of its latest reset. -/
structure Frer where
  fresh : Bool
  lastSeq : Nat
  hist : Nat
  since : Nat
  lastPass : Nat
  deriving DecidableEq, Repr

/-- A join of the bypass that the policy has still to make (R39). -/
inductive JoinWait where
  | none
  | delay (endUp : Nat)
  | schedule
  | now
  deriving DecidableEq, Repr

/-- RING: `ports` ports A, B and C (R27); `join` a delayed or scheduled join (R42); `frerL` recovery entries of listeners
(R55); `frerS` recovery entries by source, 128, least recently used (R56); `talkerSeq` sequence generators of talkers (R52);
`sharedSeq` the shared sequence generator (R52); `joins` snooped group joins on port C (R183). -/
structure Ring where
  ports : List RingPort
  join : JoinWait
  frerL : List (Nat × Frer)
  frerS : List (Nat × Frer)
  talkerSeq : List (Nat × Nat)
  sharedSeq : Nat
  joins : List (Nat × Nat)
  deriving DecidableEq, Repr

/-! ### Network time (spec chapter 3) -/

/-- A correction owed to a Follow_Up (R91). -/
structure TwoStep where
  domain : Nat
  srcId : Nat
  srcPort : Nat
  seq : Nat
  corr : Int
  up : Nat
  deriving DecidableEq, Repr

/-- A PTP message seen within the last second (R92). -/
structure Seen where
  port : Nat
  domain : Nat
  kind : PtpKind
  srcId : Nat
  srcPort : Nat
  seq : Nat
  up : Nat
  deriving DecidableEq, Repr

/-- A two-step Sync waiting for its Follow_Up: its ingress time and its correctionField. -/
structure RxSync where
  seq : Nat
  t2 : Int
  corr : Int
  deriving DecidableEq, Repr

/-- A PTP port: `ann` best Announce heard (R80); `annSrc` who sent it (R80); `monAnn` best Announce of the monitor domain
(R82); `monSrc` who sent it (R82); `pdelayResp` a two-step Pdelay_Resp waiting (R86); `seqPdelay` sequence of Pdelay_Req
(R86); `rxSync` a two-step Sync waiting (R85); `monSync` the same of the monitor domain (R82); `lastSync` last Sync: arrival,
offset, correction (R96); `delays` last 16 link delays (R86); `pdelayT1` the outstanding Pdelay_Req (R86); `seqSync` sequence
of Sync (R91); `seqAnn` sequence of Announce (R91); `seqDelay` sequence of Delay_Req (R87); `table` 64 two-step corrections
(R91); `lost` the path is lost (R99). -/
structure TimePort where
  ann : Option Ann
  annSrc : Nat
  monAnn : Option Ann
  monSrc : Nat
  pdelayResp : Option (Nat × Int × Int × Int)
  seqPdelay : Nat
  rxSync : Option RxSync
  monSync : Option RxSync
  lastSync : Option (Nat × Int × Int)
  delays : List Int
  pdelayT1 : Option (Nat × Int)
  seqSync : Nat
  seqAnn : Nat
  seqDelay : Nat
  table : List TwoStep
  lost : Bool
  deriving DecidableEq, Repr

/-- Twin-path timing: `running` a window runs (R97); `startUp` its start (R97); `samples` the pairs' differences (R97);
`corrA` sum of correctionField of A (R98); `corrAN` its number (R98); `corrB` sum of B (R98); `corrBN` its number (R98);
`chosen` the path of this window is chosen (R98); `healing` the ring has healed and a window is awaited (R101). -/
structure Twin where
  running : Bool
  startUp : Nat
  samples : List Int
  corrA : Int
  corrAN : Nat
  corrB : Int
  corrBN : Nat
  chosen : Bool
  healing : Bool
  deriving DecidableEq, Repr

/-- A time pulse output: the start in force, whether a one-shot is armed, whether a periodic output runs, its next edge on
the DPLL count and that edge's ideal time, and the pulse in progress. -/
structure Tpo where
  startNs : Nat
  armed : Bool
  running : Bool
  nextUp : Nat
  ideal : Int
  pulse : Bool
  realign : Bool
  deriving DecidableEq, Repr

/-- A capture entry (R122). -/
structure Cap where
  tb : Nat
  epoch : Nat
  rise : Bool
  input : Nat
  deriving DecidableEq, Repr

/-- TIME: `up` the DPLL's output count, never stepped, 2^-16 ns (R71); `tb` the time base, 2^-16 ns (R71); `epoch` its epoch,
16 bits (R71); `slew` slew still owed (R108); `slewAcc` its remainder (R108); `disp0` displacement at the last realignment
(R146); `jumps` jumps for the next EF boundary (R107); `setPend` a SET waiting (R112); `latch` the masters' latches (R73);
`ports` PTP ports (R74); `gm` the grandmaster in use (R80); `gmPort` its port (R80); `isGm` the module is grandmaster (R80);
`monVals` last 16 monitor offsets (R82); `last4` last 4 offsets (R104); `firstGm` no grandmaster yet (R107); `firstPath` no
path yet (R107); `qualifiedOnce` a reference with time has qualified (R463); `profilePend` a new profile waits for the next
interval (R75); `profile` the profile in force (R75); `tsUsed` transmit timestamp entries in use, of 32 (R93); `e2eT1` the
outstanding Delay_Req (R87); `meanPath` mean path delay on C (R87); `syncLast` last Sync on C (R87); `spurIds` port identities
seen on C (R92); `seen` PTP messages of the last second (R92); `twin` the twin-path window (R97); `tpo` four time pulse
outputs (R114); `capq` the capture queue, 64 entries (R121); `lastCap` last captured edge of each input (R120). -/
structure TimeS where
  up : Nat
  tb : Nat
  epoch : Nat
  slew : Int
  slewAcc : Nat
  disp0 : Int
  jumps : List Int
  setPend : Option Nat
  latch : List (Nat × Nat)
  ports : List TimePort
  gm : Option Ann
  gmPort : Nat
  isGm : Bool
  monVals : List Int
  last4 : List Int
  firstGm : Bool
  firstPath : Bool
  qualifiedOnce : Bool
  profilePend : Bool
  profile : Nat
  tsUsed : Nat
  e2eT1 : Option (Nat × Int)
  meanPath : Option Int
  syncLast : Option (Int × Int)
  spurIds : List (Nat × Nat)
  seen : List Seen
  twin : Twin
  tpo : List Tpo
  capq : List Cap
  lastCap : List (Option Nat)
  deriving DecidableEq, Repr

/-! ### References, DPLL and media chain (spec chapter 4) -/

/-- A reference: since when it is valid, the supervision of its edges (R129: expected time e is `e0` plus k periods), its
one-second frequencies with the newest first, the phase at its last edge, and the label state of R127. -/
structure Ref where
  since : Option Nat
  tracking : Bool
  e0 : Nat
  k : Nat
  lastEdge : Option Nat
  glitchAt : Option Nat
  missing : Nat
  candRate : Nat
  candN : Nat
  freqs : List Int
  phase : Int
  agreeS : Nat
  label : Option Nat
  labelled : Bool
  unlabelled : Nat
  qualUp : Nat
  partner : Nat
  deriving DecidableEq, Repr

/-- The progress of a MEDIA realign (R148). -/
inductive Realign where
  | idle
  | fading
  | ready
  | moving (mis : Int)
  deriving DecidableEq, Repr

/-- CLK: `refs` references 0 to 7 (R124); `running` U7 has started CLK (R136); `lastEf` the latest EF boundary (R144);
`hoFreq` the holdover frequency (R141); `awaitPhi` the next edge gives φ (R145); `realign` the state of a realignment (R147);
`misHigh` |MISALIGN| is above 100 ns (R146); `almLow` REF_ALM_N is low (R151); `disagree` seconds of disagreement of each pair
(R138); `lockedRef` the reference of the last lock (R136); `switchFrom` the reference before a switch (R144); `mclkOn` MCLK
outputs on (R150). -/
structure ClkS where
  refs : List Ref
  running : Bool
  lastEf : Nat
  hoFreq : Option Int
  awaitPhi : Bool
  realign : Realign
  misHigh : Bool
  almLow : Bool
  disagree : List (Nat × Nat × Nat)
  lockedRef : Nat
  switchFrom : Nat
  mclkOn : Nat
  deriving DecidableEq, Repr

/-! ### TDM ports (spec chapter 11) -/

/-- A TDM port: the causes of R331 now held, the fade or ramp under way (its start, its length and the gain it starts from), the
count of clean EFs, the operative configuration and maps, the chain index up to which frames carry zero (R333), the frames of
the elastic buffer with the chain index of the latest edge it served (R328), the pads (none is high impedance), the clean
EFs that sense slots have seen (R335), whether the clocks are gone, and whether the port test runs. -/
structure TdmPort where
  causes : Nat
  fadeUp : Nat
  fadeLen : Nat
  g0 : Nat
  clean : Nat
  dirty : Bool
  opCfg : Word
  opOut : List Word
  opIn : List Word
  pendCfg : Bool
  pendMap : Bool
  zeroTo : Nat
  inBuf : List (List Word)
  lastIdx : Nat
  dout : List (Option Word)
  senseClean : Nat
  clocksGone : Bool
  testing : Bool
  deriving DecidableEq, Repr

/-! ### Self-test (spec chapter 18) -/

/-- TEST: the block under test or being re-initialised (R522), for each
block how often it has been aborted since it was queued and the order of its last PASS, the
blocks whose soft retry is armed, whether a queued test waits for 60 s without a class 6 or 7 request (R526), whether the
start-up tests have been queued (R524), and the times of uncorrectable delay-memory errors (R529). -/
structure TestS where
  running : Option Nat
  reinit : Option Nat
  aborts : List Nat
  lastPass : List Nat
  passes : Nat
  retry : Nat
  wait67 : Bool
  startup : Bool
  startupDone : Bool
  clearing : Nat
  dlyErrs : List Nat
  dlyFault : Bool
  unusable : Nat
  deriving DecidableEq, Repr

/-! ### Skonum control (spec chapter 14) -/

/-- What a session command asks of the register space (R431). -/
inductive ScpOp where
  | read (addrs : List Nat)
  | write (pairs : List (Nat × Word))
  | objSet (off : Nat) (vals : List Word)
  | objGet (off count : Nat)
  | claim
  | release
  deriving DecidableEq, Repr

/-- A reply kept for repeats (R430). -/
structure ScpReply where
  session : Nat
  seq : Nat
  status : Nat
  ef : Nat
  words : List Nat
  deriving DecidableEq, Repr

/-- A session (R429, R430): `high` is the highest SEQUENCE seen and bit k of `seen` says that `high` − k has been seen;
`level` is its log subscription, `gathered` the records waiting for its next REPORT, `reportUp` the time of the last and `reports`
the next one's sequence number (R475); `key` is the session key, 32 bytes. -/
structure Session where
  id : Nat
  controller : Nat
  privileged : Bool
  high : Nat
  seen : Nat
  cache : List ScpReply
  last : Nat
  level : Option Nat
  gathered : List (List Word)
  reportUp : Option Nat
  reports : Nat
  key : List Nat
  deriving DecidableEq, Repr

/-- A class 7 hold on an object (R435). -/
structure Hold where
  kind : Nat
  index : Nat
  controller : Nat
  session : Nat
  savedOwner : Nat
  last : Nat
  deriving DecidableEq, Repr

/-- A queued apply-at command (R432). -/
structure ScpCmd where
  session : Nat
  seq : Nat
  cls : Nat
  controller : Nat
  kind : Nat
  index : Nat
  ef : Nat
  op : ScpOp
  result : Option ScpReply
  deriving DecidableEq, Repr

/-- Skonum control: `sessions` up to 32 sessions (R429); `holds` class 7 holds (R435); `queue` up to 256 apply-at commands
(R432); `tdmOwners` owners of the TDM ports (R434); `opens` OPENs of the last second, by source (R429); `badTags` messages
whose tag failed (R428). -/
structure ScpS where
  sessions : List Session
  holds : List Hold
  queue : List ScpCmd
  tdmOwners : List Nat
  opens : List (Nat × Nat)
  badTags : Nat
  deriving DecidableEq, Repr

/-! ### Outputs -/

/-- What the module puts out in a command: a frame on a port, an MSI-X message, an SCP reply or report, the module's part of an SPI frame, a splice
frame. -/
inductive Out where
  | frame (p : Port) (f : Frame)
  | msix (fn vec : Nat)
  | scp (r : ScpReply)
  | report (session seq : Nat) (records : List (List Word))
  | spi (marker : Option Nat) (words : List Word) (crc : Option Nat) (status : Nat)
  | splice (up : Bool) (f : SpliceFrame)
  deriving DecidableEq, Repr
/-! ### Streams (spec chapter 5) -/

/-- A listener entry: no packet since EN was last written 1, the time of its last accepted packet, whether its report is
still to be repeated, and the group it has joined. -/
structure ListenerS where
  fresh : Bool
  lastUp : Nat
  again : Bool
  joined : Option Nat
  deriving DecidableEq, Repr

/-- The sequence record of an ST 2022-7 pair (R181): the newest number, how many numbers have followed the first one, and the
numbers placed, each with the entry that supplied it and whether the other entry's copy came too. -/
structure MergeS where
  newest : Option Nat
  since : Nat
  got : List (Nat × Nat × Bool)
  deriving DecidableEq, Repr

/-- A talker entry: the chain index of the first sample of its next packet (none before the first is due), the samples
gathered for it by channel, the EF from which packets may start, the AAF mr bit, the time of its last packet and whether its
SDP has been announced. -/
structure TalkerS where
  next : Option Nat
  buf : List (List Word)
  fromEf : Nat
  mr : Bool
  lastUp : Nat
  sap : Bool
  deriving DecidableEq, Repr

/-- A lay: the offset and SLIP_ALL in force, the mutes, the time of its last activity, the leads of the last second, and
the consecutive committed EFs in which every member was complete. -/
structure LayS where
  offset : Nat
  slipAll : Bool
  muteOff : Bool
  muteSlip : Bool
  lastUp : Nat
  leads : List (Nat × Int)
  full : Nat
  deriving DecidableEq, Repr

/-- A packet's samples on their way to bus memory: its presentation index, its listener entry, its payload bytes, and for each
channel kept its slot and samples. -/
structure Pkt where
  listener : Nat
  np : Int
  size : Nat
  payload : Nat
  chans : List (Nat × Nat × List Word)
  deriving DecidableEq, Repr

/-- STRM: the per-entry state, the arrival hold, the bus positions that hold true samples, each with its
chain index and value (R196),
the fades owed from an EF on, with their lay (none for all), and groups with a report to answer. -/
structure StrmS where
  listeners : List (Nat × ListenerS)
  merges : List (Nat × MergeS)
  talkers : List (Nat × TalkerS)
  lays : List (Nat × LayS)
  held : List Pkt
  trues : List (Nat × Nat × Word)
  fades : List (Nat × Option Nat)
  adj : Int
  jumpFade : Nat
  queries : List (Nat × Bool)
  deriving DecidableEq, Repr

/-! ### Speculative playout (spec chapter 6) -/

/-- The concealment state of a listener channel (R197), with its count of samples or complete EFs. -/
inductive Chan where
  | normal
  | conceal (gap : Nat)
  | cross (pos : Nat)
  | fading (pos : Nat)
  | silent (full : Nat)
  | ramp (pos : Nat)
  deriving DecidableEq, Repr

/-- A crosspoint's ramp record (R304). -/
structure XpRamp where
  g0 : Int
  g1 : Int
  n : Nat
  k : Nat
  deriving DecidableEq, Repr

/-- A checkpoint version of the versioned state (R200): core state memory, crosspoint targets and ramp lengths, ramps,
limiter gains and concealers. -/
structure Snap where
  core : List Host.Cell
  targets : List (Nat × Word)
  lens : List (Nat × Nat)
  ramps : List (Nat × XpRamp)
  lims : List (Nat × Nat)
  conc : List (Nat × Chan)
  deriving DecidableEq, Repr

/-- What an EF's latest computation owes its commit: the crosspoints' gains and samples of ramp left, the limiters' gains,
the mix's counts, and for each listener channel whether it holds concealed samples, began a fade, is concealed or faded at
the end, and was complete. -/
structure EfRes where
  ef : Nat
  done : Bool
  cur : List (Nat × Int × Nat)
  lims : List (Nat × Nat)
  outSat : Nat
  limSamples : Nat
  bad : Nat
  split : Nat
  chans : List (Nat × Bool × Bool × Bool × Bool)
  deriving DecidableEq, Repr

/-- An item that a program staged (R204). -/
inductive Item where
  | msg (m : Msg)
  | lim (n w : Nat) (v : Word)
  | record (line w : Nat) (v : Word)
  | status (m : Nat) (v : Word)
  deriving DecidableEq, Repr

/-- A staged item of an EF (R204). -/
structure Staged where
  ef : Nat
  item : Item
  deriving DecidableEq, Repr

/-- PLAY: the pointers p, K and H as full chain EF numbers, S in force, the rewind and the EF it recomputes next, the
hitches by register, the working concealers, the results of uncommitted EFs, the staging, and the master latches. -/
structure PlayS where
  running : Bool
  p : Nat
  cleat : Nat
  head : Nat
  slack : Nat
  rewinding : Bool
  r : Nat
  hitches : List (Option (Nat × Snap))
  conc : List (Nat × Chan)
  results : List EfRes
  staging : List Staged
  latch : List (Nat × Nat)
  stalled : List Nat
  deriving DecidableEq, Repr

/-! ### Acson cores (spec chapters 7 and 8) -/

/-- A core's registers (R242). -/
structure Regs where
  d : List Word
  p : List Word
  acc : List (BitVec 72)
  f : List Bool
  lc : List Nat
  sf : Nat
  deriving DecidableEq, Repr

/-- A register write of a slot. -/
inductive Wr where
  | d (i : Nat) (v : Word)
  | p (i : Nat) (v : Word)
  | acc (i : Nat) (v : BitVec 72)
  | f (i : Nat) (v : Bool)
  | lc (i : Nat) (v : Nat)
  | sf (bits : Nat)
  | clrSf
  deriving DecidableEq, Repr

/-- Where the bundle in progress goes on. -/
inductive Flow where
  | seq
  | branch (target : Nat)
  | skip (target : Nat)
  | endEf
  deriving DecidableEq, Repr

/-- A bundle whose slot S has acted: the registers as it began, slot S's writes with their latency, and its flow. -/
structure Half where
  src : Regs
  writes : List Wr
  lat : Nat
  flow : Flow
  deriving DecidableEq, Repr

/-- A delay transfer outstanding (R266): its line, the chain position of its EF, its data address, and the words of a
write, or for a read the delay N. -/
structure Xfer where
  line : Nat
  pos : Nat
  adr : Nat
  read : Bool
  words : List Word
  deriving DecidableEq, Repr

/-- A core: its registers, the program that runs, the next bundle, the bundle in progress, the bodies of its two loops, and
its delay transfers, oldest first. -/
structure Core where
  regs : Regs
  prog : Option Nat
  pc : Nat
  half : Option Half
  loops : List (Nat × Nat)
  xfers : List Xfer
  deriving DecidableEq, Repr

/-- A computation under way (R218): its EF, the segment that runs, whether it recomputes, the cores that take no further part
in it, the cores with a forced halt, the cores that ran a program, the programs that reached end.ef, and the cores that
counted an overrun. -/
structure Comp where
  ef : Nat
  seg : Nat
  again : Bool
  out : Nat
  halted : Nat
  ran : Nat
  ended : List Nat
  overrun : Nat
  deriving DecidableEq, Repr

/-- The image loader's work in hand (R287 to R291). -/
inductive ImgWork where
  | none
  | receiving
  | checking (install : Bool)
  | held
  deriving DecidableEq, Repr

/-- ENG: the cores, the computation, the pending copies of the placement words, the placement that waits for its apply EF,
the placements that earlier EFs still use with the EF each ends at, delay lines' first positions written, and the loader: the
words received, the work in hand, the image whose commit waits, the crosspoint range, the cores whose programs are owed a
re-mapping, the apply EF whose computations apply the installed image's tables, and whether a BEGIN left the waiting image's
install to complete on its own. -/
structure EngS where
  cores : List Core
  comp : Option Comp
  pend : List (Nat × Word)
  waiting : Option (Nat × List (Nat × Word))
  old : List (Nat × List (Nat × Word))
  dlyFirst : List (Nat × Nat)
  img : List Word
  work : ImgWork
  installing : List Word
  xrange : Nat × Nat
  remap : Nat
  applyAt : Option Nat
  oldInstall : Bool
  deriving DecidableEq, Repr

/-! ### Crosspoint mixer (spec chapter 10) -/

/-- XPT: the working ramps and limiter gains, and the meters' accumulation: EFs of the period, and per meter the peak, the
sum of squares and the clip bit. -/
structure XptS where
  ramps : List (Nat × XpRamp)
  lims : List (Nat × Nat)
  efs : Nat
  period : Nat
  meters : List (Nat × Nat × Nat × Bool)
  samples : Nat
  deriving DecidableEq, Repr

/-! ### Line and path proof (spec chapter 12) -/

/-- Where a changeover, a restore or a retirement of a line stands (R357, R359, R362): the fade or ramp that ends next. -/
inductive Change where
  | none
  | spareFade
  | spareRamp
  | lineFade
  | backRamp
  | backSpareFade
  | backSpareRamp
  | probeRamp
  | probeFade
  deriving DecidableEq, Repr

/-- A line's sweep (R362): frequencies written so far, the verdicts and reasons of its windows, whether it belongs to a
commissioning, the time before which it does not start, and whether it failed in this run. -/
structure Sweep where
  k : Nat
  results : List (Nat × Nat)
  comm : Bool
  after : Nat
  deriving DecidableEq, Repr

/-- A supervised line: committed EFs since its previous record, and whether any had valid sense, invalid sense or an
overrange (R346); the record words of the latest commit (R345); when the window began; a permanent fault, its class and its
spare's line (R357); the last failing verdict and when its retry may begin (R354); the conditions of R356; the windows of a
commissioning (R351); the sweep; and the changeover in progress. -/
structure LineS where
  count : Nat
  valid : Bool
  invalid : Bool
  overEf : Bool
  mask : Nat
  winUp : Nat
  perm : Bool
  hard : Bool
  lastFail : Nat
  retryUp : Nat
  noSense : Bool
  supervision : Bool
  unproven : Bool
  comm : Option (List (Nat × Int × Bool))
  sweep : Option Sweep
  change : Change
  deriving DecidableEq, Repr

/-- The changeover gain of an output slot (R357): its state in the codes of GAIN_STATE, when its fade or ramp began, how long it
takes and from what gain, and the line whose OUT_MAP it carries. -/
structure SlotG where
  state : Nat
  sinceUp : Nat
  len : Nat
  g0 : Nat
  carries : Option Nat
  deriving DecidableEq, Repr

/-- PROOF: lines, slot gains by 32 × port + slot, the run (its number, start, whether it woke the module, when a yielding lay
was last active, the next path frame, and its counts), the uses of the path table, and for coming EFs the ports whose sense
was valid and the direct inputs that went out of range. -/
structure ProofS where
  lines : List (Nat × LineS)
  slots : List (Nat × SlotG)
  number : Nat
  startUp : Nat
  woke : Bool
  path : Option Nat
  swept : Nat
  failing : Nat
  paths : List (Nat × Nat)
  sense : List (Nat × Nat × Nat)
  deriving DecidableEq, Repr

/-! ### Splice stacking (spec chapter 13) -/

/-- A splice port: the EFs of its recent CRC errors, its link delays in units of 2^-16 ns with the newest first, the SYNCs it
sent (EF and DPLL count), the arrival of the last SYNC received, the frame last received, when the last valid frame came,
the control records that wait, and the frame being sent with the pass-through positions that have yet to come. -/
structure SplicePort where
  crcEfs : List Nat
  delays : List Int
  sent : List (Nat × Nat)
  heard : Option (Nat × Nat)
  frame : Option SpliceFrame
  frameUp : Option Nat
  ctrl : List Ctrl
  sending : Option (SpliceFrame × List Nat)
  deriving DecidableEq, Repr

/-- SPLICE: the ports UP and DN, whether a strapped master acts as a member (R389), since when strapped-master frames have
arrived on UP without a break, the CLK state that the master sends (R126), the forwarded access in progress, whether UP was
lost, and whether a realignment of the chain is owed. -/
structure SpliceS where
  ports : List SplicePort
  asMember : Bool
  strapUp : Option Nat
  masterClk : Nat
  fwd : Option Bool
  upLost : Bool
  align : Bool
  efOffset : Int
  deriving DecidableEq, Repr


/-! ### MSI-X (R438) -/

/-- A PCIe function's MSI-X: the armed vectors, the function mask and the vector masks, the pending bits, and the message
addresses and data. -/
structure MsixFn where
  armed : Nat
  fnMask : Bool
  vecMask : Nat
  pba : Nat
  addrs : List Nat
  data : List Nat
  deriving DecidableEq, Repr

/-! ### Register access (spec chapter 14) -/

/-- A posted write (R414): its domain, address, value, master and privilege. -/
structure Posted where
  domain : Nat
  adr : Nat
  value : Word
  master : Master
  priv : Bool
  deriving DecidableEq, Repr

/-- Register access and the host endpoint: posted writes in the order given; the registers, each with its word before, whose
new words still have to act, because their unit was not awake or their block under test when they were written (R522, R559);
and the next descriptors of the frame rings. -/
structure BusS where
  posts : List Posted
  owed : List (Nat × Word)
  hostTx : Nat
  hostRx : Nat
  deriving DecidableEq, Repr

/-! ### The state -/

/-- Why the machine stops with a fault. (DEDUCED, notes/assumptions/84.md.) -/
inductive Fault where
  /-- Raised by a meaning whose command names an object (a port, core, stream, line, queue, block, channel or table
  entry) that the module's variant does not have (R1 to R4). Safe: no such event exists on the hardware. -/
  | absentObject
  deriving DecidableEq, Repr

/-- Why a command is refused. -/
inductive Refusal where
  /-- Raised by `exec` for a command that has no meaning in the model yet. Safe: the run ends there. -/
  | notModelled (mnemonic : String)
  deriving DecidableEq, Repr

/-- The module. `regs` holds every architectural register and table word (R8, R558), `mem` every byte memory,
`freeCtr` counts the free values used (the model's own field), `resp` is the last word each master read, and `out` is
what the latest command put out (the model's own), and `pending` the commands that wait, first in first out. -/
structure State where
  variant : Variant
  regs : List (Nat × Word)
  mem : List Host.Cell
  freeCtr : Nat
  resp : List Word
  mgmt : Mgmt
  hmq : List Hmq
  pwr : Pwr
  ring : Ring
  time : TimeS
  clk : ClkS
  strm : StrmS
  play : PlayS
  eng : EngS
  xpt : XptS
  tdm : List TdmPort
  proof : ProofS
  splice : SpliceS
  test : TestS
  scp : ScpS
  msix : List MsixFn
  bus : BusS
  out : List Out
  pending : List Instr
  deriving DecidableEq, Repr

/-! ### Reset -/

def Mgmt.blankSlot : CfgSlot := ⟨false, false, 0, 0, 0, 0, [], [], 0, 0, [], [], ⟨false, 600, []⟩⟩

/-- The firmware image the module is delivered with (R490): a header of FORMAT 1, VERSION 1.0.0 and ROLLBACK 0, no body,
and a signature (notes/assumptions/3.md). -/
def Mgmt.shipped : List Word :=
  [0x4C455359, 1, 0x01000000, 0, 320] ++ List.replicate 75 0

def Mgmt.reset : Mgmt where
  slotA := Mgmt.blankSlot
  slotB := Mgmt.blankSlot
  keyA := ⟨false, [], 0⟩
  keyB := ⟨false, [], 0⟩
  lifeA := ⟨false, 0, List.replicate 23 0, 0⟩
  lifeB := ⟨false, 0, List.replicate 23 0, 0⟩
  bankA := ⟨Mgmt.shipped, false, true⟩
  bankB := ⟨[], true, false⟩
  rollback := 0
  log := []
  logSeq := 0
  staging := []
  logLost := 0
  logIdx := List.replicate 5 0
  life := List.replicate 23 0
  lifeSat := 0
  lifeNext := false
  lifeLatch := List.replicate 5 0
  lifeLatchSat := List.replicate 5 false
  totals := List.replicate 60 0
  totalLatch := List.replicate 5 0
  rtcSec := 0
  rtcTick := 0
  rtcRunning := false
  timeQuality := 2
  utcOffset := none
  schedRetry := []
  saveSnap := none
  rtcHeld := false
  rtcKnown := false
  stageKey := List.replicate 8 0
  keyCommit := none
  settings := ⟨false, 600, []⟩
  fw := ⟨false, false, false, 0, false, false, false, false, none⟩
  started := false
  bootFailed := false
  retiredBlocks := 0
  retiredLines := []
  retiredCores := []
  image := []
  imageCert := false

def Hmq.reset : Hmq := ⟨[], [], none, 0, 0⟩

def Pwr.reset : Pwr where
  powered := true
  holdup := false
  powerBack := false
  fwVerified := false
  cfgLoaded := false
  stagingUnit := none
  stagePg := false
  stageInt := false
  stageFails := 0
  stagePermanent := false
  stageWait := false
  unitTry := none
  unitFails := []
  retiredUnits := 0
  auxRun := 0
  auxTimer := false
  auxHolding := false
  limitedTimer := false
  thermal := false
  thermalNext := false
  quietEntry := false
  wake := false
  readyFade := false
  trig := false
  readyReturn := false
  heldCause := 0
  defaultPulse := false

def RingPort.reset : RingPort where
  fails := 0
  withheld := 0
  flaps := []
  holdEnd := 0
  lastAudio := 0
  pool := 0
  xoff := false
  stopped := []
  rxRem := 0
  txRem := 0
  queue := []
  credit5 := 0
  credit4 := 0
  up5 := 0
  up4 := 0
  idle5 := 750
  idle4 := 20
  gate := ⟨false, 0, 1, 1, 0, false, none⟩

def Ring.reset : Ring := ⟨List.replicate 3 RingPort.reset, .none, [], [], [], 0, []⟩

def TimePort.reset : TimePort :=
  ⟨none, 0, none, 0, none, 0, none, none, none, [], none, 0, 0, 0, [], false⟩

def Twin.reset : Twin := ⟨false, 0, [], 0, 0, 0, 0, false, false⟩

def Tpo.reset : Tpo := ⟨0, false, false, 0, 0, false, false⟩

def TimeS.reset : TimeS where
  up := 0
  tb := 0
  epoch := 0
  slew := 0
  slewAcc := 0
  disp0 := 0
  jumps := []
  setPend := none
  latch := List.replicate 5 (0, 0)
  ports := List.replicate 3 TimePort.reset
  gm := none
  gmPort := 0
  isGm := false
  monVals := []
  last4 := []
  firstGm := false
  firstPath := false
  qualifiedOnce := false
  profilePend := false
  profile := 2
  tsUsed := 0
  e2eT1 := none
  meanPath := none
  syncLast := none
  spurIds := []
  seen := []
  twin := Twin.reset
  tpo := List.replicate 4 Tpo.reset
  capq := []
  lastCap := List.replicate 4 none

def Ref.reset : Ref := ⟨none, false, 0, 0, none, none, 0, 0, 0, [], 0, 0, none, false, 0, 0, 0⟩

def ClkS.reset : ClkS where
  refs := List.replicate 8 Ref.reset
  running := false
  lastEf := 0
  hoFreq := none
  awaitPhi := false
  realign := .idle
  misHigh := false
  almLow := true
  disagree := []
  lockedRef := 0
  switchFrom := 0
  mclkOn := 0

def StrmS.reset : StrmS := ⟨[], [], [], [], [], [], [], 0, 0, []⟩

def PlayS.reset : PlayS where
  running := false
  p := 0
  cleat := 0
  head := 0
  slack := 2
  rewinding := false
  r := 0
  hitches := List.replicate 4 none
  conc := []
  results := []
  staging := []
  latch := List.replicate 5 (0, 0)
  stalled := []

/-- Registers at a program's entry, before R220's five are set: zero. -/
def Regs.zero : Regs where
  d := List.replicate 32 0
  p := List.replicate 8 0
  acc := List.replicate 4 0
  f := List.replicate 4 false
  lc := List.replicate 2 0
  sf := 0

def Core.reset : Core := ⟨Regs.zero, none, 0, none, [(0, 0), (0, 0)], []⟩

def EngS.reset : EngS where
  cores := List.replicate 16 Core.reset
  comp := none
  pend := []
  waiting := none
  old := []
  dlyFirst := []
  img := []
  work := .none
  installing := []
  xrange := (0, 0)
  remap := 0
  applyAt := none
  oldInstall := false

def XptS.reset : XptS := ⟨[], [], 0, 300, [], 0⟩

def TestS.reset : TestS where
  running := none
  reinit := none
  aborts := List.replicate 32 0
  lastPass := List.replicate 32 0
  passes := 0
  retry := 0
  wait67 := false
  startup := false
  startupDone := false
  clearing := 0
  dlyErrs := []
  dlyFault := false
  unusable := 0

def TdmPort.reset : TdmPort where
  causes := 0
  fadeUp := 0
  fadeLen := 0
  g0 := 0
  clean := 0
  dirty := false
  opCfg := 0
  opOut := List.replicate 32 0
  opIn := List.replicate 32 0
  pendCfg := true
  pendMap := true
  zeroTo := 0
  inBuf := []
  lastIdx := 0
  dout := List.replicate 32 (some 0)
  senseClean := 0
  clocksGone := false
  testing := false

def ProofS.reset : ProofS := ⟨[], [], 0, 0, false, none, 0, 0, [], []⟩

def SplicePort.reset : SplicePort := ⟨[], [], [], none, none, none, [], none⟩

def SpliceS.reset : SpliceS := ⟨List.replicate 2 SplicePort.reset, false, none, 0, none, false, false, 0⟩

/-- The machine right after RESET at power-on: every register at the reset value of spec chapter 20, every memory
reading zero, no command waiting (notes/assumptions/3.md names each value that the spec does not give).
(PRESUMED, notes/assumptions/16.md.) -/
def State.reset : State where
  variant := .jk1024
  regs := []
  mem := []
  freeCtr := 0
  resp := List.replicate 5 0
  mgmt := Mgmt.reset
  hmq := List.replicate 4 Hmq.reset
  pwr := Pwr.reset
  ring := Ring.reset
  time := TimeS.reset
  clk := ClkS.reset
  strm := StrmS.reset
  play := PlayS.reset
  eng := EngS.reset
  xpt := XptS.reset
  tdm := List.replicate 8 TdmPort.reset
  proof := ProofS.reset
  splice := SpliceS.reset
  test := TestS.reset
  scp := ⟨[], [], [], List.replicate 8 0, [], 0⟩
  msix := List.replicate 2 ⟨0xFFFF, false, 0xFFFF, 0, List.replicate 16 0, List.replicate 16 0⟩
  bus := ⟨[], [], 0, 0⟩
  out := []
  pending := []

end Sys2Proof.Machine
end

