-- ==== Sys2Proof/Machine/Ops.lean ====
section
/-! DEFINITION. The named operations over the state that every meaning is written with: the sparse stores, registers
and fields, events, counters, memories, free values and elapsed time. -/

namespace Sys2Proof.Machine

/-- What a meaning answers. -/
abbrev Result := Host.Outcome State Fault Refusal

/-! ### Registers (R8, R558) -/

/-- The word a register holds: the listed word, or its reset value. (DESIGN CHOICE, notes/assumptions/8.md.) -/
def State.reg (s : State) (adr : Nat) : Word :=
  (Sparse.find s.regs adr).getD (resetWord s.variant adr)

/-- Store a word in a register. -/
def State.putReg (s : State) (adr : Nat) (w : Word) : State :=
  { s with regs := Sparse.put (resetWord s.variant adr) s.regs adr w }

/-- A register's word as a number. -/
def State.rd (s : State) (adr : Nat) : Nat := (s.reg adr).toNat

/-- Store a number in a register, modulo 2^32. -/
def State.wr (s : State) (adr : Nat) (n : Nat) : State := s.putReg adr (BitVec.ofNat 32 n)

/-- Set a register to its reset value. -/
def State.clearReg (s : State) (adr : Nat) : State := s.putReg adr (resetWord s.variant adr)

/-- The field's width in bits. -/
def Fld.width (f : Fld) : Nat := f.hi + 1 - f.lo

/-- The field's bits within its word. -/
def Fld.mask (f : Fld) : Nat := (2 ^ f.width - 1) <<< f.lo

/-- A field of a word. -/
def Fld.of (f : Fld) (w : Nat) : Nat := (w >>> f.lo) % 2 ^ f.width

/-- A word with a field replaced (the value taken modulo the field's range). -/
def Fld.into (f : Fld) (w v : Nat) : Nat :=
  w - ((f.of w) <<< f.lo) + ((v % 2 ^ f.width) <<< f.lo)

/-- The field lies within its word. -/
def Fld.ok (f : Fld) : Bool := Nat.ble f.lo f.hi && Nat.blt f.hi 32

/-- The fields share no bit of a word. -/
def Fld.apart (f g : Fld) : Bool := Nat.blt f.hi g.lo || Nat.blt g.hi f.lo

/-- Two fields that share no bit, in one register or in two. -/
def Fld.free (f g : Fld) : Bool := f.ok && g.ok && (g.adr != f.adr || f.apart g)

/-- The value of a register field. -/
def State.fld (s : State) (f : Fld) : Nat := f.of (s.rd f.adr)

/-- A one-bit field as a truth value. -/
def State.on (s : State) (f : Fld) : Bool := s.fld f != 0

/-- Replace a register field. -/
def State.set (s : State) (f : Fld) (v : Nat) : State := s.wr f.adr (f.into (s.rd f.adr) v)

/-- Replace a one-bit field. -/
def State.setB (s : State) (f : Fld) (b : Bool) : State := s.set f (if b then 1 else 0)

/-- Bit k of a field. -/
def State.bitOf (s : State) (f : Fld) (k : Nat) : Bool := (s.fld f).testBit k

/-- Replace bit k of a field. -/
def State.setBit (s : State) (f : Fld) (k : Nat) (b : Bool) : State :=
  let v := s.fld f
  if v.testBit k = b then s else s.set f (if b then v + 2 ^ k else v - 2 ^ k)

/-- Set an event field (a W1C field of an EVT register): the hardware set of R423. -/
def State.event (s : State) (f : Fld) : State := s.set f 1

/-- Set bit k of a multi-bit event field. -/
def State.eventBit (s : State) (f : Fld) (k : Nat) : State := s.setBit f k true

/-! ### Bit numbers and two's complement -/

/-- The number a w-bit word names as two's complement. -/
def sgn (w n : Nat) : Int := if n < 2 ^ (w - 1) then (n : Int) else (n : Int) - (2 ^ w : Nat)

/-- The w-bit two's complement word of an integer. -/
def unsgn (w : Nat) (i : Int) : Nat := (i % (2 ^ w : Nat)).toNat

/-- An integer saturated to w-bit two's complement. -/
def satS (w : Nat) (i : Int) : Int :=
  let m : Int := (2 ^ (w - 1) : Nat)
  if i > m - 1 then m - 1 else if i < -m then -m else i

/-- Integer clamped to a range. -/
def clampI (lo hi i : Int) : Int := if i < lo then lo else if i > hi then hi else i

/-- Number clamped to a range. -/
def clampN (lo hi n : Nat) : Nat := if n < lo then lo else if n > hi then hi else n

/-- The bits of `a` that `b` has not. -/
def clearBits (a b : Nat) : Nat := a ^^^ (a &&& b)

/-- How many of the lowest k bits of n are set. -/
def popCount : Nat → Nat → Nat
  | 0, _ => 0
  | k + 1, n => (if n.testBit k then 1 else 0) + popCount k n

/-- The lowest set bit among the lowest k bits, counting from bit i. -/
def lowestBit (n : Nat) : Nat → Nat → Option Nat
  | 0, _ => none
  | k + 1, i => if n.testBit i then some i else lowestBit n k (i + 1)

/-- Run an update for 0, 1, …, n − 1 in order. -/
def forN {α : Type} (n : Nat) (f : Nat → α → α) (a : α) : α := (List.range n).foldl (fun x i => f i x) a

/-- Run an update on every element in order. -/
def forL {α β : Type} (l : List β) (f : β → α → α) (a : α) : α := l.foldl (fun x b => f b x) a

/-- Apply an update if a condition holds. -/
def State.when (s : State) (b : Bool) (f : State → State) : State := if b then f s else s

/-- Replace the element at a place of a list. -/
def setAt {α : Type} (l : List α) (i : Nat) (a : α) : List α := l.set i a

/-- The element at a place of a list, or the value given. -/
def getAt {α : Type} (l : List α) (i : Nat) (d : α) : α := l.getD i d

/-- Update the element at a place of a list. -/
def updAt {α : Type} (l : List α) (i : Nat) (f : α → α) : List α := l.modify i f

/-! ### Counters (R67) -/

/-- Where a counter's saturation is recorded: its SAT register, its bit there and the event a saturation sets. -/
structure SatAt where
  adr : Nat
  bit : Nat
  event : Option Fld

/-- The saturation record of a counter, by its window (R67, R95, R185, R215, R240, R322, R340, R372, R397, R413, R456). -/
def satOf (adr : Nat) : SatAt :=
  let off := adr % 0x10000
  let at0 (base stride evn : Nat) (e : Option Fld) : SatAt :=
    let w := base + (off - base) / stride * stride
    ⟨adr - off + w + evn, (off - w) / 4, e⟩
  match adr / 0x10000 with
  | 0 => ⟨A.SYS_CNT_SAT, (off - 0x180) / 4, some F.SYS_PCIE_EVT_CNT_SAT⟩
  | 3 =>
    if off < 0x300 then ⟨A.MSTAT_SAT (off / 0x100), off % 0x100 / 4, none⟩
    else ⟨A.MSTAT_SAT_REC, (off - 0x300) / 4, none⟩
  | 4 => ⟨A.TIME_SAT, (off - 0x800) / 4, none⟩
  | 6 => if off < 0x8000 then at0 0x7F00 0x40 0x3C (some F.STRM_EVT_CNT_SAT)
         else at0 0x8000 0x40 0x3C (some F.STRM_EVT_CNT_SAT)
  | 7 => if off < 0x1000 then at0 0x100 0x40 0x3C (some F.PLAY_EVT_CNT_SAT)
         else at0 0x1000 0x40 0x3C (some F.PLAY_EVT_CNT_SAT)
  | 8 => at0 0x800 0x20 0x1C (some F.ENG_EVT_CNT_SAT)
  | 9 => at0 0x100 0x20 0x1C (some F.XPT_EVT_CNT_SAT)
  | 10 => at0 0x2000 0x20 0x1C (some F.TDM_EVT_CNT_SAT)
  | 11 => at0 0x100 0x40 0x3C (some F.PROOF_EVT_CNT_SAT)
  | 12 => at0 0x100 0x40 0x3C (some F.SPLICE_EVT_CNT_SAT)
  | _ => at0 (off / 0x100 * 0x100 + 0x40) 0x20 0x1C (some (F.HMQ_EVT_CNT_SAT (off / 0x100)))

/-- Add n to a counter: it saturates at 0xFFFF_FFFF, and in reaching it sets its SAT bit (R67). -/
def State.bump (s : State) (adr n : Nat) : State :=
  let c := s.rd adr
  if c + n < 0xFFFFFFFF then s.wr adr (c + n)
  else if c = 0xFFFFFFFF then s
  else
    let k := satOf adr
    let s := s.wr adr 0xFFFFFFFF
    let s := s.putReg k.adr (s.reg k.adr ||| BitVec.ofNat 32 (2 ^ k.bit))
    match k.event with
    | none => s
    | some f => s.event f

/-- Count one. -/
def State.inc (s : State) (adr : Nat) : State := s.bump adr 1

/-! ### Memories -/

/-- The byte at an address of the memories (core memories, bus memory, delay memory, the PCIe window).
(DESIGN CHOICE, notes/assumptions/8.md.) (DEDUCED, notes/assumptions/56.md.) -/
def State.byte (s : State) (adr : Nat) : BitVec 8 := (Sparse.find s.mem adr).getD 0

/-- Store a byte. -/
def State.putByte (s : State) (adr : Nat) (b : BitVec 8) : State :=
  { s with mem := Sparse.put 0 s.mem adr b }

/-- The little-endian word at an address (R8). -/
def State.memWord (s : State) (adr : Nat) : Word :=
  s.byte (adr + 3) ++ s.byte (adr + 2) ++ s.byte (adr + 1) ++ s.byte adr

/-- Store a little-endian word. -/
def State.putMemWord (s : State) (adr : Nat) (w : Word) : State :=
  (((s.putByte adr (w.extractLsb' 0 8)).putByte (adr + 1) (w.extractLsb' 8 8)).putByte (adr + 2)
    (w.extractLsb' 16 8)).putByte (adr + 3) (w.extractLsb' 24 8)

/-- The bytes of the memories at addresses from `lo` up to `hi` all read zero afterwards. -/
def State.clearMem (s : State) (lo hi : Nat) : State :=
  { s with mem := s.mem.filter (fun c => !(Nat.ble lo c.1 && Nat.blt c.1 hi)) }

/-- The registers at addresses from `lo` up to `hi` all hold their reset values afterwards. -/
def State.clearRegs (s : State) (lo hi : Nat) : State :=
  { s with regs := s.regs.filter (fun c => !(Nat.ble lo c.1 && Nat.blt c.1 hi)) }

/-- Base address of the delay memory, whose bytes lie beyond the 24-bit register space. -/
def dlyBase : Nat := 0x10000000

/-- Base address of BAR2 of PCIe function 0 (R405). -/
def bar2Base : Nat := 0x40000000

/-- Base address of bus memory (R577). -/
def busBase : Nat := 0x400000

/-- Base address of a core's window (R224). -/
def coreBase (n : Nat) : Nat := 0x200000 + 0x20000 * n

/-- Base key of the Clause 45 registers behind PHY_DATA_x (R562), beyond the register space.
(DEDUCED, notes/assumptions/31.md.) -/
def phyBase (p mmd r : Nat) : Nat := 0x20000000 + p * 0x1000000 + mmd * 0x10000 + r

/-- The gain, q30 and at most 1, of a falling raised cosine after an elapsed part of a whole (R197, R332).
(DESIGN CHOICE, notes/assumptions/4.md.) -/
def fallGain (pos len : Nat) : Nat := min (Config.raisedCos pos len).toNat (2 ^ 30)

/-! ### Free values -/

/-- A free value of the given width, and the state that has moved past it (notes/assumptions/1.md). -/
def State.free (s : State) (w : Nat) : Nat × State :=
  ((Config.freeValue s.freeCtr).toNat % 2 ^ w, { s with freeCtr := s.freeCtr + 1 })

end Sys2Proof.Machine
end

