-- ==== Sys2Proof/Machine/Log.lean ====
section
/-! DEFINITION. The event log and the lifetime counters (R469 to R479), the CRC-32C, and the time and state that a record
carries. Every block logs through `State.log`. -/

namespace Sys2Proof.Machine

/-! ### CRC-32C -/

/-- One bit of the reflected CRC-32C. -/
def crcBit (c : BitVec 32) : BitVec 32 := if c.getLsbD 0 then (c >>> 1) ^^^ 0x82F63B78#32 else c >>> 1

/-- Eight bits of the reflected CRC-32C. -/
def crcByte (c : BitVec 32) (b : BitVec 8) : BitVec 32 :=
  let c := c ^^^ b.setWidth 32
  crcBit (crcBit (crcBit (crcBit (crcBit (crcBit (crcBit (crcBit c)))))))

/-- A little-endian word taken into the CRC-32C. -/
def crcWord (c w : BitVec 32) : BitVec 32 :=
  crcByte (crcByte (crcByte (crcByte c (w.extractLsb' 0 8)) (w.extractLsb' 8 8)) (w.extractLsb' 16 8))
    (w.extractLsb' 24 8)

/-- The CRC-32C of a sequence of words. -/
def crc32c (l : List Word) : Word := ~~~(l.foldl crcWord 0xFFFFFFFF#32)

/-! ### Time as records show it -/

/-- Units of 2^-16 ns in a second. -/
def secU : Nat := 65536000000000

/-- Units of 2^-16 ns in a millisecond. -/
def msU : Nat := 65536000000

/-- Units of 2^-16 ns in a nanosecond. -/
def nsU : Nat := 65536

/-- Seconds of the time base (R71). -/
def State.tbSec (s : State) : Nat := s.time.tb / secU

/-- Nanoseconds of the time base (R71). -/
def State.tbNs (s : State) : Nat := s.time.tb % secU / nsU

/-! ### Lifetime counters (R476, R477) -/

/-- Add n to lifetime counter k: it saturates at 2^48 − 1 with its SAT bit and MGMT.EVT.LIFE_SAT. -/
def State.life (s : State) (k n : Nat) : State :=
  let c := getAt s.mgmt.life k 0
  let m := 2 ^ 48 - 1
  if c + n < m then { s with mgmt := { s.mgmt with life := setAt s.mgmt.life k (c + n) } }
  else
    { s with mgmt := { s.mgmt with life := setAt s.mgmt.life k m, lifeSat := s.mgmt.lifeSat ||| 2 ^ k } }.event
      F.MGMT_EVT_LIFE_SAT

/-! ### Records (R469 to R472) -/

/-- SYS.MOD_STATE.STATE. -/
def State.modState (s : State) : Nat := s.fld F.SYS_MOD_STATE_STATE

/-- A record's 16 words (R470), taken now. (DEDUCED, notes/assumptions/72.md.) -/
def State.mkRecord (s : State) (src code sev master ctrl : Nat) (payload : List Nat) : List Word :=
  let body : List Word := (
    [s.mgmt.logSeq, s.tbSec % 2 ^ 32, (s.tbSec / 2 ^ 32) <<< 16 ||| s.time.epoch, s.tbNs,
     sev <<< 28 ||| src <<< 16 ||| code,
     s.mgmt.timeQuality <<< 30 ||| s.modState <<< 27 ||| s.fld F.CLK_REF_STATUS_STATE <<< 25 ||| master <<< 16 ||| ctrl]
      ++ (payload ++ List.replicate 9 0).take 9).map (BitVec.ofNat 32)
  body ++ [crc32c body]

/-- The MP takes an event (R472): the record is stamped and staged; with 256 records staged it is not recorded, takes no
SEQ and counts as lost. -/
def State.logBy (s : State) (src code sev master ctrl : Nat) (payload : List Nat) : State :=
  if s.mgmt.staging.length < 256 then
    { s with mgmt := { s.mgmt with
        staging := s.mgmt.staging ++ [s.mkRecord src code sev master ctrl payload]
        logSeq := (s.mgmt.logSeq + 1) % 2 ^ 32 } }
  else { s with mgmt := { s.mgmt with logLost := s.mgmt.logLost + 1 } }.event F.MGMT_EVT_LOG_LOST

/-- The MP takes an event that no master caused. (DEDUCED, notes/assumptions/72.md.) -/
def State.log (s : State) (src code sev : Nat) (payload : List Nat) : State :=
  s.logBy src code sev 0xF 0 payload

/-- A signed integer as two payload words, low word first. -/
def payload64 (i : Int) : List Nat := [unsgn 64 i % 2 ^ 32, unsgn 64 i / 2 ^ 32]

/-- The records of the log ring with the newest first, at most 65,536 (R469). -/
def logKeep (l : List (List Word)) : List (List Word) := l.take 65536

/-- One record is written to MRAM (R472, R469): it becomes the newest, and its block counts in MRAM_WR_LOG. -/
def State.logCommit (s : State) (r : List Word) : State :=
  let s := { s with mgmt := { s.mgmt with log := logKeep (r :: s.mgmt.log) } }
  (s.wr A.MGMT_LOG_NEWEST (getAt r 0 0).toNat).life 22 1

end Sys2Proof.Machine
end

