-- ==== Sys2Proof/Machine/Settle.lean ====
section
/-! DEFINITION. What the module's hardware keeps true at every moment, whatever the last command was: the fault word
(R533, R535), the alarm condition (R151), the interrupt tree and MSI-X (R436 to R438). `State.run` is the one way a meaning
answers. -/

namespace Sys2Proof.Machine

/-- Set a field unless it already holds the value. -/
def State.keep (s : State) (f : Fld) (v : Nat) : State := if s.fld f = v then s else s.set f v

/-- Store a word unless the register already holds it. -/
def State.keepWord (s : State) (adr v : Nat) : State := if s.rd adr = v then s else s.wr adr v

/-- How many Acson cores the variant has (R2). -/
def State.cores (s : State) : Nat := s.variant.pick 16 8 4

/-- Unit n has power (R516). -/
def State.unitOn (s : State) (n : Nat) : Bool := s.bitOf F.PWR_UNIT_STATUS_POWERED n

/-- CORE_STATUS.STATE of a core (R232). -/
def State.coreState (s : State) (n : Nat) : Nat := s.fld (F.ENG_CORE_STATUS_STATE n)

/-- The one of `n` indices below a bound that meets a test, if any. -/
def anyN (n : Nat) (p : Nat → Bool) : Bool := (List.range n).any p

/-! ### The fault word (R535) -/

/-- PWR.STATUS.FAULT (R516). -/
def State.pwrFault (s : State) : Bool :=
  s.on F.PWR_STATUS_LOW_BUDGET || s.on F.PWR_STATUS_AUX_FAULT || s.on F.PWR_STATUS_STAGE_FAIL ||
    s.on F.PWR_STATUS_THERM_CRIT || s.on F.PWR_UNIT_STATUS_FAILED

/-- The bits of TEST.FAULT, lowest first. -/
def State.faultBits (s : State) : List Bool :=
  [ s.pwrFault
  , s.on F.PROOF_STATUS_FAULT
  , s.test.unusable != 0 || s.on F.TEST_RETIRED_MASK
  , anyN s.cores (fun n => s.coreState n == 6)
  , s.test.dlyFault
  , s.pwr.defaultPulse || s.on F.SYS_STATUS_KEY_FAIL || s.fld F.MGMT_CFG_STATUS_LAST == 2
  , s.on F.SYS_STATUS_ROLLED_BACK
  , s.on F.SPLICE_STATUS_MEMBER_FAULT && s.on F.TEST_FAULT_CFG_MEMBERS
  , !s.pwr.powered || s.modState == 1 || s.modState == 2 || (s.test.startup && !s.test.startupDone)
  , s.on F.TEST_FAULT_CFG_FORCE ]

/-- A word from its bits, lowest first. -/
def ofBits : List Bool → Nat
  | [] => 0
  | b :: t => (if b then 1 else 0) + 2 * ofBits t

/-- TEST.FAULT and PWR.STATUS.FAULT follow their causes; FAULT_CHG sets when FAULT changes between zero and non-zero. -/
def State.settleFault (s : State) : State :=
  let w := ofBits s.faultBits
  let old := s.rd A.TEST_FAULT
  let s := s.keep F.PWR_STATUS_FAULT (if s.pwrFault then 1 else 0)
  let s := s.keepWord A.TEST_FAULT w
  s.when ((w == 0) != (old == 0)) (fun s => s.event F.TEST_EVT_FAULT_CHG)

/-- FAULT_N is pulled low (R533). -/
def State.faultPin (s : State) : Bool := !s.pwr.powered || s.rd A.TEST_FAULT != 0

/-- BYPASS_ST conducts (R542). -/
def State.bypassPin (s : State) : Bool := s.pwr.powered && s.fld F.RING_BYPASS_STATUS_STATE == 2

/-! ### References as the alarm sees them (R133, R151) -/

/-- The rank of a reference (R133); with TWIN_CFG.EN = 1 that of PTP-B is ignored. -/
def State.rank (s : State) (r : Nat) : Nat :=
  if r = 0 ∨ 6 < r then 0
  else if r = 2 ∧ s.on F.TIME_TWIN_CFG_EN then 0
  else (s.rd A.CLK_REF_RANK) >>> (4 * r) % 16

/-- The reference is qualified. -/
def State.qualified (s : State) (r : Nat) : Bool := s.fld (F.CLK_REF_INFO_STATE r) == 2

/-- The best rank among qualified references of non-zero rank. -/
def State.bestRank (s : State) : Nat :=
  forN 7 (fun r best => if s.qualified r && s.rank r != 0 && (best == 0 || Nat.blt (s.rank r) best) then s.rank r else best) 0

/-- REF_STATUS.SEL: the reference in use. -/
def State.refInUse (s : State) : Nat := s.fld F.CLK_REF_STATUS_SEL

/-- An alarm condition of R151 holds. -/
def State.almCond (s : State) : Bool :=
  let st := s.fld F.CLK_REF_STATUS_STATE
  let sel := s.refInUse
  !s.unitOn 7 || st == 0 || st == 3 ||
    (sel != 7 && (s.bestRank != 0 && !(s.qualified sel && s.rank sel == s.bestRank))) ||
    anyN 7 (fun r => s.rank r != 0 && (s.fld (F.CLK_REF_INFO_STATE r) == 3 || s.on (F.CLK_REF_INFO_SUSPECT r))) ||
    s.on F.CLK_REF_STATUS_DISAGREE

/-- REF_ALM_N goes low with the first condition and stays low until REF_ALM_RELEASE (R151). -/
def State.settleAlm (s : State) : State :=
  if s.almCond && !s.clk.almLow then { s with clk := { s.clk with almLow := true } } else s

/-- CLKST[1:0] (R151). -/
def State.clkstPin (s : State) : Nat := if s.unitOn 7 then s.fld F.CLK_REF_STATUS_STATE else 0

/-! ### The interrupt tree (R436 to R438) -/

/-- The events and enables of each branch, in order (R436). -/
def branchRegs : List (Nat × Nat) :=
  [ (A.SYS_EVT, A.SYS_EVT_EN), (A.PWR_EVT, A.PWR_EVT_EN), (A.RING_EVT, A.RING_EVT_EN), (0, 0)
  , (A.TIME_EVT, A.TIME_EVT_EN), (A.CLK_EVT, A.CLK_EVT_EN), (A.STRM_EVT, A.STRM_EVT_EN), (A.PLAY_EVT, A.PLAY_EVT_EN)
  , (A.ENG_EVT, A.ENG_EVT_EN), (A.XPT_EVT, A.XPT_EVT_EN), (A.TDM_EVT, A.TDM_EVT_EN), (A.PROOF_EVT, A.PROOF_EVT_EN)
  , (A.SPLICE_EVT, A.SPLICE_EVT_EN), (A.HMQ_EVT 0, A.HMQ_EVT_EN 0), (A.HMQ_EVT 1, A.HMQ_EVT_EN 1)
  , (A.HMQ_EVT 2, A.HMQ_EVT_EN 2), (A.HMQ_EVT 3, A.HMQ_EVT_EN 3), (A.MGMT_EVT, A.MGMT_EVT_EN)
  , (A.TEST_EVT, A.TEST_EVT_EN), (A.SYS_PCIE_EVT, A.SYS_PCIE_EVT_EN) ]

/-- MSTAT.SAT_SUM (R67). -/
def State.satSum (s : State) : Nat :=
  ofBits [s.rd (A.MSTAT_SAT 0) != 0, s.rd (A.MSTAT_SAT 1) != 0, s.rd (A.MSTAT_SAT 2) != 0, s.rd A.MSTAT_SAT_REC != 0]

/-- The branch is asserted (R436). -/
def State.branch (s : State) (n : Nat) : Bool :=
  if n = 3 then s.satSum != 0
  else
    let (e, en) := getAt branchRegs n (0, 0)
    n != 3 && s.rd e &&& s.rd en != 0

/-- SYS.IRQ_STATUS (R436). -/
def State.irqStatus (s : State) : Nat := ofBits ((List.range 20).map s.branch)

/-- IRQ_N is driven low (R437). -/
def State.irqPin (s : State) : Bool := s.rd A.SYS_IRQ_STATUS &&& s.rd A.SYS_IRQ_EN_PIN != 0

/-- The vector a branch is routed to (R438). -/
def State.msixRoute (s : State) (fn b : Nat) : Nat :=
  s.rd ((if fn = 0 then A.SYS_MSIX_ROUTE_F0 (b / 8) else A.SYS_MSIX_ROUTE_F1 (b / 8))) >>> (4 * (b % 8)) % 16

/-- The vectors of a function whose condition is true. -/
def State.msixCond (s : State) (fn : Nat) : Nat :=
  let en := s.rd (if fn = 0 then A.SYS_IRQ_EN_F0 else A.SYS_IRQ_EN_F1)
  forN 20 (fun b m => if (s.rd A.SYS_IRQ_STATUS &&& en).testBit b then m ||| 2 ^ s.msixRoute fn b else m) 0

/-- Armed, unmasked vectors whose condition is true, or whose pending bit is set, send and are disarmed; masked ones set
their pending bits (R438). (PRESUMED, notes/assumptions/16.md.) -/
def State.settleMsix (s : State) (fn : Nat) : State :=
  let m := getAt s.msix fn ⟨0, false, 0, 0, [], []⟩
  let want := (s.msixCond fn ||| m.pba) &&& m.armed
  if want = 0 ∨ !s.on F.SYS_PCIE_STATUS_LINK_UP then s
  else
    let masked := if m.fnMask then 0xFFFF else m.vecMask
    let send := clearBits want masked
    let vecs := (List.range 16).filter (fun v => send.testBit v)
    { s with
      msix := setAt s.msix fn { m with armed := clearBits m.armed send, pba := clearBits (m.pba ||| (want &&& masked)) send }
      out := s.out ++ vecs.map (fun v => Out.msix fn v) }

/-- The module after its hardware has followed a change. -/
def State.settle (s : State) : State :=
  let s := s.settleFault.settleAlm
  let s := s.keepWord A.MSTAT_SAT_SUM s.satSum
  let s := s.keepWord A.SYS_IRQ_STATUS s.irqStatus
  (s.settleMsix 0).settleMsix 1

/-- The state a meaning starts from: nothing put out yet. (DESIGN CHOICE, notes/assumptions/8.md.) -/
def State.fresh (s : State) : State := { s with out := [] }

/-- The state after a command: its effect, and what the hardware makes follow from it. The variant is built in and the queue
of commands is not a command's to change. -/
def State.done (s : State) (f : State → State) : State :=
  { ({ f s.fresh with variant := s.variant } : State).settle with pending := s.pending }

/-- A meaning's answer. -/
def State.run (s : State) (f : State → State) : Result := .next (s.done f)

/-- A meaning's answer where the command names an object the module must have (R1 to R4).
(DESIGN CHOICE, notes/assumptions/7.md.) -/
def State.runIf (s : State) (b : Bool) (f : State → State) : Result :=
  if b then s.run f else .fault .absentObject

end Sys2Proof.Machine
end

