-- ==== Sys2Proof/Machine/Time.lean ====
section
/-! DEFINITION. The time base (R71 to R73), its jumps (R107 to R113), the media chain's rate and numbering, the time
pulse outputs (R114 to R119) and the capture queue (R120 to R123). -/

namespace Sys2Proof.Machine

/-! ### Sample rates and engine frames (R7, R149) -/

/-- Sample rate in Hz of a MEDIA_CFG.RATE code. -/
def rateHz (code : Nat) : Nat := getAt [44100, 48000, 88200, 96000, 176400, 192000] code 48000

/-- The sample rate in use. -/
def State.fs (s : State) : Nat := rateHz (s.fld F.CLK_MEDIA_CFG_RATE)

/-- The rate family multiple: 1 at 44.1/48 kHz, 2 at 88.2/96 kHz, 4 at 176.4/192 kHz. -/
def State.rateMul (s : State) : Nat := 2 ^ (s.fld F.CLK_MEDIA_CFG_RATE / 2)

/-- Samples in an EF (R7). -/
def State.efLen (s : State) : Nat := 16 * s.rateMul

/-- A number of samples as a time in units of 2^-16 ns, rounded up. -/
def State.smpUp (s : State) (n : Nat) : Nat := (n * secU + s.fs - 1) / s.fs

/-- A time in units of 2^-16 ns as whole samples. -/
def State.smpOf (s : State) (t : Nat) : Nat := t * s.fs / secU

/-- Rounding to nearest, halves away from zero. (DESIGN CHOICE, notes/assumptions/9.md.) -/
def roundDiv (a : Int) (b : Nat) : Int :=
  if a ≥ 0 then (2 * a + b) / (2 * b) else -((2 * (-a) + b) / (2 * b))

/-- A time difference in whole nanoseconds (notes/assumptions/9.md). -/
def toNs (i : Int) : Int := roundDiv i nsU

/-- Signed nanoseconds in a register, saturating at ±2,147,483,647 (R86, R112). -/
def nsReg (i : Int) : Nat := unsgn 32 (clampI (-2147483647) 2147483647 (toNs i))

/-! ### The media chain (R12, R167, R189) -/

/-- The media chain's own time: the DPLL count plus the offset that makes it the time base less the displacement. -/
def State.chainTime (s : State) : Int := s.time.up + s.time.disp0

/-- The chain index of the latest sample edge. -/
def State.chainIdx (s : State) : Nat := (s.chainTime * s.fs / secU).toNat

/-- disp of R169: the total change of the time base since the last media realign. -/
def State.disp (s : State) : Int := s.time.tb - s.time.up - s.time.disp0

/-- want of R169: whole samples owed. -/
def State.want (s : State) : Int := roundDiv (s.disp * s.fs) secU

/-- MISALIGN in units of 2^-16 ns: disp less the whole samples owed (R146, R169). -/
def State.misalign (s : State) : Int := s.disp - s.want * secU / s.fs

/-- CLK.MISALIGN follows the time base; EVT.MISALIGN sets when it rises above 100 ns (R146). -/
def State.updMisalign (s : State) : State :=
  let m := s.misalign
  let high := decide (m.natAbs > 100 * nsU)
  let s := (s.wr A.CLK_MISALIGN (nsReg m)).when (high && !s.clk.misHigh) (fun s => s.event F.CLK_EVT_MISALIGN)
  { s with clk := { s.clk with misHigh := high } }

/-! ### Elapsed time -/

/-- Largest value of the time base: its seconds never wrap (R109). -/
def tbMax : Nat := 2 ^ 48 * secU - 1

/-- Time passes (R72, R108): the DPLL count, the RTC and the time base advance, and a slew in progress absorbs 5 ppm of
the elapsed time. POWER_ON_S counts (R476). (DESIGN CHOICE, notes/assumptions/6.md.) -/
def State.advance (s : State) (dt : Nat) : State :=
  let acc := s.time.slewAcc + dt
  let step := if s.time.slew = 0 then 0 else min (acc / 200000) s.time.slew.natAbs
  let d : Int := if s.time.slew < 0 then -(step : Int) else step
  let tb := min ((s.time.tb : Int) + dt + d).toNat tbMax
  let rtc := s.mgmt.rtcTick + (if s.mgmt.rtcRunning then dt else 0)
  let secs := (s.time.up + dt) / secU - s.time.up / secU
  let s := s.when (s.pwr.powered && secs != 0) (fun s => s.life 0 secs)
  { s with
    time := { s.time with
      up := s.time.up + dt
      tb := tb
      slew := if tb = 0 ∧ s.time.slew < 0 then 0 else s.time.slew - d
      slewAcc := if s.time.slew = 0 then 0 else acc % 200000 }
    mgmt := { s.mgmt with rtcSec := s.mgmt.rtcSec + rtc / secU, rtcTick := rtc % secU } }.updMisalign

/-- The DPLL count at which the media chain reaches an EF boundary. -/
def State.efUp (s : State) (ef : Nat) : Int :=
  ((ef * s.efLen * secU + s.fs - 1) / s.fs : Nat) - s.time.disp0

/-- Time passes up to the next EF boundary of the media chain, if it lies ahead. (DESIGN CHOICE, notes/assumptions/6.md.) -/
def State.toBoundary (s : State) : State :=
  s.advance (s.efUp (s.clk.lastEf + 1) - s.time.up).toNat

/-! ### Jumps (R107 to R113) -/

/-- A jump whose Δ, in units of 2^-16 ns, takes effect at the next EF boundary. -/
def State.jump (s : State) (delta : Int) : State :=
  { s with time := { s.time with jumps := s.time.jumps ++ [delta] } }

/-- A jump that removes an offset: Δ is minus the offset, as R144 has it (notes/assumptions/10.md). -/
def State.jumpOffset (s : State) (off : Int) : State := s.jump (-off)

/-- The time base steps by Δ (R109): the epoch counts, STEPS counts, LAST_STEP shows the Δ applied, and the MP logs it. A
Δ that would take the time base below zero lands at zero. -/
def State.stepTime (s : State) (delta : Int) : State :=
  let d := if (s.time.tb : Int) + delta < 0 then -(s.time.tb : Int) else delta
  let s := { s with time := { s.time with
    tb := min ((s.time.tb : Int) + d).toNat tbMax
    epoch := (s.time.epoch + 1) % 2 ^ 16
    slew := 0
    slewAcc := 0
    twin := { s.time.twin with running := false } } }
  let s := ((s.inc A.TIME_CNT_STEPS).event F.TIME_EVT_STEP).wr A.TIME_LAST_STEP (nsReg d)
  s.log 4 1 1 (payload64 (toNs d) ++ [s.time.epoch])

/-- A one-shot output fires (R117): ARMED clears, FIRED and the event set, LATE where it fired late.
(DEDUCED, notes/assumptions/36.md.) -/
def State.tpoFire (s : State) (n : Nat) (late : Bool) : State :=
  let s := { s with time := { s.time with
    tpo := updAt s.time.tpo n (fun t => { t with armed := false, pulse := true }) } }
  let s := ((s.setBit F.TIME_TPO_STATUS_ARMED n false).setBit F.TIME_TPO_STATUS_FIRED n true).eventBit
    F.TIME_EVT_TPO_FIRED n
  s.when late (fun s => s.setBit F.TIME_TPO_STATUS_LATE n true)

/-- The armed one-shots whose start a forward step has carried the time base past fire late (R117). -/
def State.tpoAfterStep (s : State) : State :=
  forN 4 (fun n s =>
    let t := getAt s.time.tpo n Tpo.reset
    s.when (t.armed && decide (t.startNs * nsU < s.time.tb)) (fun s => s.tpoFire n true)) s

/-- The pending jumps take effect at the EF boundary (R108 to R110): the sizes add to the slew not yet absorbed, and up
to 1,000 ns is slewed and more is stepped; with a SET the time base lands on the written time. -/
def State.applyJumps (s : State) : State :=
  let lim : Nat := 1000 * nsU
  match s.time.setPend with
  | some ns =>
    let d : Int := (ns * nsU : Nat) - (s.time.tb : Int)
    let s := { s with time := { s.time with jumps := [], setPend := none, slew := 0, slewAcc := 0 } }
    if d.natAbs > lim then (s.stepTime d).tpoAfterStep.updMisalign
    else { s with time := { s.time with tb := min (ns * nsU) tbMax } }.updMisalign
  | none =>
    if s.time.jumps.isEmpty then s
    else
      let d := s.time.jumps.sum + s.time.slew
      let s := { s with time := { s.time with jumps := [], slew := 0, slewAcc := 0 } }
      if d = 0 then s
      else if d.natAbs > lim then (s.stepTime d).tpoAfterStep.updMisalign
      else { s with time := { s.time with slew := d } }.event F.TIME_EVT_SLEW

/-- The selected reference carries time: PTP, PPS_IN with TOD_RX, or the splice master (R113, R125). -/
def State.refCarriesTime (s : State) : Bool :=
  let r := s.fld F.CLK_REF_STATUS_SEL
  (Nat.ble 1 r && Nat.ble r 3) || (r == 4 && s.on F.CLK_TOD_CFG_TOD_EN) || r == 7

/-! ### Time base registers (R73, R112) -/

/-- A read of TB_NS: it latches the other three registers for the reading master.
(DESIGN CHOICE, notes/assumptions/14.md.) -/
def State.tbNsRead (s : State) (m : Master) : Nat × State :=
  (s.tbNs, { s with time := { s.time with latch := setAt s.time.latch m.code (s.time.tb, s.time.epoch) } })

/-- The latched registers of a master (R73). -/
def State.tbSecLo (s : State) (m : Master) : Nat := (getAt s.time.latch m.code (0, 0)).1 / secU % 2 ^ 32
def State.tbSecHi (s : State) (m : Master) : Nat :=
  let l := getAt s.time.latch m.code (0, 0)
  l.2 <<< 16 + l.1 / secU / 2 ^ 32
def State.tbFrac (s : State) (m : Master) : Nat := (getAt s.time.latch m.code (0, 0)).1 % nsU

/-- RTC_STATUS.SRC takes the host as its source once a SET or ADJ is accepted (R464). -/
def State.rtcFromHost (s : State) : State := { s.set F.MGMT_RTC_STATUS_SRC 4 with
  mgmt := { s.mgmt with timeQuality := 0 } }

/-- A write of 1 to TB_CTL.SET or ADJ (R112, R113). `clash` says a jump under R107 falls in the same cycle. -/
def State.tbCtl (s : State) (set adj clash : Bool) : State :=
  if set || adj then
    if s.refCarriesTime || clash then s.event F.TIME_EVT_ADJ_REFUSED
    else if set then
      let sec := s.rd A.TIME_TB_SET_SEC_LO + s.fld F.TIME_TB_SET_SEC_HI_SEC * 2 ^ 32
      { s.rtcFromHost with time := { s.time with setPend := some (sec * 1000000000 + s.rd A.TIME_TB_SET_NS) } }
    else s.rtcFromHost.jump (sgn 32 (s.rd A.TIME_TB_ADJ) * nsU)
  else s

/-! ### Time pulse outputs (R114 to R118) -/

/-- A periodic output's first edge (R118): at its start, or at the next ideal time where the start is past. -/
def State.tpoStart (s : State) (n : Nat) : State :=
  let t := getAt s.time.tpo n Tpo.reset
  let per := clampN 1000 4000000000 (s.rd (A.TIME_TPO_PERIOD n)) * nsU
  let start := t.startNs * nsU
  let edge := if s.time.tb ≤ start then start else start + (s.time.tb - start + per - 1) / per * per
  let s := { s with time := { s.time with tpo := updAt s.time.tpo n (fun t =>
    { t with running := true, nextUp := s.time.up + (edge - s.time.tb), ideal := edge }) } }
  s.setBit F.TIME_TPO_STATUS_RUNNING n true

/-- A one-shot that is armed with its start already past fires at once with LATE (R117). -/
def State.tpoArm (s : State) (n : Nat) : State :=
  let s := { s with time := { s.time with tpo := updAt s.time.tpo n (fun t => { t with armed := true }) } }
  let s := s.setBit F.TIME_TPO_STATUS_ARMED n true
  let t := getAt s.time.tpo n Tpo.reset
  s.when (decide (t.startNs * nsU < s.time.tb)) (fun s => s.tpoFire n true)

/-- The output stops running and is disarmed. -/
def State.tpoOff (s : State) (n : Nat) : State :=
  let s := { s with time := { s.time with tpo := updAt s.time.tpo n (fun t =>
    { t with armed := false, running := false }) } }
  (s.setBit F.TIME_TPO_STATUS_ARMED n false).setBit F.TIME_TPO_STATUS_RUNNING n false

/-- The output's mode acts (R114, R116): a periodic output starts, the other modes stop it; a pulse in progress
completes. -/
def State.tpoMode (s : State) (n : Nat) : State :=
  let m := s.fld (F.TIME_TPO_CTL_MODE n)
  let t := getAt s.time.tpo n Tpo.reset
  if m = 2 then ((s.when t.armed (fun s => s.tpoOff n))).tpoStart n
  else if m = 1 then s.when t.running (fun s => s.tpoOff n)
  else s.tpoOff n

/-- A write of TPO_START_NS (R115): the three start registers apply, and a one-shot arms. -/
def State.tpoStartWrite (s : State) (n ns : Nat) : State :=
  let ns := min ns 999999999
  let s := s.wr (A.TIME_TPO_START_NS n) ns
  let sec := s.rd (A.TIME_TPO_START_SEC_LO n) + s.fld (F.TIME_TPO_START_SEC_HI_SEC n) * 2 ^ 32
  let s := { s with time := { s.time with tpo := updAt s.time.tpo n (fun t =>
    { t with startNs := sec * 1000000000 + ns }) } }
  let m := s.fld (F.TIME_TPO_CTL_MODE n)
  if m = 1 then s.tpoArm n else if m = 2 then s.tpoStart n else s

/-- The pulse width in units of 2^-16 ns, clipped to the period less 64 ns (R114). -/
def State.tpoWidth (s : State) (n : Nat) : Nat :=
  let w := s.fld (F.TIME_TPO_CTL_WIDTH n) * 64
  let w := if s.fld (F.TIME_TPO_CTL_MODE n) = 2 then min w (clampN 1000 4000000000 (s.rd (A.TIME_TPO_PERIOD n)) - 64) else w
  w * nsU

/-- A periodic output produces its next edge (R118): MISALIGN shows the time base less the edge's ideal time.
(DEDUCED, notes/assumptions/36.md.) -/
def State.tpoEdge (s : State) (n : Nat) : State :=
  let t := getAt s.time.tpo n Tpo.reset
  if t.running then
    let s := s.advance (t.nextUp - s.time.up)
    let per := clampN 1000 4000000000 (s.rd (A.TIME_TPO_PERIOD n)) * nsU
    let mis : Int := s.time.tb - t.ideal
    let s := { s with time := { s.time with tpo := updAt s.time.tpo n (fun t =>
      { t with pulse := true, nextUp := t.nextUp + per, ideal := t.ideal + per }) } }
    s.wr (A.TIME_TPO_MISALIGN n) (nsReg mis)
  else s

/-- REALIGN.TPO (R118): the next edge moves to its ideal time; where the shortened interval would be less than WIDTH plus
64 ns, one edge is skipped; MISALIGN reads 0. (DEDUCED, notes/assumptions/36.md.) -/
def State.tpoRealign (s : State) (n : Nat) : State :=
  let t := getAt s.time.tpo n Tpo.reset
  if t.running then
    let per := clampN 1000 4000000000 (s.rd (A.TIME_TPO_PERIOD n)) * nsU
    let past : Nat := ((s.time.tb : Int) - t.ideal).toNat
    let ideal : Int := t.ideal + ((past + per - 1) / per * per : Nat)
    let wait : Int := ideal - s.time.tb
    let gap : Int := wait + s.time.up - ((t.nextUp : Int) - per)
    let skip := decide (gap < (s.tpoWidth n + 64 * nsU : Nat))
    let wait := if skip then wait + per else wait
    let s := { s with time := { s.time with tpo := updAt s.time.tpo n (fun t =>
      { t with nextUp := s.time.up + wait.toNat, ideal := if skip then ideal + per else ideal }) } }
    s.wr (A.TIME_TPO_MISALIGN n) 0
  else s

/-- The level of a time pulse output pin (R114). -/
def State.tpoPin (s : State) (n : Nat) : Bool :=
  let t := getAt s.time.tpo n Tpo.reset
  if s.fld (F.TIME_TPO_CTL_MODE n) = 3 then s.on (F.TIME_TPO_CTL_LEVEL n)
  else t.pulse != s.on (F.TIME_TPO_CTL_POL n)

/-! ### Captures (R120 to R123) -/

/-- An edge on TPIn, captured if selected and not within 40 ns of the input's last captured edge; a full queue drops it,
unless an entry is popped in the same cycle. -/
def State.tpiEdge (s : State) (n : Nat) (rise popped : Bool) : State :=
  let sel := (s.fld F.TIME_TPI_CTL_EDGE) >>> (2 * n) % 4
  if sel.testBit (if rise then 0 else 1) then
    let near := match getAt s.time.lastCap n none with
      | none => false
      | some t => decide (s.time.up < t + 40 * nsU)
    if near then s.inc A.TIME_CNT_TPI_MERGE
    else if s.time.capq.length < 64 || popped then
      { s with time := { s.time with
          capq := s.time.capq ++ [Cap.mk s.time.tb s.time.epoch rise n]
          lastCap := setAt s.time.lastCap n (some s.time.up) } }.event F.TIME_EVT_CAPQ_NE
    else (((s.inc A.TIME_CNT_CAPQ_DROP).set F.TIME_CAPQ_STATUS_OVF 1).event F.TIME_EVT_CAPQ_OVF)
  else s

/-- CAPQ_INFO of the head entry; zero with the queue empty (R122). -/
def State.capqInfo (s : State) : Nat :=
  match s.time.capq with
  | [] => 0
  | c :: _ => (c.tb % nsU) <<< 16 + 2 ^ 15 + (if c.rise then 2 ^ 14 else 0) + c.input <<< 12

/-- CAPQ_NS, CAPQ_SEC_LO and CAPQ_SEC_HI of the head entry (R122). -/
def State.capqWord (s : State) (k : Nat) : Nat :=
  match s.time.capq with
  | [] => 0
  | c :: _ => if k = 0 then c.tb % secU / nsU else if k = 1 then c.tb / secU % 2 ^ 32
      else c.epoch <<< 16 + c.tb / secU / 2 ^ 32

/-- A read of CAPQ_INFO pops the head entry (R122). -/
def State.capqPop (s : State) : Nat × State :=
  (s.capqInfo, { s with time := { s.time with capq := s.time.capq.tail } })

end Sys2Proof.Machine
end

