-- ==== Sys2Proof/Machine/TdmGain.lean ====
section
/-! DEFINITION. The gain of a TDM port: the causes that fade it, the fade, the silence and the ramp (R331, R332). Other
blocks fade ports through these operations. -/

namespace Sys2Proof.Machine

/-- How many TDM ports the variant has (R2). -/
def State.tdmPorts (s : State) : Nat := s.variant.pick 8 4 2

/-- The port's state. -/
def State.tp (s : State) (n : Nat) : TdmPort := getAt s.tdm n TdmPort.reset

/-- Update the port's state. -/
def State.tpUpd (s : State) (n : Nat) (f : TdmPort → TdmPort) : State := { s with tdm := updAt s.tdm n f }

/-- GAIN_STATE codes of R338. -/
def gainFull : Nat := 0
def gainFading : Nat := 1
def gainSilent : Nat := 2
def gainRamping : Nat := 3

/-- Causes of R331, as bits: MUTE, NO_CLOCK, WRONG_RATE, WCK_IN, MEDIA realign, READY or QUIET, port test. -/
def causeMute : Nat := 0
def causeNoClock : Nat := 1
def causeWrongRate : Nat := 2
def causeWck : Nat := 3
def causeRealign : Nat := 4
def causeStop : Nat := 5
def causeTest : Nat := 6

/-- FADE_MS and RAMP_MS as they act (R339). -/
def State.fadeMs (s : State) : Nat := let v := s.fld F.TDM_FADE_CFG_FADE_MS; if v = 0 then 5 else v
def State.rampMs (s : State) : Nat := let v := s.fld F.TDM_FADE_CFG_RAMP_MS; if v = 0 then 20 else v

/-- How long a fade from a gain takes: FADE_MS × g0 (R332). -/
def State.fadeTime (s : State) (g0 : Nat) : Nat := s.fadeMs * msU * g0 / 2 ^ 30

/-- The port's gain now, q30 (R332): a raised cosine from the gain at the fade's start to 0, or from 0 to 1. -/
def State.tdmGain (s : State) (n : Nat) : Nat :=
  let g := s.fld (F.TDM_STATUS_GAIN_STATE n)
  let t := s.time.up - (s.tp n).fadeUp
  if g = gainFull then 2 ^ 30
  else if g = gainFading then (s.tp n).g0 * fallGain t (s.tp n).fadeLen / 2 ^ 30
  else if g = gainRamping then 2 ^ 30 - fallGain t (s.tp n).fadeLen
  else 0

/-- A cause acts on the port (R331 to R333): from Full or Ramping it starts Fading from the current gain and FADES counts;
while Fading or Silent the count of clean EFs restarts. -/
def State.tdmFadeOnly (s : State) (n : Nat) : State :=
  let g := s.fld (F.TDM_STATUS_GAIN_STATE n)
  if g = gainFull ∨ g = gainRamping then
    let g0 := min (s.tdmGain n) (2 ^ 30)
    let s := s.tpUpd n (fun p => { p with g0 := g0, fadeUp := s.time.up, fadeLen := s.fadeTime g0, clean := 0, dirty := true })
    (s.set (F.TDM_STATUS_GAIN_STATE n) gainFading).inc (A.TDM_FADES n)
  else s.tpUpd n (fun p => { p with clean := 0, dirty := true })

/-- A cause ends the port's run of clean EFs for its sense slots (R335). -/
def State.senseDrop (s : State) (n : Nat) : State :=
  (s.tpUpd n (fun p => { p with senseClean := 0 })).setBit F.TDM_SENSE_OK_PORT n false

/-- A cause acts on the port's gain and on its sense slots. -/
def State.tdmFade (s : State) (n : Nat) : State := (s.tdmFadeOnly n).senseDrop n

/-- A lasting cause begins: it is held and fades the port. -/
def State.tdmCauseOn (s : State) (n cause : Nat) : State :=
  (s.tpUpd n (fun p => { p with causes := p.causes ||| 2 ^ cause })).tdmFade n

/-- A lasting cause ends. -/
def State.tdmCauseOff (s : State) (n cause : Nat) : State :=
  s.tpUpd n (fun p => { p with causes := clearBits p.causes (2 ^ cause) })

/-- A lasting cause begins or ends on every port of a mask. -/
def State.tdmCauseMask (s : State) (mask cause : Nat) (on : Bool) : State :=
  forN s.tdmPorts (fun n s =>
    s.when (mask.testBit n) (fun s => if on then s.tdmCauseOn n cause else s.tdmCauseOff n cause)) s

/-- Every port that is not yet silent fades for a READY or QUIET command (R19). -/
def State.tdmStopFade (s : State) : State := s.tdmCauseMask 0xFF causeStop true

/-- The ports whose frames run (R338). -/
def State.tdmRunning (s : State) (n : Nat) : Bool := s.on (F.TDM_STATUS_RUNNING n)

/-- A fade has taken its time (R332): the port is Silent and counts clean EFs from the next EF on; a port test
runs its frames from here (R337). -/
def State.tdmFadeDone (s : State) (n : Nat) : State :=
  if s.fld (F.TDM_STATUS_GAIN_STATE n) = gainFading then
    (s.set (F.TDM_STATUS_GAIN_STATE n) gainSilent).tpUpd n (fun p => { p with
      clean := 0, dirty := true, testing := p.testing || p.causes.testBit causeTest })
  else s

/-- The port has running clocks of the right class, or drives its own (R332). -/
def State.tdmClocksOk (s : State) (n : Nat) : Bool :=
  (s.tp n).opCfg.getLsbD 30 || (!s.on (F.TDM_STATUS_NO_CLOCK n) && !s.on (F.TDM_STATUS_WRONG_RATE n))

/-- Ramping starts for a Silent port with two clean EFs (R332). -/
def State.tdmRampStart (s : State) (n : Nat) : State :=
  if s.fld (F.TDM_STATUS_GAIN_STATE n) = gainSilent ∧ 2 ≤ (s.tp n).clean then
    (s.set (F.TDM_STATUS_GAIN_STATE n) gainRamping).tpUpd n (fun p => { p with fadeUp := s.time.up, fadeLen := s.rampMs * msU })
  else s

/-- A ramp has taken its time: the port is Full. -/
def State.tdmRampDone (s : State) (n : Nat) : State :=
  if s.fld (F.TDM_STATUS_GAIN_STATE n) = gainRamping then s.set (F.TDM_STATUS_GAIN_STATE n) gainFull else s

/-- At an EF boundary each port's clean EFs are counted, for its gain (R332) and for its sense slots, which are valid from
the second of two consecutive clean EFs (R335). -/
def State.tdmCleanEf (s : State) : State :=
  forN s.tdmPorts (fun n s =>
    let p := s.tp n
    let clean := p.causes = 0 && !p.dirty && s.tdmClocksOk n && s.tdmRunning n
    let silent := s.fld (F.TDM_STATUS_GAIN_STATE n) = gainSilent
    let sense := if clean && p.opCfg.getLsbD 13 then min (p.senseClean + 1) 2 else 0
    let s := s.tpUpd n (fun p => { p with
      clean := if clean && silent then p.clean + 1 else 0
      senseClean := sense
      dirty := false })
    s.setBit F.TDM_SENSE_OK_PORT n (sense != 0)) s

/-- On entry to RUN every port is Silent (R332). -/
def State.tdmAllSilent (s : State) : State :=
  forN s.tdmPorts (fun n s =>
    (s.set (F.TDM_STATUS_GAIN_STATE n) gainSilent).tpUpd n (fun p => { p with
      clean := 0, causes := clearBits p.causes (2 ^ causeStop) })) s

end Sys2Proof.Machine
end

