-- ==== Sys2Proof/Machine/Base.lean ====
section
/-! DEFINITION. What several blocks share: configuration saves, classes of service in force, aborting a self-test, and the
module state's commands (R14 to R22). -/

namespace Sys2Proof.Machine

/-- Update a component of the state. -/
def State.updPwr (s : State) (f : Pwr → Pwr) : State := { s with pwr := f s.pwr }
def State.updTest (s : State) (f : TestS → TestS) : State := { s with test := f s.test }
def State.updMgmt (s : State) (f : Mgmt → Mgmt) : State := { s with mgmt := f s.mgmt }
def State.updClk (s : State) (f : ClkS → ClkS) : State := { s with clk := f s.clk }
def State.updTime (s : State) (f : TimeS → TimeS) : State := { s with time := f s.time }
def State.updRing (s : State) (f : Ring → Ring) : State := { s with ring := f s.ring }

/-! ### Configuration saves (R481, R483) -/

/-- The register fields a configuration holds: the RW and RWP fields of the map, the factory trim apart (R481, R536). -/
def cfgMask (v : Variant) (adr : Nat) : Nat :=
  match rowAt v adr with
  | none => 0
  | some r => if r.adr = A.TEST_TRIM 0 ∨ r.adr = A.MGMT_LOG_IDX then 0 else r.rw ||| r.rwp

/-- The configuration's registers and table words that differ from their reset values. -/
def State.cfgRegs (s : State) : List (Nat × Word) :=
  s.regs.filterMap (fun c =>
    let m := BitVec.ofNat 32 (cfgMask s.variant c.1)
    let r := resetWord s.variant c.1
    if c.2 &&& m = r &&& m then none else some (c.1, (c.2 &&& m) ||| (r &&& ~~~m)))

/-- The snapshot a save takes; its generation is set when it is written (R483). -/
def State.snapshot (s : State) : CfgSlot where
  magic := true
  good := true
  format := 1
  gen := 0
  length := 8
  imageId := BitVec.ofNat 32 (s.rd A.ENG_IMG_ID)
  regs := s.cfgRegs
  image := s.mgmt.image
  retiredBlocks := s.rd A.TEST_RETIRED
  retiredUnits := s.pwr.retiredUnits
  retiredLines := s.mgmt.retiredLines
  retiredCores := s.mgmt.retiredCores
  settings := s.mgmt.settings

/-- A save is requested: it starts with a snapshot, or waits behind the one in progress (R483).
(DEDUCED, notes/assumptions/26.md.) -/
def State.requestSave (s : State) : State :=
  if s.on F.MGMT_CFG_STATUS_BUSY then s.set F.MGMT_CFG_STATUS_PENDING 1
  else (s.updMgmt (fun m => { m with saveSnap := some s.snapshot })).set F.MGMT_CFG_STATUS_BUSY 1

/-! ### Classes of service in force -/

/-- How many lays the variant has (R2). -/
def State.lays (s : State) : Nat := s.variant.pick 64 32 16

/-- A lay of one of the classes meeting the test is ACTIVE. -/
def State.layActive (s : State) (p : Nat → Bool) : Bool :=
  anyN s.lays (fun n => s.on (F.TBL_LAY_W2_ACTIVE n) && p (s.fld (F.TBL_LAY_W0_CLASS n)))

/-- A class 7 SCP command holds ownership (R435). -/
def State.held7 (s : State) : Bool := !s.scp.holds.isEmpty

/-- Class 7 is in force (R358). -/
def State.class7 (s : State) : Bool := s.layActive (fun c => c == 7) || s.held7

/-- A class 6 or 7 request is in force (R526). -/
def State.class67 (s : State) : Bool := s.layActive (fun c => Nat.ble 6 c) || s.held7

/-! ### Test blocks (R518) -/

/-- The power unit of a test block. -/
def blockUnit (b : Nat) : Nat :=
  if b = 0 then 3 else if b = 1 then 4 else if b = 2 then 5 else if b = 3 then 6 else if b = 4 then 7
  else if b = 5 ∨ b = 6 then 2 else if b = 7 then 3 else if b = 8 then 8 else if b = 9 then 14
  else if b = 10 then 12 else if 12 ≤ b ∧ b ≤ 15 then b - 4 else 12

/-- The variant has the block (R2, R518). -/
def blockPresent (v : Variant) (b : Nat) : Bool :=
  Nat.ble b 10 || (Nat.ble 12 b && Nat.blt b (12 + v.pick 4 2 1)) || (Nat.ble 16 b && Nat.blt b (16 + v.pick 8 4 2))

/-- The mask of present blocks. -/
def blocksPresent (v : Variant) : Nat := ofBits ((List.range 32).map (blockPresent v))

/-- TEST.USABLE (R534): present, staged, and neither unusable nor retired. -/
def State.usableMask (s : State) : Nat :=
  ofBits ((List.range 32).map (fun b => blockPresent s.variant b && s.unitOn (blockUnit b) && !s.test.unusable.testBit b &&
    !(s.rd A.TEST_RETIRED).testBit b))

/-- The block may be used now: usable, and neither under test nor being re-initialised (R522, R528). -/
def State.blockOk (s : State) (b : Nat) : Bool :=
  blockPresent s.variant b && s.unitOn (blockUnit b) && !s.test.unusable.testBit b && !(s.rd A.TEST_RETIRED).testBit b &&
    s.test.running != some b && s.test.reinit != some b

/-- The block is unusable or retired (R528). -/
def State.blockBad (s : State) (b : Nat) : Bool := s.test.unusable.testBit b || (s.rd A.TEST_RETIRED).testBit b

/-- The bypass is closed. -/
def State.bypassClosed (s : State) : Bool := s.fld F.RING_BYPASS_STATUS_STATE == 0

/-- The states that R518 allows a block's test in. -/
def State.testAllowedIn (s : State) (b st : Nat) : Bool :=
  if b = 0 ∨ b = 4 then st == 2
  else if b = 1 ∨ b = 2 then st == 2 || (Nat.ble 3 st && s.bypassClosed)
  else if b = 3 then st == 2 || (Nat.ble 3 st && !s.on (F.RING_PORT_CFG_ENABLE 2))
  else if b = 5 ∨ b = 6 ∨ b = 7 ∨ b = 8 then st == 2 || st == 3
  else if b = 9 then st == 2 || (Nat.ble 3 st && !s.on F.SPLICE_CFG_UP_EN && !s.on F.SPLICE_CFG_DN_EN)
  else if 12 ≤ b ∧ b ≤ 15 then
    st == 2 || st == 3 || (st == 4 && (List.range 4).all (fun k =>
      let c := s.coreState (4 * (b - 12) + k)
      let placed := anyN 64 (fun m => s.on (F.ENG_DESC_W0_PLACED m) && s.fld (F.ENG_DESC_W0_CORE m) == 4 * (b - 12) + k)
      c == 6 || c == 2 || (c == 4 && !placed)))
  else Nat.ble 2 st && Nat.ble st 4

/-- YIELD of a block (R527). -/
def State.yields (s : State) (b : Nat) : Bool :=
  if 16 ≤ b then s.on F.TEST_YIELD_TDM else (s.fld F.TEST_YIELD_MASK).testBit b

/-- The block's expected cycle count (R536). (DESIGN CHOICE, notes/assumptions/81.md.) -/
def State.expCycles (s : State) (b : Nat) : Nat := s.rd (A.TEST_RES_W3 b)

/-- Replace the element at a place of a list of numbers by a function of it. -/
def bumpAt (l : List Nat) (i : Nat) : List Nat := l.modify i (· + 1)

/-- A block's test is queued (R523). -/
def State.testQueue (s : State) (b origin : Nat) : State :=
  if !blockPresent s.variant b || s.bitOf F.TEST_QUEUED_MASK b || s.test.running == some b then s
  else
    let s := (s.setBit F.TEST_QUEUED_MASK b true).set (F.TEST_RES_W0_STATE b) 1
    (s.set (F.TEST_RES_W0_ORIGIN b) origin).updTest (fun t => { t with aborts := setAt t.aborts b 0 })

/-- A test ends with a result that R520 judged: the result words, the events and the log record (R521), and
re-initialisation is owed (R522). -/
def State.testResult (s : State) (b res kind coreFail sig cycles why : Nat) : State :=
  let s := (s.set (F.TEST_RES_W0_STATE b) res).set (F.TEST_RES_W0_KIND b) kind
  let s := (s.set (F.TEST_RES_W0_CORE_FAIL b) coreFail).set (F.TEST_RES_W0_ABORT_WHY b) why
  let s := (s.wr (A.TEST_RES_W1 b) sig).wr (A.TEST_RES_W2 b) cycles
  let s := s.event F.TEST_EVT_DONE
  let s := s.when (res == 4) (fun s => s.event F.TEST_EVT_FAIL)
  let s := s.when (res == 5) (fun s => s.event F.TEST_EVT_ABORTED)
  let s := s.log 18 1 (if res = 4 then 3 else 1)
    [b, kind, res, sig, cycles, s.expCycles b, s.fld (F.TEST_RES_W0_ORIGIN b), why]
  (s.wr A.TEST_STATUS 0).updTest (fun t => { t with running := none, reinit := some b })

/-- The running test is aborted with a cause (R526, R527): the cycles completed and the signature observed are free, the
count below the expected one. The test stays queued unless this is its third abort, or STOP emptied the queue. -/
def State.testAbort (s : State) (why : Nat) : State :=
  match s.test.running with
  | none => s
  | some b =>
    let (sig, s) := s.free 32
    let (cyc, s) := s.free 32
    let (k, s) := s.free 1
    let kind := if b = 0 ∨ b = 8 ∨ (12 ≤ b ∧ b ≤ 15) then 1 + k else if b ≤ 3 ∨ b = 9 ∨ 16 ≤ b then 3 else if b = 4 then 4
      else if b = 10 then 5 else 2
    let s := s.testResult b 5 kind 0 sig (if s.expCycles b = 0 then 0 else cyc % s.expCycles b) why
    let n := getAt s.test.aborts b 0 + 1
    let s := s.updTest (fun t => { t with aborts := bumpAt t.aborts b })
    if why = 4 then s else s.when (decide (n < 3)) (fun s => s.setBit F.TEST_QUEUED_MASK b true)

/-- A class 6 or 7 request comes into force (R526): the running test is aborted, and an aborted one waits for 60 s without. -/
def State.testClass67 (s : State) : State := (s.testAbort 1).updTest (fun t => { t with wait67 := true })

/-- The block a lower-class request must wait for or abort (R527), if it is under test or being re-initialised. -/
def State.testBusy (s : State) (p : Nat → Bool) : Bool :=
  (match s.test.running with | none => false | some b => p b) || (match s.test.reinit with | none => false | some b => p b)

/-- A lower-class request: with YIELD set it aborts the test of a block it concerns (R527). -/
def State.testYield (s : State) (why : Nat) (p : Nat → Bool) : State :=
  match s.test.running with
  | none => s
  | some b => s.when (p b && s.yields b) (fun s => s.testAbort why)

/-- The blocks a RUN or a wake concerns: those that READY or QUIET can test (R527). -/
def runConcerns (b : Nat) : Bool := b != 0 && b != 4

/-- The audio blocks that a lay or a proof run concerns (R527). -/
def audioConcerns (b : Nat) : Bool := b == 10 || Nat.ble 16 b

/-- The anchor of a gate cycle (R48): the next whole TAI second plus the port's QBV_PHASE. -/
def State.qbvAnchor (s : State) (p : Nat) : Nat :=
  (s.time.tb / secU + 1) * secU + s.fld (F.RING_QBV_PHASE_NS p) * nsU

/-! ### Module states (R14, R17) -/

/-- Codes of MOD_STATE.STATE. -/
def stReset : Nat := 1
def stStaging : Nat := 2
def stReady : Nat := 3
def stRun : Nat := 4
def stQuiet : Nat := 5

/-- The module enters a state: LAST_CAUSE, the event and the log record (R17, R471); a running test that the state
does not allow is aborted (R537). -/
def State.enterState (s : State) (st cause : Nat) : State :=
  let old := s.modState
  let s := (s.set F.SYS_MOD_STATE_STATE st).set F.SYS_MOD_STATE_LAST_CAUSE cause
  let s := (s.event F.SYS_EVT_STATE_CHG).log 0 1 0 [old, st, cause]
  match s.test.running with
  | none => s
  | some b => s.when (!s.testAllowedIn b st) (fun s => s.testAbort 3)

/-- A command is refused (R17, R471). -/
def State.refuse (s : State) (cmd why : Nat) : State :=
  ((s.set F.SYS_MOD_STATE_CMD_REFUSED 1).set F.SYS_MOD_STATE_REFUSE_WHY why).log 0 2 1 [cmd, why]

/-- A program is placed on the core (R232). -/
def State.corePlaced (s : State) (n : Nat) : Bool :=
  anyN 64 (fun m => s.on (F.ENG_DESC_W0_PLACED m) && s.fld (F.ENG_DESC_W0_CORE m) == n)

/-- The EF trigger starts or stops: cores become ACTIVE, or READY and EMPTY again (R232). -/
def State.setTrigger (s : State) (on : Bool) : State :=
  let s := s.updPwr (fun p => { p with trig := on })
  forN s.cores (fun n s =>
    let c := s.coreState n
    if on then s.when (c == 2 || c == 3) (fun s => s.set (F.ENG_CORE_STATUS_STATE n) 4)
    else s.when (c == 4) (fun s => s.set (F.ENG_CORE_STATUS_STATE n) (if s.corePlaced n then 3 else 2))) s

/-- No usable Acson cluster, or bus memory unusable (R506, R528). -/
def State.noCluster (s : State) : Bool :=
  !s.unitOn 8 || s.test.unusable.testBit 5 || (s.rd A.TEST_RETIRED).testBit 5 ||
    !anyN s.cores (fun n => s.coreState n != 6 && s.coreState n != 0)

/-- The module is a splice member that is not aligned (R385). -/
def State.unaligned (s : State) : Bool := s.on F.CLK_REF_STATUS_SPLICE_MEMBER && !s.on F.SPLICE_STATUS_ALIGNED

/-- Something holds a RUN in READY back (R19). (DESIGN CHOICE, notes/assumptions/23.md.) -/
def State.runHeld (s : State) : Bool :=
  anyN s.cores (fun n => s.coreState n == 5) || s.unaligned || s.testBusy (fun b => runConcerns b && !s.yields b)

/-- A RUN is held as CMD_PEND, with the cause it will enter RUN by. -/
def State.holdRun (s : State) (cause : Nat) : State :=
  (s.set F.SYS_MOD_STATE_CMD_PEND 1).updPwr (fun p => { p with heldCause := cause })

/-- RUN is entered from READY: the EF trigger starts (R19), and PLAY starts at the next tick (R195). A test that RUN no
longer allows ends (R537). -/
def State.startRun (s : State) (cause : Nat) : State :=
  let s := (s.set F.SYS_MOD_STATE_CMD_PEND 0).enterState stRun cause
  (s.setTrigger true).tdmAllSilent

/-- A RUN command with its cause (R19, R21). -/
def State.modRun (s : State) (cause : Nat) : State :=
  let st := s.modState
  if st = stRun then s
  else if st = stReset then s.holdRun cause
  else if st = stStaging ∧ !s.test.startupDone then s.holdRun cause
  else if s.noCluster then s.refuse 4 4
  else if !s.mgmt.imageCert then s.refuse 4 3
  else if st = stStaging then s.holdRun cause
  else
    let s := s.testYield 2 (fun b => runConcerns b && (st == stQuiet || s.testAllowedIn b stRun))
    let s := match s.test.running with
      | none => s
      | some b => s.when (runConcerns b && s.yields b) (fun s => s.testAbort 3)
    if st = stReady then
      if s.pwr.readyFade then
        ((s.updPwr (fun p => { p with readyFade := false })).enterState stRun cause).tdmCauseMask 0xFF causeStop false
      else if s.runHeld then s.holdRun cause
      else if s.pwr.readyReturn then
        ((s.set F.SYS_MOD_STATE_CMD_PEND 0).enterState stRun cause).updPwr (fun p => { p with wake := true, readyReturn := false })
      else s.startRun cause
    else if s.testBusy (fun b => runConcerns b && !s.yields b) then s.holdRun cause
    else
      let s := (s.set F.SYS_MOD_STATE_CMD_PEND 0).enterState stRun cause
      if s.pwr.quietEntry && s.pwr.trig then
        (s.updPwr (fun p => { p with quietEntry := false })).tdmCauseMask 0xFF causeStop false
      else s.updPwr (fun p => { p with quietEntry := false, wake := true })

/-- A QUIET command (R19). (DESIGN CHOICE, notes/assumptions/23.md.) -/
def State.modQuiet (s : State) (cause : Nat) : State :=
  let st := s.modState
  if st = stQuiet then s
  else if st ≠ stRun then s.refuse 5 1
  else if s.class67 then s.refuse 5 2
  else ((s.enterState stQuiet cause).updPwr (fun p => { p with quietEntry := true })).tdmStopFade

/-- A READY command (R19): it cancels a held RUN; from RUN and QUIET it enters READY, and from a wake before the trigger it
abandons the wake. -/
def State.modReady (s : State) (cause : Nat) : State :=
  let st := s.modState
  let s := s.set F.SYS_MOD_STATE_CMD_PEND 0
  if st = stRun then
    if s.pwr.trig then ((s.enterState stReady cause).updPwr (fun p => { p with readyFade := true })).tdmStopFade
    else (s.enterState stReady cause).updPwr (fun p => { p with wake := false, readyReturn := true })
  else if st = stQuiet then
    (s.enterState stReady cause).updPwr (fun p => { p with quietEntry := false, readyFade := p.trig, readyReturn := !p.trig })
  else s

/-- A command code written to MOD_CMD (R18). -/
def State.modCmd (s : State) (code cause : Nat) : State :=
  if code = 0 then s
  else if code = 3 then s.modReady cause
  else if code = 4 then s.modRun cause
  else if code = 5 then s.modQuiet cause
  else s.refuse code 5

/-- Class 7 service wakes the module from QUIET as RUN would (R21). -/
def State.wakeFor (s : State) (cause : Nat) : State := if s.modState = stQuiet then s.modRun cause else s

end Sys2Proof.Machine
end

