-- ==== Sys2Proof/Machine/Flags.lean ====
section
/-! DEFINITION. Rounding, saturation and the bits they set in a core's sticky status (R244 to R247). An arithmetic result
here is the value with the sf bits that it sets. -/

namespace Sys2Proof.Machine

/-- sf.SAT, sf.AOVF and sf.TRAP (R247). -/
def sfSat : Nat := 1
def sfAovf : Nat := 2
def sfTrap : Nat := 4

/-- A word as a signed integer. -/
def Word.int (w : Word) : Int := w.toInt

/-- The word of an integer, modulo 2^32. -/
def wordOf (i : Int) : Word := BitVec.ofInt 32 i

/-- v with s fewer fractional bits, rounded half up (R245). -/
def rnd (v : Int) (s : Nat) : Int := if s = 0 then v else (v + (2 ^ (s - 1) : Nat)).fdiv (2 ^ s : Nat)

/-- An integer clipped to q31, with sf.SAT where it clips (R246). -/
def sat31 (i : Int) : Word × Nat :=
  if 2147483647 < i then (0x7FFFFFFF#32, sfSat) else if i < -2147483648 then (0x80000000#32, sfSat) else (wordOf i, 0)

/-- An integer clipped to a q15 half, with sf.SAT where it clips. -/
def sat16 (i : Int) : BitVec 16 × Nat :=
  if 32767 < i then (0x7FFF#16, sfSat) else if i < -32768 then (0x8000#16, sfSat) else (BitVec.ofInt 16 i, 0)

/-- An integer clipped to the accumulator's range, with sf.AOVF where it clips (R246). -/
def sat72 (i : Int) : BitVec 72 × Nat :=
  let m : Int := 2 ^ 71
  if m - 1 < i then (BitVec.ofInt 72 (m - 1), sfAovf) else if i < -m then (BitVec.ofInt 72 (-m), sfAovf)
  else (BitVec.ofInt 72 i, 0)

/-- An accumulator clipped to the 64-bit range, with sf.SAT where it clips (R260). -/
def sat64 (i : Int) : BitVec 64 × Nat :=
  let m : Int := 2 ^ 63
  if m - 1 < i then (BitVec.ofInt 64 (m - 1), sfSat) else if i < -m then (BitVec.ofInt 64 (-m), sfSat)
  else (BitVec.ofInt 64 i, 0)

/-- The halves of a register (R244). -/
def hiHalf (w : Word) : BitVec 16 := w.extractLsb' 16 16
def loHalf (w : Word) : BitVec 16 := w.extractLsb' 0 16

/-- An operation on both halves, each saturated alone (R261). -/
def simd (f : Int → Int → Int) (a b : Word) : Word × Nat :=
  let h := sat16 (f (hiHalf a).toInt (hiHalf b).toInt)
  let l := sat16 (f (loHalf a).toInt (loHalf b).toInt)
  (h.1 ++ l.1, h.2 ||| l.2)

/-- A condition code (R256). -/
def ccHolds (cc : Cc) (a b : Word) : Bool :=
  match cc with
  | .eq => a == b
  | .ne => a != b
  | .lt => decide (a.toInt < b.toInt)
  | .le => decide (a.toInt ≤ b.toInt)
  | .ltu => decide (a.toNat < b.toNat)
  | .leu => decide (a.toNat ≤ b.toNat)

/-- The products of R258. -/
def mulQ31 (a b : Word) : Word × Nat := sat31 (rnd (a.toInt * b.toInt) 31)
def mulQ30 (a b : Word) : Word × Nat := sat31 (rnd (a.toInt * b.toInt) 30)

/-- An accumulator read as q31 with s bits of gain (R260). -/
def accRead (acc : BitVec 72) (s : Nat) : Word × Nat := sat31 (rnd (acc.toInt * (2 ^ s : Nat)) 32)

end Sys2Proof.Machine
end

