-- ==== Sys2Proof/Machine/Operands.lean ====
section
/-! DEFINITION. What an Acson instruction's operands reach: the core's registers, the program's descriptor ranges, data
memory, bus positions, delay lines and the staging (R220 to R231, R263 to R272). -/

namespace Sys2Proof.Machine

/-! ### Component updates -/

def State.updStrm (s : State) (f : StrmS → StrmS) : State := { s with strm := f s.strm }
def State.updPlay (s : State) (f : PlayS → PlayS) : State := { s with play := f s.play }
def State.updEng (s : State) (f : EngS → EngS) : State := { s with eng := f s.eng }
def State.updXpt (s : State) (f : XptS → XptS) : State := { s with xpt := f s.xpt }
def State.core (s : State) (c : Nat) : Core := getAt s.eng.cores c Core.reset
def State.coreUpd (s : State) (c : Nat) (f : Core → Core) : State :=
  s.updEng (fun e => { e with cores := updAt e.cores c f })

/-! ### Registers (R242) -/

def Regs.dv (r : Regs) (i : Nat) : Word := getAt r.d i 0
def Regs.pv (r : Regs) (i : Nat) : Word := getAt r.p i 0
def Regs.av (r : Regs) (i : Nat) : BitVec 72 := getAt r.acc i 0
def Regs.fv (r : Regs) (i : Nat) : Bool := getAt r.f i false
def Regs.lv (r : Regs) (i : Nat) : Nat := getAt r.lc i 0

/-- A register write lands. -/
def Wr.apply (r : Regs) : Wr → Regs
  | .d i v => { r with d := setAt r.d i v }
  | .p i v => { r with p := setAt r.p i v }
  | .acc i v => { r with acc := setAt r.acc i v }
  | .f i v => { r with f := setAt r.f i v }
  | .lc i v => { r with lc := setAt r.lc i v }
  | .sf b => { r with sf := r.sf ||| b }
  | .clrSf => { r with sf := 0 }

/-- Writes land in order. -/
def applyAll (ws : List Wr) (r : Regs) : Regs := ws.foldl Wr.apply r

/-- Two writes name one register. -/
def sameReg : Wr → Wr → Bool
  | .d i _, .d j _ => i == j
  | .p i _, .p j _ => i == j
  | .acc i _, .acc j _ => i == j
  | .f i _, .f j _ => i == j
  | .lc i _, .lc j _ => i == j
  | _, _ => false

/-- The instruction executes under its predicate (R249). -/
def predHolds (r : Regs) : Pred → Bool
  | .always => true
  | .on neg f => r.fv f.val != neg

/-! ### Placements (R230, R231) -/

/-- The placement words that computations of an EF use, where an older placement still serves it. -/
def State.oldPlacement (s : State) (ef : Nat) : Option (List (Nat × Word)) :=
  (s.eng.old.find? (fun o => Nat.blt ef o.1)).map Prod.snd

/-- A word of the placement that the computation under way uses: an older one for EFs below the apply EF. -/
def State.placeWord (s : State) (adr : Nat) : Nat :=
  match s.eng.comp with
  | none => s.rd adr
  | some c => match s.oldPlacement c.ef with
    | none => s.rd adr
    | some l => ((Sparse.find l adr).getD (resetWord s.variant adr)).toNat

/-- A field of the placement in use. -/
def State.place (s : State) (f : Fld) : Nat := f.of (s.placeWord f.adr)

/-- The program is present in the placement in use and placed on a core. -/
def State.progOn (s : State) (m c : Nat) : Bool :=
  s.place (F.ENG_DESC_W0_PLACED m) == 1 && s.place (F.ENG_DESC_W0_CORE m) == c

/-- The programs of a core in one phase, in ascending descriptor (R220). -/
def State.progsOf (s : State) (c phase : Nat) : List Nat :=
  (List.range 64).filter (fun m => s.progOn m c && s.place (F.ENG_DESC_W0_PHASE m) == phase)

/-- All programs of a core in phase order, then descriptor order (R281). -/
def State.progsAll (s : State) (c : Nat) : List Nat := ((List.range 4).map (s.progsOf c)).flatten

/-! ### Whether the rest of the module is reached (R281) -/

/-- The core is halted for inspection. -/
def State.stopped (s : State) (c : Nat) : Bool := s.coreState c == 5

/-- The core takes part in the computation under way. -/
def State.computing (s : State) (c : Nat) : Bool :=
  match s.eng.comp with
  | none => false
  | some k => !k.out.testBit c

/-- The EF under computation. -/
def State.curEf (s : State) : Nat :=
  match s.eng.comp with
  | none => 0
  | some k => k.ef

/-! ### Failed checks (R229, R276) -/

/-- A refused access counts; the program's sf.TRAP is the instruction's write. -/
def State.trap (s : State) (c : Nat) : State := (s.inc (A.ENG_CORE_ACCESS_TRAPS c)).event F.ENG_EVT_ACCESS_TRAP

/-! ### Data memory (R224, R263, R276) -/

/-- The lowest 16 bits of an address register. -/
def lowAddr (w : Word) : Nat := w.toNat % 65536

/-- A byte range of the core's data space lies in [base, base + len). -/
def inRange (a n base len : Nat) : Bool := Nat.ble base a && Nat.ble (a + n) (base + len)

/-- The bytes lie in the program's SCRATCH range. -/
def State.inScratch (s : State) (c a n : Nat) : Bool :=
  match (s.core c).prog with
  | none => false
  | some m => inRange a n (s.place (F.ENG_DESC_W4_SCRATCH_BASE m)) (s.place (F.ENG_DESC_W4_SCRATCH_LEN m))

/-- The bytes lie in the program's STATE range. -/
def State.inState (s : State) (c a n : Nat) : Bool :=
  match (s.core c).prog with
  | none => false
  | some m => inRange a n (s.place (F.ENG_DESC_W3_STATE_BASE m)) (s.place (F.ENG_DESC_W3_STATE_LEN m))

/-- A data access of n bytes passes its check. -/
def State.dataOk (s : State) (c a n : Nat) : Bool := a % n == 0 && (s.inState c a n || s.inScratch c a n)

/-- A block of words passes its check. -/
def State.blockOkAt (s : State) (c a words : Nat) : Bool :=
  a % 4 == 0 && (s.inState c a (4 * words) || s.inScratch c a (4 * words))

/-- Little-endian halfword of data memory. -/
def State.memHalf (s : State) (adr : Nat) : BitVec 16 := s.byte (adr + 1) ++ s.byte adr
def State.putMemHalf (s : State) (adr : Nat) (h : BitVec 16) : State :=
  (s.putByte adr (h.extractLsb' 0 8)).putByte (adr + 1) (h.extractLsb' 8 8)

/-- A core address as an address of the memories. -/
def coreAdr (c a : Nat) : Nat := coreBase c + a % 65536

/-! ### Bus memory (R264, R265, R577) -/

/-- The rates with two slots a channel (R24). -/
def State.hiRate (s : State) : Bool := Nat.ble 4 (s.fld F.CLK_MEDIA_CFG_RATE)

/-- A slot's ring length in samples (R167). -/
def State.slotLen (s : State) : Nat := if s.hiRate then 512 else 256

/-- The address of a chain position of a slot. -/
def State.busAdr (s : State) (slot : Nat) (q : Int) : Nat := busBase + 0x400 * slot + 4 * (q % (s.slotLen : Int)).toNat

/-- A sample of a slot, and its replacement. -/
def State.sample (s : State) (slot : Nat) (q : Int) : Word := s.memWord (s.busAdr slot q)
def State.putSample (s : State) (slot : Nat) (q : Int) (w : Word) : State := s.putMemWord (s.busAdr slot q) w

/-- The positions of an EF in a slot become zero. -/
def State.zeroEf (s : State) (slot ef : Nat) : State :=
  forN s.efLen (fun j s => s.putSample slot (ef * s.efLen + j : Nat) 0) s

/-- A cursor's slot and sample (R264). -/
def curSlot (w : Word) : Nat := w.toNat / 65536 % 4096
def curK (w : Word) : Nat := w.toNat % 128

/-- A cursor with another slot and sample. -/
def curPut (w : Word) (slot k : Nat) : Word :=
  (w &&& 0xF000FF80#32) ||| BitVec.ofNat 32 ((slot % 4096) * 65536 + k % 128)

/-- A cursor after its post-modification (R265): 1 K, 2 SLOT, 3 K then SLOT. -/
def State.curStep (s : State) (w : Word) (mode : Nat) : Word :=
  let stride := if s.hiRate then 2 else 1
  let sl := curSlot w
  let k := curK w
  if mode = 0 then w
  else if mode = 1 then curPut w sl (k + 1)
  else if mode = 2 then curPut w (sl + stride) k
  else if s.efLen ≤ k + 1 then curPut w (sl + stride) 0
  else curPut w sl (k + 1)

/-- A cursor's position passes the checks of bus.ld. -/
def State.cursorOk (s : State) (w : Word) : Bool := Nat.blt (curK w) s.efLen && !(s.hiRate && curSlot w % 2 == 1)

/-- The slot lies in the program's OUT range. -/
def State.inOut (s : State) (c slot : Nat) : Bool :=
  match (s.core c).prog with
  | none => false
  | some m =>
    let a := s.place (F.ENG_DESC_W5_OUT_FIRST m)
    Nat.ble a slot && Nat.blt slot (a + s.place (F.ENG_DESC_W5_OUT_COUNT m))

/-! ### Delay lines (R312 to R315) -/

/-- How many delay lines the variant has. -/
def State.dlyLines (s : State) : Nat := s.variant.pick 2048 1024 512

/-- Bytes of delay memory. -/
def State.dlyBytes (s : State) : Nat := s.variant.pick 268435456 134217728 67108864

/-- The line is configured. -/
def State.lineOn (s : State) (k : Nat) : Bool := Nat.blt k s.dlyLines && s.on (F.TBL_DLINE_W0_EN k)

/-- The line's ring in samples: LEN + 8 EF, rounded up to 256 (R313). -/
def ringLen (len ef : Nat) : Nat := (len + 8 * ef + 255) / 256 * 256
def State.lineRing (s : State) (k : Nat) : Nat := s.fld (F.TBL_DLINE_W2_ALLOC k)

/-- The address of a chain position of a line (R314). -/
def State.dlyAdr (s : State) (k q : Nat) : Nat :=
  dlyBase + (s.fld (F.TBL_DLINE_W0_BASE_KIB k) * 1024 + 4 * (q % max 1 (s.lineRing k))) % s.dlyBytes

/-- A sample read from a line: zero below the first position written (R314), and of an unusable memory (R528). -/
def State.dlySample (s : State) (k : Nat) (q : Int) : Word :=
  match Sparse.find s.eng.dlyFirst k with
  | none => 0
  | some f => if !s.blockOk 6 then 0 else if q < (f : Int) then 0 else s.memWord (s.dlyAdr k q.toNat)

/-- A sample is written to a line. -/
def State.putDly (s : State) (k q : Nat) (w : Word) : State :=
  let f := match Sparse.find s.eng.dlyFirst k with
    | none => q
    | some f => min f q
  (s.updEng (fun e => { e with dlyFirst := Sparse.insert k f e.dlyFirst })).putMemWord (s.dlyAdr k q) w

/-- A transfer takes place (R266, R315): `bad` names the words of 64-bit pairs with a double-bit error, which read zero. -/
def State.xferDo (s : State) (c : Nat) (x : Xfer) (bad : List Nat) : State :=
  let n := s.efLen
  if x.read then
    forN n (fun j s =>
      let w := if bad.any (fun k => k / 2 == j / 2) then 0 else s.dlySample x.line ((x.pos : Int) - (getAt x.words 0 0).toNat + j)
      s.putMemWord (coreAdr c (x.adr + 4 * j)) w) s
  else if s.lineOn x.line && s.blockOk 6 then forN n (fun j s => s.putDly x.line (x.pos + j) (getAt x.words j 0)) s
  else s

/-- The core's oldest transfer completes. -/
def State.xferPop (s : State) (c : Nat) (bad : List Nat) : State :=
  match (s.core c).xfers with
  | [] => s
  | x :: rest => (s.xferDo c x bad).coreUpd c (fun k => { k with xfers := rest })

/-- Every transfer of the core completes, in issue order (R267). -/
def State.xferAll (s : State) (c : Nat) : State := forL (s.core c).xfers (fun _ s => s.xferPop c []) s

/-- A transfer is issued: a fifth waits until the oldest completes (R266). -/
def State.xferIssue (s : State) (c : Nat) (x : Xfer) : State :=
  let s := s.when (Nat.ble 4 (s.core c).xfers.length) (fun s => s.xferPop c [])
  s.coreUpd c (fun k => { k with xfers := k.xfers ++ [x] })

/-- A range of data memory that an outstanding dly.rd of the core is still to fill: its words are not valid (R267). -/
def State.awaited (s : State) (c a n : Nat) : Bool :=
  (s.core c).xfers.any (fun x => x.read && Nat.blt a (x.adr + 4 * s.efLen) && Nat.blt x.adr (a + n))

/-- Words of a core's data memory as an instruction takes them: one that is not valid is free.
(DESIGN CHOICE, notes/assumptions/1.md.) -/
def takeWords (c : Nat) : Nat → Nat → State → List Word × State
  | 0, _, s => ([], s)
  | n + 1, a, s =>
    let (w, s) := if s.awaited c a 4 then ((BitVec.ofNat 32 (s.free 32).1, (s.free 32).2) : Word × State)
      else (s.memWord (coreAdr c a), s)
    let (l, s) := takeWords c n (a + 4) s
    (w :: l, s)

/-- How many limiters and supervised lines the variant has. -/
def State.limiters (s : State) : Nat := s.variant.pick 256 128 64
def State.lines (s : State) : Nat := s.variant.pick 256 128 64

/-! ### Staging (R204) -/

/-- Message bytes of a staged item. -/
def stagedBytes (i : Staged) : Nat := match i.item with
  | .msg m => 4 * m.body.length
  | _ => 0

/-- A staged control-block write. -/
def stagedCtl (i : Staged) : Bool := match i.item with
  | .msg _ => false
  | _ => true

/-- An item is staged with the EF under computation; whether it was is returned (R194, R204). -/
def State.stage (s : State) (i : Item) : Bool × State :=
  let x : Staged := ⟨s.curEf, i⟩
  let full :=
    if stagedCtl x then Nat.ble 1024 (s.play.staging.filter stagedCtl).length
    else Nat.blt 32768 ((s.play.staging.map stagedBytes).sum + stagedBytes x)
  if s.curEf < s.play.cleat then (false, s)
  else if full then (false, (s.inc A.PLAY_STAGE_DROP).event F.PLAY_EVT_STAGE_FULL)
  else (true, s.updPlay (fun p => { p with staging := p.staging ++ [x] }))

/-! ### Retirement (R227, R235, R236) -/

/-- The EF's positions in a program's OUT range become zero. -/
def State.zeroOut (s : State) (m : Nat) : State :=
  let a := s.place (F.ENG_DESC_W5_OUT_FIRST m)
  forN (s.place (F.ENG_DESC_W5_OUT_COUNT m)) (fun i s => s.zeroEf (a + i) s.curEf) s

/-- The core takes no further part in the computation: the OUT positions of its programs that have not ended are zero. -/
def State.coreOut (s : State) (c : Nat) : State :=
  match s.eng.comp with
  | none => s
  | some k =>
    let s := forL ((s.progsAll c).filter (fun m => !k.ended.contains m)) (fun m s => s.zeroOut m) s
    (s.xferAll c).updEng (fun e => { e with
      comp := some { k with out := k.out ||| 2 ^ c }
      cores := updAt e.cores c (fun x => { x with prog := none, half := none, loops := [(0, 0), (0, 0)] }) })

/-- A core is retired (R236): its programs run nowhere from the next computation on, and are owed a re-mapping. -/
def State.coreRetire (s : State) (c cause : Nat) : State :=
  if s.coreState c = 6 then s
  else
    let s := (s.set (F.ENG_CORE_STATUS_STATE c) 6).set (F.ENG_CORE_STATUS_CAUSE c) cause
    let progs := (List.range 64).filter (fun m => s.on (F.ENG_DESC_W0_PLACED m) && s.fld (F.ENG_DESC_W0_CORE m) == c)
    let s := forL progs (fun m s => s.set (F.ENG_DESC_W0_PLACED m) 0) s
    let s := s.when (s.on F.ENG_CFG_REMAP_EN && !progs.isEmpty) (fun s => s.updEng (fun e => { e with remap := e.remap ||| 2 ^ c }))
    let s := (s.event F.ENG_EVT_RETIRED).log 8 1 3 [c, cause]
    (s.updMgmt (fun m => { m with retiredCores := (c, cause) :: m.retiredCores.filter (fun r => r.1 != c) })).requestSave

/-- The error protection's finding at a data-memory access (R227): whether the access goes on. -/
def State.eccCheck (s : State) (c : Nat) (e : Ecc) : State :=
  match e with
  | .clean => s
  | .single => (s.inc (A.ENG_CORE_CNT_ECC_CORR c)).event F.ENG_EVT_ECC_CORR
  | .double => (s.coreOut c).coreRetire c 3

/-! ### Program entry (R220) -/

/-- A program's registers at its entry. -/
def State.entryRegs (s : State) (c m : Nat) : Regs :=
  let ef := if s.computing c then s.curEf else 0
  { Regs.zero with
    d := [BitVec.ofNat 32 s.efLen, BitVec.ofNat 32 ef, BitVec.ofNat 32 (s.fld F.CLK_MEDIA_CFG_RATE)] ++ List.replicate 29 0
    p := [BitVec.ofNat 32 (s.place (F.ENG_DESC_W3_STATE_BASE m)), BitVec.ofNat 32 (s.place (F.ENG_DESC_W4_SCRATCH_BASE m))]
      ++ List.replicate 6 0 }

/-- CORE_STATUS.PC follows the core's next bundle. -/
def State.setPc (s : State) (c pc : Nat) : State :=
  (s.coreUpd c (fun k => { k with pc := pc % 4096 })).keep (F.ENG_CORE_STATUS_PC c) (pc % 4096)

/-- A program starts on a core. -/
def State.enterProg (s : State) (c m : Nat) : State :=
  (s.coreUpd c (fun k => { k with regs := s.entryRegs c m, prog := some m, half := none, loops := [(0, 0), (0, 0)] })).setPc c
    (s.place (F.ENG_DESC_W2_ENTRY m))

/-- The program ends (R275, R280, R281): loops end, transfers complete, and the core goes on to its next program. -/
def State.endProg (s : State) (c : Nat) : State :=
  let s := s.xferAll c
  match (s.core c).prog with
  | none => s.coreUpd c (fun k => { k with half := none, loops := [(0, 0), (0, 0)] })
  | some m =>
    if s.stopped c then
      let l := s.progsAll c
      let next := (l.dropWhile (fun x => x != m)).drop 1
      match next ++ l with
      | [] => s.coreUpd c (fun k => { k with prog := none, half := none })
      | n :: _ => s.enterProg c n
    else
      let s := s.updEng (fun e => { e with comp := e.comp.map (fun k => { k with ended := m :: k.ended }) })
      let phase := s.place (F.ENG_DESC_W0_PHASE m)
      match (s.progsOf c phase).filter (fun n => Nat.blt m n) with
      | [] => s.coreUpd c (fun k => { k with prog := none, half := none, loops := [(0, 0), (0, 0)] })
      | n :: _ => s.enterProg c n

/-! ### Bundles (R241, R274, R275) -/

/-- The loop tests after a body's last bundle: the inner loop, the one whose body starts later, first. -/
def loopTests (pc : Nat) (k : Core) : Nat × Core :=
  let test (i : Nat) (k : Core) : Option Nat × Core :=
    let b := getAt k.loops i (0, 0)
    let n := k.regs.lv i
    if n = 0 ∨ b.2 ≠ pc then (none, k)
    else if 1 < n then (some b.1, { k with regs := { k.regs with lc := setAt k.regs.lc i (n - 1) } })
    else (none, { k with regs := { k.regs with lc := setAt k.regs.lc i 0 } })
  let first := if (getAt k.loops 0 (0, 0)).1 < (getAt k.loops 1 (0, 0)).1 then 1 else 0
  match test first k with
  | (some t, k) => (t, k)
  | (none, k) => match test (1 - first) k with
    | (some t, k) => (t, k)
    | (none, k) => (pc + 1, k)

/-- A taken branch ends each running loop whose body it leaves. -/
def leaveLoops (target : Nat) (k : Core) : Core :=
  { k with regs := { k.regs with lc := (List.range 2).map (fun i =>
      let b := getAt k.loops i (0, 0)
      if b.1 ≤ target ∧ target ≤ b.2 then k.regs.lv i else 0) } }

/-- A fetch beyond the program's last bundle acts as end.ef and counts as a failed check (R275). -/
def State.fetchCheck (s : State) (c : Nat) : State :=
  match (s.core c).prog with
  | none => s
  | some m =>
    let pc := (s.core c).pc
    let e := s.place (F.ENG_DESC_W2_ENTRY m)
    if e ≤ pc ∧ pc < e + s.place (F.ENG_DESC_W2_IMEM_LEN m) then s else (s.trap c).endProg c

/-- The bundle in progress completes and the next one is found. -/
def State.endBundle (s : State) (c : Nat) : State :=
  match (s.core c).half with
  | none => s
  | some h =>
    let s := s.coreUpd c (fun k => { k with half := none })
    let pc := (s.core c).pc
    match h.flow with
    | .endEf => s.endProg c
    | .branch t => ((s.coreUpd c (leaveLoops t)).setPc c t).fetchCheck c
    | .seq =>
      let (t, k) := loopTests pc (s.core c)
      ((s.coreUpd c (fun _ => k)).setPc c t).fetchCheck c
    | .skip t =>
      let (u, k) := loopTests pc (s.core c)
      ((s.coreUpd c (fun _ => k)).setPc c (if u = pc + 1 then t else u)).fetchCheck c

/-- What an instruction does: its register writes, where the bundle goes on, and its effect on the module. -/
abbrev Effect := Regs → State → List Wr × Flow × State

/-- An instruction in a slot of a core (R241, R249, R280): it reads the registers as the bundle began; slot S opens the
bundle and slot M completes it; of two writes to one register the later to complete stands. `lat` is the latency of R277. -/
def State.slot (s : State) (c : Nat) (sl : Slot) (pr : Pred) (lat : Nat) (eff : Effect) : State :=
  match sl with
  | .s =>
    let s := s.endBundle c
    let src := (s.core c).regs
    let (ws, fl, s) := if predHolds src pr then eff src s else ([], .seq, s)
    s.coreUpd c (fun k => { k with regs := applyAll ws k.regs, half := some ⟨src, ws, lat, fl⟩ })
  | .m =>
    let h := (s.core c).half.getD ⟨(s.core c).regs, [], 0, .seq⟩
    let (ws, _, s) := if predHolds h.src pr then eff h.src s else ([], .seq, s)
    let ws := ws.filter (fun w => !(Nat.blt lat h.lat && h.writes.any (sameReg w)))
    (s.coreUpd c (fun k => { k with regs := applyAll ws k.regs, half := some h })).endBundle c

/-- An instruction that only computes register values. -/
def pureOp (f : Regs → List Wr) : Effect := fun r s => (f r, .seq, s)

end Sys2Proof.Machine
end

