-- ==== Sys2Proof/Machine/Alu.lean ====
section
/-! DEFINITION. The Acson instructions that compute in a core's registers (R253 to R262). Each reads the registers as its
bundle began. -/

namespace Sys2Proof.Machine

/-- An instruction of core c, which the variant must have (R217). -/
def State.acson (s : State) (c : Nat) (sl : Slot) (pr : Pred) (lat : Nat) (eff : Effect) : Result :=
  s.runIf (decide (c < s.cores)) fun s => s.slot c sl pr lat eff

/-- ADD (R253): d = a + b, modulo 2^32. -/
def execAdd (c : Nat) (sl : Slot) (pr : Pred) (d : D) (a : D) (b : D) (s : State) : Result :=
  s.acson c sl pr 1 (pureOp fun r => [.d d (r.dv a + r.dv b)])

/-- SUB (R253): d = a - b, modulo 2^32. -/
def execSub (c : Nat) (sl : Slot) (pr : Pred) (d : D) (a : D) (b : D) (s : State) : Result :=
  s.acson c sl pr 1 (pureOp fun r => [.d d (r.dv a - r.dv b)])

/-- AND (R253): bitwise AND. -/
def execAnd (c : Nat) (sl : Slot) (pr : Pred) (d : D) (a : D) (b : D) (s : State) : Result :=
  s.acson c sl pr 1 (pureOp fun r => [.d d (r.dv a &&& r.dv b)])

/-- OR (R253): bitwise OR. -/
def execOr (c : Nat) (sl : Slot) (pr : Pred) (d : D) (a : D) (b : D) (s : State) : Result :=
  s.acson c sl pr 1 (pureOp fun r => [.d d (r.dv a ||| r.dv b)])

/-- XOR (R253): bitwise XOR. -/
def execXor (c : Nat) (sl : Slot) (pr : Pred) (d : D) (a : D) (b : D) (s : State) : Result :=
  s.acson c sl pr 1 (pureOp fun r => [.d d (r.dv a ^^^ r.dv b)])

/-- ANDN (R253): a AND NOT b. -/
def execAndn (c : Nat) (sl : Slot) (pr : Pred) (d : D) (a : D) (b : D) (s : State) : Result :=
  s.acson c sl pr 1 (pureOp fun r => [.d d (r.dv a &&& ~~~(r.dv b))])

/-- SHL (R253): logical left shift by b [4:0]. -/
def execShl (c : Nat) (sl : Slot) (pr : Pred) (d : D) (a : D) (b : D) (s : State) : Result :=
  s.acson c sl pr 1 (pureOp fun r => [.d d (r.dv a <<< ((r.dv b).toNat % 32))])

/-- SHR (R253): logical right shift by b [4:0]. -/
def execShr (c : Nat) (sl : Slot) (pr : Pred) (d : D) (a : D) (b : D) (s : State) : Result :=
  s.acson c sl pr 1 (pureOp fun r => [.d d (r.dv a >>> ((r.dv b).toNat % 32))])

/-- SAR (R253): arithmetic right shift by b [4:0]. -/
def execSar (c : Nat) (sl : Slot) (pr : Pred) (d : D) (a : D) (b : D) (s : State) : Result :=
  s.acson c sl pr 1 (pureOp fun r => [.d d ((r.dv a).sshiftRight ((r.dv b).toNat % 32))])

/-- MIN (R253): signed minimum. -/
def execMin (c : Nat) (sl : Slot) (pr : Pred) (d : D) (a : D) (b : D) (s : State) : Result :=
  s.acson c sl pr 1 (pureOp fun r => [.d d (if (r.dv a).toInt ≤ (r.dv b).toInt then r.dv a else r.dv b)])

/-- MAX (R253): signed maximum. -/
def execMax (c : Nat) (sl : Slot) (pr : Pred) (d : D) (a : D) (b : D) (s : State) : Result :=
  s.acson c sl pr 1 (pureOp fun r => [.d d (if (r.dv a).toInt ≤ (r.dv b).toInt then r.dv b else r.dv a)])

/-- MINU (R253): unsigned minimum. -/
def execMinu (c : Nat) (sl : Slot) (pr : Pred) (d : D) (a : D) (b : D) (s : State) : Result :=
  s.acson c sl pr 1 (pureOp fun r => [.d d (if (r.dv a).toNat ≤ (r.dv b).toNat then r.dv a else r.dv b)])

/-- MAXU (R253): unsigned maximum. -/
def execMaxu (c : Nat) (sl : Slot) (pr : Pred) (d : D) (a : D) (b : D) (s : State) : Result :=
  s.acson c sl pr 1 (pureOp fun r => [.d d (if (r.dv a).toNat ≤ (r.dv b).toNat then r.dv b else r.dv a)])

/-- ADDI (R254): a plus the sign-extended immediate. -/
def execAddi (c : Nat) (sl : Slot) (pr : Pred) (d : D) (a : D) (imm : BitVec 12) (s : State) : Result :=
  s.acson c sl pr 1 (pureOp fun r => [.d d (r.dv a + imm.signExtend 32)])

/-- ANDI (R254): a AND the zero-extended immediate. -/
def execAndi (c : Nat) (pr : Pred) (d : D) (a : D) (imm : BitVec 12) (s : State) : Result :=
  s.acson c .s pr 1 (pureOp fun r => [.d d (r.dv a &&& imm.setWidth 32)])

/-- ORI (R254): a OR the zero-extended immediate. -/
def execOri (c : Nat) (pr : Pred) (d : D) (a : D) (imm : BitVec 12) (s : State) : Result :=
  s.acson c .s pr 1 (pureOp fun r => [.d d (r.dv a ||| imm.setWidth 32)])

/-- XORI (R254): a XOR the zero-extended immediate. -/
def execXori (c : Nat) (pr : Pred) (d : D) (a : D) (imm : BitVec 12) (s : State) : Result :=
  s.acson c .s pr 1 (pureOp fun r => [.d d (r.dv a ^^^ imm.setWidth 32)])

/-- SHLI (R254): logical left shift by n. -/
def execShli (c : Nat) (sl : Slot) (pr : Pred) (d : D) (a : D) (n : Fin 32) (s : State) : Result :=
  s.acson c sl pr 1 (pureOp fun r => [.d d (r.dv a <<< n.val)])

/-- SHRI (R254): logical right shift by n. -/
def execShri (c : Nat) (sl : Slot) (pr : Pred) (d : D) (a : D) (n : Fin 32) (s : State) : Result :=
  s.acson c sl pr 1 (pureOp fun r => [.d d (r.dv a >>> n.val)])

/-- SARI (R254): arithmetic right shift by n. -/
def execSari (c : Nat) (sl : Slot) (pr : Pred) (d : D) (a : D) (n : Fin 32) (s : State) : Result :=
  s.acson c sl pr 1 (pureOp fun r => [.d d ((r.dv a).sshiftRight n.val)])

/-- MOVI (R254): the sign-extended 17-bit immediate. -/
def execMovi (c : Nat) (sl : Slot) (pr : Pred) (d : D) (imm : BitVec 17) (s : State) : Result :=
  s.acson c sl pr 1 (pureOp fun _ => [.d d (imm.signExtend 32)])

/-- MOVHI (R254): the upper half of d. -/
def execMovhi (c : Nat) (pr : Pred) (d : D) (imm : BitVec 16) (s : State) : Result :=
  s.acson c .s pr 1 (pureOp fun r => [.d d (imm ++ (r.dv d).extractLsb' 0 16)])

/-- PADD (R254): an address register plus the sign-extended immediate. -/
def execPadd (c : Nat) (pr : Pred) (d : P) (a : P) (imm : BitVec 12) (s : State) : Result :=
  s.acson c .s pr 1 (pureOp fun r => [.p d (r.pv a + imm.signExtend 32)])

/-- MOV_D_D (R255): copy. -/
def execMovDD (c : Nat) (pr : Pred) (d : D) (a : D) (s : State) : Result :=
  s.acson c .s pr 1 (pureOp fun r => [.d d (r.dv a)])

/-- MOV_D_P (R255): copy an address register. -/
def execMovDP (c : Nat) (pr : Pred) (d : D) (a : P) (s : State) : Result :=
  s.acson c .s pr 1 (pureOp fun r => [.d d (r.pv a)])

/-- MOV_P_D (R255): copy to an address register. -/
def execMovPD (c : Nat) (pr : Pred) (d : P) (a : D) (s : State) : Result :=
  s.acson c .s pr 1 (pureOp fun r => [.p d (r.dv a)])

/-- MOV_D_LC (R255): read a loop counter. -/
def execMovDLc (c : Nat) (pr : Pred) (d : D) (a : Fin 2) (s : State) : Result :=
  s.acson c .s pr 1 (pureOp fun r => [.d d (BitVec.ofNat 32 (r.lv a))])

/-- MOV_D_SF (R255): read sf. -/
def execMovDSf (c : Nat) (pr : Pred) (d : D) (s : State) : Result :=
  s.acson c .s pr 1 (pureOp fun r => [.d d (BitVec.ofNat 32 r.sf)])

/-- CLR_SF (R255): clear sf. -/
def execClrSf (c : Nat) (pr : Pred) (s : State) : Result :=
  s.acson c .s pr 1 (pureOp fun _ => [.clrSf])

/-- MOV_D_F (R255): read the predicates. -/
def execMovDF (c : Nat) (pr : Pred) (d : D) (s : State) : Result :=
  s.acson c .s pr 1 (pureOp fun r => [.d d (BitVec.ofNat 32 (ofBits r.f))])

/-- MOV_F_D (R255): set the predicates from a [3:0]. -/
def execMovFD (c : Nat) (pr : Pred) (a : D) (s : State) : Result :=
  s.acson c .s pr 2 (pureOp fun r => (List.range 4).map (fun i => .f i ((r.dv a).getLsbD i)))

/-- CMP (R256): f = a cc b. -/
def execCmp (c : Nat) (pr : Pred) (cc : Cc) (f : Q) (a : D) (b : D) (s : State) : Result :=
  s.acson c .s pr 2 (pureOp fun r => [.f f (ccHolds cc (r.dv a) (r.dv b))])

/-- CMPI (R256): f = a cc the sign-extended immediate. -/
def execCmpi (c : Nat) (pr : Pred) (cc : Cc) (f : Q) (a : D) (imm : BitVec 12) (s : State) : Result :=
  s.acson c .s pr 2 (pureOp fun r => [.f f (ccHolds cc (r.dv a) (imm.signExtend 32))])

/-- PAND (R256): predicate AND. -/
def execPand (c : Nat) (pr : Pred) (d : Q) (a : Q) (b : Q) (s : State) : Result :=
  s.acson c .s pr 2 (pureOp fun r => [.f d (r.fv a && r.fv b)])

/-- POR (R256): predicate OR. -/
def execPor (c : Nat) (pr : Pred) (d : Q) (a : Q) (b : Q) (s : State) : Result :=
  s.acson c .s pr 2 (pureOp fun r => [.f d (r.fv a || r.fv b)])

/-- PXOR (R256): predicate XOR. -/
def execPxor (c : Nat) (pr : Pred) (d : Q) (a : Q) (b : Q) (s : State) : Result :=
  s.acson c .s pr 2 (pureOp fun r => [.f d (r.fv a != r.fv b)])

/-- PANDN (R256): predicate AND NOT. -/
def execPandn (c : Nat) (pr : Pred) (d : Q) (a : Q) (b : Q) (s : State) : Result :=
  s.acson c .s pr 2 (pureOp fun r => [.f d (r.fv a && !r.fv b)])

/-- PNOT (R256): predicate NOT. -/
def execPnot (c : Nat) (pr : Pred) (d : Q) (a : Q) (s : State) : Result :=
  s.acson c .s pr 2 (pureOp fun r => [.f d (!r.fv a)])

/-- PCLR (R256): clear a predicate. -/
def execPclr (c : Nat) (pr : Pred) (d : Q) (s : State) : Result :=
  s.acson c .s pr 2 (pureOp fun _ => [.f d false])

/-- PSET (R256): set a predicate. -/
def execPset (c : Nat) (pr : Pred) (d : Q) (s : State) : Result :=
  s.acson c .s pr 2 (pureOp fun _ => [.f d true])

/-- SEL (R256): select by a predicate. -/
def execSel (c : Nat) (sl : Slot) (pr : Pred) (d : D) (f : Q) (a : D) (b : D) (s : State) : Result :=
  s.acson c sl pr 1 (pureOp fun r => [.d d (if r.fv f then r.dv a else r.dv b)])

/-- MUL_Q31 (R258): q31 times q31. -/
def execMulQ31 (c : Nat) (pr : Pred) (d : D) (a : D) (b : D) (s : State) : Result :=
  s.acson c .m pr 3 (pureOp fun r => let v := mulQ31 (r.dv a) (r.dv b); [.d d v.1, .sf v.2])

/-- MUL_Q30 (R258): q31 sample times q30 gain. -/
def execMulQ30 (c : Nat) (pr : Pred) (d : D) (a : D) (b : D) (s : State) : Result :=
  s.acson c .m pr 3 (pureOp fun r => let v := mulQ30 (r.dv a) (r.dv b); [.d d v.1, .sf v.2])

/-- MUL_I (R258): low 32 bits of the product. -/
def execMulI (c : Nat) (pr : Pred) (d : D) (a : D) (b : D) (s : State) : Result :=
  s.acson c .m pr 3 (pureOp fun r => [.d d (r.dv a * r.dv b)])

/-- MULH_I (R258): high 32 bits of the signed product. -/
def execMulhI (c : Nat) (pr : Pred) (d : D) (a : D) (b : D) (s : State) : Result :=
  s.acson c .m pr 3 (pureOp fun r => [.d d (wordOf (((r.dv a).toInt * (r.dv b).toInt).fdiv (2 ^ 32)))])

/-- MPY_Q31 (R259): acc = 2ab. -/
def execMpyQ31 (c : Nat) (pr : Pred) (d : Q) (a : D) (b : D) (s : State) : Result :=
  s.acson c .m pr 3 (pureOp fun r => let v := sat72 (2 * (r.dv a).toInt * (r.dv b).toInt); [.acc d v.1, .sf v.2])

/-- MAC_Q31 (R259): acc + 2ab. -/
def execMacQ31 (c : Nat) (pr : Pred) (d : Q) (a : D) (b : D) (s : State) : Result :=
  s.acson c .m pr 3 (pureOp fun r => let v := sat72 ((r.av d).toInt + 2 * (r.dv a).toInt * (r.dv b).toInt); [.acc d v.1, .sf v.2])

/-- MSU_Q31 (R259): acc - 2ab. -/
def execMsuQ31 (c : Nat) (pr : Pred) (d : Q) (a : D) (b : D) (s : State) : Result :=
  s.acson c .m pr 3 (pureOp fun r => let v := sat72 ((r.av d).toInt - 2 * (r.dv a).toInt * (r.dv b).toInt); [.acc d v.1, .sf v.2])

/-- MPY_Q30 (R259): acc = 4ab. -/
def execMpyQ30 (c : Nat) (pr : Pred) (d : Q) (a : D) (b : D) (s : State) : Result :=
  s.acson c .m pr 3 (pureOp fun r => let v := sat72 (4 * (r.dv a).toInt * (r.dv b).toInt); [.acc d v.1, .sf v.2])

/-- MAC_Q30 (R259): acc + 4ab. -/
def execMacQ30 (c : Nat) (pr : Pred) (d : Q) (a : D) (b : D) (s : State) : Result :=
  s.acson c .m pr 3 (pureOp fun r => let v := sat72 ((r.av d).toInt + 4 * (r.dv a).toInt * (r.dv b).toInt); [.acc d v.1, .sf v.2])

/-- MSU_Q30 (R259): acc - 4ab. -/
def execMsuQ30 (c : Nat) (pr : Pred) (d : Q) (a : D) (b : D) (s : State) : Result :=
  s.acson c .m pr 3 (pureOp fun r => let v := sat72 ((r.av d).toInt - 4 * (r.dv a).toInt * (r.dv b).toInt); [.acc d v.1, .sf v.2])

/-- ACC_CLR (R260): clear an accumulator. -/
def execAccClr (c : Nat) (pr : Pred) (d : Q) (s : State) : Result :=
  s.acson c .m pr 2 (pureOp fun _ => [.acc d 0])

/-- ACC_LD_Q31 (R260): load a q31 value. -/
def execAccLdQ31 (c : Nat) (pr : Pred) (d : Q) (a : D) (s : State) : Result :=
  s.acson c .m pr 2 (pureOp fun r => [.acc d (BitVec.ofInt 72 ((r.dv a).toInt * 2 ^ 32))])

/-- ACC_LDW (R260): load the 64-bit value with a in its upper word. -/
def execAccLdw (c : Nat) (pr : Pred) (d : Q) (a : D) (b : D) (s : State) : Result :=
  s.acson c .m pr 2 (pureOp fun r => [.acc d ((r.dv a ++ r.dv b).signExtend 72)])

/-- ACC_ADD (R260): add accumulators. -/
def execAccAdd (c : Nat) (pr : Pred) (d : Q) (a : Q) (s : State) : Result :=
  s.acson c .m pr 2 (pureOp fun r => let v := sat72 ((r.av d).toInt + (r.av a).toInt); [.acc d v.1, .sf v.2])

/-- ACC_SUB (R260): subtract accumulators. -/
def execAccSub (c : Nat) (pr : Pred) (d : Q) (a : Q) (s : State) : Result :=
  s.acson c .m pr 2 (pureOp fun r => let v := sat72 ((r.av d).toInt - (r.av a).toInt); [.acc d v.1, .sf v.2])

/-- ACC_SHR (R260): round right by n bits. -/
def execAccShr (c : Nat) (pr : Pred) (d : Q) (n : Fin 32) (s : State) : Result :=
  s.acson c .m pr 2 (pureOp fun r => [.acc d (BitVec.ofInt 72 (rnd (r.av d).toInt n.val))])

/-- ACC_RD_Q31 (R260): read as saturated q31 with n bits of gain. -/
def execAccRdQ31 (c : Nat) (pr : Pred) (d : D) (a : Q) (n : Fin 8) (s : State) : Result :=
  s.acson c .m pr 2 (pureOp fun r => let v := accRead (r.av a) n.val; [.d d v.1, .sf v.2])

/-- ACC_RD_HI (R260): bits [63:32] saturated to 64 bits. -/
def execAccRdHi (c : Nat) (pr : Pred) (d : D) (a : Q) (s : State) : Result :=
  s.acson c .m pr 2 (pureOp fun r => let v := sat64 (r.av a).toInt; [.d d (v.1.extractLsb' 32 32), .sf v.2])

/-- ACC_RD_LO (R260): bits [31:0] saturated to 64 bits. -/
def execAccRdLo (c : Nat) (pr : Pred) (d : D) (a : Q) (s : State) : Result :=
  s.acson c .m pr 2 (pureOp fun r => let v := sat64 (r.av a).toInt; [.d d (v.1.extractLsb' 0 32), .sf v.2])

/-- ADD_S (R257): saturating add. -/
def execAddS (c : Nat) (pr : Pred) (d : D) (a : D) (b : D) (s : State) : Result :=
  s.acson c .m pr 2 (pureOp fun r => let v := sat31 ((r.dv a).toInt + (r.dv b).toInt); [.d d v.1, .sf v.2])

/-- SUB_S (R257): saturating subtract. -/
def execSubS (c : Nat) (pr : Pred) (d : D) (a : D) (b : D) (s : State) : Result :=
  s.acson c .m pr 2 (pureOp fun r => let v := sat31 ((r.dv a).toInt - (r.dv b).toInt); [.d d v.1, .sf v.2])

/-- NEG_S (R257): saturating negate. -/
def execNegS (c : Nat) (pr : Pred) (d : D) (a : D) (s : State) : Result :=
  s.acson c .m pr 2 (pureOp fun r => let v := sat31 (-(r.dv a).toInt); [.d d v.1, .sf v.2])

/-- ABS_S (R257): saturating absolute value. -/
def execAbsS (c : Nat) (pr : Pred) (d : D) (a : D) (s : State) : Result :=
  s.acson c .m pr 2 (pureOp fun r => let v := sat31 ((r.dv a).toInt.natAbs : Int); [.d d v.1, .sf v.2])

/-- SHL_S (R257): saturating left shift by n. -/
def execShlS (c : Nat) (pr : Pred) (d : D) (a : D) (n : Fin 32) (s : State) : Result :=
  s.acson c .m pr 2 (pureOp fun r => let v := sat31 ((r.dv a).toInt * (2 ^ n.val : Nat)); [.d d v.1, .sf v.2])

/-- ADD2_S (R261): two saturating q15 adds. -/
def execAdd2S (c : Nat) (pr : Pred) (d : D) (a : D) (b : D) (s : State) : Result :=
  s.acson c .m pr 2 (pureOp fun r => let v := simd (fun x y => x + y) (r.dv a) (r.dv b); [.d d v.1, .sf v.2])

/-- SUB2_S (R261): two saturating q15 subtracts. -/
def execSub2S (c : Nat) (pr : Pred) (d : D) (a : D) (b : D) (s : State) : Result :=
  s.acson c .m pr 2 (pureOp fun r => let v := simd (fun x y => x - y) (r.dv a) (r.dv b); [.d d v.1, .sf v.2])

/-- MUL2_Q15 (R261): two q15 multiplies. -/
def execMul2Q15 (c : Nat) (pr : Pred) (d : D) (a : D) (b : D) (s : State) : Result :=
  s.acson c .m pr 2 (pureOp fun r => let v := simd (fun x y => rnd (x * y) 15) (r.dv a) (r.dv b); [.d d v.1, .sf v.2])

/-- MAX2 (R261): two signed maxima. -/
def execMax2 (c : Nat) (pr : Pred) (d : D) (a : D) (b : D) (s : State) : Result :=
  s.acson c .m pr 2 (pureOp fun r => let v := simd max (r.dv a) (r.dv b); [.d d v.1, .sf v.2])

/-- MIN2 (R261): two signed minima. -/
def execMin2 (c : Nat) (pr : Pred) (d : D) (a : D) (b : D) (s : State) : Result :=
  s.acson c .m pr 2 (pureOp fun r => let v := simd min (r.dv a) (r.dv b); [.d d v.1, .sf v.2])

/-- ABS2_S (R261): two saturating absolute values. -/
def execAbs2S (c : Nat) (pr : Pred) (d : D) (a : D) (s : State) : Result :=
  s.acson c .m pr 2 (pureOp fun r => let v := simd (fun x _ => (x.natAbs : Int)) (r.dv a) (r.dv a); [.d d v.1, .sf v.2])

/-- PACK_HH (R261): pack the high halves. -/
def execPackHh (c : Nat) (pr : Pred) (d : D) (a : D) (b : D) (s : State) : Result :=
  s.acson c .m pr 2 (pureOp fun r => [.d d (hiHalf (r.dv a) ++ hiHalf (r.dv b))])

/-- UNPK_HI (R261): the high half as q31. -/
def execUnpkHi (c : Nat) (pr : Pred) (d : D) (a : D) (s : State) : Result :=
  s.acson c .m pr 2 (pureOp fun r => [.d d (hiHalf (r.dv a) ++ 0#16)])

/-- UNPK_LO (R261): the low half as q31. -/
def execUnpkLo (c : Nat) (pr : Pred) (d : D) (a : D) (s : State) : Result :=
  s.acson c .m pr 2 (pureOp fun r => [.d d (loHalf (r.dv a) ++ 0#16)])

end Sys2Proof.Machine
end

