-- ==== Sys2Proof/Machine/AcsonMem.lean ====
section
/-! DEFINITION. The Acson instructions that reach memories, tables, control blocks and queues, and sine and cosine
(R262 to R272). With no EF under computation only data memory is reached (R281). -/

namespace Sys2Proof.Machine

/-! ### Sine and cosine (R262) -/

/-- Binary places of the series. -/
def trigPlaces : Nat := 128

/-- π/2 in units of 2^-128, to 38 digits. -/
def halfPi : Nat := 534514292032483373929840186580935391650

/-- The alternating series x − x³/3! + … of a number in units of 2^-128, from term n on; `t` is the term before. -/
def sinSeries (x2 : Int) : Nat → Int → Int → Int → Int
  | 0, _, _, acc => acc
  | k + 1, n, t, acc =>
    let t' := -(t * x2 / (2 : Int) ^ trigPlaces) / ((n + 1) * (n + 2))
    sinSeries x2 k (n + 2) t' (acc + t')

/-- The sine of a phase rounded to q31, 2^32 being a full turn. -/
def sinExact (ph : Nat) : Int :=
  let quad := ph / 2 ^ 30 % 4
  let r := ph % 2 ^ 30
  let r := if quad % 2 = 1 then 2 ^ 30 - r else r
  let x : Int := (r * halfPi / 2 ^ 30 : Nat)
  let v := sinSeries (x * x / (2 : Int) ^ trigPlaces) 24 1 x x
  let q := rnd v (trigPlaces - 31)
  if 2 ≤ quad then -q else q

/-- A sine or cosine as a core returns it: within 16 LSB of the exact value, clipped to ±(2^31 − 1). -/
def trig (cos : Bool) (w : Word) : Word :=
  let ph := if cos then (w.toNat + 2 ^ 30) % 2 ^ 32 else w.toNat
  wordOf (clampI (-2147483647) 2147483647 (sinExact ph + ((Config.trigErr cos w % 33 : Nat) : Int) - 16))

/-- SIN_Q31 (R262). -/
def execSinQ31 (c : Nat) (pr : Pred) (d : D) (a : D) (s : State) : Result :=
  s.acson c .m pr 4 (pureOp fun r => [.d d (trig false (r.dv a))])

/-- COS_Q31 (R262). -/
def execCosQ31 (c : Nat) (pr : Pred) (d : D) (a : D) (s : State) : Result :=
  s.acson c .m pr 4 (pureOp fun r => [.d d (trig true (r.dv a))])

/-! ### Data memory (R263, R276) -/

/-- The address of a load or store: the base and offset, or in post-modify mode the base. -/
def memAddr (r : Regs) (post : Bool) (b : P) (off : BitVec 12) : Nat :=
  lowAddr (if post then r.pv b else r.pv b + off.signExtend 32)

/-- The base register's update in post-modify mode, whether or not the access passes its check. -/
def postWr (r : Regs) (post : Bool) (b : P) (off : BitVec 12) : List Wr :=
  if post then [.p b (r.pv b + off.signExtend 32)] else []

/-- A load of n bytes: zero where the check fails or the word cannot be corrected, and free where it is not valid (R267);
`fit` is the word that 8n bits load as. (DESIGN CHOICE, notes/assumptions/1.md.) -/
def loadEff (c n : Nat) (post : Bool) (d : D) (b : P) (off : BitVec 12) (ecc : Ecc) (get : State → Nat → Word)
    (fit : Nat → Word) : Effect :=
  fun r s =>
    let a := memAddr r post b off
    if s.dataOk c a n then
      if ecc = .double then (.d d 0 :: postWr r post b off, .seq, s.eccCheck c ecc)
      else if s.awaited c a n then (.d d (fit (s.free (8 * n)).1) :: postWr r post b off, .seq, (s.free (8 * n)).2.eccCheck c ecc)
      else (.d d (get s (coreAdr c a)) :: postWr r post b off, .seq, s.eccCheck c ecc)
    else (.d d 0 :: .sf sfTrap :: postWr r post b off, .seq, s.trap c)

/-- A store of n bytes. -/
def storeEff (c n : Nat) (post : Bool) (d : D) (b : P) (off : BitVec 12) (ecc : Ecc) (put : State → Nat → Word → State) :
    Effect :=
  fun r s =>
    let a := memAddr r post b off
    if s.dataOk c a n then
      let s := s.eccCheck c ecc
      (postWr r post b off, .seq, if ecc = .double then s else put s (coreAdr c a) (r.dv d))
    else (.sf sfTrap :: postWr r post b off, .seq, s.trap c)

/-- LD_W (R263). -/
def execLdW (c : Nat) (pr : Pred) (post : Bool) (d : D) (b : P) (off : BitVec 12) (ecc : Ecc) (s : State) : Result :=
  s.acson c .s pr 3 (loadEff c 4 post d b off ecc State.memWord (BitVec.ofNat 32))

/-- ST_W (R263). -/
def execStW (c : Nat) (pr : Pred) (post : Bool) (d : D) (b : P) (off : BitVec 12) (ecc : Ecc) (s : State) : Result :=
  s.acson c .s pr 1 (storeEff c 4 post d b off ecc State.putMemWord)

/-- LD_H (R263). -/
def execLdH (c : Nat) (pr : Pred) (post : Bool) (d : D) (b : P) (off : BitVec 12) (ecc : Ecc) (s : State) : Result :=
  s.acson c .s pr 3 (loadEff c 2 post d b off ecc (fun s a => (s.memHalf a).signExtend 32)
    (fun v => (BitVec.ofNat 16 v).signExtend 32))

/-- ST_H (R263). -/
def execStH (c : Nat) (pr : Pred) (post : Bool) (d : D) (b : P) (off : BitVec 12) (ecc : Ecc) (s : State) : Result :=
  s.acson c .s pr 1 (storeEff c 2 post d b off ecc (fun s a w => s.putMemHalf a (w.extractLsb' 0 16)))

/-! ### Bus memory (R265) -/

/-- The cursor's update. -/
def State.curWr (s : State) (r : Regs) (b : P) (mode : Q) : List Wr :=
  if mode.val = 0 then [] else [.p b (s.curStep (r.pv b) mode.val)]

/-- BUS_LD (R265): sample K of EF e − REL. -/
def execBusLd (c : Nat) (pr : Pred) (d : D) (b : P) (mode : Q) (rel : Fin 3) (s : State) : Result :=
  s.acson c .s pr 9 fun r s =>
    let w := r.pv b
    let cur := s.curWr r b mode
    if !s.computing c then (.d d 0 :: cur, .seq, s)
    else if s.cursorOk w then
      (.d d (s.sample (curSlot w) (((s.curEf : Int) - rel.val) * s.efLen + curK w)) :: cur, .seq, s)
    else (.d d 0 :: .sf sfTrap :: cur, .seq, s.trap c)

/-- BUS_ST (R265): sample K of EF e. -/
def execBusSt (c : Nat) (pr : Pred) (d : D) (b : P) (mode : Q) (s : State) : Result :=
  s.acson c .s pr 1 fun r s =>
    let w := r.pv b
    let cur := s.curWr r b mode
    if !s.computing c then (cur, .seq, s)
    else if s.cursorOk w && s.inOut c (curSlot w) then
      (cur, .seq, s.putSample (curSlot w) (s.curEf * s.efLen + curK w : Nat) (r.dv d))
    else (.sf sfTrap :: cur, .seq, s.trap c)

/-! ### Delay lines (R266, R267) -/

/-- The longest delay in samples, 2.0 s. -/
def State.maxDelay (s : State) : Nat := 2 * s.fs

/-- A delay N of a line that dly.rd takes (R266, R276). -/
def State.delayOk (s : State) (line : Nat) (n : Int) : Bool :=
  s.lineOn line && decide (0 ≤ n) && decide (n + s.efLen ≤ (s.fld (F.TBL_DLINE_W1_LEN line) : Int)) && decide (n ≤ (s.maxDelay : Int))

/-- DLY_RD (R266). -/
def execDlyRd (c : Nat) (pr : Pred) (b : P) (line n : D) (s : State) : Result :=
  s.acson c .s pr 1 fun r s =>
    let a := lowAddr (r.pv b)
    let k := (r.dv line).toNat
    if !s.computing c then ([], .seq, s)
    else if s.delayOk k (r.dv n).toInt && a % 4 == 0 && s.inScratch c a (4 * s.efLen) then
      ([], .seq, s.xferIssue c ⟨k, s.curEf * s.efLen, a, true, [r.dv n]⟩)
    else ([.sf sfTrap], .seq, s.trap c)

/-- The line lies in the program's DLY range. -/
def State.inDly (s : State) (c k : Nat) : Bool :=
  match (s.core c).prog with
  | none => false
  | some m =>
    let a := s.place (F.ENG_DESC_W6_DLY_FIRST m)
    Nat.ble a k && Nat.blt k (a + s.place (F.ENG_DESC_W6_DLY_COUNT m))

/-- DLY_WR (R266): the words are taken at issue. -/
def execDlyWr (c : Nat) (pr : Pred) (b : P) (line : D) (s : State) : Result :=
  s.acson c .s pr 1 fun r s =>
    let a := lowAddr (r.pv b)
    let k := (r.dv line).toNat
    if !s.computing c then ([], .seq, s)
    else if s.inDly c k && s.blockOkAt c a s.efLen then
      let (ws, s) := takeWords c s.efLen a s
      ([], .seq, s.xferIssue c ⟨k, s.curEf * s.efLen, a, false, ws⟩)
    else ([.sf sfTrap], .seq, s.trap c)

/-- DLY_WAIT (R266): the core's transfers complete. -/
def execDlyWait (c : Nat) (pr : Pred) (s : State) : Result :=
  s.acson c .s pr 1 fun _ s => ([], .seq, s.xferAll c)

/-! ### Tables, control blocks and queues (R268 to R272) -/

/-- TBL_LD (R268). -/
def execTblLd (c : Nat) (pr : Pred) (d a : D) (s : State) : Result :=
  s.acson c .s pr 20 fun r s =>
    let w := (r.dv a).toNat
    if !s.computing c then ([.d d 0], .seq, s)
    else if w < 2 ^ 20 ∧ w % 4 = 0 then ([.d d (s.reg (0x100000 + w))], .seq, s)
    else ([.d d 0, .sf sfTrap], .seq, s.trap c)

/-- A control write's target, with its effect or staging; none where the check fails (R269, R276). -/
def State.ctlWrite (s : State) (c kind idx : Nat) (v : Word) : Option (Bool × State) :=
  let inRange := Nat.ble s.eng.xrange.1 idx && Nat.blt idx (s.eng.xrange.1 + s.eng.xrange.2)
  if kind = 1 then (if inRange then some (true, s.putReg (A.TBL_XP_W1 idx) v) else none)
  else if kind = 2 then (if inRange then some (true, s.set (F.TBL_XP_W2_RAMP_LEN idx) v.toNat) else none)
  else if kind = 3 then (if idx / 4 < s.limiters then some (s.stage (.lim (idx / 4) (idx % 4) v)) else none)
  else if kind = 4 then (if idx / 8 < s.lines then some (s.stage (.record (idx / 8) (idx % 8) v)) else none)
  else if kind = 6 ∧ idx = 0 then
    match (s.core c).prog with
    | none => none
    | some m => some (s.stage (.status m v))
  else none

/-- CTL_WR (R269). -/
def execCtlWr (c : Nat) (pr : Pred) (f : Q) (a v : D) (s : State) : Result :=
  s.acson c .s pr 4 fun r s =>
    let w := (r.dv a).toNat
    if !s.computing c then ([.f f false], .seq, s)
    else match s.ctlWrite c (w / 2 ^ 28) (w % 2 ^ 28) (r.dv v) with
      | none => ([.f f false, .sf sfTrap], .seq, s.trap c)
      | some (ok, s) => ([.f f ok], .seq, s)

/-- MSG_PUSH (R272): WORDS = 0 means 1,024, and 1 fails the check. -/
def execMsgPush (c : Nat) (pr : Pred) (f : Q) (b : P) (h : D) (words : Fin 1024) (s : State) : Result :=
  s.acson c .s pr 2 fun r s =>
    let n := if words.val = 0 then 1024 else words.val
    let a := lowAddr (r.pv b)
    let hv := (r.dv h).toNat
    if !s.computing c then ([.f f false], .seq, s)
    else if n ≠ 1 && s.blockOkAt c a n then
      let (ws, s) := takeWords c n a s
      let m : Msg :=
        { queue := hv / 2 ^ 30, prio := hv / 2 ^ 27 % 8, src := 1, core := c, desc := ((s.core c).prog).getD 0
          ef := s.curEf % 2 ^ 32, body := ws }
      let (ok, s) := s.stage (.msg m)
      ([.f f ok], .seq, s)
    else ([.f f false, .sf sfTrap], .seq, s.trap c)

/-! ### Transfers (R266, R315) -/

/-- DLY_TRANSFER_COMPLETE (R266): the core's oldest transfer completes; `corrected` counts corrected errors and `bad` names
the words of pairs with a double-bit error. -/
def State.dlyErrors (s : State) (corrected bad : Nat) : State :=
  let s := s.when (corrected != 0) (fun s => (s.bump A.XPT_CNT_DLY_ECC_CORR corrected).event F.XPT_EVT_DLY_ECC_CORR)
  s.when (bad != 0) (fun s => (s.bump A.XPT_CNT_DLY_ECC_UNC bad).event F.XPT_EVT_DLY_ECC_UNC)

/-- 16 uncorrectable errors within 60 s set FAULT.DLY and queue the delay memory's test (R529, R531). -/
def State.dlyFaultCheck (s : State) (bad : Nat) : State :=
  if bad = 0 then s
  else
    let errs := (s.test.dlyErrs ++ List.replicate bad s.time.up).filter (fun t => Nat.blt s.time.up (t + 60 * secU))
    let s := s.updTest (fun t => { t with dlyErrs := errs })
    s.when (Nat.ble 16 errs.length) (fun s =>
      (s.updTest (fun t => { t with dlyFault := true })).testQueue 6 4)

end Sys2Proof.Machine
end

