-- ==== Sys2Proof/Machine/AcsonFlow.lean ====
section
/-! DEFINITION. The Acson instructions that steer a program, and the words that do nothing (R250, R251, R273 to R275). -/

namespace Sys2Proof.Machine

/-- NOP (R250). -/
def execNop (c : Nat) (sl : Slot) (s : State) : Result :=
  s.acson c sl .always 1 (pureOp fun _ => [])

/-- UNDEFINED_WORD (R251): it executes as nop and counts as a failed access. (DEDUCED, notes/assumptions/53.md.) -/
def execUndefinedWord (c : Nat) (sl : Slot) (s : State) : Result :=
  s.acson c sl .always 1 fun _ s => ([.sf sfTrap], .seq, s.trap c)

/-- BR (R273, R276): a target outside the program's bundles is a failed check and is not taken. With no program on the core
every target is outside. -/
def execBr (c : Nat) (pr : Pred) (off : BitVec 13) (s : State) : Result :=
  s.acson c .s pr 1 fun _ s =>
    let t : Int := (s.core c).pc + off.toInt
    let ok := match (s.core c).prog with
      | none => false
      | some m =>
        let e := s.place (F.ENG_DESC_W2_ENTRY m)
        decide ((e : Int) ≤ t) && decide (t < (e + s.place (F.ENG_DESC_W2_IMEM_LEN m) : Nat))
    if ok then ([], .branch t.toNat, s) else ([.sf sfTrap], .seq, s.trap c)

/-- A loop starts: its counter and its body. Zero iterations go on after the body. -/
def loopEff (c : Nat) (n : Fin 2) (count : Nat) (body : Fin 256) : Effect := fun _ s =>
  let b := (s.core c).pc
  let s := s.coreUpd c (fun k => { k with loops := setAt k.loops n.val (b + 1, b + body.val) })
  ([.lc n.val count], if count = 0 then .skip (b + body.val + 1) else .seq, s)

/-- LOOP_I (R274): COUNT = 0 means 4,096; BODY = 0 is undefined (R251). -/
def execLoopI (c : Nat) (n : Fin 2) (count : Fin 4096) (body : Fin 256) (s : State) : Result :=
  if body.val = 0 then s.acson c .s .always 1 fun _ s => ([.sf sfTrap], .seq, s.trap c)
  else s.acson c .s .always 1 (loopEff c n (if count.val = 0 then 4096 else count.val) body)

/-- LOOP_R (R274): the count is the register taken as signed, at least 0 and at most MAX. -/
def execLoopR (c : Nat) (n : Fin 2) (a : D) (top : Fin 4096) (body : Fin 256) (s : State) : Result :=
  if body.val = 0 then s.acson c .s .always 1 fun _ s => ([.sf sfTrap], .seq, s.trap c)
  else s.acson c .s .always 1 fun r s =>
    let hi := if top.val = 0 then 4096 else top.val
    loopEff c n (min (r.dv a).toInt.toNat hi) body r s

/-- END_EF (R275). -/
def execEndEf (c : Nat) (pr : Pred) (s : State) : Result :=
  s.acson c .s pr 1 fun _ s => ([], .endEf, s)

/-- DLY_TRANSFER_COMPLETE (R266): core c's oldest transfer completes; `corrected` counts corrected errors and `bad` names
the words with a double-bit error in their pair (R315). -/
def execDlyTransferComplete (c corrected : Nat) (bad : List Nat) (dt : Nat) (s : State) : Result :=
  s.runIf (decide (c < s.cores)) fun s =>
    let s := s.advance dt
    if (s.core c).xfers.isEmpty then s
    else ((s.xferPop c bad).dlyErrors corrected bad.length).dlyFaultCheck bad.length

/-- DLY_FAULT_CLEAR (R531): 600 s have passed without an uncorrectable error. -/
def execDlyFaultClear (s : State) : Result := s.run fun s =>
  if s.test.dlyErrs.all (fun t => Nat.ble (t + 600 * secU) s.time.up) then
    s.updTest (fun t => { t with dlyFault := false })
  else s

end Sys2Proof.Machine
end

