-- ==== Sys2Proof/Machine/Clk.lean ====
section
/-! DEFINITION. References, the DPLL, holdover, the media chain's realign and its outputs (spec chapter 4). -/

namespace Sys2Proof.Machine

/-- The state of a reference. -/
def State.ref (s : State) (r : Nat) : Ref := getAt s.clk.refs r Ref.reset

/-- Update the state of a reference. -/
def State.refUpd (s : State) (r : Nat) (f : Ref → Ref) : State :=
  s.updClk (fun c => { c with refs := updAt c.refs r f })

/-- REF_INFO.FREQ as an integer, ppb (R131). -/
def State.refFreq (s : State) (r : Nat) : Int := sgn 20 (s.fld (F.CLK_REF_INFO_FREQ r))

/-- CLK.FCW as an integer, 10^-12 (R137). -/
def State.fcw (s : State) : Int := sgn 32 (s.rd A.CLK_FCW)

/-- REF_STATUS.STATE codes (R136). -/
def clkFree : Nat := 0
def clkAcq : Nat := 1
def clkLocked : Nat := 2
def clkHold : Nat := 3

/-- CLK takes a state; EVT.STATE_CHG sets on a change (R152). -/
def State.clkState (s : State) (st : Nat) : State :=
  if s.fld F.CLK_REF_STATUS_STATE = st then s
  else (s.set F.CLK_REF_STATUS_STATE st).event F.CLK_EVT_STATE_CHG

/-! ### Holdover (R140 to R142) -/

/-- History entry k, if valid (R140). -/
def State.hist (s : State) (k : Nat) : Option Int :=
  let w := s.rd (A.CLK_HIST k)
  if w = 0x80000000 then none else some (sgn 32 w)

/-- The window lengths W and H as clamped (R141). -/
def State.hoW (s : State) : Nat := clampN 10 1000 (s.fld F.CLK_HO_CFG_W)
def State.hoH (s : State) : Nat := min (min (s.fld F.CLK_HO_CFG_H) 990) (1000 - s.hoW)

/-- The holdover frequency and its source code, if R142 yields one. The mean is rounded to nearest. -/
def State.hoFreq (s : State) : Option (Int × Nat) :=
  let w := s.hoW
  let vs := (List.range w).filterMap (fun k => s.hist (s.hoH + k))
  if w ≤ 2 * vs.length then some (roundDiv vs.sum vs.length, 1)
  else (s.hist 0).map (fun v => (v, 2))

/-- The selected reference is lost and none replaces it (R136, R142): HOLDOVER, or FREE_RUN with FCW = 0. -/
def State.enterHoldover (s : State) : State :=
  let s := (s.set F.CLK_REF_STATUS_SEL 0).set F.CLK_REF_STATUS_BW 0
  let s := s.updClk (fun c => { c with awaitPhi := false })
  match s.hoFreq with
  | some (f, src) =>
    if s.fld F.CLK_REF_STATUS_STATE = clkHold then s
    else
      let s := (s.wr A.CLK_FCW (unsgn 32 f)).wr A.CLK_HO_STATUS src
      let s := ((s.clkState clkHold).event F.CLK_EVT_HOLDOVER).updClk (fun c => { c with hoFreq := some f })
      s.log 5 3 2 [src, unsgn 32 f]
  | none =>
    if s.fld F.CLK_REF_STATUS_STATE = clkHold then s
    else ((s.wr A.CLK_FCW 0).wr A.CLK_HO_STATUS 0).clkState clkFree

/-! ### Selection (R133) -/

/-- A splice member follows SPLICE only (R126). -/
def State.spliceMember (s : State) : Bool := s.on F.CLK_REF_STATUS_SPLICE_MEMBER

/-- How long the better-ranked qualified references have waited: the longest wait of one of rank best, in seconds. -/
def State.betterFor (s : State) (best : Nat) : Nat :=
  forN 7 (fun r w => if s.qualified r && s.rank r == best then max w ((s.time.up - (s.ref r).qualUp) / secU) else w) 0

/-- The lowest code of a qualified reference of the rank. -/
def State.lowestOf (s : State) (best : Nat) : Nat :=
  ((List.range 7).find? (fun r => s.qualified r && s.rank r == best && best != 0)).getD 0

/-- In AUTO, hardware writes SEL (R133); `waited` says that REVERT_S has passed. -/
def State.autoSel (s : State) (waited : Bool) : State :=
  if s.on F.CLK_REF_CTL_MODE || s.spliceMember then s
  else
    let best := s.bestRank
    let cur := s.refInUse
    let inCand := s.qualified cur && s.rank cur != 0
    let want :=
      if best = 0 then 0
      else if inCand && s.rank cur == best then cur
      else if inCand && !s.on F.CLK_REF_CTL_REVERT then cur
      else if inCand && !waited && Nat.blt (s.betterFor best) (s.fld F.CLK_REF_CTL_REVERT_S) then cur
      else s.lowestOf best
    s.keep F.CLK_REF_CTL_SEL want

/-- SEL names a reference the DPLL can take at the next boundary (R133, R134). -/
def State.selUsable (s : State) : Bool :=
  let sel := s.fld F.CLK_REF_CTL_SEL
  s.qualified sel && s.rank sel != 0

/-- The reference in use is lost (R134): the DPLL holds the holdover frequency at once; with another qualified reference
named by SEL the bridge to the next EF boundary is not reported. -/
def State.refInUseLost (s : State) : State :=
  let s := s.autoSel false
  if s.selUsable then
    match s.hoFreq with
    | some (f, _) => (s.wr A.CLK_FCW (unsgn 32 f)).updClk (fun c => { c with awaitPhi := false })
    | none => s.updClk (fun c => { c with awaitPhi := false })
  else s.enterHoldover

/-! ### Qualification (R127 to R130) -/

/-- A reference is disqualified (R128), with WHY and the port fades of R130. -/
def State.disqualify (s : State) (r why : Nat) : State :=
  let was := s.fld (F.CLK_REF_INFO_STATE r)
  let s := (s.set (F.CLK_REF_INFO_STATE r) 3).set (F.CLK_REF_INFO_WHY r) why
  let s := s.refUpd r (fun x => { x with since := none, tracking := false, glitchAt := none, missing := 0 })
  if was = 2 then
    let s := s.event F.CLK_EVT_REF_LOST
    let s := s.when (r == 5 && (why == 1 || why == 2 || why == 3)) (fun s =>
      s.tdmCauseMask (s.rd A.CLK_WCK_PORTS) causeWck true)
    if s.refInUse = r ∧ !s.spliceMember then s.refInUseLost else s.autoSel false
  else s

/-- A reference becomes valid: its qualification period starts (R128). -/
def State.refValid (s : State) (r : Nat) : State :=
  let st := s.fld (F.CLK_REF_INFO_STATE r)
  if st = 2 ∨ (s.ref r).since.isSome then s
  else (s.set (F.CLK_REF_INFO_STATE r) 1).refUpd r (fun x => { x with since := some s.time.up })

/-- The reference is no longer present. -/
def State.refAbsent (s : State) (r : Nat) : State :=
  if s.fld (F.CLK_REF_INFO_STATE r) = 1 then
    (s.set (F.CLK_REF_INFO_STATE r) 3).refUpd r (fun x => { x with since := none, tracking := false })
  else s

/-- The reference carries time (R125). -/
def State.carriesTime (s : State) (r : Nat) : Bool :=
  (Nat.ble 1 r && Nat.ble r 3) || (r == 4 && s.on F.CLK_TOD_CFG_TOD_EN) || r == 7

/-- A reference's phase as the time base will stand once the pending jumps are in (R145).
(DEDUCED, notes/assumptions/10.md.) -/
def State.phiNow (s : State) (r : Nat) : Int := (s.ref r).phase + s.time.jumps.sum

/-- The offset at qualification of a reference that carries time (R107): TIME.OFFSET, or the phase of the labelled edge. -/
def State.qualOffset (s : State) (r : Nat) : Int :=
  if Nat.ble 1 r && Nat.ble r 3 then
    let w := s.rd A.TIME_OFFSET
    if w = 0x80000000 then 0 else sgn 32 w * nsU
  else s.phiNow r

/-- The first qualification after RESET of a reference that carries time (R107, R463). -/
def State.firstQual (s : State) (r : Nat) : State :=
  if s.carriesTime r && !s.time.qualifiedOnce then
    let off := s.qualOffset r
    let s := (s.updTime (fun t => { t with qualifiedOnce := true })).jumpOffset off
    let src := if r = 4 then 3 else if r = 7 then 5 else 2
    let s := (s.set F.MGMT_RTC_STATUS_SRC src).updMgmt (fun m => { m with timeQuality := 0 })
    s.log 17 3 1 (src :: payload64 (toNs (-off)))
  else s

/-- A reference qualifies (R128). -/
def State.qualify (s : State) (r : Nat) : State :=
  if s.fld (F.CLK_REF_INFO_STATE r) = 2 ∨ (s.ref r).since.isNone ∨ s.on (F.CLK_REF_INFO_SUSPECT r) then s
  else
    let s := (s.set (F.CLK_REF_INFO_STATE r) 2).event F.CLK_EVT_REF_QUAL
    let s := s.refUpd r (fun x => { x with qualUp := s.time.up })
    let s := s.when (r == 5) (fun s => s.tdmCauseMask (s.rd A.CLK_WCK_PORTS) causeWck false)
    (s.firstQual r).autoSel false

/-! ### Edges (R129) -/

/-- Nominal edges a second of an edge reference (R125, R131). -/
def State.refHz (s : State) (r : Nat) : Nat :=
  let c := s.fld (F.CLK_REF_INFO_RATE r)
  if r = 4 then 1 else if r = 5 then rateHz c else getAt [1000000, 5000000, 10000000] c 1000000

/-- Expected time of edge k of a reference, and the part of a period named by a percentage. -/
def State.edgeAt (s : State) (r k : Nat) : Nat := (s.ref r).e0 + k * secU / s.refHz r
def State.edgePart (s : State) (r pct : Nat) : Nat := secU * pct / (100 * s.refHz r)

/-- The word clock's rate is of the other family than MEDIA_CFG.RATE (R127). -/
def State.wrongFamily (s : State) : Bool :=
  s.fld (F.CLK_REF_INFO_RATE 5) % 2 != s.fld F.CLK_MEDIA_CFG_RATE % 2

/-- Supervision starts at this edge. (DEDUCED, notes/assumptions/37.md.) -/
def State.edgeAnchor (s : State) (r : Nat) : State :=
  let s := s.refUpd r (fun x => { x with
    tracking := true, e0 := s.time.up, k := 0, glitchAt := none, missing := 0 })
  if r = 5 ∧ s.wrongFamily then (if s.fld (F.CLK_REF_INFO_STATE 5) = 3 then s else s.disqualify 5 4)
  else if s.on (F.CLK_REF_INFO_SUSPECT r) then s
  else s.refValid r

/-- A glitch period (R129): one in any 64 is tolerated. -/
def State.glitch (s : State) (r : Nat) : State :=
  let x := s.ref r
  let now := x.k + 1
  match x.glitchAt with
  | some g =>
    if g = now then s
    else if now < g + 64 then s.disqualify r 2
    else s.refUpd r (fun x => { x with glitchAt := some now })
  | none => s.refUpd r (fun x => { x with glitchAt := some now })

/-- No edge by e + 25 % of T (R129): one glitch period, and e advances; the second in a row is LOS. A period whose edge
came early is not missing. (DEDUCED, notes/assumptions/37.md.) -/
def State.missingEdge (s : State) (r : Nat) : State :=
  let x := s.ref r
  if !x.tracking then s
  else if x.glitchAt = some (x.k + 1) then s.refUpd r (fun x => { x with k := x.k + 1, missing := 0 })
  else if 1 ≤ x.missing then s.disqualify r 1
  else (s.glitch r).refUpd r (fun x => { x with k := x.k + 1, missing := x.missing + 1 })

/-- The measured period is within ±1,000 ppm of a rate. -/
def nearRate (period hz : Nat) : Bool :=
  Nat.ble (period * hz) (secU + secU / 1000) && Nat.ble (secU - secU / 1000) (period * hz)

/-- The rate code, other than the present one, that a period is near. -/
def State.rateSeen (s : State) (r period : Nat) : Option Nat :=
  let cur := s.fld (F.CLK_REF_INFO_RATE r)
  let hzs := if r = 5 then [44100, 48000, 88200, 96000, 176400, 192000]
    else if r = 6 then [1000000, 5000000, 10000000] else []
  (List.range hzs.length).find? (fun c => c != cur && nearRate period (getAt hzs c 1))

/-- Eight consecutive periods at another supported rate change the input's rate (R129). -/
def State.rateChange (s : State) (r period : Nat) : State :=
  match s.rateSeen r period with
  | none => s.refUpd r (fun x => { x with candN := 0 })
  | some c =>
    let x := s.ref r
    let n := if x.candRate = c ∧ 0 < x.candN then x.candN + 1 else 1
    let s := s.refUpd r (fun x => { x with candRate := c, candN := n })
    if 8 ≤ n then
      let s := (s.disqualify r 3).set (F.CLK_REF_INFO_RATE r) c
      let s := (s.event F.CLK_EVT_RATE_CHG).refUpd r (fun x => { x with candN := 0 })
      s.edgeAnchor r
    else s

/-- The phase measured at an edge (R145), where it needs no label. -/
def State.edgePhase (s : State) (r : Nat) : Int :=
  let hz := s.refHz r
  let m := roundDiv (s.time.tb * hz) secU
  (s.time.tb : Int) - m * secU / hz

/-- A PPS edge with TOD_EN = 1 needs a label (R127): two in a row without one invalidate the reference. -/
def State.ppsLabel (s : State) (first : Bool) : State :=
  if s.on F.CLK_TOD_CFG_TOD_EN then
    let x := s.ref 4
    let n := if x.labelled || (first && !s.on F.CLK_TOD_CFG_LABEL) then 0 else x.unlabelled + 1
    let s := s.refUpd 4 (fun x => { x with
      labelled := false, unlabelled := n
      phase := match x.label with
        | some l => if s.on F.CLK_TOD_CFG_LABEL then (s.time.tb : Int) - (l * secU : Nat) else x.phase
        | none => x.phase })
    s.when (decide (2 ≤ n)) (fun s => s.disqualify 4 9)
  else s.refUpd 4 (fun x => { x with phase := s.edgePhase 4 })

/-- An edge of PPS_IN, WCK_IN or FREF_IN (R129). -/
def State.refEdge (s : State) (r : Nat) : State :=
  if !s.clk.running then s
  else
    let late (s : State) : State :=
      s.when ((s.ref r).tracking && Nat.blt (s.edgeAt r ((s.ref r).k + 1) + s.edgePart r 25) s.time.up)
        (fun s => s.missingEdge r)
    let s := late (late s)
    let x := s.ref r
    let s :=
      if !x.tracking then s.edgeAnchor r
      else
        let e := s.edgeAt r (x.k + 1)
        let w := s.edgePart r 5
        if s.time.up + w < e then s.glitch r
        else if s.time.up ≤ e + w then s.refUpd r (fun x => { x with k := x.k + 1, missing := 0 })
        else (s.glitch r).refUpd r (fun x => { x with k := x.k + 1, missing := 0 })
    let s := match x.lastEdge with
      | none => s
      | some t => s.rateChange r (s.time.up - t)
    let s := if r = 4 then s.ppsLabel (x.lastEdge.isNone) else s.refUpd r (fun x => { x with phase := s.edgePhase r })
    s.refUpd r (fun x => { x with lastEdge := some s.time.up })

/-- A sentence with a valid checksum labels a PPS edge with a TAI second (R127, R132). -/
def State.todLabel (s : State) (tai : Nat) : State :=
  if s.on F.CLK_TOD_CFG_TOD_EN then
    let x := s.ref 4
    let ok := match x.label with | none => true | some l => l + 1 == tai
    let atEdge : Int := match x.lastEdge with
      | none => 0
      | some e => (s.time.tb : Int) - (s.time.up - e : Nat) - (tai * secU : Nat)
    s.refUpd 4 (fun x => { x with
      label := some tai, labelled := ok, unlabelled := if ok then 0 else x.unlabelled
      phase := if s.on F.CLK_TOD_CFG_LABEL then x.phase else atEdge })
  else s

/-! ### Limits (R139) -/

/-- 2·Σ(2i − 59)·f over sixty values with the newest first: the least-squares slope in ppb/s times 71,980. -/
def slopeNum : List Int → Int → Int
  | [], _ => 0
  | f :: t, i => 2 * (2 * i - 59) * f + slopeNum t (i - 1)

/-- A second's FREQ of a reference, judged against the limits (R139). (DEDUCED, notes/assumptions/37.md.) -/
def State.limitCheck (s : State) (r : Nat) (freq : Int) : State :=
  let f := satS 20 freq
  let s := s.set (F.CLK_REF_INFO_FREQ r) (unsgn 20 f)
  let s := s.refUpd r (fun x => { x with freqs := (f :: x.freqs).take 60 })
  let fs := (s.ref r).freqs
  let slope := if fs.length = 60 then slopeNum fs 59 else 0
  let hardF := s.fld F.CLK_LIMITS_HARD_FREQ
  let softF := min (s.fld F.CLK_LIMITS_SOFT_FREQ) hardF
  let hardR := s.fld F.CLK_LIMITS_HARD_RATE
  let softR := min (s.fld F.CLK_LIMITS_SOFT_RATE) hardR
  let soft := decide (softF * 100 < f.natAbs) || decide (softR * 71980 < slope.natAbs)
  let s :=
    if soft && !s.on (F.CLK_REF_INFO_SOFT r) then
      (s.event F.CLK_EVT_SOFT_WARN).log 5 2 2 [r, unsgn 32 f, unsgn 32 (roundDiv slope 71980)]
    else s
  let s := s.setB (F.CLK_REF_INFO_SOFT r) soft
  let live := s.fld (F.CLK_REF_INFO_STATE r) = 1 ∨ s.fld (F.CLK_REF_INFO_STATE r) = 2
  if live ∧ hardF * 100 < f.natAbs then s.disqualify r 5
  else if live ∧ hardR * 71980 < slope.natAbs then s.disqualify r 6
  else s

/-! ### History (R140) -/

/-- The history shifts by one entry. -/
def State.shiftHist (s : State) : State :=
  let lo := A.CLK_HIST 0
  let hi := A.CLK_HIST 1024
  { s with regs := s.regs.filterMap (fun c =>
      if Nat.ble lo c.1 && Nat.blt c.1 hi then (if c.1 + 4 < hi then some (c.1 + 4, c.2) else none) else some c) }

/-- A second of DPLL time ends: the mean FCW of that second, or the invalid marker, is written (R140); HO_S counts.
(DEDUCED, notes/assumptions/38.md.) -/
def State.historyWrite (s : State) (mean phase : Int) : State :=
  let st := s.fld F.CLK_REF_STATUS_STATE
  let s := s.shiftHist
  let s := s.wr (A.CLK_HIST 0) (if st = clkLocked then unsgn 32 (satS 32 mean) else 0x80000000)
  let s := s.wr A.CLK_HIST_SEQ (s.rd A.CLK_HIST_SEQ + 1)
  if st = clkHold then s.set F.CLK_HO_STATUS_HO_S (min (s.fld F.CLK_HO_STATUS_HO_S + 1) 0xFFFFF)
  else if st = clkAcq ∨ st = clkLocked then
    (s.wr A.CLK_FCW (unsgn 32 (satS 32 mean))).wr A.CLK_PHASE_ERR (unsgn 32 (satS 32 phase))
  else s

/-! ### The DPLL (R134 to R136, R144, R145) -/

/-- The switch is logged with its Δ (R144). -/
def State.logSwitch (s : State) (old new : Nat) (phi : Int) : State :=
  s.log 5 1 1 (old :: new :: payload64 (toNs (-phi)))

/-- The DPLL takes a reference at an EF boundary (R134, R144). -/
def State.takeRef (s : State) (sel : Nat) : State :=
  let old := s.refInUse
  let bw := if (s.refFreq sel * 1000 - s.fcw).natAbs ≤ 1000000 then 2 else 1
  let s := (s.set F.CLK_REF_STATUS_SEL sel).set F.CLK_REF_STATUS_BW bw
  let s := ((s.clkState clkAcq).event F.CLK_EVT_SWITCH).wr A.CLK_HO_STATUS 0
  let ptp := Nat.ble 1 sel && Nat.ble sel 3
  let s := s.updClk (fun c => { c with awaitPhi := ptp, switchFrom := old, hoFreq := none })
  if ptp then s
  else
    let phi := s.phiNow sel
    (s.jumpOffset phi).logSwitch old sel phi

/-- At an EF boundary the DPLL follows SEL (R133, R134). -/
def State.refSwitch (s : State) : State :=
  if s.spliceMember || !s.clk.running || !s.blockOk 4 then s
  else
    let s := s.autoSel false
    let sel := s.fld F.CLK_REF_CTL_SEL
    if s.refInUse = sel ∧ s.qualified sel then s
    else if s.selUsable then s.takeRef sel
    else if s.refInUse = 0 then s
    else s.enterHoldover

/-- After 5 s within 10 µs at 25 Hz the DPLL steps to 2.5 Hz (R136). -/
def State.bwStep (s : State) : State :=
  if s.fld F.CLK_REF_STATUS_STATE = clkAcq ∧ s.fld F.CLK_REF_STATUS_BW = 1 then s.set F.CLK_REF_STATUS_BW 2 else s

/-- After 60 s within 500 ns at 2.5 Hz CLK is LOCKED (R136). -/
def State.dpllLock (s : State) : State :=
  if s.fld F.CLK_REF_STATUS_STATE = clkAcq ∧ s.fld F.CLK_REF_STATUS_BW = 2 then
    ((s.set F.CLK_REF_STATUS_BW 3).clkState clkLocked).updClk (fun c => { c with lockedRef := s.refInUse })
  else s

/-- The phase error leaves its band (R136): above 10 µs back to 25 Hz, above 2 µs for 4 s in LOCKED back to 2.5 Hz. -/
def State.dpllLoss (s : State) (errNs : Nat) : State :=
  let st := s.fld F.CLK_REF_STATUS_STATE
  if 10000 < errNs ∧ (st = clkLocked ∨ (st = clkAcq ∧ s.fld F.CLK_REF_STATUS_BW = 2)) then
    (s.set F.CLK_REF_STATUS_BW 1).clkState clkAcq
  else if 2000 < errNs ∧ st = clkLocked then (s.set F.CLK_REF_STATUS_BW 2).clkState clkAcq
  else s

/-- REF_CTL is written (R134, R135): selection follows in AUTO on the next cycle. -/
def State.refCtlWrite (s : State) : State := s.autoSel false

/-- U7 stages (R136): FREE_RUN with FCW = 0, and EF boundaries exist from here on (R134). -/
def State.clkStart (s : State) : State :=
  let s := (s.wr A.CLK_FCW 0).set F.CLK_REF_STATUS_STATE clkFree
  s.updClk (fun c => { c with running := true, lastEf := s.chainIdx / s.efLen })

/-! ### Jumps as CLK sees them -/

/-- The pending jumps take effect, and the phases measured before them move with the time base (R110); a step abandons
the twin-path window (R97) and re-anchors the gate cycles (R48). -/
def State.jumpApply (s : State) : State :=
  let before : Int := s.time.tb + s.time.slew
  let t := s.applyJumps
  let d : Int := (t.time.tb : Int) + t.time.slew - before
  let t := t.updClk (fun c => { c with refs := c.refs.map (fun x => { x with phase := x.phase + d }) })
  t.when (t.time.epoch != s.time.epoch) (fun t =>
    let t := t.updTime (fun x => { x with twin := { x.twin with running := false } })
    let go (p : Nat) (x : RingPort) : RingPort :=
      if x.gate.running || x.gate.anchor.isSome then { x with gate := { x.gate with anchor := some (t.qbvAnchor p) } } else x
    t.updRing (fun r => { r with ports := updAt (updAt r.ports 0 (go 0)) 1 (go 1) }))

/-! ### The media chain's realign (R146 to R148) -/

/-- REALIGN.MEDIA is written (R148). -/
def State.realignMedia (s : State) : State :=
  if s.on F.CLK_REALIGN_BUSY then s
  else if s.spliceMember then s.event F.CLK_EVT_REALIGN_REFUSED
  else
    let s := s.set F.CLK_REALIGN_BUSY 1
    if s.misalign.natAbs < 2 * nsU then s.updClk (fun c => { c with realign := .ready })
    else (forN s.tdmPorts (fun n s => s.when (s.tdmRunning n) (fun s => s.tdmCauseOn n causeRealign)) s).updClk
      (fun c => { c with realign := .fading })

/-- How far the chain's own time moves: by MISALIGN, or as far as splice alignment needs (R148, R385). -/
def State.realignShift (s : State) : Int := if s.splice.align then s.splice.efOffset else s.misalign

/-- A member has aligned with its master (R385). -/
def State.spliceAligned (s : State) : State :=
  let s := { s with splice := { s.splice with align := false } }
  let s := ((s.set F.SPLICE_STATUS_ALIGNED 1).set F.SPLICE_STATUS_ROLE 4).event F.SPLICE_EVT_ALIGNED
  s.updClk (fun c => { c with lastEf := s.chainIdx / s.efLen })

/-- At an EF boundary, once no port is still fading, the EF that begins carries the move (R148).
(DEDUCED, notes/assumptions/38.md.) -/
def State.realignBoundary (s : State) : State :=
  match s.clk.realign with
  | .fading =>
    if anyN s.tdmPorts (fun n => s.fld (F.TDM_STATUS_GAIN_STATE n) == gainFading) then s
    else s.updClk (fun c => { c with realign := .moving s.realignShift })
  | .ready => s.updClk (fun c => { c with realign := .moving s.realignShift })
  | _ => s

/-- The moved boundary (R148): the chain has moved by −MISALIGN, MISALIGN reads 0 and the ports ramp back. A member that takes
another EF number than the next one starts playout anew (R385). -/
def State.realignMove (s : State) : State :=
  match s.clk.realign with
  | .moving mis =>
    let s := s.updTime (fun t => { t with disp0 := t.disp0 + mis })
    let was := s.clk.lastEf
    let s :=
      if s.splice.align then
        let t := s.spliceAligned
        if t.clk.lastEf = was + 1 then t.updClk (fun c => { c with lastEf := was })
        else t.when (t.clk.lastEf != was) (fun t => { t with play := { t.play with running := false } })
      else s.toBoundary
    let s := (s.set F.CLK_REALIGN_BUSY 0).event F.CLK_EVT_REALIGNED
    (s.updMisalign.tdmCauseMask 0xFF causeRealign false).updClk (fun c => { c with realign := .idle, misHigh := false })
  | _ => s

/-- MEDIA_CFG is written with a new RATE (R149): accepted in STAGING only. `old` is the word before.
(DEDUCED, notes/assumptions/38.md.) -/
def State.mediaCfg (s : State) (old : Word) : State :=
  let was := F.CLK_MEDIA_CFG_RATE.of old.toNat
  let now := s.fld F.CLK_MEDIA_CFG_RATE
  if now = was then s
  else if 5 < now then s.set F.CLK_MEDIA_CFG_RATE was
  else if s.modState ≠ stStaging then (s.set F.CLK_MEDIA_CFG_RATE was).event F.CLK_EVT_RATE_REFUSED
  else
    let s := s.updClk (fun c => { c with lastEf := s.chainIdx / s.efLen })
    let s := { s with tdm := s.tdm.map (fun p => { p with pendCfg := true, pendMap := true }) }
    if !(s.ref 5).tracking || s.on (F.CLK_REF_INFO_SUSPECT 5) then s
    else if s.wrongFamily then s.disqualify 5 4 else s.refValid 5

/-- MCLK_CFG is written (R150): each enabled output runs from a sample edge. -/
def State.mclkCfg (s : State) : State :=
  let w := s.rd A.CLK_MCLK_CFG
  s.updClk (fun c => { c with mclkOn := ofBits [w.testBit 0, w.testBit 2, w.testBit 4, w.testBit 6] })

/-! ### The commands of the family -/

/-- REF_EDGE (R129). -/
def execRefEdge (r : EdgeRef) (dt : Nat) (s : State) : Result := s.run fun s => (s.advance dt).refEdge r.code

/-- REF_MISSING_EDGE (R129). -/
def execRefMissingEdge (r : EdgeRef) (dt : Nat) (s : State) : Result := s.run fun s =>
  let s := s.advance dt
  s.when s.clk.running (fun s => s.missingEdge r.code)

/-- TOD_SENTENCE_RX (R132): a ZDA or RMC sentence naming a UTC second. -/
def execTodSentenceRx (utc : Nat) (checksumOk : Bool) (s : State) : Result := s.run fun s =>
  s.when (s.clk.running && checksumOk) (fun s => s.todLabel (utc + s.fld F.CLK_TOD_CFG_UTC_OFFSET))

/-- REF_QUALIFY (R128). -/
def execRefQualify (r : Reference) (s : State) : Result := s.run fun s => s.qualify r.code

/-- REVERT_WAIT_EXPIRY (R133). -/
def execRevertWaitExpiry (s : State) : Result := s.run fun s => s.autoSel true

/-- REF_SWITCH (R134, R144): time passes to the next EF boundary. -/
def execRefSwitch (s : State) : Result := s.run fun s => s.when s.clk.running (fun s => s.toBoundary.refSwitch)

/-- DPLL_BANDWIDTH_STEP (R136). -/
def execDpllBandwidthStep (s : State) : Result := s.run State.bwStep

/-- DPLL_LOCK (R136). -/
def execDpllLock (s : State) : Result := s.run State.dpllLock

/-- DPLL_LOCK_LOSS (R136): the phase error that has left its band, in ns. -/
def execDpllLockLoss (errNs : Nat) (s : State) : Result := s.run fun s => s.dpllLoss errNs

/-- DRIFT_LIMIT_CHECK (R139): the second's FREQ of each reference that is present. -/
def execDriftLimitCheck (freqs : List (Reference × Int)) (s : State) : Result := s.run fun s =>
  s.when s.clk.running (fun s => forL freqs (fun (r, f) s => s.limitCheck r.code f) s)

/-- HISTORY_WRITE (R140): the second's mean FCW and the phase error at its end. -/
def execHistoryWrite (mean phaseNs : Int) (dt : Nat) (s : State) : Result := s.run fun s =>
  let s := s.advance dt
  s.when s.clk.running (fun s => s.historyWrite mean phaseNs)

/-- REF_ALM_RELEASE (R151). -/
def execRefAlmRelease (s : State) : Result := s.run fun s =>
  if s.almCond then s else s.updClk (fun c => { c with almLow := false })

/-- REALIGN_MOVE (R148). -/
def execRealignMove (s : State) : Result := s.run State.realignMove

end Sys2Proof.Machine
end

