-- ==== Sys2Proof/Machine/Twin.lean ====
section
/-! DEFINITION. Offsets from the master, twin-path timing (R96 to R107) and the voting of references (R138), which counts a
SUSPECT ring direction as lost. -/

namespace Sys2Proof.Machine

/-- The TIME state of a port, and its update. -/
def State.tport (s : State) (p : Nat) : TimePort := getAt s.time.ports p TimePort.reset
def State.tportUpd (s : State) (p : Nat) (f : TimePort → TimePort) : State :=
  s.updTime (fun t => { t with ports := updAt t.ports p f })
def State.twinUpd (s : State) (f : Twin → Twin) : State := s.updTime (fun t => { t with twin := f t.twin })

/-- Twin-path timing is in effect (R96): enabled, and the grandmaster's Sync arrives over the ring. -/
def State.twinActive (s : State) : Bool :=
  s.on F.TIME_TWIN_CFG_EN && s.time.gm.isSome && !s.time.isGm && s.time.gmPort != 2

/-- The other ring port. -/
def otherP (p : Nat) : Nat := 1 - p

/-- A ring direction's Sync is being measured. -/
def State.pathLive (s : State) (p : Nat) : Bool := !(s.tport p).lost && (s.tport p).lastSync.isSome

/-- The stored d in units of 2^-16 ns. -/
def State.twinD (s : State) : Int := sgn 32 (s.rd A.TIME_TWIN_D) * nsU

/-- The correction c in force (R100). -/
def State.twinC (s : State) : Int := if s.on F.TIME_TWIN_STATUS_CORR then s.twinD else 0

/-- TWIN_STATUS.ACTIVE and WHOLE follow the paths (R96). -/
def State.twinFlags (s : State) : State :=
  let act := s.twinActive
  let s := s.keep F.TIME_TWIN_STATUS_ACTIVE (if act then 1 else 0)
  s.keep F.TIME_TWIN_STATUS_WHOLE (if act && s.pathLive 0 && s.pathLive 1 then 1 else 0)

/-- The window in progress is abandoned (R97). -/
def State.twinAbandon (s : State) : State := s.twinUpd (fun w => { w with running := false })

/-- The offset used on a path, with the correction in force (R100). -/
def State.usedOffset (s : State) (p : Nat) (theta : Int) : Int :=
  if p = 0 then theta + s.twinC else if p = 1 then theta - s.twinC else theta

/-- What the offset becomes, less what it was, when the path in use changes and c becomes 0 (R98, R102): d is θB − θA. -/
def moveOffset (c d : Int) (fr dst : Nat) : Int :=
  if fr = dst then (if fr = 1 then c else -c) else if fr = 1 then c - d else d - c

/-- The module follows a path, uncorrected, and the difference is passed through as a jump (R98, R102). -/
def State.twinMove (s : State) (dst : Nat) (c d : Int) : State :=
  let fr := s.fld F.TIME_TWIN_STATUS_IN_USE
  let s := (s.set F.TIME_TWIN_STATUS_IN_USE (dst + 1)).set F.TIME_TWIN_STATUS_CORR 0
  if fr = 0 then s else s.jumpOffset (moveOffset c d (fr - 1) dst)

/-- A ring direction is lost (R99 to R101). -/
def State.pathLost (s : State) (p : Nat) : State :=
  if (s.tport p).lost then s
  else
    let s := ((s.tportUpd p (fun t => { t with lost := true, lastSync := none, rxSync := none })).twinAbandon).twinFlags
    if s.on F.TIME_TWIN_CFG_EN then
      if s.fld F.TIME_TWIN_STATUS_IN_USE = p + 1 then
        let o := otherP p
        if s.pathLive o then
          let s := s.twinUpd (fun w => { w with healing := true })
          if s.on F.TIME_TWIN_STATUS_D_VALID then
            let back := s.on F.TIME_TWIN_STATUS_CORR
            let s := (s.set F.TIME_TWIN_STATUS_IN_USE (o + 1)).setB F.TIME_TWIN_STATUS_CORR (!back)
            (s.event F.TIME_EVT_TWIN_FAILOVER).log 4 2 1 [s.rd A.TIME_TWIN_D]
          else
            let s := (s.set F.TIME_TWIN_STATUS_IN_USE (o + 1)).set F.TIME_TWIN_STATUS_CORR 0
            (s.event F.TIME_EVT_TWIN_NO_D).updTime (fun t => { t with firstPath := true })
        else
          let s := (s.set F.TIME_TWIN_STATUS_IN_USE 0).set F.TIME_TWIN_STATUS_CORR 0
          s.when (s.fld (F.CLK_REF_INFO_STATE 1) == 1 || s.qualified 1) (fun s => s.disqualify 1 8)
      else
        let s := s.twinUpd (fun w => { w with healing := true })
        s.when (p == 1 && (s.fld (F.CLK_REF_INFO_STATE 2) == 1 || s.qualified 2)) (fun s => s.disqualify 2 8)
    else s.when (s.fld (F.CLK_REF_INFO_STATE (p + 1)) == 1 || s.qualified (p + 1)) (fun s => s.disqualify (p + 1) 8)

/-- The active domain's grandmaster changes (R103): d is invalidated, c cleared and the next offset is a jump. -/
def State.twinNewGm (s : State) : State :=
  let s := (s.set F.TIME_TWIN_STATUS_D_VALID 0).set F.TIME_TWIN_STATUS_CORR 0
  let s := (s.set F.TIME_TWIN_STATUS_IN_USE 0).twinUpd (fun w => { w with running := false, healing := false })
  let s := s.updTime (fun t => { t with
    firstGm := true, last4 := []
    ports := t.ports.map (fun x => { x with lastSync := none, rxSync := none, lost := false }) })
  s.twinFlags

/-! ### Offsets (R86, R107) -/

/-- The median of four offsets: the mean of the middle two. -/
def median4 (l : List Int) : Int :=
  match l.mergeSort (fun a b => decide (a ≤ b)) with
  | [_, b, c, _] => roundDiv (b + c) 2
  | _ => 0

/-- An offset on the path in use is presented (R86, R107): it becomes a jump, or the loop's phase error. -/
def State.presentOffset (s : State) (theta : Int) : State :=
  let s := s.wr A.TIME_OFFSET (nsReg theta)
  let big := decide (250 * nsU < theta.natAbs)
  if s.clk.awaitPhi then
    let s := (s.jumpOffset theta).logSwitch s.clk.switchFrom s.refInUse theta
    (s.updClk (fun c => { c with awaitPhi := false })).updTime (fun t => { t with last4 := [], firstGm := false, firstPath := false })
  else if s.time.firstPath then
    let s := (s.jumpOffset theta).log 4 3 2 [nsReg (-theta)]
    s.updTime (fun t => { t with last4 := [], firstGm := false, firstPath := false })
  else if s.time.firstGm then
    let s := s.updTime (fun t => { t with firstGm := false, last4 := [] })
    if big then s.jumpOffset theta
    else s.when (Nat.ble 1 s.refInUse && Nat.ble s.refInUse 3) (fun s => s.wr A.CLK_PHASE_ERR (nsReg theta))
  else if big && s.fld F.CLK_REF_STATUS_BW != 1 then
    let l := theta :: s.time.last4
    if l.length = 4 then (s.updTime (fun t => { t with last4 := [] })).jumpOffset (median4 l)
    else s.updTime (fun t => { t with last4 := l })
  else
    let s := s.updTime (fun t => { t with last4 := [] })
    s.when (Nat.ble 1 s.refInUse && Nat.ble s.refInUse 3) (fun s => s.wr A.CLK_PHASE_ERR (nsReg theta))

/-! ### Windows (R97, R98, R102) -/

/-- A pair of copies yields a sample; a window starts with the first pair. -/
def State.twinSample (s : State) (d corrA corrB : Int) : State :=
  if s.twinActive then
    let fresh := !s.time.twin.running
    let s := s.when fresh (fun s => s.twinUpd (fun w => { w with
      running := true, startUp := s.time.up, samples := [], corrA := 0, corrAN := 0, corrB := 0, corrBN := 0 }))
    s.twinUpd (fun w => { w with
      samples := d :: w.samples, corrA := w.corrA + corrA, corrAN := w.corrAN + 1, corrB := w.corrB + corrB,
      corrBN := w.corrBN + 1 })
  else s

/-- The Sync interval as a power of two of a second (R77). -/
def State.logSync (s : State) : Int := sgn 8 (s.fld F.TIME_PTP_INTV_LOG_SYNC)

/-- Pairs expected in a window of 300 s. -/
def State.expectedPairs (s : State) : Nat :=
  let l := s.logSync
  if l ≤ 0 then 300 * 2 ^ (-l).toNat else 300 / 2 ^ l.toNat

/-- The window's mean is a valid d (R97), in ns. -/
def State.windowD (s : State) : Option Int :=
  let xs := s.time.twin.samples
  let n := xs.length
  let sum := xs.sum
  let dev : Int := n * (xs.map (fun x => x * x)).sum - sum * sum
  let lim : Int := (s.fld F.TIME_TWIN_CFG_DEV_LIMIT * nsU * n : Nat)
  let d := roundDiv sum (n * nsU)
  if n ≠ 0 ∧ 9 * s.expectedPairs ≤ 10 * n ∧ dev ≤ lim * lim ∧ d.natAbs ≤ 10000 then some d else none

/-- The preferred path: PREF, or in AUTO the direction of the smaller mean correctionField over the window (R98). -/
def State.twinPref (s : State) : Nat :=
  let p := s.fld F.TIME_TWIN_CFG_PREF
  let w := s.time.twin
  if p = 1 then 0 else if p = 2 then 1
  else if w.corrB * w.corrAN < w.corrA * w.corrBN then 1 else 0

/-- A 300 s window ends (R97, R98, R102). -/
def State.windowEnd (s : State) : State :=
  if !s.time.twin.running then s
  else
    let s := match s.windowD with
      | none => s
      | some d =>
        let c := s.twinC
        let dd := d * nsU
        let s := ((s.wr A.TIME_TWIN_D (unsgn 32 d)).set F.TIME_TWIN_STATUS_D_VALID 1).event F.TIME_EVT_TWIN_LEARNED
        let whole := s.on F.TIME_TWIN_STATUS_WHOLE
        let healed := s.time.twin.healing && whole
        let choose := healed || !s.time.twin.chosen || s.fld F.TIME_TWIN_STATUS_PREF_PATH == 0
        let pref := if choose then s.twinPref else s.fld F.TIME_TWIN_STATUS_PREF_PATH - 1
        let s := (s.set F.TIME_TWIN_STATUS_PREF_PATH (pref + 1)).twinUpd (fun w => { w with
          chosen := true, healing := w.healing && !healed })
        let moves := s.fld F.TIME_TWIN_STATUS_IN_USE != pref + 1 || c != 0
        let s := s.when (whole && moves) (fun s => s.twinMove pref c dd)
        s.when healed (fun s => s.event F.TIME_EVT_TWIN_HEALED)
    s.twinUpd (fun w => { w with
      running := true, startUp := s.time.up, samples := [], corrA := 0, corrAN := 0, corrB := 0, corrBN := 0 })

/-- A write changes PREF (R98): while the ring is whole the module moves to the new path at once. -/
def State.twinPrefWrite (s : State) : State :=
  let p := s.fld F.TIME_TWIN_CFG_PREF
  if p = 1 ∨ p = 2 then
    let s := s.set F.TIME_TWIN_STATUS_PREF_PATH p
    let d := match (s.tport 0).lastSync, (s.tport 1).lastSync with
      | some (_, a, _), some (_, b, _) => if s.on F.TIME_TWIN_STATUS_D_VALID then s.twinD else b - a
      | _, _ => 0
    s.when (s.on F.TIME_TWIN_STATUS_WHOLE && s.fld F.TIME_TWIN_STATUS_IN_USE != p) (fun s => s.twinMove (p - 1) s.twinC d)
  else s.twinUpd (fun w => { w with chosen := false })

/-- A Sync of the active domain's grandmaster is measured on a port (R96 to R102). -/
def State.syncMeasured (s : State) (p seq : Nat) (theta corr : Int) : State :=
  if p = 2 then
    let s := s.when (s.fld (F.TIME_PSTAT_STATE 2) == 9) (fun s => s.refValid 3)
    s.presentOffset theta
  else if s.on F.TIME_TWIN_CFG_EN && s.on (F.CLK_REF_INFO_SUSPECT (p + 1)) then s
  else
    let s := s.tportUpd p (fun t => { t with lastSync := some (seq, theta, corr), lost := false })
    let s := s.twinFlags
    if s.on F.TIME_TWIN_CFG_EN then
      let s := match (s.tport (otherP p)).lastSync with
        | none => s
        | some (q, th, co) =>
          if q = seq then
            if p = 1 then s.twinSample (theta - th) co corr else s.twinSample (th - theta) corr co
          else s
      let s := s.when (s.fld F.TIME_TWIN_STATUS_IN_USE == 0) (fun s =>
        let s := s.set F.TIME_TWIN_STATUS_IN_USE (p + 1)
        s.when (s.fld F.TIME_TWIN_STATUS_PREF_PATH == 0) (fun s => s.set F.TIME_TWIN_STATUS_PREF_PATH
          (let q := s.fld F.TIME_TWIN_CFG_PREF; if q = 1 ∨ q = 2 then q else p + 1)))
      let s := s.refValid 1
      let s := s.when (p == 1) (fun s => s.refValid 2)
      s.when (s.fld F.TIME_TWIN_STATUS_IN_USE == p + 1) (fun s => s.presentOffset (s.usedOffset p theta))
    else
      let s := s.refValid (p + 1)
      s.when (s.refInUse == p + 1 || (s.refInUse == 0 && s.time.gmPort == p) || (Nat.blt 3 s.refInUse && s.time.gmPort == p))
        (fun s => s.presentOffset theta)

/-- LOSS_INTV as it acts (R105). -/
def State.lossIntv (s : State) : Nat := clampN 2 15 (s.fld F.TIME_TWIN_CFG_LOSS_INTV)

/-! ### Votes (R138) -/

/-- The rank that voting compares: PTP-A and PTP-B are voted even under twin-path timing (R138). -/
def State.voteRank (s : State) (r : Nat) : Nat := (s.rd A.CLK_REF_RANK) >>> (4 * r) % 16

/-- The disagreement threshold of a pair, ppb: the wider of the two references' own. (DEDUCED, notes/assumptions/35.md.) -/
def State.voteThr (s : State) (a b : Nat) : Nat :=
  10 * (if a ≤ 3 ∧ b ≤ 3 then s.fld F.CLK_VOTE_CFG_THR_PTP
    else if 3 < a ∧ 3 < b then s.fld F.CLK_VOTE_CFG_THR_OTHER
    else max (s.fld F.CLK_VOTE_CFG_THR_PTP) (s.fld F.CLK_VOTE_CFG_THR_OTHER))

/-- Pairs of codes in ascending order. -/
def refPairs : List (Nat × Nat) :=
  [(1,2),(1,3),(1,4),(1,5),(1,6),(2,3),(2,4),(2,5),(2,6),(3,4),(3,5),(3,6),(4,5),(4,6),(5,6)]

/-- Seconds that a pair has disagreed. -/
def State.disagreeS (s : State) (a b : Nat) : Nat :=
  ((s.clk.disagree.find? (fun d => d.1 == a && d.2.1 == b)).map (fun d => d.2.2)).getD 0

/-- Note how long a pair has disagreed. -/
def State.setDisagree (s : State) (a b n : Nat) : State :=
  let rest := s.clk.disagree.filter (fun d => !(d.1 == a && d.2.1 == b))
  s.updClk (fun c => { c with disagree := if n = 0 then rest else (a, b, n) :: rest })

/-- A SUSPECT reference is disqualified; a ring direction under twin-path timing counts as lost instead (R104). -/
def State.suspectOut (s : State) (r : Nat) : State :=
  if s.on F.TIME_TWIN_CFG_EN && (r == 1 || r == 2) then
    let s := s.pathLost (r - 1)
    if r = 1 then (if s.qualified 1 then s.set (F.CLK_REF_INFO_WHY 1) 7 else s) else s.disqualify 2 7
  else s.disqualify r 7

/-- A reference is marked SUSPECT and disqualified (R138). -/
def State.markSuspect (s : State) (r partner : Nat) : State :=
  let s := (s.set (F.CLK_REF_INFO_SUSPECT r) 1).event F.CLK_EVT_SUSPECT
  (s.suspectOut r).refUpd r (fun x => { x with partner := partner, agreeS := 0 })

/-- The vote on a pair that has disagreed for 10 s. -/
def State.votePair (s : State) (a b : Nat) : State :=
  match s.hoFreq with
  | none => (s.set F.CLK_REF_STATUS_DISAGREE 1).event F.CLK_EVT_DISAGREE
  | some (f, _) =>
    let da := (s.refFreq a * 1000 - f).natAbs
    let db := (s.refFreq b * 1000 - f).natAbs
    if (max da db) < 10 * (max da db - min da db) then
      if db < da then s.markSuspect a b else s.markSuspect b a
    else (s.set F.CLK_REF_STATUS_DISAGREE 1).event F.CLK_EVT_DISAGREE

/-- The once-a-second vote (R138). -/
def State.refVote (s : State) : State :=
  if s.spliceMember then s
  else
    let s := forL refPairs (fun (a, b) s =>
      if s.qualified a && s.qualified b && s.voteRank a != 0 && s.voteRank a == s.voteRank b then
        let differ := Nat.blt (s.voteThr a b) (s.refFreq a - s.refFreq b).natAbs
        let n := if differ then s.disagreeS a b + 1 else 0
        let s := s.setDisagree a b n
        s.when (decide (10 ≤ n)) (fun s => s.votePair a b)
      else s.setDisagree a b 0) s
    let s := s.when (s.clk.disagree.all (fun d => Nat.blt d.2.2 10)) (fun s => s.set F.CLK_REF_STATUS_DISAGREE 0)
    forN 7 (fun r s =>
      let x := s.ref r
      if s.on (F.CLK_REF_INFO_SUSPECT r) then
        let agree := Nat.ble (s.refFreq r - s.refFreq x.partner).natAbs (s.voteThr (min r x.partner) (max r x.partner))
        let n := if agree then x.agreeS + 1 else 0
        let s := s.refUpd r (fun x => { x with agreeS := n })
        if max 1 (s.fld F.CLK_REF_CTL_QUAL_S) ≤ n ∧ (r ≤ 3 ∨ x.tracking = true) then
          ((s.set (F.CLK_REF_INFO_SUSPECT r) 0).refValid r).qualify r
        else s
      else s) s

/-! ### The commands of the family -/

/-- REF_VOTE (R138). -/
def execRefVote (s : State) : Result := s.run fun s => s.when s.clk.running State.refVote

/-- TWIN_WINDOW_END (R97). -/
def execTwinWindowEnd (dt : Nat) (s : State) : Result := s.run fun s => (s.advance dt).windowEnd

/-- TWIN_PATH_LOSS (R99): LOSS_INTV Sync intervals have passed without a Sync on a ring port. -/
def execTwinPathLoss (b : Bool) (s : State) : Result := s.run fun s => s.pathLost (if b then 1 else 0)

end Sys2Proof.Machine
end

