-- ==== Sys2Proof/Machine/RingPort.lean ====
section
/-! DEFINITION. Ring and spur ports, flap hold-down, the bypass, reservations, gate lists, pause and low-power idle
(R27 to R45, R48, R49, R62 to R65, R69, R70). -/

namespace Sys2Proof.Machine

/-- A port's state and its update. -/
def State.rp (s : State) (p : Nat) : RingPort := getAt s.ring.ports p RingPort.reset
def State.rpUpd (s : State) (p : Nat) (f : RingPort → RingPort) : State :=
  s.updRing (fun r => { r with ports := updAt r.ports p f })

/-! ### Pause (R62 to R65) -/

/-- The link rate in Mbit/s (R33). -/
def State.linkMbps (s : State) (p : Nat) : Nat :=
  getAt [0, 100, 1000, 2500, 5000, 10000] (s.fld (F.RING_PORT_STATUS_RATE p)) 0

/-- The port's link is up. -/
def State.linkUp (s : State) (p : Nat) : Bool := s.on (F.RING_PORT_STATUS_LINK p)

/-- The watermarks in bytes (R62). -/
def State.poolHigh (s : State) : Nat := 262144 * s.fld F.RING_PAUSE_WM_HIGH_PCT / 100
def State.poolLow (s : State) : Nat :=
  let h := s.fld F.RING_PAUSE_WM_HIGH_PCT
  let l := s.fld F.RING_PAUSE_WM_LOW_PCT
  262144 * (if h ≤ l then h - 1 else l) / 100

/-- The port sends pause or PFC frames (R63). -/
def State.pauses (s : State) (p : Nat) : Bool :=
  if p = 2 then s.on (F.RING_PORT_CFG_PAUSE_EN p) else s.fld (F.RING_PORT_CFG_PFC_EN p) != 0

/-- The MAC control frame a port sends with the given quanta (R63). -/
def State.pauseFrame (s : State) (p quanta : Nat) : Frame where
  dst := 0x0180C2000001
  src := s.rd A.SYS_MAC_LO + 2 ^ 32 * (s.rd A.SYS_MAC_HI % 2 ^ 16)
  vid := 0
  tags := 0
  pcp := 0
  dscp := 0
  scp := false
  group := none
  rtag := none
  len := 64
  fcsOk := true
  oversize := false
  tsErr := 0
  body := if p = 2 then .pause quanta
    else .pfc (s.fld (F.RING_PORT_CFG_PFC_EN p)) ((List.range 4).map (fun k => if s.bitOf (F.RING_PORT_CFG_PFC_EN p) k then quanta else 0))
  raw := []

/-- Bytes received or sent, counted in 64-byte units with the remainder carried (R66). -/
def State.countTx (s : State) (p len : Nat) : State :=
  let n := (s.rp p).txRem + len
  ((s.inc (A.MSTAT_TX_FRAMES p)).bump (A.MSTAT_TX_BLK64 p) (n / 64)).rpUpd p (fun x => { x with txRem := n % 64 })

/-- A frame leaves on a port. -/
def State.putOut (s : State) (o : Out) : State := { s with out := s.out ++ [o] }

/-- The port enumerated by an index. -/
def portOf (p : Nat) : Port := if p = 0 then .a else if p = 1 then .b else .c

/-- A pause or PFC frame is sent and counted (R63). -/
def State.sendPause (s : State) (p quanta : Nat) : State :=
  if s.linkUp p then
    ((s.countTx p 64).inc (A.MSTAT_TX_PAUSE p)).putOut (.frame (portOf p) (s.pauseFrame p quanta))
  else s

/-- The next action of R63 for a port's pool. -/
def State.poolCheck (s : State) (p : Nat) : State :=
  let n := (s.rp p).pool
  let x := (s.rp p).xoff
  if !x && Nat.ble s.poolHigh n then
    s.when (s.pauses p) (fun s => (s.sendPause p 0xFFFF).rpUpd p (fun x => { x with xoff := true }))
  else if x && Nat.ble n s.poolLow then
    (s.when (s.pauses p) (fun s => s.sendPause p 0)).rpUpd p (fun x => { x with xoff := false })
  else s

/-- The pool of an ingress port gives room back. -/
def State.poolFree (s : State) (p n : Nat) : State :=
  (s.rpUpd p (fun x => { x with pool := x.pool - n })).poolCheck p

/-! ### Links (R28 to R33, R69) -/

/-- Bits of RATE_ADV for the rates the variant's port supports (R27, R30), by port. -/
def State.rateBits (s : State) (p : Nat) : Nat := if p = 2 then 3 else s.variant.pick 15 7 3

/-- The RATE_ADV bit of a rate code of R33. -/
def rateBit (p rate : Nat) : Nat := if p = 2 then rate - 1 else rate - 2

/-- The rates the port advertises (R28, R30, R501). -/
def State.advertised (s : State) (p : Nat) : Nat :=
  let m := s.fld (F.RING_PORT_CFG_RATE_ADV p) &&& s.rateBits p
  let m := clearBits m (s.rp p).withheld
  if p = 2 then m else if s.on F.PWR_STATUS_LIMITED then m &&& 3 else m

/-- The bypass is open. -/
def State.bypassOpen (s : State) : Bool := s.fld F.RING_BYPASS_STATUS_STATE == 2

/-- The port may link: powered, usable, enabled, out of hold-down, and for a ring port in the ring. -/
def State.portMayLink (s : State) (p : Nat) : Bool :=
  s.unitOn (4 + p) && s.unitOn 3 && s.blockOk (1 + p) && s.blockOk 0 && s.on (F.RING_PORT_CFG_ENABLE p) &&
    !s.on (F.RING_PORT_STATUS_HELD p) && (p == 2 || s.bypassOpen)

/-- Length of hold-down in seconds at a level (R69). -/
def holdSecs (level : Nat) : Nat := if 9 ≤ level then 3600 else 15 * 2 ^ (level - 1)

/-- Flaps within the last 60 s. -/
def State.recentFlaps (s : State) (p : Nat) : List Nat :=
  (s.rp p).flaps.filter (fun t => Nat.blt s.time.up (t + 60 * secU))

/-- FLAP.FLAPS (R70). -/
def State.flapCount (s : State) (p : Nat) : Nat := min 7 (s.recentFlaps p).length

/-- Hold-down begins (R69, R70). -/
def State.holdDown (s : State) (p : Nat) : State :=
  let lvl := min 9 (s.fld (F.RING_FLAP_HOLD_LEVEL p) + 1)
  let s := (s.set (F.RING_FLAP_HOLD_LEVEL p) lvl).set (F.RING_PORT_STATUS_HELD p) 1
  let s := s.rpUpd p (fun x => { x with holdEnd := s.time.up + holdSecs lvl * secU })
  let s := (s.eventBit F.RING_EVT_HOLD_START p).life (11 + p) 1
  s.log 2 2 2 [p, lvl]

/-- A link up-to-down transition on a port with ENABLE = 1 (R69). -/
def State.flap (s : State) (p : Nat) : State :=
  let s := s.rpUpd p (fun x => { x with flaps := s.time.up :: s.recentFlaps p })
  let s := s.keep (F.RING_FLAP_FLAPS p) (s.flapCount p)
  s.when (Nat.ble 6 (s.rp p).flaps.length && !s.on (F.RING_PORT_STATUS_HELD p)) (fun s => s.holdDown p)

/-- The port's link goes down (R29, R66, R69, R99): what waits at its egress is lost, and a ring direction is lost.
(DEDUCED, notes/assumptions/30.md.) -/
def State.linkDrop (s : State) (p : Nat) : State :=
  if !s.linkUp p then s
  else
    let s := (s.set (F.RING_PORT_STATUS_LINK p) 0).set (F.RING_PORT_STATUS_RATE p) 0
    let s := (s.set (F.RING_PORT_STATUS_LPI p) 0).eventBit F.RING_EVT_LINK_CHG p
    let s := s.inc (A.MSTAT_LINK_DOWN p)
    let s := forL (s.rp p).queue (fun e s => match e.pool with
      | none => s
      | some i => s.poolFree i e.frame.len) s
    let s := s.rpUpd p (fun x => { x with queue := [], xoff := false, stopped := [], credit5 := 0, credit4 := 0 })
    let s := s.set (F.TIME_PSTAT_STATE p) (if s.on (F.RING_PORT_CFG_ENABLE p) then 1 else 3)
    let s := if p = 2 then s.when (s.qualified 3 || s.fld (F.CLK_REF_INFO_STATE 3) == 1) (fun s => s.disqualify 3 8)
      else s.pathLost p
    s.when (s.on (F.RING_PORT_CFG_ENABLE p)) (fun s => s.flap p)

/-- Training completes (R28, R29): the link comes up and its mean link delay is cleared (R86). -/
def State.linkRise (s : State) (p rate : Nat) : State :=
  if !s.linkUp p && s.portMayLink p && (s.advertised p).testBit (rateBit p rate) && Nat.ble 1 rate && Nat.ble rate 5 then
    let s := (s.set (F.RING_PORT_STATUS_LINK p) 1).set (F.RING_PORT_STATUS_RATE p) rate
    let s := s.eventBit F.RING_EVT_LINK_CHG p
    let s := (s.set (F.TIME_PSTAT_LINK_DELAY p) 0).set (F.TIME_PSTAT_STATE p) (if s.time.isGm then 6 else 4)
    let s := s.tportUpd p (fun t => { t with delays := [], pdelayT1 := none })
    s.rpUpd p (fun x => { x with fails := 0, up5 := s.time.up, up4 := s.time.up, lastAudio := 0 })
  else s

/-- Training at a rate fails (R28): the third failure in succession withholds the rate.
(DEDUCED, notes/assumptions/30.md.) -/
def State.trainFail (s : State) (p rate : Nat) : State :=
  let n := (s.rp p).fails + 1
  if 3 ≤ n then s.rpUpd p (fun x => { x with fails := 0, withheld := x.withheld ||| 2 ^ rateBit p rate })
  else s.rpUpd p (fun x => { x with fails := n })

/-- Auto-negotiation restarts (R31). (DEDUCED, notes/assumptions/30.md.) -/
def State.retrain (s : State) (p : Nat) : State := s.linkDrop p

/-- PORT_CFG is written (R30, R31); `old` is the word before. -/
def State.portCfg (s : State) (p : Nat) (old : Word) : State :=
  let s := s.keep (F.RING_PORT_CFG_MAX_FRAME p) (clampN 1522 9216 (s.fld (F.RING_PORT_CFG_MAX_FRAME p)))
  let s := s.keep (F.RING_PORT_CFG_RATE_ADV p) (s.fld (F.RING_PORT_CFG_RATE_ADV p) &&& s.rateBits p)
  let s := s.when (s.variant != .jk1024) (fun s => s.keep (F.RING_PORT_CFG_RX_KEEP_ERR p) 0)
  let s := if p = 2 then s.keep (F.RING_PORT_CFG_PFC_EN p) 0
    else (s.keep (F.RING_PORT_CFG_PAUSE_EN p) 0).keep (F.RING_PORT_CFG_PAUSE_HONOUR_ALL p) 0
  let wasEn := (F.RING_PORT_CFG_ENABLE p).of old.toNat
  let wasAdv := (F.RING_PORT_CFG_RATE_ADV p).of old.toNat
  let en := s.fld (F.RING_PORT_CFG_ENABLE p)
  let s := s.when (en == 1 && wasEn == 0) (fun s => s.rpUpd p (fun x => { x with withheld := 0, fails := 0 }))
  let s := s.when (en == 0 && wasEn == 1) (fun s => (s.linkDrop p).set (F.TIME_PSTAT_STATE p) 3)
  let s := s.when (en == 1 && wasEn == 0) (fun s => s.set (F.TIME_PSTAT_STATE p) 1)
  s.when (s.fld (F.RING_PORT_CFG_RATE_ADV p) != wasAdv) (fun s =>
    (s.rpUpd p (fun x => { x with withheld := 0, fails := 0 })).retrain p)

/-- Hold-down ends (R69): the port retrains and FLAPS clears. -/
def State.holdEnd (s : State) (p : Nat) : State :=
  if s.on (F.RING_PORT_STATUS_HELD p) then
    let s := (s.set (F.RING_PORT_STATUS_HELD p) 0).set (F.RING_FLAP_FLAPS p) 0
    s.rpUpd p (fun x => { x with holdEnd := 0, flaps := [] })
  else s

/-- FLAP.RELEASE (R70): hold-down ends now and FLAPS clears; HOLD_LEVEL is kept. -/
def State.flapRelease (s : State) (p : Nat) : State :=
  ((s.holdEnd p).set (F.RING_FLAP_FLAPS p) 0).rpUpd p (fun x => { x with flaps := [] })

/-- HOLD_REMAIN (R70), in whole seconds. -/
def State.holdRemain (s : State) (p : Nat) : Nat :=
  if s.on (F.RING_PORT_STATUS_HELD p) then ((s.rp p).holdEnd - s.time.up + secU - 1) / secU else 0

/-- A port whose EEE_MODE permits it enters LPI (R30, R32). -/
def State.lpiEnter (s : State) (p : Nat) : State :=
  let m := s.fld (F.RING_PORT_CFG_EEE_MODE p)
  let quiet := s.modState == stQuiet
  let ok := m != 0 && (quiet || m == 1 || (m == 2 && Nat.ble ((s.rp p).lastAudio + 100 * msU) s.time.up))
  s.when (ok && s.linkUp p) (fun s => s.set (F.RING_PORT_STATUS_LPI p) 1)

/-- A frame passes: the port leaves LPI (R32), and an audio-class frame restarts the 100 ms of EEE_MODE 0b10. -/
def State.portAwake (s : State) (p cls : Nat) : State :=
  let s := s.when (s.on (F.RING_PORT_STATUS_LPI p)) (fun s => s.set (F.RING_PORT_STATUS_LPI p) 0)
  s.when (cls == 5) (fun s => s.rpUpd p (fun x => { x with lastAudio := s.time.up }))

/-! ### The bypass (R35 to R44) -/

/-- A ring block or its unit is unusable (R35). -/
def State.ringBlocked (s : State) : Bool :=
  let bad := s.test.unusable ||| s.rd A.TEST_RETIRED
  bad.testBit 0 || bad.testBit 1 || bad.testBit 2 || (s.fld F.PWR_UNIT_STATUS_FAILED).testBit 3 ||
    (s.fld F.PWR_UNIT_STATUS_FAILED).testBit 4 || (s.fld F.PWR_UNIT_STATUS_FAILED).testBit 5

/-- The module is in READY, RUN or QUIET. -/
def State.upAndReady (s : State) : Bool := s.pwr.powered && Nat.ble 3 s.modState

/-- CLOSE_CAUSE (R41). -/
def State.closeCause (s : State) : Nat :=
  if s.bypassOpen then 0
  else if s.ringBlocked then 4
  else if s.on F.RING_BYPASS_CTL_FORCE_CLOSE then 3
  else if s.upAndReady then 2 else 1

/-- The bypass is commanded closed (R35, R42). -/
def State.bypassClose (s : State) : State :=
  let st := s.fld F.RING_BYPASS_STATUS_STATE
  let s := (s.updRing (fun r => { r with join := .none })).set F.RING_BYPASS_STATUS_WAIT_S 0
  let s := s.when (st == 1 || st == 2) (fun s => s.set F.RING_BYPASS_STATUS_STATE 3)
  s.keep F.RING_BYPASS_STATUS_CLOSE_CAUSE s.closeCause

/-- A join is made (R42): the contacts start to open, unless a test of a ring PHY holds it back (R527). -/
def State.bypassJoin (s : State) : State :=
  let phy (b : Nat) : Bool := b == 1 || b == 2
  let s := s.testYield 2 phy
  if s.testBusy (fun b => phy b && !s.yields b) then s.updRing (fun r => { r with join := .now })
  else
    let s := (s.updRing (fun r => { r with join := .none })).set F.RING_BYPASS_STATUS_WAIT_S 0
    let st := s.fld F.RING_BYPASS_STATUS_STATE
    s.when (st == 0 || st == 3) (fun s => s.set F.RING_BYPASS_STATUS_STATE 1)

/-- The join policy is applied, as at entry to READY (R39, R42). -/
def State.joinPolicy (s : State) : State :=
  if s.on F.RING_BYPASS_CTL_FORCE_CLOSE || s.ringBlocked then s.keep F.RING_BYPASS_STATUS_CLOSE_CAUSE s.closeCause
  else
    let p := s.fld F.RING_BYPASS_JOIN_POLICY
    let d := s.fld F.RING_BYPASS_JOIN_DELAY_S
    let s := s.keep F.RING_BYPASS_STATUS_CLOSE_CAUSE s.closeCause
    if p = 0 then s.bypassJoin
    else if p = 1 then
      (s.set F.RING_BYPASS_STATUS_WAIT_S d).updRing (fun r => { r with join := .delay (s.time.up + d * secU) })
    else if p = 2 then s.updRing (fun r => { r with join := .schedule })
    else s.updRing (fun r => { r with join := .none })

/-- BYPASS_CTL is written (R40, R42); `force0` is FORCE_CLOSE before and `joinNow` the JOIN_NOW bit written. -/
def State.bypassCtl (s : State) (force0 joinNow : Bool) : State :=
  let force := s.on F.RING_BYPASS_CTL_FORCE_CLOSE
  let s := s.when (force && !force0) State.bypassClose
  let s := s.when (!force && force0 && s.upAndReady) State.joinPolicy
  if joinNow then
    if force || !s.upAndReady || s.ringBlocked then s.set F.RING_BYPASS_STATUS_JOIN_REFUSED 1 else s.bypassJoin
  else s

/-- A delayed or scheduled join falls due (R39, R42). -/
def State.joinDue (s : State) : State :=
  let s := (s.updRing (fun r => { r with join := .none })).set F.RING_BYPASS_STATUS_WAIT_S 0
  if s.on F.RING_BYPASS_CTL_FORCE_CLOSE || s.ringBlocked || !s.upAndReady then s else s.bypassJoin

/-- A contact operation (R476, R477). -/
def State.bypassOp (s : State) : State :=
  let s := s.life 2 1
  let n := getAt s.mgmt.life 2 0
  s.when (n == 9000000000) (fun s => (s.event F.MGMT_EVT_BYPASS_WEAR).log 17 0x50 2 [(Config.openCode 2).toNat, n % 2 ^ 32, n / 2 ^ 32])

/-- The contacts settle (R36, R41). -/
def State.bypassSettled (s : State) : State :=
  let st := s.fld F.RING_BYPASS_STATUS_STATE
  if st = 1 then
    let s := (s.set F.RING_BYPASS_STATUS_STATE 2).set F.RING_BYPASS_STATUS_CLOSE_CAUSE 0
    ((s.event F.RING_EVT_JOIN_DONE).bypassOp).log 2 1 1 [2, 0]
  else if st = 3 then
    let s := ((s.set F.RING_BYPASS_STATUS_STATE 0).linkDrop 0).linkDrop 1
    let s := s.keep F.RING_BYPASS_STATUS_CLOSE_CAUSE s.closeCause
    ((s.event F.RING_EVT_BYPASS_CLOSED).bypassOp).log 2 1 1 [0, s.fld F.RING_BYPASS_STATUS_CLOSE_CAUSE]
  else s

/-! ### Reservations (R45) -/

/-- CBS is written: IDLE4 is reduced where the sum exceeds 900. -/
def State.cbsWrite (s : State) (p : Nat) : State :=
  let i5 := s.fld (F.RING_CBS_IDLE5 p)
  if 900 < i5 + s.fld (F.RING_CBS_IDLE4 p) then (s.set (F.RING_CBS_IDLE4 p) (900 - i5)).event F.RING_EVT_CBS_CLAMP else s

/-! ### Gate lists (R48, R49) -/

/-- Address of a gate entry. -/
def gateAdr (p bank e : Nat) : Nat := A.RING_GATE (128 * p + 64 * bank + e)

/-- ENTRY_COUNT as it acts. -/
def State.entryCount (s : State) (p : Nat) : Nat := clampN 1 64 (s.fld (F.RING_QBV_CTL_ENTRY_COUNT p))

/-- The operating bank. -/
def State.operBank (s : State) (p : Nat) : Nat := s.fld (F.RING_QBV_CTL_OPER_BANK p)

/-- SWAP (R48, R49): refused where the other bank's intervals add up to more than 1 s. -/
def State.qbvSwap (s : State) (p : Nat) : State :=
  let bank := 1 - s.operBank p
  let n := s.entryCount p
  let sum := ((List.range n).map (fun e => s.rd (gateAdr p bank e) % 2 ^ 24)).sum
  if 125000000 < sum then s.event F.RING_EVT_QBV_ERR
  else s.rpUpd p (fun x => { x with gate := { x.gate with swap := true, nextCount := n, anchor := some (s.qbvAnchor p) } })

/-- The cycle starts again from the first entry, without a gap (R48). -/
def State.qbvRestart (s : State) (p : Nat) : State :=
  s.rpUpd p (fun x => { x with gate := { x.gate with running := true, entry := 0, cycleUp := s.time.up } })

/-- A cycle is to start: the time base has reached its anchor (R48). -/
def State.qbvDue (s : State) (p : Nat) : Bool :=
  match (s.rp p).gate.anchor with
  | some a => Nat.ble a s.time.tb
  | none => false

/-- A cycle starts at its anchor, and a pending swap takes effect (R48, R49). EN = 0 holds the gates open all the same.
(DEDUCED, notes/assumptions/34.md.) -/
def State.qbvCycle (s : State) (p : Nat) : State :=
  if s.qbvDue p then
    let g := (s.rp p).gate
    let s := s.when g.swap (fun s => s.set (F.RING_QBV_CTL_OPER_BANK p) (1 - s.operBank p))
    (s.rpUpd p (fun x => { x with gate := { x.gate with
      swap := false, anchor := none, count := if g.swap then g.nextCount else g.count } })).qbvRestart p
  else s

/-- The running entry's interval ends (R48): the next entry runs, or the next cycle starts without a gap. -/
def State.qbvExpire (s : State) (p : Nat) : State :=
  let g := (s.rp p).gate
  if !g.running then s
  else if g.entry + 1 < g.count then s.rpUpd p (fun x => { x with gate := { x.gate with entry := x.gate.entry + 1 } })
  else s.qbvRestart p

/-- The cycle is cut 1 s after it started (R48). -/
def State.qbvCut (s : State) (p : Nat) : State :=
  if (s.rp p).gate.running && Nat.ble ((s.rp p).gate.cycleUp + secU) s.time.up
  then (s.event F.RING_EVT_QBV_ERR).qbvRestart p else s

/-- The gate of a class is open (R48, R49); port C has no gates. -/
def State.gateOpen (s : State) (p cls : Nat) : Bool :=
  if p = 2 || !s.on (F.RING_QBV_CTL_EN p) || !(s.rp p).gate.running then true
  else (s.rd (gateAdr p (s.operBank p) (s.rp p).gate.entry)).testBit (24 + cls)

/-! ### Classes that a pause stops (R64, R65) -/

/-- Quanta as time on a port's link: 512 bit times each (R63). -/
def State.quantaUp (s : State) (p q : Nat) : Nat :=
  let r := s.linkMbps p
  if r = 0 then 0 else q * 512 * 1000 * nsU / r

/-- The egress stops the classes of a mask for the quanta; zero quanta lets them resume (R64, R65). -/
def State.stopClasses (s : State) (p mask q : Nat) : State :=
  let endUp := s.time.up + s.quantaUp p q
  s.rpUpd p (fun x => { x with stopped :=
    (if q = 0 then [] else [(mask, endUp)]) ++ x.stopped.map (fun e => (clearBits e.1 mask, e.2)) })

/-- The class is stopped at the egress now. -/
def State.classStopped (s : State) (p cls : Nat) : Bool :=
  (s.rp p).stopped.any (fun e => e.1.testBit cls && Nat.blt s.time.up e.2)

/-! ### PHY management (R562) -/

/-- A posted PHY management write reaches its Clause 45 register; a change of advertisement or control may drop the link,
which of the two the spec leaves open. (DEDUCED, notes/assumptions/31.md.) -/
def State.phyWrite (s : State) (p mmd reg val : Nat) : State :=
  if mmd = 1 ∨ mmd = 3 ∨ mmd = 7 then
    let k := phyBase p mmd reg
    let was := s.rd k
    let s := s.wr k (val % 2 ^ 16)
    let touchy := reg = 0 ∨ (mmd = 7 ∧ (reg = 16 ∨ reg = 32))
    if touchy ∧ was ≠ val % 2 ^ 16 then
      let (b, s) := s.free 1
      s.when (b == 1) (fun s => s.linkDrop p)
    else s
  else s

/-! ### The commands of the family -/

/-- AUTONEG_TRAINING_FAIL (R28): training at the negotiated rate has failed. -/
def execAutonegTrainingFail (p : Port) (rate : Nat) (s : State) : Result := s.run fun s => s.trainFail p.idx rate

/-- LINK_UP (R29). -/
def execLinkUp (p : Port) (rate dt : Nat) (s : State) : Result := s.run fun s => (s.advance dt).linkRise p.idx rate

/-- LINK_DOWN (R29). -/
def execLinkDown (p : Port) (dt : Nat) (s : State) : Result := s.run fun s => (s.advance dt).linkDrop p.idx

/-- HOLD_DOWN_END (R69). (DESIGN CHOICE, notes/assumptions/7.md.) -/
def execHoldDownEnd (p : Port) (dt : Nat) (s : State) : Result := s.run fun s => (s.advance dt).holdEnd p.idx

/-- HOLD_LEVEL_DECAY (R69): 3,600 s of continuous link have passed. -/
def execHoldLevelDecay (p : Port) (s : State) : Result := s.run fun s =>
  s.when (s.linkUp p.idx) (fun s => s.set (F.RING_FLAP_HOLD_LEVEL p.idx) 0)

/-- BYPASS_JOIN_DELAY_EXPIRY (R39). -/
def execBypassJoinDelayExpiry (s : State) : Result := s.run fun s =>
  match s.ring.join with
  | .delay _ => s.joinDue
  | _ => s

/-- BYPASS_CONTACTS_SETTLED (R36). -/
def execBypassContactsSettled (s : State) : Result := s.run State.bypassSettled

/-- QBV_CYCLE_START (R48), on port A, or B where `b` says so. -/
def execQbvCycleStart (b : Bool) (dt : Nat) (s : State) : Result := s.run fun s =>
  (s.advance dt).qbvCycle (if b then 1 else 0)

/-- QBV_ENTRY_EXPIRY (R48). -/
def execQbvEntryExpiry (b : Bool) (dt : Nat) (s : State) : Result := s.run fun s =>
  (s.advance dt).qbvExpire (if b then 1 else 0)

/-- QBV_CYCLE_CUT (R48). -/
def execQbvCycleCut (b : Bool) (dt : Nat) (s : State) : Result := s.run fun s =>
  (s.advance dt).qbvCut (if b then 1 else 0)

/-- PAUSE_REPEAT (R63). -/
def execPauseRepeat (p : Port) (s : State) : Result := s.run fun s =>
  let i := p.idx
  s.when ((s.rp i).xoff && Nat.blt s.poolLow (s.rp i).pool && s.pauses i) (fun s => s.sendPause i 0xFFFF)

/-- PAUSE_QUANTA_EXPIRY (R64): the classes whose paused time has ended resume. -/
def execPauseQuantaExpiry (p : Port) (dt : Nat) (s : State) : Result := s.run fun s =>
  let s := s.advance dt
  s.rpUpd p.idx (fun x => { x with stopped := x.stopped.filter (fun e => Nat.blt s.time.up e.2) })

/-- LPI_ENTRY (R32). -/
def execLpiEntry (p : Port) (dt : Nat) (s : State) : Result := s.run fun s => (s.advance dt).lpiEnter p.idx

/-- PHY_DATA_WRITE (R562): the write lands. -/
def execPhyDataWrite (p : Port) (mmd reg val : Nat) (s : State) : Result := s.run fun s =>
  s.when (s.unitOn (4 + p.idx)) (fun s => s.phyWrite p.idx mmd reg val)

end Sys2Proof.Machine
end

