-- ==== Sys2Proof/Machine/Switch.lean ====
section
/-! DEFINITION. The switch: VLANs, classes, frame limits, recovery, egress queues, shaping and the choice of the next frame
(R45 to R66). -/

namespace Sys2Proof.Machine

/-! ### Addresses and classes -/

/-- The module's base MAC address (R560). -/
def State.mac (s : State) : Nat := s.rd A.SYS_MAC_LO + 2 ^ 32 * (s.rd A.SYS_MAC_HI % 2 ^ 16)

/-- The address belongs to the module (R560). -/
def State.ownMac (s : State) (a : Nat) : Bool := Nat.ble s.mac a && Nat.blt a (s.mac + 4)

/-- The clockIdentity (R560). -/
def State.clockId (s : State) : Nat :=
  let m := s.mac
  (m / 2 ^ 24) * 2 ^ 40 + 0xFFFE * 2 ^ 24 + m % 2 ^ 24

/-- A multicast or broadcast destination. -/
def isMulti (a : Nat) : Bool := (a / 2 ^ 40) % 2 == 1

/-- The class of an untagged frame arriving on port C or from the host (R46, R410). -/
def dscpClass (f : Frame) : Nat := if f.dscp = 46 then 6 else if f.dscp = 34 then 5 else if f.scp then 4 else 0

/-- The class of a frame on arrival: its PCP, or by DSCP where it is untagged (R45, R46). -/
def arrivalClass (p : Nat) (f : Frame) : Nat := if f.tags = 0 ∧ p = 2 then dscpClass f else f.pcp % 8

/-! ### VLANs (R47, R562) -/

/-- Port C's PVID; 0 acts as 1. -/
def State.pvid (s : State) : Nat := let v := s.fld F.RING_PVID_C_PVID; if v = 0 then 1 else v

/-- The VLAN table entry of a VID: the lower of two. -/
def State.vlanEntry (s : State) (vid : Nat) : Option Nat :=
  if vid = 0 ∨ vid = 4095 then none
  else (List.range 64).find? (fun v => s.on (F.RING_VLAN_EN v) && s.fld (F.RING_VLAN_VID v) == vid)

/-- The VLAN is configured; port C's PVID is. -/
def State.vlanKnown (s : State) (vid : Nat) : Bool := (s.vlanEntry vid).isSome || vid == s.pvid

/-- The port is a member of the VLAN. -/
def State.vlanMember (s : State) (p vid : Nat) : Bool :=
  if p = 2 then vid == s.pvid || (match s.vlanEntry vid with | none => false | some v => s.on (F.RING_VLAN_C_MEMBER v))
  else s.vlanKnown vid

/-- The VLAN a frame arriving on a port belongs to; none where R47 drops it. (DEDUCED, notes/assumptions/32.md.) -/
def State.frameVlan (s : State) (p : Nat) (f : Frame) : Option Nat :=
  if f.vid = 0 then (if p = 2 then some s.pvid else none)
  else if s.vlanMember p f.vid then some f.vid else none

/-! ### Limits (R30, R58) -/

/-- A port's frame limit for a frame. -/
def State.frameLimit (s : State) (p : Nat) (f : Frame) : Nat :=
  if s.on (F.RING_PORT_CFG_JUMBO_EN p) then s.fld (F.RING_PORT_CFG_MAX_FRAME p)
  else if 2 ≤ f.tags then 1526 else 1522

/-! ### Recovery (R55, R56) -/

/-- What recovery decides about a frame. -/
inductive FrerOut where
  | pass
  | dup
  | rogue
  deriving DecidableEq, Repr

/-- RESET_MS as it acts (R57). -/
def State.resetMs (s : State) : Nat := max 1 (s.fld F.RING_FRER_CFG_RESET_MS)

/-- A new recovery entry. -/
def Frer.new : Frer := ⟨true, 0, 0, 0, 0⟩

/-- Zero bits among the history's positions from `fr` up to 31 that lie after the frame of the latest reset. -/
def lostBits (hist since fr : Nat) : Nat :=
  ((List.range 32).filter (fun i => Nat.ble fr i && Nat.blt i since && !hist.testBit i)).length

/-- The vector recovery algorithm (R55): the decision, the entry after it and the recovery counters' increments. -/
def State.frerStep (s : State) (e : Frer) (seq : Nat) : FrerOut × Frer × State :=
  let now := s.time.up
  if e.fresh || Nat.ble (e.lastPass + s.resetMs * msU) now then
    (.pass, ⟨false, seq, 1, 0, now⟩, if e.fresh then s else s.inc A.MSTAT_FRER_RESET)
  else
    let delta := sgn 16 ((seq + 0x10000 - e.lastSeq) % 0x10000)
    if delta ≥ 32 ∨ delta ≤ -32 then (.rogue, e, s)
    else if delta > 0 then
      let d := delta.toNat
      let s := s.bump A.MSTAT_FRER_LOST (lostBits e.hist e.since (32 - d))
      (.pass, ⟨false, seq, (e.hist <<< d ||| 1) % 2 ^ 32, min (e.since + d) 65535, now⟩, s)
    else
      let k := (-delta).toNat
      if e.hist.testBit k then (.dup, e, s)
      else (.pass, { e with hist := e.hist ||| 2 ^ k, lastPass := now }, if k = 0 then s else s.inc A.MSTAT_FRER_OOO)

/-- The frame is offered to a recovery entry; the copy's fate counts on the port it arrived on (R66). -/
def State.frerCount (s : State) (p : Nat) (o : FrerOut) : State :=
  match o with
  | .pass => s
  | .dup => s.inc (A.MSTAT_FRER_DUP p)
  | .rogue => s.inc (A.MSTAT_FRER_ROGUE p)

/-- Recovery by listener entry. -/
def State.frerListener (s : State) (p n seq : Nat) : Bool × State :=
  let e := (Sparse.find s.ring.frerL n).getD Frer.new
  let (o, e, s) := s.frerStep e seq
  let s := s.updRing (fun r => { r with frerL := Sparse.insert n e r.frerL })
  (o == .pass, s.frerCount p o)

/-- Recovery by source MAC address: 128 entries, the least recently used replaced (R56). -/
def State.frerSource (s : State) (p src seq : Nat) : Bool × State :=
  let e := ((s.ring.frerS.find? (fun c => c.1 == src)).map Prod.snd).getD Frer.new
  let (o, e, s) := s.frerStep e seq
  let s := s.updRing (fun r => { r with frerS := ((src, e) :: r.frerS.filter (fun c => c.1 != src)).take 128 })
  (o == .pass, s.frerCount p o)

/-! ### Egress queues and credits (R45) -/

/-- Frames of a class wait at the port. -/
def RingPort.waiting (x : RingPort) (cls : Nat) : Bool := x.queue.any (fun e => e.cls == cls)

/-- A credit after time has passed, in units of 2^-16 ns of a bit: it rises with the idle slope, to zero where nothing
waits. -/
def creditAfter (credit : Int) (waiting : Bool) (mbps idle dt : Nat) : Int :=
  let c := credit + (mbps * 1000 * idle * dt : Nat)
  if waiting then c else if credit > 0 then 0 else min c 0

/-- Credits as they stand now, by the slopes in force. -/
def State.creditTick (s : State) (p : Nat) : State :=
  let r := s.linkMbps p
  s.rpUpd p (fun x => { x with
    credit5 := creditAfter x.credit5 (x.waiting 5) r x.idle5 (s.time.up - x.up5)
    credit4 := creditAfter x.credit4 (x.waiting 4) r x.idle4 (s.time.up - x.up4)
    up5 := max x.up5 s.time.up
    up4 := max x.up4 s.time.up })

/-- At a frame boundary the reservations that CBS holds come into force (R45). -/
def State.slopes (s : State) (p : Nat) : State :=
  s.rpUpd p (fun x => { x with idle5 := s.fld (F.RING_CBS_IDLE5 p), idle4 := s.fld (F.RING_CBS_IDLE4 p) })

/-- Queue a frame at a port whose link is up. -/
def State.enqueue (s : State) (p : Nat) (e : EgFrame) : State :=
  if s.linkUp p then (s.creditTick p).rpUpd p (fun x => { x with queue := x.queue ++ [e] }) else s

/-- A frame the module originates, not yet tagged for the ring. -/
def State.ownFrame (s : State) (f : Frame) (cls : Nat) : EgFrame where
  frame := f
  cls := cls
  own := true
  timed := false
  host := none
  inUp := s.time.up
  addCorr := 0
  talker := none
  deferred := false
  tsHeld := false
  pool := none

/-- The next number of the generator shared by the module's ring traffic other than talker streams (R52). -/
def State.takeSharedSeq (s : State) : Nat × State :=
  (s.ring.sharedSeq, s.updRing (fun r => { r with sharedSeq := (r.sharedSeq + 1) % 65536 }))

/-- A frame goes onto the ring on both A and B with one R-TAG of hop count zero (R52, R53). -/
def State.toRing (s : State) (e : EgFrame) : State :=
  let (q, s) := s.takeSharedSeq
  let e := { e with frame := { e.frame with rtag := some (q, 0) } }
  (s.enqueue 0 e).enqueue 1 e

/-- Time, in units of 2^-16 ns, that a frame of n bytes takes at a port. -/
def State.wireUp (s : State) (p n : Nat) : Nat :=
  let r := s.linkMbps p
  if r = 0 then 0 else n * 8 * 1000 * nsU / r

/-- Bytes a frame occupies on a port's wire: the length of R58, the preamble and the R-TAG. -/
def wireBytes (e : EgFrame) : Nat := e.frame.len + 8 + (if e.frame.rtag.isSome then 6 else 0)

/-- Time until the gate of a class closes, in this cycle or in the next; none where it never closes (R48). -/
def State.gateLeft (s : State) (p cls : Nat) : Option Nat :=
  if p = 2 || !s.on (F.RING_QBV_CTL_EN p) || !(s.rp p).gate.running then none
  else
    let g := (s.rp p).gate
    let bank := s.operBank p
    let iv (e : Nat) : Nat := s.rd (gateAdr p bank e) % 2 ^ 24 * 8 * nsU
    let openAt (e : Nat) : Bool := (s.rd (gateAdr p bank e)).testBit (24 + cls)
    let start := g.cycleUp + ((List.range g.entry).map iv).sum
    let ahead := (List.range g.count).filter (fun e => Nat.ble g.entry e) ++ List.range g.count
    if ahead.all openAt then none
    else
      let run := ahead.takeWhile openAt
      some (start + (run.map iv).sum - s.time.up)

/-- The egress may start the frame now, its class's order apart: not stopped, its gate open long enough, and for a shaped
class a credit that is not negative. -/
def State.gateAllows (s : State) (p : Nat) (e : EgFrame) : Bool :=
  s.gateOpen p e.cls && (match s.gateLeft p e.cls with
    | none => true
    | some left => Nat.ble (s.wireUp p (wireBytes e)) left)

/-- The shaper lets the class send (R45). -/
def State.creditAllows (s : State) (p cls : Nat) : Bool :=
  if cls = 5 then decide ((s.rp p).credit5 ≥ 0) else if cls = 4 then decide ((s.rp p).credit4 ≥ 0) else true

/-- Whether the head frame of a class goes, waits, or is deferred by a closing gate or a full timestamp queue. -/
inductive HeadFate where
  | none
  | blocked
  | gate
  | stamp
  | go (e : EgFrame)
  deriving DecidableEq, Repr

/-- The fate of a class's head frame. -/
def State.headFate (s : State) (p cls : Nat) : HeadFate :=
  match (s.rp p).queue.find? (fun e => e.cls == cls) with
  | .none => .none
  | .some e =>
    if s.classStopped p cls then .blocked
    else if !s.gateOpen p cls then .blocked
    else if !s.gateAllows p e then .gate
    else if !s.creditAllows p cls then .blocked
    else if e.own && e.timed && e.host.isNone && Nat.ble 32 s.time.tsUsed then .stamp
    else .go e

/-- Mark the head frame of a class. -/
def markHead (cls : Nat) (f : EgFrame → EgFrame) : List EgFrame → List EgFrame
  | [] => []
  | e :: t => if e.cls = cls then f e :: t else e :: markHead cls f t

/-- Remove the head frame of a class. -/
def dropHead (cls : Nat) : List EgFrame → List EgFrame
  | [] => []
  | e :: t => if e.cls = cls then t else e :: dropHead cls t

/-- The frame the egress starts next (R45, R48, R93): the highest class whose head may go. Frames passed over for a
closing gate count once in QBV_HOLD, and those held for a timestamp entry once in TS_HOLD. -/
def State.pickFrame (s : State) (p : Nat) : List Nat → Option EgFrame × State
  | [] => (none, s)
  | cls :: rest =>
    match s.headFate p cls with
    | .go e => (some e, s.rpUpd p (fun x => { x with queue := dropHead cls x.queue }))
    | .gate =>
      let s := match (s.rp p).queue.find? (fun e => e.cls == cls) with
        | .none => s
        | .some e => s.when (!e.deferred) (fun s => (s.inc (A.MSTAT_QBV_HOLD p)).rpUpd p (fun x =>
            { x with queue := markHead cls (fun e => { e with deferred := true }) x.queue }))
      State.pickFrame s p rest
    | .stamp =>
      let s := match (s.rp p).queue.find? (fun e => e.cls == cls) with
        | .none => s
        | .some e => s.when (!e.tsHeld) (fun s => ((s.inc A.TIME_CNT_TS_HOLD).event F.TIME_EVT_TS_HOLD).rpUpd p (fun x =>
            { x with queue := markHead cls (fun e => { e with tsHeld := true }) x.queue }))
      State.pickFrame s p rest
    | .none => State.pickFrame s p rest
    | .blocked => State.pickFrame s p rest

/-- The classes in the order the egress serves them. -/
def classOrder : List Nat := [7, 6, 5, 4, 3, 2, 1, 0]

/-- The frame leaves: truncated at the egress limit (R60), counted, and charged to its class's credit. -/
def State.sendFrame (s : State) (p : Nat) (e : EgFrame) : State :=
  let lim := s.frameLimit p e.frame
  let cut := decide (lim < e.frame.len)
  let f := if cut then { e.frame with len := lim, fcsOk := false } else { e.frame with len := max 64 e.frame.len }
  let s := s.when cut (fun s => s.inc (A.MSTAT_TX_TRUNC p))
  let bits : Nat := (wireBytes { e with frame := f }) * 8
  let dur := s.wireUp p (bits / 8)
  let s := s.rpUpd p (fun x =>
    if e.cls = 5 then { x with
      credit5 := x.credit5 - (bits * (secU / 1000) * (1000 - x.idle5) : Nat), up5 := s.time.up + dur }
    else if e.cls = 4 then { x with
      credit4 := x.credit4 - (bits * (secU / 1000) * (1000 - x.idle4) : Nat), up4 := s.time.up + dur }
    else x)
  let s := match e.pool with
    | none => s
    | some i => s.poolFree i e.frame.len
  ((s.portAwake p e.cls).countTx p f.len).putOut (.frame (portOf p) f)

/-! ### Arrival checks (R47, R58, R59, R62, R66) -/

/-- What the arrival checks leave of a frame: its VLAN, its class, and the frame as the local receivers and as the
forwarding path see it. -/
structure Arrival where
  vlan : Nat
  cls : Nat
  loc : Frame
  fwd : Frame

/-- The checks every arriving frame passes, with their counters. PTP messages pass whatever their tagging
(R47), and so do the MAC control frames of R64 and R65. -/
def State.arrive (s : State) (p : Nat) (f : Frame) : Option Arrival × State :=
  let n := (s.rp p).rxRem + f.len
  let s := (s.bump (A.MSTAT_RX_BLK64 p) (n / 64)).rpUpd p (fun x => { x with rxRem := n % 64 })
  if f.len < 64 then (none, s.inc (A.MSTAT_RX_RUNT p))
  else
    let lim := s.frameLimit p f
    let big := decide (lim < f.len)
    let cls := arrivalClass p f
    let s := s.portAwake p cls
    let s := if big then s.inc (A.MSTAT_RX_OVERSIZE p) else s.when (!f.fcsOk) (fun s => s.inc (A.MSTAT_RX_FCS_ERR p))
    let free := match f.body with
      | .ptp _ => true
      | .pause _ => true
      | .pfc _ _ => true
      | _ => false
    match (if free then some f.vid else s.frameVlan p f) with
    | none => (none, s.inc (A.MSTAT_RX_VLAN_DROP p))
    | some v =>
      if cls < 4 ∧ 262144 < (s.rp p).pool + f.len then (none, s.inc (A.MSTAT_RX_POOL_DROP p))
      else
        let s := s.when (!big && f.fcsOk) (fun s => s.inc (A.MSTAT_RX_FRAMES p))
        let cutF := if big then { f with len := lim, fcsOk := false, oversize := true } else f
        let locF := if big && s.variant == .jk1024 && s.on (F.RING_PORT_CFG_RX_KEEP_ERR p)
          then { f with oversize := true } else cutF
        (some ⟨v, cls, locF, cutF⟩, s)

/-- The egress can start the frame while it arrives (R50): it runs at the same or a lower rate, and nothing waits there. -/
def State.cutsThrough (s : State) (inP outP : Nat) : Bool :=
  Nat.ble (s.linkMbps outP) (s.linkMbps inP) && (s.rp outP).queue.isEmpty

/-- A received frame is forwarded to an egress (R50, R58, R59); best effort occupies the ingress port's pool (R62).
(DEDUCED, notes/assumptions/32.md.) -/
def State.forward (s : State) (inP outP : Nat) (a : Arrival) (f : Frame) : State :=
  if !s.linkUp outP then s
  else
    let ct := s.cutsThrough inP outP
    if !f.fcsOk && !f.oversize && !ct then s
    else
      let e : EgFrame := { s.ownFrame f a.cls with
        own := false, pool := if a.cls < 4 then some inP else none }
      let s := s.enqueue outP e
      if a.cls < 4 then (s.rpUpd inP (fun x => { x with pool := x.pool + f.len })).poolCheck inP else s

/-- The frame as port C sends it: without R-TAG, untagged in its PVID (R47, R54). -/
def State.asSpur (s : State) (a : Arrival) (f : Frame) : Frame :=
  { f with rtag := none, vid := if a.vlan = s.pvid then 0 else a.vlan, tags := if a.vlan = s.pvid then f.tags - 1 else max 1 f.tags }

/-- Multicast from the ring reaches port C only for groups joined there in the last 260 s (R183). -/
def State.spurWants (s : State) (f : Frame) : Bool :=
  if f.dst = 0xFFFFFFFFFFFF ∨ !isMulti f.dst then true
  else match f.group with
    | some g => s.ring.joins.any (fun j => j.1 == g && Nat.blt s.time.up (j.2 + 260 * secU))
    | none => s.ring.joins.any (fun j => j.1 == f.dst && Nat.blt s.time.up (j.2 + 260 * secU))

/-- A frame from the ring goes to port C (R54, R183). -/
def State.toSpur (s : State) (inP : Nat) (a : Arrival) (f : Frame) : State :=
  if s.vlanMember 2 a.vlan && s.spurWants f then s.forward inP 2 a (s.asSpur a f) else s

/-- A frame from port C goes onto the ring (R52): both ports, one new R-TAG; untagged frames take the PVID and the class
found on arrival. -/
def State.spurToRing (s : State) (a : Arrival) (f : Frame) : State :=
  let f := { f with vid := a.vlan, tags := max 1 f.tags, pcp := a.cls }
  let (q, s) := s.takeSharedSeq
  let f := { f with rtag := some (q, 0) }
  (s.forward 2 0 a f).forward 2 1 a f

end Sys2Proof.Machine
end

