-- ==== Sys2Proof/Machine/Ptp.lean ====
section
/-! DEFINITION. PTP: the profiles, the best master, Sync, delay measurement and the transparent clock (R74 to R95). -/

namespace Sys2Proof.Machine

/-! ### Profiles (R74, R76, R77) -/

/-- The profile measures delay peer-to-peer on port C (R74). -/
def profileP2P (p : Nat) : Bool := p == 1 || p == 3 || p == 5

/-- A profile's default domain, and its defaults and ranges of LOG_SYNC, LOG_ANNOUNCE and LOG_DELAY (R74). -/
def profileDomain (p : Nat) : Nat := if p = 4 then 127 else 0
def profileSync (p : Nat) : Int × Int × Int :=
  if p ≤ 1 then (0, -7, 1) else if p ≤ 3 then (-3, -4, 1) else if p = 4 then (-3, -7, -1) else (-3, -5, 1)
def profileAnn (p : Nat) : Int × Int × Int :=
  if p ≤ 3 then (1, 0, 4) else if p = 4 then (-2, -3, 1) else (0, 0, 4)
def profileDelay (p : Nat) : Int × Int × Int :=
  if p ≤ 1 then (0, -7, 5) else if p ≤ 3 then (0, -3, 5) else if p = 4 then (-3, -7, 2) else (0, -3, 3)

/-- A transport as the profile reads it back (R76). -/
def profileTransport (p t : Nat) : Nat := if p = 5 then 2 else if 2 ≤ p ∧ t = 2 then 0 else t

/-- PTP_INTV is written (R74, R77): values outside a range are clamped. -/
def State.ptpIntv (s : State) : State :=
  let p := s.fld F.TIME_PTP_CFG_PROFILE
  let cl (f : Fld) (r : Int × Int × Int) (s : State) : State := s.keep f (unsgn 8 (clampI r.2.1 r.2.2 (sgn 8 (s.fld f))))
  let s := cl F.TIME_PTP_INTV_LOG_SYNC (profileSync p) s
  let s := cl F.TIME_PTP_INTV_LOG_ANNOUNCE (profileAnn p) s
  let s := cl F.TIME_PTP_INTV_LOG_DELAY (profileDelay p) s
  s.keep F.TIME_PTP_INTV_ANN_TIMEOUT (clampN 2 10 (s.fld F.TIME_PTP_INTV_ANN_TIMEOUT))

/-- A changed profile takes effect at the next Sync interval (R76). -/
def State.profileTick (s : State) : State :=
  if s.time.profilePend then s.updTime (fun t => { t with profilePend := false, profile := s.fld F.TIME_PTP_CFG_PROFILE }) else s

/-- The E2E delay mechanism acts on port C. -/
def State.e2e (s : State) : Bool := !profileP2P s.time.profile

/-! ### The best master (R79, R80) -/

/-- The clock quality the module advertises (R80): class, accuracy and time source. -/
def State.quality (s : State) : Nat × Nat × Nat :=
  let st := s.fld F.CLK_REF_STATUS_STATE
  let sel := s.refInUse
  let ppsTod := sel == 4 && s.on F.CLK_TOD_CFG_TOD_EN
  if st = clkLocked ∧ ppsTod then (6, 0x21, 0x20)
  else if st = clkLocked ∧ (sel = 5 ∨ sel = 6) then (13, 0xFE, 0x90)
  else if st = clkHold then
    if s.clk.lockedRef = 4 ∧ s.on F.CLK_TOD_CFG_TOD_EN = true ∧ s.fld F.CLK_HO_STATUS_HO_S < 3600 then (7, 0xFE, 0xA0) else (52, 0xFE, 0xA0)
  else (248, 0xFE, 0xA0)

/-- The UTC offset in force (R465). -/
def State.utcOff (s : State) : Nat := s.mgmt.utcOffset.getD (s.fld F.CLK_TOD_CFG_UTC_OFFSET)

/-- The dataset of the module's own clock. -/
def State.ownAnn (s : State) : Ann :=
  let (cls, acc, src) := s.quality
  { prio1 := s.fld F.TIME_PTP_PRIO_PRIORITY1, cls := cls, acc := acc, var := 0xFFFF
    prio2 := s.fld F.TIME_PTP_PRIO_PRIORITY2, identity := s.clockId, steps := 0, utcOffset := s.utcOff
    utcValid := true, timeSource := src }

/-- The figures the best-master comparison takes in order. -/
def annKey (a : Ann) : List Nat :=
  [a.prio1, a.cls, a.acc, a.var, a.prio2, a.identity, a.steps]

/-- Lexicographic order. -/
def lexLt : List Nat → List Nat → Bool
  | a :: t, b :: u => Nat.blt a b || (a == b && lexLt t u)
  | [], _ :: _ => true
  | _, [] => false

/-- A dataset is better than another. -/
def annBetter (a b : Ann) : Bool := lexLt (annKey a) (annKey b)

/-- The best of the ports' datasets with its port. -/
def bestAnn (l : List (Option Ann)) : Option (Nat × Ann) :=
  ((List.range l.length).zip l).foldl (fun b (i, a) => match a, b with
    | some a, none => some (i, a)
    | some a, some (_, c) => if annBetter a c then some (i, a) else b
    | none, _ => b) none

/-- Port states (R86). -/
def State.portStates (s : State) : State :=
  forN 3 (fun p s =>
    let heard := match (s.tport p).ann, s.time.gm with
      | some a, some g => a.identity == g.identity
      | _, _ => false
    let inUse := if p = 2 then s.time.gmPort == 2
      else if s.twinActive then s.fld F.TIME_TWIN_STATUS_IN_USE == p + 1 || (s.fld F.TIME_TWIN_STATUS_IN_USE == 0 && s.time.gmPort == p)
      else s.time.gmPort == p
    let st := if !s.on (F.RING_PORT_CFG_ENABLE p) then 3
      else if !s.linkUp p then 1
      else if s.time.isGm then 6
      else if heard && inUse then 9
      else if heard then 7
      else 4
    s.keep (F.TIME_PSTAT_STATE p) st) s

/-- The best master algorithm runs (R79); a change of grandmaster follows R103. -/
def State.bmca (s : State) : State :=
  let best := bestAnn (s.time.ports.map (fun t => t.ann))
  let own := s.ownAnn
  let canMaster := !s.on F.TIME_PTP_CFG_SLAVE_ONLY
  let win := canMaster && (match best with | none => true | some (_, a) => annBetter own a)
  let (gm, port) : Option Ann × Nat := if win then (some own, 3) else match best with
    | none => (none, 3)
    | some (p, a) => (some a, p)
  let oldId := (s.time.gm.map (fun g => g.identity)).getD 0
  let newId := (gm.map (fun g => g.identity)).getD 0
  let s := s.updTime (fun t => { t with gm := gm, gmPort := port, isGm := win })
  let s := s.updMgmt (fun m => { m with utcOffset := match gm with
    | some g => if g.utcValid && !win then some g.utcOffset else none
    | none => none })
  let s :=
    if oldId = newId then s
    else
      let s := (s.event F.TIME_EVT_GM_CHANGE).log 4 4 1
        [oldId % 2 ^ 32, oldId / 2 ^ 32, newId % 2 ^ 32, newId / 2 ^ 32]
      let s := s.twinNewGm
      if gm.isNone ∨ win then
        let s := s.wr A.TIME_OFFSET 0x80000000
        forN 4 (fun r s => s.when (r != 0 && (s.qualified r || s.fld (F.CLK_REF_INFO_STATE r) == 1))
          (fun s => s.disqualify r 8)) s
      else s
  let s := s.twinFlags.portStates
  s.when (s.fld (F.TIME_PSTAT_STATE 2) != 9 && (s.qualified 3 || s.fld (F.CLK_REF_INFO_STATE 3) == 1))
    (fun s => s.disqualify 3 8)

/-- PTP_CFG is written (R76); `old` is the word before. -/
def State.ptpCfg (s : State) (old : Word) : State :=
  let o := old.toNat
  let wasP := F.TIME_PTP_CFG_PROFILE.of o
  let s := s.when (Nat.ble 6 (s.fld F.TIME_PTP_CFG_PROFILE)) (fun s => s.set F.TIME_PTP_CFG_PROFILE wasP)
  let p := s.fld F.TIME_PTP_CFG_PROFILE
  let s := s.when (s.fld F.TIME_PTP_CFG_TRANSPORT == 3) (fun s => s.set F.TIME_PTP_CFG_TRANSPORT (F.TIME_PTP_CFG_TRANSPORT.of o))
  let s := s.keep F.TIME_PTP_CFG_TRANSPORT (profileTransport p (s.fld F.TIME_PTP_CFG_TRANSPORT))
  let s := s.when (s.on F.SYS_STATUS_CFG_DEFAULT) (fun s => s.keep F.TIME_PTP_CFG_SLAVE_ONLY 1)
  let s :=
    if p = wasP then s
    else
      let s := s.set F.TIME_PTP_CFG_DOMAIN (profileDomain p)
      let s := s.set F.TIME_PTP_INTV_LOG_SYNC (unsgn 8 (profileSync p).1)
      let s := s.set F.TIME_PTP_INTV_LOG_ANNOUNCE (unsgn 8 (profileAnn p).1)
      let s := s.set F.TIME_PTP_INTV_LOG_DELAY (unsgn 8 (profileDelay p).1)
      (s.updTime (fun t => { t with profilePend := true })).twinAbandon
  let monChanged := F.TIME_PTP_CFG_MON_DOMAIN.of o != s.fld F.TIME_PTP_CFG_MON_DOMAIN || !s.on F.TIME_PTP_CFG_MON_EN ||
    s.fld F.TIME_PTP_CFG_MON_DOMAIN == s.fld F.TIME_PTP_CFG_DOMAIN
  let s := s.when monChanged (fun s => (s.wr A.TIME_MON_OFFSET 0x80000000).updTime (fun t => { t with
    monVals := [], ports := t.ports.map (fun x => { x with monAnn := none, monSync := none }) }))
  if s.fld F.TIME_PTP_CFG_DOMAIN ≠ F.TIME_PTP_CFG_DOMAIN.of o then
    (s.updTime (fun t => { t with ports := t.ports.map (fun x => { x with ann := none, rxSync := none }) })).bmca
  else if s.on F.TIME_PTP_CFG_SLAVE_ONLY ≠ (F.TIME_PTP_CFG_SLAVE_ONLY.of o != 0) then s.bmca
  else s

/-! ### Delays (R75, R81, R86) -/

/-- A port's mean link delay, in units of 2^-16 ns: over the last 16 exchanges, or on port C under E2E the mean path
delay (R81). -/
def State.linkDelay (s : State) (p : Nat) : Int :=
  if p = 2 ∧ s.e2e then s.time.meanPath.getD 0
  else
    let l := (s.tport p).delays
    if l.isEmpty then 0 else roundDiv l.sum l.length

/-- delayAsymmetry of a port (R85). -/
def State.asym (s : State) (p : Nat) : Int := sgn 32 (s.rd (A.TIME_ASYM p))

/-- A Pdelay exchange yields a link delay (R75, R86). -/
def State.addDelay (s : State) (p : Nat) (d : Int) : State :=
  let s := s.tportUpd p (fun t => { t with delays := (d :: t.delays).take 16, pdelayT1 := none, pdelayResp := none })
  s.set (F.TIME_PSTAT_LINK_DELAY p) (clampI 0 (2 ^ 24 - 1) (toNs (s.linkDelay p))).toNat

/-! ### Frames the module originates (R78, R87) -/

/-- Transport over UDP version 6. -/
def State.ptpUdp6 (s : State) : Bool := s.fld F.TIME_PTP_CFG_TRANSPORT == 1

/-- A PTP frame of the module's own. -/
def State.ptpFrame (s : State) (m : Ptp) : Frame where
  dst := match m.kind with
    | .pdelayReq => 0x0180C200000E
    | .pdelayResp => 0x0180C200000E
    | .pdelayRespFollowUp => 0x0180C200000E
    | _ => 0x011B19000000
  src := s.mac
  vid := 0
  tags := 0
  pcp := s.fld F.TIME_PTP_PRIO_PCP
  dscp := s.fld F.TIME_PTP_PRIO_DSCP
  scp := false
  group := none
  rtag := none
  len := 64
  fcsOk := true
  oversize := false
  tsErr := 0
  body := .ptp m
  raw := []

/-- A PTP message of the module's own. -/
def State.ptpMsg (s : State) (p : Nat) (k : PtpKind) (seq : Nat) : Ptp where
  kind := k
  domain := s.fld F.TIME_PTP_CFG_DOMAIN
  srcId := s.clockId
  srcPort := p + 1
  seq := seq
  corr := 0
  origin := 0
  twoStep := false
  reqId := 0
  reqPort := 0
  udp6 := s.ptpUdp6
  trailer := s.ptpUdp6
  ann := none

/-- Queue a PTP message of the module's own on a port; `timed` frames take a timestamp entry (R93). -/
def State.ptpSend (s : State) (p : Nat) (m : Ptp) (timed : Bool) : State :=
  s.enqueue p { s.ownFrame (s.ptpFrame m) (s.fld F.TIME_PTP_PRIO_PCP) with timed := timed }

/-- As grandmaster, a Sync on each port (R79, R87). -/
def State.syncOriginate (s : State) : State :=
  let s := s.profileTick
  if s.time.isGm then
    forN 3 (fun p s =>
      let q := (s.tport p).seqSync
      let s := s.tportUpd p (fun t => { t with seqSync := (q + 1) % 65536 })
      s.ptpSend p { s.ptpMsg p .sync q with twoStep := s.on F.TIME_PTP_CFG_TWO_STEP } true) s
  else s

/-- As grandmaster, an Announce on each port (R79, R80). -/
def State.announceOriginate (s : State) : State :=
  let s := s.bmca
  if s.time.isGm then
    forN 3 (fun p s =>
      let q := (s.tport p).seqAnn
      let s := s.tportUpd p (fun t => { t with seqAnn := (q + 1) % 65536 })
      s.ptpSend p { s.ptpMsg p .announce q with ann := some s.ownAnn } false) s
  else s

/-- A Pdelay_Req on a ring port, or on port C under a P2P profile (R75). -/
def State.pdelayReq (s : State) (p : Nat) : State :=
  if (p < 2 ∨ !s.e2e) ∧ s.linkUp p then
    let q := (s.tport p).seqPdelay
    let s := s.tportUpd p (fun t => { t with seqPdelay := (q + 1) % 65536, pdelayT1 := none, pdelayResp := none })
    s.ptpSend p (s.ptpMsg p .pdelayReq q) true
  else s

/-- A Delay_Req on port C, as slave of a grandmaster there (R81). -/
def State.delayReq (s : State) : State :=
  if s.e2e && s.time.gmPort == 2 && !s.time.isGm && s.time.gm.isSome then
    let q := (s.tport 2).seqDelay
    let s := s.tportUpd 2 (fun t => { t with seqDelay := (q + 1) % 65536 })
    s.ptpSend 2 (s.ptpMsg 2 .delayReq q) true
  else s

/-! ### Messages that egress changes (R87 to R91) -/

/-- An egress of a PTP message: timestamps are written, residence and the other terms are added to correctionField, and
two-step corrections are stored or applied. The message as it leaves is returned. -/
def State.ptpEgress (s : State) (p : Nat) (e : EgFrame) (m : Ptp) : Ptp × State :=
  let now : Int := s.time.tb
  if e.own then
    let s := s.when e.timed (fun s => s.updTime (fun t => { t with tsUsed := min 32 (t.tsUsed + 1) }))
    match m.kind with
    | .sync =>
      if m.twoStep then
        (m, s.ptpSend p { s.ptpMsg p .followUp m.seq with origin := s.time.tb / nsU, corr := s.time.tb % nsU } false)
      else ({ m with origin := s.time.tb / nsU, corr := s.time.tb % nsU }, s)
    | .pdelayReq => (m, s.tportUpd p (fun t => { t with pdelayT1 := some (m.seq, s.time.up) }))
    | .pdelayResp =>
      if m.twoStep then
        (m, s.ptpSend p { s.ptpMsg p .pdelayRespFollowUp m.seq with
          origin := s.time.tb / nsU, corr := m.corr + s.time.tb % nsU, reqId := m.reqId, reqPort := m.reqPort } false)
      else ({ m with corr := m.corr + (s.time.up - e.inUp : Nat) }, s)
    | .delayReq => (m, s.updTime (fun t => { t with e2eT1 := some (m.seq, now) }))
    | _ => (m, s)
  else
    let owed : Int := (s.time.up - e.inUp : Nat) + e.addCorr
    match m.kind with
    | .sync =>
      if m.udp6 && !m.trailer && !m.twoStep then (m, s.inc A.TIME_CNT_V6_NO_TRAILER)
      else if m.twoStep then
        let entry : TwoStep := ⟨m.domain, m.srcId, m.srcPort, m.seq, owed, s.time.up⟩
        (m, s.tportUpd p (fun t => { t with table := (entry :: t.table).take 64 }))
      else ({ m with corr := m.corr + owed }, s)
    | .followUp =>
      let hit (x : TwoStep) : Bool := x.domain == m.domain && x.srcId == m.srcId && x.srcPort == m.srcPort && x.seq == m.seq
      match (s.tport p).table.find? hit with
      | none => (m, s.inc A.TIME_CNT_FU_ORPHAN)
      | some x =>
        let s := s.tportUpd p (fun t => { t with table := t.table.filter (fun y => !hit y) })
        if m.udp6 && !m.trailer then (m, s.inc A.TIME_CNT_V6_NO_TRAILER) else ({ m with corr := m.corr + x.corr }, s)
    | _ => (m, s)

/-! ### Messages received (R75, R79, R81, R82, R91, R92) -/

/-- The ingress timestamp of an event message (R84). -/
def State.rxTime (s : State) (f : Frame) : Int := s.time.tb + f.tsErr

/-- A Sync's offset from the master: the time base less the master's time. -/
def State.theta (s : State) (p : Nat) (t2 : Int) (origin : Nat) (corr : Int) : Int :=
  t2 - (origin * nsU : Nat) - corr - s.linkDelay p - s.asym p

/-- A Sync time of the active domain's grandmaster is complete. -/
def State.syncComplete (s : State) (p seq : Nat) (t2 : Int) (origin : Nat) (corr : Int) : State :=
  let s := s.when (p == 2) (fun s => s.updTime (fun t => { t with syncLast := some (t2 - (origin * nsU : Nat) - corr, 0) }))
  s.syncMeasured p seq (s.theta p t2 origin corr) corr

/-- A Sync time of the monitor domain's best master is complete (R82). -/
def State.monComplete (s : State) (p : Nat) (t2 : Int) (origin : Nat) (corr : Int) : State :=
  let l := (-(s.theta p t2 origin corr) :: s.time.monVals).take 16
  let s := s.updTime (fun t => { t with monVals := l })
  s.when (l.length == 16) (fun s => s.wr A.TIME_MON_OFFSET (nsReg (roundDiv l.sum 16)))

/-- The monitor domain is measured (R76, R82). -/
def State.monOn (s : State) : Bool :=
  s.on F.TIME_PTP_CFG_MON_EN && s.fld F.TIME_PTP_CFG_MON_DOMAIN != s.fld F.TIME_PTP_CFG_DOMAIN

/-- The port of the monitor domain's best master. -/
def State.monPort (s : State) : Option Nat := (bestAnn (s.time.ports.map (fun t => t.monAnn))).map Prod.fst

/-- The sender of a message is the source of the port's stored Announce. -/
def srcKey (m : Ptp) : Nat := m.srcId * 65536 + m.srcPort

/-- An Announce is received (R79, R82). (DEDUCED, notes/assumptions/35.md.) -/
def State.announceRx (s : State) (p : Nat) (m : Ptp) (a : Ann) : State :=
  if m.domain = s.fld F.TIME_PTP_CFG_DOMAIN then
    let t := s.tport p
    let take := match t.ann with
      | none => true
      | some b => t.annSrc == srcKey m || annBetter a b
    (s.when take (fun s => s.tportUpd p (fun t => { t with ann := some a, annSrc := srcKey m }))).bmca
  else if s.monOn && m.domain == s.fld F.TIME_PTP_CFG_MON_DOMAIN then
    let t := s.tport p
    let take := match t.monAnn with
      | none => true
      | some b => t.monSrc == srcKey m || annBetter a b
    s.when take (fun s => s.tportUpd p (fun t => { t with monAnn := some a, monSrc := srcKey m }))
  else s

/-- A Sync is received (R82, R107). -/
def State.syncRx (s : State) (p : Nat) (f : Frame) (m : Ptp) : State :=
  let s := s.profileTick
  let t := s.tport p
  if m.domain = s.fld F.TIME_PTP_CFG_DOMAIN then
    if !s.time.isGm && t.annSrc == srcKey m && (match t.ann, s.time.gm with
        | some a, some g => a.identity == g.identity
        | _, _ => false) then
      if m.twoStep then s.tportUpd p (fun t => { t with rxSync := some ⟨m.seq, s.rxTime f, m.corr⟩ })
      else s.syncComplete p m.seq (s.rxTime f) m.origin m.corr
    else s
  else if s.monOn && m.domain == s.fld F.TIME_PTP_CFG_MON_DOMAIN && s.monPort == some p && t.monSrc == srcKey m then
    if m.twoStep then s.tportUpd p (fun t => { t with monSync := some ⟨m.seq, s.rxTime f, m.corr⟩ })
    else s.monComplete p (s.rxTime f) m.origin m.corr
  else s

/-- A Follow_Up completes the Sync it belongs to. -/
def State.followUpRx (s : State) (p : Nat) (m : Ptp) : State :=
  let t := s.tport p
  if m.domain = s.fld F.TIME_PTP_CFG_DOMAIN then
    match t.rxSync with
    | some x =>
      if x.seq = m.seq ∧ t.annSrc = srcKey m then
        (s.tportUpd p (fun t => { t with rxSync := none })).syncComplete p m.seq x.t2 m.origin (x.corr + m.corr)
      else s
    | none => s
  else if s.monOn then
    match t.monSync with
    | some x =>
      if x.seq = m.seq ∧ t.monSrc = srcKey m then
        (s.tportUpd p (fun t => { t with monSync := none })).monComplete p x.t2 m.origin (x.corr + m.corr)
      else s
    | none => s
  else s

/-- Pdelay messages are for this link (R75, R87). -/
def State.pdelayRx (s : State) (p : Nat) (f : Frame) (m : Ptp) : State :=
  if p = 2 ∧ s.e2e then s
  else match m.kind with
    | .pdelayReq =>
      let two := s.on F.TIME_PTP_CFG_TWO_STEP
      let r := { s.ptpMsg p .pdelayResp m.seq with
        twoStep := two, reqId := m.srcId, reqPort := m.srcPort, corr := m.corr
        origin := if two then (s.rxTime f / nsU).toNat else 0 }
      s.ptpSend p r true
    | .pdelayResp =>
      match (s.tport p).pdelayT1 with
      | some (q, t1) =>
        if q = m.seq ∧ m.reqId = s.clockId ∧ m.reqPort = p + 1 then
          let t4 : Int := s.time.up + f.tsErr
          if m.twoStep then s.tportUpd p (fun t => { t with pdelayResp := some (q, t4, m.origin * nsU, m.corr) })
          else s.addDelay p (roundDiv (t4 - t1 - m.corr) 2)
        else s
      | none => s
    | .pdelayRespFollowUp =>
      match (s.tport p).pdelayT1, (s.tport p).pdelayResp with
      | some (_, t1), some (q, t4, t2, c) =>
        if q = m.seq ∧ m.reqId = s.clockId ∧ m.reqPort = p + 1 then
          s.addDelay p (roundDiv (t4 - t1 - ((m.origin * nsU : Nat) - t2) - c - m.corr) 2)
        else s
      | _, _ => s
    | _ => s

/-- Delay_Req and Delay_Resp on port C under E2E (R81). -/
def State.delayRx (s : State) (f : Frame) (m : Ptp) : State :=
  if !s.e2e then s
  else match m.kind with
    | .delayReq =>
      if s.on F.TIME_PTP_CFG_SPUR_RESP then
        s.ptpSend 2 { s.ptpMsg 2 .delayResp m.seq with
          domain := m.domain, reqId := m.srcId, reqPort := m.srcPort, origin := (s.rxTime f / nsU).toNat } false
      else s
    | .delayResp =>
      match s.time.e2eT1, s.time.syncLast with
      | some (q, t3), some (ms, _) =>
        if q = m.seq ∧ m.reqId = s.clockId then
          s.updTime (fun t => { t with meanPath := some (roundDiv (ms + ((m.origin * nsU : Nat) - t3 - m.corr)) 2), e2eT1 := none })
        else s
      | _, _ => s
    | _ => s

/-- A copy that R92 drops. -/
def State.ptpLoop (s : State) (p : Nat) (m : Ptp) : Bool :=
  m.srcId == s.clockId || s.time.spurIds.any (fun i => i.1 == m.srcId && i.2 == m.srcPort) ||
    s.time.seen.any (fun x => x.port == p && x.domain == m.domain && x.kind == m.kind && x.srcId == m.srcId &&
      x.srcPort == m.srcPort && x.seq == m.seq && Nat.ble s.time.up (x.up + secU))

/-- The transparent clock forwards a message to the other two ports (R88, R90, R91). -/
def State.ptpForward (s : State) (p : Nat) (a : Arrival) (m : Ptp) : State :=
  match m.kind with
  | .pdelayReq => s
  | .pdelayResp => s
  | .pdelayRespFollowUp => s
  | .delayReq => s
  | .delayResp => s
  | _ =>
    let add := s.linkDelay p + s.asym p
    let cls := if a.fwd.tags = 0 ∧ p < 2 then 6 else a.cls
    forN 3 (fun q s =>
      if q = p ∨ !s.linkUp q ∨ (!a.fwd.fcsOk && !s.cutsThrough p q) then s
      else s.enqueue q { s.ownFrame { a.fwd with rtag := none } cls with own := false, addCorr := add }) s

/-- A PTP message arrives (R75 to R92). (DEDUCED, notes/assumptions/35.md.) -/
def State.ptpRx (s : State) (p : Nat) (a : Arrival) (m : Ptp) : State :=
  if p < 2 ∧ s.ptpLoop p m then s.inc A.TIME_CNT_PTP_LOOP_DROP
  else
    let s :=
      if p < 2 then s.updTime (fun t => { t with seen :=
        ⟨p, m.domain, m.kind, m.srcId, m.srcPort, m.seq, t.up⟩ :: t.seen.filter (fun x => Nat.ble t.up (x.up + secU)) })
      else s.updTime (fun t => { t with spurIds :=
        ((m.srcId, m.srcPort) :: t.spurIds.filter (fun i => !(i.1 == m.srcId && i.2 == m.srcPort))).take 16 })
    let s :=
      if !a.loc.fcsOk || a.loc.oversize then s
      else match m.kind with
        | .announce => match m.ann with | some x => s.announceRx p m x | none => s
        | .sync => s.syncRx p a.loc m
        | .followUp => s.followUpRx p m
        | .pdelayReq => s.pdelayRx p a.loc m
        | .pdelayResp => s.pdelayRx p a.loc m
        | .pdelayRespFollowUp => s.pdelayRx p a.loc m
        | .delayReq => if p = 2 then s.delayRx a.loc m else s
        | .delayResp => if p = 2 then s.delayRx a.loc m else s
        | .other => s
    if s.on F.TIME_PTP_CFG_TC_EN then s.ptpForward p a m else s

/-- The announce receipt timeout of a port (R77, R79). -/
def State.announceTimeout (s : State) (p : Nat) : State :=
  (s.tportUpd p (fun t => { t with ann := none, rxSync := none })).bmca

/-! ### The commands of the family -/

/-- ANNOUNCE_RECEIPT_TIMEOUT (R77). -/
def execAnnounceReceiptTimeout (p : Port) (s : State) : Result := s.run fun s =>
  s.when (s.unitOn 3) (fun s => s.announceTimeout p.idx)

/-- PDELAY_REQ_TIMER (R75). -/
def execPdelayReqTimer (p : Port) (dt : Nat) (s : State) : Result := s.run fun s =>
  let s := s.advance dt
  s.when (s.unitOn 3) (fun s => s.pdelayReq p.idx)

/-- DELAY_REQ_TIMER (R81). -/
def execDelayReqTimer (dt : Nat) (s : State) : Result := s.run fun s =>
  let s := s.advance dt
  s.when (s.unitOn 3) State.delayReq

/-- SYNC_ORIGINATE (R87). -/
def execSyncOriginate (dt : Nat) (s : State) : Result := s.run fun s =>
  let s := s.advance dt
  s.when (s.unitOn 3) State.syncOriginate

/-- ANNOUNCE_ORIGINATE (R79). -/
def execAnnounceOriginate (dt : Nat) (s : State) : Result := s.run fun s =>
  let s := s.advance dt
  s.when (s.unitOn 3) State.announceOriginate

/-- TWO_STEP_ENTRY_EXPIRY (R91): entries older than 1 s are freed. -/
def execTwoStepEntryExpiry (p : Port) (dt : Nat) (s : State) : Result := s.run fun s =>
  let s := s.advance dt
  s.tportUpd p.idx (fun t => { t with table := t.table.filter (fun x => Nat.blt s.time.up (x.up + secU)) })

/-- TS_QUEUE_ENTRY_FREE (R93). -/
def execTsQueueEntryFree (s : State) : Result := s.run fun s =>
  s.updTime (fun t => { t with tsUsed := t.tsUsed - 1 })

end Sys2Proof.Machine
end

