-- ==== Sys2Proof/Machine/Hmq.lean ====
section
/-! DEFINITION. The host message queues (spec chapter 15): offering, admitting, writing, reading, flushing and resetting,
and the commands of the HMQ family. -/

namespace Sys2Proof.Machine

/-- The queue's state. -/
def State.q (s : State) (q : Nat) : Hmq := getAt s.hmq q Hmq.reset

/-- Replace a queue's state. -/
def State.putQ (s : State) (q : Nat) (h : Hmq) : State := { s with hmq := setAt s.hmq q h }

/-- Words written and not yet read (R444). -/
def Hmq.depth (h : Hmq) : Nat := (h.held.map (fun m => m.written - m.taken)).sum

/-- Words promised and not yet written (R444). -/
def Hmq.resv (h : Hmq) : Nat := (h.held.map (fun m => m.words.length - m.written)).sum

/-- Free words (R444). -/
def Hmq.freeWords (h : Hmq) : Nat := 16384 - h.depth - h.resv

/-- Complete messages whose last word has not been read (R449). -/
def Hmq.msgs (h : Hmq) : Nat := (h.held.filter (fun m => m.written == m.words.length)).length

/-- The message is complete, or its written words have reached the cut-through threshold (R446); once eligible it stays
so. -/
def HeldMsg.refresh (ct : Nat) (m : HeldMsg) : HeldMsg :=
  { m with eligible := m.eligible || m.written == m.words.length ||
      (Nat.ble 1 ct && Nat.ble ct 65 && Nat.ble (ct * 64) (4 * m.written)) }

/-- Eligibility under the queue's CT_64 now. -/
def State.qRefresh (s : State) (q : Nat) : State :=
  let h := s.q q
  s.putQ q { h with held := h.held.map (HeldMsg.refresh (s.fld (F.HMQ_CFG_CT_64 q))) }

/-- The write port serves a waiting message after one released by the same commit whose producer comes first, and Yunasel's
after those that a commit releases (R443). -/
def Msg.yields (w m : Msg) : Bool := w.src == 4 || (w.ef == m.ef && Nat.blt m.src w.src)

/-- A producer hands a message to a queue: it waits for the write port (R443). -/
def State.push (s : State) (m : Msg) : State :=
  let h := s.q m.queue
  s.putQ m.queue { h with waiting :=
    if m.src = 4 then h.waiting ++ [m]
    else h.waiting.takeWhile (fun w => !w.yields m) ++ m :: h.waiting.dropWhile (fun w => !w.yields m) }

/-- The words of a message whose header is written now (R441). -/
def State.msgWords (s : State) (m : Msg) (seq : Nat) : List Word :=
  [BitVec.ofNat 32 ((4 * m.body.length) <<< 19 ||| m.prio <<< 16 ||| m.src <<< 12 ||| m.core <<< 8 ||| m.desc),
   BitVec.ofNat 32 (if m.src = 4 then s.rd A.PLAY_NOW_EF else m.ef),
   BitVec.ofNat 32 seq, BitVec.ofNat 32 s.tbNs] ++ m.body

/-- The write port is between messages. -/
def Hmq.portIdle (h : Hmq) : Bool := h.held.all (fun m => m.written == m.words.length)

/-- The first waiting message's header is written and judged (R442, R445). `n` is how many of its words the port has
written when the next command comes; `ok` says that the queues' memory is usable (R528). A refused meter message counts in XPT's METER_DROP (R445).
(DEDUCED, notes/assumptions/70.md.) -/
def State.hmqOffer (s : State) (ok : Bool) (q n : Nat) : State :=
  let h := s.q q
  match h.waiting with
  | [] => s
  | m :: rest =>
    if h.portIdle then
      let ws := s.msgWords m h.nextSeq
      let h := { h with waiting := rest, nextSeq := (h.nextSeq + 1) % 2 ^ 32 }
      if ws.length ≤ h.freeWords && ok then
        let hm : HeldMsg := ⟨m.prio, 4 * m.body.length, ws, clampN 1 (ws.length - 1) n, 0, false⟩
        ((s.putQ q { h with held := h.held ++ [hm] }).inc (A.HMQ_CNT_PUSHED q)).qRefresh q
      else
        let s := ((s.putQ q h).inc (A.HMQ_CNT_DROPPED q)).event (F.HMQ_EVT_OVF q)
        if m.src = 2 then (s.inc A.XPT_CNT_METER_DROP).event F.XPT_EVT_METER_DROP else s
    else s

/-- The message the port is writing has its last word written (R449). -/
def State.hmqComplete (s : State) (q : Nat) : State :=
  let h := s.q q
  if h.portIdle then s
  else
    let held := h.held.map (fun m => { m with written := m.words.length })
    ((s.putQ q { h with held := held }).qRefresh q).event (F.HMQ_EVT_NOTICE q)

/-- The port writes n more words of its message, short of the last (R443). -/
def State.hmqFill (s : State) (q n : Nat) : State :=
  let h := s.q q
  let held := h.held.map (fun m =>
    if m.written < m.words.length then { m with written := min (m.written + n) (m.words.length - 1) } else m)
  (s.putQ q { h with held := held }).qRefresh q

/-- The message a read begins with: the eligible message of highest priority, the earliest header among equals (R447). -/
def pickMsg : List HeldMsg → Nat → Option (Nat × Nat) → Option (Nat × Nat)
  | [], _, best => best
  | m :: t, i, best =>
    let better := match best with
      | none => true
      | some (_, p) => Nat.blt p m.prio
    pickMsg t (i + 1) (if m.eligible && better then some (i, m.prio) else best)

/-- A read with nothing to return (R448). -/
def State.hmqUnderrun (s : State) (q : Nat) : Nat × State :=
  ((s.q q).lastVal.toNat, (s.event (F.HMQ_EVT_UNDERRUN q)).inc (A.HMQ_CNT_UNDERRUNS q))

/-- A read of RD_DATA (R446 to R448): the word returned and the state after. -/
def State.hmqRead (s : State) (q : Nat) : Nat × State :=
  let s := s.qRefresh q
  let h := s.q q
  let at? := match h.lock with
    | some i => some i
    | none => (pickMsg h.held 0 none).map Prod.fst
  match at? with
  | none => s.hmqUnderrun q
  | some i =>
    match h.held[i]? with
    | none => s.hmqUnderrun q
    | some m =>
      if m.taken < m.written then
        let w := getAt m.words m.taken 0
        if m.taken + 1 = m.words.length then
          (w.toNat, (s.putQ q { h with held := h.held.eraseIdx i, lock := none, lastVal := w }).inc (A.HMQ_CNT_READ q))
        else
          (w.toNat, s.putQ q { h with
            held := setAt h.held i { m with taken := m.taken + 1 }, lock := some i, lastVal := w })
      else (s.putQ q { h with lock := some i }).hmqUnderrun q

/-- Everything the queue holds is discarded and the lock released (R450); the number of messages lost is returned. -/
def State.hmqEmpty (s : State) (q : Nat) : Nat × State :=
  let h := s.q q
  (h.held.length, s.putQ q { h with held := [], lock := none })

/-- CTL.FLUSH (R451). -/
def State.hmqFlush (s : State) (q : Nat) : State :=
  let (n, s) := s.hmqEmpty q
  s.bump (A.HMQ_CNT_FLUSHED q) n

/-- A pointer mismatch resets the queue (R450). -/
def State.hmqPtrError (s : State) (q : Nat) : State :=
  let (n, s) := s.hmqEmpty q
  ((s.bump (A.HMQ_CNT_LOST_PTR q) n).event (F.HMQ_EVT_PTR_ERR q)).log (13 + q) 1 3 [n]

/-- HMQ.STATUSq, FREEq and CURq as they read now (R454). -/
def State.hmqStatus (s : State) (q : Nat) : Nat :=
  let h := s.q q
  (if h.lock.isSome then 2 ^ 31 else 0) + h.depth <<< 16 + h.msgs <<< 4

def State.hmqCur (s : State) (q : Nat) : Nat :=
  let h := s.q q
  match h.lock with
  | none => 0
  | some i =>
    match h.held[i]? with
    | none => 0
    | some m => m.bodyLen <<< 19 + m.prio <<< 16 + 2 ^ 15 + (m.words.length - m.taken)

end Sys2Proof.Machine
end

