-- ==== Sys2Proof/Machine/Xpt.lean ====
section
/-! DEFINITION. The crosspoint mixer, its ramps and limiters, and the meters (R300 to R322). -/

namespace Sys2Proof.Machine

/-! ### The mix range (R300, R308) -/

/-- Crosspoint entries of the variant, and the most a mix covers at the rate in use (R300). -/
def State.xpts (s : State) : Nat := s.variant.pick 16384 8192 4096
def State.mixMax (s : State) : Nat := s.xpts / s.rateMul

/-- XPT.CFG is written: values beyond the range are clamped (R308). (DEDUCED, notes/assumptions/56.md.) -/
def State.xptCfg (s : State) : State :=
  let s := s.keep F.XPT_CFG_COUNT (min (s.fld F.XPT_CFG_COUNT) s.mixMax)
  s.keep F.XPT_CFG_FIRST (min (s.fld F.XPT_CFG_FIRST) (s.xpts - s.fld F.XPT_CFG_COUNT))

/-! ### Ramps (R304, R305) -/

/-- A ramp's gain after k of its samples. -/
def XpRamp.at (r : XpRamp) (k : Nat) : Int :=
  if r.n ≤ k then r.g1 else r.g0 + (2 * (r.g1 - r.g0) * k + r.n).fdiv (2 * r.n : Nat)

/-- The current gain. -/
def XpRamp.now (r : XpRamp) : Int := r.at r.k

/-- RAMP_LEN as it acts (R301). -/
def rampLen (n : Nat) : Nat := clampN 1 4096 n

/-- The entry's ramp at a mix start (R304, R305); none while it is disabled. -/
def State.rampStart (s : State) (n : Nat) : Option XpRamp :=
  if s.on (F.TBL_XP_W0_EN n) then
    let g1 := (s.reg (A.TBL_XP_W1 n)).toInt
    let len := rampLen (s.fld (F.TBL_XP_W2_RAMP_LEN n))
    match Sparse.find s.xpt.ramps n with
    | none => some ⟨0, g1, len, 0⟩
    | some r => if r.g1 = g1 ∧ r.n = len then some r else some ⟨r.now, g1, len, 0⟩
  else none

/-- Store or drop an entry's ramp. -/
def State.putRamp (s : State) (n : Nat) (r : Option XpRamp) : State :=
  s.updXpt (fun x => { x with ramps := match r with
    | none => x.ramps.filter (fun c => c.1 != n)
    | some r => Sparse.insert n r x.ramps })

/-! ### Limiters (R309, R310) -/

/-- A limiter parameter as it acts. -/
def limParam (w : Word) : Int := if w.toInt ≤ 0 then 2147483647 else w.toInt

/-- The enabled limiter that acts on an output slot: the lowest-numbered one. -/
def State.limiterOf (s : State) (slot : Nat) : Option Nat :=
  (List.range s.limiters).find? (fun n => s.on (F.TBL_LIM_W0_EN n) && s.fld (F.TBL_LIM_W0_SLOT n) == slot &&
    !(s.hiRate && slot % 2 == 1))

/-- A limiter's gain, 1.0 unless it acts. -/
def State.limGain (s : State) (n : Nat) : Nat := (Sparse.find s.xpt.lims n).getD 0x40000000

/-- One sample through a limiter: the sample out and the gain after (R310). -/
def limSample (thresh attack release : Int) (y : Word) (g : Nat) : Word × Nat :=
  let a := min y.toInt.natAbs 0x7FFFFFFF
  let t : Int := if (a : Int) ≤ thresh then 0x40000000 else (thresh * 0x40000000) / a
  let c := if t < (g : Int) then attack else release
  let g : Int := g + rnd ((t - g) * c) 31
  ((sat31 (rnd (y.toInt * g) 30)).1, g.toNat)

/-! ### The mix (R302, R303) -/

/-- What a mix counts for its EF, and what it leaves: gains by entry, slots written and by how many runs. -/
structure MixRes where
  cur : List (Nat × Int × Nat)
  outSat : Nat
  limSamples : Nat
  bad : Nat
  runs : List (Nat × Nat)

/-- The entry is skipped at the two-slot rates (R302). -/
def State.oddEntry (s : State) (n : Nat) : Bool :=
  s.hiRate && (s.fld (F.TBL_XP_W0_IN_SLOT n) % 2 == 1 || s.fld (F.TBL_XP_W0_OUT_SLOT n) % 2 == 1)

/-- Consecutive entries with the same OUT_SLOT. -/
def State.mixRuns (s : State) : List Nat → List (Nat × List Nat)
  | [] => []
  | n :: rest =>
    let o := s.fld (F.TBL_XP_W0_OUT_SLOT n)
    match s.mixRuns rest with
    | [] => [(o, [n])]
    | (p, l) :: t => if p = o then (o, n :: l) :: t else (o, [n]) :: (p, l) :: t

/-- A run's output sample j, and whether it clips. -/
def State.runSample (s : State) (ef j : Nat) (l : List (Nat × XpRamp)) : Word × Nat :=
  let acc := l.foldl (fun (acc : BitVec 72) (n, r) =>
    let x := (s.sample (s.fld (F.TBL_XP_W0_IN_SLOT n)) (ef * s.efLen + j : Nat)).toInt
    (sat72 (acc.toInt + 4 * x * r.at (r.k + j + 1))).1) 0
  accRead acc 0

/-- One run is mixed and written. -/
def State.mixRun (s : State) (ef out : Nat) (l : List Nat) (m : MixRes) : MixRes × State :=
  let skipped := l.filter s.oddEntry
  let good := l.filter (fun n => !s.oddEntry n)
  let m := { m with bad := m.bad + skipped.length }
  if good.isEmpty then (m, s)
  else
    let ramps := good.filterMap (fun n => (s.rampStart n).map (fun r => (n, r)))
    let lim := s.limiterOf out
    let (m, s) := (List.range s.efLen).foldl (fun (m, s) j =>
      let (y, c) := s.runSample ef j ramps
      let m := { m with outSat := m.outSat + c }
      match lim with
      | none => (m, s.putSample out (ef * s.efLen + j : Nat) y)
      | some n =>
        let (y, g) := limSample (limParam (s.reg (A.TBL_LIM_W1 n))) (limParam (s.reg (A.TBL_LIM_W2 n)))
          (limParam (s.reg (A.TBL_LIM_W3 n))) y (s.limGain n)
        let s := s.updXpt (fun x => { x with lims := Sparse.insert n g x.lims })
        ({ m with limSamples := m.limSamples + (if g < 0x40000000 then 1 else 0) }, s.putSample out (ef * s.efLen + j : Nat) y))
      (m, s)
    let s := forL good (fun n s => s.putRamp n ((s.rampStart n).map (fun r => { r with k := min r.n (r.k + s.efLen) }))) s
    let runs := (m.runs.find? (fun r => r.1 == out)).map Prod.snd |>.getD 0
    ({ m with runs := (out, runs + 1) :: m.runs.filter (fun r => r.1 != out) }, s)

/-- Disabled limiters return to 1.0 (R310). -/
def State.limIdle (s : State) : State :=
  s.updXpt (fun x => { x with lims := x.lims.filter (fun c => s.on (F.TBL_LIM_W0_EN c.1)) })

/-- Enabled limiters that no run of the mix gives a slot (R310). -/
def State.badLimiters (s : State) (runs : List (Nat × Nat)) : Nat :=
  ((List.range s.limiters).filter (fun n => s.on (F.TBL_LIM_W0_EN n) &&
    !(runs.any (fun r => r.1 == s.fld (F.TBL_LIM_W0_SLOT n)) && s.limiterOf (s.fld (F.TBL_LIM_W0_SLOT n)) == some n))).length

/-- The gains at the end of the mix, with the samples of ramp left (R301). -/
def State.mixCur (s : State) (l : List Nat) : List (Nat × Int × Nat) :=
  l.map (fun n => match Sparse.find s.xpt.ramps n with
    | none => (n, 0, 0)
    | some r => (n, r.now, r.n - r.k))

/-- The XPT mix of an EF (R300, R302 to R310), with what its commit will show. -/
def State.xptMix (s : State) (ef : Nat) : MixRes × State :=
  let first := s.fld F.XPT_CFG_FIRST
  let l := (List.range (min (s.fld F.XPT_CFG_COUNT) s.mixMax)).map (fun i => first + i)
  let s := s.limIdle
  let runs := s.mixRuns l
  if !s.blockOk 8 then (⟨[], 0, 0, 0, []⟩, forL runs (fun (o, _) s => s.zeroEf o ef) s) else
  let (m, s) := runs.foldl (fun (m, s) (o, ns) => s.mixRun ef o ns m) (⟨[], 0, 0, 0, []⟩, s)
  ({ m with cur := s.mixCur l, bad := m.bad + s.badLimiters m.runs }, s)

/-! ### Meters (R317 to R319) -/

/-- Meters of the variant. -/
def State.meterCount (s : State) : Nat := s.variant.pick 1024 512 256

/-- A meter measures. -/
def State.meterOn (s : State) (n : Nat) : Bool := s.on (F.TBL_METER_EN n)
def State.meterOdd (s : State) (n : Nat) : Bool := s.hiRate && s.fld (F.TBL_METER_SLOT n) % 2 == 1

/-- The accumulation of a meter: peak, sum of squares and clip. -/
def State.meterAcc (s : State) (n : Nat) : Nat × Nat × Bool :=
  ((s.xpt.meters.find? (fun m => m.1 == n)).map Prod.snd).getD (0, 0, false)

/-- The meters take the samples of a committed EF; a stalled EF's are zero (R194, R317). Odd slots count once an EF. -/
def State.meterTake (s : State) (ef : Nat) (stalled : Bool) : State :=
  let on := if s.blockOk 8 then (List.range s.meterCount).filter s.meterOn else []
  let bad := (on.filter s.meterOdd).length
  let meters := (on.filter (fun n => !s.meterOdd n)).map (fun n =>
    let xs := if stalled then [] else (List.range s.efLen).map (fun j =>
      s.sample (s.fld (F.TBL_METER_SLOT n)) (ef * s.efLen + j : Nat))
    let (p, q, c) := s.meterAcc n
    (n, xs.foldl (fun a x => max a (min x.toInt.natAbs 0x7FFFFFFF)) p, xs.foldl (fun a x => a + x.toInt.natAbs ^ 2) q,
      c || xs.any (fun x => x == 0x7FFFFFFF#32 || x == 0x80000000#32)))
  let s := s.updXpt (fun x => { x with meters := meters, efs := x.efs + 1, samples := x.samples + s.efLen })
  if stalled || bad = 0 then s else (s.bump A.XPT_CNT_BAD_ENTRY bad).event F.XPT_EVT_BAD_ENTRY

/-- PERIOD as it acts (R320). -/
def State.meterPeriod (s : State) : Nat := let p := s.fld F.XPT_METER_CFG_PERIOD; if p = 0 then 300 else p

/-- A meter's PEAK and MS at a close (R318). -/
def State.meterVals (s : State) (n : Nat) : Nat × Nat :=
  if s.meterOn n then
    let (p, q, c) := s.meterAcc n
    let m := s.xpt.samples
    let ms := if m = 0 then 0 else min 0x7FFFFFFF ((2 * q + m * 2 ^ 31) / (m * 2 ^ 32))
    ((if c then 2 ^ 31 else 0) + p, ms)
  else (0, 0)

/-- The meter message of a group of 256 (R319). (DEDUCED, notes/assumptions/70.md.) -/
def State.meterMsg (s : State) (g ef : Nat) : Option Msg :=
  let ns := (List.range 256).map (fun i => 256 * g + i)
  if ns.any s.meterOn then
    some {
      queue := s.fld F.XPT_METER_CFG_QUEUE, prio := s.fld F.XPT_METER_CFG_PRIO, src := 2, core := 0, desc := 0
      ef := ef % 2 ^ 32
      body := (BitVec.ofNat 32 (256 * g * 65536 + 256)) :: (BitVec.ofNat 32 ef) ::
        (ns.map (fun n => let v := s.meterVals n; [BitVec.ofNat 32 v.1, BitVec.ofNat 32 v.2])).flatten }
  else none

/-- A metering period closes (R318, R319). -/
def State.meterClose (s : State) (ef : Nat) : State :=
  let msgs := if s.on F.XPT_METER_CFG_MSG_EN then (List.range (s.meterCount / 256)).filterMap (fun g => s.meterMsg g ef) else []
  let s := forN s.meterCount (fun n s =>
    let v := s.meterVals n
    (s.keepWord (A.XPT_METER_PEAK n) v.1).keepWord (A.XPT_METER_MS n) v.2) s
  let s := forL msgs (fun m s => s.push m) s
  s.updXpt (fun x => { x with efs := 0, meters := [], samples := 0, period := s.meterPeriod })

/-- METER_PERIOD_CLOSE (R318): PERIOD committed EFs have passed. -/
def execMeterPeriodClose (s : State) : Result := s.run fun s =>
  s.when (s.play.running && Nat.ble s.xpt.period s.xpt.efs) (fun s => s.meterClose (s.play.cleat - 1))

end Sys2Proof.Machine
end

