-- ==== Sys2Proof/Machine/Play.lean ====
section
/-! DEFINITION. Speculative playout: the concealer, hitches, rewinds and the decision on a handed packet (R189 to R209), over
the listener entries' channels and slots (R160 to R162, R181). -/

namespace Sys2Proof.Machine

/-! ### Listener entries as playout sees them -/

/-- Stream entries of the variant, each way (R2). -/
def State.streams (s : State) : Nat := s.variant.pick 256 128 64

/-- The entry is enabled and not refused. -/
def State.lisOn (s : State) (n : Nat) : Bool := s.on (F.TBL_LISTENER_W0_EN n) && !s.on (F.TBL_LISTENER_W14_REFUSED n)

/-- The other entry of the pair, where the two name each other (R181). -/
def State.partner (s : State) (n : Nat) : Option Nat :=
  let p := s.fld (F.TBL_LISTENER_W13_PARTNER n)
  if s.on (F.TBL_LISTENER_W0_MERGE_EN n) && p != n && Nat.blt p s.streams && s.on (F.TBL_LISTENER_W0_MERGE_EN p) &&
      s.fld (F.TBL_LISTENER_W13_PARTNER p) == n && s.lisOn n && s.lisOn p then some p else none

/-- The entry that supplies LAY, FIRST_SLOT and the channel map. -/
def State.lowerOf (s : State) (n : Nat) : Nat := match s.partner n with
  | none => n
  | some p => min n p

/-- The entry supplies channels: enabled, not refused and not the higher of a pair. -/
def State.lisLead (s : State) (n : Nat) : Bool := s.lisOn n && s.lowerOf n == n

/-- A halfword of a channel map (R162). -/
def State.mapHalf (s : State) (adr k : Nat) : Nat := s.rd (adr + 4 * (k / 2)) / 2 ^ (16 * (k % 2)) % 65536

/-- The slot of a channel; none where it is skipped. -/
def State.lisSlot (s : State) (n k : Nat) : Option Nat :=
  if s.on (F.TBL_LISTENER_W0_MAP_EN n) then
    let h := s.mapHalf (A.TBL_LMAP n 0) k
    if 2 ^ 15 ≤ h then none else some (h % 4096)
  else some (s.fld (F.TBL_LISTENER_W1_FIRST_SLOT n) + k * (if s.hiRate then 2 else 1))

/-- The lay of an entry. -/
def State.lisLay (s : State) (n : Nat) : Nat := s.fld (F.TBL_LISTENER_W0_LAY n)

/-- The channels that entries supply: key (64 × entry + channel), entry and slot. -/
def State.channels (s : State) : List (Nat × Nat × Nat) :=
  (((List.range s.streams).filter s.lisLead).map (fun n =>
    (List.range (s.fld (F.TBL_LISTENER_W0_CHANNELS n))).filterMap (fun k => (s.lisSlot n k).map (fun sl => (64 * n + k, n, sl))))).flatten

/-- A lay's state. -/
def State.lay (s : State) (n : Nat) : LayS := (Sparse.find s.strm.lays n).getD ⟨0, false, false, false, 0, [], 0⟩
def State.layUpd (s : State) (n : Nat) (f : LayS → LayS) : State :=
  s.updStrm (fun x => { x with lays := Sparse.insert n (f (s.lay n)) x.lays })

/-- A mute of the lay is in force (R171). -/
def State.layMuted (s : State) (n : Nat) : Bool := (s.lay n).muteOff || (s.lay n).muteSlip

/-! ### True samples (R196) -/

/-- The true sample of a chain position of a slot, if it holds one. -/
def State.trueAt (s : State) (slot q : Nat) : Option Word :=
  match Sparse.find s.strm.trues (s.busAdr slot q) with
  | some (k, w) => if k = q then some w else none
  | none => none

/-- A true sample is placed. -/
def State.putTrue (s : State) (slot q : Nat) (w : Word) : State :=
  (s.updStrm (fun x => { x with trues := Sparse.insert (s.busAdr slot q) (q, w) x.trues })).putSample slot q w

/-! ### The concealer (R196 to R198) -/

/-- A channel's concealment state; Silent until a program of RUN has moved it. -/
def State.chan (s : State) (key : Nat) : Chan := (Sparse.find s.play.conc key).getD (.silent 0)
def State.putChan (s : State) (key : Nat) (c : Chan) : State :=
  s.updPlay (fun p => { p with conc := Sparse.insert key c p.conc })

/-- Gain over the four EFs of a fade, q30, after `pos` samples. (DESIGN CHOICE, notes/assumptions/4.md.) -/
def State.fadeGain (s : State) (pos : Nat) : Nat := fallGain pos (4 * s.efLen)

/-- A sample scaled by a gain. -/
def scaleBy (w : Word) (g : Nat) : Word := (sat31 (rnd (w.toInt * g) 30)).1

/-- A sample of a linear crossfade of `len` samples from one value to another, after `pos` (R169).
(DESIGN CHOICE, notes/assumptions/4.md.) -/
def crossMix (w v : Word) (pos len : Nat) : Word :=
  let g := min (Config.crossGain pos len).toNat (2 ^ 30)
  (sat31 (rnd (w.toInt * (2 ^ 30 - g : Nat) + v.toInt * g) 30)).1

/-- What a sample position becomes. -/
inductive Made where
  | keep
  | free
  | zero
  | fade (pos : Nat)
  | ramp (pos : Nat)
  deriving DecidableEq, Repr

/-- A sample is missing after a gap of g samples. -/
def gapStep (limit g : Nat) : Chan × Made :=
  if limit = 0 then (.fading 1, .fade 0) else if g + 1 < limit then (.conceal (g + 1), .free) else (.fading 0, .free)

/-- One sample of a channel (R197): its state after, and what is written. L is the EF length, `limit` the concealment limit
in samples. -/
def chanStep (len limit : Nat) (c : Chan) (has : Bool) : Chan × Made :=
  match c with
  | .normal => if has then (.normal, .keep) else gapStep limit 0
  | .conceal g => if has then (if len ≤ 1 then .normal else .cross 1, .free) else gapStep limit g
  | .cross p => if has then (if len ≤ p + 1 then .normal else .cross (p + 1), .free) else gapStep limit 0
  | .fading p => (if 4 * len ≤ p + 1 then .silent 0 else .fading (p + 1), .fade p)
  | .silent n => (.silent n, .zero)
  | .ramp p => if has then (if 4 * len ≤ p + 1 then .normal else .ramp (p + 1), .ramp p) else (.silent 0, .zero)

/-- A fade starts on a channel that is not already Fading or Silent (R198). -/
def startFade : Chan → Chan
  | .fading p => .fading p
  | .silent n => .silent n
  | _ => .fading 0

/-- The channel is Fading. -/
def isFading : Chan → Bool
  | .fading _ => true
  | _ => false

/-- The channel is concealed or faded (R198). -/
def isConcealed : Chan → Bool
  | .conceal _ => true
  | .fading _ => true
  | .silent _ => true
  | _ => false

/-- Concealment limit in samples (R197, R211). -/
def State.concealLimit (s : State) : Nat := min 12 (s.fld F.PLAY_CFG_CONCEAL_EF) * s.efLen

/-- The sample of an EF at which a channel begins its own fade, if it does. -/
def fadeBegins (len limit : Nat) : Chan → List Bool → Nat → Option Nat
  | _, [], _ => none
  | c, h :: t, j =>
    let d := (chanStep len limit c h).1
    if isFading d && !isFading c then some j else fadeBegins len limit d t (j + 1)

/-- A channel's state as an EF begins: a ramp starts for a Silent channel with two complete EFs whose lay is not muted. -/
def chanEnter (muted : Bool) : Chan → Chan
  | .silent n => if 2 ≤ n && !muted then .ramp 0 else .silent n
  | c => c

/-- One sample position of a channel is written. (DEDUCED, notes/assumptions/43.md.) -/
def State.chanWrite (s : State) (slot q : Nat) (has : Option Word) (m : Made) : State :=
  match m, has with
  | .keep, some w => s.putSample slot q w
  | .keep, none => s
  | .zero, _ => s.putSample slot q 0
  | .fade p, some w => s.putSample slot q (scaleBy w (s.fadeGain p))
  | .ramp p, some w => s.putSample slot q (scaleBy w (2 ^ 30 - s.fadeGain p))
  | _, _ =>
    let (v, s) := s.free 32
    s.putSample slot q (BitVec.ofNat 32 v)

/-- An EF of a channel: the state after, and whether it held concealed samples. `at?` is the sample from which a fade is
imposed. -/
def State.chanEf (s : State) (key slot ef : Nat) (c : Chan) (at? : Option Nat) : Bool × State :=
  let len := s.efLen
  let lim := s.concealLimit
  let (c, any, s) := (List.range len).foldl (fun (c, any, s) j =>
    let q := ef * len + j
    let c := if at? = some j then startFade c else c
    let has := s.trueAt slot q
    let (d, m) := chanStep len lim c has.isSome
    let touched := match m with
      | .keep => false
      | .ramp _ => false
      | _ => true
    (d, any || touched, s.chanWrite slot q has m)) (c, false, s)
  (any, s.putChan key c)

/-- The channel's samples of an EF are all true. -/
def State.chanFull (s : State) (slot ef : Nat) : Bool :=
  (List.range s.efLen).all (fun j => (s.trueAt slot (ef * s.efLen + j)).isSome)

/-- Fades owed at an EF (R198): by lay, or for every listener channel. (DEDUCED, notes/assumptions/43.md.) -/
def State.fadeOwed (s : State) (ef lay : Nat) : Bool :=
  s.strm.fades.any (fun f => f.1 == ef && (match f.2 with | none => true | some l => l == lay))

/-- A fade of a SLIP_ALL lay that began in an earlier EF not yet committed: it mutes the lay (R179). -/
def State.slipPending (s : State) (ef lay : Nat) : Bool :=
  (s.lay lay).slipAll && s.play.results.any (fun r => Nat.blt r.ef ef &&
    r.chans.any (fun c => c.2.2.1 && s.lisLay (c.1 / 64) == lay))

/-- The concealer pass of an EF over the channels of one lay (R196, R179): with SLIP_ALL the first fade of a member fades
them all. -/
def State.concealLay (s : State) (ef lay : Nat) (chs : List (Nat × Nat × Nat)) : List (Nat × Bool × Bool × Bool × Bool) × State :=
  let muted := s.layMuted lay || s.slipPending ef lay
  let len := s.efLen
  let lim := s.concealLimit
  let hasL (slot : Nat) : List Bool := (List.range len).map (fun j => (s.trueAt slot (ef * len + j)).isSome)
  let starts := chs.filterMap (fun (key, _, slot) => fadeBegins len lim (chanEnter muted (s.chan key)) (hasL slot) 0)
  let at? : Option Nat :=
    if s.fadeOwed ef lay then some 0
    else if (s.lay lay).slipAll then starts.foldl (fun a j => match a with
      | none => some j
      | some i => some (min i j)) none
    else none
  chs.foldl (fun (out, s) (key, _, slot) =>
    let c0 := chanEnter muted (s.chan key)
    let full := s.chanFull slot ef
    let (any, s) := s.chanEf key slot ef c0 at?
    let c := s.chan key
    let c := match c0, c with
      | .silent n, .silent _ => Chan.silent (if full then n + 1 else 0)
      | _, c => c
    let begun := !isFading c0 && (match c0 with | .silent _ => false | _ => true) &&
      (isFading c || (match c, c0 with | .silent _, .ramp _ => false | .silent _, _ => true | _, _ => false))
    ((key, any, begun, isConcealed c, full) :: out, s.putChan key c)) ([], s)

/-- The concealer pass of an EF (R196). -/
def State.concealPass (s : State) (ef : Nat) : List (Nat × Bool × Bool × Bool × Bool) × State :=
  let chs := s.channels
  (List.range 64).foldl (fun (out, s) lay =>
    let mine := chs.filter (fun c => s.lisLay c.2.1 == lay)
    if mine.isEmpty then (out, s)
    else
      let (r, s) := s.concealLay ef lay mine
      (r ++ out, s)) ([], s)

/-- The EF is incomplete for the module (R196); a pair is active by either entry. (DEDUCED, notes/assumptions/43.md.) -/
def State.incomplete (s : State) (ef : Nat) : Bool :=
  let active (n : Nat) : Bool := s.on (F.TBL_LISTENER_W14_ACTIVE n) || (match s.partner n with
    | none => false
    | some p => s.on (F.TBL_LISTENER_W14_ACTIVE p))
  s.channels.any (fun (_, n, slot) => active n && s.on (F.TBL_LAY_W0_EN (s.lisLay n)) && !s.chanFull slot ef)

/-! ### Checkpoint versions (R200, R201) -/

/-- An address of core state memory. -/
def isStateMem (a : Nat) : Bool :=
  Nat.ble 0x200000 a && Nat.blt a 0x400000 && Nat.ble 0x8000 (a % 0x20000) && Nat.blt (a % 0x20000) 0xC000

/-- A crosspoint word: its place in the entry. -/
def xpWord (a : Nat) : Option Nat := if 0x120000 ≤ a ∧ a < 0x160000 then some (a % 16 / 4) else none

/-- The versioned state now. -/
def State.takeSnap (s : State) : Snap where
  core := s.mem.filter (fun c => isStateMem c.1)
  targets := s.regs.filter (fun c => xpWord c.1 == some 1)
  lens := (s.regs.filter (fun c => xpWord c.1 == some 2)).map (fun c => (c.1, c.2.toNat % 8192))
  ramps := s.xpt.ramps
  lims := s.xpt.lims
  conc := s.play.conc

/-- The versioned state returns to a hitch's (R200). -/
def State.restoreSnap (s : State) (v : Snap) : State :=
  let mem := forL v.core (fun c m => Sparse.put 0 m c.1 c.2) (s.mem.filter (fun c => !isStateMem c.1))
  let regs := forL v.targets (fun c m => Sparse.put (resetWord s.variant c.1) m c.1 c.2) (s.regs.filter (fun c => xpWord c.1 != some 1))
  let s := { s with mem := mem, regs := regs }
  let lens := (s.regs.filter (fun c => xpWord c.1 == some 2)).map Prod.fst ++ v.lens.map Prod.fst
  let s := forL lens (fun a s => s.set ⟨a, 12, 0⟩ ((Sparse.find v.lens a).getD 0)) s
  (s.updXpt (fun x => { x with ramps := v.ramps, lims := v.lims })).updPlay (fun p => { p with conc := v.conc })

/-- Change every live checkpoint version. -/
def State.updSnaps (s : State) (f : Snap → Snap) : State :=
  s.updPlay (fun p => { p with hitches := p.hitches.map (fun h => h.map (fun (e, v) => (e, f v))) })

/-- A master's write of a state-memory byte lands in every version (R226). -/
def State.putStateByte (s : State) (a : Nat) (b : BitVec 8) : State :=
  (s.putByte a b).updSnaps (fun v => { v with core := Sparse.put 0 v.core a b })

/-- A master's crosspoint word lands in every version (R201). (DEDUCED, notes/assumptions/56.md.) -/
def State.xpMaster (s : State) (a : Nat) : State :=
  let w := s.reg a
  match xpWord a with
  | some 1 => s.updSnaps (fun v => { v with targets := Sparse.put 0 v.targets a w })
  | some 2 => s.updSnaps (fun v => { v with lens := Sparse.put 0 v.lens a (w.toNat % 8192) })
  | _ => s

/-! ### Hitches (R199, R214) -/

/-- STATUS.HITCH_VALID and the HITCHn registers follow the hitches. -/
def State.hitchRegs (s : State) : State :=
  let s := forN 4 (fun n s => match getAt s.play.hitches n none with
    | none => s
    | some (e, _) => s.keepWord (A.PLAY_HITCH n) (e % 2 ^ 32)) s
  s.keep F.PLAY_STATUS_HITCH_VALID (ofBits (s.play.hitches.map Option.isSome))

/-- Release the hitches that meet a test. -/
def State.hitchRelease (s : State) (p : Nat → Bool) : State :=
  (s.updPlay (fun x => { x with hitches := x.hitches.map (fun h => match h with
    | none => none
    | some (e, v) => if p e then none else some (e, v)) })).hitchRegs

/-- The live hitches' EFs. -/
def State.hitchEfs (s : State) : List Nat := s.play.hitches.filterMap (fun h => h.map Prod.fst)

/-- PLAY takes a hitch at an EF, evicting the lowest of four (R199). -/
def State.takeHitch (s : State) (ef : Nat) : State :=
  let s :=
    if s.hitchEfs.length = 4 then
      let low := s.hitchEfs.foldl min ef
      ((s.hitchRelease (fun e => e == low)).inc A.PLAY_CNT_HITCH_EVICT).event F.PLAY_EVT_HITCH_EVICT
    else s
  let n := ((List.range 4).find? (fun n => (getAt s.play.hitches n none).isNone)).getD 0
  (s.updPlay (fun p => { p with hitches := setAt p.hitches n (some (ef, s.takeSnap)) })).hitchRegs

/-! ### Rewinds (R204 to R209) -/

/-- Half an EF in ns (R222). -/
def State.halfEfNs (s : State) : Nat := if s.fld F.CLK_MEDIA_CFG_RATE % 2 = 0 then 181405 else 166666

/-- RW_COST as it acts (R213). -/
def State.rwCost (s : State) : Nat :=
  let c := s.fld F.PLAY_RW_COST_NS
  if c = 0 ∨ s.halfEfNs < c then s.halfEfNs else c

/-- PLAY.STATUS follows the pointers (R212). -/
def State.playStatus (s : State) : State :=
  let s := s.keep F.PLAY_STATUS_RUNNING (if s.play.running then 1 else 0)
  let s := s.keep F.PLAY_STATUS_REWINDING (if s.play.rewinding then 1 else 0)
  s.keep F.PLAY_STATUS_DEPTH (s.play.head - s.play.cleat)

/-- Samples of a packet that fall in EF e or later are written (R205). -/
def State.writeFrom (s : State) (p : Pkt) (c : Int) (ef : Nat) : State :=
  forL p.chans (fun (_, slot, ws) s =>
    forN ws.length (fun j s =>
      let q := c + j
      if (ef * s.efLen : Nat) ≤ q then s.putTrue slot q.toNat (getAt ws j 0) else s) s) s

/-- A computation under way is abandoned; delay transfers complete (R280). -/
def State.dropComp (s : State) : State :=
  match s.eng.comp with
  | none => s
  | some _ =>
    let s := forN 16 (fun c s => s.xferAll c) s
    s.updEng (fun e => { e with
      comp := none
      cores := e.cores.map (fun k => { k with prog := none, half := none, loops := [(0, 0), (0, 0)] }) })

/-- A rewind to a hitch is accepted (R205). -/
def State.rewind (s : State) (h : Nat) : State :=
  let again := s.play.rewinding
  let s := s.when again (fun s => s.inc A.PLAY_RW_RESTART)
  let s := s.dropComp
  let s := s.hitchRelease (fun e => Nat.blt h e)
  let s := match s.play.hitches.findSome? (fun x => match x with
      | some (e, v) => if e = h then some v else none
      | none => none) with
    | none => s
    | some v => s.restoreSnap v
  let s := s.updPlay (fun p => { p with
    rewinding := true, r := h
    staging := p.staging.filter (fun i => Nat.blt i.ef h)
    results := p.results.filter (fun r => Nat.blt r.ef h) })
  ((s.inc A.PLAY_REWINDS).event F.PLAY_EVT_REWIND).playStatus

/-- The outcomes of R208. -/
inductive Fate where
  | rewound
  | absorbed
  | afterCleat
  | noBudget
  | noHitch
  deriving DecidableEq, Repr

/-- An outcome counts in its lay's window (R208). -/
def State.countFate (s : State) (lay : Nat) (f : Fate) : State :=
  match f with
  | .rewound => s.inc (A.PLAY_LAY_REWOUND lay)
  | .absorbed => s.inc (A.PLAY_LAY_ABSORBED lay)
  | .afterCleat => (s.inc (A.PLAY_LAY_LATE_AFTER_CLEAT lay)).event F.PLAY_EVT_LATE_AFTER_CLEAT
  | .noBudget => (s.inc (A.PLAY_LAY_LATE_NO_BUDGET lay)).event F.PLAY_EVT_LATE_NO_BUDGET
  | .noHitch => (s.inc (A.PLAY_LAY_LATE_NO_HITCH lay)).event F.PLAY_EVT_LATE_NO_HITCH

/-- The EF of a chain index; indices before the chain's start fall in EF 0. -/
def State.efOf (s : State) (q : Int) : Nat := (q / (s.efLen : Int)).toNat

/-- PLAY decides on a handed packet whose first sample has chain index c (R205). -/
def State.onHanded (s : State) (p : Pkt) (c : Int) : State :=
  let lay := s.lisLay (s.lowerOf p.listener)
  let f0 := s.efOf c
  let f1 := s.efOf (c + p.size - 1)
  let k := s.play.cleat
  if f1 < k then s.countFate lay .afterCleat
  else
    let cut := Nat.blt f0 k
    let late (f : Fate) : Fate := if cut then .afterCleat else f
    let fa := max f0 k
    let lim := if s.play.rewinding then s.play.r + 1 else s.play.head
    if lim ≤ fa then (s.writeFrom p c fa).countFate lay (late .absorbed)
    else
      let hs := s.hitchEfs.filter (fun e => Nat.ble e fa)
      match hs with
      | [] => (s.writeFrom p c lim).countFate lay (late .noHitch)
      | x :: rest =>
        let h := rest.foldl max x
        let need : Int := ((2000 + (s.play.head - h) * s.rwCost) * nsU : Nat)
        let avail : Int := s.efUp (h - 1) - s.time.up - (5000 * nsU : Nat)
        let avail := if s.on F.CLK_REALIGN_BUSY then avail - (s.misalign.natAbs : Int) else avail
        if need > avail then (s.writeFrom p c lim).countFate lay (late .noBudget)
        else ((s.writeFrom p c fa).rewind h).countFate lay (late .rewound)

end Sys2Proof.Machine
end

