-- ==== Sys2Proof/Machine/Tdm.lean ====
section
/-! DEFINITION. The TDM audio ports: configuration, maps, frames, the elastic buffer and clock supervision (R323 to R340). -/

namespace Sys2Proof.Machine

/-! ### Fields of the operative configuration and maps (R334, R338) -/

/-- Bits hi to lo of a word. -/
def wbits (w : Word) (hi lo : Nat) : Nat := w.toNat / 2 ^ lo % 2 ^ (hi + 1 - lo)

/-- Slot width code as bits. -/
def widthOf (c : Nat) : Nat := if c = 0 then 16 else if c = 1 then 24 else 32

def cfgEn (w : Word) : Bool := wbits w 31 31 == 1
def cfgMaster (w : Word) : Bool := wbits w 30 30 == 1
def cfgSlotW (w : Word) : Nat := wbits w 27 26

/-- Slots of a frame: I²S and left-justified have two (R324, R338). -/
def cfgSlots (w : Word) : Nat := if wbits w 29 28 = 0 then max 1 (wbits w 23 19) + 1 else 2

/-- DATA_W in bits; above SLOT_W it acts as SLOT_W. -/
def cfgDataW (w : Word) : Nat := widthOf (min (wbits w 25 24) (cfgSlotW w))

/-- The bit clock would exceed 49.152 MHz (R324). -/
def State.bclkOver (s : State) (w : Word) : Bool := Nat.blt 49152000 (s.fs * cfgSlots w * widthOf (cfgSlotW w))

/-- Mapped slots of a port in one direction at the rate in use (R323). -/
def State.mapCap (s : State) : Nat := 32 / s.rateMul

/-- The slots of a map that act: enabled, within the frame, at most the cap in ascending order, and with an even bus slot at
the two-slot rates (R334). -/
def State.mapActs (s : State) (cfg : Word) (map : List Word) : List Nat :=
  let en := (List.range (cfgSlots cfg)).filter (fun k => wbits (getAt map k 0) 31 31 == 1)
  (en.take s.mapCap).filter (fun k => !(s.hiRate && wbits (getAt map k 0) 0 0 == 1))

/-- The map holds more entries than the cap. -/
def State.mapOver (s : State) (cfg : Word) (map : List Word) : Bool :=
  Nat.blt s.mapCap ((List.range (cfgSlots cfg)).filter (fun k => wbits (getAt map k 0) 31 31 == 1)).length

/-- MAP_OVER follows the operative maps. -/
def State.mapOverUpd (s : State) (n : Nat) : State :=
  let p := s.tp n
  let o := s.mapOver p.opCfg p.opOut || s.mapOver p.opCfg p.opIn
  (s.when (o && !s.on (F.TDM_STATUS_MAP_OVER n)) (fun s => s.event F.TDM_EVT_MAP_OVER)).keep (F.TDM_STATUS_MAP_OVER n)
    (if o then 1 else 0)

/-- The maps as written become operative. -/
def State.loadMaps (s : State) (n : Nat) : State :=
  (s.tpUpd n (fun p => { p with
    opOut := (List.range 32).map (fun k => s.reg (A.TDM_OUT_MAP n k))
    opIn := (List.range 32).map (fun k => s.reg (A.TDM_IN_MAP n k))
    pendMap := false })).mapOverUpd n

/-- A master port has no external clocks to lose (R329, R330, R338). -/
def State.noSlaveClocks (s : State) (n : Nat) : State :=
  let s := ((s.keep (F.TDM_STATUS_NO_CLOCK n) 0).keep (F.TDM_STATUS_WRONG_RATE n) 0).keep (F.TDM_STATUS_FILL n) 0
  ((s.keepWord (A.TDM_PHASE n) 0).tdmCauseOff n causeNoClock).tdmCauseOff n causeWrongRate

/-- The configuration as written becomes operative; REFUSED follows it, and a port that may not run stops. -/
def State.loadCfg (s : State) (n : Nat) : State :=
  let w := s.reg (A.TDM_PORT_CFG n)
  let bad := cfgEn w && s.bclkOver w
  let s := (s.tpUpd n (fun p => { p with opCfg := w, pendCfg := false })).keep (F.TDM_STATUS_REFUSED n) (if bad then 1 else 0)
  let s := s.when (bad || !cfgEn w) (fun s => (s.keep (F.TDM_STATUS_RUNNING n) 0).keep (F.TDM_STATUS_FILL n) 0)
  (s.when (cfgMaster w) (fun s => s.noSlaveClocks n)).mapOverUpd n

/-- The port goes to Silent without a fade (R333). -/
def State.portSilent (s : State) (n : Nat) : State :=
  ((s.keep (F.TDM_STATUS_GAIN_STATE n) gainSilent).tpUpd n (fun p => { p with clean := 0, dirty := true })).senseDrop n

/-- PORT_CFG is written (R333, R338); `old` is the word before. -/
def State.tdmPortCfg (s : State) (n : Nat) (old : Word) : State :=
  let fix (f : Fld) (s : State) : State := s.when (s.fld f == 3) (fun s => s.set f (f.of old.toNat))
  let s := fix (F.TDM_PORT_CFG_DATA_W n) (fix (F.TDM_PORT_CFG_SLOT_W n) (fix (F.TDM_PORT_CFG_FORMAT n) s))
  if s.tdmRunning n || (s.tp n).testing || s.on (F.TDM_STATUS_NO_CLOCK n) then s.tpUpd n (fun p => { p with pendCfg := true }) else s.loadCfg n

/-- A map word is written (R334). -/
def State.tdmMapWrite (s : State) (n : Nat) : State :=
  if s.tdmRunning n || (s.tp n).testing then s.tpUpd n (fun p => { p with pendMap := true }) else s.loadMaps n

/-- MUTE is written (R331). -/
def State.tdmMute (s : State) (n : Nat) (was : Bool) : State :=
  let now := s.on (F.TDM_CTL_MUTE n)
  if now = was then s else if now then s.tdmCauseOn n causeMute else s.tdmCauseOff n causeMute

/-! ### Slot gains (R357) -/

/-- The changeover gain of an output slot. (DESIGN CHOICE, notes/assumptions/4.md.) -/
def State.slotG (s : State) (key : Nat) : SlotG := (Sparse.find s.proof.slots key).getD ⟨gainFull, 0, 0, 2 ^ 30, none⟩
def State.updProof (s : State) (f : ProofS → ProofS) : State := { s with proof := f s.proof }
def State.slotUpd (s : State) (key : Nat) (f : SlotG → SlotG) : State :=
  s.updProof (fun x => { x with slots := Sparse.insert key (f (s.slotG key)) x.slots })

/-- Its gain now, q30, on the curves of R332. -/
def State.slotGain (s : State) (key : Nat) : Nat :=
  let g := s.slotG key
  let t := s.time.up - g.sinceUp
  if g.state = gainFull then 2 ^ 30
  else if g.state = gainFading then g.g0 * fallGain t g.len / 2 ^ 30
  else if g.state = gainRamping then 2 ^ 30 - fallGain t g.len
  else 0

/-! ### Conversion (R325) -/

/-- A q31 sample as DATA_W bits, left-justified. -/
def toSlot (bits : Nat) (w : Word) : Word :=
  BitVec.ofNat 32 (unsgn bits (satS bits (rnd w.toInt (32 - bits))) * 2 ^ (32 - bits))

/-- The DATA_W bits of a slot as q31. -/
def fromSlot (bits : Nat) (w : Word) : Word := BitVec.ofNat 32 (w.toNat / 2 ^ (32 - bits) * 2 ^ (32 - bits))

/-! ### Frames (R326, R328) -/

/-- An EF's outputs are the committed samples: not before the first commit, not of a stalled EF, and not in READY. -/
def State.outLive (s : State) (ef : Nat) : Bool :=
  s.pwr.trig && s.play.running && Nat.blt ef s.play.cleat && !s.play.stalled.contains ef

/-- The bus slot an output slot sends: its own, or the one of the line it carries (R357). -/
def State.outSlotSource (s : State) (n k : Nat) : Nat :=
  match (s.slotG (32 * n + k)).carries with
  | none => wbits (getAt (s.tp n).opOut k 0) 11 0
  | some l => wbits (getAt (s.tp (s.fld (F.TBL_PLINE_W0_OUT_PORT l))).opOut (s.fld (F.TBL_PLINE_W0_OUT_SLOT l)) 0) 11 0

/-- One output slot at chain index q: none is high impedance. -/
def State.outSlot (s : State) (n k q : Nat) (acts : List Nat) : Option Word :=
  let p := s.tp n
  if acts.contains k then
    let ef := q / s.efLen
    let x := if s.outLive ef && !Nat.blt q p.zeroTo then s.sample (s.outSlotSource n k) (q : Nat) else 0
    some (toSlot (cfgDataW p.opCfg) (scaleBy (scaleBy x (s.tdmGain n)) (s.slotGain (32 * n + k))))
  else if wbits p.opCfg 14 14 = 1 then none else some 0

/-- The frame that the port sends at chain index q. -/
def State.outFrame (s : State) (n q : Nat) : List (Option Word) :=
  let p := s.tp n
  let acts := s.mapActs p.opCfg p.opOut
  (List.range (cfgSlots p.opCfg)).map (fun k => if p.testing then some 0 else s.outSlot n k q acts)

/-- The frame at the pads: nothing drives them with OUT_EN = 0, and LOOP 0b10 drives them low (R336). -/
def State.padFrame (s : State) (n : Nat) (f : List (Option Word)) : List (Option Word) :=
  if wbits (s.tp n).opCfg 12 12 = 0 then f.map (fun _ => none)
  else if s.fld (F.TDM_CTL_LOOP n) = 2 then f.map (fun _ => some 0)
  else f

/-- The frame received: the pads', or in loopback the port's own (R336), whose high-impedance slots are free. -/
def State.inFrame (s : State) (n : Nat) (own : List (Option Word)) (din : List Word) : List Word × State :=
  let l := s.fld (F.TDM_CTL_LOOP n)
  if l = 1 ∨ l = 2 then
    own.foldl (fun (out, s) x => match x with
      | some w => (out ++ [w], s)
      | none =>
        let (v, s) := s.free 32
        (out ++ [BitVec.ofNat 32 v], s)) ([], s)
  else ((List.range (cfgSlots (s.tp n).opCfg)).map (fun k => getAt din k 0), s)

/-- Where a sample captured at chain index q is written (R192). -/
def State.capturePos (s : State) (q : Nat) : Nat := q + (s.play.slack + 3) * s.efLen

/-- A received frame is written to bus memory for chain index q (R192, R325, R331, R334, R335). -/
def State.capture (s : State) (n q : Nat) (f : List Word) : State :=
  if s.play.running then
    let p := s.tp n
    let stride := if s.hiRate then 2 else 1
    let dead := Nat.blt q p.zeroTo || wbits p.opCfg 13 13 == 0 || p.testing
    let sense := (s.bitOf F.TDM_SENSE_OK_PORT n) && !dead
    let bits := cfgDataW p.opCfg
    let pos := s.capturePos q
    forL (s.mapActs p.opCfg p.opIn) (fun k s =>
      let m := getAt p.opIn k 0
      let kind := wbits m 30 29
      let b := wbits m 11 0
      let w := getAt f k 0
      if kind = 0 then s.putSample b pos (if dead then 0 else scaleBy (fromSlot bits w) (s.tdmGain n))
      else if kind = 3 then
        if cfgSlotW p.opCfg = 2 then
          (s.putSample b pos (if sense then w &&& 0xFFFF0000#32 else 0)).putSample (b + stride) pos
            (if sense then w <<< 16 else 0)
        else s
      else s.putSample b pos (if sense then fromSlot bits w else 0)) s
  else s

/-- The port may run (R16, R338): U12 is on, the module is past STAGING, the port is enabled and its bit clock allowed. -/
def State.portLive (s : State) (n : Nat) : Bool :=
  s.unitOn 12 && Nat.ble stReady s.modState && !s.blockBad (16 + n) && cfgEn (s.tp n).opCfg && !s.bclkOver (s.tp n).opCfg

/-- A slip or a frame error (R328, R329): the port's SLIP event and the port fade. (DEDUCED, notes/assumptions/60.md.) -/
def State.portSlip (s : State) (n : Nat) : State := (s.eventBit F.TDM_EVT_SLIP n).tdmFade n

/-- The elastic buffer re-centred: the frame last taken, and four that wait. -/
def centred (f : List Word) : List (List Word) := List.replicate 5 f
def State.zeroSlots (s : State) (n : Nat) : List Word := List.replicate (cfgSlots (s.tp n).opCfg) 0

/-- Frames that wait in the elastic buffer: its first is the one last taken. (DEDUCED, notes/assumptions/60.md.) -/
def State.tdmFill (s : State) (n : Nat) : Nat := (s.tp n).inBuf.length - 1

/-- A chain edge takes a frame from the elastic buffer; with none waiting it is an underrun, and the last frame repeats. -/
def State.chainTake (s : State) (n q : Nat) : State :=
  match (s.tp n).inBuf with
  | _ :: f :: rest => (s.capture n q f).tpUpd n (fun p => { p with inBuf := f :: rest })
  | l =>
    let f := l.headD (s.zeroSlots n)
    (((s.capture n q f).inc (A.TDM_UNDERRUN n)).portSlip n).tpUpd n (fun p => { p with inBuf := centred f })

/-- A frame starts: pending configuration and maps act (R333, R334). (DEDUCED, notes/assumptions/60.md.) -/
def State.frameStart (s : State) (n q : Nat) : State :=
  if (s.tp n).testing then s
  else
    let s := s.when (s.tp n).pendMap (fun s => s.loadMaps n)
    s.when (s.tp n).pendCfg (fun s =>
      let ran := s.tdmRunning n
      let s := (s.loadCfg n).portSilent n
      s.when ran (fun s => s.tpUpd n (fun p => { p with zeroTo := (q / s.efLen + 2) * s.efLen })))

/-- A frame of a master port (R326). -/
def State.masterFrame (s : State) (n q : Nat) (din : List Word) : State :=
  let own := s.outFrame n q
  let (f, s) := s.inFrame n own din
  (s.capture n q f).tpUpd n (fun p => { p with dout := s.padFrame n own, lastIdx := q })

/-- An external frame of a slave port (R328, R329): the chain edges since the last one take frames, then this one enters the
buffer; a full buffer is an overrun, and frames are dropped back to four. What the port sends lags the chain by the fill. -/
def State.slaveFrame (s : State) (n q : Nat) (din : List Word) (bad fresh : Bool) : State :=
  let s := s.when fresh (fun s => s.tpUpd n (fun p => { p with inBuf := centred (s.zeroSlots n), lastIdx := q }))
  let s := s.when bad (fun s => (s.inc (A.TDM_FRAME_ERR n)).portSlip n)
  let last := (s.tp n).lastIdx
  let s := forN (q - last) (fun i s => s.chainTake n (last + 1 + i)) s
  let own := s.outFrame n (q - s.tdmFill n)
  let (f, s) := s.inFrame n own din
  let full := Nat.ble 8 (s.tdmFill n)
  let s := s.when full (fun s => (s.inc (A.TDM_OVERRUN n)).portSlip n)
  let s := s.tpUpd n (fun p => { p with
    inBuf := if full then p.inBuf.take 1 ++ (p.inBuf.drop 6 ++ [f]) else p.inBuf ++ [f]
    dout := s.padFrame n own, lastIdx := max p.lastIdx q })
  let m := roundDiv (s.chainTime * s.fs) secU
  let phase := s.chainTime - m * secU / s.fs
  (s.keep (F.TDM_STATUS_FILL n) (s.tdmFill n)).keep (F.TDM_PHASE_NS n) (unsgn 32 (toNs phase))

/-- A TDM frame (R326, R328): time has passed up to its FS edge. -/
def State.tdmFrame (s : State) (n : Nat) (din : List Word) (bad : Bool) : State :=
  let q := s.chainIdx
  let s := s.frameStart n q
  if !s.portLive n || !s.clk.running then s
  else
    let fresh := !s.tdmRunning n
    let s := s.when fresh (fun s => ((s.set (F.TDM_STATUS_RUNNING n) 1).set (F.TDM_RATE_VALID n) 0).when
      (!s.on (F.TDM_STATUS_NO_CLOCK n)) (fun s => s.portSilent n))
    if cfgMaster (s.tp n).opCfg then s.masterFrame n q din
    else (s.slaveFrame n q din bad fresh).tpUpd n (fun p => { p with clocksGone := false })

/-! ### Clock supervision (R329, R330) -/

/-- A slave port's clocks are gone. -/
def State.noClock (s : State) (n : Nat) : State :=
  let p := s.tp n
  if cfgMaster p.opCfg || !s.portLive n || s.on (F.TDM_STATUS_NO_CLOCK n) then s
  else
    let s := (s.set (F.TDM_STATUS_NO_CLOCK n) 1).inc (A.TDM_LOS n)
    let s := (s.eventBit F.TDM_EVT_NO_CLOCK n).tdmCauseOn n causeNoClock
    (s.keep (F.TDM_STATUS_RUNNING n) 0).tpUpd n (fun p => { p with clocksGone := true })

/-- The rate class of a measured frame rate in mHz: the supported rate within ±1,000 ppm, or none. -/
def rateClass (mHz : Nat) : Nat :=
  ((List.range 6).find? (fun c => Nat.ble (rateHz c * 999) mHz && Nat.ble mHz (rateHz c * 1001))).getD 7

/-- A gate of 1 s ends (R330): the measured frame rate in mHz. -/
def State.rateGate (s : State) (n mHz : Nat) : State :=
  if !s.portLive n then s
  else
    let media := s.fld F.CLK_MEDIA_CFG_RATE
    let master := cfgMaster (s.tp n).opCfg
    let c := if master then media else rateClass mHz
    let ppm : Int := if master ∨ c = 7 then 0 else roundDiv (((mHz : Int) - (rateHz c * 1000 : Nat)) * 1000) (rateHz c)
    let s := s.when (s.fld (F.TDM_RATE_CLASS n) != c) (fun s => s.eventBit F.TDM_EVT_RATE_CHG n)
    let s := ((s.set (F.TDM_RATE_CLASS n) c).set (F.TDM_RATE_PPM n) (unsgn 24 ppm)).set (F.TDM_RATE_VALID n) 1
    if master then s
    else if c = media then
      let s := s.when (s.on (F.TDM_STATUS_WRONG_RATE n)) (fun s => (s.set (F.TDM_STATUS_WRONG_RATE n) 0).tdmCauseOff n causeWrongRate)
      s.when (s.on (F.TDM_STATUS_NO_CLOCK n) && !(s.tp n).clocksGone) (fun s =>
        ((s.set (F.TDM_STATUS_NO_CLOCK n) 0).tdmCauseOff n causeNoClock).tpUpd n (fun p => { p with
          inBuf := centred (s.zeroSlots n) }))
    else if s.on (F.TDM_STATUS_WRONG_RATE n) then s
    else (s.set (F.TDM_STATUS_WRONG_RATE n) 1).tdmCauseOn n causeWrongRate

/-- U12 is switched off (R333): pads idle, nothing runs, the rates are no longer known. -/
def State.tdmOff (s : State) : State :=
  forN s.tdmPorts (fun n s =>
    let s := (s.keep (F.TDM_STATUS_RUNNING n) 0).keep (F.TDM_STATUS_GAIN_STATE n) gainSilent
    (s.senseDrop n).tpUpd n (fun p => { p with
      clean := 0, inBuf := [], clocksGone := false
      dout := p.dout.map (fun _ => if wbits p.opCfg 14 14 = 1 then none else some 0) })) s

/-! ### The commands of the family -/

/-- TDM_FRAME (R326): `din` holds the slots received, left-justified, and `bad` says that FS came after the wrong count of
BCLKs. -/
def execTdmFrame (n : Nat) (din : List Word) (bad : Bool) (dt : Nat) (s : State) : Result := s.runIf (decide (n < s.tdmPorts)) fun s =>
  (s.advance dt).tdmFrame n din bad

/-- TDM_NO_CLOCK (R329). -/
def execTdmNoClock (n : Nat) (s : State) : Result := s.runIf (decide (n < s.tdmPorts)) fun s => s.noClock n

/-- TDM_RATE_GATE (R330). -/
def execTdmRateGate (n mHz : Nat) (s : State) : Result := s.runIf (decide (n < s.tdmPorts)) fun s => s.rateGate n mHz

/-- TDM_FADE_COMPLETE (R332). -/
def execTdmFadeComplete (n dt : Nat) (s : State) : Result := s.runIf (decide (n < s.tdmPorts)) fun s => (s.advance dt).tdmFadeDone n

/-- TDM_RAMP_START (R332). -/
def execTdmRampStart (n : Nat) (s : State) : Result := s.runIf (decide (n < s.tdmPorts)) fun s => s.tdmRampStart n

/-- TDM_RAMP_COMPLETE (R332). -/
def execTdmRampComplete (n dt : Nat) (s : State) : Result := s.runIf (decide (n < s.tdmPorts)) fun s => (s.advance dt).tdmRampDone n

end Sys2Proof.Machine
end

