-- ==== Sys2Proof/Machine/ProofMath.lean ====
section
/-! DEFINITION. The arithmetic of line proof: roots and angles as integers, pilot and run constants, the measurement and the
verdict (R341 to R350, R362 to R364). -/

namespace Sys2Proof.Machine

/-! ### Roots and angles -/

/-- The largest number below 2^n that meets a test which, once false, stays false. -/
def topBy (p : Nat → Bool) (n : Nat) : Nat :=
  (List.range n).reverse.foldl (fun r i => if p (r + 2 ^ i) then r + 2 ^ i else r) 0

/-- The square root of num/den, rounded to nearest and saturating at 32 bits. -/
def roundSqrt (num den : Nat) : Nat :=
  min 0xFFFFFFFF (topBy (fun r => Nat.ble ((2 * r - 1) ^ 2 * den) (4 * num)) 33)

/-- The sine of (2k + 1)/18,000 of a right angle's half, in units of 2^-128: the angle is k + ½ hundredths of a degree. -/
def halfStepSin (k : Nat) : Int :=
  let x : Int := ((2 * k + 1) * halfPi / 18000 : Nat)
  sinSeries (x * x / (2 : Int) ^ trigPlaces) 24 1 x x

/-- The angle of (a, b) in the first quadrant, in hundredths of a degree, rounded to nearest: how many of the half steps
below 90° it reaches. -/
def quadAngle (a b : Nat) : Nat :=
  topBy (fun k => Nat.ble k 9000 && decide ((a : Int) * halfStepSin (k - 1) ≤ b * halfStepSin (8999 - (k - 1)))) 14

/-- arg(re + j·im) in hundredths of a degree. -/
def argOf (re im : Int) : Int :=
  let q : Int := quadAngle re.natAbs im.natAbs
  let h := if re < 0 then 18000 - q else q
  if im < 0 then -h else h

/-- An angle brought into (−180°, 180°]. -/
def wrapDeg (a : Int) : Int := if 18000 < a then a - 36000 else if a ≤ -18000 then a + 36000 else a

/-! ### Constants of the rate (R341, R346, R362, R363) -/

/-- The rate is of the 44.1 kHz family. -/
def State.fam44 (s : State) : Bool := s.fld F.CLK_MEDIA_CFG_RATE % 2 == 0

/-- A window in EFs, half a window, and the window's samples. -/
def State.windowEf (s : State) : Nat := if s.fam44 then 2756 else 3000
def State.halfWindow (s : State) : Nat := if s.fam44 then 1378 else 1500
def State.windowN (s : State) : Nat := s.windowEf * s.efLen

/-- The pilot, in 10 Hz, lies in the range of the rate. -/
def State.pilotOk (s : State) (p : Nat) : Bool :=
  let r := s.fld F.CLK_MEDIA_CFG_RATE
  Nat.ble 1900 p && Nat.ble p (if r = 0 then 2100 else if r = 1 then 2300 else 4000)

/-- The sweep frequencies in Hz. -/
def State.sweepHz (s : State) (k : Nat) : Nat :=
  if s.fld F.CLK_MEDIA_CFG_RATE = 0 then getAt [18000, 18430, 18860, 19290, 19710, 20140, 20570, 21000] k 0
  else getAt [18000, 18710, 19430, 20140, 20860, 21570, 22290, 23000] k 0

/-- RUN_STEP of a frequency: round(f / fs × 2^32). -/
def State.runStep (s : State) (k : Nat) : Nat := (2 * s.sweepHz k * 2 ^ 32 + s.fs) / (2 * s.fs)

/-- RUN_DB as it acts, and RUN_AMP: round(2^31 × 10^(−RUN_DB / 20)). -/
def State.runDb (s : State) : Nat := let d := s.fld F.PROOF_RUN_CFG_RUN_DB; if d = 0 then 20 else clampN 10 30 d
def State.runAmp (s : State) : Nat :=
  topBy (fun r => Nat.ble ((2 * r - 1) ^ 20 * 10 ^ s.runDb) (2 ^ 640)) 32

/-! ### The measurement (R345 to R349) -/

/-- A 64-bit sum of a record: words 2k and 2k + 1. -/
def State.recSum (s : State) (n k : Nat) : Int :=
  sgn 64 (s.rd (A.PROOF_REC n (2 * k)) * 2 ^ 32 + s.rd (A.PROOF_REC n (2 * k + 1)))

/-- A measurement: |pilot voltage sum|² and |pilot current sum|², |Z| in mΩ, its phase in hundredths of a degree, and the
guard ratio in sixteenths. -/
structure Meas where
  v2 : Nat
  i2 : Nat
  mag : Nat
  ph : Int
  guard : Nat

/-- The measurement of a line's record. The guard meter's filter is not given beyond its band, so its ratio is free, and so
is a quotient of zero by zero (notes/assumptions/1.md). (DEDUCED, notes/assumptions/61.md.) -/
def State.measure (s : State) (n : Nat) : Meas × State :=
  let vi := s.recSum n 0
  let vq := s.recSum n 1
  let ii := s.recSum n 2
  let iq := s.recSum n 3
  let v2 := vi.natAbs ^ 2 + vq.natAbs ^ 2
  let i2 := ii.natAbs ^ 2 + iq.natAbs ^ 2
  let cal := let c := s.rd (A.TBL_PLINE_W3 n); if c = 0 then 2 ^ 30 else c
  let num := (10000 * s.fld (F.TBL_PLINE_W1_V_FS n) * cal) ^ 2 * v2
  let den := (s.fld (F.TBL_PLINE_W2_I_FS n) * 2 ^ 30) ^ 2 * i2
  let (guard, s) := s.free 16
  let (fm, s) := s.free 32
  let (fp, s) := s.free 16
  let mag := if den = 0 then (if num = 0 then fm else 0xFFFFFFFF) else roundSqrt num den
  let ph := if v2 = 0 ∨ i2 = 0 then (fp % 36000 : Int) - 17999
    else wrapDeg (argOf (vi * ii + vq * iq) (vq * ii - vi * iq) + sgn 16 (s.fld (F.TBL_PLINE_W2_CAL_PH n)))
  (⟨v2, i2, mag, wrapDeg ph, guard⟩, s)

/-- A pilot amplitude, q31: 2·hypot/N with sums in units of 2^-45. -/
def State.ampQ31 (s : State) (h2 : Nat) : Nat := min 0x7FFFFFFF (roundSqrt h2 (s.windowN ^ 2 * 2 ^ 26))

/-- The amplitude lies below a floor in dB below full scale. -/
def State.belowFloor (s : State) (h2 db : Nat) : Bool :=
  Nat.blt ((4 * h2) ^ 10 * 10 ^ db) ((s.windowN ^ 2 * 2 ^ 90) ^ 10)

/-! ### Verdicts (R350) -/

/-- Verdict codes. -/
def vNone : Nat := 0
def vOk : Nat := 1
def vDrift : Nat := 2
def vOpen : Nat := 3
def vShort : Nat := 4
def vNoSense : Nat := 5
def vIndet : Nat := 6

/-- The bit of HARD_MASK and CHG_MASK that a failing verdict has; none for one that does not fail. -/
def failBit (v reason : Nat) : Option Nat :=
  if v = vDrift then some 0 else if v = vOpen then some 1 else if v = vShort then some 2
  else if v = vNoSense ∧ reason = 2 then some 3 else none

/-- 0 acts as a default, and for OPEN_X and SHORT_DIV 1 acts as 2. -/
def orDefault (v d : Nat) : Nat := if v = 0 then d else v
def factorOf (v : Nat) : Nat := if v = 0 then 4 else if v = 1 then 2 else v

/-- The verdict and reason of a window: `valid`, `invalid` and `rng` say whether some EF had valid sense, invalid sense or an
overrange, and z0 is the baseline. -/
def State.verdictOf (s : State) (n : Nat) (m : Meas) (valid invalid rng : Bool) (z0 : Nat) : Nat × Nat :=
  let vLow := s.belowFloor m.v2 (orDefault (s.fld (F.TBL_PLINE_W6_V_FLOOR n)) 60)
  let iLow := s.belowFloor m.i2 (orDefault (s.fld (F.TBL_PLINE_W6_I_FLOOR n)) 90)
  if invalid && !valid then (vNoSense, 1)
  else if invalid then (vIndet, 4)
  else if rng then (vIndet, 5)
  else if vLow && iLow then (vNoSense, 2)
  else if !vLow && Nat.blt (16 * orDefault (s.fld (F.TBL_PLINE_W6_GUARD_LIM n)) 8) m.guard then (vIndet, 3)
  else if z0 = 0 then (vNone, 6)
  else if iLow || Nat.blt (factorOf (s.fld (F.TBL_PLINE_W5_OPEN_X n)) * z0) m.mag then (vOpen, 0)
  else if m.mag * factorOf (s.fld (F.TBL_PLINE_W5_SHORT_DIV n)) < z0 then (vShort, 0)
  else if orDefault (s.fld (F.TBL_PLINE_W5_DRIFT_PCT n)) 10 * z0 < 100 * (max m.mag z0 - min m.mag z0) then (vDrift, 0)
  else (vOk, 0)

end Sys2Proof.Machine
end

