-- ==== Sys2Proof/Machine/Proof.lean ====
section
/-! DEFINITION. Line and path proof: entries, records, verdicts, retry and retirement, changeover, the nightly run and path
proof (R341 to R372). -/

namespace Sys2Proof.Machine

/-! ### Lines -/

/-- A line's state and its update. -/
def State.line (s : State) (n : Nat) : LineS :=
  (Sparse.find s.proof.lines n).getD
    ⟨0, false, false, false, 0, 0, false, false, 0, 0, false, false, false, none, none, .none⟩
def State.lineUpd (s : State) (n : Nat) (f : LineS → LineS) : State :=
  s.updProof (fun x => { x with lines := Sparse.insert n (f (s.line n)) x.lines })

/-- Codes of a line's STATE. -/
def lnDisabled : Nat := 0
def lnService : Nat := 1
def lnRetrying : Nat := 2
def lnPending : Nat := 3
def lnRetired : Nat := 4

def State.lineState (s : State) (n : Nat) : Nat := s.fld (F.TBL_PLINE_W10_STATE n)
def State.setLine (s : State) (n st : Nat) : State := s.keep (F.TBL_PLINE_W10_STATE n) st

/-- The line is supervised: enabled and not refused. -/
def State.lineUp (s : State) (n : Nat) : Bool := s.on (F.TBL_PLINE_W0_EN n) && !s.on (F.TBL_PLINE_W10_REFUSED n)

/-- The output slot that drives the line. -/
def State.lineKey (s : State) (n : Nat) : Nat := 32 * s.fld (F.TBL_PLINE_W0_OUT_PORT n) + s.fld (F.TBL_PLINE_W0_OUT_SLOT n)

/-- The line whose baseline and signature the line is judged by: a carrying spare's is the line it carries (R357). -/
def State.judgedAs (s : State) (n : Nat) : Nat :=
  if s.on (F.TBL_PLINE_W10_CARRYING n) then ((s.slotG (s.lineKey n)).carries).getD n else n

def State.spareOf (s : State) (n : Nat) : Nat := s.fld (F.TBL_PLINE_W0_SPARE_LINE n)

/-- PROOF.STATUS follows the lines (R356, R370). -/
def State.proofStatus (s : State) : State :=
  let ns := List.range s.lines
  let ret := (ns.filter (fun n => s.lineState n == lnRetired || s.lineState n == lnPending)).length
  let sup := ns.any (fun n => (s.line n).supervision)
  let s := s.keep F.PROOF_STATUS_RETIRED_N (min 255 ret)
  let s := s.keep F.PROOF_STATUS_SUPERVISION (if sup then 1 else 0)
  let s := s.keep F.PROOF_STATUS_UNPROVEN (if ns.any (fun n => s.on (F.TBL_PLINE_W10_UNPROVEN n)) then 1 else 0)
  s.keep F.PROOF_STATUS_FAULT (if ret != 0 || sup || s.on F.PROOF_STATUS_PATH_FAULT then 1 else 0)

/-- The count of EFs since the line's previous record restarts (R346). -/
def State.lineRestart (s : State) (n : Nat) : State :=
  s.lineUpd n (fun l => { l with count := 0, valid := false, invalid := false, overEf := false, winUp := s.time.up })

/-- Every line's count restarts: entry to RUN, and the apply EF of a placement (R346). -/
def State.linesRestart (s : State) : State := forN s.lines (fun n s => s.when (s.lineUp n) (fun s => s.lineRestart n)) s

/-- A change of a line's retirement is saved (R359, R483). (DEDUCED, notes/assumptions/26.md.) -/
def State.noteRetired (s : State) (n : Nat) (on : Bool) : State :=
  let rest := s.mgmt.retiredLines.filter (fun r => r.1 != n)
  (s.updMgmt (fun m => { m with retiredLines := if on then (n, if (s.line n).hard then 1 else 0) :: rest else rest })).requestSave

/-! ### Slot fades and ramps (R357) -/

def State.slotFade (s : State) (key : Nat) : State :=
  let g := s.slotG key
  let g0 := min (s.slotGain key) (2 ^ 30)
  if g.state = gainFull ∨ g.state = gainRamping then
    s.slotUpd key (fun x => { x with state := gainFading, g0 := g0, sinceUp := s.time.up, len := s.fadeTime g0 })
  else s
def State.slotRamp (s : State) (key : Nat) : State :=
  s.slotUpd key (fun x => { x with state := gainRamping, sinceUp := s.time.up, len := s.rampMs * msU })
def State.slotSilent (s : State) (key : Nat) : State := s.slotUpd key (fun x => { x with state := gainSilent })
def State.slotFull (s : State) (key : Nat) : State := s.slotUpd key (fun x => { x with state := gainFull })
def State.slotIsSilent (s : State) (key : Nat) : Bool := (s.slotG key).state == gainSilent
def State.slotIsUp (s : State) (key : Nat) : Bool := (s.slotG key).state == gainFull || (s.slotG key).state == gainRamping

def State.setChange (s : State) (n : Nat) (c : Change) : State := s.lineUpd n (fun l => { l with change := c })

/-! ### Entries (R341, R343, R353) -/

/-- The input slots of a port that name the line, with their kinds. -/
def State.senseSlots (s : State) (p n : Nat) : List Nat :=
  ((List.range 32).filter (fun k => s.on (F.TDM_IN_MAP_EN p k) && s.fld (F.TDM_IN_MAP_LINE p k) == n)).filterMap (fun k =>
    let kind := s.fld (F.TDM_IN_MAP_KIND p k)
    if kind = 0 then none else some kind)

/-- The port that carries the line's TDM sense: one voltage and one current slot, or one split slot, on one port. -/
def State.sensePort (s : State) (n : Nat) : Option Nat :=
  match ((List.range s.tdmPorts).map (fun p => (p, s.senseSlots p n))).filter (fun x => !x.2.isEmpty) with
  | [(p, [3])] => some p
  | [(p, [1, 2])] => some p
  | [(p, [2, 1])] => some p
  | _ => none

/-- Another enabled entry drives the same output slot. -/
def State.outClash (s : State) (n : Nat) : Bool :=
  (List.range s.lines).any (fun m => m != n && s.on (F.TBL_PLINE_W0_EN m) && s.lineKey m == s.lineKey n)

/-- The reason to refuse a line entry; 0 where it passes. -/
def State.lineWhy (s : State) (n : Nat) : Nat :=
  let src := s.fld (F.TBL_PLINE_W0_SRC n)
  let sp := s.spareOf n
  if !s.pilotOk (s.fld (F.TBL_PLINE_W1_PILOT n)) || Nat.blt 1 src || Nat.ble s.tdmPorts (s.fld (F.TBL_PLINE_W0_OUT_PORT n)) ||
      (src == 1 && s.variant == .jk256 && Nat.ble 2 (s.fld (F.TBL_PLINE_W0_HV_PAIR n))) then 1
  else if src = 0 ∧ (s.sensePort n).isNone then 2
  else if s.on (F.TBL_PLINE_W0_SPARE_EN n) && (s.on (F.TBL_PLINE_W0_SPARE n) || Nat.ble s.lines sp || !s.lineUp sp ||
      !s.on (F.TBL_PLINE_W0_SPARE sp) || s.fld (F.TBL_PLINE_W1_PILOT sp) != s.fld (F.TBL_PLINE_W1_PILOT n)) then 3
  else if s.outClash n then 4
  else 0

/-- SIG_VALID follows the signature's baseline magnitudes (R353). -/
def State.sigValid (s : State) (n : Nat) : State :=
  s.keep (F.TBL_PLINE_W0_SIG_VALID n) (if (List.range 8).all (fun k => s.rd (A.TBL_SIG_MAG n k) != 0) then 1 else 0)

/-- A word W0 to W7 of a line entry is written (R353); `enWrite` says that EN was written.
(DEDUCED, notes/assumptions/61.md.) -/
def State.lineWrite (s : State) (n : Nat) (enWrite : Bool) : State :=
  let s := s.when enWrite (fun s => s.lineRestart n)
  if s.on (F.TBL_PLINE_W0_EN n) then
    let why := s.lineWhy n
    let s := (s.keep (F.TBL_PLINE_W10_REFUSED n) (if why = 0 then 0 else 1)).keep (F.TBL_PLINE_W10_WHY n) why
    let s := s.when (why != 0) (fun s => s.event F.PROOF_EVT_REFUSED)
    (s.when (why == 0 && s.lineState n == lnDisabled) (fun s => s.setLine n lnService)).proofStatus
  else
    let s := (s.keep (F.TBL_PLINE_W10_REFUSED n) 0).keep (F.TBL_PLINE_W10_WHY n) 0
    let s := s.lineUpd n (fun l => { l with comm := none, sweep := none, noSense := false, supervision := false, unproven := false })
    let s := s.wr (A.TBL_PLINE_W8 n) 0
    (s.when (!(s.line n).perm) (fun s => (s.setLine n lnDisabled).keep (F.TBL_PLINE_W10_RETRY n) 0)).proofStatus

/-! ### Faults (R355, R357, R358) -/

/-- In place of a failing verdict's bit: CMD.RETIRE, which disregards CHG_MASK (R359). -/
def byCommand : Nat := 4

/-- The line's spare is available for a failing verdict's bit. -/
def State.spareFree (s : State) (n bit : Nat) : Bool :=
  let m := s.spareOf n
  s.on (F.TBL_PLINE_W0_SPARE_EN n) && (bit == byCommand || s.bitOf (F.TBL_PLINE_W7_CHG_MASK n) bit) && Nat.blt m s.lines &&
    s.lineUp m && s.lineState m == lnService && !s.on (F.TBL_PLINE_W10_CARRYING m) && !(s.line m).perm &&
    !(List.range s.lines).any (fun k => s.spareOf k == m &&
      ((s.line k).change == .spareFade || (s.line k).change == .spareRamp || (s.line k).change == .backSpareFade))

/-- STATE becomes RETIRED (R357). -/
def State.lineRetired (s : State) (n : Nat) : State :=
  (((s.setLine n lnRetired).keep (F.TBL_PLINE_W10_PASSES n) 0).noteRetired n true).proofStatus

/-- The line's slot fades, and its STATE becomes RETIRED when it is silent. -/
def State.lineFadeOut (s : State) (n : Nat) : State :=
  let key := s.lineKey n
  if s.slotIsSilent key then (s.setChange n .none).lineRetired n else (s.slotFade key).setChange n .lineFade

/-- The changeover to the spare starts (R357). -/
def State.changeover (s : State) (n : Nat) : State := (s.slotFade (s.lineKey (s.spareOf n))).setChange n .spareFade

/-- Lines whose changeover to a failing spare has not reached their own fade go on without it (R360). -/
def State.spareLost (s : State) (m : Nat) : State :=
  forN s.lines (fun k s =>
    let c := (s.line k).change
    if s.spareOf k = m ∧ (c = .spareFade ∨ c = .spareRamp) then
      let s := (s.slotUpd (s.lineKey m) (fun g => { g with carries := none })).setChange k .none
      s.when (s.lineState k != lnRetired) (fun s => (s.setLine k lnPending).noteRetired k true)
    else s) s

/-- Commissioning fails: the old baseline stays (R351). -/
def State.commFail (s : State) (n : Nat) : State :=
  let s := s.when (match (s.line n).sweep with | some w => w.comm | none => false) (fun s =>
    (s.wr (A.TBL_PLINE_W8 n) 0).lineUpd n (fun l => { l with sweep := none }))
  (s.lineUpd n (fun l => { l with comm := none })).event F.PROOF_EVT_COMM_FAIL

/-- A fault becomes permanent (R357, R358); a commissioning in progress fails. -/
def State.faultPermanent (s : State) (n v bit : Nat) (hard : Bool) : State :=
  let spare := s.spareFree n bit
  let s := ((s.inc A.PROOF_CNT_RETIREMENTS).event F.PROOF_EVT_RETIRED).life 14 1
  let s := s.log 11 2 (if spare then 3 else 4) [n, v, s.spareOf n]
  let s := s.when (s.line n).comm.isSome (fun s => s.commFail n)
  let s := (s.spareLost n).lineUpd n (fun l => { l with perm := true, hard := hard, lastFail := bit })
  let s := s.when hard (fun s => (s.slotSilent (s.lineKey n)).lineRetired n)
  let s :=
    if spare then s.changeover n
    else if hard then s.setChange n .none
    else if s.class7 then (s.setLine n lnPending).noteRetired n true
    else s.lineFadeOut n
  s.proofStatus

/-- Class 7 comes into force (R358): retrying lines that can change over do so at once. -/
def State.class7Begin (s : State) : State :=
  forN s.lines (fun n s =>
    let b := (s.line n).lastFail
    s.when (s.lineState n == lnRetrying && !(s.line n).perm && s.spareFree n b)
      (fun s => s.faultPermanent n (b + 2) b false)) s

/-- A spare has become available: pending lines change over, and under class 7 retrying ones do (R358). -/
def State.pendingSpares (s : State) : State :=
  let s := forN s.lines (fun n s =>
    s.when (s.lineState n == lnPending && (s.line n).change == .none && s.spareFree n (s.line n).lastFail)
      (fun s => s.changeover n)) s
  s.when s.class7 State.class7Begin

/-- Class 7 ends (R358): pending lines fade. -/
def State.class7End (s : State) : State :=
  forN s.lines (fun n s =>
    s.when (s.lineState n == lnPending && (s.line n).change == .none) (fun s => s.lineFadeOut n)) s

/-- Class 7 is judged again after a change of lays or holds. -/
def State.class7Edge (s : State) (before : Bool) : State :=
  if s.class7 && !before then s.class7Begin else if before && !s.class7 then s.class7End else s

/-! ### Restoring (R359) -/

/-- A retired line returns to service: a slot that was silenced or is fading ramps, and a changeover that has not reached the
line's own fade is undone. (DEDUCED, notes/assumptions/61.md.) -/
def State.restoreLine (s : State) (n : Nat) : State :=
  let was := s.lineState n
  let key := s.lineKey n
  let c := (s.line n).change
  let taking := c == .spareFade || c == .spareRamp
  let s := (s.setLine n lnService).lineUpd n (fun l => { l with perm := false, hard := false })
  let s := (s.keep (F.TBL_PLINE_W10_RETRY n) 0).keep (F.TBL_PLINE_W10_PASSES n) 0
  let s := ((s.inc A.PROOF_CNT_RESTORES).event F.PROOF_EVT_RESTORED).log 11 3 2 [n, s.spareOf n, (Config.openCode 1).toNat]
  let s := (s.noteRetired n false).lineRestart n
  let s :=
    if was = lnRetired ∨ c = .lineFade then
      (s.when (!s.slotIsUp key) (fun s => s.slotRamp key)).setChange n
        (if s.on (F.TBL_PLINE_W10_CHANGED n) || taking then .backRamp else .probeRamp)
    else if taking then (s.slotFade (s.lineKey (s.spareOf n))).setChange n .backSpareFade
    else s.setChange n .none
  s.proofStatus.pendingSpares

/-- CMD.CLEAR on a line. -/
def State.clearLine (s : State) (n : Nat) : State :=
  let st := s.lineState n
  if st = lnRetired ∨ st = lnPending then s.restoreLine n
  else if st = lnRetrying then
    if (s.line n).perm then s.restoreLine n else (s.setLine n lnService).keep (F.TBL_PLINE_W10_RETRY n) 0
  else s

/-- A fade or ramp of the line's changeover ends (R357, R359). -/
def State.changeStep (s : State) (n : Nat) : State :=
  let key := s.lineKey n
  let m := s.spareOf n
  let sk := s.lineKey m
  match (s.line n).change with
  | .none => s
  | .spareFade =>
    ((s.slotUpd sk (fun g => { g with carries := some n })).slotRamp sk).setChange n .spareRamp
  | .spareRamp =>
    let s := ((s.slotFull sk).set (F.TBL_PLINE_W10_CARRYING m) 1).set (F.TBL_PLINE_W10_CHANGED n) 1
    let s := ((s.inc A.PROOF_CNT_CHANGEOVERS).event F.PROOF_EVT_CHANGEOVER).log 11 3 2 [n, m, (Config.openCode 0).toNat]
    ((s.lineRestart n).lineRestart m).lineFadeOut n
  | .lineFade => (((s.slotSilent key).setChange n .none).lineRetired n)
  | .backRamp => ((s.slotFull key).slotFade sk).setChange n .backSpareFade
  | .backSpareFade =>
    let s := ((s.slotUpd sk (fun g => { g with carries := none })).slotRamp sk).setChange n .backSpareRamp
    let s := (s.set (F.TBL_PLINE_W10_CARRYING m) 0).set (F.TBL_PLINE_W10_CHANGED n) 0
    (s.lineRestart n).lineRestart m
  | .backSpareRamp => ((s.slotFull sk).setChange n .none).pendingSpares
  | .probeRamp => (s.slotFull key).setChange n .none
  | .probeFade => (s.slotSilent key).setChange n .none

/-! ### Retry sequences (R354, R355) -/

/-- The backoff after RETRY failed retries: 2, 20 and 200 s. -/
def backoff (retry : Nat) : Nat := (if retry = 0 then 2 else if retry = 1 then 20 else 200) * secU

/-- A failing verdict opens a sequence. -/
def State.openRetry (s : State) (n bit : Nat) : State :=
  ((s.setLine n lnRetrying).keep (F.TBL_PLINE_W10_RETRY n) 0).lineUpd n (fun l => { l with
    lastFail := bit, retryUp := s.time.up + backoff 0 })

/-- A retry fails. -/
def State.retryFails (s : State) (n v bit : Nat) : State :=
  let r := s.fld (F.TBL_PLINE_W10_RETRY n) + 1
  let s := (s.keep (F.TBL_PLINE_W10_RETRY n) r).inc A.PROOF_CNT_RETRIES
  let s := s.lineUpd n (fun l => { l with lastFail := bit, retryUp := s.time.up + backoff r })
  s.when (Nat.ble 3 r || (s.class7 && s.spareFree n bit)) (fun s => s.faultPermanent n v bit false)

/-- A failing verdict acts on a line; `retry` says that it is a retry's. -/
def State.failing (s : State) (n v bit : Nat) (retry : Bool) : State :=
  let st := s.lineState n
  if st = lnRetired ∨ st = lnDisabled then s
  else if s.bitOf (F.TBL_PLINE_W7_HARD_MASK n) bit then s.faultPermanent n v bit true
  else if (s.line n).perm then s
  else if st = lnService then
    let s := s.openRetry n bit
    if s.class7 && s.spareFree n bit then s.faultPermanent n v bit false else s
  else if st = lnRetrying then
    if retry then s.retryFails n v bit
    else
      let s := s.lineUpd n (fun l => { l with lastFail := bit })
      s.when (s.class7 && s.spareFree n bit) (fun s => s.faultPermanent n v bit false)
  else s

/-- The sequence ends with an OK verdict. -/
def State.retryOk (s : State) (n : Nat) : State :=
  s.when (s.lineState n == lnRetrying && !(s.line n).perm)
    (fun s => (s.setLine n lnService).keep (F.TBL_PLINE_W10_RETRY n) 0)

/-! ### The nightly run (R361 to R366) -/

/-- YIELD_MIN and RESUME_S as they act. -/
def State.yieldMin (s : State) : Nat := let y := s.fld F.PROOF_RUN_CFG_YIELD_MIN; if y = 0 then 4 else min y 6
def State.yielding (s : State) : Bool := s.layActive (fun c => Nat.ble s.yieldMin c)
def State.resumeUp (s : State) : Nat := s.fld F.PROOF_RUN_CFG_RESUME_S * secU

def State.runState (s : State) : Nat := s.fld F.PROOF_RUN_STATUS_STATE
def State.runOn (s : State) : Bool := Nat.ble 1 s.runState && Nat.ble s.runState 3

/-- Lines with a sweep of the run still to finish. -/
def State.sweepsLeft (s : State) : List Nat :=
  (List.range s.lines).filter (fun n => match (s.line n).sweep with
    | some w => !w.comm
    | none => false)

/-- A retired line whose sweep's windows end is silenced again (R362). -/
def State.probeEnd (s : State) (n : Nat) : State :=
  s.when (s.lineState n == lnRetired && s.slotIsUp (s.lineKey n)) (fun s => (s.slotFade (s.lineKey n)).setChange n .probeFade)

/-- The run ends (R362, R365): lines that are not finished get ABORTED. -/
def State.runEnd (s : State) (st : Nat) : State :=
  let s := forL s.sweepsLeft (fun n s =>
    (((s.set (F.TBL_PLINE_W10_RUN_VERDICT n) 7).wr (A.TBL_PLINE_W8 n) 0).lineUpd n (fun l => { l with sweep := none })).probeEnd n) s
  let s := ((s.set F.PROOF_RUN_STATUS_STATE st).set F.PROOF_RUN_STATUS_LINES_LEFT 0).event F.PROOF_EVT_RUN_DONE
  let s := s.log 11 4 1 [s.proof.swept, s.fld F.PROOF_RUN_STATUS_ABORTS, s.proof.failing]
  let paths := (List.range 128).filter (fun k => s.on (F.TBL_PATH_W0_VALID k))
  let clean := !paths.isEmpty && paths.all (fun k => s.fld (F.TBL_PATH_W3_RESULT_A k) == 1 && s.fld (F.TBL_PATH_W3_RESULT_B k) == 1)
  let s := s.when clean (fun s => s.keep F.PROOF_STATUS_PATH_FAULT 0)
  let woke := s.proof.woke
  let s := (s.updProof (fun x => { x with path := none, woke := false })).proofStatus
  s.when woke (fun s => s.modQuiet 3)

/-- Whether the run has anything left to do (R362). -/
def State.runCheck (s : State) : State :=
  let left := s.sweepsLeft.length
  let s := s.keep F.PROOF_RUN_STATUS_LINES_LEFT left
  if s.runState = 2 ∧ left = 0 then
    if s.proof.path.isSome then s.set F.PROOF_RUN_STATUS_STATE 3 else s.runEnd 4
  else if s.runState = 3 ∧ s.proof.path.isNone then s.runEnd 4
  else s

/-- A run starts with a cause (R361); from QUIET it wakes the module. -/
def State.runStart (s : State) (cause : Nat) : State :=
  let quiet := s.modState == stQuiet
  if s.runOn || !(s.modState == stRun || quiet) then s.event F.PROOF_EVT_CMD_REFUSED
  else
    let s := s.when quiet (fun s => s.modRun cause)
    let s := s.clearRegs (A.TBL_PATH_W0 0) (A.TBL_PATH_W0 128)
    let s := s.updProof (fun x => { x with
      number := (x.number + 1) % 2 ^ 32, startUp := s.time.up, woke := quiet, path := none, swept := 0, failing := 0, paths := [] })
    (s.set F.PROOF_RUN_STATUS_STATE 1).set F.PROOF_RUN_STATUS_ABORTS 0

/-- The lines a run sweeps (R362). -/
def State.sweepable (s : State) (n : Nat) : Bool :=
  let st := s.lineState n
  s.lineUp n && (s.on (F.TBL_PLINE_W0_SPARE n) ||
    (s.on (F.TBL_PLINE_W0_SIG_VALID n) && (st == lnService || st == lnRetrying)) ||
    (st == lnRetired && s.fld (F.TBL_PLINE_W6_AUTO_N n) != 0 && !(s.line n).hard))

/-- The waiting run begins (R362): after the tests it must wait for (R527), and a line under commissioning is not swept. -/
def State.runBegin (s : State) : State :=
  if s.runState = 1 ∧ !s.yielding ∧ !s.testBusy (fun b => audioConcerns b && !s.yields b) then
    let s := s.testYield 2 audioConcerns
    let first := s.fld F.PROOF_RUN_STATUS_ABORTS == 0
    let s := s.when first (fun s => forN s.lines (fun n s => s.when (s.sweepable n && (s.line n).sweep.isNone) (fun s =>
      s.lineUpd n (fun l => { l with sweep := some ⟨0, [], false, 0⟩ }))) s)
    let s := s.when (first && s.on F.PROOF_RUN_CFG_PATH_EN) (fun s => s.updProof (fun x => { x with path := some 0 }))
    (s.set F.PROOF_RUN_STATUS_STATE 2).runCheck
  else s

/-- A yielding lay becomes active (R365): the sweep is aborted. -/
def State.sweepAbort (s : State) : State :=
  let ns := (List.range s.lines).filter (fun n => match (s.line n).sweep with
    | some w => w.k != 0 || s.runState == 2
    | none => false)
  if ns.isEmpty then s
  else
    let s := forL ns (fun n s => ((s.wr (A.TBL_PLINE_W8 n) 0).lineUpd n (fun l => { l with
      sweep := l.sweep.map (fun w => { w with k := 0, results := [], after := s.time.up + s.resumeUp }) })).probeEnd n) s
    let s := (s.inc A.PROOF_CNT_RUN_ABORTS).event F.PROOF_EVT_RUN_ABORT
    s.when (s.runState == 2) (fun s =>
      (s.set F.PROOF_RUN_STATUS_STATE 1).set F.PROOF_RUN_STATUS_ABORTS (min 255 (s.fld F.PROOF_RUN_STATUS_ABORTS + 1)))

/-- At a half window the next sweep frequency is written, or the sweep's pilot ends (R362). -/
def State.sweepStep (s : State) (n : Nat) : State :=
  match (s.line n).sweep with
  | none => s
  | some w =>
    if w.k = 0 ∧ (s.time.up < w.after ∨ s.yielding ∨ (!w.comm ∧ s.runState ≠ 2)) then s
    else if w.k < 8 then
      let s := (s.wr (A.TBL_PLINE_W8 n) s.runAmp).wr (A.TBL_PLINE_W9 n) (s.runStep w.k)
      let s := s.when (w.k == 0 && s.lineState n == lnRetired && s.slotIsSilent (s.lineKey n))
        (fun s => (s.slotRamp (s.lineKey n)).setChange n .probeRamp)
      s.lineUpd n (fun l => { l with sweep := some { w with k := w.k + 1 } })
    else if w.k = 8 then (s.wr (A.TBL_PLINE_W8 n) 0).lineUpd n (fun l => { l with sweep := some { w with k := 9 } })
    else s

/-- The record accepted now is a sweep window's: its frequency was in force when the window began. -/
def Sweep.takes (w : Sweep) : Bool := Nat.ble (w.results.length + 2) w.k

/-- The verdict of a run from its eight windows (R364). -/
def runVerdict (l : List (Nat × Nat)) : Nat :=
  if l.any (fun r => r.1 == vIndet || (r.1 == vNoSense && r.2 == 1)) then vIndet
  else if l.any (fun r => r.1 == vShort) then vShort
  else if l.any (fun r => r.1 == vOpen) then vOpen
  else if l.any (fun r => r.1 == vNoSense) then vNoSense
  else if l.any (fun r => r.1 == vDrift) then vDrift
  else if l.any (fun r => r.1 == vOk) then vOk
  else vNone

/-- A line's sweep of the run is complete (R362, R364, R359). -/
def State.sweepDone (s : State) (n : Nat) (l : List (Nat × Nat)) : State :=
  let v := runVerdict l
  let s := (s.set (F.TBL_PLINE_W10_RUN_VERDICT n) v).lineUpd n (fun x => { x with sweep := none })
  let bit := failBit v 2
  let s := s.updProof (fun x => { x with swept := x.swept + 1, failing := x.failing + (if bit.isSome then 1 else 0) })
  let retired := s.lineState n == lnRetired
  let s := s.when (v == vOk) (fun s => s.keep (F.TBL_PLINE_W10_UNPROVEN n) 0)
  let again (s : State) : State := s.when (s.lineState n == lnRetrying && !(s.line n).perm) (fun s =>
    s.lineUpd n (fun x => { x with sweep := some ⟨0, [], false, x.retryUp⟩ }))
  let s :=
    if retired then
      if (s.line n).hard || s.fld (F.TBL_PLINE_W6_AUTO_N n) == 0 then s.probeEnd n
      else if v = vOk then
        let p := min 255 (s.fld (F.TBL_PLINE_W10_PASSES n) + 1)
        let s := s.set (F.TBL_PLINE_W10_PASSES n) p
        if s.fld (F.TBL_PLINE_W6_AUTO_N n) ≤ p then s.restoreLine n else s.probeEnd n
      else (s.when bit.isSome (fun s => s.set (F.TBL_PLINE_W10_PASSES n) 0)).probeEnd n
    else match bit with
      | some b => again (s.failing n v b true)
      | none => if v = vOk then s.retryOk n else again s
  s.proofStatus.runCheck

/-! ### Commissioning (R351) -/

/-- Sixteen windows are in: the baseline is their mean, and the line is swept alone. -/
def State.commBase (s : State) (n : Nat) (l : List (Nat × Int × Bool)) : State :=
  let mags := l.map (fun x => x.1)
  let sum := mags.sum
  let p0 := (l.map (fun x => x.2.1)).headD 0
  let ds := l.map (fun x => wrapDeg (x.2.1 - p0))
  let spread := mags.foldl max 0 - mags.foldl min sum
  let dphi := ds.foldl max 0 - ds.foldl min 0
  if l.any (fun x => x.2.2) || Nat.blt (2 * sum) (spread * 1600) || decide (200 < dphi) then s.commFail n
  else
    let s := (s.wr (A.TBL_PLINE_W4 n) ((2 * sum + 16) / 32)).set (F.TBL_PLINE_W5_Z0_PH n) (unsgn 16 (wrapDeg (p0 + roundDiv ds.sum 16)))
    s.lineUpd n (fun x => { x with comm := some [], sweep := some ⟨0, [], true, 0⟩ })

/-- A commissioning window's measurement. -/
def State.commWindow (s : State) (n : Nat) (m : Meas) (v reason : Nat) : State :=
  match (s.line n).comm, (s.line n).sweep with
  | some l, none =>
    let l := (m.mag, m.ph, v == vNoSense || v == vIndet || reason == 1) :: l
    if l.length < 16 then s.lineUpd n (fun x => { x with comm := some l }) else s.commBase n l.reverse
  | _, _ => s

/-- A sweep window's record (R351, R364). (DEDUCED, notes/assumptions/61.md.) -/
def State.sweepRecord (s : State) (n : Nat) (m : Meas) (w : Sweep) (vr : Nat → Nat × Nat) : State :=
  let k := w.results.length
  let j := s.judgedAs n
  let ph := unsgn 16 m.ph
  if w.comm then
    let s := (s.wr (A.TBL_SIG_MAG n k) m.mag).set (F.TBL_SIG_PH_PH n k) ph
    if k = 7 then
      ((s.lineUpd n (fun x => { x with comm := none, sweep := none })).sigValid n).event F.PROOF_EVT_COMM_DONE
    else s.lineUpd n (fun x => { x with sweep := some { w with results := w.results ++ [(0, 0)] } })
  else
    let r := vr (s.rd (A.TBL_SIG_MAG j k))
    let s := (s.wr (A.TBL_SIG_RUN n (2 * k)) m.mag).wr (A.TBL_SIG_RUN n (2 * k + 1)) (ph * 65536)
    let l := w.results ++ [r]
    if k = 7 then s.sweepDone n l else s.lineUpd n (fun x => { x with sweep := some { w with results := l } })

/-! ### Records (R345, R346, R350, R356) -/

/-- A verdict's message to the host (R350): its body's two words are not given (notes/assumptions/1.md). -/
def State.verdictMsg (s : State) (ef : Nat) : State :=
  let (a, s) := s.free 32
  let (b, s) := s.free 32
  s.push { queue := s.fld F.PROOF_CFG_QUEUE, prio := s.fld F.PROOF_CFG_PRIO, src := 3, core := 0, desc := 0,
           ef := ef % 2 ^ 32, body := [BitVec.ofNat 32 a, BitVec.ofNat 32 b] }

/-- A continuous verdict (R350 to R356). `retry` says that its window may be a retry's. -/
def State.verdict (s : State) (n ef : Nat) (m : Meas) (v reason : Nat) (retry : Bool) : State :=
  let old := s.fld (F.TBL_PLINE_W10_VERDICT n)
  let bit := failBit v reason
  let s := (s.keep (F.TBL_PLINE_W10_VERDICT n) v).keep (F.TBL_PLINE_W10_REASON n) reason
  let s := s.when (v == vIndet) (fun s => s.inc A.PROOF_CNT_INDET)
  let s := s.when (v != old) (fun s =>
    ((s.event F.PROOF_EVT_VERDICT).verdictMsg ef).log 11 1 (if bit.isSome then 3 else 1) [n, v, reason, m.mag, unsgn 32 m.ph])
  let lost := v == vNoSense && reason == 1
  let s := s.lineUpd n (fun l => { l with
    noSense := lost, supervision := l.supervision && lost, unproven := lost || v == vIndet })
  let s := s.when (v == vOk || bit.isSome) (fun s => s.keep (F.TBL_PLINE_W10_UNPROVEN n) 0)
  let s := s.commWindow n m v reason
  let s := match bit with
    | some b => s.failing n v b retry
    | none => s.when (v == vOk && retry) (fun s => s.retryOk n)
  s.proofStatus

/-- A line's record is complete (R345, R346). -/
def State.record (s : State) (n ef : Nat) : State :=
  if !(s.on F.PROOF_CFG_EN && s.lineUp n) then s
  else
    let l := s.line n
    if l.count ≠ s.windowEf then
      ((s.inc A.PROOF_CNT_PARTIAL).lineRestart n).lineUpd n (fun l => { l with
        sweep := l.sweep.map (fun w => if w.k = 0 then w else { w with k := 0, results := [] }) })
    else
      let (m, s) := s.measure n
      let s := (s.inc A.PROOF_CNT_VERDICTS).wr (A.TBL_PLINE_W11 n) m.mag
      let s := (s.set (F.TBL_PLINE_W12_Z_PH n) (unsgn 16 m.ph)).set (F.TBL_PLINE_W12_GUARD n) m.guard
      let s := ((s.wr (A.TBL_PLINE_W13 n) (s.ampQ31 m.v2)).wr (A.TBL_PLINE_W14 n) (s.ampQ31 m.i2)).wr (A.TBL_PLINE_W15 n) ef
      let retry := Nat.ble l.retryUp l.winUp
      let s := s.lineRestart n
      let vr := s.verdictOf n m l.valid l.invalid l.overEf
      match l.sweep with
      | some w =>
        if w.takes then s.sweepRecord n m w vr
        else
          let (v, r) := vr (if l.comm.isSome ∧ l.sweep.isNone then 0 else s.rd (A.TBL_PLINE_W4 (s.judgedAs n)))
          s.verdict n ef m v r retry
      | none =>
        let (v, r) := vr (if l.comm.isSome then 0 else s.rd (A.TBL_PLINE_W4 (s.judgedAs n)))
        s.verdict n ef m v r retry

/-- A record word released at the commit of an EF (R345): word 7 completes it. -/
def State.recordWord (s : State) (n w : Nat) (v : Word) (ef : Nat) : State :=
  let s := s.putReg (A.PROOF_REC n w) v
  let mask := (s.line n).mask ||| 2 ^ w
  let s := s.lineUpd n (fun l => { l with mask := mask })
  if w = 7 then
    let s := s.lineUpd n (fun l => { l with mask := 0 })
    if mask = 255 then s.record n ef else s.inc A.PROOF_CNT_REC_ERR
  else s

/-- The line's sense was valid in an EF, and went out of range (R343, R344). -/
def State.senseOf (s : State) (n ef : Nat) : Bool × Bool :=
  match Sparse.find s.proof.sense ef with
  | none => (false, false)
  | some (ok, rng) =>
    if s.fld (F.TBL_PLINE_W0_SRC n) = 0 then
      match s.sensePort n with
      | none => (false, false)
      | some p => (ok.testBit p, false)
    else
      let h := 2 * s.fld (F.TBL_PLINE_W0_HV_PAIR n)
      (ok.testBit (8 + h) && ok.testBit (9 + h), rng.testBit h || rng.testBit (h + 1))

/-- PROOF takes a committed EF (R346, R362). Words of a record that is not complete by the EF's commit are forgotten. -/
def State.proofCommit (s : State) (ef : Nat) : State :=
  let s := forN s.lines (fun n s =>
    if s.lineUp n then
      let (ok, rng) := s.senseOf n ef
      let s := s.lineUpd n (fun l => { l with
        count := l.count + 1, valid := l.valid || ok, invalid := l.invalid || !ok, overEf := l.overEf || rng, mask := 0 })
      s.when ((s.line n).count == s.halfWindow) (fun s => s.sweepStep n)
    else s.when ((s.line n).mask != 0) (fun s => s.lineUpd n (fun l => { l with mask := 0 }))) s
  s.updProof (fun x => { x with sense := x.sense.filter (fun e => Nat.blt ef e.1) })

/-! ### Direct sense (R344) -/

/-- Direct inputs of the variant. -/
def State.hvInputs (s : State) : Nat := s.variant.pick 8 8 4

/-- A direct input's samples of the EF that ends, first chain index q, are written (R192): a sample at or beyond full scale
clips and sets OVR. -/
def State.hvWrite (s : State) (k q : Nat) (xs : List Int) : Bool × State :=
  let slot := s.fld (F.PROOF_HV_CFG_BUS_SLOT k)
  if s.unitOn 12 && s.on (F.PROOF_HV_CFG_EN k) && Nat.blt k s.hvInputs then
    let rng := xs.any (fun x => decide (2147483647 ≤ x) || decide (x ≤ -2147483648))
    let s := s.when rng (fun s => s.set (F.PROOF_HV_CFG_OVR k) 1)
    let s := if s.hiRate && slot % 2 == 1 then s
      else forN s.efLen (fun j s =>
        s.putSample slot (s.capturePos (q + j)) (if s.blockOk 10 then (sat31 (getAt xs j 0)).1 else 0)) s
    (rng, s)
  else (false, s)

/-- At a tick the sense of the EF that ends is noted for the EF it was written to, and the direct inputs' samples land. A
port's sense was valid in that EF if it is the second or a later one of consecutive clean EFs (R335). -/
def State.senseTick (s : State) (ended : Nat) (hv : List (List Int)) : State :=
  let live := ofBits ((List.range 8).map (fun k => Nat.blt k s.hvInputs && s.unitOn 12 && s.blockOk 10 && s.on (F.PROOF_HV_CFG_EN k)))
  let (rng, s) := (List.range 8).foldl (fun (r, s) k =>
    let (o, s) := s.hvWrite k (ended * s.efLen) (getAt hv k [])
    (if o then r ||| 2 ^ k else r, s)) (0, s)
  let valid := ofBits ((List.range s.tdmPorts).map (fun n => (s.tp n).senseClean == 2))
  s.updProof (fun x => { x with sense := Sparse.insert (ended + s.play.slack + 3) (valid + 256 * live, rng) x.sense })

/-! ### Line commands (R359, R370) -/

/-- A line command: COMMISSION, RETIRE or CLEAR on one line. -/
def State.lineCmd (s : State) (n : Nat) (commission retire clear : Bool) : State :=
  if !s.lineUp n then s.event F.PROOF_EVT_CMD_REFUSED
  else
    let s := s.when clear (fun s => s.clearLine n)
    let s := s.when (retire && s.lineState n != lnRetired && !(s.line n).perm) (fun s =>
      s.faultPermanent n (s.fld (F.TBL_PLINE_W10_VERDICT n)) byCommand false)
    if commission then
      let st := s.lineState n
      if st = lnRetired ∨ st = lnPending ∨ s.on (F.TBL_PLINE_W10_CARRYING n) ∨ s.on (F.TBL_PLINE_W10_CHANGED n) then
        s.event F.PROOF_EVT_CMD_REFUSED
      else s.lineUpd n (fun l => { l with comm := some [], sweep := none })
    else s

/-- PROOF.CMD is written: `cmd` holds its SC bits. -/
def State.proofCmd (s : State) (cmd : Nat) : State :=
  let line := s.fld F.PROOF_CMD_LINE
  let comm := cmd.testBit 1
  let ret := cmd.testBit 2
  let clr := cmd.testBit 3
  let s :=
    if comm || ret || clr then
      if s.on F.PROOF_CMD_ALL then
        forN s.lines (fun n s => s.when (s.on (F.TBL_PLINE_W0_EN n)) (fun s => s.lineCmd n comm ret clr)) s
      else if s.lines ≤ line then s.event F.PROOF_EVT_CMD_REFUSED
      else s.lineCmd line comm ret clr
    else s
  let s := s.when (cmd.testBit 4) (fun s => s.runStart 3)
  let s := s.when (cmd.testBit 5 && s.runOn) (fun s => s.runEnd 5)
  s.when (cmd.testBit 6) (fun s => (s.keep F.PROOF_STATUS_PATH_FAULT 0).proofStatus)

/-! ### Path proof (R367 to R369) -/

/-- The path frame that goes next, to the group's address. -/
def State.pathFrame (s : State) (group k : Nat) : Frame where
  dst := group
  src := s.mac
  vid := 0
  tags := 0
  pcp := 5
  dscp := 34
  scp := false
  group := some group
  rtag := none
  len := 78
  fcsOk := true
  oversize := false
  tsErr := 0
  body := .path 0x50524F46 s.proof.number (if k < 1000 then k else 0xFFFFFFFF) 1000
  raw := []

/-- A path frame, and finally an END frame, is sent. -/
def State.pathSend (s : State) (group : Nat) : State :=
  match s.proof.path with
  | none => s
  | some k =>
    let s := s.toRing (s.ownFrame (s.pathFrame group k) 5)
    (s.updProof (fun x => { x with path := if k < 1000 then some (k + 1) else none })).runCheck

/-- The path table's entry of a sender, or the one it takes: a free one, or the least recently used. -/
def State.pathEntry (s : State) (mac : Nat) : Nat × State :=
  let is (k : Nat) : Bool := s.on (F.TBL_PATH_W0_VALID k) && s.fld (F.TBL_PATH_W0_MAC_HI k) == mac / 2 ^ 32 && s.rd (A.TBL_PATH_W1 k) == mac % 2 ^ 32
  match (List.range 128).find? is with
  | some k => (k, s)
  | none =>
    let k := match (List.range 128).find? (fun k => !s.on (F.TBL_PATH_W0_VALID k)) with
      | some k => k
      | none => ((s.proof.paths.foldl (fun b e => match b with
          | none => some e
          | some (_, t) => if e.2 < t then some e else b) (none : Option (Nat × Nat))).map Prod.fst).getD 0
    let s := s.clearRegs (A.TBL_PATH_W0 k) (A.TBL_PATH_W0 (k + 1))
    let s := (s.set (F.TBL_PATH_W0_VALID k) 1).set (F.TBL_PATH_W0_MAC_HI k) (mac / 2 ^ 32)
    (k, s.wr (A.TBL_PATH_W1 k) (mac % 2 ^ 32))

/-- A direction's result (R369). -/
def pathResult (got sent : Nat) : Nat := if got = sent then 1 else if got = 0 then 3 else if got < sent then 2 else 0

/-- The END frame sets the results. (DEDUCED, notes/assumptions/62.md.) -/
def State.pathEnd (s : State) (k sent : Nat) : State :=
  let a := pathResult (s.fld (F.TBL_PATH_W2_GOT_A k)) sent
  let b := pathResult (s.fld (F.TBL_PATH_W2_GOT_B k)) sent
  let s := ((s.set (F.TBL_PATH_W3_SENT k) sent).set (F.TBL_PATH_W3_RESULT_A k) a).set (F.TBL_PATH_W3_RESULT_B k) b
  let bad := (if 2 ≤ a then 1 else 0) + (if 2 ≤ b then 1 else 0)
  let s := s.log 11 5 (if bad = 0 then 1 else 3) [s.rd (A.TBL_PATH_W1 k), s.fld (F.TBL_PATH_W0_MAC_HI k), a, b]
  if bad = 0 then s
  else (((s.bump A.PROOF_CNT_PATH_LOSS bad).set F.PROOF_STATUS_PATH_FAULT 1).event F.PROOF_EVT_PATH_FAULT).proofStatus

/-- A path frame arrives on ring port p (R368), before recovery. (DEDUCED, notes/assumptions/62.md.) -/
def State.pathRx (s : State) (p mac w0 seq sent : Nat) : State :=
  if w0 ≠ 0x50524F46 then s
  else
    let (k, s) := s.pathEntry mac
    let s := s.updProof (fun x => { x with paths := Sparse.insert k s.time.up x.paths })
    if seq = 0xFFFFFFFF then
      if s.fld (F.TBL_PATH_W3_RESULT_A k) = 0 ∧ s.fld (F.TBL_PATH_W3_RESULT_B k) = 0 then s.pathEnd k sent else s
    else
      let f := if p = 0 then F.TBL_PATH_W2_GOT_A k else F.TBL_PATH_W2_GOT_B k
      s.set f (min 65535 (s.fld f + 1))

/-! ### The commands of the family -/

/-- CHANGEOVER_STEP (R357): a fade or ramp of line n's changeover ends. -/
def execChangeoverStep (n dt : Nat) (s : State) : Result := s.runIf (decide (n < s.lines)) fun s => (s.advance dt).changeStep n

/-- SUPERVISION_LOSS (R356). -/
def execSupervisionLoss (n : Nat) (s : State) : Result := s.runIf (decide (n < s.lines)) fun s =>
  let l := s.line n
  s.when (l.noSense && !l.supervision) (fun s =>
    ((s.lineUpd n (fun l => { l with supervision := true })).event F.PROOF_EVT_SUPERVISION).proofStatus)

/-- UNPROVEN (R356). -/
def execUnproven (n : Nat) (s : State) : Result := s.runIf (decide (n < s.lines)) fun s =>
  s.when ((s.line n).unproven && !s.on (F.TBL_PLINE_W10_UNPROVEN n)) (fun s =>
    ((s.set (F.TBL_PLINE_W10_UNPROVEN n) 1).event F.PROOF_EVT_UNPROVEN).proofStatus)

/-- COMMISSION_TIMEOUT (R351): 10 min have passed since line n's COMMISSION. -/
def execCommissionTimeout (n : Nat) (s : State) : Result := s.runIf (decide (n < s.lines)) fun s =>
  s.when (s.line n).comm.isSome (fun s => s.commFail n)

/-- PROOF_RUN_BEGIN (R362): no yielding lay has been active for RESUME_S. -/
def execProofRunBegin (s : State) : Result := s.run State.runBegin

/-- RUN_DEADLINE (R365). -/
def execRunDeadline (s : State) : Result := s.run fun s => s.when s.runOn (fun s => s.runEnd 5)

/-- PATH_FRAME_SEND (R367): to the path group of the configuration. -/
def execPathFrameSend (group dt : Nat) (s : State) : Result := s.run fun s =>
  let s := s.advance dt
  s.when s.runOn (fun s => s.pathSend group)

/-- PATH_RESULT_TIMEOUT (R369): 5 s after the last frame of the sender of entry k no END has come, and the MP logs it as
incomplete; its results stay none. (DEDUCED, notes/assumptions/62.md.) -/
def execPathResultTimeout (k : Nat) (s : State) : Result := s.runIf (decide (k < 128)) fun s =>
  s.when (s.on (F.TBL_PATH_W0_VALID k) && s.fld (F.TBL_PATH_W3_RESULT_A k) == 0 && s.fld (F.TBL_PATH_W3_RESULT_B k) == 0)
    (fun s => s.log 11 5 1 [s.rd (A.TBL_PATH_W1 k), s.fld (F.TBL_PATH_W0_MAC_HI k), 0, 0])

end Sys2Proof.Machine
end

