-- ==== Sys2Proof/Machine/Strm.lean ====
section
/-! DEFINITION. Listener and talker streams: entry checks, received packets, lays, adjustments, the arrival hold, sent packets
and group membership (R153 to R188). -/

namespace Sys2Proof.Machine

/-! ### Formats and limits (R156 to R159) -/

/-- Samples per packet of a PTIME code (R157); none where the code is unused. -/
def State.ptimeN (s : State) (code : Nat) : Option Nat := ([6, 12, 16, 48, 192][code]?).map (· * s.rateMul)

/-- Bytes of a sample on the network. -/
def encBytes (enc : Nat) : Nat := enc + 2

/-- Header bytes by transport (R158). -/
def headerBytes (tr : Nat) : Nat := if tr = 0 then 40 else if tr = 1 then 60 else 24

/-- The smallest frame limit of the three ports, with one 802.1Q tag. -/
def State.streamLimit (s : State) : Nat :=
  let lim (p : Nat) : Nat := if s.on (F.RING_PORT_CFG_JUMBO_EN p) then s.fld (F.RING_PORT_CFG_MAX_FRAME p) else 1522
  min (lim 0) (min (lim 1) (lim 2))

/-- The most channels of a stream (R158). -/
def State.maxChannels (s : State) (tr enc n : Nat) : Nat :=
  min 64 ((s.streamLimit - 22 - headerBytes tr) / (n * encBytes enc))

/-- Network channels each way at the rate in use (R2, R5). -/
def State.netChannels (s : State) : Nat := s.variant.pick 1024 512 256 / s.rateMul

/-- The figures that both tables share in W0. -/
def State.formatWhy (s : State) (ch tr enc pt : Nat) : Nat :=
  if ch = 0 ∨ 64 < ch ∨ tr = 3 ∨ enc = 3 ∨ (enc = 2 ∧ tr ≠ 2) then 1
  else match s.ptimeN pt with
    | none => 1
    | some n => if s.maxChannels tr enc n < ch then 2 else 0

/-- Slots out of range or odd at 176.4/192 kHz (R161). -/
def State.slotsBad (s : State) (map : Bool) (mapAdr first ch : Nat) : Bool :=
  if map then
    s.hiRate && anyN ch (fun k => let h := s.mapHalf mapAdr k; Nat.blt h (2 ^ 15) && h % 2 == 1)
  else Nat.blt 4095 (first + ch * (if s.hiRate then 2 else 1) - 1) || (s.hiRate && first % 2 == 1)

/-! ### Listener entries (R160, R161, R181) -/

/-- The higher-numbered entry of a pair as the tables name it, whether or not both pass their checks. -/
def State.pairHigher (s : State) (n : Nat) : Bool :=
  let p := s.fld (F.TBL_LISTENER_W13_PARTNER n)
  s.on (F.TBL_LISTENER_W0_MERGE_EN n) && Nat.blt p n && s.on (F.TBL_LISTENER_W0_EN p) && s.on (F.TBL_LISTENER_W0_MERGE_EN p) &&
    s.fld (F.TBL_LISTENER_W13_PARTNER p) == n

/-- PARTNER names an enabled entry that names this one back with the same format. -/
def State.partnerOk (s : State) (n : Nat) : Bool :=
  let p := s.fld (F.TBL_LISTENER_W13_PARTNER n)
  Nat.blt p s.streams && p != n && s.on (F.TBL_LISTENER_W0_EN p) && s.on (F.TBL_LISTENER_W0_MERGE_EN p) &&
    s.fld (F.TBL_LISTENER_W13_PARTNER p) == n &&
    s.fld (F.TBL_LISTENER_W0_TRANSPORT p) == s.fld (F.TBL_LISTENER_W0_TRANSPORT n) &&
    s.fld (F.TBL_LISTENER_W0_ENC p) == s.fld (F.TBL_LISTENER_W0_ENC n) &&
    s.fld (F.TBL_LISTENER_W0_CHANNELS p) == s.fld (F.TBL_LISTENER_W0_CHANNELS n) &&
    s.fld (F.TBL_LISTENER_W0_PTIME p) == s.fld (F.TBL_LISTENER_W0_PTIME n)

/-- A 128-bit address of four words, most significant first. -/
def State.addr128 (s : State) (a b c d : Nat) : Nat :=
  ((s.rd a * 2 ^ 32 + s.rd b) * 2 ^ 32 + s.rd c) * 2 ^ 32 + s.rd d

/-- The source address that SRC_FILTER compares. -/
def State.lisSource (s : State) (n : Nat) : Nat :=
  if s.fld (F.TBL_LISTENER_W0_TRANSPORT n) = 1 then
    s.addr128 (A.TBL_LISTENER_W10 n) (A.TBL_LISTENER_W11 n) (A.TBL_LISTENER_W12 n) (A.TBL_LMAP n 31)
  else s.rd (A.TBL_LISTENER_W10 n)

/-- The destination: IPv4 or IPv6 address, or an AAF stream_id and destination MAC address. -/
def State.lisDest (s : State) (n : Nat) : Nat × Nat :=
  let tr := s.fld (F.TBL_LISTENER_W0_TRANSPORT n)
  if tr = 0 then (s.rd (A.TBL_LISTENER_W5 n), 0)
  else if tr = 1 then
    (s.addr128 (A.TBL_LISTENER_W5 n) (A.TBL_LISTENER_W6 n) (A.TBL_LISTENER_W7 n) (A.TBL_LISTENER_W8 n), 0)
  else (s.rd (A.TBL_LISTENER_W5 n) * 2 ^ 32 + s.rd (A.TBL_LISTENER_W6 n),
    s.rd (A.TBL_LISTENER_W7 n) % 65536 * 2 ^ 32 + s.rd (A.TBL_LISTENER_W8 n))

/-- What an entry matches by: transport, VID, destination, UDP port and source. -/
def State.lisKey (s : State) (n : Nat) : Nat × Nat × (Nat × Nat) × Nat × Option Nat :=
  (s.fld (F.TBL_LISTENER_W0_TRANSPORT n), s.fld (F.TBL_LISTENER_W2_VID n), s.lisDest n,
    if s.fld (F.TBL_LISTENER_W0_TRANSPORT n) = 2 then 0 else s.fld (F.TBL_LISTENER_W1_UDP_PORT n),
    if s.on (F.TBL_LISTENER_W0_SRC_FILTER n) then some (s.lisSource n) else none)

/-- Channels that count towards the total of R159 besides those of entry n. -/
def State.lisTotal (s : State) (n : Nat) : Nat :=
  forN s.streams (fun m t => if m != n && s.lisOn m && !s.pairHigher m then t + s.fld (F.TBL_LISTENER_W0_CHANNELS m) else t) 0

/-- The reason an entry is refused for, or 0 (R161). LAY, FIRST_SLOT and the map of the higher entry of a pair are ignored.
(DEDUCED, notes/assumptions/40.md.) -/
def State.lisWhy (s : State) (n : Nat) : Nat :=
  let ch := s.fld (F.TBL_LISTENER_W0_CHANNELS n)
  let tr := s.fld (F.TBL_LISTENER_W0_TRANSPORT n)
  let map := s.on (F.TBL_LISTENER_W0_MAP_EN n)
  let lay := s.lisLay n
  let hi := s.pairHigher n
  let fmt := s.formatWhy ch tr (s.fld (F.TBL_LISTENER_W0_ENC n)) (s.fld (F.TBL_LISTENER_W0_PTIME n))
  if fmt = 1 ∨ (!hi && (Nat.ble s.lays lay || !s.on (F.TBL_LAY_W0_EN lay))) ∨
      (map && Nat.blt 62 ch && tr == 1 && s.on (F.TBL_LISTENER_W0_SRC_FILTER n)) then 1
  else if fmt = 2 then 2
  else if !hi && s.slotsBad map (A.TBL_LMAP n 0) (s.fld (F.TBL_LISTENER_W1_FIRST_SLOT n)) ch then 3
  else if !hi && Nat.blt s.netChannels (s.lisTotal n + ch) then 4
  else if s.on (F.TBL_LISTENER_W0_MERGE_EN n) && (tr == 2 || !s.partnerOk n) then 5
  else if anyN s.streams (fun m => m != n && s.lisOn m && s.lisKey m == s.lisKey n) then 6
  else 0

/-- An entry's state. -/
def State.lis (s : State) (n : Nat) : ListenerS := (Sparse.find s.strm.listeners n).getD ⟨true, 0, false, none⟩
def State.lisUpd (s : State) (n : Nat) (f : ListenerS → ListenerS) : State :=
  s.updStrm (fun x => { x with listeners := Sparse.insert n (f (s.lis n)) x.listeners })

/-- The entry's channels become Silent, in every version (R195). -/
def State.lisSilence (s : State) (n : Nat) : State :=
  let drop (l : List (Nat × Chan)) : List (Nat × Chan) := l.filter (fun c => c.1 / 64 != n)
  (s.updPlay (fun p => { p with conc := drop p.conc })).updSnaps (fun v => { v with conc := drop v.conc })

/-- MEMBERS of a lay (R171). -/
def State.members (s : State) (lay : Nat) : Nat :=
  ((List.range s.streams).filter (fun n => s.lisLead n && s.lisLay n == lay)).length

/-- MEMBERS and MUTED of every lay follow. -/
def State.layStatus (s : State) : State :=
  forN s.lays (fun k s =>
    (s.keep (F.TBL_LAY_W2_MEMBERS k) (min 255 (s.members k))).keep (F.TBL_LAY_W2_MUTED k) (if s.layMuted k then 1 else 0)) s

/-! ### Group membership (R182) -/

/-- An IP multicast group. -/
def isGroup (v6 : Bool) (a : Nat) : Bool := if v6 then a / 2 ^ 120 == 0xFF else a / 2 ^ 28 == 0xE

/-- The group an entry needs. -/
def State.lisGroup (s : State) (n : Nat) : Option Nat :=
  let tr := s.fld (F.TBL_LISTENER_W0_TRANSPORT n)
  if s.lisOn n && tr != 2 && isGroup (tr == 1) (s.lisDest n).1 then some (s.lisDest n).1 else none

/-- The MAC address of a multicast group. -/
def groupMac (v6 : Bool) (a : Nat) : Nat := if v6 then 0x333300000000 + a % 2 ^ 32 else 0x01005E000000 + a % 2 ^ 23

/-- A best-effort frame of Yunasel's. (DEDUCED, notes/assumptions/42.md.) -/
def State.mpFrame (s : State) (dst len : Nat) (group : Option Nat) (b : Body) : Frame where
  dst := dst
  src := s.mac
  vid := 0
  tags := 0
  pcp := 0
  dscp := 0
  scp := false
  group := group
  rtag := none
  len := len
  fcsOk := true
  oversize := false
  tsErr := 0
  body := b
  raw := []

/-- A frame of the module's own goes out on ports A, B and C. -/
def State.toAll (s : State) (f : Frame) (cls : Nat) : State :=
  let s := s.toRing (s.ownFrame f cls)
  s.enqueue 2 (s.ownFrame f cls)

/-- A membership report of an entry: INCLUDE of SRC_ADDR with SRC_FILTER, else EXCLUDE of none. -/
def State.report (s : State) (n g : Nat) : State :=
  let v6 := s.fld (F.TBL_LISTENER_W0_TRANSPORT n) == 1
  let src := if s.on (F.TBL_LISTENER_W0_SRC_FILTER n) then some (s.lisSource n) else none
  s.toAll (s.mpFrame (if v6 then 0x333300000016 else 0x01005E000016) 64 none (.join g src)) 0

/-- An entry's membership follows its state: a report for a group newly needed, and a leave for one that no other entry
needs. -/
def State.membership (s : State) (n : Nat) : State :=
  let want := s.lisGroup n
  let have_ := (s.lis n).joined
  if want = have_ then s
  else
    let s := match have_ with
      | none => s
      | some g =>
        let s := s.lisUpd n (fun l => { l with joined := none, again := false })
        s.when (!anyN s.streams (fun m => (s.lis m).joined == some g))
          (fun s => s.toAll (s.mpFrame (if Nat.blt g (2 ^ 32) then 0x01005E000016 else 0x333300000016) 64 none (.leave g)) 0)
    match want with
    | none => s
    | some g => (s.lisUpd n (fun l => { l with joined := some g, again := true })).report n g

/-- Words W0 to W13 of an entry are written (R161, R195): `old` is the word before. -/
def State.listenerWrite (s : State) (n w : Nat) (old : Word) : State :=
  let en := s.on (F.TBL_LISTENER_W0_EN n)
  let was := s.on (F.TBL_LISTENER_W14_REFUSED n)
  let rise := w == 0 && en && !old.getLsbD 31
  let s := s.when rise (fun s =>
    let s := s.lisUpd n (fun l => { l with fresh := true })
    let s := s.updRing (fun r => { r with frerL := r.frerL.filter (fun c => c.1 != n) })
    let s := s.updStrm (fun x => { x with merges := x.merges.filter (fun c => c.1 != min n (s.fld (F.TBL_LISTENER_W13_PARTNER n))) })
    (s.set (F.TBL_LISTENER_W14_ACTIVE n) 0).lisSilence n)
  let s := s.when (w == 0 && en && old.toNat / 65536 % 64 != s.lisLay n) (fun s => s.lisSilence n)
  let s :=
    if en && w < 14 then
      let why := s.lisWhy n
      let s := (s.set (F.TBL_LISTENER_W14_REFUSED n) (if why = 0 then 0 else 1)).set (F.TBL_LISTENER_W14_WHY n) why
      let s := s.when (why != 0) (fun s => s.event F.STRM_EVT_REFUSED)
      s.when (why == 0 && was && !rise) (fun s => s.lisSilence n)
    else s
  (s.membership n).layStatus

/-! ### Lays (R171 to R180) -/

/-- The bounds of R174 in samples: 250 µs, 1 ms and 50 ms. -/
def State.presBounds (s : State) : Nat × Nat × Nat :=
  getAt [(12, 45, 2205), (12, 48, 2400), (23, 89, 4410), (24, 96, 4800), (45, 177, 8820), (48, 192, 9600)]
    (s.fld F.CLK_MEDIA_CFG_RATE) (12, 48, 2400)

/-- A PRES_OFFSET value as it acts. -/
def State.presActs (s : State) (v : Nat) : Nat :=
  let (lo, one, hi) := s.presBounds
  if v = 0 then one else clampN lo hi v

/-- The bits LAY_ACT_LO and LAY_ACT_HI follow a lay's ACTIVE. -/
def State.layActBit (s : State) (n : Nat) (b : Bool) : State :=
  if n < 32 then s.setBit F.STRM_LAY_ACT_LO_BITS n b else s.setBit F.STRM_LAY_ACT_HI_BITS (n - 32) b

/-- A lay becomes active (R176): what follows from its class (R177, R180, R358, R365, R526, R527). -/
def State.layBegin (s : State) (n : Nat) : State :=
  let before := s.class7
  let cls := s.fld (F.TBL_LAY_W0_CLASS n)
  let s := ((s.set (F.TBL_LAY_W2_ACTIVE n) 1).layActBit n true).event F.STRM_EVT_LAY_ACTIVE
  let s := if 6 ≤ cls then s.testClass67 else s.testYield 2 audioConcerns
  let s := (s.class7Edge before).when (Nat.ble s.yieldMin cls) State.sweepAbort
  let wake := max 1 (s.fld F.STRM_CFG_WAKE_MIN)
  if s.modState = stQuiet ∧ wake ≤ cls then (s.event F.STRM_EVT_WAKE).wakeFor 5 else s

/-- A lay becomes inactive (R176). -/
def State.layEnd (s : State) (n : Nat) : State :=
  let before := s.class7
  let s := ((s.set (F.TBL_LAY_W2_ACTIVE n) 0).layActBit n false).event F.STRM_EVT_LAY_IDLE
  s.class7Edge before

/-- ACT_HOLD in units of 2^-16 ns. (DEDUCED, notes/assumptions/41.md.) -/
def State.actHold (s : State) (n : Nat) : Nat :=
  let v := s.fld (F.TBL_LAY_W0_ACT_HOLD n)
  (if v = 0 then 500 else v) * msU

/-- A sample's magnitude exceeds a level in dB below full scale: x > 2^31 × 10^(−t/20). -/
def aboveLevel (t : Nat) (w : Word) : Bool := Nat.blt (2 ^ 620) (w.toInt.natAbs ^ 20 * 10 ^ t)

/-- A member of the lay accepted a packet with these samples (R176). (DEDUCED, notes/assumptions/41.md.) -/
def State.layHeard (s : State) (n : Nat) (ws : List (List Word)) : State :=
  let thr := let t := s.fld (F.TBL_LAY_W0_ACT_THR n); if t = 0 then 60 else t
  if s.on (F.TBL_LAY_W0_ACT_MODE n) && !ws.any (fun l => l.any (aboveLevel thr)) then s
  else (s.layUpd n (fun l => { l with lastUp := s.time.up })).when (!s.on (F.TBL_LAY_W2_ACTIVE n)) (fun s => s.layBegin n)

/-- Leads still within the last second. -/
def State.leadsNow (s : State) (n : Nat) : List (Nat × Int) :=
  (s.lay n).leads.filter (fun e => Nat.blt s.time.up (e.1 + secU))

/-- LEAD_MIN and LEAD_MAX (R171). -/
def State.leadWord (s : State) (n : Nat) : Nat :=
  match (s.leadsNow n).map Prod.snd with
  | [] => 0
  | x :: t => unsgn 16 (satS 16 (t.foldl min x)) * 65536 + unsgn 16 (satS 16 (t.foldl max x))

/-- A packet's lead is noted. -/
def State.noteLead (s : State) (n : Nat) (lead : Int) : State :=
  let s := s.layUpd n (fun l => { l with leads := (s.time.up, lead) :: s.leadsNow n })
  s.wr (A.TBL_LAY_W3 n) (s.leadWord n)

/-- Positions from which uncommitted samples may still be changed: the head's EF. -/
def State.headPos (s : State) : Nat := s.play.head * s.efLen

/-- The true samples of some slots at or after a position no longer are. -/
def State.untrue (s : State) (slots : List Nat) (pos : Nat) : State :=
  s.updStrm (fun x => { x with trues := x.trues.filter (fun (a, q, _) =>
    Nat.blt q pos || !slots.any (fun sl => a == s.busAdr sl q)) })

/-- Slots of a lay's channels. -/
def State.laySlots (s : State) (n : Nat) : List Nat :=
  (s.channels.filter (fun c => s.lisLay c.2.1 == n)).map (fun c => c.2.2)

/-- A new PRES_OFFSET takes effect (R175): an active lay fades and is muted; samples written at the old offset are not
played. -/
def State.layOffset (s : State) (n : Nat) : State :=
  let want := s.fld (F.TBL_LAY_W1_PRES_OFFSET n)
  if (s.lay n).offset = want ∨ !s.on (F.TBL_LAY_W0_EN n) then s.layUpd n (fun l => { l with offset := want })
  else
    let act := s.on (F.TBL_LAY_W2_ACTIVE n)
    let s := s.layUpd n (fun l => { l with offset := want, muteOff := l.muteOff || act, full := if act then 0 else l.full })
    let s := s.updStrm (fun x => { x with held := x.held.filter (fun p => s.lisLay (s.lowerOf p.listener) != n) })
    let s := s.when s.play.running (fun s => s.untrue (s.laySlots n) s.headPos)
    let s := s.when (act && s.play.running) (fun s =>
      s.updStrm (fun x => { x with fades := (s.play.head, some n) :: x.fades }))
    s.layStatus

/-- A change of SLIP_ALL takes effect (R179). -/
def State.laySlip (s : State) (n : Nat) : State :=
  let want := s.on (F.TBL_LAY_W0_SLIP_ALL n)
  (s.layUpd n (fun l => { l with slipAll := want, muteSlip := l.muteSlip && want })).layStatus

/-- A lay's word is written (R173 to R175, R179, R195): `old` is the word before. -/
def State.layWrite (s : State) (n w : Nat) (old : Word) : State :=
  let s :=
    if w = 0 then
      let rise := s.on (F.TBL_LAY_W0_EN n) && !old.getLsbD 31
      let before := s.on (F.TBL_LAY_W2_ACTIVE n) && old.toNat / 2 ^ 24 % 8 == 7
      let before := before || s.held7 || s.layActive (fun c => c == 7)
      let s := s.when rise (fun s =>
        let s := s.layUpd n (fun l => { l with offset := s.fld (F.TBL_LAY_W1_PRES_OFFSET n) })
        forL ((List.range s.streams).filter (fun m => s.lisLead m && s.lisLay m == n)) (fun m s => s.lisSilence m) s)
      s.class7Edge before
    else if w = 1 then
      let v := s.fld (F.TBL_LAY_W1_PRES_OFFSET n)
      let s := s.when (v != 0) (fun s => s.keep (F.TBL_LAY_W1_PRES_OFFSET n) (s.presActs v))
      s.when (!s.on (F.TBL_LAY_W0_EN n)) (fun s => s.layUpd n (fun l => { l with offset := s.fld (F.TBL_LAY_W1_PRES_OFFSET n) }))
    else s
  s.layStatus

/-! ### Placement and the arrival hold (R167, R168, R186) -/

/-- adj of R169. -/
def State.adj (s : State) : Int := s.strm.adj

/-- The end of the direct window (R168). -/
def State.directEnd (s : State) : Int := (s.play.cleat * s.efLen + s.slotLen - 2 * s.efLen : Nat)

/-- Blocks of 256 bytes that a held packet takes. -/
def heldBlocks (p : Pkt) : Nat := (16 + p.payload + 255) / 256

/-- Blocks of the arrival hold. -/
def State.holdBlocks (s : State) : Nat := if s.blockBad 6 then 0 else min 16 (s.fld F.STRM_HOLD_CFG_HOLD_MIB) * 4096
def State.holdFree (s : State) : Nat := s.holdBlocks - (s.strm.held.map heldBlocks).sum

/-- HOLD_STATUS.FREE follows. -/
def State.holdStatus (s : State) : State := s.keep F.STRM_HOLD_STATUS_FREE s.holdFree

/-- A packet whose samples lie within the window is written, or handed to PLAY. -/
def State.placeNow (s : State) (p : Pkt) : State :=
  let n := p.listener
  let c := p.np - s.adj
  let s := s.inc (A.STRM_L_RX_PKTS n)
  if c < (s.headPos : Int) then (s.inc (A.STRM_L_HANDED n)).onHanded p c else s.writeFrom p c s.play.cleat

/-- An accepted packet is placed, held or dropped (R168). -/
def State.place168 (s : State) (p : Pkt) : State :=
  let n := p.listener
  if s.directEnd ≤ p.np - s.adj + p.size - 1 then
    if heldBlocks p ≤ s.holdFree then
      ((s.inc (A.STRM_L_HELD n)).updStrm (fun x => { x with held := x.held ++ [p] })).holdStatus
    else (s.inc (A.STRM_L_HOLD_FULL n)).event F.STRM_EVT_HOLD_FULL
  else s.placeNow p

/-- Held packets whose last sample has entered the window are written (R168). -/
def State.holdRelease (s : State) : State :=
  let due := s.strm.held.filter (fun p => decide (p.np - s.adj + p.size - 1 < s.directEnd))
  let s := s.updStrm (fun x => { x with held := x.held.filter (fun p => !decide (p.np - s.adj + p.size - 1 < s.directEnd)) })
  (forL due (fun p s => s.when (s.on (F.TBL_LAY_W0_EN (s.lisLay (s.lowerOf p.listener)))) (fun s => s.placeNow p)) s).holdStatus

/-! ### Adjustment (R169, R187) -/

/-- The samples written ahead move to the new placement, by `d` samples: a sample at q + d comes to q. In the EF `ef` the
samples are a linear crossfade. (DEDUCED, notes/assumptions/44.md.) -/
def State.shiftTrues (s : State) (d : Int) (cross : Bool) : State :=
  let lo := s.headPos
  let hi := s.directEnd.toNat
  let span := hi - lo
  forL s.channels (fun (_, _, slot) s =>
    let was := (List.range span).map (fun i => s.trueAt slot (lo + i))
    let now := (List.range span).map (fun (i : Nat) => let q : Int := (lo + i : Nat) + d
      if q < lo then none else s.trueAt slot q.toNat)
    let s := s.untrue [slot] lo
    forN span (fun i s =>
      match getAt now i none with
      | none => s
      | some v =>
        match getAt was i none with
        | none => s.putTrue slot (lo + i) v
        | some w =>
          s.putTrue slot (lo + i) (if cross && Nat.blt i s.efLen then crossMix w v i s.efLen else v)) s) s

/-- The adjustment at an EF boundary (R169). (DEDUCED, notes/assumptions/44.md.) -/
def State.strmAdj (s : State) : State :=
  let left := s.strm.jumpFade - 1
  let s := s.updStrm (fun x => { x with jumpFade := left })
  let pend := s.want - s.adj
  let s :=
    if pend = 0 then s
    else if pend.natAbs > s.efLen then
      let s := s.when s.play.running (fun s =>
        (s.updStrm (fun x => { x with fades := (s.play.head, none) :: x.fades })).shiftTrues pend false)
      let s := s.updStrm (fun x => { x with
        adj := s.want, jumpFade := 4, talkers := x.talkers.map (fun (n, t) => (n, { t with mr := !t.mr })) })
      (s.inc A.STRM_ADJ_JUMPS).event F.STRM_EVT_ADJ_JUMP
    else
      let d : Int := if pend > 0 then 1 else -1
      let s := s.when s.play.running (fun s => s.shiftTrues d true)
      (s.updStrm (fun x => { x with adj := x.adj + d })).inc A.STRM_ADJ_SAMPLES
  let s := s.keep F.STRM_ADJ_TOTAL_ADJ (unsgn 32 s.adj)
  let s := s.keep F.STRM_ADJ_STATUS_JUMP_MUTE (if s.strm.jumpFade = 0 then 0 else 1)
  s.keep F.STRM_ADJ_STATUS_PEND (unsgn 8 (satS 8 (s.want - s.adj)))

/-! ### Received packets (R163, R165, R167) -/

/-- Bundle mode keeps this module's streams and endpoints detached: it does not lead, or it is a strapped master below which an
acting master leads (R387, R389). -/
def State.detached (s : State) : Bool :=
  let role := s.fld F.SPLICE_STATUS_ROLE
  let below := match (getAt s.splice.ports 1 SplicePort.reset).frame with
    | none => false
    | some f => f.acting
  s.on F.SPLICE_CFG_MODE && (Nat.ble 3 role || (role == 1 && below))

/-- The entry a frame on port p matches (R160, R156): in QUIET only members of lays that can wake it (R180). -/
def State.lisMatch (s : State) (p : Nat) (f : Frame) (a : Audio) : Option Nat :=
  let tr := if a.aaf then 2 else if a.udp6 then 1 else 0
  let vidOk (n : Nat) : Bool :=
    let v := s.fld (F.TBL_LISTENER_W2_VID n)
    if v = 0 then f.vid == 0 && p == 2 else f.vid == v
  if !s.unitOn 3 ∨ s.detached ∨ (a.aaf ∧ a.subtype ≠ 2) then none
  else (List.range s.streams).find? (fun n =>
    s.lisOn n && s.fld (F.TBL_LISTENER_W0_TRANSPORT n) == tr && vidOk n &&
    s.lisDest n == (a.dest, if a.aaf then f.dst else 0) &&
    (a.aaf || s.fld (F.TBL_LISTENER_W1_UDP_PORT n) == a.udpPort) &&
    (!s.on (F.TBL_LISTENER_W0_SRC_FILTER n) || s.lisSource n == a.srcAddr) &&
    (s.modState != stQuiet || Nat.ble (max 1 (s.fld F.STRM_CFG_WAKE_MIN)) (s.fld (F.TBL_LAY_W0_CLASS (s.lisLay (s.lowerOf n))))))

/-- The header passes R154 or R156, SSRC_LOCK apart. -/
def State.headerOk (s : State) (n : Nat) (a : Audio) : Bool :=
  if a.aaf then
    let enc := s.fld (F.TBL_LISTENER_W0_ENC n)
    a.format == 4 - enc && a.nsr == 4 + s.fld F.CLK_MEDIA_CFG_RATE && a.chans == s.fld (F.TBL_LISTENER_W0_CHANNELS n) &&
      a.bitDepth == 8 * encBytes enc && a.tv && !a.sp
  else a.version == 2 && a.pt == s.fld (F.TBL_LISTENER_W2_PT n)

/-- The payload without its padding. -/
def payloadOf (a : Audio) : List Nat := if a.pad && !a.aaf then a.bytes.take (a.bytes.length - a.bytes.getLastD 0) else a.bytes

/-- A network sample as q31: in the most significant bits (R163). -/
def sampleOf (b : Nat) (l : List Nat) : Word := BitVec.ofNat 32 ((l.take b).foldl (fun x y => x * 256 + y % 256) 0 * 2 ^ (32 - 8 * b))

/-- The samples of channel k of a payload of `ch` channels of `b` bytes. -/
def channelOf (l : List Nat) (ch b n k : Nat) : List Word := (List.range n).map (fun j => sampleOf b (l.drop ((j * ch + k) * b)))

/-- The media count at a time base reading (R165). -/
def State.mediaCount (s : State) (t : Int) : Int := t * s.fs / secU

/-- The media index of a packet's first sample (R167). -/
def State.mediaIndex (s : State) (n : Nat) (a : Audio) (tIn : Int) : Int :=
  if a.aaf then
    let mtt := let m := s.fld (F.TBL_LISTENER_W9_AAF_MTT n); if m = 0 then 2000 else m
    let now := tIn / nsU
    let p := now + sgn 32 (unsgn 32 ((a.ts : Int) - now))
    roundDiv ((p - (mtt * 1000 : Nat)) * s.fs) 1000000000
  else
    let nNow := s.mediaCount tIn
    nNow + sgn 32 (unsgn 32 ((a.ts : Int) - s.rd (A.TBL_LISTENER_W4 n) - nNow))

/-- Sequence judgement of a single entry (R163 step 6): whether the packet goes on. -/
def State.seqSingle (s : State) (n seq w : Nat) : Bool × State :=
  let last := s.fld (F.TBL_LISTENER_W14_LAST_SEQ n) % 2 ^ w
  if (s.lis n).fresh then (true, s.set (F.TBL_LISTENER_W14_LAST_SEQ n) seq)
  else
    let d := sgn w (unsgn w ((seq : Int) - last))
    if d = 0 then (false, s.inc (A.STRM_L_DUP n))
    else if d > 0 then (true, (s.bump (A.STRM_L_SEQ_LOST n) (d.toNat - 1)).set (F.TBL_LISTENER_W14_LAST_SEQ n) seq)
    else (true, s.inc (A.STRM_L_SEQ_OOO n))

/-- A pair's record moves on to a newest number `d` later (R181): the numbers that leave the history count. -/
def State.mergeAdvance (s : State) (lo : Nat) (m : MergeS) (d : Nat) : MergeS × State :=
  let old := m.newest.getD 0
  let age (q : Nat) : Nat := (old + 65536 - q) % 65536 + d
  let gone := m.got.filter (fun g => Nat.ble 512 (age g.1))
  let keep := m.got.filter (fun g => Nat.blt (age g.1) 512)
  let s := forL (gone.filter (fun g => !g.2.2)) (fun g s => s.inc (A.STRM_L_PATH_FILL g.2.1)) s
  let total := m.since + d
  let leaving := (total - 511) - (m.since - 511)
  let found := (gone.filter (fun g => Nat.ble ((old + 65536 - g.1) % 65536) m.since)).length
  let s := s.bump (A.STRM_L_SEQ_LOST lo) (leaving - found)
  ({ m with newest := some ((old + d) % 65536), since := min total 65535, got := keep }, s)

/-- Sequence judgement of a pair's entry (R181). -/
def State.seqPair (s : State) (n lo seq : Nat) : Bool × State :=
  let m := (Sparse.find s.strm.merges lo).getD ⟨none, 0, []⟩
  let put (m : MergeS) (s : State) : State := s.updStrm (fun x => { x with merges := Sparse.insert lo m x.merges })
  match m.newest with
  | none => (true, put { m with newest := some seq, since := 0, got := [(seq, n, false)] } s)
  | some new =>
    let d := sgn 16 ((seq + 65536 - new) % 65536)
    if d ≤ -512 then (false, s.inc (A.STRM_L_DUP n))
    else if m.got.any (fun g => g.1 == seq) then
      let m := { m with got := m.got.map (fun g => if g.1 = seq ∧ g.2.1 ≠ n then (g.1, g.2.1, true) else g) }
      (false, (put m s).inc (A.STRM_L_DUP n))
    else
      let (m, s) := if d > 0 then s.mergeAdvance lo m d.toNat else (m, s)
      (true, put { m with got := (seq, n, false) :: m.got } s)

/-- The highest number accepted follows for a pair's entry. -/
def State.pairLastSeq (s : State) (n seq : Nat) : State :=
  let last := s.fld (F.TBL_LISTENER_W14_LAST_SEQ n)
  s.when ((s.lis n).fresh || decide (sgn 16 ((seq + 65536 - last) % 65536) > 0)) (fun s => s.set (F.TBL_LISTENER_W14_LAST_SEQ n) seq)

/-- A frame matching entry n is judged by R163's steps 2 to 7. (DEDUCED, notes/assumptions/41.md.) -/
def State.strmRx (s : State) (n : Nat) (f : Frame) (a : Audio) : State :=
  if !f.fcsOk || f.oversize then s.inc (A.STRM_L_RX_BAD n)
  else
    let lock := s.on (F.TBL_LISTENER_W0_SSRC_LOCK n)
    let ssrcSame := a.aaf || s.rd (A.TBL_LISTENER_W3 n) == a.ssrc
    if !s.headerOk n a || (lock && !ssrcSame) then s.inc (A.STRM_L_HDR_MISMATCH n)
    else
      let s := s.when (!ssrcSame && !(s.lis n).fresh) (fun s => (s.inc (A.STRM_L_SSRC_CHG n)).event F.STRM_EVT_SSRC_CHG)
      let ch := s.fld (F.TBL_LISTENER_W0_CHANNELS n)
      let b := encBytes (s.fld (F.TBL_LISTENER_W0_ENC n))
      let size := (s.ptimeN (s.fld (F.TBL_LISTENER_W0_PTIME n))).getD 0
      let pay := payloadOf a
      if pay.length ≠ ch * size * b then s.inc (A.STRM_L_LEN_ERR n)
      else
        let tIn : Int := s.time.tb + f.tsErr
        let nNow := s.mediaCount tIn
        let n0 := s.mediaIndex n a tIn
        if (n0 - nNow).natAbs > s.fs then s.inc (A.STRM_L_TS_WILD n)
        else
          let pair := s.partner n
          let lo := s.lowerOf n
          let (ok, s) := if pair.isSome then s.seqPair n lo a.seq else s.seqSingle n (a.seq % (if a.aaf then 256 else 65536)) (if a.aaf then 8 else 16)
          if !ok then s
          else
            let s := s.when pair.isSome (fun s => s.pairLastSeq n a.seq)
            let s := (s.wr (A.TBL_LISTENER_W15 n) a.ts).set (F.TBL_LISTENER_W14_ACTIVE n) 1
            let s := s.when (!a.aaf && !lock) (fun s => s.wr (A.TBL_LISTENER_W3 n) a.ssrc)
            let s := s.lisUpd n (fun l => { l with fresh := false, lastUp := s.time.up })
            let lay := s.lisLay lo
            let ws := (List.range ch).map (channelOf pay ch b size)
            let np := n0 + s.presActs (s.lay lay).offset
            let s := (s.layHeard lay ws).noteLead lay (np + size - 1 - nNow)
            if s.modState = stRun ∧ s.play.running ∧ s.on (F.TBL_LAY_W0_EN lay) then
              let chans := (List.range ch).filterMap (fun k => (s.lisSlot lo k).map (fun sl => (64 * lo + k, sl, getAt ws k [])))
              s.place168 ⟨n, np, size, pay.length, chans⟩
            else s

/-! ### Talkers (R164 to R166) -/

def State.talker (s : State) (n : Nat) : TalkerS := (Sparse.find s.strm.talkers n).getD ⟨none, [], 0, false, 0, false⟩
def State.talkerUpd (s : State) (n : Nat) (f : TalkerS → TalkerS) : State :=
  s.updStrm (fun x => { x with talkers := Sparse.insert n (f (s.talker n)) x.talkers })

/-- The entry is enabled and not refused. -/
def State.talkOn (s : State) (n : Nat) : Bool := s.on (F.TBL_TALKER_W0_EN n) && !s.on (F.TBL_TALKER_W14_REFUSED n)

/-- The reason a talker entry is refused for, or 0 (R164, R166). (DEDUCED, notes/assumptions/40.md.) -/
def State.talkWhy (s : State) (n : Nat) : Nat :=
  let ch := s.fld (F.TBL_TALKER_W0_CHANNELS n)
  let fmt := s.formatWhy ch (s.fld (F.TBL_TALKER_W0_TRANSPORT n)) (s.fld (F.TBL_TALKER_W0_ENC n)) (s.fld (F.TBL_TALKER_W0_PTIME n))
  let linked := s.on (F.TBL_TALKER_W0_SEQ_LINK n)
  let total := forN s.streams (fun m t =>
    if m != n && s.talkOn m && !s.on (F.TBL_TALKER_W0_SEQ_LINK m) then t + s.fld (F.TBL_TALKER_W0_CHANNELS m) else t) 0
  let l := s.fld (F.TBL_TALKER_W13_LINK n)
  let linkOk := Nat.blt l s.streams && l != n && s.on (F.TBL_TALKER_W0_EN l) && !s.on (F.TBL_TALKER_W0_SEQ_LINK l) &&
    s.fld (F.TBL_TALKER_W0_CHANNELS l) == ch && s.fld (F.TBL_TALKER_W0_ENC l) == s.fld (F.TBL_TALKER_W0_ENC n) &&
    s.fld (F.TBL_TALKER_W0_PTIME l) == s.fld (F.TBL_TALKER_W0_PTIME n)
  if fmt ≠ 0 then fmt
  else if s.slotsBad (s.on (F.TBL_TALKER_W0_MAP_EN n)) (A.TBL_TMAP n 0) (s.fld (F.TBL_TALKER_W1_FIRST_SLOT n)) ch then 3
  else if !linked && Nat.blt s.netChannels (total + ch) then 4
  else if linked && !linkOk then 5
  else 0

/-- A talker's SDP as Yunasel announces it (R184). -/
def State.talkSdp (s : State) (n : Nat) : Sdp where
  entry := n
  source := s.mac
  dest := s.rd (A.TBL_TALKER_W5 n)
  udp6 := s.fld (F.TBL_TALKER_W0_TRANSPORT n) == 1
  port := s.fld (F.TBL_TALKER_W1_UDP_PORT n)
  pt := s.fld (F.TBL_TALKER_W2_PT n)
  l24 := s.fld (F.TBL_TALKER_W0_ENC n) == 1
  rate := s.fs
  chans := s.fld (F.TBL_TALKER_W0_CHANNELS n)
  ptime := some (s.fld (F.TBL_TALKER_W0_PTIME n))
  offset := s.rd (A.TBL_TALKER_W4 n)
  filter := none
  refMatch := true

/-- A SAP packet for a talker: an announcement, or the withdrawal of one. -/
def State.sap (s : State) (n : Nat) (announce : Bool) : State :=
  let (len, s) := s.free 10
  let b : Body := if announce then .sdp (s.talkSdp n) else .data
  (s.toAll (s.mpFrame 0x01005E7FFFFF (64 + len) (some 0xEFFFFFFF) b) 0).talkerUpd n (fun t => { t with sap := announce })

/-- Words W0 to W13 of a talker entry are written (R161, R164, R165). -/
def State.talkerWrite (s : State) (n w : Nat) (old : Word) : State :=
  let en := s.on (F.TBL_TALKER_W0_EN n)
  let was := old.getLsbD 31
  let s := s.when (w == 0 && en && !was) (fun s =>
    (s.talkerUpd n (fun t => { t with next := none, buf := [], fromEf := s.play.cleat, mr := false })).set (F.TBL_TALKER_W14_NEXT_SEQ n) 0)
  let s := s.when (w == 0 && !en && was && (s.talker n).sap) (fun s => s.sap n false)
  if en && w < 14 then
    let why := s.talkWhy n
    let s := (s.set (F.TBL_TALKER_W14_REFUSED n) (if why = 0 then 0 else 1)).set (F.TBL_TALKER_W14_WHY n) why
    s.when (why != 0) (fun s => s.event F.STRM_EVT_REFUSED)
  else s

/-- The slot of a talker's channel; none where it is skipped. -/
def State.talkSlot (s : State) (n k : Nat) : Option Nat :=
  if s.on (F.TBL_TALKER_W0_MAP_EN n) then
    let h := s.mapHalf (A.TBL_TMAP n 0) k
    if 2 ^ 15 ≤ h then none else some (h % 4096)
  else some (s.fld (F.TBL_TALKER_W1_FIRST_SLOT n) + k * (if s.hiRate then 2 else 1))

/-- A q31 sample as b network bytes, most significant first: rounded to nearest and saturated (R163). -/
def netBytes (b : Nat) (w : Word) : List Nat :=
  let v := unsgn (8 * b) (satS (8 * b) (rnd w.toInt (32 - 8 * b)))
  (List.range b).map (fun i => v / 256 ^ (b - 1 - i) % 256)

/-- A packet's payload. -/
def payloadBytes (b n : Nat) (chans : List (List Word)) : List Nat :=
  ((List.range n).map (fun j => (chans.map (fun c => netBytes b (getAt c j 0))).flatten)).flatten

/-- The timestamp of a packet whose first sample has chain index c (R165). (DEDUCED, notes/assumptions/42.md.) -/
def State.talkTs (s : State) (n c : Nat) : Nat :=
  if s.fld (F.TBL_TALKER_W0_TRANSPORT n) = 2 then
    let mtt := let m := s.fld (F.TBL_TALKER_W9_AAF_MTT n); if m = 0 then 2000 else m
    unsgn 32 (roundDiv (((c : Int) + s.adj) * 1000000000) s.fs + (mtt * 1000 : Nat))
  else unsgn 32 ((c : Int) + s.adj + s.rd (A.TBL_TALKER_W4 n))

/-- The frame of a talker's packet. The source IP address, and the MAC address of a unicast destination, are free.
(DEDUCED, notes/assumptions/42.md.) -/
def State.talkFrame (s : State) (n seq ts : Nat) (pay : List Nat) : Frame × State :=
  let (uni, s) := s.free 48
  let (ip, s) := s.free 64
  let tr := s.fld (F.TBL_TALKER_W0_TRANSPORT n)
  let v6 := tr == 1
  let dest := if tr = 0 then s.rd (A.TBL_TALKER_W5 n)
    else if tr = 1 then s.addr128 (A.TBL_TALKER_W5 n) (A.TBL_TALKER_W6 n) (A.TBL_TALKER_W7 n) (A.TBL_TALKER_W8 n)
    else s.rd (A.TBL_TALKER_W5 n) * 2 ^ 32 + s.rd (A.TBL_TALKER_W6 n)
  let mac := if tr = 2 then s.rd (A.TBL_TALKER_W7 n) % 65536 * 2 ^ 32 + s.rd (A.TBL_TALKER_W8 n)
    else if isGroup v6 dest then groupMac v6 dest else uni
  let mark := s.on (F.TBL_TALKER_W2_MARK_OVR n)
  let enc := s.fld (F.TBL_TALKER_W0_ENC n)
  let a : Audio := {
    aaf := tr == 2, udp6 := v6, dest := dest, srcAddr := ip, udpPort := s.fld (F.TBL_TALKER_W1_UDP_PORT n), version := 2
    pt := s.fld (F.TBL_TALKER_W2_PT n), pad := false, ssrc := s.rd (A.TBL_TALKER_W3 n)
    seq := if tr = 2 then seq % 256 else seq, ts := ts, subtype := 2, format := 4 - enc
    nsr := 4 + s.fld F.CLK_MEDIA_CFG_RATE, chans := s.fld (F.TBL_TALKER_W0_CHANNELS n), bitDepth := 8 * encBytes enc
    tv := true, sp := false, mr := (s.talker n).mr, bytes := pay }
  ({ dst := mac, src := s.mac, vid := s.fld (F.TBL_TALKER_W2_VID n), tags := 1
     pcp := if mark then s.fld (F.TBL_TALKER_W2_PCP n) else 5, dscp := if mark then s.fld (F.TBL_TALKER_W2_DSCP n) else 34
     scp := false, group := if tr != 2 && isGroup v6 dest then some dest else none, rtag := none
     len := 22 + headerBytes tr + pay.length, fcsOk := true, oversize := false, tsErr := 0, body := .audio a, raw := [] }, s)

/-- Bytes of talker packets waiting at a port. -/
def State.talkerQueued (s : State) (p : Nat) : Nat :=
  ((((s.rp p).queue.filter (fun e => e.talker.isSome)).map (fun e => e.frame.len + (if e.frame.rtag.isSome then 6 else 0)))).sum

/-- A talker packet is queued at a port, or dropped where it finds no room. -/
def State.talkEnqueue (s : State) (p n : Nat) (f : Frame) : State :=
  if 262144 < s.talkerQueued p + f.len + (if f.rtag.isSome then 6 else 0) then s.inc (A.STRM_T_TX_DROP n)
  else s.enqueue p { s.ownFrame f 5 with talker := some n }

/-- A packet of entry n is sent with the given number, timestamp and samples: on the ring with its own sequence generator, and
to port C (R52, R166). -/
def State.talkSend (s : State) (n seq ts : Nat) (pay : List Nat) : State :=
  let (f, s) := s.talkFrame n seq ts pay
  let r := (Sparse.find s.ring.talkerSeq n).getD 0
  let s := s.updRing (fun x => { x with talkerSeq := Sparse.insert n ((r + 1) % 65536) x.talkerSeq })
  let fr := { f with rtag := some (r, 0) }
  let drops := s.rd (A.STRM_T_TX_DROP n)
  let s := (s.talkEnqueue 0 n fr).talkEnqueue 1 n fr
  let lost := s.rd (A.STRM_T_TX_DROP n) != drops
  let plain := f.vid == 0 || f.vid == s.pvid
  let s := s.when ((plain || s.vlanMember 2 f.vid) && s.spurWants f)
    (fun s => s.talkEnqueue 2 n { f with vid := if plain then 0 else f.vid, tags := if plain then 0 else 1 })
  let s := s.when (!lost || s.rd (A.STRM_T_TX_DROP n) < drops + 2) (fun s => s.inc (A.STRM_T_TX_PKTS n))
  (s.talkerUpd n (fun t => { t with lastUp := s.time.up })).set (F.TBL_TALKER_W14_SENDING n) 1

/-- NEXT_SEQ and NEXT_TS. -/
def State.talkNext (s : State) (n seq ts : Nat) : State :=
  (s.set (F.TBL_TALKER_W14_NEXT_SEQ n) seq).wr (A.TBL_TALKER_W15 n) ts

/-- A whole packet goes out, with the copies of the entries that link to it. -/
def State.talkEmit (s : State) (n c size : Nat) (chans : List (List Word)) : State :=
  let tr := s.fld (F.TBL_TALKER_W0_TRANSPORT n)
  let seq := s.fld (F.TBL_TALKER_W14_NEXT_SEQ n)
  let ts := s.talkTs n c
  let pay := payloadBytes (encBytes (s.fld (F.TBL_TALKER_W0_ENC n))) size chans
  let links := (List.range s.streams).filter (fun m =>
    s.talkOn m && s.on (F.TBL_TALKER_W0_SEQ_LINK m) && s.fld (F.TBL_TALKER_W13_LINK m) == n)
  forL (n :: links) (fun m s =>
    (s.talkSend m seq ts pay).talkNext m ((seq + 1) % (if tr = 2 then 256 else 65536)) (s.talkTs n (c + size))) s

/-- A talker takes in a committed EF and sends the packets it completes (R165, R166). -/
def State.talkCommit (s : State) (n ef : Nat) (stalled : Bool) : State :=
  let len := s.efLen
  let ch := s.fld (F.TBL_TALKER_W0_CHANNELS n)
  let size := (s.ptimeN (s.fld (F.TBL_TALKER_W0_PTIME n))).getD 1
  let t := s.talker n
  let good := match t.next with
    | none => false
    | some c => t.buf.length == ch && c % size == 0 && c + (getAt t.buf 0 []).length == max c (ef * len)
  let first := if good then t.next.getD 0 else
    (max (ef * len) (t.fromEf * len) + size - 1) / size * size
  let fresh (k : Nat) : List Word := (List.range len).map (fun j =>
    if stalled then 0 else match s.talkSlot n k with
      | none => 0
      | some sl => s.sample sl (ef * len + j : Nat))
  let skip := first - ef * len
  let buf := (List.range ch).map (fun k => (if good then getAt t.buf k [] else []) ++ (fresh k).drop (if good && first < ef * len then 0 else skip))
  let s := s.talkerUpd n (fun t => { t with next := some first, buf := buf })
  forN (len / size + 1) (fun _ s =>
    let t := s.talker n
    match t.next with
    | none => s
    | some c =>
      if (getAt t.buf 0 []).length < size ∨ ch = 0 then s
      else
        let s := s.talkEmit n c size (t.buf.map (fun l => l.take size))
        s.talkerUpd n (fun t => { t with next := some (c + size), buf := t.buf.map (fun l => l.drop size) })) s

/-- Every talker takes in a committed EF. -/
def State.talkersCommit (s : State) (ef : Nat) (stalled : Bool) : State :=
  if s.detached then s
  else forL ((List.range s.streams).filter (fun n => s.talkOn n && !s.on (F.TBL_TALKER_W0_SEQ_LINK n)))
    (fun n s => s.talkCommit n ef stalled) s

/-- Talkers start anew with the next EF to be committed. -/
def State.talkersRestart (s : State) : State :=
  s.updStrm (fun x => { x with talkers := x.talkers.map (fun (n, t) => (n, { t with next := none, buf := [], fromEf := s.play.cleat })) })

/-! ### Commands -/

/-- ARRIVAL_HOLD_RELEASE (R168). -/
def execArrivalHoldRelease (dt : Nat) (s : State) : Result := s.run fun s =>
  let s := s.advance dt
  s.when s.play.running State.holdRelease

/-- LAY_IDLE (R176). -/
def execLayIdle (n dt : Nat) (s : State) : Result := s.runIf (decide (n < s.lays)) fun s =>
  let s := s.advance dt
  s.when (s.on (F.TBL_LAY_W2_ACTIVE n) && Nat.ble ((s.lay n).lastUp + s.actHold n) s.time.up) (fun s => s.layEnd n)

/-- LISTENER_ACTIVE_TIMEOUT (R160). -/
def execListenerActiveTimeout (n dt : Nat) (s : State) : Result := s.runIf (decide (n < s.streams)) fun s =>
  let s := s.advance dt
  s.when (Nat.ble ((s.lis n).lastUp + 100 * msU) s.time.up) (fun s => s.keep (F.TBL_LISTENER_W14_ACTIVE n) 0)

/-- TALKER_SENDING_TIMEOUT (R164). -/
def execTalkerSendingTimeout (n dt : Nat) (s : State) : Result := s.runIf (decide (n < s.streams)) fun s =>
  let s := s.advance dt
  s.when (Nat.ble ((s.talker n).lastUp + 100 * msU) s.time.up) (fun s => s.keep (F.TBL_TALKER_W14_SENDING n) 0)

/-- PRES_OFFSET_CHANGE (R175): at the next EF boundary. -/
def execPresOffsetChange (n : Nat) (s : State) : Result := s.runIf (decide (n < s.lays)) fun s => s.toBoundary.layOffset n

/-- SLIP_ALL_CHANGE (R179): at the next EF boundary. -/
def execSlipAllChange (n : Nat) (s : State) : Result := s.runIf (decide (n < s.lays)) fun s => s.toBoundary.laySlip n

/-- MEMBERSHIP_REPEAT (R182): the report of an entry goes out the second time. -/
def execMembershipRepeat (n dt : Nat) (s : State) : Result := s.runIf (decide (n < s.streams)) fun s =>
  let s := s.advance dt
  match (s.lis n).joined with
  | none => s
  | some g => s.when (s.lis n).again (fun s => (s.lisUpd n (fun l => { l with again := false })).report n g)

/-- QUERY_RESPONSE (R182): Yunasel answers the oldest query with the reports it asks for. -/
def execQueryResponse (s : State) : Result := s.run fun s =>
  match s.strm.queries with
  | [] => s
  | (g, general) :: rest =>
    let s := s.updStrm (fun x => { x with queries := rest })
    forN s.streams (fun n s => match (s.lis n).joined with
      | none => s
      | some j => s.when (general || j == g) (fun s => s.report n j)) s

/-- SNOOP_JOIN_EXPIRY (R183). -/
def execSnoopJoinExpiry (group dt : Nat) (s : State) : Result := s.run fun s =>
  let s := s.advance dt
  s.updRing (fun r => { r with joins := r.joins.filter (fun j => j.1 != group || Nat.blt s.time.up (j.2 + 260 * secU)) })

/-- SAP_ANNOUNCE (R184): Yunasel announces an enabled talker. -/
def execSapAnnounce (n : Nat) (s : State) : Result := s.runIf (decide (n < s.streams)) fun s =>
  s.when (s.talkOn n) (fun s => s.sap n true)

end Sys2Proof.Machine
end

