-- ==== Sys2Proof/Machine/Host.lean ====
section
/-! DEFINITION. The host endpoint of PCIe function 0: audio blocks, frame descriptors and the link (R403 to R413). -/

namespace Sys2Proof.Machine

/-! ### Audio blocks (R406 to R409) -/

/-- Host channels at the rate in use (R2, R5). -/
def State.hostChans (s : State) : Nat := s.variant.pick 512 256 128 / s.rateMul

/-- A word of BAR2 by byte offset, and its write. (DESIGN CHOICE, notes/assumptions/82.md.) -/
def State.bar2 (s : State) (off : Nat) : Nat := (s.memWord (bar2Base + off)).toNat
def State.putBar2 (s : State) (off n : Nat) : State := s.putMemWord (bar2Base + off) (BitVec.ofNat 32 n)

/-- The slot a host map names; an odd slot is ignored at 176.4 and 192 kHz. -/
def State.hostSlot (s : State) (adr : Nat) : Option Nat :=
  let w := s.rd adr
  if w < 2 ^ 31 ∨ (s.hiRate ∧ w % 2 = 1) then none else some (w % 4096)

/-- The receive copy of EF f (R407). -/
def State.hostTake (s : State) (f : Nat) : State :=
  let en := s.on F.SYS_PCIE_CFG_AUDIO_EN
  let hit := en && s.bar2 (0x100000 + 4 * (f % 32)) == f % 2 ^ 32
  let s := s.when (en && !hit) (fun s => (s.inc A.SYS_CNT_RX_MISS).event F.SYS_PCIE_EVT_RX_MISS)
  let len := s.efLen
  forN s.hostChans (fun c s =>
    match s.hostSlot (A.TBL_HRX c) with
    | none => s
    | some slot => forN len (fun j s =>
        s.putSample slot (f * len + j : Nat)
          (if hit then s.memWord (bar2Base + 0x8000 * (f % 32) + 4 * (c * len + j)) else 0)) s) s

/-- The transmit block of EF e at its commit (R408): a stalled EF's samples are zero (R194). -/
def State.hostGive (s : State) (e : Nat) (stalled : Bool) : State :=
  if s.on F.SYS_PCIE_CFG_AUDIO_EN then
    let len := s.efLen
    let blk := 0x200000 + 0x8000 * (e % 32)
    let s := forN s.hostChans (fun c s =>
      let slot := if stalled then none else s.hostSlot (A.TBL_HTX c)
      forN len (fun j s =>
        let w : Word := match slot with
          | none => 0
          | some sl => s.sample sl (e * len + j : Nat)
        s.putMemWord (bar2Base + blk + 4 * (c * len + j)) w) s) s
    let s := s.putBar2 (0x300000 + 4 * (e % 32)) (e % 2 ^ 32)
    let n := s.fld F.SYS_PCIE_CFG_TX_IRQ_N
    s.when (n != 0 && e % n == 0) (fun s => s.event F.SYS_PCIE_EVT_TX_EF)
  else s

/-! ### Frames (R410, R411) -/

/-- The host's MAC address (R560). -/
def State.hostMac (s : State) : Nat := s.mac + 1

/-- A big-endian number from bytes. -/
def beNum (l : List Nat) : Nat := l.foldl (fun a b => a * 256 + b % 256) 0

/-- The frame that bytes make: its addresses, tags, DSCP and whether it goes to UDP port 7431 (R46).
(DEDUCED, notes/assumptions/33.md.) -/
def frameOf (bytes : List Nat) : Frame :=
  let at16 (k : Nat) : Nat := beNum ((bytes.drop k).take 2)
  let tag := at16 12 = 0x8100
  let two := tag && at16 16 == 0x8100
  let h := if two then 20 else if tag then 16 else 12
  let typ := at16 h
  let ip := h + 2
  let v4 := typ = 0x0800
  let v6 := typ = 0x86DD
  let ihl := 4 * (getAt bytes ip 0 % 16)
  let udp := if v4 then ip + ihl else ip + 40
  let isUdp := (v4 && getAt bytes (ip + 9) 0 == 17) || (v6 && getAt bytes (ip + 6) 0 == 17)
  let dst := if v4 then beNum ((bytes.drop (ip + 16)).take 4) else if v6 then beNum ((bytes.drop (ip + 24)).take 16) else 0
  { dst := beNum (bytes.take 6), src := beNum ((bytes.drop 6).take 6)
    vid := if tag then at16 14 % 4096 else 0, tags := if two then 2 else if tag then 1 else 0
    pcp := if tag then at16 14 / 8192 else 0
    dscp := if v4 then getAt bytes (ip + 1) 0 / 4 else if v6 then at16 ip / 64 % 64 else 0
    scp := isUdp && at16 (udp + 2) == 7431
    group := if (v4 && isGroup false dst) || (v6 && isGroup true dst) then some dst else none
    rtag := none, len := max 64 (bytes.length + 4), fcsOk := true, oversize := false, tsErr := 0, body := .data, raw := bytes }

/-- Byte offset of a descriptor. -/
def txDesc (k : Nat) : Nat := 0x400000 + 16 * k
def rxDesc (k : Nat) : Nat := 0x401000 + 16 * k

/-- A descriptor's buffer lies in the frame buffers. -/
def bufOk (buf len : Nat) : Bool := buf % 64 == 0 && Nat.ble 0x410000 buf && Nat.ble (buf + len) 0x800000

/-- A transmit descriptor completes: OWN clears and the flags are written. -/
def State.txDone (s : State) (k flags : Nat) : State :=
  let off := txDesc k
  let w := s.bar2 off
  (s.putBar2 off (w % 2 ^ 28 + flags + (if w.testBit 30 then 2 ^ 30 else 0))).event F.SYS_PCIE_EVT_FRAME_TXC

/-- NO_TS and ERR of a completion. -/
def flagNoTs : Nat := 2 ^ 29
def flagErr : Nat := 2 ^ 28

/-- A host frame is sent: onto the ring as R52 says, and to port C in its VLAN. A timed frame completes as it leaves. -/
def State.hostSend (s : State) (k : Nat) (timed : Bool) (f : Frame) : State :=
  let cls := if f.tags = 0 then dscpClass f else f.pcp
  let vlan := if f.vid = 0 then s.pvid else f.vid
  let e : EgFrame := { s.ownFrame f cls with timed := timed, host := some k }
  let ring := { f with vid := vlan, tags := max 1 f.tags, pcp := cls }
  let s := s.toRing { e with frame := ring }
  let spur := if vlan = s.pvid then { f with vid := 0, tags := f.tags - 1 } else f
  let s := s.when (s.vlanMember 2 vlan && s.spurWants f) (fun s => s.enqueue 2 { e with frame := spur })
  let s := s.inc A.SYS_CNT_FRAME_TX
  if !timed then s.txDone k 0
  else if s.linkUp 0 || s.linkUp 1 || s.linkUp 2 then s
  else s.txDone k flagNoTs

/-- One owned descriptor is taken. -/
def State.txTake (s : State) (k : Nat) : State :=
  let w := s.bar2 (txDesc k)
  let len := w / 2 ^ 14 % 2 ^ 14
  let buf := s.bar2 (txDesc k + 4)
  let bytes := (List.range len).map (fun i => (s.byte (bar2Base + buf + i)).toNat)
  let f := frameOf bytes
  if len < 60 ∨ !bufOk buf len ∨ (List.range 3).all (fun p => Nat.blt (s.frameLimit p f) f.len) then s.txDone k flagErr
  else s.hostSend k (w.testBit 30) f

/-- A scan of the transmit ring: descriptors are taken in order while the module owns them.
(DESIGN CHOICE, notes/assumptions/82.md.) -/
def State.txScan (s : State) : Nat → State
  | 0 => s
  | n + 1 =>
    let k := s.bus.hostTx
    if (s.bar2 (txDesc k)).testBit 31 then
      State.txScan ({ s with bus := { s.bus with hostTx := (k + 1) % 256 } }.txTake k) n
    else s

/-- The transmit ring is scanned (R411). -/
def State.hostScan (s : State) : State := s.when (s.on F.SYS_PCIE_CFG_FRAME_EN) (fun s => s.txScan 256)

/-- Seconds, epoch and nanoseconds of a timestamp as descriptors hold them. -/
def State.putStamp (s : State) (off t : Nat) : State :=
  (s.putBar2 (off + 8) (t % secU / nsU)).putBar2 (off + 12) (s.time.epoch % 65536 * 65536 + t / secU % 65536)

/-- A timed host frame leaves (R94): its completion carries its egress timestamp, if an entry is free. -/
def State.hostStamped (s : State) (k : Nat) : State :=
  if (s.bar2 (txDesc k)).testBit 31 then
    if 32 ≤ s.time.tsUsed then (s.inc A.TIME_CNT_TX_NO_TS).txDone k flagNoTs
    else (s.putStamp (txDesc k) s.time.tb).txDone k 0
  else s

/-- The frame is a PTP event message. -/
def ptpEvent (f : Frame) : Bool := match f.body with
  | .ptp m => m.kind == .sync || m.kind == .delayReq || m.kind == .pdelayReq || m.kind == .pdelayResp
  | _ => false

/-- A frame is delivered to the host (R411). (DEDUCED, notes/assumptions/33.md.) (DESIGN CHOICE, notes/assumptions/82.md.) -/
def State.hostRx (s : State) (f : Frame) : State :=
  let k := s.bus.hostRx
  let off := rxDesc k
  let w := s.bar2 off
  let buf := s.bar2 (off + 4)
  let len := f.len - 4
  if w.testBit 31 && Nat.ble len (w / 2 ^ 14 % 2 ^ 14) && bufOk buf len then
    let s := { s with bus := { s.bus with hostRx := (k + 1) % 256 } }
    let s := forN len (fun i s => s.putByte (bar2Base + buf + i) (BitVec.ofNat 8 (getAt f.raw i 0))) s
    let ev := ptpEvent f
    let s := s.when ev (fun s => s.putStamp off (s.rxTime f).toNat)
    let err := f.oversize || !f.fcsOk
    let s := s.putBar2 off (len % 2 ^ 14 * 2 ^ 14 + (if ev then 2 ^ 30 else 0) + (if err then flagErr else 0))
    (s.inc A.SYS_CNT_FRAME_RX).event F.SYS_PCIE_EVT_FRAME_RX
  else (s.inc A.SYS_CNT_FRAME_RX_DROP).event F.SYS_PCIE_EVT_FRAME_RX_DROP

/-- The host endpoint takes the frame (R410); `taken` says that STRM, TIME or the MP consumes it. -/
def State.hostWants (s : State) (f : Frame) (taken : Bool) : Bool :=
  s.on F.SYS_PCIE_CFG_FRAME_EN &&
    (f.dst == s.hostMac || f.dst == 0xFFFFFFFFFFFF || (isMulti f.dst && s.on F.SYS_PCIE_CFG_MC_ALL && !taken))

/-- PCIE_CFG is written: setting FRAME_EN starts both rings at descriptor 0. -/
def State.pcieCfg (s : State) (old : Word) : State :=
  if s.on F.SYS_PCIE_CFG_FRAME_EN && !old.getLsbD 1 then { s with bus := { s.bus with hostTx := 0, hostRx := 0 } } else s

/-- A write into BAR2 by function 0: the transmit blocks and their headers, unlisted offsets, and what lies beyond the
variant's channels ignore it (R405, R406). -/
def State.bar2Write (s : State) (off : Nat) (w : Word) : State :=
  let blkOk := Nat.blt (off % 0x8000) (4 * s.hostChans * s.efLen)
  if (off < 0x100000 ∧ blkOk = true) ∨ (0x100000 ≤ off ∧ off < 0x100080) ∨ (0x400000 ≤ off ∧ off < 0x402000) ∨
      (0x410000 ≤ off ∧ off < 0x800000) then s.putMemWord (bar2Base + off) w
  else s

/-- A read of BAR2. The receive blocks and headers are for writing; their reads are served all the same. -/
def State.bar2Read (s : State) (off : Nat) : Nat := s.bar2 off

/-! ### The link (R412, R548) -/

/-- The data link comes up at a generation, or goes down (0). -/
def State.pcieLink (s : State) (speed : Nat) : State :=
  let up := if speed = 0 then 0 else 1
  let s := s.when (s.fld F.SYS_PCIE_STATUS_LINK_UP != up) (fun s => s.event F.SYS_PCIE_EVT_LINK_CHG)
  (s.set F.SYS_PCIE_STATUS_SPEED (min 3 speed)).set F.SYS_PCIE_STATUS_LINK_UP up

/-- PCIE_LINK_CHANGE (R412): `speed` is the generation, 0 for no link. The link trains in STAGING at the earliest. -/
def execPcieLinkChange (speed : Nat) (s : State) : Result := s.run fun s =>
  s.when (speed == 0 || s.unitOn 13) (fun s => s.pcieLink speed)

/-- PCIE_PERST (R548): only the endpoint resets: its link and its MSI-X tables. -/
def execPciePerst (s : State) : Result := s.run fun s =>
  { s.pcieLink 0 with msix := State.reset.msix }

end Sys2Proof.Machine
end

