-- ==== Sys2Proof/Machine/AcsonCode.lean ====
section
/-! DEFINITION. The words of the Acson instructions: an encoder and a decoder from the encoding tables of spec chapter 8
(R248 to R275), and STEP, which runs the bundle at a stopped core's PC (R281). -/

namespace Sys2Proof.Machine

/-- A condition's code (R256). -/
def ccCode : Cc → Nat
  | .eq => 0
  | .ne => 1
  | .lt => 2
  | .le => 3
  | .ltu => 4
  | .leu => 5

/-- The condition of a code; 6 and 7 are undefined. -/
def ccOf : Nat → Option Cc
  | 0 => some .eq
  | 1 => some .ne
  | 2 => some .lt
  | 3 => some .le
  | 4 => some .ltu
  | 5 => some .leu
  | _ => none

/-- The PRED field (R249). -/
def predCode : Pred → Nat
  | .always => 0
  | .on neg f => 8 + (if neg then 4 else 0) + f.val

/-- The predicate of a PRED field; EN = 0 needs NEG and F zero (R251). -/
def predOf (x : Nat) : Option Pred :=
  if x = 0 then some .always else if x < 8 then none
  else some (.on (x / 4 % 2 == 1) (Fin.ofNat 4 (x % 4)))

/-- The formats of R248. -/
def fmtR (op : Nat) (pr : Pred) (dst sa sb fn : Nat) : Nat :=
  op * 2 ^ 26 + predCode pr * 2 ^ 22 + dst * 2 ^ 17 + sa * 2 ^ 12 + sb * 2 ^ 7 + fn
def fmtI (op : Nat) (pr : Pred) (dst sa imm : Nat) : Nat :=
  op * 2 ^ 26 + predCode pr * 2 ^ 22 + dst * 2 ^ 17 + sa * 2 ^ 12 + imm
def fmtL (op : Nat) (pr : Pred) (dst imm : Nat) : Nat := op * 2 ^ 26 + predCode pr * 2 ^ 22 + dst * 2 ^ 17 + imm
def fmtB (op : Nat) (pr : Pred) (off : Nat) : Nat := op * 2 ^ 26 + predCode pr * 2 ^ 22 + off

/-- The word of an Acson instruction; none for the commands that are no instruction. UNDEFINED_WORD stands for no one word. -/
def encodeAcson : Instr → Option Nat
  | .add _ _ pr d a b => some (fmtR 0x1 pr d.val a.val b.val 0)
  | .sub _ _ pr d a b => some (fmtR 0x1 pr d.val a.val b.val 1)
  | .and _ _ pr d a b => some (fmtR 0x1 pr d.val a.val b.val 2)
  | .or _ _ pr d a b => some (fmtR 0x1 pr d.val a.val b.val 3)
  | .xor _ _ pr d a b => some (fmtR 0x1 pr d.val a.val b.val 4)
  | .andn _ _ pr d a b => some (fmtR 0x1 pr d.val a.val b.val 5)
  | .shl _ _ pr d a b => some (fmtR 0x1 pr d.val a.val b.val 6)
  | .shr _ _ pr d a b => some (fmtR 0x1 pr d.val a.val b.val 7)
  | .sar _ _ pr d a b => some (fmtR 0x1 pr d.val a.val b.val 8)
  | .min _ _ pr d a b => some (fmtR 0x1 pr d.val a.val b.val 9)
  | .max _ _ pr d a b => some (fmtR 0x1 pr d.val a.val b.val 10)
  | .minu _ _ pr d a b => some (fmtR 0x1 pr d.val a.val b.val 11)
  | .maxu _ _ pr d a b => some (fmtR 0x1 pr d.val a.val b.val 12)
  | .addi _ _ pr d a imm => some (fmtI 0x2 pr d.val a.val imm.toNat)
  | .andi _ pr d a imm => some (fmtI 0x3 pr d.val a.val imm.toNat)
  | .ori _ pr d a imm => some (fmtI 0x4 pr d.val a.val imm.toNat)
  | .xori _ pr d a imm => some (fmtI 0x5 pr d.val a.val imm.toNat)
  | .shli _ _ pr d a n => some (fmtI 0x6 pr d.val a.val (0 + n.val))
  | .shri _ _ pr d a n => some (fmtI 0x6 pr d.val a.val (1024 + n.val))
  | .sari _ _ pr d a n => some (fmtI 0x6 pr d.val a.val (2048 + n.val))
  | .movi _ _ pr d imm => some (fmtL 0x8 pr d.val imm.toNat)
  | .movhi _ pr d imm => some (fmtL 0x9 pr d.val imm.toNat)
  | .padd _ pr d a imm => some (fmtI 0xb pr d.val a.val imm.toNat)
  | .movDD _ pr d a => some (fmtR 0xa pr d.val a.val 0 0)
  | .movDP _ pr d a => some (fmtR 0xa pr d.val a.val 0 1)
  | .movPD _ pr d a => some (fmtR 0xa pr d.val a.val 0 2)
  | .movDLc _ pr d a => some (fmtR 0xa pr d.val a.val 0 3)
  | .movDSf _ pr d => some (fmtR 0xa pr d.val 0 0 4)
  | .clrSf _ pr => some (fmtR 0xa pr 0 0 0 5)
  | .movDF _ pr d => some (fmtR 0xa pr d.val 0 0 6)
  | .movFD _ pr a => some (fmtR 0xa pr 0 a.val 0 7)
  | .cmp _ pr cc f a b => some (fmtR 0xc pr f.val a.val b.val (ccCode cc))
  | .cmpi _ pr cc f a imm => some (fmtI 0xd pr (f.val * 8 + ccCode cc) a.val imm.toNat)
  | .pand _ pr d a b => some (fmtR 0xe pr d.val a.val b.val 0)
  | .por _ pr d a b => some (fmtR 0xe pr d.val a.val b.val 1)
  | .pxor _ pr d a b => some (fmtR 0xe pr d.val a.val b.val 2)
  | .pandn _ pr d a b => some (fmtR 0xe pr d.val a.val b.val 3)
  | .pnot _ pr d a => some (fmtR 0xe pr d.val a.val 0 4)
  | .pclr _ pr d => some (fmtR 0xe pr d.val 0 0 5)
  | .pset _ pr d => some (fmtR 0xe pr d.val 0 0 6)
  | .sel _ _ pr d f a b => some (fmtR 0xf pr d.val a.val b.val f.val)
  | .mulQ31 _ pr d a b => some (fmtR 0x24 pr d.val a.val b.val 0)
  | .mulQ30 _ pr d a b => some (fmtR 0x24 pr d.val a.val b.val 1)
  | .mulI _ pr d a b => some (fmtR 0x24 pr d.val a.val b.val 2)
  | .mulhI _ pr d a b => some (fmtR 0x24 pr d.val a.val b.val 3)
  | .mpyQ31 _ pr d a b => some (fmtR 0x25 pr d.val a.val b.val 0)
  | .macQ31 _ pr d a b => some (fmtR 0x25 pr d.val a.val b.val 1)
  | .msuQ31 _ pr d a b => some (fmtR 0x25 pr d.val a.val b.val 2)
  | .mpyQ30 _ pr d a b => some (fmtR 0x25 pr d.val a.val b.val 3)
  | .macQ30 _ pr d a b => some (fmtR 0x25 pr d.val a.val b.val 4)
  | .msuQ30 _ pr d a b => some (fmtR 0x25 pr d.val a.val b.val 5)
  | .accClr _ pr d => some (fmtR 0x26 pr d.val 0 0 0)
  | .accLdQ31 _ pr d a => some (fmtR 0x26 pr d.val a.val 0 1)
  | .accLdw _ pr d a b => some (fmtR 0x26 pr d.val a.val b.val 2)
  | .accAdd _ pr d a => some (fmtR 0x26 pr d.val a.val 0 3)
  | .accSub _ pr d a => some (fmtR 0x26 pr d.val a.val 0 4)
  | .accShr _ pr d n => some (fmtR 0x26 pr d.val 0 n.val 5)
  | .accRdQ31 _ pr d a n => some (fmtR 0x26 pr d.val a.val 0 (16 + n.val))
  | .accRdHi _ pr d a => some (fmtR 0x26 pr d.val a.val 0 24)
  | .accRdLo _ pr d a => some (fmtR 0x26 pr d.val a.val 0 25)
  | .addS _ pr d a b => some (fmtR 0x27 pr d.val a.val b.val 0)
  | .subS _ pr d a b => some (fmtR 0x27 pr d.val a.val b.val 1)
  | .negS _ pr d a => some (fmtR 0x27 pr d.val a.val 0 2)
  | .absS _ pr d a => some (fmtR 0x27 pr d.val a.val 0 3)
  | .shlS _ pr d a n => some (fmtR 0x27 pr d.val a.val 0 (32 + n.val))
  | .add2S _ pr d a b => some (fmtR 0x28 pr d.val a.val b.val 0)
  | .sub2S _ pr d a b => some (fmtR 0x28 pr d.val a.val b.val 1)
  | .mul2Q15 _ pr d a b => some (fmtR 0x28 pr d.val a.val b.val 2)
  | .max2 _ pr d a b => some (fmtR 0x28 pr d.val a.val b.val 3)
  | .min2 _ pr d a b => some (fmtR 0x28 pr d.val a.val b.val 4)
  | .abs2S _ pr d a => some (fmtR 0x28 pr d.val a.val 0 5)
  | .packHh _ pr d a b => some (fmtR 0x28 pr d.val a.val b.val 6)
  | .unpkHi _ pr d a => some (fmtR 0x28 pr d.val a.val 0 7)
  | .unpkLo _ pr d a => some (fmtR 0x28 pr d.val a.val 0 8)
  | .sinQ31 _ pr d a => some (fmtR 0x29 pr d.val a.val 0 0)
  | .cosQ31 _ pr d a => some (fmtR 0x29 pr d.val a.val 0 1)
  | .ldW _ pr post d b off _ => some (fmtI 0x10 pr d.val ((if post then 8 else 0) + b.val) off.toNat)
  | .stW _ pr post d b off _ => some (fmtI 0x11 pr d.val ((if post then 8 else 0) + b.val) off.toNat)
  | .ldH _ pr post d b off _ => some (fmtI 0x12 pr d.val ((if post then 8 else 0) + b.val) off.toNat)
  | .stH _ pr post d b off _ => some (fmtI 0x13 pr d.val ((if post then 8 else 0) + b.val) off.toNat)
  | .busLd _ pr d b mode rel => some (fmtR 0x14 pr d.val b.val 0 (4 * mode.val + rel.val))
  | .busSt _ pr d b mode => some (fmtR 0x15 pr d.val b.val 0 (4 * mode.val))
  | .dlyRd _ pr b line n => some (fmtR 0x16 pr line.val n.val b.val 0)
  | .dlyWr _ pr b line => some (fmtR 0x17 pr line.val 0 b.val 0)
  | .dlyWait _ pr => some (fmtR 0x18 pr 0 0 0 0)
  | .tblLd _ pr d a => some (fmtR 0x19 pr d.val a.val 0 0)
  | .ctlWr _ pr f a v => some (fmtR 0x1a pr f.val a.val v.val 0)
  | .msgPush _ pr f b h words =>
    some (0x1b * 2 ^ 26 + predCode pr * 2 ^ 22 + f.val * 2 ^ 20 + b.val * 2 ^ 17 + h.val * 2 ^ 12 + words.val * 4)
  | .nop _ _ => some 0
  | .br _ pr off => some (fmtB 0x20 pr off.toNat)
  | .endEf _ pr => some (fmtB 0x21 pr 0)
  | .loopI _ n count body => some (0x38 * 2 ^ 26 + n.val * 2 ^ 25 + count.val * 2 ^ 13 + body.val * 2 ^ 5)
  | .loopR _ n a top body => some (0x39 * 2 ^ 26 + n.val * 2 ^ 25 + a.val * 2 ^ 20 + top.val * 2 ^ 8 + body.val)
  | _ => none

/-- The fields of a word (R248). -/
structure Fields where
  pr : Pred
  dst : Nat
  sa : Nat
  sb : Nat
  fn : Nat
  deriving DecidableEq, Repr

/-- A register field below a bound; the unused high bits must be zero. -/
def regF (n x : Nat) (h : 0 < n) : Option (Fin n) := if x < n then some ⟨x % n, Nat.mod_lt x h⟩ else none

/-- Register fields of each file. -/
def fD (x : Nat) : D := Fin.ofNat 32 x
def fP (x : Nat) : Option P := regF 8 x (by decide)
def fQ (x : Nat) : Option Q := regF 4 x (by decide)
def f2 (x : Nat) : Option (Fin 2) := regF 2 x (by decide)

/-- The 12-bit and 17-bit immediates. -/
def Fields.imm12 (x : Fields) : Nat := x.sb * 2 ^ 7 + x.fn
def Fields.imm17 (x : Fields) : Nat := x.sa * 2 ^ 12 + x.imm12

/-- Opcode 0x01 (R253). -/
def dec01 (c : Nat) (sl : Slot) (x : Fields) : Option Instr :=
  if x.fn = 0 then do
    let d := fD x.dst
    let a := fD x.sa
    let b := fD x.sb
    some (.add c sl x.pr d a b)
  else if x.fn = 1 then do
    let d := fD x.dst
    let a := fD x.sa
    let b := fD x.sb
    some (.sub c sl x.pr d a b)
  else if x.fn = 2 then do
    let d := fD x.dst
    let a := fD x.sa
    let b := fD x.sb
    some (.and c sl x.pr d a b)
  else if x.fn = 3 then do
    let d := fD x.dst
    let a := fD x.sa
    let b := fD x.sb
    some (.or c sl x.pr d a b)
  else if x.fn = 4 then do
    let d := fD x.dst
    let a := fD x.sa
    let b := fD x.sb
    some (.xor c sl x.pr d a b)
  else if x.fn = 5 then do
    let d := fD x.dst
    let a := fD x.sa
    let b := fD x.sb
    some (.andn c sl x.pr d a b)
  else if x.fn = 6 then do
    let d := fD x.dst
    let a := fD x.sa
    let b := fD x.sb
    some (.shl c sl x.pr d a b)
  else if x.fn = 7 then do
    let d := fD x.dst
    let a := fD x.sa
    let b := fD x.sb
    some (.shr c sl x.pr d a b)
  else if x.fn = 8 then do
    let d := fD x.dst
    let a := fD x.sa
    let b := fD x.sb
    some (.sar c sl x.pr d a b)
  else if x.fn = 9 then do
    let d := fD x.dst
    let a := fD x.sa
    let b := fD x.sb
    some (.min c sl x.pr d a b)
  else if x.fn = 10 then do
    let d := fD x.dst
    let a := fD x.sa
    let b := fD x.sb
    some (.max c sl x.pr d a b)
  else if x.fn = 11 then do
    let d := fD x.dst
    let a := fD x.sa
    let b := fD x.sb
    some (.minu c sl x.pr d a b)
  else if x.fn = 12 then do
    let d := fD x.dst
    let a := fD x.sa
    let b := fD x.sb
    some (.maxu c sl x.pr d a b)
  else none

/-- Opcode 0x02 (R254). -/
def dec02 (c : Nat) (sl : Slot) (x : Fields) : Option Instr :=
  some (.addi c sl x.pr (fD x.dst) (fD x.sa) (BitVec.ofNat 12 x.imm12))

/-- Opcode 0x03 (R254). -/
def dec03 (c : Nat) (x : Fields) : Option Instr :=
  some (.andi c x.pr (fD x.dst) (fD x.sa) (BitVec.ofNat 12 x.imm12))

/-- Opcode 0x04 (R254). -/
def dec04 (c : Nat) (x : Fields) : Option Instr :=
  some (.ori c x.pr (fD x.dst) (fD x.sa) (BitVec.ofNat 12 x.imm12))

/-- Opcode 0x05 (R254). -/
def dec05 (c : Nat) (x : Fields) : Option Instr :=
  some (.xori c x.pr (fD x.dst) (fD x.sa) (BitVec.ofNat 12 x.imm12))

/-- Opcode 0x06 (R254). -/
def dec06 (c : Nat) (sl : Slot) (x : Fields) : Option Instr :=
  let k := x.imm12 / 1024
  let n := Fin.ofNat 32 (x.imm12 % 32)
  if x.imm12 / 32 % 32 ≠ 0 then none
  else if k = 0 then some (.shli c sl x.pr (fD x.dst) (fD x.sa) n)
  else if k = 1 then some (.shri c sl x.pr (fD x.dst) (fD x.sa) n)
  else if k = 2 then some (.sari c sl x.pr (fD x.dst) (fD x.sa) n)
  else none

/-- Opcode 0x08 (R254). -/
def dec08 (c : Nat) (sl : Slot) (x : Fields) : Option Instr :=
  some (.movi c sl x.pr (fD x.dst) (BitVec.ofNat 17 x.imm17))

/-- Opcode 0x09 (R254). -/
def dec09 (c : Nat) (x : Fields) : Option Instr :=
  if x.imm17 < 65536 then some (.movhi c x.pr (fD x.dst) (BitVec.ofNat 16 x.imm17)) else none

/-- Opcode 0x0A (R255). -/
def dec0A (c : Nat) (x : Fields) : Option Instr :=
  if x.fn = 0 then do
    let d := fD x.dst
    let a := fD x.sa
    if x.sb = 0 then some (.movDD c x.pr d a) else none
  else if x.fn = 1 then do
    let d := fD x.dst
    let a ← fP x.sa
    if x.sb = 0 then some (.movDP c x.pr d a) else none
  else if x.fn = 2 then do
    let d ← fP x.dst
    let a := fD x.sa
    if x.sb = 0 then some (.movPD c x.pr d a) else none
  else if x.fn = 3 then do
    let d := fD x.dst
    let a ← f2 x.sa
    if x.sb = 0 then some (.movDLc c x.pr d a) else none
  else if x.fn = 4 then do
    let d := fD x.dst
    if x.sa = 0 ∧ x.sb = 0 then some (.movDSf c x.pr d) else none
  else if x.fn = 5 then do
    if x.dst = 0 ∧ x.sa = 0 ∧ x.sb = 0 then some (.clrSf c x.pr) else none
  else if x.fn = 6 then do
    let d := fD x.dst
    if x.sa = 0 ∧ x.sb = 0 then some (.movDF c x.pr d) else none
  else if x.fn = 7 then do
    let a := fD x.sa
    if x.dst = 0 ∧ x.sb = 0 then some (.movFD c x.pr a) else none
  else none

/-- Opcode 0x0B (R254). -/
def dec0B (c : Nat) (x : Fields) : Option Instr :=
  do
    let d ← fP x.dst
    let a ← fP x.sa
    some (.padd c x.pr d a (BitVec.ofNat 12 x.imm12))

/-- Opcode 0x0C (R256). -/
def dec0C (c : Nat) (x : Fields) : Option Instr :=
  do
    let f ← fQ x.dst
    let a := fD x.sa
    let b := fD x.sb
    let cc ← ccOf x.fn
    some (.cmp c x.pr cc f a b)

/-- Opcode 0x0D (R256). -/
def dec0D (c : Nat) (x : Fields) : Option Instr :=
  do
    let f ← fQ (x.dst / 8)
    let cc ← ccOf (x.dst % 8)
    some (.cmpi c x.pr cc f (fD x.sa) (BitVec.ofNat 12 x.imm12))

/-- Opcode 0x0E (R256). -/
def dec0E (c : Nat) (x : Fields) : Option Instr :=
  if x.fn = 0 then do
    let d ← fQ x.dst
    let a ← fQ x.sa
    let b ← fQ x.sb
    some (.pand c x.pr d a b)
  else if x.fn = 1 then do
    let d ← fQ x.dst
    let a ← fQ x.sa
    let b ← fQ x.sb
    some (.por c x.pr d a b)
  else if x.fn = 2 then do
    let d ← fQ x.dst
    let a ← fQ x.sa
    let b ← fQ x.sb
    some (.pxor c x.pr d a b)
  else if x.fn = 3 then do
    let d ← fQ x.dst
    let a ← fQ x.sa
    let b ← fQ x.sb
    some (.pandn c x.pr d a b)
  else if x.fn = 4 then do
    let d ← fQ x.dst
    let a ← fQ x.sa
    if x.sb = 0 then some (.pnot c x.pr d a) else none
  else if x.fn = 5 then do
    let d ← fQ x.dst
    if x.sa = 0 ∧ x.sb = 0 then some (.pclr c x.pr d) else none
  else if x.fn = 6 then do
    let d ← fQ x.dst
    if x.sa = 0 ∧ x.sb = 0 then some (.pset c x.pr d) else none
  else none

/-- Opcode 0x0F (R256). -/
def dec0F (c : Nat) (sl : Slot) (x : Fields) : Option Instr :=
  if x.fn < 4 then some (.sel c sl x.pr (fD x.dst) (Fin.ofNat 4 x.fn) (fD x.sa) (fD x.sb)) else none

/-- Opcode 0x24 (R258). -/
def dec24 (c : Nat) (x : Fields) : Option Instr :=
  if x.fn = 0 then do
    let d := fD x.dst
    let a := fD x.sa
    let b := fD x.sb
    some (.mulQ31 c x.pr d a b)
  else if x.fn = 1 then do
    let d := fD x.dst
    let a := fD x.sa
    let b := fD x.sb
    some (.mulQ30 c x.pr d a b)
  else if x.fn = 2 then do
    let d := fD x.dst
    let a := fD x.sa
    let b := fD x.sb
    some (.mulI c x.pr d a b)
  else if x.fn = 3 then do
    let d := fD x.dst
    let a := fD x.sa
    let b := fD x.sb
    some (.mulhI c x.pr d a b)
  else none

/-- Opcode 0x25 (R259). -/
def dec25 (c : Nat) (x : Fields) : Option Instr :=
  if x.fn = 0 then do
    let d ← fQ x.dst
    let a := fD x.sa
    let b := fD x.sb
    some (.mpyQ31 c x.pr d a b)
  else if x.fn = 1 then do
    let d ← fQ x.dst
    let a := fD x.sa
    let b := fD x.sb
    some (.macQ31 c x.pr d a b)
  else if x.fn = 2 then do
    let d ← fQ x.dst
    let a := fD x.sa
    let b := fD x.sb
    some (.msuQ31 c x.pr d a b)
  else if x.fn = 3 then do
    let d ← fQ x.dst
    let a := fD x.sa
    let b := fD x.sb
    some (.mpyQ30 c x.pr d a b)
  else if x.fn = 4 then do
    let d ← fQ x.dst
    let a := fD x.sa
    let b := fD x.sb
    some (.macQ30 c x.pr d a b)
  else if x.fn = 5 then do
    let d ← fQ x.dst
    let a := fD x.sa
    let b := fD x.sb
    some (.msuQ30 c x.pr d a b)
  else none

/-- Opcode 0x26 (R260). -/
def dec26 (c : Nat) (x : Fields) : Option Instr :=
  if x.fn = 0 then do
    let d ← fQ x.dst
    if x.sa = 0 ∧ x.sb = 0 then some (.accClr c x.pr d) else none
  else if x.fn = 1 then do
    let d ← fQ x.dst
    let a := fD x.sa
    if x.sb = 0 then some (.accLdQ31 c x.pr d a) else none
  else if x.fn = 2 then do
    let d ← fQ x.dst
    let a := fD x.sa
    let b := fD x.sb
    some (.accLdw c x.pr d a b)
  else if x.fn = 3 then do
    let d ← fQ x.dst
    let a ← fQ x.sa
    if x.sb = 0 then some (.accAdd c x.pr d a) else none
  else if x.fn = 4 then do
    let d ← fQ x.dst
    let a ← fQ x.sa
    if x.sb = 0 then some (.accSub c x.pr d a) else none
  else if x.fn = 5 then do
    let d ← fQ x.dst
    let n := fD x.sb
    if x.sa = 0 then some (.accShr c x.pr d n) else none
  else if 16 ≤ x.fn ∧ x.fn < 24 then do
    let d := fD x.dst
    let a ← fQ x.sa
    let n := Fin.ofNat 8 (x.fn - 16)
    if x.sb = 0 then some (.accRdQ31 c x.pr d a n) else none
  else if x.fn = 24 then do
    let d := fD x.dst
    let a ← fQ x.sa
    if x.sb = 0 then some (.accRdHi c x.pr d a) else none
  else if x.fn = 25 then do
    let d := fD x.dst
    let a ← fQ x.sa
    if x.sb = 0 then some (.accRdLo c x.pr d a) else none
  else none

/-- Opcode 0x27 (R257). -/
def dec27 (c : Nat) (x : Fields) : Option Instr :=
  if x.fn = 0 then do
    let d := fD x.dst
    let a := fD x.sa
    let b := fD x.sb
    some (.addS c x.pr d a b)
  else if x.fn = 1 then do
    let d := fD x.dst
    let a := fD x.sa
    let b := fD x.sb
    some (.subS c x.pr d a b)
  else if x.fn = 2 then do
    let d := fD x.dst
    let a := fD x.sa
    if x.sb = 0 then some (.negS c x.pr d a) else none
  else if x.fn = 3 then do
    let d := fD x.dst
    let a := fD x.sa
    if x.sb = 0 then some (.absS c x.pr d a) else none
  else if 32 ≤ x.fn ∧ x.fn < 64 then do
    let d := fD x.dst
    let a := fD x.sa
    let n := Fin.ofNat 32 (x.fn - 32)
    if x.sb = 0 then some (.shlS c x.pr d a n) else none
  else none

/-- Opcode 0x28 (R261). -/
def dec28 (c : Nat) (x : Fields) : Option Instr :=
  if x.fn = 0 then do
    let d := fD x.dst
    let a := fD x.sa
    let b := fD x.sb
    some (.add2S c x.pr d a b)
  else if x.fn = 1 then do
    let d := fD x.dst
    let a := fD x.sa
    let b := fD x.sb
    some (.sub2S c x.pr d a b)
  else if x.fn = 2 then do
    let d := fD x.dst
    let a := fD x.sa
    let b := fD x.sb
    some (.mul2Q15 c x.pr d a b)
  else if x.fn = 3 then do
    let d := fD x.dst
    let a := fD x.sa
    let b := fD x.sb
    some (.max2 c x.pr d a b)
  else if x.fn = 4 then do
    let d := fD x.dst
    let a := fD x.sa
    let b := fD x.sb
    some (.min2 c x.pr d a b)
  else if x.fn = 5 then do
    let d := fD x.dst
    let a := fD x.sa
    if x.sb = 0 then some (.abs2S c x.pr d a) else none
  else if x.fn = 6 then do
    let d := fD x.dst
    let a := fD x.sa
    let b := fD x.sb
    some (.packHh c x.pr d a b)
  else if x.fn = 7 then do
    let d := fD x.dst
    let a := fD x.sa
    if x.sb = 0 then some (.unpkHi c x.pr d a) else none
  else if x.fn = 8 then do
    let d := fD x.dst
    let a := fD x.sa
    if x.sb = 0 then some (.unpkLo c x.pr d a) else none
  else none

/-- Opcodes 0x10 to 0x13 (R263): modes 0 and 1 are defined. -/
def decMem (x : Fields) (f : Bool → D → P → BitVec 12 → Instr) : Option Instr :=
  if x.sa < 16 then some (f (x.sa / 8 == 1) (fD x.dst) (Fin.ofNat 8 (x.sa % 8)) (BitVec.ofNat 12 x.imm12)) else none

/-- Opcodes 0x14 to 0x1A (R265 to R269). -/
def dec14 (c : Nat) (x : Fields) : Option Instr := do
  let b ← fP x.sa
  let rel ← regF 3 (x.fn % 4) (by decide)
  if x.sb = 0 ∧ x.fn < 16 then some (.busLd c x.pr (fD x.dst) b (Fin.ofNat 4 (x.fn / 4)) rel) else none

def dec15 (c : Nat) (x : Fields) : Option Instr := do
  let b ← fP x.sa
  if x.sb = 0 ∧ x.fn < 16 ∧ x.fn % 4 = 0 then some (.busSt c x.pr (fD x.dst) b (Fin.ofNat 4 (x.fn / 4))) else none

def dec16 (c : Nat) (x : Fields) : Option Instr := do
  let b ← fP x.sb
  if x.fn = 0 then some (.dlyRd c x.pr b (fD x.dst) (fD x.sa)) else none

def dec17 (c : Nat) (x : Fields) : Option Instr := do
  let b ← fP x.sb
  if x.fn = 0 ∧ x.sa = 0 then some (.dlyWr c x.pr b (fD x.dst)) else none

def dec18 (c : Nat) (x : Fields) : Option Instr :=
  if x.dst = 0 ∧ x.sa = 0 ∧ x.sb = 0 ∧ x.fn = 0 then some (.dlyWait c x.pr) else none

def dec19 (c : Nat) (x : Fields) : Option Instr :=
  if x.sb = 0 ∧ x.fn = 0 then some (.tblLd c x.pr (fD x.dst) (fD x.sa)) else none

def dec1A (c : Nat) (x : Fields) : Option Instr := do
  let f ← fQ x.dst
  if x.fn = 0 then some (.ctlWr c x.pr f (fD x.sa) (fD x.sb)) else none

/-- Opcode 0x1B (R272). -/
def dec1B (c : Nat) (w : Nat) (pr : Pred) : Option Instr :=
  if w % 4 = 0 then
    some (.msgPush c pr (Fin.ofNat 4 (w / 2 ^ 20 % 4)) (Fin.ofNat 8 (w / 2 ^ 17 % 8)) (fD (w / 2 ^ 12 % 32))
      (Fin.ofNat 1024 (w / 4 % 1024)))
  else none

/-- Opcodes 0x20, 0x21 (R273, R275) and 0x29 (R262). -/
def dec20 (c : Nat) (x : Fields) : Option Instr :=
  if x.dst = 0 ∧ x.sa < 2 then some (.br c x.pr (BitVec.ofNat 13 x.imm17)) else none

def dec21 (c : Nat) (x : Fields) : Option Instr :=
  if x.dst = 0 ∧ x.imm17 = 0 then some (.endEf c x.pr) else none

def dec29 (c : Nat) (x : Fields) : Option Instr :=
  if x.sb = 0 ∧ x.fn = 0 then some (.sinQ31 c x.pr (fD x.dst) (fD x.sa))
  else if x.sb = 0 ∧ x.fn = 1 then some (.cosQ31 c x.pr (fD x.dst) (fD x.sa))
  else none

/-- Loops (R274) are not predicated; BODY = 0 is undefined. -/
def dec38 (c w : Nat) : Option Instr :=
  if w % 32 = 0 ∧ w / 32 % 256 ≠ 0 then
    some (.loopI c (Fin.ofNat 2 (w / 2 ^ 25 % 2)) (Fin.ofNat 4096 (w / 2 ^ 13 % 4096)) (Fin.ofNat 256 (w / 32 % 256)))
  else none

def dec39 (c w : Nat) : Option Instr :=
  if w % 256 ≠ 0 then
    some (.loopR c (Fin.ofNat 2 (w / 2 ^ 25 % 2)) (fD (w / 2 ^ 20 % 32)) (Fin.ofNat 4096 (w / 2 ^ 8 % 4096))
      (Fin.ofNat 256 (w % 256)))
  else none

/-- A word's fields, where its PRED field is defined. -/
def fieldsOf (w : Nat) : Option Fields :=
  (predOf (w / 2 ^ 22 % 16)).map (fun pr => ⟨pr, w / 2 ^ 17 % 32, w / 2 ^ 12 % 32, w / 2 ^ 7 % 32, w % 2 ^ 7⟩)

/-- The opcodes that both slots take (R252). -/
def decBoth (c : Nat) (sl : Slot) (op : Nat) (x : Fields) : Option Instr :=
  if op = 0x1 then dec01 c sl x
  else if op = 0x2 then dec02 c sl x
  else if op = 0x6 then dec06 c sl x
  else if op = 0x8 then dec08 c sl x
  else if op = 0xf then dec0F c sl x
  else none

/-- The opcodes of slot S. -/
def decS (c : Nat) (op w : Nat) (x : Fields) : Option Instr :=
  if op = 0x3 then dec03 c x
  else if op = 0x4 then dec04 c x
  else if op = 0x5 then dec05 c x
  else if op = 0x9 then dec09 c x
  else if op = 0xa then dec0A c x
  else if op = 0xb then dec0B c x
  else if op = 0xc then dec0C c x
  else if op = 0xd then dec0D c x
  else if op = 0xe then dec0E c x
  else if op = 0x10 then decMem x (fun post d b off => .ldW c x.pr post d b off .clean)
  else if op = 0x11 then decMem x (fun post d b off => .stW c x.pr post d b off .clean)
  else if op = 0x12 then decMem x (fun post d b off => .ldH c x.pr post d b off .clean)
  else if op = 0x13 then decMem x (fun post d b off => .stH c x.pr post d b off .clean)
  else if op = 0x14 then dec14 c x
  else if op = 0x15 then dec15 c x
  else if op = 0x16 then dec16 c x
  else if op = 0x17 then dec17 c x
  else if op = 0x18 then dec18 c x
  else if op = 0x19 then dec19 c x
  else if op = 0x1a then dec1A c x
  else if op = 0x1b then dec1B c w x.pr
  else if op = 0x20 then dec20 c x
  else if op = 0x21 then dec21 c x
  else none

/-- The opcodes of slot M. -/
def decM (c : Nat) (op : Nat) (x : Fields) : Option Instr :=
  if op = 0x24 then dec24 c x
  else if op = 0x25 then dec25 c x
  else if op = 0x26 then dec26 c x
  else if op = 0x27 then dec27 c x
  else if op = 0x28 then dec28 c x
  else if op = 0x29 then dec29 c x
  else none

/-- The instruction of a word in a slot of a core, where the word is defined (R250 to R252).
(DESIGN CHOICE, notes/assumptions/52.md.) -/
def decodeWord (c : Nat) (sl : Slot) (w : Nat) : Option Instr :=
  let op := w / 2 ^ 26 % 64
  if w = 0 then some (.nop c sl)
  else if op = 0x38 ∧ sl = .s then dec38 c w
  else if op = 0x39 ∧ sl = .s then dec39 c w
  else match fieldsOf w with
    | none => none
    | some x => match decBoth c sl op x with
      | some i => some i
      | none => match sl with
        | .s => decS c op w x
        | .m => decM c op x

/-- The instruction a core runs for a word: an undefined word is UNDEFINED_WORD (R251). -/
def decodeAcson (c : Nat) (sl : Slot) (w : Nat) : Instr := (decodeWord c sl w).getD (.undefinedWord c sl)

/-- The instruction's meaning; a command that is no instruction leaves the module as it is.
(DESIGN CHOICE, notes/assumptions/52.md.) -/
def runAcson (i : Instr) (s : State) : Result :=
  match i with
  | .add c sl pr d a b => execAdd c sl pr d a b s
  | .sub c sl pr d a b => execSub c sl pr d a b s
  | .and c sl pr d a b => execAnd c sl pr d a b s
  | .or c sl pr d a b => execOr c sl pr d a b s
  | .xor c sl pr d a b => execXor c sl pr d a b s
  | .andn c sl pr d a b => execAndn c sl pr d a b s
  | .shl c sl pr d a b => execShl c sl pr d a b s
  | .shr c sl pr d a b => execShr c sl pr d a b s
  | .sar c sl pr d a b => execSar c sl pr d a b s
  | .min c sl pr d a b => execMin c sl pr d a b s
  | .max c sl pr d a b => execMax c sl pr d a b s
  | .minu c sl pr d a b => execMinu c sl pr d a b s
  | .maxu c sl pr d a b => execMaxu c sl pr d a b s
  | .addi c sl pr d a imm => execAddi c sl pr d a imm s
  | .andi c pr d a imm => execAndi c pr d a imm s
  | .ori c pr d a imm => execOri c pr d a imm s
  | .xori c pr d a imm => execXori c pr d a imm s
  | .shli c sl pr d a n => execShli c sl pr d a n s
  | .shri c sl pr d a n => execShri c sl pr d a n s
  | .sari c sl pr d a n => execSari c sl pr d a n s
  | .movi c sl pr d imm => execMovi c sl pr d imm s
  | .movhi c pr d imm => execMovhi c pr d imm s
  | .padd c pr d a imm => execPadd c pr d a imm s
  | .movDD c pr d a => execMovDD c pr d a s
  | .movDP c pr d a => execMovDP c pr d a s
  | .movPD c pr d a => execMovPD c pr d a s
  | .movDLc c pr d a => execMovDLc c pr d a s
  | .movDSf c pr d => execMovDSf c pr d s
  | .clrSf c pr => execClrSf c pr s
  | .movDF c pr d => execMovDF c pr d s
  | .movFD c pr a => execMovFD c pr a s
  | .cmp c pr cc f a b => execCmp c pr cc f a b s
  | .cmpi c pr cc f a imm => execCmpi c pr cc f a imm s
  | .pand c pr d a b => execPand c pr d a b s
  | .por c pr d a b => execPor c pr d a b s
  | .pxor c pr d a b => execPxor c pr d a b s
  | .pandn c pr d a b => execPandn c pr d a b s
  | .pnot c pr d a => execPnot c pr d a s
  | .pclr c pr d => execPclr c pr d s
  | .pset c pr d => execPset c pr d s
  | .sel c sl pr d f a b => execSel c sl pr d f a b s
  | .mulQ31 c pr d a b => execMulQ31 c pr d a b s
  | .mulQ30 c pr d a b => execMulQ30 c pr d a b s
  | .mulI c pr d a b => execMulI c pr d a b s
  | .mulhI c pr d a b => execMulhI c pr d a b s
  | .mpyQ31 c pr d a b => execMpyQ31 c pr d a b s
  | .macQ31 c pr d a b => execMacQ31 c pr d a b s
  | .msuQ31 c pr d a b => execMsuQ31 c pr d a b s
  | .mpyQ30 c pr d a b => execMpyQ30 c pr d a b s
  | .macQ30 c pr d a b => execMacQ30 c pr d a b s
  | .msuQ30 c pr d a b => execMsuQ30 c pr d a b s
  | .accClr c pr d => execAccClr c pr d s
  | .accLdQ31 c pr d a => execAccLdQ31 c pr d a s
  | .accLdw c pr d a b => execAccLdw c pr d a b s
  | .accAdd c pr d a => execAccAdd c pr d a s
  | .accSub c pr d a => execAccSub c pr d a s
  | .accShr c pr d n => execAccShr c pr d n s
  | .accRdQ31 c pr d a n => execAccRdQ31 c pr d a n s
  | .accRdHi c pr d a => execAccRdHi c pr d a s
  | .accRdLo c pr d a => execAccRdLo c pr d a s
  | .addS c pr d a b => execAddS c pr d a b s
  | .subS c pr d a b => execSubS c pr d a b s
  | .negS c pr d a => execNegS c pr d a s
  | .absS c pr d a => execAbsS c pr d a s
  | .shlS c pr d a n => execShlS c pr d a n s
  | .add2S c pr d a b => execAdd2S c pr d a b s
  | .sub2S c pr d a b => execSub2S c pr d a b s
  | .mul2Q15 c pr d a b => execMul2Q15 c pr d a b s
  | .max2 c pr d a b => execMax2 c pr d a b s
  | .min2 c pr d a b => execMin2 c pr d a b s
  | .abs2S c pr d a => execAbs2S c pr d a s
  | .packHh c pr d a b => execPackHh c pr d a b s
  | .unpkHi c pr d a => execUnpkHi c pr d a s
  | .unpkLo c pr d a => execUnpkLo c pr d a s
  | .sinQ31 c pr d a => execSinQ31 c pr d a s
  | .cosQ31 c pr d a => execCosQ31 c pr d a s
  | .ldW c pr post d b off ecc => execLdW c pr post d b off ecc s
  | .stW c pr post d b off ecc => execStW c pr post d b off ecc s
  | .ldH c pr post d b off ecc => execLdH c pr post d b off ecc s
  | .stH c pr post d b off ecc => execStH c pr post d b off ecc s
  | .busLd c pr d b mode rel => execBusLd c pr d b mode rel s
  | .busSt c pr d b mode => execBusSt c pr d b mode s
  | .dlyRd c pr b line n => execDlyRd c pr b line n s
  | .dlyWr c pr b line => execDlyWr c pr b line s
  | .dlyWait c pr => execDlyWait c pr s
  | .tblLd c pr d a => execTblLd c pr d a s
  | .ctlWr c pr f a v => execCtlWr c pr f a v s
  | .msgPush c pr f b h words => execMsgPush c pr f b h words s
  | .nop c sl => execNop c sl s
  | .undefinedWord c sl => execUndefinedWord c sl s
  | .br c pr off => execBr c pr off s
  | .loopI c n count body => execLoopI c n count body s
  | .loopR c n a top body => execLoopR c n a top body s
  | .endEf c pr => execEndEf c pr s
  | _ => .next s

/-- A bundle's words (R241): slot S in the lower word. -/
def State.bundle (s : State) (c b : Nat) : Nat × Nat :=
  let a := coreBase c + 0x10000 + 8 * b
  ((s.memWord a).toNat, (s.memWord (a + 4)).toNat)

/-- The state that a meaning answers. -/
def Result.get (d : State) : Result → State
  | .next s => s
  | _ => d

/-- STEP runs the bundle at PC on a stopped core (R233, R281). -/
def State.coreStepOp (s : State) (c : Nat) : State :=
  if s.stopped c then
    let (ws, wm) := s.bundle c (s.core c).pc
    let s := Result.get s (runAcson (decodeAcson c .s ws) s)
    let s := Result.get s (runAcson (decodeAcson c .m wm) s)
    s.xferAll c
  else s.event F.ENG_EVT_CTL_REFUSED

end Sys2Proof.Machine
end

