-- ==== Sys2Proof/Machine/Image.lean ====
section
/-! DEFINITION. Program images (R282 to R286): their sections, the certificate, and the loader's checks (R291, R292). -/

namespace Sys2Proof.Machine

/-- A section of an image (R283). -/
structure Sect where
  typ : Nat
  num : Nat
  body : List Word
  deriving DecidableEq, Repr

/-- The sections after the header: exactly `n` of them, with no words left over. -/
def parseSects : Nat → List Word → Option (List Sect)
  | 0, l => if l.isEmpty then some [] else none
  | n + 1, w0 :: w1 :: l =>
    if l.length < w1.toNat then none
    else (parseSects n (l.drop w1.toNat)).map (fun r => ⟨w0.toNat / 65536, w0.toNat % 65536, l.take w1.toNat⟩ :: r)
  | _ + 1, _ => none

/-- A word of an image; zero beyond its end. -/
def imgW (img : List Word) (i : Nat) : Nat := (getAt img i 0).toNat

/-- IMAGE_ID (R282). -/
def imgId (img : List Word) : Nat := imgW img 3

/-- The sections of an image; none where they cannot be told apart. -/
def imgSects (img : List Word) : List Sect := (parseSects (imgW img 4 % 65536) (img.drop 8)).getD []

/-- The sections of one type, in order. -/
def sectsOf (img : List Word) (t : Nat) : List Sect := (imgSects img).filter (fun x => x.typ == t)

/-- The body of a section. -/
def sectBody (img : List Word) (t n : Nat) : Option (List Word) :=
  ((imgSects img).find? (fun x => x.typ == t && x.num == n)).map Sect.body

def imgProgs (img : List Word) : List Sect := sectsOf img 2
def imgCert (img : List Word) : List Word := match sectsOf img 1 with
  | [] => []
  | x :: _ => x.body

/-- A bit range of a word. -/
def bitsOf (w hi lo : Nat) : Nat := w / 2 ^ lo % 2 ^ (hi + 1 - lo)

/-- A program as the loader and the re-mapping place it: its descriptor, core, phase, certified cycles, bundles and state
with the places they have, its rank (R237), and its CODE section with the ENTRY it came with. -/
structure PProg where
  m : Nat
  core : Nat
  phase : Nat
  cyc : Nat
  entry : Nat
  imem : Nat
  sbase : Nat
  slen : Nat
  rank : Nat
  code : Nat
  from_ : Nat
  deriving DecidableEq, Repr

/-- rank(m) (R237). -/
def State.rankOf (s : State) (w0 : Nat) : Nat :=
  if bitsOf w0 6 6 = 1 then 7 else s.fld (F.TBL_LAY_W0_CLASS (bitsOf w0 5 0))

/-- A program from its descriptor words. -/
def State.pprog (s : State) (m cyc code : Nat) (w : List Word) : PProg :=
  let w0 := imgW w 0
  let w2 := imgW w 2
  let w3 := imgW w 3
  ⟨m, bitsOf w0 23 20, bitsOf w0 19 18, cyc, bitsOf w2 27 16, bitsOf w2 11 0, bitsOf w3 31 16, bitsOf w3 15 0,
    s.rankOf w0, code, bitsOf w2 27 16⟩

/-! ### The certificate (R223, R285) -/

def certProgs (cert : List Word) : Nat := imgW cert 0 % 65536
def certRates (cert : List Word) : Nat := imgW cert 2 % 256

/-- The words of rate block k. -/
def rateBlock (cert : List Word) (k : Nat) : List Word :=
  (cert.drop (3 + k * (4 + certProgs cert))).take (4 + certProgs cert)

/-- The rate block of a RATE code. -/
def rateBlockOf (cert : List Word) (rate : Nat) : Option (List Word) :=
  ((List.range (certRates cert)).map (rateBlock cert)).find? (fun b => imgW b 0 % 8 == rate)

def blockSlot (b : List Word) : Nat := bitsOf (imgW b 0) 6 4
def blockXptNs (b : List Word) : Nat := imgW b 1

/-- The programs of an image at a rate block's figures (R285). -/
def State.imgPProgs (s : State) (img b : List Word) : List PProg :=
  (imgProgs img).mapIdx (fun k x => s.pprog x.num (imgW b (4 + k) % 2 ^ 18) (imgW x.body 7 % 65536) x.body)

/-- Certified cycles of a core in a phase. -/
def phaseCyc (l : List PProg) (c ph : Nat) : Nat :=
  ((l.filter (fun p => p.core == c && p.phase == ph)).map PProg.cyc).sum

/-- Frame setup in ns (R218). -/
def State.setupNs (s : State) : Nat := s.variant.pick 4000 2000 1200

/-- The certified span of a placement (R223). -/
def State.spanOf (s : State) (slot xptNs : Nat) (l : List PProg) : Nat :=
  let segs := (List.range 4).filter (fun ph => ph == slot || l.any (fun p => p.phase == ph))
  let part (ph : Nat) : Nat :=
    let t := ((List.range 16).map (fun c => (4 * phaseCyc l c ph + 2) / 3)).foldl max 0
    if ph = slot then max t xptNs else t
  s.setupNs + (segs.map part).sum + 40 * (segs.length - 1) + 200

/-- A span as RW_COST gives it (R223). -/
def rwOf (span : Nat) : Nat := min 0xFFFFFF ((span + 999) / 1000 * 1000)

/-- The limits of R222: cycles of a core, and the span in ns. -/
def State.coreLimit (s : State) : Nat := if s.fld F.CLK_MEDIA_CFG_RATE % 2 = 0 then 136054 else 125000
def coreCyc (l : List PProg) (c : Nat) : Nat := ((l.filter (fun p => p.core == c)).map PProg.cyc).sum
def State.limitsOk (s : State) (slot xptNs : Nat) (l : List PProg) : Bool :=
  (List.range 16).all (fun c => Nat.ble (coreCyc l c) s.coreLimit) && Nat.ble (s.spanOf slot xptNs l) s.halfEfNs

/-! ### The checks (R291) -/

/-- The sections keep R283 and R284. (DEDUCED, notes/assumptions/54.md.) -/
def sectsBad (img : List Word) : Bool :=
  match parseSects (imgW img 4 % 65536) (img.drop 8) with
  | none => true
  | some l =>
    let keys := l.map (fun x => x.typ * 65536 + x.num)
    let n (t : Nat) : Nat := (l.filter (fun x => x.typ == t)).length
    let cert := imgCert img
    let lens (x : Sect) : Bool :=
      if x.typ = 2 then x.body.length == 8 && Nat.blt x.num 64
      else if x.typ = 3 then x.body.length % 2 == 0 && Nat.blt 0 x.body.length
      else if x.typ = 5 then x.body.length == 2
      else if x.typ = 6 then x.body.length % 2 == 0
      else if x.typ = 7 then Nat.blt 0 x.body.length
      else x.typ == 1 || x.typ == 4 || x.typ == 0x7FFF
    let refs (x : Sect) : Bool :=
      let w0 := imgW x.body 0
      let w7 := imgW x.body 7
      (match sectBody img 3 (w7 % 65536) with
        | none => false
        | some b => b.length == 2 * bitsOf (imgW x.body 2) 11 0) &&
      (w7 / 65536 == 65535 || (sectBody img 4 (w7 / 65536)).isSome) && bitsOf w0 31 29 == 4
    !(keys.zip keys.tail).all (fun p => Nat.blt p.1 p.2) || !l.all lens || n 1 != 1 || n 2 == 0 || Nat.blt 64 (n 2) ||
      n 3 == 0 || Nat.blt 64 (n 3) || Nat.blt 64 (n 4) || Nat.blt 1 (n 5) || Nat.blt 1 (n 6) ||
      Nat.blt cert.length 4 || certRates cert == 0 || Nat.blt 6 (certRates cert) ||
      cert.length != 4 + certRates cert * (4 + certProgs cert) ||
      !(l.filter (fun x => x.typ == 2)).all refs

/-- SEAL holds (R285). -/
def sealOk (img : List Word) : Bool :=
  let c := imgCert img
  crc32c (c.take (c.length - 1) ++ ((sectsOf img 3).map Sect.body).flatten) == getAt c (c.length - 1) 0

/-- No two rate blocks name one RATE. -/
def ratesDistinct (cert : List Word) : Bool :=
  let r := (List.range (certRates cert)).map (fun k => imgW (rateBlock cert k) 0 % 8)
  r.eraseDups.length == r.length

/-- Checks 0x07 to 0x0A; 0 where they pass (R291, R292). -/
def State.rateWhy (s : State) (img : List Word) : Nat :=
  let cert := imgCert img
  match rateBlockOf cert (s.fld F.CLK_MEDIA_CFG_RATE) with
  | none => 0x07
  | some b =>
    let l := s.imgPProgs img b
    let span := s.spanOf (blockSlot b) (blockXptNs b) l
    if !sealOk img then 0x08
    else if certProgs cert != (imgProgs img).length || imgW b 2 != span || imgW b 3 != (span + 999) / 1000 * 1000 ||
        !ratesDistinct cert then 0x09
    else if !s.limitsOk (blockSlot b) (blockXptNs b) l then 0x0A
    else 0

/-- Two ranges overlap. -/
def overlap (a n b m : Nat) : Bool := Nat.blt 0 n && Nat.blt 0 m && Nat.blt a (b + m) && Nat.blt b (a + n)

/-- Two programs share one copy of their code (R284). -/
def shares (p q : PProg) : Bool := p.core == q.core && p.code == q.code && p.entry == q.entry && p.imem == q.imem

/-- A descriptor's own ranges are lawful (check 0x0B). -/
def rangesOwn (w : List Word) : Bool :=
  let w2 := imgW w 2
  let w3 := imgW w 3
  let w4 := imgW w 4
  let w5 := imgW w 5
  let (sb, sl) := (bitsOf w3 31 16, bitsOf w3 15 0)
  let (cb, cl) := (bitsOf w4 31 16, bitsOf w4 15 0)
  Nat.ble (bitsOf w2 27 16 + bitsOf w2 11 0) 4096 && (sl == 0 || (Nat.ble 0x8000 sb && Nat.ble (sb + sl) 0xC000)) &&
    (cl == 0 || Nat.ble (cb + cl) 0x8000 || (Nat.ble 0xC000 cb && Nat.ble (cb + cl) 0x10000)) &&
    Nat.ble (bitsOf w5 31 20 + bitsOf w5 12 0) 4096

/-- Check 0x0B finds a fault. -/
def State.rangesBad (s : State) (img : List Word) : Bool :=
  let l := (imgProgs img).map (fun x => (s.pprog x.num 0 (imgW x.body 7 % 65536) x.body, x.body))
  !l.all (fun p => rangesOwn p.2) ||
    l.any (fun (p, a) => l.any (fun (q, b) => Nat.blt p.m q.m &&
      ((p.core == q.core && !shares p q && overlap p.entry p.imem q.entry q.imem) ||
        (p.core == q.core && overlap p.sbase p.slen q.sbase q.slen) ||
        overlap (bitsOf (imgW a 5) 31 20) (bitsOf (imgW a 5) 12 0) (bitsOf (imgW b 5) 31 20) (bitsOf (imgW b 5) 12 0) ||
        overlap (bitsOf (imgW a 6) 31 16) (bitsOf (imgW a 6) 15 0) (bitsOf (imgW b 6) 31 16) (bitsOf (imgW b 6) 15 0))))

/-- XRANGE's first crosspoint and count; none without the section. -/
def imgXrange (img : List Word) : Nat × Nat := match sectsOf img 5 with
  | [] => (0, 0)
  | x :: _ => (imgW x.body 0, imgW x.body 1)

/-- Check 0x0C finds a fault. -/
def xrangeBad (xpts : Nat) (img : List Word) : Bool :=
  let (a, n) := imgXrange img
  Nat.blt xpts (a + n) || (sectsOf img 7).any (fun x =>
    let t := imgW x.body 0
    t % 4 != 0 || Nat.blt t (0x120000 + 16 * a) || Nat.blt (0x120000 + 16 * (a + n)) (t + 4 * (x.body.length - 1)))

/-- The pairs of DLINE. -/
def pairsOf : List Word → List (Nat × Nat)
  | a :: b :: l => (a.toNat, b.toNat) :: pairsOf l
  | _ => []
def imgDlines (img : List Word) : List (Nat × Nat) := match sectsOf img 6 with
  | [] => []
  | x :: _ => pairsOf x.body

/-- ALLOC of a line length (R313). -/
def State.allocOf (s : State) (len : Nat) : Nat := (len + 8 * s.efLen + 255) / 256 * 256

/-- Bytes of the arrival hold (R186). -/
def State.holdBytes (s : State) : Nat := min 16 (s.fld F.STRM_HOLD_CFG_HOLD_MIB) * 1048576

/-- Check 0x0D finds a fault. -/
def State.dlinesBad (s : State) (img : List Word) : Bool :=
  let l := imgDlines img
  l.any (fun (k, len) => Nat.ble (s.dlyLines) k || Nat.blt len s.efLen || Nat.blt (2 * s.fs + s.efLen) len) ||
    Nat.blt (s.dlyBytes - s.holdBytes) (l.map (fun (_, len) => 4 * s.allocOf len)).sum

/-- An INIT body of a program. -/
def imgInit (img : List Word) (x : Sect) : List Word :=
  let i := imgW x.body 7 / 65536
  if i = 65535 then [] else (sectBody img 4 i).getD []

/-- The checks 0x01 to 0x0E, in order; 0 where all pass (R291). The buffer holds one word more than 262,144 where it
overflowed. -/
def State.imageWhy (s : State) (img : List Word) : Nat :=
  if img.length < 8 || imgW img 0 != 0x494E4C5A || imgW img 1 / 65536 != 1 || imgW img 3 == 0 || Nat.blt (imgW img 2) 8 then
    0x01
  else if imgW img 2 != img.length || Nat.blt 262144 img.length then 0x02
  else if crc32c (setAt img 5 0) != getAt img 5 0 then 0x03
  else if sectsBad img then 0x04
  else if imgW (imgCert img) 0 / 65536 != s.variant.pick 0x400 0x200 0x100 then 0x05
  else if imgW (imgCert img) 1 != 750000 then 0x06
  else if s.rateWhy img != 0 then s.rateWhy img
  else if s.rangesBad img then 0x0B
  else if xrangeBad (s.xpts) img then 0x0C
  else if s.dlinesBad img then 0x0D
  else if (imgProgs img).any (fun x => Nat.blt (bitsOf (imgW x.body 3) 15 0) (4 * (imgInit img x).length)) then 0x0E
  else 0

end Sys2Proof.Machine
end

