-- ==== Sys2Proof/Machine/Eng.lean ====
section
/-! DEFINITION. Placements and their commits, core control, retirement and re-mapping (R230 to R240), and the image
loader (R287 to R296). -/

namespace Sys2Proof.Machine

/-! ### Placement words (R230, R231) -/

/-- The words of a placement: SPAN, CORE_CERTn and the descriptors, by rising address. -/
def placeAdrs (cores : Nat) : List Nat :=
  A.ENG_SPAN :: (List.range cores).map (fun n => A.ENG_CORE_CERT n) ++ (List.range 512).map (fun k => A.ENG_DESC_W0 0 + 4 * k)

/-- The address is a placement word. -/
def isPlaceAdr (a : Nat) : Bool :=
  a == A.ENG_SPAN || (Nat.ble (A.ENG_CORE_CERT 0) a && Nat.blt a (A.ENG_CORE_CERT 16)) ||
    (Nat.ble (A.ENG_DESC_W0 0) a && Nat.blt a (A.ENG_DESC_W0 64))

/-- PLACED and DROPPED of a descriptor's word 0. -/
def descState : Word := 0x60000000

/-- The operative placement. -/
def State.opPlacement (s : State) : List (Nat × Word) := (placeAdrs s.cores).map (fun a => (a, s.reg a))

/-- The placement that a commit makes of the pending copies, with the programs given dropped. -/
def State.nextPlacement (s : State) (dropped : List Nat) : List (Nat × Word) :=
  (placeAdrs s.cores).map (fun a =>
    let w := (Sparse.find s.eng.pend a).getD (s.reg a)
    if A.ENG_DESC_W0 0 ≤ a ∧ a % 32 = 0 then
      (a, if dropped.contains ((a - A.ENG_DESC_W0 0) / 32) then (w &&& ~~~descState) ||| 0x20000000 else w &&& ~~~descState)
    else (a, w))

/-- A word of a placement. -/
def plW (l : List (Nat × Word)) (a : Nat) : Nat := ((Sparse.find l a).getD 0).toNat

/-- A core can run programs: neither OFF nor RETIRED (R238). -/
def State.coreUsable (s : State) (c : Nat) : Bool := Nat.blt c s.cores && s.coreState c != 0 && s.coreState c != 6

/-- PLACED follows a placement that becomes operative, and stopped cores become READY or EMPTY (R230, R232). -/
def State.placedUpd (s : State) : State :=
  let s := forN 64 (fun m s =>
    s.keep (F.ENG_DESC_W0_PLACED m) (if s.on (F.ENG_DESC_W0_EN m) && !s.on (F.ENG_DESC_W0_DROPPED m) &&
      s.coreUsable (s.fld (F.ENG_DESC_W0_CORE m)) then 1 else 0)) s
  forN s.cores (fun c s =>
    s.when (s.coreState c == 2 || s.coreState c == 3) (fun s =>
      s.keep (F.ENG_CORE_STATUS_STATE c) (if s.corePlaced c then 3 else 2))) s

/-- A placement becomes operative. -/
def State.makeOperative (s : State) (l : List (Nat × Word)) : State :=
  (forL l (fun (a, w) s => s.putReg a w) s).placedUpd

/-- PLAY.RW_COST of the operative SPAN (R223, R231). -/
def State.rwFromSpan (s : State) : State := s.set F.PLAY_RW_COST_NS (rwOf (s.fld F.ENG_SPAN_NS))

/-- The EF trigger runs (R221). -/
def State.trigRuns (s : State) : Bool := s.play.running

/-- The apply EF of a commit: the later of PLACE_EF and the head, modulo 2^32 (R231). -/
def State.applyEf (s : State) : Nat :=
  let d := (s.rd A.ENG_PLACE_EF + 2 ^ 32 - s.play.head % 2 ^ 32) % 2 ^ 32
  if d < 2 ^ 31 then s.play.head + d else s.play.head

/-- A commit of the pending copies (R231): at once with the trigger stopped; else it waits for the apply EF. -/
def State.commitPlacement (s : State) (apply : Nat) (dropped : List Nat) : State :=
  let next := s.nextPlacement dropped
  if s.trigRuns then
    let new := rwOf (plW next A.ENG_SPAN % 2 ^ 24)
    let s := s.set F.PLAY_RW_COST_NS (max (s.fld F.PLAY_RW_COST_NS) new)
    (s.updEng (fun e => { e with waiting := some (apply, next) })).set F.ENG_PLACE_CTL_PENDING 1
  else
    let s := s.updEng (fun e => { e with waiting := none, old := [] })
    ((s.makeOperative next).set F.ENG_PLACE_CTL_PENDING 0).rwFromSpan

/-- A placement's last earlier EF has committed: its memory is freed, and RW_COST takes the new value (R231). -/
def State.placeRelease (s : State) : State :=
  if s.eng.old.isEmpty then s
  else
    let rest := s.eng.old.filter (fun o => Nat.blt s.play.cleat o.1)
    let s := s.updEng (fun e => { e with old := rest })
    s.when (rest.isEmpty && s.eng.waiting.isNone) State.rwFromSpan

/-! ### Core control (R232, R233) -/

/-- The commands of a CORE_CTLn write, bit by bit against the state the write finds; `prv` masks what the master may
write. (DEDUCED, notes/assumptions/51.md.) -/
def State.coreCtl (s : State) (c bits : Nat) : State :=
  let st := s.coreState c
  let bad (s : State) : State := s.event F.ENG_EVT_CTL_REFUSED
  let s := s.when (bits.testBit 0) (fun s =>
    if st = 3 then
      let s := s.set (F.ENG_CORE_STATUS_STATE c) 5
      match s.progsAll c with
      | [] => s
      | m :: _ => s.enterProg c m
    else bad s)
  let s := s.when (bits.testBit 2) (fun s => if st = 5 then s.coreStepOp c else bad s)
  let s := s.when (bits.testBit 1) (fun s =>
    if st = 5 then
      (s.coreUpd c (fun k => { k with prog := none, half := none, loops := [(0, 0), (0, 0)] })).set (F.ENG_CORE_STATUS_STATE c) 3
    else bad s)
  let s := s.when (bits.testBit 3) (fun s => if st = 0 ∨ st = 6 then bad s else s.coreRetire c 4)
  s.when (bits.testBit 4) (fun s =>
    if st = 6 then
      let s := (s.set (F.ENG_CORE_STATUS_STATE c) 1).updTest (fun t => { t with clearing := t.clearing ||| 2 ^ c })
      s.testQueue (12 + c / 4) 5
    else bad s)

/-! ### Core memory (R224, R226) -/

/-- An instruction-memory word lies in a bundle of an operative program of the core. -/
def State.inOperative (s : State) (c off : Nat) : Bool :=
  let b := (off - 0x10000) / 8
  (s.opPlacement :: s.eng.old.map Prod.snd).any (fun l => anyN 64 (fun m =>
    let w0 := plW l (A.ENG_DESC_W0 m)
    let w2 := plW l (A.ENG_DESC_W2 m)
    w0.testBit 30 && bitsOf w0 23 20 == c && Nat.ble (bitsOf w2 27 16) b && Nat.blt b (bitsOf w2 27 16 + bitsOf w2 11 0)))

/-- A master's word write to core memory (R226). -/
def State.coreMemWrite (s : State) (a : Nat) (w : Word) : State :=
  let off := a % 0x20000
  let c := (a - 0x200000) / 0x20000
  let refused (s : State) : State := s.event F.ENG_EVT_IMEM_REFUSED
  if 0x18000 ≤ off then s
  else if isStateMem a then forN 4 (fun k s => s.putStateByte (a + k) (w.extractLsb' (8 * k) 8)) s
  else if !s.pwr.trig then s.putMemWord a w
  else if off < 0x10000 then refused s
  else if s.inOperative c off then refused s
  else s.putMemWord a w

/-- A master's read of core memory (R226). -/
def State.coreMemRead (s : State) (a : Nat) : Nat :=
  if 0x18000 ≤ a % 0x20000 ∨ s.pwr.trig then 0 else (s.memWord a).toNat

/-! ### Placing programs (R237, R294, R296) -/

/-- Instruction and state ranges in use on a core. -/
abbrev Used := Nat → List (Nat × Nat) × List (Nat × Nat)

/-- The ranges that the operative and kept placements use. -/
def State.usedRanges (s : State) (c : Nat) : List (Nat × Nat) × List (Nat × Nat) :=
  let progs := ((s.opPlacement :: s.eng.old.map Prod.snd).map (fun l => (List.range 64).filterMap (fun m =>
    let w0 := plW l (A.ENG_DESC_W0 m)
    let w2 := plW l (A.ENG_DESC_W2 m)
    let w3 := plW l (A.ENG_DESC_W3 m)
    if w0.testBit 30 && bitsOf w0 23 20 == c then
      some ((bitsOf w2 27 16, bitsOf w2 11 0), (bitsOf w3 31 16, bitsOf w3 15 0)) else none))).flatten
  (progs.map Prod.fst, progs.map Prod.snd)

/-- The ENTRYs at which a program fits clear of the ranges given. -/
def fitEntry (used : List (Nat × Nat)) (p : PProg) : List Nat :=
  (List.range (4097 - p.imem)).filter (fun a => used.all (fun r => !overlap a p.imem r.1 r.2))

/-- The STATE_BASEs at which it fits, aligned as the program's own base. -/
def fitState (used : List (Nat × Nat)) (p : PProg) : List Nat :=
  if p.slen = 0 then [p.sbase]
  else ((List.range (0x4001 - p.slen)).map (· + 0x8000)).filter (fun a =>
    a % 8 == p.sbase % 8 && used.all (fun r => !overlap a p.slen r.1 r.2))

/-- The ranges in use on a core beside those of the programs placed so far. -/
def usedWith (used : Used) (placed : List PProg) (c : Nat) : List (Nat × Nat) × List (Nat × Nat) :=
  let here := placed.filter (fun q => q.core == c)
  (here.map (fun q => (q.entry, q.imem)) ++ (used c).1, here.map (fun q => (q.sbase, q.slen)) ++ (used c).2)

/-- One of a list of places, left free (notes/assumptions/1.md). -/
def State.oneOf (s : State) (l : List Nat) : Nat × State :=
  let (v, s) := s.free 32
  (getAt l (v % l.length) 0, s)

/-- A program takes free places on its core. -/
def State.takePlaces (s : State) (used : Used) (placed : List PProg) (p : PProg) : PProg × State :=
  let u := usedWith used placed p.core
  let (e, s) := s.oneOf (fitEntry u.1 p)
  let (b, s) := s.oneOf (fitState u.2 p)
  ({ p with entry := e, sbase := b }, s)

/-- The core can take the program (R237). -/
def State.coreTakes (s : State) (slot xptNs : Nat) (used : Used) (placed : List PProg) (p : PProg) (c : Nat) : Bool :=
  let here := placed.filter (fun q => q.core == c)
  let q := { p with core := c }
  let u := usedWith used placed c
  s.coreUsable c && (here.isEmpty || here.any (fun x => x.phase == p.phase)) && s.limitsOk slot xptNs (q :: placed) &&
    !(fitEntry u.1 q).isEmpty && !(fitState u.2 q).isEmpty

/-- The usable core of the smallest certified span, lowest number first. -/
def State.bestCore (s : State) (slot xptNs : Nat) (used : Used) (placed : List PProg) (p : PProg) : Option Nat :=
  ((List.range s.cores).filter (s.coreTakes slot xptNs used placed p)).foldl (fun best c =>
    let span (c : Nat) : Nat := s.spanOf slot xptNs ({ p with core := c } :: placed)
    match best with
    | none => some c
    | some b => if span c < span b then some c else some b) none

/-- The placed program of the lowest rank below a rank, highest descriptor first. -/
def victim (rank : Nat) (placed : List PProg) : Option PProg :=
  (placed.filter (fun q => Nat.blt q.rank rank)).foldl (fun best q =>
    match best with
    | none => some q
    | some b => if q.rank < b.rank ∨ (q.rank = b.rank ∧ b.m < q.m) then some q else some b) none

/-- The inner loop of R237: place the program, or drop lower ones until it fits. (DEDUCED, notes/assumptions/50.md.) -/
def State.placeOne (slot xptNs : Nat) (used : Used) (p : PProg) : Nat → List PProg × List Nat × State → List PProg × List Nat × State
  | 0, x => x
  | n + 1, (placed, dropped, s) =>
    match s.bestCore slot xptNs used placed p with
    | some c =>
      let (q, s) := s.takePlaces used placed { p with core := c }
      (placed ++ [q], dropped, s)
    | none => match victim p.rank placed with
      | none => (placed, dropped ++ [p.m], s)
      | some v => State.placeOne slot xptNs used p n (placed.filter (fun q => q.m != v.m), dropped ++ [v.m], s)

/-- The procedure of R237: the programs of the list by rank, then descriptor. -/
def State.placeAll (s : State) (slot xptNs : Nat) (used : Used) (placed todo : List PProg) : List PProg × List Nat × State :=
  let order := ((List.range 8).reverse.map (fun r => todo.filter (fun p => p.rank == r))).flatten
  forL order (fun p x => State.placeOne slot xptNs used p 65 x) (placed, [], s)

/-! ### Writing programs into cores -/

/-- Words into instruction memory from a bundle on. -/
def State.putCode (s : State) (c entry : Nat) (code : List Word) : State :=
  forN code.length (fun k s => s.putMemWord (coreBase c + 0x10000 + 8 * entry + 4 * k) (getAt code k 0)) s

/-- A program's state region takes its initial contents, zero beyond them, in every version (R231, R284). -/
def State.putInit (s : State) (c base len : Nat) (init : List Word) : State :=
  forN len (fun k s => s.putStateByte (coreBase c + base + k) ((getAt init (k / 4) 0).extractLsb' (8 * (k % 4)) 8)) s

/-- A master of the placement writes a pending word. -/
def State.putPend (s : State) (a n : Nat) : State :=
  s.updEng (fun e => { e with pend := Sparse.insert a (BitVec.ofNat 32 n) e.pend })

/-- Replace bits of a word. -/
def intoBits (w hi lo v : Nat) : Nat := Fld.into ⟨0, hi, lo⟩ w v

/-- CORE_CERTn and SPAN of a set of placed programs. -/
def State.putCert (s : State) (slot xptNs : Nat) (placed : List PProg) : State :=
  let s := forN s.cores (fun c s => s.putPend (A.ENG_CORE_CERT c) (coreCyc placed c % 2 ^ 18)) s
  s.putPend A.ENG_SPAN (min 0xFFFFFF (s.spanOf slot xptNs placed))

/-! ### Re-mapping (R237) -/

/-- Free words where nothing gives a program's code or initial state. -/
def State.freeWords (s : State) : Nat → List Word × State
  | 0 => ([], s)
  | n + 1 =>
    let (w, s) := s.free 32
    let (l, s) := s.freeWords n
    (BitVec.ofNat 32 w :: l, s)

/-- A moved program's code and initial state go to its new core. (DEDUCED, notes/assumptions/50.md.) -/
def State.moveProg (s : State) (img : List Word) (old new : PProg) : State :=
  let sect := (imgProgs img).find? (fun x => x.num == new.m && bitsOf (imgW x.body 2) 11 0 == new.imem)
  match sect with
  | some x =>
    let code := (sectBody img 3 (imgW x.body 7 % 65536)).getD []
    (s.putCode new.core new.entry code).putInit new.core new.sbase new.slen (imgInit img x)
  | none =>
    let code := (List.range (2 * new.imem)).map (fun k => s.memWord (coreBase old.core + 0x10000 + 8 * old.entry + 4 * k))
    let (init, s) := s.freeWords ((new.slen + 3) / 4)
    (s.putCode new.core new.entry code).putInit new.core new.sbase new.slen init

/-- The MP re-maps the retired cores' programs and commits, the head governing the apply EF.
(DEDUCED, notes/assumptions/50.md.) -/
def State.remap (s : State) : State :=
  if s.eng.remap = 0 then s
  else
    let base := match s.eng.waiting with
      | some (_, l) => l
      | none => s.opPlacement
    let img := if s.eng.waiting.isSome && !s.eng.installing.isEmpty then s.eng.installing else s.mgmt.image
    let words (m : Nat) : List Word := (List.range 7).map (fun k => BitVec.ofNat 32 (plW base (A.ENG_DESC_W0 m + 4 * k)))
    let progs := ((List.range 64).filter (fun m =>
      let w := plW base (A.ENG_DESC_W0 m)
      w.testBit 31 && !w.testBit 29)).map (fun m => s.pprog m (plW base (A.ENG_DESC_W1 m) % 2 ^ 18) m (words m))
    let gone := ((List.range 64).filter (fun m =>
      let w := plW base (A.ENG_DESC_W0 m)
      w.testBit 31 && w.testBit 29))
    let todo := progs.filter (fun p => s.eng.remap.testBit p.core && !s.coreUsable p.core)
    let stay := progs.filter (fun p => s.coreUsable p.core)
    let slot := s.fld F.ENG_CFG_XPT_SLOT
    let (xptNs, s) := match rateBlockOf (imgCert img) (s.fld F.CLK_MEDIA_CFG_RATE) with
      | some b => (blockXptNs b, s)
      | none => s.free 32
    let (placed, dropped, s) := s.placeAll slot xptNs s.usedRanges stay todo
    let moved := placed.filter (fun q => todo.any (fun p => p.m == q.m))
    let s := forL moved (fun q s =>
      let old := (todo.find? (fun p => p.m == q.m)).getD q
      let s := s.moveProg img old q
      let s := s.putPend (A.ENG_DESC_W0 q.m) (intoBits (plW base (A.ENG_DESC_W0 q.m)) 23 20 q.core)
      let s := s.putPend (A.ENG_DESC_W2 q.m) (intoBits (plW base (A.ENG_DESC_W2 q.m)) 27 16 q.entry)
      s.putPend (A.ENG_DESC_W3 q.m) (intoBits (plW base (A.ENG_DESC_W3 q.m)) 31 16 q.sbase)) s
    let s := s.putCert slot xptNs placed
    let s := forL dropped (fun _ s => (s.inc A.ENG_PROGS_DROPPED).event F.ENG_EVT_PROG_DROPPED) s
    let s := (s.wr A.ENG_PLACE_EF 0).commitPlacement s.play.head (gone ++ dropped)
    let s := ((s.inc A.ENG_REMAPS).event F.ENG_EVT_REMAPPED).log 8 2 2 [moved.length, dropped.length]
    s.updEng (fun e => { e with remap := 0 })

/-! ### The loader (R287 to R296) -/

/-- IMG_STATUS (R289). -/
def State.imgStatus (s : State) (st why : Nat) : State :=
  ((s.set F.ENG_IMG_STATUS_STATE st).set F.ENG_IMG_STATUS_WHY why).set F.ENG_IMG_STATUS_WORDS (min 262144 s.eng.img.length)

/-- An outcome: DONE, and the log record (R289, R471). -/
def State.imgDone (s : State) (id st why : Nat) : State :=
  (s.set F.ENG_IMG_STATUS_DONE 1).log 8 3 (if st = 6 then 2 else 1) [id, st, why]

/-- A CHECK or INSTALL ends in a state. -/
def State.imgEnd (s : State) (id st why : Nat) : State :=
  ((s.updEng (fun e => { e with work := .none })).imgStatus st why).imgDone id st why

/-- An install left waiting for its apply EF completes on its own from now on (R295). -/
def State.imgLeave (s : State) : State :=
  s.when (s.fld F.ENG_IMG_STATUS_STATE == 4) (fun s => s.updEng (fun e => { e with oldInstall := true }))

/-- BEGIN (R287, R295). (DEDUCED, notes/assumptions/54.md.) -/
def State.imgBegin (s : State) : State :=
  (s.imgLeave.updEng (fun e => { e with img := [], work := .receiving })).imgStatus 1 0

/-- A word of IMG_DATA arrives; the first word beyond 262,144 marks the overflow (R288).
(DEDUCED, notes/assumptions/54.md.) -/
def State.imgWord (s : State) (w : Word) : State :=
  if s.fld F.ENG_IMG_STATUS_STATE != 1 then s
  else
    let full := Nat.ble 262144 s.eng.img.length
    let s := s.updEng (fun e => { e with img := e.img ++ [w] })
    if full then (s.updEng (fun e => { e with work := .none })).imgStatus 6 2 else s.imgStatus 1 0

/-- CHECK or INSTALL: the checks start (R287, R295). -/
def State.imgCheck (s : State) (install : Bool) : State :=
  let st := s.fld F.ENG_IMG_STATUS_STATE
  if st = 2 ∨ st = 3 then s
  else (s.imgLeave.updEng (fun e => { e with work := .checking install })).imgStatus 2 0

/-- The placement of an image on the cores now usable (R294, R296): a reason of R291 or 0, the programs placed and dropped.
Live, a program whose own places are in use takes others; two that share their code move together. -/
def State.imgPlan (s : State) (img b : List Word) (live : Bool) : Nat × List PProg × List Nat × State :=
  let used : Used := if live then s.usedRanges else fun _ => ([], [])
  let progs := s.imgPProgs img b
  let own (p : PProg) (x : Bool × List PProg × State) : Bool × List PProg × State :=
    let (ok, placed, s) := x
    let w := usedWith used placed p.core
    let clearI := w.1.all (fun r => !overlap p.entry p.imem r.1 r.2)
    let clearS := w.2.all (fun r => !overlap p.sbase p.slen r.1 r.2)
    let mate := placed.find? (fun q => q.core == p.core && q.code == p.code && q.from_ == p.from_ && q.imem == p.imem)
    let es := match mate with
      | some q => [q.entry]
      | none => if clearI then [p.entry] else fitEntry w.1 p
    let bs := if clearS then [p.sbase] else fitState w.2 p
    let (e, s) := if es.length = 1 then (getAt es 0 0, s) else s.oneOf es
    let (a, s) := if bs.length = 1 then (getAt bs 0 0, s) else s.oneOf bs
    (ok && !es.isEmpty && !bs.isEmpty, placed ++ [{ p with entry := e, sbase := a }], s)
  let stay := progs.filter (fun p => s.coreUsable p.core)
  let todo := progs.filter (fun p => !s.coreUsable p.core)
  let (ok, placed, s) := forL stay own (true, [], s)
  let (placed, dropped, s) := s.placeAll (blockSlot b) (blockXptNs b) used placed todo
  let rank7 := dropped.any (fun m => progs.any (fun p => p.m == m && p.rank == 7))
  (if !ok then 0x0F else if rank7 && !s.on F.ENG_IMG_CTL_FORCE then 0x10 else 0, placed, dropped, s)

/-- Code, initial state, pending descriptors and certified figures of an image's placement (R285, R293, R294). -/
def State.imgWrite (s : State) (img b : List Word) (placed : List PProg) : State :=
  let progs := s.imgPProgs img b
  let s := forN 512 (fun k s => s.putPend (A.ENG_DESC_W0 0 + 4 * k) (if k % 8 = 3 then 0x80000000 else 0)) s
  let s := forL (imgProgs img) (fun x s =>
    let m := x.num
    let cyc := ((progs.find? (fun p => p.m == m)).map PProg.cyc).getD 0
    let s := forN 7 (fun k s => s.putPend (A.ENG_DESC_W0 m + 4 * k) (imgW x.body k)) s
    let s := s.putPend (A.ENG_DESC_W1 m) cyc
    match placed.find? (fun p => p.m == m) with
    | none => s
    | some p =>
      let s := (s.putCode p.core p.entry ((sectBody img 3 p.code).getD [])).putInit p.core p.sbase p.slen (imgInit img x)
      let s := s.putPend (A.ENG_DESC_W0 m) (intoBits (imgW x.body 0) 23 20 p.core)
      let s := s.putPend (A.ENG_DESC_W2 m) (intoBits (imgW x.body 2) 27 16 p.entry)
      s.putPend (A.ENG_DESC_W3 m) (intoBits (imgW x.body 3) 31 16 p.sbase)) s
  s.putCert (blockSlot b) (blockXptNs b) placed

/-- The DLINE configuration (R312, R313). -/
def State.imgLines (s : State) (img : List Word) : State :=
  let l := imgDlines img
  let s := s.clearRegs (A.TBL_DLINE_W0 0) (A.TBL_DLINE_W0 s.dlyLines)
  let (s, _) := forN s.dlyLines (fun k (x : State × Nat) =>
    let (s, base) := x
    match (l.filter (fun p => p.1 == k)).getLast? with
    | none => x
    | some (_, len) =>
      let s := (s.set (F.TBL_DLINE_W0_EN k) 1).set (F.TBL_DLINE_W0_BASE_KIB k) base
      ((s.set (F.TBL_DLINE_W1_LEN k) len).set (F.TBL_DLINE_W2_ALLOC k) (s.allocOf len), base + s.allocOf len / 256)) (s, 0)
  s.updEng (fun e => { e with dlyFirst := [] })

/-- A word of a TABLE section lands as a master's write would, in every version (R293, R294). -/
def State.tableWord (s : State) (a : Nat) (w : Word) : State :=
  match rowAt s.variant a with
  | none => s
  | some r =>
    let m := BitVec.ofNat 32 (r.rw ||| r.rwp)
    (s.putReg a ((w &&& m) ||| (s.reg a &&& ~~~m))).xpMaster a

/-- XRANGE, DLINE, TABLE and XPT_SLOT of an image. -/
def State.imgTables (s : State) (img : List Word) : State :=
  let (first, count) := imgXrange img
  let s := ((s.set F.XPT_CFG_FIRST first).set F.XPT_CFG_COUNT count).xptCfg
  let s := s.updEng (fun e => { e with xrange := (first, count) })
  let s := s.imgLines img
  let s := forL (sectsOf img 7) (fun x s =>
    forN (x.body.length - 1) (fun k s => s.tableWord (imgW x.body 0 + 4 * k) (getAt x.body (k + 1) 0)) s) s
  match rateBlockOf (imgCert img) (s.fld F.CLK_MEDIA_CFG_RATE) with
  | none => s
  | some b => s.set F.ENG_CFG_XPT_SLOT (blockSlot b)

/-- The installed placement is operative: PROG_STATUS clears and IMG_ID changes (R290, R271). -/
def State.imgInstalled (s : State) (img : List Word) : State :=
  let s := (s.clearRegs (A.ENG_PROG_STATUS 0) (A.ENG_PROG_STATUS 64)).wr A.ENG_IMG_ID (imgId img)
  s.updMgmt (fun m => { m with image := img, imageCert := true })

/-- An install whose placement has left PENDING completes (R294, R295). -/
def State.imgApplied (s : State) : State :=
  let img := s.eng.installing
  if s.eng.oldInstall then
    ((s.imgInstalled img).updEng (fun e => { e with oldInstall := false })).imgDone (imgId img) 5 0
  else if s.fld F.ENG_IMG_STATUS_STATE = 4 then (s.imgInstalled img).imgEnd (imgId img) 5 0
  else s

/-- The install goes on once checked and not held (R293, R294). -/
def State.imgGo (s : State) : State :=
  let img := s.eng.img
  match rateBlockOf (imgCert img) (s.fld F.CLK_MEDIA_CFG_RATE) with
  | none => s.imgEnd (imgId img) 6 0x07
  | some b =>
    let (why, placed, dropped, s) := s.imgPlan img b s.trigRuns
    if why ≠ 0 then s.imgEnd (imgId img) 6 why
    else if s.trigRuns then
      let s := (s.imgWrite img b placed).wr A.ENG_PLACE_EF (s.rd A.ENG_IMG_APPLY_EF)
      let ap := s.applyEf
      let s := s.commitPlacement ap dropped
      (s.updEng (fun e => { e with work := .none, installing := img, applyAt := some ap, oldInstall := false })).imgStatus 4 0
    else
      let s := s.clearRegs (A.ENG_DESC_W0 0) (A.ENG_DESC_W0 64)
      let s := ((s.imgWrite img b placed).imgTables img).commitPlacement 0 dropped
      let s := s.updEng (fun e => { e with installing := [], applyAt := none, oldInstall := false })
      (s.imgInstalled img).imgEnd (imgId img) 5 0

/-- A live install is held (R294). -/
def State.imgHeld (s : State) : Bool :=
  s.trigRuns && s.layActive (fun c => Nat.ble 6 c) && !s.on F.ENG_IMG_CTL_FORCE

/-- The checks end (R291). -/
def State.imgChecked (s : State) : State :=
  match s.eng.work with
  | .checking install =>
    let img := s.eng.img
    let why := s.imageWhy img
    if why ≠ 0 then s.imgEnd (imgId img) 6 why
    else if !install then s.imgEnd (imgId img) 7 0
    else
      let why := match rateBlockOf (imgCert img) (s.fld F.CLK_MEDIA_CFG_RATE) with
        | none => 0x07
        | some b => (s.imgPlan img b s.trigRuns).1
      if why ≠ 0 then s.imgEnd (imgId img) 6 why
      else if s.imgHeld then (s.updEng (fun e => { e with work := .held })).imgStatus 3 0
      else s.imgGo
  | _ => s

/-- A held install goes on. -/
def State.imgRelease (s : State) : State :=
  match s.eng.work with
  | .held => if s.imgHeld then s else s.imgGo
  | _ => s

/-! ### The apply EF (R231, R294) -/

/-- The waiting placement becomes operative as its apply EF is computed; computations of earlier EFs keep the old one. -/
def State.placementApply (s : State) : State :=
  match s.eng.waiting with
  | none => s
  | some (ap, l) =>
    let s := s.updEng (fun e => { e with old := e.old ++ [(ap, s.opPlacement)], waiting := none })
    ((s.makeOperative l).set F.ENG_PLACE_CTL_PENDING 0).linesRestart.imgApplied

/-- The EF that the engine computes next. -/
def State.nextEf (s : State) : Nat := if s.play.rewinding then s.play.r else s.play.head

/-- The EF trigger stops with a placement pending, or with an old one kept (R231, R294). -/
def State.placementStop (s : State) : State :=
  let s := match s.eng.waiting with
    | none => s.when (!s.eng.old.isEmpty) State.rwFromSpan
    | some (_, l) =>
      let s := s.updEng (fun e => { e with waiting := none })
      let s := ((s.makeOperative l).set F.ENG_PLACE_CTL_PENDING 0).rwFromSpan
      let s := s.when s.eng.applyAt.isSome (fun s => s.imgTables s.eng.installing)
      s.imgApplied
  s.updEng (fun e => { e with old := [], applyAt := none, installing := [] })

/-! ### Overruns and forced halts (R235) -/

/-- A core that runs a program of the computation under way. -/
def State.working (s : State) (c : Nat) : Bool := s.computing c && (s.core c).prog.isSome

/-- A core's count exceeds CORE_CERT; a computation counts once. -/
def State.coreOverrun (s : State) (c : Nat) : State :=
  match s.eng.comp with
  | none => s
  | some k =>
    if s.working c && !k.overrun.testBit c then
      let s := s.updEng (fun e => { e with comp := some { k with overrun := k.overrun ||| 2 ^ c } })
      (s.inc (A.ENG_CORE_OVERRUNS c)).event F.ENG_EVT_OVERRUN
    else s

/-- A forced halt. -/
def State.forcedHalt (s : State) (c : Nat) : State :=
  if s.working c then
    let s := s.coreOut c
    let s := s.updEng (fun e => { e with comp := e.comp.map (fun k => { k with halted := k.halted ||| 2 ^ c }) })
    let s := ((s.inc (A.ENG_CORE_FORCED_HALTS c)).event F.ENG_EVT_FORCED_HALT).set (F.ENG_CORE_STATUS_CAUSE c) 5
    let n := min 3 (s.fld (F.ENG_CORE_STATUS_CONSEC c) + 1)
    let s := s.set (F.ENG_CORE_STATUS_CONSEC c) n
    s.when (n == 3) (fun s => s.coreRetire c 2)
  else s

/-! ### The commands -/

/-- PLACEMENT_APPLY (R231): the engine is about to compute the apply EF. -/
def execPlacementApply (s : State) : Result := s.run fun s =>
  match s.eng.waiting with
  | some (ap, _) => s.when (s.eng.comp.isNone && s.trigRuns && Nat.ble ap s.nextEf) State.placementApply
  | none => s

/-- REMAP (R237). -/
def execRemap (s : State) : Result := s.run State.remap

/-- CORE_OVERRUN (R235). -/
def execCoreOverrun (c : Nat) (s : State) : Result := s.runIf (decide (c < s.cores)) fun s => s.coreOverrun c

/-- FORCED_HALT (R235). -/
def execForcedHalt (c : Nat) (s : State) : Result := s.runIf (decide (c < s.cores)) fun s => s.forcedHalt c

/-- IMAGE_CHECK_COMPLETE (R291). -/
def execImageCheckComplete (s : State) : Result := s.run State.imgChecked

/-- INSTALL_HOLD_RELEASE (R294). -/
def execInstallHoldRelease (s : State) : Result := s.run State.imgRelease

end Sys2Proof.Machine
end

