-- ==== Sys2Proof/Machine/Splice.lean ====
section
/-! DEFINITION. Splice stacking: links, frames sent, roles, alignment, succession and forwarded accesses (R373 to R397). Port 0
is UP and port 1 is DN. What an arriving frame does stands in SpliceRx. -/

namespace Sys2Proof.Machine

def State.updSplice (s : State) (f : SpliceS → SpliceS) : State := { s with splice := f s.splice }
def State.sp (s : State) (p : Nat) : SplicePort := getAt s.splice.ports p SplicePort.reset
def State.spUpd (s : State) (p : Nat) (f : SplicePort → SplicePort) : State :=
  s.updSplice (fun x => { x with ports := updAt x.ports p f })

/-! ### Roles (R373, R393) -/

/-- Codes of STATUS.ROLE. -/
def roleUnlinked : Nat := 0
def roleMaster : Nat := 1
def roleActing : Nat := 2
def roleAligning : Nat := 3
def roleAligned : Nat := 4
def roleExcluded : Nat := 5

def State.role (s : State) : Nat := s.fld F.SPLICE_STATUS_ROLE
def State.setRole (s : State) (r : Nat) : State := s.keep F.SPLICE_STATUS_ROLE r
def State.position (s : State) : Nat := s.fld F.SPLICE_STATUS_POSITION

/-- The module leads a stack. -/
def State.leads (s : State) : Bool := s.role == roleMaster || s.role == roleActing

/-- The port is enabled. -/
def State.spliceEn (s : State) (p : Nat) : Bool := if p = 0 then s.on F.SPLICE_CFG_UP_EN else s.on F.SPLICE_CFG_DN_EN

/-- The splice block works. -/
def State.spliceOn (s : State) : Bool := s.unitOn 14 && s.blockOk 9

/-- The port's link is up. -/
def State.spliceUp (s : State) (p : Nat) : Bool := s.on (F.SPLICE_PORT_STATUS_LINK p)

/-- Positions a port carries (R378). -/
def State.positions (s : State) : Nat := 1024 / s.rateMul

/-- A link event of a port. -/
def State.linkChg (s : State) (p : Nat) : State :=
  s.event (if p = 0 then F.SPLICE_EVT_LINK_CHG_UP else F.SPLICE_EVT_LINK_CHG_DN)

/-- ALIGNED clears. -/
def State.alignLost (s : State) : State :=
  if s.on F.SPLICE_STATUS_ALIGNED then
    let s := (s.set F.SPLICE_STATUS_ALIGNED 0).event F.SPLICE_EVT_ALIGN_LOST
    s.when (s.role == roleAligned) (fun s => s.setRole roleAligning)
  else s

/-! ### Links (R376, R383, R392, R394) -/

/-- Block lock: the link comes up. -/
def State.spliceLink (s : State) (p : Nat) : State :=
  if s.spliceOn && s.spliceEn p && !s.spliceUp p then
    ((s.set (F.SPLICE_PORT_STATUS_BLOCK_LOCK p) 1).set (F.SPLICE_PORT_STATUS_LINK p) 1).linkChg p
  else s

/-- The link goes down: its positions are absent, the link delay is measured anew, and on UP alignment is lost. -/
def State.spliceDown (s : State) (p : Nat) : State :=
  if !s.spliceUp p then s
  else
    let s := (s.wr (A.SPLICE_PORT_STATUS p) 0).inc (A.SPLICE_CNT_LINK_DOWN p)
    let s := (s.linkChg p).spUpd p (fun x => { x with
      delays := [], sent := [], heard := none, frame := none, crcEfs := [], sending := none })
    if p = 0 then (s.updSplice (fun x => { x with strapUp := none })).alignLost
    else s.when s.leads (fun s => (s.keep F.SPLICE_STATUS_STACK_SIZE 1).keep F.SPLICE_STATUS_MEMBER_FAULT
      (s.fld F.SPLICE_STATUS_MEMBER_FAULT % 2))

/-- Link delay as a time, corrected by ASYM (R383). -/
def State.spLinkDelay (s : State) (p : Nat) : Int :=
  let d := (s.sp p).delays
  if d.length < 64 then 0
  else roundDiv d.sum 64 + sgn 16 (if p = 0 then s.fld F.SPLICE_ASYM_UP else s.fld F.SPLICE_ASYM_DN) * 4096

/-- LINK_DELAY and DELAY_VALID follow, in 1/16 ns. -/
def State.delayStatus (s : State) (p : Nat) : State :=
  if (s.sp p).delays.length < 64 then s
  else (s.set (F.SPLICE_PORT_STATUS_LINK_DELAY p) (unsgn 16 (roundDiv (s.spLinkDelay p) 4096))).keep (F.SPLICE_PORT_STATUS_DELAY_VALID p) 1

/-- The echo of a SYNC sent on the port gives half the round trip less the turnaround. -/
def State.takeEcho (s : State) (p : Nat) (echo : Option (Nat × Nat)) : State :=
  match echo with
  | none => s
  | some (ef, turn) =>
    match (s.sp p).sent.find? (fun e => e.1 == ef) with
    | none => s
    | some (_, up) =>
      let d : Int := ((s.time.up : Int) - up - turn) / 2
      (s.spUpd p (fun x => { x with delays := (d :: x.delays).take 64 })).delayStatus p

/-! ### Control records (R390) -/

/-- A record waits for the next frame of a port; with 64 waiting it is dropped. -/
def State.ctrlSend (s : State) (p : Nat) (c : Ctrl) : State :=
  if 64 ≤ (s.sp p).ctrl.length then s.inc (A.SPLICE_CTRL_DROP p)
  else s.spUpd p (fun x => { x with ctrl := x.ctrl ++ [c] })

/-- The port towards a position. -/
def State.towards (s : State) (pos : Nat) : Nat := if pos < s.position then 0 else 1

/-! ### Forwarded accesses (R391, R395) -/

/-- The forwarded access ends. (DEDUCED, notes/assumptions/64.md.) -/
def State.fwdEnd (s : State) (result : Nat) : State :=
  (((s.set F.SPLICE_FWD_CTL_BUSY 0).set F.SPLICE_FWD_CTL_RESULT result).event F.SPLICE_EVT_FWD_DONE).updSplice
    (fun x => { x with fwd := none })

/-- RD or WR is written, by a master that is privileged or not. (DEDUCED, notes/assumptions/64.md.) -/
def State.fwd (s : State) (read priv : Bool) : State :=
  if s.on F.SPLICE_FWD_CTL_BUSY then s.event F.SPLICE_EVT_FWD_REFUSED
  else
    let pos := s.fld F.SPLICE_FWD_ADDR_POS
    let adr := s.fld F.SPLICE_FWD_ADDR_ADDR
    if adr % 4 ≠ 0 then s.fwdEnd 5
    else if pos = 0 ∨ s.fld F.SPLICE_STATUS_STACK_SIZE ≤ pos then s.fwdEnd 1
    else
      let c : Ctrl := .access s.position pos adr (if read then none else some (s.rd A.SPLICE_FWD_DATA)) priv
      ((s.set F.SPLICE_FWD_CTL_BUSY 1).updSplice (fun x => { x with fwd := some read })).ctrlSend (s.towards pos) c

/-- Its completion arrives. (DEDUCED, notes/assumptions/64.md.) -/
def State.fwdDone (s : State) (result data : Nat) : State :=
  match s.splice.fwd with
  | none => s
  | some read => (s.when (read && result == 0) (fun s => s.wr A.SPLICE_FWD_DATA data)).fwdEnd result

/-! ### Alignment (R385) -/

/-- The sync of the master's EF as it would fall here: the DPLL count of the boundary, its EF, and the master's time then. -/
def State.syncRef (s : State) : Option (Int × Nat × Int) :=
  match (s.sp 0).heard, (s.sp 0).frame with
  | some (ef, up), some f => some ((up : Int) - s.spLinkDelay 0, ef - 1, (f.time : Int))
  | _, _ => none

/-- The offset of the chain's own time that puts EF `ef`'s boundary at a DPLL count. -/
def State.alignOffset (s : State) (ef : Nat) (up : Int) : Int := ((ef * s.efLen * secU + s.fs - 1) / s.fs : Nat) - up

/-- A member aligns at an EF boundary: its time base jumps to the master's, and its chain takes the master's EF number and
boundary, at once or by a realign in RUN. -/
def State.spliceAlign (s : State) : State :=
  if s.role ≠ roleAligning ∨ !s.on (F.SPLICE_PORT_STATUS_DELAY_VALID 0) ∨ s.splice.align ∨ s.modState < stReady then s
  else
    match s.syncRef with
    | none => s
    | some (up, ef, t) =>
      let s := s.toBoundary
      let d : Int := t + (s.time.up - up) - s.time.tb - s.time.jumps.sum - s.time.slew
      let s := if d = 0 then s else s.jump d
      let off := s.alignOffset ef up
      if s.play.running then
        let s := (s.updSplice (fun x => { x with align := true, efOffset := off - s.time.disp0 })).set F.CLK_REALIGN_BUSY 1
        (forN s.tdmPorts (fun n s => s.when (s.tdmRunning n) (fun s => s.tdmCauseOn n causeRealign)) s).updClk
          (fun c => { c with realign := .fading })
      else ((s.jumpApply).updTime (fun x => { x with disp0 := off })).spliceAligned.updMisalign

/-! ### Following and leaving the master (R126, R134, R144, R375, R388, R389) -/

/-- φ of SPLICE (R383): the time base at the SYNC's arrival minus the time that TIME carries.
(DEDUCED, notes/assumptions/63.md.) -/
def State.splicePhi (s : State) : Int :=
  match (s.sp 0).heard, (s.sp 0).frame with
  | some (_, up), some f => (s.time.tb : Int) - (s.time.up - up : Nat) - f.time
  | _, _ => 0

/-- CLK follows SPLICE (R126). -/
def State.followSplice (s : State) : State :=
  if s.on F.CLK_REF_STATUS_SPLICE_MEMBER then s
  else
    let s := (s.set F.CLK_REF_STATUS_SPLICE_MEMBER 1).set (F.CLK_REF_INFO_STATE 7) 2
    (s.refUpd 7 (fun x => { x with phase := s.splicePhi, since := some s.time.up, qualUp := s.time.up })).firstQual 7

/-- CLK takes SPLICE as its reference, as a switch with φ passed through (R144). -/
def State.selectSplice (s : State) : State :=
  if s.refInUse = 7 ∨ !s.clk.running then s
  else (s.refUpd 7 (fun x => { x with phase := s.splicePhi })).takeRef 7

/-- The SPLICE reference is lost (R383, R134). -/
def State.spliceRefLoss (s : State) : State :=
  let s := (s.updSplice (fun x => { x with upLost := true })).set (F.CLK_REF_INFO_STATE 7) 3
  let s := (s.set (F.CLK_REF_INFO_WHY 7) 1).event F.CLK_EVT_REF_LOST
  s.when (s.refInUse == 7) State.enterHoldover

/-- The module becomes acting master of the modules below it (R388). -/
def State.succeed (s : State) : State :=
  let s := (s.alignLost.set F.SPLICE_STATUS_ROLE roleActing).set F.SPLICE_STATUS_POSITION 0
  let s := (s.event F.SPLICE_EVT_SUCCESSION).log 12 1 3 [roleActing, 0]
  let s := s.updSplice (fun x => { x with strapUp := none, align := false })
  let s := s.when (s.refInUse == 7) State.enterHoldover
  let s := (s.keep F.CLK_REF_STATUS_SPLICE_MEMBER 0).autoSel false
  s.when (s.on F.SPLICE_CFG_MODE) (fun s => forN s.streams (fun n s => match (s.lis n).joined with
    | none => s
    | some g => s.report n g) s)

/-- The acting master yields to the strapped master (R389). -/
def State.yieldMaster (s : State) : State :=
  if s.role ≠ roleActing then s
  else
    let s := (s.set F.SPLICE_STATUS_ROLE roleAligning).set F.SPLICE_STATUS_POSITION 1
    let s := (s.event F.SPLICE_EVT_YIELDED).log 12 1 3 [roleAligning, 1]
    let s := s.updSplice (fun x => { x with strapUp := none })
    let s := (s.spUpd 0 (fun x => { x with frameUp := some s.time.up })).followSplice.selectSplice
    s.keep F.SPLICE_STATUS_STACK_SIZE 2

/-- U14 stages (R375): a strapped master leads; a member waits 50 ms for frames. -/
def State.spliceStart (s : State) : State :=
  let s := s.updSplice (fun _ => { SpliceS.reset with
    ports := List.replicate 2 { SplicePort.reset with frameUp := some s.time.up } })
  s.setRole (if s.on F.SPLICE_STATUS_STRAP then roleMaster else roleUnlinked)

/-- SPLICE.CFG is written (R393): MODE is accepted only in STAGING; a port that is disabled goes down. -/
def State.spliceCfg (s : State) (old : Word) : State :=
  let was := old.toNat % 2
  let s := if s.fld F.SPLICE_CFG_MODE = was ∨ s.modState = stStaging then s
    else (s.set F.SPLICE_CFG_MODE was).event F.SPLICE_EVT_CFG_REFUSED
  forN 2 (fun p s => s.when (!s.spliceEn p) (fun s => s.spliceDown p)) s

/-! ### Frames sent (R377 to R382) -/

/-- The map words of a port. -/
def txMap (p n : Nat) : Nat := if p = 0 then A.TBL_SPL_UP_TX n else A.TBL_SPL_DN_TX n
def rxMap (p n : Nat) : Nat := if p = 0 then A.TBL_SPL_UP_RX n else A.TBL_SPL_DN_RX n

/-- The bus slot an RX map names for a position. -/
def State.rxSlot (s : State) (p n : Nat) : Option Nat :=
  let w := s.rd (rxMap p n)
  if w < 2 ^ 31 ∨ (s.hiRate ∧ w % 2 = 1) then none else some (w % 4096)

/-- The positions that an RX map names, with their slots. -/
def State.rxSlots (s : State) (p : Nat) : List (Nat × Nat) :=
  (List.range s.positions).filterMap (fun n => (s.rxSlot p n).map (fun sl => (n, sl)))

/-- What a position carries in the frame of EF `ef`: its samples, and whether it is a pass-through that has yet to come. -/
def State.txPos (s : State) (p n ef : Nat) (stalled : Bool) : Option (List Word) × Bool :=
  let w := s.rd (txMap p n)
  let slot := w % 4096
  match w / 2 ^ 30 with
  | 1 =>
    if s.hiRate ∧ slot % 2 = 1 then (none, false)
    else (some ((List.range s.efLen).map (fun j => if stalled then 0 else s.sample slot (ef * s.efLen + j : Nat))), false)
  | 2 =>
    match (s.sp (1 - p)).frame with
    | none => (none, true)
    | some f =>
      if f.ef = ef ∧ s.spliceUp (1 - p) then ((f.audio.find? (fun a => a.1 == n)).map Prod.snd, false) else (none, true)
  | _ => (none, false)

/-- The master's time at a boundary here: the own time base on a module that leads, else the received time with the UP link
delay added. -/
def State.relayTime (s : State) : Nat :=
  if s.leads then s.time.tb
  else match s.syncRef with
    | none => s.time.tb
    | some (up, _, t) => (t + (s.time.up - up)).toNat

/-- The position above is the lowest a stack may hold (R373). -/
def State.chainLong (s : State) : Bool := match (s.sp 0).frame with
  | none => false
  | some f => Nat.ble 3 f.pos

/-- The frame that a port is sending ends with pass-through positions that did not come: they are sent absent (R380). -/
def State.sendLate (s : State) (p : Nat) : State :=
  match (s.sp p).sending with
  | none => s
  | some (f, ns) =>
    ((s.bump (A.SPLICE_PASS_LATE p) ns.length).spUpd p (fun x => { x with sending := none })).putOut (.splice (p == 0) f)

/-- A frame on the other port brings the pass-through positions of the frame that the port is sending: in time if it comes no
more than 3 µs after that frame's SYNC (R380). (DEDUCED, notes/assumptions/63.md.) -/
def State.passOn (s : State) (p : Nat) (g : SpliceFrame) : State :=
  match (s.sp p).sending with
  | none => s
  | some (f, ns) =>
    let inTime := (s.sp p).sent.any (fun e => e.1 == g.ef && Nat.ble s.time.up (e.2 + 3000 * nsU))
    if f.ef = g.ef ∧ inTime then
      let audio := (List.range s.positions).filterMap (fun n =>
        if ns.contains n then g.audio.find? (fun a => a.1 == n) else f.audio.find? (fun a => a.1 == n))
      (s.spUpd p (fun x => { x with sending := none })).putOut (.splice (p == 0) { f with audio := audio })
    else s.sendLate p

/-- The frame of a port at the tick that commits EF `ef`. Its SYNC leaves now; with pass-through positions still to come it is
put out whole once they have come or are late. -/
def State.spliceTx (s : State) (p ef : Nat) (stalled : Bool) : State :=
  let s := s.sendLate p
  if !s.spliceOn ∨ !s.spliceUp p ∨ (p = 1 ∧ s.role = roleExcluded ∧ s.chainLong) then s
  else
    let act := s.play.running && s.modState == stRun && s.role != roleExcluded
    let ps := if act then (List.range s.positions).map (fun n => (n, s.txPos p n ef stalled)) else []
    let wait := (ps.filter (fun x => x.2.2)).map Prod.fst
    let up := (s.sp 0).frame
    let own : List Ctrl := if p = 0 then [.fault s.position s.faultPin] else []
    let f : SpliceFrame := {
      crcOk := true, ef := ef, pos := s.position, time := s.relayTime, epoch := s.time.epoch
      clk := if s.leads then s.fld F.CLK_REF_STATUS_STATE else s.splice.masterClk
      rate := s.fld F.CLK_MEDIA_CFG_RATE
      acting := s.role == roleActing || (!s.leads && (match up with | none => false | some f => f.acting))
      upLost := !s.leads && (s.splice.upLost || (match up with | none => true | some f => f.upLost))
      echo := match (s.sp p).heard with
        | none => none
        | some (e, t) => some (e, s.time.up - t)
      audio := ps.filterMap (fun x => x.2.1.map (fun ws => (x.1, ws)))
      ctrl := own ++ (s.sp p).ctrl
      size := if p = 1 then s.fld F.SPLICE_STATUS_STACK_SIZE else 1 + (match (s.sp 1).frame with | none => 0 | some f => f.size) }
    let s := s.spUpd p (fun x => { x with ctrl := [], sent := ((ef, s.time.up) :: x.sent).take 8 })
    if wait.isEmpty then s.putOut (.splice (p == 0) f)
    else
      let s := s.spUpd p (fun x => { x with sending := some (f, wait) })
      if s.spliceUp (1 - p) then s else s.sendLate p

/-- The frames of both ports; frames that did not come since the last tick leave their positions absent (R381). -/
def State.spliceTick (s : State) (ef : Nat) (stalled : Bool) : State :=
  let s := forN 2 (fun p s =>
    let came := match (s.sp p).frame with
      | none => false
      | some f => f.ef + 1 == ef
    s.when (s.play.running && !came) (fun s => s.bump (A.SPLICE_FRAME_MISS p) (s.rxSlots p).length)) s
  (s.spliceTx 0 ef stalled).spliceTx 1 ef stalled

/-! ### Commands -/

/-- SPLICE_BLOCK_LOCK (R376). -/
def execSpliceBlockLock (p : Splice) (s : State) : Result := s.run fun s => s.spliceLink p.idx

/-- SPLICE_LINK_DOWN (R376). -/
def execSpliceLinkDown (p : Splice) (s : State) : Result := s.run fun s => s.spliceDown p.idx

/-- SPLICE_ALIGN (R385). -/
def execSpliceAlign (s : State) : Result := s.run State.spliceAlign

/-- SPLICE_REF_LOSS (R383): two EFs without a valid SYNC. -/
def execSpliceRefLoss (dt : Nat) (s : State) : Result := s.run fun s =>
  let s := s.advance dt
  let gone := match (s.sp 0).heard with
    | none => true
    | some (_, up) => Nat.ble (up + s.smpUp (2 * s.efLen)) s.time.up
  s.when (s.spliceMember && gone && !s.splice.upLost) State.spliceRefLoss

/-- SPLICE_SUCCESSION (R388): 50 ms without a valid frame whose chain leads to a master. -/
def execSpliceSuccession (dt : Nat) (s : State) : Result := s.run fun s =>
  let s := s.advance dt
  match (s.sp 0).frameUp with
  | none => s
  | some t => s.when (s.spliceOn && !s.leads && Nat.ble (t + 50 * msU) s.time.up) State.succeed

/-- SPLICE_REVERT (R389). -/
def execSpliceRevert (dt : Nat) (s : State) : Result := s.run fun s =>
  let s := s.advance dt
  match s.splice.strapUp with
  | none => s
  | some t => s.when (s.on F.SPLICE_CFG_REVERT && Nat.ble (t + 10 * secU) s.time.up) State.yieldMaster

/-- FWD_COMPLETE (R391): a forwarded access has had no completion for 1 ms. -/
def execFwdComplete (dt : Nat) (s : State) : Result := s.run fun s =>
  let s := s.advance dt
  s.when (s.on F.SPLICE_FWD_CTL_BUSY) (fun s => s.fwdEnd 2)

end Sys2Proof.Machine
end

