-- ==== Sys2Proof/Machine/Reset.lean ====
section
/-! DEFINITION. RESET, the power inputs, AUX_3V3, the thermal levels and loss of input power (R14, R23, R498 to R517,
R545). -/

namespace Sys2Proof.Machine

/-! ### What an interruption leaves in MRAM -/

/-- The slot a save goes to, true for B (R483, R485, R493). -/
def State.saveTarget (s : State) : Bool :=
  if s.mgmt.fw.trial then s.mgmt.fw.slot
  else if s.on F.SYS_STATUS_CFG_DEFAULT then false
  else !s.on F.MGMT_CFG_STATUS_SLOT

def State.cfgSlot (s : State) (b : Bool) : CfgSlot := if b then s.mgmt.slotB else s.mgmt.slotA
def State.putSlot (s : State) (b : Bool) (x : CfgSlot) : State :=
  s.updMgmt (fun m => if b then { m with slotB := x } else { m with slotA := x })

/-- A save under way leaves its target slot failing its check; whether MAGIC has been written is free (R483, R513).
(DEDUCED, notes/assumptions/20.md.) -/
def State.tearSave (s : State) : State :=
  match s.mgmt.saveSnap with
  | none => s
  | some _ =>
    let b := s.saveTarget
    let (f, s) := s.free 1
    let x := s.cfgSlot b
    (s.putSlot b { x with good := false, magic := x.magic || f == 1 }).updMgmt (fun m => { m with saveSnap := none })

/-- The key copy in force: the valid copy of the higher version (R487); true for copy B. -/
def State.keyInForce (s : State) : Option (Bool × KeyCopy) :=
  let a := s.mgmt.keyA
  let b := s.mgmt.keyB
  if a.ok && b.ok then (if a.version < b.version then some (true, b) else some (false, a))
  else if a.ok then some (false, a) else if b.ok then some (true, b) else none

/-- A key commit under way leaves one valid copy, old or new (R489). -/
def State.tearKey (s : State) : State :=
  match s.mgmt.keyCommit with
  | none => s
  | some (k, _) =>
    let (f, s) := s.free 1
    let v := match s.keyInForce with
      | none => 0
      | some (_, c) => c.version
    let second := match s.keyInForce with
      | none => true
      | some (b, _) => b
    let new : KeyCopy := ⟨true, k, (v + 1) % 2 ^ 32⟩
    let torn (c : KeyCopy) : KeyCopy := { c with ok := false }
    s.updMgmt (fun m =>
      let m := { m with keyCommit := none }
      if f = 1 then (if second then { m with keyA := new, keyB := torn m.keyB } else { m with keyB := new, keyA := torn m.keyA })
      else if second then { m with keyA := torn m.keyA } else { m with keyB := torn m.keyB })

/-- A restart ends a trial by rolling it back, and starts a bank whose activation waits (R493 to R495). -/
def FwRun.restart (f : FwRun) (why : Nat) : FwRun :=
  if f.trial then { f with trial := false, next := false, pend := false, go := false, rolled := some why }
  else if f.pend then { f with next := true, pend := false, go := false }
  else f

/-! ### RESET (R14, R558) -/

/-- Registers that show what RESET does not change: the power inputs and the sensors. (DEDUCED, notes/assumptions/20.md.) -/
def resetKeeps (a : Nat) : Bool := a == A.PWR_STATUS || (Nat.ble (A.MGMT_SENS 0) a && Nat.blt a (A.MGMT_SENS 11))

/-- The module enters RESET: every register and table takes its reset value, every unit but U0 is off, and what MRAM,
the RTC and the power front end hold stays. `why` is the reason a trial's rollback is logged with.
(DEDUCED, notes/assumptions/20.md.) -/
def State.enterReset (s : State) (cause why : Nat) : State :=
  let old := s.modState
  let byp := s.fld F.RING_BYPASS_STATUS_STATE
  let s := s.log 0 1 0 [old, stReset, cause]
  let retired := (s.rd A.TEST_RETIRED)
  let s := s.tearSave.tearKey
  let s := s.updMgmt (fun m => { m with
    retiredBlocks := if s.pwr.cfgLoaded then retired else m.retiredBlocks
    logIdx := List.replicate 5 0
    lifeLatch := List.replicate 5 0, lifeLatchSat := List.replicate 5 false
    totals := List.replicate 60 0, totalLatch := List.replicate 5 0
    schedRetry := [], stageKey := List.replicate 8 0
    rtcKnown := if s.pwr.cfgLoaded then s.fld F.MGMT_RTC_STATUS_SRC != 0 else m.rtcKnown, utcOffset := none
    fw := m.fw.restart why, image := [], imageCert := false })
  let s := { s with
    regs := s.regs.filter (fun c => resetKeeps c.1)
    mem := []
    resp := List.replicate 5 0
    hmq := List.replicate 4 Hmq.reset
    ring := Ring.reset
    time := { TimeS.reset with up := s.time.up, tb := s.time.tb }
    clk := ClkS.reset, strm := StrmS.reset, play := PlayS.reset, eng := EngS.reset, xpt := XptS.reset
    tdm := List.replicate 8 TdmPort.reset
    proof := ProofS.reset, splice := SpliceS.reset
    test := { TestS.reset with unusable := s.test.unusable }
    scp := State.reset.scp, msix := State.reset.msix, bus := State.reset.bus
    pwr := { Pwr.reset with
      powered := s.pwr.powered, holdup := s.pwr.holdup, powerBack := s.pwr.powerBack
      stageFails := s.pwr.stageFails, stagePermanent := s.pwr.stagePermanent, stageWait := s.pwr.stageWait
      unitFails := s.pwr.unitFails, retiredUnits := s.pwr.retiredUnits
      auxRun := s.pwr.auxRun, auxTimer := s.pwr.auxTimer, auxHolding := s.pwr.auxHolding
      limitedTimer := s.pwr.limitedTimer, thermal := s.pwr.thermal, thermalNext := s.pwr.thermalNext } }
  let s := s.set F.SYS_MOD_STATE_LAST_CAUSE cause
  let s := (s.wr A.PWR_UNIT_STATUS 1).set F.PWR_UNIT_STATUS_FAILED s.pwr.retiredUnits
  if byp = 0 then s else s.set F.RING_BYPASS_STATUS_STATE 3

/-- Reset control (R516, R545): nothing happens without U0's power. -/
def State.resetControl (s : State) : State := s.when s.pwr.powered (fun s => s.enterReset 1 1)

/-! ### Inputs and the class in force (R498 to R502) -/

/-- GRANT of an input. -/
def State.grant (s : State) (p : Nat) : Nat :=
  if p = 0 then s.fld F.PWR_STATUS_GRANT_A else if p = 1 then s.fld F.PWR_STATUS_GRANT_B
  else if p = 2 then s.fld F.PWR_STATUS_GRANT_C else 0
def State.setGrant (s : State) (p g : Nat) : State :=
  s.set (if p = 0 then F.PWR_STATUS_GRANT_A else if p = 1 then F.PWR_STATUS_GRANT_B else F.PWR_STATUS_GRANT_C) g

/-- A class puts the module into low budget, or limited mode (R501). -/
def lowClass (c : Nat) : Bool := Nat.blt c 3
def State.limitedClass (s : State) (c : Nat) : Bool := c == 3 && s.variant != .jk256

/-- The class in force follows the supplying input (R501, R502). (DEDUCED, notes/assumptions/24.md.) -/
def State.classUpd (s : State) : State :=
  let g := s.grant (s.fld F.PWR_STATUS_IN_USE)
  let c := if g = 0xF then 0 else g
  let old := s.fld F.PWR_STATUS_BUDGET
  let wasLim := s.on F.PWR_STATUS_LIMITED
  let wasLow := s.on F.PWR_STATUS_LOW_BUDGET
  let lim := s.limitedClass c
  let low := lowClass c
  let s := ((s.set F.PWR_STATUS_BUDGET c).setB F.PWR_STATUS_LIMITED lim).setB F.PWR_STATUS_LOW_BUDGET low
  let s := s.updPwr (fun p => { p with limitedTimer := lim && (!wasLim || p.limitedTimer) })
  let s := s.when (low && s.pwr.powered && s.modState != stReset) (fun s => s.enterReset 1 1)
  let s := s.when (c != old) (fun s => s.event F.PWR_EVT_CLASS_CHG)
  let s := s.when (lim != wasLim) (fun s => s.event F.PWR_EVT_LIMITED)
  s.when (low && !wasLow) (fun s => s.event F.PWR_EVT_LOW_BUDGET)

/-- An interface completes detection and classification: the first to do so supplies the module. -/
def State.classified (s : State) (p c : Nat) : State :=
  let s := (s.setGrant p (min c 8)).life (3 + p) 1
  let s := s.when (s.fld F.PWR_STATUS_IN_USE == 3) (fun s => s.set F.PWR_STATUS_IN_USE p)
  s.when (s.fld F.PWR_STATUS_IN_USE == p) State.classUpd

/-- Another input supplies the module (R499). (DEDUCED, notes/assumptions/24.md.) -/
def State.supplyFrom (s : State) (p : Nat) : State :=
  if s.fld F.PWR_STATUS_IN_USE = p ∨ s.grant p = 0xF then s
  else (s.set F.PWR_STATUS_IN_USE p).classUpd.event F.PWR_EVT_INPUT_CHG

/-- An input that does not supply the module loses its power (R476). (DEDUCED, notes/assumptions/24.md.) -/
def State.inputGone (s : State) (p : Nat) : State :=
  if s.fld F.PWR_STATUS_IN_USE = p ∨ s.grant p = 0xF then s else (s.setGrant p 0xF).life (3 + p) 1

/-- 10 s after entering limited mode, ring ports above 2.5G restart auto-negotiation (R502). -/
def State.limitedRetrain (s : State) : State :=
  if s.pwr.limitedTimer then
    let s := s.updPwr (fun p => { p with limitedTimer := false })
    forN 2 (fun p s => s.when (s.linkUp p && Nat.blt 2500 (s.linkMbps p)) (fun s => s.retrain p)) s
  else s

/-! ### AUX_3V3 (R503) -/

/-- AUX_ON follows AUX_EN unless an overload holds the output off. (DEDUCED, notes/assumptions/27.md.) -/
def State.auxFollow (s : State) : State :=
  let off := s.pwr.auxTimer || (Nat.ble 3 s.pwr.auxRun && !s.on F.PWR_STATUS_AUX_ON)
  s.keep F.PWR_STATUS_AUX_ON (if s.on F.PWR_CFG_AUX_EN && !off then 1 else 0)

/-- An overload switches the output off; after the third in a row it stays off. (DEDUCED, notes/assumptions/27.md.) -/
def State.auxOverload (s : State) : State :=
  if s.on F.PWR_STATUS_AUX_ON then
    let n := s.pwr.auxRun + 1
    let s := s.updPwr (fun p => { p with auxRun := n, auxTimer := decide (n < 3), auxHolding := false })
    ((s.set F.PWR_STATUS_AUX_ON 0).set F.PWR_STATUS_AUX_FAULT 1).event F.PWR_EVT_AUX_FAULT
  else s

/-- The output restarts, 1 s after a shutdown or on AUX_RESTART. (DEDUCED, notes/assumptions/27.md.) -/
def State.auxStart (s : State) : State :=
  if s.on F.PWR_CFG_AUX_EN && !s.on F.PWR_STATUS_AUX_ON then
    (s.updPwr (fun p => { p with auxTimer := false, auxHolding := true })).set F.PWR_STATUS_AUX_ON 1
  else s

/-- AUX_RESTART is written. -/
def State.auxRestart (s : State) : State := (s.updPwr (fun p => { p with auxRun := 0, auxTimer := false })).auxStart

/-! ### Loss of input power (R513) -/

/-- The lifetime counters are written to the copy whose turn it is, as one record with the next generation (R477).
(DESIGN CHOICE, notes/assumptions/21.md.) -/
def State.lifeWrite (s : State) : State :=
  let s := s.life 18 4
  let m := s.mgmt
  let gen := max (if m.lifeA.ok then m.lifeA.gen else 0) (if m.lifeB.ok then m.lifeB.gen else 0) + 1
  let c : LifeCopy := ⟨true, gen, m.life, m.lifeSat⟩
  s.updMgmt (fun m => if m.lifeNext then { m with lifeB := c, lifeNext := false } else { m with lifeA := c, lifeNext := true })

/-- The whole log buffer is written, oldest first (R472). -/
def State.logFlush (s : State) : State :=
  let l := s.mgmt.staging
  forL l (fun r s => s.logCommit r) (s.updMgmt (fun m => { m with staging := [] }))

/-- U0 no longer serves anybody: the module is OFF. -/
def State.powerDown (s : State) : State :=
  let s := s.enterReset 0 2
  let s := { s with
    regs := s.regs.filter (fun c => c.1 == A.RING_BYPASS_STATUS)
    pwr := { s.pwr with powered := false, stageFails := 0, stagePermanent := false, stageWait := false, unitFails := []
                        auxRun := 0, auxTimer := false, auxHolding := false, limitedTimer := false, thermal := false
                        thermalNext := false } }
  s.updMgmt (fun m => { m with started := false, life := List.replicate 23 0, lifeSat := 0 })

/-- Input power is lost: the record, the log buffer and the counters are written on holdup energy. -/
def State.powerLoss (s : State) : State :=
  if !s.pwr.powered then s
  else
    let s := s.log 1 1 2 [s.fld (F.MGMT_SENS_VALUE 5), s.fld (F.MGMT_SENS_VALUE 6)]
    let s := s.logFlush.lifeWrite.powerDown
    s.updPwr (fun p => { p with holdup := true, powerBack := false })

/-- U0 powers up: POWER_CYCLES counts when Yunasel starts. `rtc` is what the RTC counted over the outage; none where it
stopped (R463). -/
def State.powerUp (s : State) (rtc : Option Nat) : State :=
  let m := s.mgmt
  let s := match rtc with
    | some t => s.updMgmt (fun m => { m with
        rtcHeld := true, rtcSec := m.rtcSec + (m.rtcTick + t) / secU, rtcTick := (m.rtcTick + t) % secU })
    | none => s.updMgmt (fun m => { m with rtcHeld := false, rtcSec := 0, rtcTick := 0 })
  let s := { s with test := { s.test with unusable := 0 } }
  (s.updMgmt (fun x => { x with
    rtcRunning := true, rtcKnown := m.rtcKnown && rtc.isSome
    staging := [], logLost := 0 })).updPwr (fun p => { p with powered := true, holdup := false, powerBack := false })

/-- The record of what POWER_ON brings while the holdup sequence runs: it completes first. -/
def State.powerOn (s : State) (rtc : Option Nat) : State :=
  if s.pwr.powered then s
  else if s.pwr.holdup then
    (s.updPwr (fun p => { p with powerBack := true })).updMgmt (fun m => { m with rtcHeld := true })
  else s.powerUp rtc

/-- The holdup store is spent, or the sequence has completed with power back. -/
def State.holdupEnd (s : State) : State :=
  if !s.pwr.holdup then s
  else if s.pwr.powerBack then s.powerUp (some 0)
  else (s.logFlush.updPwr (fun p => { p with holdup := false })).updMgmt (fun m => { m with rtcRunning := false })

/-! ### Thermal levels (R514) -/

/-- The critical and shutdown levels of a temperature sensor, in sixteenths of a degree. -/
def critLevel (k : Nat) : Int := getAt [1840, 1840, 2000, 1680, 1680] k 0

/-- A latest temperature, in sixteenths of a degree. -/
def State.sensTemp (s : State) (k : Nat) : Int := sgn 16 (s.fld (F.MGMT_SENS_VALUE k))

/-- THERM_CRIT follows the latest samples. -/
def State.thermCrit (s : State) : State :=
  let now := anyN 5 (fun k => s.on (F.MGMT_SENS_VALID k) && decide (critLevel k ≤ s.sensTemp k))
  let was := s.on F.PWR_STATUS_THERM_CRIT
  (s.keep F.PWR_STATUS_THERM_CRIT (if now then 1 else 0)).when (now && !was) (fun s => s.event F.PWR_EVT_THERM_CRIT)

/-- U0 hardware shuts U1 to U14 down. -/
def State.thermalShutdown (s : State) : State :=
  if !s.pwr.powered then s
  else (s.enterReset 1 1).updPwr (fun p => { p with thermal := true, thermalNext := true })

/-- Every sensor has been below its warning level for 60 s: the MP starts again. -/
def State.thermalRestart (s : State) : State :=
  if s.pwr.thermal && !anyN 5 (fun k => s.on (F.MGMT_SENS_WARN k)) then
    (s.updPwr (fun p => { p with thermal := false, thermalNext := false })).event F.PWR_EVT_THERM_SHUTDOWN
  else s

/-! ### Unit failures (R506) -/

/-- PWR.CTL.RETRY: permanent unit failures and STAGE_FAIL clear. (DEDUCED, notes/assumptions/25.md.) -/
def State.pwrRetry (s : State) : State :=
  let had := s.pwr.retiredUnits != 0
  let s := s.updPwr (fun p => { p with
    retiredUnits := 0, unitFails := [], stageFails := 0, stagePermanent := false, stageWait := false })
  let s := (s.set F.PWR_UNIT_STATUS_FAILED 0).set F.PWR_STATUS_STAGE_FAIL 0
  s.when had State.requestSave

/-! ### The commands -/

/-- POWER_ON (R500): `rtc` is what the RTC counted over the outage, in units of 2^-16 ns; none where it stopped. -/
def execPowerOn (rtc : Option Nat) (s : State) : Result := s.run fun s => s.powerOn rtc

/-- PD_CLASSIFICATION (R498). -/
def execPdClassification (p : Port) (cls : Nat) (s : State) : Result := s.run fun s => s.classified p.idx cls

/-- SUPPLYING_INPUT_CHANGE (R499). -/
def execSupplyingInputChange (p : Port) (s : State) : Result := s.run fun s => s.supplyFrom p.idx

/-- PD_POWER_REMOVAL (R476). -/
def execPdPowerRemoval (p : Port) (s : State) : Result := s.run fun s => s.inputGone p.idx

/-- LIMITED_RETRAIN_TIMER (R502). -/
def execLimitedRetrainTimer (s : State) : Result := s.run State.limitedRetrain

/-- AUX_OVERLOAD (R503). -/
def execAuxOverload (s : State) : Result := s.run State.auxOverload

/-- AUX_AUTO_RESTART (R503). (DESIGN CHOICE, notes/assumptions/7.md.) -/
def execAuxAutoRestart (s : State) : Result := s.run fun s => s.when s.pwr.auxTimer State.auxStart

/-- AUX_RESTART_HOLD (R503). -/
def execAuxRestartHold (s : State) : Result := s.run fun s =>
  s.when (s.pwr.auxHolding && s.on F.PWR_STATUS_AUX_ON) (fun s =>
    (s.updPwr (fun p => { p with auxHolding := false, auxRun := 0 })).set F.PWR_STATUS_AUX_FAULT 0)

/-- HOLD_ARMED_CHANGE (R513): V_HOLD has reached 40 V, or is below 30 V. -/
def execHoldArmedChange (armed : Bool) (s : State) : Result := s.run fun s =>
  s.when s.pwr.powered (fun s => s.setB F.PWR_STATUS_HOLD_ARMED armed)

/-- INPUT_POWER_LOSS (R513). -/
def execInputPowerLoss (dt : Nat) (s : State) : Result := s.run fun s => (s.advance dt).powerLoss

/-- HOLDUP_EXHAUSTED (R513). -/
def execHoldupExhausted (dt : Nat) (s : State) : Result := s.run fun s => (s.advance dt).holdupEnd

/-- THERMAL_CRITICAL (R514). -/
def execThermalCritical (s : State) : Result := s.run fun s =>
  s.when s.pwr.powered (fun s => (s.set F.PWR_STATUS_THERM_CRIT 1).event F.PWR_EVT_THERM_CRIT)

/-- THERMAL_SHUTDOWN (R514). -/
def execThermalShutdown (dt : Nat) (s : State) : Result := s.run fun s => (s.advance dt).thermalShutdown

/-- THERMAL_RESTART (R514). -/
def execThermalRestart (s : State) : Result := s.run State.thermalRestart

/-- RESET_N_PIN (R545): `lowNs` is how long the pin was low; between 1 µs and 10 µs whether it acts is free. -/
def execResetNPin (lowNs : Nat) (s : State) : Result := s.run fun s =>
  if lowNs < 1000 then s
  else if 10000 ≤ lowNs then s.resetControl
  else
    let (f, s) := s.free 1
    s.when (f == 1) State.resetControl

/-- MP_WATCHDOG_EXPIRY (R458). -/
def execMpWatchdogExpiry (s : State) : Result := s.run fun s => s.when s.pwr.powered (fun s => s.enterReset 2 3)

end Sys2Proof.Machine
end

