-- ==== Sys2Proof/Machine/Mgmt.lean ====
section
/-! DEFINITION. The management subsystem: sensors, local time, the log in MRAM, configuration saves, the installer key, firmware
delivery and trials (R457 to R497). -/

namespace Sys2Proof.Machine

/-! ### Sensors (R460, R461) -/

/-- A sensor's value is beyond its warning level. -/
def sensWarns (k : Nat) (v : Int) : Bool :=
  if k = 0 ∨ k = 1 then decide (1680 < v) else if k = 2 then decide (1840 < v) else if k = 3 ∨ k = 4 then decide (1520 < v)
  else if k = 5 then decide (v < 40000) else if k = 8 then decide (2000 < v) else if k = 10 then decide (v < 2000) else false

/-- A warning ends: 5 °C below the level, or 2 % inside it. -/
def sensClears (k : Nat) (v : Int) : Bool :=
  if k = 0 ∨ k = 1 then decide (v ≤ 1600) else if k = 2 then decide (v ≤ 1760) else if k = 3 ∨ k = 4 then decide (v ≤ 1440)
  else if k = 5 then decide (40800 ≤ v) else if k = 8 then decide (v ≤ 1960) else if k = 10 then decide (2040 ≤ v) else true

/-- A sample of a sensor. -/
def State.sample1 (s : State) (k : Nat) (v : Int) : State :=
  let s := (s.set (F.MGMT_SENS_VALID k) 1).set (F.MGMT_SENS_VALUE k) (unsgn 16 v)
  if s.on (F.MGMT_SENS_WARN k) then s.when (sensClears k v) (fun s => s.set (F.MGMT_SENS_WARN k) 0)
  else if sensWarns k v then
    let s := ((s.set (F.MGMT_SENS_WARN k) 1).event F.MGMT_EVT_SENS_WARN).log 17 0x50 2 [k, unsgn 32 v]
    s.when (Nat.blt k 5) (fun s => s.life (6 + k) 1)
  else s

/-! ### Local time (R465) -/

/-- Days from 1970-01-01 of a date, and the date of a day (proleptic Gregorian calendar).
(PRESUMED, notes/assumptions/74.md.) -/
def daysOf (y m d : Int) : Int :=
  let y := if m ≤ 2 then y - 1 else y
  let era := y.fdiv 400
  let yoe := y - era * 400
  let doy := (153 * (if m > 2 then m - 3 else m + 9) + 2) / 5 + d - 1
  era * 146097 + yoe * 365 + yoe / 4 - yoe / 100 + doy - 719468
def dateOf (days : Int) : Int × Int × Int :=
  let z := days + 719468
  let era := z.fdiv 146097
  let doe := z - era * 146097
  let yoe := (doe - doe / 1460 + doe / 36524 - doe / 146096) / 365
  let doy := doe - (365 * yoe + yoe / 4 - yoe / 100)
  let mp := (5 * doy + 2) / 153
  let m := if mp < 10 then mp + 3 else mp - 9
  (yoe + era * 400 + (if m ≤ 2 then 1 else 0), m, doy - (153 * mp + 2) / 5 + 1)

/-- Day of the week, 0 for Monday. -/
def weekday (days : Int) : Nat := ((days + 3) % 7).toNat

/-- Seconds of UTC (R465). -/
def State.utcSecs (s : State) : Int := (s.tbSec : Int) - s.mgmt.utcOffset.getD (s.fld F.CLK_TOD_CFG_UTC_OFFSET)

/-- STD_OFF and DST_SHIFT in seconds. -/
def State.stdOff (s : State) : Int := sgn 16 (s.fld F.MGMT_TZ_STD_STD_OFF) * 60
def State.dstShift (s : State) : Int := (s.fld F.MGMT_TZ_STD_DST_SHIFT : Nat) * 60

/-- A start or end of daylight time in a year, in seconds of its own local time; none where its fields name no date.
(PRESUMED, notes/assumptions/74.md.) -/
def State.tzEdge (s : State) (k : Nat) (year : Int) : Option Int :=
  let mo := s.fld (F.MGMT_TZ_DST_MONTH k)
  let wk := s.fld (F.MGMT_TZ_DST_WEEK k)
  let dy := s.fld (F.MGMT_TZ_DST_DAY k)
  if mo = 0 ∨ 12 < mo ∨ wk = 0 ∨ 5 < wk ∨ 6 < dy then none
  else
    let first := daysOf year mo 1
    let next := if mo = 12 then daysOf (year + 1) 1 1 else daysOf year (mo + 1) 1
    let d0 := first + ((dy + 7 - weekday first) % 7 : Nat)
    let day := if wk = 5 then (if d0 + 28 < next then d0 + 28 else d0 + 21) else d0 + 7 * ((wk : Int) - 1)
    some (day * 86400 + (s.fld (F.MGMT_TZ_DST_MINUTE k) : Nat) * 60)

/-- Daylight time is in force at a moment given in local standard time. -/
def State.dstAt (s : State) (std : Int) : Bool :=
  if !s.on F.MGMT_TZ_STD_DST_EN then false
  else
    let year := (dateOf (std.fdiv 86400)).1
    match s.tzEdge 0 year, s.tzEdge 1 year with
    | some a, some b =>
      let b := b - s.dstShift
      if a ≤ b then decide (a ≤ std) && decide (std < b) else decide (a ≤ std) || decide (std < b)
    | _, _ => false

/-- Local seconds of a moment in local standard time. -/
def State.localOf (s : State) (std : Int) : Int := if s.dstAt std then std + s.dstShift else std

/-- Local seconds now. -/
def State.localNow (s : State) : Int := s.localOf (s.utcSecs + s.stdOff)

/-- The moment, in local standard time, that a local time denotes: the first of two, or the first after a gap. -/
def State.stdOf (s : State) (l : Int) : Int :=
  if s.dstAt (l - s.dstShift) then l - s.dstShift
  else if !s.dstAt l then l
  else (s.tzEdge 0 (dateOf (l.fdiv 86400)).1).getD l

/-- MGMT.LOCAL (R465). -/
def State.localReg (s : State) : Nat :=
  if s.fld F.MGMT_RTC_STATUS_SRC = 0 then 0
  else
    let l := s.localNow
    let (y, m, d) := dateOf (l.fdiv 86400)
    let t := (l % 86400).toNat
    (y.toNat % 4096) * 2 ^ 20 + m.toNat * 2 ^ 16 + d.toNat * 2 ^ 11 + t / 3600 * 2 ^ 6 + t / 60 % 60

/-! ### The log (R469 to R475) -/

/-- Severity of a record. (DEDUCED, notes/assumptions/72.md.) -/
def recSev (r : List Word) : Nat := (getAt r 4 0).toNat / 2 ^ 28

/-- A record that a session's subscription takes: its 64 latest are kept (R475). -/
def Session.gather (x : Session) (r : List Word) : Session :=
  match x.level with
  | none => x
  | some l => if l ≤ recSev r then { x with gathered := (x.gathered ++ [r]).drop (x.gathered.length + 1 - 64) } else x

/-- The oldest staged record is written, pushed where its severity asks for it, and gathered (R472, R474, R475). -/
def State.logWrite (s : State) : State :=
  match s.mgmt.staging with
  | [] => s
  | r :: rest =>
    let s := (s.updMgmt (fun m => { m with staging := rest })).logCommit r
    let n := s.mgmt.logLost
    let s := s.when (Nat.blt 0 n) (fun s => (s.updMgmt (fun m => { m with logLost := 0 })).log 17 0x60 2 [n])
    let sev := recSev r
    let s := s.when (Nat.ble (s.fld F.MGMT_LOG_CTL_PUSH_MIN) sev && Nat.blt (s.fld F.MGMT_LOG_CTL_PUSH_MIN) 5) (fun s =>
      s.push { queue := s.fld F.MGMT_LOG_CTL_PUSH_Q, prio := getAt [0, 2, 4, 6, 7] sev 7, src := 4, core := 0, desc := 0, ef := 0
               body := r })
    { s with scp := { s.scp with sessions := s.scp.sessions.map (fun x => x.gather r) } }

/-- The record with a sequence number, if it is held (R473). -/
def State.logRecord (s : State) (seq : Nat) : Option (List Word) := s.mgmt.log.find? (fun r => (getAt r 0 0).toNat == seq)

/-- The record fails its CHECK. -/
def recBad (r : List Word) : Bool := crc32c (r.take 15) != getAt r 15 0

/-! ### Totals (R479) -/

/-- The MSTAT counters in the order of their totals: ports A, B and C, then recovery. -/
def mstatAdr (i : Nat) : Nat := if i < 57 then A.MSTAT_SAT 0 - 0x400 + 0x100 * (i / 19) + 4 * (i % 19) else A.MSTAT_SAT 0 - 0x100 + 4 * (i - 57)

/-- Every counter is read, cleared and added to its total. -/
def State.mstatTotals (s : State) : State :=
  forN 60 (fun i s =>
    let n := s.rd (mstatAdr i)
    (s.updMgmt (fun m => { m with totals := setAt m.totals i ((getAt m.totals i 0 + n) % 2 ^ 64) })).keepWord (mstatAdr i) 0) s

/-! ### Configuration saves (R482, R483) -/

/-- A save's read-back passes or fails. The length of the body is the manual's to give, and it gives none. -/
def State.saveDone (s : State) (ok : Bool) : State :=
  match s.mgmt.saveSnap with
  | none => s
  | some x =>
    let b := s.saveTarget
    let gen := (s.rd A.MGMT_CFG_GEN + 1) % 2 ^ 32
    let (f, s) := s.free 20
    let len := 8 + f % 1048569
    let s := (s.putSlot b { x with gen := gen, length := len, good := ok }).updMgmt (fun m => { m with saveSnap := none })
    let s := s.life (if b then 16 else 15) ((len + 15) / 16)
    let s := s.set F.MGMT_CFG_STATUS_BUSY 0
    let slot := if b then 1 else 0
    let s :=
      if ok then
        let s := ((s.set F.MGMT_CFG_STATUS_SLOT slot).wr A.MGMT_CFG_GEN gen).set F.MGMT_CFG_STATUS_LAST 1
        ((s.set F.SYS_STATUS_CFG_DEFAULT 0).event F.MGMT_EVT_CFG_SAVED).log 17 0x11 0 [slot, gen, 1]
      else ((s.set F.MGMT_CFG_STATUS_LAST 2).event F.MGMT_EVT_CFG_SAVE_FAIL).log 17 0x11 3 [slot, gen, 2]
    s.when (s.on F.MGMT_CFG_STATUS_PENDING) (fun s => (s.set F.MGMT_CFG_STATUS_PENDING 0).requestSave)

/-! ### The installer key (R488, R489) -/

/-- KEY_CTL.COMMIT. -/
def State.keyCommitOp (s : State) (m : Master) : State :=
  if s.mgmt.stageKey.all (fun w => w == 0) || s.on F.MGMT_KEY_STATUS_BUSY then s.set F.MGMT_KEY_STATUS_REFUSED 1
  else (s.updMgmt (fun x => { x with keyCommit := some (x.stageKey, m.code) })).set F.MGMT_KEY_STATUS_BUSY 1

/-- Both copies are written. -/
def State.keyDone (s : State) : State :=
  match s.mgmt.keyCommit with
  | none => s
  | some (k, m) =>
    let v := match s.keyInForce with
      | none => 1
      | some (_, c) => (c.version + 1) % 2 ^ 32
    let c : KeyCopy := ⟨true, k, v⟩
    let s := s.updMgmt (fun x => { x with keyA := c, keyB := c, keyCommit := none, stageKey := List.replicate 8 0 })
    let s := ((s.life 17 2).set F.MGMT_KEY_STATUS_BUSY 0).set F.MGMT_KEY_STATUS_VALID 1
    let s := (s.set F.MGMT_KEY_STATUS_VERSION (v % 65536)).set F.SYS_STATUS_KEY_FAIL 0
    (s.event F.MGMT_EVT_KEY_CHANGED).log 17 0x20 1 [v, m]

/-! ### Firmware (R490 to R496) -/

/-- The firmware's own state. -/
def State.fw (s : State) : FwRun := s.mgmt.fw
def State.updFw (s : State) (f : FwRun → FwRun) : State := s.updMgmt (fun m => { m with fw := f m.fw })
def State.bank (s : State) (b : Bool) : FwBank := if b then s.mgmt.bankB else s.mgmt.bankA
def State.updBank (s : State) (b : Bool) (f : FwBank → FwBank) : State :=
  s.updMgmt (fun m => if b then { m with bankB := f m.bankB } else { m with bankA := f m.bankA })

/-- VERSION and ROLLBACK of a bank's header. (DESIGN CHOICE, notes/assumptions/66.md.) -/
def FwBank.version (b : FwBank) : Nat := (getAt b.words 2 0).toNat
def FwBank.rollback (b : FwBank) : Nat := (getAt b.words 3 0).toNat

/-- The boot ROM accepts the bank (R495). -/
def State.bankOk (s : State) (b : Bool) : Bool :=
  let x := s.bank b
  !x.invalid && x.sigOk && Nat.ble s.mgmt.rollback x.rollback

/-- FW_STATUS.STATE. -/
def State.fwState (s : State) : Nat := s.fld F.MGMT_FW_STATUS_STATE

/-- A firmware command is refused (R491). (DEDUCED, notes/assumptions/73.md.) -/
def State.fwRefuse (s : State) (why : Nat) : State := (s.set F.MGMT_FW_STATUS_WHY why).set F.MGMT_FW_STATUS_DONE 1

/-- FW_INFO shows the versions of valid images. -/
def State.fwInfo (s : State) : State :=
  forN 2 (fun k s => let b := s.bank (k == 1)
    s.keepWord (A.MGMT_FW_INFO k) (if b.invalid then 0 else b.version)) s

/-- BEGIN: refused during a trial or with an activation waiting. -/
def State.fwBegin (s : State) : State :=
  if s.fw.trial || s.fw.pend then s.fwRefuse 5
  else
    let b := !s.fw.bank
    let s := s.updBank b (fun _ => ⟨[], true, false⟩)
    ((s.set F.MGMT_FW_STATUS_STATE 1).set F.MGMT_FW_STATUS_WHY 0).fwInfo

/-- A word of FW_DATA; one word beyond 8 MiB marks the overflow. -/
def State.fwWord (s : State) (w : Word) : State :=
  if s.fwState = 1 then
    let b := !s.fw.bank
    let n := (s.bank b).words.length
    if 2097152 < n then s
    else (s.updBank b (fun x => { x with words := x.words ++ [w] })).when (n % 16 == 0) (fun s => s.life (if b then 21 else 20) 1)
  else s

/-- VERIFY. -/
def State.fwVerify (s : State) : State := s.when (s.fwState == 1) (fun s => (s.set F.MGMT_FW_STATUS_STATE 2).set F.MGMT_FW_STATUS_WHY 0)

/-- The reason a received image is refused with; 0 for none. `sigOk` is the signature's verdict under Kerrun's key. -/
def State.fwWhy (s : State) (sigOk : Bool) : Nat :=
  let x := s.bank (!s.fw.bank)
  let w (i : Nat) : Nat := (getAt x.words i 0).toNat
  if w 0 ≠ 0x4C455359 ∨ w 1 ≠ 1 ∨ w 2 = 0 then 1
  else if w 4 ≠ 4 * x.words.length ∨ 2097152 < x.words.length ∨ x.words.length < 80 then 2
  else if !sigOk then 3
  else if x.rollback < s.mgmt.rollback then 4
  else 0

/-- The verification ends; with no bank running the image starts at once (R495). -/
def State.fwVerified (s : State) (sigOk : Bool) : State :=
  if s.fwState ≠ 2 then s
  else
    let why := s.fwWhy sigOk
    let b := !s.fw.bank
    let x := s.bank b
    let s := (s.set F.MGMT_FW_STATUS_WHY why).set F.MGMT_FW_STATUS_DONE 1
    let s := s.log 17 0x30 (if why = 0 then 1 else 2) [x.version, x.rollback, why]
    if why ≠ 0 then (s.set F.MGMT_FW_STATUS_STATE 4).event F.MGMT_EVT_FW_REFUSED
    else
      let s := s.updBank b (fun x => { x with invalid := false, sigOk := true })
      let s := ((s.set F.MGMT_FW_STATUS_STATE 3).event F.MGMT_EVT_FW_VERIFIED).fwInfo
      if s.mgmt.bootFailed then
        let s := (s.updMgmt (fun m => { m with bootFailed := false })).updFw (fun f => { f with bank := b, dflt := b })
        (s.setB F.SYS_STATUS_BANK b).updPwr (fun p => { p with fwVerified := true })
      else s

/-- ACTIVATE. -/
def State.fwActivate (s : State) : State :=
  if s.fwState = 3 then (s.set F.MGMT_FW_STATUS_STATE 5).updFw (fun f => { f with pend := true, go := false }) else s.fwRefuse 6

/-- The restart of an activation: WHEN allows it, and no class 6 or 7 service is in force (R493). -/
def State.fwRestart (s : State) : State :=
  let w := s.fld F.MGMT_FW_CTL_WHEN
  if s.fw.pend && (w == 0 || (w == 1 && s.fw.go)) && !s.class67 then s.enterReset 1 1 else s

/-- Payload of a trial's record: banks running and to return to, their versions, and the reason (R471). -/
def State.trialLog (s : State) (sev why : Nat) : State :=
  let b := s.fw.bank
  let n (x : Bool) : Nat := if x then 1 else 0
  s.log 17 0x31 sev [n b, n (!b), (s.bank b).version, (s.bank (!b)).version, if why = 0 then 0 else (Config.openCode (2 + why)).toNat]

/-- The trial is confirmed (R494). -/
def State.fwConfirm (s : State) : State :=
  if s.fw.trial then
    let b := s.fw.bank
    let s := s.updMgmt (fun m => { m with rollback := max m.rollback (s.bank b).rollback })
    let s := s.updFw (fun f => { f with trial := false, dflt := b, left := 0 })
    let s := ((s.set F.SYS_STATUS_TRIAL 0).set F.MGMT_FW_STATUS_STATE 0).keepWord A.MGMT_ROLLBACK s.mgmt.rollback
    (s.event F.MGMT_EVT_CONFIRMED).trialLog 1 0
  else s

/-- CONFIRM is written. -/
def State.fwConfirmCmd (s : State) : State := if s.fw.trial then s.fwConfirm else s.fwRefuse 7

/-- The trial rolls back (R494): the module enters RESET and starts the previous bank. (DEDUCED, notes/assumptions/73.md.) -/
def State.fwAbort (s : State) (why : Nat) : State := s.when s.fw.trial (fun s => s.enterReset 1 why)

/-- Seconds left to confirm. -/
def State.trialLeft (s : State) : Nat := if s.fw.trial then min 600 ((s.fw.left - s.time.up + secU - 1) / secU) else 0

/-! ### The commands -/

/-- SENSOR_SAMPLE (R460): the samples of sensors 0, 1, … in the units of R460. -/
def execSensorSample (vals : List Int) (s : State) : Result := s.run fun s =>
  s.when s.pwr.powered (fun s =>
    ((vals.take 11).foldl (fun (x : State × Nat) v => (x.1.sample1 x.2 v, x.2 + 1)) (s, 0)).1.thermCrit)

/-- LOG_RECORD_WRITE (R472). -/
def execLogRecordWrite (s : State) : Result := s.run fun s => s.when s.pwr.powered State.logWrite

/-- LIFETIME_COUNTER_WRITE (R477). -/
def execLifetimeCounterWrite (s : State) : Result := s.run fun s => s.when s.mgmt.started State.lifeWrite

/-- MSTAT_TOTALS (R479). -/
def execMstatTotals (s : State) : Result := s.run fun s => s.when s.mgmt.started State.mstatTotals

/-- CFG_SAVE_COMPLETE (R483). -/
def execCfgSaveComplete (ok : Bool) (s : State) : Result := s.run fun s => s.saveDone ok

/-- FW_VERIFY_COMPLETE (R492): `sigOk` is the verdict on the image's signature. (DESIGN CHOICE, notes/assumptions/66.md.) -/
def execFwVerifyComplete (sigOk : Bool) (s : State) : Result := s.run fun s => s.fwVerified sigOk

/-- FW_RESTART (R493). -/
def execFwRestart (s : State) : Result := s.run State.fwRestart

/-- FW_AUTO_CONFIRM (R494): the module has been in READY or RUN for 300 s. -/
def execFwAutoConfirm (s : State) : Result := s.run fun s =>
  s.when (s.on F.MGMT_FW_CTL_AUTO_CONFIRM && (s.modState == stReady || s.modState == stRun)) State.fwConfirm

/-- FW_TRIAL_EXPIRY (R494): TRIAL_LEFT has reached 0. -/
def execFwTrialExpiry (dt : Nat) (s : State) : Result := s.run fun s =>
  let s := s.advance dt
  s.when (Nat.ble s.fw.left s.time.up) (fun s => s.fwAbort 5)

end Sys2Proof.Machine
end

