-- ==== Sys2Proof/Machine/Test.lean ====
section
/-! DEFINITION. Self-test: the start of a test, its end and what follows from its result, retries and the queue
(R337, R518 to R532, R537). -/

namespace Sys2Proof.Machine

/-! ### The start of a test (R519, R522) -/

/-- The queued block that may start now: the lowest that the state allows; one aborted waits until the requests of class 6
and 7 have been quiet (R523, R526). -/
def State.nextTest (s : State) : Option Nat :=
  (List.range 32).find? (fun b => s.bitOf F.TEST_QUEUED_MASK b && s.unitOn (blockUnit b) && s.testAllowedIn b s.modState &&
    !(s.test.wait67 && Nat.blt 0 (getAt s.test.aborts b 0)))

/-- The cores that a cluster's test covers: those being cleared, or else all that are not retired (R233, R532). -/
def State.testedCores (s : State) (cl : Nat) : List Nat :=
  let all := (List.range 4).map (fun k => 4 * cl + k)
  let cleared := all.filter (fun c => s.test.clearing.testBit c)
  if cleared.isEmpty then all.filter (fun c => s.coreState c != 6) else cleared

/-- CLK falls to FREE_RUN with its history cleared. -/
def State.clkToFree (s : State) : State :=
  let s := s.updClk (fun c => { c with hoFreq := none, awaitPhi := false })
  let s := ((s.clearRegs (A.CLK_HIST 0) (A.CLK_HIST 1024)).set F.CLK_REF_STATUS_SEL 0).set F.CLK_REF_STATUS_BW 0
  ((s.wr A.CLK_FCW 0).wr A.CLK_HO_STATUS 0).clkState clkFree

/-- What the test of a block does to what the block holds: its memories read zero afterwards (R519). -/
def State.testEmpties (s : State) (b : Nat) : State :=
  if b = 0 then
    s.updRing (fun r => { r with frerL := [], frerS := [], ports := r.ports.map (fun p => { p with queue := [], pool := 0 }) })
  else if b = 4 then s.clkToFree
  else if b = 5 then (s.clearMem busBase (busBase + 0x400000)).updPlay (fun p => { p with conc := [] }) |>.updStrm (fun t => { t with trues := [] })
  else if b = 6 then (s.clearMem dlyBase (dlyBase + s.dlyBytes)).updEng (fun e => { e with dlyFirst := [] })
  else if b = 7 then forN 4 (fun q s => s.hmqFlush q) s
  else if b = 8 then s.updXpt (fun x => { x with ramps := [], lims := [], meters := [], samples := 0 })
  else if 12 ≤ b ∧ b ≤ 15 then
    forL (s.testedCores (b - 12)) (fun c s =>
      ((s.clearMem (coreBase c) (coreBase c + 0x20000)).coreUpd c (fun _ => Core.reset)).set (F.ENG_CORE_STATUS_STATE c) 1) s
  else if 16 ≤ b then
    let n := b - 16
    let s := s.tdmCauseOn n causeTest
    s.when (s.fld (F.TDM_STATUS_GAIN_STATE n) == gainSilent || s.modState == stStaging) (fun s =>
      s.tpUpd n (fun p => { p with testing := true }))
  else s

/-- The next queued test starts: none runs, no block is being re-initialised, and no class 6 or 7 request is in force. -/
def State.testRun (s : State) : State :=
  if s.test.running.isSome || s.test.reinit.isSome || s.class67 then s
  else match s.nextTest with
    | none => s
    | some b =>
      let s := ((s.setBit F.TEST_QUEUED_MASK b false).set (F.TEST_RES_W0_STATE b) 2).updTest (fun t => { t with running := some b })
      ((s.set F.TEST_STATUS_RUNNING 1).set F.TEST_STATUS_CUR b).testEmpties b

/-! ### What a result does (R528 to R532) -/

/-- A block falls out of use (R528). -/
def State.blockDown (s : State) (b : Nat) : State :=
  let s := s.updTest (fun t => { t with unusable := t.unusable ||| 2 ^ b })
  if b = 0 then forN 3 (fun p s => s.linkDrop p) s.bypassClose
  else if b = 1 ∨ b = 2 then forN 2 (fun p s => s.linkDrop p) s.bypassClose
  else if b = 3 then s.linkDrop 2
  else if b = 4 then s.clkToFree
  else if b = 6 then s.holdStatus
  else if b = 9 then (s.spliceDown 0).spliceDown 1
  else if 12 ≤ b ∧ b ≤ 15 then forN 4 (fun k s => s.coreRetire (4 * (b - 12) + k) 1) s
  else if 16 ≤ b then
    let n := b - 16
    (((s.keep (F.TDM_STATUS_RUNNING n) 0).portSilent n).senseDrop n)
  else s

/-- A block is retired (R530): TEST.RETIRED, the event and a save. (DEDUCED, notes/assumptions/80.md.) -/
def State.blockRetire (s : State) (b : Nat) : State :=
  let s := (s.wr A.TEST_RETIRED (s.rd A.TEST_RETIRED ||| 2 ^ b)).event F.TEST_EVT_RETIRED
  (s.updTest (fun t => { t with retry := clearBits t.retry (2 ^ b) })).requestSave

/-- A soft fault (R529, R530): the block is unusable; its failing retries count, and the third retires it.
(DEDUCED, notes/assumptions/80.md.) -/
def State.softFault (s : State) (b : Nat) : State :=
  let retrying := s.fld (F.TEST_RES_W0_ORIGIN b) == 4
  let s := s.blockDown b
  if retrying then
    let n := min 3 (s.fld (F.TEST_RES_W0_CONSEC b) + 1)
    let s := s.set (F.TEST_RES_W0_CONSEC b) n
    if n = 3 then s.blockRetire b else s.updTest (fun t => { t with retry := t.retry ||| 2 ^ b })
  else if s.fld (F.TEST_RES_W0_ORIGIN b) == 5 && s.fld (F.TEST_RES_W0_STATE b) == 4 then s.blockRetire b
  else s.updTest (fun t => { t with retry := t.retry ||| 2 ^ b })

/-- A block passes: it is usable, its soft fault is over, and a cleared one is restored. `whole` is false where only a
cluster's shared parts pass. -/
def State.blockPass (s : State) (b : Nat) (whole : Bool) : State :=
  let s := s.updTest (fun t => { t with
    unusable := clearBits t.unusable (2 ^ b), retry := clearBits t.retry (2 ^ b)
    lastPass := if whole then setAt t.lastPass b (t.passes + 1) else t.lastPass, passes := t.passes + 1
    dlyFault := t.dlyFault && b != 6, dlyErrs := if b = 6 then [] else t.dlyErrs })
  let s := s.set (F.TEST_RES_W0_CONSEC b) 0
  let s := s.when (b == 6) State.holdStatus
  s.when (whole && s.fld (F.TEST_RES_W0_ORIGIN b) == 5) (fun s => (s.event F.TEST_EVT_RESTORED).requestSave)

/-- A tested core's own result: it fails or falls short, and is retired; or it passes, READY if a program is placed on it
and EMPTY otherwise (R232, R529). (DEDUCED, notes/assumptions/51.md.) -/
def State.coreTested (s : State) (c : Nat) (bad : Bool) : State :=
  let s := s.updTest (fun t => { t with clearing := clearBits t.clearing (2 ^ c) })
  if bad then s.coreRetire c 1
  else
    let was := s.mgmt.retiredCores.any (fun r => r.1 == c)
    let s := (s.set (F.ENG_CORE_STATUS_STATE c) 2).updMgmt (fun m => { m with retiredCores := m.retiredCores.filter (fun r => r.1 != c) })
    let s := s.when was (fun s => (s.set (F.ENG_CORE_STATUS_CAUSE c) 0).requestSave)
    s.placedUpd

/-- KIND of a block's only kind of test, or of the kind that decided (R519). -/
def blockKind (b : Nat) (memory : Bool) : Nat :=
  if b = 0 ∨ b = 8 ∨ (12 ≤ b ∧ b ≤ 15) then (if memory then 2 else 1)
  else if b ≤ 3 ∨ b = 9 ∨ 16 ≤ b then 3 else if b = 4 then 4 else if b = 10 then 5 else 2

/-- The running test's last cycle completes (R520, R529): `cycles` were counted, `sig` is the signature and `good` says that
it is the expected one; `memory` names the deciding kind where a block has two; of a cluster's cores, `bad` have a wrong
signature and `short` a short count. (DEDUCED, notes/assumptions/80.md.) -/
def State.testEnd (s : State) (cycles sig : Nat) (good memory : Bool) (bad short : Nat) : State :=
  match s.test.running with
  | none => s
  | some b =>
    let cluster := Nat.ble 12 b && Nat.ble b 15
    let cores := if cluster then (s.testedCores (b - 12)).filter (fun c => s.coreState c == 1) else []
    let isShort (c : Nat) : Bool := short.testBit (c % 4)
    let fails := cores.filter (fun c => bad.testBit (c % 4) && !isShort c)
    let own := if cycles < s.expCycles b then 5 else if good then 3 else 4
    let res := if own = 4 ∨ !fails.isEmpty then 4 else if own = 5 ∨ cores.any isShort then 5 else 3
    let mask := forL fails (fun c m => m + 2 ^ (c % 4)) 0
    let kind := blockKind b memory
    let s := s.testResult b res kind mask sig cycles 0
    let s := forL cores (fun c s => s.coreTested c (isShort c || bad.testBit (c % 4))) s
    if own = 3 then s.blockPass b (res == 3)
    else if own = 4 ∧ Nat.ble kind 2 then (s.blockDown b).blockRetire b
    else s.softFault b

/-! ### The queue (R523, R530, R532, R537) -/

/-- START: the named blocks are queued. -/
def State.testStart (s : State) (mask : Nat) : State :=
  forN 32 (fun b s => s.when (mask.testBit b) (fun s => s.testQueue b 3)) s

/-- CLEAR: retirements of the named blocks are cleared and their tests queued; CLEAR overrides a START's ORIGIN (R537). -/
def State.testClear (s : State) (mask : Nat) : State :=
  forN 32 (fun b s =>
    s.when (mask.testBit b && (s.rd A.TEST_RETIRED).testBit b) (fun s =>
      let s := (s.wr A.TEST_RETIRED (clearBits (s.rd A.TEST_RETIRED) (2 ^ b))).requestSave
      if s.bitOf F.TEST_QUEUED_MASK b then s.set (F.TEST_RES_W0_ORIGIN b) 5 else s.testQueue b 5)) s

/-- STOP: the queue empties and the running test is aborted. -/
def State.testStop (s : State) : State :=
  let s := forN 32 (fun b s => s.when (s.bitOf F.TEST_QUEUED_MASK b) (fun s => s.set (F.TEST_RES_W0_STATE b) 0)) s
  (s.wr A.TEST_QUEUED 0).testAbort 4

/-- A soft retry falls due while the state allows the test. -/
def State.softRetry (s : State) (b : Nat) : State :=
  if s.test.retry.testBit b && s.testAllowedIn b s.modState && !s.bitOf F.TEST_QUEUED_MASK b then
    (s.updTest (fun t => { t with retry := clearBits t.retry (2 ^ b) })).testQueue b 4
  else s

/-- TEST.RES_W0's USABLE and RETIRED bits (R536). -/
def State.resWord (s : State) (b : Nat) : Nat :=
  let w := s.rd (A.TEST_RES_W0 b)
  let u := s.usableMask.testBit b
  let r := (s.rd A.TEST_RETIRED).testBit b
  (F.TEST_RES_W0_RETIRED b).into ((F.TEST_RES_W0_USABLE b).into w (if u then 1 else 0)) (if r then 1 else 0)

/-! ### The commands -/

/-- TEST_RUN_START (R522, R523). -/
def execTestRunStart (s : State) : Result := s.run State.testRun

/-- TEST_END (R520, R521, R528 to R532). (DESIGN CHOICE, notes/assumptions/81.md.) -/
def execTestEnd (cycles sig : Nat) (good memory : Bool) (bad short : Nat) (s : State) : Result := s.run fun s =>
  s.testEnd cycles sig good memory bad short

/-- TEST_REQUEUE_QUIET (R526): no class 6 or 7 request has been in force for 60 s. -/
def execTestRequeueQuiet (s : State) : Result := s.run fun s =>
  s.when (!s.class67) (fun s => s.updTest (fun t => { t with wait67 := false }))

/-- SOFT_RETRY (R530). -/
def execSoftRetry (b : Nat) (s : State) : Result := s.runIf (blockPresent s.variant b) fun s => s.softRetry b

end Sys2Proof.Machine
end

