-- ==== Sys2Proof/Machine/Access.lean ====
section
/-! DEFINITION. Register access, the reading side: privilege, access faults, domains, what a read of each register shows, and
the memory windows (R193, R226, R398, R404, R414 to R424, R559, R577). -/

namespace Sys2Proof.Machine

/-! ### Privilege and access faults (R398, R419, R422) -/

/-- The master's accesses are privileged; for SCP the access itself says so. -/
def State.masterPriv (s : State) (m : Master) (scpPriv : Bool) : Bool :=
  match m with
  | .mp => true
  | .spi => s.on F.SYS_ACC_STATUS_SPI_PRIV
  | .f0 => true
  | .f1 => false
  | .scp => scpPriv

/-- The fault bits of ACC_STATUS. -/
inductive AccBit where
  | priv
  | err
  | rsv
  deriving DecidableEq, Repr

/-- The bit's mask in ACC_STATUS, as SCP's reply words show it (R431). -/
def AccBit.mask : AccBit → Nat
  | .priv => 2
  | .err => 4
  | .rsv => 8

/-- An access fault: its bit and event set, and the first while all three bits are clear is captured (R422). -/
def State.accFault (s : State) (b : AccBit) (m : Master) (a : Nat) : State :=
  let first := s.rd A.SYS_ACC_STATUS &&& 14 == 0
  let s := s.when first (fun s => (s.set F.SYS_ACC_ADDR_MASTER m.code).set F.SYS_ACC_ADDR_ADDR a)
  match b with
  | .priv => (s.set F.SYS_ACC_STATUS_PRIV_VIOL 1).event F.SYS_EVT_PRIV_VIOL
  | .err => (s.set F.SYS_ACC_STATUS_ACC_ERR 1).event F.SYS_EVT_ACC_ERR
  | .rsv => (s.set F.SYS_ACC_STATUS_RSV_WR 1).event F.SYS_EVT_RSV_WR

/-! ### Units and blocks of a register (R504, R518, R559) -/

/-- The power unit of the register or memory at an address. -/
def unitOf (a : Nat) : Nat :=
  match a / 0x10000 with
  | 2 => 3
  | 3 => 3
  | 4 => 3
  | 5 => 7
  | 6 => 3
  | 7 => 2
  | 8 => if a < A.ENG_IMG_CTL then 8 else 0
  | 9 => 8
  | 10 => 12
  | 11 => 12
  | 12 => 14
  | 13 => 3
  | 0x10 => 3
  | 0x11 => 3
  | 0x12 => 8
  | 0x13 => 8
  | 0x14 => 8
  | 0x15 => 8
  | 0x16 => 8
  | 0x17 => 12
  | 0x18 => if a < 0x184000 then 14 else 0
  | n => if n < 0x20 then 0 else if n < 0x40 then 8 + (n - 0x20) / 8 else if n < 0x100 then 2 else 0

/-- The unit works: it is powered, and not in retention or off in QUIET (R509). -/
def State.unitAwake (s : State) (n : Nat) : Bool :=
  s.unitOn n && !(s.modState == stQuiet && !s.pwr.quietEntry && (n == 2 || n == 8 || n == 9 || n == 10 || n == 11 || n == 12))

/-- The test block whose registers hold the address, if one does (R518). -/
def testBlockOf (a : Nat) : Option Nat :=
  match a / 0x10000 with
  | 2 =>
    let o := a % 0x10000
    if o = 0 ∨ o = 0x90 ∨ o = 0x94 then some 1
    else if o = 4 ∨ o = 0x98 ∨ o = 0x9C then some 2
    else if o = 8 ∨ o = 0xA0 ∨ o = 0xA4 then some 3
    else some 0
  | 5 => some 4
  | 9 => some 8
  | 0x12 => some 8
  | 0x13 => some 8
  | 0x14 => some 8
  | 0x15 => some 8
  | 0x16 => if a < 0x168000 then some 8 else some 6
  | 12 => some 9
  | 13 => some 7
  | 10 =>
    let o := a % 0x10000
    if o < 0x800 then some (16 + o / 0x100) else if 0x1000 ≤ o ∧ o < 0x1800 then some (16 + (o - 0x1000) / 0x100) else none
  | 8 =>
    let o := a % 0x10000
    if 0x100 ≤ o ∧ o < 0x140 then some (12 + (o - 0x100) / 16) else none
  | _ => none

/-- Words written now do not act yet: the unit is not awake, or the block is under test or being re-initialised.
(DEDUCED, notes/assumptions/13.md.) -/
def State.effectOwed (s : State) (a : Nat) : Bool :=
  !s.unitAwake (unitOf a) || (match testBlockOf a with
    | none => false
    | some b => s.test.running == some b || s.test.reinit == some b)

/-! ### Slow domains (R414, R416) -/

/-- The slow domain of an address. -/
def domainOf (a : Nat) : Option Nat :=
  if a = A.ENG_IMG_DATA then some 0
  else if a = A.MGMT_FW_CTL ∨ a = A.MGMT_FW_DATA ∨ a = A.MGMT_KEY_CTL ∨ a = A.MGMT_CFG_CTL ∨
      (A.MGMT_KEY_STAGE 0 ≤ a ∧ a < A.MGMT_KEY_STAGE 8) then some 1
  else if a / 0x10000 = 1 ∨ a / 0x10000 = 14 ∨ a / 0x10000 = 15 then some 0
  else if a = A.RING_PHY_DATA 0 then some 2
  else if a = A.RING_PHY_DATA 1 then some 3
  else if a = A.RING_PHY_DATA 2 then some 4
  else none

/-- Words a domain's FIFO holds. -/
def domainDepth (d : Nat) : Nat := if d = 0 then 64 else if d = 1 then 16 else 4

/-- Words waiting in a domain. -/
def State.posted (s : State) (d : Nat) : Nat := (s.bus.posts.filter (fun p => p.domain == d)).length

/-! ### What a read shows -/

/-- PHY_DATA_x: the Clause 45 register that PHY_ADDR_x names; devices other than 1, 3 and 7 read zero (R562).
(DEDUCED, notes/assumptions/31.md.) -/
def State.phyRead (s : State) (p : Nat) : Nat :=
  let mmd := s.fld (F.RING_PHY_ADDR_MMD p)
  if !s.unitOn (4 + p) then 0
  else if mmd = 1 ∨ mmd = 3 ∨ mmd = 7 then s.rd (phyBase p mmd (s.fld (F.RING_PHY_ADDR_REG p))) % 2 ^ 16
  else 0

/-- ENG.STATUS (R238). -/
def State.engStatus (s : State) : Nat :=
  F.ENG_STATUS_USABLE.into (s.rd A.ENG_STATUS)
    (ofBits ((List.range 16).map (fun c => Nat.blt c s.cores && s.coreState c != 0 && s.coreState c != 6)))

/-- Seconds left before the bypass joins by itself (R41). -/
def State.joinWait (s : State) : Nat :=
  match s.ring.join with
  | .delay e => (e - s.time.up + secU - 1) / secU
  | _ => 0

/-- TWIN_STATUS.WIN_S (R106). -/
def State.twinWindowS (s : State) : Nat :=
  if s.time.twin.running then min 300 ((s.time.up - s.time.twin.startUp) / secU) else 0

/-- LOG_STATE and LOG_DATA0–15 as a master's LOG_IDX shows them (R473). -/
def State.logView (s : State) (m : Master) (a : Nat) : Nat :=
  match s.logRecord (getAt s.mgmt.logIdx m.code 0) with
  | none => 0
  | some r =>
    if a = A.MGMT_LOG_STATE then (if recBad r then 3 else 1) else (getAt r ((a - A.MGMT_LOG_DATA 0) / 4) 0).toNat

/-- The MSTAT total whose words sit at an address, if one does (R479). (DESIGN CHOICE, notes/assumptions/14.md.) -/
def totalAt (a : Nat) : Option (Nat × Bool) :=
  let o := a - A.MGMT_MSTAT_TOTAL 0 0
  if a < A.MGMT_MSTAT_TOTAL 0 0 then none
  else if o < 0x600 ∧ o % 0x200 < 0x98 then some (o / 0x200 * 19 + o % 0x200 / 8, o % 8 == 4)
  else if 0x600 ≤ o ∧ o < 0x618 then some (57 + (o - 0x600) / 8, o % 8 == 4)
  else none

/-- Lifetime counter words (R478): the high word as latched for the master. (DESIGN CHOICE, notes/assumptions/14.md.) -/
def State.lifeRead (s : State) (m : Master) (a : Nat) : Nat :=
  let o := a - A.MGMT_LIFE_LO 0
  if !s.mgmt.started then 0
  else if o % 8 = 0 then getAt s.mgmt.life (o / 8) 0 % 2 ^ 32
  else getAt s.mgmt.lifeLatch m.code 0 + (if getAt s.mgmt.lifeLatchSat m.code false then 2 ^ 31 else 0)

/-- What a register holds as a read by a master shows it, before privilege and side effects: most registers are stored, and
these follow other state. -/
def State.liveReg (s : State) (m : Master) (a : Nat) : Nat :=
  let w := s.rd a
  match a / 0x10000 with
  | 0 =>
    if a = A.SYS_POST_STATUS then
      let pend := ofBits ((List.range 5).map (fun d => s.posted d != 0))
      let busy := ofBits ((List.range 5).map (fun d => Nat.ble (domainDepth d) (s.posted d)))
      F.SYS_POST_STATUS_PEND.into (F.SYS_POST_STATUS_BUSY.into w busy) pend
    else w
  | 2 =>
    if A.RING_FLAP 0 ≤ a ∧ a < A.RING_FLAP 3 then
      let p := (a - A.RING_FLAP 0) / 4
      (F.RING_FLAP_HOLD_REMAIN p).into ((F.RING_FLAP_FLAPS p).into w (s.flapCount p)) (s.holdRemain p)
    else if a = A.RING_BYPASS_STATUS then F.RING_BYPASS_STATUS_WAIT_S.into w s.joinWait
    else if a = A.RING_PHY_DATA 0 then s.phyRead 0
    else if a = A.RING_PHY_DATA 1 then s.phyRead 1
    else if a = A.RING_PHY_DATA 2 then s.phyRead 2
    else w
  | 4 =>
    if a = A.TIME_TB_NS then s.tbNs
    else if a = A.TIME_TB_SEC_LO then s.tbSecLo m
    else if a = A.TIME_TB_SEC_HI then s.tbSecHi m
    else if a = A.TIME_TB_FRAC then s.tbFrac m
    else if a = A.TIME_SLEW_REMAIN then nsReg s.time.slew
    else if a = A.TIME_CAPQ_NS then s.capqWord 0
    else if a = A.TIME_CAPQ_SEC_LO then s.capqWord 1
    else if a = A.TIME_CAPQ_SEC_HI then s.capqWord 2
    else if a = A.TIME_CAPQ_INFO then s.capqInfo
    else if a = A.TIME_CAPQ_STATUS then F.TIME_CAPQ_STATUS_COUNT.into w s.time.capq.length
    else if a = A.TIME_TWIN_STATUS then F.TIME_TWIN_STATUS_WIN_S.into w s.twinWindowS
    else w
  | 7 =>
    if a = A.PLAY_CLEAT_EF then (getAt s.play.latch m.code (0, 0)).1
    else if a = A.PLAY_HEAD_EF then (getAt s.play.latch m.code (0, 0)).2
    else w
  | 8 => if a = A.ENG_STATUS then s.engStatus else w
  | 10 =>
    let n := a % 0x10000 / 0x100
    if a = A.TDM_STATUS n ∧ n < 8 then (F.TDM_STATUS_TESTING n).into w (if s.test.running = some (16 + n) then 1 else 0) else w
  | 13 =>
    let q := a % 0x10000 / 0x100
    if a = A.HMQ_STATUS q then s.hmqStatus q
    else if a = A.HMQ_FREE q then (s.q q).freeWords
    else if a = A.HMQ_CUR q then s.hmqCur q
    else w
  | 14 =>
    if a = A.MGMT_LOCAL then s.localReg
    else if a = A.MGMT_FW_STATUS then F.MGMT_FW_STATUS_TRIAL_LEFT.into w s.trialLeft
    else if a = A.MGMT_LOG_IDX then getAt s.mgmt.logIdx m.code 0
    else if A.MGMT_LOG_STATE ≤ a ∧ a < A.MGMT_LOG_DATA 16 then s.logView m a
    else if A.MGMT_LIFE_LO 0 ≤ a ∧ a < A.MGMT_LIFE_LO 23 then s.lifeRead m a
    else match totalAt a with
      | none => w
      | some (_, true) => getAt s.mgmt.totalLatch m.code 0
      | some (k, false) => getAt s.mgmt.totals k 0 % 2 ^ 32
  | 15 =>
    if a = A.TEST_USABLE then s.usableMask
    else if A.TEST_RES_W0 0 ≤ a ∧ a < A.TEST_RES_W0 32 ∧ a % 16 = 0 then s.resWord ((a - A.TEST_RES_W0 0) / 16)
    else w
  | 0x10 => if A.TBL_LAY_W0 0 ≤ a ∧ a % 32 = 12 then s.leadWord ((a - A.TBL_LAY_W0 0) / 32) else w
  | _ => w

/-! ### Memory windows -/

/-- Bus memory as a master reads it: while the EF trigger runs only positions of committed EFs that the ring still holds
show, the two EFs before the cleat (R192, R193); a memory under test or unusable reads zero.
(DEDUCED, notes/assumptions/15.md.) -/
def State.busMemRead (s : State) (a : Nat) : Nat :=
  let slot := (a - busBase) / 0x400
  let odd := s.hiRate && slot % 2 == 1
  let pos := a % 0x400 / 4 + (if odd then 256 else 0)
  let start := (s.play.cleat - 2) * s.efLen
  let off := (pos + s.slotLen - start % s.slotLen) % s.slotLen
  if !s.blockOk 5 then 0
  else if s.pwr.trig && s.play.running && !Nat.blt off (2 * s.efLen) then 0
  else (s.memWord a).toNat

/-- The delay-memory byte that the aperture shows at an address; none beyond the variant's memory (R316).
(DEDUCED, notes/assumptions/15.md.) -/
def State.apertureAt (s : State) (a : Nat) : Option Nat :=
  let b := s.fld F.XPT_DLY_BANK_BANK * 0x800000 + (a - 0x800000)
  if b < s.dlyBytes then some (dlyBase + b) else none

/-- The delay-memory aperture as a master reads it (R193, R316). (DEDUCED, notes/assumptions/15.md.) -/
def State.apertureRead (s : State) (a : Nat) : Nat :=
  match s.apertureAt a with
  | none => 0
  | some b => if s.pwr.trig || !s.blockOk 6 then 0 else (s.memWord b).toNat

/-- The MSI-X structures of a function (R403, R404): an entry's words are its address, low then high, its data and its vector
control. -/
def State.msixRead (s : State) (fn a : Nat) : Nat :=
  let x := getAt s.msix fn ⟨0, false, 0, 0, [], []⟩
  let o := a - 0xF000
  let e := o / 16
  if o < 0x100 then
    if o % 16 = 0 then getAt x.addrs e 0 % 2 ^ 32
    else if o % 16 = 4 then getAt x.addrs e 0 / 2 ^ 32
    else if o % 16 = 8 then getAt x.data e 0
    else if x.vecMask.testBit e then 1 else 0
  else if o = 0x800 then x.pba else 0

/-- A word of a function's MSI-X table is written (R404). (PRESUMED, notes/assumptions/16.md.) -/
def State.msixWrite (s : State) (fn a n : Nat) : State :=
  let x := getAt s.msix fn ⟨0, false, 0, 0, [], []⟩
  let o := a - 0xF000
  let e := o / 16
  let adr := getAt x.addrs e 0
  if 0x100 ≤ o then s
  else
    let x :=
      if o % 16 = 0 then { x with addrs := setAt x.addrs e (adr / 2 ^ 32 * 2 ^ 32 + n / 4 * 4) }
      else if o % 16 = 4 then { x with addrs := setAt x.addrs e (n * 2 ^ 32 + adr % 2 ^ 32) }
      else if o % 16 = 8 then { x with data := setAt x.data e n }
      else { x with vecMask := if n.testBit 0 then x.vecMask ||| 2 ^ e else clearBits x.vecMask (2 ^ e) }
    { s with msix := setAt s.msix fn x }

/-- The function a master is, for what only the requesting function sees. -/
def pcieFn : Master → Option Nat
  | .f0 => some 0
  | .f1 => some 1
  | _ => none

/-! ### Side effects of a read -/

/-- What reading a register does besides: latches (R73, R212, R478, R479) and pops (R122, R446). -/
def State.readEffect (s : State) (m : Master) (a : Nat) : State :=
  if a = A.TIME_TB_NS then (s.tbNsRead m).2
  else if a = A.TIME_CAPQ_INFO then (s.capqPop).2
  else if a = A.PLAY_NOW_EF then
    s.updPlay (fun p => { p with latch := setAt p.latch m.code (p.cleat % 2 ^ 32, p.head % 2 ^ 32) })
  else if A.MGMT_LIFE_LO 0 ≤ a ∧ a < A.MGMT_LIFE_LO 23 ∧ a % 8 = 0 ∧ s.mgmt.started = true then
    let k := (a - A.MGMT_LIFE_LO 0) / 8
    s.updMgmt (fun x => { x with
      lifeLatch := setAt x.lifeLatch m.code (getAt x.life k 0 / 2 ^ 32)
      lifeLatchSat := setAt x.lifeLatchSat m.code (x.lifeSat.testBit k) })
  else match totalAt a with
    | some (k, false) => s.updMgmt (fun x => { x with totalLatch := setAt x.totalLatch m.code (getAt x.totals k 0 / 2 ^ 32) })
    | _ => s

/-- Every field of the register is PRV; its reserved bits do not count. -/
def Row.allPrv (r : Row) : Bool :=
  r.prv != 0 && (r.rw ||| r.w1c ||| r.sc ||| r.wo) &&& r.prv == (r.rw ||| r.w1c ||| r.sc ||| r.wo) &&
    !(r.adr == A.ENG_PLACE_CTL || r.adr == A.ENG_DESC_W0 0)

/-- The bits a register in a unit that is not awake still shows (R559). -/
def Row.kept (r : Row) : Nat := r.rw ||| r.w1c ||| r.rc ||| r.fac

/-- A read of a register word by a master (R418, R419, R424, R559): the word, and the state after its side effects. -/
def State.regRead (s : State) (m : Master) (priv : Bool) (a : Nat) (r : Row) : Nat × State :=
  let awake := s.unitAwake (unitOf a)
  if !priv && r.allPrv then (0, s.accFault .priv m a)
  else
    let (w, s) := if a % 0x100 = 0x10 ∧ a / 0x10000 = 13 ∧ awake = true ∧ a < A.HMQ_RD_DATA 4 then s.hmqRead (a % 0x10000 / 0x100)
      else (s.liveReg m a, s)
    let w := if awake then w else (w &&& r.kept) ||| clearBits (resetWord s.variant a).toNat r.kept
    let w := clearBits w (r.sc ||| r.wo)
    let w := if priv then w else clearBits w r.prv
    let s := s.when awake (fun s => s.readEffect m a)
    let s := s.when (r.rc != 0) (fun s => s.keepWord a (clearBits (s.rd a) r.rc))
    (w, s)

end Sys2Proof.Machine
end

