-- ==== Sys2Proof/Machine/Effects.lean ====
section
/-! DEFINITION. What a write that lands in a register does beyond the register's own word (R417, R579): each rule of the
other chapters that ties an effect to a write. -/

namespace Sys2Proof.Machine

/-- A field changed. -/
def State.chg (s : State) (f : Fld) (old : Word) : Bool := s.fld f != f.of old.toNat

/-- A field takes back the value it had. -/
def State.revert (s : State) (f : Fld) (old : Word) : State := s.set f (f.of old.toNat)

/-- A field that is clamped to a range as it is written. -/
def State.clampF (s : State) (f : Fld) (lo hi : Nat) : State := s.keep f (clampN lo hi (s.fld f))

/-! ### SYS and PWR -/

/-- The units that cannot be disabled (R504). -/
def fixedUnits : List Nat := [1, 2, 3, 4, 5, 7, 8]

/-- The variant has the unit (R2, R504). -/
def unitPresent (v : Variant) (u : Nat) : Bool := Nat.ble 1 u && Nat.ble u 14 && !(9 ≤ u ∧ u < 12 ∧ v.pick 4 2 1 ≤ u - 8)

/-- UNIT_EN as it reads after a write (R516). -/
def State.unitEnWrite (s : State) : State :=
  let w := s.fld F.PWR_UNIT_EN_UNIT
  let bit (u : Nat) : Bool := unitPresent s.variant u && (fixedUnits.contains u || w.testBit (u - 1))
  s.keep F.PWR_UNIT_EN_UNIT (ofBits ((List.range 14).map (fun k => bit (k + 1))))

/-- SYS registers: `d` holds the command and data bits written. In bundle mode the master forwards module commands (R387). -/
def State.sysEffect (s : State) (a : Nat) (old : Word) (d : Nat) : State :=
  if a = A.SYS_MOD_CMD then
    let code := F.SYS_MOD_CMD_CMD.of d
    (s.modCmd code 3).when (code != 0 && s.leads && s.on F.SPLICE_CFG_MODE) (fun s => s.ctrlSend 1 (.modCmd code))
  else if a = A.SYS_MSIX_EOI 0 ∨ a = A.SYS_MSIX_EOI 1 then
    { s with msix := updAt s.msix ((a - A.SYS_MSIX_EOI 0) / 4) (fun x => { x with armed := x.armed ||| d % 2 ^ 16 }) }
  else if a = A.SYS_PCIE_CFG then s.pcieCfg old
  else if a = A.SYS_FRAME_DB then s.when (d.testBit 0) State.hostScan
  else s

/-- PWR registers. -/
def State.pwrEffect (s : State) (a : Nat) (d : Nat) : State :=
  if a = A.PWR_CFG then (s.clampF F.PWR_CFG_STAGE_INT 10 500).auxFollow
  else if a = A.PWR_UNIT_EN then s.unitEnWrite
  else if a = A.PWR_CTL then
    let s := s.when (d.testBit 2) State.pwrRetry
    let s := s.when (d.testBit 1) State.auxRestart
    s.when (d.testBit 0) State.resetControl
  else s

/-! ### RING and TIME -/

/-- RING registers. -/
def State.ringEffect (s : State) (a : Nat) (old : Word) (d : Nat) : State :=
  let o := a % 0x10000
  if o < 0xC then s.portCfg (o / 4) old
  else if a = A.RING_BYPASS_CTL then s.bypassCtl (F.RING_BYPASS_CTL_FORCE_CLOSE.of old.toNat == 1) (d.testBit 2)
  else if 0x40 ≤ o ∧ o < 0x4C then s.cbsWrite ((o - 0x40) / 4)
  else if o = 0x50 ∨ o = 0x54 then s.when (d.testBit 1) (fun s => s.qbvSwap ((o - 0x50) / 4))
  else if a = A.RING_PAUSE_WM then forN 3 (fun p s => s.poolCheck p) s
  else if 0x70 ≤ o ∧ o < 0x7C then s.when (d.testBit 0) (fun s => s.flapRelease ((o - 0x70) / 4))
  else if o = 0x94 ∨ o = 0x9C ∨ o = 0xA4 then
    let p := (o - 0x94) / 8
    let val := s.fld (F.RING_PHY_DATA_DATA p)
    s.when (s.unitOn (4 + p)) (fun s => s.phyWrite p (s.fld (F.RING_PHY_ADDR_MMD p)) (s.fld (F.RING_PHY_ADDR_REG p)) val)
  else s

/-- TWIN_CFG is written (R97, R98, R105, R133). -/
def State.twinCfg (s : State) (old : Word) : State :=
  let s := s.clampF F.TIME_TWIN_CFG_LOSS_INTV 2 15
  let s := s.when (s.chg F.TIME_TWIN_CFG_PREF old) State.twinPrefWrite
  let s := s.when (s.chg F.TIME_TWIN_CFG_EN old) (fun s =>
    let s := s.when (!s.on F.TIME_TWIN_CFG_EN) State.twinAbandon
    s.twinFlags.refCtlWrite)
  s.twinFlags

/-- TIME registers; `data` says that a data port took a word. -/
def State.timeEffect (s : State) (a : Nat) (old : Word) (d : Nat) : State :=
  let o := a % 0x10000
  if a = A.TIME_TB_CTL then s.tbCtl (d.testBit 0) (d.testBit 1) false
  else if a = A.TIME_TB_SET_NS then s.keepWord a (min 999999999 (s.rd a))
  else if a = A.TIME_PTP_CFG then s.ptpCfg old
  else if a = A.TIME_PTP_INTV then s.ptpIntv
  else if a = A.TIME_PTP_PRIO then s.bmca
  else if a = A.TIME_TWIN_CFG then s.twinCfg old
  else if 0x100 ≤ o ∧ o < 0x180 then
    let n := (o - 0x100) / 0x20
    if o % 0x20 = 0 then s.when (s.chg (F.TIME_TPO_CTL_MODE n) old) (fun s => s.tpoMode n)
    else if o % 0x20 = 4 then s.tpoStartWrite n (s.rd a)
    else if o % 0x20 = 0x10 then
      let s := s.keepWord a (clampN 1000 4000000000 (s.rd a))
      s.when ((getAt s.time.tpo n Tpo.reset).running && s.reg a != old) (fun s => s.tpoStart n)
    else s
  else s

/-! ### CLK, STRM, PLAY -/

/-- CLK registers. -/
def State.clkEffect (s : State) (a : Nat) (old : Word) (d : Nat) : State :=
  if a = A.CLK_REF_CTL ∨ a = A.CLK_REF_RANK then s.refCtlWrite
  else if a = A.CLK_REALIGN then
    let s := forN 4 (fun n s => s.when (d.testBit n) (fun s => s.tpoRealign n)) s
    s.when (d.testBit 4) State.realignMedia
  else if a = A.CLK_HO_CFG then (s.keep F.CLK_HO_CFG_W s.hoW).keep F.CLK_HO_CFG_H s.hoH
  else if a = A.CLK_MEDIA_CFG then s.mediaCfg old
  else if a = A.CLK_MCLK_CFG then s.mclkCfg
  else s

/-- HOLD_CFG is written (R186): accepted only in STAGING. -/
def State.holdCfg (s : State) (old : Word) : State :=
  if !s.chg F.STRM_HOLD_CFG_HOLD_MIB old then s
  else if s.modState != stStaging then (s.revert F.STRM_HOLD_CFG_HOLD_MIB old).event F.STRM_EVT_CFG_REFUSED
  else s.holdStatus

/-- PLAY.CFG is written (R211): SLACK is accepted only in STAGING and READY. (DEDUCED, notes/assumptions/44.md.) -/
def State.playCfg (s : State) (old : Word) : State :=
  if s.chg F.PLAY_CFG_SLACK old && s.modState != stStaging && s.modState != stReady then
    (s.revert F.PLAY_CFG_SLACK old).event F.PLAY_EVT_CFG_REFUSED
  else s

/-! ### ENG, XPT, TDM -/

/-- ENG.CFG is written (R238): XPT_SLOT is accepted only while the EF trigger is stopped. -/
def State.engCfg (s : State) (old : Word) : State :=
  if s.chg F.ENG_CFG_XPT_SLOT old && s.pwr.trig then (s.revert F.ENG_CFG_XPT_SLOT old).event F.ENG_EVT_CFG_REFUSED
  else s

/-- ENG registers outside the placement, whose words go to the pending copies. -/
def State.engEffect (s : State) (a : Nat) (old : Word) (d : Nat) : State :=
  let o := a % 0x10000
  if a = A.ENG_CFG then s.engCfg old
  else if a = A.ENG_PLACE_CTL then s.when (d.testBit 0) (fun s => s.commitPlacement s.applyEf [])
  else if 0x100 ≤ o ∧ o < 0x140 then s.coreCtl ((o - 0x100) / 4) d
  else if a = A.ENG_IMG_CTL then
    if d.testBit 0 then s.imgBegin else if d.testBit 1 then s.imgCheck true else if d.testBit 2 then s.imgCheck false else s
  else if a = A.ENG_IMG_DATA then s.imgWord (BitVec.ofNat 32 d)
  else s

/-- A crosspoint, limiter, meter or delay-line word is written (R201, R312, R313). -/
def State.xptTable (s : State) (a : Nat) (old : Word) : State :=
  if a / 0x10000 = 0x16 then
    if 0x168000 ≤ a ∧ s.reg a ≠ old then
      let k := (a - A.TBL_DLINE_W0 0) / 16
      let s := s.when (a % 16 == 4) (fun s => s.keep (F.TBL_DLINE_W2_ALLOC k) (s.allocOf (s.fld (F.TBL_DLINE_W1_LEN k))))
      s.updEng (fun e => { e with dlyFirst := e.dlyFirst.filter (fun x => x.1 != k) })
    else s
  else s.xpMaster a

/-- TDM registers (R331, R334, R338, R575). -/
def State.tdmEffect (s : State) (a : Nat) (old : Word) : State :=
  let o := a % 0x10000
  let n := o / 0x100
  if o < 0x800 ∧ o % 0x100 = 0 then s.tdmPortCfg n old
  else if o < 0x800 ∧ o % 0x100 = 4 then s.tdmMute n ((F.TDM_CTL_MUTE n).of old.toNat == 1)
  else if a = A.TDM_BIST_CFG then s.keep F.TEST_YIELD_TDM (s.fld F.TDM_BIST_CFG_TEST_YIELD)
  else if 0x1000 ≤ o ∧ o < 0x1800 then s.tdmMapWrite ((o - 0x1000) / 0x100)
  else s

/-! ### PROOF, SPLICE, HMQ -/

/-- SPLICE registers. -/
def State.spliceEffect (s : State) (priv : Bool) (a : Nat) (old : Word) (d : Nat) : State :=
  if a = A.SPLICE_CFG then s.spliceCfg old
  else if a = A.SPLICE_CTL then
    let s := s.when (d.testBit 2) State.yieldMaster
    let s := s.when (d.testBit 0) (fun s => s.spliceDown 0)
    s.when (d.testBit 1) (fun s => s.spliceDown 1)
  else if a = A.SPLICE_FWD_CTL then
    if d.testBit 0 then s.fwd false priv else if d.testBit 1 then s.fwd true priv else s
  else s

/-- PROOF registers; RUN_DB is clamped, and 0 stays (R366). -/
def State.proofEffect (s : State) (a : Nat) (d : Nat) : State :=
  if a = A.PROOF_CMD then s.proofCmd d
  else if a = A.PROOF_RUN_CFG then s.when (s.fld F.PROOF_RUN_CFG_RUN_DB != 0) (fun s => s.clampF F.PROOF_RUN_CFG_RUN_DB 10 30)
  else s

/-- HMQ registers. -/
def State.hmqEffect (s : State) (a : Nat) (d : Nat) : State :=
  let q := a % 0x10000 / 0x100
  if a = A.HMQ_CFG q then s.qRefresh q
  else if a = A.HMQ_CTL q then s.when (d.testBit 0) (fun s => s.hmqFlush q)
  else s

/-! ### MGMT and TEST -/

/-- A signed field clamped to a range (R465). -/
def State.clampS (s : State) (f : Fld) (lo hi : Int) : State :=
  s.keep f (unsgn f.width (clampI lo hi (sgn f.width (s.fld f))))

/-- FW_CTL's commands, in the order of their bits; ABORT_TRIAL acts over CONFIRM (R496). -/
def State.fwCtl (s : State) (d : Nat) : State :=
  let s := s.when (d.testBit 0) State.fwBegin
  let s := s.when (d.testBit 1) State.fwVerify
  let s := s.when (d.testBit 2) State.fwActivate
  if d.testBit 4 then s.fwAbort 4 else s.when (d.testBit 3) State.fwConfirmCmd

/-- MGMT registers. -/
def State.mgmtEffect (s : State) (m : Master) (a : Nat) (d : Nat) : State :=
  if a = A.MGMT_TZ_STD then
    (s.clampS F.MGMT_TZ_STD_STD_OFF (-720) 840).clampF F.MGMT_TZ_STD_DST_SHIFT 0 120
  else if a = A.MGMT_CFG_CTL then s.when (d.testBit 0) State.requestSave
  else if a = A.MGMT_KEY_CTL then s.when (d.testBit 0) (fun s => s.keyCommitOp m)
  else if A.MGMT_KEY_STAGE 0 ≤ a ∧ a < A.MGMT_KEY_STAGE 8 then
    s.updMgmt (fun x => { x with stageKey := setAt x.stageKey ((a - A.MGMT_KEY_STAGE 0) / 4) (BitVec.ofNat 32 d) })
  else if a = A.MGMT_FW_CTL then s.fwCtl d
  else if a = A.MGMT_FW_DATA then s.fwWord (BitVec.ofNat 32 d)
  else if a = A.MGMT_LOG_IDX then
    (s.updMgmt (fun x => { x with logIdx := setAt x.logIdx m.code (s.rd a) })).clearReg a
  else s

/-- TEST registers: CLEAR acts before START, whose ORIGIN it overrides (R537). A write to the factory trim has no effect
that the spec gives (R536). -/
def State.testEffect (s : State) (a : Nat) (d : Nat) : State :=
  if a = A.TEST_START then s.testStart d
  else if a = A.TEST_CLEAR then s.testClear d
  else if a = A.TEST_CTL then s.when (d.testBit 0) State.testStop
  else if a = A.TEST_YIELD then
    let s := s.keep F.TEST_YIELD_MASK (s.fld F.TEST_YIELD_MASK &&& (blocksPresent s.variant % 2 ^ 16))
    s.keep F.TDM_BIST_CFG_TEST_YIELD (s.fld F.TEST_YIELD_TDM)
  else s

/-! ### Tables -/

/-- The object whose OWNER field a word holds, and the field (R434): its SCP kind and index. -/
def ownerAt (a : Nat) : Option (Nat × Nat × Fld) :=
  let lis := (a - A.TBL_LISTENER_W0 0) / 64
  let tal := (a - A.TBL_TALKER_W0 0) / 64
  let lay := (a - A.TBL_LAY_W0 0) / 32
  let line := (a - A.TBL_PLINE_W0 0) / 64
  if a = A.TBL_LISTENER_W13 lis ∧ lis < 256 then some (1, lis, F.TBL_LISTENER_W13_OWNER lis)
  else if a = A.TBL_TALKER_W13 tal ∧ tal < 256 then some (2, tal, F.TBL_TALKER_W13_OWNER tal)
  else if a = A.TBL_LAY_W1 lay ∧ lay < 64 then some (3, lay, F.TBL_LAY_W1_OWNER lay)
  else if a = A.TBL_PLINE_W7 line ∧ line < 256 then some (4, line, F.TBL_PLINE_W7_OWNER line)
  else none

/-- A hold ends; the end of class 7 acts (R358, R435). -/
def State.dropHold (s : State) (kind idx : Nat) : State :=
  let before := s.class7
  { s with scp := { s.scp with holds := s.scp.holds.filter (fun h => !(h.kind == kind && h.index == idx)) } }.class7Edge before

/-- A local write to an OWNER field ends a class 7 hold on the object (R435). -/
def State.ownerEffect (s : State) (m : Master) (a : Nat) (old : Word) : State :=
  match ownerAt a with
  | none => s
  | some (k, n, f) => if m != .scp && s.chg f old && s.scp.holds.any (fun h => h.kind == k && h.index == n)
      then s.dropHold k n else s

/-- Listener, talker and lay entries (R161, R173 to R175). -/
def State.entryEffect (s : State) (a : Nat) (old : Word) : State :=
  if a < A.TBL_TALKER_W0 0 then s.listenerWrite ((a - A.TBL_LISTENER_W0 0) / 64) (a % 64 / 4) old
  else if a < A.TBL_LAY_W0 0 then s.talkerWrite ((a - A.TBL_TALKER_W0 0) / 64) (a % 64 / 4) old
  else s.layWrite ((a - A.TBL_LAY_W0 0) / 32) (a % 32 / 4) old

/-- Line entries and signatures (R353). -/
def State.lineEffect (s : State) (a : Nat) (old : Word) : State :=
  if a < A.TBL_SIG_MAG 0 0 then
    let n := (a - A.TBL_PLINE_W0 0) / 64
    s.lineWrite n (a % 64 == 0 && s.chg (F.TBL_PLINE_W0_EN n) old)
  else s.sigValid ((a - A.TBL_SIG_MAG 0 0) / 128)

/-- W0 or W1 of a scheduler entry is written: LAST_DAY clears (R466), and an action still refused is no longer retried. -/
def State.schedEffect (s : State) (n : Nat) : State :=
  (s.keep (F.TBL_SCHED_W3_LAST_DAY n) 0).updMgmt (fun m => { m with schedRetry := m.schedRetry.filter (fun r => r.1 != n) })

/-- What follows from a register's new word: `old` is the word before, `d` the command and data bits written, `m` and `priv`
the master that wrote last. -/
def State.regEffect (s : State) (m : Master) (priv : Bool) (a : Nat) (old : Word) (d : Nat) : State :=
  match a / 0x10000 with
  | 0 => s.sysEffect a old d
  | 1 => s.pwrEffect a d
  | 2 => s.ringEffect a old d
  | 4 => s.timeEffect a old d
  | 5 => s.clkEffect a old d
  | 6 => if a = A.STRM_HOLD_CFG then s.holdCfg old else s
  | 7 => if a = A.PLAY_CFG then s.playCfg old else s
  | 8 => s.engEffect a old d
  | 9 => if a = A.XPT_CFG then s.xptCfg else s
  | 10 => s.tdmEffect a old
  | 11 => s.proofEffect a d
  | 12 => s.spliceEffect priv a old d
  | 13 => s.hmqEffect a d
  | 14 => s.mgmtEffect m a d
  | 15 => s.testEffect a d
  | 0x10 => (s.entryEffect a old).ownerEffect m a old
  | 0x12 => s.xptTable a old
  | 0x13 => s.xptTable a old
  | 0x14 => s.xptTable a old
  | 0x15 => s.xptTable a old
  | 0x16 => s.xptTable a old
  | 0x17 => if a < A.TBL_PATH_W0 0 then (s.lineEffect a old).ownerEffect m a old else s
  | 0x19 => if a % 16 < 8 then s.schedEffect ((a - A.TBL_SCHED_W0 0) / 16) else s
  | _ => s

/-- The effect runs whether or not the write changed the word (R579): commands, data ports, the start of a time pulse output,
and the entry checks. (DEDUCED, notes/assumptions/13.md.) -/
def actsAlways (a : Nat) (d : Nat) : Bool :=
  d != 0 || a == A.ENG_IMG_DATA || a == A.MGMT_FW_DATA || (Nat.ble (A.MGMT_KEY_STAGE 0) a && Nat.blt a (A.MGMT_KEY_STAGE 8)) ||
    a == A.MGMT_LOG_IDX || a == A.TIME_TPO_START_NS 0 || a == A.TIME_TPO_START_NS 1 || a == A.TIME_TPO_START_NS 2 ||
    a == A.TIME_TPO_START_NS 3 || (Nat.ble (A.TBL_LISTENER_W0 0) a && Nat.blt a (A.TBL_LAY_W0 0) && a % 64 < 56) ||
    (Nat.ble (A.TBL_PLINE_W0 0) a && Nat.blt a (A.TBL_SIG_MAG 0 0) && a % 64 < 32) ||
    (Nat.ble (A.TBL_SCHED_W0 0) a && Nat.blt a (A.TBL_SCHED_W0 64) && a % 16 < 8) ||
    a == A.RING_PHY_DATA 0 || a == A.RING_PHY_DATA 1 || a == A.RING_PHY_DATA 2

/-- The effects that keep their state rule whatever the power state of the unit (R559). -/
def stateRuled (a : Nat) : Bool :=
  a == A.CLK_MEDIA_CFG || a == A.STRM_HOLD_CFG || a == A.PLAY_CFG || a == A.SPLICE_CFG || a == A.ENG_CFG || a == A.XPT_CFG

end Sys2Proof.Machine
end

