-- ==== Sys2Proof/Machine/Bus.lean ====
section
/-! DEFINITION. Register access, the writing side: what a master's write does, posted writes, same-cycle writes, and the one
read and the one write that every path uses (R414 to R425, R430, R559). -/

namespace Sys2Proof.Machine

/-! ### Landing (R417, R419, R421, R579) -/

/-- The bits an access may write: unprivileged ones leave PRV fields alone. (DEDUCED, notes/assumptions/17.md.) -/
def Row.mayWrite (r : Row) (priv : Bool) : Nat := if priv then 0xFFFFFFFF else clearBits 0xFFFFFFFF r.prv

/-- A write that changes bits to be written back as read: RSV_WR sets, and what those bits hold then is free (R421).
(DESIGN CHOICE, notes/assumptions/11.md.) -/
def State.rsvCheck (s : State) (r : Row) (m : Master) (a w : Nat) : State :=
  let d := (w ^^^ s.rd a) &&& r.rsv
  if d = 0 then s
  else
    let (f, s) := s.free 32
    (s.wr a (clearBits (s.rd a) d ||| (f &&& d))).accFault .rsv m a

/-- The register's new word acts; where its unit is not awake or its block is under test it acts later, and command bits are
ignored (R522, R559). -/
def State.act (s : State) (m : Master) (priv : Bool) (a : Nat) (old : Word) (d : Nat) : State :=
  if s.effectOwed a && !stateRuled a then
    if (s.reg a == old && !actsAlways a 0) || s.bus.owed.any (fun o => o.1 == a) then s
    else { s with bus := { s.bus with owed := s.bus.owed ++ [(a, old)] } }
  else if s.reg a != old || actsAlways a d then s.regEffect m priv a old d
  else s

/-- The words that have not acted yet act, where they now may. (DEDUCED, notes/assumptions/13.md.) -/
def State.actOwed (s : State) : State :=
  let due := s.bus.owed.filter (fun o => !s.effectOwed o.1)
  let s := { s with bus := { s.bus with owed := s.bus.owed.filter (fun o => s.effectOwed o.1) } }
  forL due (fun o s => s.act .mp true o.1 o.2 0) s

/-- A word of the placement is written: it goes to the pending copy (R230, R231). -/
def State.landPend (s : State) (a : Nat) (k w : Nat) : State :=
  let was := ((Sparse.find s.eng.pend a).getD (s.reg a)).toNat
  s.putPend a (clearBits was k ||| (w &&& k))

/-- One cycle's writes of a register land in the order given (R424): RW fields keep the last, W1C bits clear as the union,
and each command bit that any of them sets starts its command once. -/
def State.land (s : State) (a : Nat) (r : Row) (ws : List (Master × Bool × Nat)) : State :=
  let old := s.reg a
  let clr := ws.foldl (fun n x => n ||| (x.2.2 &&& r.w1c &&& r.mayWrite x.2.1)) 0
  let d := ws.foldl (fun n x => n ||| (x.2.2 &&& (r.sc ||| r.wo) &&& r.mayWrite x.2.1)) 0
  let s := s.when (clr != 0) (fun s => s.keepWord a (clearBits (s.rd a) clr))
  let s := forL ws (fun x s => s.rsvCheck r x.1 a x.2.2) s
  let store (x : Master × Bool × Nat) (s : State) : State :=
    let k := clearBits (r.rw &&& r.mayWrite x.2.1) (r.sc ||| r.wo)
    if isPlaceAdr a then s.landPend a k x.2.2 else s.keepWord a (clearBits (s.rd a) k ||| (x.2.2 &&& k))
  let s := forL ws store s
  match ws.getLast? with
  | none => s
  | some x => if isPlaceAdr a then s else s.act x.1 x.2.1 a old d

/-! ### Posted writes (R414, R416) -/

/-- A domain's oldest posted write lands. (DEDUCED, notes/assumptions/12.md.) -/
def State.landPost (s : State) (d : Nat) : State :=
  match s.bus.posts.find? (fun p => p.domain == d) with
  | none => s
  | some p =>
    let i := s.bus.posts.findIdx (fun p => p.domain == d)
    let s := { s with bus := { s.bus with posts := s.bus.posts.eraseIdx i } }
    match rowAt s.variant p.adr with
    | none => s
    | some r => s.land p.adr r [(p.master, p.priv, p.value.toNat)]

/-- Everything posted to a domain lands. -/
def State.drain (s : State) (d : Nat) : State := forN (s.posted d) (fun _ s => s.landPost d) s

/-- A write reaches a slow domain: it is posted, or dropped while the FIFO is full. (DEDUCED, notes/assumptions/12.md.) -/
def State.post (s : State) (d a : Nat) (m : Master) (priv : Bool) (w : Word) : State :=
  if domainDepth d ≤ s.posted d then
    let s := s.when (!s.on F.SYS_POST_STATUS_POST_LOST) (fun s =>
      ((s.set F.SYS_POST_LOST_ADDR_MASTER m.code).set F.SYS_POST_LOST_ADDR_DOMAIN d).set F.SYS_POST_LOST_ADDR_ADDR a)
    (s.set F.SYS_POST_STATUS_POST_LOST 1).event F.SYS_EVT_POST_LOST
  else { s with bus := { s.bus with posts := s.bus.posts ++ [⟨d, a, w, m, priv⟩] } }

/-- The register's writes are posted (R414). -/
def postedAt (a : Nat) (r : Row) : Option Nat := if r.rwp = 0 then none else domainOf a

/-! ### Same-cycle writes (R424, R425) -/

/-- The order in which one cycle's accesses are served. -/
def serveRank : Master → Nat
  | .scp => 0
  | .spi => 1
  | .f1 => 2
  | .f0 => 3
  | .mp => 4

/-- One cycle's writes in the order they are served. (DEDUCED, notes/assumptions/17.md.) -/
def served (ws : List BusWrite) : List BusWrite :=
  ((List.range 5).map (fun k => ws.filter (fun x => serveRank x.m == k))).flatten

/-- Same-cycle writes that differ in an RW field: CONTEND, its event and its count. (DEDUCED, notes/assumptions/17.md.) -/
def State.contend (s : State) (a : Nat) (r : Row) (ws : List (Master × Bool × Nat)) : State :=
  match ws.getLast? with
  | none => s
  | some x =>
    let lost := ws.filter (fun y => (x.2.2 ^^^ y.2.2) &&& r.rw &&& r.mayWrite x.2.1 &&& r.mayWrite y.2.1 != 0)
    if lost.isEmpty then s
    else
      let bit (m : Master) : Nat := if lost.any (fun y => y.1 == m) then 1 else 0
      let s := ((s.wr A.SYS_CONTEND 0).set F.SYS_CONTEND_WINNER x.1.code).set F.SYS_CONTEND_ADDR a
      let s := (s.set F.SYS_CONTEND_LOST_F0 (bit .f0)).set F.SYS_CONTEND_LOST_F1 (bit .f1)
      let s := (s.set F.SYS_CONTEND_LOST_SPI (bit .spi)).set F.SYS_CONTEND_LOST_SCP (bit .scp)
      (s.inc A.SYS_CNT_CONTENDS).event F.SYS_EVT_CONTEND

/-! ### Memory windows -/

/-- A write to core memory (R226); instruction memory is guarded. -/
def State.coreWindow (s : State) (a : Nat) (m : Master) (priv : Bool) (w : Word) : State :=
  let c := (a - 0x200000) / 0x20000
  let off := a % 0x20000
  let imem := Nat.ble 0x10000 off && Nat.blt off 0x18000
  if s.cores ≤ c then s
  else if imem && !priv then s.when (w != 0) (fun s => s.accFault .priv m a)
  else if !s.unitAwake (unitOf a) || !s.blockOk (12 + c / 4) then s
  else s.coreMemWrite a w

/-- A write to bus memory (R577): performed while the EF trigger is stopped. -/
def State.busWindow (s : State) (a : Nat) (w : Word) : State :=
  if s.pwr.trig || !s.unitAwake 2 || !s.blockOk 5 then s
  else (s.putMemWord a w).updStrm (fun x => { x with trues := x.trues.filter (fun t => t.1 != a) })

/-- A write through the delay-memory aperture (R193, R316). -/
def State.apertureWrite (s : State) (a : Nat) (w : Word) : State :=
  match s.apertureAt a with
  | none => s
  | some b => if s.pwr.trig || !s.unitAwake 2 || !s.blockOk 6 then s else s.putMemWord b w

/-- A write to a memory window or the MSI-X structures; none where the address is a register's. -/
def State.windowWrite (s : State) (a : Nat) (m : Master) (priv : Bool) (w : Word) : Option State :=
  if bar2Base ≤ a then some (if m = .f0 then s.bar2Write (a - bar2Base) w else s)
  else if 0xF000 ≤ a ∧ a < 0x10000 then
    some (match pcieFn m with
      | none => s
      | some fn => s.msixWrite fn a w.toNat)
  else if 0x200000 ≤ a ∧ a < 0x400000 then some (s.coreWindow a m priv w)
  else if 0x400000 ≤ a ∧ a < 0x800000 then some (s.busWindow a w)
  else if 0x800000 ≤ a ∧ a < 0x1000000 then some (s.apertureWrite a w)
  else none

/-! ### The write -/

/-- One cycle's writes of one word address, as they come from their masters (R418, R419, R424). -/
def State.busWrites (s : State) (a : Nat) (ws : List BusWrite) : State :=
  let (good, bad) := (served ws).partition (fun x => a % 4 == 0 && x.be % 16 == 15)
  let s := forL bad (fun x s => s.accFault .err x.m a) s
  let good := good.map (fun x => (x.m, s.masterPriv x.m x.priv, x.w.toNat))
  match rowAt s.variant a with
  | none => forL good (fun x s => (s.windowWrite a x.1 x.2.1 (BitVec.ofNat 32 x.2.2)).getD s) s
  | some r =>
    let s := forL good (fun x s => s.when (!x.2.1 && x.2.2 &&& r.prv != 0) (fun s => s.accFault .priv x.1 a)) s
    match postedAt a r with
    | some d => forL good (fun x s => s.post d a x.1 x.2.1 (BitVec.ofNat 32 x.2.2)) s
    | none => if good.isEmpty then s else (s.contend a r good).land a r good

/-- What an SCP reply says of a write it makes alone (R431): the ACC_STATUS bits it sets, or that it is lost. -/
def State.writeCode (s : State) (a : Nat) (priv : Bool) (w : Nat) : Nat :=
  if a % 4 ≠ 0 then AccBit.err.mask
  else match rowAt s.variant a with
    | none =>
      let imem := 0x200000 ≤ a ∧ a < 0x400000 ∧ 0x10000 ≤ a % 0x20000 ∧ a % 0x20000 < 0x18000
      if imem ∧ priv = false ∧ w ≠ 0 ∧ (a - 0x200000) / 0x20000 < s.cores then AccBit.priv.mask else 0
    | some r =>
      let p := if !priv && w &&& r.prv != 0 then AccBit.priv.mask else 0
      match postedAt a r with
      | some d => if domainDepth d ≤ s.posted d then 0x10000 else p
      | none => p ||| (if (w ^^^ s.rd a) &&& r.rsv = 0 then 0 else AccBit.rsv.mask)

/-- A write by one master, whole. -/
def State.busWrite (s : State) (m : Master) (priv : Bool) (a : Nat) (w : Word) : State := s.busWrites a [⟨m, priv, 15, w⟩]

/-- A write by one master that lands at once, after all that was posted before it. (DEDUCED, notes/assumptions/12.md.) -/
def State.writeThrough (s : State) (a : Nat) (x : BusWrite) : State :=
  let s := s.busWrites a [x]
  match domainOf a with
  | none => s
  | some d => s.drain d

/-! ### The read -/

/-- A read of a memory window or the MSI-X structures; none where the address is a register's. -/
def State.windowRead (s : State) (a : Nat) (m : Master) : Option Nat :=
  if bar2Base ≤ a then some (if m = .f0 then s.bar2Read (a - bar2Base) else 0)
  else if 0xF000 ≤ a ∧ a < 0x10000 then
    some (match pcieFn m with
      | none => 0
      | some fn => s.msixRead fn a)
  else if 0x200000 ≤ a ∧ a < 0x400000 then
    let c := (a - 0x200000) / 0x20000
    some (if s.cores ≤ c || !s.unitAwake (unitOf a) || !s.blockOk (12 + c / 4) then 0 else s.coreMemRead a)
  else if 0x400000 ≤ a ∧ a < 0x800000 then some (if s.unitAwake 2 then s.busMemRead a else 0)
  else if 0x800000 ≤ a ∧ a < 0x1000000 then some (if s.unitAwake 2 then s.apertureRead a else 0)
  else none

/-- A master's read of a word (R416, R418, R419): the word and the state after. -/
def State.busGet (s : State) (m : Master) (scpPriv : Bool) (a : Nat) : Nat × State :=
  if a % 4 ≠ 0 then (0, s.accFault .err m a)
  else
    let s := match domainOf a with
      | none => s
      | some d => s.drain d
    match rowAt s.variant a with
    | some r => s.regRead m (s.masterPriv m scpPriv) a r
    | none => ((s.windowRead a m).getD 0, s)

/-- A master's read, whose word `resp` then holds. -/
def State.busRead (s : State) (m : Master) (scpPriv : Bool) (a : Nat) : State :=
  let (w, s) := s.busGet m scpPriv a
  { s with resp := setAt s.resp m.code (BitVec.ofNat 32 w) }

end Sys2Proof.Machine
end

