-- ==== Sys2Proof/Machine/Boot.lean ====
section
/-! DEFINITION. The start: the boot ROM, Yunasel's start and the configuration, staging and its failures, the start-up tests'
end, entry to READY, and the ends of a QUIET entry and of a wake (R14 to R20, R463, R477, R484 to R487, R495, R504 to R511, R524,
R578). -/

namespace Sys2Proof.Machine

/-! ### The boot ROM (R399, R493 to R495) -/

/-- The reason a bank fails its check at a start (R492). -/
def State.bankWhy (s : State) (b : Bool) : Nat := if (s.bank b).invalid || !(s.bank b).sigOk then 3 else 4

/-- The bank starts; on trial where its activation was pending. (DEDUCED, notes/assumptions/22.md.)
(DEDUCED, notes/assumptions/73.md.) -/
def State.bankStart (s : State) (b trial : Bool) : State :=
  let s := (s.setB F.SYS_STATUS_BANK b).setB F.SYS_STATUS_TRIAL trial
  let s := s.updFw (fun f => { f with
    bank := b, trial := trial, next := false, left := if trial then s.time.up + 600 * secU else 0 })
  let s := s.updPwr (fun p => { p with fwVerified := true })
  let s := if trial then (s.set F.MGMT_FW_STATUS_STATE 6).trialLog 1 0 else s
  match s.fw.rolled with
  | none => s.fwInfo
  | some why =>
    let s := ((s.set F.SYS_STATUS_ROLLED_BACK 1).event F.MGMT_EVT_ROLLED_BACK).trialLog 3 why
    ((s.set F.MGMT_FW_STATUS_STATE 3).updFw (fun f => { f with rolled := none })).fwInfo

/-- The boot ROM runs after every RESET: it samples the straps and starts the default bank, or the pending trial bank; the other
bank where that one fails. (DEDUCED, notes/assumptions/22.md.) -/
def State.bootRom (s : State) (hostPriv strap : Bool) : State :=
  if !s.pwr.powered || s.modState != stReset || s.pwr.fwVerified || s.pwr.thermal || s.mgmt.bootFailed then s
  else
    let s := ((s.setB F.SYS_ACC_STATUS_SPI_PRIV hostPriv).setB F.SPLICE_STATUS_STRAP strap).auxFollow
    let f := s.fw
    let b := if f.next then !f.dflt else f.dflt
    if s.bankOk b then s.bankStart b f.next
    else
      let s := s.log 17 0x30 2 [(s.bank b).version, (s.bank b).rollback, s.bankWhy b]
      if s.bankOk (!b) then s.bankStart (!b) false
      else s.updMgmt (fun m => { m with bootFailed := true })

/-! ### Yunasel's start (R463, R477, R484 to R487) -/

/-- The lifetime counters of the newer valid copy are loaded, with what has been counted since power-up.
(DESIGN CHOICE, notes/assumptions/21.md.) -/
def State.lifeLoad (s : State) : State :=
  let m := s.mgmt
  let a := m.lifeA
  let b := m.lifeB
  let second := b.ok && (!a.ok || a.gen < b.gen)
  let (counts, sat) := if second then (b.counts, b.sat) else if a.ok then (a.counts, a.sat) else (List.replicate 23 0, 0)
  let s := s.updMgmt (fun m => { m with life := List.replicate 23 0, lifeSat := 0, lifeNext := !second && a.ok })
  let s := forN 23 (fun k s => s.life k (getAt counts k 0 + getAt m.life k 0)) s
  (s.updMgmt (fun x => { x with lifeSat := x.lifeSat ||| sat ||| m.lifeSat })).life 1 1

/-- The RTC at power-up (R463), or as it stands at a later start. -/
def State.rtcStart (s : State) : State :=
  if s.mgmt.started then
    (s.setB F.MGMT_RTC_STATUS_HELD s.mgmt.rtcHeld).set F.MGMT_RTC_STATUS_SRC (if s.mgmt.rtcKnown then 1 else 0)
  else if s.mgmt.rtcHeld then
    ((s.set F.MGMT_RTC_STATUS_HELD 1).set F.MGMT_RTC_STATUS_SRC 1).updMgmt (fun m => { m with timeQuality := 1 })
  else
    let s := ((s.set F.MGMT_RTC_STATUS_HELD 0).set F.MGMT_RTC_STATUS_SRC 0).updMgmt (fun m => { m with
      rtcSec := 0, rtcTick := 0 })
    ((s.event F.MGMT_EVT_TIME_GAP).log 17 2 2 []).updMgmt (fun m => { m with timeQuality := 2 })

/-- The installer-key region is judged (R487). -/
def State.keyStart (s : State) : State :=
  match s.keyInForce with
  | none => (s.set F.SYS_STATUS_KEY_FAIL 1).set F.MGMT_KEY_STATUS_VALID 0
  | some (_, c) => (s.set F.MGMT_KEY_STATUS_VALID 1).set F.MGMT_KEY_STATUS_VERSION (c.version % 65536)

/-- The slot passes its checks, in a format this firmware reads (R480, R484). -/
def CfgSlot.valid (x : CfgSlot) : Bool :=
  x.magic && x.good && Nat.ble x.format 1 && Nat.ble 8 x.length && Nat.ble x.length 1048576

/-- The slot loaded (true for B), or none under factory defaults; and whether it is a fallback. -/
def State.chooseSlot (s : State) : Option Bool × Bool :=
  let a := s.mgmt.slotA
  let b := s.mgmt.slotB
  let d := (b.gen + 2 ^ 32 - a.gen % 2 ^ 32) % 2 ^ 32
  if a.valid && b.valid then (some (Nat.ble 1 d && Nat.blt d (2 ^ 31)), false)
  else if a.valid then (some false, b.magic)
  else if b.valid then (some true, a.magic)
  else (none, false)

/-- A configured word is written during start-up: its effects are those of a write on a register just out of RESET. -/
def State.cfgPut (s : State) (a : Nat) (w : Word) : State :=
  let m := BitVec.ofNat 32 (cfgMask s.variant a)
  let full (x : Word) : Word := (w &&& m) ||| (x &&& ~~~m)
  let s := (s.putReg a (full (s.reg a))).act .mp true a (resetWord s.variant a) 0
  if s.reg a &&& m = w &&& m then s
  else
    let old := s.reg a
    (s.putReg a (full old)).act .mp true a old 0

/-- The address is a table word's. -/
def isTable (a : Nat) : Bool := Nat.ble 0x100000 a && Nat.blt a 0x200000

/-- The address is a lay's: written before the listeners that name it. -/
def isLay (a : Nat) : Bool := Nat.ble (A.TBL_LAY_W0 0) a && Nat.blt a (A.TBL_LMAP 0 0)

/-- A unit's registers and tables take their configured values (R578): whatever was written to them before is overwritten, and
a table's words all stand before its entries are judged. (DEDUCED, notes/assumptions/22.md.) -/
def State.landUnit (s : State) (u : Nat) : State :=
  let cfg := (s.chooseSlot.1.map (fun b => (s.cfgSlot b).regs)).getD []
  let mine := cfg.filter (fun c => unitOf c.1 == u)
  let stale := s.regs.filter (fun c => unitOf c.1 == u && cfgMask s.variant c.1 != 0 && !cfg.any (fun x => x.1 == c.1))
  let s := { s with bus := { s.bus with owed := s.bus.owed.filter (fun o => unitOf o.1 != u) } }
  let s := forL stale (fun c s =>
    let m := BitVec.ofNat 32 (cfgMask s.variant c.1)
    let w := (resetWord s.variant c.1 &&& m) ||| (c.2 &&& ~~~m)
    if w = c.2 then s else s.putReg c.1 w) s
  let tables := mine.filter (fun c => isTable c.1)
  let s := forL tables (fun c s =>
    let m := BitVec.ofNat 32 (cfgMask s.variant c.1)
    s.putReg c.1 ((c.2 &&& m) ||| (s.reg c.1 &&& ~~~m))) s
  let order := mine.filter (fun c => !isTable c.1) ++ tables.filter (fun c => isLay c.1) ++ tables.filter (fun c => !isLay c.1)
  forL order (fun c s => s.cfgPut c.1 c.2) s

/-- Yunasel starts and loads the configuration. -/
def State.firmwareStart (s : State) : State :=
  if !s.pwr.powered || s.modState != stReset || !s.pwr.fwVerified || s.pwr.cfgLoaded then s
  else
    let s := s.when (!s.mgmt.started) State.lifeLoad
    let s := s.rtcStart.keyStart
    let f := s.fw
    let n (b : Bool) : Nat := if b then 1 else 0
    let s := s.log 17 1 1 [s.fld F.SYS_MOD_STATE_LAST_CAUSE, (s.bank f.bank).version, n f.bank, n f.trial]
    let (slot, fallback) := s.chooseSlot
    let b := slot.getD false
    let x := if slot.isSome then s.cfgSlot b else Mgmt.blankSlot
    let s := ((s.setB F.SYS_STATUS_CFG_FALLBACK fallback).setB F.SYS_STATUS_CFG_DEFAULT slot.isNone)
    let s := (s.setB F.MGMT_CFG_STATUS_SLOT b).wr A.MGMT_CFG_GEN x.gen
    let s := s.log 17 0x10 (if slot.isNone then 3 else 1) [n b, x.gen, n fallback, n slot.isNone]
    let first := !s.mgmt.started
    let s := s.updMgmt (fun m => { m with
      settings := x.settings, image := x.image, imageCert := false, started := true
      retiredBlocks := if first then x.retiredBlocks else m.retiredBlocks
      retiredLines := if first then x.retiredLines else m.retiredLines
      retiredCores := if first then x.retiredCores else m.retiredCores
      fw := { m.fw with slot := if slot.isSome then !b else false } })
    let s := s.updPwr (fun p => { p with cfgLoaded := true, retiredUnits := if first then x.retiredUnits else p.retiredUnits })
    let s := (s.wr A.TEST_RETIRED s.mgmt.retiredBlocks).set F.PWR_UNIT_STATUS_FAILED s.pwr.retiredUnits
    ((s.wr A.MGMT_ROLLBACK s.mgmt.rollback).wr A.MGMT_LOG_NEWEST (match s.mgmt.log with
      | [] => 0
      | r :: _ => (getAt r 0 0).toNat)).landUnit 0

/-! ### Staging (R504 to R507) -/

/-- The staging order. -/
def stageOrder : List Nat := [1, 2, 7, 3, 4, 5, 6, 8, 9, 10, 11, 12, 13, 14]

/-- The unit is staged at a start: present, enabled and not retired. -/
def State.unitStages (s : State) (u : Nat) : Bool :=
  unitPresent s.variant u && (s.fld F.PWR_UNIT_EN_UNIT).testBit (u - 1) && !s.pwr.retiredUnits.testBit u

/-- The units of the staging order after one. -/
def unitsAfter (u : Nat) : List Nat := if u = 0 then stageOrder else (stageOrder.dropWhile (fun x => x != u)).tail

/-- The stored image is installed under R293 at a start: a failing one leaves the module short of READY (R484, R578). -/
def State.imgStored (s : State) : State :=
  let img := s.mgmt.image
  if img.isEmpty then s
  else
    let id := imgId img
    let why := s.imageWhy img
    match rateBlockOf (imgCert img) (s.fld F.CLK_MEDIA_CFG_RATE), why with
    | some b, 0 =>
      let (why, placed, dropped, s) := s.imgPlan img b false
      if why ≠ 0 ∧ why ≠ 0x10 then s.log 8 3 2 [id, 6, why]
      else
        let s := s.clearRegs (A.ENG_DESC_W0 0) (A.ENG_DESC_W0 64)
        let s := ((s.imgWrite img b placed).imgTables img).commitPlacement 0 dropped
        (s.imgInstalled img).log 8 3 1 [id, 5, 0]
    | none, 0 => s.log 8 3 2 [id, 6, 7]
    | _, n => s.log 8 3 2 [id, 6, n]

/-- The start-up tests have ended once the queue is empty and no block is under test or being re-initialised: the stored image
is installed, and under factory defaults FAULT_N pulses (R485, R524, R533). -/
def State.startupEnd (s : State) : State :=
  if s.test.startup && !s.test.startupDone && s.rd A.TEST_QUEUED == 0 && s.test.running.isNone && s.test.reinit.isNone then
    let s := (s.updTest (fun t => { t with startupDone := true })).imgStored
    s.when (s.on F.SYS_STATUS_CFG_DEFAULT) (fun s => s.updPwr (fun p => { p with defaultPulse := true }))
  else s

/-- The last unit has staged: the start-up tests are queued (R524). -/
def State.startupTests (s : State) : State :=
  let s := forN 32 (fun b s => s.when (blockPresent s.variant b && s.unitOn (blockUnit b) && !(s.rd A.TEST_RETIRED).testBit b)
    (fun s => s.testQueue b 1)) s
  (s.updTest (fun t => { t with startup := true })).startupEnd

/-- The next unit starts, or staging has ended. -/
def State.stageNext (s : State) (after : Nat) : State :=
  match (unitsAfter after).find? s.unitStages with
  | some u => s.updPwr (fun p => { p with stagingUnit := some u, stagePg := false, stageInt := false })
  | none => (s.updPwr (fun p => { p with stagingUnit := none })).startupTests

/-- The next unit starts at the later of the interval's end and the power-good of the one before. -/
def State.stageStep (s : State) : State :=
  match s.pwr.stagingUnit with
  | none => s
  | some u => if s.pwr.stagePg && s.pwr.stageInt then s.stageNext u else s

/-- Conditions of R504 to enter STAGING. -/
def State.mayStage (s : State) : Bool :=
  s.pwr.powered && s.modState == stReset && s.pwr.cfgLoaded && !s.on F.PWR_STATUS_LOW_BUDGET && s.on F.PWR_STATUS_HOLD_ARMED &&
    !s.pwr.stageWait && !s.pwr.thermal && !s.pwr.stagePermanent

/-- STAGING begins. -/
def State.stagingStart (s : State) : State :=
  if s.mayStage then (s.enterState stStaging (s.fld F.SYS_MOD_STATE_LAST_CAUSE)).stageNext 0 else s

/-- What a unit's blocks do as it powers up: U7 starts CLK, U3 loads the time base from the RTC (R72), a cluster's cores await
their tests (R232), and U14 starts SPLICE. -/
def State.unitStart (s : State) (u : Nat) : State :=
  if u = 7 then s.clkStart
  else if u = 3 then
    let known := s.fld F.MGMT_RTC_STATUS_SRC != 0
    s.updTime (fun t => { t with tb := if known then s.mgmt.rtcSec * secU + s.mgmt.rtcTick else 0 })
  else if 8 ≤ u ∧ u ≤ 11 then
    forN 4 (fun k s =>
      let c := 4 * (u - 8) + k
      match s.mgmt.retiredCores.find? (fun r => r.1 == c) with
      | some r => (s.set (F.ENG_CORE_STATUS_STATE c) 6).set (F.ENG_CORE_STATUS_CAUSE c) r.2
      | none => s.set (F.ENG_CORE_STATUS_STATE c) 1) s
  else if u = 14 then s.spliceStart
  else s

/-- The unit reports power-good: it is powered and takes its configuration. -/
def State.unitGood (s : State) (u : Nat) : State :=
  let s := (s.setBit F.PWR_UNIT_STATUS_POWERED u true).unitStart u
  (s.landUnit u).actOwed

/-- Power-good of the unit that stages, or of one retried alone, whose blocks are then tested. -/
def State.powerGood (s : State) (u : Nat) : State :=
  if s.modState == stStaging && s.pwr.stagingUnit == some u && !s.pwr.stagePg then
    ((s.unitGood u).updPwr (fun p => { p with stagePg := true })).stageStep
  else if s.pwr.unitTry == some u then
    let s := (s.updPwr (fun p => { p with unitTry := none, unitFails := p.unitFails.filter (fun x => x.1 != u) })).unitGood u
    let s := s.setBit F.PWR_UNIT_STATUS_FAILED u false
    forN 32 (fun b s => s.when (blockPresent s.variant b && blockUnit b == u && !(s.rd A.TEST_RETIRED).testBit b)
      (fun s => s.testQueue b 1)) s
  else s

/-- A unit whose failure stops the whole start (R506). -/
def vitalUnit (u : Nat) : Bool := u == 1 || u == 2 || u == 7 || u == 3

/-- The start fails: the module stays in RESET, and the fourth failure in a row is permanent. -/
def State.stageFail (s : State) (u : Nat) : State :=
  let n := s.pwr.stageFails + 1
  let s := s.enterReset (s.fld F.SYS_MOD_STATE_LAST_CAUSE) 1
  let s := ((s.setBit F.PWR_UNIT_STATUS_FAILED u true).event F.PWR_EVT_UNIT_FAIL).set F.PWR_STATUS_STAGE_FAIL 1
  (s.event F.PWR_EVT_STAGE_FAIL).updPwr (fun p => { p with
    stageFails := n, stagePermanent := Nat.ble 4 n, stageWait := Nat.blt n 4 })

/-- A unit's failures count; the fourth in a row retires it. (DEDUCED, notes/assumptions/25.md.) -/
def State.unitFail (s : State) (u : Nat) : State :=
  let n := (Sparse.find s.pwr.unitFails u).getD 0 + 1
  let s := (s.setBit F.PWR_UNIT_STATUS_FAILED u true).event F.PWR_EVT_UNIT_FAIL
  let rest := s.pwr.unitFails.filter (fun x => x.1 != u)
  if 4 ≤ n then (s.updPwr (fun p => { p with unitFails := rest, retiredUnits := p.retiredUnits ||| 2 ^ u })).requestSave
  else s.updPwr (fun p => { p with unitFails := Sparse.insert u n rest })

/-- No power-good within 2 ms: the unit is switched off (R506). -/
def State.powerBad (s : State) (u : Nat) : State :=
  if s.modState == stStaging && s.pwr.stagingUnit == some u && !s.pwr.stagePg then
    if vitalUnit u then s.stageFail u
    else ((s.unitFail u).updPwr (fun p => { p with stagePg := true })).stageStep
  else if s.pwr.unitTry == some u then (s.updPwr (fun p => { p with unitTry := none })).unitFail u
  else s

/-- A retry falls due: the whole start's (unit 0), or a unit's alone while the module runs.
(DEDUCED, notes/assumptions/25.md.) -/
def State.stageRetry (s : State) (u : Nat) : State :=
  if u = 0 then
    s.when s.pwr.stageWait (fun s => (s.updPwr (fun p => { p with stageWait := false })).set F.PWR_STATUS_STAGE_FAIL 0)
  else if Nat.ble 3 s.modState && (Sparse.find s.pwr.unitFails u).isSome && s.pwr.unitTry.isNone then
    s.updPwr (fun p => { p with unitTry := some u })
  else s

/-! ### READY (R14, R20, R39, R292) -/

/-- The image lets the module enter READY: none is stored, or the stored one is installed and passes for the rate now. -/
def State.imageReady (s : State) : Bool := s.mgmt.image.isEmpty || (s.mgmt.imageCert && s.rateWhy s.mgmt.image == 0)

/-- The module enters READY from STAGING; a RUN held so far executes, and automatic start writes one. -/
def State.readyEntry (s : State) : State :=
  if s.modState == stStaging && s.test.startupDone && s.imageReady then
    let s := (s.enterState stReady (s.fld F.SYS_MOD_STATE_LAST_CAUSE)).joinPolicy
    if s.on F.SYS_MOD_STATE_CMD_PEND then s.modRun s.pwr.heldCause
    else if s.mgmt.settings.autoStart then s.modRun 6 else s
  else if s.modState == stStaging && s.test.startupDone then s.updMgmt (fun m => { m with imageCert := false })
  else s

/-- What held a RUN may have gone (R19, R527). -/
def State.runRelease (s : State) : State :=
  s.when (s.on F.SYS_MOD_STATE_CMD_PEND && (s.modState == stReady || s.modState == stQuiet)) (fun s => s.modRun s.pwr.heldCause)

/-! ### QUIET and the wake (R509 to R511) -/

/-- The units reach their QUIET condition once the trigger has stopped: U12 is off. -/
def State.quietDone (s : State) : State :=
  if s.modState == stQuiet && s.pwr.quietEntry && !s.pwr.trig then
    let s := (s.updPwr (fun p => { p with quietEntry := false })).setBit F.PWR_UNIT_STATUS_POWERED 12 false
    s.tdmOff
  else s

/-- The units are back from QUIET: U12 has restaged, and the EF trigger starts, unless a READY abandoned the wake.
(DESIGN CHOICE, notes/assumptions/23.md.) -/
def State.wakeDone (s : State) : State :=
  if s.pwr.wake || s.pwr.readyReturn then
    let start := s.pwr.wake
    let s := s.updPwr (fun p => { p with wake := false, readyReturn := false })
    let s := (s.when (s.unitStages 12 && !(s.fld F.PWR_UNIT_STATUS_FAILED).testBit 12) (fun s =>
      s.setBit F.PWR_UNIT_STATUS_POWERED 12 true)).actOwed
    s.when start (fun s => (s.setTrigger true).tdmAllSilent)
  else s

/-! ### The commands -/

/-- BOOT_ROM_START (R399, R495): HOST_PRIV and the splice role strap as sampled. -/
def execBootRomStart (hostPriv strap : Bool) (s : State) : Result := s.run fun s => s.bootRom hostPriv strap

/-- FIRMWARE_START (R484, R578). -/
def execFirmwareStart (s : State) : Result := s.run State.firmwareStart

/-- STAGING_START (R504). -/
def execStagingStart (s : State) : Result := s.run State.stagingStart

/-- UNIT_POWER_GOOD (R505). -/
def execUnitPowerGood (u : Nat) (s : State) : Result := s.runIf (unitPresent s.variant u) fun s => s.powerGood u

/-- STAGE_INTERVAL_EXPIRY (R505). -/
def execStageIntervalExpiry (s : State) : Result := s.run fun s =>
  s.when s.pwr.stagingUnit.isSome (fun s => (s.updPwr (fun p => { p with stageInt := true })).stageStep)

/-- UNIT_POWER_GOOD_TIMEOUT (R506). -/
def execUnitPowerGoodTimeout (u : Nat) (s : State) : Result := s.runIf (unitPresent s.variant u) fun s => s.powerBad u

/-- STAGE_RETRY_TIMER (R506): of the whole start (0) or of a unit. -/
def execStageRetryTimer (u : Nat) (s : State) : Result := s.run fun s => s.stageRetry u

/-- READY_ENTRY (R20, R292). -/
def execReadyEntry (s : State) : Result := s.run State.readyEntry

/-- RUN_HOLD_RELEASE (R19). -/
def execRunHoldRelease (s : State) : Result := s.run State.runRelease

/-- QUIET_ENTRY_COMPLETE (R509). -/
def execQuietEntryComplete (s : State) : Result := s.run State.quietDone

/-- WAKE_RESTAGE_COMPLETE (R511). -/
def execWakeRestageComplete (s : State) : Result := s.run State.wakeDone

/-- CFG_DEFAULT_FAULT_PULSE_END (R485, R533). -/
def execCfgDefaultFaultPulseEnd (s : State) : Result := s.run fun s => s.updPwr (fun p => { p with defaultPulse := false })

end Sys2Proof.Machine
end

