-- ==== Sys2Proof/Machine/Sha.lean ====
section
/-! DEFINITION. SHA-256 and HMAC-SHA-256 over bytes, which the tags and session keys of SCP are made with (R428, R429). The spec
names the algorithm and does not state it: it is that of FIPS 180-4 and RFC 2104 (PRESUMED, notes/assumptions/66.md). Words are
numbers below 2^32. -/

namespace Sys2Proof.Machine

/-- The four bytes of a 32-bit number, the most significant first. -/
def be32 (n : Nat) : List Nat := [n / 2 ^ 24 % 256, n / 2 ^ 16 % 256, n / 256 % 256, n % 256]

/-- The sum of two words. -/
def shaAdd (x y : Nat) : Nat := Nat.mod (Nat.add x y) 4294967296

/-- A word rotated right. -/
def shaRotr (x n : Nat) : Nat :=
  Nat.lor (Nat.shiftRight x n) (Nat.mod (Nat.shiftLeft x (Nat.sub 32 n)) 4294967296)

/-- The 64 round constants. -/
def shaK : List Nat :=
  [0x428a2f98, 0x71374491, 0xb5c0fbcf, 0xe9b5dba5, 0x3956c25b, 0x59f111f1, 0x923f82a4, 0xab1c5ed5] ++
  [0xd807aa98, 0x12835b01, 0x243185be, 0x550c7dc3, 0x72be5d74, 0x80deb1fe, 0x9bdc06a7, 0xc19bf174] ++
  [0xe49b69c1, 0xefbe4786, 0x0fc19dc6, 0x240ca1cc, 0x2de92c6f, 0x4a7484aa, 0x5cb0a9dc, 0x76f988da] ++
  [0x983e5152, 0xa831c66d, 0xb00327c8, 0xbf597fc7, 0xc6e00bf3, 0xd5a79147, 0x06ca6351, 0x14292967] ++
  [0x27b70a85, 0x2e1b2138, 0x4d2c6dfc, 0x53380d13, 0x650a7354, 0x766a0abb, 0x81c2c92e, 0x92722c85] ++
  [0xa2bfe8a1, 0xa81a664b, 0xc24b8b70, 0xc76c51a3, 0xd192e819, 0xd6990624, 0xf40e3585, 0x106aa070] ++
  [0x19a4c116, 0x1e376c08, 0x2748774c, 0x34b0bcb5, 0x391c0cb3, 0x4ed8aa4a, 0x5b9cca4f, 0x682e6ff3] ++
  [0x748f82ee, 0x78a5636f, 0x84c87814, 0x8cc70208, 0x90befffa, 0xa4506ceb, 0xbef9a3f7, 0xc67178f2]

/-- The eight working words. -/
structure ShaRegs where
  a : Nat
  b : Nat
  c : Nat
  d : Nat
  e : Nat
  f : Nat
  g : Nat
  h : Nat
  deriving DecidableEq, Repr

/-- The initial hash value. -/
def shaInit : ShaRegs :=
  ⟨0x6a09e667, 0xbb67ae85, 0x3c6ef372, 0xa54ff53a, 0x510e527f, 0x9b05688c, 0x1f83d9ab, 0x5be0cd19⟩

/-- One round. -/
def shaRound (r : ShaRegs) (k w : Nat) : ShaRegs :=
  let s1 := Nat.xor (shaRotr r.e 6) (Nat.xor (shaRotr r.e 11) (shaRotr r.e 25))
  let ch := Nat.xor (Nat.land r.e r.f) (Nat.land (Nat.sub 4294967295 r.e) r.g)
  let t1 := Nat.add r.h (Nat.add s1 (Nat.add ch (Nat.add k w)))
  let s0 := Nat.xor (shaRotr r.a 2) (Nat.xor (shaRotr r.a 13) (shaRotr r.a 22))
  let mj := Nat.xor (Nat.land r.a r.b) (Nat.xor (Nat.land r.a r.c) (Nat.land r.b r.c))
  ⟨shaAdd t1 (Nat.add s0 mj), r.a, r.b, r.c, shaAdd r.d t1, r.e, r.f, r.g⟩

/-- The word at a place of a list, zero beyond it. -/
def shaGet : List Nat → Nat → Nat
  | [], _ => 0
  | x :: _, 0 => x
  | _ :: t, n + 1 => shaGet t n

/-- The message schedule grows by n words; the newest word comes first. -/
def shaSched : Nat → List Nat → List Nat
  | 0, w => w
  | n + 1, w =>
    let x := shaGet w 14
    let y := shaGet w 1
    let s0 := Nat.xor (shaRotr x 7) (Nat.xor (shaRotr x 18) (Nat.shiftRight x 3))
    let s1 := Nat.xor (shaRotr y 17) (Nat.xor (shaRotr y 19) (Nat.shiftRight y 10))
    shaSched n (shaAdd (shaGet w 15) (Nat.add s0 (Nat.add (shaGet w 6) s1)) :: w)

/-- The rounds of a block. -/
def shaRounds : List Nat → List Nat → ShaRegs → ShaRegs
  | k :: ks, w :: ws, r => shaRounds ks ws (shaRound r k w)
  | _, _, r => r

/-- A block of 16 words joins the hash. -/
def shaBlock (h : ShaRegs) (ws : List Nat) : ShaRegs :=
  let r := shaRounds shaK (shaSched 48 ws.reverse).reverse h
  ⟨shaAdd h.a r.a, shaAdd h.b r.b, shaAdd h.c r.c, shaAdd h.d r.d, shaAdd h.e r.e, shaAdd h.f r.f, shaAdd h.g r.g, shaAdd h.h r.h⟩

/-- n words of a byte string, the most significant byte of each first. -/
def shaWords : Nat → List Nat → List Nat
  | 0, _ => []
  | n + 1, a :: b :: c :: d :: t => (((a * 256 + b) * 256 + c) * 256 + d) :: shaWords n t
  | _ + 1, _ => []

/-- n blocks of 64 bytes join the hash. -/
def shaBlocks : Nat → List Nat → ShaRegs → ShaRegs
  | 0, _, h => h
  | n + 1, bs, h => shaBlocks n (bs.drop 64) (shaBlock h (shaWords 16 bs))

/-- SHA-256 of a byte string, as 32 bytes. -/
def sha256 (bs : List Nat) : List Nat :=
  let n := bs.length
  let z := (119 - n % 64) % 64
  let h := shaBlocks ((n + 9 + z) / 64) (bs ++ [128] ++ List.replicate z 0 ++ be32 (8 * n / 2 ^ 32) ++ be32 (8 * n)) shaInit
  [h.a, h.b, h.c, h.d, h.e, h.f, h.g, h.h].flatMap be32

/-- HMAC-SHA-256 of a byte string under a key of at most 64 bytes. -/
def hmac (key bs : List Nat) : List Nat :=
  let k := key ++ List.replicate (64 - key.length) 0
  sha256 (k.map (Nat.xor 0x5c) ++ sha256 (k.map (Nat.xor 0x36) ++ bs))

end Sys2Proof.Machine
end

