-- ==== Sys2Proof/Machine/Scp.lean ====
section
/-! DEFINITION. Skonum control: sessions, messages and replies, objects and their owners, class 7 holds, apply-at commands, and
log reports (R427 to R435, R475). -/

namespace Sys2Proof.Machine

/-! ### Reply codes (R431) -/

def scpOk : Nat := 0
def scpSuperseded : Nat := 1
def scpOwned : Nat := 2
def scpLate : Nat := 4
def scpFull : Nat := 5
def scpBad : Nat := 6
def scpPartial : Nat := 7

/-- The reply word of a word that is not writable in its object. -/
def scpNotWritable : Nat := 0x20000

/-- Update the control protocol's state. -/
def State.updScp (s : State) (f : ScpS → ScpS) : State := { s with scp := f s.scp }

/-! ### Objects (R428, R434) -/

/-- The first word of an object's table entry; TDM ports have their own form. -/
def objBase (kind n : Nat) : Nat :=
  if kind = 1 then A.TBL_LISTENER_W0 n else if kind = 2 then A.TBL_TALKER_W0 n
  else if kind = 3 then A.TBL_LAY_W0 n else A.TBL_PLINE_W0 n

/-- How many words an object's entry has. -/
def objWords (kind : Nat) : Nat := if kind = 3 then 8 else 16

/-- The module has the object. -/
def State.objHere (s : State) (kind n : Nat) : Bool :=
  if kind = 5 then decide (n < s.tdmPorts)
  else if kind = 1 ∨ kind = 2 ∨ kind = 4 then decide (n < 256) && (rowAt s.variant (objBase kind n)).isSome
  else if kind = 3 then decide (n < s.lays)
  else false

/-- The object whose entry holds an address. -/
def objAt (a : Nat) : Option (Nat × Nat) :=
  let o := a - A.TDM_PORT_CFG 0
  if A.TBL_LISTENER_W0 0 ≤ a ∧ a < A.TBL_LISTENER_W0 256 then some (1, (a - A.TBL_LISTENER_W0 0) / 64)
  else if A.TBL_TALKER_W0 0 ≤ a ∧ a < A.TBL_TALKER_W0 256 then some (2, (a - A.TBL_TALKER_W0 0) / 64)
  else if A.TBL_LAY_W0 0 ≤ a ∧ a < A.TBL_LAY_W0 64 then some (3, (a - A.TBL_LAY_W0 0) / 32)
  else if A.TBL_PLINE_W0 0 ≤ a ∧ a < A.TBL_PLINE_W0 256 then some (4, (a - A.TBL_PLINE_W0 0) / 64)
  else if A.TDM_PORT_CFG 0 ≤ a ∧ o < 0x800 ∧ o % 0x100 < 0x14 then some (5, o / 0x100)
  else if A.TDM_PORT_CFG 0 ≤ a ∧ 0x1000 ≤ o ∧ o < 0x1800 then some (5, (o - 0x1000) / 0x100)
  else none

/-- The field that holds an object's owner; TDM ports have none. -/
def ownerFld (kind n : Nat) : Option Fld :=
  if kind = 1 then some (F.TBL_LISTENER_W13_OWNER n)
  else if kind = 2 then some (F.TBL_TALKER_W13_OWNER n)
  else if kind = 3 then some (F.TBL_LAY_W1_OWNER n)
  else if kind = 4 then some (F.TBL_PLINE_W7_OWNER n)
  else none

/-- An object's owner. -/
def State.ownerOf (s : State) (kind n : Nat) : Nat :=
  match ownerFld kind n with
  | some f => s.fld f
  | none => if kind = 5 then getAt s.scp.tdmOwners n 0 else 0

/-- Yunasel sets an object's owner. -/
def State.setOwner (s : State) (kind n c : Nat) : State :=
  match ownerFld kind n with
  | some f => s.keep f c
  | none => s.updScp (fun x => { x with tdmOwners := if kind = 5 then setAt x.tdmOwners n c else x.tdmOwners })

/-- The address of a word of an object's entry, if it has one. -/
def objWord (kind n off : Nat) : Option Nat :=
  if kind ≠ 5 then some (objBase kind n + 4 * off)
  else if off < 5 then some (A.TDM_PORT_CFG n + 4 * off)
  else if 64 ≤ off ∧ off < 96 then some (A.TDM_OUT_MAP n (off - 64))
  else if 96 ≤ off ∧ off < 128 then some (A.TDM_IN_MAP n (off - 96))
  else none

/-! ### Class 7 holds (R435, R358, R526) -/

/-- The hold on an object. -/
def State.holdOf (s : State) (kind n : Nat) : Option Hold := s.scp.holds.find? (fun h => h.kind == kind && h.index == n)

/-- A hold ends and OWNER returns to the saved owner. -/
def State.endHold (s : State) (kind n : Nat) : State :=
  match s.holdOf kind n with
  | none => s
  | some h => (s.setOwner kind n h.savedOwner).dropHold kind n

/-- A class 7 command starts a hold on its object or moves the hold that stands: `was` is the owner before the command.
(DEDUCED, notes/assumptions/69.md.) -/
def State.takeHold (s : State) (kind n ctrl session was : Nat) : State :=
  let before := s.class7
  let saved := match s.holdOf kind n with
    | some h => h.savedOwner
    | none => was
  let others := s.scp.holds.filter (fun h => !(h.kind == kind && h.index == n))
  let s := s.updScp (fun x => { x with holds := others ++ [⟨kind, n, ctrl, session, saved, s.time.up⟩] })
  ((s.setOwner kind n ctrl).class7Edge before).testClass67

/-! ### Sessions (R429, R430) -/

/-- The session with an ID. -/
def State.session (s : State) (id : Nat) : Option Session := s.scp.sessions.find? (fun x => x.id == id)

/-- Update a session. -/
def State.sessionUpd (s : State) (id : Nat) (f : Session → Session) : State :=
  s.updScp (fun x => { x with sessions := x.sessions.map (fun y => if y.id = id then f y else y) })

/-- A session closes, and its holder's holds end. -/
def State.closeSession (s : State) (id : Nat) : State :=
  let s := forL (s.scp.holds.filter (fun h => h.session == id)) (fun h s => s.endHold h.kind h.index) s
  s.updScp (fun x => { x with sessions := x.sessions.filter (fun y => y.id != id) })

/-- Every installer-key session closes (R489). -/
def State.closeInstaller (s : State) : State :=
  forL (s.scp.sessions.filter (fun x => x.privileged)) (fun x s => s.closeSession x.id) s

/-- A reply goes out and joins the session's last 8. -/
def State.scpSend (s : State) (r : ScpReply) : State :=
  { s with out := s.out ++ [Out.scp r] }.sessionUpd r.session (fun x => { x with cache := (r :: x.cache).take 8 })

/-- SEQUENCE is new to the session: above the highest seen, or unseen within the 63 below it. -/
def Session.fresh (x : Session) (seq : Nat) : Bool :=
  let up := (seq + 2 ^ 32 - x.high) % 2 ^ 32
  let back := (x.high + 2 ^ 32 - seq) % 2 ^ 32
  (Nat.blt 0 up && Nat.blt up (2 ^ 31)) || (Nat.ble 1 back && Nat.ble back 63 && !x.seen.testBit back)

/-- The session has seen SEQUENCE at a time. -/
def Session.see (x : Session) (seq now : Nat) : Session :=
  let up := (seq + 2 ^ 32 - x.high) % 2 ^ 32
  let back := (x.high + 2 ^ 32 - seq) % 2 ^ 32
  if 0 < up ∧ up < 2 ^ 31 then { x with high := seq, seen := ((x.seen <<< up) ||| 1) % 2 ^ 64, last := now }
  else { x with seen := if back ≤ 63 then x.seen ||| 2 ^ back else x.seen, last := now }

/-! ### Tags and keys (R428, R429) -/

/-- A message's bytes: the header that its fields spell, with an operation's code, and the payload.
(DEDUCED, notes/assumptions/66.md.) -/
def scpBytes (m : ScpMsg) (code : Nat) (payload : List Nat) : List Nat :=
  let pair (n : Nat) : List Nat := [n / 256 % 256, n % 256]
  m.raw.getD ([m.version % 256, (if m.applyAt.isSome then 64 else 0) + m.cls % 8 * 8, code, 0] ++ pair m.controller ++
    pair payload.length ++ be32 m.session ++ be32 m.seq ++ be32 (m.applyAt.getD 0) ++ [m.kind % 256, m.index / 65536 % 256] ++
    pair m.index ++ payload)

/-- The message's tag is the first 16 bytes of HMAC-SHA-256 under a key. -/
def scpSigned (m : ScpMsg) (key : List Nat) (code : Nat) (payload : List Nat) : Bool :=
  (hmac key (scpBytes m code payload)).take 16 == m.tag

/-- A key of 8 words as bytes: byte 4k is bits [7:0] of word k (R488). -/
def keyBytes (ws : List Word) : List Nat :=
  ws.flatMap (fun w => [w.toNat % 256, w.toNat / 256 % 256, w.toNat / 65536 % 256, w.toNat / 16777216])

/-- The session key of a long-term key, the two nonces and the session ID: the text before them is SKONUM-SK. -/
def sessionKey (k nc nm : List Nat) (id : Nat) : List Nat :=
  hmac k ([83, 75, 79, 78, 85, 77, 45, 83, 75] ++ nc ++ nm ++ be32 id)

/-- The payload of OPEN: the key it selects and the controller's nonce. -/
def openPayload (sel : Nat) (nc : List Nat) : List Nat := [sel % 256, 0, 0, 0] ++ nc

/-- The code of an operation. -/
def ScpOp.code : ScpOp → Nat
  | .read _ => 0x10
  | .write _ => 0x11
  | .objSet _ _ => 0x20
  | .objGet _ _ => 0x21
  | .claim => 0x22
  | .release => 0x23

/-- The payload of an operation (R431), big-endian (R427). -/
def ScpOp.payload : ScpOp → List Nat
  | .read as => as.flatMap be32
  | .write ws => ws.flatMap (fun w => be32 w.1 ++ be32 w.2.toNat)
  | .objSet off ws => be32 off ++ ws.flatMap (fun w => be32 w.toNat)
  | .objGet off n => be32 off ++ be32 n
  | .claim => []
  | .release => []

/-- A message of an open session is taken: dropped, answered again, or handed on once. (DEDUCED, notes/assumptions/67.md.) -/
def State.scpTake (s : State) (m : ScpMsg) (code : Nat) (payload : List Nat) (f : Session → State → State) : State :=
  if !s.unitOn 3 || m.version != 1 then s
  else
    match (s.session m.session).filter (fun x => scpSigned m x.key code payload) with
    | none => s.updScp (fun x => { x with badTags := x.badTags + 1 })
    | some x =>
      let s := s.sessionUpd m.session (fun x => { x with last := s.time.up })
      if x.fresh m.seq then f x (s.sessionUpd m.session (fun x => x.see m.seq s.time.up))
      else match x.cache.find? (fun r => r.seq == m.seq) with
        | some r => { s with out := s.out ++ [Out.scp r] }
        | none => s

/-- A reply to a message. -/
def scpReply (m : ScpMsg) (status : Nat) (words : List Nat) : ScpReply :=
  ⟨m.session, m.seq, status, m.applyAt.getD 0, words⟩

/-- The header and the payload have their form (R428): otherwise the message is answered BAD.
(DEDUCED, notes/assumptions/68.md.) -/
def scpGood (m : ScpMsg) (x : Session) : Bool :=
  m.formed && m.controller == x.controller && Nat.ble m.cls 7 && Nat.ble m.kind 5

/-! ### Operations (R431, R434) -/

/-- The most words a payload holds, over IPv4 and over IPv6. -/
def scpLimit (m : ScpMsg) (v4 v6 : Nat) : Nat := if m.v6 then v6 else v4

/-- The operation fits the message and names an object the module has. -/
def State.scpFits (s : State) (m : ScpMsg) (op : ScpOp) : Bool :=
  (m.kind == 0 || s.objHere m.kind m.index) &&
  match op with
  | .read as => Nat.ble as.length (scpLimit m 358 353)
  | .write ws => Nat.ble ws.length (scpLimit m 179 176)
  | .objSet off ws => m.kind != 0 && Nat.ble ws.length (scpLimit m 357 352) &&
      (m.kind == 5 || Nat.ble (off + ws.length) (objWords m.kind))
  | .objGet off n => m.kind != 0 && Nat.ble n (scpLimit m 357 352) && (m.kind == 5 || Nat.ble (off + n) (objWords m.kind))
  | .claim => m.kind != 0
  | .release => m.kind != 0

/-- The objects that an operation touches. -/
def ScpOp.touches (op : ScpOp) (kind n : Nat) : List (Nat × Nat) :=
  match op with
  | .write ws => ws.filterMap (fun w => objAt w.1)
  | .objSet _ _ => [(kind, n)]
  | .claim => [(kind, n)]
  | .release => [(kind, n)]
  | .read _ => []
  | .objGet _ _ => []

/-- Another controller owns an object the operation touches, and its class does not pre-empt. -/
def State.scpOwnedBy (s : State) (op : ScpOp) (cls ctrl kind n : Nat) : Bool :=
  Nat.blt cls 7 && (op.touches kind n).any (fun o => let w := s.ownerOf o.1 o.2; w != 0 && w != ctrl)

/-- SCP writes a word: its reply word and the state after. -/
def State.scpWord (s : State) (priv : Bool) (a : Option Nat) (w : Word) : Nat × State :=
  match a with
  | none => (scpNotWritable, s)
  | some a => (s.writeCode a priv w.toNat, s.busWrite .scp priv a w)

/-- Words are written in order. -/
def State.scpWords (s : State) (priv : Bool) : List (Option Nat × Word) → List Nat × State
  | [] => ([], s)
  | (a, w) :: t =>
    let (c, s) := s.scpWord priv a w
    let (cs, s) := s.scpWords priv t
    (c :: cs, s)

/-- Words are read in order. -/
def State.scpReads (s : State) (priv : Bool) : List (Option Nat) → List Nat × State
  | [] => ([], s)
  | a :: t =>
    let (w, s) := match a with
      | some a => s.busGet .scp priv a
      | none => (0, s)
    let (ws, s) := s.scpReads priv t
    (w :: ws, s)

/-- The state after a RELEASE. -/
def State.scpRelease (s : State) (ctrl kind n : Nat) : State :=
  match s.holdOf kind n with
  | some h => if h.controller = ctrl then s.endHold kind n else s
  | none => if s.ownerOf kind n = ctrl then s.setOwner kind n 0 else s

/-- An operation acts: its status, its reply words and the state after. -/
def State.scpPerform (s : State) (op : ScpOp) (priv : Bool) (ctrl kind n : Nat) : Nat × List Nat × State :=
  let written (r : List Nat × State) : Nat × List Nat × State :=
    (if r.1.all (fun c => c == 0) then scpOk else scpPartial, r.1, r.2)
  match op with
  | .read as => let (ws, s) := s.scpReads priv (as.map some); (scpOk, ws, s)
  | .write ws => written (s.scpWords priv (ws.map (fun w => (some w.1, w.2))))
  | .objSet off ws => written (s.scpWords priv (ws.zipIdx.map (fun w => (objWord kind n (off + w.2), w.1))))
  | .objGet off k =>
    let words := (List.range k).map (fun i => objWord kind n (off + i))
    let (ws, s') := s.scpReads priv words
    (scpOk, (if kind = 5 ∧ off ≤ 128 then ws.set (128 - off) (getAt s.scp.tdmOwners n 0) else ws), s')
  | .claim => (scpOk, [], s.setOwner kind n ctrl)
  | .release => (scpOk, [], s.scpRelease ctrl kind n)

/-- The operation is one a class 7 command holds its object by. -/
def ScpOp.holds : ScpOp → Bool
  | .write _ => true
  | .objSet _ _ => true
  | .claim => true
  | .release => false
  | .read _ => false
  | .objGet _ _ => false

/-- A command is applied: the operation acts, and at class 7 it takes its hold and wakes the module (R21, R435, R526).
(DEDUCED, notes/assumptions/69.md.) -/
def State.scpApply (s : State) (op : ScpOp) (priv : Bool) (cls ctrl session kind n : Nat) : Nat × List Nat × State :=
  let was := s.ownerOf kind n
  let (st, ws, s) := s.scpPerform op priv ctrl kind n
  if cls = 7 ∧ op.holds then
    (st, ws, (s.when (kind != 0) (fun s => s.takeHold kind n ctrl session was)).wakeFor 3)
  else (st, ws, s)

/-- A command of an open session (R431, R432, R434): answered, or queued for its EF. -/
def State.scpCommand (s : State) (m : ScpMsg) (op : ScpOp) : State :=
  s.scpTake m op.code op.payload (fun x s =>
    if !scpGood m x || !s.scpFits m op then s.scpSend (scpReply m scpBad [])
    else if s.scpOwnedBy op m.cls m.controller m.kind m.index then s.scpSend (scpReply m scpOwned [])
    else match m.applyAt with
      | none =>
        let (st, ws, s) := s.scpApply op x.privileged m.cls m.controller m.session m.kind m.index
        s.scpSend (scpReply m st ws)
      | some ef =>
        let d := (ef + 2 ^ 32 - s.play.head % 2 ^ 32) % 2 ^ 32
        if !s.play.running || d < 2 || 2 ^ 31 ≤ d then s.scpSend (scpReply m scpLate [])
        else if 30000 < d then s.scpSend (scpReply m scpBad [])
        else if 256 ≤ s.scp.queue.length then s.scpSend (scpReply m scpFull [])
        else s.updScp (fun q => { q with
          queue := q.queue ++ [⟨m.session, m.seq, m.cls, m.controller, m.kind, m.index, ef % 2 ^ 32, op, none⟩] }))

/-! ### Apply-at commands (R432, R433) -/

/-- The reply of a queued command. -/
def ScpCmd.reply (c : ScpCmd) (status : Nat) (words : List Nat) : ScpReply := ⟨c.session, c.seq, status, c.ef, words⟩

/-- A command of the list beats another for the same object. (DEDUCED, notes/assumptions/69.md.) -/
def ScpCmd.beats (a b : ScpCmd) : Bool :=
  a.kind == b.kind && a.index == b.index && (Nat.blt b.cls a.cls || (b.cls == a.cls && Nat.blt a.controller b.controller))

/-- A queued command loses resolution against the commands of its EF, given with their places in the queue. -/
def scpLoses (all : List (ScpCmd × Nat)) (c : ScpCmd × Nat) : Bool :=
  c.1.kind != 0 && all.any (fun o => o.2 != c.2 && o.1.ef == c.1.ef &&
    (o.1.beats c.1 || (o.1.kind == c.1.kind && o.1.index == c.1.index && !c.1.beats o.1 && Nat.blt o.2 c.2)))

/-- The session's privilege. -/
def State.scpPriv (s : State) (id : Nat) : Bool :=
  match s.session id with
  | some x => x.privileged
  | none => false

/-- A queued command is applied for the first time, and its answer kept for the commit. -/
def State.scpFirst (s : State) (c : ScpCmd) (k : Nat) (loses : Bool) : State :=
  let keep (r : ScpReply) (s : State) : State :=
    s.updScp (fun q => { q with queue := updAt q.queue k (fun c => { c with result := some r }) })
  if loses then keep (c.reply scpSuperseded []) s
  else if s.scpOwnedBy c.op c.cls c.controller c.kind c.index then keep (c.reply scpOwned []) s
  else
    let (st, ws, s) := s.scpApply c.op (s.scpPriv c.session) c.cls c.controller c.session c.kind c.index
    keep (c.reply st ws) s

/-- The operation writes. -/
def ScpOp.writes : ScpOp → Bool
  | .read _ => false
  | .objGet _ _ => false
  | .write _ => true
  | .objSet _ _ => true
  | .claim => true
  | .release => true

/-- At the start of a computation of an EF its commands act: resolved at the first, landing again at each later one.
(DEDUCED, notes/assumptions/68.md.) -/
def State.scpAt (s : State) (ef : Nat) : State :=
  let all := s.scp.queue.zipIdx
  forL (all.filter (fun c => c.1.ef == ef % 2 ^ 32)) (fun c s =>
    match c.1.result with
    | none => s.scpFirst c.1 c.2 (scpLoses (all.filter (fun o => o.1.result.isNone)) c)
    | some r => s.when (c.1.op.writes && (r.status == scpOk || r.status == scpPartial)) (fun s =>
        (s.scpApply c.1.op (s.scpPriv c.1.session) c.1.cls c.1.controller c.1.session c.1.kind c.1.index).2.2)) s

/-- Queued commands that meet a test are answered and leave the queue; one not yet applied is LATE.
(DEDUCED, notes/assumptions/68.md.) -/
def State.scpAnswer (s : State) (p : ScpCmd → Bool) : State :=
  let due := s.scp.queue.filter p
  let s := s.updScp (fun q => { q with queue := q.queue.filter (fun c => !p c) })
  forL due (fun c s => s.scpSend (c.result.getD (c.reply scpLate []))) s

/-- An EF commits: its commands are answered. -/
def State.scpCommit (s : State) (ef : Nat) : State := s.scpAnswer (fun c => c.ef == ef % 2 ^ 32)

/-- The EF trigger stops: every queued command is settled. -/
def State.scpSettle (s : State) : State := s.scpAnswer (fun _ => true)

/-! ### Opening (R429) -/

/-- The session ID that a free value gives: the first from it that is neither zero nor in use. -/
def State.newSession (s : State) (f : Nat) : Nat :=
  ((List.range 34).map (fun k => (f + k) % 2 ^ 32)).find? (fun i => i != 0 && (s.session i).isNone) |>.getD 1

/-- The longest-idle unprivileged session. -/
def State.idleSession (s : State) : Option Session :=
  (s.scp.sessions.filter (fun x => !x.privileged)).foldl (fun b x =>
    match b with
    | none => some x
    | some y => if x.last < y.last then some x else b) none

/-- A session opens. (DEDUCED, notes/assumptions/67.md.) -/
def State.scpOpen (s : State) (m : ScpMsg) (priv : Bool) (k nc : List Nat) : State :=
  let answer (id st : Nat) (ws : List Nat) (s : State) : State := { s with out := s.out ++ [.scp ⟨id, m.seq, st, 0, ws⟩] }
  let victim := if s.scp.sessions.length < 32 then none else s.idleSession
  if 32 ≤ s.scp.sessions.length && victim.isNone then answer 0 scpFull [] s
  else
    let s := match victim with
      | none => s
      | some x => s.closeSession x.id
    let (f, s) := s.free 32
    let (n0, s) := s.free 32
    let (n1, s) := s.free 32
    let (n2, s) := s.free 32
    let (n3, s) := s.free 32
    let id := s.newSession f
    let r : ScpReply := ⟨id, m.seq, scpOk, 0, [n0, n1, n2, n3]⟩
    let key := sessionKey k nc ([n0, n1, n2, n3].flatMap be32) id
    let x : Session := ⟨id, m.controller, priv, m.seq, 1, [r], s.time.up, none, [], none, 0, key⟩
    answer id scpOk [n0, n1, n2, n3] (s.updScp (fun q => { q with sessions := q.sessions ++ [x] }))

/-- The long-term key an OPEN selects, if the module holds it: a controller's key of the configuration, or the installer key.
(DEDUCED, notes/assumptions/67.md.) -/
def State.longKey (s : State) (sel ctrl : Nat) : Option (List Nat) :=
  if sel = 0 then (s.mgmt.settings.controllerKeys.find? (fun k => k.1 == ctrl)).map (fun k => keyBytes k.2)
  else if sel = 1 then s.keyInForce.map (fun k => keyBytes k.2.key)
  else none

/-- SCP_OPEN (R429): `src` is the source address, `sel` payload byte 0 and `nc` the controller's nonce.
(DEDUCED, notes/assumptions/66.md.) -/
def execScpOpen (dt src sel : Nat) (nc : List Nat) (m : ScpMsg) (s : State) : Result := s.run fun s =>
  let s := s.advance dt
  let now := s.time.up
  let opens := s.scp.opens.filter (fun o => Nat.blt now (o.2 + secU))
  if !s.unitOn 3 || m.version != 1 || Nat.ble 10 (opens.filter (fun o => o.1 == src)).length then
    s.updScp (fun x => { x with opens := opens })
  else
    let s := s.updScp (fun x => { x with opens := opens ++ [(src, now)] })
    if s.on F.SYS_STATUS_CFG_DEFAULT && (sel != 1 || s.on F.SYS_STATUS_KEY_FAIL) then s
    else match (s.longKey sel m.controller).filter (fun k => scpSigned m k 1 (openPayload sel nc)) with
    | none => s.updScp (fun x => { x with badTags := x.badTags + 1 })
    | some k => if !m.formed || nc.length != 16 || m.session != 0 || m.controller = 0 || 65535 < m.controller then
      { s with out := s.out ++ [.scp ⟨0, m.seq, scpBad, 0, []⟩] }
    else s.scpOpen m (sel == 1) k nc

/-! ### The commands -/

/-- SCP_CLOSE (R431): answered, then the session ends. -/
def execScpClose (dt : Nat) (m : ScpMsg) (s : State) : Result := s.run fun s =>
  (s.advance dt).scpTake m 0x02 [] (fun x s =>
    if scpGood m x then (s.scpSend (scpReply m scpOk [])).closeSession m.session else s.scpSend (scpReply m scpBad []))

/-- SCP_KEEPALIVE (R429, R431). -/
def execScpKeepalive (dt : Nat) (m : ScpMsg) (s : State) : Result := s.run fun s =>
  (s.advance dt).scpTake m 0x03 [] (fun x s => s.scpSend (scpReply m (if scpGood m x then scpOk else scpBad) []))

/-- SCP_READ (R431). -/
def execScpRead (dt : Nat) (m : ScpMsg) (addrs : List Nat) (s : State) : Result := s.run fun s =>
  (s.advance dt).scpCommand m (.read addrs)

/-- SCP_WRITE (R431, R434). -/
def execScpWrite (dt : Nat) (m : ScpMsg) (pairs : List (Nat × Word)) (s : State) : Result := s.run fun s =>
  (s.advance dt).scpCommand m (.write pairs)

/-- SCP_OBJ_SET (R431, R434). -/
def execScpObjSet (dt : Nat) (m : ScpMsg) (off : Nat) (vals : List Word) (s : State) : Result := s.run fun s =>
  (s.advance dt).scpCommand m (.objSet off vals)

/-- SCP_OBJ_GET (R431, R434). -/
def execScpObjGet (dt : Nat) (m : ScpMsg) (off count : Nat) (s : State) : Result := s.run fun s =>
  (s.advance dt).scpCommand m (.objGet off count)

/-- SCP_CLAIM (R434). -/
def execScpClaim (dt : Nat) (m : ScpMsg) (s : State) : Result := s.run fun s => (s.advance dt).scpCommand m .claim

/-- SCP_RELEASE (R434, R435). -/
def execScpRelease (dt : Nat) (m : ScpMsg) (s : State) : Result := s.run fun s => (s.advance dt).scpCommand m .release

/-- SCP_SUBSCRIBE (R475): `level` is payload byte 0. -/
def execScpSubscribe (dt : Nat) (m : ScpMsg) (level : Nat) (s : State) : Result := s.run fun s =>
  (s.advance dt).scpTake m 0x30 [level % 256] (fun x s =>
    if scpGood m x then
      (s.sessionUpd m.session (fun x =>
        if level = 0xFF then { x with level := none, gathered := [] } else { x with level := some level })).scpSend (scpReply m scpOk [])
    else s.scpSend (scpReply m scpBad []))

/-- SCP_LOG_GET (R475). -/
def execScpLogGet (dt : Nat) (m : ScpMsg) (first count : Nat) (s : State) : Result := s.run fun s =>
  (s.advance dt).scpTake m 0x32 (be32 first ++ [count % 256]) (fun x s =>
    if scpGood m x && Nat.ble 1 count && Nat.ble count 22 then
      let rs := (List.range count).filterMap (fun k => s.logRecord ((first + k) % 2 ^ 32))
      s.scpSend (scpReply m scpOk (rs.flatten.map BitVec.toNat))
    else s.scpSend (scpReply m scpBad []))

/-- SCP_REPORT (R475): 100 ms after the session's last report, the records gathered for it. -/
def execScpReport (dt session : Nat) (s : State) : Result := s.run fun s =>
  let s := s.advance dt
  match s.session session with
  | none => s
  | some x =>
    let due := match x.reportUp with
      | none => true
      | some t => Nat.ble (t + 100 * msU) s.time.up
    if x.gathered.isEmpty || !due then s
    else
      { s with out := s.out ++ [Out.report session x.reports (x.gathered.take 22)] }.sessionUpd session (fun x =>
        { x with gathered := x.gathered.drop 22, reportUp := some s.time.up, reports := (x.reports + 1) % 2 ^ 32 })

/-- SCP_SESSION_TIMEOUT (R429): 60 s without a valid message. -/
def execScpSessionTimeout (dt session : Nat) (s : State) : Result := s.run fun s =>
  let s := s.advance dt
  match s.session session with
  | none => s
  | some x => s.when (Nat.ble (x.last + 60 * secU) s.time.up) (fun s => s.closeSession session)

/-- SCP_APPLY_AT (R433): the computation of an EF starts, as far as its commands go. -/
def execScpApplyAt (ef : Nat) (s : State) : Result := s.run fun s => s.when s.play.running (fun s => s.scpAt ef)

/-- SCP_HOLD_EXPIRY (R435): HOLD_S has passed since the holder's last class 7 command on the object. -/
def execScpHoldExpiry (dt kind n : Nat) (s : State) : Result := s.run fun s =>
  let s := s.advance dt
  match s.holdOf kind n with
  | none => s
  | some h => s.when (Nat.ble (h.last + s.mgmt.settings.holdS * secU) s.time.up) (fun s => s.endHold kind n)

end Sys2Proof.Machine
end

