-- ==== Sys2Proof/Machine/Ef.lean ====
section
/-! DEFINITION. The engine frame: the tick with its commit (R189 to R195), and the computation of an EF by segments (R218 to
R221). -/

namespace Sys2Proof.Machine

/-! ### What a commit shows (R191, R194) -/

/-- The concealment of a committed EF (R171, R179, R215): CONCEAL_EF, FADES and CONCEALING of each lay, and the mutes. -/
def State.concealTake (s : State) (r : EfRes) : State :=
  forN s.lays (fun lay s =>
    let mine := r.chans.filter (fun c => s.lisLay (c.1 / 64) == lay)
    let held := (mine.filter (fun c => c.2.1)).length
    let begun := (mine.filter (fun c => c.2.2.1)).length
    let s := s.when (held != 0) (fun s => s.bump (A.PLAY_LAY_CONCEAL_EF lay) held)
    let s := s.when (begun != 0) (fun s => (s.bump (A.PLAY_LAY_FADES lay) begun).event F.PLAY_EVT_FADE)
    let s := s.keep (F.TBL_LAY_W2_CONCEALING lay) (mine.filter (fun c => c.2.2.2.1)).length
    let ahead := s.strm.fades.any (fun f => Nat.blt r.ef f.1 && f.2 == some lay)
    let slip := (s.lay lay).slipAll && begun != 0
    let full := if mine.all (fun c => c.2.2.2.2) && !ahead && !slip then (s.lay lay).full + 1 else 0
    s.when (!mine.isEmpty) (fun s => s.layUpd lay (fun l => { l with
      full := full
      muteOff := l.muteOff && Nat.blt full 2
      muteSlip := (l.muteSlip || slip) && Nat.blt full 2 }))) s |>.layStatus

/-- CUR, REMAIN and LIM_GAINn of a committed mix (R301, R310). -/
def State.mixTake (s : State) (r : EfRes) : State :=
  let s := forL r.cur (fun (n, g, k) s =>
    (s.keepWord (A.TBL_XP_W3 n) (unsgn 32 g)).keep (F.TBL_XP_W2_REMAIN n) k) s
  forN s.limiters (fun n s => s.keepWord (A.XPT_LIM_GAIN n) ((Sparse.find r.lims n).getD 0x40000000)) s

/-- A count of the mix, and its event. -/
def State.mixCount (s : State) (adr n : Nat) (e : Fld) : State := s.when (n != 0) (fun s => (s.bump adr n).event e)

/-- The mix's counters (R303, R310, R322). -/
def State.mixCounts (s : State) (r : EfRes) : State :=
  let s := s.mixCount A.XPT_CNT_OUT_SAT r.outSat F.XPT_EVT_OUT_SAT
  let s := s.bump A.XPT_CNT_LIM_SAMPLES r.limSamples
  (s.mixCount A.XPT_CNT_BAD_ENTRY r.bad F.XPT_EVT_BAD_ENTRY).mixCount A.XPT_CNT_SPLIT_RUN r.split F.XPT_EVT_SPLIT_RUN

/-- A staged item is released (R204). -/
def State.release (s : State) (ef : Nat) : Item → State
  | .msg m => s.push m
  | .lim n w v => s.tableWord (A.TBL_LIM_W0 n + 4 * w) v
  | .record line w v => s.recordWord line w v ef
  | .status m v => s.putReg (A.ENG_PROG_STATUS m) v

/-- The result of an EF, if a computation of it has ended. -/
def State.resultOf (s : State) (ef : Nat) : Option EfRes := s.play.results.find? (fun r => r.ef == ef && r.done)

/-- The EF's own results and staged items at its commit (R191), or the stall (R194). -/
def State.commitOwn (s : State) (ef : Nat) : State :=
  let mine := s.play.staging.filter (fun i => i.ef == ef)
  let s := s.updPlay (fun p => { p with staging := p.staging.filter (fun i => i.ef != ef) })
  match s.resultOf ef with
  | some r => forL mine (fun i s => s.release ef i.item) (((s.mixTake r).mixCounts r).concealTake r)
  | none =>
    ((s.inc A.PLAY_CNT_COMMIT_STALL).event F.PLAY_EVT_COMMIT_STALL).updPlay (fun p => { p with
      stalled := (ef :: p.stalled).take 4 })

/-- EF `ef` commits (R191): its outputs leave, and the cleat moves past it (R190). -/
def State.commit (s : State) (ef : Nat) : State :=
  let stalled := (s.resultOf ef).isNone
  let s := (s.proofCommit ef).commitOwn ef
  let s := (((s.meterTake ef stalled).talkersCommit ef stalled).hostGive ef stalled).scpCommit ef
  let s := s.updPlay (fun p => { p with
    cleat := ef + 1
    results := p.results.filter (fun r => Nat.blt ef r.ef || !r.done) })
  let s := s.updStrm (fun x => { x with fades := x.fades.filter (fun f => Nat.ble (ef + 1) f.1) })
  let s := (s.hitchRelease (fun e => Nat.ble e ef)).placeRelease
  match s.eng.applyAt with
  | none => s
  | some a => s.when (Nat.blt a s.play.cleat) (fun s => s.updEng (fun e => { e with applyAt := none, installing := [] }))

/-! ### The tick (R190, R192) -/

/-- Slots that the module's TDM inputs and splice receivers write. -/
def State.inputSlots (s : State) : List Nat :=
  let stride := if s.hiRate then 2 else 1
  let tdm := ((List.range s.tdmPorts).map (fun n =>
    let p := s.tp n
    ((s.mapActs p.opCfg p.opIn).map (fun k =>
      let m := getAt p.opIn k 0
      let b := wbits m 11 0
      if wbits m 30 29 = 3 then [b, b + stride] else [b])).flatten)).flatten
  tdm ++ (s.rxSlots 0).map Prod.snd ++ (s.rxSlots 1).map Prod.snd

/-- Slots that host audio and the direct sense inputs write. -/
def State.blockSlots (s : State) : List Nat :=
  (List.range s.hostChans).filterMap (fun c => s.hostSlot (A.TBL_HRX c)) ++
    (List.range 8).filterMap (fun k =>
      let slot := s.fld (F.PROOF_HV_CFG_BUS_SLOT k)
      if s.on (F.PROOF_HV_CFG_EN k) && !(s.hiRate && slot % 2 == 1) then some slot else none)

/-- An input that is not written in time reads as zero (R192): the positions that this EF's inputs will write. -/
def State.zeroInputs (s : State) (ef : Nat) : State := forL s.inputSlots (fun sl s => s.zeroEf sl ef) s

/-- Time reaches the next EF boundary of the media chain, with what acts at each: a realign (R148), jumps (R110), lays'
offsets and SLIP_ALL (R175, R179), the adjustment (R169), the ports' clean EFs (R332) and the host's frame ring (R411). -/
def State.efBoundary (s : State) : State :=
  let s := match s.clk.realign with
    | .moving _ => s.realignMove
    | _ => s
  let s := s.toBoundary
  let s := (s.updClk (fun c => { c with lastEf := c.lastEf + 1 })).jumpApply.realignBoundary
  let s := forN s.lays (fun n s =>
    let s := s.when ((s.lay n).offset != s.fld (F.TBL_LAY_W1_PRES_OFFSET n)) (fun s => s.layOffset n)
    s.when ((s.lay n).slipAll != s.on (F.TBL_LAY_W0_SLIP_ALL n)) (fun s => s.laySlip n)) s
  s.strmAdj.tdmCleanEf.hostScan

/-- NOW_EF follows p (R212). -/
def State.setNow (s : State) (p : Nat) : State :=
  (s.updPlay (fun x => { x with p := p })).keepWord A.PLAY_NOW_EF (p % 2 ^ 32)

/-- The tick that begins presentation of EF p, playout running (R190). -/
def State.playTick (s : State) (p : Nat) (hv : List (List Int)) : State :=
  let s := (s.senseTick (p - 1) hv).commit s.play.cleat
  let s := (s.setNow p).hostTake (p + s.play.slack + 2)
  ((s.zeroInputs (p + s.play.slack + 3)).holdRelease).playStatus

/-- The EF trigger's tick: `hv` holds the direct sense inputs' samples of the EF that ends, by input. -/
def State.tick (s : State) (hv : List (List Int)) : State :=
  let s := s.efBoundary
  let p := s.clk.lastEf
  let stalled := s.play.running && (s.resultOf s.play.cleat).isNone
  let s := s.when s.play.running (fun s => s.playTick p hv)
  s.spliceTick (p + 1) stalled

/-! ### Entry to RUN and the trigger's stop (R195) -/

/-- Playout starts at the tick that begins presentation of EF p. -/
def State.playStart (s : State) (p : Nat) : State :=
  let cfg := s.fld F.PLAY_CFG_SLACK
  let s := s.hitchRelease (fun _ => true)
  let s := s.dropComp.updPlay (fun x => { x with
    running := true, p := p, cleat := p + 2, head := p + 2, slack := clampN 1 6 cfg
    rewinding := false, r := 0, conc := [], results := [], staging := [], stalled := [] })
  let s := s.updStrm (fun x => { x with trues := [], held := [], fades := [] })
  let s := s.updXpt (fun x => { x with efs := 0, meters := [], samples := 0, period := s.meterPeriod })
  let s := (s.updEng (fun e => { e with dlyFirst := [] })).linesRestart.talkersRestart.scpSettle
  let s := forN (s.play.slack + 2) (fun i s =>
    forL s.blockSlots (fun sl s => s.zeroEf sl (p + 2 + i)) (s.zeroInputs (p + 2 + i))) s
  ((s.hostTake (p + s.play.slack + 2)).setNow p).playStatus

/-- The EF trigger stops (R195, R231): what has not committed is discarded. (DEDUCED, notes/assumptions/43.md.) -/
def State.triggerStop (s : State) : State :=
  let s := s.placementStop.dropComp.hitchRelease (fun _ => true)
  let s := s.updPlay (fun p => { p with
    running := false, rewinding := false, results := [], staging := [], head := p.cleat })
  let s := (s.updStrm (fun x => { x with held := [], fades := [] })).scpSettle
  (((s.setTrigger false).updPwr (fun p => { p with readyFade := false })).playStatus).holdStatus

/-! ### Segments (R219, R220) -/

/-- The cores that take part in the computation under way. -/
def State.inComp (s : State) : List Nat := (List.range s.cores).filter s.computing

/-- The XPT mix belongs to the segment. -/
def State.mixIn (s : State) (seg : Nat) : Bool := s.fld F.ENG_CFG_XPT_SLOT == seg

/-- The segment holds programs or the mix. -/
def State.segFull (s : State) (seg : Nat) : Bool :=
  s.mixIn seg || s.inComp.any (fun c => !(s.progsOf c seg).isEmpty)

/-- The first segment from one on that is not empty. -/
def State.nextSeg (s : State) (seg : Nat) : Option Nat :=
  (List.range 4).find? (fun n => Nat.ble seg n && s.segFull n)

/-- Each core's programs of the segment have ended. -/
def State.segDone (s : State) : Bool := s.inComp.all (fun c => (s.core c).prog.isNone)

/-- The EF's result is updated. -/
def State.updRes (s : State) (ef : Nat) (f : EfRes → EfRes) : State :=
  s.updPlay (fun p => { p with results := p.results.map (fun r => if r.ef = ef then f r else r) })

/-- The mix of the EF, and what its commit will show. -/
def State.runMix (s : State) (ef : Nat) : State :=
  let (m, s) := s.xptMix ef
  s.updRes ef (fun r => { r with
    cur := m.cur, outSat := m.outSat, limSamples := m.limSamples, bad := m.bad
    split := (m.runs.filter (fun x => Nat.blt 1 x.2)).length })

/-- A segment starts: the mix, and each core's first program of the phase. -/
def State.segStart (s : State) (seg : Nat) : State :=
  let s := s.updEng (fun e => { e with comp := e.comp.map (fun k => { k with seg := seg }) })
  let s := s.when (s.mixIn seg) (fun s => s.runMix s.curEf)
  forL s.inComp (fun c s => match s.progsOf c seg with
    | [] => s
    | m :: _ => (s.enterProg c m).updEng (fun e => { e with comp := e.comp.map (fun k => { k with ran := k.ran ||| 2 ^ c }) })) s

/-! ### A computation (R218) -/

/-- The programs that do not run in the placement in use: their OUT positions are zero (R235, R236). -/
def State.idleOuts (s : State) : State :=
  forN 64 (fun m s =>
    s.when (s.place (F.ENG_DESC_W0_EN m) == 1 &&
      (s.place (F.ENG_DESC_W0_PLACED m) == 0 || s.coreState (s.place (F.ENG_DESC_W0_CORE m)) != 4)) (fun s => s.zeroOut m)) s

/-- The hitch decision (R199) and the concealer pass (R196). -/
def State.efSetup (s : State) (ef : Nat) : State :=
  let want := s.incomplete ef && !s.hitchEfs.contains ef && Nat.ble s.play.cleat ef
  let s := s.when want (fun s => s.takeHitch ef)
  let (chans, s) := s.concealPass ef
  s.updPlay (fun p => { p with results := p.results.filter (fun r => r.ef != ef) ++
    [⟨ef, false, [], [], 0, 0, 0, 0, chans⟩] })

/-- The engine may begin a computation (R190, R207). -/
def State.mayCompute (s : State) : Bool :=
  s.play.running && s.eng.comp.isNone && (s.play.rewinding || Nat.blt s.play.head (s.play.cleat + s.play.slack))

/-- A computation begins (R218): a waiting placement and the commands of its EF act first. -/
def State.compStart (s : State) : State :=
  let ef := s.nextEf
  let s := match s.eng.waiting with
    | none => s
    | some (a, _) => s.when (Nat.ble a ef) State.placementApply
  let s := s.scpAt ef
  let s := s.when (s.eng.applyAt == some ef) (fun s => s.imgTables s.eng.installing)
  let again := s.play.rewinding
  let out := ofBits ((List.range s.cores).map (fun c => s.coreState c != 4))
  let s := s.updEng (fun e => { e with comp := some ⟨ef, 0, again, out, 0, 0, [], 0⟩ })
  let s := s.when (!again) (fun s => s.updPlay (fun p => { p with head := ef + 1 }))
  let s := s.idleOuts.efSetup ef
  (match s.nextSeg 0 with
    | none => s
    | some n => s.segStart n).playStatus

/-- The next segment starts once the one that runs is done. -/
def State.barrier (s : State) : State :=
  match s.eng.comp with
  | none => s
  | some k => if s.segDone then (match s.nextSeg (k.seg + 1) with
      | none => s
      | some n => s.segStart n) else s

/-- CORE_PEAKn, SPAN_PEAK, COMPUTES and CONSEC at the end of a computation (R234, R235, R240). -/
def State.compCounts (s : State) (k : Comp) (ns : Nat) (cycles : List Nat) : State :=
  let s := forN s.cores (fun c s =>
    let s := s.when (k.ran.testBit c) (fun s => s.inc (A.ENG_CORE_COMPUTES c))
    let s := s.when (s.coreState c == 4 && !k.halted.testBit c) (fun s => s.keep (F.ENG_CORE_STATUS_CONSEC c) 0)
    let n := min (getAt cycles c 0) (2 ^ 18 - 1)
    s.when (k.ran.testBit c && Nat.blt (s.fld (F.ENG_CORE_PEAK_CYC c)) n) (fun s => s.set (F.ENG_CORE_PEAK_CYC c) n)) s
  let n := min ns (2 ^ 24 - 1)
  s.when (Nat.blt (s.fld F.ENG_SPAN_PEAK_NS) n) (fun s => s.set F.ENG_SPAN_PEAK_NS n)

/-- A recomputation of an EF has ended: the rewind goes on, or has reached the old head (R207). -/
def State.rewound (s : State) : State :=
  let s := s.inc A.PLAY_RW_EF
  let r := s.play.r + 1
  s.updPlay (fun p => { p with r := r, rewinding := r != p.head })

/-- The end values of an EF that had already committed (R194). -/
def State.lateResult (s : State) (ef : Nat) : State :=
  if s.play.cleat ≤ ef then s
  else match s.resultOf ef with
    | none => s
    | some r => ((s.mixTake r).concealTake r).updPlay (fun p => { p with
        results := p.results.filter (fun x => x.ef != ef) })

/-- The computation ends (R218): `ns` is its time and `cycles` each core's count. -/
def State.compEnd (s : State) (ns : Nat) (cycles : List Nat) : State :=
  match s.eng.comp with
  | none => s
  | some k =>
    if !s.segDone || (s.nextSeg (k.seg + 1)).isSome then s
    else
      let s := s.compCounts k ns cycles
      let s := s.updRes k.ef (fun r => { r with done := true, lims := s.xpt.lims })
      let s := s.updEng (fun e => { e with comp := none })
      ((s.when k.again State.rewound).lateResult k.ef).playStatus

/-! ### The commands -/

/-- EF_TICK (R190): time passes to the next EF boundary of the media chain. -/
def execEfTick (hv : List (List Int)) (s : State) : Result := s.run fun s => s.when s.clk.running (fun s => s.tick hv)

/-- RUN_PLAY_START (R195): the tick at which playout starts, once the EF trigger has been started. -/
def execRunPlayStart (s : State) : Result := s.run fun s =>
  if s.pwr.trig && !s.play.running && s.modState == stRun && s.clk.running && !s.unaligned then
    let s := s.efBoundary
    let p := s.clk.lastEf
    (s.playStart p).spliceTick (p + 1) false
  else s

/-- EF_TRIGGER_STOP (R195, R19): a READY or QUIET has faded every port. -/
def execEfTriggerStop (s : State) : Result := s.run fun s =>
  s.when (s.pwr.trig && (s.pwr.readyFade || s.pwr.quietEntry) &&
    !anyN s.tdmPorts (fun n => s.fld (F.TDM_STATUS_GAIN_STATE n) == gainFading)) State.triggerStop

/-- COMPUTATION_START (R218). -/
def execComputationStart (dt : Nat) (s : State) : Result := s.run fun s =>
  let s := s.advance dt
  s.when s.mayCompute State.compStart

/-- SEGMENT_BARRIER (R219). -/
def execSegmentBarrier (dt : Nat) (s : State) : Result := s.run fun s => (s.advance dt).barrier

/-- COMPUTATION_COMPLETE (R218): `ns` is the computation's time and `cycles` each core's cycle count.
(DEDUCED, notes/assumptions/53.md.) -/
def execComputationComplete (dt ns : Nat) (cycles : List Nat) (s : State) : Result := s.run fun s =>
  (s.advance dt).compEnd ns cycles

end Sys2Proof.Machine
end

