-- ==== Sys2Proof/Machine/FrameRx.lean ====
section
/-! DEFINITION. Frames that arrive on the ring ports and the spur port, and the frame a port sends next (R45 to R65, R163, R182 to
R184, R411). -/

namespace Sys2Proof.Machine

/-! ### MAC control (R64, R65) -/

/-- A received 802.3x pause: only port C with PAUSE_EN obeys it. -/
def State.pauseRx (s : State) (p quanta : Nat) : State :=
  let s := s.inc (A.MSTAT_RX_PAUSE p)
  if p = 2 ∧ s.on (F.RING_PORT_CFG_PAUSE_EN 2) then
    s.stopClasses 2 (if s.on (F.RING_PORT_CFG_PAUSE_HONOUR_ALL 2) then 0xFF else 0x1F) quanta
  else s

/-- A received PFC frame: on A and B the named best-effort classes whose PFC_EN bit is set stop. -/
def State.pfcRx (s : State) (p classes : Nat) (quanta : List Nat) : State :=
  let s := s.inc (A.MSTAT_RX_PFC p)
  if p = 2 then s
  else forN 4 (fun k s => s.when (classes.testBit k && s.bitOf (F.RING_PORT_CFG_PFC_EN p) k) (fun s =>
    s.stopClasses p (2 ^ k) (getAt quanta k 0))) s

/-! ### Session descriptions (R184) -/

/-- The words that a description gives its listener entry; the entry's other fields keep their values. -/
def State.sdpWords (s : State) (d : Sdp) (ptime : Nat) : List (Nat × Nat) :=
  let n := d.entry
  let w0 := s.rd (A.TBL_LISTENER_W0 n)
  let w0 := (F.TBL_LISTENER_W0_TRANSPORT n).into w0 (if d.udp6 then 1 else 0)
  let w0 := (F.TBL_LISTENER_W0_ENC n).into w0 (if d.l24 then 1 else 0)
  let w0 := (F.TBL_LISTENER_W0_CHANNELS n).into ((F.TBL_LISTENER_W0_PTIME n).into w0 ptime) d.chans
  let w0 := (F.TBL_LISTENER_W0_SRC_FILTER n).into w0 (if d.filter.isSome then 1 else 0)
  let quad (a : Nat) : List Nat := [a / 2 ^ 96 % 2 ^ 32, a / 2 ^ 64 % 2 ^ 32, a / 2 ^ 32 % 2 ^ 32, a % 2 ^ 32]
  let dest := if d.udp6 then quad d.dest else [d.dest % 2 ^ 32]
  let src := match d.filter with
    | none => []
    | some a => if d.udp6 then quad a else [a % 2 ^ 32]
  [(A.TBL_LISTENER_W1 n, (F.TBL_LISTENER_W1_UDP_PORT n).into (s.rd (A.TBL_LISTENER_W1 n)) d.port),
   (A.TBL_LISTENER_W2 n, (F.TBL_LISTENER_W2_PT n).into (s.rd (A.TBL_LISTENER_W2 n)) d.pt),
   (A.TBL_LISTENER_W4 n, d.offset % 2 ^ 32)]
    ++ [A.TBL_LISTENER_W5 n, A.TBL_LISTENER_W6 n, A.TBL_LISTENER_W7 n, A.TBL_LISTENER_W8 n].zip dest
    ++ [A.TBL_LISTENER_W10 n, A.TBL_LISTENER_W11 n, A.TBL_LISTENER_W12 n, A.TBL_LMAP n 31].zip src
    ++ [(A.TBL_LISTENER_W0 n, w0)]

/-- The source of a description as a record's payload shows it. -/
def sdpSource (d : Sdp) : List Nat :=
  if d.udp6 then [d.source / 2 ^ 96 % 2 ^ 32, d.source / 2 ^ 64 % 2 ^ 32, d.source / 2 ^ 32 % 2 ^ 32, d.source % 2 ^ 32]
  else [d.source % 2 ^ 32]

/-- A description arrives: it becomes a listener entry, or is refused and logged with its reason.
(DEDUCED, notes/assumptions/40.md.) -/
def State.sdpRx (s : State) (d : Sdp) : State :=
  let refused (k : Nat) : State := s.log 6 1 2 (sdpSource d ++ [(Config.openCode k).toNat])
  if d.rate ≠ s.fs then refused 10
  else match d.ptime with
    | none => refused 11
    | some t =>
      if s.streams ≤ d.entry then refused 12
      else
        let s := forL (s.sdpWords d t) (fun w s => s.busWrite .mp true w.1 (BitVec.ofNat 32 w.2)) s
        s.when (!d.refMatch) (fun s => s.log 6 ((Config.openCode 13).toNat % 65536) 1 (sdpSource d))

/-! ### Local delivery (R58, R59, R163, R182, R183, R410) -/

/-- A group is joined or left on port C (R183). -/
def State.snoop (s : State) (g : Nat) (join : Bool) : State :=
  s.updRing (fun r => { r with joins := (if join then [(g, s.time.up)] else []) ++ r.joins.filter (fun j => j.1 != g) })

/-- What STRM and the MP do with a frame, and whether one of them takes it. A frame with a failed FCS only counts for the listener
entry it matches. -/
def State.consume (s : State) (p : Nat) (f : Frame) : Bool × State :=
  let bad := !f.fcsOk || f.oversize
  match f.body with
  | .audio a => match s.lisMatch p f a with
    | some n => (true, s.strmRx n f a)
    | none => (false, s)
  | .join g _ => if bad ∨ p ≠ 2 then (false, s) else (false, s.snoop g true)
  | .leave g => if bad ∨ p ≠ 2 then (false, s) else (false, s.snoop g false)
  | .query general g => if bad then (false, s)
      else (true, s.updStrm (fun x => { x with queries := x.queries ++ [(g, general)] }))
  | .sdp d => if bad then (false, s) else (true, s.sdpRx d)
  | .path _ _ _ _ => (true, s)
  | .ptp _ => (true, s)
  | .pause _ => (true, s)
  | .pfc _ _ => (true, s)
  | .data => (false, s)

/-- A frame is delivered locally. -/
def State.deliver (s : State) (p : Nat) (f : Frame) : State :=
  let (taken, s) := s.consume p f
  s.when (s.hostWants f taken && (f.fcsOk || f.oversize)) (fun s => s.hostRx f)

/-- The recovery entry's decision on a ring frame (R55, R56): by listener entry, else by source.
(DEDUCED, notes/assumptions/32.md.) -/
def State.recover (s : State) (p : Nat) (f : Frame) (seq : Nat) : Bool × State :=
  match f.body with
  | .audio a => match s.lisMatch p f a with
    | some n => s.frerListener p n seq
    | none => s.frerSource p f.src seq
  | _ => s.frerSource p f.src seq

/-! ### The ring ports (R54) -/

/-- HOP_LIMIT as it acts (R57). -/
def State.hopLimit (s : State) : Nat := max 2 (s.fld F.RING_FRER_CFG_HOP_LIMIT)

/-- A frame with an R-TAG: its hop count rises, it goes on below the limit, and recovery decides what goes further. -/
def State.ringTagged (s : State) (p : Nat) (a : Arrival) (seq hop : Nat) : State :=
  let hop := hop + 1
  let on := { a.fwd with rtag := some (seq, hop % 256) }
  let s := if hop < s.hopLimit then s.forward p (1 - p) a on else s.inc (A.MSTAT_HOP_EXPIRED p)
  if !a.loc.fcsOk && !a.loc.oversize then (s.consume p a.loc).2.toSpur p a a.fwd
  else
    let (pass, s) := s.recover p a.loc seq
    if pass then (s.deliver p a.loc).toSpur p a a.fwd else s

/-- A frame that passed the arrival checks of a ring port. (DEDUCED, notes/assumptions/33.md.) -/
def State.ringFrame (s : State) (p : Nat) (a : Arrival) : State :=
  match a.fwd.body with
  | .pause q => s.when a.fwd.fcsOk (fun s => s.pauseRx p q)
  | .pfc c q => s.when a.fwd.fcsOk (fun s => s.pfcRx p c q)
  | .ptp m => (s.ptpRx p a m).when (s.hostWants a.loc true) (fun s => s.hostRx a.loc)
  | _ =>
    if s.ownMac a.fwd.src then s.inc (A.MSTAT_RING_STRIP p)
    else
      let s := match a.fwd.body with
        | .path w0 _ seq sent => s.when a.fwd.fcsOk (fun s => s.pathRx p a.fwd.src w0 seq sent)
        | _ => s
      match a.fwd.rtag with
      | none => (s.deliver p a.loc).toSpur p a a.fwd
      | some (seq, hop) => s.ringTagged p a seq hop

/-- RING_FRAME_RX (R54): on port A, or on port B. -/
def execRingFrameRx (dt : Nat) (portB : Bool) (f : Frame) (s : State) : Result := s.run fun s =>
  let s := s.advance dt
  let p := if portB then 1 else 0
  if !s.linkUp p then s
  else match s.arrive p f with
    | (none, s) => s
    | (some a, s) => s.ringFrame p a

/-! ### The spur port (R46, R52) -/

/-- A frame that passed the arrival checks of port C. -/
def State.spurFrame (s : State) (a : Arrival) : State :=
  match a.fwd.body with
  | .pause q => s.when a.fwd.fcsOk (fun s => s.pauseRx 2 q)
  | .pfc c q => s.when a.fwd.fcsOk (fun s => s.pfcRx 2 c q)
  | .ptp m => (s.ptpRx 2 a m).when (s.hostWants a.loc true) (fun s => s.hostRx a.loc)
  | _ => (s.deliver 2 a.loc).spurToRing a a.fwd

/-- SPUR_FRAME_RX (R46). -/
def execSpurFrameRx (dt : Nat) (f : Frame) (s : State) : Result := s.run fun s =>
  let s := s.advance dt
  if !s.linkUp 2 then s
  else match s.arrive 2 f with
    | (none, s) => s
    | (some a, s) => s.spurFrame a

/-! ### Egress -/

/-- The frame chosen leaves: a PTP message as egress changes it, a timed host frame with its timestamp (R87 to R94).
(DESIGN CHOICE, notes/assumptions/34.md.) -/
def State.egress (s : State) (p : Nat) (e : EgFrame) : State :=
  let (body, s) : Body × State := match e.frame.body with
    | .ptp m => let (m, s) := s.ptpEgress p e m; (.ptp m, s)
    | b => (b, s)
  let s := s.sendFrame p { e with frame := { e.frame with body := body } }
  match e.host with
  | none => s
  | some k => s.when e.timed (fun s => s.hostStamped k)

/-- FRAME_TRANSMIT (R45): the port's egress is free. (DESIGN CHOICE, notes/assumptions/34.md.) -/
def execFrameTransmit (dt : Nat) (p : Port) (s : State) : Result := s.run fun s =>
  let p := p.idx
  let s := ((s.advance dt).creditTick p).slopes p
  if !s.linkUp p then s
  else match s.pickFrame p classOrder with
    | (none, s) => s
    | (some e, s) => s.egress p e

end Sys2Proof.Machine
end

