-- ==== Sys2Proof/Machine/HmqCmd.lean ====
section
/-! DEFINITION. The events of the host message queues (R445, R449, R450). -/

namespace Sys2Proof.Machine

/-- HMQ_MESSAGE_OFFER (R445): the header of queue q's first waiting message is written; n of its words are in when the
next command comes. -/
def execHmqMessageOffer (q n : Nat) (s : State) : Result := s.runIf (decide (q < 4)) fun s =>
  s.hmqOffer (s.blockOk 7) q n

/-- HMQ_MESSAGE_COMPLETE (R449). -/
def execHmqMessageComplete (q : Nat) (s : State) : Result := s.runIf (decide (q < 4)) fun s => s.hmqComplete q

/-- HMQ_POINTER_MISMATCH (R450). -/
def execHmqPointerMismatch (q : Nat) (s : State) : Result := s.runIf (decide (q < 4)) fun s => s.hmqPtrError q

end Sys2Proof.Machine
end

