-- ==== Sys2Proof/Machine/Rows.lean ====
section
/-! DEFINITION. The commands that are a master's access to a register, a table word or a memory window, by the access rules of
chapter 14: each write names the register and what is written, and the rule behind it acts. -/

namespace Sys2Proof.Machine

/-! ### Shared forms -/

/-- One cycle's writes of a word; the start-up tests end where STOP emptied their queue (R524). -/
def State.words (s : State) (a : Nat) (ws : List BusWrite) : State :=
  (s.busWrites a ws).when (a == A.TEST_CTL) State.startupEnd

/-- A whole-word write by one master that has landed. -/
def State.word (s : State) (m : Master) (priv : Bool) (a w : Nat) : State :=
  (s.writeThrough a ⟨m, priv, 15, BitVec.ofNat 32 w⟩).when (a == A.TEST_CTL) State.startupEnd

/-- A register's word as the master reads it back (R419): command and data bits, and what the master may not see, read zero.
(DESIGN CHOICE, notes/assumptions/11.md.) -/
def State.asRead (s : State) (m : Master) (priv : Bool) (a : Nat) : Nat :=
  match rowAt s.variant a with
  | none => s.rd a
  | some r => clearBits (s.rd a) (r.sc ||| r.wo ||| (if s.masterPriv m priv then 0 else r.prv))

/-- Command bits of a register are written, its other bits as they read. (DESIGN CHOICE, notes/assumptions/11.md.) -/
def State.strike (s : State) (m : Master) (priv : Bool) (a bits : Nat) : State := s.word m priv a (s.asRead m priv a ||| bits)

/-- A field of a register is written, its other bits as they read. -/
def State.strikeFld (s : State) (m : Master) (priv : Bool) (f : Fld) (v : Nat) : State :=
  s.word m priv f.adr (f.into (s.asRead m priv f.adr) v)

/-! ### Module commands (R17 to R19) -/

/-- MOD_CMD_RUN (R19). -/
def execModCmdRun (m : Master) (priv : Bool) (s : State) : Result := s.run fun s => s.word m priv A.SYS_MOD_CMD 4

/-- MOD_CMD_QUIET (R19). -/
def execModCmdQuiet (m : Master) (priv : Bool) (s : State) : Result := s.run fun s => s.word m priv A.SYS_MOD_CMD 5

/-- MOD_CMD_READY (R19). -/
def execModCmdReady (m : Master) (priv : Bool) (s : State) : Result := s.run fun s => s.word m priv A.SYS_MOD_CMD 3

/-- MOD_CMD_INVALID (R18): a code that is unused. -/
def execModCmdInvalid (code : Nat) (m : Master) (priv : Bool) (s : State) : Result := s.run fun s =>
  s.when (code == 1 || code == 2 || code == 6 || code == 7) (fun s => s.word m priv A.SYS_MOD_CMD code)

/-! ### Power (R503, R506, R516) -/

/-- RESET_CONTROL (R516). -/
def execResetControl (m : Master) (priv : Bool) (s : State) : Result := s.run fun s => s.strike m priv A.PWR_CTL 1

/-- AUX_RESTART (R503). -/
def execAuxRestart (m : Master) (priv : Bool) (s : State) : Result := s.run fun s => s.strike m priv A.PWR_CTL 2

/-- PWR_CTL_RETRY (R506). -/
def execPwrCtlRetry (m : Master) (priv : Bool) (s : State) : Result := s.run fun s => s.strike m priv A.PWR_CTL 4

/-! ### Ring ports, the bypass and shaping -/

/-- PORT_CFG_WRITE (R31). -/
def execPortCfgWrite (p : Port) (ws : List BusWrite) (s : State) : Result := s.run fun s => s.words (A.RING_PORT_CFG p.idx) ws

/-- FLAP_RELEASE (R70). -/
def execFlapRelease (p : Port) (m : Master) (priv : Bool) (s : State) : Result := s.run fun s => s.strike m priv (A.RING_FLAP p.idx) 1

/-- BYPASS_JOIN_NOW (R42). -/
def execBypassJoinNow (m : Master) (priv : Bool) (s : State) : Result := s.run fun s => s.strike m priv A.RING_BYPASS_CTL 4

/-- BYPASS_FORCE_CLOSE (R42). -/
def execBypassForceClose (on : Bool) (m : Master) (priv : Bool) (s : State) : Result := s.run fun s =>
  s.strikeFld m priv F.RING_BYPASS_CTL_FORCE_CLOSE (if on then 1 else 0)

/-- CBS_WRITE (R45). -/
def execCbsWrite (p : Port) (ws : List BusWrite) (s : State) : Result := s.run fun s => s.words (A.RING_CBS p.idx) ws

/-- QBV_SWAP (R49). -/
def execQbvSwap (b : Bool) (m : Master) (priv : Bool) (s : State) : Result := s.run fun s =>
  s.strike m priv (A.RING_QBV_CTL (if b then 1 else 0)) 2

/-- QBV_ENTRY_WRITE (R49): entry `k` of the gate tables. -/
def execQbvEntryWrite (k : Nat) (ws : List BusWrite) (s : State) : Result := s.runIf (decide (k < 256)) fun s => s.words (A.RING_GATE k) ws

/-- PAUSE_WM_WRITE (R62). -/
def execPauseWmWrite (ws : List BusWrite) (s : State) : Result := s.run fun s => s.words A.RING_PAUSE_WM ws

/-- COUNTER_READ (R67). -/
def execCounterRead (adr : Nat) (m : Master) (priv : Bool) (s : State) : Result := s.run fun s => s.busRead m priv adr

/-! ### Time (R73 to R123) -/

/-- TB_NS_READ (R73). -/
def execTbNsRead (m : Master) (priv : Bool) (s : State) : Result := s.run fun s => s.busRead m priv A.TIME_TB_NS

/-- PTP_CFG_WRITE (R76). -/
def execPtpCfgWrite (ws : List BusWrite) (s : State) : Result := s.run fun s => s.words A.TIME_PTP_CFG ws

/-- TWIN_PREF_WRITE (R98). -/
def execTwinPrefWrite (pref : Fin 4) (m : Master) (priv : Bool) (s : State) : Result := s.run fun s =>
  s.strikeFld m priv F.TIME_TWIN_CFG_PREF pref.val

/-- SET or ADJ; `clash` says that a jump under R107 falls in the same cycle. -/
def State.tbWrite (s : State) (set clash : Bool) (m : Master) (priv : Bool) : State :=
  if clash && s.masterPriv m priv && s.unitAwake 3 then s.tbCtl set (!set) true
  else s.strike m priv A.TIME_TB_CTL (if set then 1 else 2)

/-- TB_CTL_SET (R112, R113). -/
def execTbCtlSet (clash : Bool) (m : Master) (priv : Bool) (s : State) : Result := s.run fun s => s.tbWrite true clash m priv

/-- TB_CTL_ADJ (R112, R113). -/
def execTbCtlAdj (clash : Bool) (m : Master) (priv : Bool) (s : State) : Result := s.run fun s => s.tbWrite false clash m priv

/-- TPO_START_WRITE (R115). -/
def execTpoStartWrite (n : Fin 4) (ws : List BusWrite) (s : State) : Result := s.run fun s => s.words (A.TIME_TPO_START_NS n.val) ws

/-- TPO_CTL_WRITE (R116). -/
def execTpoCtlWrite (n : Fin 4) (ws : List BusWrite) (s : State) : Result := s.run fun s => s.words (A.TIME_TPO_CTL n.val) ws

/-- TPO_REALIGN (R118). -/
def execTpoRealign (n : Fin 4) (m : Master) (priv : Bool) (s : State) : Result := s.run fun s => s.strike m priv A.CLK_REALIGN (2 ^ n.val)

/-- CAPQ_INFO_READ (R122). -/
def execCapqInfoRead (m : Master) (priv : Bool) (s : State) : Result := s.run fun s => s.busRead m priv A.TIME_CAPQ_INFO

/-! ### Clocking -/

/-- REF_CTL_WRITE (R134). -/
def execRefCtlWrite (ws : List BusWrite) (s : State) : Result := s.run fun s => s.words A.CLK_REF_CTL ws

/-- REALIGN_MEDIA (R148). -/
def execRealignMedia (m : Master) (priv : Bool) (s : State) : Result := s.run fun s => s.strike m priv A.CLK_REALIGN 16

/-- MEDIA_CFG_WRITE (R149). -/
def execMediaCfgWrite (ws : List BusWrite) (s : State) : Result := s.run fun s => s.words A.CLK_MEDIA_CFG ws

/-- MCLK_CFG_WRITE (R150). -/
def execMclkCfgWrite (ws : List BusWrite) (s : State) : Result := s.run fun s => s.words A.CLK_MCLK_CFG ws

/-! ### Streams and playout -/

/-- LISTENER_ENTRY_WRITE (R161): word `w` of entry `n`. -/
def execListenerEntryWrite (n : Nat) (w : Fin 16) (ws : List BusWrite) (s : State) : Result :=
  s.runIf (decide (n < s.streams)) fun s => s.words (A.TBL_LISTENER_W0 n + 4 * w.val) ws

/-- TALKER_ENTRY_WRITE (R164). -/
def execTalkerEntryWrite (n : Nat) (w : Fin 16) (ws : List BusWrite) (s : State) : Result :=
  s.runIf (decide (n < s.streams)) fun s => s.words (A.TBL_TALKER_W0 n + 4 * w.val) ws

/-- LAY_ENTRY_WRITE (R173). -/
def execLayEntryWrite (n : Nat) (w : Fin 8) (ws : List BusWrite) (s : State) : Result :=
  s.runIf (decide (n < s.lays)) fun s => s.words (A.TBL_LAY_W0 n + 4 * w.val) ws

/-- HOLD_CFG_WRITE (R186). -/
def execHoldCfgWrite (ws : List BusWrite) (s : State) : Result := s.run fun s => s.words A.STRM_HOLD_CFG ws

/-- PLAY_CFG_WRITE (R211). -/
def execPlayCfgWrite (ws : List BusWrite) (s : State) : Result := s.run fun s => s.words A.PLAY_CFG ws

/-- NOW_EF_READ (R212). -/
def execNowEfRead (m : Master) (priv : Bool) (s : State) : Result := s.run fun s => s.busRead m priv A.PLAY_NOW_EF

/-! ### Cores, placements and images -/

/-- PLACE_COMMIT (R231). -/
def execPlaceCommit (m : Master) (priv : Bool) (s : State) : Result := s.run fun s => s.strike m priv A.ENG_PLACE_CTL 1

/-- A command bit of CORE_CTLn. -/
def State.coreBit (s : State) (c bit : Nat) (m : Master) (priv : Bool) : State := s.strike m priv (A.ENG_CORE_CTL c) (2 ^ bit)

/-- CORE_STOP (R233). -/
def execCoreStop (c : Nat) (m : Master) (priv : Bool) (s : State) : Result := s.runIf (decide (c < s.cores)) fun s => s.coreBit c 0 m priv

/-- CORE_RESUME (R233). -/
def execCoreResume (c : Nat) (m : Master) (priv : Bool) (s : State) : Result := s.runIf (decide (c < s.cores)) fun s => s.coreBit c 1 m priv

/-- CORE_STEP (R281). -/
def execCoreStep (c : Nat) (m : Master) (priv : Bool) (s : State) : Result := s.runIf (decide (c < s.cores)) fun s => s.coreBit c 2 m priv

/-- CORE_RETIRE (R233). -/
def execCoreRetire (c : Nat) (m : Master) (priv : Bool) (s : State) : Result := s.runIf (decide (c < s.cores)) fun s => s.coreBit c 3 m priv

/-- CORE_CLEAR_RETIRE (R233). -/
def execCoreClearRetire (c : Nat) (m : Master) (priv : Bool) (s : State) : Result :=
  s.runIf (decide (c < s.cores)) fun s => s.coreBit c 4 m priv

/-- CORE_MEMORY_WRITE (R226): the word at byte offset `off` of the core's window. -/
def execCoreMemoryWrite (c : Nat) (off : Fin 0x20000) (ws : List BusWrite) (s : State) : Result :=
  s.runIf (decide (c < s.cores)) fun s => s.words (coreBase c + off.val) ws

/-- ENG_CFG_WRITE (R238). -/
def execEngCfgWrite (ws : List BusWrite) (s : State) : Result := s.run fun s => s.words A.ENG_CFG ws

/-- IMG_BEGIN (R287). -/
def execImgBegin (m : Master) (priv : Bool) (s : State) : Result := s.run fun s => s.strike m priv A.ENG_IMG_CTL 1

/-- IMG_INSTALL (R287). -/
def execImgInstall (m : Master) (priv : Bool) (s : State) : Result := s.run fun s => s.strike m priv A.ENG_IMG_CTL 2

/-- IMG_CHECK (R287). -/
def execImgCheck (m : Master) (priv : Bool) (s : State) : Result := s.run fun s => s.strike m priv A.ENG_IMG_CTL 4

/-- IMG_DATA_WRITE (R288). -/
def execImgDataWrite (w : Word) (m : Master) (priv : Bool) (s : State) : Result := s.run fun s => s.word m priv A.ENG_IMG_DATA w.toNat

/-! ### The mixer, the audio ports and the lines -/

/-- XPT_CFG_WRITE (R308). -/
def execXptCfgWrite (ws : List BusWrite) (s : State) : Result := s.run fun s => s.words A.XPT_CFG ws

/-- CROSSPOINT_WRITE (R201): word `w` of entry `n`. -/
def execCrosspointWrite (n : Nat) (w : Fin 4) (ws : List BusWrite) (s : State) : Result :=
  s.runIf (decide (n < s.xpts)) fun s => s.words (A.TBL_XP_W0 n + 4 * w.val) ws

/-- DLY_APERTURE_ACCESS (R316): a read, or a write of the words given, at byte offset `off` of the aperture. -/
def execDlyApertureAccess (off : Fin 0x800000) (m : Master) (priv : Bool) (w : Option Word) (s : State) : Result := s.run fun s =>
  match w with
  | none => s.busRead m priv (0x800000 + off.val)
  | some w => s.word m priv (0x800000 + off.val) w.toNat

/-- TDM_PORT_CFG_WRITE (R333). -/
def execTdmPortCfgWrite (n : Nat) (ws : List BusWrite) (s : State) : Result :=
  s.runIf (decide (n < s.tdmPorts)) fun s => s.words (A.TDM_PORT_CFG n) ws

/-- TDM_MUTE (R331). -/
def execTdmMute (n : Nat) (on : Bool) (m : Master) (priv : Bool) (s : State) : Result :=
  s.runIf (decide (n < s.tdmPorts)) fun s => s.strikeFld m priv (F.TDM_CTL_MUTE n) (if on then 1 else 0)

/-- TDM_LOOP (R336). -/
def execTdmLoop (n : Nat) (mode : Fin 4) (m : Master) (priv : Bool) (s : State) : Result :=
  s.runIf (decide (n < s.tdmPorts)) fun s => s.strikeFld m priv (F.TDM_CTL_LOOP n) mode.val

/-- TDM_MAP_WRITE (R334): word `k` of a port's output or input map. -/
def execTdmMapWrite (n : Nat) (output : Bool) (k : Fin 32) (ws : List BusWrite) (s : State) : Result :=
  s.runIf (decide (n < s.tdmPorts)) fun s => s.words (if output then A.TDM_OUT_MAP n k.val else A.TDM_IN_MAP n k.val) ws

/-- LINE_ENTRY_WRITE (R353). -/
def execLineEntryWrite (n : Nat) (w : Fin 16) (ws : List BusWrite) (s : State) : Result :=
  s.runIf (decide (n < s.lines)) fun s => s.words (A.TBL_PLINE_W0 n + 4 * w.val) ws

/-- PROOF.CMD with one command bit, on one line or on all. -/
def State.proofBit (s : State) (bit : Nat) (line : Fin 256) (all : Bool) (m : Master) (priv : Bool) : State :=
  let w := F.PROOF_CMD_ALL.into (s.asRead m priv A.PROOF_CMD) (if all then 1 else 0)
  s.word m priv A.PROOF_CMD (F.PROOF_CMD_LINE.into w line.val ||| 2 ^ bit)

/-- PROOF_CMD_COMMISSION (R351). -/
def execProofCmdCommission (line : Fin 256) (all : Bool) (m : Master) (priv : Bool) (s : State) : Result := s.run fun s =>
  s.proofBit 1 line all m priv

/-- PROOF_CMD_RETIRE (R359). -/
def execProofCmdRetire (line : Fin 256) (all : Bool) (m : Master) (priv : Bool) (s : State) : Result := s.run fun s =>
  s.proofBit 2 line all m priv

/-- PROOF_CMD_CLEAR (R359). -/
def execProofCmdClear (line : Fin 256) (all : Bool) (m : Master) (priv : Bool) (s : State) : Result := s.run fun s =>
  s.proofBit 3 line all m priv

/-- PROOF_CMD_RUN (R361). -/
def execProofCmdRun (m : Master) (priv : Bool) (s : State) : Result := s.run fun s => s.strike m priv A.PROOF_CMD 16

/-- PROOF_CMD_ABORT_RUN (R370). -/
def execProofCmdAbortRun (m : Master) (priv : Bool) (s : State) : Result := s.run fun s => s.strike m priv A.PROOF_CMD 32

/-- PROOF_CMD_PATH_CLEAR (R369). -/
def execProofCmdPathClear (m : Master) (priv : Bool) (s : State) : Result := s.run fun s => s.strike m priv A.PROOF_CMD 64

/-! ### Splice -/

/-- SPLICE_RETRAIN_UP (R393). -/
def execSpliceRetrainUp (m : Master) (priv : Bool) (s : State) : Result := s.run fun s => s.strike m priv A.SPLICE_CTL 1

/-- SPLICE_RETRAIN_DN (R393). -/
def execSpliceRetrainDn (m : Master) (priv : Bool) (s : State) : Result := s.run fun s => s.strike m priv A.SPLICE_CTL 2

/-- SPLICE_YIELD (R389). -/
def execSpliceYield (m : Master) (priv : Bool) (s : State) : Result := s.run fun s => s.strike m priv A.SPLICE_CTL 4

/-- SPLICE_CFG_WRITE (R393). -/
def execSpliceCfgWrite (ws : List BusWrite) (s : State) : Result := s.run fun s => s.words A.SPLICE_CFG ws

/-- FWD_WRITE (R391): WR, with FWD_ADDR and FWD_DATA as they stand. -/
def execFwdWrite (m : Master) (priv : Bool) (s : State) : Result := s.run fun s => s.strike m priv A.SPLICE_FWD_CTL 1

/-- FWD_READ (R391). -/
def execFwdRead (m : Master) (priv : Bool) (s : State) : Result := s.run fun s => s.strike m priv A.SPLICE_FWD_CTL 2

/-! ### The host, register access and queues -/

/-- FRAME_DB_TX (R411). -/
def execFrameDbTx (m : Master) (priv : Bool) (s : State) : Result := s.run fun s => s.strike m priv A.SYS_FRAME_DB 1

/-- MSIX_EOI (R438): the vectors of a function. -/
def execMsixEoi (f1 : Bool) (vecs : BitVec 16) (m : Master) (priv : Bool) (s : State) : Result := s.run fun s =>
  s.word m priv (A.SYS_MSIX_EOI (if f1 then 1 else 0)) vecs.toNat

/-- REGISTER_WRITE (R417): one cycle's writes of one word address. -/
def execRegisterWrite (adr : Nat) (ws : List BusWrite) (s : State) : Result := s.run fun s => s.words adr ws

/-- POSTED_WRITE_LAND (R414): the oldest write posted to a domain. -/
def execPostedWriteLand (domain : Fin 5) (s : State) : Result := s.run fun s => (s.landPost domain.val).startupEnd

/-- SLOW_DOMAIN_READ (R416). -/
def execSlowDomainRead (adr : Nat) (m : Master) (priv : Bool) (s : State) : Result := s.run fun s => s.busRead m priv adr

/-- HMQ_RD_DATA (R446). -/
def execHmqRdData (q : Fin 4) (m : Master) (priv : Bool) (s : State) : Result := s.run fun s => s.busRead m priv (A.HMQ_RD_DATA q.val)

/-- HMQ_FLUSH (R451). -/
def execHmqFlush (q : Fin 4) (m : Master) (priv : Bool) (s : State) : Result := s.run fun s => s.strike m priv (A.HMQ_CTL q.val) 1

/-! ### Management and self-test -/

/-- LOG_IDX_WRITE (R473). -/
def execLogIdxWrite (seq : Word) (m : Master) (priv : Bool) (s : State) : Result := s.run fun s => s.word m priv A.MGMT_LOG_IDX seq.toNat

/-- CFG_SAVE (R483). -/
def execCfgSave (m : Master) (priv : Bool) (s : State) : Result := s.run fun s => s.strike m priv A.MGMT_CFG_CTL 1

/-- KEY_COMMIT (R489). -/
def execKeyCommit (m : Master) (priv : Bool) (s : State) : Result := s.run fun s => s.strike m priv A.MGMT_KEY_CTL 1

/-- KEY_COMMIT_COMPLETE (R489): both copies are written, and sessions opened with the installer key close. -/
def execKeyCommitComplete (s : State) : Result := s.run fun s =>
  if s.mgmt.keyCommit.isSome then s.keyDone.closeInstaller else s

/-- FW_BEGIN (R492). -/
def execFwBegin (m : Master) (priv : Bool) (s : State) : Result := s.run fun s => s.strike m priv A.MGMT_FW_CTL 1

/-- FW_VERIFY (R492). -/
def execFwVerify (m : Master) (priv : Bool) (s : State) : Result := s.run fun s => s.strike m priv A.MGMT_FW_CTL 2

/-- FW_ACTIVATE (R493). -/
def execFwActivate (m : Master) (priv : Bool) (s : State) : Result := s.run fun s => s.strike m priv A.MGMT_FW_CTL 4

/-- FW_CONFIRM (R494). -/
def execFwConfirm (m : Master) (priv : Bool) (s : State) : Result := s.run fun s => s.strike m priv A.MGMT_FW_CTL 8

/-- FW_ABORT_TRIAL (R494). -/
def execFwAbortTrial (m : Master) (priv : Bool) (s : State) : Result := s.run fun s => s.strike m priv A.MGMT_FW_CTL 16

/-- FW_DATA_WRITE (R492). -/
def execFwDataWrite (w : Word) (m : Master) (priv : Bool) (s : State) : Result := s.run fun s => s.word m priv A.MGMT_FW_DATA w.toNat

/-- LIFETIME_COUNTER_LOW_READ (R478, R479): the low word of a lifetime counter, or of an MSTAT total. -/
def execLifetimeCounterLowRead (adr : Nat) (m : Master) (priv : Bool) (s : State) : Result := s.run fun s => s.busRead m priv adr

/-- TEST_START_CMD (R534). -/
def execTestStartCmd (mask : Word) (m : Master) (priv : Bool) (s : State) : Result := s.run fun s => s.word m priv A.TEST_START mask.toNat

/-- TEST_CLEAR (R532). -/
def execTestClear (mask : Word) (m : Master) (priv : Bool) (s : State) : Result := s.run fun s => s.word m priv A.TEST_CLEAR mask.toNat

/-- TEST_STOP (R534). -/
def execTestStop (m : Master) (priv : Bool) (s : State) : Result := s.run fun s => s.strike m priv A.TEST_CTL 1

/-- A program's code reads all zero in its core's instruction memory: a test has emptied it. -/
def State.codeGone (s : State) (c entry imem : Nat) : Bool :=
  (List.range (2 * imem)).all (fun k => s.memWord (coreBase c + 0x10000 + 8 * entry + 4 * k) == 0)

/-- After a CLUSTER test the MP writes the programs of the image in use back into the cores that the test emptied (R522). -/
def State.clusterRewrite (s : State) (cl : Nat) : State :=
  forN 64 (fun m s =>
    let c := s.fld (F.ENG_DESC_W0_CORE m)
    let entry := s.fld (F.ENG_DESC_W2_ENTRY m)
    let imem := s.fld (F.ENG_DESC_W2_IMEM_LEN m)
    if s.on (F.ENG_DESC_W0_PLACED m) && c / 4 == cl && s.codeGone c entry imem then
      match (imgProgs s.mgmt.image).find? (fun x => x.num == m && bitsOf (imgW x.body 2) 11 0 == imem) with
      | none => s
      | some x => (s.putCode c entry ((sectBody s.mgmt.image 3 (imgW x.body 7 % 65536)).getD [])).putInit c
          (s.fld (F.ENG_DESC_W3_STATE_BASE m)) (s.fld (F.ENG_DESC_W3_STATE_LEN m)) (imgInit s.mgmt.image x)
    else s) s

/-- The block last tested is re-initialised (R522): a TDM port's test fade ends, writes that landed meanwhile act, and a
cluster's programs are written back. -/
def State.testReinit (s : State) : State :=
  match s.test.reinit with
  | none => s
  | some b =>
    let s := (s.updTest (fun t => { t with reinit := none })).actOwed
    let s := s.when (Nat.ble 12 b && Nat.ble b 15) (fun s => s.clusterRewrite (b - 12))
    let s := s.when (Nat.ble 16 b) (fun s =>
      let n := b - 16
      let back := s.fld (F.TEST_RES_W0_STATE b) == 5 && s.fld (F.TEST_RES_W0_ABORT_WHY b) == 1
      let s := (s.tpUpd n (fun p => { p with testing := false })).tdmCauseOff n causeTest
      s.when back (fun s => s.tpUpd n (fun p => { p with clean := 2, dirty := false })))
    s.startupEnd

/-- TEST_REINIT_COMPLETE (R522). -/
def execTestReinitComplete (dt : Nat) (s : State) : Result := s.run fun s => (s.advance dt).testReinit

end Sys2Proof.Machine
end

