-- ==== Sys2Proof/Machine/Sched.lean ====
section
/-! DEFINITION. The scheduler (R465 to R468, R525). -/

namespace Sys2Proof.Machine

/-! ### Actions (R467) -/

/-- A block may be queued by a rotation step (R525). -/
def State.rotates (s : State) (b : Nat) : Bool :=
  blockPresent s.variant b && s.unitOn (blockUnit b) && s.testAllowedIn b s.modState && !(s.rd A.TEST_RETIRED).testBit b

/-- The block whose last PASS is oldest, the lower of two. -/
def State.oldestPass (s : State) : Option Nat :=
  ((List.range 32).filter s.rotates).foldl (fun best b => match best with
    | none => some b
    | some x => if getAt s.test.lastPass b 0 < getAt s.test.lastPass x 0 then some b else some x) none

/-- A rotation step: whether it queued a block, and the state after. -/
def State.rotation (s : State) (arg : Nat) : Bool × State :=
  let blocks := if arg = 0 then s.oldestPass.toList else (List.range 32).filter (fun b => arg.testBit b && s.rotates b)
  (!blocks.isEmpty, forL blocks (fun b s => s.testQueue b 2) s)

/-- A RUN would be refused (R17, R19). -/
def State.runRefused (s : State) : Bool :=
  let st := s.modState
  !(st == stRun || st == stReset || (st == stStaging && !s.test.startupDone)) && (s.noCluster || !s.mgmt.imageCert)

/-- What became of an action: done, refused by its target, or of no use now. -/
inductive Acted where
  | done
  | refused
  | ignored
  deriving DecidableEq, Repr

/-- An action that its target may refuse. -/
def actedIf (refused : Bool) (s : State) : Acted × State := (if refused then .refused else .done, s)

/-- The action of an entry (R467). -/
def State.schedAct (s : State) (n : Nat) : Acted × State :=
  let arg := s.rd (A.TBL_SCHED_W2 n)
  let st := s.modState
  match s.fld (F.TBL_SCHED_W0_KIND n) with
  | 1 => actedIf (s.runOn || !(st == stRun || st == stQuiet)) (s.runStart 4)
  | 2 =>
    if s.fld F.RING_BYPASS_JOIN_POLICY = 2 then (.done, s.when (s.ring.join == .schedule) State.joinDue)
    else (.ignored, s)
  | 3 =>
    let (any, s) := s.rotation arg
    actedIf (!any) s
  | 4 => actedIf (st != stQuiet && (st != stRun || s.class67)) (s.modCmd 5 4)
  | 5 => actedIf s.runRefused (s.modCmd 4 4)
  | 6 =>
    if s.mgmt.fw.pend && s.fld F.MGMT_FW_CTL_WHEN == 1 then (.done, s.updMgmt (fun m => { m with fw := { m.fw with go := true } }))
    else (.ignored, s)
  | 7 => (.done, s.requestSave)
  | _ => (.done, s)

/-! ### When an entry is due (R465, R468) -/

/-- Today as LAST_DAY counts it. -/
def State.today (s : State) : Int := s.localNow.fdiv 86400

/-- The days from 1970-01-01 to 2000-01-01. -/
def dayEpoch : Int := 10957

/-- The entry is a one-shot. -/
def State.oneShot (s : State) (n : Nat) : Bool :=
  s.fld (F.TBL_SCHED_W1_YEAR n) != 0 || s.fld (F.TBL_SCHED_W1_MONTH n) != 0 || s.fld (F.TBL_SCHED_W1_DAY n) != 0

/-- Today is a day of the entry. -/
def State.schedDay (s : State) (n : Nat) : Bool :=
  if s.oneShot n then
    dateOf s.today == (((s.fld (F.TBL_SCHED_W1_YEAR n) : Nat) : Int), ((s.fld (F.TBL_SCHED_W1_MONTH n) : Nat) : Int), ((s.fld (F.TBL_SCHED_W1_DAY n) : Nat) : Int))
  else (s.fld (F.TBL_SCHED_W0_DAYS n)).testBit (weekday s.today)

/-- Seconds since the entry's time of day was reached; negative before it. (DEDUCED, notes/assumptions/71.md.) -/
def State.schedLate (s : State) (n : Nat) : Int :=
  s.utcSecs + s.stdOff - s.stdOf (s.today * 86400 + (min 86399 (s.fld (F.TBL_SCHED_W0_TOD n)) : Nat))

/-- LAST_DAY of today. -/
def State.dayNo (s : State) : Nat := unsgn 16 (s.today - dayEpoch)

/-- The entry is due. (DEDUCED, notes/assumptions/71.md.) -/
def State.schedDue (s : State) (n : Nat) : Bool :=
  s.on (F.TBL_SCHED_W0_EN n) && s.schedDay n && decide (0 ≤ s.schedLate n) && s.fld (F.TBL_SCHED_W3_LAST_DAY n) != s.dayNo

/-! ### Firing (R468) -/

/-- An entry's outcome: RESULT, the log record, and EN of a one-shot that has acted. A log marker's record carries ARG. -/
def State.schedDone (s : State) (n result sev : Nat) (acted : Bool) : State :=
  let kind := s.fld (F.TBL_SCHED_W0_KIND n)
  let s := s.set (F.TBL_SCHED_W3_RESULT n) result
  let s := s.log 17 0x40 sev ([n, kind, result] ++ (if kind = 8 then [s.rd (A.TBL_SCHED_W2 n)] else []))
  s.when (acted && s.oneShot n) (fun s => s.set (F.TBL_SCHED_W0_EN n) 0)

/-- An entry fires, with RESULT 1, or 2 where it was passed; a refused action is retried.
(DEDUCED, notes/assumptions/71.md.) -/
def State.schedFire (s : State) (n : Nat) (passed : Bool) : State :=
  let s := s.set (F.TBL_SCHED_W3_LAST_DAY n) s.dayNo
  let up := s.time.up
  match s.schedAct n with
  | (.done, s) => s.schedDone n (if passed then 2 else 1) 0 true
  | (.ignored, s) => s.schedDone n 5 0 true
  | (.refused, s) => s.updMgmt (fun m => { m with schedRetry := m.schedRetry.filter (fun r => r.1 != n) ++ [(n, up)] })

/-- One entry is evaluated: on time, passed by at most an hour, or missed. -/
def State.schedEval (s : State) (n : Nat) : State :=
  if s.schedDue n then
    let late := s.schedLate n
    if 3600 < late then
      ((s.set (F.TBL_SCHED_W3_LAST_DAY n) s.dayNo).event F.MGMT_EVT_SCHED_MISSED).schedDone n 3 2 false
    else s.schedFire n (decide (0 < late))
  else s

/-- Each whole TAI second with the time known: the entries in ascending number. With time from a reference, the host or the
splice master, the time base is copied into the RTC (R462). -/
def State.schedTick (s : State) : State :=
  let src := s.fld F.MGMT_RTC_STATUS_SRC
  if src = 0 ∨ s.mgmt.started = false then s
  else
    let s := s.when (Nat.ble 2 src) (fun s => s.updMgmt (fun m => { m with rtcSec := s.time.tb / secU, rtcTick := s.time.tb % secU }))
    forN 64 (fun n s => s.schedEval n) s

/-- A refused action is tried again; after 60 min of refusals RESULT is 4. -/
def State.schedAgain (s : State) (n : Nat) : State :=
  let drop (s : State) : State := s.updMgmt (fun m => { m with schedRetry := m.schedRetry.filter (fun r => r.1 != n) })
  match s.mgmt.schedRetry.find? (fun r => r.1 == n) with
  | none => s
  | some (_, up) => match s.schedAct n with
    | (.done, s) => (drop s).schedDone n 1 0 true
    | (.ignored, s) => (drop s).schedDone n 5 0 true
    | (.refused, s) => if up + 3600 * secU ≤ s.time.up then (drop s).schedDone n 4 2 true else s

/-! ### The commands -/

/-- SCHEDULER_TICK (R468). -/
def execSchedulerTick (dt : Nat) (s : State) : Result := s.run fun s => (s.advance dt).schedTick

/-- SCHEDULER_RETRY (R468): 60 s after entry n's action was refused. -/
def execSchedulerRetry (n dt : Nat) (s : State) : Result := s.run fun s => (s.advance dt).schedAgain n

end Sys2Proof.Machine
end

