-- ==== Sys2Proof/Machine/Spi.lean ====
section
/-! DEFINITION. The SPI target: frames, their CRC-16 and their status (R400 to R402). -/

namespace Sys2Proof.Machine

/-- The quad SPI target's CRC-16, one bit, most significant first. -/
def crc16Bit (c : Nat) (b : Bool) : Nat :=
  let c' := (c * 2) % 65536
  if c.testBit 15 != b then c' ^^^ 0x1021 else c'

/-- The CRC-16 over bytes, from 0xFFFF (R400). -/
def crc16 (bytes : List Nat) : Nat :=
  bytes.foldl (fun c x => [7, 6, 5, 4, 3, 2, 1, 0].foldl (fun c k => crc16Bit c (x.testBit k)) c) 0xFFFF

/-- The header of a frame: the command byte, the address and the count. -/
structure SpiHead where
  read : Bool
  quad : Bool
  crc : Bool
  incr : Bool
  adr : Nat
  count : Nat

/-- Its bytes (R400). -/
def SpiHead.bytes (h : SpiHead) : List Nat :=
  [ofBits [false, false, false, false, h.incr, h.crc, h.quad, h.read],
   h.adr / 65536 % 256, h.adr / 256 % 256, h.adr % 256, (h.count + 255) % 256]

/-- A word's bytes, most significant first. -/
def wordBytes (w : Word) : List Nat := let n := w.toNat; [n / 2 ^ 24, n / 65536 % 256, n / 256 % 256, n % 256]

/-- The address of a frame's k-th word (R400). -/
def SpiHead.at (h : SpiHead) (k : Nat) : Nat := if h.incr then (h.adr + 4 * k) % 2 ^ 24 else h.adr % 2 ^ 24

/-- The module refuses the frame whole (R401), the header CRC apart. (DESIGN CHOICE, notes/assumptions/65.md.) -/
def State.spiRefuses (s : State) (h : SpiHead) : Bool := h.adr % 4 != 0 || (!h.crc && s.on F.SYS_SPI_CFG_CRC_REQ)

/-- The status byte (R402). -/
def spiStatus (refused lost priv acc crc : Bool) : Nat := 0x80 + ofBits [false, crc, acc, priv, lost, refused]

/-- A frame's counters (R413) and the module's part of it. (DESIGN CHOICE, notes/assumptions/65.md.) -/
def State.spiEnd (s : State) (marker : Option Nat) (words : List Word) (crc : Option Nat) (refused lost priv acc crcErr : Bool) :
    State :=
  let s := s.when crcErr (fun s => s.inc A.SYS_CNT_SPI_CRC_ERR)
  let s := s.when refused (fun s => s.inc A.SYS_CNT_SPI_REFUSED)
  { s with out := s.out ++ [Out.spi marker words crc (spiStatus refused lost priv acc crcErr)] }

/-- A frame at a misaligned address is an access fault (R402, R422). (DESIGN CHOICE, notes/assumptions/65.md.) -/
def State.spiFault (s : State) (adr : Nat) : State := s.when (adr % 4 != 0) (fun s => s.accFault .err .spi (adr % 2 ^ 24))

/-- The words of a read frame, fetched in order: the words, whether one was refused for privilege, and the state after. -/
def State.spiFetch (s : State) (h : SpiHead) : List Nat → List Word × Bool × State
  | [] => ([], false, s)
  | k :: t =>
    let a := h.at k
    let priv := s.masterPriv .spi false
    let no := !priv && (match rowAt s.variant a with
      | some r => r.allPrv
      | none => false)
    let (w, s) := s.busGet .spi false a
    let (ws, p, s) := s.spiFetch h t
    (BitVec.ofNat 32 w :: ws, no || p, s)

/-- The words of a write frame land in order: whether one was dropped at a slow domain, whether one was refused for privilege,
and the state after. (DESIGN CHOICE, notes/assumptions/65.md.) -/
def State.spiLand (s : State) (h : SpiHead) : List (Word × Nat) → Bool × Bool × State
  | [] => (false, false, s)
  | (w, k) :: t =>
    let a := h.at k
    let c := s.writeCode a (s.masterPriv .spi false) w.toNat
    let no := !s.masterPriv .spi false && (match rowAt s.variant a with
      | some r => w.toNat &&& r.prv != 0
      | none => c.testBit AccBit.priv.mask.log2)
    let s := s.busWrite .spi false a w
    let (l, p, s) := s.spiLand h t
    (c.testBit 16 || l, no || p, s)

/-- SPI_READ_FRAME (R401): `rx` is the header CRC as it arrives. -/
def execSpiReadFrame (dt adr count rx : Nat) (quad crc incr : Bool) (s : State) : Result := s.run fun s =>
  let s := (s.advance dt).spiFault adr
  let h : SpiHead := ⟨true, quad, crc, incr, adr, count⟩
  let crcErr := crc && rx != crc16 h.bytes
  if s.spiRefuses h || crcErr then s.spiEnd (some 0x5A) [] none true false false (adr % 4 != 0) crcErr
  else
    let (ws, priv, s) := s.spiFetch h (List.range count)
    s.spiEnd (some 0xA5) ws (if crc then some (crc16 (ws.map wordBytes).flatten) else none) false false priv false false

/-- SPI_WRITE_FRAME (R401): `words` are the words whose last bit arrives, `rx` the write CRC where it arrives; SPI_CS_N rising
before the frame's end leaves no status. -/
def execSpiWriteFrame (dt adr count : Nat) (rx : Option Nat) (quad crc incr : Bool) (words : List Word) (s : State) : Result :=
  s.run fun s =>
    let s := (s.advance dt).spiFault adr
    let h : SpiHead := ⟨false, quad, crc, incr, adr, count⟩
    let ws := words.take count
    let whole := ws.length == count && (!crc || rx.isSome)
    if s.spiRefuses h then
      if whole then s.spiEnd none [] none true false false (adr % 4 != 0) false else s.inc A.SYS_CNT_SPI_REFUSED
    else if !crc then
      let (lost, priv, s) := s.spiLand h ws.zipIdx
      if whole then s.spiEnd none [] none false lost priv false false else s
    else if !whole then s
    else if rx != some (crc16 (h.bytes ++ (ws.map wordBytes).flatten)) then s.spiEnd none [] none false false false false true
    else
      let (lost, priv, s) := s.spiLand h ws.zipIdx
      s.spiEnd none [] none false lost priv false false

end Sys2Proof.Machine
end

