-- ==== Sys2Proof/Machine/SpliceRx.lean ====
section
/-! DEFINITION. What a splice frame does where it arrives: roles and positions, time, audio and control records (R373, R374,
R377, R381, R387 to R392). -/

namespace Sys2Proof.Machine

/-- A frame fails its CRC (R377, R392): 16 in any 1,000 EFs retrain the port. -/
def State.spliceCrcErr (s : State) (p : Nat) : State :=
  let now := s.clk.lastEf
  let errs := now :: (s.sp p).crcEfs.filter (fun e => Nat.blt now (e + 1000))
  let s := (s.inc (A.SPLICE_CRC_ERR p)).spUpd p (fun x => { x with crcEfs := errs })
  let s := s.when (p == 0) (fun s => s.updSplice (fun x => { x with strapUp := none }))
  s.when (Nat.ble 16 errs.length) (fun s => s.spliceDown p)

/-! ### Control records (R387, R390, R391) -/

/-- A forwarded access acts here as an access by SCP: RESULT, the word read, and the state after. -/
def State.remoteAccess (s : State) (adr : Nat) (value : Option Nat) (priv : Bool) : Nat × Nat × State :=
  match value with
  | none =>
    let no := !priv && (match rowAt s.variant adr with
      | some r => r.allPrv
      | none => false)
    let (w, s) := s.busGet .scp priv adr
    (if no then 3 else 0, w, s)
  | some w =>
    let c := s.writeCode adr priv w
    (if c = 0x10000 then 4 else if c.testBit AccBit.priv.mask.log2 then 3 else 0, 0, s.busWrite .scp priv adr (BitVec.ofNat 32 w))

/-- A control record that arrives on a port. -/
def State.ctrlTake (s : State) (p : Nat) (c : Ctrl) : State :=
  match c with
  | .access src dst adr value priv =>
    if dst = s.position then
      let (r, w, s) := s.remoteAccess adr value priv
      s.ctrlSend p (.done src r w)
    else s.ctrlSend (1 - p) c
  | .done dst r w => if dst = s.position then s.fwdDone r w else s.ctrlSend (1 - p) c
  | .modCmd code => if p = 0 then (s.modCmd code 3).ctrlSend 1 c else s
  | .fault pos on => if s.leads then s.setBit F.SPLICE_STATUS_MEMBER_FAULT (pos % 4) on else s.ctrlSend (1 - p) c
  | .mp dst => if dst = s.position then s else s.ctrlSend (1 - p) c

/-! ### Roles (R373, R374, R388, R389) -/

/-- The module is excluded from the stack, with the event that says why. -/
def State.spliceExclude (s : State) (why : Fld) : State :=
  if s.role = roleExcluded then s else (s.alignLost.setRole roleExcluded).event why

/-- The SPLICE reference returns after a loss (R134, R383). -/
def State.spliceRefBack (s : State) : State :=
  if s.splice.upLost then
    ((s.updSplice (fun x => { x with upLost := false })).set (F.CLK_REF_INFO_STATE 7) 2).set (F.CLK_REF_INFO_WHY 7) 0
  else s

/-- The master's time disagrees with the frame before beyond the EFs between them: a jump to it (R392).
(DEDUCED, notes/assumptions/63.md.) -/
def State.spliceStep (s : State) (was : Option SpliceFrame) (f : SpliceFrame) : State :=
  match was with
  | none => s
  | some w =>
    let due : Int := w.time + ((f.ef : Int) - w.ef) * (s.efLen * secU / s.fs : Nat)
    if s.on F.SPLICE_STATUS_ALIGNED ∧ (f.epoch ≠ w.epoch ∨ secU ≤ ((f.time : Int) - due).natAbs) then
      match s.syncRef with
      | none => s
      | some (up, _, t) => s.jump (t + (s.time.up - up) - s.time.tb - s.time.jumps.sum - s.time.slew)
    else s

/-- A member hears its master's frame on UP. -/
def State.spliceFollow (s : State) (was : Option SpliceFrame) (f : SpliceFrame) : State :=
  let s := s.updSplice (fun x => { x with masterClk := f.clk })
  let s := s.when (!f.upLost) (fun s => s.spUpd 0 (fun x => { x with frameUp := some s.time.up }))
  if 3 ≤ f.pos then s.spliceExclude F.SPLICE_EVT_CHAIN_LONG
  else
    let s := (s.keep F.SPLICE_STATUS_POSITION (f.pos + 1)).keep F.SPLICE_STATUS_STACK_SIZE (min 4 f.size)
    if f.rate ≠ s.fld F.CLK_MEDIA_CFG_RATE then s.spliceExclude F.SPLICE_EVT_RATE_MISMATCH
    else if f.upLost then s
    else
      let s := s.when (s.role == roleUnlinked || s.role == roleExcluded || s.role == roleMaster) (fun s => s.setRole roleAligning)
      (s.spliceRefBack.followSplice.selectSplice).spliceStep was f

/-- The frame is a strapped master's, or leads to one. -/
def ledByMaster (f : SpliceFrame) : Bool := !f.acting && !f.upLost

/-- An acting master notes since when strapped-master frames have come without a break (R389).
(DEDUCED, notes/assumptions/63.md.) -/
def State.strapWatch (s : State) (prev : Option Nat) (f : SpliceFrame) : State :=
  let since := match s.splice.strapUp with
    | none => s.time.up
    | some t => if prev = some (f.ef - 1) then t else s.time.up
  s.updSplice (fun x => { x with strapUp := if ledByMaster f then some since else none })

/-- A valid frame on UP. -/
def State.spliceHearUp (s : State) (prev : Option Nat) (was : Option SpliceFrame) (f : SpliceFrame) : State :=
  if s.role = roleActing then s.strapWatch prev f
  else if s.on F.SPLICE_STATUS_STRAP && !s.splice.asMember then
    if ledByMaster f then
      ((s.updSplice (fun x => { x with asMember := true })).event F.SPLICE_EVT_STRAP_CONFLICT).spliceFollow was f
    else s
  else s.spliceFollow was f

/-- A valid frame on DN: a leader learns the stack's size; a strapped master hears an acting master and runs alone (R389). -/
def State.spliceHearDn (s : State) (f : SpliceFrame) : State :=
  if !s.leads then s
  else s.keep F.SPLICE_STATUS_STACK_SIZE (if s.role = roleMaster ∧ f.acting = true then 1 else min 4 (1 + f.size))

/-! ### Audio (R381) -/

/-- The module takes the audio of a port's frame. -/
def State.spliceListens (s : State) (p : Nat) (f : SpliceFrame) : Bool :=
  s.play.running && s.modState == stRun && s.role != roleExcluded &&
    (if p = 0 then s.on F.SPLICE_STATUS_ALIGNED else !(s.role == roleMaster && f.acting))

/-- A position's samples are written at their chain indices; an absent one is written as zero and counts. -/
def State.splicePos (s : State) (p : Nat) (f : SpliceFrame) (n slot : Nat) : State :=
  let q := (f.ef + s.play.slack + 2) * s.efLen
  match (f.audio.find? (fun a => a.1 == n)).map Prod.snd with
  | none => (s.zeroEf slot (f.ef + s.play.slack + 2)).inc (A.SPLICE_FRAME_MISS p)
  | some ws => forN s.efLen (fun j s => s.putSample slot (q + j : Nat) (getAt ws j 0)) s

/-- The audio of a frame. -/
def State.spliceAudio (s : State) (p : Nat) (f : SpliceFrame) : State :=
  if s.spliceListens p f then forL (s.rxSlots p) (fun x s => s.splicePos p f x.1 x.2) s else s

/-! ### The command -/

/-- SPLICE_FRAME_RX (R377). -/
def execSpliceFrameRx (dt : Nat) (p : Splice) (f : SpliceFrame) (s : State) : Result := s.run fun s =>
  let s := s.advance dt
  let p := p.idx
  if !s.spliceOn || !s.spliceUp p then s
  else if !f.crcOk then s.spliceCrcErr p
  else
    let prev := ((s.sp p).heard).map Prod.fst
    let was := (s.sp p).frame
    let s := (s.inc (A.SPLICE_FRAMES_RX p)).takeEcho p f.echo
    let s := s.spUpd p (fun x => { x with heard := some (f.ef, s.time.up), frame := some f })
    let s := s.passOn (1 - p) f
    let s := if p = 0 then s.spliceHearUp prev was f else s.spliceHearDn f
    forL f.ctrl (fun c s => s.ctrlTake p c) (s.spliceAudio p f)

end Sys2Proof.Machine
end

