-- ==== Sys2Proof/Machine/TimeCmd.lean ====
section
/-! DEFINITION. The events of the time base, the time pulse outputs and the capture inputs (R108 to R123). -/

namespace Sys2Proof.Machine

/-- STRM_ADJ follows a step or a slew start at the boundary (R111): the chain's displacement is read from the time base,
so nothing else is posted. The jumps take effect at the EF boundary. -/
def execTimeJumpApply (s : State) : Result := s.run fun s => (s.when s.clk.running State.toBoundary).jumpApply

/-- Time in units of 2^-16 ns until a slew in progress has absorbed its Δ. -/
def State.slewLeft (s : State) : Nat := s.time.slew.natAbs * 200000 - s.time.slewAcc

/-- SLEW_COMPLETE (R108): time passes until the slew's Δ is absorbed. -/
def execSlewComplete (s : State) : Result := s.run fun s =>
  s.when (s.time.slew != 0) (fun s => s.advance s.slewLeft)

/-- TPO_ONE_SHOT_FIRE (R117): an armed one-shot fires once the time base is at or past its start. -/
def execTpoOneShotFire (n dt : Nat) (s : State) : Result := s.runIf (decide (n < 4)) fun s =>
  let s := s.advance dt
  let t := getAt s.time.tpo n Tpo.reset
  s.when (t.armed && decide (t.startNs * nsU ≤ s.time.tb)) (fun s => s.tpoFire n false)

/-- TPO_PERIODIC_EDGE (R118). -/
def execTpoPeriodicEdge (n : Nat) (s : State) : Result := s.runIf (decide (n < 4)) fun s => s.tpoEdge n

/-- TPO_PULSE_END (R116). -/
def execTpoPulseEnd (n dt : Nat) (s : State) : Result := s.runIf (decide (n < 4)) fun s =>
  (s.advance dt).updTime (fun x => { x with tpo := updAt x.tpo n (fun t => { t with pulse := false }) })

/-- TPI_CAPTURE (R120, R121): an edge on input n; `popped` says that an entry is popped in the same cycle. -/
def execTpiCapture (n : Nat) (rise popped : Bool) (dt : Nat) (s : State) : Result := s.runIf (decide (n < 4)) fun s =>
  let s := s.advance dt
  let s := if popped then (s.capqPop).2 else s
  s.tpiEdge n rise popped

end Sys2Proof.Machine
end

