-- ==== Sys2Proof/Machine/Dispatch.lean ====
section
/-! DEFINITION. One arm per command: a call of its meaning. -/

namespace Sys2Proof.Machine

/-- What a command does to the module, the queue of waiting commands apart. -/
def exec (i : Instr) (s : State) : Host.Outcome State Fault Refusal :=
  match i with
  | .powerOn rtc => Sys2Proof.Machine.execPowerOn rtc s
  | .pdClassification p cls => Sys2Proof.Machine.execPdClassification p cls s
  | .supplyingInputChange p => Sys2Proof.Machine.execSupplyingInputChange p s
  | .limitedRetrainTimer => Sys2Proof.Machine.execLimitedRetrainTimer s
  | .inputPowerLoss dt => Sys2Proof.Machine.execInputPowerLoss dt s
  | .bootRomStart hostPriv strap => Sys2Proof.Machine.execBootRomStart hostPriv strap s
  | .firmwareStart => Sys2Proof.Machine.execFirmwareStart s
  | .stagingStart => Sys2Proof.Machine.execStagingStart s
  | .unitPowerGood u => Sys2Proof.Machine.execUnitPowerGood u s
  | .stageIntervalExpiry => Sys2Proof.Machine.execStageIntervalExpiry s
  | .unitPowerGoodTimeout u => Sys2Proof.Machine.execUnitPowerGoodTimeout u s
  | .stageRetryTimer u => Sys2Proof.Machine.execStageRetryTimer u s
  | .readyEntry => Sys2Proof.Machine.execReadyEntry s
  | .modCmdRun m priv => Sys2Proof.Machine.execModCmdRun m priv s
  | .modCmdQuiet m priv => Sys2Proof.Machine.execModCmdQuiet m priv s
  | .modCmdReady m priv => Sys2Proof.Machine.execModCmdReady m priv s
  | .modCmdInvalid code m priv => Sys2Proof.Machine.execModCmdInvalid code m priv s
  | .runHoldRelease => Sys2Proof.Machine.execRunHoldRelease s
  | .quietEntryComplete => Sys2Proof.Machine.execQuietEntryComplete s
  | .wakeRestageComplete => Sys2Proof.Machine.execWakeRestageComplete s
  | .resetControl m priv => Sys2Proof.Machine.execResetControl m priv s
  | .resetNPin lowNs => Sys2Proof.Machine.execResetNPin lowNs s
  | .mpWatchdogExpiry => Sys2Proof.Machine.execMpWatchdogExpiry s
  | .pwrCtlRetry m priv => Sys2Proof.Machine.execPwrCtlRetry m priv s
  | .auxRestart m priv => Sys2Proof.Machine.execAuxRestart m priv s
  | .auxOverload => Sys2Proof.Machine.execAuxOverload s
  | .auxAutoRestart => Sys2Proof.Machine.execAuxAutoRestart s
  | .auxRestartHold => Sys2Proof.Machine.execAuxRestartHold s
  | .holdArmedChange armed => Sys2Proof.Machine.execHoldArmedChange armed s
  | .thermalCritical => Sys2Proof.Machine.execThermalCritical s
  | .thermalShutdown dt => Sys2Proof.Machine.execThermalShutdown dt s
  | .thermalRestart => Sys2Proof.Machine.execThermalRestart s
  | .sensorSample vals => Sys2Proof.Machine.execSensorSample vals s
  | .portCfgWrite p ws => Sys2Proof.Machine.execPortCfgWrite p ws s
  | .autonegTrainingFail p rate => Sys2Proof.Machine.execAutonegTrainingFail p rate s
  | .linkUp p rate dt => Sys2Proof.Machine.execLinkUp p rate dt s
  | .linkDown p dt => Sys2Proof.Machine.execLinkDown p dt s
  | .holdDownEnd p dt => Sys2Proof.Machine.execHoldDownEnd p dt s
  | .holdLevelDecay p => Sys2Proof.Machine.execHoldLevelDecay p s
  | .flapRelease p m priv => Sys2Proof.Machine.execFlapRelease p m priv s
  | .ringFrameRx dt portB f => Sys2Proof.Machine.execRingFrameRx dt portB f s
  | .spurFrameRx dt f => Sys2Proof.Machine.execSpurFrameRx dt f s
  | .frameTransmit dt p => Sys2Proof.Machine.execFrameTransmit dt p s
  | .bypassJoinNow m priv => Sys2Proof.Machine.execBypassJoinNow m priv s
  | .bypassForceClose on m priv => Sys2Proof.Machine.execBypassForceClose on m priv s
  | .bypassJoinDelayExpiry => Sys2Proof.Machine.execBypassJoinDelayExpiry s
  | .bypassContactsSettled => Sys2Proof.Machine.execBypassContactsSettled s
  | .cbsWrite p ws => Sys2Proof.Machine.execCbsWrite p ws s
  | .qbvSwap b m priv => Sys2Proof.Machine.execQbvSwap b m priv s
  | .qbvCycleStart b dt => Sys2Proof.Machine.execQbvCycleStart b dt s
  | .qbvEntryExpiry b dt => Sys2Proof.Machine.execQbvEntryExpiry b dt s
  | .qbvCycleCut b dt => Sys2Proof.Machine.execQbvCycleCut b dt s
  | .qbvEntryWrite k ws => Sys2Proof.Machine.execQbvEntryWrite k ws s
  | .pauseRepeat p => Sys2Proof.Machine.execPauseRepeat p s
  | .pauseWmWrite ws => Sys2Proof.Machine.execPauseWmWrite ws s
  | .pauseQuantaExpiry p dt => Sys2Proof.Machine.execPauseQuantaExpiry p dt s
  | .counterRead adr m priv => Sys2Proof.Machine.execCounterRead adr m priv s
  | .phyDataWrite p mmd reg val => Sys2Proof.Machine.execPhyDataWrite p mmd reg val s
  | .tbNsRead m priv => Sys2Proof.Machine.execTbNsRead m priv s
  | .announceReceiptTimeout p => Sys2Proof.Machine.execAnnounceReceiptTimeout p s
  | .pdelayReqTimer p dt => Sys2Proof.Machine.execPdelayReqTimer p dt s
  | .delayReqTimer dt => Sys2Proof.Machine.execDelayReqTimer dt s
  | .syncOriginate dt => Sys2Proof.Machine.execSyncOriginate dt s
  | .announceOriginate dt => Sys2Proof.Machine.execAnnounceOriginate dt s
  | .twoStepEntryExpiry p dt => Sys2Proof.Machine.execTwoStepEntryExpiry p dt s
  | .tsQueueEntryFree => Sys2Proof.Machine.execTsQueueEntryFree s
  | .ptpCfgWrite ws => Sys2Proof.Machine.execPtpCfgWrite ws s
  | .twinWindowEnd dt => Sys2Proof.Machine.execTwinWindowEnd dt s
  | .twinPathLoss b => Sys2Proof.Machine.execTwinPathLoss b s
  | .twinPrefWrite pref m priv => Sys2Proof.Machine.execTwinPrefWrite pref m priv s
  | .timeJumpApply => Sys2Proof.Machine.execTimeJumpApply s
  | .slewComplete => Sys2Proof.Machine.execSlewComplete s
  | .tbCtlSet clash m priv => Sys2Proof.Machine.execTbCtlSet clash m priv s
  | .tbCtlAdj clash m priv => Sys2Proof.Machine.execTbCtlAdj clash m priv s
  | .tpoStartWrite n ws => Sys2Proof.Machine.execTpoStartWrite n ws s
  | .tpoCtlWrite n ws => Sys2Proof.Machine.execTpoCtlWrite n ws s
  | .tpoOneShotFire n dt => Sys2Proof.Machine.execTpoOneShotFire n dt s
  | .tpoPeriodicEdge n => Sys2Proof.Machine.execTpoPeriodicEdge n s
  | .tpoRealign n m priv => Sys2Proof.Machine.execTpoRealign n m priv s
  | .tpiCapture n rise popped dt => Sys2Proof.Machine.execTpiCapture n rise popped dt s
  | .capqInfoRead m priv => Sys2Proof.Machine.execCapqInfoRead m priv s
  | .refEdge r dt => Sys2Proof.Machine.execRefEdge r dt s
  | .refMissingEdge r dt => Sys2Proof.Machine.execRefMissingEdge r dt s
  | .todSentenceRx utc checksumOk => Sys2Proof.Machine.execTodSentenceRx utc checksumOk s
  | .refQualify r => Sys2Proof.Machine.execRefQualify r s
  | .revertWaitExpiry => Sys2Proof.Machine.execRevertWaitExpiry s
  | .refSwitch => Sys2Proof.Machine.execRefSwitch s
  | .dpllBandwidthStep => Sys2Proof.Machine.execDpllBandwidthStep s
  | .dpllLock => Sys2Proof.Machine.execDpllLock s
  | .dpllLockLoss errNs => Sys2Proof.Machine.execDpllLockLoss errNs s
  | .refVote => Sys2Proof.Machine.execRefVote s
  | .driftLimitCheck freqs => Sys2Proof.Machine.execDriftLimitCheck freqs s
  | .historyWrite mean phaseNs dt => Sys2Proof.Machine.execHistoryWrite mean phaseNs dt s
  | .refAlmRelease => Sys2Proof.Machine.execRefAlmRelease s
  | .refCtlWrite ws => Sys2Proof.Machine.execRefCtlWrite ws s
  | .realignMedia m priv => Sys2Proof.Machine.execRealignMedia m priv s
  | .realignMove => Sys2Proof.Machine.execRealignMove s
  | .mediaCfgWrite ws => Sys2Proof.Machine.execMediaCfgWrite ws s
  | .mclkCfgWrite ws => Sys2Proof.Machine.execMclkCfgWrite ws s
  | .listenerEntryWrite n w ws => Sys2Proof.Machine.execListenerEntryWrite n w ws s
  | .talkerEntryWrite n w ws => Sys2Proof.Machine.execTalkerEntryWrite n w ws s
  | .layEntryWrite n w ws => Sys2Proof.Machine.execLayEntryWrite n w ws s
  | .arrivalHoldRelease dt => Sys2Proof.Machine.execArrivalHoldRelease dt s
  | .layIdle n dt => Sys2Proof.Machine.execLayIdle n dt s
  | .listenerActiveTimeout n dt => Sys2Proof.Machine.execListenerActiveTimeout n dt s
  | .presOffsetChange n => Sys2Proof.Machine.execPresOffsetChange n s
  | .slipAllChange n => Sys2Proof.Machine.execSlipAllChange n s
  | .membershipRepeat n dt => Sys2Proof.Machine.execMembershipRepeat n dt s
  | .queryResponse => Sys2Proof.Machine.execQueryResponse s
  | .snoopJoinExpiry group dt => Sys2Proof.Machine.execSnoopJoinExpiry group dt s
  | .sapAnnounce n => Sys2Proof.Machine.execSapAnnounce n s
  | .holdCfgWrite ws => Sys2Proof.Machine.execHoldCfgWrite ws s
  | .efTick hv => Sys2Proof.Machine.execEfTick hv s
  | .runPlayStart => Sys2Proof.Machine.execRunPlayStart s
  | .efTriggerStop => Sys2Proof.Machine.execEfTriggerStop s
  | .computationStart dt => Sys2Proof.Machine.execComputationStart dt s
  | .segmentBarrier dt => Sys2Proof.Machine.execSegmentBarrier dt s
  | .computationComplete dt ns cycles => Sys2Proof.Machine.execComputationComplete dt ns cycles s
  | .playCfgWrite ws => Sys2Proof.Machine.execPlayCfgWrite ws s
  | .nowEfRead m priv => Sys2Proof.Machine.execNowEfRead m priv s
  | .coreOverrun c => Sys2Proof.Machine.execCoreOverrun c s
  | .forcedHalt c => Sys2Proof.Machine.execForcedHalt c s
  | .placeCommit m priv => Sys2Proof.Machine.execPlaceCommit m priv s
  | .placementApply => Sys2Proof.Machine.execPlacementApply s
  | .remap => Sys2Proof.Machine.execRemap s
  | .coreStop c m priv => Sys2Proof.Machine.execCoreStop c m priv s
  | .coreResume c m priv => Sys2Proof.Machine.execCoreResume c m priv s
  | .coreStep c m priv => Sys2Proof.Machine.execCoreStep c m priv s
  | .coreRetire c m priv => Sys2Proof.Machine.execCoreRetire c m priv s
  | .coreClearRetire c m priv => Sys2Proof.Machine.execCoreClearRetire c m priv s
  | .coreMemoryWrite c off ws => Sys2Proof.Machine.execCoreMemoryWrite c off ws s
  | .engCfgWrite ws => Sys2Proof.Machine.execEngCfgWrite ws s
  | .dlyTransferComplete c corrected bad dt => Sys2Proof.Machine.execDlyTransferComplete c corrected bad dt s
  | .nop c sl => Sys2Proof.Machine.execNop c sl s
  | .undefinedWord c sl => Sys2Proof.Machine.execUndefinedWord c sl s
  | .add c sl pr d a b => Sys2Proof.Machine.execAdd c sl pr d a b s
  | .sub c sl pr d a b => Sys2Proof.Machine.execSub c sl pr d a b s
  | .and c sl pr d a b => Sys2Proof.Machine.execAnd c sl pr d a b s
  | .or c sl pr d a b => Sys2Proof.Machine.execOr c sl pr d a b s
  | .xor c sl pr d a b => Sys2Proof.Machine.execXor c sl pr d a b s
  | .andn c sl pr d a b => Sys2Proof.Machine.execAndn c sl pr d a b s
  | .shl c sl pr d a b => Sys2Proof.Machine.execShl c sl pr d a b s
  | .shr c sl pr d a b => Sys2Proof.Machine.execShr c sl pr d a b s
  | .sar c sl pr d a b => Sys2Proof.Machine.execSar c sl pr d a b s
  | .min c sl pr d a b => Sys2Proof.Machine.execMin c sl pr d a b s
  | .max c sl pr d a b => Sys2Proof.Machine.execMax c sl pr d a b s
  | .minu c sl pr d a b => Sys2Proof.Machine.execMinu c sl pr d a b s
  | .maxu c sl pr d a b => Sys2Proof.Machine.execMaxu c sl pr d a b s
  | .addi c sl pr d a imm => Sys2Proof.Machine.execAddi c sl pr d a imm s
  | .andi c pr d a imm => Sys2Proof.Machine.execAndi c pr d a imm s
  | .ori c pr d a imm => Sys2Proof.Machine.execOri c pr d a imm s
  | .xori c pr d a imm => Sys2Proof.Machine.execXori c pr d a imm s
  | .shli c sl pr d a n => Sys2Proof.Machine.execShli c sl pr d a n s
  | .shri c sl pr d a n => Sys2Proof.Machine.execShri c sl pr d a n s
  | .sari c sl pr d a n => Sys2Proof.Machine.execSari c sl pr d a n s
  | .movi c sl pr d imm => Sys2Proof.Machine.execMovi c sl pr d imm s
  | .movhi c pr d imm => Sys2Proof.Machine.execMovhi c pr d imm s
  | .padd c pr d a imm => Sys2Proof.Machine.execPadd c pr d a imm s
  | .movDD c pr d a => Sys2Proof.Machine.execMovDD c pr d a s
  | .movDP c pr d a => Sys2Proof.Machine.execMovDP c pr d a s
  | .movPD c pr d a => Sys2Proof.Machine.execMovPD c pr d a s
  | .movDLc c pr d a => Sys2Proof.Machine.execMovDLc c pr d a s
  | .movDSf c pr d => Sys2Proof.Machine.execMovDSf c pr d s
  | .clrSf c pr => Sys2Proof.Machine.execClrSf c pr s
  | .movDF c pr d => Sys2Proof.Machine.execMovDF c pr d s
  | .movFD c pr a => Sys2Proof.Machine.execMovFD c pr a s
  | .cmp c pr cc f a b => Sys2Proof.Machine.execCmp c pr cc f a b s
  | .cmpi c pr cc f a imm => Sys2Proof.Machine.execCmpi c pr cc f a imm s
  | .pand c pr d a b => Sys2Proof.Machine.execPand c pr d a b s
  | .por c pr d a b => Sys2Proof.Machine.execPor c pr d a b s
  | .pxor c pr d a b => Sys2Proof.Machine.execPxor c pr d a b s
  | .pandn c pr d a b => Sys2Proof.Machine.execPandn c pr d a b s
  | .pnot c pr d a => Sys2Proof.Machine.execPnot c pr d a s
  | .pclr c pr d => Sys2Proof.Machine.execPclr c pr d s
  | .pset c pr d => Sys2Proof.Machine.execPset c pr d s
  | .sel c sl pr d f a b => Sys2Proof.Machine.execSel c sl pr d f a b s
  | .ldW c pr post d b off ecc => Sys2Proof.Machine.execLdW c pr post d b off ecc s
  | .stW c pr post d b off ecc => Sys2Proof.Machine.execStW c pr post d b off ecc s
  | .ldH c pr post d b off ecc => Sys2Proof.Machine.execLdH c pr post d b off ecc s
  | .stH c pr post d b off ecc => Sys2Proof.Machine.execStH c pr post d b off ecc s
  | .busLd c pr d b mode rel => Sys2Proof.Machine.execBusLd c pr d b mode rel s
  | .busSt c pr d b mode => Sys2Proof.Machine.execBusSt c pr d b mode s
  | .dlyRd c pr b line n => Sys2Proof.Machine.execDlyRd c pr b line n s
  | .dlyWr c pr b line => Sys2Proof.Machine.execDlyWr c pr b line s
  | .dlyWait c pr => Sys2Proof.Machine.execDlyWait c pr s
  | .tblLd c pr d a => Sys2Proof.Machine.execTblLd c pr d a s
  | .ctlWr c pr f a v => Sys2Proof.Machine.execCtlWr c pr f a v s
  | .msgPush c pr f b h words => Sys2Proof.Machine.execMsgPush c pr f b h words s
  | .br c pr off => Sys2Proof.Machine.execBr c pr off s
  | .endEf c pr => Sys2Proof.Machine.execEndEf c pr s
  | .mulQ31 c pr d a b => Sys2Proof.Machine.execMulQ31 c pr d a b s
  | .mulQ30 c pr d a b => Sys2Proof.Machine.execMulQ30 c pr d a b s
  | .mulI c pr d a b => Sys2Proof.Machine.execMulI c pr d a b s
  | .mulhI c pr d a b => Sys2Proof.Machine.execMulhI c pr d a b s
  | .mpyQ31 c pr d a b => Sys2Proof.Machine.execMpyQ31 c pr d a b s
  | .macQ31 c pr d a b => Sys2Proof.Machine.execMacQ31 c pr d a b s
  | .msuQ31 c pr d a b => Sys2Proof.Machine.execMsuQ31 c pr d a b s
  | .mpyQ30 c pr d a b => Sys2Proof.Machine.execMpyQ30 c pr d a b s
  | .macQ30 c pr d a b => Sys2Proof.Machine.execMacQ30 c pr d a b s
  | .msuQ30 c pr d a b => Sys2Proof.Machine.execMsuQ30 c pr d a b s
  | .accClr c pr d => Sys2Proof.Machine.execAccClr c pr d s
  | .accLdQ31 c pr d a => Sys2Proof.Machine.execAccLdQ31 c pr d a s
  | .accLdw c pr d a b => Sys2Proof.Machine.execAccLdw c pr d a b s
  | .accAdd c pr d a => Sys2Proof.Machine.execAccAdd c pr d a s
  | .accSub c pr d a => Sys2Proof.Machine.execAccSub c pr d a s
  | .accShr c pr d n => Sys2Proof.Machine.execAccShr c pr d n s
  | .accRdQ31 c pr d a n => Sys2Proof.Machine.execAccRdQ31 c pr d a n s
  | .accRdHi c pr d a => Sys2Proof.Machine.execAccRdHi c pr d a s
  | .accRdLo c pr d a => Sys2Proof.Machine.execAccRdLo c pr d a s
  | .addS c pr d a b => Sys2Proof.Machine.execAddS c pr d a b s
  | .subS c pr d a b => Sys2Proof.Machine.execSubS c pr d a b s
  | .negS c pr d a => Sys2Proof.Machine.execNegS c pr d a s
  | .absS c pr d a => Sys2Proof.Machine.execAbsS c pr d a s
  | .shlS c pr d a n => Sys2Proof.Machine.execShlS c pr d a n s
  | .add2S c pr d a b => Sys2Proof.Machine.execAdd2S c pr d a b s
  | .sub2S c pr d a b => Sys2Proof.Machine.execSub2S c pr d a b s
  | .mul2Q15 c pr d a b => Sys2Proof.Machine.execMul2Q15 c pr d a b s
  | .max2 c pr d a b => Sys2Proof.Machine.execMax2 c pr d a b s
  | .min2 c pr d a b => Sys2Proof.Machine.execMin2 c pr d a b s
  | .abs2S c pr d a => Sys2Proof.Machine.execAbs2S c pr d a s
  | .packHh c pr d a b => Sys2Proof.Machine.execPackHh c pr d a b s
  | .unpkHi c pr d a => Sys2Proof.Machine.execUnpkHi c pr d a s
  | .unpkLo c pr d a => Sys2Proof.Machine.execUnpkLo c pr d a s
  | .sinQ31 c pr d a => Sys2Proof.Machine.execSinQ31 c pr d a s
  | .cosQ31 c pr d a => Sys2Proof.Machine.execCosQ31 c pr d a s
  | .loopI c n count body => Sys2Proof.Machine.execLoopI c n count body s
  | .loopR c n a top body => Sys2Proof.Machine.execLoopR c n a top body s
  | .imgBegin m priv => Sys2Proof.Machine.execImgBegin m priv s
  | .imgDataWrite w m priv => Sys2Proof.Machine.execImgDataWrite w m priv s
  | .imgCheck m priv => Sys2Proof.Machine.execImgCheck m priv s
  | .imgInstall m priv => Sys2Proof.Machine.execImgInstall m priv s
  | .imageCheckComplete => Sys2Proof.Machine.execImageCheckComplete s
  | .installHoldRelease => Sys2Proof.Machine.execInstallHoldRelease s
  | .meterPeriodClose => Sys2Proof.Machine.execMeterPeriodClose s
  | .xptCfgWrite ws => Sys2Proof.Machine.execXptCfgWrite ws s
  | .crosspointWrite n w ws => Sys2Proof.Machine.execCrosspointWrite n w ws s
  | .dlyApertureAccess off m priv w => Sys2Proof.Machine.execDlyApertureAccess off m priv w s
  | .tdmFrame n din bad dt => Sys2Proof.Machine.execTdmFrame n din bad dt s
  | .tdmNoClock n => Sys2Proof.Machine.execTdmNoClock n s
  | .tdmRateGate n mHz => Sys2Proof.Machine.execTdmRateGate n mHz s
  | .tdmFadeComplete n dt => Sys2Proof.Machine.execTdmFadeComplete n dt s
  | .tdmRampStart n => Sys2Proof.Machine.execTdmRampStart n s
  | .tdmRampComplete n dt => Sys2Proof.Machine.execTdmRampComplete n dt s
  | .tdmPortCfgWrite n ws => Sys2Proof.Machine.execTdmPortCfgWrite n ws s
  | .tdmMute n on m priv => Sys2Proof.Machine.execTdmMute n on m priv s
  | .tdmLoop n mode m priv => Sys2Proof.Machine.execTdmLoop n mode m priv s
  | .tdmMapWrite n output k ws => Sys2Proof.Machine.execTdmMapWrite n output k ws s
  | .lineEntryWrite n w ws => Sys2Proof.Machine.execLineEntryWrite n w ws s
  | .changeoverStep n dt => Sys2Proof.Machine.execChangeoverStep n dt s
  | .supervisionLoss n => Sys2Proof.Machine.execSupervisionLoss n s
  | .unproven n => Sys2Proof.Machine.execUnproven n s
  | .proofCmdClear line all m priv => Sys2Proof.Machine.execProofCmdClear line all m priv s
  | .proofCmdRetire line all m priv => Sys2Proof.Machine.execProofCmdRetire line all m priv s
  | .proofCmdCommission line all m priv => Sys2Proof.Machine.execProofCmdCommission line all m priv s
  | .commissionTimeout n => Sys2Proof.Machine.execCommissionTimeout n s
  | .proofCmdRun m priv => Sys2Proof.Machine.execProofCmdRun m priv s
  | .proofCmdAbortRun m priv => Sys2Proof.Machine.execProofCmdAbortRun m priv s
  | .proofCmdPathClear m priv => Sys2Proof.Machine.execProofCmdPathClear m priv s
  | .proofRunBegin => Sys2Proof.Machine.execProofRunBegin s
  | .runDeadline => Sys2Proof.Machine.execRunDeadline s
  | .pathFrameSend group dt => Sys2Proof.Machine.execPathFrameSend group dt s
  | .pathResultTimeout k => Sys2Proof.Machine.execPathResultTimeout k s
  | .spliceBlockLock p => Sys2Proof.Machine.execSpliceBlockLock p s
  | .spliceLinkDown p => Sys2Proof.Machine.execSpliceLinkDown p s
  | .spliceFrameRx dt p f => Sys2Proof.Machine.execSpliceFrameRx dt p f s
  | .spliceAlign => Sys2Proof.Machine.execSpliceAlign s
  | .spliceRefLoss dt => Sys2Proof.Machine.execSpliceRefLoss dt s
  | .spliceSuccession dt => Sys2Proof.Machine.execSpliceSuccession dt s
  | .spliceYield m priv => Sys2Proof.Machine.execSpliceYield m priv s
  | .spliceRevert dt => Sys2Proof.Machine.execSpliceRevert dt s
  | .spliceRetrainUp m priv => Sys2Proof.Machine.execSpliceRetrainUp m priv s
  | .spliceRetrainDn m priv => Sys2Proof.Machine.execSpliceRetrainDn m priv s
  | .spliceCfgWrite ws => Sys2Proof.Machine.execSpliceCfgWrite ws s
  | .fwdRead m priv => Sys2Proof.Machine.execFwdRead m priv s
  | .fwdWrite m priv => Sys2Proof.Machine.execFwdWrite m priv s
  | .fwdComplete dt => Sys2Proof.Machine.execFwdComplete dt s
  | .spiReadFrame dt adr count rx quad crc incr => Sys2Proof.Machine.execSpiReadFrame dt adr count rx quad crc incr s
  | .spiWriteFrame dt adr count rx quad crc incr words => Sys2Proof.Machine.execSpiWriteFrame dt adr count rx quad crc incr words s
  | .frameDbTx m priv => Sys2Proof.Machine.execFrameDbTx m priv s
  | .pcieLinkChange speed => Sys2Proof.Machine.execPcieLinkChange speed s
  | .pciePerst => Sys2Proof.Machine.execPciePerst s
  | .msixEoi f1 vecs m priv => Sys2Proof.Machine.execMsixEoi f1 vecs m priv s
  | .registerWrite adr ws => Sys2Proof.Machine.execRegisterWrite adr ws s
  | .postedWriteLand domain => Sys2Proof.Machine.execPostedWriteLand domain s
  | .slowDomainRead adr m priv => Sys2Proof.Machine.execSlowDomainRead adr m priv s
  | .scpOpen dt src sel nc m => Sys2Proof.Machine.execScpOpen dt src sel nc m s
  | .scpClose dt m => Sys2Proof.Machine.execScpClose dt m s
  | .scpKeepalive dt m => Sys2Proof.Machine.execScpKeepalive dt m s
  | .scpRead dt m addrs => Sys2Proof.Machine.execScpRead dt m addrs s
  | .scpWrite dt m pairs => Sys2Proof.Machine.execScpWrite dt m pairs s
  | .scpObjSet dt m off vals => Sys2Proof.Machine.execScpObjSet dt m off vals s
  | .scpObjGet dt m off count => Sys2Proof.Machine.execScpObjGet dt m off count s
  | .scpClaim dt m => Sys2Proof.Machine.execScpClaim dt m s
  | .scpRelease dt m => Sys2Proof.Machine.execScpRelease dt m s
  | .scpSubscribe dt m level => Sys2Proof.Machine.execScpSubscribe dt m level s
  | .scpLogGet dt m first count => Sys2Proof.Machine.execScpLogGet dt m first count s
  | .scpSessionTimeout dt session => Sys2Proof.Machine.execScpSessionTimeout dt session s
  | .scpApplyAt ef => Sys2Proof.Machine.execScpApplyAt ef s
  | .scpHoldExpiry dt kind n => Sys2Proof.Machine.execScpHoldExpiry dt kind n s
  | .scpReport dt session => Sys2Proof.Machine.execScpReport dt session s
  | .hmqMessageOffer q n => Sys2Proof.Machine.execHmqMessageOffer q n s
  | .hmqMessageComplete q => Sys2Proof.Machine.execHmqMessageComplete q s
  | .hmqRdData q m priv => Sys2Proof.Machine.execHmqRdData q m priv s
  | .hmqFlush q m priv => Sys2Proof.Machine.execHmqFlush q m priv s
  | .hmqPointerMismatch q => Sys2Proof.Machine.execHmqPointerMismatch q s
  | .schedulerTick dt => Sys2Proof.Machine.execSchedulerTick dt s
  | .schedulerRetry n dt => Sys2Proof.Machine.execSchedulerRetry n dt s
  | .logRecordWrite => Sys2Proof.Machine.execLogRecordWrite s
  | .logIdxWrite seq m priv => Sys2Proof.Machine.execLogIdxWrite seq m priv s
  | .lifetimeCounterWrite => Sys2Proof.Machine.execLifetimeCounterWrite s
  | .mstatTotals => Sys2Proof.Machine.execMstatTotals s
  | .cfgSave m priv => Sys2Proof.Machine.execCfgSave m priv s
  | .cfgSaveComplete ok => Sys2Proof.Machine.execCfgSaveComplete ok s
  | .keyCommit m priv => Sys2Proof.Machine.execKeyCommit m priv s
  | .fwBegin m priv => Sys2Proof.Machine.execFwBegin m priv s
  | .fwDataWrite w m priv => Sys2Proof.Machine.execFwDataWrite w m priv s
  | .fwVerify m priv => Sys2Proof.Machine.execFwVerify m priv s
  | .fwVerifyComplete sigOk => Sys2Proof.Machine.execFwVerifyComplete sigOk s
  | .fwActivate m priv => Sys2Proof.Machine.execFwActivate m priv s
  | .fwRestart => Sys2Proof.Machine.execFwRestart s
  | .fwConfirm m priv => Sys2Proof.Machine.execFwConfirm m priv s
  | .fwAbortTrial m priv => Sys2Proof.Machine.execFwAbortTrial m priv s
  | .fwAutoConfirm => Sys2Proof.Machine.execFwAutoConfirm s
  | .fwTrialExpiry dt => Sys2Proof.Machine.execFwTrialExpiry dt s
  | .testStartCmd mask m priv => Sys2Proof.Machine.execTestStartCmd mask m priv s
  | .testClear mask m priv => Sys2Proof.Machine.execTestClear mask m priv s
  | .testStop m priv => Sys2Proof.Machine.execTestStop m priv s
  | .testRunStart => Sys2Proof.Machine.execTestRunStart s
  | .testEnd cycles sig good memory bad short => Sys2Proof.Machine.execTestEnd cycles sig good memory bad short s
  | .testReinitComplete dt => Sys2Proof.Machine.execTestReinitComplete dt s
  | .testRequeueQuiet => Sys2Proof.Machine.execTestRequeueQuiet s
  | .softRetry b => Sys2Proof.Machine.execSoftRetry b s
  | .dlyFaultClear => Sys2Proof.Machine.execDlyFaultClear s
  | .lpiEntry p dt => Sys2Proof.Machine.execLpiEntry p dt s
  | .tpoPulseEnd n dt => Sys2Proof.Machine.execTpoPulseEnd n dt s
  | .talkerSendingTimeout n dt => Sys2Proof.Machine.execTalkerSendingTimeout n dt s
  | .holdupExhausted dt => Sys2Proof.Machine.execHoldupExhausted dt s
  | .keyCommitComplete => Sys2Proof.Machine.execKeyCommitComplete s
  | .cfgDefaultFaultPulseEnd => Sys2Proof.Machine.execCfgDefaultFaultPulseEnd s
  | .pdPowerRemoval p => Sys2Proof.Machine.execPdPowerRemoval p s
  | .lifetimeCounterLowRead adr m priv => Sys2Proof.Machine.execLifetimeCounterLowRead adr m priv s

end Sys2Proof.Machine
end

