-- ==== Sys2Proof/WellFormed.lean ====
section
/-! DEFINITION. The objects a command names exist in the variant (R1 to R4): cores, audio ports, stream and lay entries, lines,
crosspoints, power units, test blocks, queues, gate entries and time pulse outputs. -/

namespace Sys2Proof

/-- The variant has the power unit (R2, R504). -/
def hasUnit (v : Variant) (u : Nat) : Bool := Nat.ble 1 u && Nat.ble u 14 && !(9 ≤ u ∧ u < 12 ∧ v.pick 4 2 1 ≤ u - 8)

/-- The variant has the test block (R518). -/
def hasBlock (v : Variant) (b : Nat) : Bool :=
  Nat.ble b 10 || (Nat.ble 12 b && Nat.blt b (12 + v.pick 4 2 1)) || (Nat.ble 16 b && Nat.blt b (16 + v.pick 8 4 2))

/-- Every object the command names exists. -/
def Instr.wellFormed (va : Variant) (i : Instr) : Bool :=
  match i with
  | .powerOn _ => true
  | .pdClassification _ _ => true
  | .supplyingInputChange _ => true
  | .limitedRetrainTimer => true
  | .inputPowerLoss _ => true
  | .bootRomStart _ _ => true
  | .firmwareStart => true
  | .stagingStart => true
  | .unitPowerGood u => hasUnit va u
  | .stageIntervalExpiry => true
  | .unitPowerGoodTimeout u => hasUnit va u
  | .stageRetryTimer _ => true
  | .readyEntry => true
  | .modCmdRun _ _ => true
  | .modCmdQuiet _ _ => true
  | .modCmdReady _ _ => true
  | .modCmdInvalid _ _ _ => true
  | .runHoldRelease => true
  | .quietEntryComplete => true
  | .wakeRestageComplete => true
  | .resetControl _ _ => true
  | .resetNPin _ => true
  | .mpWatchdogExpiry => true
  | .pwrCtlRetry _ _ => true
  | .auxRestart _ _ => true
  | .auxOverload => true
  | .auxAutoRestart => true
  | .auxRestartHold => true
  | .holdArmedChange _ => true
  | .thermalCritical => true
  | .thermalShutdown _ => true
  | .thermalRestart => true
  | .sensorSample _ => true
  | .portCfgWrite _ _ => true
  | .autonegTrainingFail _ _ => true
  | .linkUp _ _ _ => true
  | .linkDown _ _ => true
  | .holdDownEnd _ _ => true
  | .holdLevelDecay _ => true
  | .flapRelease _ _ _ => true
  | .ringFrameRx _ _ _ => true
  | .spurFrameRx _ _ => true
  | .frameTransmit _ _ => true
  | .bypassJoinNow _ _ => true
  | .bypassForceClose _ _ _ => true
  | .bypassJoinDelayExpiry => true
  | .bypassContactsSettled => true
  | .cbsWrite _ _ => true
  | .qbvSwap _ _ _ => true
  | .qbvCycleStart _ _ => true
  | .qbvEntryExpiry _ _ => true
  | .qbvCycleCut _ _ => true
  | .qbvEntryWrite k _ => decide (k < 256)
  | .pauseRepeat _ => true
  | .pauseWmWrite _ => true
  | .pauseQuantaExpiry _ _ => true
  | .counterRead _ _ _ => true
  | .phyDataWrite _ _ _ _ => true
  | .tbNsRead _ _ => true
  | .announceReceiptTimeout _ => true
  | .pdelayReqTimer _ _ => true
  | .delayReqTimer _ => true
  | .syncOriginate _ => true
  | .announceOriginate _ => true
  | .twoStepEntryExpiry _ _ => true
  | .tsQueueEntryFree => true
  | .ptpCfgWrite _ => true
  | .twinWindowEnd _ => true
  | .twinPathLoss _ => true
  | .twinPrefWrite _ _ _ => true
  | .timeJumpApply => true
  | .slewComplete => true
  | .tbCtlSet _ _ _ => true
  | .tbCtlAdj _ _ _ => true
  | .tpoStartWrite _ _ => true
  | .tpoCtlWrite _ _ => true
  | .tpoOneShotFire n _ => decide (n < 4)
  | .tpoPeriodicEdge n => decide (n < 4)
  | .tpoRealign _ _ _ => true
  | .tpiCapture n _ _ _ => decide (n < 4)
  | .capqInfoRead _ _ => true
  | .refEdge _ _ => true
  | .refMissingEdge _ _ => true
  | .todSentenceRx _ _ => true
  | .refQualify _ => true
  | .revertWaitExpiry => true
  | .refSwitch => true
  | .dpllBandwidthStep => true
  | .dpllLock => true
  | .dpllLockLoss _ => true
  | .refVote => true
  | .driftLimitCheck _ => true
  | .historyWrite _ _ _ => true
  | .refAlmRelease => true
  | .refCtlWrite _ => true
  | .realignMedia _ _ => true
  | .realignMove => true
  | .mediaCfgWrite _ => true
  | .mclkCfgWrite _ => true
  | .listenerEntryWrite n _ _ => decide (n < va.pick 256 128 64)
  | .talkerEntryWrite n _ _ => decide (n < va.pick 256 128 64)
  | .layEntryWrite n _ _ => decide (n < va.pick 64 32 16)
  | .arrivalHoldRelease _ => true
  | .layIdle n _ => decide (n < va.pick 64 32 16)
  | .listenerActiveTimeout n _ => decide (n < va.pick 256 128 64)
  | .presOffsetChange n => decide (n < va.pick 64 32 16)
  | .slipAllChange n => decide (n < va.pick 64 32 16)
  | .membershipRepeat n _ => decide (n < va.pick 256 128 64)
  | .queryResponse => true
  | .snoopJoinExpiry _ _ => true
  | .sapAnnounce n => decide (n < va.pick 256 128 64)
  | .holdCfgWrite _ => true
  | .efTick _ => true
  | .runPlayStart => true
  | .efTriggerStop => true
  | .computationStart _ => true
  | .segmentBarrier _ => true
  | .computationComplete _ _ _ => true
  | .playCfgWrite _ => true
  | .nowEfRead _ _ => true
  | .coreOverrun c => decide (c < va.pick 16 8 4)
  | .forcedHalt c => decide (c < va.pick 16 8 4)
  | .placeCommit _ _ => true
  | .placementApply => true
  | .remap => true
  | .coreStop c _ _ => decide (c < va.pick 16 8 4)
  | .coreResume c _ _ => decide (c < va.pick 16 8 4)
  | .coreStep c _ _ => decide (c < va.pick 16 8 4)
  | .coreRetire c _ _ => decide (c < va.pick 16 8 4)
  | .coreClearRetire c _ _ => decide (c < va.pick 16 8 4)
  | .coreMemoryWrite c _ _ => decide (c < va.pick 16 8 4)
  | .engCfgWrite _ => true
  | .dlyTransferComplete c _ _ _ => decide (c < va.pick 16 8 4)
  | .nop c _ => decide (c < va.pick 16 8 4)
  | .undefinedWord c _ => decide (c < va.pick 16 8 4)
  | .add c _ _ _ _ _ => decide (c < va.pick 16 8 4)
  | .sub c _ _ _ _ _ => decide (c < va.pick 16 8 4)
  | .and c _ _ _ _ _ => decide (c < va.pick 16 8 4)
  | .or c _ _ _ _ _ => decide (c < va.pick 16 8 4)
  | .xor c _ _ _ _ _ => decide (c < va.pick 16 8 4)
  | .andn c _ _ _ _ _ => decide (c < va.pick 16 8 4)
  | .shl c _ _ _ _ _ => decide (c < va.pick 16 8 4)
  | .shr c _ _ _ _ _ => decide (c < va.pick 16 8 4)
  | .sar c _ _ _ _ _ => decide (c < va.pick 16 8 4)
  | .min c _ _ _ _ _ => decide (c < va.pick 16 8 4)
  | .max c _ _ _ _ _ => decide (c < va.pick 16 8 4)
  | .minu c _ _ _ _ _ => decide (c < va.pick 16 8 4)
  | .maxu c _ _ _ _ _ => decide (c < va.pick 16 8 4)
  | .addi c _ _ _ _ _ => decide (c < va.pick 16 8 4)
  | .andi c _ _ _ _ => decide (c < va.pick 16 8 4)
  | .ori c _ _ _ _ => decide (c < va.pick 16 8 4)
  | .xori c _ _ _ _ => decide (c < va.pick 16 8 4)
  | .shli c _ _ _ _ _ => decide (c < va.pick 16 8 4)
  | .shri c _ _ _ _ _ => decide (c < va.pick 16 8 4)
  | .sari c _ _ _ _ _ => decide (c < va.pick 16 8 4)
  | .movi c _ _ _ _ => decide (c < va.pick 16 8 4)
  | .movhi c _ _ _ => decide (c < va.pick 16 8 4)
  | .padd c _ _ _ _ => decide (c < va.pick 16 8 4)
  | .movDD c _ _ _ => decide (c < va.pick 16 8 4)
  | .movDP c _ _ _ => decide (c < va.pick 16 8 4)
  | .movPD c _ _ _ => decide (c < va.pick 16 8 4)
  | .movDLc c _ _ _ => decide (c < va.pick 16 8 4)
  | .movDSf c _ _ => decide (c < va.pick 16 8 4)
  | .clrSf c _ => decide (c < va.pick 16 8 4)
  | .movDF c _ _ => decide (c < va.pick 16 8 4)
  | .movFD c _ _ => decide (c < va.pick 16 8 4)
  | .cmp c _ _ _ _ _ => decide (c < va.pick 16 8 4)
  | .cmpi c _ _ _ _ _ => decide (c < va.pick 16 8 4)
  | .pand c _ _ _ _ => decide (c < va.pick 16 8 4)
  | .por c _ _ _ _ => decide (c < va.pick 16 8 4)
  | .pxor c _ _ _ _ => decide (c < va.pick 16 8 4)
  | .pandn c _ _ _ _ => decide (c < va.pick 16 8 4)
  | .pnot c _ _ _ => decide (c < va.pick 16 8 4)
  | .pclr c _ _ => decide (c < va.pick 16 8 4)
  | .pset c _ _ => decide (c < va.pick 16 8 4)
  | .sel c _ _ _ _ _ _ => decide (c < va.pick 16 8 4)
  | .ldW c _ _ _ _ _ _ => decide (c < va.pick 16 8 4)
  | .stW c _ _ _ _ _ _ => decide (c < va.pick 16 8 4)
  | .ldH c _ _ _ _ _ _ => decide (c < va.pick 16 8 4)
  | .stH c _ _ _ _ _ _ => decide (c < va.pick 16 8 4)
  | .busLd c _ _ _ _ _ => decide (c < va.pick 16 8 4)
  | .busSt c _ _ _ _ => decide (c < va.pick 16 8 4)
  | .dlyRd c _ _ _ _ => decide (c < va.pick 16 8 4)
  | .dlyWr c _ _ _ => decide (c < va.pick 16 8 4)
  | .dlyWait c _ => decide (c < va.pick 16 8 4)
  | .tblLd c _ _ _ => decide (c < va.pick 16 8 4)
  | .ctlWr c _ _ _ _ => decide (c < va.pick 16 8 4)
  | .msgPush c _ _ _ _ _ => decide (c < va.pick 16 8 4)
  | .br c _ _ => decide (c < va.pick 16 8 4)
  | .endEf c _ => decide (c < va.pick 16 8 4)
  | .mulQ31 c _ _ _ _ => decide (c < va.pick 16 8 4)
  | .mulQ30 c _ _ _ _ => decide (c < va.pick 16 8 4)
  | .mulI c _ _ _ _ => decide (c < va.pick 16 8 4)
  | .mulhI c _ _ _ _ => decide (c < va.pick 16 8 4)
  | .mpyQ31 c _ _ _ _ => decide (c < va.pick 16 8 4)
  | .macQ31 c _ _ _ _ => decide (c < va.pick 16 8 4)
  | .msuQ31 c _ _ _ _ => decide (c < va.pick 16 8 4)
  | .mpyQ30 c _ _ _ _ => decide (c < va.pick 16 8 4)
  | .macQ30 c _ _ _ _ => decide (c < va.pick 16 8 4)
  | .msuQ30 c _ _ _ _ => decide (c < va.pick 16 8 4)
  | .accClr c _ _ => decide (c < va.pick 16 8 4)
  | .accLdQ31 c _ _ _ => decide (c < va.pick 16 8 4)
  | .accLdw c _ _ _ _ => decide (c < va.pick 16 8 4)
  | .accAdd c _ _ _ => decide (c < va.pick 16 8 4)
  | .accSub c _ _ _ => decide (c < va.pick 16 8 4)
  | .accShr c _ _ _ => decide (c < va.pick 16 8 4)
  | .accRdQ31 c _ _ _ _ => decide (c < va.pick 16 8 4)
  | .accRdHi c _ _ _ => decide (c < va.pick 16 8 4)
  | .accRdLo c _ _ _ => decide (c < va.pick 16 8 4)
  | .addS c _ _ _ _ => decide (c < va.pick 16 8 4)
  | .subS c _ _ _ _ => decide (c < va.pick 16 8 4)
  | .negS c _ _ _ => decide (c < va.pick 16 8 4)
  | .absS c _ _ _ => decide (c < va.pick 16 8 4)
  | .shlS c _ _ _ _ => decide (c < va.pick 16 8 4)
  | .add2S c _ _ _ _ => decide (c < va.pick 16 8 4)
  | .sub2S c _ _ _ _ => decide (c < va.pick 16 8 4)
  | .mul2Q15 c _ _ _ _ => decide (c < va.pick 16 8 4)
  | .max2 c _ _ _ _ => decide (c < va.pick 16 8 4)
  | .min2 c _ _ _ _ => decide (c < va.pick 16 8 4)
  | .abs2S c _ _ _ => decide (c < va.pick 16 8 4)
  | .packHh c _ _ _ _ => decide (c < va.pick 16 8 4)
  | .unpkHi c _ _ _ => decide (c < va.pick 16 8 4)
  | .unpkLo c _ _ _ => decide (c < va.pick 16 8 4)
  | .sinQ31 c _ _ _ => decide (c < va.pick 16 8 4)
  | .cosQ31 c _ _ _ => decide (c < va.pick 16 8 4)
  | .loopI c _ _ _ => decide (c < va.pick 16 8 4)
  | .loopR c _ _ _ _ => decide (c < va.pick 16 8 4)
  | .imgBegin _ _ => true
  | .imgDataWrite _ _ _ => true
  | .imgCheck _ _ => true
  | .imgInstall _ _ => true
  | .imageCheckComplete => true
  | .installHoldRelease => true
  | .meterPeriodClose => true
  | .xptCfgWrite _ => true
  | .crosspointWrite n _ _ => decide (n < va.pick 16384 8192 4096)
  | .dlyApertureAccess _ _ _ _ => true
  | .tdmFrame n _ _ _ => decide (n < va.pick 8 4 2)
  | .tdmNoClock n => decide (n < va.pick 8 4 2)
  | .tdmRateGate n _ => decide (n < va.pick 8 4 2)
  | .tdmFadeComplete n _ => decide (n < va.pick 8 4 2)
  | .tdmRampStart n => decide (n < va.pick 8 4 2)
  | .tdmRampComplete n _ => decide (n < va.pick 8 4 2)
  | .tdmPortCfgWrite n _ => decide (n < va.pick 8 4 2)
  | .tdmMute n _ _ _ => decide (n < va.pick 8 4 2)
  | .tdmLoop n _ _ _ => decide (n < va.pick 8 4 2)
  | .tdmMapWrite n _ _ _ => decide (n < va.pick 8 4 2)
  | .lineEntryWrite n _ _ => decide (n < va.pick 256 128 64)
  | .changeoverStep n _ => decide (n < va.pick 256 128 64)
  | .supervisionLoss n => decide (n < va.pick 256 128 64)
  | .unproven n => decide (n < va.pick 256 128 64)
  | .proofCmdClear _ _ _ _ => true
  | .proofCmdRetire _ _ _ _ => true
  | .proofCmdCommission _ _ _ _ => true
  | .commissionTimeout n => decide (n < va.pick 256 128 64)
  | .proofCmdRun _ _ => true
  | .proofCmdAbortRun _ _ => true
  | .proofCmdPathClear _ _ => true
  | .proofRunBegin => true
  | .runDeadline => true
  | .pathFrameSend _ _ => true
  | .pathResultTimeout k => decide (k < 128)
  | .spliceBlockLock _ => true
  | .spliceLinkDown _ => true
  | .spliceFrameRx _ _ _ => true
  | .spliceAlign => true
  | .spliceRefLoss _ => true
  | .spliceSuccession _ => true
  | .spliceYield _ _ => true
  | .spliceRevert _ => true
  | .spliceRetrainUp _ _ => true
  | .spliceRetrainDn _ _ => true
  | .spliceCfgWrite _ => true
  | .fwdRead _ _ => true
  | .fwdWrite _ _ => true
  | .fwdComplete _ => true
  | .spiReadFrame _ _ _ _ _ _ _ => true
  | .spiWriteFrame _ _ _ _ _ _ _ _ => true
  | .frameDbTx _ _ => true
  | .pcieLinkChange _ => true
  | .pciePerst => true
  | .msixEoi _ _ _ _ => true
  | .registerWrite _ _ => true
  | .postedWriteLand _ => true
  | .slowDomainRead _ _ _ => true
  | .scpOpen _ _ _ _ _ => true
  | .scpClose _ _ => true
  | .scpKeepalive _ _ => true
  | .scpRead _ _ _ => true
  | .scpWrite _ _ _ => true
  | .scpObjSet _ _ _ _ => true
  | .scpObjGet _ _ _ _ => true
  | .scpClaim _ _ => true
  | .scpRelease _ _ => true
  | .scpSubscribe _ _ _ => true
  | .scpLogGet _ _ _ _ => true
  | .scpSessionTimeout _ _ => true
  | .scpApplyAt _ => true
  | .scpHoldExpiry _ _ _ => true
  | .scpReport _ _ => true
  | .hmqMessageOffer q _ => decide (q < 4)
  | .hmqMessageComplete q => decide (q < 4)
  | .hmqRdData _ _ _ => true
  | .hmqFlush _ _ _ => true
  | .hmqPointerMismatch q => decide (q < 4)
  | .schedulerTick _ => true
  | .schedulerRetry _ _ => true
  | .logRecordWrite => true
  | .logIdxWrite _ _ _ => true
  | .lifetimeCounterWrite => true
  | .mstatTotals => true
  | .cfgSave _ _ => true
  | .cfgSaveComplete _ => true
  | .keyCommit _ _ => true
  | .fwBegin _ _ => true
  | .fwDataWrite _ _ _ => true
  | .fwVerify _ _ => true
  | .fwVerifyComplete _ => true
  | .fwActivate _ _ => true
  | .fwRestart => true
  | .fwConfirm _ _ => true
  | .fwAbortTrial _ _ => true
  | .fwAutoConfirm => true
  | .fwTrialExpiry _ => true
  | .testStartCmd _ _ _ => true
  | .testClear _ _ _ => true
  | .testStop _ _ => true
  | .testRunStart => true
  | .testEnd _ _ _ _ _ _ => true
  | .testReinitComplete _ => true
  | .testRequeueQuiet => true
  | .softRetry b => hasBlock va b
  | .dlyFaultClear => true
  | .lpiEntry _ _ => true
  | .tpoPulseEnd n _ => decide (n < 4)
  | .talkerSendingTimeout n _ => decide (n < va.pick 256 128 64)
  | .holdupExhausted _ => true
  | .keyCommitComplete => true
  | .cfgDefaultFaultPulseEnd => true
  | .pdPowerRemoval _ => true
  | .lifetimeCounterLowRead _ _ _ => true

end Sys2Proof
end

