-- ==== Sys2Proof/Safety.lean ====
section
/-! DEFINITION. The words that statements are made of: what a command answers, what it leaves unchanged, and what every state
that a command leaves behind meets. -/

namespace Sys2Proof.Machine

/-- The command answers a next state, and that state meets P. -/
def Answers (i : Instr) (s : State) (P : State → Prop) : Prop := ∃ t, exec i s = .next t ∧ P t

/-- The command stops: it names an object that the variant does not have. -/
def Stops (i : Instr) (s : State) : Prop := exec i s = .fault .absentObject

/-- The registers that follow the state after every command: PWR.STATUS (its FAULT bit), TEST.FAULT, TEST.EVT (its FAULT_CHG bit),
MSTAT.SAT_SUM and SYS.IRQ_STATUS (R535, R67, R436). -/
def summaries : List Nat := [A.PWR_STATUS, A.TEST_FAULT, A.TEST_EVT, A.MSTAT_SAT_SUM, A.SYS_IRQ_STATUS]

/-- Every register outside a list and outside the summaries reads as before. -/
def RegsKept (l : List Nat) (s t : State) : Prop := ∀ a, a ∉ l → a ∉ summaries → t.reg a = s.reg a

/-- Every byte of the memories reads as before. -/
def MemKept (s t : State) : Prop := ∀ a, t.byte a = s.byte a

/-- The parts of the state beside the registers and the memories. -/
inductive Part where
  | mgmt
  | hmq
  | pwr
  | ring
  | time
  | clk
  | strm
  | play
  | eng
  | xpt
  | tdm
  | proof
  | splice
  | test
  | scp
  | bus
  | resp
  | free
  deriving DecidableEq, Repr

/-- A part is as before (of the clock's, all but the alarm latch of R151, which follows the alarm conditions). -/
def Part.Same (p : Part) (s t : State) : Prop :=
  match p with
  | .mgmt => t.mgmt = s.mgmt
  | .hmq => t.hmq = s.hmq
  | .pwr => t.pwr = s.pwr
  | .ring => t.ring = s.ring
  | .time => t.time = s.time
  | .clk => { t.clk with almLow := s.clk.almLow } = s.clk
  | .strm => t.strm = s.strm
  | .play => t.play = s.play
  | .eng => t.eng = s.eng
  | .xpt => t.xpt = s.xpt
  | .tdm => t.tdm = s.tdm
  | .proof => t.proof = s.proof
  | .splice => t.splice = s.splice
  | .test => t.test = s.test
  | .scp => t.scp = s.scp
  | .bus => t.bus = s.bus
  | .resp => t.resp = s.resp
  | .free => t.freeCtr = s.freeCtr

/-- A command's frame: it changes no register outside a list, no byte of memory, and no part outside a list. -/
def Framed (regs : List Nat) (parts : List Part) (s t : State) : Prop :=
  RegsKept regs s t ∧ MemKept s t ∧ (∀ p, p ∉ parts → p.Same s t) ∧ t.variant = s.variant ∧ t.pending = s.pending

/-- PWR.STATUS keeps every field that shares no bit with FAULT or with those listed. -/
def PwrStatusKept (l : List Fld) (s t : State) : Prop :=
  ∀ g : Fld, g.adr = A.PWR_STATUS → g.ok = true → (∀ f ∈ F.PWR_STATUS_FAULT :: l, Fld.free f g = true) → t.fld g = s.fld g

/-- A whole-word write of a register acts at once: nothing waits in a slow domain, the master's accesses are privileged or the
register has no field that asks it, the register's unit is awake and its block not under test (R398, R414, R419, R522, R559). -/
abbrev Direct (s : State) (m : Master) (priv : Bool) (a : Nat) : Prop :=
  s.bus.posts = [] ∧ (s.masterPriv m priv = true ∨ ∀ r ∈ rowAt s.variant a, r.prv = 0) ∧ s.effectOwed a = false

/-- The registers that elapsed time alone may change: MISALIGN and its event, and the event of a lifetime counter that saturates
(R148, R476). -/
def timeRegs : List Nat := [A.CLK_MISALIGN, A.CLK_EVT, A.MGMT_EVT]

/-- One master's whole-word write. -/
def whole (m : Master) (priv : Bool) (w : Word) : List BusWrite := [⟨m, priv, 15, w⟩]

/-- A word to be written holds the register's reserved bits as they read (R421). -/
abbrev AsItReads (s : State) (a : Nat) (w : Word) : Prop := ∀ r ∈ rowAt s.variant a, (w.toNat ^^^ s.rd a) &&& r.rsv = 0

/-- The summary registers agree with what they sum up: TEST.FAULT and PWR.STATUS.FAULT with their causes (R535, R516),
MSTAT.SAT_SUM with the SAT registers (R67) and SYS.IRQ_STATUS with the branches (R436). -/
abbrev Summed (s : State) : Prop :=
  s.rd A.TEST_FAULT = ofBits s.faultBits ∧ s.on F.PWR_STATUS_FAULT = s.pwrFault ∧ s.rd A.MSTAT_SAT_SUM = s.satSum ∧
    s.rd A.SYS_IRQ_STATUS = s.irqStatus

/-- With the host link up, no vector of a PCIe function is armed and unmasked while its condition is true or its pending bit is
set (R438). -/
abbrev MsixServed (s : State) : Prop :=
  s.on F.SYS_PCIE_STATUS_LINK_UP = true → ∀ fn < 2, ∀ m ∈ s.msix[fn]?, m.fnMask = false → ∀ v < 16,
    m.armed.testBit v = true → m.vecMask.testBit v = false → (s.msixCond fn ||| m.pba).testBit v = false

/-- The objects of which a module has a fixed number are all held: ports, references, outputs, cores and queues (R2, R27, R115,
R121, R124, R326, R373, R414, R439). -/
abbrev Shaped (s : State) : Prop :=
  s.ring.ports.length = 3 ∧ s.time.ports.length = 3 ∧ s.time.tpo.length = 4 ∧ s.time.lastCap.length = 4 ∧
    s.clk.refs.length = 8 ∧ s.tdm.length = 8 ∧ s.hmq.length = 4 ∧ s.eng.cores.length = 16 ∧ s.splice.ports.length = 2 ∧
    s.resp.length = 5 ∧ s.msix.length = 2

/-- Every register and every memory is in its canonical form. -/
abbrev Memory.wf (s : State) : Prop := Sparse.wf (resetWord s.variant) s.regs = true ∧ Sparse.wf (fun _ => 0) s.mem = true

/-- Every command that waits names objects that the variant has. -/
abbrev QueueOk (s : State) : Prop := ∀ c ∈ s.pending, c.wellFormed s.variant = true

end Sys2Proof.Machine
end

