-- ==== Sys2Proof/Certificates/Slice0/Obligations.lean ====
section
/-! DEFINITION. The statements about the module, for the provers. -/

open Sys2Proof Sys2Proof.Machine

/-! ### The machine -/

/-- A step takes the command at the front of the queue and runs it with the queue's rest; with no command waiting the module idles
(the model's choice, notes/assumptions/5.md). -/
def Obligations.StepRunsTheFrontCommand : Prop :=
  (∀ (c : Instr) (q : List Instr) (s : State), s.pending = c :: q → step s = exec c { s with pending := q }) ∧
    ∀ s : State, s.pending = [] → step s = .next s

/-- A command whose objects exist in the variant answers a next state, with the variant and the queue as they were and the
summary registers in agreement with what they sum up; a command that names an absent object stops. Where the spec leaves it open
the statement follows the model's choices in notes/assumptions/84.md. -/
def Obligations.CommandsComplete : Prop :=
  ∀ (c : Instr) (s : State),
    (c.wellFormed s.variant = true → Answers c s fun t => t.variant = s.variant ∧ t.pending = s.pending ∧ Summed t) ∧
      (c.wellFormed s.variant = false → Stops c s)

/-- TEST.FAULT, PWR.STATUS.FAULT, MSTAT.SAT_SUM and SYS.IRQ_STATUS agree with what they sum up after every step. -/
def Obligations.EveryStepKeepsTheSummaries : Prop := ∀ s t : State, Summed s → step s = .next t → Summed t

/-- MSI-X is served after every step: while the host link is up no armed and unmasked vector has a true condition or a set
pending bit (R438). -/
def Obligations.EveryStepKeepsMsixServed : Prop := ∀ s t : State, MsixServed s → step s = .next t → MsixServed t

/-- Every register and every memory stays in its one canonical form, and every fixed group of objects keeps its size. Where the
spec leaves it open the statement follows the model's choices in notes/assumptions/8.md. -/
def Obligations.EveryStepKeepsTheForm : Prop :=
  ∀ s t : State, Memory.wf s ∧ Shaped s → step s = .next t → Memory.wf t ∧ Shaped t

/-- The module right after RESET (R14, R558): in RESET with only U0 powered and the bypass closed, no command waiting, every
memory reading zero, every register at its reset value, and each invariant of the machine true. Where the spec leaves it open
the statement follows the model's choices in notes/assumptions/3.md. -/
def Obligations.ResetMeetsTheInvariants : Prop :=
  State.reset.fld F.SYS_MOD_STATE_STATE = 1 ∧ State.reset.fld F.PWR_UNIT_STATUS_POWERED = 1 ∧
    State.reset.fld F.RING_BYPASS_STATUS_STATE = 0 ∧ State.reset.pending = [] ∧
    (∀ a : Nat, State.reset.reg a = resetWord State.reset.variant a) ∧ (∀ a : Nat, State.reset.byte a = 0) ∧
    Summed State.reset ∧ MsixServed State.reset ∧ Shaped State.reset ∧ Memory.wf State.reset ∧ QueueOk State.reset

/-- No run stops: from any state whose waiting commands name objects that the variant has, any number of steps answers a next
state, with the summaries in agreement and the variant as built. Where the spec leaves it open the statement follows the model's
choices in notes/assumptions/5.md, 84.md. -/
def Obligations.NoRunStops : Prop :=
  ∀ (n : Nat) (s : State), QueueOk s → Summed s →
    ∃ t, core.run n s = .next t ∧ QueueOk t ∧ Summed t ∧ t.variant = s.variant ∧ t.pending = s.pending.drop n

/-! ### Power (spec chapter 17) -/

/-- The power inputs (R498, R499, R476, R513): a classified input shows its grant and supplies the module if none did; a change
of supplying input at class 3 or above puts its class in force and touches no unit; an input whose power goes shows that; and
HOLD_ARMED follows the holdup store. Where the spec leaves it open the statement follows the model's choices in
notes/assumptions/24.md. -/
def Obligations.PowerInputs : Prop :=
  (∀ (s : State) (p : Port) (cls : Nat), cls ≤ 8 → s.fld F.PWR_STATUS_IN_USE ≠ 3 → s.fld F.PWR_STATUS_IN_USE ≠ p.idx →
    Answers (.pdClassification p cls) s fun t =>
      t.grant p.idx = cls ∧ t.fld F.PWR_STATUS_IN_USE = s.fld F.PWR_STATUS_IN_USE ∧ Framed [A.MGMT_EVT] [.mgmt] s t) ∧
  (∀ (s : State) (p : Port), s.fld F.PWR_STATUS_IN_USE ≠ p.idx → 3 ≤ s.grant p.idx → s.grant p.idx ≤ 8 →
    Answers (.supplyingInputChange p) s fun t =>
      t.fld F.PWR_STATUS_IN_USE = p.idx ∧ t.fld F.PWR_STATUS_BUDGET = s.grant p.idx ∧
      t.on F.PWR_STATUS_LIMITED = (s.grant p.idx == 3 && s.variant != .jk256) ∧ t.on F.PWR_STATUS_LOW_BUDGET = false ∧
      t.on F.PWR_EVT_INPUT_CHG = true ∧ Framed [A.PWR_EVT] [.pwr] s t) ∧
  (∀ (s : State) (p : Port), s.fld F.PWR_STATUS_IN_USE ≠ p.idx → s.grant p.idx ≠ 15 →
    Answers (.pdPowerRemoval p) s fun t =>
      t.grant p.idx = 15 ∧ t.fld F.PWR_STATUS_IN_USE = s.fld F.PWR_STATUS_IN_USE ∧ Framed [A.MGMT_EVT] [.mgmt] s t) ∧
  (∀ (s : State) (armed : Bool), s.pwr.powered = true →
    Answers (.holdArmedChange armed) s fun t =>
      t.on F.PWR_STATUS_HOLD_ARMED = armed ∧ PwrStatusKept [F.PWR_STATUS_HOLD_ARMED] s t ∧ Framed [] [] s t)

/-- AUX_3V3 (R503): an overload switches the output off and sets AUX_FAULT; 1 s later, or on AUX_RESTART, it starts again; and a
restart that holds clears AUX_FAULT. Where the spec leaves it open the statement follows the model's choices in
notes/assumptions/27.md. -/
def Obligations.Aux3v3 : Prop :=
  (∀ s : State, s.on F.PWR_STATUS_AUX_ON = true →
    Answers .auxOverload s fun t =>
      t.on F.PWR_STATUS_AUX_ON = false ∧ t.on F.PWR_STATUS_AUX_FAULT = true ∧ t.on F.PWR_EVT_AUX_FAULT = true ∧
      t.pwr.auxRun = s.pwr.auxRun + 1 ∧ t.pwr.auxTimer = decide (s.pwr.auxRun + 1 < 3) ∧
      PwrStatusKept [F.PWR_STATUS_AUX_ON, F.PWR_STATUS_AUX_FAULT] s t ∧ Framed [A.PWR_EVT] [.pwr] s t) ∧
  (∀ s : State, s.pwr.auxTimer = true → s.on F.PWR_CFG_AUX_EN = true → s.on F.PWR_STATUS_AUX_ON = false →
    Answers .auxAutoRestart s fun t =>
      t.on F.PWR_STATUS_AUX_ON = true ∧ t.pwr.auxTimer = false ∧ PwrStatusKept [F.PWR_STATUS_AUX_ON] s t ∧ Framed [] [.pwr] s t) ∧
  (∀ (s : State) (m : Master) (priv : Bool), Direct s m priv A.PWR_CTL → s.on F.PWR_CFG_AUX_EN = true →
    s.on F.PWR_STATUS_AUX_ON = false →
    Answers (.auxRestart m priv) s fun t =>
      t.on F.PWR_STATUS_AUX_ON = true ∧ t.pwr.auxRun = 0 ∧ t.pwr.auxTimer = false ∧ PwrStatusKept [F.PWR_STATUS_AUX_ON] s t ∧
      Framed [] [.pwr] s t) ∧
  (∀ s : State, s.pwr.auxHolding = true → s.on F.PWR_STATUS_AUX_ON = true →
    Answers .auxRestartHold s fun t =>
      t.on F.PWR_STATUS_AUX_FAULT = false ∧ t.pwr.auxRun = 0 ∧ PwrStatusKept [F.PWR_STATUS_AUX_FAULT] s t ∧ Framed [] [.pwr] s t)

/-- The thermal levels (R460, R514): each sample shows in its sensor's register; the critical level sets THERM_CRIT; a shutdown
puts the module into RESET with only U0 powered and the bypass closed or closing; and below the warning levels the MP starts again
with THERM_SHUTDOWN set. -/
def Obligations.ThermalLevels : Prop :=
  (∀ (s : State) (vals : List Int) (k : Nat) (v : Int), s.pwr.powered = true → k < 11 → vals[k]? = some v →
    Answers (.sensorSample vals) s fun t =>
      t.fld (F.MGMT_SENS_VALUE k) = unsgn 16 v ∧ t.on (F.MGMT_SENS_VALID k) = true ∧ t.pwr = s.pwr ∧ MemKept s t) ∧
  (∀ s : State, s.pwr.powered = true →
    Answers .thermalCritical s fun t =>
      t.on F.PWR_STATUS_THERM_CRIT = true ∧ t.on F.PWR_EVT_THERM_CRIT = true ∧ PwrStatusKept [F.PWR_STATUS_THERM_CRIT] s t ∧
      Framed [A.PWR_EVT] [] s t) ∧
  (∀ (s : State) (dt : Nat), s.pwr.powered = true →
    Answers (.thermalShutdown dt) s fun t =>
      t.fld F.SYS_MOD_STATE_STATE = 1 ∧ t.fld F.SYS_MOD_STATE_LAST_CAUSE = 1 ∧ t.fld F.PWR_UNIT_STATUS_POWERED = 1 ∧
      (t.fld F.RING_BYPASS_STATUS_STATE = 0 ∨ t.fld F.RING_BYPASS_STATUS_STATE = 3) ∧ t.pwr.thermal = true) ∧
  (∀ s : State, s.pwr.thermal = true → (∀ k < 5, s.on (F.MGMT_SENS_WARN k) = false) →
    Answers .thermalRestart s fun t =>
      t.on F.PWR_EVT_THERM_SHUTDOWN = true ∧ t.pwr.thermal = false ∧ Framed [A.PWR_EVT] [.pwr] s t)

/-- Power comes and goes (R500, R513, R477): POWER_ON powers U0 and the RTC runs; on loss of input power every unit but U0 is off,
AUX_3V3 is off, the bypass is closed or closing and the lifetime counters are written to the copy whose turn it is; and when the
holdup store is spent only the RTC has run on. -/
def Obligations.PowerOnAndLoss : Prop :=
  (∀ (s : State) (rtc : Option Nat), s.pwr.powered = false → s.pwr.holdup = false →
    Answers (.powerOn rtc) s fun t =>
      t.pwr.powered = true ∧ t.mgmt.rtcRunning = true ∧ t.mgmt.rtcHeld = rtc.isSome ∧ Framed [] [.pwr, .mgmt, .test] s t) ∧
  (∀ (s : State) (dt : Nat), s.pwr.powered = true →
    Answers (.inputPowerLoss dt) s fun t =>
      t.pwr.powered = false ∧ t.pwr.holdup = true ∧ t.fld F.PWR_UNIT_STATUS_POWERED = 1 ∧ t.on F.PWR_STATUS_AUX_ON = false ∧
      (t.fld F.RING_BYPASS_STATUS_STATE = 0 ∨ t.fld F.RING_BYPASS_STATUS_STATE = 3) ∧ t.mgmt.lifeNext = !s.mgmt.lifeNext ∧
      (if s.mgmt.lifeNext then t.mgmt.lifeB.ok else t.mgmt.lifeA.ok) = true ∧ ∀ a, t.byte a = 0) ∧
  (∀ (s : State) (dt : Nat), s.pwr.holdup = true → s.pwr.powerBack = false →
    Answers (.holdupExhausted dt) s fun t =>
      t.pwr.holdup = false ∧ t.pwr.powered = s.pwr.powered ∧ t.mgmt.rtcRunning = false ∧ t.mgmt.staging = [])

/-- Entering RESET for a cause: the state and its cause, only U0 powered, the bypass closed or closing, every other register at its
reset value but for what shows the inputs and the sensors, and every memory reading zero. -/
def EntersReset (cause : Nat) (s t : State) : Prop :=
  t.fld F.SYS_MOD_STATE_STATE = 1 ∧ t.fld F.SYS_MOD_STATE_LAST_CAUSE = cause ∧ t.fld F.PWR_UNIT_STATUS_POWERED = 1 ∧
    (t.fld F.RING_BYPASS_STATUS_STATE = 0 ∨ t.fld F.RING_BYPASS_STATUS_STATE = 3) ∧ PwrStatusKept [] s t ∧
    (∀ k < 11, t.reg (A.MGMT_SENS k) = s.reg (A.MGMT_SENS k)) ∧
    (∀ a, a ∉ [A.SYS_MOD_STATE, A.PWR_UNIT_STATUS, A.RING_BYPASS_STATUS, A.MGMT_EVT] → (∀ k < 11, a ≠ A.MGMT_SENS k) →
      a ∉ summaries → t.reg a = resetWord s.variant a) ∧
    ∀ a, t.byte a = 0

/-- Reset control, RESET_N and the MP watchdog each enter RESET, with LAST_CAUSE 1 for the first two and 2 for the watchdog
(R14, R516, R545, R458); a RESET_N pulse shorter than 1 µs does nothing. Where the spec leaves it open the statement follows the
model's choices in notes/assumptions/20.md. -/
def Obligations.WaysIntoReset : Prop :=
  (∀ (s : State) (m : Master) (priv : Bool), Direct s m priv A.PWR_CTL → s.pwr.powered = true →
    Answers (.resetControl m priv) s (EntersReset 1 s)) ∧
  (∀ (s : State) (lowNs : Nat), 10000 ≤ lowNs → s.pwr.powered = true → Answers (.resetNPin lowNs) s (EntersReset 1 s)) ∧
  (∀ (s : State) (lowNs : Nat), lowNs < 1000 → Answers (.resetNPin lowNs) s (Framed [] [] s)) ∧
  (∀ s : State, s.pwr.powered = true → Answers .mpWatchdogExpiry s (EntersReset 2 s))

/-- Nothing has been configured for a unit: factory defaults are in force, no register of the unit has left its reset value, and
no write waits for it. -/
abbrev Unconfigured (s : State) (u : Nat) : Prop :=
  s.mgmt.slotA.magic = false ∧ s.mgmt.slotB.magic = false ∧ (∀ c ∈ s.regs, unitOf c.1 ≠ u) ∧ s.bus.owed = []

/-- The start (R399, R495, R484, R504): the boot ROM samples the straps and starts the default bank if it verifies; Yunasel
loads factory defaults where neither slot is valid; and with the firmware verified, the configuration loaded, no low budget and
HOLD_ARMED set the MP enters STAGING and U1 is the first unit to stage. Where the spec leaves it open the statement follows the
model's choices in notes/assumptions/22.md. -/
def Obligations.StartUp : Prop :=
  (∀ (s : State) (priv strap : Bool), s.pwr.powered = true → s.fld F.SYS_MOD_STATE_STATE = 1 → s.pwr.fwVerified = false →
    s.pwr.thermal = false → s.mgmt.bootFailed = false → s.mgmt.fw.next = false → s.mgmt.fw.rolled = none →
    s.bankOk s.mgmt.fw.dflt = true →
    Answers (.bootRomStart priv strap) s fun t =>
      t.pwr.fwVerified = true ∧ t.on F.SYS_ACC_STATUS_SPI_PRIV = priv ∧ t.on F.SPLICE_STATUS_STRAP = strap ∧
      t.on F.SYS_STATUS_BANK = s.mgmt.fw.dflt ∧ t.on F.SYS_STATUS_TRIAL = false ∧ MemKept s t) ∧
  (∀ s : State, s.pwr.powered = true → s.fld F.SYS_MOD_STATE_STATE = 1 → s.pwr.fwVerified = true → s.pwr.cfgLoaded = false →
    Unconfigured s 0 →
    Answers .firmwareStart s fun t =>
      t.pwr.cfgLoaded = true ∧ t.on F.SYS_STATUS_CFG_DEFAULT = true ∧ t.on F.SYS_STATUS_CFG_FALLBACK = false ∧
      t.mgmt.settings.autoStart = false ∧ t.mgmt.started = true ∧ MemKept s t) ∧
  (∀ s : State, s.pwr.powered = true → s.fld F.SYS_MOD_STATE_STATE = 1 → s.pwr.cfgLoaded = true →
    s.on F.PWR_STATUS_LOW_BUDGET = false → s.on F.PWR_STATUS_HOLD_ARMED = true → s.pwr.stageWait = false → s.pwr.thermal = false →
    s.pwr.stagePermanent = false → s.unitStages 1 = true → s.test.running = none →
    Answers .stagingStart s fun t =>
      t.fld F.SYS_MOD_STATE_STATE = 2 ∧ t.fld F.SYS_MOD_STATE_LAST_CAUSE = s.fld F.SYS_MOD_STATE_LAST_CAUSE ∧
      t.pwr.stagingUnit = some 1 ∧ t.on F.SYS_EVT_STATE_CHG = true ∧
      Framed [A.SYS_MOD_STATE, A.SYS_EVT, A.MGMT_EVT] [.pwr, .mgmt] s t)

/-- Staging (R505, R506): power-good of the staging unit powers it; the next unit of the order starts at the later of that and
the interval's end; no power-good within 2 ms fails the unit, and for U1, U2, U3 and U7 the whole start; retries of the start
and of a unit fall due; and PWR.CTL.RETRY clears the failures. Where the spec leaves it open the statement follows the model's
choices in notes/assumptions/25.md. -/
def Obligations.Staging : Prop :=
  (∀ (s : State) (u : Nat), hasUnit s.variant u = true → s.fld F.SYS_MOD_STATE_STATE = 2 → s.pwr.stagingUnit = some u →
    s.pwr.stagePg = false → s.pwr.stageInt = false → Unconfigured s u →
    Answers (.unitPowerGood u) s fun t =>
      t.unitOn u = true ∧ t.pwr.stagePg = true ∧ t.pwr.stagingUnit = some u ∧ MemKept s t) ∧
  (∀ (s : State) (u v : Nat), s.pwr.stagingUnit = some u → s.pwr.stagePg = true →
    (unitsAfter u).find? s.unitStages = some v →
    Answers .stageIntervalExpiry s fun t =>
      t.pwr.stagingUnit = some v ∧ t.pwr.stagePg = false ∧ t.pwr.stageInt = false ∧ Framed [] [.pwr] s t) ∧
  (∀ (s : State) (u : Nat), hasUnit s.variant u = true → s.fld F.SYS_MOD_STATE_STATE = 2 → s.pwr.stagingUnit = some u →
    s.pwr.stagePg = false → u ∈ [1, 2, 3, 7] →
    Answers (.unitPowerGoodTimeout u) s fun t =>
      t.fld F.SYS_MOD_STATE_STATE = 1 ∧ t.bitOf F.PWR_UNIT_STATUS_FAILED u = true ∧ t.on F.PWR_STATUS_STAGE_FAIL = true ∧
      t.on F.PWR_EVT_UNIT_FAIL = true ∧ t.on F.PWR_EVT_STAGE_FAIL = true ∧ t.pwr.stageFails = s.pwr.stageFails + 1 ∧
      t.pwr.stagePermanent = Nat.ble 4 (s.pwr.stageFails + 1)) ∧
  (∀ (s : State) (u : Nat), hasUnit s.variant u = true → s.fld F.SYS_MOD_STATE_STATE = 2 → s.pwr.stagingUnit = some u →
    s.pwr.stagePg = false → s.pwr.stageInt = false → u ∉ [1, 2, 3, 7] →
    Answers (.unitPowerGoodTimeout u) s fun t =>
      t.fld F.SYS_MOD_STATE_STATE = 2 ∧ t.bitOf F.PWR_UNIT_STATUS_FAILED u = true ∧ t.on F.PWR_EVT_UNIT_FAIL = true ∧
      Framed [A.PWR_UNIT_STATUS, A.PWR_EVT, A.MGMT_CFG_STATUS] [.pwr, .mgmt] s t) ∧
  (∀ s : State, s.pwr.stageWait = true →
    Answers (.stageRetryTimer 0) s fun t =>
      t.pwr.stageWait = false ∧ t.on F.PWR_STATUS_STAGE_FAIL = false ∧ PwrStatusKept [F.PWR_STATUS_STAGE_FAIL] s t ∧
      Framed [] [.pwr] s t) ∧
  (∀ (s : State) (u : Nat), u ≠ 0 → 3 ≤ s.fld F.SYS_MOD_STATE_STATE → (∃ n, (u, n) ∈ s.pwr.unitFails) → s.pwr.unitTry = none →
    Answers (.stageRetryTimer u) s fun t => t.pwr.unitTry = some u ∧ Framed [] [.pwr] s t) ∧
  (∀ (s : State) (m : Master) (priv : Bool), Direct s m priv A.PWR_CTL →
    Answers (.pwrCtlRetry m priv) s fun t =>
      t.fld F.PWR_UNIT_STATUS_FAILED = 0 ∧ t.on F.PWR_STATUS_STAGE_FAIL = false ∧ t.pwr.retiredUnits = 0 ∧ t.pwr.stageFails = 0 ∧
      t.pwr.stagePermanent = false ∧ Framed [A.PWR_UNIT_STATUS, A.MGMT_CFG_STATUS] [.pwr, .mgmt] s t)

/-! ### Module states (spec chapter 1) -/

/-- Nothing holds back a RUN in READY: a usable cluster, a certified image, no fade or abandoned wake under way, no core stopped,
no unaligned splice member, no test, and no bundle to lead (R19, R387). -/
abbrev RunFree (s : State) : Prop :=
  s.noCluster = false ∧ s.mgmt.imageCert = true ∧ s.pwr.readyFade = false ∧ s.pwr.readyReturn = false ∧ s.runHeld = false ∧
    s.test.running = none ∧ s.on F.SPLICE_CFG_MODE = false

/-- The module is in RUN for a cause: the state, the cause, no RUN pending, the event, the EF trigger running, every core that was
READY now ACTIVE, and every TDM port Silent (R19, R232, R332). -/
def InRun (cause : Nat) (s t : State) : Prop :=
  t.fld F.SYS_MOD_STATE_STATE = 4 ∧ t.fld F.SYS_MOD_STATE_LAST_CAUSE = cause ∧ t.on F.SYS_MOD_STATE_CMD_PEND = false ∧
    t.on F.SYS_EVT_STATE_CHG = true ∧ t.pwr.trig = true ∧
    (∀ n < s.cores, s.coreState n = 3 → t.coreState n = 4) ∧
    (∀ n < s.tdmPorts, t.fld (F.TDM_STATUS_GAIN_STATE n) = 2) ∧ MemKept s t

/-- Module commands (R17 to R19): RUN starts the EF trigger in READY, is held in RESET and has no effect in RUN; QUIET and READY
fade every sounding TDM port and show their state at once; QUIET in READY is refused for reason 1, and an unused code for reason
5. Where the spec leaves it open the statement follows the model's choices in notes/assumptions/11.md, 23.md. -/
def Obligations.ModuleCommands : Prop :=
  (∀ (s : State) (m : Master) (priv : Bool), Direct s m priv A.SYS_MOD_CMD → s.fld F.SYS_MOD_STATE_STATE = 3 → RunFree s →
    Answers (.modCmdRun m priv) s (InRun 3 s)) ∧
  (∀ (s : State) (m : Master) (priv : Bool), Direct s m priv A.SYS_MOD_CMD → s.fld F.SYS_MOD_STATE_STATE = 1 →
    s.on F.SPLICE_CFG_MODE = false →
    Answers (.modCmdRun m priv) s fun t =>
      t.on F.SYS_MOD_STATE_CMD_PEND = true ∧ t.fld F.SYS_MOD_STATE_STATE = 1 ∧ Framed [A.SYS_MOD_STATE] [.pwr] s t) ∧
  (∀ (s : State) (m : Master) (priv : Bool), Direct s m priv A.SYS_MOD_CMD → s.fld F.SYS_MOD_STATE_STATE = 4 →
    s.on F.SPLICE_CFG_MODE = false → Answers (.modCmdRun m priv) s (Framed [] [] s)) ∧
  (∀ (s : State) (m : Master) (priv : Bool), Direct s m priv A.SYS_MOD_CMD → s.fld F.SYS_MOD_STATE_STATE = 4 → s.class67 = false →
    s.test.running = none → s.on F.SPLICE_CFG_MODE = false →
    Answers (.modCmdQuiet m priv) s fun t =>
      t.fld F.SYS_MOD_STATE_STATE = 5 ∧ t.fld F.SYS_MOD_STATE_LAST_CAUSE = 3 ∧ t.pwr.quietEntry = true ∧ t.pwr.trig = s.pwr.trig ∧
      (∀ n < s.tdmPorts, s.fld (F.TDM_STATUS_GAIN_STATE n) = 0 → t.fld (F.TDM_STATUS_GAIN_STATE n) = 1) ∧ MemKept s t) ∧
  (∀ (s : State) (m : Master) (priv : Bool), Direct s m priv A.SYS_MOD_CMD → s.fld F.SYS_MOD_STATE_STATE = 4 → s.class67 = true →
    s.on F.SPLICE_CFG_MODE = false →
    Answers (.modCmdQuiet m priv) s fun t =>
      t.fld F.SYS_MOD_STATE_STATE = 4 ∧ t.on F.SYS_MOD_STATE_CMD_REFUSED = true ∧ t.fld F.SYS_MOD_STATE_REFUSE_WHY = 2 ∧
      Framed [A.SYS_MOD_STATE, A.MGMT_EVT] [.mgmt] s t) ∧
  (∀ (s : State) (m : Master) (priv : Bool), Direct s m priv A.SYS_MOD_CMD → s.fld F.SYS_MOD_STATE_STATE = 3 →
    s.on F.SPLICE_CFG_MODE = false →
    Answers (.modCmdQuiet m priv) s fun t =>
      t.fld F.SYS_MOD_STATE_STATE = 3 ∧ t.on F.SYS_MOD_STATE_CMD_REFUSED = true ∧ t.fld F.SYS_MOD_STATE_REFUSE_WHY = 1 ∧
      Framed [A.SYS_MOD_STATE, A.MGMT_EVT] [.mgmt] s t) ∧
  (∀ (s : State) (m : Master) (priv : Bool), Direct s m priv A.SYS_MOD_CMD → s.fld F.SYS_MOD_STATE_STATE = 4 → s.pwr.trig = true →
    s.test.running = none → s.on F.SPLICE_CFG_MODE = false →
    Answers (.modCmdReady m priv) s fun t =>
      t.fld F.SYS_MOD_STATE_STATE = 3 ∧ t.fld F.SYS_MOD_STATE_LAST_CAUSE = 3 ∧ t.on F.SYS_MOD_STATE_CMD_PEND = false ∧
      t.pwr.readyFade = true ∧ t.pwr.trig = true ∧
      (∀ n < s.tdmPorts, s.fld (F.TDM_STATUS_GAIN_STATE n) = 0 → t.fld (F.TDM_STATUS_GAIN_STATE n) = 1) ∧ MemKept s t) ∧
  (∀ (s : State) (m : Master) (priv : Bool) (code : Nat), Direct s m priv A.SYS_MOD_CMD → code ∈ [1, 2, 6, 7] →
    s.on F.SPLICE_CFG_MODE = false →
    Answers (.modCmdInvalid code m priv) s fun t =>
      t.fld F.SYS_MOD_STATE_STATE = s.fld F.SYS_MOD_STATE_STATE ∧ t.on F.SYS_MOD_STATE_CMD_REFUSED = true ∧
      t.fld F.SYS_MOD_STATE_REFUSE_WHY = 5 ∧ Framed [A.SYS_MOD_STATE, A.MGMT_EVT] [.mgmt] s t)

/-- State changes that follow by themselves (R14, R19, R20, R39, R509, R511, R533): entry to READY once the start-up tests have
ended, with the bypass commanded open under policy 0; a held RUN that nothing holds any more; the end of a QUIET entry, with U12
off; the end of a wake, with U12 back and the EF trigger running; and the end of the FAULT_N pulse of factory defaults. Where
the spec leaves it open the statement follows the model's choices in notes/assumptions/7.md, 22.md, 23.md. -/
def Obligations.StateChanges : Prop :=
  (∀ s : State, s.fld F.SYS_MOD_STATE_STATE = 2 → s.test.startupDone = true → s.imageReady = true →
    s.on F.SYS_MOD_STATE_CMD_PEND = false → s.mgmt.settings.autoStart = false → s.test.running = none → s.test.reinit = none →
    Answers .readyEntry s fun t =>
      t.fld F.SYS_MOD_STATE_STATE = 3 ∧ t.fld F.SYS_MOD_STATE_LAST_CAUSE = s.fld F.SYS_MOD_STATE_LAST_CAUSE ∧
      t.on F.SYS_EVT_STATE_CHG = true ∧
      (s.fld F.RING_BYPASS_JOIN_POLICY = 0 → s.on F.RING_BYPASS_CTL_FORCE_CLOSE = false → s.ringBlocked = false →
        s.fld F.RING_BYPASS_STATUS_STATE = 0 → t.fld F.RING_BYPASS_STATUS_STATE = 1) ∧ MemKept s t) ∧
  (∀ s : State, s.on F.SYS_MOD_STATE_CMD_PEND = true → s.fld F.SYS_MOD_STATE_STATE = 3 → s.pwr.heldCause < 16 → RunFree s →
    Answers .runHoldRelease s (InRun s.pwr.heldCause s)) ∧
  (∀ s : State, s.fld F.SYS_MOD_STATE_STATE = 5 → s.pwr.quietEntry = true → s.pwr.trig = false →
    Answers .quietEntryComplete s fun t =>
      t.fld F.SYS_MOD_STATE_STATE = 5 ∧ t.pwr.quietEntry = false ∧ t.unitOn 12 = false ∧ MemKept s t) ∧
  (∀ s : State, s.pwr.wake = true → s.bus.owed = [] → s.unitStages 12 = true → s.bitOf F.PWR_UNIT_STATUS_FAILED 12 = false →
    Answers .wakeRestageComplete s fun t =>
      t.pwr.wake = false ∧ t.pwr.trig = true ∧ t.unitOn 12 = true ∧ MemKept s t) ∧
  (∀ s : State, Answers .cfgDefaultFaultPulseEnd s fun t => t.pwr.defaultPulse = false ∧ Framed [] [.pwr] s t)

/-! ### Ring ports, the bypass and the switch (spec chapter 2) -/

/-- A counter counts n: it saturates at 0xFFFF_FFFF (R67). -/
def Counts (s t : State) (adr n : Nat) : Prop := t.rd adr = min (s.rd adr + n) 0xFFFFFFFF

/-- Links (R28 to R31, R502, R562): a write that changes RATE_ADV stores the rates the variant has, clamps MAX_FRAME and drops
the link; three training failures withhold the rate; a link rises at a rate that the port advertises and falls; limited mode
drops a ring port above 2.5G; and a PHY register takes a posted write. Where the spec leaves it open the statement follows the
model's choices in notes/assumptions/30.md, 31.md. -/
def Obligations.Links : Prop :=
  (∀ (s : State) (p : Port) (m : Master) (priv : Bool) (w : Word), Direct s m priv (A.RING_PORT_CFG p.idx) →
    AsItReads s (A.RING_PORT_CFG p.idx) w → s.reg (A.RING_PORT_CFG p.idx) ≠ w →
    (F.RING_PORT_CFG_RATE_ADV p.idx).of w.toNat &&& s.rateBits p.idx ≠ s.fld (F.RING_PORT_CFG_RATE_ADV p.idx) →
    Answers (.portCfgWrite p (whole m priv w)) s fun t =>
      t.fld (F.RING_PORT_CFG_RATE_ADV p.idx) = (F.RING_PORT_CFG_RATE_ADV p.idx).of w.toNat &&& s.rateBits p.idx ∧
      t.fld (F.RING_PORT_CFG_MAX_FRAME p.idx) = clampN 1522 9216 ((F.RING_PORT_CFG_MAX_FRAME p.idx).of w.toNat) ∧
      t.linkUp p.idx = false ∧ MemKept s t) ∧
  (∀ (s : State) (p : Port) (rate : Nat), (s.rp p.idx).fails < 2 →
    Answers (.autonegTrainingFail p rate) s fun t =>
      t.ring = { s.ring with ports := updAt s.ring.ports p.idx fun x => { x with fails := (s.rp p.idx).fails + 1 } } ∧
      Framed [] [.ring] s t) ∧
  (∀ (s : State) (p : Port) (rate : Nat), 2 ≤ (s.rp p.idx).fails → p.idx < s.ring.ports.length →
    Answers (.autonegTrainingFail p rate) s fun t =>
      (t.advertised p.idx).testBit (rateBit p.idx rate) = false ∧ (t.rp p.idx).fails = 0 ∧ Framed [] [.ring] s t) ∧
  (∀ (s : State) (p : Port) (rate dt : Nat), s.linkUp p.idx = false → s.portMayLink p.idx = true →
    (s.advertised p.idx).testBit (rateBit p.idx rate) = true → 1 ≤ rate → rate ≤ 5 →
    Answers (.linkUp p rate dt) s fun t =>
      t.linkUp p.idx = true ∧ t.fld (F.RING_PORT_STATUS_RATE p.idx) = rate ∧ t.bitOf F.RING_EVT_LINK_CHG p.idx = true ∧
      t.fld (F.TIME_PSTAT_LINK_DELAY p.idx) = 0 ∧
      Framed (timeRegs ++ [A.RING_PORT_STATUS p.idx, A.RING_EVT, A.TIME_PSTAT p.idx]) [.ring, .time, .clk, .mgmt] s t) ∧
  (∀ (s : State) (p : Port) (dt : Nat), s.linkUp p.idx = true →
    Answers (.linkDown p dt) s fun t =>
      t.linkUp p.idx = false ∧ t.fld (F.RING_PORT_STATUS_RATE p.idx) = 0 ∧ t.bitOf F.RING_EVT_LINK_CHG p.idx = true ∧
      Counts s t (A.MSTAT_LINK_DOWN p.idx) 1 ∧ MemKept s t) ∧
  (∀ (s : State) (p : Nat), p < 2 → s.pwr.limitedTimer = true → 2500 < s.linkMbps p →
    Answers .limitedRetrainTimer s fun t => t.linkUp p = false ∧ t.pwr.limitedTimer = false ∧ MemKept s t) ∧
  (∀ (s : State) (p : Port) (mmd reg val : Nat), s.unitOn (4 + p.idx) = true → mmd = 1 ∨ mmd = 3 → 0 < reg → reg < 65536 →
    Answers (.phyDataWrite p mmd reg val) s fun t =>
      t.rd (phyBase p.idx mmd reg) = val % 65536 ∧ Framed [phyBase p.idx mmd reg] [] s t)

/-- Flap hold-down (R69, R70): the sixth flap within 60 s starts it, one level up and twice as long; its end, RELEASE and an
hour of link undo it; and a quiet port enters low-power idle where EEE_MODE permits it (R32). Where the spec leaves it open the
statement follows the model's choices in notes/assumptions/7.md, 30.md. -/
def Obligations.HoldDown : Prop :=
  (∀ (s : State) (p : Port) (dt : Nat), s.linkUp p.idx = true → s.on (F.RING_PORT_CFG_ENABLE p.idx) = true →
    s.on (F.RING_PORT_STATUS_HELD p.idx) = false → 5 ≤ ((s.advance dt).recentFlaps p.idx).length → p.idx < s.ring.ports.length →
    s.fld (F.RING_FLAP_HOLD_LEVEL p.idx) ≤ 9 →
    Answers (.linkDown p dt) s fun t =>
      t.on (F.RING_PORT_STATUS_HELD p.idx) = true ∧
      t.fld (F.RING_FLAP_HOLD_LEVEL p.idx) = min 9 (s.fld (F.RING_FLAP_HOLD_LEVEL p.idx) + 1) ∧
      (t.rp p.idx).holdEnd = t.time.up + holdSecs (min 9 (s.fld (F.RING_FLAP_HOLD_LEVEL p.idx) + 1)) * secU ∧
      t.bitOf F.RING_EVT_HOLD_START p.idx = true) ∧
  (∀ (s : State) (p : Port) (dt : Nat), s.on (F.RING_PORT_STATUS_HELD p.idx) = true →
    Answers (.holdDownEnd p dt) s fun t =>
      t.on (F.RING_PORT_STATUS_HELD p.idx) = false ∧ t.fld (F.RING_FLAP_FLAPS p.idx) = 0 ∧
      t.fld (F.RING_FLAP_HOLD_LEVEL p.idx) = s.fld (F.RING_FLAP_HOLD_LEVEL p.idx) ∧
      Framed (timeRegs ++ [A.RING_PORT_STATUS p.idx, A.RING_FLAP p.idx]) [.ring, .time, .clk, .mgmt] s t) ∧
  (∀ (s : State) (p : Port), s.linkUp p.idx = true →
    Answers (.holdLevelDecay p) s fun t =>
      t.fld (F.RING_FLAP_HOLD_LEVEL p.idx) = 0 ∧ t.fld (F.RING_FLAP_FLAPS p.idx) = s.fld (F.RING_FLAP_FLAPS p.idx) ∧
      Framed [A.RING_FLAP p.idx] [] s t) ∧
  (∀ (s : State) (p : Port) (m : Master) (priv : Bool), Direct s m priv (A.RING_FLAP p.idx) →
    s.on (F.RING_PORT_STATUS_HELD p.idx) = true →
    Answers (.flapRelease p m priv) s fun t =>
      t.on (F.RING_PORT_STATUS_HELD p.idx) = false ∧ t.fld (F.RING_FLAP_FLAPS p.idx) = 0 ∧
      t.fld (F.RING_FLAP_HOLD_LEVEL p.idx) = s.fld (F.RING_FLAP_HOLD_LEVEL p.idx) ∧
      Framed [A.RING_PORT_STATUS p.idx, A.RING_FLAP p.idx] [.ring] s t) ∧
  (∀ (s : State) (p : Port) (dt : Nat), s.linkUp p.idx = true → s.fld (F.RING_PORT_CFG_EEE_MODE p.idx) = 1 →
    Answers (.lpiEntry p dt) s fun t =>
      t.on (F.RING_PORT_STATUS_LPI p.idx) = true ∧
      Framed (timeRegs ++ [A.RING_PORT_STATUS p.idx]) [.time, .clk, .mgmt] s t)

/-- The bypass (R36, R39, R41, R42): JOIN_NOW opens it or is refused; FORCE_CLOSE closes it and reverses a join; a delayed join
falls due; and the contacts settle. Where the spec leaves it open the statement follows the model's choices in
notes/assumptions/7.md, 11.md. -/
def Obligations.Bypass : Prop :=
  (∀ (s : State) (m : Master) (priv : Bool), Direct s m priv A.RING_BYPASS_CTL → s.on F.RING_BYPASS_CTL_FORCE_CLOSE = false →
    s.upAndReady = true → s.ringBlocked = false → s.test.running = none → s.test.reinit = none →
    s.fld F.RING_BYPASS_STATUS_STATE = 0 →
    Answers (.bypassJoinNow m priv) s fun t =>
      t.fld F.RING_BYPASS_STATUS_STATE = 1 ∧ t.fld F.RING_BYPASS_STATUS_WAIT_S = 0 ∧ t.ring.join = .none ∧
      Framed [A.RING_BYPASS_STATUS] [.ring] s t) ∧
  (∀ (s : State) (m : Master) (priv : Bool), Direct s m priv A.RING_BYPASS_CTL →
    s.on F.RING_BYPASS_CTL_FORCE_CLOSE = true ∨ s.upAndReady = false ∨ s.ringBlocked = true →
    Answers (.bypassJoinNow m priv) s fun t =>
      t.on F.RING_BYPASS_STATUS_JOIN_REFUSED = true ∧
      t.fld F.RING_BYPASS_STATUS_STATE = s.fld F.RING_BYPASS_STATUS_STATE ∧ Framed [A.RING_BYPASS_STATUS] [] s t) ∧
  (∀ (s : State) (m : Master) (priv : Bool), Direct s m priv A.RING_BYPASS_CTL → s.on F.RING_BYPASS_CTL_FORCE_CLOSE = false →
    s.fld F.RING_BYPASS_STATUS_STATE = 1 ∨ s.fld F.RING_BYPASS_STATUS_STATE = 2 →
    Answers (.bypassForceClose true m priv) s fun t =>
      t.on F.RING_BYPASS_CTL_FORCE_CLOSE = true ∧ t.fld F.RING_BYPASS_STATUS_STATE = 3 ∧ t.ring.join = .none ∧
      Framed [A.RING_BYPASS_CTL, A.RING_BYPASS_STATUS] [.ring] s t) ∧
  (∀ (s : State) (e : Nat), s.ring.join = .delay e → s.on F.RING_BYPASS_CTL_FORCE_CLOSE = false → s.ringBlocked = false →
    s.upAndReady = true → s.test.running = none → s.test.reinit = none → s.fld F.RING_BYPASS_STATUS_STATE = 0 →
    Answers .bypassJoinDelayExpiry s fun t =>
      t.fld F.RING_BYPASS_STATUS_STATE = 1 ∧ t.ring.join = .none ∧ Framed [A.RING_BYPASS_STATUS] [.ring] s t) ∧
  (∀ (s : State) (e : Nat), s.ring.join = .delay e → s.on F.RING_BYPASS_CTL_FORCE_CLOSE = true →
    Answers .bypassJoinDelayExpiry s fun t =>
      t.fld F.RING_BYPASS_STATUS_STATE = s.fld F.RING_BYPASS_STATUS_STATE ∧ t.ring.join = .none ∧
      Framed [A.RING_BYPASS_STATUS] [.ring] s t) ∧
  (∀ s : State, s.fld F.RING_BYPASS_STATUS_STATE = 1 →
    Answers .bypassContactsSettled s fun t =>
      t.fld F.RING_BYPASS_STATUS_STATE = 2 ∧ t.fld F.RING_BYPASS_STATUS_CLOSE_CAUSE = 0 ∧ t.on F.RING_EVT_JOIN_DONE = true ∧
      Framed [A.RING_BYPASS_STATUS, A.RING_EVT, A.MGMT_EVT] [.mgmt] s t) ∧
  (∀ s : State, s.fld F.RING_BYPASS_STATUS_STATE = 3 →
    Answers .bypassContactsSettled s fun t =>
      t.fld F.RING_BYPASS_STATUS_STATE = 0 ∧ t.on F.RING_EVT_BYPASS_CLOSED = true ∧ t.linkUp 0 = false ∧ t.linkUp 1 = false ∧
      MemKept s t)

/-- Shaping and pause (R45, R48, R49, R62 to R65): a reservation above 900 per mille reduces IDLE4; SWAP and its anchor, the
cycle, its entries and its cut at 1 s; a gate entry as written; and the pause frames a pool sends and the classes a pause stops.
Where the spec leaves it open the statement follows the model's choices in notes/assumptions/32.md. -/
def Obligations.ShapingAndPause : Prop :=
  (∀ (s : State) (p : Port) (m : Master) (priv : Bool) (w : Word), Direct s m priv (A.RING_CBS p.idx) →
    AsItReads s (A.RING_CBS p.idx) w → s.reg (A.RING_CBS p.idx) ≠ w → (F.RING_CBS_IDLE5 p.idx).of w.toNat ≤ 900 →
    Answers (.cbsWrite p (whole m priv w)) s fun t =>
      t.fld (F.RING_CBS_IDLE5 p.idx) = (F.RING_CBS_IDLE5 p.idx).of w.toNat ∧
      t.fld (F.RING_CBS_IDLE4 p.idx) =
        min ((F.RING_CBS_IDLE4 p.idx).of w.toNat) (900 - (F.RING_CBS_IDLE5 p.idx).of w.toNat) ∧
      (900 < (F.RING_CBS_IDLE5 p.idx).of w.toNat + (F.RING_CBS_IDLE4 p.idx).of w.toNat → t.on F.RING_EVT_CBS_CLAMP = true) ∧
      Framed [A.RING_CBS p.idx, A.RING_EVT] [] s t) ∧
  (∀ (s : State) (b : Bool) (m : Master) (priv : Bool), Direct s m priv (A.RING_QBV_CTL b.toNat) → b.toNat < s.ring.ports.length →
    ((List.range (s.entryCount b.toNat)).map fun e => s.rd (gateAdr b.toNat (1 - s.operBank b.toNat) e) % 2 ^ 24).sum ≤ 125000000 →
    Answers (.qbvSwap b m priv) s fun t =>
      (t.rp b.toNat).gate.swap = true ∧ (t.rp b.toNat).gate.nextCount = s.entryCount b.toNat ∧
      (t.rp b.toNat).gate.anchor = some ((s.time.tb / secU + 1) * secU + s.fld (F.RING_QBV_PHASE_NS b.toNat) * nsU) ∧
      Framed [] [.ring] s t) ∧
  (∀ (s : State) (b : Bool) (m : Master) (priv : Bool), Direct s m priv (A.RING_QBV_CTL b.toNat) →
    125000000 < ((List.range (s.entryCount b.toNat)).map fun e => s.rd (gateAdr b.toNat (1 - s.operBank b.toNat) e) % 2 ^ 24).sum →
    Answers (.qbvSwap b m priv) s fun t =>
      t.operBank b.toNat = s.operBank b.toNat ∧ t.on F.RING_EVT_QBV_ERR = true ∧ Framed [A.RING_EVT] [] s t) ∧
  (∀ (s : State) (b : Bool) (dt a : Nat), (s.rp b.toNat).gate.anchor = some a → a ≤ (s.advance dt).time.tb →
    b.toNat < s.ring.ports.length →
    Answers (.qbvCycleStart b dt) s fun t =>
      t.operBank b.toNat = (if (s.rp b.toNat).gate.swap then 1 - s.operBank b.toNat else s.operBank b.toNat) ∧
      (t.rp b.toNat).gate.running = true ∧ (t.rp b.toNat).gate.entry = 0 ∧ (t.rp b.toNat).gate.swap = false ∧
      (t.rp b.toNat).gate.cycleUp = t.time.up ∧ (t.rp b.toNat).gate.anchor = none ∧
      Framed (timeRegs ++ [A.RING_QBV_CTL b.toNat]) [.ring, .time, .clk, .mgmt] s t) ∧
  (∀ (s : State) (b : Bool) (dt : Nat), (s.rp b.toNat).gate.running = true →
    (s.rp b.toNat).gate.entry + 1 < (s.rp b.toNat).gate.count → b.toNat < s.ring.ports.length →
    Answers (.qbvEntryExpiry b dt) s fun t =>
      (t.rp b.toNat).gate = { (s.rp b.toNat).gate with entry := (s.rp b.toNat).gate.entry + 1 } ∧
      Framed timeRegs [.ring, .time, .clk, .mgmt] s t) ∧
  (∀ (s : State) (b : Bool) (dt : Nat), (s.rp b.toNat).gate.running = true →
    (s.rp b.toNat).gate.cycleUp + secU ≤ s.time.up + dt → b.toNat < s.ring.ports.length →
    Answers (.qbvCycleCut b dt) s fun t =>
      t.on F.RING_EVT_QBV_ERR = true ∧ (t.rp b.toNat).gate.entry = 0 ∧ (t.rp b.toNat).gate.cycleUp = t.time.up ∧
      Framed (timeRegs ++ [A.RING_EVT]) [.ring, .time, .clk, .mgmt] s t) ∧
  (∀ (s : State) (k : Nat) (m : Master) (priv : Bool) (w : Word), k < 256 → Direct s m priv (A.RING_GATE k) →
    Answers (.qbvEntryWrite k (whole m priv w)) s fun t => t.reg (A.RING_GATE k) = w ∧ Framed [A.RING_GATE k] [] s t) ∧
  (∀ (s : State) (m : Master) (priv : Bool) (w : Word), Direct s m priv A.RING_PAUSE_WM → AsItReads s A.RING_PAUSE_WM w →
    (∀ p < 3, (s.rp p).pool = 0 ∧ (s.rp p).xoff = false) → 1 ≤ F.RING_PAUSE_WM_HIGH_PCT.of w.toNat →
    Answers (.pauseWmWrite (whole m priv w)) s fun t => t.reg A.RING_PAUSE_WM = w ∧ Framed [A.RING_PAUSE_WM] [] s t) ∧
  (∀ (s : State) (p : Port), (s.rp p.idx).xoff = true → s.poolLow < (s.rp p.idx).pool → s.pauses p.idx = true →
    s.linkUp p.idx = true →
    Answers (.pauseRepeat p) s fun t =>
      Out.frame (portOf p.idx) (s.pauseFrame p.idx 0xFFFF) ∈ t.out ∧ Counts s t (A.MSTAT_TX_PAUSE p.idx) 1 ∧
      Counts s t (A.MSTAT_TX_FRAMES p.idx) 1 ∧
      Framed [A.MSTAT_TX_PAUSE p.idx, A.MSTAT_TX_FRAMES p.idx, A.MSTAT_TX_BLK64 p.idx, A.MSTAT_SAT p.idx] [.ring] s t) ∧
  (∀ (s : State) (p : Port) (dt : Nat), p.idx < s.ring.ports.length →
    Answers (.pauseQuantaExpiry p dt) s fun t =>
      (t.rp p.idx).stopped = (s.rp p.idx).stopped.filter (fun e => Nat.blt t.time.up e.2) ∧
      Framed timeRegs [.ring, .time, .clk, .mgmt] s t) ∧
  (∀ (s : State) (dt q : Nat) (f : Frame), s.linkUp 2 = true → f.body = .pause q → 64 ≤ f.len → f.len ≤ s.frameLimit 2 f →
    f.fcsOk = true → 4 ≤ arrivalClass 2 f → s.on (F.RING_PORT_CFG_PAUSE_EN 2) = true → 0 < s.quantaUp 2 q → q ≠ 0 →
    2 < s.ring.ports.length →
    Answers (.spurFrameRx dt f) s fun t =>
      (∀ cls < 5, t.classStopped 2 cls = true) ∧ Counts s t (A.MSTAT_RX_PAUSE 2) 1 ∧ MemKept s t)

/-- The frame carries no PTP message. -/
abbrev NotPtp (f : Frame) : Prop := (match f.body with | .ptp _ => false | _ => true) = true

/-- A frame body that the switch handles by its addresses: neither PTP nor MAC control. -/
abbrev Plain (f : Frame) : Prop :=
  (match f.body with | .ptp _ | .pause _ | .pfc _ _ => false | _ => true) = true

/-- The frame passes the arrival checks of a port: its length, its FCS, its VLAN, and room for it (R47, R58, R62). -/
abbrev Passes (s : State) (p : Nat) (f : Frame) : Prop :=
  64 ≤ f.len ∧ f.len ≤ s.frameLimit p f ∧ f.fcsOk = true ∧ (s.frameVlan p f).isSome = true ∧
    (arrivalClass p f < 4 → (s.rp p).pool + f.len ≤ 262144)

/-- Frames (R52 to R54, R58, R66): a runt only counts; a ring port removes the module's own frames; a tagged frame goes on along
the ring with its hop count one up, and not at the hop limit; a frame from port C goes onto the ring on both ports with one new
R-TAG; and the egress sends the frame whose turn it is. Where the spec leaves it open the statement follows the model's choices
in notes/assumptions/32.md, 34.md. -/
def Obligations.Frames : Prop :=
  (∀ (s : State) (dt : Nat) (b : Bool) (f : Frame), s.linkUp b.toNat = true → f.len < 64 →
    Answers (.ringFrameRx dt b f) s fun t =>
      Counts s t (A.MSTAT_RX_RUNT b.toNat) 1 ∧
      Framed (timeRegs ++ [A.MSTAT_RX_RUNT b.toNat, A.MSTAT_RX_BLK64 b.toNat, A.MSTAT_SAT b.toNat]) [.ring, .time, .clk, .mgmt] s t) ∧
  (∀ (s : State) (dt : Nat) (b : Bool) (f : Frame), s.linkUp b.toNat = true → Passes s b.toNat f → Plain f →
    s.ownMac f.src = true →
    Answers (.ringFrameRx dt b f) s fun t =>
      Counts s t (A.MSTAT_RING_STRIP b.toNat) 1 ∧ Counts s t (A.MSTAT_RX_FRAMES b.toNat) 1 ∧
      (∀ q, (t.rp q).queue = (s.rp q).queue) ∧
      Framed (timeRegs ++ [A.MSTAT_RING_STRIP b.toNat, A.MSTAT_RX_FRAMES b.toNat, A.MSTAT_RX_BLK64 b.toNat, A.MSTAT_SAT b.toNat,
        A.RING_PORT_STATUS b.toNat]) [.ring, .time, .clk, .mgmt] s t) ∧
  (∀ (s : State) (dt seq hop : Nat) (b : Bool) (f : Frame), Shaped s → s.linkUp b.toNat = true → s.linkUp (1 - b.toNat) = true →
    Passes s b.toNat f → f.oversize = false → f.body = .data → s.ownMac f.src = false → f.rtag = some (seq, hop) →
    hop + 1 < s.hopLimit →
    Answers (.ringFrameRx dt b f) s fun t =>
      ∃ e, (t.rp (1 - b.toNat)).queue = (s.rp (1 - b.toNat)).queue ++ [e] ∧
        e.frame = { f with rtag := some (seq, (hop + 1) % 256) }) ∧
  (∀ (s : State) (dt seq hop : Nat) (b : Bool) (f : Frame), Shaped s → s.linkUp b.toNat = true → Passes s b.toNat f →
    f.oversize = false → f.body = .data → s.ownMac f.src = false → f.rtag = some (seq, hop) → s.hopLimit ≤ hop + 1 →
    Answers (.ringFrameRx dt b f) s fun t =>
      (t.rp (1 - b.toNat)).queue = (s.rp (1 - b.toNat)).queue ∧ Counts s t (A.MSTAT_HOP_EXPIRED b.toNat) 1) ∧
  (∀ (s : State) (dt : Nat) (f : Frame), Shaped s → s.linkUp 0 = true → s.linkUp 1 = true → s.linkUp 2 = true → Passes s 2 f →
    f.oversize = false → f.body = .data →
    Answers (.spurFrameRx dt f) s fun t =>
      ∃ e e', (t.rp 0).queue = (s.rp 0).queue ++ [e] ∧ (t.rp 1).queue = (s.rp 1).queue ++ [e'] ∧
        e.frame.rtag = some (s.ring.sharedSeq, 0) ∧ e'.frame = e.frame) ∧
  (∀ (s : State) (dt : Nat) (p : Port) (e : EgFrame), s.linkUp p.idx = true → NotPtp e.frame → e.host = none →
    e.pool ≠ some p.idx → e.cls < 8 → (∀ c < 8, e.cls < c → (((s.advance dt).creditTick p.idx).slopes p.idx).headFate p.idx c = .none) →
    (((s.advance dt).creditTick p.idx).slopes p.idx).headFate p.idx e.cls = .go e → e.frame.len ≤ s.frameLimit p.idx e.frame →
    Answers (.frameTransmit dt p) s fun t =>
      Out.frame p { e.frame with len := max 64 e.frame.len } ∈ t.out ∧ Counts s t (A.MSTAT_TX_FRAMES p.idx) 1 ∧ MemKept s t)

/-! ### Network time (spec chapter 3) -/

/-- A time pulse output. -/
def tpoOf (s : State) (n : Nat) : Tpo := getAt s.time.tpo n Tpo.reset

/-- The time base (R73, R108, R109, R112, R113, R122, R212): a read of TB_NS latches the rest of the time, a read of NOW_EF the
cleat and the head, and a read of CAPQ_INFO pops the queue; SET and ADJ are taken, or refused while the reference in use carries
time; a jump up to 1,000 ns is slewed and a longer one is a step; and a slew ends. Where the spec leaves it open the statement
follows the model's choices in notes/assumptions/9.md, 10.md. -/
def Obligations.TimeBase : Prop :=
  (∀ (s : State) (m : Master) (priv : Bool), s.unitAwake 3 = true →
    Answers (.tbNsRead m priv) s fun t =>
      t.resp = setAt s.resp m.code (BitVec.ofNat 32 s.tbNs) ∧
      t.time = { s.time with latch := setAt s.time.latch m.code (s.time.tb, s.time.epoch) } ∧ Framed [] [.time, .resp] s t) ∧
  (∀ (s : State) (m : Master) (priv : Bool), s.unitAwake 3 = true →
    Answers (.capqInfoRead m priv) s fun t =>
      t.resp = setAt s.resp m.code (BitVec.ofNat 32 s.capqInfo) ∧ t.time = { s.time with capq := s.time.capq.tail } ∧
      Framed [] [.time, .resp] s t) ∧
  (∀ (s : State) (m : Master) (priv : Bool), s.unitAwake 2 = true →
    Answers (.nowEfRead m priv) s fun t =>
      t.resp = setAt s.resp m.code (s.reg A.PLAY_NOW_EF) ∧
      t.play = { s.play with latch := setAt s.play.latch m.code (s.play.cleat % 2 ^ 32, s.play.head % 2 ^ 32) } ∧
      Framed [] [.play, .resp] s t) ∧
  (∀ (s : State) (m : Master) (priv : Bool), Direct s m priv A.TIME_TB_CTL → s.refCarriesTime = false →
    Answers (.tbCtlSet false m priv) s fun t =>
      t.time.setPend = some ((s.rd A.TIME_TB_SET_SEC_LO + s.fld F.TIME_TB_SET_SEC_HI_SEC * 2 ^ 32) * 1000000000 +
        s.rd A.TIME_TB_SET_NS) ∧
      t.fld F.MGMT_RTC_STATUS_SRC = 4 ∧ Framed [A.MGMT_RTC_STATUS] [.time, .mgmt] s t) ∧
  (∀ (s : State) (m : Master) (priv : Bool), Direct s m priv A.TIME_TB_CTL → s.refCarriesTime = false →
    Answers (.tbCtlAdj false m priv) s fun t =>
      t.time.jumps = s.time.jumps ++ [sgn 32 (s.rd A.TIME_TB_ADJ) * nsU] ∧ Framed [A.MGMT_RTC_STATUS] [.time, .mgmt] s t) ∧
  (∀ (s : State) (clash : Bool) (m : Master) (priv : Bool), Direct s m priv A.TIME_TB_CTL → s.refCarriesTime = true ∨ clash = true →
    Answers (.tbCtlSet clash m priv) s (fun t => t.on F.TIME_EVT_ADJ_REFUSED = true ∧ Framed [A.TIME_EVT] [] s t) ∧
    Answers (.tbCtlAdj clash m priv) s fun t => t.on F.TIME_EVT_ADJ_REFUSED = true ∧ Framed [A.TIME_EVT] [] s t) ∧
  (∀ (s : State) (d : Int), s.clk.running = false → s.time.setPend = none → s.time.jumps = [d] → s.time.slew = 0 →
    d.natAbs ≤ 1000 * nsU → d ≠ 0 →
    Answers .timeJumpApply s fun t =>
      t.time.tb = s.time.tb ∧ t.time.slew = d ∧ t.time.jumps = [] ∧ t.on F.TIME_EVT_SLEW = true ∧
      Framed [A.TIME_EVT] [.time, .clk] s t) ∧
  (∀ (s : State) (d : Int), s.clk.running = false → s.time.setPend = none → s.time.jumps = [d] → s.time.slew = 0 →
    1000 * nsU < d.natAbs → 0 ≤ (s.time.tb : Int) + d → (s.time.tb : Int) + d ≤ tbMax →
    Answers .timeJumpApply s fun t =>
      (t.time.tb : Int) = s.time.tb + d ∧ t.time.epoch = (s.time.epoch + 1) % 2 ^ 16 ∧ t.time.jumps = [] ∧
      Counts s t A.TIME_CNT_STEPS 1 ∧ t.on F.TIME_EVT_STEP = true ∧ t.rd A.TIME_LAST_STEP = nsReg d ∧ MemKept s t) ∧
  (∀ s : State, s.time.slew ≠ 0 → s.time.slewAcc < 200000 →
    Answers .slewComplete s fun t => t.time.slew = 0 ∧ t.time.up = s.time.up + s.slewLeft ∧ Framed timeRegs [.time, .clk, .mgmt] s t)

/-- Time pulse outputs and captures (R114 to R123): a start arms a one-shot, mode 0 turns the output off, a one-shot fires once
its start is reached, a periodic output's edges and its realignment, and the end of a pulse; a selected edge is captured, and
one that finds the queue full is dropped. Where the spec leaves it open the statement follows the model's choices in
notes/assumptions/36.md. -/
def Obligations.PulsesAndCaptures : Prop :=
  (∀ (s : State) (n : Fin 4) (m : Master) (priv : Bool) (w : Word), Shaped s → Direct s m priv (A.TIME_TPO_START_NS n) →
    s.fld (F.TIME_TPO_CTL_MODE n) = 1 → w.toNat ≤ 999999999 →
    s.time.tb ≤ ((s.rd (A.TIME_TPO_START_SEC_LO n) + s.fld (F.TIME_TPO_START_SEC_HI_SEC n) * 2 ^ 32) * 1000000000 + w.toNat) * nsU →
    Answers (.tpoStartWrite n (whole m priv w)) s fun t =>
      (tpoOf t n).armed = true ∧ t.bitOf F.TIME_TPO_STATUS_ARMED n = true ∧
      (tpoOf t n).startNs =
        (s.rd (A.TIME_TPO_START_SEC_LO n) + s.fld (F.TIME_TPO_START_SEC_HI_SEC n) * 2 ^ 32) * 1000000000 + w.toNat ∧
      t.reg (A.TIME_TPO_START_NS n) = w ∧ Framed [A.TIME_TPO_START_NS n, A.TIME_TPO_STATUS] [.time] s t) ∧
  (∀ (s : State) (n : Fin 4) (m : Master) (priv : Bool) (w : Word), Shaped s → Direct s m priv (A.TIME_TPO_CTL n) →
    AsItReads s (A.TIME_TPO_CTL n) w → (F.TIME_TPO_CTL_MODE n).of w.toNat = 0 → s.fld (F.TIME_TPO_CTL_MODE n) ≠ 0 →
    Answers (.tpoCtlWrite n (whole m priv w)) s fun t =>
      (tpoOf t n).armed = false ∧ (tpoOf t n).running = false ∧ (tpoOf t n).pulse = (tpoOf s n).pulse ∧
      t.bitOf F.TIME_TPO_STATUS_ARMED n = false ∧ t.bitOf F.TIME_TPO_STATUS_RUNNING n = false ∧ t.reg (A.TIME_TPO_CTL n) = w ∧
      Framed [A.TIME_TPO_CTL n, A.TIME_TPO_STATUS] [.time] s t) ∧
  (∀ (s : State) (n dt : Nat), Shaped s → n < 4 → (tpoOf s n).armed = true → (tpoOf s n).startNs * nsU ≤ (s.advance dt).time.tb →
    Answers (.tpoOneShotFire n dt) s fun t =>
      (tpoOf t n).armed = false ∧ (tpoOf t n).pulse = true ∧ t.bitOf F.TIME_TPO_STATUS_ARMED n = false ∧
      t.bitOf F.TIME_TPO_STATUS_FIRED n = true ∧ t.bitOf F.TIME_EVT_TPO_FIRED n = true ∧
      Framed (timeRegs ++ [A.TIME_TPO_STATUS, A.TIME_EVT]) [.time, .clk, .mgmt] s t) ∧
  (∀ (s : State) (n : Nat), Shaped s → n < 4 → (tpoOf s n).running = true →
    Answers (.tpoPeriodicEdge n) s fun t =>
      (tpoOf t n).pulse = true ∧
      (tpoOf t n).nextUp = (tpoOf s n).nextUp + clampN 1000 4000000000 (s.rd (A.TIME_TPO_PERIOD n)) * nsU ∧
      t.rd (A.TIME_TPO_MISALIGN n) = nsReg (t.time.tb - (tpoOf s n).ideal) ∧
      Framed (timeRegs ++ [A.TIME_TPO_MISALIGN n]) [.time, .clk, .mgmt] s t) ∧
  (∀ (s : State) (n : Fin 4) (m : Master) (priv : Bool), Shaped s → Direct s m priv A.CLK_REALIGN → (tpoOf s n).running = true →
    (s.time.tb : Int) ≤ (tpoOf s n).ideal →
    ((s.tpoWidth n + 64 * nsU : Nat) : Int) ≤ (tpoOf s n).ideal - s.time.tb + s.time.up -
      ((tpoOf s n).nextUp - (clampN 1000 4000000000 (s.rd (A.TIME_TPO_PERIOD n)) * nsU : Nat)) →
    Answers (.tpoRealign n m priv) s fun t =>
      ((tpoOf t n).nextUp : Int) - t.time.up = (tpoOf s n).ideal - t.time.tb ∧ t.rd (A.TIME_TPO_MISALIGN n) = 0 ∧
      Framed [A.TIME_TPO_MISALIGN n] [.time] s t) ∧
  (∀ (s : State) (n dt : Nat), Shaped s → n < 4 →
    Answers (.tpoPulseEnd n dt) s fun t => (tpoOf t n).pulse = false ∧ Framed timeRegs [.time, .clk, .mgmt] s t) ∧
  (∀ (s : State) (n dt : Nat) (rise : Bool), n < 4 →
    ((s.fld F.TIME_TPI_CTL_EDGE) >>> (2 * n) % 4).testBit (if rise then 0 else 1) = true →
    (∀ u ∈ getAt s.time.lastCap n none, u + 40 * nsU ≤ s.time.up + dt) → s.time.capq.length < 64 →
    Answers (.tpiCapture n rise false dt) s fun t =>
      t.time.capq = s.time.capq ++ [Cap.mk t.time.tb t.time.epoch rise n] ∧ t.on F.TIME_EVT_CAPQ_NE = true ∧
      Framed (timeRegs ++ [A.TIME_EVT]) [.time, .clk, .mgmt] s t) ∧
  (∀ (s : State) (n dt : Nat) (rise : Bool), n < 4 →
    ((s.fld F.TIME_TPI_CTL_EDGE) >>> (2 * n) % 4).testBit (if rise then 0 else 1) = true →
    (∀ u ∈ getAt s.time.lastCap n none, u + 40 * nsU ≤ s.time.up + dt) → 64 ≤ s.time.capq.length →
    Answers (.tpiCapture n rise false dt) s fun t =>
      t.time.capq = s.time.capq ∧ Counts s t A.TIME_CNT_CAPQ_DROP 1 ∧ t.on F.TIME_CAPQ_STATUS_OVF = true ∧
      t.on F.TIME_EVT_CAPQ_OVF = true ∧
      Framed (timeRegs ++ [A.TIME_CNT_CAPQ_DROP, A.TIME_SAT, A.TIME_CAPQ_STATUS, A.TIME_EVT]) [.time, .clk, .mgmt] s t)

/-- No port has heard an Announce, one port apart. -/
abbrev Unheard (s : State) (p : Nat) : Prop := ∀ q < 3, q ≠ p → (s.tport q).ann = none

/-- PTP (R75 to R81, R87, R91, R93): with no Announce left the module becomes grandmaster; the delay requests, Syncs and
Announces it originates are queued on their ports with rising sequence numbers; two-step corrections are kept for 1 s; a
timestamp entry is given back; and a new profile brings its domain and its intervals. Where the spec leaves it open the
statement follows the model's choices in notes/assumptions/35.md. -/
def Obligations.PtpMessages : Prop :=
  (∀ (s : State) (p : Port), Shaped s → s.unitOn 3 = true → Unheard s p.idx → s.on F.TIME_PTP_CFG_SLAVE_ONLY = false →
    Answers (.announceReceiptTimeout p) s fun t => (t.tport p.idx).ann = none ∧ t.time.isGm = true ∧ MemKept s t) ∧
  (∀ (s : State) (p : Port) (dt : Nat), Shaped s → s.unitOn 3 = true → p.idx < 2 ∨ s.e2e = false → s.linkUp p.idx = true →
    Answers (.pdelayReqTimer p dt) s fun t =>
      (∃ e, (t.rp p.idx).queue = (s.rp p.idx).queue ++ [e] ∧ e.timed = true ∧
        e.frame.body = .ptp (s.ptpMsg p.idx .pdelayReq (s.tport p.idx).seqPdelay)) ∧
      (t.tport p.idx).seqPdelay = ((s.tport p.idx).seqPdelay + 1) % 65536 ∧ Framed timeRegs [.ring, .time, .clk, .mgmt] s t) ∧
  (∀ (s : State) (dt : Nat), Shaped s → s.unitOn 3 = true → s.e2e = true → s.time.gmPort = 2 → s.time.isGm = false →
    s.time.gm.isSome = true → s.linkUp 2 = true →
    Answers (.delayReqTimer dt) s fun t =>
      (∃ e, (t.rp 2).queue = (s.rp 2).queue ++ [e] ∧ e.timed = true ∧
        e.frame.body = .ptp (s.ptpMsg 2 .delayReq (s.tport 2).seqDelay)) ∧
      (t.tport 2).seqDelay = ((s.tport 2).seqDelay + 1) % 65536 ∧ Framed timeRegs [.ring, .time, .clk, .mgmt] s t) ∧
  (∀ (s : State) (dt : Nat), Shaped s → s.unitOn 3 = true → s.time.isGm = true →
    Answers (.syncOriginate dt) s fun t =>
      (∀ p < 3, s.linkUp p = true → ∃ e, (t.rp p).queue = (s.rp p).queue ++ [e] ∧ e.timed = true ∧
        e.frame.body = .ptp { s.ptpMsg p .sync (s.tport p).seqSync with twoStep := s.on F.TIME_PTP_CFG_TWO_STEP }) ∧
      Framed timeRegs [.ring, .time, .clk, .mgmt] s t) ∧
  (∀ (s : State) (dt : Nat), Shaped s → s.unitOn 3 = true → Unheard s 3 → s.on F.TIME_PTP_CFG_SLAVE_ONLY = false →
    Answers (.announceOriginate dt) s fun t =>
      ∀ p < 3, s.linkUp p = true → ∃ e m, (t.rp p).queue = (s.rp p).queue ++ [e] ∧ e.frame.body = .ptp m ∧ m.kind = .announce ∧
        m.seq = (s.tport p).seqAnn ∧ m.ann.isSome = true) ∧
  (∀ (s : State) (p : Port) (dt : Nat), Shaped s →
    Answers (.twoStepEntryExpiry p dt) s fun t =>
      (t.tport p.idx).table = (s.tport p.idx).table.filter (fun x => Nat.blt t.time.up (x.up + secU)) ∧
      Framed timeRegs [.time, .clk, .mgmt] s t) ∧
  (∀ s : State, Answers .tsQueueEntryFree s fun t =>
    t.time = { s.time with tsUsed := s.time.tsUsed - 1 } ∧ Framed [] [.time] s t) ∧
  (∀ (s : State) (m : Master) (priv : Bool) (w : Word), Direct s m priv A.TIME_PTP_CFG → AsItReads s A.TIME_PTP_CFG w →
    F.TIME_PTP_CFG_PROFILE.of w.toNat ≤ 5 → F.TIME_PTP_CFG_PROFILE.of w.toNat ≠ s.fld F.TIME_PTP_CFG_PROFILE →
    Answers (.ptpCfgWrite (whole m priv w)) s fun t =>
      t.fld F.TIME_PTP_CFG_PROFILE = F.TIME_PTP_CFG_PROFILE.of w.toNat ∧
      t.fld F.TIME_PTP_CFG_DOMAIN = profileDomain (F.TIME_PTP_CFG_PROFILE.of w.toNat) ∧
      t.fld F.TIME_PTP_INTV_LOG_SYNC = unsgn 8 (profileSync (F.TIME_PTP_CFG_PROFILE.of w.toNat)).1 ∧
      t.fld F.TIME_PTP_INTV_LOG_ANNOUNCE = unsgn 8 (profileAnn (F.TIME_PTP_CFG_PROFILE.of w.toNat)).1 ∧
      t.fld F.TIME_PTP_INTV_LOG_DELAY = unsgn 8 (profileDelay (F.TIME_PTP_CFG_PROFILE.of w.toNat)).1 ∧
      t.time.profilePend = true ∧ MemKept s t)

/-- Twin-path timing (R97 to R101): a valid window stores d and an invalid one leaves it; a lost path in use changes over,
corrected by d where d is valid; and a write of PREF moves the module to that path while the ring is whole. Where the spec
leaves it open the statement follows the model's choices in notes/assumptions/35.md. -/
def Obligations.TwinPaths : Prop :=
  (∀ (s : State) (dt : Nat) (d : Int), s.time.twin.running = true → (s.advance dt).windowD = some d →
    Answers (.twinWindowEnd dt) s fun t =>
      t.rd A.TIME_TWIN_D = unsgn 32 d ∧ t.on F.TIME_TWIN_STATUS_D_VALID = true ∧ t.on F.TIME_EVT_TWIN_LEARNED = true ∧
      t.time.twin.running = true ∧ t.time.twin.samples = [] ∧ t.time.twin.startUp = t.time.up ∧ MemKept s t) ∧
  (∀ (s : State) (dt : Nat), s.time.twin.running = true → (s.advance dt).windowD = none →
    Answers (.twinWindowEnd dt) s fun t =>
      t.time.twin.running = true ∧ t.time.twin.samples = [] ∧ t.time.twin.startUp = t.time.up ∧
      Framed timeRegs [.time, .clk, .mgmt] s t) ∧
  (∀ (s : State) (b : Bool), (s.tport b.toNat).lost = false → s.on F.TIME_TWIN_CFG_EN = true →
    s.fld F.TIME_TWIN_STATUS_IN_USE = b.toNat + 1 → s.pathLive (1 - b.toNat) = true → s.on F.TIME_TWIN_STATUS_D_VALID = true →
    Answers (.twinPathLoss b) s fun t =>
      t.fld F.TIME_TWIN_STATUS_IN_USE = 2 - b.toNat ∧ t.on F.TIME_TWIN_STATUS_CORR = !s.on F.TIME_TWIN_STATUS_CORR ∧
      t.on F.TIME_EVT_TWIN_FAILOVER = true ∧ t.time.twin.running = false ∧ t.time.tb = s.time.tb ∧
      Framed [A.TIME_TWIN_STATUS, A.TIME_EVT, A.MGMT_EVT] [.time, .mgmt] s t) ∧
  (∀ (s : State) (b : Bool), (s.tport b.toNat).lost = false → s.on F.TIME_TWIN_CFG_EN = true →
    s.fld F.TIME_TWIN_STATUS_IN_USE = b.toNat + 1 → s.pathLive (1 - b.toNat) = true → s.on F.TIME_TWIN_STATUS_D_VALID = false →
    Answers (.twinPathLoss b) s fun t =>
      t.fld F.TIME_TWIN_STATUS_IN_USE = 2 - b.toNat ∧ t.on F.TIME_TWIN_STATUS_CORR = false ∧
      t.on F.TIME_EVT_TWIN_NO_D = true ∧ t.time.firstPath = true ∧ Framed [A.TIME_TWIN_STATUS, A.TIME_EVT] [.time] s t) ∧
  (∀ (s : State) (pref : Fin 4) (m : Master) (priv : Bool), Direct s m priv A.TIME_TWIN_CFG → pref = 1 ∨ pref = 2 →
    s.fld F.TIME_TWIN_CFG_PREF ≠ pref → s.on F.TIME_TWIN_STATUS_WHOLE = true → s.fld F.TIME_TWIN_STATUS_IN_USE ≠ 0 →
    s.fld F.TIME_TWIN_STATUS_IN_USE ≠ pref →
    Answers (.twinPrefWrite pref m priv) s fun t =>
      t.fld F.TIME_TWIN_CFG_PREF = pref ∧ t.fld F.TIME_TWIN_STATUS_PREF_PATH = pref ∧ t.fld F.TIME_TWIN_STATUS_IN_USE = pref ∧
      t.on F.TIME_TWIN_STATUS_CORR = false ∧ t.time.jumps.length = s.time.jumps.length + 1 ∧
      Framed [A.TIME_TWIN_CFG, A.TIME_TWIN_STATUS] [.time] s t)

/-! ### References and the media clock (spec chapter 4) -/

/-- Edges of the edge references (R129, R132): the first edge starts supervision, an edge within 5 % of its time is good, a
missing edge is one glitch period, and two in a row are LOS; and a sentence labels a PPS edge with its TAI second. Where the
spec leaves it open the statement follows the model's choices in notes/assumptions/37.md. -/
def Obligations.ReferenceEdges : Prop :=
  (∀ (s : State) (r : EdgeRef) (dt : Nat), Shaped s → s.clk.running = true → (s.ref r.code).tracking = false →
    (s.ref r.code).since = none → (s.ref r.code).lastEdge = none → s.on (F.CLK_REF_INFO_SUSPECT r.code) = false →
    s.fld (F.CLK_REF_INFO_STATE r.code) ≠ 2 → (r.code = 4 → s.on F.CLK_TOD_CFG_TOD_EN = false) →
    (r.code = 5 → s.wrongFamily = false) →
    Answers (.refEdge r dt) s fun t =>
      t.fld (F.CLK_REF_INFO_STATE r.code) = 1 ∧ (t.ref r.code).tracking = true ∧ (t.ref r.code).e0 = t.time.up ∧
      (t.ref r.code).since = some t.time.up ∧ (t.ref r.code).lastEdge = some t.time.up ∧
      Framed (timeRegs ++ [A.CLK_REF_INFO r.code]) [.time, .clk, .mgmt] s t) ∧
  (∀ (s : State) (r : EdgeRef) (dt : Nat), Shaped s → s.clk.running = true → (s.ref r.code).tracking = true →
    (s.ref r.code).lastEdge = none → (r.code = 4 → s.on F.CLK_TOD_CFG_TOD_EN = false) →
    s.edgeAt r.code ((s.ref r.code).k + 1) ≤ s.time.up + dt + s.edgePart r.code 5 →
    s.time.up + dt ≤ s.edgeAt r.code ((s.ref r.code).k + 1) + s.edgePart r.code 5 →
    Answers (.refEdge r dt) s fun t =>
      (t.ref r.code).k = (s.ref r.code).k + 1 ∧ (t.ref r.code).missing = 0 ∧ (t.ref r.code).tracking = true ∧
      Framed timeRegs [.time, .clk, .mgmt] s t) ∧
  (∀ (s : State) (r : EdgeRef) (dt : Nat), Shaped s → s.clk.running = true → (s.ref r.code).tracking = true →
    (s.ref r.code).missing = 0 → (s.ref r.code).glitchAt = none →
    Answers (.refMissingEdge r dt) s fun t =>
      (t.ref r.code).k = (s.ref r.code).k + 1 ∧ (t.ref r.code).missing = 1 ∧
      (t.ref r.code).glitchAt = some ((s.ref r.code).k + 1) ∧ Framed timeRegs [.time, .clk, .mgmt] s t) ∧
  (∀ (s : State) (r : EdgeRef) (dt : Nat), s.clk.running = true → (s.ref r.code).tracking = true →
    1 ≤ (s.ref r.code).missing → (s.ref r.code).glitchAt ≠ some ((s.ref r.code).k + 1) →
    Answers (.refMissingEdge r dt) s fun t =>
      t.fld (F.CLK_REF_INFO_STATE r.code) = 3 ∧ t.fld (F.CLK_REF_INFO_WHY r.code) = 1 ∧ MemKept s t) ∧
  (∀ (s : State) (utc : Nat), Shaped s → s.clk.running = true → s.on F.CLK_TOD_CFG_TOD_EN = true →
    Answers (.todSentenceRx utc true) s fun t =>
      (t.ref 4).label = some (utc + s.fld F.CLK_TOD_CFG_UTC_OFFSET) ∧ Framed [] [.clk] s t)

/-- Choosing a reference (R128, R133 to R135, R138, R139, R144): a reference qualifies; a revertive wait ends; a written SEL
stands in MANUAL; the DPLL takes SEL's reference at an EF boundary; a pair of equal rank that differs is voted on; and a
second's FREQ is judged against the hard limit. Where the spec leaves it open the statement follows the model's choices in
notes/assumptions/37.md. -/
def Obligations.ReferenceChoice : Prop :=
  (∀ (s : State) (r : Reference), s.fld (F.CLK_REF_INFO_STATE r.code) ≠ 2 → (s.ref r.code).since.isSome = true →
    s.on (F.CLK_REF_INFO_SUSPECT r.code) = false →
    Answers (.refQualify r) s fun t =>
      t.fld (F.CLK_REF_INFO_STATE r.code) = 2 ∧ t.on F.CLK_EVT_REF_QUAL = true ∧ MemKept s t) ∧
  (∀ s : State, s.on F.CLK_REF_CTL_MODE = false → s.spliceMember = false → s.bestRank ≠ 0 → s.on F.CLK_REF_CTL_REVERT = true →
    s.rank s.refInUse ≠ s.bestRank →
    Answers .revertWaitExpiry s fun t =>
      t.fld F.CLK_REF_CTL_SEL = s.lowestOf s.bestRank ∧ Framed [A.CLK_REF_CTL] [] s t) ∧
  (∀ (s : State) (m : Master) (priv : Bool) (w : Word), Direct s m priv A.CLK_REF_CTL → AsItReads s A.CLK_REF_CTL w →
    (F.CLK_REF_CTL_MODE).of w.toNat = 1 →
    Answers (.refCtlWrite (whole m priv w)) s fun t => t.reg A.CLK_REF_CTL = w ∧ Framed [A.CLK_REF_CTL] [] s t) ∧
  (∀ s : State, s.clk.running = true → s.spliceMember = false → s.blockOk 4 = true → s.on F.CLK_REF_CTL_MODE = true →
    s.qualified (s.fld F.CLK_REF_CTL_SEL) = true → s.rank (s.fld F.CLK_REF_CTL_SEL) ≠ 0 →
    s.refInUse ≠ s.fld F.CLK_REF_CTL_SEL →
    Answers .refSwitch s fun t =>
      t.refInUse = s.fld F.CLK_REF_CTL_SEL ∧ t.fld F.CLK_REF_STATUS_STATE = 1 ∧ t.on F.CLK_EVT_SWITCH = true ∧
      t.rd A.CLK_HO_STATUS = 0 ∧
      Framed (timeRegs ++ [A.CLK_REF_STATUS, A.CLK_HO_STATUS]) [.time, .clk, .mgmt] s t) ∧
  (∀ (s : State) (n : Nat), s.clk.running = true → s.spliceMember = false → (∀ r < 7, r ≠ 4 → r ≠ 5 → s.qualified r = false) →
    (∀ r < 7, s.on (F.CLK_REF_INFO_SUSPECT r) = false) → s.qualified 4 = true → s.qualified 5 = true → s.voteRank 4 ≠ 0 →
    s.voteRank 4 = s.voteRank 5 → s.voteThr 4 5 < (s.refFreq 4 - s.refFreq 5).natAbs → s.clk.disagree = [(4, 5, n)] → n < 9 →
    Answers .refVote s fun t =>
      t.clk.disagree = [(4, 5, n + 1)] ∧ t.on F.CLK_REF_STATUS_DISAGREE = false ∧ Framed [A.CLK_REF_STATUS] [.clk] s t) ∧
  (∀ s : State, s.clk.running = true → s.spliceMember = false → (∀ r < 7, r ≠ 4 → r ≠ 5 → s.qualified r = false) →
    (∀ r < 7, s.on (F.CLK_REF_INFO_SUSPECT r) = false) → s.qualified 4 = true → s.qualified 5 = true → s.voteRank 4 ≠ 0 →
    s.voteRank 4 = s.voteRank 5 → s.voteThr 4 5 < (s.refFreq 4 - s.refFreq 5).natAbs → s.clk.disagree = [(4, 5, 9)] →
    s.hoFreq = none →
    Answers .refVote s fun t =>
      t.on F.CLK_REF_STATUS_DISAGREE = true ∧ t.on F.CLK_EVT_DISAGREE = true ∧ t.refInUse = s.refInUse ∧
      Framed [A.CLK_REF_STATUS, A.CLK_EVT] [.clk] s t) ∧
  (∀ (s : State) (r : Reference) (f : Int), s.clk.running = true →
    s.fld (F.CLK_REF_INFO_STATE r.code) = 1 ∨ s.fld (F.CLK_REF_INFO_STATE r.code) = 2 →
    s.fld F.CLK_LIMITS_HARD_FREQ * 100 < (satS 20 f).natAbs →
    Answers (.driftLimitCheck [(r, f)]) s fun t =>
      t.fld (F.CLK_REF_INFO_FREQ r.code) = unsgn 20 (satS 20 f) ∧ t.fld (F.CLK_REF_INFO_STATE r.code) = 3 ∧
      t.fld (F.CLK_REF_INFO_WHY r.code) = 5 ∧ MemKept s t) ∧
  (∀ (s : State) (r : Reference) (f : Int), s.clk.running = true → Shaped s → (s.ref r.code).freqs.length < 59 →
    (satS 20 f).natAbs ≤ min (s.fld F.CLK_LIMITS_SOFT_FREQ) (s.fld F.CLK_LIMITS_HARD_FREQ) * 100 →
    Answers (.driftLimitCheck [(r, f)]) s fun t =>
      t.fld (F.CLK_REF_INFO_FREQ r.code) = unsgn 20 (satS 20 f) ∧ t.on (F.CLK_REF_INFO_SOFT r.code) = false ∧
      t.fld (F.CLK_REF_INFO_STATE r.code) = s.fld (F.CLK_REF_INFO_STATE r.code) ∧
      Framed [A.CLK_REF_INFO r.code] [.clk] s t)

/-- The DPLL (R136, R140, R142, R151): the bandwidth steps down, CLK locks and loses lock; each second shifts the history by one
entry and writes the mean FCW while LOCKED or the invalid marker; and REF_ALM_N is released when no alarm condition holds. Where
the spec leaves it open the statement follows the model's choices in notes/assumptions/38.md. -/
def Obligations.Dpll : Prop :=
  (∀ s : State, s.fld F.CLK_REF_STATUS_STATE = 1 → s.fld F.CLK_REF_STATUS_BW = 1 →
    Answers .dpllBandwidthStep s fun t =>
      t.fld F.CLK_REF_STATUS_BW = 2 ∧ t.fld F.CLK_REF_STATUS_STATE = 1 ∧ Framed [A.CLK_REF_STATUS] [] s t) ∧
  (∀ s : State, s.fld F.CLK_REF_STATUS_STATE = 1 → s.fld F.CLK_REF_STATUS_BW = 2 →
    Answers .dpllLock s fun t =>
      t.fld F.CLK_REF_STATUS_STATE = 2 ∧ t.fld F.CLK_REF_STATUS_BW = 3 ∧ t.on F.CLK_EVT_STATE_CHG = true ∧
      t.clk.lockedRef = s.refInUse ∧ Framed [A.CLK_REF_STATUS, A.CLK_EVT] [.clk] s t) ∧
  (∀ (s : State) (e : Nat), s.fld F.CLK_REF_STATUS_STATE = 2 → 2000 < e →
    Answers (.dpllLockLoss e) s fun t =>
      t.fld F.CLK_REF_STATUS_STATE = 1 ∧ t.fld F.CLK_REF_STATUS_BW = (if 10000 < e then 1 else 2) ∧
      t.on F.CLK_EVT_STATE_CHG = true ∧ Framed [A.CLK_REF_STATUS, A.CLK_EVT] [] s t) ∧
  (∀ (s : State) (mean phase : Int) (dt : Nat), s.clk.running = true →
    Answers (.historyWrite mean phase dt) s fun t =>
      t.rd (A.CLK_HIST 0) = (if s.fld F.CLK_REF_STATUS_STATE = 2 then unsgn 32 (satS 32 mean) else 0x80000000) ∧
      (∀ k < 1023, t.reg (A.CLK_HIST (k + 1)) = s.reg (A.CLK_HIST k)) ∧
      t.rd A.CLK_HIST_SEQ = (s.rd A.CLK_HIST_SEQ + 1) % 2 ^ 32 ∧
      (s.fld F.CLK_REF_STATUS_STATE = 3 →
        t.fld F.CLK_HO_STATUS_HO_S = min (s.fld F.CLK_HO_STATUS_HO_S + 1) 0xFFFFF ∧ t.reg A.CLK_FCW = s.reg A.CLK_FCW) ∧
      (s.fld F.CLK_REF_STATUS_STATE = 2 → t.rd A.CLK_FCW = unsgn 32 (satS 32 mean)) ∧ MemKept s t) ∧
  (∀ s : State, s.almCond = false → Answers .refAlmRelease s fun t => t.clk.almLow = false ∧ Framed [] [] s t)

/-- The media chain (R147 to R150): a realign is taken, or refused on a splice member; its move ends it; a new RATE is taken in
STAGING and refused elsewhere; and MCLK outputs follow their register. Where the spec leaves it open the statement follows the
model's choices in notes/assumptions/38.md. -/
def Obligations.MediaChain : Prop :=
  (∀ (s : State) (m : Master) (priv : Bool), Direct s m priv A.CLK_REALIGN → s.on F.CLK_REALIGN_BUSY = false →
    s.spliceMember = false → s.misalign.natAbs < 2 * nsU →
    Answers (.realignMedia m priv) s fun t =>
      t.on F.CLK_REALIGN_BUSY = true ∧ t.clk.realign = .ready ∧ Framed [A.CLK_REALIGN] [.clk] s t) ∧
  (∀ (s : State) (m : Master) (priv : Bool), Direct s m priv A.CLK_REALIGN → s.on F.CLK_REALIGN_BUSY = false →
    s.spliceMember = false → 2 * nsU ≤ s.misalign.natAbs →
    Answers (.realignMedia m priv) s fun t =>
      t.on F.CLK_REALIGN_BUSY = true ∧ t.clk.realign = .fading ∧
      (∀ n < s.tdmPorts, s.tdmRunning n = true → s.fld (F.TDM_STATUS_GAIN_STATE n) = 0 → t.fld (F.TDM_STATUS_GAIN_STATE n) = 1) ∧
      MemKept s t) ∧
  (∀ (s : State) (m : Master) (priv : Bool), Direct s m priv A.CLK_REALIGN → s.on F.CLK_REALIGN_BUSY = false →
    s.spliceMember = true →
    Answers (.realignMedia m priv) s fun t =>
      t.on F.CLK_REALIGN_BUSY = false ∧ t.on F.CLK_EVT_REALIGN_REFUSED = true ∧ Framed [A.CLK_EVT] [] s t) ∧
  (∀ (s : State) (mis : Int), s.clk.realign = .moving mis → s.splice.align = false →
    Answers .realignMove s fun t =>
      t.on F.CLK_REALIGN_BUSY = false ∧ t.on F.CLK_EVT_REALIGNED = true ∧ t.clk.realign = .idle ∧
      t.time.disp0 = s.time.disp0 + mis ∧ MemKept s t) ∧
  (∀ (s : State) (m : Master) (priv : Bool) (w : Word), Direct s m priv A.CLK_MEDIA_CFG → AsItReads s A.CLK_MEDIA_CFG w →
    F.CLK_MEDIA_CFG_RATE.of w.toNat ≤ 5 → s.modState = 2 →
    Answers (.mediaCfgWrite (whole m priv w)) s fun t => t.reg A.CLK_MEDIA_CFG = w ∧ MemKept s t) ∧
  (∀ (s : State) (m : Master) (priv : Bool) (w : Word), Direct s m priv A.CLK_MEDIA_CFG → AsItReads s A.CLK_MEDIA_CFG w →
    F.CLK_MEDIA_CFG_RATE.of w.toNat ≤ 5 → F.CLK_MEDIA_CFG_RATE.of w.toNat ≠ s.fld F.CLK_MEDIA_CFG_RATE → s.modState ≠ 2 →
    Answers (.mediaCfgWrite (whole m priv w)) s fun t =>
      t.fld F.CLK_MEDIA_CFG_RATE = s.fld F.CLK_MEDIA_CFG_RATE ∧ t.on F.CLK_EVT_RATE_REFUSED = true ∧
      Framed [A.CLK_MEDIA_CFG, A.CLK_EVT] [] s t) ∧
  (∀ (s : State) (m : Master) (priv : Bool) (w : Word), Direct s m priv A.CLK_MCLK_CFG → AsItReads s A.CLK_MCLK_CFG w →
    s.reg A.CLK_MCLK_CFG ≠ w →
    Answers (.mclkCfgWrite (whole m priv w)) s fun t =>
      t.reg A.CLK_MCLK_CFG = w ∧ (∀ n < 4, t.clk.mclkOn.testBit n = w.toNat.testBit (2 * n)) ∧
      Framed [A.CLK_MCLK_CFG] [.clk] s t)

/-! ### Streams and playout (spec chapters 5 and 6) -/

/-- The words in which the lays show MEMBERS, MUTED, ACTIVE and CONCEALING. -/
def layWords (s : State) : List Nat := (List.range s.lays).map fun k => A.TBL_LAY_W2 k

/-- Stream entries (R161, R164, R173 to R175, R186): a written word of an enabled entry is judged, and REFUSED and WHY show the
verdict; an entry enabled by the write starts a new sequence; a disabled one keeps its word only; a lay's offset is clamped and
acts at once on a disabled lay; and the arrival hold's size is taken in STAGING alone. Where the spec leaves it open the
statement follows the model's choices in notes/assumptions/40.md. -/
def Obligations.StreamEntries : Prop :=
  (∀ (s : State) (n : Nat) (w : Fin 16) (m : Master) (priv : Bool) (x : Word), n < s.streams → w.val < 14 →
    Direct s m priv (A.TBL_LISTENER_W0 n + 4 * w.val) → AsItReads s (A.TBL_LISTENER_W0 n + 4 * w.val) x → s.scp.holds = [] →
    (s.putReg (A.TBL_LISTENER_W0 n + 4 * w.val) x).on (F.TBL_LISTENER_W0_EN n) = true →
    Answers (.listenerEntryWrite n w (whole m priv x)) s fun t =>
      t.reg (A.TBL_LISTENER_W0 n + 4 * w.val) = x ∧
      t.fld (F.TBL_LISTENER_W14_WHY n) = (s.putReg (A.TBL_LISTENER_W0 n + 4 * w.val) x).lisWhy n ∧
      t.on (F.TBL_LISTENER_W14_REFUSED n) = (t.fld (F.TBL_LISTENER_W14_WHY n) != 0) ∧
      (t.fld (F.TBL_LISTENER_W14_WHY n) ≠ 0 → t.on F.STRM_EVT_REFUSED = true) ∧
      RegsKept ([A.TBL_LISTENER_W0 n + 4 * w.val, A.TBL_LISTENER_W14 n, A.STRM_EVT] ++ layWords s) s t ∧ MemKept s t) ∧
  (∀ (s : State) (n : Nat) (w : Fin 16) (m : Master) (priv : Bool) (x : Word), n < s.streams → w.val < 14 →
    Direct s m priv (A.TBL_LISTENER_W0 n + 4 * w.val) → AsItReads s (A.TBL_LISTENER_W0 n + 4 * w.val) x → s.scp.holds = [] →
    (s.putReg (A.TBL_LISTENER_W0 n + 4 * w.val) x).on (F.TBL_LISTENER_W0_EN n) = false →
    Answers (.listenerEntryWrite n w (whole m priv x)) s fun t =>
      t.reg (A.TBL_LISTENER_W0 n + 4 * w.val) = x ∧ (t.lis n).joined = none ∧
      RegsKept ((A.TBL_LISTENER_W0 n + 4 * w.val) :: layWords s) s t ∧ MemKept s t) ∧
  (∀ (s : State) (n : Nat) (w : Fin 16) (m : Master) (priv : Bool) (x : Word), n < s.streams → w.val < 10 ∨ w.val = 13 →
    Direct s m priv (A.TBL_TALKER_W0 n + 4 * w.val) → AsItReads s (A.TBL_TALKER_W0 n + 4 * w.val) x → s.scp.holds = [] →
    (s.putReg (A.TBL_TALKER_W0 n + 4 * w.val) x).on (F.TBL_TALKER_W0_EN n) = true →
    Answers (.talkerEntryWrite n w (whole m priv x)) s fun t =>
      t.reg (A.TBL_TALKER_W0 n + 4 * w.val) = x ∧
      t.fld (F.TBL_TALKER_W14_WHY n) = (s.putReg (A.TBL_TALKER_W0 n + 4 * w.val) x).talkWhy n ∧
      t.on (F.TBL_TALKER_W14_REFUSED n) = (t.fld (F.TBL_TALKER_W14_WHY n) != 0) ∧
      (t.fld (F.TBL_TALKER_W14_WHY n) ≠ 0 → t.on F.STRM_EVT_REFUSED = true) ∧
      (s.on (F.TBL_TALKER_W0_EN n) = false → t.fld (F.TBL_TALKER_W14_NEXT_SEQ n) = 0 ∧ (t.talker n).buf = [] ∧
        (t.talker n).fromEf = s.play.cleat) ∧
      Framed [A.TBL_TALKER_W0 n + 4 * w.val, A.TBL_TALKER_W14 n, A.STRM_EVT] [.strm] s t) ∧
  (∀ (s : State) (n : Nat) (w : Fin 16) (m : Master) (priv : Bool) (x : Word), n < s.streams → w.val < 10 ∨ w.val = 13 →
    Direct s m priv (A.TBL_TALKER_W0 n + 4 * w.val) → AsItReads s (A.TBL_TALKER_W0 n + 4 * w.val) x → s.scp.holds = [] →
    (s.putReg (A.TBL_TALKER_W0 n + 4 * w.val) x).on (F.TBL_TALKER_W0_EN n) = false → (s.talker n).sap = false →
    Answers (.talkerEntryWrite n w (whole m priv x)) s fun t =>
      t.reg (A.TBL_TALKER_W0 n + 4 * w.val) = x ∧ Framed [A.TBL_TALKER_W0 n + 4 * w.val] [] s t) ∧
  (∀ (s : State) (n : Nat) (m : Master) (priv : Bool) (x : Word), n < s.lays → Direct s m priv (A.TBL_LAY_W0 n) →
    AsItReads s (A.TBL_LAY_W0 n) x → s.on (F.TBL_LAY_W2_ACTIVE n) = false → s.on (F.TBL_LAY_W0_EN n) = false →
    (F.TBL_LAY_W0_EN n).of x.toNat = 1 →
    Answers (.layEntryWrite n 0 (whole m priv x)) s fun t =>
      t.reg (A.TBL_LAY_W0 n) = x ∧ (t.lay n).offset = s.fld (F.TBL_LAY_W1_PRES_OFFSET n) ∧
      t.fld (F.TBL_LAY_W2_MEMBERS n) = min 255 (t.members n) ∧
      Framed (A.TBL_LAY_W0 n :: layWords s) [.strm, .play] s t) ∧
  (∀ (s : State) (n : Nat) (m : Master) (priv : Bool) (x : Word), n < s.lays → Direct s m priv (A.TBL_LAY_W1 n) →
    s.scp.holds = [] → s.reg (A.TBL_LAY_W1 n) ≠ x → s.on (F.TBL_LAY_W0_EN n) = false →
    Answers (.layEntryWrite n 1 (whole m priv x)) s fun t =>
      t.fld (F.TBL_LAY_W1_PRES_OFFSET n) =
        (if (F.TBL_LAY_W1_PRES_OFFSET n).of x.toNat = 0 then 0 else s.presActs ((F.TBL_LAY_W1_PRES_OFFSET n).of x.toNat)) ∧
      t.fld (F.TBL_LAY_W1_OWNER n) = (F.TBL_LAY_W1_OWNER n).of x.toNat ∧
      (t.lay n).offset = t.fld (F.TBL_LAY_W1_PRES_OFFSET n) ∧ Framed (A.TBL_LAY_W1 n :: layWords s) [.strm] s t) ∧
  (∀ (s : State) (n : Nat) (w : Fin 8) (m : Master) (priv : Bool) (x : Word), n < s.lays → 2 ≤ w.val →
    Direct s m priv (A.TBL_LAY_W0 n + 4 * w.val) →
    Answers (.layEntryWrite n w (whole m priv x)) s (Framed [] [] s)) ∧
  (∀ (s : State) (m : Master) (priv : Bool) (x : Word), Direct s m priv A.STRM_HOLD_CFG → AsItReads s A.STRM_HOLD_CFG x →
    s.modState = 2 → F.STRM_HOLD_CFG_HOLD_MIB.of x.toNat ≠ s.fld F.STRM_HOLD_CFG_HOLD_MIB →
    Answers (.holdCfgWrite (whole m priv x)) s fun t =>
      t.reg A.STRM_HOLD_CFG = x ∧ t.fld F.STRM_HOLD_STATUS_FREE = t.holdFree ∧
      Framed [A.STRM_HOLD_CFG, A.STRM_HOLD_STATUS] [] s t) ∧
  (∀ (s : State) (m : Master) (priv : Bool) (x : Word), Direct s m priv A.STRM_HOLD_CFG → AsItReads s A.STRM_HOLD_CFG x →
    s.modState ≠ 2 → F.STRM_HOLD_CFG_HOLD_MIB.of x.toNat ≠ s.fld F.STRM_HOLD_CFG_HOLD_MIB →
    Answers (.holdCfgWrite (whole m priv x)) s fun t =>
      t.fld F.STRM_HOLD_CFG_HOLD_MIB = s.fld F.STRM_HOLD_CFG_HOLD_MIB ∧ t.on F.STRM_EVT_CFG_REFUSED = true ∧
      Framed [A.STRM_HOLD_CFG, A.STRM_EVT] [] s t)

/-- What time and the EF boundary do to streams (R160, R164, R168, R175, R176, R179, R182 to R184): a held packet is written
when its last sample enters the window; a lay, a listener and a talker go quiet; a new offset mutes an active lay and a cleared
SLIP_ALL ends its mute; a report goes out the second time; a query is answered; a snooped join lapses; and a talker is
announced. Where the spec leaves it open the statement follows the model's choices in notes/assumptions/7.md, 41.md, 42.md. -/
def Obligations.StreamTimers : Prop :=
  (∀ (s : State) (p : Pkt) (dt : Nat), s.play.running = true → s.strm.held = [p] → p.listener < s.streams →
    p.np - s.adj + p.size - 1 < s.directEnd → s.on (F.TBL_LAY_W0_EN (s.lisLay (s.lowerOf p.listener))) = true →
    (s.headPos : Int) ≤ p.np - s.adj →
    Answers (.arrivalHoldRelease dt) s fun t =>
      t.strm.held = [] ∧ Counts s t (A.STRM_L_RX_PKTS p.listener) 1 ∧
      RegsKept (timeRegs ++ [A.STRM_L_RX_PKTS p.listener, A.STRM_L_SAT p.listener, A.STRM_EVT, A.STRM_HOLD_STATUS]) s t) ∧
  (∀ (s : State) (dt : Nat), s.play.running = true → (∀ p ∈ s.strm.held, s.directEnd ≤ p.np - s.adj + p.size - 1) →
    Answers (.arrivalHoldRelease dt) s fun t =>
      t.strm.held = s.strm.held ∧ Framed (timeRegs ++ [A.STRM_HOLD_STATUS]) [.time, .clk, .mgmt] s t) ∧
  (∀ (s : State) (n dt : Nat), n < s.lays → s.on (F.TBL_LAY_W2_ACTIVE n) = true → s.fld (F.TBL_LAY_W0_CLASS n) ≠ 7 →
    (s.lay n).lastUp + s.actHold n ≤ s.time.up + dt →
    Answers (.layIdle n dt) s fun t =>
      t.on (F.TBL_LAY_W2_ACTIVE n) = false ∧ t.on F.STRM_EVT_LAY_IDLE = true ∧
      (if n < 32 then t.bitOf F.STRM_LAY_ACT_LO_BITS n else t.bitOf F.STRM_LAY_ACT_HI_BITS (n - 32)) = false ∧
      Framed (timeRegs ++ [A.TBL_LAY_W2 n, A.STRM_EVT, A.STRM_LAY_ACT_LO, A.STRM_LAY_ACT_HI]) [.time, .clk, .mgmt] s t) ∧
  (∀ (s : State) (n dt : Nat), n < s.streams → (s.lis n).lastUp + 100 * msU ≤ s.time.up + dt →
    Answers (.listenerActiveTimeout n dt) s fun t =>
      t.on (F.TBL_LISTENER_W14_ACTIVE n) = false ∧ Framed (timeRegs ++ [A.TBL_LISTENER_W14 n]) [.time, .clk, .mgmt] s t) ∧
  (∀ (s : State) (n dt : Nat), n < s.streams → (s.talker n).lastUp + 100 * msU ≤ s.time.up + dt →
    Answers (.talkerSendingTimeout n dt) s fun t =>
      t.on (F.TBL_TALKER_W14_SENDING n) = false ∧ Framed (timeRegs ++ [A.TBL_TALKER_W14 n]) [.time, .clk, .mgmt] s t) ∧
  (∀ (s : State) (n : Nat), n < s.lays → s.on (F.TBL_LAY_W0_EN n) = true → s.on (F.TBL_LAY_W2_ACTIVE n) = true →
    (s.lay n).offset ≠ s.fld (F.TBL_LAY_W1_PRES_OFFSET n) → s.play.running = true →
    Answers (.presOffsetChange n) s fun t =>
      (t.lay n).offset = s.fld (F.TBL_LAY_W1_PRES_OFFSET n) ∧ t.on (F.TBL_LAY_W2_MUTED n) = true ∧
      (s.play.head, some n) ∈ t.strm.fades ∧ Framed (timeRegs ++ layWords s) [.time, .clk, .mgmt, .strm] s t) ∧
  (∀ (s : State) (n : Nat), n < s.lays → s.on (F.TBL_LAY_W0_EN n) = false →
    Answers (.presOffsetChange n) s fun t =>
      (t.lay n).offset = s.fld (F.TBL_LAY_W1_PRES_OFFSET n) ∧ Framed timeRegs [.time, .clk, .mgmt, .strm] s t) ∧
  (∀ (s : State) (n : Nat), n < s.lays →
    Answers (.slipAllChange n) s fun t =>
      (t.lay n).slipAll = s.on (F.TBL_LAY_W0_SLIP_ALL n) ∧
      (t.lay n).muteSlip = ((s.lay n).muteSlip && s.on (F.TBL_LAY_W0_SLIP_ALL n)) ∧
      (t.lay n).offset = (s.lay n).offset ∧ Framed (timeRegs ++ layWords s) [.time, .clk, .mgmt, .strm] s t) ∧
  (∀ (s : State) (n g dt : Nat), n < s.streams → (s.lis n).joined = some g → (s.lis n).again = true → s.linkUp 2 = true →
    2 < s.ring.ports.length →
    Answers (.membershipRepeat n dt) s fun t =>
      (t.lis n).again = false ∧ (t.lis n).joined = some g ∧
      (∃ e src, (t.rp 2).queue = (s.rp 2).queue ++ [e] ∧ e.frame.body = .join g src) ∧
      Framed timeRegs [.time, .clk, .mgmt, .strm, .ring] s t) ∧
  (∀ (s : State) (g : Nat) (b : Bool) (q : List (Nat × Bool)), s.strm.queries = (g, b) :: q →
    (∀ n < s.streams, (s.lis n).joined = none) →
    Answers .queryResponse s fun t => t.strm = { s.strm with queries := q } ∧ Framed [] [.strm] s t) ∧
  (∀ (s : State) (g n : Nat), s.strm.queries = [(g, false)] → n < s.streams → (s.lis n).joined = some g →
    (∀ k < s.streams, k ≠ n → (s.lis k).joined = none) → s.linkUp 2 = true → 2 < s.ring.ports.length →
    Answers .queryResponse s fun t =>
      t.strm.queries = [] ∧ (∃ e src, (t.rp 2).queue = (s.rp 2).queue ++ [e] ∧ e.frame.body = .join g src) ∧
      Framed [] [.strm, .ring] s t) ∧
  (∀ (s : State) (g dt : Nat),
    Answers (.snoopJoinExpiry g dt) s fun t =>
      t.ring.joins = s.ring.joins.filter (fun j => j.1 != g || Nat.blt (s.time.up + dt) (j.2 + 260 * secU)) ∧
      Framed timeRegs [.time, .clk, .mgmt, .ring] s t) ∧
  (∀ (s : State) (n : Nat), n < s.streams → s.talkOn n = true → s.linkUp 2 = true → 2 < s.ring.ports.length →
    Answers (.sapAnnounce n) s fun t =>
      (t.talker n).sap = true ∧ (∃ e, (t.rp 2).queue = (s.rp 2).queue ++ [e] ∧ e.frame.body = .sdp (s.talkSdp n)) ∧
      Framed [] [.strm, .ring, .free] s t)

/-- Engine frames (R189 to R195, R199): a tick commits the EF at the cleat, moves the cleat on by one and begins presentation of
the next; an EF whose computation has not ended stalls; playout starts two EFs ahead of the tick with the cleat as its head; and
the trigger's stop discards what has not committed. Where the spec leaves it open the statement follows the model's choices in
notes/assumptions/6.md, 43.md. -/
def Obligations.EngineFrames : Prop :=
  (∀ (s : State) (hv : List (List Int)), s.clk.running = true → s.play.running = true → s.clk.realign = .idle →
    Answers (.efTick hv) s fun t =>
      t.play.cleat = s.play.cleat + 1 ∧ t.clk.lastEf = s.clk.lastEf + 1 ∧ t.play.p = s.clk.lastEf + 1 ∧
      t.rd A.PLAY_NOW_EF = (s.clk.lastEf + 1) % 2 ^ 32 ∧ t.play.running = true ∧
      (∀ i ∈ t.play.staging, i.ef ≠ s.play.cleat) ∧ (∀ e v, some (e, v) ∈ t.play.hitches → s.play.cleat < e)) ∧
  (∀ (s : State) (hv : List (List Int)), s.clk.running = true → s.play.running = true → s.clk.realign = .idle →
    s.resultOf s.play.cleat = none →
    Answers (.efTick hv) s fun t =>
      Counts s t A.PLAY_CNT_COMMIT_STALL 1 ∧ t.on F.PLAY_EVT_COMMIT_STALL = true ∧ s.play.cleat ∈ t.play.stalled) ∧
  (∀ (s : State) (hv : List (List Int)), s.clk.running = true → s.play.running = false → s.clk.realign = .idle →
    Answers (.efTick hv) s fun t =>
      t.clk.lastEf = s.clk.lastEf + 1 ∧ t.play.cleat = s.play.cleat ∧ t.play.running = false ∧
      t.reg A.PLAY_NOW_EF = s.reg A.PLAY_NOW_EF) ∧
  (∀ s : State, s.pwr.trig = true → s.play.running = false → s.modState = 4 → s.clk.running = true → s.unaligned = false →
    s.clk.realign = .idle →
    Answers .runPlayStart s fun t =>
      t.play.running = true ∧ t.play.p = s.clk.lastEf + 1 ∧ t.play.cleat = s.clk.lastEf + 3 ∧ t.play.head = s.clk.lastEf + 3 ∧
      t.play.slack = clampN 1 6 (s.fld F.PLAY_CFG_SLACK) ∧ t.play.results = [] ∧ t.play.staging = [] ∧ t.strm.held = [] ∧
      t.on F.PLAY_STATUS_RUNNING = true ∧ t.fld F.PLAY_STATUS_DEPTH = 0 ∧
      t.rd A.PLAY_NOW_EF = (s.clk.lastEf + 1) % 2 ^ 32) ∧
  (∀ s : State, s.pwr.trig = true → s.pwr.readyFade = true ∨ s.pwr.quietEntry = true →
    (∀ n < s.tdmPorts, s.fld (F.TDM_STATUS_GAIN_STATE n) ≠ 1) → s.eng.comp = none →
    Answers .efTriggerStop s fun t =>
      t.pwr.trig = false ∧ t.pwr.readyFade = false ∧ t.play.running = false ∧ t.play.results = [] ∧ t.play.staging = [] ∧
      t.play.cleat = s.play.cleat ∧ t.play.head = s.play.cleat ∧ t.strm.held = [] ∧ t.eng.waiting = none ∧
      t.on F.PLAY_STATUS_RUNNING = false ∧ (∀ c < s.cores, t.coreState c ≠ 4) ∧ MemKept s t)

/-- The computation of an EF (R190, R211, R218, R219): the head moves on as a computation begins, and not past the cleat's
slack; the next segment starts once the one under way is done; the last one's end completes the EF, or the rewind's next step;
and SLACK is taken in STAGING and READY alone. Where the spec leaves it open the statement follows the model's choices in
notes/assumptions/43.md. -/
def Obligations.Computations : Prop :=
  (∀ (s : State) (dt : Nat), s.play.running = true → s.eng.comp = none → s.play.rewinding = false →
    s.play.head < s.play.cleat + s.play.slack → s.eng.waiting = none → s.eng.applyAt = none → s.scp.queue = [] →
    Answers (.computationStart dt) s fun t =>
      t.play.head = s.play.head + 1 ∧ t.play.cleat = s.play.cleat ∧
      (∃ k, t.eng.comp = some k ∧ k.ef = s.play.head ∧ k.again = false) ∧
      (∃ r ∈ t.play.results, r.ef = s.play.head ∧ r.done = false)) ∧
  (∀ (s : State) (dt : Nat), s.play.running = true → s.eng.comp = none → s.play.rewinding = true → s.eng.waiting = none →
    s.eng.applyAt = none → s.scp.queue = [] →
    Answers (.computationStart dt) s fun t =>
      t.play.head = s.play.head ∧ (∃ k, t.eng.comp = some k ∧ k.ef = s.play.r ∧ k.again = true)) ∧
  (∀ (s : State) (dt : Nat), s.play.rewinding = false → s.play.cleat + s.play.slack ≤ s.play.head →
    Answers (.computationStart dt) s (Framed timeRegs [.time, .clk, .mgmt] s)) ∧
  (∀ (s : State) (dt n : Nat) (k : Comp), s.eng.comp = some k → s.segDone = true → s.nextSeg (k.seg + 1) = some n →
    Answers (.segmentBarrier dt) s fun t =>
      (∃ k', t.eng.comp = some k' ∧ k'.ef = k.ef ∧ k'.seg = n) ∧ t.play.head = s.play.head ∧ t.play.cleat = s.play.cleat) ∧
  (∀ (s : State) (dt : Nat) (k : Comp), s.eng.comp = some k → s.segDone = false →
    Answers (.segmentBarrier dt) s (Framed timeRegs [.time, .clk, .mgmt] s)) ∧
  (∀ (s : State) (dt ns : Nat) (cycles : List Nat) (k : Comp), s.eng.comp = some k → s.segDone = true →
    s.nextSeg (k.seg + 1) = none → k.again = false → s.play.cleat ≤ k.ef →
    Answers (.computationComplete dt ns cycles) s fun t =>
      t.eng.comp = none ∧ (∀ r ∈ t.play.results, r.ef = k.ef → r.done = true) ∧ t.play.head = s.play.head ∧
      t.play.cleat = s.play.cleat ∧ t.fld F.ENG_SPAN_PEAK_NS = max (s.fld F.ENG_SPAN_PEAK_NS) (min ns (2 ^ 24 - 1)) ∧
      MemKept s t) ∧
  (∀ (s : State) (dt ns : Nat) (cycles : List Nat) (k : Comp), s.eng.comp = some k → s.segDone = true →
    s.nextSeg (k.seg + 1) = none → k.again = true → s.play.cleat ≤ k.ef →
    Answers (.computationComplete dt ns cycles) s fun t =>
      t.eng.comp = none ∧ Counts s t A.PLAY_RW_EF 1 ∧ t.play.r = s.play.r + 1 ∧
      t.play.rewinding = (s.play.r + 1 != s.play.head) ∧ t.play.head = s.play.head ∧ MemKept s t) ∧
  (∀ (s : State) (m : Master) (priv : Bool) (x : Word), Direct s m priv A.PLAY_CFG → AsItReads s A.PLAY_CFG x →
    s.modState = 2 ∨ s.modState = 3 →
    Answers (.playCfgWrite (whole m priv x)) s fun t => t.reg A.PLAY_CFG = x ∧ Framed [A.PLAY_CFG] [] s t) ∧
  (∀ (s : State) (m : Master) (priv : Bool) (x : Word), Direct s m priv A.PLAY_CFG → AsItReads s A.PLAY_CFG x →
    s.modState ≠ 2 → s.modState ≠ 3 → F.PLAY_CFG_SLACK.of x.toNat ≠ s.fld F.PLAY_CFG_SLACK →
    Answers (.playCfgWrite (whole m priv x)) s fun t =>
      t.fld F.PLAY_CFG_SLACK = s.fld F.PLAY_CFG_SLACK ∧ t.fld F.PLAY_CFG_CONCEAL_EF = F.PLAY_CFG_CONCEAL_EF.of x.toNat ∧
      t.on F.PLAY_EVT_CFG_REFUSED = true ∧ Framed [A.PLAY_CFG, A.PLAY_EVT] [] s t)

/-! ### Acson instructions (spec chapter 8) -/

/-- A core may run an instruction in slot S: no bundle is open. -/
abbrev AtSlotS (s : State) (c : Nat) : Prop := (s.core c).half = none

/-- A core may complete its bundle in slot M, and goes on to the next bundle of its program: slot S wrote nothing and goes straight on,
and no loop runs. -/
abbrev AtSlotM (s : State) (c : Nat) : Prop :=
  ∃ h ∈ (s.core c).half, ∃ m ∈ (s.core c).prog, h.src = (s.core c).regs ∧ h.writes = [] ∧ h.flow = .seq ∧
    (s.core c).regs.lv 0 = 0 ∧ (s.core c).regs.lv 1 = 0 ∧ (s.core c).pc + 1 < 4096 ∧
    s.place (F.ENG_DESC_W2_ENTRY m) ≤ (s.core c).pc + 1 ∧
    (s.core c).pc + 1 < s.place (F.ENG_DESC_W2_ENTRY m) + s.place (F.ENG_DESC_W2_IMEM_LEN m)

/-- The core is there, and an instruction in the slot executes under its predicate (R249). -/
abbrev Ready (s : State) (c : Nat) (sl : Slot) (pr : Pred) : Prop :=
  Shaped s ∧ c < s.cores ∧ predHolds (s.core c).regs pr = true ∧ (sl = .s → AtSlotS s c) ∧ (sl = .m → AtSlotM s c)

/-- Nothing but one core changes, and the registers given: every other core, the rest of the engine and the rest of the module are as
they were. CORE_STATUS of the core may follow its PC. -/
def CoreOnly (c : Nat) (regs : List Nat) (s t : State) : Prop :=
  (∀ k, k ≠ c → t.core k = s.core k) ∧ { t.eng with cores := s.eng.cores } = s.eng ∧
    Framed (A.ENG_CORE_STATUS c :: regs) [.eng] s t

/-- An instruction computes: the core's registers become a function of what they were, and nothing else changes but its place in the
program. -/
def Computes (c : Nat) (f : Regs → Regs) (s t : State) : Prop :=
  (t.core c).regs = f (s.core c).regs ∧ (t.core c).prog = (s.core c).prog ∧ (t.core c).xfers = (s.core c).xfers ∧ CoreOnly c [] s t

/-- An access fails its check (R229, R276): it counts, ACCESS_TRAP sets, and sf.TRAP with what else the registers take. -/
def Traps (c : Nat) (f : Regs → Regs) (s t : State) : Prop :=
  (t.core c).regs = (let r := f (s.core c).regs; { r with sf := r.sf ||| 4 }) ∧ Counts s t (A.ENG_CORE_ACCESS_TRAPS c) 1 ∧
    t.on F.ENG_EVT_ACCESS_TRAP = true ∧ CoreOnly c [A.ENG_CORE_ACCESS_TRAPS c, A.ENG_CORE_SAT c, A.ENG_EVT] s t

/-- Registers with one replaced, without and with bits that set in sf. -/
def toD (d : D) (g : Regs → Word) (r : Regs) : Regs := { r with d := setAt r.d d.val (g r) }
def toP (p : P) (g : Regs → Word) (r : Regs) : Regs := { r with p := setAt r.p p.val (g r) }
def toF (f : Q) (g : Regs → Bool) (r : Regs) : Regs := { r with f := setAt r.f f.val (g r) }
def toA (a : Q) (g : Regs → BitVec 72) (r : Regs) : Regs := { r with acc := setAt r.acc a.val (g r) }
def toDSf (d : D) (g : Regs → Word × Nat) (r : Regs) : Regs :=
  { r with d := setAt r.d d.val (g r).1, sf := r.sf ||| (g r).2 }
def toASf (a : Q) (g : Regs → BitVec 72 × Nat) (r : Regs) : Regs :=
  { r with acc := setAt r.acc a.val (g r).1, sf := r.sf ||| (g r).2 }

/-- A word is an instruction of a slot. -/
def Means (c : Nat) (sl : Slot) (w : Nat) (i : Instr) : Prop := decodeWord c sl w = some i

/-- A word of an opcode with a function code in a range is undefined (R251). -/
def Undefined (op lo hi : Nat) : Prop :=
  ∀ (c : Nat) (sl : Slot) (w : Nat), w / 2 ^ 26 % 64 = op → lo ≤ w % 128 → w % 128 ≤ hi → decodeWord c sl w = none

/-- R253, R254: opcode 0x01 computes dDST from dSA and dSB according to FN, and the immediate forms do as their table says, in either slot
where the opcode map has both. FN codes 0x0D to 0x7F, a shift of selection 0b11 or with IMM12 [9:5] set, and a movhi with IMM17 [16] set
are undefined words. -/
def Obligations.IntegerOperations : Prop :=
  (∀ (c : Nat) (sl : Slot) (pr : Pred) (d a b : D), Means c sl (fmtR 0x1 pr d.val a.val b.val 0) (.add c sl pr d a b) ∧
    ∀ s : State, Ready s c sl pr → Answers (.add c sl pr d a b) s (Computes c (toD d fun r => r.dv a + r.dv b) s)) ∧
  (∀ (c : Nat) (sl : Slot) (pr : Pred) (d a b : D), Means c sl (fmtR 0x1 pr d.val a.val b.val 1) (.sub c sl pr d a b) ∧
    ∀ s : State, Ready s c sl pr → Answers (.sub c sl pr d a b) s (Computes c (toD d fun r => r.dv a - r.dv b) s)) ∧
  (∀ (c : Nat) (sl : Slot) (pr : Pred) (d a b : D), Means c sl (fmtR 0x1 pr d.val a.val b.val 2) (.and c sl pr d a b) ∧
    ∀ s : State, Ready s c sl pr → Answers (.and c sl pr d a b) s (Computes c (toD d fun r => r.dv a &&& r.dv b) s)) ∧
  (∀ (c : Nat) (sl : Slot) (pr : Pred) (d a b : D), Means c sl (fmtR 0x1 pr d.val a.val b.val 3) (.or c sl pr d a b) ∧
    ∀ s : State, Ready s c sl pr → Answers (.or c sl pr d a b) s (Computes c (toD d fun r => r.dv a ||| r.dv b) s)) ∧
  (∀ (c : Nat) (sl : Slot) (pr : Pred) (d a b : D), Means c sl (fmtR 0x1 pr d.val a.val b.val 4) (.xor c sl pr d a b) ∧
    ∀ s : State, Ready s c sl pr → Answers (.xor c sl pr d a b) s (Computes c (toD d fun r => r.dv a ^^^ r.dv b) s)) ∧
  (∀ (c : Nat) (sl : Slot) (pr : Pred) (d a b : D), Means c sl (fmtR 0x1 pr d.val a.val b.val 5) (.andn c sl pr d a b) ∧
    ∀ s : State, Ready s c sl pr → Answers (.andn c sl pr d a b) s (Computes c (toD d fun r => r.dv a &&& ~~~(r.dv b)) s)) ∧
  (∀ (c : Nat) (sl : Slot) (pr : Pred) (d a b : D), Means c sl (fmtR 0x1 pr d.val a.val b.val 6) (.shl c sl pr d a b) ∧
    ∀ s : State, Ready s c sl pr → Answers (.shl c sl pr d a b) s (Computes c (toD d fun r => r.dv a <<< ((r.dv b).toNat % 32)) s)) ∧
  (∀ (c : Nat) (sl : Slot) (pr : Pred) (d a b : D), Means c sl (fmtR 0x1 pr d.val a.val b.val 7) (.shr c sl pr d a b) ∧
    ∀ s : State, Ready s c sl pr → Answers (.shr c sl pr d a b) s (Computes c (toD d fun r => r.dv a >>> ((r.dv b).toNat % 32)) s)) ∧
  (∀ (c : Nat) (sl : Slot) (pr : Pred) (d a b : D), Means c sl (fmtR 0x1 pr d.val a.val b.val 8) (.sar c sl pr d a b) ∧
    ∀ s : State, Ready s c sl pr → Answers (.sar c sl pr d a b) s (Computes c (toD d fun r => (r.dv a).sshiftRight ((r.dv b).toNat % 32)) s)) ∧
  (∀ (c : Nat) (sl : Slot) (pr : Pred) (d a b : D), Means c sl (fmtR 0x1 pr d.val a.val b.val 9) (.min c sl pr d a b) ∧
    ∀ s : State, Ready s c sl pr → Answers (.min c sl pr d a b) s (Computes c (toD d fun r => if (r.dv a).toInt < (r.dv b).toInt then r.dv a else r.dv b) s)) ∧
  (∀ (c : Nat) (sl : Slot) (pr : Pred) (d a b : D), Means c sl (fmtR 0x1 pr d.val a.val b.val 10) (.max c sl pr d a b) ∧
    ∀ s : State, Ready s c sl pr → Answers (.max c sl pr d a b) s (Computes c (toD d fun r => if (r.dv a).toInt < (r.dv b).toInt then r.dv b else r.dv a) s)) ∧
  (∀ (c : Nat) (sl : Slot) (pr : Pred) (d a b : D), Means c sl (fmtR 0x1 pr d.val a.val b.val 11) (.minu c sl pr d a b) ∧
    ∀ s : State, Ready s c sl pr → Answers (.minu c sl pr d a b) s (Computes c (toD d fun r => if (r.dv a).toNat < (r.dv b).toNat then r.dv a else r.dv b) s)) ∧
  (∀ (c : Nat) (sl : Slot) (pr : Pred) (d a b : D), Means c sl (fmtR 0x1 pr d.val a.val b.val 12) (.maxu c sl pr d a b) ∧
    ∀ s : State, Ready s c sl pr → Answers (.maxu c sl pr d a b) s (Computes c (toD d fun r => if (r.dv a).toNat < (r.dv b).toNat then r.dv b else r.dv a) s)) ∧
  Undefined 1 0x0D 0x7F ∧
  (∀ (c : Nat) (sl : Slot) (pr : Pred) (d a : D) (imm : BitVec 12), Means c sl (fmtI 0x2 pr d.val a.val imm.toNat) (.addi c sl pr d a imm) ∧
    ∀ s : State, Ready s c sl pr → Answers (.addi c sl pr d a imm) s (Computes c (toD d fun r => r.dv a + imm.signExtend 32) s)) ∧
  (∀ (c : Nat) (pr : Pred) (d a : D) (imm : BitVec 12), Means c .s (fmtI 0x3 pr d.val a.val imm.toNat) (.andi c pr d a imm) ∧
    ∀ s : State, Ready s c .s pr → Answers (.andi c pr d a imm) s (Computes c (toD d fun r => r.dv a &&& imm.setWidth 32) s)) ∧
  (∀ (c : Nat) (pr : Pred) (d a : D) (imm : BitVec 12), Means c .s (fmtI 0x4 pr d.val a.val imm.toNat) (.ori c pr d a imm) ∧
    ∀ s : State, Ready s c .s pr → Answers (.ori c pr d a imm) s (Computes c (toD d fun r => r.dv a ||| imm.setWidth 32) s)) ∧
  (∀ (c : Nat) (pr : Pred) (d a : D) (imm : BitVec 12), Means c .s (fmtI 0x5 pr d.val a.val imm.toNat) (.xori c pr d a imm) ∧
    ∀ s : State, Ready s c .s pr → Answers (.xori c pr d a imm) s (Computes c (toD d fun r => r.dv a ^^^ imm.setWidth 32) s)) ∧
  (∀ (c : Nat) (sl : Slot) (pr : Pred) (d a : D) (n : Fin 32), Means c sl (fmtI 0x6 pr d.val a.val (0 + n.val)) (.shli c sl pr d a n) ∧
    ∀ s : State, Ready s c sl pr → Answers (.shli c sl pr d a n) s (Computes c (toD d fun r => r.dv a <<< n.val) s)) ∧
  (∀ (c : Nat) (sl : Slot) (pr : Pred) (d a : D) (n : Fin 32), Means c sl (fmtI 0x6 pr d.val a.val (1024 + n.val)) (.shri c sl pr d a n) ∧
    ∀ s : State, Ready s c sl pr → Answers (.shri c sl pr d a n) s (Computes c (toD d fun r => r.dv a >>> n.val) s)) ∧
  (∀ (c : Nat) (sl : Slot) (pr : Pred) (d a : D) (n : Fin 32), Means c sl (fmtI 0x6 pr d.val a.val (2048 + n.val)) (.sari c sl pr d a n) ∧
    ∀ s : State, Ready s c sl pr → Answers (.sari c sl pr d a n) s (Computes c (toD d fun r => (r.dv a).sshiftRight n.val) s)) ∧
  (∀ (c : Nat) (sl : Slot) (pr : Pred) (d : D) (imm : BitVec 17), Means c sl (fmtL 0x8 pr d.val imm.toNat) (.movi c sl pr d imm) ∧
    ∀ s : State, Ready s c sl pr → Answers (.movi c sl pr d imm) s (Computes c (toD d fun _ => imm.signExtend 32) s)) ∧
  (∀ (c : Nat) (pr : Pred) (d : D) (imm : BitVec 16), Means c .s (fmtL 0x9 pr d.val imm.toNat) (.movhi c pr d imm) ∧
    ∀ s : State, Ready s c .s pr → Answers (.movhi c pr d imm) s (Computes c (toD d fun r => imm ++ (r.dv d).extractLsb' 0 16) s)) ∧
  (∀ (c : Nat) (pr : Pred) (d a : P) (imm : BitVec 12), Means c .s (fmtI 0xb pr d.val a.val imm.toNat) (.padd c pr d a imm) ∧
    ∀ s : State, Ready s c .s pr → Answers (.padd c pr d a imm) s (Computes c (toP d fun r => r.pv a + imm.signExtend 32) s)) ∧
  (∀ (c : Nat) (sl : Slot) (w : Nat), w / 2 ^ 26 % 64 = 6 → w / 1024 % 4 = 3 ∨ w / 32 % 32 ≠ 0 → decodeWord c sl w = none) ∧
  (∀ (c : Nat) (sl : Slot) (w : Nat), w / 2 ^ 26 % 64 = 9 → w / 65536 % 2 = 1 → decodeWord c sl w = none)

/-- R255 (its waits apart) and R256: moves between the register files, compares, predicate operations and select. -/
def Obligations.MovesAndCompares : Prop :=
  (∀ (c : Nat) (pr : Pred) (d a : D), Means c .s (fmtR 0xa pr d.val a.val 0 0) (.movDD c pr d a) ∧
    ∀ s : State, Ready s c .s pr → Answers (.movDD c pr d a) s (Computes c (toD d fun r => r.dv a) s)) ∧
  (∀ (c : Nat) (pr : Pred) (d : D) (a : P), Means c .s (fmtR 0xa pr d.val a.val 0 1) (.movDP c pr d a) ∧
    ∀ s : State, Ready s c .s pr → Answers (.movDP c pr d a) s (Computes c (toD d fun r => r.pv a) s)) ∧
  (∀ (c : Nat) (pr : Pred) (d : P) (a : D), Means c .s (fmtR 0xa pr d.val a.val 0 2) (.movPD c pr d a) ∧
    ∀ s : State, Ready s c .s pr → Answers (.movPD c pr d a) s (Computes c (toP d fun r => r.dv a) s)) ∧
  (∀ (c : Nat) (pr : Pred) (d : D) (a : Fin 2), Means c .s (fmtR 0xa pr d.val a.val 0 3) (.movDLc c pr d a) ∧
    ∀ s : State, Ready s c .s pr → Answers (.movDLc c pr d a) s (Computes c (toD d fun r => BitVec.ofNat 32 (r.lv a)) s)) ∧
  (∀ (c : Nat) (pr : Pred) (d : D), Means c .s (fmtR 0xa pr d.val 0 0 4) (.movDSf c pr d) ∧
    ∀ s : State, Ready s c .s pr → Answers (.movDSf c pr d) s (Computes c (toD d fun r => BitVec.ofNat 32 r.sf) s)) ∧
  (∀ (c : Nat) (pr : Pred), Means c .s (fmtR 0xa pr 0 0 0 5) (.clrSf c pr) ∧
    ∀ s : State, Ready s c .s pr → Answers (.clrSf c pr) s (Computes c (fun r => { r with sf := 0 }) s)) ∧
  (∀ (c : Nat) (pr : Pred) (d : D), Means c .s (fmtR 0xa pr d.val 0 0 6) (.movDF c pr d) ∧
    ∀ s : State, Ready s c .s pr → (s.core c).regs.f.length = 4 → Answers (.movDF c pr d) s (Computes c (toD d fun r =>
      BitVec.ofBool (r.fv 3) ++ BitVec.ofBool (r.fv 2) ++ BitVec.ofBool (r.fv 1) ++ BitVec.ofBool (r.fv 0) |>.setWidth 32) s)) ∧
  (∀ (c : Nat) (pr : Pred) (a : D), Means c .s (fmtR 0xa pr 0 a.val 0 7) (.movFD c pr a) ∧
    ∀ s : State, Ready s c .s pr → (s.core c).regs.f.length = 4 → Answers (.movFD c pr a) s (Computes c (fun r =>
      { r with f := [(r.dv a).getLsbD 0, (r.dv a).getLsbD 1, (r.dv a).getLsbD 2, (r.dv a).getLsbD 3] }) s)) ∧
  Undefined 0xA 8 0x7F ∧
  (∀ (c : Nat) (pr : Pred) (f : Q) (a b : D), Means c .s (fmtR 0xc pr f.val a.val b.val 0) (.cmp c pr .eq f a b) ∧
    ∀ s : State, Ready s c .s pr → Answers (.cmp c pr .eq f a b) s (Computes c (toF f fun r => r.dv a == r.dv b) s)) ∧
  (∀ (c : Nat) (pr : Pred) (f : Q) (a : D) (imm : BitVec 12), Means c .s (fmtI 0xd pr (f.val * 8 + 0) a.val imm.toNat) (.cmpi c pr .eq f a imm) ∧
    ∀ s : State, Ready s c .s pr → Answers (.cmpi c pr .eq f a imm) s (Computes c (toF f fun r => r.dv a == imm.signExtend 32) s)) ∧
  (∀ (c : Nat) (pr : Pred) (f : Q) (a b : D), Means c .s (fmtR 0xc pr f.val a.val b.val 1) (.cmp c pr .ne f a b) ∧
    ∀ s : State, Ready s c .s pr → Answers (.cmp c pr .ne f a b) s (Computes c (toF f fun r => r.dv a != r.dv b) s)) ∧
  (∀ (c : Nat) (pr : Pred) (f : Q) (a : D) (imm : BitVec 12), Means c .s (fmtI 0xd pr (f.val * 8 + 1) a.val imm.toNat) (.cmpi c pr .ne f a imm) ∧
    ∀ s : State, Ready s c .s pr → Answers (.cmpi c pr .ne f a imm) s (Computes c (toF f fun r => r.dv a != imm.signExtend 32) s)) ∧
  (∀ (c : Nat) (pr : Pred) (f : Q) (a b : D), Means c .s (fmtR 0xc pr f.val a.val b.val 2) (.cmp c pr .lt f a b) ∧
    ∀ s : State, Ready s c .s pr → Answers (.cmp c pr .lt f a b) s (Computes c (toF f fun r => decide ((r.dv a).toInt < (r.dv b).toInt)) s)) ∧
  (∀ (c : Nat) (pr : Pred) (f : Q) (a : D) (imm : BitVec 12), Means c .s (fmtI 0xd pr (f.val * 8 + 2) a.val imm.toNat) (.cmpi c pr .lt f a imm) ∧
    ∀ s : State, Ready s c .s pr → Answers (.cmpi c pr .lt f a imm) s (Computes c (toF f fun r => decide ((r.dv a).toInt < (imm.signExtend 32).toInt)) s)) ∧
  (∀ (c : Nat) (pr : Pred) (f : Q) (a b : D), Means c .s (fmtR 0xc pr f.val a.val b.val 3) (.cmp c pr .le f a b) ∧
    ∀ s : State, Ready s c .s pr → Answers (.cmp c pr .le f a b) s (Computes c (toF f fun r => decide ((r.dv a).toInt ≤ (r.dv b).toInt)) s)) ∧
  (∀ (c : Nat) (pr : Pred) (f : Q) (a : D) (imm : BitVec 12), Means c .s (fmtI 0xd pr (f.val * 8 + 3) a.val imm.toNat) (.cmpi c pr .le f a imm) ∧
    ∀ s : State, Ready s c .s pr → Answers (.cmpi c pr .le f a imm) s (Computes c (toF f fun r => decide ((r.dv a).toInt ≤ (imm.signExtend 32).toInt)) s)) ∧
  (∀ (c : Nat) (pr : Pred) (f : Q) (a b : D), Means c .s (fmtR 0xc pr f.val a.val b.val 4) (.cmp c pr .ltu f a b) ∧
    ∀ s : State, Ready s c .s pr → Answers (.cmp c pr .ltu f a b) s (Computes c (toF f fun r => decide ((r.dv a).toNat < (r.dv b).toNat)) s)) ∧
  (∀ (c : Nat) (pr : Pred) (f : Q) (a : D) (imm : BitVec 12), Means c .s (fmtI 0xd pr (f.val * 8 + 4) a.val imm.toNat) (.cmpi c pr .ltu f a imm) ∧
    ∀ s : State, Ready s c .s pr → Answers (.cmpi c pr .ltu f a imm) s (Computes c (toF f fun r => decide ((r.dv a).toNat < (imm.signExtend 32).toNat)) s)) ∧
  (∀ (c : Nat) (pr : Pred) (f : Q) (a b : D), Means c .s (fmtR 0xc pr f.val a.val b.val 5) (.cmp c pr .leu f a b) ∧
    ∀ s : State, Ready s c .s pr → Answers (.cmp c pr .leu f a b) s (Computes c (toF f fun r => decide ((r.dv a).toNat ≤ (r.dv b).toNat)) s)) ∧
  (∀ (c : Nat) (pr : Pred) (f : Q) (a : D) (imm : BitVec 12), Means c .s (fmtI 0xd pr (f.val * 8 + 5) a.val imm.toNat) (.cmpi c pr .leu f a imm) ∧
    ∀ s : State, Ready s c .s pr → Answers (.cmpi c pr .leu f a imm) s (Computes c (toF f fun r => decide ((r.dv a).toNat ≤ (imm.signExtend 32).toNat)) s)) ∧
  (∀ (c : Nat) (pr : Pred) (d a b : Q), Means c .s (fmtR 0xe pr d.val a.val b.val 0) (.pand c pr d a b) ∧
    ∀ s : State, Ready s c .s pr → Answers (.pand c pr d a b) s (Computes c (toF d fun r => r.fv a && r.fv b) s)) ∧
  (∀ (c : Nat) (pr : Pred) (d a b : Q), Means c .s (fmtR 0xe pr d.val a.val b.val 1) (.por c pr d a b) ∧
    ∀ s : State, Ready s c .s pr → Answers (.por c pr d a b) s (Computes c (toF d fun r => r.fv a || r.fv b) s)) ∧
  (∀ (c : Nat) (pr : Pred) (d a b : Q), Means c .s (fmtR 0xe pr d.val a.val b.val 2) (.pxor c pr d a b) ∧
    ∀ s : State, Ready s c .s pr → Answers (.pxor c pr d a b) s (Computes c (toF d fun r => xor (r.fv a) (r.fv b)) s)) ∧
  (∀ (c : Nat) (pr : Pred) (d a b : Q), Means c .s (fmtR 0xe pr d.val a.val b.val 3) (.pandn c pr d a b) ∧
    ∀ s : State, Ready s c .s pr → Answers (.pandn c pr d a b) s (Computes c (toF d fun r => r.fv a && !r.fv b) s)) ∧
  (∀ (c : Nat) (pr : Pred) (d a : Q), Means c .s (fmtR 0xe pr d.val a.val 0 4) (.pnot c pr d a) ∧
    ∀ s : State, Ready s c .s pr → Answers (.pnot c pr d a) s (Computes c (toF d fun r => !r.fv a) s)) ∧
  (∀ (c : Nat) (pr : Pred) (d : Q), Means c .s (fmtR 0xe pr d.val 0 0 5) (.pclr c pr d) ∧
    ∀ s : State, Ready s c .s pr → Answers (.pclr c pr d) s (Computes c (toF d fun _ => false) s)) ∧
  (∀ (c : Nat) (pr : Pred) (d : Q), Means c .s (fmtR 0xe pr d.val 0 0 6) (.pset c pr d) ∧
    ∀ s : State, Ready s c .s pr → Answers (.pset c pr d) s (Computes c (toF d fun _ => true) s)) ∧
  (∀ (c : Nat) (sl : Slot) (pr : Pred) (d : D) (f : Q) (a b : D), Means c sl (fmtR 0xf pr d.val a.val b.val f.val) (.sel c sl pr d f a b) ∧
    ∀ s : State, Ready s c sl pr → Answers (.sel c sl pr d f a b) s (Computes c (toD d fun r => if r.fv f then r.dv a else r.dv b) s)) ∧
  Undefined 0xC 6 0x7F ∧
  Undefined 0xE 7 0x7F ∧
  Undefined 0xF 4 0x7F ∧
  (∀ (c : Nat) (sl : Slot) (w : Nat), w / 2 ^ 26 % 64 = 13 → 6 ≤ w / 2 ^ 17 % 8 → decodeWord c sl w = none)

/-- Both halves of two words, an operation on each, and the sf bits that either sets. -/
def halves (f : Int → Int → Int) (x y : Word) : Word × Nat :=
  ((sat16 (f (x.extractLsb' 16 16).toInt (y.extractLsb' 16 16).toInt)).1 ++ (sat16 (f (x.extractLsb' 0 16).toInt (y.extractLsb' 0 16).toInt)).1,
    (sat16 (f (x.extractLsb' 16 16).toInt (y.extractLsb' 16 16).toInt)).2 |||
      (sat16 (f (x.extractLsb' 0 16).toInt (y.extractLsb' 0 16).toInt)).2)

/-- R257, R261: saturating q31 arithmetic, and the two q15 halves of a register, each computed and saturated alone. -/
def Obligations.SaturatingArithmetic : Prop :=
  (∀ (c : Nat) (pr : Pred) (d a b : D), Means c .m (fmtR 0x27 pr d.val a.val b.val 0) (.addS c pr d a b) ∧
    ∀ s : State, Ready s c .m pr → Answers (.addS c pr d a b) s (Computes c (toDSf d fun r => sat31 ((r.dv a).toInt + (r.dv b).toInt)) s)) ∧
  (∀ (c : Nat) (pr : Pred) (d a b : D), Means c .m (fmtR 0x27 pr d.val a.val b.val 1) (.subS c pr d a b) ∧
    ∀ s : State, Ready s c .m pr → Answers (.subS c pr d a b) s (Computes c (toDSf d fun r => sat31 ((r.dv a).toInt - (r.dv b).toInt)) s)) ∧
  (∀ (c : Nat) (pr : Pred) (d a : D), Means c .m (fmtR 0x27 pr d.val a.val 0 2) (.negS c pr d a) ∧
    ∀ s : State, Ready s c .m pr → Answers (.negS c pr d a) s (Computes c (toDSf d fun r => sat31 (-(r.dv a).toInt)) s)) ∧
  (∀ (c : Nat) (pr : Pred) (d a : D), Means c .m (fmtR 0x27 pr d.val a.val 0 3) (.absS c pr d a) ∧
    ∀ s : State, Ready s c .m pr → Answers (.absS c pr d a) s (Computes c (toDSf d fun r => sat31 ((r.dv a).toInt.natAbs : Int)) s)) ∧
  (∀ (c : Nat) (pr : Pred) (d a : D) (n : Fin 32), Means c .m (fmtR 0x27 pr d.val a.val 0 (0x20 + n.val)) (.shlS c pr d a n) ∧
    ∀ s : State, Ready s c .m pr → Answers (.shlS c pr d a n) s (Computes c (toDSf d fun r => sat31 ((r.dv a).toInt * 2 ^ n.val)) s)) ∧
  sat31 (-(0x80000000#32).toInt) = (0x7FFFFFFF#32, 1) ∧
  Undefined 0x27 4 0x1F ∧
  Undefined 0x27 0x40 0x7F ∧
  (∀ (c : Nat) (pr : Pred) (d a b : D), Means c .m (fmtR 0x28 pr d.val a.val b.val 0) (.add2S c pr d a b) ∧
    ∀ s : State, Ready s c .m pr → Answers (.add2S c pr d a b) s (Computes c (toDSf d fun r => halves (fun x y => x + y) (r.dv a) (r.dv b)) s)) ∧
  (∀ (c : Nat) (pr : Pred) (d a b : D), Means c .m (fmtR 0x28 pr d.val a.val b.val 1) (.sub2S c pr d a b) ∧
    ∀ s : State, Ready s c .m pr → Answers (.sub2S c pr d a b) s (Computes c (toDSf d fun r => halves (fun x y => x - y) (r.dv a) (r.dv b)) s)) ∧
  (∀ (c : Nat) (pr : Pred) (d a b : D), Means c .m (fmtR 0x28 pr d.val a.val b.val 2) (.mul2Q15 c pr d a b) ∧
    ∀ s : State, Ready s c .m pr → Answers (.mul2Q15 c pr d a b) s (Computes c (toDSf d fun r => halves (fun x y => rnd (x * y) 15) (r.dv a) (r.dv b)) s)) ∧
  (∀ (c : Nat) (pr : Pred) (d a b : D), Means c .m (fmtR 0x28 pr d.val a.val b.val 3) (.max2 c pr d a b) ∧
    ∀ s : State, Ready s c .m pr → Answers (.max2 c pr d a b) s (Computes c (toD d fun r => (halves max (r.dv a) (r.dv b)).1) s)) ∧
  (∀ (c : Nat) (pr : Pred) (d a b : D), Means c .m (fmtR 0x28 pr d.val a.val b.val 4) (.min2 c pr d a b) ∧
    ∀ s : State, Ready s c .m pr → Answers (.min2 c pr d a b) s (Computes c (toD d fun r => (halves min (r.dv a) (r.dv b)).1) s)) ∧
  (∀ (c : Nat) (pr : Pred) (d a : D), Means c .m (fmtR 0x28 pr d.val a.val 0 5) (.abs2S c pr d a) ∧
    ∀ s : State, Ready s c .m pr → Answers (.abs2S c pr d a) s (Computes c (toDSf d fun r => halves (fun x _ => (x.natAbs : Int)) (r.dv a) (r.dv a)) s)) ∧
  (∀ (c : Nat) (pr : Pred) (d a b : D), Means c .m (fmtR 0x28 pr d.val a.val b.val 6) (.packHh c pr d a b) ∧
    ∀ s : State, Ready s c .m pr → Answers (.packHh c pr d a b) s (Computes c (toD d fun r => (r.dv a).extractLsb' 16 16 ++ (r.dv b).extractLsb' 16 16) s)) ∧
  (∀ (c : Nat) (pr : Pred) (d a : D), Means c .m (fmtR 0x28 pr d.val a.val 0 7) (.unpkHi c pr d a) ∧
    ∀ s : State, Ready s c .m pr → Answers (.unpkHi c pr d a) s (Computes c (toD d fun r => (r.dv a).extractLsb' 16 16 ++ 0#16) s)) ∧
  (∀ (c : Nat) (pr : Pred) (d a : D), Means c .m (fmtR 0x28 pr d.val a.val 0 8) (.unpkLo c pr d a) ∧
    ∀ s : State, Ready s c .m pr → Answers (.unpkLo c pr d a) s (Computes c (toD d fun r => (r.dv a).extractLsb' 0 16 ++ 0#16) s)) ∧
  Undefined 0x28 9 0x7F

/-- R262: the results lie within 16 LSB of the rounded exact values, whatever the free error is, and are clipped to ±(2^31 − 1); sf does not change. -/
def Obligations.SineAndCosine : Prop :=
  (∀ (c : Nat) (pr : Pred) (d a : D), Means c .m (fmtR 0x29 pr d.val a.val 0 0) (.sinQ31 c pr d a) ∧
    ∀ s : State, Ready s c .m pr → ∃ f : Word → Word,
      (∀ ph, ∃ e : Int, e.natAbs ≤ 16 ∧ (f ph).toInt = max (-2147483647) (min 2147483647 (sinExact ph.toNat + e))) ∧
      Answers (.sinQ31 c pr d a) s (Computes c (toD d fun r => f (r.dv a)) s)) ∧
  (∀ (c : Nat) (pr : Pred) (d a : D), Means c .m (fmtR 0x29 pr d.val a.val 0 1) (.cosQ31 c pr d a) ∧
    ∀ s : State, Ready s c .m pr → ∃ f : Word → Word,
      (∀ ph, ∃ e : Int, e.natAbs ≤ 16 ∧ (f ph).toInt = max (-2147483647) (min 2147483647 (sinExact ((ph.toNat + 2 ^ 30) % 2 ^ 32) + e))) ∧
      Answers (.cosQ31 c pr d a) s (Computes c (toD d fun r => f (r.dv a)) s)) ∧
  Undefined 0x29 2 0x7F

/-- R258 to R260: multiplies, multiply-accumulates (of which mpy never clips) and the accumulator group. -/
def Obligations.MultiplyAndAccumulate : Prop :=
  (∀ (c : Nat) (pr : Pred) (d a b : D), Means c .m (fmtR 0x24 pr d.val a.val b.val 0) (.mulQ31 c pr d a b) ∧
    ∀ s : State, Ready s c .m pr → Answers (.mulQ31 c pr d a b) s (Computes c (toDSf d fun r => sat31 (rnd ((r.dv a).toInt * (r.dv b).toInt) 31)) s)) ∧
  (∀ (c : Nat) (pr : Pred) (d a b : D), Means c .m (fmtR 0x24 pr d.val a.val b.val 1) (.mulQ30 c pr d a b) ∧
    ∀ s : State, Ready s c .m pr → Answers (.mulQ30 c pr d a b) s (Computes c (toDSf d fun r => sat31 (rnd ((r.dv a).toInt * (r.dv b).toInt) 30)) s)) ∧
  (∀ (c : Nat) (pr : Pred) (d a b : D), Means c .m (fmtR 0x24 pr d.val a.val b.val 2) (.mulI c pr d a b) ∧
    ∀ s : State, Ready s c .m pr → Answers (.mulI c pr d a b) s (Computes c (toD d fun r => BitVec.ofInt 32 ((r.dv a).toInt * (r.dv b).toInt)) s)) ∧
  (∀ (c : Nat) (pr : Pred) (d a b : D), Means c .m (fmtR 0x24 pr d.val a.val b.val 3) (.mulhI c pr d a b) ∧
    ∀ s : State, Ready s c .m pr → Answers (.mulhI c pr d a b) s (Computes c (toD d fun r => (BitVec.ofInt 64 ((r.dv a).toInt * (r.dv b).toInt)).extractLsb' 32 32) s)) ∧
  Undefined 0x24 4 0x7F ∧
  (∀ (c : Nat) (pr : Pred) (d : Q) (a b : D), Means c .m (fmtR 0x25 pr d.val a.val b.val 0) (.mpyQ31 c pr d a b) ∧
    ∀ s : State, Ready s c .m pr → Answers (.mpyQ31 c pr d a b) s (Computes c (toA d fun r => BitVec.ofInt 72 (2 * (r.dv a).toInt * (r.dv b).toInt)) s)) ∧
  (∀ (c : Nat) (pr : Pred) (d : Q) (a b : D), Means c .m (fmtR 0x25 pr d.val a.val b.val 1) (.macQ31 c pr d a b) ∧
    ∀ s : State, Ready s c .m pr → Answers (.macQ31 c pr d a b) s (Computes c (toASf d fun r => sat72 ((r.av d).toInt + 2 * (r.dv a).toInt * (r.dv b).toInt)) s)) ∧
  (∀ (c : Nat) (pr : Pred) (d : Q) (a b : D), Means c .m (fmtR 0x25 pr d.val a.val b.val 2) (.msuQ31 c pr d a b) ∧
    ∀ s : State, Ready s c .m pr → Answers (.msuQ31 c pr d a b) s (Computes c (toASf d fun r => sat72 ((r.av d).toInt - 2 * (r.dv a).toInt * (r.dv b).toInt)) s)) ∧
  (∀ (c : Nat) (pr : Pred) (d : Q) (a b : D), Means c .m (fmtR 0x25 pr d.val a.val b.val 3) (.mpyQ30 c pr d a b) ∧
    ∀ s : State, Ready s c .m pr → Answers (.mpyQ30 c pr d a b) s (Computes c (toA d fun r => BitVec.ofInt 72 (4 * (r.dv a).toInt * (r.dv b).toInt)) s)) ∧
  (∀ (c : Nat) (pr : Pred) (d : Q) (a b : D), Means c .m (fmtR 0x25 pr d.val a.val b.val 4) (.macQ30 c pr d a b) ∧
    ∀ s : State, Ready s c .m pr → Answers (.macQ30 c pr d a b) s (Computes c (toASf d fun r => sat72 ((r.av d).toInt + 4 * (r.dv a).toInt * (r.dv b).toInt)) s)) ∧
  (∀ (c : Nat) (pr : Pred) (d : Q) (a b : D), Means c .m (fmtR 0x25 pr d.val a.val b.val 5) (.msuQ30 c pr d a b) ∧
    ∀ s : State, Ready s c .m pr → Answers (.msuQ30 c pr d a b) s (Computes c (toASf d fun r => sat72 ((r.av d).toInt - 4 * (r.dv a).toInt * (r.dv b).toInt)) s)) ∧
  Undefined 0x25 6 0x7F ∧
  (∀ (c : Nat) (pr : Pred) (d : Q), Means c .m (fmtR 0x26 pr d.val 0 0 0) (.accClr c pr d) ∧
    ∀ s : State, Ready s c .m pr → Answers (.accClr c pr d) s (Computes c (toA d fun _ => 0) s)) ∧
  (∀ (c : Nat) (pr : Pred) (d : Q) (a : D), Means c .m (fmtR 0x26 pr d.val a.val 0 1) (.accLdQ31 c pr d a) ∧
    ∀ s : State, Ready s c .m pr → Answers (.accLdQ31 c pr d a) s (Computes c (toA d fun r => BitVec.ofInt 72 ((r.dv a).toInt * 2 ^ 32)) s)) ∧
  (∀ (c : Nat) (pr : Pred) (d : Q) (a b : D), Means c .m (fmtR 0x26 pr d.val a.val b.val 2) (.accLdw c pr d a b) ∧
    ∀ s : State, Ready s c .m pr → Answers (.accLdw c pr d a b) s (Computes c (toA d fun r => (r.dv a ++ r.dv b).signExtend 72) s)) ∧
  (∀ (c : Nat) (pr : Pred) (d a : Q), Means c .m (fmtR 0x26 pr d.val a.val 0 3) (.accAdd c pr d a) ∧
    ∀ s : State, Ready s c .m pr → Answers (.accAdd c pr d a) s (Computes c (toASf d fun r => sat72 ((r.av d).toInt + (r.av a).toInt)) s)) ∧
  (∀ (c : Nat) (pr : Pred) (d a : Q), Means c .m (fmtR 0x26 pr d.val a.val 0 4) (.accSub c pr d a) ∧
    ∀ s : State, Ready s c .m pr → Answers (.accSub c pr d a) s (Computes c (toASf d fun r => sat72 ((r.av d).toInt - (r.av a).toInt)) s)) ∧
  (∀ (c : Nat) (pr : Pred) (d : Q) (n : Fin 32), Means c .m (fmtR 0x26 pr d.val 0 n.val 5) (.accShr c pr d n) ∧
    ∀ s : State, Ready s c .m pr → Answers (.accShr c pr d n) s (Computes c (toA d fun r => BitVec.ofInt 72 (rnd (r.av d).toInt n.val)) s)) ∧
  (∀ (c : Nat) (pr : Pred) (d : D) (a : Q) (n : Fin 8), Means c .m (fmtR 0x26 pr d.val a.val 0 (0x10 + n.val)) (.accRdQ31 c pr d a n) ∧
    ∀ s : State, Ready s c .m pr → Answers (.accRdQ31 c pr d a n) s (Computes c (toDSf d fun r => sat31 (rnd ((r.av a).toInt * 2 ^ n.val) 32)) s)) ∧
  (∀ (c : Nat) (pr : Pred) (d : D) (a : Q), Means c .m (fmtR 0x26 pr d.val a.val 0 0x18) (.accRdHi c pr d a) ∧
    ∀ s : State, Ready s c .m pr → Answers (.accRdHi c pr d a) s (Computes c (toDSf d fun r => ((sat64 (r.av a).toInt).1.extractLsb' 32 32, (sat64 (r.av a).toInt).2)) s)) ∧
  (∀ (c : Nat) (pr : Pred) (d : D) (a : Q), Means c .m (fmtR 0x26 pr d.val a.val 0 0x19) (.accRdLo c pr d a) ∧
    ∀ s : State, Ready s c .m pr → Answers (.accRdLo c pr d a) s (Computes c (toDSf d fun r => ((sat64 (r.av a).toInt).1.extractLsb' 0 32, (sat64 (r.av a).toInt).2)) s)) ∧
  Undefined 0x26 6 0x0F ∧
  Undefined 0x26 0x1A 0x7F

/-- R245 and R246: rounding removes fractional bits half up, and a saturating operation clips to the nearest end of its range and sets
sf.SAT, an accumulator sf.AOVF. -/
def Obligations.RoundingAndSaturation : Prop :=
  (∀ (v : Int) (n : Nat), 0 < n → 2 ^ n * rnd v n ≤ v + 2 ^ (n - 1) ∧ v + 2 ^ (n - 1) < 2 ^ n * (rnd v n + 1)) ∧
  (∀ i : Int, (sat31 i).1.toInt = max (-2 ^ 31) (min (2 ^ 31 - 1) i) ∧ (sat31 i).2 = if (sat31 i).1.toInt = i then 0 else 1) ∧
  (∀ i : Int, (sat16 i).1.toInt = max (-2 ^ 15) (min (2 ^ 15 - 1) i) ∧ (sat16 i).2 = if (sat16 i).1.toInt = i then 0 else 1) ∧
  (∀ i : Int, (sat64 i).1.toInt = max (-2 ^ 63) (min (2 ^ 63 - 1) i) ∧ (sat64 i).2 = if (sat64 i).1.toInt = i then 0 else 1) ∧
  (∀ i : Int, (sat72 i).1.toInt = max (-2 ^ 71) (min (2 ^ 71 - 1) i) ∧ (sat72 i).2 = if (sat72 i).1.toInt = i then 0 else 2) ∧
  mulQ31 0x40000000#32 0x40000000#32 = (0x20000000#32, 0) ∧ mulQ30 0x60000000#32 0x60000000#32 = (0x7FFFFFFF#32, 1)


/-! ### Bundles, memories and program flow (spec chapters 7 and 8) -/

/-- The core's next bundle after one that goes on to a bundle of its program. -/
def GoesTo (c : Nat) (n : Nat) (t : State) : Prop := (t.core c).half = none ∧ (t.core c).pc = n

/-- Flow of a program (R241, R249, R251, R273 to R275): nop, an undefined word, a predicate that does not hold, a branch, end.ef
and the loops, in slot S; and what completing the bundle in slot M makes of each. Where the spec leaves it open the statement
follows the model's choices in notes/assumptions/52.md. -/
def Obligations.ProgramFlow : Prop :=
  (∀ (c : Nat) (sl : Slot), Means c sl 0 (.nop c sl) ∧
    ∀ s : State, Ready s c sl .always → Answers (.nop c sl) s (Computes c id s)) ∧
  (∀ (s : State) (c : Nat) (sl : Slot), Ready s c sl .always → Answers (.undefinedWord c sl) s (Traps c id s)) ∧
  (∀ (s : State) (c w : Nat) (sl : Slot) (i : Instr) (x : Fields), Shaped s → c < s.cores → (match sl with
      | .s => AtSlotS s c
      | .m => AtSlotM s c) → w / 2 ^ 26 % 64 < 0x38 → w ≠ 0 → decodeWord c sl w = some i → fieldsOf w = some x →
    predHolds (s.core c).regs x.pr = false → Answers i s (Computes c id s)) ∧
  (∀ (s : State) (c : Nat) (h : Half) (d a b : D) (v : Word), Shaped s → c < s.cores → (s.core c).half = some h →
    h.writes = [.d d.val v] → 3 < h.lat → (s.core c).prog = none → h.flow = .seq → (s.core c).regs.lv 0 = 0 →
    (s.core c).regs.lv 1 = 0 →
    Answers (.mulI c .always d a b) s fun t => (t.core c).regs = (s.core c).regs) ∧
  (∀ (s : State) (c : Nat) (h : Half) (d a b : D) (v : Word), Shaped s → c < s.cores → (s.core c).half = some h →
    h.writes = [.d d.val v] → h.lat ≤ 3 → (s.core c).prog = none → h.flow = .seq → (s.core c).regs.lv 0 = 0 →
    (s.core c).regs.lv 1 = 0 →
    Answers (.mulI c .always d a b) s fun t => (t.core c).regs = toD d (fun _ => h.src.dv a * h.src.dv b) (s.core c).regs) ∧
  (∀ (s : State) (c m : Nat) (pr : Pred) (off : BitVec 13), Ready s c .s pr → (s.core c).prog = some m →
    (s.place (F.ENG_DESC_W2_ENTRY m) : Int) ≤ (s.core c).pc + off.toInt →
    ((s.core c).pc + off.toInt : Int) < (s.place (F.ENG_DESC_W2_ENTRY m) + s.place (F.ENG_DESC_W2_IMEM_LEN m) : Nat) →
    Answers (.br c pr off) s fun t =>
      (t.core c).half = some ⟨(s.core c).regs, [], 1, .branch ((s.core c).pc + off.toInt).toNat⟩ ∧ Computes c id s t) ∧
  (∀ (s : State) (c m : Nat) (pr : Pred) (off : BitVec 13), Ready s c .s pr → (s.core c).prog = some m →
    ((s.core c).pc + off.toInt : Int) < s.place (F.ENG_DESC_W2_ENTRY m) ∨
      ((s.place (F.ENG_DESC_W2_ENTRY m) + s.place (F.ENG_DESC_W2_IMEM_LEN m) : Nat) : Int) ≤ (s.core c).pc + off.toInt →
    Answers (.br c pr off) s (Traps c id s)) ∧
  (∀ (s : State) (c : Nat) (pr : Pred), Ready s c .s pr →
    Answers (.endEf c pr) s fun t =>
      (t.core c).half = some ⟨(s.core c).regs, [], 1, .endEf⟩ ∧ Computes c id s t) ∧
  (∀ (s : State) (c : Nat) (n : Fin 2) (count : Fin 4096) (body : Fin 256), Ready s c .s .always → body.val ≠ 0 →
    Answers (.loopI c n count body) s fun t =>
      (t.core c).regs = { (s.core c).regs with
        lc := setAt (s.core c).regs.lc n.val (if count.val = 0 then 4096 else count.val) } ∧
      (t.core c).loops = setAt (s.core c).loops n.val ((s.core c).pc + 1, (s.core c).pc + body.val) ∧ CoreOnly c [] s t) ∧
  (∀ (s : State) (c : Nat) (n : Fin 2) (a : D) (top : Fin 4096) (body : Fin 256), Ready s c .s .always → body.val ≠ 0 →
    Answers (.loopR c n a top body) s fun t =>
      (t.core c).regs = { (s.core c).regs with
        lc := setAt (s.core c).regs.lc n.val (min ((s.core c).regs.dv a).toInt.toNat (if top.val = 0 then 4096 else top.val)) } ∧
      (t.core c).loops = setAt (s.core c).loops n.val ((s.core c).pc + 1, (s.core c).pc + body.val) ∧
      (((s.core c).regs.dv a).toInt ≤ 0 →
        (t.core c).half.map (fun h => h.flow) = some (.skip ((s.core c).pc + body.val + 1))) ∧ CoreOnly c [] s t) ∧
  (∀ (s : State) (c m b : Nat) (h : Half), Shaped s → c < s.cores → (s.core c).half = some h → h.flow = .branch b → b < 4096 →
    (s.core c).prog = some m → s.place (F.ENG_DESC_W2_ENTRY m) ≤ b →
    b < s.place (F.ENG_DESC_W2_ENTRY m) + s.place (F.ENG_DESC_W2_IMEM_LEN m) →
    Answers (.nop c .m) s fun t =>
      GoesTo c b t ∧ (t.core c).prog = some m ∧ CoreOnly c [] s t ∧
      (∀ n < 2, (t.core c).regs.lv n =
        if (getAt (s.core c).loops n (0, 0)).1 ≤ b ∧ b ≤ (getAt (s.core c).loops n (0, 0)).2 then (s.core c).regs.lv n else 0)) ∧
  (∀ (s : State) (c m n b : Nat) (h : Half), Shaped s → c < s.cores → (s.core c).half = some h → h.flow = .seq → n < 2 →
    1 < (s.core c).regs.lv n → (s.core c).regs.lv (1 - n) = 0 → (s.core c).regs.lc.length = 2 →
    getAt (s.core c).loops n (0, 0) = (b, (s.core c).pc) → b < 4096 → (s.core c).prog = some m →
    s.place (F.ENG_DESC_W2_ENTRY m) ≤ b → b < s.place (F.ENG_DESC_W2_ENTRY m) + s.place (F.ENG_DESC_W2_IMEM_LEN m) →
    Answers (.nop c .m) s fun t =>
      GoesTo c b t ∧ (t.core c).regs.lv n = (s.core c).regs.lv n - 1 ∧ CoreOnly c [] s t) ∧
  (∀ (s : State) (c m : Nat) (h : Half), Shaped s → c < s.cores → (s.core c).half = some h → h.flow = .endEf →
    (s.core c).prog = some m → (s.core c).xfers = [] → s.stopped c = false →
    (s.progsOf c (s.place (F.ENG_DESC_W0_PHASE m))).filter (fun n => Nat.blt m n) = [] →
    Answers (.nop c .m) s fun t => (t.core c).prog = none ∧ (t.core c).half = none ∧ MemKept s t) ∧
  (∀ (s : State) (c m : Nat) (h : Half), Shaped s → c < s.cores → (s.core c).half = some h → h.flow = .seq →
    (s.core c).regs.lv 0 = 0 → (s.core c).regs.lv 1 = 0 → (s.core c).prog = some m → (s.core c).xfers = [] →
    s.stopped c = false → (s.progsOf c (s.place (F.ENG_DESC_W0_PHASE m))).filter (fun n => Nat.blt m n) = [] →
    (s.core c).pc + 1 = s.place (F.ENG_DESC_W2_ENTRY m) + s.place (F.ENG_DESC_W2_IMEM_LEN m) → (s.core c).pc + 1 < 4096 →
    Answers (.nop c .m) s fun t =>
      (t.core c).prog = none ∧ Counts s t (A.ENG_CORE_ACCESS_TRAPS c) 1 ∧ t.on F.ENG_EVT_ACCESS_TRAP = true ∧ MemKept s t)

/-- Every byte outside a range of the memories reads as before. -/
def MemKeptBut (lo n : Nat) (s t : State) : Prop := ∀ a, a < lo ∨ lo + n ≤ a → t.byte a = s.byte a

/-- An address register after a post-modification, or as it was. -/
def postP (post : Bool) (b : P) (off : BitVec 12) (r : Regs) : Regs :=
  if post then { r with p := setAt r.p b.val (r.pv b + off.signExtend 32) } else r

/-- A store's registers and frame: the bytes stored are those of the address that its operands name (R263). -/
def Stores (c n : Nat) (post : Bool) (b : P) (off : BitVec 12) (s t : State) : Prop :=
  (t.core c).regs = postP post b off (s.core c).regs ∧
    MemKeptBut (coreAdr c (memAddr (s.core c).regs post b off)) n s t ∧
    RegsKept [A.ENG_CORE_STATUS c] s t ∧ (∀ k, k ≠ c → t.core k = s.core k)

/-- Data memory (R227, R263, R276): words and halfwords, loads sign-extended; an access outside STATE and SCRATCH, or
misaligned, traps, and the address register is still updated; a word that an outstanding dly.rd is to fill is free; a corrected
error counts and one that cannot be corrected retires the core. Where the spec leaves it open the statement follows the model's
choices in notes/assumptions/52.md, 53.md. -/
def Obligations.DataMemory : Prop :=
  (∀ (s : State) (c : Nat) (pr : Pred) (post : Bool) (d : D) (b : P) (off : BitVec 12), Ready s c .s pr →
    s.dataOk c (memAddr (s.core c).regs post b off) 4 = true →
    s.awaited c (memAddr (s.core c).regs post b off) 4 = false →
    Answers (.ldW c pr post d b off .clean) s (Computes c (fun r =>
      postP post b off (toD d (fun r => s.memWord (coreAdr c (memAddr r post b off))) r)) s)) ∧
  (∀ (s : State) (c : Nat) (pr : Pred) (post : Bool) (d : D) (b : P) (off : BitVec 12), Ready s c .s pr →
    s.dataOk c (memAddr (s.core c).regs post b off) 2 = true →
    s.awaited c (memAddr (s.core c).regs post b off) 2 = false →
    Answers (.ldH c pr post d b off .clean) s (Computes c (fun r =>
      postP post b off (toD d (fun r => (s.memHalf (coreAdr c (memAddr r post b off))).signExtend 32) r)) s)) ∧
  (∀ (s : State) (c : Nat) (pr : Pred) (post : Bool) (d : D) (b : P) (off : BitVec 12), Ready s c .s pr →
    s.dataOk c (memAddr (s.core c).regs post b off) 4 = true → s.awaited c (memAddr (s.core c).regs post b off) 4 = true →
    Answers (.ldW c pr post d b off .clean) s fun t =>
      (t.core c).regs = postP post b off (toD d (fun _ => BitVec.ofNat 32 (s.free 32).1) (s.core c).regs) ∧
      (t.core c).prog = (s.core c).prog ∧ (t.core c).xfers = (s.core c).xfers ∧ (∀ k, k ≠ c → t.core k = s.core k) ∧
      Framed [A.ENG_CORE_STATUS c] [.eng, .free] s t) ∧
  (∀ (s : State) (c : Nat) (pr : Pred) (post : Bool) (d : D) (b : P) (off : BitVec 12), Ready s c .s pr →
    s.dataOk c (memAddr (s.core c).regs post b off) 2 = true → s.awaited c (memAddr (s.core c).regs post b off) 2 = true →
    Answers (.ldH c pr post d b off .clean) s fun t =>
      (t.core c).regs = postP post b off (toD d (fun _ => (BitVec.ofNat 16 (s.free 16).1).signExtend 32) (s.core c).regs) ∧
      (t.core c).prog = (s.core c).prog ∧ (t.core c).xfers = (s.core c).xfers ∧ (∀ k, k ≠ c → t.core k = s.core k) ∧
      Framed [A.ENG_CORE_STATUS c] [.eng, .free] s t) ∧
  (∀ (s : State) (c : Nat) (pr : Pred) (post : Bool) (d : D) (b : P) (off : BitVec 12) (e : Ecc), Ready s c .s pr →
    s.dataOk c (memAddr (s.core c).regs post b off) 4 = false →
    Answers (.ldW c pr post d b off e) s (Traps c (fun r => postP post b off (toD d (fun _ => 0) r)) s)) ∧
  (∀ (s : State) (c : Nat) (pr : Pred) (post : Bool) (d : D) (b : P) (off : BitVec 12) (e : Ecc), Ready s c .s pr →
    s.dataOk c (memAddr (s.core c).regs post b off) 2 = false →
    Answers (.ldH c pr post d b off e) s (Traps c (fun r => postP post b off (toD d (fun _ => 0) r)) s)) ∧
  (∀ (s : State) (c : Nat) (pr : Pred) (post : Bool) (d : D) (b : P) (off : BitVec 12), Ready s c .s pr →
    s.dataOk c (memAddr (s.core c).regs post b off) 4 = true →
    Answers (.stW c pr post d b off .clean) s fun t =>
      t.memWord (coreAdr c (memAddr (s.core c).regs post b off)) = (s.core c).regs.dv d ∧ Stores c 4 post b off s t) ∧
  (∀ (s : State) (c : Nat) (pr : Pred) (post : Bool) (d : D) (b : P) (off : BitVec 12), Ready s c .s pr →
    s.dataOk c (memAddr (s.core c).regs post b off) 2 = true →
    Answers (.stH c pr post d b off .clean) s fun t =>
      t.memHalf (coreAdr c (memAddr (s.core c).regs post b off)) = ((s.core c).regs.dv d).extractLsb' 0 16 ∧
      Stores c 2 post b off s t) ∧
  (∀ (s : State) (c : Nat) (pr : Pred) (post : Bool) (d : D) (b : P) (off : BitVec 12) (e : Ecc), Ready s c .s pr →
    s.dataOk c (memAddr (s.core c).regs post b off) 4 = false →
    Answers (.stW c pr post d b off e) s (Traps c (postP post b off) s)) ∧
  (∀ (s : State) (c : Nat) (pr : Pred) (post : Bool) (d : D) (b : P) (off : BitVec 12) (e : Ecc), Ready s c .s pr →
    s.dataOk c (memAddr (s.core c).regs post b off) 2 = false →
    Answers (.stH c pr post d b off e) s (Traps c (postP post b off) s)) ∧
  (∀ (s : State) (c : Nat) (pr : Pred) (post : Bool) (d : D) (b : P) (off : BitVec 12), Ready s c .s pr →
    s.dataOk c (memAddr (s.core c).regs post b off) 4 = true →
    s.awaited c (memAddr (s.core c).regs post b off) 4 = false →
    Answers (.ldW c pr post d b off .single) s fun t =>
      (t.core c).regs = postP post b off (toD d (fun r => s.memWord (coreAdr c (memAddr r post b off))) (s.core c).regs) ∧
      Counts s t (A.ENG_CORE_CNT_ECC_CORR c) 1 ∧ t.on F.ENG_EVT_ECC_CORR = true ∧ MemKept s t) ∧
  (∀ (s : State) (c : Nat) (pr : Pred) (post : Bool) (d : D) (b : P) (off : BitVec 12), Ready s c .s pr →
    s.dataOk c (memAddr (s.core c).regs post b off) 4 = true → s.coreState c ≠ 6 →
    Answers (.stW c pr post d b off .double) s fun t =>
      t.coreState c = 6 ∧ t.fld (F.ENG_CORE_STATUS_CAUSE c) = 3 ∧ t.on F.ENG_EVT_RETIRED = true ∧
      (s.eng.comp = none → MemKept s t))

/-- A cursor's register after its instruction (R265). -/
def curP (s : State) (b : P) (mode : Q) (r : Regs) : Regs :=
  if mode.val = 0 then r else { r with p := setAt r.p b.val (s.curStep (r.pv b) mode.val) }

/-- Bus memory and delay lines (R264 to R267, R276, R281): bus.ld and bus.st reach a sample through a cursor, and trap beyond
their reach; dly.rd and dly.wr issue transfers, which complete in order; and with no EF under computation none of them is
performed. Where the spec leaves it open the statement follows the model's choices in notes/assumptions/52.md. -/
def Obligations.BusAndDelay : Prop :=
  (∀ (s : State) (c : Nat) (pr : Pred) (d : D) (b : P) (mode : Q) (rel : Fin 3),
    Means c .s (fmtR 0x14 pr d.val b.val 0 (4 * mode.val + rel.val)) (.busLd c pr d b mode rel) ∧
    (Ready s c .s pr → s.computing c = true → s.cursorOk ((s.core c).regs.pv b) = true →
      Answers (.busLd c pr d b mode rel) s (Computes c (fun r => curP s b mode (toD d (fun r =>
        s.sample (curSlot (r.pv b)) (((s.curEf : Int) - rel.val) * s.efLen + curK (r.pv b))) r)) s)) ∧
    (Ready s c .s pr → s.computing c = true → s.cursorOk ((s.core c).regs.pv b) = false →
      Answers (.busLd c pr d b mode rel) s (Traps c (fun r => curP s b mode (toD d (fun _ => 0) r)) s)) ∧
    (Ready s c .s pr → s.computing c = false →
      Answers (.busLd c pr d b mode rel) s (Computes c (fun r => curP s b mode (toD d (fun _ => 0) r)) s))) ∧
  (∀ (s : State) (c : Nat) (pr : Pred) (d : D) (b : P) (mode : Q),
    Means c .s (fmtR 0x15 pr d.val b.val 0 (4 * mode.val)) (.busSt c pr d b mode) ∧
    (Ready s c .s pr → s.computing c = true → s.cursorOk ((s.core c).regs.pv b) = true →
      s.inOut c (curSlot ((s.core c).regs.pv b)) = true →
      Answers (.busSt c pr d b mode) s fun t =>
        t.memWord (s.busAdr (curSlot ((s.core c).regs.pv b)) (s.curEf * s.efLen + curK ((s.core c).regs.pv b) : Nat)) =
          (s.core c).regs.dv d ∧
        (t.core c).regs = curP s b mode (s.core c).regs ∧
        MemKeptBut (s.busAdr (curSlot ((s.core c).regs.pv b)) (s.curEf * s.efLen + curK ((s.core c).regs.pv b) : Nat)) 4 s t ∧
        RegsKept [A.ENG_CORE_STATUS c] s t) ∧
    (Ready s c .s pr → s.computing c = true →
      s.cursorOk ((s.core c).regs.pv b) = false ∨ s.inOut c (curSlot ((s.core c).regs.pv b)) = false →
      Answers (.busSt c pr d b mode) s (Traps c (curP s b mode) s)) ∧
    (Ready s c .s pr → s.computing c = false → Answers (.busSt c pr d b mode) s (Computes c (curP s b mode) s))) ∧
  (∀ (s : State) (c : Nat) (pr : Pred) (b : P) (line n : D), Ready s c .s pr →
    s.delayOk ((s.core c).regs.dv line).toNat ((s.core c).regs.dv n).toInt = true →
    lowAddr ((s.core c).regs.pv b) % 4 = 0 → s.inScratch c (lowAddr ((s.core c).regs.pv b)) (4 * s.efLen) = true →
    s.computing c = true → (s.core c).xfers.length < 4 →
    Answers (.dlyRd c pr b line n) s fun t =>
      (t.core c).xfers = (s.core c).xfers ++ [⟨((s.core c).regs.dv line).toNat, s.curEf * s.efLen,
        lowAddr ((s.core c).regs.pv b), true, [(s.core c).regs.dv n]⟩] ∧
      (t.core c).regs = (s.core c).regs ∧ CoreOnly c [] s t) ∧
  (∀ (s : State) (c : Nat) (pr : Pred) (b : P) (line n : D), Ready s c .s pr → s.computing c = true →
    s.delayOk ((s.core c).regs.dv line).toNat ((s.core c).regs.dv n).toInt = false ∨ lowAddr ((s.core c).regs.pv b) % 4 ≠ 0 ∨
      s.inScratch c (lowAddr ((s.core c).regs.pv b)) (4 * s.efLen) = false →
    Answers (.dlyRd c pr b line n) s (Traps c id s)) ∧
  (∀ (s : State) (c : Nat) (pr : Pred) (b : P) (line : D), Ready s c .s pr → s.computing c = true →
    s.inDly c ((s.core c).regs.dv line).toNat = true → s.blockOkAt c (lowAddr ((s.core c).regs.pv b)) s.efLen = true →
    (s.core c).xfers.length < 4 →
    Answers (.dlyWr c pr b line) s fun t =>
      (∃ ws, (t.core c).xfers = (s.core c).xfers ++ [⟨((s.core c).regs.dv line).toNat, s.curEf * s.efLen,
        lowAddr ((s.core c).regs.pv b), false, ws⟩] ∧ ws.length = s.efLen ∧
        ∀ j < s.efLen, s.awaited c (lowAddr ((s.core c).regs.pv b) + 4 * j) 4 = false →
          getAt ws j 0 = s.memWord (coreAdr c (lowAddr ((s.core c).regs.pv b) + 4 * j))) ∧
      (t.core c).regs = (s.core c).regs ∧ (∀ k, k ≠ c → t.core k = s.core k) ∧
      Framed [A.ENG_CORE_STATUS c] [.eng, .free] s t ∧
      (s.awaited c (lowAddr ((s.core c).regs.pv b)) (4 * s.efLen) = false → CoreOnly c [] s t)) ∧
  (∀ (s : State) (c : Nat) (pr : Pred) (b : P) (line : D), Ready s c .s pr → s.computing c = true →
    s.inDly c ((s.core c).regs.dv line).toNat = false ∨ s.blockOkAt c (lowAddr ((s.core c).regs.pv b)) s.efLen = false →
    Answers (.dlyWr c pr b line) s (Traps c id s)) ∧
  (∀ (s : State) (c : Nat) (pr : Pred), Ready s c .s pr →
    Answers (.dlyWait c pr) s fun t =>
      (t.core c).xfers = [] ∧ (t.core c).regs = (s.core c).regs ∧ ((s.core c).xfers = [] → Computes c id s t)) ∧
  (∀ (s : State) (c dt : Nat) (x : Xfer) (l : List Xfer), Shaped s → c < s.cores → (s.core c).xfers = x :: l → x.read = true →
    x.adr + 4 * s.efLen ≤ 65536 →
    Answers (.dlyTransferComplete c 0 [] dt) s fun t =>
      (t.core c).xfers = l ∧ (t.core c).regs = (s.core c).regs ∧
      (∀ j < s.efLen, t.memWord (coreAdr c x.adr + 4 * j) =
        s.dlySample x.line ((x.pos : Int) - (getAt x.words 0 0).toNat + j)) ∧
      MemKeptBut (coreAdr c x.adr) (4 * s.efLen) s t ∧ RegsKept timeRegs s t) ∧
  (∀ (s : State) (c dt : Nat), c < s.cores → (s.core c).xfers = [] →
    Answers (.dlyTransferComplete c 0 [] dt) s (Framed timeRegs [.time, .clk, .mgmt] s))

/-- Tables, control blocks and messages (R268, R269, R272, R276, R281): a table word is read; a control write acts at once on
the crosspoints and is staged for the rest; a message is staged with its body; and what fails its check traps. Where the spec
leaves it open the statement follows the model's choices in notes/assumptions/52.md. -/
def Obligations.TablesAndControls : Prop :=
  (∀ (s : State) (c : Nat) (pr : Pred) (d a : D), Means c .s (fmtR 0x19 pr d.val a.val 0 0) (.tblLd c pr d a) ∧
    (Ready s c .s pr → s.computing c = true → ((s.core c).regs.dv a).toNat < 2 ^ 20 → ((s.core c).regs.dv a).toNat % 4 = 0 →
      Answers (.tblLd c pr d a) s (Computes c (toD d fun r => s.reg (0x100000 + (r.dv a).toNat)) s)) ∧
    (Ready s c .s pr → s.computing c = true → 2 ^ 20 ≤ ((s.core c).regs.dv a).toNat ∨ ((s.core c).regs.dv a).toNat % 4 ≠ 0 →
      Answers (.tblLd c pr d a) s (Traps c (toD d fun _ => 0) s)) ∧
    (Ready s c .s pr → s.computing c = false → Answers (.tblLd c pr d a) s (Computes c (toD d fun _ => 0) s))) ∧
  (∀ (s : State) (c k : Nat) (pr : Pred) (f : Q) (a v : D), Ready s c .s pr → s.computing c = true →
    s.eng.xrange.1 ≤ k → k < s.eng.xrange.1 + s.eng.xrange.2 → k < 2 ^ 14 → ((s.core c).regs.dv a).toNat = 2 ^ 28 + k →
    Answers (.ctlWr c pr f a v) s fun t =>
      t.reg (A.TBL_XP_W1 k) = (s.core c).regs.dv v ∧ (t.core c).regs = toF f (fun _ => true) (s.core c).regs ∧
      CoreOnly c [A.TBL_XP_W1 k] s t) ∧
  (∀ (s : State) (c k : Nat) (pr : Pred) (f : Q) (a v : D), Ready s c .s pr → s.computing c = true →
    s.eng.xrange.1 ≤ k → k < s.eng.xrange.1 + s.eng.xrange.2 → k < 2 ^ 14 → ((s.core c).regs.dv a).toNat = 2 * 2 ^ 28 + k →
    Answers (.ctlWr c pr f a v) s fun t =>
      t.fld (F.TBL_XP_W2_RAMP_LEN k) = ((s.core c).regs.dv v).toNat % 8192 ∧
      t.fld (F.TBL_XP_W2_REMAIN k) = s.fld (F.TBL_XP_W2_REMAIN k) ∧
      (t.core c).regs = toF f (fun _ => true) (s.core c).regs ∧ CoreOnly c [A.TBL_XP_W2 k] s t) ∧
  (∀ (s : State) (c k w : Nat) (pr : Pred) (f : Q) (a v : D), Ready s c .s pr → s.computing c = true → k < s.limiters → w < 4 →
    ((s.core c).regs.dv a).toNat = 3 * 2 ^ 28 + 4 * k + w → s.play.cleat ≤ s.curEf →
    (s.play.staging.filter stagedCtl).length < 1024 →
    Answers (.ctlWr c pr f a v) s fun t =>
      t.play.staging = s.play.staging ++ [⟨s.curEf, .lim k w ((s.core c).regs.dv v)⟩] ∧
      (t.core c).regs = toF f (fun _ => true) (s.core c).regs ∧ RegsKept [A.ENG_CORE_STATUS c] s t ∧ MemKept s t) ∧
  (∀ (s : State) (c k w : Nat) (pr : Pred) (f : Q) (a v : D), Ready s c .s pr → s.computing c = true → k < s.lines → w < 8 →
    ((s.core c).regs.dv a).toNat = 4 * 2 ^ 28 + 8 * k + w → s.play.cleat ≤ s.curEf →
    1024 ≤ (s.play.staging.filter stagedCtl).length →
    Answers (.ctlWr c pr f a v) s fun t =>
      t.play.staging = s.play.staging ∧ Counts s t A.PLAY_STAGE_DROP 1 ∧ t.on F.PLAY_EVT_STAGE_FULL = true ∧
      (t.core c).regs = toF f (fun _ => false) (s.core c).regs ∧ MemKept s t) ∧
  (∀ (s : State) (c m : Nat) (pr : Pred) (f : Q) (a v : D), Ready s c .s pr → s.computing c = true → (s.core c).prog = some m →
    ((s.core c).regs.dv a).toNat = 6 * 2 ^ 28 → s.curEf < s.play.cleat →
    Answers (.ctlWr c pr f a v) s (Computes c (toF f fun _ => false) s)) ∧
  (∀ (s : State) (c : Nat) (pr : Pred) (f : Q) (a v : D), Ready s c .s pr → s.computing c = true →
    ((s.core c).regs.dv a).toNat / 2 ^ 28 ∈ [0, 5, 7, 8, 9, 10, 11, 12, 13, 14, 15] →
    Answers (.ctlWr c pr f a v) s (Traps c (toF f fun _ => false) s)) ∧
  (∀ (s : State) (c : Nat) (pr : Pred) (f : Q) (a v : D), Ready s c .s pr → s.computing c = false →
    Answers (.ctlWr c pr f a v) s (Computes c (toF f fun _ => false) s)) ∧
  (∀ (s : State) (c m : Nat) (pr : Pred) (f : Q) (b : P) (h : D) (words : Fin 1024), Ready s c .s pr → s.computing c = true →
    1 < words.val → (s.core c).prog = some m → s.blockOkAt c (lowAddr ((s.core c).regs.pv b)) words.val = true →
    s.play.cleat ≤ s.curEf → (s.play.staging.map stagedBytes).sum + 4 * words.val ≤ 32768 →
    Answers (.msgPush c pr f b h words) s fun t =>
      (∃ x, t.play.staging = s.play.staging ++ [⟨s.curEf, .msg x⟩] ∧ x.queue = ((s.core c).regs.dv h).toNat / 2 ^ 30 ∧
        x.prio = ((s.core c).regs.dv h).toNat / 2 ^ 27 % 8 ∧ x.core = c ∧ x.desc = m ∧ x.ef = s.curEf % 2 ^ 32 ∧
        x.body.length = words.val ∧
        ∀ j < words.val, s.awaited c (lowAddr ((s.core c).regs.pv b) + 4 * j) 4 = false →
          getAt x.body j 0 = s.memWord (coreAdr c (lowAddr ((s.core c).regs.pv b) + 4 * j))) ∧
      (t.core c).regs = toF f (fun _ => true) (s.core c).regs ∧ RegsKept [A.ENG_CORE_STATUS c] s t ∧ MemKept s t) ∧
  (∀ (s : State) (c : Nat) (pr : Pred) (f : Q) (b : P) (h : D), Ready s c .s pr → s.computing c = true →
    Answers (.msgPush c pr f b h 1) s (Traps c (toF f fun _ => false) s)) ∧
  (∀ (s : State) (c : Nat) (pr : Pred) (f : Q) (b : P) (h : D) (words : Fin 1024), Ready s c .s pr → s.computing c = false →
    Answers (.msgPush c pr f b h words) s (Computes c (toF f fun _ => false) s))

/-- Decoding what an instruction is encoded as gives the instruction back, with every operand at every value the encoding admits, in
every slot the opcode map gives it: a loop of no bundles is undefined, and a memory access's error finding is no part of its word
(R248 to R256, R263 to R275). -/
def Obligations.DecodeOfEncode : Prop :=
  ∀ (i : Instr) (w : Nat), encodeAcson i = some w →
    (∀ c n count, i ≠ .loopI c n count 0) → (∀ c n a top, i ≠ .loopR c n a top 0) →
    ∃ c sl j, decodeWord c sl w = some j ∧ (j = i ∨
      ∃ pr post d b off, (∃ e, i = .ldW c pr post d b off e ∧ j = .ldW c pr post d b off .clean) ∨
        (∃ e, i = .stW c pr post d b off e ∧ j = .stW c pr post d b off .clean) ∨
        (∃ e, i = .ldH c pr post d b off e ∧ j = .ldH c pr post d b off .clean) ∨
        (∃ e, i = .stH c pr post d b off e ∧ j = .stH c pr post d b off .clean))

/-! ### Cores, placements and the image loader (spec chapters 7 and 9) -/

/-- The registers that a placement's words lie in, with the states of the cores. -/
def placeRegs (s : State) : List Nat :=
  placeAdrs s.cores ++ (List.range s.cores).map fun c => A.ENG_CORE_STATUS c

/-- A placement is operative: SPAN, the certified cycles, and the descriptors, with PLACED for each present program that is not dropped
on a core that is neither OFF nor RETIRED. -/
def Operative (s t : State) (l : List (Nat × Word)) : Prop :=
  t.rd A.ENG_SPAN = plW l A.ENG_SPAN ∧ (∀ c < s.cores, t.rd (A.ENG_CORE_CERT c) = plW l (A.ENG_CORE_CERT c)) ∧
    (∀ m < 64, ∀ k < 8, k ≠ 0 → t.rd (A.ENG_DESC_W0 m + 4 * k) = plW l (A.ENG_DESC_W0 m + 4 * k)) ∧
    (∀ m < 64, let w := plW l (A.ENG_DESC_W0 m)
      t.fld (F.ENG_DESC_W0_CORE m) = (F.ENG_DESC_W0_CORE m).of w ∧ t.fld (F.ENG_DESC_W0_PHASE m) = (F.ENG_DESC_W0_PHASE m).of w ∧
      t.on (F.ENG_DESC_W0_EN m) = w.testBit 31 ∧ t.on (F.ENG_DESC_W0_DROPPED m) = w.testBit 29 ∧
      t.on (F.ENG_DESC_W0_PLACED m) = (w.testBit 31 && !w.testBit 29 && s.coreUsable ((F.ENG_DESC_W0_CORE m).of w)))

/-- Cores and placements (R226, R230 to R238): a commit is operative at once with the trigger stopped and waits for its apply EF
while it runs; overruns, forced halts and the third one in a row; STOP, STEP, RESUME, RETIRE and CLEAR_RETIRE in the states that
take them and their refusal in the others; core memory; XPT_SLOT; and a re-mapping. Where the spec leaves it open the statement
follows the model's choices in notes/assumptions/50.md, 51.md. -/
def Obligations.CoresAndPlacements : Prop :=
  (∀ (s : State) (m : Master) (priv : Bool), Direct s m priv A.ENG_PLACE_CTL → s.play.running = false →
    Answers (.placeCommit m priv) s fun t =>
      Operative s t (s.nextPlacement []) ∧ t.on F.ENG_PLACE_CTL_PENDING = false ∧
      t.fld F.PLAY_RW_COST_NS = rwOf (t.fld F.ENG_SPAN_NS) ∧ t.eng.waiting = none ∧ t.eng.old = [] ∧
      Framed (placeRegs s ++ [A.ENG_PLACE_CTL, A.PLAY_RW_COST]) [.eng] s t) ∧
  (∀ (s : State) (m : Master) (priv : Bool), Direct s m priv A.ENG_PLACE_CTL → s.play.running = true →
    Answers (.placeCommit m priv) s fun t =>
      t.eng.waiting = some (s.applyEf, s.nextPlacement []) ∧ t.on F.ENG_PLACE_CTL_PENDING = true ∧
      t.fld F.PLAY_RW_COST_NS = max (s.fld F.PLAY_RW_COST_NS) (rwOf (plW (s.nextPlacement []) A.ENG_SPAN % 2 ^ 24)) ∧
      s.play.head ≤ s.applyEf ∧ Framed [A.ENG_PLACE_CTL, A.PLAY_RW_COST] [.eng] s t) ∧
  (∀ (s : State) (ap : Nat) (l : List (Nat × Word)), s.eng.waiting = some (ap, l) → l.map Prod.fst = placeAdrs s.cores →
    s.eng.comp = none → s.play.running = true → ap ≤ s.nextEf → s.eng.oldInstall = false → s.fld F.ENG_IMG_STATUS_STATE ≠ 4 →
    Answers .placementApply s fun t =>
      Operative s t l ∧ t.on F.ENG_PLACE_CTL_PENDING = false ∧ t.eng.waiting = none ∧
      t.eng.old = s.eng.old ++ [(ap, s.opPlacement)] ∧
      Framed (placeRegs s ++ [A.ENG_PLACE_CTL]) [.eng, .proof] s t) ∧
  (∀ (s : State) (c : Nat) (k : Comp), c < s.cores → s.eng.comp = some k → s.working c = true → k.overrun.testBit c = false →
    Answers (.coreOverrun c) s fun t =>
      Counts s t (A.ENG_CORE_OVERRUNS c) 1 ∧ t.on F.ENG_EVT_OVERRUN = true ∧ t.core c = s.core c ∧
      Framed [A.ENG_CORE_OVERRUNS c, A.ENG_CORE_SAT c, A.ENG_EVT] [.eng] s t) ∧
  (∀ (s : State) (c : Nat), Shaped s → c < s.cores → s.working c = true → s.fld (F.ENG_CORE_STATUS_CONSEC c) < 2 →
    Answers (.forcedHalt c) s fun t =>
      Counts s t (A.ENG_CORE_FORCED_HALTS c) 1 ∧ t.on F.ENG_EVT_FORCED_HALT = true ∧ t.fld (F.ENG_CORE_STATUS_CAUSE c) = 5 ∧
      t.fld (F.ENG_CORE_STATUS_CONSEC c) = s.fld (F.ENG_CORE_STATUS_CONSEC c) + 1 ∧ t.coreState c = s.coreState c ∧
      (t.core c).prog = none ∧ t.computing c = false ∧
      RegsKept [A.ENG_CORE_FORCED_HALTS c, A.ENG_CORE_SAT c, A.ENG_EVT, A.ENG_CORE_STATUS c] s t) ∧
  (∀ (s : State) (c : Nat), c < s.cores → s.working c = true → s.coreState c ≠ 6 → s.fld (F.ENG_CORE_STATUS_CONSEC c) = 2 →
    Answers (.forcedHalt c) s fun t =>
      t.coreState c = 6 ∧ t.fld (F.ENG_CORE_STATUS_CAUSE c) = 2 ∧ t.fld (F.ENG_CORE_STATUS_CONSEC c) = 3 ∧
      t.on F.ENG_EVT_RETIRED = true ∧ (c, 2) ∈ t.mgmt.retiredCores) ∧
  (∀ (s : State) (c p : Nat) (l : List Nat) (m : Master) (priv : Bool), Shaped s → c < s.cores → Direct s m priv (A.ENG_CORE_CTL c) →
    s.coreState c = 3 → s.progsAll c = p :: l →
    Answers (.coreStop c m priv) s fun t =>
      t.coreState c = 5 ∧ t.fld (F.ENG_CORE_STATUS_PC c) = s.place (F.ENG_DESC_W2_ENTRY p) ∧ (t.core c).prog = some p ∧
      (t.core c).regs = s.entryRegs c p ∧ CoreOnly c [] s t) ∧
  (∀ (s : State) (c : Nat) (m : Master) (priv : Bool), c < s.cores → Direct s m priv (A.ENG_CORE_CTL c) → s.coreState c ≠ 3 →
    Answers (.coreStop c m priv) s fun t => t.on F.ENG_EVT_CTL_REFUSED = true ∧ Framed [A.ENG_EVT] [] s t) ∧
  (∀ (s : State) (c p : Nat) (m : Master) (priv : Bool), Shaped s → c < s.cores → Direct s m priv (A.ENG_CORE_CTL c) →
    s.coreState c = 5 → (s.core c).half = none → (s.core c).regs.lv 0 = 0 → (s.core c).regs.lv 1 = 0 → (s.core c).xfers = [] →
    (s.core c).prog = some p → (s.core c).pc + 1 < 4096 → s.place (F.ENG_DESC_W2_ENTRY p) ≤ (s.core c).pc + 1 →
    (s.core c).pc + 1 < s.place (F.ENG_DESC_W2_ENTRY p) + s.place (F.ENG_DESC_W2_IMEM_LEN p) →
    s.bundle c (s.core c).pc = (0, 0) →
    Answers (.coreStep c m priv) s fun t =>
      GoesTo c ((s.core c).pc + 1) t ∧ t.fld (F.ENG_CORE_STATUS_PC c) = (s.core c).pc + 1 ∧ t.coreState c = 5 ∧
      (t.core c).regs = (s.core c).regs ∧ (t.core c).prog = some p ∧ CoreOnly c [] s t) ∧
  (∀ (s : State) (c : Nat) (m : Master) (priv : Bool), c < s.cores → Direct s m priv (A.ENG_CORE_CTL c) → s.coreState c ≠ 5 →
    Answers (.coreStep c m priv) s fun t => t.on F.ENG_EVT_CTL_REFUSED = true ∧ Framed [A.ENG_EVT] [] s t) ∧
  (∀ (s : State) (c : Nat) (m : Master) (priv : Bool), Shaped s → c < s.cores → Direct s m priv (A.ENG_CORE_CTL c) →
    s.coreState c = 5 →
    Answers (.coreResume c m priv) s fun t => t.coreState c = 3 ∧ (t.core c).prog = none ∧ CoreOnly c [] s t) ∧
  (∀ (s : State) (c : Nat) (m : Master) (priv : Bool), c < s.cores → Direct s m priv (A.ENG_CORE_CTL c) → s.coreState c ≠ 5 →
    Answers (.coreResume c m priv) s fun t => t.on F.ENG_EVT_CTL_REFUSED = true ∧ Framed [A.ENG_EVT] [] s t) ∧
  (∀ (s : State) (c : Nat) (m : Master) (priv : Bool), c < s.cores → Direct s m priv (A.ENG_CORE_CTL c) → s.coreState c ≠ 0 →
    s.coreState c ≠ 6 →
    Answers (.coreRetire c m priv) s fun t =>
      t.coreState c = 6 ∧ t.fld (F.ENG_CORE_STATUS_CAUSE c) = 4 ∧ t.on F.ENG_EVT_RETIRED = true ∧
      (∀ p < 64, s.fld (F.ENG_DESC_W0_CORE p) = c → t.on (F.ENG_DESC_W0_PLACED p) = false) ∧ (c, 4) ∈ t.mgmt.retiredCores ∧
      Framed ([A.ENG_CORE_STATUS c, A.ENG_EVT, A.MGMT_EVT, A.MGMT_CFG_STATUS] ++ (List.range 64).map fun p => A.ENG_DESC_W0 p)
        [.eng, .mgmt] s t) ∧
  (∀ (s : State) (c : Nat) (m : Master) (priv : Bool), c < s.cores → Direct s m priv (A.ENG_CORE_CTL c) →
    s.coreState c = 0 ∨ s.coreState c = 6 →
    Answers (.coreRetire c m priv) s fun t => t.on F.ENG_EVT_CTL_REFUSED = true ∧ Framed [A.ENG_EVT] [] s t) ∧
  (∀ (s : State) (c : Nat) (m : Master) (priv : Bool), c < s.cores → Direct s m priv (A.ENG_CORE_CTL c) → s.coreState c = 6 →
    s.bitOf F.TEST_QUEUED_MASK (12 + c / 4) = false → s.test.running ≠ some (12 + c / 4) →
    Answers (.coreClearRetire c m priv) s fun t =>
      t.coreState c = 1 ∧ t.bitOf F.TEST_QUEUED_MASK (12 + c / 4) = true ∧ t.fld (F.TEST_RES_W0_STATE (12 + c / 4)) = 1 ∧
      t.fld (F.TEST_RES_W0_ORIGIN (12 + c / 4)) = 5 ∧
      Framed [A.ENG_CORE_STATUS c, A.TEST_QUEUED, A.TEST_RES_W0 (12 + c / 4)] [.test] s t) ∧
  (∀ (s : State) (c : Nat) (m : Master) (priv : Bool), c < s.cores → Direct s m priv (A.ENG_CORE_CTL c) → s.coreState c ≠ 6 →
    Answers (.coreClearRetire c m priv) s fun t => t.on F.ENG_EVT_CTL_REFUSED = true ∧ Framed [A.ENG_EVT] [] s t) ∧
  (∀ (s : State) (c : Nat) (off : Fin 0x20000) (m : Master) (priv : Bool) (w : Word), c < s.cores → off.val % 4 = 0 →
    0x8000 ≤ off.val → off.val < 0xC000 → s.unitAwake (8 + c / 4) = true → s.blockOk (12 + c / 4) = true →
    Answers (.coreMemoryWrite c off (whole m priv w)) s fun t =>
      t.memWord (coreBase c + off.val) = w ∧ MemKeptBut (coreBase c + off.val) 4 s t ∧ RegsKept [] s t ∧
      (∀ (k e : Nat) (v : Snap), getAt s.play.hitches k none = some (e, v) →
        ∃ u, getAt t.play.hitches k none = some (e, u) ∧
          ∀ j < 4, Sparse.find u.core (coreBase c + off.val + j) =
            if w.extractLsb' (8 * j) 8 = 0 then none else some (w.extractLsb' (8 * j) 8))) ∧
  (∀ (s : State) (c : Nat) (off : Fin 0x20000) (m : Master) (priv : Bool) (w : Word), c < s.cores → off.val % 4 = 0 →
    off.val < 0x8000 ∨ (0x10000 ≤ off.val ∧ off.val < 0x18000 ∧ s.masterPriv m priv = true) → s.pwr.trig = false →
    s.unitAwake (8 + c / 4) = true → s.blockOk (12 + c / 4) = true →
    Answers (.coreMemoryWrite c off (whole m priv w)) s fun t =>
      t.memWord (coreBase c + off.val) = w ∧ MemKeptBut (coreBase c + off.val) 4 s t ∧ RegsKept [] s t) ∧
  (∀ (s : State) (c : Nat) (off : Fin 0x20000) (m : Master) (priv : Bool) (w : Word), c < s.cores → off.val % 4 = 0 →
    off.val < 0x8000 ∨ (0x10000 ≤ off.val ∧ off.val < 0x18000 ∧ s.masterPriv m priv = true ∧ s.inOperative c off.val = true) →
    s.pwr.trig = true → s.unitAwake (8 + c / 4) = true → s.blockOk (12 + c / 4) = true →
    Answers (.coreMemoryWrite c off (whole m priv w)) s fun t => t.on F.ENG_EVT_IMEM_REFUSED = true ∧ Framed [A.ENG_EVT] [] s t) ∧
  (∀ (s : State) (m : Master) (priv : Bool) (w : Word), Direct s m priv A.ENG_CFG → AsItReads s A.ENG_CFG w →
    s.pwr.trig = false ∨ F.ENG_CFG_XPT_SLOT.of w.toNat = s.fld F.ENG_CFG_XPT_SLOT →
    Answers (.engCfgWrite (whole m priv w)) s fun t => t.reg A.ENG_CFG = w ∧ Framed [A.ENG_CFG] [] s t) ∧
  (∀ (s : State) (m : Master) (priv : Bool) (w : Word), Direct s m priv A.ENG_CFG → AsItReads s A.ENG_CFG w →
    s.pwr.trig = true → F.ENG_CFG_XPT_SLOT.of w.toNat ≠ s.fld F.ENG_CFG_XPT_SLOT →
    Answers (.engCfgWrite (whole m priv w)) s fun t =>
      t.fld F.ENG_CFG_XPT_SLOT = s.fld F.ENG_CFG_XPT_SLOT ∧ t.fld F.ENG_CFG_REMAP_EN = F.ENG_CFG_REMAP_EN.of w.toNat ∧
      t.on F.ENG_EVT_CFG_REFUSED = true ∧ Framed [A.ENG_CFG, A.ENG_EVT] [] s t) ∧
  (∀ s : State, s.eng.remap ≠ 0 →
    Answers .remap s fun t => t.eng.remap = 0 ∧ Counts s t A.ENG_REMAPS 1 ∧ t.on F.ENG_EVT_REMAPPED = true) ∧
  (∀ s : State, s.eng.remap = 0 → Answers .remap s fun t => Framed [] [] s t)

/-- The checks refuse the image, or pass it: the loader's state, why, and that a CHECK or INSTALL has ended. -/
def ImgEnds (st why : Nat) (t : State) : Prop :=
  t.fld F.ENG_IMG_STATUS_STATE = st ∧ t.fld F.ENG_IMG_STATUS_WHY = why ∧ t.on F.ENG_IMG_STATUS_DONE = true ∧ t.eng.work = .none

/-- The loader keeps its state, and the module all of its own. -/
def Untouched (i : Instr) (s : State) : Prop := Answers i s fun t => Framed [] [] s t

/-- The image loader (R287 to R295): BEGIN empties the buffer; a word is appended while it receives, the first beyond 262,144
refuses the image, and elsewhere none is taken; CHECK and INSTALL start the checks, but not while checks run or an install is
held; the checks refuse with the reason of the first that fails, end a CHECK, hold an INSTALL, or install, at once with the
trigger stopped and by a commit while it runs; and a held install goes on once no lay holds it. Where the spec leaves it open
the statement follows the model's choices in notes/assumptions/54.md. -/
def Obligations.ImageLoader : Prop :=
  (∀ (s : State) (m : Master) (priv : Bool), Direct s m priv A.ENG_IMG_CTL →
    Answers (.imgBegin m priv) s fun t =>
      t.fld F.ENG_IMG_STATUS_STATE = 1 ∧ t.fld F.ENG_IMG_STATUS_WHY = 0 ∧ t.fld F.ENG_IMG_STATUS_WORDS = 0 ∧ t.eng.img = [] ∧
      t.eng.work = .receiving ∧ Framed [A.ENG_IMG_STATUS] [.eng] s t) ∧
  (∀ (s : State) (m : Master) (priv : Bool) (w : Word), Direct s m priv A.ENG_IMG_DATA → s.fld F.ENG_IMG_STATUS_STATE = 1 →
    s.eng.img.length < 262144 →
    Answers (.imgDataWrite w m priv) s fun t =>
      t.eng.img = s.eng.img ++ [w] ∧ t.fld F.ENG_IMG_STATUS_WORDS = s.eng.img.length + 1 ∧ t.fld F.ENG_IMG_STATUS_STATE = 1 ∧
      t.fld F.ENG_IMG_STATUS_WHY = 0 ∧ Framed [A.ENG_IMG_STATUS] [.eng] s t) ∧
  (∀ (s : State) (m : Master) (priv : Bool) (w : Word), Direct s m priv A.ENG_IMG_DATA → s.fld F.ENG_IMG_STATUS_STATE = 1 →
    262144 ≤ s.eng.img.length →
    Answers (.imgDataWrite w m priv) s fun t =>
      t.fld F.ENG_IMG_STATUS_STATE = 6 ∧ t.fld F.ENG_IMG_STATUS_WHY = 2 ∧ t.fld F.ENG_IMG_STATUS_WORDS = 262144 ∧
      Framed [A.ENG_IMG_STATUS] [.eng] s t) ∧
  (∀ (s : State) (m : Master) (priv : Bool) (w : Word), Direct s m priv A.ENG_IMG_DATA → s.fld F.ENG_IMG_STATUS_STATE ≠ 1 →
    Untouched (.imgDataWrite w m priv) s) ∧
  (∀ (s : State) (m : Master) (priv : Bool), Direct s m priv A.ENG_IMG_CTL → s.fld F.ENG_IMG_STATUS_STATE ≠ 2 →
    s.fld F.ENG_IMG_STATUS_STATE ≠ 3 →
    (Answers (.imgCheck m priv) s fun t =>
      t.fld F.ENG_IMG_STATUS_STATE = 2 ∧ t.eng.work = .checking false ∧ t.eng.img = s.eng.img ∧
      Framed [A.ENG_IMG_STATUS] [.eng] s t) ∧
    (Answers (.imgInstall m priv) s fun t =>
      t.fld F.ENG_IMG_STATUS_STATE = 2 ∧ t.eng.work = .checking true ∧ t.eng.img = s.eng.img ∧
      Framed [A.ENG_IMG_STATUS] [.eng] s t)) ∧
  (∀ (s : State) (m : Master) (priv : Bool), Direct s m priv A.ENG_IMG_CTL →
    s.fld F.ENG_IMG_STATUS_STATE = 2 ∨ s.fld F.ENG_IMG_STATUS_STATE = 3 →
    Untouched (.imgCheck m priv) s ∧ Untouched (.imgInstall m priv) s) ∧
  (∀ (s : State) (b : Bool), s.eng.work = .checking b → s.imageWhy s.eng.img ≠ 0 →
    Answers .imageCheckComplete s fun t =>
      ImgEnds 6 (s.imageWhy s.eng.img) t ∧ Framed [A.ENG_IMG_STATUS, A.MGMT_EVT] [.eng, .mgmt] s t) ∧
  (∀ s : State, s.eng.work = .checking false → s.imageWhy s.eng.img = 0 →
    Answers .imageCheckComplete s fun t => ImgEnds 7 0 t ∧ Framed [A.ENG_IMG_STATUS, A.MGMT_EVT] [.eng, .mgmt] s t) ∧
  (∀ (s : State) (b : List Word), s.eng.work = .checking true → s.imageWhy s.eng.img = 0 →
    rateBlockOf (imgCert s.eng.img) (s.fld F.CLK_MEDIA_CFG_RATE) = some b →
    (s.imgPlan s.eng.img b s.trigRuns).1 = 0 → s.imgHeld = true →
    Answers .imageCheckComplete s fun t =>
      t.fld F.ENG_IMG_STATUS_STATE = 3 ∧ t.eng.work = .held ∧ t.eng.img = s.eng.img ∧ Framed [A.ENG_IMG_STATUS] [.eng] s t) ∧
  (∀ (s : State) (b : List Word), s.eng.work = .checking true → s.imageWhy s.eng.img = 0 →
    rateBlockOf (imgCert s.eng.img) (s.fld F.CLK_MEDIA_CFG_RATE) = some b →
    (s.imgPlan s.eng.img b s.trigRuns).1 ≠ 0 →
    Answers .imageCheckComplete s fun t => ImgEnds 6 (s.imgPlan s.eng.img b s.trigRuns).1 t ∧ t.reg A.ENG_IMG_ID = s.reg A.ENG_IMG_ID ∧
      t.mgmt.image = s.mgmt.image) ∧
  (∀ (s : State) (b : List Word), s.eng.work = .checking true → s.imageWhy s.eng.img = 0 →
    rateBlockOf (imgCert s.eng.img) (s.fld F.CLK_MEDIA_CFG_RATE) = some b →
    (s.imgPlan s.eng.img b s.trigRuns).1 = 0 → s.play.running = false →
    Answers .imageCheckComplete s fun t =>
      ImgEnds 5 0 t ∧ t.rd A.ENG_IMG_ID = imgId s.eng.img ∧ t.mgmt.image = s.eng.img ∧ t.mgmt.imageCert = true ∧
      t.on F.ENG_PLACE_CTL_PENDING = false ∧ t.eng.waiting = none ∧ (∀ m < 64, t.rd (A.ENG_PROG_STATUS m) = 0)) ∧
  (∀ (s : State) (b : List Word), s.eng.work = .checking true → s.imageWhy s.eng.img = 0 →
    rateBlockOf (imgCert s.eng.img) (s.fld F.CLK_MEDIA_CFG_RATE) = some b →
    (s.imgPlan s.eng.img b s.trigRuns).1 = 0 → s.play.running = true → s.imgHeld = false →
    Answers .imageCheckComplete s fun t =>
      t.fld F.ENG_IMG_STATUS_STATE = 4 ∧ t.on F.ENG_PLACE_CTL_PENDING = true ∧ t.eng.waiting.isSome = true ∧
      t.eng.installing = s.eng.img ∧ t.reg A.ENG_PLACE_EF = s.reg A.ENG_IMG_APPLY_EF ∧ t.reg A.ENG_IMG_ID = s.reg A.ENG_IMG_ID ∧
      t.mgmt.image = s.mgmt.image) ∧
  (∀ s : State, s.eng.work = .none ∨ s.eng.work = .receiving ∨ s.eng.work = .held → Untouched .imageCheckComplete s) ∧
  (∀ s : State, s.imgHeld = true ∨ s.eng.work ≠ .held → Untouched .installHoldRelease s) ∧
  (∀ (s : State) (b : List Word), s.eng.work = .held → s.imgHeld = false → s.play.running = true →
    rateBlockOf (imgCert s.eng.img) (s.fld F.CLK_MEDIA_CFG_RATE) = some b → (s.imgPlan s.eng.img b true).1 = 0 →
    Answers .installHoldRelease s fun t =>
      t.fld F.ENG_IMG_STATUS_STATE = 4 ∧ t.on F.ENG_PLACE_CTL_PENDING = true ∧ t.eng.waiting.isSome = true ∧ t.eng.work = .none ∧
      t.eng.installing = s.eng.img) ∧
  (∀ (s : State) (b : List Word), s.eng.work = .held → s.imgHeld = false → s.play.running = true →
    rateBlockOf (imgCert s.eng.img) (s.fld F.CLK_MEDIA_CFG_RATE) = some b → (s.imgPlan s.eng.img b true).1 ≠ 0 →
    Answers .installHoldRelease s fun t => ImgEnds 6 (s.imgPlan s.eng.img b true).1 t ∧ t.mgmt.image = s.mgmt.image)

/-! ### The mixer and the audio ports (spec chapters 10 and 11) -/

/-- A word of the crosspoint table is the one of an entry. -/
def xpAdr (n k : Nat) : Nat := A.TBL_XP_W0 n + 4 * k

/-- The mixer, the meters and delay memory (R201, R301, R308, R316, R318, R320): the mix range is clamped to the variant's and
the rate's; a crosspoint word is stored, its target in every version; a metering period closes with each meter's peak and mean
square, and accumulation restarts; and the aperture reaches delay memory with the EF trigger stopped, and reads zero while it
runs. Where the spec leaves it open the statement follows the model's choices in notes/assumptions/15.md, 56.md. -/
def Obligations.MixerAndDelayMemory : Prop :=
  (∀ (s : State) (m : Master) (priv : Bool) (w : Word), Direct s m priv A.XPT_CFG → AsItReads s A.XPT_CFG w → s.reg A.XPT_CFG ≠ w →
    Answers (.xptCfgWrite (whole m priv w)) s fun t =>
      t.fld F.XPT_CFG_COUNT = min (F.XPT_CFG_COUNT.of w.toNat) s.mixMax ∧
      t.fld F.XPT_CFG_FIRST = min (F.XPT_CFG_FIRST.of w.toNat) (s.xpts - t.fld F.XPT_CFG_COUNT) ∧ Framed [A.XPT_CFG] [] s t) ∧
  (∀ (s : State) (n : Nat) (m : Master) (priv : Bool) (w : Word), n < s.xpts → Direct s m priv (xpAdr n 0) →
    AsItReads s (xpAdr n 0) w →
    Answers (.crosspointWrite n 0 (whole m priv w)) s fun t => t.reg (xpAdr n 0) = w ∧ Framed [xpAdr n 0] [] s t) ∧
  (∀ (s : State) (n : Nat) (m : Master) (priv : Bool) (w : Word), n < s.xpts → Direct s m priv (xpAdr n 1) → s.reg (xpAdr n 1) ≠ w →
    Answers (.crosspointWrite n 1 (whole m priv w)) s fun t =>
      t.reg (xpAdr n 1) = w ∧ Framed [xpAdr n 1] [.play] s t ∧
      (∀ (k e : Nat) (v : Snap), getAt s.play.hitches k none = some (e, v) →
        ∃ u, getAt t.play.hitches k none = some (e, u) ∧ (Sparse.find u.targets (xpAdr n 1)).getD 0 = w)) ∧
  (∀ (s : State) (n : Nat) (m : Master) (priv : Bool) (w : Word), n < s.xpts → Direct s m priv (xpAdr n 2) →
    AsItReads s (xpAdr n 2) w →
    Answers (.crosspointWrite n 2 (whole m priv w)) s fun t =>
      t.fld (F.TBL_XP_W2_RAMP_LEN n) = (F.TBL_XP_W2_RAMP_LEN n).of w.toNat ∧
      t.fld (F.TBL_XP_W2_REMAIN n) = s.fld (F.TBL_XP_W2_REMAIN n) ∧ Framed [xpAdr n 2] [.play] s t) ∧
  (∀ (s : State) (n : Nat) (m : Master) (priv : Bool) (w : Word), n < s.xpts → Direct s m priv (xpAdr n 3) →
    Untouched (.crosspointWrite n 3 (whole m priv w)) s) ∧
  (∀ s : State, s.play.running = true → s.xpt.period ≤ s.xpt.efs →
    Answers .meterPeriodClose s fun t =>
      (∀ n < s.meterCount, t.rd (A.XPT_METER_PEAK n) = (s.meterVals n).1 % 2 ^ 32 ∧
        t.rd (A.XPT_METER_MS n) = (s.meterVals n).2) ∧
      t.xpt.efs = 0 ∧ t.xpt.samples = 0 ∧ t.xpt.meters = [] ∧ t.xpt.period = s.meterPeriod ∧
      (s.on F.XPT_METER_CFG_MSG_EN = false →
        Framed ((List.range s.meterCount).flatMap fun n => [A.XPT_METER_PEAK n, A.XPT_METER_MS n]) [.xpt] s t)) ∧
  (∀ s : State, s.play.running = false ∨ s.xpt.efs < s.xpt.period → Untouched .meterPeriodClose s) ∧
  (∀ (s : State) (off : Fin 0x800000) (m : Master) (priv : Bool) (b : Nat), Shaped s → off.val % 4 = 0 →
    s.apertureAt (0x800000 + off.val) = some b → s.pwr.trig = false → s.unitAwake 2 = true → s.blockOk 6 = true →
    Answers (.dlyApertureAccess off m priv none) s fun t =>
      getAt t.resp m.code 0 = s.memWord b ∧ (∀ k ≠ m.code, getAt t.resp k 0 = getAt s.resp k 0) ∧ Framed [] [.resp] s t) ∧
  (∀ (s : State) (off : Fin 0x800000) (m : Master) (priv : Bool) (b : Nat) (w : Word), off.val % 4 = 0 →
    s.apertureAt (0x800000 + off.val) = some b → s.pwr.trig = false → s.unitAwake 2 = true → s.blockOk 6 = true →
    Answers (.dlyApertureAccess off m priv (some w)) s fun t =>
      t.memWord b = w ∧ MemKeptBut b 4 s t ∧ RegsKept [] s t ∧ ∀ p : Part, p.Same s t) ∧
  (∀ (s : State) (off : Fin 0x800000) (m : Master) (priv : Bool) (w : Word), Shaped s → off.val % 4 = 0 →
    s.apertureAt (0x800000 + off.val) = none ∨ s.pwr.trig = true →
    (Answers (.dlyApertureAccess off m priv none) s fun t => getAt t.resp m.code 0 = 0 ∧ Framed [] [.resp] s t) ∧
    Untouched (.dlyApertureAccess off m priv (some w)) s)

/-- The registers in which a port's fade shows. -/
def fadeRegs (n : Nat) : List Nat := [A.TDM_STATUS n, A.TDM_FADES n, A.TDM_SAT n, A.TDM_SENSE_OK, A.TDM_EVT]

/-- A port that was Full fades from now (R331, R332). -/
def Fades (n : Nat) (s t : State) : Prop :=
  t.fld (F.TDM_STATUS_GAIN_STATE n) = 1 ∧ (t.tp n).g0 = 2 ^ 30 ∧ (t.tp n).fadeUp = t.time.up ∧
    (t.tp n).fadeLen = s.fadeMs * msU ∧ Counts s t (A.TDM_FADES n) 1

/-- TDM ports (R324 to R338): a master port sends the frame of its chain index and its input slots enter bus memory for the
index they have; a frame of the wrong length counts, slips and fades; lost clocks and a wrong rate fade; fades, ramps and mutes;
a configuration or map is operative at once on a port that does not run, and at its next frame start on one that does; and LOOP.
Where the spec leaves it open the statement follows the model's choices in notes/assumptions/4.md, 60.md. -/
def Obligations.TdmPorts : Prop :=
  (∀ (s : State) (n dt : Nat) (din : List Word) (bad : Bool), n < s.tdmPorts → (s.tp n).pendMap = false → (s.tp n).pendCfg = false →
    s.portLive n = false ∨ s.clk.running = false →
    Answers (.tdmFrame n din bad dt) s fun t => t.time.up = s.time.up + dt ∧ Framed timeRegs [.time, .clk, .mgmt] s t) ∧
  (∀ (s : State) (n dt : Nat) (din : List Word) (bad : Bool), Shaped s → n < s.tdmPorts → (s.tp n).pendMap = false →
    (s.tp n).pendCfg = false → s.portLive n = true → s.clk.running = true → s.tdmRunning n = true →
    cfgMaster (s.tp n).opCfg = true → s.fld (F.TDM_CTL_LOOP n) = 0 → s.play.running = false →
    Answers (.tdmFrame n din bad dt) s fun t =>
      (t.tp n).lastIdx = (s.advance dt).chainIdx ∧
      (t.tp n).dout = s.padFrame n ((s.advance dt).outFrame n (s.advance dt).chainIdx) ∧
      Framed timeRegs [.time, .clk, .mgmt, .tdm] s t) ∧
  (∀ (s : State) (n dt k : Nat) (din : List Word) (bad : Bool), Shaped s → n < s.tdmPorts → (s.tp n).pendMap = false →
    (s.tp n).pendCfg = false → s.portLive n = true → s.clk.running = true → s.tdmRunning n = true →
    cfgMaster (s.tp n).opCfg = true → s.fld (F.TDM_CTL_LOOP n) = 0 → s.play.running = true → (s.tp n).testing = false →
    s.mapActs (s.tp n).opCfg (s.tp n).opIn = [k] → k < cfgSlots (s.tp n).opCfg → wbits (getAt (s.tp n).opIn k 0) 30 29 = 0 →
    wbits (s.tp n).opCfg 13 13 = 1 → (s.tp n).zeroTo ≤ (s.advance dt).chainIdx →
    Answers (.tdmFrame n din bad dt) s fun t =>
      let u := s.advance dt
      let a := s.busAdr (wbits (getAt (s.tp n).opIn k 0) 11 0) (s.capturePos u.chainIdx)
      t.memWord a = scaleBy (fromSlot (cfgDataW (s.tp n).opCfg) (getAt din k 0)) (u.tdmGain n) ∧ MemKeptBut a 4 s t ∧
      RegsKept timeRegs s t) ∧
  (∀ (s : State) (n dt : Nat) (din : List Word), Shaped s → n < s.tdmPorts → (s.tp n).pendMap = false → (s.tp n).pendCfg = false →
    (s.tp n).testing = false → s.portLive n = true → s.clk.running = true → s.tdmRunning n = true →
    cfgMaster (s.tp n).opCfg = false → s.play.running = false → s.fld (F.TDM_STATUS_GAIN_STATE n) = 0 →
    (s.advance dt).chainIdx ≤ (s.tp n).lastIdx → s.tdmFill n < 8 →
    Answers (.tdmFrame n din true dt) s fun t =>
      Counts s t (A.TDM_FRAME_ERR n) 1 ∧ t.bitOf F.TDM_EVT_SLIP n = true ∧ Fades n s t ∧ (t.tp n).causes = (s.tp n).causes ∧
      MemKept s t) ∧
  (∀ (s : State) (n dt : Nat) (din : List Word), Shaped s → n < s.tdmPorts → (s.tp n).pendMap = false → (s.tp n).pendCfg = false →
    (s.tp n).testing = false → s.portLive n = true → s.clk.running = true → s.tdmRunning n = false →
    cfgMaster (s.tp n).opCfg = false → s.play.running = false → s.fld (F.TDM_CTL_LOOP n) = 0 →
    s.on (F.TDM_STATUS_NO_CLOCK n) = false →
    Answers (.tdmFrame n din false dt) s fun t =>
      t.tdmRunning n = true ∧ t.fld (F.TDM_STATUS_GAIN_STATE n) = 2 ∧ t.bitOf F.TDM_SENSE_OK_PORT n = false ∧
      (t.tp n).inBuf = centred (s.zeroSlots n) ++ [(List.range (cfgSlots (s.tp n).opCfg)).map fun k => getAt din k 0] ∧
      (t.tp n).clocksGone = false ∧ MemKept s t) ∧
  (∀ (s : State) (n : Nat), Shaped s → n < s.tdmPorts → s.portLive n = true → cfgMaster (s.tp n).opCfg = false →
    s.on (F.TDM_STATUS_NO_CLOCK n) = false → s.fld (F.TDM_STATUS_GAIN_STATE n) = 0 →
    Answers (.tdmNoClock n) s fun t =>
      t.on (F.TDM_STATUS_NO_CLOCK n) = true ∧ t.tdmRunning n = false ∧ Counts s t (A.TDM_LOS n) 1 ∧
      t.bitOf F.TDM_EVT_NO_CLOCK n = true ∧ (t.tp n).causes.testBit causeNoClock = true ∧ (t.tp n).clocksGone = true ∧ Fades n s t ∧
      Framed (A.TDM_LOS n :: fadeRegs n) [.tdm] s t) ∧
  (∀ (s : State) (n : Nat), n < s.tdmPorts →
    cfgMaster (s.tp n).opCfg = true ∨ s.portLive n = false ∨ s.on (F.TDM_STATUS_NO_CLOCK n) = true → Untouched (.tdmNoClock n) s) ∧
  (∀ (s : State) (n mHz : Nat), n < s.tdmPorts → s.portLive n = true → cfgMaster (s.tp n).opCfg = true →
    Answers (.tdmRateGate n mHz) s fun t =>
      t.fld (F.TDM_RATE_CLASS n) = s.fld F.CLK_MEDIA_CFG_RATE ∧ t.fld (F.TDM_RATE_PPM n) = 0 ∧ t.on (F.TDM_RATE_VALID n) = true ∧
      (s.fld (F.TDM_RATE_CLASS n) ≠ s.fld F.CLK_MEDIA_CFG_RATE → t.bitOf F.TDM_EVT_RATE_CHG n = true) ∧
      Framed [A.TDM_RATE n, A.TDM_EVT] [] s t) ∧
  (∀ (s : State) (n mHz : Nat), Shaped s → n < s.tdmPorts → s.portLive n = true → cfgMaster (s.tp n).opCfg = false →
    rateClass mHz ≠ s.fld F.CLK_MEDIA_CFG_RATE → s.on (F.TDM_STATUS_WRONG_RATE n) = false →
    s.fld (F.TDM_STATUS_GAIN_STATE n) = 0 →
    Answers (.tdmRateGate n mHz) s fun t =>
      t.fld (F.TDM_RATE_CLASS n) = rateClass mHz ∧ t.on (F.TDM_STATUS_WRONG_RATE n) = true ∧
      (t.tp n).causes.testBit causeWrongRate = true ∧ Fades n s t ∧ Framed (A.TDM_RATE n :: fadeRegs n) [.tdm] s t) ∧
  (∀ (s : State) (n mHz : Nat), Shaped s → n < s.tdmPorts → s.portLive n = true → cfgMaster (s.tp n).opCfg = false →
    rateClass mHz = s.fld F.CLK_MEDIA_CFG_RATE → s.on (F.TDM_STATUS_WRONG_RATE n) = true →
    s.on (F.TDM_STATUS_NO_CLOCK n) = false →
    Answers (.tdmRateGate n mHz) s fun t =>
      t.fld (F.TDM_RATE_CLASS n) = rateClass mHz ∧ t.on (F.TDM_STATUS_WRONG_RATE n) = false ∧
      (t.tp n).causes.testBit causeWrongRate = false ∧
      t.fld (F.TDM_STATUS_GAIN_STATE n) = s.fld (F.TDM_STATUS_GAIN_STATE n) ∧
      Framed [A.TDM_RATE n, A.TDM_EVT, A.TDM_STATUS n] [.tdm] s t) ∧
  (∀ (s : State) (n dt : Nat), Shaped s → n < s.tdmPorts → s.fld (F.TDM_STATUS_GAIN_STATE n) = 1 →
    Answers (.tdmFadeComplete n dt) s fun t =>
      t.fld (F.TDM_STATUS_GAIN_STATE n) = 2 ∧ (t.tp n).clean = 0 ∧ (t.tp n).dirty = true ∧
      Framed (timeRegs ++ [A.TDM_STATUS n]) [.time, .clk, .mgmt, .tdm] s t) ∧
  (∀ (s : State) (n : Nat), Shaped s → n < s.tdmPorts → s.fld (F.TDM_STATUS_GAIN_STATE n) = 2 → 2 ≤ (s.tp n).clean →
    Answers (.tdmRampStart n) s fun t =>
      t.fld (F.TDM_STATUS_GAIN_STATE n) = 3 ∧ (t.tp n).fadeUp = s.time.up ∧ (t.tp n).fadeLen = s.rampMs * msU ∧
      Framed [A.TDM_STATUS n] [.tdm] s t) ∧
  (∀ (s : State) (n : Nat), n < s.tdmPorts → s.fld (F.TDM_STATUS_GAIN_STATE n) ≠ 2 ∨ (s.tp n).clean < 2 →
    Untouched (.tdmRampStart n) s) ∧
  (∀ (s : State) (n dt : Nat), n < s.tdmPorts → s.fld (F.TDM_STATUS_GAIN_STATE n) = 3 →
    Answers (.tdmRampComplete n dt) s fun t =>
      t.fld (F.TDM_STATUS_GAIN_STATE n) = 0 ∧ Framed (timeRegs ++ [A.TDM_STATUS n]) [.time, .clk, .mgmt] s t) ∧
  (∀ (s : State) (n : Nat) (m : Master) (priv : Bool) (w : Word), Shaped s → n < s.tdmPorts →
    Direct s m priv (A.TDM_PORT_CFG n) → AsItReads s (A.TDM_PORT_CFG n) w → s.reg (A.TDM_PORT_CFG n) ≠ w →
    (F.TDM_PORT_CFG_FORMAT n).of w.toNat ≠ 3 → (F.TDM_PORT_CFG_SLOT_W n).of w.toNat ≠ 3 →
    (F.TDM_PORT_CFG_DATA_W n).of w.toNat ≠ 3 → s.tdmRunning n = true →
    Answers (.tdmPortCfgWrite n (whole m priv w)) s fun t =>
      t.reg (A.TDM_PORT_CFG n) = w ∧ (t.tp n).pendCfg = true ∧ (t.tp n).opCfg = (s.tp n).opCfg ∧
      Framed [A.TDM_PORT_CFG n] [.tdm] s t) ∧
  (∀ (s : State) (n : Nat) (m : Master) (priv : Bool) (w : Word), Shaped s → n < s.tdmPorts →
    Direct s m priv (A.TDM_PORT_CFG n) → AsItReads s (A.TDM_PORT_CFG n) w → s.reg (A.TDM_PORT_CFG n) ≠ w →
    (F.TDM_PORT_CFG_FORMAT n).of w.toNat ≠ 3 → (F.TDM_PORT_CFG_SLOT_W n).of w.toNat ≠ 3 →
    (F.TDM_PORT_CFG_DATA_W n).of w.toNat ≠ 3 → s.tdmRunning n = false → s.on (F.TDM_STATUS_NO_CLOCK n) = false →
    (s.tp n).testing = false →
    Answers (.tdmPortCfgWrite n (whole m priv w)) s fun t =>
      t.reg (A.TDM_PORT_CFG n) = w ∧ (t.tp n).opCfg = w ∧ (t.tp n).pendCfg = false ∧
      t.on (F.TDM_STATUS_REFUSED n) = (cfgEn w && s.bclkOver w) ∧
      Framed [A.TDM_PORT_CFG n, A.TDM_STATUS n, A.TDM_PHASE n, A.TDM_EVT] [.tdm] s t) ∧
  (∀ (s : State) (n : Nat) (m : Master) (priv : Bool) (w : Word), n < s.tdmPorts → Direct s m priv (A.TDM_PORT_CFG n) →
    AsItReads s (A.TDM_PORT_CFG n) w → (F.TDM_PORT_CFG_FORMAT n).of w.toNat = 3 → s.fld (F.TDM_PORT_CFG_FORMAT n) ≠ 3 →
    Answers (.tdmPortCfgWrite n (whole m priv w)) s fun t =>
      t.fld (F.TDM_PORT_CFG_FORMAT n) = s.fld (F.TDM_PORT_CFG_FORMAT n) ∧ t.fld (F.TDM_PORT_CFG_SLOTS n) =
        (F.TDM_PORT_CFG_SLOTS n).of w.toNat) ∧
  (∀ (s : State) (n : Nat) (m : Master) (priv : Bool), Shaped s → n < s.tdmPorts → Direct s m priv (A.TDM_CTL n) →
    s.on (F.TDM_CTL_MUTE n) = false → s.fld (F.TDM_STATUS_GAIN_STATE n) = 0 →
    Answers (.tdmMute n true m priv) s fun t =>
      t.on (F.TDM_CTL_MUTE n) = true ∧ (t.tp n).causes.testBit causeMute = true ∧ Fades n s t ∧
      t.fld (F.TDM_CTL_LOOP n) = s.fld (F.TDM_CTL_LOOP n) ∧ Framed (A.TDM_CTL n :: fadeRegs n) [.tdm] s t) ∧
  (∀ (s : State) (n : Nat) (m : Master) (priv : Bool), Shaped s → n < s.tdmPorts → Direct s m priv (A.TDM_CTL n) →
    s.on (F.TDM_CTL_MUTE n) = true →
    Answers (.tdmMute n false m priv) s fun t =>
      t.on (F.TDM_CTL_MUTE n) = false ∧ (t.tp n).causes.testBit causeMute = false ∧ Framed [A.TDM_CTL n] [.tdm] s t) ∧
  (∀ (s : State) (n : Nat) (m : Master) (priv : Bool), n < s.tdmPorts → Direct s m priv (A.TDM_CTL n) →
    Untouched (.tdmMute n (s.on (F.TDM_CTL_MUTE n)) m priv) s) ∧
  (∀ (s : State) (n : Nat) (mode : Fin 4) (m : Master) (priv : Bool), n < s.tdmPorts → Direct s m priv (A.TDM_CTL n) →
    Answers (.tdmLoop n mode m priv) s fun t =>
      t.fld (F.TDM_CTL_LOOP n) = mode.val ∧ t.fld (F.TDM_CTL_MUTE n) = s.fld (F.TDM_CTL_MUTE n) ∧
      Framed [A.TDM_CTL n] [] s t) ∧
  (∀ (s : State) (n : Nat) (output : Bool) (k : Fin 32) (m : Master) (priv : Bool) (w : Word), Shaped s → n < s.tdmPorts →
    let a := if output then A.TDM_OUT_MAP n k.val else A.TDM_IN_MAP n k.val
    Direct s m priv a → AsItReads s a w → s.reg a ≠ w →
    (s.tdmRunning n = true →
      Answers (.tdmMapWrite n output k (whole m priv w)) s fun t =>
        t.reg a = w ∧ (t.tp n).pendMap = true ∧ (t.tp n).opOut = (s.tp n).opOut ∧ (t.tp n).opIn = (s.tp n).opIn ∧
        Framed [a] [.tdm] s t) ∧
    (s.tdmRunning n = false → (s.tp n).testing = false →
      Answers (.tdmMapWrite n output k (whole m priv w)) s fun t =>
        t.reg a = w ∧ getAt (if output then (t.tp n).opOut else (t.tp n).opIn) k.val 0 = w ∧ (t.tp n).pendMap = false ∧
        Framed [a, A.TDM_STATUS n, A.TDM_EVT] [.tdm] s t))

/-! ### Line and path proof (spec chapter 12) -/

/-- A word of line entry n. -/
def lineAdr (n k : Nat) : Nat := A.TBL_PLINE_W0 n + 4 * k

/-- Line entries and changeovers (R351, R353, R356 to R359): a written word of an enabled entry is judged; EN written starts or
ends supervision; the words that report are not written; each fade and ramp of a changeover and a restore; the reports of R356;
and COMMISSION, RETIRE and CLEAR. Where the spec leaves it open the statement follows the model's choices in
notes/assumptions/61.md. -/
def Obligations.ProofLines : Prop :=
  (∀ (s : State) (n : Nat) (k : Fin 16) (m : Master) (priv : Bool) (x : Word), n < s.lines → 1 ≤ k.val → k.val < 8 →
    Direct s m priv (lineAdr n k.val) → AsItReads s (lineAdr n k.val) x → s.scp.holds = [] → s.on (F.TBL_PLINE_W0_EN n) = true →
    Answers (.lineEntryWrite n k (whole m priv x)) s fun t =>
      t.reg (lineAdr n k.val) = x ∧ t.fld (F.TBL_PLINE_W10_WHY n) = (s.putReg (lineAdr n k.val) x).lineWhy n ∧
      t.on (F.TBL_PLINE_W10_REFUSED n) = (t.fld (F.TBL_PLINE_W10_WHY n) != 0) ∧
      (t.fld (F.TBL_PLINE_W10_WHY n) ≠ 0 → t.on F.PROOF_EVT_REFUSED = true) ∧
      (t.fld (F.TBL_PLINE_W10_WHY n) = 0 → s.lineState n = 0 → t.lineState n = 1) ∧
      (s.lineState n ≠ 0 → t.lineState n = s.lineState n) ∧
      Framed [lineAdr n k.val, A.TBL_PLINE_W10 n, A.PROOF_STATUS, A.PROOF_EVT] [] s t) ∧
  (∀ (s : State) (n : Nat) (m : Master) (priv : Bool) (x : Word), n < s.lines → Direct s m priv (lineAdr n 0) →
    AsItReads s (lineAdr n 0) x → s.on (F.TBL_PLINE_W0_EN n) = false → (F.TBL_PLINE_W0_EN n).of x.toNat = 1 →
    Answers (.lineEntryWrite n 0 (whole m priv x)) s fun t =>
      t.on (F.TBL_PLINE_W0_EN n) = true ∧ t.fld (F.TBL_PLINE_W0_SIG_VALID n) = s.fld (F.TBL_PLINE_W0_SIG_VALID n) ∧
      (t.line n).count = 0 ∧ (t.line n).valid = false ∧ (t.line n).winUp = s.time.up ∧
      t.on (F.TBL_PLINE_W10_REFUSED n) = (t.fld (F.TBL_PLINE_W10_WHY n) != 0) ∧
      Framed [lineAdr n 0, A.TBL_PLINE_W10 n, A.PROOF_STATUS, A.PROOF_EVT] [.proof] s t) ∧
  (∀ (s : State) (n : Nat) (m : Master) (priv : Bool) (x : Word), n < s.lines → Direct s m priv (lineAdr n 0) →
    AsItReads s (lineAdr n 0) x → (F.TBL_PLINE_W0_EN n).of x.toNat = 0 → (s.line n).perm = false →
    Answers (.lineEntryWrite n 0 (whole m priv x)) s fun t =>
      t.on (F.TBL_PLINE_W0_EN n) = false ∧ t.lineState n = 0 ∧ t.rd (A.TBL_PLINE_W8 n) = 0 ∧ (t.line n).comm = none ∧
      (t.line n).sweep = none ∧ t.on (F.TBL_PLINE_W10_REFUSED n) = false ∧
      Framed [lineAdr n 0, A.TBL_PLINE_W8 n, A.TBL_PLINE_W10 n, A.PROOF_STATUS] [.proof] s t) ∧
  (∀ (s : State) (n : Nat) (k : Fin 16) (m : Master) (priv : Bool) (x : Word), n < s.lines → 8 ≤ k.val →
    Direct s m priv (lineAdr n k.val) → AsItReads s (lineAdr n k.val) x → Untouched (.lineEntryWrite n k (whole m priv x)) s) ∧
  (∀ (s : State) (n dt : Nat), n < s.lines → (s.line n).change = .none →
    Answers (.changeoverStep n dt) s fun t => t.time.up = s.time.up + dt ∧ Framed timeRegs [.time, .clk, .mgmt] s t) ∧
  (∀ (s : State) (n dt : Nat), n < s.lines → (s.line n).change = .spareFade →
    Answers (.changeoverStep n dt) s fun t =>
      (t.line n).change = .spareRamp ∧ (t.slotG (s.lineKey (s.spareOf n))).carries = some n ∧
      (t.slotG (s.lineKey (s.spareOf n))).state = 3 ∧ Framed timeRegs [.time, .clk, .mgmt, .proof] s t) ∧
  (∀ (s : State) (n dt : Nat), n < s.lines → (s.line n).change = .spareRamp → s.lineKey n ≠ s.lineKey (s.spareOf n) →
    (s.slotG (s.lineKey n)).state = 0 →
    Answers (.changeoverStep n dt) s fun t =>
      (t.line n).change = .lineFade ∧ t.on (F.TBL_PLINE_W10_CARRYING (s.spareOf n)) = true ∧
      t.on (F.TBL_PLINE_W10_CHANGED n) = true ∧ Counts s t A.PROOF_CNT_CHANGEOVERS 1 ∧ t.on F.PROOF_EVT_CHANGEOVER = true ∧
      (t.slotG (s.lineKey (s.spareOf n))).state = 0 ∧ (t.slotG (s.lineKey n)).state = 1 ∧ t.lineState n = s.lineState n ∧
      MemKept s t) ∧
  (∀ (s : State) (n dt : Nat), n < s.lines → (s.line n).change = .lineFade →
    Answers (.changeoverStep n dt) s fun t =>
      (t.line n).change = .none ∧ (t.slotG (s.lineKey n)).state = 2 ∧ t.lineState n = 4 ∧ t.on F.PROOF_STATUS_FAULT = true ∧
      MemKept s t) ∧
  (∀ (s : State) (n dt : Nat), n < s.lines → (s.line n).change = .backRamp → s.lineKey n ≠ s.lineKey (s.spareOf n) →
    (s.slotG (s.lineKey (s.spareOf n))).state = 0 →
    Answers (.changeoverStep n dt) s fun t =>
      (t.line n).change = .backSpareFade ∧ (t.slotG (s.lineKey n)).state = 0 ∧ (t.slotG (s.lineKey (s.spareOf n))).state = 1 ∧
      Framed timeRegs [.time, .clk, .mgmt, .proof] s t) ∧
  (∀ (s : State) (n dt : Nat), n < s.lines → (s.line n).change = .backSpareFade →
    Answers (.changeoverStep n dt) s fun t =>
      (t.line n).change = .backSpareRamp ∧ (t.slotG (s.lineKey (s.spareOf n))).carries = none ∧
      t.on (F.TBL_PLINE_W10_CARRYING (s.spareOf n)) = false ∧ t.on (F.TBL_PLINE_W10_CHANGED n) = false ∧
      Framed (timeRegs ++ [A.TBL_PLINE_W10 n, A.TBL_PLINE_W10 (s.spareOf n)]) [.time, .clk, .mgmt, .proof] s t) ∧
  (∀ (s : State) (n : Nat), n < s.lines → (s.line n).noSense = true → (s.line n).supervision = false →
    Answers (.supervisionLoss n) s fun t =>
      t.on F.PROOF_STATUS_SUPERVISION = true ∧ t.on F.PROOF_STATUS_FAULT = true ∧ t.on F.PROOF_EVT_SUPERVISION = true ∧
      Framed [A.PROOF_STATUS, A.PROOF_EVT] [.proof] s t) ∧
  (∀ (s : State) (n : Nat), n < s.lines → (s.line n).noSense = false ∨ (s.line n).supervision = true →
    Untouched (.supervisionLoss n) s) ∧
  (∀ (s : State) (n : Nat), n < s.lines → (s.line n).unproven = true → s.on (F.TBL_PLINE_W10_UNPROVEN n) = false →
    Answers (.unproven n) s fun t =>
      t.on (F.TBL_PLINE_W10_UNPROVEN n) = true ∧ t.on F.PROOF_STATUS_UNPROVEN = true ∧ t.on F.PROOF_EVT_UNPROVEN = true ∧
      Framed [A.TBL_PLINE_W10 n, A.PROOF_STATUS, A.PROOF_EVT] [] s t) ∧
  (∀ (s : State) (n : Fin 256) (m : Master) (priv : Bool), n.val < s.lines → Direct s m priv A.PROOF_CMD → s.lineUp n.val = true →
    s.lineState n.val ≠ 3 → s.lineState n.val ≠ 4 → s.on (F.TBL_PLINE_W10_CARRYING n.val) = false →
    s.on (F.TBL_PLINE_W10_CHANGED n.val) = false →
    Answers (.proofCmdCommission n false m priv) s fun t =>
      (t.line n.val).comm = some [] ∧ (t.line n.val).sweep = none ∧ t.fld F.PROOF_CMD_LINE = n.val ∧
      Framed [A.PROOF_CMD] [.proof] s t) ∧
  (∀ (s : State) (n : Fin 256) (m : Master) (priv : Bool), Direct s m priv A.PROOF_CMD → s.lines ≤ n.val ∨ s.lineUp n.val = false →
    (Answers (.proofCmdCommission n false m priv) s fun t =>
      t.on F.PROOF_EVT_CMD_REFUSED = true ∧ Framed [A.PROOF_CMD, A.PROOF_EVT] [] s t) ∧
    (Answers (.proofCmdRetire n false m priv) s fun t =>
      t.on F.PROOF_EVT_CMD_REFUSED = true ∧ Framed [A.PROOF_CMD, A.PROOF_EVT] [] s t) ∧
    (Answers (.proofCmdClear n false m priv) s fun t =>
      t.on F.PROOF_EVT_CMD_REFUSED = true ∧ Framed [A.PROOF_CMD, A.PROOF_EVT] [] s t)) ∧
  (∀ (s : State) (n : Fin 256) (m : Master) (priv : Bool), n.val < s.lines → Direct s m priv A.PROOF_CMD → s.lineUp n.val = true →
    s.lineState n.val ≠ 4 → (s.line n.val).perm = false → (s.line n.val).change = .none → s.spareFree n.val byCommand = false →
    s.class7 = false → (s.slotG (s.lineKey n.val)).state = 0 →
    Answers (.proofCmdRetire n false m priv) s fun t =>
      (t.line n.val).perm = true ∧ (t.line n.val).hard = false ∧ (t.line n.val).change = .lineFade ∧
      (t.slotG (s.lineKey n.val)).state = 1 ∧ Counts s t A.PROOF_CNT_RETIREMENTS 1 ∧ t.on F.PROOF_EVT_RETIRED = true ∧
      MemKept s t) ∧
  (∀ (s : State) (n : Fin 256) (m : Master) (priv : Bool), n.val < s.lines → Direct s m priv A.PROOF_CMD → s.lineUp n.val = true →
    s.lineState n.val ≠ 4 → (s.line n.val).perm = false → (s.line n.val).change = .none → s.spareFree n.val byCommand = false →
    s.class7 = true →
    Answers (.proofCmdRetire n false m priv) s fun t =>
      (t.line n.val).perm = true ∧ t.lineState n.val = 3 ∧ t.on F.PROOF_STATUS_FAULT = true ∧
      (t.slotG (s.lineKey n.val)).state = (s.slotG (s.lineKey n.val)).state ∧ Counts s t A.PROOF_CNT_RETIREMENTS 1) ∧
  (∀ (s : State) (n : Fin 256) (m : Master) (priv : Bool), n.val < s.lines → Direct s m priv A.PROOF_CMD → s.lineUp n.val = true →
    s.lineState n.val = 1 → (s.line n.val).perm = false → (s.line n.val).change = .none → s.spareFree n.val byCommand = true →
    (s.slotG (s.lineKey (s.spareOf n.val))).state = 0 →
    Answers (.proofCmdRetire n false m priv) s fun t =>
      (t.line n.val).perm = true ∧ (t.line n.val).change = .spareFade ∧ (t.slotG (s.lineKey (s.spareOf n.val))).state = 1 ∧
      t.lineState n.val = 1 ∧ Counts s t A.PROOF_CNT_RETIREMENTS 1) ∧
  (∀ (s : State) (n : Fin 256) (m : Master) (priv : Bool), n.val < s.lines → Direct s m priv A.PROOF_CMD → s.lineUp n.val = true →
    s.lineState n.val = 4 → (s.line n.val).change = .none → (s.slotG (s.lineKey n.val)).state = 2 →
    (∀ k < s.lines, s.lineState k ≠ 3) → s.class7 = false →
    Answers (.proofCmdClear n false m priv) s fun t =>
      t.lineState n.val = 1 ∧ (t.line n.val).perm = false ∧ t.fld (F.TBL_PLINE_W10_RETRY n.val) = 0 ∧
      t.fld (F.TBL_PLINE_W10_PASSES n.val) = 0 ∧ (t.slotG (s.lineKey n.val)).state = 3 ∧
      (t.line n.val).change = (if s.on (F.TBL_PLINE_W10_CHANGED n.val) then .backRamp else .probeRamp) ∧
      Counts s t A.PROOF_CNT_RESTORES 1 ∧ t.on F.PROOF_EVT_RESTORED = true ∧ MemKept s t) ∧
  (∀ (s : State) (n : Fin 256) (m : Master) (priv : Bool), n.val < s.lines → Direct s m priv A.PROOF_CMD → s.lineUp n.val = true →
    s.lineState n.val = 2 → (s.line n.val).perm = false →
    Answers (.proofCmdClear n false m priv) s fun t =>
      t.lineState n.val = 1 ∧ t.fld (F.TBL_PLINE_W10_RETRY n.val) = 0 ∧
      Framed [A.PROOF_CMD, A.TBL_PLINE_W10 n.val] [] s t) ∧
  (∀ (s : State) (n : Nat), n < s.lines → (s.line n).comm.isSome = true →
    Answers (.commissionTimeout n) s fun t =>
      t.on F.PROOF_EVT_COMM_FAIL = true ∧ (t.line n).comm = none ∧
      t.rd (A.TBL_PLINE_W4 n) = s.rd (A.TBL_PLINE_W4 n) ∧ Framed [A.TBL_PLINE_W8 n, A.PROOF_EVT] [.proof] s t) ∧
  (∀ (s : State) (n : Nat), n < s.lines → (s.line n).comm = none → Untouched (.commissionTimeout n) s)

/-- The run has ended: no line has anything of it left, and those not finished show ABORTED. -/
def RunEnded (st : Nat) (s t : State) : Prop :=
  t.fld F.PROOF_RUN_STATUS_STATE = st ∧ t.fld F.PROOF_RUN_STATUS_LINES_LEFT = 0 ∧ t.on F.PROOF_EVT_RUN_DONE = true ∧
    (∀ n ∈ s.sweepsLeft, t.fld (F.TBL_PLINE_W10_RUN_VERDICT n) = 7 ∧ t.rd (A.TBL_PLINE_W8 n) = 0) ∧ t.sweepsLeft = []

/-- The nightly run and path proof (R361 to R369): CMD.RUN starts a run in RUN and is refused where it may not; the run begins
once no lay yields; ABORT_RUN and the deadline end it; PATH_CLEAR; path frames are counted off; and a sender without an END
frame is logged. Where the spec leaves it open the statement follows the model's choices in notes/assumptions/7.md, 62.md. -/
def Obligations.ProofRuns : Prop :=
  (∀ (s : State) (m : Master) (priv : Bool), Direct s m priv A.PROOF_CMD → s.runOn = false → s.modState = 4 →
    Answers (.proofCmdRun m priv) s fun t =>
      t.fld F.PROOF_RUN_STATUS_STATE = 1 ∧ t.fld F.PROOF_RUN_STATUS_ABORTS = 0 ∧
      t.proof.number = (s.proof.number + 1) % 2 ^ 32 ∧ t.proof.woke = false ∧
      (∀ k < 128, t.on (F.TBL_PATH_W0_VALID k) = false) ∧ t.modState = 4 ∧
      Framed (A.PROOF_RUN_STATUS :: (List.range 512).map fun k => A.TBL_PATH_W0 0 + 4 * k) [.proof] s t) ∧
  (∀ (s : State) (m : Master) (priv : Bool), Direct s m priv A.PROOF_CMD → s.runOn = true ∨ (s.modState ≠ 4 ∧ s.modState ≠ 5) →
    Answers (.proofCmdRun m priv) s fun t => t.on F.PROOF_EVT_CMD_REFUSED = true ∧ Framed [A.PROOF_EVT] [] s t) ∧
  (∀ (s : State) (m : Master) (priv : Bool), Direct s m priv A.PROOF_CMD → s.runOn = true →
    Answers (.proofCmdAbortRun m priv) s (RunEnded 5 s)) ∧
  (∀ (s : State) (m : Master) (priv : Bool), Direct s m priv A.PROOF_CMD → s.runOn = false → Untouched (.proofCmdAbortRun m priv) s) ∧
  (∀ s : State, s.runOn = true → Answers .runDeadline s (RunEnded 5 s)) ∧
  (∀ s : State, s.runOn = false → Untouched .runDeadline s) ∧
  (∀ (s : State) (m : Master) (priv : Bool), Direct s m priv A.PROOF_CMD →
    Answers (.proofCmdPathClear m priv) s fun t => t.on F.PROOF_STATUS_PATH_FAULT = false ∧ Framed [A.PROOF_STATUS] [] s t) ∧
  (∀ (s : State) (n : Nat), s.fld F.PROOF_RUN_STATUS_STATE = 1 → s.fld F.PROOF_RUN_STATUS_ABORTS = 0 → s.yielding = false →
    s.test.running = none → s.test.reinit = none → n < s.lines → s.sweepable n = true → (s.line n).sweep = none →
    Answers .proofRunBegin s fun t =>
      t.fld F.PROOF_RUN_STATUS_STATE = 2 ∧ (∀ k < s.lines, s.sweepable k = true → (s.line k).sweep = none → (t.line k).sweep = some ⟨0, [], false, 0⟩) ∧
      t.fld F.PROOF_RUN_STATUS_LINES_LEFT = t.sweepsLeft.length ∧
      t.proof.path = (if s.on F.PROOF_RUN_CFG_PATH_EN then some 0 else s.proof.path) ∧ Framed [A.PROOF_RUN_STATUS] [.proof] s t) ∧
  (∀ s : State, s.fld F.PROOF_RUN_STATUS_STATE ≠ 1 ∨ s.yielding = true ∨
    s.testBusy (fun b => audioConcerns b && !s.yields b) = true → Untouched .proofRunBegin s) ∧
  (∀ (s : State) (group dt k : Nat), s.fld F.PROOF_RUN_STATUS_STATE = 3 → s.proof.path = some k → k < 1000 →
    Answers (.pathFrameSend group dt) s fun t =>
      t.proof.path = some (k + 1) ∧ t.fld F.PROOF_RUN_STATUS_STATE = 3 ∧ MemKept s t) ∧
  (∀ (s : State) (group dt : Nat), s.fld F.PROOF_RUN_STATUS_STATE = 3 → s.proof.path = some 1000 →
    Answers (.pathFrameSend group dt) s fun t =>
      t.proof.path = none ∧ t.fld F.PROOF_RUN_STATUS_STATE = 4 ∧ t.on F.PROOF_EVT_RUN_DONE = true) ∧
  (∀ (s : State) (group dt : Nat), s.runOn = false ∨ s.proof.path = none →
    Answers (.pathFrameSend group dt) s fun t => Framed timeRegs [.time, .clk, .mgmt] s t) ∧
  (∀ (s : State) (k : Nat), k < 128 → s.on (F.TBL_PATH_W0_VALID k) = true → s.fld (F.TBL_PATH_W3_RESULT_A k) = 0 →
    s.fld (F.TBL_PATH_W3_RESULT_B k) = 0 → s.mgmt.staging.length < 256 →
    Answers (.pathResultTimeout k) s fun t =>
      t.mgmt.staging = s.mgmt.staging ++
        [s.mkRecord 11 5 1 0xF 0 [s.rd (A.TBL_PATH_W1 k), s.fld (F.TBL_PATH_W0_MAC_HI k), 0, 0]] ∧
      Framed [] [.mgmt] s t) ∧
  (∀ (s : State) (k : Nat), k < 128 → s.on (F.TBL_PATH_W0_VALID k) = false ∨ s.fld (F.TBL_PATH_W3_RESULT_A k) ≠ 0 ∨
    s.fld (F.TBL_PATH_W3_RESULT_B k) ≠ 0 → Untouched (.pathResultTimeout k) s)

/-! ### Splice stacking (spec chapter 13) -/

/-- A splice frame that carries neither an echo nor control records. -/
abbrev Bare (f : SpliceFrame) : Prop := f.crcOk = true ∧ f.echo = none ∧ f.ctrl = []

/-- A splice port's link has gone down: its status reads zero, LINK_DOWN counts, LINK_CHG sets and the delay is measured anew. -/
def LinkGone (p : Splice) (s t : State) : Prop :=
  t.rd (A.SPLICE_PORT_STATUS p.idx) = 0 ∧ Counts s t (A.SPLICE_CNT_LINK_DOWN p.idx) 1 ∧ (t.sp p.idx).delays = [] ∧
    (t.sp p.idx).frame = none ∧ t.on (if p = .up then F.SPLICE_EVT_LINK_CHG_UP else F.SPLICE_EVT_LINK_CHG_DN) = true ∧
    (p = .up → s.on F.SPLICE_STATUS_ALIGNED = true →
      t.on F.SPLICE_STATUS_ALIGNED = false ∧ t.on F.SPLICE_EVT_ALIGN_LOST = true ∧ (s.role = 4 → t.role = 3))

/-- The registers that a link's going down may change. -/
def linkRegs (p : Splice) : List Nat :=
  [A.SPLICE_PORT_STATUS p.idx, A.SPLICE_CNT_LINK_DOWN p.idx, A.SPLICE_SAT p.idx, A.SPLICE_EVT, A.SPLICE_STATUS]

/-- Splice links (R376, R392, R393): block lock brings a link up; a link that goes down, by itself, by a retrain or by its port's
being disabled; and MODE, which is accepted only in STAGING. -/
def SpliceLinks : Prop :=
  (∀ (s : State) (p : Splice), s.spliceOn = true → s.spliceEn p.idx = true → s.spliceUp p.idx = false →
    Answers (.spliceBlockLock p) s fun t =>
      t.spliceUp p.idx = true ∧ t.on (F.SPLICE_PORT_STATUS_BLOCK_LOCK p.idx) = true ∧
      t.on (if p = .up then F.SPLICE_EVT_LINK_CHG_UP else F.SPLICE_EVT_LINK_CHG_DN) = true ∧
      Framed [A.SPLICE_PORT_STATUS p.idx, A.SPLICE_EVT] [] s t) ∧
  (∀ (s : State) (p : Splice), s.spliceOn = false ∨ s.spliceEn p.idx = false ∨ s.spliceUp p.idx = true →
    Untouched (.spliceBlockLock p) s) ∧
  (∀ (s : State) (p : Splice), Shaped s → s.spliceUp p.idx = true →
    Answers (.spliceLinkDown p) s fun t => LinkGone p s t ∧ Framed (linkRegs p) [.splice] s t) ∧
  (∀ (s : State) (p : Splice), s.spliceUp p.idx = false → Untouched (.spliceLinkDown p) s) ∧
  (∀ (s : State) (m : Master) (priv : Bool), Shaped s → Direct s m priv A.SPLICE_CTL → s.spliceUp 0 = true →
    Answers (.spliceRetrainUp m priv) s fun t => LinkGone .up s t ∧ Framed (linkRegs .up) [.splice] s t) ∧
  (∀ (s : State) (m : Master) (priv : Bool), Shaped s → Direct s m priv A.SPLICE_CTL → s.spliceUp 1 = true →
    Answers (.spliceRetrainDn m priv) s fun t => LinkGone .dn s t ∧ Framed (linkRegs .dn) [.splice] s t) ∧
  (∀ (s : State) (m : Master) (priv : Bool), Direct s m priv A.SPLICE_CTL →
    (s.spliceUp 0 = false → Untouched (.spliceRetrainUp m priv) s) ∧
    (s.spliceUp 1 = false → Untouched (.spliceRetrainDn m priv) s)) ∧
  (∀ (s : State) (m : Master) (priv : Bool) (x : Word), Direct s m priv A.SPLICE_CFG → AsItReads s A.SPLICE_CFG x →
    F.SPLICE_CFG_UP_EN.of x.toNat = 1 → F.SPLICE_CFG_DN_EN.of x.toNat = 1 →
    s.modState = 2 ∨ F.SPLICE_CFG_MODE.of x.toNat = s.fld F.SPLICE_CFG_MODE →
    Answers (.spliceCfgWrite (whole m priv x)) s fun t => t.reg A.SPLICE_CFG = x ∧ Framed [A.SPLICE_CFG] [] s t) ∧
  (∀ (s : State) (m : Master) (priv : Bool) (x : Word), Direct s m priv A.SPLICE_CFG → AsItReads s A.SPLICE_CFG x →
    F.SPLICE_CFG_UP_EN.of x.toNat = 1 → F.SPLICE_CFG_DN_EN.of x.toNat = 1 → s.modState ≠ 2 →
    F.SPLICE_CFG_MODE.of x.toNat ≠ s.fld F.SPLICE_CFG_MODE →
    Answers (.spliceCfgWrite (whole m priv x)) s fun t =>
      t.fld F.SPLICE_CFG_MODE = s.fld F.SPLICE_CFG_MODE ∧ t.fld F.SPLICE_CFG_REVERT = F.SPLICE_CFG_REVERT.of x.toNat ∧
      t.on F.SPLICE_EVT_CFG_REFUSED = true ∧ Framed [A.SPLICE_CFG, A.SPLICE_EVT] [] s t) ∧
  (∀ (s : State) (m : Master) (priv : Bool) (x : Word), Shaped s → Direct s m priv A.SPLICE_CFG → AsItReads s A.SPLICE_CFG x →
    F.SPLICE_CFG_UP_EN.of x.toNat = 0 → F.SPLICE_CFG_DN_EN.of x.toNat = 1 → F.SPLICE_CFG_MODE.of x.toNat = s.fld F.SPLICE_CFG_MODE →
    s.reg A.SPLICE_CFG ≠ x → s.spliceUp 0 = true →
    Answers (.spliceCfgWrite (whole m priv x)) s fun t =>
      t.reg A.SPLICE_CFG = x ∧ LinkGone .up s t ∧ Framed (A.SPLICE_CFG :: linkRegs .up) [.splice] s t)

/-- Splice frames and roles (R373, R374, R377, R381, R383, R385, R388, R389): what a frame does on a port whose link is down, with a
bad CRC, on DN of a module that leads and on UP of a member; its audio; alignment; the loss of the SPLICE reference; succession and
yielding. -/
def SpliceFramesAndRoles : Prop :=
  (∀ (s : State) (dt : Nat) (p : Splice) (f : SpliceFrame), s.spliceOn = false ∨ s.spliceUp p.idx = false →
    Answers (.spliceFrameRx dt p f) s fun t => Framed timeRegs [.time, .clk, .mgmt] s t) ∧
  (∀ (s : State) (dt : Nat) (p : Splice) (f : SpliceFrame), s.spliceOn = true → s.spliceUp p.idx = true → f.crcOk = false →
    (s.sp p.idx).crcEfs.length < 15 →
    Answers (.spliceFrameRx dt p f) s fun t =>
      Counts s t (A.SPLICE_CRC_ERR p.idx) 1 ∧ t.spliceUp p.idx = true ∧
      Framed (timeRegs ++ [A.SPLICE_CRC_ERR p.idx, A.SPLICE_SAT p.idx, A.SPLICE_EVT]) [.time, .clk, .mgmt, .splice] s t) ∧
  (∀ (s : State) (dt : Nat) (p : Splice) (f : SpliceFrame), Shaped s → s.spliceOn = true → s.spliceUp p.idx = true →
    f.crcOk = false → (s.sp p.idx).crcEfs.length = 15 → (∀ e ∈ (s.sp p.idx).crcEfs, s.clk.lastEf < e + 1000) →
    Answers (.spliceFrameRx dt p f) s fun t =>
      Counts s t (A.SPLICE_CRC_ERR p.idx) 1 ∧ LinkGone p s t ∧
      Framed (timeRegs ++ A.SPLICE_CRC_ERR p.idx :: linkRegs p) [.time, .clk, .mgmt, .splice] s t) ∧
  (∀ (s : State) (dt : Nat) (f : SpliceFrame), Shaped s → s.spliceOn = true → s.spliceUp 1 = true → Bare f → s.leads = true →
    s.play.running = false → (s.sp 0).sending = none →
    Answers (.spliceFrameRx dt .dn f) s fun t =>
      Counts s t (A.SPLICE_FRAMES_RX 1) 1 ∧
      t.fld F.SPLICE_STATUS_STACK_SIZE = (if s.role = 1 ∧ f.acting = true then 1 else min 4 (1 + f.size)) ∧
      t.role = s.role ∧ (t.sp 1).frame = some f ∧
      Framed (timeRegs ++ [A.SPLICE_FRAMES_RX 1, A.SPLICE_SAT 1, A.SPLICE_EVT, A.SPLICE_STATUS])
        [.time, .clk, .mgmt, .splice] s t) ∧
  (∀ (s : State) (dt : Nat) (f : SpliceFrame), s.spliceOn = true → s.spliceUp 0 = true → Bare f → s.role = 0 →
    s.on F.SPLICE_STATUS_STRAP = false → f.pos < 3 → f.rate = s.fld F.CLK_MEDIA_CFG_RATE → f.upLost = false →
    Answers (.spliceFrameRx dt .up f) s fun t =>
      Counts s t (A.SPLICE_FRAMES_RX 0) 1 ∧ t.role = 3 ∧ t.position = f.pos + 1 ∧
      t.fld F.SPLICE_STATUS_STACK_SIZE = min 4 f.size ∧ t.spliceMember = true) ∧
  (∀ (s : State) (dt : Nat) (f : SpliceFrame), s.spliceOn = true → s.spliceUp 0 = true → Bare f → s.role = 0 →
    s.on F.SPLICE_STATUS_STRAP = false → f.pos < 3 → f.rate ≠ s.fld F.CLK_MEDIA_CFG_RATE →
    Answers (.spliceFrameRx dt .up f) s fun t => t.role = 5 ∧ t.on F.SPLICE_EVT_RATE_MISMATCH = true ∧ MemKept s t) ∧
  (∀ (s : State) (dt : Nat) (f : SpliceFrame), s.spliceOn = true → s.spliceUp 0 = true → Bare f → s.role = 0 →
    s.on F.SPLICE_STATUS_STRAP = false → 3 ≤ f.pos →
    Answers (.spliceFrameRx dt .up f) s fun t => t.role = 5 ∧ t.on F.SPLICE_EVT_CHAIN_LONG = true ∧ MemKept s t) ∧
  (∀ (s : State) (dt : Nat) (f : SpliceFrame), s.spliceOn = true → s.spliceUp 0 = true → Bare f → s.role = 1 →
    s.on F.SPLICE_STATUS_STRAP = true → s.splice.asMember = false → f.acting = false → f.upLost = false → f.pos < 3 →
    f.rate = s.fld F.CLK_MEDIA_CFG_RATE →
    Answers (.spliceFrameRx dt .up f) s fun t =>
      t.role = 3 ∧ t.position = f.pos + 1 ∧ t.on F.SPLICE_EVT_STRAP_CONFLICT = true ∧ t.spliceMember = true) ∧
  (∀ (s : State) (dt : Nat) (f : SpliceFrame) (n slot : Nat) (ws : List Word), s.spliceOn = true → s.spliceUp 1 = true → Bare f →
    s.play.running = true → s.modState = 4 → s.role ≠ 5 → f.acting = false → s.rxSlots 1 = [(n, slot)] →
    f.audio = [(n, ws)] →
    Answers (.spliceFrameRx dt .dn f) s fun t =>
      ∀ j < s.efLen, t.sample slot ((f.ef + s.play.slack + 2) * s.efLen + j : Nat) = getAt ws j 0) ∧
  (∀ (s : State) (dt : Nat) (f : SpliceFrame) (n slot : Nat), s.spliceOn = true → s.spliceUp 1 = true → Bare f →
    s.play.running = true → s.modState = 4 → s.role ≠ 5 → f.acting = false → s.rxSlots 1 = [(n, slot)] → f.audio = [] →
    Answers (.spliceFrameRx dt .dn f) s fun t =>
      Counts s t (A.SPLICE_FRAME_MISS 1) 1 ∧
      ∀ j < s.efLen, t.sample slot ((f.ef + s.play.slack + 2) * s.efLen + j : Nat) = 0) ∧
  (∀ s : State, s.play.running = false → s.role = 3 → s.on (F.SPLICE_PORT_STATUS_DELAY_VALID 0) = true →
    s.splice.align = false → 3 ≤ s.modState → s.syncRef.isSome = true →
    Answers .spliceAlign s fun t =>
      t.role = 4 ∧ t.on F.SPLICE_STATUS_ALIGNED = true ∧ t.on F.SPLICE_EVT_ALIGNED = true ∧ MemKept s t) ∧
  (∀ s : State, s.play.running = true → s.role = 3 → s.on (F.SPLICE_PORT_STATUS_DELAY_VALID 0) = true →
    s.splice.align = false → 3 ≤ s.modState → s.syncRef.isSome = true →
    Answers .spliceAlign s fun t =>
      t.role = 3 ∧ t.splice.align = true ∧ t.on F.CLK_REALIGN_BUSY = true ∧ t.clk.realign = .fading ∧ MemKept s t) ∧
  (∀ s : State, s.role ≠ 3 → Untouched .spliceAlign s) ∧
  (∀ (s : State) (dt : Nat), s.spliceMember = true → s.splice.upLost = false →
    (∀ h ∈ (s.sp 0).heard, h.2 + s.smpUp (2 * s.efLen) ≤ s.time.up + dt) →
    Answers (.spliceRefLoss dt) s fun t =>
      t.fld (F.CLK_REF_INFO_STATE 7) = 3 ∧ t.fld (F.CLK_REF_INFO_WHY 7) = 1 ∧ t.on F.CLK_EVT_REF_LOST = true ∧
      t.splice.upLost = true ∧ (s.refInUse = 7 → t.refInUse = 0) ∧
      (s.refInUse ≠ 7 → Framed (timeRegs ++ [A.CLK_REF_INFO 7]) [.time, .clk, .mgmt, .splice] s t)) ∧
  (∀ (s : State) (dt : Nat), s.spliceMember = false ∨ s.splice.upLost = true →
    Answers (.spliceRefLoss dt) s fun t => Framed timeRegs [.time, .clk, .mgmt] s t) ∧
  (∀ (s : State) (dt t0 : Nat), s.spliceOn = true → s.leads = false → (s.sp 0).frameUp = some t0 →
    t0 + 50 * msU ≤ s.time.up + dt →
    Answers (.spliceSuccession dt) s fun t =>
      t.role = 2 ∧ t.position = 0 ∧ t.on F.SPLICE_STATUS_ALIGNED = false ∧ t.on F.SPLICE_EVT_SUCCESSION = true ∧
      t.spliceMember = false) ∧
  (∀ (s : State) (dt t0 : Nat), (s.sp 0).frameUp = some t0 →
    s.spliceOn = false ∨ s.leads = true ∨ s.time.up + dt < t0 + 50 * msU →
    Answers (.spliceSuccession dt) s fun t => Framed timeRegs [.time, .clk, .mgmt] s t) ∧
  (∀ (s : State) (m : Master) (priv : Bool), Direct s m priv A.SPLICE_CTL → s.role = 2 →
    Answers (.spliceYield m priv) s fun t =>
      t.role = 3 ∧ t.position = 1 ∧ t.fld F.SPLICE_STATUS_STACK_SIZE = 2 ∧ t.on F.SPLICE_EVT_YIELDED = true ∧
      t.spliceMember = true ∧ MemKept s t) ∧
  (∀ (s : State) (m : Master) (priv : Bool), Direct s m priv A.SPLICE_CTL → s.role ≠ 2 → Untouched (.spliceYield m priv) s) ∧
  (∀ (s : State) (dt t0 : Nat), s.splice.strapUp = some t0 → s.on F.SPLICE_CFG_REVERT = true → t0 + 10 * secU ≤ s.time.up + dt →
    s.role = 2 →
    Answers (.spliceRevert dt) s fun t =>
      t.role = 3 ∧ t.position = 1 ∧ t.on F.SPLICE_EVT_YIELDED = true ∧ t.spliceMember = true ∧ MemKept s t) ∧
  (∀ (s : State) (dt t0 : Nat), s.splice.strapUp = some t0 →
    s.on F.SPLICE_CFG_REVERT = false ∨ s.time.up + dt < t0 + 10 * secU →
    Answers (.spliceRevert dt) s fun t => Framed timeRegs [.time, .clk, .mgmt] s t)

/-- Splice stacking: links and frames, roles, alignment and succession. Where the spec leaves it open the statement follows the
model's choices in notes/assumptions/63.md. -/
def Obligations.SpliceStacking : Prop := SpliceLinks ∧ SpliceFramesAndRoles

/-! ### Forwarded accesses and the host link (spec chapters 13 and 14) -/

/-- A forwarded access has ended with a RESULT. -/
def FwdEnded (result : Nat) (t : State) : Prop :=
  t.on F.SPLICE_FWD_CTL_BUSY = false ∧ t.fld F.SPLICE_FWD_CTL_RESULT = result ∧ t.on F.SPLICE_EVT_FWD_DONE = true ∧
    t.splice.fwd = none

/-- Forwarded accesses (R391, R395): a command while BUSY is refused; a misaligned address and a position that is not there end at
once; another access goes out as a control record towards its position; and a completion or its absence ends it. -/
def ForwardedAccesses : Prop :=
  (∀ (s : State) (m : Master) (priv : Bool), Direct s m priv A.SPLICE_FWD_CTL → s.on F.SPLICE_FWD_CTL_BUSY = true →
    (Answers (.fwdWrite m priv) s fun t => t.on F.SPLICE_EVT_FWD_REFUSED = true ∧ Framed [A.SPLICE_EVT] [] s t) ∧
    (Answers (.fwdRead m priv) s fun t => t.on F.SPLICE_EVT_FWD_REFUSED = true ∧ Framed [A.SPLICE_EVT] [] s t)) ∧
  (∀ (s : State) (m : Master) (priv : Bool), Direct s m priv A.SPLICE_FWD_CTL → s.on F.SPLICE_FWD_CTL_BUSY = false →
    s.fld F.SPLICE_FWD_ADDR_ADDR % 4 ≠ 0 →
    (Answers (.fwdWrite m priv) s fun t => FwdEnded 5 t ∧ Framed [A.SPLICE_FWD_CTL, A.SPLICE_EVT] [.splice] s t) ∧
    (Answers (.fwdRead m priv) s fun t => FwdEnded 5 t ∧ Framed [A.SPLICE_FWD_CTL, A.SPLICE_EVT] [.splice] s t)) ∧
  (∀ (s : State) (m : Master) (priv : Bool), Direct s m priv A.SPLICE_FWD_CTL → s.on F.SPLICE_FWD_CTL_BUSY = false →
    s.fld F.SPLICE_FWD_ADDR_ADDR % 4 = 0 →
    s.fld F.SPLICE_FWD_ADDR_POS = 0 ∨ s.fld F.SPLICE_STATUS_STACK_SIZE ≤ s.fld F.SPLICE_FWD_ADDR_POS →
    (Answers (.fwdWrite m priv) s fun t => FwdEnded 1 t ∧ Framed [A.SPLICE_FWD_CTL, A.SPLICE_EVT] [.splice] s t) ∧
    (Answers (.fwdRead m priv) s fun t => FwdEnded 1 t ∧ Framed [A.SPLICE_FWD_CTL, A.SPLICE_EVT] [.splice] s t)) ∧
  (∀ (s : State) (m : Master) (priv : Bool) (pos : Nat), Shaped s → Direct s m priv A.SPLICE_FWD_CTL →
    s.on F.SPLICE_FWD_CTL_BUSY = false → s.fld F.SPLICE_FWD_ADDR_ADDR % 4 = 0 → s.fld F.SPLICE_FWD_ADDR_POS = pos → pos ≠ 0 →
    pos < s.fld F.SPLICE_STATUS_STACK_SIZE → (s.sp (s.towards pos)).ctrl.length < 64 →
    (Answers (.fwdWrite m priv) s fun t =>
      t.on F.SPLICE_FWD_CTL_BUSY = true ∧ t.splice.fwd = some false ∧
      (t.sp (s.towards pos)).ctrl = (s.sp (s.towards pos)).ctrl ++
        [.access s.position pos (s.fld F.SPLICE_FWD_ADDR_ADDR) (some (s.rd A.SPLICE_FWD_DATA)) (s.masterPriv m priv)] ∧
      Framed [A.SPLICE_FWD_CTL] [.splice] s t) ∧
    (Answers (.fwdRead m priv) s fun t =>
      t.on F.SPLICE_FWD_CTL_BUSY = true ∧ t.splice.fwd = some true ∧
      (t.sp (s.towards pos)).ctrl = (s.sp (s.towards pos)).ctrl ++
        [.access s.position pos (s.fld F.SPLICE_FWD_ADDR_ADDR) none (s.masterPriv m priv)] ∧
      Framed [A.SPLICE_FWD_CTL] [.splice] s t)) ∧
  (∀ (s : State) (dt r w : Nat) (f : SpliceFrame) (read : Bool), s.spliceOn = true → s.spliceUp 1 = true → f.crcOk = true →
    f.echo = none → s.play.running = false → s.splice.fwd = some read → f.ctrl = [.done s.position r w] → r < 16 →
    Answers (.spliceFrameRx dt .dn f) s fun t =>
      FwdEnded r t ∧ t.rd A.SPLICE_FWD_DATA = (if read = true ∧ r = 0 then w % 2 ^ 32 else s.rd A.SPLICE_FWD_DATA)) ∧
  (∀ (s : State) (dt : Nat), s.on F.SPLICE_FWD_CTL_BUSY = true →
    Answers (.fwdComplete dt) s fun t =>
      FwdEnded 2 t ∧ Framed (timeRegs ++ [A.SPLICE_FWD_CTL, A.SPLICE_EVT]) [.time, .clk, .mgmt, .splice] s t) ∧
  (∀ (s : State) (dt : Nat), s.on F.SPLICE_FWD_CTL_BUSY = false →
    Answers (.fwdComplete dt) s fun t => Framed timeRegs [.time, .clk, .mgmt] s t)

/-- The registers that an SPI frame's counters may change. -/
def spiRegs : List Nat := [A.SYS_CNT_SPI_CRC_ERR, A.SYS_CNT_SPI_REFUSED, A.SYS_CNT_SAT, A.SYS_PCIE_EVT, A.SYS_ACC_STATUS, A.SYS_ACC_ADDR, A.SYS_EVT]

/-- SPI frames (R400 to R402): a frame that is misaligned or lacks a required CRC, and a read whose header CRC fails, are refused
whole; a write whose CRC fails lands nothing; a good write lands its word, and a good read answers with the word. -/
def SpiFrames : Prop :=
  (∀ (s : State) (dt adr count rx : Nat) (quad crc incr : Bool), adr % 4 ≠ 0 ∨ (crc = false ∧ s.on F.SYS_SPI_CFG_CRC_REQ = true) →
    crc = false ∨ rx = crc16 (SpiHead.mk true quad crc incr adr count).bytes →
    Answers (.spiReadFrame dt adr count rx quad crc incr) s fun t =>
      Out.spi (some 0x5A) [] none (if adr % 4 = 0 then 0xA0 else 0xA4) ∈ t.out ∧ Counts s t A.SYS_CNT_SPI_REFUSED 1 ∧
      (adr % 4 ≠ 0 → t.on F.SYS_ACC_STATUS_ACC_ERR = true) ∧
      Framed (timeRegs ++ spiRegs) [.time, .clk, .mgmt] s t) ∧
  (∀ (s : State) (dt adr count rx : Nat) (quad incr : Bool), adr % 4 = 0 →
    rx ≠ crc16 (SpiHead.mk true quad true incr adr count).bytes →
    Answers (.spiReadFrame dt adr count rx quad true incr) s fun t =>
      Out.spi (some 0x5A) [] none 0xA2 ∈ t.out ∧ Counts s t A.SYS_CNT_SPI_REFUSED 1 ∧ Counts s t A.SYS_CNT_SPI_CRC_ERR 1 ∧
      Framed (timeRegs ++ spiRegs) [.time, .clk, .mgmt] s t) ∧
  (∀ (s : State) (dt adr rx : Nat) (quad incr : Bool), adr % 4 = 0 → adr < 2 ^ 24 → s.on F.SYS_SPI_CFG_CRC_REQ = false →
    s.on F.SYS_ACC_STATUS_SPI_PRIV = true →
    Answers (.spiReadFrame dt adr 1 rx quad false incr) s fun t =>
      Out.spi (some 0xA5) [BitVec.ofNat 32 ((s.advance dt).busGet .spi false adr).1] none 0x80 ∈ t.out) ∧
  (∀ (s : State) (dt adr count rx : Nat) (quad incr : Bool) (words : List Word), words.length = count →
    adr % 4 ≠ 0 ∨ s.on F.SYS_SPI_CFG_CRC_REQ = true →
    Answers (.spiWriteFrame dt adr count (some rx) quad false incr words) s fun t =>
      Out.spi none [] none (if adr % 4 = 0 then 0xA0 else 0xA4) ∈ t.out ∧ Counts s t A.SYS_CNT_SPI_REFUSED 1 ∧
      (adr % 4 ≠ 0 → t.on F.SYS_ACC_STATUS_ACC_ERR = true) ∧
      Framed (timeRegs ++ spiRegs) [.time, .clk, .mgmt] s t) ∧
  (∀ (s : State) (dt adr count rx : Nat) (quad incr : Bool) (words : List Word), adr % 4 = 0 → words.length = count →
    rx ≠ crc16 ((SpiHead.mk false quad true incr adr count).bytes ++ (words.map wordBytes).flatten) →
    Answers (.spiWriteFrame dt adr count (some rx) quad true incr words) s fun t =>
      Out.spi none [] none 0x82 ∈ t.out ∧ Counts s t A.SYS_CNT_SPI_CRC_ERR 1 ∧
      Framed (timeRegs ++ spiRegs) [.time, .clk, .mgmt] s t) ∧
  (∀ (s : State) (dt count : Nat) (rx : Option Nat) (quad incr : Bool) (words : List Word), words.length < count →
    Answers (.spiWriteFrame dt A.SYS_IRQ_EN_F0 count rx quad true incr words) s fun t =>
      Framed timeRegs [.time, .clk, .mgmt] s t) ∧
  (∀ (s : State) (dt rx : Nat) (quad crc incr : Bool) (x : Word), Direct s .spi false A.SYS_IRQ_EN_F0 →
    AsItReads s A.SYS_IRQ_EN_F0 x →
    (crc = false ∧ s.on F.SYS_SPI_CFG_CRC_REQ = false) ∨
      (crc = true ∧ rx = crc16 ((SpiHead.mk false quad true incr A.SYS_IRQ_EN_F0 1).bytes ++ wordBytes x)) →
    Answers (.spiWriteFrame dt A.SYS_IRQ_EN_F0 1 (some rx) quad crc incr [x]) s fun t =>
      t.reg A.SYS_IRQ_EN_F0 = x ∧ Out.spi none [] none 0x80 ∈ t.out ∧
      Framed (timeRegs ++ [A.SYS_IRQ_EN_F0]) [.time, .clk, .mgmt] s t)

/-- The transmit descriptor that the host's ring comes to next. -/
def headDesc (s : State) : Nat := txDesc s.bus.hostTx

/-- The module owns the next descriptor and no more. -/
abbrev OneOwned (s : State) : Prop :=
  s.bus.hostTx < 256 ∧ (s.bar2 (headDesc s)).testBit 31 = true ∧ (s.bar2 (txDesc ((s.bus.hostTx + 1) % 256))).testBit 31 = false

/-- The next descriptor has completed with its flags, and no other byte of memory has changed. -/
def Completed (flags : Nat) (s t : State) : Prop :=
  t.bar2 (headDesc s) = s.bar2 (headDesc s) % 2 ^ 28 + flags + (if (s.bar2 (headDesc s)).testBit 30 then 2 ^ 30 else 0) ∧
    t.bus.hostTx = (s.bus.hostTx + 1) % 256 ∧ t.on F.SYS_PCIE_EVT_FRAME_TXC = true ∧ MemKeptBut (bar2Base + headDesc s) 4 s t

/-- The host link (R411, R412, R438, R548): FRAME_DB.TX scans the transmit ring; the data link comes up and goes down; PERST_N
resets the endpoint alone; and EOI arms vectors. -/
def HostLink : Prop :=
  (∀ (s : State) (m : Master) (priv : Bool), Direct s m priv A.SYS_FRAME_DB →
    s.on F.SYS_PCIE_CFG_FRAME_EN = false ∨ (s.bar2 (headDesc s)).testBit 31 = false → Untouched (.frameDbTx m priv) s) ∧
  (∀ (s : State) (m : Master) (priv : Bool), Direct s m priv A.SYS_FRAME_DB → s.on F.SYS_PCIE_CFG_FRAME_EN = true → OneOwned s →
    s.bar2 (headDesc s) / 2 ^ 14 % 2 ^ 14 < 60 →
    Answers (.frameDbTx m priv) s fun t =>
      Completed flagErr s t ∧ RegsKept [A.SYS_PCIE_EVT] s t ∧ ∀ p : Part, p ≠ .bus → p.Same s t) ∧
  (∀ (s : State) (m : Master) (priv : Bool), Direct s m priv A.SYS_FRAME_DB → s.on F.SYS_PCIE_CFG_FRAME_EN = true → OneOwned s →
    60 ≤ s.bar2 (headDesc s) / 2 ^ 14 % 2 ^ 14 → s.bar2 (headDesc s) / 2 ^ 14 % 2 ^ 14 ≤ 1000 →
    bufOk (s.bar2 (headDesc s + 4)) (s.bar2 (headDesc s) / 2 ^ 14 % 2 ^ 14) = true → (s.bar2 (headDesc s)).testBit 30 = false →
    s.on (F.RING_PORT_CFG_JUMBO_EN 0) = false →
    Answers (.frameDbTx m priv) s fun t => Completed 0 s t ∧ Counts s t A.SYS_CNT_FRAME_TX 1) ∧
  (∀ (s : State) (speed : Nat), 1 ≤ speed → speed ≤ 3 → s.unitOn 13 = true →
    Answers (.pcieLinkChange speed) s fun t =>
      t.on F.SYS_PCIE_STATUS_LINK_UP = true ∧ t.fld F.SYS_PCIE_STATUS_SPEED = speed ∧
      (s.on F.SYS_PCIE_STATUS_LINK_UP = false → t.on F.SYS_PCIE_EVT_LINK_CHG = true) ∧
      Framed [A.SYS_PCIE_STATUS, A.SYS_PCIE_EVT] [] s t) ∧
  (∀ s : State,
    Answers (.pcieLinkChange 0) s fun t =>
      t.on F.SYS_PCIE_STATUS_LINK_UP = false ∧ t.fld F.SYS_PCIE_STATUS_SPEED = 0 ∧
      (s.on F.SYS_PCIE_STATUS_LINK_UP = true → t.on F.SYS_PCIE_EVT_LINK_CHG = true) ∧
      Framed [A.SYS_PCIE_STATUS, A.SYS_PCIE_EVT] [] s t) ∧
  (∀ (s : State) (speed : Nat), 1 ≤ speed → s.unitOn 13 = false → Untouched (.pcieLinkChange speed) s) ∧
  (∀ s : State,
    Answers .pciePerst s fun t =>
      t.on F.SYS_PCIE_STATUS_LINK_UP = false ∧ t.fld F.SYS_PCIE_STATUS_SPEED = 0 ∧ t.msix = State.reset.msix ∧
      Framed [A.SYS_PCIE_STATUS, A.SYS_PCIE_EVT] [] s t) ∧
  (∀ (s : State) (f1 : Bool) (vecs : BitVec 16) (m : Master) (priv : Bool),
    Direct s m priv (A.SYS_MSIX_EOI (if f1 then 1 else 0)) → s.on F.SYS_PCIE_STATUS_LINK_UP = false →
    Answers (.msixEoi f1 vecs m priv) s fun t =>
      t.msix = updAt s.msix (if f1 then 1 else 0) (fun x => { x with armed := x.armed ||| vecs.toNat }) ∧ Framed [] [] s t)

/-- The paths of a host and of a master module: forwarded accesses, SPI frames and the PCIe endpoint. Where the spec leaves it
open the statement follows the model's choices in notes/assumptions/64.md, 65.md, 82.md. -/
def Obligations.HostPaths : Prop := ForwardedAccesses ∧ SpiFrames ∧ HostLink

/-! ### Register access (spec chapter 14) -/

/-- The interrupt enable registers (R437). -/
def irqEnables : List Nat := [A.SYS_IRQ_EN_MP, A.SYS_IRQ_EN_PIN, A.SYS_IRQ_EN_F0, A.SYS_IRQ_EN_F1]

/-- An access fault shows: its bit and event, and the first since all three bits were clear is captured (R422). -/
def AccessFault (bit evt : Fld) (m : Master) (a : Nat) (s t : State) : Prop :=
  t.on bit = true ∧ t.on evt = true ∧
    (s.rd A.SYS_ACC_STATUS &&& 14 = 0 → t.fld F.SYS_ACC_ADDR_MASTER = m.code ∧ t.fld F.SYS_ACC_ADDR_ADDR = a % 2 ^ 24) ∧
    (s.rd A.SYS_ACC_STATUS &&& 14 ≠ 0 → t.reg A.SYS_ACC_ADDR = s.reg A.SYS_ACC_ADDR)

/-- The registers that an access fault may change. -/
def accRegs : List Nat := [A.SYS_ACC_STATUS, A.SYS_ACC_ADDR, A.SYS_EVT]

/-- The word that a master's read has just returned. -/
def Returned (m : Master) (w : Word) (s t : State) : Prop := t.resp = setAt s.resp m.code w

/-- The start-up tests have not begun or have ended. -/
abbrev NotStarting (s : State) : Prop := s.test.startup = false ∨ s.test.startupDone = true

/-- Register writes (R414, R417 to R425): a whole word lands at once; the last of one cycle's writes stands, and a difference shows in
CONTEND; W1C bits clear; partial and misaligned writes, changed reserved bits and unprivileged writes of PRV fields set their bits;
unimplemented addresses ignore writes; and a write to a slow domain is posted, or lost while the domain is full. -/
def RegisterWrites : Prop :=
  (∀ (s : State) (a : Nat) (m : Master) (priv : Bool) (x : Word), a ∈ irqEnables → Direct s m priv a → AsItReads s a x →
    Answers (.registerWrite a (whole m priv x)) s fun t => t.reg a = x ∧ Framed [a] [] s t) ∧
  (∀ (s : State) (a : Nat) (p q : Bool) (x y : Word), a ∈ irqEnables → Direct s .mp p a → AsItReads s a x → AsItReads s a y → x ≠ y →
    Answers (.registerWrite a [⟨.mp, p, 15, x⟩, ⟨.spi, q, 15, y⟩]) s fun t =>
      t.reg a = x ∧ t.fld F.SYS_CONTEND_WINNER = 0 ∧ t.on F.SYS_CONTEND_LOST_SPI = true ∧ t.on F.SYS_CONTEND_LOST_F0 = false ∧
      t.on F.SYS_CONTEND_LOST_F1 = false ∧ t.on F.SYS_CONTEND_LOST_SCP = false ∧ t.fld F.SYS_CONTEND_ADDR = a ∧
      Counts s t A.SYS_CNT_CONTENDS 1 ∧ t.on F.SYS_EVT_CONTEND = true ∧
      Framed [a, A.SYS_CONTEND, A.SYS_CNT_CONTENDS, A.SYS_CNT_SAT, A.SYS_PCIE_EVT, A.SYS_EVT] [] s t) ∧
  (∀ (s : State) (m : Master) (priv : Bool) (x : Word), Direct s m priv A.SYS_EVT → AsItReads s A.SYS_EVT x →
    Answers (.registerWrite A.SYS_EVT (whole m priv x)) s fun t =>
      t.rd A.SYS_EVT = clearBits (s.rd A.SYS_EVT) (x.toNat % 64) ∧ Framed [A.SYS_EVT] [] s t) ∧
  (∀ (s : State) (a be : Nat) (m : Master) (priv : Bool) (x : Word), a % 4 ≠ 0 ∨ be % 16 ≠ 15 → NotStarting s →
    Answers (.registerWrite a [⟨m, priv, be, x⟩]) s fun t =>
      AccessFault F.SYS_ACC_STATUS_ACC_ERR F.SYS_EVT_ACC_ERR m a s t ∧ Framed accRegs [] s t) ∧
  (∀ (s : State) (a : Nat) (m : Master) (priv : Bool) (x : Word), a ∈ irqEnables → Direct s m priv a →
    (x.toNat ^^^ s.rd a) / 2 ^ 20 ≠ 0 →
    Answers (.registerWrite a (whole m priv x)) s fun t =>
      t.rd a % 2 ^ 20 = x.toNat % 2 ^ 20 ∧ AccessFault F.SYS_ACC_STATUS_RSV_WR F.SYS_EVT_RSV_WR m a s t ∧
      Framed (a :: accRegs) [.free] s t) ∧
  (∀ (s : State) (m : Master) (priv : Bool) (x : Word), s.effectOwed A.SPLICE_CTL = false → s.masterPriv m priv = false →
    AsItReads s A.SPLICE_CTL x → x.toNat % 8 = 4 →
    Answers (.registerWrite A.SPLICE_CTL (whole m priv x)) s fun t =>
      AccessFault F.SYS_ACC_STATUS_PRIV_VIOL F.SYS_EVT_PRIV_VIOL m A.SPLICE_CTL s t ∧ Framed accRegs [] s t) ∧
  (∀ (s : State) (a : Nat) (m : Master) (priv : Bool) (x : Word), a % 4 = 0 → rowAt s.variant a = none →
    a < 0xF000 ∨ (0x10000 ≤ a ∧ a < 0x200000) → Untouched (.registerWrite a (whole m priv x)) s) ∧
  (∀ (s : State) (m : Master) (priv : Bool) (x : Word), s.posted 0 < 64 →
    Answers (.registerWrite A.TEST_YIELD (whole m priv x)) s fun t =>
      t.bus = { s.bus with posts := s.bus.posts ++ [⟨0, A.TEST_YIELD, x, m, s.masterPriv m priv⟩] } ∧ Framed [] [.bus] s t) ∧
  (∀ (s : State) (m : Master) (priv : Bool) (x : Word), 64 ≤ s.posted 0 →
    Answers (.registerWrite A.TEST_YIELD (whole m priv x)) s fun t =>
      t.on F.SYS_POST_STATUS_POST_LOST = true ∧ t.on F.SYS_EVT_POST_LOST = true ∧
      (s.on F.SYS_POST_STATUS_POST_LOST = false →
        t.fld F.SYS_POST_LOST_ADDR_MASTER = m.code ∧ t.fld F.SYS_POST_LOST_ADDR_DOMAIN = 0 ∧
        t.fld F.SYS_POST_LOST_ADDR_ADDR = A.TEST_YIELD) ∧
      (s.on F.SYS_POST_STATUS_POST_LOST = true → t.reg A.SYS_POST_LOST_ADDR = s.reg A.SYS_POST_LOST_ADDR) ∧
      Framed [A.SYS_POST_STATUS, A.SYS_POST_LOST_ADDR, A.SYS_EVT] [] s t)

/-- Posted writes, reads and counters (R67, R414, R416, R478, R479): a domain's oldest posted write lands; a read of a slow domain
completes after what was posted to it; a read of a counter clears it; the low word of a lifetime counter latches the high one; and
Yunasel adds every MSTAT counter to its total. -/
def PostedWritesAndReads : Prop :=
  (∀ (s : State) (d : Fin 5), s.posted d.val = 0 → NotStarting s → Untouched (.postedWriteLand d) s) ∧
  (∀ (s : State) (k : Nat) (m : Master) (priv : Bool) (x : Word) (rest : List Posted), k < 2 →
    s.bus.posts = ⟨0, A.MGMT_TZ_DST k, x, m, priv⟩ :: rest → AsItReads s (A.MGMT_TZ_DST k) x →
    s.effectOwed (A.MGMT_TZ_DST k) = false → NotStarting s →
    Answers (.postedWriteLand 0) s fun t =>
      t.reg (A.MGMT_TZ_DST k) = x ∧ t.bus = { s.bus with posts := rest } ∧ Framed [A.MGMT_TZ_DST k] [.bus] s t) ∧
  (∀ (s : State) (m : Master) (priv : Bool), s.bus.posts = [] → s.unitAwake 0 = true →
    Answers (.slowDomainRead A.TEST_YIELD m priv) s fun t => Returned m (s.reg A.TEST_YIELD) s t ∧ Framed [] [.resp] s t) ∧
  (∀ (s : State) (k : Nat) (m by' : Master) (priv p : Bool) (x : Word), k < 2 → s.bus.posts = [⟨0, A.MGMT_TZ_DST k, x, by', p⟩] →
    AsItReads s (A.MGMT_TZ_DST k) x → s.effectOwed (A.MGMT_TZ_DST k) = false →
    Answers (.slowDomainRead (A.MGMT_TZ_DST k) m priv) s fun t =>
      Returned m x s t ∧ t.bus.posts = [] ∧ t.reg (A.MGMT_TZ_DST k) = x ∧ Framed [A.MGMT_TZ_DST k] [.bus, .resp] s t) ∧
  (∀ (s : State) (a : Nat) (m : Master) (priv : Bool), a % 4 ≠ 0 →
    Answers (.slowDomainRead a m priv) s fun t =>
      Returned m 0 s t ∧ AccessFault F.SYS_ACC_STATUS_ACC_ERR F.SYS_EVT_ACC_ERR m a s t ∧ Framed accRegs [.resp] s t) ∧
  (∀ (s : State) (i : Nat) (m : Master) (priv : Bool), i < 60 → s.unitAwake 3 = true →
    Answers (.counterRead (mstatAdr i) m priv) s fun t =>
      Returned m (s.reg (mstatAdr i)) s t ∧ t.rd (mstatAdr i) = 0 ∧ Framed [mstatAdr i] [.resp] s t) ∧
  (∀ (s : State) (k : Nat) (m : Master) (priv : Bool), k < 23 → s.bus.posts = [] → s.unitAwake 0 = true → s.mgmt.started = true →
    Answers (.lifetimeCounterLowRead (A.MGMT_LIFE_LO k) m priv) s fun t =>
      Returned m (BitVec.ofNat 32 (getAt s.mgmt.life k 0)) s t ∧
      t.mgmt = { s.mgmt with
        lifeLatch := setAt s.mgmt.lifeLatch m.code (getAt s.mgmt.life k 0 / 2 ^ 32)
        lifeLatchSat := setAt s.mgmt.lifeLatchSat m.code (s.mgmt.lifeSat.testBit k) } ∧
      Framed [] [.resp, .mgmt] s t) ∧
  (∀ s : State, s.mgmt.started = true → s.mgmt.totals.length = 60 →
    Answers .mstatTotals s fun t =>
      (∀ i < 60, getAt t.mgmt.totals i 0 = (getAt s.mgmt.totals i 0 + s.rd (mstatAdr i)) % 2 ^ 64 ∧ t.rd (mstatAdr i) = 0) ∧
      Framed ((List.range 60).map mstatAdr) [.mgmt] s t) ∧
  (∀ s : State, s.mgmt.started = false → Untouched .mstatTotals s)

/-- Register access: writes, posted writes, reads and counters. Where the spec leaves it open the statement follows the model's
choices in notes/assumptions/12.md, 13.md, 14.md, 17.md. -/
def Obligations.RegisterAccess : Prop := RegisterWrites ∧ PostedWritesAndReads

/-! ### Host message queues (spec chapter 15) -/

/-- Only one queue's own state has changed among the queues. -/
def QueueOnly (q : Nat) (s t : State) : Prop := ∀ k, k ≠ q → t.q k = s.q k

/-- Host message queues (R441 to R451): a message whose words fit is admitted whole and numbered; one that does not fit is
refused whole and numbered; its last word makes it complete; a read begins with the eligible message of highest priority, is
locked to it to its last word, and otherwise returns the last value; and a pointer mismatch and FLUSH empty the queue. Where the
spec leaves it open the statement follows the model's choices in notes/assumptions/70.md. -/
def Obligations.HostMessageQueues : Prop :=
  (∀ (s : State) (q n : Nat) (m : Msg) (rest : List Msg), Shaped s → q < 4 → s.blockOk 7 = true → (s.q q).portIdle = true →
    (s.q q).waiting = m :: rest → (s.msgWords m (s.q q).nextSeq).length ≤ (s.q q).freeWords →
    Answers (.hmqMessageOffer q n) s fun t =>
      (t.q q).waiting = rest ∧ (t.q q).nextSeq = ((s.q q).nextSeq + 1) % 2 ^ 32 ∧ (t.q q).lock = (s.q q).lock ∧
      (∃ e, (t.q q).held = (s.q q).held.map (HeldMsg.refresh (s.fld (F.HMQ_CFG_CT_64 q))) ++
        [⟨m.prio, 4 * m.body.length, s.msgWords m (s.q q).nextSeq,
          clampN 1 ((s.msgWords m (s.q q).nextSeq).length - 1) n, 0, e⟩]) ∧
      Counts s t (A.HMQ_CNT_PUSHED q) 1 ∧ QueueOnly q s t ∧
      Framed [A.HMQ_CNT_PUSHED q, A.HMQ_CNT_SAT q, A.HMQ_EVT q] [.hmq] s t) ∧
  (∀ (s : State) (q n : Nat) (m : Msg) (rest : List Msg), Shaped s → q < 4 → (s.q q).portIdle = true →
    (s.q q).waiting = m :: rest → s.blockOk 7 = false ∨ (s.q q).freeWords < (s.msgWords m (s.q q).nextSeq).length → m.src ≠ 2 →
    Answers (.hmqMessageOffer q n) s fun t =>
      t.q q = { s.q q with waiting := rest, nextSeq := ((s.q q).nextSeq + 1) % 2 ^ 32 } ∧ QueueOnly q s t ∧
      Counts s t (A.HMQ_CNT_DROPPED q) 1 ∧ t.on (F.HMQ_EVT_OVF q) = true ∧
      Framed [A.HMQ_CNT_DROPPED q, A.HMQ_CNT_SAT q, A.HMQ_EVT q] [.hmq] s t) ∧
  (∀ (s : State) (q n : Nat) (m : Msg) (rest : List Msg), q < 4 → (s.q q).portIdle = true → (s.q q).waiting = m :: rest →
    s.blockOk 7 = false ∨ (s.q q).freeWords < (s.msgWords m (s.q q).nextSeq).length → m.src = 2 →
    Answers (.hmqMessageOffer q n) s fun t =>
      Counts s t (A.HMQ_CNT_DROPPED q) 1 ∧ Counts s t A.XPT_CNT_METER_DROP 1 ∧ t.on F.XPT_EVT_METER_DROP = true) ∧
  (∀ (s : State) (q n : Nat), q < 4 → (s.q q).waiting = [] ∨ (s.q q).portIdle = false → Untouched (.hmqMessageOffer q n) s) ∧
  (∀ (s : State) (q : Nat), Shaped s → q < 4 → (s.q q).portIdle = false →
    Answers (.hmqMessageComplete q) s fun t =>
      (t.q q).portIdle = true ∧ (t.q q).msgs = (s.q q).held.length ∧ (t.q q).resv = 0 ∧ (∀ m ∈ (t.q q).held, m.eligible = true) ∧
      (t.q q).lock = (s.q q).lock ∧ t.on (F.HMQ_EVT_NOTICE q) = true ∧ QueueOnly q s t ∧ Framed [A.HMQ_EVT q] [.hmq] s t) ∧
  (∀ (s : State) (q : Nat), q < 4 → (s.q q).portIdle = true → Untouched (.hmqMessageComplete q) s) ∧
  (∀ (s : State) (q : Fin 4) (m : Master) (priv : Bool), Shaped s → s.unitAwake 3 = true → (s.q q.val).held = [] →
    (s.q q.val).lock = none →
    Answers (.hmqRdData q m priv) s fun t =>
      Returned m (s.q q.val).lastVal s t ∧ t.q q.val = s.q q.val ∧ t.on (F.HMQ_EVT_UNDERRUN q.val) = true ∧
      Counts s t (A.HMQ_CNT_UNDERRUNS q.val) 1 ∧ QueueOnly q.val s t ∧
      Framed [A.HMQ_CNT_UNDERRUNS q.val, A.HMQ_CNT_SAT q.val, A.HMQ_EVT q.val] [.hmq, .resp] s t) ∧
  (∀ (s : State) (q : Fin 4) (m : Master) (priv : Bool) (a b : HeldMsg), Shaped s → s.unitAwake 3 = true →
    (s.q q.val).held = [a, b] → (s.q q.val).lock = none → a.eligible = true → b.eligible = true → a.prio < b.prio → b.taken = 0 →
    0 < b.written → 1 < b.words.length →
    Answers (.hmqRdData q m priv) s fun t =>
      Returned m (getAt b.words 0 0) s t ∧
      t.q q.val = { s.q q.val with held := [a, { b with taken := 1 }], lock := some 1, lastVal := getAt b.words 0 0 } ∧
      QueueOnly q.val s t ∧ Framed [] [.hmq, .resp] s t) ∧
  (∀ (s : State) (q : Fin 4) (m : Master) (priv : Bool) (a b : HeldMsg), Shaped s → s.unitAwake 3 = true →
    (s.q q.val).held = [a, b] → (s.q q.val).lock = none → a.eligible = true → b.eligible = true → b.prio ≤ a.prio → a.taken = 0 →
    0 < a.written → 1 < a.words.length →
    Answers (.hmqRdData q m priv) s fun t =>
      Returned m (getAt a.words 0 0) s t ∧
      t.q q.val = { s.q q.val with held := [{ a with taken := 1 }, b], lock := some 0, lastVal := getAt a.words 0 0 } ∧
      QueueOnly q.val s t ∧ Framed [] [.hmq, .resp] s t) ∧
  (∀ (s : State) (q : Fin 4) (m : Master) (priv : Bool) (a : HeldMsg), Shaped s → s.unitAwake 3 = true → (s.q q.val).held = [a] →
    (s.q q.val).lock = some 0 → a.taken + 1 = a.words.length → a.taken < a.written →
    Answers (.hmqRdData q m priv) s fun t =>
      Returned m (getAt a.words a.taken 0) s t ∧
      t.q q.val = { s.q q.val with held := [], lock := none, lastVal := getAt a.words a.taken 0 } ∧
      Counts s t (A.HMQ_CNT_READ q.val) 1 ∧ QueueOnly q.val s t ∧
      Framed [A.HMQ_CNT_READ q.val, A.HMQ_CNT_SAT q.val, A.HMQ_EVT q.val] [.hmq, .resp] s t) ∧
  (∀ (s : State) (q : Fin 4) (m : Master) (priv : Bool) (a : HeldMsg), Shaped s → s.unitAwake 3 = true → (s.q q.val).held = [a] →
    (s.q q.val).lock = some 0 → a.written ≤ a.taken →
    Answers (.hmqRdData q m priv) s fun t =>
      Returned m (s.q q.val).lastVal s t ∧ (t.q q.val).lock = some 0 ∧ t.on (F.HMQ_EVT_UNDERRUN q.val) = true ∧
      Counts s t (A.HMQ_CNT_UNDERRUNS q.val) 1 ∧ (t.q q.val).depth = 0) ∧
  (∀ (s : State) (q : Nat), Shaped s → q < 4 →
    Answers (.hmqPointerMismatch q) s fun t =>
      t.q q = { s.q q with held := [], lock := none } ∧ Counts s t (A.HMQ_CNT_LOST_PTR q) (s.q q).held.length ∧
      t.on (F.HMQ_EVT_PTR_ERR q) = true ∧ QueueOnly q s t ∧
      Framed [A.HMQ_CNT_LOST_PTR q, A.HMQ_CNT_SAT q, A.HMQ_EVT q, A.MGMT_EVT] [.hmq, .mgmt] s t) ∧
  (∀ (s : State) (q : Fin 4) (m : Master) (priv : Bool), Shaped s → Direct s m priv (A.HMQ_CTL q.val) →
    Answers (.hmqFlush q m priv) s fun t =>
      t.q q.val = { s.q q.val with held := [], lock := none } ∧ Counts s t (A.HMQ_CNT_FLUSHED q.val) (s.q q.val).held.length ∧
      QueueOnly q.val s t ∧ Framed [A.HMQ_CNT_FLUSHED q.val, A.HMQ_CNT_SAT q.val, A.HMQ_EVT q.val] [.hmq] s t)

/-! ### Skonum control (spec chapter 14) -/

/-- A good new message of an open session arrives: U3 has power, and version, tag, session, sequence number and form are right. -/
abbrev Talks (s : State) (m : ScpMsg) (x : Session) (code : Nat) (payload : List Nat) : Prop :=
  s.unitOn 3 = true ∧ m.version = 1 ∧ s.session m.session = some x ∧ scpSigned m x.key code payload = true ∧
    x.fresh m.seq = true ∧ scpGood m x = true

/-- The same of a message that carries an operation of the register space. -/
abbrev Asks (s : State) (m : ScpMsg) (x : Session) (op : ScpOp) : Prop := Talks s m x op.code op.payload

/-- The module answers the message. -/
def Replies (m : ScpMsg) (status : Nat) (words : List Nat) (t : State) : Prop := Out.scp (scpReply m status words) ∈ t.out

/-- What a message of a session may change when it only is answered. -/
def AnswerOnly (s t : State) : Prop :=
  Framed timeRegs [.time, .clk, .mgmt, .scp] s t ∧ t.scp.holds = s.scp.holds ∧ t.scp.queue = s.scp.queue ∧
    t.scp.tdmOwners = s.scp.tdmOwners ∧ t.scp.sessions.length = s.scp.sessions.length

/-- An OPEN that is well formed and whose tag verifies under the long-term key k that it selects. -/
abbrev Opens (s : State) (dt src sel : Nat) (nc : List Nat) (m : ScpMsg) (k : List Nat) : Prop :=
  s.unitOn 3 = true ∧ m.version = 1 ∧ s.longKey sel m.controller = some k ∧ scpSigned m k 1 (openPayload sel nc) = true ∧
    m.formed = true ∧ nc.length = 16 ∧ m.session = 0 ∧ 1 ≤ m.controller ∧ m.controller ≤ 65535 ∧
    s.on F.SYS_STATUS_CFG_DEFAULT = false ∧
    ((s.scp.opens.filter (fun o => Nat.blt (s.time.up + dt) (o.2 + secU))).filter (fun o => o.1 == src)).length < 10

/-- Sessions (R428 to R430, R475): OPEN makes a session with a new ID and the session key of its long-term key and both nonces,
closes the longest-idle unprivileged one where 32 are in use, is answered FULL where all are privileged, and is dropped beyond
10 a second; a message whose tag is not the HMAC-SHA-256 of its header and payload under its key is counted and not answered; a
repeated sequence number is answered from the cache; CLOSE, KEEPALIVE and SUBSCRIBE; a session ends after 60 s without a valid
message; and reports go out with at most 22 records. Where the spec leaves it open the statement follows the model's choices in
notes/assumptions/66.md, 67.md. -/
def Obligations.Sessions : Prop :=
  (∀ (s : State) (dt src sel : Nat) (nc k : List Nat) (m : ScpMsg), Opens s dt src sel nc m k → s.scp.sessions.length < 32 →
    Answers (.scpOpen dt src sel nc m) s fun t =>
      ∃ id x nonce, id ≠ 0 ∧ s.session id = none ∧ t.scp.sessions = s.scp.sessions ++ [x] ∧ x.id = id ∧
        x.controller = m.controller ∧ x.privileged = (sel == 1) ∧ x.high = m.seq ∧ x.level = none ∧
        x.key = sessionKey k nc (nonce.flatMap be32) id ∧
        Out.scp ⟨id, m.seq, 0, 0, nonce⟩ ∈ t.out ∧ nonce.length = 4 ∧ Framed timeRegs [.time, .clk, .mgmt, .scp, .free] s t) ∧
  (∀ (s : State) (dt src sel : Nat) (nc k : List Nat) (m : ScpMsg) (v : Session),
    Opens s dt src sel nc m k → s.scp.sessions.length = 32 →
    s.idleSession = some v → s.scp.holds = [] →
    Answers (.scpOpen dt src sel nc m) s fun t =>
      ∃ x, t.scp.sessions = s.scp.sessions.filter (fun y => y.id != v.id) ++ [x] ∧ x.controller = m.controller) ∧
  (∀ (s : State) (dt src sel : Nat) (nc k : List Nat) (m : ScpMsg), Opens s dt src sel nc m k → s.scp.sessions.length = 32 →
    (∀ x ∈ s.scp.sessions, x.privileged = true) →
    Answers (.scpOpen dt src sel nc m) s fun t =>
      Out.scp ⟨0, m.seq, 5, 0, []⟩ ∈ t.out ∧ t.scp.sessions = s.scp.sessions ∧
      Framed timeRegs [.time, .clk, .mgmt, .scp] s t) ∧
  (∀ (s : State) (dt src sel : Nat) (nc : List Nat) (m : ScpMsg),
    10 ≤ ((s.scp.opens.filter (fun o => Nat.blt (s.time.up + dt) (o.2 + secU))).filter (fun o => o.1 == src)).length →
    Answers (.scpOpen dt src sel nc m) s fun t =>
      (∀ r, Out.scp r ∉ t.out) ∧ t.scp.sessions = s.scp.sessions ∧ Framed timeRegs [.time, .clk, .mgmt, .scp] s t) ∧
  (∀ (s : State) (dt src : Nat) (nc : List Nat) (m : ScpMsg), s.on F.SYS_STATUS_CFG_DEFAULT = true →
    Answers (.scpOpen dt src 0 nc m) s fun t =>
      (∀ r, Out.scp r ∉ t.out) ∧ t.scp.sessions = s.scp.sessions ∧ Framed timeRegs [.time, .clk, .mgmt, .scp] s t) ∧
  (∀ (s : State) (dt src sel : Nat) (nc : List Nat) (m : ScpMsg), s.unitOn 3 = true → m.version = 1 →
    s.on F.SYS_STATUS_CFG_DEFAULT = false →
    ((s.scp.opens.filter (fun o => Nat.blt (s.time.up + dt) (o.2 + secU))).filter (fun o => o.1 == src)).length < 10 →
    (∀ k ∈ s.longKey sel m.controller, scpSigned m k 1 (openPayload sel nc) = false) →
    Answers (.scpOpen dt src sel nc m) s fun t =>
      (∀ r, Out.scp r ∉ t.out) ∧ t.scp.sessions = s.scp.sessions ∧ t.scp.badTags = s.scp.badTags + 1 ∧
      Framed timeRegs [.time, .clk, .mgmt, .scp] s t) ∧
  (∀ (s : State) (dt : Nat) (m : ScpMsg), s.unitOn 3 = true → m.version = 1 →
    (∀ x ∈ s.session m.session, scpSigned m x.key 3 [] = false) →
    Answers (.scpKeepalive dt m) s fun t =>
      (∀ r, Out.scp r ∉ t.out) ∧ t.scp = { s.scp with badTags := s.scp.badTags + 1 } ∧
      Framed timeRegs [.time, .clk, .mgmt, .scp] s t) ∧
  (∀ (s : State) (dt : Nat) (m : ScpMsg) (x : Session), Talks s m x 3 [] →
    Answers (.scpKeepalive dt m) s fun t =>
      Replies m 0 [] t ∧ (∃ y, t.session m.session = some y ∧ y.last = s.time.up + dt) ∧ AnswerOnly s t) ∧
  (∀ (s : State) (dt : Nat) (m : ScpMsg) (x : Session) (r : ScpReply), s.unitOn 3 = true → m.version = 1 →
    s.session m.session = some x → scpSigned m x.key 3 [] = true → x.fresh m.seq = false → x.cache.find? (fun r => r.seq == m.seq) = some r →
    Answers (.scpKeepalive dt m) s fun t => Out.scp r ∈ t.out ∧ AnswerOnly s t) ∧
  (∀ (s : State) (dt : Nat) (m : ScpMsg) (x : Session), Talks s m x 2 [] → s.scp.holds = [] →
    Answers (.scpClose dt m) s fun t =>
      Replies m 0 [] t ∧ t.session m.session = none ∧ t.scp.sessions = s.scp.sessions.filter (fun y => y.id != m.session) ∧
      Framed timeRegs [.time, .clk, .mgmt, .scp] s t) ∧
  (∀ (s : State) (dt level : Nat) (m : ScpMsg) (x : Session), Talks s m x 0x30 [level % 256] →
    Answers (.scpSubscribe dt m level) s fun t =>
      Replies m 0 [] t ∧ AnswerOnly s t ∧
      ∃ y, t.session m.session = some y ∧ y.level = (if level = 255 then none else some level)) ∧
  (∀ (s : State) (dt id : Nat) (x : Session), s.session id = some x → x.last + 60 * secU ≤ s.time.up + dt → s.scp.holds = [] →
    Answers (.scpSessionTimeout dt id) s fun t =>
      t.scp = { s.scp with sessions := s.scp.sessions.filter (fun y => y.id != id) } ∧
      Framed timeRegs [.time, .clk, .mgmt, .scp] s t) ∧
  (∀ (s : State) (dt id : Nat) (x : Session), s.session id = some x → s.time.up + dt < x.last + 60 * secU →
    Answers (.scpSessionTimeout dt id) s fun t => Framed timeRegs [.time, .clk, .mgmt] s t) ∧
  (∀ (s : State) (dt id : Nat) (x : Session), s.session id = some x → x.gathered ≠ [] →
    (∀ u ∈ x.reportUp, u + 100 * msU ≤ s.time.up + dt) →
    Answers (.scpReport dt id) s fun t =>
      Out.report id x.reports (x.gathered.take 22) ∈ t.out ∧
      (∃ y, t.session id = some y ∧ y.gathered = x.gathered.drop 22 ∧ y.reports = (x.reports + 1) % 2 ^ 32 ∧
        y.reportUp = some (s.time.up + dt)) ∧ AnswerOnly s t) ∧
  (∀ (s : State) (dt id : Nat) (x : Session), s.session id = some x →
    x.gathered = [] ∨ (∃ u ∈ x.reportUp, s.time.up + dt < u + 100 * msU) →
    Answers (.scpReport dt id) s fun t => Framed timeRegs [.time, .clk, .mgmt] s t)

/-- The message has no apply-at EF, is of a class below 7, and names the lay n. -/
abbrev OnLay (s : State) (m : ScpMsg) (n : Nat) : Prop := m.applyAt = none ∧ m.cls < 7 ∧ m.kind = 3 ∧ m.index = n ∧ n < s.lays

/-- SCP operations (R431, R434, R435, R475): reads, writes and their reply words; objects are set, read, claimed and released; another
controller's object is OWNED; a class 7 command holds its object; and the log is read. -/
def ScpOperations : Prop :=
  (∀ (s : State) (dt : Nat) (m : ScpMsg) (x : Session),
    Asks s m x (.read [A.SYS_IRQ_EN_PIN, A.SYS_IRQ_EN_MP]) → m.kind = 0 → m.applyAt = none →
    s.unitAwake 0 = true →
    Answers (.scpRead dt m [A.SYS_IRQ_EN_PIN, A.SYS_IRQ_EN_MP]) s fun t =>
      Replies m 0 [s.rd A.SYS_IRQ_EN_PIN, s.rd A.SYS_IRQ_EN_MP] t ∧ AnswerOnly s t) ∧
  (∀ (s : State) (dt : Nat) (m : ScpMsg) (x : Session) (addrs : List Nat),
    Asks s m x (.read addrs) → m.v6 = false → 358 < addrs.length →
    Answers (.scpRead dt m addrs) s fun t => Replies m 6 [] t ∧ AnswerOnly s t) ∧
  (∀ (s : State) (dt : Nat) (m : ScpMsg) (x : Session) (w : Word),
    Asks s m x (.write [(A.SYS_IRQ_EN_PIN, w)]) → m.kind = 0 → m.applyAt = none → m.cls < 7 →
    Direct s .scp x.privileged A.SYS_IRQ_EN_PIN → AsItReads s A.SYS_IRQ_EN_PIN w →
    Answers (.scpWrite dt m [(A.SYS_IRQ_EN_PIN, w)]) s fun t =>
      Replies m 0 [0] t ∧ t.reg A.SYS_IRQ_EN_PIN = w ∧
      Framed (timeRegs ++ [A.SYS_IRQ_EN_PIN]) [.time, .clk, .mgmt, .scp] s t) ∧
  (∀ (s : State) (dt adr : Nat) (m : ScpMsg) (x : Session) (w : Word),
    Asks s m x (.write [(adr, w)]) → m.kind = 0 → m.applyAt = none → m.cls < 7 →
    adr % 4 ≠ 0 → objAt adr = none →
    Answers (.scpWrite dt m [(adr, w)]) s fun t =>
      Replies m 7 [4] t ∧ AccessFault F.SYS_ACC_STATUS_ACC_ERR F.SYS_EVT_ACC_ERR .scp adr s t ∧
      Framed (timeRegs ++ accRegs) [.time, .clk, .mgmt, .scp] s t) ∧
  (∀ (s : State) (dt n : Nat) (m : ScpMsg) (x : Session), Asks s m x .claim → OnLay s m n →
    s.ownerOf 3 n = 0 ∨ s.ownerOf 3 n = m.controller →
    Answers (.scpClaim dt m) s fun t =>
      Replies m 0 [] t ∧ t.ownerOf 3 n = m.controller % 2 ^ 16 ∧
      Framed (timeRegs ++ [A.TBL_LAY_W1 n]) [.time, .clk, .mgmt, .scp] s t) ∧
  (∀ (s : State) (dt n off : Nat) (vals : List Word) (m : ScpMsg) (x : Session), OnLay s m n →
    s.ownerOf 3 n ≠ 0 → s.ownerOf 3 n ≠ m.controller → off + vals.length ≤ 8 →
    (Asks s m x .claim → Answers (.scpClaim dt m) s fun t => Replies m 2 [] t ∧ AnswerOnly s t) ∧
    (Asks s m x .release → Answers (.scpRelease dt m) s fun t => Replies m 2 [] t ∧ AnswerOnly s t) ∧
    (Asks s m x (.objSet off vals) → Answers (.scpObjSet dt m off vals) s fun t => Replies m 2 [] t ∧ AnswerOnly s t)) ∧
  (∀ (s : State) (dt n : Nat) (m : ScpMsg) (x : Session), Asks s m x .release → OnLay s m n → s.ownerOf 3 n = m.controller →
    s.scp.holds = [] →
    Answers (.scpRelease dt m) s fun t =>
      Replies m 0 [] t ∧ t.ownerOf 3 n = 0 ∧ Framed (timeRegs ++ [A.TBL_LAY_W1 n]) [.time, .clk, .mgmt, .scp] s t) ∧
  (∀ (s : State) (dt n : Nat) (m : ScpMsg) (x : Session),
    Asks s m x .claim → m.applyAt = none → m.cls = 7 → m.kind = 3 → m.index = n →
    n < s.lays → s.scp.holds = [] →
    Answers (.scpClaim dt m) s fun t =>
      Replies m 0 [] t ∧ t.ownerOf 3 n = m.controller % 2 ^ 16 ∧
      t.scp.holds = [⟨3, n, m.controller, m.session, s.ownerOf 3 n, s.time.up + dt⟩]) ∧
  (∀ (s : State) (dt n : Nat) (m : ScpMsg) (x : Session) (h : Hold),
    Asks s m x .release → OnLay s m n → s.ownerOf 3 n = m.controller →
    s.scp.holds = [h] → h.kind = 3 → h.index = n → h.controller = m.controller →
    Answers (.scpRelease dt m) s fun t =>
      Replies m 0 [] t ∧ t.ownerOf 3 n = h.savedOwner % 2 ^ 16 ∧ t.scp.holds = []) ∧
  (∀ (s : State) (dt n : Nat) (m : ScpMsg) (x : Session) (w : Word),
    Asks s m x (.objSet 64 [w]) → m.applyAt = none → m.cls < 7 → m.kind = 5 →
    m.index = n → n < s.tdmPorts → s.ownerOf 5 n = 0 →
    Direct s .scp x.privileged (A.TDM_OUT_MAP n 0) → AsItReads s (A.TDM_OUT_MAP n 0) w →
    Answers (.scpObjSet dt m 64 [w]) s fun t => Replies m 0 [0] t ∧ t.reg (A.TDM_OUT_MAP n 0) = w) ∧
  (∀ (s : State) (dt n : Nat) (m : ScpMsg) (x : Session) (w : Word),
    Asks s m x (.objSet 128 [w]) → m.applyAt = none → m.cls < 7 → m.kind = 5 →
    m.index = n → n < s.tdmPorts → s.ownerOf 5 n = 0 →
    Answers (.scpObjSet dt m 128 [w]) s fun t => Replies m 7 [0x20000] t ∧ AnswerOnly s t) ∧
  (∀ (s : State) (dt n : Nat) (m : ScpMsg) (x : Session),
    Asks s m x (.objGet 128 1) → m.applyAt = none → m.kind = 5 → m.index = n →
    n < s.tdmPorts →
    Answers (.scpObjGet dt m 128 1) s fun t => Replies m 0 [s.ownerOf 5 n] t ∧ AnswerOnly s t) ∧
  (∀ (s : State) (dt n : Nat) (m : ScpMsg) (x : Session),
    Asks s m x (.objGet 1 1) → m.applyAt = none → m.kind = 3 → m.index = n → n < s.lays →
    s.unitAwake 3 = true →
    Answers (.scpObjGet dt m 1 1) s fun t => Replies m 0 [s.rd (A.TBL_LAY_W1 n)] t ∧ AnswerOnly s t) ∧
  (∀ (s : State) (dt first count : Nat) (m : ScpMsg) (x : Session),
    Talks s m x 0x32 (be32 first ++ [count % 256]) → 1 ≤ count → count ≤ 22 →
    Answers (.scpLogGet dt m first count) s fun t =>
      Replies m 0 ((((List.range count).filterMap fun k => s.logRecord ((first + k) % 2 ^ 32)).flatten).map BitVec.toNat) t ∧
      AnswerOnly s t) ∧
  (∀ (s : State) (dt first count : Nat) (m : ScpMsg) (x : Session),
    Talks s m x 0x32 (be32 first ++ [count % 256]) → count = 0 ∨ 22 < count →
    Answers (.scpLogGet dt m first count) s fun t => Replies m 6 [] t ∧ AnswerOnly s t)

/-- How far ahead of the head an apply-at message's EF lies. -/
def ahead (s : State) (ef : Nat) : Nat := (ef + 2 ^ 32 - s.play.head % 2 ^ 32) % 2 ^ 32

/-- Apply-at commands and holds (R432, R433, R435): a command is queued for an EF 2 to 30,000 ahead, and otherwise answered LATE, BAD or
FULL; at the first computation of its EF it acts, and of two for one object the higher class wins; and a hold ends HOLD_S after its
holder's last command, with the owner from before it. -/
def ApplyAtAndHolds : Prop :=
  (∀ (s : State) (dt ef : Nat) (m : ScpMsg) (x : Session) (w : Word),
    Asks s m x (.write [(A.SYS_IRQ_EN_PIN, w)]) → m.kind = 0 → m.applyAt = some ef →
    s.play.running = true → 2 ≤ ahead s ef → ahead s ef ≤ 30000 → s.scp.queue.length < 256 →
    Answers (.scpWrite dt m [(A.SYS_IRQ_EN_PIN, w)]) s fun t =>
      t.scp.queue = s.scp.queue ++
        [⟨m.session, m.seq, m.cls, m.controller, 0, m.index, ef % 2 ^ 32, .write [(A.SYS_IRQ_EN_PIN, w)], none⟩] ∧
      (∀ r, Out.scp r ∉ t.out) ∧ Framed timeRegs [.time, .clk, .mgmt, .scp] s t) ∧
  (∀ (s : State) (dt ef : Nat) (m : ScpMsg) (x : Session) (w : Word),
    Asks s m x (.write [(A.SYS_IRQ_EN_PIN, w)]) → m.kind = 0 → m.applyAt = some ef →
    s.play.running = false ∨ ahead s ef < 2 ∨ 2 ^ 31 ≤ ahead s ef →
    Answers (.scpWrite dt m [(A.SYS_IRQ_EN_PIN, w)]) s fun t => Replies m 4 [] t ∧ AnswerOnly s t) ∧
  (∀ (s : State) (dt ef : Nat) (m : ScpMsg) (x : Session) (w : Word),
    Asks s m x (.write [(A.SYS_IRQ_EN_PIN, w)]) → m.kind = 0 → m.applyAt = some ef →
    s.play.running = true → 30000 < ahead s ef → ahead s ef < 2 ^ 31 →
    Answers (.scpWrite dt m [(A.SYS_IRQ_EN_PIN, w)]) s fun t => Replies m 6 [] t ∧ AnswerOnly s t) ∧
  (∀ (s : State) (dt ef : Nat) (m : ScpMsg) (x : Session) (w : Word),
    Asks s m x (.write [(A.SYS_IRQ_EN_PIN, w)]) → m.kind = 0 → m.applyAt = some ef →
    s.play.running = true → 2 ≤ ahead s ef → ahead s ef ≤ 30000 → 256 ≤ s.scp.queue.length →
    Answers (.scpWrite dt m [(A.SYS_IRQ_EN_PIN, w)]) s fun t => Replies m 5 [] t ∧ AnswerOnly s t) ∧
  (∀ (s : State) (ef : Nat) (c : ScpCmd) (w : Word), s.play.running = true → s.scp.queue = [c] → c.ef = ef % 2 ^ 32 →
    c.result = none → c.kind = 0 → c.cls < 7 → c.op = .write [(A.SYS_IRQ_EN_PIN, w)] →
    Direct s .scp (s.scpPriv c.session) A.SYS_IRQ_EN_PIN → AsItReads s A.SYS_IRQ_EN_PIN w →
    Answers (.scpApplyAt ef) s fun t =>
      t.reg A.SYS_IRQ_EN_PIN = w ∧ t.scp = { s.scp with queue := [{ c with result := some (c.reply 0 [0]) }] } ∧
      Framed [A.SYS_IRQ_EN_PIN] [.scp] s t) ∧
  (∀ (s : State) (ef n : Nat) (a b : ScpCmd), s.play.running = true → s.scp.queue = [a, b] → a.ef = ef % 2 ^ 32 →
    b.ef = ef % 2 ^ 32 → a.result = none → b.result = none → a.kind = 3 → b.kind = 3 → a.index = n → b.index = n → n < s.lays →
    a.cls < b.cls → b.cls < 7 → a.op = .claim → b.op = .claim → s.ownerOf 3 n = 0 →
    Answers (.scpApplyAt ef) s fun t =>
      t.ownerOf 3 n = b.controller % 2 ^ 16 ∧
      t.scp = { s.scp with queue := [{ a with result := some (a.reply 1 []) }, { b with result := some (b.reply 0 []) }] } ∧
      Framed [A.TBL_LAY_W1 n] [.scp] s t) ∧
  (∀ (s : State) (ef : Nat), s.play.running = false ∨ (∀ c ∈ s.scp.queue, c.ef ≠ ef % 2 ^ 32) → Untouched (.scpApplyAt ef) s) ∧
  (∀ (s : State) (dt n : Nat) (h : Hold), s.scp.holds = [h] → h.kind = 3 → h.index = n → n < s.lays →
    h.last + s.mgmt.settings.holdS * secU ≤ s.time.up + dt →
    Answers (.scpHoldExpiry dt 3 n) s fun t =>
      t.scp.holds = [] ∧ t.ownerOf 3 n = h.savedOwner % 2 ^ 16 ∧ MemKept s t) ∧
  (∀ (s : State) (dt kind n : Nat), s.scp.holds = [] →
    Answers (.scpHoldExpiry dt kind n) s fun t => Framed timeRegs [.time, .clk, .mgmt] s t) ∧
  (∀ (s : State) (dt kind n : Nat) (h : Hold), s.holdOf kind n = some h →
    s.time.up + dt < h.last + s.mgmt.settings.holdS * secU →
    Answers (.scpHoldExpiry dt kind n) s fun t => Framed timeRegs [.time, .clk, .mgmt] s t)

/-- What SCP does with objects and registers: operations answered at once, apply-at commands and holds. Where the spec leaves it
open the statement follows the model's choices in notes/assumptions/68.md, 69.md. -/
def Obligations.ScpCommands : Prop := ScpOperations ∧ ApplyAtAndHolds

/-! ### The scheduler, the log and the lifetime counters (spec chapter 16) -/

/-- At a whole second with the time known only entry n is due. -/
abbrev OnlyDue (s : State) (dt n : Nat) : Prop :=
  n < 64 ∧ s.mgmt.started = true ∧ s.fld F.MGMT_RTC_STATUS_SRC ≠ 0 ∧ (s.advance dt).schedDue n = true ∧
    ∀ k < 64, k ≠ n → (s.advance dt).schedDue k = false

/-- An entry has acted: its RESULT, today as LAST_DAY, and EN cleared if it is a one-shot. -/
def EntryActed (dt n result : Nat) (s t : State) : Prop :=
  t.fld (F.TBL_SCHED_W3_RESULT n) = result ∧ t.fld (F.TBL_SCHED_W3_LAST_DAY n) = (s.advance dt).dayNo ∧
    t.on (F.TBL_SCHED_W0_EN n) = !s.oneShot n

/-- The registers of a scheduler entry and the time's own. -/
def schedRegs (n : Nat) : List Nat := timeRegs ++ [A.TBL_SCHED_W0 n, A.TBL_SCHED_W3 n]

/-- The scheduler (R465 to R468): nothing fires while the time is unknown or no entry is due; an entry on time or passed by at most an
hour acts, with RESULT 1 or 2; one passed by more is missed; an action its target refuses is tried again, and after 60 min RESULT
is 4. -/
def Scheduler : Prop :=
  (∀ (s : State) (dt : Nat), s.fld F.MGMT_RTC_STATUS_SRC = 0 ∨ s.mgmt.started = false →
    Answers (.schedulerTick dt) s fun t => Framed timeRegs [.time, .clk, .mgmt] s t) ∧
  (∀ (s : State) (dt : Nat), 2 ≤ s.fld F.MGMT_RTC_STATUS_SRC → s.mgmt.started = true →
    (∀ k < 64, (s.advance dt).schedDue k = false) →
    Answers (.schedulerTick dt) s fun t =>
      t.mgmt.rtcSec = t.time.tb / secU ∧ t.mgmt.rtcTick = t.time.tb % secU ∧ Framed timeRegs [.time, .clk, .mgmt] s t) ∧
  (∀ (s : State) (dt n : Nat), OnlyDue s dt n → s.fld (F.TBL_SCHED_W0_KIND n) = 0 ∨ 8 ≤ s.fld (F.TBL_SCHED_W0_KIND n) →
    (s.advance dt).schedLate n ≤ 3600 →
    Answers (.schedulerTick dt) s fun t =>
      EntryActed dt n (if (s.advance dt).schedLate n = 0 then 1 else 2) s t ∧ Framed (schedRegs n) [.time, .clk, .mgmt] s t) ∧
  (∀ (s : State) (dt n : Nat), OnlyDue s dt n → s.fld (F.TBL_SCHED_W0_KIND n) = 1 → (s.advance dt).schedLate n = 0 →
    s.modState = 4 → s.runOn = false →
    Answers (.schedulerTick dt) s fun t =>
      EntryActed dt n 1 s t ∧ t.fld F.PROOF_RUN_STATUS_STATE = 1 ∧ t.proof.number = (s.proof.number + 1) % 2 ^ 32 ∧ MemKept s t) ∧
  (∀ (s : State) (dt n : Nat), OnlyDue s dt n → s.fld (F.TBL_SCHED_W0_KIND n) = 7 → (s.advance dt).schedLate n = 0 →
    Answers (.schedulerTick dt) s fun t =>
      EntryActed dt n 1 s t ∧ t.on F.MGMT_CFG_STATUS_BUSY = true ∧
      Framed (A.MGMT_CFG_STATUS :: schedRegs n) [.time, .clk, .mgmt] s t) ∧
  (∀ (s : State) (dt n : Nat), OnlyDue s dt n → 3600 < (s.advance dt).schedLate n →
    Answers (.schedulerTick dt) s fun t =>
      t.fld (F.TBL_SCHED_W3_RESULT n) = 3 ∧ t.fld (F.TBL_SCHED_W3_LAST_DAY n) = (s.advance dt).dayNo ∧
      t.on F.MGMT_EVT_SCHED_MISSED = true ∧ Framed (schedRegs n) [.time, .clk, .mgmt] s t) ∧
  (∀ (s : State) (dt n : Nat), OnlyDue s dt n → s.fld (F.TBL_SCHED_W0_KIND n) = 4 → (s.advance dt).schedLate n ≤ 3600 →
    s.modState = 3 → s.mgmt.schedRetry = [] →
    Answers (.schedulerTick dt) s fun t =>
      t.mgmt.schedRetry = [(n, s.time.up + dt)] ∧ t.fld (F.TBL_SCHED_W3_RESULT n) = s.fld (F.TBL_SCHED_W3_RESULT n) ∧
      t.on F.SYS_MOD_STATE_CMD_REFUSED = true ∧ t.modState = 3 ∧
      Framed (A.SYS_MOD_STATE :: schedRegs n) [.time, .clk, .mgmt] s t) ∧
  (∀ (s : State) (dt n : Nat), s.mgmt.schedRetry = [] →
    Answers (.schedulerRetry n dt) s fun t => Framed timeRegs [.time, .clk, .mgmt] s t) ∧
  (∀ (s : State) (dt n up : Nat), n < 64 → s.mgmt.schedRetry = [(n, up)] → s.fld (F.TBL_SCHED_W0_KIND n) = 0 →
    Answers (.schedulerRetry n dt) s fun t =>
      t.mgmt.schedRetry = [] ∧ t.fld (F.TBL_SCHED_W3_RESULT n) = 1 ∧ Framed (schedRegs n) [.time, .clk, .mgmt] s t) ∧
  (∀ (s : State) (dt n up : Nat), n < 64 → s.mgmt.schedRetry = [(n, up)] → s.fld (F.TBL_SCHED_W0_KIND n) = 4 → s.modState = 3 →
    Answers (.schedulerRetry n dt) s fun t =>
      (up + 3600 * secU ≤ s.time.up + dt → t.mgmt.schedRetry = [] ∧ t.fld (F.TBL_SCHED_W3_RESULT n) = 4) ∧
      (s.time.up + dt < up + 3600 * secU →
        t.mgmt.schedRetry = [(n, up)] ∧ t.fld (F.TBL_SCHED_W3_RESULT n) = s.fld (F.TBL_SCHED_W3_RESULT n)) ∧
      Framed (A.SYS_MOD_STATE :: schedRegs n) [.time, .clk, .mgmt] s t)

/-- The log and the lifetime counters (R469, R472 to R474, R477): the oldest staged record is written, and pushed to its queue where its
severity asks for it; lost records are logged as soon as there is room; each master has its own LOG_IDX and view; and the counters are
written to the copies alternately. -/
def LogAndLifetimeCounters : Prop :=
  (∀ (s : State) (r : List Word) (rest : List (List Word)), s.pwr.powered = true → s.mgmt.staging = r :: rest →
    s.mgmt.logLost = 0 → recSev r < s.fld F.MGMT_LOG_CTL_PUSH_MIN ∨ 5 ≤ s.fld F.MGMT_LOG_CTL_PUSH_MIN →
    Answers .logRecordWrite s fun t =>
      t.mgmt.staging = rest ∧ t.mgmt.log = (r :: s.mgmt.log).take 65536 ∧ t.reg A.MGMT_LOG_NEWEST = getAt r 0 0 ∧
      Framed [A.MGMT_LOG_NEWEST, A.MGMT_EVT] [.mgmt, .scp] s t) ∧
  (∀ (s : State) (r : List Word) (rest : List (List Word)), s.pwr.powered = true → s.mgmt.staging = r :: rest →
    s.mgmt.logLost = 0 → s.fld F.MGMT_LOG_CTL_PUSH_MIN ≤ recSev r → s.fld F.MGMT_LOG_CTL_PUSH_MIN < 5 → Shaped s →
    Answers .logRecordWrite s fun t =>
      t.mgmt.staging = rest ∧ t.mgmt.log = (r :: s.mgmt.log).take 65536 ∧
      (t.q (s.fld F.MGMT_LOG_CTL_PUSH_Q)).waiting = (s.q (s.fld F.MGMT_LOG_CTL_PUSH_Q)).waiting ++
        [⟨s.fld F.MGMT_LOG_CTL_PUSH_Q, getAt [0, 2, 4, 6, 7] (recSev r) 7, 4, 0, 0, 0, r⟩] ∧
      QueueOnly (s.fld F.MGMT_LOG_CTL_PUSH_Q) s t ∧ Framed [A.MGMT_LOG_NEWEST, A.MGMT_EVT] [.mgmt, .scp, .hmq] s t) ∧
  (∀ (s : State) (r : List Word) (rest : List (List Word)), s.pwr.powered = true → s.mgmt.staging = r :: rest →
    0 < s.mgmt.logLost → s.mgmt.staging.length ≤ 256 →
    Answers .logRecordWrite s fun t =>
      t.mgmt.logLost = 0 ∧ t.mgmt.staging = rest ++ [s.mkRecord 17 0x60 2 0xF 0 [s.mgmt.logLost]] ∧
      t.mgmt.logSeq = (s.mgmt.logSeq + 1) % 2 ^ 32 ∧ MemKept s t) ∧
  (∀ s : State, s.pwr.powered = false ∨ s.mgmt.staging = [] → Untouched .logRecordWrite s) ∧
  (∀ (s : State) (seq : Word) (m : Master) (priv : Bool), Direct s m priv A.MGMT_LOG_IDX →
    Answers (.logIdxWrite seq m priv) s fun t =>
      t.mgmt = { s.mgmt with logIdx := setAt s.mgmt.logIdx m.code seq.toNat } ∧ Framed [A.MGMT_LOG_IDX] [.mgmt] s t) ∧
  (∀ (s : State) (k : Nat) (m : Master) (priv : Bool) (r : List Word), k < 16 → s.bus.posts = [] → s.unitAwake 0 = true →
    s.logRecord (getAt s.mgmt.logIdx m.code 0) = some r →
    (Answers (.slowDomainRead (A.MGMT_LOG_DATA k) m priv) s fun t => Returned m (getAt r k 0) s t ∧ Framed [] [.resp] s t) ∧
    (Answers (.slowDomainRead A.MGMT_LOG_STATE m priv) s fun t =>
      Returned m (if recBad r then 3 else 1) s t ∧ Framed [] [.resp] s t)) ∧
  (∀ s : State, s.mgmt.started = true →
    Answers .lifetimeCounterWrite s fun t =>
      t.mgmt.lifeNext = !s.mgmt.lifeNext ∧ (if s.mgmt.lifeNext then t.mgmt.lifeA = s.mgmt.lifeA else t.mgmt.lifeB = s.mgmt.lifeB) ∧
      (if s.mgmt.lifeNext then t.mgmt.lifeB else t.mgmt.lifeA).ok = true ∧
      (if s.mgmt.lifeNext then t.mgmt.lifeB else t.mgmt.lifeA).counts = t.mgmt.life ∧
      (∀ c ∈ [s.mgmt.lifeA, s.mgmt.lifeB], c.ok = true → c.gen < (if s.mgmt.lifeNext then t.mgmt.lifeB else t.mgmt.lifeA).gen) ∧
      Framed [A.MGMT_EVT] [.mgmt] s t) ∧
  (∀ s : State, s.mgmt.started = false → Untouched .lifetimeCounterWrite s)

/-- What Yunasel does by the clock: the scheduler, the log's writes and the lifetime counters'. Where the spec leaves it open
the statement follows the model's choices in notes/assumptions/21.md, 71.md, 72.md. -/
def Obligations.SchedulerAndLog : Prop := Scheduler ∧ LogAndLifetimeCounters

/-! ### Saves, the installer key and firmware (spec chapter 16) -/

/-- Configuration saves (R482, R483, R485): SAVE takes a snapshot, or sets PENDING while one is being written; a save that reads back
right becomes the slot in force, one that does not leaves the other to stand, and a pending one follows. -/
def ConfigurationSaves : Prop :=
  (∀ (s : State) (m : Master) (priv : Bool), Direct s m priv A.MGMT_CFG_CTL → s.on F.MGMT_CFG_STATUS_BUSY = false →
    Answers (.cfgSave m priv) s fun t =>
      t.on F.MGMT_CFG_STATUS_BUSY = true ∧ t.mgmt = { s.mgmt with saveSnap := some s.snapshot } ∧
      Framed [A.MGMT_CFG_STATUS] [.mgmt] s t) ∧
  (∀ (s : State) (m : Master) (priv : Bool), Direct s m priv A.MGMT_CFG_CTL → s.on F.MGMT_CFG_STATUS_BUSY = true →
    Answers (.cfgSave m priv) s fun t => t.on F.MGMT_CFG_STATUS_PENDING = true ∧ Framed [A.MGMT_CFG_STATUS] [] s t) ∧
  (∀ (s : State) (x : CfgSlot), s.mgmt.saveSnap = some x → s.on F.MGMT_CFG_STATUS_PENDING = false →
    Answers (.cfgSaveComplete true) s fun t =>
      t.on F.MGMT_CFG_STATUS_BUSY = false ∧ t.fld F.MGMT_CFG_STATUS_LAST = 1 ∧
      t.fld F.MGMT_CFG_STATUS_SLOT = (if s.saveTarget then 1 else 0) ∧ t.rd A.MGMT_CFG_GEN = (s.rd A.MGMT_CFG_GEN + 1) % 2 ^ 32 ∧
      t.on F.SYS_STATUS_CFG_DEFAULT = false ∧ t.on F.MGMT_EVT_CFG_SAVED = true ∧ t.mgmt.saveSnap = none ∧
      (∃ len, t.cfgSlot s.saveTarget = { x with gen := t.rd A.MGMT_CFG_GEN, length := len, good := true }) ∧
      t.cfgSlot (!s.saveTarget) = s.cfgSlot (!s.saveTarget) ∧
      Framed [A.MGMT_CFG_STATUS, A.MGMT_CFG_GEN, A.SYS_STATUS, A.MGMT_EVT] [.mgmt, .free] s t) ∧
  (∀ (s : State) (x : CfgSlot), s.mgmt.saveSnap = some x → s.on F.MGMT_CFG_STATUS_PENDING = false →
    Answers (.cfgSaveComplete false) s fun t =>
      t.on F.MGMT_CFG_STATUS_BUSY = false ∧ t.fld F.MGMT_CFG_STATUS_LAST = 2 ∧ t.on F.MGMT_EVT_CFG_SAVE_FAIL = true ∧
      (t.cfgSlot s.saveTarget).good = false ∧ t.cfgSlot (!s.saveTarget) = s.cfgSlot (!s.saveTarget) ∧ t.mgmt.saveSnap = none ∧
      Framed [A.MGMT_CFG_STATUS, A.MGMT_EVT] [.mgmt, .free] s t) ∧
  (∀ (s : State) (x : CfgSlot) (ok : Bool), s.mgmt.saveSnap = some x → s.on F.MGMT_CFG_STATUS_PENDING = true →
    Answers (.cfgSaveComplete ok) s fun t =>
      t.on F.MGMT_CFG_STATUS_BUSY = true ∧ t.on F.MGMT_CFG_STATUS_PENDING = false ∧ t.mgmt.saveSnap.isSome = true ∧ MemKept s t) ∧
  (∀ (s : State) (ok : Bool), s.mgmt.saveSnap = none → Untouched (.cfgSaveComplete ok) s)

/-- The installer key (R488, R489): COMMIT is refused for an all-zero key and while one is being written; once both copies are written
the key is in force with the next version and every session opened with the old one closes. -/
def InstallerKey : Prop :=
  (∀ (s : State) (m : Master) (priv : Bool), Direct s m priv A.MGMT_KEY_CTL →
    s.mgmt.stageKey.all (fun w => w == 0) = true ∨ s.on F.MGMT_KEY_STATUS_BUSY = true →
    Answers (.keyCommit m priv) s fun t => t.on F.MGMT_KEY_STATUS_REFUSED = true ∧ Framed [A.MGMT_KEY_STATUS] [] s t) ∧
  (∀ (s : State) (m : Master) (priv : Bool), Direct s m priv A.MGMT_KEY_CTL → s.masterPriv m priv = true →
    s.mgmt.stageKey.all (fun w => w == 0) = false → s.on F.MGMT_KEY_STATUS_BUSY = false →
    Answers (.keyCommit m priv) s fun t =>
      t.on F.MGMT_KEY_STATUS_BUSY = true ∧ t.mgmt = { s.mgmt with keyCommit := some (s.mgmt.stageKey, m.code) } ∧
      Framed [A.MGMT_KEY_STATUS] [.mgmt] s t) ∧
  (∀ (s : State) (k : List Word) (mc : Nat), s.mgmt.keyCommit = some (k, mc) → s.scp.holds = [] →
    Answers .keyCommitComplete s fun t =>
      t.mgmt.keyA = t.mgmt.keyB ∧ t.mgmt.keyA.ok = true ∧ t.mgmt.keyA.key = k ∧
      t.mgmt.keyA.version = (match s.keyInForce with
        | none => 1
        | some (_, c) => (c.version + 1) % 2 ^ 32) ∧
      t.fld F.MGMT_KEY_STATUS_VERSION = t.mgmt.keyA.version % 2 ^ 16 ∧ t.on F.MGMT_KEY_STATUS_VALID = true ∧
      t.on F.MGMT_KEY_STATUS_BUSY = false ∧ t.on F.SYS_STATUS_KEY_FAIL = false ∧ t.on F.MGMT_EVT_KEY_CHANGED = true ∧
      t.mgmt.stageKey = List.replicate 8 0 ∧ t.mgmt.keyCommit = none ∧
      (∀ x ∈ t.scp.sessions, x.privileged = false) ∧
      Framed [A.MGMT_KEY_STATUS, A.SYS_STATUS, A.MGMT_EVT] [.mgmt, .scp] s t) ∧
  (∀ s : State, s.mgmt.keyCommit = none → Untouched .keyCommitComplete s)

/-- What is kept in MRAM on command: the configuration and the installer key. Where the spec leaves it open the statement
follows the model's choices in notes/assumptions/1.md, 26.md. -/
def Obligations.SavesAndKeys : Prop := ConfigurationSaves ∧ InstallerKey

/-- A firmware command is refused for a reason. -/
def FwRefused (why : Nat) (s t : State) : Prop :=
  t.fld F.MGMT_FW_STATUS_WHY = why ∧ t.on F.MGMT_FW_STATUS_DONE = true ∧ t.fwState = s.fwState ∧
    Framed [A.MGMT_FW_STATUS] [] s t

/-- The trial is confirmed. -/
def TrialConfirmed (s t : State) : Prop :=
  t.mgmt.fw.trial = false ∧ t.mgmt.fw.dflt = s.mgmt.fw.bank ∧ t.mgmt.rollback = max s.mgmt.rollback (s.bank s.mgmt.fw.bank).rollback ∧
    t.on F.SYS_STATUS_TRIAL = false ∧ t.fwState = 0 ∧ t.on F.MGMT_EVT_CONFIRMED = true ∧
    Framed [A.SYS_STATUS, A.MGMT_FW_STATUS, A.MGMT_ROLLBACK, A.MGMT_EVT] [.mgmt] s t

/-- The module enters RESET to start the bank that ran before the trial. -/
def RollsBack (why : Nat) (s t : State) : Prop :=
  EntersReset 1 s t ∧ t.mgmt.fw.trial = false ∧ t.mgmt.fw.rolled = some why ∧ t.mgmt.fw.dflt = s.mgmt.fw.dflt

/-- Firmware delivery and trials (R491 to R494, R496): BEGIN empties the bank not running; words are appended while receiving;
VERIFY and its end; ACTIVATE and its restart, which waits for class 6 and 7 service; CONFIRM and AUTO_CONFIRM keep the new bank;
ABORT_TRIAL and the end of the 600 s roll back. Where the spec leaves it open the statement follows the model's choices in
notes/assumptions/66.md, 73.md. -/
def Obligations.Firmware : Prop :=
  (∀ (s : State) (m : Master) (priv : Bool), Direct s m priv A.MGMT_FW_CTL → s.masterPriv m priv = true →
    s.mgmt.fw.trial = false → s.mgmt.fw.pend = false →
    Answers (.fwBegin m priv) s fun t =>
      t.fwState = 1 ∧ t.fld F.MGMT_FW_STATUS_WHY = 0 ∧ (t.bank (!s.mgmt.fw.bank)).words = [] ∧
      (t.bank (!s.mgmt.fw.bank)).invalid = true ∧ t.bank s.mgmt.fw.bank = s.bank s.mgmt.fw.bank ∧
      Framed [A.MGMT_FW_STATUS, A.MGMT_FW_INFO 0, A.MGMT_FW_INFO 1] [.mgmt] s t) ∧
  (∀ (s : State) (m : Master) (priv : Bool), Direct s m priv A.MGMT_FW_CTL → s.masterPriv m priv = true →
    s.mgmt.fw.trial = true ∨ s.mgmt.fw.pend = true → Answers (.fwBegin m priv) s (FwRefused 5 s)) ∧
  (∀ (s : State) (m : Master) (priv : Bool) (w : Word), Direct s m priv A.MGMT_FW_DATA → s.masterPriv m priv = true →
    s.fwState = 1 → (s.bank (!s.mgmt.fw.bank)).words.length ≤ 2097152 →
    Answers (.fwDataWrite w m priv) s fun t =>
      (t.bank (!s.mgmt.fw.bank)).words = (s.bank (!s.mgmt.fw.bank)).words ++ [w] ∧
      t.bank s.mgmt.fw.bank = s.bank s.mgmt.fw.bank ∧ Framed [A.MGMT_EVT] [.mgmt] s t) ∧
  (∀ (s : State) (m : Master) (priv : Bool) (w : Word), Direct s m priv A.MGMT_FW_DATA → s.fwState ≠ 1 →
    Untouched (.fwDataWrite w m priv) s) ∧
  (∀ (s : State) (m : Master) (priv : Bool), Direct s m priv A.MGMT_FW_CTL → s.masterPriv m priv = true → s.fwState = 1 →
    Answers (.fwVerify m priv) s fun t => t.fwState = 2 ∧ t.fld F.MGMT_FW_STATUS_WHY = 0 ∧ Framed [A.MGMT_FW_STATUS] [] s t) ∧
  (∀ (s : State) (m : Master) (priv : Bool), Direct s m priv A.MGMT_FW_CTL → s.fwState ≠ 1 → Untouched (.fwVerify m priv) s) ∧
  (∀ (s : State) (sigOk : Bool), s.fwState = 2 → s.fwWhy sigOk = 0 → s.mgmt.bootFailed = false →
    Answers (.fwVerifyComplete sigOk) s fun t =>
      t.fwState = 3 ∧ t.on F.MGMT_FW_STATUS_DONE = true ∧ t.fld F.MGMT_FW_STATUS_WHY = 0 ∧ t.on F.MGMT_EVT_FW_VERIFIED = true ∧
      t.bank (!s.mgmt.fw.bank) = { s.bank (!s.mgmt.fw.bank) with invalid := false, sigOk := true } ∧
      Framed [A.MGMT_FW_STATUS, A.MGMT_FW_INFO 0, A.MGMT_FW_INFO 1, A.MGMT_EVT] [.mgmt] s t) ∧
  (∀ (s : State) (sigOk : Bool), s.fwState = 2 → s.fwWhy sigOk ≠ 0 →
    Answers (.fwVerifyComplete sigOk) s fun t =>
      t.fwState = 4 ∧ t.on F.MGMT_FW_STATUS_DONE = true ∧ t.fld F.MGMT_FW_STATUS_WHY = s.fwWhy sigOk ∧
      t.on F.MGMT_EVT_FW_REFUSED = true ∧ Framed [A.MGMT_FW_STATUS, A.MGMT_EVT] [.mgmt] s t) ∧
  (∀ (s : State) (sigOk : Bool), s.fwState ≠ 2 → Untouched (.fwVerifyComplete sigOk) s) ∧
  (∀ (s : State) (m : Master) (priv : Bool), Direct s m priv A.MGMT_FW_CTL → s.masterPriv m priv = true → s.fwState = 3 →
    Answers (.fwActivate m priv) s fun t => t.fwState = 5 ∧ t.mgmt.fw.pend = true ∧ Framed [A.MGMT_FW_STATUS] [.mgmt] s t) ∧
  (∀ (s : State) (m : Master) (priv : Bool), Direct s m priv A.MGMT_FW_CTL → s.masterPriv m priv = true → s.fwState ≠ 3 →
    Answers (.fwActivate m priv) s (FwRefused 6 s)) ∧
  (∀ s : State, s.mgmt.fw.pend = true → s.mgmt.fw.trial = false → s.class67 = false →
    s.fld F.MGMT_FW_CTL_WHEN = 0 ∨ (s.fld F.MGMT_FW_CTL_WHEN = 1 ∧ s.mgmt.fw.go = true) →
    Answers .fwRestart s fun t => EntersReset 1 s t ∧ t.mgmt.fw.next = true ∧ t.mgmt.fw.pend = false) ∧
  (∀ s : State, s.mgmt.fw.pend = false ∨ s.class67 = true ∨ 2 ≤ s.fld F.MGMT_FW_CTL_WHEN → Untouched .fwRestart s) ∧
  (∀ (s : State) (m : Master) (priv : Bool), Direct s m priv A.MGMT_FW_CTL → s.masterPriv m priv = true →
    (s.mgmt.fw.trial = true → Answers (.fwConfirm m priv) s (TrialConfirmed s)) ∧
    (s.mgmt.fw.trial = false → Answers (.fwConfirm m priv) s (FwRefused 7 s))) ∧
  (∀ s : State, s.mgmt.fw.trial = true → s.on F.MGMT_FW_CTL_AUTO_CONFIRM = true → s.modState = 3 ∨ s.modState = 4 →
    Answers .fwAutoConfirm s (TrialConfirmed s)) ∧
  (∀ s : State, s.mgmt.fw.trial = false ∨ s.on F.MGMT_FW_CTL_AUTO_CONFIRM = false ∨ (s.modState ≠ 3 ∧ s.modState ≠ 4) →
    Untouched .fwAutoConfirm s) ∧
  (∀ (s : State) (m : Master) (priv : Bool), Direct s m priv A.MGMT_FW_CTL → s.masterPriv m priv = true →
    (s.mgmt.fw.trial = true → Answers (.fwAbortTrial m priv) s (RollsBack 4 s)) ∧
    (s.mgmt.fw.trial = false → Untouched (.fwAbortTrial m priv) s)) ∧
  (∀ (s : State) (dt : Nat), s.mgmt.fw.trial = true → s.mgmt.fw.left ≤ s.time.up + dt →
    Answers (.fwTrialExpiry dt) s (RollsBack 5 s)) ∧
  (∀ (s : State) (dt : Nat), s.mgmt.fw.trial = false ∨ s.time.up + dt < s.mgmt.fw.left →
    Answers (.fwTrialExpiry dt) s fun t => Framed timeRegs [.time, .clk, .mgmt] s t)

/-! ### Self-test (spec chapter 18) -/

/-- A block's test is queued with an origin. -/
def IsQueued (b origin : Nat) (t : State) : Prop :=
  t.bitOf F.TEST_QUEUED_MASK b = true ∧ t.fld (F.TEST_RES_W0_STATE b) = 1 ∧ t.fld (F.TEST_RES_W0_ORIGIN b) = origin

/-- The result words of the blocks. -/
def resRegs : List Nat := (List.range 32).map A.TEST_RES_W0

/-- The test queue (R523, R526, R530 to R532, R534, R536): START queues what is present and neither queued nor under test; CLEAR queues
a retired block with ORIGIN 5 and ends its retirement; STOP empties the queue and aborts the running test; the lowest queued block that
may be tested starts, and none while a class 6 or 7 request is in force; a soft retry queues its block; and the delay fault clears. -/
def TestQueue : Prop :=
  (∀ (s : State) (mask : Word) (m : Master) (priv : Bool), Direct s m priv A.TEST_START → s.masterPriv m priv = true →
    Answers (.testStartCmd mask m priv) s fun t =>
      (∀ b < 32, mask.getLsbD b = true → blockPresent s.variant b = true → s.bitOf F.TEST_QUEUED_MASK b = false →
        s.test.running ≠ some b → IsQueued b 3 t) ∧
      (∀ b < 32, mask.getLsbD b = false ∨ blockPresent s.variant b = false ∨ s.bitOf F.TEST_QUEUED_MASK b = true ∨
          s.test.running = some b →
        t.bitOf F.TEST_QUEUED_MASK b = s.bitOf F.TEST_QUEUED_MASK b ∧ t.reg (A.TEST_RES_W0 b) = s.reg (A.TEST_RES_W0 b)) ∧
      t.test.running = s.test.running ∧ Framed (A.TEST_QUEUED :: resRegs) [.test] s t) ∧
  (∀ (s : State) (b : Nat) (m : Master) (priv : Bool), Direct s m priv A.TEST_CLEAR → s.masterPriv m priv = true → b < 32 →
    blockPresent s.variant b = true → (s.rd A.TEST_RETIRED).testBit b = true → s.bitOf F.TEST_QUEUED_MASK b = false →
    s.test.running ≠ some b → s.on F.MGMT_CFG_STATUS_BUSY = false →
    Answers (.testClear (BitVec.ofNat 32 (2 ^ b)) m priv) s fun t =>
      IsQueued b 5 t ∧ t.rd A.TEST_RETIRED = clearBits (s.rd A.TEST_RETIRED) (2 ^ b) ∧ t.on F.MGMT_CFG_STATUS_BUSY = true ∧
      t.mgmt.saveSnap.isSome = true ∧
      Framed [A.TEST_RETIRED, A.TEST_QUEUED, A.TEST_RES_W0 b, A.MGMT_CFG_STATUS] [.test, .mgmt] s t) ∧
  (∀ (s : State) (mask : Word) (m : Master) (priv : Bool), Direct s m priv A.TEST_CLEAR → mask &&& s.reg A.TEST_RETIRED = 0 →
    Untouched (.testClear mask m priv) s) ∧
  (∀ (s : State) (m : Master) (priv : Bool), Direct s m priv A.TEST_CTL → s.masterPriv m priv = true → s.test.running = none →
    NotStarting s →
    Answers (.testStop m priv) s fun t =>
      t.rd A.TEST_QUEUED = 0 ∧ (∀ b < 32, s.bitOf F.TEST_QUEUED_MASK b = true → t.fld (F.TEST_RES_W0_STATE b) = 0) ∧
      Framed (A.TEST_QUEUED :: resRegs) [] s t) ∧
  (∀ (s : State) (b : Nat) (m : Master) (priv : Bool), Direct s m priv A.TEST_CTL → s.masterPriv m priv = true → b < 32 →
    s.test.running = some b →
    Answers (.testStop m priv) s fun t =>
      t.rd A.TEST_QUEUED = 0 ∧ t.rd A.TEST_STATUS = 0 ∧ t.test.running = none ∧ t.test.reinit = some b ∧
      t.fld (F.TEST_RES_W0_STATE b) = 5 ∧ t.fld (F.TEST_RES_W0_ABORT_WHY b) = 4 ∧ t.on F.TEST_EVT_ABORTED = true ∧
      t.on F.TEST_EVT_DONE = true ∧ MemKept s t) ∧
  (∀ (s : State) (b : Nat), s.test.running = none → s.test.reinit = none → s.class67 = false → s.nextTest = some b →
    Answers .testRunStart s fun t =>
      t.test.running = some b ∧ t.bitOf F.TEST_QUEUED_MASK b = false ∧ t.fld (F.TEST_RES_W0_STATE b) = 2 ∧
      t.on F.TEST_STATUS_RUNNING = true ∧ t.fld F.TEST_STATUS_CUR = b ∧
      (b = 5 → ∀ a, busBase ≤ a → a < busBase + 0x400000 → t.byte a = 0) ∧
      (b = 10 → Framed [A.TEST_QUEUED, A.TEST_RES_W0 10, A.TEST_STATUS] [.test] s t)) ∧
  (∀ s : State, s.test.running.isSome = true ∨ s.test.reinit.isSome = true ∨ s.class67 = true ∨ s.nextTest = none →
    Untouched .testRunStart s) ∧
  (∀ (s : State) (b : Nat), b < 32 → blockPresent s.variant b = true → s.test.retry.testBit b = true →
    s.testAllowedIn b s.modState = true → s.bitOf F.TEST_QUEUED_MASK b = false → s.test.running ≠ some b →
    Answers (.softRetry b) s fun t =>
      IsQueued b 4 t ∧ t.test.retry.testBit b = false ∧ Framed [A.TEST_QUEUED, A.TEST_RES_W0 b] [.test] s t) ∧
  (∀ (s : State) (b : Nat), blockPresent s.variant b = true → s.test.retry.testBit b = false ∨ s.testAllowedIn b s.modState = false →
    Untouched (.softRetry b) s) ∧
  (∀ (s : State) (b : Nat), blockPresent s.variant b = false → Stops (.softRetry b) s) ∧
  (∀ s : State, s.class67 = false →
    Answers .testRequeueQuiet s fun t => t.test = { s.test with wait67 := false } ∧ Framed [] [.test] s t) ∧
  (∀ s : State, s.class67 = true → Untouched .testRequeueQuiet s) ∧
  (∀ s : State, (∀ u ∈ s.test.dlyErrs, u + 600 * secU ≤ s.time.up) →
    Answers .dlyFaultClear s fun t => t.test = { s.test with dlyFault := false } ∧ Framed [] [.test] s t) ∧
  (∀ (s : State) (u : Nat), u ∈ s.test.dlyErrs → s.time.up < u + 600 * secU → Untouched .dlyFaultClear s)

/-- A test of block b has ended with a result that R520 judged. -/
def TestEnded (b result cycles sig : Nat) (t : State) : Prop :=
  t.test.running = none ∧ t.test.reinit = some b ∧ t.rd A.TEST_STATUS = 0 ∧ t.fld (F.TEST_RES_W0_STATE b) = result ∧
    t.rd (A.TEST_RES_W1 b) = sig ∧ t.rd (A.TEST_RES_W2 b) = cycles ∧ t.on F.TEST_EVT_DONE = true

/-- Test results (R520 to R522, R528 to R530, R532), for the switch's neighbours XPT and SENSE: too few cycles are ABORTED whatever the
signature; a wrong signature is FAIL, which retires a block at once where its kind is logic or memory and otherwise makes it unusable
until a retry passes, the third failing retry retiring it; PASS makes a block usable; and the block is then re-initialised. -/
def TestResults : Prop :=
  (∀ (s : State) (cycles : Nat) (sig : Word) (good memory : Bool) (bad short : Nat), s.test.running = some 10 →
    s.expCycles 10 ≤ cycles → cycles < 2 ^ 32 → good = true → s.fld (F.TEST_RES_W0_ORIGIN 10) ≠ 5 →
    Answers (.testEnd cycles sig.toNat good memory bad short) s fun t =>
      TestEnded 10 3 cycles sig.toNat t ∧ t.fld (F.TEST_RES_W0_KIND 10) = 5 ∧ t.fld (F.TEST_RES_W0_CONSEC 10) = 0 ∧
      t.test.unusable.testBit 10 = false ∧ t.test.retry.testBit 10 = false ∧
      Framed [A.TEST_RES_W0 10, A.TEST_RES_W1 10, A.TEST_RES_W2 10, A.TEST_EVT, A.TEST_STATUS, A.MGMT_EVT] [.test, .mgmt] s t) ∧
  (∀ (s : State) (cycles : Nat) (sig : Word) (good memory : Bool) (bad short : Nat), s.test.running = some 10 →
    s.expCycles 10 ≤ cycles → cycles < 2 ^ 32 → good = true → s.fld (F.TEST_RES_W0_ORIGIN 10) = 5 →
    s.on F.MGMT_CFG_STATUS_BUSY = false →
    Answers (.testEnd cycles sig.toNat good memory bad short) s fun t =>
      TestEnded 10 3 cycles sig.toNat t ∧ t.on F.TEST_EVT_RESTORED = true ∧ t.on F.MGMT_CFG_STATUS_BUSY = true ∧
      t.test.unusable.testBit 10 = false) ∧
  (∀ (s : State) (cycles : Nat) (sig : Word) (memory : Bool) (bad short : Nat), s.test.running = some 8 →
    s.expCycles 8 ≤ cycles → cycles < 2 ^ 32 →
    Answers (.testEnd cycles sig.toNat false memory bad short) s fun t =>
      TestEnded 8 4 cycles sig.toNat t ∧ t.fld (F.TEST_RES_W0_KIND 8) = (if memory then 2 else 1) ∧ t.on F.TEST_EVT_FAIL = true ∧
      (t.rd A.TEST_RETIRED).testBit 8 = true ∧ t.on F.TEST_EVT_RETIRED = true ∧ t.test.unusable.testBit 8 = true ∧
      t.on F.MGMT_CFG_STATUS_BUSY = true ∧ MemKept s t) ∧
  (∀ (s : State) (cycles : Nat) (sig : Word) (memory : Bool) (bad short : Nat), s.test.running = some 10 →
    s.expCycles 10 ≤ cycles → cycles < 2 ^ 32 → s.fld (F.TEST_RES_W0_ORIGIN 10) = 3 →
    Answers (.testEnd cycles sig.toNat false memory bad short) s fun t =>
      TestEnded 10 4 cycles sig.toNat t ∧ t.on F.TEST_EVT_FAIL = true ∧ t.test.unusable.testBit 10 = true ∧
      t.test.retry.testBit 10 = true ∧ t.reg A.TEST_RETIRED = s.reg A.TEST_RETIRED ∧
      t.fld (F.TEST_RES_W0_CONSEC 10) = s.fld (F.TEST_RES_W0_CONSEC 10)) ∧
  (∀ (s : State) (cycles : Nat) (sig : Word) (memory : Bool) (bad short : Nat), s.test.running = some 10 →
    s.expCycles 10 ≤ cycles → cycles < 2 ^ 32 → s.fld (F.TEST_RES_W0_ORIGIN 10) = 4 →
    Answers (.testEnd cycles sig.toNat false memory bad short) s fun t =>
      TestEnded 10 4 cycles sig.toNat t ∧ t.test.unusable.testBit 10 = true ∧
      t.fld (F.TEST_RES_W0_CONSEC 10) = min 3 (s.fld (F.TEST_RES_W0_CONSEC 10) + 1) ∧
      (2 ≤ s.fld (F.TEST_RES_W0_CONSEC 10) →
        (t.rd A.TEST_RETIRED).testBit 10 = true ∧ t.on F.TEST_EVT_RETIRED = true ∧ t.on F.MGMT_CFG_STATUS_BUSY = true) ∧
      (s.fld (F.TEST_RES_W0_CONSEC 10) < 2 → t.reg A.TEST_RETIRED = s.reg A.TEST_RETIRED ∧ t.test.retry.testBit 10 = true)) ∧
  (∀ (s : State) (cycles : Nat) (sig : Word) (good memory : Bool) (bad short : Nat), s.test.running = some 10 →
    cycles < s.expCycles 10 →
    Answers (.testEnd cycles sig.toNat good memory bad short) s fun t =>
      TestEnded 10 5 cycles sig.toNat t ∧ t.on F.TEST_EVT_ABORTED = true ∧ t.fld (F.TEST_RES_W0_ABORT_WHY 10) = 0 ∧
      t.test.unusable.testBit 10 = true) ∧
  (∀ (s : State) (cycles sig bad short : Nat) (good memory : Bool), s.test.running = none →
    Untouched (.testEnd cycles sig good memory bad short) s) ∧
  (∀ (s : State) (dt : Nat), s.test.reinit = some 10 → s.bus.owed = [] → NotStarting s →
    Answers (.testReinitComplete dt) s fun t =>
      t.test = { s.test with reinit := none } ∧ Framed timeRegs [.time, .clk, .mgmt, .test] s t) ∧
  (∀ (s : State) (dt : Nat), s.test.reinit = none →
    Answers (.testReinitComplete dt) s fun t => Framed timeRegs [.time, .clk, .mgmt] s t)

/-- Self-test: the queue of tests and what their results do. Where the spec leaves it open the statement follows the model's
choices in notes/assumptions/80.md, 81.md. -/
def Obligations.SelfTest : Prop := TestQueue ∧ TestResults
end

