-- ==== Sys2Proof/Laws/Field.lean ====
section
/-! SUPPORT. Fields of a word: a field replaced reads as the value stored, and every bit outside it stays. -/

namespace Sys2Proof.Machine

/-- Bit i of a word with a field replaced. -/
theorem Fld.testBit_into (f : Fld) (h : f.lo ≤ f.hi) (w v i : Nat) :
    (f.into w v).testBit i = if f.lo ≤ i ∧ i ≤ f.hi then v.testBit (i - f.lo) else w.testBit i := by
  have key : f.into w v = (w / 2 ^ (f.hi + 1)) * 2 ^ (f.hi + 1) + ((v % 2 ^ f.width) * 2 ^ f.lo + w % 2 ^ f.lo) := by
    unfold Fld.into Fld.of
    have hw : f.hi + 1 = f.lo + f.width := by unfold Fld.width; omega
    rw [hw, Nat.pow_add, Nat.shiftLeft_eq, Nat.shiftLeft_eq, Nat.shiftRight_eq_div_pow]
    have h1 := Nat.div_add_mod w (2 ^ f.lo)
    have h2 := Nat.div_add_mod (w / 2 ^ f.lo) (2 ^ f.width)
    rw [Nat.div_div_eq_div_mul] at h2
    generalize w / (2 ^ f.lo * 2 ^ f.width) = q at *
    generalize w / 2 ^ f.lo % 2 ^ f.width = m at *
    generalize w % 2 ^ f.lo = r at *
    rw [← h2] at h1
    have : w = q * (2 ^ f.lo * 2 ^ f.width) + (m * 2 ^ f.lo + r) := by rw [← h1]; ring
    omega
  rw [key]
  have hl : v % 2 ^ f.width * 2 ^ f.lo + w % 2 ^ f.lo < 2 ^ (f.hi + 1) := by
    have hw : f.hi + 1 = f.width + f.lo := by unfold Fld.width; omega
    rw [hw, Nat.pow_add]
    have a := Nat.mod_lt v (Nat.two_pow_pos f.width)
    have b := Nat.mod_lt w (Nat.two_pow_pos f.lo)
    calc v % 2 ^ f.width * 2 ^ f.lo + w % 2 ^ f.lo
        < v % 2 ^ f.width * 2 ^ f.lo + 2 ^ f.lo := by omega
      _ = (v % 2 ^ f.width + 1) * 2 ^ f.lo := by ring
      _ ≤ 2 ^ f.width * 2 ^ f.lo := Nat.mul_le_mul_right _ a
  rw [mul_comm (w / 2 ^ (f.hi + 1)), Nat.testBit_two_pow_mul_add _ hl, mul_comm (v % 2 ^ f.width),
    Nat.testBit_two_pow_mul_add _ (Nat.mod_lt w (Nat.two_pow_pos f.lo))]
  simp only [Nat.testBit_mod_two_pow, Nat.testBit_div_two_pow]
  unfold Fld.width
  by_cases h1 : i < f.hi + 1
  · by_cases h2 : i < f.lo
    · simp [h1, h2, Nat.not_le.mpr h2]
    · have h3 : i - f.lo < f.hi + 1 - f.lo := by omega
      simp [h1, h2, h3, Nat.le_of_not_lt h2, Nat.lt_succ_iff.mp h1]
  · have h2 : ¬ i ≤ f.hi := by omega
    have h3 : i - (f.hi + 1) + (f.hi + 1) = i := by omega
    simp [h1, h2, h3]

/-- Bit i of a field. -/
theorem Fld.testBit_of (f : Fld) (w i : Nat) :
    (f.of w).testBit i = (decide (i < f.width) && w.testBit (f.lo + i)) := by
  simp [Fld.of, Nat.testBit_mod_two_pow, Nat.testBit_shiftRight]

/-- A field replaced reads as the value stored. -/
theorem Fld.of_into_same (f : Fld) (h : f.lo ≤ f.hi) (w v : Nat) : f.of (f.into w v) = v % 2 ^ f.width := by
  apply Nat.eq_of_testBit_eq
  intro i
  rw [Fld.testBit_of, Fld.testBit_into f h, Nat.testBit_mod_two_pow]
  unfold Fld.width
  by_cases hi : i < f.hi + 1 - f.lo
  · have : f.lo ≤ f.lo + i ∧ f.lo + i ≤ f.hi := by omega
    rw [if_pos this]; simp
  · simp [hi]

/-- A field that shares no bit with the one replaced stays. -/
theorem Fld.of_into_apart (f g : Fld) (hf : f.lo ≤ f.hi) (hg : g.lo ≤ g.hi) (h : f.apart g = true) (w v : Nat) :
    g.of (f.into w v) = g.of w := by
  apply Nat.eq_of_testBit_eq
  intro i
  rw [Fld.testBit_of, Fld.testBit_of, Fld.testBit_into f hf]
  simp only [Fld.apart, Bool.or_eq_true, Nat.blt_eq] at h
  unfold Fld.width
  by_cases hi : i < g.hi + 1 - g.lo
  · have : ¬ (f.lo ≤ g.lo + i ∧ g.lo + i ≤ f.hi) := by omega
    rw [if_neg this]
  · simp [hi]

/-- A word with a field replaced is still a word. -/
theorem Fld.into_lt (f : Fld) (h : f.lo ≤ f.hi) (h32 : f.hi < 32) (w v : Nat) (hw : w < 2 ^ 32) :
    f.into w v < 2 ^ 32 := by
  apply Nat.lt_pow_two_of_testBit
  intro i hi
  rw [Fld.testBit_into f h, if_neg (by omega)]
  exact Nat.testBit_lt_two_pow (Nat.lt_of_lt_of_le hw (Nat.pow_le_pow_right (by decide) hi))

theorem Fld.of_lt (f : Fld) (w : Nat) : f.of w < 2 ^ f.width := Nat.mod_lt _ (Nat.two_pow_pos _)

end Sys2Proof.Machine
end

