-- ==== Sys2Proof/Laws/Sparse.lean ====
section
/-! SUPPORT. What a sparse store does: a read after a store, and that stores keep the canonical form. -/

namespace Sys2Proof.Machine

/-- A read after an insertion. -/
theorem Sparse.find_insert {α : Type} (a b : Nat) (v : α) (l : List (Nat × α)) :
    Sparse.find (Sparse.insert a v l) b = if b = a then some v else Sparse.find l b := by
  induction l with
  | nil => simp only [Sparse.insert, Sparse.find, eq_comm]
  | cons c t ih =>
    obtain ⟨k, w⟩ := c
    simp only [Sparse.insert]
    split
    · simp only [Sparse.find, eq_comm]
    · split
      · subst a; by_cases h : b = k <;> simp [Sparse.find, h, eq_comm]
      · rename_i hne
        simp only [Sparse.find]
        rw [ih]
        by_cases hk : k = b
        · subst hk; simp [Ne.symm hne]
        · simp [hk]

/-- A read after a key's entry is taken out. -/
theorem Sparse.find_filter_ne {α : Type} (a b : Nat) (l : List (Nat × α)) :
    Sparse.find (l.filter (fun c => c.1 != a)) b = if b = a then none else Sparse.find l b := by
  induction l with
  | nil => simp [Sparse.find]
  | cons c t ih =>
    obtain ⟨k, w⟩ := c
    by_cases hk : k = a
    · subst hk
      simp only [bne_self_eq_false, Bool.false_eq_true, not_false_eq_true, List.filter_cons_of_neg, ih, Sparse.find]
      by_cases hb : b = k
      · simp [hb]
      · simp [hb, Ne.symm hb]
    · have : ((k, w) :: t).filter (fun c => c.1 != a) = (k, w) :: t.filter (fun c => c.1 != a) := by
        simp [hk]
      simp only [this, Sparse.find, ih]
      by_cases hb : k = b
      · subst hb; simp [hk]
      · simp [hb]

/-- A read after a store: the stored value at its key, and every other key as before. -/
theorem Sparse.getD_find_put {α : Type} [DecidableEq α] (d v : α) (a b : Nat) (l : List (Nat × α)) (e : α)
    (h : b = a → e = d) :
    (Sparse.find (Sparse.put d l a v) b).getD e = if b = a then v else (Sparse.find l b).getD e := by
  unfold Sparse.put
  split
  · rename_i hv
    rw [Sparse.find_filter_ne]
    by_cases hb : b = a
    · simp [hb, h hb, hv]
    · simp [hb]
  · rw [Sparse.find_insert]
    by_cases hb : b = a <;> simp [hb]

/-- A read after the entries of a range are taken out. -/
theorem Sparse.find_filter {α : Type} (p : Nat → Bool) (b : Nat) (l : List (Nat × α)) :
    Sparse.find (l.filter (fun c => p c.1)) b = if p b then Sparse.find l b else none := by
  induction l with
  | nil => simp [Sparse.find]
  | cons c t ih =>
    obtain ⟨k, w⟩ := c
    by_cases hk : p k
    · simp only [List.filter_cons, hk, if_true, Sparse.find, ih]
      by_cases hb : k = b
      · subst hb; simp [hk]
      · simp [hb]
    · simp only [List.filter_cons, hk, Bool.false_eq_true, if_false, Sparse.find, ih]
      by_cases hb : k = b
      · subst hb; simp [hk]
      · simp [hb]

/-! ### The canonical form -/

/-- A store is sorted exactly when its first key is below every later one and the rest is sorted. -/
theorem Sparse.sorted_cons {α : Type} (c : Nat × α) (t : List (Nat × α)) :
    Sparse.sorted (c :: t) = true ↔ (∀ x ∈ t, c.1 < x.1) ∧ Sparse.sorted t = true := by
  induction t generalizing c with
  | nil => simp [Sparse.sorted]
  | cons e t ih =>
    obtain ⟨a, v⟩ := c
    obtain ⟨b, w⟩ := e
    simp only [Sparse.sorted, Bool.and_eq_true, Nat.blt_eq, List.mem_cons, forall_eq_or_imp]
    constructor
    · rintro ⟨h, hs⟩
      have := (ih (b, w)).mp hs
      exact ⟨⟨h, fun x hx => Nat.lt_trans h (this.1 x hx)⟩, hs⟩
    · rintro ⟨⟨h, -⟩, hs⟩
      exact ⟨h, hs⟩

/-- What an insertion leaves listed. -/
theorem Sparse.mem_insert {α : Type} {a : Nat} {v : α} {l : List (Nat × α)} {x : Nat × α}
    (h : x ∈ Sparse.insert a v l) : x = (a, v) ∨ x ∈ l := by
  induction l with
  | nil => simpa [Sparse.insert] using h
  | cons c t ih =>
    obtain ⟨k, w⟩ := c
    simp only [Sparse.insert] at h
    split at h
    · simpa using h
    · split at h
      · rcases List.mem_cons.mp h with h | h
        · exact .inl h
        · exact .inr (List.mem_cons_of_mem _ h)
      · rcases List.mem_cons.mp h with h | h
        · exact .inr (h ▸ List.mem_cons_self ..)
        · exact (ih h).imp id (List.mem_cons_of_mem _)

theorem Sparse.sorted_insert {α : Type} (a : Nat) (v : α) (l : List (Nat × α)) (h : Sparse.sorted l = true) :
    Sparse.sorted (Sparse.insert a v l) = true := by
  induction l with
  | nil => rfl
  | cons c t ih =>
    obtain ⟨k, w⟩ := c
    obtain ⟨hk, ht⟩ := (Sparse.sorted_cons _ _).mp h
    simp only [Sparse.insert]
    split
    · rename_i hlt
      refine (Sparse.sorted_cons _ _).mpr ⟨?_, h⟩
      intro x hx
      rcases List.mem_cons.mp hx with rfl | hx
      · exact hlt
      · exact Nat.lt_trans hlt (hk x hx)
    · split
      · rename_i heq
        exact (Sparse.sorted_cons _ _).mpr ⟨fun x hx => heq ▸ hk x hx, ht⟩
      · rename_i h1 h2
        refine (Sparse.sorted_cons _ _).mpr ⟨fun x hx => ?_, ih ht⟩
        rcases Sparse.mem_insert hx with rfl | hx
        · exact Nat.lt_of_le_of_ne (Nat.le_of_not_lt h1) (Ne.symm h2)
        · exact hk x hx

theorem Sparse.sorted_filter {α : Type} (p : Nat × α → Bool) (l : List (Nat × α)) (h : Sparse.sorted l = true) :
    Sparse.sorted (l.filter p) = true := by
  induction l with
  | nil => rfl
  | cons c t ih =>
    obtain ⟨hc, ht⟩ := (Sparse.sorted_cons _ _).mp h
    by_cases hp : p c
    · rw [List.filter_cons_of_pos hp]
      exact (Sparse.sorted_cons _ _).mpr ⟨fun x hx => hc x (List.mem_of_mem_filter hx), ih ht⟩
    · rw [List.filter_cons_of_neg hp]
      exact ih ht

/-- A filter keeps the canonical form. -/
theorem Sparse.wf_filter {α : Type} [DecidableEq α] (d : Nat → α) (p : Nat × α → Bool) (l : List (Nat × α))
    (h : Sparse.wf d l = true) : Sparse.wf d (l.filter p) = true := by
  simp only [Sparse.wf, Bool.and_eq_true, List.all_eq_true] at h ⊢
  exact ⟨Sparse.sorted_filter p l h.1, fun x hx => h.2 x (List.mem_of_mem_filter hx)⟩

/-- A store keeps the canonical form. -/
theorem Sparse.wf_put {α : Type} [DecidableEq α] (d : Nat → α) (a : Nat) (v : α) (l : List (Nat × α))
    (h : Sparse.wf d l = true) : Sparse.wf d (Sparse.put (d a) l a v) = true := by
  unfold Sparse.put
  split
  · exact Sparse.wf_filter d _ l h
  · rename_i hv
    simp only [Sparse.wf, Bool.and_eq_true, List.all_eq_true] at h ⊢
    refine ⟨Sparse.sorted_insert a v l h.1, fun x hx => ?_⟩
    rcases Sparse.mem_insert hx with rfl | hx
    · simpa using hv
    · exact h.2 x hx

end Sys2Proof.Machine
end

