-- ==== Sys2Proof/Laws/State.lean ====
section
/-! SUPPORT. What each named update of the state leaves alone: one lemma per component per update. -/

namespace Sys2Proof.Machine

/-! `putReg` changes `regs`. -/

@[simp] theorem State.putReg_variant (s : State) (a : Nat) (w : Word) :
    (s.putReg a w).variant = s.variant := rfl
@[simp] theorem State.putReg_mem (s : State) (a : Nat) (w : Word) :
    (s.putReg a w).mem = s.mem := rfl
@[simp] theorem State.putReg_freeCtr (s : State) (a : Nat) (w : Word) :
    (s.putReg a w).freeCtr = s.freeCtr := rfl
@[simp] theorem State.putReg_resp (s : State) (a : Nat) (w : Word) :
    (s.putReg a w).resp = s.resp := rfl
@[simp] theorem State.putReg_mgmt (s : State) (a : Nat) (w : Word) :
    (s.putReg a w).mgmt = s.mgmt := rfl
@[simp] theorem State.putReg_hmq (s : State) (a : Nat) (w : Word) :
    (s.putReg a w).hmq = s.hmq := rfl
@[simp] theorem State.putReg_pwr (s : State) (a : Nat) (w : Word) :
    (s.putReg a w).pwr = s.pwr := rfl
@[simp] theorem State.putReg_ring (s : State) (a : Nat) (w : Word) :
    (s.putReg a w).ring = s.ring := rfl
@[simp] theorem State.putReg_time (s : State) (a : Nat) (w : Word) :
    (s.putReg a w).time = s.time := rfl
@[simp] theorem State.putReg_clk (s : State) (a : Nat) (w : Word) :
    (s.putReg a w).clk = s.clk := rfl
@[simp] theorem State.putReg_strm (s : State) (a : Nat) (w : Word) :
    (s.putReg a w).strm = s.strm := rfl
@[simp] theorem State.putReg_play (s : State) (a : Nat) (w : Word) :
    (s.putReg a w).play = s.play := rfl
@[simp] theorem State.putReg_eng (s : State) (a : Nat) (w : Word) :
    (s.putReg a w).eng = s.eng := rfl
@[simp] theorem State.putReg_xpt (s : State) (a : Nat) (w : Word) :
    (s.putReg a w).xpt = s.xpt := rfl
@[simp] theorem State.putReg_tdm (s : State) (a : Nat) (w : Word) :
    (s.putReg a w).tdm = s.tdm := rfl
@[simp] theorem State.putReg_proof (s : State) (a : Nat) (w : Word) :
    (s.putReg a w).proof = s.proof := rfl
@[simp] theorem State.putReg_splice (s : State) (a : Nat) (w : Word) :
    (s.putReg a w).splice = s.splice := rfl
@[simp] theorem State.putReg_test (s : State) (a : Nat) (w : Word) :
    (s.putReg a w).test = s.test := rfl
@[simp] theorem State.putReg_scp (s : State) (a : Nat) (w : Word) :
    (s.putReg a w).scp = s.scp := rfl
@[simp] theorem State.putReg_msix (s : State) (a : Nat) (w : Word) :
    (s.putReg a w).msix = s.msix := rfl
@[simp] theorem State.putReg_bus (s : State) (a : Nat) (w : Word) :
    (s.putReg a w).bus = s.bus := rfl
@[simp] theorem State.putReg_out (s : State) (a : Nat) (w : Word) :
    (s.putReg a w).out = s.out := rfl
@[simp] theorem State.putReg_pending (s : State) (a : Nat) (w : Word) :
    (s.putReg a w).pending = s.pending := rfl

/-! `wr` changes `regs`. -/

@[simp] theorem State.wr_variant (s : State) (a n : Nat) :
    (s.wr a n).variant = s.variant := rfl
@[simp] theorem State.wr_mem (s : State) (a n : Nat) :
    (s.wr a n).mem = s.mem := rfl
@[simp] theorem State.wr_freeCtr (s : State) (a n : Nat) :
    (s.wr a n).freeCtr = s.freeCtr := rfl
@[simp] theorem State.wr_resp (s : State) (a n : Nat) :
    (s.wr a n).resp = s.resp := rfl
@[simp] theorem State.wr_mgmt (s : State) (a n : Nat) :
    (s.wr a n).mgmt = s.mgmt := rfl
@[simp] theorem State.wr_hmq (s : State) (a n : Nat) :
    (s.wr a n).hmq = s.hmq := rfl
@[simp] theorem State.wr_pwr (s : State) (a n : Nat) :
    (s.wr a n).pwr = s.pwr := rfl
@[simp] theorem State.wr_ring (s : State) (a n : Nat) :
    (s.wr a n).ring = s.ring := rfl
@[simp] theorem State.wr_time (s : State) (a n : Nat) :
    (s.wr a n).time = s.time := rfl
@[simp] theorem State.wr_clk (s : State) (a n : Nat) :
    (s.wr a n).clk = s.clk := rfl
@[simp] theorem State.wr_strm (s : State) (a n : Nat) :
    (s.wr a n).strm = s.strm := rfl
@[simp] theorem State.wr_play (s : State) (a n : Nat) :
    (s.wr a n).play = s.play := rfl
@[simp] theorem State.wr_eng (s : State) (a n : Nat) :
    (s.wr a n).eng = s.eng := rfl
@[simp] theorem State.wr_xpt (s : State) (a n : Nat) :
    (s.wr a n).xpt = s.xpt := rfl
@[simp] theorem State.wr_tdm (s : State) (a n : Nat) :
    (s.wr a n).tdm = s.tdm := rfl
@[simp] theorem State.wr_proof (s : State) (a n : Nat) :
    (s.wr a n).proof = s.proof := rfl
@[simp] theorem State.wr_splice (s : State) (a n : Nat) :
    (s.wr a n).splice = s.splice := rfl
@[simp] theorem State.wr_test (s : State) (a n : Nat) :
    (s.wr a n).test = s.test := rfl
@[simp] theorem State.wr_scp (s : State) (a n : Nat) :
    (s.wr a n).scp = s.scp := rfl
@[simp] theorem State.wr_msix (s : State) (a n : Nat) :
    (s.wr a n).msix = s.msix := rfl
@[simp] theorem State.wr_bus (s : State) (a n : Nat) :
    (s.wr a n).bus = s.bus := rfl
@[simp] theorem State.wr_out (s : State) (a n : Nat) :
    (s.wr a n).out = s.out := rfl
@[simp] theorem State.wr_pending (s : State) (a n : Nat) :
    (s.wr a n).pending = s.pending := rfl

/-! `clearReg` changes `regs`. -/

@[simp] theorem State.clearReg_variant (s : State) (a : Nat) :
    (s.clearReg a).variant = s.variant := rfl
@[simp] theorem State.clearReg_mem (s : State) (a : Nat) :
    (s.clearReg a).mem = s.mem := rfl
@[simp] theorem State.clearReg_freeCtr (s : State) (a : Nat) :
    (s.clearReg a).freeCtr = s.freeCtr := rfl
@[simp] theorem State.clearReg_resp (s : State) (a : Nat) :
    (s.clearReg a).resp = s.resp := rfl
@[simp] theorem State.clearReg_mgmt (s : State) (a : Nat) :
    (s.clearReg a).mgmt = s.mgmt := rfl
@[simp] theorem State.clearReg_hmq (s : State) (a : Nat) :
    (s.clearReg a).hmq = s.hmq := rfl
@[simp] theorem State.clearReg_pwr (s : State) (a : Nat) :
    (s.clearReg a).pwr = s.pwr := rfl
@[simp] theorem State.clearReg_ring (s : State) (a : Nat) :
    (s.clearReg a).ring = s.ring := rfl
@[simp] theorem State.clearReg_time (s : State) (a : Nat) :
    (s.clearReg a).time = s.time := rfl
@[simp] theorem State.clearReg_clk (s : State) (a : Nat) :
    (s.clearReg a).clk = s.clk := rfl
@[simp] theorem State.clearReg_strm (s : State) (a : Nat) :
    (s.clearReg a).strm = s.strm := rfl
@[simp] theorem State.clearReg_play (s : State) (a : Nat) :
    (s.clearReg a).play = s.play := rfl
@[simp] theorem State.clearReg_eng (s : State) (a : Nat) :
    (s.clearReg a).eng = s.eng := rfl
@[simp] theorem State.clearReg_xpt (s : State) (a : Nat) :
    (s.clearReg a).xpt = s.xpt := rfl
@[simp] theorem State.clearReg_tdm (s : State) (a : Nat) :
    (s.clearReg a).tdm = s.tdm := rfl
@[simp] theorem State.clearReg_proof (s : State) (a : Nat) :
    (s.clearReg a).proof = s.proof := rfl
@[simp] theorem State.clearReg_splice (s : State) (a : Nat) :
    (s.clearReg a).splice = s.splice := rfl
@[simp] theorem State.clearReg_test (s : State) (a : Nat) :
    (s.clearReg a).test = s.test := rfl
@[simp] theorem State.clearReg_scp (s : State) (a : Nat) :
    (s.clearReg a).scp = s.scp := rfl
@[simp] theorem State.clearReg_msix (s : State) (a : Nat) :
    (s.clearReg a).msix = s.msix := rfl
@[simp] theorem State.clearReg_bus (s : State) (a : Nat) :
    (s.clearReg a).bus = s.bus := rfl
@[simp] theorem State.clearReg_out (s : State) (a : Nat) :
    (s.clearReg a).out = s.out := rfl
@[simp] theorem State.clearReg_pending (s : State) (a : Nat) :
    (s.clearReg a).pending = s.pending := rfl

/-! `clearRegs` changes `regs`. -/

@[simp] theorem State.clearRegs_variant (s : State) (a b : Nat) :
    (s.clearRegs a b).variant = s.variant := rfl
@[simp] theorem State.clearRegs_mem (s : State) (a b : Nat) :
    (s.clearRegs a b).mem = s.mem := rfl
@[simp] theorem State.clearRegs_freeCtr (s : State) (a b : Nat) :
    (s.clearRegs a b).freeCtr = s.freeCtr := rfl
@[simp] theorem State.clearRegs_resp (s : State) (a b : Nat) :
    (s.clearRegs a b).resp = s.resp := rfl
@[simp] theorem State.clearRegs_mgmt (s : State) (a b : Nat) :
    (s.clearRegs a b).mgmt = s.mgmt := rfl
@[simp] theorem State.clearRegs_hmq (s : State) (a b : Nat) :
    (s.clearRegs a b).hmq = s.hmq := rfl
@[simp] theorem State.clearRegs_pwr (s : State) (a b : Nat) :
    (s.clearRegs a b).pwr = s.pwr := rfl
@[simp] theorem State.clearRegs_ring (s : State) (a b : Nat) :
    (s.clearRegs a b).ring = s.ring := rfl
@[simp] theorem State.clearRegs_time (s : State) (a b : Nat) :
    (s.clearRegs a b).time = s.time := rfl
@[simp] theorem State.clearRegs_clk (s : State) (a b : Nat) :
    (s.clearRegs a b).clk = s.clk := rfl
@[simp] theorem State.clearRegs_strm (s : State) (a b : Nat) :
    (s.clearRegs a b).strm = s.strm := rfl
@[simp] theorem State.clearRegs_play (s : State) (a b : Nat) :
    (s.clearRegs a b).play = s.play := rfl
@[simp] theorem State.clearRegs_eng (s : State) (a b : Nat) :
    (s.clearRegs a b).eng = s.eng := rfl
@[simp] theorem State.clearRegs_xpt (s : State) (a b : Nat) :
    (s.clearRegs a b).xpt = s.xpt := rfl
@[simp] theorem State.clearRegs_tdm (s : State) (a b : Nat) :
    (s.clearRegs a b).tdm = s.tdm := rfl
@[simp] theorem State.clearRegs_proof (s : State) (a b : Nat) :
    (s.clearRegs a b).proof = s.proof := rfl
@[simp] theorem State.clearRegs_splice (s : State) (a b : Nat) :
    (s.clearRegs a b).splice = s.splice := rfl
@[simp] theorem State.clearRegs_test (s : State) (a b : Nat) :
    (s.clearRegs a b).test = s.test := rfl
@[simp] theorem State.clearRegs_scp (s : State) (a b : Nat) :
    (s.clearRegs a b).scp = s.scp := rfl
@[simp] theorem State.clearRegs_msix (s : State) (a b : Nat) :
    (s.clearRegs a b).msix = s.msix := rfl
@[simp] theorem State.clearRegs_bus (s : State) (a b : Nat) :
    (s.clearRegs a b).bus = s.bus := rfl
@[simp] theorem State.clearRegs_out (s : State) (a b : Nat) :
    (s.clearRegs a b).out = s.out := rfl
@[simp] theorem State.clearRegs_pending (s : State) (a b : Nat) :
    (s.clearRegs a b).pending = s.pending := rfl

/-! `set` changes `regs`. -/

@[simp] theorem State.set_variant (s : State) (g : Fld) (v : Nat) :
    (s.set g v).variant = s.variant := rfl
@[simp] theorem State.set_mem (s : State) (g : Fld) (v : Nat) :
    (s.set g v).mem = s.mem := rfl
@[simp] theorem State.set_freeCtr (s : State) (g : Fld) (v : Nat) :
    (s.set g v).freeCtr = s.freeCtr := rfl
@[simp] theorem State.set_resp (s : State) (g : Fld) (v : Nat) :
    (s.set g v).resp = s.resp := rfl
@[simp] theorem State.set_mgmt (s : State) (g : Fld) (v : Nat) :
    (s.set g v).mgmt = s.mgmt := rfl
@[simp] theorem State.set_hmq (s : State) (g : Fld) (v : Nat) :
    (s.set g v).hmq = s.hmq := rfl
@[simp] theorem State.set_pwr (s : State) (g : Fld) (v : Nat) :
    (s.set g v).pwr = s.pwr := rfl
@[simp] theorem State.set_ring (s : State) (g : Fld) (v : Nat) :
    (s.set g v).ring = s.ring := rfl
@[simp] theorem State.set_time (s : State) (g : Fld) (v : Nat) :
    (s.set g v).time = s.time := rfl
@[simp] theorem State.set_clk (s : State) (g : Fld) (v : Nat) :
    (s.set g v).clk = s.clk := rfl
@[simp] theorem State.set_strm (s : State) (g : Fld) (v : Nat) :
    (s.set g v).strm = s.strm := rfl
@[simp] theorem State.set_play (s : State) (g : Fld) (v : Nat) :
    (s.set g v).play = s.play := rfl
@[simp] theorem State.set_eng (s : State) (g : Fld) (v : Nat) :
    (s.set g v).eng = s.eng := rfl
@[simp] theorem State.set_xpt (s : State) (g : Fld) (v : Nat) :
    (s.set g v).xpt = s.xpt := rfl
@[simp] theorem State.set_tdm (s : State) (g : Fld) (v : Nat) :
    (s.set g v).tdm = s.tdm := rfl
@[simp] theorem State.set_proof (s : State) (g : Fld) (v : Nat) :
    (s.set g v).proof = s.proof := rfl
@[simp] theorem State.set_splice (s : State) (g : Fld) (v : Nat) :
    (s.set g v).splice = s.splice := rfl
@[simp] theorem State.set_test (s : State) (g : Fld) (v : Nat) :
    (s.set g v).test = s.test := rfl
@[simp] theorem State.set_scp (s : State) (g : Fld) (v : Nat) :
    (s.set g v).scp = s.scp := rfl
@[simp] theorem State.set_msix (s : State) (g : Fld) (v : Nat) :
    (s.set g v).msix = s.msix := rfl
@[simp] theorem State.set_bus (s : State) (g : Fld) (v : Nat) :
    (s.set g v).bus = s.bus := rfl
@[simp] theorem State.set_out (s : State) (g : Fld) (v : Nat) :
    (s.set g v).out = s.out := rfl
@[simp] theorem State.set_pending (s : State) (g : Fld) (v : Nat) :
    (s.set g v).pending = s.pending := rfl

/-! `setB` changes `regs`. -/

@[simp] theorem State.setB_variant (s : State) (g : Fld) (b : Bool) :
    (s.setB g b).variant = s.variant := rfl
@[simp] theorem State.setB_mem (s : State) (g : Fld) (b : Bool) :
    (s.setB g b).mem = s.mem := rfl
@[simp] theorem State.setB_freeCtr (s : State) (g : Fld) (b : Bool) :
    (s.setB g b).freeCtr = s.freeCtr := rfl
@[simp] theorem State.setB_resp (s : State) (g : Fld) (b : Bool) :
    (s.setB g b).resp = s.resp := rfl
@[simp] theorem State.setB_mgmt (s : State) (g : Fld) (b : Bool) :
    (s.setB g b).mgmt = s.mgmt := rfl
@[simp] theorem State.setB_hmq (s : State) (g : Fld) (b : Bool) :
    (s.setB g b).hmq = s.hmq := rfl
@[simp] theorem State.setB_pwr (s : State) (g : Fld) (b : Bool) :
    (s.setB g b).pwr = s.pwr := rfl
@[simp] theorem State.setB_ring (s : State) (g : Fld) (b : Bool) :
    (s.setB g b).ring = s.ring := rfl
@[simp] theorem State.setB_time (s : State) (g : Fld) (b : Bool) :
    (s.setB g b).time = s.time := rfl
@[simp] theorem State.setB_clk (s : State) (g : Fld) (b : Bool) :
    (s.setB g b).clk = s.clk := rfl
@[simp] theorem State.setB_strm (s : State) (g : Fld) (b : Bool) :
    (s.setB g b).strm = s.strm := rfl
@[simp] theorem State.setB_play (s : State) (g : Fld) (b : Bool) :
    (s.setB g b).play = s.play := rfl
@[simp] theorem State.setB_eng (s : State) (g : Fld) (b : Bool) :
    (s.setB g b).eng = s.eng := rfl
@[simp] theorem State.setB_xpt (s : State) (g : Fld) (b : Bool) :
    (s.setB g b).xpt = s.xpt := rfl
@[simp] theorem State.setB_tdm (s : State) (g : Fld) (b : Bool) :
    (s.setB g b).tdm = s.tdm := rfl
@[simp] theorem State.setB_proof (s : State) (g : Fld) (b : Bool) :
    (s.setB g b).proof = s.proof := rfl
@[simp] theorem State.setB_splice (s : State) (g : Fld) (b : Bool) :
    (s.setB g b).splice = s.splice := rfl
@[simp] theorem State.setB_test (s : State) (g : Fld) (b : Bool) :
    (s.setB g b).test = s.test := rfl
@[simp] theorem State.setB_scp (s : State) (g : Fld) (b : Bool) :
    (s.setB g b).scp = s.scp := rfl
@[simp] theorem State.setB_msix (s : State) (g : Fld) (b : Bool) :
    (s.setB g b).msix = s.msix := rfl
@[simp] theorem State.setB_bus (s : State) (g : Fld) (b : Bool) :
    (s.setB g b).bus = s.bus := rfl
@[simp] theorem State.setB_out (s : State) (g : Fld) (b : Bool) :
    (s.setB g b).out = s.out := rfl
@[simp] theorem State.setB_pending (s : State) (g : Fld) (b : Bool) :
    (s.setB g b).pending = s.pending := rfl

/-! `event` changes `regs`. -/

@[simp] theorem State.event_variant (s : State) (g : Fld) :
    (s.event g).variant = s.variant := rfl
@[simp] theorem State.event_mem (s : State) (g : Fld) :
    (s.event g).mem = s.mem := rfl
@[simp] theorem State.event_freeCtr (s : State) (g : Fld) :
    (s.event g).freeCtr = s.freeCtr := rfl
@[simp] theorem State.event_resp (s : State) (g : Fld) :
    (s.event g).resp = s.resp := rfl
@[simp] theorem State.event_mgmt (s : State) (g : Fld) :
    (s.event g).mgmt = s.mgmt := rfl
@[simp] theorem State.event_hmq (s : State) (g : Fld) :
    (s.event g).hmq = s.hmq := rfl
@[simp] theorem State.event_pwr (s : State) (g : Fld) :
    (s.event g).pwr = s.pwr := rfl
@[simp] theorem State.event_ring (s : State) (g : Fld) :
    (s.event g).ring = s.ring := rfl
@[simp] theorem State.event_time (s : State) (g : Fld) :
    (s.event g).time = s.time := rfl
@[simp] theorem State.event_clk (s : State) (g : Fld) :
    (s.event g).clk = s.clk := rfl
@[simp] theorem State.event_strm (s : State) (g : Fld) :
    (s.event g).strm = s.strm := rfl
@[simp] theorem State.event_play (s : State) (g : Fld) :
    (s.event g).play = s.play := rfl
@[simp] theorem State.event_eng (s : State) (g : Fld) :
    (s.event g).eng = s.eng := rfl
@[simp] theorem State.event_xpt (s : State) (g : Fld) :
    (s.event g).xpt = s.xpt := rfl
@[simp] theorem State.event_tdm (s : State) (g : Fld) :
    (s.event g).tdm = s.tdm := rfl
@[simp] theorem State.event_proof (s : State) (g : Fld) :
    (s.event g).proof = s.proof := rfl
@[simp] theorem State.event_splice (s : State) (g : Fld) :
    (s.event g).splice = s.splice := rfl
@[simp] theorem State.event_test (s : State) (g : Fld) :
    (s.event g).test = s.test := rfl
@[simp] theorem State.event_scp (s : State) (g : Fld) :
    (s.event g).scp = s.scp := rfl
@[simp] theorem State.event_msix (s : State) (g : Fld) :
    (s.event g).msix = s.msix := rfl
@[simp] theorem State.event_bus (s : State) (g : Fld) :
    (s.event g).bus = s.bus := rfl
@[simp] theorem State.event_out (s : State) (g : Fld) :
    (s.event g).out = s.out := rfl
@[simp] theorem State.event_pending (s : State) (g : Fld) :
    (s.event g).pending = s.pending := rfl

/-! `setBit` changes `regs`. -/

@[simp] theorem State.setBit_variant (s : State) (g : Fld) (k : Nat) (b : Bool) :
    (s.setBit g k b).variant = s.variant := by
  unfold State.setBit; dsimp only; split <;> rfl
@[simp] theorem State.setBit_mem (s : State) (g : Fld) (k : Nat) (b : Bool) :
    (s.setBit g k b).mem = s.mem := by
  unfold State.setBit; dsimp only; split <;> rfl
@[simp] theorem State.setBit_freeCtr (s : State) (g : Fld) (k : Nat) (b : Bool) :
    (s.setBit g k b).freeCtr = s.freeCtr := by
  unfold State.setBit; dsimp only; split <;> rfl
@[simp] theorem State.setBit_resp (s : State) (g : Fld) (k : Nat) (b : Bool) :
    (s.setBit g k b).resp = s.resp := by
  unfold State.setBit; dsimp only; split <;> rfl
@[simp] theorem State.setBit_mgmt (s : State) (g : Fld) (k : Nat) (b : Bool) :
    (s.setBit g k b).mgmt = s.mgmt := by
  unfold State.setBit; dsimp only; split <;> rfl
@[simp] theorem State.setBit_hmq (s : State) (g : Fld) (k : Nat) (b : Bool) :
    (s.setBit g k b).hmq = s.hmq := by
  unfold State.setBit; dsimp only; split <;> rfl
@[simp] theorem State.setBit_pwr (s : State) (g : Fld) (k : Nat) (b : Bool) :
    (s.setBit g k b).pwr = s.pwr := by
  unfold State.setBit; dsimp only; split <;> rfl
@[simp] theorem State.setBit_ring (s : State) (g : Fld) (k : Nat) (b : Bool) :
    (s.setBit g k b).ring = s.ring := by
  unfold State.setBit; dsimp only; split <;> rfl
@[simp] theorem State.setBit_time (s : State) (g : Fld) (k : Nat) (b : Bool) :
    (s.setBit g k b).time = s.time := by
  unfold State.setBit; dsimp only; split <;> rfl
@[simp] theorem State.setBit_clk (s : State) (g : Fld) (k : Nat) (b : Bool) :
    (s.setBit g k b).clk = s.clk := by
  unfold State.setBit; dsimp only; split <;> rfl
@[simp] theorem State.setBit_strm (s : State) (g : Fld) (k : Nat) (b : Bool) :
    (s.setBit g k b).strm = s.strm := by
  unfold State.setBit; dsimp only; split <;> rfl
@[simp] theorem State.setBit_play (s : State) (g : Fld) (k : Nat) (b : Bool) :
    (s.setBit g k b).play = s.play := by
  unfold State.setBit; dsimp only; split <;> rfl
@[simp] theorem State.setBit_eng (s : State) (g : Fld) (k : Nat) (b : Bool) :
    (s.setBit g k b).eng = s.eng := by
  unfold State.setBit; dsimp only; split <;> rfl
@[simp] theorem State.setBit_xpt (s : State) (g : Fld) (k : Nat) (b : Bool) :
    (s.setBit g k b).xpt = s.xpt := by
  unfold State.setBit; dsimp only; split <;> rfl
@[simp] theorem State.setBit_tdm (s : State) (g : Fld) (k : Nat) (b : Bool) :
    (s.setBit g k b).tdm = s.tdm := by
  unfold State.setBit; dsimp only; split <;> rfl
@[simp] theorem State.setBit_proof (s : State) (g : Fld) (k : Nat) (b : Bool) :
    (s.setBit g k b).proof = s.proof := by
  unfold State.setBit; dsimp only; split <;> rfl
@[simp] theorem State.setBit_splice (s : State) (g : Fld) (k : Nat) (b : Bool) :
    (s.setBit g k b).splice = s.splice := by
  unfold State.setBit; dsimp only; split <;> rfl
@[simp] theorem State.setBit_test (s : State) (g : Fld) (k : Nat) (b : Bool) :
    (s.setBit g k b).test = s.test := by
  unfold State.setBit; dsimp only; split <;> rfl
@[simp] theorem State.setBit_scp (s : State) (g : Fld) (k : Nat) (b : Bool) :
    (s.setBit g k b).scp = s.scp := by
  unfold State.setBit; dsimp only; split <;> rfl
@[simp] theorem State.setBit_msix (s : State) (g : Fld) (k : Nat) (b : Bool) :
    (s.setBit g k b).msix = s.msix := by
  unfold State.setBit; dsimp only; split <;> rfl
@[simp] theorem State.setBit_bus (s : State) (g : Fld) (k : Nat) (b : Bool) :
    (s.setBit g k b).bus = s.bus := by
  unfold State.setBit; dsimp only; split <;> rfl
@[simp] theorem State.setBit_out (s : State) (g : Fld) (k : Nat) (b : Bool) :
    (s.setBit g k b).out = s.out := by
  unfold State.setBit; dsimp only; split <;> rfl
@[simp] theorem State.setBit_pending (s : State) (g : Fld) (k : Nat) (b : Bool) :
    (s.setBit g k b).pending = s.pending := by
  unfold State.setBit; dsimp only; split <;> rfl

/-! `eventBit` changes `regs`. -/

@[simp] theorem State.eventBit_variant (s : State) (g : Fld) (k : Nat) :
    (s.eventBit g k).variant = s.variant := s.setBit_variant g k true
@[simp] theorem State.eventBit_mem (s : State) (g : Fld) (k : Nat) :
    (s.eventBit g k).mem = s.mem := s.setBit_mem g k true
@[simp] theorem State.eventBit_freeCtr (s : State) (g : Fld) (k : Nat) :
    (s.eventBit g k).freeCtr = s.freeCtr := s.setBit_freeCtr g k true
@[simp] theorem State.eventBit_resp (s : State) (g : Fld) (k : Nat) :
    (s.eventBit g k).resp = s.resp := s.setBit_resp g k true
@[simp] theorem State.eventBit_mgmt (s : State) (g : Fld) (k : Nat) :
    (s.eventBit g k).mgmt = s.mgmt := s.setBit_mgmt g k true
@[simp] theorem State.eventBit_hmq (s : State) (g : Fld) (k : Nat) :
    (s.eventBit g k).hmq = s.hmq := s.setBit_hmq g k true
@[simp] theorem State.eventBit_pwr (s : State) (g : Fld) (k : Nat) :
    (s.eventBit g k).pwr = s.pwr := s.setBit_pwr g k true
@[simp] theorem State.eventBit_ring (s : State) (g : Fld) (k : Nat) :
    (s.eventBit g k).ring = s.ring := s.setBit_ring g k true
@[simp] theorem State.eventBit_time (s : State) (g : Fld) (k : Nat) :
    (s.eventBit g k).time = s.time := s.setBit_time g k true
@[simp] theorem State.eventBit_clk (s : State) (g : Fld) (k : Nat) :
    (s.eventBit g k).clk = s.clk := s.setBit_clk g k true
@[simp] theorem State.eventBit_strm (s : State) (g : Fld) (k : Nat) :
    (s.eventBit g k).strm = s.strm := s.setBit_strm g k true
@[simp] theorem State.eventBit_play (s : State) (g : Fld) (k : Nat) :
    (s.eventBit g k).play = s.play := s.setBit_play g k true
@[simp] theorem State.eventBit_eng (s : State) (g : Fld) (k : Nat) :
    (s.eventBit g k).eng = s.eng := s.setBit_eng g k true
@[simp] theorem State.eventBit_xpt (s : State) (g : Fld) (k : Nat) :
    (s.eventBit g k).xpt = s.xpt := s.setBit_xpt g k true
@[simp] theorem State.eventBit_tdm (s : State) (g : Fld) (k : Nat) :
    (s.eventBit g k).tdm = s.tdm := s.setBit_tdm g k true
@[simp] theorem State.eventBit_proof (s : State) (g : Fld) (k : Nat) :
    (s.eventBit g k).proof = s.proof := s.setBit_proof g k true
@[simp] theorem State.eventBit_splice (s : State) (g : Fld) (k : Nat) :
    (s.eventBit g k).splice = s.splice := s.setBit_splice g k true
@[simp] theorem State.eventBit_test (s : State) (g : Fld) (k : Nat) :
    (s.eventBit g k).test = s.test := s.setBit_test g k true
@[simp] theorem State.eventBit_scp (s : State) (g : Fld) (k : Nat) :
    (s.eventBit g k).scp = s.scp := s.setBit_scp g k true
@[simp] theorem State.eventBit_msix (s : State) (g : Fld) (k : Nat) :
    (s.eventBit g k).msix = s.msix := s.setBit_msix g k true
@[simp] theorem State.eventBit_bus (s : State) (g : Fld) (k : Nat) :
    (s.eventBit g k).bus = s.bus := s.setBit_bus g k true
@[simp] theorem State.eventBit_out (s : State) (g : Fld) (k : Nat) :
    (s.eventBit g k).out = s.out := s.setBit_out g k true
@[simp] theorem State.eventBit_pending (s : State) (g : Fld) (k : Nat) :
    (s.eventBit g k).pending = s.pending := s.setBit_pending g k true

/-! `keep` changes `regs`. -/

@[simp] theorem State.keep_variant (s : State) (g : Fld) (v : Nat) :
    (s.keep g v).variant = s.variant := by
  unfold State.keep; split <;> rfl
@[simp] theorem State.keep_mem (s : State) (g : Fld) (v : Nat) :
    (s.keep g v).mem = s.mem := by
  unfold State.keep; split <;> rfl
@[simp] theorem State.keep_freeCtr (s : State) (g : Fld) (v : Nat) :
    (s.keep g v).freeCtr = s.freeCtr := by
  unfold State.keep; split <;> rfl
@[simp] theorem State.keep_resp (s : State) (g : Fld) (v : Nat) :
    (s.keep g v).resp = s.resp := by
  unfold State.keep; split <;> rfl
@[simp] theorem State.keep_mgmt (s : State) (g : Fld) (v : Nat) :
    (s.keep g v).mgmt = s.mgmt := by
  unfold State.keep; split <;> rfl
@[simp] theorem State.keep_hmq (s : State) (g : Fld) (v : Nat) :
    (s.keep g v).hmq = s.hmq := by
  unfold State.keep; split <;> rfl
@[simp] theorem State.keep_pwr (s : State) (g : Fld) (v : Nat) :
    (s.keep g v).pwr = s.pwr := by
  unfold State.keep; split <;> rfl
@[simp] theorem State.keep_ring (s : State) (g : Fld) (v : Nat) :
    (s.keep g v).ring = s.ring := by
  unfold State.keep; split <;> rfl
@[simp] theorem State.keep_time (s : State) (g : Fld) (v : Nat) :
    (s.keep g v).time = s.time := by
  unfold State.keep; split <;> rfl
@[simp] theorem State.keep_clk (s : State) (g : Fld) (v : Nat) :
    (s.keep g v).clk = s.clk := by
  unfold State.keep; split <;> rfl
@[simp] theorem State.keep_strm (s : State) (g : Fld) (v : Nat) :
    (s.keep g v).strm = s.strm := by
  unfold State.keep; split <;> rfl
@[simp] theorem State.keep_play (s : State) (g : Fld) (v : Nat) :
    (s.keep g v).play = s.play := by
  unfold State.keep; split <;> rfl
@[simp] theorem State.keep_eng (s : State) (g : Fld) (v : Nat) :
    (s.keep g v).eng = s.eng := by
  unfold State.keep; split <;> rfl
@[simp] theorem State.keep_xpt (s : State) (g : Fld) (v : Nat) :
    (s.keep g v).xpt = s.xpt := by
  unfold State.keep; split <;> rfl
@[simp] theorem State.keep_tdm (s : State) (g : Fld) (v : Nat) :
    (s.keep g v).tdm = s.tdm := by
  unfold State.keep; split <;> rfl
@[simp] theorem State.keep_proof (s : State) (g : Fld) (v : Nat) :
    (s.keep g v).proof = s.proof := by
  unfold State.keep; split <;> rfl
@[simp] theorem State.keep_splice (s : State) (g : Fld) (v : Nat) :
    (s.keep g v).splice = s.splice := by
  unfold State.keep; split <;> rfl
@[simp] theorem State.keep_test (s : State) (g : Fld) (v : Nat) :
    (s.keep g v).test = s.test := by
  unfold State.keep; split <;> rfl
@[simp] theorem State.keep_scp (s : State) (g : Fld) (v : Nat) :
    (s.keep g v).scp = s.scp := by
  unfold State.keep; split <;> rfl
@[simp] theorem State.keep_msix (s : State) (g : Fld) (v : Nat) :
    (s.keep g v).msix = s.msix := by
  unfold State.keep; split <;> rfl
@[simp] theorem State.keep_bus (s : State) (g : Fld) (v : Nat) :
    (s.keep g v).bus = s.bus := by
  unfold State.keep; split <;> rfl
@[simp] theorem State.keep_out (s : State) (g : Fld) (v : Nat) :
    (s.keep g v).out = s.out := by
  unfold State.keep; split <;> rfl
@[simp] theorem State.keep_pending (s : State) (g : Fld) (v : Nat) :
    (s.keep g v).pending = s.pending := by
  unfold State.keep; split <;> rfl

/-! `keepWord` changes `regs`. -/

@[simp] theorem State.keepWord_variant (s : State) (a v : Nat) :
    (s.keepWord a v).variant = s.variant := by
  unfold State.keepWord; split <;> rfl
@[simp] theorem State.keepWord_mem (s : State) (a v : Nat) :
    (s.keepWord a v).mem = s.mem := by
  unfold State.keepWord; split <;> rfl
@[simp] theorem State.keepWord_freeCtr (s : State) (a v : Nat) :
    (s.keepWord a v).freeCtr = s.freeCtr := by
  unfold State.keepWord; split <;> rfl
@[simp] theorem State.keepWord_resp (s : State) (a v : Nat) :
    (s.keepWord a v).resp = s.resp := by
  unfold State.keepWord; split <;> rfl
@[simp] theorem State.keepWord_mgmt (s : State) (a v : Nat) :
    (s.keepWord a v).mgmt = s.mgmt := by
  unfold State.keepWord; split <;> rfl
@[simp] theorem State.keepWord_hmq (s : State) (a v : Nat) :
    (s.keepWord a v).hmq = s.hmq := by
  unfold State.keepWord; split <;> rfl
@[simp] theorem State.keepWord_pwr (s : State) (a v : Nat) :
    (s.keepWord a v).pwr = s.pwr := by
  unfold State.keepWord; split <;> rfl
@[simp] theorem State.keepWord_ring (s : State) (a v : Nat) :
    (s.keepWord a v).ring = s.ring := by
  unfold State.keepWord; split <;> rfl
@[simp] theorem State.keepWord_time (s : State) (a v : Nat) :
    (s.keepWord a v).time = s.time := by
  unfold State.keepWord; split <;> rfl
@[simp] theorem State.keepWord_clk (s : State) (a v : Nat) :
    (s.keepWord a v).clk = s.clk := by
  unfold State.keepWord; split <;> rfl
@[simp] theorem State.keepWord_strm (s : State) (a v : Nat) :
    (s.keepWord a v).strm = s.strm := by
  unfold State.keepWord; split <;> rfl
@[simp] theorem State.keepWord_play (s : State) (a v : Nat) :
    (s.keepWord a v).play = s.play := by
  unfold State.keepWord; split <;> rfl
@[simp] theorem State.keepWord_eng (s : State) (a v : Nat) :
    (s.keepWord a v).eng = s.eng := by
  unfold State.keepWord; split <;> rfl
@[simp] theorem State.keepWord_xpt (s : State) (a v : Nat) :
    (s.keepWord a v).xpt = s.xpt := by
  unfold State.keepWord; split <;> rfl
@[simp] theorem State.keepWord_tdm (s : State) (a v : Nat) :
    (s.keepWord a v).tdm = s.tdm := by
  unfold State.keepWord; split <;> rfl
@[simp] theorem State.keepWord_proof (s : State) (a v : Nat) :
    (s.keepWord a v).proof = s.proof := by
  unfold State.keepWord; split <;> rfl
@[simp] theorem State.keepWord_splice (s : State) (a v : Nat) :
    (s.keepWord a v).splice = s.splice := by
  unfold State.keepWord; split <;> rfl
@[simp] theorem State.keepWord_test (s : State) (a v : Nat) :
    (s.keepWord a v).test = s.test := by
  unfold State.keepWord; split <;> rfl
@[simp] theorem State.keepWord_scp (s : State) (a v : Nat) :
    (s.keepWord a v).scp = s.scp := by
  unfold State.keepWord; split <;> rfl
@[simp] theorem State.keepWord_msix (s : State) (a v : Nat) :
    (s.keepWord a v).msix = s.msix := by
  unfold State.keepWord; split <;> rfl
@[simp] theorem State.keepWord_bus (s : State) (a v : Nat) :
    (s.keepWord a v).bus = s.bus := by
  unfold State.keepWord; split <;> rfl
@[simp] theorem State.keepWord_out (s : State) (a v : Nat) :
    (s.keepWord a v).out = s.out := by
  unfold State.keepWord; split <;> rfl
@[simp] theorem State.keepWord_pending (s : State) (a v : Nat) :
    (s.keepWord a v).pending = s.pending := by
  unfold State.keepWord; split <;> rfl

/-! `bump` changes `regs`. -/

@[simp] theorem State.bump_variant (s : State) (a n : Nat) :
    (s.bump a n).variant = s.variant := by
  unfold State.bump; dsimp only; split; · rfl
  split; · rfl
  split <;> rfl
@[simp] theorem State.bump_mem (s : State) (a n : Nat) :
    (s.bump a n).mem = s.mem := by
  unfold State.bump; dsimp only; split; · rfl
  split; · rfl
  split <;> rfl
@[simp] theorem State.bump_freeCtr (s : State) (a n : Nat) :
    (s.bump a n).freeCtr = s.freeCtr := by
  unfold State.bump; dsimp only; split; · rfl
  split; · rfl
  split <;> rfl
@[simp] theorem State.bump_resp (s : State) (a n : Nat) :
    (s.bump a n).resp = s.resp := by
  unfold State.bump; dsimp only; split; · rfl
  split; · rfl
  split <;> rfl
@[simp] theorem State.bump_mgmt (s : State) (a n : Nat) :
    (s.bump a n).mgmt = s.mgmt := by
  unfold State.bump; dsimp only; split; · rfl
  split; · rfl
  split <;> rfl
@[simp] theorem State.bump_hmq (s : State) (a n : Nat) :
    (s.bump a n).hmq = s.hmq := by
  unfold State.bump; dsimp only; split; · rfl
  split; · rfl
  split <;> rfl
@[simp] theorem State.bump_pwr (s : State) (a n : Nat) :
    (s.bump a n).pwr = s.pwr := by
  unfold State.bump; dsimp only; split; · rfl
  split; · rfl
  split <;> rfl
@[simp] theorem State.bump_ring (s : State) (a n : Nat) :
    (s.bump a n).ring = s.ring := by
  unfold State.bump; dsimp only; split; · rfl
  split; · rfl
  split <;> rfl
@[simp] theorem State.bump_time (s : State) (a n : Nat) :
    (s.bump a n).time = s.time := by
  unfold State.bump; dsimp only; split; · rfl
  split; · rfl
  split <;> rfl
@[simp] theorem State.bump_clk (s : State) (a n : Nat) :
    (s.bump a n).clk = s.clk := by
  unfold State.bump; dsimp only; split; · rfl
  split; · rfl
  split <;> rfl
@[simp] theorem State.bump_strm (s : State) (a n : Nat) :
    (s.bump a n).strm = s.strm := by
  unfold State.bump; dsimp only; split; · rfl
  split; · rfl
  split <;> rfl
@[simp] theorem State.bump_play (s : State) (a n : Nat) :
    (s.bump a n).play = s.play := by
  unfold State.bump; dsimp only; split; · rfl
  split; · rfl
  split <;> rfl
@[simp] theorem State.bump_eng (s : State) (a n : Nat) :
    (s.bump a n).eng = s.eng := by
  unfold State.bump; dsimp only; split; · rfl
  split; · rfl
  split <;> rfl
@[simp] theorem State.bump_xpt (s : State) (a n : Nat) :
    (s.bump a n).xpt = s.xpt := by
  unfold State.bump; dsimp only; split; · rfl
  split; · rfl
  split <;> rfl
@[simp] theorem State.bump_tdm (s : State) (a n : Nat) :
    (s.bump a n).tdm = s.tdm := by
  unfold State.bump; dsimp only; split; · rfl
  split; · rfl
  split <;> rfl
@[simp] theorem State.bump_proof (s : State) (a n : Nat) :
    (s.bump a n).proof = s.proof := by
  unfold State.bump; dsimp only; split; · rfl
  split; · rfl
  split <;> rfl
@[simp] theorem State.bump_splice (s : State) (a n : Nat) :
    (s.bump a n).splice = s.splice := by
  unfold State.bump; dsimp only; split; · rfl
  split; · rfl
  split <;> rfl
@[simp] theorem State.bump_test (s : State) (a n : Nat) :
    (s.bump a n).test = s.test := by
  unfold State.bump; dsimp only; split; · rfl
  split; · rfl
  split <;> rfl
@[simp] theorem State.bump_scp (s : State) (a n : Nat) :
    (s.bump a n).scp = s.scp := by
  unfold State.bump; dsimp only; split; · rfl
  split; · rfl
  split <;> rfl
@[simp] theorem State.bump_msix (s : State) (a n : Nat) :
    (s.bump a n).msix = s.msix := by
  unfold State.bump; dsimp only; split; · rfl
  split; · rfl
  split <;> rfl
@[simp] theorem State.bump_bus (s : State) (a n : Nat) :
    (s.bump a n).bus = s.bus := by
  unfold State.bump; dsimp only; split; · rfl
  split; · rfl
  split <;> rfl
@[simp] theorem State.bump_out (s : State) (a n : Nat) :
    (s.bump a n).out = s.out := by
  unfold State.bump; dsimp only; split; · rfl
  split; · rfl
  split <;> rfl
@[simp] theorem State.bump_pending (s : State) (a n : Nat) :
    (s.bump a n).pending = s.pending := by
  unfold State.bump; dsimp only; split; · rfl
  split; · rfl
  split <;> rfl

/-! `inc` changes `regs`. -/

@[simp] theorem State.inc_variant (s : State) (a : Nat) :
    (s.inc a).variant = s.variant := s.bump_variant a 1
@[simp] theorem State.inc_mem (s : State) (a : Nat) :
    (s.inc a).mem = s.mem := s.bump_mem a 1
@[simp] theorem State.inc_freeCtr (s : State) (a : Nat) :
    (s.inc a).freeCtr = s.freeCtr := s.bump_freeCtr a 1
@[simp] theorem State.inc_resp (s : State) (a : Nat) :
    (s.inc a).resp = s.resp := s.bump_resp a 1
@[simp] theorem State.inc_mgmt (s : State) (a : Nat) :
    (s.inc a).mgmt = s.mgmt := s.bump_mgmt a 1
@[simp] theorem State.inc_hmq (s : State) (a : Nat) :
    (s.inc a).hmq = s.hmq := s.bump_hmq a 1
@[simp] theorem State.inc_pwr (s : State) (a : Nat) :
    (s.inc a).pwr = s.pwr := s.bump_pwr a 1
@[simp] theorem State.inc_ring (s : State) (a : Nat) :
    (s.inc a).ring = s.ring := s.bump_ring a 1
@[simp] theorem State.inc_time (s : State) (a : Nat) :
    (s.inc a).time = s.time := s.bump_time a 1
@[simp] theorem State.inc_clk (s : State) (a : Nat) :
    (s.inc a).clk = s.clk := s.bump_clk a 1
@[simp] theorem State.inc_strm (s : State) (a : Nat) :
    (s.inc a).strm = s.strm := s.bump_strm a 1
@[simp] theorem State.inc_play (s : State) (a : Nat) :
    (s.inc a).play = s.play := s.bump_play a 1
@[simp] theorem State.inc_eng (s : State) (a : Nat) :
    (s.inc a).eng = s.eng := s.bump_eng a 1
@[simp] theorem State.inc_xpt (s : State) (a : Nat) :
    (s.inc a).xpt = s.xpt := s.bump_xpt a 1
@[simp] theorem State.inc_tdm (s : State) (a : Nat) :
    (s.inc a).tdm = s.tdm := s.bump_tdm a 1
@[simp] theorem State.inc_proof (s : State) (a : Nat) :
    (s.inc a).proof = s.proof := s.bump_proof a 1
@[simp] theorem State.inc_splice (s : State) (a : Nat) :
    (s.inc a).splice = s.splice := s.bump_splice a 1
@[simp] theorem State.inc_test (s : State) (a : Nat) :
    (s.inc a).test = s.test := s.bump_test a 1
@[simp] theorem State.inc_scp (s : State) (a : Nat) :
    (s.inc a).scp = s.scp := s.bump_scp a 1
@[simp] theorem State.inc_msix (s : State) (a : Nat) :
    (s.inc a).msix = s.msix := s.bump_msix a 1
@[simp] theorem State.inc_bus (s : State) (a : Nat) :
    (s.inc a).bus = s.bus := s.bump_bus a 1
@[simp] theorem State.inc_out (s : State) (a : Nat) :
    (s.inc a).out = s.out := s.bump_out a 1
@[simp] theorem State.inc_pending (s : State) (a : Nat) :
    (s.inc a).pending = s.pending := s.bump_pending a 1

/-! `putByte` changes `mem`. -/

@[simp] theorem State.putByte_variant (s : State) (a : Nat) (b : BitVec 8) :
    (s.putByte a b).variant = s.variant := rfl
@[simp] theorem State.putByte_regs (s : State) (a : Nat) (b : BitVec 8) :
    (s.putByte a b).regs = s.regs := rfl
@[simp] theorem State.putByte_freeCtr (s : State) (a : Nat) (b : BitVec 8) :
    (s.putByte a b).freeCtr = s.freeCtr := rfl
@[simp] theorem State.putByte_resp (s : State) (a : Nat) (b : BitVec 8) :
    (s.putByte a b).resp = s.resp := rfl
@[simp] theorem State.putByte_mgmt (s : State) (a : Nat) (b : BitVec 8) :
    (s.putByte a b).mgmt = s.mgmt := rfl
@[simp] theorem State.putByte_hmq (s : State) (a : Nat) (b : BitVec 8) :
    (s.putByte a b).hmq = s.hmq := rfl
@[simp] theorem State.putByte_pwr (s : State) (a : Nat) (b : BitVec 8) :
    (s.putByte a b).pwr = s.pwr := rfl
@[simp] theorem State.putByte_ring (s : State) (a : Nat) (b : BitVec 8) :
    (s.putByte a b).ring = s.ring := rfl
@[simp] theorem State.putByte_time (s : State) (a : Nat) (b : BitVec 8) :
    (s.putByte a b).time = s.time := rfl
@[simp] theorem State.putByte_clk (s : State) (a : Nat) (b : BitVec 8) :
    (s.putByte a b).clk = s.clk := rfl
@[simp] theorem State.putByte_strm (s : State) (a : Nat) (b : BitVec 8) :
    (s.putByte a b).strm = s.strm := rfl
@[simp] theorem State.putByte_play (s : State) (a : Nat) (b : BitVec 8) :
    (s.putByte a b).play = s.play := rfl
@[simp] theorem State.putByte_eng (s : State) (a : Nat) (b : BitVec 8) :
    (s.putByte a b).eng = s.eng := rfl
@[simp] theorem State.putByte_xpt (s : State) (a : Nat) (b : BitVec 8) :
    (s.putByte a b).xpt = s.xpt := rfl
@[simp] theorem State.putByte_tdm (s : State) (a : Nat) (b : BitVec 8) :
    (s.putByte a b).tdm = s.tdm := rfl
@[simp] theorem State.putByte_proof (s : State) (a : Nat) (b : BitVec 8) :
    (s.putByte a b).proof = s.proof := rfl
@[simp] theorem State.putByte_splice (s : State) (a : Nat) (b : BitVec 8) :
    (s.putByte a b).splice = s.splice := rfl
@[simp] theorem State.putByte_test (s : State) (a : Nat) (b : BitVec 8) :
    (s.putByte a b).test = s.test := rfl
@[simp] theorem State.putByte_scp (s : State) (a : Nat) (b : BitVec 8) :
    (s.putByte a b).scp = s.scp := rfl
@[simp] theorem State.putByte_msix (s : State) (a : Nat) (b : BitVec 8) :
    (s.putByte a b).msix = s.msix := rfl
@[simp] theorem State.putByte_bus (s : State) (a : Nat) (b : BitVec 8) :
    (s.putByte a b).bus = s.bus := rfl
@[simp] theorem State.putByte_out (s : State) (a : Nat) (b : BitVec 8) :
    (s.putByte a b).out = s.out := rfl
@[simp] theorem State.putByte_pending (s : State) (a : Nat) (b : BitVec 8) :
    (s.putByte a b).pending = s.pending := rfl

/-! `putMemWord` changes `mem`. -/

@[simp] theorem State.putMemWord_variant (s : State) (a : Nat) (w : Word) :
    (s.putMemWord a w).variant = s.variant := rfl
@[simp] theorem State.putMemWord_regs (s : State) (a : Nat) (w : Word) :
    (s.putMemWord a w).regs = s.regs := rfl
@[simp] theorem State.putMemWord_freeCtr (s : State) (a : Nat) (w : Word) :
    (s.putMemWord a w).freeCtr = s.freeCtr := rfl
@[simp] theorem State.putMemWord_resp (s : State) (a : Nat) (w : Word) :
    (s.putMemWord a w).resp = s.resp := rfl
@[simp] theorem State.putMemWord_mgmt (s : State) (a : Nat) (w : Word) :
    (s.putMemWord a w).mgmt = s.mgmt := rfl
@[simp] theorem State.putMemWord_hmq (s : State) (a : Nat) (w : Word) :
    (s.putMemWord a w).hmq = s.hmq := rfl
@[simp] theorem State.putMemWord_pwr (s : State) (a : Nat) (w : Word) :
    (s.putMemWord a w).pwr = s.pwr := rfl
@[simp] theorem State.putMemWord_ring (s : State) (a : Nat) (w : Word) :
    (s.putMemWord a w).ring = s.ring := rfl
@[simp] theorem State.putMemWord_time (s : State) (a : Nat) (w : Word) :
    (s.putMemWord a w).time = s.time := rfl
@[simp] theorem State.putMemWord_clk (s : State) (a : Nat) (w : Word) :
    (s.putMemWord a w).clk = s.clk := rfl
@[simp] theorem State.putMemWord_strm (s : State) (a : Nat) (w : Word) :
    (s.putMemWord a w).strm = s.strm := rfl
@[simp] theorem State.putMemWord_play (s : State) (a : Nat) (w : Word) :
    (s.putMemWord a w).play = s.play := rfl
@[simp] theorem State.putMemWord_eng (s : State) (a : Nat) (w : Word) :
    (s.putMemWord a w).eng = s.eng := rfl
@[simp] theorem State.putMemWord_xpt (s : State) (a : Nat) (w : Word) :
    (s.putMemWord a w).xpt = s.xpt := rfl
@[simp] theorem State.putMemWord_tdm (s : State) (a : Nat) (w : Word) :
    (s.putMemWord a w).tdm = s.tdm := rfl
@[simp] theorem State.putMemWord_proof (s : State) (a : Nat) (w : Word) :
    (s.putMemWord a w).proof = s.proof := rfl
@[simp] theorem State.putMemWord_splice (s : State) (a : Nat) (w : Word) :
    (s.putMemWord a w).splice = s.splice := rfl
@[simp] theorem State.putMemWord_test (s : State) (a : Nat) (w : Word) :
    (s.putMemWord a w).test = s.test := rfl
@[simp] theorem State.putMemWord_scp (s : State) (a : Nat) (w : Word) :
    (s.putMemWord a w).scp = s.scp := rfl
@[simp] theorem State.putMemWord_msix (s : State) (a : Nat) (w : Word) :
    (s.putMemWord a w).msix = s.msix := rfl
@[simp] theorem State.putMemWord_bus (s : State) (a : Nat) (w : Word) :
    (s.putMemWord a w).bus = s.bus := rfl
@[simp] theorem State.putMemWord_out (s : State) (a : Nat) (w : Word) :
    (s.putMemWord a w).out = s.out := rfl
@[simp] theorem State.putMemWord_pending (s : State) (a : Nat) (w : Word) :
    (s.putMemWord a w).pending = s.pending := rfl

/-! `clearMem` changes `mem`. -/

@[simp] theorem State.clearMem_variant (s : State) (a b : Nat) :
    (s.clearMem a b).variant = s.variant := rfl
@[simp] theorem State.clearMem_regs (s : State) (a b : Nat) :
    (s.clearMem a b).regs = s.regs := rfl
@[simp] theorem State.clearMem_freeCtr (s : State) (a b : Nat) :
    (s.clearMem a b).freeCtr = s.freeCtr := rfl
@[simp] theorem State.clearMem_resp (s : State) (a b : Nat) :
    (s.clearMem a b).resp = s.resp := rfl
@[simp] theorem State.clearMem_mgmt (s : State) (a b : Nat) :
    (s.clearMem a b).mgmt = s.mgmt := rfl
@[simp] theorem State.clearMem_hmq (s : State) (a b : Nat) :
    (s.clearMem a b).hmq = s.hmq := rfl
@[simp] theorem State.clearMem_pwr (s : State) (a b : Nat) :
    (s.clearMem a b).pwr = s.pwr := rfl
@[simp] theorem State.clearMem_ring (s : State) (a b : Nat) :
    (s.clearMem a b).ring = s.ring := rfl
@[simp] theorem State.clearMem_time (s : State) (a b : Nat) :
    (s.clearMem a b).time = s.time := rfl
@[simp] theorem State.clearMem_clk (s : State) (a b : Nat) :
    (s.clearMem a b).clk = s.clk := rfl
@[simp] theorem State.clearMem_strm (s : State) (a b : Nat) :
    (s.clearMem a b).strm = s.strm := rfl
@[simp] theorem State.clearMem_play (s : State) (a b : Nat) :
    (s.clearMem a b).play = s.play := rfl
@[simp] theorem State.clearMem_eng (s : State) (a b : Nat) :
    (s.clearMem a b).eng = s.eng := rfl
@[simp] theorem State.clearMem_xpt (s : State) (a b : Nat) :
    (s.clearMem a b).xpt = s.xpt := rfl
@[simp] theorem State.clearMem_tdm (s : State) (a b : Nat) :
    (s.clearMem a b).tdm = s.tdm := rfl
@[simp] theorem State.clearMem_proof (s : State) (a b : Nat) :
    (s.clearMem a b).proof = s.proof := rfl
@[simp] theorem State.clearMem_splice (s : State) (a b : Nat) :
    (s.clearMem a b).splice = s.splice := rfl
@[simp] theorem State.clearMem_test (s : State) (a b : Nat) :
    (s.clearMem a b).test = s.test := rfl
@[simp] theorem State.clearMem_scp (s : State) (a b : Nat) :
    (s.clearMem a b).scp = s.scp := rfl
@[simp] theorem State.clearMem_msix (s : State) (a b : Nat) :
    (s.clearMem a b).msix = s.msix := rfl
@[simp] theorem State.clearMem_bus (s : State) (a b : Nat) :
    (s.clearMem a b).bus = s.bus := rfl
@[simp] theorem State.clearMem_out (s : State) (a b : Nat) :
    (s.clearMem a b).out = s.out := rfl
@[simp] theorem State.clearMem_pending (s : State) (a b : Nat) :
    (s.clearMem a b).pending = s.pending := rfl

/-! `life` changes `regs` and `mgmt`. -/

@[simp] theorem State.life_variant (s : State) (k n : Nat) :
    (s.life k n).variant = s.variant := by
  simp only [State.life]; split <;> simp only [State.event_variant]
@[simp] theorem State.life_mem (s : State) (k n : Nat) :
    (s.life k n).mem = s.mem := by
  simp only [State.life]; split <;> simp only [State.event_mem]
@[simp] theorem State.life_freeCtr (s : State) (k n : Nat) :
    (s.life k n).freeCtr = s.freeCtr := by
  simp only [State.life]; split <;> simp only [State.event_freeCtr]
@[simp] theorem State.life_resp (s : State) (k n : Nat) :
    (s.life k n).resp = s.resp := by
  simp only [State.life]; split <;> simp only [State.event_resp]
@[simp] theorem State.life_hmq (s : State) (k n : Nat) :
    (s.life k n).hmq = s.hmq := by
  simp only [State.life]; split <;> simp only [State.event_hmq]
@[simp] theorem State.life_pwr (s : State) (k n : Nat) :
    (s.life k n).pwr = s.pwr := by
  simp only [State.life]; split <;> simp only [State.event_pwr]
@[simp] theorem State.life_ring (s : State) (k n : Nat) :
    (s.life k n).ring = s.ring := by
  simp only [State.life]; split <;> simp only [State.event_ring]
@[simp] theorem State.life_time (s : State) (k n : Nat) :
    (s.life k n).time = s.time := by
  simp only [State.life]; split <;> simp only [State.event_time]
@[simp] theorem State.life_clk (s : State) (k n : Nat) :
    (s.life k n).clk = s.clk := by
  simp only [State.life]; split <;> simp only [State.event_clk]
@[simp] theorem State.life_strm (s : State) (k n : Nat) :
    (s.life k n).strm = s.strm := by
  simp only [State.life]; split <;> simp only [State.event_strm]
@[simp] theorem State.life_play (s : State) (k n : Nat) :
    (s.life k n).play = s.play := by
  simp only [State.life]; split <;> simp only [State.event_play]
@[simp] theorem State.life_eng (s : State) (k n : Nat) :
    (s.life k n).eng = s.eng := by
  simp only [State.life]; split <;> simp only [State.event_eng]
@[simp] theorem State.life_xpt (s : State) (k n : Nat) :
    (s.life k n).xpt = s.xpt := by
  simp only [State.life]; split <;> simp only [State.event_xpt]
@[simp] theorem State.life_tdm (s : State) (k n : Nat) :
    (s.life k n).tdm = s.tdm := by
  simp only [State.life]; split <;> simp only [State.event_tdm]
@[simp] theorem State.life_proof (s : State) (k n : Nat) :
    (s.life k n).proof = s.proof := by
  simp only [State.life]; split <;> simp only [State.event_proof]
@[simp] theorem State.life_splice (s : State) (k n : Nat) :
    (s.life k n).splice = s.splice := by
  simp only [State.life]; split <;> simp only [State.event_splice]
@[simp] theorem State.life_test (s : State) (k n : Nat) :
    (s.life k n).test = s.test := by
  simp only [State.life]; split <;> simp only [State.event_test]
@[simp] theorem State.life_scp (s : State) (k n : Nat) :
    (s.life k n).scp = s.scp := by
  simp only [State.life]; split <;> simp only [State.event_scp]
@[simp] theorem State.life_msix (s : State) (k n : Nat) :
    (s.life k n).msix = s.msix := by
  simp only [State.life]; split <;> simp only [State.event_msix]
@[simp] theorem State.life_bus (s : State) (k n : Nat) :
    (s.life k n).bus = s.bus := by
  simp only [State.life]; split <;> simp only [State.event_bus]
@[simp] theorem State.life_out (s : State) (k n : Nat) :
    (s.life k n).out = s.out := by
  simp only [State.life]; split <;> simp only [State.event_out]
@[simp] theorem State.life_pending (s : State) (k n : Nat) :
    (s.life k n).pending = s.pending := by
  simp only [State.life]; split <;> simp only [State.event_pending]

/-! `logBy` changes `regs` and `mgmt`. -/

@[simp] theorem State.logBy_variant (s : State) (r c v m l : Nat) (p : List Nat) :
    (s.logBy r c v m l p).variant = s.variant := by
  unfold State.logBy; split <;> rfl
@[simp] theorem State.logBy_mem (s : State) (r c v m l : Nat) (p : List Nat) :
    (s.logBy r c v m l p).mem = s.mem := by
  unfold State.logBy; split <;> rfl
@[simp] theorem State.logBy_freeCtr (s : State) (r c v m l : Nat) (p : List Nat) :
    (s.logBy r c v m l p).freeCtr = s.freeCtr := by
  unfold State.logBy; split <;> rfl
@[simp] theorem State.logBy_resp (s : State) (r c v m l : Nat) (p : List Nat) :
    (s.logBy r c v m l p).resp = s.resp := by
  unfold State.logBy; split <;> rfl
@[simp] theorem State.logBy_hmq (s : State) (r c v m l : Nat) (p : List Nat) :
    (s.logBy r c v m l p).hmq = s.hmq := by
  unfold State.logBy; split <;> rfl
@[simp] theorem State.logBy_pwr (s : State) (r c v m l : Nat) (p : List Nat) :
    (s.logBy r c v m l p).pwr = s.pwr := by
  unfold State.logBy; split <;> rfl
@[simp] theorem State.logBy_ring (s : State) (r c v m l : Nat) (p : List Nat) :
    (s.logBy r c v m l p).ring = s.ring := by
  unfold State.logBy; split <;> rfl
@[simp] theorem State.logBy_time (s : State) (r c v m l : Nat) (p : List Nat) :
    (s.logBy r c v m l p).time = s.time := by
  unfold State.logBy; split <;> rfl
@[simp] theorem State.logBy_clk (s : State) (r c v m l : Nat) (p : List Nat) :
    (s.logBy r c v m l p).clk = s.clk := by
  unfold State.logBy; split <;> rfl
@[simp] theorem State.logBy_strm (s : State) (r c v m l : Nat) (p : List Nat) :
    (s.logBy r c v m l p).strm = s.strm := by
  unfold State.logBy; split <;> rfl
@[simp] theorem State.logBy_play (s : State) (r c v m l : Nat) (p : List Nat) :
    (s.logBy r c v m l p).play = s.play := by
  unfold State.logBy; split <;> rfl
@[simp] theorem State.logBy_eng (s : State) (r c v m l : Nat) (p : List Nat) :
    (s.logBy r c v m l p).eng = s.eng := by
  unfold State.logBy; split <;> rfl
@[simp] theorem State.logBy_xpt (s : State) (r c v m l : Nat) (p : List Nat) :
    (s.logBy r c v m l p).xpt = s.xpt := by
  unfold State.logBy; split <;> rfl
@[simp] theorem State.logBy_tdm (s : State) (r c v m l : Nat) (p : List Nat) :
    (s.logBy r c v m l p).tdm = s.tdm := by
  unfold State.logBy; split <;> rfl
@[simp] theorem State.logBy_proof (s : State) (r c v m l : Nat) (p : List Nat) :
    (s.logBy r c v m l p).proof = s.proof := by
  unfold State.logBy; split <;> rfl
@[simp] theorem State.logBy_splice (s : State) (r c v m l : Nat) (p : List Nat) :
    (s.logBy r c v m l p).splice = s.splice := by
  unfold State.logBy; split <;> rfl
@[simp] theorem State.logBy_test (s : State) (r c v m l : Nat) (p : List Nat) :
    (s.logBy r c v m l p).test = s.test := by
  unfold State.logBy; split <;> rfl
@[simp] theorem State.logBy_scp (s : State) (r c v m l : Nat) (p : List Nat) :
    (s.logBy r c v m l p).scp = s.scp := by
  unfold State.logBy; split <;> rfl
@[simp] theorem State.logBy_msix (s : State) (r c v m l : Nat) (p : List Nat) :
    (s.logBy r c v m l p).msix = s.msix := by
  unfold State.logBy; split <;> rfl
@[simp] theorem State.logBy_bus (s : State) (r c v m l : Nat) (p : List Nat) :
    (s.logBy r c v m l p).bus = s.bus := by
  unfold State.logBy; split <;> rfl
@[simp] theorem State.logBy_out (s : State) (r c v m l : Nat) (p : List Nat) :
    (s.logBy r c v m l p).out = s.out := by
  unfold State.logBy; split <;> rfl
@[simp] theorem State.logBy_pending (s : State) (r c v m l : Nat) (p : List Nat) :
    (s.logBy r c v m l p).pending = s.pending := by
  unfold State.logBy; split <;> rfl

/-! `log` changes `regs` and `mgmt`. -/

@[simp] theorem State.log_variant (s : State) (r c v : Nat) (p : List Nat) :
    (s.log r c v p).variant = s.variant := s.logBy_variant r c v 0xF 0 p
@[simp] theorem State.log_mem (s : State) (r c v : Nat) (p : List Nat) :
    (s.log r c v p).mem = s.mem := s.logBy_mem r c v 0xF 0 p
@[simp] theorem State.log_freeCtr (s : State) (r c v : Nat) (p : List Nat) :
    (s.log r c v p).freeCtr = s.freeCtr := s.logBy_freeCtr r c v 0xF 0 p
@[simp] theorem State.log_resp (s : State) (r c v : Nat) (p : List Nat) :
    (s.log r c v p).resp = s.resp := s.logBy_resp r c v 0xF 0 p
@[simp] theorem State.log_hmq (s : State) (r c v : Nat) (p : List Nat) :
    (s.log r c v p).hmq = s.hmq := s.logBy_hmq r c v 0xF 0 p
@[simp] theorem State.log_pwr (s : State) (r c v : Nat) (p : List Nat) :
    (s.log r c v p).pwr = s.pwr := s.logBy_pwr r c v 0xF 0 p
@[simp] theorem State.log_ring (s : State) (r c v : Nat) (p : List Nat) :
    (s.log r c v p).ring = s.ring := s.logBy_ring r c v 0xF 0 p
@[simp] theorem State.log_time (s : State) (r c v : Nat) (p : List Nat) :
    (s.log r c v p).time = s.time := s.logBy_time r c v 0xF 0 p
@[simp] theorem State.log_clk (s : State) (r c v : Nat) (p : List Nat) :
    (s.log r c v p).clk = s.clk := s.logBy_clk r c v 0xF 0 p
@[simp] theorem State.log_strm (s : State) (r c v : Nat) (p : List Nat) :
    (s.log r c v p).strm = s.strm := s.logBy_strm r c v 0xF 0 p
@[simp] theorem State.log_play (s : State) (r c v : Nat) (p : List Nat) :
    (s.log r c v p).play = s.play := s.logBy_play r c v 0xF 0 p
@[simp] theorem State.log_eng (s : State) (r c v : Nat) (p : List Nat) :
    (s.log r c v p).eng = s.eng := s.logBy_eng r c v 0xF 0 p
@[simp] theorem State.log_xpt (s : State) (r c v : Nat) (p : List Nat) :
    (s.log r c v p).xpt = s.xpt := s.logBy_xpt r c v 0xF 0 p
@[simp] theorem State.log_tdm (s : State) (r c v : Nat) (p : List Nat) :
    (s.log r c v p).tdm = s.tdm := s.logBy_tdm r c v 0xF 0 p
@[simp] theorem State.log_proof (s : State) (r c v : Nat) (p : List Nat) :
    (s.log r c v p).proof = s.proof := s.logBy_proof r c v 0xF 0 p
@[simp] theorem State.log_splice (s : State) (r c v : Nat) (p : List Nat) :
    (s.log r c v p).splice = s.splice := s.logBy_splice r c v 0xF 0 p
@[simp] theorem State.log_test (s : State) (r c v : Nat) (p : List Nat) :
    (s.log r c v p).test = s.test := s.logBy_test r c v 0xF 0 p
@[simp] theorem State.log_scp (s : State) (r c v : Nat) (p : List Nat) :
    (s.log r c v p).scp = s.scp := s.logBy_scp r c v 0xF 0 p
@[simp] theorem State.log_msix (s : State) (r c v : Nat) (p : List Nat) :
    (s.log r c v p).msix = s.msix := s.logBy_msix r c v 0xF 0 p
@[simp] theorem State.log_bus (s : State) (r c v : Nat) (p : List Nat) :
    (s.log r c v p).bus = s.bus := s.logBy_bus r c v 0xF 0 p
@[simp] theorem State.log_out (s : State) (r c v : Nat) (p : List Nat) :
    (s.log r c v p).out = s.out := s.logBy_out r c v 0xF 0 p
@[simp] theorem State.log_pending (s : State) (r c v : Nat) (p : List Nat) :
    (s.log r c v p).pending = s.pending := s.logBy_pending r c v 0xF 0 p

/-! `free` changes `freeCtr`. -/

@[simp] theorem State.free_variant (s : State) (w : Nat) :
    (s.free w).2.variant = s.variant := rfl
@[simp] theorem State.free_regs (s : State) (w : Nat) :
    (s.free w).2.regs = s.regs := rfl
@[simp] theorem State.free_mem (s : State) (w : Nat) :
    (s.free w).2.mem = s.mem := rfl
@[simp] theorem State.free_resp (s : State) (w : Nat) :
    (s.free w).2.resp = s.resp := rfl
@[simp] theorem State.free_mgmt (s : State) (w : Nat) :
    (s.free w).2.mgmt = s.mgmt := rfl
@[simp] theorem State.free_hmq (s : State) (w : Nat) :
    (s.free w).2.hmq = s.hmq := rfl
@[simp] theorem State.free_pwr (s : State) (w : Nat) :
    (s.free w).2.pwr = s.pwr := rfl
@[simp] theorem State.free_ring (s : State) (w : Nat) :
    (s.free w).2.ring = s.ring := rfl
@[simp] theorem State.free_time (s : State) (w : Nat) :
    (s.free w).2.time = s.time := rfl
@[simp] theorem State.free_clk (s : State) (w : Nat) :
    (s.free w).2.clk = s.clk := rfl
@[simp] theorem State.free_strm (s : State) (w : Nat) :
    (s.free w).2.strm = s.strm := rfl
@[simp] theorem State.free_play (s : State) (w : Nat) :
    (s.free w).2.play = s.play := rfl
@[simp] theorem State.free_eng (s : State) (w : Nat) :
    (s.free w).2.eng = s.eng := rfl
@[simp] theorem State.free_xpt (s : State) (w : Nat) :
    (s.free w).2.xpt = s.xpt := rfl
@[simp] theorem State.free_tdm (s : State) (w : Nat) :
    (s.free w).2.tdm = s.tdm := rfl
@[simp] theorem State.free_proof (s : State) (w : Nat) :
    (s.free w).2.proof = s.proof := rfl
@[simp] theorem State.free_splice (s : State) (w : Nat) :
    (s.free w).2.splice = s.splice := rfl
@[simp] theorem State.free_test (s : State) (w : Nat) :
    (s.free w).2.test = s.test := rfl
@[simp] theorem State.free_scp (s : State) (w : Nat) :
    (s.free w).2.scp = s.scp := rfl
@[simp] theorem State.free_msix (s : State) (w : Nat) :
    (s.free w).2.msix = s.msix := rfl
@[simp] theorem State.free_bus (s : State) (w : Nat) :
    (s.free w).2.bus = s.bus := rfl
@[simp] theorem State.free_out (s : State) (w : Nat) :
    (s.free w).2.out = s.out := rfl
@[simp] theorem State.free_pending (s : State) (w : Nat) :
    (s.free w).2.pending = s.pending := rfl

/-! `fresh` changes `out`. -/

@[simp] theorem State.fresh_variant (s : State) :
    s.fresh.variant = s.variant := rfl
@[simp] theorem State.fresh_regs (s : State) :
    s.fresh.regs = s.regs := rfl
@[simp] theorem State.fresh_mem (s : State) :
    s.fresh.mem = s.mem := rfl
@[simp] theorem State.fresh_freeCtr (s : State) :
    s.fresh.freeCtr = s.freeCtr := rfl
@[simp] theorem State.fresh_resp (s : State) :
    s.fresh.resp = s.resp := rfl
@[simp] theorem State.fresh_mgmt (s : State) :
    s.fresh.mgmt = s.mgmt := rfl
@[simp] theorem State.fresh_hmq (s : State) :
    s.fresh.hmq = s.hmq := rfl
@[simp] theorem State.fresh_pwr (s : State) :
    s.fresh.pwr = s.pwr := rfl
@[simp] theorem State.fresh_ring (s : State) :
    s.fresh.ring = s.ring := rfl
@[simp] theorem State.fresh_time (s : State) :
    s.fresh.time = s.time := rfl
@[simp] theorem State.fresh_clk (s : State) :
    s.fresh.clk = s.clk := rfl
@[simp] theorem State.fresh_strm (s : State) :
    s.fresh.strm = s.strm := rfl
@[simp] theorem State.fresh_play (s : State) :
    s.fresh.play = s.play := rfl
@[simp] theorem State.fresh_eng (s : State) :
    s.fresh.eng = s.eng := rfl
@[simp] theorem State.fresh_xpt (s : State) :
    s.fresh.xpt = s.xpt := rfl
@[simp] theorem State.fresh_tdm (s : State) :
    s.fresh.tdm = s.tdm := rfl
@[simp] theorem State.fresh_proof (s : State) :
    s.fresh.proof = s.proof := rfl
@[simp] theorem State.fresh_splice (s : State) :
    s.fresh.splice = s.splice := rfl
@[simp] theorem State.fresh_test (s : State) :
    s.fresh.test = s.test := rfl
@[simp] theorem State.fresh_scp (s : State) :
    s.fresh.scp = s.scp := rfl
@[simp] theorem State.fresh_msix (s : State) :
    s.fresh.msix = s.msix := rfl
@[simp] theorem State.fresh_bus (s : State) :
    s.fresh.bus = s.bus := rfl
@[simp] theorem State.fresh_pending (s : State) :
    s.fresh.pending = s.pending := rfl

/-! `updPwr` changes `pwr`. -/

@[simp] theorem State.updPwr_variant (s : State) (f : Pwr → Pwr) :
    (s.updPwr f).variant = s.variant := rfl
@[simp] theorem State.updPwr_regs (s : State) (f : Pwr → Pwr) :
    (s.updPwr f).regs = s.regs := rfl
@[simp] theorem State.updPwr_mem (s : State) (f : Pwr → Pwr) :
    (s.updPwr f).mem = s.mem := rfl
@[simp] theorem State.updPwr_freeCtr (s : State) (f : Pwr → Pwr) :
    (s.updPwr f).freeCtr = s.freeCtr := rfl
@[simp] theorem State.updPwr_resp (s : State) (f : Pwr → Pwr) :
    (s.updPwr f).resp = s.resp := rfl
@[simp] theorem State.updPwr_mgmt (s : State) (f : Pwr → Pwr) :
    (s.updPwr f).mgmt = s.mgmt := rfl
@[simp] theorem State.updPwr_hmq (s : State) (f : Pwr → Pwr) :
    (s.updPwr f).hmq = s.hmq := rfl
@[simp] theorem State.updPwr_ring (s : State) (f : Pwr → Pwr) :
    (s.updPwr f).ring = s.ring := rfl
@[simp] theorem State.updPwr_time (s : State) (f : Pwr → Pwr) :
    (s.updPwr f).time = s.time := rfl
@[simp] theorem State.updPwr_clk (s : State) (f : Pwr → Pwr) :
    (s.updPwr f).clk = s.clk := rfl
@[simp] theorem State.updPwr_strm (s : State) (f : Pwr → Pwr) :
    (s.updPwr f).strm = s.strm := rfl
@[simp] theorem State.updPwr_play (s : State) (f : Pwr → Pwr) :
    (s.updPwr f).play = s.play := rfl
@[simp] theorem State.updPwr_eng (s : State) (f : Pwr → Pwr) :
    (s.updPwr f).eng = s.eng := rfl
@[simp] theorem State.updPwr_xpt (s : State) (f : Pwr → Pwr) :
    (s.updPwr f).xpt = s.xpt := rfl
@[simp] theorem State.updPwr_tdm (s : State) (f : Pwr → Pwr) :
    (s.updPwr f).tdm = s.tdm := rfl
@[simp] theorem State.updPwr_proof (s : State) (f : Pwr → Pwr) :
    (s.updPwr f).proof = s.proof := rfl
@[simp] theorem State.updPwr_splice (s : State) (f : Pwr → Pwr) :
    (s.updPwr f).splice = s.splice := rfl
@[simp] theorem State.updPwr_test (s : State) (f : Pwr → Pwr) :
    (s.updPwr f).test = s.test := rfl
@[simp] theorem State.updPwr_scp (s : State) (f : Pwr → Pwr) :
    (s.updPwr f).scp = s.scp := rfl
@[simp] theorem State.updPwr_msix (s : State) (f : Pwr → Pwr) :
    (s.updPwr f).msix = s.msix := rfl
@[simp] theorem State.updPwr_bus (s : State) (f : Pwr → Pwr) :
    (s.updPwr f).bus = s.bus := rfl
@[simp] theorem State.updPwr_out (s : State) (f : Pwr → Pwr) :
    (s.updPwr f).out = s.out := rfl
@[simp] theorem State.updPwr_pending (s : State) (f : Pwr → Pwr) :
    (s.updPwr f).pending = s.pending := rfl

@[simp] theorem State.updPwr_self (s : State) (f : Pwr → Pwr) : (s.updPwr f).pwr = f s.pwr := rfl

/-! `updTest` changes `test`. -/

@[simp] theorem State.updTest_variant (s : State) (f : TestS → TestS) :
    (s.updTest f).variant = s.variant := rfl
@[simp] theorem State.updTest_regs (s : State) (f : TestS → TestS) :
    (s.updTest f).regs = s.regs := rfl
@[simp] theorem State.updTest_mem (s : State) (f : TestS → TestS) :
    (s.updTest f).mem = s.mem := rfl
@[simp] theorem State.updTest_freeCtr (s : State) (f : TestS → TestS) :
    (s.updTest f).freeCtr = s.freeCtr := rfl
@[simp] theorem State.updTest_resp (s : State) (f : TestS → TestS) :
    (s.updTest f).resp = s.resp := rfl
@[simp] theorem State.updTest_mgmt (s : State) (f : TestS → TestS) :
    (s.updTest f).mgmt = s.mgmt := rfl
@[simp] theorem State.updTest_hmq (s : State) (f : TestS → TestS) :
    (s.updTest f).hmq = s.hmq := rfl
@[simp] theorem State.updTest_pwr (s : State) (f : TestS → TestS) :
    (s.updTest f).pwr = s.pwr := rfl
@[simp] theorem State.updTest_ring (s : State) (f : TestS → TestS) :
    (s.updTest f).ring = s.ring := rfl
@[simp] theorem State.updTest_time (s : State) (f : TestS → TestS) :
    (s.updTest f).time = s.time := rfl
@[simp] theorem State.updTest_clk (s : State) (f : TestS → TestS) :
    (s.updTest f).clk = s.clk := rfl
@[simp] theorem State.updTest_strm (s : State) (f : TestS → TestS) :
    (s.updTest f).strm = s.strm := rfl
@[simp] theorem State.updTest_play (s : State) (f : TestS → TestS) :
    (s.updTest f).play = s.play := rfl
@[simp] theorem State.updTest_eng (s : State) (f : TestS → TestS) :
    (s.updTest f).eng = s.eng := rfl
@[simp] theorem State.updTest_xpt (s : State) (f : TestS → TestS) :
    (s.updTest f).xpt = s.xpt := rfl
@[simp] theorem State.updTest_tdm (s : State) (f : TestS → TestS) :
    (s.updTest f).tdm = s.tdm := rfl
@[simp] theorem State.updTest_proof (s : State) (f : TestS → TestS) :
    (s.updTest f).proof = s.proof := rfl
@[simp] theorem State.updTest_splice (s : State) (f : TestS → TestS) :
    (s.updTest f).splice = s.splice := rfl
@[simp] theorem State.updTest_scp (s : State) (f : TestS → TestS) :
    (s.updTest f).scp = s.scp := rfl
@[simp] theorem State.updTest_msix (s : State) (f : TestS → TestS) :
    (s.updTest f).msix = s.msix := rfl
@[simp] theorem State.updTest_bus (s : State) (f : TestS → TestS) :
    (s.updTest f).bus = s.bus := rfl
@[simp] theorem State.updTest_out (s : State) (f : TestS → TestS) :
    (s.updTest f).out = s.out := rfl
@[simp] theorem State.updTest_pending (s : State) (f : TestS → TestS) :
    (s.updTest f).pending = s.pending := rfl

@[simp] theorem State.updTest_self (s : State) (f : TestS → TestS) : (s.updTest f).test = f s.test := rfl

/-! `updMgmt` changes `mgmt`. -/

@[simp] theorem State.updMgmt_variant (s : State) (f : Mgmt → Mgmt) :
    (s.updMgmt f).variant = s.variant := rfl
@[simp] theorem State.updMgmt_regs (s : State) (f : Mgmt → Mgmt) :
    (s.updMgmt f).regs = s.regs := rfl
@[simp] theorem State.updMgmt_mem (s : State) (f : Mgmt → Mgmt) :
    (s.updMgmt f).mem = s.mem := rfl
@[simp] theorem State.updMgmt_freeCtr (s : State) (f : Mgmt → Mgmt) :
    (s.updMgmt f).freeCtr = s.freeCtr := rfl
@[simp] theorem State.updMgmt_resp (s : State) (f : Mgmt → Mgmt) :
    (s.updMgmt f).resp = s.resp := rfl
@[simp] theorem State.updMgmt_hmq (s : State) (f : Mgmt → Mgmt) :
    (s.updMgmt f).hmq = s.hmq := rfl
@[simp] theorem State.updMgmt_pwr (s : State) (f : Mgmt → Mgmt) :
    (s.updMgmt f).pwr = s.pwr := rfl
@[simp] theorem State.updMgmt_ring (s : State) (f : Mgmt → Mgmt) :
    (s.updMgmt f).ring = s.ring := rfl
@[simp] theorem State.updMgmt_time (s : State) (f : Mgmt → Mgmt) :
    (s.updMgmt f).time = s.time := rfl
@[simp] theorem State.updMgmt_clk (s : State) (f : Mgmt → Mgmt) :
    (s.updMgmt f).clk = s.clk := rfl
@[simp] theorem State.updMgmt_strm (s : State) (f : Mgmt → Mgmt) :
    (s.updMgmt f).strm = s.strm := rfl
@[simp] theorem State.updMgmt_play (s : State) (f : Mgmt → Mgmt) :
    (s.updMgmt f).play = s.play := rfl
@[simp] theorem State.updMgmt_eng (s : State) (f : Mgmt → Mgmt) :
    (s.updMgmt f).eng = s.eng := rfl
@[simp] theorem State.updMgmt_xpt (s : State) (f : Mgmt → Mgmt) :
    (s.updMgmt f).xpt = s.xpt := rfl
@[simp] theorem State.updMgmt_tdm (s : State) (f : Mgmt → Mgmt) :
    (s.updMgmt f).tdm = s.tdm := rfl
@[simp] theorem State.updMgmt_proof (s : State) (f : Mgmt → Mgmt) :
    (s.updMgmt f).proof = s.proof := rfl
@[simp] theorem State.updMgmt_splice (s : State) (f : Mgmt → Mgmt) :
    (s.updMgmt f).splice = s.splice := rfl
@[simp] theorem State.updMgmt_test (s : State) (f : Mgmt → Mgmt) :
    (s.updMgmt f).test = s.test := rfl
@[simp] theorem State.updMgmt_scp (s : State) (f : Mgmt → Mgmt) :
    (s.updMgmt f).scp = s.scp := rfl
@[simp] theorem State.updMgmt_msix (s : State) (f : Mgmt → Mgmt) :
    (s.updMgmt f).msix = s.msix := rfl
@[simp] theorem State.updMgmt_bus (s : State) (f : Mgmt → Mgmt) :
    (s.updMgmt f).bus = s.bus := rfl
@[simp] theorem State.updMgmt_out (s : State) (f : Mgmt → Mgmt) :
    (s.updMgmt f).out = s.out := rfl
@[simp] theorem State.updMgmt_pending (s : State) (f : Mgmt → Mgmt) :
    (s.updMgmt f).pending = s.pending := rfl

@[simp] theorem State.updMgmt_self (s : State) (f : Mgmt → Mgmt) : (s.updMgmt f).mgmt = f s.mgmt := rfl

/-! `updClk` changes `clk`. -/

@[simp] theorem State.updClk_variant (s : State) (f : ClkS → ClkS) :
    (s.updClk f).variant = s.variant := rfl
@[simp] theorem State.updClk_regs (s : State) (f : ClkS → ClkS) :
    (s.updClk f).regs = s.regs := rfl
@[simp] theorem State.updClk_mem (s : State) (f : ClkS → ClkS) :
    (s.updClk f).mem = s.mem := rfl
@[simp] theorem State.updClk_freeCtr (s : State) (f : ClkS → ClkS) :
    (s.updClk f).freeCtr = s.freeCtr := rfl
@[simp] theorem State.updClk_resp (s : State) (f : ClkS → ClkS) :
    (s.updClk f).resp = s.resp := rfl
@[simp] theorem State.updClk_mgmt (s : State) (f : ClkS → ClkS) :
    (s.updClk f).mgmt = s.mgmt := rfl
@[simp] theorem State.updClk_hmq (s : State) (f : ClkS → ClkS) :
    (s.updClk f).hmq = s.hmq := rfl
@[simp] theorem State.updClk_pwr (s : State) (f : ClkS → ClkS) :
    (s.updClk f).pwr = s.pwr := rfl
@[simp] theorem State.updClk_ring (s : State) (f : ClkS → ClkS) :
    (s.updClk f).ring = s.ring := rfl
@[simp] theorem State.updClk_time (s : State) (f : ClkS → ClkS) :
    (s.updClk f).time = s.time := rfl
@[simp] theorem State.updClk_strm (s : State) (f : ClkS → ClkS) :
    (s.updClk f).strm = s.strm := rfl
@[simp] theorem State.updClk_play (s : State) (f : ClkS → ClkS) :
    (s.updClk f).play = s.play := rfl
@[simp] theorem State.updClk_eng (s : State) (f : ClkS → ClkS) :
    (s.updClk f).eng = s.eng := rfl
@[simp] theorem State.updClk_xpt (s : State) (f : ClkS → ClkS) :
    (s.updClk f).xpt = s.xpt := rfl
@[simp] theorem State.updClk_tdm (s : State) (f : ClkS → ClkS) :
    (s.updClk f).tdm = s.tdm := rfl
@[simp] theorem State.updClk_proof (s : State) (f : ClkS → ClkS) :
    (s.updClk f).proof = s.proof := rfl
@[simp] theorem State.updClk_splice (s : State) (f : ClkS → ClkS) :
    (s.updClk f).splice = s.splice := rfl
@[simp] theorem State.updClk_test (s : State) (f : ClkS → ClkS) :
    (s.updClk f).test = s.test := rfl
@[simp] theorem State.updClk_scp (s : State) (f : ClkS → ClkS) :
    (s.updClk f).scp = s.scp := rfl
@[simp] theorem State.updClk_msix (s : State) (f : ClkS → ClkS) :
    (s.updClk f).msix = s.msix := rfl
@[simp] theorem State.updClk_bus (s : State) (f : ClkS → ClkS) :
    (s.updClk f).bus = s.bus := rfl
@[simp] theorem State.updClk_out (s : State) (f : ClkS → ClkS) :
    (s.updClk f).out = s.out := rfl
@[simp] theorem State.updClk_pending (s : State) (f : ClkS → ClkS) :
    (s.updClk f).pending = s.pending := rfl

@[simp] theorem State.updClk_self (s : State) (f : ClkS → ClkS) : (s.updClk f).clk = f s.clk := rfl

/-! `updTime` changes `time`. -/

@[simp] theorem State.updTime_variant (s : State) (f : TimeS → TimeS) :
    (s.updTime f).variant = s.variant := rfl
@[simp] theorem State.updTime_regs (s : State) (f : TimeS → TimeS) :
    (s.updTime f).regs = s.regs := rfl
@[simp] theorem State.updTime_mem (s : State) (f : TimeS → TimeS) :
    (s.updTime f).mem = s.mem := rfl
@[simp] theorem State.updTime_freeCtr (s : State) (f : TimeS → TimeS) :
    (s.updTime f).freeCtr = s.freeCtr := rfl
@[simp] theorem State.updTime_resp (s : State) (f : TimeS → TimeS) :
    (s.updTime f).resp = s.resp := rfl
@[simp] theorem State.updTime_mgmt (s : State) (f : TimeS → TimeS) :
    (s.updTime f).mgmt = s.mgmt := rfl
@[simp] theorem State.updTime_hmq (s : State) (f : TimeS → TimeS) :
    (s.updTime f).hmq = s.hmq := rfl
@[simp] theorem State.updTime_pwr (s : State) (f : TimeS → TimeS) :
    (s.updTime f).pwr = s.pwr := rfl
@[simp] theorem State.updTime_ring (s : State) (f : TimeS → TimeS) :
    (s.updTime f).ring = s.ring := rfl
@[simp] theorem State.updTime_clk (s : State) (f : TimeS → TimeS) :
    (s.updTime f).clk = s.clk := rfl
@[simp] theorem State.updTime_strm (s : State) (f : TimeS → TimeS) :
    (s.updTime f).strm = s.strm := rfl
@[simp] theorem State.updTime_play (s : State) (f : TimeS → TimeS) :
    (s.updTime f).play = s.play := rfl
@[simp] theorem State.updTime_eng (s : State) (f : TimeS → TimeS) :
    (s.updTime f).eng = s.eng := rfl
@[simp] theorem State.updTime_xpt (s : State) (f : TimeS → TimeS) :
    (s.updTime f).xpt = s.xpt := rfl
@[simp] theorem State.updTime_tdm (s : State) (f : TimeS → TimeS) :
    (s.updTime f).tdm = s.tdm := rfl
@[simp] theorem State.updTime_proof (s : State) (f : TimeS → TimeS) :
    (s.updTime f).proof = s.proof := rfl
@[simp] theorem State.updTime_splice (s : State) (f : TimeS → TimeS) :
    (s.updTime f).splice = s.splice := rfl
@[simp] theorem State.updTime_test (s : State) (f : TimeS → TimeS) :
    (s.updTime f).test = s.test := rfl
@[simp] theorem State.updTime_scp (s : State) (f : TimeS → TimeS) :
    (s.updTime f).scp = s.scp := rfl
@[simp] theorem State.updTime_msix (s : State) (f : TimeS → TimeS) :
    (s.updTime f).msix = s.msix := rfl
@[simp] theorem State.updTime_bus (s : State) (f : TimeS → TimeS) :
    (s.updTime f).bus = s.bus := rfl
@[simp] theorem State.updTime_out (s : State) (f : TimeS → TimeS) :
    (s.updTime f).out = s.out := rfl
@[simp] theorem State.updTime_pending (s : State) (f : TimeS → TimeS) :
    (s.updTime f).pending = s.pending := rfl

@[simp] theorem State.updTime_self (s : State) (f : TimeS → TimeS) : (s.updTime f).time = f s.time := rfl

/-! `updRing` changes `ring`. -/

@[simp] theorem State.updRing_variant (s : State) (f : Ring → Ring) :
    (s.updRing f).variant = s.variant := rfl
@[simp] theorem State.updRing_regs (s : State) (f : Ring → Ring) :
    (s.updRing f).regs = s.regs := rfl
@[simp] theorem State.updRing_mem (s : State) (f : Ring → Ring) :
    (s.updRing f).mem = s.mem := rfl
@[simp] theorem State.updRing_freeCtr (s : State) (f : Ring → Ring) :
    (s.updRing f).freeCtr = s.freeCtr := rfl
@[simp] theorem State.updRing_resp (s : State) (f : Ring → Ring) :
    (s.updRing f).resp = s.resp := rfl
@[simp] theorem State.updRing_mgmt (s : State) (f : Ring → Ring) :
    (s.updRing f).mgmt = s.mgmt := rfl
@[simp] theorem State.updRing_hmq (s : State) (f : Ring → Ring) :
    (s.updRing f).hmq = s.hmq := rfl
@[simp] theorem State.updRing_pwr (s : State) (f : Ring → Ring) :
    (s.updRing f).pwr = s.pwr := rfl
@[simp] theorem State.updRing_time (s : State) (f : Ring → Ring) :
    (s.updRing f).time = s.time := rfl
@[simp] theorem State.updRing_clk (s : State) (f : Ring → Ring) :
    (s.updRing f).clk = s.clk := rfl
@[simp] theorem State.updRing_strm (s : State) (f : Ring → Ring) :
    (s.updRing f).strm = s.strm := rfl
@[simp] theorem State.updRing_play (s : State) (f : Ring → Ring) :
    (s.updRing f).play = s.play := rfl
@[simp] theorem State.updRing_eng (s : State) (f : Ring → Ring) :
    (s.updRing f).eng = s.eng := rfl
@[simp] theorem State.updRing_xpt (s : State) (f : Ring → Ring) :
    (s.updRing f).xpt = s.xpt := rfl
@[simp] theorem State.updRing_tdm (s : State) (f : Ring → Ring) :
    (s.updRing f).tdm = s.tdm := rfl
@[simp] theorem State.updRing_proof (s : State) (f : Ring → Ring) :
    (s.updRing f).proof = s.proof := rfl
@[simp] theorem State.updRing_splice (s : State) (f : Ring → Ring) :
    (s.updRing f).splice = s.splice := rfl
@[simp] theorem State.updRing_test (s : State) (f : Ring → Ring) :
    (s.updRing f).test = s.test := rfl
@[simp] theorem State.updRing_scp (s : State) (f : Ring → Ring) :
    (s.updRing f).scp = s.scp := rfl
@[simp] theorem State.updRing_msix (s : State) (f : Ring → Ring) :
    (s.updRing f).msix = s.msix := rfl
@[simp] theorem State.updRing_bus (s : State) (f : Ring → Ring) :
    (s.updRing f).bus = s.bus := rfl
@[simp] theorem State.updRing_out (s : State) (f : Ring → Ring) :
    (s.updRing f).out = s.out := rfl
@[simp] theorem State.updRing_pending (s : State) (f : Ring → Ring) :
    (s.updRing f).pending = s.pending := rfl

@[simp] theorem State.updRing_self (s : State) (f : Ring → Ring) : (s.updRing f).ring = f s.ring := rfl

end Sys2Proof.Machine
end

