-- ==== Sys2Proof/Laws/Reg.lean ====
section
/-! SUPPORT. Registers, fields, events, counters and memory bytes: what reads after each named update. -/

namespace Sys2Proof.Machine

/-! ### Words -/

/-- A register reads as stored, every other register as before. -/
theorem State.reg_putReg (s : State) (a b : Nat) (w : Word) :
    (s.putReg a w).reg b = if b = a then w else s.reg b := by
  unfold State.putReg State.reg
  exact Sparse.getD_find_put _ w a b s.regs _ (fun h => by rw [h])

theorem State.reg_putReg_same (s : State) (a : Nat) (w : Word) : (s.putReg a w).reg a = w := by simp [State.reg_putReg]

theorem State.reg_putReg_ne (s : State) {a b : Nat} (w : Word) (h : b ≠ a) : (s.putReg a w).reg b = s.reg b := by
  simp [State.reg_putReg, h]

/-- Two states with the same variant and registers read alike. -/
theorem State.reg_congr {s t : State} (hv : t.variant = s.variant) (h : t.regs = s.regs) (a : Nat) : t.reg a = s.reg a := by
  unfold State.reg; rw [hv, h]

/-- A register number is a word. -/
theorem State.rd_lt (s : State) (a : Nat) : s.rd a < 2 ^ 32 := (s.reg a).isLt

theorem State.rd_eq_of_reg {s t : State} {a : Nat} (h : t.reg a = s.reg a) : t.rd a = s.rd a := by
  unfold State.rd; rw [h]

theorem State.fld_eq_of_reg {s t : State} {f : Fld} (h : t.reg f.adr = s.reg f.adr) : t.fld f = s.fld f := by
  unfold State.fld State.rd; rw [h]

theorem State.on_eq_of_reg {s t : State} {f : Fld} (h : t.reg f.adr = s.reg f.adr) : t.on f = s.on f := by
  unfold State.on; rw [State.fld_eq_of_reg h]

/-- A register reads the number stored, modulo 2^32. -/
theorem State.rd_wr (s : State) (a b n : Nat) : (s.wr a n).rd b = if b = a then n % 2 ^ 32 else s.rd b := by
  unfold State.wr State.rd
  rw [State.reg_putReg]
  split <;> simp

theorem State.reg_wr_ne (s : State) {a b : Nat} (n : Nat) (h : b ≠ a) : (s.wr a n).reg b = s.reg b :=
  State.reg_putReg_ne s _ h

theorem State.reg_wr_same (s : State) (a n : Nat) : (s.wr a n).reg a = BitVec.ofNat 32 n := State.reg_putReg_same s _ _

theorem State.rd_wr_same (s : State) (a n : Nat) : (s.wr a n).rd a = n % 2 ^ 32 := by simp [State.rd_wr]

theorem State.reg_clearReg (s : State) (a b : Nat) :
    (s.clearReg a).reg b = if b = a then resetWord s.variant a else s.reg b := State.reg_putReg s a b _

/-- The registers of a range read their reset values, every other register as before. -/
theorem State.reg_clearRegs (s : State) (lo hi a : Nat) :
    (s.clearRegs lo hi).reg a = if lo ≤ a ∧ a < hi then resetWord s.variant a else s.reg a := by
  unfold State.clearRegs State.reg
  rw [Sparse.find_filter (fun k => !(Nat.ble lo k && Nat.blt k hi)) a s.regs]
  by_cases h : lo ≤ a ∧ a < hi
  · have : (Nat.ble lo a && Nat.blt a hi) = true := by simp [h]
    simp [this, h]
  · have : (Nat.ble lo a && Nat.blt a hi) = false := by
      rw [← Bool.not_eq_true, Bool.and_eq_true, Nat.ble_eq, Nat.blt_eq]; exact h
    simp [this, h]

/-! ### Fields -/

theorem Fld.ok_le {f : Fld} (h : f.ok = true) : f.lo ≤ f.hi ∧ f.hi < 32 := by
  simpa [Fld.ok] using h

theorem State.reg_set_ne (s : State) (f : Fld) (v : Nat) {a : Nat} (h : a ≠ f.adr) : (s.set f v).reg a = s.reg a :=
  State.reg_wr_ne s _ h

/-- The word of a register with a field replaced. -/
theorem State.rd_set (s : State) {f : Fld} (h : f.ok = true) (v : Nat) : (s.set f v).rd f.adr = f.into (s.rd f.adr) v := by
  have hf := Fld.ok_le h
  unfold State.set
  rw [State.rd_wr_same, Nat.mod_eq_of_lt (Fld.into_lt f hf.1 hf.2 _ _ (s.rd_lt _))]

/-- A field reads the value stored, modulo its range. -/
theorem State.fld_set_same (s : State) {f : Fld} (h : f.ok = true) (v : Nat) : (s.set f v).fld f = v % 2 ^ f.width := by
  unfold State.fld
  rw [State.rd_set s h, Fld.of_into_same f (Fld.ok_le h).1]

/-- A field of another register stays. -/
theorem State.fld_set_ne (s : State) {f g : Fld} (v : Nat) (h : g.adr ≠ f.adr) : (s.set f v).fld g = s.fld g :=
  State.fld_eq_of_reg (s.reg_set_ne f v h)

/-- Another field of the same register stays. -/
theorem State.fld_set_apart (s : State) {f g : Fld} (hf : f.ok = true) (hg : g.ok = true) (h : f.apart g = true) (v : Nat) :
    (s.set f v).fld g = s.fld g := by
  by_cases ha : g.adr = f.adr
  · unfold State.fld
    rw [ha, State.rd_set s hf, Fld.of_into_apart f g (Fld.ok_le hf).1 (Fld.ok_le hg).1 h]
  · exact s.fld_set_ne v ha

theorem State.fld_set_free (s : State) {f g : Fld} (h : Fld.free f g = true) (v : Nat) : (s.set f v).fld g = s.fld g := by
  simp only [Fld.free, Bool.and_eq_true, Bool.or_eq_true, bne_iff_ne, ne_eq] at h
  rcases h.2 with h' | h'
  · exact s.fld_set_ne v h'
  · exact s.fld_set_apart h.1.1 h.1.2 h' v

theorem State.on_set_free (s : State) {f g : Fld} (h : Fld.free f g = true) (v : Nat) : (s.set f v).on g = s.on g := by
  unfold State.on; rw [s.fld_set_free h]

theorem State.on_set_same (s : State) {f : Fld} (h : f.ok = true) (v : Nat) : (s.set f v).on f = (v % 2 ^ f.width != 0) := by
  unfold State.on; rw [State.fld_set_same s h]

theorem State.fld_setB_same (s : State) {f : Fld} (h : f.ok = true) (b : Bool) : (s.setB f b).fld f = if b then 1 else 0 := by
  unfold State.setB
  rw [State.fld_set_same s h]
  have : 1 < 2 ^ f.width := Nat.one_lt_two_pow (by have := Fld.ok_le h; unfold Fld.width; omega)
  split
  · exact Nat.mod_eq_of_lt this
  · exact Nat.zero_mod _

theorem State.on_setB_same (s : State) {f : Fld} (h : f.ok = true) (b : Bool) : (s.setB f b).on f = b := by
  unfold State.on; rw [State.fld_setB_same s h]; cases b <;> rfl

theorem State.reg_setB_ne (s : State) (f : Fld) (b : Bool) {a : Nat} (h : a ≠ f.adr) : (s.setB f b).reg a = s.reg a :=
  s.reg_set_ne f _ h

theorem State.fld_setB_free (s : State) {f g : Fld} (h : Fld.free f g = true) (b : Bool) : (s.setB f b).fld g = s.fld g :=
  s.fld_set_free h _

/-! ### Events and bits of fields -/

/-- An event that occurs is set (R423). -/
theorem State.on_event_same (s : State) {f : Fld} (h : f.ok = true) : (s.event f).on f = true := by
  have : s.event f = s.setB f true := rfl
  rw [this, State.on_setB_same s h]

theorem State.reg_event_ne (s : State) (f : Fld) {a : Nat} (h : a ≠ f.adr) : (s.event f).reg a = s.reg a := s.reg_set_ne f 1 h

theorem State.fld_event_free (s : State) {f g : Fld} (h : Fld.free f g = true) : (s.event f).fld g = s.fld g := s.fld_set_free h 1

theorem State.on_event_free (s : State) {f g : Fld} (h : Fld.free f g = true) : (s.event f).on g = s.on g := s.on_set_free h 1

theorem State.reg_setBit_ne (s : State) (f : Fld) (k : Nat) (b : Bool) {a : Nat} (h : a ≠ f.adr) :
    (s.setBit f k b).reg a = s.reg a := by
  unfold State.setBit
  dsimp only
  split
  · rfl
  · exact s.reg_set_ne f _ h

theorem State.reg_eventBit_ne (s : State) (f : Fld) (k : Nat) {a : Nat} (h : a ≠ f.adr) : (s.eventBit f k).reg a = s.reg a :=
  s.reg_setBit_ne f k true h

theorem State.fld_setBit_free (s : State) {f g : Fld} (h : Fld.free f g = true) (k : Nat) (b : Bool) :
    (s.setBit f k b).fld g = s.fld g := by
  unfold State.setBit
  dsimp only
  split
  · rfl
  · exact s.fld_set_free h _

theorem State.fld_lt (s : State) (f : Fld) : s.fld f < 2 ^ f.width := Fld.of_lt f _

/-- Bits of a number after a clear bit is added. -/
theorem testBit_add_two_pow {n k : Nat} (hn : n.testBit k = false) (j : Nat) :
    (n + 2 ^ k).testBit j = if j = k then true else n.testBit j := by
  rw [Nat.add_comm]
  split
  · rename_i hj; subst hj; rw [Nat.testBit_two_pow_add_eq, hn]; rfl
  · rename_i hj
    rcases Nat.lt_or_gt_of_ne hj with hl | hg
    · rw [Nat.testBit_two_pow_add_gt hl]
    · have hz : n / 2 ^ k % 2 = 0 := by
        rw [Nat.testBit_eq_decide_div_mod_eq] at hn; simp at hn; omega
      obtain ⟨d, rfl⟩ : ∃ d, j = k + 1 + d := ⟨j - (k + 1), by omega⟩
      simp only [Nat.testBit_eq_decide_div_mod_eq, Nat.pow_add, ← Nat.div_div_eq_div_mul, Nat.pow_one]
      rw [Nat.add_div_left _ (Nat.two_pow_pos k), show (n / 2 ^ k).succ / 2 = n / 2 ^ k / 2 by omega]

/-- Bits of a number after a set bit is taken off. -/
theorem testBit_sub_two_pow {n k : Nat} (hn : n.testBit k = true) (j : Nat) :
    (n - 2 ^ k).testBit j = if j = k then false else n.testBit j := by
  have hle : 2 ^ k ≤ n := Nat.ge_two_pow_of_testBit hn
  obtain ⟨m, rfl⟩ : ∃ m, n = m + 2 ^ k := ⟨n - 2 ^ k, by omega⟩
  have hm : m.testBit k = false := by
    rw [Nat.add_comm, Nat.testBit_two_pow_add_eq] at hn; simpa using hn
  rw [Nat.add_sub_cancel, testBit_add_two_pow hm]
  split
  · rename_i hj; rw [hj, hm]
  · rfl

/-- The bits of a field after one of them is stored. -/
theorem State.bitOf_setBit (s : State) {f : Fld} (h : f.ok = true) {k : Nat} (hk : k < f.width) (b : Bool) (j : Nat) :
    (s.setBit f k b).bitOf f j = if j = k then b else s.bitOf f j := by
  have hj : (s.fld f).testBit j = (decide (j < f.width) && (s.fld f).testBit j) := by
    by_cases hjw : j < f.width
    · simp [hjw]
    · simp [hjw, Nat.testBit_lt_two_pow (Nat.lt_of_lt_of_le (s.fld_lt f)
        (Nat.pow_le_pow_right (by decide) (Nat.le_of_not_lt hjw)))]
  unfold State.bitOf State.setBit
  dsimp only
  split
  · rename_i hb
    split
    · rename_i hj; rw [hj, hb]
    · rfl
  · rename_i hb
    rw [State.fld_set_same s h, Nat.testBit_mod_two_pow]
    cases b with
    | true =>
      rw [if_pos rfl, testBit_add_two_pow (by simpa using hb)]
      by_cases e : j = k
      · simp [e, hk]
      · simp only [if_neg e]; exact hj.symm
    | false =>
      rw [if_neg (by simp), testBit_sub_two_pow (by simpa using hb)]
      by_cases e : j = k
      · simp [e]
      · simp only [if_neg e]; exact hj.symm

/-- An event bit that occurs is set. -/
theorem State.bitOf_eventBit_same (s : State) {f : Fld} (h : f.ok = true) {k : Nat} (hk : k < f.width) :
    (s.eventBit f k).bitOf f k = true := by
  unfold State.eventBit; rw [State.bitOf_setBit s h hk]; simp

theorem State.reg_keep_ne (s : State) (f : Fld) (v : Nat) {a : Nat} (h : a ≠ f.adr) : (s.keep f v).reg a = s.reg a := by
  unfold State.keep; split
  · rfl
  · exact s.reg_set_ne f v h

theorem State.fld_keep_same (s : State) {f : Fld} (h : f.ok = true) {v : Nat} (hv : v < 2 ^ f.width) : (s.keep f v).fld f = v := by
  unfold State.keep; split
  · assumption
  · rw [State.fld_set_same s h, Nat.mod_eq_of_lt hv]

theorem State.fld_keep_free (s : State) {f g : Fld} (h : Fld.free f g = true) (v : Nat) : (s.keep f v).fld g = s.fld g := by
  unfold State.keep; split
  · rfl
  · exact s.fld_set_free h v

theorem State.reg_keepWord_ne (s : State) {a b : Nat} (v : Nat) (h : b ≠ a) : (s.keepWord a v).reg b = s.reg b := by
  unfold State.keepWord; split
  · rfl
  · exact s.reg_wr_ne v h

theorem State.rd_keepWord_same (s : State) (a : Nat) {v : Nat} (h : v < 2 ^ 32) : (s.keepWord a v).rd a = v := by
  unfold State.keepWord; split
  · assumption
  · rw [State.rd_wr_same, Nat.mod_eq_of_lt h]

/-! ### Counters (R67) -/

/-- A counter that does not reach its limit counts. -/
theorem State.rd_bump (s : State) (a n : Nat) (h : s.rd a + n < 0xFFFFFFFF) : (s.bump a n).rd a = s.rd a + n := by
  unfold State.bump
  rw [if_pos h, State.rd_wr_same, Nat.mod_eq_of_lt (by omega)]

/-- A counter that does not reach its limit changes nothing else. -/
theorem State.reg_bump_ne (s : State) {a b : Nat} (n : Nat) (h : s.rd a + n < 0xFFFFFFFF) (hb : b ≠ a) :
    (s.bump a n).reg b = s.reg b := by
  unfold State.bump
  rw [if_pos h, State.reg_wr_ne _ _ hb]

/-- What a counter can change: itself, its SAT register and the register of its saturation's event. -/
theorem State.reg_bump_other (s : State) {a b : Nat} (n : Nat) (hb : b ≠ a) (hs : b ≠ (satOf a).adr)
    (he : ∀ f ∈ (satOf a).event, b ≠ f.adr) : (s.bump a n).reg b = s.reg b := by
  unfold State.bump
  dsimp only
  split
  · exact s.reg_wr_ne _ hb
  · split
    · rfl
    · split
      · rw [State.reg_putReg_ne _ _ hs, State.reg_wr_ne _ _ hb]
      · rename_i f hf
        rw [State.reg_event_ne _ _ (he f (by simp [hf])), State.reg_putReg_ne _ _ hs, State.reg_wr_ne _ _ hb]

/-! ### The log and the lifetime counters change one register, MGMT.EVT -/

theorem State.reg_life_ne (s : State) (k n : Nat) {a : Nat} (h : a ≠ A.MGMT_EVT) : (s.life k n).reg a = s.reg a := by
  simp only [State.life]
  split
  · rfl
  · rw [State.reg_event_ne _ _ h]; rfl

theorem State.reg_logBy_ne (s : State) (r c v m l : Nat) (p : List Nat) {a : Nat} (h : a ≠ A.MGMT_EVT) :
    (s.logBy r c v m l p).reg a = s.reg a := by
  unfold State.logBy
  split
  · rfl
  · rw [State.reg_event_ne _ _ h]; rfl

theorem State.reg_log_ne (s : State) (r c v : Nat) (p : List Nat) {a : Nat} (h : a ≠ A.MGMT_EVT) :
    (s.log r c v p).reg a = s.reg a := s.reg_logBy_ne r c v 0xF 0 p h

/-- With room in the staging ring, an event is recorded and no register changes. -/
theorem State.logBy_staged (s : State) (r c v m l : Nat) (p : List Nat) (h : s.mgmt.staging.length < 256) :
    s.logBy r c v m l p = { s with mgmt := { s.mgmt with
      staging := s.mgmt.staging ++ [s.mkRecord r c v m l p], logSeq := (s.mgmt.logSeq + 1) % 2 ^ 32 } } := by
  unfold State.logBy; rw [if_pos h]

/-! ### Updates that leave every register alone -/

@[simp] theorem State.reg_fresh (s : State) (a : Nat) : s.fresh.reg a = s.reg a := rfl
@[simp] theorem State.rd_fresh (s : State) (a : Nat) : s.fresh.rd a = s.rd a := rfl
@[simp] theorem State.fld_fresh (s : State) (g : Fld) : s.fresh.fld g = s.fld g := rfl
@[simp] theorem State.on_fresh (s : State) (g : Fld) : s.fresh.on g = s.on g := rfl
@[simp] theorem State.reg_putByte (s : State) (b : Nat) (x : BitVec 8) (a : Nat) : (s.putByte b x).reg a = s.reg a := rfl
@[simp] theorem State.rd_putByte (s : State) (b : Nat) (x : BitVec 8) (a : Nat) : (s.putByte b x).rd a = s.rd a := rfl
@[simp] theorem State.fld_putByte (s : State) (b : Nat) (x : BitVec 8) (g : Fld) : (s.putByte b x).fld g = s.fld g := rfl
@[simp] theorem State.on_putByte (s : State) (b : Nat) (x : BitVec 8) (g : Fld) : (s.putByte b x).on g = s.on g := rfl
@[simp] theorem State.reg_putMemWord (s : State) (b : Nat) (w : Word) (a : Nat) : (s.putMemWord b w).reg a = s.reg a := rfl
@[simp] theorem State.rd_putMemWord (s : State) (b : Nat) (w : Word) (a : Nat) : (s.putMemWord b w).rd a = s.rd a := rfl
@[simp] theorem State.fld_putMemWord (s : State) (b : Nat) (w : Word) (g : Fld) : (s.putMemWord b w).fld g = s.fld g := rfl
@[simp] theorem State.on_putMemWord (s : State) (b : Nat) (w : Word) (g : Fld) : (s.putMemWord b w).on g = s.on g := rfl
@[simp] theorem State.reg_clearMem (s : State) (lo hi : Nat) (a : Nat) : (s.clearMem lo hi).reg a = s.reg a := rfl
@[simp] theorem State.rd_clearMem (s : State) (lo hi : Nat) (a : Nat) : (s.clearMem lo hi).rd a = s.rd a := rfl
@[simp] theorem State.fld_clearMem (s : State) (lo hi : Nat) (g : Fld) : (s.clearMem lo hi).fld g = s.fld g := rfl
@[simp] theorem State.on_clearMem (s : State) (lo hi : Nat) (g : Fld) : (s.clearMem lo hi).on g = s.on g := rfl
@[simp] theorem State.reg_updPwr (s : State) (f : Pwr → Pwr) (a : Nat) : (s.updPwr f).reg a = s.reg a := rfl
@[simp] theorem State.rd_updPwr (s : State) (f : Pwr → Pwr) (a : Nat) : (s.updPwr f).rd a = s.rd a := rfl
@[simp] theorem State.fld_updPwr (s : State) (f : Pwr → Pwr) (g : Fld) : (s.updPwr f).fld g = s.fld g := rfl
@[simp] theorem State.on_updPwr (s : State) (f : Pwr → Pwr) (g : Fld) : (s.updPwr f).on g = s.on g := rfl
@[simp] theorem State.reg_updTest (s : State) (f : TestS → TestS) (a : Nat) : (s.updTest f).reg a = s.reg a := rfl
@[simp] theorem State.rd_updTest (s : State) (f : TestS → TestS) (a : Nat) : (s.updTest f).rd a = s.rd a := rfl
@[simp] theorem State.fld_updTest (s : State) (f : TestS → TestS) (g : Fld) : (s.updTest f).fld g = s.fld g := rfl
@[simp] theorem State.on_updTest (s : State) (f : TestS → TestS) (g : Fld) : (s.updTest f).on g = s.on g := rfl
@[simp] theorem State.reg_updMgmt (s : State) (f : Mgmt → Mgmt) (a : Nat) : (s.updMgmt f).reg a = s.reg a := rfl
@[simp] theorem State.rd_updMgmt (s : State) (f : Mgmt → Mgmt) (a : Nat) : (s.updMgmt f).rd a = s.rd a := rfl
@[simp] theorem State.fld_updMgmt (s : State) (f : Mgmt → Mgmt) (g : Fld) : (s.updMgmt f).fld g = s.fld g := rfl
@[simp] theorem State.on_updMgmt (s : State) (f : Mgmt → Mgmt) (g : Fld) : (s.updMgmt f).on g = s.on g := rfl
@[simp] theorem State.reg_updClk (s : State) (f : ClkS → ClkS) (a : Nat) : (s.updClk f).reg a = s.reg a := rfl
@[simp] theorem State.rd_updClk (s : State) (f : ClkS → ClkS) (a : Nat) : (s.updClk f).rd a = s.rd a := rfl
@[simp] theorem State.fld_updClk (s : State) (f : ClkS → ClkS) (g : Fld) : (s.updClk f).fld g = s.fld g := rfl
@[simp] theorem State.on_updClk (s : State) (f : ClkS → ClkS) (g : Fld) : (s.updClk f).on g = s.on g := rfl
@[simp] theorem State.reg_updTime (s : State) (f : TimeS → TimeS) (a : Nat) : (s.updTime f).reg a = s.reg a := rfl
@[simp] theorem State.rd_updTime (s : State) (f : TimeS → TimeS) (a : Nat) : (s.updTime f).rd a = s.rd a := rfl
@[simp] theorem State.fld_updTime (s : State) (f : TimeS → TimeS) (g : Fld) : (s.updTime f).fld g = s.fld g := rfl
@[simp] theorem State.on_updTime (s : State) (f : TimeS → TimeS) (g : Fld) : (s.updTime f).on g = s.on g := rfl
@[simp] theorem State.reg_updRing (s : State) (f : Ring → Ring) (a : Nat) : (s.updRing f).reg a = s.reg a := rfl
@[simp] theorem State.rd_updRing (s : State) (f : Ring → Ring) (a : Nat) : (s.updRing f).rd a = s.rd a := rfl
@[simp] theorem State.fld_updRing (s : State) (f : Ring → Ring) (g : Fld) : (s.updRing f).fld g = s.fld g := rfl
@[simp] theorem State.on_updRing (s : State) (f : Ring → Ring) (g : Fld) : (s.updRing f).on g = s.on g := rfl
@[simp] theorem State.reg_free (s : State) (w a : Nat) : (s.free w).2.reg a = s.reg a := rfl

/-! ### Memories -/

/-- A byte reads as stored, every other byte as before. -/
theorem State.byte_putByte (s : State) (a b : Nat) (x : BitVec 8) :
    (s.putByte a x).byte b = if b = a then x else s.byte b := by
  unfold State.putByte State.byte
  exact Sparse.getD_find_put 0 x a b s.mem 0 (fun _ => rfl)

theorem State.byte_putMemWord_other (s : State) (a b : Nat) (w : Word) (h : b < a ∨ a + 4 ≤ b) :
    (s.putMemWord a w).byte b = s.byte b := by
  unfold State.putMemWord
  simp only [State.byte_putByte]
  rw [if_neg (by omega), if_neg (by omega), if_neg (by omega), if_neg (by omega)]

/-- A word reads as stored. -/
theorem State.memWord_putMemWord_same (s : State) (a : Nat) (w : Word) : (s.putMemWord a w).memWord a = w := by
  unfold State.memWord State.putMemWord
  simp only [State.byte_putByte]
  simp only [show ¬ (a + 3 = a + 2) by omega, show ¬ (a + 3 = a + 1) by omega, show ¬ (a + 2 = a + 3) by omega,
    show ¬ (a + 2 = a + 1) by omega, show ¬ (a + 1 = a + 3) by omega, show ¬ (a + 1 = a + 2) by omega,
    show ¬ (a = a + 3) by omega, show ¬ (a = a + 2) by omega, show ¬ (a = a + 1) by omega,
    if_true, if_false]
  ext i hi
  simp only [BitVec.getElem_append, BitVec.getElem_extractLsb']
  split
  · simp only [Nat.zero_add]; exact BitVec.getLsbD_eq_getElem hi
  · split
    · rw [show 8 + (i - 8) = i by omega]; exact BitVec.getLsbD_eq_getElem hi
    · split
      · rw [show 16 + (i - 8 - 8) = i by omega]; exact BitVec.getLsbD_eq_getElem hi
      · rw [show 24 + (i - 8 - 8 - 8) = i by omega]; exact BitVec.getLsbD_eq_getElem hi

/-- The bytes of a range read zero, every other byte as before. -/
theorem State.byte_clearMem (s : State) (lo hi a : Nat) :
    (s.clearMem lo hi).byte a = if lo ≤ a ∧ a < hi then 0 else s.byte a := by
  unfold State.clearMem State.byte
  rw [Sparse.find_filter (fun k => !(Nat.ble lo k && Nat.blt k hi)) a s.mem]
  by_cases h : lo ≤ a ∧ a < hi
  · have : (Nat.ble lo a && Nat.blt a hi) = true := by simp [h]
    simp [this, h]
  · have : (Nat.ble lo a && Nat.blt a hi) = false := by
      rw [← Bool.not_eq_true, Bool.and_eq_true, Nat.ble_eq, Nat.blt_eq]; exact h
    simp [this, h]

end Sys2Proof.Machine
end

