-- ==== Sys2Proof/Laws/Settle.lean ====
section
/-! SUPPORT. What the hardware follows every change with: `settle` changes five registers, the alarm latch, the MSI-X state and
what is put out, and nothing else; a meaning's answer is its effect, settled. -/

namespace Sys2Proof.Machine

/-! ### Components -/

@[simp] theorem State.settleFault_variant (s : State) : s.settleFault.variant = s.variant := by
  simp only [State.settleFault, State.when]; split <;> simp
@[simp] theorem State.settleFault_mem (s : State) : s.settleFault.mem = s.mem := by
  simp only [State.settleFault, State.when]; split <;> simp
@[simp] theorem State.settleFault_freeCtr (s : State) : s.settleFault.freeCtr = s.freeCtr := by
  simp only [State.settleFault, State.when]; split <;> simp
@[simp] theorem State.settleFault_resp (s : State) : s.settleFault.resp = s.resp := by
  simp only [State.settleFault, State.when]; split <;> simp
@[simp] theorem State.settleFault_mgmt (s : State) : s.settleFault.mgmt = s.mgmt := by
  simp only [State.settleFault, State.when]; split <;> simp
@[simp] theorem State.settleFault_hmq (s : State) : s.settleFault.hmq = s.hmq := by
  simp only [State.settleFault, State.when]; split <;> simp
@[simp] theorem State.settleFault_pwr (s : State) : s.settleFault.pwr = s.pwr := by
  simp only [State.settleFault, State.when]; split <;> simp
@[simp] theorem State.settleFault_ring (s : State) : s.settleFault.ring = s.ring := by
  simp only [State.settleFault, State.when]; split <;> simp
@[simp] theorem State.settleFault_time (s : State) : s.settleFault.time = s.time := by
  simp only [State.settleFault, State.when]; split <;> simp
@[simp] theorem State.settleFault_strm (s : State) : s.settleFault.strm = s.strm := by
  simp only [State.settleFault, State.when]; split <;> simp
@[simp] theorem State.settleFault_play (s : State) : s.settleFault.play = s.play := by
  simp only [State.settleFault, State.when]; split <;> simp
@[simp] theorem State.settleFault_eng (s : State) : s.settleFault.eng = s.eng := by
  simp only [State.settleFault, State.when]; split <;> simp
@[simp] theorem State.settleFault_xpt (s : State) : s.settleFault.xpt = s.xpt := by
  simp only [State.settleFault, State.when]; split <;> simp
@[simp] theorem State.settleFault_tdm (s : State) : s.settleFault.tdm = s.tdm := by
  simp only [State.settleFault, State.when]; split <;> simp
@[simp] theorem State.settleFault_proof (s : State) : s.settleFault.proof = s.proof := by
  simp only [State.settleFault, State.when]; split <;> simp
@[simp] theorem State.settleFault_splice (s : State) : s.settleFault.splice = s.splice := by
  simp only [State.settleFault, State.when]; split <;> simp
@[simp] theorem State.settleFault_test (s : State) : s.settleFault.test = s.test := by
  simp only [State.settleFault, State.when]; split <;> simp
@[simp] theorem State.settleFault_scp (s : State) : s.settleFault.scp = s.scp := by
  simp only [State.settleFault, State.when]; split <;> simp
@[simp] theorem State.settleFault_bus (s : State) : s.settleFault.bus = s.bus := by
  simp only [State.settleFault, State.when]; split <;> simp
@[simp] theorem State.settleFault_pending (s : State) : s.settleFault.pending = s.pending := by
  simp only [State.settleFault, State.when]; split <;> simp
@[simp] theorem State.settleAlm_variant (s : State) : s.settleAlm.variant = s.variant := by
  unfold State.settleAlm; split <;> rfl
@[simp] theorem State.settleAlm_mem (s : State) : s.settleAlm.mem = s.mem := by
  unfold State.settleAlm; split <;> rfl
@[simp] theorem State.settleAlm_freeCtr (s : State) : s.settleAlm.freeCtr = s.freeCtr := by
  unfold State.settleAlm; split <;> rfl
@[simp] theorem State.settleAlm_resp (s : State) : s.settleAlm.resp = s.resp := by
  unfold State.settleAlm; split <;> rfl
@[simp] theorem State.settleAlm_mgmt (s : State) : s.settleAlm.mgmt = s.mgmt := by
  unfold State.settleAlm; split <;> rfl
@[simp] theorem State.settleAlm_hmq (s : State) : s.settleAlm.hmq = s.hmq := by
  unfold State.settleAlm; split <;> rfl
@[simp] theorem State.settleAlm_pwr (s : State) : s.settleAlm.pwr = s.pwr := by
  unfold State.settleAlm; split <;> rfl
@[simp] theorem State.settleAlm_ring (s : State) : s.settleAlm.ring = s.ring := by
  unfold State.settleAlm; split <;> rfl
@[simp] theorem State.settleAlm_time (s : State) : s.settleAlm.time = s.time := by
  unfold State.settleAlm; split <;> rfl
@[simp] theorem State.settleAlm_strm (s : State) : s.settleAlm.strm = s.strm := by
  unfold State.settleAlm; split <;> rfl
@[simp] theorem State.settleAlm_play (s : State) : s.settleAlm.play = s.play := by
  unfold State.settleAlm; split <;> rfl
@[simp] theorem State.settleAlm_eng (s : State) : s.settleAlm.eng = s.eng := by
  unfold State.settleAlm; split <;> rfl
@[simp] theorem State.settleAlm_xpt (s : State) : s.settleAlm.xpt = s.xpt := by
  unfold State.settleAlm; split <;> rfl
@[simp] theorem State.settleAlm_tdm (s : State) : s.settleAlm.tdm = s.tdm := by
  unfold State.settleAlm; split <;> rfl
@[simp] theorem State.settleAlm_proof (s : State) : s.settleAlm.proof = s.proof := by
  unfold State.settleAlm; split <;> rfl
@[simp] theorem State.settleAlm_splice (s : State) : s.settleAlm.splice = s.splice := by
  unfold State.settleAlm; split <;> rfl
@[simp] theorem State.settleAlm_test (s : State) : s.settleAlm.test = s.test := by
  unfold State.settleAlm; split <;> rfl
@[simp] theorem State.settleAlm_scp (s : State) : s.settleAlm.scp = s.scp := by
  unfold State.settleAlm; split <;> rfl
@[simp] theorem State.settleAlm_bus (s : State) : s.settleAlm.bus = s.bus := by
  unfold State.settleAlm; split <;> rfl
@[simp] theorem State.settleAlm_pending (s : State) : s.settleAlm.pending = s.pending := by
  unfold State.settleAlm; split <;> rfl
@[simp] theorem State.settleMsix_variant (s : State) (n : Nat) : (s.settleMsix n).variant = s.variant := by
  simp only [State.settleMsix]; split <;> rfl
@[simp] theorem State.settleMsix_mem (s : State) (n : Nat) : (s.settleMsix n).mem = s.mem := by
  simp only [State.settleMsix]; split <;> rfl
@[simp] theorem State.settleMsix_freeCtr (s : State) (n : Nat) : (s.settleMsix n).freeCtr = s.freeCtr := by
  simp only [State.settleMsix]; split <;> rfl
@[simp] theorem State.settleMsix_resp (s : State) (n : Nat) : (s.settleMsix n).resp = s.resp := by
  simp only [State.settleMsix]; split <;> rfl
@[simp] theorem State.settleMsix_mgmt (s : State) (n : Nat) : (s.settleMsix n).mgmt = s.mgmt := by
  simp only [State.settleMsix]; split <;> rfl
@[simp] theorem State.settleMsix_hmq (s : State) (n : Nat) : (s.settleMsix n).hmq = s.hmq := by
  simp only [State.settleMsix]; split <;> rfl
@[simp] theorem State.settleMsix_pwr (s : State) (n : Nat) : (s.settleMsix n).pwr = s.pwr := by
  simp only [State.settleMsix]; split <;> rfl
@[simp] theorem State.settleMsix_ring (s : State) (n : Nat) : (s.settleMsix n).ring = s.ring := by
  simp only [State.settleMsix]; split <;> rfl
@[simp] theorem State.settleMsix_time (s : State) (n : Nat) : (s.settleMsix n).time = s.time := by
  simp only [State.settleMsix]; split <;> rfl
@[simp] theorem State.settleMsix_strm (s : State) (n : Nat) : (s.settleMsix n).strm = s.strm := by
  simp only [State.settleMsix]; split <;> rfl
@[simp] theorem State.settleMsix_play (s : State) (n : Nat) : (s.settleMsix n).play = s.play := by
  simp only [State.settleMsix]; split <;> rfl
@[simp] theorem State.settleMsix_eng (s : State) (n : Nat) : (s.settleMsix n).eng = s.eng := by
  simp only [State.settleMsix]; split <;> rfl
@[simp] theorem State.settleMsix_xpt (s : State) (n : Nat) : (s.settleMsix n).xpt = s.xpt := by
  simp only [State.settleMsix]; split <;> rfl
@[simp] theorem State.settleMsix_tdm (s : State) (n : Nat) : (s.settleMsix n).tdm = s.tdm := by
  simp only [State.settleMsix]; split <;> rfl
@[simp] theorem State.settleMsix_proof (s : State) (n : Nat) : (s.settleMsix n).proof = s.proof := by
  simp only [State.settleMsix]; split <;> rfl
@[simp] theorem State.settleMsix_splice (s : State) (n : Nat) : (s.settleMsix n).splice = s.splice := by
  simp only [State.settleMsix]; split <;> rfl
@[simp] theorem State.settleMsix_test (s : State) (n : Nat) : (s.settleMsix n).test = s.test := by
  simp only [State.settleMsix]; split <;> rfl
@[simp] theorem State.settleMsix_scp (s : State) (n : Nat) : (s.settleMsix n).scp = s.scp := by
  simp only [State.settleMsix]; split <;> rfl
@[simp] theorem State.settleMsix_bus (s : State) (n : Nat) : (s.settleMsix n).bus = s.bus := by
  simp only [State.settleMsix]; split <;> rfl
@[simp] theorem State.settleMsix_pending (s : State) (n : Nat) : (s.settleMsix n).pending = s.pending := by
  simp only [State.settleMsix]; split <;> rfl
@[simp] theorem State.settleMsix_clk (s : State) (n : Nat) : (s.settleMsix n).clk = s.clk := by
  simp only [State.settleMsix]; split <;> rfl
@[simp] theorem State.settleFault_clk (s : State) : s.settleFault.clk = s.clk := by
  simp only [State.settleFault, State.when]; split <;> simp
@[simp] theorem State.settle_variant (s : State) : s.settle.variant = s.variant := by simp [State.settle]
@[simp] theorem State.settle_mem (s : State) : s.settle.mem = s.mem := by simp [State.settle]
@[simp] theorem State.settle_freeCtr (s : State) : s.settle.freeCtr = s.freeCtr := by simp [State.settle]
@[simp] theorem State.settle_resp (s : State) : s.settle.resp = s.resp := by simp [State.settle]
@[simp] theorem State.settle_mgmt (s : State) : s.settle.mgmt = s.mgmt := by simp [State.settle]
@[simp] theorem State.settle_hmq (s : State) : s.settle.hmq = s.hmq := by simp [State.settle]
@[simp] theorem State.settle_pwr (s : State) : s.settle.pwr = s.pwr := by simp [State.settle]
@[simp] theorem State.settle_ring (s : State) : s.settle.ring = s.ring := by simp [State.settle]
@[simp] theorem State.settle_time (s : State) : s.settle.time = s.time := by simp [State.settle]
@[simp] theorem State.settle_strm (s : State) : s.settle.strm = s.strm := by simp [State.settle]
@[simp] theorem State.settle_play (s : State) : s.settle.play = s.play := by simp [State.settle]
@[simp] theorem State.settle_eng (s : State) : s.settle.eng = s.eng := by simp [State.settle]
@[simp] theorem State.settle_xpt (s : State) : s.settle.xpt = s.xpt := by simp [State.settle]
@[simp] theorem State.settle_tdm (s : State) : s.settle.tdm = s.tdm := by simp [State.settle]
@[simp] theorem State.settle_proof (s : State) : s.settle.proof = s.proof := by simp [State.settle]
@[simp] theorem State.settle_splice (s : State) : s.settle.splice = s.splice := by simp [State.settle]
@[simp] theorem State.settle_test (s : State) : s.settle.test = s.test := by simp [State.settle]
@[simp] theorem State.settle_scp (s : State) : s.settle.scp = s.scp := by simp [State.settle]
@[simp] theorem State.settle_bus (s : State) : s.settle.bus = s.bus := by simp [State.settle]
@[simp] theorem State.settle_pending (s : State) : s.settle.pending = s.pending := by simp [State.settle]
@[simp] theorem State.settleAlm_clk_refs (s : State) : s.settleAlm.clk.refs = s.clk.refs := by
  unfold State.settleAlm; split <;> rfl
@[simp] theorem State.settleAlm_clk_running (s : State) : s.settleAlm.clk.running = s.clk.running := by
  unfold State.settleAlm; split <;> rfl
@[simp] theorem State.settleAlm_clk_lastEf (s : State) : s.settleAlm.clk.lastEf = s.clk.lastEf := by
  unfold State.settleAlm; split <;> rfl
@[simp] theorem State.settleAlm_clk_hoFreq (s : State) : s.settleAlm.clk.hoFreq = s.clk.hoFreq := by
  unfold State.settleAlm; split <;> rfl
@[simp] theorem State.settleAlm_clk_awaitPhi (s : State) : s.settleAlm.clk.awaitPhi = s.clk.awaitPhi := by
  unfold State.settleAlm; split <;> rfl
@[simp] theorem State.settleAlm_clk_realign (s : State) : s.settleAlm.clk.realign = s.clk.realign := by
  unfold State.settleAlm; split <;> rfl
@[simp] theorem State.settleAlm_clk_misHigh (s : State) : s.settleAlm.clk.misHigh = s.clk.misHigh := by
  unfold State.settleAlm; split <;> rfl
@[simp] theorem State.settleAlm_clk_disagree (s : State) : s.settleAlm.clk.disagree = s.clk.disagree := by
  unfold State.settleAlm; split <;> rfl
@[simp] theorem State.settleAlm_clk_lockedRef (s : State) : s.settleAlm.clk.lockedRef = s.clk.lockedRef := by
  unfold State.settleAlm; split <;> rfl
@[simp] theorem State.settleAlm_clk_switchFrom (s : State) : s.settleAlm.clk.switchFrom = s.clk.switchFrom := by
  unfold State.settleAlm; split <;> rfl
@[simp] theorem State.settleAlm_clk_mclkOn (s : State) : s.settleAlm.clk.mclkOn = s.clk.mclkOn := by
  unfold State.settleAlm; split <;> rfl
@[simp] theorem State.settle_clk_refs (s : State) : s.settle.clk.refs = s.clk.refs := by simp [State.settle]
@[simp] theorem State.settle_clk_running (s : State) : s.settle.clk.running = s.clk.running := by simp [State.settle]
@[simp] theorem State.settle_clk_lastEf (s : State) : s.settle.clk.lastEf = s.clk.lastEf := by simp [State.settle]
@[simp] theorem State.settle_clk_hoFreq (s : State) : s.settle.clk.hoFreq = s.clk.hoFreq := by simp [State.settle]
@[simp] theorem State.settle_clk_awaitPhi (s : State) : s.settle.clk.awaitPhi = s.clk.awaitPhi := by simp [State.settle]
@[simp] theorem State.settle_clk_realign (s : State) : s.settle.clk.realign = s.clk.realign := by simp [State.settle]
@[simp] theorem State.settle_clk_misHigh (s : State) : s.settle.clk.misHigh = s.clk.misHigh := by simp [State.settle]
@[simp] theorem State.settle_clk_disagree (s : State) : s.settle.clk.disagree = s.clk.disagree := by simp [State.settle]
@[simp] theorem State.settle_clk_lockedRef (s : State) : s.settle.clk.lockedRef = s.clk.lockedRef := by simp [State.settle]
@[simp] theorem State.settle_clk_switchFrom (s : State) : s.settle.clk.switchFrom = s.clk.switchFrom := by simp [State.settle]
@[simp] theorem State.settle_clk_mclkOn (s : State) : s.settle.clk.mclkOn = s.clk.mclkOn := by simp [State.settle]

/-! ### Registers -/

theorem State.reg_settleFault_ne (s : State) {a : Nat} (h1 : a ≠ A.PWR_STATUS) (h2 : a ≠ A.TEST_FAULT) (h3 : a ≠ A.TEST_EVT) :
    s.settleFault.reg a = s.reg a := by
  simp only [State.settleFault, State.when]
  split
  · rw [State.reg_event_ne _ _ h3, State.reg_keepWord_ne _ _ h2, State.reg_keep_ne _ _ _ h1]
  · rw [State.reg_keepWord_ne _ _ h2, State.reg_keep_ne _ _ _ h1]

theorem State.reg_settleAlm (s : State) (a : Nat) : s.settleAlm.reg a = s.reg a := by
  unfold State.settleAlm; split <;> rfl

theorem State.reg_settleMsix (s : State) (n a : Nat) : (s.settleMsix n).reg a = s.reg a := by
  simp only [State.settleMsix]; split <;> rfl

/-- `settle` changes the summary registers only. -/
theorem State.reg_settle (s : State) {a : Nat} (h : a ∉ summaries) : s.settle.reg a = s.reg a := by
  simp only [summaries, List.mem_cons, List.not_mem_nil, or_false, not_or] at h
  obtain ⟨h1, h2, h3, h4, h5⟩ := h
  simp only [State.settle, State.reg_settleMsix]
  rw [State.reg_keepWord_ne _ _ h5, State.reg_keepWord_ne _ _ h4, State.reg_settleAlm,
    State.reg_settleFault_ne _ h1 h2 h3]

theorem State.byte_settle (s : State) (a : Nat) : s.settle.byte a = s.byte a := by
  unfold State.byte; rw [State.settle_mem]

/-- In the summary registers `settle` changes only PWR.STATUS.FAULT, TEST.FAULT, TEST.EVT.FAULT_CHG, MSTAT.SAT_SUM and
SYS.IRQ_STATUS. -/
theorem State.fld_settle_pwr (s : State) {g : Fld} (ha : g.adr = A.PWR_STATUS) (hg : Fld.free F.PWR_STATUS_FAULT g = true) :
    s.settle.fld g = s.fld g := by
  have h : s.settle.reg g.adr = s.settleFault.reg g.adr := by
    simp only [State.settle, State.reg_settleMsix]
    rw [State.reg_keepWord_ne _ _ (by rw [ha]; decide), State.reg_keepWord_ne _ _ (by rw [ha]; decide), State.reg_settleAlm]
  rw [State.fld_eq_of_reg h]
  have e : s.settleFault.reg g.adr = (s.keep F.PWR_STATUS_FAULT (if s.pwrFault then 1 else 0)).reg g.adr := by
    simp only [State.settleFault, State.when]
    split
    · rw [State.reg_event_ne _ _ (by rw [ha]; decide), State.reg_keepWord_ne _ _ (by rw [ha]; decide)]
    · rw [State.reg_keepWord_ne _ _ (by rw [ha]; decide)]
  rw [State.fld_eq_of_reg e, State.fld_keep_free _ hg]

theorem State.fld_settle_testEvt (s : State) {g : Fld} (ha : g.adr = A.TEST_EVT) (hg : Fld.free F.TEST_EVT_FAULT_CHG g = true) :
    s.settle.fld g = s.fld g := by
  have h : s.settle.reg g.adr = s.settleFault.reg g.adr := by
    simp only [State.settle, State.reg_settleMsix]
    rw [State.reg_keepWord_ne _ _ (by rw [ha]; decide), State.reg_keepWord_ne _ _ (by rw [ha]; decide), State.reg_settleAlm]
  rw [State.fld_eq_of_reg h]
  simp only [State.settleFault, State.when]
  have e : ∀ t : State, t.reg g.adr = s.reg g.adr → (t.event F.TEST_EVT_FAULT_CHG).fld g = s.fld g := fun t ht => by
    rw [State.fld_event_free _ hg, State.fld_eq_of_reg ht]
  have k : ∀ v w, ((s.keep F.PWR_STATUS_FAULT v).keepWord A.TEST_FAULT w).reg g.adr = s.reg g.adr := fun v w => by
    rw [State.reg_keepWord_ne _ _ (by rw [ha]; decide), State.reg_keep_ne _ _ _ (by rw [ha]; decide)]
  split
  · exact e _ (k _ _)
  · exact State.fld_eq_of_reg (k _ _)

/-! ### A meaning's answer -/

/-- The state that an effect leaves, settled. -/
def State.seal (s u : State) : State := { u.settle with pending := s.pending }

@[simp] theorem State.seal_variant (s u : State) : (s.seal u).variant = u.variant := u.settle_variant
@[simp] theorem State.seal_mem (s u : State) : (s.seal u).mem = u.mem := u.settle_mem
@[simp] theorem State.seal_freeCtr (s u : State) : (s.seal u).freeCtr = u.freeCtr := u.settle_freeCtr
@[simp] theorem State.seal_resp (s u : State) : (s.seal u).resp = u.resp := u.settle_resp
@[simp] theorem State.seal_mgmt (s u : State) : (s.seal u).mgmt = u.mgmt := u.settle_mgmt
@[simp] theorem State.seal_hmq (s u : State) : (s.seal u).hmq = u.hmq := u.settle_hmq
@[simp] theorem State.seal_pwr (s u : State) : (s.seal u).pwr = u.pwr := u.settle_pwr
@[simp] theorem State.seal_ring (s u : State) : (s.seal u).ring = u.ring := u.settle_ring
@[simp] theorem State.seal_time (s u : State) : (s.seal u).time = u.time := u.settle_time
@[simp] theorem State.seal_strm (s u : State) : (s.seal u).strm = u.strm := u.settle_strm
@[simp] theorem State.seal_play (s u : State) : (s.seal u).play = u.play := u.settle_play
@[simp] theorem State.seal_eng (s u : State) : (s.seal u).eng = u.eng := u.settle_eng
@[simp] theorem State.seal_xpt (s u : State) : (s.seal u).xpt = u.xpt := u.settle_xpt
@[simp] theorem State.seal_tdm (s u : State) : (s.seal u).tdm = u.tdm := u.settle_tdm
@[simp] theorem State.seal_proof (s u : State) : (s.seal u).proof = u.proof := u.settle_proof
@[simp] theorem State.seal_splice (s u : State) : (s.seal u).splice = u.splice := u.settle_splice
@[simp] theorem State.seal_test (s u : State) : (s.seal u).test = u.test := u.settle_test
@[simp] theorem State.seal_scp (s u : State) : (s.seal u).scp = u.scp := u.settle_scp
@[simp] theorem State.seal_bus (s u : State) : (s.seal u).bus = u.bus := u.settle_bus
@[simp] theorem State.seal_pending (s u : State) : (s.seal u).pending = s.pending := rfl
@[simp] theorem State.seal_clk_refs (s u : State) : (s.seal u).clk.refs = u.clk.refs := u.settle_clk_refs
@[simp] theorem State.seal_clk_running (s u : State) : (s.seal u).clk.running = u.clk.running := u.settle_clk_running
@[simp] theorem State.seal_clk_lastEf (s u : State) : (s.seal u).clk.lastEf = u.clk.lastEf := u.settle_clk_lastEf
@[simp] theorem State.seal_clk_hoFreq (s u : State) : (s.seal u).clk.hoFreq = u.clk.hoFreq := u.settle_clk_hoFreq
@[simp] theorem State.seal_clk_awaitPhi (s u : State) : (s.seal u).clk.awaitPhi = u.clk.awaitPhi := u.settle_clk_awaitPhi
@[simp] theorem State.seal_clk_realign (s u : State) : (s.seal u).clk.realign = u.clk.realign := u.settle_clk_realign
@[simp] theorem State.seal_clk_misHigh (s u : State) : (s.seal u).clk.misHigh = u.clk.misHigh := u.settle_clk_misHigh
@[simp] theorem State.seal_clk_disagree (s u : State) : (s.seal u).clk.disagree = u.clk.disagree := u.settle_clk_disagree
@[simp] theorem State.seal_clk_lockedRef (s u : State) : (s.seal u).clk.lockedRef = u.clk.lockedRef := u.settle_clk_lockedRef
@[simp] theorem State.seal_clk_switchFrom (s u : State) : (s.seal u).clk.switchFrom = u.clk.switchFrom := u.settle_clk_switchFrom
@[simp] theorem State.seal_clk_mclkOn (s u : State) : (s.seal u).clk.mclkOn = u.clk.mclkOn := u.settle_clk_mclkOn

/-- A command's answer is what its effect leaves, settled. -/
theorem State.done_eq (s : State) (f : State → State) {u : State} (hu : f s.fresh = u) (hv : u.variant = s.variant) :
    s.done f = s.seal u := by
  have e : ({ f s.fresh with variant := s.variant } : State) = u := by rw [hu, ← hv]
  unfold State.done State.seal; rw [e]

theorem State.reg_seal_settle (s u : State) (a : Nat) : (s.seal u).reg a = u.settle.reg a :=
  State.reg_congr (s := u.settle) rfl rfl a

/-- Registers other than the summaries read after a command as its effect left them. -/
theorem State.reg_seal (s u : State) {a : Nat} (h : a ∉ summaries) : (s.seal u).reg a = u.reg a := by
  rw [State.reg_seal_settle, State.reg_settle _ h]

theorem State.rd_seal (s u : State) {a : Nat} (h : a ∉ summaries) : (s.seal u).rd a = u.rd a :=
  State.rd_eq_of_reg (State.reg_seal s u h)

/-- The field is no part of what `settle` changes. -/
def Fld.kept (g : Fld) : Bool :=
  !summaries.contains g.adr || (g.adr == A.PWR_STATUS && Fld.free F.PWR_STATUS_FAULT g) ||
    (g.adr == A.TEST_EVT && Fld.free F.TEST_EVT_FAULT_CHG g)

/-- A field that `settle` does not change reads after a command as its effect left it. -/
theorem State.fld_seal (s u : State) {g : Fld} (h : g.kept = true) : (s.seal u).fld g = u.fld g := by
  rw [State.fld_eq_of_reg (State.reg_seal_settle s u _)]
  simp only [Fld.kept, Bool.or_eq_true, Bool.and_eq_true, beq_iff_eq] at h
  rcases h with (h | h) | h
  · exact State.fld_eq_of_reg (State.reg_settle _ (by simpa using h))
  · exact State.fld_settle_pwr _ h.1 h.2
  · exact State.fld_settle_testEvt _ h.1 h.2

theorem State.on_seal (s u : State) {g : Fld} (h : g.kept = true) : (s.seal u).on g = u.on g := by
  unfold State.on; rw [State.fld_seal s u h]

theorem State.bitOf_seal (s u : State) {g : Fld} (h : g.kept = true) (k : Nat) : (s.seal u).bitOf g k = u.bitOf g k := by
  unfold State.bitOf; rw [State.fld_seal s u h]

theorem State.byte_seal (s u : State) (a : Nat) : (s.seal u).byte a = u.byte a := by
  unfold State.byte; rw [State.seal_mem]

theorem State.memWord_seal (s u : State) (a : Nat) : (s.seal u).memWord a = u.memWord a := by
  unfold State.memWord; simp only [State.byte_seal]

@[simp] theorem State.done_variant (s : State) (f : State → State) : (s.done f).variant = s.variant := by
  simp [State.done]

@[simp] theorem State.done_pending (s : State) (f : State → State) : (s.done f).pending = s.pending := rfl

theorem State.run_eq (s : State) (f : State → State) : s.run f = .next (s.done f) := rfl

theorem State.runIf_true (s : State) {b : Bool} (h : b = true) (f : State → State) : s.runIf b f = .next (s.done f) := by
  unfold State.runIf; rw [if_pos h]; rfl

theorem State.runIf_false (s : State) {b : Bool} (h : b = false) (f : State → State) : s.runIf b f = .fault .absentObject := by
  unfold State.runIf; rw [h]; rfl

end Sys2Proof.Machine
end

