-- ==== Sys2Proof/Laws/Exec.lean ====
section
/-! SUPPORT. What every command answers: its effect settled, or a stop where it names an absent object. -/

namespace Sys2Proof.Machine

/-- Every command answers its effect, settled, or stops on an absent object. -/
theorem exec_cases (i : Instr) (s : State) :
    (∃ f, exec i s = s.run f) ∨ exec i s = .fault .absentObject := by
  have key : ∀ b f, (∃ g, s.runIf b f = s.run g) ∨ s.runIf b f = .fault .absentObject := fun b f => by
    cases b
    · exact .inr rfl
    · exact .inl ⟨f, rfl⟩
  cases i
  case loopI c n count body =>
    change (∃ f, execLoopI c n count body s = s.run f) ∨ execLoopI c n count body s = .fault .absentObject
    unfold execLoopI
    split <;> exact key _ _
  case loopR c n a top body =>
    change (∃ f, execLoopR c n a top body s = s.run f) ∨ execLoopR c n a top body s = .fault .absentObject
    unfold execLoopR
    split <;> exact key _ _
  all_goals first | exact .inl ⟨_, rfl⟩ | exact key _ _

end Sys2Proof.Machine
end

