-- ==== Sys2Proof/Laws/Answer.lean ====
section
/-! SUPPORT. How a statement about a command is proved from its effect: the answer, and the frame. -/

namespace Sys2Proof.Machine

/-- A command whose meaning is an effect answers what the effect leaves, settled. -/
theorem answers_run {i : Instr} {s : State} {P : State → Prop} (f : State → State) {u : State} (hx : exec i s = s.run f)
    (hu : f s.fresh = u) (hv : u.variant = s.variant) (h : P (s.seal u)) : Answers i s P :=
  ⟨_, hx.trans (congrArg Host.Outcome.next (s.done_eq f hu hv)), h⟩

/-- A command whose object exists answers what its effect leaves, settled. -/
theorem answers_runIf {i : Instr} {s : State} {P : State → Prop} (b : Bool) (f : State → State) {u : State}
    (hx : exec i s = s.runIf b f) (hb : b = true) (hu : f s.fresh = u) (hv : u.variant = s.variant) (h : P (s.seal u)) :
    Answers i s P := answers_run f (hx.trans (State.runIf_true s hb f)) hu hv h

/-- A frame holds of a command's answer if it holds of its effect. -/
theorem frame_seal (regs : List Nat) (parts : List Part) (s u : State) (hv : u.variant = s.variant)
    (hr : ∀ a, a ∉ regs → a ∉ summaries → u.reg a = s.reg a) (hm : ∀ a, u.byte a = s.byte a)
    (hp : ∀ p, p ∉ parts → p.Same s u) : Framed regs parts s (s.seal u) := by
  refine ⟨fun a h1 h2 => ?_, fun a => ?_, fun p h => ?_, by simp [hv], by simp⟩
  · rw [State.reg_seal _ _ h2, hr a h1 h2]
  · rw [State.byte_seal, hm a]
  · have := hp p h
    cases p <;> simp only [Part.Same] at this ⊢ <;> simp [this]

/-- PWR.STATUS keeps in a command's answer what it keeps in its effect. -/
theorem pwrStatusKept_seal (l : List Fld) (s u : State)
    (h : ∀ g : Fld, g.adr = A.PWR_STATUS → g.ok = true → (∀ f ∈ l, Fld.free f g = true) → u.fld g = s.fld g) :
    PwrStatusKept l s (s.seal u) := by
  intro g ha hg hl
  have hk : g.kept = true := by
    simp only [Fld.kept, ha, Bool.or_eq_true, Bool.and_eq_true]
    exact .inl (.inr ⟨by decide, hl _ (by simp)⟩)
  rw [State.fld_seal _ _ hk]
  exact h g ha hg (fun f hf => hl f (by simp [hf]))

end Sys2Proof.Machine
end

