-- ==== Sys2Proof/Laws/Bus.lean ====
section
/-! SUPPORT. A master's whole-word write of a register, where nothing waits in a slow domain and the reserved bits are written
back as they read: the register takes its writable bits, and the rule behind it acts. -/

namespace Sys2Proof.Machine

theorem State.keepWord_self (s : State) (a : Nat) : s.keepWord a (s.rd a) = s := by
  unfold State.keepWord; rw [if_pos rfl]

/-- A single write competes with nobody. -/
theorem State.contend_one (s : State) (a : Nat) (r : Row) (x : Master × Bool × Nat) : s.contend a r [x] = s := by
  simp [State.contend]

/-- One write of a register with no event bits, its reserved bits as they read, lands. -/
theorem State.land_one (s : State) (a : Nat) (r : Row) (m : Master) (p : Bool) (n : Nat) (hw : r.w1c = 0)
    (hr : (n ^^^ s.rd a) &&& r.rsv = 0) (hp : isPlaceAdr a = false) :
    s.land a r [(m, p, n)] =
      (s.keepWord a (clearBits (s.rd a) (clearBits (r.rw &&& r.mayWrite p) (r.sc ||| r.wo)) |||
        (n &&& clearBits (r.rw &&& r.mayWrite p) (r.sc ||| r.wo)))).act m p a (s.reg a) (n &&& (r.sc ||| r.wo) &&& r.mayWrite p) := by
  simp [State.land, forL, State.when, State.rsvCheck, hw, hr, hp]

/-- Posting into an empty domain and draining it lands the write. -/
theorem State.drain_post (s : State) (a d : Nat) (r : Row) (m : Master) (p : Bool) (w : Word) (hrow : rowAt s.variant a = some r)
    (hposts : s.bus.posts = []) (hdep : 0 < domainDepth d) :
    (s.post d a m p w).drain d = s.land a r [(m, p, w.toNat)] := by
  have e : { s with bus := { s.bus with posts := [] } } = s := by rw [← hposts]
  have h0 : s.posted d = 0 := by simp [State.posted, hposts]
  have hp : s.post d a m p w = { s with bus := { s.bus with posts := [⟨d, a, w, m, p⟩] } } := by
    unfold State.post; rw [h0, if_neg (by omega), hposts]; rfl
  have h1 : (s.post d a m p w).posted d = 1 := by rw [hp]; simp [State.posted]
  unfold State.drain
  rw [h1]
  simp only [forN, List.range_succ, List.range_zero, List.nil_append, List.foldl_cons, List.foldl_nil]
  rw [hp]
  simp only [State.landPost, List.find?_cons, beq_self_eq_true, List.findIdx_cons, cond_true, List.eraseIdx_cons_zero, hrow, e]

theorem domainDepth_pos (d : Nat) : 0 < domainDepth d := by
  unfold domainDepth; split
  · decide
  · split <;> decide

/-- A whole-word write that nothing stands before lands at once. -/
theorem State.writeThrough_lands (s : State) (a : Nat) (r : Row) (m : Master) (priv : Bool) (w : Word) (ha : a % 4 = 0)
    (hrow : rowAt s.variant a = some r) (hposts : s.bus.posts = []) (hprv : s.masterPriv m priv = true ∨ w.toNat &&& r.prv = 0)
    (hdom : domainOf a = none ∨ r.rwp ≠ 0) :
    s.writeThrough a ⟨m, priv, 15, w⟩ = s.land a r [(m, s.masterPriv m priv, w.toNat)] := by
  have hs : served [⟨m, priv, 15, w⟩] = [⟨m, priv, 15, w⟩] := by cases m <;> rfl
  have hq : (!s.masterPriv m priv && w.toNat &&& r.prv != 0) = false := by
    rcases hprv with h | h <;> simp [h]
  unfold State.writeThrough State.busWrites
  rw [hs]
  simp only [List.partition_eq_filter_filter, List.filter_cons, ha, beq_self_eq_true, List.filter_nil, forL,
    Bool.and_self, if_true, Nat.reduceMod, Function.comp, Bool.not_true, List.foldl_nil, List.map_cons, List.map_nil, hrow,
    List.foldl_cons, State.when, hq, Bool.false_eq_true, if_false, List.isEmpty_cons, State.contend_one, BitVec.ofNat_toNat,
    BitVec.setWidth_eq]
  unfold postedAt
  by_cases hr : r.rwp = 0
  · simp only [hr, if_true]
    cases hd : domainOf a with
    | none => rfl
    | some d =>
      rcases hdom with h | h
      · rw [h] at hd; cases hd
      · exact absurd hr h
  · simp only [hr, if_false]
    cases hd : domainOf a with
    | none => simp
    | some d => exact State.drain_post s a d r m _ w hrow hposts (domainDepth_pos d)

/-- A word whose writable bits are written as they stand, but for command bits, is one that the register already holds. -/
theorem Row.merge_same (n x k : Nat) (h : n &&& k = x &&& k) : clearBits x k ||| (n &&& k) = x := by
  rw [h]
  apply Nat.eq_of_testBit_eq
  intro i
  simp only [clearBits, Nat.testBit_or, Nat.testBit_xor, Nat.testBit_and]
  cases x.testBit i <;> cases k.testBit i <;> rfl

/-- A whole-word write of a register with no event bits, its reserved bits as they read, takes its writable bits and acts. -/
theorem State.word_acts (s : State) (m : Master) (priv : Bool) (a n : Nat) (r : Row) (hn : n < 2 ^ 32) (ha : a % 4 = 0)
    (ht : (a == A.TEST_CTL) = false) (hrow : rowAt s.variant a = some r) (hposts : s.bus.posts = [])
    (hprv : s.masterPriv m priv = true ∨ n &&& r.prv = 0) (hdom : domainOf a = none ∨ r.rwp ≠ 0) (hw : r.w1c = 0)
    (hr : (n ^^^ s.rd a) &&& r.rsv = 0) (hp : isPlaceAdr a = false) :
    s.word m priv a n =
      (s.keepWord a (clearBits (s.rd a) (clearBits (r.rw &&& r.mayWrite (s.masterPriv m priv)) (r.sc ||| r.wo)) |||
        (n &&& clearBits (r.rw &&& r.mayWrite (s.masterPriv m priv)) (r.sc ||| r.wo)))).act m (s.masterPriv m priv) a (s.reg a)
        (n &&& (r.sc ||| r.wo) &&& r.mayWrite (s.masterPriv m priv)) := by
  have e : (BitVec.ofNat 32 n).toNat = n := by rw [BitVec.toNat_ofNat, Nat.mod_eq_of_lt hn]
  unfold State.word State.when
  rw [ht, State.writeThrough_lands s a r m priv _ ha hrow hposts (by rw [e]; exact hprv) hdom, e]
  simp only [Bool.false_eq_true, if_false]
  exact State.land_one s a r m _ n hw hr hp

/-- The bits of a word and of a mask. -/
theorem testBit_clearBits (a b i : Nat) : (clearBits a b).testBit i = (a.testBit i && !b.testBit i) := by
  simp only [clearBits, Nat.testBit_xor, Nat.testBit_and]
  cases a.testBit i <;> cases b.testBit i <;> rfl

theorem clearBits_lt (a b : Nat) (h : a < 2 ^ 32) : clearBits a b < 2 ^ 32 := by
  apply Nat.lt_pow_two_of_testBit
  intro i hi
  rw [testBit_clearBits, Nat.testBit_lt_two_pow (Nat.lt_of_lt_of_le h (Nat.pow_le_pow_right (by decide) hi))]; rfl

/-- Command bits written to a register start their command, and leave the register as it is. -/
theorem State.strike_acts (s : State) (m : Master) (priv : Bool) (a bits : Nat) (r : Row) (hb : bits < 2 ^ 32) (ha : a % 4 = 0)
    (ht : (a == A.TEST_CTL) = false) (hrow : rowAt s.variant a = some r) (hposts : s.bus.posts = [])
    (hprv : s.masterPriv m priv = true ∨ bits &&& r.prv = 0) (hdom : domainOf a = none ∨ r.rwp ≠ 0) (hw : r.w1c = 0)
    (hsc : bits &&& (r.sc ||| r.wo) = bits) (hrsv : r.rsv &&& (r.sc ||| r.wo ||| r.prv) = 0) (hp : isPlaceAdr a = false) :
    s.strike m priv a bits = s.act m (s.masterPriv m priv) a (s.reg a) bits := by
  have hk : s.asRead m priv a = clearBits (s.rd a) (r.sc ||| r.wo ||| (if s.masterPriv m priv then 0 else r.prv)) := by
    unfold State.asRead; rw [hrow]
  have bit : ∀ x y z : Nat, x &&& y = z → ∀ i, (x.testBit i && y.testBit i) = z.testBit i := fun x y z h i => by
    rw [← h, Nat.testBit_and]
  have hsc' := bit _ _ _ hsc
  have hrsv' := bit _ _ _ hrsv
  simp only [Nat.testBit_or, Nat.zero_testBit] at hsc' hrsv'
  have hn : s.asRead m priv a ||| bits < 2 ^ 32 := by
    rw [hk]; exact Nat.or_lt_two_pow (clearBits_lt _ _ (s.rd_lt a)) hb
  have hpr : ∀ i, s.masterPriv m priv = false → (bits.testBit i && r.prv.testBit i) = false := fun i h => by
    rcases hprv with h' | h'
    · rw [h] at h'; cases h'
    · have := bit _ _ _ h' i; simpa using this
  unfold State.strike
  rw [State.word_acts s m priv a _ r hn ha ht hrow hposts ?_ hdom hw ?_ hp, Row.merge_same, State.keepWord_self]
  · congr 1
    apply Nat.eq_of_testBit_eq
    intro i
    have h1 := hsc' i
    have h2 := hpr i
    simp only [hk, Nat.testBit_and, Nat.testBit_or, testBit_clearBits, Row.mayWrite]
    cases hm : s.masterPriv m priv
    · have h2 := h2 hm
      simp only [Bool.false_eq_true, if_false, testBit_clearBits]
      have h32 : bits.testBit i = true → (0xFFFFFFFF : Nat).testBit i = true := fun hbi => by
        have : i < 32 := by
          by_contra hc
          rw [Nat.testBit_lt_two_pow (Nat.lt_of_lt_of_le hb (Nat.pow_le_pow_right (by decide) (Nat.le_of_not_lt hc)))] at hbi
          cases hbi
        rw [show (0xFFFFFFFF : Nat) = 2 ^ 32 - 1 from rfl, Nat.testBit_two_pow_sub_one]; simpa using this
      cases hbi : bits.testBit i
      · simp only [Bool.or_false]
        cases (s.rd a).testBit i <;> cases r.sc.testBit i <;> cases r.wo.testBit i <;> cases r.prv.testBit i <;> simp
      · rw [hbi] at h1 h2
        have h32 := h32 hbi
        cases hs : r.sc.testBit i <;> cases hwo : r.wo.testBit i <;> simp_all
    · have h32 : bits.testBit i = true → (0xFFFFFFFF : Nat).testBit i = true := fun hbi => by
        have : i < 32 := by
          by_contra hc
          rw [Nat.testBit_lt_two_pow (Nat.lt_of_lt_of_le hb (Nat.pow_le_pow_right (by decide) (Nat.le_of_not_lt hc)))] at hbi
          cases hbi
        rw [show (0xFFFFFFFF : Nat) = 2 ^ 32 - 1 from rfl, Nat.testBit_two_pow_sub_one]; simpa using this
      cases hbi : bits.testBit i
      · cases (s.rd a).testBit i <;> cases r.sc.testBit i <;> cases r.wo.testBit i <;> simp
      · rw [hbi] at h1
        have h32 := h32 hbi
        cases hs : r.sc.testBit i <;> cases hwo : r.wo.testBit i <;> simp_all
  · apply Nat.eq_of_testBit_eq
    intro i
    have h1 := hsc' i
    simp only [hk, Nat.testBit_and, Nat.testBit_or, testBit_clearBits, Row.mayWrite]
    cases s.masterPriv m priv <;> cases (s.rd a).testBit i <;> cases hbi : bits.testBit i <;> cases hs : r.sc.testBit i <;>
      cases hwo : r.wo.testBit i <;> cases hv : r.prv.testBit i <;> simp_all [testBit_clearBits]
  · cases hm : s.masterPriv m priv
    · right
      apply Nat.eq_of_testBit_eq
      intro i
      have h2 := hpr i hm
      simp only [hk, hm, Nat.testBit_and, Nat.testBit_or, testBit_clearBits, Nat.zero_testBit]
      cases (s.rd a).testBit i <;> cases hbi : bits.testBit i <;> cases hv : r.prv.testBit i <;> simp_all
    · exact .inl rfl
  · apply Nat.eq_of_testBit_eq
    intro i
    have h1 := hsc' i
    have h3 := hrsv' i
    simp only [hk, Nat.testBit_and, Nat.testBit_or, Nat.testBit_xor, testBit_clearBits, Nat.zero_testBit]
    cases hrs : r.rsv.testBit i
    · simp
    · rw [hrs] at h3
      simp only [Bool.true_and, Bool.or_eq_false_iff] at h3
      rw [h3.1.1, h3.1.2, Bool.or_self, Bool.and_false] at h1
      rw [← h1, h3.1.1, h3.1.2]
      cases s.masterPriv m priv <;> simp [h3.2]

/-- A register's write acts where its unit is awake and its block is not under test. -/
theorem State.act_command (s : State) (m : Master) (p : Bool) (a d : Nat) (ho : s.effectOwed a = false) (hd : d ≠ 0) :
    s.act m p a (s.reg a) d = s.regEffect m p a (s.reg a) d := by
  have : actsAlways a d = true := by simp [actsAlways, hd]
  unfold State.act; simp [ho, this]

/-- The register is one whose command bits `bits` can be written while its other bits stay as they read. -/
def Row.strikes (r : Row) (a bits : Nat) : Bool :=
  Nat.blt bits (2 ^ 32) && bits != 0 && a % 4 == 0 && a != A.TEST_CTL && r.w1c == 0 && bits &&& (r.sc ||| r.wo) == bits &&
    r.rsv &&& (r.sc ||| r.wo ||| r.prv) == 0 && !isPlaceAdr a && ((domainOf a).isNone || r.rwp != 0)

/-- What a direct write asks of the master, bit by bit. -/
theorem Direct.prv {s : State} {m : Master} {priv : Bool} {a : Nat} (h : Direct s m priv a) {r : Row} (hrow : rowAt s.variant a = some r)
    (n : Nat) : s.masterPriv m priv = true ∨ n &&& r.prv = 0 :=
  h.2.1.imp id fun g => by rw [g r hrow, Nat.and_zero]

/-- A direct write of command bits starts their command. -/
theorem State.strike_direct (s : State) (m : Master) (priv : Bool) (a bits : Nat) (h : Direct s m priv a)
    (hr : ∃ r, rowAt s.variant a = some r ∧ r.strikes a bits = true) :
    s.strike m priv a bits = s.regEffect m (s.masterPriv m priv) a (s.reg a) bits := by
  obtain ⟨r, hrow, hs⟩ := hr
  simp only [Row.strikes, Bool.and_eq_true, Bool.or_eq_true, beq_iff_eq, bne_iff_ne, ne_eq, Nat.blt_eq, Bool.not_eq_true',
    Option.isNone_iff_eq_none] at hs
  obtain ⟨⟨⟨⟨⟨⟨⟨⟨h1, h2⟩, h3⟩, h4⟩, h5⟩, h6⟩, h7⟩, h8⟩, h9⟩ := hs
  rw [State.strike_acts s m priv a bits r h1 h3 (by simpa using h4) hrow h.1 (h.prv hrow _) h9 h5 h6 h7 h8,
    State.act_command s m _ a bits h.2.2 h2]

/-- The register is one whose word `n` can be written whole: `x` is its word before. -/
def Row.takes (r : Row) (a x n : Nat) : Bool :=
  Nat.blt n (2 ^ 32) && a % 4 == 0 && a != A.TEST_CTL && r.w1c == 0 && (n ^^^ x) &&& r.rsv == 0 && !isPlaceAdr a &&
    ((domainOf a).isNone || r.rwp != 0)

/-- The word that a register holds after a privileged write. -/
def Row.merged (r : Row) (x n : Nat) : Nat :=
  clearBits x (clearBits (r.rw &&& 0xFFFFFFFF) (r.sc ||| r.wo)) ||| (n &&& clearBits (r.rw &&& 0xFFFFFFFF) (r.sc ||| r.wo))

/-- A direct whole-word write may change every writable bit. -/
theorem Direct.mayWrite {s : State} {m : Master} {priv : Bool} {a : Nat} (h : Direct s m priv a) {r : Row}
    (hrow : rowAt s.variant a = some r) : r.mayWrite (s.masterPriv m priv) = 0xFFFFFFFF := by
  unfold Row.mayWrite
  rcases h.2.1 with g | g
  · rw [g]; rfl
  · rw [g r hrow]; cases s.masterPriv m priv <;> rfl

/-- A direct whole-word write stores the writable bits, and the rule behind the register acts. -/
theorem State.word_direct (s : State) (m : Master) (priv : Bool) (a n : Nat) (r : Row) (h : Direct s m priv a)
    (hrow : rowAt s.variant a = some r) (hs : r.takes a (s.rd a) n = true) :
    s.word m priv a n =
      (s.keepWord a (r.merged (s.rd a) n)).act m (s.masterPriv m priv) a (s.reg a) (n &&& (r.sc ||| r.wo) &&& 0xFFFFFFFF) := by
  simp only [Row.takes, Bool.and_eq_true, Bool.or_eq_true, beq_iff_eq, bne_iff_ne, ne_eq, Nat.blt_eq, Bool.not_eq_true',
    Option.isNone_iff_eq_none] at hs
  obtain ⟨⟨⟨⟨⟨⟨h1, h3⟩, h4⟩, h5⟩, h6⟩, h8⟩, h9⟩ := hs
  rw [State.word_acts s m priv a n r h1 h3 (by simpa using h4) hrow h.1 (h.prv hrow _) h9 h5 h6 h8, h.mayWrite hrow]
  rfl

/-- What a write does where the word changed, or its effect follows every write. -/
theorem State.act_effect (s : State) (m : Master) (p : Bool) (a : Nat) (old : Word) (d : Nat) (ho : s.effectOwed a = false)
    (hd : s.reg a ≠ old ∨ actsAlways a d = true) : s.act m p a old d = s.regEffect m p a old d := by
  unfold State.act
  rcases hd with h | h <;> simp [ho, h]

end Sys2Proof.Machine
end

