-- ==== Sys2Proof/Laws/Memory.lean ====
section
/-! SUPPORT. The canonical form of registers and memories is kept by every operation that stores, and reset has it. -/

namespace Sys2Proof.Machine

theorem Memory.wf_reset : Memory.wf State.reset := ⟨rfl, rfl⟩

theorem Memory.wf_putReg {s : State} (h : Memory.wf s) (adr : Nat) (w : Word) : Memory.wf (s.putReg adr w) :=
  ⟨Sparse.wf_put _ _ _ _ h.1, h.2⟩

theorem Memory.wf_wr {s : State} (h : Memory.wf s) (adr n : Nat) : Memory.wf (s.wr adr n) := Memory.wf_putReg h _ _

theorem Memory.wf_clearReg {s : State} (h : Memory.wf s) (adr : Nat) : Memory.wf (s.clearReg adr) := Memory.wf_putReg h _ _

theorem Memory.wf_clearRegs {s : State} (h : Memory.wf s) (lo hi : Nat) : Memory.wf (s.clearRegs lo hi) :=
  ⟨Sparse.wf_filter _ _ _ h.1, h.2⟩

theorem Memory.wf_putByte {s : State} (h : Memory.wf s) (adr : Nat) (b : BitVec 8) : Memory.wf (s.putByte adr b) :=
  ⟨h.1, Sparse.wf_put (fun _ => 0) _ _ _ h.2⟩

theorem Memory.wf_putMemWord {s : State} (h : Memory.wf s) (adr : Nat) (w : Word) : Memory.wf (s.putMemWord adr w) :=
  Memory.wf_putByte (Memory.wf_putByte (Memory.wf_putByte (Memory.wf_putByte h _ _) _ _) _ _) _ _

theorem Memory.wf_clearMem {s : State} (h : Memory.wf s) (lo hi : Nat) : Memory.wf (s.clearMem lo hi) :=
  ⟨h.1, Sparse.wf_filter _ _ _ h.2⟩

end Sys2Proof.Machine
end

