-- ==== Sys2Proof/Laws/Time.lean ====
section
/-! SUPPORT. What elapsed time changes: the time base and counts, the RTC and the lifetime counters, and MISALIGN. -/

namespace Sys2Proof.Machine

theorem State.reg_when (s : State) (b : Bool) (f : State → State) (a : Nat) (h : (f s).reg a = s.reg a) :
    (s.when b f).reg a = s.reg a := by
  cases b
  · rfl
  · exact h

theorem State.reg_updMisalign (s : State) {a : Nat} (h : a ∉ timeRegs) : s.updMisalign.reg a = s.reg a := by
  simp only [timeRegs, List.mem_cons, List.not_mem_nil, or_false, not_or] at h
  change ((s.wr A.CLK_MISALIGN (nsReg s.misalign)).when _ (fun s => s.event F.CLK_EVT_MISALIGN)).reg a = s.reg a
  rw [State.reg_when _ _ _ _ (State.reg_event_ne _ _ h.2.1), State.reg_wr_ne _ _ h.1]

/-- Elapsed time changes no other register. -/
theorem State.reg_advance (s : State) (dt : Nat) {a : Nat} (h : a ∉ timeRegs) : (s.advance dt).reg a = s.reg a := by
  have h' := h
  simp only [timeRegs, List.mem_cons, List.not_mem_nil, or_false, not_or] at h'
  simp only [State.advance]
  rw [State.reg_updMisalign _ h]
  exact State.reg_when s _ _ _ (State.reg_life_ne _ _ _ h'.2.2)

@[simp] theorem State.updMisalign_variant (s : State) : s.updMisalign.variant = s.variant := by
  simp only [State.updMisalign, State.when]; split <;> simp
@[simp] theorem State.updMisalign_mem (s : State) : s.updMisalign.mem = s.mem := by
  simp only [State.updMisalign, State.when]; split <;> simp
@[simp] theorem State.updMisalign_freeCtr (s : State) : s.updMisalign.freeCtr = s.freeCtr := by
  simp only [State.updMisalign, State.when]; split <;> simp
@[simp] theorem State.updMisalign_resp (s : State) : s.updMisalign.resp = s.resp := by
  simp only [State.updMisalign, State.when]; split <;> simp
@[simp] theorem State.updMisalign_hmq (s : State) : s.updMisalign.hmq = s.hmq := by
  simp only [State.updMisalign, State.when]; split <;> simp
@[simp] theorem State.updMisalign_pwr (s : State) : s.updMisalign.pwr = s.pwr := by
  simp only [State.updMisalign, State.when]; split <;> simp
@[simp] theorem State.updMisalign_ring (s : State) : s.updMisalign.ring = s.ring := by
  simp only [State.updMisalign, State.when]; split <;> simp
@[simp] theorem State.updMisalign_strm (s : State) : s.updMisalign.strm = s.strm := by
  simp only [State.updMisalign, State.when]; split <;> simp
@[simp] theorem State.updMisalign_play (s : State) : s.updMisalign.play = s.play := by
  simp only [State.updMisalign, State.when]; split <;> simp
@[simp] theorem State.updMisalign_eng (s : State) : s.updMisalign.eng = s.eng := by
  simp only [State.updMisalign, State.when]; split <;> simp
@[simp] theorem State.updMisalign_xpt (s : State) : s.updMisalign.xpt = s.xpt := by
  simp only [State.updMisalign, State.when]; split <;> simp
@[simp] theorem State.updMisalign_tdm (s : State) : s.updMisalign.tdm = s.tdm := by
  simp only [State.updMisalign, State.when]; split <;> simp
@[simp] theorem State.updMisalign_proof (s : State) : s.updMisalign.proof = s.proof := by
  simp only [State.updMisalign, State.when]; split <;> simp
@[simp] theorem State.updMisalign_splice (s : State) : s.updMisalign.splice = s.splice := by
  simp only [State.updMisalign, State.when]; split <;> simp
@[simp] theorem State.updMisalign_test (s : State) : s.updMisalign.test = s.test := by
  simp only [State.updMisalign, State.when]; split <;> simp
@[simp] theorem State.updMisalign_scp (s : State) : s.updMisalign.scp = s.scp := by
  simp only [State.updMisalign, State.when]; split <;> simp
@[simp] theorem State.updMisalign_msix (s : State) : s.updMisalign.msix = s.msix := by
  simp only [State.updMisalign, State.when]; split <;> simp
@[simp] theorem State.updMisalign_bus (s : State) : s.updMisalign.bus = s.bus := by
  simp only [State.updMisalign, State.when]; split <;> simp
@[simp] theorem State.updMisalign_out (s : State) : s.updMisalign.out = s.out := by
  simp only [State.updMisalign, State.when]; split <;> simp
@[simp] theorem State.updMisalign_pending (s : State) : s.updMisalign.pending = s.pending := by
  simp only [State.updMisalign, State.when]; split <;> simp
@[simp] theorem State.updMisalign_time (s : State) : s.updMisalign.time = s.time := by
  simp only [State.updMisalign, State.when]; split <;> simp
@[simp] theorem State.updMisalign_mgmt (s : State) : s.updMisalign.mgmt = s.mgmt := by
  simp only [State.updMisalign, State.when]; split <;> simp
@[simp] theorem State.updMisalign_clk_refs (s : State) : s.updMisalign.clk.refs = s.clk.refs := by
  simp only [State.updMisalign, State.when]; split <;> simp
@[simp] theorem State.updMisalign_clk_running (s : State) : s.updMisalign.clk.running = s.clk.running := by
  simp only [State.updMisalign, State.when]; split <;> simp
@[simp] theorem State.updMisalign_clk_lastEf (s : State) : s.updMisalign.clk.lastEf = s.clk.lastEf := by
  simp only [State.updMisalign, State.when]; split <;> simp
@[simp] theorem State.updMisalign_clk_hoFreq (s : State) : s.updMisalign.clk.hoFreq = s.clk.hoFreq := by
  simp only [State.updMisalign, State.when]; split <;> simp
@[simp] theorem State.updMisalign_clk_awaitPhi (s : State) : s.updMisalign.clk.awaitPhi = s.clk.awaitPhi := by
  simp only [State.updMisalign, State.when]; split <;> simp
@[simp] theorem State.updMisalign_clk_realign (s : State) : s.updMisalign.clk.realign = s.clk.realign := by
  simp only [State.updMisalign, State.when]; split <;> simp
@[simp] theorem State.updMisalign_clk_almLow (s : State) : s.updMisalign.clk.almLow = s.clk.almLow := by
  simp only [State.updMisalign, State.when]; split <;> simp
@[simp] theorem State.updMisalign_clk_disagree (s : State) : s.updMisalign.clk.disagree = s.clk.disagree := by
  simp only [State.updMisalign, State.when]; split <;> simp
@[simp] theorem State.updMisalign_clk_lockedRef (s : State) : s.updMisalign.clk.lockedRef = s.clk.lockedRef := by
  simp only [State.updMisalign, State.when]; split <;> simp
@[simp] theorem State.updMisalign_clk_switchFrom (s : State) : s.updMisalign.clk.switchFrom = s.clk.switchFrom := by
  simp only [State.updMisalign, State.when]; split <;> simp
@[simp] theorem State.updMisalign_clk_mclkOn (s : State) : s.updMisalign.clk.mclkOn = s.clk.mclkOn := by
  simp only [State.updMisalign, State.when]; split <;> simp
@[simp] theorem State.advance_variant (s : State) (dt : Nat) : (s.advance dt).variant = s.variant := by
  simp only [State.advance, State.updMisalign_variant, State.when]; split <;> simp
@[simp] theorem State.advance_mem (s : State) (dt : Nat) : (s.advance dt).mem = s.mem := by
  simp only [State.advance, State.updMisalign_mem, State.when]; split <;> simp
@[simp] theorem State.advance_freeCtr (s : State) (dt : Nat) : (s.advance dt).freeCtr = s.freeCtr := by
  simp only [State.advance, State.updMisalign_freeCtr, State.when]; split <;> simp
@[simp] theorem State.advance_resp (s : State) (dt : Nat) : (s.advance dt).resp = s.resp := by
  simp only [State.advance, State.updMisalign_resp, State.when]; split <;> simp
@[simp] theorem State.advance_hmq (s : State) (dt : Nat) : (s.advance dt).hmq = s.hmq := by
  simp only [State.advance, State.updMisalign_hmq, State.when]; split <;> simp
@[simp] theorem State.advance_pwr (s : State) (dt : Nat) : (s.advance dt).pwr = s.pwr := by
  simp only [State.advance, State.updMisalign_pwr, State.when]; split <;> simp
@[simp] theorem State.advance_ring (s : State) (dt : Nat) : (s.advance dt).ring = s.ring := by
  simp only [State.advance, State.updMisalign_ring, State.when]; split <;> simp
@[simp] theorem State.advance_strm (s : State) (dt : Nat) : (s.advance dt).strm = s.strm := by
  simp only [State.advance, State.updMisalign_strm, State.when]; split <;> simp
@[simp] theorem State.advance_play (s : State) (dt : Nat) : (s.advance dt).play = s.play := by
  simp only [State.advance, State.updMisalign_play, State.when]; split <;> simp
@[simp] theorem State.advance_eng (s : State) (dt : Nat) : (s.advance dt).eng = s.eng := by
  simp only [State.advance, State.updMisalign_eng, State.when]; split <;> simp
@[simp] theorem State.advance_xpt (s : State) (dt : Nat) : (s.advance dt).xpt = s.xpt := by
  simp only [State.advance, State.updMisalign_xpt, State.when]; split <;> simp
@[simp] theorem State.advance_tdm (s : State) (dt : Nat) : (s.advance dt).tdm = s.tdm := by
  simp only [State.advance, State.updMisalign_tdm, State.when]; split <;> simp
@[simp] theorem State.advance_proof (s : State) (dt : Nat) : (s.advance dt).proof = s.proof := by
  simp only [State.advance, State.updMisalign_proof, State.when]; split <;> simp
@[simp] theorem State.advance_splice (s : State) (dt : Nat) : (s.advance dt).splice = s.splice := by
  simp only [State.advance, State.updMisalign_splice, State.when]; split <;> simp
@[simp] theorem State.advance_test (s : State) (dt : Nat) : (s.advance dt).test = s.test := by
  simp only [State.advance, State.updMisalign_test, State.when]; split <;> simp
@[simp] theorem State.advance_scp (s : State) (dt : Nat) : (s.advance dt).scp = s.scp := by
  simp only [State.advance, State.updMisalign_scp, State.when]; split <;> simp
@[simp] theorem State.advance_msix (s : State) (dt : Nat) : (s.advance dt).msix = s.msix := by
  simp only [State.advance, State.updMisalign_msix, State.when]; split <;> simp
@[simp] theorem State.advance_bus (s : State) (dt : Nat) : (s.advance dt).bus = s.bus := by
  simp only [State.advance, State.updMisalign_bus, State.when]; split <;> simp
@[simp] theorem State.advance_out (s : State) (dt : Nat) : (s.advance dt).out = s.out := by
  simp only [State.advance, State.updMisalign_out, State.when]; split <;> simp
@[simp] theorem State.advance_pending (s : State) (dt : Nat) : (s.advance dt).pending = s.pending := by
  simp only [State.advance, State.updMisalign_pending, State.when]; split <;> simp
@[simp] theorem State.advance_clk_refs (s : State) (dt : Nat) : (s.advance dt).clk.refs = s.clk.refs := by
  simp only [State.advance, State.updMisalign_clk_refs, State.when]; split <;> simp
@[simp] theorem State.advance_clk_running (s : State) (dt : Nat) : (s.advance dt).clk.running = s.clk.running := by
  simp only [State.advance, State.updMisalign_clk_running, State.when]; split <;> simp
@[simp] theorem State.advance_clk_lastEf (s : State) (dt : Nat) : (s.advance dt).clk.lastEf = s.clk.lastEf := by
  simp only [State.advance, State.updMisalign_clk_lastEf, State.when]; split <;> simp
@[simp] theorem State.advance_clk_hoFreq (s : State) (dt : Nat) : (s.advance dt).clk.hoFreq = s.clk.hoFreq := by
  simp only [State.advance, State.updMisalign_clk_hoFreq, State.when]; split <;> simp
@[simp] theorem State.advance_clk_awaitPhi (s : State) (dt : Nat) : (s.advance dt).clk.awaitPhi = s.clk.awaitPhi := by
  simp only [State.advance, State.updMisalign_clk_awaitPhi, State.when]; split <;> simp
@[simp] theorem State.advance_clk_realign (s : State) (dt : Nat) : (s.advance dt).clk.realign = s.clk.realign := by
  simp only [State.advance, State.updMisalign_clk_realign, State.when]; split <;> simp
@[simp] theorem State.advance_clk_almLow (s : State) (dt : Nat) : (s.advance dt).clk.almLow = s.clk.almLow := by
  simp only [State.advance, State.updMisalign_clk_almLow, State.when]; split <;> simp
@[simp] theorem State.advance_clk_disagree (s : State) (dt : Nat) : (s.advance dt).clk.disagree = s.clk.disagree := by
  simp only [State.advance, State.updMisalign_clk_disagree, State.when]; split <;> simp
@[simp] theorem State.advance_clk_lockedRef (s : State) (dt : Nat) : (s.advance dt).clk.lockedRef = s.clk.lockedRef := by
  simp only [State.advance, State.updMisalign_clk_lockedRef, State.when]; split <;> simp
@[simp] theorem State.advance_clk_switchFrom (s : State) (dt : Nat) : (s.advance dt).clk.switchFrom = s.clk.switchFrom := by
  simp only [State.advance, State.updMisalign_clk_switchFrom, State.when]; split <;> simp
@[simp] theorem State.advance_clk_mclkOn (s : State) (dt : Nat) : (s.advance dt).clk.mclkOn = s.clk.mclkOn := by
  simp only [State.advance, State.updMisalign_clk_mclkOn, State.when]; split <;> simp

/-- The DPLL count advances by the time elapsed (R72). -/
@[simp] theorem State.advance_up (s : State) (dt : Nat) : (s.advance dt).time.up = s.time.up + dt := by
  simp only [State.advance, State.updMisalign_time, State.when]; split <;> simp

end Sys2Proof.Machine
end

