-- ==== Sys2Proof/Laws/Power.lean ====
section
/-! SUPPORT. RESET (R14, R558): what the registers hold after it. -/

namespace Sys2Proof.Machine

@[simp] theorem State.tearSave_variant (s : State) : s.tearSave.variant = s.variant := by
  simp only [State.tearSave]; split
  · rfl
  · simp only [State.putSlot, State.updMgmt_variant, State.free_variant]

theorem State.tearSave_regs (s : State) : s.tearSave.regs = s.regs := by
  simp only [State.tearSave]; split
  · rfl
  · simp only [State.putSlot, State.updMgmt_regs, State.free_regs]

@[simp] theorem State.tearSave_pwr (s : State) : s.tearSave.pwr = s.pwr := by
  simp only [State.tearSave]; split
  · rfl
  · simp only [State.putSlot, State.updMgmt_pwr, State.free_pwr]

@[simp] theorem State.tearKey_variant (s : State) : s.tearKey.variant = s.variant := by
  simp only [State.tearKey]; split
  · rfl
  · simp only [State.updMgmt_variant, State.free_variant]

theorem State.tearKey_regs (s : State) : s.tearKey.regs = s.regs := by
  simp only [State.tearKey]; split
  · rfl
  · simp only [State.updMgmt_regs, State.free_regs]

@[simp] theorem State.tearKey_pwr (s : State) : s.tearKey.pwr = s.pwr := by
  simp only [State.tearKey]; split
  · rfl
  · simp only [State.updMgmt_pwr, State.free_pwr]

@[simp] theorem State.enterReset_variant (s : State) (c w : Nat) : (s.enterReset c w).variant = s.variant := by
  simp only [State.enterReset]; split <;> simp

/-- A state whose registers are some of another's reads those as they were, and every other register as at reset. -/
theorem State.reg_of_filter {s t : State} (p : Nat → Bool) (hv : t.variant = s.variant) (h : t.regs = s.regs.filter (fun c => p c.1))
    (a : Nat) : t.reg a = if p a then s.reg a else resetWord s.variant a := by
  unfold State.reg
  rw [h, Sparse.find_filter, hv]
  split <;> rfl

/-- The registers that RESET gives values of its own. -/
def resetRegs : List Nat := [A.SYS_MOD_STATE, A.PWR_UNIT_STATUS, A.RING_BYPASS_STATUS]

/-- RESET puts every register to its reset value, but for what shows the power inputs and the sensors. -/
theorem State.reg_enterReset (s : State) (c w : Nat) {a : Nat} (h : a ∉ resetRegs) (he : a ≠ A.MGMT_EVT) :
    (s.enterReset c w).reg a = if resetKeeps a then s.reg a else resetWord s.variant a := by
  simp only [resetRegs, List.mem_cons, List.not_mem_nil, or_false, not_or] at h
  obtain ⟨h1, h2, h3⟩ := h
  have hl : (s.log 0 1 0 [s.modState, stReset, c]).reg a = s.reg a := State.reg_log_ne _ _ _ _ _ he
  rw [← hl]
  simp only [State.enterReset]
  split
  all_goals
    first
    | rw [State.reg_set_ne _ _ _ h2, State.reg_wr_ne _ _ h2, State.reg_set_ne _ _ _ h1]
    | rw [State.reg_set_ne _ _ _ h3, State.reg_set_ne _ _ _ h2, State.reg_wr_ne _ _ h2, State.reg_set_ne _ _ _ h1]
    rw [State.reg_of_filter (s := s.log 0 1 0 [s.modState, stReset, c]) resetKeeps (by simp) ?_ a]
    · simp
    · simp only [State.updMgmt_regs, State.tearKey_regs, State.tearSave_regs]

/-- RESET is the module's state, entered for the cause given. -/
theorem State.modState_enterReset (s : State) (c w : Nat) : (s.enterReset c w).modState = stReset := by
  have key : ∀ t : State, t.reg A.SYS_MOD_STATE = resetWord s.variant A.SYS_MOD_STATE →
      t.variant = s.variant → (t.set F.SYS_MOD_STATE_LAST_CAUSE c).modState = stReset := fun t ht hv => by
    unfold State.modState
    rw [State.fld_set_free _ (by decide)]
    unfold State.fld State.rd
    rw [ht]
    cases s.variant <;> decide
  simp only [State.enterReset]
  split
  all_goals
    unfold State.modState at *
    simp only [State.fld_set_ne _ _ (show F.SYS_MOD_STATE_STATE.adr ≠ F.RING_BYPASS_STATUS_STATE.adr by decide),
      State.fld_set_ne _ _ (show F.SYS_MOD_STATE_STATE.adr ≠ F.PWR_UNIT_STATUS_FAILED.adr by decide)]
    rw [State.fld_eq_of_reg (State.reg_wr_ne _ _ (by decide))]
    apply key
    · rw [State.reg_of_filter (s := s.log 0 1 0 [s.fld F.SYS_MOD_STATE_STATE, stReset, c]) resetKeeps (by simp) ?_]
      · rw [if_neg (by decide)]; simp
      · simp only [State.updMgmt_regs, State.tearKey_regs, State.tearSave_regs]
    · simp

/-- LAST_CAUSE after RESET is the cause it was entered for. -/
theorem State.lastCause_enterReset (s : State) (c w : Nat) : (s.enterReset c w).fld F.SYS_MOD_STATE_LAST_CAUSE = c % 16 := by
  simp only [State.enterReset]
  split
  all_goals
    simp only [State.fld_set_ne _ _ (show F.SYS_MOD_STATE_LAST_CAUSE.adr ≠ F.RING_BYPASS_STATUS_STATE.adr by decide),
      State.fld_set_ne _ _ (show F.SYS_MOD_STATE_LAST_CAUSE.adr ≠ F.PWR_UNIT_STATUS_FAILED.adr by decide)]
    rw [State.fld_eq_of_reg (State.reg_wr_ne _ _ (by decide)), State.fld_set_same _ (by decide)]
    rfl

/-- After RESET only U0 has power, and retired units show as failed. -/
theorem State.units_enterReset (s : State) (c w : Nat) :
    (s.enterReset c w).fld F.PWR_UNIT_STATUS_POWERED = 1 ∧
      (s.enterReset c w).fld F.PWR_UNIT_STATUS_FAILED = s.pwr.retiredUnits % 2 ^ 15 := by
  simp only [State.enterReset]
  split
  all_goals
    try simp only [State.fld_set_ne _ _ (show F.PWR_UNIT_STATUS_POWERED.adr ≠ F.RING_BYPASS_STATUS_STATE.adr by decide),
      State.fld_set_ne _ _ (show F.PWR_UNIT_STATUS_FAILED.adr ≠ F.RING_BYPASS_STATUS_STATE.adr by decide)]
    refine ⟨?_, ?_⟩
    · rw [State.fld_set_free _ (by decide)]
      unfold State.fld
      rw [State.rd_wr_same]; decide
    · rw [State.fld_set_same _ (by decide)]
      simp [Fld.width]

/-- After RESET the bypass is closed, or on its way there (R15, R39). -/
theorem State.bypass_enterReset (s : State) (c w : Nat) :
    (s.enterReset c w).fld F.RING_BYPASS_STATUS_STATE = if s.fld F.RING_BYPASS_STATUS_STATE = 0 then 0 else 3 := by
  simp only [State.enterReset]
  by_cases hb : s.fld F.RING_BYPASS_STATUS_STATE = 0
  · rw [if_pos hb, if_pos hb, State.fld_set_ne _ _ (by decide), State.fld_eq_of_reg (State.reg_wr_ne _ _ (by decide)),
      State.fld_set_ne _ _ (by decide)]
    unfold State.fld State.rd
    rw [State.reg_of_filter (s := s.log 0 1 0 [s.modState, stReset, c]) resetKeeps (by simp) ?_]
    · rw [if_neg (by decide), State.log_variant]
      cases s.variant <;> decide
    · simp only [State.updMgmt_regs, State.tearKey_regs, State.tearSave_regs]
  · rw [if_neg hb, if_neg hb, State.fld_set_same _ (by decide)]
    rfl

end Sys2Proof.Machine
end

