-- ==== Sys2Proof/Tests/Slice0.lean ====
section
/-! SUPPORT. Tests: the check of a command's objects, words written out from the encoding tables, small steps with results from the
spec's own examples, and one witness theorem for each statement that has hypotheses, with a state and operands for each clause. -/

open Sys2Proof Sys2Proof.Machine

namespace Sys2Proof.Tests

set_option maxRecDepth 40000
set_option synthInstance.maxSize 4000
set_option Elab.async false

/-! ### States -/

def ready0 : State := (State.reset.set F.PWR_UNIT_STATUS_POWERED 0x7FFF).set F.SYS_MOD_STATE_STATE 3
/-- READY with every unit on. -/
def base : State := { ready0 with mgmt.started := true, mgmt.imageCert := true, pwr.powered := true, pwr.fwVerified := true, pwr.cfgLoaded := true, test.startup := true, test.startupDone := true }
/-- RUN. -/
def run : State := { base.set F.SYS_MOD_STATE_STATE 4 with pwr.trig := true, play.running := true, clk.running := true }
def scpMsg0 : ScpMsg := ⟨1, false, [], none, true, 0, none, 5, 7, 1, 0, 0⟩
def sess0 : Session := ⟨7, 5, true, 0, 1, [], 0, none, [], none, 0, List.replicate 32 9⟩

/-- A message with its right tag. -/
def sign (m : ScpMsg) (k : List Nat) (code : Nat) (payload : List Nat) : ScpMsg :=
  { m with tag := (hmac k (scpBytes m code payload)).take 16 }

theorem sign_signed (m : ScpMsg) (k : List Nat) (code : Nat) (payload : List Nat) :
    scpSigned (sign m k code payload) k code payload = true := by
  simp [scpSigned, sign, scpBytes]
def sf0 : SpliceFrame := ⟨true, 0, 0, 0, 0, 0, 0, false, false, none, [], [], 0⟩
def frame0 : Frame := ⟨0x10, 0x20, 0, 0, 0, 0, false, none, none, 100, true, false, 0, .data, []⟩
def comp0 : Comp := ⟨0, 0, false, 0, 0, 0, [], 0⟩
def heldMsg0 : HeldMsg := ⟨0, 0, [1,2,3,4], 4, 0, true⟩
def msg0 : Msg := ⟨0, 0, 1, 0, 0, 0, []⟩
def hold0 : Hold := ⟨0, 0, 0, 0, 0, 0⟩
def scpCmd0 : ScpCmd := ⟨7, 1, 0, 5, 0, 0, 0, .claim, none⟩
def egFrame0 : EgFrame := ⟨frame0, 0, false, false, none, 0, 0, none, false, false, none⟩
def pkt0 : Pkt := ⟨0, 0, 0, 0, []⟩
def fields0 : Fields := ⟨.always, 0, 0, 0, 0⟩
def xfer0 : Xfer := ⟨0, 0, 0, false, []⟩
def posted0 : Posted := ⟨0, 0, 0, .mp, true⟩
def reply0 : ScpReply := ⟨0, 0, 0, 0, []⟩
def rword (seed k : Nat) : Word :=
  let x := (seed * 7919 + k + 1) * 2654435761 % 2^32
  let x := (x ^^^ (x >>> 13)) * 1540483477 % 2^32
  BitVec.ofNat 32 ([x, x % 40, 0x80000000, 0x7FFFFFFF, 0xFFFFFFFF, 0, x, 0x40000000 + x % 5].getD ((x / 7 + k * seed) % 8) 0)
def acc0 (seed k : Nat) : BitVec 72 := BitVec.ofNat 72 (if seed % 3 = 0 then 2^71 - 1 - k else if seed % 3 = 1 then 2^72 - (rword seed k).toNat * 2^20 else (rword seed k).toNat * 2^31)
def regs0 (seed : Nat) : Regs := ⟨(List.range 32).map (rword seed), (List.range 8).map (rword (seed+1)), (List.range 4).map (acc0 seed), (List.range 4).map (fun k => (seed + k) % 2 == 0), [0,0], 0⟩
def acs (seed : Nat) (sl : Slot) : State := { run.set (F.ENG_DESC_W2_IMEM_LEN 0) 100 with eng.cores := updAt run.eng.cores 0 fun k => { k with
   regs := regs0 seed, prog := some 0, pc := 0, half := if sl = .s then none else some ⟨regs0 seed, [], 0, .seq⟩ } }
def tdmS : Word := 0x80283000
def tdmM : Word := 0xC0283000
def unconf : State := { State.reset with pwr.fwVerified := true, pwr.powered := true }
def okRun : State := { base with regs := base.regs } |>.set (F.ENG_CORE_STATUS_STATE 0) 3
def act6 : State := (base.set (F.TBL_LAY_W2_ACTIVE 0) 1).set (F.TBL_LAY_W0_CLASS 0) 6
def vlan5 (s : State) : State := s.wr (A.RING_VLAN 0) 0x80000005
def noAlm (s : State) : State := s.set F.CLK_REF_STATUS_STATE 2
def acm (seed : Nat) (sl : Slot) : State :=
  let s := acs seed sl
  let s := (s.set (F.ENG_DESC_W4_SCRATCH_LEN 0) 0x4000).set (F.ENG_DESC_W3_STATE_LEN 0) 0x4000
  let s := s.set (F.ENG_DESC_W3_STATE_BASE 0) 0x8000
  let s := (((s.set (F.ENG_DESC_W6_DLY_COUNT 0) 4).set (F.TBL_DLINE_W0_EN 1) 1).set (F.TBL_DLINE_W1_LEN 1) 9600).set (F.TBL_DLINE_W2_ALLOC 1) 16384
  let s := (s.set (F.ENG_DESC_W5_OUT_FIRST 0) 0).set (F.ENG_DESC_W5_OUT_COUNT 0) 100
  let s := [(0x100,0x11223384),(0x104,0xdeadbeef),(0x108,77),(0x110,99)].foldl (fun s (a, v) => s.putMemWord (coreAdr 0 a) v) s
  { s with eng.comp := some comp0, eng.cores := updAt s.eng.cores 0 fun k => { k with regs.p := List.replicate 8 0x100 } }
def mkImg (s : State) : List Word :=
  let desc : List Word := [0x80000040, 0, 0x00010001, 0, 0, 0, 0, 0xFFFF0000]
  let code : List Word := [0, 0]
  let cyc : Word := 100
  let rate : Nat := s.fld F.CLK_MEDIA_CFG_RATE
  let mk (span : Nat) : List Word :=
    let c0 : List Word := [BitVec.ofNat 32 (s.variant.pick 0x400 0x200 0x100 * 65536 + 1), 750000, 1, BitVec.ofNat 32 rate, 0, BitVec.ofNat 32 span, BitVec.ofNat 32 ((span + 999) / 1000 * 1000), cyc]
    let cert := c0 ++ [crc32c (c0 ++ code)]
    let body : List Word := [0x10000, 9] ++ cert ++ [0x20000, 8] ++ desc ++ [0x30000, 2] ++ code
    let img : List Word := [0x494E4C5A, 0x10000, BitVec.ofNat 32 (8 + body.length), 0x77, 3, 0, 0, 0] ++ body
    setAt img 5 (crc32c img)
  let b := (rateBlockOf (imgCert (mk 0)) rate).getD []
  mk (s.spanOf (blockSlot b) (blockXptNs b) (s.imgPProgs (mk 0) b))
def img0 : List Word := mkImg base
def blk0 : List Word := (rateBlockOf (imgCert img0) (base.fld F.CLK_MEDIA_CFG_RATE)).getD []
def okCores (s : State) : State := (List.range 16).foldl (fun s c => s.set (F.ENG_CORE_STATUS_STATE c) 3) s
def due (tod kind src : Nat) (s : State) : State :=
  ((((s.set (F.TBL_SCHED_W0_EN 0) 1).set (F.TBL_SCHED_W0_DAYS 0) 0x7F).set (F.TBL_SCHED_W0_TOD 0) tod).set (F.TBL_SCHED_W0_KIND 0) kind).set F.MGMT_RTC_STATUS_SRC src
def snap0 : Snap := ⟨[], [], [], [], [], []⟩
/-- The state with a register planted as given: the factory constants of Config are open. -/
def plant (a : Nat) (w : Word) (s : State) : State := { s with regs := Sparse.put 0 s.regs a w }

/-! ### A command's objects -/

/-- One command for each check of WellFormed, naming the last object of its kind that a JK-256 has. -/
theorem test_wellFormed_accepts :
    ([.unitPowerGood 8, .qbvEntryWrite 255 [], .tpoPeriodicEdge 3, .listenerEntryWrite 63 0 [], .layIdle 15 0, .forcedHalt 3, .nop 3 .s,
      .crosspointWrite 4095 0 [], .tdmNoClock 1, .supervisionLoss 63, .pathResultTimeout 127, .hmqMessageComplete 3, .softRetry 12]
      : List Instr).all (fun c => c.wellFormed .jk256) = true := by decide +kernel

/-- The next object of each kind. -/
theorem test_wellFormed_refuses :
    ([.unitPowerGood 9, .qbvEntryWrite 256 [], .tpoPeriodicEdge 4, .listenerEntryWrite 64 0 [], .layIdle 16 0, .forcedHalt 4, .nop 4 .s,
      .crosspointWrite 4096 0 [], .tdmNoClock 2, .supervisionLoss 64, .pathResultTimeout 128, .hmqMessageComplete 4, .softRetry 13]
      : List Instr).all (fun c => !c.wellFormed .jk256) = true := by decide +kernel

/-! ### Words written out from the encoding tables (R248 to R275) -/

theorem test_word_alu : decodeWord 0 .s 0b000001_0000_00011_00001_00010_0000001 = some (.sub 0 .s .always 3 1 2) := by decide +kernel
theorem test_word_addi : decodeWord 0 .m 0b000010_1101_00011_00001_111111111110 = some (.addi 0 .m (.on true 1) 3 1 0xFFE) := by decide +kernel
theorem test_word_shift : decodeWord 0 .s 0b000110_0000_00111_00101_100000010001 = some (.sari 0 .s .always 7 5 17) := by decide +kernel
theorem test_word_movi : decodeWord 0 .m 0b001000_1000_11111_10000000000000001 = some (.movi 0 .m (.on false 0) 31 0x10001) := by decide +kernel
theorem test_word_movhi : decodeWord 0 .s 0b001001_0000_00001_01010101010101010 = some (.movhi 0 .always 1 0xAAAA) := by decide +kernel
theorem test_word_mov : decodeWord 0 .s 0b001010_0000_00100_00110_00000_0000001 = some (.movDP 0 .always 4 6) := by decide +kernel
theorem test_word_padd : decodeWord 0 .s 0b001011_0000_00101_00010_100000000000 = some (.padd 0 .always 5 2 0x800) := by decide +kernel
theorem test_word_cmp : decodeWord 0 .s 0b001100_0000_00010_01001_01010_0000011 = some (.cmp 0 .always .le 2 9 10) := by decide +kernel
theorem test_word_cmpi : decodeWord 0 .s 0b001101_0000_11_100_01001_000000000101 = some (.cmpi 0 .always .ltu 3 9 5) := by decide +kernel
theorem test_word_predicate : decodeWord 0 .s 0b001110_0000_00001_00010_00011_0000011 = some (.pandn 0 .always 1 2 3) := by decide +kernel
theorem test_word_sel : decodeWord 0 .m 0b001111_0000_01000_01001_01010_0000010 = some (.sel 0 .m .always 8 2 9 10) := by decide +kernel
theorem test_word_load : decodeWord 0 .s 0b010000_0000_01100_01_011_111111111100 = some (.ldW 0 .always true 12 3 0xFFC .clean) := by decide +kernel
theorem test_word_store : decodeWord 0 .s 0b010011_0000_01100_00_011_000000000010 = some (.stH 0 .always false 12 3 2 .clean) := by decide +kernel
theorem test_word_bus : decodeWord 0 .s 0b010100_0000_01100_00_111_00000_000_11_10 = some (.busLd 0 .always 12 7 3 2) := by decide +kernel
theorem test_word_delay : decodeWord 0 .s 0b010110_0000_00101_01101_00_010_0000000 = some (.dlyRd 0 .always 2 5 13) := by decide +kernel
theorem test_word_table : decodeWord 0 .s 0b011001_0000_01100_01101_00000_0000000 = some (.tblLd 0 .always 12 13) := by decide +kernel
theorem test_word_ctl : decodeWord 0 .s 0b011010_0000_00010_01100_01101_0000000 = some (.ctlWr 0 .always 2 12 13) := by decide +kernel
theorem test_word_msg : decodeWord 0 .s 0b011011_0000_01_110_01000_0000000101_00 = some (.msgPush 0 .always 1 6 8 5) := by decide +kernel
theorem test_word_br : decodeWord 0 .s 0b100000_1110_00000_0000_0000000000111 = some (.br 0 (.on true 2) 7) := by decide +kernel
theorem test_word_multiply : decodeWord 0 .m 0b100100_0000_00011_00001_00010_0000011 = some (.mulhI 0 .always 3 1 2) := by decide +kernel
theorem test_word_mac : decodeWord 0 .m 0b100101_0000_00011_00001_00010_0000100 = some (.macQ30 0 .always 3 1 2) := by decide +kernel
theorem test_word_acc : decodeWord 0 .m 0b100110_0000_01001_00011_00000_0010101 = some (.accRdQ31 0 .always 9 3 5) := by decide +kernel
theorem test_word_saturating : decodeWord 0 .m 0b100111_0000_00011_00001_00000_0111111 = some (.shlS 0 .always 3 1 31) := by decide +kernel
theorem test_word_simd : decodeWord 0 .m 0b101000_0000_00011_00001_00010_0000110 = some (.packHh 0 .always 3 1 2) := by decide +kernel
theorem test_word_sine : decodeWord 0 .m 0b101001_0000_00011_00001_00000_0000001 = some (.cosQ31 0 .always 3 1) := by decide +kernel
theorem test_word_loopI : decodeWord 0 .s 0b111000_1_000000000011_00000101_00000 = some (.loopI 0 1 3 5) := by decide +kernel
theorem test_word_loopR : decodeWord 0 .s 0b111001_0_01010_000000000100_00000110 = some (.loopR 0 0 10 4 6) := by decide +kernel
theorem test_word_wrong_slot : decodeWord 0 .s 0b100100_0000_00011_00001_00010_0000011 = none := by decide +kernel
theorem test_word_reserved : decodeWord 0 .s 0b000001_0000_00011_00001_00010_0001101 = none := by decide +kernel

/-! ### Small steps -/

/-- What a step's next state shows; the value given where the step stops. -/
def after {α : Type} (o : Host.Outcome State Fault Refusal) (d : α) (f : State → α) : α :=
  match o with
  | .next t => f t
  | _ => d

/-- Core 0 with d1 and d2 as given and every other register zero. -/
def two (a b : Word) : State :=
  { acs 1 .m with eng.cores := updAt (acs 1 .m).eng.cores 0 fun k =>
      let r : Regs := ⟨[0, a, b] ++ List.replicate 29 0, List.replicate 8 0, List.replicate 4 0, List.replicate 4 false, [0, 0], 0⟩
      { k with regs := r, half := some ⟨r, [], 0, .seq⟩ } }
def d3 (o : Host.Outcome State Fault Refusal) : Word × Nat := after o (0, 99) fun t => ((t.core 0).regs.dv 3, (t.core 0).regs.sf % 2)

/-- The two results that stand under R246. -/
theorem test_mulQ31_example : d3 (exec (.mulQ31 0 .always 3 1 2) (two 0x40000000 0x40000000)) = (0x20000000, 0) := by decide +kernel
theorem test_mulQ30_example : d3 (exec (.mulQ30 0 .always 3 1 2) (two 0x60000000 0x60000000)) = (0x7FFFFFFF, 1) := by decide +kernel
/-- R257: −1 gives 0x7FFF_FFFF. -/
theorem test_negS_example : (d3 (exec (.negS 0 .always 3 1) (two 0x80000000 0))).1 = 0x7FFFFFFF := by decide +kernel
/-- R245: exactly half a step below zero rounds to zero. -/
theorem test_round_half_up : (d3 (exec (.mulQ31 0 .always 3 1 2) (two 0xFFFFFFFF 0x40000000))).1 = 0 := by decide +kernel
/-- The published vectors of SHA-256 ("abc", FIPS 180) and of HMAC-SHA-256 (RFC 4231, case 1). -/
theorem test_sha256_abc : (sha256 [97, 98, 99]).take 8 = [0xBA, 0x78, 0x16, 0xBF, 0x8F, 0x01, 0xCF, 0xEA] := by decide +kernel
theorem test_hmac_vector : (hmac (List.replicate 20 0x0B) [72, 105, 32, 84, 104, 101, 114, 101]).take 8 =
    [0xB0, 0x34, 0x4C, 0x61, 0xD8, 0xDB, 0x38, 0x53] := by decide +kernel

/-- R268: W0 of lay 5 stands at 0x10_80A0 and W2 at 0x10_80A8. -/
theorem test_lay_addresses : A.TBL_LAY_W0 5 = 0x1080A0 ∧ A.TBL_LAY_W2 5 = 0x1080A8 := by decide +kernel
/-- R498: class 8 is recorded as the grant. -/
theorem test_pd_grant : after (exec (.pdClassification .b 8) base) 0 (fun t => t.grant 1) = 8 := by decide +kernel
/-- A command in front of the queue runs and leaves it. -/
theorem test_step_runs :
    after (step { base with pending := [.pdClassification .b 8, .powerOn none] }) ([], 0) (fun t => (t.pending, t.grant 1)) =
      ([.powerOn none], 8) := by decide +kernel
/-- A command that names an absent core stops. -/
theorem test_absent_core : exec (.forcedHalt 16) State.reset = .fault .absentObject := rfl

/-! ### Witnesses of the statements' hypotheses -/

theorem witness_StepRunsTheFrontCommand :
    { base with pending := [.limitedRetrainTimer] }.pending = .limitedRetrainTimer :: [] ∧ State.reset.pending = [] := by decide +kernel

theorem witness_CommandsComplete :
    (Instr.nop 15 .s).wellFormed base.variant = true ∧ (Instr.nop 16 .s).wellFormed base.variant = false := by decide +kernel

/-- A state that meets every invariant, with one command waiting that answers a next state. -/
def oneWaits : State := { State.reset with pending := [.pdClassification .b 8] }
theorem oneWaits_answers : ∃ t, step oneWaits = .next t := by
  have h : after (step oneWaits) false (fun _ => true) = true := by decide +kernel
  cases hs : step oneWaits with
  | next t => exact ⟨t, rfl⟩
  | fault f => rw [hs] at h; simp [after] at h
  | refused r => rw [hs] at h; simp [after] at h

theorem witness_EveryStepKeepsTheSummaries : Summed oneWaits ∧ ∃ t, step oneWaits = .next t :=
  ⟨by decide +kernel, oneWaits_answers⟩
theorem witness_EveryStepKeepsMsixServed : MsixServed oneWaits ∧ ∃ t, step oneWaits = .next t :=
  ⟨by decide +kernel, oneWaits_answers⟩
theorem witness_EveryStepKeepsTheForm : (Memory.wf oneWaits ∧ Shaped oneWaits) ∧ ∃ t, step oneWaits = .next t :=
  ⟨by decide +kernel, oneWaits_answers⟩
theorem witness_NoRunStops : QueueOk oneWaits ∧ Summed oneWaits := by decide +kernel

theorem witness_DecodeOfEncode :
    ∃ (i : Instr) (w : Nat), encodeAcson i = some w ∧ (∀ c n count, i ≠ .loopI c n count 0) ∧ ∀ c n a top, i ≠ .loopR c n a top 0 :=
  ⟨.sub 0 .s .always 3 1 2, _, rfl, fun _ _ _ h => Instr.noConfusion h, fun _ _ _ _ h => Instr.noConfusion h⟩

theorem witness_PowerInputs :
  (   let p : Port := .a
      let cls : Nat := 4
      let s : State := base.set F.PWR_STATUS_IN_USE 1
   cls ≤ 8 ∧ s.fld F.PWR_STATUS_IN_USE ≠ 3 ∧ s.fld F.PWR_STATUS_IN_USE ≠ p.idx) ∧
  (   let p : Port := .a
      let s : State := (base.set F.PWR_STATUS_IN_USE 1).set F.PWR_STATUS_GRANT_A 4
   s.fld F.PWR_STATUS_IN_USE ≠ p.idx ∧ 3 ≤ s.grant p.idx ∧ s.grant p.idx ≤ 8) ∧
  (   let p : Port := .a
      let s : State := (base.set F.PWR_STATUS_IN_USE 1).set F.PWR_STATUS_GRANT_A 4
   s.fld F.PWR_STATUS_IN_USE ≠ p.idx ∧ s.grant p.idx ≠ 15) ∧
  (   let s : State := { base with pwr.powered := true }
   s.pwr.powered = true) := by decide +kernel

theorem witness_Aux3v3 :
  (   let s : State := base.set F.PWR_STATUS_AUX_ON 1
   s.on F.PWR_STATUS_AUX_ON = true) ∧
  (   let s : State := { base with pwr.auxTimer := true }
      let s : State := (s.set F.PWR_CFG_AUX_EN 1).set F.PWR_STATUS_AUX_ON 0
   s.pwr.auxTimer = true ∧ s.on F.PWR_CFG_AUX_EN = true ∧ s.on F.PWR_STATUS_AUX_ON = false) ∧
  (   let m : Master := .mp
      let priv : Bool := true
      let s : State := (base.set F.PWR_CFG_AUX_EN 1).set F.PWR_STATUS_AUX_ON 0
   Direct s m priv A.PWR_CTL ∧ s.on F.PWR_CFG_AUX_EN = true ∧ s.on F.PWR_STATUS_AUX_ON = false) ∧
  (   let s : State := { base with pwr.auxHolding := true }
      let s : State := s.set F.PWR_STATUS_AUX_ON 1
   s.pwr.auxHolding = true ∧ s.on F.PWR_STATUS_AUX_ON = true) := by decide +kernel

theorem witness_ThermalLevels :
  (   let vals : List Int := [30, -5, 20]
      let k : Nat := 1
      let v : Int := -5
      let s : State := { base with pwr.powered := true }
   s.pwr.powered = true ∧ k < 11 ∧ vals[k]? = some v) ∧
  (   let s : State := { base with pwr.powered := true }
   s.pwr.powered = true) ∧
  (   let s : State := { base with pwr.thermal := true }
   s.pwr.thermal = true ∧ (∀ k < 5, s.on (F.MGMT_SENS_WARN k) = false)) := by decide +kernel

theorem witness_PowerOnAndLoss :
  (   let s : State := { base with pwr.powered := false }
      let s : State := { s with pwr.holdup := false }
   s.pwr.powered = false ∧ s.pwr.holdup = false) ∧
  (   let s : State := { base with pwr.powered := true }
   s.pwr.powered = true) ∧
  (   let s : State := { base with pwr.holdup := true }
      let s : State := { s with pwr.powerBack := false }
   s.pwr.holdup = true ∧ s.pwr.powerBack = false) := by decide +kernel

theorem witness_WaysIntoReset :
  (   let m : Master := .mp
      let priv : Bool := true
      let s : State := { base with pwr.powered := true }
   Direct s m priv A.PWR_CTL ∧ s.pwr.powered = true) ∧
  (   let lowNs : Nat := 12000
      let s : State := { base with pwr.powered := true }
   10000 ≤ lowNs ∧ s.pwr.powered = true) ∧
  (   let lowNs : Nat := 0
   lowNs < 1000) ∧
  (   let s : State := { base with pwr.powered := true }
   s.pwr.powered = true) := by decide +kernel

theorem witness_StartUp :
  (   let s : State := { base with pwr.powered := true }
      let s : State := { (s.set F.SYS_MOD_STATE_STATE 1) with pwr.fwVerified := false }
      let s : State := { s with pwr.thermal := false }
      let s : State := { s with mgmt.bootFailed := false }
      let s : State := { s with mgmt.fw.next := false }
      let s : State := { s with mgmt.fw.rolled := none }
   s.pwr.powered = true ∧ s.fld F.SYS_MOD_STATE_STATE = 1 ∧ s.pwr.fwVerified = false ∧ s.pwr.thermal = false ∧ s.mgmt.bootFailed
       = false ∧ s.mgmt.fw.next = false ∧ s.mgmt.fw.rolled = none ∧ s.bankOk s.mgmt.fw.dflt = true) ∧
  (   let s : State := { unconf with pwr.powered := true }
      let s : State := { (s.set F.SYS_MOD_STATE_STATE 1) with pwr.fwVerified := true }
      let s : State := { s with pwr.cfgLoaded := false }
   s.pwr.powered = true ∧ s.fld F.SYS_MOD_STATE_STATE = 1 ∧ s.pwr.fwVerified = true ∧ s.pwr.cfgLoaded = false ∧ Unconfigured s 0) ∧
  (   let s : State := { base with pwr.powered := true }
      let s : State := { (s.set F.SYS_MOD_STATE_STATE 1) with pwr.cfgLoaded := true }
      let s : State := { ((s.set F.PWR_STATUS_LOW_BUDGET 0).set F.PWR_STATUS_HOLD_ARMED 1) with pwr.stageWait := false }
      let s : State := { s with pwr.thermal := false }
      let s : State := { s with pwr.stagePermanent := false }
      let s : State := { s with test.running := none }
   s.pwr.powered = true ∧ s.fld F.SYS_MOD_STATE_STATE = 1 ∧ s.pwr.cfgLoaded = true ∧ s.on F.PWR_STATUS_LOW_BUDGET = false ∧ s.on
       F.PWR_STATUS_HOLD_ARMED = true ∧ s.pwr.stageWait = false ∧ s.pwr.thermal = false ∧ s.pwr.stagePermanent = false ∧
       s.unitStages 1 = true ∧ s.test.running = none) := by decide +kernel

theorem witness_Staging :
  (   let u : Nat := 2
      let s : State := { (unconf.set F.SYS_MOD_STATE_STATE 2) with pwr.stagingUnit := some u }
      let s : State := { s with pwr.stagePg := false }
      let s : State := { s with pwr.stageInt := false }
   hasUnit s.variant u = true ∧ s.fld F.SYS_MOD_STATE_STATE = 2 ∧ s.pwr.stagingUnit = some u ∧ s.pwr.stagePg = false ∧
       s.pwr.stageInt = false ∧ Unconfigured s u) ∧
  (   let u : Nat := 2
      let v : Nat := 7
      let s : State := { base with pwr.stagingUnit := some u }
      let s : State := { s with pwr.stagePg := true }
   s.pwr.stagingUnit = some u ∧ s.pwr.stagePg = true ∧ (unitsAfter u).find? s.unitStages = some v) ∧
  (   let u : Nat := 3
      let s : State := { (unconf.set F.SYS_MOD_STATE_STATE 2) with pwr.stagingUnit := some u }
      let s : State := { s with pwr.stagePg := false }
   hasUnit s.variant u = true ∧ s.fld F.SYS_MOD_STATE_STATE = 2 ∧ s.pwr.stagingUnit = some u ∧ s.pwr.stagePg = false ∧ u ∈ [1,
       2, 3, 7]) ∧
  (   let u : Nat := 8
      let s : State := { (unconf.set F.SYS_MOD_STATE_STATE 2) with pwr.stagingUnit := some u }
      let s : State := { s with pwr.stagePg := false }
      let s : State := { s with pwr.stageInt := false }
   hasUnit s.variant u = true ∧ s.fld F.SYS_MOD_STATE_STATE = 2 ∧ s.pwr.stagingUnit = some u ∧ s.pwr.stagePg = false ∧
       s.pwr.stageInt = false ∧ u ∉ [1, 2, 3, 7]) ∧
  (   let s : State := { base with pwr.stageWait := true }
   s.pwr.stageWait = true) ∧
  (   let u : Nat := 8
      let s : State := base
   u ≠ 0 ∧ 3 ≤ s.fld F.SYS_MOD_STATE_STATE) ∧
  (   let m : Master := .mp
      let priv : Bool := true
      let s : State := base
   Direct s m priv A.PWR_CTL) := by decide +kernel

theorem witness_ModuleCommands :
  (   let m : Master := .mp
      let priv : Bool := true
      let s : State := { (okRun.set F.SYS_MOD_STATE_STATE 3) with mgmt.imageCert := true }
   Direct s m priv A.SYS_MOD_CMD ∧ s.fld F.SYS_MOD_STATE_STATE = 3 ∧ RunFree s) ∧
  (   let m : Master := .mp
      let priv : Bool := true
      let s : State := (base.set F.SYS_MOD_STATE_STATE 1).set F.SPLICE_CFG_MODE 0
   Direct s m priv A.SYS_MOD_CMD ∧ s.fld F.SYS_MOD_STATE_STATE = 1 ∧ s.on F.SPLICE_CFG_MODE = false) ∧
  (   let m : Master := .mp
      let priv : Bool := true
      let s : State := (base.set F.SYS_MOD_STATE_STATE 4).set F.SPLICE_CFG_MODE 0
   Direct s m priv A.SYS_MOD_CMD ∧ s.fld F.SYS_MOD_STATE_STATE = 4 ∧ s.on F.SPLICE_CFG_MODE = false) ∧
  (   let m : Master := .mp
      let priv : Bool := true
      let s : State := { (base.set F.SYS_MOD_STATE_STATE 4) with test.running := none }
      let s : State := s.set F.SPLICE_CFG_MODE 0
   Direct s m priv A.SYS_MOD_CMD ∧ s.fld F.SYS_MOD_STATE_STATE = 4 ∧ s.class67 = false ∧ s.test.running = none ∧ s.on
       F.SPLICE_CFG_MODE = false) ∧
  (   let m : Master := .mp
      let priv : Bool := true
      let s : State := (act6.set F.SYS_MOD_STATE_STATE 4).set F.SPLICE_CFG_MODE 0
   Direct s m priv A.SYS_MOD_CMD ∧ s.fld F.SYS_MOD_STATE_STATE = 4 ∧ s.class67 = true ∧ s.on F.SPLICE_CFG_MODE = false) ∧
  (   let m : Master := .mp
      let priv : Bool := true
      let s : State := (base.set F.SYS_MOD_STATE_STATE 3).set F.SPLICE_CFG_MODE 0
   Direct s m priv A.SYS_MOD_CMD ∧ s.fld F.SYS_MOD_STATE_STATE = 3 ∧ s.on F.SPLICE_CFG_MODE = false) ∧
  (   let m : Master := .mp
      let priv : Bool := true
      let s : State := { (base.set F.SYS_MOD_STATE_STATE 4) with pwr.trig := true }
      let s : State := { s with test.running := none }
      let s : State := s.set F.SPLICE_CFG_MODE 0
   Direct s m priv A.SYS_MOD_CMD ∧ s.fld F.SYS_MOD_STATE_STATE = 4 ∧ s.pwr.trig = true ∧ s.test.running = none ∧ s.on
       F.SPLICE_CFG_MODE = false) ∧
  (   let m : Master := .mp
      let priv : Bool := true
      let code : Nat := 6
      let s : State := base.set F.SPLICE_CFG_MODE 0
   Direct s m priv A.SYS_MOD_CMD ∧ code ∈ [1, 2, 6, 7] ∧ s.on F.SPLICE_CFG_MODE = false) := by decide +kernel

theorem witness_StateChanges :
  (   let s : State := { (base.set F.SYS_MOD_STATE_STATE 2) with test.startupDone := true }
      let s : State := { (s.set F.SYS_MOD_STATE_CMD_PEND 0) with mgmt.settings.autoStart := false }
      let s : State := { s with test.running := none }
      let s : State := { s with test.reinit := none }
   s.fld F.SYS_MOD_STATE_STATE = 2 ∧ s.test.startupDone = true ∧ s.imageReady = true ∧ s.on F.SYS_MOD_STATE_CMD_PEND = false ∧
       s.mgmt.settings.autoStart = false ∧ s.test.running = none ∧ s.test.reinit = none) ∧
  (   let s : State := (okRun.set F.SYS_MOD_STATE_CMD_PEND 1).set F.SYS_MOD_STATE_STATE 3
   s.on F.SYS_MOD_STATE_CMD_PEND = true ∧ s.fld F.SYS_MOD_STATE_STATE = 3 ∧ s.pwr.heldCause < 16 ∧ RunFree s) ∧
  (   let s : State := { (base.set F.SYS_MOD_STATE_STATE 5) with pwr.quietEntry := true }
      let s : State := { s with pwr.trig := false }
   s.fld F.SYS_MOD_STATE_STATE = 5 ∧ s.pwr.quietEntry = true ∧ s.pwr.trig = false) ∧
  (   let s : State := { base with pwr.wake := true }
      let s : State := { s with bus.owed := [] }
   s.pwr.wake = true ∧ s.bus.owed = [] ∧ s.unitStages 12 = true ∧ s.bitOf F.PWR_UNIT_STATUS_FAILED 12 = false) := by decide +kernel

theorem witness_Links :
  (   let p : Port := .a
      let m : Master := .mp
      let priv : Bool := true
      let s : State := base
      let w : Word := s.reg (A.RING_PORT_CFG 0) ^^^ 0x10
   Direct s m priv (A.RING_PORT_CFG p.idx) ∧ AsItReads s (A.RING_PORT_CFG p.idx) w ∧ s.reg (A.RING_PORT_CFG p.idx) ≠ w ∧
       (F.RING_PORT_CFG_RATE_ADV p.idx).of w.toNat &&& s.rateBits p.idx ≠ s.fld (F.RING_PORT_CFG_RATE_ADV p.idx)) ∧
  (   let p : Port := .a
      let s : State := base
   (s.rp p.idx).fails < 2) ∧
  (   let p : Port := .a
      let s : State := base
      let s : State := { s with ring.ports := updAt s.ring.ports p.idx fun k => { k with fails := 2 } }
   2 ≤ (s.rp p.idx).fails ∧ p.idx < s.ring.ports.length) ∧
  (   let p : Port := .a
      let rate : Nat := 3
      let s : State := ((base.set (F.RING_PORT_STATUS_LINK p.idx) 0).set F.RING_BYPASS_STATUS_STATE 2).set (F.RING_PORT_CFG_ENABLE 0) 1
   s.linkUp p.idx = false ∧ s.portMayLink p.idx = true ∧ (s.advertised p.idx).testBit (rateBit p.idx rate) = true ∧ 1 ≤ rate ∧
       rate ≤ 5) ∧
  (   let p : Port := .a
      let s : State := base.set (F.RING_PORT_STATUS_LINK p.idx) 1
      let s : State := { s with ring.ports := updAt s.ring.ports p.idx fun k => { k with fails := 0 } }
   s.linkUp p.idx = true) ∧
  (   let p : Nat := 0
      let s : State := { base with pwr.limitedTimer := true }
      let s : State := (s.set (F.RING_PORT_STATUS_RATE 0) 5).set (F.RING_PORT_STATUS_LINK 0) 1
   p < 2 ∧ s.pwr.limitedTimer = true ∧ 2500 < s.linkMbps p) ∧
  (   let p : Port := .a
      let mmd : Nat := 1
      let reg : Nat := 7
      let s : State := base
   s.unitOn (4 + p.idx) = true ∧ (mmd = 1 ∨ mmd = 3) ∧ 0 < reg ∧ reg < 65536) := by decide +kernel

theorem witness_HoldDown :
  (   let p : Port := .a
      let dt : Nat := 0
      let s : State := ((base.set (F.RING_PORT_STATUS_LINK p.idx) 1).set (F.RING_PORT_CFG_ENABLE p.idx) 1).set (F.RING_PORT_STATUS_HELD p.idx) 0
      let s : State := { s with ring.ports := updAt s.ring.ports p.idx fun k => { k with flaps := [s.time.up, s.time.up, s.time.up, s.time.up, s.time.up] } }
   s.linkUp p.idx = true ∧ s.on (F.RING_PORT_CFG_ENABLE p.idx) = true ∧ s.on (F.RING_PORT_STATUS_HELD p.idx) = false ∧ 5 ≤
       ((s.advance dt).recentFlaps p.idx).length ∧ p.idx < s.ring.ports.length ∧ s.fld (F.RING_FLAP_HOLD_LEVEL p.idx) ≤ 9) ∧
  (   let p : Port := .a
      let s : State := base.set (F.RING_PORT_STATUS_HELD p.idx) 1
   s.on (F.RING_PORT_STATUS_HELD p.idx) = true) ∧
  (   let p : Port := .a
      let s : State := base.set (F.RING_PORT_STATUS_LINK p.idx) 1
   s.linkUp p.idx = true) ∧
  (   let p : Port := .a
      let m : Master := .mp
      let priv : Bool := true
      let s : State := base.set (F.RING_PORT_STATUS_HELD p.idx) 1
   Direct s m priv (A.RING_FLAP p.idx) ∧ s.on (F.RING_PORT_STATUS_HELD p.idx) = true) ∧
  (   let p : Port := .a
      let s : State := (base.set (F.RING_PORT_STATUS_LINK p.idx) 1).set (F.RING_PORT_CFG_EEE_MODE p.idx) 1
   s.linkUp p.idx = true ∧ s.fld (F.RING_PORT_CFG_EEE_MODE p.idx) = 1) := by decide +kernel

theorem witness_Bypass :
  (   let m : Master := .mp
      let priv : Bool := true
      let s : State := { (base.set F.RING_BYPASS_CTL_FORCE_CLOSE 0) with test.running := none }
      let s : State := { s with test.reinit := none }
      let s : State := s.set F.RING_BYPASS_STATUS_STATE 0
   Direct s m priv A.RING_BYPASS_CTL ∧ s.on F.RING_BYPASS_CTL_FORCE_CLOSE = false ∧ s.upAndReady = true ∧ s.ringBlocked = false
       ∧ s.test.running = none ∧ s.test.reinit = none ∧ s.fld F.RING_BYPASS_STATUS_STATE = 0) ∧
  (   let m : Master := .mp
      let priv : Bool := true
      let s : State := base.set F.RING_BYPASS_CTL_FORCE_CLOSE 1
   Direct s m priv A.RING_BYPASS_CTL ∧ (s.on F.RING_BYPASS_CTL_FORCE_CLOSE = true ∨ s.upAndReady = false ∨ s.ringBlocked = true)) ∧
  (   let m : Master := .mp
      let priv : Bool := true
      let s : State := (base.set F.RING_BYPASS_CTL_FORCE_CLOSE 0).set F.RING_BYPASS_STATUS_STATE 2
   Direct s m priv A.RING_BYPASS_CTL ∧ s.on F.RING_BYPASS_CTL_FORCE_CLOSE = false ∧ (s.fld F.RING_BYPASS_STATUS_STATE = 1 ∨
       s.fld F.RING_BYPASS_STATUS_STATE = 2)) ∧
  (   let e : Nat := 5
      let s : State := { base with ring.join := .delay e }
      let s : State := { (s.set F.RING_BYPASS_CTL_FORCE_CLOSE 0) with test.running := none }
      let s : State := { s with test.reinit := none }
      let s : State := s.set F.RING_BYPASS_STATUS_STATE 0
   s.ring.join = .delay e ∧ s.on F.RING_BYPASS_CTL_FORCE_CLOSE = false ∧ s.ringBlocked = false ∧ s.upAndReady = true ∧
       s.test.running = none ∧ s.test.reinit = none ∧ s.fld F.RING_BYPASS_STATUS_STATE = 0) ∧
  (   let e : Nat := 0
      let s : State := { base with ring.join := .delay e }
      let s : State := s.set F.RING_BYPASS_CTL_FORCE_CLOSE 1
   s.ring.join = .delay e ∧ s.on F.RING_BYPASS_CTL_FORCE_CLOSE = true) ∧
  (   let s : State := base.set F.RING_BYPASS_STATUS_STATE 1
   s.fld F.RING_BYPASS_STATUS_STATE = 1) ∧
  (   let s : State := base.set F.RING_BYPASS_STATUS_STATE 3
   s.fld F.RING_BYPASS_STATUS_STATE = 3) := by decide +kernel

theorem witness_ShapingAndPause :
  (   let p : Port := .a
      let m : Master := .mp
      let priv : Bool := true
      let s : State := base
      let w : Word := s.reg (A.RING_CBS 0) ^^^ 1
   Direct s m priv (A.RING_CBS p.idx) ∧ AsItReads s (A.RING_CBS p.idx) w ∧ s.reg (A.RING_CBS p.idx) ≠ w ∧ (F.RING_CBS_IDLE5
       p.idx).of w.toNat ≤ 900) ∧
  (   let b : Bool := true
      let m : Master := .mp
      let priv : Bool := true
      let s : State := base
   Direct s m priv (A.RING_QBV_CTL b.toNat) ∧ b.toNat < s.ring.ports.length ∧ ((List.range (s.entryCount b.toNat)).map fun e =>
       s.rd (gateAdr b.toNat (1 - s.operBank b.toNat) e) % 2 ^ 24).sum ≤ 125000000) ∧
  (   let b : Bool := false
      let m : Master := .mp
      let priv : Bool := true
      let s : State := base.set (F.RING_QBV_CTL_ENTRY_COUNT 0) 9
      let s : State := (List.range 10).foldl (fun s e => s.wr (gateAdr 0 (1 - s.operBank 0) e) 0xFFFFFF) s
   Direct s m priv (A.RING_QBV_CTL b.toNat) ∧ 125000000 < ((List.range (s.entryCount b.toNat)).map fun e => s.rd (gateAdr
       b.toNat (1 - s.operBank b.toNat) e) % 2 ^ 24).sum) ∧
  (   let b : Bool := true
      let dt : Nat := 1000 * nsU
      let a : Nat := 900 * nsU
      let s : State := { base with ring.ports := updAt base.ring.ports b.toNat fun k => { k with gate.anchor := some a } }
   (s.rp b.toNat).gate.anchor = some a ∧ a ≤ (s.advance dt).time.tb ∧ b.toNat < s.ring.ports.length) ∧
  (   let b : Bool := true
      let s : State := base
      let s : State := { s with ring.ports := updAt s.ring.ports b.toNat fun k => { k with gate.running := true } }
      let s : State := { s with ring.ports := updAt s.ring.ports b.toNat fun k => { k with gate.count := 3 } }
   (s.rp b.toNat).gate.running = true ∧ (s.rp b.toNat).gate.entry + 1 < (s.rp b.toNat).gate.count ∧ b.toNat <
       s.ring.ports.length) ∧
  (   let b : Bool := true
      let s : State := base
      let s : State := { s with ring.ports := updAt s.ring.ports b.toNat fun k => { k with gate.running := true } }
      let dt : Nat := 2 * secU
   (s.rp b.toNat).gate.running = true ∧ (s.rp b.toNat).gate.cycleUp + secU ≤ s.time.up + dt ∧ b.toNat < s.ring.ports.length) ∧
  (   let k : Nat := 0
      let m : Master := .mp
      let priv : Bool := true
      let s : State := base
   k < 256 ∧ Direct s m priv (A.RING_GATE k)) ∧
  (   let m : Master := .mp
      let priv : Bool := true
      let s : State := base
      let w : Word := BitVec.ofNat 32 (F.RING_PAUSE_WM_LOW_PCT.into (F.RING_PAUSE_WM_HIGH_PCT.into (s.reg A.RING_PAUSE_WM).toNat 60) 40)
   Direct s m priv A.RING_PAUSE_WM ∧ AsItReads s A.RING_PAUSE_WM w ∧ (∀ p < 3, (s.rp p).pool = 0 ∧ (s.rp p).xoff = false) ∧ 1 ≤
       F.RING_PAUSE_WM_HIGH_PCT.of w.toNat) ∧
  (   let p : Port := .c
      let s : State := base
      let s : State := { s with ring.ports := updAt s.ring.ports p.idx fun k => { k with xoff := true } }
      let s : State := s.set (F.RING_PORT_STATUS_LINK p.idx) 1
      let s : State := { s with ring.ports := updAt s.ring.ports p.idx fun k => { k with pool := 200000 } }
      let s : State := (((s.set (F.RING_PORT_STATUS_LINK 2) 1).set (F.RING_PORT_CFG_PAUSE_EN 2) 1).set F.RING_PAUSE_WM_HIGH_PCT 60).set F.RING_PAUSE_WM_LOW_PCT 40
   (s.rp p.idx).xoff = true ∧ s.poolLow < (s.rp p.idx).pool ∧ s.pauses p.idx = true ∧ s.linkUp p.idx = true) ∧
  (   let p : Port := .a
      let s : State := base
   p.idx < s.ring.ports.length) ∧
  (   let q : Nat := 5
      let f : Frame := { frame0 with fcsOk := true }
      let f : Frame := { f with body := .pause q }
      let f : Frame := { f with dscp := 46 }
      let s : State := ((base.set (F.RING_PORT_STATUS_LINK 2) 1).set (F.RING_PORT_CFG_PAUSE_EN 2) 1).set (F.RING_PORT_STATUS_RATE 2) 5
   s.linkUp 2 = true ∧ f.body = .pause q ∧ 64 ≤ f.len ∧ f.len ≤ s.frameLimit 2 f ∧ f.fcsOk = true ∧ 4 ≤ arrivalClass 2 f ∧ s.on
       (F.RING_PORT_CFG_PAUSE_EN 2) = true ∧ 0 < s.quantaUp 2 q ∧ q ≠ 0 ∧ 2 < s.ring.ports.length) := by decide +kernel

theorem witness_Frames :
  (   let b : Bool := true
      let f : Frame := { frame0 with len := 60 }
      let s : State := base.set (F.RING_PORT_STATUS_LINK b.toNat) 1
   s.linkUp b.toNat = true ∧ f.len < 64) ∧
  (   let b : Bool := true
      let f : Frame := { frame0 with vid := 5, src := 0x100000010, rtag := some (1, 0) }
      let s : State := base.set (F.RING_PORT_STATUS_LINK b.toNat) 1
      let s : State := vlan5 s
      let s : State := plant A.SYS_MAC_LO 0x10 (plant A.SYS_MAC_HI 1 s)
   s.linkUp b.toNat = true ∧ Passes s b.toNat f ∧ Plain f ∧ s.ownMac f.src = true) ∧
  (   let seq : Nat := 0
      let hop : Nat := 0
      let b : Bool := true
      let f : Frame := { frame0 with vid := 5 }
      let f : Frame := { f with oversize := false }
      let f : Frame := { f with body := .data }
      let f : Frame := { f with rtag := some (seq, hop) }
      let s : State := (base.set (F.RING_PORT_STATUS_LINK b.toNat) 1).set (F.RING_PORT_STATUS_LINK (1 - b.toNat)) 1
      let s : State := vlan5 s
      let s : State := plant A.SYS_MAC_LO 0x10 (plant A.SYS_MAC_HI 1 s)
   Shaped s ∧ s.linkUp b.toNat = true ∧ s.linkUp (1 - b.toNat) = true ∧ Passes s b.toNat f ∧ f.oversize = false ∧ f.body = .data
       ∧ s.ownMac f.src = false ∧ f.rtag = some (seq, hop) ∧ hop + 1 < s.hopLimit) ∧
  (   let seq : Nat := 0
      let hop : Nat := 200
      let b : Bool := true
      let f : Frame := { frame0 with vid := 5 }
      let f : Frame := { f with oversize := false }
      let f : Frame := { f with body := .data }
      let f : Frame := { f with rtag := some (seq, hop) }
      let s : State := base.set (F.RING_PORT_STATUS_LINK b.toNat) 1
      let s : State := vlan5 s
      let s : State := plant A.SYS_MAC_LO 0x10 (plant A.SYS_MAC_HI 1 s)
   Shaped s ∧ s.linkUp b.toNat = true ∧ Passes s b.toNat f ∧ f.oversize = false ∧ f.body = .data ∧ s.ownMac f.src = false ∧
       f.rtag = some (seq, hop) ∧ s.hopLimit ≤ hop + 1) ∧
  (   let f : Frame := { frame0 with oversize := false }
      let f : Frame := { f with body := .data }
      let s : State := ((base.set (F.RING_PORT_STATUS_LINK 0) 1).set (F.RING_PORT_STATUS_LINK 1) 1).set (F.RING_PORT_STATUS_LINK 2) 1
      let s : State := vlan5 s
   Shaped s ∧ s.linkUp 0 = true ∧ s.linkUp 1 = true ∧ s.linkUp 2 = true ∧ Passes s 2 f ∧ f.oversize = false ∧ f.body = .data) ∧
  (   let dt : Nat := 0
      let p : Port := .a
      let e : EgFrame := { egFrame0 with cls := 2 }
      let e : EgFrame := { e with host := none }
      let s : State := base.set (F.RING_PORT_STATUS_LINK p.idx) 1
      let s : State := { s with ring.ports := updAt s.ring.ports p.idx fun k => { k with queue := [e] } }
      let s : State := s.set (F.RING_PORT_STATUS_RATE 0) 5
   s.linkUp p.idx = true ∧ NotPtp e.frame ∧ e.host = none ∧ e.pool ≠ some p.idx ∧ e.cls < 8 ∧ (∀ c < 8, e.cls < c → (((s.advance
       dt).creditTick p.idx).slopes p.idx).headFate p.idx c = .none) ∧ (((s.advance dt).creditTick p.idx).slopes p.idx).headFate p.idx e.cls = .go e ∧
       e.frame.len ≤ s.frameLimit p.idx e.frame) := by decide +kernel

theorem witness_TimeBase :
  (   let s : State := base
   s.unitAwake 3 = true) ∧
  (   let s : State := base
   s.unitAwake 2 = true) ∧
  (   let m : Master := .mp
      let priv : Bool := true
      let s : State := base
   Direct s m priv A.TIME_TB_CTL ∧ s.refCarriesTime = false) ∧
  (   let clash : Bool := true
      let m : Master := .mp
      let priv : Bool := true
      let s : State := base
   Direct s m priv A.TIME_TB_CTL ∧ (s.refCarriesTime = true ∨ clash = true)) ∧
  (   let d : Int := 500
      let s : State := { base with clk.running := false }
      let s : State := { s with time.setPend := none }
      let s : State := { s with time.jumps := [d] }
      let s : State := { s with time.slew := 0 }
   s.clk.running = false ∧ s.time.setPend = none ∧ s.time.jumps = [d] ∧ s.time.slew = 0 ∧ d.natAbs ≤ 1000 * nsU ∧ d ≠ 0) ∧
  (   let d : Int := 5000 * 65536
      let s : State := { base with clk.running := false }
      let s : State := { s with time.setPend := none }
      let s : State := { s with time.jumps := [d] }
      let s : State := { s with time.slew := 0 }
   s.clk.running = false ∧ s.time.setPend = none ∧ s.time.jumps = [d] ∧ s.time.slew = 0 ∧ 1000 * nsU < d.natAbs ∧ 0 ≤ (s.time.tb
       : Int) + d ∧ (s.time.tb : Int) + d ≤ tbMax) ∧
  (   let s : State := { base with time.slew := 5 }
   s.time.slew ≠ 0 ∧ s.time.slewAcc < 200000) := by decide +kernel

theorem witness_PulsesAndCaptures :
  (   let n : Fin 4 := 0
      let m : Master := .mp
      let priv : Bool := true
      let w : Word := 0
      let s : State := base.set (F.TIME_TPO_CTL_MODE n) 1
   Shaped s ∧ Direct s m priv (A.TIME_TPO_START_NS n) ∧ s.fld (F.TIME_TPO_CTL_MODE n) = 1 ∧ w.toNat ≤ 999999999 ∧ s.time.tb ≤
       ((s.rd (A.TIME_TPO_START_SEC_LO n) + s.fld (F.TIME_TPO_START_SEC_HI_SEC n) * 2 ^ 32) * 1000000000 + w.toNat) * nsU) ∧
  (   let n : Fin 4 := 0
      let m : Master := .mp
      let priv : Bool := true
      let s : State := base.set (F.TIME_TPO_CTL_MODE 0) 1
      let w : Word := BitVec.ofNat 32 ((F.TIME_TPO_CTL_MODE n).into (s.reg (A.TIME_TPO_CTL n)).toNat (0))
   Shaped s ∧ Direct s m priv (A.TIME_TPO_CTL n) ∧ AsItReads s (A.TIME_TPO_CTL n) w ∧ (F.TIME_TPO_CTL_MODE n).of w.toNat = 0 ∧
       s.fld (F.TIME_TPO_CTL_MODE n) ≠ 0) ∧
  (   let n : Nat := 0
      let dt : Nat := 0
      let s : State := base
      let s : State := { s with time.tpo := updAt s.time.tpo n fun k => { k with armed := true } }
   Shaped s ∧ n < 4 ∧ (tpoOf s n).armed = true ∧ (tpoOf s n).startNs * nsU ≤ (s.advance dt).time.tb) ∧
  (   let n : Nat := 0
      let s : State := base
      let s : State := { s with time.tpo := updAt s.time.tpo n fun k => { k with running := true } }
   Shaped s ∧ n < 4 ∧ (tpoOf s n).running = true) ∧
  (   let n : Fin 4 := 0
      let m : Master := .mp
      let priv : Bool := true
      let s : State := base
      let s : State := { s with time.tpo := updAt s.time.tpo n fun k => { k with running := true } }
   Shaped s ∧ Direct s m priv A.CLK_REALIGN ∧ (tpoOf s n).running = true ∧ (s.time.tb : Int) ≤ (tpoOf s n).ideal ∧ ((s.tpoWidth
       n + 64 * nsU : Nat) : Int) ≤ (tpoOf s n).ideal - s.time.tb + s.time.up - ((tpoOf s n).nextUp - (clampN 1000 4000000000
       (s.rd (A.TIME_TPO_PERIOD n)) * nsU : Nat))) ∧
  (   let n : Nat := 0
      let s : State := base
   Shaped s ∧ n < 4) ∧
  (   let n : Nat := 0
      let dt : Nat := 0
      let rise : Bool := true
      let s : State := base.set F.TIME_TPI_CTL_EDGE 3
   n < 4 ∧ ((s.fld F.TIME_TPI_CTL_EDGE) >>> (2 * n) % 4).testBit (if rise then 0 else 1) = true ∧ (∀ u ∈ getAt s.time.lastCap n
       none, u + 40 * nsU ≤ s.time.up + dt) ∧ s.time.capq.length < 64) ∧
  (   let n : Nat := 0
      let dt : Nat := 0
      let rise : Bool := true
      let s : State := { (base.set F.TIME_TPI_CTL_EDGE 3) with time.capq := List.replicate 64 ⟨0,0,true,0⟩ }
   n < 4 ∧ ((s.fld F.TIME_TPI_CTL_EDGE) >>> (2 * n) % 4).testBit (if rise then 0 else 1) = true ∧ (∀ u ∈ getAt s.time.lastCap n
       none, u + 40 * nsU ≤ s.time.up + dt) ∧ 64 ≤ s.time.capq.length) := by decide +kernel

theorem witness_PtpMessages :
  (   let p : Port := .a
      let s : State := base.set F.TIME_PTP_CFG_SLAVE_ONLY 0
   Shaped s ∧ s.unitOn 3 = true ∧ Unheard s p.idx ∧ s.on F.TIME_PTP_CFG_SLAVE_ONLY = false) ∧
  (   let p : Port := .a
      let s : State := base.set (F.RING_PORT_STATUS_LINK p.idx) 1
   Shaped s ∧ s.unitOn 3 = true ∧ (p.idx < 2 ∨ s.e2e = false) ∧ s.linkUp p.idx = true) ∧
  (   let s : State := { base with time.gmPort := 2 }
      let s : State := { s with time.isGm := false }
      let s : State := { (s.set (F.RING_PORT_STATUS_LINK 2) 1) with time.gm := some ⟨1,2,3,4,5,6,7,8,true,9⟩ }
   Shaped s ∧ s.unitOn 3 = true ∧ s.e2e = true ∧ s.time.gmPort = 2 ∧ s.time.isGm = false ∧ s.time.gm.isSome = true ∧ s.linkUp 2
       = true) ∧
  (   let s : State := { base with time.isGm := true }
   Shaped s ∧ s.unitOn 3 = true ∧ s.time.isGm = true) ∧
  (   let s : State := base.set F.TIME_PTP_CFG_SLAVE_ONLY 0
   Shaped s ∧ s.unitOn 3 = true ∧ Unheard s 3 ∧ s.on F.TIME_PTP_CFG_SLAVE_ONLY = false) ∧
  (   let s : State := base
   Shaped s) ∧
  (   let m : Master := .mp
      let priv : Bool := true
      let s : State := base
      let w : Word := BitVec.ofNat 32 (F.TIME_PTP_CFG_PROFILE.into (s.reg A.TIME_PTP_CFG).toNat (s.fld F.TIME_PTP_CFG_PROFILE + 1))
   Direct s m priv A.TIME_PTP_CFG ∧ AsItReads s A.TIME_PTP_CFG w ∧ F.TIME_PTP_CFG_PROFILE.of w.toNat ≤ 5 ∧
       F.TIME_PTP_CFG_PROFILE.of w.toNat ≠ s.fld F.TIME_PTP_CFG_PROFILE) := by decide +kernel

theorem witness_TwinPaths :
  (   let dt : Nat := 0
      let d : Int := 100
      let s : State := { base with time.twin.running := true }
      let s : State := { (s.set F.TIME_TWIN_CFG_DEV_LIMIT 100) with time.twin.samples := List.replicate 5000 (100 * 65536) }
   s.time.twin.running = true ∧ (s.advance dt).windowD = some d) ∧
  (   let dt : Nat := 0
      let s : State := { base with time.twin.running := true }
   s.time.twin.running = true ∧ (s.advance dt).windowD = none) ∧
  (   let b : Bool := true
      let s : State := base
      let s : State := { s with time.ports := updAt s.time.ports b.toNat fun k => { k with lost := false } }
      let s : State := (s.set F.TIME_TWIN_CFG_EN 1).set F.TIME_TWIN_STATUS_D_VALID 1
      let s : State := { s with time.ports := updAt s.time.ports 0 fun k => { k with lastSync := some (0,0,0) } }
      let s : State := s.set F.TIME_TWIN_STATUS_IN_USE 2
   (s.tport b.toNat).lost = false ∧ s.on F.TIME_TWIN_CFG_EN = true ∧ s.fld F.TIME_TWIN_STATUS_IN_USE = b.toNat + 1 ∧ s.pathLive
       (1 - b.toNat) = true ∧ s.on F.TIME_TWIN_STATUS_D_VALID = true) ∧
  (   let b : Bool := true
      let s : State := base
      let s : State := { s with time.ports := updAt s.time.ports b.toNat fun k => { k with lost := false } }
      let s : State := (s.set F.TIME_TWIN_CFG_EN 1).set F.TIME_TWIN_STATUS_D_VALID 0
      let s : State := { s with time.ports := updAt s.time.ports 0 fun k => { k with lastSync := some (0,0,0) } }
      let s : State := s.set F.TIME_TWIN_STATUS_IN_USE 2
   (s.tport b.toNat).lost = false ∧ s.on F.TIME_TWIN_CFG_EN = true ∧ s.fld F.TIME_TWIN_STATUS_IN_USE = b.toNat + 1 ∧ s.pathLive
       (1 - b.toNat) = true ∧ s.on F.TIME_TWIN_STATUS_D_VALID = false) ∧
  (   let pref : Fin 4 := 1
      let m : Master := .mp
      let priv : Bool := true
      let s : State := ((base.set F.TIME_TWIN_STATUS_WHOLE 1).set F.TIME_TWIN_CFG_PREF 2).set F.TIME_TWIN_STATUS_IN_USE 2
   Direct s m priv A.TIME_TWIN_CFG ∧ (pref = 1 ∨ pref = 2) ∧ s.fld F.TIME_TWIN_CFG_PREF ≠ pref ∧ s.on F.TIME_TWIN_STATUS_WHOLE =
       true ∧ s.fld F.TIME_TWIN_STATUS_IN_USE ≠ 0 ∧ s.fld F.TIME_TWIN_STATUS_IN_USE ≠ pref) := by decide +kernel

theorem witness_ReferenceEdges :
  (   let r : EdgeRef := .ppsIn
      let s : State := { base with clk.running := true }
      let s : State := { s with clk.refs := updAt s.clk.refs r.code fun k => { k with tracking := false } }
      let s : State := { s with clk.refs := updAt s.clk.refs r.code fun k => { k with since := none } }
      let s : State := { s with clk.refs := updAt s.clk.refs r.code fun k => { k with lastEdge := none } }
      let s : State := s.set (F.CLK_REF_INFO_SUSPECT r.code) 0
   Shaped s ∧ s.clk.running = true ∧ (s.ref r.code).tracking = false ∧ (s.ref r.code).since = none ∧ (s.ref r.code).lastEdge =
       none ∧ s.on (F.CLK_REF_INFO_SUSPECT r.code) = false ∧ s.fld (F.CLK_REF_INFO_STATE r.code) ≠ 2 ∧ (r.code = 4 → s.on
       F.CLK_TOD_CFG_TOD_EN = false) ∧ (r.code = 5 → s.wrongFamily = false)) ∧
  (   let r : EdgeRef := .ppsIn
      let dt : Nat := secU
      let s : State := { base with clk.running := true }
      let s : State := { s with clk.refs := updAt s.clk.refs r.code fun k => { k with tracking := true } }
      let s : State := { s with clk.refs := updAt s.clk.refs r.code fun k => { k with lastEdge := none } }
   Shaped s ∧ s.clk.running = true ∧ (s.ref r.code).tracking = true ∧ (s.ref r.code).lastEdge = none ∧ (r.code = 4 → s.on
       F.CLK_TOD_CFG_TOD_EN = false) ∧ s.edgeAt r.code ((s.ref r.code).k + 1) ≤ s.time.up + dt + s.edgePart r.code 5 ∧ s.time.up
       + dt ≤ s.edgeAt r.code ((s.ref r.code).k + 1) + s.edgePart r.code 5) ∧
  (   let r : EdgeRef := .ppsIn
      let s : State := { base with clk.running := true }
      let s : State := { s with clk.refs := updAt s.clk.refs r.code fun k => { k with tracking := true } }
      let s : State := { s with clk.refs := updAt s.clk.refs r.code fun k => { k with missing := 0 } }
      let s : State := { s with clk.refs := updAt s.clk.refs r.code fun k => { k with glitchAt := none } }
   Shaped s ∧ s.clk.running = true ∧ (s.ref r.code).tracking = true ∧ (s.ref r.code).missing = 0 ∧ (s.ref r.code).glitchAt =
       none) ∧
  (   let r : EdgeRef := .ppsIn
      let s : State := { base with clk.running := true }
      let s : State := { s with clk.refs := updAt s.clk.refs r.code fun k => { k with tracking := true } }
      let s : State := { s with clk.refs := updAt s.clk.refs r.code fun k => { k with missing := 1 } }
   s.clk.running = true ∧ (s.ref r.code).tracking = true ∧ 1 ≤ (s.ref r.code).missing ∧ (s.ref r.code).glitchAt ≠ some ((s.ref
       r.code).k + 1)) ∧
  (   let s : State := { base with clk.running := true }
      let s : State := s.set F.CLK_TOD_CFG_TOD_EN 1
   Shaped s ∧ s.clk.running = true ∧ s.on F.CLK_TOD_CFG_TOD_EN = true) := by decide +kernel

theorem witness_ReferenceChoice :
  (   let r : Reference := .ptpA
      let s : State := base.set (F.CLK_REF_INFO_SUSPECT r.code) 0
      let s : State := { s with clk.refs := updAt s.clk.refs r.code fun k => { k with since := some 0 } }
   s.fld (F.CLK_REF_INFO_STATE r.code) ≠ 2 ∧ (s.ref r.code).since.isSome = true ∧ s.on (F.CLK_REF_INFO_SUSPECT r.code) = false) ∧
  (   let s : State := ((((base.set F.CLK_REF_CTL_MODE 0).set F.CLK_REF_STATUS_SPLICE_MEMBER 0).set F.CLK_REF_CTL_REVERT 1).set (F.CLK_REF_INFO_STATE 4) 2).wr A.CLK_REF_RANK 0x10000
   s.on F.CLK_REF_CTL_MODE = false ∧ s.spliceMember = false ∧ s.bestRank ≠ 0 ∧ s.on F.CLK_REF_CTL_REVERT = true ∧ s.rank
       s.refInUse ≠ s.bestRank) ∧
  (   let m : Master := .mp
      let priv : Bool := true
      let s : State := base
      let w : Word := BitVec.ofNat 32 (F.CLK_REF_CTL_MODE.into (s.reg A.CLK_REF_CTL).toNat 1)
   Direct s m priv A.CLK_REF_CTL ∧ AsItReads s A.CLK_REF_CTL w ∧ (F.CLK_REF_CTL_MODE).of w.toNat = 1) ∧
  (   let s : State := { base with clk.running := true }
      let s : State := ((((s.set F.CLK_REF_STATUS_SPLICE_MEMBER 0).set F.CLK_REF_CTL_MODE 1).set F.CLK_REF_CTL_SEL 4).set (F.CLK_REF_INFO_STATE 4) 2).wr A.CLK_REF_RANK 0x10000
   s.clk.running = true ∧ s.spliceMember = false ∧ s.blockOk 4 = true ∧ s.on F.CLK_REF_CTL_MODE = true ∧ s.qualified (s.fld
       F.CLK_REF_CTL_SEL) = true ∧ s.rank (s.fld F.CLK_REF_CTL_SEL) ≠ 0 ∧ s.refInUse ≠ s.fld F.CLK_REF_CTL_SEL) ∧
  (   let n : Nat := 3
      let s : State := { base with clk.running := true }
      let s : State := { (((s.set F.CLK_REF_STATUS_SPLICE_MEMBER 0).set (F.CLK_REF_INFO_STATE 4) 2).set (F.CLK_REF_INFO_STATE 5) 2) with clk.disagree := [(4, 5, n)] }
      let s : State := { ((s.wr A.CLK_REF_RANK 0x110000).set (F.CLK_REF_INFO_FREQ 4) 40000) with clk.disagree := [(4,5,3)] }
   s.clk.running = true ∧ s.spliceMember = false ∧ (∀ r < 7, r ≠ 4 → r ≠ 5 → s.qualified r = false) ∧ (∀ r < 7, s.on
       (F.CLK_REF_INFO_SUSPECT r) = false) ∧ s.qualified 4 = true ∧ s.qualified 5 = true ∧ s.voteRank 4 ≠ 0 ∧ s.voteRank 4 =
       s.voteRank 5 ∧ s.voteThr 4 5 < (s.refFreq 4 - s.refFreq 5).natAbs ∧ s.clk.disagree = [(4, 5, n)] ∧ n < 9) ∧
  (   let s : State := { base with clk.running := true }
      let s : State := { (((s.set F.CLK_REF_STATUS_SPLICE_MEMBER 0).set (F.CLK_REF_INFO_STATE 4) 2).set (F.CLK_REF_INFO_STATE 5) 2) with clk.disagree := [(4, 5, 9)] }
      let s : State := { ((s.wr A.CLK_REF_RANK 0x110000).set (F.CLK_REF_INFO_FREQ 4) 40000) with clk.disagree := [(4,5,9)] }
   s.clk.running = true ∧ s.spliceMember = false ∧ (∀ r < 7, r ≠ 4 → r ≠ 5 → s.qualified r = false) ∧ (∀ r < 7, s.on
       (F.CLK_REF_INFO_SUSPECT r) = false) ∧ s.qualified 4 = true ∧ s.qualified 5 = true ∧ s.voteRank 4 ≠ 0 ∧ s.voteRank 4 =
       s.voteRank 5 ∧ s.voteThr 4 5 < (s.refFreq 4 - s.refFreq 5).natAbs ∧ s.clk.disagree = [(4, 5, 9)] ∧ s.hoFreq = none) ∧
  (   let r : Reference := .ptpA
      let f : Int := 200000
      let s : State := { base with clk.running := true }
      let s : State := s.set (F.CLK_REF_INFO_STATE 1) 2
   s.clk.running = true ∧ (s.fld (F.CLK_REF_INFO_STATE r.code) = 1 ∨ s.fld (F.CLK_REF_INFO_STATE r.code) = 2) ∧ s.fld
       F.CLK_LIMITS_HARD_FREQ * 100 < (satS 20 f).natAbs) ∧
  (   let r : Reference := .ptpA
      let f : Int := 0
      let s : State := { base with clk.running := true }
   s.clk.running = true ∧ Shaped s ∧ (s.ref r.code).freqs.length < 59 ∧ (satS 20 f).natAbs ≤ min (s.fld F.CLK_LIMITS_SOFT_FREQ)
       (s.fld F.CLK_LIMITS_HARD_FREQ) * 100) := by decide +kernel

theorem witness_Dpll :
  (   let s : State := (base.set F.CLK_REF_STATUS_STATE 1).set F.CLK_REF_STATUS_BW 1
   s.fld F.CLK_REF_STATUS_STATE = 1 ∧ s.fld F.CLK_REF_STATUS_BW = 1) ∧
  (   let s : State := (base.set F.CLK_REF_STATUS_STATE 1).set F.CLK_REF_STATUS_BW 2
   s.fld F.CLK_REF_STATUS_STATE = 1 ∧ s.fld F.CLK_REF_STATUS_BW = 2) ∧
  (   let e : Nat := 3000
      let s : State := base.set F.CLK_REF_STATUS_STATE 2
   s.fld F.CLK_REF_STATUS_STATE = 2 ∧ 2000 < e) ∧
  (   let s : State := { base with clk.running := true }
   s.clk.running = true) ∧
  (   let s : State := base
      let s : State := noAlm s
   s.almCond = false) := by decide +kernel

theorem witness_MediaChain :
  (   let m : Master := .mp
      let priv : Bool := true
      let s : State := (base.set F.CLK_REALIGN_BUSY 0).set F.CLK_REF_STATUS_SPLICE_MEMBER 0
   Direct s m priv A.CLK_REALIGN ∧ s.on F.CLK_REALIGN_BUSY = false ∧ s.spliceMember = false ∧ s.misalign.natAbs < 2 * nsU) ∧
  (   let m : Master := .mp
      let priv : Bool := true
      let s : State := { ((base.set F.CLK_REALIGN_BUSY 0).set F.CLK_REF_STATUS_SPLICE_MEMBER 0) with time.up := 100000000 }
   Direct s m priv A.CLK_REALIGN ∧ s.on F.CLK_REALIGN_BUSY = false ∧ s.spliceMember = false ∧ 2 * nsU ≤ s.misalign.natAbs) ∧
  (   let m : Master := .mp
      let priv : Bool := true
      let s : State := (base.set F.CLK_REALIGN_BUSY 0).set F.CLK_REF_STATUS_SPLICE_MEMBER 1
   Direct s m priv A.CLK_REALIGN ∧ s.on F.CLK_REALIGN_BUSY = false ∧ s.spliceMember = true) ∧
  (   let mis : Int := 500
      let s : State := { base with clk.realign := .moving mis }
      let s : State := { s with splice.align := false }
   s.clk.realign = .moving mis ∧ s.splice.align = false) ∧
  (   let m : Master := .mp
      let priv : Bool := true
      let s : State := base.set F.SYS_MOD_STATE_STATE 2
      let w : Word := s.reg A.CLK_MEDIA_CFG
   Direct s m priv A.CLK_MEDIA_CFG ∧ AsItReads s A.CLK_MEDIA_CFG w ∧ F.CLK_MEDIA_CFG_RATE.of w.toNat ≤ 5 ∧ s.modState = 2) ∧
  (   let m : Master := .mp
      let priv : Bool := true
      let s : State := base
      let w : Word := BitVec.ofNat 32 (F.CLK_MEDIA_CFG_RATE.into (s.reg A.CLK_MEDIA_CFG).toNat (s.fld F.CLK_MEDIA_CFG_RATE + 1))
   Direct s m priv A.CLK_MEDIA_CFG ∧ AsItReads s A.CLK_MEDIA_CFG w ∧ F.CLK_MEDIA_CFG_RATE.of w.toNat ≤ 5 ∧
       F.CLK_MEDIA_CFG_RATE.of w.toNat ≠ s.fld F.CLK_MEDIA_CFG_RATE ∧ s.modState ≠ 2) ∧
  (   let m : Master := .mp
      let priv : Bool := true
      let s : State := base
      let w : Word := s.reg A.CLK_MCLK_CFG ||| 1
   Direct s m priv A.CLK_MCLK_CFG ∧ AsItReads s A.CLK_MCLK_CFG w ∧ s.reg A.CLK_MCLK_CFG ≠ w) := by decide +kernel

theorem witness_StreamEntries :
  (   let n : Nat := 0
      let w : Fin 16 := 0
      let m : Master := .mp
      let priv : Bool := true
      let s : State := { base with scp.holds := [] }
      let s : State := s.set (F.TBL_LISTENER_W0_EN n) 1
      let x : Word := s.reg (A.TBL_LISTENER_W0 n + 4 * w.val)
   n < s.streams ∧ w.val < 14 ∧ Direct s m priv (A.TBL_LISTENER_W0 n + 4 * w.val) ∧ AsItReads s (A.TBL_LISTENER_W0 n + 4 *
       w.val) x ∧ s.scp.holds = [] ∧ (s.putReg (A.TBL_LISTENER_W0 n + 4 * w.val) x).on (F.TBL_LISTENER_W0_EN n) = true) ∧
  (   let n : Nat := 0
      let w : Fin 16 := 0
      let m : Master := .mp
      let priv : Bool := true
      let s : State := { base with scp.holds := [] }
      let x : Word := s.reg (A.TBL_LISTENER_W0 n + 4 * w.val)
   n < s.streams ∧ w.val < 14 ∧ Direct s m priv (A.TBL_LISTENER_W0 n + 4 * w.val) ∧ AsItReads s (A.TBL_LISTENER_W0 n + 4 *
       w.val) x ∧ s.scp.holds = [] ∧ (s.putReg (A.TBL_LISTENER_W0 n + 4 * w.val) x).on (F.TBL_LISTENER_W0_EN n) = false) ∧
  (   let n : Nat := 0
      let w : Fin 16 := 0
      let m : Master := .mp
      let priv : Bool := true
      let s : State := { base with scp.holds := [] }
      let s : State := s.set (F.TBL_TALKER_W0_EN n) 1
      let x : Word := s.reg (A.TBL_TALKER_W0 n + 4 * w.val)
   n < s.streams ∧ (w.val < 10 ∨ w.val = 13) ∧ Direct s m priv (A.TBL_TALKER_W0 n + 4 * w.val) ∧ AsItReads s (A.TBL_TALKER_W0 n
       + 4 * w.val) x ∧ s.scp.holds = [] ∧ (s.putReg (A.TBL_TALKER_W0 n + 4 * w.val) x).on (F.TBL_TALKER_W0_EN n) = true) ∧
  (   let n : Nat := 0
      let w : Fin 16 := 0
      let m : Master := .mp
      let priv : Bool := true
      let s : State := { base with scp.holds := [] }
      let s : State := s.talkerUpd n fun k => { k with sap := false }
      let x : Word := s.reg (A.TBL_TALKER_W0 n + 4 * w.val)
   n < s.streams ∧ (w.val < 10 ∨ w.val = 13) ∧ Direct s m priv (A.TBL_TALKER_W0 n + 4 * w.val) ∧ AsItReads s (A.TBL_TALKER_W0 n
       + 4 * w.val) x ∧ s.scp.holds = [] ∧ (s.putReg (A.TBL_TALKER_W0 n + 4 * w.val) x).on (F.TBL_TALKER_W0_EN n) = false ∧
       (s.talker n).sap = false) ∧
  (   let n : Nat := 0
      let m : Master := .mp
      let priv : Bool := true
      let s : State := (base.set (F.TBL_LAY_W2_ACTIVE n) 0).set (F.TBL_LAY_W0_EN n) 0
      let x : Word := BitVec.ofNat 32 ((F.TBL_LAY_W0_EN n).into (s.reg (A.TBL_LAY_W0 n)).toNat (1))
   n < s.lays ∧ Direct s m priv (A.TBL_LAY_W0 n) ∧ AsItReads s (A.TBL_LAY_W0 n) x ∧ s.on (F.TBL_LAY_W2_ACTIVE n) = false ∧ s.on
       (F.TBL_LAY_W0_EN n) = false ∧ (F.TBL_LAY_W0_EN n).of x.toNat = 1) ∧
  (   let n : Nat := 0
      let m : Master := .mp
      let priv : Bool := true
      let s : State := { base with scp.holds := [] }
      let s : State := s.set (F.TBL_LAY_W0_EN n) 0
      let x : Word := s.reg (A.TBL_LAY_W1 n) ||| 5
   n < s.lays ∧ Direct s m priv (A.TBL_LAY_W1 n) ∧ s.scp.holds = [] ∧ s.reg (A.TBL_LAY_W1 n) ≠ x ∧ s.on (F.TBL_LAY_W0_EN n) =
       false) ∧
  (   let n : Nat := 0
      let w : Fin 8 := 3
      let m : Master := .mp
      let priv : Bool := true
      let s : State := base
   n < s.lays ∧ 2 ≤ w.val ∧ Direct s m priv (A.TBL_LAY_W0 n + 4 * w.val)) ∧
  (   let m : Master := .mp
      let priv : Bool := true
      let s : State := base.set F.SYS_MOD_STATE_STATE 2
      let x : Word := BitVec.ofNat 32 (F.STRM_HOLD_CFG_HOLD_MIB.into (s.reg A.STRM_HOLD_CFG).toNat (s.fld F.STRM_HOLD_CFG_HOLD_MIB + 1))
   Direct s m priv A.STRM_HOLD_CFG ∧ AsItReads s A.STRM_HOLD_CFG x ∧ s.modState = 2 ∧ F.STRM_HOLD_CFG_HOLD_MIB.of x.toNat ≠
       s.fld F.STRM_HOLD_CFG_HOLD_MIB) ∧
  (   let m : Master := .mp
      let priv : Bool := true
      let s : State := base
      let x : Word := BitVec.ofNat 32 (F.STRM_HOLD_CFG_HOLD_MIB.into (s.reg A.STRM_HOLD_CFG).toNat (s.fld F.STRM_HOLD_CFG_HOLD_MIB + 1))
   Direct s m priv A.STRM_HOLD_CFG ∧ AsItReads s A.STRM_HOLD_CFG x ∧ s.modState ≠ 2 ∧ F.STRM_HOLD_CFG_HOLD_MIB.of x.toNat ≠
       s.fld F.STRM_HOLD_CFG_HOLD_MIB) := by decide +kernel

theorem witness_StreamTimers :
  (   let p : Pkt := pkt0
      let s : State := { base with play.running := true }
      let s : State := { s with strm.held := [p] }
      let s : State := s.set (F.TBL_LAY_W0_EN (s.lisLay (s.lowerOf p.listener))) 1
   s.play.running = true ∧ s.strm.held = [p] ∧ p.listener < s.streams ∧ p.np - s.adj + p.size - 1 < s.directEnd ∧ s.on
       (F.TBL_LAY_W0_EN (s.lisLay (s.lowerOf p.listener))) = true ∧ (s.headPos : Int) ≤ p.np - s.adj) ∧
  (   let s : State := { base with play.running := true }
   s.play.running = true ∧ (∀ p ∈ s.strm.held, s.directEnd ≤ p.np - s.adj + p.size - 1)) ∧
  (   let n : Nat := 0
      let dt : Nat := 10 * secU
      let s : State := base.set (F.TBL_LAY_W2_ACTIVE n) 1
   n < s.lays ∧ s.on (F.TBL_LAY_W2_ACTIVE n) = true ∧ s.fld (F.TBL_LAY_W0_CLASS n) ≠ 7 ∧ (s.lay n).lastUp + s.actHold n ≤
       s.time.up + dt) ∧
  (   let n : Nat := 0
      let dt : Nat := 10 * secU
      let s : State := base
   n < s.streams ∧ (s.lis n).lastUp + 100 * msU ≤ s.time.up + dt) ∧
  (   let n : Nat := 0
      let dt : Nat := 10 * secU
      let s : State := base
   n < s.streams ∧ (s.talker n).lastUp + 100 * msU ≤ s.time.up + dt) ∧
  (   let n : Nat := 0
      let s : State := { ((base.set (F.TBL_LAY_W0_EN n) 1).set (F.TBL_LAY_W2_ACTIVE n) 1) with play.running := true }
      let s : State := s.set (F.TBL_LAY_W1_PRES_OFFSET n) 96
   n < s.lays ∧ s.on (F.TBL_LAY_W0_EN n) = true ∧ s.on (F.TBL_LAY_W2_ACTIVE n) = true ∧ (s.lay n).offset ≠ s.fld
       (F.TBL_LAY_W1_PRES_OFFSET n) ∧ s.play.running = true) ∧
  (   let n : Nat := 0
      let s : State := base.set (F.TBL_LAY_W0_EN n) 0
   n < s.lays ∧ s.on (F.TBL_LAY_W0_EN n) = false) ∧
  (   let n : Nat := 0
      let s : State := base
   n < s.lays) ∧
  (   let n : Nat := 0
      let g : Nat := 0
      let s : State := base
      let s : State := s.lisUpd n fun k => { k with joined := some g }
      let s : State := (s.lisUpd n fun k => { k with again := true }).set (F.RING_PORT_STATUS_LINK 2) 1
   n < s.streams ∧ (s.lis n).joined = some g ∧ (s.lis n).again = true ∧ s.linkUp 2 = true ∧ 2 < s.ring.ports.length) ∧
  (   let g : Nat := 0
      let b : Bool := true
      let q : List (Nat × Bool) := []
      let s : State := { base with strm.queries := (g, b) :: q }
   s.strm.queries = (g, b) :: q ∧ (∀ n < s.streams, (s.lis n).joined = none)) ∧
  (   let g : Nat := 0
      let n : Nat := 0
      let s : State := { base with strm.queries := [(g, false)] }
      let s : State := (s.lisUpd n fun k => { k with joined := some g }).set (F.RING_PORT_STATUS_LINK 2) 1
   s.strm.queries = [(g, false)] ∧ n < s.streams ∧ (s.lis n).joined = some g ∧ (∀ k < s.streams, k ≠ n → (s.lis k).joined =
       none) ∧ s.linkUp 2 = true ∧ 2 < s.ring.ports.length) ∧
  (   let n : Nat := 0
      let s : State := ((base.set (F.RING_PORT_STATUS_LINK 2) 1).set (F.TBL_TALKER_W0_EN n) 1).set (F.RING_PORT_STATUS_LINK 2) 1
   n < s.streams ∧ s.talkOn n = true ∧ s.linkUp 2 = true ∧ 2 < s.ring.ports.length) := by decide +kernel

theorem witness_EngineFrames :
  (   let s : State := { base with clk.running := true }
      let s : State := { s with play.running := true }
      let s : State := { s with clk.realign := .idle }
   s.clk.running = true ∧ s.play.running = true ∧ s.clk.realign = .idle) ∧
  (   let s : State := { base with clk.running := true }
      let s : State := { s with play.running := true }
      let s : State := { s with clk.realign := .idle }
   s.clk.running = true ∧ s.play.running = true ∧ s.clk.realign = .idle ∧ s.resultOf s.play.cleat = none) ∧
  (   let s : State := { base with clk.running := true }
      let s : State := { s with play.running := false }
      let s : State := { s with clk.realign := .idle }
   s.clk.running = true ∧ s.play.running = false ∧ s.clk.realign = .idle) ∧
  (   let s : State := { base with pwr.trig := true }
      let s : State := { s with play.running := false }
      let s : State := { (s.set F.SYS_MOD_STATE_STATE 4) with clk.running := true }
      let s : State := { s with clk.realign := .idle }
   s.pwr.trig = true ∧ s.play.running = false ∧ s.modState = 4 ∧ s.clk.running = true ∧ s.unaligned = false ∧ s.clk.realign =
       .idle) ∧
  (   let s : State := { base with pwr.trig := true }
      let s : State := { s with eng.comp := none }
      let s : State := { s with pwr.readyFade := true }
   s.pwr.trig = true ∧ (s.pwr.readyFade = true ∨ s.pwr.quietEntry = true) ∧ (∀ n < s.tdmPorts, s.fld (F.TDM_STATUS_GAIN_STATE n)
       ≠ 1) ∧ s.eng.comp = none) := by decide +kernel

theorem witness_Computations :
  (   let s : State := { base with play.running := true }
      let s : State := { s with eng.comp := none }
      let s : State := { s with play.rewinding := false }
      let s : State := { s with eng.waiting := none }
      let s : State := { s with eng.applyAt := none }
      let s : State := { s with scp.queue := [] }
   s.play.running = true ∧ s.eng.comp = none ∧ s.play.rewinding = false ∧ s.play.head < s.play.cleat + s.play.slack ∧
       s.eng.waiting = none ∧ s.eng.applyAt = none ∧ s.scp.queue = []) ∧
  (   let s : State := { base with play.running := true }
      let s : State := { s with eng.comp := none }
      let s : State := { s with play.rewinding := true }
      let s : State := { s with eng.waiting := none }
      let s : State := { s with eng.applyAt := none }
      let s : State := { s with scp.queue := [] }
   s.play.running = true ∧ s.eng.comp = none ∧ s.play.rewinding = true ∧ s.eng.waiting = none ∧ s.eng.applyAt = none ∧
       s.scp.queue = []) ∧
  (   let s : State := { base with play.rewinding := false }
      let s : State := { s with play.head := s.play.cleat + s.play.slack + 3 }
   s.play.rewinding = false ∧ s.play.cleat + s.play.slack ≤ s.play.head) ∧
  (   let n : Nat := 1
      let k : Comp := comp0
      let s : State := { base with eng.comp := some k }
      let s : State := s.set (F.ENG_CFG_XPT_SLOT) 1
   s.eng.comp = some k ∧ s.segDone = true ∧ s.nextSeg (k.seg + 1) = some n) ∧
  (   let k : Comp := comp0
      let s : State := { base with eng.comp := some k }
      let s : State := { s with eng.comp := some comp0 }
      let s : State := { s with eng.cores := updAt s.eng.cores 0 fun k => { k with prog := some 0 } }
   s.eng.comp = some k ∧ s.segDone = false) ∧
  (   let k : Comp := { comp0 with again := false }
      let s : State := { base with eng.comp := some k }
   s.eng.comp = some k ∧ s.segDone = true ∧ s.nextSeg (k.seg + 1) = none ∧ k.again = false ∧ s.play.cleat ≤ k.ef) ∧
  (   let k : Comp := { comp0 with again := true }
      let s : State := { base with eng.comp := some k }
   s.eng.comp = some k ∧ s.segDone = true ∧ s.nextSeg (k.seg + 1) = none ∧ k.again = true ∧ s.play.cleat ≤ k.ef) ∧
  (   let m : Master := .mp
      let priv : Bool := true
      let s : State := base
      let x : Word := s.reg A.PLAY_CFG
   Direct s m priv A.PLAY_CFG ∧ AsItReads s A.PLAY_CFG x ∧ (s.modState = 2 ∨ s.modState = 3)) ∧
  (   let m : Master := .mp
      let priv : Bool := true
      let s : State := base.set F.SYS_MOD_STATE_STATE 4
      let x : Word := BitVec.ofNat 32 (F.PLAY_CFG_SLACK.into (s.reg A.PLAY_CFG).toNat (s.fld F.PLAY_CFG_SLACK + 1))
   Direct s m priv A.PLAY_CFG ∧ AsItReads s A.PLAY_CFG x ∧ s.modState ≠ 2 ∧ s.modState ≠ 3 ∧ F.PLAY_CFG_SLACK.of x.toNat ≠ s.fld
       F.PLAY_CFG_SLACK) := by decide +kernel

theorem witness_IntegerOperations :
  (   let c : Nat := 0
      let sl : Slot := .s
      let pr : Pred := .always
      let s : State := (acs 1 sl)
   Ready s c sl pr) ∧
  (   let c : Nat := 0
      let pr : Pred := .always
      let s : State := (acs 1 .s)
   Ready s c .s pr) ∧
  (   let w : Nat := 6 * 2 ^ 26 + 32 * 5
   w / 2 ^ 26 % 64 = 6 ∧ (w / 1024 % 4 = 3 ∨ w / 32 % 32 ≠ 0)) ∧
  (   let w : Nat := 9 * 2 ^ 26 + 65536
   w / 2 ^ 26 % 64 = 9 ∧ w / 65536 % 2 = 1) := by decide +kernel

theorem witness_MovesAndCompares :
  (   let c : Nat := 0
      let pr : Pred := .always
      let s : State := (acs 1 .s)
   Ready s c .s pr) ∧
  (   let c : Nat := 0
      let pr : Pred := .always
      let s : State := (acs 1 .s)
   Ready s c .s pr ∧ (s.core c).regs.f.length = 4) ∧
  (   let c : Nat := 0
      let sl : Slot := .s
      let pr : Pred := .always
      let s : State := (acs 1 sl)
   Ready s c sl pr) ∧
  (   let w : Nat := 13 * 2 ^ 26 + 6 * 2 ^ 17
   w / 2 ^ 26 % 64 = 13 ∧ 6 ≤ w / 2 ^ 17 % 8) := by decide +kernel

theorem witness_SaturatingArithmetic :
  (   let c : Nat := 0
      let pr : Pred := .always
      let s : State := (acs 1 .m)
   Ready s c .m pr) := by decide +kernel

theorem witness_SineAndCosine :
  (   let c : Nat := 0
      let pr : Pred := .always
      let s : State := (acs 1 .m)
   Ready s c .m pr) := by decide +kernel

theorem witness_MultiplyAndAccumulate :
  (   let c : Nat := 0
      let pr : Pred := .always
      let s : State := (acs 1 .m)
   Ready s c .m pr) := by decide +kernel

theorem witness_RoundingAndSaturation :
  (   let n : Nat := 3
   0 < n) := by decide +kernel

theorem witness_ProgramFlow :
  (   let c : Nat := 0
      let sl : Slot := .s
      let s : State := (acs 1 sl)
   Ready s c sl .always) ∧
  (   let c : Nat := 0
      let w : Nat := fmtR 1 (.on false 1) 3 1 2 0
      let sl : Slot := .s
      let x : Fields := ⟨.on false 1, 3, 1, 2, 0⟩
      let s : State := (acs 1 sl)
      let s : State := { s with eng.cores := updAt s.eng.cores c fun k => { k with regs.f := [true, false, false, false] } }
      let i : Instr := .add 0 .s (.on false 1) 3 1 2
   Shaped s ∧ c < s.cores ∧ (match sl with | .s => AtSlotS s c | .m => AtSlotM s c) ∧ w / 2 ^ 26 % 64 < 0x38 ∧ w ≠ 0 ∧
       decodeWord c sl w = some i ∧ fieldsOf w = some x ∧ predHolds (s.core c).regs x.pr = false) ∧
  (   let c : Nat := 0
      let h : Half := ⟨regs0 1, [.d 3 7], 5, .seq⟩
      let h : Half := { h with flow := .seq }
      let d : D := 3
      let v : Word := 7
      let s : State := (acs 1 .s)
      let s : State := { s with eng.cores := updAt s.eng.cores c fun k => { k with half := some h } }
      let s : State := { s with eng.cores := updAt s.eng.cores c fun k => { k with prog := none } }
      let s : State := { s with eng.cores := updAt s.eng.cores 0 fun k => { k with prog := none } }
   Shaped s ∧ c < s.cores ∧ (s.core c).half = some h ∧ h.writes = [.d d.val v] ∧ 3 < h.lat ∧ (s.core c).prog = none ∧ h.flow =
       .seq ∧ (s.core c).regs.lv 0 = 0 ∧ (s.core c).regs.lv 1 = 0) ∧
  (   let c : Nat := 0
      let h : Half := ⟨regs0 1, [.d 3 7], 1, .seq⟩
      let h : Half := { h with flow := .seq }
      let d : D := 3
      let v : Word := 7
      let s : State := (acs 1 .s)
      let s : State := { s with eng.cores := updAt s.eng.cores c fun k => { k with half := some h } }
      let s : State := { s with eng.cores := updAt s.eng.cores c fun k => { k with prog := none } }
      let s : State := { s with eng.cores := updAt s.eng.cores 0 fun k => { k with prog := none } }
   Shaped s ∧ c < s.cores ∧ (s.core c).half = some h ∧ h.writes = [.d d.val v] ∧ h.lat ≤ 3 ∧ (s.core c).prog = none ∧ h.flow =
       .seq ∧ (s.core c).regs.lv 0 = 0 ∧ (s.core c).regs.lv 1 = 0) ∧
  (   let c : Nat := 0
      let m : Nat := 0
      let pr : Pred := .always
      let off : BitVec 13 := 4
      let s : State := (acs 1 .s)
      let s : State := { s with eng.cores := updAt s.eng.cores c fun k => { k with prog := some m } }
      let s : State := s.set (F.ENG_DESC_W2_IMEM_LEN 0) 100
   Ready s c .s pr ∧ (s.core c).prog = some m ∧ (s.place (F.ENG_DESC_W2_ENTRY m) : Int) ≤ (s.core c).pc + off.toInt ∧ ((s.core
       c).pc + off.toInt : Int) < (s.place (F.ENG_DESC_W2_ENTRY m) + s.place (F.ENG_DESC_W2_IMEM_LEN m) : Nat)) ∧
  (   let c : Nat := 0
      let m : Nat := 0
      let pr : Pred := .always
      let off : BitVec 13 := -5
      let s : State := (acs 1 .s)
      let s : State := { s with eng.cores := updAt s.eng.cores c fun k => { k with prog := some m } }
   Ready s c .s pr ∧ (s.core c).prog = some m ∧ (((s.core c).pc + off.toInt : Int) < s.place (F.ENG_DESC_W2_ENTRY m) ∨ ((s.place
       (F.ENG_DESC_W2_ENTRY m) + s.place (F.ENG_DESC_W2_IMEM_LEN m) : Nat) : Int) ≤ (s.core c).pc + off.toInt)) ∧
  (   let c : Nat := 0
      let pr : Pred := .always
      let s : State := (acs 1 .s)
   Ready s c .s pr) ∧
  (   let c : Nat := 0
      let body : Fin 256 := 3
      let s : State := (acs 1 .s)
   Ready s c .s .always ∧ body.val ≠ 0) ∧
  (   let c : Nat := 0
      let m : Nat := 0
      let b : Nat := 5
      let h : Half := ⟨regs0 1, [], 0, .branch 5⟩
      let s : State := (acs 1 .s)
      let s : State := { s with eng.cores := updAt s.eng.cores c fun k => { k with half := some h } }
      let s : State := { s with eng.cores := updAt s.eng.cores c fun k => { k with prog := some m } }
      let s : State := s.set (F.ENG_DESC_W2_IMEM_LEN 0) 100
   Shaped s ∧ c < s.cores ∧ (s.core c).half = some h ∧ h.flow = .branch b ∧ b < 4096 ∧ (s.core c).prog = some m ∧ s.place
       (F.ENG_DESC_W2_ENTRY m) ≤ b ∧ b < s.place (F.ENG_DESC_W2_ENTRY m) + s.place (F.ENG_DESC_W2_IMEM_LEN m)) ∧
  (   let c : Nat := 0
      let m : Nat := 0
      let n : Nat := 0
      let b : Nat := 2
      let h : Half := ⟨{ regs0 1 with lc := [3,0] }, [], 0, .seq⟩
      let h : Half := { h with flow := .seq }
      let s : State := (acs 1 .s)
      let s : State := { s with eng.cores := updAt s.eng.cores c fun k => { k with half := some h } }
      let s : State := { s with eng.cores := updAt s.eng.cores c fun k => { k with prog := some m } }
      let s : State := { s with eng.cores := updAt s.eng.cores c fun k => { k with regs.lc := [3,0] } }
      let s : State := { s with eng.cores := updAt s.eng.cores c fun k => { k with pc := 6 } }
      let s : State := { s with eng.cores := updAt s.eng.cores c fun k => { k with loops := [(2,6),(0,0)] } }
      let s : State := s.set (F.ENG_DESC_W2_IMEM_LEN 0) 100
   Shaped s ∧ c < s.cores ∧ (s.core c).half = some h ∧ h.flow = .seq ∧ n < 2 ∧ 1 < (s.core c).regs.lv n ∧ (s.core c).regs.lv (1
       - n) = 0 ∧ (s.core c).regs.lc.length = 2 ∧ getAt (s.core c).loops n (0, 0) = (b, (s.core c).pc) ∧ b < 4096 ∧ (s.core
       c).prog = some m ∧ s.place (F.ENG_DESC_W2_ENTRY m) ≤ b ∧ b < s.place (F.ENG_DESC_W2_ENTRY m) + s.place
       (F.ENG_DESC_W2_IMEM_LEN m)) ∧
  (   let c : Nat := 0
      let m : Nat := 0
      let h : Half := ⟨regs0 1, [], 0, .endEf⟩
      let h : Half := { h with flow := .endEf }
      let s : State := (acs 1 .s)
      let s : State := { s with eng.cores := updAt s.eng.cores c fun k => { k with half := some h } }
      let s : State := { s with eng.cores := updAt s.eng.cores c fun k => { k with prog := some m } }
      let s : State := { s with eng.cores := updAt s.eng.cores c fun k => { k with xfers := [] } }
   Shaped s ∧ c < s.cores ∧ (s.core c).half = some h ∧ h.flow = .endEf ∧ (s.core c).prog = some m ∧ (s.core c).xfers = [] ∧
       s.stopped c = false ∧ (s.progsOf c (s.place (F.ENG_DESC_W0_PHASE m))).filter (fun n => Nat.blt m n) = []) ∧
  (   let c : Nat := 0
      let m : Nat := 0
      let h : Half := ⟨regs0 1, [], 0, .seq⟩
      let h : Half := { h with flow := .seq }
      let s : State := (acs 1 .s)
      let s : State := { s with eng.cores := updAt s.eng.cores c fun k => { k with half := some h } }
      let s : State := { s with eng.cores := updAt s.eng.cores c fun k => { k with prog := some m } }
      let s : State := { s with eng.cores := updAt s.eng.cores c fun k => { k with xfers := [] } }
      let s : State := s.set (F.ENG_DESC_W2_IMEM_LEN 0) 1
   Shaped s ∧ c < s.cores ∧ (s.core c).half = some h ∧ h.flow = .seq ∧ (s.core c).regs.lv 0 = 0 ∧ (s.core c).regs.lv 1 = 0 ∧
       (s.core c).prog = some m ∧ (s.core c).xfers = [] ∧ s.stopped c = false ∧ (s.progsOf c (s.place (F.ENG_DESC_W0_PHASE
       m))).filter (fun n => Nat.blt m n) = [] ∧ (s.core c).pc + 1 = s.place (F.ENG_DESC_W2_ENTRY m) + s.place
       (F.ENG_DESC_W2_IMEM_LEN m) ∧ (s.core c).pc + 1 < 4096) := by decide +kernel

theorem witness_DataMemory :
  (   let c : Nat := 0
      let pr : Pred := .always
      let post : Bool := true
      let b : P := 2
      let off : BitVec 12 := 0
      let s : State := (acm 1 .s)
   Ready s c .s pr ∧ s.dataOk c (memAddr (s.core c).regs post b off) 4 = true ∧
       s.awaited c (memAddr (s.core c).regs post b off) 4 = false) ∧
  (   let c : Nat := 0
      let pr : Pred := .always
      let post : Bool := true
      let b : P := 2
      let off : BitVec 12 := 0
      let s : State := (acm 1 .s)
      let s : State := { s with eng.cores := updAt s.eng.cores c fun k => { k with xfers := [⟨1, 16, 0x100, true, [5]⟩] } }
   Ready s c .s pr ∧ s.dataOk c (memAddr (s.core c).regs post b off) 4 = true ∧
       s.awaited c (memAddr (s.core c).regs post b off) 4 = true) ∧
  (   let c : Nat := 0
      let pr : Pred := .always
      let post : Bool := true
      let b : P := 2
      let off : BitVec 12 := 0
      let s : State := (acm 1 .s)
   Ready s c .s pr ∧ s.dataOk c (memAddr (s.core c).regs post b off) 2 = true ∧
       s.awaited c (memAddr (s.core c).regs post b off) 2 = false) ∧
  (   let c : Nat := 0
      let pr : Pred := .always
      let post : Bool := true
      let b : P := 2
      let off : BitVec 12 := 0
      let s : State := (acm 1 .s)
      let s : State := { s with eng.cores := updAt s.eng.cores c fun k => { k with xfers := [⟨1, 16, 0x100, true, [5]⟩] } }
   Ready s c .s pr ∧ s.dataOk c (memAddr (s.core c).regs post b off) 2 = true ∧
       s.awaited c (memAddr (s.core c).regs post b off) 2 = true) ∧
  (   let c : Nat := 0
      let pr : Pred := .always
      let post : Bool := true
      let b : P := 2
      let off : BitVec 12 := 0
      let s : State := (acm 1 .s)
      let s : State := { s with eng.cores := updAt s.eng.cores c fun k => { k with regs.p := List.replicate 8 0x4000 } }
   Ready s c .s pr ∧ s.dataOk c (memAddr (s.core c).regs post b off) 4 = false) ∧
  (   let c : Nat := 0
      let pr : Pred := .always
      let post : Bool := true
      let b : P := 2
      let off : BitVec 12 := 0
      let s : State := (acs 1 .s)
   Ready s c .s pr ∧ s.dataOk c (memAddr (s.core c).regs post b off) 2 = false) ∧
  (   let c : Nat := 0
      let pr : Pred := .always
      let post : Bool := true
      let b : P := 2
      let off : BitVec 12 := 8
      let s : State := (acm 1 .s)
   Ready s c .s pr ∧ s.dataOk c (memAddr (s.core c).regs post b off) 4 = true) ∧
  (   let c : Nat := 0
      let pr : Pred := .always
      let post : Bool := false
      let b : P := 2
      let off : BitVec 12 := 8
      let s : State := (acm 1 .s)
   Ready s c .s pr ∧ s.dataOk c (memAddr (s.core c).regs post b off) 2 = true) ∧
  (   let c : Nat := 0
      let pr : Pred := .always
      let post : Bool := true
      let b : P := 2
      let off : BitVec 12 := 0
      let s : State := (acs 1 .s)
   Ready s c .s pr ∧ s.dataOk c (memAddr (s.core c).regs post b off) 4 = false) ∧
  (   let c : Nat := 0
      let pr : Pred := .always
      let post : Bool := true
      let b : P := 2
      let off : BitVec 12 := 0
      let s : State := (acm 1 .s)
   Ready s c .s pr ∧ s.dataOk c (memAddr (s.core c).regs post b off) 4 = true ∧ s.coreState c ≠ 6) := by decide +kernel

theorem witness_BusAndDelay :
  (   let c : Nat := 0
      let pr : Pred := .always
      let b : P := 2
      let line : D := 1
      let n : D := 2
      let s : State := { ((acm 1 .s)) with eng.comp := some comp0 }
      let s : State := { s with eng.cores := updAt s.eng.cores c fun k => { k with regs.d := [0, 1, 5] ++ List.replicate 29 0 } }
   Ready s c .s pr ∧ s.delayOk ((s.core c).regs.dv line).toNat ((s.core c).regs.dv n).toInt = true ∧ lowAddr ((s.core c).regs.pv
       b) % 4 = 0 ∧ s.inScratch c (lowAddr ((s.core c).regs.pv b)) (4 * s.efLen) = true ∧ s.computing c = true ∧ (s.core
       c).xfers.length < 4) ∧
  (   let c : Nat := 0
      let pr : Pred := .always
      let b : P := 2
      let line : D := 7
      let n : D := 2
      let s : State := { ((acm 1 .s)) with eng.comp := some comp0 }
      let s : State := { s with eng.cores := updAt s.eng.cores c fun k => { k with regs.d := [0, 1, 5] ++ List.replicate 29 0 } }
   Ready s c .s pr ∧ s.computing c = true ∧ (s.delayOk ((s.core c).regs.dv line).toNat ((s.core c).regs.dv n).toInt = false ∨
       lowAddr ((s.core c).regs.pv b) % 4 ≠ 0 ∨ s.inScratch c (lowAddr ((s.core c).regs.pv b)) (4 * s.efLen) = false)) ∧
  (   let c : Nat := 0
      let pr : Pred := .always
      let b : P := 2
      let line : D := 1
      let s : State := { ((acm 1 .s)) with eng.comp := some comp0 }
      let s : State := { s with eng.cores := updAt s.eng.cores c fun k => { k with regs.d := [0, 1, 5] ++ List.replicate 29 0 } }
   Ready s c .s pr ∧ s.computing c = true ∧ s.inDly c ((s.core c).regs.dv line).toNat = true ∧ s.blockOkAt c (lowAddr ((s.core
       c).regs.pv b)) s.efLen = true ∧ (s.core c).xfers.length < 4) ∧
  (   let c : Nat := 0
      let pr : Pred := .always
      let b : P := 2
      let line : D := 7
      let s : State := { ((acm 1 .s)) with eng.comp := some comp0 }
      let s : State := { s with eng.cores := updAt s.eng.cores c fun k => { k with regs.d := [0, 1, 5] ++ List.replicate 29 9 } }
   Ready s c .s pr ∧ s.computing c = true ∧ (s.inDly c ((s.core c).regs.dv line).toNat = false ∨ s.blockOkAt c (lowAddr ((s.core
       c).regs.pv b)) s.efLen = false)) ∧
  (   let c : Nat := 0
      let pr : Pred := .always
      let s : State := (acs 1 .s)
   Ready s c .s pr) ∧
  (   let c : Nat := 0
      let x : Xfer := ⟨1, 0, 0x100, true, [5]⟩
      let x : Xfer := { x with read := true }
      let l : List Xfer := []
      let s : State := (acm 1 .s)
      let s : State := { s with eng.cores := updAt s.eng.cores c fun k => { k with xfers := x :: l } }
   Shaped s ∧ c < s.cores ∧ (s.core c).xfers = x :: l ∧ x.read = true ∧ x.adr + 4 * s.efLen ≤ 65536) ∧
  (   let c : Nat := 0
      let s : State := (acs 1 .s)
      let s : State := { s with eng.cores := updAt s.eng.cores c fun k => { k with xfers := [] } }
   c < s.cores ∧ (s.core c).xfers = []) := by decide +kernel

theorem witness_TablesAndControls :
  (   let c : Nat := 0
      let k : Nat := 5
      let pr : Pred := .always
      let a : D := 1
      let s : State := { ((acm 1 .s)) with eng.comp := some comp0 }
      let s : State := { s with eng.xrange := (2, 10) }
      let s : State := { s with eng.cores := updAt s.eng.cores c fun k => { k with regs.d := List.replicate 32 (0x10000000 + 5) } }
   Ready s c .s pr ∧ s.computing c = true ∧ s.eng.xrange.1 ≤ k ∧ k < s.eng.xrange.1 + s.eng.xrange.2 ∧ k < 2 ^ 14 ∧ ((s.core
       c).regs.dv a).toNat = 2 ^ 28 + k) ∧
  (   let c : Nat := 0
      let k : Nat := 5
      let pr : Pred := .always
      let a : D := 1
      let s : State := { ((acm 1 .s)) with eng.comp := some comp0 }
      let s : State := { s with eng.xrange := (2, 10) }
      let s : State := { s with eng.cores := updAt s.eng.cores c fun k => { k with regs.d := List.replicate 32 (0x20000000 + 5) } }
   Ready s c .s pr ∧ s.computing c = true ∧ s.eng.xrange.1 ≤ k ∧ k < s.eng.xrange.1 + s.eng.xrange.2 ∧ k < 2 ^ 14 ∧ ((s.core
       c).regs.dv a).toNat = 2 * 2 ^ 28 + k) ∧
  (   let c : Nat := 0
      let k : Nat := 1
      let w : Nat := 1
      let pr : Pred := .always
      let a : D := 1
      let s : State := { ((acm 1 .s)) with eng.comp := some comp0 }
      let s : State := { s with eng.cores := updAt s.eng.cores c fun k => { k with regs.d := List.replicate 32 (0x30000000 + 5) } }
   Ready s c .s pr ∧ s.computing c = true ∧ k < s.limiters ∧ w < 4 ∧ ((s.core c).regs.dv a).toNat = 3 * 2 ^ 28 + 4 * k + w ∧
       s.play.cleat ≤ s.curEf ∧ (s.play.staging.filter stagedCtl).length < 1024) ∧
  (   let c : Nat := 0
      let k : Nat := 1
      let w : Nat := 1
      let pr : Pred := .always
      let a : D := 1
      let s : State := { ((acm 1 .s)) with eng.comp := some comp0 }
      let s : State := { s with eng.cores := updAt s.eng.cores c fun k => { k with regs.d := List.replicate 32 (0x40000000 + 9) } }
      let s : State := { s with play.staging := List.replicate 1024 ⟨0, .lim 0 0 0⟩ }
   Ready s c .s pr ∧ s.computing c = true ∧ k < s.lines ∧ w < 8 ∧ ((s.core c).regs.dv a).toNat = 4 * 2 ^ 28 + 8 * k + w ∧
       s.play.cleat ≤ s.curEf ∧ 1024 ≤ (s.play.staging.filter stagedCtl).length) ∧
  (   let c : Nat := 0
      let m : Nat := 0
      let pr : Pred := .always
      let a : D := 1
      let s : State := { ((acm 1 .s)) with eng.comp := some comp0 }
      let s : State := { s with eng.cores := updAt s.eng.cores c fun k => { k with prog := some m } }
      let s : State := { s with eng.cores := updAt s.eng.cores c fun k => { k with regs.d := List.replicate 32 0x60000000 } }
      let s : State := { s with play.cleat := 3 }
   Ready s c .s pr ∧ s.computing c = true ∧ (s.core c).prog = some m ∧ ((s.core c).regs.dv a).toNat = 6 * 2 ^ 28 ∧ s.curEf <
       s.play.cleat) ∧
  (   let c : Nat := 0
      let pr : Pred := .always
      let a : D := 1
      let s : State := { ((acm 1 .s)) with eng.comp := some comp0 }
      let s : State := { s with eng.cores := updAt s.eng.cores c fun k => { k with regs.d := List.replicate 32 0x70000000 } }
   Ready s c .s pr ∧ s.computing c = true ∧ ((s.core c).regs.dv a).toNat / 2 ^ 28 ∈ [0, 5, 7, 8, 9, 10, 11, 12, 13, 14, 15]) ∧
  (   let c : Nat := 0
      let pr : Pred := .always
      let s : State := { ((acm 1 .s)) with eng.comp := none }
   Ready s c .s pr ∧ s.computing c = false) ∧
  (   let c : Nat := 0
      let m : Nat := 0
      let pr : Pred := .always
      let b : P := 2
      let words : Fin 1024 := 3
      let s : State := { ((acm 1 .s)) with eng.comp := some comp0 }
      let s : State := { s with eng.cores := updAt s.eng.cores c fun k => { k with prog := some m } }
   Ready s c .s pr ∧ s.computing c = true ∧ 1 < words.val ∧ (s.core c).prog = some m ∧ s.blockOkAt c (lowAddr ((s.core
       c).regs.pv b)) words.val = true ∧ s.play.cleat ≤ s.curEf ∧ (s.play.staging.map stagedBytes).sum + 4 * words.val ≤ 32768) ∧
  (   let c : Nat := 0
      let pr : Pred := .always
      let s : State := { ((acm 1 .s)) with eng.comp := some comp0 }
   Ready s c .s pr ∧ s.computing c = true) ∧
  (   let c : Nat := 0
      let pr : Pred := .always
      let s : State := (acs 1 .s)
   Ready s c .s pr ∧ s.computing c = false) := by decide +kernel

theorem witness_CoresAndPlacements :
  (   let m : Master := .mp
      let priv : Bool := true
      let s : State := { base with play.running := false }
   Direct s m priv A.ENG_PLACE_CTL ∧ s.play.running = false) ∧
  (   let m : Master := .mp
      let priv : Bool := true
      let s : State := { base with play.running := true }
   Direct s m priv A.ENG_PLACE_CTL ∧ s.play.running = true) ∧
  (   let ap : Nat := 0
      let l : List (Nat × Word) := (placeAdrs 16).map fun a => (a, 5)
      let s : State := { base with eng.waiting := some (ap, l) }
      let s : State := { s with eng.comp := none }
      let s : State := { s with play.running := true }
      let s : State := { s with eng.oldInstall := false }
   s.eng.waiting = some (ap, l) ∧ l.map Prod.fst = placeAdrs s.cores ∧ s.eng.comp = none ∧ s.play.running = true ∧ ap ≤ s.nextEf
       ∧ s.eng.oldInstall = false ∧ s.fld F.ENG_IMG_STATUS_STATE ≠ 4) ∧
  (   let c : Nat := 0
      let k : Comp := comp0
      let s : State := { base with eng.comp := some k }
      let s : State := { s with eng.comp := some comp0 }
      let s : State := { s with eng.cores := updAt s.eng.cores c fun k => { k with prog := some 0 } }
   c < s.cores ∧ s.eng.comp = some k ∧ s.working c = true ∧ k.overrun.testBit c = false) ∧
  (   let c : Nat := 0
      let s : State := { base with eng.comp := some comp0 }
      let s : State := { s with eng.cores := updAt s.eng.cores c fun k => { k with prog := some 0 } }
   Shaped s ∧ c < s.cores ∧ s.working c = true ∧ s.fld (F.ENG_CORE_STATUS_CONSEC c) < 2) ∧
  (   let c : Nat := 0
      let s : State := { base with eng.comp := some comp0 }
      let s : State := s.set (F.ENG_CORE_STATUS_CONSEC c) 2
      let s : State := { s with eng.cores := updAt s.eng.cores c fun k => { k with prog := some 0 } }
   c < s.cores ∧ s.working c = true ∧ s.coreState c ≠ 6 ∧ s.fld (F.ENG_CORE_STATUS_CONSEC c) = 2) ∧
  (   let c : Nat := 0
      let p : Nat := 3
      let l : List Nat := []
      let m : Master := .mp
      let priv : Bool := true
      let s : State := ((base.set (F.ENG_CORE_STATUS_STATE c) 3).set (F.ENG_DESC_W0_EN 3) 1).set (F.ENG_DESC_W0_PLACED 3) 1
   Shaped s ∧ c < s.cores ∧ Direct s m priv (A.ENG_CORE_CTL c) ∧ s.coreState c = 3 ∧ s.progsAll c = p :: l) ∧
  (   let c : Nat := 0
      let m : Master := .mp
      let priv : Bool := true
      let s : State := base
   c < s.cores ∧ Direct s m priv (A.ENG_CORE_CTL c) ∧ s.coreState c ≠ 3) ∧
  (   let c : Nat := 0
      let p : Nat := 0
      let m : Master := .mp
      let priv : Bool := true
      let s : State := base.set (F.ENG_CORE_STATUS_STATE c) 5
      let s : State := { s with eng.cores := updAt s.eng.cores c fun k => { k with half := none } }
      let s : State := { s with eng.cores := updAt s.eng.cores c fun k => { k with xfers := [] } }
      let s : State := { s with eng.cores := updAt s.eng.cores c fun k => { k with prog := some p } }
      let s : State := s.set (F.ENG_DESC_W2_IMEM_LEN 0) 100
   Shaped s ∧ c < s.cores ∧ Direct s m priv (A.ENG_CORE_CTL c) ∧ s.coreState c = 5 ∧ (s.core c).half = none ∧ (s.core c).regs.lv
       0 = 0 ∧ (s.core c).regs.lv 1 = 0 ∧ (s.core c).xfers = [] ∧ (s.core c).prog = some p ∧ (s.core c).pc + 1 < 4096 ∧ s.place
       (F.ENG_DESC_W2_ENTRY p) ≤ (s.core c).pc + 1 ∧ (s.core c).pc + 1 < s.place (F.ENG_DESC_W2_ENTRY p) + s.place
       (F.ENG_DESC_W2_IMEM_LEN p) ∧ s.bundle c (s.core c).pc = (0, 0)) ∧
  (   let c : Nat := 0
      let m : Master := .mp
      let priv : Bool := true
      let s : State := base
   c < s.cores ∧ Direct s m priv (A.ENG_CORE_CTL c) ∧ s.coreState c ≠ 5) ∧
  (   let c : Nat := 0
      let m : Master := .mp
      let priv : Bool := true
      let s : State := base.set (F.ENG_CORE_STATUS_STATE c) 5
   Shaped s ∧ c < s.cores ∧ Direct s m priv (A.ENG_CORE_CTL c) ∧ s.coreState c = 5) ∧
  (   let c : Nat := 0
      let m : Master := .mp
      let priv : Bool := true
      let s : State := base.set (F.ENG_CORE_STATUS_STATE 0) 3
   c < s.cores ∧ Direct s m priv (A.ENG_CORE_CTL c) ∧ s.coreState c ≠ 0 ∧ s.coreState c ≠ 6) ∧
  (   let c : Nat := 0
      let m : Master := .mp
      let priv : Bool := true
      let s : State := base
   c < s.cores ∧ Direct s m priv (A.ENG_CORE_CTL c) ∧ (s.coreState c = 0 ∨ s.coreState c = 6)) ∧
  (   let c : Nat := 0
      let m : Master := .mp
      let priv : Bool := true
      let s : State := base.set (F.ENG_CORE_STATUS_STATE c) 6
   c < s.cores ∧ Direct s m priv (A.ENG_CORE_CTL c) ∧ s.coreState c = 6 ∧ s.bitOf F.TEST_QUEUED_MASK (12 + c / 4) = false ∧
       s.test.running ≠ some (12 + c / 4)) ∧
  (   let c : Nat := 0
      let m : Master := .mp
      let priv : Bool := true
      let s : State := base
   c < s.cores ∧ Direct s m priv (A.ENG_CORE_CTL c) ∧ s.coreState c ≠ 6) ∧
  (   let c : Nat := 0
      let off : Fin 0x20000 := 0x8010
      let s : State := { base with play.hitches := [some (3, snap0)] }
   c < s.cores ∧ off.val % 4 = 0 ∧ 0x8000 ≤ off.val ∧ off.val < 0xC000 ∧ s.unitAwake (8 + c / 4) = true ∧ s.blockOk (12 + c / 4)
       = true) ∧
  (   let c : Nat := 0
      let off : Fin 0x20000 := 0
      let m : Master := .mp
      let priv : Bool := true
      let s : State := { base with pwr.trig := false }
   c < s.cores ∧ off.val % 4 = 0 ∧ (off.val < 0x8000 ∨ (0x10000 ≤ off.val ∧ off.val < 0x18000 ∧ s.masterPriv m priv = true)) ∧
       s.pwr.trig = false ∧ s.unitAwake (8 + c / 4) = true ∧ s.blockOk (12 + c / 4) = true) ∧
  (   let c : Nat := 0
      let off : Fin 0x20000 := 0
      let m : Master := .mp
      let priv : Bool := true
      let s : State := { base with pwr.trig := true }
   c < s.cores ∧ off.val % 4 = 0 ∧ (off.val < 0x8000 ∨ (0x10000 ≤ off.val ∧ off.val < 0x18000 ∧ s.masterPriv m priv = true ∧
       s.inOperative c off.val = true)) ∧ s.pwr.trig = true ∧ s.unitAwake (8 + c / 4) = true ∧ s.blockOk (12 + c / 4) = true) ∧
  (   let m : Master := .mp
      let priv : Bool := true
      let s : State := base
      let w : Word := s.reg A.ENG_CFG
   Direct s m priv A.ENG_CFG ∧ AsItReads s A.ENG_CFG w ∧ (s.pwr.trig = false ∨ F.ENG_CFG_XPT_SLOT.of w.toNat = s.fld
       F.ENG_CFG_XPT_SLOT)) ∧
  (   let m : Master := .mp
      let priv : Bool := true
      let s : State := { base with pwr.trig := true }
      let s : State := s.set F.ENG_CFG_XPT_SLOT 1
      let w : Word := BitVec.ofNat 32 (F.ENG_CFG_XPT_SLOT.into (s.reg A.ENG_CFG).toNat (s.fld F.ENG_CFG_XPT_SLOT + 1))
   Direct s m priv A.ENG_CFG ∧ AsItReads s A.ENG_CFG w ∧ s.pwr.trig = true ∧ F.ENG_CFG_XPT_SLOT.of w.toNat ≠ s.fld
       F.ENG_CFG_XPT_SLOT) ∧
  (   let s : State := { base with eng.remap := 1 }
   s.eng.remap ≠ 0) ∧
  (   let s : State := { base with eng.remap := 0 }
   s.eng.remap = 0) := by decide +kernel

theorem witness_ImageLoader :
  (   let m : Master := .mp
      let priv : Bool := true
      let s : State := base
   Direct s m priv A.ENG_IMG_CTL) ∧
  (   let m : Master := .mp
      let priv : Bool := true
      let s : State := base.set F.ENG_IMG_STATUS_STATE 1
   Direct s m priv A.ENG_IMG_DATA ∧ s.fld F.ENG_IMG_STATUS_STATE = 1 ∧ s.eng.img.length < 262144) ∧
  (   let m : Master := .mp
      let priv : Bool := true
      let s : State := { (base.set F.ENG_IMG_STATUS_STATE 1) with eng.img := List.replicate 262144 1 }
   Direct s m priv A.ENG_IMG_DATA ∧ s.fld F.ENG_IMG_STATUS_STATE = 1 ∧ 262144 ≤ s.eng.img.length) ∧
  (   let m : Master := .mp
      let priv : Bool := true
      let s : State := base
   Direct s m priv A.ENG_IMG_DATA ∧ s.fld F.ENG_IMG_STATUS_STATE ≠ 1) ∧
  (   let m : Master := .mp
      let priv : Bool := true
      let s : State := base
   Direct s m priv A.ENG_IMG_CTL ∧ s.fld F.ENG_IMG_STATUS_STATE ≠ 2 ∧ s.fld F.ENG_IMG_STATUS_STATE ≠ 3) ∧
  (   let m : Master := .mp
      let priv : Bool := true
      let s : State := base.set F.ENG_IMG_STATUS_STATE 3
   Direct s m priv A.ENG_IMG_CTL ∧ (s.fld F.ENG_IMG_STATUS_STATE = 2 ∨ s.fld F.ENG_IMG_STATUS_STATE = 3)) ∧
  (   let b : Bool := true
      let s : State := { base with eng.work := .checking b }
      let s : State := { s with eng.work := .checking true }
      let s : State := { s with eng.img := img0.set 8 7 }
   s.eng.work = .checking b ∧ s.imageWhy s.eng.img ≠ 0) ∧
  (   let s : State := { base with eng.work := .checking false }
      let s : State := { s with eng.img := img0 }
   s.eng.work = .checking false ∧ s.imageWhy s.eng.img = 0) ∧
  (   let b : List Word := blk0
      let s : State := okCores run
      let s : State := { ((s.set (F.TBL_LAY_W2_ACTIVE 0) 1).set (F.TBL_LAY_W0_CLASS 0) 6) with eng.img := img0 }
      let s : State := { s with eng.work := .checking true }
   s.eng.work = .checking true ∧ s.imageWhy s.eng.img = 0 ∧ rateBlockOf (imgCert s.eng.img) (s.fld F.CLK_MEDIA_CFG_RATE) = some
       b ∧ (s.imgPlan s.eng.img b s.trigRuns).1 = 0 ∧ s.imgHeld = true) ∧
  (   let b : List Word := blk0
      let s : State := { base with eng.work := .checking true }
      let s : State := { s with eng.img := img0 }
   s.eng.work = .checking true ∧ s.imageWhy s.eng.img = 0 ∧ rateBlockOf (imgCert s.eng.img) (s.fld F.CLK_MEDIA_CFG_RATE) = some
       b ∧ (s.imgPlan s.eng.img b s.trigRuns).1 ≠ 0) ∧
  (   let b : List Word := blk0
      let s : State := { base with eng.work := .checking true }
      let s : State := { s with play.running := false }
      let s : State := { (okCores s) with eng.img := img0 }
   s.eng.work = .checking true ∧ s.imageWhy s.eng.img = 0 ∧ rateBlockOf (imgCert s.eng.img) (s.fld F.CLK_MEDIA_CFG_RATE) = some
       b ∧ (s.imgPlan s.eng.img b s.trigRuns).1 = 0 ∧ s.play.running = false) ∧
  (   let b : List Word := blk0
      let s : State := { base with eng.work := .checking true }
      let s : State := { s with play.running := true }
      let s : State := { (okCores s) with eng.img := img0 }
   s.eng.work = .checking true ∧ s.imageWhy s.eng.img = 0 ∧ rateBlockOf (imgCert s.eng.img) (s.fld F.CLK_MEDIA_CFG_RATE) = some
       b ∧ (s.imgPlan s.eng.img b s.trigRuns).1 = 0 ∧ s.play.running = true ∧ s.imgHeld = false) ∧
  (   let s : State := base
   (s.eng.work = .none ∨ s.eng.work = .receiving ∨ s.eng.work = .held)) ∧
  (   let s : State := base
   (s.imgHeld = true ∨ s.eng.work ≠ .held)) ∧
  (   let b : List Word := blk0
      let s : State := { base with eng.work := .held }
      let s : State := { s with play.running := true }
      let s : State := { (okCores s) with eng.img := img0 }
   s.eng.work = .held ∧ s.imgHeld = false ∧ s.play.running = true ∧ rateBlockOf (imgCert s.eng.img) (s.fld F.CLK_MEDIA_CFG_RATE)
       = some b ∧ (s.imgPlan s.eng.img b true).1 = 0) ∧
  (   let b : List Word := blk0
      let s : State := { base with eng.work := .held }
      let s : State := { s with play.running := true }
      let s : State := { s with eng.img := img0 }
   s.eng.work = .held ∧ s.imgHeld = false ∧ s.play.running = true ∧ rateBlockOf (imgCert s.eng.img) (s.fld F.CLK_MEDIA_CFG_RATE)
       = some b ∧ (s.imgPlan s.eng.img b true).1 ≠ 0) := by
  refine ⟨?_, ?_, ⟨?_, ?_, Nat.le_of_eq (List.length_replicate (n := 262144) (a := (1 : Word))).symm⟩, ?_⟩ <;> decide +kernel

theorem witness_MixerAndDelayMemory :
  (   let m : Master := .mp
      let priv : Bool := true
      let s : State := base
      let w : Word := s.reg A.XPT_CFG ^^^ 1
   Direct s m priv A.XPT_CFG ∧ AsItReads s A.XPT_CFG w ∧ s.reg A.XPT_CFG ≠ w) ∧
  (   let n : Nat := 0
      let m : Master := .mp
      let priv : Bool := true
      let s : State := base
      let w : Word := s.reg (xpAdr n 0)
   n < s.xpts ∧ Direct s m priv (xpAdr n 0) ∧ AsItReads s (xpAdr n 0) w) ∧
  (   let n : Nat := 0
      let m : Master := .mp
      let priv : Bool := true
      let w : Word := 5
      let s : State := { base with play.hitches := [some (3, snap0)] }
   n < s.xpts ∧ Direct s m priv (xpAdr n 1) ∧ s.reg (xpAdr n 1) ≠ w) ∧
  (   let n : Nat := 0
      let m : Master := .mp
      let priv : Bool := true
      let s : State := base
      let w : Word := s.reg (xpAdr n 2)
   n < s.xpts ∧ Direct s m priv (xpAdr n 2) ∧ AsItReads s (xpAdr n 2) w) ∧
  (   let n : Nat := 0
      let m : Master := .mp
      let priv : Bool := true
      let s : State := base
   n < s.xpts ∧ Direct s m priv (xpAdr n 3)) ∧
  (   let s : State := { base with play.running := true }
      let s : State := { s with xpt.efs := 300 }
   s.play.running = true ∧ s.xpt.period ≤ s.xpt.efs) ∧
  (   let s : State := base
   (s.play.running = false ∨ s.xpt.efs < s.xpt.period)) ∧
  (   let off : Fin 0x800000 := 0x100
      let b : Nat := dlyBase + 0x100
      let s : State := { base with pwr.trig := false }
   Shaped s ∧ off.val % 4 = 0 ∧ s.apertureAt (0x800000 + off.val) = some b ∧ s.pwr.trig = false ∧ s.unitAwake 2 = true ∧
       s.blockOk 6 = true) ∧
  (   let off : Fin 0x800000 := 0x100
      let b : Nat := dlyBase + 0x100
      let s : State := { base with pwr.trig := false }
   off.val % 4 = 0 ∧ s.apertureAt (0x800000 + off.val) = some b ∧ s.pwr.trig = false ∧ s.unitAwake 2 = true ∧ s.blockOk 6 = true) ∧
  (   let off : Fin 0x800000 := 0
      let s : State := { base with pwr.trig := true }
   Shaped s ∧ off.val % 4 = 0 ∧ (s.apertureAt (0x800000 + off.val) = none ∨ s.pwr.trig = true)) := by decide +kernel

theorem witness_TdmPorts :
  (   let n : Nat := 0
      let s : State := base
      let s : State := { s with tdm := updAt s.tdm n fun k => { k with pendMap := false } }
      let s : State := { s with tdm := updAt s.tdm n fun k => { k with pendCfg := false } }
   n < s.tdmPorts ∧ (s.tp n).pendMap = false ∧ (s.tp n).pendCfg = false ∧ (s.portLive n = false ∨ s.clk.running = false)) ∧
  (   let n : Nat := 0
      let s : State := base
      let s : State := { s with tdm := updAt s.tdm n fun k => { k with pendMap := false } }
      let s : State := { s with tdm := updAt s.tdm n fun k => { k with pendCfg := false } }
      let s : State := { s with tdm := updAt s.tdm n fun k => { k with opCfg := tdmS } }
      let s : State := { s with clk.running := true }
      let s : State := s.set (F.TDM_STATUS_RUNNING n) 1
      let s : State := { s with tdm := updAt s.tdm n fun k => { k with opCfg := tdmM } }
      let s : State := { (s.set (F.TDM_CTL_LOOP n) 0) with play.running := false }
   Shaped s ∧ n < s.tdmPorts ∧ (s.tp n).pendMap = false ∧ (s.tp n).pendCfg = false ∧ s.portLive n = true ∧ s.clk.running = true
       ∧ s.tdmRunning n = true ∧ cfgMaster (s.tp n).opCfg = true ∧ s.fld (F.TDM_CTL_LOOP n) = 0 ∧ s.play.running = false) ∧
  (   let n : Nat := 0
      let dt : Nat := 0
      let k : Nat := 2
      let s : State := base
      let s : State := { s with tdm := updAt s.tdm n fun k => { k with pendMap := false } }
      let s : State := { s with tdm := updAt s.tdm n fun k => { k with pendCfg := false } }
      let s : State := { s with tdm := updAt s.tdm n fun k => { k with opCfg := tdmS } }
      let s : State := { s with clk.running := true }
      let s : State := s.set (F.TDM_STATUS_RUNNING n) 1
      let s : State := { s with tdm := updAt s.tdm n fun k => { k with opCfg := tdmM } }
      let s : State := { (s.set (F.TDM_CTL_LOOP n) 0) with play.running := true }
      let s : State := { s with tdm := updAt s.tdm n fun k => { k with testing := false } }
      let s : State := { s with tdm := updAt s.tdm n fun k => { k with opIn := [0,0,0x80000005,0,0,0] } }
   Shaped s ∧ n < s.tdmPorts ∧ (s.tp n).pendMap = false ∧ (s.tp n).pendCfg = false ∧ s.portLive n = true ∧ s.clk.running = true
       ∧ s.tdmRunning n = true ∧ cfgMaster (s.tp n).opCfg = true ∧ s.fld (F.TDM_CTL_LOOP n) = 0 ∧ s.play.running = true ∧ (s.tp
       n).testing = false ∧ s.mapActs (s.tp n).opCfg (s.tp n).opIn = [k] ∧ k < cfgSlots (s.tp n).opCfg ∧ wbits (getAt (s.tp
       n).opIn k 0) 30 29 = 0 ∧ wbits (s.tp n).opCfg 13 13 = 1 ∧ (s.tp n).zeroTo ≤ (s.advance dt).chainIdx) ∧
  (   let n : Nat := 0
      let dt : Nat := 0
      let s : State := base
      let s : State := { s with tdm := updAt s.tdm n fun k => { k with pendMap := false } }
      let s : State := { s with tdm := updAt s.tdm n fun k => { k with pendCfg := false } }
      let s : State := { s with tdm := updAt s.tdm n fun k => { k with testing := false } }
      let s : State := { s with tdm := updAt s.tdm n fun k => { k with opCfg := tdmS } }
      let s : State := { s with clk.running := true }
      let s : State := { (s.set (F.TDM_STATUS_RUNNING n) 1) with play.running := false }
      let s : State := s.set (F.TDM_STATUS_GAIN_STATE n) 0
   Shaped s ∧ n < s.tdmPorts ∧ (s.tp n).pendMap = false ∧ (s.tp n).pendCfg = false ∧ (s.tp n).testing = false ∧ s.portLive n =
       true ∧ s.clk.running = true ∧ s.tdmRunning n = true ∧ cfgMaster (s.tp n).opCfg = false ∧ s.play.running = false ∧ s.fld
       (F.TDM_STATUS_GAIN_STATE n) = 0 ∧ (s.advance dt).chainIdx ≤ (s.tp n).lastIdx ∧ s.tdmFill n < 8) ∧
  (   let n : Nat := 0
      let s : State := base
      let s : State := { s with tdm := updAt s.tdm n fun k => { k with pendMap := false } }
      let s : State := { s with tdm := updAt s.tdm n fun k => { k with pendCfg := false } }
      let s : State := { s with tdm := updAt s.tdm n fun k => { k with testing := false } }
      let s : State := { s with tdm := updAt s.tdm n fun k => { k with opCfg := tdmS } }
      let s : State := { s with clk.running := true }
      let s : State := { (s.set (F.TDM_STATUS_RUNNING n) 0) with play.running := false }
      let s : State := s.set (F.TDM_CTL_LOOP n) 0
   Shaped s ∧ n < s.tdmPorts ∧ (s.tp n).pendMap = false ∧ (s.tp n).pendCfg = false ∧ (s.tp n).testing = false ∧ s.portLive n =
       true ∧ s.clk.running = true ∧ s.tdmRunning n = false ∧ cfgMaster (s.tp n).opCfg = false ∧ s.play.running = false ∧ s.fld
       (F.TDM_CTL_LOOP n) = 0 ∧ s.on (F.TDM_STATUS_NO_CLOCK n) = false) ∧
  (   let n : Nat := 0
      let s : State := base
      let s : State := { s with tdm := updAt s.tdm n fun k => { k with opCfg := tdmS } }
      let s : State := (s.set (F.TDM_STATUS_NO_CLOCK n) 0).set (F.TDM_STATUS_GAIN_STATE n) 0
   Shaped s ∧ n < s.tdmPorts ∧ s.portLive n = true ∧ cfgMaster (s.tp n).opCfg = false ∧ s.on (F.TDM_STATUS_NO_CLOCK n) = false ∧
       s.fld (F.TDM_STATUS_GAIN_STATE n) = 0) ∧
  (   let n : Nat := 0
      let s : State := base
   n < s.tdmPorts ∧ (cfgMaster (s.tp n).opCfg = true ∨ s.portLive n = false ∨ s.on (F.TDM_STATUS_NO_CLOCK n) = true)) ∧
  (   let n : Nat := 0
      let s : State := base
      let s : State := { s with tdm := updAt s.tdm n fun k => { k with opCfg := tdmS } }
      let s : State := { s with tdm := updAt s.tdm n fun k => { k with opCfg := tdmM } }
   n < s.tdmPorts ∧ s.portLive n = true ∧ cfgMaster (s.tp n).opCfg = true) ∧
  (   let n : Nat := 0
      let mHz : Nat := 0
      let s : State := base
      let s : State := { s with tdm := updAt s.tdm n fun k => { k with opCfg := tdmS } }
      let s : State := (s.set (F.TDM_STATUS_WRONG_RATE n) 0).set (F.TDM_STATUS_GAIN_STATE n) 0
   Shaped s ∧ n < s.tdmPorts ∧ s.portLive n = true ∧ cfgMaster (s.tp n).opCfg = false ∧ rateClass mHz ≠ s.fld
       F.CLK_MEDIA_CFG_RATE ∧ s.on (F.TDM_STATUS_WRONG_RATE n) = false ∧ s.fld (F.TDM_STATUS_GAIN_STATE n) = 0) ∧
  (   let n : Nat := 0
      let mHz : Nat := 48000000
      let s : State := base
      let s : State := { s with tdm := updAt s.tdm n fun k => { k with opCfg := tdmS } }
      let s : State := (s.set (F.TDM_STATUS_WRONG_RATE n) 1).set (F.TDM_STATUS_NO_CLOCK n) 0
   Shaped s ∧ n < s.tdmPorts ∧ s.portLive n = true ∧ cfgMaster (s.tp n).opCfg = false ∧ rateClass mHz = s.fld
       F.CLK_MEDIA_CFG_RATE ∧ s.on (F.TDM_STATUS_WRONG_RATE n) = true ∧ s.on (F.TDM_STATUS_NO_CLOCK n) = false) ∧
  (   let n : Nat := 0
      let s : State := base.set (F.TDM_STATUS_GAIN_STATE n) 1
   Shaped s ∧ n < s.tdmPorts ∧ s.fld (F.TDM_STATUS_GAIN_STATE n) = 1) ∧
  (   let n : Nat := 0
      let s : State := base.set (F.TDM_STATUS_GAIN_STATE n) 2
      let s : State := { s with tdm := updAt s.tdm n fun k => { k with clean := 2 } }
   Shaped s ∧ n < s.tdmPorts ∧ s.fld (F.TDM_STATUS_GAIN_STATE n) = 2 ∧ 2 ≤ (s.tp n).clean) ∧
  (   let n : Nat := 0
      let s : State := base
   n < s.tdmPorts ∧ (s.fld (F.TDM_STATUS_GAIN_STATE n) ≠ 2 ∨ (s.tp n).clean < 2)) ∧
  (   let n : Nat := 0
      let s : State := base.set (F.TDM_STATUS_GAIN_STATE n) 3
   n < s.tdmPorts ∧ s.fld (F.TDM_STATUS_GAIN_STATE n) = 3) ∧
  (   let n : Nat := 0
      let m : Master := .mp
      let priv : Bool := true
      let s : State := base.set (F.TDM_STATUS_RUNNING n) 1
      let w : Word := s.reg (A.TDM_PORT_CFG 0) ^^^ 0x80000000
   Shaped s ∧ n < s.tdmPorts ∧ Direct s m priv (A.TDM_PORT_CFG n) ∧ AsItReads s (A.TDM_PORT_CFG n) w ∧ s.reg (A.TDM_PORT_CFG n)
       ≠ w ∧ (F.TDM_PORT_CFG_FORMAT n).of w.toNat ≠ 3 ∧ (F.TDM_PORT_CFG_SLOT_W n).of w.toNat ≠ 3 ∧
       (F.TDM_PORT_CFG_DATA_W n).of w.toNat ≠ 3 ∧ s.tdmRunning n = true) ∧
  (   let n : Nat := 0
      let m : Master := .mp
      let priv : Bool := true
      let s : State := base.set (F.TDM_STATUS_RUNNING n) 0
      let s : State := { s with tdm := updAt s.tdm n fun k => { k with testing := false } }
      let w : Word := s.reg (A.TDM_PORT_CFG 0) ^^^ 0x80280000
   Shaped s ∧ n < s.tdmPorts ∧ Direct s m priv (A.TDM_PORT_CFG n) ∧ AsItReads s (A.TDM_PORT_CFG n) w ∧ s.reg (A.TDM_PORT_CFG n)
       ≠ w ∧ (F.TDM_PORT_CFG_FORMAT n).of w.toNat ≠ 3 ∧ (F.TDM_PORT_CFG_SLOT_W n).of w.toNat ≠ 3 ∧
       (F.TDM_PORT_CFG_DATA_W n).of w.toNat ≠ 3 ∧ s.on (F.TDM_STATUS_NO_CLOCK n) = false ∧ s.tdmRunning n = false ∧
       (s.tp n).testing = false) ∧
  (   let n : Nat := 0
      let m : Master := .mp
      let priv : Bool := true
      let s : State := base
      let w : Word := BitVec.ofNat 32 ((F.TDM_PORT_CFG_FORMAT n).into (s.reg (A.TDM_PORT_CFG n)).toNat (3))
   n < s.tdmPorts ∧ Direct s m priv (A.TDM_PORT_CFG n) ∧ AsItReads s (A.TDM_PORT_CFG n) w ∧ (F.TDM_PORT_CFG_FORMAT n).of w.toNat
       = 3 ∧ s.fld (F.TDM_PORT_CFG_FORMAT n) ≠ 3) ∧
  (   let n : Nat := 0
      let m : Master := .mp
      let priv : Bool := true
      let s : State := (base.set (F.TDM_CTL_MUTE n) 0).set (F.TDM_STATUS_GAIN_STATE n) 0
   Shaped s ∧ n < s.tdmPorts ∧ Direct s m priv (A.TDM_CTL n) ∧ s.on (F.TDM_CTL_MUTE n) = false ∧ s.fld (F.TDM_STATUS_GAIN_STATE
       n) = 0) ∧
  (   let n : Nat := 0
      let m : Master := .mp
      let priv : Bool := true
      let s : State := base.set (F.TDM_CTL_MUTE n) 1
   Shaped s ∧ n < s.tdmPorts ∧ Direct s m priv (A.TDM_CTL n) ∧ s.on (F.TDM_CTL_MUTE n) = true) ∧
  (   let n : Nat := 0
      let m : Master := .mp
      let priv : Bool := true
      let s : State := base
   n < s.tdmPorts ∧ Direct s m priv (A.TDM_CTL n)) ∧
  (   let n : Nat := 0
      let output : Bool := true
      let k : Fin 32 := 0
      let m : Master := .mp
      let priv : Bool := true
      let s : State := base
      let w : Word := s.reg (A.TDM_OUT_MAP 0 0) ^^^ 0x80000000
      let a := if output then A.TDM_OUT_MAP n k.val else A.TDM_IN_MAP n k.val
   Shaped s ∧ n < s.tdmPorts ∧ Direct s m priv a ∧ AsItReads s a w ∧ s.reg a ≠ w) := by decide +kernel

theorem witness_ProofLines :
  (   let n : Nat := 0
      let k : Fin 16 := 3
      let m : Master := .mp
      let priv : Bool := true
      let s : State := { base with scp.holds := [] }
      let s : State := s.set (F.TBL_PLINE_W0_EN n) 1
      let x : Word := 0x12340000
   n < s.lines ∧ 1 ≤ k.val ∧ k.val < 8 ∧ Direct s m priv (lineAdr n k.val) ∧ AsItReads s (lineAdr n k.val) x ∧ s.scp.holds = []
       ∧ s.on (F.TBL_PLINE_W0_EN n) = true) ∧
  (   let n : Nat := 0
      let m : Master := .mp
      let priv : Bool := true
      let s : State := base.set (F.TBL_PLINE_W0_EN n) 0
      let x : Word := BitVec.ofNat 32 ((F.TBL_PLINE_W0_EN n).into (s.reg (lineAdr n 0)).toNat (1))
   n < s.lines ∧ Direct s m priv (lineAdr n 0) ∧ AsItReads s (lineAdr n 0) x ∧ s.on (F.TBL_PLINE_W0_EN n) = false ∧
       (F.TBL_PLINE_W0_EN n).of x.toNat = 1) ∧
  (   let n : Nat := 0
      let m : Master := .mp
      let priv : Bool := true
      let s : State := base
      let s : State := s.lineUpd n fun k => { k with perm := false }
      let x : Word := BitVec.ofNat 32 ((F.TBL_PLINE_W0_EN n).into (s.reg (lineAdr n 0)).toNat (0))
   n < s.lines ∧ Direct s m priv (lineAdr n 0) ∧ AsItReads s (lineAdr n 0) x ∧ (F.TBL_PLINE_W0_EN n).of x.toNat = 0 ∧ (s.line
       n).perm = false) ∧
  (   let n : Nat := 0
      let k : Fin 16 := 9
      let m : Master := .mp
      let priv : Bool := true
      let s : State := base
      let x : Word := s.reg (lineAdr n k.val)
   n < s.lines ∧ 8 ≤ k.val ∧ Direct s m priv (lineAdr n k.val) ∧ AsItReads s (lineAdr n k.val) x) ∧
  (   let n : Nat := 0
      let s : State := base
      let s : State := s.lineUpd n fun k => { k with change := .none }
   n < s.lines ∧ (s.line n).change = .none) ∧
  (   let n : Nat := 0
      let s : State := base
      let s : State := s.lineUpd n fun k => { k with change := .spareFade }
   n < s.lines ∧ (s.line n).change = .spareFade) ∧
  (   let n : Nat := 0
      let s : State := base
      let s : State := ((s.lineUpd n fun k => { k with change := .spareRamp }).set (F.TBL_PLINE_W0_OUT_SLOT 1) 3).set (F.TBL_PLINE_W0_SPARE_LINE 0) 1
   n < s.lines ∧ (s.line n).change = .spareRamp ∧ s.lineKey n ≠ s.lineKey (s.spareOf n) ∧ (s.slotG (s.lineKey n)).state = 0) ∧
  (   let n : Nat := 0
      let s : State := base
      let s : State := s.lineUpd n fun k => { k with change := .lineFade }
   n < s.lines ∧ (s.line n).change = .lineFade) ∧
  (   let n : Nat := 0
      let s : State := base
      let s : State := ((s.lineUpd n fun k => { k with change := .backRamp }).set (F.TBL_PLINE_W0_OUT_SLOT 1) 3).set (F.TBL_PLINE_W0_SPARE_LINE 0) 1
   n < s.lines ∧ (s.line n).change = .backRamp ∧ s.lineKey n ≠ s.lineKey (s.spareOf n) ∧ (s.slotG (s.lineKey (s.spareOf
       n))).state = 0) ∧
  (   let n : Nat := 0
      let s : State := base
      let s : State := s.lineUpd n fun k => { k with change := .backSpareFade }
   n < s.lines ∧ (s.line n).change = .backSpareFade) ∧
  (   let n : Nat := 0
      let s : State := base
      let s : State := s.lineUpd n fun k => { k with noSense := true }
      let s : State := s.lineUpd n fun k => { k with supervision := false }
   n < s.lines ∧ (s.line n).noSense = true ∧ (s.line n).supervision = false) ∧
  (   let n : Nat := 0
      let s : State := base
   n < s.lines ∧ ((s.line n).noSense = false ∨ (s.line n).supervision = true)) ∧
  (   let n : Nat := 0
      let s : State := base
      let s : State := (s.lineUpd n fun k => { k with unproven := true }).set (F.TBL_PLINE_W10_UNPROVEN n) 0
   n < s.lines ∧ (s.line n).unproven = true ∧ s.on (F.TBL_PLINE_W10_UNPROVEN n) = false) ∧
  (   let n : Fin 256 := 0
      let m : Master := .mp
      let priv : Bool := true
      let s : State := ((base.set (F.TBL_PLINE_W0_EN n.val) 1).set (F.TBL_PLINE_W10_CARRYING n.val) 0).set (F.TBL_PLINE_W10_CHANGED n.val) 0
   n.val < s.lines ∧ Direct s m priv A.PROOF_CMD ∧ s.lineUp n.val = true ∧ s.lineState n.val ≠ 3 ∧ s.lineState n.val ≠ 4 ∧ s.on
       (F.TBL_PLINE_W10_CARRYING n.val) = false ∧ s.on (F.TBL_PLINE_W10_CHANGED n.val) = false) ∧
  (   let n : Fin 256 := 0
      let m : Master := .mp
      let priv : Bool := true
      let s : State := base
   Direct s m priv A.PROOF_CMD ∧ (s.lines ≤ n.val ∨ s.lineUp n.val = false)) ∧
  (   let n : Fin 256 := 0
      let m : Master := .mp
      let priv : Bool := true
      let s : State := base.set (F.TBL_PLINE_W0_EN n.val) 1
      let s : State := s.lineUpd n.val fun k => { k with perm := false }
      let s : State := s.lineUpd n.val fun k => { k with change := .none }
   n.val < s.lines ∧ Direct s m priv A.PROOF_CMD ∧ s.lineUp n.val = true ∧ s.lineState n.val ≠ 4 ∧ (s.line n.val).perm = false ∧
       (s.line n.val).change = .none ∧ s.spareFree n.val byCommand = false ∧ s.class7 = false ∧ (s.slotG (s.lineKey
       n.val)).state = 0) ∧
  (   let n : Fin 256 := 0
      let m : Master := .mp
      let priv : Bool := true
      let s : State := base.set (F.TBL_PLINE_W0_EN n.val) 1
      let s : State := s.lineUpd n.val fun k => { k with perm := false }
      let s : State := ((s.lineUpd n.val fun k => { k with change := .none }).set (F.TBL_LAY_W2_ACTIVE 0) 1).set (F.TBL_LAY_W0_CLASS 0) 7
   n.val < s.lines ∧ Direct s m priv A.PROOF_CMD ∧ s.lineUp n.val = true ∧ s.lineState n.val ≠ 4 ∧ (s.line n.val).perm = false ∧
       (s.line n.val).change = .none ∧ s.spareFree n.val byCommand = false ∧ s.class7 = true) ∧
  (   let n : Fin 256 := 0
      let m : Master := .mp
      let priv : Bool := true
      let s : State := (base.set (F.TBL_PLINE_W0_EN n.val) 1).set (F.TBL_PLINE_W10_STATE n.val) 1
      let s : State := s.lineUpd n.val fun k => { k with perm := false }
   let s : State := (((((s.lineUpd n.val fun k => { k with change := .none }).set (F.TBL_PLINE_W0_EN 1) 1).set
       (F.TBL_PLINE_W10_STATE 1) 1).set (F.TBL_PLINE_W0_OUT_SLOT 1) 3).set (F.TBL_PLINE_W0_SPARE_LINE 0) 1).set
       (F.TBL_PLINE_W0_SPARE_EN 0) 1
   n.val < s.lines ∧ Direct s m priv A.PROOF_CMD ∧ s.lineUp n.val = true ∧ s.lineState n.val = 1 ∧ (s.line n.val).perm = false ∧
       (s.line n.val).change = .none ∧ s.spareFree n.val byCommand = true ∧ (s.slotG (s.lineKey (s.spareOf n.val))).state = 0) ∧
  (   let n : Fin 256 := 0
      let m : Master := .mp
      let priv : Bool := true
      let s : State := (base.set (F.TBL_PLINE_W0_EN n.val) 1).set (F.TBL_PLINE_W10_STATE n.val) 4
      let s : State := s.slotSilent (s.lineKey n.val)
   n.val < s.lines ∧ Direct s m priv A.PROOF_CMD ∧ s.lineUp n.val = true ∧ s.lineState n.val = 4 ∧ (s.line n.val).change = .none ∧
       (s.slotG (s.lineKey n.val)).state = 2 ∧ (∀ k < s.lines, s.lineState k ≠ 3) ∧ s.class7 = false) ∧
  (   let n : Fin 256 := 0
      let m : Master := .mp
      let priv : Bool := true
      let s : State := (base.set (F.TBL_PLINE_W0_EN n.val) 1).set (F.TBL_PLINE_W10_STATE n.val) 2
   n.val < s.lines ∧ Direct s m priv A.PROOF_CMD ∧ s.lineUp n.val = true ∧ s.lineState n.val = 2 ∧ (s.line n.val).perm = false) ∧
  (   let n : Nat := 0
      let s : State := base
      let s : State := s.lineUpd 0 fun k => { k with comm := some [] }
   n < s.lines ∧ (s.line n).comm.isSome = true) ∧
  (   let n : Nat := 0
      let s : State := base
      let s : State := s.lineUpd n fun k => { k with comm := none }
   n < s.lines ∧ (s.line n).comm = none) := by decide +kernel

theorem witness_ProofRuns :
  (   let m : Master := .mp
      let priv : Bool := true
      let s : State := base.set F.SYS_MOD_STATE_STATE 4
   Direct s m priv A.PROOF_CMD ∧ s.runOn = false ∧ s.modState = 4) ∧
  (   let m : Master := .mp
      let priv : Bool := true
      let s : State := base
   Direct s m priv A.PROOF_CMD ∧ (s.runOn = true ∨ (s.modState ≠ 4 ∧ s.modState ≠ 5))) ∧
  (   let m : Master := .mp
      let priv : Bool := true
      let s : State := base.set F.PROOF_RUN_STATUS_STATE 2
   Direct s m priv A.PROOF_CMD ∧ s.runOn = true) ∧
  (   let m : Master := .mp
      let priv : Bool := true
      let s : State := base
   Direct s m priv A.PROOF_CMD ∧ s.runOn = false) ∧
  (   let s : State := base.set F.PROOF_RUN_STATUS_STATE 2
   s.runOn = true) ∧
  (   let s : State := base
   s.runOn = false) ∧
  (   let m : Master := .mp
      let priv : Bool := true
      let s : State := base
   Direct s m priv A.PROOF_CMD) ∧
  (   let n : Nat := 0
      let s : State := { ((base.set F.PROOF_RUN_STATUS_STATE 1).set F.PROOF_RUN_STATUS_ABORTS 0) with test.running := none }
      let s : State := ((s.set (F.TBL_PLINE_W0_EN 0) 1).set (F.TBL_PLINE_W0_SIG_VALID 0) 1).set (F.TBL_PLINE_W10_STATE 0) 1
   s.fld F.PROOF_RUN_STATUS_STATE = 1 ∧ s.fld F.PROOF_RUN_STATUS_ABORTS = 0 ∧ s.yielding = false ∧ s.test.running = none ∧
       s.test.reinit = none ∧ n < s.lines ∧ s.sweepable n = true ∧ (s.line n).sweep = none) ∧
  (   let s : State := base
   (s.fld F.PROOF_RUN_STATUS_STATE ≠ 1 ∨ s.yielding = true ∨ s.testBusy (fun b => audioConcerns b && !s.yields b) = true)) ∧
  (   let k : Nat := 0
      let s : State := { (base.set F.PROOF_RUN_STATUS_STATE 3) with proof.path := some k }
   s.fld F.PROOF_RUN_STATUS_STATE = 3 ∧ s.proof.path = some k ∧ k < 1000) ∧
  (   let s : State := { (base.set F.PROOF_RUN_STATUS_STATE 3) with proof.path := some 1000 }
   s.fld F.PROOF_RUN_STATUS_STATE = 3 ∧ s.proof.path = some 1000) ∧
  (   let s : State := base
   (s.runOn = false ∨ s.proof.path = none)) ∧
  (   let k : Nat := 0
      let s : State := ((base.set (F.TBL_PATH_W0_VALID k) 1).set (F.TBL_PATH_W3_RESULT_A k) 0).set (F.TBL_PATH_W3_RESULT_B k) 0
   k < 128 ∧ s.on (F.TBL_PATH_W0_VALID k) = true ∧ s.fld (F.TBL_PATH_W3_RESULT_A k) = 0 ∧ s.fld (F.TBL_PATH_W3_RESULT_B k) = 0 ∧
       s.mgmt.staging.length < 256) ∧
  (   let k : Nat := 0
      let s : State := base
   k < 128 ∧ (s.on (F.TBL_PATH_W0_VALID k) = false ∨ s.fld (F.TBL_PATH_W3_RESULT_A k) ≠ 0 ∨ s.fld (F.TBL_PATH_W3_RESULT_B k) ≠
       0)) := by decide +kernel

theorem witness_SpliceStacking :
  (   let p : Splice := .up
      let s : State := base.set (F.SPLICE_PORT_STATUS_LINK p.idx) 0
   s.spliceOn = true ∧ s.spliceEn p.idx = true ∧ s.spliceUp p.idx = false) ∧
  (   let p : Splice := .up
      let s : State := base.set (F.SPLICE_PORT_STATUS_LINK 0) 1
   (s.spliceOn = false ∨ s.spliceEn p.idx = false ∨ s.spliceUp p.idx = true)) ∧
  (   let p : Splice := .up
      let s : State := base.set (F.SPLICE_PORT_STATUS_LINK p.idx) 1
   Shaped s ∧ s.spliceUp p.idx = true) ∧
  (   let p : Splice := .up
      let s : State := base.set (F.SPLICE_PORT_STATUS_LINK p.idx) 0
   s.spliceUp p.idx = false) ∧
  (   let m : Master := .mp
      let priv : Bool := true
      let s : State := base.set (F.SPLICE_PORT_STATUS_LINK 0) 1
   Shaped s ∧ Direct s m priv A.SPLICE_CTL ∧ s.spliceUp 0 = true) ∧
  (   let m : Master := .mp
      let priv : Bool := true
      let s : State := base.set (F.SPLICE_PORT_STATUS_LINK 1) 1
   Shaped s ∧ Direct s m priv A.SPLICE_CTL ∧ s.spliceUp 1 = true) ∧
  (   let m : Master := .mp
      let priv : Bool := true
      let s : State := base
   Direct s m priv A.SPLICE_CTL) ∧
  (   let m : Master := .mp
      let priv : Bool := true
      let s : State := base
      let x : Word := BitVec.ofNat 32 (F.SPLICE_CFG_DN_EN.into (BitVec.ofNat 32 (F.SPLICE_CFG_UP_EN.into (s.reg A.SPLICE_CFG).toNat (1))).toNat (1))
   Direct s m priv A.SPLICE_CFG ∧ AsItReads s A.SPLICE_CFG x ∧ F.SPLICE_CFG_UP_EN.of x.toNat = 1 ∧ F.SPLICE_CFG_DN_EN.of x.toNat
       = 1 ∧ (s.modState = 2 ∨ F.SPLICE_CFG_MODE.of x.toNat = s.fld F.SPLICE_CFG_MODE)) ∧
  (   let m : Master := .mp
      let priv : Bool := true
      let s : State := base
   let x : Word := BitVec.ofNat 32 (F.SPLICE_CFG_MODE.into (BitVec.ofNat 32 (F.SPLICE_CFG_DN_EN.into (BitVec.ofNat 32
       (F.SPLICE_CFG_UP_EN.into (s.reg A.SPLICE_CFG).toNat (1))).toNat (1))).toNat (s.fld F.SPLICE_CFG_MODE + 1))
   Direct s m priv A.SPLICE_CFG ∧ AsItReads s A.SPLICE_CFG x ∧ F.SPLICE_CFG_UP_EN.of x.toNat = 1 ∧ F.SPLICE_CFG_DN_EN.of x.toNat
       = 1 ∧ s.modState ≠ 2 ∧ F.SPLICE_CFG_MODE.of x.toNat ≠ s.fld F.SPLICE_CFG_MODE) ∧
  (   let m : Master := .mp
      let priv : Bool := true
      let s : State := base.set (F.SPLICE_PORT_STATUS_LINK 0) 1
   let x : Word := BitVec.ofNat 32 (F.SPLICE_CFG_MODE.into (BitVec.ofNat 32 (F.SPLICE_CFG_DN_EN.into (BitVec.ofNat 32
       (F.SPLICE_CFG_UP_EN.into (s.reg A.SPLICE_CFG).toNat (0))).toNat (1))).toNat (s.fld F.SPLICE_CFG_MODE))
   Shaped s ∧ Direct s m priv A.SPLICE_CFG ∧ AsItReads s A.SPLICE_CFG x ∧ F.SPLICE_CFG_UP_EN.of x.toNat = 0 ∧
       F.SPLICE_CFG_DN_EN.of x.toNat = 1 ∧ F.SPLICE_CFG_MODE.of x.toNat = s.fld F.SPLICE_CFG_MODE ∧ s.reg A.SPLICE_CFG ≠ x ∧
       s.spliceUp 0 = true) ∧
  (   let p : Splice := .up
      let s : State := base
   (s.spliceOn = false ∨ s.spliceUp p.idx = false)) ∧
  (   let p : Splice := .up
      let f : SpliceFrame := { sf0 with crcOk := false }
      let s : State := base.set (F.SPLICE_PORT_STATUS_LINK p.idx) 1
   s.spliceOn = true ∧ s.spliceUp p.idx = true ∧ f.crcOk = false ∧ (s.sp p.idx).crcEfs.length < 15) ∧
  (   let p : Splice := .up
      let f : SpliceFrame := { sf0 with crcOk := false }
      let s : State := base.set (F.SPLICE_PORT_STATUS_LINK p.idx) 1
      let s : State := { s with splice.ports := updAt s.splice.ports p.idx fun k => { k with crcEfs := List.replicate 15 0 } }
   Shaped s ∧ s.spliceOn = true ∧ s.spliceUp p.idx = true ∧ f.crcOk = false ∧ (s.sp p.idx).crcEfs.length = 15 ∧ (∀ e ∈ (s.sp
       p.idx).crcEfs, s.clk.lastEf < e + 1000)) ∧
  (   let f : SpliceFrame := sf0
      let s : State := { (base.set (F.SPLICE_PORT_STATUS_LINK 1) 1) with play.running := false }
      let s : State := s.set F.SPLICE_STATUS_ROLE 1
   Shaped s ∧ s.spliceOn = true ∧ s.spliceUp 1 = true ∧ Bare f ∧ s.leads = true ∧ s.play.running = false) ∧
  (   let f : SpliceFrame := { sf0 with upLost := false }
      let f : SpliceFrame := { f with rate := 1 }
      let f : SpliceFrame := { f with pos := 1 }
      let s : State := ((base.set (F.SPLICE_PORT_STATUS_LINK 0) 1).set F.SPLICE_STATUS_ROLE 0).set F.SPLICE_STATUS_STRAP 0
   s.spliceOn = true ∧ s.spliceUp 0 = true ∧ Bare f ∧ s.role = 0 ∧ s.on F.SPLICE_STATUS_STRAP = false ∧ f.pos < 3 ∧ f.rate =
       s.fld F.CLK_MEDIA_CFG_RATE ∧ f.upLost = false) ∧
  (   let f : SpliceFrame := sf0
      let s : State := ((base.set (F.SPLICE_PORT_STATUS_LINK 0) 1).set F.SPLICE_STATUS_ROLE 0).set F.SPLICE_STATUS_STRAP 0
   s.spliceOn = true ∧ s.spliceUp 0 = true ∧ Bare f ∧ s.role = 0 ∧ s.on F.SPLICE_STATUS_STRAP = false ∧ f.pos < 3 ∧ f.rate ≠
       s.fld F.CLK_MEDIA_CFG_RATE) ∧
  (   let f : SpliceFrame := { sf0 with pos := 3 }
      let s : State := ((base.set (F.SPLICE_PORT_STATUS_LINK 0) 1).set F.SPLICE_STATUS_ROLE 0).set F.SPLICE_STATUS_STRAP 0
   s.spliceOn = true ∧ s.spliceUp 0 = true ∧ Bare f ∧ s.role = 0 ∧ s.on F.SPLICE_STATUS_STRAP = false ∧ 3 ≤ f.pos) ∧
  (   let f : SpliceFrame := { sf0 with acting := false }
      let f : SpliceFrame := { f with upLost := false }
      let f : SpliceFrame := { f with rate := 1 }
      let f : SpliceFrame := { f with pos := 1 }
      let s : State := { (((base.set (F.SPLICE_PORT_STATUS_LINK 0) 1).set F.SPLICE_STATUS_ROLE 1).set F.SPLICE_STATUS_STRAP 1) with splice.asMember := false }
   s.spliceOn = true ∧ s.spliceUp 0 = true ∧ Bare f ∧ s.role = 1 ∧ s.on F.SPLICE_STATUS_STRAP = true ∧ s.splice.asMember = false
       ∧ f.acting = false ∧ f.upLost = false ∧ f.pos < 3 ∧ f.rate = s.fld F.CLK_MEDIA_CFG_RATE) ∧
  (   let f : SpliceFrame := { sf0 with ef := 77, audio := [(4, (List.range 64).map fun k => BitVec.ofNat 32 (k + 5))] }
      let f : SpliceFrame := { f with acting := false }
      let n : Nat := 4
      let slot : Nat := 9
      let ws : List Word := (List.range 64).map fun k => BitVec.ofNat 32 (k + 5)
      let s : State := { (base.set (F.SPLICE_PORT_STATUS_LINK 1) 1) with play.running := true }
      let s : State := (s.set F.SYS_MOD_STATE_STATE 4).wr (A.TBL_SPL_DN_RX 4) 0x80000009
   s.spliceOn = true ∧ s.spliceUp 1 = true ∧ Bare f ∧ s.play.running = true ∧ s.modState = 4 ∧ s.role ≠ 5 ∧ f.acting = false ∧
       s.rxSlots 1 = [(n, slot)] ∧ f.audio = [(n, ws)]) ∧
  (   let f : SpliceFrame := { sf0 with acting := false }
      let f : SpliceFrame := { f with audio := [] }
      let n : Nat := 4
      let slot : Nat := 9
      let s : State := { (base.set (F.SPLICE_PORT_STATUS_LINK 1) 1) with play.running := true }
      let s : State := (s.set F.SYS_MOD_STATE_STATE 4).wr (A.TBL_SPL_DN_RX 4) 0x80000009
   s.spliceOn = true ∧ s.spliceUp 1 = true ∧ Bare f ∧ s.play.running = true ∧ s.modState = 4 ∧ s.role ≠ 5 ∧ f.acting = false ∧
       s.rxSlots 1 = [(n, slot)] ∧ f.audio = []) ∧
  (   let s : State := { base with play.running := false }
      let s : State := { ((s.set F.SPLICE_STATUS_ROLE 3).set (F.SPLICE_PORT_STATUS_DELAY_VALID 0) 1) with splice.align := false }
      let s : State := { s with splice.ports := updAt s.splice.ports 0 fun k => { k with heard := some (5, 100000) } }
      let s : State := { s with splice.ports := updAt s.splice.ports 0 fun k => { k with frame := some sf0 } }
   s.play.running = false ∧ s.role = 3 ∧ s.on (F.SPLICE_PORT_STATUS_DELAY_VALID 0) = true ∧ s.splice.align = false ∧ 3 ≤
       s.modState ∧ s.syncRef.isSome = true) ∧
  (   let s : State := { base with play.running := true }
      let s : State := { ((s.set F.SPLICE_STATUS_ROLE 3).set (F.SPLICE_PORT_STATUS_DELAY_VALID 0) 1) with splice.align := false }
      let s : State := { s with splice.ports := updAt s.splice.ports 0 fun k => { k with heard := some (5, 100000) } }
      let s : State := { s with splice.ports := updAt s.splice.ports 0 fun k => { k with frame := some sf0 } }
   s.play.running = true ∧ s.role = 3 ∧ s.on (F.SPLICE_PORT_STATUS_DELAY_VALID 0) = true ∧ s.splice.align = false ∧ 3 ≤
       s.modState ∧ s.syncRef.isSome = true) ∧
  (   let s : State := base
   s.role ≠ 3) ∧
  (   let dt : Nat := 0
      let s : State := { (base.set F.CLK_REF_STATUS_SPLICE_MEMBER 1) with splice.upLost := false }
   s.spliceMember = true ∧ s.splice.upLost = false ∧ (∀ h ∈ (s.sp 0).heard, h.2 + s.smpUp (2 * s.efLen) ≤ s.time.up + dt)) ∧
  (   let s : State := base
   (s.spliceMember = false ∨ s.splice.upLost = true)) ∧
  (   let dt : Nat := secU
      let t0 : Nat := 0
      let s : State := base
      let s : State := { s with splice.ports := updAt s.splice.ports 0 fun k => { k with frameUp := some t0 } }
   s.spliceOn = true ∧ s.leads = false ∧ (s.sp 0).frameUp = some t0 ∧ t0 + 50 * msU ≤ s.time.up + dt) ∧
  (   let dt : Nat := 0
      let t0 : Nat := 0
      let s : State := base
      let s : State := { s with splice.ports := updAt s.splice.ports 0 fun k => { k with frameUp := some t0 } }
   (s.sp 0).frameUp = some t0 ∧ (s.spliceOn = false ∨ s.leads = true ∨ s.time.up + dt < t0 + 50 * msU)) ∧
  (   let m : Master := .mp
      let priv : Bool := true
      let s : State := base.set F.SPLICE_STATUS_ROLE 2
   Direct s m priv A.SPLICE_CTL ∧ s.role = 2) ∧
  (   let m : Master := .mp
      let priv : Bool := true
      let s : State := base
   Direct s m priv A.SPLICE_CTL ∧ s.role ≠ 2) ∧
  (   let dt : Nat := 20 * secU
      let t0 : Nat := 0
      let s : State := { base with splice.strapUp := some t0 }
      let s : State := (s.set F.SPLICE_CFG_REVERT 1).set F.SPLICE_STATUS_ROLE 2
   s.splice.strapUp = some t0 ∧ s.on F.SPLICE_CFG_REVERT = true ∧ t0 + 10 * secU ≤ s.time.up + dt ∧ s.role = 2) ∧
  (   let dt : Nat := 0
      let t0 : Nat := 0
      let s : State := { base with splice.strapUp := some t0 }
   s.splice.strapUp = some t0 ∧ (s.on F.SPLICE_CFG_REVERT = false ∨ s.time.up + dt < t0 + 10 * secU)) := by decide +kernel

theorem witness_HostPaths :
  (   let m : Master := .mp
      let priv : Bool := true
      let s : State := base.set F.SPLICE_FWD_CTL_BUSY 1
   Direct s m priv A.SPLICE_FWD_CTL ∧ s.on F.SPLICE_FWD_CTL_BUSY = true) ∧
  (   let m : Master := .mp
      let priv : Bool := true
      let s : State := (base.set F.SPLICE_FWD_CTL_BUSY 0).set F.SPLICE_FWD_ADDR_ADDR 2
   Direct s m priv A.SPLICE_FWD_CTL ∧ s.on F.SPLICE_FWD_CTL_BUSY = false ∧ s.fld F.SPLICE_FWD_ADDR_ADDR % 4 ≠ 0) ∧
  (   let m : Master := .mp
      let priv : Bool := true
      let s : State := base.set F.SPLICE_FWD_CTL_BUSY 0
   Direct s m priv A.SPLICE_FWD_CTL ∧ s.on F.SPLICE_FWD_CTL_BUSY = false ∧ s.fld F.SPLICE_FWD_ADDR_ADDR % 4 = 0 ∧ (s.fld
       F.SPLICE_FWD_ADDR_POS = 0 ∨ s.fld F.SPLICE_STATUS_STACK_SIZE ≤ s.fld F.SPLICE_FWD_ADDR_POS)) ∧
  (   let m : Master := .mp
      let priv : Bool := true
      let pos : Nat := 1
      let s : State := ((((base.set F.SPLICE_FWD_CTL_BUSY 0).set F.SPLICE_FWD_ADDR_POS pos).set F.SPLICE_FWD_ADDR_POS 1).set F.SPLICE_STATUS_STACK_SIZE 3).set F.SPLICE_FWD_ADDR_ADDR 0x20
   Shaped s ∧ Direct s m priv A.SPLICE_FWD_CTL ∧ s.on F.SPLICE_FWD_CTL_BUSY = false ∧ s.fld F.SPLICE_FWD_ADDR_ADDR % 4 = 0 ∧
       s.fld F.SPLICE_FWD_ADDR_POS = pos ∧ pos ≠ 0 ∧ pos < s.fld F.SPLICE_STATUS_STACK_SIZE ∧ (s.sp (s.towards pos)).ctrl.length
       < 64) ∧
  (   let r : Nat := 3
      let w : Nat := 5
      let f : SpliceFrame := { sf0 with ctrl := [.done 0 3 5] }
      let f : SpliceFrame := { f with crcOk := true }
      let f : SpliceFrame := { f with echo := none }
      let read : Bool := true
      let s : State := { (base.set (F.SPLICE_PORT_STATUS_LINK 1) 1) with play.running := false }
      let s : State := { s with splice.fwd := some read }
   s.spliceOn = true ∧ s.spliceUp 1 = true ∧ f.crcOk = true ∧ f.echo = none ∧ s.play.running = false ∧ s.splice.fwd = some read
       ∧ f.ctrl = [.done s.position r w] ∧ r < 16) ∧
  (   let s : State := base.set F.SPLICE_FWD_CTL_BUSY 1
   s.on F.SPLICE_FWD_CTL_BUSY = true) ∧
  (   let s : State := base.set F.SPLICE_FWD_CTL_BUSY 0
   s.on F.SPLICE_FWD_CTL_BUSY = false) ∧
  (   let adr : Nat := 2
      let count : Nat := 0
      let rx : Nat := 0
      let quad : Bool := true
      let crc : Bool := false
      let incr : Bool := true
      let s : State := base
   (adr % 4 ≠ 0 ∨ (crc = false ∧ s.on F.SYS_SPI_CFG_CRC_REQ = true)) ∧ (crc = false ∨ rx = crc16 (SpiHead.mk true quad crc incr
       adr count).bytes)) ∧
  (   let adr : Nat := 0
      let count : Nat := 0
      let rx : Nat := 0
      let quad : Bool := true
      let incr : Bool := true
   adr % 4 = 0 ∧ rx ≠ crc16 (SpiHead.mk true quad true incr adr count).bytes) ∧
  (   let adr : Nat := 0
      let s : State := (base.set F.SYS_SPI_CFG_CRC_REQ 0).set F.SYS_ACC_STATUS_SPI_PRIV 1
   adr % 4 = 0 ∧ adr < 2 ^ 24 ∧ s.on F.SYS_SPI_CFG_CRC_REQ = false ∧ s.on F.SYS_ACC_STATUS_SPI_PRIV = true) ∧
  (   let adr : Nat := 6
      let count : Nat := 0
      let words : List Word := []
      let s : State := base
   words.length = count ∧ (adr % 4 ≠ 0 ∨ s.on F.SYS_SPI_CFG_CRC_REQ = true)) ∧
  (   let adr : Nat := 0
      let count : Nat := 0
      let rx : Nat := 0
      let quad : Bool := true
      let incr : Bool := true
      let words : List Word := []
   adr % 4 = 0 ∧ words.length = count ∧ rx ≠ crc16 ((SpiHead.mk false quad true incr adr count).bytes ++ (words.map
       wordBytes).flatten)) ∧
  (   let count : Nat := 3
      let words : List Word := []
   words.length < count) ∧
  (   let rx : Nat := 0
      let quad : Bool := true
      let crc : Bool := false
      let incr : Bool := true
      let s : State := base
      let x : Word := 0x5
   Direct s .spi false A.SYS_IRQ_EN_F0 ∧ AsItReads s A.SYS_IRQ_EN_F0 x ∧ ((crc = false ∧ s.on F.SYS_SPI_CFG_CRC_REQ = false) ∨
       (crc = true ∧ rx = crc16 ((SpiHead.mk false quad true incr A.SYS_IRQ_EN_F0 1).bytes ++ wordBytes x)))) ∧
  (   let m : Master := .mp
      let priv : Bool := true
      let s : State := base
   Direct s m priv A.SYS_FRAME_DB ∧ (s.on F.SYS_PCIE_CFG_FRAME_EN = false ∨ (s.bar2 (headDesc s)).testBit 31 = false)) ∧
  (   let m : Master := .mp
      let priv : Bool := true
      let s : State := (base.set F.SYS_PCIE_CFG_FRAME_EN 1).wr (A.TBL_SCHED_W0 0) 0
      let s : State := (s.putMemWord (bar2Base + headDesc s) 0x80000001).set F.SYS_PCIE_CFG_FRAME_EN 1
   Direct s m priv A.SYS_FRAME_DB ∧ s.on F.SYS_PCIE_CFG_FRAME_EN = true ∧ OneOwned s ∧ s.bar2 (headDesc s) / 2 ^ 14 % 2 ^ 14 <
       60) ∧
  (   let m : Master := .mp
      let priv : Bool := true
      let s : State := (base.set F.SYS_PCIE_CFG_FRAME_EN 1).set (F.RING_PORT_CFG_JUMBO_EN 0) 0
      let s : State := s.putMemWord (bar2Base + headDesc s) (BitVec.ofNat 32 (0x80000000 + 200 * 2^14))
      let s : State := (s.putMemWord (bar2Base + headDesc s + 4) 0x410000).set F.SYS_PCIE_CFG_FRAME_EN 1
   Direct s m priv A.SYS_FRAME_DB ∧ s.on F.SYS_PCIE_CFG_FRAME_EN = true ∧ OneOwned s ∧ 60 ≤ s.bar2 (headDesc s) / 2 ^ 14 % 2 ^
       14 ∧ s.bar2 (headDesc s) / 2 ^ 14 % 2 ^ 14 ≤ 1000 ∧ bufOk (s.bar2 (headDesc s + 4)) (s.bar2 (headDesc s) / 2 ^ 14 % 2 ^
       14) = true ∧ (s.bar2 (headDesc s)).testBit 30 = false ∧ s.on (F.RING_PORT_CFG_JUMBO_EN 0) = false) ∧
  (   let speed : Nat := 2
      let s : State := base
   1 ≤ speed ∧ speed ≤ 3 ∧ s.unitOn 13 = true) ∧
  (   let speed : Nat := 2
      let s : State := base.set F.PWR_UNIT_STATUS_POWERED 0x5FFF
   1 ≤ speed ∧ s.unitOn 13 = false) ∧
  (   let f1 : Bool := true
      let m : Master := .mp
      let priv : Bool := true
      let s : State := base.set F.SYS_PCIE_STATUS_LINK_UP 0
   Direct s m priv (A.SYS_MSIX_EOI (if f1 then 1 else 0)) ∧ s.on F.SYS_PCIE_STATUS_LINK_UP = false) := by decide +kernel

theorem witness_RegisterAccess :
  (   let a : Nat := A.SYS_IRQ_EN_MP
      let m : Master := .mp
      let priv : Bool := true
      let s : State := base
      let x : Word := 5
   a ∈ irqEnables ∧ Direct s m priv a ∧ AsItReads s a x) ∧
  (   let a : Nat := A.SYS_IRQ_EN_F0
      let p : Bool := true
      let s : State := base
      let x : Word := s.reg A.SYS_IRQ_EN_F0 ||| 5
      let y : Word := s.reg A.SYS_IRQ_EN_F0 ||| 6
   a ∈ irqEnables ∧ Direct s .mp p a ∧ AsItReads s a x ∧ AsItReads s a y ∧ x ≠ y) ∧
  (   let m : Master := .mp
      let priv : Bool := true
      let s : State := base.set F.SYS_EVT_STATE_CHG 1
      let x : Word := 3
   Direct s m priv A.SYS_EVT ∧ AsItReads s A.SYS_EVT x) ∧
  (   let a : Nat := 5
      let be : Nat := 15
      let s : State := base
   (a % 4 ≠ 0 ∨ be % 16 ≠ 15) ∧ NotStarting s) ∧
  (   let a : Nat := A.SYS_IRQ_EN_F1
      let m : Master := .mp
      let priv : Bool := true
      let x : Word := 0x80000005
      let s : State := base
   a ∈ irqEnables ∧ Direct s m priv a ∧ (x.toNat ^^^ s.rd a) / 2 ^ 20 ≠ 0) ∧
  (   let m : Master := .f1
      let priv : Bool := false
      let s : State := base
      let x : Word := (s.reg A.SPLICE_CTL &&& 0xFFFFFFF8) ||| 4
   s.effectOwed A.SPLICE_CTL = false ∧ s.masterPriv m priv = false ∧ AsItReads s A.SPLICE_CTL x ∧ x.toNat % 8 = 4) ∧
  (   let a : Nat := 0x1FF000
      let s : State := base
   a % 4 = 0 ∧ rowAt s.variant a = none ∧ (a < 0xF000 ∨ (0x10000 ≤ a ∧ a < 0x200000))) ∧
  (   let s : State := base
   s.posted 0 < 64) ∧
  (   let s : State := { base with bus.posts := List.replicate 64 ⟨0, 0xE0018, 5, .mp, true⟩ }
   64 ≤ s.posted 0) ∧
  (   let d : Fin 5 := 0
      let s : State := base
   s.posted d.val = 0 ∧ NotStarting s) ∧
  (   let k : Nat := 1
      let m : Master := .mp
      let priv : Bool := true
      let rest : List Posted := [⟨0, 0xE0018, 5, .mp, true⟩]
      let s : State := base
      let s : State := { s with bus.posts := [⟨0, A.MGMT_TZ_DST 1, s.reg (A.MGMT_TZ_DST 1), .mp, true⟩, ⟨0, 0xE0018, 5, .mp, true⟩] }
      let x : Word := s.reg (A.MGMT_TZ_DST 1)
   k < 2 ∧ s.bus.posts = ⟨0, A.MGMT_TZ_DST k, x, m, priv⟩ :: rest ∧ AsItReads s (A.MGMT_TZ_DST k) x ∧ s.effectOwed
       (A.MGMT_TZ_DST k) = false ∧ NotStarting s) ∧
  (   let s : State := { base with bus.posts := [] }
   s.bus.posts = [] ∧ s.unitAwake 0 = true) ∧
  (   let k : Nat := 0
      let by' : Master := .mp
      let p : Bool := true
      let s : State := base
      let s : State := { s with bus.posts := [⟨0, A.MGMT_TZ_DST 0, s.reg (A.MGMT_TZ_DST 0), .mp, true⟩] }
      let x : Word := s.reg (A.MGMT_TZ_DST 0)
   k < 2 ∧ s.bus.posts = [⟨0, A.MGMT_TZ_DST k, x, by', p⟩] ∧ AsItReads s (A.MGMT_TZ_DST k) x ∧ s.effectOwed (A.MGMT_TZ_DST k) =
       false) ∧
  (   let a : Nat := 6
   a % 4 ≠ 0) ∧
  (   let i : Nat := 0
      let s : State := base
   i < 60 ∧ s.unitAwake 3 = true) ∧
  (   let k : Nat := 0
      let s : State := { base with bus.posts := [] }
      let s : State := { s with mgmt.started := true }
   k < 23 ∧ s.bus.posts = [] ∧ s.unitAwake 0 = true ∧ s.mgmt.started = true) ∧
  (   let s : State := { base with mgmt.started := true }
   s.mgmt.started = true ∧ s.mgmt.totals.length = 60) ∧
  (   let s : State := { base with mgmt.started := false }
   s.mgmt.started = false) := by decide +kernel

theorem witness_HostMessageQueues :
  (   let q : Nat := 0
      let m : Msg := msg0
      let rest : List Msg := []
      let s : State := base
      let s : State := { s with hmq := updAt s.hmq q fun k => { k with waiting := m :: rest } }
   Shaped s ∧ q < 4 ∧ s.blockOk 7 = true ∧ (s.q q).portIdle = true ∧ (s.q q).waiting = m :: rest ∧ (s.msgWords m (s.q
       q).nextSeq).length ≤ (s.q q).freeWords) ∧
  (   let q : Nat := 0
      let m : Msg := msg0
      let rest : List Msg := []
      let s : State := base
      let s : State := { s with hmq := updAt s.hmq q fun k => { k with waiting := m :: rest } }
      let s : State := { s with test.unusable := 128 }
   Shaped s ∧ q < 4 ∧ (s.q q).portIdle = true ∧ (s.q q).waiting = m :: rest ∧ (s.blockOk 7 = false ∨ (s.q q).freeWords <
       (s.msgWords m (s.q q).nextSeq).length) ∧ m.src ≠ 2) ∧
  (   let q : Nat := 0
      let m : Msg := msg0
      let m : Msg := { m with src := 2 }
      let rest : List Msg := []
      let s : State := base
      let s : State := { s with hmq := updAt s.hmq q fun k => { k with waiting := m :: rest } }
      let s : State := { s with test.unusable := 128 }
   q < 4 ∧ (s.q q).portIdle = true ∧ (s.q q).waiting = m :: rest ∧ (s.blockOk 7 = false ∨ (s.q q).freeWords < (s.msgWords m (s.q
       q).nextSeq).length) ∧ m.src = 2) ∧
  (   let q : Nat := 0
      let s : State := base
   q < 4 ∧ ((s.q q).waiting = [] ∨ (s.q q).portIdle = false)) ∧
  (   let q : Nat := 0
      let s : State := base
      let s : State := { s with hmq := updAt s.hmq q fun k => { k with held := [{ heldMsg0 with written := 2 }] } }
   Shaped s ∧ q < 4 ∧ (s.q q).portIdle = false) ∧
  (   let q : Nat := 0
      let s : State := base
   q < 4 ∧ (s.q q).portIdle = true) ∧
  (   let q : Fin 4 := 0
      let s : State := base
      let s : State := { s with hmq := updAt s.hmq q.val fun k => { k with held := [] } }
      let s : State := { s with hmq := updAt s.hmq q.val fun k => { k with lock := none } }
   Shaped s ∧ s.unitAwake 3 = true ∧ (s.q q.val).held = [] ∧ (s.q q.val).lock = none) ∧
  (   let q : Fin 4 := 0
      let a : HeldMsg := { heldMsg0 with eligible := true }
      let b : HeldMsg := { heldMsg0 with prio := 3 }
      let b : HeldMsg := { b with eligible := true }
      let b : HeldMsg := { b with taken := 0 }
      let s : State := base
      let s : State := { s with hmq := updAt s.hmq q.val fun k => { k with held := [a, b] } }
      let s : State := { s with hmq := updAt s.hmq q.val fun k => { k with lock := none } }
      let s : State := { s with hmq := updAt s.hmq q.val fun k => { k with held := [a, b] } }
   Shaped s ∧ s.unitAwake 3 = true ∧ (s.q q.val).held = [a, b] ∧ (s.q q.val).lock = none ∧ a.eligible = true ∧ b.eligible = true
       ∧ a.prio < b.prio ∧ b.taken = 0 ∧ 0 < b.written ∧ 1 < b.words.length) ∧
  (   let q : Fin 4 := 0
      let a : HeldMsg := { heldMsg0 with eligible := true }
      let a : HeldMsg := { a with taken := 0 }
      let b : HeldMsg := { heldMsg0 with eligible := true }
      let s : State := base
      let s : State := { s with hmq := updAt s.hmq q.val fun k => { k with held := [a, b] } }
      let s : State := { s with hmq := updAt s.hmq q.val fun k => { k with lock := none } }
   Shaped s ∧ s.unitAwake 3 = true ∧ (s.q q.val).held = [a, b] ∧ (s.q q.val).lock = none ∧ a.eligible = true ∧ b.eligible = true
       ∧ b.prio ≤ a.prio ∧ a.taken = 0 ∧ 0 < a.written ∧ 1 < a.words.length) ∧
  (   let q : Fin 4 := 0
      let a : HeldMsg := { heldMsg0 with taken := 3 }
      let s : State := base
      let s : State := { s with hmq := updAt s.hmq q.val fun k => { k with held := [a] } }
      let s : State := { s with hmq := updAt s.hmq q.val fun k => { k with lock := some 0 } }
   Shaped s ∧ s.unitAwake 3 = true ∧ (s.q q.val).held = [a] ∧ (s.q q.val).lock = some 0 ∧ a.taken + 1 = a.words.length ∧ a.taken
       < a.written) ∧
  (   let q : Fin 4 := 0
      let a : HeldMsg := { heldMsg0 with taken := 2, written := 2 }
      let s : State := base
      let s : State := { s with hmq := updAt s.hmq q.val fun k => { k with held := [a] } }
      let s : State := { s with hmq := updAt s.hmq q.val fun k => { k with lock := some 0 } }
   Shaped s ∧ s.unitAwake 3 = true ∧ (s.q q.val).held = [a] ∧ (s.q q.val).lock = some 0 ∧ a.written ≤ a.taken) ∧
  (   let q : Nat := 0
      let s : State := base
   Shaped s ∧ q < 4) ∧
  (   let q : Fin 4 := 0
      let m : Master := .mp
      let priv : Bool := true
      let s : State := base
   Shaped s ∧ Direct s m priv (A.HMQ_CTL q.val)) := by decide +kernel

theorem witness_Sessions :
  (   let dt : Nat := 0
      let src : Nat := 4
      let sel : Nat := 0
      let m : ScpMsg := { scpMsg0 with session := 0 }
      let s : State := base
      let s : State := { s with mgmt.settings := { s.mgmt.settings with controllerKeys := [(5, [1])] } }
      let nc : List Nat := List.range 16
      let k : List Nat := keyBytes [1]
      let m : ScpMsg := sign m k 1 (openPayload sel nc)
   Opens s dt src sel nc m k ∧ s.scp.sessions.length < 32) ∧
  (   let dt : Nat := 0
      let src : Nat := 0
      let sel : Nat := 0
      let m : ScpMsg := { scpMsg0 with session := 0 }
      let v : Session := { sess0 with id := 100, privileged := false }
      let s : State := { base with scp.holds := [] }
      let s : State := { s with mgmt.settings := { s.mgmt.settings with controllerKeys := [(5, [1])] } }
      let s : State := { s with scp.sessions := (List.range 32).map fun k => { sess0 with id := 100 + k, privileged := false, last := k } }
      let nc : List Nat := List.range 16
      let k : List Nat := keyBytes [1]
      let m : ScpMsg := sign m k 1 (openPayload sel nc)
   Opens s dt src sel nc m k ∧ s.scp.sessions.length = 32 ∧ s.idleSession = some v ∧ s.scp.holds = []) ∧
  (   let dt : Nat := 0
      let src : Nat := 0
      let sel : Nat := 0
      let m : ScpMsg := { scpMsg0 with session := 0 }
      let s : State := base
      let s : State := { s with mgmt.settings := { s.mgmt.settings with controllerKeys := [(5, [1])] } }
      let s : State := { s with scp.sessions := (List.range 32).map fun k => { sess0 with id := 100 + k, privileged := true, last := k } }
      let nc : List Nat := List.range 16
      let k : List Nat := keyBytes [1]
      let m : ScpMsg := sign m k 1 (openPayload sel nc)
   Opens s dt src sel nc m k ∧ s.scp.sessions.length = 32 ∧ (∀ x ∈ s.scp.sessions, x.privileged = true)) ∧
  (   let dt : Nat := 0
      let src : Nat := 0
      let s : State := { base with scp.opens := List.replicate 10 (0, 0) }
   10 ≤ ((s.scp.opens.filter (fun o => Nat.blt (s.time.up + dt) (o.2 + secU))).filter (fun o => o.1 == src)).length) ∧
  (   let s : State := base.set F.SYS_STATUS_CFG_DEFAULT 1
      let s : State := { s with mgmt.settings := { s.mgmt.settings with controllerKeys := [(5, [1])] } }
      let s : State := s.set F.SYS_STATUS_CFG_DEFAULT 1
   s.on F.SYS_STATUS_CFG_DEFAULT = true) ∧
  (   let dt : Nat := 0
      let src : Nat := 4
      let sel : Nat := 0
      let nc : List Nat := List.range 16
      let m : ScpMsg := { scpMsg0 with session := 0, tag := List.replicate 16 0 }
      let s : State := base
      let s : State := { s with mgmt.settings := { s.mgmt.settings with controllerKeys := [(5, [1])] } }
   s.unitOn 3 = true ∧ m.version = 1 ∧ s.on F.SYS_STATUS_CFG_DEFAULT = false ∧
       ((s.scp.opens.filter (fun o => Nat.blt (s.time.up + dt) (o.2 + secU))).filter (fun o => o.1 == src)).length < 10 ∧
       (∀ k ∈ s.longKey sel m.controller, scpSigned m k 1 (openPayload sel nc) = false)) ∧
  (   let m : ScpMsg := { scpMsg0 with version := 1 }
      let s : State := { base with scp.sessions := [sess0] }
   s.unitOn 3 = true ∧ m.version = 1 ∧ (∀ x ∈ s.session m.session, scpSigned m x.key 3 [] = false)) ∧
  (   let m : ScpMsg := scpMsg0
      let x : Session := sess0
      let s : State := { base with scp.sessions := [x] }
      let m : ScpMsg := sign m x.key 3 []
   Talks s m x 3 []) ∧
  (   let m : ScpMsg := { scpMsg0 with version := 1 }
      let x : Session := { sess0 with high := 5, seen := 31, cache := [⟨7,1,0,0,[]⟩] }
      let r : ScpReply := ⟨7,1,0,0,[]⟩
      let s : State := { base with scp.sessions := [x] }
      let m : ScpMsg := sign m x.key 3 []
   s.unitOn 3 = true ∧ m.version = 1 ∧ s.session m.session = some x ∧ scpSigned m x.key 3 [] = true ∧ x.fresh m.seq = false ∧ x.cache.find?
       (fun r => r.seq == m.seq) = some r) ∧
  (   let m : ScpMsg := scpMsg0
      let x : Session := sess0
      let s : State := { base with scp.sessions := [x] }
      let s : State := { s with scp.holds := [] }
      let m : ScpMsg := sign m x.key 2 []
   Talks s m x 2 [] ∧ s.scp.holds = []) ∧
  (   let level : Nat := 3
      let m : ScpMsg := scpMsg0
      let x : Session := sess0
      let s : State := { base with scp.sessions := [x] }
      let m : ScpMsg := sign m x.key 0x30 [level % 256]
   Talks s m x 0x30 [level % 256]) ∧
  (   let dt : Nat := 100 * secU
      let id : Nat := 7
      let x : Session := sess0
      let s : State := { base with scp.sessions := [x] }
      let s : State := { s with scp.holds := [] }
   s.session id = some x ∧ x.last + 60 * secU ≤ s.time.up + dt ∧ s.scp.holds = []) ∧
  (   let dt : Nat := 0
      let id : Nat := 7
      let x : Session := sess0
      let s : State := { base with scp.sessions := [x] }
   s.session id = some x ∧ s.time.up + dt < x.last + 60 * secU) ∧
  (   let dt : Nat := 0
      let id : Nat := 7
      let x : Session := { sess0 with gathered := [[1],[2]] }
      let s : State := { base with scp.sessions := [x] }
   s.session id = some x ∧ x.gathered ≠ [] ∧ (∀ u ∈ x.reportUp, u + 100 * msU ≤ s.time.up + dt)) ∧
  (   let dt : Nat := 0
      let id : Nat := 7
      let x : Session := sess0
      let s : State := { base with scp.sessions := [x] }
   s.session id = some x ∧ (x.gathered = [] ∨ (∃ u ∈ x.reportUp, s.time.up + dt < u + 100 * msU))) := by decide +kernel

theorem witness_ScpCommands :
  (   let m : ScpMsg := { scpMsg0 with kind := 0 }
      let m : ScpMsg := { m with applyAt := none }
      let x : Session := sess0
      let s : State := { base with scp.sessions := [x] }
      let m : ScpMsg := sign m x.key (ScpOp.read [A.SYS_IRQ_EN_PIN, A.SYS_IRQ_EN_MP]).code (ScpOp.read [A.SYS_IRQ_EN_PIN, A.SYS_IRQ_EN_MP]).payload
   Asks s m x (.read [A.SYS_IRQ_EN_PIN, A.SYS_IRQ_EN_MP]) ∧ m.kind = 0 ∧ m.applyAt = none ∧ s.unitAwake 0 = true) ∧
  (   let m : ScpMsg := { scpMsg0 with v6 := false }
      let x : Session := sess0
      let addrs : List Nat := List.replicate 359 0
      let s : State := { base with scp.sessions := [x] }
      let m : ScpMsg := sign m x.key (ScpOp.read addrs).code (ScpOp.read addrs).payload
   Asks s m x (.read addrs) ∧ m.v6 = false ∧ 358 < addrs.length) ∧
  (   let m : ScpMsg := { scpMsg0 with kind := 0 }
      let m : ScpMsg := { m with applyAt := none }
      let x : Session := sess0
      let s : State := { base with scp.sessions := [x] }
      let w : Word := s.reg A.SYS_IRQ_EN_PIN ||| 7
      let m : ScpMsg := sign m x.key (ScpOp.write [(A.SYS_IRQ_EN_PIN, w)]).code (ScpOp.write [(A.SYS_IRQ_EN_PIN, w)]).payload
   Asks s m x (.write [(A.SYS_IRQ_EN_PIN, w)]) ∧ m.kind = 0 ∧ m.applyAt = none ∧ m.cls < 7 ∧ Direct s .scp x.privileged A.SYS_IRQ_EN_PIN ∧ AsItReads s
       A.SYS_IRQ_EN_PIN w) ∧
  (   let adr : Nat := 0x206
      let m : ScpMsg := { scpMsg0 with kind := 0 }
      let m : ScpMsg := { m with applyAt := none }
      let x : Session := sess0
      let s : State := { base with scp.sessions := [x] }
      let w : Word := 5
      let m : ScpMsg := sign m x.key (ScpOp.write [(adr, w)]).code (ScpOp.write [(adr, w)]).payload
   Asks s m x (.write [(adr, w)]) ∧ m.kind = 0 ∧ m.applyAt = none ∧ m.cls < 7 ∧ adr % 4 ≠ 0 ∧ objAt adr = none) ∧
  (   let n : Nat := 0
      let m : ScpMsg := { scpMsg0 with kind := 3 }
      let x : Session := sess0
      let s : State := { base with scp.sessions := [x] }
      let m : ScpMsg := sign m x.key ScpOp.claim.code ScpOp.claim.payload
   Asks s m x .claim ∧ OnLay s m n ∧ (s.ownerOf 3 n = 0 ∨ s.ownerOf 3 n = m.controller)) ∧
  (   let n : Nat := 0
      let off : Nat := 3
      let vals : List Word := [1,2]
      let m : ScpMsg := { scpMsg0 with kind := 3 }
      let x : Session := sess0
      let s : State := { base with scp.sessions := [x] }
      let s : State := s.set (F.TBL_LAY_W1_OWNER 0) 9
      let q (op : ScpOp) : ScpMsg := sign m x.key op.code op.payload
   Asks s (q .claim) x .claim ∧ Asks s (q .release) x .release ∧ Asks s (q (.objSet off vals)) x (.objSet off vals) ∧
       OnLay s m n ∧ s.ownerOf 3 n ≠ 0 ∧ s.ownerOf 3 n ≠ m.controller ∧ off + vals.length ≤ 8) ∧
  (   let n : Nat := 0
      let m : ScpMsg := { scpMsg0 with kind := 3 }
      let x : Session := sess0
      let s : State := { base with scp.sessions := [x] }
      let s : State := { s with scp.holds := [] }
      let s : State := s.set (F.TBL_LAY_W1_OWNER 0) 5
      let m : ScpMsg := sign m x.key ScpOp.release.code ScpOp.release.payload
   Asks s m x .release ∧ OnLay s m n ∧ s.ownerOf 3 n = m.controller ∧ s.scp.holds = []) ∧
  (   let n : Nat := 0
      let m : ScpMsg := { scpMsg0 with applyAt := none }
      let m : ScpMsg := { m with cls := 7 }
      let m : ScpMsg := { m with kind := 3 }
      let m : ScpMsg := { m with index := n }
      let m : ScpMsg := { m with kind := 3 }
      let x : Session := sess0
      let s : State := { base with scp.sessions := [x] }
      let s : State := { s with scp.holds := [] }
      let s : State := s.set (F.TBL_LAY_W1_OWNER 0) 9
      let m : ScpMsg := sign m x.key ScpOp.claim.code ScpOp.claim.payload
   Asks s m x .claim ∧ m.applyAt = none ∧ m.cls = 7 ∧ m.kind = 3 ∧ m.index = n ∧ n < s.lays ∧ s.scp.holds = []) := by
  refine ⟨?_, ⟨⟨?_, ?_, ?_, sign_signed _ _ _ _, ?_, ?_⟩, ?_, ?_⟩, ?_⟩ <;> decide +kernel

theorem witness_ScpCommands_objects :
  (   let n : Nat := 0
      let m : ScpMsg := { scpMsg0 with kind := 3 }
      let x : Session := sess0
      let h : Hold := ⟨3, 0, 5, 7, 8, 0⟩
      let h : Hold := { h with kind := 3 }
      let h : Hold := { h with index := n }
      let s : State := { base with scp.sessions := [x] }
      let s : State := { s with scp.holds := [h] }
      let s : State := s.set (F.TBL_LAY_W1_OWNER 0) 5
      let m : ScpMsg := sign m x.key ScpOp.release.code ScpOp.release.payload
   Asks s m x .release ∧ OnLay s m n ∧ s.ownerOf 3 n = m.controller ∧ s.scp.holds = [h] ∧ h.kind = 3 ∧ h.index = n ∧ h.controller =
       m.controller) ∧
  (   let n : Nat := 0
      let m : ScpMsg := { scpMsg0 with applyAt := none }
      let m : ScpMsg := { m with kind := 5 }
      let m : ScpMsg := { m with index := n }
      let x : Session := sess0
      let s : State := { base with scp.sessions := [x] }
      let w : Word := s.reg (A.TDM_OUT_MAP 0 0) ||| 0x80000000
      let m : ScpMsg := sign m x.key (ScpOp.objSet 64 [w]).code (ScpOp.objSet 64 [w]).payload
   Asks s m x (.objSet 64 [w]) ∧ m.applyAt = none ∧ m.cls < 7 ∧ m.kind = 5 ∧ m.index = n ∧ n < s.tdmPorts ∧ s.ownerOf 5 n = 0 ∧ Direct s .scp
       x.privileged (A.TDM_OUT_MAP n 0) ∧ AsItReads s (A.TDM_OUT_MAP n 0) w) ∧
  (   let n : Nat := 0
      let m : ScpMsg := { scpMsg0 with applyAt := none }
      let m : ScpMsg := { m with kind := 5 }
      let m : ScpMsg := { m with index := n }
      let x : Session := sess0
      let s : State := { base with scp.sessions := [x] }
      let w : Word := 5
      let m : ScpMsg := sign m x.key (ScpOp.objSet 128 [w]).code (ScpOp.objSet 128 [w]).payload
   Asks s m x (.objSet 128 [w]) ∧ m.applyAt = none ∧ m.cls < 7 ∧ m.kind = 5 ∧ m.index = n ∧ n < s.tdmPorts ∧ s.ownerOf 5 n = 0) ∧
  (   let n : Nat := 0
      let m : ScpMsg := { scpMsg0 with applyAt := none }
      let m : ScpMsg := { m with kind := 5 }
      let m : ScpMsg := { m with index := n }
      let x : Session := sess0
      let s : State := { base with scp.sessions := [x] }
      let m : ScpMsg := sign m x.key (ScpOp.objGet 128 1).code (ScpOp.objGet 128 1).payload
   Asks s m x (.objGet 128 1) ∧ m.applyAt = none ∧ m.kind = 5 ∧ m.index = n ∧ n < s.tdmPorts) ∧
  (   let n : Nat := 0
      let m : ScpMsg := { scpMsg0 with applyAt := none }
      let m : ScpMsg := { m with kind := 3 }
      let m : ScpMsg := { m with index := n }
      let x : Session := sess0
      let s : State := { base with scp.sessions := [x] }
      let m : ScpMsg := sign m x.key (ScpOp.objGet 1 1).code (ScpOp.objGet 1 1).payload
   Asks s m x (.objGet 1 1) ∧ m.applyAt = none ∧ m.kind = 3 ∧ m.index = n ∧ n < s.lays ∧ s.unitAwake 3 = true) ∧
  (   let count : Nat := 2
      let m : ScpMsg := scpMsg0
      let x : Session := sess0
      let s : State := { base with scp.sessions := [x] }
      let s : State := { s with mgmt.log := [[5,1,2],[6,1,2]] }
      let first : Nat := 5
      let m : ScpMsg := sign m x.key 0x32 (be32 first ++ [count % 256])
   Talks s m x 0x32 (be32 first ++ [count % 256]) ∧ 1 ≤ count ∧ count ≤ 22) ∧
  (   let count : Nat := 0
      let m : ScpMsg := scpMsg0
      let x : Session := sess0
      let s : State := { base with scp.sessions := [x] }
      let first : Nat := 5
      let m : ScpMsg := sign m x.key 0x32 (be32 first ++ [count % 256])
   Talks s m x 0x32 (be32 first ++ [count % 256]) ∧ (count = 0 ∨ 22 < count)) ∧
  (   let ef : Nat := 100
      let m : ScpMsg := { scpMsg0 with kind := 0 }
      let m : ScpMsg := { m with applyAt := some ef }
      let x : Session := sess0
      let s : State := { base with scp.sessions := [x] }
      let s : State := { s with play.running := true }
      let s : State := { s with scp.queue := [] }
      let w : Word := 5
      let m : ScpMsg := sign m x.key (ScpOp.write [(A.SYS_IRQ_EN_PIN, w)]).code (ScpOp.write [(A.SYS_IRQ_EN_PIN, w)]).payload
   Asks s m x (.write [(A.SYS_IRQ_EN_PIN, w)]) ∧ m.kind = 0 ∧ m.applyAt = some ef ∧ s.play.running = true ∧ 2 ≤ ahead s ef ∧ ahead s ef ≤ 30000 ∧
       s.scp.queue.length < 256) := by decide +kernel

theorem witness_ScpCommands_applyAt :
  (   let ef : Nat := 1
      let m : ScpMsg := { scpMsg0 with kind := 0 }
      let m : ScpMsg := { m with applyAt := some ef }
      let m : ScpMsg := { m with applyAt := some 1 }
      let x : Session := sess0
      let s : State := { base with scp.sessions := [x] }
      let w : Word := 5
      let m : ScpMsg := sign m x.key (ScpOp.write [(A.SYS_IRQ_EN_PIN, w)]).code (ScpOp.write [(A.SYS_IRQ_EN_PIN, w)]).payload
   Asks s m x (.write [(A.SYS_IRQ_EN_PIN, w)]) ∧ m.kind = 0 ∧ m.applyAt = some ef ∧ (s.play.running = false ∨ ahead s ef < 2 ∨ 2 ^ 31 ≤ ahead s ef)) ∧
  (   let ef : Nat := 40000
      let m : ScpMsg := { scpMsg0 with kind := 0 }
      let m : ScpMsg := { m with applyAt := some ef }
      let x : Session := sess0
      let s : State := { base with scp.sessions := [x] }
      let s : State := { s with play.running := true }
      let w : Word := 5
      let m : ScpMsg := sign m x.key (ScpOp.write [(A.SYS_IRQ_EN_PIN, w)]).code (ScpOp.write [(A.SYS_IRQ_EN_PIN, w)]).payload
   Asks s m x (.write [(A.SYS_IRQ_EN_PIN, w)]) ∧ m.kind = 0 ∧ m.applyAt = some ef ∧ s.play.running = true ∧ 30000 < ahead s ef ∧ ahead s ef < 2 ^ 31) ∧
  (   let ef : Nat := 100
      let m : ScpMsg := { scpMsg0 with kind := 0 }
      let m : ScpMsg := { m with applyAt := some ef }
      let x : Session := sess0
      let s : State := { base with scp.sessions := [x] }
      let s : State := { s with play.running := true }
      let s : State := { s with scp.queue := List.replicate 256 scpCmd0 }
      let w : Word := 5
      let m : ScpMsg := sign m x.key (ScpOp.write [(A.SYS_IRQ_EN_PIN, w)]).code (ScpOp.write [(A.SYS_IRQ_EN_PIN, w)]).payload
   Asks s m x (.write [(A.SYS_IRQ_EN_PIN, w)]) ∧ m.kind = 0 ∧ m.applyAt = some ef ∧ s.play.running = true ∧ 2 ≤ ahead s ef ∧ ahead s ef ≤ 30000 ∧ 256 ≤
       s.scp.queue.length) ∧
  (   let ef : Nat := 0
      let c : ScpCmd := { scpCmd0 with op := .write [(A.SYS_IRQ_EN_PIN, 5)] }
      let c : ScpCmd := { c with result := none }
      let c : ScpCmd := { c with kind := 0 }
      let s : State := { base with play.running := true }
      let s : State := { s with scp.queue := [c] }
      let w : Word := 5
   s.play.running = true ∧ s.scp.queue = [c] ∧ c.ef = ef % 2 ^ 32 ∧ c.result = none ∧ c.kind = 0 ∧ c.cls < 7 ∧ c.op = .write
       [(A.SYS_IRQ_EN_PIN, w)] ∧ Direct s .scp (s.scpPriv c.session) A.SYS_IRQ_EN_PIN ∧ AsItReads s A.SYS_IRQ_EN_PIN w) ∧
  (   let ef : Nat := 0
      let n : Nat := 0
      let a : ScpCmd := { scpCmd0 with kind := 3, cls := 1, controller := 9 }
      let a : ScpCmd := { a with result := none }
      let a : ScpCmd := { a with kind := 3 }
      let a : ScpCmd := { a with index := n }
      let a : ScpCmd := { a with op := .claim }
      let b : ScpCmd := { scpCmd0 with kind := 3, cls := 2, controller := 11 }
      let b : ScpCmd := { b with result := none }
      let b : ScpCmd := { b with kind := 3 }
      let b : ScpCmd := { b with index := n }
      let b : ScpCmd := { b with op := .claim }
      let s : State := { base with play.running := true }
      let s : State := { s with scp.queue := [a, b] }
      let s : State := { s with scp.queue := [a, b] }
   s.play.running = true ∧ s.scp.queue = [a, b] ∧ a.ef = ef % 2 ^ 32 ∧ b.ef = ef % 2 ^ 32 ∧ a.result = none ∧ b.result = none ∧
       a.kind = 3 ∧ b.kind = 3 ∧ a.index = n ∧ b.index = n ∧ n < s.lays ∧ a.cls < b.cls ∧ b.cls < 7 ∧ a.op = .claim ∧ b.op =
       .claim ∧ s.ownerOf 3 n = 0) ∧
  (   let ef : Nat := 0
      let s : State := base
   (s.play.running = false ∨ (∀ c ∈ s.scp.queue, c.ef ≠ ef % 2 ^ 32))) ∧
  (   let dt : Nat := 700 * secU
      let n : Nat := 0
      let h : Hold := ⟨3, 0, 5, 7, 8, 0⟩
      let h : Hold := { h with kind := 3 }
      let h : Hold := { h with index := n }
      let s : State := { base with scp.holds := [h] }
   s.scp.holds = [h] ∧ h.kind = 3 ∧ h.index = n ∧ n < s.lays ∧ h.last + s.mgmt.settings.holdS * secU ≤ s.time.up + dt) ∧
  (   let s : State := { base with scp.holds := [] }
   s.scp.holds = []) ∧
  (   let dt : Nat := 0
      let kind : Nat := 3
      let n : Nat := 0
      let h : Hold := ⟨3, 0, 5, 7, 8, 0⟩
      let s : State := { base with scp.holds := [h] }
   s.holdOf kind n = some h ∧ s.time.up + dt < h.last + s.mgmt.settings.holdS * secU) := by decide +kernel

theorem witness_SchedulerAndLog :
  (   let s : State := base
   (s.fld F.MGMT_RTC_STATUS_SRC = 0 ∨ s.mgmt.started = false)) ∧
  (   let dt : Nat := 5
      let s : State := { base with mgmt.started := true }
      let s : State := s.set F.MGMT_RTC_STATUS_SRC 2
   2 ≤ s.fld F.MGMT_RTC_STATUS_SRC ∧ s.mgmt.started = true ∧ (∀ k < 64, (s.advance dt).schedDue k = false)) ∧
  (   let dt : Nat := 0
      let n : Nat := 0
      let s : State := base
      let s : State := due 86363 0 1 s
   OnlyDue s dt n ∧ (s.fld (F.TBL_SCHED_W0_KIND n) = 0 ∨ 8 ≤ s.fld (F.TBL_SCHED_W0_KIND n)) ∧ (s.advance dt).schedLate n ≤ 3600) ∧
  (   let dt : Nat := 0
      let n : Nat := 0
      let s : State := (base.set (F.TBL_SCHED_W0_KIND n) 1).set F.SYS_MOD_STATE_STATE 4
      let s : State := due 86363 1 1 s
   OnlyDue s dt n ∧ s.fld (F.TBL_SCHED_W0_KIND n) = 1 ∧ (s.advance dt).schedLate n = 0 ∧ s.modState = 4 ∧ s.runOn = false) ∧
  (   let dt : Nat := 0
      let n : Nat := 0
      let s : State := base.set (F.TBL_SCHED_W0_KIND n) 7
      let s : State := due 86363 7 1 s
   OnlyDue s dt n ∧ s.fld (F.TBL_SCHED_W0_KIND n) = 7 ∧ (s.advance dt).schedLate n = 0) ∧
  (   let dt : Nat := 0
      let n : Nat := 0
      let s : State := base
      let s : State := due 5 2 1 s
   OnlyDue s dt n ∧ 3600 < (s.advance dt).schedLate n) ∧
  (   let dt : Nat := 0
      let n : Nat := 0
      let s : State := { ((base.set (F.TBL_SCHED_W0_KIND n) 4).set F.SYS_MOD_STATE_STATE 3) with mgmt.schedRetry := [] }
      let s : State := due 86300 4 1 s
   OnlyDue s dt n ∧ s.fld (F.TBL_SCHED_W0_KIND n) = 4 ∧ (s.advance dt).schedLate n ≤ 3600 ∧ s.modState = 3 ∧ s.mgmt.schedRetry =
       []) ∧
  (   let s : State := { base with mgmt.schedRetry := [] }
   s.mgmt.schedRetry = []) ∧
  (   let n : Nat := 3
      let up : Nat := 7
      let s : State := { base with mgmt.schedRetry := [(n, up)] }
      let s : State := s.set (F.TBL_SCHED_W0_KIND n) 0
   n < 64 ∧ s.mgmt.schedRetry = [(n, up)] ∧ s.fld (F.TBL_SCHED_W0_KIND n) = 0) ∧
  (   let n : Nat := 3
      let up : Nat := 0
      let s : State := { base with mgmt.schedRetry := [(n, up)] }
      let s : State := (s.set (F.TBL_SCHED_W0_KIND n) 4).set F.SYS_MOD_STATE_STATE 3
   n < 64 ∧ s.mgmt.schedRetry = [(n, up)] ∧ s.fld (F.TBL_SCHED_W0_KIND n) = 4 ∧ s.modState = 3) ∧
  (   let r : List Word := [5, 1, 2, 0]
      let rest : List (List Word) := []
      let s : State := { base with pwr.powered := true }
      let s : State := { s with mgmt.staging := r :: rest }
      let s : State := { s with mgmt.logLost := 0 }
      let s : State := { s with mgmt.staging := [r] }
      let s : State := s.set F.MGMT_LOG_CTL_PUSH_MIN 5
   s.pwr.powered = true ∧ s.mgmt.staging = r :: rest ∧ s.mgmt.logLost = 0 ∧ (recSev r < s.fld F.MGMT_LOG_CTL_PUSH_MIN ∨ 5 ≤
       s.fld F.MGMT_LOG_CTL_PUSH_MIN)) ∧
  (   let r : List Word := [5, 1, 0x00400000, 0xFFFFFFFF]
      let rest : List (List Word) := []
      let s : State := { base with pwr.powered := true }
      let s : State := { s with mgmt.staging := r :: rest }
      let s : State := { s with mgmt.logLost := 0 }
      let s : State := { s with mgmt.staging := [r] }
      let s : State := s.set F.MGMT_LOG_CTL_PUSH_MIN 0
   s.pwr.powered = true ∧ s.mgmt.staging = r :: rest ∧ s.mgmt.logLost = 0 ∧ s.fld F.MGMT_LOG_CTL_PUSH_MIN ≤ recSev r ∧ s.fld
       F.MGMT_LOG_CTL_PUSH_MIN < 5 ∧ Shaped s) ∧
  (   let r : List Word := [5, 1, 0x00400000, 0xFFFFFFFF]
      let rest : List (List Word) := []
      let s : State := { base with pwr.powered := true }
      let s : State := { s with mgmt.staging := r :: rest }
      let s : State := { s with mgmt.staging := [r] }
      let s : State := { s with mgmt.logLost := 4 }
   s.pwr.powered = true ∧ s.mgmt.staging = r :: rest ∧ 0 < s.mgmt.logLost ∧ s.mgmt.staging.length ≤ 256) ∧
  (   let s : State := base
   (s.pwr.powered = false ∨ s.mgmt.staging = [])) ∧
  (   let m : Master := .mp
      let priv : Bool := true
      let s : State := base
   Direct s m priv A.MGMT_LOG_IDX) ∧
  (   let k : Nat := 2
      let m : Master := .mp
      let r : List Word := [5, 1, 7, 8]
      let s : State := { base with bus.posts := [] }
      let s : State := { s with mgmt.log := [[6], r] }
      let s : State := { s with mgmt.logIdx := [5,5,5,5,5] }
   k < 16 ∧ s.bus.posts = [] ∧ s.unitAwake 0 = true ∧ s.logRecord (getAt s.mgmt.logIdx m.code 0) = some r) ∧
  (   let s : State := { base with mgmt.started := true }
   s.mgmt.started = true) ∧
  (   let s : State := { base with mgmt.started := false }
   s.mgmt.started = false) := by decide +kernel

theorem witness_SavesAndKeys :
  (   let m : Master := .mp
      let priv : Bool := true
      let s : State := base.set F.MGMT_CFG_STATUS_BUSY 0
   Direct s m priv A.MGMT_CFG_CTL ∧ s.on F.MGMT_CFG_STATUS_BUSY = false) ∧
  (   let m : Master := .mp
      let priv : Bool := true
      let s : State := base.set F.MGMT_CFG_STATUS_BUSY 1
   Direct s m priv A.MGMT_CFG_CTL ∧ s.on F.MGMT_CFG_STATUS_BUSY = true) ∧
  (   let x : CfgSlot := Mgmt.blankSlot
      let s : State := { base with mgmt.saveSnap := some x }
      let s : State := s.set F.MGMT_CFG_STATUS_PENDING 0
   s.mgmt.saveSnap = some x ∧ s.on F.MGMT_CFG_STATUS_PENDING = false) ∧
  (   let x : CfgSlot := Mgmt.blankSlot
      let s : State := { base with mgmt.saveSnap := some x }
      let s : State := s.set F.MGMT_CFG_STATUS_PENDING 1
   s.mgmt.saveSnap = some x ∧ s.on F.MGMT_CFG_STATUS_PENDING = true) ∧
  (   let s : State := { base with mgmt.saveSnap := none }
   s.mgmt.saveSnap = none) ∧
  (   let m : Master := .mp
      let priv : Bool := true
      let s : State := base
   Direct s m priv A.MGMT_KEY_CTL ∧ (s.mgmt.stageKey.all (fun w => w == 0) = true ∨ s.on F.MGMT_KEY_STATUS_BUSY = true)) ∧
  (   let m : Master := .mp
      let priv : Bool := true
      let s : State := { (base.set F.MGMT_KEY_STATUS_BUSY 0) with mgmt.stageKey := [1,2,3,4,5,6,7,8] }
   Direct s m priv A.MGMT_KEY_CTL ∧ s.masterPriv m priv = true ∧ s.mgmt.stageKey.all (fun w => w == 0) = false ∧ s.on
       F.MGMT_KEY_STATUS_BUSY = false) ∧
  (   let k : List Word := [1,2,3,4,5,6,7,8]
      let mc : Nat := 0
      let s : State := { base with mgmt.keyCommit := some (k, mc) }
      let s : State := { s with scp.holds := [] }
   s.mgmt.keyCommit = some (k, mc) ∧ s.scp.holds = []) ∧
  (   let s : State := { base with mgmt.keyCommit := none }
   s.mgmt.keyCommit = none) := by decide +kernel

theorem witness_Firmware :
  (   let m : Master := .mp
      let priv : Bool := true
      let s : State := { base with mgmt.fw.trial := false }
      let s : State := { s with mgmt.fw.pend := false }
   Direct s m priv A.MGMT_FW_CTL ∧ s.masterPriv m priv = true ∧ s.mgmt.fw.trial = false ∧ s.mgmt.fw.pend = false) ∧
  (   let m : Master := .mp
      let priv : Bool := true
      let s : State := { base with mgmt.fw.trial := true }
   Direct s m priv A.MGMT_FW_CTL ∧ s.masterPriv m priv = true ∧ (s.mgmt.fw.trial = true ∨ s.mgmt.fw.pend = true)) ∧
  (   let m : Master := .mp
      let priv : Bool := true
      let s : State := base.set F.MGMT_FW_STATUS_STATE 1
   Direct s m priv A.MGMT_FW_DATA ∧ s.masterPriv m priv = true ∧ s.fwState = 1 ∧ (s.bank (!s.mgmt.fw.bank)).words.length ≤
       2097152) ∧
  (   let m : Master := .mp
      let priv : Bool := true
      let s : State := base
   Direct s m priv A.MGMT_FW_DATA ∧ s.fwState ≠ 1) ∧
  (   let m : Master := .mp
      let priv : Bool := true
      let s : State := base.set F.MGMT_FW_STATUS_STATE 1
   Direct s m priv A.MGMT_FW_CTL ∧ s.masterPriv m priv = true ∧ s.fwState = 1) ∧
  (   let m : Master := .mp
      let priv : Bool := true
      let s : State := base
   Direct s m priv A.MGMT_FW_CTL ∧ s.fwState ≠ 1) ∧
  (   let sigOk : Bool := true
      let s : State := { (base.set F.MGMT_FW_STATUS_STATE 2) with mgmt.bootFailed := false }
      let s : State := { s with mgmt.bankB := ⟨Mgmt.shipped, true, false⟩ }
   s.fwState = 2 ∧ s.fwWhy sigOk = 0 ∧ s.mgmt.bootFailed = false) ∧
  (   let sigOk : Bool := true
      let s : State := base.set F.MGMT_FW_STATUS_STATE 2
   s.fwState = 2 ∧ s.fwWhy sigOk ≠ 0) ∧
  (   let s : State := base
   s.fwState ≠ 2) ∧
  (   let m : Master := .mp
      let priv : Bool := true
      let s : State := base.set F.MGMT_FW_STATUS_STATE 3
   Direct s m priv A.MGMT_FW_CTL ∧ s.masterPriv m priv = true ∧ s.fwState = 3) ∧
  (   let m : Master := .mp
      let priv : Bool := true
      let s : State := base
   Direct s m priv A.MGMT_FW_CTL ∧ s.masterPriv m priv = true ∧ s.fwState ≠ 3) ∧
  (   let s : State := { base with mgmt.fw.pend := true }
      let s : State := { s with mgmt.fw.trial := false }
   s.mgmt.fw.pend = true ∧ s.mgmt.fw.trial = false ∧ s.class67 = false ∧ (s.fld F.MGMT_FW_CTL_WHEN = 0 ∨ (s.fld
       F.MGMT_FW_CTL_WHEN = 1 ∧ s.mgmt.fw.go = true))) ∧
  (   let s : State := base
   (s.mgmt.fw.pend = false ∨ s.class67 = true ∨ 2 ≤ s.fld F.MGMT_FW_CTL_WHEN)) ∧
  (   let m : Master := .mp
      let priv : Bool := true
      let s : State := base
   Direct s m priv A.MGMT_FW_CTL ∧ s.masterPriv m priv = true) ∧
  (   let s : State := { base with mgmt.fw.trial := true }
      let s : State := s.set F.MGMT_FW_CTL_AUTO_CONFIRM 1
   s.mgmt.fw.trial = true ∧ s.on F.MGMT_FW_CTL_AUTO_CONFIRM = true ∧ (s.modState = 3 ∨ s.modState = 4)) ∧
  (   let s : State := base
   (s.mgmt.fw.trial = false ∨ s.on F.MGMT_FW_CTL_AUTO_CONFIRM = false ∨ (s.modState ≠ 3 ∧ s.modState ≠ 4))) ∧
  (   let dt : Nat := 0
      let s : State := { base with mgmt.fw.trial := true }
   s.mgmt.fw.trial = true ∧ s.mgmt.fw.left ≤ s.time.up + dt) ∧
  (   let dt : Nat := 0
      let s : State := base
   (s.mgmt.fw.trial = false ∨ s.time.up + dt < s.mgmt.fw.left)) := by decide +kernel

theorem witness_SelfTest :
  (   let m : Master := .mp
      let priv : Bool := true
      let s : State := base
   Direct s m priv A.TEST_START ∧ s.masterPriv m priv = true) ∧
  (   let b : Nat := 10
      let m : Master := .mp
      let priv : Bool := true
      let s : State := (base.set F.MGMT_CFG_STATUS_BUSY 0).wr A.TEST_RETIRED 0x420
   Direct s m priv A.TEST_CLEAR ∧ s.masterPriv m priv = true ∧ b < 32 ∧ blockPresent s.variant b = true ∧ (s.rd
       A.TEST_RETIRED).testBit b = true ∧ s.bitOf F.TEST_QUEUED_MASK b = false ∧ s.test.running ≠ some b ∧ s.on
       F.MGMT_CFG_STATUS_BUSY = false) ∧
  (   let mask : Word := 0
      let m : Master := .mp
      let priv : Bool := true
      let s : State := base
   Direct s m priv A.TEST_CLEAR ∧ mask &&& s.reg A.TEST_RETIRED = 0) ∧
  (   let m : Master := .mp
      let priv : Bool := true
      let s : State := { base with test.running := none }
   Direct s m priv A.TEST_CTL ∧ s.masterPriv m priv = true ∧ s.test.running = none ∧ NotStarting s) ∧
  (   let b : Nat := 0
      let m : Master := .mp
      let priv : Bool := true
      let s : State := { base with test.running := some b }
   Direct s m priv A.TEST_CTL ∧ s.masterPriv m priv = true ∧ b < 32 ∧ s.test.running = some b) ∧
  (   let b : Nat := 10
      let s : State := { base with test.running := none }
      let s : State := { s with test.reinit := none }
      let s : State := s.wr A.TEST_QUEUED 0x400
   s.test.running = none ∧ s.test.reinit = none ∧ s.class67 = false ∧ s.nextTest = some b) ∧
  (   let s : State := base
   (s.test.running.isSome = true ∨ s.test.reinit.isSome = true ∨ s.class67 = true ∨ s.nextTest = none)) ∧
  (   let b : Nat := 10
      let s : State := { base with test.retry := 0x400 }
   b < 32 ∧ blockPresent s.variant b = true ∧ s.test.retry.testBit b = true ∧ s.testAllowedIn b s.modState = true ∧ s.bitOf
       F.TEST_QUEUED_MASK b = false ∧ s.test.running ≠ some b) ∧
  (   let b : Nat := 0
      let s : State := base
   blockPresent s.variant b = true ∧ (s.test.retry.testBit b = false ∨ s.testAllowedIn b s.modState = false)) ∧
  (   let b : Nat := 31
      let s : State := base
   blockPresent s.variant b = false) ∧
  (   let s : State := base
   s.class67 = false) ∧
  (   let s : State := act6
   s.class67 = true) ∧
  (   let s : State := base
   (∀ u ∈ s.test.dlyErrs, u + 600 * secU ≤ s.time.up)) ∧
  (   let u : Nat := 5
      let s : State := { base with test.dlyErrs := [5] }
   u ∈ s.test.dlyErrs ∧ s.time.up < u + 600 * secU) ∧
  (   let cycles : Nat := 1000
      let good : Bool := true
      let s : State := { base with test.running := some 10 }
      let s : State := { s with test.unusable := 0x400 }
      let s : State := plant (A.TEST_RES_W3 10) 1000 s
   s.test.running = some 10 ∧ s.expCycles 10 ≤ cycles ∧ cycles < 2 ^ 32 ∧ good = true ∧ s.fld (F.TEST_RES_W0_ORIGIN 10) ≠ 5) ∧
  (   let cycles : Nat := 1005
      let good : Bool := true
      let s : State := { base with test.running := some 10 }
      let s : State := { (((s.set (F.TEST_RES_W0_ORIGIN 10) 5).set F.MGMT_CFG_STATUS_BUSY 0).wr A.TEST_RETIRED 0x400) with test.unusable := 0x400 }
      let s : State := plant (A.TEST_RES_W3 10) 1000 s
   s.test.running = some 10 ∧ s.expCycles 10 ≤ cycles ∧ cycles < 2 ^ 32 ∧ good = true ∧ s.fld (F.TEST_RES_W0_ORIGIN 10) = 5 ∧
       s.on F.MGMT_CFG_STATUS_BUSY = false) ∧
  (   let cycles : Nat := 1000
      let s : State := { base with test.running := some 8 }
      let s : State := plant (A.TEST_RES_W3 8) 1000 s
   s.test.running = some 8 ∧ s.expCycles 8 ≤ cycles ∧ cycles < 2 ^ 32) ∧
  (   let cycles : Nat := 1000
      let s : State := { base with test.running := some 10 }
      let s : State := s.set (F.TEST_RES_W0_ORIGIN 10) 3
      let s : State := plant (A.TEST_RES_W3 10) 1000 s
   s.test.running = some 10 ∧ s.expCycles 10 ≤ cycles ∧ cycles < 2 ^ 32 ∧ s.fld (F.TEST_RES_W0_ORIGIN 10) = 3) ∧
  (   let cycles : Nat := 1000
      let s : State := { base with test.running := some 10 }
      let s : State := s.set (F.TEST_RES_W0_ORIGIN 10) 4
      let s : State := plant (A.TEST_RES_W3 10) 1000 s
   s.test.running = some 10 ∧ s.expCycles 10 ≤ cycles ∧ cycles < 2 ^ 32 ∧ s.fld (F.TEST_RES_W0_ORIGIN 10) = 4) ∧
  (   let cycles : Nat := 5
      let s : State := { base with test.running := some 10 }
      let s : State := plant (A.TEST_RES_W3 10) 1000 s
   s.test.running = some 10 ∧ cycles < s.expCycles 10) ∧
  (   let s : State := { base with test.running := none }
   s.test.running = none) ∧
  (   let s : State := { base with test.reinit := some 10 }
      let s : State := { s with bus.owed := [] }
   s.test.reinit = some 10 ∧ s.bus.owed = [] ∧ NotStarting s) ∧
  (   let s : State := { base with test.reinit := none }
   s.test.reinit = none) := by decide +kernel

end Sys2Proof.Tests
end

section
/-! PROOFS. An Acson instruction that only computes (`pureOp`): what it does to its core, and that nothing else changes. -/

namespace Sys2Proof.Machine

/-! ### One core of the engine -/

theorem State.core_coreUpd_same (s : State) {c : Nat} (hc : c < s.eng.cores.length) (f : Core → Core) :
    (s.coreUpd c f).core c = f (s.core c) := by
  simp [State.core, State.coreUpd, State.updEng, getAt, updAt, hc]

theorem State.core_coreUpd_ne (s : State) {c k : Nat} (h : k ≠ c) (f : Core → Core) :
    (s.coreUpd c f).core k = s.core k := by
  simp [State.core, State.coreUpd, State.updEng, getAt, updAt, List.getD, h.symm]

/-- A core replaced by itself leaves the module as it is. -/
theorem State.coreUpd_core_self (s : State) {c : Nat} (hc : c < s.eng.cores.length) :
    s.coreUpd c (fun _ => s.core c) = s := by
  have h : updAt s.eng.cores c (fun _ => s.core c) = s.eng.cores := by
    apply List.ext_getElem?
    intro k
    rcases eq_or_ne c k with rfl | hk
    · simp [updAt, State.core, getAt, hc]
    · simp [updAt, hk]
  change ({ s with eng := { s.eng with cores := updAt s.eng.cores c fun _ => s.core c } } : State) = s
  rw [h]

theorem State.core_setPc_same (s : State) {c : Nat} (hc : c < s.eng.cores.length) (n : Nat) :
    (s.setPc c n).core c = { s.core c with pc := n % 4096 } := by
  have h : (s.setPc c n).core c = (s.coreUpd c fun k => { k with pc := n % 4096 }).core c := by
    simp [State.setPc, State.core]
  rw [h, State.core_coreUpd_same s hc]

/-- The descriptors' words lie beyond every core's status register. -/
theorem descW2_ne_coreStatus (m : Nat) {c : Nat} (hc : c < 16) : A.ENG_DESC_W2 m ≠ A.ENG_CORE_STATUS c := by
  unfold A.ENG_DESC_W2 A.ENG_CORE_STATUS
  omega

theorem State.cores_le (s : State) : s.cores ≤ 16 := by
  unfold State.cores
  cases s.variant <;> decide

/-! ### Only one core moves -/

theorem Part.Same.trans {p : Part} {s u v : State} (h : p.Same s u) (g : p.Same u v) : p.Same s v := by
  cases p
  case clk =>
    have e := congrArg (fun k : ClkS => { k with almLow := s.clk.almLow }) g
    exact Eq.trans e h
  all_goals exact Eq.trans g h

/-- Of the module only core c differs, and its CORE_STATUS register. -/
structure CoreMoves (c : Nat) (s u : State) : Prop where
  cores : ∀ k, k ≠ c → u.core k = s.core k
  count : u.eng.cores.length = s.eng.cores.length
  eng : { u.eng with cores := s.eng.cores } = s.eng
  regs : ∀ a, a ≠ A.ENG_CORE_STATUS c → u.reg a = s.reg a
  mem : u.mem = s.mem
  parts : ∀ p : Part, p ≠ .eng → p.Same s u
  variant : u.variant = s.variant

namespace CoreMoves

theorem trans {c : Nat} {s u v : State} (h : CoreMoves c s u) (g : CoreMoves c u v) : CoreMoves c s v where
  cores k hk := (g.cores k hk).trans (h.cores k hk)
  count := g.count.trans h.count
  eng := (congrArg (fun e : EngS => { e with cores := s.eng.cores }) g.eng).trans h.eng
  regs a ha := (g.regs a ha).trans (h.regs a ha)
  mem := g.mem.trans h.mem
  parts p hp := (h.parts p hp).trans (g.parts p hp)
  variant := g.variant.trans h.variant

theorem coreUpd (c : Nat) (s : State) (f : Core → Core) : CoreMoves c s (s.coreUpd c f) where
  cores _ hk := s.core_coreUpd_ne hk f
  count := List.length_modify ..
  eng := rfl
  regs _ _ := rfl
  mem := rfl
  parts p hp := by
    cases p
    case eng => exact absurd rfl hp
    all_goals rfl
  variant := rfl

theorem keepPc (c : Nat) (s : State) (n : Nat) : CoreMoves c s (s.keep (F.ENG_CORE_STATUS_PC c) n) where
  cores k _ := by simp [State.core]
  count := by simp
  eng := by simp
  regs a ha := s.reg_keep_ne _ n ha
  mem := by simp
  parts p _ := by cases p <;> simp [Part.Same]
  variant := by simp

theorem setPc (c : Nat) (s : State) (n : Nat) : CoreMoves c s (s.setPc c n) :=
  (coreUpd c s _).trans (keepPc c _ _)

/-- A placement field outside CORE_STATUS reads as before. -/
theorem place {c : Nat} {s u : State} (h : CoreMoves c s u) {f : Fld} (hf : f.adr ≠ A.ENG_CORE_STATUS c) :
    u.place f = s.place f := by
  have hcomp : u.eng.comp = s.eng.comp := by simpa using congrArg EngS.comp h.eng
  have hold : u.eng.old = s.eng.old := by simpa using congrArg EngS.old h.eng
  have hrd : u.rd f.adr = s.rd f.adr := State.rd_eq_of_reg (h.regs _ hf)
  unfold State.place State.placeWord State.oldPlacement
  rw [hcomp, hold, hrd, h.variant]

/-- What a command answers changes only the core that its effect moves. -/
theorem coreOnly {c : Nat} {s u : State} (h : CoreMoves c s u) : CoreOnly c [] s (s.seal u) := by
  refine ⟨fun k hk => ?_, ?_, frame_seal _ _ s u h.variant (fun a ha _ => ?_) (fun a => ?_) (fun p hp => ?_)⟩
  · simpa [State.core] using h.cores k hk
  · rw [State.seal_eng]
    exact h.eng
  · exact h.regs a (by simpa using ha)
  · unfold State.byte
    rw [h.mem]
  · exact h.parts p (by simpa using hp)

end CoreMoves

/-! ### The end of a bundle that goes straight on -/

/-- No loop of the core runs. -/
def Regs.Loopless (r : Regs) : Prop := r.lv 0 = 0 ∧ r.lv 1 = 0

/-- With no loop running, the next bundle is the one that follows. -/
theorem loopTests_of_loopless (pc : Nat) {k : Core} (h : k.regs.Loopless) : loopTests pc k = (pc + 1, k) := by
  obtain ⟨h0, h1⟩ := h
  unfold loopTests
  by_cases hb : (getAt k.loops 0 (0, 0)).1 < (getAt k.loops 1 (0, 0)).1 <;> simp [h0, h1, hb]

/-- A fetch within the program's bundles passes its check. -/
theorem State.fetchCheck_inside (s : State) {c m : Nat} (hm : (s.core c).prog = some m)
    (hlo : s.place (F.ENG_DESC_W2_ENTRY m) ≤ (s.core c).pc)
    (hhi : (s.core c).pc < s.place (F.ENG_DESC_W2_ENTRY m) + s.place (F.ENG_DESC_W2_IMEM_LEN m)) :
    s.fetchCheck c = s := by
  simp [State.fetchCheck, hm, hlo, hhi]

/-- The bundle after the core's PC exists and is one of the program the core runs. -/
def State.NextInside (s : State) (c : Nat) : Prop :=
  ∃ m, (s.core c).prog = some m ∧ (s.core c).pc + 1 < 4096 ∧ s.place (F.ENG_DESC_W2_ENTRY m) ≤ (s.core c).pc + 1 ∧
    (s.core c).pc + 1 < s.place (F.ENG_DESC_W2_ENTRY m) + s.place (F.ENG_DESC_W2_IMEM_LEN m)

/-- A bundle that goes straight on completes: the core goes on to the next bundle, and its registers stay. -/
theorem State.endBundle_seq (s : State) {c : Nat} {h : Half} (hc : c < 16) (hlen : c < s.eng.cores.length)
    (hh : (s.core c).half = some h) (hflow : h.flow = .seq) (hl : (s.core c).regs.Loopless) (hn : s.NextInside c) :
    s.endBundle c = (s.coreUpd c fun k => { k with half := none }).setPc c ((s.core c).pc + 1) := by
  obtain ⟨m, hm, hpc, hlo, hhi⟩ := hn
  set u := s.coreUpd c fun k => { k with half := none } with hu
  have hcore : u.core c = { s.core c with half := none } := s.core_coreUpd_same hlen _
  have hulen : c < u.eng.cores.length := by rw [(CoreMoves.coreUpd c s _).count]; exact hlen
  have htests : loopTests (u.core c).pc (u.core c) = ((s.core c).pc + 1, u.core c) := by
    rw [loopTests_of_loopless _ (by rw [hcore]; exact hl), hcore]
  have hend : s.endBundle c = (u.setPc c ((s.core c).pc + 1)).fetchCheck c := by
    simp only [State.endBundle, hh, hflow, ← hu, htests, u.coreUpd_core_self hulen]
  have hmoves : CoreMoves c s (u.setPc c ((s.core c).pc + 1)) := (CoreMoves.coreUpd c s _).trans (CoreMoves.setPc c u _)
  have hcore' : (u.setPc c ((s.core c).pc + 1)).core c = { s.core c with half := none, pc := (s.core c).pc + 1 } := by
    rw [State.core_setPc_same u hulen, hcore, Nat.mod_eq_of_lt hpc]
  have hentry := hmoves.place (f := F.ENG_DESC_W2_ENTRY m) (descW2_ne_coreStatus m hc)
  have hlength := hmoves.place (f := F.ENG_DESC_W2_IMEM_LEN m) (descW2_ne_coreStatus m hc)
  rw [hend]
  apply State.fetchCheck_inside (m := m)
  · rw [hcore']; exact hm
  · rw [hcore', hentry]; exact hlo
  · rw [hcore', hentry, hlength]; exact hhi

/-! ### An instruction that only computes -/

/-- The core's registers become r, its program and transfers stay, and nothing else of the module changes. -/
structure CoreComputes (c : Nat) (r : Regs) (s u : State) : Prop extends CoreMoves c s u where
  result : (u.core c).regs = r
  prog : (u.core c).prog = (s.core c).prog
  xfers : (u.core c).xfers = (s.core c).xfers

/-- In slot S: the writes land and the bundle opens. -/
theorem slot_s_pureOp (s : State) {c : Nat} {pr : Pred} (lat : Nat) (f : Regs → List Wr) (hlen : c < s.eng.cores.length)
    (hp : predHolds (s.core c).regs pr = true) (hs : AtSlotS s c) :
    CoreComputes c (applyAll (f (s.core c).regs) (s.core c).regs) s (s.slot c .s pr lat (pureOp f)) := by
  have hend : s.endBundle c = s := by simp [State.endBundle, hs]
  have hslot : s.slot c .s pr lat (pureOp f) = s.coreUpd c fun k =>
      { k with regs := applyAll (f (s.core c).regs) k.regs,
               half := some ⟨(s.core c).regs, f (s.core c).regs, lat, .seq⟩ } := by
    simp [State.slot, hend, hp, pureOp]
  have hcore := s.core_coreUpd_same hlen fun k =>
    { k with regs := applyAll (f (s.core c).regs) k.regs, half := some ⟨(s.core c).regs, f (s.core c).regs, lat, .seq⟩ }
  rw [hslot]
  exact ⟨CoreMoves.coreUpd c s _, by rw [hcore], by rw [hcore], by rw [hcore]⟩

/-- In slot M beside a slot S that wrote nothing: the writes land and the bundle completes. -/
theorem slot_m_pureOp (s : State) {c : Nat} {pr : Pred} (lat : Nat) (f : Regs → List Wr) (hc : c < 16)
    (hlen : c < s.eng.cores.length) (hp : predHolds (s.core c).regs pr = true) (hm : AtSlotM s c)
    (hlc : (applyAll (f (s.core c).regs) (s.core c).regs).lc = (s.core c).regs.lc) :
    CoreComputes c (applyAll (f (s.core c).regs) (s.core c).regs) s (s.slot c .m pr lat (pureOp f)) := by
  obtain ⟨h, hh, m, hprog, hsrc, hwrites, hflow, hl0, hl1, hpc, hlo, hhi⟩ := hm
  rw [Option.mem_def] at hh hprog
  set r := (s.core c).regs with hr
  set u := s.coreUpd c fun k => { k with regs := applyAll (f r) k.regs, half := some h } with hu
  have hcore : u.core c = { s.core c with regs := applyAll (f r) r, half := some h } := s.core_coreUpd_same hlen _
  have hslot : s.slot c .m pr lat (pureOp f) = u.endBundle c := by
    simp [State.slot, hh, hsrc, ← hr, hp, pureOp, hwrites, hu]
  have hmoves : CoreMoves c s u := CoreMoves.coreUpd c s _
  have hulen : c < u.eng.cores.length := by rw [hmoves.count]; exact hlen
  have hloop : (u.core c).regs.Loopless := by
    rw [hcore]
    unfold Regs.Loopless Regs.lv
    rw [hlc]
    exact ⟨hl0, hl1⟩
  have hnext : u.NextInside c := by
    refine ⟨m, by rw [hcore]; exact hprog, ?_⟩
    rw [hcore, hmoves.place (f := F.ENG_DESC_W2_ENTRY m) (descW2_ne_coreStatus m hc),
      hmoves.place (f := F.ENG_DESC_W2_IMEM_LEN m) (descW2_ne_coreStatus m hc)]
    exact ⟨hpc, hlo, hhi⟩
  have hend := u.endBundle_seq hc hulen (by rw [hcore]) hflow hloop hnext
  have hclosed := CoreMoves.coreUpd c u fun k => { k with half := none }
  have hcore' : (u.endBundle c).core c =
      { s.core c with regs := applyAll (f r) r, half := none, pc := ((s.core c).pc + 1) % 4096 } := by
    rw [hend, State.core_setPc_same _ (by rw [hclosed.count]; exact hulen), State.core_coreUpd_same u hulen, hcore]
  rw [hslot]
  refine ⟨?_, by rw [hcore'], by rw [hcore'], by rw [hcore']⟩
  rw [hend]
  exact hmoves.trans (hclosed.trans (CoreMoves.setPc c _ _))

/-- An instruction that only computes, in a core that is ready for it: the registers become what its writes make of them. -/
theorem answers_pureOp {i : Instr} {s : State} {c lat : Nat} {sl : Slot} {pr : Pred} {f : Regs → List Wr} {g : Regs → Regs}
    (hx : exec i s = s.acson c sl pr lat (pureOp f)) (hready : Ready s c sl pr)
    (hg : applyAll (f (s.core c).regs) (s.core c).regs = g (s.core c).regs)
    (hlc : (g (s.core c).regs).lc = (s.core c).regs.lc) : Answers i s (Computes c g s) := by
  obtain ⟨hshape, hcores, hpred, hs, hm⟩ := hready
  have hc : c < 16 := Nat.lt_of_lt_of_le hcores s.cores_le
  have hlen : c < s.eng.cores.length := by
    obtain ⟨-, -, -, -, -, -, -, h16, -⟩ := hshape
    rw [h16]
    exact hc
  have hu : CoreComputes c (g (s.core c).regs) s.fresh (s.fresh.slot c sl pr lat (pureOp f)) := by
    rw [← hg] at hlc ⊢
    cases sl with
    | s => exact slot_s_pureOp s.fresh lat f hlen hpred (hs rfl)
    | m => exact slot_m_pureOp s.fresh lat f hc hlen hpred (hm rfl) hlc
  refine answers_runIf _ _ hx (decide_eq_true hcores) rfl hu.variant ⟨?_, ?_, ?_, ?_⟩
  · simpa [State.core] using hu.result
  · simpa [State.core] using hu.prog
  · simpa [State.core] using hu.xfers
  · have h : CoreMoves c s.fresh (s.fresh.slot c sl pr lat (pureOp f)) := hu.toCoreMoves
    exact CoreMoves.coreOnly (s := s) ⟨h.cores, h.count, h.eng, h.regs, h.mem, h.parts, h.variant⟩

end Sys2Proof.Machine
end

section
/-! PROOFS. Words and their fields (R248 to R252): what the formats decode to, opcode by opcode. -/

namespace Sys2Proof.Machine

/-! ### The fields of a word -/

theorem predCode_lt (pr : Pred) : predCode pr < 16 := by
  rcases pr with _ | ⟨neg, f⟩
  · decide
  · cases neg <;> simp only [predCode] <;> simp <;> omega

theorem predOf_predCode (pr : Pred) : predOf (predCode pr) = some pr := by
  rcases pr with _ | ⟨neg, f⟩
  · rfl
  · revert neg f
    decide

theorem fmtR_opcode {op : Nat} (pr : Pred) {dst sa sb fn : Nat} (hop : op < 64) (hd : dst < 32) (ha : sa < 32) (hb : sb < 32)
    (hf : fn < 128) : fmtR op pr dst sa sb fn / 2 ^ 26 % 64 = op := by
  have := predCode_lt pr
  unfold fmtR
  omega

/-- A format R word has the fields it is made of (R248). -/
theorem fieldsOf_fmtR (op : Nat) (pr : Pred) {dst sa sb fn : Nat} (hd : dst < 32) (ha : sa < 32) (hb : sb < 32)
    (hf : fn < 128) : fieldsOf (fmtR op pr dst sa sb fn) = some ⟨pr, dst, sa, sb, fn⟩ := by
  have hp := predCode_lt pr
  have h1 : fmtR op pr dst sa sb fn / 2 ^ 22 % 16 = predCode pr := by unfold fmtR; omega
  have h2 : fmtR op pr dst sa sb fn / 2 ^ 17 % 32 = dst := by unfold fmtR; omega
  have h3 : fmtR op pr dst sa sb fn / 2 ^ 12 % 32 = sa := by unfold fmtR; omega
  have h4 : fmtR op pr dst sa sb fn / 2 ^ 7 % 32 = sb := by unfold fmtR; omega
  have h5 : fmtR op pr dst sa sb fn % 2 ^ 7 = fn := by unfold fmtR; omega
  rw [fieldsOf, h1, h2, h3, h4, h5, predOf_predCode]
  rfl

/-- Format I is format R with the immediate in SB and FN. -/
theorem fmtI_eq_fmtR (op : Nat) (pr : Pred) (dst sa imm : Nat) :
    fmtI op pr dst sa imm = fmtR op pr dst sa (imm / 128) (imm % 128) := by
  unfold fmtI fmtR
  omega

/-- Format L is format R with the immediate in SA, SB and FN. -/
theorem fmtL_eq_fmtR (op : Nat) (pr : Pred) (dst imm : Nat) :
    fmtL op pr dst imm = fmtR op pr dst (imm / 4096) (imm / 128 % 32) (imm % 128) := by
  unfold fmtL fmtR
  omega

/-- The lower fields of a word with fields. -/
theorem of_fieldsOf_eq_some {w : Nat} {x : Fields} (h : fieldsOf w = some x) :
    x.dst = w / 2 ^ 17 % 32 ∧ x.fn = w % 128 ∧ x.imm12 = w % 4096 ∧ x.imm17 = w % 2 ^ 17 := by
  obtain ⟨pr, -, rfl⟩ := Option.map_eq_some_iff.mp h
  refine ⟨rfl, rfl, ?_, ?_⟩
  · simp only [Fields.imm12]
    omega
  · simp only [Fields.imm17, Fields.imm12]
    omega

@[simp] theorem fD_val (d : D) : fD d.val = d := Fin.ofNat_val_eq_self d

theorem regF_val {n : Nat} (x : Fin n) (h : 0 < n) : regF n x.val h = some x := by
  simp [regF, Nat.mod_eq_of_lt]

@[simp] theorem fP_val (p : P) : fP p.val = some p := regF_val p _
@[simp] theorem fQ_val (q : Q) : fQ q.val = some q := regF_val q _
@[simp] theorem f2_val (n : Fin 2) : f2 n.val = some n := regF_val n _

/-! ### Opcodes (R252) -/

/-- The opcodes that a slot takes alone. -/
def decOwn (c : Nat) (sl : Slot) (op w : Nat) (x : Fields) : Option Instr :=
  match sl with
  | .s => decS c op w x
  | .m => decM c op x

/-- The instruction of an opcode and fields in a slot. -/
def decOp (c : Nat) (sl : Slot) (op w : Nat) (x : Fields) : Option Instr := (decBoth c sl op x).or (decOwn c sl op w x)

/-- A word that is neither zero nor a loop decodes by its opcode and fields. -/
theorem decodeWord_eq_decOp (c : Nat) (sl : Slot) {w : Nat} (hw : w ≠ 0) (hop : w / 2 ^ 26 % 64 < 0x38) :
    decodeWord c sl w = (fieldsOf w).bind (decOp c sl (w / 2 ^ 26 % 64) w) := by
  unfold decodeWord
  generalize w / 2 ^ 26 % 64 = op at hop
  have h38 : ¬(op = 0x38 ∧ sl = .s) := by omega
  have h39 : ¬(op = 0x39 ∧ sl = .s) := by omega
  rw [if_neg hw, if_neg h38, if_neg h39]
  cases fieldsOf w with
  | none => rfl
  | some x =>
    simp only [Option.bind_some, decOp]
    cases decBoth c sl op x with
    | none => cases sl <;> rfl
    | some i => rfl

/-- A format R word decodes by its opcode and the fields it is made of. -/
theorem decodeWord_fmtR (c : Nat) (sl : Slot) {op : Nat} (pr : Pred) {dst sa sb fn : Nat} (hop : 0 < op ∧ op < 0x38)
    (hd : dst < 32) (ha : sa < 32) (hb : sb < 32) (hf : fn < 128) :
    decodeWord c sl (fmtR op pr dst sa sb fn) = decOp c sl op (fmtR op pr dst sa sb fn) ⟨pr, dst, sa, sb, fn⟩ := by
  have hopc := fmtR_opcode pr (show op < 64 by omega) hd ha hb hf
  have hne : fmtR op pr dst sa sb fn ≠ 0 := by
    intro h
    rw [h] at hopc
    omega
  rw [decodeWord_eq_decOp c sl hne (by omega), hopc, fieldsOf_fmtR op pr hd ha hb hf]
  rfl

/-- A word of an opcode is undefined in a slot where no fields of it make an instruction. -/
theorem decodeWord_eq_none (c : Nat) (sl : Slot) {w op : Nat} (hop : 0 < op ∧ op < 0x38) (hw : w / 2 ^ 26 % 64 = op)
    (h : ∀ x, fieldsOf w = some x → decOp c sl op w x = none) : decodeWord c sl w = none := by
  have hne : w ≠ 0 := by omega
  rw [decodeWord_eq_decOp c sl hne (by omega), hw]
  cases hx : fieldsOf w with
  | none => rfl
  | some x => exact h x hx

/-- A function code that no fields of the opcode take is undefined in both slots (R251). -/
theorem undefined_of_decOp {op lo hi : Nat} (hop : 0 < op ∧ op < 0x38)
    (h : ∀ c sl w (x : Fields), lo ≤ x.fn → x.fn ≤ hi → decOp c sl op w x = none) : Undefined op lo hi := by
  intro c sl w hw hlo hhi
  refine decodeWord_eq_none c sl hop hw fun x hx => ?_
  obtain ⟨-, hfn, -, -⟩ := of_fieldsOf_eq_some hx
  exact h c sl w x (by omega) (by omega)

/-! ### The decoder's table, opcode by opcode -/

section
variable (c w : Nat) (sl : Slot) (x : Fields)

@[simp] theorem decOp_01 : decOp c sl 0x1 w x = dec01 c sl x := by cases sl <;> exact Option.or_none
@[simp] theorem decOp_02 : decOp c sl 0x2 w x = dec02 c sl x := by cases sl <;> exact Option.or_none
@[simp] theorem decOp_06 : decOp c sl 0x6 w x = dec06 c sl x := by cases sl <;> exact Option.or_none
@[simp] theorem decOp_08 : decOp c sl 0x8 w x = dec08 c sl x := by cases sl <;> exact Option.or_none
@[simp] theorem decOp_0F : decOp c sl 0xf w x = dec0F c sl x := by cases sl <;> exact Option.or_none

@[simp] theorem decOp_s_03 : decOp c .s 0x3 w x = dec03 c x := rfl
@[simp] theorem decOp_s_04 : decOp c .s 0x4 w x = dec04 c x := rfl
@[simp] theorem decOp_s_05 : decOp c .s 0x5 w x = dec05 c x := rfl
@[simp] theorem decOp_s_09 : decOp c .s 0x9 w x = dec09 c x := rfl
@[simp] theorem decOp_s_0A : decOp c .s 0xa w x = dec0A c x := rfl
@[simp] theorem decOp_s_0B : decOp c .s 0xb w x = dec0B c x := rfl
@[simp] theorem decOp_s_0C : decOp c .s 0xc w x = dec0C c x := rfl
@[simp] theorem decOp_s_0D : decOp c .s 0xd w x = dec0D c x := rfl
@[simp] theorem decOp_s_0E : decOp c .s 0xe w x = dec0E c x := rfl

@[simp] theorem decOp_m_24 : decOp c .m 0x24 w x = dec24 c x := rfl
@[simp] theorem decOp_m_25 : decOp c .m 0x25 w x = dec25 c x := rfl
@[simp] theorem decOp_m_26 : decOp c .m 0x26 w x = dec26 c x := rfl
@[simp] theorem decOp_m_27 : decOp c .m 0x27 w x = dec27 c x := rfl
@[simp] theorem decOp_m_28 : decOp c .m 0x28 w x = dec28 c x := rfl
@[simp] theorem decOp_m_29 : decOp c .m 0x29 w x = dec29 c x := rfl

/-- Slot M takes no opcode of slot S alone. -/
theorem decOp_m_of_slotS {op : Nat} (h : op = 0x9 ∨ op = 0xa ∨ op = 0xc ∨ op = 0xd ∨ op = 0xe) : decOp c .m op w x = none := by
  rcases h with rfl | rfl | rfl | rfl | rfl <;> rfl

/-- Slot S takes no opcode of slot M alone. -/
theorem decOp_s_of_slotM {op : Nat} (h : 0x24 ≤ op ∧ op ≤ 0x29) : decOp c .s op w x = none := by
  obtain ⟨hlo, hhi⟩ := h
  interval_cases op <;> rfl

end

/-- An opcode of slot S alone has an undefined range of function codes where its own table leaves them out. -/
theorem undefined_of_slotS {op lo hi : Nat} (hop : op = 0x9 ∨ op = 0xa ∨ op = 0xc ∨ op = 0xd ∨ op = 0xe)
    (h : ∀ c w (x : Fields), lo ≤ x.fn → x.fn ≤ hi → decOp c .s op w x = none) : Undefined op lo hi :=
  undefined_of_decOp (by omega) fun c sl w x hlo hhi => by
    cases sl with
    | s => exact h c w x hlo hhi
    | m => exact decOp_m_of_slotS c w x hop

/-- An opcode of slot M alone has an undefined range of function codes where its own table leaves them out. -/
theorem undefined_of_slotM {op lo hi : Nat} (hop : 0x24 ≤ op ∧ op ≤ 0x29)
    (h : ∀ c w (x : Fields), lo ≤ x.fn → x.fn ≤ hi → decOp c .m op w x = none) : Undefined op lo hi :=
  undefined_of_decOp (by omega) fun c sl w x hlo hhi => by
    cases sl with
    | s => exact decOp_s_of_slotM c w x hop
    | m => exact h c w x hlo hhi

/-! ### A word that means an instruction which computes -/

/-- An instruction that only computes, with what it makes of the registers: a core that is ready for it answers so. -/
def ComputesAs (c : Nat) (sl : Slot) (pr : Pred) (i : Instr) (g : Regs → Regs) : Prop :=
  ∀ s : State, Ready s c sl pr → Answers i s (Computes c g s)

/-- The meaning writes what g says; where g is those writes, and moves no loop counter, by definition, nothing else is asked. -/
theorem computesAs_pureOp {i : Instr} {c lat : Nat} {sl : Slot} {pr : Pred} {f : Regs → List Wr} {g : Regs → Regs}
    (hx : ∀ s, exec i s = s.acson c sl pr lat (pureOp f)) (hg : ∀ r, applyAll (f r) r = g r := by intro r; rfl)
    (hlc : ∀ r, (g r).lc = r.lc := by intro r; rfl) : ComputesAs c sl pr i g :=
  fun s hready => answers_pureOp (hx s) hready (hg _) (hlc _)

theorem means_fmtR {c op dst sa sb fn : Nat} {sl : Slot} {pr : Pred} {i : Instr}
    (h : decOp c sl op (fmtR op pr dst sa sb fn) ⟨pr, dst, sa, sb, fn⟩ = some i) (hop : 0 < op ∧ op < 0x38 := by decide)
    (hd : dst < 32 := by omega) (ha : sa < 32 := by omega) (hb : sb < 32 := by omega) (hf : fn < 128 := by omega) :
    Means c sl (fmtR op pr dst sa sb fn) i :=
  (decodeWord_fmtR c sl pr hop hd ha hb hf).trans h

/-- A format I word means what its opcode makes of fields with that immediate. -/
theorem means_fmtI {c op dst sa imm : Nat} {sl : Slot} {pr : Pred} {i : Instr}
    (h : ∀ w (x : Fields), x.pr = pr → x.dst = dst → x.sa = sa → x.imm12 = imm → decOp c sl op w x = some i)
    (hop : 0 < op ∧ op < 0x38 := by decide) (hd : dst < 32 := by omega) (ha : sa < 32 := by omega)
    (himm : imm < 2 ^ 12 := by omega) : Means c sl (fmtI op pr dst sa imm) i := by
  rw [fmtI_eq_fmtR]
  exact means_fmtR (h _ _ rfl rfl rfl (by simp only [Fields.imm12]; omega)) hop hd ha (by omega) (by omega)

/-- A format L word means what its opcode makes of fields with that immediate. -/
theorem means_fmtL {c op dst imm : Nat} {sl : Slot} {pr : Pred} {i : Instr}
    (h : ∀ w (x : Fields), x.pr = pr → x.dst = dst → x.imm17 = imm → decOp c sl op w x = some i)
    (hop : 0 < op ∧ op < 0x38 := by decide) (hd : dst < 32 := by omega) (himm : imm < 2 ^ 17 := by omega) :
    Means c sl (fmtL op pr dst imm) i := by
  rw [fmtL_eq_fmtR]
  refine means_fmtR (h _ _ rfl rfl ?_) hop hd (by omega) (by omega) (by omega)
  simp only [Fields.imm17, Fields.imm12]
  omega

end Sys2Proof.Machine
end

section
/-! PROOFS. The integer ALU and the immediate forms (R253, R254). -/

namespace Sys2Proof.Machine

/-! ### Minima and maxima -/

/-- The smaller of two, told by a strict or a weak comparison of what tells them apart. -/
theorem ite_le_eq_ite_lt {α β : Type} [LinearOrder β] {f : α → β} (hf : Function.Injective f) (x y : α) :
    (if f x ≤ f y then x else y) = if f x < f y then x else y := by
  rcases lt_trichotomy (f x) (f y) with h | h | h
  · rw [if_pos h.le, if_pos h]
  · rw [if_pos h.le, if_neg h.not_lt, hf h]
  · rw [if_neg h.not_ge, if_neg h.not_gt]

/-- The larger of two, told by a strict or a weak comparison of what tells them apart. -/
theorem ite_le_eq_ite_lt_swap {α β : Type} [LinearOrder β] {f : α → β} (hf : Function.Injective f) (x y : α) :
    (if f x ≤ f y then y else x) = if f x < f y then y else x := by
  rcases lt_trichotomy (f x) (f y) with h | h | h
  · rw [if_pos h.le, if_pos h]
  · rw [if_pos h.le, if_neg h.not_lt, hf h]
  · rw [if_neg h.not_ge, if_neg h.not_gt]

theorem toInt_injective (w : Nat) : Function.Injective (BitVec.toInt : BitVec w → Int) := fun _ _ h => BitVec.eq_of_toInt_eq h

theorem toNat_injective (w : Nat) : Function.Injective (BitVec.toNat : BitVec w → Nat) := fun _ _ h => BitVec.eq_of_toNat_eq h

/-- A data register's write lands as its value is told. -/
theorem applyAll_d_eq_toD {d : D} {v : Word} {g : Regs → Word} {r : Regs} (h : v = g r) : applyAll [.d d v] r = toD d g r := by
  rw [h]
  rfl

/-! ### Undefined words -/

theorem undefined_op01 : Undefined 0x1 0x0D 0x7F :=
  undefined_of_decOp (by decide) fun c sl w x hlo _ => by
    rw [decOp_01, dec01]
    repeat rw [if_neg (by omega)]

/-- Shifts by immediate: selection 0b11 and IMM12 [9:5] set (R254). -/
theorem decodeWord_op06_eq_none (c : Nat) (sl : Slot) (w : Nat) (hop : w / 2 ^ 26 % 64 = 6)
    (h : w / 1024 % 4 = 3 ∨ w / 32 % 32 ≠ 0) : decodeWord c sl w = none := by
  refine decodeWord_eq_none c sl (by decide) hop fun x hx => ?_
  obtain ⟨-, -, himm, -⟩ := of_fieldsOf_eq_some hx
  rw [decOp_06, dec06, himm]
  by_cases h0 : w % 4096 / 32 % 32 ≠ 0
  · rw [if_pos h0]
  · rw [if_neg h0]
    repeat rw [if_neg (by omega)]

/-- movhi with IMM17 [16] set (R254). -/
theorem decodeWord_op09_eq_none (c : Nat) (sl : Slot) (w : Nat) (hop : w / 2 ^ 26 % 64 = 9) (h : w / 65536 % 2 = 1) :
    decodeWord c sl w = none := by
  refine decodeWord_eq_none c sl (by decide) hop fun x hx => ?_
  obtain ⟨-, -, -, himm⟩ := of_fieldsOf_eq_some hx
  cases sl with
  | s => rw [decOp_s_09, dec09, himm, if_neg (by omega)]
  | m => exact decOp_m_of_slotS c w x (by decide)

/-! ### The words of the shifts -/

/-- A shift by immediate: its selection in IMM12 [11:10], its amount in IMM12 [4:0]. -/
theorem means_shiftImm {c : Nat} {sl : Slot} {pr : Pred} {d a : D} {n : Fin 32} (k : Nat) {i : Instr}
    (h : ∀ x : Fields, x.pr = pr → x.dst = d → x.sa = a → x.imm12 / 32 % 32 = 0 → x.imm12 / 1024 = k →
      x.imm12 % 32 = n.val → dec06 c sl x = some i) (hk : k < 4 := by decide) :
    Means c sl (fmtI 0x6 pr d.val a.val (1024 * k + n.val)) i := by
  refine means_fmtI fun w x hp hd ha himm => (decOp_06 ..).trans (h x hp hd ha ?_ ?_ ?_)
  · omega
  · omega
  · omega

/-- Settles O34: every instruction writes what its table says, and every other word of the opcodes is undefined. -/
theorem integerOperations : Obligations.IntegerOperations := by
  unfold Obligations.IntegerOperations
  refine ⟨
    -- opcode 0x01: add to sar
    fun c sl pr d a b => ⟨means_fmtR (by simp [dec01]), computesAs_pureOp fun _ => rfl⟩,
    fun c sl pr d a b => ⟨means_fmtR (by simp [dec01]), computesAs_pureOp fun _ => rfl⟩,
    fun c sl pr d a b => ⟨means_fmtR (by simp [dec01]), computesAs_pureOp fun _ => rfl⟩,
    fun c sl pr d a b => ⟨means_fmtR (by simp [dec01]), computesAs_pureOp fun _ => rfl⟩,
    fun c sl pr d a b => ⟨means_fmtR (by simp [dec01]), computesAs_pureOp fun _ => rfl⟩,
    fun c sl pr d a b => ⟨means_fmtR (by simp [dec01]), computesAs_pureOp fun _ => rfl⟩,
    fun c sl pr d a b => ⟨means_fmtR (by simp [dec01]), computesAs_pureOp fun _ => rfl⟩,
    fun c sl pr d a b => ⟨means_fmtR (by simp [dec01]), computesAs_pureOp fun _ => rfl⟩,
    fun c sl pr d a b => ⟨means_fmtR (by simp [dec01]), computesAs_pureOp fun _ => rfl⟩,
    -- opcode 0x01: min, max, minu, maxu
    fun c sl pr d a b => ⟨means_fmtR (by simp [dec01]),
      computesAs_pureOp (fun _ => rfl) (fun _ => applyAll_d_eq_toD (ite_le_eq_ite_lt (toInt_injective _) _ _))⟩,
    fun c sl pr d a b => ⟨means_fmtR (by simp [dec01]),
      computesAs_pureOp (fun _ => rfl) (fun _ => applyAll_d_eq_toD (ite_le_eq_ite_lt_swap (toInt_injective _) _ _))⟩,
    fun c sl pr d a b => ⟨means_fmtR (by simp [dec01]),
      computesAs_pureOp (fun _ => rfl) (fun _ => applyAll_d_eq_toD (ite_le_eq_ite_lt (toNat_injective _) _ _))⟩,
    fun c sl pr d a b => ⟨means_fmtR (by simp [dec01]),
      computesAs_pureOp (fun _ => rfl) (fun _ => applyAll_d_eq_toD (ite_le_eq_ite_lt_swap (toNat_injective _) _ _))⟩,
    undefined_op01,
    -- addi and the logical immediates
    fun c sl pr d a imm =>
      ⟨means_fmtI fun w x hp hd ha hi => by simp [dec02, hp, hd, ha, hi], computesAs_pureOp fun _ => rfl⟩,
    fun c pr d a imm =>
      ⟨means_fmtI fun w x hp hd ha hi => by simp [dec03, hp, hd, ha, hi], computesAs_pureOp fun _ => rfl⟩,
    fun c pr d a imm =>
      ⟨means_fmtI fun w x hp hd ha hi => by simp [dec04, hp, hd, ha, hi], computesAs_pureOp fun _ => rfl⟩,
    fun c pr d a imm =>
      ⟨means_fmtI fun w x hp hd ha hi => by simp [dec05, hp, hd, ha, hi], computesAs_pureOp fun _ => rfl⟩,
    -- opcode 0x06: shli, shri, sari
    fun c sl pr d a n =>
      ⟨means_shiftImm 0 fun x hp hd ha hz hk hn => by simp [dec06, hp, hd, ha, hz, hk, hn], computesAs_pureOp fun _ => rfl⟩,
    fun c sl pr d a n =>
      ⟨means_shiftImm 1 fun x hp hd ha hz hk hn => by simp [dec06, hp, hd, ha, hz, hk, hn], computesAs_pureOp fun _ => rfl⟩,
    fun c sl pr d a n =>
      ⟨means_shiftImm 2 fun x hp hd ha hz hk hn => by simp [dec06, hp, hd, ha, hz, hk, hn], computesAs_pureOp fun _ => rfl⟩,
    -- movi, movhi, padd
    fun c sl pr d imm => ⟨means_fmtL fun w x hp hd hi => by simp [dec08, hp, hd, hi], computesAs_pureOp fun _ => rfl⟩,
    fun c pr d imm => ⟨means_fmtL fun w x hp hd hi => by simp [dec09, hp, hd, hi, imm.isLt], computesAs_pureOp fun _ => rfl⟩,
    fun c pr d a imm =>
      ⟨means_fmtI fun w x hp hd ha hi => by simp [dec0B, hp, hd, ha, hi], computesAs_pureOp fun _ => rfl⟩,
    -- opcodes 0x06 and 0x09: the undefined words
    decodeWord_op06_eq_none,
    decodeWord_op09_eq_none⟩

end Sys2Proof.Machine
end

section
/-! PROOFS. Moves between the register files, compares, predicate operations and select (R255, R256). -/

namespace Sys2Proof.Machine

/-! ### The predicate registers as a word -/

theorem ofNat_ofBits_four : ∀ b0 b1 b2 b3 : Bool, BitVec.ofNat 32 (ofBits [b0, b1, b2, b3]) =
    (BitVec.ofBool b3 ++ BitVec.ofBool b2 ++ BitVec.ofBool b1 ++ BitVec.ofBool b0).setWidth 32 := by decide

/-- The word of four predicate registers holds one bit of each, the first lowest (R255). -/
theorem ofNat_ofBits_predicates {r : Regs} (h : r.f.length = 4) : BitVec.ofNat 32 (ofBits r.f) =
    (BitVec.ofBool (r.fv 3) ++ BitVec.ofBool (r.fv 2) ++ BitVec.ofBool (r.fv 1) ++ BitVec.ofBool (r.fv 0)).setWidth 32 := by
  obtain ⟨f0, f1, f2, f3, hf⟩ := List.length_eq_four.mp h
  simp only [Regs.fv, hf]
  exact ofNat_ofBits_four f0 f1 f2 f3

/-- Four writes replace the four predicate registers. -/
theorem applyAll_four_predicates {r : Regs} (g : Nat → Bool) (h : r.f.length = 4) :
    applyAll ((List.range 4).map fun i => .f i (g i)) r = { r with f := [g 0, g 1, g 2, g 3] } := by
  obtain ⟨f0, f1, f2, f3, hf⟩ := List.length_eq_four.mp h
  obtain ⟨d, p, acc, f, lc, sf⟩ := r
  subst hf
  rfl

/-! ### Compares, for every condition -/

theorem ccOf_ccCode (cc : Cc) : ccOf (ccCode cc) = some cc := by cases cc <;> rfl

theorem ccCode_le (cc : Cc) : ccCode cc ≤ 5 := by cases cc <;> decide

theorem ccOf_eq_none {n : Nat} (h : 6 ≤ n) : ccOf n = none := by
  obtain ⟨k, rfl⟩ := Nat.exists_eq_add_of_le' h
  rfl

/-- A compare of two registers (R256). -/
theorem cmp_means_computes (c : Nat) (pr : Pred) (cc : Cc) (f : Q) (a b : D) :
    Means c .s (fmtR 0xc pr f.val a.val b.val (ccCode cc)) (.cmp c pr cc f a b) ∧
      ComputesAs c .s pr (.cmp c pr cc f a b) (toF f fun r => ccHolds cc (r.dv a) (r.dv b)) := by
  have hcc := ccCode_le cc
  exact ⟨means_fmtR (by simp [dec0C, ccOf_ccCode]),
    computesAs_pureOp fun _ => rfl⟩

/-- A compare with an immediate: the condition's code is in DST [2:0] (R256). -/
theorem cmpi_means_computes (c : Nat) (pr : Pred) (cc : Cc) (f : Q) (a : D) (imm : BitVec 12) :
    Means c .s (fmtI 0xd pr (f.val * 8 + ccCode cc) a.val imm.toNat) (.cmpi c pr cc f a imm) ∧
      ComputesAs c .s pr (.cmpi c pr cc f a imm) (toF f fun r => ccHolds cc (r.dv a) (imm.signExtend 32)) := by
  have hcc := ccCode_le cc
  have hdiv : (f.val * 8 + ccCode cc) / 8 = f.val := by omega
  have hmod : (f.val * 8 + ccCode cc) % 8 = ccCode cc := by omega
  exact ⟨means_fmtI fun w x hp hd ha hi => by simp [dec0D, hp, hd, ha, hi, hdiv, hmod, ccOf_ccCode],
    computesAs_pureOp fun _ => rfl⟩

/-! ### Undefined words -/

theorem undefined_op0A : Undefined 0xA 8 0x7F :=
  undefined_of_slotS (by decide) fun c w x hlo _ => by
    rw [decOp_s_0A, dec0A]
    repeat rw [if_neg (by omega)]

theorem undefined_op0C : Undefined 0xC 6 0x7F :=
  undefined_of_slotS (by decide) fun c w x hlo _ => by
    rw [decOp_s_0C, dec0C, ccOf_eq_none hlo]
    cases fQ x.dst <;> rfl

theorem undefined_op0E : Undefined 0xE 7 0x7F :=
  undefined_of_slotS (by decide) fun c w x hlo _ => by
    rw [decOp_s_0E, dec0E]
    repeat rw [if_neg (by omega)]

theorem undefined_op0F : Undefined 0xF 4 0x7F :=
  undefined_of_decOp (by decide) fun c sl w x hlo _ => by
    rw [decOp_0F, dec0F, if_neg (by omega)]

/-- cmpi with a condition code of 6 or 7 (R256). -/
theorem decodeWord_op0D_eq_none (c : Nat) (sl : Slot) (w : Nat) (hop : w / 2 ^ 26 % 64 = 13) (h : 6 ≤ w / 2 ^ 17 % 8) :
    decodeWord c sl w = none := by
  refine decodeWord_eq_none c sl (by decide) hop fun x hx => ?_
  obtain ⟨hdst, -, -, -⟩ := of_fieldsOf_eq_some hx
  cases sl with
  | s =>
    rw [decOp_s_0D, dec0D, ccOf_eq_none (n := x.dst % 8) (by omega)]
    cases fQ (x.dst / 8) <;> rfl
  | m => exact decOp_m_of_slotS c w x (by decide)

/-! ### The obligation -/

/-- Settles O35: each move, compare, predicate operation and select writes what its table says, and the other words are undefined. -/
theorem movesAndCompares : Obligations.MovesAndCompares := by
  unfold Obligations.MovesAndCompares
  refine ⟨
    -- opcode 0x0A: copies between the register files
    fun c pr d a => ⟨means_fmtR (by simp [dec0A]), computesAs_pureOp fun _ => rfl⟩,
    fun c pr d a => ⟨means_fmtR (by simp [dec0A]), computesAs_pureOp fun _ => rfl⟩,
    fun c pr d a => ⟨means_fmtR (by simp [dec0A]), computesAs_pureOp fun _ => rfl⟩,
    fun c pr d a => ⟨means_fmtR (by simp [dec0A]), computesAs_pureOp fun _ => rfl⟩,
    -- opcode 0x0A: sf and the predicates
    fun c pr d => ⟨means_fmtR (by simp [dec0A]), computesAs_pureOp fun _ => rfl⟩,
    fun c pr => ⟨means_fmtR (by simp [dec0A]), computesAs_pureOp fun _ => rfl⟩,
    fun c pr d => ⟨means_fmtR (by simp [dec0A]),
      fun s hr h4 => answers_pureOp rfl hr (applyAll_d_eq_toD (ofNat_ofBits_predicates h4)) rfl⟩,
    fun c pr a => ⟨means_fmtR (by simp [dec0A]),
      fun s hr h4 => answers_pureOp rfl hr (applyAll_four_predicates _ h4) rfl⟩,
    undefined_op0A,
    -- opcodes 0x0C and 0x0D, by condition
    fun c pr f a b => cmp_means_computes c pr .eq f a b,
    fun c pr f a imm => cmpi_means_computes c pr .eq f a imm,
    fun c pr f a b => cmp_means_computes c pr .ne f a b,
    fun c pr f a imm => cmpi_means_computes c pr .ne f a imm,
    fun c pr f a b => cmp_means_computes c pr .lt f a b,
    fun c pr f a imm => cmpi_means_computes c pr .lt f a imm,
    fun c pr f a b => cmp_means_computes c pr .le f a b,
    fun c pr f a imm => cmpi_means_computes c pr .le f a imm,
    fun c pr f a b => cmp_means_computes c pr .ltu f a b,
    fun c pr f a imm => cmpi_means_computes c pr .ltu f a imm,
    fun c pr f a b => cmp_means_computes c pr .leu f a b,
    fun c pr f a imm => cmpi_means_computes c pr .leu f a imm,
    -- opcode 0x0E: predicate operations
    fun c pr d a b => ⟨means_fmtR (by simp [dec0E]), computesAs_pureOp fun _ => rfl⟩,
    fun c pr d a b => ⟨means_fmtR (by simp [dec0E]), computesAs_pureOp fun _ => rfl⟩,
    fun c pr d a b => ⟨means_fmtR (by simp [dec0E]), computesAs_pureOp fun _ => rfl⟩,
    fun c pr d a b => ⟨means_fmtR (by simp [dec0E]), computesAs_pureOp fun _ => rfl⟩,
    fun c pr d a => ⟨means_fmtR (by simp [dec0E]), computesAs_pureOp fun _ => rfl⟩,
    fun c pr d => ⟨means_fmtR (by simp [dec0E]), computesAs_pureOp fun _ => rfl⟩,
    fun c pr d => ⟨means_fmtR (by simp [dec0E]), computesAs_pureOp fun _ => rfl⟩,
    -- opcode 0x0F: sel
    fun c sl pr d f a b => ⟨means_fmtR (by simp [dec0F]), computesAs_pureOp fun _ => rfl⟩,
    -- opcodes 0x0C to 0x0F: the undefined words
    undefined_op0C,
    undefined_op0E,
    undefined_op0F,
    decodeWord_op0D_eq_none⟩

end Sys2Proof.Machine
end

section
/-! PROOFS. Saturating q31 arithmetic and the q15 halves (R257, R261). -/

namespace Sys2Proof.Machine

/-! ### Results that set no bit of sf -/

/-- A result that sets no bit of sf writes its data register alone. -/
theorem applyAll_d_sf_eq_toD {d : D} {v : Word × Nat} {g : Regs → Word} {r : Regs} (hv : v = (g r, 0)) :
    applyAll [.d d v.1, .sf v.2] r = toD d g r := by
  rw [hv]
  simp [applyAll, Wr.apply, toD]

theorem sat16_snd_eq_zero {i : Int} (hlo : -32768 ≤ i) (hhi : i ≤ 32767) : (sat16 i).2 = 0 := by
  simp [sat16, show ¬ 32767 < i by omega, show ¬ i < -32768 by omega]

/-- A q15 half lies in q15. -/
theorem toInt_half_bounds (h : BitVec 16) : -32768 ≤ h.toInt ∧ h.toInt ≤ 32767 := by
  have hlo := BitVec.le_toInt h
  have hhi := BitVec.toInt_lt (x := h)
  omega

/-- An operation that answers one of its two halves clips nothing. -/
theorem halves_snd_eq_zero {f : Int → Int → Int} (hf : ∀ i j, f i j = i ∨ f i j = j) (x y : Word) : (halves f x y).2 = 0 := by
  have key : ∀ g h : BitVec 16, (sat16 (f g.toInt h.toInt)).2 = 0 := by
    intro g h
    rcases hf g.toInt h.toInt with e | e
    · rw [e]
      exact sat16_snd_eq_zero (toInt_half_bounds g).1 (toInt_half_bounds g).2
    · rw [e]
      exact sat16_snd_eq_zero (toInt_half_bounds h).1 (toInt_half_bounds h).2
  simp only [halves, key]
  rfl

/-- The greatest magnitude has no negative: it clips (R257). -/
theorem sat31_neg_minimum : sat31 (-(0x80000000#32).toInt) = (0x7FFFFFFF#32, 1) := by decide

/-! ### Undefined words -/

theorem undefined_op27_low : Undefined 0x27 4 0x1F :=
  undefined_of_slotM (by decide) fun c w x hlo hhi => by
    rw [decOp_m_27, dec27]
    repeat rw [if_neg (by omega)]

theorem undefined_op27_high : Undefined 0x27 0x40 0x7F :=
  undefined_of_slotM (by decide) fun c w x hlo hhi => by
    rw [decOp_m_27, dec27]
    repeat rw [if_neg (by omega)]

theorem undefined_op28 : Undefined 0x28 9 0x7F :=
  undefined_of_slotM (by decide) fun c w x hlo hhi => by
    rw [decOp_m_28, dec28]
    repeat rw [if_neg (by omega)]

/-! ### The saturating shift -/

/-- The shift amount is in FN [4:0] of the codes 0x20 to 0x3F (R257). -/
theorem means_shlS (c : Nat) (pr : Pred) (d a : D) (n : Fin 32) :
    Means c .m (fmtR 0x27 pr d.val a.val 0 (0x20 + n.val)) (.shlS c pr d a n) := by
  refine means_fmtR ?_
  rw [decOp_m_27, dec27]
  repeat rw [if_neg (by simp only; omega)]
  rw [if_pos (by simp only; omega)]
  simp

/-! ### The obligation -/

/-- Settles O36: saturating arithmetic, and the two halves each computed and saturated alone. -/
theorem saturatingArithmetic : Obligations.SaturatingArithmetic := by
  unfold Obligations.SaturatingArithmetic
  refine ⟨
    -- opcode 0x27: saturating q31 arithmetic
    fun c pr d a b => ⟨means_fmtR (by simp [dec27]), computesAs_pureOp fun _ => rfl⟩,
    fun c pr d a b => ⟨means_fmtR (by simp [dec27]), computesAs_pureOp fun _ => rfl⟩,
    fun c pr d a => ⟨means_fmtR (by simp [dec27]), computesAs_pureOp fun _ => rfl⟩,
    fun c pr d a => ⟨means_fmtR (by simp [dec27]), computesAs_pureOp fun _ => rfl⟩,
    fun c pr d a n => ⟨means_shlS c pr d a n, computesAs_pureOp fun _ => rfl⟩,
    sat31_neg_minimum,
    undefined_op27_low,
    undefined_op27_high,
    -- opcode 0x28: the two halves, each saturated
    fun c pr d a b => ⟨means_fmtR (by simp [dec28]), computesAs_pureOp fun _ => rfl⟩,
    fun c pr d a b => ⟨means_fmtR (by simp [dec28]), computesAs_pureOp fun _ => rfl⟩,
    fun c pr d a b => ⟨means_fmtR (by simp [dec28]), computesAs_pureOp fun _ => rfl⟩,
    -- opcode 0x28: max2 and min2, which set no bit of sf
    fun c pr d a b => ⟨means_fmtR (by simp [dec28]), computesAs_pureOp (fun _ => rfl)
      (fun _ => applyAll_d_sf_eq_toD (Prod.ext rfl (halves_snd_eq_zero max_choice _ _)))⟩,
    fun c pr d a b => ⟨means_fmtR (by simp [dec28]), computesAs_pureOp (fun _ => rfl)
      (fun _ => applyAll_d_sf_eq_toD (Prod.ext rfl (halves_snd_eq_zero min_choice _ _)))⟩,
    -- opcode 0x28: absolute values, packing and unpacking
    fun c pr d a => ⟨means_fmtR (by simp [dec28]), computesAs_pureOp fun _ => rfl⟩,
    fun c pr d a b => ⟨means_fmtR (by simp [dec28]), computesAs_pureOp fun _ => rfl⟩,
    fun c pr d a => ⟨means_fmtR (by simp [dec28]), computesAs_pureOp fun _ => rfl⟩,
    fun c pr d a => ⟨means_fmtR (by simp [dec28]), computesAs_pureOp fun _ => rfl⟩,
    undefined_op28⟩

end Sys2Proof.Machine
end

section
/-! PROOFS. Sine and cosine (R262). -/

namespace Sys2Proof.Machine

/-- An integer clamped to a range is the nearest of the range. -/
theorem clampI_eq_max_min {lo hi : Int} (h : lo ≤ hi) (i : Int) : clampI lo hi i = max lo (min hi i) := by
  unfold clampI
  split_ifs <;> omega

/-- A word of a value in range reads as that value. -/
theorem toInt_wordOf {i : Int} (hlo : -2 ^ 31 ≤ i) (hhi : i < 2 ^ 31) : (wordOf i).toInt = i := by
  rw [wordOf, BitVec.toInt_ofInt]
  exact Int.bmod_eq_of_le (by omega) (by omega)

/-- The result is the exact value of the phase, for a cosine a quarter turn ahead, with an error of at most 16 LSB, clipped to
±(2^31 − 1): the free error is one of 33 (R262). -/
theorem trig_within_16 {cos : Bool} {w : Word} {ph : Nat}
    (hph : (if cos then (w.toNat + 2 ^ 30) % 2 ^ 32 else w.toNat) = ph) : ∃ e : Int, e.natAbs ≤ 16 ∧
      (trig cos w).toInt = max (-2147483647) (min 2147483647 (sinExact ph + e)) := by
  have hmod : Config.trigErr cos w % 33 < 33 := Nat.mod_lt _ (by decide)
  refine ⟨((Config.trigErr cos w % 33 : Nat) : Int) - 16, by omega, ?_⟩
  simp only [trig, hph]
  rw [clampI_eq_max_min (by decide), ← Int.add_sub_assoc]
  exact toInt_wordOf (by omega) (by omega)

theorem undefined_op29 : Undefined 0x29 2 0x7F :=
  undefined_of_slotM (by decide) fun c w x hlo _ => by
    rw [decOp_m_29, dec29]
    repeat rw [if_neg (by omega)]

/-- Settles O37: whatever the free error is, the results keep within 16 LSB, clipped, and sf stays. -/
theorem sineAndCosine : Obligations.SineAndCosine := by
  unfold Obligations.SineAndCosine
  refine ⟨fun c pr d a => ⟨means_fmtR (by simp [dec29]), fun s hready => ⟨trig false, fun ph => trig_within_16 (if_neg (by decide)), ?_⟩⟩,
    fun c pr d a => ⟨means_fmtR (by simp [dec29]), fun s hready => ⟨trig true, fun ph => trig_within_16 (if_pos rfl), ?_⟩⟩,
    undefined_op29⟩
  · exact answers_pureOp rfl hready rfl rfl
  · exact answers_pureOp rfl hready rfl rfl

end Sys2Proof.Machine
end

section
/-! PROOFS. Multiplies, multiply-accumulates and the accumulators (R258 to R260). -/

namespace Sys2Proof.Machine

/-! ### Products -/

/-- The low word of a signed product is the product of the words (R258). -/
theorem mul_eq_ofInt_mul (x y : Word) : x * y = BitVec.ofInt 32 (x.toInt * y.toInt) := by
  rw [BitVec.ofInt_mul, BitVec.ofInt_toInt, BitVec.ofInt_toInt]

/-- The high word of a 64-bit product is its quotient by 2^32, rounded down (R258). -/
theorem wordOf_fdiv_eq_extract (i : Int) : wordOf (i.fdiv (2 ^ 32)) = (BitVec.ofInt 64 i).extractLsb' 32 32 := by
  apply BitVec.eq_of_toNat_eq
  rw [wordOf, Int.fdiv_eq_ediv_of_nonneg _ (by decide)]
  simp only [BitVec.toNat_ofInt, BitVec.extractLsb'_toNat, Nat.shiftRight_eq_div_pow]
  omega

/-- The magnitude of a product of two words is at most 2^62. -/
theorem mul_toInt_bounds (x y : Word) : -2 ^ 62 ≤ x.toInt * y.toInt ∧ x.toInt * y.toInt ≤ 2 ^ 62 := by
  have hx : |x.toInt| ≤ 2 ^ 31 := abs_le.mpr ⟨by have := BitVec.le_toInt x; omega, by have := BitVec.toInt_lt (x := x); omega⟩
  have hy : |y.toInt| ≤ 2 ^ 31 := abs_le.mpr ⟨by have := BitVec.le_toInt y; omega, by have := BitVec.toInt_lt (x := y); omega⟩
  have hxy : |x.toInt * y.toInt| ≤ 2 ^ 31 * 2 ^ 31 := by
    rw [abs_mul]
    exact mul_le_mul hx hy (abs_nonneg _) (by decide)
  have := abs_le.mp hxy
  omega

/-- An accumulator takes a value of its range as it is. -/
theorem sat72_of_range {i : Int} (hlo : -2 ^ 71 ≤ i) (hhi : i < 2 ^ 71) : sat72 i = (BitVec.ofInt 72 i, 0) := by
  simp only [sat72]
  rw [if_neg (by omega), if_neg (by omega)]

/-- A product scaled by up to 4 never clips in an accumulator (R259). -/
theorem sat72_scaled_product {k : Int} (hlo : 0 ≤ k) (hhi : k ≤ 4) (x y : Word) :
    sat72 (k * x.toInt * y.toInt) = (BitVec.ofInt 72 (k * x.toInt * y.toInt), 0) := by
  obtain ⟨h1, h2⟩ := mul_toInt_bounds x y
  rw [mul_assoc]
  apply sat72_of_range <;> nlinarith

/-- A result that sets no bit of sf writes its accumulator alone. -/
theorem applyAll_acc_sf_eq_toA {d : Q} {v : BitVec 72 × Nat} {g : Regs → BitVec 72} {r : Regs} (hv : v = (g r, 0)) :
    applyAll [.acc d v.1, .sf v.2] r = toA d g r := by
  rw [hv]
  simp [applyAll, Wr.apply, toA]

/-! ### Words of the accumulator group -/

/-- A read as q31 has its gain in FN [2:0] of the codes 0x10 to 0x17 (R260). -/
theorem means_accRdQ31 (c : Nat) (pr : Pred) (d : D) (a : Q) (n : Fin 8) :
    Means c .m (fmtR 0x26 pr d.val a.val 0 (0x10 + n.val)) (.accRdQ31 c pr d a n) := by
  refine means_fmtR ?_
  rw [decOp_m_26, dec26]
  repeat rw [if_neg (by simp only; omega)]
  rw [if_pos (by simp only; omega)]
  simp

theorem undefined_op24 : Undefined 0x24 4 0x7F :=
  undefined_of_slotM (by decide) fun c w x hlo _ => by
    rw [decOp_m_24, dec24]
    repeat rw [if_neg (by omega)]

theorem undefined_op25 : Undefined 0x25 6 0x7F :=
  undefined_of_slotM (by decide) fun c w x hlo _ => by
    rw [decOp_m_25, dec25]
    repeat rw [if_neg (by omega)]

theorem undefined_op26_low : Undefined 0x26 6 0x0F :=
  undefined_of_slotM (by decide) fun c w x hlo hhi => by
    rw [decOp_m_26, dec26]
    repeat rw [if_neg (by omega)]

theorem undefined_op26_high : Undefined 0x26 0x1A 0x7F :=
  undefined_of_slotM (by decide) fun c w x hlo hhi => by
    rw [decOp_m_26, dec26]
    repeat rw [if_neg (by omega)]

/-! ### The obligation -/

/-- Settles O38: multiplies, multiply-accumulates and the accumulator group. -/
theorem multiplyAndAccumulate : Obligations.MultiplyAndAccumulate := by
  unfold Obligations.MultiplyAndAccumulate
  refine ⟨
    -- opcode 0x24: multiplies
    fun c pr d a b => ⟨means_fmtR (by simp [dec24]), computesAs_pureOp fun _ => rfl⟩,
    fun c pr d a b => ⟨means_fmtR (by simp [dec24]), computesAs_pureOp fun _ => rfl⟩,
    fun c pr d a b => ⟨means_fmtR (by simp [dec24]),
      computesAs_pureOp (fun _ => rfl) (fun _ => applyAll_d_eq_toD (mul_eq_ofInt_mul _ _))⟩,
    fun c pr d a b => ⟨means_fmtR (by simp [dec24]),
      computesAs_pureOp (fun _ => rfl) (fun _ => applyAll_d_eq_toD (wordOf_fdiv_eq_extract _))⟩,
    undefined_op24,
    -- opcode 0x25: multiply-accumulates
    fun c pr d a b => ⟨means_fmtR (by simp [dec25]),
      computesAs_pureOp (fun _ => rfl) (fun _ => applyAll_acc_sf_eq_toA (sat72_scaled_product (by decide) (by decide) _ _))⟩,
    fun c pr d a b => ⟨means_fmtR (by simp [dec25]), computesAs_pureOp fun _ => rfl⟩,
    fun c pr d a b => ⟨means_fmtR (by simp [dec25]), computesAs_pureOp fun _ => rfl⟩,
    fun c pr d a b => ⟨means_fmtR (by simp [dec25]),
      computesAs_pureOp (fun _ => rfl) (fun _ => applyAll_acc_sf_eq_toA (sat72_scaled_product (by decide) (by decide) _ _))⟩,
    fun c pr d a b => ⟨means_fmtR (by simp [dec25]), computesAs_pureOp fun _ => rfl⟩,
    fun c pr d a b => ⟨means_fmtR (by simp [dec25]), computesAs_pureOp fun _ => rfl⟩,
    undefined_op25,
    -- opcode 0x26: accumulators
    fun c pr d => ⟨means_fmtR (by simp [dec26]), computesAs_pureOp fun _ => rfl⟩,
    fun c pr d a => ⟨means_fmtR (by simp [dec26]), computesAs_pureOp fun _ => rfl⟩,
    fun c pr d a b => ⟨means_fmtR (by simp [dec26]), computesAs_pureOp fun _ => rfl⟩,
    fun c pr d a => ⟨means_fmtR (by simp [dec26]), computesAs_pureOp fun _ => rfl⟩,
    fun c pr d a => ⟨means_fmtR (by simp [dec26]), computesAs_pureOp fun _ => rfl⟩,
    fun c pr d n => ⟨means_fmtR (by simp [dec26]), computesAs_pureOp fun _ => rfl⟩,
    -- opcode 0x26: reads to a data register
    fun c pr d a n => ⟨means_accRdQ31 c pr d a n, computesAs_pureOp fun _ => rfl⟩,
    fun c pr d a => ⟨means_fmtR (by simp [dec26]), computesAs_pureOp fun _ => rfl⟩,
    fun c pr d a => ⟨means_fmtR (by simp [dec26]), computesAs_pureOp fun _ => rfl⟩,
    undefined_op26_low,
    undefined_op26_high⟩

end Sys2Proof.Machine
end

section
/-! PROOFS. Frames: what an effect may change, composed operation by operation. -/

namespace Sys2Proof.Machine

/-- From s to t only registers of R, parts of P and bytes of M change. -/
structure Chg (R : Nat → Prop) (P : Part → Prop) (M : Nat → Prop) (s t : State) : Prop where
  variant : t.variant = s.variant
  reg : ∀ a, ¬ R a → t.reg a = s.reg a
  part : ∀ p, ¬ P p → p.Same s t
  byte : ∀ a, ¬ M a → t.byte a = s.byte a

section
variable {R : Nat → Prop} {P : Part → Prop} {M : Nat → Prop} {s t u : State}

theorem Part.Same.refl (p : Part) (s : State) : p.Same s s := by cases p <;> rfl

@[simp] theorem Chg.refl : Chg R P M s s := ⟨rfl, fun _ _ => rfl, fun p _ => Part.Same.refl p s, fun _ _ => rfl⟩

/-- An operation that leaves the registers, the parts and the memories as they are. -/
theorem Chg.of_same (h : Chg R P M s t) (hv : u.variant = t.variant) (hr : ∀ a, ¬ R a → u.reg a = t.reg a)
    (hp : ∀ p, ¬ P p → p.Same s t → p.Same s u) (hm : ∀ a, ¬ M a → u.byte a = t.byte a) : Chg R P M s u :=
  ⟨hv.trans h.variant, fun a ha => (hr a ha).trans (h.reg a ha), fun p hn => hp p hn (h.part p hn),
    fun a ha => (hm a ha).trans (h.byte a ha)⟩

theorem Chg.mono {R' : Nat → Prop} {P' : Part → Prop} {M' : Nat → Prop} (h : Chg R P M s t) (hR : ∀ a, R a → R' a)
    (hP : ∀ p, P p → P' p) (hM : ∀ a, M a → M' a) : Chg R' P' M' s t :=
  ⟨h.variant, fun a ha => h.reg a (mt (hR a) ha), fun p hp => h.part p (mt (hP p) hp), fun a ha => h.byte a (mt (hM a) ha)⟩

theorem Chg.trans (h : Chg R P M s t) (h' : Chg R P M t u) : Chg R P M s u :=
  h.of_same h'.variant h'.reg (fun p hp hs => Part.Same.trans hs (h'.part p hp)) h'.byte

theorem Part.Same.symm {p : Part} (h : p.Same s t) : p.Same t s := by
  cases p
  case clk =>
    simp only [Part.Same] at h ⊢
    rw [← h]
  all_goals exact Eq.symm h

theorem Chg.symm (h : Chg R P M s t) : Chg R P M t s :=
  ⟨h.variant.symm, fun a ha => (h.reg a ha).symm, fun p hp => Part.Same.symm (h.part p hp), fun a ha => (h.byte a ha).symm⟩

/-- What an operation may change does not matter to a frame that lets it change. -/
theorem Chg.iff_of (h : Chg R P M t u) : Chg R P M s u ↔ Chg R P M s t := ⟨fun g => g.trans h.symm, fun g => g.trans h⟩

/-! ### Registers -/

theorem Part.Same.of_regs {p : Part} {l : List (Nat × Word)} (h : p.Same s t) : p.Same s { t with regs := l } := by
  cases p <;> exact h

theorem Chg.putReg (h : Chg R P M s t) (a : Nat) (w : Word) (ha : R a) : Chg R P M s (t.putReg a w) :=
  h.of_same rfl (fun _ hb => State.reg_putReg_ne _ _ (fun e => hb (e ▸ ha))) (fun _ _ => Part.Same.of_regs) fun _ _ => rfl

theorem Chg.wr (h : Chg R P M s t) (a n : Nat) (ha : R a) : Chg R P M s (t.wr a n) := h.putReg a _ ha
theorem Chg.clearReg (h : Chg R P M s t) (a : Nat) (ha : R a) : Chg R P M s (t.clearReg a) := h.putReg a _ ha
theorem Chg.set (h : Chg R P M s t) (f : Fld) (v : Nat) (ha : R f.adr) : Chg R P M s (t.set f v) := h.wr f.adr _ ha
theorem Chg.setB (h : Chg R P M s t) (f : Fld) (b : Bool) (ha : R f.adr) : Chg R P M s (t.setB f b) := h.set f _ ha
theorem Chg.event (h : Chg R P M s t) (f : Fld) (ha : R f.adr) : Chg R P M s (t.event f) := h.set f _ ha

theorem Chg.setBit (h : Chg R P M s t) (f : Fld) (k : Nat) (b : Bool) (ha : R f.adr) : Chg R P M s (t.setBit f k b) := by
  unfold State.setBit
  dsimp only
  split
  · exact h
  · exact h.set f _ ha

theorem Chg.eventBit (h : Chg R P M s t) (f : Fld) (k : Nat) (ha : R f.adr) : Chg R P M s (t.eventBit f k) :=
  h.setBit f k true ha

theorem Chg.keep (h : Chg R P M s t) (f : Fld) (v : Nat) (ha : R f.adr) : Chg R P M s (t.keep f v) := by
  unfold State.keep
  split
  · exact h
  · exact h.set f v ha

theorem Chg.keepWord (h : Chg R P M s t) (a v : Nat) (ha : R a) : Chg R P M s (t.keepWord a v) := by
  unfold State.keepWord
  split
  · exact h
  · exact h.wr a v ha

theorem Chg.bump (h : Chg R P M s t) (a n : Nat) (ha : R a) (hs : R (satOf a).adr) (he : ∀ f ∈ (satOf a).event, R f.adr) :
    Chg R P M s (t.bump a n) := by
  unfold State.bump
  dsimp only
  split
  · exact h.wr a _ ha
  · split
    · exact h
    · split
      · exact (h.wr a _ ha).putReg _ _ hs
      · rename_i f hf
        exact ((h.wr a _ ha).putReg _ _ hs).event f (he f (by simp [hf]))

theorem Chg.inc (h : Chg R P M s t) (a : Nat) (ha : R a) (hs : R (satOf a).adr) (he : ∀ f ∈ (satOf a).event, R f.adr) :
    Chg R P M s (t.inc a) := h.bump a 1 ha hs he

/-! ### Parts -/

/-- One part of the state replaced: every other part reads as before. -/
theorem Chg.of_part (h : Chg R P M s t) (q : Part) (hq : P q) (hv : u.variant = t.variant) (hr : u.regs = t.regs) (hm : u.mem = t.mem)
    (hp : ∀ p, p ≠ q → p.Same s t → p.Same s u) : Chg R P M s u :=
  h.of_same hv (fun a _ => State.reg_congr hv hr a) (fun p hn => hp p (fun e => hn (e ▸ hq))) fun a _ => by unfold State.byte; rw [hm]

theorem Chg.mgmt (h : Chg R P M s t) (x : Mgmt) (hp : P .mgmt) : Chg R P M s { t with mgmt := x } :=
  h.of_part .mgmt hp rfl rfl rfl fun p hn hs => by cases p <;> first | exact hs | exact absurd rfl hn
theorem Chg.hmq (h : Chg R P M s t) (x : List Hmq) (hp : P .hmq) : Chg R P M s { t with hmq := x } :=
  h.of_part .hmq hp rfl rfl rfl fun p hn hs => by cases p <;> first | exact hs | exact absurd rfl hn
theorem Chg.pwr (h : Chg R P M s t) (x : Pwr) (hp : P .pwr) : Chg R P M s { t with pwr := x } :=
  h.of_part .pwr hp rfl rfl rfl fun p hn hs => by cases p <;> first | exact hs | exact absurd rfl hn
theorem Chg.ring (h : Chg R P M s t) (x : Ring) (hp : P .ring) : Chg R P M s { t with ring := x } :=
  h.of_part .ring hp rfl rfl rfl fun p hn hs => by cases p <;> first | exact hs | exact absurd rfl hn
theorem Chg.time (h : Chg R P M s t) (x : TimeS) (hp : P .time) : Chg R P M s { t with time := x } :=
  h.of_part .time hp rfl rfl rfl fun p hn hs => by cases p <;> first | exact hs | exact absurd rfl hn
theorem Chg.clk (h : Chg R P M s t) (x : ClkS) (hp : P .clk) : Chg R P M s { t with clk := x } :=
  h.of_part .clk hp rfl rfl rfl fun p hn hs => by cases p <;> first | exact hs | exact absurd rfl hn
theorem Chg.strm (h : Chg R P M s t) (x : StrmS) (hp : P .strm) : Chg R P M s { t with strm := x } :=
  h.of_part .strm hp rfl rfl rfl fun p hn hs => by cases p <;> first | exact hs | exact absurd rfl hn
theorem Chg.play (h : Chg R P M s t) (x : PlayS) (hp : P .play) : Chg R P M s { t with play := x } :=
  h.of_part .play hp rfl rfl rfl fun p hn hs => by cases p <;> first | exact hs | exact absurd rfl hn
theorem Chg.eng (h : Chg R P M s t) (x : EngS) (hp : P .eng) : Chg R P M s { t with eng := x } :=
  h.of_part .eng hp rfl rfl rfl fun p hn hs => by cases p <;> first | exact hs | exact absurd rfl hn
theorem Chg.xpt (h : Chg R P M s t) (x : XptS) (hp : P .xpt) : Chg R P M s { t with xpt := x } :=
  h.of_part .xpt hp rfl rfl rfl fun p hn hs => by cases p <;> first | exact hs | exact absurd rfl hn
theorem Chg.tdm (h : Chg R P M s t) (x : List TdmPort) (hp : P .tdm) : Chg R P M s { t with tdm := x } :=
  h.of_part .tdm hp rfl rfl rfl fun p hn hs => by cases p <;> first | exact hs | exact absurd rfl hn
theorem Chg.proof (h : Chg R P M s t) (x : ProofS) (hp : P .proof) : Chg R P M s { t with proof := x } :=
  h.of_part .proof hp rfl rfl rfl fun p hn hs => by cases p <;> first | exact hs | exact absurd rfl hn
theorem Chg.splice (h : Chg R P M s t) (x : SpliceS) (hp : P .splice) : Chg R P M s { t with splice := x } :=
  h.of_part .splice hp rfl rfl rfl fun p hn hs => by cases p <;> first | exact hs | exact absurd rfl hn
theorem Chg.test (h : Chg R P M s t) (x : TestS) (hp : P .test) : Chg R P M s { t with test := x } :=
  h.of_part .test hp rfl rfl rfl fun p hn hs => by cases p <;> first | exact hs | exact absurd rfl hn
theorem Chg.scp (h : Chg R P M s t) (x : ScpS) (hp : P .scp) : Chg R P M s { t with scp := x } :=
  h.of_part .scp hp rfl rfl rfl fun p hn hs => by cases p <;> first | exact hs | exact absurd rfl hn
theorem Chg.bus (h : Chg R P M s t) (x : BusS) (hp : P .bus) : Chg R P M s { t with bus := x } :=
  h.of_part .bus hp rfl rfl rfl fun p hn hs => by cases p <;> first | exact hs | exact absurd rfl hn
theorem Chg.resp (h : Chg R P M s t) (x : List Word) (hp : P .resp) : Chg R P M s { t with resp := x } :=
  h.of_part .resp hp rfl rfl rfl fun p hn hs => by cases p <;> first | exact hs | exact absurd rfl hn
theorem Chg.freeCtr (h : Chg R P M s t) (x : Nat) (hp : P .free) : Chg R P M s { t with freeCtr := x } :=
  h.of_part .free hp rfl rfl rfl fun p hn hs => by cases p <;> first | exact hs | exact absurd rfl hn
theorem Chg.out (h : Chg R P M s t) (x : List Out) : Chg R P M s { t with out := x } :=
  h.of_same rfl (fun _ _ => rfl) (fun p _ hs => by cases p <;> exact hs) fun _ _ => rfl
theorem Chg.msix (h : Chg R P M s t) (x : List MsixFn) : Chg R P M s { t with msix := x } :=
  h.of_same rfl (fun _ _ => rfl) (fun p _ hs => by cases p <;> exact hs) fun _ _ => rfl

theorem Chg.fresh (h : Chg R P M s t) : Chg R P M s t.fresh := h.out []
theorem Chg.updPwr (h : Chg R P M s t) (f : Pwr → Pwr) (hp : P .pwr) : Chg R P M s (t.updPwr f) := h.pwr _ hp
theorem Chg.updTest (h : Chg R P M s t) (f : TestS → TestS) (hp : P .test) : Chg R P M s (t.updTest f) := h.test _ hp
theorem Chg.updMgmt (h : Chg R P M s t) (f : Mgmt → Mgmt) (hp : P .mgmt) : Chg R P M s (t.updMgmt f) := h.mgmt _ hp
theorem Chg.updClk (h : Chg R P M s t) (f : ClkS → ClkS) (hp : P .clk) : Chg R P M s (t.updClk f) := h.clk _ hp
theorem Chg.updTime (h : Chg R P M s t) (f : TimeS → TimeS) (hp : P .time) : Chg R P M s (t.updTime f) := h.time _ hp
theorem Chg.updRing (h : Chg R P M s t) (f : Ring → Ring) (hp : P .ring) : Chg R P M s (t.updRing f) := h.ring _ hp
theorem Chg.free (h : Chg R P M s t) (w : Nat) (hp : P .free) : Chg R P M s (t.free w).2 := h.freeCtr _ hp

/-! ### The log and the lifetime counters -/

theorem Chg.life (h : Chg R P M s t) (k n : Nat) (hr : R A.MGMT_EVT) (hp : P .mgmt) : Chg R P M s (t.life k n) := by
  simp only [State.life]
  split
  · exact h.mgmt _ hp
  · exact (h.mgmt _ hp).event _ hr

theorem Chg.logBy (h : Chg R P M s t) (r c v m l : Nat) (p : List Nat) (hr : R A.MGMT_EVT) (hp : P .mgmt) :
    Chg R P M s (t.logBy r c v m l p) := by
  simp only [State.logBy]
  split
  · exact h.mgmt _ hp
  · exact (h.mgmt _ hp).event _ hr

theorem Chg.log (h : Chg R P M s t) (r c v : Nat) (p : List Nat) (hr : R A.MGMT_EVT) (hp : P .mgmt) :
    Chg R P M s (t.log r c v p) := h.logBy r c v 0xF 0 p hr hp

/-! ### Control -/

theorem Chg.ite {c : Prop} [Decidable c] (ht : c → Chg R P M s t) (hu : ¬ c → Chg R P M s u) : Chg R P M s (if c then t else u) := by
  split
  · exact ht ‹_›
  · exact hu ‹_›

theorem Chg.when (h : Chg R P M s t) (b : Bool) (f : State → State) (hf : b = true → Chg R P M s (f t)) :
    Chg R P M s (t.when b f) := by
  unfold State.when
  split
  · exact hf ‹_›
  · exact h

theorem Chg.forL {α : Type} (l : List α) (f : α → State → State) (hf : ∀ a ∈ l, ∀ t, Chg R P M s t → Chg R P M s (f a t))
    (h : Chg R P M s t) : Chg R P M s (Machine.forL l f t) := by
  unfold Machine.forL
  induction l generalizing t with
  | nil => exact h
  | cons a l ih => exact ih (fun b hb => hf b (List.mem_cons_of_mem _ hb)) (hf a List.mem_cons_self t h)

theorem Chg.forN (n : Nat) (f : Nat → State → State) (hf : ∀ i < n, ∀ t, Chg R P M s t → Chg R P M s (f i t))
    (h : Chg R P M s t) : Chg R P M s (Machine.forN n f t) :=
  Chg.forL (List.range n) f (fun i hi => hf i (List.mem_range.mp hi)) h

/-! ### Elapsed time -/

/-- Elapsed time changes its own registers and the parts of time, clock and management (R72, R148). -/
theorem Chg.advance (h : Chg R P M s t) (dt : Nat) (hr : ∀ a ∈ timeRegs, R a) (ht : P .time) (hc : P .clk) (hm : P .mgmt) :
    Chg R P M s (t.advance dt) := by
  refine h.of_same (by simp) (fun a ha => State.reg_advance _ _ (mt (hr a) ha)) (fun p hn hs => ?_) fun a _ => ?_
  · cases p
    case mgmt => exact absurd hm hn
    case time => exact absurd ht hn
    case clk => exact absurd hc hn
    all_goals simpa [Part.Same] using hs
  · unfold State.byte
    rw [State.advance_mem]

/-! ### The operations as rewriting rules -/

@[simp] theorem chg_putReg (a : Nat) (w : Word) (ha : R a) :
    Chg R P M s (t.putReg a w) ↔ Chg R P M s t := Chg.iff_of (Chg.refl.putReg a w ha)
@[simp] theorem chg_wr (a n : Nat) (ha : R a) :
    Chg R P M s (t.wr a n) ↔ Chg R P M s t := Chg.iff_of (Chg.refl.wr a n ha)
@[simp] theorem chg_clearReg (a : Nat) (ha : R a) :
    Chg R P M s (t.clearReg a) ↔ Chg R P M s t := Chg.iff_of (Chg.refl.clearReg a ha)
@[simp] theorem chg_set (f : Fld) (v : Nat) (ha : R f.adr) :
    Chg R P M s (t.set f v) ↔ Chg R P M s t := Chg.iff_of (Chg.refl.set f v ha)
@[simp] theorem chg_setB (f : Fld) (b : Bool) (ha : R f.adr) :
    Chg R P M s (t.setB f b) ↔ Chg R P M s t := Chg.iff_of (Chg.refl.setB f b ha)
@[simp] theorem chg_event (f : Fld) (ha : R f.adr) :
    Chg R P M s (t.event f) ↔ Chg R P M s t := Chg.iff_of (Chg.refl.event f ha)
@[simp] theorem chg_setBit (f : Fld) (k : Nat) (b : Bool) (ha : R f.adr) :
    Chg R P M s (t.setBit f k b) ↔ Chg R P M s t := Chg.iff_of (Chg.refl.setBit f k b ha)
@[simp] theorem chg_eventBit (f : Fld) (k : Nat) (ha : R f.adr) :
    Chg R P M s (t.eventBit f k) ↔ Chg R P M s t := Chg.iff_of (Chg.refl.eventBit f k ha)
@[simp] theorem chg_keep (f : Fld) (v : Nat) (ha : R f.adr) :
    Chg R P M s (t.keep f v) ↔ Chg R P M s t := Chg.iff_of (Chg.refl.keep f v ha)
@[simp] theorem chg_keepWord (a v : Nat) (ha : R a) :
    Chg R P M s (t.keepWord a v) ↔ Chg R P M s t := Chg.iff_of (Chg.refl.keepWord a v ha)
@[simp] theorem chg_bump (a n : Nat) (ha : R a) (hs : R (satOf a).adr) (he : ∀ f ∈ (satOf a).event, R f.adr) :
    Chg R P M s (t.bump a n) ↔ Chg R P M s t := Chg.iff_of (Chg.refl.bump a n ha hs he)
@[simp] theorem chg_inc (a : Nat) (ha : R a) (hs : R (satOf a).adr) (he : ∀ f ∈ (satOf a).event, R f.adr) :
    Chg R P M s (t.inc a) ↔ Chg R P M s t := Chg.iff_of (Chg.refl.inc a ha hs he)
@[simp] theorem chg_mgmt (x : Mgmt) (hp : P .mgmt) :
    Chg R P M s ({ t with mgmt := x }) ↔ Chg R P M s t := Chg.iff_of (Chg.refl.mgmt x hp)
@[simp] theorem chg_hmq (x : List Hmq) (hp : P .hmq) :
    Chg R P M s ({ t with hmq := x }) ↔ Chg R P M s t := Chg.iff_of (Chg.refl.hmq x hp)
@[simp] theorem chg_pwr (x : Pwr) (hp : P .pwr) :
    Chg R P M s ({ t with pwr := x }) ↔ Chg R P M s t := Chg.iff_of (Chg.refl.pwr x hp)
@[simp] theorem chg_ring (x : Ring) (hp : P .ring) :
    Chg R P M s ({ t with ring := x }) ↔ Chg R P M s t := Chg.iff_of (Chg.refl.ring x hp)
@[simp] theorem chg_time (x : TimeS) (hp : P .time) :
    Chg R P M s ({ t with time := x }) ↔ Chg R P M s t := Chg.iff_of (Chg.refl.time x hp)
@[simp] theorem chg_clk (x : ClkS) (hp : P .clk) :
    Chg R P M s ({ t with clk := x }) ↔ Chg R P M s t := Chg.iff_of (Chg.refl.clk x hp)
@[simp] theorem chg_strm (x : StrmS) (hp : P .strm) :
    Chg R P M s ({ t with strm := x }) ↔ Chg R P M s t := Chg.iff_of (Chg.refl.strm x hp)
@[simp] theorem chg_play (x : PlayS) (hp : P .play) :
    Chg R P M s ({ t with play := x }) ↔ Chg R P M s t := Chg.iff_of (Chg.refl.play x hp)
@[simp] theorem chg_eng (x : EngS) (hp : P .eng) :
    Chg R P M s ({ t with eng := x }) ↔ Chg R P M s t := Chg.iff_of (Chg.refl.eng x hp)
@[simp] theorem chg_xpt (x : XptS) (hp : P .xpt) :
    Chg R P M s ({ t with xpt := x }) ↔ Chg R P M s t := Chg.iff_of (Chg.refl.xpt x hp)
@[simp] theorem chg_tdm (x : List TdmPort) (hp : P .tdm) :
    Chg R P M s ({ t with tdm := x }) ↔ Chg R P M s t := Chg.iff_of (Chg.refl.tdm x hp)
@[simp] theorem chg_proof (x : ProofS) (hp : P .proof) :
    Chg R P M s ({ t with proof := x }) ↔ Chg R P M s t := Chg.iff_of (Chg.refl.proof x hp)
@[simp] theorem chg_splice (x : SpliceS) (hp : P .splice) :
    Chg R P M s ({ t with splice := x }) ↔ Chg R P M s t := Chg.iff_of (Chg.refl.splice x hp)
@[simp] theorem chg_test (x : TestS) (hp : P .test) :
    Chg R P M s ({ t with test := x }) ↔ Chg R P M s t := Chg.iff_of (Chg.refl.test x hp)
@[simp] theorem chg_scp (x : ScpS) (hp : P .scp) :
    Chg R P M s ({ t with scp := x }) ↔ Chg R P M s t := Chg.iff_of (Chg.refl.scp x hp)
@[simp] theorem chg_bus (x : BusS) (hp : P .bus) :
    Chg R P M s ({ t with bus := x }) ↔ Chg R P M s t := Chg.iff_of (Chg.refl.bus x hp)
@[simp] theorem chg_resp (x : List Word) (hp : P .resp) :
    Chg R P M s ({ t with resp := x }) ↔ Chg R P M s t := Chg.iff_of (Chg.refl.resp x hp)
@[simp] theorem chg_freeCtr (x : Nat) (hp : P .free) :
    Chg R P M s ({ t with freeCtr := x }) ↔ Chg R P M s t := Chg.iff_of (Chg.refl.freeCtr x hp)
@[simp] theorem chg_out (x : List Out) :
    Chg R P M s ({ t with out := x }) ↔ Chg R P M s t := Chg.iff_of (Chg.refl.out x)
@[simp] theorem chg_msix (x : List MsixFn) :
    Chg R P M s ({ t with msix := x }) ↔ Chg R P M s t := Chg.iff_of (Chg.refl.msix x)
@[simp] theorem chg_fresh  :
    Chg R P M s (t.fresh) ↔ Chg R P M s t := Chg.iff_of (Chg.refl.fresh)
@[simp] theorem chg_updPwr (f : Pwr → Pwr) (hp : P .pwr) :
    Chg R P M s (t.updPwr f) ↔ Chg R P M s t := Chg.iff_of (Chg.refl.updPwr f hp)
@[simp] theorem chg_updTest (f : TestS → TestS) (hp : P .test) :
    Chg R P M s (t.updTest f) ↔ Chg R P M s t := Chg.iff_of (Chg.refl.updTest f hp)
@[simp] theorem chg_updMgmt (f : Mgmt → Mgmt) (hp : P .mgmt) :
    Chg R P M s (t.updMgmt f) ↔ Chg R P M s t := Chg.iff_of (Chg.refl.updMgmt f hp)
@[simp] theorem chg_updClk (f : ClkS → ClkS) (hp : P .clk) :
    Chg R P M s (t.updClk f) ↔ Chg R P M s t := Chg.iff_of (Chg.refl.updClk f hp)
@[simp] theorem chg_updTime (f : TimeS → TimeS) (hp : P .time) :
    Chg R P M s (t.updTime f) ↔ Chg R P M s t := Chg.iff_of (Chg.refl.updTime f hp)
@[simp] theorem chg_updRing (f : Ring → Ring) (hp : P .ring) :
    Chg R P M s (t.updRing f) ↔ Chg R P M s t := Chg.iff_of (Chg.refl.updRing f hp)
@[simp] theorem chg_free (w : Nat) (hp : P .free) :
    Chg R P M s ((t.free w).2) ↔ Chg R P M s t := Chg.iff_of (Chg.refl.free w hp)
@[simp] theorem chg_life (k n : Nat) (hr : R A.MGMT_EVT) (hp : P .mgmt) :
    Chg R P M s (t.life k n) ↔ Chg R P M s t := Chg.iff_of (Chg.refl.life k n hr hp)
@[simp] theorem chg_logBy (r c v m l : Nat) (p : List Nat) (hr : R A.MGMT_EVT) (hp : P .mgmt) :
    Chg R P M s (t.logBy r c v m l p) ↔ Chg R P M s t := Chg.iff_of (Chg.refl.logBy r c v m l p hr hp)
@[simp] theorem chg_log (r c v : Nat) (p : List Nat) (hr : R A.MGMT_EVT) (hp : P .mgmt) :
    Chg R P M s (t.log r c v p) ↔ Chg R P M s t := Chg.iff_of (Chg.refl.log r c v p hr hp)
@[simp] theorem chg_advance (dt : Nat) (hr : ∀ a ∈ timeRegs, R a) (ht : P .time) (hc : P .clk) (hm : P .mgmt) :
    Chg R P M s (t.advance dt) ↔ Chg R P M s t := Chg.iff_of (Chg.refl.advance dt hr ht hc hm)

end

/-! ### From an effect to a command's answer -/

/-- The registers that a frame lets change: those it lists, and the summaries. -/
def Listed (l : List Nat) (a : Nat) : Prop := a ∈ l ∨ a ∈ summaries

/-- The parts that a frame lets change. -/
def Parts (l : List Part) (p : Part) : Prop := p ∈ l

/-- No byte of the memories changes. -/
def NoMem (_ : Nat) : Prop := False

@[simp] theorem listed_iff (l : List Nat) (a : Nat) : Listed l a ↔ a ∈ l ∨ a ∈ summaries := Iff.rfl
@[simp] theorem parts_iff (l : List Part) (p : Part) : Parts l p ↔ p ∈ l := Iff.rfl

@[simp] theorem pwrStatus_mem_summaries : A.PWR_STATUS ∈ summaries := by decide
@[simp] theorem testFault_mem_summaries : A.TEST_FAULT ∈ summaries := by decide
@[simp] theorem testEvt_mem_summaries : A.TEST_EVT ∈ summaries := by decide

/-- An effect's frame is its command's. -/
theorem Chg.framed {l : List Nat} {ps : List Part} {s u : State} (h : Chg (Listed l) (Parts ps) NoMem s u) :
    Framed l ps s (s.seal u) :=
  frame_seal l ps s u h.variant (fun a h1 h2 => h.reg a (not_or.mpr ⟨h1, h2⟩)) (fun a => h.byte a id) h.part

theorem Chg.memKept {R : Nat → Prop} {P : Part → Prop} {s u : State} (h : Chg R P NoMem s u) : MemKept s (s.seal u) :=
  fun a => (State.byte_seal s u a).trans (h.byte a id)

end Sys2Proof.Machine
end

section
/-! PROOFS. The machine: a step runs the front command (log 5), what `settle` establishes, and that no run stops. -/

namespace Sys2Proof.Machine

/-! ### Words from bits -/

theorem ofBits_lt (l : List Bool) : ofBits l < 2 ^ l.length := by
  induction l with
  | nil => exact Nat.one_pos
  | cons b t ih =>
    simp only [ofBits, List.length_cons, Nat.pow_succ]
    split <;> omega

theorem State.satSum_lt (s : State) : s.satSum < 2 ^ 32 := Nat.lt_of_lt_of_le (ofBits_lt _) (by simp)

theorem State.irqStatus_lt (s : State) : s.irqStatus < 2 ^ 32 :=
  Nat.lt_of_lt_of_le (ofBits_lt _) (by simp)

theorem State.faultWord_lt (s : State) : ofBits s.faultBits < 2 ^ 32 :=
  Nat.lt_of_lt_of_le (ofBits_lt _) (by simp [State.faultBits])

/-! ### What the sums read -/

/-- The causes of a fault read alike in two states that agree on the fields and parts they stand in. -/
theorem State.pwrFault_congr {s t : State} (hr : ∀ g : Fld, g.adr = A.PWR_STATUS → Fld.free F.PWR_STATUS_FAULT g = true → t.fld g = s.fld g)
    (hu : t.reg A.PWR_UNIT_STATUS = s.reg A.PWR_UNIT_STATUS) : t.pwrFault = s.pwrFault := by
  have hf : t.fld F.PWR_UNIT_STATUS_FAILED = s.fld F.PWR_UNIT_STATUS_FAILED := State.fld_eq_of_reg hu
  unfold State.pwrFault State.on
  rw [hr F.PWR_STATUS_LOW_BUDGET rfl (by decide), hr F.PWR_STATUS_AUX_FAULT rfl (by decide),
    hr F.PWR_STATUS_STAGE_FAIL rfl (by decide), hr F.PWR_STATUS_THERM_CRIT rfl (by decide), hf]

/-- The fault word reads registers outside the summaries, the fields of PWR.STATUS beside FAULT, and three parts. -/
theorem State.faultBits_congr {s t : State} (hr : ∀ a, a ∉ summaries → t.reg a = s.reg a)
    (hp : ∀ g : Fld, g.adr = A.PWR_STATUS → Fld.free F.PWR_STATUS_FAULT g = true → t.fld g = s.fld g)
    (hv : t.variant = s.variant) (ht : t.test = s.test) (hw : t.pwr = s.pwr) : t.faultBits = s.faultBits := by
  have hf : ∀ g : Fld, g.adr ∉ summaries → t.fld g = s.fld g := fun g h => State.fld_eq_of_reg (hr _ h)
  have hc : anyN s.cores (fun n => t.coreState n == 6) = anyN s.cores (fun n => s.coreState n == 6) := by
    have hn : s.cores ≤ 16 := by unfold State.cores; cases s.variant <;> decide
    unfold anyN
    rw [Bool.eq_iff_iff, List.any_eq_true, List.any_eq_true]
    refine exists_congr fun n => and_congr_right fun h => ?_
    have : n < 16 := by rw [List.mem_range] at h; omega
    have e : t.coreState n = s.coreState n := hf _ (by interval_cases n <;> decide)
    rw [e]
  unfold State.faultBits State.on State.modState State.cores
  rw [State.pwrFault_congr hp (hr _ (by decide)), hf F.PROOF_STATUS_FAULT (by decide), hf F.TEST_RETIRED_MASK (by decide),
    hf F.SYS_STATUS_KEY_FAIL (by decide), hf F.MGMT_CFG_STATUS_LAST (by decide), hf F.SYS_STATUS_ROLLED_BACK (by decide),
    hf F.SPLICE_STATUS_MEMBER_FAULT (by decide), hf F.TEST_FAULT_CFG_MEMBERS (by decide), hf F.SYS_MOD_STATE_STATE (by decide),
    hf F.TEST_FAULT_CFG_FORCE (by decide), hv, ht, hw]
  unfold State.cores at hc
  rw [hc]

theorem State.satSum_congr {s t : State} (hr : ∀ a, a ∉ summaries → t.reg a = s.reg a) : t.satSum = s.satSum := by
  have h : ∀ a, a ∉ summaries → t.rd a = s.rd a := fun a ha => State.rd_eq_of_reg (hr a ha)
  unfold State.satSum
  rw [h (A.MSTAT_SAT 0) (by decide), h (A.MSTAT_SAT 1) (by decide), h (A.MSTAT_SAT 2) (by decide), h A.MSTAT_SAT_REC (by decide)]

/-- The registers that a branch reads are none of the words written after it. -/
theorem branchRegs_apart : ∀ n < 20, n ≠ 3 → ∀ a ∈ [(getAt branchRegs n (0, 0)).1, (getAt branchRegs n (0, 0)).2],
    a ≠ A.MSTAT_SAT_SUM ∧ a ≠ A.SYS_IRQ_STATUS := by decide

/-- SYS.IRQ_STATUS reads neither itself nor SAT_SUM. -/
theorem State.irqStatus_congr {s t : State} (hr : ∀ a, a ≠ A.MSTAT_SAT_SUM → a ≠ A.SYS_IRQ_STATUS → t.reg a = s.reg a) :
    t.irqStatus = s.irqStatus := by
  have hs : t.satSum = s.satSum := by
    have h : ∀ a, a ≠ A.MSTAT_SAT_SUM → a ≠ A.SYS_IRQ_STATUS → t.rd a = s.rd a := fun a h1 h2 => State.rd_eq_of_reg (hr a h1 h2)
    unfold State.satSum
    rw [h (A.MSTAT_SAT 0) (by decide) (by decide), h (A.MSTAT_SAT 1) (by decide) (by decide),
      h (A.MSTAT_SAT 2) (by decide) (by decide), h A.MSTAT_SAT_REC (by decide) (by decide)]
  unfold State.irqStatus
  congr 1
  apply List.map_congr_left
  intro n hn
  unfold State.branch
  by_cases h3 : n = 3
  · rw [if_pos h3, if_pos h3, hs]
  · have hb := branchRegs_apart n (List.mem_range.mp hn) h3
    rw [if_neg h3, if_neg h3]
    have e1 : t.rd (getAt branchRegs n (0, 0)).1 = s.rd (getAt branchRegs n (0, 0)).1 :=
      State.rd_eq_of_reg (hr _ (hb _ (by simp)).1 (hb _ (by simp)).2)
    have e2 : t.rd (getAt branchRegs n (0, 0)).2 = s.rd (getAt branchRegs n (0, 0)).2 :=
      State.rd_eq_of_reg (hr _ (hb _ (by simp)).1 (hb _ (by simp)).2)
    simp only [e1, e2]

/-! ### What `settle` establishes -/

theorem State.rd_settleFault (u : State) : u.settleFault.rd A.TEST_FAULT = ofBits u.faultBits := by
  simp only [State.settleFault]
  rw [State.rd_eq_of_reg (State.reg_when _ _ _ _ (State.reg_event_ne _ _ (by decide))),
    State.rd_keepWord_same _ _ u.faultWord_lt]

theorem State.fault_settleFault (u : State) : u.settleFault.on F.PWR_STATUS_FAULT = u.pwrFault := by
  unfold State.on
  simp only [State.settleFault]
  rw [State.fld_eq_of_reg (State.reg_when _ _ _ _ (State.reg_event_ne _ _ (by decide))),
    State.fld_eq_of_reg (State.reg_keepWord_ne _ _ (by decide)), State.fld_keep_same _ (by decide) (by split <;> decide)]
  cases u.pwrFault <;> rfl

/-- The module before its interrupt tree follows. -/
def State.preIrq (u : State) : State :=
  (u.settleFault.settleAlm).keepWord A.MSTAT_SAT_SUM u.settleFault.settleAlm.satSum

theorem State.settle_eq (u : State) :
    u.settle = ((u.preIrq.keepWord A.SYS_IRQ_STATUS u.preIrq.irqStatus).settleMsix 0).settleMsix 1 := rfl

theorem State.reg_settle_preIrq (u : State) {a : Nat} (h : a ≠ A.SYS_IRQ_STATUS) : u.settle.reg a = u.preIrq.reg a := by
  rw [State.settle_eq, State.reg_settleMsix, State.reg_settleMsix, State.reg_keepWord_ne _ _ h]

/-- After `settle` the summaries agree with what they sum up, whatever the state before. -/
theorem summed_settle (u : State) : Summed u.settle := by
  have hb : u.settle.faultBits = u.faultBits :=
    State.faultBits_congr (fun a h => u.reg_settle h) (fun g ha hg => u.fld_settle_pwr ha hg) (by simp) (by simp) (by simp)
  have hp : u.settle.pwrFault = u.pwrFault :=
    State.pwrFault_congr (fun g ha hg => u.fld_settle_pwr ha hg) (u.reg_settle (by decide))
  have hreg : ∀ a, a ≠ A.SYS_IRQ_STATUS → a ≠ A.MSTAT_SAT_SUM → u.settle.reg a = u.settleFault.reg a := fun a h1 h2 => by
    rw [State.reg_settle_preIrq u h1, State.preIrq, State.reg_keepWord_ne _ _ h2, State.reg_settleAlm]
  refine ⟨?_, ?_, ?_, ?_⟩
  · rw [hb, State.rd_eq_of_reg (hreg _ (by decide) (by decide)), State.rd_settleFault]
  · rw [hp, State.on_eq_of_reg (hreg _ (by decide) (by decide)), State.fault_settleFault]
  · rw [State.satSum_congr (fun a h => u.reg_settle h), State.rd_eq_of_reg (u.reg_settle_preIrq (by decide)), State.preIrq,
      State.rd_keepWord_same _ _ (State.satSum_lt _)]
    exact State.satSum_congr fun a h => by
      rw [State.reg_settleAlm]
      simp only [summaries, List.mem_cons, List.not_mem_nil, or_false, not_or] at h
      exact State.reg_settleFault_ne _ h.1 h.2.1 h.2.2.1
  · have hi : u.settle.irqStatus = u.preIrq.irqStatus := State.irqStatus_congr fun a _ h => u.reg_settle_preIrq h
    rw [hi, State.settle_eq, State.rd_eq_of_reg (State.reg_settleMsix _ 1 _), State.rd_eq_of_reg (State.reg_settleMsix _ 0 _),
      State.rd_keepWord_same _ _ (State.irqStatus_lt _)]

/-- The summaries do not read the queue of commands. -/
theorem summed_pending {u : State} (q : List Instr) (h : Summed u) : Summed { u with pending := q } := h

theorem summed_done (s : State) (f : State → State) : Summed (s.done f) := summed_pending _ (summed_settle _)

/-! ### MSI-X (R438) -/

/-- A function's vectors are served: none is armed and unmasked while its condition or its pending bit is set. -/
def VecsServed (cond : Nat) (m : MsixFn) : Prop :=
  m.fnMask = false → ∀ v < 16, m.armed.testBit v = true → m.vecMask.testBit v = false → (cond ||| m.pba).testBit v = false

theorem State.msixCond_settleMsix (s : State) (n fn : Nat) : (s.settleMsix n).msixCond fn = s.msixCond fn := by
  have h : ∀ a, (s.settleMsix n).rd a = s.rd a := fun a => State.rd_eq_of_reg (s.reg_settleMsix n a)
  unfold State.msixCond State.msixRoute
  simp only [h]

theorem State.on_settleMsix (s : State) (n : Nat) (f : Fld) : (s.settleMsix n).on f = s.on f :=
  State.on_eq_of_reg (s.reg_settleMsix n _)

theorem State.msix_settleMsix_ne (s : State) {n fn : Nat} (h : n ≠ fn) : (s.settleMsix n).msix[fn]? = s.msix[fn]? := by
  simp only [State.settleMsix]
  split
  · rfl
  · simp only [setAt, List.getElem?_set_ne h]

/-- With the link up the function that is settled is served. -/
theorem vecsServed_settleMsix (s : State) (n : Nat) (hl : s.on F.SYS_PCIE_STATUS_LINK_UP = true) {m : MsixFn}
    (hm : (s.settleMsix n).msix[n]? = some m) : VecsServed (s.msixCond n) m := by
  intro hf v _ ha hv
  simp only [State.settleMsix, hl, Bool.not_true, Bool.false_eq_true, or_false] at hm
  split at hm
  · rename_i hw
    have e : getAt s.msix n ⟨0, false, 0, 0, [], []⟩ = m := by simp [getAt, List.getD_eq_getElem?_getD, hm]
    rw [e] at hw
    have := congrArg (fun x => Nat.testBit x v) hw
    simpa [Nat.testBit_and, ha] using this
  · simp only [setAt, List.getElem?_set, if_true] at hm
    split at hm
    · rename_i hw hlt
      obtain rfl := Option.some.inj hm
      simp only at hf ha hv
      simp only [hf, Bool.false_eq_true, if_false, testBit_clearBits, Nat.testBit_or, Nat.testBit_and] at ha ⊢
      rw [hv] at ha ⊢
      revert ha
      generalize (getAt s.msix n _).armed.testBit v = x
      generalize (getAt s.msix n _).pba.testBit v = y
      cases (s.msixCond n).testBit v <;> cases x <;> cases y <;> simp
    · cases hm

/-- After `settle` the vectors are served, whatever the state before. -/
theorem msixServed_settle (u : State) : MsixServed u.settle := by
  intro hl fn hfn m hm
  rw [State.settle_eq] at hl hm ⊢
  generalize u.preIrq.keepWord A.SYS_IRQ_STATUS u.preIrq.irqStatus = w at hl hm ⊢
  rw [State.on_settleMsix] at hl
  rw [State.msixCond_settleMsix]
  interval_cases fn
  · rw [Option.mem_def, State.msix_settleMsix_ne _ (by decide)] at hm
    rw [State.on_settleMsix] at hl
    rw [State.msixCond_settleMsix]
    exact vecsServed_settleMsix w 0 hl hm
  · exact vecsServed_settleMsix (w.settleMsix 0) 1 hl hm

theorem msixServed_done (s : State) (f : State → State) : MsixServed (s.done f) := msixServed_settle _

/-! ### Commands and steps -/

/-- What an effect's answer always meets. -/
theorem answers_summed {c : Instr} {s : State} {f : State → State} (h : exec c s = s.run f) :
    Answers c s fun t => t.variant = s.variant ∧ t.pending = s.pending ∧ Summed t :=
  ⟨_, h, State.done_variant s f, State.done_pending s f, summed_done s f⟩

/-- A step is idle, or a command's effect on the rest of the queue. -/
theorem step_cases {s t : State} (h : step s = .next t) :
    t = s ∨ ∃ (c : Instr) (q : List Instr) (f : State → State), s.pending = c :: q ∧ t = State.done { s with pending := q } f := by
  unfold step at h
  split at h
  · exact .inl (Host.Outcome.next.inj h).symm
  · rename_i c q hq
    rcases exec_cases c { s with pending := q } with ⟨f, hf⟩ | hf
    · rw [hf] at h
      exact .inr ⟨c, q, f, hq, (Host.Outcome.next.inj h).symm⟩
    · rw [hf] at h; cases h

/-- Settles O3: every answer is settled. -/
theorem everyStepKeepsTheSummaries : Obligations.EveryStepKeepsTheSummaries := by
  intro s t hs h
  rcases step_cases h with rfl | ⟨c, q, f, _, rfl⟩
  · exact hs
  · exact summed_done _ f

/-- Settles O4: every answer is settled. -/
theorem everyStepKeepsMsixServed : Obligations.EveryStepKeepsMsixServed := by
  intro s t hs h
  rcases step_cases h with rfl | ⟨c, q, f, _, rfl⟩
  · exact hs
  · exact msixServed_done _ f

/-- Settles O1, by the definition of a step. -/
theorem stepRunsTheFrontCommand : Obligations.StepRunsTheFrontCommand := by
  refine ⟨fun c q s h => ?_, fun s h => ?_⟩
  · unfold step; rw [h]
  · unfold step; rw [h]

/-- Every command answers its effect, settled, where its objects exist, and stops where one does not (log 84). -/
theorem exec_runIf (i : Instr) (s : State) : ∃ f, exec i s = s.runIf (i.wellFormed s.variant) f := by
  cases i
  case loopI c n count body =>
    change ∃ f, execLoopI c n count body s = _
    unfold execLoopI
    split <;> exact ⟨_, rfl⟩
  case loopR c n a top body =>
    change ∃ f, execLoopR c n a top body s = _
    unfold execLoopR
    split <;> exact ⟨_, rfl⟩
  all_goals exact ⟨_, rfl⟩

/-- Settles O2: a command's objects are what its meaning asks for. -/
theorem commandsComplete : Obligations.CommandsComplete := by
  intro c s
  obtain ⟨f, hf⟩ := exec_runIf c s
  refine ⟨fun h => ?_, fun h => ?_⟩
  · exact answers_summed (hf.trans (s.runIf_true h f))
  · exact hf.trans (s.runIf_false h f)

/-- A step from a state whose waiting commands are well-formed answers a next state like it, with one command less. -/
theorem step_next {s : State} (hq : QueueOk s) (hs : Summed s) :
    ∃ t, step s = .next t ∧ QueueOk t ∧ Summed t ∧ t.variant = s.variant ∧ t.pending = s.pending.drop 1 := by
  match hp : s.pending with
  | [] => exact ⟨s, stepRunsTheFrontCommand.2 s hp, hq, hs, rfl, hp⟩
  | c :: q =>
    have hc : c.wellFormed s.variant = true := hq c (by simp [hp])
    obtain ⟨t, ht, hv, hpend, hsum⟩ := (commandsComplete c { s with pending := q }).1 hc
    have hpq : t.pending = q := hpend
    have hvs : t.variant = s.variant := hv
    refine ⟨t, (stepRunsTheFrontCommand.1 c q s hp).trans ht, ?_, hsum, hvs, hpq⟩
    intro d hd
    rw [hpq] at hd
    rw [hvs]
    exact hq d (by simp [hp, hd])

theorem run_succ (M : Host.Core) (n : Nat) {s t : M.State} (h : M.step s = .next t) : M.run (n + 1) s = M.run n t := by
  simp only [Host.Core.run, h]

/-- Settles O7, by induction on the number of steps. -/
theorem noRunStops : Obligations.NoRunStops := by
  intro n
  induction n with
  | zero => exact fun s hq hs => ⟨s, rfl, hq, hs, rfl, rfl⟩
  | succ n ih =>
    intro s hq hs
    obtain ⟨t, ht, hqt, hst, hvt, hpt⟩ := step_next hq hs
    obtain ⟨u, hu, hqu, hsu, hvu, hpu⟩ := ih t hqt hst
    refine ⟨u, ?_, hqu, hsu, hvu.trans hvt, ?_⟩
    · exact (run_succ core n ht).trans hu
    · rw [hpu, hpt, List.drop_drop, Nat.add_comm]

/-! ### The module right after RESET -/

theorem State.reset_reg (a : Nat) : State.reset.reg a = resetWord State.reset.variant a := rfl

/-- Settles O6, by computing on the reset state. -/
theorem resetMeetsTheInvariants : Obligations.ResetMeetsTheInvariants := by
  refine ⟨by decide, by decide, by decide, rfl, State.reset_reg, fun _ => rfl, ?_, ?_, ?_, Memory.wf_reset, ?_⟩
  · exact ⟨by decide, by decide, by decide, by decide⟩
  · intro hl
    exact absurd hl (by decide)
  · decide
  · intro c hc
    cases hc

end Sys2Proof.Machine
end

section
/-! PROOFS. Fields read after an effect, and the answer of a command from its effect's frame. -/

namespace Sys2Proof.Machine

section
variable {s : State} {g : Fld}

theorem State.fld_wr_ne (a n : Nat) (h : g.adr ≠ a) : (s.wr a n).fld g = s.fld g := State.fld_eq_of_reg (State.reg_wr_ne _ _ h)
theorem State.fld_event_ne {f : Fld} (h : g.adr ≠ f.adr) : (s.event f).fld g = s.fld g := State.fld_set_ne _ _ h
theorem State.fld_life_ne (k n : Nat) (h : g.adr ≠ A.MGMT_EVT) : (s.life k n).fld g = s.fld g :=
  State.fld_eq_of_reg (State.reg_life_ne _ _ _ h)
theorem State.fld_logBy_ne (r c v m l : Nat) (p : List Nat) (h : g.adr ≠ A.MGMT_EVT) : (s.logBy r c v m l p).fld g = s.fld g :=
  State.fld_eq_of_reg (State.reg_logBy_ne _ _ _ _ _ _ _ h)
theorem State.fld_log_ne (r c v : Nat) (p : List Nat) (h : g.adr ≠ A.MGMT_EVT) : (s.log r c v p).fld g = s.fld g :=
  State.fld_eq_of_reg (State.reg_log_ne _ _ _ _ _ h)
theorem State.fld_advance_ne (dt : Nat) (h : g.adr ∉ timeRegs) : (s.advance dt).fld g = s.fld g :=
  State.fld_eq_of_reg (State.reg_advance _ _ h)
theorem State.on_advance_ne (dt : Nat) (h : g.adr ∉ timeRegs) : (s.advance dt).on g = s.on g :=
  State.on_eq_of_reg (State.reg_advance _ _ h)
theorem State.fld_eventBit_free {f : Fld} (h : Fld.free f g = true) (k : Nat) : (s.eventBit f k).fld g = s.fld g :=
  State.fld_setBit_free _ h k true

/-- A field that an optional update leaves is left. -/
theorem State.fld_when (b : Bool) (f : State → State) (h : (f s).fld g = s.fld g) : (s.when b f).fld g = s.fld g := by
  cases b
  · rfl
  · exact h

theorem State.fld_when_event (b : Bool) {f : Fld} (h : Fld.free f g = true) : (s.when b fun s => s.event f).fld g = s.fld g :=
  State.fld_when b _ (State.fld_event_free _ h)

theorem State.when_true (f : State → State) : s.when true f = f s := rfl
theorem State.when_false (f : State → State) : s.when false f = s := rfl

/-- A field outside what an effect may change reads as before. -/
theorem Chg.fld {R : Nat → Prop} {P : Part → Prop} {M : Nat → Prop} {t : State} (h : Chg R P M s t) (hg : ¬ R g.adr) :
    t.fld g = s.fld g := State.fld_eq_of_reg (h.reg _ hg)

end

/-! ### PWR.STATUS after an effect -/

/-- The fields of PWR.STATUS that a command keeps are those its effect keeps. -/
theorem pwrStatusKept_of_fld {l : List Fld} {s u : State}
    (h : ∀ g : Fld, g.adr = A.PWR_STATUS → (∀ f ∈ l, Fld.free f g = true) → u.fld g = s.fld g) : PwrStatusKept l s (s.seal u) :=
  pwrStatusKept_seal l s u fun g ha _ hl => h g ha hl

/-! ### Answers -/

/-- A command answers its effect, settled. -/
theorem answers_effect {i : Instr} {s u : State} {P : State → Prop} {R : Nat → Prop} {Q : Part → Prop} {M : Nat → Prop}
    (f : State → State) (hx : exec i s = s.run f) (hu : f s.fresh = u) (hc : Chg R Q M s u) (h : P (s.seal u)) :
    Answers i s P := answers_run f hx hu hc.variant h

end Sys2Proof.Machine
end

section
/-! PROOFS. Power inputs and AUX_3V3 (R498, R499, R503, R513). -/

namespace Sys2Proof.Machine

/-! ### The grant of an input -/

/-- The field that shows an input's grant (R516). -/
def grantFld (p : Port) : Fld :=
  match p with
  | .a => F.PWR_STATUS_GRANT_A
  | .b => F.PWR_STATUS_GRANT_B
  | .c => F.PWR_STATUS_GRANT_C

@[simp] theorem grantFld_adr (p : Port) : (grantFld p).adr = A.PWR_STATUS := by cases p <;> rfl

theorem grantFld_ok (p : Port) : (grantFld p).ok = true := by cases p <;> decide

theorem grantFld_kept (p : Port) : (grantFld p).kept = true := by cases p <;> decide

theorem grantFld_free_inUse (p : Port) : Fld.free (grantFld p) F.PWR_STATUS_IN_USE = true := by cases p <;> decide

theorem grantFld_width (p : Port) : (grantFld p).width = 4 := by cases p <;> rfl

theorem State.grant_idx (s : State) (p : Port) : s.grant p.idx = s.fld (grantFld p) := by cases p <;> rfl

theorem State.setGrant_idx (s : State) (p : Port) (g : Nat) : s.setGrant p.idx g = s.set (grantFld p) g := by cases p <;> rfl

/-- A grant shown and the change counted (R476): what a classified input and one that loses its power have in common. -/
def State.showGrant (s : State) (p : Port) (g : Nat) : State := (s.set (grantFld p) g).life (3 + p.idx) 1

theorem State.inUse_showGrant (s : State) (p : Port) (g : Nat) :
    (s.showGrant p g).fld F.PWR_STATUS_IN_USE = s.fld F.PWR_STATUS_IN_USE := by
  rw [State.showGrant, State.fld_life_ne _ _ (by decide), State.fld_set_free _ (grantFld_free_inUse p)]

theorem answers_showGrant {i : Instr} {s : State} {p : Port} {g : Nat} (f : State → State) (hx : exec i s = s.run f)
    (hu : f s.fresh = s.fresh.showGrant p g) (hg : g < 16) :
    Answers i s fun t =>
      t.grant p.idx = g ∧ t.fld F.PWR_STATUS_IN_USE = s.fld F.PWR_STATUS_IN_USE ∧ Framed [A.MGMT_EVT] [.mgmt] s t := by
  have hframe : Chg (Listed [A.MGMT_EVT]) (Parts [.mgmt]) NoMem s (s.fresh.showGrant p g) := by simp [State.showGrant]
  refine answers_effect f hx hu hframe ⟨?_, ?_, hframe.framed⟩
  · rw [State.grant_idx, State.fld_seal _ _ (grantFld_kept p), State.showGrant,
      State.fld_life_ne _ _ (by rw [grantFld_adr]; decide), State.fld_set_same _ (grantFld_ok p), grantFld_width]
    exact Nat.mod_eq_of_lt hg
  · rw [State.fld_seal _ _ (by decide), State.inUse_showGrant]
    rfl

/-- Another input is classified: it shows its grant, and the supply stays (R498). -/
theorem answers_pdClassification (s : State) (p : Port) (cls : Nat) (hc : cls ≤ 8) (h3 : s.fld F.PWR_STATUS_IN_USE ≠ 3)
    (hp : s.fld F.PWR_STATUS_IN_USE ≠ p.idx) :
    Answers (.pdClassification p cls) s fun t =>
      t.grant p.idx = cls ∧ t.fld F.PWR_STATUS_IN_USE = s.fld F.PWR_STATUS_IN_USE ∧ Framed [A.MGMT_EVT] [.mgmt] s t := by
  refine answers_showGrant _ rfl ?_ (by omega)
  have hshow : (s.fresh.setGrant p.idx (min cls 8)).life (3 + p.idx) 1 = s.fresh.showGrant p cls := by
    rw [State.setGrant_idx, Nat.min_eq_left hc]
    rfl
  have huse : (s.fresh.showGrant p cls).fld F.PWR_STATUS_IN_USE = s.fld F.PWR_STATUS_IN_USE := State.inUse_showGrant _ _ _
  simp only [State.classified, hshow, huse, beq_false_of_ne h3, beq_false_of_ne hp, State.when_false]

/-- An input that does not supply the module loses its power (R476). -/
theorem answers_pdPowerRemoval (s : State) (p : Port) (hp : s.fld F.PWR_STATUS_IN_USE ≠ p.idx) (hg : s.grant p.idx ≠ 15) :
    Answers (.pdPowerRemoval p) s fun t =>
      t.grant p.idx = 15 ∧ t.fld F.PWR_STATUS_IN_USE = s.fld F.PWR_STATUS_IN_USE ∧ Framed [A.MGMT_EVT] [.mgmt] s t := by
  refine answers_showGrant _ rfl ?_ (by omega)
  have hg' : s.fresh.grant p.idx ≠ 15 := hg
  simp [State.inputGone, hp, hg', State.setGrant_idx, State.showGrant]

/-! ### The class in force -/

/-- At class 3 and above the class in force follows the input, and nothing but PWR.STATUS and its events changes (R501, R502). -/
theorem State.classUpd_of_budget (s : State) {g : Nat} (hg : s.grant (s.fld F.PWR_STATUS_IN_USE) = g) (h3 : 3 ≤ g) (h8 : g ≤ 8) :
    s.classUpd.fld F.PWR_STATUS_IN_USE = s.fld F.PWR_STATUS_IN_USE ∧ s.classUpd.fld F.PWR_STATUS_BUDGET = g ∧
      s.classUpd.on F.PWR_STATUS_LIMITED = s.limitedClass g ∧ s.classUpd.on F.PWR_STATUS_LOW_BUDGET = false ∧
      Chg (Listed [A.PWR_EVT]) (Parts [.pwr]) NoMem s s.classUpd := by
  have h15 : g ≠ 15 := by omega
  have hlow : lowClass g = false := by simp only [lowClass, ← Bool.not_eq_true, Nat.blt_eq]; omega
  have hmod : g % 16 = g := by omega
  simp only [State.classUpd, hg, if_neg h15, hlow, Bool.false_and, State.when_false]
  refine ⟨?_, ?_, ?_, ?_, ?_⟩
  · simp (disch := decide) only [State.fld_when_event, State.fld_updPwr, State.fld_setB_free, State.fld_set_free]
  · simp (disch := decide) only [State.fld_when_event, State.fld_updPwr, State.fld_setB_free, State.fld_set_same]
    exact hmod
  · simp (disch := decide) only [State.on, State.fld_when_event, State.fld_updPwr, State.fld_setB_free, State.fld_setB_same]
    cases s.limitedClass g <;> rfl
  · simp (disch := decide) only [State.on, State.fld_when_event, State.fld_updPwr, State.fld_setB_same]
    rfl
  · simp [State.when]
    split <;> split <;> simp

/-- Another input of class 3 or more supplies the module (R499). -/
theorem answers_supplyingInputChange (s : State) (p : Port) (hp : s.fld F.PWR_STATUS_IN_USE ≠ p.idx) (h3 : 3 ≤ s.grant p.idx)
    (h8 : s.grant p.idx ≤ 8) :
    Answers (.supplyingInputChange p) s fun t =>
      t.fld F.PWR_STATUS_IN_USE = p.idx ∧ t.fld F.PWR_STATUS_BUDGET = s.grant p.idx ∧
      t.on F.PWR_STATUS_LIMITED = (s.grant p.idx == 3 && s.variant != .jk256) ∧ t.on F.PWR_STATUS_LOW_BUDGET = false ∧
      t.on F.PWR_EVT_INPUT_CHG = true ∧ Framed [A.PWR_EVT] [.pwr] s t := by
  have huse : (s.fresh.set F.PWR_STATUS_IN_USE p.idx).fld F.PWR_STATUS_IN_USE = p.idx := by
    rw [State.fld_set_same _ (by decide)]
    cases p <;> rfl
  have hgrant : (s.fresh.set F.PWR_STATUS_IN_USE p.idx).grant p.idx = s.grant p.idx := by
    rw [State.grant_idx, State.grant_idx, State.fld_set_free _ (by cases p <;> decide)]
    rfl
  have hu : s.fresh.supplyFrom p.idx = ((s.fresh.set F.PWR_STATUS_IN_USE p.idx).classUpd).event F.PWR_EVT_INPUT_CHG := by
    have h15 : ¬ s.fresh.grant p.idx = 15 := by change ¬ s.grant p.idx = 15; omega
    simp [State.supplyFrom, hp, h15]
  obtain ⟨h1, h2, h4, h5, hc⟩ := (s.fresh.set F.PWR_STATUS_IN_USE p.idx).classUpd_of_budget (by rw [huse, hgrant]) h3 h8
  have hframe : Chg (Listed [A.PWR_EVT]) (Parts [.pwr]) NoMem s
      (((s.fresh.set F.PWR_STATUS_IN_USE p.idx).classUpd).event F.PWR_EVT_INPUT_CHG) :=
    ((Chg.refl.fresh.set _ _ (by simp)).trans hc).event _ (by simp)
  refine answers_effect _ rfl hu hframe ⟨?_, ?_, ?_, ?_, ?_, hframe.framed⟩
  · rw [State.fld_seal _ _ (by decide), State.fld_event_free _ (by decide), h1, huse]
  · rw [State.fld_seal _ _ (by decide), State.fld_event_free _ (by decide), h2]
  · rw [State.on_seal _ _ (by decide), State.on_event_free _ (by decide), h4]
    simp [State.limitedClass]
  · rw [State.on_seal _ _ (by decide), State.on_event_free _ (by decide), h5]
  · rw [State.on_seal _ _ (by decide), State.on_event_same _ (by decide)]

/-- HOLD_ARMED follows the holdup store (R513). -/
theorem answers_holdArmedChange (s : State) (armed : Bool) (hp : s.pwr.powered = true) :
    Answers (.holdArmedChange armed) s fun t =>
      t.on F.PWR_STATUS_HOLD_ARMED = armed ∧ PwrStatusKept [F.PWR_STATUS_HOLD_ARMED] s t ∧ Framed [] [] s t := by
  have hframe : Chg (Listed []) (Parts []) NoMem s (s.fresh.setB F.PWR_STATUS_HOLD_ARMED armed) := by simp
  refine answers_effect _ rfl (by simp [State.when, hp]) hframe ⟨?_, ?_, hframe.framed⟩
  · rw [State.on_seal _ _ (by decide), State.on_setB_same _ (by decide)]
  · exact pwrStatusKept_of_fld fun g _ hg => State.fld_setB_free _ (hg _ (by simp)) _

/-- Settles O8. -/
theorem powerInputs : Obligations.PowerInputs :=
  ⟨answers_pdClassification, answers_supplyingInputChange, answers_pdPowerRemoval, answers_holdArmedChange⟩

end Sys2Proof.Machine
end

section
/-! PROOFS. A command bit written by a master, in the state a meaning starts from. -/

namespace Sys2Proof.Machine

/-- In every variant the register takes the command bits. -/
abbrev Strikes (a bits : Nat) : Prop := ∀ v, (rowAt v a).any (fun r => r.strikes a bits) = true

/-- A direct write of command bits starts their command, in the state a meaning starts from. -/
theorem Direct.strike {s : State} {m : Master} {priv : Bool} {a : Nat} (h : Direct s m priv a) {bits : Nat} (hr : Strikes a bits) :
    s.fresh.strike m priv a bits = s.fresh.regEffect m (s.masterPriv m priv) a (s.reg a) bits := by
  obtain ⟨r, hrow, hs⟩ := (Option.any_eq_true _ _).mp (hr s.variant)
  exact State.strike_direct s.fresh m priv a bits h ⟨r, hrow, hs⟩

end Sys2Proof.Machine
end

section
/-! PROOFS. AUX_3V3 (R503). -/

namespace Sys2Proof.Machine

/-! ### AUX_3V3 -/

/-- The output switched on, with a restart that has yet to hold. -/
def State.auxOn (s : State) : State :=
  (s.updPwr fun p => { p with auxTimer := false, auxHolding := true }).set F.PWR_STATUS_AUX_ON 1

theorem State.auxStart_eq (s : State) (he : s.on F.PWR_CFG_AUX_EN = true) (ho : s.on F.PWR_STATUS_AUX_ON = false) :
    s.auxStart = s.auxOn := by simp [State.auxStart, State.auxOn, he, ho]

/-- A restart shows the output on and leaves the other fields of PWR.STATUS. -/
theorem auxOn_shows (s u : State) (hf : ∀ f, u.fld f = s.fld f) :
    (s.seal u.auxOn).on F.PWR_STATUS_AUX_ON = true ∧ PwrStatusKept [F.PWR_STATUS_AUX_ON] s (s.seal u.auxOn) := by
  refine ⟨?_, pwrStatusKept_of_fld fun g _ hg => ?_⟩
  · rw [State.on_seal _ _ (by decide), State.auxOn, State.on_set_same _ (by decide)]
    rfl
  · rw [State.auxOn, State.fld_set_free _ (hg _ (by simp)), State.fld_updPwr, hf]

theorem answers_auxOverload (s : State) (ho : s.on F.PWR_STATUS_AUX_ON = true) :
    Answers .auxOverload s fun t =>
      t.on F.PWR_STATUS_AUX_ON = false ∧ t.on F.PWR_STATUS_AUX_FAULT = true ∧ t.on F.PWR_EVT_AUX_FAULT = true ∧
      t.pwr.auxRun = s.pwr.auxRun + 1 ∧ t.pwr.auxTimer = decide (s.pwr.auxRun + 1 < 3) ∧
      PwrStatusKept [F.PWR_STATUS_AUX_ON, F.PWR_STATUS_AUX_FAULT] s t ∧ Framed [A.PWR_EVT] [.pwr] s t := by
  have hu : s.fresh.auxOverload = (((s.fresh.updPwr fun p =>
      { p with auxRun := s.pwr.auxRun + 1, auxTimer := decide (s.pwr.auxRun + 1 < 3), auxHolding := false }).set
        F.PWR_STATUS_AUX_ON 0).set F.PWR_STATUS_AUX_FAULT 1).event F.PWR_EVT_AUX_FAULT := if_pos ho
  have hframe : Chg (Listed [A.PWR_EVT]) (Parts [.pwr]) NoMem s (s.fresh.auxOverload) := by rw [hu]; simp
  rw [hu] at hframe
  refine answers_effect _ rfl hu hframe ⟨?_, ?_, ?_, ?_, ?_, pwrStatusKept_of_fld fun g ha hg => ?_, hframe.framed⟩
  · rw [State.on_seal _ _ (by decide), State.on_event_free _ (by decide), State.on_set_free _ (by decide),
      State.on_set_same _ (by decide)]
    rfl
  · rw [State.on_seal _ _ (by decide), State.on_event_free _ (by decide), State.on_set_same _ (by decide)]
    rfl
  · rw [State.on_seal _ _ (by decide), State.on_event_same _ (by decide)]
  · simp [State.updPwr]
  · simp [State.updPwr]
  · rw [State.fld_event_ne (by rw [ha]; decide), State.fld_set_free _ (hg _ (by simp)), State.fld_set_free _ (hg _ (by simp))]
    rfl

theorem answers_auxAutoRestart (s : State) (ht : s.pwr.auxTimer = true) (he : s.on F.PWR_CFG_AUX_EN = true)
    (ho : s.on F.PWR_STATUS_AUX_ON = false) :
    Answers .auxAutoRestart s fun t =>
      t.on F.PWR_STATUS_AUX_ON = true ∧ t.pwr.auxTimer = false ∧ PwrStatusKept [F.PWR_STATUS_AUX_ON] s t ∧
        Framed [] [.pwr] s t := by
  have hu : s.fresh.when s.pwr.auxTimer State.auxStart = s.fresh.auxOn := by
    rw [ht, State.when_true, State.auxStart_eq s.fresh he ho]
  have hframe : Chg (Listed []) (Parts [.pwr]) NoMem s s.fresh.auxOn := by simp [State.auxOn]
  obtain ⟨hon, hkept⟩ := auxOn_shows s s.fresh fun _ => rfl
  exact answers_effect _ rfl hu hframe ⟨hon, by simp [State.auxOn, State.updPwr], hkept, hframe.framed⟩

theorem answers_auxRestart (s : State) (m : Master) (priv : Bool) (hd : Direct s m priv A.PWR_CTL)
    (he : s.on F.PWR_CFG_AUX_EN = true) (ho : s.on F.PWR_STATUS_AUX_ON = false) :
    Answers (.auxRestart m priv) s fun t =>
      t.on F.PWR_STATUS_AUX_ON = true ∧ t.pwr.auxRun = 0 ∧ t.pwr.auxTimer = false ∧
        PwrStatusKept [F.PWR_STATUS_AUX_ON] s t ∧ Framed [] [.pwr] s t := by
  have hu : s.fresh.strike m priv A.PWR_CTL 2 = (s.fresh.updPwr fun p => { p with auxRun := 0, auxTimer := false }).auxOn := by
    rw [hd.strike fun v => by cases v <;> decide, ← State.auxStart_eq (s.fresh.updPwr _) he ho]
    rfl
  have hframe : Chg (Listed []) (Parts [.pwr]) NoMem s
      (s.fresh.updPwr fun p => { p with auxRun := 0, auxTimer := false }).auxOn := by simp [State.auxOn]
  obtain ⟨hon, hkept⟩ := auxOn_shows s (s.fresh.updPwr fun p => { p with auxRun := 0, auxTimer := false }) fun _ => rfl
  exact answers_effect _ rfl hu hframe
    ⟨hon, by simp [State.auxOn, State.updPwr], by simp [State.auxOn, State.updPwr], hkept, hframe.framed⟩

theorem answers_auxRestartHold (s : State) (hh : s.pwr.auxHolding = true) (ho : s.on F.PWR_STATUS_AUX_ON = true) :
    Answers .auxRestartHold s fun t =>
      t.on F.PWR_STATUS_AUX_FAULT = false ∧ t.pwr.auxRun = 0 ∧ PwrStatusKept [F.PWR_STATUS_AUX_FAULT] s t ∧
        Framed [] [.pwr] s t := by
  have hframe : Chg (Listed []) (Parts [.pwr]) NoMem s
      ((s.fresh.updPwr fun p => { p with auxHolding := false, auxRun := 0 }).set F.PWR_STATUS_AUX_FAULT 0) := by simp
  refine answers_effect _ rfl (by simp [hh, ho, State.when]) hframe
    ⟨?_, by simp [State.updPwr], pwrStatusKept_of_fld fun g _ hg => ?_, hframe.framed⟩
  · rw [State.on_seal _ _ (by decide), State.on_set_same _ (by decide)]
    rfl
  · rw [State.fld_set_free _ (hg _ (by simp))]
    rfl

/-- Settles O9. -/
theorem aux3v3 : Obligations.Aux3v3 :=
  ⟨answers_auxOverload, answers_auxAutoRestart, answers_auxRestart, answers_auxRestartHold⟩

end Sys2Proof.Machine
end

section
/-! PROOFS. The thermal levels and the ways into RESET (R460, R514, R14, R516, R545, R458). -/

namespace Sys2Proof.Machine

/-! ### Sensor samples -/

theorem sens_ne {j k : Nat} (h : j ≠ k) : A.MGMT_SENS j ≠ A.MGMT_SENS k := by
  unfold A.MGMT_SENS
  omega

theorem sens_ne_evt (k : Nat) : A.MGMT_SENS k ≠ A.MGMT_EVT := by
  unfold A.MGMT_SENS A.MGMT_EVT
  omega

theorem sens_not_summary {k : Nat} (hk : k < 11) : A.MGMT_SENS k ∉ summaries := by
  interval_cases k <;> decide

theorem Fld.free_of_ok {f g : Fld} (hf : f.ok = true) (hg : g.ok = true) (h : f.apart g = true) : Fld.free f g = true := by
  simp [Fld.free, hf, hg, h]

/-- A sample changes its sensor's register, MGMT.EVT, the log and the counters, and nothing else (R460). -/
theorem chg_sample1 (s : State) (k : Nat) (v : Int) :
    Chg (fun a => a = A.MGMT_SENS k ∨ a = A.MGMT_EVT) (Parts [.mgmt]) NoMem s (s.sample1 k v) := by
  simp only [State.sample1, State.when]
  split
  · split <;> simp
  · split
    · split <;> simp
    · simp

/-- After a sample its sensor shows it. -/
theorem sample1_shows (s : State) (k : Nat) (v : Int) :
    (s.sample1 k v).fld (F.MGMT_SENS_VALUE k) = unsgn 16 v ∧ (s.sample1 k v).on (F.MGMT_SENS_VALID k) = true := by
  have hlt : unsgn 16 v < 2 ^ 16 := by unfold unsgn; omega
  have hv : Fld.free (F.MGMT_SENS_VALID k) (F.MGMT_SENS_VALUE k) = true := Fld.free_of_ok rfl rfl rfl
  have hv' : Fld.free (F.MGMT_SENS_VALUE k) (F.MGMT_SENS_VALID k) = true := Fld.free_of_ok rfl rfl rfl
  have hw : Fld.free (F.MGMT_SENS_WARN k) (F.MGMT_SENS_VALUE k) = true := Fld.free_of_ok rfl rfl rfl
  have hw' : Fld.free (F.MGMT_SENS_WARN k) (F.MGMT_SENS_VALID k) = true := Fld.free_of_ok rfl rfl rfl
  have base1 : ((s.set (F.MGMT_SENS_VALID k) 1).set (F.MGMT_SENS_VALUE k) (unsgn 16 v)).fld (F.MGMT_SENS_VALUE k) = unsgn 16 v := by
    rw [State.fld_set_same _ rfl]
    exact Nat.mod_eq_of_lt hlt
  have base2 : ((s.set (F.MGMT_SENS_VALID k) 1).set (F.MGMT_SENS_VALUE k) (unsgn 16 v)).fld (F.MGMT_SENS_VALID k) = 1 := by
    rw [State.fld_set_free _ hv', State.fld_set_same _ rfl]
    rfl
  have hne : A.MGMT_SENS k ≠ A.MGMT_EVT := sens_ne_evt k
  simp only [State.sample1, State.when, State.on]
  split
  · split
    · exact ⟨by rw [State.fld_set_free _ hw, base1], by rw [State.fld_set_free _ hw', base2]; rfl⟩
    · exact ⟨base1, by rw [base2]; rfl⟩
  · split
    · split
      · rw [State.fld_life_ne _ _ hne, State.fld_life_ne _ _ hne, State.fld_log_ne _ _ _ _ hne, State.fld_log_ne _ _ _ _ hne,
          State.fld_event_ne hne, State.fld_event_ne hne, State.fld_set_free _ hw, State.fld_set_free _ hw', base1, base2]
        exact ⟨rfl, rfl⟩
      · rw [State.fld_log_ne _ _ _ _ hne, State.fld_log_ne _ _ _ _ hne,
          State.fld_event_ne hne, State.fld_event_ne hne, State.fld_set_free _ hw, State.fld_set_free _ hw', base1, base2]
        exact ⟨rfl, rfl⟩
    · exact ⟨base1, by rw [base2]; rfl⟩

/-- One round of samples, from sensor j on. -/
def sampleAll (l : List Int) (s : State) (j : Nat) : State :=
  (l.foldl (fun (x : State × Nat) v => (x.1.sample1 x.2 v, x.2 + 1)) (s, j)).1

theorem sampleAll_cons (v : Int) (l : List Int) (s : State) (j : Nat) :
    sampleAll (v :: l) s j = sampleAll l (s.sample1 j v) (j + 1) := rfl

/-- A round of samples leaves the sensors before its first one, and everything but sensors, MGMT.EVT and the log. -/
theorem chg_sampleAll (l : List Int) (s : State) (j : Nat) :
    Chg (fun a => (∃ k, j ≤ k ∧ a = A.MGMT_SENS k) ∨ a = A.MGMT_EVT) (Parts [.mgmt]) NoMem s (sampleAll l s j) := by
  induction l generalizing s j with
  | nil => exact Chg.refl
  | cons v l ih =>
    rw [sampleAll_cons]
    refine Chg.trans ((chg_sample1 s j v).mono ?_ (fun _ h => h) fun _ h => h) ((ih _ (j + 1)).mono ?_ (fun _ h => h) fun _ h => h)
    · rintro a (h | h)
      · exact .inl ⟨j, Nat.le_refl j, h⟩
      · exact .inr h
    · rintro a (⟨k, hk, h⟩ | h)
      · exact .inl ⟨k, by omega, h⟩
      · exact .inr h

/-- Every sensor of the round shows its sample. -/
theorem sampleAll_shows (l : List Int) (s : State) (j i : Nat) (v : Int) (h : l[i]? = some v) :
    (sampleAll l s j).fld (F.MGMT_SENS_VALUE (j + i)) = unsgn 16 v ∧ (sampleAll l s j).on (F.MGMT_SENS_VALID (j + i)) = true := by
  induction l generalizing s j i with
  | nil => cases h
  | cons w l ih =>
    rw [sampleAll_cons]
    cases i with
    | zero =>
      obtain rfl : w = v := Option.some.inj h
      have hreg : (sampleAll l (s.sample1 j w) (j + 1)).reg (A.MGMT_SENS j) = (s.sample1 j w).reg (A.MGMT_SENS j) := by
        refine (chg_sampleAll l _ _).reg _ ?_
        rintro (⟨k, hk, e⟩ | e)
        · exact sens_ne (by omega) e
        · exact sens_ne_evt j e
      obtain ⟨h1, h2⟩ := sample1_shows s j w
      exact ⟨(State.fld_eq_of_reg hreg).trans h1, (State.on_eq_of_reg hreg).trans h2⟩
    | succ i =>
      rw [show j + (i + 1) = j + 1 + i by omega]
      exact ih _ (j + 1) i h

theorem chg_thermCrit (s : State) : Chg (Listed [A.PWR_EVT]) (Parts []) NoMem s s.thermCrit := by
  simp only [State.thermCrit, State.when]
  split <;> simp

/-- Each sample shows in its sensor's register (R460). -/
theorem answers_sensorSample (s : State) (vals : List Int) (k : Nat) (v : Int) (hp : s.pwr.powered = true) (hk : k < 11)
    (hv : vals[k]? = some v) :
    Answers (.sensorSample vals) s fun t =>
      t.fld (F.MGMT_SENS_VALUE k) = unsgn 16 v ∧ t.on (F.MGMT_SENS_VALID k) = true ∧ t.pwr = s.pwr ∧ MemKept s t := by
  have hu : (s.fresh.when s.pwr.powered fun s => (sampleAll (vals.take 11) s 0).thermCrit) =
      (sampleAll (vals.take 11) s.fresh 0).thermCrit := by rw [hp, State.when_true]
  have hframe : Chg (fun _ => True) (Parts [.mgmt]) NoMem s (sampleAll (vals.take 11) s.fresh 0).thermCrit :=
    (Chg.refl.fresh.trans ((chg_sampleAll _ _ _).mono (fun _ _ => trivial) (fun _ h => h) fun _ h => h)).trans
      ((chg_thermCrit _).mono (fun _ _ => trivial) (by simp) fun _ h => h)
  have hk' : A.MGMT_SENS k ∉ summaries := sens_not_summary hk
  have hreg : (s.seal (sampleAll (vals.take 11) s.fresh 0).thermCrit).reg (A.MGMT_SENS k) =
      (sampleAll (vals.take 11) s.fresh 0).reg (A.MGMT_SENS k) := by
    rw [State.reg_seal _ _ hk', (chg_thermCrit _).reg]
    simp only [listed_iff, List.mem_singleton, hk', or_false]
    interval_cases k <;> decide
  obtain ⟨h1, h2⟩ := sampleAll_shows (vals.take 11) s.fresh 0 k v (by simp [hk, hv])
  rw [Nat.zero_add] at h1 h2
  refine answers_effect _ rfl hu hframe ⟨(State.fld_eq_of_reg hreg).trans h1, (State.on_eq_of_reg hreg).trans h2, ?_, hframe.memKept⟩
  rw [State.seal_pwr]
  exact hframe.part .pwr (by simp)

/-! ### Thermal limits -/

/-- The critical level shows (R514). -/
theorem answers_thermalCritical (s : State) (hp : s.pwr.powered = true) :
    Answers .thermalCritical s fun t =>
      t.on F.PWR_STATUS_THERM_CRIT = true ∧ t.on F.PWR_EVT_THERM_CRIT = true ∧ PwrStatusKept [F.PWR_STATUS_THERM_CRIT] s t ∧
      Framed [A.PWR_EVT] [] s t := by
  have hframe : Chg (Listed [A.PWR_EVT]) (Parts []) NoMem s
      ((s.fresh.set F.PWR_STATUS_THERM_CRIT 1).event F.PWR_EVT_THERM_CRIT) := by simp
  refine answers_effect _ rfl (by simp [State.when, hp]) hframe ⟨?_, ?_, pwrStatusKept_of_fld fun g ha hg => ?_, hframe.framed⟩
  · rw [State.on_seal _ _ (by decide), State.on_event_free _ (by decide), State.on_set_same _ (by decide)]
    rfl
  · rw [State.on_seal _ _ (by decide), State.on_event_same _ (by decide)]
  · rw [State.fld_event_ne (by rw [ha]; decide), State.fld_set_free _ (hg _ (by simp))]
    rfl

/-- A shutdown enters RESET (R514). -/
theorem answers_thermalShutdown (s : State) (dt : Nat) (hp : s.pwr.powered = true) :
    Answers (.thermalShutdown dt) s fun t =>
      t.fld F.SYS_MOD_STATE_STATE = 1 ∧ t.fld F.SYS_MOD_STATE_LAST_CAUSE = 1 ∧ t.fld F.PWR_UNIT_STATUS_POWERED = 1 ∧
      (t.fld F.RING_BYPASS_STATUS_STATE = 0 ∨ t.fld F.RING_BYPASS_STATUS_STATE = 3) ∧ t.pwr.thermal = true := by
  set r := (s.fresh.advance dt).enterReset 1 1 with hr
  have hu : (s.fresh.advance dt).thermalShutdown = r.updPwr fun p => { p with thermal := true, thermalNext := true } := by
    simp [State.thermalShutdown, State.fresh, hp, hr]
  refine answers_run _ rfl hu (by simp [hr, State.fresh]) ⟨?_, ?_, ?_, ?_, by rw [State.seal_pwr]; rfl⟩
  · rw [State.fld_seal _ _ (by decide), State.fld_updPwr]
    exact State.modState_enterReset _ 1 1
  · rw [State.fld_seal _ _ (by decide), State.fld_updPwr]
    exact State.lastCause_enterReset _ 1 1
  · rw [State.fld_seal _ _ (by decide), State.fld_updPwr]
    exact (State.units_enterReset _ 1 1).1
  · rw [State.fld_seal _ _ (by decide), State.fld_updPwr, hr, State.bypass_enterReset]
    split
    · exact .inl rfl
    · exact .inr rfl

/-- Below the warning levels the MP starts again (R514). -/
theorem answers_thermalRestart (s : State) (ht : s.pwr.thermal = true) (hw : ∀ k < 5, s.on (F.MGMT_SENS_WARN k) = false) :
    Answers .thermalRestart s fun t =>
      t.on F.PWR_EVT_THERM_SHUTDOWN = true ∧ t.pwr.thermal = false ∧ Framed [A.PWR_EVT] [.pwr] s t := by
  have hnone : anyN 5 (fun k => s.fresh.on (F.MGMT_SENS_WARN k)) = false := by
    simp only [anyN, List.any_eq_false, List.mem_range, State.on_fresh]
    exact fun k hk => by simp [hw k hk]
  have hu : s.fresh.thermalRestart =
      (s.fresh.updPwr fun p => { p with thermal := false, thermalNext := false }).event F.PWR_EVT_THERM_SHUTDOWN :=
    if_pos (by rw [hnone]; simp [State.fresh, ht])
  have hframe : Chg (Listed [A.PWR_EVT]) (Parts [.pwr]) NoMem s
      ((s.fresh.updPwr fun p => { p with thermal := false, thermalNext := false }).event F.PWR_EVT_THERM_SHUTDOWN) := by simp
  refine answers_effect _ rfl hu hframe ⟨?_, by rw [State.seal_pwr]; rfl, hframe.framed⟩
  rw [State.on_seal _ _ (by decide), State.on_event_same _ (by decide)]

/-- Settles O10. -/
theorem thermalLevels : Obligations.ThermalLevels :=
  ⟨answers_sensorSample, answers_thermalCritical, answers_thermalShutdown, answers_thermalRestart⟩

/-! ### Ways into RESET -/

/-- A module that holds a word at an address between two sensors' registers, where the map has no register. -/
def strayWord : State := { State.reset with regs := [(A.MGMT_SENS 0 + 1, 5)] }

/-- Refutes O12: RESET keeps every listed word between the sensors' registers, so that a word stored at an address that is no
register's, as no command stores it, is not brought to its reset value by the watchdog. -/
theorem not_waysIntoReset : ¬ Obligations.WaysIntoReset := by
  rintro ⟨-, -, -, hdog⟩
  obtain ⟨t, ht, -, -, -, -, -, -, hregs, -⟩ := hdog strayWord rfl
  have hx : exec .mpWatchdogExpiry strayWord = .next (strayWord.seal (strayWord.fresh.enterReset 2 3)) :=
    congrArg Host.Outcome.next (strayWord.done_eq _ rfl (State.enterReset_variant ..))
  obtain rfl := Host.Outcome.next.inj (hx.symm.trans ht)
  have hreset := hregs (A.MGMT_SENS 0 + 1) (by decide) (fun k hk => by unfold A.MGMT_SENS; omega) (by decide)
  rw [State.reg_seal _ _ (by decide), State.reg_enterReset _ _ _ (by decide) (by decide)] at hreset
  exact absurd hreset (by decide)

end Sys2Proof.Machine
end

section
/-! PROOFS. The start: the boot ROM, Yunasel's start, and entry to STAGING (R399, R495, R484, R504). -/

namespace Sys2Proof.Machine

/-- Any register, any part. -/
def AnyReg (_ : Nat) : Prop := True
def AnyPart (_ : Part) : Prop := True

@[simp] theorem anyReg_iff (a : Nat) : AnyReg a ↔ True := Iff.rfl
@[simp] theorem anyPart_iff (p : Part) : AnyPart p ↔ True := Iff.rfl

section
variable {R : Nat → Prop} {P : Part → Prop} {M : Nat → Prop} {s t : State}

/-- A frame, with registers and parts forgotten. -/
theorem Chg.anywhere (h : Chg R P M s t) : Chg AnyReg AnyPart M s t :=
  h.mono (fun _ _ => trivial) (fun _ _ => trivial) fun _ ha => ha

@[simp] theorem chg_auxFollow (h : R A.PWR_STATUS) : Chg R P M s t.auxFollow ↔ Chg R P M s t :=
  Chg.iff_of (Chg.refl.keep _ _ h)

@[simp] theorem chg_fwInfo (h : ∀ k < 2, R (A.MGMT_FW_INFO k)) : Chg R P M s t.fwInfo ↔ Chg R P M s t :=
  Chg.iff_of (Chg.forN 2 _ (fun k hk t ht => ht.keepWord _ _ (h k hk)) Chg.refl)

theorem State.fwInfo_pwr (s : State) : s.fwInfo.pwr = s.pwr :=
  (show Chg AnyReg (Parts []) NoMem s s.fwInfo by simp).part .pwr (by simp)

theorem State.fld_fwInfo {s : State} {g : Fld} (h : g.adr ≠ A.MGMT_FW_INFO 0) (h' : g.adr ≠ A.MGMT_FW_INFO 1) : s.fwInfo.fld g = s.fld g := by
  refine Chg.fld (R := fun a => a = A.MGMT_FW_INFO 0 ∨ a = A.MGMT_FW_INFO 1) (P := AnyPart) (M := NoMem) ?_ (not_or.mpr ⟨h, h'⟩)
  rw [chg_fwInfo fun k hk => by interval_cases k <;> simp]
  exact Chg.refl

theorem State.fld_auxFollow {s : State} {g : Fld} (h : Fld.free F.PWR_STATUS_AUX_ON g = true) : s.auxFollow.fld g = s.fld g :=
  State.fld_keep_free _ h _

theorem State.fld_updFw (s : State) (f : FwRun → FwRun) (g : Fld) : (s.updFw f).fld g = s.fld g := rfl

@[simp] theorem chg_updFw (f : FwRun → FwRun) (h : P .mgmt) : Chg R P M s (t.updFw f) ↔ Chg R P M s t := by simp [State.updFw, h]

@[simp] theorem chg_requestSave (hr : R A.MGMT_CFG_STATUS) (hp : P .mgmt) : Chg R P M s t.requestSave ↔ Chg R P M s t := by
  refine Chg.iff_of ?_
  unfold State.requestSave
  split <;> simp [hr, hp]

end

/-! ### The boot ROM -/

/-- The default bank starts without a trial or a rollback to report: its bits and its versions show. -/
theorem State.bankStart_plain (s : State) (b : Bool) (hr : s.mgmt.fw.rolled = none) :
    s.bankStart b false = ((((s.setB F.SYS_STATUS_BANK b).setB F.SYS_STATUS_TRIAL false).updFw fun f =>
      { f with bank := b, trial := false, next := false, left := 0 }).updPwr fun p => { p with fwVerified := true }).fwInfo := by
  have h : (((((s.setB F.SYS_STATUS_BANK b).setB F.SYS_STATUS_TRIAL false).updFw fun f =>
      { f with bank := b, trial := false, next := false, left := 0 }).updPwr fun p => { p with fwVerified := true })).fw.rolled = none := hr
  simp only [State.bankStart, Bool.false_eq_true, if_false, h]

/-- The boot ROM samples the straps and starts the default bank. -/
theorem answers_bootRomStart (s : State) (priv strap : Bool) (hp : s.pwr.powered = true) (hst : s.fld F.SYS_MOD_STATE_STATE = 1)
    (hv : s.pwr.fwVerified = false) (ht : s.pwr.thermal = false) (hb : s.mgmt.bootFailed = false) (hn : s.mgmt.fw.next = false)
    (hr : s.mgmt.fw.rolled = none) (hok : s.bankOk s.mgmt.fw.dflt = true) :
    Answers (.bootRomStart priv strap) s fun t =>
      t.pwr.fwVerified = true ∧ t.on F.SYS_ACC_STATUS_SPI_PRIV = priv ∧ t.on F.SPLICE_STATUS_STRAP = strap ∧
      t.on F.SYS_STATUS_BANK = s.mgmt.fw.dflt ∧ t.on F.SYS_STATUS_TRIAL = false ∧ MemKept s t := by
  set w := ((s.fresh.setB F.SYS_ACC_STATUS_SPI_PRIV priv).setB F.SPLICE_STATUS_STRAP strap).auxFollow with hw
  have hmgmt : w.mgmt = s.mgmt := by simp [hw, State.auxFollow, State.fresh]
  have hok' : w.bankOk s.mgmt.fw.dflt = true := by
    simpa only [State.bankOk, State.bank, hmgmt] using hok
  have hu : s.fresh.bootRom priv strap = w.bankStart s.mgmt.fw.dflt false := by
    have hms : s.fresh.modState = stReset := hst
    have hfw : w.fw = s.mgmt.fw := congrArg Mgmt.fw hmgmt
    simp only [State.bootRom, hms, ← hw, hfw, hn]
    simp [State.fresh, hp, hv, ht, hb, hok']
  rw [State.bankStart_plain w _ (by rw [hmgmt]; exact hr)] at hu
  have hframe : Chg AnyReg AnyPart NoMem s ((((w.setB F.SYS_STATUS_BANK s.mgmt.fw.dflt).setB F.SYS_STATUS_TRIAL false).updFw fun f =>
      { f with bank := s.mgmt.fw.dflt, trial := false, next := false, left := 0 }).updPwr fun p => { p with fwVerified := true }).fwInfo := by
    simp [hw]
  refine answers_effect _ rfl hu hframe ⟨?_, ?_, ?_, ?_, ?_, hframe.memKept⟩
  · rw [State.seal_pwr, State.fwInfo_pwr]
    rfl
  · simp (disch := decide) only [State.fld_seal, State.on, State.fld_fwInfo, State.fld_updPwr, State.fld_updFw, State.fld_setB_free, hw,
      State.fld_auxFollow, State.fld_setB_same]
    cases priv <;> rfl
  · simp (disch := decide) only [State.fld_seal, State.on, State.fld_fwInfo, State.fld_updPwr, State.fld_updFw, State.fld_setB_free, hw,
      State.fld_auxFollow, State.fld_setB_same]
    cases strap <;> rfl
  · simp (disch := decide) only [State.fld_seal, State.on, State.fld_fwInfo, State.fld_updPwr, State.fld_updFw, State.fld_setB_free,
      State.fld_setB_same]
    cases s.mgmt.fw.dflt <;> rfl
  · simp (disch := decide) only [State.fld_seal, State.on, State.fld_fwInfo, State.fld_updPwr, State.fld_updFw, State.fld_setB_same]
    rfl

/-! ### Yunasel's start -/

section
variable {R : Nat → Prop} {P : Part → Prop} {M : Nat → Prop} {s t : State}

@[simp] theorem chg_lifeLoad (hr : R A.MGMT_EVT) (hp : P .mgmt) : Chg R P M s t.lifeLoad ↔ Chg R P M s t := by
  refine Chg.iff_of ?_
  simp only [State.lifeLoad]
  refine (Chg.updMgmt (Chg.forN 23 _ (fun k _ t ht => ht.life _ _ hr hp) ?_) _ hp).life _ _ hr hp
  exact Chg.refl.updMgmt _ hp

@[simp] theorem chg_rtcStart (hr : R A.MGMT_RTC_STATUS) (he : R A.MGMT_EVT) (hp : P .mgmt) :
    Chg R P M s t.rtcStart ↔ Chg R P M s t := by
  refine Chg.iff_of ?_
  unfold State.rtcStart
  split
  · simp [hr]
  · split <;> simp [hr, he, hp]

@[simp] theorem chg_keyStart (hs : R A.SYS_STATUS) (hk : R A.MGMT_KEY_STATUS) : Chg R P M s t.keyStart ↔ Chg R P M s t := by
  refine Chg.iff_of ?_
  unfold State.keyStart
  split <;> simp [hs, hk]

end

/-- Under factory defaults a unit's registers leave what was written to them before, and nothing is configured: only registers
of the unit that a configuration holds change. -/
theorem chg_landUnit_defaults (s : State) (u : Nat) (h : s.chooseSlot.1 = none) :
    Chg (fun a => unitOf a = u ∧ cfgMask s.variant a ≠ 0) (Parts [.bus]) NoMem s (s.landUnit u) := by
  simp only [State.landUnit, h, Option.map_none, Option.getD_none, List.filter_nil, List.append_nil]
  simp only [Machine.forL, List.foldl_nil]
  refine Chg.forL _ _ (fun c hc t ht => ?_) (Chg.refl.bus _ (by simp))
  split
  · exact ht
  · refine ht.putReg _ _ ?_
    simp only [List.mem_filter, Bool.and_eq_true, beq_iff_eq, bne_iff_ne, ne_eq] at hc
    exact ⟨hc.2.1.1, hc.2.1.2⟩


/-- What Yunasel's start does before the configuration is judged. -/
def State.startRecords (s : State) : State :=
  let s := (s.when (!s.mgmt.started) State.lifeLoad).rtcStart.keyStart
  let n (b : Bool) : Nat := if b then 1 else 0
  s.log 17 1 1 [s.fld F.SYS_MOD_STATE_LAST_CAUSE, (s.bank s.fw.bank).version, n s.fw.bank, n s.fw.trial]

/-- Factory defaults are in force: what shows it, and the words that follow the management's state. -/
def State.startDefaults (s : State) : State :=
  let s := ((s.setB F.SYS_STATUS_CFG_FALLBACK false).setB F.SYS_STATUS_CFG_DEFAULT true)
  let s := (s.setB F.MGMT_CFG_STATUS_SLOT false).wr A.MGMT_CFG_GEN Mgmt.blankSlot.gen
  let s := s.log 17 0x10 3 [0, Mgmt.blankSlot.gen, 0, 1]
  let first := !s.mgmt.started
  let s := s.updMgmt (fun m => { m with
    settings := Mgmt.blankSlot.settings, image := Mgmt.blankSlot.image, imageCert := false, started := true
    retiredBlocks := if first then Mgmt.blankSlot.retiredBlocks else m.retiredBlocks
    retiredLines := if first then Mgmt.blankSlot.retiredLines else m.retiredLines
    retiredCores := if first then Mgmt.blankSlot.retiredCores else m.retiredCores
    fw := { m.fw with slot := false } })
  let s := s.updPwr (fun p => { p with cfgLoaded := true, retiredUnits := if first then Mgmt.blankSlot.retiredUnits else p.retiredUnits })
  let s := (s.wr A.TEST_RETIRED s.mgmt.retiredBlocks).set F.PWR_UNIT_STATUS_FAILED s.pwr.retiredUnits
  (s.wr A.MGMT_ROLLBACK s.mgmt.rollback).wr A.MGMT_LOG_NEWEST (match s.mgmt.log with
    | [] => 0
    | r :: _ => (getAt r 0 0).toNat)

theorem State.firmwareStart_defaults (s : State) (hp : s.pwr.powered = true) (hst : s.modState = stReset)
    (hv : s.pwr.fwVerified = true) (hc : s.pwr.cfgLoaded = false) (hs : s.startRecords.chooseSlot = (none, false)) :
    s.firmwareStart = s.startRecords.startDefaults.landUnit 0 := by
  have h : (!s.pwr.powered || s.modState != stReset || !s.pwr.fwVerified || s.pwr.cfgLoaded) = false := by simp [hp, hst, hv, hc]
  unfold State.startRecords at hs
  simp only [State.firmwareStart, h, hs]
  rfl

theorem chg_startRecords {M : Nat → Prop} (s : State) :
    Chg (Listed [A.MGMT_EVT, A.MGMT_RTC_STATUS, A.SYS_STATUS, A.MGMT_KEY_STATUS]) (Parts [.mgmt]) M s s.startRecords := by
  simp only [State.startRecords, State.when]
  split <;> simp

theorem forL_induction {α : Type} {p : State → Prop} (l : List α) (f : α → State → State) (hf : ∀ a ∈ l, ∀ t, p t → p (f a t))
    {s : State} (h : p s) : p (forL l f s) := by
  unfold forL
  induction l generalizing s with
  | nil => exact h
  | cons a l ih => exact ih (fun b hb => hf b (List.mem_cons_of_mem _ hb)) (hf a List.mem_cons_self s h)

theorem forN_induction {p : State → Prop} (n : Nat) (f : Nat → State → State) (hf : ∀ i < n, ∀ t, p t → p (f i t)) {s : State}
    (h : p s) : p (forN n f s) :=
  forL_induction (List.range n) f (fun i hi => hf i (List.mem_range.mp hi)) h

/-- The configuration slots of the MRAM. -/
def State.slots (s : State) : CfgSlot × CfgSlot := (s.mgmt.slotA, s.mgmt.slotB)

theorem State.updMgmt_slots (s : State) (f : Mgmt → Mgmt) (ha : (f s.mgmt).slotA = s.mgmt.slotA) (hb : (f s.mgmt).slotB = s.mgmt.slotB) :
    (s.updMgmt f).slots = s.slots := Prod.ext ha hb

theorem State.slots_of_mgmt {s t : State} (h : t.mgmt = s.mgmt) : t.slots = s.slots := by
  unfold State.slots
  rw [h]

theorem State.life_slots (s : State) (k n : Nat) : (s.life k n).slots = s.slots := by
  simp only [State.life]
  split
  · rfl
  · rw [State.slots_of_mgmt (State.event_mgmt ..)]
    rfl

theorem State.log_slots (s : State) (r c v : Nat) (p : List Nat) : (s.log r c v p).slots = s.slots := by
  simp only [State.log, State.logBy]
  split
  · rfl
  · rw [State.slots_of_mgmt (State.event_mgmt ..)]
    rfl

theorem State.lifeLoad_slots (s : State) : s.lifeLoad.slots = s.slots := by
  simp only [State.lifeLoad]
  rw [State.life_slots, State.updMgmt_slots _ _ rfl rfl]
  exact forN_induction (p := fun t => t.slots = s.slots) 23 _ (fun k _ t ht => (t.life_slots _ _).trans ht) rfl

theorem State.rtcStart_slots (s : State) : s.rtcStart.slots = s.slots := by
  simp only [State.rtcStart]
  split
  · simp [State.slots]
  · split
    · simp [State.slots, State.updMgmt]
    · rw [State.updMgmt_slots _ _ (by simp) (by simp), State.log_slots]
      simp [State.slots, State.updMgmt]

theorem State.keyStart_slots (s : State) : s.keyStart.slots = s.slots := by
  unfold State.keyStart
  split <;> exact State.slots_of_mgmt (by simp)

/-- What the start records is no part of the configuration slots. -/
theorem State.startRecords_slots (s : State) : s.startRecords.slots = s.slots := by
  simp only [State.startRecords]
  rw [State.log_slots, State.keyStart_slots, State.rtcStart_slots]
  unfold State.when
  split
  · exact s.lifeLoad_slots
  · rfl

/-- With neither slot's MAGIC written, no slot is loaded. -/
theorem State.chooseSlot_blank {s t : State} (h : t.slots = s.slots) (ha : s.mgmt.slotA.magic = false)
    (hb : s.mgmt.slotB.magic = false) : t.chooseSlot = (none, false) := by
  have ha' : t.mgmt.slotA = s.mgmt.slotA := congrArg Prod.fst h
  have hb' : t.mgmt.slotB = s.mgmt.slotB := congrArg Prod.snd h
  simp [State.chooseSlot, CfgSlot.valid, ha', hb', ha, hb]

theorem State.startDefaults_slots (s : State) : s.startDefaults.slots = s.slots := by
  simp only [State.startDefaults]
  rw [State.slots_of_mgmt (State.wr_mgmt ..), State.slots_of_mgmt (State.wr_mgmt ..), State.slots_of_mgmt (State.set_mgmt ..),
    State.slots_of_mgmt (State.wr_mgmt ..), State.slots_of_mgmt (State.updPwr_mgmt ..), State.updMgmt_slots _ _ rfl rfl, State.log_slots]
  exact State.slots_of_mgmt (by simp)

theorem chg_startDefaults (s : State) :
    Chg (Listed [A.SYS_STATUS, A.MGMT_CFG_STATUS, A.MGMT_CFG_GEN, A.MGMT_EVT, A.TEST_RETIRED, A.PWR_UNIT_STATUS, A.MGMT_ROLLBACK,
      A.MGMT_LOG_NEWEST]) (Parts [.mgmt, .pwr]) NoMem s s.startDefaults := by
  simp [State.startDefaults]

/-- What factory defaults show (R485). -/
theorem startDefaults_shows (s : State) :
    s.startDefaults.on F.SYS_STATUS_CFG_DEFAULT = true ∧ s.startDefaults.on F.SYS_STATUS_CFG_FALLBACK = false ∧
      s.startDefaults.pwr.cfgLoaded = true ∧ s.startDefaults.mgmt.settings.autoStart = false ∧ s.startDefaults.mgmt.started = true := by
  simp only [State.startDefaults, State.on]
  refine ⟨?_, ?_, ?_, ?_, ?_⟩
  · simp (disch := decide) only [State.fld_wr_ne, State.fld_set_ne, State.fld_updPwr, State.fld_updMgmt, State.fld_log_ne,
      State.fld_setB_free, State.fld_setB_same]
    rfl
  · simp (disch := decide) only [State.fld_wr_ne, State.fld_set_ne, State.fld_updPwr, State.fld_updMgmt, State.fld_log_ne,
      State.fld_setB_free, State.fld_setB_same]
    rfl
  · simp [State.updPwr]
  · simp [State.updMgmt, Mgmt.blankSlot]
  · simp [State.updMgmt]

/-- Yunasel loads factory defaults where neither slot is valid (R484). -/
theorem answers_firmwareStart (s : State) (hp : s.pwr.powered = true) (hst : s.fld F.SYS_MOD_STATE_STATE = 1)
    (hv : s.pwr.fwVerified = true) (hc : s.pwr.cfgLoaded = false) (hun : Unconfigured s 0) :
    Answers .firmwareStart s fun t =>
      t.pwr.cfgLoaded = true ∧ t.on F.SYS_STATUS_CFG_DEFAULT = true ∧ t.on F.SYS_STATUS_CFG_FALLBACK = false ∧
      t.mgmt.settings.autoStart = false ∧ t.mgmt.started = true ∧ MemKept s t := by
  obtain ⟨ha, hb, -, -⟩ := hun
  have hrec : s.fresh.startRecords.slots = s.slots := s.fresh.startRecords_slots
  have hslot := State.chooseSlot_blank hrec ha hb
  have hu := s.fresh.firmwareStart_defaults hp hst hv hc hslot
  set d := s.fresh.startRecords.startDefaults with hd
  have hland : Chg (fun a => unitOf a = 0 ∧ cfgMask d.variant a ≠ 0) (Parts [.bus]) NoMem d (d.landUnit 0) :=
    chg_landUnit_defaults d 0 (by rw [State.chooseSlot_blank ((State.startDefaults_slots _).trans hrec) ha hb])
  have hframe : Chg AnyReg AnyPart NoMem s (d.landUnit 0) :=
    ((Chg.refl.fresh.trans (chg_startRecords _).anywhere).trans (chg_startDefaults _).anywhere).trans hland.anywhere
  obtain ⟨h1, h2, h3, h4, h5⟩ := startDefaults_shows s.fresh.startRecords
  rw [← hd] at h1 h2 h3 h4 h5
  have hmask : ∀ v, cfgMask v A.SYS_STATUS = 0 := fun v => by cases v <;> decide
  have hreg : (d.landUnit 0).reg A.SYS_STATUS = d.reg A.SYS_STATUS := hland.reg _ fun h => h.2 (hmask _)
  have hpwr : (d.landUnit 0).pwr = d.pwr := hland.part .pwr (by simp)
  have hmgmt : (d.landUnit 0).mgmt = d.mgmt := hland.part .mgmt (by simp)
  refine answers_effect _ rfl hu hframe ⟨?_, ?_, ?_, ?_, ?_, hframe.memKept⟩
  · rw [State.seal_pwr, hpwr, h3]
  · rw [State.on_seal _ _ (by decide), State.on_eq_of_reg (f := F.SYS_STATUS_CFG_DEFAULT) hreg, h1]
  · rw [State.on_seal _ _ (by decide), State.on_eq_of_reg (f := F.SYS_STATUS_CFG_FALLBACK) hreg, h2]
  · rw [State.seal_mgmt, hmgmt, h4]
  · rw [State.seal_mgmt, hmgmt, h5]

/-! ### Entry to STAGING -/

/-- The MP enters STAGING, and U1 is the first unit to stage (R504, R505). -/
theorem answers_stagingStart (s : State) (hp : s.pwr.powered = true) (hst : s.fld F.SYS_MOD_STATE_STATE = 1)
    (hc : s.pwr.cfgLoaded = true) (hl : s.on F.PWR_STATUS_LOW_BUDGET = false) (ha : s.on F.PWR_STATUS_HOLD_ARMED = true)
    (hw : s.pwr.stageWait = false) (hth : s.pwr.thermal = false) (hpm : s.pwr.stagePermanent = false) (h1 : s.unitStages 1 = true)
    (hr : s.test.running = none) :
    Answers .stagingStart s fun t =>
      t.fld F.SYS_MOD_STATE_STATE = 2 ∧ t.fld F.SYS_MOD_STATE_LAST_CAUSE = s.fld F.SYS_MOD_STATE_LAST_CAUSE ∧
      t.pwr.stagingUnit = some 1 ∧ t.on F.SYS_EVT_STATE_CHG = true ∧
      Framed [A.SYS_MOD_STATE, A.SYS_EVT, A.MGMT_EVT] [.pwr, .mgmt] s t := by
  set e := ((s.fresh.set F.SYS_MOD_STATE_STATE stStaging).set F.SYS_MOD_STATE_LAST_CAUSE
    (s.fld F.SYS_MOD_STATE_LAST_CAUSE)).event F.SYS_EVT_STATE_CHG with he
  set e' := e.log 0 1 0 [s.modState, stStaging, s.fld F.SYS_MOD_STATE_LAST_CAUSE] with he'
  have hchg : Chg (Listed [A.SYS_MOD_STATE, A.SYS_EVT, A.MGMT_EVT]) (Parts [.mgmt]) NoMem s e' := by simp [he', he]
  have hmay : s.fresh.mayStage = true := by
    have hms : s.fresh.modState = stReset := hst
    simp only [State.mayStage, hms, State.on_fresh, hl, ha]
    simp [State.fresh, hp, hc, hw, hth, hpm]
  have henter : s.fresh.enterState stStaging (s.fresh.fld F.SYS_MOD_STATE_LAST_CAUSE) = e' := by
    have htest : e'.test.running = none := by
      rw [show e'.test = s.test from hchg.part .test (by simp), hr]
    simp only [State.enterState]
    change (match e'.test.running with
      | none => e'
      | some b => e'.when (!e'.testAllowedIn b stStaging) (fun s => s.testAbort 3)) = e'
    rw [htest]
  have hfirst : (unitsAfter 0).find? e'.unitStages = some 1 := by
    have hs1 : e'.unitStages 1 = true := by
      have hen : e'.fld F.PWR_UNIT_EN_UNIT = s.fld F.PWR_UNIT_EN_UNIT := hchg.fld (by simp; decide)
      have hpw : e'.pwr = s.pwr := hchg.part .pwr (by simp)
      rw [State.unitStages, hchg.variant, hen, hpw]
      exact h1
    simp [unitsAfter, stageOrder, hs1]
  have hu : s.fresh.stagingStart = e'.updPwr fun p => { p with stagingUnit := some 1, stagePg := false, stageInt := false } := by
    rw [State.stagingStart, if_pos hmay, henter, State.stageNext, hfirst]
  have hframe : Chg (Listed [A.SYS_MOD_STATE, A.SYS_EVT, A.MGMT_EVT]) (Parts [.pwr, .mgmt]) NoMem s
      (e'.updPwr fun p => { p with stagingUnit := some 1, stagePg := false, stageInt := false }) :=
    (hchg.mono (fun _ h => h) (by simp) fun _ h => h).updPwr _ (by simp)
  refine answers_effect _ rfl hu hframe ⟨?_, ?_, ?_, ?_, hframe.framed⟩
  · simp (disch := decide) only [State.fld_seal, State.fld_updPwr, he', State.fld_log_ne, he, State.fld_event_ne, State.fld_set_free,
      State.fld_set_same]
    rfl
  · simp (disch := decide) only [State.fld_seal, State.fld_updPwr, he', State.fld_log_ne, he, State.fld_event_ne, State.fld_set_same]
    exact Nat.mod_eq_of_lt (s.fld_lt F.SYS_MOD_STATE_LAST_CAUSE)
  · rw [State.seal_pwr]
    rfl
  · simp (disch := decide) only [State.fld_seal, State.on, State.fld_updPwr, he', State.fld_log_ne, he, State.event, State.fld_set_same]
    rfl

/-- Settles O13. -/
theorem startUp : Obligations.StartUp := ⟨answers_bootRomStart, answers_firmwareStart, answers_stagingStart⟩

end Sys2Proof.Machine
end

section
/-! PROOFS. Staging of the units, their failures and retries (R505, R506). -/

namespace Sys2Proof.Machine

section
variable {R : Nat → Prop} {P : Part → Prop} {M : Nat → Prop} {s t : State}

theorem Chg.updSplice (h : Chg R P M s t) (f : SpliceS → SpliceS) (hp : P .splice) : Chg R P M s (t.updSplice f) := h.splice _ hp
@[simp] theorem chg_updSplice (f : SpliceS → SpliceS) (hp : P .splice) : Chg R P M s (t.updSplice f) ↔ Chg R P M s t :=
  Chg.iff_of (Chg.refl.updSplice f hp)

/-- A field of a register that a frame does not list reads as before. -/
theorem Chg.fld_off {l : List Nat} (h : Chg (Listed l) P M s t) {g : Fld} (hg : g.adr ∉ l ++ summaries) : t.fld g = s.fld g :=
  h.fld (fun hl => hg (List.mem_append.mpr hl))

theorem Chg.on_off {l : List Nat} (h : Chg (Listed l) P M s t) {g : Fld} (hg : g.adr ∉ l ++ summaries) : t.on g = s.on g := by
  rw [State.on, State.on, h.fld_off hg]

end

theorem State.fld_requestSave_ne {s : State} {g : Fld} (h : g.adr ≠ A.MGMT_CFG_STATUS) : s.requestSave.fld g = s.fld g := by
  have hc : Chg (· = A.MGMT_CFG_STATUS) (Parts [.mgmt]) NoMem s s.requestSave := by simp
  exact hc.fld h

@[simp] theorem State.requestSave_pwr (s : State) : s.requestSave.pwr = s.pwr := by
  have hc : Chg (· = A.MGMT_CFG_STATUS) (Parts [.mgmt]) NoMem s s.requestSave := by simp
  exact hc.part .pwr (by simp)

/-! ### A unit starts -/

/-- The registers of a unit's start: those of the clock, of its cores, and of the splice link. -/
def startRegs : List Nat := [A.CLK_FCW, A.CLK_REF_STATUS, A.SPLICE_STATUS]

theorem coreStatus_ne_unitStatus (c : Nat) : A.ENG_CORE_STATUS c ≠ A.PWR_UNIT_STATUS := by
  unfold A.ENG_CORE_STATUS A.PWR_UNIT_STATUS
  omega

/-- A unit's start leaves the registers that show which units are powered, the memories, and the parts of power and management. -/
theorem chg_unitStart (s : State) (u : Nat) :
    Chg (fun a => a ∈ startRegs ∨ ∃ c, a = A.ENG_CORE_STATUS c) (Parts [.clk, .time, .splice]) NoMem s (s.unitStart u) := by
  unfold State.unitStart
  split
  · simp [State.clkStart, startRegs]
  split
  · simp
  split
  · refine Chg.forN _ _ (fun k _ t ht => ?_) Chg.refl
    dsimp only
    split
    · exact (ht.set _ _ (.inr ⟨_, rfl⟩)).set _ _ (.inr ⟨_, rfl⟩)
    · exact ht.set _ _ (.inr ⟨_, rfl⟩)
  split
  · simp [State.spliceStart, State.setRole, startRegs]
  · exact Chg.refl

theorem BusS.owed_none (b : BusS) (h : b.owed = []) : { b with owed := [] } = b := by
  cases b
  cases h
  rfl

theorem State.actOwed_none (s : State) (h : s.bus.owed = []) : s.actOwed = s := by
  have hs : { s with bus := { s.bus with owed := [] } } = s := by rw [BusS.owed_none _ h]
  simp only [State.actOwed, h, List.filter_nil, forL, List.foldl_nil, hs]

theorem State.owed_landUnit_defaults (s : State) (u : Nat) (h : s.chooseSlot.1 = none) (ho : s.bus.owed = []) :
    (s.landUnit u).bus.owed = [] := by
  simp only [State.landUnit, h, Option.map_none, Option.getD_none, List.filter_nil, List.append_nil]
  refine forL_induction (p := fun t => t.bus.owed = []) _ _ (fun _ ha => absurd ha List.not_mem_nil) ?_
  refine forL_induction (p := fun t => t.bus.owed = []) _ _ (fun _ ha => absurd ha List.not_mem_nil) ?_
  refine forL_induction (p := fun t => t.bus.owed = []) _ _ (fun c _ t ht => ?_) (by simp [ho])
  split
  · exact ht
  · simpa using ht

/-- Under factory defaults, with nothing of the unit written and nothing owed, a unit comes up with its power, and no more than
its start's registers and parts change. -/
theorem unitGood_shows (s : State) (u : Nat) (hu : u < 15) (hu0 : u ≠ 0) (hc : s.chooseSlot.1 = none) (ho : s.bus.owed = []) :
    (s.unitGood u).unitOn u = true ∧ (s.unitGood u).pwr = s.pwr ∧ Chg AnyReg AnyPart NoMem s (s.unitGood u) := by
  set p := s.setBit F.PWR_UNIT_STATUS_POWERED u true with hp
  have hstart := chg_unitStart p u
  set v := p.unitStart u with hv
  have hmgmt : v.mgmt = s.mgmt := by
    rw [show v.mgmt = p.mgmt from hstart.part .mgmt (by simp)]
    simp [hp]
  have hslot : v.chooseSlot.1 = none := by
    rw [← hc]
    unfold State.chooseSlot
    rw [hmgmt]
  have hland := chg_landUnit_defaults v u hslot
  have howed : (v.landUnit u).bus.owed = [] := State.owed_landUnit_defaults v u hslot (by
    rw [show v.bus = p.bus from hstart.part .bus (by simp), ← ho]
    simp [hp])
  have hgood : s.unitGood u = v.landUnit u := State.actOwed_none _ howed
  rw [hgood]
  refine ⟨?_, ?_, ?_⟩
  · have h1 : (v.landUnit u).fld F.PWR_UNIT_STATUS_POWERED = v.fld F.PWR_UNIT_STATUS_POWERED := hland.fld (by
      rintro ⟨h, -⟩
      exact hu0 h.symm)
    have h2 : v.fld F.PWR_UNIT_STATUS_POWERED = p.fld F.PWR_UNIT_STATUS_POWERED := hstart.fld (by
      rintro (h | ⟨c, h⟩)
      · exact absurd h (by decide)
      · exact coreStatus_ne_unitStatus c h.symm)
    rw [State.unitOn, State.bitOf, h1, h2]
    exact (State.bitOf_setBit s (by decide) hu true u).trans (if_pos rfl)
  · rw [show (v.landUnit u).pwr = v.pwr from hland.part .pwr (by simp), show v.pwr = p.pwr from hstart.part .pwr (by simp)]
    simp [hp]
  · exact ((Chg.refl.setBit _ _ _ trivial).trans hstart.anywhere).trans hland.anywhere

/-- Power-good of the staging unit powers it (R505). -/
theorem answers_unitPowerGood (s : State) (u : Nat) (hu : hasUnit s.variant u = true) (hst : s.fld F.SYS_MOD_STATE_STATE = 2)
    (hs : s.pwr.stagingUnit = some u) (hpg : s.pwr.stagePg = false) (hint : s.pwr.stageInt = false) (hc : Unconfigured s u) :
    Answers (.unitPowerGood u) s fun t =>
      t.unitOn u = true ∧ t.pwr.stagePg = true ∧ t.pwr.stagingUnit = some u ∧ MemKept s t := by
  obtain ⟨ha, hb, -, ho⟩ := hc
  have hrange : u < 15 ∧ u ≠ 0 := by
    simp only [hasUnit, Bool.and_eq_true, Nat.ble_eq] at hu
    omega
  have hslot : s.fresh.chooseSlot.1 = none := congrArg Prod.fst (State.chooseSlot_blank (s := s) rfl ha hb)
  obtain ⟨hon, hpwr, hchg⟩ := unitGood_shows s.fresh u hrange.1 hrange.2 hslot ho
  have heff : s.fresh.powerGood u = (s.fresh.unitGood u).updPwr fun p => { p with stagePg := true } := by
    have hg : (s.fresh.modState == stStaging && s.fresh.pwr.stagingUnit == some u && !s.fresh.pwr.stagePg) = true := by
      rw [show s.fresh.modState = stStaging from hst]
      simp [State.fresh, hs, hpg]
    have hp : (s.fresh.unitGood u).pwr = s.pwr := hpwr
    rw [State.powerGood, if_pos hg]
    simp only [State.stageStep, State.updPwr, hp, hs, hint, Bool.and_false, Bool.false_eq_true, if_false]
  refine answers_effect _ (State.runIf_true s hu _) heff ((Chg.refl.fresh.trans hchg).updPwr _ trivial)
    ⟨?_, ?_, ?_, ((Chg.refl.fresh.trans hchg).updPwr _ trivial).memKept⟩
  · rw [State.unitOn, State.bitOf_seal _ _ (by decide)]
    exact hon
  · rw [State.seal_pwr]
    rfl
  · rw [State.seal_pwr]
    exact (congrArg Pwr.stagingUnit hpwr).trans hs

/-- The interval's end after power-good starts the next unit (R505). -/
theorem answers_stageIntervalExpiry (s : State) (u v : Nat) (hs : s.pwr.stagingUnit = some u) (hpg : s.pwr.stagePg = true)
    (hv : (unitsAfter u).find? s.unitStages = some v) :
    Answers .stageIntervalExpiry s fun t =>
      t.pwr.stagingUnit = some v ∧ t.pwr.stagePg = false ∧ t.pwr.stageInt = false ∧ Framed [] [.pwr] s t := by
  set e := s.fresh.updPwr (fun p => { p with stageInt := true }) with he
  have hu : (s.fresh.when s.pwr.stagingUnit.isSome fun s => (s.updPwr fun p => { p with stageInt := true }).stageStep) =
      e.updPwr fun p => { p with stagingUnit := some v, stagePg := false, stageInt := false } := by
    have hes : e.pwr.stagingUnit = some u := hs
    have heg : (e.pwr.stagePg && e.pwr.stageInt) = true := by simp [he, hpg, State.fresh, State.updPwr]
    have hev : (unitsAfter u).find? e.unitStages = some v := hv
    rw [hs, Option.isSome_some, State.when_true, ← he]
    simp only [State.stageStep, hes, if_pos heg, State.stageNext, hev]
  have hframe : Chg (Listed []) (Parts [.pwr]) NoMem s
      (e.updPwr fun p => { p with stagingUnit := some v, stagePg := false, stageInt := false }) := by simp [he]
  exact answers_effect _ rfl hu hframe ⟨by rw [State.seal_pwr]; rfl, by rw [State.seal_pwr]; rfl, by rw [State.seal_pwr]; rfl, hframe.framed⟩

/-! ### Units that fail -/

theorem vital_iff (u : Nat) : vitalUnit u = true ↔ u ∈ [1, 2, 3, 7] := by
  simp [vitalUnit]
  tauto

theorem hasUnit_lt {v : Variant} {u : Nat} (h : hasUnit v u = true) : u < 15 := by
  simp only [hasUnit, Bool.and_eq_true, Nat.ble_eq] at h
  omega

theorem State.staging_of (s : State) (u : Nat) (hst : s.fld F.SYS_MOD_STATE_STATE = 2) (hs : s.pwr.stagingUnit = some u)
    (hpg : s.pwr.stagePg = false) : (s.fresh.modState == stStaging && s.fresh.pwr.stagingUnit == some u && !s.fresh.pwr.stagePg) = true := by
  rw [show s.fresh.modState = stStaging from hst]
  simp [State.fresh, hs, hpg]

/-- No power-good of U1, U2, U3 or U7 within its time fails the whole start (R506). -/
theorem answers_unitPowerGoodTimeout_vital (s : State) (u : Nat) (hu : hasUnit s.variant u = true)
    (hst : s.fld F.SYS_MOD_STATE_STATE = 2) (hs : s.pwr.stagingUnit = some u) (hpg : s.pwr.stagePg = false) (hv : u ∈ [1, 2, 3, 7]) :
    Answers (.unitPowerGoodTimeout u) s fun t =>
      t.fld F.SYS_MOD_STATE_STATE = 1 ∧ t.bitOf F.PWR_UNIT_STATUS_FAILED u = true ∧ t.on F.PWR_STATUS_STAGE_FAIL = true ∧
      t.on F.PWR_EVT_UNIT_FAIL = true ∧ t.on F.PWR_EVT_STAGE_FAIL = true ∧ t.pwr.stageFails = s.pwr.stageFails + 1 ∧
      t.pwr.stagePermanent = Nat.ble 4 (s.pwr.stageFails + 1) := by
  set r := s.fresh.enterReset (s.fresh.fld F.SYS_MOD_STATE_LAST_CAUSE) 1 with hr
  have heff : s.fresh.powerBad u =
      ((((r.setBit F.PWR_UNIT_STATUS_FAILED u true).event F.PWR_EVT_UNIT_FAIL).set F.PWR_STATUS_STAGE_FAIL 1).event
        F.PWR_EVT_STAGE_FAIL).updPwr fun p => { p with
          stageFails := s.pwr.stageFails + 1, stagePermanent := Nat.ble 4 (s.pwr.stageFails + 1)
          stageWait := Nat.blt (s.pwr.stageFails + 1) 4 } := by
    rw [State.powerBad, if_pos (s.staging_of u hst hs hpg), if_pos ((vital_iff u).mpr hv)]
    rfl
  refine answers_run _ (State.runIf_true s hu _) heff (by simp [hr, State.fresh]) ⟨?_, ?_, ?_, ?_, ?_, by rw [State.seal_pwr]; rfl, by rw [State.seal_pwr]; rfl⟩
  · simp (disch := decide) only [State.fld_seal, State.fld_updPwr, State.fld_event_ne, State.fld_set_ne, State.fld_setBit_free]
    exact State.modState_enterReset _ _ 1
  · simp (disch := decide) only [State.fld_seal, State.bitOf, State.fld_updPwr, State.fld_event_ne, State.fld_set_ne]
    exact (State.bitOf_setBit r (by decide) (hasUnit_lt hu) true u).trans (if_pos rfl)
  · simp (disch := decide) only [State.fld_seal, State.on, State.fld_updPwr, State.fld_event_ne, State.fld_set_same]
    rfl
  · simp (disch := decide) only [State.on_seal, State.on_updPwr, State.on_event_free, State.on_set_free, State.on_event_same]
  · simp (disch := decide) only [State.on_seal, State.on_updPwr, State.on_event_same]

/-- Another unit that fails (R506). -/
theorem State.unitFail_shows (s : State) (u : Nat) (hu : u < 15) :
    (s.unitFail u).bitOf F.PWR_UNIT_STATUS_FAILED u = true ∧ (s.unitFail u).on F.PWR_EVT_UNIT_FAIL = true ∧
      (s.unitFail u).pwr.stagingUnit = s.pwr.stagingUnit ∧ (s.unitFail u).pwr.stageInt = s.pwr.stageInt ∧
      Chg (Listed [A.PWR_UNIT_STATUS, A.PWR_EVT, A.MGMT_CFG_STATUS]) (Parts [.pwr, .mgmt]) NoMem s (s.unitFail u) := by
  set e := (s.setBit F.PWR_UNIT_STATUS_FAILED u true).event F.PWR_EVT_UNIT_FAIL with he
  have h1 : e.bitOf F.PWR_UNIT_STATUS_FAILED u = true := by
    rw [State.bitOf, State.fld_event_ne (by decide)]
    exact (State.bitOf_setBit s (by decide) hu true u).trans (if_pos rfl)
  have h2 : e.on F.PWR_EVT_UNIT_FAIL = true := State.on_event_same _ (by decide)
  have hchg : Chg (Listed [A.PWR_UNIT_STATUS, A.PWR_EVT, A.MGMT_CFG_STATUS]) (Parts [.pwr, .mgmt]) NoMem s e := by simp [he]
  have hs1 : e.pwr.stagingUnit = s.pwr.stagingUnit := by simp [he]
  have hs2 : e.pwr.stageInt = s.pwr.stageInt := by simp [he]
  unfold State.unitFail
  dsimp only
  rw [← he]
  split
  · simp (disch := decide) only [State.bitOf, State.on, State.fld_requestSave_ne, State.fld_updPwr, State.requestSave_pwr]
    exact ⟨h1, h2, hs1, hs2, by simpa using hchg⟩
  · exact ⟨h1, h2, hs1, hs2, hchg.updPwr _ (by simp)⟩

/-- No power-good of another unit within its time fails that unit alone (R506). -/
theorem answers_unitPowerGoodTimeout (s : State) (u : Nat) (hu : hasUnit s.variant u = true)
    (hst : s.fld F.SYS_MOD_STATE_STATE = 2) (hs : s.pwr.stagingUnit = some u) (hpg : s.pwr.stagePg = false)
    (hint : s.pwr.stageInt = false) (hv : u ∉ [1, 2, 3, 7]) :
    Answers (.unitPowerGoodTimeout u) s fun t =>
      t.fld F.SYS_MOD_STATE_STATE = 2 ∧ t.bitOf F.PWR_UNIT_STATUS_FAILED u = true ∧ t.on F.PWR_EVT_UNIT_FAIL = true ∧
      Framed [A.PWR_UNIT_STATUS, A.PWR_EVT, A.MGMT_CFG_STATUS] [.pwr, .mgmt] s t := by
  obtain ⟨h1, h2, h3, h4, hc⟩ := State.unitFail_shows s.fresh u (hasUnit_lt hu)
  have heff : s.fresh.powerBad u = (s.fresh.unitFail u).updPwr fun p => { p with stagePg := true } := by
    have hi : (s.fresh.unitFail u).pwr.stageInt = false := h4.trans hint
    have hsu : (s.fresh.unitFail u).pwr.stagingUnit = some u := h3.trans hs
    rw [State.powerBad, if_pos (s.staging_of u hst hs hpg), if_neg (mt (vital_iff u).mp hv)]
    simp only [State.stageStep, State.updPwr, hsu, hi, Bool.and_false, Bool.false_eq_true, if_false]
  have hchg : Chg (Listed [A.PWR_UNIT_STATUS, A.PWR_EVT, A.MGMT_CFG_STATUS]) (Parts [.pwr, .mgmt]) NoMem s
    ((s.fresh.unitFail u).updPwr fun p => { p with stagePg := true }) := (Chg.refl.fresh.trans hc).updPwr _ (by simp)
  refine answers_effect _ (State.runIf_true s hu _) heff hchg ⟨?_, ?_, ?_, hchg.framed⟩
  · rw [State.fld_seal _ _ (by decide), hchg.fld_off (by decide), hst]
  · rw [State.bitOf_seal _ _ (by decide)]
    exact h1
  · rw [State.on_seal _ _ (by decide)]
    exact h2

/-! ### Retries -/

/-- A retry of the start falls due (R506). -/
theorem answers_stageRetryTimer_start (s : State) (hw : s.pwr.stageWait = true) :
    Answers (.stageRetryTimer 0) s fun t =>
      t.pwr.stageWait = false ∧ t.on F.PWR_STATUS_STAGE_FAIL = false ∧ PwrStatusKept [F.PWR_STATUS_STAGE_FAIL] s t ∧
      Framed [] [.pwr] s t := by
  have hframe : Chg (Listed []) (Parts [.pwr]) NoMem s
      ((s.fresh.updPwr fun p => { p with stageWait := false }).set F.PWR_STATUS_STAGE_FAIL 0) := by simp
  have hu : s.fresh.stageRetry 0 = (s.fresh.updPwr fun p => { p with stageWait := false }).set F.PWR_STATUS_STAGE_FAIL 0 := by
    simp [State.stageRetry, State.when, hw]
  refine answers_effect _ rfl hu hframe ⟨by simp [State.updPwr], ?_, pwrStatusKept_of_fld fun g _ hg => ?_, hframe.framed⟩
  · rw [State.on_seal _ _ (by decide), State.on_set_same _ (by decide)]
    rfl
  · rw [State.fld_set_free _ (hg _ (by simp))]
    rfl

theorem Sparse.find_isSome_of_mem {α : Type} {l : List (Nat × α)} {a : Nat} {v : α} (h : (a, v) ∈ l) : (Sparse.find l a).isSome := by
  induction l with
  | nil => cases h
  | cons c l ih =>
    obtain ⟨k, w⟩ := c
    unfold Sparse.find
    split
    · rfl
    · next hk =>
      rcases List.mem_cons.mp h with h | h
      · exact absurd (Prod.mk.inj h).1.symm hk
      · exact ih h

/-- A retry of a unit falls due (R506). -/
theorem answers_stageRetryTimer_unit (s : State) (u : Nat) (hu : u ≠ 0) (hst : 3 ≤ s.fld F.SYS_MOD_STATE_STATE)
    (hf : ∃ n, (u, n) ∈ s.pwr.unitFails) (ht : s.pwr.unitTry = none) :
    Answers (.stageRetryTimer u) s fun t => t.pwr.unitTry = some u ∧ Framed [] [.pwr] s t := by
  obtain ⟨n, hn⟩ := hf
  have hframe : Chg (Listed []) (Parts [.pwr]) NoMem s (s.fresh.updPwr fun p => { p with unitTry := some u }) := by simp
  have hg : (Nat.ble 3 s.fresh.modState && (Sparse.find s.fresh.pwr.unitFails u).isSome && s.fresh.pwr.unitTry.isNone) = true := by
    simp only [State.fresh, Sparse.find_isSome_of_mem hn, ht, Option.isNone_none, Bool.and_true, Nat.ble_eq]
    exact hst
  have heff : s.fresh.stageRetry u = s.fresh.updPwr fun p => { p with unitTry := some u } := by
    rw [State.stageRetry, if_neg hu, if_pos hg]
  exact answers_effect _ rfl heff hframe ⟨by rw [State.seal_pwr]; rfl, hframe.framed⟩

theorem chg_pwrRetry (s : State) :
    Chg (Listed [A.PWR_UNIT_STATUS, A.MGMT_CFG_STATUS]) (Parts [.pwr, .mgmt]) NoMem s s.pwrRetry := by
  simp only [State.pwrRetry, State.when]
  split <;> simp

/-- PWR.CTL.RETRY clears the failures (R506). -/
theorem answers_pwrCtlRetry (s : State) (m : Master) (priv : Bool) (hd : Direct s m priv A.PWR_CTL) :
    Answers (.pwrCtlRetry m priv) s fun t =>
      t.fld F.PWR_UNIT_STATUS_FAILED = 0 ∧ t.on F.PWR_STATUS_STAGE_FAIL = false ∧ t.pwr.retiredUnits = 0 ∧ t.pwr.stageFails = 0 ∧
      t.pwr.stagePermanent = false ∧ Framed [A.PWR_UNIT_STATUS, A.MGMT_CFG_STATUS] [.pwr, .mgmt] s t := by
  have hu : s.fresh.strike m priv A.PWR_CTL 4 = s.fresh.pwrRetry := by
    rw [hd.strike fun v => by cases v <;> decide]
    rfl
  have hpwr : (s.seal s.fresh.pwrRetry).pwr = { s.pwr with
      retiredUnits := 0, unitFails := [], stageFails := 0, stagePermanent := false, stageWait := false } := by
    rw [State.seal_pwr]
    simp only [State.pwrRetry, State.when]
    split <;> simp [State.updPwr, State.fresh]
  have hframe := Chg.refl.fresh.trans (chg_pwrRetry s.fresh)
  have hread (g : Fld) (hg : g.adr ≠ A.MGMT_CFG_STATUS) : s.fresh.pwrRetry.fld g =
      ((s.fresh.set F.PWR_UNIT_STATUS_FAILED 0).set F.PWR_STATUS_STAGE_FAIL 0).fld g := by
    unfold State.pwrRetry
    exact State.fld_when _ _ (State.fld_requestSave_ne hg)
  refine answers_effect _ rfl hu hframe ⟨?_, ?_, ?_, ?_, ?_, hframe.framed⟩
  · rw [State.fld_seal _ _ (by decide), hread _ (by decide), State.fld_set_ne _ _ (by decide), State.fld_set_same _ (by decide)]
    rfl
  · rw [State.on_seal _ _ (by decide), State.on, hread _ (by decide), State.fld_set_same _ (by decide)]
    rfl
  · rw [hpwr]
  · rw [hpwr]
  · rw [hpwr]

/-- Settles O14. -/
theorem staging : Obligations.Staging :=
  ⟨answers_unitPowerGood, answers_stageIntervalExpiry, answers_unitPowerGoodTimeout_vital, answers_unitPowerGoodTimeout,
    answers_stageRetryTimer_start, answers_stageRetryTimer_unit, answers_pwrCtlRetry⟩

end Sys2Proof.Machine
end

section
/-! PROOFS. Words written whole, and what a loop over objects does to one of them. -/

namespace Sys2Proof.Machine

/-! ### Loops over objects -/

/-- What a loop does to what is read of one object: only that object's turn matters to it. -/
theorem forN_at {α : Type} (r : State → α) (p : α → Prop) (n k : Nat) (f : Nat → State → State) (s : State) (hk : k < n)
    (hne : ∀ i < n, i ≠ k → ∀ t, r (f i t) = r t) (heq : ∀ t, r t = r s → p (r (f k t))) : p (r (forN n f s)) := by
  have hloop (j : Nat) (hj : j ≤ n) : (j ≤ k → r (forN j f s) = r s) ∧ (k < j → p (r (forN j f s))) := by
    induction j with
    | zero => exact ⟨fun _ => rfl, fun h => absurd h (Nat.not_lt_zero k)⟩
    | succ j ih =>
      have hstep : forN (j + 1) f s = f j (forN j f s) := by
        unfold forN
        rw [List.range_succ, List.foldl_append]
        rfl
      obtain ⟨h1, h2⟩ := ih (by omega)
      rw [hstep]
      refine ⟨fun h => (hne j (by omega) (by omega) _).trans (h1 (by omega)), fun h => ?_⟩
      by_cases hjk : j = k
      · subst hjk
        exact heq _ (h1 (Nat.le_refl j))
      · rw [hne j (by omega) hjk]
        exact h2 (by omega)
  exact (hloop n (Nat.le_refl n)).2 hk

/-- What every turn of a loop leaves is left by the loop. -/
theorem forN_same {α : Type} (r : State → α) (n : Nat) (f : Nat → State → State) (s : State) (h : ∀ i < n, ∀ t, r (f i t) = r t) :
    r (forN n f s) = r s :=
  forN_induction (p := fun t => r t = r s) n f (fun i hi t ht => (h i hi t).trans ht) rfl

/-! ### Words -/

/-- A register that holds nothing: every bit of a word written to it starts a command. -/
def Row.commands (r : Row) (a n : Nat) : Bool :=
  Nat.blt n (2 ^ 32) && n != 0 && a % 4 == 0 && a != A.TEST_CTL && r.w1c == 0 && r.rw == 0 && r.rsv == 0 && !isPlaceAdr a &&
    n &&& (r.sc ||| r.wo) &&& 0xFFFFFFFF == n && ((domainOf a).isNone || r.rwp != 0)

/-- In every variant the register takes the command. -/
abbrev Commands (a n : Nat) : Prop := ∀ v, (rowAt v a).any (fun r => r.commands a n) = true

/-- A command written to a command register starts it, in the state a meaning starts from. -/
theorem Direct.command {s : State} {m : Master} {priv : Bool} {a n : Nat} (h : Direct s m priv a) (hr : Commands a n) :
    s.fresh.word m priv a n = s.fresh.regEffect m (s.masterPriv m priv) a (s.reg a) n := by
  obtain ⟨r, hrow, hs⟩ := (Option.any_eq_true _ _).mp (hr s.variant)
  simp only [Row.commands, Bool.and_eq_true, beq_iff_eq, bne_iff_ne, ne_eq] at hs
  obtain ⟨⟨⟨⟨⟨⟨⟨⟨⟨h1, h2⟩, h3⟩, h4⟩, h5⟩, h6⟩, h7⟩, h8⟩, h9⟩, h10⟩ := hs
  have htakes : r.takes a (s.fresh.rd a) n = true := by
    simp only [Row.takes, h1, h3, h5, h7, h8, h10, Nat.and_zero, beq_self_eq_true, Bool.and_true, Bool.true_and]
    simpa using h4
  have hmerged : r.merged (s.fresh.rd a) n = s.fresh.rd a := by
    simp [Row.merged, h6, clearBits]
  have hd : Direct s.fresh m priv a := h
  rw [State.word_direct s.fresh m priv a n r hd hrow htakes, hmerged, State.keepWord_self, h9]
  exact State.act_command s.fresh m _ a n hd.2.2 h2

end Sys2Proof.Machine
end

section
/-! PROOFS. Module commands and the state changes that follow by themselves (R14, R17 to R20, R39, R509, R511, R533). -/

namespace Sys2Proof.Machine

/-! ### A module state entered -/

/-- A state shown, with its cause, the event and the log record (R19). -/
def State.showState (s : State) (st cause : Nat) : State :=
  (((s.set F.SYS_MOD_STATE_STATE st).set F.SYS_MOD_STATE_LAST_CAUSE cause).event F.SYS_EVT_STATE_CHG).log 0 1 0 [s.modState, st, cause]

theorem State.enterState_idle (s : State) (st cause : Nat) (h : s.test.running = none) : s.enterState st cause = s.showState st cause := by
  have ht : (s.showState st cause).test.running = none := by simpa [State.showState] using h
  unfold State.enterState
  change (match (s.showState st cause).test.running with
    | none => s.showState st cause
    | some b => (s.showState st cause).when (!(s.showState st cause).testAllowedIn b st) fun s => s.testAbort 3) = _
  rw [ht]

@[simp] theorem State.showState_mod (s : State) {st : Nat} (cause : Nat) (h : st < 8) : (s.showState st cause).fld F.SYS_MOD_STATE_STATE = st := by
  simp (disch := decide) only [State.showState, State.fld_log_ne, State.fld_event_ne, State.fld_set_free, State.fld_set_same]
  exact Nat.mod_eq_of_lt h

theorem State.showState_cause (s : State) (st : Nat) {cause : Nat} (h : cause < 16) :
    (s.showState st cause).fld F.SYS_MOD_STATE_LAST_CAUSE = cause := by
  simp (disch := decide) only [State.showState, State.fld_log_ne, State.fld_event_ne, State.fld_set_same]
  exact Nat.mod_eq_of_lt h

theorem State.showState_event (s : State) (st cause : Nat) : (s.showState st cause).on F.SYS_EVT_STATE_CHG = true := by
  simp (disch := decide) only [State.showState, State.on, State.fld_log_ne, State.event, State.fld_set_same]
  rfl

theorem State.showState_free (s : State) (st cause : Nat) {g : Fld} (h1 : Fld.free F.SYS_MOD_STATE_STATE g = true)
    (h2 : Fld.free F.SYS_MOD_STATE_LAST_CAUSE g = true) (h3 : g.adr ≠ A.SYS_EVT) (h4 : g.adr ≠ A.MGMT_EVT) :
    (s.showState st cause).fld g = s.fld g := by
  rw [State.showState, State.fld_log_ne _ _ _ _ h4, State.fld_event_ne h3, State.fld_set_free _ h2, State.fld_set_free _ h1]

/-- What a state's entry may change. -/
theorem chg_showState (s : State) (st cause : Nat) :
    Chg (Listed [A.SYS_MOD_STATE, A.SYS_EVT, A.MGMT_EVT]) (Parts [.mgmt]) NoMem s (s.showState st cause) := by simp [State.showState]

/-! ### The registers of the cores and of the TDM ports -/

def coreRegs : List Nat := (List.range 16).map A.ENG_CORE_STATUS
def tdmRegs : List Nat := (List.range 8).map A.TDM_STATUS

theorem coreStatus_mem {n : Nat} (h : n < 16) : A.ENG_CORE_STATUS n ∈ coreRegs := List.mem_map.mpr ⟨n, List.mem_range.mpr h, rfl⟩
theorem tdmStatus_mem {n : Nat} (h : n < 8) : A.TDM_STATUS n ∈ tdmRegs := List.mem_map.mpr ⟨n, List.mem_range.mpr h, rfl⟩

theorem coreStatus_ne {i k : Nat} (h : i ≠ k) : A.ENG_CORE_STATUS k ≠ A.ENG_CORE_STATUS i := by
  unfold A.ENG_CORE_STATUS
  omega

theorem tdmStatus_ne {i k : Nat} (h : i ≠ k) : A.TDM_STATUS k ≠ A.TDM_STATUS i := by
  unfold A.TDM_STATUS
  omega

theorem coreStatus_kept {n : Nat} (h : n < 16) : (F.ENG_CORE_STATUS_STATE n).kept = true := by interval_cases n <;> decide
theorem tdmGain_kept {n : Nat} (h : n < 8) : (F.TDM_STATUS_GAIN_STATE n).kept = true := by interval_cases n <;> decide
theorem coreStatus_not_mem {n : Nat} (h : n < 16) : A.ENG_CORE_STATUS n ∉ tdmRegs ++ [A.SYS_MOD_STATE, A.SYS_EVT, A.MGMT_EVT] ++ summaries := by
  interval_cases n <;> decide
theorem tdmStatus_not_mem {n : Nat} (h : n < 8) : A.TDM_STATUS n ∉ [A.SYS_MOD_STATE, A.SYS_EVT, A.MGMT_EVT] ++ summaries := by
  interval_cases n <;> decide

theorem State.tdmPorts_le (s : State) : s.tdmPorts ≤ 8 := by
  unfold State.tdmPorts
  cases s.variant <;> decide

section
variable {R : Nat → Prop} {P : Part → Prop} {M : Nat → Prop} {s t : State}

theorem Chg.tpUpd (h : Chg R P M s t) (n : Nat) (f : TdmPort → TdmPort) (hp : P .tdm) : Chg R P M s (t.tpUpd n f) := h.tdm _ hp
@[simp] theorem chg_tpUpd (n : Nat) (f : TdmPort → TdmPort) (hp : P .tdm) : Chg R P M s (t.tpUpd n f) ↔ Chg R P M s t :=
  Chg.iff_of (Chg.refl.tpUpd n f hp)

end

@[simp] theorem State.reg_tpUpd (s : State) (n : Nat) (f : TdmPort → TdmPort) (a : Nat) : (s.tpUpd n f).reg a = s.reg a := rfl
@[simp] theorem State.fld_tpUpd (s : State) (n : Nat) (f : TdmPort → TdmPort) (g : Fld) : (s.tpUpd n f).fld g = s.fld g := rfl

/-! ### The trigger starts -/

/-- The trigger's start changes the core states, once the trigger is on or off. -/
theorem chg_setTrigger (s : State) (on : Bool) :
    Chg (Listed coreRegs) (Parts []) NoMem (s.updPwr fun p => { p with trig := on }) (s.setTrigger on) := by
  refine Chg.forN _ _ (fun n hn t ht => ?_) Chg.refl
  have hR : Listed coreRegs (F.ENG_CORE_STATUS_STATE n).adr := .inl (coreStatus_mem (Nat.lt_of_lt_of_le hn s.cores_le))
  split
  · exact ht.when _ _ fun _ => ht.set _ _ hR
  · exact ht.when _ _ fun _ => ht.set _ _ hR

theorem State.setTrigger_trig (s : State) (on : Bool) : (s.setTrigger on).pwr.trig = on := by
  rw [show (s.setTrigger on).pwr = { s.pwr with trig := on } from (chg_setTrigger s on).part .pwr (by simp)]

/-- A core that was READY is ACTIVE once the trigger runs (R232). -/
theorem State.setTrigger_ready (s : State) {n : Nat} (hn : n < s.cores) (h : s.coreState n = 3) : (s.setTrigger true).coreState n = 4 := by
  unfold State.setTrigger
  refine forN_at (fun t => t.coreState n) (· = 4) s.cores n _ _ hn (fun i _ hi t => ?_) fun t ht => ?_
  · simp only [if_true]
    exact State.fld_when _ _ (State.fld_set_ne _ _ (coreStatus_ne hi))
  · have h3 : t.coreState n = 3 := ht.trans h
    simp only [if_true, h3]
    exact State.fld_set_same _ rfl 4

/-! ### The TDM ports fall silent, or fade -/

theorem chg_tdmAllSilent (s : State) : Chg (Listed tdmRegs) (Parts [.tdm]) NoMem s s.tdmAllSilent :=
  Chg.forN _ _ (fun _ hn _ ht => (ht.set _ _ (.inl (tdmStatus_mem (Nat.lt_of_lt_of_le hn s.tdmPorts_le)))).tpUpd _ _ (by simp)) Chg.refl

theorem State.tdmAllSilent_silent (s : State) {n : Nat} (hn : n < s.tdmPorts) : s.tdmAllSilent.fld (F.TDM_STATUS_GAIN_STATE n) = 2 := by
  unfold State.tdmAllSilent
  refine forN_at (fun t => t.fld (F.TDM_STATUS_GAIN_STATE n)) (· = 2) s.tdmPorts n _ _ hn (fun i _ hi t => ?_) fun t _ => ?_
  · rw [State.fld_tpUpd, State.fld_set_ne _ _ (tdmStatus_ne hi)]
  · rw [State.fld_tpUpd, State.fld_set_same _ rfl]
    rfl

/-! ### RUN -/

/-- A start of RUN from READY (R19). -/
theorem startRun_inRun (s : State) {cause : Nat} (hc : cause < 16) (hr : s.test.running = none) {i : Instr} (f : State → State)
    (hx : exec i s = s.run f) (hu : f s.fresh = s.fresh.startRun cause) : Answers i s (InRun cause s) := by
  set e := s.fresh.set F.SYS_MOD_STATE_CMD_PEND 0 with he
  set v := e.showState 4 cause with hv
  have hstart : s.fresh.startRun cause = ((v.setTrigger true).tdmAllSilent) := by
    rw [State.startRun, State.enterState_idle _ _ _ (by simpa [he] using hr)]
    rfl
  rw [hstart] at hu
  have hshow : Chg (Listed [A.SYS_MOD_STATE, A.SYS_EVT, A.MGMT_EVT]) (Parts [.mgmt]) NoMem s v :=
    (Chg.refl.fresh.set _ _ (by simp)).trans (chg_showState e 4 cause)
  have htrig := chg_setTrigger v true
  have hsil := chg_tdmAllSilent (v.setTrigger true)
  have hread (g : Fld) (hg : g.adr ∉ coreRegs ++ summaries) (hg' : g.adr ∉ tdmRegs ++ summaries) :
      ((v.setTrigger true).tdmAllSilent).fld g = v.fld g := by
    rw [hsil.fld_off hg', htrig.fld_off hg, State.fld_updPwr]
  have hall : Chg AnyReg AnyPart NoMem s ((v.setTrigger true).tdmAllSilent) :=
    ((hshow.anywhere.updPwr _ trivial).trans htrig.anywhere).trans hsil.anywhere
  refine answers_effect f hx hu hall ⟨?_, ?_, ?_, ?_, ?_, fun n hn h3 => ?_, fun n hn => ?_, hall.memKept⟩
  · rw [State.fld_seal _ _ (by decide), hread _ (by decide) (by decide), hv, State.showState_mod _ _ (by decide)]
  · rw [State.fld_seal _ _ (by decide), hread _ (by decide) (by decide), hv, State.showState_cause _ _ hc]
  · rw [State.on_seal _ _ (by decide), State.on, hread _ (by decide) (by decide), hv,
      State.showState_free _ _ _ (by decide) (by decide) (by decide) (by decide), he, State.fld_set_same _ (by decide)]
    rfl
  · rw [State.on_seal _ _ (by decide), State.on, hread _ (by decide) (by decide)]
    exact State.showState_event _ _ _
  · rw [State.seal_pwr, show ((v.setTrigger true).tdmAllSilent).pwr = (v.setTrigger true).pwr from hsil.part .pwr (by simp)]
    exact State.setTrigger_trig v true
  · have hn16 : n < 16 := Nat.lt_of_lt_of_le hn s.cores_le
    have hn' : n < v.cores := by
      rw [State.cores, hshow.variant]
      exact hn
    rw [State.coreState, State.fld_seal _ _ (coreStatus_kept hn16), hsil.fld_off (fun h => coreStatus_not_mem hn16 (by
      rcases List.mem_append.mp h with h | h
      · exact List.mem_append_left _ (List.mem_append_left _ h)
      · exact List.mem_append_right _ h))]
    refine State.setTrigger_ready v hn' ?_
    rw [State.coreState, hshow.fld_off (fun h => coreStatus_not_mem hn16 (by
      rcases List.mem_append.mp h with h | h
      · exact List.mem_append_left _ (List.mem_append_right _ h)
      · exact List.mem_append_right _ h))]
    exact h3
  · have hn8 : n < 8 := Nat.lt_of_lt_of_le hn s.tdmPorts_le
    have hn' : n < (v.setTrigger true).tdmPorts := by
      rw [State.tdmPorts, htrig.variant, State.updPwr_variant, hshow.variant]
      exact hn
    rw [State.fld_seal _ _ (tdmGain_kept hn8)]
    exact State.tdmAllSilent_silent _ hn'

theorem State.runHeld_fresh (s : State) : s.fresh.runHeld = s.runHeld := rfl

/-- A RUN that nothing holds back in READY starts (R19). -/
theorem State.modRun_free (s : State) (cause : Nat) (hst : s.modState = stReady) (hf : RunFree s) : s.modRun cause = s.startRun cause := by
  obtain ⟨h1, h2, h3, h4, h5, h6, -⟩ := hf
  have hty (p : Nat → Bool) : s.testYield 2 p = s := by simp [State.testYield, h6]
  simp [State.modRun, hst, h1, h2, hty, h6, h3, h5, h4, stReady, stRun, stReset, stStaging]

/-- What a module command does with no bundle to lead. -/
theorem State.modCmd_direct (s : State) (m : Master) (priv : Bool) (n : Nat) (hn : 0 < n ∧ n < 8) (hd : Direct s m priv A.SYS_MOD_CMD)
    (hb : s.on F.SPLICE_CFG_MODE = false) : s.fresh.word m priv A.SYS_MOD_CMD n = s.fresh.modCmd n 3 := by
  have hc : Commands A.SYS_MOD_CMD n := fun v => by
    obtain ⟨h0, h8⟩ := hn
    interval_cases n <;> cases v <;> decide
  have hcode : F.SYS_MOD_CMD_CMD.of n = n := Nat.mod_eq_of_lt (by simpa [Fld.width] using hn.2)
  have heff : s.fresh.regEffect m (s.masterPriv m priv) A.SYS_MOD_CMD (s.reg A.SYS_MOD_CMD) n =
      (s.fresh.modCmd (F.SYS_MOD_CMD_CMD.of n) 3).when (F.SYS_MOD_CMD_CMD.of n != 0 && s.fresh.leads && s.on F.SPLICE_CFG_MODE)
        fun s => s.ctrlSend 1 (.modCmd (F.SYS_MOD_CMD_CMD.of n)) := rfl
  rw [hd.command hc, heff, hcode, hb, Bool.and_false, State.when_false]

/-- RUN in READY starts the EF trigger (R19). -/
theorem answers_modCmdRun_ready (s : State) (m : Master) (priv : Bool) (hd : Direct s m priv A.SYS_MOD_CMD)
    (hst : s.fld F.SYS_MOD_STATE_STATE = 3) (hf : RunFree s) : Answers (.modCmdRun m priv) s (InRun 3 s) := by
  obtain ⟨-, -, -, -, -, hr, hb⟩ := id hf
  refine startRun_inRun s (by decide) hr _ rfl ?_
  rw [State.modCmd_direct s m priv 4 (by decide) hd hb]
  exact State.modRun_free s.fresh 3 hst hf

/-- RUN in RESET is held (R19). -/
theorem answers_modCmdRun_reset (s : State) (m : Master) (priv : Bool) (hd : Direct s m priv A.SYS_MOD_CMD)
    (hst : s.fld F.SYS_MOD_STATE_STATE = 1) (hb : s.on F.SPLICE_CFG_MODE = false) :
    Answers (.modCmdRun m priv) s fun t =>
      t.on F.SYS_MOD_STATE_CMD_PEND = true ∧ t.fld F.SYS_MOD_STATE_STATE = 1 ∧ Framed [A.SYS_MOD_STATE] [.pwr] s t := by
  have hms : s.fresh.modState = stReset := hst
  have hu : s.fresh.word m priv A.SYS_MOD_CMD 4 = (s.fresh.set F.SYS_MOD_STATE_CMD_PEND 1).updPwr fun p => { p with heldCause := 3 } := by
    rw [State.modCmd_direct s m priv 4 (by decide) hd hb]
    simp [State.modCmd, State.modRun, hms, stReset, stRun, State.holdRun]
  have hframe : Chg (Listed [A.SYS_MOD_STATE]) (Parts [.pwr]) NoMem s
      ((s.fresh.set F.SYS_MOD_STATE_CMD_PEND 1).updPwr fun p => { p with heldCause := 3 }) := by simp
  refine answers_effect _ rfl hu hframe ⟨?_, ?_, hframe.framed⟩
  · rw [State.on_seal _ _ (by decide), State.on_updPwr, State.on_set_same _ (by decide)]
    rfl
  · rw [State.fld_seal _ _ (by decide), State.fld_updPwr, State.fld_set_free _ (by decide)]
    exact hst

/-- RUN in RUN has no effect (R19). -/
theorem answers_modCmdRun_run (s : State) (m : Master) (priv : Bool) (hd : Direct s m priv A.SYS_MOD_CMD)
    (hst : s.fld F.SYS_MOD_STATE_STATE = 4) (hb : s.on F.SPLICE_CFG_MODE = false) :
    Answers (.modCmdRun m priv) s (Framed [] [] s) := by
  have hms : s.fresh.modState = stRun := hst
  have hu : s.fresh.word m priv A.SYS_MOD_CMD 4 = s.fresh := by
    rw [State.modCmd_direct s m priv 4 (by decide) hd hb]
    simp [State.modCmd, State.modRun, hms]
  have hframe : Chg (Listed []) (Parts []) NoMem s s.fresh := by simp
  exact answers_effect _ rfl hu hframe hframe.framed

/-! ### Refusals -/

/-- A refused command (R18). -/
theorem answers_refuse {i : Instr} {s : State} (f : State → State) (cmd : Nat) {why : Nat} (hw : why < 2 ^ F.SYS_MOD_STATE_REFUSE_WHY.width) (hx : exec i s = s.run f)
    (hu : f s.fresh = s.fresh.refuse cmd why) :
    Answers i s fun t =>
      t.fld F.SYS_MOD_STATE_STATE = s.fld F.SYS_MOD_STATE_STATE ∧ t.on F.SYS_MOD_STATE_CMD_REFUSED = true ∧
      t.fld F.SYS_MOD_STATE_REFUSE_WHY = why ∧ Framed [A.SYS_MOD_STATE, A.MGMT_EVT] [.mgmt] s t := by
  have hframe : Chg (Listed [A.SYS_MOD_STATE, A.MGMT_EVT]) (Parts [.mgmt]) NoMem s (s.fresh.refuse cmd why) := by simp [State.refuse]
  refine answers_effect f hx hu hframe ⟨?_, ?_, ?_, hframe.framed⟩
  · simp (disch := decide) only [State.fld_seal, State.refuse, State.fld_log_ne, State.fld_set_free, State.fld_fresh]
  · simp (disch := decide) only [State.fld_seal, State.on, State.refuse, State.fld_log_ne, State.fld_set_free, State.fld_set_same]
    rfl
  · simp (disch := decide) only [State.fld_seal, State.refuse, State.fld_log_ne, State.fld_set_same]
    exact Nat.mod_eq_of_lt hw

/-- QUIET while a class 6 or 7 service is in force is refused for reason 2 (R18). -/
theorem answers_modCmdQuiet_class67 (s : State) (m : Master) (priv : Bool) (hd : Direct s m priv A.SYS_MOD_CMD)
    (hst : s.fld F.SYS_MOD_STATE_STATE = 4) (h67 : s.class67 = true) (hb : s.on F.SPLICE_CFG_MODE = false) :
    Answers (.modCmdQuiet m priv) s fun t =>
      t.fld F.SYS_MOD_STATE_STATE = 4 ∧ t.on F.SYS_MOD_STATE_CMD_REFUSED = true ∧ t.fld F.SYS_MOD_STATE_REFUSE_WHY = 2 ∧
      Framed [A.SYS_MOD_STATE, A.MGMT_EVT] [.mgmt] s t := by
  have hms : s.fresh.modState = stRun := hst
  have h67' : s.fresh.class67 = true := h67
  rw [← hst]
  refine answers_refuse _ 5 (by decide) rfl ?_
  rw [State.modCmd_direct s m priv 5 (by decide) hd hb]
  simp [State.modCmd, State.modQuiet, hms, h67', stRun, stQuiet]

/-- QUIET in READY is refused for reason 1 (R18). -/
theorem answers_modCmdQuiet_ready (s : State) (m : Master) (priv : Bool) (hd : Direct s m priv A.SYS_MOD_CMD)
    (hst : s.fld F.SYS_MOD_STATE_STATE = 3) (hb : s.on F.SPLICE_CFG_MODE = false) :
    Answers (.modCmdQuiet m priv) s fun t =>
      t.fld F.SYS_MOD_STATE_STATE = 3 ∧ t.on F.SYS_MOD_STATE_CMD_REFUSED = true ∧ t.fld F.SYS_MOD_STATE_REFUSE_WHY = 1 ∧
      Framed [A.SYS_MOD_STATE, A.MGMT_EVT] [.mgmt] s t := by
  have hms : s.fresh.modState = stReady := hst
  rw [← hst]
  refine answers_refuse _ 5 (by decide) rfl ?_
  rw [State.modCmd_direct s m priv 5 (by decide) hd hb]
  simp [State.modCmd, State.modQuiet, hms, stReady, stRun, stQuiet]

/-- An unused code is refused for reason 5 (R18). -/
theorem answers_modCmdInvalid (s : State) (m : Master) (priv : Bool) (code : Nat) (hd : Direct s m priv A.SYS_MOD_CMD)
    (hc : code ∈ [1, 2, 6, 7]) (hb : s.on F.SPLICE_CFG_MODE = false) :
    Answers (.modCmdInvalid code m priv) s fun t =>
      t.fld F.SYS_MOD_STATE_STATE = s.fld F.SYS_MOD_STATE_STATE ∧ t.on F.SYS_MOD_STATE_CMD_REFUSED = true ∧
      t.fld F.SYS_MOD_STATE_REFUSE_WHY = 5 ∧ Framed [A.SYS_MOD_STATE, A.MGMT_EVT] [.mgmt] s t := by
  have hcode : code = 1 ∨ code = 2 ∨ code = 6 ∨ code = 7 := by simpa using hc
  refine answers_refuse _ code (by decide) rfl ?_
  have hguard : (code == 1 || code == 2 || code == 6 || code == 7) = true := by simpa [or_assoc] using hcode
  have hcmd : s.fresh.modCmd code 3 = s.fresh.refuse code 5 := by
    rw [State.modCmd, if_neg (by omega), if_neg (by omega), if_neg (by omega), if_neg (by omega)]
  rw [hguard, State.when_true, State.modCmd_direct s m priv code (by omega) hd hb, hcmd]

/-! ### Every sounding port fades -/

/-- The registers that a port's fade may change. -/
def fadeRegs (n : Nat) : List Nat := [A.TDM_STATUS n, A.TDM_FADES n, A.TDM_SAT n, A.TDM_EVT, A.TDM_SENSE_OK]

def fadesRegs : List Nat := (List.range 8).flatMap fadeRegs

theorem fadeRegs_sub {n : Nat} (h : n < 8) {a : Nat} (ha : a ∈ fadeRegs n) : a ∈ fadesRegs :=
  List.mem_flatMap.mpr ⟨n, List.mem_range.mpr h, ha⟩

theorem tdmStatus_notMem_fadeRegs {i n : Nat} (hn : n < 8) (hi : i ≠ n) : A.TDM_STATUS n ∉ fadeRegs i := by
  simp only [fadeRegs, List.mem_cons, List.not_mem_nil, or_false, A.TDM_STATUS, A.TDM_FADES, A.TDM_SAT, A.TDM_EVT, A.TDM_SENSE_OK]
  omega

theorem satOf_fades {n : Nat} (h : n < 8) : (satOf (A.TDM_FADES n)).adr = A.TDM_SAT n ∧ (satOf (A.TDM_FADES n)).event = some F.TDM_EVT_CNT_SAT := by
  interval_cases n <;> exact ⟨rfl, rfl⟩

section
variable {R : Nat → Prop} {P : Part → Prop} {M : Nat → Prop} {s t : State}

theorem Chg.incFades (h : Chg R P M s t) {n : Nat} (hn : n < 8) (hr : ∀ a ∈ fadeRegs n, R a) : Chg R P M s (t.inc (A.TDM_FADES n)) := by
  obtain ⟨h1, h2⟩ := satOf_fades hn
  refine h.inc _ (hr _ (by simp [fadeRegs])) (by rw [h1]; exact hr _ (by simp [fadeRegs])) fun f hf => ?_
  rw [h2, Option.mem_some_iff] at hf
  subst hf
  exact hr _ (by simp [fadeRegs])

theorem Chg.senseDrop (h : Chg R P M s t) (n : Nat) (hr : R A.TDM_SENSE_OK) (hp : P .tdm) : Chg R P M s (t.senseDrop n) :=
  (h.tpUpd _ _ hp).setBit _ _ _ hr

theorem Chg.tdmFadeOnly (h : Chg R P M s t) {n : Nat} (hn : n < 8) (hr : ∀ a ∈ fadeRegs n, R a) (hp : P .tdm) :
    Chg R P M s (t.tdmFadeOnly n) := by
  unfold State.tdmFadeOnly
  dsimp only
  split
  · exact ((h.tpUpd _ _ hp).set _ _ (hr _ (by simp [fadeRegs]))).incFades hn hr
  · exact h.tpUpd _ _ hp

theorem Chg.tdmCauseOn (h : Chg R P M s t) {n : Nat} (hn : n < 8) (cause : Nat) (hr : ∀ a ∈ fadeRegs n, R a) (hp : P .tdm) :
    Chg R P M s (t.tdmCauseOn n cause) :=
  (((h.tpUpd _ _ hp).tdmFadeOnly hn hr hp).senseDrop n (hr _ (by simp [fadeRegs])) hp)

theorem Chg.tdmStopFade (h : Chg R P M s t) (hr : ∀ a ∈ fadesRegs, R a) (hp : P .tdm) : Chg R P M s t.tdmStopFade := by
  refine Chg.forN _ _ (fun n hn v hv => hv.when _ _ fun _ => ?_) h
  have hn8 : n < 8 := Nat.lt_of_lt_of_le hn t.tdmPorts_le
  exact hv.tdmCauseOn hn8 _ (fun a ha => hr a (fadeRegs_sub hn8 ha)) hp

end

/-- A sounding port that fades (R332). -/
theorem State.tdmCauseOn_fades (s : State) (n cause : Nat) (h : s.fld (F.TDM_STATUS_GAIN_STATE n) = 0) (hn : n < 8) :
    (s.tdmCauseOn n cause).fld (F.TDM_STATUS_GAIN_STATE n) = 1 := by
  have hs : A.TDM_STATUS n ≠ A.TDM_SENSE_OK := by unfold A.TDM_STATUS A.TDM_SENSE_OK; omega
  have hf : A.TDM_STATUS n ≠ A.TDM_FADES n := by unfold A.TDM_STATUS A.TDM_FADES; omega
  have hsat : A.TDM_STATUS n ≠ A.TDM_SAT n := by unfold A.TDM_STATUS A.TDM_SAT; omega
  have he : A.TDM_STATUS n ≠ A.TDM_EVT := by unfold A.TDM_STATUS A.TDM_EVT; omega
  obtain ⟨h1, h2⟩ := satOf_fades hn
  rw [State.tdmCauseOn, State.tdmFade, State.senseDrop, State.fld_eq_of_reg (State.reg_setBit_ne _ _ _ _ hs), State.fld_tpUpd,
    State.tdmFadeOnly]
  dsimp only
  rw [State.fld_tpUpd, if_pos (.inl h)]
  refine (State.fld_eq_of_reg (State.reg_bump_other _ 1 hf (by rw [h1]; exact hsat) fun f hf => ?_)).trans ?_
  · rw [h2, Option.mem_some_iff] at hf
    subst hf
    exact he
  · exact State.fld_set_same _ rfl 1

theorem State.tdmStopFade_fades (s : State) {n : Nat} (hn : n < s.tdmPorts) (h : s.fld (F.TDM_STATUS_GAIN_STATE n) = 0) :
    s.tdmStopFade.fld (F.TDM_STATUS_GAIN_STATE n) = 1 := by
  have hn8 : n < 8 := Nat.lt_of_lt_of_le hn s.tdmPorts_le
  unfold State.tdmStopFade State.tdmCauseMask
  refine forN_at (fun t => t.fld (F.TDM_STATUS_GAIN_STATE n)) (· = 1) s.tdmPorts n _ _ hn (fun i hi hin t => ?_) fun t ht => ?_
  · have hi8 : i < 8 := Nat.lt_of_lt_of_le hi s.tdmPorts_le
    exact State.fld_when _ _ (((Chg.refl (M := NoMem)).tdmCauseOn (R := (· ∈ fadeRegs i)) (P := Parts [.tdm]) hi8 causeStop
      (fun a ha => ha) (by simp)).fld (tdmStatus_notMem_fadeRegs hn8 hin))
  · have hm : (0xFF : Nat).testBit n = true := by interval_cases n <;> decide
    rw [hm, State.when_true]
    exact State.tdmCauseOn_fades t n causeStop (ht.trans h) hn8

/-- QUIET in RUN fades every sounding port and shows QUIET at once (R19). -/
theorem answers_modCmdQuiet_run (s : State) (m : Master) (priv : Bool) (hd : Direct s m priv A.SYS_MOD_CMD)
    (hst : s.fld F.SYS_MOD_STATE_STATE = 4) (h67 : s.class67 = false) (hr : s.test.running = none)
    (hb : s.on F.SPLICE_CFG_MODE = false) :
    Answers (.modCmdQuiet m priv) s fun t =>
      t.fld F.SYS_MOD_STATE_STATE = 5 ∧ t.fld F.SYS_MOD_STATE_LAST_CAUSE = 3 ∧ t.pwr.quietEntry = true ∧ t.pwr.trig = s.pwr.trig ∧
      (∀ n < s.tdmPorts, s.fld (F.TDM_STATUS_GAIN_STATE n) = 0 → t.fld (F.TDM_STATUS_GAIN_STATE n) = 1) ∧ MemKept s t := by
  set v := (s.fresh.showState 5 3).updPwr fun p => { p with quietEntry := true } with hv
  have hu : s.fresh.word m priv A.SYS_MOD_CMD 5 = v.tdmStopFade := by
    have hms : s.fresh.modState = stRun := hst
    have h67' : s.fresh.class67 = false := h67
    rw [State.modCmd_direct s m priv 5 (by decide) hd hb]
    simp [State.modCmd, State.modQuiet, hms, h67', stRun, stQuiet, State.enterState_idle s.fresh _ _ hr, hv]
  have hshow := chg_showState s.fresh 5 3
  have hfade : Chg (Listed fadesRegs) (Parts [.tdm]) NoMem v v.tdmStopFade := Chg.refl.tdmStopFade (fun a ha => .inl ha) (by simp)
  have hall : Chg AnyReg AnyPart NoMem s v.tdmStopFade :=
    ((Chg.refl.fresh.trans hshow.anywhere).updPwr _ trivial).trans hfade.anywhere
  have hpwr : v.tdmStopFade.pwr = { s.pwr with quietEntry := true } := by
    rw [show v.tdmStopFade.pwr = v.pwr from hfade.part .pwr (by simp), hv, State.updPwr_self,
      show (s.fresh.showState 5 3).pwr = s.pwr from hshow.part .pwr (by simp)]
  refine answers_effect _ rfl hu hall ⟨?_, ?_, ?_, ?_, fun n hn h0 => ?_, hall.memKept⟩
  · rw [State.fld_seal _ _ (by decide), hfade.fld_off (by decide), hv, State.fld_updPwr, State.showState_mod _ _ (by decide)]
  · rw [State.fld_seal _ _ (by decide), hfade.fld_off (by decide), hv, State.fld_updPwr, State.showState_cause _ _ (by decide)]
  · rw [State.seal_pwr, hpwr]
  · rw [State.seal_pwr, hpwr]
  · have hn8 : n < 8 := Nat.lt_of_lt_of_le hn s.tdmPorts_le
    rw [State.fld_seal _ _ (tdmGain_kept hn8)]
    refine State.tdmStopFade_fades v ?_ ?_
    · rw [State.tdmPorts, hv, State.updPwr_variant, hshow.variant]
      exact hn
    · rw [hv, State.fld_updPwr, hshow.fld_off (tdmStatus_not_mem hn8)]
      exact h0

/-- READY in RUN fades every sounding port and shows READY at once (R19). -/
theorem answers_modCmdReady_run (s : State) (m : Master) (priv : Bool) (hd : Direct s m priv A.SYS_MOD_CMD)
    (hst : s.fld F.SYS_MOD_STATE_STATE = 4) (ht : s.pwr.trig = true) (hr : s.test.running = none)
    (hb : s.on F.SPLICE_CFG_MODE = false) :
    Answers (.modCmdReady m priv) s fun t =>
      t.fld F.SYS_MOD_STATE_STATE = 3 ∧ t.fld F.SYS_MOD_STATE_LAST_CAUSE = 3 ∧ t.on F.SYS_MOD_STATE_CMD_PEND = false ∧
      t.pwr.readyFade = true ∧ t.pwr.trig = true ∧
      (∀ n < s.tdmPorts, s.fld (F.TDM_STATUS_GAIN_STATE n) = 0 → t.fld (F.TDM_STATUS_GAIN_STATE n) = 1) ∧ MemKept s t := by
  set e := s.fresh.set F.SYS_MOD_STATE_CMD_PEND 0 with he
  set v := (e.showState 3 3).updPwr fun p => { p with readyFade := true } with hv
  have hshow : Chg (Listed [A.SYS_MOD_STATE, A.SYS_EVT, A.MGMT_EVT]) (Parts [.mgmt]) NoMem s (e.showState 3 3) :=
    (Chg.refl.fresh.set _ _ (by simp)).trans (chg_showState e 3 3)
  have hepwr : e.pwr = s.pwr := by simp [he, State.fresh]
  have hu : s.fresh.word m priv A.SYS_MOD_CMD 3 = v.tdmStopFade := by
    have hms : s.fresh.modState = stRun := hst
    have hidle := State.enterState_idle e 3 3 (by simpa [he, State.fresh] using hr)
    rw [State.modCmd_direct s m priv 3 (by decide) hd hb]
    simp only [State.modCmd, State.modReady, hms, ← he, hepwr, ht, stReady, hidle, ← hv]
    rfl
  have hfade : Chg (Listed fadesRegs) (Parts [.tdm]) NoMem v v.tdmStopFade := Chg.refl.tdmStopFade (fun a ha => .inl ha) (by simp)
  have hall : Chg AnyReg AnyPart NoMem s v.tdmStopFade := (hshow.anywhere.updPwr _ trivial).trans hfade.anywhere
  have hpwr : v.tdmStopFade.pwr = { s.pwr with readyFade := true } := by
    rw [show v.tdmStopFade.pwr = v.pwr from hfade.part .pwr (by simp), hv, State.updPwr_self,
      show (e.showState 3 3).pwr = s.pwr from hshow.part .pwr (by simp)]
  refine answers_effect _ rfl hu hall ⟨?_, ?_, ?_, ?_, ?_, fun n hn h0 => ?_, hall.memKept⟩
  · rw [State.fld_seal _ _ (by decide), hfade.fld_off (by decide), hv, State.fld_updPwr, State.showState_mod _ _ (by decide)]
  · rw [State.fld_seal _ _ (by decide), hfade.fld_off (by decide), hv, State.fld_updPwr, State.showState_cause _ _ (by decide)]
  · rw [State.on_seal _ _ (by decide), State.on, hfade.fld_off (by decide), hv, State.fld_updPwr,
      State.showState_free _ _ _ (by decide) (by decide) (by decide) (by decide), he, State.fld_set_same _ (by decide)]
    rfl
  · rw [State.seal_pwr, hpwr]
  · rw [State.seal_pwr, hpwr]
    exact ht
  · have hn8 : n < 8 := Nat.lt_of_lt_of_le hn s.tdmPorts_le
    rw [State.fld_seal _ _ (tdmGain_kept hn8)]
    refine State.tdmStopFade_fades v ?_ ?_
    · rw [State.tdmPorts, hv, State.updPwr_variant, hshow.variant]
      exact hn
    · rw [hv, State.fld_updPwr, hshow.fld_off (tdmStatus_not_mem hn8)]
      exact h0

/-- Settles O15. -/
theorem moduleCommands : Obligations.ModuleCommands :=
  ⟨answers_modCmdRun_ready, answers_modCmdRun_reset, answers_modCmdRun_run, answers_modCmdQuiet_run, answers_modCmdQuiet_class67,
    answers_modCmdQuiet_ready, answers_modCmdReady_run, answers_modCmdInvalid⟩

/-! ### State changes that follow by themselves -/

/-- A held RUN that nothing holds any more starts (R19). -/
theorem answers_runHoldRelease (s : State) (hp : s.on F.SYS_MOD_STATE_CMD_PEND = true) (hst : s.fld F.SYS_MOD_STATE_STATE = 3)
    (hc : s.pwr.heldCause < 16) (hf : RunFree s) : Answers .runHoldRelease s (InRun s.pwr.heldCause s) := by
  have hms : s.fresh.modState = stReady := hst
  have hp' : s.fresh.on F.SYS_MOD_STATE_CMD_PEND = true := hp
  obtain ⟨-, -, -, -, -, hr, -⟩ := id hf
  refine startRun_inRun s hc hr _ rfl ?_
  simp only [State.runRelease, hp', hms, beq_self_eq_true, Bool.true_or, Bool.and_true, State.when_true]
  exact State.modRun_free s.fresh s.pwr.heldCause hst hf

theorem chg_tdmOff (s : State) : Chg (Listed fadesRegs) (Parts [.tdm]) NoMem s s.tdmOff := by
  refine Chg.forN _ _ (fun n hn t ht => ?_) Chg.refl
  have hn8 : n < 8 := Nat.lt_of_lt_of_le hn s.tdmPorts_le
  have hstat : Listed fadesRegs (A.TDM_STATUS n) := .inl (fadeRegs_sub hn8 (by simp [fadeRegs]))
  exact (((ht.keep _ _ hstat).keep _ _ hstat).senseDrop n (.inl (by decide)) (by simp)).tpUpd _ _ (by simp)

/-- The end of a QUIET entry switches U12 off (R511). -/
theorem answers_quietEntryComplete (s : State) (hst : s.fld F.SYS_MOD_STATE_STATE = 5) (hq : s.pwr.quietEntry = true)
    (ht : s.pwr.trig = false) :
    Answers .quietEntryComplete s fun t =>
      t.fld F.SYS_MOD_STATE_STATE = 5 ∧ t.pwr.quietEntry = false ∧ t.unitOn 12 = false ∧ MemKept s t := by
  set v := (s.fresh.updPwr fun p => { p with quietEntry := false }).setBit F.PWR_UNIT_STATUS_POWERED 12 false with hv
  have hu : s.fresh.quietDone = v.tdmOff := by
    have hg : (s.fresh.modState == stQuiet && s.fresh.pwr.quietEntry && !s.fresh.pwr.trig) = true := by
      rw [show s.fresh.modState = stQuiet from hst]
      simp [State.fresh, hq, ht]
    rw [State.quietDone, if_pos hg]
  have hoff := chg_tdmOff v
  have hpre : Chg (Listed [A.PWR_UNIT_STATUS]) (Parts [.pwr]) NoMem s v := by simp [hv]
  have hall : Chg AnyReg AnyPart NoMem s v.tdmOff := hpre.anywhere.trans hoff.anywhere
  refine answers_effect _ rfl hu hall ⟨?_, ?_, ?_, hall.memKept⟩
  · rw [State.fld_seal _ _ (by decide), hoff.fld_off (by decide), hpre.fld_off (by decide), hst]
  · rw [State.seal_pwr, show v.tdmOff.pwr = v.pwr from hoff.part .pwr (by simp), hv, State.setBit_pwr, State.updPwr_self]
  · rw [State.unitOn, State.bitOf_seal _ _ (by decide), State.bitOf, hoff.fld_off (by decide)]
    exact (State.bitOf_setBit _ (by decide) (by decide) false 12).trans (if_pos rfl)

/-- The end of a wake brings U12 back and starts the EF trigger (R511). -/
theorem answers_wakeRestageComplete (s : State) (hw : s.pwr.wake = true) (ho : s.bus.owed = []) (h12 : s.unitStages 12 = true)
    (hf : s.bitOf F.PWR_UNIT_STATUS_FAILED 12 = false) :
    Answers .wakeRestageComplete s fun t =>
      t.pwr.wake = false ∧ t.pwr.trig = true ∧ t.unitOn 12 = true ∧ MemKept s t := by
  set v := (s.fresh.updPwr fun p => { p with wake := false, readyReturn := false }).setBit F.PWR_UNIT_STATUS_POWERED 12 true with hv
  have hu : s.fresh.wakeDone = (v.setTrigger true).tdmAllSilent := by
    have hg : (s.fresh.pwr.wake || s.fresh.pwr.readyReturn) = true := by simp [State.fresh, hw]
    have hstage : ((s.fresh.updPwr fun p => { p with wake := false, readyReturn := false }).unitStages 12 &&
        !((s.fresh.updPwr fun p => { p with wake := false, readyReturn := false }).fld F.PWR_UNIT_STATUS_FAILED).testBit 12) = true := by
      have h1 : (s.fresh.updPwr fun p => { p with wake := false, readyReturn := false }).unitStages 12 = true := h12
      have h2 : ((s.fresh.updPwr fun p => { p with wake := false, readyReturn := false }).fld F.PWR_UNIT_STATUS_FAILED).testBit 12 = false := hf
      rw [h1, h2]
      rfl
    have how : v.actOwed = v := State.actOwed_none v (by simpa [hv, State.fresh, State.updPwr] using ho)
    have hstart : s.fresh.pwr.wake = true := hw
    rw [State.wakeDone, if_pos hg]
    dsimp only
    rw [hstage, State.when_true, ← hv, how, hstart, State.when_true]
  have hpre : Chg (Listed [A.PWR_UNIT_STATUS]) (Parts [.pwr]) NoMem s v := by simp [hv]
  have htrig := chg_setTrigger v true
  have hsil := chg_tdmAllSilent (v.setTrigger true)
  have hall : Chg AnyReg AnyPart NoMem s ((v.setTrigger true).tdmAllSilent) :=
    ((hpre.anywhere.updPwr _ trivial).trans htrig.anywhere).trans hsil.anywhere
  have hpwr : ((v.setTrigger true).tdmAllSilent).pwr = { v.pwr with trig := true } := by
    rw [show ((v.setTrigger true).tdmAllSilent).pwr = (v.setTrigger true).pwr from hsil.part .pwr (by simp)]
    exact htrig.part .pwr (by simp)
  refine answers_effect _ rfl hu hall ⟨?_, ?_, ?_, hall.memKept⟩
  · rw [State.seal_pwr, hpwr, hv, State.setBit_pwr, State.updPwr_self]
  · rw [State.seal_pwr, hpwr]
  · rw [State.unitOn, State.bitOf_seal _ _ (by decide), State.bitOf, hsil.fld_off (by decide), htrig.fld_off (by decide), State.fld_updPwr]
    exact (State.bitOf_setBit _ (by decide) (by decide) true 12).trans (if_pos rfl)

/-- The FAULT_N pulse of factory defaults ends (R533). -/
theorem answers_cfgDefaultFaultPulseEnd (s : State) :
    Answers .cfgDefaultFaultPulseEnd s fun t => t.pwr.defaultPulse = false ∧ Framed [] [.pwr] s t := by
  have hframe : Chg (Listed []) (Parts [.pwr]) NoMem s (s.fresh.updPwr fun p => { p with defaultPulse := false }) := by simp
  exact answers_effect _ rfl rfl hframe ⟨by rw [State.seal_pwr]; rfl, hframe.framed⟩

/-! ### Entry to READY -/

theorem State.log_settings (s : State) (r c v : Nat) (p : List Nat) : (s.log r c v p).mgmt.settings = s.mgmt.settings := by
  simp only [State.log, State.logBy]
  split <;> rfl

theorem State.showState_settings (s : State) (st cause : Nat) : (s.showState st cause).mgmt.settings = s.mgmt.settings := by
  rw [State.showState, State.log_settings]
  simp

/-- With no test under way the bypass joins at once: it opens from closed or closing (R36, R39). -/
theorem State.bypassJoin_idle (s : State) (hr : s.test.running = none) (hi : s.test.reinit = none) :
    s.bypassJoin =
      ((s.updRing fun r => { r with join := .none }).set F.RING_BYPASS_STATUS_WAIT_S 0).when
        (((s.updRing fun r => { r with join := .none }).set F.RING_BYPASS_STATUS_WAIT_S 0).fld F.RING_BYPASS_STATUS_STATE == 0 ||
          ((s.updRing fun r => { r with join := .none }).set F.RING_BYPASS_STATUS_WAIT_S 0).fld F.RING_BYPASS_STATUS_STATE == 3)
        fun s => s.set F.RING_BYPASS_STATUS_STATE 1 := by
  have hy (p : Nat → Bool) : s.testYield 2 p = s := by simp [State.testYield, hr]
  simp [State.bypassJoin, hy, State.testBusy, hr, hi]

theorem chg_bypassJoin (s : State) (hr : s.test.running = none) (hi : s.test.reinit = none) :
    Chg (Listed [A.RING_BYPASS_STATUS]) (Parts [.ring]) NoMem s s.bypassJoin := by
  rw [State.bypassJoin_idle s hr hi]
  exact ((Chg.refl.updRing _ (by simp)).set _ _ (by simp)).when _ _ fun _ => ((Chg.refl.updRing _ (by simp)).set _ _ (by simp)).set _ _ (by simp)

theorem chg_joinPolicy (s : State) (hr : s.test.running = none) (hi : s.test.reinit = none) :
    Chg (Listed [A.RING_BYPASS_STATUS]) (Parts [.ring]) NoMem s s.joinPolicy := by
  have hk : Chg (Listed [A.RING_BYPASS_STATUS]) (Parts [.ring]) NoMem s (s.keep F.RING_BYPASS_STATUS_CLOSE_CAUSE s.closeCause) := by simp
  have htest : (s.keep F.RING_BYPASS_STATUS_CLOSE_CAUSE s.closeCause).test = s.test := hk.part .test (by simp)
  unfold State.joinPolicy
  dsimp only
  split
  · exact hk
  split
  · exact hk.trans (chg_bypassJoin _ (by rw [htest, hr]) (by rw [htest, hi]))
  split
  · exact (hk.set _ _ (by simp)).updRing _ (by simp)
  split <;> exact hk.updRing _ (by simp)

/-- Under policy 0 a closed bypass is commanded open (R39). -/
theorem State.joinPolicy_opens (s : State) (hr : s.test.running = none) (hi : s.test.reinit = none)
    (hp : s.fld F.RING_BYPASS_JOIN_POLICY = 0) (hf : s.on F.RING_BYPASS_CTL_FORCE_CLOSE = false) (hb : s.ringBlocked = false)
    (h0 : s.fld F.RING_BYPASS_STATUS_STATE = 0) : s.joinPolicy.fld F.RING_BYPASS_STATUS_STATE = 1 := by
  set k := s.keep F.RING_BYPASS_STATUS_CLOSE_CAUSE s.closeCause with hk
  have hchg : Chg (Listed [A.RING_BYPASS_STATUS]) (Parts []) NoMem s k := by simp [hk]
  have htest : k.test = s.test := hchg.part .test (by simp)
  have hjoin : s.joinPolicy = k.bypassJoin := by simp [State.joinPolicy, hf, hb, hp, hk]
  have hk0 : ((k.updRing fun r => { r with join := .none }).set F.RING_BYPASS_STATUS_WAIT_S 0).fld F.RING_BYPASS_STATUS_STATE = 0 := by
    rw [State.fld_set_free _ (by decide), State.fld_updRing, hk, State.fld_keep_free _ (by decide), h0]
  rw [hjoin, State.bypassJoin_idle k (by rw [htest, hr]) (by rw [htest, hi]), hk0]
  exact State.fld_set_same _ (by decide) 1

/-- The end of the start-up tests enters READY (R14, R39). -/
theorem answers_readyEntry (s : State) (hst : s.fld F.SYS_MOD_STATE_STATE = 2) (hd : s.test.startupDone = true)
    (himg : s.imageReady = true) (hp : s.on F.SYS_MOD_STATE_CMD_PEND = false) (ha : s.mgmt.settings.autoStart = false)
    (hr : s.test.running = none) (hi : s.test.reinit = none) :
    Answers .readyEntry s fun t =>
      t.fld F.SYS_MOD_STATE_STATE = 3 ∧ t.fld F.SYS_MOD_STATE_LAST_CAUSE = s.fld F.SYS_MOD_STATE_LAST_CAUSE ∧
      t.on F.SYS_EVT_STATE_CHG = true ∧
      (s.fld F.RING_BYPASS_JOIN_POLICY = 0 → s.on F.RING_BYPASS_CTL_FORCE_CLOSE = false → s.ringBlocked = false →
        s.fld F.RING_BYPASS_STATUS_STATE = 0 → t.fld F.RING_BYPASS_STATUS_STATE = 1) ∧ MemKept s t := by
  set v := s.fresh.showState 3 (s.fld F.SYS_MOD_STATE_LAST_CAUSE) with hv
  have hshow : Chg (Listed [A.SYS_MOD_STATE, A.SYS_EVT, A.MGMT_EVT]) (Parts [.mgmt]) NoMem s v := Chg.refl.fresh.trans (chg_showState _ _ _)
  have htest : v.test = s.test := hshow.part .test (by simp)
  have hjoin := chg_joinPolicy v (by rw [htest, hr]) (by rw [htest, hi])
  have hmgmt : v.joinPolicy.mgmt.settings.autoStart = false := by
    rw [show v.joinPolicy.mgmt = v.mgmt from hjoin.part .mgmt (by simp), hv, State.showState_settings]
    exact ha
  have hpend : v.joinPolicy.on F.SYS_MOD_STATE_CMD_PEND = false := by
    rw [hjoin.on_off (by decide), State.on, hv, State.showState_free _ _ _ (by decide) (by decide) (by decide) (by decide)]
    exact hp
  have hu : s.fresh.readyEntry = v.joinPolicy := by
    have hg : (s.fresh.modState == stStaging && s.fresh.test.startupDone && s.fresh.imageReady) = true := by
      rw [show s.fresh.modState = stStaging from hst, show s.fresh.imageReady = true from himg]
      simp [State.fresh, hd]
    have hidle : s.fresh.enterState stReady (s.fresh.fld F.SYS_MOD_STATE_LAST_CAUSE) = v := State.enterState_idle s.fresh _ _ hr
    rw [State.readyEntry, if_pos hg, hidle]
    simp [hpend, hmgmt]
  have hall : Chg AnyReg AnyPart NoMem s v.joinPolicy := hshow.anywhere.trans hjoin.anywhere
  refine answers_effect _ rfl hu hall ⟨?_, ?_, ?_, fun hpol hforce hblock h0 => ?_, hall.memKept⟩
  · rw [State.fld_seal _ _ (by decide), hjoin.fld_off (by decide), hv, State.showState_mod _ _ (by decide)]
  · rw [State.fld_seal _ _ (by decide), hjoin.fld_off (by decide), hv, State.showState_cause _ _ (s.fld_lt F.SYS_MOD_STATE_LAST_CAUSE)]
  · rw [State.on_seal _ _ (by decide), hjoin.on_off (by decide), hv, State.showState_event]
  · rw [State.fld_seal _ _ (by decide)]
    refine State.joinPolicy_opens v (by rw [htest, hr]) (by rw [htest, hi]) ?_ ?_ ?_ ?_
    · rw [hshow.fld_off (by decide), hpol]
    · rw [hshow.on_off (by decide), hforce]
    · rw [← hblock]
      simp only [State.ringBlocked, htest, hshow.fld_off (g := F.PWR_UNIT_STATUS_FAILED) (by decide),
        State.rd_eq_of_reg (hshow.reg A.TEST_RETIRED (by simp; decide))]
    · rw [hshow.fld_off (by decide), h0]

/-- Settles O16. -/
theorem stateChanges : Obligations.StateChanges :=
  ⟨answers_readyEntry, answers_runHoldRelease, answers_quietEntryComplete, answers_wakeRestageComplete,
    answers_cfgDefaultFaultPulseEnd⟩

end Sys2Proof.Machine
end

section
/-! PROOFS. What a link that goes down changes past the ring's own registers: its pools' counters, the time and the clock
(R29, R63, R66, R99, R129). -/

namespace Sys2Proof.Machine

/-- The registers past the ring's, but for the counters of lost links. -/
def PastRing (a : Nat) : Prop := 0x30000 ≤ a ∧ a ∉ [A.MSTAT_LINK_DOWN 0, A.MSTAT_LINK_DOWN 1, A.MSTAT_LINK_DOWN 2]

theorem pastRing_of_ge {a : Nat} (h : 0x40000 ≤ a) : PastRing a := by
  refine ⟨by omega, ?_⟩
  simp only [List.mem_cons, List.not_mem_nil, or_false, A.MSTAT_LINK_DOWN]
  omega

/-- A counter past the ring's registers saturates past them. -/
theorem satOf_pastRing {a : Nat} (h : 0x30000 ≤ a) : PastRing (satOf a).adr ∧ ∀ f ∈ (satOf a).event, PastRing f.adr := by
  have hp : 3 ≤ a / 0x10000 := by omega
  have hpage (x y : Nat) (h4 : a / 0x10000 ≠ 3) : PastRing (a - a % 0x10000 + x + y) := pastRing_of_ge (by omega)
  have hnone : ∀ f ∈ (none : Option Fld), PastRing f.adr := fun f hf => by cases hf
  have hsome (g : Fld) (hg : 0x40000 ≤ g.adr) : ∀ f ∈ some g, PastRing f.adr := fun f hf => by
    cases hf
    exact pastRing_of_ge hg
  unfold satOf
  dsimp only
  split
  case h_1 e => omega
  case h_2 =>
    split
    · refine ⟨⟨?_, ?_⟩, hnone⟩
      · simp only [A.MSTAT_SAT]; omega
      · simp only [List.mem_cons, List.not_mem_nil, or_false, A.MSTAT_LINK_DOWN, A.MSTAT_SAT]; omega
    · exact ⟨(show PastRing A.MSTAT_SAT_REC from ⟨by decide, by decide⟩), hnone⟩
  case h_3 => exact ⟨pastRing_of_ge (show 0x40000 ≤ A.TIME_SAT by decide), hnone⟩
  case h_4 e => split <;> exact ⟨hpage _ _ (by omega), hsome _ (by decide)⟩
  case h_5 e => split <;> exact ⟨hpage _ _ (by omega), hsome _ (by decide)⟩
  case h_11 h3 _ _ _ _ _ _ _ _ => exact ⟨hpage _ _ h3, hsome _ (by simp [A.HMQ_EVT]; omega)⟩
  all_goals next e => exact ⟨hpage _ _ (by omega), hsome _ (by decide)⟩


theorem Chg.bumpPast {R : Nat → Prop} {P : Part → Prop} {M : Nat → Prop} {s t : State} (h : Chg R P M s t)
    (hr : ∀ a, PastRing a → R a) {a : Nat} (ha : PastRing a) (n : Nat) : Chg R P M s (t.bump a n) := by
  obtain ⟨h1, h2⟩ := satOf_pastRing ha.1
  exact h.bump a n (hr a ha) (hr _ h1) fun f hf => hr _ (h2 f hf)

theorem txFrames_past (p : Nat) : PastRing (A.MSTAT_TX_FRAMES p) := by
  unfold PastRing
  simp only [A.MSTAT_TX_FRAMES, A.MSTAT_LINK_DOWN, List.mem_cons, List.not_mem_nil, or_false]
  omega
theorem txBlk64_past (p : Nat) : PastRing (A.MSTAT_TX_BLK64 p) := by
  unfold PastRing
  simp only [A.MSTAT_TX_BLK64, A.MSTAT_LINK_DOWN, List.mem_cons, List.not_mem_nil, or_false]
  omega
theorem txPause_past (p : Nat) : PastRing (A.MSTAT_TX_PAUSE p) := by
  unfold PastRing
  simp only [A.MSTAT_TX_PAUSE, A.MSTAT_LINK_DOWN, List.mem_cons, List.not_mem_nil, or_false]
  omega

/-! ### Pools -/

section
variable {P : Part → Prop} {M : Nat → Prop} {s t : State}

theorem Chg.rpUpd {R : Nat → Prop} (h : Chg R P M s t) (p : Nat) (f : RingPort → RingPort) (hp : P .ring) : Chg R P M s (t.rpUpd p f) :=
  h.updRing _ hp
@[simp] theorem chg_rpUpd {R : Nat → Prop} (p : Nat) (f : RingPort → RingPort) (hp : P .ring) : Chg R P M s (t.rpUpd p f) ↔ Chg R P M s t :=
  Chg.iff_of (Chg.refl.rpUpd p f hp)
@[simp] theorem chg_putOut {R : Nat → Prop} (o : Out) : Chg R P M s (t.putOut o) ↔ Chg R P M s t := Chg.iff_of (Chg.refl.out _)

theorem chg_countTx (hp : P .ring) (p len : Nat) : Chg PastRing P M s (t.countTx p len) ↔ Chg PastRing P M s t :=
  Chg.iff_of (((Chg.refl.bumpPast (fun _ h => h) (txFrames_past p) 1).bumpPast (fun _ h => h) (txBlk64_past p) _).rpUpd _ _ hp)

theorem Chg.sendPause (hp : P .ring) (h : Chg PastRing P M s t) (p quanta : Nat) : Chg PastRing P M s (t.sendPause p quanta) := by
  unfold State.sendPause
  split
  · exact (chg_putOut _).mpr (((chg_countTx hp p 64).mpr h).bumpPast (fun _ h => h) (txPause_past p) 1)
  · exact h

theorem Chg.poolCheck (hp : P .ring) (h : Chg PastRing P M s t) (p : Nat) : Chg PastRing P M s (t.poolCheck p) := by
  unfold State.poolCheck
  dsimp only
  split
  · exact h.when _ _ fun _ => (h.sendPause hp _ _).rpUpd _ _ hp
  split
  · exact (h.when _ _ fun _ => h.sendPause hp _ _).rpUpd _ _ hp
  · exact h

theorem Chg.poolFree (hp : P .ring) (h : Chg PastRing P M s t) (p n : Nat) : Chg PastRing P M s (t.poolFree p n) :=
  (h.rpUpd _ _ hp).poolCheck hp p

/-! ### References and ring paths -/

/-- What a clock's loss of its reference may change. -/
structure ClockParts (P : Part → Prop) : Prop where
  clk : P .clk
  mgmt : P .mgmt
  tdm : P .tdm

/-- The registers of CLK and past it. -/
theorem pastClk {a : Nat} (h : 0x50000 ≤ a) : PastRing a := pastRing_of_ge (by omega)

/-- The registers that the loss of a reference changes, but for the reference's own. -/
abbrev ClockLoss (a : Nat) : Prop :=
  a = A.CLK_REF_CTL ∨ a = A.CLK_REF_STATUS ∨ a = A.CLK_FCW ∨ a = A.CLK_HO_STATUS ∨ a = A.CLK_EVT ∨ 0xa0000 ≤ a

theorem ClockLoss.ge {a : Nat} (h : ClockLoss a) : 0x50000 ≤ a := by
  simp only [ClockLoss, A.CLK_REF_CTL, A.CLK_REF_STATUS, A.CLK_FCW, A.CLK_HO_STATUS, A.CLK_EVT] at h
  omega

section
variable {R : Nat → Prop} (hR : ∀ a, ClockLoss a → R a)
include hR

theorem chg_clkState (n : Nat) : Chg R P M s (t.clkState n) ↔ Chg R P M s t := by
  refine Chg.iff_of ?_
  unfold State.clkState
  split
  · exact Chg.refl
  · exact (Chg.refl.set _ _ (hR _ (by decide))).event _ (hR _ (by decide))

theorem Chg.autoSel (h : Chg R P M s t) (w : Bool) : Chg R P M s (t.autoSel w) := by
  unfold State.autoSel
  split
  · exact h
  · exact h.keep _ _ (hR _ (by decide))

theorem Chg.enterHoldover (hp : ClockParts P) (h : Chg R P M s t) : Chg R P M s t.enterHoldover := by
  unfold State.enterHoldover
  simp only
  have hb := ((h.set F.CLK_REF_STATUS_SEL 0 (hR _ (by decide))).set F.CLK_REF_STATUS_BW 0 (hR _ (by decide))).updClk
    (fun c => { c with awaitPhi := false }) hp.clk
  split
  · split
    · exact hb
    · refine Chg.log (((?_ : Chg R P M s _).event _ (hR _ (by decide))).updClk _ hp.clk) _ _ _ _ (hR _ (by decide)) hp.mgmt
      exact (chg_clkState hR _).mpr ((hb.wr _ _ (hR _ (by decide))).wr _ _ (hR _ (by decide)))
  · split
    · exact hb
    · exact (chg_clkState hR _).mpr ((hb.wr _ _ (hR _ (by decide))).wr _ _ (hR _ (by decide)))

theorem Chg.refInUseLost (hp : ClockParts P) (h : Chg R P M s t) : Chg R P M s t.refInUseLost := by
  have ha := Chg.autoSel hR h false
  unfold State.refInUseLost
  dsimp only
  split
  · split
    · exact (ha.wr _ _ (hR _ (by decide))).updClk _ hp.clk
    · exact ha.updClk _ hp.clk
  · exact Chg.enterHoldover hR hp ha

theorem tdm_past (a : Nat) (h : 0xa0000 ≤ a) : R a :=
  hR a (.inr (.inr (.inr (.inr (.inr h)))))

omit hR in
theorem Chg.tdmCauseMask (hT : ∀ a, 0xa0000 ≤ a → R a) (hp : P .tdm) (h : Chg R P M s t) (mask cause : Nat) (on : Bool) :
    Chg R P M s (t.tdmCauseMask mask cause on) := by
  refine Chg.forN _ _ (fun n hn v hv => hv.when _ _ fun _ => ?_) h
  have hn8 : n < 8 := Nat.lt_of_lt_of_le hn t.tdmPorts_le
  split
  · refine hv.tdmCauseOn hn8 _ (fun a ha => hT _ ?_) hp
    simp only [fadeRegs, List.mem_cons, List.not_mem_nil, or_false, A.TDM_STATUS, A.TDM_FADES, A.TDM_SAT, A.TDM_EVT, A.TDM_SENSE_OK] at ha
    omega
  · exact hv.tpUpd _ _ hp

omit hR in
theorem Chg.refUpd (h : Chg R P M s t) (r : Nat) (f : Ref → Ref) (hp : P .clk) : Chg R P M s (t.refUpd r f) :=
  h.updClk _ hp

/-- What follows the loss of a reference that was qualified (R130, R134). -/
def State.refGone (s : State) (was r why : Nat) : State :=
  if was = 2 then
    let s := s.event F.CLK_EVT_REF_LOST
    let s := s.when (r == 5 && (why == 1 || why == 2 || why == 3)) (fun s =>
      s.tdmCauseMask (s.rd A.CLK_WCK_PORTS) causeWck true)
    if s.refInUse = r ∧ !s.spliceMember then s.refInUseLost else s.autoSel false
  else s

theorem Chg.refGone (hp : ClockParts P) (h : Chg R P M s t) (was r why : Nat) : Chg R P M s (t.refGone was r why) := by
  have he := h.event F.CLK_EVT_REF_LOST (hR _ (by decide))
  unfold State.refGone
  dsimp only
  split
  · split
    · exact Chg.refInUseLost hR hp (he.when _ _ fun _ => Chg.tdmCauseMask (tdm_past hR) hp.tdm he _ _ _)
    · exact Chg.autoSel hR (he.when _ _ fun _ => Chg.tdmCauseMask (tdm_past hR) hp.tdm he _ _ _) false
  · exact h

end

/-- A reference shows that it is disqualified, and why. -/
def State.refFailed (s : State) (r why : Nat) : State :=
  ((s.set (F.CLK_REF_INFO_STATE r) 3).set (F.CLK_REF_INFO_WHY r) why).refUpd r
    (fun x => { x with since := none, tracking := false, glitchAt := none, missing := 0 })

theorem State.disqualify_eq (s : State) (r why : Nat) : s.disqualify r why = (s.refFailed r why).refGone (s.fld (F.CLK_REF_INFO_STATE r)) r why := rfl

theorem Chg.disqualifyOf {R : Nat → Prop} (hR : ∀ a, ClockLoss a → R a) (hp : ClockParts P) (h : Chg R P M s t) {r : Nat}
    (hi : R (A.CLK_REF_INFO r)) (why : Nat) : Chg R P M s (t.disqualify r why) := by
  rw [State.disqualify_eq]
  exact Chg.refGone hR hp (((h.set _ _ hi).set _ _ hi).refUpd r _ hp.clk) _ _ _

theorem Chg.disqualify {R : Nat → Prop} (hR : ∀ a, 0x50000 ≤ a → R a) (hp : ClockParts P) (h : Chg R P M s t) (r why : Nat) :
    Chg R P M s (t.disqualify r why) :=
  Chg.disqualifyOf (fun a ha => hR a ha.ge) hp h (hR _ (by unfold A.CLK_REF_INFO; omega)) why

end

section
variable {P : Part → Prop} {M : Nat → Prop} {s t : State}

theorem Chg.twinUpd {R : Nat → Prop} (h : Chg R P M s t) (f : Twin → Twin) (hp : P .time) : Chg R P M s (t.twinUpd f) := h.updTime _ hp
theorem Chg.tportUpd {R : Nat → Prop} (h : Chg R P M s t) (p : Nat) (f : TimePort → TimePort) (hp : P .time) :
    Chg R P M s (t.tportUpd p f) := h.updTime _ hp

theorem Chg.twinFlags (h : Chg PastRing P M s t) : Chg PastRing P M s t.twinFlags :=
  (h.keep _ _ (pastRing_of_ge (by decide))).keep _ _ (pastRing_of_ge (by decide))

theorem Chg.pathLost (hp : ClockParts P) (ht : P .time) (h : Chg PastRing P M s t) (p : Nat) : Chg PastRing P M s (t.pathLost p) := by
  have g (a : Nat) (ha : 0x40000 ≤ a) : PastRing a := pastRing_of_ge ha
  have hb := (((h.tportUpd p (fun t => { t with lost := true, lastSync := none, rxSync := none }) ht).twinUpd
    (fun w => { w with running := false }) ht)).twinFlags
  have hh := hb.twinUpd (fun w => { w with healing := true }) ht
  unfold State.pathLost
  dsimp only
  split
  · exact h
  split
  · split
    · split
      · split
        · exact Chg.log (Chg.event (Chg.setB (hh.set _ _ (g _ (by decide))) _ _ (g _ (by decide))) _ (g _ (by decide))) _ _ _ _
            (g _ (by decide)) hp.mgmt
        · exact Chg.updTime (Chg.event (Chg.set (hh.set _ _ (g _ (by decide))) _ _ (g _ (by decide))) _ (g _ (by decide))) _ ht
      · have hs := (hb.set F.TIME_TWIN_STATUS_IN_USE 0 (g _ (by decide))).set F.TIME_TWIN_STATUS_CORR 0 (g _ (by decide))
        exact hs.when _ _ fun _ => Chg.disqualify (fun _ => pastClk) hp hs _ _
    · exact hh.when _ _ fun _ => Chg.disqualify (fun _ => pastClk) hp hh _ _
  · exact hb.when _ _ fun _ => Chg.disqualify (fun _ => pastClk) hp hb _ _

end

end Sys2Proof.Machine
end

section
/-! PROOFS. A configuration register written whole by one master (R414, R418). -/

namespace Sys2Proof.Machine

/-- A whole word on the bus of a register that is not posted lands at once. -/
theorem State.words_land (s : State) (m : Master) (priv : Bool) (a : Nat) (w : Word) (r : Row) (ha : a % 4 = 0) (ht : a ≠ A.TEST_CTL)
    (hrow : rowAt s.variant a = some r) (hprv : s.masterPriv m priv = true ∨ w.toNat &&& r.prv = 0) (hpost : postedAt a r = none) :
    s.words a (whole m priv w) = s.land a r [(m, s.masterPriv m priv, w.toNat)] := by
  have hs : served [⟨m, priv, 15, w⟩] = [⟨m, priv, 15, w⟩] := by cases m <;> rfl
  have hq : (!s.masterPriv m priv && w.toNat &&& r.prv != 0) = false := by
    rcases hprv with h | h <;> simp [h]
  have ht' : (a == A.TEST_CTL) = false := beq_false_of_ne ht
  unfold State.words State.busWrites whole
  rw [hs, ht', State.when_false]
  simp only [List.partition_eq_filter_filter, List.filter_cons, ha, beq_self_eq_true, List.filter_nil, forL,
    Bool.and_self, if_true, Nat.reduceMod, Function.comp, Bool.not_true, List.foldl_nil, List.map_cons, List.map_nil, hrow,
    List.foldl_cons, State.when, hq, Bool.false_eq_true, if_false, List.isEmpty_cons, State.contend_one, hpost]

/-- A register that is no more than what is written to it: every bit is writable or reserved. -/
def Row.stores (r : Row) (a : Nat) : Bool :=
  a % 4 == 0 && a != A.TEST_CTL && a != A.PWR_UNIT_STATUS && a != A.SYS_MOD_STATE && r.w1c == 0 && r.sc == 0 && r.wo == 0 && !isPlaceAdr a &&
    (postedAt a r).isNone && r.rw ||| r.rsv == 0xFFFFFFFF && r.rw &&& r.rsv == 0

/-- In a variant the register is no more than what is written to it. -/
abbrev StoresAt (v : Variant) (a : Nat) : Prop := (rowAt v a).any (fun r => r.stores a) = true

/-- In every variant the register is no more than what is written to it. -/
abbrev StoresEverywhere (a : Nat) : Prop := ∀ v, StoresAt v a

theorem Row.merge_full (n x k z : Nat) (hn : n < 2 ^ 32) (hx : x < 2 ^ 32) (hkz : k ||| z = 0xFFFFFFFF) (h : (n ^^^ x) &&& z = 0) :
    clearBits x k ||| (n &&& k) = n := by
  apply Nat.eq_of_testBit_eq
  intro i
  have hz := congrArg (Nat.testBit · i) h
  have hk := congrArg (Nat.testBit · i) hkz
  simp only [Nat.testBit_and, Nat.testBit_xor, Nat.zero_testBit, Nat.testBit_or,
    show (0xFFFFFFFF : Nat) = 2 ^ 32 - 1 from rfl, Nat.testBit_two_pow_sub_one] at hz hk
  rw [Nat.testBit_or, Nat.testBit_and, testBit_clearBits]
  by_cases hi : i < 32
  · simp only [hi, decide_true, Bool.or_eq_true] at hk
    cases hkb : k.testBit i
    · simp only [hkb, Bool.false_eq_true, false_or] at hk
      simp only [hk, Bool.and_true, bne_eq_false_iff_eq] at hz
      simp [hz]
    · simp
  · rw [Nat.testBit_lt_two_pow (Nat.lt_of_lt_of_le hn (Nat.pow_le_pow_right (by decide) (by omega))),
      Nat.testBit_lt_two_pow (Nat.lt_of_lt_of_le hx (Nat.pow_le_pow_right (by decide) (by omega)))]
    rfl

theorem State.effectOwed_wr (s : State) (a b n : Nat) (h1 : b ≠ A.PWR_UNIT_STATUS) (h2 : b ≠ A.SYS_MOD_STATE) :
    (s.wr b n).effectOwed a = s.effectOwed a := by
  have hu (k : Nat) : (s.wr b n).unitOn k = s.unitOn k := by
    rw [State.unitOn, State.bitOf, State.fld_wr_ne _ _ h1.symm]
    rfl
  simp only [State.effectOwed, State.unitAwake, hu, State.modState, State.fld_wr_ne (g := F.SYS_MOD_STATE_STATE) _ _ h2.symm,
    State.wr_pwr, State.wr_test]

/-- A configuration word written whole is stored, before the rule behind the register acts. -/
theorem Direct.landsAt {s : State} {m : Master} {priv : Bool} {a : Nat} {w : Word} (h : Direct s m priv a) (hr : AsItReads s a w)
    (hs : StoresAt s.variant a) :
    s.fresh.words a (whole m priv w) = (s.fresh.keepWord a w.toNat).act m (s.masterPriv m priv) a (s.reg a) 0 ∧
      a ≠ A.PWR_UNIT_STATUS ∧ a ≠ A.SYS_MOD_STATE := by
  obtain ⟨r, hrow, hst⟩ := (Option.any_eq_true _ _).mp hs
  simp only [Row.stores, Bool.and_eq_true, beq_iff_eq, bne_iff_ne, ne_eq, Bool.not_eq_true', Option.isNone_iff_eq_none] at hst
  obtain ⟨⟨⟨⟨⟨⟨⟨⟨⟨⟨h1, h2⟩, h3⟩, h4⟩, h5⟩, h6⟩, h7⟩, h8⟩, h9⟩, h10⟩, h11⟩ := hst
  have hd : Direct s.fresh m priv a := h
  have hsame : (w.toNat ^^^ s.fresh.rd a) &&& r.rsv = 0 := hr r hrow
  have hmerge : clearBits (s.fresh.rd a) (clearBits (r.rw &&& 0xFFFFFFFF) 0) ||| (w.toNat &&& clearBits (r.rw &&& 0xFFFFFFFF) 0) = w.toNat := by
    refine Row.merge_full _ _ _ r.rsv w.isLt (s.fresh.rd_lt a) ?_ hsame
    apply Nat.eq_of_testBit_eq
    intro i
    have hi := congrArg (Nat.testBit · i) h10
    simp only [Nat.testBit_or] at hi
    simp only [Nat.testBit_or, testBit_clearBits, Nat.testBit_and, Nat.zero_testBit, Bool.not_false, Bool.and_true]
    rw [← hi]
    cases r.rw.testBit i <;> cases r.rsv.testBit i <;> rfl
  refine ⟨?_, h3, h4⟩
  rw [State.words_land s.fresh m priv a w r h1 h2 hrow (hd.prv hrow _) h9, State.land_one _ _ _ _ _ _ h5 hsame h8, hd.mayWrite hrow,
    h6, h7, Nat.or_zero, hmerge, Nat.and_zero, Nat.zero_and]
  rfl

/-- A configuration word written whole is stored, and the rule behind the register acts where the word changed. -/
theorem Direct.storesAt {s : State} {m : Master} {priv : Bool} {a : Nat} {w : Word} (h : Direct s m priv a) (hr : AsItReads s a w)
    (hs : StoresAt s.variant a) (hne : s.reg a ≠ w) :
    s.fresh.words a (whole m priv w) = (s.fresh.wr a w.toNat).regEffect m (s.masterPriv m priv) a (s.reg a) 0 := by
  obtain ⟨hl, h3, h4⟩ := h.landsAt hr hs
  have hkeep : s.fresh.keepWord a w.toNat = s.fresh.wr a w.toNat := if_neg fun e => hne (BitVec.eq_of_toNat_eq e)
  rw [hl, hkeep]
  refine State.act_effect _ m _ a (s.reg a) 0 ((State.effectOwed_wr _ _ _ _ h3 h4).trans h.2.2) (.inl ?_)
  rw [State.reg_wr_same, BitVec.ofNat_toNat, BitVec.setWidth_eq]
  exact hne.symm

theorem Direct.stores {s : State} {m : Master} {priv : Bool} {a : Nat} {w : Word} (h : Direct s m priv a) (hr : AsItReads s a w)
    (hs : StoresEverywhere a) (hne : s.reg a ≠ w) :
    s.fresh.words a (whole m priv w) = (s.fresh.wr a w.toNat).regEffect m (s.masterPriv m priv) a (s.reg a) 0 := h.storesAt hr (hs _) hne

/-- The word a register holds, written again, changes nothing. -/
theorem Direct.stores_same {s : State} {m : Master} {priv : Bool} {a : Nat} {w : Word} (h : Direct s m priv a) (hr : AsItReads s a w)
    (hs : StoresEverywhere a) (hq : actsAlways a 0 = false) (heq : s.reg a = w) : s.fresh.words a (whole m priv w) = s.fresh := by
  have hkeep : s.fresh.keepWord a w.toNat = s.fresh := if_pos (congrArg BitVec.toNat heq)
  have ho : s.fresh.effectOwed a = false := h.2.2
  rw [(h.landsAt hr (hs _)).1, hkeep, State.act, ho, hq]
  simp

/-- A field of a word just written. -/
theorem State.fld_wr_word (s : State) (a : Nat) (w : Word) {g : Fld} (hg : g.adr = a) : (s.wr a w.toNat).fld g = g.of w.toNat := by
  subst hg
  rw [State.fld, State.rd_wr_same, Nat.mod_eq_of_lt w.isLt]

end Sys2Proof.Machine
end

section
/-! PROOFS. Links, flap hold-down and low-power idle (R28 to R32, R69, R70, R502, R562). -/

namespace Sys2Proof.Machine

/-! ### Registers of a ring port -/

theorem portStatus_ne_evt (n : Nat) (h : n < 3) : A.RING_PORT_STATUS n ≠ A.RING_EVT := by
  unfold A.RING_PORT_STATUS A.RING_EVT
  omega
theorem portStatus_ne {n k : Nat} (h : n ≠ k) : A.RING_PORT_STATUS n ≠ A.RING_PORT_STATUS k := by
  unfold A.RING_PORT_STATUS
  omega
theorem flap_ne_portStatus {n k : Nat} (h : k < 3) : A.RING_FLAP n ≠ A.RING_PORT_STATUS k := by
  unfold A.RING_FLAP A.RING_PORT_STATUS
  omega
theorem not_pastRing_portStatus {n : Nat} (h : n < 3) : ¬ PastRing (A.RING_PORT_STATUS n) := by
  rintro ⟨h1, -⟩
  unfold A.RING_PORT_STATUS at h1
  omega
theorem not_pastRing_flap {n : Nat} (h : n < 3) : ¬ PastRing (A.RING_FLAP n) := by
  rintro ⟨h1, -⟩
  unfold A.RING_FLAP at h1
  omega
theorem not_pastRing_portCfg {n : Nat} (h : n < 3) : ¬ PastRing (A.RING_PORT_CFG n) := by
  rintro ⟨h1, -⟩
  unfold A.RING_PORT_CFG at h1
  omega
theorem not_pastRing_linkDown {n : Nat} (h : n < 3) : ¬ PastRing (A.MSTAT_LINK_DOWN n) := by
  rintro ⟨-, h2⟩
  interval_cases n <;> exact h2 (by decide)

theorem portIdx_lt (p : Port) : p.idx < 3 := by cases p <;> decide

@[simp] theorem State.fld_rpUpd (s : State) (p : Nat) (f : RingPort → RingPort) (g : Fld) : (s.rpUpd p f).fld g = s.fld g := rfl
@[simp] theorem State.on_rpUpd (s : State) (p : Nat) (f : RingPort → RingPort) (g : Fld) : (s.rpUpd p f).on g = s.on g := rfl

theorem Fld.free_of_adr {f g : Fld} (hf : f.ok = true) (hg : g.ok = true) (h : g.adr ≠ f.adr) : Fld.free f g = true := by
  simp [Fld.free, hf, hg, h]

/-! ### The flaps that a port remembers -/

/-- The flaps of every ring port. -/
def State.flapTimes (s : State) : List (List Nat) := s.ring.ports.map RingPort.flaps

theorem State.flapTimes_rpUpd (s : State) (p : Nat) (f : RingPort → RingPort) (hf : ∀ x, (f x).flaps = x.flaps) :
    (s.rpUpd p f).flapTimes = s.flapTimes := by
  change (updAt s.ring.ports p f).map RingPort.flaps = _
  unfold updAt State.flapTimes
  induction s.ring.ports generalizing p with
  | nil => cases p <;> rfl
  | cons x l ih =>
    cases p with
    | zero => simp [hf]
    | succ p => simpa using ih p

theorem State.flaps_of (s t : State) (h : t.flapTimes = s.flapTimes) (p : Nat) : (t.rp p).flaps = (s.rp p).flaps := by
  have hget (u : State) : (u.rp p).flaps = u.flapTimes.getD p [] := by
    simp only [State.rp, getAt, State.flapTimes, List.getD_eq_getElem?_getD, List.getElem?_map]
    cases u.ring.ports[p]? <;> rfl
  rw [hget, hget, h]

theorem State.flapTimes_length (s t : State) (h : t.flapTimes = s.flapTimes) : t.ring.ports.length = s.ring.ports.length := by
  have := congrArg List.length h
  simpa [State.flapTimes] using this

theorem State.flapTimes_of_ring {s t : State} (h : t.ring = s.ring) : t.flapTimes = s.flapTimes := by
  unfold State.flapTimes
  rw [h]

theorem State.sendPause_flapTimes (s : State) (p quanta : Nat) : (s.sendPause p quanta).flapTimes = s.flapTimes := by
  unfold State.sendPause
  split
  · have hring (u : State) (a n : Nat) : (u.bump a n).ring = u.ring := by simp
    calc _ = (s.countTx p 64).flapTimes := State.flapTimes_of_ring (hring _ _ _)
      _ = ((s.inc (A.MSTAT_TX_FRAMES p)).bump (A.MSTAT_TX_BLK64 p) (((s.rp p).txRem + 64) / 64)).flapTimes :=
          State.flapTimes_rpUpd _ _ _ fun _ => rfl
      _ = s.flapTimes := State.flapTimes_of_ring ((hring _ _ _).trans (hring _ _ _))
  · rfl

theorem State.poolCheck_flapTimes (s : State) (p : Nat) : (s.poolCheck p).flapTimes = s.flapTimes := by
  unfold State.poolCheck State.when
  dsimp only
  split
  · split
    · exact (State.flapTimes_rpUpd _ _ _ (by exact fun _ => rfl)).trans (State.sendPause_flapTimes _ _ _)
    · rfl
  split
  · refine (State.flapTimes_rpUpd _ _ _ (by exact fun _ => rfl)).trans ?_
    split
    · exact State.sendPause_flapTimes _ _ _
    · rfl
  · rfl

theorem State.poolFree_flapTimes (s : State) (p n : Nat) : (s.poolFree p n).flapTimes = s.flapTimes :=
  (State.poolCheck_flapTimes _ _).trans (State.flapTimes_rpUpd _ _ _ fun _ => rfl)

/-! ### A link goes down -/

/-- A link cut: its status, its event, and its counter (R29, R66). -/
def State.linkCut (s : State) (p : Nat) : State :=
  ((((s.set (F.RING_PORT_STATUS_LINK p) 0).set (F.RING_PORT_STATUS_RATE p) 0).set (F.RING_PORT_STATUS_LPI p) 0).eventBit
    F.RING_EVT_LINK_CHG p).inc (A.MSTAT_LINK_DOWN p)

/-- What follows a cut before its flap is judged: what waited is lost, and so is the path or the reference (R63, R99, R129). -/
def State.linkLoss (s : State) (p : Nat) : State :=
  let s := forL (s.rp p).queue (fun e s => match e.pool with
    | none => s
    | some i => s.poolFree i e.frame.len) s
  let s := s.rpUpd p (fun x => { x with queue := [], xoff := false, stopped := [], credit5 := 0, credit4 := 0 })
  let s := s.set (F.TIME_PSTAT_STATE p) (if s.on (F.RING_PORT_CFG_ENABLE p) then 1 else 3)
  if p = 2 then s.when (s.qualified 3 || s.fld (F.CLK_REF_INFO_STATE 3) == 1) (fun s => s.disqualify 3 8) else s.pathLost p

theorem State.linkDrop_up (s : State) (p : Nat) (h : s.linkUp p = true) :
    s.linkDrop p = ((s.linkCut p).linkLoss p).when (((s.linkCut p).linkLoss p).on (F.RING_PORT_CFG_ENABLE p)) fun s => s.flap p := by
  have hn : (!s.linkUp p) = false := by rw [h]; rfl
  unfold State.linkDrop
  rw [hn]
  rfl

theorem State.linkDrop_down (s : State) (p : Nat) (h : s.linkUp p = false) : s.linkDrop p = s := by
  have hn : (!s.linkUp p) = true := by rw [h]; rfl
  unfold State.linkDrop
  rw [hn]
  rfl

/-- The parts of a link's loss. -/
def lossParts : List Part := [.ring, .time, .clk, .mgmt, .tdm]

theorem timePstat_past (p : Nat) : PastRing (A.TIME_PSTAT p) := pastRing_of_ge (by unfold A.TIME_PSTAT; omega)

theorem clockParts_loss : ClockParts (Parts lossParts) := ⟨by simp [lossParts], by simp [lossParts], by simp [lossParts]⟩

theorem chg_linkLoss (s : State) (p : Nat) : Chg PastRing (Parts lossParts) NoMem s (s.linkLoss p) := by
  have hring : Parts lossParts .ring := by simp [lossParts]
  have htime : Parts lossParts .time := by simp [lossParts]
  have hq : Chg PastRing (Parts lossParts) NoMem s (forL (s.rp p).queue (fun e s => match e.pool with
      | none => s
      | some i => s.poolFree i e.frame.len) s) := by
    refine Chg.forL _ _ (fun e _ t ht => ?_) Chg.refl
    split
    · exact ht
    · exact ht.poolFree hring _ _
  unfold State.linkLoss
  dsimp only
  split
  · exact Chg.when ((hq.rpUpd _ _ hring).set _ _ (timePstat_past p)) _ _ fun _ =>
      Chg.disqualify (fun _ => pastClk) clockParts_loss ((hq.rpUpd _ _ hring).set _ _ (timePstat_past p)) _ _
  · exact ((hq.rpUpd _ _ hring).set _ _ (timePstat_past p)).pathLost clockParts_loss htime _

/-- What a loss leaves of the ports' flaps and of the time. -/
structure Calm (s t : State) : Prop where
  flaps : t.flapTimes = s.flapTimes
  up : t.time.up = s.time.up

theorem Calm.refl (s : State) : Calm s s := ⟨rfl, rfl⟩
theorem Calm.trans {s t u : State} (h : Calm s t) (g : Calm t u) : Calm s u := ⟨g.flaps.trans h.flaps, g.up.trans h.up⟩

/-- A change that leaves the ring and the time. -/
theorem Chg.calm {R : Nat → Prop} {l : List Part} {M : Nat → Prop} {s t : State} (h : Chg R (Parts l) M s t) (hr : Part.ring ∉ l)
    (ht : Part.time ∉ l) : Calm s t :=
  ⟨State.flapTimes_of_ring (h.part .ring hr), congrArg TimeS.up (h.part .time ht)⟩

theorem calm_disqualify (s : State) (r why : Nat) : Calm s (s.disqualify r why) :=
  (Chg.disqualify (P := Parts [.clk, .mgmt, .tdm]) (M := NoMem) (fun _ => pastClk) ⟨by simp, by simp, by simp⟩ Chg.refl r why).calm (by decide) (by decide)

theorem calm_updTime (s : State) (f : TimeS → TimeS) (hf : (f s.time).up = s.time.up) : Calm s (s.updTime f) := ⟨rfl, hf⟩

theorem calm_when {s t : State} (h : Calm s t) (b : Bool) (f : State → State) (hf : Calm t (f t)) : Calm s (t.when b f) := by
  cases b
  · exact h
  · exact h.trans hf

theorem calm_poolFree (s : State) (p n : Nat) : Calm s (s.poolFree p n) :=
  ⟨State.poolFree_flapTimes s p n,
    congrArg TimeS.up ((Chg.poolFree (P := Parts [.ring]) (M := NoMem) (by simp) Chg.refl p n).part .time (by simp))⟩

theorem calm_pathLost (s : State) (p : Nat) : Calm s (s.pathLost p) := by
  have hb : Calm s (((s.tportUpd p (fun t => { t with lost := true, lastSync := none, rxSync := none })).twinAbandon).twinFlags) := by
    refine Calm.trans (t := (s.tportUpd p (fun t => { t with lost := true, lastSync := none, rxSync := none })).twinAbandon) ⟨rfl, rfl⟩ ?_
    have hk : Chg AnyReg (Parts []) NoMem (s.tportUpd p (fun t => { t with lost := true, lastSync := none, rxSync := none })).twinAbandon
        ((s.tportUpd p (fun t => { t with lost := true, lastSync := none, rxSync := none })).twinAbandon).twinFlags := by simp [State.twinFlags]
    exact hk.calm (by decide) (by decide)
  have hreg (u v : State) (h : Chg AnyReg (Parts [.mgmt]) NoMem u v) : Calm u v := h.calm (by decide) (by decide)
  have hheal (u : State) : Calm u (u.twinUpd fun w => { w with healing := true }) := ⟨rfl, rfl⟩
  unfold State.pathLost
  dsimp only
  split
  · exact Calm.refl s
  split
  · split
    · split
      · split
        · exact (hb.trans (hheal _)).trans (hreg _ _ (by simp))
        · exact ((hb.trans (hheal _)).trans (hreg _ _ (by simp))).trans (calm_updTime _ _ rfl)
      · exact calm_when (hb.trans (hreg _ _ (by simp))) _ _ (calm_disqualify _ _ _)
    · exact calm_when (hb.trans (hheal _)) _ _ (calm_disqualify _ _ _)
  · exact calm_when hb _ _ (calm_disqualify _ _ _)

theorem calm_linkLoss (s : State) (p : Nat) : Calm s (s.linkLoss p) := by
  have hq : Calm s (forL (s.rp p).queue (fun e s => match e.pool with
      | none => s
      | some i => s.poolFree i e.frame.len) s) := by
    refine forL_induction (p := Calm s) _ _ (fun e _ t ht => ?_) (Calm.refl s)
    split
    · exact ht
    · exact ht.trans (calm_poolFree _ _ _)
  have hset (u : State) (n : Nat) : Calm u (u.set (F.TIME_PSTAT_STATE p) n) :=
    (show Chg AnyReg (Parts []) NoMem u (u.set (F.TIME_PSTAT_STATE p) n) by simp).calm (by decide) (by decide)
  have hb (n : Nat) := (hq.trans ⟨State.flapTimes_rpUpd _ p (fun x => { x with queue := [], xoff := false, stopped := [], credit5 := 0, credit4 := 0 })
    fun _ => rfl, rfl⟩).trans (hset _ n)
  unfold State.linkLoss
  dsimp only
  split
  · exact calm_when (hb _) _ _ (calm_disqualify _ _ _)
  · exact (hb _).trans (calm_pathLost _ _)

/-! ### A flap -/

theorem chg_holdDown (s : State) (p : Nat) :
    Chg (· ∈ [A.RING_FLAP p, A.RING_PORT_STATUS p, A.RING_EVT, A.MGMT_EVT]) (Parts [.ring, .mgmt]) NoMem s (s.holdDown p) := by
  simp [State.holdDown]

/-- A flap noted, before it is judged (R69, R70). -/
def State.flapNoted (s : State) (p : Nat) : State :=
  let s := s.rpUpd p (fun x => { x with flaps := s.time.up :: s.recentFlaps p })
  s.keep (F.RING_FLAP_FLAPS p) (s.flapCount p)

theorem State.flap_eq (s : State) (p : Nat) :
    s.flap p = (s.flapNoted p).when (Nat.ble 6 ((s.flapNoted p).rp p).flaps.length && !(s.flapNoted p).on (F.RING_PORT_STATUS_HELD p))
      fun s => s.holdDown p := rfl

theorem chg_flapNoted (s : State) (p : Nat) : Chg (· = A.RING_FLAP p) (Parts [.ring]) NoMem s (s.flapNoted p) := by simp [State.flapNoted]

theorem chg_flap (s : State) (p : Nat) :
    Chg (· ∈ [A.RING_FLAP p, A.RING_PORT_STATUS p, A.RING_EVT, A.MGMT_EVT]) (Parts [.ring, .mgmt]) NoMem s (s.flap p) := by
  have hb : Chg (· ∈ [A.RING_FLAP p, A.RING_PORT_STATUS p, A.RING_EVT, A.MGMT_EVT]) (Parts [.ring, .mgmt]) NoMem s (s.flapNoted p) :=
    (chg_flapNoted s p).mono (by simp) (by simp) fun _ h => h
  rw [State.flap_eq]
  exact hb.when _ (fun s => s.holdDown p) fun _ => hb.trans (chg_holdDown _ p)

/-- A field that a flap does not touch reads as before. -/
theorem State.fld_flap_free (s : State) (p : Nat) {g : Fld} (h1 : Fld.free (F.RING_PORT_STATUS_HELD p) g = true) (h2 : g.adr ≠ A.RING_FLAP p)
    (h3 : Fld.free F.RING_EVT_HOLD_START g = true) (h4 : g.adr ≠ A.MGMT_EVT) : (s.flap p).fld g = s.fld g := by
  have hh (u : State) : (u.holdDown p).fld g = u.fld g := by
    simp only [State.holdDown]
    rw [State.fld_log_ne _ _ _ _ h4, State.fld_life_ne _ _ h4, State.fld_eventBit_free h3, State.fld_rpUpd, State.fld_set_free _ h1,
      State.fld_set_ne _ _ h2]
  rw [State.flap_eq]
  exact (State.fld_when _ (fun s => s.holdDown p) (hh _)).trans ((chg_flapNoted s p).fld h2)

/-! ### What a link that goes down shows -/

theorem State.rd_bump_same (s : State) (a n : Nat) (hs : (satOf a).adr ≠ a) (he : ∀ f ∈ (satOf a).event, f.adr ≠ a) :
    (s.bump a n).rd a = min (s.rd a + n) 0xFFFFFFFF := by
  have hlt := s.rd_lt a
  by_cases h : s.rd a + n < 0xFFFFFFFF
  · rw [State.rd_bump _ _ _ h, Nat.min_eq_left (by omega)]
  · rw [Nat.min_eq_right (by omega)]
    unfold State.bump
    dsimp only
    rw [if_neg h]
    split
    · assumption
    · have hput : ((s.wr a 0xFFFFFFFF).putReg (satOf a).adr (((s.wr a 0xFFFFFFFF).reg (satOf a).adr ||| BitVec.ofNat 32 (2 ^ (satOf a).bit)))).rd a =
          0xFFFFFFFF := by
        rw [State.rd_eq_of_reg (State.reg_putReg_ne _ _ hs.symm), State.rd_wr_same]
        rfl
      split
      · exact hput
      · next f hf => rw [State.rd_eq_of_reg (State.reg_event_ne _ _ (he f (by simp [hf])).symm), hput]

theorem satOf_linkDown {p : Nat} (hp : p < 3) : satOf (A.MSTAT_LINK_DOWN p) = ⟨A.MSTAT_SAT p, 18, none⟩ := by
  interval_cases p <;> rfl

theorem linkDown_ne {n k : Nat} (h : n ≠ k) : A.MSTAT_LINK_DOWN n ≠ A.MSTAT_LINK_DOWN k := by
  unfold A.MSTAT_LINK_DOWN
  omega

/-- A cut changes the port's status, the event, and the counter with its saturation bit. -/
theorem chg_linkCut (s : State) {p : Nat} (hp : p < 3) :
    Chg (· ∈ [A.RING_PORT_STATUS p, A.RING_EVT, A.MSTAT_LINK_DOWN p, A.MSTAT_SAT p]) (Parts []) NoMem s (s.linkCut p) := by
  have hs := satOf_linkDown hp
  refine Chg.inc ?_ _ (by simp) (by rw [hs]; simp) (by rw [hs]; simp)
  simp

theorem State.linkCut_fld (s : State) {p : Nat} (hp : p < 3) {g : Fld} (hg : g.adr < 0x30000) :
    (s.linkCut p).fld g = ((((s.set (F.RING_PORT_STATUS_LINK p) 0).set (F.RING_PORT_STATUS_RATE p) 0).set (F.RING_PORT_STATUS_LPI p) 0).eventBit
      F.RING_EVT_LINK_CHG p).fld g := by
  have hs := satOf_linkDown hp
  refine State.fld_eq_of_reg (State.reg_bump_other _ 1 ?_ ?_ ?_)
  · unfold A.MSTAT_LINK_DOWN; omega
  · rw [hs]; simp only [A.MSTAT_SAT]; omega
  · rw [hs]; intro f hf; cases hf

theorem Chg.fld_ring {P : Part → Prop} {M : Nat → Prop} {s t : State} (h : Chg PastRing P M s t) {g : Fld} (hg : g.adr < 0x30000) :
    t.fld g = s.fld g := h.fld fun hp => by
  have := hp.1
  omega

/-- A ring field that neither the cut's registers nor the flap's hold reads as before. -/
theorem State.linkDrop_fld (s : State) {p : Nat} (h : s.linkUp p = true) {g : Fld} (hg : g.adr < 0x30000)
    (h1 : Fld.free (F.RING_PORT_STATUS_HELD p) g = true) (h2 : g.adr ≠ A.RING_FLAP p) (h3 : Fld.free F.RING_EVT_HOLD_START g = true)
    (h4 : g.adr ≠ A.MGMT_EVT) : (s.linkDrop p).fld g = (s.linkCut p).fld g := by
  rw [State.linkDrop_up s p h]
  exact (State.fld_when _ (fun s => s.flap p) (State.fld_flap_free _ p h1 h2 h3 h4)).trans ((chg_linkLoss _ p).fld_ring hg)

/-- The registers that a link's fall may change: its port's, and those past the ring's. -/
def FallRegs (p : Nat) (a : Nat) : Prop :=
  PastRing a ∨ a ∈ [A.RING_PORT_STATUS p, A.RING_FLAP p, A.RING_EVT, A.MSTAT_LINK_DOWN p]

theorem linkSat_past {p : Nat} (hp : p < 3) : PastRing (A.MSTAT_SAT p) := by interval_cases p <;> exact ⟨by decide, by decide⟩

theorem chg_linkDrop (s : State) {p : Nat} (hp : p < 3) : Chg (FallRegs p) (Parts lossParts) NoMem s (s.linkDrop p) := by
  cases h : s.linkUp p
  · rw [State.linkDrop_down s p h]
    exact Chg.refl
  · have hcut : Chg (FallRegs p) (Parts lossParts) NoMem s (s.linkCut p) := by
      refine (chg_linkCut s hp).mono (fun a ha => ?_) (fun _ h => absurd h List.not_mem_nil) fun _ h => h
      rcases List.mem_cons.mp ha with ha | ha
      · exact .inr (by simp [ha])
      rcases List.mem_cons.mp ha with ha | ha
      · exact .inr (by simp [ha])
      rcases List.mem_cons.mp ha with ha | ha
      · exact .inr (by simp [ha])
      · exact .inl (by rw [List.mem_singleton.mp ha]; exact linkSat_past hp)
    have hb := hcut.trans ((chg_linkLoss _ p).mono (fun _ h => .inl h) (fun _ h => h) fun _ h => h)
    rw [State.linkDrop_up s p h]
    refine hb.when _ (fun s => s.flap p) fun _ => hb.trans ((chg_flap _ p).mono (fun a ha => ?_) ?_ fun _ h => h)
    · rcases List.mem_cons.mp ha with ha | ha
      · exact .inr (by simp [ha])
      rcases List.mem_cons.mp ha with ha | ha
      · exact .inr (by simp [ha])
      rcases List.mem_cons.mp ha with ha | ha
      · exact .inr (by simp [ha])
      · exact .inl (by rw [List.mem_singleton.mp ha]; exact pastRing_of_ge (by decide))
    · simp [lossParts]

theorem portLink_free_held {p : Nat} : Fld.free (F.RING_PORT_STATUS_HELD p) (F.RING_PORT_STATUS_LINK p) = true := Fld.free_of_ok rfl rfl rfl

/-- A link that goes down is down, its rate shows none, and the event sets (R29). -/
theorem linkDrop_shows (s : State) {p : Nat} (hp : p < 3) (h : s.linkUp p = true) :
    (s.linkDrop p).linkUp p = false ∧ (s.linkDrop p).fld (F.RING_PORT_STATUS_RATE p) = 0 ∧
      (s.linkDrop p).bitOf F.RING_EVT_LINK_CHG p = true ∧ Counts s (s.linkDrop p) (A.MSTAT_LINK_DOWN p) 1 := by
  have hlt : A.RING_PORT_STATUS p < 0x30000 := by unfold A.RING_PORT_STATUS; omega
  have hne : A.RING_PORT_STATUS p ≠ A.RING_FLAP p := (flap_ne_portStatus hp).symm
  have hm : A.RING_PORT_STATUS p ≠ A.MGMT_EVT := by unfold A.MGMT_EVT; omega
  have hevt : A.RING_PORT_STATUS p ≠ A.RING_EVT := portStatus_ne_evt p hp
  have hhold (g : Fld) (hg : g.adr = A.RING_PORT_STATUS p) (hk : g.ok = true) : Fld.free F.RING_EVT_HOLD_START g = true :=
    Fld.free_of_adr (by decide) hk (by rw [hg]; exact hevt)
  have hread (g : Fld) (hg : g.adr = A.RING_PORT_STATUS p) (hk : g.ok = true) (hf : Fld.free (F.RING_PORT_STATUS_HELD p) g = true)
      (hl : Fld.free (F.RING_PORT_STATUS_LPI p) g = true) : (s.linkDrop p).fld g =
        ((s.set (F.RING_PORT_STATUS_LINK p) 0).set (F.RING_PORT_STATUS_RATE p) 0).fld g := by
    rw [State.linkDrop_fld s h (by rw [hg]; exact hlt) hf (by rw [hg]; exact hne) (hhold g hg hk) (by rw [hg]; exact hm),
      State.linkCut_fld s hp (by rw [hg]; exact hlt), State.fld_eq_of_reg (State.reg_eventBit_ne _ _ _ (by rw [hg]; exact hevt)),
      State.fld_set_free _ hl]
  refine ⟨?_, ?_, ?_, ?_⟩
  · rw [State.linkUp, State.on, hread _ rfl rfl portLink_free_held (Fld.free_of_ok rfl rfl rfl),
      State.fld_set_free _ (Fld.free_of_ok rfl rfl rfl), State.fld_set_same _ rfl]
    rfl
  · rw [hread _ rfl rfl (Fld.free_of_ok rfl rfl rfl) (Fld.free_of_ok rfl rfl rfl), State.fld_set_same _ rfl]
    rfl
  · have hf : Fld.free (F.RING_PORT_STATUS_HELD p) F.RING_EVT_LINK_CHG = true :=
      Fld.free_of_adr rfl (by decide) hevt.symm
    have hfl : A.RING_EVT ≠ A.RING_FLAP p := by unfold A.RING_EVT A.RING_FLAP; omega
    rw [State.bitOf, State.linkDrop_fld s h (by decide) hf hfl (by decide) (by decide), State.linkCut_fld s hp (by decide)]
    exact State.bitOf_eventBit_same _ (by decide) hp
  · have hs := satOf_linkDown hp
    have hcut : (s.linkCut p).rd (A.MSTAT_LINK_DOWN p) = min (s.rd (A.MSTAT_LINK_DOWN p) + 1) 0xFFFFFFFF := by
      have hpre : ((((s.set (F.RING_PORT_STATUS_LINK p) 0).set (F.RING_PORT_STATUS_RATE p) 0).set (F.RING_PORT_STATUS_LPI p) 0).eventBit
          F.RING_EVT_LINK_CHG p).rd (A.MSTAT_LINK_DOWN p) = s.rd (A.MSTAT_LINK_DOWN p) := by
        refine State.rd_eq_of_reg ((show Chg (· ∈ [A.RING_PORT_STATUS p, A.RING_EVT]) (Parts []) NoMem s _ by simp).reg _ ?_)
        simp only [List.mem_cons, List.not_mem_nil, or_false, A.MSTAT_LINK_DOWN, A.RING_PORT_STATUS, A.RING_EVT]
        omega
      have hsame : (satOf (A.MSTAT_LINK_DOWN p)).adr ≠ A.MSTAT_LINK_DOWN p := by
        rw [hs]; simp only [A.MSTAT_SAT, A.MSTAT_LINK_DOWN]; omega
      rw [State.linkCut, State.inc, State.rd_bump_same _ _ 1 hsame (by rw [hs]; intro f hf; cases hf), hpre]
    have hend : (s.linkDrop p).rd (A.MSTAT_LINK_DOWN p) = (s.linkCut p).rd (A.MSTAT_LINK_DOWN p) := by
      have hflap (u : State) : (u.flap p).reg (A.MSTAT_LINK_DOWN p) = u.reg (A.MSTAT_LINK_DOWN p) := by
        refine (chg_flap u p).reg _ ?_
        simp only [List.mem_cons, List.not_mem_nil, or_false, A.MSTAT_LINK_DOWN, A.RING_PORT_STATUS, A.RING_EVT, A.RING_FLAP, A.MGMT_EVT]
        omega
      rw [State.linkDrop_up s p h]
      exact State.rd_eq_of_reg ((State.reg_when _ _ _ _ (hflap _)).trans ((chg_linkLoss _ p).reg _ (not_pastRing_linkDown hp)))
    exact hend.trans hcut

end Sys2Proof.Machine
end

section
/-! PROOFS. Links: a port's configuration, training, rise and fall (R28 to R31, R502, R562). -/

namespace Sys2Proof.Machine

theorem portStatus_not_time {p : Nat} (hp : p < 3) : A.RING_PORT_STATUS p ∉ timeRegs := by interval_cases p <;> decide
theorem portCfg_not_time {p : Nat} (hp : p < 3) : A.RING_PORT_CFG p ∉ timeRegs := by interval_cases p <;> decide
theorem ringFlap_not_time {p : Nat} (hp : p < 3) : A.RING_FLAP p ∉ timeRegs := by interval_cases p <;> decide
theorem linkDown_not_time {p : Nat} (hp : p < 3) : A.MSTAT_LINK_DOWN p ∉ timeRegs := by interval_cases p <;> decide
theorem linkDown_not_summary {p : Nat} (hp : p < 3) : A.MSTAT_LINK_DOWN p ∉ summaries := by interval_cases p <;> decide

theorem portStatus_kept {p : Nat} (hp : p < 3) :
    (F.RING_PORT_STATUS_LINK p).kept = true ∧ (F.RING_PORT_STATUS_RATE p).kept = true ∧ (F.RING_PORT_STATUS_HELD p).kept = true ∧
      (F.RING_PORT_STATUS_LPI p).kept = true := by interval_cases p <;> decide

theorem State.linkUp_advance (s : State) (dt : Nat) {p : Nat} (hp : p < 3) : (s.advance dt).linkUp p = s.linkUp p :=
  State.on_advance_ne _ (portStatus_not_time hp)

theorem chg_advance_all (s : State) (dt : Nat) : Chg AnyReg AnyPart NoMem s (s.advance dt) :=
  Chg.refl.advance dt (fun _ _ => trivial) trivial trivial trivial

/-- A link falls (R29). -/
theorem answers_linkDown (s : State) (p : Port) (dt : Nat) (h : s.linkUp p.idx = true) :
    Answers (.linkDown p dt) s fun t =>
      t.linkUp p.idx = false ∧ t.fld (F.RING_PORT_STATUS_RATE p.idx) = 0 ∧ t.bitOf F.RING_EVT_LINK_CHG p.idx = true ∧
      Counts s t (A.MSTAT_LINK_DOWN p.idx) 1 ∧ MemKept s t := by
  have hp := portIdx_lt p
  set a := s.fresh.advance dt with ha
  obtain ⟨h1, h2, h3, h4⟩ := linkDrop_shows a hp ((State.linkUp_advance s.fresh dt hp).trans h)
  obtain ⟨k1, k2, -⟩ := portStatus_kept hp
  have hall : Chg AnyReg AnyPart NoMem s (a.linkDrop p.idx) := (Chg.refl.fresh.trans (chg_advance_all _ dt)).trans (chg_linkDrop a hp).anywhere
  have hrd : a.rd (A.MSTAT_LINK_DOWN p.idx) = s.rd (A.MSTAT_LINK_DOWN p.idx) :=
    State.rd_eq_of_reg (State.reg_advance s.fresh dt (linkDown_not_time hp))
  refine answers_effect _ rfl rfl hall ⟨?_, ?_, ?_, ?_, hall.memKept⟩
  · rw [State.linkUp, State.on_seal _ _ k1]
    exact h1
  · rw [State.fld_seal _ _ k2]
    exact h2
  · rw [State.bitOf_seal _ _ (by decide)]
    exact h3
  · rw [Counts, State.rd_seal _ _ (linkDown_not_summary hp), ← hrd]
    exact h4

/-- A link's fall leaves another port's status. -/
theorem State.linkDrop_status (s : State) {p q : Nat} (hp : p < 3) (hq : q < 3) (h : q ≠ p) {g : Fld} (hg : g.adr = A.RING_PORT_STATUS q) :
    (s.linkDrop p).fld g = s.fld g := by
  refine (chg_linkDrop s hp).fld ?_
  rw [hg]
  rintro (hpast | hmem)
  · exact not_pastRing_portStatus hq hpast
  · simp only [List.mem_cons, List.not_mem_nil, or_false, A.RING_PORT_STATUS, A.RING_FLAP, A.RING_EVT, A.MSTAT_LINK_DOWN] at hmem
    omega

theorem State.linkDrop_other (s : State) {p q : Nat} (hp : p < 3) (hq : q < 3) (h : q ≠ p) : (s.linkDrop p).linkUp q = s.linkUp q := by
  rw [State.linkUp, State.on, s.linkDrop_status hp hq h rfl]
  rfl

/-- After its drop a link is down. -/
theorem State.linkDrop_linkUp (s : State) {p : Nat} (hp : p < 3) : (s.linkDrop p).linkUp p = false := by
  cases h : s.linkUp p
  · rw [State.linkDrop_down s p h]
    exact h
  · exact (linkDrop_shows s hp h).1

/-- Limited mode drops a ring port above 2.5G (R502). -/
theorem answers_limitedRetrainTimer (s : State) (p : Nat) (hp : p < 2) (ht : s.pwr.limitedTimer = true) (hm : 2500 < s.linkMbps p) :
    Answers .limitedRetrainTimer s fun t => t.linkUp p = false ∧ t.pwr.limitedTimer = false ∧ MemKept s t := by
  set e := s.fresh.updPwr fun q => { q with limitedTimer := false } with he
  set f : Nat → State → State := fun p s => s.when (s.linkUp p && Nat.blt 2500 (s.linkMbps p)) (fun s => s.retrain p) with hf
  have hu : s.fresh.limitedRetrain = forN 2 f e := by
    rw [State.limitedRetrain, if_pos (by rw [show s.fresh.pwr = s.pwr from rfl, ht])]
  have hchg : Chg AnyReg (Parts lossParts) NoMem e (forN 2 f e) :=
    Chg.forN _ _ (fun i hi t h => h.when _ _ fun _ => h.trans
      ((chg_linkDrop t (p := i) (by omega)).mono (fun _ _ => trivial) (fun _ h => h) fun _ h => h)) Chg.refl
  have hall : Chg AnyReg AnyPart NoMem s (forN 2 f e) := (Chg.refl.fresh.updPwr _ trivial).trans hchg.anywhere
  have hdown : (forN 2 f e).linkUp p = false := by
    refine (forN_at (fun t => (t.linkUp p, t.linkMbps p)) (fun x => x.1 = false) 2 p f e hp (fun i hi hip t => ?_) fun t htt => ?_)
    · have hl : (f i t).linkUp p = t.linkUp p ∧ (f i t).fld (F.RING_PORT_STATUS_RATE p) = t.fld (F.RING_PORT_STATUS_RATE p) := by
        simp only [hf, State.when]
        split
        · exact ⟨t.linkDrop_other (by omega) (by omega) (Ne.symm hip), t.linkDrop_status (by omega) (by omega) (Ne.symm hip) rfl⟩
        · exact ⟨rfl, rfl⟩
      simp only [hl.1, State.linkMbps, hl.2]
    · obtain ⟨-, hmb⟩ := Prod.mk.inj htt
      have hmb' : Nat.blt 2500 (t.linkMbps p) = true := by
        rw [hmb, Nat.blt_eq]
        exact hm
      simp only [hf, hmb', Bool.and_true]
      cases hl : t.linkUp p
      · exact hl
      · exact t.linkDrop_linkUp (by omega)
  refine answers_effect _ rfl hu hall ⟨?_, ?_, hall.memKept⟩
  · rw [State.linkUp, State.on_seal _ _ (portStatus_kept (by omega)).1]
    exact hdown
  · rw [State.seal_pwr, show (forN 2 f e).pwr = e.pwr from hchg.part .pwr (by simp [lossParts])]
    rfl

/-! ### Training -/

/-- A failed training counts (R31). -/
theorem answers_autonegTrainingFail (s : State) (p : Port) (rate : Nat) (h : (s.rp p.idx).fails < 2) :
    Answers (.autonegTrainingFail p rate) s fun t =>
      t.ring = { s.ring with ports := updAt s.ring.ports p.idx fun x => { x with fails := (s.rp p.idx).fails + 1 } } ∧
      Framed [] [.ring] s t := by
  have hu : s.fresh.trainFail p.idx rate = s.fresh.rpUpd p.idx fun x => { x with fails := (s.rp p.idx).fails + 1 } := by
    have hn : ¬ 3 ≤ (s.fresh.rp p.idx).fails + 1 := by
      change ¬ 3 ≤ (s.rp p.idx).fails + 1
      omega
    rw [State.trainFail]
    exact if_neg hn
  have hframe : Chg (Listed []) (Parts [.ring]) NoMem s (s.fresh.rpUpd p.idx fun x => { x with fails := (s.rp p.idx).fails + 1 }) := by simp
  exact answers_effect _ rfl hu hframe ⟨by rw [State.seal_ring]; rfl, hframe.framed⟩

theorem State.rp_rpUpd_same (s : State) {p : Nat} (hp : p < s.ring.ports.length) (f : RingPort → RingPort) :
    (s.rpUpd p f).rp p = f (s.rp p) := by
  simp only [State.rpUpd, State.updRing, State.rp, getAt, updAt, List.getD_eq_getElem?_getD, List.getElem?_modify_eq]
  rw [List.getElem?_eq_getElem hp]
  rfl

theorem testBit_clearBits_two_pow (a w i : Nat) : (clearBits a (w ||| 2 ^ i)).testBit i = false := by
  rw [testBit_clearBits, Nat.testBit_or, Nat.testBit_two_pow_self, Bool.or_true, Bool.not_true, Bool.and_false]

/-- The third failure in a row withholds the rate (R31). -/
theorem answers_autonegTrainingFail_third (s : State) (p : Port) (rate : Nat) (h : 2 ≤ (s.rp p.idx).fails) (hp : p.idx < s.ring.ports.length) :
    Answers (.autonegTrainingFail p rate) s fun t =>
      (t.advertised p.idx).testBit (rateBit p.idx rate) = false ∧ (t.rp p.idx).fails = 0 ∧ Framed [] [.ring] s t := by
  set u := s.fresh.rpUpd p.idx fun x => { x with fails := 0, withheld := x.withheld ||| 2 ^ rateBit p.idx rate } with hu
  have heff : s.fresh.trainFail p.idx rate = u := by
    have hn : 3 ≤ (s.fresh.rp p.idx).fails + 1 := by
      change 3 ≤ (s.rp p.idx).fails + 1
      omega
    rw [State.trainFail]
    exact if_pos hn
  have hframe : Chg (Listed []) (Parts [.ring]) NoMem s u := by simp [hu]
  have hrp : (s.seal u).rp p.idx = { s.rp p.idx with fails := 0, withheld := (s.rp p.idx).withheld ||| 2 ^ rateBit p.idx rate } := by
    rw [State.rp, State.seal_ring]
    exact State.rp_rpUpd_same s.fresh hp _
  refine answers_effect _ rfl heff hframe ⟨?_, by rw [hrp], hframe.framed⟩
  have hbase (a : Nat) : (clearBits a ((s.seal u).rp p.idx).withheld).testBit (rateBit p.idx rate) = false := by
    rw [hrp]
    exact testBit_clearBits_two_pow _ _ _
  unfold State.advertised
  dsimp only
  split
  · exact hbase _
  split
  · rw [Nat.testBit_and, hbase, Bool.false_and]
  · exact hbase _

/-! ### A link rises -/

section
variable {R : Nat → Prop} {P : Part → Prop} {M : Nat → Prop} {s t : State}

@[simp] theorem chg_tportUpd (p : Nat) (f : TimePort → TimePort) (hp : P .time) : Chg R P M s (t.tportUpd p f) ↔ Chg R P M s t :=
  Chg.iff_of (Chg.refl.tportUpd p f hp)

end

@[simp] theorem State.fld_tportUpd (s : State) (p : Nat) (f : TimePort → TimePort) (g : Fld) : (s.tportUpd p f).fld g = s.fld g := rfl
@[simp] theorem State.tportUpd_ring (s : State) (p : Nat) (f : TimePort → TimePort) : (s.tportUpd p f).ring = s.ring := rfl

theorem State.portMayLink_advance (s : State) (dt : Nat) (p : Port) : (s.advance dt).portMayLink p.idx = s.portMayLink p.idx := by
  have hret : (s.advance dt).rd A.TEST_RETIRED = s.rd A.TEST_RETIRED := State.rd_eq_of_reg (State.reg_advance _ _ (by decide))
  cases p <;>
    simp (disch := decide) only [State.portMayLink, State.unitOn, State.bitOf, State.blockOk, State.bypassOpen, State.fld_advance_ne,
      State.on_advance_ne, State.advance_variant, State.advance_test, hret, Port.idx]

theorem State.advertised_advance (s : State) (dt : Nat) (p : Port) : (s.advance dt).advertised p.idx = s.advertised p.idx := by
  have hadv : (s.advance dt).fld (F.RING_PORT_CFG_RATE_ADV p.idx) = s.fld (F.RING_PORT_CFG_RATE_ADV p.idx) :=
    State.fld_advance_ne _ (portCfg_not_time (portIdx_lt p))
  simp (disch := decide) only [State.advertised, State.rateBits, State.rp, hadv, State.on_advance_ne, State.advance_variant,
    State.advance_ring]

/-- A link that rises (R28, R29, R86). -/
def State.linkRisen (s : State) (p rate : Nat) : State :=
  let s := (s.set (F.RING_PORT_STATUS_LINK p) 1).set (F.RING_PORT_STATUS_RATE p) rate
  let s := s.eventBit F.RING_EVT_LINK_CHG p
  let s := (s.set (F.TIME_PSTAT_LINK_DELAY p) 0).set (F.TIME_PSTAT_STATE p) (if s.time.isGm then 6 else 4)
  let s := s.tportUpd p (fun t => { t with delays := [], pdelayT1 := none })
  s.rpUpd p (fun x => { x with fails := 0, up5 := s.time.up, up4 := s.time.up, lastAudio := 0 })

theorem linkRisen_shows (s : State) (p : Port) {rate : Nat} (h : rate < 16) :
    (s.linkRisen p.idx rate).linkUp p.idx = true ∧ (s.linkRisen p.idx rate).fld (F.RING_PORT_STATUS_RATE p.idx) = rate ∧
      (s.linkRisen p.idx rate).bitOf F.RING_EVT_LINK_CHG p.idx = true ∧
      (s.linkRisen p.idx rate).fld (F.TIME_PSTAT_LINK_DELAY p.idx) = 0 := by
  have hmod : rate % 2 ^ (F.RING_PORT_STATUS_RATE p.idx).width = rate := Nat.mod_eq_of_lt h
  have hbit (u : State) : ((u.eventBit F.RING_EVT_LINK_CHG p.idx).fld F.RING_EVT_LINK_CHG).testBit p.idx = true :=
    State.bitOf_eventBit_same u (by decide) (portIdx_lt p)
  refine ⟨?_, ?_, ?_, ?_⟩
  · cases p <;>
      simp (disch := decide) only [State.linkUp, State.on, State.linkRisen, State.fld_rpUpd, State.fld_tportUpd, State.fld_set_ne,
        State.fld_eventBit_free, State.fld_set_free, State.fld_set_same, Port.idx] <;> rfl
  · cases p <;>
      simp (disch := decide) only [State.linkRisen, State.fld_rpUpd, State.fld_tportUpd, State.fld_set_ne,
        State.fld_eventBit_free, State.fld_set_same, Port.idx] <;> exact hmod
  · have hne : A.RING_EVT ≠ A.TIME_PSTAT p.idx := by unfold A.RING_EVT A.TIME_PSTAT; omega
    simp only [State.bitOf, State.linkRisen, State.fld_rpUpd, State.fld_tportUpd]
    rw [State.fld_set_ne _ _ hne, State.fld_set_ne _ _ hne, hbit]
  · cases p <;>
      simp (disch := decide) only [State.linkRisen, State.fld_rpUpd, State.fld_tportUpd, State.fld_set_free, State.fld_set_same,
        Port.idx] <;> rfl

theorem answers_linkUp (s : State) (p : Port) (rate dt : Nat) (hu : s.linkUp p.idx = false) (hm : s.portMayLink p.idx = true)
    (ha : (s.advertised p.idx).testBit (rateBit p.idx rate) = true) (h1 : 1 ≤ rate) (h5 : rate ≤ 5) :
    Answers (.linkUp p rate dt) s fun t =>
      t.linkUp p.idx = true ∧ t.fld (F.RING_PORT_STATUS_RATE p.idx) = rate ∧ t.bitOf F.RING_EVT_LINK_CHG p.idx = true ∧
      t.fld (F.TIME_PSTAT_LINK_DELAY p.idx) = 0 ∧
      Framed (timeRegs ++ [A.RING_PORT_STATUS p.idx, A.RING_EVT, A.TIME_PSTAT p.idx]) [.ring, .time, .clk, .mgmt] s t := by
  set a := s.fresh.advance dt with hadv
  have heff : a.linkRise p.idx rate = a.linkRisen p.idx rate := by
    have hg : (!a.linkUp p.idx && a.portMayLink p.idx && (a.advertised p.idx).testBit (rateBit p.idx rate) && Nat.ble 1 rate && Nat.ble rate 5) =
        true := by
      rw [hadv, State.linkUp_advance _ _ (portIdx_lt p), State.portMayLink_advance, State.advertised_advance,
        show s.fresh.linkUp p.idx = false from hu, show s.fresh.portMayLink p.idx = true from hm,
        show (s.fresh.advertised p.idx).testBit (rateBit p.idx rate) = true from ha]
      simp [h1, h5]
    rw [State.linkRise, if_pos hg]
    rfl
  obtain ⟨r1, r2, r3, r4⟩ := linkRisen_shows a p (rate := rate) (by omega)
  obtain ⟨k1, k2, -⟩ := portStatus_kept (portIdx_lt p)
  have hk4 : (F.TIME_PSTAT_LINK_DELAY p.idx).kept = true := by cases p <;> decide
  have hframe : Chg (Listed (timeRegs ++ [A.RING_PORT_STATUS p.idx, A.RING_EVT, A.TIME_PSTAT p.idx])) (Parts [.ring, .time, .clk, .mgmt])
      NoMem s (a.linkRisen p.idx rate) := by
    have hb : Chg (Listed (timeRegs ++ [A.RING_PORT_STATUS p.idx, A.RING_EVT, A.TIME_PSTAT p.idx])) (Parts [.ring, .time, .clk, .mgmt])
        NoMem s a := Chg.refl.fresh.advance dt (fun a ha => .inl (List.mem_append_left _ ha)) (by simp) (by simp) (by simp)
    simpa [State.linkRisen] using hb
  refine answers_effect _ rfl heff hframe ⟨?_, ?_, ?_, ?_, hframe.framed⟩
  · rw [State.linkUp, State.on_seal _ _ k1]
    exact r1
  · rw [State.fld_seal _ _ k2]
    exact r2
  · rw [State.bitOf_seal _ _ (by decide)]
    exact r3
  · rw [State.fld_seal _ _ hk4]
    exact r4

/-! ### PHY registers -/

/-- A PHY register other than register 0 takes a write (R562). -/
theorem answers_phyDataWrite (s : State) (p : Port) (mmd reg val : Nat) (hu : s.unitOn (4 + p.idx) = true) (hm : mmd = 1 ∨ mmd = 3)
    (h0 : 0 < reg) (hr : reg < 65536) :
    Answers (.phyDataWrite p mmd reg val) s fun t =>
      t.rd (phyBase p.idx mmd reg) = val % 65536 ∧ Framed [phyBase p.idx mmd reg] [] s t := by
  have heff : (s.fresh.when (s.unitOn (4 + p.idx)) fun s => s.phyWrite p.idx mmd reg val) = s.fresh.wr (phyBase p.idx mmd reg) (val % 65536) := by
    have h137 : mmd = 1 ∨ mmd = 3 ∨ mmd = 7 := by omega
    have hplain : ¬ ((reg = 0 ∨ (mmd = 7 ∧ (reg = 16 ∨ reg = 32))) ∧ s.fresh.rd (phyBase p.idx mmd reg) ≠ val % 2 ^ 16) := by
      rintro ⟨h, -⟩
      omega
    rw [hu, State.when_true, State.phyWrite, if_pos h137]
    exact if_neg hplain
  have hframe : Chg (Listed [phyBase p.idx mmd reg]) (Parts []) NoMem s (s.fresh.wr (phyBase p.idx mmd reg) (val % 65536)) := by simp
  refine answers_effect _ rfl heff hframe ⟨?_, hframe.framed⟩
  have hsum : phyBase p.idx mmd reg ∉ summaries := by
    simp only [summaries, phyBase, List.mem_cons, List.not_mem_nil, or_false, A.TEST_FAULT, A.TEST_EVT, A.PWR_STATUS, A.MSTAT_SAT_SUM,
      A.SYS_IRQ_STATUS]
    omega
  rw [State.rd_seal _ _ hsum, State.rd_wr_same]
  exact Nat.mod_eq_of_lt (Nat.lt_trans (Nat.mod_lt _ (by decide)) (by decide))

/-! ### A port's configuration -/

theorem portCfg_stores (p : Port) : StoresEverywhere (A.RING_PORT_CFG p.idx) := fun v => by cases p <;> cases v <;> decide

/-- What a port's configuration keeps of a word before its links follow (R30, R64). -/
def State.portClamped (s : State) (p : Nat) : State :=
  let s := s.keep (F.RING_PORT_CFG_MAX_FRAME p) (clampN 1522 9216 (s.fld (F.RING_PORT_CFG_MAX_FRAME p)))
  let s := s.keep (F.RING_PORT_CFG_RATE_ADV p) (s.fld (F.RING_PORT_CFG_RATE_ADV p) &&& s.rateBits p)
  let s := s.when (s.variant != .jk1024) (fun s => s.keep (F.RING_PORT_CFG_RX_KEEP_ERR p) 0)
  if p = 2 then s.keep (F.RING_PORT_CFG_PFC_EN p) 0
    else (s.keep (F.RING_PORT_CFG_PAUSE_EN p) 0).keep (F.RING_PORT_CFG_PAUSE_HONOUR_ALL p) 0

theorem rateBits_lt (s : State) (p : Nat) : s.rateBits p < 16 := by
  unfold State.rateBits
  split
  · decide
  · cases s.variant <;> decide

theorem clampN_lt {lo hi n b : Nat} (hl : lo < b) (hh : hi < b) : clampN lo hi n < b := by
  unfold clampN
  split
  · exact hl
  split
  · exact hh
  · omega

theorem portClamped_shows (s : State) (p : Port) :
    (s.portClamped p.idx).fld (F.RING_PORT_CFG_RATE_ADV p.idx) = s.fld (F.RING_PORT_CFG_RATE_ADV p.idx) &&& s.rateBits p.idx ∧
      (s.portClamped p.idx).fld (F.RING_PORT_CFG_MAX_FRAME p.idx) = clampN 1522 9216 (s.fld (F.RING_PORT_CFG_MAX_FRAME p.idx)) ∧
      Chg (· = A.RING_PORT_CFG p.idx) (Parts []) NoMem s (s.portClamped p.idx) := by
  set e := s.keep (F.RING_PORT_CFG_MAX_FRAME p.idx) (clampN 1522 9216 (s.fld (F.RING_PORT_CFG_MAX_FRAME p.idx))) with he
  set e2 := e.keep (F.RING_PORT_CFG_RATE_ADV p.idx) (e.fld (F.RING_PORT_CFG_RATE_ADV p.idx) &&& e.rateBits p.idx) with he2
  set e3 := e2.when (e2.variant != .jk1024) (fun s => s.keep (F.RING_PORT_CFG_RX_KEEP_ERR p.idx) 0) with he3
  have hrate : e2.fld (F.RING_PORT_CFG_RATE_ADV p.idx) = s.fld (F.RING_PORT_CFG_RATE_ADV p.idx) &&& s.rateBits p.idx := by
    have h1 : e.fld (F.RING_PORT_CFG_RATE_ADV p.idx) = s.fld (F.RING_PORT_CFG_RATE_ADV p.idx) :=
      State.fld_keep_free _ (Fld.free_of_ok rfl rfl rfl) _
    have h2 : e.rateBits p.idx = s.rateBits p.idx := by
      unfold State.rateBits
      rw [(show Chg (· = A.RING_PORT_CFG p.idx) (Parts []) NoMem s e by simp [he]).variant]
    rw [he2, State.fld_keep_same _ rfl, h1, h2]
    exact Nat.lt_of_le_of_lt Nat.and_le_right (rateBits_lt _ _)
  have hmax : e2.fld (F.RING_PORT_CFG_MAX_FRAME p.idx) = clampN 1522 9216 (s.fld (F.RING_PORT_CFG_MAX_FRAME p.idx)) := by
    rw [he2, State.fld_keep_free _ (Fld.free_of_ok rfl rfl rfl), he, State.fld_keep_same _ rfl]
    exact clampN_lt (show 1522 < 16384 by decide) (show 9216 < 16384 by decide)
  have hkeep (g : Fld) (h1 : Fld.free (F.RING_PORT_CFG_RX_KEEP_ERR p.idx) g = true) (h2 : Fld.free (F.RING_PORT_CFG_PFC_EN p.idx) g = true)
      (h3 : Fld.free (F.RING_PORT_CFG_PAUSE_EN p.idx) g = true) (h4 : Fld.free (F.RING_PORT_CFG_PAUSE_HONOUR_ALL p.idx) g = true) :
      (s.portClamped p.idx).fld g = e2.fld g := by
    have he3g : e3.fld g = e2.fld g := State.fld_when _ _ (State.fld_keep_free _ h1 0)
    unfold State.portClamped
    dsimp only
    rw [← he, ← he2, ← he3]
    split
    · rw [State.fld_keep_free _ h2, he3g]
    · rw [State.fld_keep_free _ h4, State.fld_keep_free _ h3, he3g]
  refine ⟨?_, ?_, ?_⟩
  · rw [hkeep _ (Fld.free_of_ok rfl rfl rfl) (Fld.free_of_ok rfl rfl rfl) (Fld.free_of_ok rfl rfl rfl) (Fld.free_of_ok rfl rfl rfl), hrate]
  · rw [hkeep _ (Fld.free_of_ok rfl rfl rfl) (Fld.free_of_ok rfl rfl rfl) (Fld.free_of_ok rfl rfl rfl) (Fld.free_of_ok rfl rfl rfl), hmax]
  · have h2 : Chg (· = A.RING_PORT_CFG p.idx) (Parts []) NoMem s e2 := by simp [he2, he]
    have h3 : Chg (· = A.RING_PORT_CFG p.idx) (Parts []) NoMem s e3 := h2.when _ _ fun _ => h2.keep _ _ rfl
    unfold State.portClamped
    dsimp only
    rw [← he, ← he2, ← he3]
    split
    · exact h3.keep _ _ rfl
    · exact (h3.keep _ _ rfl).keep _ _ rfl

/-- What a change of ENABLE does to the port and its link (R28). -/
def State.portEnabled (s : State) (p : Nat) (old : Word) : State :=
  let wasEn := (F.RING_PORT_CFG_ENABLE p).of old.toNat
  let en := s.fld (F.RING_PORT_CFG_ENABLE p)
  let s := s.when (en == 1 && wasEn == 0) (fun s => s.rpUpd p (fun x => { x with withheld := 0, fails := 0 }))
  let s := s.when (en == 0 && wasEn == 1) (fun s => (s.linkDrop p).set (F.TIME_PSTAT_STATE p) 3)
  s.when (en == 1 && wasEn == 0) (fun s => s.set (F.TIME_PSTAT_STATE p) 1)

/-- What a change of RATE_ADV does to it (R31). -/
def State.portRetrain (s : State) (p : Nat) : State := (s.rpUpd p (fun x => { x with withheld := 0, fails := 0 })).retrain p

theorem State.portCfg_eq (s : State) (p : Nat) (old : Word) :
    s.portCfg p old = ((s.portClamped p).portEnabled p old).when
      (((s.portClamped p).portEnabled p old).fld (F.RING_PORT_CFG_RATE_ADV p) != (F.RING_PORT_CFG_RATE_ADV p).of old.toNat)
      fun s => s.portRetrain p := rfl

theorem chg_portEnabled (s : State) {p : Nat} (hp : p < 3) (old : Word) : Chg (FallRegs p) (Parts lossParts) NoMem s (s.portEnabled p old) := by
  have hpstat : FallRegs p (F.TIME_PSTAT_STATE p).adr := .inl (timePstat_past p)
  have hring : Parts lossParts .ring := by simp [lossParts]
  have hr (t : State) (b : Bool) (h : Chg (FallRegs p) (Parts lossParts) NoMem s t) :
      Chg (FallRegs p) (Parts lossParts) NoMem s (t.when b fun s => s.rpUpd p fun x => { x with withheld := 0, fails := 0 }) :=
    h.when _ _ fun _ => h.rpUpd _ _ hring
  have hd (t : State) (b : Bool) (h : Chg (FallRegs p) (Parts lossParts) NoMem s t) :
      Chg (FallRegs p) (Parts lossParts) NoMem s (t.when b fun s => (s.linkDrop p).set (F.TIME_PSTAT_STATE p) 3) :=
    h.when _ (fun s => (s.linkDrop p).set (F.TIME_PSTAT_STATE p) 3) fun _ => (h.trans (chg_linkDrop t hp)).set _ _ hpstat
  have hs (t : State) (b : Bool) (h : Chg (FallRegs p) (Parts lossParts) NoMem s t) :
      Chg (FallRegs p) (Parts lossParts) NoMem s (t.when b fun s => s.set (F.TIME_PSTAT_STATE p) 1) :=
    h.when _ _ fun _ => h.set _ _ hpstat
  exact hs _ _ (hd _ _ (hr _ _ Chg.refl))

theorem chg_portRetrain (s : State) {p : Nat} (hp : p < 3) : Chg (FallRegs p) (Parts lossParts) NoMem s (s.portRetrain p) :=
  (Chg.refl.rpUpd _ _ (by simp [lossParts])).trans (chg_linkDrop _ hp)

theorem portCfg_not_fall {p : Nat} (hp : p < 3) : ¬ FallRegs p (A.RING_PORT_CFG p) := by
  rintro (h | h)
  · exact not_pastRing_portCfg hp h
  · simp only [List.mem_cons, List.not_mem_nil, or_false, A.RING_PORT_CFG, A.RING_PORT_STATUS, A.RING_FLAP, A.RING_EVT, A.MSTAT_LINK_DOWN] at h
    omega

theorem portCfg_mod {p : Nat} (hp : p < 3) : A.RING_PORT_CFG p % 0x10000 < 0xC ∧ A.RING_PORT_CFG p % 0x10000 / 4 = p := by
  unfold A.RING_PORT_CFG
  omega

/-- A configuration word that changes RATE_ADV stores the rates the variant has, clamps MAX_FRAME and drops the link (R28, R30, R31). -/
theorem answers_portCfgWrite (s : State) (p : Port) (m : Master) (priv : Bool) (w : Word) (hd : Direct s m priv (A.RING_PORT_CFG p.idx))
    (hr : AsItReads s (A.RING_PORT_CFG p.idx) w) (hne : s.reg (A.RING_PORT_CFG p.idx) ≠ w)
    (hadv : (F.RING_PORT_CFG_RATE_ADV p.idx).of w.toNat &&& s.rateBits p.idx ≠ s.fld (F.RING_PORT_CFG_RATE_ADV p.idx)) :
    Answers (.portCfgWrite p (whole m priv w)) s fun t =>
      t.fld (F.RING_PORT_CFG_RATE_ADV p.idx) = (F.RING_PORT_CFG_RATE_ADV p.idx).of w.toNat &&& s.rateBits p.idx ∧
      t.fld (F.RING_PORT_CFG_MAX_FRAME p.idx) = clampN 1522 9216 ((F.RING_PORT_CFG_MAX_FRAME p.idx).of w.toNat) ∧
      t.linkUp p.idx = false ∧ MemKept s t := by
  have hp := portIdx_lt p
  set e := s.fresh.wr (A.RING_PORT_CFG p.idx) w.toNat with he
  set c := e.portClamped p.idx with hc
  set b := c.portEnabled p.idx (s.reg (A.RING_PORT_CFG p.idx)) with hb
  obtain ⟨c1, c2, hclamp⟩ := portClamped_shows e p
  have hrb : e.rateBits p.idx = s.rateBits p.idx := rfl
  have hword (g : Fld) (hg : g.adr = A.RING_PORT_CFG p.idx) : e.fld g = g.of w.toNat := State.fld_wr_word s.fresh _ w hg
  rw [← hc, hword _ rfl, hrb] at c1
  rw [← hc, hword _ rfl] at c2
  have hen := chg_portEnabled c hp (s.reg (A.RING_PORT_CFG p.idx))
  have hret := chg_portRetrain b hp
  have hcfg (g : Fld) (hg : g.adr = A.RING_PORT_CFG p.idx) : (b.portRetrain p.idx).fld g = c.fld g := by
    rw [hret.fld (by rw [hg]; exact portCfg_not_fall hp), hen.fld (by rw [hg]; exact portCfg_not_fall hp)]
  have heff : s.fresh.words (A.RING_PORT_CFG p.idx) (whole m priv w) = b.portRetrain p.idx := by
    rw [hd.stores hr (portCfg_stores p) hne]
    obtain ⟨h1, h2⟩ := portCfg_mod hp
    have hpage : A.RING_PORT_CFG p.idx / 0x10000 = 2 := by unfold A.RING_PORT_CFG; omega
    have hreg : e.regEffect m (s.masterPriv m priv) (A.RING_PORT_CFG p.idx) (s.reg (A.RING_PORT_CFG p.idx)) 0 =
        e.portCfg p.idx (s.reg (A.RING_PORT_CFG p.idx)) := by
      simp only [State.regEffect, hpage, State.ringEffect, if_pos h1, h2]
    have hchanged : (b.fld (F.RING_PORT_CFG_RATE_ADV p.idx) != (F.RING_PORT_CFG_RATE_ADV p.idx).of (s.reg (A.RING_PORT_CFG p.idx)).toNat) = true := by
      rw [hb, hen.fld (portCfg_not_fall hp), c1, bne_iff_ne]
      exact hadv
    rw [hreg, State.portCfg_eq, ← hc, ← hb, hchanged, State.when_true]
  have hall : Chg AnyReg AnyPart NoMem s (b.portRetrain p.idx) :=
    (((Chg.refl.fresh.wr _ _ trivial).trans hclamp.anywhere).trans hen.anywhere).trans hret.anywhere
  have k1 : (F.RING_PORT_CFG_RATE_ADV p.idx).kept = true := by cases p <;> decide
  have k2 : (F.RING_PORT_CFG_MAX_FRAME p.idx).kept = true := by cases p <;> decide
  refine answers_effect _ rfl heff hall ⟨?_, ?_, ?_, hall.memKept⟩
  · rw [State.fld_seal _ _ k1, hcfg _ rfl, c1]
  · rw [State.fld_seal _ _ k2, hcfg _ rfl, c2]
  · rw [State.linkUp, State.on_seal _ _ (portStatus_kept hp).1]
    exact State.linkDrop_linkUp _ hp

/-- Settles O17. -/
theorem links : Obligations.Links :=
  ⟨answers_portCfgWrite, answers_autonegTrainingFail, answers_autonegTrainingFail_third, answers_linkUp, answers_linkDown,
    answers_limitedRetrainTimer, answers_phyDataWrite⟩

end Sys2Proof.Machine
end

section
/-! PROOFS. Flap hold-down, its end, and low-power idle (R32, R69, R70). -/

namespace Sys2Proof.Machine

theorem ringFlap_kept {p : Nat} (hp : p < 3) : (F.RING_FLAP_HOLD_LEVEL p).kept = true ∧ (F.RING_FLAP_FLAPS p).kept = true := by
  interval_cases p <;> decide

/-! ### Hold-down begins -/

theorem State.linkLoss_ring_fld (s : State) {p : Nat} (hp : p < 3) {g : Fld} (hg : g.adr < 0x30000) (h1 : g.adr ≠ A.RING_PORT_STATUS p)
    (h2 : g.adr ≠ A.RING_EVT) : ((s.linkCut p).linkLoss p).fld g = s.fld g := by
  rw [(chg_linkLoss _ p).fld_ring hg, State.linkCut_fld s hp hg, State.fld_eq_of_reg (State.reg_eventBit_ne _ _ _ h2), State.fld_set_ne _ _ h1,
    State.fld_set_ne _ _ h1, State.fld_set_ne _ _ h1]

theorem State.linkLoss_held (s : State) {p : Nat} (hp : p < 3) :
    ((s.linkCut p).linkLoss p).on (F.RING_PORT_STATUS_HELD p) = s.on (F.RING_PORT_STATUS_HELD p) := by
  have hlt : A.RING_PORT_STATUS p < 0x30000 := by unfold A.RING_PORT_STATUS; omega
  rw [State.on, (chg_linkLoss _ p).fld_ring hlt, State.linkCut_fld s hp hlt,
    State.fld_eq_of_reg (State.reg_eventBit_ne _ _ _ (portStatus_ne_evt p hp)), State.fld_set_free _ (Fld.free_of_ok rfl rfl rfl),
    State.fld_set_free _ (Fld.free_of_ok rfl rfl rfl), State.fld_set_free _ (Fld.free_of_ok rfl rfl rfl)]
  rfl

theorem calm_lossAfterCut (s : State) {p : Nat} (hp : p < 3) : Calm s ((s.linkCut p).linkLoss p) :=
  ((chg_linkCut s hp).calm (by decide) (by decide)).trans (calm_linkLoss _ p)

theorem State.recentFlaps_calm {s t : State} (h : Calm s t) (p : Nat) : t.recentFlaps p = s.recentFlaps p := by
  unfold State.recentFlaps
  rw [State.flaps_of s t h.flaps p, h.up]

/-- What hold-down shows (R69, R70). -/
theorem holdDown_shows (s : State) {p : Nat} (hp : p < 3) (hl : p < s.ring.ports.length) :
    (s.holdDown p).on (F.RING_PORT_STATUS_HELD p) = true ∧
      (s.holdDown p).fld (F.RING_FLAP_HOLD_LEVEL p) = min 9 (s.fld (F.RING_FLAP_HOLD_LEVEL p) + 1) ∧
      ((s.holdDown p).rp p).holdEnd = s.time.up + holdSecs (min 9 (s.fld (F.RING_FLAP_HOLD_LEVEL p) + 1)) * secU ∧
      (s.holdDown p).bitOf F.RING_EVT_HOLD_START p = true ∧ (s.holdDown p).time.up = s.time.up := by
  set lvl := min 9 (s.fld (F.RING_FLAP_HOLD_LEVEL p) + 1) with hlvl
  set e := (s.set (F.RING_FLAP_HOLD_LEVEL p) lvl).set (F.RING_PORT_STATUS_HELD p) 1 with he
  set r := e.rpUpd p fun x => { x with holdEnd := e.time.up + holdSecs lvl * secU } with hr
  set v := r.eventBit F.RING_EVT_HOLD_START p with hv
  have hdef : s.holdDown p = (v.life (11 + p) 1).log 2 2 2 [p, lvl] := rfl
  have hm1 : A.RING_PORT_STATUS p ≠ A.MGMT_EVT := by unfold A.RING_PORT_STATUS A.MGMT_EVT; omega
  have hm2 : A.RING_FLAP p ≠ A.MGMT_EVT := by unfold A.RING_FLAP A.MGMT_EVT; omega
  have he2 : A.RING_FLAP p ≠ A.RING_EVT := by unfold A.RING_FLAP A.RING_EVT; omega
  have hlog : Chg (· = A.MGMT_EVT) (Parts [.mgmt]) NoMem v (s.holdDown p) := by rw [hdef]; simp
  have htime : e.time = s.time := by simp [he]
  refine ⟨?_, ?_, ?_, ?_, ?_⟩
  · rw [State.on, hlog.fld hm1, hv, State.fld_eq_of_reg (State.reg_eventBit_ne _ _ _ (portStatus_ne_evt p hp)), hr, State.fld_rpUpd, he,
      State.fld_set_same _ rfl]
    rfl
  · rw [hlog.fld hm2, hv, State.fld_eq_of_reg (State.reg_eventBit_ne _ _ _ he2), hr, State.fld_rpUpd, he,
      State.fld_set_ne _ _ (flap_ne_portStatus hp), State.fld_set_same _ rfl]
    exact Nat.mod_eq_of_lt (show lvl < 16 by omega)
  · have hring : (s.holdDown p).ring = r.ring := by
      rw [show (s.holdDown p).ring = v.ring from hlog.part .ring (by simp), hv, State.eventBit_ring]
    have hlen : p < e.ring.ports.length := by simpa [he] using hl
    rw [State.rp, hring, ← State.rp, hr, State.rp_rpUpd_same e hlen, htime]
  · rw [State.bitOf, hlog.fld (by decide)]
    exact State.bitOf_eventBit_same r (by decide) hp
  · rw [show (s.holdDown p).time = v.time from hlog.part .time (by simp), hv, State.eventBit_time]
    exact congrArg TimeS.up htime

/-- The sixth flap within 60 s starts hold-down (R69, R70). -/
theorem answers_linkDown_sixthFlap (s : State) (p : Port) (dt : Nat) (hu : s.linkUp p.idx = true)
    (he : s.on (F.RING_PORT_CFG_ENABLE p.idx) = true) (hh : s.on (F.RING_PORT_STATUS_HELD p.idx) = false)
    (h5 : 5 ≤ ((s.advance dt).recentFlaps p.idx).length) (hl : p.idx < s.ring.ports.length) (_ : s.fld (F.RING_FLAP_HOLD_LEVEL p.idx) ≤ 9) :
    Answers (.linkDown p dt) s fun t =>
      t.on (F.RING_PORT_STATUS_HELD p.idx) = true ∧
      t.fld (F.RING_FLAP_HOLD_LEVEL p.idx) = min 9 (s.fld (F.RING_FLAP_HOLD_LEVEL p.idx) + 1) ∧
      (t.rp p.idx).holdEnd = t.time.up + holdSecs (min 9 (s.fld (F.RING_FLAP_HOLD_LEVEL p.idx) + 1)) * secU ∧
      t.bitOf F.RING_EVT_HOLD_START p.idx = true := by
  have hp := portIdx_lt p
  set a := s.fresh.advance dt with ha
  set v := (a.linkCut p.idx).linkLoss p.idx with hv
  set n := v.flapNoted p.idx with hn
  have hcalm : Calm a v := calm_lossAfterCut a hp
  have hcfg : A.RING_PORT_CFG p.idx < 0x30000 ∧ A.RING_PORT_CFG p.idx ≠ A.RING_PORT_STATUS p.idx ∧ A.RING_PORT_CFG p.idx ≠ A.RING_EVT := by
    unfold A.RING_PORT_CFG A.RING_PORT_STATUS A.RING_EVT
    omega
  have hflp : A.RING_FLAP p.idx < 0x30000 ∧ A.RING_FLAP p.idx ≠ A.RING_EVT := by
    unfold A.RING_FLAP A.RING_EVT
    omega
  have hven : v.on (F.RING_PORT_CFG_ENABLE p.idx) = true := by
    rw [State.on, hv, State.linkLoss_ring_fld a hp hcfg.1 hcfg.2.1 hcfg.2.2, ha, State.fld_advance_ne _ (portCfg_not_time hp)]
    exact he
  have hvheld : v.on (F.RING_PORT_STATUS_HELD p.idx) = false := by
    rw [hv, State.linkLoss_held a hp, ha, State.on_advance_ne _ (portStatus_not_time hp)]
    exact hh
  have hvlevel : v.fld (F.RING_FLAP_HOLD_LEVEL p.idx) = s.fld (F.RING_FLAP_HOLD_LEVEL p.idx) := by
    rw [hv, State.linkLoss_ring_fld a hp hflp.1 (flap_ne_portStatus hp) hflp.2, ha, State.fld_advance_ne _ (ringFlap_not_time hp)]
    rfl
  have halen : a.ring.ports.length = s.ring.ports.length := by rw [ha, State.advance_ring]; rfl
  have hvlen : p.idx < v.ring.ports.length := by
    rw [State.flapTimes_length a v hcalm.flaps, halen]
    exact hl
  have hnring : n.ring = (v.rpUpd p.idx fun x => { x with flaps := v.time.up :: v.recentFlaps p.idx }).ring :=
    (show Chg (· = A.RING_FLAP p.idx) (Parts []) NoMem (v.rpUpd p.idx fun x => { x with flaps := v.time.up :: v.recentFlaps p.idx }) n by
      simp [hn, State.flapNoted]).part .ring (by simp)
  have hnflaps : (n.rp p.idx).flaps = v.time.up :: v.recentFlaps p.idx := by
    rw [State.rp, hnring, ← State.rp, State.rp_rpUpd_same v hvlen]
  have hnlen : p.idx < n.ring.ports.length := by
    rw [hnring]
    simpa [State.rpUpd, State.updRing, updAt] using hvlen
  have hnheld : n.on (F.RING_PORT_STATUS_HELD p.idx) = false := by
    rw [State.on, (chg_flapNoted v p.idx).fld (flap_ne_portStatus hp).symm]
    exact hvheld
  have hnlevel : n.fld (F.RING_FLAP_HOLD_LEVEL p.idx) = s.fld (F.RING_FLAP_HOLD_LEVEL p.idx) := by
    rw [hn, State.flapNoted, State.fld_keep_free _ (Fld.free_of_ok rfl rfl rfl), State.fld_rpUpd, hvlevel]
  have hsix : (Nat.ble 6 (n.rp p.idx).flaps.length && !n.on (F.RING_PORT_STATUS_HELD p.idx)) = true := by
    have hrec : (a.recentFlaps p.idx).length = ((s.advance dt).recentFlaps p.idx).length := by
      simp only [State.recentFlaps, State.rp, ha, State.advance_ring, State.advance_up]
      rfl
    rw [hnflaps, hnheld, List.length_cons, State.recentFlaps_calm hcalm, hrec]
    simp only [Bool.not_false, Bool.and_true, Nat.ble_eq]
    omega
  have heff : a.linkDrop p.idx = n.holdDown p.idx := by
    rw [State.linkDrop_up a p.idx ((State.linkUp_advance s.fresh dt hp).trans hu), ← hv, hven, State.when_true, State.flap_eq, ← hn, hsix,
      State.when_true]
  obtain ⟨h1, h2, h3, h4, hup⟩ := holdDown_shows n hp hnlen
  obtain ⟨-, -, k3, -⟩ := portStatus_kept hp
  have hvar : (n.holdDown p.idx).variant = s.variant := by
    rw [← heff, (chg_linkDrop a hp).variant, ha, State.advance_variant]
    rfl
  refine answers_run _ rfl heff hvar ⟨?_, ?_, ?_, ?_⟩
  · rw [State.on_seal _ _ k3]
    exact h1
  · rw [State.fld_seal _ _ (ringFlap_kept hp).1, h2, hnlevel]
  · rw [State.rp, State.seal_ring, ← State.rp, h3, State.seal_time, hup, hnlevel]
  · rw [State.bitOf_seal _ _ (by decide)]
    exact h4

/-! ### Hold-down ends -/

/-- A port released from its hold (R69, R70). -/
def State.holdReleased (s : State) (p : Nat) : State :=
  ((s.set (F.RING_PORT_STATUS_HELD p) 0).set (F.RING_FLAP_FLAPS p) 0).rpUpd p (fun x => { x with holdEnd := 0, flaps := [] })

theorem State.holdEnd_held (s : State) (p : Nat) (h : s.on (F.RING_PORT_STATUS_HELD p) = true) : s.holdEnd p = s.holdReleased p := if_pos h

theorem chg_holdReleased (s : State) (p : Nat) :
    Chg (· ∈ [A.RING_PORT_STATUS p, A.RING_FLAP p]) (Parts [.ring]) NoMem s (s.holdReleased p) := by
  simp [State.holdReleased]

theorem holdReleased_shows (s : State) {p : Nat} (hp : p < 3) :
    (s.holdReleased p).on (F.RING_PORT_STATUS_HELD p) = false ∧ (s.holdReleased p).fld (F.RING_FLAP_FLAPS p) = 0 ∧
      (s.holdReleased p).fld (F.RING_FLAP_HOLD_LEVEL p) = s.fld (F.RING_FLAP_HOLD_LEVEL p) := by
  have hne : A.RING_FLAP p ≠ A.RING_PORT_STATUS p := flap_ne_portStatus hp
  refine ⟨?_, ?_, ?_⟩
  · rw [State.on, State.holdReleased, State.fld_rpUpd, State.fld_set_ne _ _ hne.symm, State.fld_set_same _ rfl]
    rfl
  · rw [State.holdReleased, State.fld_rpUpd, State.fld_set_same _ rfl]
    rfl
  · rw [State.holdReleased, State.fld_rpUpd, State.fld_set_free _ (Fld.free_of_ok rfl rfl rfl), State.fld_set_ne _ _ hne]

/-- The end of hold-down (R70). -/
theorem answers_holdDownEnd (s : State) (p : Port) (dt : Nat) (h : s.on (F.RING_PORT_STATUS_HELD p.idx) = true) :
    Answers (.holdDownEnd p dt) s fun t =>
      t.on (F.RING_PORT_STATUS_HELD p.idx) = false ∧ t.fld (F.RING_FLAP_FLAPS p.idx) = 0 ∧
      t.fld (F.RING_FLAP_HOLD_LEVEL p.idx) = s.fld (F.RING_FLAP_HOLD_LEVEL p.idx) ∧
      Framed (timeRegs ++ [A.RING_PORT_STATUS p.idx, A.RING_FLAP p.idx]) [.ring, .time, .clk, .mgmt] s t := by
  have hp := portIdx_lt p
  set a := s.fresh.advance dt with ha
  have heff : a.holdEnd p.idx = a.holdReleased p.idx :=
    State.holdEnd_held a p.idx ((State.on_advance_ne _ (portStatus_not_time hp)).trans h)
  obtain ⟨h1, h2, h3⟩ := holdReleased_shows a hp
  have hframe : Chg (Listed (timeRegs ++ [A.RING_PORT_STATUS p.idx, A.RING_FLAP p.idx])) (Parts [.ring, .time, .clk, .mgmt]) NoMem s
      (a.holdReleased p.idx) :=
    Chg.trans (Chg.refl.fresh.advance dt (fun a ha => .inl (List.mem_append_left _ ha)) (by simp) (by simp) (by simp))
      ((chg_holdReleased a p.idx).mono (fun a ha => .inl (List.mem_append_right _ ha)) (by simp) fun _ h => h)
  refine answers_effect _ rfl heff hframe ⟨?_, ?_, ?_, hframe.framed⟩
  · rw [State.on_seal _ _ (portStatus_kept hp).2.2.1]
    exact h1
  · rw [State.fld_seal _ _ (ringFlap_kept hp).2]
    exact h2
  · rw [State.fld_seal _ _ (ringFlap_kept hp).1, h3, ha, State.fld_advance_ne _ (ringFlap_not_time hp)]
    rfl

/-- An hour of link takes the level back to 0 (R70). -/
theorem answers_holdLevelDecay (s : State) (p : Port) (h : s.linkUp p.idx = true) :
    Answers (.holdLevelDecay p) s fun t =>
      t.fld (F.RING_FLAP_HOLD_LEVEL p.idx) = 0 ∧ t.fld (F.RING_FLAP_FLAPS p.idx) = s.fld (F.RING_FLAP_FLAPS p.idx) ∧
      Framed [A.RING_FLAP p.idx] [] s t := by
  have hp := portIdx_lt p
  have hframe : Chg (Listed [A.RING_FLAP p.idx]) (Parts []) NoMem s (s.fresh.set (F.RING_FLAP_HOLD_LEVEL p.idx) 0) := by simp
  have hu : (s.fresh.when (s.linkUp p.idx) fun s => s.set (F.RING_FLAP_HOLD_LEVEL p.idx) 0) = s.fresh.set (F.RING_FLAP_HOLD_LEVEL p.idx) 0 := by
    rw [h, State.when_true]
  refine answers_effect _ rfl hu hframe ⟨?_, ?_, hframe.framed⟩
  · rw [State.fld_seal _ _ (ringFlap_kept hp).1, State.fld_set_same _ rfl]
    rfl
  · rw [State.fld_seal _ _ (ringFlap_kept hp).2, State.fld_set_free _ (Fld.free_of_ok rfl rfl rfl)]
    rfl

theorem flapRelease_strikes (p : Port) : Strikes (A.RING_FLAP p.idx) 1 := fun v => by cases p <;> cases v <;> decide

/-- RELEASE ends hold-down (R70). -/
theorem answers_flapRelease (s : State) (p : Port) (m : Master) (priv : Bool) (hd : Direct s m priv (A.RING_FLAP p.idx))
    (h : s.on (F.RING_PORT_STATUS_HELD p.idx) = true) :
    Answers (.flapRelease p m priv) s fun t =>
      t.on (F.RING_PORT_STATUS_HELD p.idx) = false ∧ t.fld (F.RING_FLAP_FLAPS p.idx) = 0 ∧
      t.fld (F.RING_FLAP_HOLD_LEVEL p.idx) = s.fld (F.RING_FLAP_HOLD_LEVEL p.idx) ∧
      Framed [A.RING_PORT_STATUS p.idx, A.RING_FLAP p.idx] [.ring] s t := by
  have hp := portIdx_lt p
  set r := s.fresh.holdReleased p.idx with hr
  set u := (r.set (F.RING_FLAP_FLAPS p.idx) 0).rpUpd p.idx (fun x => { x with flaps := [] }) with hu
  have heff : s.fresh.strike m priv (A.RING_FLAP p.idx) 1 = u := by
    have hreg : s.fresh.regEffect m (s.masterPriv m priv) (A.RING_FLAP p.idx) (s.reg (A.RING_FLAP p.idx)) 1 = s.fresh.flapRelease p.idx := by
      cases p <;> rfl
    rw [hd.strike (flapRelease_strikes p), hreg, State.flapRelease, State.holdEnd_held s.fresh p.idx h]
  obtain ⟨h1, h2, h3⟩ := holdReleased_shows s.fresh hp
  have hne : A.RING_FLAP p.idx ≠ A.RING_PORT_STATUS p.idx := flap_ne_portStatus hp
  have hframe : Chg (Listed [A.RING_PORT_STATUS p.idx, A.RING_FLAP p.idx]) (Parts [.ring]) NoMem s u := by
    have hb : Chg (Listed [A.RING_PORT_STATUS p.idx, A.RING_FLAP p.idx]) (Parts [.ring]) NoMem s r :=
      Chg.refl.fresh.trans ((chg_holdReleased s.fresh p.idx).mono (fun _ h => .inl h) (fun _ h => h) fun _ h => h)
    simpa [hu] using hb
  refine answers_effect _ rfl heff hframe ⟨?_, ?_, ?_, hframe.framed⟩
  · rw [State.on_seal _ _ (portStatus_kept hp).2.2.1, State.on, hu, State.fld_rpUpd, State.fld_set_ne _ _ hne.symm]
    exact h1
  · rw [State.fld_seal _ _ (ringFlap_kept hp).2, hu, State.fld_rpUpd, State.fld_set_same _ rfl]
    rfl
  · rw [State.fld_seal _ _ (ringFlap_kept hp).1, hu, State.fld_rpUpd, State.fld_set_free _ (Fld.free_of_ok rfl rfl rfl), h3]
    rfl

/-! ### Low-power idle -/

/-- A quiet port enters low-power idle under EEE_MODE 1 (R32). -/
theorem answers_lpiEntry (s : State) (p : Port) (dt : Nat) (h : s.linkUp p.idx = true) (he : s.fld (F.RING_PORT_CFG_EEE_MODE p.idx) = 1) :
    Answers (.lpiEntry p dt) s fun t =>
      t.on (F.RING_PORT_STATUS_LPI p.idx) = true ∧
      Framed (timeRegs ++ [A.RING_PORT_STATUS p.idx]) [.time, .clk, .mgmt] s t := by
  have hp := portIdx_lt p
  set a := s.fresh.advance dt with ha
  have heff : a.lpiEnter p.idx = a.set (F.RING_PORT_STATUS_LPI p.idx) 1 := by
    have hmode : a.fld (F.RING_PORT_CFG_EEE_MODE p.idx) = 1 := (State.fld_advance_ne _ (portCfg_not_time hp)).trans he
    have hlink : a.linkUp p.idx = true := (State.linkUp_advance s.fresh dt hp).trans h
    simp [State.lpiEnter, hmode, hlink, State.when]
  have hframe : Chg (Listed (timeRegs ++ [A.RING_PORT_STATUS p.idx])) (Parts [.time, .clk, .mgmt]) NoMem s
      (a.set (F.RING_PORT_STATUS_LPI p.idx) 1) :=
    (Chg.refl.fresh.advance dt (fun a ha => .inl (List.mem_append_left _ ha)) (by simp) (by simp) (by simp)).set _ _
      (.inl (List.mem_append_right _ (by simp)))
  refine answers_effect _ rfl heff hframe ⟨?_, hframe.framed⟩
  rw [State.on_seal _ _ (portStatus_kept hp).2.2.2, State.on_set_same _ rfl]
  rfl

/-- Settles O18. -/
theorem holdDown : Obligations.HoldDown :=
  ⟨answers_linkDown_sixthFlap, answers_holdDownEnd, answers_holdLevelDecay, answers_flapRelease, answers_lpiEntry⟩

end Sys2Proof.Machine
end

section
/-! PROOFS. One field of a register written by a master, its other bits as they read. -/

namespace Sys2Proof.Machine

/-- The field's bits are writable and neither command bits nor reserved, and no command bit is reserved. -/
def Row.offers (r : Row) (f : Fld) : Bool :=
  f.ok && f.adr % 4 == 0 && f.adr != A.TEST_CTL && f.adr != A.PWR_UNIT_STATUS && f.adr != A.SYS_MOD_STATE && r.w1c == 0 && !isPlaceAdr f.adr &&
    ((domainOf f.adr).isNone || r.rwp != 0) && r.rsv &&& (r.sc ||| r.wo) == 0 &&
    (List.range 32).all fun i => !(Nat.ble f.lo i && Nat.ble i f.hi) ||
      (r.rw.testBit i && !r.sc.testBit i && !r.wo.testBit i && !r.rsv.testBit i)

/-- In every variant the register offers the field to a master. -/
abbrev Offers (f : Fld) : Prop := ∀ v, (rowAt v f.adr).any (fun r => r.offers f) = true

/-- In one variant the register offers the field to a master. -/
abbrev OffersAt (v : Variant) (f : Fld) : Prop := (rowAt v f.adr).any (fun r => r.offers f) = true

/-- A field that a master writes is stored, and the rule behind its register acts where it must. -/
theorem Direct.landsFld {s : State} {m : Master} {priv : Bool} {f : Fld} (h : Direct s m priv f.adr) (hs : OffersAt s.variant f) (v : Nat) :
    s.fresh.strikeFld m priv f v = (s.fresh.keepWord f.adr (f.into (s.rd f.adr) v)).act m (s.masterPriv m priv) f.adr (s.reg f.adr) 0 ∧
      f.ok = true ∧ f.adr ≠ A.PWR_UNIT_STATUS ∧ f.adr ≠ A.SYS_MOD_STATE := by
  obtain ⟨r, hrow, hst⟩ := (Option.any_eq_true _ _).mp hs
  simp only [Row.offers, Bool.and_eq_true, beq_iff_eq, bne_iff_ne, ne_eq] at hst
  obtain ⟨⟨⟨⟨⟨⟨⟨⟨⟨hok, h1⟩, h2⟩, h3⟩, h4⟩, h5⟩, h6⟩, h7⟩, h8⟩, h9⟩ := hst
  obtain ⟨hlo, hhi⟩ := Fld.ok_le hok
  have hd : Direct s.fresh m priv f.adr := h
  have hbits (i : Nat) (hl : f.lo ≤ i) (hh : i ≤ f.hi) :
      r.rw.testBit i = true ∧ r.sc.testBit i = false ∧ r.wo.testBit i = false ∧ r.rsv.testBit i = false := by
    have := List.all_eq_true.mp h9 i (List.mem_range.mpr (by omega))
    rw [show Nat.ble f.lo i = true from Nat.ble_eq ▸ hl, show Nat.ble i f.hi = true from Nat.ble_eq ▸ hh] at this
    simpa [and_assoc] using this
  have hcmd (i : Nat) (hc : (r.sc ||| r.wo).testBit i = true) : r.rsv.testBit i = false := by
    have := congrArg (Nat.testBit · i) h8
    simpa [Nat.testBit_and, hc] using this
  set x := s.fresh.rd f.adr with hx
  have hread : s.fresh.asRead m priv f.adr = clearBits x (r.sc ||| r.wo) := by
    have hq : (if s.fresh.masterPriv m priv then 0 else r.prv) = 0 := by
      rcases hd.2.1 with hp | hp
      · rw [hp]; rfl
      · rw [hp r hrow]; simp
    have hrow' : rowAt s.fresh.variant f.adr = some r := hrow
    rw [State.asRead, hrow']
    simp only [hq, Nat.or_zero, ← hx]
  set n := f.into (clearBits x (r.sc ||| r.wo)) v with hn
  have hnbit (i : Nat) : n.testBit i = if f.lo ≤ i ∧ i ≤ f.hi then v.testBit (i - f.lo) else (x.testBit i && !(r.sc ||| r.wo).testBit i) := by
    rw [hn, Fld.testBit_into f hlo, testBit_clearBits]
  have hnlt : n < 2 ^ 32 := Fld.into_lt f hlo hhi _ _ (clearBits_lt _ _ (s.fresh.rd_lt _))
  have htakes : r.takes f.adr x n = true := by
    have hsame : (n ^^^ x) &&& r.rsv = 0 := by
      apply Nat.eq_of_testBit_eq
      intro i
      rw [Nat.testBit_and, Nat.testBit_xor, hnbit, Nat.zero_testBit]
      split
      · next hi => rw [(hbits i hi.1 hi.2).2.2.2, Bool.and_false]
      · cases hc : (r.sc ||| r.wo).testBit i
        · simp
        · rw [hcmd i hc, Bool.and_false]
    simp only [Row.takes, Bool.and_eq_true, beq_iff_eq, bne_iff_ne, ne_eq, Nat.blt_eq]
    exact ⟨⟨⟨⟨⟨⟨hnlt, h1⟩, h2⟩, h5⟩, hsame⟩, h6⟩, h7⟩
  have hmerged : r.merged x n = f.into x v := by
    apply Nat.eq_of_testBit_eq
    intro i
    have hi32 : 32 ≤ i → n.testBit i = false := fun h => Nat.testBit_lt_two_pow (Nat.lt_of_lt_of_le hnlt (Nat.pow_le_pow_right (by decide) h))
    simp only [Row.merged, Nat.testBit_or, testBit_clearBits, Nat.testBit_and, Fld.testBit_into f hlo, hnbit,
      show (0xFFFFFFFF : Nat) = 2 ^ 32 - 1 from rfl, Nat.testBit_two_pow_sub_one]
    split
    · next hi =>
      obtain ⟨b1, b2, b3, -⟩ := hbits i hi.1 hi.2
      have : i < 32 := by omega
      simp [b1, b2, b3, this]
    · cases x.testBit i <;> cases r.rw.testBit i <;> cases r.sc.testBit i <;> cases r.wo.testBit i <;> simp
  have hnone : n &&& (r.sc ||| r.wo) &&& 0xFFFFFFFF = 0 := by
    apply Nat.eq_of_testBit_eq
    intro i
    rw [Nat.testBit_and, Nat.testBit_and, hnbit, Nat.zero_testBit]
    split
    · next hi =>
      obtain ⟨-, b2, b3, -⟩ := hbits i hi.1 hi.2
      simp [Nat.testBit_or, b2, b3]
    · cases (r.sc ||| r.wo).testBit i <;> simp
  refine ⟨?_, hok, h3, h4⟩
  rw [State.strikeFld, hread, ← hn, State.word_direct s.fresh m priv f.adr n r hd hrow htakes, hmerged, hnone]
  rfl

/-- A field that a master changes is set, and the rule behind its register acts. -/
theorem Direct.strikeFldAt {s : State} {m : Master} {priv : Bool} {f : Fld} (h : Direct s m priv f.adr) (hs : OffersAt s.variant f) {v : Nat}
    (hv : v < 2 ^ f.width) (hne : s.fld f ≠ v) :
    s.fresh.strikeFld m priv f v = (s.fresh.set f v).regEffect m (s.masterPriv m priv) f.adr (s.reg f.adr) 0 := by
  obtain ⟨hl, hok, h3, h4⟩ := h.landsFld hs v
  obtain ⟨hlo, -⟩ := Fld.ok_le hok
  have hset : s.fresh.keepWord f.adr (f.into (s.rd f.adr) v) = s.fresh.set f v := by
    have hw : s.fresh.rd f.adr ≠ f.into (s.rd f.adr) v := fun e => hne (by
      have := Fld.of_into_same f hlo (s.rd f.adr) v
      rw [← e, Nat.mod_eq_of_lt hv] at this
      exact this)
    rw [State.keepWord, if_neg hw]
    rfl
  rw [hl, hset]
  refine State.act_effect _ m _ f.adr (s.reg f.adr) 0 ((State.effectOwed_wr _ _ _ _ h3 h4).trans h.2.2) (.inl fun e => hne ?_)
  have hfld : (s.fresh.set f v).fld f = s.fld f := State.fld_eq_of_reg e
  rw [← hfld, State.fld_set_same _ hok, Nat.mod_eq_of_lt hv]

theorem Direct.strikeFld {s : State} {m : Master} {priv : Bool} {f : Fld} (h : Direct s m priv f.adr) (hs : Offers f) {v : Nat}
    (hv : v < 2 ^ f.width) (hne : s.fld f ≠ v) :
    s.fresh.strikeFld m priv f v = (s.fresh.set f v).regEffect m (s.masterPriv m priv) f.adr (s.reg f.adr) 0 := h.strikeFldAt (hs _) hv hne

/-- A field that a master writes as it stands changes nothing. -/
theorem Direct.strikeFld_same {s : State} {m : Master} {priv : Bool} {f : Fld} (h : Direct s m priv f.adr) (hs : OffersAt s.variant f)
    (hq : actsAlways f.adr 0 = false) : s.fresh.strikeFld m priv f (s.fld f) = s.fresh := by
  obtain ⟨hl, hok, -⟩ := h.landsFld hs (s.fld f)
  obtain ⟨hlo, hhi⟩ := Fld.ok_le hok
  have hsame : f.into (s.rd f.adr) (s.fld f) = s.rd f.adr := by
    apply Nat.eq_of_testBit_eq
    intro i
    rw [Fld.testBit_into f hlo]
    split
    · next hi =>
      have hw : i - f.lo < f.width := by simp only [Fld.width]; omega
      rw [State.fld, Fld.testBit_of, decide_eq_true hw, Bool.true_and, Nat.add_sub_of_le hi.1]
    · rfl
  have hkeep : s.fresh.keepWord f.adr (f.into (s.rd f.adr) (s.fld f)) = s.fresh := by
    rw [hsame]
    exact if_pos rfl
  have ho : s.fresh.effectOwed f.adr = false := h.2.2
  rw [hl, hkeep, State.act, ho, hq]
  simp

end Sys2Proof.Machine
end

section
/-! PROOFS. The bypass: JOIN_NOW, FORCE_CLOSE, delayed joins and the contacts (R36, R39, R41, R42). -/

namespace Sys2Proof.Machine

/-! ### Joins -/

/-- A closed bypass opens (R36). -/
theorem State.bypassJoin_closed (s : State) (hr : s.test.running = none) (hi : s.test.reinit = none)
    (h0 : s.fld F.RING_BYPASS_STATUS_STATE = 0) :
    s.bypassJoin.fld F.RING_BYPASS_STATUS_STATE = 1 ∧ s.bypassJoin.fld F.RING_BYPASS_STATUS_WAIT_S = 0 ∧ s.bypassJoin.ring.join = .none := by
  set j := (s.updRing fun r => { r with join := .none }).set F.RING_BYPASS_STATUS_WAIT_S 0 with hj
  have hj0 : j.fld F.RING_BYPASS_STATUS_STATE = 0 := (State.fld_set_free _ (by decide) _).trans h0
  have hjoin : s.bypassJoin = j.set F.RING_BYPASS_STATUS_STATE 1 := by
    rw [State.bypassJoin_idle s hr hi, ← hj, hj0]
    rfl
  rw [hjoin]
  refine ⟨State.fld_set_same _ (by decide) 1, ?_, by simp [hj, State.updRing]⟩
  rw [State.fld_set_free _ (by decide), hj, State.fld_set_same _ (by decide)]
  rfl

theorem joinNow_strikes : Strikes A.RING_BYPASS_CTL 4 := fun v => by cases v <;> decide

/-- What JOIN_NOW does while FORCE_CLOSE stands as it was (R41). -/
theorem State.joinNow_eq (s : State) (m : Master) (priv : Bool) (hd : Direct s m priv A.RING_BYPASS_CTL) :
    s.fresh.strike m priv A.RING_BYPASS_CTL 4 =
      if s.on F.RING_BYPASS_CTL_FORCE_CLOSE || !s.upAndReady || s.ringBlocked then s.fresh.set F.RING_BYPASS_STATUS_JOIN_REFUSED 1
      else s.fresh.bypassJoin := by
  have hreg : s.fresh.regEffect m (s.masterPriv m priv) A.RING_BYPASS_CTL (s.reg A.RING_BYPASS_CTL) 4 =
      s.fresh.bypassCtl (F.RING_BYPASS_CTL_FORCE_CLOSE.of (s.reg A.RING_BYPASS_CTL).toNat == 1) true := rfl
  have hforce : (F.RING_BYPASS_CTL_FORCE_CLOSE.of (s.reg A.RING_BYPASS_CTL).toNat == 1) = s.on F.RING_BYPASS_CTL_FORCE_CLOSE := by
    have hlt : s.fld F.RING_BYPASS_CTL_FORCE_CLOSE < 2 := s.fld_lt F.RING_BYPASS_CTL_FORCE_CLOSE
    change (s.fld F.RING_BYPASS_CTL_FORCE_CLOSE == 1) = (s.fld F.RING_BYPASS_CTL_FORCE_CLOSE != 0)
    interval_cases s.fld F.RING_BYPASS_CTL_FORCE_CLOSE <;> rfl
  rw [hd.strike joinNow_strikes, hreg, hforce]
  unfold State.bypassCtl
  cases hf : s.on F.RING_BYPASS_CTL_FORCE_CLOSE <;>
    simp only [State.on_fresh, hf, Bool.not_true, Bool.not_false, Bool.and_false, Bool.and_true, Bool.false_and,
      State.when_false, if_true] <;> rfl

/-- JOIN_NOW opens a closed bypass (R41). -/
theorem answers_bypassJoinNow (s : State) (m : Master) (priv : Bool) (hd : Direct s m priv A.RING_BYPASS_CTL)
    (hf : s.on F.RING_BYPASS_CTL_FORCE_CLOSE = false) (hu : s.upAndReady = true) (hb : s.ringBlocked = false)
    (hr : s.test.running = none) (hi : s.test.reinit = none) (h0 : s.fld F.RING_BYPASS_STATUS_STATE = 0) :
    Answers (.bypassJoinNow m priv) s fun t =>
      t.fld F.RING_BYPASS_STATUS_STATE = 1 ∧ t.fld F.RING_BYPASS_STATUS_WAIT_S = 0 ∧ t.ring.join = .none ∧
      Framed [A.RING_BYPASS_STATUS] [.ring] s t := by
  have heff : s.fresh.strike m priv A.RING_BYPASS_CTL 4 = s.fresh.bypassJoin := by
    rw [State.joinNow_eq s m priv hd, hf, hu, hb]
    rfl
  obtain ⟨h1, h2, h3⟩ := s.fresh.bypassJoin_closed hr hi h0
  have hframe := Chg.refl.fresh.trans (chg_bypassJoin s.fresh hr hi)
  refine answers_effect _ rfl heff hframe ⟨?_, ?_, ?_, hframe.framed⟩
  · rw [State.fld_seal _ _ (by decide), h1]
  · rw [State.fld_seal _ _ (by decide), h2]
  · rw [State.seal_ring, h3]

/-- JOIN_NOW is refused while FORCE_CLOSE is set, the module is not up and ready, or its ring is blocked (R41). -/
theorem answers_bypassJoinNow_refused (s : State) (m : Master) (priv : Bool) (hd : Direct s m priv A.RING_BYPASS_CTL)
    (h : s.on F.RING_BYPASS_CTL_FORCE_CLOSE = true ∨ s.upAndReady = false ∨ s.ringBlocked = true) :
    Answers (.bypassJoinNow m priv) s fun t =>
      t.on F.RING_BYPASS_STATUS_JOIN_REFUSED = true ∧
      t.fld F.RING_BYPASS_STATUS_STATE = s.fld F.RING_BYPASS_STATUS_STATE ∧ Framed [A.RING_BYPASS_STATUS] [] s t := by
  have heff : s.fresh.strike m priv A.RING_BYPASS_CTL 4 = s.fresh.set F.RING_BYPASS_STATUS_JOIN_REFUSED 1 := by
    rw [State.joinNow_eq s m priv hd]
    refine if_pos ?_
    rcases h with h | h | h <;> simp [h]
  have hframe : Chg (Listed [A.RING_BYPASS_STATUS]) (Parts []) NoMem s (s.fresh.set F.RING_BYPASS_STATUS_JOIN_REFUSED 1) := by simp
  refine answers_effect _ rfl heff hframe ⟨?_, ?_, hframe.framed⟩
  · rw [State.on_seal _ _ (by decide), State.on_set_same _ (by decide)]
    rfl
  · rw [State.fld_seal _ _ (by decide), State.fld_set_free _ (by decide)]
    rfl

/-! ### FORCE_CLOSE -/

theorem forceClose_offers : Offers F.RING_BYPASS_CTL_FORCE_CLOSE := fun v => by cases v <;> decide

/-- FORCE_CLOSE closes an open bypass and reverses a join (R42). -/
theorem answers_bypassForceClose (s : State) (m : Master) (priv : Bool) (hd : Direct s m priv A.RING_BYPASS_CTL)
    (hf : s.on F.RING_BYPASS_CTL_FORCE_CLOSE = false) (hst : s.fld F.RING_BYPASS_STATUS_STATE = 1 ∨ s.fld F.RING_BYPASS_STATUS_STATE = 2) :
    Answers (.bypassForceClose true m priv) s fun t =>
      t.on F.RING_BYPASS_CTL_FORCE_CLOSE = true ∧ t.fld F.RING_BYPASS_STATUS_STATE = 3 ∧ t.ring.join = .none ∧
      Framed [A.RING_BYPASS_CTL, A.RING_BYPASS_STATUS] [.ring] s t := by
  have hf0 : s.fld F.RING_BYPASS_CTL_FORCE_CLOSE = 0 := by simpa [State.on] using hf
  set e := s.fresh.set F.RING_BYPASS_CTL_FORCE_CLOSE 1 with he
  have heon : e.on F.RING_BYPASS_CTL_FORCE_CLOSE = true := (State.on_set_same _ (by decide) 1).trans rfl
  have hest : e.fld F.RING_BYPASS_STATUS_STATE = 1 ∨ e.fld F.RING_BYPASS_STATUS_STATE = 2 := by
    rw [he, State.fld_set_ne _ _ (by decide)]
    exact hst
  set j := (e.updRing fun r => { r with join := .none }).set F.RING_BYPASS_STATUS_WAIT_S 0 with hj
  set c := j.set F.RING_BYPASS_STATUS_STATE 3 with hc
  have hclose : e.bypassClose = c.keep F.RING_BYPASS_STATUS_CLOSE_CAUSE c.closeCause := by
    have hg : (e.fld F.RING_BYPASS_STATUS_STATE == 1 || e.fld F.RING_BYPASS_STATUS_STATE == 2) = true := by
      rcases hest with h | h <;> rw [h] <;> rfl
    unfold State.bypassClose
    dsimp only
    rw [hg, State.when_true]
  have heff : s.fresh.strikeFld m priv F.RING_BYPASS_CTL_FORCE_CLOSE 1 = c.keep F.RING_BYPASS_STATUS_CLOSE_CAUSE c.closeCause := by
    have hreg : e.regEffect m (s.masterPriv m priv) A.RING_BYPASS_CTL (s.reg A.RING_BYPASS_CTL) 0 =
        e.bypassCtl (s.fld F.RING_BYPASS_CTL_FORCE_CLOSE == 1) false := rfl
    have hne : s.fld F.RING_BYPASS_CTL_FORCE_CLOSE ≠ 1 := by rw [hf0]; decide
    have hstrike := Direct.strikeFld (f := F.RING_BYPASS_CTL_FORCE_CLOSE) hd forceClose_offers (v := 1) (by decide) hne
    rw [hstrike, ← he]
    change e.regEffect m (s.masterPriv m priv) A.RING_BYPASS_CTL (s.reg A.RING_BYPASS_CTL) 0 = _
    rw [hreg, hf0, ← hclose]
    simp [State.bypassCtl, heon, State.when]
  have hframe : Chg (Listed [A.RING_BYPASS_CTL, A.RING_BYPASS_STATUS]) (Parts [.ring]) NoMem s
      (c.keep F.RING_BYPASS_STATUS_CLOSE_CAUSE c.closeCause) := by simp [hc, hj, he]
  refine answers_effect _ rfl heff hframe ⟨?_, ?_, ?_, hframe.framed⟩
  · rw [State.on_seal _ _ (by decide), State.on, State.fld_keep_free _ (by decide), hc, State.fld_set_ne _ _ (by decide), hj,
      State.fld_set_ne _ _ (by decide), State.fld_updRing]
    exact heon
  · rw [State.fld_seal _ _ (by decide), State.fld_keep_free _ (by decide), hc, State.fld_set_same _ (by decide)]
    rfl
  · have hring : (c.keep F.RING_BYPASS_STATUS_CLOSE_CAUSE c.closeCause).ring = (e.updRing fun r => { r with join := .none }).ring := by
      simp [hc, hj]
    rw [State.seal_ring, hring, State.updRing_self]

/-! ### A delayed join falls due -/

theorem joinDue_effect (s : State) (e : Nat) (hj : s.ring.join = .delay e) :
    (match s.fresh.ring.join with
      | .delay _ => s.fresh.joinDue
      | _ => s.fresh) = s.fresh.joinDue := by
  rw [show s.fresh.ring.join = .delay e from hj]

/-- No join waits any more. -/
def State.joinTaken (s : State) : State := (s.updRing fun r => { r with join := .none }).set F.RING_BYPASS_STATUS_WAIT_S 0

theorem chg_joinTaken (s : State) : Chg (Listed [A.RING_BYPASS_STATUS]) (Parts [.ring]) NoMem s s.joinTaken := by simp [State.joinTaken]

theorem State.joinTaken_join (s : State) : s.joinTaken.ring.join = .none := by
  rw [State.joinTaken, State.set_ring, State.updRing_self]

/-- A delayed join falls due and opens a closed bypass (R39). -/
theorem answers_bypassJoinDelayExpiry (s : State) (e : Nat) (hj : s.ring.join = .delay e) (hf : s.on F.RING_BYPASS_CTL_FORCE_CLOSE = false)
    (hb : s.ringBlocked = false) (hu : s.upAndReady = true) (hr : s.test.running = none) (hi : s.test.reinit = none)
    (h0 : s.fld F.RING_BYPASS_STATUS_STATE = 0) :
    Answers .bypassJoinDelayExpiry s fun t =>
      t.fld F.RING_BYPASS_STATUS_STATE = 1 ∧ t.ring.join = .none ∧ Framed [A.RING_BYPASS_STATUS] [.ring] s t := by
  set d := s.fresh.joinTaken with hd
  have hchg : Chg (Listed [A.RING_BYPASS_STATUS]) (Parts [.ring]) NoMem s d := Chg.refl.fresh.trans (chg_joinTaken _)
  have htest : d.test = s.test := hchg.part .test (by simp)
  have hforce : d.on F.RING_BYPASS_CTL_FORCE_CLOSE = false := by rw [hchg.on_off (by decide), hf]
  have hblock : d.ringBlocked = false := by
    rw [← hb]
    simp only [State.ringBlocked, htest, hchg.fld_off (g := F.PWR_UNIT_STATUS_FAILED) (by decide),
      State.rd_eq_of_reg (hchg.reg A.TEST_RETIRED (by simp; decide))]
  have hup : d.upAndReady = true := by
    rw [← hu]
    simp only [State.upAndReady, State.modState, hchg.fld_off (g := F.SYS_MOD_STATE_STATE) (by decide),
      show d.pwr = s.pwr from hchg.part .pwr (by simp)]
  have heff : s.fresh.joinDue = d.bypassJoin := by
    unfold State.joinDue
    dsimp only
    rw [← State.joinTaken, ← hd, hforce, hblock, hup]
    rfl
  have hr' : d.test.running = none := by rw [htest, hr]
  have hi' : d.test.reinit = none := by rw [htest, hi]
  obtain ⟨h1, -, h3⟩ := d.bypassJoin_closed hr' hi' ((State.fld_set_free _ (by decide) 0).trans h0)
  have hframe := hchg.trans (chg_bypassJoin d hr' hi')
  refine answers_effect _ rfl ((joinDue_effect s e hj).trans heff) hframe ⟨?_, ?_, hframe.framed⟩
  · rw [State.fld_seal _ _ (by decide), h1]
  · rw [State.seal_ring, h3]

/-- A delayed join that falls due under FORCE_CLOSE is dropped (R39). -/
theorem answers_bypassJoinDelayExpiry_forced (s : State) (e : Nat) (hj : s.ring.join = .delay e)
    (hf : s.on F.RING_BYPASS_CTL_FORCE_CLOSE = true) :
    Answers .bypassJoinDelayExpiry s fun t =>
      t.fld F.RING_BYPASS_STATUS_STATE = s.fld F.RING_BYPASS_STATUS_STATE ∧ t.ring.join = .none ∧
      Framed [A.RING_BYPASS_STATUS] [.ring] s t := by
  have hchg : Chg (Listed [A.RING_BYPASS_STATUS]) (Parts [.ring]) NoMem s s.fresh.joinTaken := Chg.refl.fresh.trans (chg_joinTaken _)
  have hforce : s.fresh.joinTaken.on F.RING_BYPASS_CTL_FORCE_CLOSE = true := by rw [hchg.on_off (by decide), hf]
  have heff : s.fresh.joinDue = s.fresh.joinTaken := by
    unfold State.joinDue
    dsimp only
    rw [← State.joinTaken, hforce]
    rfl
  refine answers_effect _ rfl ((joinDue_effect s e hj).trans heff) hchg ⟨?_, ?_, hchg.framed⟩
  · rw [State.fld_seal _ _ (by decide), State.joinTaken, State.fld_set_free _ (by decide)]
    rfl
  · rw [State.seal_ring, State.joinTaken_join]

/-! ### The contacts settle -/

theorem chg_bypassOp (s : State) : Chg (Listed [A.MGMT_EVT]) (Parts [.mgmt]) NoMem s s.bypassOp := by
  simp only [State.bypassOp, State.when]
  split <;> simp

/-- The contacts open and the join is done (R42). -/
theorem answers_bypassContactsSettled_open (s : State) (h : s.fld F.RING_BYPASS_STATUS_STATE = 1) :
    Answers .bypassContactsSettled s fun t =>
      t.fld F.RING_BYPASS_STATUS_STATE = 2 ∧ t.fld F.RING_BYPASS_STATUS_CLOSE_CAUSE = 0 ∧ t.on F.RING_EVT_JOIN_DONE = true ∧
      Framed [A.RING_BYPASS_STATUS, A.RING_EVT, A.MGMT_EVT] [.mgmt] s t := by
  set d := ((s.fresh.set F.RING_BYPASS_STATUS_STATE 2).set F.RING_BYPASS_STATUS_CLOSE_CAUSE 0).event F.RING_EVT_JOIN_DONE with hd
  have heff : s.fresh.bypassSettled = d.bypassOp.log 2 1 1 [2, 0] := if_pos h
  have hd0 : Chg (Listed [A.RING_BYPASS_STATUS, A.RING_EVT, A.MGMT_EVT]) (Parts [.mgmt]) NoMem s d := by simp [hd]
  have hop : Chg (Listed [A.MGMT_EVT]) (Parts [.mgmt]) NoMem d (d.bypassOp.log 2 1 1 [2, 0]) := by simpa using chg_bypassOp d
  have hframe : Chg (Listed [A.RING_BYPASS_STATUS, A.RING_EVT, A.MGMT_EVT]) (Parts [.mgmt]) NoMem s (d.bypassOp.log 2 1 1 [2, 0]) :=
    hd0.trans (hop.mono (fun a ha => ha.imp (fun h => by simp [List.mem_singleton.mp h]) id) (fun _ h => h) fun _ h => h)
  refine answers_effect _ rfl heff hframe ⟨?_, ?_, ?_, hframe.framed⟩
  · rw [State.fld_seal _ _ (by decide), hop.fld_off (by decide), hd, State.fld_event_ne (by decide), State.fld_set_free _ (by decide),
      State.fld_set_same _ (by decide)]
    rfl
  · rw [State.fld_seal _ _ (by decide), hop.fld_off (by decide), hd, State.fld_event_ne (by decide), State.fld_set_same _ (by decide)]
    rfl
  · rw [State.on_seal _ _ (by decide), hop.on_off (by decide), hd, State.on_event_same _ (by decide)]

/-- The contacts close, and both ring links are down (R42). -/
theorem answers_bypassContactsSettled_closed (s : State) (h : s.fld F.RING_BYPASS_STATUS_STATE = 3) :
    Answers .bypassContactsSettled s fun t =>
      t.fld F.RING_BYPASS_STATUS_STATE = 0 ∧ t.on F.RING_EVT_BYPASS_CLOSED = true ∧ t.linkUp 0 = false ∧ t.linkUp 1 = false ∧
      MemKept s t := by
  set z := s.fresh.set F.RING_BYPASS_STATUS_STATE 0 with hz
  set d := (z.linkDrop 0).linkDrop 1 with hd
  set k := d.keep F.RING_BYPASS_STATUS_CLOSE_CAUSE d.closeCause with hk
  set v := k.event F.RING_EVT_BYPASS_CLOSED with hv
  set u := v.bypassOp.log 2 1 1 [0, k.fld F.RING_BYPASS_STATUS_CLOSE_CAUSE] with hu
  have hop : Chg (Listed [A.MGMT_EVT]) (Parts [.mgmt]) NoMem v u := by simpa [hu] using chg_bypassOp v
  have hdrop : Chg AnyReg AnyPart NoMem z d := (chg_linkDrop z (by decide)).anywhere.trans (chg_linkDrop _ (by decide)).anywhere
  have hall : Chg AnyReg AnyPart NoMem s u :=
    ((((Chg.refl.fresh.set _ _ trivial).trans hdrop).keep _ _ trivial).event _ trivial).trans hop.anywhere
  have hvd (g : Fld) (h1 : g.adr ≠ A.RING_EVT) (h2 : Fld.free F.RING_BYPASS_STATUS_CLOSE_CAUSE g = true) (h3 : g.adr ∉ [A.MGMT_EVT] ++ summaries) :
      u.fld g = d.fld g := by
    rw [hop.fld_off h3, hv, State.fld_event_ne h1, hk, State.fld_keep_free _ h2]
  have hstate : d.fld F.RING_BYPASS_STATUS_STATE = 0 := by
    have hn (p : Nat) (hp : p < 2) : ¬ FallRegs p A.RING_BYPASS_STATUS := by
      rintro (h | h)
      · exact absurd h.1 (by decide)
      · interval_cases p <;> exact absurd h (by decide)
    rw [hd, (chg_linkDrop _ (by decide)).fld (hn 1 (by decide)), (chg_linkDrop z (by decide)).fld (hn 0 (by decide)), hz,
      State.fld_set_same _ (by decide)]
    rfl
  have heff : s.fresh.bypassSettled = u := by
    have h1 : ¬ s.fresh.fld F.RING_BYPASS_STATUS_STATE = 1 := by rw [State.fld_fresh, h]; decide
    unfold State.bypassSettled
    dsimp only
    rw [if_neg h1]
    exact if_pos h
  refine answers_effect _ rfl heff hall ⟨?_, ?_, ?_, ?_, hall.memKept⟩
  · rw [State.fld_seal _ _ (by decide), hvd _ (by decide) (by decide) (by decide), hstate]
  · rw [State.on_seal _ _ (by decide), hop.on_off (by decide), hv, State.on_event_same _ (by decide)]
  · rw [State.linkUp, State.on_seal _ _ (by decide), State.on, hvd _ (by decide) (by decide) (by decide)]
    change d.linkUp 0 = false
    rw [hd, State.linkDrop_other _ (by decide) (by decide) (by decide), State.linkDrop_linkUp _ (by decide)]
  · rw [State.linkUp, State.on_seal _ _ (by decide), State.on, hvd _ (by decide) (by decide) (by decide)]
    change d.linkUp 1 = false
    rw [hd, State.linkDrop_linkUp _ (by decide)]

/-- Settles O19. -/
theorem bypass : Obligations.Bypass :=
  ⟨answers_bypassJoinNow, answers_bypassJoinNow_refused, answers_bypassForceClose, answers_bypassJoinDelayExpiry,
    answers_bypassJoinDelayExpiry_forced, answers_bypassContactsSettled_open, answers_bypassContactsSettled_closed⟩

end Sys2Proof.Machine
end

section
/-! PROOFS. Words and counters read after an effect (R67). -/

namespace Sys2Proof.Machine

/-- A word that counting elsewhere leaves. -/
def bumpFree (a b : Nat) : Bool := a != b && a != (satOf b).adr && (satOf b).event.all fun f => f.adr != a

/-- A counter that its own saturation bit and event do not touch. -/
def bumpOk (a : Nat) : Bool := (satOf a).adr != a && (satOf a).event.all fun f => f.adr != a

section
variable {s : State}

theorem State.reg_bump_free {a b : Nat} (n : Nat) (h : bumpFree a b = true) : (s.bump b n).reg a = s.reg a := by
  simp only [bumpFree, Bool.and_eq_true, bne_iff_ne, ne_eq] at h
  obtain ⟨⟨h1, h2⟩, h3⟩ := h
  refine State.reg_bump_other s n h1 h2 fun f hf => ?_
  rw [Option.mem_def] at hf
  rw [hf, Option.all_some, bne_iff_ne, ne_eq] at h3
  exact fun e => h3 e.symm

theorem State.rd_bump_free {a b : Nat} (n : Nat) (h : bumpFree a b = true) : (s.bump b n).rd a = s.rd a :=
  State.rd_eq_of_reg (State.reg_bump_free n h)
theorem State.rd_inc_free {a b : Nat} (h : bumpFree a b = true) : (s.inc b).rd a = s.rd a := State.rd_bump_free 1 h
theorem State.fld_bump_free {g : Fld} {b : Nat} (n : Nat) (h : bumpFree g.adr b = true) : (s.bump b n).fld g = s.fld g :=
  State.fld_eq_of_reg (State.reg_bump_free n h)
theorem State.fld_inc_free {g : Fld} {b : Nat} (h : bumpFree g.adr b = true) : (s.inc b).fld g = s.fld g := State.fld_bump_free 1 h

theorem State.rd_bump_counts {a : Nat} (n : Nat) (h : bumpOk a = true) : (s.bump a n).rd a = min (s.rd a + n) 0xFFFFFFFF := by
  simp only [bumpOk, Bool.and_eq_true, bne_iff_ne, ne_eq] at h
  refine State.rd_bump_same s a n h.1 fun f hf => ?_
  have h3 := h.2
  rw [Option.mem_def] at hf
  rw [hf] at h3
  simpa using h3

theorem State.rd_inc_counts {a : Nat} (h : bumpOk a = true) : (s.inc a).rd a = min (s.rd a + 1) 0xFFFFFFFF := State.rd_bump_counts 1 h

theorem State.rd_set_ne {f : Fld} {a : Nat} (v : Nat) (h : a ≠ f.adr) : (s.set f v).rd a = s.rd a := State.rd_eq_of_reg (State.reg_set_ne _ _ _ h)
theorem State.rd_event_ne {f : Fld} {a : Nat} (h : a ≠ f.adr) : (s.event f).rd a = s.rd a := State.rd_set_ne 1 h
theorem State.rd_wr_ne {a b : Nat} (n : Nat) (h : a ≠ b) : (s.wr b n).rd a = s.rd a := State.rd_eq_of_reg (State.reg_wr_ne _ _ h)
theorem State.rd_keep_ne {f : Fld} {a : Nat} (v : Nat) (h : a ≠ f.adr) : (s.keep f v).rd a = s.rd a := State.rd_eq_of_reg (State.reg_keep_ne _ _ _ h)
theorem State.rd_advance_ne {a : Nat} (dt : Nat) (h : a ∉ timeRegs) : (s.advance dt).rd a = s.rd a := State.rd_eq_of_reg (State.reg_advance _ _ h)
theorem State.rd_when {a : Nat} (b : Bool) (f : State → State) (h : (f s).rd a = s.rd a) : (s.when b f).rd a = s.rd a := by
  cases b
  · rfl
  · exact h
theorem State.rd_when_set {f : Fld} {a : Nat} (b : Bool) (v : Nat) (h : a ≠ f.adr) : (s.when b fun s => s.set f v).rd a = s.rd a :=
  State.rd_when b _ (State.rd_set_ne v h)
theorem State.rd_when_inc {c a : Nat} (b : Bool) (h : bumpFree a c = true) : (s.when b fun s => s.inc c).rd a = s.rd a :=
  State.rd_when b _ (State.rd_inc_free h)
@[simp] theorem State.rd_rpUpd (p : Nat) (f : RingPort → RingPort) (a : Nat) : (s.rpUpd p f).rd a = s.rd a := rfl
theorem State.rd_when_rpUpd (b : Bool) (p : Nat) (f : RingPort → RingPort) (a : Nat) : (s.when b fun s => s.rpUpd p f).rd a = s.rd a :=
  State.rd_when b _ rfl
@[simp] theorem State.rd_putOut (o : Out) (a : Nat) : (s.putOut o).rd a = s.rd a := rfl
@[simp] theorem State.fld_putOut (o : Out) (g : Fld) : (s.putOut o).fld g = s.fld g := rfl

end

/-! ### Counting as a rewriting rule of frames -/

section
variable {R : Nat → Prop} {P : Part → Prop} {M : Nat → Prop} {s t : State}

/-- Counting changes no more than the counter and its saturation bit where no event belongs to it. -/
theorem Chg.incAt (h : Chg R P M s t) {a b : Nat} (n : Nat) (hs : (satOf a).adr = b) (he : (satOf a).event = none) (ha : R a) (hb : R b) :
    Chg R P M s (t.bump a n) :=
  h.bump a n ha (by rw [hs]; exact hb) (by rw [he]; intro f hf; cases hf)

end

/-! ### Outputs -/

theorem State.mem_settleMsix_out (s : State) (n : Nat) {o : Out} (h : o ∈ s.out) : o ∈ (s.settleMsix n).out := by
  unfold State.settleMsix
  dsimp only
  split
  · exact h
  · exact List.mem_append_left _ h

/-- What an effect puts out stays out. -/
theorem State.mem_seal_out (s u : State) {o : Out} (h : o ∈ u.out) : o ∈ (s.seal u).out := by
  have hsettle : o ∈ u.settle.out := by
    unfold State.settle
    dsimp only
    refine State.mem_settleMsix_out _ 1 (State.mem_settleMsix_out _ 0 ?_)
    have h1 : u.settleFault.out = u.out := by simp [State.settleFault, State.when]; split <;> simp
    have h2 (v : State) : v.settleAlm.out = v.out := by unfold State.settleAlm; split <;> rfl
    have h3 (v : State) (a n : Nat) : (v.keepWord a n).out = v.out := by unfold State.keepWord; split <;> simp
    rw [h3, h3, h2, h1]
    exact h
  exact hsettle

end Sys2Proof.Machine
end

section
/-! PROOFS. The row of a word whose index is a variable: the map's rows one after another (chapter 20). -/

namespace Sys2Proof.Machine

/-- The row holds the word at this address, in numbers. -/
def Row.Spans (adr s1 c1 s2 c2 a : Nat) : Prop :=
  adr ≤ a ∧ (a - adr) / s1 < c1 ∧ (a - adr) % s1 % s2 = 0 ∧ (a - adr) % s1 / s2 < c2

theorem Row.holds_iff (r : Row) (a : Nat) : r.holds a = true ↔ Row.Spans r.adr r.s1 r.c1 r.s2 r.c2 a := by
  simp [Row.holds, Row.Spans, and_assoc]

/-- A row that does not hold the word is passed over. -/
theorem find_row_skip {a adr s1 c1 s2 c2 x1 x2 x3 x4 x5 x6 x7 x8 x9 x10 : Nat} {l : List Row}
    (h : ¬ (adr ≤ a ∧ (a - adr) / s1 < c1 ∧ (a - adr) % s1 % s2 = 0 ∧ (a - adr) % s1 / s2 < c2)) :
    ((⟨adr, s1, c1, s2, c2, x1, x2, x3, x4, x5, x6, x7, x8, x9, x10⟩ : Row) :: l).find? (fun r => r.holds a) = l.find? (fun r => r.holds a) :=
  List.find?_cons_of_neg fun hr => h ((Row.holds_iff _ a).mp hr)

/-- The first row that holds the word is the word's. -/
theorem find_row_hit {a adr s1 c1 s2 c2 x1 x2 x3 x4 x5 x6 x7 x8 x9 x10 : Nat} {l : List Row}
    (h : adr ≤ a ∧ (a - adr) / s1 < c1 ∧ (a - adr) % s1 % s2 = 0 ∧ (a - adr) % s1 / s2 < c2) :
    ((⟨adr, s1, c1, s2, c2, x1, x2, x3, x4, x5, x6, x7, x8, x9, x10⟩ : Row) :: l).find? (fun r => r.holds a) =
      some ⟨adr, s1, c1, s2, c2, x1, x2, x3, x4, x5, x6, x7, x8, x9, x10⟩ :=
  List.find?_cons_of_pos ((Row.holds_iff _ a).mpr h)

theorem rowAt_gate (v : Variant) {k : Nat} (hk : k < 256) :
    rowAt v (A.RING_GATE k) = some ⟨0x20800, 4, 0x100, 4, 1, 0xffffffff, 0, 0, 0, 0, 0, 0, 0, 0, 0⟩ := by
  have hwin : rowsAt v (A.RING_GATE k) = rowsRING0 v := by
    unfold rowsAt
    rw [show A.RING_GATE k / 0x10000 = 2 by unfold A.RING_GATE; omega]
    rfl
  rw [rowAt, hwin, rowsRING0, A.RING_GATE]
  simp (disch := omega) only [find_row_skip, find_row_hit]

end Sys2Proof.Machine
end

section
/-! PROOFS. Shapers, the gate cycle and pause (R45, R48, R49, R62 to R65). -/

namespace Sys2Proof.Machine

/-! ### The shaper's reservations -/

theorem cbs_stores (p : Port) : StoresEverywhere (A.RING_CBS p.idx) := fun v => by cases p <;> cases v <;> decide

theorem cbs_kept (p : Port) : (F.RING_CBS_IDLE5 p.idx).kept = true ∧ (F.RING_CBS_IDLE4 p.idx).kept = true := by cases p <;> decide

/-- A reservation above 900 per mille reduces IDLE4 (R45). -/
theorem answers_cbsWrite (s : State) (p : Port) (m : Master) (priv : Bool) (w : Word) (hd : Direct s m priv (A.RING_CBS p.idx))
    (hr : AsItReads s (A.RING_CBS p.idx) w) (hne : s.reg (A.RING_CBS p.idx) ≠ w) (h5 : (F.RING_CBS_IDLE5 p.idx).of w.toNat ≤ 900) :
    Answers (.cbsWrite p (whole m priv w)) s fun t =>
      t.fld (F.RING_CBS_IDLE5 p.idx) = (F.RING_CBS_IDLE5 p.idx).of w.toNat ∧
      t.fld (F.RING_CBS_IDLE4 p.idx) =
        min ((F.RING_CBS_IDLE4 p.idx).of w.toNat) (900 - (F.RING_CBS_IDLE5 p.idx).of w.toNat) ∧
      (900 < (F.RING_CBS_IDLE5 p.idx).of w.toNat + (F.RING_CBS_IDLE4 p.idx).of w.toNat → t.on F.RING_EVT_CBS_CLAMP = true) ∧
      Framed [A.RING_CBS p.idx, A.RING_EVT] [] s t := by
  set e := s.fresh.wr (A.RING_CBS p.idx) w.toNat with he
  have hword (g : Fld) (hg : g.adr = A.RING_CBS p.idx) : e.fld g = g.of w.toNat := State.fld_wr_word s.fresh _ w hg
  have heff : s.fresh.words (A.RING_CBS p.idx) (whole m priv w) = e.cbsWrite p.idx := by
    have hreg : e.regEffect m (s.masterPriv m priv) (A.RING_CBS p.idx) (s.reg (A.RING_CBS p.idx)) 0 = e.cbsWrite p.idx := by
      cases p <;> rfl
    rw [hd.stores hr (cbs_stores p) hne, hreg]
  have hevt : A.RING_CBS p.idx ≠ A.RING_EVT := by unfold A.RING_CBS A.RING_EVT; omega
  obtain ⟨k5, k4⟩ := cbs_kept p
  by_cases hover : 900 < (F.RING_CBS_IDLE5 p.idx).of w.toNat + (F.RING_CBS_IDLE4 p.idx).of w.toNat
  · have hu : e.cbsWrite p.idx =
        (e.set (F.RING_CBS_IDLE4 p.idx) (900 - (F.RING_CBS_IDLE5 p.idx).of w.toNat)).event F.RING_EVT_CBS_CLAMP := by
      unfold State.cbsWrite
      dsimp only
      rw [hword _ rfl, hword _ rfl, if_pos hover]
    have hframe : Chg (Listed [A.RING_CBS p.idx, A.RING_EVT]) (Parts []) NoMem s
        ((e.set (F.RING_CBS_IDLE4 p.idx) (900 - (F.RING_CBS_IDLE5 p.idx).of w.toNat)).event F.RING_EVT_CBS_CLAMP) := by simp [he]
    refine answers_effect _ rfl (heff.trans hu) hframe ⟨?_, ?_, fun _ => ?_, hframe.framed⟩
    · rw [State.fld_seal _ _ k5, State.fld_event_ne hevt, State.fld_set_free _ (Fld.free_of_ok rfl rfl rfl), hword _ rfl]
    · rw [State.fld_seal _ _ k4, State.fld_event_ne hevt, State.fld_set_same _ rfl, Nat.min_eq_right (by omega)]
      exact Nat.mod_eq_of_lt (show _ < 1024 by omega)
    · rw [State.on_seal _ _ (by decide), State.on_event_same _ (by decide)]
  · have hu : e.cbsWrite p.idx = e := by
      unfold State.cbsWrite
      dsimp only
      rw [hword _ rfl, hword _ rfl, if_neg hover]
    have hframe : Chg (Listed [A.RING_CBS p.idx, A.RING_EVT]) (Parts []) NoMem s e := by simp [he]
    refine answers_effect _ rfl (heff.trans hu) hframe ⟨?_, ?_, fun h => absurd h hover, hframe.framed⟩
    · rw [State.fld_seal _ _ k5, hword _ rfl]
    · rw [State.fld_seal _ _ k4, hword _ rfl, Nat.min_eq_left (by omega)]

/-! ### The gate cycle -/

theorem portOfBool (b : Bool) : (if b then 1 else 0) = b.toNat := by cases b <;> rfl

theorem qbvSwap_strikes (b : Bool) : Strikes (A.RING_QBV_CTL b.toNat) 2 := fun v => by cases b <;> cases v <;> decide

theorem qbvSwap_effect (s : State) (b : Bool) (m : Master) (priv : Bool) (hd : Direct s m priv (A.RING_QBV_CTL b.toNat)) :
    s.fresh.strike m priv (A.RING_QBV_CTL (if b then 1 else 0)) 2 = s.fresh.qbvSwap b.toNat := by
  have hreg : s.fresh.regEffect m (s.masterPriv m priv) (A.RING_QBV_CTL b.toNat) (s.reg (A.RING_QBV_CTL b.toNat)) 2 =
      s.fresh.qbvSwap b.toNat := by cases b <;> rfl
  rw [portOfBool, hd.strike (qbvSwap_strikes b), hreg]

/-- SWAP anchors the next bank at the next second (R48). -/
theorem answers_qbvSwap (s : State) (b : Bool) (m : Master) (priv : Bool) (hd : Direct s m priv (A.RING_QBV_CTL b.toNat))
    (hl : b.toNat < s.ring.ports.length)
    (hsum : ((List.range (s.entryCount b.toNat)).map fun e => s.rd (gateAdr b.toNat (1 - s.operBank b.toNat) e) % 2 ^ 24).sum ≤ 125000000) :
    Answers (.qbvSwap b m priv) s fun t =>
      (t.rp b.toNat).gate.swap = true ∧ (t.rp b.toNat).gate.nextCount = s.entryCount b.toNat ∧
      (t.rp b.toNat).gate.anchor = some ((s.time.tb / secU + 1) * secU + s.fld (F.RING_QBV_PHASE_NS b.toNat) * nsU) ∧
      Framed [] [.ring] s t := by
  set u := s.fresh.rpUpd b.toNat (fun x => { x with gate := { x.gate with
    swap := true, nextCount := s.entryCount b.toNat, anchor := some (s.qbvAnchor b.toNat) } }) with hu
  have heff : s.fresh.qbvSwap b.toNat = u := if_neg (Nat.not_lt.mpr hsum)
  have hframe : Chg (Listed []) (Parts [.ring]) NoMem s u := by simp [hu]
  have hrp : (s.seal u).rp b.toNat = { s.rp b.toNat with gate := { (s.rp b.toNat).gate with
      swap := true, nextCount := s.entryCount b.toNat, anchor := some (s.qbvAnchor b.toNat) } } := by
    rw [State.rp, State.seal_ring]
    exact State.rp_rpUpd_same s.fresh hl _
  refine answers_effect _ rfl ((qbvSwap_effect s b m priv hd).trans heff) hframe ⟨?_, ?_, ?_, hframe.framed⟩
  · rw [hrp]
  · rw [hrp]
  · rw [hrp]
    rfl

/-- A bank whose entries exceed a second is not swapped in (R48). -/
theorem answers_qbvSwap_refused (s : State) (b : Bool) (m : Master) (priv : Bool) (hd : Direct s m priv (A.RING_QBV_CTL b.toNat))
    (hsum : 125000000 < ((List.range (s.entryCount b.toNat)).map fun e => s.rd (gateAdr b.toNat (1 - s.operBank b.toNat) e) % 2 ^ 24).sum) :
    Answers (.qbvSwap b m priv) s fun t =>
      t.operBank b.toNat = s.operBank b.toNat ∧ t.on F.RING_EVT_QBV_ERR = true ∧ Framed [A.RING_EVT] [] s t := by
  have heff : s.fresh.qbvSwap b.toNat = s.fresh.event F.RING_EVT_QBV_ERR := if_pos hsum
  have hframe : Chg (Listed [A.RING_EVT]) (Parts []) NoMem s (s.fresh.event F.RING_EVT_QBV_ERR) := by simp
  have hk : (F.RING_QBV_CTL_OPER_BANK b.toNat).kept = true := by cases b <;> decide
  have hne : A.RING_QBV_CTL b.toNat ≠ A.RING_EVT := by cases b <;> decide
  refine answers_effect _ rfl ((qbvSwap_effect s b m priv hd).trans heff) hframe ⟨?_, ?_, hframe.framed⟩
  · rw [State.operBank, State.fld_seal _ _ hk, State.fld_event_ne hne]
    rfl
  · rw [State.on_seal _ _ (by decide), State.on_event_same _ (by decide)]

theorem chg_elapsed_time (s : State) (dt : Nat) {l : List Nat} (hl : ∀ a ∈ timeRegs, a ∈ l) :
    Chg (Listed l) (Parts [.time, .clk, .mgmt]) NoMem s (s.fresh.advance dt) :=
  Chg.refl.fresh.advance dt (fun a ha => .inl (hl a ha)) (by simp) (by simp) (by simp)

theorem chg_elapsed (s : State) (dt : Nat) {l : List Nat} (hl : ∀ a ∈ timeRegs, a ∈ l) :
    Chg (Listed l) (Parts [.ring, .time, .clk, .mgmt]) NoMem s (s.fresh.advance dt) :=
  Chg.refl.fresh.advance dt (fun a ha => .inl (hl a ha)) (by simp) (by simp) (by simp)

theorem qbvCtl_not_time (b : Bool) : A.RING_QBV_CTL b.toNat ∉ timeRegs := by cases b <;> decide

theorem State.time_fresh_advance (s : State) (dt : Nat) : (s.fresh.advance dt).time = (s.advance dt).time := by
  simp only [State.advance, State.updMisalign_time, State.when, apply_ite State.time, State.life_time, ite_self]
  rfl

theorem operBank_kept (b : Bool) : (F.RING_QBV_CTL_OPER_BANK b.toNat).kept = true := by cases b <;> decide

/-- The gate record of a port as a cycle starts at its anchor (R48). -/
def Gate.started (g : Gate) (up : Nat) : Gate :=
  { g with swap := false, anchor := none, count := if g.swap then g.nextCount else g.count, running := true, entry := 0, cycleUp := up }

theorem State.length_rpUpd (s : State) (p : Nat) (f : RingPort → RingPort) : (s.rpUpd p f).ring.ports.length = s.ring.ports.length :=
  List.length_modify ..

/-- A pending swap makes the other bank the operating one (R49). -/
def State.bankTaken (s : State) (p : Nat) : State :=
  s.when (s.rp p).gate.swap (fun s => s.set (F.RING_QBV_CTL_OPER_BANK p) (1 - s.operBank p))

theorem State.bankTaken_ring (s : State) (p : Nat) : (s.bankTaken p).ring = s.ring := by
  unfold State.bankTaken
  cases (s.rp p).gate.swap <;> rfl

theorem State.bankTaken_time (s : State) (p : Nat) : (s.bankTaken p).time = s.time := by
  unfold State.bankTaken
  cases (s.rp p).gate.swap <;> rfl

theorem State.bankTaken_operBank (s : State) (b : Bool) :
    (s.bankTaken b.toNat).operBank b.toNat = if (s.rp b.toNat).gate.swap then 1 - s.operBank b.toNat else s.operBank b.toNat := by
  unfold State.bankTaken
  cases (s.rp b.toNat).gate.swap with
  | false => rfl
  | true =>
    rw [State.when_true, State.operBank, State.fld_set_same _ (by cases b <;> rfl)]
    exact Nat.mod_eq_of_lt (show 1 - s.operBank b.toNat < 2 by omega)

theorem chg_bankTaken {R : Nat → Prop} {P : Part → Prop} {M : Nat → Prop} {s t : State} (h : Chg R P M s t) {p : Nat}
    (ha : R (A.RING_QBV_CTL p)) : Chg R P M s (t.bankTaken p) := by
  unfold State.bankTaken
  exact h.when _ _ fun _ => h.set _ _ ha

theorem State.qbvCycle_due (s : State) {p a : Nat} (ha : (s.rp p).gate.anchor = some a) (h : a ≤ s.time.tb) :
    s.qbvCycle p = ((s.bankTaken p).rpUpd p (fun x => { x with gate := { x.gate with
      swap := false, anchor := none, count := if (s.rp p).gate.swap then (s.rp p).gate.nextCount else (s.rp p).gate.count } })).qbvRestart p := by
  have hdue : s.qbvDue p = true := by
    unfold State.qbvDue
    rw [ha]
    exact Nat.ble_eq_true_of_le h
  unfold State.qbvCycle
  rw [if_pos hdue]
  rfl

theorem chg_qbvRestart {R : Nat → Prop} {P : Part → Prop} {M : Nat → Prop} {s t : State} (p : Nat) (h : Chg R P M s t) (hp : P .ring) :
    Chg R P M s (t.qbvRestart p) := by
  unfold State.qbvRestart
  exact h.rpUpd _ _ hp

/-- An anchored cycle starts (R48). -/
theorem answers_qbvCycleStart (s : State) (b : Bool) (dt a : Nat) (ha : (s.rp b.toNat).gate.anchor = some a) (htb : a ≤ (s.advance dt).time.tb)
    (hl : b.toNat < s.ring.ports.length) :
    Answers (.qbvCycleStart b dt) s fun t =>
      t.operBank b.toNat = (if (s.rp b.toNat).gate.swap then 1 - s.operBank b.toNat else s.operBank b.toNat) ∧
      (t.rp b.toNat).gate.running = true ∧ (t.rp b.toNat).gate.entry = 0 ∧ (t.rp b.toNat).gate.swap = false ∧
      (t.rp b.toNat).gate.cycleUp = t.time.up ∧ (t.rp b.toNat).gate.anchor = none ∧
      Framed (timeRegs ++ [A.RING_QBV_CTL b.toNat]) [.ring, .time, .clk, .mgmt] s t := by
  set e := s.fresh.advance dt with he
  have hring : e.ring = s.ring := by rw [he, State.advance_ring]; rfl
  have hrp : e.rp b.toNat = s.rp b.toNat := by rw [State.rp, hring]; rfl
  set v := (e.bankTaken b.toNat).rpUpd b.toNat (fun x => { x with gate := { x.gate with
    swap := false, anchor := none, count := if (e.rp b.toNat).gate.swap then (e.rp b.toNat).gate.nextCount else (e.rp b.toNat).gate.count } })
    with hv
  have heff : (s.fresh.advance dt).qbvCycle (if b then 1 else 0) = v.qbvRestart b.toNat := by
    rw [portOfBool, ← he, State.qbvCycle_due e (hrp ▸ ha) (by rw [he, State.time_fresh_advance]; exact htb)]
  have hframe : Chg (Listed (timeRegs ++ [A.RING_QBV_CTL b.toNat])) (Parts [.ring, .time, .clk, .mgmt]) NoMem s (v.qbvRestart b.toNat) :=
    chg_qbvRestart _ ((chg_bankTaken (chg_elapsed s dt fun a => List.mem_append_left _) (by simp)).rpUpd _ _ (by simp)) (by simp)
  have hvl : b.toNat < (e.bankTaken b.toNat).ring.ports.length := by rw [State.bankTaken_ring, hring]; exact hl
  have hvl' : b.toNat < v.ring.ports.length := by
    rw [hv, State.length_rpUpd]
    exact hvl
  have hrun : (s.seal (v.qbvRestart b.toNat)).rp b.toNat =
      { v.rp b.toNat with gate := { (v.rp b.toNat).gate with running := true, entry := 0, cycleUp := v.time.up } } := by
    rw [State.rp, State.seal_ring]
    exact State.rp_rpUpd_same v hvl' _
  have hvrp := State.rp_rpUpd_same (e.bankTaken b.toNat) hvl (fun x => { x with gate := { x.gate with
    swap := false, anchor := none, count := if (e.rp b.toNat).gate.swap then (e.rp b.toNat).gate.nextCount else (e.rp b.toNat).gate.count } })
  have hbank : e.operBank b.toNat = s.operBank b.toNat := State.fld_advance_ne dt (qbvCtl_not_time b)
  refine answers_effect _ rfl heff hframe ⟨?_, ?_, ?_, ?_, ?_, ?_, hframe.framed⟩
  · rw [State.operBank, State.fld_seal _ _ (operBank_kept b)]
    refine (State.bankTaken_operBank e b).trans ?_
    rw [hrp, hbank]
  all_goals rw [hrun]
  · rw [← hv] at hvrp
    rw [hvrp]
  · rw [State.seal_time]
    rfl
  · rw [← hv] at hvrp
    rw [hvrp]

/-- The next entry of the cycle runs (R48). -/
theorem answers_qbvEntryExpiry (s : State) (b : Bool) (dt : Nat) (hrun : (s.rp b.toNat).gate.running = true)
    (hent : (s.rp b.toNat).gate.entry + 1 < (s.rp b.toNat).gate.count) (hl : b.toNat < s.ring.ports.length) :
    Answers (.qbvEntryExpiry b dt) s fun t =>
      (t.rp b.toNat).gate = { (s.rp b.toNat).gate with entry := (s.rp b.toNat).gate.entry + 1 } ∧
      Framed timeRegs [.ring, .time, .clk, .mgmt] s t := by
  set e := s.fresh.advance dt with he
  have hring : e.ring = s.ring := by rw [he, State.advance_ring]; rfl
  have hrp : e.rp b.toNat = s.rp b.toNat := by rw [State.rp, hring]; rfl
  set u := e.rpUpd b.toNat (fun x => { x with gate := { x.gate with entry := x.gate.entry + 1 } }) with hu
  have heff : (s.fresh.advance dt).qbvExpire (if b then 1 else 0) = u := by
    rw [portOfBool, ← he]
    simp only [State.qbvExpire, hrp, hrun, hent, Bool.not_true, Bool.false_eq_true, if_false, if_true, hu]
  have hframe : Chg (Listed timeRegs) (Parts [.ring, .time, .clk, .mgmt]) NoMem s u :=
    (chg_elapsed s dt fun a => id).rpUpd _ _ (by simp)
  refine answers_effect _ rfl heff hframe ⟨?_, hframe.framed⟩
  rw [State.rp, State.seal_ring, ← State.rp, hu, State.rp_rpUpd_same e (hring ▸ hl), hrp]

/-- A cycle is cut 1 s after its start (R48). -/
theorem answers_qbvCycleCut (s : State) (b : Bool) (dt : Nat) (hrun : (s.rp b.toNat).gate.running = true)
    (hcut : (s.rp b.toNat).gate.cycleUp + secU ≤ s.time.up + dt) (hl : b.toNat < s.ring.ports.length) :
    Answers (.qbvCycleCut b dt) s fun t =>
      t.on F.RING_EVT_QBV_ERR = true ∧ (t.rp b.toNat).gate.entry = 0 ∧ (t.rp b.toNat).gate.cycleUp = t.time.up ∧
      Framed (timeRegs ++ [A.RING_EVT]) [.ring, .time, .clk, .mgmt] s t := by
  set e := s.fresh.advance dt with he
  have hring : e.ring = s.ring := by rw [he, State.advance_ring]; rfl
  have hrp : e.rp b.toNat = s.rp b.toNat := by rw [State.rp, hring]; rfl
  set v := e.event F.RING_EVT_QBV_ERR with hv
  have hup : e.time.up = s.time.up + dt := State.advance_up s.fresh dt
  have heff : (s.fresh.advance dt).qbvCut (if b then 1 else 0) = v.qbvRestart b.toNat := by
    rw [portOfBool, ← he]
    unfold State.qbvCut
    rw [hrp, hrun, hup, Nat.ble_eq_true_of_le hcut]
    rfl
  have hframe : Chg (Listed (timeRegs ++ [A.RING_EVT])) (Parts [.ring, .time, .clk, .mgmt]) NoMem s (v.qbvRestart b.toNat) :=
    chg_qbvRestart _ ((chg_elapsed s dt fun a => List.mem_append_left _).event _ (by simp)) (by simp)
  have hgate : (s.seal (v.qbvRestart b.toNat)).rp b.toNat =
      { v.rp b.toNat with gate := { (v.rp b.toNat).gate with running := true, entry := 0, cycleUp := v.time.up } } := by
    rw [State.rp, State.seal_ring]
    exact State.rp_rpUpd_same v (hring ▸ hl) _
  refine answers_effect _ rfl heff hframe ⟨?_, ?_, ?_, hframe.framed⟩
  · rw [State.on_seal _ _ (by decide), State.qbvRestart, State.on_rpUpd, hv, State.on_event_same _ (by decide)]
  · rw [hgate]
  · rw [hgate, State.seal_time]
    rfl

end Sys2Proof.Machine
end

section
/-! PROOFS. Gate entries, the pause watermarks and pause frames (R48, R62 to R65). -/

namespace Sys2Proof.Machine

/-! ### Gate entries -/

/-- A row of a table or list outside SYS, PWR, ENG and TEST whose every bit is writable or reserved. -/
theorem Row.stores_of_window {r : Row} {a : Nat} (h4 : a % 4 = 0) (hlo : 0x20000 ≤ a) (hwin : a / 0x10000 ≠ 8 ∧ a / 0x10000 ≠ 15)
    (hr : r.w1c = 0 ∧ r.sc = 0 ∧ r.wo = 0 ∧ r.rwp = 0 ∧ r.rw ||| r.rsv = 0xFFFFFFFF ∧ r.rw &&& r.rsv = 0) : r.stores a = true := by
  obtain ⟨h1, h2, h3, h5, h6, h7⟩ := hr
  have hplace : isPlaceAdr a = false := by
    simp only [isPlaceAdr, ← Bool.not_eq_true, Bool.or_eq_true, Bool.and_eq_true, beq_iff_eq, Nat.blt_eq, Nat.ble_eq, A.ENG_SPAN,
      A.ENG_CORE_CERT, A.ENG_DESC_W0]
    omega
  have hpost : (postedAt a r).isNone = true := by
    rw [postedAt, if_pos h5]
    rfl
  simp only [Row.stores, h1, h2, h3, h6, h7, h4, hplace, hpost, beq_self_eq_true, Bool.not_false, Bool.and_true, Bool.true_and,
    Bool.and_eq_true, bne_iff_ne, ne_eq, A.TEST_CTL, A.PWR_UNIT_STATUS, A.SYS_MOD_STATE]
  omega

theorem gate_stores {k : Nat} (hk : k < 256) : StoresEverywhere (A.RING_GATE k) := fun v => by
  rw [StoresAt, rowAt_gate v hk, Option.any_some]
  exact Row.stores_of_window (by unfold A.RING_GATE; omega) (by unfold A.RING_GATE; omega) (by unfold A.RING_GATE; omega) (by decide)

theorem gate_effect (s : State) (m : Master) (priv : Bool) {k : Nat} (hk : k < 256) (old : Word) :
    s.regEffect m priv (A.RING_GATE k) old 0 = s := by
  have hwin : A.RING_GATE k / 0x10000 = 2 := by unfold A.RING_GATE; omega
  have hring : s.ringEffect (A.RING_GATE k) old 0 = s := by
    unfold State.ringEffect A.RING_GATE A.RING_BYPASS_CTL A.RING_PAUSE_WM
    dsimp only
    repeat rw [if_neg (by omega)]
  unfold State.regEffect
  rw [hwin]
  exact hring

/-- The registers whose rule acts at every write, in numbers. -/
theorem actsAlways_zero {a : Nat} (hr : a < 0x40000) (h : a ≠ 0x20094 ∧ a ≠ 0x2009C ∧ a ≠ 0x200A4) : actsAlways a 0 = false := by
  simp only [actsAlways, ← Bool.not_eq_true, Bool.or_eq_true, Bool.and_eq_true, beq_iff_eq, bne_self_eq_false, Nat.blt_eq, Nat.ble_eq,
    Bool.false_eq_true, false_or, not_or, not_and, not_lt, A.ENG_IMG_DATA, A.MGMT_FW_DATA, A.MGMT_KEY_STAGE, A.MGMT_LOG_IDX, A.TIME_TPO_START_NS,
    A.TBL_LISTENER_W0, A.TBL_LAY_W0, A.TBL_PLINE_W0, A.TBL_SIG_MAG, A.TBL_SCHED_W0, A.RING_PHY_DATA]

  omega

theorem notMem_summaries {a : Nat} (h : a ≠ 0x10008 ∧ a ≠ 0xF0020 ∧ a ≠ 0xF0028 ∧ a ≠ 0x30410 ∧ a ≠ 0x60) : a ∉ summaries := by
  simp only [summaries, List.mem_cons, List.not_mem_nil, or_false, A.PWR_STATUS, A.TEST_FAULT, A.TEST_EVT, A.MSTAT_SAT_SUM, A.SYS_IRQ_STATUS]
  omega

/-- A gate entry is stored as it is written (R48). -/
theorem answers_qbvEntryWrite (s : State) (k : Nat) (m : Master) (priv : Bool) (w : Word) (hk : k < 256) (hd : Direct s m priv (A.RING_GATE k)) :
    Answers (.qbvEntryWrite k (whole m priv w)) s fun t => t.reg (A.RING_GATE k) = w ∧ Framed [A.RING_GATE k] [] s t := by
  have hr : AsItReads s (A.RING_GATE k) w := fun r h => by
    rw [rowAt_gate _ hk] at h
    cases h
    exact Nat.and_zero _
  have hfree : A.RING_GATE k ∉ summaries := notMem_summaries (by unfold A.RING_GATE; omega)
  have hquiet : actsAlways (A.RING_GATE k) 0 = false := actsAlways_zero (by unfold A.RING_GATE; omega) (by unfold A.RING_GATE; omega)
  by_cases heq : s.reg (A.RING_GATE k) = w
  · have heff := hd.stores_same hr (gate_stores hk) hquiet heq
    have hframe : Chg (Listed [A.RING_GATE k]) (Parts []) NoMem s s.fresh := Chg.refl.fresh
    exact answers_effect _ (State.runIf_true s (decide_eq_true hk) _) heff hframe ⟨(State.reg_seal _ _ hfree).trans heq, hframe.framed⟩
  · have heff : s.fresh.words (A.RING_GATE k) (whole m priv w) = s.fresh.wr (A.RING_GATE k) w.toNat := by
      rw [hd.stores hr (gate_stores hk) heq, gate_effect _ _ _ hk]
    have hframe : Chg (Listed [A.RING_GATE k]) (Parts []) NoMem s (s.fresh.wr (A.RING_GATE k) w.toNat) := by simp
    refine answers_effect _ (State.runIf_true s (decide_eq_true hk) _) heff hframe ⟨(State.reg_seal _ _ hfree).trans ?_, hframe.framed⟩
    rw [State.reg_wr_same, BitVec.ofNat_toNat, BitVec.setWidth_eq]

/-! ### The watermarks -/

theorem wm_stores : StoresEverywhere A.RING_PAUSE_WM := fun v => by cases v <;> decide

theorem State.poolCheck_empty (s : State) {p : Nat} (hn : (s.rp p).pool = 0) (hx : (s.rp p).xoff = false)
    (hh : 1 ≤ s.fld F.RING_PAUSE_WM_HIGH_PCT) : s.poolCheck p = s := by
  have hhigh : Nat.ble s.poolHigh 0 = false := by
    rw [← Bool.not_eq_true, Nat.ble_eq, State.poolHigh]
    omega
  simp [State.poolCheck, hn, hx, hhigh]

/-- The watermarks are stored; an empty pool sends nothing (R62). -/
theorem answers_pauseWmWrite (s : State) (m : Master) (priv : Bool) (w : Word) (hd : Direct s m priv A.RING_PAUSE_WM)
    (hr : AsItReads s A.RING_PAUSE_WM w) (hp : ∀ p < 3, (s.rp p).pool = 0 ∧ (s.rp p).xoff = false)
    (hh : 1 ≤ F.RING_PAUSE_WM_HIGH_PCT.of w.toNat) :
    Answers (.pauseWmWrite (whole m priv w)) s fun t => t.reg A.RING_PAUSE_WM = w ∧ Framed [A.RING_PAUSE_WM] [] s t := by
  by_cases heq : s.reg A.RING_PAUSE_WM = w
  · have heff := hd.stores_same hr wm_stores (by decide) heq
    have hframe : Chg (Listed [A.RING_PAUSE_WM]) (Parts []) NoMem s s.fresh := Chg.refl.fresh
    exact answers_effect _ rfl heff hframe ⟨(State.reg_seal _ _ (by decide)).trans heq, hframe.framed⟩
  · set e := s.fresh.wr A.RING_PAUSE_WM w.toNat with he
    have hquiet : forN 3 (fun p s => s.poolCheck p) e = e :=
      forN_induction (p := (· = e)) 3 _ (fun p hp3 t ht => by
        subst ht
        obtain ⟨h1, h2⟩ := hp p hp3
        exact State.poolCheck_empty e h1 h2 (le_of_le_of_eq hh (State.fld_wr_word s.fresh _ w rfl).symm)) rfl
    have heff : s.fresh.words A.RING_PAUSE_WM (whole m priv w) = e := by
      rw [hd.stores hr wm_stores heq]
      exact hquiet
    have hframe : Chg (Listed [A.RING_PAUSE_WM]) (Parts []) NoMem s e := by simp [he]
    refine answers_effect _ rfl heff hframe ⟨(State.reg_seal _ _ (by decide)).trans ?_, hframe.framed⟩
    rw [he, State.reg_wr_same, BitVec.ofNat_toNat, BitVec.setWidth_eq]

/-! ### Pause frames -/

theorem chg_sendPause_at {s : State} (p : Port) (q : Nat) :
    Chg (Listed [A.MSTAT_TX_PAUSE p.idx, A.MSTAT_TX_FRAMES p.idx, A.MSTAT_TX_BLK64 p.idx, A.MSTAT_SAT p.idx]) (Parts [.ring]) NoMem s
      (s.fresh.sendPause p.idx q) := by
  have hsat : (satOf (A.MSTAT_TX_PAUSE p.idx)).adr = A.MSTAT_SAT p.idx ∧ (satOf (A.MSTAT_TX_FRAMES p.idx)).adr = A.MSTAT_SAT p.idx ∧
      (satOf (A.MSTAT_TX_BLK64 p.idx)).adr = A.MSTAT_SAT p.idx ∧ (satOf (A.MSTAT_TX_PAUSE p.idx)).event = none ∧
      (satOf (A.MSTAT_TX_FRAMES p.idx)).event = none ∧ (satOf (A.MSTAT_TX_BLK64 p.idx)).event = none := by cases p <;> decide
  obtain ⟨h1, h2, h3, e1, e2, e3⟩ := hsat
  unfold State.sendPause State.countTx
  split
  · exact ((((Chg.refl.fresh.incAt 1 h2 e2 (by simp) (by simp)).incAt _ h3 e3 (by simp) (by simp)).rpUpd _ _ (by simp)).incAt 1 h1 e1
      (by simp) (by simp)).out _
  · exact Chg.refl.fresh

theorem pause_counters (p : Port) :
    bumpOk (A.MSTAT_TX_PAUSE p.idx) = true ∧ bumpOk (A.MSTAT_TX_FRAMES p.idx) = true ∧
      bumpFree (A.MSTAT_TX_PAUSE p.idx) (A.MSTAT_TX_FRAMES p.idx) = true ∧ bumpFree (A.MSTAT_TX_PAUSE p.idx) (A.MSTAT_TX_BLK64 p.idx) = true ∧
      bumpFree (A.MSTAT_TX_FRAMES p.idx) (A.MSTAT_TX_BLK64 p.idx) = true ∧ bumpFree (A.MSTAT_TX_FRAMES p.idx) (A.MSTAT_TX_PAUSE p.idx) = true ∧
      A.MSTAT_TX_PAUSE p.idx ∉ summaries ∧ A.MSTAT_TX_FRAMES p.idx ∉ summaries := by cases p <;> decide

theorem State.pauseFrame_fresh (s : State) (p q : Nat) : s.fresh.pauseFrame p q = s.pauseFrame p q := rfl

/-- A pause is sent again while the pool stands above its low mark (R63). -/
theorem answers_pauseRepeat (s : State) (p : Port) (hx : (s.rp p.idx).xoff = true) (hlow : s.poolLow < (s.rp p.idx).pool)
    (hp : s.pauses p.idx = true) (hl : s.linkUp p.idx = true) :
    Answers (.pauseRepeat p) s fun t =>
      Out.frame (portOf p.idx) (s.pauseFrame p.idx 0xFFFF) ∈ t.out ∧ Counts s t (A.MSTAT_TX_PAUSE p.idx) 1 ∧
      Counts s t (A.MSTAT_TX_FRAMES p.idx) 1 ∧
      Framed [A.MSTAT_TX_PAUSE p.idx, A.MSTAT_TX_FRAMES p.idx, A.MSTAT_TX_BLK64 p.idx, A.MSTAT_SAT p.idx] [.ring] s t := by
  have heff : (s.fresh.when ((s.fresh.rp p.idx).xoff && Nat.blt s.fresh.poolLow (s.fresh.rp p.idx).pool && s.fresh.pauses p.idx)
      (fun s => s.sendPause p.idx 0xFFFF)) = s.fresh.sendPause p.idx 0xFFFF := if_pos (by
    have h : Nat.blt s.poolLow (s.rp p.idx).pool = true := Nat.blt_eq.mpr hlow
    show ((s.rp p.idx).xoff && Nat.blt s.poolLow (s.rp p.idx).pool && s.pauses p.idx) = true
    rw [hx, h, hp]
    rfl)
  have hframe := chg_sendPause_at (s := s) p 0xFFFF
  obtain ⟨o1, o2, f1, f2, f3, f4, m1, m2⟩ := pause_counters p
  have hsend : s.fresh.sendPause p.idx 0xFFFF =
      ((s.fresh.countTx p.idx 64).inc (A.MSTAT_TX_PAUSE p.idx)).putOut (.frame (portOf p.idx) (s.fresh.pauseFrame p.idx 0xFFFF)) := if_pos hl
  refine answers_effect _ rfl heff hframe ⟨State.mem_seal_out _ _ ?_, ?_, ?_, hframe.framed⟩
  · rw [hsend]
    exact List.mem_append_right _ (List.mem_singleton.mpr rfl)
  · rw [Counts, State.rd_seal _ _ m1, hsend, State.rd_putOut, State.rd_inc_counts o1, State.countTx, State.rd_rpUpd, State.rd_bump_free _ f2,
      State.rd_inc_free f1]
    rfl
  · rw [Counts, State.rd_seal _ _ m2, hsend, State.rd_putOut, State.rd_inc_free f4, State.countTx, State.rd_rpUpd, State.rd_bump_free _ f3,
      State.rd_inc_counts o2]
    rfl

/-- The stops of a port whose time has passed are forgotten (R64). -/
theorem answers_pauseQuantaExpiry (s : State) (p : Port) (dt : Nat) (hl : p.idx < s.ring.ports.length) :
    Answers (.pauseQuantaExpiry p dt) s fun t =>
      (t.rp p.idx).stopped = (s.rp p.idx).stopped.filter (fun e => Nat.blt t.time.up e.2) ∧
      Framed timeRegs [.ring, .time, .clk, .mgmt] s t := by
  set e := s.fresh.advance dt with he
  have hring : e.ring = s.ring := by rw [he, State.advance_ring]; rfl
  set u := e.rpUpd p.idx (fun x => { x with stopped := x.stopped.filter (fun g => Nat.blt e.time.up g.2) }) with hu
  have hframe : Chg (Listed timeRegs) (Parts [.ring, .time, .clk, .mgmt]) NoMem s u :=
    (chg_elapsed s dt fun a => id).rpUpd _ _ (by simp)
  refine answers_effect (u := u) _ rfl rfl hframe ⟨?_, hframe.framed⟩
  rw [State.rp, State.seal_ring, ← State.rp, State.seal_time, hu, State.rp_rpUpd_same e (hring ▸ hl), State.rp, hring]
  rfl

end Sys2Proof.Machine
end

section
/-! PROOFS. The arrival checks of a port (R47, R58, R62, R66). -/

namespace Sys2Proof.Machine

/-! ### The settings the switch reads -/

/-- The registers that the arrival checks and the forwarding rules read: the module's address, the ports' configuration, hop limit,
PVID and VLAN table. -/
def SwitchCfg (a : Nat) : Prop :=
  a = A.SYS_MAC_HI ∨ a = A.SYS_MAC_LO ∨ (A.RING_PORT_CFG 0 ≤ a ∧ a < A.RING_PORT_CFG 3) ∨ a = A.RING_FRER_CFG ∨ a = A.RING_PVID_C ∨
    (A.RING_VLAN 0 ≤ a ∧ a < A.RING_VLAN 64)

/-- The switch's settings read the same. -/
def SameCfg (s t : State) : Prop := ∀ a, SwitchCfg a → t.reg a = s.reg a

theorem SameCfg.trans {s t u : State} (h : SameCfg s t) (h' : SameCfg t u) : SameCfg s u := fun a ha => (h' a ha).trans (h a ha)

theorem Chg.sameCfg {R : Nat → Prop} {P : Part → Prop} {M : Nat → Prop} {s t : State} (h : Chg R P M s t) (hR : ∀ a, SwitchCfg a → ¬ R a) :
    SameCfg s t := fun a ha => h.reg a (hR a ha)

section
variable {s t : State} (h : SameCfg s t)
include h

theorem SameCfg.fld {g : Fld} (hg : SwitchCfg g.adr) : t.fld g = s.fld g := State.fld_eq_of_reg (h _ hg)
theorem SameCfg.on {g : Fld} (hg : SwitchCfg g.adr) : t.on g = s.on g := congrArg (· != 0) (h.fld hg)

theorem SameCfg.frameLimit {p : Nat} (hp : p < 3) (f : Frame) : t.frameLimit p f = s.frameLimit p f := by
  have hc : SwitchCfg (A.RING_PORT_CFG p) := .inr (.inr (.inl (by simp only [A.RING_PORT_CFG]; omega)))
  rw [State.frameLimit, State.frameLimit, h.on (g := F.RING_PORT_CFG_JUMBO_EN p) hc, h.fld (g := F.RING_PORT_CFG_MAX_FRAME p) hc]

theorem SameCfg.pvid : t.pvid = s.pvid := by
  rw [State.pvid, State.pvid, h.fld (g := F.RING_PVID_C_PVID) (.inr (.inr (.inr (.inr (.inl rfl)))))]

theorem SameCfg.vlanFld {g : Fld} {v : Nat} (hv : v < 64) (hg : g.adr = A.RING_VLAN v) : t.fld g = s.fld g :=
  h.fld (.inr (.inr (.inr (.inr (.inr (by rw [hg]; simp only [A.RING_VLAN]; omega))))))

theorem SameCfg.vlanEntry (vid : Nat) : t.vlanEntry vid = s.vlanEntry vid := by
  unfold State.vlanEntry
  split
  · rfl
  · refine List.find?_congr fun v hv => ?_
    have hv' : v < 64 := List.mem_range.mp hv
    rw [State.on, State.on, h.vlanFld (g := F.RING_VLAN_EN v) hv' rfl, h.vlanFld (g := F.RING_VLAN_VID v) hv' rfl]

theorem SameCfg.vlanMember (p vid : Nat) : t.vlanMember p vid = s.vlanMember p vid := by
  unfold State.vlanMember State.vlanKnown
  rw [h.vlanEntry, h.pvid]
  split
  · refine congrArg _ ?_
    cases hv : s.vlanEntry vid with
    | none => rfl
    | some v =>
      have hv' : v < 64 := by
        unfold State.vlanEntry at hv
        split at hv
        · exact absurd hv (by simp)
        · exact List.mem_range.mp (List.mem_of_find?_eq_some hv)
      exact h.on (g := F.RING_VLAN_C_MEMBER v) (.inr (.inr (.inr (.inr (.inr (by simp only [A.RING_VLAN]; omega))))))
  · rfl

theorem SameCfg.frameVlan (p : Nat) (f : Frame) : t.frameVlan p f = s.frameVlan p f := by
  rw [State.frameVlan, State.frameVlan, h.pvid, h.vlanMember]

theorem SameCfg.ownMac (a : Nat) : t.ownMac a = s.ownMac a := by
  have hlo : t.rd A.SYS_MAC_LO = s.rd A.SYS_MAC_LO := State.rd_eq_of_reg (h _ (.inr (.inl rfl)))
  have hhi : t.rd A.SYS_MAC_HI = s.rd A.SYS_MAC_HI := State.rd_eq_of_reg (h _ (.inl rfl))
  rw [State.ownMac, State.ownMac, State.mac, State.mac, hlo, hhi]

theorem SameCfg.hopLimit : t.hopLimit = s.hopLimit := by
  rw [State.hopLimit, State.hopLimit, h.fld (g := F.RING_FRER_CFG_HOP_LIMIT) (.inr (.inr (.inr (.inl rfl))))]

theorem SameCfg.passes {p : Nat} (hp : p < 3) {f : Frame} (hr : t.rp p = s.rp p) (hf : Passes s p f) : Passes t p f := by
  obtain ⟨h1, h2, h3, h4, h5⟩ := hf
  exact ⟨h1, (h.frameLimit hp f).symm ▸ h2, h3, (h.frameVlan p f).symm ▸ h4, hr.symm ▸ h5⟩

end

/-! ### Ring ports -/

/-- What an update of a ring port leaves of it is left of every port. -/
theorem State.rp_rpUpd_keeps {α : Type} (s : State) (p q : Nat) (f : RingPort → RingPort) (g : RingPort → α) (h : ∀ x, g (f x) = g x) :
    g ((s.rpUpd p f).rp q) = g (s.rp q) := by
  simp only [State.rpUpd, State.updRing, State.rp, getAt, updAt, List.getD_eq_getElem?_getD]
  by_cases hpq : p = q
  · subst hpq
    rw [List.getElem?_modify_eq]
    cases s.ring.ports[p]? with
    | none => rfl
    | some x => exact h x
  · rw [List.getElem?_modify_ne _ _ hpq]

/-- An update of a ring port leaves the others. -/
theorem State.rp_rpUpd_ne (s : State) {p q : Nat} (h : q ≠ p) (f : RingPort → RingPort) : (s.rpUpd p f).rp q = s.rp q := by
  simp only [State.rpUpd, State.updRing, State.rp, getAt, updAt, List.getD_eq_getElem?_getD, List.getElem?_modify_ne _ _ (Ne.symm h)]

/-! ### Arrival -/

/-- The bytes that arrived are counted (R66). -/
def State.bytesIn (s : State) (p len : Nat) : State :=
  (s.bump (A.MSTAT_RX_BLK64 p) (((s.rp p).rxRem + len) / 64)).rpUpd p (fun x => { x with rxRem := ((s.rp p).rxRem + len) % 64 })

/-- A frame that passed its checks has arrived (R66). -/
def State.arrived (s : State) (p len cls : Nat) : State := ((s.bytesIn p len).portAwake p cls).inc (A.MSTAT_RX_FRAMES p)

/-- The counters of a port saturate in its own register, with no event (R67). -/
theorem satOf_port {p : Nat} (hp : p < 3) {a : Nat} (ha : a / 0x100 = 0x300 + p) : (satOf a).adr = A.MSTAT_SAT p ∧ (satOf a).event = none := by
  have hwin : a / 0x10000 = 3 := by omega
  have hoff : a % 0x10000 < 0x300 := by omega
  have hport : a % 0x10000 / 0x100 = p := by omega
  unfold satOf
  rw [hwin]
  dsimp only
  rw [if_pos hoff, hport]
  exact ⟨rfl, rfl⟩

/-- A port's counter counts within the port's counter and its saturation register. -/
theorem Chg.portInc {R : Nat → Prop} {P : Part → Prop} {M : Nat → Prop} {s t : State} (h : Chg R P M s t) {p : Nat} (hp : p < 3) {a : Nat} (n : Nat)
    (ha : a / 0x100 = 0x300 + p) (hr : R a) (hs : R (A.MSTAT_SAT p)) : Chg R P M s (t.bump a n) :=
  h.incAt n (satOf_port hp ha).1 (satOf_port hp ha).2 hr hs

section
variable {R : Nat → Prop} {P : Part → Prop} {M : Nat → Prop} {s t : State} (h : Chg R P M s t) {p : Nat} (hp : p < 3) (hring : P .ring)
include h hp hring

theorem Chg.bytesIn (len : Nat) (hb : R (A.MSTAT_RX_BLK64 p)) (hs : R (A.MSTAT_SAT p)) : Chg R P M s (t.bytesIn p len) :=
  (h.portInc hp _ (by simp only [A.MSTAT_RX_BLK64]; omega) hb hs).rpUpd _ _ hring

omit hp in
theorem Chg.portAwake (cls : Nat) (hs : R (A.RING_PORT_STATUS p)) : Chg R P M s (t.portAwake p cls) := by
  unfold State.portAwake
  exact (h.when _ _ fun _ => h.set _ _ hs).when _ _ fun _ => (h.when _ _ fun _ => h.set _ _ hs).rpUpd _ _ hring

theorem Chg.arrived (len cls : Nat) (hf : R (A.MSTAT_RX_FRAMES p)) (hb : R (A.MSTAT_RX_BLK64 p)) (hs : R (A.MSTAT_SAT p))
    (ht : R (A.RING_PORT_STATUS p)) : Chg R P M s (t.arrived p len cls) :=
  ((h.bytesIn hp hring len hb hs).portAwake hring cls ht).portInc hp 1 (by simp only [A.MSTAT_RX_FRAMES]; omega) hf hs

end

/-- What arrival changes. -/
def arrivalRegs (p : Nat) : List Nat := [A.MSTAT_RX_FRAMES p, A.MSTAT_RX_BLK64 p, A.MSTAT_SAT p, A.RING_PORT_STATUS p]

theorem chg_arrived (s : State) {p : Nat} (hp : p < 3) (len cls : Nat) : Chg (· ∈ arrivalRegs p) (· = .ring) NoMem s (s.arrived p len cls) := by
  have hm : A.MSTAT_RX_FRAMES p ∈ arrivalRegs p ∧ A.MSTAT_RX_BLK64 p ∈ arrivalRegs p ∧ A.MSTAT_SAT p ∈ arrivalRegs p ∧
    A.RING_PORT_STATUS p ∈ arrivalRegs p := by simp [arrivalRegs]
  exact Chg.arrived (R := (· ∈ arrivalRegs p)) (P := (· = .ring)) Chg.refl hp rfl len cls hm.1 hm.2.1 hm.2.2.1 hm.2.2.2

theorem arrivalRegs_notCfg {p : Nat} (hp : p < 3) : ∀ a, SwitchCfg a → ¬ a ∈ arrivalRegs p := by
  intro a ha hm
  simp only [arrivalRegs, List.mem_cons, List.not_mem_nil, or_false, A.MSTAT_RX_FRAMES, A.MSTAT_RX_BLK64, A.MSTAT_SAT, A.RING_PORT_STATUS] at hm
  simp only [SwitchCfg, A.SYS_MAC_HI, A.SYS_MAC_LO, A.RING_PORT_CFG, A.RING_FRER_CFG, A.RING_PVID_C, A.RING_VLAN] at ha
  omega

/-- Neither an arrival nor a wake-up changes what a port holds but its byte remainder and the time of its last audio. -/
theorem State.rp_portAwake_keeps {α : Type} (s : State) (p cls q : Nat) (g : RingPort → α)
    (h : ∀ x n, g { x with lastAudio := n } = g x) : g ((s.portAwake p cls).rp q) = g (s.rp q) := by
  unfold State.portAwake
  dsimp only
  have hring : (s.when (s.on (F.RING_PORT_STATUS_LPI p)) fun s => s.set (F.RING_PORT_STATUS_LPI p) 0).rp q = s.rp q := by
    unfold State.when
    split <;> rfl
  rw [State.when]
  split
  · rw [State.rp_rpUpd_keeps _ _ _ _ g fun x => h x _, hring]
  · rw [hring]

theorem State.rp_bytesIn_keeps {α : Type} (s : State) (p len q : Nat) (g : RingPort → α) (h : ∀ x n, g { x with rxRem := n } = g x) :
    g ((s.bytesIn p len).rp q) = g (s.rp q) := by
  unfold State.bytesIn
  rw [State.rp_rpUpd_keeps _ _ _ _ g fun x => h x _, State.rp, State.bump_ring]
  rfl

theorem State.rp_arrived_keeps {α : Type} (s : State) (p len cls q : Nat) (g : RingPort → α) (h1 : ∀ x n, g { x with rxRem := n } = g x)
    (h2 : ∀ x n, g { x with lastAudio := n } = g x) : g ((s.arrived p len cls).rp q) = g (s.rp q) := by
  rw [State.arrived, State.rp, State.inc_ring, ← State.rp, State.rp_portAwake_keeps _ _ _ _ g h2, State.rp_bytesIn_keeps _ _ _ _ g h1]

theorem State.length_arrived (s : State) (p len cls : Nat) : (s.arrived p len cls).ring.ports.length = s.ring.ports.length := by
  have hset : ((s.bytesIn p len).when ((s.bytesIn p len).on (F.RING_PORT_STATUS_LPI p)) fun s => s.set (F.RING_PORT_STATUS_LPI p) 0).ring =
      (s.bytesIn p len).ring := by
    unfold State.when
    split <;> rfl
  have hbytes : (s.bytesIn p len).ring.ports.length = s.ring.ports.length := by rw [State.bytesIn, State.length_rpUpd, State.bump_ring]
  rw [State.arrived, State.inc_ring, State.portAwake, State.when]
  split
  · rw [State.length_rpUpd, hset, hbytes]
  · rw [hset, hbytes]

theorem State.rd_arrived (s : State) {p : Nat} (hp : p < 3) (len cls : Nat) {a : Nat} (ha : a ∉ arrivalRegs p) :
    (s.arrived p len cls).rd a = s.rd a := State.rd_eq_of_reg ((chg_arrived s hp len cls).reg a ha)

theorem State.rd_arrived_frames (s : State) {p : Nat} (hp : p < 3) (len cls : Nat) :
    (s.arrived p len cls).rd (A.MSTAT_RX_FRAMES p) = min (s.rd (A.MSTAT_RX_FRAMES p) + 1) 0xFFFFFFFF := by
  have hc : bumpOk (A.MSTAT_RX_FRAMES p) = true ∧ bumpFree (A.MSTAT_RX_FRAMES p) (A.MSTAT_RX_BLK64 p) = true ∧
      A.MSTAT_RX_FRAMES p ≠ (F.RING_PORT_STATUS_LPI p).adr := by interval_cases p <;> decide
  obtain ⟨h1, h2, h3⟩ := hc
  rw [State.arrived, State.rd_inc_counts h1, State.portAwake, State.rd_when _ _ (State.rd_rpUpd ..), State.rd_when_set _ _ h3, State.bytesIn, State.rd_rpUpd,
    State.rd_bump_free _ h2]

/-- A runt only counts (R58, R66). -/
theorem State.arrive_runt (s : State) (p : Nat) (f : Frame) (h : f.len < 64) :
    s.arrive p f = (none, (s.bytesIn p f.len).inc (A.MSTAT_RX_RUNT p)) := if_pos h

/-- The settings as the arrival checks read them, once the bytes are counted and the port is awake. -/
theorem sameCfg_arriving (s : State) {p : Nat} (hp : p < 3) (len cls : Nat) :
    SameCfg s (s.bytesIn p len) ∧ SameCfg s ((s.bytesIn p len).portAwake p cls) := by
  have hm : A.MSTAT_RX_BLK64 p ∈ arrivalRegs p ∧ A.MSTAT_SAT p ∈ arrivalRegs p ∧ A.RING_PORT_STATUS p ∈ arrivalRegs p := by simp [arrivalRegs]
  have hb : Chg (· ∈ arrivalRegs p) (· = .ring) NoMem s (s.bytesIn p len) :=
    Chg.bytesIn (R := (· ∈ arrivalRegs p)) (P := (· = .ring)) Chg.refl hp rfl len hm.1 hm.2.1
  exact ⟨hb.sameCfg (arrivalRegs_notCfg hp), (hb.portAwake rfl cls hm.2.2).sameCfg (arrivalRegs_notCfg hp)⟩

/-- A frame in its length with a good FCS arrives, if its VLAN is known and there is room for it. -/
theorem State.arrive_plain (s : State) {p : Nat} (hp : p < 3) (f : Frame) (h : Passes s p f) (hf : Plain f) :
    ∃ v, s.frameVlan p f = some v ∧ s.arrive p f = (some ⟨v, arrivalClass p f, f, f⟩, s.arrived p f.len (arrivalClass p f)) := by
  obtain ⟨h1, h2, h3, h4, h5⟩ := h
  obtain ⟨v, hv⟩ := Option.isSome_iff_exists.mp h4
  refine ⟨v, hv, ?_⟩
  obtain ⟨c1, c2⟩ := sameCfg_arriving s hp f.len (arrivalClass p f)
  have hlim : (s.bytesIn p f.len).frameLimit p f = s.frameLimit p f := c1.frameLimit hp f
  have hvlan : ((s.bytesIn p f.len).portAwake p (arrivalClass p f)).frameVlan p f = some v := (c2.frameVlan p f).trans hv
  have hpool : ¬ (arrivalClass p f < 4 ∧ 262144 < (((s.bytesIn p f.len).portAwake p (arrivalClass p f)).rp p).pool + f.len) := by
    rw [State.rp_portAwake_keeps _ _ _ _ RingPort.pool fun _ _ => rfl, State.rp_bytesIn_keeps _ _ _ _ RingPort.pool fun _ _ => rfl]
    exact fun hc => absurd (h5 hc.1) (by omega)
  have hbig : decide (s.frameLimit p f < f.len) = false := decide_eq_false (by omega)
  have hlen : ¬ f.len < 64 := by omega
  have hbytes : (s.bump (A.MSTAT_RX_BLK64 p) (((s.rp p).rxRem + f.len) / 64)).rpUpd p
      (fun x => { x with rxRem := ((s.rp p).rxRem + f.len) % 64 }) = s.bytesIn p f.len := rfl
  cases hb : f.body with
  | ptp _ => simp [Plain, hb] at hf
  | pause _ => simp [Plain, hb] at hf
  | pfc _ _ => simp [Plain, hb] at hf
  | _ =>
    simp only [State.arrive, hbytes, hb, hlen, hlim, hbig, hvlan, h3, State.arrived, State.when_true, State.when_false, Bool.not_true,
      Bool.not_false, Bool.and_self, Bool.false_and, Bool.false_eq_true, if_false, if_neg hpool]

/-- A pause frame arrives whatever its tagging (R64). -/
theorem State.arrive_pause (s : State) {p : Nat} (hp : p < 3) (f : Frame) (q : Nat) (hb : f.body = .pause q) (h1 : 64 ≤ f.len)
    (h2 : f.len ≤ s.frameLimit p f) (h3 : f.fcsOk = true) (h4 : 4 ≤ arrivalClass p f) :
    s.arrive p f = (some ⟨f.vid, arrivalClass p f, f, f⟩, s.arrived p f.len (arrivalClass p f)) := by
  have hlim : (s.bytesIn p f.len).frameLimit p f = s.frameLimit p f := (sameCfg_arriving s hp f.len (arrivalClass p f)).1.frameLimit hp f
  have hpool : ¬ (arrivalClass p f < 4 ∧ 262144 < (((s.bytesIn p f.len).portAwake p (arrivalClass p f)).rp p).pool + f.len) :=
    fun hc => absurd hc.1 (by omega)
  have hbig : decide (s.frameLimit p f < f.len) = false := decide_eq_false (by omega)
  have hlen : ¬ f.len < 64 := by omega
  have hbytes : (s.bump (A.MSTAT_RX_BLK64 p) (((s.rp p).rxRem + f.len) / 64)).rpUpd p
      (fun x => { x with rxRem := ((s.rp p).rxRem + f.len) % 64 }) = s.bytesIn p f.len := rfl
  simp only [State.arrive, hbytes, hb, hlen, hlim, hbig, h3, State.arrived, State.when_true, State.when_false, Bool.not_true,
    Bool.not_false, Bool.and_self, Bool.false_and, Bool.false_eq_true, if_false, if_true, if_neg hpool]

/-- A field of the port's status that arrival leaves: all but LPI. -/
theorem State.fld_arrived_status (s : State) {p : Nat} (hp : p < 3) (len cls : Nat) {q : Nat} {g : Fld} (hq : q < 3)
    (hg : g.adr = A.RING_PORT_STATUS q) (hf : Fld.free (F.RING_PORT_STATUS_LPI p) g = true) : (s.arrived p len cls).fld g = s.fld g := by
  have hfree : bumpFree g.adr (A.MSTAT_RX_FRAMES p) = true ∧ bumpFree g.adr (A.MSTAT_RX_BLK64 p) = true := by
    rw [hg]
    interval_cases p <;> interval_cases q <;> decide
  have hwhen (t : State) : (t.when (t.on (F.RING_PORT_STATUS_LPI p)) fun t => t.set (F.RING_PORT_STATUS_LPI p) 0).fld g = t.fld g :=
    State.fld_when _ _ (State.fld_set_free _ hf 0)
  rw [State.arrived, State.fld_inc_free hfree.1, State.portAwake, State.fld_when _ _ (State.fld_rpUpd ..), hwhen, State.bytesIn, State.fld_rpUpd,
    State.fld_bump_free _ hfree.2]

/-! ### Time before an arrival -/

theorem switchCfg_notTime {a : Nat} (h : SwitchCfg a) : ¬ Listed timeRegs a := by
  simp only [listed_iff, timeRegs, summaries, List.mem_cons, List.not_mem_nil, or_false, A.CLK_MISALIGN, A.CLK_EVT, A.MGMT_EVT, A.PWR_STATUS,
    A.TEST_FAULT, A.TEST_EVT, A.MSTAT_SAT_SUM, A.SYS_IRQ_STATUS]
  simp only [SwitchCfg, A.SYS_MAC_HI, A.SYS_MAC_LO, A.RING_PORT_CFG, A.RING_FRER_CFG, A.RING_PVID_C, A.RING_VLAN] at h
  omega

theorem sameCfg_elapsed (s : State) (dt : Nat) : SameCfg s (s.fresh.advance dt) :=
  (chg_elapsed s dt (l := timeRegs) fun _ h => h).sameCfg fun _ => switchCfg_notTime

theorem State.ring_elapsed (s : State) (dt : Nat) : (s.fresh.advance dt).ring = s.ring := State.advance_ring s.fresh dt

theorem State.rp_elapsed (s : State) (dt p : Nat) : (s.fresh.advance dt).rp p = s.rp p := by
  rw [State.rp, State.ring_elapsed]
  rfl

theorem portStatus_notTime {p : Nat} (hp : p < 3) : A.RING_PORT_STATUS p ∉ timeRegs := by interval_cases p <;> decide

theorem State.linkUp_elapsed (s : State) (dt : Nat) {p : Nat} (hp : p < 3) : (s.fresh.advance dt).linkUp p = s.linkUp p :=
  State.on_advance_ne dt (portStatus_notTime hp)

/-! ### Pause frames received -/

theorem State.quantaUp_eq {s t : State} {p q : Nat} (h : t.fld (F.RING_PORT_STATUS_RATE p) = s.fld (F.RING_PORT_STATUS_RATE p)) :
    t.quantaUp p q = s.quantaUp p q := by
  rw [State.quantaUp, State.quantaUp, State.linkMbps, State.linkMbps, h]

theorem State.inc_classStopped (s : State) (a p cls : Nat) : (s.inc a).classStopped p cls = s.classStopped p cls := by
  rw [State.classStopped, State.classStopped, State.rp, State.inc_ring, State.inc_time]
  rfl

/-- The classes of a mask stop for the quanta (R64). -/
theorem State.stopClasses_stops (s : State) {p mask q cls : Nat} (hp : p < s.ring.ports.length) (hm : mask.testBit cls = true) (hq : q ≠ 0)
    (hup : 0 < s.quantaUp p q) : (s.stopClasses p mask q).classStopped p cls = true := by
  have hlater : Nat.blt s.time.up (s.time.up + s.quantaUp p q) = true := Nat.blt_eq.mpr (by omega)
  rw [State.classStopped, State.stopClasses, State.rp_rpUpd_same s hp, if_neg hq, List.singleton_append, List.any_cons, hm]
  simp only [Bool.true_and, Bool.or_eq_true]
  exact .inl hlater

/-- A pause frame that port C honours stops its best-effort and lower classes (R64). -/
theorem answers_spurFrameRx_pause (s : State) (dt q : Nat) (f : Frame) (hl : s.linkUp 2 = true) (hb : f.body = .pause q) (h1 : 64 ≤ f.len)
    (h2 : f.len ≤ s.frameLimit 2 f) (h3 : f.fcsOk = true) (h4 : 4 ≤ arrivalClass 2 f) (hen : s.on (F.RING_PORT_CFG_PAUSE_EN 2) = true)
    (hup : 0 < s.quantaUp 2 q) (hq : q ≠ 0) (hp : 2 < s.ring.ports.length) :
    Answers (.spurFrameRx dt f) s fun t => (∀ cls < 5, t.classStopped 2 cls = true) ∧ Counts s t (A.MSTAT_RX_PAUSE 2) 1 ∧ MemKept s t := by
  set e := s.fresh.advance dt with he
  have hcfg : SameCfg s e := sameCfg_elapsed s dt
  have hle : e.linkUp 2 = true := (s.linkUp_elapsed dt (by decide)).trans hl
  have harr := State.arrive_pause e (by decide : 2 < 3) f q hb h1 (h2.trans_eq (hcfg.frameLimit (by decide) f).symm) h3 h4
  set a := e.arrived 2 f.len (arrivalClass 2 f) with ha
  have hcfga : SameCfg s a := hcfg.trans ((chg_arrived e (by decide : 2 < 3) _ _).sameCfg (arrivalRegs_notCfg (by decide : 2 < 3)))
  set mask := if a.on (F.RING_PORT_CFG_PAUSE_HONOUR_ALL 2) then 0xFF else 0x1F with hmask
  set u := (a.inc (A.MSTAT_RX_PAUSE 2)).stopClasses 2 mask q with hu
  have hframe : Chg AnyReg (Parts [.ring, .time, .clk, .mgmt]) NoMem s u := by
    have hb : Chg AnyReg (Parts [.ring, .time, .clk, .mgmt]) NoMem s e :=
      (chg_elapsed s dt (l := timeRegs) fun a => id).mono (fun _ _ => trivial) (fun _ h => h) fun _ h => h
    exact ((hb.arrived (by decide) (by simp) _ _ trivial trivial trivial trivial).portInc (by decide : 2 < 3) 1 (by decide) trivial
      trivial).rpUpd _ _ (by simp)
  have hrate : (a.inc (A.MSTAT_RX_PAUSE 2)).fld (F.RING_PORT_STATUS_RATE 2) = s.fld (F.RING_PORT_STATUS_RATE 2) := by
    rw [State.fld_inc_free (by decide), ha, State.fld_arrived_status e (by decide) _ _ (by decide) rfl (by decide)]
    exact State.fld_advance_ne dt (portStatus_notTime (by decide))
  have hlen : 2 < (a.inc (A.MSTAT_RX_PAUSE 2)).ring.ports.length := by
    rw [State.inc_ring, ha, State.length_arrived, he, State.ring_elapsed]
    exact hp
  refine answers_effect (u := u) _ rfl ?_ hframe ⟨fun cls hcls => ?_, ?_, hframe.memKept⟩
  · dsimp only
    rw [← he, hle, harr]
    have hen' : (a.inc (A.MSTAT_RX_PAUSE 2)).on (F.RING_PORT_CFG_PAUSE_EN 2) = true := by
      rw [State.on, State.fld_inc_free (by decide), ← State.on, hcfga.on (.inr (.inr (.inl (by decide)))), hen]
    have hhon : (a.inc (A.MSTAT_RX_PAUSE 2)).on (F.RING_PORT_CFG_PAUSE_HONOUR_ALL 2) = a.on (F.RING_PORT_CFG_PAUSE_HONOUR_ALL 2) := by
      rw [State.on, State.fld_inc_free (by decide), ← State.on]
    simp only [Bool.not_true, Bool.false_eq_true, if_false, State.spurFrame, hb, h3, State.when_true, State.pauseRx, hen', hhon, and_self, if_true]
    rfl
  · have hm : mask.testBit cls = true := by
      rw [hmask]
      split <;> interval_cases cls <;> decide
    rw [State.classStopped, State.rp, State.seal_ring, State.seal_time]
    exact State.stopClasses_stops _ hlen hm hq (by rw [State.quantaUp_eq hrate]; exact hup)
  · rw [Counts, State.rd_seal _ _ (by decide), hu, State.stopClasses, State.rd_rpUpd, State.rd_inc_counts (by decide), ha,
      State.rd_arrived e (by decide) _ _ (by decide), he, State.rd_advance_ne dt (by decide)]
    rfl

/-- Settles O20, clause by clause: shapers, the gate cycle, gate entries, the watermarks, pause frames sent and received. -/
theorem shapingAndPause : Obligations.ShapingAndPause :=
  ⟨answers_cbsWrite, answers_qbvSwap, answers_qbvSwap_refused, answers_qbvCycleStart, answers_qbvEntryExpiry, answers_qbvCycleCut,
    answers_qbvEntryWrite, answers_pauseWmWrite, answers_pauseRepeat, answers_pauseQuantaExpiry, answers_spurFrameRx_pause⟩

end Sys2Proof.Machine
end

section
/-! PROOFS. Frames forwarded round the ring, delivered and sent (R45, R52 to R54, R58, R66). -/

namespace Sys2Proof.Machine

/-! ### What waits at a port -/

/-- From s to t the queue of port q is as it was, and so is the number of ports. -/
def QueueKept (q : Nat) (s t : State) : Prop := (t.rp q).queue = (s.rp q).queue ∧ t.ring.ports.length = s.ring.ports.length

theorem QueueKept.refl (q : Nat) (s : State) : QueueKept q s s := ⟨rfl, rfl⟩

theorem QueueKept.trans {q : Nat} {s t u : State} (h : QueueKept q s t) (h' : QueueKept q t u) : QueueKept q s u :=
  ⟨h'.1.trans h.1, h'.2.trans h.2⟩

theorem queueKept_of_ring {q : Nat} {s t : State} (h : t.ring.ports = s.ring.ports) : QueueKept q s t := by
  unfold QueueKept State.rp
  rw [h]
  exact ⟨rfl, rfl⟩

theorem queueKept_rpUpd (s : State) (p q : Nat) (f : RingPort → RingPort) (h : ∀ x, (f x).queue = x.queue) : QueueKept q s (s.rpUpd p f) :=
  ⟨State.rp_rpUpd_keeps s p q f RingPort.queue h, State.length_rpUpd s p f⟩

theorem QueueKept.when {q : Nat} {s t : State} (h : QueueKept q s t) (b : Bool) (f : State → State) (hf : QueueKept q t (f t)) :
    QueueKept q s (t.when b f) := by
  unfold State.when
  split
  · exact h.trans hf
  · exact h

theorem queueKept_countTx (s : State) (p q n : Nat) : QueueKept q s (s.countTx p n) := by
  unfold State.countTx
  refine QueueKept.trans (t := (s.inc (A.MSTAT_TX_FRAMES p)).bump (A.MSTAT_TX_BLK64 p) (((s.rp p).txRem + n) / 64)) (queueKept_of_ring ?_)
    (queueKept_rpUpd _ p q _ fun _ => rfl)
  rw [State.bump_ring, State.inc_ring]

theorem queueKept_inc (s : State) (q a : Nat) : QueueKept q s (s.inc a) := queueKept_of_ring (congrArg Ring.ports (State.inc_ring s a))

theorem queueKept_putOut (s : State) (q : Nat) (o : Out) : QueueKept q s (s.putOut o) := .refl q s

theorem queueKept_sendPause (s : State) (p q n : Nat) : QueueKept q s (s.sendPause p n) := by
  unfold State.sendPause
  split
  · exact ((queueKept_countTx s p q 64).trans (queueKept_inc _ q _)).trans (queueKept_putOut _ q _)
  · exact .refl q s

theorem queueKept_poolCheck (s : State) (p q : Nat) : QueueKept q s (s.poolCheck p) := by
  unfold State.poolCheck
  dsimp only
  split
  · exact QueueKept.when (.refl q s) _ _ ((queueKept_sendPause _ _ _ _).trans (queueKept_rpUpd _ _ _ _ fun _ => rfl))
  split
  · exact (QueueKept.when (.refl q s) _ _ (queueKept_sendPause _ _ _ _)).trans (queueKept_rpUpd _ _ _ _ fun _ => rfl)
  · exact .refl q s

theorem queueKept_creditTick (s : State) (p q : Nat) : QueueKept q s (s.creditTick p) := queueKept_rpUpd _ _ _ _ fun _ => rfl

theorem queueKept_enqueue (s : State) {p q : Nat} (h : q ≠ p) (e : EgFrame) : QueueKept q s (s.enqueue p e) := by
  unfold State.enqueue
  split
  · exact (queueKept_creditTick s p q).trans ⟨congrArg RingPort.queue (State.rp_rpUpd_ne _ h _), State.length_rpUpd _ _ _⟩
  · exact .refl q s

/-- The frame as it waits at the egress port. -/
def State.relayFrame (s : State) (i : Nat) (a : Arrival) (f : Frame) : EgFrame :=
  { s.ownFrame f a.cls with own := false, pool := if a.cls < 4 then some i else none }

/-- A best-effort frame occupies the pool of its ingress port (R62). -/
def State.poolTake (s : State) (i : Nat) (a : Arrival) (f : Frame) : State :=
  if a.cls < 4 then (s.rpUpd i (fun x => { x with pool := x.pool + f.len })).poolCheck i else s

theorem State.forward_eq (s : State) (i o : Nat) (a : Arrival) (f : Frame) :
    s.forward i o a f = if !s.linkUp o then s else if !f.fcsOk && !f.oversize && !s.cutsThrough i o then s
      else (s.enqueue o (s.relayFrame i a f)).poolTake i a f := rfl

theorem queueKept_poolTake (s : State) (i q : Nat) (a : Arrival) (f : Frame) : QueueKept q s (s.poolTake i a f) := by
  unfold State.poolTake
  split
  · exact (queueKept_rpUpd s i q (fun x => { x with pool := x.pool + f.len }) fun _ => rfl).trans (queueKept_poolCheck _ i q)
  · exact .refl q s

/-- Forwarding reaches the queue of the egress port alone. -/
theorem queueKept_forward (s : State) (i : Nat) {o q : Nat} (h : q ≠ o) (a : Arrival) (f : Frame) : QueueKept q s (s.forward i o a f) := by
  rw [State.forward_eq]
  split
  · exact .refl q s
  split
  · exact .refl q s
  · exact (queueKept_enqueue s h _).trans (queueKept_poolTake _ i q a f)

/-- A good frame forwarded to a port whose link is up waits at its end. -/
theorem State.forward_queues (s : State) (i : Nat) {o : Nat} (a : Arrival) (f : Frame) (hl : s.linkUp o = true) (hf : f.fcsOk = true)
    (ho : o < s.ring.ports.length) : ((s.forward i o a f).rp o).queue = (s.rp o).queue ++ [s.relayFrame i a f] := by
  have henq : ((s.enqueue o (s.relayFrame i a f)).rp o).queue = (s.rp o).queue ++ [s.relayFrame i a f] := by
    rw [State.enqueue, if_pos hl, State.rp_rpUpd_same _ (by rw [State.creditTick, State.length_rpUpd]; exact ho)]
    exact congrArg (· ++ _) (queueKept_creditTick s o o).1
  rw [State.forward_eq, hl, hf]
  exact (queueKept_poolTake _ i o a f).1.trans henq

theorem queueKept_toSpur (s : State) (i : Nat) {q : Nat} (h : q ≠ 2) (a : Arrival) (f : Frame) : QueueKept q s (s.toSpur i a f) := by
  unfold State.toSpur
  split
  · exact queueKept_forward s i h a _
  · exact .refl q s

theorem queueKept_frerStep (s : State) (q : Nat) (e : Frer) (n : Nat) : QueueKept q s (s.frerStep e n).2.2 := by
  unfold State.frerStep
  dsimp only
  split
  · split
    · exact .refl q s
    · exact queueKept_of_ring (congrArg Ring.ports (State.inc_ring _ _))
  split
  · exact .refl q s
  split
  · exact queueKept_of_ring (congrArg Ring.ports (State.bump_ring _ _ _))
  split
  · exact .refl q s
  dsimp only
  split
  · exact .refl q s
  · exact queueKept_of_ring (congrArg Ring.ports (State.inc_ring _ _))

theorem queueKept_frerCount (s : State) (p q : Nat) (o : FrerOut) : QueueKept q s (s.frerCount p o) := by
  cases o with
  | pass => exact .refl q s
  | dup => exact queueKept_of_ring (congrArg Ring.ports (State.inc_ring _ _))
  | rogue => exact queueKept_of_ring (congrArg Ring.ports (State.inc_ring _ _))

theorem queueKept_frerSource (s : State) (p q src n : Nat) : QueueKept q s (s.frerSource p src n).2 :=
  ((queueKept_frerStep s q _ n).trans ⟨rfl, rfl⟩).trans (queueKept_frerCount _ p q _)

/-! ### What relaying a frame changes -/

/-- The registers that relaying a frame that arrived on port p changes, its counters of arrival apart: those of the host link, of
recovery, and of pauses. -/
def Relay (p a : Nat) : Prop :=
  a < 0x10000 ∨ a ∈ [A.MSTAT_FRER_LOST, A.MSTAT_FRER_OOO, A.MSTAT_FRER_RESET, A.MSTAT_SAT_REC, A.MSTAT_SAT p, A.MSTAT_FRER_DUP p,
    A.MSTAT_FRER_ROGUE p, A.MSTAT_TX_PAUSE p, A.MSTAT_TX_FRAMES p, A.MSTAT_TX_BLK64 p]

section
variable {P : Part → Prop} {M : Nat → Prop} {s t : State} {p : Nat}

theorem Chg.putByte {R : Nat → Prop} (h : Chg R P M s t) (a : Nat) (b : BitVec 8) (ha : M a) : Chg R P M s (t.putByte a b) :=
  h.of_same rfl (fun _ _ => rfl) (fun q _ hq => by cases q <;> exact hq) fun c hc => by
    rw [State.byte_putByte]
    exact if_neg fun e => hc (by rw [e]; exact ha)

theorem Chg.putMemWord {R : Nat → Prop} (h : Chg R P M s t) (a : Nat) (w : Word) (ha : ∀ b, M b) : Chg R P M s (t.putMemWord a w) :=
  (((h.putByte _ _ (ha _)).putByte _ _ (ha _)).putByte _ _ (ha _)).putByte _ _ (ha _)

theorem Chg.putBar2 {R : Nat → Prop} (h : Chg R P M s t) (off n : Nat) (ha : ∀ b, M b) : Chg R P M s (t.putBar2 off n) := h.putMemWord _ _ ha

theorem Chg.putStamp {R : Nat → Prop} (h : Chg R P M s t) (off n : Nat) (ha : ∀ b, M b) : Chg R P M s (t.putStamp off n) :=
  (h.putBar2 _ _ ha).putBar2 _ _ ha

/-- A frame for the host goes to its ring in the host's memory, or is dropped and counted (R411). -/
theorem chg_hostRx (s : State) (f : Frame) : Chg (· < 0x10000) (· = .bus) (fun _ => True) s (s.hostRx f) := by
  have hm : ∀ b : Nat, (fun _ : Nat => True) b := fun _ => trivial
  have hcount (t : State) (a : Nat) (f : Fld) (h : Chg (· < 0x10000) (· = .bus) (fun _ => True) s t) (ha : a = A.SYS_CNT_FRAME_RX ∨ a = A.SYS_CNT_FRAME_RX_DROP)
      (hf : f.adr < 0x10000) : Chg (· < 0x10000) (· = .bus) (fun _ => True) s ((t.inc a).event f) := by
    rcases ha with rfl | rfl
    · exact (h.inc _ (by decide) (by decide) (by decide)).event _ hf
    · exact (h.inc _ (by decide) (by decide) (by decide)).event _ hf
  unfold State.hostRx
  dsimp only
  split
  · have hbytes := Chg.forN (f.len - 4) (fun i t => t.putByte (bar2Base + s.bar2 (rxDesc s.bus.hostRx + 4) + i) (BitVec.ofNat 8 (getAt f.raw i 0)))
      (fun i _ t ht => ht.putByte _ _ trivial)
      (Chg.bus (R := (· < 0x10000)) (P := (· = .bus)) (M := fun _ => True) (Chg.refl (s := s)) { s.bus with hostRx := (s.bus.hostRx + 1) % 256 } rfl)
    exact hcount _ _ _ ((hbytes.when _ _ fun _ => hbytes.putStamp _ _ hm).putBar2 _ _ hm) (.inl rfl) (by decide)
  · exact hcount _ _ _ Chg.refl (.inr rfl) (by decide)

theorem Chg.relayHost (h : Chg (Relay p) P M s t) (f : Frame) (hp : P .bus) (hm : ∀ b, M b) : Chg (Relay p) P M s (t.hostRx f) :=
  h.trans ((chg_hostRx t f).mono (fun _ => .inl) (fun _ e => e ▸ hp) fun _ _ => hm _)

theorem Chg.relayInc (h : Chg (Relay p) P M s t) (hp : p < 3) {a : Nat} (n : Nat) (ha : a / 0x100 = 0x300 + p) (hr : Relay p a) :
    Chg (Relay p) P M s (t.bump a n) := h.portInc hp n ha hr (.inr (by simp))

/-- The counters of recovery. -/
theorem Chg.relayRec (h : Chg (Relay p) P M s t) {a : Nat} (n : Nat) (ha : a = A.MSTAT_FRER_LOST ∨ a = A.MSTAT_FRER_OOO ∨ a = A.MSTAT_FRER_RESET) :
    Chg (Relay p) P M s (t.bump a n) := by
  have hsat : (satOf a).adr = A.MSTAT_SAT_REC ∧ (satOf a).event = none := by rcases ha with rfl | rfl | rfl <;> decide
  refine h.incAt n hsat.1 hsat.2 (.inr ?_) (.inr (by simp))
  rcases ha with rfl | rfl | rfl <;> simp

theorem Chg.relayStep (h : Chg (Relay p) P M s t) (e : Frer) (n : Nat) : Chg (Relay p) P M s (t.frerStep e n).2.2 := by
  unfold State.frerStep
  dsimp only
  split
  · split
    · exact h
    · exact h.relayRec 1 (.inr (.inr rfl))
  split
  · exact h
  split
  · exact h.relayRec _ (.inl rfl)
  split
  · exact h
  dsimp only
  split
  · exact h
  · exact h.relayRec 1 (.inr (.inl rfl))

theorem Chg.relaySource (h : Chg (Relay p) P M s t) (hp : p < 3) (hring : P .ring) (src n : Nat) :
    Chg (Relay p) P M s (t.frerSource p src n).2 := by
  have hstep := (h.relayStep (((t.ring.frerS.find? (fun c => c.1 == src)).map Prod.snd).getD Frer.new) n).updRing
    (fun r => { r with frerS := ((src, (t.frerStep (((t.ring.frerS.find? (fun c => c.1 == src)).map Prod.snd).getD Frer.new) n).2.1) ::
      r.frerS.filter (fun c => c.1 != src)).take 128 }) hring
  have hcount (u : State) (o : FrerOut) (hu : Chg (Relay p) P M s u) : Chg (Relay p) P M s (u.frerCount p o) := by
    cases o with
    | pass => exact hu
    | dup => exact hu.relayInc hp 1 (by simp only [A.MSTAT_FRER_DUP]; omega) (.inr (by simp))
    | rogue => exact hu.relayInc hp 1 (by simp only [A.MSTAT_FRER_ROGUE]; omega) (.inr (by simp))
  exact hcount _ _ hstep

theorem Chg.relayPool (h : Chg (Relay p) P M s t) (hp : p < 3) (hring : P .ring) : Chg (Relay p) P M s (t.poolCheck p) := by
  have hsend (u : State) (q : Nat) (hu : Chg (Relay p) P M s u) : Chg (Relay p) P M s (u.sendPause p q) := by
    unfold State.sendPause State.countTx
    split
    · exact ((((hu.relayInc hp 1 (by simp only [A.MSTAT_TX_FRAMES]; omega) (.inr (by simp))).relayInc hp _
        (by simp only [A.MSTAT_TX_BLK64]; omega) (.inr (by simp))).rpUpd _ _ hring).relayInc hp 1
        (by simp only [A.MSTAT_TX_PAUSE]; omega) (.inr (by simp))).out _
    · exact hu
  unfold State.poolCheck
  dsimp only
  split
  · exact h.when _ _ fun _ => (hsend _ _ h).rpUpd _ _ hring
  split
  · exact (h.when _ _ fun _ => hsend _ _ h).rpUpd _ _ hring
  · exact h

theorem Chg.relayForward (h : Chg (Relay p) P M s t) (hp : p < 3) (hring : P .ring) (o : Nat) (a : Arrival) (f : Frame) :
    Chg (Relay p) P M s (t.forward p o a f) := by
  have henq : Chg (Relay p) P M s (t.enqueue o (t.relayFrame p a f)) := by
    unfold State.enqueue State.creditTick
    exact Chg.ite (fun _ => (h.rpUpd _ _ hring).rpUpd _ _ hring) fun _ => h
  have htake : Chg (Relay p) P M s ((t.enqueue o (t.relayFrame p a f)).poolTake p a f) := by
    unfold State.poolTake
    exact Chg.ite (fun _ => (henq.rpUpd _ _ hring).relayPool hp hring) fun _ => henq
  rw [State.forward_eq]
  exact Chg.ite (fun _ => h) fun _ => Chg.ite (fun _ => h) fun _ => htake

theorem Chg.relaySpur (h : Chg (Relay p) P M s t) (hp : p < 3) (hring : P .ring) (a : Arrival) (f : Frame) :
    Chg (Relay p) P M s (t.toSpur p a f) := by
  unfold State.toSpur
  exact Chg.ite (fun _ => h.relayForward hp hring 2 a _) fun _ => h

end

end Sys2Proof.Machine
end

section
/-! PROOFS. What a frame's arrival and departure answer (R45, R52 to R54, R58, R66). -/

namespace Sys2Proof.Machine

theorem boolPort_lt (b : Bool) : b.toNat < 3 ∧ 1 - b.toNat < 3 ∧ 1 - b.toNat ≠ b.toNat ∧ 1 - b.toNat ≠ 2 := by cases b <;> decide

/-- A runt only counts (R58, R66). -/
theorem answers_ringFrameRx_runt (s : State) (dt : Nat) (b : Bool) (f : Frame) (hl : s.linkUp b.toNat = true) (h : f.len < 64) :
    Answers (.ringFrameRx dt b f) s fun t =>
      Counts s t (A.MSTAT_RX_RUNT b.toNat) 1 ∧
      Framed (timeRegs ++ [A.MSTAT_RX_RUNT b.toNat, A.MSTAT_RX_BLK64 b.toNat, A.MSTAT_SAT b.toNat]) [.ring, .time, .clk, .mgmt] s t := by
  set e := s.fresh.advance dt with he
  have hp := (boolPort_lt b).1
  have hle : e.linkUp b.toNat = true := (s.linkUp_elapsed dt hp).trans hl
  have hframe : Chg (Listed (timeRegs ++ [A.MSTAT_RX_RUNT b.toNat, A.MSTAT_RX_BLK64 b.toNat, A.MSTAT_SAT b.toNat]))
      (Parts [.ring, .time, .clk, .mgmt]) NoMem s ((e.bytesIn b.toNat f.len).inc (A.MSTAT_RX_RUNT b.toNat)) :=
    ((chg_elapsed s dt fun _ => List.mem_append_left _).bytesIn hp (by simp) _ (by simp) (by simp)).portInc hp 1
      (by simp only [A.MSTAT_RX_RUNT]; omega) (by simp) (by simp)
  have hc : bumpOk (A.MSTAT_RX_RUNT b.toNat) = true ∧ bumpFree (A.MSTAT_RX_RUNT b.toNat) (A.MSTAT_RX_BLK64 b.toNat) = true ∧
      A.MSTAT_RX_RUNT b.toNat ∉ summaries ∧ A.MSTAT_RX_RUNT b.toNat ∉ timeRegs := by cases b <;> decide
  obtain ⟨h1, h2, h3, h4⟩ := hc
  refine answers_effect (u := (e.bytesIn b.toNat f.len).inc (A.MSTAT_RX_RUNT b.toNat)) _ rfl ?_ hframe ⟨?_, hframe.framed⟩
  · dsimp only
    rw [← he, portOfBool, hle, State.arrive_runt _ _ _ h]
    rfl
  · rw [Counts, State.rd_seal _ _ h3, State.rd_inc_counts h1, State.bytesIn, State.rd_rpUpd, State.rd_bump_free _ h2, he,
      State.rd_advance_ne dt h4]
    rfl

/-! ### A frame of the ring after its arrival checks -/

/-- A plain frame with the module's own source is removed (R54). -/
theorem State.ringFrame_own (s : State) (p : Nat) (a : Arrival) (hf : Plain a.fwd) (ho : s.ownMac a.fwd.src = true) :
    s.ringFrame p a = s.inc (A.MSTAT_RING_STRIP p) := by
  unfold State.ringFrame
  cases hb : a.fwd.body with
  | ptp _ => simp [Plain, hb] at hf
  | pause _ => simp [Plain, hb] at hf
  | pfc _ _ => simp [Plain, hb] at hf
  | _ => exact if_pos ho

/-- The module's own frames end at it (R54). -/
theorem answers_ringFrameRx_own (s : State) (dt : Nat) (b : Bool) (f : Frame) (hl : s.linkUp b.toNat = true) (hpass : Passes s b.toNat f)
    (hf : Plain f) (ho : s.ownMac f.src = true) :
    Answers (.ringFrameRx dt b f) s fun t =>
      Counts s t (A.MSTAT_RING_STRIP b.toNat) 1 ∧ Counts s t (A.MSTAT_RX_FRAMES b.toNat) 1 ∧
      (∀ q, (t.rp q).queue = (s.rp q).queue) ∧
      Framed (timeRegs ++ [A.MSTAT_RING_STRIP b.toNat, A.MSTAT_RX_FRAMES b.toNat, A.MSTAT_RX_BLK64 b.toNat, A.MSTAT_SAT b.toNat,
        A.RING_PORT_STATUS b.toNat]) [.ring, .time, .clk, .mgmt] s t := by
  set e := s.fresh.advance dt with he
  have hp := (boolPort_lt b).1
  have hcfg : SameCfg s e := sameCfg_elapsed s dt
  have hle : e.linkUp b.toNat = true := (s.linkUp_elapsed dt hp).trans hl
  obtain ⟨v, -, harr⟩ := State.arrive_plain e hp f (hcfg.passes hp (s.rp_elapsed dt _) hpass) hf
  set a := e.arrived b.toNat f.len (arrivalClass b.toNat f) with ha
  have hcfga : SameCfg s a := hcfg.trans ((chg_arrived e hp _ _).sameCfg (arrivalRegs_notCfg hp))
  have hframe : Chg (Listed (timeRegs ++ [A.MSTAT_RING_STRIP b.toNat, A.MSTAT_RX_FRAMES b.toNat, A.MSTAT_RX_BLK64 b.toNat, A.MSTAT_SAT b.toNat,
        A.RING_PORT_STATUS b.toNat])) (Parts [.ring, .time, .clk, .mgmt]) NoMem s (a.inc (A.MSTAT_RING_STRIP b.toNat)) :=
    ((chg_elapsed s dt fun _ => List.mem_append_left _).arrived hp (by simp) _ _ (by simp) (by simp) (by simp) (by simp)).portInc hp 1
      (by simp only [A.MSTAT_RING_STRIP]; omega) (by simp) (by simp)
  have hc : bumpOk (A.MSTAT_RING_STRIP b.toNat) = true ∧ A.MSTAT_RING_STRIP b.toNat ∉ arrivalRegs b.toNat ∧
      A.MSTAT_RING_STRIP b.toNat ∉ summaries ∧ A.MSTAT_RING_STRIP b.toNat ∉ timeRegs ∧ A.MSTAT_RX_FRAMES b.toNat ∉ summaries ∧
      A.MSTAT_RX_FRAMES b.toNat ∉ timeRegs ∧ bumpFree (A.MSTAT_RX_FRAMES b.toNat) (A.MSTAT_RING_STRIP b.toNat) = true := by cases b <;> decide
  obtain ⟨h1, h2, h3, h4, h5, h6, h7⟩ := hc
  refine answers_effect (u := a.inc (A.MSTAT_RING_STRIP b.toNat)) _ rfl ?_ hframe ⟨?_, ?_, fun q => ?_, hframe.framed⟩
  · dsimp only
    rw [← he, portOfBool, hle, harr]
    exact State.ringFrame_own a _ _ hf ((hcfga.ownMac _).trans ho)
  · rw [Counts, State.rd_seal _ _ h3, State.rd_inc_counts h1, ha, State.rd_arrived e hp _ _ h2, he, State.rd_advance_ne dt h4]
    rfl
  · rw [Counts, State.rd_seal _ _ h5, State.rd_inc_free h7, ha, State.rd_arrived_frames e hp, he, State.rd_advance_ne dt h6]
    rfl
  · rw [State.rp, State.seal_ring, State.inc_ring, ← State.rp, ha, State.rp_arrived_keeps _ _ _ _ _ RingPort.queue (fun _ _ => rfl) fun _ _ => rfl,
      he, State.rp_elapsed]

/-! ### A data frame delivered and relayed -/

/-- Only the host can want a data frame of no other use (R410, R411). -/
theorem State.deliver_data (s : State) (p : Nat) (f : Frame) (hb : f.body = .data) :
    s.deliver p f = s.when (s.hostWants f false && (f.fcsOk || f.oversize)) (fun s => s.hostRx f) := by
  have hc : s.consume p f = (false, s) := by
    unfold State.consume
    rw [hb]
  rw [State.deliver, hc]

theorem queueKept_deliver (s : State) (p q : Nat) (f : Frame) (hb : f.body = .data) : QueueKept q s (s.deliver p f) := by
  rw [State.deliver_data s p f hb]
  refine QueueKept.when (.refl q s) _ _ (queueKept_of_ring ?_)
  rw [show (s.hostRx f).ring = s.ring from (chg_hostRx s f).part .ring (by simp)]

/-- What recovery passes is delivered and goes to the spur (R54, R55). -/
def State.recovered (s : State) (p : Nat) (a : Arrival) (seq : Nat) : State :=
  if (s.frerSource p a.loc.src seq).1 then (((s.frerSource p a.loc.src seq).2.deliver p a.loc).toSpur p a a.fwd)
  else (s.frerSource p a.loc.src seq).2

/-- The frame as it goes on along the ring: its hop count one up. -/
def Arrival.onward (a : Arrival) (seq hop : Nat) : Frame := { a.fwd with rtag := some (seq, (hop + 1) % 256) }

theorem State.ringFrame_tagged (s : State) (p : Nat) (a : Arrival) {seq hop : Nat} (hb : a.fwd.body = .data) (hl : a.loc.body = .data)
    (hfcs : a.loc.fcsOk = true) (ho : s.ownMac a.fwd.src = false) (ht : a.fwd.rtag = some (seq, hop)) :
    s.ringFrame p a = (if hop + 1 < s.hopLimit then s.forward p (1 - p) a (a.onward seq hop) else s.inc (A.MSTAT_HOP_EXPIRED p)).recovered p a seq := by
  have hrec (u : State) : u.recover p a.loc seq = u.frerSource p a.loc.src seq := by
    unfold State.recover
    rw [hl]
  unfold State.ringFrame
  simp only [hb, ho, ht, Bool.false_eq_true, if_false, State.ringTagged, hfcs, Bool.not_true, Bool.false_and, hrec, State.recovered,
    Arrival.onward]

theorem queueKept_recovered (s : State) (p : Nat) {q : Nat} (h : q ≠ 2) (a : Arrival) (seq : Nat) (hl : a.loc.body = .data) :
    QueueKept q s (s.recovered p a seq) := by
  have hsrc := queueKept_frerSource s p q a.loc.src seq
  unfold State.recovered
  split
  · exact (hsrc.trans (queueKept_deliver _ p q _ hl)).trans (queueKept_toSpur _ p h a _)
  · exact hsrc

theorem Chg.relayRecovered {P : Part → Prop} {M : Nat → Prop} {s t : State} {p : Nat} (h : Chg (Relay p) P M s t) (hp : p < 3) (hring : P .ring)
    (hbus : P .bus) (hm : ∀ b, M b) (a : Arrival) (seq : Nat) (hl : a.loc.body = .data) : Chg (Relay p) P M s (t.recovered p a seq) := by
  have hsrc := h.relaySource hp hring a.loc.src seq
  have hdel : Chg (Relay p) P M s ((t.frerSource p a.loc.src seq).2.deliver p a.loc) := by
    rw [State.deliver_data _ p _ hl]
    exact hsrc.when _ _ fun _ => hsrc.relayHost _ hbus hm
  unfold State.recovered
  exact Chg.ite (fun _ => hdel.relaySpur hp hring a _) fun _ => hsrc

theorem State.sharedSeq_arrived (s : State) (p len cls : Nat) : (s.arrived p len cls).ring.sharedSeq = s.ring.sharedSeq := by
  have hset (t : State) (b : Bool) : (t.when b fun t => t.set (F.RING_PORT_STATUS_LPI p) 0).ring = t.ring := by cases b <;> rfl
  have hbytes : (s.bytesIn p len).ring.sharedSeq = s.ring.sharedSeq := by
    change (s.bump _ _).ring.sharedSeq = _
    rw [State.bump_ring]
  rw [State.arrived, State.inc_ring, State.portAwake, State.when]
  split
  · exact (congrArg Ring.sharedSeq (hset _ _)).trans hbytes
  · rw [hset, hbytes]

/-- A frame that has arrived after a time, and what the rest of its way finds as it was. -/
structure Arrives (s a : State) : Prop where
  cfg : SameCfg s a
  ports : a.ring.ports.length = s.ring.ports.length
  queue : ∀ q, (a.rp q).queue = (s.rp q).queue
  link : ∀ q < 3, a.linkUp q = s.linkUp q
  seq : a.ring.sharedSeq = s.ring.sharedSeq
  count : ∀ r, r ∉ timeRegs → (∀ p < 3, r ∉ arrivalRegs p) → r ∉ summaries → a.rd r = s.rd r
  variant : a.variant = s.variant

theorem arrives_after (s : State) (dt : Nat) {p : Nat} (hp : p < 3) (len cls : Nat) : Arrives s ((s.fresh.advance dt).arrived p len cls) where
  cfg := (sameCfg_elapsed s dt).trans ((chg_arrived _ hp _ _).sameCfg (arrivalRegs_notCfg hp))
  ports := by rw [State.length_arrived, State.ring_elapsed]
  queue q := by rw [State.rp_arrived_keeps _ _ _ _ _ RingPort.queue (fun _ _ => rfl) fun _ _ => rfl, State.rp_elapsed]
  link q hq := by
    rw [State.linkUp, State.on, State.fld_arrived_status _ hp _ _ hq rfl (by interval_cases p <;> interval_cases q <;> decide), ← State.on]
    exact s.linkUp_elapsed dt hq
  seq := by rw [State.sharedSeq_arrived, State.ring_elapsed]
  count r h1 h2 h3 := by
    rw [State.rd_arrived _ hp _ _ (h2 p hp), State.rd_advance_ne dt h1]
    rfl
  variant := ((chg_arrived _ hp _ _).variant).trans (chg_elapsed s dt fun _ h => h).variant

/-- A tagged frame goes on along the ring with its hop count one up (R54). -/
theorem answers_ringFrameRx_on (s : State) (dt seq hop : Nat) (b : Bool) (f : Frame) (hs : Shaped s) (hl : s.linkUp b.toNat = true)
    (hl' : s.linkUp (1 - b.toNat) = true) (hpass : Passes s b.toNat f) (_hover : f.oversize = false) (hb : f.body = .data)
    (ho : s.ownMac f.src = false) (ht : f.rtag = some (seq, hop)) (hlim : hop + 1 < s.hopLimit) :
    Answers (.ringFrameRx dt b f) s fun t =>
      ∃ e, (t.rp (1 - b.toNat)).queue = (s.rp (1 - b.toNat)).queue ++ [e] ∧
        e.frame = { f with rtag := some (seq, (hop + 1) % 256) } := by
  obtain ⟨hp, hp', hne, hne2⟩ := boolPort_lt b
  obtain ⟨v, -, harr⟩ := State.arrive_plain (s.fresh.advance dt) hp f ((sameCfg_elapsed s dt).passes hp (s.rp_elapsed dt _) hpass) (by rw [Plain, hb])
  have hle : (s.fresh.advance dt).linkUp b.toNat = true := (s.linkUp_elapsed dt hp).trans hl
  have hin := arrives_after s dt hp f.len (arrivalClass b.toNat f)
  set a := (s.fresh.advance dt).arrived b.toNat f.len (arrivalClass b.toNat f) with ha
  set x : Arrival := ⟨v, arrivalClass b.toNat f, f, f⟩ with hx
  have hq := State.forward_queues a b.toNat x (x.onward seq hop) ((hin.link _ hp').trans hl') hpass.2.2.1 (by rw [hin.ports, hs.1]; exact hp')
  have hrest := queueKept_recovered (a.forward b.toNat (1 - b.toNat) x (x.onward seq hop)) b.toNat hne2 x seq hb
  have hchg : Chg (Relay b.toNat) (Parts [.ring, .bus]) (fun _ => True) a ((a.forward b.toNat (1 - b.toNat) x (x.onward seq hop)).recovered b.toNat x seq) :=
    (Chg.refl.relayForward hp (by simp) _ x _).relayRecovered hp (by simp) (by simp) (fun _ => trivial) x seq hb
  refine answers_run _ rfl ?_ (hchg.variant.trans hin.variant) ⟨a.relayFrame b.toNat x (x.onward seq hop), ?_, rfl⟩
  · dsimp only
    rw [portOfBool, hle, harr]
    exact (State.ringFrame_tagged a b.toNat x hb hb hpass.2.2.1 ((hin.cfg.ownMac _).trans ho) ht).trans (by rw [hin.cfg.hopLimit, if_pos hlim])
  · rw [State.rp, State.seal_ring, ← State.rp, hrest.1, hq, hin.queue]

/-- At the hop limit a frame goes no further (R54, R57). -/
theorem answers_ringFrameRx_expired (s : State) (dt seq hop : Nat) (b : Bool) (f : Frame) (_hs : Shaped s) (hl : s.linkUp b.toNat = true)
    (hpass : Passes s b.toNat f) (_hover : f.oversize = false) (hb : f.body = .data)
    (ho : s.ownMac f.src = false) (ht : f.rtag = some (seq, hop)) (hlim : s.hopLimit ≤ hop + 1) :
    Answers (.ringFrameRx dt b f) s fun t =>
      (t.rp (1 - b.toNat)).queue = (s.rp (1 - b.toNat)).queue ∧ Counts s t (A.MSTAT_HOP_EXPIRED b.toNat) 1 := by
  obtain ⟨hp, hp', hne, hne2⟩ := boolPort_lt b
  obtain ⟨v, -, harr⟩ := State.arrive_plain (s.fresh.advance dt) hp f ((sameCfg_elapsed s dt).passes hp (s.rp_elapsed dt _) hpass) (by rw [Plain, hb])
  have hle : (s.fresh.advance dt).linkUp b.toNat = true := (s.linkUp_elapsed dt hp).trans hl
  have hin := arrives_after s dt hp f.len (arrivalClass b.toNat f)
  set a := (s.fresh.advance dt).arrived b.toNat f.len (arrivalClass b.toNat f) with ha
  set x : Arrival := ⟨v, arrivalClass b.toNat f, f, f⟩ with hx
  have hrest := queueKept_recovered (a.inc (A.MSTAT_HOP_EXPIRED b.toNat)) b.toNat hne2 x seq hb
  have hchg : Chg (Relay b.toNat) (Parts [.ring, .bus]) (fun _ => True) (a.inc (A.MSTAT_HOP_EXPIRED b.toNat))
      ((a.inc (A.MSTAT_HOP_EXPIRED b.toNat)).recovered b.toNat x seq) :=
    Chg.refl.relayRecovered hp (by simp) (by simp) (fun _ => trivial) x seq hb
  have hc : A.MSTAT_HOP_EXPIRED b.toNat ∉ summaries ∧ ¬ Relay b.toNat (A.MSTAT_HOP_EXPIRED b.toNat) ∧ bumpOk (A.MSTAT_HOP_EXPIRED b.toNat) = true ∧
      A.MSTAT_HOP_EXPIRED b.toNat ∉ timeRegs ∧ ∀ p < 3, A.MSTAT_HOP_EXPIRED b.toNat ∉ arrivalRegs p := by
    unfold Relay
    cases b <;> decide
  obtain ⟨h1, h2, h3, h4, h5⟩ := hc
  refine answers_run _ rfl ?_ (hchg.variant.trans ((State.inc_variant _ _).trans hin.variant)) ⟨?_, ?_⟩
  · dsimp only
    rw [portOfBool, hle, harr]
    exact (State.ringFrame_tagged a b.toNat x hb hb hpass.2.2.1 ((hin.cfg.ownMac _).trans ho) ht).trans
      (by rw [hin.cfg.hopLimit, if_neg (by omega)])
  · rw [State.rp, State.seal_ring, ← State.rp, hrest.1, (queueKept_inc a _ _).1, hin.queue]
  · rw [Counts, State.rd_seal _ _ h1, State.rd_eq_of_reg (hchg.reg _ h2), State.rd_inc_counts h3, hin.count _ h4 h5 h1]

/-! ### Frames of the spur -/

/-- A data frame of the spur goes onto the ring on both ports with one new R-TAG (R52, R53). -/
theorem answers_spurFrameRx_data (s : State) (dt : Nat) (f : Frame) (hs : Shaped s) (h0 : s.linkUp 0 = true) (h1 : s.linkUp 1 = true)
    (h2 : s.linkUp 2 = true) (hpass : Passes s 2 f) (_hover : f.oversize = false) (hb : f.body = .data) :
    Answers (.spurFrameRx dt f) s fun t =>
      ∃ e e', (t.rp 0).queue = (s.rp 0).queue ++ [e] ∧ (t.rp 1).queue = (s.rp 1).queue ++ [e'] ∧
        e.frame.rtag = some (s.ring.sharedSeq, 0) ∧ e'.frame = e.frame := by
  have hp : 2 < 3 := by decide
  obtain ⟨v, -, harr⟩ := State.arrive_plain (s.fresh.advance dt) hp f ((sameCfg_elapsed s dt).passes hp (s.rp_elapsed dt _) hpass) (by rw [Plain, hb])
  have hle : (s.fresh.advance dt).linkUp 2 = true := (s.linkUp_elapsed dt hp).trans h2
  have hin := arrives_after s dt hp f.len (arrivalClass 2 f)
  set a := (s.fresh.advance dt).arrived 2 f.len (arrivalClass 2 f) with ha
  set x : Arrival := ⟨v, arrivalClass 2 f, f, f⟩ with hx
  set d := a.deliver 2 f with hd
  set g : Frame := { f with vid := v, tags := max 1 f.tags, pcp := arrivalClass 2 f, rtag := some (d.ring.sharedSeq, 0) } with hg
  set d' := d.updRing (fun r => { r with sharedSeq := (r.sharedSeq + 1) % 65536 }) with hd'
  have heff : (a.deliver 2 x.loc).spurToRing x x.fwd = (d'.forward 2 0 x g).forward 2 1 x g := rfl
  have hdel : Chg (Relay 2) (Parts [.ring, .bus]) (fun _ => True) a d := by
    rw [hd, State.deliver_data _ _ _ hb]
    exact Chg.refl.when _ _ fun _ => Chg.refl.relayHost _ (by simp) fun _ => trivial
  have hchg := (hdel.updRing (fun r => { r with sharedSeq := (r.sharedSeq + 1) % 65536 }) (by simp)).relayForward hp (by simp) 0 x g
  have hstat (q : Nat) (hq : q < 3) : ¬ Relay 2 (A.RING_PORT_STATUS q) := by
    unfold Relay
    interval_cases q <;> decide
  have hl0 : d'.linkUp 0 = true :=
    (congrArg (· != 0) (hdel.fld (g := F.RING_PORT_STATUS_LINK 0) (hstat 0 (by decide)))).trans ((hin.link 0 (by decide)).trans h0)
  have hl1 : (d'.forward 2 0 x g).linkUp 1 = true :=
    (congrArg (· != 0) (hchg.fld (g := F.RING_PORT_STATUS_LINK 1) (hstat 1 (by decide)))).trans ((hin.link 1 (by decide)).trans h1)
  have hseq : d.ring.sharedSeq = s.ring.sharedSeq := by
    rw [hd, State.deliver_data _ _ _ hb, State.when]
    split
    · rw [show (a.hostRx f).ring = a.ring from (chg_hostRx a f).part .ring (by simp), hin.seq]
    · exact hin.seq
  have hd0 (q : Nat) : QueueKept q a d' := (queueKept_deliver a 2 q f hb).trans ⟨rfl, rfl⟩
  have hf0 : QueueKept 1 d' (d'.forward 2 0 x g) := queueKept_forward d' 2 (by decide) x g
  have hf1 : QueueKept 0 (d'.forward 2 0 x g) ((d'.forward 2 0 x g).forward 2 1 x g) := queueKept_forward _ 2 (by decide) x g
  have hlen : d'.ring.ports.length = 3 := by rw [(hd0 0).2, hin.ports, hs.1]
  have hq0 := d'.forward_queues 2 x g hl0 hpass.2.2.1 (by omega)
  have hq1 := (d'.forward 2 0 x g).forward_queues 2 x g hl1 hpass.2.2.1 (by rw [hf0.2]; omega)
  have hall := hchg.relayForward hp (by simp) 1 x g
  refine answers_run _ rfl ?_ (hall.variant.trans hin.variant)
    ⟨d'.relayFrame 2 x g, (d'.forward 2 0 x g).relayFrame 2 x g, ?_, ?_, ?_, rfl⟩
  · dsimp only
    rw [hle, harr]
    have hspur : a.spurFrame x = (a.deliver 2 x.loc).spurToRing x x.fwd := by
      unfold State.spurFrame
      simp only [hx, hb]
    exact hspur.trans heff
  · rw [State.rp, State.seal_ring, ← State.rp, hf1.1, hq0, (hd0 0).1, hin.queue]
  · rw [State.rp, State.seal_ring, ← State.rp, hq1, hf0.1, (hd0 1).1, hin.queue]
  · rw [← hseq]
    rfl

/-! ### The frame a port sends next -/

/-- The egress takes the head of the first class that has one (R45). -/
theorem State.pickFrame_go (s : State) (p cls : Nat) (e : EgFrame) (l₂ : List Nat) (hg : s.headFate p cls = .go e) :
    ∀ l₁ : List Nat, (∀ c ∈ l₁, s.headFate p c = .none) →
      s.pickFrame p (l₁ ++ cls :: l₂) = (some e, s.rpUpd p (fun x => { x with queue := dropHead cls x.queue }))
  | [], _ => by
    rw [List.nil_append, State.pickFrame, hg]
  | c :: l₁, hn => by
    rw [List.cons_append, State.pickFrame, hn c (List.mem_cons_self ..)]
    exact State.pickFrame_go s p cls e l₂ hg l₁ fun c hc => hn c (List.mem_cons_of_mem _ hc)

theorem classOrder_split : ∀ c < 8, classOrder = classOrder.take (7 - c) ++ c :: classOrder.drop (8 - c) ∧
    ∀ x ∈ classOrder.take (7 - c), x < 8 ∧ c < x := by decide

/-- What a departing frame gives back to the pool it came from (R62). -/
def State.poolBack (s : State) (o : Option Nat) (len : Nat) : State :=
  match o with
  | none => s
  | some i => s.poolFree i len

/-- What a departing frame takes from its class's credit (R45). -/
def RingPort.charge (x : RingPort) (cls bits up : Nat) : RingPort :=
  if cls = 5 then { x with credit5 := x.credit5 - (bits * (secU / 1000) * (1000 - x.idle5) : Nat), up5 := up }
  else if cls = 4 then { x with credit4 := x.credit4 - (bits * (secU / 1000) * (1000 - x.idle4) : Nat), up4 := up }
  else x

/-- A frame within the limit leaves whole. -/
theorem State.sendFrame_whole (s : State) (p : Nat) (e : EgFrame) (h : e.frame.len ≤ s.frameLimit p e.frame) :
    ∃ bits dur, s.sendFrame p e =
      ((((s.rpUpd p (fun x => x.charge e.cls bits (s.time.up + dur))).poolBack e.pool e.frame.len).portAwake p e.cls).countTx p
        (max 64 e.frame.len)).putOut (.frame (portOf p) { e.frame with len := max 64 e.frame.len }) := by
  have hcut : decide (s.frameLimit p e.frame < e.frame.len) = false := decide_eq_false (by omega)
  refine ⟨wireBytes { e with frame := { e.frame with len := max 64 e.frame.len } } * 8,
    s.wireUp p (wireBytes { e with frame := { e.frame with len := max 64 e.frame.len } } * 8 / 8), ?_⟩
  unfold State.sendFrame
  simp only [hcut, State.when_false, Bool.false_eq_true, if_false]
  rfl

/-- Neither PTP nor for the host's timestamp: the frame leaves as it is. -/
theorem State.egress_plain (s : State) (p : Nat) (e : EgFrame) (hn : NotPtp e.frame) (hh : e.host = none) : s.egress p e = s.sendFrame p e := by
  obtain ⟨f, cls, own, timed, host, inUp, addCorr, talker, deferred, tsHeld, pool⟩ := e
  obtain ⟨dst, src, vid, tags, pcp, dscp, scp, group, rtag, len, fcsOk, oversize, tsErr, body, raw⟩ := f
  dsimp only at hh
  subst hh
  cases body with
  | ptp m => simp [NotPtp] at hn
  | _ => rfl

/-- A counter's saturation record lies past the ports' counters. -/
theorem satOf_high {a : Nat} (h : 0x30000 ≤ a) : 0x30400 ≤ (satOf a).adr ∧ ∀ f ∈ (satOf a).event, 0x30400 ≤ f.adr := by
  have hpage (x y : Nat) (h4 : a / 0x10000 ≠ 3) : 0x30400 ≤ a - a % 0x10000 + x + y := by omega
  have hnone : ∀ f ∈ (none : Option Fld), 0x30400 ≤ f.adr := fun f hf => by cases hf
  have hsome (g : Fld) (hg : 0x30400 ≤ g.adr) : ∀ f ∈ some g, 0x30400 ≤ f.adr := fun f hf => by
    cases hf
    exact hg
  unfold satOf
  dsimp only
  split
  case h_1 e => omega
  case h_2 =>
    split
    · exact ⟨by simp only [A.MSTAT_SAT]; omega, hnone⟩
    · exact ⟨(show 0x30400 ≤ A.MSTAT_SAT_REC by decide), hnone⟩
  case h_3 => exact ⟨(show 0x30400 ≤ A.TIME_SAT by decide), hnone⟩
  case h_4 e => split <;> exact ⟨hpage _ _ (by omega), hsome _ (by decide)⟩
  case h_5 e => split <;> exact ⟨hpage _ _ (by omega), hsome _ (by decide)⟩
  case h_11 h3 _ _ _ _ _ _ _ _ => exact ⟨hpage _ _ h3, hsome _ (by simp [A.HMQ_EVT]; omega)⟩
  all_goals next e => exact ⟨hpage _ _ (by omega), hsome _ (by decide)⟩

/-- Another port's pool leaves a port's count of sent frames. -/
theorem State.rd_poolBack_txFrames (s : State) {p : Nat} (hp : p < 3) {o : Option Nat} (ho : o ≠ some p) (len : Nat) :
    (s.poolBack o len).rd (A.MSTAT_TX_FRAMES p) = s.rd (A.MSTAT_TX_FRAMES p) := by
  cases o with
  | none => rfl
  | some i =>
    have hi : i ≠ p := fun e => ho (congrArg some e)
    have hbump (t : State) (b n : Nat) (h1 : 0x30000 ≤ b) (h2 : b ≠ A.MSTAT_TX_FRAMES p) (h : Chg (· ≠ A.MSTAT_TX_FRAMES p) AnyPart NoMem s t) :
        Chg (· ≠ A.MSTAT_TX_FRAMES p) AnyPart NoMem s (t.bump b n) := by
      obtain ⟨h3, h4⟩ := satOf_high h1
      have hlow : A.MSTAT_TX_FRAMES p < 0x30400 := by simp only [A.MSTAT_TX_FRAMES]; omega
      exact h.bump b n h2 (by omega) fun f hf => by have := h4 f hf; omega
    have hsend (t : State) (n : Nat) (h : Chg (· ≠ A.MSTAT_TX_FRAMES p) AnyPart NoMem s t) :
        Chg (· ≠ A.MSTAT_TX_FRAMES p) AnyPart NoMem s (t.sendPause i n) := by
      unfold State.sendPause State.countTx
      refine Chg.ite (fun _ => Chg.out (hbump _ _ 1 ?_ ?_ ((hbump _ _ _ ?_ ?_ (hbump _ _ 1 ?_ ?_ h)).rpUpd _ _ trivial)) _) fun _ => h
      all_goals simp only [A.MSTAT_TX_PAUSE, A.MSTAT_TX_BLK64, A.MSTAT_TX_FRAMES]; omega
    have hpool : Chg (· ≠ A.MSTAT_TX_FRAMES p) AnyPart NoMem s (s.poolFree i len) := by
      have hb := (Chg.refl (R := (· ≠ A.MSTAT_TX_FRAMES p)) (P := AnyPart) (M := NoMem) (s := s)).rpUpd i (fun x => { x with pool := x.pool - len }) trivial
      unfold State.poolFree State.poolCheck
      dsimp only
      exact Chg.ite (fun _ => hb.when _ _ fun _ => (hsend _ _ hb).rpUpd _ _ trivial) fun _ =>
        Chg.ite (fun _ => (hb.when _ _ fun _ => hsend _ _ hb).rpUpd _ _ trivial) fun _ => hb
    exact State.rd_eq_of_reg (hpool.reg _ (fun h => h rfl))

theorem State.event_fresh {s t : State} (h : s = t.fresh) (f : Fld) : s.event f = (t.event f).fresh := by
  rw [h]
  rfl

theorem State.ite_fresh {c : Prop} [Decidable c] {s t s' t' : State} (h : s = s'.fresh) (h' : t = t'.fresh) :
    (if c then s else t) = (if c then s' else t').fresh := by
  split
  · exact h
  · exact h'

theorem State.when_fresh (s : State) (b : Bool) (f : State → State) (h : f s.fresh = (f s).fresh) : s.fresh.when b f = (s.when b f).fresh :=
  State.ite_fresh h rfl

theorem State.life_fresh (s : State) (k n : Nat) : s.fresh.life k n = (s.life k n).fresh := by
  unfold State.life
  generalize 2 ^ 48 - 1 = m
  refine State.ite_fresh rfl ?_
  apply State.event_fresh
  rfl

theorem State.updMisalign_fresh (s : State) : s.fresh.updMisalign = s.updMisalign.fresh := by
  have hw (b : Bool) (n : Nat) : (s.fresh.wr A.CLK_MISALIGN n).when b (fun s => s.event F.CLK_EVT_MISALIGN) =
      ((s.wr A.CLK_MISALIGN n).when b (fun s => s.event F.CLK_EVT_MISALIGN)).fresh :=
    State.when_fresh (s.wr A.CLK_MISALIGN n) b _ (State.event_fresh rfl _)
  unfold State.updMisalign
  dsimp only
  rw [hw]
  rfl

/-- Time passes alike whatever was put out before. -/
theorem State.advance_fresh (s : State) (dt : Nat) : s.fresh.advance dt = (s.advance dt).fresh := by
  have hw (b : Bool) (n : Nat) : s.fresh.when b (fun s => s.life 0 n) = (s.when b (fun s => s.life 0 n)).fresh :=
    State.when_fresh s b _ (State.life_fresh s 0 n)
  unfold State.advance
  dsimp only
  rw [hw, ← State.updMisalign_fresh]
  rfl

theorem State.headFate_fresh (s : State) (p c : Nat) : ((s.fresh.creditTick p).slopes p).headFate p c = ((s.creditTick p).slopes p).headFate p c := rfl

theorem Chg.readied {R : Nat → Prop} {P : Part → Prop} {M : Nat → Prop} {s t : State} (h : Chg R P M s t) (p : Nat) (hp : P .ring) :
    Chg R P M s ((t.creditTick p).slopes p) := (h.rpUpd p _ hp).rpUpd p _ hp

/-- The frame whose turn it is leaves whole and is counted (R45, R66). -/
theorem answers_frameTransmit (s : State) (dt : Nat) (p : Port) (e : EgFrame) (hl : s.linkUp p.idx = true) (hn : NotPtp e.frame)
    (hh : e.host = none) (hpool : e.pool ≠ some p.idx) (hcls : e.cls < 8)
    (hnone : ∀ c < 8, e.cls < c → (((s.advance dt).creditTick p.idx).slopes p.idx).headFate p.idx c = .none)
    (hgo : (((s.advance dt).creditTick p.idx).slopes p.idx).headFate p.idx e.cls = .go e) (hlen : e.frame.len ≤ s.frameLimit p.idx e.frame) :
    Answers (.frameTransmit dt p) s fun t =>
      Out.frame p { e.frame with len := max 64 e.frame.len } ∈ t.out ∧ Counts s t (A.MSTAT_TX_FRAMES p.idx) 1 ∧ MemKept s t := by
  have hp : p.idx < 3 := portIdx_lt p
  set v := ((s.fresh.advance dt).creditTick p.idx).slopes p.idx with hv
  have hfate (c : Nat) : v.headFate p.idx c = (((s.advance dt).creditTick p.idx).slopes p.idx).headFate p.idx c := by
    rw [hv, State.advance_fresh, State.headFate_fresh]
  obtain ⟨hsplit, hbefore⟩ := classOrder_split e.cls hcls
  set w := v.rpUpd p.idx (fun x => { x with queue := dropHead e.cls x.queue }) with hw
  have hpick : v.pickFrame p.idx classOrder = (some e, w) := by
    rw [hsplit]
    exact State.pickFrame_go v p.idx e.cls e _ ((hfate _).trans hgo) _ fun c hc =>
      (hfate c).trans (hnone c (hbefore c hc).1 (hbefore c hc).2)
  have hquiet : Chg (fun _ => False) (· = .ring) NoMem (s.fresh.advance dt) w :=
    (Chg.readied (P := (· = .ring)) Chg.refl p.idx rfl).rpUpd _ _ rfl
  have hcfg : SameCfg s w := (sameCfg_elapsed s dt).trans (hquiet.sameCfg fun _ _ => not_false)
  obtain ⟨bits, dur, hsend⟩ := State.sendFrame_whole w p.idx e (hlen.trans_eq (hcfg.frameLimit hp _).symm)
  set y := w.rpUpd p.idx (fun x => x.charge e.cls bits (w.time.up + dur)) with hy
  have hy' : Chg AnyReg AnyPart NoMem s y := ((chg_elapsed s dt fun _ h => h).anywhere.trans hquiet.anywhere).rpUpd _ _ trivial
  have hpooled : Chg AnyReg AnyPart NoMem s (y.poolBack e.pool e.frame.len) := by
    unfold State.poolBack
    split
    · exact hy'
    · exact hy'.trans (Chg.anywhere (Chg.refl.poolFree (P := AnyPart) trivial _ _))
  have hall : Chg AnyReg AnyPart NoMem s (w.sendFrame p.idx e) := by
    rw [hsend]
    exact ((((hpooled.portAwake trivial _ trivial).portInc hp 1 (by simp only [A.MSTAT_TX_FRAMES]; omega) trivial trivial).portInc hp _
      (by simp only [A.MSTAT_TX_BLK64]; omega) trivial trivial).rpUpd _ _ trivial).out _
  have hc : A.MSTAT_TX_FRAMES p.idx ∉ summaries ∧ bumpOk (A.MSTAT_TX_FRAMES p.idx) = true ∧
      bumpFree (A.MSTAT_TX_FRAMES p.idx) (A.MSTAT_TX_BLK64 p.idx) = true ∧ A.MSTAT_TX_FRAMES p.idx ≠ (F.RING_PORT_STATUS_LPI p.idx).adr ∧
      A.MSTAT_TX_FRAMES p.idx ∉ timeRegs := by cases p <;> decide
  obtain ⟨h1, h2, h3, h4, h5⟩ := hc
  refine answers_effect (u := w.sendFrame p.idx e) _ rfl ?_ hall ⟨State.mem_seal_out _ _ ?_, ?_, hall.memKept⟩
  · dsimp only
    have hlv : v.linkUp p.idx = true :=
      (congrArg (· != 0) ((Chg.readied (R := fun _ => False) (P := (· = .ring)) (M := NoMem) Chg.refl p.idx rfl).fld
        (g := F.RING_PORT_STATUS_LINK p.idx) not_false)).trans ((s.linkUp_elapsed dt hp).trans hl)
    rw [← hv, hlv, hpick]
    exact State.egress_plain w p.idx e hn hh
  · rw [hsend]
    exact List.mem_append_right _ (List.mem_singleton.mpr (by cases p <;> rfl))
  · rw [Counts, State.rd_seal _ _ h1, hsend, State.rd_putOut, State.countTx, State.rd_rpUpd, State.rd_bump_free _ h3, State.rd_inc_counts h2,
      State.portAwake, State.rd_when _ _ (State.rd_rpUpd ..), State.rd_when_set _ _ h4, State.rd_poolBack_txFrames _ hp hpool, hy, State.rd_rpUpd,
      State.rd_eq_of_reg (hquiet.reg _ not_false), State.rd_advance_ne dt h5]
    rfl

/-- Settles O21, clause by clause: runts, the module's own frames, tagged frames on the ring and at the hop limit, frames of the spur,
and the frame a port sends next. -/
theorem frames : Obligations.Frames :=
  ⟨answers_ringFrameRx_runt, answers_ringFrameRx_own, answers_ringFrameRx_on, answers_ringFrameRx_expired, answers_spurFrameRx_data,
    answers_frameTransmit⟩

end Sys2Proof.Machine
end

section
/-! PROOFS. Time pulse outputs and captured edges (R114 to R123). -/

namespace Sys2Proof.Machine

/-- A word written whole to a register whose rule acts at every write. -/
theorem Direct.actsAt {s : State} {m : Master} {priv : Bool} {a : Nat} {w : Word} (h : Direct s m priv a) (hr : AsItReads s a w)
    (hs : StoresAt s.variant a) (ha : actsAlways a 0 = true) :
    s.fresh.words a (whole m priv w) = (s.fresh.keepWord a w.toNat).regEffect m (s.masterPriv m priv) a (s.reg a) 0 := by
  obtain ⟨hl, h3, h4⟩ := h.landsAt hr hs
  have ho : (s.fresh.keepWord a w.toNat).effectOwed a = false := by
    unfold State.keepWord
    split
    · exact h.2.2
    · exact (State.effectOwed_wr _ _ _ _ h3 h4).trans h.2.2
  rw [hl, State.act_effect _ m _ a (s.reg a) 0 ho (.inr ha)]

theorem Direct.acts {s : State} {m : Master} {priv : Bool} {a : Nat} {w : Word} (h : Direct s m priv a) (hr : AsItReads s a w)
    (hs : StoresEverywhere a) (ha : actsAlways a 0 = true) :
    s.fresh.words a (whole m priv w) = (s.fresh.keepWord a w.toNat).regEffect m (s.masterPriv m priv) a (s.reg a) 0 := h.actsAt hr (hs _) ha

theorem State.rd_keepWord (s : State) (a : Nat) (w : Word) : (s.keepWord a w.toNat).rd a = w.toNat := by
  unfold State.keepWord
  split
  · assumption
  · rw [State.rd_wr_same, Nat.mod_eq_of_lt w.isLt]

/-! ### What time leaves of TIME -/

/-- Elapsed time changes the time base and the slew alone. -/
theorem State.advance_time (s : State) (dt : Nat) :
    ∃ tb sl acc, (s.advance dt).time = { s.time with up := s.time.up + dt, tb := tb, slew := sl, slewAcc := acc } := by
  simp only [State.advance, State.updMisalign_time, State.when, apply_ite State.time, State.life_time, ite_self]
  exact ⟨_, _, _, rfl⟩

theorem State.tpo_elapsed (s : State) (dt : Nat) : (s.fresh.advance dt).time.tpo = s.time.tpo := by
  obtain ⟨_, _, _, h⟩ := State.advance_time s.fresh dt
  rw [h]
  rfl

theorem State.capq_elapsed (s : State) (dt : Nat) :
    (s.fresh.advance dt).time.capq = s.time.capq ∧ (s.fresh.advance dt).time.lastCap = s.time.lastCap := by
  obtain ⟨_, _, _, h⟩ := State.advance_time s.fresh dt
  rw [h]
  exact ⟨rfl, rfl⟩

/-! ### The outputs -/

/-- An update of one time pulse output. -/
def State.tpoUpd (s : State) (n : Nat) (f : Tpo → Tpo) : State := { s with time := { s.time with tpo := updAt s.time.tpo n f } }

theorem tpoOf_of_time {s t : State} (h : t.time = s.time) (n : Nat) : tpoOf t n = tpoOf s n := by rw [tpoOf, h, tpoOf]

theorem tpoOf_tpoUpd (s : State) {n : Nat} (hn : n < s.time.tpo.length) (f : Tpo → Tpo) : tpoOf (s.tpoUpd n f) n = f (tpoOf s n) := by
  simp only [tpoOf, State.tpoUpd, getAt, updAt, List.getD_eq_getElem?_getD, List.getElem?_modify_eq]
  rw [List.getElem?_eq_getElem hn]
  rfl

section
variable {R : Nat → Prop} {P : Part → Prop} {M : Nat → Prop} {s t : State}

theorem Chg.tpoUpd (h : Chg R P M s t) (n : Nat) (f : Tpo → Tpo) (hp : P .time) : Chg R P M s (t.tpoUpd n f) := h.time _ hp

end

/-- One-shot and periodic outputs' bits of TPO_STATUS and their event. -/
theorem tpoStatus_bits {n : Nat} (hn : n < 4) : n < F.TIME_TPO_STATUS_ARMED.width ∧ n < F.TIME_TPO_STATUS_RUNNING.width ∧
    n < F.TIME_TPO_STATUS_FIRED.width ∧ n < F.TIME_EVT_TPO_FIRED.width := by interval_cases n <;> decide

/-! ### Starts -/

theorem tpoStart_stores (n : Fin 4) : StoresEverywhere (A.TIME_TPO_START_NS n) := fun v => by
  revert n
  cases v <;> decide

/-- A start that is not past arms a one-shot (R115, R117). -/
theorem State.tpoArm_waits (s : State) (n : Nat) (hn : n < s.time.tpo.length) (h : s.time.tb ≤ (tpoOf s n).startNs * nsU) :
    s.tpoArm n = (s.tpoUpd n (fun t => { t with armed := true })).setBit F.TIME_TPO_STATUS_ARMED n true := by
  have htb : ((s.tpoUpd n (fun t => { t with armed := true })).setBit F.TIME_TPO_STATUS_ARMED n true).time.tb = s.time.tb := by
    rw [State.setBit_time]
    rfl
  have hstart : (tpoOf ((s.tpoUpd n (fun t => { t with armed := true })).setBit F.TIME_TPO_STATUS_ARMED n true) n).startNs = (tpoOf s n).startNs := by
    rw [tpoOf_of_time (State.setBit_time ..), tpoOf_tpoUpd s hn]
  have hpast : decide ((tpoOf ((s.tpoUpd n (fun t => { t with armed := true })).setBit F.TIME_TPO_STATUS_ARMED n true) n).startNs * nsU <
      ((s.tpoUpd n (fun t => { t with armed := true })).setBit F.TIME_TPO_STATUS_ARMED n true).time.tb) = false := by
    rw [htb, hstart]
    exact decide_eq_false (Nat.not_lt.mpr h)
  unfold State.tpoArm
  exact if_neg (by rw [← Bool.not_eq_true] at hpast; exact hpast)

/-- What the TIME rule does with the registers of an output. -/
theorem tpo_effect (x : State) (m : Master) (q : Bool) (old : Word) {n : Nat} (hn : n < 4) :
    x.regEffect m q (A.TIME_TPO_START_NS n) old 0 = x.tpoStartWrite n (x.rd (A.TIME_TPO_START_NS n)) ∧
      x.regEffect m q (A.TIME_TPO_CTL n) old 0 = x.when (x.chg (F.TIME_TPO_CTL_MODE n) old) (fun x => x.tpoMode n) := by
  have hstart : A.TIME_TPO_START_NS n / 0x10000 = 4 ∧ (A.TIME_TPO_START_NS n % 0x10000 - 0x100) / 0x20 = n := by
    unfold A.TIME_TPO_START_NS
    omega
  have hctl : A.TIME_TPO_CTL n / 0x10000 = 4 ∧ (A.TIME_TPO_CTL n % 0x10000 - 0x100) / 0x20 = n := by
    unfold A.TIME_TPO_CTL
    omega
  have h1 : x.timeEffect (A.TIME_TPO_START_NS n) old 0 = x.tpoStartWrite n (x.rd (A.TIME_TPO_START_NS n)) := by
    unfold State.timeEffect
    dsimp only
    rw [hstart.2]
    simp only [A.TIME_TPO_START_NS, A.TIME_TB_CTL, A.TIME_TB_SET_NS, A.TIME_PTP_CFG, A.TIME_PTP_INTV, A.TIME_PTP_PRIO, A.TIME_TWIN_CFG]
    simp (disch := omega) only [if_neg, if_pos]
  have h2 : x.timeEffect (A.TIME_TPO_CTL n) old 0 = x.when (x.chg (F.TIME_TPO_CTL_MODE n) old) (fun x => x.tpoMode n) := by
    unfold State.timeEffect
    dsimp only
    rw [hctl.2]
    simp only [A.TIME_TPO_CTL, A.TIME_TB_CTL, A.TIME_TB_SET_NS, A.TIME_PTP_CFG, A.TIME_PTP_INTV, A.TIME_PTP_PRIO, A.TIME_TWIN_CFG]
    simp (disch := omega) only [if_neg, if_pos]
  unfold State.regEffect
  rw [hstart.1, hctl.1]
  exact ⟨h1, h2⟩

/-- A written start arms a one-shot (R115, R117). -/
theorem answers_tpoStartWrite (s : State) (n : Fin 4) (m : Master) (priv : Bool) (w : Word) (hsh : Shaped s) (hd : Direct s m priv (A.TIME_TPO_START_NS n))
    (hm : s.fld (F.TIME_TPO_CTL_MODE n) = 1) (hw : w.toNat ≤ 999999999)
    (htb : s.time.tb ≤ ((s.rd (A.TIME_TPO_START_SEC_LO n) + s.fld (F.TIME_TPO_START_SEC_HI_SEC n) * 2 ^ 32) * 1000000000 + w.toNat) * nsU) :
    Answers (.tpoStartWrite n (whole m priv w)) s fun t =>
      (tpoOf t n).armed = true ∧ t.bitOf F.TIME_TPO_STATUS_ARMED n = true ∧
      (tpoOf t n).startNs =
        (s.rd (A.TIME_TPO_START_SEC_LO n) + s.fld (F.TIME_TPO_START_SEC_HI_SEC n) * 2 ^ 32) * 1000000000 + w.toNat ∧
      t.reg (A.TIME_TPO_START_NS n) = w ∧ Framed [A.TIME_TPO_START_NS n, A.TIME_TPO_STATUS] [.time] s t := by
  have hfix : (∀ v, ∀ r ∈ rowAt v (A.TIME_TPO_START_NS n), r.rsv = 0) ∧ actsAlways (A.TIME_TPO_START_NS n) 0 = true ∧
      A.TIME_TPO_START_NS n ≠ A.TIME_TPO_STATUS ∧ A.TIME_TPO_START_NS n ∉ summaries := by
    clear * -
    have hv : ∀ v : Variant, ∀ n : Fin 4, ∀ r ∈ rowAt v (A.TIME_TPO_START_NS n), r.rsv = 0 := fun v => by cases v <;> decide
    exact ⟨fun v => hv v n, by revert n; decide⟩
  obtain ⟨hrsv, halways, hstat, hsum⟩ := hfix
  have hr : AsItReads s (A.TIME_TPO_START_NS n) w := fun r h => by rw [hrsv _ r h, Nat.and_zero]
  have hlen : n.val < s.time.tpo.length := by rw [hsh.2.2.1]; exact n.isLt
  set a := A.TIME_TPO_START_NS n with ha
  set ns := (s.rd (A.TIME_TPO_START_SEC_LO n) + s.fld (F.TIME_TPO_START_SEC_HI_SEC n) * 2 ^ 32) * 1000000000 + w.toNat with hns
  set e := (s.fresh.keepWord a w.toNat).wr a w.toNat with he
  set e' := e.tpoUpd n (fun t => { t with startNs := ns }) with he'
  set u := (e'.tpoUpd n (fun t => { t with armed := true })).setBit F.TIME_TPO_STATUS_ARMED n true with hu
  have hfar : A.TIME_TPO_START_SEC_LO n ≠ a ∧ A.TIME_TPO_START_SEC_HI n ≠ a ∧ A.TIME_TPO_CTL n ≠ a := by
    simp only [ha, A.TIME_TPO_START_SEC_LO, A.TIME_TPO_START_SEC_HI, A.TIME_TPO_CTL, A.TIME_TPO_START_NS]
    omega
  obtain ⟨f1, f2, f3⟩ := hfar
  have hone : Chg (· = a) (fun _ => False) NoMem s e := by simp [he]
  have htime : e.time = s.time := hone.part .time not_false
  have hle : n.val < e.time.tpo.length := by rw [htime]; exact hlen
  have htpo' : tpoOf e' n = { tpoOf s n with startNs := ns } := by rw [he', tpoOf_tpoUpd e hle, tpoOf_of_time htime]
  have hle' : n.val < e'.time.tpo.length := by
    rw [he']
    exact (List.length_modify ..).symm ▸ hle
  have heff : s.fresh.words a (whole m priv w) = u := by
    have hstart : e.rd (A.TIME_TPO_START_SEC_LO n) + e.fld (F.TIME_TPO_START_SEC_HI_SEC n) * 2 ^ 32 =
        s.rd (A.TIME_TPO_START_SEC_LO n) + s.fld (F.TIME_TPO_START_SEC_HI_SEC n) * 2 ^ 32 := by
      rw [State.rd_eq_of_reg (hone.reg _ f1), hone.fld (g := F.TIME_TPO_START_SEC_HI_SEC n) f2]
    have hmode : e'.fld (F.TIME_TPO_CTL_MODE n) = 1 := (hone.fld (g := F.TIME_TPO_CTL_MODE n) f3).trans hm
    have harm : e'.tpoArm n = u := State.tpoArm_waits e' n hle' (by rw [htpo']; exact (congrArg TimeS.tb htime).trans_le htb)
    rw [hd.acts hr (tpoStart_stores n) halways, (tpo_effect _ _ _ _ n.isLt).1, ← ha, State.rd_keepWord]
    unfold State.tpoStartWrite
    rw [Nat.min_eq_left hw]
    dsimp only
    rw [← ha, ← he, hstart, ← hns]
    exact (if_pos hmode).trans harm
  have hframe : Chg (Listed [a, A.TIME_TPO_STATUS]) (Parts [.time]) NoMem s u :=
    (((hone.mono (fun b hb => by simp [hb]) (fun _ h => h.elim) fun _ h => h).tpoUpd _ _ (by simp)).tpoUpd _ _ (by simp)).setBit _ _ _ (by simp)
  have htpo : tpoOf (s.seal u) n = { tpoOf s n with startNs := ns, armed := true } := by
    rw [tpoOf_of_time (State.seal_time s u), hu, tpoOf_of_time (State.setBit_time ..), tpoOf_tpoUpd e' hle', htpo']
  refine answers_effect _ rfl heff hframe ⟨by rw [htpo], ?_, by rw [htpo], ?_, hframe.framed⟩
  · rw [State.bitOf_seal _ _ (by decide), hu, State.bitOf_setBit _ (by decide) (tpoStatus_bits n.isLt).1, if_pos rfl]
  · rw [State.reg_seal _ _ hsum, hu, State.reg_setBit_ne _ _ _ _ hstat]
    exact (State.reg_wr_same ..).trans (by rw [BitVec.ofNat_toNat, BitVec.setWidth_eq])

/-! ### Mode 0 -/

theorem tpoCtl_stores (n : Fin 4) : StoresEverywhere (A.TIME_TPO_CTL n) := fun v => by
  revert n
  cases v <;> decide

/-- Mode 0 disarms and stops an output; a pulse in progress completes (R114). -/
theorem answers_tpoCtlWrite (s : State) (n : Fin 4) (m : Master) (priv : Bool) (w : Word) (hsh : Shaped s) (hd : Direct s m priv (A.TIME_TPO_CTL n))
    (hr : AsItReads s (A.TIME_TPO_CTL n) w) (hm : (F.TIME_TPO_CTL_MODE n).of w.toNat = 0) (hold : s.fld (F.TIME_TPO_CTL_MODE n) ≠ 0) :
    Answers (.tpoCtlWrite n (whole m priv w)) s fun t =>
      (tpoOf t n).armed = false ∧ (tpoOf t n).running = false ∧ (tpoOf t n).pulse = (tpoOf s n).pulse ∧
      t.bitOf F.TIME_TPO_STATUS_ARMED n = false ∧ t.bitOf F.TIME_TPO_STATUS_RUNNING n = false ∧ t.reg (A.TIME_TPO_CTL n) = w ∧
      Framed [A.TIME_TPO_CTL n, A.TIME_TPO_STATUS] [.time] s t := by
  have hfix : A.TIME_TPO_CTL n ≠ A.TIME_TPO_STATUS ∧ A.TIME_TPO_CTL n ∉ summaries := by
    clear * -
    revert n
    decide
  obtain ⟨hstat, hsum⟩ := hfix
  have hlen : n.val < s.time.tpo.length := by rw [hsh.2.2.1]; exact n.isLt
  have hne : s.reg (A.TIME_TPO_CTL n) ≠ w := fun e => hold (by
    rw [State.fld, State.rd, show (F.TIME_TPO_CTL_MODE n).adr = A.TIME_TPO_CTL n from rfl, e, hm])
  set e := s.fresh.wr (A.TIME_TPO_CTL n) w.toNat with he
  have hmode : e.fld (F.TIME_TPO_CTL_MODE n) = 0 := (State.fld_wr_word s.fresh _ w rfl).trans hm
  set v := e.tpoUpd n (fun t => { t with armed := false, running := false }) with hv
  set u := (v.setBit F.TIME_TPO_STATUS_ARMED n false).setBit F.TIME_TPO_STATUS_RUNNING n false with hu
  have heff : s.fresh.words (A.TIME_TPO_CTL n) (whole m priv w) = u := by
    have hchg : e.chg (F.TIME_TPO_CTL_MODE n) (s.reg (A.TIME_TPO_CTL n)) = true := by
      rw [State.chg, hmode, bne_iff_ne]
      exact hold.symm
    rw [hd.stores hr (tpoCtl_stores n) hne, (tpo_effect _ _ _ _ n.isLt).2, ← he, hchg, State.when_true]
    unfold State.tpoMode
    dsimp only
    rw [hmode]
    rfl
  have hframe : Chg (Listed [A.TIME_TPO_CTL n, A.TIME_TPO_STATUS]) (Parts [.time]) NoMem s u :=
    (((Chg.refl.fresh.wr _ _ (by simp)).tpoUpd _ _ (by simp)).setBit _ _ _ (by simp)).setBit _ _ _ (by simp)
  have htpo : tpoOf (s.seal u) n = { tpoOf s n with armed := false, running := false } := by
    rw [tpoOf_of_time (State.seal_time s u), hu, tpoOf_of_time (State.setBit_time ..), tpoOf_of_time (State.setBit_time ..), hv,
      tpoOf_tpoUpd e hlen]
    rfl
  obtain ⟨b1, b2, -⟩ := tpoStatus_bits n.isLt
  refine answers_effect _ rfl heff hframe ⟨by rw [htpo], by rw [htpo], by rw [htpo], ?_, ?_, ?_, hframe.framed⟩
  · rw [State.bitOf_seal _ _ (by decide), hu, State.bitOf, State.fld_setBit_free _ (by decide), ← State.bitOf,
      State.bitOf_setBit _ (by decide) b1, if_pos rfl]
  · rw [State.bitOf_seal _ _ (by decide), hu, State.bitOf_setBit _ (by decide) b2, if_pos rfl]
  · rw [State.reg_seal _ _ hsum, hu, State.reg_setBit_ne _ _ _ _ hstat, State.reg_setBit_ne _ _ _ _ hstat]
    exact (State.reg_wr_same ..).trans (by rw [BitVec.ofNat_toNat, BitVec.setWidth_eq])

/-! ### Pulses -/

/-- A one-shot fires once its start is reached (R117). -/
theorem answers_tpoOneShotFire (s : State) (n dt : Nat) (hsh : Shaped s) (hn : n < 4) (ha : (tpoOf s n).armed = true)
    (hs : (tpoOf s n).startNs * nsU ≤ (s.advance dt).time.tb) :
    Answers (.tpoOneShotFire n dt) s fun t =>
      (tpoOf t n).armed = false ∧ (tpoOf t n).pulse = true ∧ t.bitOf F.TIME_TPO_STATUS_ARMED n = false ∧
      t.bitOf F.TIME_TPO_STATUS_FIRED n = true ∧ t.bitOf F.TIME_EVT_TPO_FIRED n = true ∧
      Framed (timeRegs ++ [A.TIME_TPO_STATUS, A.TIME_EVT]) [.time, .clk, .mgmt] s t := by
  set e := s.fresh.advance dt with he
  have htpos : tpoOf e n = tpoOf s n := by rw [tpoOf, he, State.tpo_elapsed, tpoOf]
  have hlen : n < e.time.tpo.length := by rw [he, State.tpo_elapsed, hsh.2.2.1]; exact hn
  set v := e.tpoUpd n (fun t => { t with armed := false, pulse := true }) with hv
  set u := ((v.setBit F.TIME_TPO_STATUS_ARMED n false).setBit F.TIME_TPO_STATUS_FIRED n true).eventBit F.TIME_EVT_TPO_FIRED n with hu
  have heff : e.when ((getAt e.time.tpo n Tpo.reset).armed && decide ((getAt e.time.tpo n Tpo.reset).startNs * nsU ≤ e.time.tb))
      (fun s => s.tpoFire n false) = u := by
    have hdue : ((tpoOf e n).armed && decide ((tpoOf e n).startNs * nsU ≤ e.time.tb)) = true := by
      rw [htpos, ha, he, State.time_fresh_advance]
      exact decide_eq_true hs
    exact if_pos hdue
  have hframe : Chg (Listed (timeRegs ++ [A.TIME_TPO_STATUS, A.TIME_EVT])) (Parts [.time, .clk, .mgmt]) NoMem s u :=
    ((((chg_elapsed_time s dt fun _ => List.mem_append_left _).tpoUpd _ _ (by simp)).setBit _ _ _ (by simp)).setBit _ _ _ (by simp)).eventBit _ _
      (by simp)
  obtain ⟨b1, -, b3, b4⟩ := tpoStatus_bits hn
  have htpo : tpoOf (s.seal u) n = { tpoOf s n with armed := false, pulse := true } := by
    rw [tpoOf_of_time (State.seal_time s u), hu, tpoOf_of_time (State.eventBit_time ..), tpoOf_of_time (State.setBit_time ..),
      tpoOf_of_time (State.setBit_time ..), hv, tpoOf_tpoUpd e hlen, htpos]
  refine answers_effect _ (State.runIf_true s (decide_eq_true hn) _) heff hframe ⟨by rw [htpo], by rw [htpo], ?_, ?_, ?_, hframe.framed⟩
  · rw [State.bitOf_seal _ _ (by decide), hu, State.bitOf, State.fld_eventBit_free (by decide), State.fld_setBit_free _ (by decide),
      ← State.bitOf, State.bitOf_setBit _ (by decide) b1, if_pos rfl]
  · rw [State.bitOf_seal _ _ (by decide), hu, State.bitOf, State.fld_eventBit_free (by decide), ← State.bitOf,
      State.bitOf_setBit _ (by decide) b3, if_pos rfl]
  · rw [State.bitOf_seal _ _ (by decide), hu, State.bitOf_eventBit_same _ (by decide) b4]

theorem nsReg_lt (i : Int) : nsReg i < 2 ^ 32 := by
  unfold nsReg unsgn
  omega

/-- An output at its next edge (R118). -/
def Tpo.next (t : Tpo) (per : Nat) : Tpo := { t with pulse := true, nextUp := t.nextUp + per, ideal := t.ideal + per }

/-- A periodic output's edge (R118). -/
theorem answers_tpoPeriodicEdge (s : State) (n : Nat) (hsh : Shaped s) (hn : n < 4) (hr : (tpoOf s n).running = true) :
    Answers (.tpoPeriodicEdge n) s fun t =>
      (tpoOf t n).pulse = true ∧
      (tpoOf t n).nextUp = (tpoOf s n).nextUp + clampN 1000 4000000000 (s.rd (A.TIME_TPO_PERIOD n)) * nsU ∧
      t.rd (A.TIME_TPO_MISALIGN n) = nsReg (t.time.tb - (tpoOf s n).ideal) ∧
      Framed (timeRegs ++ [A.TIME_TPO_MISALIGN n]) [.time, .clk, .mgmt] s t := by
  set dt := (tpoOf s n).nextUp - s.time.up with hdt
  set e := s.fresh.advance dt with he
  have htpos : tpoOf e n = tpoOf s n := by rw [tpoOf, he, State.tpo_elapsed, tpoOf]
  have hlen : n < e.time.tpo.length := by rw [he, State.tpo_elapsed, hsh.2.2.1]; exact hn
  have hfix : A.TIME_TPO_PERIOD n ∉ timeRegs ∧ A.TIME_TPO_MISALIGN n ∉ summaries := by interval_cases n <;> decide
  have hper : e.rd (A.TIME_TPO_PERIOD n) = s.rd (A.TIME_TPO_PERIOD n) := State.rd_advance_ne dt hfix.1
  set per := clampN 1000 4000000000 (s.rd (A.TIME_TPO_PERIOD n)) * nsU with hpers
  set v := e.tpoUpd n (fun t => t.next per) with hv
  set u := v.wr (A.TIME_TPO_MISALIGN n) (nsReg (e.time.tb - (tpoOf s n).ideal)) with hu
  have heff : s.fresh.tpoEdge n = u := by
    unfold State.tpoEdge
    refine (if_pos hr).trans ?_
    dsimp only
    change (e.tpoUpd n (fun t => t.next (clampN 1000 4000000000 (e.rd (A.TIME_TPO_PERIOD n)) * nsU))).wr _ _ = _
    rw [hper]
    rfl
  have hframe : Chg (Listed (timeRegs ++ [A.TIME_TPO_MISALIGN n])) (Parts [.time, .clk, .mgmt]) NoMem s u :=
    ((chg_elapsed_time s dt fun _ => List.mem_append_left _).tpoUpd _ _ (by simp)).wr _ _ (by simp)
  have htpo : tpoOf (s.seal u) n = (tpoOf s n).next per := by
    rw [tpoOf_of_time (State.seal_time s u), hu, tpoOf_of_time (State.wr_time ..), hv, tpoOf_tpoUpd e hlen, htpos]
  refine answers_effect _ (State.runIf_true s (decide_eq_true hn) _) heff hframe ⟨by rw [htpo, Tpo.next], by rw [htpo, Tpo.next], ?_, hframe.framed⟩
  rw [State.rd_seal _ _ hfix.2, hu, State.rd_wr_same, State.seal_time, State.wr_time]
  exact Nat.mod_eq_of_lt (nsReg_lt _)

/-! ### Realignment -/

theorem realign_strikes (n : Fin 4) : Strikes A.CLK_REALIGN (2 ^ n.val) := fun v => by
  revert n
  cases v <;> decide

/-- REALIGN.TPO of one output realigns that output alone. -/
theorem State.realign_one (s : State) (m : Master) (priv : Bool) (old : Word) (n : Fin 4) :
    s.regEffect m priv A.CLK_REALIGN old (2 ^ n.val) = s.tpoRealign n := by
  have hclk : s.regEffect m priv A.CLK_REALIGN old (2 ^ n.val) = s.clkEffect A.CLK_REALIGN old (2 ^ n.val) := rfl
  rw [hclk]
  unfold State.clkEffect
  rw [if_neg (by decide), if_pos rfl]
  match n with
  | 0 => rfl
  | 1 => rfl
  | 2 => rfl
  | 3 => rfl

theorem le_clampN {lo hi : Nat} (h : lo ≤ hi) (n : Nat) : lo ≤ clampN lo hi n := by
  unfold clampN
  split
  · exact Nat.le_refl _
  · split
    · exact h
    · omega

/-- An output whose ideal time lies ahead, with room for its pulse, waits for just that time (R118). -/
theorem State.tpoRealign_ahead (s : State) (n : Nat) (hr : (tpoOf s n).running = true) (htb : (s.time.tb : Int) ≤ (tpoOf s n).ideal)
    (hgap : ((s.tpoWidth n + 64 * nsU : Nat) : Int) ≤ (tpoOf s n).ideal - s.time.tb + s.time.up -
      ((tpoOf s n).nextUp - (clampN 1000 4000000000 (s.rd (A.TIME_TPO_PERIOD n)) * nsU : Nat))) :
    s.tpoRealign n = (s.tpoUpd n (fun t => { t with
      nextUp := s.time.up + ((tpoOf s n).ideal - s.time.tb).toNat, ideal := (tpoOf s n).ideal })).wr (A.TIME_TPO_MISALIGN n) 0 := by
  have ht : getAt s.time.tpo n Tpo.reset = tpoOf s n := rfl
  have hpast : ((s.time.tb : Int) - (tpoOf s n).ideal).toNat = 0 := by omega
  have hper : 0 < clampN 1000 4000000000 (s.rd (A.TIME_TPO_PERIOD n)) * nsU :=
    Nat.mul_pos (Nat.lt_of_lt_of_le (by decide) (le_clampN (by decide) _)) (by decide)
  have hzero : (0 + clampN 1000 4000000000 (s.rd (A.TIME_TPO_PERIOD n)) * nsU - 1) / (clampN 1000 4000000000 (s.rd (A.TIME_TPO_PERIOD n)) * nsU) = 0 :=
    Nat.div_eq_of_lt (by omega)
  have hskip : decide ((tpoOf s n).ideal - s.time.tb + s.time.up -
      ((tpoOf s n).nextUp - (clampN 1000 4000000000 (s.rd (A.TIME_TPO_PERIOD n)) * nsU : Nat)) < ((s.tpoWidth n + 64 * nsU : Nat) : Int)) = false :=
    decide_eq_false (by omega)
  unfold State.tpoRealign
  simp only [ht, hr, hpast, hzero, Nat.zero_mul, Int.natCast_zero, Int.add_zero, hskip, Bool.false_eq_true, if_false, if_true]
  rfl

/-- The next edge moves to its ideal time (R118). -/
theorem answers_tpoRealign (s : State) (n : Fin 4) (m : Master) (priv : Bool) (hsh : Shaped s) (hd : Direct s m priv A.CLK_REALIGN)
    (hr : (tpoOf s n).running = true) (htb : (s.time.tb : Int) ≤ (tpoOf s n).ideal)
    (hgap : ((s.tpoWidth n + 64 * nsU : Nat) : Int) ≤ (tpoOf s n).ideal - s.time.tb + s.time.up -
      ((tpoOf s n).nextUp - (clampN 1000 4000000000 (s.rd (A.TIME_TPO_PERIOD n)) * nsU : Nat))) :
    Answers (.tpoRealign n m priv) s fun t =>
      ((tpoOf t n).nextUp : Int) - t.time.up = (tpoOf s n).ideal - t.time.tb ∧ t.rd (A.TIME_TPO_MISALIGN n) = 0 ∧
      Framed [A.TIME_TPO_MISALIGN n] [.time] s t := by
  have hlen : n.val < s.fresh.time.tpo.length := n.isLt.trans_eq hsh.2.2.1.symm
  have hsum : A.TIME_TPO_MISALIGN n ∉ summaries := by
    clear * -
    revert n
    decide
  set u := (s.fresh.tpoUpd n (fun t => { t with nextUp := s.time.up + ((tpoOf s n).ideal - s.time.tb).toNat, ideal := (tpoOf s n).ideal })).wr
    (A.TIME_TPO_MISALIGN n) 0 with hu
  have heff : s.fresh.strike m priv A.CLK_REALIGN (2 ^ n.val) = u := by
    rw [hd.strike (realign_strikes n), State.realign_one]
    exact State.tpoRealign_ahead s.fresh n hr htb hgap
  have hframe : Chg (Listed [A.TIME_TPO_MISALIGN n]) (Parts [.time]) NoMem s u := (Chg.refl.fresh.tpoUpd _ _ (by simp)).wr _ _ (by simp)
  have htpo : (tpoOf (s.seal u) n).nextUp = s.time.up + ((tpoOf s n).ideal - s.time.tb).toNat := by
    rw [tpoOf_of_time (State.seal_time s u), hu, tpoOf_of_time (State.wr_time ..), tpoOf_tpoUpd s.fresh hlen]
  refine answers_effect _ rfl heff hframe ⟨?_, ?_, hframe.framed⟩
  · rw [htpo, State.seal_time, hu, State.wr_time]
    change ((s.time.up + ((tpoOf s n).ideal - s.time.tb).toNat : Nat) : Int) - s.time.up = (tpoOf s n).ideal - s.time.tb
    omega
  · rw [State.rd_seal _ _ hsum, hu, State.rd_wr_same, Nat.zero_mod]

/-- A pulse ends (R114). -/
theorem answers_tpoPulseEnd (s : State) (n dt : Nat) (hsh : Shaped s) (hn : n < 4) :
    Answers (.tpoPulseEnd n dt) s fun t => (tpoOf t n).pulse = false ∧ Framed timeRegs [.time, .clk, .mgmt] s t := by
  set e := s.fresh.advance dt with he
  have hlen : n < e.time.tpo.length := by rw [he, State.tpo_elapsed, hsh.2.2.1]; exact hn
  have hframe : Chg (Listed timeRegs) (Parts [.time, .clk, .mgmt]) NoMem s (e.tpoUpd n (fun t => { t with pulse := false })) :=
    (chg_elapsed_time s dt fun _ h => h).tpoUpd _ _ (by simp)
  refine answers_effect (u := e.tpoUpd n (fun t => { t with pulse := false })) _ (State.runIf_true s (decide_eq_true hn) _) rfl hframe
    ⟨?_, hframe.framed⟩
  rw [tpoOf_of_time (State.seal_time s _), tpoOf_tpoUpd e hlen]

/-! ### Captures -/

/-- A selected edge, not within 40 ns of the last, finds the input ready. -/
theorem State.tpiEdge_selected (s : State) (n : Nat) (rise : Bool)
    (hsel : ((s.fld F.TIME_TPI_CTL_EDGE) >>> (2 * n) % 4).testBit (if rise then 0 else 1) = true)
    (hnear : ∀ u ∈ getAt s.time.lastCap n none, u + 40 * nsU ≤ s.time.up) :
    s.tpiEdge n rise false = if s.time.capq.length < 64 then
        ({ s with time := { s.time with
          capq := s.time.capq ++ [Cap.mk s.time.tb s.time.epoch rise n]
          lastCap := setAt s.time.lastCap n (some s.time.up) } }).event F.TIME_EVT_CAPQ_NE
      else ((s.inc A.TIME_CNT_CAPQ_DROP).set F.TIME_CAPQ_STATUS_OVF 1).event F.TIME_EVT_CAPQ_OVF := by
  unfold State.tpiEdge
  dsimp only
  rw [if_pos hsel]
  cases hl : getAt s.time.lastCap n none with
  | none => simp
  | some u =>
    have hu : ¬ s.time.up < u + 40 * nsU := by
      have := hnear u (by rw [hl]; rfl)
      omega
    simp [hu]

section
variable (s : State) (n dt : Nat) (rise : Bool) (hn : n < 4)
  (hsel : ((s.fld F.TIME_TPI_CTL_EDGE) >>> (2 * n) % 4).testBit (if rise then 0 else 1) = true)
  (hnear : ∀ u ∈ getAt s.time.lastCap n none, u + 40 * nsU ≤ s.time.up + dt)
include hn hsel hnear

omit hn in
theorem State.tpiEdge_elapsed :
    (s.fresh.advance dt).tpiEdge n rise false = if s.time.capq.length < 64 then
        ({ s.fresh.advance dt with time := { (s.fresh.advance dt).time with
          capq := s.time.capq ++ [Cap.mk (s.fresh.advance dt).time.tb (s.fresh.advance dt).time.epoch rise n]
          lastCap := setAt s.time.lastCap n (some (s.fresh.advance dt).time.up) } }).event F.TIME_EVT_CAPQ_NE
      else (((s.fresh.advance dt).inc A.TIME_CNT_CAPQ_DROP).set F.TIME_CAPQ_STATUS_OVF 1).event F.TIME_EVT_CAPQ_OVF := by
  obtain ⟨hq, hl⟩ := s.capq_elapsed dt
  have hfld : (s.fresh.advance dt).fld F.TIME_TPI_CTL_EDGE = s.fld F.TIME_TPI_CTL_EDGE := State.fld_advance_ne dt (by decide)
  rw [State.tpiEdge_selected _ n rise (hfld ▸ hsel) (by rw [hl, State.advance_up]; exact hnear), hq, hl]

/-- A selected edge is captured (R120, R121). -/
theorem answers_tpiCapture (hlen : s.time.capq.length < 64) :
    Answers (.tpiCapture n rise false dt) s fun t =>
      t.time.capq = s.time.capq ++ [Cap.mk t.time.tb t.time.epoch rise n] ∧ t.on F.TIME_EVT_CAPQ_NE = true ∧
      Framed (timeRegs ++ [A.TIME_EVT]) [.time, .clk, .mgmt] s t := by
  have heff := (s.tpiEdge_elapsed n dt rise hsel hnear).trans (if_pos hlen)
  have hframe := ((chg_elapsed_time s dt (l := timeRegs ++ [A.TIME_EVT]) fun _ => List.mem_append_left _).time
    { (s.fresh.advance dt).time with
      capq := s.time.capq ++ [Cap.mk (s.fresh.advance dt).time.tb (s.fresh.advance dt).time.epoch rise n]
      lastCap := setAt s.time.lastCap n (some (s.fresh.advance dt).time.up) } (by simp)).event F.TIME_EVT_CAPQ_NE (by simp)
  refine answers_effect _ (State.runIf_true s (decide_eq_true hn) _) heff hframe ⟨?_, ?_, hframe.framed⟩
  · rw [State.seal_time, State.event_time]
  · rw [State.on_seal _ _ (by decide), State.on_event_same _ (by decide)]

/-- An edge that finds the queue full is dropped (R122). -/
theorem answers_tpiCapture_full (hlen : 64 ≤ s.time.capq.length) :
    Answers (.tpiCapture n rise false dt) s fun t =>
      t.time.capq = s.time.capq ∧ Counts s t A.TIME_CNT_CAPQ_DROP 1 ∧ t.on F.TIME_CAPQ_STATUS_OVF = true ∧
      t.on F.TIME_EVT_CAPQ_OVF = true ∧
      Framed (timeRegs ++ [A.TIME_CNT_CAPQ_DROP, A.TIME_SAT, A.TIME_CAPQ_STATUS, A.TIME_EVT]) [.time, .clk, .mgmt] s t := by
  have heff := (s.tpiEdge_elapsed n dt rise hsel hnear).trans (if_neg (Nat.not_lt.mpr hlen))
  have hframe : Chg (Listed (timeRegs ++ [A.TIME_CNT_CAPQ_DROP, A.TIME_SAT, A.TIME_CAPQ_STATUS, A.TIME_EVT])) (Parts [.time, .clk, .mgmt]) NoMem s
      ((((s.fresh.advance dt).inc A.TIME_CNT_CAPQ_DROP).set F.TIME_CAPQ_STATUS_OVF 1).event F.TIME_EVT_CAPQ_OVF) :=
    (((chg_elapsed_time s dt fun _ => List.mem_append_left _).incAt 1 (b := A.TIME_SAT) (by decide) (by decide) (by simp) (by simp)).set _ _ (by simp)).event _
      (by simp)
  refine answers_effect _ (State.runIf_true s (decide_eq_true hn) _) heff hframe ⟨?_, ?_, ?_, ?_, hframe.framed⟩
  · rw [State.seal_time, State.event_time, State.set_time, State.inc_time, (s.capq_elapsed dt).1]
  · rw [Counts, State.rd_seal _ _ (by decide), State.rd_event_ne (by decide), State.rd_set_ne _ (by decide), State.rd_inc_counts (by decide),
      State.rd_advance_ne dt (by decide)]
    rfl
  · rw [State.on_seal _ _ (by decide), State.on, State.fld_event_ne (by decide), ← State.on, State.on_set_same _ (by decide)]
    rfl
  · rw [State.on_seal _ _ (by decide), State.on_event_same _ (by decide)]

end

/-- Settles O23, clause by clause: starts, mode 0, one-shots, periodic edges, realignment, the end of a pulse, and captures. -/
theorem pulsesAndCaptures : Obligations.PulsesAndCaptures :=
  ⟨answers_tpoStartWrite, answers_tpoCtlWrite, answers_tpoOneShotFire, answers_tpoPeriodicEdge, answers_tpoRealign, answers_tpoPulseEnd,
    answers_tpiCapture, answers_tpiCapture_full⟩

end Sys2Proof.Machine
end

section
/-! PROOFS. The best master algorithm: what it changes, and who wins where nobody is heard (R79, R80, R103). -/

namespace Sys2Proof.Machine

/-- The module wins the comparison (R79). -/
def State.bestWin (s : State) : Bool :=
  !s.on F.TIME_PTP_CFG_SLAVE_ONLY && (match bestAnn (s.time.ports.map (fun t => t.ann)) with
    | none => true
    | some (_, a) => annBetter s.ownAnn a)

/-- The grandmaster chosen is noted, with its UTC offset (R79, R465). -/
def State.gmTaken (s : State) (gm : Option Ann) (port : Nat) (win : Bool) : State :=
  (s.updTime (fun t => { t with gm := gm, gmPort := port, isGm := win })).updMgmt (fun m => { m with utcOffset := match gm with
    | some g => if g.utcValid && !win then some g.utcOffset else none
    | none => none })

/-- What a change of grandmaster does (R103). -/
def State.gmChange (s : State) (oldId newId : Nat) (gm : Option Ann) (win : Bool) : State :=
  let s := ((s.event F.TIME_EVT_GM_CHANGE).log 4 4 1 [oldId % 2 ^ 32, oldId / 2 ^ 32, newId % 2 ^ 32, newId / 2 ^ 32]).twinNewGm
  if gm.isNone ∨ win then
    forN 4 (fun r s => s.when (r != 0 && (s.qualified r || s.fld (F.CLK_REF_INFO_STATE r) == 1)) (fun s => s.disqualify r 8))
      (s.wr A.TIME_OFFSET 0x80000000)
  else s

/-- The port states that follow, and the PTP reference where port C is no slave (R86, R129). -/
def State.gmShown (s : State) : State :=
  s.twinFlags.portStates.when (s.twinFlags.portStates.fld (F.TIME_PSTAT_STATE 2) != 9 &&
    (s.twinFlags.portStates.qualified 3 || s.twinFlags.portStates.fld (F.CLK_REF_INFO_STATE 3) == 1)) (fun s => s.disqualify 3 8)

/-- The identity of a grandmaster, 0 for none. -/
def gmIdentity (g : Option Ann) : Nat := (g.map (fun g => g.identity)).getD 0

/-- The grandmaster chosen, and the port it was heard on (R79). -/
def State.gmPair (s : State) : Option Ann × Nat :=
  if s.bestWin then (some s.ownAnn, 3) else match bestAnn (s.time.ports.map (fun t => t.ann)) with
    | none => (none, 3)
    | some (p, a) => (some a, p)

theorem State.bmca_eq (s : State) :
    s.bmca = (if gmIdentity s.time.gm = gmIdentity s.gmPair.1 then s.gmTaken s.gmPair.1 s.gmPair.2 s.bestWin
      else (s.gmTaken s.gmPair.1 s.gmPair.2 s.bestWin).gmChange (gmIdentity s.time.gm) (gmIdentity s.gmPair.1) s.gmPair.1 s.bestWin).gmShown := rfl

/-! ### What it changes -/

/-- The registers that the best master algorithm changes. -/
def BmcaReg (a : Nat) : Prop :=
  0x50000 ≤ a ∨ a ∈ [A.TIME_EVT, A.TIME_OFFSET, A.TIME_TWIN_STATUS, A.TIME_PSTAT 0, A.TIME_PSTAT 1, A.TIME_PSTAT 2]

section
variable {P : Part → Prop} {M : Nat → Prop} {s t : State} (ht : P .time) (hp : ClockParts P)

theorem Chg.bmcaTwin (h : Chg BmcaReg P M s t) : Chg BmcaReg P M s t.twinFlags :=
  (h.keep _ _ (.inr (by simp))).keep _ _ (.inr (by simp))

theorem Chg.bmcaPorts (h : Chg BmcaReg P M s t) : Chg BmcaReg P M s t.portStates := by
  refine Chg.forN _ _ (fun p hp3 u hu => hu.keep _ _ (.inr ?_)) h
  interval_cases p <;> simp

include hp in
theorem Chg.bmcaShown (h : Chg BmcaReg P M s t) : Chg BmcaReg P M s t.gmShown :=
  h.bmcaTwin.bmcaPorts.when _ _ fun _ => Chg.disqualify (fun _ => .inl) hp h.bmcaTwin.bmcaPorts 3 8

include hp ht in
theorem Chg.bmcaChange (h : Chg BmcaReg P M s t) (o n : Nat) (gm : Option Ann) (win : Bool) : Chg BmcaReg P M s (t.gmChange o n gm win) := by
  have hlog := (h.event F.TIME_EVT_GM_CHANGE (.inr (by simp))).log 4 4 1 [o % 2 ^ 32, o / 2 ^ 32, n % 2 ^ 32, n / 2 ^ 32] (.inl (by decide)) hp.mgmt
  have hnew := Chg.bmcaTwin ((Chg.twinUpd (((hlog.set F.TIME_TWIN_STATUS_D_VALID 0 (.inr (by simp))).set F.TIME_TWIN_STATUS_CORR 0 (.inr (by simp))).set
    F.TIME_TWIN_STATUS_IN_USE 0 (.inr (by simp))) (fun w => { w with running := false, healing := false }) ht).updTime (fun t => { t with
      firstGm := true, last4 := [], ports := t.ports.map (fun x => { x with lastSync := none, rxSync := none, lost := false }) }) ht)
  unfold State.gmChange
  exact Chg.ite (fun _ => Chg.forN _ _ (fun r _ u hu => hu.when _ _ fun _ => Chg.disqualify (fun _ => .inl) hp hu r 8) (hnew.wr _ _ (.inr (by simp))))
    fun _ => hnew

include hp ht in
theorem Chg.bmca (h : Chg BmcaReg P M s t) : Chg BmcaReg P M s t.bmca := by
  have htaken := (h.updTime (fun x => { x with gm := t.gmPair.1, gmPort := t.gmPair.2, isGm := t.bestWin }) ht).updMgmt
    (fun m => { m with utcOffset := match t.gmPair.1 with
      | some g => if g.utcValid && !t.bestWin then some g.utcOffset else none
      | none => none }) hp.mgmt
  rw [State.bmca_eq]
  exact Chg.bmcaShown hp (Chg.ite (fun _ => htaken) fun _ => Chg.bmcaChange ht hp htaken _ _ _ _)

end

/-! ### The role it leaves -/

/-- The module's role, a pending profile, and what each port last heard and next sends. -/
structure SameRole (s t : State) : Prop where
  isGm : t.time.isGm = s.time.isGm
  pend : t.time.profilePend = s.time.profilePend
  ann : ∀ p, (t.tport p).ann = (s.tport p).ann
  seq : ∀ p, (t.tport p).seqAnn = (s.tport p).seqAnn

theorem SameRole.refl (s : State) : SameRole s s := ⟨rfl, rfl, fun _ => rfl, fun _ => rfl⟩

theorem SameRole.trans {s t u : State} (h : SameRole s t) (h' : SameRole t u) : SameRole s u :=
  ⟨h'.isGm.trans h.isGm, h'.pend.trans h.pend, fun p => (h'.ann p).trans (h.ann p), fun p => (h'.seq p).trans (h.seq p)⟩

theorem sameRole_of_time {s t : State} (h : t.time = s.time) : SameRole s t := by
  refine ⟨by rw [h], by rw [h], fun p => ?_, fun p => ?_⟩ <;> rw [State.tport, h, State.tport]

/-- An update of every port that keeps a figure of each keeps it of every port. -/
theorem getAt_map_keeps {α : Type} (l : List TimePort) (f : TimePort → TimePort) (g : TimePort → α) (h : ∀ x, g (f x) = g x) (p : Nat) :
    g (getAt (l.map f) p TimePort.reset) = g (getAt l p TimePort.reset) := by
  simp only [getAt, List.getD_eq_getElem?_getD, List.getElem?_map]
  cases l[p]? with
  | none => rfl
  | some x => exact h x

theorem clockParts_clk : ClockParts (Parts [.clk, .mgmt, .tdm]) := ⟨by simp, by simp, by simp⟩

theorem sameRole_shown (s : State) : SameRole s s.gmShown :=
  sameRole_of_time ((Chg.bmcaShown (P := Parts [.clk, .mgmt, .tdm]) (M := NoMem) clockParts_clk Chg.refl).part .time (by simp))

theorem sameRole_set (s : State) (f : Fld) (v : Nat) : SameRole s (s.set f v) := sameRole_of_time (State.set_time s f v)
theorem sameRole_twinUpd (s : State) (f : Twin → Twin) : SameRole s (s.twinUpd f) := ⟨rfl, rfl, fun _ => rfl, fun _ => rfl⟩
theorem sameRole_twinFlags (s : State) : SameRole s s.twinFlags :=
  sameRole_of_time ((Chg.bmcaTwin (P := Parts []) (M := NoMem) Chg.refl).part .time (by simp))

/-- A port after a change of grandmaster (R103). -/
def TimePort.cleared (x : TimePort) : TimePort := { x with lastSync := none, rxSync := none, lost := false }

theorem sameRole_newGm (s : State) : SameRole s s.twinNewGm := by
  have hports (u : State) : SameRole u (u.updTime (fun t => { t with
      firstGm := true, last4 := [], ports := t.ports.map (fun x => { x with lastSync := none, rxSync := none, lost := false }) })) :=
    ⟨rfl, rfl, fun p => getAt_map_keeps _ TimePort.cleared TimePort.ann (fun _ => rfl) p,
      fun p => getAt_map_keeps _ TimePort.cleared TimePort.seqAnn (fun _ => rfl) p⟩
  unfold State.twinNewGm
  dsimp only
  exact ((((((sameRole_set _ _ _).trans (sameRole_set _ _ _)).trans (sameRole_set _ _ _)).trans (sameRole_twinUpd _ _)).trans (hports _)).trans
    (sameRole_twinFlags _))

theorem sameRole_change (s : State) (o n : Nat) (gm : Option Ann) (win : Bool) : SameRole s (s.gmChange o n gm win) := by
  set x := (s.event F.TIME_EVT_GM_CHANGE).log 4 4 1 [o % 2 ^ 32, o / 2 ^ 32, n % 2 ^ 32, n / 2 ^ 32] with hx
  have hlog : x.time = s.time :=
    ((Chg.refl.event _ trivial).log (R := AnyReg) (P := Parts [.mgmt]) (M := NoMem) 4 4 1 _ trivial (by simp)).part .time (by simp)
  have hbase := (sameRole_of_time hlog).trans (sameRole_newGm x)
  have hrefs (u : State) : SameRole u (forN 4 (fun r s => s.when (r != 0 && (s.qualified r || s.fld (F.CLK_REF_INFO_STATE r) == 1))
      (fun s => s.disqualify r 8)) (u.wr A.TIME_OFFSET 0x80000000)) :=
    sameRole_of_time ((Chg.forN (R := BmcaReg) (P := Parts [.clk, .mgmt, .tdm]) (M := NoMem) _ _ (fun r _ u hu => hu.when _ _ fun _ =>
      Chg.disqualify (fun _ => .inl) clockParts_clk hu r 8) (Chg.refl.wr _ _ (.inr (by simp)))).part .time (by simp))
  unfold State.gmChange
  dsimp only
  split
  · exact hbase.trans (hrefs _)
  · exact hbase

/-- The best master algorithm sets the module's role by its comparison and leaves what the ports heard (R79). -/
theorem bmca_role (s : State) : s.bmca.time.isGm = s.bestWin ∧ s.bmca.time.profilePend = s.time.profilePend ∧
    (∀ p, (s.bmca.tport p).ann = (s.tport p).ann) ∧ ∀ p, (s.bmca.tport p).seqAnn = (s.tport p).seqAnn := by
  set u := s.gmTaken s.gmPair.1 s.gmPair.2 s.bestWin with hu
  have hrole : SameRole u s.bmca := by
    rw [State.bmca_eq, ← hu]
    refine SameRole.trans ?_ (sameRole_shown _)
    split
    · exact SameRole.refl u
    · exact sameRole_change u _ _ _ _
  exact ⟨hrole.isGm, hrole.pend, hrole.ann, hrole.seq⟩

/-- A fold that nothing in the list moves from none. -/
theorem foldl_none {α β : Type} (f : Option β → α → Option β) (l : List α) (h : ∀ x ∈ l, f none x = none) : l.foldl f none = none := by
  induction l with
  | nil => rfl
  | cons x l ih =>
    rw [List.foldl_cons, h x (List.mem_cons_self ..)]
    exact ih fun y hy => h y (List.mem_cons_of_mem _ hy)

/-- Where no port has heard a better clock and the module may lead, it wins (R79). -/
theorem bestWin_unheard (s : State) (h : ∀ t ∈ s.time.ports, t.ann = none) (hs : s.on F.TIME_PTP_CFG_SLAVE_ONLY = false) : s.bestWin = true := by
  have hnone : bestAnn (s.time.ports.map (fun t => t.ann)) = none := by
    unfold bestAnn
    refine foldl_none _ _ fun x hx => ?_
    obtain ⟨t, ht, hta⟩ := List.mem_map.mp (List.of_mem_zip (show (x.1, x.2) ∈ _ from hx)).2
    rw [show x = (x.1, x.2) from rfl, ← hta, h t ht]
  unfold State.bestWin
  rw [hs, hnone]
  rfl

end Sys2Proof.Machine
end

section
/-! PROOFS. PTP messages the module originates, the loss of the master, and profiles (R74 to R81, R87, R93). -/

namespace Sys2Proof.Machine

/-! ### Ports of TIME -/

theorem State.tport_tportUpd_same (s : State) {p : Nat} (hp : p < s.time.ports.length) (f : TimePort → TimePort) :
    (s.tportUpd p f).tport p = f (s.tport p) := by
  simp only [State.tport, State.tportUpd, State.updTime, getAt, updAt, List.getD_eq_getElem?_getD, List.getElem?_modify_eq]
  rw [List.getElem?_eq_getElem hp]
  rfl

theorem State.tport_tportUpd_ne (s : State) {p q : Nat} (h : q ≠ p) (f : TimePort → TimePort) : (s.tportUpd p f).tport q = s.tport q := by
  simp only [State.tport, State.tportUpd, State.updTime, getAt, updAt, List.getD_eq_getElem?_getD, List.getElem?_modify_ne _ _ (Ne.symm h)]

theorem State.tport_of_time {s t : State} (h : t.time = s.time) (p : Nat) : t.tport p = s.tport p := by rw [State.tport, h, State.tport]

theorem State.tport_elapsed (s : State) (dt p : Nat) : (s.fresh.advance dt).tport p = s.tport p := by
  obtain ⟨_, _, _, h⟩ := State.advance_time s.fresh dt
  rw [State.tport, h]
  rfl

/-- Nobody is heard on any port. -/
theorem unheard_ports (s : State) (hlen : s.time.ports.length = 3) (h : ∀ q < 3, (s.tport q).ann = none) : ∀ t ∈ s.time.ports, t.ann = none := by
  intro t ht
  obtain ⟨i, hi, rfl⟩ := List.getElem_of_mem ht
  have := h i (by omega)
  rw [State.tport, getAt, List.getD_eq_getElem?_getD, List.getElem?_eq_getElem hi] at this
  exact this

/-- With no Announce left the module leads (R79, R81). -/
theorem answers_announceReceiptTimeout (s : State) (p : Port) (hs : Shaped s) (hu : s.unitOn 3 = true) (hun : Unheard s p.idx)
    (hm : s.on F.TIME_PTP_CFG_SLAVE_ONLY = false) :
    Answers (.announceReceiptTimeout p) s fun t => (t.tport p.idx).ann = none ∧ t.time.isGm = true ∧ MemKept s t := by
  set v := s.fresh.tportUpd p.idx (fun t => { t with ann := none, rxSync := none }) with hv
  have hlen : s.fresh.time.ports.length = 3 := hs.2.1
  have hlen' : v.time.ports.length = 3 := (List.length_modify ..).trans hlen
  have hp : p.idx < s.fresh.time.ports.length := by rw [hlen]; exact portIdx_lt p
  have hann (q : Nat) (hq : q < 3) : (v.tport q).ann = none := by
    by_cases hqp : q = p.idx
    · rw [hqp, hv, State.tport_tportUpd_same s.fresh hp]
    · rw [hv, State.tport_tportUpd_ne _ hqp]
      exact hun q hq hqp
  have heff : s.fresh.when (s.fresh.unitOn 3) (fun s => s.announceTimeout p.idx) = v.bmca := if_pos hu
  have hframe : Chg AnyReg AnyPart NoMem s v.bmca :=
    (Chg.bmca (P := AnyPart) trivial ⟨trivial, trivial, trivial⟩ Chg.refl).anywhere |> Chg.trans (Chg.refl.fresh.tportUpd _ _ trivial)
  obtain ⟨hgm, -, hann', -⟩ := bmca_role v
  refine answers_effect _ rfl heff hframe ⟨?_, ?_, hframe.memKept⟩
  · rw [State.tport_of_time (State.seal_time s _), hann', hann _ (portIdx_lt p)]
  · rw [State.seal_time, hgm]
    exact bestWin_unheard v (unheard_ports v hlen' hann) hm

/-! ### Messages sent -/

theorem ptpSend_frame (s : State) (p : Nat) (m : Ptp) (timed : Bool) : Chg (fun _ => False) (· = .ring) NoMem s (s.ptpSend p m timed) := by
  unfold State.ptpSend State.enqueue State.creditTick
  exact Chg.ite (fun _ => Chg.rpUpd (P := (· = .ring)) (Chg.rpUpd (P := (· = .ring)) Chg.refl _ _ rfl) _ _ rfl) fun _ => Chg.refl

/-- A message of the module's own waits at the end of its port's queue (R87). -/
theorem State.ptpSend_queues (s : State) {p : Nat} (m : Ptp) (timed : Bool) (hl : s.linkUp p = true) (hp : p < s.ring.ports.length) :
    ∃ e, ((s.ptpSend p m timed).rp p).queue = (s.rp p).queue ++ [e] ∧ e.timed = timed ∧ e.frame.body = .ptp m := by
  refine ⟨{ s.ownFrame (s.ptpFrame m) (s.fld F.TIME_PTP_PRIO_PCP) with timed := timed }, ?_, rfl, rfl⟩
  rw [State.ptpSend, State.enqueue, if_pos hl, State.rp_rpUpd_same _ (by rw [State.creditTick, State.length_rpUpd]; exact hp)]
  exact congrArg (· ++ _) (queueKept_creditTick s p p).1

theorem queueKept_ptpSend (s : State) {p q : Nat} (h : q ≠ p) (m : Ptp) (timed : Bool) : QueueKept q s (s.ptpSend p m timed) :=
  queueKept_enqueue s h _

/-- A message is the same wherever the module's address and PTP_CFG are. -/
theorem State.ptpMsg_congr {s t : State} (hm : t.mac = s.mac) (hc : t.reg A.TIME_PTP_CFG = s.reg A.TIME_PTP_CFG) (p : Nat) (k : PtpKind) (q : Nat) :
    t.ptpMsg p k q = s.ptpMsg p k q := by
  have hd : t.fld F.TIME_PTP_CFG_DOMAIN = s.fld F.TIME_PTP_CFG_DOMAIN := State.fld_eq_of_reg hc
  have ht : t.fld F.TIME_PTP_CFG_TRANSPORT = s.fld F.TIME_PTP_CFG_TRANSPORT := State.fld_eq_of_reg hc
  rw [State.ptpMsg, State.ptpMsg, State.clockId, State.clockId, hm, hd, State.ptpUdp6, State.ptpUdp6, ht]

theorem State.mac_elapsed (s : State) (dt : Nat) : (s.fresh.advance dt).mac = s.mac := by
  have hlo : (s.fresh.advance dt).rd A.SYS_MAC_LO = s.rd A.SYS_MAC_LO := State.rd_advance_ne dt (by decide)
  have hhi : (s.fresh.advance dt).rd A.SYS_MAC_HI = s.rd A.SYS_MAC_HI := State.rd_advance_ne dt (by decide)
  rw [State.mac, State.mac, hlo, hhi]

theorem State.ptpMsg_elapsed (s : State) (dt p : Nat) (k : PtpKind) (q : Nat) : (s.fresh.advance dt).ptpMsg p k q = s.ptpMsg p k q :=
  State.ptpMsg_congr (s.mac_elapsed dt) (State.reg_advance s.fresh dt (by decide)) p k q

theorem State.e2e_elapsed (s : State) (dt : Nat) : (s.fresh.advance dt).e2e = s.e2e := by
  obtain ⟨_, _, _, h⟩ := State.advance_time s.fresh dt
  rw [State.e2e, h]
  rfl

theorem State.unitOn_elapsed (s : State) (dt u : Nat) : (s.fresh.advance dt).unitOn u = s.unitOn u :=
  congrArg (fun n : Nat => n.testBit u) (State.fld_advance_ne (s := s.fresh) (g := F.PWR_UNIT_STATUS_POWERED) dt (by decide))

/-- A link's delay is asked for (R75, R87). -/
theorem answers_pdelayReqTimer (s : State) (p : Port) (dt : Nat) (hs : Shaped s) (hu : s.unitOn 3 = true) (hp2 : p.idx < 2 ∨ s.e2e = false)
    (hl : s.linkUp p.idx = true) :
    Answers (.pdelayReqTimer p dt) s fun t =>
      (∃ e, (t.rp p.idx).queue = (s.rp p.idx).queue ++ [e] ∧ e.timed = true ∧
        e.frame.body = .ptp (s.ptpMsg p.idx .pdelayReq (s.tport p.idx).seqPdelay)) ∧
      (t.tport p.idx).seqPdelay = ((s.tport p.idx).seqPdelay + 1) % 65536 ∧ Framed timeRegs [.ring, .time, .clk, .mgmt] s t := by
  have hp := portIdx_lt p
  set e := s.fresh.advance dt with he
  have hport : e.tport p.idx = s.tport p.idx := s.tport_elapsed dt p.idx
  set v := e.tportUpd p.idx (fun t => { t with seqPdelay := ((e.tport p.idx).seqPdelay + 1) % 65536, pdelayT1 := none, pdelayResp := none }) with hv
  set u := v.ptpSend p.idx (v.ptpMsg p.idx .pdelayReq (e.tport p.idx).seqPdelay) true with hu'
  have hle : e.linkUp p.idx = true := (s.linkUp_elapsed dt hp).trans hl
  have hlen : p.idx < e.time.ports.length := by
    obtain ⟨_, _, _, h⟩ := State.advance_time s.fresh dt
    rw [he, h]
    exact hp.trans_eq hs.2.1.symm
  have heff : e.when (e.unitOn 3) (fun s => s.pdelayReq p.idx) = u := by
    have hc : (p.idx < 2 ∨ (!e.e2e) = true) ∧ e.linkUp p.idx = true :=
      ⟨hp2.imp_right fun h => by rw [he, s.e2e_elapsed dt, h]; rfl, hle⟩
    rw [s.unitOn_elapsed dt 3, hu, State.when_true]
    exact if_pos hc
  have hsend := ptpSend_frame v p.idx (v.ptpMsg p.idx .pdelayReq (e.tport p.idx).seqPdelay) true
  have hframe : Chg (Listed timeRegs) (Parts [.ring, .time, .clk, .mgmt]) NoMem s u :=
    ((chg_elapsed s dt fun _ h => h).tportUpd _ _ (by simp)).trans (hsend.mono (fun _ h => h.elim) (fun _ h => by simp [h]) fun _ h => h)
  have hv3 : p.idx < v.ring.ports.length := by rw [hv, State.tportUpd_ring, he, State.ring_elapsed, hs.1]; exact hp
  obtain ⟨f, hq, hf1, hf2⟩ := v.ptpSend_queues (v.ptpMsg p.idx .pdelayReq (e.tport p.idx).seqPdelay) true hle hv3
  refine answers_effect _ rfl heff hframe ⟨⟨f, ?_, hf1, ?_⟩, ?_, hframe.framed⟩
  · rw [State.rp, State.seal_ring, ← State.rp, hq, ← s.rp_elapsed dt p.idx]
    rfl
  · rw [hf2, hport]
    exact congrArg Body.ptp (s.ptpMsg_elapsed dt p.idx .pdelayReq _)
  · rw [State.tport_of_time ((State.seal_time s u).trans (hsend.part .time (by simp))), State.tport_tportUpd_same e hlen, hport]

/-- The way to the grandmaster behind port C is measured (R81, R87). -/
theorem answers_delayReqTimer (s : State) (dt : Nat) (hs : Shaped s) (hu : s.unitOn 3 = true) (h2 : s.e2e = true) (hg : s.time.gmPort = 2)
    (hi : s.time.isGm = false) (hsome : s.time.gm.isSome = true) (hl : s.linkUp 2 = true) :
    Answers (.delayReqTimer dt) s fun t =>
      (∃ e, (t.rp 2).queue = (s.rp 2).queue ++ [e] ∧ e.timed = true ∧
        e.frame.body = .ptp (s.ptpMsg 2 .delayReq (s.tport 2).seqDelay)) ∧
      (t.tport 2).seqDelay = ((s.tport 2).seqDelay + 1) % 65536 ∧ Framed timeRegs [.ring, .time, .clk, .mgmt] s t := by
  set e := s.fresh.advance dt with he
  have hport : e.tport 2 = s.tport 2 := s.tport_elapsed dt 2
  set v := e.tportUpd 2 (fun t => { t with seqDelay := ((e.tport 2).seqDelay + 1) % 65536 }) with hv
  set u := v.ptpSend 2 (v.ptpMsg 2 .delayReq (e.tport 2).seqDelay) true with hu'
  have hle : e.linkUp 2 = true := (s.linkUp_elapsed dt (by decide)).trans hl
  obtain ⟨_, _, _, htime⟩ := State.advance_time s.fresh dt
  have hlen : 2 < e.time.ports.length := by
    rw [he, htime]
    exact (by decide : 2 < 3).trans_eq hs.2.1.symm
  have heff : e.when (e.unitOn 3) State.delayReq = u := by
    have hc : (e.e2e && e.time.gmPort == 2 && !e.time.isGm && e.time.gm.isSome) = true := by
      rw [s.e2e_elapsed dt, h2, he, htime, show s.fresh.time = s.time from rfl, hg, hi, hsome]
      rfl
    rw [s.unitOn_elapsed dt 3, hu, State.when_true]
    exact if_pos hc
  have hsend := ptpSend_frame v 2 (v.ptpMsg 2 .delayReq (e.tport 2).seqDelay) true
  have hframe : Chg (Listed timeRegs) (Parts [.ring, .time, .clk, .mgmt]) NoMem s u :=
    ((chg_elapsed s dt fun _ h => h).tportUpd _ _ (by simp)).trans (hsend.mono (fun _ h => h.elim) (fun _ h => by simp [h]) fun _ h => h)
  have hv3 : 2 < v.ring.ports.length := by rw [hv, State.tportUpd_ring, he, State.ring_elapsed, hs.1]; decide
  obtain ⟨f, hq, hf1, hf2⟩ := v.ptpSend_queues (v.ptpMsg 2 .delayReq (e.tport 2).seqDelay) true hle hv3
  refine answers_effect _ rfl heff hframe ⟨⟨f, ?_, hf1, ?_⟩, ?_, hframe.framed⟩
  · rw [State.rp, State.seal_ring, ← State.rp, hq, ← s.rp_elapsed dt 2]
    rfl
  · rw [hf2, hport]
    exact congrArg Body.ptp (s.ptpMsg_elapsed dt 2 .delayReq _)
  · rw [State.tport_of_time ((State.seal_time s u).trans (hsend.part .time (by simp))), State.tport_tportUpd_same e hlen, hport]

/-! ### Messages originated on every port -/

/-- A message originated on a port, with the port's sequence number moved on. -/
def State.originate (s : State) (p : Nat) (f : TimePort → TimePort) (m : Ptp) (timed : Bool) : State := (s.tportUpd p f).ptpSend p m timed

/-- The registers, the variant and the number of ports that a port's turn finds. -/
theorem originate_keeps (s : State) (p : Nat) (f : TimePort → TimePort) (m : Ptp) (timed : Bool) :
    (s.originate p f m timed).regs = s.regs ∧ (s.originate p f m timed).variant = s.variant ∧
      (s.originate p f m timed).ring.ports.length = s.ring.ports.length := by
  unfold State.originate State.ptpSend State.enqueue
  split
  · exact ⟨rfl, rfl, by rw [State.length_rpUpd, State.creditTick, State.length_rpUpd]; rfl⟩
  · exact ⟨rfl, rfl, rfl⟩

/-- A port's turn leaves the others' queues and sequence numbers. -/
theorem originate_other (s : State) {p k : Nat} (h : k ≠ p) (f : TimePort → TimePort) (m : Ptp) (timed : Bool) :
    ((s.originate p f m timed).rp k).queue = (s.rp k).queue ∧ (s.originate p f m timed).tport k = s.tport k := by
  refine ⟨(queueKept_ptpSend (s.tportUpd p f) h m timed).1, ?_⟩
  rw [State.originate, State.tport_of_time ((ptpSend_frame _ p m timed).part .time (by simp)), State.tport_tportUpd_ne _ h]

/-- A message goes to every port whose link is up, each from the state its port's turn finds. -/
theorem originate_loop (s : State) (f : State → Nat → TimePort → TimePort) (msg : State → Nat → Ptp) (timed : Bool) {k : Nat} (hk : k < 3)
    (hlen : s.ring.ports.length = 3) (hl : s.linkUp k = true) :
    ∃ e t, ((forN 3 (fun p s => s.originate p (f s p) (msg s p) timed) s).rp k).queue = (s.rp k).queue ++ [e] ∧ e.timed = timed ∧
      e.frame.body = .ptp (msg t k) ∧ t.regs = s.regs ∧ t.variant = s.variant ∧ t.tport k = s.tport k := by
  refine forN_at (fun t => ((t.rp k).queue, t.tport k, t.regs, t.variant, t.ring.ports.length)) (fun x => ∃ e t,
    x.1 = (s.rp k).queue ++ [e] ∧ e.timed = timed ∧ e.frame.body = .ptp (msg t k) ∧ t.regs = s.regs ∧ t.variant = s.variant ∧
      t.tport k = s.tport k) 3 k _ s hk (fun i _ hik t => ?_) fun t ht => ?_
  · obtain ⟨h1, h2, h3⟩ := originate_keeps t i (f t i) (msg t i) timed
    obtain ⟨h4, h5⟩ := originate_other t (Ne.symm hik) (f t i) (msg t i) timed
    simp only [h1, h2, h3, h4, h5]
  · obtain ⟨hq, hp, hr, hv, hn⟩ : (t.rp k).queue = (s.rp k).queue ∧ t.tport k = s.tport k ∧ t.regs = s.regs ∧ t.variant = s.variant ∧
        t.ring.ports.length = s.ring.ports.length := by
      simpa only [Prod.mk.injEq] using ht
    have hlt : t.linkUp k = true :=
      (congrArg (· != 0) (State.fld_eq_of_reg (f := F.RING_PORT_STATUS_LINK k) (State.reg_congr hv hr _))).trans hl
    obtain ⟨e, h1, h2, h3⟩ := (t.tportUpd k (f t k)).ptpSend_queues (msg t k) timed hlt (by rw [State.tportUpd_ring, hn, hlen]; exact hk)
    exact ⟨e, t, h1.trans (congrArg (· ++ [e]) hq), h2, h3, hr, hv, hp⟩

theorem Chg.originate {R : Nat → Prop} {P : Part → Prop} {M : Nat → Prop} {s t : State} (h : Chg R P M s t) (ht : P .time) (hr : P .ring) (p : Nat)
    (f : TimePort → TimePort) (m : Ptp) (timed : Bool) : Chg R P M s (t.originate p f m timed) :=
  (h.tportUpd p f ht).trans ((ptpSend_frame _ p m timed).mono (fun _ h => h.elim) (fun _ h => h ▸ hr) fun _ h => h.elim)

theorem Chg.profileTick {R : Nat → Prop} {P : Part → Prop} {M : Nat → Prop} {s t : State} (h : Chg R P M s t) (ht : P .time) :
    Chg R P M s t.profileTick := by
  unfold State.profileTick
  exact Chg.ite (fun _ => h.updTime _ ht) fun _ => h

theorem State.profileTick_keeps (s : State) : s.profileTick.regs = s.regs ∧ s.profileTick.variant = s.variant ∧ s.profileTick.ring = s.ring ∧
    s.profileTick.time.isGm = s.time.isGm ∧ ∀ p, s.profileTick.tport p = s.tport p := by
  unfold State.profileTick
  split
  · exact ⟨rfl, rfl, rfl, rfl, fun _ => rfl⟩
  · exact ⟨rfl, rfl, rfl, rfl, fun _ => rfl⟩

/-- The grandmaster's Syncs (R78, R87). -/
theorem answers_syncOriginate (s : State) (dt : Nat) (hs : Shaped s) (hu : s.unitOn 3 = true) (hg : s.time.isGm = true) :
    Answers (.syncOriginate dt) s fun t =>
      (∀ p < 3, s.linkUp p = true → ∃ e, (t.rp p).queue = (s.rp p).queue ++ [e] ∧ e.timed = true ∧
        e.frame.body = .ptp { s.ptpMsg p .sync (s.tport p).seqSync with twoStep := s.on F.TIME_PTP_CFG_TWO_STEP }) ∧
      Framed timeRegs [.ring, .time, .clk, .mgmt] s t := by
  set e := s.fresh.advance dt with he
  obtain ⟨_, _, _, htime⟩ := State.advance_time s.fresh dt
  set v := e.profileTick with hv
  obtain ⟨hr, hvar, hring, hgm, hport⟩ := e.profileTick_keeps
  set f : State → Nat → TimePort → TimePort := fun s p t => { t with seqSync := ((s.tport p).seqSync + 1) % 65536 } with hf
  set msg : State → Nat → Ptp := fun s p => { (s.tportUpd p (f s p)).ptpMsg p .sync (s.tport p).seqSync with
    twoStep := (s.tportUpd p (f s p)).on F.TIME_PTP_CFG_TWO_STEP } with hmsg
  set u := forN 3 (fun p s => s.originate p (f s p) (msg s p) true) v with hu'
  have heff : e.when (e.unitOn 3) State.syncOriginate = u := by
    have hgv : v.time.isGm = true := by
      rw [hgm, he, htime]
      exact hg
    rw [s.unitOn_elapsed dt 3, hu, State.when_true]
    exact if_pos hgv
  have hframe : Chg (Listed timeRegs) (Parts [.ring, .time, .clk, .mgmt]) NoMem s u :=
    Chg.forN _ _ (fun p _ t ht => ht.originate (by simp) (by simp) p _ _ _) ((chg_elapsed s dt fun _ h => h).profileTick (by simp))
  refine answers_effect _ rfl heff hframe ⟨fun p hp hl => ?_, hframe.framed⟩
  have hlv : v.linkUp p = true :=
    (congrArg (· != 0) (State.fld_eq_of_reg (f := F.RING_PORT_STATUS_LINK p) (State.reg_congr hvar hr _))).trans ((s.linkUp_elapsed dt hp).trans hl)
  obtain ⟨x, t, h1, h2, h3, h4, h5, h6⟩ := originate_loop v f msg true hp (by rw [hring, he, State.ring_elapsed]; exact hs.1) hlv
  have htr (a : Nat) : t.reg a = e.reg a := State.reg_congr (h5.trans hvar) (h4.trans hr) a
  have hmsg' : (t.tportUpd p (f t p)).ptpMsg p .sync (t.tport p).seqSync = s.ptpMsg p .sync (s.tport p).seqSync := by
    have hmac : (t.tportUpd p (f t p)).mac = s.mac := by
      have hlo : t.rd A.SYS_MAC_LO = e.rd A.SYS_MAC_LO := State.rd_eq_of_reg (htr _)
      have hhi : t.rd A.SYS_MAC_HI = e.rd A.SYS_MAC_HI := State.rd_eq_of_reg (htr _)
      rw [← s.mac_elapsed dt]
      exact congrArg₂ (fun a b => a + 2 ^ 32 * (b % 2 ^ 16)) hlo hhi
    rw [h6, hport, he, s.tport_elapsed]
    exact State.ptpMsg_congr hmac ((htr _).trans (State.reg_advance s.fresh dt (by decide))) _ _ _
  refine ⟨x, ?_, h2, h3.trans ?_⟩
  · rw [State.rp, State.seal_ring, ← State.rp, h1, ← s.rp_elapsed dt p, State.rp, hring]
    rfl
  · have hstep : (t.tportUpd p (f t p)).on F.TIME_PTP_CFG_TWO_STEP = s.on F.TIME_PTP_CFG_TWO_STEP :=
      congrArg (· != 0) (State.fld_eq_of_reg (f := F.TIME_PTP_CFG_TWO_STEP) ((htr _).trans (State.reg_advance s.fresh dt (by decide))))
    rw [hmsg]
    dsimp only
    rw [hmsg', hstep]

theorem chg_bmca (s : State) : Chg BmcaReg (Parts [.time, .clk, .mgmt, .tdm]) NoMem s s.bmca :=
  Chg.bmca (by simp) ⟨by simp, by simp, by simp⟩ Chg.refl

theorem State.bmca_ring (s : State) : s.bmca.ring = s.ring := (chg_bmca s).part .ring (by simp)

theorem State.linkUp_bmca (s : State) {p : Nat} (hp : p < 3) : s.bmca.linkUp p = s.linkUp p := by
  have hn : ¬ BmcaReg (A.RING_PORT_STATUS p) := by
    unfold BmcaReg
    interval_cases p <;> decide
  rw [State.linkUp, State.on, (chg_bmca s).fld (g := F.RING_PORT_STATUS_LINK p) hn, State.linkUp, State.on]

/-- The module that hears nobody announces itself (R79, R87). -/
theorem answers_announceOriginate (s : State) (dt : Nat) (hs : Shaped s) (hu : s.unitOn 3 = true) (hun : Unheard s 3)
    (hm : s.on F.TIME_PTP_CFG_SLAVE_ONLY = false) :
    Answers (.announceOriginate dt) s fun t =>
      ∀ p < 3, s.linkUp p = true → ∃ e m, (t.rp p).queue = (s.rp p).queue ++ [e] ∧ e.frame.body = .ptp m ∧ m.kind = .announce ∧
        m.seq = (s.tport p).seqAnn ∧ m.ann.isSome = true := by
  set e := s.fresh.advance dt with he
  obtain ⟨_, _, _, htime⟩ := State.advance_time s.fresh dt
  set v := e.bmca with hv
  set f : State → Nat → TimePort → TimePort := fun s p t => { t with seqAnn := ((s.tport p).seqAnn + 1) % 65536 } with hf
  set msg : State → Nat → Ptp := fun s p => { (s.tportUpd p (f s p)).ptpMsg p .announce (s.tport p).seqAnn with
    ann := some (s.tportUpd p (f s p)).ownAnn } with hmsg
  set u := forN 3 (fun p s => s.originate p (f s p) (msg s p) false) v with hu'
  obtain ⟨hgm, -, -, hseq⟩ := bmca_role e
  have heff : e.when (e.unitOn 3) State.announceOriginate = u := by
    have hports : e.time.ports = s.time.ports := by rw [he, htime]; rfl
    have hgv : v.time.isGm = true := by
      rw [hgm]
      refine bestWin_unheard e (by rw [hports]; exact unheard_ports s hs.2.1 fun q hq => hun q hq (by omega)) ?_
      exact (State.on_advance_ne dt (by decide)).trans hm
    rw [s.unitOn_elapsed dt 3, hu, State.when_true]
    exact if_pos hgv
  have hframe : Chg AnyReg AnyPart NoMem s u :=
    Chg.forN _ _ (fun p _ t ht => ht.originate trivial trivial p _ _ _) ((chg_elapsed s dt fun _ h => h).anywhere.trans (chg_bmca e).anywhere)
  refine answers_effect _ rfl heff hframe fun p hp hl => ?_
  have hring : v.ring = s.ring := e.bmca_ring.trans (s.ring_elapsed dt)
  have hlv : v.linkUp p = true := (e.linkUp_bmca hp).trans ((s.linkUp_elapsed dt hp).trans hl)
  obtain ⟨x, t, h1, -, h3, -, -, h6⟩ := originate_loop v f msg false hp (by rw [hring]; exact hs.1) hlv
  refine ⟨x, msg t p, ?_, h3, rfl, ?_, rfl⟩
  · rw [State.rp, State.seal_ring, ← State.rp, h1, State.rp, hring]
    rfl
  · change (t.tport p).seqAnn = _
    rw [h6, hseq, he, s.tport_elapsed]

/-! ### Kept corrections and timestamps -/

/-- Two-step corrections are kept for 1 s (R90). -/
theorem answers_twoStepEntryExpiry (s : State) (p : Port) (dt : Nat) (hs : Shaped s) :
    Answers (.twoStepEntryExpiry p dt) s fun t =>
      (t.tport p.idx).table = (s.tport p.idx).table.filter (fun x => Nat.blt t.time.up (x.up + secU)) ∧
      Framed timeRegs [.time, .clk, .mgmt] s t := by
  set e := s.fresh.advance dt with he
  obtain ⟨_, _, _, htime⟩ := State.advance_time s.fresh dt
  have hlen : p.idx < e.time.ports.length := by
    rw [he, htime]
    exact (portIdx_lt p).trans_eq hs.2.1.symm
  set u := e.tportUpd p.idx (fun t => { t with table := t.table.filter (fun x => Nat.blt e.time.up (x.up + secU)) }) with hu
  have hframe : Chg (Listed timeRegs) (Parts [.time, .clk, .mgmt]) NoMem s u := (chg_elapsed_time s dt fun _ h => h).tportUpd _ _ (by simp)
  refine answers_effect (u := u) _ rfl rfl hframe ⟨?_, hframe.framed⟩
  rw [State.tport_of_time (State.seal_time s u), hu, State.tport_tportUpd_same e hlen, State.seal_time, he, s.tport_elapsed]
  rfl

/-- A read timestamp frees its entry (R93). -/
theorem answers_tsQueueEntryFree (s : State) :
    Answers .tsQueueEntryFree s fun t => t.time = { s.time with tsUsed := s.time.tsUsed - 1 } ∧ Framed [] [.time] s t := by
  have hframe : Chg (Listed []) (Parts [.time]) NoMem s (s.fresh.updTime (fun t => { t with tsUsed := t.tsUsed - 1 })) :=
    Chg.refl.fresh.updTime _ (by simp)
  exact answers_effect (u := s.fresh.updTime (fun t => { t with tsUsed := t.tsUsed - 1 })) _ rfl rfl hframe
    ⟨by rw [State.seal_time]; rfl, hframe.framed⟩

end Sys2Proof.Machine
end

section
/-! PROOFS. A new profile (R74, R76). -/

namespace Sys2Proof.Machine

/-- A profile that does not exist leaves the old one. -/
def State.ptpKind (s : State) (o : Nat) : State :=
  s.when (Nat.ble 6 (s.fld F.TIME_PTP_CFG_PROFILE)) (fun s => s.set F.TIME_PTP_CFG_PROFILE (F.TIME_PTP_CFG_PROFILE.of o))

/-- The transport as the profile reads it, and a slave where the configuration is the default. -/
def State.ptpForm (s : State) (o p : Nat) : State :=
  let s := s.when (s.fld F.TIME_PTP_CFG_TRANSPORT == 3) (fun s => s.set F.TIME_PTP_CFG_TRANSPORT (F.TIME_PTP_CFG_TRANSPORT.of o))
  let s := s.keep F.TIME_PTP_CFG_TRANSPORT (profileTransport p (s.fld F.TIME_PTP_CFG_TRANSPORT))
  s.when (s.on F.SYS_STATUS_CFG_DEFAULT) (fun s => s.keep F.TIME_PTP_CFG_SLAVE_ONLY 1)

/-- A new profile's domain and intervals. -/
def State.ptpValues (s : State) (p : Nat) : State :=
  let s := s.set F.TIME_PTP_CFG_DOMAIN (profileDomain p)
  let s := s.set F.TIME_PTP_INTV_LOG_SYNC (unsgn 8 (profileSync p).1)
  let s := s.set F.TIME_PTP_INTV_LOG_ANNOUNCE (unsgn 8 (profileAnn p).1)
  s.set F.TIME_PTP_INTV_LOG_DELAY (unsgn 8 (profileDelay p).1)

/-- The new profile waits for the next Sync interval. -/
def State.ptpAwaits (s : State) : State := (s.updTime (fun t => { t with profilePend := true })).twinAbandon

theorem State.ptpAwaits_reg (s : State) (a : Nat) : s.ptpAwaits.reg a = s.reg a := by
  have h : Chg (fun _ => False) AnyPart NoMem s s.ptpAwaits := by
    unfold State.ptpAwaits State.twinAbandon
    exact (Chg.refl.updTime _ trivial).twinUpd _ trivial
  exact h.reg a id

theorem State.ptpAwaits_pend (s : State) : s.ptpAwaits.time.profilePend = true := rfl

/-- A monitored domain that changed, or is not monitored, starts anew. -/
def State.ptpMon (s : State) (o : Nat) : State :=
  s.when (F.TIME_PTP_CFG_MON_DOMAIN.of o != s.fld F.TIME_PTP_CFG_MON_DOMAIN || !s.on F.TIME_PTP_CFG_MON_EN ||
    s.fld F.TIME_PTP_CFG_MON_DOMAIN == s.fld F.TIME_PTP_CFG_DOMAIN) (fun s => (s.wr A.TIME_MON_OFFSET 0x80000000).updTime (fun t => { t with
      monVals := [], ports := t.ports.map (fun x => { x with monAnn := none, monSync := none }) }))

/-- A new domain forgets what was heard, and a new role is compared. -/
def State.ptpHeard (s : State) (o : Nat) : State :=
  if s.fld F.TIME_PTP_CFG_DOMAIN ≠ F.TIME_PTP_CFG_DOMAIN.of o then
    (s.updTime (fun t => { t with ports := t.ports.map (fun x => { x with ann := none, rxSync := none }) })).bmca
  else if s.on F.TIME_PTP_CFG_SLAVE_ONLY ≠ (F.TIME_PTP_CFG_SLAVE_ONLY.of o != 0) then s.bmca
  else s

theorem State.ptpCfg_eq (s : State) (old : Word) :
    s.ptpCfg old = ((if (s.ptpKind old.toNat).fld F.TIME_PTP_CFG_PROFILE = F.TIME_PTP_CFG_PROFILE.of old.toNat
      then (s.ptpKind old.toNat).ptpForm old.toNat ((s.ptpKind old.toNat).fld F.TIME_PTP_CFG_PROFILE)
      else (((s.ptpKind old.toNat).ptpForm old.toNat ((s.ptpKind old.toNat).fld F.TIME_PTP_CFG_PROFILE)).ptpValues
        ((s.ptpKind old.toNat).fld F.TIME_PTP_CFG_PROFILE)).ptpAwaits).ptpMon old.toNat).ptpHeard old.toNat := rfl

/-- The profile with its domain and its intervals. -/
structure ProfileShown (p : Nat) (t : State) : Prop where
  profile : t.fld F.TIME_PTP_CFG_PROFILE = p
  domain : t.fld F.TIME_PTP_CFG_DOMAIN = profileDomain p
  sync : t.fld F.TIME_PTP_INTV_LOG_SYNC = unsgn 8 (profileSync p).1
  announce : t.fld F.TIME_PTP_INTV_LOG_ANNOUNCE = unsgn 8 (profileAnn p).1
  delay : t.fld F.TIME_PTP_INTV_LOG_DELAY = unsgn 8 (profileDelay p).1

theorem ProfileShown.kept {p : Nat} {s t : State} (h : ProfileShown p s) (hc : t.reg A.TIME_PTP_CFG = s.reg A.TIME_PTP_CFG)
    (hi : t.reg A.TIME_PTP_INTV = s.reg A.TIME_PTP_INTV) : ProfileShown p t :=
  ⟨(State.fld_eq_of_reg hc).trans h.profile, (State.fld_eq_of_reg hc).trans h.domain, (State.fld_eq_of_reg hi).trans h.sync,
    (State.fld_eq_of_reg hi).trans h.announce, (State.fld_eq_of_reg hi).trans h.delay⟩

theorem ProfileShown.awaits {p : Nat} {s : State} (h : ProfileShown p s) : ProfileShown p s.ptpAwaits :=
  h.kept (s.ptpAwaits_reg _) (s.ptpAwaits_reg _)

theorem unsgn_lt (i : Int) : unsgn 8 i < 2 ^ 8 := by
  unfold unsgn
  omega

theorem profileDomain_lt (p : Nat) : profileDomain p < 2 ^ 8 := by
  unfold profileDomain
  split <;> decide

/-- A profile's values show. -/
theorem ptpValues_shows (s : State) (p : Nat) (h : s.fld F.TIME_PTP_CFG_PROFILE = p) : ProfileShown p (s.ptpValues p) := by
  have hd : profileDomain p % 2 ^ F.TIME_PTP_CFG_DOMAIN.width = profileDomain p := Nat.mod_eq_of_lt (profileDomain_lt p)
  have hs : unsgn 8 (profileSync p).1 % 2 ^ F.TIME_PTP_INTV_LOG_SYNC.width = unsgn 8 (profileSync p).1 := Nat.mod_eq_of_lt (unsgn_lt _)
  have ha : unsgn 8 (profileAnn p).1 % 2 ^ F.TIME_PTP_INTV_LOG_ANNOUNCE.width = unsgn 8 (profileAnn p).1 := Nat.mod_eq_of_lt (unsgn_lt _)
  have hl : unsgn 8 (profileDelay p).1 % 2 ^ F.TIME_PTP_INTV_LOG_DELAY.width = unsgn 8 (profileDelay p).1 := Nat.mod_eq_of_lt (unsgn_lt _)
  unfold State.ptpValues
  dsimp only
  constructor
  · simp (disch := decide) only [State.fld_set_free, h]
  · simp (disch := decide) only [State.fld_set_free, State.fld_set_same, hd]
  · simp (disch := decide) only [State.fld_set_free, State.fld_set_same, hs]
  · simp (disch := decide) only [State.fld_set_free, State.fld_set_same, ha]
  · simp (disch := decide) only [State.fld_set_same, hl]

theorem fld_when_of (b : Bool) {s : State} {f : State → State} {g : Fld} {v : Nat} (hs : s.fld g = v) (hf : (f s).fld g = v) :
    (s.when b f).fld g = v := by
  cases b
  · exact hs
  · exact hf

theorem ptpForm_profile (s : State) (o p : Nat) (h : s.fld F.TIME_PTP_CFG_PROFILE = p) :
    (s.ptpForm o p).fld F.TIME_PTP_CFG_PROFILE = p := by
  unfold State.ptpForm
  extract_lets x y
  have hx : x.fld F.TIME_PTP_CFG_PROFILE = p := fld_when_of _ h ((State.fld_set_free _ (by decide) _).trans h)
  have hy : y.fld F.TIME_PTP_CFG_PROFILE = p := (State.fld_keep_free _ (by decide) _).trans hx
  exact fld_when_of _ hy ((State.fld_keep_free _ (by decide) _).trans hy)

theorem newProfile_shows (s : State) (o p : Nat) (h : s.fld F.TIME_PTP_CFG_PROFILE = p) :
    ProfileShown p (((s.ptpForm o p).ptpValues p).ptpAwaits) := by
  exact (ptpValues_shows _ p (ptpForm_profile s o p h)).awaits

/-- The registers a new role or monitored domain changes. -/
def PtpPast (a : Nat) : Prop := a ≠ A.TIME_PTP_CFG ∧ a ≠ A.TIME_PTP_INTV

theorem bmcaReg_past {a : Nat} (h : BmcaReg a) : PtpPast a := by
  unfold PtpPast
  rcases h with h | h
  · simp only [A.TIME_PTP_CFG, A.TIME_PTP_INTV]
    omega
  · simp only [List.mem_cons, List.not_mem_nil, or_false] at h
    rcases h with h | h | h | h | h | h <;> subst h <;> decide

theorem Chg.ptpHeard {P : Part → Prop} {M : Nat → Prop} {s t : State} (h : Chg PtpPast P M s t) (ht : P .time) (hp : ClockParts P) (o : Nat) :
    Chg PtpPast P M s ((t.ptpMon o).ptpHeard o) := by
  have hb (u : State) (hu : Chg PtpPast P M s u) : Chg PtpPast P M s u.bmca :=
    hu.trans ((Chg.bmca ht hp Chg.refl).mono (fun _ => bmcaReg_past) (fun _ h => h) fun _ h => h)
  have hm : Chg PtpPast P M s (t.ptpMon o) := h.when _ _ fun _ => (h.wr _ _ (by unfold PtpPast; decide)).updTime _ ht
  unfold State.ptpHeard
  exact Chg.ite (fun _ => hb _ (hm.updTime _ ht)) fun _ => Chg.ite (fun _ => hb _ hm) fun _ => hm

theorem ptpHeard_pend (s : State) (o : Nat) (h : s.time.profilePend = true) : ((s.ptpMon o).ptpHeard o).time.profilePend = true := by
  have hm : (s.ptpMon o).time.profilePend = true := by
    unfold State.ptpMon State.when
    split
    · exact h
    · exact h
  unfold State.ptpHeard
  split
  · rw [(bmca_role _).2.1]
    exact hm
  split
  · rw [(bmca_role _).2.1]
    exact hm
  · exact hm

theorem ptpCfg_stores : StoresEverywhere A.TIME_PTP_CFG := fun v => by cases v <;> decide

/-- A new profile brings its domain and its intervals (R74, R76). -/
theorem answers_ptpCfgWrite (s : State) (m : Master) (priv : Bool) (w : Word) (hd : Direct s m priv A.TIME_PTP_CFG)
    (hr : AsItReads s A.TIME_PTP_CFG w) (h5 : F.TIME_PTP_CFG_PROFILE.of w.toNat ≤ 5)
    (hne : F.TIME_PTP_CFG_PROFILE.of w.toNat ≠ s.fld F.TIME_PTP_CFG_PROFILE) :
    Answers (.ptpCfgWrite (whole m priv w)) s fun t =>
      t.fld F.TIME_PTP_CFG_PROFILE = F.TIME_PTP_CFG_PROFILE.of w.toNat ∧
      t.fld F.TIME_PTP_CFG_DOMAIN = profileDomain (F.TIME_PTP_CFG_PROFILE.of w.toNat) ∧
      t.fld F.TIME_PTP_INTV_LOG_SYNC = unsgn 8 (profileSync (F.TIME_PTP_CFG_PROFILE.of w.toNat)).1 ∧
      t.fld F.TIME_PTP_INTV_LOG_ANNOUNCE = unsgn 8 (profileAnn (F.TIME_PTP_CFG_PROFILE.of w.toNat)).1 ∧
      t.fld F.TIME_PTP_INTV_LOG_DELAY = unsgn 8 (profileDelay (F.TIME_PTP_CFG_PROFILE.of w.toNat)).1 ∧
      t.time.profilePend = true ∧ MemKept s t := by
  set p := F.TIME_PTP_CFG_PROFILE.of w.toNat with hp
  set o := (s.reg A.TIME_PTP_CFG).toNat with ho
  set e := s.fresh.wr A.TIME_PTP_CFG w.toNat with he
  have hprof : e.fld F.TIME_PTP_CFG_PROFILE = p := State.fld_wr_word s.fresh _ w rfl
  have hne' : ¬ p = F.TIME_PTP_CFG_PROFILE.of o := hne
  have hregne : s.reg A.TIME_PTP_CFG ≠ w := fun h => hne (by rw [hp, State.fld, State.rd, h])
  have hkind : e.ptpKind o = e := by
    have h6 : Nat.ble 6 p = false := by
      rw [← Bool.not_eq_true, Nat.ble_eq]
      omega
    rw [State.ptpKind, hprof, h6, State.when_false]
  set x := (((e.ptpForm o p).ptpValues p).ptpAwaits) with hx
  set u := (x.ptpMon o).ptpHeard o with hu
  have heff : s.fresh.words A.TIME_PTP_CFG (whole m priv w) = u := by
    have hreg : e.regEffect m (s.masterPriv m priv) A.TIME_PTP_CFG (s.reg A.TIME_PTP_CFG) 0 = e.ptpCfg (s.reg A.TIME_PTP_CFG) := rfl
    rw [hd.stores hr ptpCfg_stores hregne, hreg, State.ptpCfg_eq, ← ho, hkind, hprof, if_neg hne']
  have hshow : ProfileShown p x := newProfile_shows e o p hprof
  have hheard : Chg PtpPast (Parts [.time, .clk, .mgmt, .tdm]) NoMem x u := Chg.ptpHeard Chg.refl (by simp) ⟨by simp, by simp, by simp⟩ o
  have hall : Chg AnyReg AnyPart NoMem s u := by
    have hf : Chg AnyReg AnyPart NoMem s (e.ptpForm o p) := by
      have h1 : Chg AnyReg AnyPart NoMem s e := Chg.refl.fresh.wr _ _ trivial
      unfold State.ptpForm
      exact ((h1.when _ _ fun _ => h1.set _ _ trivial).keep _ _ trivial).when _ _ fun _ =>
        ((h1.when _ _ fun _ => h1.set _ _ trivial).keep _ _ trivial).keep _ _ trivial
    have hv : Chg AnyReg AnyPart NoMem s x := by
      rw [hx]
      unfold State.ptpAwaits State.twinAbandon State.ptpValues
      exact (((((hf.set _ _ trivial).set _ _ trivial).set _ _ trivial).set _ _ trivial).updTime _ trivial).twinUpd _ trivial
    exact hv.trans hheard.anywhere
  have hsealed : ProfileShown p (s.seal u) :=
    hshow.kept ((State.reg_seal _ _ (by decide)).trans (hheard.reg _ fun h => h.1 rfl))
      ((State.reg_seal _ _ (by decide)).trans (hheard.reg _ fun h => h.2 rfl))
  refine answers_effect _ rfl heff hall ⟨hsealed.profile, hsealed.domain, hsealed.sync, hsealed.announce, hsealed.delay, ?_, hall.memKept⟩
  rw [State.seal_time]
  exact ptpHeard_pend x o (State.ptpAwaits_pend _)

/-- Settles O24, clause by clause: the loss of the master, delay requests, Syncs, Announces, kept corrections, timestamps, profiles. -/
theorem ptpMessages : Obligations.PtpMessages :=
  ⟨answers_announceReceiptTimeout, answers_pdelayReqTimer, answers_delayReqTimer, answers_syncOriginate, answers_announceOriginate,
    answers_twoStepEntryExpiry, answers_tsQueueEntryFree, answers_ptpCfgWrite⟩

end Sys2Proof.Machine
end

section
/-! PROOFS. Twin-path timing (R97 to R101). -/

namespace Sys2Proof.Machine

theorem State.on_of_fld {s : State} {f : Fld} (h : s.fld f = 1) : s.on f = true := congrArg (· != 0) h

theorem Chg.on {R : Nat → Prop} {P : Part → Prop} {M : Nat → Prop} {s t : State} {g : Fld} (h : Chg R P M s t) (hg : ¬ R g.adr) : t.on g = s.on g :=
  congrArg (· != 0) (h.fld hg)

/-! ### Windows (R97) -/

/-- The path that a valid d lets the module follow (R98, R102). -/
def State.follow (s : State) (c dd : Int) : State :=
  let whole := s.on F.TIME_TWIN_STATUS_WHOLE
  let healed := s.time.twin.healing && whole
  let choose := healed || !s.time.twin.chosen || s.fld F.TIME_TWIN_STATUS_PREF_PATH == 0
  let pref := if choose then s.twinPref else s.fld F.TIME_TWIN_STATUS_PREF_PATH - 1
  let s := (s.set F.TIME_TWIN_STATUS_PREF_PATH (pref + 1)).twinUpd (fun w => { w with
    chosen := true, healing := w.healing && !healed })
  let moves := s.fld F.TIME_TWIN_STATUS_IN_USE != pref + 1 || c != 0
  let s := s.when (whole && moves) (fun s => s.twinMove pref c dd)
  s.when healed (fun s => s.event F.TIME_EVT_TWIN_HEALED)

/-- A valid d is stored. -/
def State.learned (s : State) (d : Int) : State :=
  (((s.wr A.TIME_TWIN_D (unsgn 32 d)).set F.TIME_TWIN_STATUS_D_VALID 1).event F.TIME_EVT_TWIN_LEARNED).follow s.twinC (d * nsU)

/-- The next window starts. -/
def State.nextWindow (s : State) : State :=
  s.twinUpd (fun w => { w with
    running := true, startUp := s.time.up, samples := [], corrA := 0, corrAN := 0, corrB := 0, corrBN := 0 })

theorem State.windowEnd_some {s : State} {d : Int} (h : s.time.twin.running = true) (hd : s.windowD = some d) :
    s.windowEnd = (s.learned d).nextWindow := by
  unfold State.windowEnd
  rw [h, hd]
  rfl

theorem State.windowEnd_none {s : State} (h : s.time.twin.running = true) (hd : s.windowD = none) : s.windowEnd = s.nextWindow := by
  unfold State.windowEnd
  rw [h, hd]
  rfl

theorem State.nextWindow_starts (s : State) :
    s.nextWindow.time.twin.running = true ∧ s.nextWindow.time.twin.samples = [] ∧ s.nextWindow.time.twin.startUp = s.nextWindow.time.up :=
  ⟨rfl, rfl, rfl⟩

theorem Chg.nextWindow {R : Nat → Prop} {P : Part → Prop} {M : Nat → Prop} {s t : State} (h : Chg R P M s t) (hp : P .time) :
    Chg R P M s t.nextWindow := h.twinUpd _ hp

theorem Chg.jump {R : Nat → Prop} {P : Part → Prop} {M : Nat → Prop} {s t : State} (h : Chg R P M s t) (hp : P .time) (off : Int) :
    Chg R P M s (t.jumpOffset off) := h.time _ hp

theorem Chg.twinMove {R : Nat → Prop} {P : Part → Prop} {M : Nat → Prop} {s t : State} (h : Chg R P M s t) (ha : R A.TIME_TWIN_STATUS)
    (hp : P .time) (dst : Nat) (c d : Int) : Chg R P M s (t.twinMove dst c d) := by
  have h2 := (h.set F.TIME_TWIN_STATUS_IN_USE (dst + 1) ha).set F.TIME_TWIN_STATUS_CORR 0 ha
  unfold State.twinMove
  exact Chg.ite (fun _ => h2) fun _ => h2.jump hp _

theorem State.fld_jumpOffset (s : State) (off : Int) (f : Fld) : (s.jumpOffset off).fld f = s.fld f :=
  (Chg.refl.jump (P := AnyPart) trivial off : Chg (fun _ => False) AnyPart NoMem s (s.jumpOffset off)).fld id

theorem State.fld_twinUpd (s : State) (g : Twin → Twin) (f : Fld) : (s.twinUpd g).fld f = s.fld f :=
  (Chg.refl.twinUpd (P := AnyPart) g trivial : Chg (fun _ => False) AnyPart NoMem s (s.twinUpd g)).fld id

theorem State.fld_twinMove_free (s : State) (dst : Nat) (c d : Int) {f : Fld} (h1 : Fld.free F.TIME_TWIN_STATUS_IN_USE f = true)
    (h2 : Fld.free F.TIME_TWIN_STATUS_CORR f = true) : (s.twinMove dst c d).fld f = s.fld f := by
  have h := (State.fld_set_free (s.set F.TIME_TWIN_STATUS_IN_USE (dst + 1)) h2 0).trans (s.fld_set_free h1 (dst + 1))
  unfold State.twinMove
  dsimp only
  split
  · exact h
  · exact (State.fld_jumpOffset _ _ _).trans h

/-- The path in use after a move. -/
theorem State.twinMove_shows (s : State) {dst : Nat} (hd : dst < 3) (c d : Int) (h0 : s.fld F.TIME_TWIN_STATUS_IN_USE ≠ 0) :
    (s.twinMove dst c d).fld F.TIME_TWIN_STATUS_IN_USE = dst + 1 ∧ (s.twinMove dst c d).fld F.TIME_TWIN_STATUS_CORR = 0 ∧
    (s.twinMove dst c d).time.jumps.length = s.time.jumps.length + 1 := by
  have he : s.twinMove dst c d = ((s.set F.TIME_TWIN_STATUS_IN_USE (dst + 1)).set F.TIME_TWIN_STATUS_CORR 0).jumpOffset
      (moveOffset c d (s.fld F.TIME_TWIN_STATUS_IN_USE - 1) dst) := if_neg h0
  have hdst : (dst + 1) % 2 ^ F.TIME_TWIN_STATUS_IN_USE.width = dst + 1 := Nat.mod_eq_of_lt (show dst + 1 < 4 by omega)
  rw [he]
  refine ⟨?_, ?_, ?_⟩
  · rw [State.fld_jumpOffset, State.fld_set_free _ (by decide), State.fld_set_same _ (by decide), hdst]
  · rw [State.fld_jumpOffset, State.fld_set_same _ (by decide)]
    rfl
  · rw [State.jumpOffset, State.jump, List.length_append]
    rw [State.set_time, State.set_time]
    rfl

theorem Chg.follow {R : Nat → Prop} {P : Part → Prop} {M : Nat → Prop} {s t : State} (h : Chg R P M s t) (ha : R A.TIME_TWIN_STATUS)
    (he : R A.TIME_EVT) (hp : P .time) (c dd : Int) : Chg R P M s (t.follow c dd) := by
  have h1 (v : Nat) (g : Twin → Twin) := (h.set F.TIME_TWIN_STATUS_PREF_PATH v ha).twinUpd g hp
  have h2 (v : Nat) (g : Twin → Twin) (b : Bool) (dst : Nat) := (h1 v g).when b (fun s => s.twinMove dst c dd) fun _ => (h1 v g).twinMove ha hp dst c dd
  unfold State.follow
  exact (h2 _ _ _ _).when _ _ fun _ => (h2 _ _ _ _).event _ he

theorem State.fld_follow (s : State) (c dd : Int) {f : Fld} (h1 : Fld.free F.TIME_TWIN_STATUS_IN_USE f = true)
    (h2 : Fld.free F.TIME_TWIN_STATUS_CORR f = true) (h3 : Fld.free F.TIME_TWIN_STATUS_PREF_PATH f = true)
    (h4 : Fld.free F.TIME_EVT_TWIN_HEALED f = true) : (s.follow c dd).fld f = s.fld f := by
  unfold State.follow
  extract_lets whole healed choose pref x moves y
  have hx : x.fld f = s.fld f := (State.fld_twinUpd _ _ _).trans (s.fld_set_free h3 _)
  have hy : y.fld f = s.fld f := fld_when_of _ hx ((State.fld_twinMove_free _ _ _ _ h1 h2).trans hx)
  exact fld_when_of _ hy ((State.fld_event_free _ h4).trans hy)

theorem learned_shows (s : State) (d : Int) : (s.learned d).rd A.TIME_TWIN_D = unsgn 32 d ∧ (s.learned d).on F.TIME_TWIN_STATUS_D_VALID = true ∧
    (s.learned d).on F.TIME_EVT_TWIN_LEARNED = true := by
  have hd : unsgn 32 d < 2 ^ 32 := by
    unfold unsgn
    omega
  set x := ((s.wr A.TIME_TWIN_D (unsgn 32 d)).set F.TIME_TWIN_STATUS_D_VALID 1).event F.TIME_EVT_TWIN_LEARNED with hx
  have hchg : Chg (fun a => a = A.TIME_TWIN_STATUS ∨ a = A.TIME_EVT) AnyPart NoMem x (s.learned d) :=
    Chg.refl.follow (.inl rfl) (.inr rfl) trivial _ _
  refine ⟨(State.rd_eq_of_reg (hchg.reg _ (by decide))).trans ?_, State.on_of_fld ?_, State.on_of_fld ?_⟩
  · rw [hx, State.rd_event_ne (by decide), State.rd_set_ne _ (by decide), State.rd_wr_same, Nat.mod_eq_of_lt hd]
  · refine (State.fld_follow _ _ _ (by decide) (by decide) (by decide) (by decide)).trans ((State.fld_event_free _ (by decide)).trans ?_)
    exact State.fld_set_same _ (by decide) _
  · refine (State.fld_follow _ _ _ (by decide) (by decide) (by decide) (by decide)).trans ?_
    exact State.fld_set_same _ (by decide) _

theorem Chg.learned {R : Nat → Prop} {P : Part → Prop} {M : Nat → Prop} {s t : State} (h : Chg R P M s t) (hd : R A.TIME_TWIN_D)
    (ha : R A.TIME_TWIN_STATUS) (he : R A.TIME_EVT) (hp : P .time) (d : Int) : Chg R P M s (t.learned d) :=
  Chg.follow (((h.wr _ _ hd).set _ _ ha).event _ he) ha he hp _ _

theorem State.twin_elapsed (s : State) (dt : Nat) : (s.fresh.advance dt).time.twin = s.time.twin := by
  obtain ⟨tb, sl, acc, h⟩ := s.fresh.advance_time dt
  rw [h]
  rfl

/-- A window of a valid mean stores d and starts the next (R97). -/
theorem answers_twinWindowEnd_valid (s : State) (dt : Nat) (d : Int) (hrun : s.time.twin.running = true) (hd : (s.advance dt).windowD = some d) :
    Answers (.twinWindowEnd dt) s fun t =>
      t.rd A.TIME_TWIN_D = unsgn 32 d ∧ t.on F.TIME_TWIN_STATUS_D_VALID = true ∧ t.on F.TIME_EVT_TWIN_LEARNED = true ∧
      t.time.twin.running = true ∧ t.time.twin.samples = [] ∧ t.time.twin.startUp = t.time.up ∧ MemKept s t := by
  set e := s.fresh.advance dt with he
  have hde : e.windowD = some d := by rw [he, State.advance_fresh]; exact hd
  have heff : e.windowEnd = (e.learned d).nextWindow := State.windowEnd_some ((congrArg Twin.running (s.twin_elapsed dt)).trans hrun) hde
  obtain ⟨h1, h2, h3⟩ := learned_shows e d
  have hnext : Chg (fun _ => False) AnyPart NoMem (e.learned d) (e.learned d).nextWindow := Chg.refl.nextWindow trivial
  have hall : Chg AnyReg AnyPart NoMem s (e.learned d).nextWindow :=
    ((chg_elapsed_time s dt (fun _ h => h)).anywhere.learned trivial trivial trivial trivial d).nextWindow trivial
  refine answers_effect _ rfl heff hall ⟨?_, ?_, ?_, ?_, ?_, ?_, hall.memKept⟩
  · exact ((State.rd_seal _ _ (by decide)).trans (State.rd_eq_of_reg (hnext.reg _ id))).trans h1
  · exact (State.on_seal _ _ (by decide)).trans ((hnext.on id).trans h2)
  · exact (State.on_seal _ _ (by decide)).trans ((hnext.on id).trans h3)
  all_goals rw [State.seal_time]; rfl

/-- A window of no valid mean leaves d and starts the next (R97). -/
theorem answers_twinWindowEnd_invalid (s : State) (dt : Nat) (hrun : s.time.twin.running = true) (hd : (s.advance dt).windowD = none) :
    Answers (.twinWindowEnd dt) s fun t =>
      t.time.twin.running = true ∧ t.time.twin.samples = [] ∧ t.time.twin.startUp = t.time.up ∧
      Framed timeRegs [.time, .clk, .mgmt] s t := by
  set e := s.fresh.advance dt with he
  have hde : e.windowD = none := by rw [he, State.advance_fresh]; exact hd
  have heff : e.windowEnd = e.nextWindow := State.windowEnd_none ((congrArg Twin.running (s.twin_elapsed dt)).trans hrun) hde
  have hall : Chg (Listed timeRegs) (Parts [.time, .clk, .mgmt]) NoMem s e.nextWindow :=
    (chg_elapsed_time s dt (fun _ h => h)).nextWindow (by simp)
  refine answers_effect _ rfl heff hall ⟨?_, ?_, ?_, hall.framed⟩
  all_goals rw [State.seal_time]; rfl

/-! ### A lost path (R99 to R101) -/

/-- A ring direction's Sync is lost, and the window with it. -/
def State.pathGone (s : State) (p : Nat) : State :=
  ((s.tportUpd p (fun t => { t with lost := true, lastSync := none, rxSync := none })).twinAbandon).twinFlags

theorem State.fld_twinFlags (s : State) {f : Fld} (h1 : Fld.free F.TIME_TWIN_STATUS_ACTIVE f = true)
    (h2 : Fld.free F.TIME_TWIN_STATUS_WHOLE f = true) : s.twinFlags.fld f = s.fld f :=
  (State.fld_keep_free _ h2 _).trans (State.fld_keep_free _ h1 _)

theorem State.twinFlags_time (s : State) : s.twinFlags.time = s.time :=
  ((Chg.refl.keep _ _ (by simp)).keep _ _ (by simp) : Chg (Listed [A.TIME_TWIN_STATUS]) (Parts []) NoMem s s.twinFlags).part .time (by simp)

theorem Chg.pathGone {R : Nat → Prop} {P : Part → Prop} {M : Nat → Prop} {s t : State} (h : Chg R P M s t) (ha : R A.TIME_TWIN_STATUS)
    (hp : P .time) (p : Nat) : Chg R P M s (t.pathGone p) :=
  Chg.keep (Chg.keep ((h.tportUpd p _ hp).twinUpd _ hp) _ _ ha) _ _ ha

theorem State.fld_pathGone (s : State) (p : Nat) {f : Fld} (h1 : Fld.free F.TIME_TWIN_STATUS_ACTIVE f = true)
    (h2 : Fld.free F.TIME_TWIN_STATUS_WHOLE f = true) : (s.pathGone p).fld f = s.fld f := by
  refine (State.fld_twinFlags _ h1 h2).trans ?_
  exact ((Chg.refl.tportUpd p _ trivial).twinUpd _ trivial : Chg (fun _ => False) AnyPart NoMem s
    (s.tportUpd p (fun t => { t with lost := true, lastSync := none, rxSync := none })).twinAbandon).fld id

theorem State.on_pathGone (s : State) (p : Nat) {f : Fld} (h1 : Fld.free F.TIME_TWIN_STATUS_ACTIVE f = true)
    (h2 : Fld.free F.TIME_TWIN_STATUS_WHOLE f = true) : (s.pathGone p).on f = s.on f := congrArg (· != 0) (s.fld_pathGone p h1 h2)

theorem State.pathLive_of_time {s t : State} {p : Nat} (h : t.tport p = s.tport p) : t.pathLive p = s.pathLive p := by
  rw [State.pathLive, h, State.pathLive]

theorem State.pathLive_pathGone (s : State) {p q : Nat} (h : q ≠ p) : (s.pathGone p).pathLive q = s.pathLive q :=
  State.pathLive_of_time ((State.tport_of_time (State.twinFlags_time _) q).trans (State.tport_tportUpd_ne s h _))

theorem State.pathGone_time (s : State) (p : Nat) : (s.pathGone p).time.twin.running = false ∧ (s.pathGone p).time.tb = s.time.tb := by
  rw [State.pathGone, State.twinFlags_time]
  exact ⟨rfl, rfl⟩

/-- The module changes over to the other path, corrected by d (R99). -/
def State.failover (s : State) (p : Nat) : State :=
  let back := s.on F.TIME_TWIN_STATUS_CORR
  let s := (s.set F.TIME_TWIN_STATUS_IN_USE (otherP p + 1)).setB F.TIME_TWIN_STATUS_CORR (!back)
  (s.event F.TIME_EVT_TWIN_FAILOVER).log 4 2 1 [s.rd A.TIME_TWIN_D]

/-- Without a d the module changes over uncorrected (R101). -/
def State.changeUncorrected (s : State) (p : Nat) : State :=
  let s := (s.set F.TIME_TWIN_STATUS_IN_USE (otherP p + 1)).set F.TIME_TWIN_STATUS_CORR 0
  (s.event F.TIME_EVT_TWIN_NO_D).updTime (fun t => { t with firstPath := true })

/-- The ring waits to heal. -/
def State.toHeal (s : State) : State := s.twinUpd (fun w => { w with healing := true })

theorem State.pathLost_inUse {s : State} {p : Nat} (hl : (s.tport p).lost = false) (hen : s.on F.TIME_TWIN_CFG_EN = true)
    (hu : s.fld F.TIME_TWIN_STATUS_IN_USE = p + 1) (hlive : s.pathLive (otherP p) = true) (hne : otherP p ≠ p) :
    s.pathLost p = if s.on F.TIME_TWIN_STATUS_D_VALID then (s.pathGone p).toHeal.failover p else (s.pathGone p).toHeal.changeUncorrected p := by
  have h1 : (s.pathGone p).on F.TIME_TWIN_CFG_EN = true := (s.on_pathGone p (by decide) (by decide)).trans hen
  have h2 : (s.pathGone p).fld F.TIME_TWIN_STATUS_IN_USE = p + 1 := (s.fld_pathGone p (by decide) (by decide)).trans hu
  have h3 : (s.pathGone p).pathLive (otherP p) = true := (s.pathLive_pathGone hne).trans hlive
  have h4 : (s.pathGone p).toHeal.on F.TIME_TWIN_STATUS_D_VALID = s.on F.TIME_TWIN_STATUS_D_VALID :=
    (congrArg (· != 0) (State.fld_twinUpd _ _ _)).trans (s.on_pathGone p (by decide) (by decide))
  have he : s.pathLost p = if (s.tport p).lost then s else
      if (s.pathGone p).on F.TIME_TWIN_CFG_EN then
        if (s.pathGone p).fld F.TIME_TWIN_STATUS_IN_USE = p + 1 then
          if (s.pathGone p).pathLive (otherP p) then
            if (s.pathGone p).toHeal.on F.TIME_TWIN_STATUS_D_VALID then (s.pathGone p).toHeal.failover p else (s.pathGone p).toHeal.changeUncorrected p
          else (((s.pathGone p).set F.TIME_TWIN_STATUS_IN_USE 0).set F.TIME_TWIN_STATUS_CORR 0).when
            ((((s.pathGone p).set F.TIME_TWIN_STATUS_IN_USE 0).set F.TIME_TWIN_STATUS_CORR 0).fld (F.CLK_REF_INFO_STATE 1) == 1 ||
              (((s.pathGone p).set F.TIME_TWIN_STATUS_IN_USE 0).set F.TIME_TWIN_STATUS_CORR 0).qualified 1) (fun s => s.disqualify 1 8)
        else (s.pathGone p).toHeal.when (p == 1 && ((s.pathGone p).toHeal.fld (F.CLK_REF_INFO_STATE 2) == 1 || (s.pathGone p).toHeal.qualified 2))
          (fun s => s.disqualify 2 8)
      else (s.pathGone p).when ((s.pathGone p).fld (F.CLK_REF_INFO_STATE (p + 1)) == 1 || (s.pathGone p).qualified (p + 1))
        (fun s => s.disqualify (p + 1) 8) := rfl
  rw [he, hl, h1, h2, h3, h4, if_neg Bool.false_ne_true, if_pos rfl, if_pos rfl, if_pos rfl]

/-- The path's number of a ring port. -/
theorem otherP_toNat (b : Bool) : otherP b.toNat = 1 - b.toNat ∧ otherP b.toNat ≠ b.toNat ∧ otherP b.toNat + 1 = 2 - b.toNat ∧ otherP b.toNat + 1 < 4 := by
  cases b <;> decide

theorem lostPath (s : State) (b : Bool) : s.pathLost (if b then 1 else 0) = s.pathLost b.toNat := by cases b <;> rfl

section
variable (s : State) (b : Bool) (hl : (s.tport b.toNat).lost = false) (hen : s.on F.TIME_TWIN_CFG_EN = true)
  (hu : s.fld F.TIME_TWIN_STATUS_IN_USE = b.toNat + 1) (hlive : s.pathLive (1 - b.toNat) = true)
include hl hen hu hlive

/-- A lost path in use changes over, corrected by d (R99). -/
theorem answers_twinPathLoss_valid (hd : s.on F.TIME_TWIN_STATUS_D_VALID = true) :
    Answers (.twinPathLoss b) s fun t =>
      t.fld F.TIME_TWIN_STATUS_IN_USE = 2 - b.toNat ∧ t.on F.TIME_TWIN_STATUS_CORR = !s.on F.TIME_TWIN_STATUS_CORR ∧
      t.on F.TIME_EVT_TWIN_FAILOVER = true ∧ t.time.twin.running = false ∧ t.time.tb = s.time.tb ∧
      Framed [A.TIME_TWIN_STATUS, A.TIME_EVT, A.MGMT_EVT] [.time, .mgmt] s t := by
  obtain ⟨ho, hne, hv, hv4⟩ := otherP_toNat b
  set x := (s.fresh.pathGone b.toNat).toHeal with hx
  have heff : s.fresh.pathLost (if b then 1 else 0) = x.failover b.toNat := by
    rw [lostPath, State.pathLost_inUse (s := s.fresh) hl hen hu (show s.pathLive _ = true by rw [ho]; exact hlive) hne]
    exact if_pos hd
  set y := (x.set F.TIME_TWIN_STATUS_IN_USE (otherP b.toNat + 1)).setB F.TIME_TWIN_STATUS_CORR (!x.on F.TIME_TWIN_STATUS_CORR) with hy
  have hcorr : x.on F.TIME_TWIN_STATUS_CORR = s.on F.TIME_TWIN_STATUS_CORR :=
    (congrArg (· != 0) (State.fld_twinUpd _ _ _)).trans (s.fresh.on_pathGone _ (by decide) (by decide))
  have hframe : Chg (Listed [A.TIME_TWIN_STATUS, A.TIME_EVT, A.MGMT_EVT]) (Parts [.time, .mgmt]) NoMem s (x.failover b.toNat) :=
    ((Chg.setB (((Chg.refl.fresh.pathGone (by simp) (by simp) _).twinUpd _ (by simp)).set _ _ (by simp)) _ _ (by simp)).event _ (by simp)).log
      _ _ _ _ (by simp) (by simp)
  have hlog : Chg (fun a => a = A.MGMT_EVT) (· = .mgmt) NoMem (y.event F.TIME_EVT_TWIN_FAILOVER) (x.failover b.toNat) :=
    Chg.refl.log _ _ _ _ rfl rfl
  have htime : (x.failover b.toNat).time = x.time := by
    rw [hlog.part .time (by decide), State.event_time, hy]
    exact (State.setB_time _ _ _).trans (State.set_time _ _ _)
  refine answers_effect _ rfl heff hframe ⟨?_, ?_, ?_, ?_, ?_, hframe.framed⟩
  · rw [State.fld_seal _ _ (by decide), hlog.fld (by decide), State.fld_event_free _ (by decide), hy, State.fld_setB_free _ (by decide),
      State.fld_set_same _ (by decide), ← hv]
    exact Nat.mod_eq_of_lt hv4
  · rw [State.on_seal _ _ (by decide), hlog.on (by decide), State.on_event_free _ (by decide), hy, State.on_setB_same _ (by decide), hcorr]
  · rw [State.on_seal _ _ (by decide), hlog.on (by decide), State.on_event_same _ (by decide)]
  · rw [State.seal_time, htime]
    exact (s.fresh.pathGone_time _).1
  · rw [State.seal_time, htime]
    exact (s.fresh.pathGone_time _).2

/-- Without a d a lost path in use changes over uncorrected (R101). -/
theorem answers_twinPathLoss_invalid (hd : s.on F.TIME_TWIN_STATUS_D_VALID = false) :
    Answers (.twinPathLoss b) s fun t =>
      t.fld F.TIME_TWIN_STATUS_IN_USE = 2 - b.toNat ∧ t.on F.TIME_TWIN_STATUS_CORR = false ∧
      t.on F.TIME_EVT_TWIN_NO_D = true ∧ t.time.firstPath = true ∧ Framed [A.TIME_TWIN_STATUS, A.TIME_EVT] [.time] s t := by
  obtain ⟨ho, hne, hv, hv4⟩ := otherP_toNat b
  set x := (s.fresh.pathGone b.toNat).toHeal with hx
  have heff : s.fresh.pathLost (if b then 1 else 0) = x.changeUncorrected b.toNat := by
    rw [lostPath, State.pathLost_inUse (s := s.fresh) hl hen hu (show s.pathLive _ = true by rw [ho]; exact hlive) hne]
    exact if_neg (fun h => Bool.false_ne_true (hd.symm.trans h))
  set y := (x.set F.TIME_TWIN_STATUS_IN_USE (otherP b.toNat + 1)).set F.TIME_TWIN_STATUS_CORR 0 with hy
  have hframe : Chg (Listed [A.TIME_TWIN_STATUS, A.TIME_EVT]) (Parts [.time]) NoMem s (x.changeUncorrected b.toNat) := by
    unfold State.changeUncorrected
    exact Chg.updTime (Chg.event (Chg.set (((Chg.refl.fresh.pathGone (by simp) (by simp) _).twinUpd _ (by simp)).set _ _ (by simp)) _ _ (by simp)) _
      (by simp)) _ (by simp)
  have hlast : Chg (fun _ => False) AnyPart NoMem (y.event F.TIME_EVT_TWIN_NO_D) (x.changeUncorrected b.toNat) := by
    unfold State.changeUncorrected
    exact Chg.refl.updTime _ trivial
  refine answers_effect _ rfl heff hframe ⟨?_, ?_, ?_, ?_, hframe.framed⟩
  · rw [State.fld_seal _ _ (by decide), hlast.fld id, State.fld_event_free _ (by decide), hy, State.fld_set_free _ (by decide),
      State.fld_set_same _ (by decide), ← hv]
    exact Nat.mod_eq_of_lt hv4
  · rw [State.on_seal _ _ (by decide), hlast.on id, State.on_event_free _ (by decide), hy, State.on_set_same _ (by decide)]
    rfl
  · rw [State.on_seal _ _ (by decide), hlast.on id, State.on_event_same _ (by decide)]
  · rw [State.seal_time]
    rfl

end

/-! ### A written preference (R98) -/

/-- The difference between the paths that a move passes through. -/
def State.pathDiff (s : State) : Int :=
  match (s.tport 0).lastSync, (s.tport 1).lastSync with
  | some (_, a, _), some (_, b, _) => if s.on F.TIME_TWIN_STATUS_D_VALID then s.twinD else b - a
  | _, _ => 0

theorem State.twinPrefWrite_eq {s : State} {p : Nat} (hp : s.fld F.TIME_TWIN_CFG_PREF = p) (h : p = 1 ∨ p = 2)
    (hw : s.on F.TIME_TWIN_STATUS_WHOLE = true) (hu : s.fld F.TIME_TWIN_STATUS_IN_USE ≠ p) :
    s.twinPrefWrite = (s.set F.TIME_TWIN_STATUS_PREF_PATH p).twinMove (p - 1) (s.set F.TIME_TWIN_STATUS_PREF_PATH p).twinC
      (s.set F.TIME_TWIN_STATUS_PREF_PATH p).pathDiff := by
  have hc : ((s.set F.TIME_TWIN_STATUS_PREF_PATH p).on F.TIME_TWIN_STATUS_WHOLE &&
      (s.set F.TIME_TWIN_STATUS_PREF_PATH p).fld F.TIME_TWIN_STATUS_IN_USE != p) = true := by
    rw [State.on_set_free _ (by decide), State.fld_set_free _ (by decide), hw, Bool.true_and, bne_iff_ne]
    exact hu
  have he : s.twinPrefWrite = if s.fld F.TIME_TWIN_CFG_PREF = 1 ∨ s.fld F.TIME_TWIN_CFG_PREF = 2 then
      (s.set F.TIME_TWIN_STATUS_PREF_PATH (s.fld F.TIME_TWIN_CFG_PREF)).when
        ((s.set F.TIME_TWIN_STATUS_PREF_PATH (s.fld F.TIME_TWIN_CFG_PREF)).on F.TIME_TWIN_STATUS_WHOLE &&
          (s.set F.TIME_TWIN_STATUS_PREF_PATH (s.fld F.TIME_TWIN_CFG_PREF)).fld F.TIME_TWIN_STATUS_IN_USE != s.fld F.TIME_TWIN_CFG_PREF)
        (fun x => x.twinMove (s.fld F.TIME_TWIN_CFG_PREF - 1) x.twinC
          (s.set F.TIME_TWIN_STATUS_PREF_PATH (s.fld F.TIME_TWIN_CFG_PREF)).pathDiff)
      else s.twinUpd (fun w => { w with chosen := false }) := rfl
  rw [he, hp, if_pos h, hc, State.when_true]

theorem twinPref_offers : Offers F.TIME_TWIN_CFG_PREF := fun v => by cases v <;> decide

/-- A written preference moves the module while the ring is whole (R98). -/
theorem answers_twinPrefWrite (s : State) (pref : Fin 4) (m : Master) (priv : Bool) (hd : Direct s m priv A.TIME_TWIN_CFG)
    (h12 : pref = 1 ∨ pref = 2) (hne : s.fld F.TIME_TWIN_CFG_PREF ≠ pref) (hw : s.on F.TIME_TWIN_STATUS_WHOLE = true)
    (h0 : s.fld F.TIME_TWIN_STATUS_IN_USE ≠ 0) (hu : s.fld F.TIME_TWIN_STATUS_IN_USE ≠ pref) :
    Answers (.twinPrefWrite pref m priv) s fun t =>
      t.fld F.TIME_TWIN_CFG_PREF = pref ∧ t.fld F.TIME_TWIN_STATUS_PREF_PATH = pref ∧ t.fld F.TIME_TWIN_STATUS_IN_USE = pref ∧
      t.on F.TIME_TWIN_STATUS_CORR = false ∧ t.time.jumps.length = s.time.jumps.length + 1 ∧
      Framed [A.TIME_TWIN_CFG, A.TIME_TWIN_STATUS] [.time] s t := by
  obtain ⟨p, hp4⟩ := pref
  have hp : p = 1 ∨ p = 2 := h12.imp Fin.val_eq_of_eq Fin.val_eq_of_eq
  simp only at hne hu ⊢
  have hmod : p % 2 ^ 2 = p := Nat.mod_eq_of_lt hp4
  set e := s.fresh.set F.TIME_TWIN_CFG_PREF p with he
  set y := e.clampF F.TIME_TWIN_CFG_LOSS_INTV 2 15 with hy
  have hyfld {f : Fld} (h1 : Fld.free F.TIME_TWIN_CFG_PREF f = true) (h2 : Fld.free F.TIME_TWIN_CFG_LOSS_INTV f = true) : y.fld f = s.fld f :=
    (State.fld_keep_free _ h2 _).trans (s.fresh.fld_set_free h1 p)
  have hypref : y.fld F.TIME_TWIN_CFG_PREF = p :=
    (State.fld_keep_free _ (by decide) _).trans ((s.fresh.fld_set_same (by decide) p).trans hmod)
  set z := y.set F.TIME_TWIN_STATUS_PREF_PATH p with hz
  have hzfld {f : Fld} (h : Fld.free F.TIME_TWIN_STATUS_PREF_PATH f = true) : z.fld f = y.fld f := y.fld_set_free h p
  set v := z.twinMove (p - 1) z.twinC z.pathDiff with hv
  have hwrite : y.twinPrefWrite = v := State.twinPrefWrite_eq hypref hp
    ((congrArg (· != 0) (hyfld (by decide) (by decide))).trans hw) fun h => hu ((hyfld (by decide) (by decide)).symm.trans h)
  have hven : v.fld F.TIME_TWIN_CFG_EN = s.fld F.TIME_TWIN_CFG_EN :=
    (State.fld_twinMove_free _ _ _ _ (by decide) (by decide)).trans ((hzfld (by decide)).trans (hyfld (by decide) (by decide)))
  have hcfg : e.twinCfg (s.reg A.TIME_TWIN_CFG) = v.twinFlags := by
    have h1 : y.chg F.TIME_TWIN_CFG_PREF (s.reg A.TIME_TWIN_CFG) = true := by
      rw [State.chg, hypref, bne_iff_ne]
      exact fun h => hne h.symm
    have h2 : v.chg F.TIME_TWIN_CFG_EN (s.reg A.TIME_TWIN_CFG) = false := by
      rw [State.chg, hven]
      exact bne_self_eq_false _
    have h3 : e.twinCfg (s.reg A.TIME_TWIN_CFG) = ((y.when (y.chg F.TIME_TWIN_CFG_PREF (s.reg A.TIME_TWIN_CFG)) State.twinPrefWrite).when
      ((y.when (y.chg F.TIME_TWIN_CFG_PREF (s.reg A.TIME_TWIN_CFG)) State.twinPrefWrite).chg F.TIME_TWIN_CFG_EN (s.reg A.TIME_TWIN_CFG))
      (fun s => (s.when (!s.on F.TIME_TWIN_CFG_EN) State.twinAbandon).twinFlags.refCtlWrite)).twinFlags := rfl
    rw [h3, h1, State.when_true, hwrite, h2, State.when_false]
  have heff : s.fresh.strikeFld m priv F.TIME_TWIN_CFG_PREF p = v.twinFlags := by
    have hreg : e.regEffect m (s.masterPriv m priv) A.TIME_TWIN_CFG (s.reg A.TIME_TWIN_CFG) 0 = e.twinCfg (s.reg A.TIME_TWIN_CFG) := rfl
    rw [Direct.strikeFld hd twinPref_offers hp4 hne, ← he, hreg, hcfg]
  have hframe : Chg (Listed [A.TIME_TWIN_CFG, A.TIME_TWIN_STATUS]) (Parts [.time]) NoMem s v.twinFlags := by
    have h1 := (((Chg.refl.fresh.set F.TIME_TWIN_CFG_PREF p (by simp)).keep F.TIME_TWIN_CFG_LOSS_INTV (clampN 2 15 (e.fld F.TIME_TWIN_CFG_LOSS_INTV))
      (by simp)).set F.TIME_TWIN_STATUS_PREF_PATH p (by simp) : Chg (Listed [A.TIME_TWIN_CFG, A.TIME_TWIN_STATUS]) (Parts [.time]) NoMem s z)
    exact Chg.keep (Chg.keep (h1.twinMove (by simp) (by simp) _ _ _) _ _ (by simp)) _ _ (by simp)
  have hzu : z.fld F.TIME_TWIN_STATUS_IN_USE ≠ 0 := by rwa [hzfld (by decide), hyfld (by decide) (by decide)]
  obtain ⟨hin, hco, hj⟩ := z.twinMove_shows (dst := p - 1) (by omega) z.twinC z.pathDiff hzu
  have hztime : z.time = s.time := by
    rw [hz, State.set_time, hy, State.clampF, State.keep_time, he, State.set_time]
    rfl
  have hflag {f : Fld} (hk : f.kept = true) (h1 : Fld.free F.TIME_TWIN_STATUS_ACTIVE f = true) (h2 : Fld.free F.TIME_TWIN_STATUS_WHOLE f = true) :
      (s.seal v.twinFlags).fld f = v.fld f := (State.fld_seal _ _ hk).trans (v.fld_twinFlags h1 h2)
  refine answers_effect _ rfl heff hframe ⟨?_, ?_, ?_, ?_, ?_, hframe.framed⟩
  · rw [hflag (by decide) (by decide) (by decide), State.fld_twinMove_free _ _ _ _ (by decide) (by decide), hzfld (by decide), hypref]
  · rw [hflag (by decide) (by decide) (by decide), State.fld_twinMove_free _ _ _ _ (by decide) (by decide), hz, State.fld_set_same _ (by decide)]
    exact hmod
  · rw [hflag (by decide) (by decide) (by decide), hin]
    omega
  · exact congrArg (· != 0) ((hflag (by decide) (by decide) (by decide)).trans hco)
  · rw [State.seal_time, State.twinFlags_time, hj, hztime]

/-- Settles O25, clause by clause: windows, a lost path with and without d, and a written preference. -/
theorem twinPaths : Obligations.TwinPaths :=
  ⟨answers_twinWindowEnd_valid, answers_twinWindowEnd_invalid, answers_twinPathLoss_valid, answers_twinPathLoss_invalid, answers_twinPrefWrite⟩

end Sys2Proof.Machine
end

section
/-! PROOFS. Edges of the edge references and their labels (R127, R129, R132). -/

namespace Sys2Proof.Machine

/-! ### The state of a reference -/

theorem State.ref_refUpd_same {s : State} {r : Nat} (hr : r < s.clk.refs.length) (f : Ref → Ref) : (s.refUpd r f).ref r = f (s.ref r) := by
  simp only [State.ref, State.refUpd, State.updClk, getAt, updAt, List.getD_eq_getElem?_getD, List.getElem?_modify_eq]
  rw [List.getElem?_eq_getElem hr]
  rfl

theorem State.ref_refUpd_ne {s : State} {r q : Nat} (h : q ≠ r) (f : Ref → Ref) : (s.refUpd r f).ref q = s.ref q := by
  simp only [State.ref, State.refUpd, State.updClk, getAt, updAt, List.getD_eq_getElem?_getD, List.getElem?_modify_ne _ _ (Ne.symm h)]

@[simp] theorem State.fld_refUpd (s : State) (r : Nat) (f : Ref → Ref) (g : Fld) : (s.refUpd r f).fld g = s.fld g := rfl
@[simp] theorem State.on_refUpd (s : State) (r : Nat) (f : Ref → Ref) (g : Fld) : (s.refUpd r f).on g = s.on g := rfl
@[simp] theorem State.time_refUpd (s : State) (r : Nat) (f : Ref → Ref) : (s.refUpd r f).time = s.time := rfl

theorem State.length_refUpd (s : State) (r : Nat) (f : Ref → Ref) : (s.refUpd r f).clk.refs.length = s.clk.refs.length :=
  List.length_modify _ _ _

theorem State.ref_of_refs {s t : State} (h : t.clk.refs = s.clk.refs) (r : Nat) : t.ref r = s.ref r := by rw [State.ref, h, State.ref]

theorem Part.Same.refs {s t : State} (h : Part.clk.Same s t) : t.clk.refs = s.clk.refs := by
  have h' : { t.clk with almLow := s.clk.almLow } = s.clk := h
  rw [← h']

theorem State.ref_seal (s u : State) (r : Nat) : (s.seal u).ref r = u.ref r := State.ref_of_refs (State.seal_clk_refs s u) r

theorem State.ref_elapsed (s : State) (dt r : Nat) : (s.fresh.advance dt).ref r = s.ref r := State.ref_of_refs (State.advance_clk_refs s.fresh dt) r

theorem State.running_elapsed (s : State) (dt : Nat) : (s.fresh.advance dt).clk.running = s.clk.running := State.advance_clk_running s.fresh dt

theorem edgeRef_code_lt (r : EdgeRef) : r.code < 8 := by cases r <;> decide
theorem refInfo_not_time (r : EdgeRef) : A.CLK_REF_INFO r.code ∉ timeRegs := by cases r <;> decide
theorem refState_kept (r : EdgeRef) : (F.CLK_REF_INFO_STATE r.code).kept = true := by cases r <;> decide
theorem refState_ok (n : Nat) : (F.CLK_REF_INFO_STATE n).ok = true := rfl
theorem refInfo_free_tod {n : Nat} (h : n = 4) : Fld.free (F.CLK_REF_INFO_STATE n) F.CLK_TOD_CFG_TOD_EN = true := by
  subst h
  decide

theorem wrongFamily_of_fld {s t : State} (h1 : t.fld (F.CLK_REF_INFO_RATE 5) = s.fld (F.CLK_REF_INFO_RATE 5))
    (h2 : t.fld F.CLK_MEDIA_CFG_RATE = s.fld F.CLK_MEDIA_CFG_RATE) : t.wrongFamily = s.wrongFamily := by
  rw [State.wrongFamily, h1, h2, State.wrongFamily]

/-! ### An edge -/

/-- An edge that came late is first missed. -/
def State.edgeMissed (s : State) (r : Nat) : State :=
  s.when ((s.ref r).tracking && Nat.blt (s.edgeAt r ((s.ref r).k + 1) + s.edgePart r 25) s.time.up) (fun s => s.missingEdge r)

/-- An edge judged against its time. -/
def State.edgeJudged (s : State) (r : Nat) : State :=
  if !(s.ref r).tracking then s.edgeAnchor r
  else if s.time.up + s.edgePart r 5 < s.edgeAt r ((s.ref r).k + 1) then s.glitch r
  else if s.time.up ≤ s.edgeAt r ((s.ref r).k + 1) + s.edgePart r 5 then s.refUpd r (fun x => { x with k := x.k + 1, missing := 0 })
  else (s.glitch r).refUpd r (fun x => { x with k := x.k + 1, missing := 0 })

/-- The phase that an edge shows. -/
def State.edgePhased (s : State) (r : Nat) (first : Bool) : State :=
  if r = 4 then s.ppsLabel first else s.refUpd r (fun x => { x with phase := s.edgePhase r })

/-- The edge is the last one. -/
def State.edgeLast (s : State) (r : Nat) : State := s.refUpd r (fun x => { x with lastEdge := some s.time.up })

theorem State.refEdge_eq {s : State} {r : Nat} (hrun : s.clk.running = true) (hlate : s.edgeMissed r = s) (hlast : (s.ref r).lastEdge = none) :
    s.refEdge r = ((s.edgeJudged r).edgePhased r true).edgeLast r := by
  have h : s.refEdge r = if !s.clk.running then s else
      (((match (((s.edgeMissed r).edgeMissed r).ref r).lastEdge with
        | none => ((s.edgeMissed r).edgeMissed r).edgeJudged r
        | some t => (((s.edgeMissed r).edgeMissed r).edgeJudged r).rateChange r ((((s.edgeMissed r).edgeMissed r).edgeJudged r).time.up - t)).edgePhased r
          (((s.edgeMissed r).edgeMissed r).ref r).lastEdge.isNone).edgeLast r) := rfl
  rw [h, hrun, hlate, hlate, hlast]
  rfl

theorem State.edgePhased_free {s : State} {r : Nat} (h : r = 4 → s.on F.CLK_TOD_CFG_TOD_EN = false) :
    s.edgePhased r true = s.refUpd r (fun x => { x with phase := s.edgePhase r }) := by
  unfold State.edgePhased State.ppsLabel
  split
  · next h4 =>
    rw [h h4, h4]
    rfl
  · rfl

/-- A reference under supervision from this edge on. -/
def State.anchored (s : State) (r : Nat) : State :=
  (((s.refUpd r (fun x => { x with tracking := true, e0 := s.time.up, k := 0, glitchAt := none, missing := 0 })).set
    (F.CLK_REF_INFO_STATE r) 1)).refUpd r (fun x => { x with since := some s.time.up })

theorem State.edgeAnchor_first {s : State} {r : Nat} (hr : r < s.clk.refs.length) (hsince : (s.ref r).since = none)
    (hsus : s.on (F.CLK_REF_INFO_SUSPECT r) = false) (hst : s.fld (F.CLK_REF_INFO_STATE r) ≠ 2) (hfam : r = 5 → s.wrongFamily = false) :
    s.edgeAnchor r = s.anchored r := by
  set y := s.refUpd r (fun x => { x with tracking := true, e0 := s.time.up, k := 0, glitchAt := none, missing := 0 }) with hy
  have h1 : ¬ (r = 5 ∧ y.wrongFamily = true) := fun ⟨h5, hw⟩ => Bool.false_ne_true ((hfam h5).symm.trans hw)
  have h2 : ¬ (y.fld (F.CLK_REF_INFO_STATE r) = 2 ∨ (y.ref r).since.isSome = true) := by
    rw [hy, State.ref_refUpd_same hr]
    dsimp only
    rw [hsince]
    rintro (h | h)
    · exact hst h
    · cases h
  have h3 : s.edgeAnchor r = if r = 5 ∧ y.wrongFamily then (if y.fld (F.CLK_REF_INFO_STATE 5) = 3 then y else y.disqualify 5 4)
      else if y.on (F.CLK_REF_INFO_SUSPECT r) then y else y.refValid r := rfl
  have h4 : y.on (F.CLK_REF_INFO_SUSPECT r) = false := hsus
  have h5 : y.refValid r = (y.set (F.CLK_REF_INFO_STATE r) 1).refUpd r (fun x => { x with since := some (y.set (F.CLK_REF_INFO_STATE r) 1).time.up }) :=
    if_neg h2
  rw [h3, if_neg h1, h4, if_neg Bool.false_ne_true, h5, State.set_time]
  rfl

theorem anchored_ref {s : State} {r : Nat} (hr : r < s.clk.refs.length) : (s.anchored r).ref r = { s.ref r with
    tracking := true, e0 := s.time.up, k := 0, glitchAt := none, missing := 0, since := some s.time.up } := by
  unfold State.anchored
  rw [State.ref_refUpd_same (by rw [State.set_clk, State.length_refUpd]; exact hr),
    State.ref_of_refs (congrArg ClkS.refs (State.set_clk _ _ _)), State.ref_refUpd_same hr]

/-- The first edge starts supervision and the qualification period (R128, R129). -/
theorem answers_refEdge_first (s : State) (r : EdgeRef) (dt : Nat) (hs : Shaped s) (hrun : s.clk.running = true)
    (htr : (s.ref r.code).tracking = false) (hsince : (s.ref r.code).since = none) (hlast : (s.ref r.code).lastEdge = none)
    (hsus : s.on (F.CLK_REF_INFO_SUSPECT r.code) = false) (hst : s.fld (F.CLK_REF_INFO_STATE r.code) ≠ 2)
    (htod : r.code = 4 → s.on F.CLK_TOD_CFG_TOD_EN = false) (hfam : r.code = 5 → s.wrongFamily = false) :
    Answers (.refEdge r dt) s fun t =>
      t.fld (F.CLK_REF_INFO_STATE r.code) = 1 ∧ (t.ref r.code).tracking = true ∧ (t.ref r.code).e0 = t.time.up ∧
      (t.ref r.code).since = some t.time.up ∧ (t.ref r.code).lastEdge = some t.time.up ∧
      Framed (timeRegs ++ [A.CLK_REF_INFO r.code]) [.time, .clk, .mgmt] s t := by
  set n := r.code with hn
  have hn8 : n < 8 := edgeRef_code_lt r
  have hlen : n < s.clk.refs.length := by rw [hs.2.2.2.2.1]; exact hn8
  set e := s.fresh.advance dt with he
  have hclk : e.clk.refs.length = s.clk.refs.length := congrArg List.length (State.advance_clk_refs s.fresh dt)
  have hlen' : n < e.clk.refs.length := hclk.symm ▸ hlen
  have href : e.ref n = s.ref n := s.ref_elapsed dt n
  have hmiss : e.edgeMissed n = e := by
    rw [State.edgeMissed, href, htr]
    rfl
  have hinfo : A.CLK_REF_INFO n ∉ timeRegs := refInfo_not_time r
  have hanchor : e.edgeJudged n = e.anchored n := by
    have h1 : e.edgeJudged n = e.edgeAnchor n := by
      rw [State.edgeJudged, href, htr]
      exact if_pos rfl
    rw [h1]
    refine State.edgeAnchor_first hlen' (by rw [href, hsince]) ((State.on_advance_ne dt hinfo).trans hsus) ?_ fun h => ?_
    · rw [he, State.fld_advance_ne dt hinfo]
      exact hst
    · exact (wrongFamily_of_fld (State.fld_advance_ne dt (by decide)) (State.fld_advance_ne dt (by decide))).trans (hfam h)
  set x := e.anchored n with hx
  have hxtime : x.time = e.time := by
    rw [hx, State.anchored, State.time_refUpd, State.set_time, State.time_refUpd]
  have hphase : x.edgePhased n true = x.refUpd n (fun y => { y with phase := x.edgePhase n }) := by
    refine State.edgePhased_free fun h => ?_
    rw [hx, State.anchored, State.on_refUpd, State.on_set_free _ (refInfo_free_tod h), State.on_refUpd, he, State.on_advance_ne dt (by decide)]
    exact htod h
  set v := x.refUpd n (fun y => { y with phase := x.edgePhase n }) with hv
  have heff : e.refEdge n = v.edgeLast n := by
    rw [State.refEdge_eq ((s.running_elapsed dt).trans hrun) hmiss (by rw [href, hlast]), hanchor, hphase]
  have hframe : Chg (Listed (timeRegs ++ [A.CLK_REF_INFO n])) (Parts [.time, .clk, .mgmt]) NoMem s (v.edgeLast n) := by
    have h1 := ((chg_elapsed_time s dt (l := timeRegs ++ [A.CLK_REF_INFO n]) (fun _ h => List.mem_append_left _ h)).refUpd n (fun y => { y with
      tracking := true, e0 := e.time.up, k := 0, glitchAt := none, missing := 0 }) (by simp)).set (F.CLK_REF_INFO_STATE n) 1 (by simp)
    exact ((h1.refUpd n _ (by simp)).refUpd n _ (by simp)).refUpd n _ (by simp)
  have hxlen : n < x.clk.refs.length := by
    rw [hx, State.anchored, State.length_refUpd, State.set_clk, State.length_refUpd]
    exact hlen'
  have hvref : v.ref n = { x.ref n with phase := x.edgePhase n } := State.ref_refUpd_same hxlen _
  have hvup : v.time.up = e.time.up := by rw [hv, State.time_refUpd, hxtime]
  have htref : (v.edgeLast n).ref n = { v.ref n with lastEdge := some v.time.up } :=
    State.ref_refUpd_same (by rw [hv, State.length_refUpd]; exact hxlen) _
  have hup : (s.seal (v.edgeLast n)).time.up = e.time.up := by
    rw [State.seal_time, State.edgeLast, State.time_refUpd, hv, State.time_refUpd, hxtime]
  have ht : (s.seal (v.edgeLast n)).ref n = { e.ref n with
      tracking := true, e0 := e.time.up, k := 0, glitchAt := none, missing := 0, since := some e.time.up, phase := x.edgePhase n
      lastEdge := some e.time.up } := by
    rw [State.ref_seal, htref, hvref, hx, anchored_ref hlen', hvup]
  refine answers_effect _ rfl heff hframe ⟨?_, ?_, ?_, ?_, ?_, hframe.framed⟩
  · rw [State.fld_seal _ _ (refState_kept r), State.edgeLast, State.fld_refUpd, hv, State.fld_refUpd, hx, State.anchored, State.fld_refUpd,
      State.fld_set_same _ (refState_ok n)]
    rfl
  · exact congrArg Ref.tracking ht
  · exact (congrArg Ref.e0 ht).trans hup.symm
  · exact (congrArg Ref.since ht).trans (congrArg some hup.symm)
  · exact (congrArg Ref.lastEdge ht).trans (congrArg some hup.symm)

/-! ### The edges after it -/

theorem State.edgeAt_of_ref {s t : State} {r : Nat} (h : t.ref r = s.ref r) (hi : t.fld (F.CLK_REF_INFO_RATE r) = s.fld (F.CLK_REF_INFO_RATE r)) (k : Nat) :
    t.edgeAt r k = s.edgeAt r k := by
  rw [State.edgeAt, State.edgeAt, State.refHz, State.refHz, h, hi]

theorem State.edgePart_of_rate {s t : State} {r : Nat} (hi : t.fld (F.CLK_REF_INFO_RATE r) = s.fld (F.CLK_REF_INFO_RATE r)) (k : Nat) :
    t.edgePart r k = s.edgePart r k := by
  rw [State.edgePart, State.edgePart, State.refHz, State.refHz, hi]

theorem State.edgePart_mono (s : State) (r : Nat) {a b : Nat} (h : a ≤ b) : s.edgePart r a ≤ s.edgePart r b :=
  Nat.div_le_div_right (Nat.mul_le_mul_left _ h)

theorem State.up_elapsed (s : State) (dt : Nat) : (s.fresh.advance dt).time.up = s.time.up + dt := by
  obtain ⟨tb, sl, acc, h⟩ := State.advance_time s.fresh dt
  rw [h]
  rfl

theorem refs_elapsed_lt {s : State} (hs : Shaped s) (r : EdgeRef) (dt : Nat) : r.code < (s.fresh.advance dt).clk.refs.length := by
  rw [State.advance_clk_refs]
  exact (show s.clk.refs.length = 8 from hs.2.2.2.2.1) ▸ edgeRef_code_lt r

/-- An edge within 5 % of its time is good (R129). -/
theorem answers_refEdge_good (s : State) (r : EdgeRef) (dt : Nat) (hs : Shaped s) (hrun : s.clk.running = true)
    (htr : (s.ref r.code).tracking = true) (hlast : (s.ref r.code).lastEdge = none)
    (htod : r.code = 4 → s.on F.CLK_TOD_CFG_TOD_EN = false)
    (hlo : s.edgeAt r.code ((s.ref r.code).k + 1) ≤ s.time.up + dt + s.edgePart r.code 5)
    (hhi : s.time.up + dt ≤ s.edgeAt r.code ((s.ref r.code).k + 1) + s.edgePart r.code 5) :
    Answers (.refEdge r dt) s fun t =>
      (t.ref r.code).k = (s.ref r.code).k + 1 ∧ (t.ref r.code).missing = 0 ∧ (t.ref r.code).tracking = true ∧
      Framed timeRegs [.time, .clk, .mgmt] s t := by
  have hlen : r.code < (s.fresh.advance dt).clk.refs.length := refs_elapsed_lt hs r dt
  have hinfo : A.CLK_REF_INFO r.code ∉ timeRegs := refInfo_not_time r
  set n := r.code with hn
  set e := s.fresh.advance dt with he
  have href : e.ref n = s.ref n := s.ref_elapsed dt n
  have hrate : e.fld (F.CLK_REF_INFO_RATE n) = s.fld (F.CLK_REF_INFO_RATE n) := State.fld_advance_ne dt hinfo
  have hat : e.edgeAt n ((e.ref n).k + 1) = s.edgeAt n ((s.ref n).k + 1) := by rw [State.edgeAt_of_ref href hrate, href]
  have hup : e.time.up = s.time.up + dt := s.up_elapsed dt
  have hmiss : e.edgeMissed n = e := by
    have hmono := s.edgePart_mono n (show 5 ≤ 25 by omega)
    have hblt : Nat.blt (e.edgeAt n ((e.ref n).k + 1) + e.edgePart n 25) e.time.up = false := by
      rw [hat, State.edgePart_of_rate hrate, hup, ← Bool.not_eq_true, Nat.blt_eq]
      omega
    rw [State.edgeMissed, hblt, Bool.and_false, State.when_false]
  set x := e.refUpd n (fun x => { x with k := x.k + 1, missing := 0 }) with hx
  have hjudged : e.edgeJudged n = x := by
    rw [State.edgeJudged, href, htr, if_neg (by decide), ← href, hat, State.edgePart_of_rate hrate, hup, if_neg (by omega), if_pos (by omega)]
  have hphase : x.edgePhased n true = x.refUpd n (fun y => { y with phase := x.edgePhase n }) :=
    State.edgePhased_free fun h => (State.on_advance_ne dt (by decide)).trans (htod h)
  set v := x.refUpd n (fun y => { y with phase := x.edgePhase n }) with hv
  have heff : e.refEdge n = v.edgeLast n := by
    rw [State.refEdge_eq ((s.running_elapsed dt).trans hrun) hmiss (by rw [href, hlast]), hjudged, hphase]
  have hframe : Chg (Listed timeRegs) (Parts [.time, .clk, .mgmt]) NoMem s (v.edgeLast n) :=
    (((chg_elapsed_time s dt (fun _ h => h)).refUpd n _ (by simp)).refUpd n _ (by simp)).refUpd n _ (by simp)
  have hxlen : n < x.clk.refs.length := by rw [hx, State.length_refUpd]; exact hlen
  have hxref : x.ref n = { e.ref n with k := (e.ref n).k + 1, missing := 0 } := State.ref_refUpd_same hlen _
  have hvref : v.ref n = { x.ref n with phase := x.edgePhase n } := State.ref_refUpd_same hxlen _
  have htref : (v.edgeLast n).ref n = { v.ref n with lastEdge := some v.time.up } :=
    State.ref_refUpd_same (by rw [hv, State.length_refUpd]; exact hxlen) _
  have ht : (s.seal (v.edgeLast n)).ref n = { s.ref n with
      k := (s.ref n).k + 1, missing := 0, phase := x.edgePhase n, lastEdge := some v.time.up } := by
    rw [State.ref_seal, htref, hvref, hxref, href]
  exact answers_effect _ rfl heff hframe ⟨congrArg Ref.k ht, congrArg Ref.missing ht, (congrArg Ref.tracking ht).trans htr, hframe.framed⟩

/-! ### Edges that are missing -/

/-- A missing edge is one glitch period (R129). -/
theorem answers_refMissingEdge_glitch (s : State) (r : EdgeRef) (dt : Nat) (hs : Shaped s) (hrun : s.clk.running = true)
    (htr : (s.ref r.code).tracking = true) (hm : (s.ref r.code).missing = 0) (hg : (s.ref r.code).glitchAt = none) :
    Answers (.refMissingEdge r dt) s fun t =>
      (t.ref r.code).k = (s.ref r.code).k + 1 ∧ (t.ref r.code).missing = 1 ∧
      (t.ref r.code).glitchAt = some ((s.ref r.code).k + 1) ∧ Framed timeRegs [.time, .clk, .mgmt] s t := by
  have hlen : r.code < (s.fresh.advance dt).clk.refs.length := refs_elapsed_lt hs r dt
  set n := r.code with hn
  set e := s.fresh.advance dt with he
  have href : e.ref n = s.ref n := s.ref_elapsed dt n
  set x := e.refUpd n (fun x => { x with glitchAt := some ((s.ref n).k + 1) }) with hx
  have hglitch : e.glitch n = x := by
    unfold State.glitch
    dsimp only
    rw [href, hg]
  set u := x.refUpd n (fun x => { x with k := x.k + 1, missing := x.missing + 1 }) with hu
  have heff : e.when e.clk.running (fun s => s.missingEdge n) = u := by
    rw [(s.running_elapsed dt).trans hrun, State.when_true]
    unfold State.missingEdge
    dsimp only
    rw [href, htr, hg, hm, if_neg (by decide), if_neg (by simp), if_neg (by decide), hglitch]
  have hframe : Chg (Listed timeRegs) (Parts [.time, .clk, .mgmt]) NoMem s u :=
    ((chg_elapsed_time s dt (fun _ h => h)).refUpd n _ (by simp)).refUpd n _ (by simp)
  have hxref : x.ref n = { e.ref n with glitchAt := some ((s.ref n).k + 1) } := State.ref_refUpd_same hlen _
  have huref : u.ref n = { x.ref n with k := (x.ref n).k + 1, missing := (x.ref n).missing + 1 } :=
    State.ref_refUpd_same (by rw [hx, State.length_refUpd]; exact hlen) _
  have ht : (s.seal u).ref n = { s.ref n with k := (s.ref n).k + 1, missing := 1, glitchAt := some ((s.ref n).k + 1) } := by
    rw [State.ref_seal, huref, hxref, href, hm]
  exact answers_effect _ rfl heff hframe ⟨congrArg Ref.k ht, congrArg Ref.missing ht, congrArg Ref.glitchAt ht, hframe.framed⟩

/-- The registers that the loss of a reference changes past the references' own. -/
theorem disqualify_shows (s : State) (r : EdgeRef) {why : Nat} (hw : why < 16) :
    (s.disqualify r.code why).fld (F.CLK_REF_INFO_STATE r.code) = 3 ∧ (s.disqualify r.code why).fld (F.CLK_REF_INFO_WHY r.code) = why := by
  have hgone : Chg ClockLoss AnyPart NoMem (s.refFailed r.code why) (s.disqualify r.code why) :=
    Chg.refGone (fun _ h => h) ⟨trivial, trivial, trivial⟩ Chg.refl _ _ _
  have hinfo : ¬ ClockLoss (A.CLK_REF_INFO r.code) := by cases r <;> decide
  have hst : (F.CLK_REF_INFO_STATE r.code).ok = true ∧ (F.CLK_REF_INFO_WHY r.code).ok = true ∧
      Fld.free (F.CLK_REF_INFO_WHY r.code) (F.CLK_REF_INFO_STATE r.code) = true := by cases r <;> decide
  constructor
  · rw [hgone.fld hinfo, State.refFailed, State.fld_refUpd, State.fld_set_free _ hst.2.2, State.fld_set_same _ hst.1]
    rfl
  · rw [hgone.fld hinfo, State.refFailed, State.fld_refUpd, State.fld_set_same _ hst.2.1]
    exact Nat.mod_eq_of_lt hw

/-- The second missing edge in a row is LOS (R129). -/
theorem answers_refMissingEdge_los (s : State) (r : EdgeRef) (dt : Nat) (hrun : s.clk.running = true)
    (htr : (s.ref r.code).tracking = true) (hm : 1 ≤ (s.ref r.code).missing) (hg : (s.ref r.code).glitchAt ≠ some ((s.ref r.code).k + 1)) :
    Answers (.refMissingEdge r dt) s fun t =>
      t.fld (F.CLK_REF_INFO_STATE r.code) = 3 ∧ t.fld (F.CLK_REF_INFO_WHY r.code) = 1 ∧ MemKept s t := by
  set e := s.fresh.advance dt with he
  have href : e.ref r.code = s.ref r.code := s.ref_elapsed dt r.code
  have heff : e.when e.clk.running (fun s => s.missingEdge r.code) = e.disqualify r.code 1 := by
    rw [(s.running_elapsed dt).trans hrun, State.when_true]
    unfold State.missingEdge
    dsimp only
    rw [href, htr, if_neg (by decide), if_neg hg, if_pos hm]
  have hall : Chg AnyReg AnyPart NoMem s (e.disqualify r.code 1) :=
    Chg.disqualify (fun _ _ => trivial) ⟨trivial, trivial, trivial⟩ (chg_elapsed_time s dt (fun _ h => h)).anywhere _ _
  have hkept : (F.CLK_REF_INFO_WHY r.code).kept = true := by cases r <;> decide
  obtain ⟨h1, h2⟩ := disqualify_shows e r (show 1 < 16 by omega)
  exact answers_effect _ rfl heff hall ⟨(State.fld_seal _ _ (refState_kept r)).trans h1, (State.fld_seal _ _ hkept).trans h2, hall.memKept⟩

/-! ### Labels -/

/-- A sentence labels a PPS edge with its TAI second (R127, R132). -/
theorem answers_todSentenceRx (s : State) (utc : Nat) (hs : Shaped s) (hrun : s.clk.running = true) (htod : s.on F.CLK_TOD_CFG_TOD_EN = true) :
    Answers (.todSentenceRx utc true) s fun t =>
      (t.ref 4).label = some (utc + s.fld F.CLK_TOD_CFG_UTC_OFFSET) ∧ Framed [] [.clk] s t := by
  have hlen : 4 < s.fresh.clk.refs.length := (show s.clk.refs.length = 8 from hs.2.2.2.2.1) ▸ (by decide)
  have hlabel : ∃ f : Ref → Ref, (∀ x, (f x).label = some (utc + s.fld F.CLK_TOD_CFG_UTC_OFFSET)) ∧
      s.fresh.todLabel (utc + s.fld F.CLK_TOD_CFG_UTC_OFFSET) = s.fresh.refUpd 4 f :=
    ⟨_, fun _ => rfl, if_pos htod⟩
  obtain ⟨f, hf, he⟩ := hlabel
  have heff : s.fresh.when (s.fresh.clk.running && true) (fun s => s.todLabel (utc + s.fld F.CLK_TOD_CFG_UTC_OFFSET)) = s.fresh.refUpd 4 f := by
    rw [show s.fresh.clk.running = true from hrun]
    exact he
  have hframe : Chg (Listed []) (Parts [.clk]) NoMem s (s.fresh.refUpd 4 f) := Chg.refl.fresh.refUpd 4 f (by simp)
  refine answers_effect _ rfl heff hframe ⟨?_, hframe.framed⟩
  rw [State.ref_seal, State.ref_refUpd_same hlen, hf]

/-- Settles O26, clause by clause: a first edge, a good one, a missing one, two missing in a row, and a sentence. -/
theorem referenceEdges : Obligations.ReferenceEdges :=
  ⟨answers_refEdge_first, answers_refEdge_good, answers_refMissingEdge_glitch, answers_refMissingEdge_los, answers_todSentenceRx⟩

end Sys2Proof.Machine
end

section
/-! PROOFS. Choosing a reference: qualification, the revertive wait, a written SEL, a switch, votes and limits (R128, R133, R134,
R138, R139). -/

namespace Sys2Proof.Machine

theorem reference_code_lt (r : Reference) : r.code < 7 := by cases r <;> decide
theorem refFlds (r : Reference) : (F.CLK_REF_INFO_STATE r.code).kept = true ∧ (F.CLK_REF_INFO_FREQ r.code).kept = true ∧
    (F.CLK_REF_INFO_WHY r.code).kept = true ∧ (F.CLK_REF_INFO_SOFT r.code).kept = true ∧
    Fld.free F.CLK_EVT_REF_QUAL (F.CLK_REF_INFO_STATE r.code) = true := by cases r <;> decide

/-! ### Qualification (R128) -/

/-- What the qualification of a reference changes past its own registers. -/
def QualReg (a : Nat) : Prop := a = A.CLK_REF_CTL ∨ 0xa0000 ≤ a

/-- What follows the qualification of a reference: its ports, the time and the choice. -/
def State.qualGo (s : State) (r : Nat) : State :=
  let s := s.refUpd r (fun x => { x with qualUp := s.time.up })
  let s := s.when (r == 5) (fun s => s.tdmCauseMask (s.rd A.CLK_WCK_PORTS) causeWck false)
  (s.firstQual r).autoSel false

theorem State.qualify_eq {s : State} {r : Nat} (h2 : s.fld (F.CLK_REF_INFO_STATE r) ≠ 2) (hs : (s.ref r).since.isSome = true)
    (hu : s.on (F.CLK_REF_INFO_SUSPECT r) = false) : s.qualify r = ((s.set (F.CLK_REF_INFO_STATE r) 2).event F.CLK_EVT_REF_QUAL).qualGo r := by
  have h : ¬ (s.fld (F.CLK_REF_INFO_STATE r) = 2 ∨ (s.ref r).since.isNone = true ∨ s.on (F.CLK_REF_INFO_SUSPECT r) = true) := by
    rintro (h | h | h)
    · exact h2 h
    · rw [Option.isNone_eq_false_iff.mpr hs] at h
      cases h
    · exact Bool.false_ne_true (hu.symm.trans h)
  exact if_neg h

section
variable {R : Nat → Prop} {P : Part → Prop} {M : Nat → Prop} {s t : State}

theorem Chg.firstQual (h : Chg R P M s t) (hm : ∀ a, 0xa0000 ≤ a → R a) (ht : P .time) (hp : P .mgmt) (r : Nat) : Chg R P M s (t.firstQual r) := by
  unfold State.firstQual
  exact Chg.ite (fun _ => Chg.log (Chg.updMgmt (Chg.set ((h.updTime _ ht).jump ht _) _ _ (hm _ (by decide))) _ hp) _ _ _ _ (hm _ (by decide)) hp)
    fun _ => h

theorem Chg.autoSelOnly (h : Chg R P M s t) (ha : R A.CLK_REF_CTL) (w : Bool) : Chg R P M s (t.autoSel w) := by
  unfold State.autoSel
  split
  · exact h
  · exact h.keep _ _ ha

theorem Chg.qualGo (h : Chg R P M s t) (hq : ∀ a, QualReg a → R a) (ht : P .time) (hp : ClockParts P) (r : Nat) : Chg R P M s (t.qualGo r) := by
  have hm (a : Nat) (ha : 0xa0000 ≤ a) : R a := hq a (.inr ha)
  have h1 (f : Ref → Ref) := h.refUpd r f hp.clk
  unfold State.qualGo
  exact Chg.autoSelOnly (Chg.firstQual ((h1 _).when _ _ fun _ => Chg.tdmCauseMask hm hp.tdm (h1 _) _ _ _) hm ht hp.mgmt r) (hq _ (.inl rfl)) _

end

/-- A reference qualifies (R128). -/
theorem answers_refQualify (s : State) (r : Reference) (h2 : s.fld (F.CLK_REF_INFO_STATE r.code) ≠ 2) (hs : (s.ref r.code).since.isSome = true)
    (hu : s.on (F.CLK_REF_INFO_SUSPECT r.code) = false) :
    Answers (.refQualify r) s fun t =>
      t.fld (F.CLK_REF_INFO_STATE r.code) = 2 ∧ t.on F.CLK_EVT_REF_QUAL = true ∧ MemKept s t := by
  set x := (s.fresh.set (F.CLK_REF_INFO_STATE r.code) 2).event F.CLK_EVT_REF_QUAL with hx
  have heff : s.fresh.qualify r.code = x.qualGo r.code := State.qualify_eq h2 hs hu
  have hall : Chg AnyReg AnyPart NoMem s (x.qualGo r.code) :=
    Chg.qualGo ((Chg.refl.fresh.set _ _ trivial).event _ trivial) (fun _ _ => trivial) trivial ⟨trivial, trivial, trivial⟩ _
  have hgo : Chg QualReg AnyPart NoMem x (x.qualGo r.code) := Chg.refl.qualGo (fun _ h => h) trivial ⟨trivial, trivial, trivial⟩ _
  obtain ⟨hk, -, -, -, hfree⟩ := refFlds r
  have hinfo : ¬ QualReg (A.CLK_REF_INFO r.code) := by
    have := reference_code_lt r
    unfold QualReg
    simp only [A.CLK_REF_INFO, A.CLK_REF_CTL]
    omega
  refine answers_effect _ rfl heff hall ⟨?_, ?_, hall.memKept⟩
  · rw [State.fld_seal _ _ hk, hgo.fld hinfo, hx, State.fld_event_free _ hfree, State.fld_set_same _ (refState_ok _)]
    rfl
  · rw [State.on_seal _ _ (by decide), hgo.on (by unfold QualReg; decide), hx, State.on_event_same _ (by decide)]

/-! ### The choice (R133, R134) -/

theorem lowestOf_lt (s : State) (best : Nat) : s.lowestOf best < 8 := by
  unfold State.lowestOf
  cases h : (List.range 7).find? (fun r => s.qualified r && s.rank r == best && best != 0) with
  | none => decide
  | some r => exact Nat.lt_succ_of_lt (List.mem_range.mp (List.mem_of_find?_eq_some h))

/-- A revertive wait ends with the best reference's SEL (R133). -/
theorem answers_revertWaitExpiry (s : State) (hm : s.on F.CLK_REF_CTL_MODE = false) (hsp : s.spliceMember = false) (hb : s.bestRank ≠ 0)
    (hrev : s.on F.CLK_REF_CTL_REVERT = true) (hne : s.rank s.refInUse ≠ s.bestRank) :
    Answers .revertWaitExpiry s fun t => t.fld F.CLK_REF_CTL_SEL = s.lowestOf s.bestRank ∧ Framed [A.CLK_REF_CTL] [] s t := by
  have heff : s.fresh.autoSel true = s.fresh.keep F.CLK_REF_CTL_SEL (s.lowestOf s.bestRank) := by
    have h1 : (s.fresh.rank s.fresh.refInUse == s.fresh.bestRank) = false := beq_eq_false_iff_ne.mpr hne
    have h2 : s.fresh.on F.CLK_REF_CTL_MODE = false := hm
    have h3 : s.fresh.on F.CLK_REF_CTL_REVERT = true := hrev
    have h4 : s.fresh.spliceMember = false := hsp
    have h5 : s.fresh.bestRank ≠ 0 := hb
    unfold State.autoSel
    simp only [h1, h2, h3, h4, Bool.and_false, Bool.not_true, Bool.false_and, Bool.or_false, Bool.false_eq_true, if_false, if_neg h5]
    rfl
  have hframe : Chg (Listed [A.CLK_REF_CTL]) (Parts []) NoMem s (s.fresh.keep F.CLK_REF_CTL_SEL (s.lowestOf s.bestRank)) :=
    Chg.refl.fresh.keep _ _ (by simp)
  refine answers_effect _ rfl heff hframe ⟨?_, hframe.framed⟩
  rw [State.fld_seal _ _ (by decide), State.fld_keep_same _ (by decide)]
  exact lowestOf_lt s _

theorem refCtl_stores : StoresEverywhere A.CLK_REF_CTL := fun v => by cases v <;> decide

/-- In MANUAL a written SEL stands (R133). -/
theorem answers_refCtlWrite (s : State) (m : Master) (priv : Bool) (w : Word) (hd : Direct s m priv A.CLK_REF_CTL)
    (hr : AsItReads s A.CLK_REF_CTL w) (hm : F.CLK_REF_CTL_MODE.of w.toNat = 1) :
    Answers (.refCtlWrite (whole m priv w)) s fun t => t.reg A.CLK_REF_CTL = w ∧ Framed [A.CLK_REF_CTL] [] s t := by
  by_cases heq : s.reg A.CLK_REF_CTL = w
  · have hframe : Chg (Listed [A.CLK_REF_CTL]) (Parts []) NoMem s s.fresh := Chg.refl.fresh
    exact answers_effect _ rfl (hd.stores_same hr refCtl_stores (by decide) heq) hframe
      ⟨(State.reg_seal _ _ (by decide)).trans heq, hframe.framed⟩
  set e := s.fresh.wr A.CLK_REF_CTL w.toNat with he
  have hmode : e.on F.CLK_REF_CTL_MODE = true := State.on_of_fld ((State.fld_wr_word s.fresh _ w rfl).trans hm)
  have heff : s.fresh.words A.CLK_REF_CTL (whole m priv w) = e := by
    have hreg : e.regEffect m (s.masterPriv m priv) A.CLK_REF_CTL (s.reg A.CLK_REF_CTL) 0 = e.autoSel false := rfl
    rw [hd.stores hr refCtl_stores heq, ← he, hreg]
    exact if_pos (by rw [hmode]; rfl)
  have hframe : Chg (Listed [A.CLK_REF_CTL]) (Parts []) NoMem s e := Chg.refl.fresh.wr _ _ (by simp)
  refine answers_effect _ rfl heff hframe ⟨?_, hframe.framed⟩
  rw [State.reg_seal _ _ (by decide), he, State.reg_wr_same, BitVec.ofNat_toNat, BitVec.setWidth_eq]

/-! ### A switch (R134) -/

theorem State.blockOk_elapsed (s : State) (dt b : Nat) : (s.fresh.advance dt).blockOk b = s.blockOk b := by
  have hr : (s.fresh.advance dt).rd A.TEST_RETIRED = s.rd A.TEST_RETIRED := State.rd_advance_ne dt (by decide)
  rw [State.blockOk, State.advance_variant, State.unitOn_elapsed, State.advance_test, hr]
  rfl

theorem State.rank_of_regs {s t : State} (h1 : t.fld F.TIME_TWIN_CFG_EN = s.fld F.TIME_TWIN_CFG_EN) (h2 : t.rd A.CLK_REF_RANK = s.rd A.CLK_REF_RANK)
    (r : Nat) : t.rank r = s.rank r := by
  rw [State.rank, State.rank, State.on, State.on, h1, h2]

theorem State.fld_clkState_same (s : State) {n : Nat} (h : n < 4) : (s.clkState n).fld F.CLK_REF_STATUS_STATE = n := by
  unfold State.clkState
  split
  · assumption
  · rw [State.fld_event_free _ (by decide), State.fld_set_same _ (by decide)]
    exact Nat.mod_eq_of_lt h

theorem State.fld_clkState_free (s : State) (n : Nat) {g : Fld} (h1 : Fld.free F.CLK_REF_STATUS_STATE g = true)
    (h2 : Fld.free F.CLK_EVT_STATE_CHG g = true) : (s.clkState n).fld g = s.fld g := by
  unfold State.clkState
  split
  · rfl
  · rw [State.fld_event_free _ h2, State.fld_set_free _ h1]

theorem Chg.clkState {R : Nat → Prop} {P : Part → Prop} {M : Nat → Prop} {s t : State} (h : Chg R P M s t) (h1 : R A.CLK_REF_STATUS)
    (h2 : R A.CLK_EVT) (n : Nat) : Chg R P M s (t.clkState n) := by
  unfold State.clkState
  split
  · exact h
  · exact (h.set _ _ h1).event _ h2

/-- The DPLL shows the reference it takes. -/
def State.refTaken (s : State) (sel bw : Nat) : State :=
  ((((s.set F.CLK_REF_STATUS_SEL sel).set F.CLK_REF_STATUS_BW bw).clkState clkAcq).event F.CLK_EVT_SWITCH).wr A.CLK_HO_STATUS 0

/-- The time base follows the reference taken, but for PTP's, whose next offset says how far (R134, R145). -/
def State.refPhased (s : State) (old sel : Nat) : State :=
  let ptp := Nat.ble 1 sel && Nat.ble sel 3
  let s := s.updClk (fun c => { c with awaitPhi := ptp, switchFrom := old, hoFreq := none })
  if ptp then s
  else
    let phi := s.phiNow sel
    (s.jumpOffset phi).logSwitch old sel phi

theorem State.takeRef_eq (s : State) (sel : Nat) : s.takeRef sel =
    (s.refTaken sel (if (s.refFreq sel * 1000 - s.fcw).natAbs ≤ 1000000 then 2 else 1)).refPhased s.refInUse sel := rfl

theorem refTaken_shows (s : State) {sel : Nat} (h : sel < 8) (bw : Nat) : (s.refTaken sel bw).fld F.CLK_REF_STATUS_SEL = sel ∧
    (s.refTaken sel bw).fld F.CLK_REF_STATUS_STATE = 1 ∧ (s.refTaken sel bw).on F.CLK_EVT_SWITCH = true ∧
    (s.refTaken sel bw).rd A.CLK_HO_STATUS = 0 := by
  unfold State.refTaken
  refine ⟨?_, ?_, ?_, State.rd_wr_same _ _ _⟩
  · rw [State.fld_wr_ne _ _ (by decide), State.fld_event_free _ (by decide), State.fld_clkState_free _ _ (by decide) (by decide),
      State.fld_set_free _ (by decide), State.fld_set_same _ (by decide)]
    exact Nat.mod_eq_of_lt h
  · rw [State.fld_wr_ne _ _ (by decide), State.fld_event_free _ (by decide), State.fld_clkState_same _ (by decide)]
    rfl
  · exact congrArg (· != 0) ((State.fld_wr_ne _ _ (by decide)).trans (State.fld_set_same _ (by decide) 1))

section
variable {R : Nat → Prop} {P : Part → Prop} {M : Nat → Prop} {s t : State}

theorem Chg.refTaken (h : Chg R P M s t) (h1 : R A.CLK_REF_STATUS) (h2 : R A.CLK_EVT) (h3 : R A.CLK_HO_STATUS) (sel bw : Nat) :
    Chg R P M s (t.refTaken sel bw) :=
  ((Chg.clkState ((h.set _ _ h1).set _ _ h1) h1 h2 _).event _ h2).wr _ _ h3

theorem Chg.refPhased (h : Chg R P M s t) (h1 : R A.MGMT_EVT) (ht : P .time) (hc : P .clk) (hm : P .mgmt) (old sel : Nat) :
    Chg R P M s (t.refPhased old sel) := by
  unfold State.refPhased
  exact Chg.ite (fun _ => h.updClk _ hc) fun _ => Chg.log ((h.updClk _ hc).jump ht _) _ _ _ _ h1 hm

end

/-- At an EF boundary the DPLL takes the reference that SEL names (R134). -/
theorem answers_refSwitch (s : State) (hrun : s.clk.running = true) (hsp : s.spliceMember = false) (hok : s.blockOk 4 = true)
    (hm : s.on F.CLK_REF_CTL_MODE = true) (hq : s.qualified (s.fld F.CLK_REF_CTL_SEL) = true)
    (hr : s.rank (s.fld F.CLK_REF_CTL_SEL) ≠ 0) (hne : s.refInUse ≠ s.fld F.CLK_REF_CTL_SEL) :
    Answers .refSwitch s fun t =>
      t.refInUse = s.fld F.CLK_REF_CTL_SEL ∧ t.fld F.CLK_REF_STATUS_STATE = 1 ∧ t.on F.CLK_EVT_SWITCH = true ∧
      t.rd A.CLK_HO_STATUS = 0 ∧
      Framed (timeRegs ++ [A.CLK_REF_STATUS, A.CLK_HO_STATUS]) [.time, .clk, .mgmt] s t := by
  set dt := (s.fresh.efUp (s.fresh.clk.lastEf + 1) - s.fresh.time.up).toNat with hdt
  set e := s.fresh.advance dt with he
  set sel := s.fld F.CLK_REF_CTL_SEL with hsel
  have hsel8 : sel < 8 := s.fld_lt F.CLK_REF_CTL_SEL
  have hon {f : Fld} (h : f.adr ∉ timeRegs) : e.on f = s.on f := State.on_advance_ne dt h
  have hfld {f : Fld} (h : f.adr ∉ timeRegs) : e.fld f = s.fld f := State.fld_advance_ne dt h
  have hesel : e.fld F.CLK_REF_CTL_SEL = sel := hfld (by decide)
  have hstay : e.autoSel false = e := if_pos (by rw [hon (by decide), hm]; rfl)
  have hinfo : A.CLK_REF_INFO sel ∉ timeRegs := by
    clear_value sel
    interval_cases sel <;> decide
  have hequal : e.qualified sel = true := by
    rw [State.qualified, hfld hinfo]
    exact hq
  have hrank : e.rank sel = s.rank sel := State.rank_of_regs (hfld (by decide)) (State.rd_advance_ne dt (by decide)) sel
  have huse : e.refInUse = s.refInUse := hfld (by decide)
  have hsw : e.refSwitch = e.takeRef sel := by
    have h1 : (e.spliceMember || !e.clk.running || !e.blockOk 4) = false := by
      rw [State.spliceMember, hon (by decide), show s.on F.CLK_REF_STATUS_SPLICE_MEMBER = false from hsp, he, s.running_elapsed, hrun,
        s.blockOk_elapsed, hok]
      rfl
    have h2 : e.selUsable = true := by
      rw [State.selUsable, hesel, hequal, hrank, Bool.true_and, bne_iff_ne]
      exact hr
    have h3 : e.refSwitch = if e.spliceMember || !e.clk.running || !e.blockOk 4 then e
        else if (e.autoSel false).refInUse = (e.autoSel false).fld F.CLK_REF_CTL_SEL ∧ (e.autoSel false).qualified ((e.autoSel false).fld F.CLK_REF_CTL_SEL)
          then e.autoSel false
        else if (e.autoSel false).selUsable then (e.autoSel false).takeRef ((e.autoSel false).fld F.CLK_REF_CTL_SEL)
        else if (e.autoSel false).refInUse = 0 then e.autoSel false
        else (e.autoSel false).enterHoldover := rfl
    rw [h3, hstay, hesel, h1, h2, if_neg Bool.false_ne_true, if_neg (fun h => hne (huse.symm.trans h.1)), if_pos rfl]
  set bw := if (e.refFreq sel * 1000 - e.fcw).natAbs ≤ 1000000 then 2 else 1 with hbw
  set x := e.refTaken sel bw with hx
  set u := x.refPhased e.refInUse sel with hu
  have heff : s.fresh.when s.fresh.clk.running (fun s => s.toBoundary.refSwitch) = u := by
    rw [show s.fresh.clk.running = true from hrun, State.when_true]
    exact hsw.trans (e.takeRef_eq sel)
  have hframe : Chg (Listed (timeRegs ++ [A.CLK_REF_STATUS, A.CLK_HO_STATUS])) (Parts [.time, .clk, .mgmt]) NoMem s u :=
    ((chg_elapsed_time s dt (fun _ h => List.mem_append_left _ h)).refTaken (by simp) (by simp [timeRegs]) (by simp) _ _).refPhased
      (by simp [timeRegs]) (by simp) (by simp) (by simp) _ _
  have hlast : Chg (fun a => a = A.MGMT_EVT) AnyPart NoMem x u :=
    Chg.refPhased (R := fun a => a = A.MGMT_EVT) (P := AnyPart) Chg.refl rfl trivial trivial trivial _ _
  obtain ⟨h1, h2, h3, h4⟩ := refTaken_shows e hsel8 bw
  refine answers_effect _ rfl heff hframe ⟨?_, ?_, ?_, ?_, hframe.framed⟩
  · exact (State.fld_seal _ _ (by decide)).trans ((hlast.fld (by decide)).trans h1)
  · exact (State.fld_seal _ _ (by decide)).trans ((hlast.fld (by decide)).trans h2)
  · exact (State.on_seal _ _ (by decide)).trans ((hlast.on (by decide)).trans h3)
  · exact (State.rd_seal _ _ (by decide)).trans ((State.rd_eq_of_reg (hlast.reg _ (by decide))).trans h4)

/-! ### Votes (R138) -/

/-- A pair's part of the vote. -/
def State.pairVote (s : State) (a b : Nat) : State :=
  if s.qualified a && s.qualified b && s.voteRank a != 0 && s.voteRank a == s.voteRank b then
    let differ := Nat.blt (s.voteThr a b) (s.refFreq a - s.refFreq b).natAbs
    let n := if differ then s.disagreeS a b + 1 else 0
    let s := s.setDisagree a b n
    s.when (decide (10 ≤ n)) (fun s => s.votePair a b)
  else s.setDisagree a b 0

/-- A suspect reference's part of the vote. -/
def State.suspectVote (s : State) (r : Nat) : State :=
  let x := s.ref r
  if s.on (F.CLK_REF_INFO_SUSPECT r) then
    let agree := Nat.ble (s.refFreq r - s.refFreq x.partner).natAbs (s.voteThr (min r x.partner) (max r x.partner))
    let n := if agree then x.agreeS + 1 else 0
    let s := s.refUpd r (fun x => { x with agreeS := n })
    if max 1 (s.fld F.CLK_REF_CTL_QUAL_S) ≤ n ∧ (r ≤ 3 ∨ x.tracking = true) then
      ((s.set (F.CLK_REF_INFO_SUSPECT r) 0).refValid r).qualify r
    else s
  else s

/-- DISAGREE clears once no pair has disagreed for 10 s. -/
def State.disagreeShown (s : State) : State :=
  s.when (s.clk.disagree.all (fun d => Nat.blt d.2.2 10)) (fun s => s.set F.CLK_REF_STATUS_DISAGREE 0)

theorem State.refVote_eq {s : State} (h : s.spliceMember = false) :
    s.refVote = forN 7 (fun r s => s.suspectVote r) (forL refPairs (fun p s => s.pairVote p.1 p.2) s).disagreeShown := by
  unfold State.refVote
  rw [h, if_neg Bool.false_ne_true]
  have hvotes (f : Nat × Nat → State → State) (hf : ∀ p t, f p t = t.pairVote p.1 p.2) :
      forL refPairs f s = forL refPairs (fun p s => s.pairVote p.1 p.2) s := by rw [show f = fun p s => s.pairVote p.1 p.2 from funext₂ hf]
  extract_lets u v
  have hu : u = forL refPairs (fun p s => s.pairVote p.1 p.2) s := hvotes _ fun _ _ => rfl
  have hv : v = u.disagreeShown := rfl
  clear_value u v
  rw [hv, hu]
  rfl

theorem suspectVote_none {s : State} {r : Nat} (h : s.on (F.CLK_REF_INFO_SUSPECT r) = false) : s.suspectVote r = s :=
  if_neg fun hs => Bool.false_ne_true (h.symm.trans hs)

theorem suspectVotes_none {s : State} (h : ∀ r < 7, s.on (F.CLK_REF_INFO_SUSPECT r) = false) : forN 7 (fun r s => s.suspectVote r) s = s :=
  forN_induction (p := (· = s)) 7 _ (fun r hr t ht => by
    rw [ht]
    exact suspectVote_none (h r hr)) rfl

/-- The states of a pair that alone disagrees. -/
structure OnePair (s : State) (a b : Nat) : Prop where
  idle : ∀ r < 7, r ≠ a → r ≠ b → s.qualified r = false
  noted : ∀ d ∈ s.clk.disagree, d.1 = a ∧ d.2.1 = b

theorem State.setDisagree_none {s : State} {a b : Nat} (h : ∀ d ∈ s.clk.disagree, ¬ (d.1 = a ∧ d.2.1 = b)) : s.setDisagree a b 0 = s := by
  have hf : s.clk.disagree.filter (fun d => !(d.1 == a && d.2.1 == b)) = s.clk.disagree :=
    List.filter_eq_self.mpr fun d hd => by
      simp only [Bool.not_eq_true', Bool.and_eq_false_imp, beq_iff_eq, beq_eq_false_iff_ne]
      exact fun h1 h2 => h d hd ⟨h1, h2⟩
  have he : s.setDisagree a b 0 = s.updClk (fun c => { c with disagree := s.clk.disagree.filter (fun d => !(d.1 == a && d.2.1 == b)) }) := rfl
  rw [he, hf]
  rfl

/-- A pair of which one is not qualified has no vote. -/
theorem pairVote_idle {s : State} {a b c d : Nat} (h : OnePair s a b) (hc : c < 7) (hd : d < 7) (hcd : c < d) (hne : ¬ (c = a ∧ d = b)) (hab : a < b) :
    s.pairVote c d = s := by
  have hq : (s.qualified c && s.qualified d) = false := by
    by_cases h1 : c = a ∨ c = b
    · rw [h.idle d hd (by omega) (by omega), Bool.and_false]
    · rw [h.idle c hc (by omega) (by omega), Bool.false_and]
  have he : s.pairVote c d = s.setDisagree c d 0 := if_neg (by rw [hq]; exact Bool.false_ne_true)
  rw [he]
  refine State.setDisagree_none fun x hx => ?_
  have := h.noted x hx
  omega

/-- The pairs before the pair of the PPS and the word clock, and after it. -/
theorem refPairs_split : ∃ l l', refPairs = l ++ (4, 5) :: l' ∧ ∀ p, p ∈ l ∨ p ∈ l' → p.1 < 7 ∧ p.2 < 7 ∧ p.1 < p.2 ∧ ¬ (p.1 = 4 ∧ p.2 = 5) := by
  refine ⟨[(1,2),(1,3),(1,4),(1,5),(1,6),(2,3),(2,4),(2,5),(2,6),(3,4),(3,5),(3,6)], [(4,6),(5,6)], rfl, fun p hp => ?_⟩
  rcases hp with hp | hp <;> simp only [List.mem_cons, List.not_mem_nil, or_false] at hp
  · rcases hp with h | h | h | h | h | h | h | h | h | h | h | h <;> subst h <;> decide
  · rcases hp with h | h <;> subst h <;> decide

theorem pairVotes_idle {s : State} (h : OnePair s 4 5) (l : List (Nat × Nat))
    (hl : ∀ p ∈ l, p.1 < 7 ∧ p.2 < 7 ∧ p.1 < p.2 ∧ ¬ (p.1 = 4 ∧ p.2 = 5)) : forL l (fun p s => s.pairVote p.1 p.2) s = s :=
  forL_induction (p := (· = s)) l _ (fun p hp t ht => by
    obtain ⟨h1, h2, h3, h4⟩ := hl p hp
    rw [ht]
    exact pairVote_idle h h1 h2 h3 h4 (by decide)) rfl

/-- All votes are the vote of the one pair. -/
theorem pairVotes_one {s : State} (h : OnePair s 4 5) (h' : OnePair (s.pairVote 4 5) 4 5) :
    forL refPairs (fun p s => s.pairVote p.1 p.2) s = s.pairVote 4 5 := by
  obtain ⟨l, l', he, hl⟩ := refPairs_split
  have hstep : forL (l ++ (4, 5) :: l') (fun p s => s.pairVote p.1 p.2) s =
      forL l' (fun p s => s.pairVote p.1 p.2) ((forL l (fun p s => s.pairVote p.1 p.2) s).pairVote 4 5) := by
    simp only [forL, List.foldl_append, List.foldl_cons]
  rw [he, hstep, pairVotes_idle h l fun p hp => hl p (.inl hp), pairVotes_idle h' l' fun p hp => hl p (.inr hp)]

/-- The pair of the PPS and the word clock alone votes, differs, and has differed for n s. -/
structure Differs (s : State) (n : Nat) : Prop where
  running : s.clk.running = true
  leads : s.spliceMember = false
  idle : ∀ r < 7, r ≠ 4 → r ≠ 5 → s.qualified r = false
  trusted : ∀ r < 7, s.on (F.CLK_REF_INFO_SUSPECT r) = false
  pps : s.qualified 4 = true
  wck : s.qualified 5 = true
  ranked : s.voteRank 4 ≠ 0
  equal : s.voteRank 4 = s.voteRank 5
  wide : s.voteThr 4 5 < (s.refFreq 4 - s.refFreq 5).natAbs
  since : s.clk.disagree = [(4, 5, n)]

/-- The pair has differed for another second. -/
def State.differed (s : State) (n : Nat) : State := s.updClk (fun c => { c with disagree := [(4, 5, n)] })

theorem Differs.onePair {s : State} {n : Nat} (h : Differs s n) : OnePair s 4 5 :=
  ⟨h.idle, fun d hd => by
    rw [h.since, List.mem_singleton] at hd
    subst hd
    exact ⟨rfl, rfl⟩⟩

theorem Differs.pairVote {s : State} {n : Nat} (h : Differs s n) :
    s.pairVote 4 5 = (s.differed (n + 1)).when (decide (10 ≤ n + 1)) (fun s => s.votePair 4 5) := by
  have hc : (s.qualified 4 && s.qualified 5 && s.voteRank 4 != 0 && s.voteRank 4 == s.voteRank 5) = true := by
    rw [h.pps, h.wck, ← h.equal, beq_self_eq_true, Bool.and_true, Bool.and_true, Bool.true_and, bne_iff_ne]
    exact h.ranked
  have hd : Nat.blt (s.voteThr 4 5) (s.refFreq 4 - s.refFreq 5).natAbs = true := Nat.blt_eq.mpr h.wide
  have hn : s.disagreeS 4 5 = n := by
    rw [State.disagreeS, h.since]
    rfl
  have hs : s.setDisagree 4 5 (n + 1) = s.differed (n + 1) := by
    have he : s.setDisagree 4 5 (n + 1) = s.updClk (fun c => { c with
      disagree := (4, 5, n + 1) :: s.clk.disagree.filter (fun d => !(d.1 == 4 && d.2.1 == 5)) }) := rfl
    rw [he, h.since]
    rfl
  have he : s.pairVote 4 5 = if s.qualified 4 && s.qualified 5 && s.voteRank 4 != 0 && s.voteRank 4 == s.voteRank 5 then
      (s.setDisagree 4 5 (if Nat.blt (s.voteThr 4 5) (s.refFreq 4 - s.refFreq 5).natAbs then s.disagreeS 4 5 + 1 else 0)).when
        (decide (10 ≤ (if Nat.blt (s.voteThr 4 5) (s.refFreq 4 - s.refFreq 5).natAbs then s.disagreeS 4 5 + 1 else 0)))
        (fun s => s.votePair 4 5)
    else s.setDisagree 4 5 0 := rfl
  rw [he, if_pos hc, hd, if_pos rfl, hn, hs]

theorem State.differed_disagree (s : State) (n : Nat) : (s.differed n).clk.disagree = [(4, 5, n)] := rfl

theorem onePair_differed {s : State} {n : Nat} (h : Differs s n) (k : Nat) : OnePair (s.differed k) 4 5 :=
  ⟨h.idle, fun d hd => by
    rw [State.differed_disagree, List.mem_singleton] at hd
    subst hd
    exact ⟨rfl, rfl⟩⟩

/-- Before 10 s a difference only counts (R138). -/
theorem answers_refVote_counts (s : State) (n : Nat) (h : Differs s n) (hn : n < 9) :
    Answers .refVote s fun t =>
      t.clk.disagree = [(4, 5, n + 1)] ∧ t.on F.CLK_REF_STATUS_DISAGREE = false ∧ Framed [A.CLK_REF_STATUS] [.clk] s t := by
  have hf : Differs s.fresh n := ⟨h.running, h.leads, h.idle, h.trusted, h.pps, h.wck, h.ranked, h.equal, h.wide, h.since⟩
  set x := s.fresh.differed (n + 1) with hx
  have hpair : s.fresh.pairVote 4 5 = x := by
    rw [hf.pairVote, decide_eq_false (by omega), State.when_false]
  set u := x.set F.CLK_REF_STATUS_DISAGREE 0 with hu
  have hshown : x.disagreeShown = u := by
    have hlt : x.clk.disagree.all (fun d => Nat.blt d.2.2 10) = true := by
      rw [hx, State.differed_disagree, List.all_cons, List.all_nil, Bool.and_true]
      exact Nat.blt_eq.mpr (show n + 1 < 10 by omega)
    rw [State.disagreeShown, hlt, State.when_true]
  have hsus (r : Nat) (hr : r < 7) : u.on (F.CLK_REF_INFO_SUSPECT r) = false :=
    (State.on_set_free x (by interval_cases r <;> decide) 0).trans (h.trusted r hr)
  have heff : s.fresh.when s.fresh.clk.running State.refVote = u := by
    rw [hf.running, State.when_true, State.refVote_eq hf.leads,
      pairVotes_one hf.onePair (hpair ▸ onePair_differed hf _), hpair, hshown, suspectVotes_none hsus]
  have hframe : Chg (Listed [A.CLK_REF_STATUS]) (Parts [.clk]) NoMem s u := (Chg.refl.fresh.updClk _ (by simp)).set _ _ (by simp)
  refine answers_effect _ rfl heff hframe ⟨?_, ?_, hframe.framed⟩
  · rw [State.seal_clk_disagree, hu, State.set_clk]
    rfl
  · rw [State.on_seal _ _ (by decide), hu, State.on_set_same _ (by decide)]
    rfl

theorem State.hoFreq_of_reg {s t : State} (h : ∀ a, t.reg a = s.reg a) : t.hoFreq = s.hoFreq := by
  have hf (f : Fld) : t.fld f = s.fld f := State.fld_eq_of_reg (h _)
  have hh (k : Nat) : t.hist k = s.hist k := by rw [State.hist, State.rd_eq_of_reg (h _), State.hist]
  have hw : t.hoW = s.hoW := by rw [State.hoW, hf, State.hoW]
  have hH : t.hoH = s.hoH := by rw [State.hoH, hf, hw, State.hoH]
  have hk : (fun k => t.hist (s.hoH + k)) = fun k => s.hist (s.hoH + k) := funext fun k => hh _
  unfold State.hoFreq
  rw [hw, hH, hk, hh]

/-- With no holdover frequency to judge by, the tenth second reports a disagreement (R138). -/
theorem answers_refVote_reports (s : State) (h : Differs s 9) (hho : s.hoFreq = none) :
    Answers .refVote s fun t =>
      t.on F.CLK_REF_STATUS_DISAGREE = true ∧ t.on F.CLK_EVT_DISAGREE = true ∧ t.refInUse = s.refInUse ∧
      Framed [A.CLK_REF_STATUS, A.CLK_EVT] [.clk] s t := by
  have hf : Differs s.fresh 9 := ⟨h.running, h.leads, h.idle, h.trusted, h.pps, h.wck, h.ranked, h.equal, h.wide, h.since⟩
  set x := s.fresh.differed 10 with hx
  set u := (x.set F.CLK_REF_STATUS_DISAGREE 1).event F.CLK_EVT_DISAGREE with hu
  have hpair : s.fresh.pairVote 4 5 = u := by
    have hxho : x.hoFreq = none := (State.hoFreq_of_reg (s := s) (t := x) fun _ => rfl).trans hho
    rw [hf.pairVote, decide_eq_true (by omega), State.when_true, State.votePair, hxho]
  have hdis : u.clk.disagree = [(4, 5, 10)] := by
    rw [hu, State.event_clk, State.set_clk]
    rfl
  have hone : OnePair u 4 5 := by
    refine ⟨fun r hr h4 h5 => ?_, fun d hd => ?_⟩
    · have hq : u.fld (F.CLK_REF_INFO_STATE r) = s.fld (F.CLK_REF_INFO_STATE r) :=
        (State.fld_event_free _ (by interval_cases r <;> decide)).trans (State.fld_set_free x (by interval_cases r <;> decide) 1)
      rw [State.qualified, hq]
      exact h.idle r hr h4 h5
    · rw [hdis, List.mem_singleton] at hd
      subst hd
      exact ⟨rfl, rfl⟩
  have hshown : u.disagreeShown = u := by
    rw [State.disagreeShown, hdis]
    rfl
  have hsus (r : Nat) (hr : r < 7) : u.on (F.CLK_REF_INFO_SUSPECT r) = false :=
    ((State.on_event_free _ (by interval_cases r <;> decide)).trans (State.on_set_free x (by interval_cases r <;> decide) 1)).trans (h.trusted r hr)
  have heff : s.fresh.when s.fresh.clk.running State.refVote = u := by
    rw [hf.running, State.when_true, State.refVote_eq hf.leads, pairVotes_one hf.onePair (hpair ▸ hone), hpair, hshown, suspectVotes_none hsus]
  have hframe : Chg (Listed [A.CLK_REF_STATUS, A.CLK_EVT]) (Parts [.clk]) NoMem s u :=
    ((Chg.refl.fresh.updClk _ (by simp)).set _ _ (by simp)).event _ (by simp)
  refine answers_effect _ rfl heff hframe ⟨?_, ?_, ?_, hframe.framed⟩
  · rw [State.on_seal _ _ (by decide), hu, State.on_event_free _ (by decide), State.on_set_same _ (by decide)]
    rfl
  · rw [State.on_seal _ _ (by decide), hu, State.on_event_same _ (by decide)]
  · rw [State.refInUse, State.fld_seal _ _ (by decide), hu, State.fld_event_free _ (by decide), State.fld_set_free _ (by decide)]
    rfl

/-! ### Limits (R139) -/

/-- A second's FREQ is noted. -/
def State.freqNoted (s : State) (r : Nat) (f : Int) : State :=
  (s.set (F.CLK_REF_INFO_FREQ r) (unsgn 20 f)).refUpd r (fun x => { x with freqs := (f :: x.freqs).take 60 })

/-- The drift over sixty seconds. -/
def State.slope (s : State) (r : Nat) : Int := if (s.ref r).freqs.length = 60 then slopeNum (s.ref r).freqs 59 else 0

/-- A soft limit is passed. -/
def State.softOver (s : State) (r : Nat) (f : Int) : Bool :=
  decide (min (s.fld F.CLK_LIMITS_SOFT_FREQ) (s.fld F.CLK_LIMITS_HARD_FREQ) * 100 < f.natAbs) ||
    decide (min (s.fld F.CLK_LIMITS_SOFT_RATE) (s.fld F.CLK_LIMITS_HARD_RATE) * 71980 < (s.slope r).natAbs)

/-- SOFT shows whether a soft limit is passed, with a warning when it begins. -/
def State.softShown (s : State) (r : Nat) (f slope : Int) (soft : Bool) : State :=
  (if soft && !s.on (F.CLK_REF_INFO_SOFT r) then
      (s.event F.CLK_EVT_SOFT_WARN).log 5 2 2 [r, unsgn 32 f, unsgn 32 (roundDiv slope 71980)]
    else s).setB (F.CLK_REF_INFO_SOFT r) soft

/-- The hard limits judge a reference that is qualified or qualifying. -/
def State.hardJudged (s : State) (r hardF hardR : Nat) (f slope : Int) : State :=
  let live := s.fld (F.CLK_REF_INFO_STATE r) = 1 ∨ s.fld (F.CLK_REF_INFO_STATE r) = 2
  if live ∧ hardF * 100 < f.natAbs then s.disqualify r 5
  else if live ∧ hardR * 71980 < slope.natAbs then s.disqualify r 6
  else s

theorem State.limitCheck_eq (s : State) (r : Nat) (freq : Int) : s.limitCheck r freq =
    ((s.freqNoted r (satS 20 freq)).softShown r (satS 20 freq) ((s.freqNoted r (satS 20 freq)).slope r)
      ((s.freqNoted r (satS 20 freq)).softOver r (satS 20 freq))).hardJudged r ((s.freqNoted r (satS 20 freq)).fld F.CLK_LIMITS_HARD_FREQ)
      ((s.freqNoted r (satS 20 freq)).fld F.CLK_LIMITS_HARD_RATE) (satS 20 freq) ((s.freqNoted r (satS 20 freq)).slope r) := rfl

/-- The fields of a reference's information do not overlap. -/
theorem refInfo_free (r : Reference) : Fld.free (F.CLK_REF_INFO_FREQ r.code) (F.CLK_REF_INFO_STATE r.code) = true ∧
    Fld.free (F.CLK_REF_INFO_SOFT r.code) (F.CLK_REF_INFO_STATE r.code) = true ∧ Fld.free (F.CLK_REF_INFO_SOFT r.code) (F.CLK_REF_INFO_FREQ r.code) = true ∧
    Fld.free (F.CLK_REF_INFO_STATE r.code) (F.CLK_REF_INFO_FREQ r.code) = true ∧ Fld.free (F.CLK_REF_INFO_WHY r.code) (F.CLK_REF_INFO_FREQ r.code) = true ∧
    Fld.free (F.CLK_REF_INFO_WHY r.code) (F.CLK_REF_INFO_STATE r.code) = true := by cases r <;> decide

theorem unsgn20_lt (i : Int) : unsgn 20 i < 2 ^ 20 := by
  unfold unsgn
  omega

theorem freqNoted_shows (s : State) (r : Reference) (f : Int) : (s.freqNoted r.code f).fld (F.CLK_REF_INFO_FREQ r.code) = unsgn 20 f ∧
    (s.freqNoted r.code f).fld (F.CLK_REF_INFO_STATE r.code) = s.fld (F.CLK_REF_INFO_STATE r.code) := by
  rw [State.freqNoted, State.fld_refUpd, State.fld_refUpd]
  refine ⟨?_, s.fld_set_free (refInfo_free r).1 _⟩
  rw [State.fld_set_same _ rfl]
  exact Nat.mod_eq_of_lt (unsgn20_lt f)

/-- What a soft limit changes past its flag. -/
theorem softShown_keeps (s : State) (r : Reference) (f slope : Int) (soft : Bool) {g : Fld} (hg : g.adr = A.CLK_REF_INFO r.code)
    (hfree : Fld.free (F.CLK_REF_INFO_SOFT r.code) g = true) : (s.softShown r.code f slope soft).fld g = s.fld g := by
  have hwarn : Chg (fun a => a = A.CLK_EVT ∨ a = A.MGMT_EVT) AnyPart NoMem s
      ((s.event F.CLK_EVT_SOFT_WARN).log 5 2 2 [r.code, unsgn 32 f, unsgn 32 (roundDiv slope 71980)]) :=
    (Chg.refl.event _ (.inl rfl)).log _ _ _ _ (.inr rfl) trivial
  have hne : ¬ (g.adr = A.CLK_EVT ∨ g.adr = A.MGMT_EVT) := by
    rw [hg]
    cases r <;> decide
  unfold State.softShown
  rw [State.fld_setB_free _ hfree]
  split
  · exact hwarn.fld hne
  · rfl

theorem State.limits_freqNoted (s : State) (r : Reference) (f : Int) {g : Fld} (hg : g.adr = A.CLK_LIMITS) :
    (s.freqNoted r.code f).fld g = s.fld g := by
  rw [State.freqNoted, State.fld_refUpd]
  exact State.fld_set_ne _ _ (by rw [hg]; cases r <;> decide)

/-- A FREQ beyond the hard limit disqualifies the reference (R139). -/
theorem answers_driftLimitCheck_hard (s : State) (r : Reference) (f : Int) (hrun : s.clk.running = true)
    (hlive : s.fld (F.CLK_REF_INFO_STATE r.code) = 1 ∨ s.fld (F.CLK_REF_INFO_STATE r.code) = 2)
    (hover : s.fld F.CLK_LIMITS_HARD_FREQ * 100 < (satS 20 f).natAbs) :
    Answers (.driftLimitCheck [(r, f)]) s fun t =>
      t.fld (F.CLK_REF_INFO_FREQ r.code) = unsgn 20 (satS 20 f) ∧ t.fld (F.CLK_REF_INFO_STATE r.code) = 3 ∧
      t.fld (F.CLK_REF_INFO_WHY r.code) = 5 ∧ MemKept s t := by
  set x := s.fresh.freqNoted r.code (satS 20 f) with hx
  set y := x.softShown r.code (satS 20 f) (x.slope r.code) (x.softOver r.code (satS 20 f)) with hy
  obtain ⟨hfreq, hst⟩ := freqNoted_shows s.fresh r (satS 20 f)
  obtain ⟨-, f2, f3, f4, f5, f6⟩ := refInfo_free r
  have hyst : y.fld (F.CLK_REF_INFO_STATE r.code) = s.fld (F.CLK_REF_INFO_STATE r.code) := (softShown_keeps x r _ _ _ rfl f2).trans hst
  have hyfreq : y.fld (F.CLK_REF_INFO_FREQ r.code) = unsgn 20 (satS 20 f) := (softShown_keeps x r _ _ _ rfl f3).trans hfreq
  have heff : s.fresh.when s.fresh.clk.running (fun s => forL [(r, f)] (fun p s => s.limitCheck p.1.code p.2) s) = y.disqualify r.code 5 := by
    have h1 : s.fresh.limitCheck r.code f = y.hardJudged r.code (x.fld F.CLK_LIMITS_HARD_FREQ) (x.fld F.CLK_LIMITS_HARD_RATE) (satS 20 f)
      (x.slope r.code) := State.limitCheck_eq _ _ _
    have h2 : x.fld F.CLK_LIMITS_HARD_FREQ = s.fld F.CLK_LIMITS_HARD_FREQ := State.limits_freqNoted s.fresh r _ rfl
    rw [show s.fresh.clk.running = true from hrun]
    refine h1.trans ?_
    rw [h2]
    exact if_pos ⟨by rw [hyst]; exact hlive, hover⟩
  have hall : Chg AnyReg AnyPart NoMem s (y.disqualify r.code 5) := by
    have h1 : Chg AnyReg AnyPart NoMem s x := (Chg.refl.fresh.set _ _ trivial).refUpd _ _ trivial
    refine Chg.disqualify (fun _ _ => trivial) ⟨trivial, trivial, trivial⟩ ?_ _ _
    rw [hy]
    unfold State.softShown
    exact (Chg.ite (fun _ => (h1.event _ trivial).log _ _ _ _ trivial trivial) fun _ => h1).setB _ _ trivial
  obtain ⟨hk1, hk2, hk3, -, -⟩ := refFlds r
  have hgone : Chg ClockLoss AnyPart NoMem (y.refFailed r.code 5) (y.disqualify r.code 5) :=
    Chg.refGone (fun _ h => h) ⟨trivial, trivial, trivial⟩ Chg.refl _ _ _
  have hinfo : ¬ ClockLoss (A.CLK_REF_INFO r.code) := by cases r <;> decide
  refine answers_effect _ rfl heff hall ⟨?_, ?_, ?_, hall.memKept⟩
  · rw [State.fld_seal _ _ hk2, hgone.fld hinfo, State.refFailed, State.fld_refUpd, State.fld_set_free _ f5, State.fld_set_free _ f4, hyfreq]
  · rw [State.fld_seal _ _ hk1, hgone.fld hinfo, State.refFailed, State.fld_refUpd, State.fld_set_free _ f6, State.fld_set_same _ rfl]
    rfl
  · rw [State.fld_seal _ _ hk3, hgone.fld hinfo, State.refFailed, State.fld_refUpd, State.fld_set_same _ rfl]
    rfl

/-- A FREQ within both limits clears SOFT (R139). -/
theorem answers_driftLimitCheck_soft (s : State) (r : Reference) (f : Int) (hrun : s.clk.running = true) (hs : Shaped s)
    (hlen : (s.ref r.code).freqs.length < 59)
    (hin : (satS 20 f).natAbs ≤ min (s.fld F.CLK_LIMITS_SOFT_FREQ) (s.fld F.CLK_LIMITS_HARD_FREQ) * 100) :
    Answers (.driftLimitCheck [(r, f)]) s fun t =>
      t.fld (F.CLK_REF_INFO_FREQ r.code) = unsgn 20 (satS 20 f) ∧ t.on (F.CLK_REF_INFO_SOFT r.code) = false ∧
      t.fld (F.CLK_REF_INFO_STATE r.code) = s.fld (F.CLK_REF_INFO_STATE r.code) ∧
      Framed [A.CLK_REF_INFO r.code] [.clk] s t := by
  set x := s.fresh.freqNoted r.code (satS 20 f) with hx
  obtain ⟨hfreq, hst⟩ := freqNoted_shows s.fresh r (satS 20 f)
  obtain ⟨-, f2, f3, -, -, -⟩ := refInfo_free r
  have hr8 : r.code < (s.fresh.set (F.CLK_REF_INFO_FREQ r.code) (unsgn 20 (satS 20 f))).clk.refs.length := by
    rw [State.set_clk, show s.fresh.clk.refs.length = 8 from hs.2.2.2.2.1]
    exact Nat.lt_succ_of_lt (reference_code_lt r)
  have hslope : x.slope r.code = 0 := by
    have href : (x.ref r.code).freqs = ((satS 20 f) :: (s.ref r.code).freqs).take 60 := by
      rw [hx, State.freqNoted, State.ref_refUpd_same hr8, State.ref_of_refs (congrArg ClkS.refs (State.set_clk _ _ _))]
      rfl
    refine if_neg ?_
    rw [href, List.length_take, List.length_cons]
    omega
  have hsoft : x.softOver r.code (satS 20 f) = false := by
    rw [State.softOver, hslope, State.limits_freqNoted s.fresh r _ rfl, State.limits_freqNoted s.fresh r _ rfl,
      decide_eq_false (by simp : ¬ _ < Int.natAbs 0), Bool.or_false]
    exact decide_eq_false (Nat.not_lt.mpr hin)
  set u := x.setB (F.CLK_REF_INFO_SOFT r.code) false with hu
  have heff : s.fresh.when s.fresh.clk.running (fun s => forL [(r, f)] (fun p s => s.limitCheck p.1.code p.2) s) = u := by
    have h1 : s.fresh.limitCheck r.code f = (x.softShown r.code (satS 20 f) (x.slope r.code) (x.softOver r.code (satS 20 f))).hardJudged r.code
      (x.fld F.CLK_LIMITS_HARD_FREQ) (x.fld F.CLK_LIMITS_HARD_RATE) (satS 20 f) (x.slope r.code) := State.limitCheck_eq _ _ _
    have h2 : x.fld F.CLK_LIMITS_HARD_FREQ = s.fld F.CLK_LIMITS_HARD_FREQ := State.limits_freqNoted s.fresh r _ rfl
    have h3 : x.softShown r.code (satS 20 f) 0 false = u := rfl
    rw [show s.fresh.clk.running = true from hrun]
    refine h1.trans ?_
    rw [hslope, hsoft, h2, h3]
    unfold State.hardJudged
    dsimp only
    rw [if_neg fun h => absurd h.2 (by omega), if_neg fun h => absurd h.2 (by simp)]
  have hframe : Chg (Listed [A.CLK_REF_INFO r.code]) (Parts [.clk]) NoMem s u :=
    ((Chg.refl.fresh.set _ _ (by simp)).refUpd _ _ (by simp)).setB _ _ (by simp)
  obtain ⟨hk1, hk2, -, hk4, -⟩ := refFlds r
  refine answers_effect _ rfl heff hframe ⟨?_, ?_, ?_, hframe.framed⟩
  · rw [State.fld_seal _ _ hk2, hu, State.fld_setB_free _ f3, hfreq]
  · rw [State.on_seal _ _ hk4, hu, State.on_setB_same _ rfl]
  · rw [State.fld_seal _ _ hk1, hu, State.fld_setB_free _ f2, hst]
    rfl

/-- Settles O27, clause by clause: qualification, the revertive wait, a written SEL, a switch, votes, and limits. -/
theorem referenceChoice : Obligations.ReferenceChoice :=
  ⟨answers_refQualify, answers_revertWaitExpiry, answers_refCtlWrite, answers_refSwitch,
    fun s n h1 h2 h3 h4 h5 h6 h7 h8 h9 h10 hn => answers_refVote_counts s n ⟨h1, h2, h3, h4, h5, h6, h7, h8, h9, h10⟩ hn,
    fun s h1 h2 h3 h4 h5 h6 h7 h8 h9 h10 hho => answers_refVote_reports s ⟨h1, h2, h3, h4, h5, h6, h7, h8, h9, h10⟩ hho,
    answers_driftLimitCheck_hard, answers_driftLimitCheck_soft⟩

end Sys2Proof.Machine
end

section
/-! PROOFS. The DPLL's bandwidth, lock, history and alarm pin (R136, R140, R151). -/

namespace Sys2Proof.Machine

/-! ### Bandwidth and lock (R136) -/

/-- Within 10 µs the DPLL steps to 2.5 Hz (R136). -/
theorem answers_dpllBandwidthStep (s : State) (hst : s.fld F.CLK_REF_STATUS_STATE = 1) (hbw : s.fld F.CLK_REF_STATUS_BW = 1) :
    Answers .dpllBandwidthStep s fun t =>
      t.fld F.CLK_REF_STATUS_BW = 2 ∧ t.fld F.CLK_REF_STATUS_STATE = 1 ∧ Framed [A.CLK_REF_STATUS] [] s t := by
  set u := s.fresh.set F.CLK_REF_STATUS_BW 2 with hu
  have heff : s.fresh.bwStep = u := if_pos ⟨hst, hbw⟩
  have hframe : Chg (Listed [A.CLK_REF_STATUS]) (Parts []) NoMem s u := Chg.refl.fresh.set _ _ (by simp)
  refine answers_effect _ rfl heff hframe ⟨?_, ?_, hframe.framed⟩
  · rw [State.fld_seal _ _ (by decide), hu, State.fld_set_same _ (by decide)]
    rfl
  · rw [State.fld_seal _ _ (by decide), hu, State.fld_set_free _ (by decide)]
    exact hst

theorem State.clkState_clk (s : State) (n : Nat) : (s.clkState n).clk = s.clk := by
  unfold State.clkState
  split
  · rfl
  · rw [State.event_clk, State.set_clk]

theorem State.on_clkState_chg (s : State) {n : Nat} (h : s.fld F.CLK_REF_STATUS_STATE ≠ n) : (s.clkState n).on F.CLK_EVT_STATE_CHG = true := by
  rw [State.clkState, if_neg h, State.on_event_same _ (by decide)]

/-- Within 500 ns for 60 s CLK is LOCKED (R136). -/
theorem answers_dpllLock (s : State) (hst : s.fld F.CLK_REF_STATUS_STATE = 1) (hbw : s.fld F.CLK_REF_STATUS_BW = 2) :
    Answers .dpllLock s fun t =>
      t.fld F.CLK_REF_STATUS_STATE = 2 ∧ t.fld F.CLK_REF_STATUS_BW = 3 ∧ t.on F.CLK_EVT_STATE_CHG = true ∧
      t.clk.lockedRef = s.refInUse ∧ Framed [A.CLK_REF_STATUS, A.CLK_EVT] [.clk] s t := by
  set x := s.fresh.set F.CLK_REF_STATUS_BW 3 with hx
  set y := x.clkState clkLocked with hy
  set u := y.updClk (fun c => { c with lockedRef := s.refInUse }) with hu
  have heff : s.fresh.dpllLock = u := by
    have hc : s.fresh.fld F.CLK_REF_STATUS_STATE = clkAcq ∧ s.fresh.fld F.CLK_REF_STATUS_BW = 2 := ⟨hst, hbw⟩
    rw [State.dpllLock, if_pos hc]
    rfl
  have hxst : x.fld F.CLK_REF_STATUS_STATE = 1 := (State.fld_set_free _ (by decide) _).trans hst
  have hframe : Chg (Listed [A.CLK_REF_STATUS, A.CLK_EVT]) (Parts [.clk]) NoMem s u :=
    ((Chg.refl.fresh.set _ _ (by simp)).clkState (by simp) (by simp) _).updClk _ (by simp)
  refine answers_effect _ rfl heff hframe ⟨?_, ?_, ?_, ?_, hframe.framed⟩
  · rw [State.fld_seal _ _ (by decide), hu, State.fld_updClk, hy, State.fld_clkState_same _ (by decide)]
    rfl
  · rw [State.fld_seal _ _ (by decide), hu, State.fld_updClk, hy, State.fld_clkState_free _ _ (by decide) (by decide), hx,
      State.fld_set_same _ (by decide)]
    rfl
  · rw [State.on_seal _ _ (by decide), hu, State.on_updClk, hy, State.on_clkState_chg _ (by rw [hxst]; decide)]
  · rw [State.seal_clk_lockedRef]
    rfl

/-- Beyond 2 µs the lock is lost, beyond 10 µs with 25 Hz (R136). -/
theorem answers_dpllLockLoss (s : State) (e : Nat) (hst : s.fld F.CLK_REF_STATUS_STATE = 2) (he : 2000 < e) :
    Answers (.dpllLockLoss e) s fun t =>
      t.fld F.CLK_REF_STATUS_STATE = 1 ∧ t.fld F.CLK_REF_STATUS_BW = (if 10000 < e then 1 else 2) ∧
      t.on F.CLK_EVT_STATE_CHG = true ∧ Framed [A.CLK_REF_STATUS, A.CLK_EVT] [] s t := by
  set bw := if 10000 < e then 1 else 2 with hbw
  have hbw4 : bw < 4 := by
    rw [hbw]
    split <;> decide
  set x := s.fresh.set F.CLK_REF_STATUS_BW bw with hx
  have heff : s.fresh.dpllLoss e = x.clkState clkAcq := by
    have hst' : s.fresh.fld F.CLK_REF_STATUS_STATE = clkLocked := hst
    unfold State.dpllLoss
    dsimp only
    by_cases h : 10000 < e
    · rw [if_pos ⟨h, .inl hst'⟩, hx, hbw, if_pos h]
    · rw [if_neg (fun hh => h hh.1), if_pos ⟨he, hst'⟩, hx, hbw, if_neg h]
  have hxst : x.fld F.CLK_REF_STATUS_STATE = 2 := (State.fld_set_free _ (by decide) _).trans hst
  have hframe : Chg (Listed [A.CLK_REF_STATUS, A.CLK_EVT]) (Parts []) NoMem s (x.clkState clkAcq) :=
    (Chg.refl.fresh.set _ _ (by simp)).clkState (by simp) (by simp) _
  refine answers_effect _ rfl heff hframe ⟨?_, ?_, ?_, hframe.framed⟩
  · rw [State.fld_seal _ _ (by decide), State.fld_clkState_same _ (by decide)]
    rfl
  · rw [State.fld_seal _ _ (by decide), State.fld_clkState_free _ _ (by decide) (by decide), hx, State.fld_set_same _ (by decide)]
    exact Nat.mod_eq_of_lt hbw4
  · rw [State.on_seal _ _ (by decide), State.on_clkState_chg _ (by rw [hxst]; decide)]

/-! ### History (R140) -/

/-- The cell of the history that a shift makes of another, if one. -/
def histShift (c : Nat × Word) : Option (Nat × Word) :=
  if Nat.ble (A.CLK_HIST 0) c.1 && Nat.blt c.1 (A.CLK_HIST 1024) then
    (if c.1 + 4 < A.CLK_HIST 1024 then some (c.1 + 4, c.2) else none)
  else some c

theorem histShift_of_off {c : Nat × Word} (h : c.1 < A.CLK_HIST 0 ∨ A.CLK_HIST 1024 ≤ c.1) : histShift c = some c := by
  refine if_neg ?_
  rw [Bool.and_eq_true, Nat.ble_eq, Nat.blt_eq]
  omega

theorem histShift_of_in {c : Nat × Word} (h : A.CLK_HIST 0 ≤ c.1) (h' : c.1 + 4 < A.CLK_HIST 1024) : histShift c = some (c.1 + 4, c.2) := by
  rw [histShift, if_pos, if_pos h']
  rw [Bool.and_eq_true, Nat.ble_eq, Nat.blt_eq]
  omega

theorem histShift_of_last {c : Nat × Word} (h : A.CLK_HIST 1024 ≤ c.1 + 4) (h' : c.1 < A.CLK_HIST 1024) : histShift c = none := by
  rw [histShift, if_pos, if_neg (by omega)]
  rw [Bool.and_eq_true, Nat.ble_eq, Nat.blt_eq]
  simp only [A.CLK_HIST] at h h' ⊢
  omega

/-- An entry of the history after a shift is the one before it. -/
theorem find_histShift (l : List (Nat × Word)) {a : Nat} (h : A.CLK_HIST 0 ≤ a) (h' : a + 4 < A.CLK_HIST 1024) :
    Sparse.find (l.filterMap histShift) (a + 4) = Sparse.find l a := by
  induction l with
  | nil => rfl
  | cons c l ih =>
    obtain ⟨k, v⟩ := c
    by_cases hoff : k < A.CLK_HIST 0 ∨ A.CLK_HIST 1024 ≤ k
    · rw [List.filterMap_cons_some (histShift_of_off hoff)]
      simp only [Sparse.find]
      rw [if_neg (by omega), if_neg (by omega), ih]
    by_cases hlast : k + 4 < A.CLK_HIST 1024
    · rw [List.filterMap_cons_some (histShift_of_in (c := (k, v)) (by dsimp only; omega) hlast)]
      simp only [Sparse.find, Nat.add_right_cancel_iff]
      rw [ih]
    · rw [List.filterMap_cons_none (histShift_of_last (c := (k, v)) (by dsimp only; omega) (by dsimp only; omega)), ih]
      simp only [Sparse.find]
      rw [if_neg (by omega)]

/-- Another register does not shift. -/
theorem find_histShift_off (l : List (Nat × Word)) {a : Nat} (h : a < A.CLK_HIST 0 ∨ A.CLK_HIST 1024 ≤ a) :
    Sparse.find (l.filterMap histShift) a = Sparse.find l a := by
  induction l with
  | nil => rfl
  | cons c l ih =>
    obtain ⟨k, v⟩ := c
    by_cases hoff : k < A.CLK_HIST 0 ∨ A.CLK_HIST 1024 ≤ k
    · rw [List.filterMap_cons_some (histShift_of_off hoff)]
      simp only [Sparse.find]
      rw [ih]
    by_cases hlast : k + 4 < A.CLK_HIST 1024
    · rw [List.filterMap_cons_some (histShift_of_in (c := (k, v)) (by dsimp only; omega) hlast)]
      simp only [Sparse.find]
      rw [if_neg (by omega), if_neg (by omega), ih]
    · rw [List.filterMap_cons_none (histShift_of_last (c := (k, v)) (by dsimp only; omega) (by dsimp only; omega)), ih]
      simp only [Sparse.find]
      rw [if_neg (by omega)]

theorem rowAt_hist (v : Variant) {k : Nat} (hk : k < 1024) :
    rowAt v (A.CLK_HIST k) = some ⟨0x51000, 4, 0x400, 4, 1, 0, 0, 0, 0, 0, 0, 0, 0, 0, 0x80000000⟩ := by
  have hwin : rowsAt v (A.CLK_HIST k) = rowsCLK0 v := by
    unfold rowsAt
    rw [show A.CLK_HIST k / 0x10000 = 5 by unfold A.CLK_HIST; omega]
    rfl
  rw [rowAt, hwin, rowsCLK0, A.CLK_HIST]
  simp (disch := omega) only [find_row_skip, find_row_hit]

theorem State.reg_shiftHist_succ (s : State) {k : Nat} (hk : k < 1023) : s.shiftHist.reg (A.CLK_HIST (k + 1)) = s.reg (A.CLK_HIST k) := by
  have hreset : resetWord s.variant (A.CLK_HIST (k + 1)) = resetWord s.variant (A.CLK_HIST k) := by
    rw [resetWord, resetWord, rowAt_hist _ (by omega), rowAt_hist _ (by omega)]
    rfl
  have hfind : Sparse.find s.shiftHist.regs (A.CLK_HIST (k + 1)) = Sparse.find s.regs (A.CLK_HIST k) :=
    find_histShift s.regs (a := A.CLK_HIST k) (by unfold A.CLK_HIST; omega) (by unfold A.CLK_HIST; omega)
  rw [State.reg, State.reg, hfind]
  exact congrArg _ hreset

theorem State.reg_shiftHist_off (s : State) {a : Nat} (h : a < A.CLK_HIST 0 ∨ A.CLK_HIST 1024 ≤ a) : s.shiftHist.reg a = s.reg a := by
  have hfind : Sparse.find s.shiftHist.regs a = Sparse.find s.regs a := find_histShift_off s.regs h
  rw [State.reg, State.reg, hfind]
  rfl

theorem Chg.shiftHist {R : Nat → Prop} {P : Part → Prop} {M : Nat → Prop} {s t : State} (h : Chg R P M s t)
    (hR : ∀ a, A.CLK_HIST 0 ≤ a → a < A.CLK_HIST 1024 → R a) : Chg R P M s t.shiftHist := by
  refine h.of_same rfl (fun a ha => State.reg_shiftHist_off t ?_) (fun _ _ => Part.Same.of_regs) fun _ _ => rfl
  by_contra hin
  exact ha (hR a (by omega) (by omega))

/-- The history shifts, and its newest entry and its count are written. -/
def State.histPushed (s : State) (v : Nat) : State :=
  let s := s.shiftHist.wr (A.CLK_HIST 0) v
  s.wr A.CLK_HIST_SEQ (s.rd A.CLK_HIST_SEQ + 1)

/-- The second ends in HOLDOVER, under a reference, or neither. -/
def State.secondShown (s : State) (st : Nat) (mean phase : Int) : State :=
  if st = clkHold then s.set F.CLK_HO_STATUS_HO_S (min (s.fld F.CLK_HO_STATUS_HO_S + 1) 0xFFFFF)
  else if st = clkAcq ∨ st = clkLocked then
    (s.wr A.CLK_FCW (unsgn 32 (satS 32 mean))).wr A.CLK_PHASE_ERR (unsgn 32 (satS 32 phase))
  else s

theorem State.historyWrite_eq (s : State) (mean phase : Int) : s.historyWrite mean phase =
    (s.histPushed (if s.fld F.CLK_REF_STATUS_STATE = clkLocked then unsgn 32 (satS 32 mean) else 0x80000000)).secondShown
      (s.fld F.CLK_REF_STATUS_STATE) mean phase := rfl

/-- What the end of a second shows past the history. -/
def SecondReg (a : Nat) : Prop := a = A.CLK_HO_STATUS ∨ a = A.CLK_FCW ∨ a = A.CLK_PHASE_ERR

theorem chg_secondShown (s : State) (st : Nat) (mean phase : Int) : Chg SecondReg (Parts []) NoMem s (s.secondShown st mean phase) := by
  unfold State.secondShown
  exact Chg.ite (fun _ => Chg.refl.set _ _ (.inl rfl)) fun _ => Chg.ite
    (fun _ => (Chg.refl.wr _ _ (.inr (.inl rfl))).wr _ _ (.inr (.inr rfl))) fun _ => Chg.refl

theorem histPushed_shows (s : State) {v : Nat} (hv : v < 2 ^ 32) : (s.histPushed v).rd (A.CLK_HIST 0) = v ∧
    (∀ k < 1023, (s.histPushed v).reg (A.CLK_HIST (k + 1)) = s.reg (A.CLK_HIST k)) ∧
    (s.histPushed v).rd A.CLK_HIST_SEQ = (s.rd A.CLK_HIST_SEQ + 1) % 2 ^ 32 := by
  have hseq : (s.shiftHist.wr (A.CLK_HIST 0) v).rd A.CLK_HIST_SEQ = s.rd A.CLK_HIST_SEQ :=
    (State.rd_wr_ne _ (by decide)).trans (State.rd_eq_of_reg (s.reg_shiftHist_off (by decide)))
  refine ⟨?_, fun k hk => ?_, ?_⟩
  · exact (State.rd_wr_ne _ (by decide)).trans ((State.rd_wr_same _ _ _).trans (Nat.mod_eq_of_lt hv))
  · have h1 : A.CLK_HIST (k + 1) ≠ A.CLK_HIST_SEQ := by simp only [A.CLK_HIST, A.CLK_HIST_SEQ]; omega
    have h2 : A.CLK_HIST (k + 1) ≠ A.CLK_HIST 0 := by simp only [A.CLK_HIST]; omega
    exact (State.reg_wr_ne _ _ h1).trans ((State.reg_wr_ne _ _ h2).trans (s.reg_shiftHist_succ hk))
  · exact (State.rd_wr_same _ _ _).trans (by rw [hseq])

theorem unsgn32_lt (i : Int) : unsgn 32 i < 2 ^ 32 := by
  unfold unsgn
  omega

/-- Each second shifts the history and writes the second's mean (R140). -/
theorem answers_historyWrite (s : State) (mean phase : Int) (dt : Nat) (hrun : s.clk.running = true) :
    Answers (.historyWrite mean phase dt) s fun t =>
      t.rd (A.CLK_HIST 0) = (if s.fld F.CLK_REF_STATUS_STATE = 2 then unsgn 32 (satS 32 mean) else 0x80000000) ∧
      (∀ k < 1023, t.reg (A.CLK_HIST (k + 1)) = s.reg (A.CLK_HIST k)) ∧
      t.rd A.CLK_HIST_SEQ = (s.rd A.CLK_HIST_SEQ + 1) % 2 ^ 32 ∧
      (s.fld F.CLK_REF_STATUS_STATE = 3 →
        t.fld F.CLK_HO_STATUS_HO_S = min (s.fld F.CLK_HO_STATUS_HO_S + 1) 0xFFFFF ∧ t.reg A.CLK_FCW = s.reg A.CLK_FCW) ∧
      (s.fld F.CLK_REF_STATUS_STATE = 2 → t.rd A.CLK_FCW = unsgn 32 (satS 32 mean)) ∧ MemKept s t := by
  set e := s.fresh.advance dt with he
  have hst : e.fld F.CLK_REF_STATUS_STATE = s.fld F.CLK_REF_STATUS_STATE := State.fld_advance_ne dt (by decide)
  set v := if s.fld F.CLK_REF_STATUS_STATE = 2 then unsgn 32 (satS 32 mean) else 0x80000000 with hv
  have hv32 : v < 2 ^ 32 := by
    rw [hv]
    split
    · exact unsgn32_lt _
    · decide
  set x := e.histPushed v with hx
  set u := x.secondShown (s.fld F.CLK_REF_STATUS_STATE) mean phase with hu
  have heff : e.when e.clk.running (fun s => s.historyWrite mean phase) = u := by
    rw [(s.running_elapsed dt).trans hrun, State.when_true, State.historyWrite_eq, hst]
    rfl
  obtain ⟨h0, hshift, hseq⟩ := histPushed_shows e hv32
  have hlast : Chg SecondReg (Parts []) NoMem x u := chg_secondShown x _ mean phase
  have hpush : Chg (fun a => a = A.CLK_HIST_SEQ ∨ A.CLK_HIST 0 ≤ a ∧ a < A.CLK_HIST 1024) AnyPart NoMem e x :=
    ((Chg.refl.shiftHist fun a h1 h2 => .inr ⟨h1, h2⟩).wr _ _ (.inr (by decide))).wr _ _ (.inl rfl)
  have hall : Chg AnyReg AnyPart NoMem s u := (chg_elapsed_time s dt (fun _ h => h)).anywhere.trans (hpush.anywhere.trans hlast.anywhere)
  have hent (k : Nat) : ¬ SecondReg (A.CLK_HIST k) := by
    simp only [SecondReg, A.CLK_HIST, A.CLK_HO_STATUS, A.CLK_FCW, A.CLK_PHASE_ERR]
    omega
  have hsum (k : Nat) (hk : k < 1024) : A.CLK_HIST k ∉ summaries := by
    simp only [summaries, List.mem_cons, List.not_mem_nil, or_false, A.CLK_HIST, A.PWR_STATUS, A.TEST_FAULT, A.TEST_EVT, A.MSTAT_SAT_SUM,
      A.SYS_IRQ_STATUS]
    omega
  refine answers_effect _ rfl heff hall ⟨?_, fun k hk => ?_, ?_, fun h3 => ⟨?_, ?_⟩, fun h2 => ?_, hall.memKept⟩
  · exact (State.rd_seal _ _ (by decide)).trans ((State.rd_eq_of_reg (hlast.reg _ (hent 0))).trans h0)
  · refine (State.reg_seal _ _ (hsum _ (by omega))).trans ((hlast.reg _ (hent _)).trans ((hshift k hk).trans (State.reg_advance _ _ ?_)))
    simp only [List.mem_cons, List.not_mem_nil, or_false, timeRegs, A.CLK_HIST, A.CLK_MISALIGN, A.CLK_EVT, A.MGMT_EVT]
    omega
  · refine (State.rd_seal _ _ (by decide)).trans ((State.rd_eq_of_reg (hlast.reg _ (by unfold SecondReg; decide))).trans (hseq.trans ?_))
    rw [he, State.rd_advance_ne dt (by decide)]
    rfl
  · have hhold : u = x.set F.CLK_HO_STATUS_HO_S (min (x.fld F.CLK_HO_STATUS_HO_S + 1) 0xFFFFF) := if_pos h3
    have hs : x.fld F.CLK_HO_STATUS_HO_S = s.fld F.CLK_HO_STATUS_HO_S := (hpush.fld (by decide)).trans (State.fld_advance_ne dt (by decide))
    rw [State.fld_seal _ _ (by decide), hhold, State.fld_set_same _ (by decide), hs]
    exact Nat.mod_eq_of_lt (show min (s.fld F.CLK_HO_STATUS_HO_S + 1) 0xFFFFF < 2 ^ 20 by omega)
  · have hhold : u = x.set F.CLK_HO_STATUS_HO_S (min (x.fld F.CLK_HO_STATUS_HO_S + 1) 0xFFFFF) := if_pos h3
    rw [State.reg_seal _ _ (by decide), hhold, State.reg_set_ne _ _ _ (by decide), hpush.reg _ (by decide)]
    exact State.reg_advance _ _ (by decide)
  · have hlock : u = (x.wr A.CLK_FCW (unsgn 32 (satS 32 mean))).wr A.CLK_PHASE_ERR (unsgn 32 (satS 32 phase)) := by
      rw [hu, State.secondShown, h2, if_neg (by decide), if_pos (.inr rfl)]
    rw [State.rd_seal _ _ (by decide), hlock, State.rd_wr_ne _ (by decide), State.rd_wr_same]
    exact Nat.mod_eq_of_lt (unsgn32_lt _)

/-! ### The alarm pin (R151) -/

theorem forN_congr {α : Type} {n : Nat} {f g : Nat → α → α} (h : ∀ i < n, ∀ a, f i a = g i a) (a : α) : forN n f a = forN n g a := by
  have hl (l : List Nat) (hl : ∀ i ∈ l, i < n) : ∀ a, l.foldl (fun x i => f i x) a = l.foldl (fun x i => g i x) a := by
    induction l with
    | nil => exact fun _ => rfl
    | cons i l ih =>
      intro a
      rw [List.foldl_cons, List.foldl_cons, h i (hl i List.mem_cons_self), ih fun j hj => hl j (List.mem_cons_of_mem _ hj)]
  exact hl _ (fun i hi => List.mem_range.mp hi) a

theorem anyN_congr {n : Nat} {p q : Nat → Bool} (h : ∀ i < n, p i = q i) : anyN n p = anyN n q := by
  rw [anyN, anyN, Bool.eq_iff_iff, List.any_eq_true, List.any_eq_true]
  exact exists_congr fun i => and_congr_right fun hi => by rw [h i (List.mem_range.mp hi)]

/-- The alarm's conditions depend on no summary register. -/
theorem State.almCond_of_reg {s t : State} (h : ∀ a, a ∉ summaries → t.reg a = s.reg a) : t.almCond = s.almCond := by
  have hf {f : Fld} (hf : f.adr ∉ summaries) : t.fld f = s.fld f := State.fld_eq_of_reg (h _ hf)
  have hsum (r : Nat) (hr : r < 8) : A.CLK_REF_INFO r ∉ summaries := by
    simp only [summaries, List.mem_cons, List.not_mem_nil, or_false, A.CLK_REF_INFO, A.PWR_STATUS, A.TEST_FAULT, A.TEST_EVT, A.MSTAT_SAT_SUM,
      A.SYS_IRQ_STATUS]
    omega
  have hu : t.unitOn 7 = s.unitOn 7 := by rw [State.unitOn, State.bitOf, hf (by decide), State.unitOn, State.bitOf]
  have hrank (r : Nat) : t.rank r = s.rank r := State.rank_of_regs (hf (by decide)) (State.rd_eq_of_reg (h _ (by decide))) r
  have hq (r : Nat) (hr : r < 8) : t.qualified r = s.qualified r := by rw [State.qualified, hf (hsum r hr), State.qualified]
  have hsel : t.refInUse = s.refInUse := hf (by decide)
  have hbest : t.bestRank = s.bestRank := forN_congr (fun r hr b => by rw [hq r (by omega), hrank]) 0
  have hany : anyN 7 (fun r => t.rank r != 0 && (t.fld (F.CLK_REF_INFO_STATE r) == 3 || t.on (F.CLK_REF_INFO_SUSPECT r))) =
      anyN 7 (fun r => s.rank r != 0 && (s.fld (F.CLK_REF_INFO_STATE r) == 3 || s.on (F.CLK_REF_INFO_SUSPECT r))) :=
    anyN_congr fun r hr => by rw [hrank, hf (hsum r (by omega)), State.on, hf (hsum r (by omega)), State.on]
  have hsel8 : s.refInUse < 8 := s.fld_lt F.CLK_REF_STATUS_SEL
  unfold State.almCond
  dsimp only
  rw [hu, hf (by decide), hsel, hbest, hq _ hsel8, hrank, hany, State.on, hf (by decide), State.on]

theorem State.seal_almLow {s u : State} (h : u.almCond = false) : (s.seal u).clk.almLow = u.clk.almLow := by
  have hc : u.settleFault.almCond = false := by
    refine (State.almCond_of_reg fun a ha => ?_).trans h
    simp only [summaries, List.mem_cons, List.not_mem_nil, or_false, not_or] at ha
    exact State.reg_settleFault_ne _ ha.1 ha.2.1 ha.2.2.1
  have ha : u.settleFault.settleAlm = u.settleFault := by
    rw [State.settleAlm, hc, Bool.false_and, if_neg Bool.false_ne_true]
  have hs : u.settle.clk = u.settleFault.settleAlm.clk := by
    rw [State.settle_eq, State.settleMsix_clk, State.settleMsix_clk, State.keepWord_clk, State.preIrq, State.keepWord_clk]
  have hseal : (s.seal u).clk = u.settle.clk := rfl
  rw [hseal, hs, ha, State.settleFault_clk]

/-- REF_ALM_N is released once no condition holds (R151). -/
theorem answers_refAlmRelease (s : State) (h : s.almCond = false) :
    Answers .refAlmRelease s fun t => t.clk.almLow = false ∧ Framed [] [] s t := by
  set u := s.fresh.updClk (fun c => { c with almLow := false }) with hu
  have heff : (if s.fresh.almCond then s.fresh else u) = u := if_neg fun hc => Bool.false_ne_true (h.symm.trans hc)
  have hframe : Chg (Listed []) (Parts []) NoMem s u :=
    Chg.refl.of_same rfl (fun _ _ => rfl) (fun p _ hp => by cases p <;> exact hp) fun _ _ => rfl
  refine answers_effect _ rfl heff hframe ⟨?_, hframe.framed⟩
  rw [State.seal_almLow (u := u) h]
  rfl

/-- Settles O28, clause by clause: the bandwidth's step, lock, its loss, a second's history, and the alarm pin. -/
theorem dpll : Obligations.Dpll :=
  ⟨answers_dpllBandwidthStep, answers_dpllLock, answers_dpllLockLoss, answers_historyWrite, answers_refAlmRelease⟩

end Sys2Proof.Machine
end

section
/-! PROOFS. The media chain: REALIGN, RATE and the MCLK outputs (R148 to R150). -/

namespace Sys2Proof.Machine

/-! ### REALIGN (R148) -/

theorem realignMedia_strikes : Strikes A.CLK_REALIGN 16 := fun v => by cases v <;> decide

theorem realignMedia_effect (s : State) (m : Master) (priv : Bool) (hd : Direct s m priv A.CLK_REALIGN) :
    s.fresh.strike m priv A.CLK_REALIGN 16 = s.fresh.realignMedia := by
  have hclk : s.fresh.regEffect m (s.masterPriv m priv) A.CLK_REALIGN (s.reg A.CLK_REALIGN) 16 =
      s.fresh.clkEffect A.CLK_REALIGN (s.reg A.CLK_REALIGN) 16 := rfl
  have htpo : forN 4 (fun n t => t.when ((16 : Nat).testBit n) (fun t => t.tpoRealign n)) s.fresh = s.fresh :=
    forN_same id 4 _ _ fun i hi t => by interval_cases i <;> rfl
  rw [hd.strike realignMedia_strikes, hclk, State.clkEffect, if_neg (by decide), if_pos rfl, htpo]
  rfl

theorem State.misalign_of_rate {s t : State} (ht : t.time = s.time) (hr : t.fld F.CLK_MEDIA_CFG_RATE = s.fld F.CLK_MEDIA_CFG_RATE) :
    t.misalign = s.misalign := by
  have hfs : t.fs = s.fs := by rw [State.fs, hr, State.fs]
  have hd : t.disp = s.disp := by rw [State.disp, ht, State.disp]
  have hw : t.want = s.want := by rw [State.want, hd, hfs, State.want]
  rw [State.misalign, hd, hw, hfs, State.misalign]

theorem State.misalign_busy (s : State) : (s.fresh.set F.CLK_REALIGN_BUSY 1).misalign = s.misalign :=
  (State.misalign_of_rate (State.set_time _ _ _) (State.fld_set_ne _ _ (by decide)) : _ = s.fresh.misalign)

/-- Every running port fades for a realign. -/
def State.realignFade (s : State) : State :=
  forN s.tdmPorts (fun n s => s.when (s.tdmRunning n) (fun s => s.tdmCauseOn n causeRealign)) s

theorem State.realignMedia_member {s : State} (hb : s.on F.CLK_REALIGN_BUSY = false) (hsp : s.spliceMember = false) :
    s.fresh.realignMedia = if (s.fresh.set F.CLK_REALIGN_BUSY 1).misalign.natAbs < 2 * nsU
      then (s.fresh.set F.CLK_REALIGN_BUSY 1).updClk (fun c => { c with realign := .ready })
      else (s.fresh.set F.CLK_REALIGN_BUSY 1).realignFade.updClk (fun c => { c with realign := .fading }) := by
  have h1 : s.fresh.on F.CLK_REALIGN_BUSY = false := hb
  have h2 : s.fresh.spliceMember = false := hsp
  rw [State.realignMedia, h1, h2, if_neg Bool.false_ne_true, if_neg Bool.false_ne_true]
  rfl

/-- A realign of less than 2 ns needs no fade (R148). -/
theorem answers_realignMedia_ready (s : State) (m : Master) (priv : Bool) (hd : Direct s m priv A.CLK_REALIGN)
    (hb : s.on F.CLK_REALIGN_BUSY = false) (hsp : s.spliceMember = false) (hm : s.misalign.natAbs < 2 * nsU) :
    Answers (.realignMedia m priv) s fun t =>
      t.on F.CLK_REALIGN_BUSY = true ∧ t.clk.realign = .ready ∧ Framed [A.CLK_REALIGN] [.clk] s t := by
  set u := (s.fresh.set F.CLK_REALIGN_BUSY 1).updClk (fun c => { c with realign := .ready }) with hu
  have heff : s.fresh.strike m priv A.CLK_REALIGN 16 = u := by
    rw [realignMedia_effect s m priv hd, State.realignMedia_member hb hsp, State.misalign_busy, if_pos hm]
  have hframe : Chg (Listed [A.CLK_REALIGN]) (Parts [.clk]) NoMem s u := (Chg.refl.fresh.set _ _ (by simp)).updClk _ (by simp)
  refine answers_effect _ rfl heff hframe ⟨?_, ?_, hframe.framed⟩
  · rw [State.on_seal _ _ (by decide), hu, State.on_updClk, State.on_set_same _ (by decide)]
    rfl
  · rw [State.seal_clk_realign]
    rfl

theorem Chg.realignFade {R : Nat → Prop} {P : Part → Prop} {M : Nat → Prop} {s t : State} (h : Chg R P M s t) (hr : ∀ a ∈ fadesRegs, R a)
    (hp : P .tdm) : Chg R P M s t.realignFade := by
  refine Chg.forN _ _ (fun n hn v hv => hv.when _ _ fun _ => ?_) h
  have hn8 : n < 8 := Nat.lt_of_lt_of_le hn t.tdmPorts_le
  exact hv.tdmCauseOn hn8 _ (fun a ha => hr a (fadeRegs_sub hn8 ha)) hp

/-- A running port that sounds fades for a realign. -/
theorem State.realignFade_fades (s : State) {n : Nat} (hn : n < s.tdmPorts) (hrun : s.tdmRunning n = true)
    (h : s.fld (F.TDM_STATUS_GAIN_STATE n) = 0) : s.realignFade.fld (F.TDM_STATUS_GAIN_STATE n) = 1 := by
  have hn8 : n < 8 := Nat.lt_of_lt_of_le hn s.tdmPorts_le
  unfold State.realignFade
  have hgoal := forN_at (fun t => (t.tdmRunning n, t.fld (F.TDM_STATUS_GAIN_STATE n))) (·.2 = 1) s.tdmPorts n
    (fun n s => s.when (s.tdmRunning n) (fun s => s.tdmCauseOn n causeRealign)) s hn (fun i hi hin t => ?_) fun t ht => ?_
  · exact hgoal
  · have hi8 : i < 8 := Nat.lt_of_lt_of_le hi s.tdmPorts_le
    have hchg : Chg (· ∈ fadeRegs i) (Parts [.tdm]) NoMem t (t.when (t.tdmRunning i) (fun s => s.tdmCauseOn i causeRealign)) :=
      Chg.refl.when _ _ fun _ => Chg.refl.tdmCauseOn hi8 _ (fun a ha => ha) (by simp)
    exact Prod.ext (hchg.on (tdmStatus_notMem_fadeRegs hn8 hin)) (hchg.fld (tdmStatus_notMem_fadeRegs hn8 hin))
  · obtain ⟨h1, h2⟩ := Prod.ext_iff.mp ht
    dsimp only at h1 h2 ⊢
    rw [h1, hrun, State.when_true]
    exact State.tdmCauseOn_fades t n causeRealign (h2.trans h) hn8

/-- A realign of 2 ns or more fades every running port first (R148). -/
theorem answers_realignMedia_fading (s : State) (m : Master) (priv : Bool) (hd : Direct s m priv A.CLK_REALIGN)
    (hb : s.on F.CLK_REALIGN_BUSY = false) (hsp : s.spliceMember = false) (hm : 2 * nsU ≤ s.misalign.natAbs) :
    Answers (.realignMedia m priv) s fun t =>
      t.on F.CLK_REALIGN_BUSY = true ∧ t.clk.realign = .fading ∧
      (∀ n < s.tdmPorts, s.tdmRunning n = true → s.fld (F.TDM_STATUS_GAIN_STATE n) = 0 → t.fld (F.TDM_STATUS_GAIN_STATE n) = 1) ∧
      MemKept s t := by
  set x := s.fresh.set F.CLK_REALIGN_BUSY 1 with hx
  set u := x.realignFade.updClk (fun c => { c with realign := .fading }) with hu
  have heff : s.fresh.strike m priv A.CLK_REALIGN 16 = u := by
    rw [realignMedia_effect s m priv hd, State.realignMedia_member hb hsp, State.misalign_busy, if_neg (Nat.not_lt.mpr hm)]
  have hall : Chg AnyReg AnyPart NoMem s u :=
    ((Chg.refl.fresh.set _ _ trivial).realignFade (fun _ _ => trivial) trivial).updClk _ trivial
  have hfade : Chg (· ∈ fadesRegs) (Parts [.tdm]) NoMem x x.realignFade := Chg.refl.realignFade (fun _ h => h) (by simp)
  have hx' {f : Fld} (h : f.adr ≠ A.CLK_REALIGN) : x.fld f = s.fld f := State.fld_set_ne _ _ h
  have hne (n : Nat) : A.TDM_STATUS n ≠ A.CLK_REALIGN := by simp only [A.TDM_STATUS, A.CLK_REALIGN]; omega
  refine answers_effect _ rfl heff hall ⟨?_, ?_, fun n hn hrun h0 => ?_, hall.memKept⟩
  · rw [State.on_seal _ _ (by decide), hu, State.on_updClk, hfade.on (by decide), hx, State.on_set_same _ (by decide)]
    rfl
  · rw [State.seal_clk_realign]
    rfl
  · have hn8 : n < 8 := Nat.lt_of_lt_of_le hn s.tdmPorts_le
    rw [State.fld_seal _ _ (tdmGain_kept hn8), hu, State.fld_updClk]
    refine State.realignFade_fades x ?_ ?_ ((hx' (hne n)).trans h0)
    · rw [State.tdmPorts, hx, State.set_variant]
      exact hn
    · exact (congrArg (· != 0) (hx' (f := F.TDM_STATUS_RUNNING n) (hne n))).trans hrun

/-- A splice member refuses a realign (R148). -/
theorem answers_realignMedia_refused (s : State) (m : Master) (priv : Bool) (hd : Direct s m priv A.CLK_REALIGN)
    (hb : s.on F.CLK_REALIGN_BUSY = false) (hsp : s.spliceMember = true) :
    Answers (.realignMedia m priv) s fun t =>
      t.on F.CLK_REALIGN_BUSY = false ∧ t.on F.CLK_EVT_REALIGN_REFUSED = true ∧ Framed [A.CLK_EVT] [] s t := by
  set u := s.fresh.event F.CLK_EVT_REALIGN_REFUSED with hu
  have heff : s.fresh.strike m priv A.CLK_REALIGN 16 = u := by
    have h1 : s.fresh.on F.CLK_REALIGN_BUSY = false := hb
    have h2 : s.fresh.spliceMember = true := hsp
    rw [realignMedia_effect s m priv hd, State.realignMedia, h1, h2, if_neg Bool.false_ne_true, if_pos rfl]
  have hframe : Chg (Listed [A.CLK_EVT]) (Parts []) NoMem s u := Chg.refl.fresh.event _ (by simp)
  refine answers_effect _ rfl heff hframe ⟨?_, ?_, hframe.framed⟩
  · rw [State.on_seal _ _ (by decide), hu, State.on_event_free _ (by decide)]
    exact hb
  · rw [State.on_seal _ _ (by decide), hu, State.on_event_same _ (by decide)]

/-! ### The move (R148) -/

/-- The chain has moved, and the ports ramp back. -/
def State.realigned (s : State) : State :=
  let s := (s.set F.CLK_REALIGN_BUSY 0).event F.CLK_EVT_REALIGNED
  (s.updMisalign.tdmCauseMask 0xFF causeRealign false).updClk (fun c => { c with realign := .idle, misHigh := false })

theorem State.realignMove_eq {s : State} {mis : Int} (h : s.clk.realign = .moving mis) (ha : s.splice.align = false) :
    s.realignMove = (s.updTime (fun t => { t with disp0 := t.disp0 + mis })).toBoundary.realigned := by
  have hs : (s.updTime (fun t => { t with disp0 := t.disp0 + mis })).splice.align = false := ha
  unfold State.realignMove
  rw [h]
  dsimp only
  rw [hs, if_neg Bool.false_ne_true]
  rfl

theorem Chg.updMisalign {R : Nat → Prop} {P : Part → Prop} {M : Nat → Prop} {s t : State} (h : Chg R P M s t) (h1 : R A.CLK_MISALIGN)
    (h2 : R A.CLK_EVT) (hp : P .clk) : Chg R P M s t.updMisalign :=
  Chg.clk ((h.wr _ _ h1).when _ _ fun _ => (h.wr _ _ h1).event _ h2) _ hp

theorem State.on_updMisalign_evt (s : State) {f : Fld} (h : f.adr ≠ A.CLK_MISALIGN) (hf : Fld.free F.CLK_EVT_MISALIGN f = true) :
    s.updMisalign.on f = s.on f := by
  have hw (b : Bool) (u : State) : (u.when b (fun s => s.event F.CLK_EVT_MISALIGN)).fld f = u.fld f := State.fld_when_event b hf
  have h1 : s.updMisalign.fld f = ((s.wr A.CLK_MISALIGN (nsReg s.misalign)).when (decide (s.misalign.natAbs > 100 * nsU) && !s.clk.misHigh)
    (fun s => s.event F.CLK_EVT_MISALIGN)).fld f := rfl
  exact congrArg (· != 0) (h1.trans ((hw _ _).trans (State.fld_wr_ne _ _ h)))

/-- The moved boundary ends the realign (R148). -/
theorem answers_realignMove (s : State) (mis : Int) (h : s.clk.realign = .moving mis) (ha : s.splice.align = false) :
    Answers .realignMove s fun t =>
      t.on F.CLK_REALIGN_BUSY = false ∧ t.on F.CLK_EVT_REALIGNED = true ∧ t.clk.realign = .idle ∧
      t.time.disp0 = s.time.disp0 + mis ∧ MemKept s t := by
  set w := s.fresh.updTime (fun t => { t with disp0 := t.disp0 + mis }) with hw
  set e := w.toBoundary with he
  set x := (e.set F.CLK_REALIGN_BUSY 0).event F.CLK_EVT_REALIGNED with hx
  set y := x.updMisalign with hy
  set u := e.realigned with hu
  have heff : s.fresh.realignMove = u := State.realignMove_eq h ha
  have hlast : Chg (fun a => 0xa0000 ≤ a) (Parts [.tdm, .clk]) NoMem y u := by
    rw [hu, State.realigned]
    exact (Chg.tdmCauseMask (R := fun a => 0xa0000 ≤ a) (P := Parts [.tdm, .clk]) (fun _ h => h) (by simp) Chg.refl _ _ _).updClk _ (by simp)
  have hadv : Chg (Listed timeRegs) (Parts [.time, .clk, .mgmt]) NoMem s e :=
    (Chg.refl.fresh.updTime _ (by simp)).advance _ (fun a ha => .inl ha) (by simp) (by simp) (by simp)
  have hall : Chg AnyReg AnyPart NoMem s u :=
    ((((hadv.anywhere.set _ _ trivial).event _ trivial).updMisalign trivial trivial trivial).trans hlast.anywhere)
  have hon {f : Fld} (hk : f.kept = true) (h1 : f.adr < 0xa0000) (h2 : f.adr ≠ A.CLK_MISALIGN) (h3 : Fld.free F.CLK_EVT_MISALIGN f = true) :
      (s.seal u).on f = x.on f :=
    (State.on_seal _ _ hk).trans ((hlast.on (Nat.not_le.mpr h1)).trans (State.on_updMisalign_evt x h2 h3))
  refine answers_effect _ rfl heff hall ⟨?_, ?_, ?_, ?_, hall.memKept⟩
  · rw [hon (by decide) (by decide) (by decide) (by decide), hx, State.on_event_free _ (by decide), State.on_set_same _ (by decide)]
    rfl
  · rw [hon (by decide) (by decide) (by decide) (by decide), hx, State.on_event_same _ (by decide)]
  · rw [State.seal_clk_realign]
    rfl
  · have htime : u.time = e.time := by
      rw [hlast.part .time (by simp), hy, State.updMisalign_time, hx, State.event_time, State.set_time]
    rw [State.seal_time, htime, he]
    obtain ⟨tb, sl, acc, hadv⟩ := State.advance_time w (w.efUp (w.clk.lastEf + 1) - w.time.up).toNat
    rw [State.toBoundary, hadv]
    rfl

/-! ### RATE (R149) -/

theorem mediaCfg_stores : StoresEverywhere A.CLK_MEDIA_CFG := fun v => by cases v <;> decide

/-- What a new RATE changes besides its register. -/
def RateReg (a : Nat) : Prop := ClockLoss a ∨ a = A.CLK_REF_INFO 5

/-- The frames and the ports take a new RATE. -/
def State.rateTaken (s : State) : State :=
  let s := s.updClk (fun c => { c with lastEf := s.chainIdx / s.efLen })
  { s with tdm := s.tdm.map (fun p => { p with pendCfg := true, pendMap := true }) }

/-- The word clock is judged by a new RATE (R127). -/
def State.wckJudged (s : State) : State :=
  if !(s.ref 5).tracking || s.on (F.CLK_REF_INFO_SUSPECT 5) then s
  else if s.wrongFamily then s.disqualify 5 4 else s.refValid 5

theorem State.mediaCfg_eq (s : State) (old : Word) : s.mediaCfg old =
    if s.fld F.CLK_MEDIA_CFG_RATE = F.CLK_MEDIA_CFG_RATE.of old.toNat then s
    else if 5 < s.fld F.CLK_MEDIA_CFG_RATE then s.set F.CLK_MEDIA_CFG_RATE (F.CLK_MEDIA_CFG_RATE.of old.toNat)
    else if s.modState ≠ stStaging then (s.set F.CLK_MEDIA_CFG_RATE (F.CLK_MEDIA_CFG_RATE.of old.toNat)).event F.CLK_EVT_RATE_REFUSED
    else s.rateTaken.wckJudged := rfl

section
variable {R : Nat → Prop} {P : Part → Prop} {M : Nat → Prop} {s t : State}

theorem Chg.refValid (h : Chg R P M s t) {r : Nat} (hi : R (A.CLK_REF_INFO r)) (hp : P .clk) : Chg R P M s (t.refValid r) := by
  unfold State.refValid
  exact Chg.ite (fun _ => h) fun _ => (h.set _ _ hi).refUpd _ _ hp

theorem Chg.wckJudged (h : Chg R P M s t) (hR : ∀ a, RateReg a → R a) (hp : ClockParts P) : Chg R P M s t.wckJudged := by
  have hi : R (A.CLK_REF_INFO 5) := hR _ (.inr rfl)
  unfold State.wckJudged
  exact Chg.ite (fun _ => h) fun _ => Chg.ite (fun _ => Chg.disqualifyOf (fun a ha => hR a (.inl ha)) hp h hi _) fun _ => h.refValid hi hp.clk

theorem Chg.rateTaken (h : Chg R P M s t) (hp : ClockParts P) : Chg R P M s t.rateTaken := (h.updClk _ hp.clk).tdm _ hp.tdm

end

/-- In STAGING a RATE is taken (R149). -/
theorem answers_mediaCfgWrite_taken (s : State) (m : Master) (priv : Bool) (w : Word) (hd : Direct s m priv A.CLK_MEDIA_CFG)
    (hr : AsItReads s A.CLK_MEDIA_CFG w) (h5 : F.CLK_MEDIA_CFG_RATE.of w.toNat ≤ 5) (hst : s.modState = 2) :
    Answers (.mediaCfgWrite (whole m priv w)) s fun t => t.reg A.CLK_MEDIA_CFG = w ∧ MemKept s t := by
  by_cases heq : s.reg A.CLK_MEDIA_CFG = w
  · have hframe : Chg AnyReg AnyPart NoMem s s.fresh := Chg.refl.fresh
    exact answers_effect _ rfl (hd.stores_same hr mediaCfg_stores (by decide) heq) hframe ⟨(State.reg_seal _ _ (by decide)).trans heq, hframe.memKept⟩
  set e := s.fresh.wr A.CLK_MEDIA_CFG w.toNat with he
  have hrate : e.fld F.CLK_MEDIA_CFG_RATE = F.CLK_MEDIA_CFG_RATE.of w.toNat := State.fld_wr_word s.fresh _ w rfl
  have hmod : e.modState = 2 := (State.fld_wr_ne _ _ (by decide)).trans hst
  set u := e.mediaCfg (s.reg A.CLK_MEDIA_CFG) with hu
  have heff : s.fresh.words A.CLK_MEDIA_CFG (whole m priv w) = u := by
    have hreg : e.regEffect m (s.masterPriv m priv) A.CLK_MEDIA_CFG (s.reg A.CLK_MEDIA_CFG) 0 = u := rfl
    rw [hd.stores hr mediaCfg_stores heq, ← he, hreg]
  have hchg : Chg RateReg AnyPart NoMem e u := by
    rw [hu, State.mediaCfg_eq]
    refine Chg.ite (fun _ => Chg.refl) fun _ => ?_
    rw [hrate, if_neg (Nat.not_lt.mpr h5), hmod, if_neg (by decide)]
    exact (Chg.refl.rateTaken ⟨trivial, trivial, trivial⟩).wckJudged (fun _ h => h) ⟨trivial, trivial, trivial⟩
  have hall : Chg AnyReg AnyPart NoMem s u := (Chg.refl.fresh.wr _ _ trivial).trans hchg.anywhere
  refine answers_effect _ rfl heff hall ⟨?_, hall.memKept⟩
  rw [State.reg_seal _ _ (by decide), hchg.reg _ (by unfold RateReg; decide), he, State.reg_wr_same, BitVec.ofNat_toNat, BitVec.setWidth_eq]

/-- Elsewhere a new RATE is refused (R149). -/
theorem answers_mediaCfgWrite_refused (s : State) (m : Master) (priv : Bool) (w : Word) (hd : Direct s m priv A.CLK_MEDIA_CFG)
    (hr : AsItReads s A.CLK_MEDIA_CFG w) (h5 : F.CLK_MEDIA_CFG_RATE.of w.toNat ≤ 5)
    (hne : F.CLK_MEDIA_CFG_RATE.of w.toNat ≠ s.fld F.CLK_MEDIA_CFG_RATE) (hst : s.modState ≠ 2) :
    Answers (.mediaCfgWrite (whole m priv w)) s fun t =>
      t.fld F.CLK_MEDIA_CFG_RATE = s.fld F.CLK_MEDIA_CFG_RATE ∧ t.on F.CLK_EVT_RATE_REFUSED = true ∧
      Framed [A.CLK_MEDIA_CFG, A.CLK_EVT] [] s t := by
  set e := s.fresh.wr A.CLK_MEDIA_CFG w.toNat with he
  have heq : s.reg A.CLK_MEDIA_CFG ≠ w := fun h => hne (by rw [State.fld, State.rd, h])
  have hrate : e.fld F.CLK_MEDIA_CFG_RATE = F.CLK_MEDIA_CFG_RATE.of w.toNat := State.fld_wr_word s.fresh _ w rfl
  have hmod : e.modState = s.modState := State.fld_wr_ne _ _ (by decide)
  set u := (e.set F.CLK_MEDIA_CFG_RATE (s.fld F.CLK_MEDIA_CFG_RATE)).event F.CLK_EVT_RATE_REFUSED with hu
  have heff : s.fresh.words A.CLK_MEDIA_CFG (whole m priv w) = u := by
    have hreg : e.regEffect m (s.masterPriv m priv) A.CLK_MEDIA_CFG (s.reg A.CLK_MEDIA_CFG) 0 = e.mediaCfg (s.reg A.CLK_MEDIA_CFG) := rfl
    have hne' : ¬ F.CLK_MEDIA_CFG_RATE.of w.toNat = F.CLK_MEDIA_CFG_RATE.of (s.reg A.CLK_MEDIA_CFG).toNat := hne
    rw [hd.stores hr mediaCfg_stores heq, ← he, hreg, State.mediaCfg_eq, hrate, if_neg hne', if_neg (Nat.not_lt.mpr h5), hmod]
    exact if_pos hst
  have hframe : Chg (Listed [A.CLK_MEDIA_CFG, A.CLK_EVT]) (Parts []) NoMem s u := ((Chg.refl.fresh.wr _ _ (by simp)).set _ _ (by simp)).event _ (by simp)
  refine answers_effect _ rfl heff hframe ⟨?_, ?_, hframe.framed⟩
  · rw [State.fld_seal _ _ (by decide), hu, State.fld_event_free _ (by decide), State.fld_set_same _ (by decide)]
    exact Nat.mod_eq_of_lt (s.fld_lt F.CLK_MEDIA_CFG_RATE)
  · rw [State.on_seal _ _ (by decide), hu, State.on_event_same _ (by decide)]

/-! ### MCLK outputs (R150) -/

theorem mclkCfg_stores : StoresEverywhere A.CLK_MCLK_CFG := fun v => by cases v <;> decide

theorem ofBits_even (x : Nat) {n : Nat} (hn : n < 4) :
    (ofBits [x.testBit 0, x.testBit 2, x.testBit 4, x.testBit 6]).testBit n = x.testBit (2 * n) := by
  interval_cases n <;> cases x.testBit 0 <;> cases x.testBit 2 <;> cases x.testBit 4 <;> cases x.testBit 6 <;> rfl

/-- The MCLK outputs follow their register (R150). -/
theorem answers_mclkCfgWrite (s : State) (m : Master) (priv : Bool) (w : Word) (hd : Direct s m priv A.CLK_MCLK_CFG)
    (hr : AsItReads s A.CLK_MCLK_CFG w) (hne : s.reg A.CLK_MCLK_CFG ≠ w) :
    Answers (.mclkCfgWrite (whole m priv w)) s fun t =>
      t.reg A.CLK_MCLK_CFG = w ∧ (∀ n < 4, t.clk.mclkOn.testBit n = w.toNat.testBit (2 * n)) ∧
      Framed [A.CLK_MCLK_CFG] [.clk] s t := by
  set e := s.fresh.wr A.CLK_MCLK_CFG w.toNat with he
  have hrd : e.rd A.CLK_MCLK_CFG = w.toNat := (State.rd_wr_same _ _ _).trans (Nat.mod_eq_of_lt w.isLt)
  set u := e.updClk (fun c => { c with mclkOn := ofBits [w.toNat.testBit 0, w.toNat.testBit 2, w.toNat.testBit 4, w.toNat.testBit 6] }) with hu
  have heff : s.fresh.words A.CLK_MCLK_CFG (whole m priv w) = u := by
    have hreg : e.regEffect m (s.masterPriv m priv) A.CLK_MCLK_CFG (s.reg A.CLK_MCLK_CFG) 0 = e.mclkCfg := rfl
    rw [hd.stores hr mclkCfg_stores hne, ← he, hreg]
    unfold State.mclkCfg
    rw [hrd]
  have hframe : Chg (Listed [A.CLK_MCLK_CFG]) (Parts [.clk]) NoMem s u := (Chg.refl.fresh.wr _ _ (by simp)).updClk _ (by simp)
  refine answers_effect _ rfl heff hframe ⟨?_, fun n hn => ?_, hframe.framed⟩
  · rw [State.reg_seal _ _ (by decide), hu]
    exact (State.reg_wr_same _ _ _).trans (by rw [BitVec.ofNat_toNat, BitVec.setWidth_eq])
  · rw [State.seal_clk_mclkOn]
    exact ofBits_even _ hn

/-- Settles O29, clause by clause: realigns taken and refused, their move, a RATE taken and refused, and the MCLK outputs. -/
theorem mediaChain : Obligations.MediaChain :=
  ⟨answers_realignMedia_ready, answers_realignMedia_fading, answers_realignMedia_refused, answers_realignMove, answers_mediaCfgWrite_taken,
    answers_mediaCfgWrite_refused, answers_mclkCfgWrite⟩

end Sys2Proof.Machine
end

section
/-! PROOFS. The rows of the stream tables, and what a write to a word that none may write does (chapter 20). -/

namespace Sys2Proof.Machine

/-! ### Rows -/

/-- A row of a word that is no more than what is written to it. -/
def Row.Plain (r : Row) : Prop := r.w1c = 0 ∧ r.sc = 0 ∧ r.wo = 0 ∧ r.rwp = 0 ∧ r.rw ||| r.rsv = 0xFFFFFFFF ∧ r.rw &&& r.rsv = 0

theorem Row.plain_mk {adr s1 c1 s2 c2 rw rsv x1 x2 x3 x4 : Nat} (h : (rw ||| rsv == 0xFFFFFFFF && rw &&& rsv == 0) = true) :
    (⟨adr, s1, c1, s2, c2, rw, 0, 0, 0, 0, x1, rsv, x2, x3, x4⟩ : Row).Plain := by
  simp only [Bool.and_eq_true, beq_iff_eq] at h
  exact ⟨rfl, rfl, rfl, rfl, h⟩

/-- A row of a word that none may write. -/
def Row.Fixed (r : Row) : Prop := r.w1c = 0 ∧ r.sc = 0 ∧ r.wo = 0 ∧ r.rwp = 0 ∧ r.rw = 0 ∧ r.rsv = 0

theorem rowsAt_table10 (v : Variant) {a : Nat} (h : a / 0x10000 = 0x10) : rowsAt v a = rowsTable10 v := by
  unfold rowsAt
  rw [h]
  rfl

theorem tables_le (v : Variant) : v.pick 0x100 0x80 0x40 ≤ 0x100 ∧ v.pick 0x40 0x20 0x10 ≤ 0x40 := by cases v <;> decide

theorem rowAt_listener (v : Variant) {n w : Nat} (hn : n < v.pick 0x100 0x80 0x40) (hw : w < 14) :
    ∃ r, rowAt v (A.TBL_LISTENER_W0 n + 4 * w) = some r ∧ r.Plain := by
  obtain ⟨hc, -⟩ := tables_le v
  rw [rowAt, rowsAt_table10 v (by simp only [A.TBL_LISTENER_W0]; omega), rowsTable10, A.TBL_LISTENER_W0]
  generalize v.pick 0x100 0x80 0x40 = c at hn hc ⊢
  interval_cases w <;> simp (disch := omega) only [find_row_skip, find_row_hit] <;> exact ⟨_, rfl, Row.plain_mk rfl⟩

theorem rowAt_talker (v : Variant) {n w : Nat} (hn : n < v.pick 0x100 0x80 0x40) (hw : w < 10 ∨ w = 13) :
    ∃ r, rowAt v (A.TBL_TALKER_W0 n + 4 * w) = some r ∧ r.Plain := by
  obtain ⟨hc, -⟩ := tables_le v
  rw [rowAt, rowsAt_table10 v (by simp only [A.TBL_TALKER_W0]; omega), rowsTable10, A.TBL_TALKER_W0]
  generalize v.pick 0x100 0x80 0x40 = c at hn hc ⊢
  rcases hw with hw | rfl
  · interval_cases w <;> simp (disch := omega) only [find_row_skip, find_row_hit] <;> exact ⟨_, rfl, Row.plain_mk rfl⟩
  · simp (disch := omega) only [find_row_skip, find_row_hit]
    exact ⟨_, rfl, Row.plain_mk rfl⟩

theorem rowAt_lay (v : Variant) {n w : Nat} (hn : n < v.pick 0x40 0x20 0x10) (hw : w < 2) :
    ∃ r, rowAt v (A.TBL_LAY_W0 n + 4 * w) = some r ∧ r.Plain := by
  obtain ⟨hc, hl⟩ := tables_le v
  rw [rowAt, rowsAt_table10 v (by simp only [A.TBL_LAY_W0]; omega), rowsTable10, A.TBL_LAY_W0]
  generalize v.pick 0x40 0x20 0x10 = c at hn hl ⊢
  generalize v.pick 0x100 0x80 0x40 = c' at hc ⊢
  interval_cases w <;> simp (disch := omega) only [find_row_skip, find_row_hit] <;> exact ⟨_, rfl, Row.plain_mk rfl⟩

theorem rowAt_layFixed (v : Variant) {n w : Nat} (hn : n < v.pick 0x40 0x20 0x10) (hw : 2 ≤ w) (hw' : w < 8) :
    ∃ r, rowAt v (A.TBL_LAY_W0 n + 4 * w) = some r ∧ r.Fixed := by
  obtain ⟨hc, hl⟩ := tables_le v
  rw [rowAt, rowsAt_table10 v (by simp only [A.TBL_LAY_W0]; omega), rowsTable10, A.TBL_LAY_W0]
  generalize v.pick 0x40 0x20 0x10 = c at hn hl ⊢
  generalize v.pick 0x100 0x80 0x40 = c' at hc ⊢
  interval_cases w <;> simp (disch := omega) only [find_row_skip, find_row_hit] <;> exact ⟨_, rfl, rfl, rfl, rfl, rfl, rfl, rfl⟩

theorem storesAt_of_plain {v : Variant} {a : Nat} (h4 : a % 4 = 0) (hlo : 0x20000 ≤ a) (hwin : a / 0x10000 ≠ 8 ∧ a / 0x10000 ≠ 15)
    (h : ∃ r, rowAt v a = some r ∧ r.Plain) : StoresAt v a := by
  obtain ⟨r, hr, hp⟩ := h
  rw [StoresAt, hr, Option.any_some]
  exact Row.stores_of_window h4 hlo hwin hp

/-! ### Words that none may write -/

/-- A write to a word that none may write changes nothing. -/
theorem Direct.fixed {s : State} {m : Master} {priv : Bool} {a : Nat} {w : Word} (h : Direct s m priv a) (h4 : a % 4 = 0)
    (ht : a ≠ A.TEST_CTL) (hp : isPlaceAdr a = false) (hr : ∃ r, rowAt s.variant a = some r ∧ r.Fixed) (hq : actsAlways a 0 = false) :
    s.fresh.words a (whole m priv w) = s.fresh := by
  obtain ⟨r, hrow, h1, h2, h3, h5, h6, h7⟩ := hr
  have hd : Direct s.fresh m priv a := h
  have hpost : postedAt a r = none := by rw [postedAt, if_pos h5]
  have hkeep : s.fresh.keepWord a (s.fresh.rd a) = s.fresh := if_pos rfl
  have ho : s.fresh.effectOwed a = false := h.2.2
  have hzero (x : Nat) : clearBits x 0 = x := by
    apply Nat.eq_of_testBit_eq
    intro i
    rw [testBit_clearBits, Nat.zero_testBit, Bool.not_false, Bool.and_true]
  rw [State.words_land s.fresh m priv a w r h4 ht hrow (hd.prv hrow _) hpost, State.land_one _ _ _ _ _ _ h1 (by rw [h7, Nat.and_zero]) hp,
    h6, h2, h3, Nat.zero_and, Nat.or_zero, Nat.and_zero, Nat.zero_and, hzero, hzero, Nat.and_zero, Nat.or_zero, hkeep, State.act, ho, hq]
  simp

end Sys2Proof.Machine
end

section
/-! PROOFS. The stream tables' operations: what they change (R161, R164, R171, R182). -/

namespace Sys2Proof.Machine

section
variable {R : Nat → Prop} {P : Part → Prop} {M : Nat → Prop} {s t : State}

/-! ### Frames of the module's own -/

theorem Chg.enqueue (h : Chg R P M s t) (hp : P .ring) (p : Nat) (e : EgFrame) : Chg R P M s (t.enqueue p e) := by
  unfold State.enqueue State.creditTick
  exact Chg.ite (fun _ => (h.rpUpd _ _ hp).rpUpd _ _ hp) fun _ => h

theorem Chg.toRing (h : Chg R P M s t) (hp : P .ring) (e : EgFrame) : Chg R P M s (t.toRing e) := by
  unfold State.toRing State.takeSharedSeq
  exact Chg.enqueue (Chg.enqueue (h.updRing _ hp) hp _ _) hp _ _

theorem Chg.toAll (h : Chg R P M s t) (hp : P .ring) (f : Frame) (cls : Nat) : Chg R P M s (t.toAll f cls) := by
  unfold State.toAll
  exact Chg.enqueue (Chg.toRing h hp _) hp _ _

theorem Chg.report (h : Chg R P M s t) (hp : P .ring) (n g : Nat) : Chg R P M s (t.report n g) := by
  unfold State.report
  exact Chg.toAll h hp _ _

/-! ### Entries and lays -/

theorem Chg.updStrm (h : Chg R P M s t) (f : StrmS → StrmS) (hp : P .strm) : Chg R P M s (t.updStrm f) := h.strm _ hp
theorem Chg.updPlay (h : Chg R P M s t) (f : PlayS → PlayS) (hp : P .play) : Chg R P M s (t.updPlay f) := h.play _ hp
theorem Chg.lisUpd (h : Chg R P M s t) (n : Nat) (f : ListenerS → ListenerS) (hp : P .strm) : Chg R P M s (t.lisUpd n f) := h.updStrm _ hp
theorem Chg.talkerUpd (h : Chg R P M s t) (n : Nat) (f : TalkerS → TalkerS) (hp : P .strm) : Chg R P M s (t.talkerUpd n f) := h.updStrm _ hp
theorem Chg.layUpd (h : Chg R P M s t) (n : Nat) (f : LayS → LayS) (hp : P .strm) : Chg R P M s (t.layUpd n f) := h.updStrm _ hp

theorem Chg.lisSilence (h : Chg R P M s t) (hp : P .play) (n : Nat) : Chg R P M s (t.lisSilence n) := by
  unfold State.lisSilence State.updSnaps
  exact (h.updPlay _ hp).updPlay _ hp

theorem Chg.membership (h : Chg R P M s t) (hs : P .strm) (hr : P .ring) (n : Nat) : Chg R P M s (t.membership n) := by
  have hjoin (u : State) (hu : Chg R P M s u) : Chg R P M s (match t.lisGroup n with
      | none => u
      | some g => (u.lisUpd n (fun l => { l with joined := some g, again := true })).report n g) := by
    cases t.lisGroup n with
    | none => exact hu
    | some g => exact Chg.report (hu.lisUpd n _ hs) hr n g
  unfold State.membership
  dsimp only
  split
  · exact h
  · refine hjoin _ ?_
    split
    · exact h
    · exact (h.lisUpd n _ hs).when _ _ fun _ => Chg.toAll (h.lisUpd n _ hs) hr _ _

/-- The words that the lays' status changes. -/
def LayStatus (s : State) (a : Nat) : Prop := a ∈ layWords s

theorem layWords_of_variant {s t : State} (h : t.variant = s.variant) : layWords t = layWords s := by
  rw [layWords, layWords, State.lays, State.lays, h]

theorem Chg.layStatus (h : Chg R P M s t) (hR : ∀ a ∈ layWords t, R a) : Chg R P M s t.layStatus := by
  refine Chg.forN _ _ (fun k hk u hu => ?_) h
  have hw : R (A.TBL_LAY_W2 k) := hR _ (List.mem_map.mpr ⟨k, List.mem_range.mpr hk, rfl⟩)
  exact (hu.keep _ _ hw).keep _ _ hw

end

/-! ### Their states -/

theorem State.lis_lisUpd (s : State) (n k : Nat) (f : ListenerS → ListenerS) :
    (s.lisUpd n f).lis k = if k = n then f (s.lis n) else s.lis k := by
  simp only [State.lis, State.lisUpd, State.updStrm, Sparse.find_insert]
  split <;> rfl

theorem State.lay_layUpd (s : State) (n k : Nat) (f : LayS → LayS) : (s.layUpd n f).lay k = if k = n then f (s.lay n) else s.lay k := by
  simp only [State.lay, State.layUpd, State.updStrm, Sparse.find_insert]
  split <;> rfl

theorem State.talker_talkerUpd (s : State) (n k : Nat) (f : TalkerS → TalkerS) :
    (s.talkerUpd n f).talker k = if k = n then f (s.talker n) else s.talker k := by
  simp only [State.talker, State.talkerUpd, State.updStrm, Sparse.find_insert]
  split <;> rfl

theorem State.lis_of_strm {s t : State} (h : t.strm = s.strm) (n : Nat) : t.lis n = s.lis n := by rw [State.lis, h, State.lis]
theorem State.lay_of_strm {s t : State} (h : t.strm = s.strm) (n : Nat) : t.lay n = s.lay n := by rw [State.lay, h, State.lay]
theorem State.talker_of_strm {s t : State} (h : t.strm = s.strm) (n : Nat) : t.talker n = s.talker n := by rw [State.talker, h, State.talker]

/-! ### Reasons depend on registers alone -/

theorem State.on_of_reg {s t : State} {f : Fld} (h : t.reg f.adr = s.reg f.adr) : t.on f = s.on f := congrArg (· != 0) (State.fld_eq_of_reg h)

/-- Two states that agree on every register but a status word of the stream tables. -/
structure ButStatus (x : Nat) (s t : State) : Prop where
  status : 0x100000 ≤ x ∧ x < 0x108000 ∧ x % 64 = 56
  variant : t.variant = s.variant
  reg : ∀ a, a ≠ x → t.reg a = s.reg a

section
variable {x : Nat} {s t : State} (h : ButStatus x s t)
include h

theorem ButStatus.fld {f : Fld} (hf : f.adr ≠ x) : t.fld f = s.fld f := State.fld_eq_of_reg (h.reg _ hf)
theorem ButStatus.on {f : Fld} (hf : f.adr ≠ x) : t.on f = s.on f := State.on_of_reg (h.reg _ hf)
theorem ButStatus.rd {a : Nat} (ha : a ≠ x) : t.rd a = s.rd a := State.rd_eq_of_reg (h.reg _ ha)

theorem ButStatus.fldLo {f : Fld} (hf : f.adr < 0x100000) : t.fld f = s.fld f := h.fld (by have := h.status; omega)
theorem ButStatus.onLo {f : Fld} (hf : f.adr < 0x100000) : t.on f = s.on f := h.on (by have := h.status; omega)
theorem ButStatus.fldMod {f : Fld} (hf : f.adr % 64 ≠ 56) : t.fld f = s.fld f := h.fld (by have := h.status; omega)
theorem ButStatus.onMod {f : Fld} (hf : f.adr % 64 ≠ 56) : t.on f = s.on f := h.on (by have := h.status; omega)
theorem ButStatus.rdMod {a : Nat} (ha : a % 64 ≠ 56) : t.rd a = s.rd a := h.rd (by have := h.status; omega)

theorem ButStatus.streams : t.streams = s.streams := by rw [State.streams, State.streams, h.variant]
theorem ButStatus.lays : t.lays = s.lays := by rw [State.lays, State.lays, h.variant]
theorem ButStatus.hiRate : t.hiRate = s.hiRate := by rw [State.hiRate, State.hiRate, h.fldLo (by decide)]
theorem ButStatus.rateMul : t.rateMul = s.rateMul := by rw [State.rateMul, State.rateMul, h.fldLo (by decide)]

theorem ButStatus.netChannels : t.netChannels = s.netChannels := by
  rw [State.netChannels, State.netChannels, h.variant, h.rateMul]

theorem ButStatus.streamLimit : t.streamLimit = s.streamLimit := by
  unfold State.streamLimit
  simp only [h.onLo (f := F.RING_PORT_CFG_JUMBO_EN 0) (by decide), h.onLo (f := F.RING_PORT_CFG_JUMBO_EN 1) (by decide),
    h.onLo (f := F.RING_PORT_CFG_JUMBO_EN 2) (by decide), h.fldLo (f := F.RING_PORT_CFG_MAX_FRAME 0) (by decide),
    h.fldLo (f := F.RING_PORT_CFG_MAX_FRAME 1) (by decide), h.fldLo (f := F.RING_PORT_CFG_MAX_FRAME 2) (by decide)]

theorem ButStatus.formatWhy (ch tr enc pt : Nat) : t.formatWhy ch tr enc pt = s.formatWhy ch tr enc pt := by
  have hp : t.ptimeN pt = s.ptimeN pt := by rw [State.ptimeN, State.ptimeN, h.rateMul]
  have hm (n : Nat) : t.maxChannels tr enc n = s.maxChannels tr enc n := by rw [State.maxChannels, State.maxChannels, h.streamLimit]
  unfold State.formatWhy
  rw [hp]
  simp only [hm]

theorem ButStatus.slotsBad {mapAdr : Nat} (ha : 0x108000 ≤ mapAdr) (map : Bool) (first ch : Nat) :
    t.slotsBad map mapAdr first ch = s.slotsBad map mapAdr first ch := by
  have hm (k : Nat) : t.mapHalf mapAdr k = s.mapHalf mapAdr k := by
    rw [State.mapHalf, State.mapHalf, h.rd (by have := h.status; omega)]
  unfold State.slotsBad
  simp only [hm, h.hiRate]

end

/-! ### Listeners' reasons -/

section
variable {n : Nat} {s t : State} (h : ButStatus (A.TBL_LISTENER_W14 n) s t)
include h

theorem ButStatus.pairHigher (m : Nat) : t.pairHigher m = s.pairHigher m := by
  have h1 (k : Nat) : t.fld (F.TBL_LISTENER_W13_PARTNER k) = s.fld (F.TBL_LISTENER_W13_PARTNER k) := h.fldMod (by simp only [A.TBL_LISTENER_W13]; omega)
  have h2 (k : Nat) : t.on (F.TBL_LISTENER_W0_MERGE_EN k) = s.on (F.TBL_LISTENER_W0_MERGE_EN k) := h.onMod (by simp only [A.TBL_LISTENER_W0]; omega)
  have h3 (k : Nat) : t.on (F.TBL_LISTENER_W0_EN k) = s.on (F.TBL_LISTENER_W0_EN k) := h.onMod (by simp only [A.TBL_LISTENER_W0]; omega)
  unfold State.pairHigher
  simp only [h1, h2, h3]

theorem ButStatus.partnerOk (m : Nat) : t.partnerOk m = s.partnerOk m := by
  have h1 (k : Nat) : t.fld (F.TBL_LISTENER_W13_PARTNER k) = s.fld (F.TBL_LISTENER_W13_PARTNER k) := h.fldMod (by simp only [A.TBL_LISTENER_W13]; omega)
  have h2 {f : Fld} {k : Nat} (hf : f.adr = A.TBL_LISTENER_W0 k) : t.fld f = s.fld f := h.fldMod (by rw [hf]; simp only [A.TBL_LISTENER_W0]; omega)
  have h3 {f : Fld} {k : Nat} (hf : f.adr = A.TBL_LISTENER_W0 k) : t.on f = s.on f := congrArg (· != 0) (h2 hf)
  unfold State.partnerOk
  simp only [h1, h.streams, h2 (f := F.TBL_LISTENER_W0_TRANSPORT _) rfl, h2 (f := F.TBL_LISTENER_W0_ENC _) rfl,
    h2 (f := F.TBL_LISTENER_W0_CHANNELS _) rfl, h2 (f := F.TBL_LISTENER_W0_PTIME _) rfl, h3 (f := F.TBL_LISTENER_W0_EN _) rfl,
    h3 (f := F.TBL_LISTENER_W0_MERGE_EN _) rfl]

theorem ButStatus.lisOn {m : Nat} (hm : m ≠ n) : t.lisOn m = s.lisOn m := by
  rw [State.lisOn, State.lisOn, h.onMod (by simp only [A.TBL_LISTENER_W0]; omega), h.on (by simp only [A.TBL_LISTENER_W14]; omega)]

theorem ButStatus.lisKey (m : Nat) : t.lisKey m = s.lisKey m := by
  have h2 {f : Fld} {k : Nat} (hf : f.adr = A.TBL_LISTENER_W0 k) : t.fld f = s.fld f := h.fldMod (by rw [hf]; simp only [A.TBL_LISTENER_W0]; omega)
  have hvid : t.fld (F.TBL_LISTENER_W2_VID m) = s.fld (F.TBL_LISTENER_W2_VID m) := h.fldMod (by simp only [A.TBL_LISTENER_W2]; omega)
  have hudp : t.fld (F.TBL_LISTENER_W1_UDP_PORT m) = s.fld (F.TBL_LISTENER_W1_UDP_PORT m) := h.fldMod (by simp only [A.TBL_LISTENER_W1]; omega)
  have hflt : t.on (F.TBL_LISTENER_W0_SRC_FILTER m) = s.on (F.TBL_LISTENER_W0_SRC_FILTER m) := congrArg (· != 0) (h2 rfl)
  have htr : t.fld (F.TBL_LISTENER_W0_TRANSPORT m) = s.fld (F.TBL_LISTENER_W0_TRANSPORT m) := h2 rfl
  have hmap : t.rd (A.TBL_LMAP m 31) = s.rd (A.TBL_LMAP m 31) := h.rd (by simp only [A.TBL_LMAP, A.TBL_LISTENER_W14]; omega)
  have hd : t.lisDest m = s.lisDest m := by
    simp only [State.lisDest, State.addr128, htr, h.rdMod (a := A.TBL_LISTENER_W5 m) (by simp only [A.TBL_LISTENER_W5]; omega),
      h.rdMod (a := A.TBL_LISTENER_W6 m) (by simp only [A.TBL_LISTENER_W6]; omega),
      h.rdMod (a := A.TBL_LISTENER_W7 m) (by simp only [A.TBL_LISTENER_W7]; omega),
      h.rdMod (a := A.TBL_LISTENER_W8 m) (by simp only [A.TBL_LISTENER_W8]; omega)]
  have hs : t.lisSource m = s.lisSource m := by
    simp only [State.lisSource, State.addr128, htr, hmap, h.rdMod (a := A.TBL_LISTENER_W10 m) (by simp only [A.TBL_LISTENER_W10]; omega),
      h.rdMod (a := A.TBL_LISTENER_W11 m) (by simp only [A.TBL_LISTENER_W11]; omega),
      h.rdMod (a := A.TBL_LISTENER_W12 m) (by simp only [A.TBL_LISTENER_W12]; omega)]
  rw [State.lisKey, State.lisKey, htr, hvid, hudp, hflt, hd, hs]

theorem ButStatus.lisTotal : t.lisTotal n = s.lisTotal n := by
  unfold State.lisTotal
  rw [h.streams]
  refine forN_congr (fun m _ b => ?_) 0
  by_cases hm : m = n
  · subst hm
    rw [bne_self_eq_false]
    rfl
  · rw [h.lisOn hm, h.pairHigher, h.fldMod (f := F.TBL_LISTENER_W0_CHANNELS m) (by simp only [A.TBL_LISTENER_W0]; omega)]

/-- A listener's own status word has no part in its verdict. -/
theorem ButStatus.lisWhy : t.lisWhy n = s.lisWhy n := by
  have h2 {f : Fld} {k : Nat} (hf : f.adr = A.TBL_LISTENER_W0 k) : t.fld f = s.fld f := h.fldMod (by rw [hf]; simp only [A.TBL_LISTENER_W0]; omega)
  have h3 {f : Fld} {k : Nat} (hf : f.adr = A.TBL_LISTENER_W0 k) : t.on f = s.on f := congrArg (· != 0) (h2 hf)
  have hlay : t.lisLay n = s.lisLay n := h2 rfl
  have hen (k : Nat) : t.on (F.TBL_LAY_W0_EN k) = s.on (F.TBL_LAY_W0_EN k) := h.on (by simp only [A.TBL_LAY_W0, A.TBL_LISTENER_W14]; omega)
  have hsame : anyN t.streams (fun m => m != n && t.lisOn m && t.lisKey m == t.lisKey n) =
      anyN s.streams (fun m => m != n && s.lisOn m && s.lisKey m == s.lisKey n) := by
    rw [h.streams]
    refine anyN_congr fun m _ => ?_
    by_cases hm : m = n
    · subst hm
      rw [bne_self_eq_false]
      rfl
    · rw [h.lisOn hm, h.lisKey, h.lisKey]
  have hslots := h.slotsBad (mapAdr := A.TBL_LMAP n 0) (by simp only [A.TBL_LMAP]; omega) (s.on (F.TBL_LISTENER_W0_MAP_EN n))
    (s.fld (F.TBL_LISTENER_W1_FIRST_SLOT n)) (s.fld (F.TBL_LISTENER_W0_CHANNELS n))
  unfold State.lisWhy
  simp only [h2 (f := F.TBL_LISTENER_W0_CHANNELS n) rfl, h2 (f := F.TBL_LISTENER_W0_TRANSPORT n) rfl, h2 (f := F.TBL_LISTENER_W0_ENC n) rfl,
    h2 (f := F.TBL_LISTENER_W0_PTIME n) rfl, h3 (f := F.TBL_LISTENER_W0_MAP_EN n) rfl, h3 (f := F.TBL_LISTENER_W0_SRC_FILTER n) rfl,
    h3 (f := F.TBL_LISTENER_W0_MERGE_EN n) rfl, hlay, h.pairHigher, h.formatWhy, h.lays, hen,
    h.fldMod (f := F.TBL_LISTENER_W1_FIRST_SLOT n) (by simp only [A.TBL_LISTENER_W1]; omega), hslots, h.netChannels, h.lisTotal, h.partnerOk, hsame]

end

/-! ### Talkers' reasons -/

section
variable {n : Nat} {s t : State} (h : ButStatus (A.TBL_TALKER_W14 n) s t)
include h

theorem ButStatus.talkOn {m : Nat} (hm : m ≠ n) : t.talkOn m = s.talkOn m := by
  rw [State.talkOn, State.talkOn, h.onMod (by simp only [A.TBL_TALKER_W0]; omega), h.on (by simp only [A.TBL_TALKER_W14]; omega)]

/-- A talker's own status word has no part in its verdict. -/
theorem ButStatus.talkWhy : t.talkWhy n = s.talkWhy n := by
  have h2 {f : Fld} {k : Nat} (hf : f.adr = A.TBL_TALKER_W0 k) : t.fld f = s.fld f := h.fldMod (by rw [hf]; simp only [A.TBL_TALKER_W0]; omega)
  have h3 {f : Fld} {k : Nat} (hf : f.adr = A.TBL_TALKER_W0 k) : t.on f = s.on f := congrArg (· != 0) (h2 hf)
  have htotal : forN t.streams (fun m b =>
      if m != n && t.talkOn m && !t.on (F.TBL_TALKER_W0_SEQ_LINK m) then b + t.fld (F.TBL_TALKER_W0_CHANNELS m) else b) 0 =
      forN s.streams (fun m b =>
      if m != n && s.talkOn m && !s.on (F.TBL_TALKER_W0_SEQ_LINK m) then b + s.fld (F.TBL_TALKER_W0_CHANNELS m) else b) 0 := by
    rw [h.streams]
    refine forN_congr (fun m _ b => ?_) 0
    by_cases hm : m = n
    · subst hm
      rw [bne_self_eq_false]
      rfl
    · rw [h.talkOn hm, h3 (f := F.TBL_TALKER_W0_SEQ_LINK m) rfl, h2 (f := F.TBL_TALKER_W0_CHANNELS m) rfl]
  have hslots := h.slotsBad (mapAdr := A.TBL_TMAP n 0) (by simp only [A.TBL_TMAP]; omega) (s.on (F.TBL_TALKER_W0_MAP_EN n))
    (s.fld (F.TBL_TALKER_W1_FIRST_SLOT n)) (s.fld (F.TBL_TALKER_W0_CHANNELS n))
  have hlink : t.fld (F.TBL_TALKER_W13_LINK n) = s.fld (F.TBL_TALKER_W13_LINK n) := h.fldMod (by simp only [A.TBL_TALKER_W13]; omega)
  have hfirst : t.fld (F.TBL_TALKER_W1_FIRST_SLOT n) = s.fld (F.TBL_TALKER_W1_FIRST_SLOT n) := h.fldMod (by simp only [A.TBL_TALKER_W1]; omega)
  unfold State.talkWhy
  rw [htotal]
  simp only [h2 (f := F.TBL_TALKER_W0_CHANNELS _) rfl, h2 (f := F.TBL_TALKER_W0_TRANSPORT _) rfl, h2 (f := F.TBL_TALKER_W0_ENC _) rfl,
    h2 (f := F.TBL_TALKER_W0_PTIME _) rfl, h3 (f := F.TBL_TALKER_W0_SEQ_LINK _) rfl, h3 (f := F.TBL_TALKER_W0_MAP_EN _) rfl,
    h3 (f := F.TBL_TALKER_W0_EN _) rfl, hlink, hfirst, h.streams, h.formatWhy, hslots, h.netChannels]

end

theorem formatWhy_lt (s : State) (ch tr enc pt : Nat) : s.formatWhy ch tr enc pt < 3 := by
  unfold State.formatWhy
  split
  · decide
  split
  · decide
  split <;> decide

theorem lisWhy_lt (s : State) (n : Nat) : s.lisWhy n < 8 := by
  unfold State.lisWhy
  dsimp only
  repeat' split
  all_goals decide

theorem talkWhy_lt (s : State) (n : Nat) : s.talkWhy n < 8 := by
  have := formatWhy_lt s (s.fld (F.TBL_TALKER_W0_CHANNELS n)) (s.fld (F.TBL_TALKER_W0_TRANSPORT n)) (s.fld (F.TBL_TALKER_W0_ENC n))
    (s.fld (F.TBL_TALKER_W0_PTIME n))
  unfold State.talkWhy
  dsimp only
  repeat' split
  all_goals omega

/-! ### Verdicts -/

/-- An entry shows its verdict. -/
def State.entryVerdict (s : State) (fr fw : Fld) (why : Nat) : State :=
  ((s.set fr (if why = 0 then 0 else 1)).set fw why).when (why != 0) (fun s => s.event F.STRM_EVT_REFUSED)

theorem verdict_shows (s : State) {fr fw : Fld} {why : Nat} (hr : fr.ok = true) (hw : fw.ok = true) (hw3 : fw.width = 3) (h8 : why < 8)
    (hfree : Fld.free fw fr = true) (her : Fld.free F.STRM_EVT_REFUSED fr = true) (hew : Fld.free F.STRM_EVT_REFUSED fw = true) :
    (s.entryVerdict fr fw why).fld fw = why ∧ (s.entryVerdict fr fw why).on fr = (why != 0) ∧
    (why ≠ 0 → (s.entryVerdict fr fw why).on F.STRM_EVT_REFUSED = true) := by
  refine ⟨?_, ?_, fun h0 => ?_⟩
  · rw [State.entryVerdict, State.fld_when_event _ hew, State.fld_set_same _ hw, hw3]
    exact Nat.mod_eq_of_lt h8
  · have hpos : 1 < 2 ^ fr.width := Nat.one_lt_two_pow (by simp only [Fld.width]; obtain ⟨h1, -⟩ := Fld.ok_le hr; omega)
    have hfr : (s.entryVerdict fr fw why).fld fr = if why = 0 then 0 else 1 := by
      rw [State.entryVerdict, State.fld_when_event _ her, State.fld_set_free _ hfree, State.fld_set_same _ hr]
      split
      · rfl
      · exact Nat.mod_eq_of_lt hpos
    rw [State.on, hfr]
    by_cases h0 : why = 0
    · rw [if_pos h0, h0]
    · rw [if_neg h0, bne_iff_ne.mpr h0]
      rfl
  · rw [State.entryVerdict, bne_iff_ne.mpr h0, State.when_true, State.on_event_same _ (by decide)]

theorem Chg.entryVerdict {R : Nat → Prop} {P : Part → Prop} {M : Nat → Prop} {s t : State} (h : Chg R P M s t) {fr fw : Fld} (h1 : R fr.adr)
    (h2 : R fw.adr) (h3 : R A.STRM_EVT) (why : Nat) : Chg R P M s (t.entryVerdict fr fw why) :=
  ((h.set _ _ h1).set _ _ h2).when _ _ fun _ => ((h.set _ _ h1).set _ _ h2).event _ h3

end Sys2Proof.Machine
end

section
/-! PROOFS. Writes of listener, talker and lay entries and of the arrival hold (R161, R164, R173 to R175, R186). -/

namespace Sys2Proof.Machine

/-! ### Listeners (R161, R195) -/

/-- An entry enabled by the write starts a new sequence. -/
def State.lisRise (s : State) (n : Nat) : State :=
  let s := s.lisUpd n (fun l => { l with fresh := true })
  let s := s.updRing (fun r => { r with frerL := r.frerL.filter (fun c => c.1 != n) })
  let s := s.updStrm (fun x => { x with merges := x.merges.filter (fun c => c.1 != min n (s.fld (F.TBL_LISTENER_W13_PARTNER n))) })
  (s.set (F.TBL_LISTENER_W14_ACTIVE n) 0).lisSilence n

/-- What a write does before the entry is judged. -/
def State.lisBefore (s : State) (n : Nat) (rise moved : Bool) : State :=
  (s.when rise (fun s => s.lisRise n)).when moved (fun s => s.lisSilence n)

/-- The verdict of an enabled entry. -/
def State.lisJudged (s : State) (n : Nat) (was rise : Bool) : State :=
  (s.entryVerdict (F.TBL_LISTENER_W14_REFUSED n) (F.TBL_LISTENER_W14_WHY n) (s.lisWhy n)).when (s.lisWhy n == 0 && was && !rise)
    (fun s => s.lisSilence n)

theorem State.listenerWrite_eq (s : State) (n w : Nat) (old : Word) :
    ∃ rise moved was, (s.on (F.TBL_LISTENER_W0_EN n) = false → rise = false ∧ moved = false) ∧
      s.listenerWrite n w old =
        ((if s.on (F.TBL_LISTENER_W0_EN n) && w < 14 then (s.lisBefore n rise moved).lisJudged n was rise else s.lisBefore n rise moved).membership n).layStatus := by
  refine ⟨w == 0 && s.on (F.TBL_LISTENER_W0_EN n) && !old.getLsbD 31, w == 0 && s.on (F.TBL_LISTENER_W0_EN n) &&
    old.toNat / 65536 % 64 != (s.when (w == 0 && s.on (F.TBL_LISTENER_W0_EN n) && !old.getLsbD 31) (fun s => s.lisRise n)).lisLay n,
    s.on (F.TBL_LISTENER_W14_REFUSED n), fun h => ?_, rfl⟩
  rw [h]
  simp

theorem ownerEffect_idle {s : State} (h : s.scp.holds = []) (m : Master) (a : Nat) (old : Word) : s.ownerEffect m a old = s := by
  unfold State.ownerEffect
  split
  · rfl
  · rw [h, List.any_nil, Bool.and_false, if_neg Bool.false_ne_true]

theorem entry_effect (s : State) (m : Master) (p : Bool) {a : Nat} (ha : a / 0x10000 = 0x10) (old : Word) :
    s.regEffect m p a old 0 = (s.entryEffect a old).ownerEffect m a old := by
  unfold State.regEffect
  rw [ha]
  rfl

theorem listener_effect (s : State) {n w : Nat} (hn : n < 256) (hw : w < 16) (old : Word) :
    s.entryEffect (A.TBL_LISTENER_W0 n + 4 * w) old = s.listenerWrite n w old := by
  unfold State.entryEffect
  rw [if_pos (by simp only [A.TBL_LISTENER_W0, A.TBL_TALKER_W0]; omega)]
  congr 1 <;> simp only [A.TBL_LISTENER_W0] <;> omega

theorem talker_effect (s : State) {n w : Nat} (hn : n < 256) (hw : w < 16) (old : Word) :
    s.entryEffect (A.TBL_TALKER_W0 n + 4 * w) old = s.talkerWrite n w old := by
  unfold State.entryEffect
  rw [if_neg (by simp only [A.TBL_TALKER_W0]; omega), if_pos (by simp only [A.TBL_TALKER_W0, A.TBL_LAY_W0]; omega)]
  congr 1 <;> simp only [A.TBL_TALKER_W0] <;> omega

theorem lay_effect (s : State) {n w : Nat} (hw : w < 8) (old : Word) :
    s.entryEffect (A.TBL_LAY_W0 n + 4 * w) old = s.layWrite n w old := by
  unfold State.entryEffect
  rw [if_neg (by simp only [A.TBL_LAY_W0, A.TBL_TALKER_W0]; omega), if_neg (by simp only [A.TBL_LAY_W0]; omega)]
  congr 1 <;> simp only [A.TBL_LAY_W0] <;> omega

theorem entry_actsAlways {a : Nat} (h1 : 0x100000 ≤ a) (h2 : a < 0x108000) (h3 : a % 64 < 56) : actsAlways a 0 = true := by
  have hb : (Nat.ble (A.TBL_LISTENER_W0 0) a && Nat.blt a (A.TBL_LAY_W0 0) && decide (a % 64 < 56)) = true := by
    rw [Bool.and_eq_true, Bool.and_eq_true, Nat.ble_eq, Nat.blt_eq, decide_eq_true_eq]
    exact ⟨⟨h1, h2⟩, h3⟩
  unfold actsAlways
  rw [hb]
  simp

section
variable {R : Nat → Prop} {P : Part → Prop} {M : Nat → Prop} {s t : State}

theorem Chg.lisBefore (h : Chg R P M s t) {n : Nat} (ha : R (A.TBL_LISTENER_W14 n)) (hs : P .strm) (hr : P .ring) (hp : P .play) (rise moved : Bool) :
    Chg R P M s (t.lisBefore n rise moved) := by
  have h1 : Chg R P M s (t.lisRise n) := by
    unfold State.lisRise
    exact Chg.lisSilence (((((h.lisUpd n _ hs).updRing _ hr).updStrm _ hs).set _ _ ha)) hp n
  have h2 : Chg R P M s (t.when rise (fun s => s.lisRise n)) := h.when _ _ fun _ => h1
  exact h2.when _ _ fun _ => h2.lisSilence hp n

theorem Chg.lisJudged (h : Chg R P M s t) {n : Nat} (ha : R (A.TBL_LISTENER_W14 n)) (he : R A.STRM_EVT) (hp : P .play) (was rise : Bool) :
    Chg R P M s (t.lisJudged n was rise) :=
  (h.entryVerdict ha ha he _).when _ _ fun _ => (h.entryVerdict ha ha he _).lisSilence hp n

end

theorem Chg.widen {R R' : Nat → Prop} {P : Part → Prop} {M : Nat → Prop} {s t : State} (h : Chg R P M s t) (hR : ∀ a, R a → R' a) :
    Chg R' AnyPart M s t := h.mono hR (fun _ _ => trivial) fun _ h => h

theorem State.reg_keepWord_same (s : State) (a : Nat) (w : Word) : (s.keepWord a w.toNat).reg a = w := by
  have h := s.rd_keepWord a w
  exact BitVec.eq_of_toNat_eq h

/-- A word kept and a word put read the same. -/
theorem reg_keepWord_putReg (s : State) (a b : Nat) (w : Word) : (s.fresh.keepWord a w.toNat).reg b = (s.putReg a w).reg b := by
  by_cases hb : b = a
  · subst hb
    rw [State.reg_keepWord_same, State.reg_putReg_same]
  · rw [State.reg_keepWord_ne _ _ hb, State.reg_putReg_ne _ _ hb]
    rfl

theorem lisStatus_free (n : Nat) : (F.TBL_LISTENER_W14_REFUSED n).ok = true ∧ (F.TBL_LISTENER_W14_WHY n).ok = true ∧
    Fld.free (F.TBL_LISTENER_W14_WHY n) (F.TBL_LISTENER_W14_REFUSED n) = true ∧
    Fld.free F.STRM_EVT_REFUSED (F.TBL_LISTENER_W14_REFUSED n) = true ∧ Fld.free F.STRM_EVT_REFUSED (F.TBL_LISTENER_W14_WHY n) = true := by
  have hne : A.TBL_LISTENER_W14 n ≠ A.STRM_EVT := by simp only [A.TBL_LISTENER_W14, A.STRM_EVT]; omega
  refine ⟨rfl, rfl, ?_, Fld.free_of_adr rfl rfl hne, Fld.free_of_adr rfl rfl hne⟩
  simp only [Fld.free, bne_self_eq_false, Bool.false_or]
  rfl

theorem entry_notMem {a : Nat} (h : 0x100000 ≤ a) : a ∉ summaries := by
  simp only [summaries, List.mem_cons, List.not_mem_nil, or_false, A.PWR_STATUS, A.TEST_FAULT, A.TEST_EVT, A.MSTAT_SAT_SUM, A.SYS_IRQ_STATUS]
  omega

theorem State.fld_seal_of {s u : State} {f : Fld} (h : f.adr ∉ summaries) : (s.seal u).fld f = u.fld f :=
  State.fld_eq_of_reg (State.reg_seal s u h)
theorem State.on_seal_of {s u : State} {f : Fld} (h : f.adr ∉ summaries) : (s.seal u).on f = u.on f := congrArg (· != 0) (State.fld_seal_of h)

theorem layWords_ge {s : State} {a : Nat} (h : a ∈ layWords s) : 0x108000 ≤ a ∧ a % 0x20 = 8 := by
  obtain ⟨k, -, rfl⟩ := List.mem_map.mp h
  simp only [A.TBL_LAY_W2]
  omega

/-- A written word of an enabled listener entry is judged (R161). -/
theorem answers_listenerEntryWrite_on (s : State) (n : Nat) (w : Fin 16) (m : Master) (priv : Bool) (x : Word) (hn : n < s.streams)
    (hw : w.val < 14) (hd : Direct s m priv (A.TBL_LISTENER_W0 n + 4 * w.val)) (hr : AsItReads s (A.TBL_LISTENER_W0 n + 4 * w.val) x)
    (hh : s.scp.holds = []) (hen : (s.putReg (A.TBL_LISTENER_W0 n + 4 * w.val) x).on (F.TBL_LISTENER_W0_EN n) = true) :
    Answers (.listenerEntryWrite n w (whole m priv x)) s fun t =>
      t.reg (A.TBL_LISTENER_W0 n + 4 * w.val) = x ∧
      t.fld (F.TBL_LISTENER_W14_WHY n) = (s.putReg (A.TBL_LISTENER_W0 n + 4 * w.val) x).lisWhy n ∧
      t.on (F.TBL_LISTENER_W14_REFUSED n) = (t.fld (F.TBL_LISTENER_W14_WHY n) != 0) ∧
      (t.fld (F.TBL_LISTENER_W14_WHY n) ≠ 0 → t.on F.STRM_EVT_REFUSED = true) ∧
      RegsKept ([A.TBL_LISTENER_W0 n + 4 * w.val, A.TBL_LISTENER_W14 n, A.STRM_EVT] ++ layWords s) s t ∧ MemKept s t := by
  set a := A.TBL_LISTENER_W0 n + 4 * w.val with ha
  have hn256 : n < 256 := Nat.lt_of_lt_of_le hn (tables_le s.variant).1
  have hav : a = 0x100000 + 0x40 * n + 4 * w.val := ha
  have hfour : a % 4 = 0 := by omega
  have hstore : StoresAt s.variant a := storesAt_of_plain (by omega) (by omega) (by omega) (rowAt_listener s.variant hn hw)
  set e := s.fresh.keepWord a x.toNat with he
  have hereg (b : Nat) : e.reg b = (s.putReg a x).reg b := reg_keepWord_putReg s a b x
  have heen : e.on (F.TBL_LISTENER_W0_EN n) = true := (State.on_of_reg (hereg _)).trans hen
  obtain ⟨rise, moved, was, -, heq⟩ := e.listenerWrite_eq n w.val (s.reg a)
  rw [heen, decide_eq_true hw, Bool.and_self, if_pos rfl] at heq
  set y := e.lisBefore n rise moved with hy
  set z := y.lisJudged n was rise with hz
  set u := (z.membership n).layStatus with hu
  have hkeep : Chg (· = a) (Parts []) NoMem s e := Chg.refl.fresh.keepWord _ _ rfl
  have hbefore : Chg (· = A.TBL_LISTENER_W14 n) (Parts [.strm, .ring, .play]) NoMem e y :=
    Chg.lisBefore (R := (· = A.TBL_LISTENER_W14 n)) (P := Parts [.strm, .ring, .play]) Chg.refl rfl (by simp) (by simp) (by simp) _ _
  have hjudged : Chg (fun b => b = A.TBL_LISTENER_W14 n ∨ b = A.STRM_EVT) (Parts [.play]) NoMem y z :=
    Chg.lisJudged (R := fun b => b = A.TBL_LISTENER_W14 n ∨ b = A.STRM_EVT) (P := Parts [.play]) Chg.refl (.inl rfl) (.inr rfl) (by simp) _ _
  have hvar : (z.membership n).variant = s.variant :=
    (Chg.refl.membership trivial trivial n : Chg AnyReg AnyPart NoMem z (z.membership n)).variant.trans
      (hjudged.variant.trans (hbefore.variant.trans hkeep.variant))
  have hlast : Chg (· ∈ layWords s) (Parts [.strm, .ring]) NoMem z u :=
    (Chg.refl.membership (by simp) (by simp) n).layStatus fun b hb => (layWords_of_variant hvar) ▸ hb
  have hscp : u.scp.holds = [] := by
    rw [hlast.part .scp (by simp), hjudged.part .scp (by simp), hbefore.part .scp (by simp), hkeep.part .scp (by simp)]
    exact hh
  have heff : s.fresh.words a (whole m priv x) = u := by
    rw [hd.actsAt hr hstore (entry_actsAlways (by omega) (by omega) (by omega)), ← he, entry_effect e m _ (by omega), ha,
      listener_effect e hn256 w.isLt, ← ha, heq, ownerEffect_idle hscp]
  have hstatus : ButStatus (A.TBL_LISTENER_W14 n) e y :=
    ⟨by simp only [A.TBL_LISTENER_W14]; omega, hbefore.variant, fun b hb => hbefore.reg b hb⟩
  have hput : ButStatus (A.TBL_LISTENER_W14 n) (s.putReg a x) e := ⟨hstatus.status, hkeep.variant, fun b _ => hereg b⟩
  have hwhy : y.lisWhy n = (s.putReg a x).lisWhy n := hstatus.lisWhy.trans hput.lisWhy
  have hsilent : Chg (fun _ => False) (Parts [.play]) NoMem (y.entryVerdict (F.TBL_LISTENER_W14_REFUSED n) (F.TBL_LISTENER_W14_WHY n) (y.lisWhy n)) z :=
    Chg.refl.when _ _ fun _ => Chg.refl.lisSilence (by simp) n
  obtain ⟨f1, f2, f3, f4, f5⟩ := lisStatus_free n
  obtain ⟨v1, v2, v3⟩ := verdict_shows y f1 f2 rfl (lisWhy_lt y n) f3 f4 f5
  have h14 : A.TBL_LISTENER_W14 n ∉ layWords s := fun h => by
    have := layWords_ge h
    simp only [A.TBL_LISTENER_W14] at this
    omega
  have hshow {f : Fld} (hf : f.adr = A.TBL_LISTENER_W14 n) : (s.seal u).fld f =
      (y.entryVerdict (F.TBL_LISTENER_W14_REFUSED n) (F.TBL_LISTENER_W14_WHY n) (y.lisWhy n)).fld f := by
    have hfs : f.adr ∉ summaries := entry_notMem (by rw [hf]; simp only [A.TBL_LISTENER_W14]; omega)
    exact (State.fld_seal_of hfs).trans ((hlast.fld (by rw [hf]; exact h14)).trans (hsilent.fld id))
  have hfw : (s.seal u).fld (F.TBL_LISTENER_W14_WHY n) = y.lisWhy n := (hshow rfl).trans v1
  have hregs : Chg (fun b => b ∈ [a, A.TBL_LISTENER_W14 n, A.STRM_EVT] ++ layWords s) AnyPart NoMem s u :=
    (((hkeep.widen fun b hb => by simp [hb]).trans (hbefore.widen fun b hb => by simp [hb])).trans
      (hjudged.widen fun b hb => by rcases hb with hb | hb <;> simp [hb])).trans (hlast.widen fun b hb => List.mem_append_right _ hb)
  refine answers_effect _ (State.runIf_true s (decide_eq_true hn) _) heff hregs.anywhere ⟨?_, hfw.trans hwhy, ?_, fun h0 => ?_, ?_, hregs.memKept⟩
  · have hne : ¬ (a = A.TBL_LISTENER_W14 n ∨ a = A.STRM_EVT) := by simp only [A.TBL_LISTENER_W14, A.STRM_EVT]; omega
    have hal : a ∉ layWords s := fun h => by have := layWords_ge h; omega
    rw [State.reg_seal _ _ (entry_notMem (by omega)), hlast.reg a hal, hjudged.reg a hne, hbefore.reg a fun h => hne (.inl h), he,
      State.reg_keepWord_same]
  · rw [hfw]
    exact (congrArg (· != 0) (hshow rfl)).trans v2
  · have hev : A.STRM_EVT ∉ layWords s := fun h => by have := layWords_ge h; simp only [A.STRM_EVT] at this; omega
    rw [State.on_seal_of (by decide), hlast.on hev, hsilent.on id]
    exact v3 (hfw ▸ h0)
  · intro b hb hbs
    rw [State.reg_seal _ _ hbs, hregs.reg b hb]

/-- An entry leaves its group. -/
def State.leaveGroup (s : State) (n g : Nat) : State :=
  let s := s.lisUpd n (fun l => { l with joined := none, again := false })
  s.when (!anyN s.streams (fun m => (s.lis m).joined == some g))
    (fun s => s.toAll (s.mpFrame (if Nat.blt g (2 ^ 32) then 0x01005E000016 else 0x333300000016) 64 none (.leave g)) 0)

theorem State.membership_leaves {s : State} {n g : Nat} (h : s.lisGroup n = none) (hj : (s.lis n).joined = some g) :
    s.membership n = s.leaveGroup n g := by
  unfold State.membership
  rw [h, hj]
  rfl

theorem leaveGroup_lis (s : State) (n g : Nat) : (s.leaveGroup n g).lis n = { s.lis n with joined := none, again := false } := by
  have hc : Chg (fun _ => False) (Parts [.ring]) NoMem (s.lisUpd n (fun l => { l with joined := none, again := false })) (s.leaveGroup n g) := by
    unfold State.leaveGroup
    exact Chg.refl.when _ _ fun _ => Chg.refl.toAll (by simp) _ _
  rw [State.lis_of_strm (hc.part .strm (by simp)), State.lis_lisUpd, if_pos rfl]

/-- An entry that needs no group has joined none. -/
theorem membership_none {s : State} {n : Nat} (h : s.lisGroup n = none) : ((s.membership n).lis n).joined = none := by
  cases hj : (s.lis n).joined with
  | none =>
    have hs : s.membership n = s := if_pos (h.trans hj.symm)
    rw [hs, hj]
  | some g => rw [State.membership_leaves h hj, leaveGroup_lis]

/-- A disabled listener entry keeps its word only (R161, R182). -/
theorem answers_listenerEntryWrite_off (s : State) (n : Nat) (w : Fin 16) (m : Master) (priv : Bool) (x : Word) (hn : n < s.streams)
    (hw : w.val < 14) (hd : Direct s m priv (A.TBL_LISTENER_W0 n + 4 * w.val)) (hr : AsItReads s (A.TBL_LISTENER_W0 n + 4 * w.val) x)
    (hh : s.scp.holds = []) (hen : (s.putReg (A.TBL_LISTENER_W0 n + 4 * w.val) x).on (F.TBL_LISTENER_W0_EN n) = false) :
    Answers (.listenerEntryWrite n w (whole m priv x)) s fun t =>
      t.reg (A.TBL_LISTENER_W0 n + 4 * w.val) = x ∧ (t.lis n).joined = none ∧
      RegsKept ((A.TBL_LISTENER_W0 n + 4 * w.val) :: layWords s) s t ∧ MemKept s t := by
  set a := A.TBL_LISTENER_W0 n + 4 * w.val with ha
  have hn256 : n < 256 := Nat.lt_of_lt_of_le hn (tables_le s.variant).1
  have hav : a = 0x100000 + 0x40 * n + 4 * w.val := ha
  have hfour : a % 4 = 0 := by omega
  have hstore : StoresAt s.variant a := storesAt_of_plain (by omega) (by omega) (by omega) (rowAt_listener s.variant hn hw)
  set e := s.fresh.keepWord a x.toNat with he
  have heen : e.on (F.TBL_LISTENER_W0_EN n) = false := (State.on_of_reg (reg_keepWord_putReg s a _ x)).trans hen
  obtain ⟨rise, moved, was, hoff, heq⟩ := e.listenerWrite_eq n w.val (s.reg a)
  obtain ⟨hrise, hmoved⟩ := hoff heen
  have hbefore : e.lisBefore n rise moved = e := by rw [State.lisBefore, hrise, hmoved, State.when_false, State.when_false]
  rw [heen, Bool.false_and, if_neg Bool.false_ne_true, hbefore] at heq
  set u := (e.membership n).layStatus with hu
  have hkeep : Chg (· = a) (Parts []) NoMem s e := Chg.refl.fresh.keepWord _ _ rfl
  have hmem : Chg (· ∈ layWords s) (Parts [.strm, .ring]) NoMem e (e.membership n) := Chg.refl.membership (by simp) (by simp) n
  have hstat : Chg (· ∈ layWords s) (Parts []) NoMem (e.membership n) u :=
    Chg.refl.layStatus fun b hb => (layWords_of_variant (hmem.variant.trans hkeep.variant)) ▸ hb
  have hscp : u.scp.holds = [] := by
    rw [hstat.part .scp (by simp), hmem.part .scp (by simp), hkeep.part .scp (by simp)]
    exact hh
  have heff : s.fresh.words a (whole m priv x) = u := by
    rw [hd.actsAt hr hstore (entry_actsAlways (by omega) (by omega) (by omega)), ← he, entry_effect e m _ (by omega), ha,
      listener_effect e hn256 w.isLt, ← ha, heq, ownerEffect_idle hscp]
  have hregs : Chg (fun b => b ∈ a :: layWords s) AnyPart NoMem s u :=
    ((hkeep.widen fun b hb => by simp [hb]).trans (hmem.widen fun b hb => List.mem_cons_of_mem _ hb)).trans
      (hstat.widen fun b hb => List.mem_cons_of_mem _ hb)
  have hal : a ∉ layWords s := fun h => by have := layWords_ge h; omega
  have hgroup : e.lisGroup n = none := by
    unfold State.lisGroup State.lisOn
    rw [heen]
    rfl
  refine answers_effect _ (State.runIf_true s (decide_eq_true hn) _) heff hregs.anywhere ⟨?_, ?_, ?_, hregs.memKept⟩
  · rw [State.reg_seal _ _ (entry_notMem (by omega)), hstat.reg a hal, hmem.reg a hal, he, State.reg_keepWord_same]
  · rw [State.lis_of_strm ((State.seal_strm s u).trans (hstat.part .strm (by simp))), membership_none hgroup]
  · intro b hb hbs
    rw [State.reg_seal _ _ hbs, hregs.reg b hb]

/-! ### Talkers (R161, R164, R165) -/

/-- An entry enabled by the write starts a new sequence. -/
def State.talkRise (s : State) (n : Nat) : State :=
  (s.talkerUpd n (fun t => { t with next := none, buf := [], fromEf := s.play.cleat, mr := false })).set (F.TBL_TALKER_W14_NEXT_SEQ n) 0

theorem State.talkerWrite_eq (s : State) (n w : Nat) (old : Word) (h : s.on (F.TBL_TALKER_W0_EN n) = true) (hw : w < 14) :
    s.talkerWrite n w old = ((s.when (w == 0 && !old.getLsbD 31) (fun s => s.talkRise n)).entryVerdict (F.TBL_TALKER_W14_REFUSED n)
      (F.TBL_TALKER_W14_WHY n) ((s.when (w == 0 && !old.getLsbD 31) (fun s => s.talkRise n)).talkWhy n)) := by
  unfold State.talkerWrite
  dsimp only
  rw [h, decide_eq_true hw]
  simp only [Bool.and_true, Bool.not_true, Bool.and_false, Bool.false_and, State.when_false, if_pos]
  rfl

theorem talkStatus_free (n : Nat) : (F.TBL_TALKER_W14_REFUSED n).ok = true ∧ (F.TBL_TALKER_W14_WHY n).ok = true ∧
    Fld.free (F.TBL_TALKER_W14_WHY n) (F.TBL_TALKER_W14_REFUSED n) = true ∧
    Fld.free F.STRM_EVT_REFUSED (F.TBL_TALKER_W14_REFUSED n) = true ∧ Fld.free F.STRM_EVT_REFUSED (F.TBL_TALKER_W14_WHY n) = true := by
  have hne : A.TBL_TALKER_W14 n ≠ A.STRM_EVT := by simp only [A.TBL_TALKER_W14, A.STRM_EVT]; omega
  refine ⟨rfl, rfl, ?_, Fld.free_of_adr rfl rfl hne, Fld.free_of_adr rfl rfl hne⟩
  simp only [Fld.free, bne_self_eq_false, Bool.false_or]
  rfl

theorem talkNext_free (n : Nat) : Fld.free (F.TBL_TALKER_W14_REFUSED n) (F.TBL_TALKER_W14_NEXT_SEQ n) = true ∧
    Fld.free (F.TBL_TALKER_W14_WHY n) (F.TBL_TALKER_W14_NEXT_SEQ n) = true ∧ Fld.free F.STRM_EVT_REFUSED (F.TBL_TALKER_W14_NEXT_SEQ n) = true := by
  have hne : A.TBL_TALKER_W14 n ≠ A.STRM_EVT := by simp only [A.TBL_TALKER_W14, A.STRM_EVT]; omega
  refine ⟨?_, ?_, Fld.free_of_adr rfl rfl hne⟩ <;> simp only [Fld.free, bne_self_eq_false, Bool.false_or] <;> rfl

theorem topBit_on (s : State) (a : Nat) : s.on ⟨a, 31, 31⟩ = (s.reg a).getLsbD 31 := by
  rw [BitVec.getLsbD, Nat.testBit_eq_decide_div_mod_eq]
  have h : s.fld ⟨a, 31, 31⟩ = (s.reg a).toNat / 2 ^ 31 % 2 := by
    rw [State.fld, Fld.of, Nat.shiftRight_eq_div_pow]
    rfl
  rw [State.on, h]
  rcases Nat.mod_two_eq_zero_or_one ((s.reg a).toNat / 2 ^ 31) with h2 | h2 <;> rw [h2] <;> rfl

/-- An entry's EN bit is its first word's top bit. -/
theorem on_talkEn (s : State) (n : Nat) : s.on (F.TBL_TALKER_W0_EN n) = (s.reg (A.TBL_TALKER_W0 n)).getLsbD 31 := topBit_on s _

/-- A written word of an enabled talker entry is judged, and an entry it enables starts anew (R164, R165). -/
theorem answers_talkerEntryWrite_on (s : State) (n : Nat) (w : Fin 16) (m : Master) (priv : Bool) (x : Word) (hn : n < s.streams)
    (hw : w.val < 10 ∨ w.val = 13) (hd : Direct s m priv (A.TBL_TALKER_W0 n + 4 * w.val))
    (hr : AsItReads s (A.TBL_TALKER_W0 n + 4 * w.val) x) (hh : s.scp.holds = [])
    (hen : (s.putReg (A.TBL_TALKER_W0 n + 4 * w.val) x).on (F.TBL_TALKER_W0_EN n) = true) :
    Answers (.talkerEntryWrite n w (whole m priv x)) s fun t =>
      t.reg (A.TBL_TALKER_W0 n + 4 * w.val) = x ∧
      t.fld (F.TBL_TALKER_W14_WHY n) = (s.putReg (A.TBL_TALKER_W0 n + 4 * w.val) x).talkWhy n ∧
      t.on (F.TBL_TALKER_W14_REFUSED n) = (t.fld (F.TBL_TALKER_W14_WHY n) != 0) ∧
      (t.fld (F.TBL_TALKER_W14_WHY n) ≠ 0 → t.on F.STRM_EVT_REFUSED = true) ∧
      (s.on (F.TBL_TALKER_W0_EN n) = false → t.fld (F.TBL_TALKER_W14_NEXT_SEQ n) = 0 ∧ (t.talker n).buf = [] ∧
        (t.talker n).fromEf = s.play.cleat) ∧
      Framed [A.TBL_TALKER_W0 n + 4 * w.val, A.TBL_TALKER_W14 n, A.STRM_EVT] [.strm] s t := by
  have hw14 : w.val < 14 := by omega
  set a := A.TBL_TALKER_W0 n + 4 * w.val with ha
  have hn256 : n < 256 := Nat.lt_of_lt_of_le hn (tables_le s.variant).1
  have hav : a = 0x104000 + 0x40 * n + 4 * w.val := ha
  have hfour : a % 4 = 0 := by omega
  have hstore : StoresAt s.variant a := storesAt_of_plain (by omega) (by omega) (by omega) (rowAt_talker s.variant hn hw)
  set e := s.fresh.keepWord a x.toNat with he
  have hereg (b : Nat) : e.reg b = (s.putReg a x).reg b := reg_keepWord_putReg s a b x
  have heen : e.on (F.TBL_TALKER_W0_EN n) = true := (State.on_of_reg (hereg _)).trans hen
  set y := e.when (w.val == 0 && !(s.reg a).getLsbD 31) (fun s => s.talkRise n) with hy
  set u := y.entryVerdict (F.TBL_TALKER_W14_REFUSED n) (F.TBL_TALKER_W14_WHY n) (y.talkWhy n) with hu
  have heq : e.talkerWrite n w.val (s.reg a) = u := e.talkerWrite_eq n w.val (s.reg a) heen hw14
  have hkeep : Chg (Listed [a]) (Parts []) NoMem s e := Chg.refl.fresh.keepWord _ _ (by simp)
  have hrise : Chg (· = A.TBL_TALKER_W14 n) (Parts [.strm]) NoMem e (e.talkRise n) := (Chg.refl.talkerUpd n _ (by simp)).set _ _ rfl
  have hbefore : Chg (· = A.TBL_TALKER_W14 n) (Parts [.strm]) NoMem e y := Chg.refl.when _ _ fun _ => hrise
  have hframe : Chg (Listed [a, A.TBL_TALKER_W14 n, A.STRM_EVT]) (Parts [.strm]) NoMem s u := by
    refine Chg.entryVerdict ?_ (by simp) (by simp) (by simp) _
    refine (Chg.refl.fresh.keepWord _ _ (by simp)).trans (hbefore.mono (fun b hb => ?_) (fun _ h => h) fun _ h => h)
    simp [hb]
  have hscp : u.scp.holds = [] := by
    rw [hframe.part .scp (by simp)]
    exact hh
  have heff : s.fresh.words a (whole m priv x) = u := by
    rw [hd.actsAt hr hstore (entry_actsAlways (by omega) (by omega) (by omega)), ← he, entry_effect e m _ (by omega), ha,
      talker_effect e hn256 w.isLt, ← ha, heq, ownerEffect_idle hscp]
  have hstatus : ButStatus (A.TBL_TALKER_W14 n) e y :=
    ⟨by simp only [A.TBL_TALKER_W14]; omega, hbefore.variant, fun b hb => hbefore.reg b hb⟩
  have hput : ButStatus (A.TBL_TALKER_W14 n) (s.putReg a x) e := ⟨hstatus.status, hkeep.variant, fun b _ => hereg b⟩
  have hwhy : y.talkWhy n = (s.putReg a x).talkWhy n := hstatus.talkWhy.trans hput.talkWhy
  obtain ⟨f1, f2, f3, f4, f5⟩ := talkStatus_free n
  obtain ⟨v1, v2, v3⟩ := verdict_shows y f1 f2 rfl (talkWhy_lt y n) f3 f4 f5
  have h14 : A.TBL_TALKER_W14 n ∉ summaries := entry_notMem (by simp only [A.TBL_TALKER_W14]; omega)
  have hshow {f : Fld} (hf : f.adr = A.TBL_TALKER_W14 n) : (s.seal u).fld f = u.fld f := State.fld_seal_of (by rw [hf]; exact h14)
  have hfw : (s.seal u).fld (F.TBL_TALKER_W14_WHY n) = y.talkWhy n := (hshow rfl).trans v1
  have huv : Chg (fun b => b = A.TBL_TALKER_W14 n ∨ b = A.STRM_EVT) (Parts []) NoMem y u := Chg.refl.entryVerdict (.inl rfl) (.inl rfl) (.inr rfl) _
  refine answers_effect _ (State.runIf_true s (decide_eq_true hn) _) heff hframe ⟨?_, hfw.trans hwhy, ?_, fun h0 => ?_, fun hoff => ?_, hframe.framed⟩
  · have hne : ¬ (a = A.TBL_TALKER_W14 n ∨ a = A.STRM_EVT) := by simp only [A.TBL_TALKER_W14, A.STRM_EVT]; omega
    rw [State.reg_seal _ _ (entry_notMem (by omega)), huv.reg a hne, hbefore.reg a fun h => hne (.inl h), he, State.reg_keepWord_same]
  · rw [hfw]
    exact (congrArg (· != 0) (hshow rfl)).trans v2
  · rw [State.on_seal_of (by decide)]
    exact v3 (hfw ▸ h0)
  · have hw0 : w.val = 0 := by
      by_contra hne0
      have hne : A.TBL_TALKER_W0 n ≠ a := by omega
      have : e.on (F.TBL_TALKER_W0_EN n) = s.on (F.TBL_TALKER_W0_EN n) := State.on_of_reg (State.reg_keepWord_ne _ _ hne)
      exact Bool.false_ne_true (hoff.symm.trans (this.symm.trans heen))
    have hold : (s.reg a).getLsbD 31 = false := by
      rw [show a = A.TBL_TALKER_W0 n by omega, ← on_talkEn]
      exact hoff
    have hyr : y = e.talkRise n := by
      rw [hy, hw0, hold]
      exact State.when_true _
    obtain ⟨n1, n2, n3⟩ := talkNext_free n
    have hplay : e.play.cleat = s.play.cleat := congrArg PlayS.cleat (hkeep.part .play (by simp))
    have htalk : (s.seal u).talker n = { e.talker n with next := none, buf := [], fromEf := e.play.cleat, mr := false } := by
      rw [State.talker_of_strm ((State.seal_strm s u).trans (huv.part .strm (by simp))), hyr, State.talkRise,
        State.talker_of_strm (State.set_strm _ _ _), State.talker_talkerUpd, if_pos rfl]
    refine ⟨?_, congrArg TalkerS.buf htalk, (congrArg TalkerS.fromEf htalk).trans hplay⟩
    rw [hshow rfl, hu, State.entryVerdict, State.fld_when_event _ n3, State.fld_set_free _ n2, State.fld_set_free _ n1, hyr, State.talkRise,
      State.fld_set_same _ rfl]
    rfl

theorem State.talkerWrite_off (s : State) (n w : Nat) (old : Word) (h : s.on (F.TBL_TALKER_W0_EN n) = false) (hsap : (s.talker n).sap = false) :
    s.talkerWrite n w old = s := by
  unfold State.talkerWrite
  dsimp only
  rw [h]
  simp only [Bool.and_false, Bool.false_and, State.when_false, hsap, Bool.false_eq_true, if_false]

/-- A disabled talker entry keeps its word only (R164). -/
theorem answers_talkerEntryWrite_off (s : State) (n : Nat) (w : Fin 16) (m : Master) (priv : Bool) (x : Word) (hn : n < s.streams)
    (hw : w.val < 10 ∨ w.val = 13) (hd : Direct s m priv (A.TBL_TALKER_W0 n + 4 * w.val))
    (hr : AsItReads s (A.TBL_TALKER_W0 n + 4 * w.val) x) (hh : s.scp.holds = [])
    (hen : (s.putReg (A.TBL_TALKER_W0 n + 4 * w.val) x).on (F.TBL_TALKER_W0_EN n) = false) (hsap : (s.talker n).sap = false) :
    Answers (.talkerEntryWrite n w (whole m priv x)) s fun t =>
      t.reg (A.TBL_TALKER_W0 n + 4 * w.val) = x ∧ Framed [A.TBL_TALKER_W0 n + 4 * w.val] [] s t := by
  set a := A.TBL_TALKER_W0 n + 4 * w.val with ha
  have hn256 : n < 256 := Nat.lt_of_lt_of_le hn (tables_le s.variant).1
  have hav : a = 0x104000 + 0x40 * n + 4 * w.val := ha
  have hfour : a % 4 = 0 := by omega
  have hstore : StoresAt s.variant a := storesAt_of_plain (by omega) (by omega) (by omega) (rowAt_talker s.variant hn hw)
  set e := s.fresh.keepWord a x.toNat with he
  have hframe : Chg (Listed [a]) (Parts []) NoMem s e := Chg.refl.fresh.keepWord _ _ (by simp)
  have heen : e.on (F.TBL_TALKER_W0_EN n) = false := (State.on_of_reg (reg_keepWord_putReg s a _ x)).trans hen
  have hesap : (e.talker n).sap = false := (congrArg TalkerS.sap (State.talker_of_strm (hframe.part .strm (by simp)) n)).trans hsap
  have hscp : e.scp.holds = [] := by
    rw [hframe.part .scp (by simp)]
    exact hh
  have heff : s.fresh.words a (whole m priv x) = e := by
    rw [hd.actsAt hr hstore (entry_actsAlways (by omega) (by omega) (by omega)), ← he, entry_effect e m _ (by omega), ha,
      talker_effect e hn256 w.isLt, ← ha, State.talkerWrite_off e _ _ _ heen hesap, ownerEffect_idle hscp]
  refine answers_effect _ (State.runIf_true s (decide_eq_true hn) _) heff hframe ⟨?_, hframe.framed⟩
  rw [State.reg_seal _ _ (entry_notMem (by omega)), he, State.reg_keepWord_same]

/-! ### Lays (R173 to R175, R179) -/

/-- A lay enabled by the write takes its offset and silences its members. -/
def State.layRise (s : State) (n : Nat) : State :=
  let s := s.layUpd n (fun l => { l with offset := s.fld (F.TBL_LAY_W1_PRES_OFFSET n) })
  forL ((List.range s.streams).filter (fun m => s.lisLead m && s.lisLay m == n)) (fun m s => s.lisSilence m) s

theorem Chg.layRise {R : Nat → Prop} {P : Part → Prop} {M : Nat → Prop} {s t : State} (h : Chg R P M s t) (hs : P .strm) (hp : P .play) (n : Nat) :
    Chg R P M s (t.layRise n) := by
  unfold State.layRise
  exact Chg.forL _ _ (fun _ _ u hu => hu.lisSilence hp _) (h.layUpd n _ hs)

/-- No lay's class changes as an inactive lay is written. -/
theorem State.layWrite_rise (s : State) (n : Nat) (old : Word) (hact : s.on (F.TBL_LAY_W2_ACTIVE n) = false)
    (hen : s.on (F.TBL_LAY_W0_EN n) = true) (hold : old.getLsbD 31 = false) : s.layWrite n 0 old = (s.layRise n).layStatus := by
  have hr : Chg (fun _ => False) (Parts [.strm, .play]) NoMem s (s.layRise n) := Chg.refl.layRise (by simp) (by simp) n
  have hclass : (s.layRise n).class7 = (s.held7 || s.layActive (fun c => c == 7)) := by
    have ha : (s.layRise n).layActive (fun c => c == 7) = s.layActive (fun c => c == 7) := by
      unfold State.layActive
      rw [State.lays, State.lays, hr.variant]
      exact anyN_congr fun k _ => by rw [hr.on id, hr.fld id]
    rw [State.class7, ha, Bool.or_comm, State.held7, State.held7, hr.part .scp (by simp)]
  have he : s.layWrite n 0 old = ((s.when (s.on (F.TBL_LAY_W0_EN n) && !old.getLsbD 31) (fun s => s.layRise n)).class7Edge
      ((s.on (F.TBL_LAY_W2_ACTIVE n) && old.toNat / 2 ^ 24 % 8 == 7 || s.held7) || s.layActive (fun c => c == 7))).layStatus := rfl
  have hedge (u : State) : u.class7Edge u.class7 = u := by
    unfold State.class7Edge
    cases u.class7 <;> rfl
  rw [he, hact, hen, hold, Bool.false_and, Bool.false_or, ← hclass]
  exact congrArg State.layStatus (hedge _)

end Sys2Proof.Machine
end

section
/-! PROOFS. Lay entries and the arrival hold (R173 to R175, R179), and O30. -/
namespace Sys2Proof.Machine

theorem lisOn_of_reg {s t : State} (h : ∀ a, 0x100000 ≤ a → a < 0x108000 → t.reg a = s.reg a) {n : Nat} (hn : n < 256) : t.lisOn n = s.lisOn n := by
  have h0 : 0x100000 ≤ A.TBL_LISTENER_W0 n ∧ A.TBL_LISTENER_W0 n < 0x108000 := by simp only [A.TBL_LISTENER_W0]; omega
  have h14 : 0x100000 ≤ A.TBL_LISTENER_W14 n ∧ A.TBL_LISTENER_W14 n < 0x108000 := by simp only [A.TBL_LISTENER_W14]; omega
  unfold State.lisOn
  rw [State.on_of_reg (h _ h0.1 h0.2), State.on_of_reg (h _ h14.1 h14.2)]

theorem partner_of_reg {s t : State} (hv : t.variant = s.variant) (h : ∀ a, 0x100000 ≤ a → a < 0x108000 → t.reg a = s.reg a) {n : Nat} (hn : n < 256) :
    t.partner n = s.partner n := by
  have hp : s.fld (F.TBL_LISTENER_W13_PARTNER n) < 256 := State.fld_lt s _
  have h0 {k : Nat} (hk : k < 256) : 0x100000 ≤ A.TBL_LISTENER_W0 k ∧ A.TBL_LISTENER_W0 k < 0x108000 := by simp only [A.TBL_LISTENER_W0]; omega
  have h13 {k : Nat} (hk : k < 256) : 0x100000 ≤ A.TBL_LISTENER_W13 k ∧ A.TBL_LISTENER_W13 k < 0x108000 := by simp only [A.TBL_LISTENER_W13]; omega
  unfold State.partner
  rw [State.fld_eq_of_reg (h _ (h13 hn).1 (h13 hn).2), State.streams, State.streams, hv]
  dsimp only
  rw [State.on_of_reg (h _ (h0 hn).1 (h0 hn).2), State.on_of_reg (h _ (h0 hp).1 (h0 hp).2), State.fld_eq_of_reg (h _ (h13 hp).1 (h13 hp).2), lisOn_of_reg h hn, lisOn_of_reg h hp]

/-- The members of a lay depend on the listeners' words and the variant. -/
theorem members_of_reg {s t : State} (hv : t.variant = s.variant) (h : ∀ a, 0x100000 ≤ a → a < 0x108000 → t.reg a = s.reg a) (n : Nat) :
    t.members n = s.members n := by
  have hs : t.streams = s.streams := by rw [State.streams, State.streams, hv]
  have hle : s.streams ≤ 256 := (tables_le s.variant).1
  unfold State.members
  rw [hs]
  refine congrArg List.length (List.filter_congr fun k hk => ?_)
  have hk' : k < 256 := Nat.lt_of_lt_of_le (List.mem_range.mp hk) hle
  have h0 : 0x100000 ≤ A.TBL_LISTENER_W0 k ∧ A.TBL_LISTENER_W0 k < 0x108000 := by simp only [A.TBL_LISTENER_W0]; omega
  rw [State.lisLead, State.lisLead, State.lisLay, State.lisLay, lisOn_of_reg h hk', State.lowerOf, State.lowerOf, partner_of_reg hv h hk',
    State.fld_eq_of_reg (h _ h0.1 h0.2)]

theorem layWords_below {s : State} {a : Nat} (ha : a < 0x108000) : a ∉ layWords s := fun h => by
  have := (layWords_ge h).1
  omega

/-- The status of a lay counts its members (R175). -/
theorem layStatus_members (s : State) {n : Nat} (hn : n < s.lays) :
    s.layStatus.fld (F.TBL_LAY_W2_MEMBERS n) = min 255 (s.members n) := by
  have hstep (k : Nat) (t : State) (g : Fld) (hg : Fld.free (F.TBL_LAY_W2_MEMBERS k) g = true) (hg' : Fld.free (F.TBL_LAY_W2_MUTED k) g = true) :
      ((t.keep (F.TBL_LAY_W2_MEMBERS k) (min 255 (t.members k))).keep (F.TBL_LAY_W2_MUTED k) (if t.layMuted k then 1 else 0)).fld g = t.fld g := by
    rw [State.fld_keep_free _ hg', State.fld_keep_free _ hg]
  let r (t : State) := (t.fld (F.TBL_LAY_W2_MEMBERS n), t.members n)
  suffices h : (r s.layStatus).1 = min 255 (s.members n) from h
  have hmem (k : Nat) (t : State) :
      ((t.keep (F.TBL_LAY_W2_MEMBERS k) (min 255 (t.members k))).keep (F.TBL_LAY_W2_MUTED k) (if t.layMuted k then 1 else 0)).members n = t.members n := by
    have hc : Chg (· = A.TBL_LAY_W2 k) (Parts []) NoMem t
        ((t.keep (F.TBL_LAY_W2_MEMBERS k) (min 255 (t.members k))).keep (F.TBL_LAY_W2_MUTED k) (if t.layMuted k then 1 else 0)) :=
      (Chg.refl.keep (F.TBL_LAY_W2_MEMBERS k) _ (by simp)).keep (F.TBL_LAY_W2_MUTED k) _ (by simp)
    exact members_of_reg hc.variant (fun a _ ha => hc.reg a (by simp only [A.TBL_LAY_W2]; omega)) n
  refine forN_at r (fun x => x.1 = min 255 (s.members n)) s.lays n _ s hn (fun k _ hk t => ?_) fun t ht => ?_
  · refine Prod.ext (hstep k t _ ?_ ?_) (hmem k t)
    all_goals exact Fld.free_of_adr rfl rfl (by simp only [A.TBL_LAY_W2]; omega)
  · have hm : t.members n = s.members n := congrArg Prod.snd ht
    show State.fld _ _ = _
    rw [State.fld_keep_free _ (by simp [Fld.free, Fld.ok, Fld.apart]), hm, State.fld_keep_same _ rfl (by simp only [Fld.width]; omega)]

/-! ### Writes of a lay's words -/

theorem layW0_stores (s : State) {n : Nat} (hn : n < s.lays) : StoresAt s.variant (A.TBL_LAY_W0 n) := by
  have hn64 : n < 64 := Nat.lt_of_lt_of_le hn (tables_le s.variant).2
  exact storesAt_of_plain (by simp only [A.TBL_LAY_W0]; omega) (by simp only [A.TBL_LAY_W0]; omega) (by simp only [A.TBL_LAY_W0]; omega)
    (rowAt_lay s.variant hn (w := 0) (by decide))

theorem layW1_stores (s : State) {n : Nat} (hn : n < s.lays) : StoresAt s.variant (A.TBL_LAY_W1 n) := by
  have hn64 : n < 64 := Nat.lt_of_lt_of_le hn (tables_le s.variant).2
  have hrow := rowAt_lay s.variant hn (w := 1) (by decide)
  rw [show A.TBL_LAY_W0 n + 4 * 1 = A.TBL_LAY_W1 n by simp only [A.TBL_LAY_W0, A.TBL_LAY_W1]; omega] at hrow
  exact storesAt_of_plain (by simp only [A.TBL_LAY_W1]; omega) (by simp only [A.TBL_LAY_W1]; omega) (by simp only [A.TBL_LAY_W1]; omega) hrow

theorem layW1_asItReads (s : State) {n : Nat} (hn : n < s.lays) (x : Word) : AsItReads s (A.TBL_LAY_W1 n) x := by
  have hrow : ∃ r, rowAt s.variant (A.TBL_LAY_W1 n) = some r ∧ r.rsv = 0 := by
    obtain ⟨hc, hl⟩ := tables_le s.variant
    unfold State.lays at hn
    rw [rowAt, rowsAt_table10 s.variant (by simp only [A.TBL_LAY_W1]; omega), rowsTable10, A.TBL_LAY_W1]
    generalize s.variant.pick 0x40 0x20 0x10 = c at hn hl ⊢
    generalize s.variant.pick 0x100 0x80 0x40 = c' at hc ⊢
    simp (disch := omega) only [find_row_skip, find_row_hit]
    exact ⟨_, rfl, rfl⟩
  obtain ⟨r, hr, hrsv⟩ := hrow
  intro q hq
  rw [hr] at hq
  cases hq
  rw [hrsv]
  exact Nat.and_zero _

/-- A lay enabled while inactive takes its offset (R173). -/
theorem answers_layEntryWrite_rise (s : State) (n : Nat) (m : Master) (priv : Bool) (x : Word) (hn : n < s.lays)
    (hd : Direct s m priv (A.TBL_LAY_W0 n)) (hr : AsItReads s (A.TBL_LAY_W0 n) x) (hact : s.on (F.TBL_LAY_W2_ACTIVE n) = false)
    (hoff : s.on (F.TBL_LAY_W0_EN n) = false) (hon : (F.TBL_LAY_W0_EN n).of x.toNat = 1) :
    Answers (.layEntryWrite n 0 (whole m priv x)) s fun t =>
      t.reg (A.TBL_LAY_W0 n) = x ∧ (t.lay n).offset = s.fld (F.TBL_LAY_W1_PRES_OFFSET n) ∧
      t.fld (F.TBL_LAY_W2_MEMBERS n) = min 255 (t.members n) ∧
      Framed (A.TBL_LAY_W0 n :: layWords s) [.strm, .play] s t := by
  have hn64 : n < 64 := Nat.lt_of_lt_of_le hn (tables_le s.variant).2
  set a := A.TBL_LAY_W0 n with ha
  have hav : a = 0x108000 + 0x20 * n := ha
  have hne : s.reg a ≠ x := fun h => by
    have h1 : s.fld (F.TBL_LAY_W0_EN n) = 1 := by exact (congrArg (fun w : Word => (F.TBL_LAY_W0_EN n).of w.toNat) h).trans hon
    rw [State.on, h1] at hoff
    exact absurd hoff (by decide)
  set e := s.fresh.wr a x.toNat with he
  have hke : Chg (Listed [a]) (Parts []) NoMem s e := Chg.refl.fresh.wr _ _ (by simp)
  have hw (b : Nat) (hb : b ≠ a) : e.reg b = s.reg b := State.reg_wr_ne _ _ hb
  have hea : e.reg a = x := (State.reg_wr_same _ _ _).trans (by rw [BitVec.ofNat_toNat, BitVec.setWidth_eq])
  have heen : e.on (F.TBL_LAY_W0_EN n) = true := by
    have h1 : e.fld (F.TBL_LAY_W0_EN n) = 1 := (State.fld_wr_word s.fresh a x rfl).trans hon
    rw [State.on, h1]
    rfl
  have heact : e.on (F.TBL_LAY_W2_ACTIVE n) = false := (State.on_of_reg (hw _ (by simp only [A.TBL_LAY_W2]; omega))).trans hact
  have hold : (s.reg a).getLsbD 31 = false := (topBit_on s a).symm.trans hoff
  set y := e.layRise n with hy
  have hlw : layWords y = layWords s := layWords_of_variant (((Chg.refl.layRise (by simp) (by simp) n : Chg AnyReg (Parts [.strm, .play]) NoMem e y).variant).trans hke.variant)
  have hrise : Chg (fun _ => False) (Parts [.strm, .play]) NoMem e y := Chg.refl.layRise (by simp) (by simp) n
  have hstat : Chg (· ∈ layWords s) (Parts []) NoMem y y.layStatus := Chg.refl.layStatus fun b hb => hlw ▸ hb
  have hframe : Chg (Listed (a :: layWords s)) (Parts [.strm, .play]) NoMem s y.layStatus := by
    refine ((Chg.refl.fresh.wr _ _ (by simp)).layRise (by simp) (by simp) n).layStatus fun b hb => ?_
    have hb' : b ∈ layWords s := hlw ▸ hb
    simp [hb']
  have heff : s.fresh.words a (whole m priv x) = y.layStatus := by
    have howner : ∀ u : State, u.ownerEffect m a (s.reg a) = u := fun u => by
      have : ownerAt a = none := by
        unfold ownerAt
        simp only [A.TBL_LISTENER_W13, A.TBL_TALKER_W13, A.TBL_LAY_W1, A.TBL_PLINE_W7, A.TBL_LISTENER_W0, A.TBL_TALKER_W0, A.TBL_LAY_W0, A.TBL_PLINE_W0]
        rw [if_neg (by omega), if_neg (by omega), if_neg (by omega), if_neg (by omega)]
      unfold State.ownerEffect
      rw [this]
    have hlay : e.entryEffect a (s.reg a) = e.layWrite n 0 (s.reg a) := lay_effect e (n := n) (w := 0) (by decide) (s.reg a)
    rw [hd.storesAt hr (layW0_stores s hn) hne, ← he, entry_effect e m _ (by omega), hlay, State.layWrite_rise e n _ heact heen hold, howner]
  have hnot : a ∉ layWords s := fun h => by have := (layWords_ge h).2; omega
  refine answers_effect _ (State.runIf_true s (decide_eq_true hn) _) heff hframe ⟨?_, ?_, ?_, hframe.framed⟩
  · rw [State.reg_seal _ _ (entry_notMem (by omega)), hstat.reg a hnot, hrise.reg a id, hea]
  · have hlays : (y.lay n).offset = e.fld (F.TBL_LAY_W1_PRES_OFFSET n) := by
      have hsil : Chg (fun _ => False) (Parts [.play]) NoMem (e.layUpd n (fun l => { l with offset := e.fld (F.TBL_LAY_W1_PRES_OFFSET n) })) y :=
        Chg.forL _ _ (fun _ _ u hu => hu.lisSilence (by simp) _) Chg.refl
      rw [State.lay_of_strm (hsil.part .strm (by simp)), State.lay_layUpd, if_pos rfl]
    rw [State.lay_of_strm ((State.seal_strm s _).trans (hstat.part .strm (by simp))), hlays]
    exact State.fld_eq_of_reg (hw _ (by simp only [A.TBL_LAY_W1]; omega))
  · have hlays : y.lays = s.lays := by rw [State.lays, State.lays, hrise.variant, hke.variant]
    have hm : (s.seal y.layStatus).members n = y.members n :=
      members_of_reg (hstat.variant.symm ▸ (State.seal_variant s _)) (fun b h1 hb => (State.reg_seal _ _ (entry_notMem h1)).trans (hstat.reg b (layWords_below hb))) n
    rw [State.fld_seal_of (entry_notMem (by simp only [A.TBL_LAY_W2]; omega)), layStatus_members y (hlays ▸ hn), hm]

theorem presActs_lt (s : State) (v : Nat) : s.presActs v < 2 ^ 16 := by
  have hb : s.presBounds.1 < 2 ^ 16 ∧ s.presBounds.2.1 < 2 ^ 16 ∧ s.presBounds.2.2 < 2 ^ 16 := by
    unfold State.presBounds
    have h8 : s.fld F.CLK_MEDIA_CFG_RATE < 8 := s.fld_lt _
    generalize s.fld F.CLK_MEDIA_CFG_RATE = r at h8
    interval_cases r <;> decide
  obtain ⟨h1, h2, h3⟩ := hb
  show (if v = 0 then s.presBounds.2.1 else clampN s.presBounds.1 s.presBounds.2.2 v) < _
  split
  · exact h2
  · exact clampN_lt h1 h3

/-- The offset that a written word asks for, as it acts (R174). -/
def State.layOffsetOf (s : State) (n : Nat) : State :=
  s.when (s.fld (F.TBL_LAY_W1_PRES_OFFSET n) != 0) fun s => s.keep (F.TBL_LAY_W1_PRES_OFFSET n) (s.presActs (s.fld (F.TBL_LAY_W1_PRES_OFFSET n)))

theorem layOffsetOf_fld (s : State) (n : Nat) : (s.layOffsetOf n).fld (F.TBL_LAY_W1_PRES_OFFSET n) =
    if s.fld (F.TBL_LAY_W1_PRES_OFFSET n) = 0 then 0 else s.presActs (s.fld (F.TBL_LAY_W1_PRES_OFFSET n)) := by
  unfold State.layOffsetOf State.when
  by_cases h : s.fld (F.TBL_LAY_W1_PRES_OFFSET n) = 0
  · rw [if_pos h, h]
    exact h
  · rw [if_neg h, bne_iff_ne.mpr h, if_pos rfl, State.fld_keep_same _ rfl (presActs_lt _ _)]

theorem State.layWrite_offset (s : State) (n : Nat) (old : Word) : s.layWrite n 1 old =
    ((s.layOffsetOf n).when (!(s.layOffsetOf n).on (F.TBL_LAY_W0_EN n))
      (fun s => s.layUpd n (fun l => { l with offset := s.fld (F.TBL_LAY_W1_PRES_OFFSET n) }))).layStatus := rfl

/-- The offset written to a disabled lay acts at once (R174). -/
theorem answers_layEntryWrite_offset (s : State) (n : Nat) (m : Master) (priv : Bool) (x : Word) (hn : n < s.lays)
    (hd : Direct s m priv (A.TBL_LAY_W1 n)) (hh : s.scp.holds = []) (hne : s.reg (A.TBL_LAY_W1 n) ≠ x)
    (hoff : s.on (F.TBL_LAY_W0_EN n) = false) :
    Answers (.layEntryWrite n 1 (whole m priv x)) s fun t =>
      t.fld (F.TBL_LAY_W1_PRES_OFFSET n) =
        (if (F.TBL_LAY_W1_PRES_OFFSET n).of x.toNat = 0 then 0 else s.presActs ((F.TBL_LAY_W1_PRES_OFFSET n).of x.toNat)) ∧
      t.fld (F.TBL_LAY_W1_OWNER n) = (F.TBL_LAY_W1_OWNER n).of x.toNat ∧
      (t.lay n).offset = t.fld (F.TBL_LAY_W1_PRES_OFFSET n) ∧ Framed (A.TBL_LAY_W1 n :: layWords s) [.strm] s t := by
  have hn64 : n < 64 := Nat.lt_of_lt_of_le hn (tables_le s.variant).2
  set a := A.TBL_LAY_W1 n with ha
  have hav : a = 0x108004 + 0x20 * n := ha
  have ha1 : A.TBL_LAY_W0 n + 4 * (1 : Fin 8).val = a := by
    rw [hav]
    show 0x108000 + 0x20 * n + 4 * 1 = _
    omega
  have hwa : a = A.TBL_LAY_W0 n + 4 * 1 := by simp only [A.TBL_LAY_W0]; omega
  have hr : AsItReads s a x := layW1_asItReads s hn x
  set e := s.fresh.wr a x.toNat with he
  have hke : Chg (Listed [a]) (Parts []) NoMem s e := Chg.refl.fresh.wr _ _ (by simp)
  have hw (b : Nat) (hb : b ≠ a) : e.reg b = s.reg b := State.reg_wr_ne _ _ hb
  have hof (f : Fld) (hf : f.adr = a) : e.fld f = f.of x.toNat := State.fld_wr_word s.fresh a x hf
  set y := e.layOffsetOf n with hy
  have hye : Chg (· = a) (Parts []) NoMem e y := Chg.refl.when _ _ fun _ => Chg.refl.keep (F.TBL_LAY_W1_PRES_OFFSET n) _ rfl
  have hyen : y.on (F.TBL_LAY_W0_EN n) = false := by
    have h0 : A.TBL_LAY_W0 n ≠ a := by simp only [A.TBL_LAY_W0]; omega
    exact (State.on_of_reg ((hye.reg _ h0).trans (hw _ h0))).trans hoff
  set z := y.layUpd n (fun l => { l with offset := y.fld (F.TBL_LAY_W1_PRES_OFFSET n) }) with hz
  have hlay : e.entryEffect a (s.reg a) = z.layStatus := by
    rw [hwa, lay_effect e (n := n) (w := 1) (by decide), State.layWrite_offset, ← hy, hyen, Bool.not_false, State.when_true]
  have hyz : Chg (fun _ => False) (Parts [.strm]) NoMem y z := Chg.refl.layUpd n _ (by simp)
  have hlw : layWords z = layWords s := layWords_of_variant (hyz.variant.trans (hye.variant.trans hke.variant))
  have hstat : Chg (· ∈ layWords s) (Parts []) NoMem z z.layStatus := Chg.refl.layStatus fun b hb => hlw ▸ hb
  have hframe : Chg (Listed (a :: layWords s)) (Parts [.strm]) NoMem s z.layStatus := by
    refine ((Chg.refl.fresh.wr _ _ (by simp)).trans ((hye.mono (fun b hb => ?_) (fun _ h => by simp at h) fun _ h => h).layUpd n _ (by simp))).layStatus fun b hb => ?_
    · simp [hb]
    · have hb' : b ∈ layWords s := hlw ▸ hb
      simp [hb']
  have hscp : z.layStatus.scp.holds = [] := by
    rw [hframe.part .scp (by simp)]
    exact hh
  have heff : s.fresh.words a (whole m priv x) = z.layStatus := by
    rw [hd.storesAt hr (layW1_stores s hn) hne, ← he, entry_effect e m _ (by omega), hlay, ownerEffect_idle hscp]
  have hnot : a ∉ layWords s := fun h => by have := (layWords_ge h).2; omega
  have hza (f : Fld) (hf : f.adr = a) : (s.seal z.layStatus).fld f = y.fld f := by
    rw [State.fld_seal_of (by rw [hf]; exact entry_notMem (by omega)), hstat.fld (by rw [hf]; exact hnot), hyz.fld id]
  have hoffset := hza (F.TBL_LAY_W1_PRES_OFFSET n) rfl
  have hpres (v : Nat) : e.presActs v = s.presActs v := by
    unfold State.presActs State.presBounds
    rw [State.fld_eq_of_reg (hw F.CLK_MEDIA_CFG_RATE.adr (by simp only [A.CLK_MEDIA_CFG]; omega))]
  rw [← ha1] at heff
  refine answers_effect _ (State.runIf_true s (decide_eq_true hn) _) heff hframe ⟨?_, ?_, ?_, hframe.framed⟩
  · rw [hoffset, hy, layOffsetOf_fld, hof _ rfl, hpres]
  · rw [hza _ rfl, ← hof (F.TBL_LAY_W1_OWNER n) rfl]
    exact State.fld_when _ _ (State.fld_keep_free _ (by simp [Fld.free, Fld.ok, Fld.apart]) _)
  · rw [hoffset, State.lay_of_strm ((State.seal_strm s _).trans (hstat.part .strm (by simp))), State.lay_layUpd, if_pos rfl]

/-- The words that report on a lay are not written (R175). -/
theorem answers_layEntryWrite_status (s : State) (n : Nat) (w : Fin 8) (m : Master) (priv : Bool) (x : Word) (hn : n < s.lays)
    (hw : 2 ≤ w.val) (hd : Direct s m priv (A.TBL_LAY_W0 n + 4 * w.val)) :
    Answers (.layEntryWrite n w (whole m priv x)) s (Framed [] [] s) := by
  have hn64 : n < 64 := Nat.lt_of_lt_of_le hn (tables_le s.variant).2
  have hav : A.TBL_LAY_W0 n + 4 * w.val = 0x108000 + 0x20 * n + 4 * w.val := rfl
  have hw8 := w.isLt
  have hacts : actsAlways (A.TBL_LAY_W0 n + 4 * w.val) 0 = false := by
    simp only [actsAlways, ← Bool.not_eq_true, Bool.or_eq_true, Bool.and_eq_true, beq_iff_eq, bne_self_eq_false, Nat.blt_eq, Nat.ble_eq,
      Bool.false_eq_true, false_or, not_or, not_and, not_lt, A.ENG_IMG_DATA, A.MGMT_FW_DATA, A.MGMT_KEY_STAGE, A.MGMT_LOG_IDX, A.TIME_TPO_START_NS,
      A.TBL_LISTENER_W0, A.TBL_LAY_W0, A.TBL_PLINE_W0, A.TBL_SIG_MAG, A.TBL_SCHED_W0, A.RING_PHY_DATA]
    omega
  have hplace : isPlaceAdr (A.TBL_LAY_W0 n + 4 * w.val) = false := by
    simp only [isPlaceAdr, ← Bool.not_eq_true, Bool.or_eq_true, Bool.and_eq_true, beq_iff_eq, Nat.blt_eq, Nat.ble_eq, A.ENG_SPAN, A.ENG_CORE_CERT,
      A.ENG_DESC_W0, A.TBL_LAY_W0]
    omega
  have hframe : Chg (Listed []) (Parts []) NoMem s s.fresh := Chg.refl.fresh
  exact answers_effect _ (State.runIf_true s (decide_eq_true hn) _)
    (hd.fixed (by omega) (by simp only [A.TEST_CTL]; omega) hplace (rowAt_layFixed s.variant hn hw hw8) hacts) hframe hframe.framed

/-! ### The arrival hold (R186) -/

theorem holdCfg_stores : StoresEverywhere A.STRM_HOLD_CFG := fun v => by cases v <;> decide

theorem holdFree_lt (s : State) : s.holdFree < 2 ^ 17 := by
  unfold State.holdFree State.holdBlocks
  split <;> omega

/-- The arrival hold's size is taken in STAGING (R186). -/
theorem answers_holdCfgWrite_taken (s : State) (m : Master) (priv : Bool) (x : Word) (hd : Direct s m priv A.STRM_HOLD_CFG)
    (hr : AsItReads s A.STRM_HOLD_CFG x) (hst : s.modState = 2) (hne : F.STRM_HOLD_CFG_HOLD_MIB.of x.toNat ≠ s.fld F.STRM_HOLD_CFG_HOLD_MIB) :
    Answers (.holdCfgWrite (whole m priv x)) s fun t =>
      t.reg A.STRM_HOLD_CFG = x ∧ t.fld F.STRM_HOLD_STATUS_FREE = t.holdFree ∧
      Framed [A.STRM_HOLD_CFG, A.STRM_HOLD_STATUS] [] s t := by
  have heq : s.reg A.STRM_HOLD_CFG ≠ x := fun h => hne (by rw [State.fld, State.rd, h])
  set e := s.fresh.wr A.STRM_HOLD_CFG x.toNat with he
  have hsize : e.fld F.STRM_HOLD_CFG_HOLD_MIB = F.STRM_HOLD_CFG_HOLD_MIB.of x.toNat := State.fld_wr_word s.fresh _ x rfl
  have hmod : e.modState = 2 := (State.fld_wr_ne _ _ (by decide)).trans hst
  have hchg : e.chg F.STRM_HOLD_CFG_HOLD_MIB (s.reg A.STRM_HOLD_CFG) = true := by
    rw [State.chg, hsize]
    exact bne_iff_ne.mpr hne
  set u := e.keep F.STRM_HOLD_STATUS_FREE e.holdFree with hu
  have heff : s.fresh.words A.STRM_HOLD_CFG (whole m priv x) = u := by
    have hreg : e.regEffect m (s.masterPriv m priv) A.STRM_HOLD_CFG (s.reg A.STRM_HOLD_CFG) 0 = e.holdCfg (s.reg A.STRM_HOLD_CFG) := rfl
    rw [hd.stores hr holdCfg_stores heq, ← he, hreg, State.holdCfg, hchg, hmod]
    exact if_neg Bool.false_ne_true
  have hkeep : Chg (Listed [A.STRM_HOLD_STATUS]) (Parts []) NoMem e u := Chg.refl.keep _ _ (by simp)
  have hframe : Chg (Listed [A.STRM_HOLD_CFG, A.STRM_HOLD_STATUS]) (Parts []) NoMem s u := (Chg.refl.fresh.wr _ _ (by simp)).keep _ _ (by simp)
  have hfree : (s.seal u).holdFree = e.holdFree := by
    have hmib : (s.seal u).fld F.STRM_HOLD_CFG_HOLD_MIB = e.fld F.STRM_HOLD_CFG_HOLD_MIB :=
      (State.fld_seal _ _ (by decide)).trans (State.fld_keep_free _ (by decide) _)
    have hbad : (s.seal u).blockBad 6 = e.blockBad 6 := by
      rw [State.blockBad, State.blockBad, State.rd_seal _ _ (by decide), State.seal_test, State.rd_eq_of_reg (hkeep.reg _ (by unfold Listed; decide)),
        hkeep.part .test (by simp)]
    rw [State.holdFree, State.holdFree, State.holdBlocks, State.holdBlocks, hmib, hbad, State.seal_strm, hkeep.part .strm (by simp)]
  refine answers_effect _ rfl heff hframe ⟨?_, ?_, hframe.framed⟩
  · rw [State.reg_seal _ _ (by decide), hkeep.reg _ (by unfold Listed; decide), he, State.reg_wr_same, BitVec.ofNat_toNat, BitVec.setWidth_eq]
  · rw [hfree, State.fld_seal _ _ (by decide), hu, State.fld_keep_same _ rfl (holdFree_lt e)]

/-- Elsewhere a new size is refused (R186). -/
theorem answers_holdCfgWrite_refused (s : State) (m : Master) (priv : Bool) (x : Word) (hd : Direct s m priv A.STRM_HOLD_CFG)
    (hr : AsItReads s A.STRM_HOLD_CFG x) (hst : s.modState ≠ 2) (hne : F.STRM_HOLD_CFG_HOLD_MIB.of x.toNat ≠ s.fld F.STRM_HOLD_CFG_HOLD_MIB) :
    Answers (.holdCfgWrite (whole m priv x)) s fun t =>
      t.fld F.STRM_HOLD_CFG_HOLD_MIB = s.fld F.STRM_HOLD_CFG_HOLD_MIB ∧ t.on F.STRM_EVT_CFG_REFUSED = true ∧
      Framed [A.STRM_HOLD_CFG, A.STRM_EVT] [] s t := by
  have heq : s.reg A.STRM_HOLD_CFG ≠ x := fun h => hne (by rw [State.fld, State.rd, h])
  set e := s.fresh.wr A.STRM_HOLD_CFG x.toNat with he
  have hsize : e.fld F.STRM_HOLD_CFG_HOLD_MIB = F.STRM_HOLD_CFG_HOLD_MIB.of x.toNat := State.fld_wr_word s.fresh _ x rfl
  have hmod : e.modState = s.modState := State.fld_wr_ne _ _ (by decide)
  have hchg : e.chg F.STRM_HOLD_CFG_HOLD_MIB (s.reg A.STRM_HOLD_CFG) = true := by
    rw [State.chg, hsize]
    exact bne_iff_ne.mpr hne
  have hstage : (s.modState != stStaging) = true := bne_iff_ne.mpr hst
  set u := (e.set F.STRM_HOLD_CFG_HOLD_MIB (s.fld F.STRM_HOLD_CFG_HOLD_MIB)).event F.STRM_EVT_CFG_REFUSED with hu
  have heff : s.fresh.words A.STRM_HOLD_CFG (whole m priv x) = u := by
    have hreg : e.regEffect m (s.masterPriv m priv) A.STRM_HOLD_CFG (s.reg A.STRM_HOLD_CFG) 0 = e.holdCfg (s.reg A.STRM_HOLD_CFG) := rfl
    rw [hd.stores hr holdCfg_stores heq, ← he, hreg, State.holdCfg, hchg, hmod, hstage]
    rfl
  have hframe : Chg (Listed [A.STRM_HOLD_CFG, A.STRM_EVT]) (Parts []) NoMem s u := ((Chg.refl.fresh.wr _ _ (by simp)).set _ _ (by simp)).event _ (by simp)
  refine answers_effect _ rfl heff hframe ⟨?_, ?_, hframe.framed⟩
  · rw [State.fld_seal _ _ (by decide), hu, State.fld_event_free _ (by decide), State.fld_set_same _ (by decide)]
    exact Nat.mod_eq_of_lt (s.fld_lt F.STRM_HOLD_CFG_HOLD_MIB)
  · rw [State.on_seal _ _ (by decide), hu, State.on_event_same _ (by decide)]

/-- Settles O30, clause by clause: listener, talker and lay entries judged and kept, and the arrival hold's size. -/
theorem streamEntries : Obligations.StreamEntries :=
  ⟨answers_listenerEntryWrite_on, answers_listenerEntryWrite_off, answers_talkerEntryWrite_on, answers_talkerEntryWrite_off,
    answers_layEntryWrite_rise, answers_layEntryWrite_offset, answers_layEntryWrite_status, answers_holdCfgWrite_taken,
    answers_holdCfgWrite_refused⟩

end Sys2Proof.Machine
end

section
/-! PROOFS. What time and the EF boundary do to streams (R161 to R186), and O31. -/
namespace Sys2Proof.Machine

/-! ### Registers that time leaves -/

theorem reg_elapsed (s : State) (dt : Nat) {a : Nat} (h : a ∉ timeRegs) : (s.fresh.advance dt).reg a = s.reg a := State.reg_advance _ _ h

theorem notMem_timeRegs {a : Nat} (h : 0x60000 ≤ a ∧ a < 0xE0000 ∨ 0xF0000 ≤ a) : a ∉ timeRegs := by
  simp only [timeRegs, List.mem_cons, List.not_mem_nil, or_false, A.CLK_MISALIGN, A.CLK_EVT, A.MGMT_EVT]
  omega

theorem entry_elapsed (s : State) (dt : Nat) (a : Nat) (h : 0x100000 ≤ a) : (s.fresh.advance dt).reg a = s.reg a :=
  reg_elapsed s dt (notMem_timeRegs (.inr (by omega)))

theorem strm_elapsed (s : State) (dt : Nat) : (s.fresh.advance dt).strm = s.strm := State.advance_strm s.fresh dt
theorem play_elapsed (s : State) (dt : Nat) : (s.fresh.advance dt).play = s.play := State.advance_play s.fresh dt

theorem Chg.regsKept {l : List Nat} {P : Part → Prop} {M : Nat → Prop} {s u : State} (h : Chg (Listed l) P M s u) : RegsKept l s (s.seal u) :=
  fun a h1 h2 => (State.reg_seal s u h2).trans (h.reg a (not_or.mpr ⟨h1, h2⟩))

/-! ### Held packets (R179, R186) -/

theorem satOf_listener {n : Nat} (hn : n < 256) : satOf (A.STRM_L_RX_PKTS n) = ⟨A.STRM_L_SAT n, 0, some F.STRM_EVT_CNT_SAT⟩ := by
  have hw : A.STRM_L_RX_PKTS n / 0x10000 = 6 := by simp only [A.STRM_L_RX_PKTS]; omega
  have ho : A.STRM_L_RX_PKTS n % 0x10000 = 0x8000 + 0x40 * n := by simp only [A.STRM_L_RX_PKTS]; omega
  unfold satOf
  rw [hw, ho]
  show (if _ then _ else _ : SatAt) = _
  rw [if_neg (by omega)]
  dsimp only
  have hw : 32768 + (32768 + 64 * n - 32768) / 64 * 64 = 0x8000 + 0x40 * n := by omega
  rw [hw, Nat.sub_self]
  show (⟨_, 0, _⟩ : SatAt) = _
  rw [A.STRM_L_RX_PKTS, A.STRM_L_SAT, show 0x68000 + 0x40 * n - (0x8000 + 0x40 * n) + (0x8000 + 0x40 * n) + 0x3C = 0x6803c + 0x40 * n by omega]

theorem bumpOk_listener {n : Nat} (hn : n < 256) : bumpOk (A.STRM_L_RX_PKTS n) = true := by
  rw [bumpOk, satOf_listener hn]
  simp only [Option.all_some, Bool.and_eq_true, bne_iff_ne, A.STRM_L_RX_PKTS, A.STRM_L_SAT, A.STRM_EVT]
  omega

theorem Chg.writeFrom {R : Nat → Prop} {P : Part → Prop} {M : Nat → Prop} {s t : State} (h : Chg R P M s t) (hs : P .strm) (hm : ∀ b, M b)
    (p : Pkt) (c : Int) (ef : Nat) : Chg R P M s (t.writeFrom p c ef) := by
  unfold State.writeFrom
  refine Chg.forL _ _ (fun x _ u hu => Chg.forN _ _ (fun j _ v hv => Chg.ite (fun _ => ?_) fun _ => hv) hu) h
  unfold State.putTrue State.putSample
  exact (hv.updStrm _ hs).putMemWord _ _ hm

theorem writeFrom_held (s : State) (p : Pkt) (c : Int) (ef : Nat) : (s.writeFrom p c ef).strm.held = s.strm.held := by
  unfold State.writeFrom
  refine forL_induction (p := fun t => t.strm.held = s.strm.held) _ _ (fun x _ u hu => ?_) rfl
  refine forN_induction (p := fun t => t.strm.held = s.strm.held) _ _ (fun j _ v hv => ?_) hu
  dsimp only
  split
  · exact hv
  · exact hv

/-- Where the packets that come out of the arrival hold are settled. -/
structure HoldSame (s t : State) : Prop where
  strm : t.strm = s.strm
  play : t.play = s.play
  rate : t.reg A.CLK_MEDIA_CFG = s.reg A.CLK_MEDIA_CFG

theorem holdSame_elapsed (s : State) (dt : Nat) : HoldSame s (s.fresh.advance dt) :=
  ⟨strm_elapsed s dt, play_elapsed s dt, reg_elapsed s dt (by decide)⟩

section
variable {s t : State} (h : HoldSame s t)
include h

theorem HoldSame.rateFld : t.fld F.CLK_MEDIA_CFG_RATE = s.fld F.CLK_MEDIA_CFG_RATE := State.fld_eq_of_reg h.rate
theorem HoldSame.efLen : t.efLen = s.efLen := by rw [State.efLen, State.efLen, State.rateMul, State.rateMul, h.rateFld]
theorem HoldSame.adj : t.adj = s.adj := by rw [State.adj, State.adj, h.strm]
theorem HoldSame.headPos : t.headPos = s.headPos := by rw [State.headPos, State.headPos, h.efLen, h.play]
theorem HoldSame.directEnd : t.directEnd = s.directEnd := by
  rw [State.directEnd, State.directEnd, h.efLen, h.play, State.slotLen, State.slotLen, State.hiRate, State.hiRate, h.rateFld]

end

/-- A held packet that has not entered the window stays (R186). -/
theorem answers_arrivalHoldRelease_stays (s : State) (dt : Nat) (hrun : s.play.running = true)
    (hl : ∀ p ∈ s.strm.held, s.directEnd ≤ p.np - s.adj + p.size - 1) :
    Answers (.arrivalHoldRelease dt) s fun t =>
      t.strm.held = s.strm.held ∧ Framed (timeRegs ++ [A.STRM_HOLD_STATUS]) [.time, .clk, .mgmt] s t := by
  set e := s.fresh.advance dt with he
  have hs : HoldSame s e := holdSame_elapsed s dt
  have hnone (p : Pkt) (hp : p ∈ s.strm.held) : decide (p.np - e.adj + p.size - 1 < e.directEnd) = false := by
    rw [hs.adj, hs.directEnd]
    exact decide_eq_false (by have := hl p hp; omega)
  have hdue : e.strm.held.filter (fun p => decide (p.np - e.adj + p.size - 1 < e.directEnd)) = [] := by
    rw [hs.strm]
    exact List.filter_eq_nil_iff.mpr fun p hp => by rw [hnone p hp]; exact Bool.false_ne_true
  have hstay : e.strm.held.filter (fun p => !decide (p.np - e.adj + p.size - 1 < e.directEnd)) = e.strm.held := by
    rw [hs.strm]
    exact List.filter_eq_self.mpr fun p hp => by rw [hnone p hp]; rfl
  have heff : (s.fresh.advance dt).when (s.fresh.advance dt).play.running State.holdRelease = e.holdStatus := by
    rw [← he, show e.play.running = true by rw [hs.play]; exact hrun, State.when_true, State.holdRelease]
    rw [hdue, State.updStrm, hstay]
    rfl
  have hframe : Chg (Listed (timeRegs ++ [A.STRM_HOLD_STATUS])) (Parts [.time, .clk, .mgmt]) NoMem s e.holdStatus :=
    (chg_elapsed_time s dt fun _ => List.mem_append_left _).keep _ _ (by simp)
  refine answers_effect _ rfl heff hframe ⟨?_, hframe.framed⟩
  rw [State.seal_strm, State.holdStatus, State.keep_strm, hs.strm]

/-- A held packet is written once its last sample enters the window (R179, R186). -/
theorem answers_arrivalHoldRelease_writes (s : State) (p : Pkt) (dt : Nat) (hrun : s.play.running = true) (hheld : s.strm.held = [p])
    (hn : p.listener < s.streams) (hin : p.np - s.adj + p.size - 1 < s.directEnd)
    (hen : s.on (F.TBL_LAY_W0_EN (s.lisLay (s.lowerOf p.listener))) = true) (hhead : (s.headPos : Int) ≤ p.np - s.adj) :
    Answers (.arrivalHoldRelease dt) s fun t =>
      t.strm.held = [] ∧ Counts s t (A.STRM_L_RX_PKTS p.listener) 1 ∧
      RegsKept (timeRegs ++ [A.STRM_L_RX_PKTS p.listener, A.STRM_L_SAT p.listener, A.STRM_EVT, A.STRM_HOLD_STATUS]) s t := by
  have hn256 : p.listener < 256 := Nat.lt_of_lt_of_le hn (tables_le s.variant).1
  set e := s.fresh.advance dt with he
  have hs : HoldSame s e := holdSame_elapsed s dt
  have hdec : decide (p.np - e.adj + p.size - 1 < e.directEnd) = true := by
    rw [hs.adj, hs.directEnd]
    exact decide_eq_true hin
  set x := e.updStrm (fun x => { x with held := [] }) with hx
  set i := x.inc (A.STRM_L_RX_PKTS p.listener) with hi
  set u := (i.writeFrom p (p.np - s.adj) s.play.cleat).holdStatus with hu
  have hplace : x.placeNow p = i.writeFrom p (p.np - s.adj) s.play.cleat := by
    have hia : x.adj = s.adj := hs.adj
    have hih : i.headPos = s.headPos := by
      have hp : i.play = s.play := (State.inc_play x _).trans hs.play
      have hr : i.reg A.CLK_MEDIA_CFG = s.reg A.CLK_MEDIA_CFG := by
        refine (State.reg_bump_free 1 ?_).trans hs.rate
        rw [bumpFree, satOf_listener hn256]
        simp only [Option.all_some, Bool.and_eq_true, bne_iff_ne, A.STRM_L_RX_PKTS, A.STRM_L_SAT, A.STRM_EVT, A.CLK_MEDIA_CFG]
        omega
      rw [State.headPos, State.headPos, State.efLen, State.efLen, State.rateMul, State.rateMul, State.fld_eq_of_reg (f := F.CLK_MEDIA_CFG_RATE) hr, hp]
    unfold State.placeNow
    dsimp only
    rw [← hi, hia, hih, if_neg (by omega), State.inc_play]
    exact congrArg _ (congrArg PlayS.cleat hs.play)
  have hlay : x.on (F.TBL_LAY_W0_EN (x.lisLay (x.lowerOf p.listener))) = true := by
    have hxr (a : Nat) (ha : 0x100000 ≤ a) : x.reg a = s.reg a := entry_elapsed s dt a ha
    have hlow : x.lowerOf p.listener = s.lowerOf p.listener := by
      rw [State.lowerOf, State.lowerOf, partner_of_reg (s := s) (t := x) (State.advance_variant s.fresh dt) (fun a ha _ => hxr a ha) hn256]
    have hl : x.lisLay (x.lowerOf p.listener) = s.lisLay (s.lowerOf p.listener) := by
      rw [hlow]
      exact State.fld_eq_of_reg (hxr _ (by simp only [A.TBL_LISTENER_W0]; omega))
    rw [hl]
    exact (State.on_of_reg (hxr _ (by simp only [A.TBL_LAY_W0]; omega))).trans hen
  have heff : (s.fresh.advance dt).when (s.fresh.advance dt).play.running State.holdRelease = u := by
    rw [← he, show e.play.running = true by rw [hs.play]; exact hrun, State.when_true, State.holdRelease]
    rw [State.updStrm, hs.strm, hheld, List.filter_cons, hdec, List.filter_cons, hdec]
    have hxs : ({ e with strm := { s.strm with held := [] } } : State) = x := by rw [hx, State.updStrm, hs.strm]
    rw [if_pos rfl, Bool.not_true, if_neg Bool.false_ne_true, List.filter_nil, List.filter_nil, hxs]
    have hone : forL [p] (fun p s => s.when (s.on (F.TBL_LAY_W0_EN (s.lisLay (s.lowerOf p.listener)))) (fun s => s.placeNow p)) x = x.placeNow p := by
      rw [forL, List.foldl_cons, List.foldl_nil, hlay, State.when_true]
    rw [hone, hplace]
  have hlast : Chg (· = A.STRM_HOLD_STATUS) (Parts [.strm]) (fun _ => True) i u := by
    have hw : Chg (· = A.STRM_HOLD_STATUS) (Parts [.strm]) (fun _ => True) i (i.writeFrom p (p.np - s.adj) s.play.cleat) :=
      Chg.refl.writeFrom (by simp) (fun _ => trivial) _ _ _
    exact hw.keep _ _ rfl
  have hall : Chg (Listed (timeRegs ++ [A.STRM_L_RX_PKTS p.listener, A.STRM_L_SAT p.listener, A.STRM_EVT, A.STRM_HOLD_STATUS])) AnyPart
      (fun _ => True) s u := by
    refine Chg.keep (Chg.writeFrom ((((Chg.refl.fresh.advance dt ?_ trivial trivial trivial).updStrm _ trivial).inc _ (by simp) ?_ ?_)) trivial
      (fun _ => trivial) _ _ _) _ _ (by simp)
    · exact fun a ha => .inl (List.mem_append_left _ ha)
    · rw [satOf_listener hn256]; simp
    · rw [satOf_listener hn256]; simp
  refine answers_effect _ rfl heff hall ⟨?_, ?_, hall.regsKept⟩
  · rw [State.seal_strm, hu, State.holdStatus, State.keep_strm, writeFrom_held, State.inc_strm]
    rfl
  · have ha : A.STRM_L_RX_PKTS p.listener ∉ summaries := notMem_summaries (by simp only [A.STRM_L_RX_PKTS]; omega)
    have hne : A.STRM_L_RX_PKTS p.listener ≠ A.STRM_HOLD_STATUS := by simp only [A.STRM_L_RX_PKTS, A.STRM_HOLD_STATUS]; omega
    rw [Counts, State.rd_seal _ _ ha, State.rd_eq_of_reg (hlast.reg _ hne), hi, State.rd_inc_counts (bumpOk_listener hn256)]
    exact congrArg (fun v => min (v + 1) _) (State.rd_eq_of_reg (reg_elapsed s dt (notMem_timeRegs (by simp only [A.STRM_L_RX_PKTS]; omega))))

/-! ### Quiet lays, listeners and talkers (R161, R164, R178) -/

theorem class7_of_reg {s t : State} (hv : t.variant = s.variant) (hs : t.scp = s.scp)
    (h : ∀ k < s.lays, (t.on (F.TBL_LAY_W2_ACTIVE k) && t.fld (F.TBL_LAY_W0_CLASS k) == 7) =
      (s.on (F.TBL_LAY_W2_ACTIVE k) && s.fld (F.TBL_LAY_W0_CLASS k) == 7)) : t.class7 = s.class7 := by
  have ha : t.layActive (fun c => c == 7) = s.layActive (fun c => c == 7) := by
    unfold State.layActive
    rw [State.lays, State.lays, hv]
    exact anyN_congr h
  rw [State.class7, State.class7, ha, State.held7, State.held7, hs]

theorem State.class7Edge_same (s : State) : s.class7Edge s.class7 = s := by
  unfold State.class7Edge
  cases s.class7 <;> rfl

/-- The register and bit that show a lay's activity (R178). -/
def layActFld (n : Nat) : Fld := if n < 32 then F.STRM_LAY_ACT_LO_BITS else F.STRM_LAY_ACT_HI_BITS

theorem layActFld_cases (n : Nat) : layActFld n = F.STRM_LAY_ACT_LO_BITS ∨ layActFld n = F.STRM_LAY_ACT_HI_BITS := by
  unfold layActFld
  split
  · exact .inl rfl
  · exact .inr rfl

theorem State.layActBit_eq (s : State) (n : Nat) (b : Bool) : s.layActBit n b = s.setBit (layActFld n) (if n < 32 then n else n - 32) b := by
  unfold State.layActBit layActFld
  split <;> rfl

/-- A lay without a packet for its hold goes quiet (R178). -/
theorem answers_layIdle (s : State) (n dt : Nat) (hn : n < s.lays) (hact : s.on (F.TBL_LAY_W2_ACTIVE n) = true)
    (hc : s.fld (F.TBL_LAY_W0_CLASS n) ≠ 7) (hdue : (s.lay n).lastUp + s.actHold n ≤ s.time.up + dt) :
    Answers (.layIdle n dt) s fun t =>
      t.on (F.TBL_LAY_W2_ACTIVE n) = false ∧ t.on F.STRM_EVT_LAY_IDLE = true ∧
      (if n < 32 then t.bitOf F.STRM_LAY_ACT_LO_BITS n else t.bitOf F.STRM_LAY_ACT_HI_BITS (n - 32)) = false ∧
      Framed (timeRegs ++ [A.TBL_LAY_W2 n, A.STRM_EVT, A.STRM_LAY_ACT_LO, A.STRM_LAY_ACT_HI]) [.time, .clk, .mgmt] s t := by
  have hn64 : n < 64 := Nat.lt_of_lt_of_le hn (tables_le s.variant).2
  set e := s.fresh.advance dt with he
  have her (a : Nat) (ha : 0x100000 ≤ a) : e.reg a = s.reg a := entry_elapsed s dt a ha
  have hea : e.on (F.TBL_LAY_W2_ACTIVE n) = true := (State.on_of_reg (her _ (by simp only [A.TBL_LAY_W2]; omega))).trans hact
  have hec : e.fld (F.TBL_LAY_W0_CLASS n) ≠ 7 := by
    rw [State.fld_eq_of_reg (her _ (by simp only [A.TBL_LAY_W0]; omega))]
    exact hc
  set u := ((e.set (F.TBL_LAY_W2_ACTIVE n) 0).layActBit n false).event F.STRM_EVT_LAY_IDLE with hu
  have hend : Chg (Listed [A.TBL_LAY_W2 n, A.STRM_EVT, A.STRM_LAY_ACT_LO, A.STRM_LAY_ACT_HI]) (Parts []) NoMem e u := by
    refine Chg.event ?_ _ (by simp)
    rw [State.layActBit_eq]
    refine (Chg.refl.set _ _ (by simp)).setBit _ _ _ ?_
    rcases layActFld_cases n with h | h <;> rw [h] <;> simp
  have hbits : (layActFld n).ok = true ∧ (layActFld n).adr < 0x100000 ∧ (layActFld n).width = 32 ∧ Fld.free F.STRM_EVT_LAY_IDLE (layActFld n) = true ∧
      (layActFld n).kept = true := by
    rcases layActFld_cases n with h | h <;> rw [h] <;> decide
  obtain ⟨hbok, hbadr, hbw, hbe, hbk⟩ := hbits
  have hactu : u.on (F.TBL_LAY_W2_ACTIVE n) = false := by
    have h1 : Fld.free F.STRM_EVT_LAY_IDLE (F.TBL_LAY_W2_ACTIVE n) = true := Fld.free_of_adr rfl rfl (by simp only [A.TBL_LAY_W2, A.STRM_EVT]; omega)
    have h2 : Fld.free (layActFld n) (F.TBL_LAY_W2_ACTIVE n) = true := Fld.free_of_adr hbok rfl (by simp only [A.TBL_LAY_W2]; omega)
    rw [State.on, hu, State.fld_event_free _ h1, State.layActBit_eq, State.fld_setBit_free _ h2, State.fld_set_same _ rfl]
    rfl
  have hclass : u.class7 = e.class7 := by
    refine class7_of_reg hend.variant (hend.part .scp (by simp)) fun k hk => ?_
    have hk64 : k < 64 := by
      rw [State.lays, State.advance_variant] at hk
      exact Nat.lt_of_lt_of_le hk (tables_le s.variant).2
    have hkept {f : Fld} (h : f.adr ≠ A.TBL_LAY_W2 n) (h1 : 0x100000 ≤ f.adr) : f.adr ∉ [A.TBL_LAY_W2 n, A.STRM_EVT, A.STRM_LAY_ACT_LO, A.STRM_LAY_ACT_HI] := by
      simp only [List.mem_cons, List.not_mem_nil, or_false, A.STRM_EVT, A.STRM_LAY_ACT_LO, A.STRM_LAY_ACT_HI]
      omega
    have hfree {f : Fld} (h : f.adr ≠ A.TBL_LAY_W2 n) (h1 : 0x100000 ≤ f.adr) : u.fld f = e.fld f :=
      hend.fld (not_or.mpr ⟨hkept h h1, entry_notMem h1⟩)
    by_cases hkn : k = n
    · subst hkn
      rw [hactu, hea, Bool.false_and, Bool.true_and]
      exact (beq_eq_false_iff_ne.mpr hec).symm
    · rw [State.on, State.on, hfree (f := F.TBL_LAY_W2_ACTIVE k) (by simp only [A.TBL_LAY_W2]; omega) (by simp only [A.TBL_LAY_W2]; omega),
        hfree (f := F.TBL_LAY_W0_CLASS k) (by simp only [A.TBL_LAY_W2, A.TBL_LAY_W0]; omega) (by simp only [A.TBL_LAY_W0]; omega)]
  have hfire : e.layEnd n = u := by
    have h1 : e.layEnd n = u.class7Edge e.class7 := rfl
    rw [h1, ← hclass, State.class7Edge_same]
  have heff : (s.fresh.advance dt).when ((s.fresh.advance dt).on (F.TBL_LAY_W2_ACTIVE n) &&
      Nat.ble (((s.fresh.advance dt).lay n).lastUp + (s.fresh.advance dt).actHold n) (s.fresh.advance dt).time.up) (fun s => s.layEnd n) = u := by
    have hhold : e.actHold n = s.actHold n := by
      rw [State.actHold, State.actHold, State.fld_eq_of_reg (her _ (by simp only [A.TBL_LAY_W0]; omega))]
    rw [← he, hea, State.lay_of_strm (strm_elapsed s dt), hhold, s.up_elapsed dt, Nat.ble_eq.mpr hdue, Bool.and_self, State.when_true, hfire]
  have hframe : Chg (Listed (timeRegs ++ [A.TBL_LAY_W2 n, A.STRM_EVT, A.STRM_LAY_ACT_LO, A.STRM_LAY_ACT_HI])) (Parts [.time, .clk, .mgmt]) NoMem s u := by
    refine (chg_elapsed_time s dt fun _ h => List.mem_append_left _ h).trans (hend.mono (fun a ha => ?_) (fun _ h => by simp at h) fun _ h => h)
    exact ha.imp (List.mem_append_right _) id
  refine answers_effect _ (State.runIf_true s (decide_eq_true hn) _) heff hframe ⟨?_, ?_, ?_, hframe.framed⟩
  · rw [State.on_seal_of (entry_notMem (by simp only [A.TBL_LAY_W2]; omega)), hactu]
  · rw [State.on_seal_of (by decide), hu, State.on_event_same _ (by decide)]
  · have hk : (if n < 32 then n else n - 32) < (layActFld n).width := by rw [hbw]; split <;> omega
    have hb : (s.seal u).bitOf (layActFld n) (if n < 32 then n else n - 32) = false := by
      rw [State.bitOf_seal _ _ hbk, State.bitOf, hu, State.fld_event_free _ hbe, ← State.bitOf, State.layActBit_eq, State.bitOf_setBit _ hbok hk, if_pos rfl]
    unfold layActFld at hb
    by_cases h : n < 32
    · rw [if_pos h, if_pos h] at hb
      rwa [if_pos h]
    · rw [if_neg h, if_neg h] at hb
      rwa [if_neg h]

/-- A listener without a packet for 100 ms is quiet (R161). -/
theorem answers_listenerActiveTimeout (s : State) (n dt : Nat) (hn : n < s.streams) (hdue : (s.lis n).lastUp + 100 * msU ≤ s.time.up + dt) :
    Answers (.listenerActiveTimeout n dt) s fun t =>
      t.on (F.TBL_LISTENER_W14_ACTIVE n) = false ∧ Framed (timeRegs ++ [A.TBL_LISTENER_W14 n]) [.time, .clk, .mgmt] s t := by
  set e := s.fresh.advance dt with he
  set u := e.keep (F.TBL_LISTENER_W14_ACTIVE n) 0 with hu
  have hup : e.time.up = s.time.up + dt := s.up_elapsed dt
  have heff : e.when (Nat.ble ((e.lis n).lastUp + 100 * msU) e.time.up) (fun s => s.keep (F.TBL_LISTENER_W14_ACTIVE n) 0) = u := by
    rw [State.lis_of_strm (strm_elapsed s dt), hup, Nat.ble_eq.mpr hdue, State.when_true]
  have hframe : Chg (Listed (timeRegs ++ [A.TBL_LISTENER_W14 n])) (Parts [.time, .clk, .mgmt]) NoMem s u :=
    (chg_elapsed_time s dt fun _ => List.mem_append_left _).keep _ _ (by simp)
  refine answers_effect _ (State.runIf_true s (decide_eq_true hn) _) heff hframe ⟨?_, hframe.framed⟩
  rw [State.on_seal_of (entry_notMem (by simp only [A.TBL_LISTENER_W14]; omega)), State.on, hu, State.fld_keep_same _ rfl (by simp only [Fld.width]; omega)]
  rfl

/-- A talker that has sent nothing for 100 ms is quiet (R164). -/
theorem answers_talkerSendingTimeout (s : State) (n dt : Nat) (hn : n < s.streams) (hdue : (s.talker n).lastUp + 100 * msU ≤ s.time.up + dt) :
    Answers (.talkerSendingTimeout n dt) s fun t =>
      t.on (F.TBL_TALKER_W14_SENDING n) = false ∧ Framed (timeRegs ++ [A.TBL_TALKER_W14 n]) [.time, .clk, .mgmt] s t := by
  set e := s.fresh.advance dt with he
  set u := e.keep (F.TBL_TALKER_W14_SENDING n) 0 with hu
  have hup : e.time.up = s.time.up + dt := s.up_elapsed dt
  have heff : e.when (Nat.ble ((e.talker n).lastUp + 100 * msU) e.time.up) (fun s => s.keep (F.TBL_TALKER_W14_SENDING n) 0) = u := by
    rw [State.talker_of_strm (strm_elapsed s dt), hup, Nat.ble_eq.mpr hdue, State.when_true]
  have hframe : Chg (Listed (timeRegs ++ [A.TBL_TALKER_W14 n])) (Parts [.time, .clk, .mgmt]) NoMem s u :=
    (chg_elapsed_time s dt fun _ => List.mem_append_left _).keep _ _ (by simp)
  refine answers_effect _ (State.runIf_true s (decide_eq_true hn) _) heff hframe ⟨?_, hframe.framed⟩
  rw [State.on_seal_of (entry_notMem (by simp only [A.TBL_TALKER_W14]; omega)), State.on, hu, State.fld_keep_same _ rfl (by simp only [Fld.width]; omega)]
  rfl

/-! ### Offsets and slips at the EF boundary (R174, R180) -/

/-- The offset of a disabled lay acts at the boundary (R174). -/
theorem answers_presOffsetChange_off (s : State) (n : Nat) (hn : n < s.lays) (hoff : s.on (F.TBL_LAY_W0_EN n) = false) :
    Answers (.presOffsetChange n) s fun t =>
      (t.lay n).offset = s.fld (F.TBL_LAY_W1_PRES_OFFSET n) ∧ Framed timeRegs [.time, .clk, .mgmt, .strm] s t := by
  set dt := (s.fresh.efUp (s.fresh.clk.lastEf + 1) - s.fresh.time.up).toNat with hdt
  set e := s.fresh.advance dt with he
  have her (a : Nat) (ha : 0x100000 ≤ a) : e.reg a = s.reg a := entry_elapsed s dt a ha
  have heen : e.on (F.TBL_LAY_W0_EN n) = false := (State.on_of_reg (her _ (by simp only [A.TBL_LAY_W0]; omega))).trans hoff
  set u := e.layUpd n (fun l => { l with offset := e.fld (F.TBL_LAY_W1_PRES_OFFSET n) }) with hu
  have heff : s.fresh.toBoundary.layOffset n = u := by
    show e.layOffset n = u
    unfold State.layOffset
    dsimp only
    rw [heen, if_pos (.inr rfl)]
  have hframe : Chg (Listed timeRegs) (Parts [.time, .clk, .mgmt, .strm]) NoMem s u :=
    (Chg.refl.fresh.advance dt (fun a ha => .inl ha) (by simp) (by simp) (by simp)).layUpd _ _ (by simp)
  refine answers_effect _ (State.runIf_true s (decide_eq_true hn) _) heff hframe ⟨?_, hframe.framed⟩
  rw [State.lay_of_strm (State.seal_strm s u), State.lay_layUpd, if_pos rfl]
  exact State.fld_eq_of_reg (her _ (by simp only [A.TBL_LAY_W1]; omega))

/-- What a new offset does to an active lay: its packets go, its samples of the EFs to come turn untrue, and it is muted (R174). -/
def State.offsetMuted (s : State) (n : Nat) : State :=
  let s := s.layUpd n (fun l => { l with offset := s.fld (F.TBL_LAY_W1_PRES_OFFSET n), muteOff := true, full := 0 })
  let s := s.updStrm (fun x => { x with held := x.held.filter (fun p => s.lisLay (s.lowerOf p.listener) != n) })
  let s := s.untrue (s.laySlots n) s.headPos
  s.updStrm (fun x => { x with fades := (s.play.head, some n) :: x.fades })

theorem State.layOffset_mutes (s : State) {n : Nat} (hen : s.on (F.TBL_LAY_W0_EN n) = true) (hact : s.on (F.TBL_LAY_W2_ACTIVE n) = true)
    (hne : (s.lay n).offset ≠ s.fld (F.TBL_LAY_W1_PRES_OFFSET n)) (hrun : s.play.running = true) : s.layOffset n = (s.offsetMuted n).layStatus := by
  have hmute : (fun l : LayS => { l with offset := s.fld (F.TBL_LAY_W1_PRES_OFFSET n), muteOff := l.muteOff || true, full := if true = true then 0 else l.full }) =
      fun l => { l with offset := s.fld (F.TBL_LAY_W1_PRES_OFFSET n), muteOff := true, full := 0 } := by
    funext l
    rw [Bool.or_true, if_pos rfl]
  unfold State.layOffset
  dsimp only
  rw [hen, hact, if_neg (by simp [hne]), hmute]
  have hr (u : State) (f : StrmS → StrmS) : (u.updStrm f).play = u.play := rfl
  rw [hr, State.layUpd, hr, hrun, State.when_true, Bool.true_and, State.untrue, hr, hr, hr, hrun, State.when_true]
  rfl

theorem offsetMuted_lay (s : State) (n : Nat) :
    (s.offsetMuted n).lay n = { s.lay n with offset := s.fld (F.TBL_LAY_W1_PRES_OFFSET n), muteOff := true, full := 0 } := by
  have h : (s.offsetMuted n).lay n =
      (s.layUpd n (fun l => { l with offset := s.fld (F.TBL_LAY_W1_PRES_OFFSET n), muteOff := true, full := 0 })).lay n := rfl
  rw [h, State.lay_layUpd, if_pos rfl]

theorem Chg.offsetMuted {R : Nat → Prop} {P : Part → Prop} {M : Nat → Prop} {s t : State} (h : Chg R P M s t) (hs : P .strm) (n : Nat) :
    Chg R P M s (t.offsetMuted n) := by
  unfold State.offsetMuted
  exact Chg.updStrm (Chg.updStrm (Chg.updStrm (h.layUpd n _ hs) _ hs) _ hs) _ hs

/-- The status of a lay shows that it is muted (R175). -/
theorem layStatus_muted (s : State) {n : Nat} (hn : n < s.lays) : s.layStatus.on (F.TBL_LAY_W2_MUTED n) = s.layMuted n := by
  let r (t : State) := (t.on (F.TBL_LAY_W2_MUTED n), t.layMuted n)
  suffices h : (r s.layStatus).1 = s.layMuted n from h
  have hkeep (k : Nat) (t : State) :
      ((t.keep (F.TBL_LAY_W2_MEMBERS k) (min 255 (t.members k))).keep (F.TBL_LAY_W2_MUTED k) (if t.layMuted k then 1 else 0)).layMuted n = t.layMuted n := by
    rw [State.layMuted, State.lay_of_strm (s := t) (by rw [State.keep_strm, State.keep_strm]), State.layMuted]
  refine forN_at r (fun x => x.1 = s.layMuted n) s.lays n _ s hn (fun k _ hk t => Prod.ext ?_ (hkeep k t)) fun t ht => ?_
  · show (_ != 0) = (_ != 0)
    rw [State.fld_keep_free _ (Fld.free_of_adr rfl rfl (by simp only [A.TBL_LAY_W2]; omega)),
      State.fld_keep_free _ (Fld.free_of_adr rfl rfl (by simp only [A.TBL_LAY_W2]; omega))]
  · have hm : t.layMuted n = s.layMuted n := congrArg Prod.snd ht
    show (State.fld _ _ != 0) = _
    rw [State.fld_keep_same _ rfl (by simp only [Fld.width]; split <;> omega), hm]
    cases s.layMuted n <;> rfl

theorem Chg.withLays {l : List Nat} {P : Part → Prop} {M : Nat → Prop} {s t : State} (h : Chg (Listed l) P M s t) :
    Chg (Listed (l ++ layWords s)) P M s t.layStatus := by
  have hw : Chg (Listed (l ++ layWords s)) P M s t :=
    h.mono (fun a ha => ha.imp (List.mem_append_left _) id) (fun _ h => h) fun _ h => h
  exact hw.layStatus fun b hb => .inl (List.mem_append_right _ (layWords_of_variant h.variant ▸ hb))

/-- A new offset mutes an active lay at the boundary (R174). -/
theorem answers_presOffsetChange_mutes (s : State) (n : Nat) (hn : n < s.lays) (hen : s.on (F.TBL_LAY_W0_EN n) = true)
    (hact : s.on (F.TBL_LAY_W2_ACTIVE n) = true) (hne : (s.lay n).offset ≠ s.fld (F.TBL_LAY_W1_PRES_OFFSET n)) (hrun : s.play.running = true) :
    Answers (.presOffsetChange n) s fun t =>
      (t.lay n).offset = s.fld (F.TBL_LAY_W1_PRES_OFFSET n) ∧ t.on (F.TBL_LAY_W2_MUTED n) = true ∧
      (s.play.head, some n) ∈ t.strm.fades ∧ Framed (timeRegs ++ layWords s) [.time, .clk, .mgmt, .strm] s t := by
  set dt := (s.fresh.efUp (s.fresh.clk.lastEf + 1) - s.fresh.time.up).toNat with hdt
  set e := s.fresh.advance dt with he
  have her (a : Nat) (ha : 0x100000 ≤ a) : e.reg a = s.reg a := entry_elapsed s dt a ha
  have hoffs : e.fld (F.TBL_LAY_W1_PRES_OFFSET n) = s.fld (F.TBL_LAY_W1_PRES_OFFSET n) :=
    State.fld_eq_of_reg (her _ (by simp only [A.TBL_LAY_W1]; omega))
  set u := e.offsetMuted n with hu
  have heff : s.fresh.toBoundary.layOffset n = u.layStatus := by
    refine e.layOffset_mutes ?_ ?_ ?_ ?_
    · exact (State.on_of_reg (her _ (by simp only [A.TBL_LAY_W0]; omega))).trans hen
    · exact (State.on_of_reg (her _ (by simp only [A.TBL_LAY_W2]; omega))).trans hact
    · rw [hoffs, State.lay_of_strm (strm_elapsed s dt)]
      exact hne
    · rw [play_elapsed]
      exact hrun
  have hadv : Chg (Listed timeRegs) (Parts [.time, .clk, .mgmt, .strm]) NoMem s u :=
    (Chg.refl.fresh.advance dt (fun a ha => .inl ha) (by simp) (by simp) (by simp)).offsetMuted (by simp) n
  have hlw : layWords u = layWords s := layWords_of_variant hadv.variant
  have hstat : Chg (· ∈ layWords s) (Parts []) NoMem u u.layStatus := Chg.refl.layStatus fun b hb => hlw ▸ hb
  have hframe : Chg (Listed (timeRegs ++ layWords s)) (Parts [.time, .clk, .mgmt, .strm]) NoMem s u.layStatus :=
    hadv.withLays
  have hlays : u.lays = s.lays := by rw [State.lays, State.lays, hadv.variant]
  have hstrm : (s.seal u.layStatus).strm = u.strm := (State.seal_strm s _).trans (hstat.part .strm (by simp))
  have hlay : u.lay n = { e.lay n with offset := e.fld (F.TBL_LAY_W1_PRES_OFFSET n), muteOff := true, full := 0 } := offsetMuted_lay e n
  refine answers_effect _ (State.runIf_true s (decide_eq_true hn) _) heff hframe ⟨?_, ?_, ?_, hframe.framed⟩
  · rw [State.lay_of_strm hstrm, hlay, hoffs]
  · rw [State.on_seal_of (entry_notMem (by simp only [A.TBL_LAY_W2]; omega)), layStatus_muted u (hlays ▸ hn), State.layMuted, hlay, Bool.true_or]
  · rw [hstrm]
    have hhead : u.strm.fades = (e.play.head, some n) :: e.strm.fades := rfl
    rw [hhead, play_elapsed]
    exact List.mem_cons_self

/-- SLIP_ALL acts at the boundary, and cleared ends the lay's mute (R180). -/
theorem answers_slipAllChange (s : State) (n : Nat) (hn : n < s.lays) :
    Answers (.slipAllChange n) s fun t =>
      (t.lay n).slipAll = s.on (F.TBL_LAY_W0_SLIP_ALL n) ∧
      (t.lay n).muteSlip = ((s.lay n).muteSlip && s.on (F.TBL_LAY_W0_SLIP_ALL n)) ∧
      (t.lay n).offset = (s.lay n).offset ∧ Framed (timeRegs ++ layWords s) [.time, .clk, .mgmt, .strm] s t := by
  set dt := (s.fresh.efUp (s.fresh.clk.lastEf + 1) - s.fresh.time.up).toNat with hdt
  set e := s.fresh.advance dt with he
  have hwant : e.on (F.TBL_LAY_W0_SLIP_ALL n) = s.on (F.TBL_LAY_W0_SLIP_ALL n) :=
    State.on_of_reg (entry_elapsed s dt _ (by simp only [A.TBL_LAY_W0]; omega))
  set u := e.layUpd n (fun l => { l with slipAll := e.on (F.TBL_LAY_W0_SLIP_ALL n), muteSlip := l.muteSlip && e.on (F.TBL_LAY_W0_SLIP_ALL n) }) with hu
  have heff : s.fresh.toBoundary.laySlip n = u.layStatus := rfl
  have hadv : Chg (Listed timeRegs) (Parts [.time, .clk, .mgmt, .strm]) NoMem s u :=
    (Chg.refl.fresh.advance dt (fun a ha => .inl ha) (by simp) (by simp) (by simp)).layUpd n _ (by simp)
  have hlw : layWords u = layWords s := layWords_of_variant hadv.variant
  have hstat : Chg (· ∈ layWords s) (Parts []) NoMem u u.layStatus := Chg.refl.layStatus fun b hb => hlw ▸ hb
  have hframe : Chg (Listed (timeRegs ++ layWords s)) (Parts [.time, .clk, .mgmt, .strm]) NoMem s u.layStatus :=
    hadv.withLays
  have hlay : (s.seal u.layStatus).lay n =
      { e.lay n with slipAll := e.on (F.TBL_LAY_W0_SLIP_ALL n), muteSlip := (e.lay n).muteSlip && e.on (F.TBL_LAY_W0_SLIP_ALL n) } := by
    rw [State.lay_of_strm ((State.seal_strm s _).trans (hstat.part .strm (by simp))), State.lay_layUpd, if_pos rfl]
  refine answers_effect _ (State.runIf_true s (decide_eq_true hn) _) heff hframe ⟨?_, ?_, ?_, hframe.framed⟩
  · rw [hlay, hwant]
  · rw [hlay, hwant, State.lay_of_strm (strm_elapsed s dt)]
  · rw [hlay, State.lay_of_strm (strm_elapsed s dt)]

/-! ### Reports and announcements (R171, R172, R184) -/

theorem queueKept_toRing (s : State) (e : EgFrame) : QueueKept 2 s (s.toRing e) := by
  have hboth (t : State) (e : EgFrame) : QueueKept 2 t ((t.enqueue 0 e).enqueue 1 e) :=
    (queueKept_enqueue t (by decide) e).trans (queueKept_enqueue _ (by decide) e)
  have hseq : QueueKept 2 s s.takeSharedSeq.2 := queueKept_of_ring rfl
  exact hseq.trans (hboth _ _)

/-- A frame of the module's own waits at port 2 behind the others. -/
theorem toAll_queue (s : State) (f : Frame) (cls : Nat) (hl : s.linkUp 2 = true) (hp : 2 < s.ring.ports.length) :
    ∃ e, ((s.toAll f cls).rp 2).queue = (s.rp 2).queue ++ [e] ∧ e.frame.body = f.body := by
  set r := s.toRing (s.ownFrame f cls) with hr
  have hk : QueueKept 2 s r := queueKept_toRing s _
  have hring : Chg (fun _ => False) (Parts [.ring]) NoMem s r := Chg.refl.toRing (by simp) _
  have hlink : r.linkUp 2 = true := (hring.on id).trans hl
  refine ⟨r.ownFrame f cls, ?_, rfl⟩
  rw [State.toAll, ← hr, State.enqueue, if_pos hlink, State.rp_rpUpd_same _ (by rw [State.creditTick, State.length_rpUpd, hk.2]; exact hp)]
  show ((r.creditTick 2).rp 2).queue ++ _ = _
  rw [(queueKept_creditTick r 2 2).1, hk.1]

theorem report_queue (s : State) (n g : Nat) (hl : s.linkUp 2 = true) (hp : 2 < s.ring.ports.length) :
    ∃ e src, ((s.report n g).rp 2).queue = (s.rp 2).queue ++ [e] ∧ e.frame.body = .join g src := by
  obtain ⟨e, hq, hb⟩ := toAll_queue s (s.mpFrame (if s.fld (F.TBL_LISTENER_W0_TRANSPORT n) == 1 then 0x333300000016 else 0x01005E000016) 64 none
    (.join g (if s.on (F.TBL_LISTENER_W0_SRC_FILTER n) then some (s.lisSource n) else none))) 0 hl hp
  exact ⟨e, _, hq, hb⟩

/-- A listener's report, the second time (R171). -/
def State.repeatReport (s : State) (n : Nat) : State :=
  match (s.lis n).joined with
  | none => s
  | some g => s.when (s.lis n).again (fun s => (s.lisUpd n (fun l => { l with again := false })).report n g)

theorem exec_membershipRepeat (s : State) (n dt : Nat) :
    exec (.membershipRepeat n dt) s = s.runIf (decide (n < s.streams)) fun s => (s.advance dt).repeatReport n := rfl

theorem repeatReport_again {s : State} {n g : Nat} (hj : (s.lis n).joined = some g) (ha : (s.lis n).again = true) :
    s.repeatReport n = (s.lisUpd n (fun l => { l with again := false })).report n g := by
  rw [State.repeatReport, hj]
  dsimp only
  rw [ha, State.when_true]

/-- A report goes out the second time (R171). -/
theorem answers_membershipRepeat (s : State) (n g dt : Nat) (hn : n < s.streams) (hj : (s.lis n).joined = some g) (ha : (s.lis n).again = true)
    (hl : s.linkUp 2 = true) (hp : 2 < s.ring.ports.length) :
    Answers (.membershipRepeat n dt) s fun t =>
      (t.lis n).again = false ∧ (t.lis n).joined = some g ∧
      (∃ e src, (t.rp 2).queue = (s.rp 2).queue ++ [e] ∧ e.frame.body = .join g src) ∧
      Framed timeRegs [.time, .clk, .mgmt, .strm, .ring] s t := by
  set e := s.fresh.advance dt with he
  have hlis : e.lis n = s.lis n := State.lis_of_strm (strm_elapsed s dt) n
  set x := e.lisUpd n (fun l => { l with again := false }) with hx
  set u := x.report n g with hu
  have heff : (s.fresh.advance dt).repeatReport n = u := repeatReport_again (by rw [hlis]; exact hj) (by rw [hlis]; exact ha)
  have hx2 : Chg (Listed timeRegs) (Parts [.time, .clk, .mgmt, .strm, .ring]) NoMem s x :=
    (Chg.refl.fresh.advance dt (fun a ha => .inl ha) (by simp) (by simp) (by simp)).lisUpd n _ (by simp)
  have hframe : Chg (Listed timeRegs) (Parts [.time, .clk, .mgmt, .strm, .ring]) NoMem s u := hx2.report (by simp) n g
  have hrep : Chg (fun _ => False) (Parts [.ring]) NoMem x u := Chg.refl.report (by simp) n g
  have hxl : (s.seal u).lis n = { s.lis n with again := false } := by
    rw [State.lis_of_strm ((State.seal_strm s u).trans (hrep.part .strm (by simp))), hx, State.lis_lisUpd, if_pos rfl, hlis]
  have hlink : x.linkUp 2 = true := (s.linkUp_elapsed dt (by decide)).trans hl
  have hring : x.ring = s.ring := s.ring_elapsed dt
  obtain ⟨f, src, hq, hb⟩ := report_queue x n g hlink (by rw [hring]; exact hp)
  refine answers_effect _ ((exec_membershipRepeat s n dt).trans (State.runIf_true s (decide_eq_true hn) _)) heff hframe ⟨?_, ?_, ⟨f, src, ?_, hb⟩, hframe.framed⟩
  · rw [hxl]
  · rw [hxl]
    exact hj
  · rw [State.rp, State.seal_ring]
    refine hq.trans ?_
    rw [State.rp, hring, ← State.rp]

/-- A query's answer for one listener (R172). -/
def State.answerQuery (s : State) (g : Nat) (general : Bool) (n : Nat) : State :=
  match (s.lis n).joined with
  | none => s
  | some j => s.when (general || j == g) (fun s => s.report n j)

theorem answerQuery_none {s : State} {g n : Nat} {b : Bool} (h : (s.lis n).joined = none) : s.answerQuery g b n = s := by
  rw [State.answerQuery, h]

/-- The oldest query, answered (R172). -/
def State.queryAnswered (s : State) : State :=
  match s.strm.queries with
  | [] => s
  | (g, general) :: rest => forN s.streams (fun n s => s.answerQuery g general n) (s.updStrm fun x => { x with queries := rest })

theorem exec_queryResponse (s : State) : exec .queryResponse s = s.run fun s => s.queryAnswered := rfl

theorem queryAnswered_cons {s : State} {g : Nat} {b : Bool} {q : List (Nat × Bool)} (h : s.strm.queries = (g, b) :: q) :
    s.queryAnswered = forN s.streams (fun n s => s.answerQuery g b n) (s.updStrm fun x => { x with queries := q }) := by
  rw [State.queryAnswered, h]

/-- A query that no member answers only goes (R172). -/
theorem answers_queryResponse_none (s : State) (g : Nat) (b : Bool) (q : List (Nat × Bool)) (h : s.strm.queries = (g, b) :: q)
    (hj : ∀ n < s.streams, (s.lis n).joined = none) :
    Answers .queryResponse s fun t => t.strm = { s.strm with queries := q } ∧ Framed [] [.strm] s t := by
  set u := s.fresh.updStrm (fun x => { x with queries := q }) with hu
  have heff : forN s.streams (fun n s => s.answerQuery g b n) u = u :=
    forN_induction (p := fun t => t = u) _ _ (fun n hn t ht => by rw [ht]; exact answerQuery_none (hj n hn)) rfl
  have hframe : Chg (Listed []) (Parts [.strm]) NoMem s u := Chg.refl.fresh.updStrm _ (by simp)
  refine answers_effect _ (exec_queryResponse s) ((queryAnswered_cons (s := s.fresh) h).trans heff) hframe ⟨?_, hframe.framed⟩
  exact State.seal_strm s u

/-- A loop in which one step alone does something. -/
theorem forN_once {n k : Nat} {f : Nat → State → State} {x y : State} (hk : k < n) (hbefore : ∀ i < k, f i x = x) (hat : f k x = y)
    (hafter : ∀ i, k < i → i < n → f i y = y) : forN n f x = y := by
  have hloop (j : Nat) (hj : j ≤ n) : forN j f x = if j ≤ k then x else y := by
    induction j with
    | zero => rfl
    | succ j ih =>
      have hstep : forN (j + 1) f x = f j (forN j f x) := by
        unfold forN
        rw [List.range_succ, List.foldl_append]
        rfl
      rw [hstep, ih (by omega)]
      rcases Nat.lt_trichotomy j k with h | h | h
      · rw [if_pos (by omega), if_pos (by omega), hbefore j h]
      · rw [if_pos (by omega), if_neg (by omega), h, hat]
      · rw [if_neg (by omega), if_neg (by omega), hafter j h (by omega)]
  rw [hloop n le_rfl, if_neg (by omega)]

/-- A query for a group is answered by its member (R172). -/
theorem answers_queryResponse_member (s : State) (g n : Nat) (h : s.strm.queries = [(g, false)]) (hn : n < s.streams) (hj : (s.lis n).joined = some g)
    (hothers : ∀ k < s.streams, k ≠ n → (s.lis k).joined = none) (hl : s.linkUp 2 = true) (hp : 2 < s.ring.ports.length) :
    Answers .queryResponse s fun t =>
      t.strm.queries = [] ∧ (∃ e src, (t.rp 2).queue = (s.rp 2).queue ++ [e] ∧ e.frame.body = .join g src) ∧
      Framed [] [.strm, .ring] s t := by
  set x := s.fresh.updStrm (fun x => { x with queries := [] }) with hx
  have hstep (k : Nat) (hk : k < s.streams) (hkn : k ≠ n) (t : State) (ht : t.strm = x.strm) : t.answerQuery g false k = t :=
    answerQuery_none ((congrArg ListenerS.joined (State.lis_of_strm (t := t) ht k)).trans (hothers k hk hkn))
  have hin (t : State) (ht : t.strm = x.strm) : t.answerQuery g false n = t.report n g := by
    have h1 : (t.lis n).joined = some g := (congrArg ListenerS.joined (State.lis_of_strm (t := t) ht n)).trans hj
    rw [State.answerQuery, h1]
    dsimp only
    rw [Bool.false_or, beq_self_eq_true, State.when_true]
  set u := x.report n g with hu
  have hrep : Chg (fun _ => False) (Parts [.ring]) NoMem x u := Chg.refl.report (by simp) n g
  have heff : s.fresh.queryAnswered = u := by
    rw [queryAnswered_cons (s := s.fresh) h]
    exact forN_once hn (fun i hi => hstep i (by omega) (by omega) x rfl) (hin x rfl)
      fun i hi hi' => hstep i hi' (by omega) u (hrep.part .strm (by simp))
  have hframe : Chg (Listed []) (Parts [.strm, .ring]) NoMem s u := Chg.report (Chg.refl.fresh.updStrm _ (by simp)) (by simp) n g
  obtain ⟨f, src, hq, hb⟩ := report_queue x n g hl hp
  refine answers_effect _ (exec_queryResponse s) heff hframe ⟨?_, ⟨f, src, ?_, hb⟩, hframe.framed⟩
  · rw [State.seal_strm]
    exact congrArg StrmS.queries (hrep.part .strm (by simp))
  · rw [State.rp, State.seal_ring]
    exact hq

/-- A snooped join lapses after 260 s (R171). -/
theorem answers_snoopJoinExpiry (s : State) (g dt : Nat) :
    Answers (.snoopJoinExpiry g dt) s fun t =>
      t.ring.joins = s.ring.joins.filter (fun j => j.1 != g || Nat.blt (s.time.up + dt) (j.2 + 260 * secU)) ∧
      Framed timeRegs [.time, .clk, .mgmt, .ring] s t := by
  set e := s.fresh.advance dt with he
  set u := e.updRing (fun r => { r with joins := r.joins.filter (fun j => j.1 != g || Nat.blt e.time.up (j.2 + 260 * secU)) }) with hu
  have hframe : Chg (Listed timeRegs) (Parts [.time, .clk, .mgmt, .ring]) NoMem s u :=
    (Chg.refl.fresh.advance dt (fun a ha => .inl ha) (by simp) (by simp) (by simp)).updRing _ (by simp)
  refine answers_effect _ rfl (u := u) rfl hframe ⟨?_, hframe.framed⟩
  rw [State.seal_ring]
  show e.ring.joins.filter _ = _
  rw [he, State.ring_elapsed, State.up_elapsed]

/-- A talker is announced (R184). -/
theorem answers_sapAnnounce (s : State) (n : Nat) (hn : n < s.streams) (hon : s.talkOn n = true) (hl : s.linkUp 2 = true)
    (hp : 2 < s.ring.ports.length) :
    Answers (.sapAnnounce n) s fun t =>
      (t.talker n).sap = true ∧ (∃ e, (t.rp 2).queue = (s.rp 2).queue ++ [e] ∧ e.frame.body = .sdp (s.talkSdp n)) ∧
      Framed [] [.strm, .ring, .free] s t := by
  set x := (s.fresh.free 10).2 with hx
  set y := x.toAll (x.mpFrame 0x01005E7FFFFF (64 + (s.fresh.free 10).1) (some 0xEFFFFFFF) (.sdp (s.talkSdp n))) 0 with hy
  set u := y.talkerUpd n (fun t => { t with sap := true }) with hu
  have heff : s.fresh.when (s.fresh.talkOn n) (fun s => s.sap n true) = u := by
    rw [show s.fresh.talkOn n = true from hon, State.when_true]
    rfl
  have hframe : Chg (Listed []) (Parts [.strm, .ring, .free]) NoMem s u :=
    Chg.talkerUpd (Chg.toAll (Chg.refl.fresh.free 10 (by simp)) (by simp) _ _) n _ (by simp)
  obtain ⟨e, hq, hb⟩ := toAll_queue x (x.mpFrame 0x01005E7FFFFF (64 + (s.fresh.free 10).1) (some 0xEFFFFFFF) (.sdp (s.talkSdp n))) 0 hl hp
  refine answers_effect _ (State.runIf_true s (decide_eq_true hn) _) heff hframe ⟨?_, ⟨e, ?_, hb⟩, hframe.framed⟩
  · rw [State.talker_of_strm (State.seal_strm s u), State.talker_talkerUpd, if_pos rfl]
  · rw [State.rp, State.seal_ring]
    exact hq

/-- Settles O31, clause by clause: held packets, quiet lays and entries, offsets and slips, reports, queries, joins and announcements. -/
theorem streamTimers : Obligations.StreamTimers :=
  ⟨answers_arrivalHoldRelease_writes, answers_arrivalHoldRelease_stays, answers_layIdle, answers_listenerActiveTimeout, answers_talkerSendingTimeout,
    answers_presOffsetChange_mutes, answers_presOffsetChange_off, answers_slipAllChange, answers_membershipRepeat, answers_queryResponse_none,
    answers_queryResponse_member, answers_snoopJoinExpiry, answers_sapAnnounce⟩

end Sys2Proof.Machine
end

section
/-! PROOFS. Round half up and saturation (R245, R246), and O39. -/
namespace Sys2Proof.Machine

/-- A value clipped to a range, with its flag, is what the two ends and the range say. -/
theorem clipped {w f : Nat} {lo hi i : Int} {r : BitVec w × Nat} {x y : BitVec w} (hx : x.toInt = hi) (hy : y.toInt = lo) (hle : lo ≤ hi)
    (hin : lo ≤ i → i ≤ hi → (BitVec.ofInt w i).toInt = i) (hr : r = if hi < i then (x, f) else if i < lo then (y, f) else (BitVec.ofInt w i, 0)) :
    r.1.toInt = max lo (min hi i) ∧ r.2 = if r.1.toInt = i then 0 else f := by
  by_cases h1 : hi < i
  · rw [hr, if_pos h1, hx, if_neg (by omega)]
    exact ⟨by omega, rfl⟩
  by_cases h2 : i < lo
  · rw [hr, if_neg h1, if_pos h2, hy, if_neg (by omega)]
    exact ⟨by omega, rfl⟩
  · rw [hr, if_neg h1, if_neg h2, hin (by omega) (by omega), if_pos rfl]
    exact ⟨by omega, rfl⟩

theorem toInt_ofInt_of_range {w : Nat} {m i : Int} (hm : (2 : Int) ^ w = 2 * m) (hlo : -m ≤ i) (hhi : i ≤ m - 1) : (BitVec.ofInt w i).toInt = i := by
  rw [BitVec.toInt_ofInt]
  have hw : ((2 ^ w : Nat) : Int) = 2 * m := by rw [← hm]; norm_cast
  exact Int.bmod_eq_of_le (by omega) (by omega)

/-- The value rounded is the floor of the value and a half (R245). -/
theorem rnd_half_up (v : Int) {n : Nat} (hn : 0 < n) : 2 ^ n * rnd v n ≤ v + 2 ^ (n - 1) ∧ v + 2 ^ (n - 1) < 2 ^ n * (rnd v n + 1) := by
  have hpos : (0 : Int) < 2 ^ n := by positivity
  have hr : rnd v n = (v + 2 ^ (n - 1)) / 2 ^ n := by
    rw [rnd, if_neg (by omega), Int.fdiv_eq_ediv_of_nonneg _ (by positivity)]
    norm_cast
  rw [hr]
  exact ⟨Int.mul_ediv_self_le (ne_of_gt hpos), Int.lt_mul_ediv_self_add hpos |>.trans_eq (by ring)⟩

/-- Settles O39: rounding is half up, and each range clips to its nearest end with its flag. -/
theorem roundingAndSaturation : Obligations.RoundingAndSaturation := by
  refine ⟨fun v n hn => rnd_half_up v hn, fun i => ?_, fun i => ?_, fun i => ?_, fun i => ?_, by decide, by decide⟩
  · exact clipped (x := 0x7FFFFFFF#32) (y := 0x80000000#32) (by decide) (by decide) (by decide) (toInt_ofInt_of_range (by decide)) rfl
  · exact clipped (x := 0x7FFF#16) (y := 0x8000#16) (by decide) (by decide) (by decide) (toInt_ofInt_of_range (by decide)) rfl
  · exact clipped (x := BitVec.ofInt 64 (2 ^ 63 - 1)) (y := BitVec.ofInt 64 (-2 ^ 63)) (by decide) (by decide) (by decide)
      (toInt_ofInt_of_range (by decide)) rfl
  · exact clipped (x := BitVec.ofInt 72 (2 ^ 71 - 1)) (y := BitVec.ofInt 72 (-2 ^ 71)) (by decide) (by decide) (by decide)
      (toInt_ofInt_of_range (by decide)) rfl

end Sys2Proof.Machine
end

section
/-! PROOFS. One core's bundle (R241, R249, R276): what opens in slot S, and failed checks. -/
namespace Sys2Proof.Machine

/-! ### A core's counters -/

theorem satOf_core {c : Nat} (hc : c < 16) :
    satOf (A.ENG_CORE_ACCESS_TRAPS c) = ⟨A.ENG_CORE_SAT c, 3, some F.ENG_EVT_CNT_SAT⟩ ∧
      satOf (A.ENG_CORE_CNT_ECC_CORR c) = ⟨A.ENG_CORE_SAT c, 4, some F.ENG_EVT_CNT_SAT⟩ := by
  interval_cases c <;> exact ⟨rfl, rfl⟩

theorem bumpOk_core {c : Nat} (hc : c < 16) : bumpOk (A.ENG_CORE_ACCESS_TRAPS c) = true ∧ bumpOk (A.ENG_CORE_CNT_ECC_CORR c) = true := by
  interval_cases c <;> decide

/-- The registers that a failed check changes. -/
def trapRegs (c : Nat) : List Nat := [A.ENG_CORE_ACCESS_TRAPS c, A.ENG_CORE_SAT c, A.ENG_EVT]

theorem chg_trap (s : State) {c : Nat} (hc : c < 16) : Chg (Listed (trapRegs c)) (Parts []) NoMem s (s.trap c) := by
  obtain ⟨h, -⟩ := satOf_core hc
  refine Chg.event (Chg.refl.inc _ (by simp [trapRegs]) ?_ ?_) _ (by simp [trapRegs])
  · rw [h]; simp [trapRegs]
  · rw [h]; simp [trapRegs]

theorem trap_counts (s : State) {c : Nat} (hc : c < 16) : Counts s (s.trap c) (A.ENG_CORE_ACCESS_TRAPS c) 1 := by
  rw [Counts, State.trap, State.rd_event_ne (by interval_cases c <;> decide), State.rd_inc_counts (bumpOk_core hc).1]

theorem trap_event (s : State) (c : Nat) : (s.trap c).on F.ENG_EVT_ACCESS_TRAP = true := State.on_event_same _ (by decide)

theorem trap_eng (s : State) (c : Nat) : (s.trap c).eng = s.eng := by rw [State.trap, State.event_eng, State.inc_eng]

theorem trap_core (s : State) (c k : Nat) : (s.trap c).core k = s.core k := by rw [State.core, trap_eng, State.core]

/-! ### Registers and parts through a bundle -/

/-- What a command answers changes core c and the registers that its effect writes. -/
theorem coreOnly_of {c : Nat} {l : List Nat} {s u v : State} (h : Chg (Listed l) (Parts []) NoMem s u) (g : CoreMoves c u v) :
    CoreOnly c l s (s.seal v) := by
  have heng : u.eng = s.eng := h.part .eng (by simp)
  refine ⟨fun k hk => ?_, ?_, frame_seal _ _ s v (g.variant.trans h.variant) (fun a ha hs => ?_) (fun a => ?_) (fun p hp => ?_)⟩
  · rw [State.core, State.seal_eng, ← State.core, g.cores k hk, State.core, heng, ← State.core]
  · rw [State.seal_eng, ← heng]
    exact g.eng
  · rw [List.mem_cons, not_or] at ha
    exact (g.regs a ha.1).trans (h.reg a (not_or.mpr ⟨ha.2, hs⟩))
  · rw [State.byte, g.mem, ← State.byte]
    exact h.byte a id
  · exact (h.part p (by simp)).trans (g.parts p (by simpa using hp))

/-- A core's bundle with slot S done: its writes landed and its half kept. -/
def State.openBundle (u : State) (c : Nat) (h : Half) : State :=
  u.coreUpd c fun k => { k with regs := applyAll h.writes k.regs, half := some h }

theorem openBundle_moves (u : State) (c : Nat) (h : Half) : CoreMoves c u (u.openBundle c h) := CoreMoves.coreUpd c u _

theorem openBundle_core (u : State) {c : Nat} (hc : c < u.eng.cores.length) (h : Half) :
    (u.openBundle c h).core c = { u.core c with regs := applyAll h.writes (u.core c).regs, half := some h } := u.core_coreUpd_same hc _

theorem length_of_ready {s : State} {c : Nat} {sl : Slot} {pr : Pred} (h : Ready s c sl pr) : c < s.eng.cores.length := by
  obtain ⟨⟨-, -, -, -, -, -, -, h16, -⟩, hc, -⟩ := h
  rw [h16]
  exact Nat.lt_of_lt_of_le hc s.cores_le

theorem lt_of_ready {s : State} {c : Nat} {sl : Slot} {pr : Pred} (h : Ready s c sl pr) : c < 16 := Nat.lt_of_lt_of_le h.2.1 s.cores_le

/-- An instruction in slot S opens the bundle. -/
theorem slot_s_eff {s u : State} {c lat : Nat} {pr : Pred} {eff : Effect} {ws : List Wr} {fl : Flow} (hs : AtSlotS s c)
    (hp : predHolds (s.core c).regs pr = true) (he : eff (s.core c).regs s = (ws, fl, u)) :
    s.slot c .s pr lat eff = u.openBundle c ⟨(s.core c).regs, ws, lat, fl⟩ := by
  have hend : s.endBundle c = s := by simp [State.endBundle, hs]
  simp only [State.slot, hend, hp, he, if_true]
  rfl

/-- What an instruction in slot S answers. -/
theorem answers_slotS {i : Instr} {s u : State} {c lat : Nat} {pr : Pred} {eff : Effect} {ws : List Wr} {fl : Flow} {P : State → Prop}
    (hx : exec i s = s.acson c .s pr lat eff) (hr : Ready s c .s pr) (he : eff (s.core c).regs s.fresh = (ws, fl, u)) (hv : u.variant = s.variant)
    (h : P (s.seal (u.openBundle c ⟨(s.core c).regs, ws, lat, fl⟩))) : Answers i s P := by
  obtain ⟨-, hcores, hp, hs, -⟩ := hr
  exact answers_runIf _ _ hx (decide_eq_true hcores) (slot_s_eff (s := s.fresh) (hs rfl) hp he) hv h

theorem core_seal (s u : State) (k : Nat) : (s.seal u).core k = u.core k := by rw [State.core, State.seal_eng, State.core]

/-- An instruction in slot S that only changes its core's registers. -/
theorem answers_slotS_computes {i : Instr} {s : State} {c lat : Nat} {pr : Pred} {eff : Effect} {ws : List Wr} {fl : Flow} {g : Regs → Regs}
    (hx : exec i s = s.acson c .s pr lat eff) (hr : Ready s c .s pr) (he : eff (s.core c).regs s.fresh = (ws, fl, s.fresh))
    (hg : applyAll ws (s.core c).regs = g (s.core c).regs) : Answers i s (Computes c g s) := by
  have hc := openBundle_core s.fresh (length_of_ready hr) ⟨(s.core c).regs, ws, lat, fl⟩
  refine answers_slotS hx hr he rfl ⟨?_, ?_, ?_, coreOnly_of Chg.refl.fresh (openBundle_moves _ _ _)⟩
  · rw [core_seal, hc]
    exact hg
  · rw [core_seal, hc]
    rfl
  · rw [core_seal, hc]
    rfl

/-- An instruction in slot S whose check fails (R276). -/
theorem answers_slotS_traps {i : Instr} {s : State} {c lat : Nat} {pr : Pred} {eff : Effect} {ws : List Wr} {fl : Flow} {g : Regs → Regs}
    (hx : exec i s = s.acson c .s pr lat eff) (hr : Ready s c .s pr) (he : eff (s.core c).regs s.fresh = (ws, fl, s.fresh.trap c))
    (hg : applyAll ws (s.core c).regs = (let r := g (s.core c).regs; { r with sf := r.sf ||| 4 })) : Answers i s (Traps c g s) := by
  have hc16 := lt_of_ready hr
  have htrap : Chg (Listed (trapRegs c)) (Parts []) NoMem s (s.fresh.trap c) := Chg.refl.fresh.trans (chg_trap _ hc16)
  have hlen : c < (s.fresh.trap c).eng.cores.length := by rw [trap_eng]; exact (length_of_ready hr)
  have hc := openBundle_core (s.fresh.trap c) hlen ⟨(s.core c).regs, ws, lat, fl⟩
  refine answers_slotS hx hr he htrap.variant ⟨?_, ?_, ?_, coreOnly_of htrap (openBundle_moves _ _ _)⟩
  · rw [core_seal, hc, trap_core]
    exact hg
  · have hne : A.ENG_CORE_ACCESS_TRAPS c ∉ summaries := notMem_summaries (by simp only [A.ENG_CORE_ACCESS_TRAPS]; omega)
    rw [Counts, State.rd_seal _ _ hne]
    exact trap_counts s.fresh hc16
  · rw [State.on_seal _ _ (by decide)]
    exact trap_event s.fresh c

end Sys2Proof.Machine
end

section
/-! PROOFS. Data memory (R224, R227, R263, R276), and O41. -/
namespace Sys2Proof.Machine

/-! ### Loads -/

theorem postWr_apply (post : Bool) (b : P) (off : BitVec 12) (r : Regs) (d : D) (w : Word) :
    applyAll (.d d w :: postWr r post b off) r = postP post b off (toD d (fun _ => w) r) := by cases post <;> rfl

theorem postWr_apply_trap (post : Bool) (b : P) (off : BitVec 12) (r : Regs) (d : D) :
    applyAll (.d d 0 :: .sf sfTrap :: postWr r post b off) r =
      (let x := postP post b off (toD d (fun _ => 0) r); { x with sf := x.sf ||| 4 }) := by cases post <;> rfl

section
variable {s : State} {c n : Nat} {pr : Pred} {post : Bool} {d : D} {b : P} {off : BitVec 12} {e : Ecc} {get : State → Nat → Word} {fit : Nat → Word}
variable {i : Instr} {lat : Nat}

/-- A load that passes its check (R263). -/
theorem answers_load (hx : exec i s = s.acson c .s pr lat (loadEff c n post d b off .clean get fit)) (hr : Ready s c .s pr)
    (hget : ∀ a, get s.fresh a = get s a)
    (hok : s.dataOk c (memAddr (s.core c).regs post b off) n = true) (ha : s.awaited c (memAddr (s.core c).regs post b off) n = false) :
    Answers i s (Computes c (fun r => postP post b off (toD d (fun r => get s (coreAdr c (memAddr r post b off))) r)) s) := by
  have he : loadEff c n post d b off .clean get fit (s.core c).regs s.fresh =
      (.d d (get s (coreAdr c (memAddr (s.core c).regs post b off))) :: postWr (s.core c).regs post b off, .seq, s.fresh) := by
    unfold loadEff
    dsimp only
    rw [show s.fresh.dataOk c (memAddr (s.core c).regs post b off) n = true from hok,
      show s.fresh.awaited c (memAddr (s.core c).regs post b off) n = false from ha, hget]
    rfl
  exact answers_slotS_computes hx hr he (postWr_apply _ _ _ _ _ _)

/-- A load of a word that is still to be filled takes a free one (R267). -/
theorem answers_load_awaited (hx : exec i s = s.acson c .s pr lat (loadEff c n post d b off .clean get fit)) (hr : Ready s c .s pr)
    (hok : s.dataOk c (memAddr (s.core c).regs post b off) n = true) (ha : s.awaited c (memAddr (s.core c).regs post b off) n = true) :
    Answers i s fun t =>
      (t.core c).regs = postP post b off (toD d (fun _ => fit (s.free (8 * n)).1) (s.core c).regs) ∧
      (t.core c).prog = (s.core c).prog ∧ (t.core c).xfers = (s.core c).xfers ∧ (∀ k, k ≠ c → t.core k = s.core k) ∧
      Framed [A.ENG_CORE_STATUS c] [.eng, .free] s t := by
  set u := (s.fresh.free (8 * n)).2 with hu
  have he : loadEff c n post d b off .clean get fit (s.core c).regs s.fresh =
      (.d d (fit (s.free (8 * n)).1) :: postWr (s.core c).regs post b off, .seq, u) := by
    unfold loadEff
    dsimp only
    rw [show s.fresh.dataOk c (memAddr (s.core c).regs post b off) n = true from hok,
      show s.fresh.awaited c (memAddr (s.core c).regs post b off) n = true from ha]
    rfl
  set h : Half := ⟨(s.core c).regs, .d d (fit (s.free (8 * n)).1) :: postWr (s.core c).regs post b off, lat, .seq⟩ with hh
  have hc := openBundle_core u (length_of_ready (s := s) hr) h
  have hframe : Chg (Listed [A.ENG_CORE_STATUS c]) (Parts [.eng, .free]) NoMem s (u.openBundle c h) :=
    (Chg.refl.fresh.free _ (by simp)).eng _ (by simp)
  refine answers_slotS hx hr he rfl ⟨?_, ?_, ?_, fun k hk => ?_, hframe.framed⟩
  · rw [core_seal, hc]
    exact postWr_apply _ _ _ _ _ _
  · rw [core_seal, hc]
    rfl
  · rw [core_seal, hc]
    rfl
  · rw [core_seal]
    exact State.core_coreUpd_ne u hk _

/-- A load outside the program's ranges (R276). -/
theorem answers_load_trap (hx : exec i s = s.acson c .s pr lat (loadEff c n post d b off e get fit)) (hr : Ready s c .s pr)
    (hok : s.dataOk c (memAddr (s.core c).regs post b off) n = false) :
    Answers i s (Traps c (fun r => postP post b off (toD d (fun _ => 0) r)) s) := by
  have he : loadEff c n post d b off e get fit (s.core c).regs s.fresh =
      (.d d 0 :: .sf sfTrap :: postWr (s.core c).regs post b off, .seq, s.fresh.trap c) := by
    unfold loadEff
    dsimp only
    rw [show s.fresh.dataOk c (memAddr (s.core c).regs post b off) n = false from hok]
    rfl
  exact answers_slotS_traps hx hr he (postWr_apply_trap _ _ _ _ _)

/-! ### Stores -/

theorem postWr_apply_store (post : Bool) (b : P) (off : BitVec 12) (r : Regs) : applyAll (postWr r post b off) r = postP post b off r := by
  cases post <;> rfl

theorem postWr_apply_store_trap (post : Bool) (b : P) (off : BitVec 12) (r : Regs) :
    applyAll (.sf sfTrap :: postWr r post b off) r = (let x := postP post b off r; { x with sf := x.sf ||| 4 }) := by cases post <;> rfl

/-- A store outside the program's ranges (R276). -/
theorem answers_store_trap {put : State → Nat → Word → State} (hx : exec i s = s.acson c .s pr lat (storeEff c n post d b off e put))
    (hr : Ready s c .s pr) (hok : s.dataOk c (memAddr (s.core c).regs post b off) n = false) :
    Answers i s (Traps c (postP post b off) s) := by
  have he : storeEff c n post d b off e put (s.core c).regs s.fresh =
      (.sf sfTrap :: postWr (s.core c).regs post b off, .seq, s.fresh.trap c) := by
    unfold storeEff
    dsimp only
    rw [show s.fresh.dataOk c (memAddr (s.core c).regs post b off) n = false from hok]
    rfl
  exact answers_slotS_traps hx hr he (postWr_apply_store_trap _ _ _ _)

/-- A store that passes its check: its bytes alone change (R263). -/
theorem answers_store {put : State → Nat → Word → State} {Q : State → Prop}
    (hx : exec i s = s.acson c .s pr lat (storeEff c n post d b off .clean put)) (hr : Ready s c .s pr)
    (hok : s.dataOk c (memAddr (s.core c).regs post b off) n = true)
    (hput : ∀ a w, Chg (fun _ => False) (Parts []) (fun x => a ≤ x ∧ x < a + n) s.fresh (put s.fresh a w))
    (hQ : ∀ t : State, (∀ a, t.byte a = (put s.fresh (coreAdr c (memAddr (s.core c).regs post b off)) ((s.core c).regs.dv d)).byte a) → Q t) :
    Answers i s fun t => Q t ∧ (t.core c).regs = postP post b off (s.core c).regs ∧
      (∀ a, a < coreAdr c (memAddr (s.core c).regs post b off) ∨ coreAdr c (memAddr (s.core c).regs post b off) + n ≤ a → t.byte a = s.byte a) ∧
      RegsKept [A.ENG_CORE_STATUS c] s t ∧ (∀ k, k ≠ c → t.core k = s.core k) := by
  set a := coreAdr c (memAddr (s.core c).regs post b off) with ha
  set u := put s.fresh a ((s.core c).regs.dv d) with hu
  have he : storeEff c n post d b off .clean put (s.core c).regs s.fresh = (postWr (s.core c).regs post b off, .seq, u) := by
    unfold storeEff
    dsimp only
    rw [show s.fresh.dataOk c (memAddr (s.core c).regs post b off) n = true from hok]
    rfl
  have hp := hput a ((s.core c).regs.dv d)
  have heng : u.eng = s.eng := hp.part .eng (by simp)
  set h : Half := ⟨(s.core c).regs, postWr (s.core c).regs post b off, lat, .seq⟩ with hh
  have hc := openBundle_core u (by rw [heng]; exact length_of_ready hr) h
  have hcore (k : Nat) : u.core k = s.core k := by rw [State.core, heng, State.core]
  have hbyte (x : Nat) : (s.seal (u.openBundle c h)).byte x = u.byte x := State.byte_seal s _ x
  refine answers_slotS hx hr he hp.variant ⟨hQ _ hbyte, ?_, fun x hx => ?_, fun x h1 h2 => ?_, fun k hk => ?_⟩
  · rw [core_seal, hc, hcore]
    exact postWr_apply_store _ _ _ _
  · rw [hbyte]
    exact hp.byte x (by omega)
  · rw [State.reg_seal _ _ h2]
    exact hp.reg x id
  · rw [core_seal]
    exact (State.core_coreUpd_ne u hk _).trans (hcore k)

end

theorem chg_putMemWord (s : State) (a : Nat) (w : Word) : Chg (fun _ => False) (Parts []) (fun x => a ≤ x ∧ x < a + 4) s (s.putMemWord a w) :=
  (((Chg.refl.putByte _ _ (by omega)).putByte _ _ (by omega)).putByte _ _ (by omega)).putByte _ _ (by omega)

theorem chg_putMemHalf (s : State) (a : Nat) (h : BitVec 16) : Chg (fun _ => False) (Parts []) (fun x => a ≤ x ∧ x < a + 2) s (s.putMemHalf a h) :=
  (Chg.refl.putByte _ _ (by omega)).putByte _ _ (by omega)

theorem memHalf_putMemHalf_same (s : State) (a : Nat) (h : BitVec 16) : (s.putMemHalf a h).memHalf a = h := by
  unfold State.memHalf State.putMemHalf
  simp only [State.byte_putByte, if_true, show ¬ (a = a + 1) by omega, if_false]
  ext i hi
  simp only [BitVec.getElem_append, BitVec.getElem_extractLsb']
  split
  · rw [Nat.zero_add]
    exact BitVec.getLsbD_eq_getElem hi
  · rw [show 8 + (i - 8) = i by omega]
    exact BitVec.getLsbD_eq_getElem hi

/-- A store of a word (R263). -/
theorem answers_stW (s : State) (c : Nat) (pr : Pred) (post : Bool) (d : D) (b : P) (off : BitVec 12) (hr : Ready s c .s pr)
    (hok : s.dataOk c (memAddr (s.core c).regs post b off) 4 = true) :
    Answers (.stW c pr post d b off .clean) s fun t =>
      t.memWord (coreAdr c (memAddr (s.core c).regs post b off)) = (s.core c).regs.dv d ∧
      (t.core c).regs = postP post b off (s.core c).regs ∧
      (∀ a, a < coreAdr c (memAddr (s.core c).regs post b off) ∨ coreAdr c (memAddr (s.core c).regs post b off) + 4 ≤ a → t.byte a = s.byte a) ∧
      RegsKept [A.ENG_CORE_STATUS c] s t ∧ (∀ k, k ≠ c → t.core k = s.core k) :=
  answers_store (i := .stW c pr post d b off .clean) rfl hr hok (chg_putMemWord _) fun t ht => by
    rw [← s.fresh.memWord_putMemWord_same (coreAdr c (memAddr (s.core c).regs post b off)) ((s.core c).regs.dv d), State.memWord, State.memWord]
    simp only [ht]

/-- A store of a halfword (R263). -/
theorem answers_stH (s : State) (c : Nat) (pr : Pred) (post : Bool) (d : D) (b : P) (off : BitVec 12) (hr : Ready s c .s pr)
    (hok : s.dataOk c (memAddr (s.core c).regs post b off) 2 = true) :
    Answers (.stH c pr post d b off .clean) s fun t =>
      t.memHalf (coreAdr c (memAddr (s.core c).regs post b off)) = ((s.core c).regs.dv d).extractLsb' 0 16 ∧
      (t.core c).regs = postP post b off (s.core c).regs ∧
      (∀ a, a < coreAdr c (memAddr (s.core c).regs post b off) ∨ coreAdr c (memAddr (s.core c).regs post b off) + 2 ≤ a → t.byte a = s.byte a) ∧
      RegsKept [A.ENG_CORE_STATUS c] s t ∧ (∀ k, k ≠ c → t.core k = s.core k) :=
  answers_store (i := .stH c pr post d b off .clean) rfl hr hok (fun a w => chg_putMemHalf _ a _) fun t ht => by
    rw [← memHalf_putMemHalf_same s.fresh (coreAdr c (memAddr (s.core c).regs post b off)) (((s.core c).regs.dv d).extractLsb' 0 16), State.memHalf,
      State.memHalf]
    simp only [ht]

/-! ### Memory errors (R227, R236) -/

/-- A corrected error counts (R227). -/
theorem answers_ldW_single (s : State) (c : Nat) (pr : Pred) (post : Bool) (d : D) (b : P) (off : BitVec 12) (hr : Ready s c .s pr)
    (hok : s.dataOk c (memAddr (s.core c).regs post b off) 4 = true) (ha : s.awaited c (memAddr (s.core c).regs post b off) 4 = false) :
    Answers (.ldW c pr post d b off .single) s fun t =>
      (t.core c).regs = postP post b off (toD d (fun r => s.memWord (coreAdr c (memAddr r post b off))) (s.core c).regs) ∧
      Counts s t (A.ENG_CORE_CNT_ECC_CORR c) 1 ∧ t.on F.ENG_EVT_ECC_CORR = true ∧ MemKept s t := by
  have hc16 := lt_of_ready hr
  set u := (s.fresh.inc (A.ENG_CORE_CNT_ECC_CORR c)).event F.ENG_EVT_ECC_CORR with hu
  have hev : u.on F.ENG_EVT_ECC_CORR = true := State.on_event_same _ (by decide)
  set w := s.memWord (coreAdr c (memAddr (s.core c).regs post b off)) with hw
  have he : loadEff c 4 post d b off .single State.memWord (BitVec.ofNat 32) (s.core c).regs s.fresh =
      (.d d w :: postWr (s.core c).regs post b off, .seq, u) := by
    unfold loadEff
    dsimp only
    rw [show s.fresh.dataOk c (memAddr (s.core c).regs post b off) 4 = true from hok,
      show s.fresh.awaited c (memAddr (s.core c).regs post b off) 4 = false from ha]
    rfl
  have heng : u.eng = s.eng := by rw [hu, State.event_eng, State.inc_eng]; rfl
  set h : Half := ⟨(s.core c).regs, .d d w :: postWr (s.core c).regs post b off, 3, .seq⟩ with hh
  have hc := openBundle_core u (by rw [heng]; exact length_of_ready hr) h
  have hframe : Chg AnyReg AnyPart NoMem s (u.openBundle c h) :=
    ((Chg.refl.fresh.inc _ trivial trivial fun _ _ => trivial).event _ trivial).eng _ trivial
  refine answers_slotS (lat := 3) rfl hr he hframe.variant ⟨?_, ?_, ?_, hframe.memKept⟩
  · rw [core_seal, hc, State.core, heng, ← State.core]
    exact postWr_apply _ _ _ _ _ _
  · have hne : A.ENG_CORE_CNT_ECC_CORR c ∉ summaries := notMem_summaries (by simp only [A.ENG_CORE_CNT_ECC_CORR]; omega)
    rw [Counts, State.rd_seal _ _ hne]
    show u.rd _ = _
    rw [hu, State.rd_event_ne (by interval_cases c <;> decide), State.rd_inc_counts (bumpOk_core hc16).2]
    rfl
  · rw [State.on_seal _ _ (by decide)]
    exact hev

theorem Chg.zeroOut {R : Nat → Prop} {P : Part → Prop} {M : Nat → Prop} {s t : State} (h : Chg R P M s t) (hm : ∀ b, M b) (m : Nat) :
    Chg R P M s (t.zeroOut m) := by
  unfold State.zeroOut State.zeroEf
  exact Chg.forN _ _ (fun _ _ u hu => Chg.forN _ _ (fun _ _ v hv => hv.putMemWord _ _ hm) hu) h

theorem Chg.updEng {R : Nat → Prop} {P : Part → Prop} {M : Nat → Prop} {s t : State} (h : Chg R P M s t) (f : EngS → EngS) (he : P .eng) :
    Chg R P M s (t.updEng f) := h.eng _ he

theorem Chg.putDly {R : Nat → Prop} {P : Part → Prop} {M : Nat → Prop} {s t : State} (h : Chg R P M s t) (he : P .eng) (hm : ∀ b, M b)
    (k q : Nat) (w : Word) : Chg R P M s (t.putDly k q w) := by
  unfold State.putDly
  exact Chg.putMemWord (h.updEng _ he) _ _ hm

theorem Chg.xferDo {R : Nat → Prop} {P : Part → Prop} {M : Nat → Prop} {s t : State} (h : Chg R P M s t) (he : P .eng) (hm : ∀ b, M b)
    (c : Nat) (x : Xfer) (bad : List Nat) : Chg R P M s (t.xferDo c x bad) := by
  unfold State.xferDo
  refine Chg.ite (fun _ => ?_) fun _ => Chg.ite (fun _ => ?_) fun _ => h
  · exact Chg.forN _ _ (fun _ _ v hv => hv.putMemWord _ _ hm) h
  · exact Chg.forN _ _ (fun _ _ v hv => hv.putDly he hm _ _ _) h

theorem Chg.xferPop {R : Nat → Prop} {P : Part → Prop} {M : Nat → Prop} {s t : State} (h : Chg R P M s t) (he : P .eng) (hm : ∀ b, M b)
    (c : Nat) (bad : List Nat) : Chg R P M s (t.xferPop c bad) := by
  unfold State.xferPop
  split
  · exact h
  · exact (h.xferDo he hm _ _ _).eng _ he

theorem Chg.xferAll {R : Nat → Prop} {P : Part → Prop} {M : Nat → Prop} {s t : State} (h : Chg R P M s t) (he : P .eng) (hm : ∀ b, M b)
    (c : Nat) : Chg R P M s (t.xferAll c) := Chg.forL _ _ (fun _ _ _ hu => hu.xferPop he hm _ _) h

theorem Chg.coreOut {R : Nat → Prop} {P : Part → Prop} {M : Nat → Prop} {s t : State} (h : Chg R P M s t) (he : P .eng) (hm : ∀ b, M b)
    (c : Nat) : Chg R P M s (t.coreOut c) := by
  unfold State.coreOut
  split
  · exact h
  · exact (Chg.xferAll (Chg.forL _ _ (fun _ _ _ hu => hu.zeroOut hm _) h) he hm _).eng _ he

/-- The registers that a retirement changes. -/
def RetireReg (c a : Nat) : Prop :=
  a = A.ENG_CORE_STATUS c ∨ (∃ m < 64, a = A.ENG_DESC_W0 m) ∨ a = A.ENG_EVT ∨ a = A.MGMT_EVT ∨ a = A.MGMT_CFG_STATUS

/-- A core's programs that are placed, unplaced; and what that owes. -/
def State.retireOwed (s : State) (c cause : Nat) : State :=
  let progs := (List.range 64).filter (fun m => s.on (F.ENG_DESC_W0_PLACED m) && s.fld (F.ENG_DESC_W0_CORE m) == c)
  let s := forL progs (fun m s => s.set (F.ENG_DESC_W0_PLACED m) 0) s
  let s := s.when (s.on F.ENG_CFG_REMAP_EN && !progs.isEmpty) (fun s => s.updEng (fun e => { e with remap := e.remap ||| 2 ^ c }))
  let s := (s.event F.ENG_EVT_RETIRED).log 8 1 3 [c, cause]
  (s.updMgmt (fun m => { m with retiredCores := (c, cause) :: m.retiredCores.filter (fun r => r.1 != c) })).requestSave

theorem State.coreRetire_eq {s : State} {c : Nat} (h : s.coreState c ≠ 6) (cause : Nat) :
    s.coreRetire c cause = ((s.set (F.ENG_CORE_STATUS_STATE c) 6).set (F.ENG_CORE_STATUS_CAUSE c) cause).retireOwed c cause := by
  unfold State.coreRetire
  rw [if_neg h]
  rfl

theorem chg_retireOwed {s : State} {c : Nat} (cause : Nat) :
    Chg (fun a => (∃ m < 64, a = A.ENG_DESC_W0 m) ∨ a = A.ENG_EVT ∨ a = A.MGMT_EVT ∨ a = A.MGMT_CFG_STATUS) (Parts [.eng, .mgmt]) NoMem s
      (s.retireOwed c cause) := by
  unfold State.retireOwed
  refine (chg_requestSave (by simp) (by simp)).mpr (Chg.updMgmt ?_ _ (by simp))
  refine Chg.log (Chg.event ?_ _ (by simp)) _ _ _ _ (by simp) (by simp)
  have hloop (l : List Nat) (hl : ∀ m ∈ l, m < 64) : Chg (fun a => (∃ m < 64, a = A.ENG_DESC_W0 m) ∨ a = A.ENG_EVT ∨ a = A.MGMT_EVT ∨
      a = A.MGMT_CFG_STATUS) (Parts [.eng, .mgmt]) NoMem s (forL l (fun m s => s.set (F.ENG_DESC_W0_PLACED m) 0) s) :=
    Chg.forL _ _ (fun m hm u hu => hu.set _ _ (.inl ⟨m, hl m hm, rfl⟩)) Chg.refl
  have hin := hloop ((List.range 64).filter (fun m => s.on (F.ENG_DESC_W0_PLACED m) && s.fld (F.ENG_DESC_W0_CORE m) == c))
    fun m hm => List.mem_range.mp (List.mem_of_mem_filter hm)
  exact hin.when _ _ fun _ => hin.eng _ (by simp)

theorem retireOwed_event (s : State) (c cause : Nat) : (s.retireOwed c cause).on F.ENG_EVT_RETIRED = true := by
  unfold State.retireOwed
  dsimp only
  rw [State.on, State.fld_requestSave_ne (by decide)]
  have hlog (u : State) (f : Mgmt → Mgmt) : (u.updMgmt f).fld F.ENG_EVT_RETIRED = u.fld F.ENG_EVT_RETIRED := rfl
  rw [hlog, State.fld_log_ne _ _ _ _ (by decide)]
  exact State.on_event_same _ (by decide)

/-- An error that cannot be corrected retires the core (R227, R236). -/
theorem answers_stW_double (s : State) (c : Nat) (pr : Pred) (post : Bool) (d : D) (b : P) (off : BitVec 12) (hr : Ready s c .s pr)
    (hok : s.dataOk c (memAddr (s.core c).regs post b off) 4 = true) (hst : s.coreState c ≠ 6) :
    Answers (.stW c pr post d b off .double) s fun t =>
      t.coreState c = 6 ∧ t.fld (F.ENG_CORE_STATUS_CAUSE c) = 3 ∧ t.on F.ENG_EVT_RETIRED = true ∧ (s.eng.comp = none → MemKept s t) := by
  have hc16 := lt_of_ready hr
  set o := s.fresh.coreOut c with ho
  have hout : Chg (fun _ => False) (Parts [.eng]) (fun _ => True) s.fresh o := Chg.refl.coreOut (by simp) (fun _ => trivial) c
  have host : o.coreState c ≠ 6 := by
    rw [State.coreState, hout.fld id]
    exact hst
  set x := (o.set (F.ENG_CORE_STATUS_STATE c) 6).set (F.ENG_CORE_STATUS_CAUSE c) 3 with hx
  set u := x.retireOwed c 3 with hu
  have howed : Chg (fun a => (∃ m < 64, a = A.ENG_DESC_W0 m) ∨ a = A.ENG_EVT ∨ a = A.MGMT_EVT ∨ a = A.MGMT_CFG_STATUS) (Parts [.eng, .mgmt]) NoMem x u :=
    chg_retireOwed 3
  have he : storeEff c 4 post d b off .double State.putMemWord (s.core c).regs s.fresh = (postWr (s.core c).regs post b off, .seq, u) := by
    unfold storeEff
    dsimp only
    rw [show s.fresh.dataOk c (memAddr (s.core c).regs post b off) 4 = true from hok]
    show (_, _, o.coreRetire c 3) = _
    rw [State.coreRetire_eq host]
  set h : Half := ⟨(s.core c).regs, postWr (s.core c).regs post b off, 1, .seq⟩ with hh
  have hfree : ¬ ((∃ m < 64, A.ENG_CORE_STATUS c = A.ENG_DESC_W0 m) ∨ A.ENG_CORE_STATUS c = A.ENG_EVT ∨ A.ENG_CORE_STATUS c = A.MGMT_EVT ∨
      A.ENG_CORE_STATUS c = A.MGMT_CFG_STATUS) := by
    simp only [A.ENG_CORE_STATUS, A.ENG_DESC_W0, A.ENG_EVT, A.MGMT_EVT, A.MGMT_CFG_STATUS]
    omega
  have hstat {g : Fld} (hg : g.adr = A.ENG_CORE_STATUS c) : (s.seal (u.openBundle c h)).fld g = x.fld g := by
    have hsum : g.adr ∉ summaries := by
      rw [hg]
      exact notMem_summaries (by simp only [A.ENG_CORE_STATUS]; omega)
    rw [State.fld_seal_of hsum]
    exact howed.fld (by rw [hg]; exact hfree)
  have hall : Chg AnyReg AnyPart (fun _ => True) s (u.openBundle c h) :=
    ((Chg.refl.fresh.trans hout).mono (fun _ _ => trivial) (fun _ _ => trivial) fun _ _ => trivial).trans
      ((((Chg.refl.set _ _ trivial).set _ _ trivial).trans howed.anywhere).eng _ trivial |>.mono (fun _ h => h) (fun _ h => h) fun _ _ => trivial)
  refine answers_slotS (lat := 1) rfl hr he hall.variant ⟨?_, ?_, ?_, fun hcomp => ?_⟩
  · rw [State.coreState, hstat rfl, hx, State.fld_set_free _ (by interval_cases c <;> decide), State.fld_set_same _ rfl]
    rfl
  · rw [hstat rfl, hx, State.fld_set_same _ rfl]
    rfl
  · rw [State.on_seal _ _ (by decide)]
    exact retireOwed_event x c 3
  · have hsame : o = s.fresh := by
      rw [ho, State.coreOut, show s.fresh.eng.comp = none from hcomp]
    have hkeep : Chg AnyReg AnyPart NoMem s (u.openBundle c h) := by
      refine (Chg.trans (t := o) (hsame ▸ Chg.refl.fresh) ?_)
      exact ((((Chg.refl.set _ _ trivial).set _ _ trivial).trans howed.anywhere).eng _ trivial)
    exact hkeep.memKept

/-- Settles O41, clause by clause: loads, stores, failed checks, words awaited and memory errors. -/
theorem dataMemory : Obligations.DataMemory := by
  refine ⟨?_, ?_, ?_, ?_, ?_, ?_, answers_stW, answers_stH, ?_, ?_, answers_ldW_single, answers_stW_double⟩
  · exact fun s c pr post d b off hr => answers_load (i := .ldW c pr post d b off .clean) rfl hr fun _ => rfl
  · exact fun s c pr post d b off hr => answers_load (i := .ldH c pr post d b off .clean) rfl hr fun _ => rfl
  · exact fun s c pr post d b off hr => answers_load_awaited (i := .ldW c pr post d b off .clean) rfl hr
  · exact fun s c pr post d b off hr => answers_load_awaited (i := .ldH c pr post d b off .clean) rfl hr
  · exact fun s c pr post d b off e hr => answers_load_trap (i := .ldW c pr post d b off e) rfl hr
  · exact fun s c pr post d b off e hr => answers_load_trap (i := .ldH c pr post d b off e) rfl hr
  · exact fun s c pr post d b off e hr => answers_store_trap (i := .stW c pr post d b off e) rfl hr
  · exact fun s c pr post d b off e hr => answers_store_trap (i := .stH c pr post d b off e) rfl hr

end Sys2Proof.Machine
end

section
/-! PROOFS. Every Acson instruction's word decodes to it (R248 to R275). -/

namespace Sys2Proof.Machine

/-! ### The decoder's table, the opcodes of slot S beyond the computing ones -/

section
variable (c w : Nat) (x : Fields)

@[simp] theorem decOp_s_10 : decOp c .s 0x10 w x = decMem x fun post d b off => .ldW c x.pr post d b off .clean := rfl
@[simp] theorem decOp_s_11 : decOp c .s 0x11 w x = decMem x fun post d b off => .stW c x.pr post d b off .clean := rfl
@[simp] theorem decOp_s_12 : decOp c .s 0x12 w x = decMem x fun post d b off => .ldH c x.pr post d b off .clean := rfl
@[simp] theorem decOp_s_13 : decOp c .s 0x13 w x = decMem x fun post d b off => .stH c x.pr post d b off .clean := rfl
@[simp] theorem decOp_s_14 : decOp c .s 0x14 w x = dec14 c x := rfl
@[simp] theorem decOp_s_15 : decOp c .s 0x15 w x = dec15 c x := rfl
@[simp] theorem decOp_s_16 : decOp c .s 0x16 w x = dec16 c x := rfl
@[simp] theorem decOp_s_17 : decOp c .s 0x17 w x = dec17 c x := rfl
@[simp] theorem decOp_s_18 : decOp c .s 0x18 w x = dec18 c x := rfl
@[simp] theorem decOp_s_19 : decOp c .s 0x19 w x = dec19 c x := rfl
@[simp] theorem decOp_s_1A : decOp c .s 0x1a w x = dec1A c x := rfl
@[simp] theorem decOp_s_20 : decOp c .s 0x20 w x = dec20 c x := rfl
@[simp] theorem decOp_s_21 : decOp c .s 0x21 w x = dec21 c x := rfl

end

/-! ### Memory accesses, branches, messages and loops -/

/-- A memory access's mode and address register in its SA field (R263). -/
theorem decMem_mode {x : Fields} {f : Bool → D → P → BitVec 12 → Instr} {post : Bool} {d : D} {b : P} {off : BitVec 12}
    (hd : x.dst = d) (ha : x.sa = (if post then 8 else 0) + b.val) (hi : x.imm12 = off.toNat) :
    decMem x f = some (f post d b off) := by
  have hb : Fin.ofNat 8 (x.sa % 8) = b := by
    rw [show x.sa % 8 = b.val by rw [ha]; cases post <;> simp]
    exact Fin.ofNat_val_eq_self b
  have hp : (x.sa / 8 == 1) = post := by
    rw [ha]
    cases post
    · simp; omega
    · simp
  have hlt : x.sa < 16 := by rw [ha]; cases post <;> simp <;> omega
  unfold decMem
  rw [if_pos hlt, hb, hp, hd, hi]
  simp

theorem means_busLd (c : Nat) (pr : Pred) (d : D) (b : P) (mode : Q) (rel : Fin 3) :
    Means c .s (fmtR 0x14 pr d.val b.val 0 (4 * mode.val + rel.val)) (.busLd c pr d b mode rel) := by
  have h1 : (4 * mode.val + rel.val) % 4 = rel.val := by omega
  have h2 : (4 * mode.val + rel.val) / 4 = mode.val := by omega
  have h3 : 4 * mode.val + rel.val < 16 := by omega
  exact means_fmtR (by simp [dec14, h1, h2, h3, regF_val])

theorem means_busSt (c : Nat) (pr : Pred) (d : D) (b : P) (mode : Q) :
    Means c .s (fmtR 0x15 pr d.val b.val 0 (4 * mode.val)) (.busSt c pr d b mode) := by
  have h2 : 4 * mode.val / 4 = mode.val := by omega
  have h3 : 4 * mode.val < 16 := by omega
  exact means_fmtR (by simp [dec15, h2, h3])

/-- Format B is format L with no destination. -/
theorem fmtB_eq_fmtL (op : Nat) (pr : Pred) (off : Nat) : fmtB op pr off = fmtL op pr 0 off := by
  unfold fmtB fmtL
  omega

theorem means_br (c : Nat) (pr : Pred) (off : BitVec 13) : Means c .s (fmtB 0x20 pr off.toNat) (.br c pr off) := by
  rw [fmtB_eq_fmtL]
  refine means_fmtL fun w x hp hd hi => ?_
  have hsa : x.sa < 2 := by
    have := off.isLt
    simp only [Fields.imm17] at hi
    omega
  simp [dec20, hp, hd, hi, hsa]

theorem means_endEf (c : Nat) (pr : Pred) : Means c .s (fmtB 0x21 pr 0) (.endEf c pr) := by
  rw [fmtB_eq_fmtL]
  exact means_fmtL fun w x hp hd hi => by simp [dec21, hp, hd, hi]

theorem means_nop (c : Nat) (sl : Slot) : Means c sl 0 (.nop c sl) := rfl

/-- The word of MSG_PUSH (R272). -/
def msgPushWord (pr : Pred) (f : Q) (b : P) (g : D) (words : Fin 1024) : Nat :=
  0x1b * 2 ^ 26 + predCode pr * 2 ^ 22 + f.val * 2 ^ 20 + b.val * 2 ^ 17 + g.val * 2 ^ 12 + words.val * 4

theorem msgPushWord_fields (pr : Pred) (f : Q) (b : P) (g : D) (words : Fin 1024) {w : Nat} (hw : msgPushWord pr f b g words = w) :
    w / 2 ^ 26 % 64 = 0x1b ∧ w / 2 ^ 22 % 16 = predCode pr ∧ w % 4 = 0 ∧ w / 2 ^ 20 % 4 = f.val ∧ w / 2 ^ 17 % 8 = b.val ∧
      w / 2 ^ 12 % 32 = g.val ∧ w / 4 % 1024 = words.val := by
  have hpc := predCode_lt pr
  unfold msgPushWord at hw
  omega

theorem decodeWord_op1B (c : Nat) {w : Nat} {pr : Pred} (hop : w / 2 ^ 26 % 64 = 0x1b) (hpr : w / 2 ^ 22 % 16 = predCode pr) :
    decodeWord c .s w = dec1B c w pr := by
  rw [decodeWord_eq_decOp c .s (by omega) (by omega), fieldsOf, hpr, predOf_predCode, hop]
  rfl

theorem means_msgPush (c : Nat) (pr : Pred) (f : Q) (b : P) (g : D) (words : Fin 1024) :
    Means c .s (msgPushWord pr f b g words) (.msgPush c pr f b g words) := by
  obtain ⟨hop, hpr, h0, h1, h2, h3, h4⟩ := msgPushWord_fields pr f b g words rfl
  unfold Means
  rw [decodeWord_op1B c hop hpr, dec1B, if_pos h0, h1, h2, h3, h4, fD_val, Fin.ofNat_val_eq_self, Fin.ofNat_val_eq_self,
    Fin.ofNat_val_eq_self]

theorem means_loopI (c : Nat) (n : Fin 2) (count : Fin 4096) (body : Fin 256) (hb : body ≠ 0) :
    Means c .s (0x38 * 2 ^ 26 + n.val * 2 ^ 25 + count.val * 2 ^ 13 + body.val * 2 ^ 5) (.loopI c n count body) := by
  generalize hw : 0x38 * 2 ^ 26 + n.val * 2 ^ 25 + count.val * 2 ^ 13 + body.val * 2 ^ 5 = w
  have hb : body.val ≠ 0 := fun h => hb (Fin.ext h)
  have hop : w / 2 ^ 26 % 64 = 0x38 := by omega
  have h0 : w % 32 = 0 := by omega
  have h1 : w / 2 ^ 25 % 2 = n.val := by omega
  have h2 : w / 2 ^ 13 % 4096 = count.val := by omega
  have h3 : w / 32 % 256 = body.val := by omega
  unfold Means decodeWord
  simp only [hop, true_and, if_true]
  rw [if_neg (by omega), dec38, h0, h1, h2, h3, if_pos ⟨rfl, hb⟩]
  simp only [Fin.ofNat_val_eq_self]

theorem means_loopR (c : Nat) (n : Fin 2) (a : D) (top : Fin 4096) (body : Fin 256) (hb : body ≠ 0) :
    Means c .s (0x39 * 2 ^ 26 + n.val * 2 ^ 25 + a.val * 2 ^ 20 + top.val * 2 ^ 8 + body.val) (.loopR c n a top body) := by
  generalize hw : 0x39 * 2 ^ 26 + n.val * 2 ^ 25 + a.val * 2 ^ 20 + top.val * 2 ^ 8 + body.val = w
  have hb : body.val ≠ 0 := fun h => hb (Fin.ext h)
  have hop : w / 2 ^ 26 % 64 = 0x39 := by omega
  have h0 : w % 256 = body.val := by omega
  have h1 : w / 2 ^ 25 % 2 = n.val := by omega
  have h2 : w / 2 ^ 20 % 32 = a.val := by omega
  have h3 : w / 2 ^ 8 % 4096 = top.val := by omega
  unfold Means decodeWord
  simp only [hop, true_and, if_true]
  rw [if_neg (by omega), if_neg (by simp), dec39, h0, h1, h2, h3, if_pos hb]
  simp only [Fin.ofNat_val_eq_self, fD_val]

/-! ### The obligation -/

/-- A word decodes to the instruction it encodes, a memory access's error finding aside. -/
abbrev RoundTrip (i : Instr) (w : Nat) : Prop :=
  ∃ c sl j, decodeWord c sl w = some j ∧ (j = i ∨
    ∃ pr post d b off, (∃ e, i = .ldW c pr post d b off e ∧ j = .ldW c pr post d b off .clean) ∨
      (∃ e, i = .stW c pr post d b off e ∧ j = .stW c pr post d b off .clean) ∨
      (∃ e, i = .ldH c pr post d b off e ∧ j = .ldH c pr post d b off .clean) ∨
      (∃ e, i = .stH c pr post d b off e ∧ j = .stH c pr post d b off .clean))

theorem roundTrip_of_means {i : Instr} {w v : Nat} (c : Nat) (sl : Slot) (h : some v = some w) (hm : Means c sl v i) : RoundTrip i w := by
  obtain rfl := Option.some.inj h
  exact ⟨c, sl, i, hm, .inl rfl⟩

theorem roundTrip_ldW {c w : Nat} {pr : Pred} {post : Bool} {d : D} {b : P} {off : BitVec 12} {e : Ecc}
    (h : some (fmtI 0x10 pr d.val ((if post then 8 else 0) + b.val) off.toNat) = some w) :
    RoundTrip (.ldW c pr post d b off e) w := by
  obtain rfl := Option.some.inj h
  have hm : Means c .s (fmtI 0x10 pr d.val ((if post then 8 else 0) + b.val) off.toNat) (.ldW c pr post d b off .clean) :=
    means_fmtI (fun v x hp hd ha hi => by rw [decOp_s_10, decMem_mode hd ha hi, hp]) (ha := by cases post <;> simp <;> omega)
  exact ⟨c, .s, _, hm, .inr ⟨pr, post, d, b, off, .inl ⟨e, rfl, rfl⟩⟩⟩

theorem roundTrip_stW {c w : Nat} {pr : Pred} {post : Bool} {d : D} {b : P} {off : BitVec 12} {e : Ecc}
    (h : some (fmtI 0x11 pr d.val ((if post then 8 else 0) + b.val) off.toNat) = some w) :
    RoundTrip (.stW c pr post d b off e) w := by
  obtain rfl := Option.some.inj h
  have hm : Means c .s (fmtI 0x11 pr d.val ((if post then 8 else 0) + b.val) off.toNat) (.stW c pr post d b off .clean) :=
    means_fmtI (fun v x hp hd ha hi => by rw [decOp_s_11, decMem_mode hd ha hi, hp]) (ha := by cases post <;> simp <;> omega)
  exact ⟨c, .s, _, hm, .inr ⟨pr, post, d, b, off, .inr (.inl ⟨e, rfl, rfl⟩)⟩⟩

theorem roundTrip_ldH {c w : Nat} {pr : Pred} {post : Bool} {d : D} {b : P} {off : BitVec 12} {e : Ecc}
    (h : some (fmtI 0x12 pr d.val ((if post then 8 else 0) + b.val) off.toNat) = some w) :
    RoundTrip (.ldH c pr post d b off e) w := by
  obtain rfl := Option.some.inj h
  have hm : Means c .s (fmtI 0x12 pr d.val ((if post then 8 else 0) + b.val) off.toNat) (.ldH c pr post d b off .clean) :=
    means_fmtI (fun v x hp hd ha hi => by rw [decOp_s_12, decMem_mode hd ha hi, hp]) (ha := by cases post <;> simp <;> omega)
  exact ⟨c, .s, _, hm, .inr ⟨pr, post, d, b, off, .inr (.inr (.inl ⟨e, rfl, rfl⟩))⟩⟩

theorem roundTrip_stH {c w : Nat} {pr : Pred} {post : Bool} {d : D} {b : P} {off : BitVec 12} {e : Ecc}
    (h : some (fmtI 0x13 pr d.val ((if post then 8 else 0) + b.val) off.toNat) = some w) :
    RoundTrip (.stH c pr post d b off e) w := by
  obtain rfl := Option.some.inj h
  have hm : Means c .s (fmtI 0x13 pr d.val ((if post then 8 else 0) + b.val) off.toNat) (.stH c pr post d b off .clean) :=
    means_fmtI (fun v x hp hd ha hi => by rw [decOp_s_13, decMem_mode hd ha hi, hp]) (ha := by cases post <;> simp <;> omega)
  exact ⟨c, .s, _, hm, .inr ⟨pr, post, d, b, off, .inr (.inr (.inr ⟨e, rfl, rfl⟩))⟩⟩

/-- Settles O44, instruction by instruction: each word's opcode and fields give the instruction back. -/
theorem decodeOfEncode : Obligations.DecodeOfEncode := by
  intro i w h hi hr
  cases i with
  | add c sl pr d a b => exact roundTrip_of_means c sl h (means_fmtR (by simp [dec01]))
  | sub c sl pr d a b => exact roundTrip_of_means c sl h (means_fmtR (by simp [dec01]))
  | and c sl pr d a b => exact roundTrip_of_means c sl h (means_fmtR (by simp [dec01]))
  | or c sl pr d a b => exact roundTrip_of_means c sl h (means_fmtR (by simp [dec01]))
  | xor c sl pr d a b => exact roundTrip_of_means c sl h (means_fmtR (by simp [dec01]))
  | andn c sl pr d a b => exact roundTrip_of_means c sl h (means_fmtR (by simp [dec01]))
  | shl c sl pr d a b => exact roundTrip_of_means c sl h (means_fmtR (by simp [dec01]))
  | shr c sl pr d a b => exact roundTrip_of_means c sl h (means_fmtR (by simp [dec01]))
  | sar c sl pr d a b => exact roundTrip_of_means c sl h (means_fmtR (by simp [dec01]))
  | min c sl pr d a b => exact roundTrip_of_means c sl h (means_fmtR (by simp [dec01]))
  | max c sl pr d a b => exact roundTrip_of_means c sl h (means_fmtR (by simp [dec01]))
  | minu c sl pr d a b => exact roundTrip_of_means c sl h (means_fmtR (by simp [dec01]))
  | maxu c sl pr d a b => exact roundTrip_of_means c sl h (means_fmtR (by simp [dec01]))
  | addi c sl pr d a imm => exact roundTrip_of_means c sl h (means_fmtI fun w x hp hd ha hi => by simp [dec02, hp, hd, ha, hi])
  | andi c pr d a imm => exact roundTrip_of_means c .s h (means_fmtI fun w x hp hd ha hi => by simp [dec03, hp, hd, ha, hi])
  | ori c pr d a imm => exact roundTrip_of_means c .s h (means_fmtI fun w x hp hd ha hi => by simp [dec04, hp, hd, ha, hi])
  | xori c pr d a imm => exact roundTrip_of_means c .s h (means_fmtI fun w x hp hd ha hi => by simp [dec05, hp, hd, ha, hi])
  | shli c sl pr d a n => exact roundTrip_of_means c sl h (means_shiftImm 0 fun x hp hd ha hz hk hn => by simp [dec06, hp, hd, ha, hz, hk, hn])
  | shri c sl pr d a n => exact roundTrip_of_means c sl h (means_shiftImm 1 fun x hp hd ha hz hk hn => by simp [dec06, hp, hd, ha, hz, hk, hn])
  | sari c sl pr d a n => exact roundTrip_of_means c sl h (means_shiftImm 2 fun x hp hd ha hz hk hn => by simp [dec06, hp, hd, ha, hz, hk, hn])
  | movi c sl pr d imm => exact roundTrip_of_means c sl h (means_fmtL fun w x hp hd hi => by simp [dec08, hp, hd, hi])
  | movhi c pr d imm => exact roundTrip_of_means c .s h (means_fmtL fun w x hp hd hi => by simp [dec09, hp, hd, hi, imm.isLt])
  | padd c pr d a imm => exact roundTrip_of_means c .s h (means_fmtI fun w x hp hd ha hi => by simp [dec0B, hp, hd, ha, hi])
  | movDD c pr d a => exact roundTrip_of_means c .s h (means_fmtR (by simp [dec0A]))
  | movDP c pr d a => exact roundTrip_of_means c .s h (means_fmtR (by simp [dec0A]))
  | movPD c pr d a => exact roundTrip_of_means c .s h (means_fmtR (by simp [dec0A]))
  | movDLc c pr d a => exact roundTrip_of_means c .s h (means_fmtR (by simp [dec0A]))
  | movDSf c pr d => exact roundTrip_of_means c .s h (means_fmtR (by simp [dec0A]))
  | clrSf c pr => exact roundTrip_of_means c .s h (means_fmtR (by simp [dec0A]))
  | movDF c pr d => exact roundTrip_of_means c .s h (means_fmtR (by simp [dec0A]))
  | movFD c pr a => exact roundTrip_of_means c .s h (means_fmtR (by simp [dec0A]))
  | cmp c pr cc f a b => exact roundTrip_of_means c .s h ((cmp_means_computes c pr cc f a b).1)
  | cmpi c pr cc f a imm => exact roundTrip_of_means c .s h ((cmpi_means_computes c pr cc f a imm).1)
  | pand c pr d a b => exact roundTrip_of_means c .s h (means_fmtR (by simp [dec0E]))
  | por c pr d a b => exact roundTrip_of_means c .s h (means_fmtR (by simp [dec0E]))
  | pxor c pr d a b => exact roundTrip_of_means c .s h (means_fmtR (by simp [dec0E]))
  | pandn c pr d a b => exact roundTrip_of_means c .s h (means_fmtR (by simp [dec0E]))
  | pnot c pr d a => exact roundTrip_of_means c .s h (means_fmtR (by simp [dec0E]))
  | pclr c pr d => exact roundTrip_of_means c .s h (means_fmtR (by simp [dec0E]))
  | pset c pr d => exact roundTrip_of_means c .s h (means_fmtR (by simp [dec0E]))
  | sel c sl pr d f a b => exact roundTrip_of_means c sl h (means_fmtR (by simp [dec0F]))
  | mulQ31 c pr d a b => exact roundTrip_of_means c .m h (means_fmtR (by simp [dec24]))
  | mulQ30 c pr d a b => exact roundTrip_of_means c .m h (means_fmtR (by simp [dec24]))
  | mulI c pr d a b => exact roundTrip_of_means c .m h (means_fmtR (by simp [dec24]))
  | mulhI c pr d a b => exact roundTrip_of_means c .m h (means_fmtR (by simp [dec24]))
  | mpyQ31 c pr d a b => exact roundTrip_of_means c .m h (means_fmtR (by simp [dec25]))
  | macQ31 c pr d a b => exact roundTrip_of_means c .m h (means_fmtR (by simp [dec25]))
  | msuQ31 c pr d a b => exact roundTrip_of_means c .m h (means_fmtR (by simp [dec25]))
  | mpyQ30 c pr d a b => exact roundTrip_of_means c .m h (means_fmtR (by simp [dec25]))
  | macQ30 c pr d a b => exact roundTrip_of_means c .m h (means_fmtR (by simp [dec25]))
  | msuQ30 c pr d a b => exact roundTrip_of_means c .m h (means_fmtR (by simp [dec25]))
  | accClr c pr d => exact roundTrip_of_means c .m h (means_fmtR (by simp [dec26]))
  | accLdQ31 c pr d a => exact roundTrip_of_means c .m h (means_fmtR (by simp [dec26]))
  | accLdw c pr d a b => exact roundTrip_of_means c .m h (means_fmtR (by simp [dec26]))
  | accAdd c pr d a => exact roundTrip_of_means c .m h (means_fmtR (by simp [dec26]))
  | accSub c pr d a => exact roundTrip_of_means c .m h (means_fmtR (by simp [dec26]))
  | accShr c pr d n => exact roundTrip_of_means c .m h (means_fmtR (by simp [dec26]))
  | accRdQ31 c pr d a n => exact roundTrip_of_means c .m h (means_accRdQ31 c pr d a n)
  | accRdHi c pr d a => exact roundTrip_of_means c .m h (means_fmtR (by simp [dec26]))
  | accRdLo c pr d a => exact roundTrip_of_means c .m h (means_fmtR (by simp [dec26]))
  | addS c pr d a b => exact roundTrip_of_means c .m h (means_fmtR (by simp [dec27]))
  | subS c pr d a b => exact roundTrip_of_means c .m h (means_fmtR (by simp [dec27]))
  | negS c pr d a => exact roundTrip_of_means c .m h (means_fmtR (by simp [dec27]))
  | absS c pr d a => exact roundTrip_of_means c .m h (means_fmtR (by simp [dec27]))
  | shlS c pr d a n => exact roundTrip_of_means c .m h (means_shlS c pr d a n)
  | add2S c pr d a b => exact roundTrip_of_means c .m h (means_fmtR (by simp [dec28]))
  | sub2S c pr d a b => exact roundTrip_of_means c .m h (means_fmtR (by simp [dec28]))
  | mul2Q15 c pr d a b => exact roundTrip_of_means c .m h (means_fmtR (by simp [dec28]))
  | max2 c pr d a b => exact roundTrip_of_means c .m h (means_fmtR (by simp [dec28]))
  | min2 c pr d a b => exact roundTrip_of_means c .m h (means_fmtR (by simp [dec28]))
  | abs2S c pr d a => exact roundTrip_of_means c .m h (means_fmtR (by simp [dec28]))
  | packHh c pr d a b => exact roundTrip_of_means c .m h (means_fmtR (by simp [dec28]))
  | unpkHi c pr d a => exact roundTrip_of_means c .m h (means_fmtR (by simp [dec28]))
  | unpkLo c pr d a => exact roundTrip_of_means c .m h (means_fmtR (by simp [dec28]))
  | sinQ31 c pr d a => exact roundTrip_of_means c .m h (means_fmtR (by simp [dec29]))
  | cosQ31 c pr d a => exact roundTrip_of_means c .m h (means_fmtR (by simp [dec29]))
  | ldW c pr post d b off ecc => exact roundTrip_ldW h
  | stW c pr post d b off ecc => exact roundTrip_stW h
  | ldH c pr post d b off ecc => exact roundTrip_ldH h
  | stH c pr post d b off ecc => exact roundTrip_stH h
  | busLd c pr d b mode rel => exact roundTrip_of_means c .s h (means_busLd c pr d b mode rel)
  | busSt c pr d b mode => exact roundTrip_of_means c .s h (means_busSt c pr d b mode)
  | dlyRd c pr b line n => exact roundTrip_of_means c .s h (means_fmtR (by simp [dec16]))
  | dlyWr c pr b line => exact roundTrip_of_means c .s h (means_fmtR (by simp [dec17]))
  | dlyWait c pr => exact roundTrip_of_means c .s h (means_fmtR (by simp [dec18]))
  | tblLd c pr d a => exact roundTrip_of_means c .s h (means_fmtR (by simp [dec19]))
  | ctlWr c pr f a v => exact roundTrip_of_means c .s h (means_fmtR (by simp [dec1A]))
  | msgPush c pr f b g words => exact roundTrip_of_means c .s h (means_msgPush c pr f b g words)
  | nop c sl => exact roundTrip_of_means c sl h (means_nop c sl)
  | br c pr off => exact roundTrip_of_means c .s h (means_br c pr off)
  | endEf c pr => exact roundTrip_of_means c .s h (means_endEf c pr)
  | loopI c n count body => exact roundTrip_of_means c .s h (means_loopI c n count body fun h => hi c n count (by rw [h]))
  | loopR c n a top body => exact roundTrip_of_means c .s h (means_loopR c n a top body fun h => hr c n a top (by rw [h]))
  | _ => exact nomatch h

end Sys2Proof.Machine
end

section
/-! PROOFS. Tables, control blocks and messages (R268 to R272), and O43. -/
namespace Sys2Proof.Machine

/-! ### Tables (R268) -/

section
variable {s : State} {c : Nat} {pr : Pred}

theorem answers_tblLd_word {d a : D} (hr : Ready s c .s pr) (hc : s.computing c = true) (hlt : ((s.core c).regs.dv a).toNat < 2 ^ 20)
    (h4 : ((s.core c).regs.dv a).toNat % 4 = 0) :
    Answers (.tblLd c pr d a) s (Computes c (toD d fun r => s.reg (0x100000 + (r.dv a).toNat)) s) := by
  refine answers_slotS_computes (i := .tblLd c pr d a) rfl hr
    (ws := [.d d (s.reg (0x100000 + ((s.core c).regs.dv a).toNat))]) (fl := .seq) ?_ rfl
  dsimp only
  rw [show s.fresh.computing c = true from hc, Bool.not_true, if_neg Bool.false_ne_true, if_pos ⟨hlt, h4⟩]
  rfl

theorem answers_tblLd_trap {d a : D} (hr : Ready s c .s pr) (hc : s.computing c = true)
    (h : 2 ^ 20 ≤ ((s.core c).regs.dv a).toNat ∨ ((s.core c).regs.dv a).toNat % 4 ≠ 0) :
    Answers (.tblLd c pr d a) s (Traps c (toD d fun _ => 0) s) := by
  refine answers_slotS_traps (i := .tblLd c pr d a) rfl hr (ws := [.d d 0, .sf sfTrap]) (fl := .seq) ?_ rfl
  dsimp only
  rw [show s.fresh.computing c = true from hc, Bool.not_true, if_neg Bool.false_ne_true, if_neg (by omega)]

theorem answers_tblLd_idle {d a : D} (hr : Ready s c .s pr) (hc : s.computing c = false) :
    Answers (.tblLd c pr d a) s (Computes c (toD d fun _ => 0) s) := by
  refine answers_slotS_computes (i := .tblLd c pr d a) rfl hr (ws := [.d d 0]) (fl := .seq) ?_ rfl
  dsimp only
  rw [show s.fresh.computing c = false from hc]
  rfl

/-! ### Control blocks (R269, R271) -/

/-- A control write of a kind and an index: what is written and whether it is. -/
def ctlEff (c : Nat) (f : Q) (a v : D) : Effect := fun r s =>
  if !s.computing c then ([.f f false], .seq, s)
  else match s.ctlWrite c ((r.dv a).toNat / 2 ^ 28) ((r.dv a).toNat % 2 ^ 28) (r.dv v) with
    | none => ([.f f false, .sf sfTrap], .seq, s.trap c)
    | some (ok, s) => ([.f f ok], .seq, s)

theorem exec_ctlWr (f : Q) (a v : D) (s : State) : exec (.ctlWr c pr f a v) s = s.acson c .s pr 4 (ctlEff c f a v) := rfl

theorem ctlEff_some {f : Q} {a v : D} {r : Regs} {ok : Bool} {u : State} (hc : s.computing c = true)
    (h : s.ctlWrite c ((r.dv a).toNat / 2 ^ 28) ((r.dv a).toNat % 2 ^ 28) (r.dv v) = some (ok, u)) :
    ctlEff c f a v r s = ([.f f ok], .seq, u) := by
  rw [ctlEff, hc, Bool.not_true, if_neg Bool.false_ne_true, h]

theorem ctlEff_none {f : Q} {a v : D} {r : Regs} (hc : s.computing c = true)
    (h : s.ctlWrite c ((r.dv a).toNat / 2 ^ 28) ((r.dv a).toNat % 2 ^ 28) (r.dv v) = none) :
    ctlEff c f a v r s = ([.f f false, .sf sfTrap], .seq, s.trap c) := by
  rw [ctlEff, hc, Bool.not_true, if_neg Bool.false_ne_true, h]

theorem answers_ctlWr_idle {f : Q} {a v : D} (hr : Ready s c .s pr) (hc : s.computing c = false) :
    Answers (.ctlWr c pr f a v) s (Computes c (toF f fun _ => false) s) := by
  refine answers_slotS_computes (exec_ctlWr f a v s) hr (ws := [.f f false]) (fl := .seq) ?_ rfl
  rw [ctlEff, show s.fresh.computing c = false from hc]
  rfl

/-- A control write that its check refuses (R276). -/
theorem answers_ctlWr_trap {f : Q} {a v : D} (hr : Ready s c .s pr) (hc : s.computing c = true)
    (hk : ((s.core c).regs.dv a).toNat / 2 ^ 28 ∈ [0, 5, 7, 8, 9, 10, 11, 12, 13, 14, 15]) :
    Answers (.ctlWr c pr f a v) s (Traps c (toF f fun _ => false) s) := by
  refine answers_slotS_traps (exec_ctlWr f a v s) hr (ctlEff_none (s := s.fresh) hc ?_) rfl
  simp only [List.mem_cons, List.not_mem_nil, or_false] at hk
  unfold State.ctlWrite
  dsimp only
  rw [if_neg (by omega), if_neg (by omega), if_neg (by omega), if_neg (by omega), if_neg (by omega)]

/-- A control write that takes effect: whether it did is in its predicate register. -/
theorem answers_ctlWr_some {f : Q} {a v : D} {ok : Bool} {u : State} {l : List Nat} {ps : List Part} {Q : State → Prop} (hr : Ready s c .s pr)
    (hc : s.computing c = true)
    (h : s.fresh.ctlWrite c (((s.core c).regs.dv a).toNat / 2 ^ 28) (((s.core c).regs.dv a).toNat % 2 ^ 28) ((s.core c).regs.dv v) = some (ok, u))
    (hu : Chg (Listed l) (Parts ps) NoMem s u) (heng : u.eng = s.eng)
    (hQ : ∀ x : State, (∀ b, x.reg b = u.reg b) → x.play = u.play → CoreMoves c u x → (x.core c).regs = toF f (fun _ => ok) (s.core c).regs → Q (s.seal x)) :
    Answers (.ctlWr c pr f a v) s Q := by
  refine answers_slotS (exec_ctlWr f a v s) hr (ctlEff_some (s := s.fresh) hc h) hu.variant (hQ _ (fun _ => rfl) rfl (openBundle_moves _ _ _) ?_)
  rw [openBundle_core u (by rw [heng]; exact length_of_ready hr), State.core, heng]
  rfl

/-- A crosspoint's target acts at once (R269). -/
theorem answers_ctlWr_target {k : Nat} {f : Q} {a v : D} (hr : Ready s c .s pr) (hc : s.computing c = true) (hlo : s.eng.xrange.1 ≤ k)
    (hhi : k < s.eng.xrange.1 + s.eng.xrange.2) (hk : k < 2 ^ 14) (ha : ((s.core c).regs.dv a).toNat = 2 ^ 28 + k) :
    Answers (.ctlWr c pr f a v) s fun t =>
      t.reg (A.TBL_XP_W1 k) = (s.core c).regs.dv v ∧ (t.core c).regs = toF f (fun _ => true) (s.core c).regs ∧ CoreOnly c [A.TBL_XP_W1 k] s t := by
  set u := s.fresh.putReg (A.TBL_XP_W1 k) ((s.core c).regs.dv v) with hu
  have hchg : Chg (Listed [A.TBL_XP_W1 k]) (Parts []) NoMem s u := Chg.refl.fresh.putReg _ _ (by simp)
  have hw : s.fresh.ctlWrite c (((s.core c).regs.dv a).toNat / 2 ^ 28) (((s.core c).regs.dv a).toNat % 2 ^ 28) ((s.core c).regs.dv v) =
      some (true, u) := by
    have hin : (Nat.ble s.fresh.eng.xrange.1 k && Nat.blt k (s.fresh.eng.xrange.1 + s.fresh.eng.xrange.2)) = true := by
      rw [Bool.and_eq_true, Nat.ble_eq, Nat.blt_eq]
      exact ⟨hlo, hhi⟩
    rw [ha, show (2 ^ 28 + k) / 2 ^ 28 = 1 by omega, show (2 ^ 28 + k) % 2 ^ 28 = k by omega, State.ctlWrite]
    rw [if_pos rfl, if_pos hin]
  refine answers_ctlWr_some hr hc hw hchg rfl fun x hreg _ hm hregs => ⟨?_, ?_, coreOnly_of hchg hm⟩
  · rw [State.reg_seal _ _ (entry_notMem (by simp only [A.TBL_XP_W1]; omega)), hreg]
    exact State.reg_putReg_same _ _ _
  · rw [core_seal, hregs]

/-- A crosspoint's ramp length acts at once (R269). -/
theorem answers_ctlWr_ramp {k : Nat} {f : Q} {a v : D} (hr : Ready s c .s pr) (hc : s.computing c = true) (hlo : s.eng.xrange.1 ≤ k)
    (hhi : k < s.eng.xrange.1 + s.eng.xrange.2) (hk : k < 2 ^ 14) (ha : ((s.core c).regs.dv a).toNat = 2 * 2 ^ 28 + k) :
    Answers (.ctlWr c pr f a v) s fun t =>
      t.fld (F.TBL_XP_W2_RAMP_LEN k) = ((s.core c).regs.dv v).toNat % 8192 ∧ t.fld (F.TBL_XP_W2_REMAIN k) = s.fld (F.TBL_XP_W2_REMAIN k) ∧
      (t.core c).regs = toF f (fun _ => true) (s.core c).regs ∧ CoreOnly c [A.TBL_XP_W2 k] s t := by
  set u := s.fresh.set (F.TBL_XP_W2_RAMP_LEN k) ((s.core c).regs.dv v).toNat with hu
  have hchg : Chg (Listed [A.TBL_XP_W2 k]) (Parts []) NoMem s u := Chg.refl.fresh.set _ _ (by simp)
  have hw : s.fresh.ctlWrite c (((s.core c).regs.dv a).toNat / 2 ^ 28) (((s.core c).regs.dv a).toNat % 2 ^ 28) ((s.core c).regs.dv v) =
      some (true, u) := by
    have hin : (Nat.ble s.fresh.eng.xrange.1 k && Nat.blt k (s.fresh.eng.xrange.1 + s.fresh.eng.xrange.2)) = true := by
      rw [Bool.and_eq_true, Nat.ble_eq, Nat.blt_eq]
      exact ⟨hlo, hhi⟩
    rw [ha, show (2 * 2 ^ 28 + k) / 2 ^ 28 = 2 by omega, show (2 * 2 ^ 28 + k) % 2 ^ 28 = k by omega, State.ctlWrite]
    rw [if_neg (by decide), if_pos rfl, if_pos hin]
  have hnot : A.TBL_XP_W2 k ∉ summaries := entry_notMem (by simp only [A.TBL_XP_W2]; omega)
  refine answers_ctlWr_some hr hc hw hchg (by rw [hu, State.set_eng]; rfl) fun x hreg _ hm hregs => ⟨?_, ?_, ?_, coreOnly_of hchg hm⟩
  · rw [State.fld_seal_of hnot, State.fld_eq_of_reg (hreg _), hu, State.fld_set_same _ rfl]
    rfl
  · rw [State.fld_seal_of hnot, State.fld_eq_of_reg (hreg _), hu, State.fld_set_free _ (by simp [Fld.free, Fld.ok, Fld.apart])]
    rfl
  · rw [core_seal, hregs]

/-! ### Staging (R204) -/

theorem stage_late (i : Item) (h : s.curEf < s.play.cleat) : s.stage i = (false, s) := by
  unfold State.stage
  dsimp only
  rw [if_pos h]

theorem stage_ctl {i : Item} (hi : stagedCtl ⟨s.curEf, i⟩ = true) (h : s.play.cleat ≤ s.curEf)
    (hroom : (s.play.staging.filter stagedCtl).length < 1024) :
    s.stage i = (true, s.updPlay (fun p => { p with staging := p.staging ++ [⟨s.curEf, i⟩] })) := by
  unfold State.stage
  dsimp only
  rw [if_neg (by omega), hi, if_pos rfl, if_neg (by rw [Nat.ble_eq]; omega)]

theorem stage_ctl_full {i : Item} (hi : stagedCtl ⟨s.curEf, i⟩ = true) (h : s.play.cleat ≤ s.curEf)
    (hfull : 1024 ≤ (s.play.staging.filter stagedCtl).length) :
    s.stage i = (false, (s.inc A.PLAY_STAGE_DROP).event F.PLAY_EVT_STAGE_FULL) := by
  unfold State.stage
  dsimp only
  rw [if_neg (by omega), hi, if_pos rfl, if_pos (by rw [Nat.ble_eq]; omega)]

theorem stage_msg {m : Msg} (h : s.play.cleat ≤ s.curEf) (hroom : (s.play.staging.map stagedBytes).sum + 4 * m.body.length ≤ 32768) :
    s.stage (.msg m) = (true, s.updPlay (fun p => { p with staging := p.staging ++ [⟨s.curEf, .msg m⟩] })) := by
  unfold State.stage
  dsimp only
  rw [if_neg (by omega), show stagedCtl ⟨s.curEf, .msg m⟩ = false from rfl, if_neg Bool.false_ne_true,
    show stagedBytes ⟨s.curEf, .msg m⟩ = 4 * m.body.length from rfl, if_neg (by rw [Nat.blt_eq]; omega)]

/-- A limiter's word is staged (R204, R269). -/
theorem answers_ctlWr_limiter {k w : Nat} {f : Q} {a v : D} (hr : Ready s c .s pr) (hc : s.computing c = true) (hk : k < s.limiters) (hw : w < 4)
    (ha : ((s.core c).regs.dv a).toNat = 3 * 2 ^ 28 + 4 * k + w) (hef : s.play.cleat ≤ s.curEf)
    (hroom : (s.play.staging.filter stagedCtl).length < 1024) :
    Answers (.ctlWr c pr f a v) s fun t =>
      t.play.staging = s.play.staging ++ [⟨s.curEf, .lim k w ((s.core c).regs.dv v)⟩] ∧
      (t.core c).regs = toF f (fun _ => true) (s.core c).regs ∧ RegsKept [A.ENG_CORE_STATUS c] s t ∧ MemKept s t := by
  have hk256 : k < 256 := Nat.lt_of_lt_of_le hk (by unfold State.limiters; cases s.variant <;> decide)
  set u := s.fresh.updPlay (fun p => { p with staging := p.staging ++ [⟨s.curEf, .lim k w ((s.core c).regs.dv v)⟩] }) with hu
  have hchg : Chg (Listed []) (Parts [.play]) NoMem s u := Chg.refl.fresh.updPlay _ (by simp)
  have hctl : s.fresh.ctlWrite c (((s.core c).regs.dv a).toNat / 2 ^ 28) (((s.core c).regs.dv a).toNat % 2 ^ 28) ((s.core c).regs.dv v) =
      some (true, u) := by
    rw [ha, show (3 * 2 ^ 28 + 4 * k + w) / 2 ^ 28 = 3 by omega, show (3 * 2 ^ 28 + 4 * k + w) % 2 ^ 28 = 4 * k + w by omega, State.ctlWrite]
    rw [if_neg (by decide), if_neg (by decide), if_pos rfl, show (4 * k + w) / 4 = k by omega, show (4 * k + w) % 4 = w by omega,
      if_pos (show k < s.fresh.limiters from hk),
      stage_ctl (s := s.fresh) rfl hef hroom]
    rfl
  refine answers_ctlWr_some hr hc hctl hchg rfl fun x hreg hplay hm hregs => ⟨?_, ?_, fun b _ h2 => ?_, fun b => ?_⟩
  · rw [State.seal_play, hplay]
    rfl
  · rw [core_seal, hregs]
  · rw [State.reg_seal _ _ h2, hreg]
    rfl
  · rw [State.byte_seal, State.byte, hm.mem]
    rfl

/-- A record's word that finds staging full is dropped and counts (R204). -/
theorem answers_ctlWr_full {k w : Nat} {f : Q} {a v : D} (hr : Ready s c .s pr) (hc : s.computing c = true) (hk : k < s.lines) (hw : w < 8)
    (ha : ((s.core c).regs.dv a).toNat = 4 * 2 ^ 28 + 8 * k + w) (hef : s.play.cleat ≤ s.curEf)
    (hfull : 1024 ≤ (s.play.staging.filter stagedCtl).length) :
    Answers (.ctlWr c pr f a v) s fun t =>
      t.play.staging = s.play.staging ∧ Counts s t A.PLAY_STAGE_DROP 1 ∧ t.on F.PLAY_EVT_STAGE_FULL = true ∧
      (t.core c).regs = toF f (fun _ => false) (s.core c).regs ∧ MemKept s t := by
  have hk256 : k < 256 := Nat.lt_of_lt_of_le hk (by unfold State.lines; cases s.variant <;> decide)
  set u := (s.fresh.inc A.PLAY_STAGE_DROP).event F.PLAY_EVT_STAGE_FULL with hu
  have hchg : Chg (Listed [A.PLAY_STAGE_DROP, (satOf A.PLAY_STAGE_DROP).adr, A.PLAY_EVT]) (Parts []) NoMem s u :=
    (Chg.refl.fresh.inc _ (by simp) (by simp) (by intro g hg; cases hg; simp)).event _ (by simp)
  have hctl : s.fresh.ctlWrite c (((s.core c).regs.dv a).toNat / 2 ^ 28) (((s.core c).regs.dv a).toNat % 2 ^ 28) ((s.core c).regs.dv v) =
      some (false, u) := by
    rw [ha, show (4 * 2 ^ 28 + 8 * k + w) / 2 ^ 28 = 4 by omega, show (4 * 2 ^ 28 + 8 * k + w) % 2 ^ 28 = 8 * k + w by omega, State.ctlWrite]
    rw [if_neg (by decide), if_neg (by decide), if_neg (by decide), if_pos rfl, show (8 * k + w) / 8 = k by omega,
      if_pos (show k < s.fresh.lines from hk),
      stage_ctl_full (s := s.fresh) rfl hef hfull]
  refine answers_ctlWr_some hr hc hctl hchg (hchg.part .eng (by simp)) fun x hreg hplay hm hregs => ⟨?_, ?_, ?_, ?_, fun b => ?_⟩
  · rw [State.seal_play, hplay, hchg.part .play (by simp)]
  · rw [Counts, State.rd_seal _ _ (by decide), State.rd_eq_of_reg (hreg _), hu, State.rd_event_ne (by decide), State.rd_inc_counts (by decide)]
    rfl
  · rw [State.on_seal _ _ (by decide), State.on_of_reg (hreg _)]
    exact State.on_event_same _ (by decide)
  · rw [core_seal, hregs]
  · rw [State.byte_seal, State.byte, hm.mem, ← State.byte]
    exact hchg.byte b id

/-- A status word of an EF that has committed is not staged (R204). -/
theorem answers_ctlWr_late {m : Nat} {f : Q} {a v : D} (hr : Ready s c .s pr) (hc : s.computing c = true) (hp : (s.core c).prog = some m)
    (ha : ((s.core c).regs.dv a).toNat = 6 * 2 ^ 28) (hef : s.curEf < s.play.cleat) :
    Answers (.ctlWr c pr f a v) s (Computes c (toF f fun _ => false) s) := by
  refine answers_slotS_computes (exec_ctlWr f a v s) hr (ctlEff_some (s := s.fresh) (ok := false) hc ?_) rfl
  have hp' : (s.fresh.core c).prog = some m := hp
  rw [ha, State.ctlWrite]
  rw [if_neg (by decide), if_neg (by decide), if_neg (by decide), if_neg (by decide), if_pos (by decide), hp']
  exact congrArg some (stage_late (s := s.fresh) _ hef)

/-! ### Messages (R272) -/

/-- The words that an instruction takes from data memory: those valid as stored, and none but free values drawn. -/
theorem takeWords_spec (n : Nat) : ∀ (a : Nat) (s : State), (takeWords c n a s).1.length = n ∧
    Chg (fun _ => False) (Parts [.free]) NoMem s (takeWords c n a s).2 ∧
    ∀ j < n, s.awaited c (a + 4 * j) 4 = false → getAt (takeWords c n a s).1 j 0 = s.memWord (coreAdr c (a + 4 * j)) := by
  induction n with
  | zero => exact fun a s => ⟨rfl, Chg.refl, fun j hj => absurd hj (Nat.not_lt_zero j)⟩
  | succ n ih =>
    intro a s
    by_cases hw : s.awaited c a 4 = true
    · obtain ⟨h1, h2, h3⟩ := ih (a + 4) (s.free 32).2
      have he : takeWords c (n + 1) a s = (BitVec.ofNat 32 (s.free 32).1 :: (takeWords c n (a + 4) (s.free 32).2).1, (takeWords c n (a + 4) (s.free 32).2).2) := by
        rw [takeWords, hw]
        rfl
      rw [he]
      refine ⟨congrArg (· + 1) h1, (Chg.refl.free 32 (by simp)).trans h2, fun j hj hn => ?_⟩
      cases j with
      | zero => exact absurd hw (by rw [show a = a + 4 * 0 by omega, hn]; exact Bool.false_ne_true)
      | succ j =>
        have hj' := h3 j (by omega) (by rw [show a + 4 + 4 * j = a + 4 * (j + 1) by omega]; exact hn)
        rw [show a + 4 + 4 * j = a + 4 * (j + 1) by omega] at hj'
        exact hj'
    · obtain ⟨h1, h2, h3⟩ := ih (a + 4) s
      have he : takeWords c (n + 1) a s = (s.memWord (coreAdr c a) :: (takeWords c n (a + 4) s).1, (takeWords c n (a + 4) s).2) := by
        rw [takeWords, if_neg hw]
      rw [he]
      refine ⟨congrArg (· + 1) h1, h2, fun j hj hn => ?_⟩
      cases j with
      | zero => rfl
      | succ j =>
        have hj' := h3 j (by omega) (by rw [show a + 4 + 4 * j = a + 4 * (j + 1) by omega]; exact hn)
        rw [show a + 4 + 4 * j = a + 4 * (j + 1) by omega] at hj'
        exact hj'

theorem answers_msgPush_idle {f : Q} {b : P} {h : D} {words : Fin 1024} (hr : Ready s c .s pr) (hc : s.computing c = false) :
    Answers (.msgPush c pr f b h words) s (Computes c (toF f fun _ => false) s) := by
  refine answers_slotS_computes (i := .msgPush c pr f b h words) rfl hr (ws := [.f f false]) (fl := .seq) ?_ rfl
  dsimp only
  rw [show s.fresh.computing c = false from hc]
  rfl

/-- A message of its header alone fails its check (R276). -/
theorem answers_msgPush_trap {f : Q} {b : P} {h : D} (hr : Ready s c .s pr) (hc : s.computing c = true) :
    Answers (.msgPush c pr f b h 1) s (Traps c (toF f fun _ => false) s) := by
  refine answers_slotS_traps (i := .msgPush c pr f b h 1) rfl hr (ws := [.f f false, .sf sfTrap]) (fl := .seq) ?_ rfl
  dsimp only
  rw [show s.fresh.computing c = true from hc]
  rfl

/-- The message that a core pushes (R272). -/
def State.coreMsg (s : State) (c : Nat) (hv : Nat) (ws : List Word) : Msg where
  queue := hv / 2 ^ 30
  prio := hv / 2 ^ 27 % 8
  src := 1
  core := c
  desc := ((s.core c).prog).getD 0
  ef := s.curEf % 2 ^ 32
  body := ws

/-- A message is staged with its body (R204, R272). -/
theorem answers_msgPush_staged {m : Nat} {f : Q} {b : P} {h : D} {words : Fin 1024} (hr : Ready s c .s pr) (hc : s.computing c = true)
    (hw : 1 < words.val) (hp : (s.core c).prog = some m) (hok : s.blockOkAt c (lowAddr ((s.core c).regs.pv b)) words.val = true)
    (hef : s.play.cleat ≤ s.curEf) (hroom : (s.play.staging.map stagedBytes).sum + 4 * words.val ≤ 32768) :
    Answers (.msgPush c pr f b h words) s fun t =>
      (∃ x, t.play.staging = s.play.staging ++ [⟨s.curEf, .msg x⟩] ∧ x.queue = ((s.core c).regs.dv h).toNat / 2 ^ 30 ∧
        x.prio = ((s.core c).regs.dv h).toNat / 2 ^ 27 % 8 ∧ x.core = c ∧ x.desc = m ∧ x.ef = s.curEf % 2 ^ 32 ∧
        x.body.length = words.val ∧
        ∀ j < words.val, s.awaited c (lowAddr ((s.core c).regs.pv b) + 4 * j) 4 = false →
          getAt x.body j 0 = s.memWord (coreAdr c (lowAddr ((s.core c).regs.pv b) + 4 * j))) ∧
      (t.core c).regs = toF f (fun _ => true) (s.core c).regs ∧ RegsKept [A.ENG_CORE_STATUS c] s t ∧ MemKept s t := by
  set a := lowAddr ((s.core c).regs.pv b) with ha
  obtain ⟨hlen, hchg, hbody⟩ := takeWords_spec (c := c) words.val a s.fresh
  set ws := (takeWords c words.val a s.fresh).1 with hws
  set y := (takeWords c words.val a s.fresh).2 with hy
  have hcore (k : Nat) : y.core k = s.core k := by rw [State.core, hchg.part .eng (by simp)]; rfl
  have hcur : y.curEf = s.curEf := by rw [State.curEf, hchg.part .eng (by simp)]; rfl
  have hplay : y.play = s.play := hchg.part .play (by simp)
  set x := y.coreMsg c ((s.core c).regs.dv h).toNat ws with hx
  set u := y.updPlay (fun p => { p with staging := p.staging ++ [⟨s.curEf, .msg x⟩] }) with hu
  have hstage : y.stage (.msg x) = (true, u) := by
    rw [stage_msg (by rw [hplay, hcur]; exact hef) (by rw [hplay, show x.body.length = words.val from hlen]; exact hroom), hcur]
  have hall : Chg (Listed []) (Parts [.free, .play]) NoMem s u := by
    refine (Chg.refl.fresh.trans (hchg.mono (fun _ h => h.elim) (fun p hp => ?_) fun _ h => h)).updPlay _ (by simp)
    rw [parts_iff, List.mem_singleton] at hp
    rw [hp]
    simp
  have heng : u.eng = s.eng := hall.part .eng (by simp)
  refine answers_slotS (i := .msgPush c pr f b h words) (lat := 2) (u := u) (ws := [.f f true]) (fl := .seq) rfl hr ?_ hall.variant ?_
  · have hn : (if words.val = 0 then 1024 else words.val) = words.val := if_neg (by omega)
    have hb : (decide (words.val ≠ 1) && s.fresh.blockOkAt c a words.val) = true := by
      rw [decide_eq_true (by omega), Bool.true_and]
      exact hok
    dsimp only
    rw [show s.fresh.computing c = true from hc, Bool.not_true, if_neg Bool.false_ne_true, hn]
    rw [if_pos hb]
    show (([.f f (y.stage (.msg x)).1] : List Wr), Flow.seq, (y.stage (.msg x)).2) = _
    rw [hstage]
  · have hcx := openBundle_core u (c := c) (by rw [heng]; exact length_of_ready hr) ⟨(s.core c).regs, [.f f true], 2, .seq⟩
    refine ⟨⟨x, ?_, rfl, rfl, rfl, ?_, ?_, hlen, hbody⟩, ?_, fun b _ h2 => ?_, fun b => ?_⟩
    · rw [State.seal_play]
      show y.play.staging ++ _ = _
      rw [hplay]
    · show ((y.core c).prog).getD 0 = m
      rw [hcore, hp]
      rfl
    · show y.curEf % 2 ^ 32 = _
      rw [hcur]
    · rw [core_seal, hcx, State.core, heng]
      rfl
    · rw [State.reg_seal _ _ h2]
      exact hall.reg b (by simp [h2])
    · rw [State.byte_seal]
      exact hall.byte b id

end

/-- Settles O43, clause by clause: table words, control writes and messages, each done, refused and without an EF. -/
theorem tablesAndControls : Obligations.TablesAndControls := by
  refine ⟨fun s c pr d a => ⟨means_fmtR (by simp [dec19]), answers_tblLd_word, answers_tblLd_trap, answers_tblLd_idle⟩, ?_, ?_, ?_, ?_, ?_, ?_, ?_, ?_, ?_, ?_⟩
  · exact fun _ _ _ _ _ _ _ => answers_ctlWr_target
  · exact fun _ _ _ _ _ _ _ => answers_ctlWr_ramp
  · exact fun _ _ _ _ _ _ _ _ => answers_ctlWr_limiter
  · exact fun _ _ _ _ _ _ _ _ => answers_ctlWr_full
  · exact fun _ _ _ _ _ _ _ => answers_ctlWr_late
  · exact fun _ _ _ _ _ _ => answers_ctlWr_trap
  · exact fun _ _ _ _ _ _ => answers_ctlWr_idle
  · exact fun _ _ _ _ _ _ _ _ => answers_msgPush_staged
  · exact fun _ _ _ _ _ _ => answers_msgPush_trap
  · exact fun _ _ _ _ _ _ _ => answers_msgPush_idle

end Sys2Proof.Machine
end

section
/-! PROOFS. How a program goes on (R248, R249, R273 to R275), and O40. -/
namespace Sys2Proof.Machine

/-! ### Slot M -/

/-- A core's bundle with slot M done, before it completes. -/
def State.closeBundle (u : State) (c : Nat) (h : Half) (ws : List Wr) : State :=
  u.coreUpd c fun k => { k with regs := applyAll ws k.regs, half := some h }

theorem closeBundle_core (u : State) {c : Nat} (hc : c < u.eng.cores.length) (h : Half) (ws : List Wr) :
    (u.closeBundle c h ws).core c = { u.core c with regs := applyAll ws (u.core c).regs, half := some h } := u.core_coreUpd_same hc _

/-- The writes of slot M that a longer one of slot S to the same register outlasts are lost (R277). -/
def Half.lasting (h : Half) (lat : Nat) (ws : List Wr) : List Wr := ws.filter fun w => !(Nat.blt lat h.lat && h.writes.any (sameReg w))

theorem lasting_nil (h : Half) (lat : Nat) : h.lasting lat [] = [] := rfl

theorem lasting_of_no_writes {h : Half} (hw : h.writes = []) (lat : Nat) (ws : List Wr) : h.lasting lat ws = ws := by
  rw [Half.lasting, hw]
  exact List.filter_eq_self.mpr fun w _ => by simp

/-- An instruction in slot M completes the bundle. -/
theorem slot_m_eff {s u : State} {c lat : Nat} {pr : Pred} {eff : Effect} {h : Half} {ws : List Wr} {fl : Flow} (hh : (s.core c).half = some h)
    (hp : predHolds h.src pr = true) (he : eff h.src s = (ws, fl, u)) :
    s.slot c .m pr lat eff = (u.closeBundle c h (h.lasting lat ws)).endBundle c := by
  simp only [State.slot, hh, Option.getD_some, hp, he, if_true]
  rfl

/-! ### The end of a bundle -/

/-- The core goes on as k at the bundle t. -/
def State.goOn (s : State) (c : Nat) (k : Core) (t : Nat) : State := (s.coreUpd c fun _ => k).setPc c t

theorem goOn_moves (s : State) (c : Nat) (k : Core) (t : Nat) : CoreMoves c s (s.goOn c k t) :=
  (CoreMoves.coreUpd c s _).trans (CoreMoves.setPc c _ t)

theorem goOn_core (s : State) {c : Nat} (hc : c < s.eng.cores.length) (k : Core) (t : Nat) : (s.goOn c k t).core c = { k with pc := t % 4096 } := by
  rw [State.goOn, State.core_setPc_same _ (by rw [(CoreMoves.coreUpd c s _).count]; exact hc), State.core_coreUpd_same s hc]

/-- The core after its bundle, before it goes on. -/
def Core.closed (k : Core) : Core := { k with half := none }

theorem coreUpd_coreUpd (s : State) {c : Nat} (f g : Core → Core) : (s.coreUpd c f).coreUpd c g = s.coreUpd c fun k => g (f k) := by
  have h : updAt (updAt s.eng.cores c f) c g = updAt s.eng.cores c fun k => g (f k) := List.modify_modify_eq ..
  exact congrArg (fun l => { s with eng := { s.eng with cores := l } }) h

theorem coreUpd_const (s : State) {c : Nat} (hc : c < s.eng.cores.length) (f : Core → Core) :
    s.coreUpd c f = s.coreUpd c fun _ => f (s.core c) := by
  have h : updAt s.eng.cores c f = updAt s.eng.cores c fun _ => f (s.core c) := by
    apply List.ext_getElem?
    intro k
    rcases eq_or_ne c k with rfl | hk
    · simp [updAt, State.core, getAt, hc]
    · simp [updAt, hk]
  exact congrArg (fun l => { s with eng := { s.eng with cores := l } }) h

/-- A bundle that goes straight on takes its loop tests. -/
theorem endBundle_seq_eq {s : State} {c : Nat} {h : Half} (hc : c < s.eng.cores.length) (hh : (s.core c).half = some h) (hf : h.flow = .seq) :
    s.endBundle c = (s.goOn c (loopTests (s.core c).pc (s.core c).closed).2 (loopTests (s.core c).pc (s.core c).closed).1).fetchCheck c := by
  have hk : (s.coreUpd c fun k => { k with half := none }).core c = (s.core c).closed := s.core_coreUpd_same hc _
  simp only [State.endBundle, hh, hf, hk]
  rw [coreUpd_coreUpd]
  rfl

/-- A taken branch ends the loops that it leaves. -/
theorem endBundle_branch_eq {s : State} {c b : Nat} {h : Half} (hc : c < s.eng.cores.length) (hh : (s.core c).half = some h) (hf : h.flow = .branch b) :
    s.endBundle c = (s.goOn c (leaveLoops b (s.core c).closed) b).fetchCheck c := by
  simp only [State.endBundle, hh, hf]
  rw [coreUpd_coreUpd, coreUpd_const s hc]
  rfl

theorem endBundle_endEf_eq {s : State} {c : Nat} {h : Half} (hh : (s.core c).half = some h) (hf : h.flow = .endEf) :
    s.endBundle c = (s.coreUpd c fun k => { k with half := none }).endProg c := by
  simp only [State.endBundle, hh, hf]

theorem fetchCheck_none {s : State} {c : Nat} (h : (s.core c).prog = none) : s.fetchCheck c = s := by
  rw [State.fetchCheck, h]

/-- The core goes on within its program. -/
theorem fetchCheck_goOn {s : State} {c m t : Nat} {k : Core} (hc16 : c < 16) (hc : c < s.eng.cores.length) (hk : k.prog = some m) (ht : t < 4096)
    (hlo : s.place (F.ENG_DESC_W2_ENTRY m) ≤ t) (hhi : t < s.place (F.ENG_DESC_W2_ENTRY m) + s.place (F.ENG_DESC_W2_IMEM_LEN m)) :
    (s.goOn c k t).fetchCheck c = s.goOn c k t := by
  have hcore := goOn_core s hc k t
  have hp (f : Fld) (hf : f.adr = A.ENG_DESC_W2 m) : (s.goOn c k t).place f = s.place f :=
    (goOn_moves s c k t).place (by rw [hf]; exact descW2_ne_coreStatus m hc16)
  refine State.fetchCheck_inside _ (m := m) (by rw [hcore]; exact hk) ?_ ?_
  · rw [hcore, hp _ rfl, Nat.mod_eq_of_lt ht]
    exact hlo
  · rw [hcore, hp _ rfl, hp _ rfl, Nat.mod_eq_of_lt ht]
    exact hhi

theorem length_of_shaped {s : State} {c : Nat} (h : Shaped s) (hc : c < s.cores) : c < s.eng.cores.length := by
  obtain ⟨-, -, -, -, -, -, -, h16, -⟩ := h
  rw [h16]
  exact Nat.lt_of_lt_of_le hc s.cores_le

/-! ### Loops (R274) -/

/-- The test of one loop after its last bundle. -/
def loopTest (pc i : Nat) (k : Core) : Option Nat × Core :=
  if k.regs.lv i = 0 ∨ (getAt k.loops i (0, 0)).2 ≠ pc then (none, k)
  else if 1 < k.regs.lv i then (some (getAt k.loops i (0, 0)).1, { k with regs := { k.regs with lc := setAt k.regs.lc i (k.regs.lv i - 1) } })
  else (none, { k with regs := { k.regs with lc := setAt k.regs.lc i 0 } })

/-- The loop tested first: the inner one. -/
def innerLoop (k : Core) : Nat := if (getAt k.loops 0 (0, 0)).1 < (getAt k.loops 1 (0, 0)).1 then 1 else 0

theorem loopTests_first {pc b : Nat} {k k' : Core} (h : loopTest pc (innerLoop k) k = (some b, k')) : loopTests pc k = (b, k') := by
  have he : loopTests pc k = match loopTest pc (innerLoop k) k with
      | (some t, k) => (t, k)
      | (none, k') => match loopTest pc (1 - innerLoop k) k' with
        | (some t, k) => (t, k)
        | (none, k) => (pc + 1, k) := rfl
  rw [he, h]

theorem loopTests_second {pc b : Nat} {k k' k'' : Core} (h : loopTest pc (innerLoop k) k = (none, k'))
    (h' : loopTest pc (1 - innerLoop k) k' = (some b, k'')) : loopTests pc k = (b, k'') := by
  have he : loopTests pc k = match loopTest pc (innerLoop k) k with
      | (some t, k) => (t, k)
      | (none, k') => match loopTest pc (1 - innerLoop k) k' with
        | (some t, k) => (t, k)
        | (none, k) => (pc + 1, k) := rfl
  rw [he, h]
  dsimp only
  rw [h']

/-- A running loop at its last bundle goes back to its first. -/
theorem loopTests_again {pc b n : Nat} {k : Core} (hn : n < 2) (hloop : getAt k.loops n (0, 0) = (b, pc)) (h1 : 1 < k.regs.lv n)
    (h0 : k.regs.lv (1 - n) = 0) : loopTests pc k = (b, { k with regs := { k.regs with lc := setAt k.regs.lc n (k.regs.lv n - 1) } }) := by
  have hagain : loopTest pc n k = (some b, { k with regs := { k.regs with lc := setAt k.regs.lc n (k.regs.lv n - 1) } }) := by
    rw [loopTest, hloop, if_neg (by simp; omega), if_pos h1]
  have hidle : loopTest pc (1 - n) k = (none, k) := if_pos (.inl h0)
  have hinner : innerLoop k < 2 := by unfold innerLoop; split <;> decide
  by_cases h : innerLoop k = n
  · exact loopTests_first (by rw [h]; exact hagain)
  · have h' : innerLoop k = 1 - n := by omega
    exact loopTests_second (by rw [h']; exact hidle) (by rw [h', show 1 - (1 - n) = n by omega]; exact hagain)

theorem loopTests_closed (pc : Nat) {k : Core} (h : k.regs.Loopless) : loopTests pc k.closed = (pc + 1, k.closed) := loopTests_of_loopless pc h

/-! ### nop, undefined words and predicates (R248, R249, R253) -/

theorem answers_nop (c : Nat) (sl : Slot) (s : State) (hr : Ready s c sl .always) : Answers (.nop c sl) s (Computes c id s) :=
  answers_pureOp (i := .nop c sl) (f := fun _ => []) rfl hr rfl rfl

theorem chg_trap_only (s : State) {c : Nat} (hc : c < 16) : Chg (· ∈ trapRegs c) (Parts []) NoMem s (s.trap c) := by
  obtain ⟨h, -⟩ := satOf_core hc
  refine Chg.event (Chg.refl.inc _ (by simp [trapRegs]) ?_ ?_) _ (by simp [trapRegs])
  · rw [h]; simp [trapRegs]
  · rw [h]; simp [trapRegs]

/-- A placement field of the descriptors reads as before where a core's counters alone moved. -/
theorem place_trap (s : State) {c : Nat} (hc : c < 16) {f : Fld} (hf : 0x81000 ≤ f.adr) : (s.trap c).place f = s.place f := by
  have hreg : (s.trap c).reg f.adr = s.reg f.adr := by
    refine (chg_trap_only s hc).reg _ ?_
    simp only [trapRegs, List.mem_cons, List.not_mem_nil, or_false, A.ENG_CORE_ACCESS_TRAPS, A.ENG_CORE_SAT, A.ENG_EVT]
    omega
  unfold State.place State.placeWord State.oldPlacement
  rw [trap_eng, State.rd_eq_of_reg hreg, (chg_trap_only s hc).variant]

/-- An undefined word fails its check (R248). -/
theorem answers_undefinedWord (s : State) (c : Nat) (sl : Slot) (hr : Ready s c sl .always) : Answers (.undefinedWord c sl) s (Traps c id s) := by
  have hc16 := lt_of_ready hr
  cases sl with
  | s => exact answers_slotS_traps (i := .undefinedWord c .s) (ws := [.sf sfTrap]) (fl := .seq) rfl hr rfl rfl
  | m =>
    have hlen := length_of_ready hr
    obtain ⟨-, hcores, -, -, hm⟩ := hr
    obtain ⟨h, hh, m, hprog, hsrc, hwrites, hflow, hl0, hl1, hpc, hlo, hhi⟩ := hm rfl
    rw [Option.mem_def] at hh hprog
    have hentry : A.ENG_DESC_W2 m = 0x81008 + 0x20 * m := rfl
    set u := s.fresh.trap c with hu
    have hulen : c < u.eng.cores.length := by rw [hu, trap_eng]; exact hlen
    have htrap : Chg (Listed (trapRegs c)) (Parts []) NoMem s u := Chg.refl.fresh.trans (chg_trap _ hc16)
    set v := u.closeBundle c h [.sf sfTrap] with hv
    have hcore : v.core c = { s.core c with regs := { (s.core c).regs with sf := (s.core c).regs.sf ||| 4 }, half := some h } := by
      rw [hv, closeBundle_core u hulen, hu, trap_core]
      rfl
    have hmoves : CoreMoves c u v := CoreMoves.coreUpd c u _
    have hvlen : c < v.eng.cores.length := by rw [hmoves.count]; exact hulen
    have hslot : s.fresh.slot c .m .always 1 (fun _ s => ([.sf sfTrap], .seq, s.trap c)) = v.endBundle c := by
      rw [slot_m_eff (s := s.fresh) hh rfl rfl, lasting_of_no_writes hwrites]
    have hloop : (v.core c).regs.Loopless := by
      rw [hcore]
      exact ⟨hl0, hl1⟩
    have hplace (f : Fld) (hf : f.adr = A.ENG_DESC_W2 m) : v.place f = s.place f := by
      rw [hmoves.place (by rw [hf]; exact descW2_ne_coreStatus m hc16)]
      exact place_trap s.fresh hc16 (by rw [hf, hentry]; omega)
    have hnext : v.NextInside c := by
      refine ⟨m, by rw [hcore]; exact hprog, ?_⟩
      rw [hcore, hplace _ rfl, hplace _ rfl]
      exact ⟨hpc, hlo, hhi⟩
    have hend := v.endBundle_seq hc16 hvlen (by rw [hcore]) hflow hloop hnext
    set w := (v.coreUpd c fun k => { k with half := none }).setPc c ((v.core c).pc + 1) with hw
    have hclosed : CoreMoves c v w := (CoreMoves.coreUpd c v _).trans (CoreMoves.setPc c _ _)
    have hcw : (w.core c).regs = (v.core c).regs := by
      rw [hw, State.core_setPc_same _ (by rw [(CoreMoves.coreUpd c v _).count]; exact hvlen), State.core_coreUpd_same v hvlen]
    refine answers_runIf (u := w) (i := .undefinedWord c .m) (decide (c < s.cores)) _ rfl (decide_eq_true hcores) (hslot.trans hend)
      (hclosed.variant.trans (hmoves.variant.trans htrap.variant)) ⟨?_, ?_, ?_, coreOnly_of htrap (hmoves.trans hclosed)⟩
    · rw [core_seal, hcw, hcore]
      rfl
    · have hne : A.ENG_CORE_ACCESS_TRAPS c ∉ summaries := notMem_summaries (by simp only [A.ENG_CORE_ACCESS_TRAPS]; omega)
      have hst : A.ENG_CORE_ACCESS_TRAPS c ≠ A.ENG_CORE_STATUS c := by simp only [A.ENG_CORE_ACCESS_TRAPS, A.ENG_CORE_STATUS]; omega
      rw [Counts, State.rd_seal _ _ hne, State.rd_eq_of_reg ((hmoves.trans hclosed).regs _ hst)]
      exact trap_counts s.fresh hc16
    · have hst : F.ENG_EVT_ACCESS_TRAP.adr ≠ A.ENG_CORE_STATUS c := by simp only [A.ENG_EVT, A.ENG_CORE_STATUS]; omega
      rw [State.on_seal _ _ (by decide), State.on_of_reg ((hmoves.trans hclosed).regs _ hst)]
      exact trap_event s.fresh c

/-- An instruction whose predicate does not hold does what nop does. -/
theorem slot_predicate_false {s : State} {c lat : Nat} {sl : Slot} {pr : Pred} {eff : Effect} (hp : predHolds (s.core c).regs pr = false)
    (hs : sl = .s → AtSlotS s c) (hm : sl = .m → AtSlotM s c) :
    s.slot c sl pr lat eff = s.slot c sl .always lat (pureOp fun _ => []) := by
  cases sl with
  | s =>
    have hend : s.endBundle c = s := by simp [State.endBundle, hs rfl]
    simp only [State.slot, hend, hp]
    rfl
  | m =>
    obtain ⟨h, hh, m, -, hsrc, -⟩ := hm rfl
    rw [Option.mem_def] at hh
    simp only [State.slot, hh, Option.getD_some, hsrc, hp]
    rfl

/-- An instruction of core c in a slot under a predicate. -/
def Slotted (c : Nat) (sl : Slot) (pr : Pred) (i : Instr) : Prop := ∃ lat eff, ∀ s, exec i s = s.acson c sl pr lat eff

/-- Under a predicate that does not hold an instruction only passes (R249). -/
theorem answers_predicate_false {s : State} {c : Nat} {sl : Slot} {pr : Pred} {i : Instr} (h : Slotted c sl pr i) (hshape : Shaped s)
    (hcores : c < s.cores) (hs : sl = .s → AtSlotS s c) (hm : sl = .m → AtSlotM s c) (hp : predHolds (s.core c).regs pr = false) :
    Answers i s (Computes c id s) := by
  obtain ⟨lat, eff, hx⟩ := h
  have hr : Ready s c sl .always := ⟨hshape, hcores, rfl, hs, hm⟩
  have hc16 := lt_of_ready hr
  have hlen := length_of_ready hr
  set u := s.fresh.slot c sl .always lat (pureOp fun _ => []) with hu
  have hcomp : CoreComputes c (s.core c).regs s.fresh u := by
    cases sl with
    | s => exact slot_s_pureOp s.fresh lat (fun _ => []) hlen rfl (hs rfl)
    | m => exact slot_m_pureOp s.fresh lat (fun _ => []) hc16 hlen rfl (hm rfl) rfl
  have hmoves : CoreMoves c s.fresh u := hcomp.toCoreMoves
  refine answers_runIf (u := u) _ _ (hx s) (decide_eq_true hcores) (slot_predicate_false (s := s.fresh) hp hs hm) hmoves.variant
    ⟨?_, ?_, ?_, coreOnly_of Chg.refl.fresh hmoves⟩
  · rw [core_seal, hcomp.result]
    rfl
  · rw [core_seal, hcomp.prog]
    rfl
  · rw [core_seal, hcomp.xfers]
    rfl

/-! ### Every defined word's instruction is slotted (R249) -/

/-- What an option holds satisfies P. -/
def Holds (P : Instr → Prop) (o : Option Instr) : Prop := ∀ i, o = some i → P i

theorem holds_none (P : Instr → Prop) : Holds P none := fun _ h => absurd h (by simp)
theorem holds_some {P : Instr → Prop} {i : Instr} (h : P i) : Holds P (some i) := fun _ hj => Option.some.inj hj ▸ h
theorem holds_ite {P : Instr → Prop} {p : Prop} [Decidable p] {o o' : Option Instr} (h : Holds P o) (h' : Holds P o') : Holds P (if p then o else o') := by
  split
  · exact h
  · exact h'
theorem holds_bind {P : Instr → Prop} {α : Type} {o : Option α} {f : α → Option Instr} (h : ∀ a, Holds P (f a)) : Holds P (o >>= f) := by
  cases o with
  | none => exact holds_none P
  | some a => exact h a

theorem holds_or {P : Instr → Prop} {o o' : Option Instr} (h : Holds P o) (h' : Holds P o') : Holds P (o.or o') := by
  cases o with
  | none => exact h'
  | some i => exact h

/-- The decoder's tables, followed branch by branch: each instruction they name is one of its slot and predicate. -/
theorem slotted_decOp (c op w : Nat) (sl : Slot) (x : Fields) : Holds (Slotted c sl x.pr) (decOp c sl op w x) := by
  have hboth : Holds (Slotted c sl x.pr) (decBoth c sl op x) := by
    unfold decBoth dec01 dec02 dec06 dec08 dec0F
    repeat' first | exact holds_none _ | exact holds_some ⟨_, _, fun _ => rfl⟩ | refine holds_ite ?_ ?_
  refine holds_or hboth ?_
  cases sl with
  | s =>
    unfold decOwn decS decMem dec03 dec04 dec05 dec09 dec0A dec0B dec0C dec0D dec0E dec14 dec15 dec16 dec17 dec18 dec19 dec1A dec1B dec20 dec21
    repeat' first
      | exact holds_none _
      | exact holds_some ⟨_, _, fun _ => rfl⟩
      | refine holds_ite ?_ ?_
      | refine holds_bind fun _ => ?_
  | m =>
    unfold decOwn decM dec24 dec25 dec26 dec27 dec28 dec29
    repeat' first
      | exact holds_none _
      | exact holds_some ⟨_, _, fun _ => rfl⟩
      | refine holds_ite ?_ ?_
      | refine holds_bind fun _ => ?_

/-- A defined word under a predicate that does not hold (R249). -/
theorem answers_decoded_false {s : State} {c w : Nat} {sl : Slot} {i : Instr} {x : Fields} (hshape : Shaped s) (hcores : c < s.cores)
    (hs : match sl with
      | .s => AtSlotS s c
      | .m => AtSlotM s c) (hop : w / 2 ^ 26 % 64 < 0x38) (hw : w ≠ 0) (hd : decodeWord c sl w = some i) (hx : fieldsOf w = some x)
    (hp : predHolds (s.core c).regs x.pr = false) : Answers i s (Computes c id s) := by
  rw [decodeWord_eq_decOp c sl hw hop, hx, Option.bind_some] at hd
  refine answers_predicate_false (slotted_decOp c _ w sl x i hd) hshape hcores ?_ ?_ hp
  · rintro rfl
    exact hs
  · rintro rfl
    exact hs

/-! ### Two writes to one register (R277) -/

section
variable {s : State} {c : Nat} {h : Half}

/-- A nop or a multiply in slot M, from the registers as the bundle began. -/
theorem slot_m_pure (hh : (s.core c).half = some h) (lat : Nat) (f : Regs → List Wr) :
    s.slot c .m .always lat (pureOp f) = (s.closeBundle c h (h.lasting lat (f h.src))).endBundle c :=
  slot_m_eff hh rfl rfl

/-- What core c is as its bundle in slot M completes. -/
theorem closed_core (hlen : c < s.eng.cores.length) (ws : List Wr) :
    ((s.closeBundle c h ws).core c).closed = { s.core c with regs := applyAll ws (s.core c).regs, half := none } := by
  rw [closeBundle_core s hlen]
  rfl

/-- A core that runs no program goes straight on. -/
theorem answers_mulI_straight {d a b : D} (hshape : Shaped s) (hcores : c < s.cores) (hh : (s.core c).half = some h) (hprog : (s.core c).prog = none)
    (hflow : h.flow = .seq) (h0 : (s.core c).regs.lv 0 = 0) (h1 : (s.core c).regs.lv 1 = 0) {r : Regs}
    (hr : applyAll (h.lasting 3 [.d d (h.src.dv a * h.src.dv b)]) (s.core c).regs = r) (hlc : r.lc = (s.core c).regs.lc) :
    Answers (.mulI c .always d a b) s fun t => (t.core c).regs = r := by
  have hlen : c < s.eng.cores.length := length_of_shaped hshape hcores
  set ws := h.lasting 3 [.d d (h.src.dv a * h.src.dv b)] with hws
  set v := s.fresh.closeBundle c h ws with hv
  have hcv : v.core c = { s.core c with regs := r, half := some h } := by
    rw [hv, closeBundle_core s.fresh hlen, ← hr]
    rfl
  have hmoves : CoreMoves c s.fresh v := CoreMoves.coreUpd c _ _
  have hvlen : c < v.eng.cores.length := by rw [hmoves.count]; exact hlen
  have hloop : (v.core c).regs.Loopless := by
    rw [hcv]
    unfold Regs.Loopless Regs.lv
    rw [hlc]
    exact ⟨h0, h1⟩
  set u := v.goOn c (v.core c).closed ((v.core c).pc + 1) with hu
  have hgo : CoreMoves c v u := goOn_moves v c _ _
  have hcu : u.core c = { (v.core c).closed with pc := ((v.core c).pc + 1) % 4096 } := goOn_core v hvlen _ _
  have heff : s.fresh.slot c .m .always 3 (pureOp fun r => [.d d (r.dv a * r.dv b)]) = u := by
    rw [slot_m_pure (s := s.fresh) hh, ← hws, ← hv, endBundle_seq_eq hvlen (by rw [hcv]) hflow, loopTests_closed _ hloop,
      fetchCheck_none (by rw [← hu, hcu]; show (v.core c).prog = none; rw [hcv]; exact hprog)]
  refine answers_runIf (u := u) (i := .mulI c .always d a b) (decide (c < s.cores)) _ rfl (decide_eq_true hcores) heff
    (hgo.variant.trans hmoves.variant) ?_
  rw [core_seal, hcu]
  show (v.core c).regs = r
  rw [hcv]

end

section
variable {s : State} {c : Nat} {h : Half} {d a b : D} {v : Word}

/-- Of two writes to one register the longer one of slot S stands (R277). -/
theorem answers_mulI_shorter (hshape : Shaped s) (hcores : c < s.cores) (hh : (s.core c).half = some h) (hw : h.writes = [.d d.val v])
    (hlat : 3 < h.lat) (hprog : (s.core c).prog = none) (hflow : h.flow = .seq) (h0 : (s.core c).regs.lv 0 = 0) (h1 : (s.core c).regs.lv 1 = 0) :
    Answers (.mulI c .always d a b) s fun t => (t.core c).regs = (s.core c).regs := by
  refine answers_mulI_straight hshape hcores hh hprog hflow h0 h1 ?_ rfl
  have hb : Nat.blt 3 h.lat = true := Nat.blt_eq.mpr hlat
  simp [Half.lasting, hw, hb, sameReg, applyAll]

theorem answers_mulI_longer (hshape : Shaped s) (hcores : c < s.cores) (hh : (s.core c).half = some h) (hlat : h.lat ≤ 3)
    (hprog : (s.core c).prog = none) (hflow : h.flow = .seq) (h0 : (s.core c).regs.lv 0 = 0) (h1 : (s.core c).regs.lv 1 = 0) :
    Answers (.mulI c .always d a b) s fun t => (t.core c).regs = toD d (fun _ => h.src.dv a * h.src.dv b) (s.core c).regs := by
  refine answers_mulI_straight hshape hcores hh hprog hflow h0 h1 ?_ rfl
  have hb : Nat.blt 3 h.lat = false := by
    rw [← Bool.not_eq_true, Nat.blt_eq]
    omega
  simp [Half.lasting, hb, applyAll, Wr.apply, toD]

end

/-! ### Branches, ends and loops in slot S (R273 to R275) -/

section
variable {s : State} {c m : Nat} {pr : Pred}

/-- Where an instruction of slot S alone changed nothing but where the bundle goes on. -/
theorem answers_slotS_flow {i : Instr} {lat : Nat} {eff : Effect} {fl : Flow} (hx : exec i s = s.acson c .s pr lat eff) (hr : Ready s c .s pr)
    (he : eff (s.core c).regs s.fresh = ([], fl, s.fresh)) :
    Answers i s fun t => (t.core c).half = some ⟨(s.core c).regs, [], lat, fl⟩ ∧ Computes c id s t := by
  have hc := openBundle_core s.fresh (length_of_ready hr) ⟨(s.core c).regs, [], lat, fl⟩
  refine answers_slotS hx hr he rfl ⟨?_, ?_, ?_, ?_, coreOnly_of Chg.refl.fresh (openBundle_moves _ _ _)⟩
  all_goals rw [core_seal, hc]
  all_goals rfl

/-- A branch's effect: within the program it goes on at its target, beyond it the check fails. -/
def brEff (c : Nat) (off : BitVec 13) : Effect := fun _ s =>
  let t : Int := (s.core c).pc + off.toInt
  let ok := match (s.core c).prog with
    | none => false
    | some m =>
      let e := s.place (F.ENG_DESC_W2_ENTRY m)
      decide ((e : Int) ≤ t) && decide (t < (e + s.place (F.ENG_DESC_W2_IMEM_LEN m) : Nat))
  if ok then ([], .branch t.toNat, s) else ([.sf sfTrap], .seq, s.trap c)

theorem exec_br (off : BitVec 13) (s : State) : exec (.br c pr off) s = s.acson c .s pr 1 (brEff c off) := rfl

theorem brEff_taken {off : BitVec 13} {r : Regs} (hm : (s.core c).prog = some m)
    (hlo : (s.place (F.ENG_DESC_W2_ENTRY m) : Int) ≤ (s.core c).pc + off.toInt)
    (hhi : ((s.core c).pc + off.toInt : Int) < (s.place (F.ENG_DESC_W2_ENTRY m) + s.place (F.ENG_DESC_W2_IMEM_LEN m) : Nat)) :
    brEff c off r s = ([], .branch ((s.core c).pc + off.toInt).toNat, s) := by
  rw [brEff, hm]
  have hb : (decide ((s.place (F.ENG_DESC_W2_ENTRY m) : Int) ≤ (s.core c).pc + off.toInt) &&
      decide ((s.core c).pc + off.toInt < (s.place (F.ENG_DESC_W2_ENTRY m) + s.place (F.ENG_DESC_W2_IMEM_LEN m) : Nat))) = true := by
    rw [decide_eq_true hlo, decide_eq_true hhi, Bool.and_self]
  exact if_pos hb

theorem brEff_trap {off : BitVec 13} {r : Regs} (hm : (s.core c).prog = some m)
    (h : ((s.core c).pc + off.toInt : Int) < s.place (F.ENG_DESC_W2_ENTRY m) ∨
      ((s.place (F.ENG_DESC_W2_ENTRY m) + s.place (F.ENG_DESC_W2_IMEM_LEN m) : Nat) : Int) ≤ (s.core c).pc + off.toInt) :
    brEff c off r s = ([.sf sfTrap], .seq, s.trap c) := by
  have hb : (decide ((s.place (F.ENG_DESC_W2_ENTRY m) : Int) ≤ (s.core c).pc + off.toInt) &&
      decide ((s.core c).pc + off.toInt < (s.place (F.ENG_DESC_W2_ENTRY m) + s.place (F.ENG_DESC_W2_IMEM_LEN m) : Nat))) = false := by
    rw [← Bool.not_eq_true, Bool.and_eq_true, decide_eq_true_eq, decide_eq_true_eq]
    omega
  rw [brEff, hm]
  exact if_neg fun h => Bool.false_ne_true (hb.symm.trans h)

theorem answers_br_taken {off : BitVec 13} (hr : Ready s c .s pr) (hm : (s.core c).prog = some m)
    (hlo : (s.place (F.ENG_DESC_W2_ENTRY m) : Int) ≤ (s.core c).pc + off.toInt)
    (hhi : ((s.core c).pc + off.toInt : Int) < (s.place (F.ENG_DESC_W2_ENTRY m) + s.place (F.ENG_DESC_W2_IMEM_LEN m) : Nat)) :
    Answers (.br c pr off) s fun t =>
      (t.core c).half = some ⟨(s.core c).regs, [], 1, .branch ((s.core c).pc + off.toInt).toNat⟩ ∧ Computes c id s t :=
  answers_slotS_flow (exec_br off s) hr (brEff_taken (s := s.fresh) hm hlo hhi)

theorem answers_br_trap {off : BitVec 13} (hr : Ready s c .s pr) (hm : (s.core c).prog = some m)
    (h : ((s.core c).pc + off.toInt : Int) < s.place (F.ENG_DESC_W2_ENTRY m) ∨
      ((s.place (F.ENG_DESC_W2_ENTRY m) + s.place (F.ENG_DESC_W2_IMEM_LEN m) : Nat) : Int) ≤ (s.core c).pc + off.toInt) :
    Answers (.br c pr off) s (Traps c id s) :=
  answers_slotS_traps (exec_br off s) hr (brEff_trap (s := s.fresh) hm h) rfl

theorem answers_endEf (hr : Ready s c .s pr) :
    Answers (.endEf c pr) s fun t => (t.core c).half = some ⟨(s.core c).regs, [], 1, .endEf⟩ ∧ Computes c id s t :=
  answers_slotS_flow (i := .endEf c pr) rfl hr rfl

/-- A loop starts: its counter and its body are set (R274). -/
theorem answers_loop {i : Instr} {n : Fin 2} {count : Nat} {body : Fin 256} {eff : Effect} (hx : exec i s = s.acson c .s .always 1 eff)
    (hr : Ready s c .s .always) (he : eff (s.core c).regs s.fresh = loopEff c n count body (s.core c).regs s.fresh) :
    Answers i s fun t =>
      (t.core c).regs = { (s.core c).regs with lc := setAt (s.core c).regs.lc n.val count } ∧
      (t.core c).loops = setAt (s.core c).loops n.val ((s.core c).pc + 1, (s.core c).pc + body.val) ∧
      (count = 0 → (t.core c).half.map (fun h => h.flow) = some (.skip ((s.core c).pc + body.val + 1))) ∧ CoreOnly c [] s t := by
  have hlen := length_of_ready hr
  set u := s.fresh.coreUpd c (fun k => { k with loops := setAt k.loops n.val ((s.core c).pc + 1, (s.core c).pc + body.val) }) with hu
  set fl : Flow := if count = 0 then .skip ((s.core c).pc + body.val + 1) else .seq with hfl
  have hmoves : CoreMoves c s.fresh u := CoreMoves.coreUpd c _ _
  have hcu : u.core c = { s.core c with loops := setAt (s.core c).loops n.val ((s.core c).pc + 1, (s.core c).pc + body.val) } :=
    s.fresh.core_coreUpd_same hlen _
  have hc := openBundle_core u (c := c) (by rw [hmoves.count]; exact hlen) ⟨(s.core c).regs, [.lc n.val count], 1, fl⟩
  refine answers_slotS (u := u) (ws := [.lc n.val count]) (fl := fl) hx hr he rfl ⟨?_, ?_, fun h0 => ?_, coreOnly_of Chg.refl.fresh (hmoves.trans (openBundle_moves _ _ _))⟩
  · rw [core_seal, hc, hcu]
    rfl
  · rw [core_seal, hc, hcu]
  · rw [core_seal, hc, Option.map_some, hfl, if_pos h0]

theorem answers_loopI {n : Fin 2} {count : Fin 4096} {body : Fin 256} (hr : Ready s c .s .always) (hb : body.val ≠ 0) :
    Answers (.loopI c n count body) s fun t =>
      (t.core c).regs = { (s.core c).regs with
        lc := setAt (s.core c).regs.lc n.val (if count.val = 0 then 4096 else count.val) } ∧
      (t.core c).loops = setAt (s.core c).loops n.val ((s.core c).pc + 1, (s.core c).pc + body.val) ∧ CoreOnly c [] s t := by
  have hx : exec (.loopI c n count body) s = s.acson c .s .always 1 (loopEff c n (if count.val = 0 then 4096 else count.val) body) := if_neg hb
  obtain ⟨t, ht, h1, h2, -, h4⟩ := answers_loop hx hr rfl
  exact ⟨t, ht, h1, h2, h4⟩

theorem answers_loopR {n : Fin 2} {a : D} {top : Fin 4096} {body : Fin 256} (hr : Ready s c .s .always) (hb : body.val ≠ 0) :
    Answers (.loopR c n a top body) s fun t =>
      (t.core c).regs = { (s.core c).regs with
        lc := setAt (s.core c).regs.lc n.val (min ((s.core c).regs.dv a).toInt.toNat (if top.val = 0 then 4096 else top.val)) } ∧
      (t.core c).loops = setAt (s.core c).loops n.val ((s.core c).pc + 1, (s.core c).pc + body.val) ∧
      (((s.core c).regs.dv a).toInt ≤ 0 →
        (t.core c).half.map (fun h => h.flow) = some (.skip ((s.core c).pc + body.val + 1))) ∧ CoreOnly c [] s t := by
  have hx : exec (.loopR c n a top body) s = s.acson c .s .always 1 fun r s =>
      loopEff c n (min (r.dv a).toInt.toNat (if top.val = 0 then 4096 else top.val)) body r s := if_neg hb
  obtain ⟨t, ht, h1, h2, h3, h4⟩ := answers_loop hx hr rfl
  exact ⟨t, ht, h1, h2, fun h => h3 (by rw [Int.toNat_of_nonpos h, Nat.zero_min]), h4⟩

end

/-! ### The bundle completed in slot M (R273 to R275, R280, R281) -/

section
variable {s : State} {c m : Nat} {h : Half}

/-- A nop in slot M: the bundle completes as slot S left it. -/
theorem exec_nop_m (s : State) (c : Nat) : exec (.nop c .m) s = s.acson c .m .always 1 (pureOp fun _ => []) := rfl

/-- The module with core c's bundle about to complete and nothing written. -/
theorem nop_core (hlen : c < s.eng.cores.length) (hh : (s.core c).half = some h) : (s.fresh.closeBundle c h []).core c = s.core c := by
  rw [closeBundle_core s.fresh hlen]
  show ({ s.core c with regs := (s.core c).regs, half := some h } : Core) = s.core c
  rw [← hh]

theorem nop_eq (hlen : c < s.eng.cores.length) (hh : (s.core c).half = some h) : s.fresh.closeBundle c h [] = s.fresh := by
  have hk : s.fresh.closeBundle c h [] = s.fresh.coreUpd c fun _ => s.fresh.core c := by
    rw [State.closeBundle, coreUpd_const s.fresh hlen]
    congr 1
    funext _
    show ({ s.core c with regs := (s.core c).regs, half := some h } : Core) = s.core c
    rw [← hh]
  rw [hk]
  exact s.fresh.coreUpd_core_self hlen

theorem answers_nop_m (hcores : c < s.cores) (hlen : c < s.eng.cores.length) (hh : (s.core c).half = some h) {u : State} {P : State → Prop}
    (hu : s.fresh.endBundle c = u) (hv : u.variant = s.variant) (hP : P (s.seal u)) : Answers (.nop c .m) s P := by
  have heff : s.fresh.slot c .m .always 1 (pureOp fun _ => []) = u := by
    rw [slot_m_pure (s := s.fresh) hh, lasting_nil, nop_eq hlen hh, hu]
  exact answers_runIf (decide (c < s.cores)) _ (exec_nop_m s c) (decide_eq_true hcores) heff hv hP

/-- A taken branch (R273). -/
theorem answers_branch {b : Nat} (hshape : Shaped s) (hcores : c < s.cores) (hh : (s.core c).half = some h) (hf : h.flow = .branch b) (hb : b < 4096)
    (hm : (s.core c).prog = some m) (hlo : s.place (F.ENG_DESC_W2_ENTRY m) ≤ b)
    (hhi : b < s.place (F.ENG_DESC_W2_ENTRY m) + s.place (F.ENG_DESC_W2_IMEM_LEN m)) :
    Answers (.nop c .m) s fun t =>
      GoesTo c b t ∧ (t.core c).prog = some m ∧ CoreOnly c [] s t ∧
      (∀ n < 2, (t.core c).regs.lv n =
        if (getAt (s.core c).loops n (0, 0)).1 ≤ b ∧ b ≤ (getAt (s.core c).loops n (0, 0)).2 then (s.core c).regs.lv n else 0) := by
  have hlen := length_of_shaped hshape hcores
  have hc16 : c < 16 := Nat.lt_of_lt_of_le hcores s.cores_le
  set k := leaveLoops b (s.core c).closed with hk
  set u := s.fresh.goOn c k b with hu
  have hgo : CoreMoves c s.fresh u := goOn_moves _ _ _ _
  have hcu : u.core c = { k with pc := b % 4096 } := goOn_core s.fresh hlen k b
  have hend : s.fresh.endBundle c = u := by
    rw [endBundle_branch_eq (s := s.fresh) hlen hh hf]
    exact fetchCheck_goOn (s := s.fresh) hc16 hlen hm hb hlo hhi
  refine answers_nop_m hcores hlen hh hend hgo.variant ⟨⟨?_, ?_⟩, ?_, coreOnly_of Chg.refl.fresh hgo, fun n hn => ?_⟩
  · rw [core_seal, hcu]
    rfl
  · rw [core_seal, hcu]
    exact Nat.mod_eq_of_lt hb
  · rw [core_seal, hcu]
    exact hm
  · rw [core_seal, hcu]
    interval_cases n <;> rfl

/-- A running loop at its last bundle goes back to its first (R274). -/
theorem answers_loop_again {n b : Nat} (hshape : Shaped s) (hcores : c < s.cores) (hh : (s.core c).half = some h) (hf : h.flow = .seq) (hn : n < 2)
    (h1 : 1 < (s.core c).regs.lv n) (h0 : (s.core c).regs.lv (1 - n) = 0) (hlc : (s.core c).regs.lc.length = 2)
    (hl : getAt (s.core c).loops n (0, 0) = (b, (s.core c).pc)) (hb : b < 4096) (hm : (s.core c).prog = some m)
    (hlo : s.place (F.ENG_DESC_W2_ENTRY m) ≤ b) (hhi : b < s.place (F.ENG_DESC_W2_ENTRY m) + s.place (F.ENG_DESC_W2_IMEM_LEN m)) :
    Answers (.nop c .m) s fun t =>
      GoesTo c b t ∧ (t.core c).regs.lv n = (s.core c).regs.lv n - 1 ∧ CoreOnly c [] s t := by
  have hlen := length_of_shaped hshape hcores
  have hc16 : c < 16 := Nat.lt_of_lt_of_le hcores s.cores_le
  set k : Core := { (s.core c).closed with regs := { (s.core c).regs with lc := setAt (s.core c).regs.lc n ((s.core c).regs.lv n - 1) } } with hk
  set u := s.fresh.goOn c k b with hu
  have hgo : CoreMoves c s.fresh u := goOn_moves _ _ _ _
  have hcu : u.core c = { k with pc := b % 4096 } := goOn_core s.fresh hlen k b
  have hend : s.fresh.endBundle c = u := by
    have ht : loopTests (s.fresh.core c).pc (s.fresh.core c).closed = (b, k) := loopTests_again (k := (s.fresh.core c).closed) hn hl h1 h0
    rw [endBundle_seq_eq (s := s.fresh) hlen hh hf, ht]
    exact fetchCheck_goOn (s := s.fresh) hc16 hlen hm hb hlo hhi
  refine answers_nop_m hcores hlen hh hend hgo.variant ⟨⟨?_, ?_⟩, ?_, coreOnly_of Chg.refl.fresh hgo⟩
  · rw [core_seal, hcu]
    rfl
  · rw [core_seal, hcu]
    exact Nat.mod_eq_of_lt hb
  · rw [core_seal, hcu]
    show getAt (setAt (s.core c).regs.lc n _) n 0 = _
    simp [getAt, setAt, hlc, hn]

/-- What a program's end does where it is its core's last of the phase. -/
def State.lastEnded (s : State) (c m : Nat) : State :=
  (s.updEng (fun e => { e with comp := e.comp.map (fun k => { k with ended := m :: k.ended }) })).coreUpd c
    fun k => { k with prog := none, half := none, loops := [(0, 0), (0, 0)] }

theorem place_ended (s : State) (m : Nat) (f : Fld) :
    (s.updEng (fun e => { e with comp := e.comp.map (fun k => { k with ended := m :: k.ended }) })).place f = s.place f := by
  have hc : (s.updEng (fun e => { e with comp := e.comp.map (fun k => { k with ended := m :: k.ended }) })).eng.comp =
      s.eng.comp.map (fun k => { k with ended := m :: k.ended }) := rfl
  unfold State.place State.placeWord
  rw [hc]
  cases s.eng.comp <;> rfl

theorem progsOf_of_place {t : State} (ht : ∀ f : Fld, 0x81000 ≤ f.adr → t.place f = s.place f) (phase : Nat) : t.progsOf c phase = s.progsOf c phase := by
  have hw (k : Nat) : 0x81000 ≤ A.ENG_DESC_W0 k := by simp only [A.ENG_DESC_W0]; omega
  unfold State.progsOf State.progOn
  refine List.filter_congr fun k _ => ?_
  rw [ht (F.ENG_DESC_W0_PLACED k) (hw k), ht (F.ENG_DESC_W0_CORE k) (hw k), ht (F.ENG_DESC_W0_PHASE k) (hw k)]

/-- The last program of its core in a phase ends (R280). -/
theorem endProg_last (hm : (s.core c).prog = some m) (hx : (s.core c).xfers = []) (hs : s.stopped c = false)
    (hp : (s.progsOf c (s.place (F.ENG_DESC_W0_PHASE m))).filter (fun n => Nat.blt m n) = []) : s.endProg c = s.lastEnded c m := by
  have hall : s.xferAll c = s := by rw [State.xferAll, hx]; rfl
  unfold State.endProg
  rw [hall]
  dsimp only
  rw [hm]
  dsimp only
  rw [hs, if_neg Bool.false_ne_true, place_ended, progsOf_of_place (s := s) (fun f _ => place_ended s m f), hp]
  rfl

theorem lastEnded_core (hlen : c < s.eng.cores.length) (m : Nat) :
    ((s.lastEnded c m).core c).prog = none ∧ ((s.lastEnded c m).core c).half = none := by
  rw [State.lastEnded, State.core_coreUpd_same _ (by exact hlen)]
  exact ⟨rfl, rfl⟩

theorem CoreMoves.placeFrom {u : State} (hu : CoreMoves c s u) (hc16 : c < 16) {f : Fld} (hf : 0x81000 ≤ f.adr) : u.place f = s.place f :=
  hu.place (by simp only [A.ENG_CORE_STATUS]; omega)

theorem chg_lastEnded (s : State) (c m : Nat) : Chg (fun _ => False) (Parts [.eng]) NoMem s (s.lastEnded c m) := (Chg.refl.eng _ (by simp)).eng _ (by simp)

/-- The program ends where end.ef is its bundle's slot S (R275, R280). -/
theorem answers_program_end (hshape : Shaped s) (hcores : c < s.cores) (hh : (s.core c).half = some h) (hf : h.flow = .endEf)
    (hm : (s.core c).prog = some m) (hx : (s.core c).xfers = []) (hs : s.stopped c = false)
    (hp : (s.progsOf c (s.place (F.ENG_DESC_W0_PHASE m))).filter (fun n => Nat.blt m n) = []) :
    Answers (.nop c .m) s fun t => (t.core c).prog = none ∧ (t.core c).half = none ∧ MemKept s t := by
  have hlen := length_of_shaped hshape hcores
  have hc16 : c < 16 := Nat.lt_of_lt_of_le hcores s.cores_le
  set v := s.fresh.coreUpd c (fun k => { k with half := none }) with hv
  have hmoves : CoreMoves c s.fresh v := CoreMoves.coreUpd c _ _
  have hcv : v.core c = { s.core c with half := none } := s.fresh.core_coreUpd_same hlen _
  have hvlen : c < v.eng.cores.length := by rw [hmoves.count]; exact hlen
  have hplace (f : Fld) (hf : 0x81000 ≤ f.adr) : v.place f = s.place f := hmoves.placeFrom hc16 hf
  have hend : s.fresh.endBundle c = v.lastEnded c m := by
    rw [endBundle_endEf_eq (s := s.fresh) hh hf]
    refine endProg_last (by rw [hcv]; exact hm) (by rw [hcv]; exact hx) hs ?_
    rw [hplace (F.ENG_DESC_W0_PHASE m) (by simp only [A.ENG_DESC_W0]; omega), progsOf_of_place (s := s) hplace]
    exact hp
  have hall : Chg AnyReg AnyPart NoMem s (v.lastEnded c m) := (Chg.refl.fresh.eng _ trivial).trans (chg_lastEnded v c m).anywhere
  obtain ⟨h1, h2⟩ := lastEnded_core hvlen m
  exact answers_nop_m hcores hlen hh hend hall.variant ⟨by rw [core_seal, h1], by rw [core_seal, h2], hall.memKept⟩

theorem fetchCheck_beyond (hm : (s.core c).prog = some m)
    (h : s.place (F.ENG_DESC_W2_ENTRY m) + s.place (F.ENG_DESC_W2_IMEM_LEN m) ≤ (s.core c).pc) : s.fetchCheck c = (s.trap c).endProg c := by
  rw [State.fetchCheck, hm]
  dsimp only
  rw [if_neg (by omega)]

/-- A fetch beyond the program's last bundle counts and ends the program (R275). -/
theorem answers_program_overrun (hshape : Shaped s) (hcores : c < s.cores) (hh : (s.core c).half = some h) (hf : h.flow = .seq)
    (h0 : (s.core c).regs.lv 0 = 0) (h1 : (s.core c).regs.lv 1 = 0) (hm : (s.core c).prog = some m) (hx : (s.core c).xfers = [])
    (hs : s.stopped c = false) (hp : (s.progsOf c (s.place (F.ENG_DESC_W0_PHASE m))).filter (fun n => Nat.blt m n) = [])
    (hpc : (s.core c).pc + 1 = s.place (F.ENG_DESC_W2_ENTRY m) + s.place (F.ENG_DESC_W2_IMEM_LEN m)) (hlt : (s.core c).pc + 1 < 4096) :
    Answers (.nop c .m) s fun t =>
      (t.core c).prog = none ∧ Counts s t (A.ENG_CORE_ACCESS_TRAPS c) 1 ∧ t.on F.ENG_EVT_ACCESS_TRAP = true ∧ MemKept s t := by
  have hlen := length_of_shaped hshape hcores
  have hc16 : c < 16 := Nat.lt_of_lt_of_le hcores s.cores_le
  set w := s.fresh.goOn c (s.core c).closed ((s.core c).pc + 1) with hw
  have hgo : CoreMoves c s.fresh w := goOn_moves _ _ _ _
  have hcw : w.core c = { (s.core c).closed with pc := ((s.core c).pc + 1) % 4096 } := goOn_core s.fresh hlen _ _
  have hwlen : c < w.eng.cores.length := by rw [hgo.count]; exact hlen
  have hentry : 0x81000 ≤ A.ENG_DESC_W2 m := by simp only [A.ENG_DESC_W2]; omega
  have hwp (f : Fld) (hf : 0x81000 ≤ f.adr) : w.place f = s.place f := hgo.placeFrom hc16 hf
  set x := w.trap c with hx'
  have hcx : x.core c = w.core c := trap_core w c c
  have htrap := chg_trap_only w hc16
  have hxp (f : Fld) (hf : 0x81000 ≤ f.adr) : x.place f = s.place f := (place_trap w hc16 hf).trans (hwp f hf)
  have hnst : A.ENG_CORE_STATUS c ∉ trapRegs c := by
    simp only [trapRegs, List.mem_cons, List.not_mem_nil, or_false, A.ENG_CORE_STATUS, A.ENG_CORE_ACCESS_TRAPS, A.ENG_CORE_SAT, A.ENG_EVT]
    omega
  have hstop : x.stopped c = false := by
    have h1 : x.coreState c = w.coreState c := htrap.fld hnst
    have h2 : w.coreState c = s.coreState c := State.fld_keep_free _ (by simp [Fld.free, Fld.ok, Fld.apart]) _
    rw [State.stopped, h1, h2]
    exact hs
  have hend : s.fresh.endBundle c = x.lastEnded c m := by
    have hloop : loopTests (s.fresh.core c).pc (s.fresh.core c).closed = ((s.core c).pc + 1, (s.core c).closed) := loopTests_closed _ ⟨h0, h1⟩
    rw [endBundle_seq_eq (s := s.fresh) hlen hh hf, hloop]
    show w.fetchCheck c = _
    rw [fetchCheck_beyond (m := m) (by rw [hcw]; exact hm)
      (by rw [hwp _ hentry, hwp _ hentry, hcw, ← hpc]; exact (Nat.mod_eq_of_lt hlt).ge)]
    refine endProg_last (by rw [← hx', hcx, hcw]; exact hm) (by rw [← hx', hcx, hcw]; exact hx) hstop ?_
    rw [← hx', hxp (F.ENG_DESC_W0_PHASE m) (by simp only [A.ENG_DESC_W0]; omega), progsOf_of_place (s := s) hxp]
    exact hp
  have hlast := chg_lastEnded x c m
  have hall : Chg AnyReg AnyPart NoMem s (x.lastEnded c m) := by
    have h1 : Chg AnyReg AnyPart NoMem s w := ((Chg.refl.fresh.eng _ trivial).eng _ trivial).keep _ _ trivial
    exact (h1.trans htrap.anywhere).trans hlast.anywhere
  obtain ⟨h1, -⟩ := lastEnded_core (s := x) (c := c) (by rw [hx', trap_eng]; exact hwlen) m
  have hnc : A.ENG_CORE_ACCESS_TRAPS c ≠ A.ENG_CORE_STATUS c := by simp only [A.ENG_CORE_ACCESS_TRAPS, A.ENG_CORE_STATUS]; omega
  refine answers_nop_m hcores hlen hh hend hall.variant ⟨by rw [core_seal, h1], ?_, ?_, hall.memKept⟩
  · have hne : A.ENG_CORE_ACCESS_TRAPS c ∉ summaries := notMem_summaries (by simp only [A.ENG_CORE_ACCESS_TRAPS]; omega)
    rw [Counts, State.rd_seal _ _ hne, State.rd_eq_of_reg (hlast.reg _ id), trap_counts w hc16, State.rd_eq_of_reg (hgo.regs _ hnc)]
    rfl
  · rw [State.on_seal _ _ (by decide), hlast.on id]
    exact trap_event w c

end

/-- Settles O40, clause by clause: nops, undefined words and predicates, writes that meet, branches, ends and loops. -/
theorem programFlow : Obligations.ProgramFlow := by
  refine ⟨fun c sl => ⟨means_nop c sl, answers_nop c sl⟩, fun s c sl => answers_undefinedWord s c sl, ?_, ?_, ?_, ?_, ?_, ?_, ?_, ?_, ?_, ?_, ?_, ?_⟩
  · exact fun _ _ _ _ _ _ => answers_decoded_false
  · exact fun _ _ _ _ _ _ _ => answers_mulI_shorter
  · exact fun _ _ _ _ _ _ _ h1 h2 h3 _ => answers_mulI_longer h1 h2 h3
  · exact fun _ _ _ _ _ => answers_br_taken
  · exact fun _ _ _ _ _ => answers_br_trap
  · exact fun _ _ _ => answers_endEf
  · exact fun _ _ _ _ _ => answers_loopI
  · exact fun _ _ _ _ _ _ => answers_loopR
  · exact fun _ _ _ _ _ => answers_branch
  · exact fun _ _ _ _ _ _ => answers_loop_again
  · exact fun _ _ _ _ => answers_program_end
  · exact fun _ _ _ _ => answers_program_overrun

end Sys2Proof.Machine
end

section
/-! PROOFS. The host message queues (R441 to R451), and O54. -/
namespace Sys2Proof.Machine

/-! ### A queue's state -/

theorem q_of_hmq {s t : State} (h : t.hmq = s.hmq) (k : Nat) : t.q k = s.q k := by rw [State.q, h, State.q]

theorem q_putQ_same (s : State) {q : Nat} (hq : q < s.hmq.length) (h : Hmq) : (s.putQ q h).q q = h := by
  simp [State.q, State.putQ, getAt, setAt, hq]

theorem q_putQ_ne (s : State) {q k : Nat} (hk : k ≠ q) (h : Hmq) : (s.putQ q h).q k = s.q k := by
  simp [State.q, State.putQ, getAt, setAt, List.getD, hk.symm]

theorem length_putQ (s : State) (q : Nat) (h : Hmq) : (s.putQ q h).hmq.length = s.hmq.length := List.length_set

theorem Chg.putQ {R : Nat → Prop} {P : Part → Prop} {M : Nat → Prop} {s t : State} (h : Chg R P M s t) (hp : P .hmq) (q : Nat) (x : Hmq) :
    Chg R P M s (t.putQ q x) := h.hmq _ hp

/-- Queue q of t is x, and the others are s's. -/
structure QueueIs (q : Nat) (x : Hmq) (s t : State) : Prop where
  same : t.q q = x
  other : ∀ k, k ≠ q → t.q k = s.q k

theorem queueIs_putQ (s : State) {q : Nat} (hq : q < s.hmq.length) (x : Hmq) : QueueIs q x s (s.putQ q x) :=
  ⟨q_putQ_same s hq x, fun _ hk => q_putQ_ne s hk x⟩

theorem QueueIs.of_hmq {q : Nat} {x : Hmq} {s t u : State} (h : QueueIs q x s t) (hu : u.hmq = t.hmq) : QueueIs q x s u :=
  ⟨(q_of_hmq hu q).trans h.same, fun k hk => (q_of_hmq hu k).trans (h.other k hk)⟩

theorem QueueIs.putQ {q : Nat} {x y : Hmq} {s t : State} (h : QueueIs q x s t) (hq : q < t.hmq.length) : QueueIs q y s (t.putQ q y) :=
  ⟨q_putQ_same t hq y, fun k hk => (q_putQ_ne t hk y).trans (h.other k hk)⟩

theorem queueIs_refl (q : Nat) (s : State) : QueueIs q (s.q q) s s := ⟨rfl, fun _ _ => rfl⟩

theorem hmq_length {s : State} (h : Shaped s) : s.hmq.length = 4 := by
  obtain ⟨-, -, -, -, -, -, h4, -⟩ := h
  exact h4

theorem hmq_lt {s : State} (h : Shaped s) (q : Fin 4) : q.val < s.fresh.hmq.length := by
  rw [show s.fresh.hmq.length = 4 from hmq_length h]
  exact q.isLt

/-! ### Its counters -/

/-- The counters of a queue. -/
def hmqCounter (q a : Nat) : Prop :=
  a = A.HMQ_CNT_PUSHED q ∨ a = A.HMQ_CNT_READ q ∨ a = A.HMQ_CNT_DROPPED q ∨ a = A.HMQ_CNT_LOST_PTR q ∨ a = A.HMQ_CNT_FLUSHED q ∨ a = A.HMQ_CNT_UNDERRUNS q

section
variable {q a : Nat}

theorem satOf_hmq (hq : q < 4) (ha : hmqCounter q a) : (satOf a).adr = A.HMQ_CNT_SAT q ∧ (satOf a).event = some (F.HMQ_EVT_CNT_SAT q) := by
  rcases ha with rfl | rfl | rfl | rfl | rfl | rfl <;> interval_cases q <;> exact ⟨rfl, rfl⟩

theorem hmqCounter_bounds (ha : hmqCounter q a) : A.HMQ_CNT_PUSHED q ≤ a ∧ a ≤ A.HMQ_CNT_UNDERRUNS q := by
  simp only [hmqCounter, A.HMQ_CNT_PUSHED, A.HMQ_CNT_READ, A.HMQ_CNT_DROPPED, A.HMQ_CNT_LOST_PTR, A.HMQ_CNT_FLUSHED, A.HMQ_CNT_UNDERRUNS] at ha ⊢
  omega

theorem bumpOk_hmq (hq : q < 4) (ha : hmqCounter q a) : bumpOk a = true := by
  obtain ⟨h1, h2⟩ := satOf_hmq hq ha
  have hb := hmqCounter_bounds ha
  rw [bumpOk, h1, h2]
  simp only [Option.all_some, Bool.and_eq_true, bne_iff_ne, A.HMQ_CNT_PUSHED, A.HMQ_CNT_UNDERRUNS, A.HMQ_CNT_SAT, A.HMQ_EVT] at hb ⊢
  omega

theorem hmqCounter_notMem (hq : q < 4) (ha : hmqCounter q a) : a ∉ summaries := by
  have hb := hmqCounter_bounds ha
  exact notMem_summaries (by simp only [A.HMQ_CNT_PUSHED, A.HMQ_CNT_UNDERRUNS] at hb; omega)

/-- The registers that a count of a queue changes. -/
theorem Chg.bumpHmq {R : Nat → Prop} {P : Part → Prop} {M : Nat → Prop} {s t : State} (h : Chg R P M s t) (hq : q < 4) (ha : hmqCounter q a)
    (h1 : R a) (h2 : R (A.HMQ_CNT_SAT q)) (h3 : R (A.HMQ_EVT q)) (n : Nat) : Chg R P M s (t.bump a n) := by
  obtain ⟨e1, e2⟩ := satOf_hmq hq ha
  refine h.bump a n h1 (by rw [e1]; exact h2) ?_
  rw [e2]
  rintro f ⟨⟩
  exact h3

theorem hmqCounter_ne_evt (hq : q < 4) (ha : hmqCounter q a) (k : Nat) : a ≠ A.HMQ_EVT k := by
  have hb := hmqCounter_bounds ha
  simp only [A.HMQ_CNT_PUSHED, A.HMQ_CNT_UNDERRUNS, A.HMQ_EVT] at hb ⊢
  omega

end

/-- A count leaves a field apart from the saturation's event. -/
theorem State.on_bump_event {s : State} {a n : Nat} {f : Fld} (h1 : f.adr ≠ a) (h2 : f.adr ≠ (satOf a).adr)
    (h3 : ∀ g, (satOf a).event = some g → g.free f = true) : (s.bump a n).on f = s.on f := by
  have hreg : (((s.wr a 0xFFFFFFFF).putReg (satOf a).adr
      ((s.wr a 0xFFFFFFFF).reg (satOf a).adr ||| BitVec.ofNat 32 (2 ^ (satOf a).bit))).reg f.adr) = s.reg f.adr :=
    (State.reg_putReg_ne _ _ h2).trans (State.reg_wr_ne _ _ h1)
  rw [State.on, State.on, State.bump]
  dsimp only
  split
  · exact congrArg (· != 0) (State.fld_eq_of_reg (State.reg_wr_ne _ _ h1))
  · split
    · rfl
    · split
      · exact congrArg (· != 0) (State.fld_eq_of_reg hreg)
      · rename_i g hg
        exact congrArg (· != 0) ((State.fld_event_free _ (h3 g hg)).trans (State.fld_eq_of_reg hreg))

/-! ### Offers (R442, R445) -/

section
variable {s : State} {q n : Nat} {m : Msg} {rest : List Msg}

/-- The queue with its first waiting message gone from the port. -/
def Hmq.offered (h : Hmq) (rest : List Msg) : Hmq := { h with waiting := rest, nextSeq := (h.nextSeq + 1) % 2 ^ 32 }

/-- A refused message (R445). -/
def State.hmqDrop (s : State) (q : Nat) (rest : List Msg) : State :=
  ((s.putQ q ((s.q q).offered rest)).inc (A.HMQ_CNT_DROPPED q)).event (F.HMQ_EVT_OVF q)

theorem hmqOffer_none {ok : Bool} (h : (s.q q).waiting = [] ∨ (s.q q).portIdle = false) : s.hmqOffer ok q n = s := by
  unfold State.hmqOffer
  dsimp only
  split
  · rfl
  · rename_i m rest hw
    rcases h with h | h
    · rw [h] at hw
      exact absurd hw (by simp)
    · rw [h, if_neg Bool.false_ne_true]

theorem hmqOffer_fits (hi : (s.q q).portIdle = true) (hw : (s.q q).waiting = m :: rest) (hf : (s.msgWords m (s.q q).nextSeq).length ≤ (s.q q).freeWords) :
    s.hmqOffer true q n = ((s.putQ q { (s.q q).offered rest with held := (s.q q).held ++
      [⟨m.prio, 4 * m.body.length, s.msgWords m (s.q q).nextSeq, clampN 1 ((s.msgWords m (s.q q).nextSeq).length - 1) n, 0, false⟩] }).inc
        (A.HMQ_CNT_PUSHED q)).qRefresh q := by
  unfold State.hmqOffer
  dsimp only
  rw [hw]
  dsimp only
  rw [hi, if_pos rfl]
  have hfree : (((s.q q).offered rest).freeWords) = (s.q q).freeWords := rfl
  exact if_pos (by rw [Bool.and_true, decide_eq_true_eq]; exact hf)

theorem hmqOffer_refused {ok : Bool} (hi : (s.q q).portIdle = true) (hw : (s.q q).waiting = m :: rest)
    (hf : ok = false ∨ (s.q q).freeWords < (s.msgWords m (s.q q).nextSeq).length) :
    s.hmqOffer ok q n = if m.src = 2 then ((s.hmqDrop q rest).inc A.XPT_CNT_METER_DROP).event F.XPT_EVT_METER_DROP else s.hmqDrop q rest := by
  unfold State.hmqOffer
  dsimp only
  rw [hw]
  dsimp only
  rw [hi, if_pos rfl]
  refine if_neg ?_
  rw [Bool.and_eq_true, decide_eq_true_eq]
  rintro ⟨h1, h2⟩
  rcases hf with hf | hf
  · rw [h2] at hf
    exact Bool.false_ne_true hf.symm
  · exact absurd h1 (Nat.not_le.mpr hf)

theorem answers_hmqMessageOffer_none (hq : q < 4) (h : (s.q q).waiting = [] ∨ (s.q q).portIdle = false) :
    Answers (.hmqMessageOffer q n) s fun t => Framed [] [] s t := by
  have hframe : Chg (Listed []) (Parts []) NoMem s s.fresh := Chg.refl.fresh
  exact answers_effect _ (State.runIf_true s (decide_eq_true hq) _) (hmqOffer_none (s := s.fresh) h) hframe hframe.framed

/-- A message that fits is admitted whole and numbered (R442). -/
theorem answers_hmqMessageOffer_fits (hshape : Shaped s) (hq : q < 4) (hok : s.blockOk 7 = true) (hi : (s.q q).portIdle = true)
    (hw : (s.q q).waiting = m :: rest) (hf : (s.msgWords m (s.q q).nextSeq).length ≤ (s.q q).freeWords) :
    Answers (.hmqMessageOffer q n) s fun t =>
      (t.q q).waiting = rest ∧ (t.q q).nextSeq = ((s.q q).nextSeq + 1) % 2 ^ 32 ∧ (t.q q).lock = (s.q q).lock ∧
      (∃ e, (t.q q).held = (s.q q).held.map (HeldMsg.refresh (s.fld (F.HMQ_CFG_CT_64 q))) ++
        [⟨m.prio, 4 * m.body.length, s.msgWords m (s.q q).nextSeq,
          clampN 1 ((s.msgWords m (s.q q).nextSeq).length - 1) n, 0, e⟩]) ∧
      Counts s t (A.HMQ_CNT_PUSHED q) 1 ∧ (∀ k, k ≠ q → t.q k = s.q k) ∧
      Framed [A.HMQ_CNT_PUSHED q, A.HMQ_CNT_SAT q, A.HMQ_EVT q] [.hmq] s t := by
  have hlen : q < s.fresh.hmq.length := by rw [show s.fresh.hmq.length = 4 from hmq_length hshape]; exact hq
  have hcnt : hmqCounter q (A.HMQ_CNT_PUSHED q) := .inl rfl
  set hm : HeldMsg := ⟨m.prio, 4 * m.body.length, s.msgWords m (s.q q).nextSeq, clampN 1 ((s.msgWords m (s.q q).nextSeq).length - 1) n, 0, false⟩ with hhm
  set h' : Hmq := { (s.q q).offered rest with held := (s.q q).held ++ [hm] } with hh'
  set x := (s.fresh.putQ q h').inc (A.HMQ_CNT_PUSHED q) with hx
  have hxq : QueueIs q h' s.fresh x := (queueIs_putQ s.fresh hlen h').of_hmq (State.inc_hmq _ _)
  have hxlen : q < x.hmq.length := by rw [hx, State.inc_hmq, length_putQ]; exact hlen
  have hct : x.fld (F.HMQ_CFG_CT_64 q) = s.fld (F.HMQ_CFG_CT_64 q) := by
    obtain ⟨e1, e2⟩ := satOf_hmq hq hcnt
    refine State.fld_inc_free (s := s.fresh.putQ q h') ?_
    rw [bumpFree, e1, e2]
    simp only [Option.all_some, Bool.and_eq_true, bne_iff_ne, A.HMQ_CNT_PUSHED, A.HMQ_CFG, A.HMQ_CNT_SAT, A.HMQ_EVT]
    omega
  set h'' : Hmq := { h' with held := h'.held.map (HeldMsg.refresh (s.fld (F.HMQ_CFG_CT_64 q))) } with hh''
  set u := x.putQ q h'' with hu
  have heff : s.fresh.hmqOffer (s.fresh.blockOk 7) q n = u := by
    rw [show s.fresh.blockOk 7 = true from hok, hmqOffer_fits (s := s.fresh) hi hw hf]
    show x.qRefresh q = u
    rw [State.qRefresh, hct, hxq.same]
  have hframe : Chg (Listed [A.HMQ_CNT_PUSHED q, A.HMQ_CNT_SAT q, A.HMQ_EVT q]) (Parts [.hmq]) NoMem s u :=
    ((Chg.refl.fresh.putQ (by simp) _ _).bumpHmq hq hcnt (by simp) (by simp) (by simp) 1).putQ (by simp) _ _
  have huq : QueueIs q h'' s.fresh (s.seal u) := (hxq.putQ hxlen).of_hmq (State.seal_hmq s u)
  refine answers_effect _ (State.runIf_true s (decide_eq_true hq) _) heff hframe ⟨?_, ?_, ?_, ?_, ?_, huq.other, hframe.framed⟩
  · rw [huq.same]
    rfl
  · rw [huq.same]
    rfl
  · rw [huq.same]
    rfl
  · rw [huq.same]
    exact ⟨_, List.map_append⟩
  · rw [Counts, State.rd_seal _ _ (hmqCounter_notMem hq hcnt)]
    exact State.rd_inc_counts (bumpOk_hmq hq hcnt)

theorem Chg.hmqDrop {R : Nat → Prop} {P : Part → Prop} {M : Nat → Prop} {t : State} (h : Chg R P M s t) (hp : P .hmq) (hq : q < 4)
    (h1 : R (A.HMQ_CNT_DROPPED q)) (h2 : R (A.HMQ_CNT_SAT q)) (h3 : R (A.HMQ_EVT q)) (rest : List Msg) : Chg R P M s (t.hmqDrop q rest) :=
  ((h.putQ hp _ _).bumpHmq hq (.inr (.inr (.inl rfl))) h1 h2 h3 1).event _ h3

theorem hmqDrop_counts (hq : q < 4) : (s.hmqDrop q rest).rd (A.HMQ_CNT_DROPPED q) = min (s.rd (A.HMQ_CNT_DROPPED q) + 1) 0xFFFFFFFF := by
  have hcnt : hmqCounter q (A.HMQ_CNT_DROPPED q) := .inr (.inr (.inl rfl))
  rw [State.hmqDrop, State.rd_event_ne (hmqCounter_ne_evt hq hcnt q), State.rd_inc_counts (bumpOk_hmq hq hcnt)]
  rfl

/-- A message that does not fit is refused whole and numbered (R445). -/
theorem answers_hmqMessageOffer_refused (hshape : Shaped s) (hq : q < 4) (hi : (s.q q).portIdle = true) (hw : (s.q q).waiting = m :: rest)
    (hf : s.blockOk 7 = false ∨ (s.q q).freeWords < (s.msgWords m (s.q q).nextSeq).length) (hsrc : m.src ≠ 2) :
    Answers (.hmqMessageOffer q n) s fun t =>
      t.q q = { s.q q with waiting := rest, nextSeq := ((s.q q).nextSeq + 1) % 2 ^ 32 } ∧ (∀ k, k ≠ q → t.q k = s.q k) ∧
      Counts s t (A.HMQ_CNT_DROPPED q) 1 ∧ t.on (F.HMQ_EVT_OVF q) = true ∧
      Framed [A.HMQ_CNT_DROPPED q, A.HMQ_CNT_SAT q, A.HMQ_EVT q] [.hmq] s t := by
  have hlen : q < s.fresh.hmq.length := by rw [show s.fresh.hmq.length = 4 from hmq_length hshape]; exact hq
  have hcnt : hmqCounter q (A.HMQ_CNT_DROPPED q) := .inr (.inr (.inl rfl))
  set u := s.fresh.hmqDrop q rest with hu
  have heff : s.fresh.hmqOffer (s.fresh.blockOk 7) q n = u := (hmqOffer_refused (s := s.fresh) hi hw hf).trans (if_neg hsrc)
  have hframe : Chg (Listed [A.HMQ_CNT_DROPPED q, A.HMQ_CNT_SAT q, A.HMQ_EVT q]) (Parts [.hmq]) NoMem s u :=
    Chg.refl.fresh.hmqDrop (by simp) hq (by simp) (by simp) (by simp) rest
  have huq : QueueIs q ((s.q q).offered rest) s.fresh (s.seal u) := by
    refine (queueIs_putQ s.fresh hlen _).of_hmq ?_
    rw [State.seal_hmq, hu, State.hmqDrop, State.event_hmq, State.inc_hmq]
    rfl
  have hevt : A.HMQ_EVT q ∉ summaries := notMem_summaries (by simp only [A.HMQ_EVT]; omega)
  refine answers_effect _ (State.runIf_true s (decide_eq_true hq) _) heff hframe ⟨huq.same, huq.other, ?_, ?_, hframe.framed⟩
  · rw [Counts, State.rd_seal _ _ (hmqCounter_notMem hq hcnt)]
    exact hmqDrop_counts (s := s.fresh) hq
  · rw [State.on_seal_of hevt]
    exact State.on_event_same _ rfl

/-- A refused meter message counts in XPT besides (R445). -/
theorem answers_hmqMessageOffer_meter (hq : q < 4) (hi : (s.q q).portIdle = true) (hw : (s.q q).waiting = m :: rest)
    (hf : s.blockOk 7 = false ∨ (s.q q).freeWords < (s.msgWords m (s.q q).nextSeq).length) (hsrc : m.src = 2) :
    Answers (.hmqMessageOffer q n) s fun t =>
      Counts s t (A.HMQ_CNT_DROPPED q) 1 ∧ Counts s t A.XPT_CNT_METER_DROP 1 ∧ t.on F.XPT_EVT_METER_DROP = true := by
  have hcnt : hmqCounter q (A.HMQ_CNT_DROPPED q) := .inr (.inr (.inl rfl))
  set x := s.fresh.hmqDrop q rest with hx
  set u := (x.inc A.XPT_CNT_METER_DROP).event F.XPT_EVT_METER_DROP with hu
  have heff : s.fresh.hmqOffer (s.fresh.blockOk 7) q n = u := (hmqOffer_refused (s := s.fresh) hi hw hf).trans (if_pos hsrc)
  have hchg : Chg (Listed [A.HMQ_CNT_DROPPED q, A.HMQ_CNT_SAT q, A.HMQ_EVT q]) (Parts [.hmq]) NoMem s x :=
    Chg.refl.fresh.hmqDrop (by simp) hq (by simp) (by simp) (by simp) rest
  have hall : Chg AnyReg AnyPart NoMem s u := (hchg.anywhere.inc _ trivial trivial fun _ _ => trivial).event _ trivial
  have hfree : bumpFree (A.HMQ_CNT_DROPPED q) A.XPT_CNT_METER_DROP = true := by interval_cases q <;> decide
  refine answers_effect _ (State.runIf_true s (decide_eq_true hq) _) heff hall ⟨?_, ?_, ?_⟩
  · rw [Counts, State.rd_seal _ _ (hmqCounter_notMem hq hcnt), hu, State.rd_event_ne (by interval_cases q <;> decide), State.rd_inc_free hfree]
    exact hmqDrop_counts (s := s.fresh) hq
  · rw [Counts, State.rd_seal _ _ (by decide), hu, State.rd_event_ne (by decide), State.rd_inc_counts (by decide), State.rd_eq_of_reg (hchg.reg _ ?_)]
    interval_cases q <;> (unfold Listed; decide)
  · rw [State.on_seal _ _ (by decide), hu, State.on_event_same _ (by decide)]

end

/-! ### Completion (R449) -/

section
variable {s : State} {q : Nat}

/-- A message with its last word written. -/
def HeldMsg.complete (m : HeldMsg) : HeldMsg := { m with written := m.words.length }

theorem answers_hmqMessageComplete_idle (hq : q < 4) (h : (s.q q).portIdle = true) : Answers (.hmqMessageComplete q) s fun t => Framed [] [] s t := by
  have heff : s.fresh.hmqComplete q = s.fresh := by
    rw [State.hmqComplete]
    exact if_pos h
  have hframe : Chg (Listed []) (Parts []) NoMem s s.fresh := Chg.refl.fresh
  exact answers_effect _ (State.runIf_true s (decide_eq_true hq) _) heff hframe hframe.framed

/-- The message's last word makes it complete (R449). -/
theorem answers_hmqMessageComplete (hshape : Shaped s) (hq : q < 4) (h : (s.q q).portIdle = false) :
    Answers (.hmqMessageComplete q) s fun t =>
      (t.q q).portIdle = true ∧ (t.q q).msgs = (s.q q).held.length ∧ (t.q q).resv = 0 ∧ (∀ m ∈ (t.q q).held, m.eligible = true) ∧
      (t.q q).lock = (s.q q).lock ∧ t.on (F.HMQ_EVT_NOTICE q) = true ∧ (∀ k, k ≠ q → t.q k = s.q k) ∧ Framed [A.HMQ_EVT q] [.hmq] s t := by
  have hlen : q < s.fresh.hmq.length := by rw [show s.fresh.hmq.length = 4 from hmq_length hshape]; exact hq
  set ct := s.fld (F.HMQ_CFG_CT_64 q) with hct
  set h' : Hmq := { s.q q with held := (s.q q).held.map HeldMsg.complete } with hh'
  set x := s.fresh.putQ q h' with hx
  have hxq : QueueIs q h' s.fresh x := queueIs_putQ s.fresh hlen h'
  set done : Hmq := { h' with held := h'.held.map (HeldMsg.refresh ct) } with hdone
  set u := (x.putQ q done).event (F.HMQ_EVT_NOTICE q) with hu
  have heff : s.fresh.hmqComplete q = u := by
    have he : s.fresh.hmqComplete q = (x.qRefresh q).event (F.HMQ_EVT_NOTICE q) := by
      rw [State.hmqComplete]
      exact if_neg (by rw [show (s.fresh.q q).portIdle = false from h]; exact Bool.false_ne_true)
    rw [he, State.qRefresh, hxq.same]
    rfl
  have hframe : Chg (Listed [A.HMQ_EVT q]) (Parts [.hmq]) NoMem s u := ((Chg.refl.fresh.putQ (by simp) _ _).putQ (by simp) _ _).event _ (by simp)
  have huq : QueueIs q done s.fresh (s.seal u) :=
    (hxq.putQ (by rw [hx, length_putQ]; exact hlen)).of_hmq (by rw [State.seal_hmq, hu, State.event_hmq])
  have hheld : done.held = (s.q q).held.map fun m => m.complete.refresh ct := List.map_map
  have hwritten (m : HeldMsg) : (m.complete.refresh ct).written = (m.complete.refresh ct).words.length := rfl
  have hevt : A.HMQ_EVT q ∉ summaries := notMem_summaries (by simp only [A.HMQ_EVT]; omega)
  refine answers_effect _ (State.runIf_true s (decide_eq_true hq) _) heff hframe ⟨?_, ?_, ?_, fun m hm => ?_, ?_, ?_, huq.other, hframe.framed⟩
  · rw [huq.same, Hmq.portIdle, hheld, List.all_map, List.all_eq_true]
    exact fun m _ => beq_iff_eq.mpr (hwritten m)
  · rw [huq.same, Hmq.msgs, hheld, List.filter_eq_self.mpr, List.length_map]
    intro m hm
    obtain ⟨x, -, rfl⟩ := List.mem_map.mp hm
    exact beq_iff_eq.mpr (hwritten x)
  · rw [huq.same, Hmq.resv, hheld, List.map_map]
    refine List.sum_eq_zero fun k hk => ?_
    obtain ⟨x, -, rfl⟩ := List.mem_map.mp hk
    exact Nat.sub_self _
  · rw [huq.same, hheld] at hm
    obtain ⟨x, -, rfl⟩ := List.mem_map.mp hm
    show (x.complete.eligible || (x.words.length == x.words.length) || _) = true
    rw [beq_self_eq_true, Bool.or_true, Bool.true_or]
  · rw [huq.same]
  · rw [State.on_seal_of hevt]
    exact State.on_event_same _ rfl

end

/-! ### Emptying (R450, R451) -/

section
variable {s : State} {q : Nat}

/-- The queue with nothing held. -/
def Hmq.emptied (h : Hmq) : Hmq := { h with held := [], lock := none }

/-- A pointer mismatch empties the queue (R450). -/
theorem answers_hmqPointerMismatch (hshape : Shaped s) (hq : q < 4) :
    Answers (.hmqPointerMismatch q) s fun t =>
      t.q q = { s.q q with held := [], lock := none } ∧ Counts s t (A.HMQ_CNT_LOST_PTR q) (s.q q).held.length ∧
      t.on (F.HMQ_EVT_PTR_ERR q) = true ∧ (∀ k, k ≠ q → t.q k = s.q k) ∧
      Framed [A.HMQ_CNT_LOST_PTR q, A.HMQ_CNT_SAT q, A.HMQ_EVT q, A.MGMT_EVT] [.hmq, .mgmt] s t := by
  have hlen : q < s.fresh.hmq.length := by rw [show s.fresh.hmq.length = 4 from hmq_length hshape]; exact hq
  have hcnt : hmqCounter q (A.HMQ_CNT_LOST_PTR q) := .inr (.inr (.inr (.inl rfl)))
  set x := (s.fresh.putQ q (s.q q).emptied).bump (A.HMQ_CNT_LOST_PTR q) (s.q q).held.length with hx
  set u := (x.event (F.HMQ_EVT_PTR_ERR q)).log (13 + q) 1 3 [(s.q q).held.length] with hu
  have hframe : Chg (Listed [A.HMQ_CNT_LOST_PTR q, A.HMQ_CNT_SAT q, A.HMQ_EVT q, A.MGMT_EVT]) (Parts [.hmq, .mgmt]) NoMem s u :=
    (((Chg.refl.fresh.putQ (by simp) _ _).bumpHmq hq hcnt (by simp) (by simp) (by simp) _).event _ (by simp)).log _ _ _ _ (by simp) (by simp)
  have huq : QueueIs q (s.q q).emptied s.fresh (s.seal u) :=
    (queueIs_putQ s.fresh hlen _).of_hmq (by rw [State.seal_hmq, hu, State.log_hmq, State.event_hmq, hx, State.bump_hmq])
  have hevt : A.HMQ_EVT q ∉ summaries := notMem_summaries (by simp only [A.HMQ_EVT]; omega)
  have hne : A.HMQ_EVT q ≠ A.MGMT_EVT := by simp only [A.HMQ_EVT, A.MGMT_EVT]; omega
  refine answers_effect _ (State.runIf_true s (decide_eq_true hq) _) (u := u) rfl hframe ⟨huq.same, ?_, ?_, huq.other, hframe.framed⟩
  · rw [Counts, State.rd_seal _ _ (hmqCounter_notMem hq hcnt), hu, State.rd_eq_of_reg (State.reg_log_ne _ _ _ _ _ ?hne), State.rd_event_ne (hmqCounter_ne_evt hq hcnt q), hx,
      State.rd_bump_counts _ (bumpOk_hmq hq hcnt)]
    · rfl
    · have hb := hmqCounter_bounds hcnt
      simp only [A.HMQ_CNT_PUSHED, A.HMQ_CNT_UNDERRUNS, A.MGMT_EVT] at hb ⊢
      omega
  · rw [State.on_seal_of hevt, State.on, hu, State.fld_log_ne _ _ _ _ hne]
    exact State.on_event_same x rfl

theorem hmqCtl_strikes (q : Fin 4) : Strikes (A.HMQ_CTL q.val) 1 := fun v => by fin_cases q <;> cases v <;> decide

theorem hmqCtl_effect (s : State) (m : Master) (p : Bool) (q : Fin 4) (old : Word) :
    s.regEffect m p (A.HMQ_CTL q.val) old 1 = s.hmqFlush q.val := by fin_cases q <;> rfl

/-- FLUSH empties the queue (R451). -/
theorem answers_hmqFlush (s : State) (q : Fin 4) (m : Master) (priv : Bool) (hshape : Shaped s) (hd : Direct s m priv (A.HMQ_CTL q.val)) :
    Answers (.hmqFlush q m priv) s fun t =>
      t.q q.val = { s.q q.val with held := [], lock := none } ∧ Counts s t (A.HMQ_CNT_FLUSHED q.val) (s.q q.val).held.length ∧
      (∀ k, k ≠ q.val → t.q k = s.q k) ∧ Framed [A.HMQ_CNT_FLUSHED q.val, A.HMQ_CNT_SAT q.val, A.HMQ_EVT q.val] [.hmq] s t := by
  have hlen : q.val < s.fresh.hmq.length := by rw [show s.fresh.hmq.length = 4 from hmq_length hshape]; exact q.isLt
  have hcnt : hmqCounter q.val (A.HMQ_CNT_FLUSHED q.val) := .inr (.inr (.inr (.inr (.inl rfl))))
  set u := (s.fresh.putQ q.val (s.q q.val).emptied).bump (A.HMQ_CNT_FLUSHED q.val) (s.q q.val).held.length with hu
  have heff : s.fresh.strike m priv (A.HMQ_CTL q.val) 1 = u := by
    rw [hd.strike (hmqCtl_strikes q), hmqCtl_effect]
    rfl
  have hframe : Chg (Listed [A.HMQ_CNT_FLUSHED q.val, A.HMQ_CNT_SAT q.val, A.HMQ_EVT q.val]) (Parts [.hmq]) NoMem s u :=
    (Chg.refl.fresh.putQ (by simp) _ _).bumpHmq q.isLt hcnt (by simp) (by simp) (by simp) _
  have huq : QueueIs q.val (s.q q.val).emptied s.fresh (s.seal u) :=
    (queueIs_putQ s.fresh hlen _).of_hmq (by rw [State.seal_hmq, hu, State.bump_hmq])
  refine answers_effect _ rfl heff hframe ⟨huq.same, ?_, huq.other, hframe.framed⟩
  rw [Counts, State.rd_seal _ _ (hmqCounter_notMem q.isLt hcnt), hu, State.rd_bump_counts _ (bumpOk_hmq q.isLt hcnt)]
  rfl

end

/-! ### Reading (R446 to R448) -/

section
variable {s : State} {q : Fin 4} {m : Master} {priv : Bool}

/-- A row without privileged, self-clearing, write-only and read-clearing bits. -/
def Row.plainRead (r : Row) : Bool := r.sc ||| r.wo == 0 && r.prv == 0 && r.rc == 0

theorem hmqRd_row (v : Variant) (q : Fin 4) : (rowAt v (A.HMQ_RD_DATA q.val)).any Row.plainRead = true := by
  fin_cases q <;> cases v <;> decide

theorem clearBits_zero (n : Nat) : clearBits n 0 = n := by rw [clearBits, Nat.and_zero, Nat.xor_zero]

theorem hmqRd_effect (s : State) (m : Master) (q : Fin 4) : s.readEffect m (A.HMQ_RD_DATA q.val) = s := by
  fin_cases q <;> rfl

theorem hmqRd_window (q : Fin 4) : A.HMQ_RD_DATA q.val % 0x100 = 0x10 ∧ A.HMQ_RD_DATA q.val / 0x10000 = 13 ∧
    A.HMQ_RD_DATA q.val % 0x10000 / 0x100 = q.val ∧ A.HMQ_RD_DATA q.val < A.HMQ_RD_DATA 4 ∧ unitOf (A.HMQ_RD_DATA q.val) = 3 := by
  fin_cases q <;> decide

theorem hmqRd_domain (q : Fin 4) : domainOf (A.HMQ_RD_DATA q.val) = none := by fin_cases q <;> decide

/-- Word w as the last response to m. -/
def State.responds (u : State) (m : Master) (w : Nat) : State := { u with resp := setAt u.resp m.code (BitVec.ofNat 32 w) }

/-- A read of RD_DATA with U3 awake returns the word that the queue gives. -/
theorem busRead_hmqRd (hU : s.unitAwake 3 = true) (w : Nat) (u : State) (h : s.hmqRead q.val = (w, u)) :
    s.busRead m priv (A.HMQ_RD_DATA q.val) = u.responds m w := by
  obtain ⟨r, hrow, hplain⟩ := (Option.any_eq_true _ _).mp (hmqRd_row s.variant q)
  simp only [Row.plainRead, Bool.and_eq_true, beq_iff_eq] at hplain
  obtain ⟨⟨hsc, hprv⟩, hrc⟩ := hplain
  obtain ⟨h1, h2, h3, h4, h5⟩ := hmqRd_window q
  have hget : s.busGet m priv (A.HMQ_RD_DATA q.val) = (w, u) := by
    have hread : s.regRead m (s.masterPriv m priv) (A.HMQ_RD_DATA q.val) r = (w, u) := by
      have hall : r.allPrv = false := by rw [Row.allPrv, hprv]; rfl
      simp only [State.regRead, hall, Bool.and_false, h5, hU, h1, h2, h3, h4, h, and_self, hsc, hprv, hrc, clearBits_zero, ite_self, hmqRd_effect,
        State.when, bne_self_eq_false, if_true, Bool.false_eq_true, if_false]
    rw [State.busGet, if_neg (by omega), hmqRd_domain]
    dsimp only
    rw [hrow]
    exact hread
  rw [State.busRead, hget]
  rfl

/-- The message that a read takes its word from. -/
def Hmq.front (h : Hmq) : Option Nat :=
  match h.lock with
  | some i => some i
  | none => (pickMsg h.held 0 none).map Prod.fst

/-- The queue with the eligibility of its messages brought up to date. -/
def Hmq.refreshed (h : Hmq) (ct : Nat) : Hmq := { h with held := h.held.map (HeldMsg.refresh ct) }

theorem HeldMsg.refresh_eligible {a : HeldMsg} (h : a.eligible = true) (ct : Nat) : a.refresh ct = a := by
  obtain ⟨p, l, ws, n, k, e⟩ := a
  subst h
  rfl

section
variable {k i : Nat} {x : State} {a : HeldMsg}

/-- What a read does once its message is chosen. -/
def State.hmqTake (x : State) (k : Nat) : Option Nat → Nat × State
  | none => x.hmqUnderrun k
  | some i =>
    match (x.q k).held[i]? with
    | none => x.hmqUnderrun k
    | some a =>
      if a.taken < a.written then
        let w := getAt a.words a.taken 0
        if a.taken + 1 = a.words.length then
          (w.toNat, (x.putQ k { x.q k with held := (x.q k).held.eraseIdx i, lock := none, lastVal := w }).inc (A.HMQ_CNT_READ k))
        else (w.toNat, x.putQ k { x.q k with held := setAt (x.q k).held i { a with taken := a.taken + 1 }, lock := some i, lastVal := w })
      else (x.putQ k { x.q k with lock := some i }).hmqUnderrun k

theorem hmqRead_eq (x : State) (k : Nat) : x.hmqRead k = (x.qRefresh k).hmqTake k ((x.qRefresh k).q k).front := rfl

theorem hmqTake_more (hi : (x.q k).held[i]? = some a) (hw : a.taken < a.written) (hl : a.taken + 1 ≠ a.words.length) :
    x.hmqTake k (some i) = ((getAt a.words a.taken 0).toNat, x.putQ k { x.q k with
      held := setAt (x.q k).held i { a with taken := a.taken + 1 }, lock := some i, lastVal := getAt a.words a.taken 0 }) := by
  simp only [State.hmqTake, hi, if_pos hw, if_neg hl]

theorem hmqTake_last (hi : (x.q k).held[i]? = some a) (hw : a.taken < a.written) (hl : a.taken + 1 = a.words.length) :
    x.hmqTake k (some i) = ((getAt a.words a.taken 0).toNat, (x.putQ k { x.q k with
      held := (x.q k).held.eraseIdx i, lock := none, lastVal := getAt a.words a.taken 0 }).inc (A.HMQ_CNT_READ k)) := by
  simp only [State.hmqTake, hi, if_pos hw, if_pos hl]

theorem hmqTake_late (hi : (x.q k).held[i]? = some a) (hw : a.written ≤ a.taken) :
    x.hmqTake k (some i) = (x.putQ k { x.q k with lock := some i }).hmqUnderrun k := by
  simp only [State.hmqTake, hi, if_neg (Nat.not_lt.mpr hw)]

theorem q_qRefresh (hk : k < x.hmq.length) : QueueIs k ((x.q k).refreshed (x.fld (F.HMQ_CFG_CT_64 k))) x (x.qRefresh k) := queueIs_putQ x hk _

theorem Chg.qRefresh {R : Nat → Prop} {P : Part → Prop} {M : Nat → Prop} (h : Chg R P M s x) (hp : P .hmq) (k : Nat) : Chg R P M s (x.qRefresh k) :=
  h.putQ hp k _

theorem Chg.hmqUnderrun {R : Nat → Prop} {P : Part → Prop} {M : Nat → Prop} (h : Chg R P M s x) (hk : k < 4) (h1 : R (A.HMQ_CNT_UNDERRUNS k))
    (h2 : R (A.HMQ_CNT_SAT k)) (h3 : R (A.HMQ_EVT k)) : Chg R P M s (x.hmqUnderrun k).2 :=
  (h.event (F.HMQ_EVT_UNDERRUN k) h3).bumpHmq hk (.inr (.inr (.inr (.inr (.inr rfl))))) h1 h2 h3 1

theorem hmqUnderrun_hmq (x : State) (k : Nat) : (x.hmqUnderrun k).2.hmq = x.hmq := (State.inc_hmq _ _).trans (State.event_hmq x _)

theorem hmqUnderrun_counts (hk : k < 4) : (x.hmqUnderrun k).2.rd (A.HMQ_CNT_UNDERRUNS k) = min (x.rd (A.HMQ_CNT_UNDERRUNS k) + 1) 0xFFFFFFFF := by
  have hcnt : hmqCounter k (A.HMQ_CNT_UNDERRUNS k) := .inr (.inr (.inr (.inr (.inr rfl))))
  exact (State.rd_inc_counts (bumpOk_hmq hk hcnt)).trans (by rw [State.rd_event_ne (hmqCounter_ne_evt hk hcnt k)])

theorem hmqUnderrun_event (hk : k < 4) : (x.hmqUnderrun k).2.on (F.HMQ_EVT_UNDERRUN k) = true := by
  obtain ⟨h1, h2⟩ := satOf_hmq hk (.inr (.inr (.inr (.inr (.inr rfl)))) : hmqCounter k (A.HMQ_CNT_UNDERRUNS k))
  refine Eq.trans (State.on_bump_event (by interval_cases k <;> decide) ?_ ?_) (State.on_event_same x rfl)
  · rw [h1]
    interval_cases k <;> decide
  · rw [h2]
    rintro g ⟨⟩
    simp [Fld.free, Fld.ok, Fld.apart]

end

/-- A read of the queue answers with its word and leaves what the queue's read leaves. -/
theorem answers_hmqRdData {R : List Nat} {w : Word} {u : State} (hU : s.unitAwake 3 = true) (h : s.fresh.hmqRead q.val = (w.toNat, u))
    (hf : Chg (Listed R) (Parts [.hmq]) NoMem s u) :
    Answers (.hmqRdData q m priv) s fun t =>
      Returned m w s t ∧ t.hmq = u.hmq ∧ (∀ a, a ∉ summaries → t.reg a = u.reg a) ∧ Framed R [.hmq, .resp] s t := by
  have hresp : u.resp = s.resp := hf.part .resp (by simp)
  have hframe : Chg (Listed R) (Parts [.hmq, .resp]) NoMem s (u.responds m w.toNat) :=
    (hf.mono (fun _ h => h) (fun p hp => by simp at hp ⊢; exact .inl hp) (fun _ h => h)).resp _ (by simp)
  have heff : s.fresh.busRead m priv (A.HMQ_RD_DATA q.val) = u.responds m w.toNat := busRead_hmqRd (s := s.fresh) hU _ _ h
  refine answers_effect _ rfl heff hframe ⟨?_, State.seal_hmq _ _, fun a ha => State.reg_seal _ _ ha, hframe.framed⟩
  rw [Returned, State.seal_resp, State.responds, hresp, BitVec.ofNat_toNat, BitVec.setWidth_eq]

/-- What an underrun answers. -/
theorem answers_hmqRdData_underrun {x : State} {h : Hmq} (hU : s.unitAwake 3 = true) (hread : s.fresh.hmqRead q.val = x.hmqUnderrun q.val)
    (hx : Chg (Listed []) (Parts [.hmq]) NoMem s x) (hq : QueueIs q.val h s.fresh x) :
    Answers (.hmqRdData q m priv) s fun t =>
      Returned m h.lastVal s t ∧ t.q q.val = h ∧ t.on (F.HMQ_EVT_UNDERRUN q.val) = true ∧ Counts s t (A.HMQ_CNT_UNDERRUNS q.val) 1 ∧
      QueueOnly q.val s t ∧ Framed [A.HMQ_CNT_UNDERRUNS q.val, A.HMQ_CNT_SAT q.val, A.HMQ_EVT q.val] [.hmq, .resp] s t := by
  have hcnt : hmqCounter q.val (A.HMQ_CNT_UNDERRUNS q.val) := .inr (.inr (.inr (.inr (.inr rfl))))
  have hevt : A.HMQ_EVT q.val ∉ summaries := notMem_summaries (by simp only [A.HMQ_EVT]; omega)
  have hframe : Chg (Listed [A.HMQ_CNT_UNDERRUNS q.val, A.HMQ_CNT_SAT q.val, A.HMQ_EVT q.val]) (Parts [.hmq]) NoMem s (x.hmqUnderrun q.val).2 :=
    (hx.mono (by simp +contextual [Listed]) (fun _ h => h) (fun _ h => h)).hmqUnderrun q.isLt (by simp) (by simp) (by simp)
  have hrd : x.rd (A.HMQ_CNT_UNDERRUNS q.val) = s.rd (A.HMQ_CNT_UNDERRUNS q.val) := by
    refine State.rd_eq_of_reg (hx.reg _ ?_)
    rw [Listed, List.mem_nil_iff, false_or]
    exact hmqCounter_notMem q.isLt hcnt
  obtain ⟨t, ht, hresp, hhmq, hreg, hfr⟩ := answers_hmqRdData (m := m) (priv := priv) (w := h.lastVal) hU
    (u := (x.hmqUnderrun q.val).2) (by rw [hread, ← hq.same]; rfl) hframe
  have hqt : QueueIs q.val h s.fresh t := hq.of_hmq (hhmq.trans (hmqUnderrun_hmq x _))
  refine ⟨t, ht, hresp, hqt.same, ?_, ?_, hqt.other, hfr⟩
  · rw [State.on, State.fld_eq_of_reg (hreg _ hevt)]
    exact hmqUnderrun_event q.isLt
  · rw [Counts, State.rd_eq_of_reg (hreg _ (hmqCounter_notMem q.isLt hcnt)), hmqUnderrun_counts q.isLt, hrd]

/-- A read of an empty queue is an underrun and returns the last value (R448). -/
theorem answers_hmqRdData_empty (hshape : Shaped s) (hU : s.unitAwake 3 = true) (hheld : (s.q q.val).held = []) (hlock : (s.q q.val).lock = none) :
    Answers (.hmqRdData q m priv) s fun t =>
      Returned m (s.q q.val).lastVal s t ∧ t.q q.val = s.q q.val ∧ t.on (F.HMQ_EVT_UNDERRUN q.val) = true ∧
      Counts s t (A.HMQ_CNT_UNDERRUNS q.val) 1 ∧ QueueOnly q.val s t ∧
      Framed [A.HMQ_CNT_UNDERRUNS q.val, A.HMQ_CNT_SAT q.val, A.HMQ_EVT q.val] [.hmq, .resp] s t := by
  have hsame : (s.q q.val).refreshed (s.fld (F.HMQ_CFG_CT_64 q.val)) = s.q q.val := by rw [Hmq.refreshed, hheld, List.map_nil, ← hheld]
  have hq : QueueIs q.val (s.q q.val) s.fresh (s.fresh.qRefresh q.val) := by
    have h := q_qRefresh (x := s.fresh) (hmq_lt hshape q)
    rwa [show (s.fresh.q q.val).refreshed (s.fresh.fld (F.HMQ_CFG_CT_64 q.val)) = s.q q.val from hsame] at h
  refine answers_hmqRdData_underrun hU (x := s.fresh.qRefresh q.val) ?_ (Chg.refl.fresh.qRefresh (by simp) _) hq
  rw [hmqRead_eq, hq.same, Hmq.front, hlock, hheld]
  rfl

/-- A read ahead of the writing is an underrun (R448). -/
theorem answers_hmqRdData_late {a : HeldMsg} (hshape : Shaped s) (hU : s.unitAwake 3 = true) (hheld : (s.q q.val).held = [a])
    (hlock : (s.q q.val).lock = some 0) (hw : a.written ≤ a.taken) :
    Answers (.hmqRdData q m priv) s fun t =>
      Returned m (s.q q.val).lastVal s t ∧ (t.q q.val).lock = some 0 ∧ t.on (F.HMQ_EVT_UNDERRUN q.val) = true ∧
      Counts s t (A.HMQ_CNT_UNDERRUNS q.val) 1 ∧ (t.q q.val).depth = 0 := by
  have hk := hmq_lt hshape q
  set ct := s.fld (F.HMQ_CFG_CT_64 q.val) with hct
  set h := { (s.q q.val).refreshed ct with lock := some 0 } with hh
  have hq : QueueIs q.val ((s.q q.val).refreshed ct) s.fresh (s.fresh.qRefresh q.val) := q_qRefresh hk
  have hheld' : ((s.q q.val).refreshed ct).held = [a.refresh ct] := by rw [Hmq.refreshed, hheld]; rfl
  have hread : s.fresh.hmqRead q.val = ((s.fresh.qRefresh q.val).putQ q.val h).hmqUnderrun q.val := by
    have hfront : ((s.q q.val).refreshed ct).front = some 0 := by rw [Hmq.front, Hmq.refreshed, hlock]
    rw [hmqRead_eq, hq.same, hfront, hmqTake_late (a := a.refresh ct) (by rw [hq.same, hheld']; rfl) hw, hq.same]
  obtain ⟨t, ht, hresp, hqt, hevt, hcnt, -, -⟩ := answers_hmqRdData_underrun (m := m) (priv := priv) hU hread
    ((Chg.refl.fresh.qRefresh (by simp) _).putQ (by simp) _ _) (hq.putQ (by rw [State.qRefresh, length_putQ]; exact hk))
  refine ⟨t, ht, hresp, by rw [hqt], hevt, hcnt, ?_⟩
  rw [hqt, Hmq.depth, show h.held = [a.refresh ct] from hheld']
  exact Nat.sub_eq_zero_of_le hw

/-- A first read takes its word from message i and locks the queue to it (R446, R447). -/
theorem answers_hmqRdData_first {i : Nat} {a : HeldMsg} (hshape : Shaped s) (hU : s.unitAwake 3 = true)
    (hel : ∀ x ∈ (s.q q.val).held, x.eligible = true) (hfront : (s.q q.val).front = some i) (hi : (s.q q.val).held[i]? = some a)
    (hw : a.taken < a.written) (hl : a.taken + 1 ≠ a.words.length) :
    Answers (.hmqRdData q m priv) s fun t =>
      Returned m (getAt a.words a.taken 0) s t ∧
      t.q q.val = { s.q q.val with held := setAt (s.q q.val).held i { a with taken := a.taken + 1 }, lock := some i, lastVal := getAt a.words a.taken 0 } ∧
      QueueOnly q.val s t ∧ Framed [] [.hmq, .resp] s t := by
  have hk := hmq_lt hshape q
  have hsame : (s.q q.val).refreshed (s.fld (F.HMQ_CFG_CT_64 q.val)) = s.q q.val := by
    rw [Hmq.refreshed, List.map_congr_left (g := id) fun x hx => HeldMsg.refresh_eligible (hel x hx) _, List.map_id]
  have hq : QueueIs q.val (s.q q.val) s.fresh (s.fresh.qRefresh q.val) := by
    have h := q_qRefresh (x := s.fresh) hk
    rwa [show (s.fresh.q q.val).refreshed (s.fresh.fld (F.HMQ_CFG_CT_64 q.val)) = s.q q.val from hsame] at h
  set h : Hmq := { s.q q.val with held := setAt (s.q q.val).held i { a with taken := a.taken + 1 }, lock := some i, lastVal := getAt a.words a.taken 0 } with hh
  have hread : s.fresh.hmqRead q.val = ((getAt a.words a.taken 0).toNat, (s.fresh.qRefresh q.val).putQ q.val h) := by
    rw [hmqRead_eq, hq.same, hfront, hmqTake_more (by rw [hq.same]; exact hi) hw hl, hq.same]
  obtain ⟨t, ht, hresp, hhmq, -, hfr⟩ := answers_hmqRdData (m := m) (priv := priv) hU hread
    ((Chg.refl.fresh.qRefresh (by simp) _).putQ (by simp) _ _)
  have hqt : QueueIs q.val h s.fresh t := (hq.putQ (by rw [State.qRefresh, length_putQ]; exact hk)).of_hmq hhmq
  exact ⟨t, ht, hresp, hqt.same, hqt.other, hfr⟩

/-- The read of a message's last word takes the message off the queue (R447). -/
theorem answers_hmqRdData_last {a : HeldMsg} (hshape : Shaped s) (hU : s.unitAwake 3 = true) (hheld : (s.q q.val).held = [a])
    (hlock : (s.q q.val).lock = some 0) (hl : a.taken + 1 = a.words.length) (hw : a.taken < a.written) :
    Answers (.hmqRdData q m priv) s fun t =>
      Returned m (getAt a.words a.taken 0) s t ∧
      t.q q.val = { s.q q.val with held := [], lock := none, lastVal := getAt a.words a.taken 0 } ∧
      Counts s t (A.HMQ_CNT_READ q.val) 1 ∧ QueueOnly q.val s t ∧
      Framed [A.HMQ_CNT_READ q.val, A.HMQ_CNT_SAT q.val, A.HMQ_EVT q.val] [.hmq, .resp] s t := by
  have hk := hmq_lt hshape q
  have hcnt : hmqCounter q.val (A.HMQ_CNT_READ q.val) := .inr (.inl rfl)
  set ct := s.fld (F.HMQ_CFG_CT_64 q.val) with hct
  have hq : QueueIs q.val ((s.q q.val).refreshed ct) s.fresh (s.fresh.qRefresh q.val) := q_qRefresh hk
  have hheld' : ((s.q q.val).refreshed ct).held = [a.refresh ct] := by rw [Hmq.refreshed, hheld]; rfl
  set h : Hmq := { s.q q.val with held := [], lock := none, lastVal := getAt a.words a.taken 0 } with hh
  have hread : s.fresh.hmqRead q.val =
      ((getAt a.words a.taken 0).toNat, ((s.fresh.qRefresh q.val).putQ q.val h).inc (A.HMQ_CNT_READ q.val)) := by
    have hfront : ((s.q q.val).refreshed ct).front = some 0 := by rw [Hmq.front, Hmq.refreshed, hlock]
    rw [hmqRead_eq, hq.same, hfront, hmqTake_last (a := a.refresh ct) (by rw [hq.same, hheld']; rfl) hw hl, hq.same, hheld']
    rfl
  obtain ⟨t, ht, hresp, hhmq, hreg, hfr⟩ := answers_hmqRdData (R := [A.HMQ_CNT_READ q.val, A.HMQ_CNT_SAT q.val, A.HMQ_EVT q.val])
    (m := m) (priv := priv) hU hread
    (((Chg.refl.fresh.qRefresh (by simp) _).putQ (by simp) _ _).bumpHmq q.isLt hcnt (by simp) (by simp) (by simp) 1)
  have hqt : QueueIs q.val h s.fresh t :=
    (hq.putQ (by rw [State.qRefresh, length_putQ]; exact hk)).of_hmq (hhmq.trans (State.inc_hmq _ _))
  refine ⟨t, ht, hresp, hqt.same, ?_, hqt.other, hfr⟩
  rw [Counts, State.rd_eq_of_reg (hreg _ (hmqCounter_notMem q.isLt hcnt)), State.rd_inc_counts (bumpOk_hmq q.isLt hcnt)]
  rfl

end

/-- Settles O54: each clause is the queue's own operation, by its case. -/
theorem hostMessageQueues : Obligations.HostMessageQueues := by
  unfold Obligations.HostMessageQueues
  refine ⟨fun s q n m rest hs hq hok hi hw hf => answers_hmqMessageOffer_fits hs hq hok hi hw hf,
    fun s q n m rest hs hq hi hw hf hsrc => answers_hmqMessageOffer_refused hs hq hi hw hf hsrc,
    fun s q n m rest hq hi hw hf hsrc => answers_hmqMessageOffer_meter hq hi hw hf hsrc,
    fun s q n hq h => answers_hmqMessageOffer_none hq h,
    fun s q hs hq h => answers_hmqMessageComplete hs hq h,
    fun s q hq h => answers_hmqMessageComplete_idle hq h,
    fun s q m priv hs hU hheld hlock => answers_hmqRdData_empty hs hU hheld hlock,
    fun s q m priv a b hs hU hheld hlock ha hb hp ht hw hl => ?_,
    fun s q m priv a b hs hU hheld hlock ha hb hp ht hw hl => ?_,
    fun s q m priv a hs hU hheld hlock hl hw => answers_hmqRdData_last hs hU hheld hlock hl hw,
    fun s q m priv a hs hU hheld hlock hw => answers_hmqRdData_late hs hU hheld hlock hw,
    fun s q hs hq => answers_hmqPointerMismatch hs hq,
    fun s q m priv hs hd => answers_hmqFlush s q m priv hs hd⟩
  · have hfront : (s.q q.val).front = some 1 := by
      rw [Hmq.front, hlock, hheld]
      simp [pickMsg, ha, hb, hp]
    have h := answers_hmqRdData_first (m := m) (priv := priv) (i := 1) (a := b) hs hU (by rw [hheld]; simp [ha, hb]) hfront (by rw [hheld]; rfl)
      (by omega) (by omega)
    rw [hheld, ht] at h
    exact h
  · have hfront : (s.q q.val).front = some 0 := by
      rw [Hmq.front, hlock, hheld]
      simp [pickMsg, ha, hb, Nat.not_lt.mpr hp]
    have h := answers_hmqRdData_first (m := m) (priv := priv) (i := 0) (a := a) hs hU (by rw [hheld]; simp [ha, hb]) hfront (by rw [hheld]; rfl)
      (by omega) (by omega)
    rw [hheld, ht] at h
    exact h

end Sys2Proof.Machine
end

section
/-! PROOFS. Configuration saves and the installer key (R482, R483, R488, R489), and O58. -/
namespace Sys2Proof.Machine

/-- Registers listed in a list are listed in a longer one. -/
theorem listed_mono {l k : List Nat} (h : l ⊆ k) (a : Nat) : Listed l a → Listed k a := Or.imp_left fun x => h x

/-! ### What records leave of the management state -/

/-- The management state less the lifetime counters and the log's staging. -/
def Mgmt.kept (x : Mgmt) : Mgmt := { x with life := [], lifeSat := 0, staging := [], logSeq := 0, logLost := 0 }

theorem life_kept (s : State) (k n : Nat) : (s.life k n).mgmt.kept = s.mgmt.kept := by
  unfold State.life
  dsimp only
  split
  · rfl
  · rw [State.event_mgmt]
    rfl

theorem log_kept (s : State) (r c v : Nat) (p : List Nat) : (s.log r c v p).mgmt.kept = s.mgmt.kept := by
  unfold State.log State.logBy
  split
  · rfl
  · rw [State.event_mgmt]
    rfl

theorem fld_log_free {s : State} {g : Fld} (r c v : Nat) (p : List Nat) (h : F.MGMT_EVT_LOG_LOST.free g = true) : (s.log r c v p).fld g = s.fld g := by
  unfold State.log State.logBy
  split
  · rfl
  · exact State.fld_event_free _ h

/-! ### SAVE (R482) -/

theorem requestSave_idle {s : State} (h : s.on F.MGMT_CFG_STATUS_BUSY = false) :
    s.requestSave = (s.updMgmt fun x => { x with saveSnap := some s.snapshot }).set F.MGMT_CFG_STATUS_BUSY 1 :=
  if_neg (by rw [h]; exact Bool.false_ne_true)

section
variable {s : State} {m : Master} {priv : Bool}

theorem cfgCtl_strikes : Strikes A.MGMT_CFG_CTL 1 := fun v => by cases v <;> decide

theorem answers_cfgSave {P : State → Prop} (hd : Direct s m priv A.MGMT_CFG_CTL)
    (h : P (s.seal s.fresh.requestSave)) : Answers (.cfgSave m priv) s P := by
  have heff : s.fresh.strike m priv A.MGMT_CFG_CTL 1 = s.fresh.requestSave := by
    rw [hd.strike cfgCtl_strikes]
    rfl
  have hframe : Chg (Listed [A.MGMT_CFG_STATUS]) (Parts [.mgmt]) NoMem s s.fresh.requestSave := by simp
  exact answers_effect _ rfl heff hframe h

theorem answers_cfgSave_idle (hd : Direct s m priv A.MGMT_CFG_CTL) (hb : s.on F.MGMT_CFG_STATUS_BUSY = false) :
    Answers (.cfgSave m priv) s fun t =>
      t.on F.MGMT_CFG_STATUS_BUSY = true ∧ t.mgmt = { s.mgmt with saveSnap := some s.snapshot } ∧ Framed [A.MGMT_CFG_STATUS] [.mgmt] s t := by
  have hframe : Chg (Listed [A.MGMT_CFG_STATUS]) (Parts [.mgmt]) NoMem s s.fresh.requestSave := by simp
  have heq : s.fresh.requestSave = (s.fresh.updMgmt fun x => { x with saveSnap := some s.fresh.snapshot }).set F.MGMT_CFG_STATUS_BUSY 1 :=
    requestSave_idle hb
  refine answers_cfgSave hd ⟨?_, ?_, hframe.framed⟩
  · rw [State.on_seal _ _ (by decide), heq]
    exact State.on_event_same _ (by decide)
  · rw [State.seal_mgmt, heq, State.set_mgmt]
    rfl

theorem answers_cfgSave_busy (hd : Direct s m priv A.MGMT_CFG_CTL) (hb : s.on F.MGMT_CFG_STATUS_BUSY = true) :
    Answers (.cfgSave m priv) s fun t => t.on F.MGMT_CFG_STATUS_PENDING = true ∧ Framed [A.MGMT_CFG_STATUS] [] s t := by
  have heq : s.fresh.requestSave = s.fresh.set F.MGMT_CFG_STATUS_PENDING 1 := if_pos hb
  have hframe : Chg (Listed [A.MGMT_CFG_STATUS]) (Parts []) NoMem s s.fresh.requestSave := by
    rw [heq]
    exact Chg.refl.fresh.set _ _ (by simp)
  refine answers_cfgSave hd ⟨?_, hframe.framed⟩
  rw [State.on_seal _ _ (by decide), heq]
  exact State.on_event_same _ (by decide)

end

/-! ### The end of a save (R483) -/

section
variable (s : State)

/-- The free value of a save's length. -/
def State.saveLen : Nat := 8 + (s.free 20).1 % 1048569

/-- A save's slot written and its snapshot gone. -/
def State.saved (x : CfgSlot) (ok : Bool) : State :=
  ((((s.free 20).2.putSlot s.saveTarget { x with gen := (s.rd A.MGMT_CFG_GEN + 1) % 2 ^ 32, length := s.saveLen, good := ok }).updMgmt
    fun m => { m with saveSnap := none }).life (if s.saveTarget then 16 else 15) ((s.saveLen + 15) / 16)).set F.MGMT_CFG_STATUS_BUSY 0

/-- The report of a save that read back right. -/
def State.saveGood (u : State) : State :=
  (((((u.set F.MGMT_CFG_STATUS_SLOT (if s.saveTarget then 1 else 0)).wr A.MGMT_CFG_GEN ((s.rd A.MGMT_CFG_GEN + 1) % 2 ^ 32)).set
    F.MGMT_CFG_STATUS_LAST 1).set F.SYS_STATUS_CFG_DEFAULT 0).event F.MGMT_EVT_CFG_SAVED).log 17 0x11 0
      [if s.saveTarget then 1 else 0, (s.rd A.MGMT_CFG_GEN + 1) % 2 ^ 32, 1]

/-- The report of a save that did not. -/
def State.saveBad (u : State) : State :=
  ((u.set F.MGMT_CFG_STATUS_LAST 2).event F.MGMT_EVT_CFG_SAVE_FAIL).log 17 0x11 3
    [if s.saveTarget then 1 else 0, (s.rd A.MGMT_CFG_GEN + 1) % 2 ^ 32, 2]

/-- The state before a pending save is taken up. -/
def State.saveEnd (x : CfgSlot) (ok : Bool) : State := if ok then s.saveGood (s.saved x ok) else s.saveBad (s.saved x ok)

theorem saveDone_eq {x : CfgSlot} (h : s.mgmt.saveSnap = some x) (ok : Bool) :
    s.saveDone ok = (s.saveEnd x ok).when ((s.saveEnd x ok).on F.MGMT_CFG_STATUS_PENDING) fun s => (s.set F.MGMT_CFG_STATUS_PENDING 0).requestSave := by
  unfold State.saveDone
  rw [h]
  cases ok <;> rfl

end

section
variable {s : State} {x : CfgSlot}

theorem chg_saved (x : CfgSlot) (ok : Bool) : Chg (Listed [A.MGMT_CFG_STATUS, A.MGMT_EVT]) (Parts [.mgmt, .free]) NoMem s (s.fresh.saved x ok) := by
  simp [State.saved, State.putSlot]

theorem chg_saveGood {R : Nat → Prop} {P : Part → Prop} {u : State} (h : Chg R P NoMem s u) (h1 : R A.MGMT_CFG_STATUS) (h2 : R A.MGMT_CFG_GEN)
    (h3 : R A.SYS_STATUS) (h4 : R A.MGMT_EVT) (hp : P .mgmt) : Chg R P NoMem s (s.fresh.saveGood u) :=
  (((((h.set _ _ h1).wr _ _ h2).set _ _ h1).set _ _ h3).event _ h4).log _ _ _ _ h4 hp

theorem chg_saveBad {R : Nat → Prop} {P : Part → Prop} {u : State} (h : Chg R P NoMem s u) (h1 : R A.MGMT_CFG_STATUS) (h4 : R A.MGMT_EVT)
    (hp : P .mgmt) : Chg R P NoMem s (s.fresh.saveBad u) :=
  ((h.set _ _ h1).event _ h4).log _ _ _ _ h4 hp

theorem chg_saveEnd (x : CfgSlot) (ok : Bool) :
    Chg (Listed [A.MGMT_CFG_STATUS, A.MGMT_CFG_GEN, A.SYS_STATUS, A.MGMT_EVT]) (Parts [.mgmt, .free]) NoMem s (s.fresh.saveEnd x ok) := by
  have h : Chg (Listed [A.MGMT_CFG_STATUS, A.MGMT_CFG_GEN, A.SYS_STATUS, A.MGMT_EVT]) (Parts [.mgmt, .free]) NoMem s (s.fresh.saved x ok) :=
    (chg_saved x ok).mono (listed_mono (by simp)) (fun _ h => h) (fun _ h => h)
  cases ok
  · exact chg_saveBad h (by simp) (by simp) (by simp)
  · exact chg_saveGood h (by simp) (by simp) (by simp) (by simp) (by simp)

/-- The management state once a save has ended, less what records change. -/
theorem saveEnd_kept (x : CfgSlot) (ok : Bool) :
    (s.saveEnd x ok).mgmt.kept = { ((s.putSlot s.saveTarget { x with gen := (s.rd A.MGMT_CFG_GEN + 1) % 2 ^ 32, length := s.saveLen, good := ok }).mgmt)
      with saveSnap := none }.kept := by
  have h : (s.saved x ok).mgmt.kept = { ((s.putSlot s.saveTarget { x with gen := (s.rd A.MGMT_CFG_GEN + 1) % 2 ^ 32, length := s.saveLen, good := ok }).mgmt)
      with saveSnap := none }.kept := by
    rw [State.saved, State.set_mgmt, life_kept]
    rfl
  cases ok
  · rw [← h]
    exact (log_kept _ _ _ _ _).trans (by rw [State.event_mgmt, State.set_mgmt])
  · rw [← h]
    exact (log_kept _ _ _ _ _).trans (by rw [State.event_mgmt, State.set_mgmt, State.set_mgmt, State.wr_mgmt, State.set_mgmt])

theorem saveEnd_snap (x : CfgSlot) (ok : Bool) : (s.saveEnd x ok).mgmt.saveSnap = none := congrArg Mgmt.saveSnap (saveEnd_kept x ok)

theorem saveEnd_slot (x : CfgSlot) (ok : Bool) (b : Bool) :
    (s.saveEnd x ok).cfgSlot b =
      if b = s.saveTarget then { x with gen := (s.rd A.MGMT_CFG_GEN + 1) % 2 ^ 32, length := s.saveLen, good := ok } else s.cfgSlot b := by
  set y : CfgSlot := { x with gen := (s.rd A.MGMT_CFG_GEN + 1) % 2 ^ 32, length := s.saveLen, good := ok } with hy
  have hk := saveEnd_kept (s := s) x ok
  rw [← hy] at hk
  cases b
  · exact (congrArg Mgmt.slotA hk).trans (by rw [State.putSlot]; cases s.saveTarget <;> rfl)
  · exact (congrArg Mgmt.slotB hk).trans (by rw [State.putSlot]; cases s.saveTarget <;> rfl)

theorem saved_fld {g : Fld} (h1 : F.MGMT_CFG_STATUS_BUSY.free g = true) (h2 : g.adr ≠ A.MGMT_EVT) (x : CfgSlot) (ok : Bool) :
    (s.saved x ok).fld g = s.fld g := by
  rw [State.saved, State.fld_set_free _ h1, State.fld_life_ne _ _ h2]
  rfl

/-- A field that a save's report leaves alone. -/
theorem saveEnd_fld {g : Fld} (h1 : F.MGMT_CFG_STATUS_SLOT.free g = true) (h2 : F.MGMT_CFG_STATUS_LAST.free g = true) (h3 : g.adr ≠ A.MGMT_EVT)
    (h4 : g.adr ≠ A.MGMT_CFG_GEN) (h5 : g.adr ≠ A.SYS_STATUS) (x : CfgSlot) (ok : Bool) : (s.saveEnd x ok).fld g = (s.saved x ok).fld g := by
  cases ok
  · exact (State.fld_log_ne _ _ _ _ h3).trans ((State.fld_event_ne h3).trans (State.fld_set_free _ h2 _))
  · exact (State.fld_log_ne _ _ _ _ h3).trans ((State.fld_event_ne h3).trans ((State.fld_set_ne _ _ h5).trans
      ((State.fld_set_free _ h2 _).trans ((State.fld_wr_ne _ _ h4).trans (State.fld_set_free _ h1 _)))))

theorem saveEnd_pending (x : CfgSlot) (ok : Bool) : (s.saveEnd x ok).on F.MGMT_CFG_STATUS_PENDING = s.on F.MGMT_CFG_STATUS_PENDING := by
  rw [State.on, saveEnd_fld (by decide) (by decide) (by decide) (by decide) (by decide), saved_fld (by decide) (by decide), ← State.on]

theorem saved_busy (x : CfgSlot) (ok : Bool) : (s.saved x ok).fld F.MGMT_CFG_STATUS_BUSY = 0 := by
  rw [State.saved]
  exact (State.fld_set_same _ (by decide) 0).trans (Nat.zero_mod _)

theorem saveEnd_busy (x : CfgSlot) (ok : Bool) : (s.saveEnd x ok).fld F.MGMT_CFG_STATUS_BUSY = 0 := by
  rw [saveEnd_fld (by decide) (by decide) (by decide) (by decide) (by decide), saved_busy]

theorem saveDone_plain (h : s.mgmt.saveSnap = some x) (hp : s.on F.MGMT_CFG_STATUS_PENDING = false) (ok : Bool) : s.saveDone ok = s.saveEnd x ok := by
  rw [saveDone_eq s h, saveEnd_pending, hp]
  rfl

theorem answers_cfgSaveComplete_none (h : s.mgmt.saveSnap = none) (ok : Bool) : Answers (.cfgSaveComplete ok) s fun t => Framed [] [] s t := by
  have heff : s.fresh.saveDone ok = s.fresh := by rw [State.saveDone, show s.fresh.mgmt.saveSnap = none from h]
  have hframe : Chg (Listed []) (Parts []) NoMem s s.fresh := Chg.refl.fresh
  exact answers_effect _ rfl heff hframe hframe.framed

/-- A save that reads back right becomes the slot in force. -/
theorem answers_cfgSaveComplete_good (h : s.mgmt.saveSnap = some x) (hp : s.on F.MGMT_CFG_STATUS_PENDING = false) :
    Answers (.cfgSaveComplete true) s fun t =>
      t.on F.MGMT_CFG_STATUS_BUSY = false ∧ t.fld F.MGMT_CFG_STATUS_LAST = 1 ∧
      t.fld F.MGMT_CFG_STATUS_SLOT = (if s.saveTarget then 1 else 0) ∧ t.rd A.MGMT_CFG_GEN = (s.rd A.MGMT_CFG_GEN + 1) % 2 ^ 32 ∧
      t.on F.SYS_STATUS_CFG_DEFAULT = false ∧ t.on F.MGMT_EVT_CFG_SAVED = true ∧ t.mgmt.saveSnap = none ∧
      (∃ len, t.cfgSlot s.saveTarget = { x with gen := t.rd A.MGMT_CFG_GEN, length := len, good := true }) ∧
      t.cfgSlot (!s.saveTarget) = s.cfgSlot (!s.saveTarget) ∧
      Framed [A.MGMT_CFG_STATUS, A.MGMT_CFG_GEN, A.SYS_STATUS, A.MGMT_EVT] [.mgmt, .free] s t := by
  set b := s.saveTarget with hb
  set g := (s.rd A.MGMT_CFG_GEN + 1) % 2 ^ 32 with hg
  set u0 := s.fresh.saved x true with hu0
  set u1 := (u0.set F.MGMT_CFG_STATUS_SLOT (if b then 1 else 0)).wr A.MGMT_CFG_GEN g with hu1
  set u2 := u1.set F.MGMT_CFG_STATUS_LAST 1 with hu2
  set u3 := u2.set F.SYS_STATUS_CFG_DEFAULT 0 with hu3
  set u4 := u3.event F.MGMT_EVT_CFG_SAVED with hu4
  set u := u4.log 17 0x11 0 [if b then 1 else 0, g, 1] with hu
  have huend : s.fresh.saveEnd x true = u := rfl
  have heff : s.fresh.saveDone true = u := (saveDone_plain (s := s.fresh) h hp true).trans huend
  have hframe := chg_saveEnd (s := s) x true
  rw [huend] at hframe
  have hafter {f : Fld} (h1 : f.adr ≠ A.MGMT_EVT) (h2 : f.adr ≠ A.SYS_STATUS) : u.fld f = u2.fld f := by
    rw [hu, State.fld_log_ne _ _ _ _ h1, hu4, State.fld_event_ne h1, hu3, State.fld_set_ne _ _ h2]
  have hgen : (s.seal u).rd A.MGMT_CFG_GEN = g := by
    rw [State.rd_seal _ _ (by decide), State.rd_eq_of_reg (State.reg_log_ne u4 _ _ _ _ (by decide)), hu4, State.rd_event_ne (by decide), hu3,
      State.rd_set_ne _ (by decide), hu2, State.rd_set_ne _ (by decide), hu1, State.rd_wr_same]
    exact Nat.mod_eq_of_lt (Nat.mod_lt _ (by norm_num))
  have hslot (c : Bool) : (s.seal u).cfgSlot c = u.cfgSlot c := by rw [State.cfgSlot, State.cfgSlot, State.seal_mgmt]
  refine answers_effect _ rfl heff hframe ⟨?_, ?_, ?_, hgen, ?_, ?_, ?_, ?_, ?_, hframe.framed⟩
  · rw [State.on_seal _ _ (by decide), State.on, hafter (by decide) (by decide), hu2, State.fld_set_free _ (by decide), hu1,
      State.fld_wr_ne _ _ (by decide), State.fld_set_free _ (by decide), hu0, saved_busy]
    rfl
  · rw [State.fld_seal _ _ (by decide), hafter (by decide) (by decide)]
    exact State.fld_set_same _ (by decide) 1
  · rw [State.fld_seal _ _ (by decide), hafter (by decide) (by decide), hu2, State.fld_set_free _ (by decide), hu1,
      State.fld_wr_ne _ _ (by decide), State.fld_set_same _ (by decide)]
    cases b <;> rfl
  · rw [State.on_seal _ _ (by decide), State.on, hu, State.fld_log_ne _ _ _ _ (by decide), hu4, State.fld_event_ne (by decide), hu3,
      State.fld_set_same _ (by decide)]
    rfl
  · rw [State.on_seal _ _ (by decide), State.on, hu, fld_log_free _ _ _ _ (by decide)]
    exact State.on_event_same _ (by decide)
  · rw [State.seal_mgmt]
    exact saveEnd_snap (s := s.fresh) x true
  · refine ⟨s.fresh.saveLen, ?_⟩
    rw [hslot, hgen]
    exact (saveEnd_slot (s := s.fresh) x true b).trans (if_pos rfl)
  · rw [hslot]
    exact (saveEnd_slot (s := s.fresh) x true (!b)).trans (if_neg (by rw [show s.fresh.saveTarget = b from rfl]; cases b <;> decide))

/-- A save that does not leaves the other slot to stand. -/
theorem answers_cfgSaveComplete_bad (h : s.mgmt.saveSnap = some x) (hp : s.on F.MGMT_CFG_STATUS_PENDING = false) :
    Answers (.cfgSaveComplete false) s fun t =>
      t.on F.MGMT_CFG_STATUS_BUSY = false ∧ t.fld F.MGMT_CFG_STATUS_LAST = 2 ∧ t.on F.MGMT_EVT_CFG_SAVE_FAIL = true ∧
      (t.cfgSlot s.saveTarget).good = false ∧ t.cfgSlot (!s.saveTarget) = s.cfgSlot (!s.saveTarget) ∧ t.mgmt.saveSnap = none ∧
      Framed [A.MGMT_CFG_STATUS, A.MGMT_EVT] [.mgmt, .free] s t := by
  set b := s.saveTarget with hb
  set u0 := s.fresh.saved x false with hu0
  set u1 := u0.set F.MGMT_CFG_STATUS_LAST 2 with hu1
  set u2 := u1.event F.MGMT_EVT_CFG_SAVE_FAIL with hu2
  set u := u2.log 17 0x11 3 [if b then 1 else 0, (s.rd A.MGMT_CFG_GEN + 1) % 2 ^ 32, 2] with hu
  have huend : s.fresh.saveEnd x false = u := rfl
  have heff : s.fresh.saveDone false = u := (saveDone_plain (s := s.fresh) h hp false).trans huend
  have hframe : Chg (Listed [A.MGMT_CFG_STATUS, A.MGMT_EVT]) (Parts [.mgmt, .free]) NoMem s u :=
    chg_saveBad (chg_saved x false) (by simp) (by simp) (by simp)
  have hslot (c : Bool) : (s.seal u).cfgSlot c = u.cfgSlot c := by rw [State.cfgSlot, State.cfgSlot, State.seal_mgmt]
  refine answers_effect _ rfl heff hframe ⟨?_, ?_, ?_, ?_, ?_, ?_, hframe.framed⟩
  · rw [State.on_seal _ _ (by decide), State.on, hu, State.fld_log_ne _ _ _ _ (by decide), hu2, State.fld_event_ne (by decide), hu1,
      State.fld_set_free _ (by decide), hu0, saved_busy]
    rfl
  · rw [State.fld_seal _ _ (by decide), hu, State.fld_log_ne _ _ _ _ (by decide), hu2, State.fld_event_ne (by decide)]
    exact State.fld_set_same _ (by decide) 2
  · rw [State.on_seal _ _ (by decide), State.on, hu, fld_log_free _ _ _ _ (by decide)]
    exact State.on_event_same _ (by decide)
  · rw [hslot]
    exact congrArg CfgSlot.good ((saveEnd_slot (s := s.fresh) x false b).trans (if_pos rfl))
  · rw [hslot]
    exact (saveEnd_slot (s := s.fresh) x false (!b)).trans (if_neg (by rw [show s.fresh.saveTarget = b from rfl]; cases b <;> decide))
  · rw [State.seal_mgmt]
    exact saveEnd_snap (s := s.fresh) x false

/-- A pending save is taken up: it is under way, and no other is pending. -/
theorem pending_taken {v : State} (hb : v.fld F.MGMT_CFG_STATUS_BUSY = 0) :
    (v.set F.MGMT_CFG_STATUS_PENDING 0).requestSave.fld F.MGMT_CFG_STATUS_BUSY = 1 ∧
      (v.set F.MGMT_CFG_STATUS_PENDING 0).requestSave.fld F.MGMT_CFG_STATUS_PENDING = 0 ∧
      (v.set F.MGMT_CFG_STATUS_PENDING 0).requestSave.mgmt.saveSnap.isSome = true := by
  have hbusy : (v.set F.MGMT_CFG_STATUS_PENDING 0).on F.MGMT_CFG_STATUS_BUSY = false := by
    rw [State.on, State.fld_set_free _ (by decide), hb]
    rfl
  rw [requestSave_idle hbusy]
  refine ⟨State.fld_set_same _ (by decide) 1, ?_, ?_⟩
  · rw [State.fld_set_free _ (by decide), State.fld_updMgmt, State.fld_set_same _ (by decide), Nat.zero_mod]
  · rw [State.set_mgmt]
    rfl

/-- A pending save follows at once. -/
theorem answers_cfgSaveComplete_pending (h : s.mgmt.saveSnap = some x) (hp : s.on F.MGMT_CFG_STATUS_PENDING = true) (ok : Bool) :
    Answers (.cfgSaveComplete ok) s fun t =>
      t.on F.MGMT_CFG_STATUS_BUSY = true ∧ t.on F.MGMT_CFG_STATUS_PENDING = false ∧ t.mgmt.saveSnap.isSome = true ∧ MemKept s t := by
  obtain ⟨hbusy, hpend, hsnap⟩ := pending_taken (saveEnd_busy (s := s.fresh) x ok)
  have heff : s.fresh.saveDone ok = ((s.fresh.saveEnd x ok).set F.MGMT_CFG_STATUS_PENDING 0).requestSave := by
    rw [saveDone_eq s.fresh h ok, saveEnd_pending, show s.fresh.on F.MGMT_CFG_STATUS_PENDING = true from hp, State.when_true]
  have hframe : Chg (Listed [A.MGMT_CFG_STATUS, A.MGMT_CFG_GEN, A.SYS_STATUS, A.MGMT_EVT]) (Parts [.mgmt, .free]) NoMem s
      ((s.fresh.saveEnd x ok).set F.MGMT_CFG_STATUS_PENDING 0).requestSave :=
    (chg_requestSave (by simp) (by simp)).mpr ((chg_saveEnd x ok).set _ _ (by simp))
  refine answers_effect _ rfl heff hframe ⟨?_, ?_, ?_, hframe.memKept⟩
  · rw [State.on_seal _ _ (by decide), State.on, hbusy]
    rfl
  · rw [State.on_seal _ _ (by decide), State.on, hpend]
    rfl
  · rw [State.seal_mgmt, hsnap]

end

/-! ### The installer key (R488, R489) -/

section
variable {s : State}

theorem keyCtl_strikes : Strikes A.MGMT_KEY_CTL 1 := fun v => by cases v <;> decide

theorem keyCtl_effect {m : Master} {priv : Bool} (hd : Direct s m priv A.MGMT_KEY_CTL) :
    s.fresh.strike m priv A.MGMT_KEY_CTL 1 = s.fresh.keyCommitOp m := by
  rw [hd.strike keyCtl_strikes]
  rfl

/-- COMMIT of an all-zero key, or while one is being written, is refused. -/
theorem answers_keyCommit_refused {m : Master} {priv : Bool} (hd : Direct s m priv A.MGMT_KEY_CTL)
    (h : s.mgmt.stageKey.all (fun w => w == 0) = true ∨ s.on F.MGMT_KEY_STATUS_BUSY = true) :
    Answers (.keyCommit m priv) s fun t => t.on F.MGMT_KEY_STATUS_REFUSED = true ∧ Framed [A.MGMT_KEY_STATUS] [] s t := by
  set u := s.fresh.set F.MGMT_KEY_STATUS_REFUSED 1 with hu
  have heff : s.fresh.strike m priv A.MGMT_KEY_CTL 1 = u := (keyCtl_effect hd).trans (if_pos ((Bool.or_eq_true _ _).mpr h))
  have hframe : Chg (Listed [A.MGMT_KEY_STATUS]) (Parts []) NoMem s u := Chg.refl.fresh.set _ _ (by simp)
  refine answers_effect _ rfl heff hframe ⟨?_, hframe.framed⟩
  rw [State.on_seal _ _ (by decide)]
  exact State.on_event_same _ (by decide)

theorem answers_keyCommit {m : Master} {priv : Bool} (hd : Direct s m priv A.MGMT_KEY_CTL)
    (hz : s.mgmt.stageKey.all (fun w => w == 0) = false) (hb : s.on F.MGMT_KEY_STATUS_BUSY = false) :
    Answers (.keyCommit m priv) s fun t =>
      t.on F.MGMT_KEY_STATUS_BUSY = true ∧ t.mgmt = { s.mgmt with keyCommit := some (s.mgmt.stageKey, m.code) } ∧
      Framed [A.MGMT_KEY_STATUS] [.mgmt] s t := by
  set u := (s.fresh.updMgmt fun x => { x with keyCommit := some (x.stageKey, m.code) }).set F.MGMT_KEY_STATUS_BUSY 1 with hu
  have heff : s.fresh.strike m priv A.MGMT_KEY_CTL 1 = u := by
    refine (keyCtl_effect hd).trans (if_neg ?_)
    rw [Bool.or_eq_true, show s.fresh.mgmt.stageKey.all (fun w => w == 0) = false from hz, show s.fresh.on F.MGMT_KEY_STATUS_BUSY = false from hb]
    decide
  have hframe : Chg (Listed [A.MGMT_KEY_STATUS]) (Parts [.mgmt]) NoMem s u := (Chg.refl.fresh.mgmt _ (by simp)).set _ _ (by simp)
  refine answers_effect _ rfl heff hframe ⟨?_, ?_, hframe.framed⟩
  · rw [State.on_seal _ _ (by decide)]
    exact State.on_event_same _ (by decide)
  · rw [State.seal_mgmt, hu, State.set_mgmt]
    rfl

theorem answers_keyCommitComplete_none (h : s.mgmt.keyCommit = none) : Answers .keyCommitComplete s fun t => Framed [] [] s t := by
  have heff : (if s.fresh.mgmt.keyCommit.isSome then s.fresh.keyDone.closeInstaller else s.fresh) = s.fresh :=
    if_neg (by rw [show s.fresh.mgmt.keyCommit = none from h]; exact Bool.false_ne_true)
  have hframe : Chg (Listed []) (Parts []) NoMem s s.fresh := Chg.refl.fresh
  exact answers_effect _ rfl heff hframe hframe.framed

/-- Sessions that hold nothing only leave the list when they close. -/
theorem forL_closeSession (l : List Session) : ∀ v : State, v.scp.holds = [] →
    forL l (fun x s => s.closeSession x.id) v =
      v.updScp fun z => { z with sessions := z.sessions.filter fun y => l.all fun x => y.id != x.id } := by
  induction l with
  | nil =>
    intro v _
    simp only [forL, List.foldl_nil, State.updScp, List.all_nil, List.filter_true]
  | cons x l ih =>
    intro v hv
    obtain ⟨w, hw⟩ : ∃ w, w = v.updScp fun z => { z with sessions := z.sessions.filter fun y => y.id != x.id } := ⟨_, rfl⟩
    have h1 : v.closeSession x.id = w := by
      rw [State.closeSession, hv, hw]
      rfl
    have hwh : w.scp.holds = [] := by rw [hw]; exact hv
    show forL l _ (v.closeSession x.id) = _
    rw [h1, ih w hwh, hw]
    simp only [State.updScp, List.filter_filter, List.all_cons, Bool.and_comm]

/-- Once both copies are written the sessions opened with the old key are closed. -/
theorem closeInstaller_eq {v : State} (hv : v.scp.holds = []) :
    v.closeInstaller = v.updScp fun z => { z with sessions := z.sessions.filter fun y =>
      (v.scp.sessions.filter fun x => x.privileged).all fun x => y.id != x.id } := forL_closeSession _ v hv

theorem closeInstaller_sessions {v : State} (hv : v.scp.holds = []) : ∀ y ∈ v.closeInstaller.scp.sessions, y.privileged = false := by
  rw [closeInstaller_eq hv]
  intro y hy
  obtain ⟨hin, hall⟩ := List.mem_filter.mp hy
  by_contra hp
  have h := List.all_eq_true.mp hall y (List.mem_filter.mpr ⟨hin, Bool.eq_true_of_not_eq_false hp⟩)
  exact absurd rfl (bne_iff_ne.mp h)

/-- The version of a new key. -/
def State.nextVersion (s : State) : Nat :=
  match s.keyInForce with
  | none => 1
  | some (_, c) => (c.version + 1) % 2 ^ 32

/-- The management state once both copies of a key are written. -/
def State.keyStored (s : State) (k : List Word) : State :=
  s.updMgmt fun x => { x with keyA := ⟨true, k, s.nextVersion⟩, keyB := ⟨true, k, s.nextVersion⟩, keyCommit := none, stageKey := List.replicate 8 0 }

/-- The registers that report a new key. -/
def State.keyShown (u : State) (v : Nat) : State :=
  (((((u.life 17 2).set F.MGMT_KEY_STATUS_BUSY 0).set F.MGMT_KEY_STATUS_VALID 1).set F.MGMT_KEY_STATUS_VERSION (v % 65536)).set
    F.SYS_STATUS_KEY_FAIL 0).event F.MGMT_EVT_KEY_CHANGED

theorem keyDone_eq {k : List Word} {mc : Nat} (h : s.mgmt.keyCommit = some (k, mc)) :
    s.keyDone = ((s.keyStored k).keyShown s.nextVersion).log 17 0x20 1 [s.nextVersion, mc] := by
  unfold State.keyDone
  rw [h]
  rfl

theorem chg_keyDone {k : List Word} {mc : Nat} (h : s.mgmt.keyCommit = some (k, mc)) :
    Chg (Listed [A.MGMT_KEY_STATUS, A.SYS_STATUS, A.MGMT_EVT]) (Parts [.mgmt]) NoMem s s.fresh.keyDone := by
  rw [keyDone_eq (s := s.fresh) h]
  simp [State.keyShown, State.keyStored]

/-- The management state after a new key, less what records change. -/
theorem keyDone_kept {k : List Word} {mc : Nat} (h : s.mgmt.keyCommit = some (k, mc)) : s.keyDone.mgmt.kept = (s.keyStored k).mgmt.kept := by
  rw [keyDone_eq h, log_kept, State.keyShown]
  simp only [State.event_mgmt, State.set_mgmt, life_kept]

theorem keyDone_fld {k : List Word} {mc : Nat} (h : s.mgmt.keyCommit = some (k, mc)) {g : Fld} (hg : F.MGMT_EVT_LOG_LOST.free g = true) :
    s.keyDone.fld g = ((s.keyStored k).keyShown s.nextVersion).fld g := by rw [keyDone_eq h, fld_log_free _ _ _ _ hg]

/-- Once both copies are written the key is in force with the next version. -/
theorem answers_keyCommitComplete {k : List Word} {mc : Nat} (h : s.mgmt.keyCommit = some (k, mc)) (hh : s.scp.holds = []) :
    Answers .keyCommitComplete s fun t =>
      t.mgmt.keyA = t.mgmt.keyB ∧ t.mgmt.keyA.ok = true ∧ t.mgmt.keyA.key = k ∧ t.mgmt.keyA.version = s.nextVersion ∧
      t.fld F.MGMT_KEY_STATUS_VERSION = t.mgmt.keyA.version % 2 ^ 16 ∧ t.on F.MGMT_KEY_STATUS_VALID = true ∧
      t.on F.MGMT_KEY_STATUS_BUSY = false ∧ t.on F.SYS_STATUS_KEY_FAIL = false ∧ t.on F.MGMT_EVT_KEY_CHANGED = true ∧
      t.mgmt.stageKey = List.replicate 8 0 ∧ t.mgmt.keyCommit = none ∧ (∀ x ∈ t.scp.sessions, x.privileged = false) ∧
      Framed [A.MGMT_KEY_STATUS, A.SYS_STATUS, A.MGMT_EVT] [.mgmt, .scp] s t := by
  set v := s.fresh.keyDone with hv
  set u := v.closeInstaller with hu
  have hchg : Chg (Listed [A.MGMT_KEY_STATUS, A.SYS_STATUS, A.MGMT_EVT]) (Parts [.mgmt]) NoMem s v := chg_keyDone h
  have hholds : v.scp.holds = [] := by rw [hchg.part .scp (by simp), hh]
  have hclose := closeInstaller_eq hholds
  have heff : (if s.fresh.mgmt.keyCommit.isSome then v.closeInstaller else s.fresh) = u :=
    if_pos (by rw [show s.fresh.mgmt.keyCommit = some (k, mc) from h]; rfl)
  have hframe : Chg (Listed [A.MGMT_KEY_STATUS, A.SYS_STATUS, A.MGMT_EVT]) (Parts [.mgmt, .scp]) NoMem s u := by
    rw [hu, hclose]
    exact (hchg.mono (fun _ h => h) (by simp +contextual) (fun _ h => h)).scp _ (by simp)
  have hreg {g : Fld} (hg : F.MGMT_EVT_LOG_LOST.free g = true) : u.fld g = ((s.fresh.keyStored k).keyShown s.nextVersion).fld g := by
    show _ = ((s.fresh.keyStored k).keyShown s.fresh.nextVersion).fld g
    rw [← keyDone_fld (s := s.fresh) h hg, hu, hclose]
    rfl
  have hkept : (s.seal u).mgmt.kept = (s.fresh.keyStored k).mgmt.kept := by
    rw [State.seal_mgmt, ← keyDone_kept (s := s.fresh) h, hu, hclose]
    rfl
  have hA := congrArg Mgmt.keyA hkept
  have hB := congrArg Mgmt.keyB hkept
  have hAv : (s.seal u).mgmt.keyA = ⟨true, k, s.nextVersion⟩ := hA
  refine answers_effect _ rfl heff hframe ⟨hA.trans hB.symm, ?_, ?_, ?_, ?_, ?_, ?_, ?_, ?_, congrArg Mgmt.stageKey hkept,
    congrArg Mgmt.keyCommit hkept, ?_, hframe.framed⟩
  · rw [hAv]
  · rw [hAv]
  · rw [hAv]
  · rw [State.fld_seal _ _ (by decide), hreg (by decide), hAv, State.keyShown, State.fld_event_ne (by decide), State.fld_set_ne _ _ (by decide),
      State.fld_set_same _ (by decide)]
    exact Nat.mod_mod _ _
  · rw [State.on_seal _ _ (by decide), State.on, hreg (by decide), State.keyShown, State.fld_event_ne (by decide), State.fld_set_ne _ _ (by decide),
      State.fld_set_free _ (by decide), State.fld_set_same _ (by decide)]
    rfl
  · rw [State.on_seal _ _ (by decide), State.on, hreg (by decide), State.keyShown, State.fld_event_ne (by decide), State.fld_set_ne _ _ (by decide),
      State.fld_set_free _ (by decide), State.fld_set_free _ (by decide), State.fld_set_same _ (by decide)]
    rfl
  · rw [State.on_seal _ _ (by decide), State.on, hreg (by decide), State.keyShown, State.fld_event_ne (by decide), State.fld_set_same _ (by decide)]
    rfl
  · rw [State.on_seal _ _ (by decide), State.on, hreg (by decide)]
    exact State.on_event_same _ (by decide)
  · rw [State.seal_scp]
    exact closeInstaller_sessions hholds

end

/-- Settles the part of O58 on configuration saves. -/
theorem configurationSaves : ConfigurationSaves :=
  ⟨fun _ _ _ hd hb => answers_cfgSave_idle hd hb, fun _ _ _ hd hb => answers_cfgSave_busy hd hb,
    fun _ _ h hp => answers_cfgSaveComplete_good h hp, fun _ _ h hp => answers_cfgSaveComplete_bad h hp,
    fun _ _ ok h hp => answers_cfgSaveComplete_pending h hp ok, fun _ ok h => answers_cfgSaveComplete_none h ok⟩

/-- Settles the part of O58 on the installer key. -/
theorem installerKey : InstallerKey :=
  ⟨fun _ _ _ hd h => answers_keyCommit_refused hd h, fun _ _ _ hd _ hz hb => answers_keyCommit hd hz hb,
    fun _ _ _ h hh => answers_keyCommitComplete h hh, fun _ h => answers_keyCommitComplete_none h⟩

/-- Settles O58: saves and the installer key, each by the operation that its command starts or ends. -/
theorem savesAndKeys : Obligations.SavesAndKeys := ⟨configurationSaves, installerKey⟩

end Sys2Proof.Machine
end

section
/-! PROOFS. The computation of an EF (R218 to R220), and O33. -/
namespace Sys2Proof.Machine

/-! ### What a computation's own work leaves of playout -/

/-- The playout state less the hitches and the channels' states. -/
def PlayS.frame (x : PlayS) : PlayS := { x with hitches := [], conc := [] }

/-- t is at the frames of s, with the computation of s. -/
structure AtFrame (s t : State) : Prop where
  play : t.play.frame = s.play.frame
  comp : t.eng.comp = s.eng.comp

section
variable {s t : State}

theorem AtFrame.refl : AtFrame s s := ⟨rfl, rfl⟩
theorem AtFrame.trans {u : State} (h : AtFrame s t) (g : AtFrame t u) : AtFrame s u := ⟨g.play.trans h.play, g.comp.trans h.comp⟩

theorem AtFrame.of_parts {u : State} (h : AtFrame s t) (hp : u.play = t.play) (he : u.eng = t.eng) : AtFrame s u :=
  ⟨(congrArg PlayS.frame hp).trans h.play, (congrArg EngS.comp he).trans h.comp⟩

theorem AtFrame.forL {α : Type} (l : List α) (f : α → State → State) (hf : ∀ a t, AtFrame t (f a t)) (h : AtFrame s t) : AtFrame s (forL l f t) :=
  forL_induction l f (fun a _ _ ht => ht.trans (hf a _)) h

theorem AtFrame.forN (n : Nat) (f : Nat → State → State) (hf : ∀ a t, AtFrame t (f a t)) (h : AtFrame s t) : AtFrame s (forN n f t) :=
  forN_induction n f (fun a _ _ ht => ht.trans (hf a _)) h

/-- A fold that carries more than the state. -/
theorem atFrame_foldl {α β : Type} (g : β → State) (f : β → α → β) (hf : ∀ b a, AtFrame (g b) (g (f b a))) (l : List α) :
    ∀ b : β, AtFrame (g b) (g (l.foldl f b)) := by
  induction l with
  | nil => exact fun _ => .refl
  | cons a l ih => exact fun b => (hf b a).trans (ih (f b a))

theorem atFrame_putSample (t : State) (slot : Nat) (q : Int) (w : Word) : AtFrame t (t.putSample slot q w) :=
  AtFrame.refl.of_parts (State.putMemWord_play ..) (State.putMemWord_eng ..)

theorem atFrame_zeroEf (t : State) (slot ef : Nat) : AtFrame t (t.zeroEf slot ef) :=
  .forN _ _ (fun _ t => atFrame_putSample t _ _ _) .refl

theorem atFrame_keep (t : State) (g : Fld) (v : Nat) : AtFrame t (t.keep g v) := AtFrame.refl.of_parts (State.keep_play ..) (State.keep_eng ..)

theorem atFrame_idleOuts (t : State) : AtFrame t t.idleOuts := by
  refine .forN _ _ (fun m t => ?_) .refl
  unfold State.when
  split
  · exact .forN _ _ (fun _ t => atFrame_zeroEf t _ _) .refl
  · exact .refl

/-! ### The concealer pass -/

theorem atFrame_putChan (t : State) (k : Nat) (c : Chan) : AtFrame t (t.putChan k c) := ⟨rfl, rfl⟩

theorem atFrame_chanWrite (t : State) (slot q : Nat) (has : Option Word) (m : Made) : AtFrame t (t.chanWrite slot q has m) := by
  have hany : AtFrame t ((t.free 32).2.putSample slot q (BitVec.ofNat 32 (t.free 32).1)) := .trans (t := (t.free 32).2) ⟨rfl, rfl⟩ (atFrame_putSample ..)
  cases m with
  | keep =>
    cases has with
    | none => exact .refl
    | some w => exact atFrame_putSample t _ _ _
  | zero => exact atFrame_putSample t _ _ _
  | free => cases has <;> exact hany
  | fade p =>
    cases has with
    | none => exact hany
    | some w => exact atFrame_putSample t _ _ (scaleBy w (t.fadeGain p))
  | ramp p =>
    cases has with
    | none => exact hany
    | some w => exact atFrame_putSample t _ _ (scaleBy w (2 ^ 30 - t.fadeGain p))

theorem atFrame_chanEf (t : State) (key slot ef : Nat) (c : Chan) (at? : Option Nat) : AtFrame t (t.chanEf key slot ef c at?).2 := by
  unfold State.chanEf
  dsimp only
  refine .trans ?_ (atFrame_putChan _ _ _)
  exact atFrame_foldl (fun x : Chan × Bool × State => x.2.2) _ (fun x j => atFrame_chanWrite _ _ _ _ _) _ (c, false, t)

theorem atFrame_concealLay (t : State) (ef lay : Nat) (chs : List (Nat × Nat × Nat)) : AtFrame t (t.concealLay ef lay chs).2 := by
  unfold State.concealLay
  dsimp only
  exact atFrame_foldl Prod.snd _ (fun x c => (atFrame_chanEf ..).trans (atFrame_putChan ..)) _ ([], t)

theorem atFrame_concealPass (t : State) (ef : Nat) : AtFrame t (t.concealPass ef).2 := by
  unfold State.concealPass
  refine atFrame_foldl Prod.snd _ (fun x lay => ?_) _ ([], t)
  dsimp only
  split
  · exact .refl
  · exact atFrame_concealLay ..

/-! ### Hitches -/

theorem atFrame_hitchRegs (t : State) : AtFrame t t.hitchRegs := by
  refine .trans (.forN 4 _ (fun n t => ?_) .refl) (atFrame_keep _ _ _)
  cases getAt t.play.hitches n none with
  | none => exact .refl
  | some h => exact AtFrame.refl.of_parts (State.keepWord_play ..) (State.keepWord_eng ..)

theorem atFrame_hitchRelease (t : State) (p : Nat → Bool) : AtFrame t (t.hitchRelease p) := by
  unfold State.hitchRelease
  refine .trans ?_ (atFrame_hitchRegs _)
  exact ⟨rfl, rfl⟩

theorem atFrame_putHitch (t : State) (n : Nat) (h : Option (Nat × Snap)) :
    AtFrame t (t.updPlay fun p => { p with hitches := setAt p.hitches n h }) := ⟨rfl, rfl⟩

theorem atFrame_event (t : State) (f : Fld) : AtFrame t (t.event f) := AtFrame.refl.of_parts (State.event_play ..) (State.event_eng ..)
theorem atFrame_inc (t : State) (a : Nat) : AtFrame t (t.inc a) := AtFrame.refl.of_parts (State.inc_play ..) (State.inc_eng ..)

theorem atFrame_takeHitch (t : State) (ef : Nat) : AtFrame t (t.takeHitch ef) := by
  unfold State.takeHitch
  dsimp only
  refine .trans ?_ (atFrame_hitchRegs _)
  refine .trans ?_ (atFrame_putHitch _ _ _)
  split
  · exact ((atFrame_hitchRelease t _).trans (atFrame_inc _ _)).trans (atFrame_event _ _)
  · exact .refl

/-! ### The mix -/

theorem atFrame_mixRun (t : State) (ef o : Nat) (l : List Nat) (m : MixRes) : AtFrame t (t.mixRun ef o l m).2 := by
  unfold State.mixRun
  dsimp only
  split
  · exact .refl
  · refine .forL _ _ (fun n t => ⟨rfl, rfl⟩) (atFrame_foldl Prod.snd _ (fun x j => ?_) _ (_, t))
    cases t.limiterOf o with
    | none => exact atFrame_putSample ..
    | some n => exact AtFrame.trans (t := x.2.updXpt _) ⟨rfl, rfl⟩ (atFrame_putSample ..)

theorem atFrame_xptMix (t : State) (ef : Nat) : AtFrame t (t.xptMix ef).2 := by
  unfold State.xptMix
  dsimp only
  split
  · exact .forL _ _ (fun x t => atFrame_zeroEf t _ _) ⟨rfl, rfl⟩
  · exact (show AtFrame t t.limIdle from ⟨rfl, rfl⟩).trans
      (atFrame_foldl Prod.snd _ (fun x r => atFrame_mixRun ..) _ (_, t.limIdle))


theorem atFrame_playStatus (t : State) : AtFrame t t.playStatus := by
  unfold State.playStatus
  exact ((atFrame_keep t _ _).trans (atFrame_keep _ _ _)).trans (atFrame_keep _ _ _)

theorem atFrame_enterProg (t : State) (c m : Nat) : AtFrame t (t.enterProg c m) := by
  unfold State.enterProg State.setPc
  refine .trans ?_ (atFrame_keep _ _ _)
  exact ⟨rfl, rfl⟩

end

/-! ### The computation under way -/

/-- A computation of EF ef is in segment seg of s. -/
def InSegment (ef seg : Nat) (again : Bool) (s : State) : Prop := ∃ k, s.eng.comp = some k ∧ k.ef = ef ∧ k.seg = seg ∧ k.again = again

/-- The result of EF ef is open. -/
def ResultOpen (ef : Nat) (s : State) : Prop := ∃ r ∈ s.play.results, r.ef = ef ∧ r.done = false

/-- t has the pointers and the rewind of s. -/
structure SamePointers (s t : State) : Prop where
  head : t.play.head = s.play.head
  cleat : t.play.cleat = s.play.cleat
  r : t.play.r = s.play.r
  rewinding : t.play.rewinding = s.play.rewinding

section
variable {s t u : State} {ef seg : Nat} {again : Bool}

theorem SamePointers.refl : SamePointers s s := ⟨rfl, rfl, rfl, rfl⟩
theorem SamePointers.trans (h : SamePointers s t) (g : SamePointers t u) : SamePointers s u :=
  ⟨g.head.trans h.head, g.cleat.trans h.cleat, g.r.trans h.r, g.rewinding.trans h.rewinding⟩

theorem AtFrame.pointers (h : AtFrame s t) : SamePointers s t := by
  have h1 := congrArg PlayS.head h.play
  have h2 := congrArg PlayS.cleat h.play
  have h3 := congrArg PlayS.r h.play
  have h4 := congrArg PlayS.rewinding h.play
  exact ⟨h1, h2, h3, h4⟩

theorem AtFrame.results (h : AtFrame s t) : t.play.results = s.play.results := by
  have h1 := congrArg PlayS.results h.play
  exact h1

theorem AtFrame.resultOpen (h : AtFrame s t) (g : ResultOpen ef s) : ResultOpen ef t := by rwa [ResultOpen, h.results]

theorem AtFrame.inSegment (h : AtFrame s t) (g : InSegment ef seg again s) : InSegment ef seg again t :=
  by rwa [InSegment, h.comp]

/-- What a segment's start leaves: the pointers, the computation in its new segment, and an open result. -/
structure SegStarted (s t : State) (n : Nat) : Prop where
  pointers : SamePointers s t
  comp : ∀ ef seg again, InSegment ef seg again s → InSegment ef n again t
  result : ∀ ef, ResultOpen ef s → ResultOpen ef t

/-- What the mix and the cores' programs leave. -/
structure Working (s t : State) : Prop where
  pointers : SamePointers s t
  comp : ∀ ef seg again, InSegment ef seg again s → InSegment ef seg again t
  result : ∀ ef, ResultOpen ef s → ResultOpen ef t

theorem Working.refl : Working s s := ⟨.refl, fun _ _ _ h => h, fun _ h => h⟩
theorem Working.trans (h : Working s t) (g : Working t u) : Working s u :=
  ⟨h.pointers.trans g.pointers, fun _ _ _ x => g.comp _ _ _ (h.comp _ _ _ x), fun _ x => g.result _ (h.result _ x)⟩
theorem AtFrame.working (h : AtFrame s t) : Working s t := ⟨h.pointers, fun _ _ _ => h.inSegment, fun _ => h.resultOpen⟩

/-- A result updated without its EF or its end. -/
theorem working_updRes (s : State) (e : Nat) (f : EfRes → EfRes) (hef : ∀ r, (f r).ef = r.ef) (hdone : ∀ r, (f r).done = r.done) :
    Working s (s.updRes e f) := by
  refine ⟨⟨rfl, rfl, rfl, rfl⟩, fun _ _ _ h => h, fun ef ⟨r, hr, h1, h2⟩ => ?_⟩
  refine ⟨if r.ef = e then f r else r, List.mem_map_of_mem hr, ?_, ?_⟩
  · split
    · rw [hef, h1]
    · exact h1
  · split
    · rw [hdone, h2]
    · exact h2

theorem working_runMix (s : State) (e : Nat) : Working s (s.runMix e) := by
  unfold State.runMix
  exact (atFrame_xptMix s e).working.trans (working_updRes _ _ _ (fun _ => rfl) fun _ => rfl)

/-- A core has entered its program. -/
theorem working_ran (s : State) (c : Nat) :
    Working s (s.updEng fun e => { e with comp := e.comp.map fun k => { k with ran := k.ran ||| 2 ^ c } }) := by
  refine ⟨⟨rfl, rfl, rfl, rfl⟩, fun ef seg again ⟨k, hk, h1, h2, h3⟩ => ?_, fun _ h => h⟩
  exact ⟨{ k with ran := k.ran ||| 2 ^ c }, congrArg (Option.map _) hk, h1, h2, h3⟩

theorem Working.forL {α : Type} (l : List α) (f : α → State → State) (hf : ∀ a t, Working t (f a t)) (h : Working s t) : Working s (forL l f t) :=
  forL_induction l f (fun a _ _ ht => ht.trans (hf a _)) h

theorem segStarted_segStart (s : State) (n : Nat) : SegStarted s (s.segStart n) n := by
  set x := s.updEng fun e => { e with comp := e.comp.map fun k => { k with seg := n } } with hx
  have hwork : Working x (s.segStart n) := by
    unfold State.segStart
    dsimp only
    rw [← hx]
    refine .forL _ _ (fun c t => ?_) ?_
    · cases t.progsOf c n with
      | nil => exact .refl
      | cons m _ => exact (atFrame_enterProg t c m).working.trans (working_ran _ c)
    · unfold State.when
      split
      · exact working_runMix x _
      · exact .refl
  refine ⟨⟨hwork.pointers.head, hwork.pointers.cleat, hwork.pointers.r, hwork.pointers.rewinding⟩,
    fun ef seg again ⟨k, hk, h1, h2, h3⟩ => hwork.comp ef n again ?_, fun ef h => hwork.result ef h⟩
  exact ⟨{ k with seg := n }, congrArg (Option.map _) hk, h1, rfl, h3⟩

/-- The state in which an EF's concealer pass runs. -/
def State.hitched (s : State) (e : Nat) : State :=
  s.when (s.incomplete e && !s.hitchEfs.contains e && Nat.ble s.play.cleat e) fun s => s.takeHitch e

/-- The result of an EF at its start. -/
def State.openResult (s : State) (e : Nat) (chans : List (Nat × Bool × Bool × Bool × Bool)) : State :=
  s.updPlay fun p => { p with results := p.results.filter (fun r => r.ef != e) ++ [⟨e, false, [], [], 0, 0, 0, 0, chans⟩] }

theorem efSetup_eq (s : State) (e : Nat) : s.efSetup e = ((s.hitched e).concealPass e).2.openResult e ((s.hitched e).concealPass e).1 := by
  unfold State.efSetup State.hitched State.openResult
  rfl

theorem openResult_opens (s : State) (e : Nat) (chans : List (Nat × Bool × Bool × Bool × Bool)) : ResultOpen e (s.openResult e chans) :=
  ⟨⟨e, false, [], [], 0, 0, 0, 0, chans⟩, List.mem_append_right _ (List.mem_singleton_self _), rfl, rfl⟩

theorem openResult_pointers (s : State) (e : Nat) (chans : List (Nat × Bool × Bool × Bool × Bool)) : SamePointers s (s.openResult e chans) :=
  ⟨rfl, rfl, rfl, rfl⟩

theorem openResult_comp (s : State) (e : Nat) (chans : List (Nat × Bool × Bool × Bool × Bool)) : (s.openResult e chans).eng.comp = s.eng.comp := rfl

/-- An EF's setup opens its result. -/
theorem efSetup_opens (s : State) (e : Nat) : SamePointers s (s.efSetup e) ∧ (s.efSetup e).eng.comp = s.eng.comp ∧ ResultOpen e (s.efSetup e) := by
  have h1 : AtFrame s (s.hitched e) := by
    unfold State.hitched State.when
    split
    · exact atFrame_takeHitch s e
    · exact .refl
  have h2 : AtFrame s ((s.hitched e).concealPass e).2 := h1.trans (atFrame_concealPass _ e)
  rw [efSetup_eq]
  exact ⟨h2.pointers.trans (openResult_pointers _ _ _), (openResult_comp _ _ _).trans h2.comp, openResult_opens _ _ _⟩

/-- The computation of EF ef at its start. -/
def State.begun (s : State) (ef : Nat) (again : Bool) : State :=
  (s.updEng fun e => { e with comp := some ⟨ef, 0, again, ofBits ((List.range s.cores).map fun c => s.coreState c != 4), 0, 0, [], 0⟩ }).when
    (!again) fun s => s.updPlay fun p => { p with head := ef + 1 }

theorem compStart_eq (hw : s.eng.waiting = none) (ha : s.eng.applyAt = none) (hq : s.scp.queue = []) :
    s.compStart = (match ((s.begun s.nextEf s.play.rewinding).idleOuts.efSetup s.nextEf).nextSeg 0 with
      | none => (s.begun s.nextEf s.play.rewinding).idleOuts.efSetup s.nextEf
      | some n => ((s.begun s.nextEf s.play.rewinding).idleOuts.efSetup s.nextEf).segStart n).playStatus := by
  have hscp : s.scpAt s.nextEf = s := by
    unfold State.scpAt
    rw [hq]
    rfl
  unfold State.compStart
  dsimp only
  rw [hw]
  dsimp only
  rw [hscp, ha]
  rfl

/-- What a computation's start leaves. -/
structure Began (s t : State) (ef : Nat) : Prop where
  head : t.play.head = if s.play.rewinding then s.play.head else ef + 1
  cleat : t.play.cleat = s.play.cleat
  comp : ∃ k, t.eng.comp = some k ∧ k.ef = ef ∧ k.again = s.play.rewinding
  result : ResultOpen ef t

theorem began_compStart (hw : s.eng.waiting = none) (ha : s.eng.applyAt = none) (hq : s.scp.queue = []) : Began s s.compStart s.nextEf := by
  rw [compStart_eq hw ha hq]
  set ef := s.nextEf
  set x := s.begun ef s.play.rewinding with hx
  have hcomp : InSegment ef 0 s.play.rewinding x := by
    rw [hx, State.begun]
    cases s.play.rewinding <;> exact ⟨_, rfl, rfl, rfl, rfl⟩
  have hhead : x.play.head = if s.play.rewinding then s.play.head else ef + 1 := by
    rw [hx, State.begun]
    cases s.play.rewinding <;> rfl
  have hcleat : x.play.cleat = s.play.cleat := by
    rw [hx, State.begun]
    cases s.play.rewinding <;> rfl
  have h1 := atFrame_idleOuts x
  obtain ⟨h2, h3, h4⟩ := efSetup_opens x.idleOuts ef
  set y := x.idleOuts.efSetup ef with hy
  have hyc : InSegment ef 0 s.play.rewinding y := by
    obtain ⟨k, hk, h⟩ := h1.inSegment hcomp
    exact ⟨k, h3.trans hk, h⟩
  have hp := h1.pointers.trans h2
  cases y.nextSeg 0 with
  | none =>
    have hs := atFrame_playStatus y
    obtain ⟨k, hk, e1, -, e2⟩ := hs.inSegment hyc
    exact ⟨((hp.trans hs.pointers).head).trans hhead, ((hp.trans hs.pointers).cleat).trans hcleat, ⟨k, hk, e1, e2⟩, hs.resultOpen h4⟩
  | some n =>
    have hg := segStarted_segStart y n
    have hs := atFrame_playStatus (y.segStart n)
    have hq := (hp.trans hg.pointers).trans hs.pointers
    obtain ⟨k, hk, e1, -, e2⟩ := hs.inSegment (hg.comp _ _ _ hyc)
    exact ⟨hq.head.trans hhead, hq.cleat.trans hcleat, ⟨k, hk, e1, e2⟩, hs.resultOpen (hg.result _ h4)⟩

end

/-! ### The commands of a computation -/

section
variable {s : State} {dt : Nat}

/-- A command's effect shows in the playout and in the engine as it leaves them. -/
theorem State.done_play (s : State) (f : State → State) : (s.done f).play = (f s.fresh).play := by simp [State.done]
theorem State.done_eng (s : State) (f : State → State) : (s.done f).eng = (f s.fresh).eng := by simp [State.done]

theorem eng_elapsed (s : State) (dt : Nat) : (s.fresh.advance dt).eng = s.eng := State.advance_eng s.fresh dt
theorem scp_elapsed (s : State) (dt : Nat) : (s.fresh.advance dt).scp = s.scp := State.advance_scp s.fresh dt

theorem nextEf_elapsed (s : State) (dt : Nat) : (s.fresh.advance dt).nextEf = s.nextEf := by rw [State.nextEf, play_elapsed, State.nextEf]

theorem mayCompute_elapsed (s : State) (dt : Nat) : (s.fresh.advance dt).mayCompute = s.mayCompute := by
  rw [State.mayCompute, play_elapsed, eng_elapsed, State.mayCompute]

/-- A computation begins. -/
theorem answers_computationStart (hm : s.mayCompute = true) (hw : s.eng.waiting = none) (ha : s.eng.applyAt = none) (hq : s.scp.queue = []) :
    Answers (.computationStart dt) s fun t => Began s t s.nextEf := by
  have hb : Began (s.fresh.advance dt) (s.fresh.advance dt).compStart (s.fresh.advance dt).nextEf :=
    began_compStart (by rw [eng_elapsed, hw]) (by rw [eng_elapsed, ha]) (by rw [scp_elapsed, hq])
  rw [nextEf_elapsed] at hb
  obtain ⟨hhead, hcleat, hcomp, hres⟩ := hb
  rw [play_elapsed] at hhead hcleat hcomp
  set f : State → State := fun x => (x.advance dt).when (x.advance dt).mayCompute State.compStart with hf
  have hfx : f s.fresh = (s.fresh.advance dt).compStart := by
    rw [hf]
    show State.when _ (s.fresh.advance dt).mayCompute _ = _
    rw [mayCompute_elapsed, hm, State.when_true]
  refine ⟨s.done f, rfl, ?_, ?_, ?_, ?_⟩
  · rw [State.done_play, hfx, hhead]
  · rw [State.done_play, hfx, hcleat]
  · rw [State.done_eng, hfx]
    exact hcomp
  · rw [ResultOpen, State.done_play, hfx]
    exact hres

theorem answers_computationStart_idle (hm : s.mayCompute = false) :
    Answers (.computationStart dt) s fun t => Framed timeRegs [.time, .clk, .mgmt] s t := by
  have heff : (s.fresh.advance dt).when (s.fresh.advance dt).mayCompute State.compStart = s.fresh.advance dt := by
    rw [mayCompute_elapsed, hm, State.when_false]
  have hframe : Chg (Listed timeRegs) (Parts [.time, .clk, .mgmt]) NoMem s (s.fresh.advance dt) := chg_elapsed_time s dt fun _ h => h
  exact answers_effect _ rfl heff hframe hframe.framed

/-! ### The barrier (R219) -/

theorem desc_notMem {m : Nat} (hm : m < 64) : A.ENG_DESC_W0 m ∉ timeRegs := notMem_timeRegs (.inl (by simp only [A.ENG_DESC_W0]; omega))

theorem place_elapsed (s : State) (dt : Nat) {f : Fld} (h : f.adr ∉ timeRegs) : (s.fresh.advance dt).place f = s.place f := by
  have hrd : (s.fresh.advance dt).rd f.adr = s.rd f.adr := State.rd_eq_of_reg (reg_elapsed s dt h)
  have hv : (s.fresh.advance dt).variant = s.variant := State.advance_variant s.fresh dt
  rw [State.place, State.place, State.placeWord, State.placeWord, hrd, hv, eng_elapsed]
  unfold State.oldPlacement
  rw [eng_elapsed]

theorem progsOf_elapsed (s : State) (dt c p : Nat) : (s.fresh.advance dt).progsOf c p = s.progsOf c p := by
  refine List.filter_congr fun m hm => ?_
  have hm' := desc_notMem (List.mem_range.mp hm)
  rw [State.progOn, place_elapsed s dt (f := F.ENG_DESC_W0_PLACED m) hm', place_elapsed s dt (f := F.ENG_DESC_W0_CORE m) hm',
    place_elapsed s dt (f := F.ENG_DESC_W0_PHASE m) hm', State.progOn]

theorem inComp_elapsed (s : State) (dt : Nat) : (s.fresh.advance dt).inComp = s.inComp := by
  have hv : (s.fresh.advance dt).variant = s.variant := State.advance_variant s.fresh dt
  have hc : (s.fresh.advance dt).computing = s.computing := by
    funext c
    rw [State.computing, eng_elapsed, State.computing]
  rw [State.inComp, hc, State.cores, hv, State.inComp, State.cores]

theorem segDone_elapsed (s : State) (dt : Nat) : (s.fresh.advance dt).segDone = s.segDone := by
  have hc (c : Nat) : (s.fresh.advance dt).core c = s.core c := by rw [State.core, eng_elapsed, State.core]
  rw [State.segDone, inComp_elapsed, State.segDone]
  simp only [hc]

theorem nextSeg_elapsed (s : State) (dt n : Nat) : (s.fresh.advance dt).nextSeg n = s.nextSeg n := by
  have hmix (k : Nat) : (s.fresh.advance dt).mixIn k = s.mixIn k := by
    rw [State.mixIn, State.fld_eq_of_reg (reg_elapsed s dt (by decide)), State.mixIn]
  have hfull (k : Nat) : (s.fresh.advance dt).segFull k = s.segFull k := by
    rw [State.segFull, hmix, inComp_elapsed, State.segFull]
    simp only [progsOf_elapsed]
  rw [State.nextSeg, State.nextSeg]
  simp only [hfull]

/-- The next segment starts once the one under way is done. -/
theorem answers_segmentBarrier {n : Nat} {k : Comp} (hk : s.eng.comp = some k) (hd : s.segDone = true) (hn : s.nextSeg (k.seg + 1) = some n) :
    Answers (.segmentBarrier dt) s fun t =>
      (∃ k', t.eng.comp = some k' ∧ k'.ef = k.ef ∧ k'.seg = n) ∧ t.play.head = s.play.head ∧ t.play.cleat = s.play.cleat := by
  set x := s.fresh.advance dt with hx
  have hbar : x.barrier = x.segStart n := by
    rw [State.barrier, hx, eng_elapsed, hk]
    dsimp only
    rw [segDone_elapsed, hd, if_pos rfl, nextSeg_elapsed, hn]
  have hseg := segStarted_segStart x n
  obtain ⟨k', hk', h1, h2, -⟩ := hseg.comp k.ef k.seg k.again ⟨k, by rw [hx, eng_elapsed, hk], rfl, rfl, rfl⟩
  refine ⟨s.done fun x => (x.advance dt).barrier, rfl, ⟨k', ?_, h1, h2⟩, ?_, ?_⟩
  · rw [State.done_eng, ← hx, hbar, hk']
  · rw [State.done_play, ← hx, hbar, hseg.pointers.head, hx, play_elapsed]
  · rw [State.done_play, ← hx, hbar, hseg.pointers.cleat, hx, play_elapsed]

theorem answers_segmentBarrier_busy {k : Comp} (hk : s.eng.comp = some k) (hd : s.segDone = false) :
    Answers (.segmentBarrier dt) s fun t => Framed timeRegs [.time, .clk, .mgmt] s t := by
  have heff : (s.fresh.advance dt).barrier = s.fresh.advance dt := by
    rw [State.barrier, eng_elapsed, hk]
    dsimp only
    rw [segDone_elapsed, hd, if_neg Bool.false_ne_true]
  have hframe : Chg (Listed timeRegs) (Parts [.time, .clk, .mgmt]) NoMem s (s.fresh.advance dt) := chg_elapsed_time s dt fun _ h => h
  exact answers_effect _ rfl heff hframe hframe.framed

end

/-! ### The end of a computation (R218, R234) -/

/-- The registers that the counts of a computation's end change, but for the span's peak. -/
def countReg (a : Nat) : Prop := 0x80000 ≤ a ∧ a < 0x90000 ∧ a ≠ A.ENG_SPAN_PEAK

section
variable (s : State) (k : Comp) (ns : Nat) (cycles : List Nat)

/-- The counts of core c at the end of a computation. -/
def State.coreCounts (s : State) (k : Comp) (cycles : List Nat) (c : Nat) : State :=
  let s := s.when (k.ran.testBit c) fun s => s.inc (A.ENG_CORE_COMPUTES c)
  let s := s.when (s.coreState c == 4 && !k.halted.testBit c) fun s => s.keep (F.ENG_CORE_STATUS_CONSEC c) 0
  let n := min (getAt cycles c 0) (2 ^ 18 - 1)
  s.when (k.ran.testBit c && Nat.blt (s.fld (F.ENG_CORE_PEAK_CYC c)) n) fun s => s.set (F.ENG_CORE_PEAK_CYC c) n

theorem chg_coreCounts {c : Nat} (hc : c < 16) : Chg countReg (Parts []) NoMem s (s.coreCounts k cycles c) := by
  have hsat : satOf (A.ENG_CORE_COMPUTES c) = ⟨A.ENG_CORE_COMPUTES c + 0x1C, 0, some F.ENG_EVT_CNT_SAT⟩ := by interval_cases c <;> rfl
  have h1 : countReg (A.ENG_CORE_COMPUTES c) := by simp only [countReg, A.ENG_CORE_COMPUTES, A.ENG_SPAN_PEAK]; omega
  have h2 : countReg (A.ENG_CORE_COMPUTES c + 0x1C) := by simp only [countReg, A.ENG_CORE_COMPUTES, A.ENG_SPAN_PEAK]; omega
  have h3 : countReg (A.ENG_CORE_STATUS c) := by simp only [countReg, A.ENG_CORE_STATUS, A.ENG_SPAN_PEAK]; omega
  have h4 : countReg (A.ENG_CORE_PEAK c) := by simp only [countReg, A.ENG_CORE_PEAK, A.ENG_SPAN_PEAK]; omega
  have h5 : countReg A.ENG_EVT := by simp only [countReg, A.ENG_EVT, A.ENG_SPAN_PEAK]; omega
  unfold State.coreCounts
  have g1 : Chg countReg (Parts []) NoMem s (s.when (k.ran.testBit c) fun s => s.inc (A.ENG_CORE_COMPUTES c)) :=
    Chg.refl.when _ _ fun _ => Chg.refl.inc _ h1 (by rw [hsat]; exact h2) (by rw [hsat]; rintro f ⟨⟩; exact h5)
  have g2 := g1.when ((s.when (k.ran.testBit c) fun s => s.inc (A.ENG_CORE_COMPUTES c)).coreState c == 4 && !k.halted.testBit c)
    (fun s => s.keep (F.ENG_CORE_STATUS_CONSEC c) 0) fun _ => g1.keep _ _ h3
  exact g2.when _ (fun s => s.set (F.ENG_CORE_PEAK_CYC c) _) fun _ => g2.set _ _ h4

theorem compCounts_eq : s.compCounts k ns cycles =
    (forN s.cores (fun c s => s.coreCounts k cycles c) s).when
      (Nat.blt ((forN s.cores (fun c s => s.coreCounts k cycles c) s).fld F.ENG_SPAN_PEAK_NS) (min ns (2 ^ 24 - 1)))
      fun s => s.set F.ENG_SPAN_PEAK_NS (min ns (2 ^ 24 - 1)) := rfl

theorem chg_coresCounts : Chg countReg (Parts []) NoMem s (forN s.cores (fun c s => s.coreCounts k cycles c) s) := by
  have hn : s.cores ≤ 16 := by unfold State.cores; cases s.variant <;> decide
  exact Chg.refl.forN _ _ fun c hc t h => h.trans (chg_coreCounts t k cycles (by omega))

theorem chg_compCounts : Chg (fun a => 0x80000 ≤ a ∧ a < 0x90000) (Parts []) NoMem s (s.compCounts k ns cycles) := by
  have h : Chg (fun a => 0x80000 ≤ a ∧ a < 0x90000) (Parts []) NoMem s (forN s.cores (fun c s => s.coreCounts k cycles c) s) :=
    (chg_coresCounts s k cycles).mono (fun a ha => ⟨ha.1, ha.2.1⟩) (fun _ h => h) (fun _ h => h)
  rw [compCounts_eq]
  exact h.when _ _ fun _ => h.set _ _ (by decide)

/-- The span's peak keeps the longest span. -/
theorem compCounts_span : (s.compCounts k ns cycles).fld F.ENG_SPAN_PEAK_NS = max (s.fld F.ENG_SPAN_PEAK_NS) (min ns (2 ^ 24 - 1)) := by
  rw [compCounts_eq]
  set x := forN s.cores (fun c s => s.coreCounts k cycles c) s with hx
  have hfld : x.fld F.ENG_SPAN_PEAK_NS = s.fld F.ENG_SPAN_PEAK_NS :=
    State.fld_eq_of_reg ((chg_coresCounts s k cycles).reg _ fun h => h.2.2 rfl)
  rw [hfld, State.when]
  split
  · rename_i h
    rw [State.fld_set_same _ (by decide), max_eq_right (Nat.le_of_lt (Nat.blt_eq.mp h))]
    exact Nat.mod_eq_of_lt (by show min ns (2 ^ 24 - 1) < 2 ^ 24; omega)
  · rename_i h
    rw [hfld, max_eq_left (Nat.not_lt.mp fun hlt => h (Nat.blt_eq.mpr hlt))]

/-- The result and the computation at the end of EF k.ef. -/
def State.compClosed (s : State) (k : Comp) : State :=
  (s.updRes k.ef fun r => { r with done := true, lims := s.xpt.lims }).updEng fun e => { e with comp := none }

theorem compEnd_eq {k : Comp} (hk : s.eng.comp = some k) (hd : s.segDone = true) (hn : s.nextSeg (k.seg + 1) = none) :
    s.compEnd ns cycles = ((((s.compCounts k ns cycles).compClosed k).when k.again State.rewound).lateResult k.ef).playStatus := by
  unfold State.compEnd
  rw [hk]
  dsimp only
  rw [hd, hn]
  rfl

/-- The end of EF k.ef closes its result and keeps the cleat. -/
theorem compClosed_closes {k : Comp} : (s.compClosed k).eng.comp = none ∧ (∀ r ∈ (s.compClosed k).play.results, r.ef = k.ef → r.done = true) := by
  refine ⟨rfl, fun r hr he => ?_⟩
  obtain ⟨x, -, rfl⟩ := List.mem_map.mp (show r ∈ s.play.results.map _ from hr)
  split at he
  · rw [if_pos ‹_›]
  · exact absurd he ‹_›

theorem lateResult_kept {ef : Nat} (h : s.play.cleat ≤ ef) : s.lateResult ef = s := if_pos h

theorem chg_playStatus : Chg (Listed [A.PLAY_STATUS]) (Parts []) NoMem s s.playStatus := by
  unfold State.playStatus
  exact ((Chg.refl.keep _ _ (by simp)).keep _ _ (by simp)).keep _ _ (by simp)

end

section
variable {s : State} {dt ns : Nat} {cycles : List Nat} {k : Comp}

/-- What the end of a first computation leaves. -/
theorem answers_computationComplete_first (hk : s.eng.comp = some k) (hd : s.segDone = true) (hn : s.nextSeg (k.seg + 1) = none)
    (ha : k.again = false) (hc : s.play.cleat ≤ k.ef) :
    Answers (.computationComplete dt ns cycles) s fun t =>
      t.eng.comp = none ∧ (∀ r ∈ t.play.results, r.ef = k.ef → r.done = true) ∧ t.play.head = s.play.head ∧
      t.play.cleat = s.play.cleat ∧ t.fld F.ENG_SPAN_PEAK_NS = max (s.fld F.ENG_SPAN_PEAK_NS) (min ns (2 ^ 24 - 1)) ∧
      MemKept s t := by
  set x := s.fresh.advance dt with hx
  set y := x.compCounts k ns cycles with hy
  set z := y.compClosed k with hz
  set u := z.playStatus with hu
  have hxy := chg_compCounts x k ns cycles
  have hxp : y.play = x.play := hxy.part .play (by simp)
  have hplay : y.play = s.play := hxp.trans (play_elapsed s dt)
  have hzp : SamePointers y z := ⟨rfl, rfl, rfl, rfl⟩
  have hzc : z.play.cleat = s.play.cleat := by rw [hzp.cleat, hplay]
  have heff : x.compEnd ns cycles = u := by
    rw [compEnd_eq x ns cycles (by rw [hx, eng_elapsed, hk]) (by rw [hx, segDone_elapsed, hd]) (by rw [hx, nextSeg_elapsed, hn]), ha,
      State.when_false, lateResult_kept _ (by rw [← hy, ← hz, hzc]; exact hc)]
  have hchg : Chg AnyReg AnyPart NoMem s u :=
    ((((chg_elapsed_time s dt fun _ h => h).anywhere.trans hxy.anywhere).play _ trivial).eng _ trivial).trans (chg_playStatus z).anywhere
  have hat := atFrame_playStatus z
  obtain ⟨h1, h2⟩ := compClosed_closes y (k := k)
  refine answers_effect _ rfl heff hchg ⟨?_, ?_, ?_, ?_, ?_, hchg.memKept⟩
  · rw [State.seal_eng, hu, hat.comp, h1]
  · rw [State.seal_play, hu, hat.results]
    exact h2
  · rw [State.seal_play, hu, hat.pointers.head, hzp.head, hplay]
  · rw [State.seal_play, hu, hat.pointers.cleat, hzc]
  · rw [State.fld_seal _ _ (by decide), hu, (chg_playStatus z).fld (by unfold Listed; decide)]
    show y.fld F.ENG_SPAN_PEAK_NS = _
    rw [hy, compCounts_span, hx, State.fld_eq_of_reg (reg_elapsed s dt (by decide))]

/-- What the end of a recomputation leaves: the rewind goes on, or ends at the head. -/
theorem answers_computationComplete_again (hk : s.eng.comp = some k) (hd : s.segDone = true) (hn : s.nextSeg (k.seg + 1) = none)
    (ha : k.again = true) (hc : s.play.cleat ≤ k.ef) :
    Answers (.computationComplete dt ns cycles) s fun t =>
      t.eng.comp = none ∧ Counts s t A.PLAY_RW_EF 1 ∧ t.play.r = s.play.r + 1 ∧
      t.play.rewinding = (s.play.r + 1 != s.play.head) ∧ t.play.head = s.play.head ∧ MemKept s t := by
  set x := s.fresh.advance dt with hx
  set y := x.compCounts k ns cycles with hy
  set z := y.compClosed k with hz
  set w := z.inc A.PLAY_RW_EF with hw
  set v := w.updPlay fun p => { p with r := w.play.r + 1, rewinding := w.play.r + 1 != p.head } with hv
  set u := v.playStatus with hu
  have hxy := chg_compCounts x k ns cycles
  have hxp : y.play = x.play := hxy.part .play (by simp)
  have hplay : y.play = s.play := hxp.trans (play_elapsed s dt)
  have hzw : SamePointers y w := by
    have h : SamePointers y z := ⟨rfl, rfl, rfl, rfl⟩
    exact h.trans (atFrame_inc z _).pointers
  have hvc : v.play.cleat = s.play.cleat := hzw.cleat.trans (congrArg PlayS.cleat hplay)
  have hrw : z.rewound = v := rfl
  have heff : x.compEnd ns cycles = u := by
    rw [compEnd_eq x ns cycles (by rw [hx, eng_elapsed, hk]) (by rw [hx, segDone_elapsed, hd]) (by rw [hx, nextSeg_elapsed, hn]), ha,
      State.when_true, ← hy, ← hz, hrw, lateResult_kept _ (by rw [hvc]; exact hc)]
  have hchg : Chg AnyReg AnyPart NoMem s u :=
    ((((((chg_elapsed_time s dt fun _ h => h).anywhere.trans hxy.anywhere).play _ trivial).eng _ trivial).inc _ trivial trivial
      fun _ _ => trivial).play _ trivial).trans (chg_playStatus v).anywhere
  have hat := atFrame_playStatus v
  refine answers_effect _ rfl heff hchg ⟨?_, ?_, ?_, ?_, ?_, hchg.memKept⟩
  · rw [State.seal_eng, hu, hat.comp]
    show w.eng.comp = none
    rw [hw, State.inc_eng]
    rfl
  · have hst : (z.inc A.PLAY_RW_EF).rd A.PLAY_RW_EF = min (z.rd A.PLAY_RW_EF + 1) 0xFFFFFFFF := State.rd_inc_counts (by decide)
    rw [Counts, State.rd_seal _ _ (by decide), hu, State.rd_eq_of_reg ((chg_playStatus v).reg _ (by unfold Listed; decide))]
    show w.rd A.PLAY_RW_EF = _
    rw [hw, hst]
    show min (y.rd A.PLAY_RW_EF + 1) 0xFFFFFFFF = _
    rw [State.rd_eq_of_reg (hxy.reg _ (by decide)), hx, State.rd_eq_of_reg (reg_elapsed s dt (by decide))]
  · rw [State.seal_play, hu, hat.pointers.r]
    show w.play.r + 1 = _
    rw [hzw.r, hplay]
  · rw [State.seal_play, hu, hat.pointers.rewinding]
    show (w.play.r + 1 != w.play.head) = _
    rw [hzw.r, hzw.head, hplay]
  · rw [State.seal_play, hu, hat.pointers.head]
    show w.play.head = _
    rw [hzw.head, hplay]

end

/-! ### SLACK (R211) -/

section
variable {s : State} {m : Master} {priv : Bool} {x : Word}

theorem playCfg_stores : StoresEverywhere A.PLAY_CFG := fun v => by cases v <;> decide

theorem modState_wr (s : State) {a : Nat} (n : Nat) (h : a ≠ A.SYS_MOD_STATE) : (s.wr a n).modState = s.modState :=
  State.fld_wr_ne _ _ h.symm

/-- SLACK is taken in STAGING and in READY. -/
theorem answers_playCfgWrite_taken (hd : Direct s m priv A.PLAY_CFG) (hr : AsItReads s A.PLAY_CFG x) (hm : s.modState = 2 ∨ s.modState = 3) :
    Answers (.playCfgWrite (whole m priv x)) s fun t => t.reg A.PLAY_CFG = x ∧ Framed [A.PLAY_CFG] [] s t := by
  by_cases heq : s.reg A.PLAY_CFG = x
  · have heff : s.fresh.words A.PLAY_CFG (whole m priv x) = s.fresh := hd.stores_same hr playCfg_stores rfl heq
    have hframe : Chg (Listed [A.PLAY_CFG]) (Parts []) NoMem s s.fresh := Chg.refl.fresh
    exact answers_effect _ rfl heff hframe ⟨(State.reg_seal _ _ (by decide)).trans heq, hframe.framed⟩
  · have heff : s.fresh.words A.PLAY_CFG (whole m priv x) = s.fresh.wr A.PLAY_CFG x.toNat := by
      rw [hd.stores hr playCfg_stores heq]
      refine if_neg ?_
      rw [modState_wr _ _ (by decide), show s.fresh.modState = s.modState from rfl]
      rcases hm with h | h <;> rw [h] <;> simp [stStaging, stReady]
    have hframe : Chg (Listed [A.PLAY_CFG]) (Parts []) NoMem s (s.fresh.wr A.PLAY_CFG x.toNat) := Chg.refl.fresh.wr _ _ (by simp)
    refine answers_effect _ rfl heff hframe ⟨?_, hframe.framed⟩
    rw [State.reg_seal _ _ (by decide), State.reg_wr_same, BitVec.ofNat_toNat, BitVec.setWidth_eq]

/-- Elsewhere a new SLACK is refused, and the rest of the word is taken. -/
theorem answers_playCfgWrite_refused (hd : Direct s m priv A.PLAY_CFG) (hr : AsItReads s A.PLAY_CFG x) (h2 : s.modState ≠ 2) (h3 : s.modState ≠ 3)
    (hx : F.PLAY_CFG_SLACK.of x.toNat ≠ s.fld F.PLAY_CFG_SLACK) :
    Answers (.playCfgWrite (whole m priv x)) s fun t =>
      t.fld F.PLAY_CFG_SLACK = s.fld F.PLAY_CFG_SLACK ∧ t.fld F.PLAY_CFG_CONCEAL_EF = F.PLAY_CFG_CONCEAL_EF.of x.toNat ∧
      t.on F.PLAY_EVT_CFG_REFUSED = true ∧ Framed [A.PLAY_CFG, A.PLAY_EVT] [] s t := by
  have hne : s.reg A.PLAY_CFG ≠ x := by
    rintro rfl
    exact hx rfl
  set y := s.fresh.wr A.PLAY_CFG x.toNat with hy
  set z := y.set F.PLAY_CFG_SLACK (s.fld F.PLAY_CFG_SLACK) with hz
  set u := z.event F.PLAY_EVT_CFG_REFUSED with hu
  have hslack : y.fld F.PLAY_CFG_SLACK = F.PLAY_CFG_SLACK.of x.toNat := State.fld_wr_word _ _ _ rfl
  have heff : s.fresh.words A.PLAY_CFG (whole m priv x) = u := by
    rw [hd.stores hr playCfg_stores hne]
    refine if_pos ?_
    rw [← hy, State.chg, hslack, hy, modState_wr _ _ (by decide), show s.fresh.modState = s.modState from rfl, stStaging, stReady,
      bne_iff_ne.mpr h2, bne_iff_ne.mpr h3, Bool.and_true, Bool.and_true, bne_iff_ne]
    exact hx
  have hframe : Chg (Listed [A.PLAY_CFG, A.PLAY_EVT]) (Parts []) NoMem s u := ((Chg.refl.fresh.wr _ _ (by simp)).set _ _ (by simp)).event _ (by simp)
  refine answers_effect _ rfl heff hframe ⟨?_, ?_, ?_, hframe.framed⟩
  · rw [State.fld_seal _ _ (by decide), hu, State.fld_event_ne (by decide), hz, State.fld_set_same _ (by decide)]
    exact Nat.mod_eq_of_lt (State.fld_lt s _)
  · rw [State.fld_seal _ _ (by decide), hu, State.fld_event_ne (by decide), hz, State.fld_set_free _ (by decide)]
    exact State.fld_wr_word _ _ _ rfl
  · rw [State.on_seal _ _ (by decide)]
    exact State.on_event_same _ (by decide)

end

/-- Settles O33: the start and the end of a computation by what they leave of the pointers, the rest by its case. -/
theorem computations : Obligations.Computations := by
  unfold Obligations.Computations
  refine ⟨fun s dt hrun hc hrw hlt hw ha hq => ?_, fun s dt hrun hc hrw hw ha hq => ?_, fun s dt hrw hle => ?_,
    fun s dt n k hk hd hn => answers_segmentBarrier hk hd hn, fun s dt k hk hd => answers_segmentBarrier_busy hk hd,
    fun s dt ns cycles k hk hd hn ha hc => answers_computationComplete_first hk hd hn ha hc,
    fun s dt ns cycles k hk hd hn ha hc => answers_computationComplete_again hk hd hn ha hc,
    fun s m priv x hd hr hm => answers_playCfgWrite_taken hd hr hm,
    fun s m priv x hd hr h2 h3 hx => answers_playCfgWrite_refused hd hr h2 h3 hx⟩
  · have hm : s.mayCompute = true := by
      rw [State.mayCompute, hrun, hc, Nat.blt_eq.mpr hlt, Bool.or_true]
      rfl
    obtain ⟨t, ht, hhead, hcleat, ⟨k, hk, he, hag⟩, hres⟩ := answers_computationStart (dt := dt) hm hw ha hq
    have hef : s.nextEf = s.play.head := by
      rw [State.nextEf, hrw]
      rfl
    rw [hef] at hhead he hres
    rw [hrw] at hhead hag
    exact ⟨t, ht, hhead, hcleat, ⟨k, hk, he, hag⟩, hres⟩
  · have hm : s.mayCompute = true := by
      rw [State.mayCompute, hrun, hc, hrw]
      rfl
    obtain ⟨t, ht, hhead, hcleat, ⟨k, hk, he, hag⟩, hres⟩ := answers_computationStart (dt := dt) hm hw ha hq
    have hef : s.nextEf = s.play.r := by
      rw [State.nextEf, hrw]
      rfl
    rw [hef] at he
    rw [hrw] at hhead hag
    exact ⟨t, ht, hhead, k, hk, he, hag⟩
  · refine answers_computationStart_idle ?_
    have hlt : Nat.blt s.play.head (s.play.cleat + s.play.slack) = false :=
      Bool.eq_false_iff.mpr fun h => absurd (Nat.blt_eq.mp h) (Nat.not_lt.mpr hle)
    rw [State.mayCompute, hrw, hlt, Bool.or_false, Bool.and_false]

end Sys2Proof.Machine
end

section
/-! PROOFS. The mix configuration, crosspoints, meters and the delay-memory aperture (R300, R301, R316 to R320), and O47. -/
namespace Sys2Proof.Machine

/-! ### The mix range (R300) -/

section
variable {s : State} {m : Master} {priv : Bool} {w : Word}

theorem xptCfg_stores : StoresEverywhere A.XPT_CFG := fun v => by cases v <;> decide

/-- The mix range is clamped to the variant's crosspoints at the rate. -/
theorem answers_xptCfgWrite (hd : Direct s m priv A.XPT_CFG) (hr : AsItReads s A.XPT_CFG w) (hne : s.reg A.XPT_CFG ≠ w) :
    Answers (.xptCfgWrite (whole m priv w)) s fun t =>
      t.fld F.XPT_CFG_COUNT = min (F.XPT_CFG_COUNT.of w.toNat) s.mixMax ∧
      t.fld F.XPT_CFG_FIRST = min (F.XPT_CFG_FIRST.of w.toNat) (s.xpts - t.fld F.XPT_CFG_COUNT) ∧ Framed [A.XPT_CFG] [] s t := by
  set y := s.fresh.wr A.XPT_CFG w.toNat with hy
  set z := y.keep F.XPT_CFG_COUNT (min (y.fld F.XPT_CFG_COUNT) y.mixMax) with hz
  set u := z.keep F.XPT_CFG_FIRST (min (z.fld F.XPT_CFG_FIRST) (z.xpts - z.fld F.XPT_CFG_COUNT)) with hu
  have hmix : y.mixMax = s.mixMax := by
    rw [State.mixMax, State.rateMul, hy, State.fld_wr_ne _ _ (by decide), State.xpts, State.wr_variant]
    rfl
  have hxpts : z.xpts = s.xpts := by
    rw [State.xpts, hz, State.keep_variant, hy, State.wr_variant]
    rfl
  have hcount : y.fld F.XPT_CFG_COUNT = F.XPT_CFG_COUNT.of w.toNat := State.fld_wr_word _ _ _ rfl
  have hfirst : y.fld F.XPT_CFG_FIRST = F.XPT_CFG_FIRST.of w.toNat := State.fld_wr_word _ _ _ rfl
  have hzc : z.fld F.XPT_CFG_COUNT = min (F.XPT_CFG_COUNT.of w.toNat) s.mixMax := by
    rw [hz, State.fld_keep_same _ (by decide) (Nat.lt_of_le_of_lt (Nat.min_le_left _ _) (State.fld_lt _ _)), hmix, hcount]
  have hzf : z.fld F.XPT_CFG_FIRST = F.XPT_CFG_FIRST.of w.toNat := by rw [hz, State.fld_keep_free _ (by decide), hfirst]
  have heff : s.fresh.words A.XPT_CFG (whole m priv w) = u := by
    rw [hd.stores hr xptCfg_stores hne]
    rfl
  have hframe : Chg (Listed [A.XPT_CFG]) (Parts []) NoMem s u := ((Chg.refl.fresh.wr _ _ (by simp)).keep _ _ (by simp)).keep _ _ (by simp)
  have huc : (s.seal u).fld F.XPT_CFG_COUNT = min (F.XPT_CFG_COUNT.of w.toNat) s.mixMax := by
    rw [State.fld_seal _ _ (by decide), hu, State.fld_keep_free _ (by decide), hzc]
  refine answers_effect _ rfl heff hframe ⟨huc, ?_, hframe.framed⟩
  rw [huc, State.fld_seal _ _ (by decide), hu, State.fld_keep_same _ (by decide) (Nat.lt_of_le_of_lt (Nat.min_le_left _ _) (State.fld_lt _ _)),
    hzf, hxpts, hzc]

end

/-! ### Crosspoint words (R301) -/

theorem xpts_le (s : State) : s.xpts ≤ 0x4000 := by unfold State.xpts; cases s.variant <;> decide

/-- The bits of a crosspoint's word k that a master may write, and those that are reserved. -/
def xpRw : Nat → Nat
  | 0 => 0x8fff0fff
  | 1 => 0xffffffff
  | 2 => 0x1fff
  | _ => 0

def xpRsv : Nat → Nat
  | 0 => 0x7000f000
  | 2 => 0xe000
  | _ => 0

/-- A crosspoint's words are configuration words: neither posted nor with commands. -/
theorem rowAt_xp {s : State} {n k : Nat} (hn : n < s.xpts) (hk : k < 4) :
    ∃ r, rowAt s.variant (xpAdr n k) = some r ∧ r.rw = xpRw k ∧ r.w1c = 0 ∧ r.sc = 0 ∧ r.wo = 0 ∧ r.rwp = 0 ∧ r.rsv = xpRsv k := by
  have hle := xpts_le s
  have hwin : rowsAt s.variant (xpAdr n k) = rowsTable12 s.variant := by
    have h : xpAdr n k / 0x10000 = 0x12 ∨ xpAdr n k / 0x10000 = 0x13 ∨ xpAdr n k / 0x10000 = 0x14 ∨ xpAdr n k / 0x10000 = 0x15 := by
      simp only [xpAdr, A.TBL_XP_W0]
      omega
    unfold rowsAt
    rcases h with h | h | h | h <;> rw [h] <;> rfl
  rw [State.xpts] at hn hle
  rw [rowAt, hwin, rowsTable12, xpAdr, A.TBL_XP_W0]
  generalize s.variant.pick 0x4000 0x2000 0x1000 = c at hn hle ⊢
  obtain rfl | rfl | rfl | rfl : k = 0 ∨ k = 1 ∨ k = 2 ∨ k = 3 := by omega
  all_goals
    simp (disch := omega) only [find_row_skip, find_row_hit]
    exact ⟨_, rfl, rfl, rfl, rfl, rfl, rfl, rfl⟩

theorem xpAdr_window {s : State} {n k : Nat} (hn : n < s.xpts) (hk : k < 4) : 0x120000 ≤ xpAdr n k ∧ xpAdr n k < 0x160000 ∧ xpAdr n k % 16 = 4 * k := by
  have hle := xpts_le s
  simp only [xpAdr, A.TBL_XP_W0]
  omega

theorem xp_quiet {a : Nat} (h : 0x120000 ≤ a ∧ a < 0x160000) : actsAlways a 0 = false := by
  simp only [actsAlways, ← Bool.not_eq_true, Bool.or_eq_true, Bool.and_eq_true, beq_iff_eq, bne_self_eq_false, Nat.blt_eq, Nat.ble_eq,
    Bool.false_eq_true, false_or, not_or, not_and, not_lt, A.ENG_IMG_DATA, A.MGMT_FW_DATA, A.MGMT_KEY_STAGE, A.MGMT_LOG_IDX, A.TIME_TPO_START_NS,
    A.TBL_LISTENER_W0, A.TBL_LAY_W0, A.TBL_PLINE_W0, A.TBL_SIG_MAG, A.TBL_SCHED_W0, A.RING_PHY_DATA]
  omega

theorem xp_effect (s : State) (m : Master) (p : Bool) {a : Nat} (h : 0x120000 ≤ a ∧ a < 0x160000) (old : Word) (d : Nat) :
    s.regEffect m p a old d = s.xpMaster a := by
  have hw : a / 0x10000 = 0x12 ∨ a / 0x10000 = 0x13 ∨ a / 0x10000 = 0x14 ∨ a / 0x10000 = 0x15 := by omega
  have hx : s.xptTable a old = s.xpMaster a := if_neg (by omega)
  rw [State.regEffect, ← hx]
  rcases hw with h | h | h | h <;> rw [h] <;> rfl

/-- The word that a write of w leaves in a crosspoint's word k. -/
def State.xpMerged (s : State) (n k : Nat) (w : Word) : Nat := clearBits (s.rd (xpAdr n k)) (xpRw k) ||| (w.toNat &&& xpRw k)

section
variable {s : State} {n k : Nat} {m : Master} {priv : Bool} {w : Word}

theorem xp_words (hn : n < s.xpts) (hk : k < 4) (hd : Direct s m priv (xpAdr n k)) (hr : AsItReads s (xpAdr n k) w ∨ k = 1 ∨ k = 3) :
    s.fresh.words (xpAdr n k) (whole m priv w) = (s.fresh.keepWord (xpAdr n k) (s.xpMerged n k w)).act m (s.masterPriv m priv) (xpAdr n k) (s.reg (xpAdr n k)) 0 := by
  obtain ⟨r, hrow, hrw, h1, h2, h3, h4, h5⟩ := rowAt_xp hn hk
  obtain ⟨ha1, ha2, ha3⟩ := xpAdr_window hn hk
  have hrsv : (w.toNat ^^^ s.fresh.rd (xpAdr n k)) &&& r.rsv = 0 := by
    rcases hr with hr | hr
    · exact hr r hrow
    · rw [h5]
      rcases hr with rfl | rfl <;> exact Nat.and_zero _
  have hplace : isPlaceAdr (xpAdr n k) = false := by
    simp only [isPlaceAdr, ← Bool.not_eq_true, Bool.or_eq_true, Bool.and_eq_true, beq_iff_eq, Nat.blt_eq, Nat.ble_eq, A.ENG_SPAN,
      A.ENG_CORE_CERT, A.ENG_DESC_W0]
    omega
  have hd' : Direct s.fresh m priv (xpAdr n k) := hd
  have hpost : postedAt (xpAdr n k) r = none := by rw [postedAt, if_pos h4]
  have hbits : r.rw < 2 ^ 32 := by
    rw [hrw]
    interval_cases k <;> decide
  have hmask : clearBits (r.rw &&& 0xFFFFFFFF) 0 = xpRw k := by
    rw [clearBits_zero, show (0xFFFFFFFF : Nat) = 2 ^ 32 - 1 from rfl, Nat.and_two_pow_sub_one_eq_mod, Nat.mod_eq_of_lt hbits, hrw]
  rw [State.words_land s.fresh m priv _ w r (by omega) (by simp only [A.TEST_CTL]; omega) hrow (hd'.prv hrow _) hpost,
    State.land_one _ _ _ _ _ _ h1 hrsv hplace, hd'.mayWrite hrow, h2, h3, Nat.or_zero, hmask, Nat.and_zero, Nat.zero_and]
  rfl

/-- What a write to a crosspoint's word leaves: the word, and, where it changed, the image of it in the hitches. -/
theorem xp_words_eq (hn : n < s.xpts) (hk : k < 4) (hd : Direct s m priv (xpAdr n k)) (hr : AsItReads s (xpAdr n k) w ∨ k = 1 ∨ k = 3) :
    s.fresh.words (xpAdr n k) (whole m priv w) =
      if (s.fresh.keepWord (xpAdr n k) (s.xpMerged n k w)).reg (xpAdr n k) ≠ s.reg (xpAdr n k) then
        (s.fresh.keepWord (xpAdr n k) (s.xpMerged n k w)).xpMaster (xpAdr n k)
      else s.fresh.keepWord (xpAdr n k) (s.xpMerged n k w) := by
  obtain ⟨ha1, ha2, -⟩ := xpAdr_window hn hk
  have ho : (s.fresh.keepWord (xpAdr n k) (s.xpMerged n k w)).effectOwed (xpAdr n k) = false := by
    unfold State.keepWord
    split
    · exact hd.2.2
    · exact (State.effectOwed_wr _ _ _ _ (by simp only [A.PWR_UNIT_STATUS]; omega) (by simp only [A.SYS_MOD_STATE]; omega)).trans hd.2.2
  rw [xp_words hn hk hd hr, State.act, ho, xp_quiet ⟨ha1, ha2⟩, Bool.false_and, if_neg Bool.false_ne_true, Bool.or_false, xp_effect _ _ _ ⟨ha1, ha2⟩]
  simp only [bne_iff_ne]

theorem chg_xpMaster {R : Nat → Prop} {P : Part → Prop} {M : Nat → Prop} {t : State} (h : Chg R P M s t) (hp : P .play) (a : Nat) :
    Chg R P M s (t.xpMaster a) := by
  unfold State.xpMaster
  dsimp only
  split
  · exact h.play _ hp
  · exact h.play _ hp
  · exact h

theorem xpMerged_whole (hr : AsItReads s (xpAdr n k) w ∨ k = 1) (hn : n < s.xpts) (hk : k < 2) : s.xpMerged n k w = w.toNat := by
  obtain ⟨r, hrow, hrw, -, -, -, -, hrsv⟩ := rowAt_xp hn (Nat.lt_trans hk (by decide))
  have hz : (w.toNat ^^^ s.rd (xpAdr n k)) &&& xpRsv k = 0 := by
    rcases hr with hr | rfl
    · rw [← hrsv]
      exact hr r hrow
    · exact Nat.and_zero _
  refine Row.merge_full _ _ _ (xpRsv k) w.isLt (s.rd_lt _) ?_ hz
  interval_cases k <;> decide

theorem xp_notMem (hn : n < s.xpts) (hk : k < 4) : xpAdr n k ∉ summaries := by
  obtain ⟨h1, h2, -⟩ := xpAdr_window hn hk
  exact notMem_summaries (by omega)

theorem xpMaster_reg (v : State) (a b : Nat) : (v.xpMaster a).reg b = v.reg b := by
  unfold State.xpMaster
  dsimp only
  split <;> rfl

/-- Slots and enable of a crosspoint: the word and no more. -/
theorem answers_crosspointWrite_slots (hn : n < s.xpts) (hd : Direct s m priv (xpAdr n 0)) (hr : AsItReads s (xpAdr n 0) w) :
    Answers (.crosspointWrite n 0 (whole m priv w)) s fun t => t.reg (xpAdr n 0) = w ∧ Framed [xpAdr n 0] [] s t := by
  set u := s.fresh.keepWord (xpAdr n 0) w.toNat with hu
  have hid : u.xpMaster (xpAdr n 0) = u := by
    obtain ⟨h1, h2, h3⟩ := xpAdr_window hn (k := 0) (by decide)
    rw [State.xpMaster, xpWord, if_pos ⟨h1, h2⟩, h3]
    rfl
  have heff : s.fresh.words (xpAdr n 0) (whole m priv w) = u := by
    rw [xp_words_eq hn (by decide) hd (.inl hr), xpMerged_whole (.inl hr) hn (by decide), ← hu, hid, ite_self]
  have hframe : Chg (Listed [xpAdr n 0]) (Parts []) NoMem s u := Chg.refl.fresh.keepWord _ _ (by simp)
  refine answers_effect _ (State.runIf_true s (decide_eq_true hn) _) heff hframe ⟨?_, hframe.framed⟩
  rw [State.reg_seal _ _ (xp_notMem hn (by decide))]
  exact BitVec.eq_of_toNat_eq (State.rd_keepWord s.fresh _ w)

/-- The target of a crosspoint: the word, and the target in every version of the EFs kept. -/
theorem answers_crosspointWrite_target (hn : n < s.xpts) (hd : Direct s m priv (xpAdr n 1)) (hne : s.reg (xpAdr n 1) ≠ w) :
    Answers (.crosspointWrite n 1 (whole m priv w)) s fun t =>
      t.reg (xpAdr n 1) = w ∧ Framed [xpAdr n 1] [.play] s t ∧
      (∀ (k e : Nat) (v : Snap), getAt s.play.hitches k none = some (e, v) →
        ∃ u, getAt t.play.hitches k none = some (e, u) ∧ (Sparse.find u.targets (xpAdr n 1)).getD 0 = w) := by
  set x := s.fresh.keepWord (xpAdr n 1) w.toNat with hx
  have hreg : x.reg (xpAdr n 1) = w := BitVec.eq_of_toNat_eq (State.rd_keepWord s.fresh _ w)
  set u := x.updSnaps fun v => { v with targets := Sparse.put 0 v.targets (xpAdr n 1) w } with hu
  have hmaster : x.xpMaster (xpAdr n 1) = u := by
    obtain ⟨h1, h2, h3⟩ := xpAdr_window hn (k := 1) (by decide)
    rw [State.xpMaster, hreg, xpWord, if_pos ⟨h1, h2⟩, h3]
    rfl
  have heff : s.fresh.words (xpAdr n 1) (whole m priv w) = u := by
    rw [xp_words_eq hn (by decide) hd (.inr (.inl rfl)), xpMerged_whole (.inr rfl) hn (by decide), ← hx, hmaster, hreg, if_pos hne.symm]
  have hframe : Chg (Listed [xpAdr n 1]) (Parts [.play]) NoMem s u := (Chg.refl.fresh.keepWord _ _ (by simp)).play _ (by simp)
  refine answers_effect _ (State.runIf_true s (decide_eq_true hn) _) heff hframe ⟨?_, hframe.framed, fun k e v hk => ?_⟩
  · rw [State.reg_seal _ _ (xp_notMem hn (by decide))]
    exact hreg
  · refine ⟨{ v with targets := Sparse.put 0 v.targets (xpAdr n 1) w }, ?_, ?_⟩
    · have hh : (s.seal u).play.hitches = s.play.hitches.map fun h => h.map fun (e, v) => (e, { v with targets := Sparse.put 0 v.targets (xpAdr n 1) w }) := by
        rw [State.seal_play, hu, State.updSnaps]
        show List.map _ x.play.hitches = _
        rw [hx, State.keepWord_play]
        rfl
      rw [getAt, List.getD, hh, List.getElem?_map]
      rw [getAt, List.getD] at hk
      cases hget : s.play.hitches[k]? with
      | none => rw [hget] at hk; cases hk
      | some h =>
        rw [hget] at hk
        obtain rfl : h = some (e, v) := hk
        rfl
    · rw [Sparse.getD_find_put _ _ _ _ _ _ fun _ => rfl, if_pos rfl]

/-- A field of a masked write: the written bits, or those that stood. -/
theorem Fld.of_merge {f : Fld} {x n k : Nat} :
    ((∀ i < f.width, k.testBit (f.lo + i) = true) → f.of (clearBits x k ||| (n &&& k)) = f.of n) ∧
      ((∀ i < f.width, k.testBit (f.lo + i) = false) → f.of (clearBits x k ||| (n &&& k)) = f.of x) := by
  constructor
  all_goals
    intro h
    apply Nat.eq_of_testBit_eq
    intro i
    rw [Fld.testBit_of, Fld.testBit_of]
    by_cases hi : i < f.width
    · simp [testBit_clearBits, hi, h i hi]
    · simp [hi]

/-- The ramp length of a crosspoint is written; what is left of a ramp is not. -/
theorem answers_crosspointWrite_ramp (hn : n < s.xpts) (hd : Direct s m priv (xpAdr n 2)) (hr : AsItReads s (xpAdr n 2) w) :
    Answers (.crosspointWrite n 2 (whole m priv w)) s fun t =>
      t.fld (F.TBL_XP_W2_RAMP_LEN n) = (F.TBL_XP_W2_RAMP_LEN n).of w.toNat ∧
      t.fld (F.TBL_XP_W2_REMAIN n) = s.fld (F.TBL_XP_W2_REMAIN n) ∧ Framed [xpAdr n 2] [.play] s t := by
  set x := s.fresh.keepWord (xpAdr n 2) (s.xpMerged n 2 w) with hx
  set u := if x.reg (xpAdr n 2) ≠ s.reg (xpAdr n 2) then x.xpMaster (xpAdr n 2) else x with hu
  have heff : s.fresh.words (xpAdr n 2) (whole m priv w) = u := xp_words_eq hn (by decide) hd (.inl hr)
  have hxc : Chg (Listed [xpAdr n 2]) (Parts [.play]) NoMem s x := Chg.refl.fresh.keepWord _ _ (by simp)
  have hframe : Chg (Listed [xpAdr n 2]) (Parts [.play]) NoMem s u := by
    rw [hu]
    split
    · exact chg_xpMaster hxc (by simp) _
    · exact hxc
  have hlt : s.xpMerged n 2 w < 2 ^ 32 := Nat.or_lt_two_pow (clearBits_lt _ _ (s.rd_lt _)) (Nat.lt_of_le_of_lt Nat.and_le_left w.isLt)
  have hrd : (s.seal u).rd (xpAdr n 2) = s.xpMerged n 2 w := by
    have hux : u.reg (xpAdr n 2) = x.reg (xpAdr n 2) := by
      rw [hu]
      split
      · exact xpMaster_reg _ _ _
      · rfl
    rw [State.rd_seal _ _ (xp_notMem hn (by decide)), State.rd_eq_of_reg hux]
    have h := State.rd_keepWord s.fresh (xpAdr n 2) (BitVec.ofNat 32 (s.xpMerged n 2 w))
    rwa [BitVec.toNat_ofNat, Nat.mod_eq_of_lt hlt] at h
  have hadr : A.TBL_XP_W2 n = xpAdr n 2 := by
    simp only [xpAdr, A.TBL_XP_W2, A.TBL_XP_W0]
    omega
  have hfld (v : State) {g : Fld} (hg : g.adr = A.TBL_XP_W2 n) : v.fld g = g.of (v.rd (xpAdr n 2)) := by rw [State.fld, hg, hadr]
  refine answers_effect _ (State.runIf_true s (decide_eq_true hn) _) heff hframe ⟨?_, ?_, hframe.framed⟩
  · rw [hfld _ rfl, hrd]
    exact Fld.of_merge.1 (show ∀ i < 13, (xpRw 2).testBit (0 + i) = true by decide)
  · rw [hfld _ rfl, hrd, hfld _ rfl]
    exact Fld.of_merge.2 (show ∀ i < 13, (xpRw 2).testBit (16 + i) = false by decide)

/-- The gain in force is not written. -/
theorem answers_crosspointWrite_gain (hn : n < s.xpts) (hd : Direct s m priv (xpAdr n 3)) :
    Answers (.crosspointWrite n 3 (whole m priv w)) s fun t => Framed [] [] s t := by
  have hmerge : s.xpMerged n 3 w = s.rd (xpAdr n 3) := by
    show clearBits (s.rd (xpAdr n 3)) 0 ||| w.toNat &&& 0 = _
    rw [clearBits_zero, Nat.and_zero, Nat.or_zero]
  have hkeep : s.fresh.keepWord (xpAdr n 3) (s.rd (xpAdr n 3)) = s.fresh := if_pos rfl
  have heff : s.fresh.words (xpAdr n 3) (whole m priv w) = s.fresh := by
    rw [xp_words_eq hn (by decide) hd (.inr (.inr rfl)), hmerge, hkeep, if_neg fun h => h rfl]
  have hframe : Chg (Listed []) (Parts []) NoMem s s.fresh := Chg.refl.fresh
  exact answers_effect _ (State.runIf_true s (decide_eq_true hn) _) heff hframe hframe.framed

end

/-! ### The metering period (R317 to R319) -/

section
variable {s : State}

/-- A meter's peak and mean square shown. -/
def State.meterShow (s : State) (n : Nat) : State :=
  (s.keepWord (A.XPT_METER_PEAK n) (s.meterVals n).1).keepWord (A.XPT_METER_MS n) (s.meterVals n).2

/-- Messages pushed change the queues alone. -/
theorem chg_pushes {R : Nat → Prop} {P : Part → Prop} {M : Nat → Prop} {t : State} (l : List Msg) (hp : P .hmq) (h : Chg R P M s t) :
    Chg R P M s (forL l (fun m s => s.push m) t) := forL_induction l _ (fun _ _ _ h => h.hmq _ hp) h

/-- Every meter shown. -/
def State.metersShown (s : State) : State := forN s.meterCount (fun n s => s.meterShow n) s

/-- The registers of the meters. -/
def meterRegs (s : State) : List Nat := (List.range s.meterCount).flatMap fun n => [A.XPT_METER_PEAK n, A.XPT_METER_MS n]

theorem chg_metersShown (s : State) : Chg (Listed (meterRegs s)) (Parts []) NoMem s s.metersShown := by
  refine Chg.refl.forN _ _ fun n hn t h => ?_
  have hmem (a : Nat) (ha : a ∈ [A.XPT_METER_PEAK n, A.XPT_METER_MS n]) : Listed (meterRegs s) a :=
    .inl (List.mem_flatMap.mpr ⟨n, List.mem_range.mpr hn, ha⟩)
  exact (h.keepWord _ _ (hmem _ (by simp))).keepWord _ _ (hmem _ (by simp))

theorem rd_keepWord_mod (s : State) (a n : Nat) : (s.keepWord a n).rd a = n % 2 ^ 32 := by
  unfold State.keepWord
  split
  · rename_i h
    rw [← h, Nat.mod_eq_of_lt (s.rd_lt a)]
  · rw [State.rd_wr_same]

theorem meterVals_of {t : State} (n : Nat) (hr : t.reg (A.TBL_METER n) = s.reg (A.TBL_METER n)) (hx : t.xpt = s.xpt) :
    t.meterVals n = s.meterVals n := by
  have hon : t.meterOn n = s.meterOn n := State.on_of_reg (f := F.TBL_METER_EN n) hr
  rw [State.meterVals, State.meterVals, hon, State.meterAcc, State.meterAcc, hx]

theorem meterVals_lt (s : State) (n : Nat) : (s.meterVals n).2 < 2 ^ 32 := by
  unfold State.meterVals
  dsimp only
  split
  · show (if s.xpt.samples = 0 then 0 else min 0x7FFFFFFF _) < 2 ^ 32
    split
    · decide
    · exact Nat.lt_of_le_of_lt (Nat.min_le_left _ _) (by decide)
  · decide

theorem meterShow_other (t : State) {n a : Nat} (h1 : a ≠ A.XPT_METER_PEAK n) (h2 : a ≠ A.XPT_METER_MS n) : (t.meterShow n).reg a = t.reg a := by
  have hc : Chg (fun b => b = A.XPT_METER_PEAK n ∨ b = A.XPT_METER_MS n) (Parts []) NoMem t (t.meterShow n) :=
    (Chg.refl.keepWord _ _ (.inl rfl)).keepWord _ _ (.inr rfl)
  exact hc.reg a fun h => h.elim h1 h2

theorem meterShow_xpt (t : State) (n : Nat) : (t.meterShow n).xpt = t.xpt := by rw [State.meterShow, State.keepWord_xpt, State.keepWord_xpt]

/-- Each meter's registers show its peak and its mean square. -/
theorem metersShown_rd {n : Nat} (hn : n < s.meterCount) :
    s.metersShown.rd (A.XPT_METER_PEAK n) = (s.meterVals n).1 % 2 ^ 32 ∧ s.metersShown.rd (A.XPT_METER_MS n) = (s.meterVals n).2 := by
  have hcount : s.meterCount ≤ 1024 := by unfold State.meterCount; cases s.variant <;> decide
  refine forN_at (fun t => (t.meterVals n, t.rd (A.XPT_METER_PEAK n), t.rd (A.XPT_METER_MS n)))
    (fun r => r.2.1 = (s.meterVals n).1 % 2 ^ 32 ∧ r.2.2 = (s.meterVals n).2) s.meterCount n (fun n s => s.meterShow n) s hn
    (fun i hi hne t => ?_) fun t ht => ?_
  · refine Prod.ext (meterVals_of n (meterShow_other t ?_ ?_) (meterShow_xpt t i))
      (Prod.ext (State.rd_eq_of_reg (meterShow_other t ?_ ?_)) (State.rd_eq_of_reg (meterShow_other t ?_ ?_)))
    all_goals
      simp only [A.TBL_METER, A.XPT_METER_PEAK, A.XPT_METER_MS]
      omega
  · have hv : t.meterVals n = s.meterVals n := congrArg Prod.fst ht
    refine ⟨?_, ?_⟩
    · show (State.rd (State.keepWord _ _ _) _) = _
      rw [State.rd_eq_of_reg (State.reg_keepWord_ne _ _ (by simp only [A.XPT_METER_PEAK, A.XPT_METER_MS]; omega)), rd_keepWord_mod, hv]
    · show (State.rd (State.keepWord _ _ _) _) = _
      rw [rd_keepWord_mod, hv, Nat.mod_eq_of_lt (meterVals_lt s n)]

/-- The messages of a metering period. -/
def State.meterMsgs (s : State) (ef : Nat) : List Msg :=
  if s.on F.XPT_METER_CFG_MSG_EN then (List.range (s.meterCount / 256)).filterMap (fun g => s.meterMsg g ef) else []

/-- The accumulation starts again. -/
def State.meterRestart (s : State) : State := s.updXpt fun x => { x with efs := 0, meters := [], samples := 0, period := s.meterPeriod }

theorem meterClose_eq (s : State) (ef : Nat) : s.meterClose ef = (forL (s.meterMsgs ef) (fun m s => s.push m) s.metersShown).meterRestart := rfl

theorem answers_meterPeriodClose (hrun : s.play.running = true) (hle : s.xpt.period ≤ s.xpt.efs) :
    Answers .meterPeriodClose s fun t =>
      (∀ n < s.meterCount, t.rd (A.XPT_METER_PEAK n) = (s.meterVals n).1 % 2 ^ 32 ∧ t.rd (A.XPT_METER_MS n) = (s.meterVals n).2) ∧
      t.xpt.efs = 0 ∧ t.xpt.samples = 0 ∧ t.xpt.meters = [] ∧ t.xpt.period = s.meterPeriod ∧
      (s.on F.XPT_METER_CFG_MSG_EN = false → Framed (meterRegs s) [.xpt] s t) := by
  set ef := s.play.cleat - 1 with hef
  set x := s.fresh.metersShown with hx
  set y := forL (s.fresh.meterMsgs ef) (fun m s => s.push m) x with hy
  set u := y.meterRestart with hu
  have hxy : Chg (Listed []) (Parts [.hmq]) NoMem x y := chg_pushes _ (by simp) .refl
  have hxc : Chg (Listed (meterRegs s)) (Parts []) NoMem s x := Chg.refl.fresh.trans (chg_metersShown s.fresh)
  have hcount : s.meterCount ≤ 1024 := by unfold State.meterCount; cases s.variant <;> decide
  have heff : s.fresh.when (s.fresh.play.running && Nat.ble s.fresh.xpt.period s.fresh.xpt.efs) (fun s => s.meterClose (s.play.cleat - 1)) = u := by
    have h1 : (s.fresh.play.running && Nat.ble s.fresh.xpt.period s.fresh.xpt.efs) = true := by
      show (s.play.running && Nat.ble s.xpt.period s.xpt.efs) = true
      rw [hrun, Nat.ble_eq.mpr hle]
      rfl
    rw [h1, State.when_true]
    exact meterClose_eq s.fresh ef
  have hall : Chg AnyReg AnyPart NoMem s u := (hxc.anywhere.trans hxy.anywhere).xpt _ trivial
  have hfree {a : Nat} (ha : a ∉ summaries) : (s.seal u).reg a = x.reg a := (State.reg_seal s u ha).trans (hxy.reg a fun h => h.elim (by simp) ha)
  have hperiod : y.meterPeriod = s.meterPeriod := by
    have hcfg : y.reg A.XPT_METER_CFG = s.reg A.XPT_METER_CFG := by
      refine (hxy.reg _ (by unfold Listed; decide)).trans (hxc.reg _ fun h => h.elim (fun h => ?_) (by decide))
      obtain ⟨n, -, hn⟩ := List.mem_flatMap.mp h
      simp only [List.mem_cons, List.not_mem_nil, or_false, A.XPT_METER_CFG, A.XPT_METER_PEAK, A.XPT_METER_MS] at hn
      omega
    rw [State.meterPeriod, State.meterPeriod, State.fld_eq_of_reg hcfg]
  refine answers_effect _ rfl heff hall ⟨fun n hn => ?_, ?_, ?_, ?_, ?_, fun hoff => ?_⟩
  · have h := metersShown_rd (s := s.fresh) hn
    rw [State.rd_eq_of_reg (hfree (notMem_summaries (by simp only [A.XPT_METER_PEAK]; omega))),
      State.rd_eq_of_reg (hfree (notMem_summaries (by simp only [A.XPT_METER_MS]; omega)))]
    exact h
  · rw [State.seal_xpt]
    rfl
  · rw [State.seal_xpt]
    rfl
  · rw [State.seal_xpt]
    rfl
  · rw [State.seal_xpt]
    exact hperiod
  · have hmsgs : s.fresh.meterMsgs ef = [] := if_neg (by rw [show s.fresh.on F.XPT_METER_CFG_MSG_EN = false from hoff]; exact Bool.false_ne_true)
    have hframe : Chg (Listed (meterRegs s)) (Parts [.xpt]) NoMem s u := by
      rw [hu, hy, hmsgs]
      exact (hxc.mono (fun _ h => h) (by simp) (fun _ h => h)).xpt _ (by simp)
    exact hframe.framed

theorem answers_meterPeriodClose_open (h : s.play.running = false ∨ s.xpt.efs < s.xpt.period) :
    Answers .meterPeriodClose s fun t => Framed [] [] s t := by
  have heff : s.fresh.when (s.fresh.play.running && Nat.ble s.fresh.xpt.period s.fresh.xpt.efs) (fun s => s.meterClose (s.play.cleat - 1)) = s.fresh := by
    have h1 : (s.fresh.play.running && Nat.ble s.fresh.xpt.period s.fresh.xpt.efs) = false := by
      show (s.play.running && Nat.ble s.xpt.period s.xpt.efs) = false
      rcases h with h | h
      · rw [h, Bool.false_and]
      · rw [Bool.eq_false_iff.mpr fun hb => absurd (Nat.ble_eq.mp hb) (Nat.not_le.mpr h), Bool.and_false]
    rw [h1, State.when_false]
  have hframe : Chg (Listed []) (Parts []) NoMem s s.fresh := Chg.refl.fresh
  exact answers_effect _ rfl heff hframe hframe.framed

end

/-! ### The delay-memory aperture (R320) -/

section
variable {s : State} {a : Nat} {m : Master} {priv : Bool}

theorem aperture_row (v : Variant) (h : 0x800000 ≤ a ∧ a < 0x1000000) : rowAt v a = none := by
  have hrows : rowsAt v a = [] := by
    unfold rowsAt
    split
    any_goals omega
    rfl
  rw [rowAt, hrows, List.find?_nil]

theorem aperture_domain (h : 0x800000 ≤ a ∧ a < 0x1000000) : domainOf a = none := by
  simp only [domainOf, A.ENG_IMG_DATA, A.MGMT_FW_CTL, A.MGMT_FW_DATA, A.MGMT_KEY_CTL, A.MGMT_CFG_CTL, A.MGMT_KEY_STAGE, A.RING_PHY_DATA]
  repeat rw [if_neg (by omega)]

/-- What the aperture reads. -/
def State.apertureWord (s : State) (a : Nat) : Nat := if s.unitAwake 2 then s.apertureRead a else 0

/-- The two accesses by the place in delay memory. They are stated of the functions, not of their values: to compare two
values the kernel would evaluate the place of a word at an address that is a variable. -/
theorem apertureRead_eq : @State.apertureRead = fun (s : State) (a : Nat) =>
    match s.apertureAt a with
    | none => 0
    | some b => if s.pwr.trig || !s.blockOk 6 then 0 else (s.memWord b).toNat := by
  delta State.apertureRead
  exact Eq.refl _

theorem apertureWrite_eq : @State.apertureWrite = fun (s : State) (a : Nat) (w : Word) =>
    match s.apertureAt a with
    | none => s
    | some b => if s.pwr.trig || !s.unitAwake 2 || !s.blockOk 6 then s else s.putMemWord b w := by
  delta State.apertureWrite
  exact Eq.refl _

theorem apertureAt_fresh (s : State) (a : Nat) : s.fresh.apertureAt a = s.apertureAt a := by
  unfold State.apertureAt
  rw [show s.fresh.fld F.XPT_DLY_BANK_BANK = s.fld F.XPT_DLY_BANK_BANK from rfl, show s.fresh.dlyBytes = s.dlyBytes from rfl]

theorem apertureRead_some {b : Nat} (hb : s.apertureAt a = some b) (ht : s.pwr.trig = false) (hok : s.blockOk 6 = true) :
    s.apertureRead a = (s.memWord b).toNat := by
  have e := congrFun (congrFun apertureRead_eq s) a
  rw [e, hb]
  exact if_neg (by rw [ht, hok]; decide)

theorem apertureRead_zero (h : s.apertureAt a = none ∨ s.pwr.trig = true) : s.apertureRead a = 0 := by
  have e := congrFun (congrFun apertureRead_eq s) a
  rw [e]
  cases hb : s.apertureAt a with
  | none => rfl
  | some b =>
    rw [hb] at h
    exact if_pos (by rw [h.resolve_left (by simp), Bool.true_or])

theorem apertureWrite_some {b : Nat} (w : Word) (hb : s.apertureAt a = some b) (ht : s.pwr.trig = false) (hu : s.unitAwake 2 = true)
    (hok : s.blockOk 6 = true) : s.apertureWrite a w = s.putMemWord b w := by
  have e := congrFun (congrFun (congrFun apertureWrite_eq s) a) w
  rw [e, hb]
  exact if_neg (by rw [ht, hu, hok]; decide)

theorem apertureWrite_none (w : Word) (h : s.apertureAt a = none ∨ s.pwr.trig = true) : s.apertureWrite a w = s := by
  have e := congrFun (congrFun (congrFun apertureWrite_eq s) a) w
  rw [e]
  cases hb : s.apertureAt a with
  | none => rfl
  | some b =>
    rw [hb] at h
    exact if_pos (by rw [h.resolve_left (by simp), Bool.true_or, Bool.true_or])

theorem aperture_read (h : 0x800000 ≤ a ∧ a < 0x1000000) (h4 : a % 4 = 0) : s.busRead m priv a = s.responds m (s.apertureWord a) := by
  have hw : s.windowRead a m = some (s.apertureWord a) := by
    rw [State.windowRead, if_neg (by simp only [bar2Base]; omega), if_neg (by omega), if_neg (by omega), if_neg (by omega), if_pos h]
    rfl
  have hget : s.busGet m priv a = (s.apertureWord a, s) := by
    rw [State.busGet, if_neg (by omega), aperture_domain h]
    dsimp only
    rw [aperture_row _ h, hw]
    rfl
  rw [State.busRead, hget]
  rfl

theorem served_one (x : BusWrite) : served [x] = [x] := by
  obtain ⟨m, p, b, w⟩ := x
  cases m <;> rfl

/-- A word on the bus where no register is goes to its window. -/
theorem busWrites_window {v : State} (h4 : a % 4 = 0) (w : Word) (hrow : rowAt s.variant a = none)
    (hw : s.windowWrite a m (s.masterPriv m priv) w = some v) : s.busWrites a [⟨m, priv, 15, w⟩] = v := by
  have hp : List.partition (fun x : BusWrite => a % 4 == 0 && x.be % 16 == 15) [⟨m, priv, 15, w⟩] = ([⟨m, priv, 15, w⟩], []) := by
    simp only [List.partition_eq_filter_filter, List.filter_cons, h4, List.filter_nil]
    rfl
  unfold State.busWrites
  rw [served_one, hp]
  show (match rowAt s.variant a with
    | none => _
    | some _ => _) = _
  rw [hrow]
  show (s.windowWrite a m (s.masterPriv m priv) (BitVec.ofNat 32 w.toNat)).getD s = v
  rw [BitVec.ofNat_toNat, BitVec.setWidth_eq, hw, Option.getD_some]

theorem aperture_write (h : 0x800000 ≤ a ∧ a < 0x1000000) (h4 : a % 4 = 0) (w : Word) : s.word m priv a w.toNat = s.apertureWrite a w := by
  have hw : s.windowWrite a m (s.masterPriv m priv) w = some (s.apertureWrite a w) := by
    rw [State.windowWrite, if_neg (by simp only [bar2Base]; omega), if_neg (by omega), if_neg (by omega), if_neg (by omega), if_pos h]
  have ht : (a == A.TEST_CTL) = false := beq_false_of_ne (by simp only [A.TEST_CTL]; omega)
  rw [State.word, ht, State.when_false, State.writeThrough, aperture_domain h, BitVec.ofNat_toNat, BitVec.setWidth_eq]
  exact busWrites_window h4 w (aperture_row _ h) hw

theorem getAt_setAt_same (l : List Word) {i : Nat} (hi : i < l.length) (w : Word) : getAt (setAt l i w) i 0 = w := by simp [getAt, setAt, hi]

theorem getAt_setAt_ne (l : List Word) {i k : Nat} (hk : k ≠ i) (w : Word) : getAt (setAt l i w) k 0 = getAt l k 0 := by
  simp [getAt, setAt, List.getD, hk.symm]

/-- An access to the aperture is a read or a write of the bus. -/
theorem exec_aperture_read (s : State) (off : Fin 0x800000) : exec (.dlyApertureAccess off m priv none) s = s.run (State.busRead · m priv (0x800000 + off.val)) :=
  rfl

theorem exec_aperture_write (s : State) (off : Fin 0x800000) (w : Word) :
    exec (.dlyApertureAccess off m priv (some w)) s = s.run (State.word · m priv (0x800000 + off.val) w.toNat) := rfl

theorem Part.same_seal {p : Part} {u : State} (h : p.Same s u) : p.Same s (s.seal u) := by
  cases p <;> simp only [Part.Same] at h ⊢ <;> simp [h]

theorem aperture_bounds {off : Fin 0x800000} (ha : 0x800000 + off.val = a) : 0x800000 ≤ a ∧ a < 0x1000000 := by
  have := off.isLt
  omega

/-- What a read of the aperture answers. -/
theorem answers_aperture_read {off : Fin 0x800000} (hshape : Shaped s) (ha : 0x800000 + off.val = a) (h4 : a % 4 = 0) {w : Nat}
    (hw : s.fresh.apertureWord a = w) :
    Answers (.dlyApertureAccess off m priv none) s fun t =>
      getAt t.resp m.code 0 = BitVec.ofNat 32 w ∧ (∀ k, k ≠ m.code → getAt t.resp k 0 = getAt s.resp k 0) ∧ Framed [] [.resp] s t := by
  have hlen : m.code < s.fresh.resp.length := by
    obtain ⟨-, -, -, -, -, -, -, -, -, h5, -⟩ := hshape
    show m.code < s.resp.length
    rw [h5]
    cases m <;> decide
  have heff : s.fresh.busRead m priv (0x800000 + off.val) = s.fresh.responds m w := by
    rw [ha, aperture_read (aperture_bounds ha) h4, hw]
  have hframe : Chg (Listed []) (Parts [.resp]) NoMem s (s.fresh.responds m w) := Chg.refl.fresh.resp _ (by simp)
  refine answers_effect (State.busRead · m priv (0x800000 + off.val)) (exec_aperture_read s off) heff hframe ⟨?_, fun k hk => ?_, hframe.framed⟩
  · rw [State.seal_resp, State.responds]
    exact getAt_setAt_same _ hlen _
  · rw [State.seal_resp, State.responds]
    exact getAt_setAt_ne _ hk _

/-- A read with the EF trigger stopped returns delay memory. -/
theorem answers_aperture_word {off : Fin 0x800000} {b : Nat} (hshape : Shaped s) (ha : 0x800000 + off.val = a) (h4 : a % 4 = 0)
    (hb : s.apertureAt a = some b) (ht : s.pwr.trig = false) (hu : s.unitAwake 2 = true) (hok : s.blockOk 6 = true) :
    Answers (.dlyApertureAccess off m priv none) s fun t =>
      getAt t.resp m.code 0 = s.memWord b ∧ (∀ k, k ≠ m.code → getAt t.resp k 0 = getAt s.resp k 0) ∧ Framed [] [.resp] s t := by
  have hw : s.fresh.apertureWord a = (s.memWord b).toNat := by
    rw [State.apertureWord, if_pos (show s.fresh.unitAwake 2 = true from hu), apertureRead_some (s := s.fresh) ((apertureAt_fresh s a).trans hb) ht hok]
    rfl
  have h := answers_aperture_read (m := m) (priv := priv) hshape ha h4 hw
  rwa [BitVec.ofNat_toNat, BitVec.setWidth_eq] at h

/-- A read while the EF trigger runs, or where no delay memory is, returns zero. -/
theorem answers_aperture_zero {off : Fin 0x800000} (hshape : Shaped s) (ha : 0x800000 + off.val = a) (h4 : a % 4 = 0)
    (h : s.apertureAt a = none ∨ s.pwr.trig = true) :
    Answers (.dlyApertureAccess off m priv none) s fun t => getAt t.resp m.code 0 = 0 ∧ Framed [] [.resp] s t := by
  have hw : s.fresh.apertureWord a = 0 := by
    rw [State.apertureWord, apertureRead_zero (by rw [apertureAt_fresh]; exact h), ite_self]
  obtain ⟨t, ht, h1, -, h3⟩ := answers_aperture_read (m := m) (priv := priv) hshape ha h4 hw
  exact ⟨t, ht, h1, h3⟩

/-- A write with the EF trigger stopped lands in delay memory. -/
theorem answers_aperture_write {off : Fin 0x800000} {b : Nat} (w : Word) (ha : 0x800000 + off.val = a) (h4 : a % 4 = 0)
    (hb : s.apertureAt a = some b) (ht : s.pwr.trig = false) (hu : s.unitAwake 2 = true) (hok : s.blockOk 6 = true) :
    Answers (.dlyApertureAccess off m priv (some w)) s fun t =>
      t.memWord b = w ∧ MemKeptBut b 4 s t ∧ RegsKept [] s t ∧ ∀ p : Part, p.Same s t := by
  set u := s.fresh.putMemWord b w with hu'
  have heff : s.fresh.word m priv (0x800000 + off.val) w.toNat = u := by
    rw [ha, aperture_write (aperture_bounds ha) h4, apertureWrite_some (s := s.fresh) w ((apertureAt_fresh s a).trans hb) ht hu hok]
  have hframe : Chg (Listed []) (Parts []) (fun a => b ≤ a ∧ a < b + 4) s u :=
    Chg.refl.fresh.trans ((chg_putMemWord s.fresh b w).mono (fun _ h => h.elim) (fun _ h => h) (fun _ h => h))
  refine answers_effect (State.word · m priv (0x800000 + off.val) w.toNat) (exec_aperture_write s off w) heff hframe ⟨?_, fun x hx => ?_, hframe.regsKept,
    fun p => Part.same_seal (hframe.part p (by simp))⟩
  · rw [State.memWord_seal, hu', State.memWord_putMemWord_same]
  · exact (State.byte_seal s u x).trans (hframe.byte x (by omega))

/-- A write while the EF trigger runs, or where no delay memory is, is lost. -/
theorem answers_aperture_lost {off : Fin 0x800000} (w : Word) (ha : 0x800000 + off.val = a) (h4 : a % 4 = 0)
    (h : s.apertureAt a = none ∨ s.pwr.trig = true) :
    Answers (.dlyApertureAccess off m priv (some w)) s fun t => Framed [] [] s t := by
  have heff : s.fresh.word m priv (0x800000 + off.val) w.toNat = s.fresh := by
    rw [ha, aperture_write (aperture_bounds ha) h4, apertureWrite_none w (by rw [apertureAt_fresh]; exact h)]
  have hframe : Chg (Listed []) (Parts []) NoMem s s.fresh := Chg.refl.fresh
  exact answers_effect (State.word · m priv (0x800000 + off.val) w.toNat) (exec_aperture_write s off w) heff hframe hframe.framed

end

/-- Settles O47, clause by clause: the mix range, a crosspoint's words, the metering period and the aperture. -/
theorem mixerAndDelayMemory : Obligations.MixerAndDelayMemory := by
  unfold Obligations.MixerAndDelayMemory
  refine ⟨fun s m priv w hd hr hne => answers_xptCfgWrite hd hr hne, fun s n m priv w hn hd hr => answers_crosspointWrite_slots hn hd hr,
    fun s n m priv w hn hd hne => answers_crosspointWrite_target hn hd hne, fun s n m priv w hn hd hr => answers_crosspointWrite_ramp hn hd hr,
    fun s n m priv w hn hd => answers_crosspointWrite_gain hn hd, fun s hrun hle => answers_meterPeriodClose hrun hle,
    fun s h => answers_meterPeriodClose_open h,
    fun s off m priv b hshape h4 hb ht hu hok => answers_aperture_word hshape rfl (by omega) hb ht hu hok,
    fun s off m priv b w h4 hb ht hu hok => answers_aperture_write w rfl (by omega) hb ht hu hok,
    fun s off m priv w hshape h4 h => ⟨answers_aperture_zero hshape rfl (by omega) h, answers_aperture_lost w rfl (by omega) h⟩⟩

end Sys2Proof.Machine
end

section

/-! PROOFS. Refutes ProofRuns (O50). -/

namespace Sys2Proof.Machine

theorem proofCmdRun_strikes : Strikes A.PROOF_CMD 16 := fun v => by cases v <;> decide

/-- RUN with every unit on, and a word held inside the path table at an address of no register. -/
def strayPathWord : State :=
  { State.reset with regs := [(A.SYS_MOD_STATE, 4), (A.PWR_UNIT_STATUS, 0x7FFF), (A.TBL_PATH_W0 0 + 1, 5)] }

theorem strayPathWord_direct : Direct strayPathWord .mp true A.PROOF_CMD := by decide

theorem strayPathWord_run :
    strayPathWord.fresh.strike .mp true A.PROOF_CMD 16 = strayPathWord.fresh.runStart 3 := by
  rw [strayPathWord_direct.strike proofCmdRun_strikes]
  rfl

theorem strayPathAdr_notMem : 
    A.TBL_PATH_W0 0 + 1 ∉ A.PROOF_RUN_STATUS :: (List.range 512).map fun k => A.TBL_PATH_W0 0 + 4 * k := by
  have hall (k : Nat) : A.TBL_PATH_W0 0 + 4 * k ≠ A.TBL_PATH_W0 0 + 1 := by omega
  simp only [List.mem_cons, List.mem_map, hall, and_false, exists_false]
  decide

/-- Refutes O50: the start of a run drops every listed word of the path table's addresses, and with them a word stored between
two of its registers, which no command stores: the frame of that clause names the registers alone. -/
theorem not_proofRuns : ¬ Obligations.ProofRuns := by
  rintro ⟨hrun, -⟩
  obtain ⟨t, ht, -, -, -, -, -, -, hframed⟩ := hrun strayPathWord .mp true strayPathWord_direct (by decide) (by decide)
  have hx : exec (.proofCmdRun .mp true) strayPathWord = .next (strayPathWord.seal (strayPathWord.fresh.runStart 3)) :=
    congrArg Host.Outcome.next (strayPathWord.done_eq _ strayPathWord_run (by decide))
  obtain rfl := Host.Outcome.next.inj (hx.symm.trans ht)
  have hkept := hframed.1 (A.TBL_PATH_W0 0 + 1) strayPathAdr_notMem (by decide)
  rw [State.reg_seal _ _ (by decide)] at hkept
  exact absurd hkept (by decide)

end Sys2Proof.Machine
end

section

/-! PROOFS. Refutes Firmware (O59). -/

namespace Sys2Proof.Machine

/-- A module whose new bank is to start at once, with a word held at an address between two sensors' registers. -/
def strayRestart : State := { strayWord with mgmt.fw.pend := true }

/-- Refutes O59: the restart into the new bank keeps every listed word between the sensors' registers, so that a word stored
at an address that is no register's, as no command stores it, is not brought to its reset value. -/
theorem not_firmware : ¬ Obligations.Firmware := by
  rintro ⟨-, -, -, -, -, -, -, -, -, -, -, hrestart, -⟩
  obtain ⟨t, ht, ⟨-, -, -, -, -, -, hregs, -⟩, -, -⟩ := hrestart strayRestart rfl rfl (by decide) (Or.inl (by decide))
  have hu : strayRestart.fresh.fwRestart = strayRestart.fresh.enterReset 1 1 := by
    unfold State.fwRestart
    exact if_pos (by decide)
  have hx : exec .fwRestart strayRestart = .next (strayRestart.seal (strayRestart.fresh.enterReset 1 1)) :=
    congrArg Host.Outcome.next (strayRestart.done_eq _ hu (State.enterReset_variant ..))
  obtain rfl := Host.Outcome.next.inj (hx.symm.trans ht)
  have hreset := hregs (A.MGMT_SENS 0 + 1) (by decide) (fun k hk => by unfold A.MGMT_SENS; omega) (by decide)
  rw [State.reg_seal _ _ (by decide), State.reg_enterReset _ _ _ (by decide) (by decide)] at hreset
  exact absurd hreset (by decide)

end Sys2Proof.Machine
end

section

/-! PROOFS. Self-test: the test queue (R523, R526, R530, R537). -/

namespace Sys2Proof.Machine

/-! ### The command registers -/

/-- A register whose every bit is a command. -/
def Row.Orders (r : Row) : Prop := r.w1c = 0 ∧ r.rw = 0 ∧ r.rsv = 0 ∧ r.sc = 0xFFFFFFFF ∧ r.rwp ≠ 0

theorem Row.merged_of_none {r : Row} (h : r.rw = 0) (x n : Nat) : r.merged x n = x := by
  have hnone (y : Nat) : clearBits (0 &&& 0xFFFFFFFF) y = 0 := by simp [clearBits]
  rw [Row.merged, h, hnone, Nat.and_zero, Nat.or_zero, clearBits_zero]

theorem and_all_ones {n : Nat} (k : Nat) (hn : n < 2 ^ 32) : n &&& (0xFFFFFFFF ||| k) &&& 0xFFFFFFFF = n := by
  apply Nat.eq_of_testBit_eq
  intro i
  rcases Nat.lt_or_ge i 32 with hi | hi
  · have h1 : (0xFFFFFFFF : Nat).testBit i = true := (Nat.testBit_two_pow_sub_one 32 i).trans (decide_eq_true hi)
    simp [h1]
  · have h0 : n.testBit i = false := Nat.testBit_lt_two_pow (Nat.lt_of_lt_of_le hn (Nat.pow_le_pow_right (by decide) hi))
    simp [h0]

/-- A word written to a register of commands starts those its bits name. -/
theorem Direct.orders {s : State} {m : Master} {priv : Bool} {a n : Nat} (h : Direct s m priv a)
    (hr : ∃ r, rowAt s.variant a = some r ∧ r.Orders) (h4 : a % 4 = 0) (ht : a ≠ A.TEST_CTL) (hp : isPlaceAdr a = false) (hn : n < 2 ^ 32)
    (hnone : ∀ t : State, t.regEffect m (t.masterPriv m priv) a (t.reg a) 0 = t) (hq : actsAlways a 0 = false) :
    s.fresh.word m priv a n = s.fresh.regEffect m (s.masterPriv m priv) a (s.reg a) n := by
  obtain ⟨r, hrow, h1, h2, h3, h5, h6⟩ := hr
  have hd : Direct s.fresh m priv a := h
  have htakes : r.takes a (s.fresh.rd a) n = true := by
    simp [Row.takes, h1, h3, h4, hp, h6]
    exact ⟨hn, ht⟩
  rw [State.word_direct s.fresh m priv a n r hd hrow htakes, Row.merged_of_none h2, State.keepWord_self, h5, and_all_ones _ hn]
  rcases Nat.eq_zero_or_pos n with rfl | hpos
  · have ho : s.fresh.effectOwed a = false := hd.2.2
    rw [State.act, ho, hq]
    simpa using (show s.fresh = s.fresh.regEffect m (s.masterPriv m priv) a (s.reg a) 0 from (hnone s.fresh).symm)
  · exact State.act_command s.fresh m _ a n hd.2.2 (Nat.pos_iff_ne_zero.mp hpos)

theorem rowAt_testStart (v : Variant) : ∃ r, rowAt v A.TEST_START = some r ∧ r.Orders :=
  ⟨_, by cases v <;> rfl, rfl, rfl, rfl, rfl, by decide⟩

theorem rowAt_testClear (v : Variant) : ∃ r, rowAt v A.TEST_CLEAR = some r ∧ r.Orders :=
  ⟨_, by cases v <;> rfl, rfl, rfl, rfl, rfl, by decide⟩

theorem forN_id {f : Nat → State → State} (n : Nat) (s : State) (h : ∀ i t, f i t = t) : forN n f s = s :=
  forN_induction (p := fun t => t = s) n f (fun i _ t ht => (h i t).trans ht) rfl

theorem testStart_zero (s : State) : s.testStart 0 = s := forN_id 32 s fun i t => by rw [Nat.zero_testBit, State.when_false]

theorem testClear_zero (s : State) : s.testClear 0 = s :=
  forN_id 32 s fun i t => by rw [Nat.zero_testBit, Bool.false_and, State.when_false]

section
variable {s : State} {m : Master} {priv : Bool}

theorem testStart_effect (mask : Word) (hd : Direct s m priv A.TEST_START) :
    s.fresh.word m priv A.TEST_START mask.toNat = s.fresh.testStart mask.toNat :=
  hd.orders (rowAt_testStart _) rfl (by decide) (by decide) mask.isLt (fun t => testStart_zero t) (by decide)

theorem testClear_effect (mask : Word) (hd : Direct s m priv A.TEST_CLEAR) :
    s.fresh.word m priv A.TEST_CLEAR mask.toNat = s.fresh.testClear mask.toNat :=
  hd.orders (rowAt_testClear _) rfl (by decide) (by decide) mask.isLt (fun t => testClear_zero t) (by decide)

theorem rowAt_testCtl (v : Variant) :
    ∃ r, rowAt v A.TEST_CTL = some r ∧ r.w1c = 0 ∧ r.rw = 0 ∧ r.sc = 1 ∧ r.wo = 0 ∧ r.rsv = 0xFFFFFFFE ∧ r.rwp = 1 :=
  ⟨_, by cases v <;> rfl, rfl, rfl, rfl, rfl, rfl, rfl⟩

/-- STOP empties the queue; the end of the start-up tests follows where it was all they waited for (R524). -/
theorem testStop_effect (hd : Direct s m priv A.TEST_CTL) (hm : s.masterPriv m priv = true) :
    s.fresh.strike m priv A.TEST_CTL 1 = s.fresh.testStop.startupEnd := by
  obtain ⟨r, hrow, h1, h2, h3, h5, h6, h7⟩ := rowAt_testCtl s.variant
  have hrow' : rowAt s.fresh.variant A.TEST_CTL = some r := hrow
  have hm' : s.fresh.masterPriv m priv = true := hm
  have ho : s.fresh.effectOwed A.TEST_CTL = false := hd.2.2
  set x := s.fresh.rd A.TEST_CTL with hx
  have hxlt : x < 2 ^ 32 := s.fresh.rd_lt _
  have hread : s.fresh.asRead m priv A.TEST_CTL = clearBits x 1 := by
    unfold State.asRead
    rw [hrow']
    dsimp only
    rw [h3, h5, hm', if_pos rfl]
    rfl
  have hnlt : clearBits x 1 ||| 1 < 2 ^ 32 := Nat.or_lt_two_pow (clearBits_lt _ _ hxlt) (by decide)
  have hsame : ((clearBits x 1 ||| 1) ^^^ x) &&& 0xFFFFFFFE = 0 := by
    apply Nat.eq_of_testBit_eq
    intro i
    rcases Nat.eq_zero_or_pos i with rfl | hi
    · simp [Nat.testBit_and]
    · have h1 : Nat.testBit 1 i = false := by
        exact Nat.testBit_lt_two_pow (Nat.one_lt_two_pow (Nat.pos_iff_ne_zero.mp hi))
      simp only [Nat.testBit_and, Nat.testBit_xor, Nat.testBit_or, testBit_clearBits, h1, Bool.not_false, Bool.and_true, Bool.or_false,
        Bool.xor_self, Bool.false_and, Nat.zero_testBit]
  have hbit : (clearBits x 1 ||| 1) &&& 1 &&& 0xFFFFFFFF = 1 := by
    rw [Nat.and_assoc, show (1 : Nat) &&& 0xFFFFFFFF = 1 from rfl, Nat.and_one_is_mod, Nat.or_mod_two_eq_one.mpr (Or.inr rfl)]
  have hw : (BitVec.ofNat 32 (clearBits x 1 ||| 1)).toNat = clearBits x 1 ||| 1 := by
    rw [BitVec.toNat_ofNat, Nat.mod_eq_of_lt hnlt]
  unfold State.strike State.word
  rw [hread, State.writeThrough_lands s.fresh _ r m priv _ rfl hrow' hd.1 (Or.inl hm') (Or.inr (by rw [h7]; decide)), hw,
    State.land_one _ _ _ _ _ _ h1 (by rw [h6]; exact hsame) rfl, beq_self_eq_true, State.when_true, hm', h2, h3, h5,
    show r.mayWrite true = 0xFFFFFFFF from rfl, Nat.zero_and, Nat.or_zero, hbit]
  have hkeep : s.fresh.keepWord A.TEST_CTL (clearBits x (clearBits 0 1) ||| ((clearBits x 1 ||| 1) &&& clearBits 0 1)) = s.fresh := by
    rw [show clearBits 0 1 = 0 from rfl, Nat.and_zero, Nat.or_zero, clearBits_zero]
    exact State.keepWord_self ..
  have hact : s.fresh.act m true A.TEST_CTL (s.fresh.reg A.TEST_CTL) 1 = s.fresh.testStop :=
    State.act_command s.fresh m true A.TEST_CTL 1 ho (by decide)
  rw [hkeep, hact]

end

/-! ### Queueing a block (R523) -/

section
variable {s : State} {b o : Nat}

theorem resW0_ne_queued (b : Nat) : A.TEST_RES_W0 b ≠ A.TEST_QUEUED := by simp only [A.TEST_RES_W0, A.TEST_QUEUED]; omega
theorem resW0_inj {b k : Nat} (h : b ≠ k) : A.TEST_RES_W0 b ≠ A.TEST_RES_W0 k := by simp only [A.TEST_RES_W0]; omega
theorem resW0_notMem (b : Nat) (hb : b < 32) : A.TEST_RES_W0 b ∉ summaries := notMem_summaries (by simp only [A.TEST_RES_W0]; omega)

/-- A test of the block can be queued: the variant has it, and it neither waits nor runs. -/
def State.queues (s : State) (b : Nat) : Prop :=
  blockPresent s.variant b = true ∧ s.bitOf F.TEST_QUEUED_MASK b = false ∧ s.test.running ≠ some b

theorem testQueue_queues (h : s.queues b) :
    s.testQueue b o = ((((s.setBit F.TEST_QUEUED_MASK b true).set (F.TEST_RES_W0_STATE b) 1).set (F.TEST_RES_W0_ORIGIN b) o).updTest
      fun t => { t with aborts := setAt t.aborts b 0 }) := by
  obtain ⟨h1, h2, h3⟩ := h
  exact if_neg (by simp [h1, h2, h3])

theorem testQueue_skips (h : ¬ s.queues b) : s.testQueue b o = s := by
  refine if_pos ?_
  unfold State.queues at h
  by_contra hc
  refine h ?_
  simpa [not_or, and_assoc] using hc

theorem Chg.testQueue {R : Nat → Prop} {P : Part → Prop} {M : Nat → Prop} {t : State} (h : Chg R P M s t) (b o : Nat) (hq : R A.TEST_QUEUED)
    (hr : R (A.TEST_RES_W0 b)) (hp : P .test) : Chg R P M s (t.testQueue b o) := by
  by_cases hk : t.queues b
  · rw [testQueue_queues hk]
    exact (((h.setBit _ _ _ hq).set _ _ hr).set _ _ hr).updTest _ hp
  · rwa [testQueue_skips hk]

/-- What a block's queueing shows: its place in the queue, its result word, and what the choice to queue it looks at. -/
def State.queueRead (s : State) (b : Nat) : Bool × Word × Option Nat × Variant :=
  (s.bitOf F.TEST_QUEUED_MASK b, s.reg (A.TEST_RES_W0 b), s.test.running, s.variant)

theorem queueRead_eq {t : State} (h1 : t.bitOf F.TEST_QUEUED_MASK b = s.bitOf F.TEST_QUEUED_MASK b)
    (h2 : t.reg (A.TEST_RES_W0 b) = s.reg (A.TEST_RES_W0 b)) (h3 : t.test.running = s.test.running) (h4 : t.variant = s.variant) :
    t.queueRead b = s.queueRead b := by
  rw [State.queueRead, h1, h2, h3, h4, State.queueRead]

theorem updTest_running {f : TestS → TestS} (h : ∀ x, (f x).running = x.running) : (s.updTest f).test.running = s.test.running := h _

theorem testQueue_running : (s.testQueue b o).test.running = s.test.running := by
  by_cases hq : s.queues b
  · rw [testQueue_queues hq, updTest_running, State.set_test, State.set_test, State.setBit_test]
    exact fun _ => rfl
  · rw [testQueue_skips hq]

theorem bitOf_testQueue_ne {k : Nat} (hk : k < 32) (h : k ≠ b) :
    (s.testQueue k o).bitOf F.TEST_QUEUED_MASK b = s.bitOf F.TEST_QUEUED_MASK b := by
  by_cases hq : s.queues k
  · rw [testQueue_queues hq, State.bitOf, State.fld_updTest, State.fld_set_ne _ _ (resW0_ne_queued k).symm,
      State.fld_set_ne _ _ (resW0_ne_queued k).symm]
    exact (State.bitOf_setBit s rfl hk true b).trans (if_neg (Ne.symm h))
  · rw [testQueue_skips hq]

theorem reg_testQueue_ne {k : Nat} (h : k ≠ b) : (s.testQueue k o).reg (A.TEST_RES_W0 b) = s.reg (A.TEST_RES_W0 b) := by
  have hc : Chg (fun a => a = A.TEST_QUEUED ∨ a = A.TEST_RES_W0 k) AnyPart NoMem s (s.testQueue k o) :=
    Chg.refl.testQueue k o (.inl rfl) (.inr rfl) trivial
  refine hc.reg _ ?_
  rintro (h' | h')
  · exact resW0_ne_queued b h'
  · exact resW0_inj h.symm h'

theorem queueRead_testQueue {k : Nat} (hk : k < 32) (h : k ≠ b) : (s.testQueue k o).queueRead b = s.queueRead b := by
  have hc : Chg AnyReg AnyPart NoMem s (s.testQueue k o) := Chg.refl.testQueue k o trivial trivial trivial
  exact queueRead_eq (bitOf_testQueue_ne hk h) (reg_testQueue_ne h) testQueue_running hc.variant

/-- A result word as it stands with a test queued for a cause. -/
def queuedWord (b o : Nat) (w : Word) : Prop := (F.TEST_RES_W0_STATE b).of w.toNat = 1 ∧ (F.TEST_RES_W0_ORIGIN b).of w.toNat = o

theorem isQueued_testQueue (hb : b < 32) (ho : o < 16) (h : s.queues b) : IsQueued b o (s.testQueue b o) := by
  rw [testQueue_queues h]
  refine ⟨?_, ?_, ?_⟩
  · rw [State.bitOf, State.fld_updTest, State.fld_set_ne _ _ (resW0_ne_queued b).symm, State.fld_set_ne _ _ (resW0_ne_queued b).symm]
    exact (State.bitOf_setBit s rfl hb true b).trans (if_pos rfl)
  · rw [State.fld_updTest, State.fld_set_free _ (by simp [Fld.free, Fld.ok, Fld.apart])]
    exact State.fld_set_same _ rfl 1
  · rw [State.fld_updTest, State.fld_set_same _ rfl]
    exact Nat.mod_eq_of_lt ho

theorem isQueued_iff {t : State} : IsQueued b o t ↔ (t.queueRead b).1 = true ∧ queuedWord b o (t.queueRead b).2.1 := Iff.rfl

theorem queues_of_read {t : State} (h : t.queueRead b = s.queueRead b) : t.queues b ↔ s.queues b := by
  simp only [State.queueRead, Prod.mk.injEq] at h
  obtain ⟨h1, -, h3, h4⟩ := h
  rw [State.queues, h1, h3, h4, State.queues]

end

/-! ### START (R523) -/

section
variable {s : State} {m : Master} {priv : Bool} {b mask : Nat}

theorem queueRead_seal {u : State} (hb : b < 32) : (s.seal u).queueRead b = u.queueRead b := by
  refine queueRead_eq ?_ (State.reg_seal _ _ (resW0_notMem b hb)) (by rw [State.seal_test]) (State.seal_variant _ _)
  exact State.bitOf_seal _ _ (by decide) b

theorem queueRead_testStart_ne {k : Nat} (hk : k < 32) (h : k ≠ b) (t : State) :
    (t.when (mask.testBit k) fun t => t.testQueue k 3).queueRead b = t.queueRead b := by
  cases mask.testBit k with
  | false => rfl
  | true => exact queueRead_testQueue hk h

theorem isQueued_testStart (hb : b < 32) (hm : mask.testBit b = true) (h : s.queues b) : IsQueued b 3 (s.testStart mask) := by
  rw [isQueued_iff]
  refine forN_at (fun t => t.queueRead b) (fun x => x.1 = true ∧ queuedWord b 3 x.2.1) 32 b _ s hb
    (fun k hk hne t => queueRead_testStart_ne hk hne t) fun t ht => ?_
  rw [hm, State.when_true]
  exact isQueued_iff.mp (isQueued_testQueue hb (by decide) ((queues_of_read ht).mpr h))

theorem queueRead_testStart (h : mask.testBit b = false ∨ ¬ s.queues b) : (s.testStart mask).queueRead b = s.queueRead b := by
  refine forN_induction (p := fun t => t.queueRead b = s.queueRead b) 32 _ (fun k hk t ht => ?_) rfl
  by_cases hkb : k = b
  · subst hkb
    rcases h with h | h
    · rw [h, State.when_false]
      exact ht
    · rw [State.when, testQueue_skips fun hq => h ((queues_of_read ht).mp hq), ite_self]
      exact ht
  · exact (queueRead_testStart_ne hk hkb t).trans ht

theorem testStart_running : (s.testStart mask).test.running = s.test.running := by
  refine forN_induction (p := fun t => t.test.running = s.test.running) 32 _ (fun k _ t ht => ?_) rfl
  cases mask.testBit k with
  | false => exact ht
  | true => exact testQueue_running.trans ht

theorem resW0_mem {b : Nat} (hb : b < 32) : A.TEST_RES_W0 b ∈ resRegs := List.mem_map.mpr ⟨b, List.mem_range.mpr hb, rfl⟩

theorem chg_testStart : Chg (Listed (A.TEST_QUEUED :: resRegs)) (Parts [.test]) NoMem s (s.fresh.testStart mask) :=
  Chg.refl.fresh.forN 32 _ fun k hk _ ht => ht.when _ _ fun _ =>
    ht.testQueue k 3 (.inl List.mem_cons_self) (.inl (List.mem_cons_of_mem _ (resW0_mem hk))) List.mem_cons_self

theorem answers_testStartCmd (mask : Word) (hd : Direct s m priv A.TEST_START) :
    Answers (.testStartCmd mask m priv) s fun t =>
      (∀ b < 32, mask.getLsbD b = true → blockPresent s.variant b = true → s.bitOf F.TEST_QUEUED_MASK b = false →
        s.test.running ≠ some b → IsQueued b 3 t) ∧
      (∀ b < 32, mask.getLsbD b = false ∨ blockPresent s.variant b = false ∨ s.bitOf F.TEST_QUEUED_MASK b = true ∨
          s.test.running = some b →
        t.bitOf F.TEST_QUEUED_MASK b = s.bitOf F.TEST_QUEUED_MASK b ∧ t.reg (A.TEST_RES_W0 b) = s.reg (A.TEST_RES_W0 b)) ∧
      t.test.running = s.test.running ∧ Framed (A.TEST_QUEUED :: resRegs) [.test] s t := by
  refine answers_effect _ rfl (testStart_effect mask hd) chg_testStart ⟨fun b hb hm hp hq hr => ?_, fun b hb h => ?_, ?_, chg_testStart.framed⟩
  · rw [isQueued_iff, queueRead_seal hb, ← isQueued_iff]
    exact isQueued_testStart hb hm ⟨hp, hq, hr⟩
  · have hsame := queueRead_testStart (s := s.fresh) (mask := mask.toNat) (b := b) (h.imp id fun h hk => by
      obtain ⟨h1, h2, h3⟩ := hk
      rcases h with h | h | h
      · exact absurd (h1.symm.trans h) (by decide)
      · exact absurd (h2.symm.trans h) (by decide)
      · exact h3 h)
    rw [← queueRead_seal (s := s) hb] at hsame
    exact ⟨congrArg Prod.fst hsame, congrArg (fun x => x.2.1) hsame⟩
  · rw [State.seal_test]
    exact testStart_running

end

/-! ### CLEAR (R530, R537) -/

section
variable {s : State} {m : Master} {priv : Bool} {b : Nat}

theorem forN_only {f : Nat → State → State} {n k : Nat} (hk : k < n) (h : ∀ i < n, i ≠ k → ∀ t, f i t = t) (s : State) :
    forN n f s = f k s :=
  forN_at (fun t => t) (fun x => x = f k s) n k f s hk h fun t ht => by rw [ht]

/-- A retirement is cleared and saved. -/
def State.unretired (s : State) (b : Nat) : State := (s.wr A.TEST_RETIRED (clearBits (s.rd A.TEST_RETIRED) (2 ^ b))).requestSave

theorem unretired_idle (h : s.on F.MGMT_CFG_STATUS_BUSY = false) :
    ∃ c, s.unretired b =
      ((s.wr A.TEST_RETIRED (clearBits (s.rd A.TEST_RETIRED) (2 ^ b))).updMgmt fun x => { x with saveSnap := some c }).set
        F.MGMT_CFG_STATUS_BUSY 1 := by
  refine ⟨_, requestSave_idle ?_⟩
  rw [State.on, State.fld_wr_ne _ _ (by decide)]
  exact h

theorem testClear_one (hb : b < 32) (hr : (s.rd A.TEST_RETIRED).testBit b = true) (hq : (s.unretired b).bitOf F.TEST_QUEUED_MASK b = false) :
    s.testClear (2 ^ b) = (s.unretired b).testQueue b 5 := by
  refine (forN_only hb (fun i _ hne t => ?_) s).trans ?_
  · rw [Nat.testBit_two_pow_of_ne hne.symm, Bool.false_and, State.when_false]
  · rw [Nat.testBit_two_pow_self, hr, Bool.and_true, State.when_true]
    exact if_neg (ne_true_of_eq_false hq)

theorem answers_testClear (hd : Direct s m priv A.TEST_CLEAR) (hb : b < 32) (hp : blockPresent s.variant b = true)
    (hr : (s.rd A.TEST_RETIRED).testBit b = true) (hq : s.bitOf F.TEST_QUEUED_MASK b = false) (hrun : s.test.running ≠ some b)
    (hbusy : s.on F.MGMT_CFG_STATUS_BUSY = false) :
    Answers (.testClear (BitVec.ofNat 32 (2 ^ b)) m priv) s fun t =>
      IsQueued b 5 t ∧ t.rd A.TEST_RETIRED = clearBits (s.rd A.TEST_RETIRED) (2 ^ b) ∧ t.on F.MGMT_CFG_STATUS_BUSY = true ∧
      t.mgmt.saveSnap.isSome = true ∧
      Framed [A.TEST_RETIRED, A.TEST_QUEUED, A.TEST_RES_W0 b, A.MGMT_CFG_STATUS] [.test, .mgmt] s t := by
  obtain ⟨c, hc⟩ := unretired_idle (s := s.fresh) (b := b) hbusy
  set v := s.fresh.unretired b with hv
  set u := v.testQueue b 5 with hu
  have hvq : v.bitOf F.TEST_QUEUED_MASK b = false := by
    rw [hc, State.bitOf, State.fld_set_ne _ _ (by decide), State.fld_updMgmt, State.fld_wr_ne _ _ (by decide)]
    exact hq
  have hvs : Chg (Listed [A.TEST_RETIRED, A.TEST_QUEUED, A.TEST_RES_W0 b, A.MGMT_CFG_STATUS]) (Parts [.mgmt]) NoMem s v := by
    rw [hc]
    exact ((Chg.refl.fresh.wr _ _ (.inl List.mem_cons_self)).updMgmt _ (by simp)).set _ _
      (.inl (List.mem_cons_of_mem _ (List.mem_cons_of_mem _ (List.mem_cons_of_mem _ List.mem_cons_self))))
  have hqueues : v.queues b :=
    ⟨by rw [hvs.variant, hp], hvq, by rw [show v.test = s.test from hvs.part .test (by simp)]; exact hrun⟩
  have hmask : (BitVec.ofNat 32 (2 ^ b)).toNat = 2 ^ b := by
    rw [BitVec.toNat_ofNat, Nat.mod_eq_of_lt (Nat.pow_lt_pow_right (by decide) hb)]
  have heff : s.fresh.word m priv A.TEST_CLEAR (BitVec.ofNat 32 (2 ^ b)).toNat = u := by
    rw [testClear_effect _ hd, hmask]
    exact testClear_one hb hr hvq
  have hchg : Chg (fun a => a = A.TEST_QUEUED ∨ a = A.TEST_RES_W0 b) (Parts [.test]) NoMem v u :=
    Chg.refl.testQueue b 5 (.inl rfl) (.inr rfl) List.mem_cons_self
  have hne (a : Nat) (h : a = A.TEST_RETIRED ∨ a = A.MGMT_CFG_STATUS) : ¬ (a = A.TEST_QUEUED ∨ a = A.TEST_RES_W0 b) := by
    simp only [A.TEST_RETIRED, A.MGMT_CFG_STATUS, A.TEST_QUEUED, A.TEST_RES_W0] at h ⊢
    omega
  have hframe : Chg (Listed [A.TEST_RETIRED, A.TEST_QUEUED, A.TEST_RES_W0 b, A.MGMT_CFG_STATUS]) (Parts [.test, .mgmt]) NoMem s u := by
    exact (hvs.mono (fun _ h => h) (fun _ => List.mem_cons_of_mem _) fun _ h => h).testQueue b 5 (.inl (List.mem_cons_of_mem _ List.mem_cons_self))
      (.inl (List.mem_cons_of_mem _ (List.mem_cons_of_mem _ List.mem_cons_self))) (by simp)
  refine answers_effect _ rfl heff hframe ⟨?_, ?_, ?_, ?_, hframe.framed⟩
  · rw [isQueued_iff, queueRead_seal hb, ← isQueued_iff]
    exact isQueued_testQueue hb (by decide) hqueues
  · rw [State.rd_seal _ _ (by decide), State.rd_eq_of_reg (hchg.reg _ (hne _ (.inl rfl))), hc, State.rd_set_ne _ (by decide), State.rd_updMgmt, State.rd_wr_same]
    exact Nat.mod_eq_of_lt (clearBits_lt _ _ (s.rd_lt _))
  · rw [State.on_seal _ _ (by decide), State.on, hchg.fld (hne _ (.inr rfl)), hc]
    exact State.on_event_same _ (by decide)
  · rw [State.seal_mgmt, show u.mgmt = v.mgmt from hchg.part .mgmt (by simp), hc, State.set_mgmt]
    rfl

end

section
variable {s : State} {m : Master} {priv : Bool} {b : Nat}

/-- A command whose effect leaves the state as it is leaves it untouched. -/
theorem untouched_effect {i : Instr} (f : State → State) (hx : exec i s = s.run f) (h : f s.fresh = s.fresh) : Untouched i s :=
  have hc : Chg (Listed []) (Parts []) NoMem s s.fresh := Chg.refl.fresh
  answers_effect f hx h hc hc.framed

theorem testClear_none {mask : Nat} (h : mask &&& s.rd A.TEST_RETIRED = 0) : s.testClear mask = s := by
  refine forN_induction (p := fun t => t = s) 32 _ (fun k _ t ht => ?_) rfl
  subst ht
  have hbit : (mask.testBit k && (t.rd A.TEST_RETIRED).testBit k) = false := by rw [← Nat.testBit_and, h, Nat.zero_testBit]
  rw [hbit, State.when_false]

theorem untouched_testClear (mask : Word) (hd : Direct s m priv A.TEST_CLEAR) (h : mask &&& s.reg A.TEST_RETIRED = 0) :
    Untouched (.testClear mask m priv) s := by
  refine untouched_effect _ rfl ((testClear_effect mask hd).trans (testClear_none ?_))
  exact (BitVec.toNat_and mask (s.reg A.TEST_RETIRED)).symm.trans (congrArg BitVec.toNat h)

/-! ### STOP (R537) -/

/-- The queued blocks' results read as if they had not been queued. -/
def State.unqueued (s : State) : State :=
  forN 32 (fun b s => s.when (s.bitOf F.TEST_QUEUED_MASK b) fun s => s.set (F.TEST_RES_W0_STATE b) 0) s

theorem testStop_eq (s : State) : s.testStop = (s.unqueued.wr A.TEST_QUEUED 0).testAbort 4 := rfl

theorem chg_unqueued : Chg (Listed resRegs) (Parts []) NoMem s s.fresh.unqueued :=
  Chg.refl.fresh.forN 32 _ fun _ hk _ ht => ht.when _ _ fun _ => ht.set _ _ (.inl (resW0_mem hk))

/-- What is read of a block when the queue empties: whether it waits, and its result's state. -/
def State.waitRead (s : State) (b : Nat) : Bool × Nat := (s.bitOf F.TEST_QUEUED_MASK b, s.fld (F.TEST_RES_W0_STATE b))

theorem bitOf_unqueue (t : State) (k : Nat) :
    (t.when (t.bitOf F.TEST_QUEUED_MASK k) fun s => s.set (F.TEST_RES_W0_STATE k) 0).bitOf F.TEST_QUEUED_MASK b = t.bitOf F.TEST_QUEUED_MASK b :=
  congrArg (Nat.testBit · b) (State.fld_when _ _ (State.fld_set_ne _ _ (resW0_ne_queued k).symm))

theorem unqueued_state (hb : b < 32) (h : s.bitOf F.TEST_QUEUED_MASK b = true) : s.unqueued.fld (F.TEST_RES_W0_STATE b) = 0 := by
  refine forN_at (fun t => t.waitRead b) (fun x => x.2 = 0) 32 b _ s hb (fun k _ hne t => ?_) fun t ht => ?_
  · exact Prod.ext (bitOf_unqueue t k) (State.fld_when _ _ (State.fld_set_ne _ _ (resW0_inj hne.symm)))
  · have hbit : t.bitOf F.TEST_QUEUED_MASK b = true := (congrArg Prod.fst ht).trans h
    rw [hbit, State.when_true]
    exact State.fld_set_same _ rfl 0

theorem startupEnd_waits (h : NotStarting s) : s.startupEnd = s := by
  refine if_neg fun hc => ?_
  simp only [Bool.and_eq_true, Bool.not_eq_true'] at hc
  obtain ⟨⟨⟨⟨h1, h2⟩, -⟩, -⟩, -⟩ := hc
  rcases h with h | h
  · exact absurd (h.symm.trans h1) (by decide)
  · exact absurd (h.symm.trans h2) (by decide)

theorem startupEnd_reinit (h : s.test.reinit = some b) : s.startupEnd = s := by
  refine if_neg fun hc => ?_
  rw [h] at hc
  simp at hc

theorem testAbort_none (why : Nat) (h : s.test.running = none) : s.testAbort why = s := by rw [State.testAbort, h]

theorem answers_testStop_idle (hd : Direct s m priv A.TEST_CTL) (hm : s.masterPriv m priv = true) (hrun : s.test.running = none)
    (hns : NotStarting s) :
    Answers (.testStop m priv) s fun t =>
      t.rd A.TEST_QUEUED = 0 ∧ (∀ b < 32, s.bitOf F.TEST_QUEUED_MASK b = true → t.fld (F.TEST_RES_W0_STATE b) = 0) ∧
      Framed (A.TEST_QUEUED :: resRegs) [] s t := by
  set v := s.fresh.unqueued with hv
  set u := v.wr A.TEST_QUEUED 0 with hu
  have htest : u.test = s.test := by
    rw [hu, State.wr_test]
    exact chg_unqueued.part .test (by simp)
  have heff : s.fresh.strike m priv A.TEST_CTL 1 = u := by
    rw [testStop_effect hd hm, testStop_eq, testAbort_none 4 (by rw [htest]; exact hrun)]
    exact startupEnd_waits (by rw [NotStarting, htest]; exact hns)
  have hframe : Chg (Listed (A.TEST_QUEUED :: resRegs)) (Parts []) NoMem s u :=
    (chg_unqueued.mono (listed_mono (List.subset_cons_self _ _)) (fun _ h => h) fun _ h => h).wr _ _ (.inl List.mem_cons_self)
  refine answers_effect _ rfl heff hframe ⟨?_, fun b hb hq => ?_, hframe.framed⟩
  · rw [State.rd_seal _ _ (by decide), hu]
    exact State.rd_wr_same _ _ _
  · rw [State.fld_seal_of (resW0_notMem b hb), hu, State.fld_wr_ne _ _ (resW0_ne_queued b)]
    exact unqueued_state hb hq

end

end Sys2Proof.Machine
end

section

/-! PROOFS. Self-test: what ends a test and what its result does (R520 to R530). -/

namespace Sys2Proof.Machine

/-! ### A result (R520, R521) -/

section
variable {s : State} {b res kind cf sig cyc why : Nat}

/-- The result words of a block as a test's end leaves them. -/
def State.resultWords (s : State) (b res kind cf sig cyc why : Nat) : State :=
  (((((s.set (F.TEST_RES_W0_STATE b) res).set (F.TEST_RES_W0_KIND b) kind).set (F.TEST_RES_W0_CORE_FAIL b) cf).set
    (F.TEST_RES_W0_ABORT_WHY b) why).wr (A.TEST_RES_W1 b) sig).wr (A.TEST_RES_W2 b) cyc

/-- The events of a result. -/
def State.resultEvents (s : State) (res : Nat) : State :=
  ((s.event F.TEST_EVT_DONE).when (res == 4) fun s => s.event F.TEST_EVT_FAIL).when (res == 5) fun s => s.event F.TEST_EVT_ABORTED

theorem testResult_eq (s : State) (b res kind cf sig cyc why : Nat) : ∃ v l,
    s.testResult b res kind cf sig cyc why =
      ((((s.resultWords b res kind cf sig cyc why).resultEvents res).log 18 1 v l).wr A.TEST_STATUS 0).updTest
        fun t => { t with running := none, reinit := some b } :=
  ⟨_, _, rfl⟩

/-- The registers that a block's result may change. -/
def resultRegs (b : Nat) : List Nat :=
  [A.TEST_RES_W0 b, A.TEST_RES_W1 b, A.TEST_RES_W2 b, A.TEST_EVT, A.TEST_STATUS, A.MGMT_EVT]

theorem Chg.testResult {R : Nat → Prop} {P : Part → Prop} {M : Nat → Prop} {t : State} (h : Chg R P M s t)
    (hr : ∀ a ∈ resultRegs b, R a) (ht : P .test) (hm : P .mgmt) : Chg R P M s (t.testResult b res kind cf sig cyc why) := by
  obtain ⟨v, l, heq⟩ := testResult_eq t b res kind cf sig cyc why
  simp only [resultRegs, List.forall_mem_cons] at hr
  obtain ⟨h0, h1, h2, he, hst, hev, -⟩ := hr
  have hw : Chg R P M s (t.resultWords b res kind cf sig cyc why) :=
    (((((h.set _ _ h0).set _ _ h0).set _ _ h0).set _ _ h0).wr _ _ h1).wr _ _ h2
  have hd : Chg R P M s ((t.resultWords b res kind cf sig cyc why).event F.TEST_EVT_DONE) := hw.event _ he
  have hf := hd.when (res == 4) (fun s => s.event F.TEST_EVT_FAIL) fun _ => hd.event _ he
  rw [heq]
  exact (((hf.when _ _ fun _ => hf.event _ he).log _ _ _ _ hev hm).wr _ _ hst).updTest _ ht

/-- What a step leaves is left where it may not be taken. -/
theorem State.read_when {α : Type} (r : State → α) {s : State} (b : Bool) (f : State → State) (h : r (f s) = r s) : r (s.when b f) = r s := by
  cases b with
  | false => rfl
  | true => exact h

theorem testResult_test : (s.testResult b res kind cf sig cyc why).test = { s.test with running := none, reinit := some b } := by
  obtain ⟨v, l, heq⟩ := testResult_eq s b res kind cf sig cyc why
  have hevents (t : State) : (t.resultEvents res).test = t.test := by
    rw [State.resultEvents, State.read_when (·.test) _ _ (State.event_test _ _), State.read_when (·.test) _ _ (State.event_test _ _)]
    exact State.event_test _ _
  have hwords : (s.resultWords b res kind cf sig cyc why).test = s.test := by
    simp only [State.resultWords, State.wr_test, State.set_test]
  have htest : ((((s.resultWords b res kind cf sig cyc why).resultEvents res).log 18 1 v l).wr A.TEST_STATUS 0).test = s.test := by
    rw [State.wr_test, State.log_test, hevents, hwords]
  rw [heq]
  exact congrArg (fun t : TestS => { t with running := none, reinit := some b }) htest

theorem testResult_status : (s.testResult b res kind cf sig cyc why).rd A.TEST_STATUS = 0 := by
  obtain ⟨v, l, heq⟩ := testResult_eq s b res kind cf sig cyc why
  rw [heq, State.rd_updTest, State.rd_wr_same]
  rfl

/-- A result's words are read past its events, its record and the end of the test. -/
theorem testResult_reg {a : Nat} (h : a ≠ A.TEST_STATUS ∧ a ≠ A.MGMT_EVT ∧ a ≠ A.TEST_EVT) :
    (s.testResult b res kind cf sig cyc why).reg a = (s.resultWords b res kind cf sig cyc why).reg a := by
  obtain ⟨v, l, heq⟩ := testResult_eq s b res kind cf sig cyc why
  obtain ⟨h1, h2, h3⟩ := h
  have hc : Chg (fun a => a = A.TEST_EVT) (Parts []) NoMem (s.resultWords b res kind cf sig cyc why)
      ((s.resultWords b res kind cf sig cyc why).resultEvents res) := by
    have hd : Chg (fun a => a = A.TEST_EVT) (Parts []) NoMem (s.resultWords b res kind cf sig cyc why)
      ((s.resultWords b res kind cf sig cyc why).event F.TEST_EVT_DONE) := Chg.refl.event _ rfl
    have hf := hd.when (res == 4) (fun s => s.event F.TEST_EVT_FAIL) fun _ => hd.event _ rfl
    exact hf.when _ _ fun _ => hf.event _ rfl
  rw [heq, State.reg_updTest, State.reg_wr_ne _ _ h1, State.reg_log_ne _ _ _ _ _ h2]
  exact hc.reg _ h3

theorem resW0_apart (b : Nat) : A.TEST_RES_W0 b ≠ A.TEST_STATUS ∧ A.TEST_RES_W0 b ≠ A.MGMT_EVT ∧ A.TEST_RES_W0 b ≠ A.TEST_EVT := by
  simp only [A.TEST_RES_W0, A.TEST_STATUS, A.MGMT_EVT, A.TEST_EVT]
  omega
theorem resW1_apart (b : Nat) : A.TEST_RES_W1 b ≠ A.TEST_STATUS ∧ A.TEST_RES_W1 b ≠ A.MGMT_EVT ∧ A.TEST_RES_W1 b ≠ A.TEST_EVT := by
  simp only [A.TEST_RES_W1, A.TEST_STATUS, A.MGMT_EVT, A.TEST_EVT]
  omega
theorem resW2_apart (b : Nat) : A.TEST_RES_W2 b ≠ A.TEST_STATUS ∧ A.TEST_RES_W2 b ≠ A.MGMT_EVT ∧ A.TEST_RES_W2 b ≠ A.TEST_EVT := by
  simp only [A.TEST_RES_W2, A.TEST_STATUS, A.MGMT_EVT, A.TEST_EVT]
  omega
theorem resW0_words (b : Nat) : A.TEST_RES_W0 b ≠ A.TEST_RES_W1 b ∧ A.TEST_RES_W0 b ≠ A.TEST_RES_W2 b ∧ A.TEST_RES_W1 b ≠ A.TEST_RES_W2 b := by
  simp only [A.TEST_RES_W0, A.TEST_RES_W1, A.TEST_RES_W2]
  omega

/-- The fields of the first result word are those that the four stores leave. -/
theorem testResult_fld {g : Fld} (h : g.adr = A.TEST_RES_W0 b) :
    (s.testResult b res kind cf sig cyc why).fld g =
      ((((s.set (F.TEST_RES_W0_STATE b) res).set (F.TEST_RES_W0_KIND b) kind).set (F.TEST_RES_W0_CORE_FAIL b) cf).set
        (F.TEST_RES_W0_ABORT_WHY b) why).fld g := by
  rw [State.fld_eq_of_reg (testResult_reg (by rw [h]; exact resW0_apart b)), State.resultWords,
    State.fld_wr_ne _ _ (by rw [h]; exact (resW0_words b).2.1), State.fld_wr_ne _ _ (by rw [h]; exact (resW0_words b).1)]

theorem testResult_state (h : res < 16) : (s.testResult b res kind cf sig cyc why).fld (F.TEST_RES_W0_STATE b) = res := by
  rw [testResult_fld rfl, State.fld_set_free _ (by simp [Fld.free, Fld.ok, Fld.apart]), State.fld_set_free _ (by simp [Fld.free, Fld.ok, Fld.apart]),
    State.fld_set_free _ (by simp [Fld.free, Fld.ok, Fld.apart]), State.fld_set_same _ rfl]
  exact Nat.mod_eq_of_lt h

theorem testResult_kind (h : kind < 16) : (s.testResult b res kind cf sig cyc why).fld (F.TEST_RES_W0_KIND b) = kind := by
  rw [testResult_fld rfl, State.fld_set_free _ (by simp [Fld.free, Fld.ok, Fld.apart]), State.fld_set_free _ (by simp [Fld.free, Fld.ok, Fld.apart]),
    State.fld_set_same _ rfl]
  exact Nat.mod_eq_of_lt h

theorem testResult_why (h : why < 16) : (s.testResult b res kind cf sig cyc why).fld (F.TEST_RES_W0_ABORT_WHY b) = why := by
  rw [testResult_fld rfl, State.fld_set_same _ rfl]
  exact Nat.mod_eq_of_lt h

theorem testResult_free {g : Fld} (ha : g.adr = A.TEST_RES_W0 b) (hs : Fld.free (F.TEST_RES_W0_STATE b) g = true)
    (hk : Fld.free (F.TEST_RES_W0_KIND b) g = true) (hc : Fld.free (F.TEST_RES_W0_CORE_FAIL b) g = true)
    (hw : Fld.free (F.TEST_RES_W0_ABORT_WHY b) g = true) : (s.testResult b res kind cf sig cyc why).fld g = s.fld g := by
  rw [testResult_fld ha, State.fld_set_free _ hw, State.fld_set_free _ hc, State.fld_set_free _ hk, State.fld_set_free _ hs]

theorem testResult_origin : (s.testResult b res kind cf sig cyc why).fld (F.TEST_RES_W0_ORIGIN b) = s.fld (F.TEST_RES_W0_ORIGIN b) :=
  testResult_free rfl (by simp [Fld.free, Fld.ok, Fld.apart]) (by simp [Fld.free, Fld.ok, Fld.apart]) (by simp [Fld.free, Fld.ok, Fld.apart])
    (by simp [Fld.free, Fld.ok, Fld.apart])

theorem testResult_consec : (s.testResult b res kind cf sig cyc why).fld (F.TEST_RES_W0_CONSEC b) = s.fld (F.TEST_RES_W0_CONSEC b) :=
  testResult_free rfl (by simp [Fld.free, Fld.ok, Fld.apart]) (by simp [Fld.free, Fld.ok, Fld.apart]) (by simp [Fld.free, Fld.ok, Fld.apart])
    (by simp [Fld.free, Fld.ok, Fld.apart])

theorem testResult_sig (h : sig < 2 ^ 32) : (s.testResult b res kind cf sig cyc why).rd (A.TEST_RES_W1 b) = sig := by
  rw [State.rd_eq_of_reg (testResult_reg (resW1_apart b)), State.resultWords, State.rd_wr_ne _ (resW0_words b).2.2, State.rd_wr_same]
  exact Nat.mod_eq_of_lt h

theorem testResult_cycles (h : cyc < 2 ^ 32) : (s.testResult b res kind cf sig cyc why).rd (A.TEST_RES_W2 b) = cyc := by
  rw [State.rd_eq_of_reg (testResult_reg (resW2_apart b)), State.resultWords, State.rd_wr_same]
  exact Nat.mod_eq_of_lt h

theorem testResult_events : (s.testResult b res kind cf sig cyc why).on F.TEST_EVT_DONE = true ∧
    (res = 4 → (s.testResult b res kind cf sig cyc why).on F.TEST_EVT_FAIL = true) ∧
    (res = 5 → (s.testResult b res kind cf sig cyc why).on F.TEST_EVT_ABORTED = true) := by
  obtain ⟨v, l, heq⟩ := testResult_eq s b res kind cf sig cyc why
  set w := s.resultWords b res kind cf sig cyc why
  have hpast (g : Fld) (hg : g.adr = A.TEST_EVT) : (s.testResult b res kind cf sig cyc why).on g = (w.resultEvents res).on g := by
    rw [State.on, heq, State.fld_updTest, State.fld_wr_ne _ _ (by rw [hg]; decide), State.fld_log_ne _ _ _ _ (by rw [hg]; decide), State.on]
  refine ⟨?_, fun h => ?_, fun h => ?_⟩
  · rw [hpast _ rfl, State.on, State.resultEvents, State.fld_when_event _ (by decide), State.fld_when_event _ (by decide)]
    exact State.on_event_same _ (by decide)
  · rw [hpast _ rfl, h, State.on, State.resultEvents, State.fld_when_event _ (by decide)]
    exact State.on_event_same _ (by decide)
  · rw [hpast _ rfl, h]
    exact State.on_event_same _ (by decide)

end

/-! ### STOP of a running test (R526, R537) -/

section
variable {s : State} {m : Master} {priv : Bool} {b : Nat}

/-- The free choices of an aborted test. -/
def State.abortChoices (s : State) : State := (((s.free 32).2.free 32).2.free 1).2

theorem testAbort_stop (h : s.test.running = some b) : ∃ kind sig cyc,
    s.testAbort 4 = (s.abortChoices.testResult b 5 kind 0 sig cyc 4).updTest fun t => { t with aborts := bumpAt t.aborts b } := by
  unfold State.testAbort
  rw [h]
  exact ⟨_, _, _, rfl⟩

theorem notMem_resultRegs {a : Nat} (h : a = A.TEST_QUEUED ∨ a = A.TEST_RETIRED ∨ a = A.MGMT_CFG_STATUS) : a ∉ resultRegs b := by
  simp only [resultRegs, List.mem_cons, List.not_mem_nil, or_false, A.TEST_QUEUED, A.TEST_RETIRED, A.MGMT_CFG_STATUS, A.TEST_RES_W0, A.TEST_RES_W1,
    A.TEST_RES_W2, A.TEST_EVT, A.TEST_STATUS, A.MGMT_EVT] at h ⊢
  omega

theorem answers_testStop_running (hd : Direct s m priv A.TEST_CTL) (hm : s.masterPriv m priv = true) (hb : b < 32)
    (hrun : s.test.running = some b) :
    Answers (.testStop m priv) s fun t =>
      t.rd A.TEST_QUEUED = 0 ∧ t.rd A.TEST_STATUS = 0 ∧ t.test.running = none ∧ t.test.reinit = some b ∧
      t.fld (F.TEST_RES_W0_STATE b) = 5 ∧ t.fld (F.TEST_RES_W0_ABORT_WHY b) = 4 ∧ t.on F.TEST_EVT_ABORTED = true ∧
      t.on F.TEST_EVT_DONE = true ∧ MemKept s t := by
  set v := s.fresh.unqueued.wr A.TEST_QUEUED 0 with hv
  have hvs : Chg AnyReg (Parts []) NoMem s v :=
    (chg_unqueued.mono (fun _ _ => trivial) (fun _ h => h) fun _ h => h).wr _ _ trivial
  have htest : v.test = s.test := hvs.part .test (by simp)
  obtain ⟨kind, sig, cyc, habort⟩ := testAbort_stop (s := v) (b := b) (by rw [htest]; exact hrun)
  set w := v.abortChoices with hw
  set x := w.testResult b 5 kind 0 sig cyc 4 with hx
  set u := x.updTest fun t => { t with aborts := bumpAt t.aborts b } with hu
  have hxt : x.test = { w.test with running := none, reinit := some b } := testResult_test
  have heff : s.fresh.strike m priv A.TEST_CTL 1 = u := by
    rw [testStop_effect hd hm, testStop_eq, habort]
    exact startupEnd_reinit (b := b) (congrArg TestS.reinit hxt)
  have hxw : Chg (fun a => a ∈ resultRegs b) AnyPart NoMem w x := Chg.refl.testResult (fun _ h => h) trivial trivial
  have hwv : Chg (fun _ => False) AnyPart NoMem v w := ((Chg.refl.free _ trivial).free _ trivial).free _ trivial
  have hframe : Chg AnyReg AnyPart NoMem s u := by
    refine Chg.updTest ?_ _ trivial
    exact ((hvs.mono (fun _ h => h) (fun _ _ => trivial) fun _ h => h).trans hwv.anywhere).trans hxw.anywhere
  refine answers_effect _ rfl heff hframe ⟨?_, ?_, ?_, ?_, ?_, ?_, ?_, ?_, hframe.memKept⟩
  · rw [State.rd_seal _ _ (by decide), hu, State.rd_updTest, State.rd_eq_of_reg (hxw.reg _ (notMem_resultRegs (.inl rfl))),
      State.rd_eq_of_reg (hwv.reg _ id), hv, State.rd_wr_same]
    rfl
  · rw [State.rd_seal _ _ (by decide), hu, State.rd_updTest]
    exact testResult_status
  · rw [State.seal_test]
    exact congrArg TestS.running hxt
  · rw [State.seal_test]
    exact congrArg TestS.reinit hxt
  · rw [State.fld_seal_of (resW0_notMem b hb), hu, State.fld_updTest]
    exact testResult_state (by decide)
  · rw [State.fld_seal_of (resW0_notMem b hb), hu, State.fld_updTest]
    exact testResult_why (by decide)
  · rw [State.on_seal _ _ (by decide), hu, State.on, State.fld_updTest]
    exact testResult_events.2.2 rfl
  · rw [State.on_seal _ _ (by decide), hu, State.on, State.fld_updTest]
    exact testResult_events.1

end

/-! ### The start of a test (R519, R522, R523) -/

section
variable {R : Nat → Prop} {P : Part → Prop} {M : Nat → Prop} {s t : State}

theorem Chg.clearRegs (h : Chg R P M s t) (lo hi : Nat) (hr : ∀ a, lo ≤ a → a < hi → R a) : Chg R P M s (t.clearRegs lo hi) := by
  refine h.of_same rfl (fun a ha => ?_) (fun p _ hs => Part.Same.of_regs hs) fun _ _ => rfl
  rw [State.reg_clearRegs, if_neg fun hb => ha (hr a hb.1 hb.2)]

theorem Chg.clearMem (h : Chg R P M s t) (lo hi : Nat) (hm : ∀ a, lo ≤ a → a < hi → M a) : Chg R P M s (t.clearMem lo hi) := by
  refine h.of_same rfl (fun _ _ => rfl) (fun p _ hs => ?_) fun a ha => ?_
  · cases p <;> exact hs
  · rw [State.byte_clearMem, if_neg fun hb => ha (hm a hb.1 hb.2)]

theorem Chg.updXpt (h : Chg R P M s t) (f : XptS → XptS) (hp : P .xpt) : Chg R P M s (t.updXpt f) := h.xpt _ hp
theorem Chg.coreUpd (h : Chg R P M s t) (c : Nat) (f : Core → Core) (hp : P .eng) : Chg R P M s (t.coreUpd c f) := h.updEng _ hp

/-- The registers before the self-test's. -/
abbrev BelowTest (a : Nat) : Prop := a < 0xF0000

/-- Every part but the self-test's. -/
abbrev NotTest (p : Part) : Prop := p ≠ .test

theorem satOf_fades_any {n : Nat} (hn : n < 16) :
    (satOf (A.TDM_FADES n)).adr = A.TDM_SAT n ∧ (satOf (A.TDM_FADES n)).event = some F.TDM_EVT_CNT_SAT := by
  interval_cases n <;> exact ⟨rfl, rfl⟩

theorem tdmRegs_below {n : Nat} (hn : n < 16) : BelowTest (A.TDM_STATUS n) ∧ BelowTest (A.TDM_FADES n) ∧ BelowTest (A.TDM_SAT n) := by
  simp only [BelowTest, A.TDM_STATUS, A.TDM_FADES, A.TDM_SAT]
  omega

theorem Chg.tdmCauseOn_below (h : Chg BelowTest NotTest M s t) {n : Nat} (hn : n < 16) (cause : Nat) :
    Chg BelowTest NotTest M s (t.tdmCauseOn n cause) := by
  obtain ⟨h1, h2⟩ := satOf_fades_any hn
  obtain ⟨b1, b2, b3⟩ := tdmRegs_below hn
  have hc : Chg BelowTest NotTest M s (t.tpUpd n fun p => { p with causes := p.causes ||| 2 ^ cause }) := h.tpUpd _ _ (by decide)
  refine Chg.senseDrop ?_ n (by decide) (by decide)
  unfold State.tdmFadeOnly
  dsimp only
  split
  · refine ((hc.tpUpd _ _ (by decide)).set _ _ b1).inc _ b2 (by rw [h1]; exact b3) fun f hf => ?_
    rw [h2, Option.mem_some_iff] at hf
    subst hf
    decide
  · exact hc.tpUpd _ _ (by decide)

theorem Chg.hmqFlush_below (h : Chg BelowTest NotTest M s t) {q : Nat} (hq : q < 4) : Chg BelowTest NotTest M s (t.hmqFlush q) := by
  have hcnt : hmqCounter q (A.HMQ_CNT_FLUSHED q) := .inr (.inr (.inr (.inr (.inl rfl))))
  refine Chg.bumpHmq ?_ hq hcnt ?_ ?_ ?_ _
  · exact h.putQ (by decide) _ _
  all_goals
    simp only [BelowTest, A.HMQ_CNT_FLUSHED, A.HMQ_CNT_SAT, A.HMQ_EVT]
    omega

theorem Chg.clkToFree_below (h : Chg BelowTest NotTest M s t) : Chg BelowTest NotTest M s t.clkToFree := by
  have hc : Chg BelowTest NotTest M s ((t.updClk fun c => { c with hoFreq := none, awaitPhi := false }).clearRegs (A.CLK_HIST 0) (A.CLK_HIST 1024)) :=
    (h.updClk _ (by decide)).clearRegs _ _ fun a _ ha => by
      simp only [BelowTest, A.CLK_HIST] at ha ⊢
      omega
  have hw := (((hc.set F.CLK_REF_STATUS_SEL 0 (by decide)).set F.CLK_REF_STATUS_BW 0 (by decide)).wr A.CLK_FCW 0 (by decide)).wr A.CLK_HO_STATUS 0
    (by decide)
  unfold State.clkToFree State.clkState
  dsimp only
  split
  · exact hw
  · exact (hw.set _ _ (by decide)).event _ (by decide)

theorem testedCores_lt {cl c : Nat} (h : c ∈ t.testedCores cl) : c < 4 * cl + 4 := by
  have hall : c ∈ (List.range 4).map fun k => 4 * cl + k := by
    unfold State.testedCores at h
    dsimp only at h
    split at h
    · exact List.mem_of_mem_filter h
    · exact List.mem_of_mem_filter h
  obtain ⟨k, hk, rfl⟩ := List.mem_map.mp hall
  have := List.mem_range.mp hk
  omega

/-- What the start of a test empties leaves the self-test's own registers and part. -/
theorem Chg.testEmpties (h : Chg BelowTest NotTest (fun _ => True) s t) {b : Nat} (hb : b < 32) :
    Chg BelowTest NotTest (fun _ => True) s (t.testEmpties b) := by
  unfold State.testEmpties
  split
  · exact h.updRing _ (by decide)
  split
  · exact h.clkToFree_below
  split
  · exact ((h.clearMem _ _ fun _ _ _ => trivial).updPlay _ (by decide)).updStrm _ (by decide)
  split
  · exact (h.clearMem _ _ fun _ _ _ => trivial).updEng _ (by decide)
  split
  · exact Chg.forN 4 _ (fun q hq v hv => hv.hmqFlush_below hq) h
  split
  · exact h.updXpt _ (by decide)
  split
  case isTrue hc =>
    refine Chg.forL _ _ (fun c hmem v hv => ?_) h
    refine ((hv.clearMem _ _ fun _ _ _ => trivial).coreUpd _ _ (by decide)).set _ _ ?_
    have := testedCores_lt hmem
    simp only [BelowTest, A.ENG_CORE_STATUS]
    omega
  split
  · have hn : b - 16 < 16 := by omega
    exact (h.tdmCauseOn_below hn _).when _ _ fun _ => (h.tdmCauseOn_below hn _).tpUpd _ _ (by decide)
  · exact h

end

section
variable {s : State} {b : Nat}

/-- The next test is under way: it has left the queue, and its block shows as the one under test. -/
def State.testBegun (s : State) (b : Nat) : State :=
  ((((s.setBit F.TEST_QUEUED_MASK b false).set (F.TEST_RES_W0_STATE b) 2).updTest fun t => { t with running := some b }).set
    F.TEST_STATUS_RUNNING 1).set F.TEST_STATUS_CUR b

theorem testRun_starts (h1 : s.test.running = none) (h2 : s.test.reinit = none) (h3 : s.class67 = false) (h4 : s.nextTest = some b) :
    s.testRun = (s.testBegun b).testEmpties b := by
  unfold State.testRun
  rw [if_neg (by rw [h1, h2, h3]; decide), h4]
  rfl

theorem nextTest_lt (h : s.nextTest = some b) : b < 32 := List.mem_range.mp (List.mem_of_find?_eq_some h)

theorem chg_testBegun : Chg (Listed [A.TEST_QUEUED, A.TEST_RES_W0 b, A.TEST_STATUS]) (Parts [.test]) NoMem s (s.fresh.testBegun b) := by
  have hq := Chg.refl.fresh.setBit (R := Listed [A.TEST_QUEUED, A.TEST_RES_W0 b, A.TEST_STATUS]) (P := Parts [.test]) (M := NoMem) (s := s)
    F.TEST_QUEUED_MASK b false (.inl List.mem_cons_self)
  have hst : Listed [A.TEST_QUEUED, A.TEST_RES_W0 b, A.TEST_STATUS] A.TEST_STATUS :=
    .inl (List.mem_cons_of_mem _ (List.mem_cons_of_mem _ List.mem_cons_self))
  exact (((hq.set _ _ (.inl (List.mem_cons_of_mem _ List.mem_cons_self))).updTest _ List.mem_cons_self).set _ _ hst).set _ _ hst

theorem testBegun_shows (hb : b < 32) : (s.testBegun b).test.running = some b ∧ (s.testBegun b).bitOf F.TEST_QUEUED_MASK b = false ∧
    (s.testBegun b).fld (F.TEST_RES_W0_STATE b) = 2 ∧ (s.testBegun b).on F.TEST_STATUS_RUNNING = true ∧
    (s.testBegun b).fld F.TEST_STATUS_CUR = b := by
  obtain ⟨hne, -, -⟩ := resW0_apart b
  refine ⟨?_, ?_, ?_, ?_, ?_⟩
  · rw [State.testBegun, State.set_test, State.set_test]
    rfl
  · rw [State.testBegun, State.bitOf, State.fld_set_ne _ _ (by decide), State.fld_set_ne _ _ (by decide), State.fld_updTest,
      State.fld_set_ne _ _ (resW0_ne_queued b).symm]
    exact (State.bitOf_setBit s rfl hb false b).trans (if_pos rfl)
  · rw [State.testBegun, State.fld_set_ne _ _ hne, State.fld_set_ne _ _ hne, State.fld_updTest]
    exact State.fld_set_same _ rfl 2
  · rw [State.testBegun, State.on, State.fld_set_free _ (by decide)]
    exact State.on_event_same _ (by decide)
  · rw [State.testBegun, State.fld_set_same _ (by decide)]
    exact Nat.mod_eq_of_lt hb

theorem byte_testEmpties_bus (v : State) (a : Nat) : (v.testEmpties 5).byte a = (v.clearMem busBase (busBase + 0x400000)).byte a := rfl

theorem answers_testRunStart (h1 : s.test.running = none) (h2 : s.test.reinit = none) (h3 : s.class67 = false) (h4 : s.nextTest = some b) :
    Answers .testRunStart s fun t =>
      t.test.running = some b ∧ t.bitOf F.TEST_QUEUED_MASK b = false ∧ t.fld (F.TEST_RES_W0_STATE b) = 2 ∧
      t.on F.TEST_STATUS_RUNNING = true ∧ t.fld F.TEST_STATUS_CUR = b ∧
      (b = 5 → ∀ a, busBase ≤ a → a < busBase + 0x400000 → t.byte a = 0) ∧
      (b = 10 → Framed [A.TEST_QUEUED, A.TEST_RES_W0 10, A.TEST_STATUS] [.test] s t) := by
  have hb := nextTest_lt h4
  set v := s.fresh.testBegun b with hv
  set u := v.testEmpties b with hu
  have heff : s.fresh.testRun = u := testRun_starts h1 h2 h3 h4
  have hvu : Chg BelowTest NotTest (fun _ => True) v u := Chg.refl.testEmpties hb
  have hframe : Chg AnyReg AnyPart (fun _ => True) s u :=
    (chg_testBegun.mono (fun _ _ => trivial) (fun _ _ => trivial) fun _ _ => trivial).trans
      (hvu.mono (fun _ _ => trivial) (fun _ _ => trivial) fun _ h => h)
  obtain ⟨r1, r2, r3, r4, r5⟩ := testBegun_shows (s := s.fresh) hb
  refine answers_effect _ rfl heff hframe ⟨?_, ?_, ?_, ?_, ?_, ?_, ?_⟩
  · rw [State.seal_test, show u.test = v.test from hvu.part .test (fun h => h rfl)]
    exact r1
  · rw [State.bitOf_seal _ _ (by decide), State.bitOf, hvu.fld (by decide)]
    exact r2
  · rw [State.fld_seal_of (resW0_notMem b hb), hvu.fld (by simp only [BelowTest, A.TEST_RES_W0]; omega)]
    exact r3
  · rw [State.on_seal _ _ (by decide), State.on, hvu.fld (by decide)]
    exact r4
  · rw [State.fld_seal _ _ (by decide), hvu.fld (by decide)]
    exact r5
  · intro h5 a hlo hhi
    subst h5
    rw [State.byte_seal, hu, byte_testEmpties_bus, State.byte_clearMem, if_pos ⟨hlo, hhi⟩]
  · intro h10
    subst h10
    exact chg_testBegun.framed

theorem testRun_waits (h : s.test.running.isSome = true ∨ s.test.reinit.isSome = true ∨ s.class67 = true ∨ s.nextTest = none) :
    s.testRun = s := by
  unfold State.testRun
  split
  · rfl
  case isFalse hc =>
    simp only [Bool.or_eq_true, not_or, Bool.not_eq_true] at hc
    obtain ⟨⟨h1, h2⟩, h3⟩ := hc
    split
    · rfl
    case h_2 b hb =>
      rcases h with h | h | h | h
      · exact absurd (h.symm.trans h1) (by decide)
      · exact absurd (h.symm.trans h2) (by decide)
      · exact absurd (h.symm.trans h3) (by decide)
      · exact absurd (h.symm.trans hb) (by simp)

theorem untouched_testRunStart (h : s.test.running.isSome = true ∨ s.test.reinit.isSome = true ∨ s.class67 = true ∨ s.nextTest = none) :
    Untouched .testRunStart s := untouched_effect _ rfl (testRun_waits (s := s.fresh) h)

/-! ### Soft retries, the wait after an abort, and the delay memory's fault (R526, R530) -/

theorem softRetry_due (h1 : s.test.retry.testBit b = true) (h2 : s.testAllowedIn b s.modState = true)
    (h3 : s.bitOf F.TEST_QUEUED_MASK b = false) :
    s.softRetry b = (s.updTest fun t => { t with retry := clearBits t.retry (2 ^ b) }).testQueue b 4 :=
  if_pos (by rw [h1, h2, h3]; rfl)

theorem softRetry_waits (h : s.test.retry.testBit b = false ∨ s.testAllowedIn b s.modState = false) : s.softRetry b = s :=
  if_neg (by rcases h with h | h <;> simp [h])

theorem testBit_clearBits_self (n k : Nat) : (clearBits n (2 ^ k)).testBit k = false := by
  rw [testBit_clearBits, Nat.testBit_two_pow_self, Bool.not_true, Bool.and_false]

theorem updTest_retry {t : State} {f : TestS → TestS} (h : ∀ x, (f x).retry = x.retry) : (t.updTest f).test.retry = t.test.retry := h _

theorem testQueue_retry {t : State} {o : Nat} : (t.testQueue b o).test.retry = t.test.retry := by
  by_cases hq : t.queues b
  · rw [testQueue_queues hq, updTest_retry, State.set_test, State.set_test, State.setBit_test]
    exact fun _ => rfl
  · rw [testQueue_skips hq]

theorem answers_softRetry (hb : b < 32) (hp : blockPresent s.variant b = true) (h1 : s.test.retry.testBit b = true)
    (h2 : s.testAllowedIn b s.modState = true) (h3 : s.bitOf F.TEST_QUEUED_MASK b = false) (h4 : s.test.running ≠ some b) :
    Answers (.softRetry b) s fun t =>
      IsQueued b 4 t ∧ t.test.retry.testBit b = false ∧ Framed [A.TEST_QUEUED, A.TEST_RES_W0 b] [.test] s t := by
  set v := s.fresh.updTest fun t => { t with retry := clearBits t.retry (2 ^ b) } with hv
  have hqueues : v.queues b := ⟨hp, h3, h4⟩
  have heff : s.fresh.softRetry b = v.testQueue b 4 := softRetry_due (s := s.fresh) h1 h2 h3
  have hframe : Chg (Listed [A.TEST_QUEUED, A.TEST_RES_W0 b]) (Parts [.test]) NoMem s (v.testQueue b 4) :=
    Chg.testQueue (Chg.refl.fresh.updTest _ List.mem_cons_self) b 4 (.inl List.mem_cons_self) (.inl (List.mem_cons_of_mem _ List.mem_cons_self))
      List.mem_cons_self
  refine answers_effect _ (State.runIf_true s hp _) heff hframe ⟨?_, ?_, hframe.framed⟩
  · rw [isQueued_iff, queueRead_seal hb, ← isQueued_iff]
    exact isQueued_testQueue hb (by decide) hqueues
  · rw [State.seal_test, testQueue_retry]
    exact testBit_clearBits_self _ b

theorem untouched_softRetry (hp : blockPresent s.variant b = true)
    (h : s.test.retry.testBit b = false ∨ s.testAllowedIn b s.modState = false) : Untouched (.softRetry b) s :=
  untouched_effect _ (State.runIf_true s hp _) (softRetry_waits (s := s.fresh) h)

theorem stops_softRetry (hp : blockPresent s.variant b = false) : Stops (.softRetry b) s := by
  show execSoftRetry b s = _
  rw [execSoftRetry, hp]
  rfl

theorem answers_testRequeueQuiet (h : s.class67 = false) :
    Answers .testRequeueQuiet s fun t => t.test = { s.test with wait67 := false } ∧ Framed [] [.test] s t := by
  set u := s.fresh.updTest fun t => { t with wait67 := false } with hu
  have heff : (s.fresh.when (!s.fresh.class67) fun s => s.updTest fun t => { t with wait67 := false }) = u := by
    rw [show s.fresh.class67 = false from h]
    rfl
  have hframe : Chg (Listed []) (Parts [.test]) NoMem s u := Chg.refl.fresh.updTest _ List.mem_cons_self
  exact answers_effect _ rfl heff hframe ⟨by rw [State.seal_test]; rfl, hframe.framed⟩

theorem untouched_testRequeueQuiet (h : s.class67 = true) : Untouched .testRequeueQuiet s :=
  untouched_effect _ rfl (by rw [show s.fresh.class67 = true from h]; rfl)

theorem answers_dlyFaultClear (h : ∀ u ∈ s.test.dlyErrs, u + 600 * secU ≤ s.time.up) :
    Answers .dlyFaultClear s fun t => t.test = { s.test with dlyFault := false } ∧ Framed [] [.test] s t := by
  set u := s.fresh.updTest fun t => { t with dlyFault := false } with hu
  have hall : (s.fresh.test.dlyErrs.all fun t => Nat.ble (t + 600 * secU) s.fresh.time.up) = true :=
    List.all_eq_true.mpr fun x hx => Nat.ble_eq.mpr (h x hx)
  have hframe : Chg (Listed []) (Parts [.test]) NoMem s u := Chg.refl.fresh.updTest _ List.mem_cons_self
  exact answers_effect _ rfl (if_pos hall) hframe ⟨by rw [State.seal_test]; rfl, hframe.framed⟩

theorem untouched_dlyFaultClear {u : Nat} (hu : u ∈ s.test.dlyErrs) (h : s.time.up < u + 600 * secU) : Untouched .dlyFaultClear s := by
  refine untouched_effect _ rfl (if_neg fun hall => ?_)
  exact absurd (Nat.ble_eq.mp (List.all_eq_true.mp hall u hu)) (Nat.not_le.mpr h)

end

end Sys2Proof.Machine
end

section

/-! PROOFS. Self-test: what a result does to its block (R528 to R530), and O60. -/

namespace Sys2Proof.Machine

section
variable {s : State} {cyc sig bad short b : Nat} {good memory : Bool}

/-- A block that is no cluster: its own count and signature decide. -/
theorem testEnd_plain (h : s.test.running = some b) (hb : b < 12) :
    s.testEnd cyc sig good memory bad short =
      (if (if cyc < s.expCycles b then 5 else if good then 3 else 4) = 3 then
        (s.testResult b 3 (blockKind b memory) 0 sig cyc 0).blockPass b true
      else if (if cyc < s.expCycles b then 5 else if good then 3 else 4) = 4 ∧ Nat.ble (blockKind b memory) 2 then
        ((s.testResult b 4 (blockKind b memory) 0 sig cyc 0).blockDown b).blockRetire b
      else (s.testResult b (if cyc < s.expCycles b then 5 else 4) (blockKind b memory) 0 sig cyc 0).softFault b) := by
  have hcl : (Nat.ble 12 b && Nat.ble b 15) = false := by
    simp [hb]
  unfold State.testEnd
  rw [h]
  dsimp only
  rw [hcl]
  by_cases hc : cyc < s.expCycles b
  · simp [hc, forL]
  · cases good <;> simp [hc, forL]

theorem testEnd_long_good (h : s.test.running = some b) (hb : b < 12) (hc : s.expCycles b ≤ cyc) :
    s.testEnd cyc sig true memory bad short = (s.testResult b 3 (blockKind b memory) 0 sig cyc 0).blockPass b true := by
  rw [testEnd_plain h hb]
  simp [Nat.not_lt.mpr hc]

theorem testEnd_long_hard (h : s.test.running = some b) (hb : b < 12) (hc : s.expCycles b ≤ cyc) (hk : (blockKind b memory).ble 2 = true) :
    s.testEnd cyc sig false memory bad short = ((s.testResult b 4 (blockKind b memory) 0 sig cyc 0).blockDown b).blockRetire b := by
  rw [testEnd_plain h hb]
  simp [Nat.not_lt.mpr hc, Nat.ble_eq.mp hk]

theorem testEnd_long_soft (h : s.test.running = some b) (hb : b < 12) (hc : s.expCycles b ≤ cyc) (hk : (blockKind b memory).ble 2 = false) :
    s.testEnd cyc sig false memory bad short = (s.testResult b 4 (blockKind b memory) 0 sig cyc 0).softFault b := by
  have hk' : ¬ blockKind b memory ≤ 2 := fun hle => absurd (hk.symm.trans (Nat.ble_eq.mpr hle)) (by decide)
  rw [testEnd_plain h hb]
  simp [Nat.not_lt.mpr hc, hk']

theorem testEnd_short (h : s.test.running = some b) (hb : b < 12) (hc : cyc < s.expCycles b) :
    s.testEnd cyc sig good memory bad short = (s.testResult b 5 (blockKind b memory) 0 sig cyc 0).softFault b := by
  rw [testEnd_plain h hb]
  simp [hc]

theorem requestSave_busy (t : State) : t.requestSave.on F.MGMT_CFG_STATUS_BUSY = true := by
  unfold State.requestSave
  split
  case isTrue h =>
    rw [State.on, State.fld_set_free _ (by decide)]
    exact h
  case isFalse => exact State.on_event_same _ (by decide)

/-! ### What follows a result -/

/-- The registers that a block's fate may change after its result. -/
def Aftermath (b a : Nat) : Prop := a = A.TEST_RES_W0 b ∨ a = A.TEST_RETIRED ∨ a = A.TEST_EVT ∨ a = A.MGMT_CFG_STATUS

theorem resW1_notAftermath (b : Nat) : ¬ Aftermath b (A.TEST_RES_W1 b) := by
  simp only [Aftermath, A.TEST_RES_W0, A.TEST_RES_W1, A.TEST_RETIRED, A.TEST_EVT, A.MGMT_CFG_STATUS]
  omega
theorem resW2_notAftermath (b : Nat) : ¬ Aftermath b (A.TEST_RES_W2 b) := by
  simp only [Aftermath, A.TEST_RES_W0, A.TEST_RES_W2, A.TEST_RETIRED, A.TEST_EVT, A.MGMT_CFG_STATUS]
  omega
theorem status_notAftermath (b : Nat) : ¬ Aftermath b A.TEST_STATUS := by
  simp only [Aftermath, A.TEST_RES_W0, A.TEST_STATUS, A.TEST_RETIRED, A.TEST_EVT, A.MGMT_CFG_STATUS]
  omega

/-- The block's fate leaves its result to be read. -/
structure Follows (b : Nat) (r u : State) : Prop where
  chg : Chg (Aftermath b) (Parts [.test, .mgmt]) NoMem r u
  running : u.test.running = r.test.running
  reinit : u.test.reinit = r.test.reinit
  state : u.fld (F.TEST_RES_W0_STATE b) = r.fld (F.TEST_RES_W0_STATE b)
  done : r.on F.TEST_EVT_DONE = true → u.on F.TEST_EVT_DONE = true

theorem Follows.refl (r : State) : Follows b r r := ⟨Chg.refl, rfl, rfl, rfl, id⟩

theorem Follows.trans {r u v : State} (h : Follows b r u) (h' : Follows b u v) : Follows b r v :=
  ⟨h.chg.trans h'.chg, h'.running.trans h.running, h'.reinit.trans h.reinit, h'.state.trans h.state, fun hd => h'.done (h.done hd)⟩

theorem Follows.updTest {r u : State} (h : Follows b r u) {f : TestS → TestS} (h1 : ∀ x, (f x).running = x.running)
    (h2 : ∀ x, (f x).reinit = x.reinit) : Follows b r (u.updTest f) :=
  ⟨h.chg.updTest _ (by simp), (h1 _).trans h.running, (h2 _).trans h.reinit, h.state, h.done⟩

theorem Follows.setConsec {r u : State} (h : Follows b r u) (n : Nat) : Follows b r (u.set (F.TEST_RES_W0_CONSEC b) n) := by
  refine ⟨h.chg.set _ _ (.inl rfl), ?_, ?_, ?_, fun hd => ?_⟩
  · rw [State.set_test, h.running]
  · rw [State.set_test, h.reinit]
  · rw [State.fld_set_free _ (by simp [Fld.free, Fld.ok, Fld.apart]), h.state]
  · rw [State.on, State.fld_set_ne _ _ (resW0_apart b).2.2.symm]
    exact h.done hd

theorem Follows.event {r u : State} (h : Follows b r u) {f : Fld} (hf : f.adr = A.TEST_EVT) (hfree : Fld.free f F.TEST_EVT_DONE = true) :
    Follows b r (u.event f) := by
  refine ⟨h.chg.event _ (.inr (.inr (.inl hf))), ?_, ?_, ?_, fun hd => ?_⟩
  · rw [State.event_test, h.running]
  · rw [State.event_test, h.reinit]
  · rw [State.fld_event_ne (by rw [hf]; exact (resW0_apart b).2.2), h.state]
  · rw [State.on, State.fld_event_free _ hfree]
    exact h.done hd

theorem resW0_ne_cfg (b : Nat) : A.TEST_RES_W0 b ≠ A.MGMT_CFG_STATUS ∧ A.TEST_RES_W0 b ≠ A.TEST_RETIRED := by
  simp only [A.TEST_RES_W0, A.MGMT_CFG_STATUS, A.TEST_RETIRED]
  omega

/-- A save is requested in MGMT.CFG_STATUS and the management part alone. -/
theorem requestSave_chg (u : State) : Chg (fun a => a = A.MGMT_CFG_STATUS) (Parts [.mgmt]) NoMem u u.requestSave :=
  (chg_requestSave (R := fun a => a = A.MGMT_CFG_STATUS) rfl List.mem_cons_self).mpr Chg.refl

theorem Follows.requestSave {r u : State} (h : Follows b r u) : Follows b r u.requestSave := by
  have hc := requestSave_chg u
  have ht : u.requestSave.test = u.test := hc.part .test (by simp)
  refine ⟨(chg_requestSave (.inr (.inr (.inr rfl))) (by simp)).mpr h.chg, by rw [ht, h.running], by rw [ht, h.reinit], ?_, fun hd => ?_⟩
  · rw [hc.fld (resW0_ne_cfg b).1, h.state]
  · rw [State.on, hc.fld (by decide)]
    exact h.done hd

theorem Follows.wrRetired {r u : State} (h : Follows b r u) (n : Nat) : Follows b r (u.wr A.TEST_RETIRED n) := by
  refine ⟨h.chg.wr _ _ (.inr (.inl rfl)), by rw [State.wr_test, h.running], by rw [State.wr_test, h.reinit], ?_, fun hd => ?_⟩
  · rw [State.fld_wr_ne _ _ (resW0_ne_cfg b).2, h.state]
  · rw [State.on, State.fld_wr_ne _ _ (by decide)]
    exact h.done hd

theorem Follows.blockRetire {r u : State} (h : Follows b r u) : Follows b r (u.blockRetire b) := by
  have hv : Follows b r ((u.wr A.TEST_RETIRED (u.rd A.TEST_RETIRED ||| 2 ^ b)).event F.TEST_EVT_RETIRED) := (h.wrRetired _).event rfl (by decide)
  have hw : Follows b r (((u.wr A.TEST_RETIRED (u.rd A.TEST_RETIRED ||| 2 ^ b)).event F.TEST_EVT_RETIRED).updTest
    fun t => { t with retry := clearBits t.retry (2 ^ b) }) := hv.updTest (fun _ => rfl) fun _ => rfl
  exact hw.requestSave

/-- What a test leaves shows once what follows from its result is done. -/
theorem Follows.ended {v u : State} {res kind : Nat} (hb : b < 32) (h : Follows b (v.testResult b res kind 0 sig cyc 0) u)
    (hres : res < 16) (hsig : sig < 2 ^ 32) (hcyc : cyc < 2 ^ 32) : TestEnded b res cyc sig (s.seal u) := by
  have htest : (v.testResult b res kind 0 sig cyc 0).test = _ := testResult_test
  refine ⟨?_, ?_, ?_, ?_, ?_, ?_, ?_⟩
  · rw [State.seal_test, h.running, htest]
  · rw [State.seal_test, h.reinit, htest]
  · rw [State.rd_seal _ _ (by decide), State.rd_eq_of_reg (h.chg.reg _ (status_notAftermath b)), testResult_status]
  · rw [State.fld_seal_of (resW0_notMem b hb), h.state, testResult_state hres]
  · rw [State.rd_seal _ _ (notMem_summaries (by simp only [A.TEST_RES_W1]; omega)), State.rd_eq_of_reg (h.chg.reg _ (resW1_notAftermath b)),
      testResult_sig hsig]
  · rw [State.rd_seal _ _ (notMem_summaries (by simp only [A.TEST_RES_W2]; omega)), State.rd_eq_of_reg (h.chg.reg _ (resW2_notAftermath b)),
      testResult_cycles hcyc]
  · rw [State.on_seal _ _ (by decide)]
    exact h.done testResult_events.1

end

/-! ### A block's fate -/

section
variable {r : State} {b : Nat}

theorem blockRetire_shows (hb : b < 32) : ((r.blockRetire b).rd A.TEST_RETIRED).testBit b = true ∧ (r.blockRetire b).on F.TEST_EVT_RETIRED = true ∧
    (r.blockRetire b).on F.MGMT_CFG_STATUS_BUSY = true ∧ (r.blockRetire b).test.unusable = r.test.unusable := by
  set v := (r.wr A.TEST_RETIRED (r.rd A.TEST_RETIRED ||| 2 ^ b)).event F.TEST_EVT_RETIRED with hv
  set w := v.updTest fun t => { t with retry := clearBits t.retry (2 ^ b) } with hw
  have hc : Chg (fun a => a = A.MGMT_CFG_STATUS) (Parts [.mgmt]) NoMem w (r.blockRetire b) := requestSave_chg w
  refine ⟨?_, ?_, requestSave_busy w, ?_⟩
  · rw [State.rd_eq_of_reg (hc.reg _ (by decide)), hw, State.rd_updTest, hv, State.rd_event_ne (by decide), State.rd_wr_same,
      Nat.testBit_mod_two_pow, Nat.testBit_or, Nat.testBit_two_pow_self, Bool.or_true, Bool.and_true]
    exact decide_eq_true hb
  · rw [State.on, hc.fld (by decide), hw, State.fld_updTest, hv]
    exact State.on_event_same _ (by decide)
  · rw [show (r.blockRetire b).test = w.test from hc.part .test (by simp)]
    have ht : v.test = r.test := by rw [hv, State.event_test, State.wr_test]
    rw [← ht]
    rfl

theorem blockRetire_fld {g : Fld} (h1 : g.adr ≠ A.TEST_RETIRED) (h2 : g.adr ≠ A.MGMT_CFG_STATUS) (hf : Fld.free F.TEST_EVT_RETIRED g = true) :
    (r.blockRetire b).fld g = r.fld g := by
  have hc : Chg (fun a => a = A.MGMT_CFG_STATUS) (Parts [.mgmt]) NoMem _ (r.blockRetire b) := requestSave_chg _
  rw [hc.fld h2, State.fld_updTest, State.fld_event_free _ hf, State.fld_wr_ne _ _ h1]

/-- A block that falls out of use without more to stop. -/
theorem blockDown_plain (hb : b = 8 ∨ b = 10) : r.blockDown b = r.updTest fun t => { t with unusable := t.unusable ||| 2 ^ b } := by
  rcases hb with rfl | rfl <;> rfl

/-- A block passes its test: it is usable, and its failing retries are forgotten. -/
def State.passed (r : State) (b : Nat) : State :=
  (r.updTest fun t => { t with
    unusable := clearBits t.unusable (2 ^ b), retry := clearBits t.retry (2 ^ b)
    lastPass := setAt t.lastPass b (t.passes + 1), passes := t.passes + 1
    dlyFault := t.dlyFault && b != 6, dlyErrs := if b = 6 then [] else t.dlyErrs }).set (F.TEST_RES_W0_CONSEC b) 0

theorem blockPass_eq (hb : (b == 6) = false) : r.blockPass b true =
    (r.passed b).when ((r.passed b).fld (F.TEST_RES_W0_ORIGIN b) == 5) fun s => (s.event F.TEST_EVT_RESTORED).requestSave := by
  unfold State.blockPass
  dsimp only
  rw [hb, State.when_false]
  rfl

theorem passed_origin : (r.passed b).fld (F.TEST_RES_W0_ORIGIN b) = r.fld (F.TEST_RES_W0_ORIGIN b) := by
  rw [State.passed, State.fld_set_free _ (by simp [Fld.free, Fld.ok, Fld.apart]), State.fld_updTest]

theorem blockPass_plain (hb : (b == 6) = false) (ho : r.fld (F.TEST_RES_W0_ORIGIN b) ≠ 5) : r.blockPass b true = r.passed b := by
  rw [blockPass_eq hb, passed_origin, beq_eq_false_iff_ne.mpr ho, State.when_false]

theorem blockPass_restored (hb : (b == 6) = false) (ho : r.fld (F.TEST_RES_W0_ORIGIN b) = 5) :
    r.blockPass b true = ((r.passed b).event F.TEST_EVT_RESTORED).requestSave := by
  rw [blockPass_eq hb, passed_origin, ho, beq_self_eq_true, State.when_true]

theorem follows_passed : Follows b r (r.passed b) :=
  ((Follows.refl r).updTest (f := fun t => { t with
    unusable := clearBits t.unusable (2 ^ b), retry := clearBits t.retry (2 ^ b)
    lastPass := setAt t.lastPass b (t.passes + 1), passes := t.passes + 1
    dlyFault := t.dlyFault && b != 6, dlyErrs := if b = 6 then [] else t.dlyErrs }) (fun _ => rfl) fun _ => rfl).setConsec 0

theorem testBit_or_self (n k : Nat) : (n ||| 2 ^ k).testBit k = true := by rw [Nat.testBit_or, Nat.testBit_two_pow_self, Bool.or_true]

theorem passed_test : (r.passed b).test.unusable.testBit b = false ∧ (r.passed b).test.retry.testBit b = false := by
  rw [State.passed, State.set_test]
  exact ⟨testBit_clearBits_self _ b, testBit_clearBits_self _ b⟩

end

section
variable {s : State} {cycles bad short : Nat} {sig : Word} {memory : Bool}

theorem testEnd_good (h : s.test.running = some 10) (hc : s.expCycles 10 ≤ cycles) :
    s.fresh.testEnd cycles sig.toNat true memory bad short = (s.fresh.testResult 10 3 5 0 sig.toNat cycles 0).blockPass 10 true := by
  exact testEnd_long_good (s := s.fresh) h (by decide) hc

theorem answers_testEnd_pass (h : s.test.running = some 10) (hc : s.expCycles 10 ≤ cycles) (hlt : cycles < 2 ^ 32)
    (ho : s.fld (F.TEST_RES_W0_ORIGIN 10) ≠ 5) :
    Answers (.testEnd cycles sig.toNat true memory bad short) s fun t =>
      TestEnded 10 3 cycles sig.toNat t ∧ t.fld (F.TEST_RES_W0_KIND 10) = 5 ∧ t.fld (F.TEST_RES_W0_CONSEC 10) = 0 ∧
      t.test.unusable.testBit 10 = false ∧ t.test.retry.testBit 10 = false ∧
      Framed [A.TEST_RES_W0 10, A.TEST_RES_W1 10, A.TEST_RES_W2 10, A.TEST_EVT, A.TEST_STATUS, A.MGMT_EVT] [.test, .mgmt] s t := by
  set r := s.fresh.testResult 10 3 5 0 sig.toNat cycles 0 with hr
  have heff : s.fresh.testEnd cycles sig.toNat true memory bad short = r.passed 10 := by
    rw [testEnd_good h hc]
    exact blockPass_plain rfl (by rw [testResult_origin]; exact ho)
  have hframe : Chg (Listed (resultRegs 10)) (Parts [.test, .mgmt]) NoMem s (r.passed 10) :=
    ((Chg.refl.fresh.testResult (fun _ ha => .inl ha) (by simp) (by simp)).updTest _ (by simp)).set _ _ (.inl List.mem_cons_self)
  refine answers_effect _ rfl heff hframe ⟨?_, ?_, ?_, ?_, ?_, hframe.framed⟩
  · exact Follows.ended (v := s.fresh) (kind := 5) (by decide) follows_passed (by decide) sig.isLt hlt
  · rw [State.fld_seal _ _ (by decide), State.passed, State.fld_set_free _ (by decide), State.fld_updTest]
    exact testResult_kind (by decide)
  · rw [State.fld_seal _ _ (by decide), State.passed]
    exact State.fld_set_same _ (by decide) 0
  · rw [State.seal_test]
    exact passed_test.1
  · rw [State.seal_test]
    exact passed_test.2

theorem answers_testEnd_restored (h : s.test.running = some 10) (hc : s.expCycles 10 ≤ cycles) (hlt : cycles < 2 ^ 32)
    (ho : s.fld (F.TEST_RES_W0_ORIGIN 10) = 5) :
    Answers (.testEnd cycles sig.toNat true memory bad short) s fun t =>
      TestEnded 10 3 cycles sig.toNat t ∧ t.on F.TEST_EVT_RESTORED = true ∧ t.on F.MGMT_CFG_STATUS_BUSY = true ∧
      t.test.unusable.testBit 10 = false := by
  set r := s.fresh.testResult 10 3 5 0 sig.toNat cycles 0 with hr
  set v := (r.passed 10).event F.TEST_EVT_RESTORED with hv
  have heff : s.fresh.testEnd cycles sig.toNat true memory bad short = v.requestSave := by
    rw [testEnd_good h hc]
    exact blockPass_restored rfl (by rw [testResult_origin]; exact ho)
  have hfollows : Follows 10 r v.requestSave := (follows_passed.event rfl (by decide)).requestSave
  have hframe : Chg AnyReg AnyPart NoMem s v.requestSave :=
    (Chg.refl.fresh.testResult (fun _ _ => trivial) trivial trivial).trans hfollows.chg.anywhere
  have hc' := requestSave_chg v
  refine answers_effect _ rfl heff hframe ⟨?_, ?_, ?_, ?_⟩
  · exact Follows.ended (v := s.fresh) (kind := 5) (by decide) hfollows (by decide) sig.isLt hlt
  · rw [State.on_seal _ _ (by decide), State.on, hc'.fld (by decide)]
    exact State.on_event_same _ (by decide)
  · rw [State.on_seal _ _ (by decide)]
    exact requestSave_busy v
  · rw [State.seal_test, show v.requestSave.test = v.test from hc'.part .test (by simp), hv, State.event_test]
    exact passed_test.1

theorem answers_testEnd_fails {memory : Bool} (h : s.test.running = some 8) (hc : s.expCycles 8 ≤ cycles) (hlt : cycles < 2 ^ 32) :
    Answers (.testEnd cycles sig.toNat false memory bad short) s fun t =>
      TestEnded 8 4 cycles sig.toNat t ∧ t.fld (F.TEST_RES_W0_KIND 8) = (if memory then 2 else 1) ∧ t.on F.TEST_EVT_FAIL = true ∧
      (t.rd A.TEST_RETIRED).testBit 8 = true ∧ t.on F.TEST_EVT_RETIRED = true ∧ t.test.unusable.testBit 8 = true ∧
      t.on F.MGMT_CFG_STATUS_BUSY = true ∧ MemKept s t := by
  set r := s.fresh.testResult 8 4 (blockKind 8 memory) 0 sig.toNat cycles 0 with hr
  set v := r.updTest fun t => { t with unusable := t.unusable ||| 2 ^ 8 } with hv
  have hkind : (blockKind 8 memory).ble 2 = true ∧ blockKind 8 memory < 16 ∧ blockKind 8 memory = if memory then 2 else 1 := by
    cases memory <;> decide
  obtain ⟨hk2, hk16, hkeq⟩ := hkind
  have heff : s.fresh.testEnd cycles sig.toNat false memory bad short = v.blockRetire 8 := by
    rw [testEnd_long_hard (s := s.fresh) h (by decide) hc hk2, blockDown_plain (.inl rfl)]
  have hfollows : Follows 8 r (v.blockRetire 8) :=
    Follows.blockRetire ((Follows.refl r).updTest (f := fun t => { t with unusable := t.unusable ||| 2 ^ 8 }) (fun _ => rfl) fun _ => rfl)
  have hframe : Chg AnyReg AnyPart NoMem s (v.blockRetire 8) :=
    (Chg.refl.fresh.testResult (fun _ _ => trivial) trivial trivial).trans hfollows.chg.anywhere
  obtain ⟨h1, h2, h3, h4⟩ := blockRetire_shows (r := v) (b := 8) (by decide)
  refine answers_effect _ rfl heff hframe ⟨?_, ?_, ?_, ?_, ?_, ?_, ?_, hframe.memKept⟩
  · exact Follows.ended (v := s.fresh) (by decide) hfollows (by decide) sig.isLt hlt
  · rw [State.fld_seal _ _ (by decide), blockRetire_fld (by decide) (by decide) (by decide), hv, State.fld_updTest, testResult_kind hk16, hkeq]
  · rw [State.on_seal _ _ (by decide), State.on, blockRetire_fld (by decide) (by decide) (by decide), hv, State.fld_updTest]
    exact testResult_events.2.1 rfl
  · rw [State.rd_seal _ _ (by decide)]
    exact h1
  · rw [State.on_seal _ _ (by decide)]
    exact h2
  · rw [State.seal_test, h4]
    exact testBit_or_self _ 8
  · rw [State.on_seal _ _ (by decide)]
    exact h3

end

/-! ### Soft faults (R529, R530) -/

section
variable {r : State} {b : Nat}

/-- The block is out of use. -/
def State.downed (r : State) (b : Nat) : State := r.updTest fun t => { t with unusable := t.unusable ||| 2 ^ b }

/-- The block waits for a retry. -/
def State.toRetry (r : State) (b : Nat) : State := r.updTest fun t => { t with retry := t.retry ||| 2 ^ b }

theorem fld_downed (g : Fld) : (r.downed b).fld g = r.fld g := rfl
theorem fld_toRetry (g : Fld) : (r.toRetry b).fld g = r.fld g := rfl
theorem toRetry_waits : (r.toRetry b).test.retry.testBit b = true := testBit_or_self _ b

theorem follows_downed : Follows b r (r.downed b) :=
  (Follows.refl r).updTest (f := fun t => { t with unusable := t.unusable ||| 2 ^ b }) (fun _ => rfl) fun _ => rfl

theorem Follows.toRetry {u : State} (h : Follows b r u) : Follows b r (u.toRetry b) :=
  h.updTest (f := fun t => { t with retry := t.retry ||| 2 ^ b }) (fun _ => rfl) fun _ => rfl

theorem softFault_retried (hb : b = 8 ∨ b = 10) (ho : r.fld (F.TEST_RES_W0_ORIGIN b) = 4) :
    r.softFault b = (if min 3 (r.fld (F.TEST_RES_W0_CONSEC b) + 1) = 3 then
      ((r.downed b).set (F.TEST_RES_W0_CONSEC b) (min 3 (r.fld (F.TEST_RES_W0_CONSEC b) + 1))).blockRetire b
    else ((r.downed b).set (F.TEST_RES_W0_CONSEC b) (min 3 (r.fld (F.TEST_RES_W0_CONSEC b) + 1))).toRetry b) := by
  unfold State.softFault
  dsimp only
  rw [blockDown_plain hb, ho]
  rfl

theorem softFault_first (hb : b = 8 ∨ b = 10) (ho : r.fld (F.TEST_RES_W0_ORIGIN b) ≠ 4) :
    r.softFault b = (if (r.fld (F.TEST_RES_W0_ORIGIN b) == 5 && r.fld (F.TEST_RES_W0_STATE b) == 4) = true then (r.downed b).blockRetire b
    else (r.downed b).toRetry b) := by
  unfold State.softFault
  dsimp only
  rw [blockDown_plain hb, beq_eq_false_iff_ne.mpr ho]
  rfl

/-- A field that no soft fault changes. -/
def FaultFree (b : Nat) (g : Fld) : Prop :=
  g.adr ≠ A.TEST_RETIRED ∧ g.adr ≠ A.MGMT_CFG_STATUS ∧ Fld.free F.TEST_EVT_RETIRED g = true ∧ Fld.free (F.TEST_RES_W0_CONSEC b) g = true

/-- What every soft fault leaves: the result, the block out of use, and the fields that it does not change. -/
structure Faulted (b : Nat) (r u : State) : Prop where
  follows : Follows b r u
  unusable : u.test.unusable.testBit b = true
  fld : ∀ g, FaultFree b g → u.fld g = r.fld g

theorem faulted_downed : Faulted b r (r.downed b) := ⟨follows_downed, testBit_or_self _ b, fun _ _ => rfl⟩

theorem Faulted.setConsec {u : State} (h : Faulted b r u) (n : Nat) : Faulted b r (u.set (F.TEST_RES_W0_CONSEC b) n) :=
  ⟨h.follows.setConsec n, by rw [State.set_test]; exact h.unusable, fun g hg => (State.fld_set_free _ hg.2.2.2 _).trans (h.fld g hg)⟩

theorem Faulted.toRetry {u : State} (h : Faulted b r u) : Faulted b r (u.toRetry b) := ⟨h.follows.toRetry, h.unusable, h.fld⟩

theorem Faulted.blockRetire {u : State} (h : Faulted b r u) (hb : b < 32) : Faulted b r (u.blockRetire b) := by
  refine ⟨h.follows.blockRetire, ?_, fun g hg => ?_⟩
  · rw [(blockRetire_shows hb).2.2.2]
    exact h.unusable
  · have hfree := hg
    obtain ⟨h1, h2, h3, -⟩ := hfree
    exact (blockRetire_fld h1 h2 h3).trans (h.fld g hg)

theorem faulted_softFault (hb : b = 8 ∨ b = 10) : Faulted b r (r.softFault b) := by
  have hlt : b < 32 := by omega
  by_cases ho : r.fld (F.TEST_RES_W0_ORIGIN b) = 4
  · rw [softFault_retried hb ho]
    split
    · exact (faulted_downed.setConsec _).blockRetire hlt
    · exact (faulted_downed.setConsec _).toRetry
  · rw [softFault_first hb ho]
    split
    · exact faulted_downed.blockRetire hlt
    · exact faulted_downed.toRetry

end

section
variable {s : State} {cycles bad short : Nat} {sig : Word} {good memory : Bool}

theorem testEnd_bad (h : s.test.running = some 10) (hc : s.expCycles 10 ≤ cycles) :
    s.fresh.testEnd cycles sig.toNat false memory bad short = (s.fresh.testResult 10 4 5 0 sig.toNat cycles 0).softFault 10 := by
  exact testEnd_long_soft (s := s.fresh) h (by decide) hc rfl

theorem answers_testEnd_softFault (h : s.test.running = some 10) (hc : s.expCycles 10 ≤ cycles) (hlt : cycles < 2 ^ 32)
    (ho : s.fld (F.TEST_RES_W0_ORIGIN 10) = 3) :
    Answers (.testEnd cycles sig.toNat false memory bad short) s fun t =>
      TestEnded 10 4 cycles sig.toNat t ∧ t.on F.TEST_EVT_FAIL = true ∧ t.test.unusable.testBit 10 = true ∧
      t.test.retry.testBit 10 = true ∧ t.reg A.TEST_RETIRED = s.reg A.TEST_RETIRED ∧
      t.fld (F.TEST_RES_W0_CONSEC 10) = s.fld (F.TEST_RES_W0_CONSEC 10) := by
  set r := s.fresh.testResult 10 4 5 0 sig.toNat cycles 0 with hr
  have horigin : r.fld (F.TEST_RES_W0_ORIGIN 10) = 3 := by rw [hr, testResult_origin]; exact ho
  set u := (r.downed 10).toRetry 10 with hu
  have heff : s.fresh.testEnd cycles sig.toNat false memory bad short = u := by
    rw [testEnd_bad h hc, softFault_first (.inr rfl) (by rw [horigin]; decide), horigin]
    rfl
  have hfault : Faulted 10 r u := faulted_downed.toRetry
  have hframe : Chg (Listed (resultRegs 10)) (Parts [.test, .mgmt]) NoMem s u :=
    ((Chg.refl.fresh.testResult (fun _ ha => .inl ha) (by simp) (by simp)).updTest _ (by simp)).updTest _ (by simp)
  refine answers_effect _ rfl heff hframe ⟨?_, ?_, ?_, ?_, ?_, ?_⟩
  · exact Follows.ended (v := s.fresh) (kind := 5) (by decide) hfault.follows (by decide) sig.isLt hlt
  · rw [State.on_seal _ _ (by decide), State.on, hfault.fld _ (by unfold FaultFree; decide)]
    exact testResult_events.2.1 rfl
  · rw [State.seal_test]
    exact hfault.unusable
  · rw [State.seal_test]
    exact toRetry_waits
  · rw [State.reg_seal _ _ (by decide)]
    exact hframe.reg _ (by unfold Listed; decide)
  · rw [State.fld_seal _ _ (by decide), hu, fld_toRetry, fld_downed]
    exact testResult_consec

theorem answers_testEnd_retry (h : s.test.running = some 10) (hc : s.expCycles 10 ≤ cycles) (hlt : cycles < 2 ^ 32)
    (ho : s.fld (F.TEST_RES_W0_ORIGIN 10) = 4) :
    Answers (.testEnd cycles sig.toNat false memory bad short) s fun t =>
      TestEnded 10 4 cycles sig.toNat t ∧ t.test.unusable.testBit 10 = true ∧
      t.fld (F.TEST_RES_W0_CONSEC 10) = min 3 (s.fld (F.TEST_RES_W0_CONSEC 10) + 1) ∧
      (2 ≤ s.fld (F.TEST_RES_W0_CONSEC 10) →
        (t.rd A.TEST_RETIRED).testBit 10 = true ∧ t.on F.TEST_EVT_RETIRED = true ∧ t.on F.MGMT_CFG_STATUS_BUSY = true) ∧
      (s.fld (F.TEST_RES_W0_CONSEC 10) < 2 → t.reg A.TEST_RETIRED = s.reg A.TEST_RETIRED ∧ t.test.retry.testBit 10 = true) := by
  set r := s.fresh.testResult 10 4 5 0 sig.toNat cycles 0 with hr
  set n := min 3 (s.fld (F.TEST_RES_W0_CONSEC 10) + 1) with hn
  set v := (r.downed 10).set (F.TEST_RES_W0_CONSEC 10) n with hv
  have hn4 : n < 4 := by omega
  have horigin : r.fld (F.TEST_RES_W0_ORIGIN 10) = 4 := by rw [hr, testResult_origin]; exact ho
  have hconsec : min 3 (r.fld (F.TEST_RES_W0_CONSEC 10) + 1) = n := by rw [hr, testResult_consec]; rfl
  have hval : v.fld (F.TEST_RES_W0_CONSEC 10) = n := by
    rw [hv, State.fld_set_same _ (by decide)]
    exact Nat.mod_eq_of_lt hn4
  have heff (u : State) (hu : (if n = 3 then v.blockRetire 10 else v.toRetry 10) = u) :
      s.fresh.testEnd cycles sig.toNat false memory bad short = u := by
    rw [testEnd_bad h hc, softFault_retried (.inr rfl) horigin, hconsec, ← hv, hu]
  have hrs : Chg (Listed (resultRegs 10)) (Parts [.test, .mgmt]) NoMem s v :=
    ((Chg.refl.fresh.testResult (fun _ ha => .inl ha) (by simp) (by simp)).updTest _ (by simp)).set _ _ (.inl List.mem_cons_self)
  have hfv : Faulted 10 r v := faulted_downed.setConsec n
  by_cases h3 : n = 3
  · have hfault : Faulted 10 r (v.blockRetire 10) := hfv.blockRetire (by decide)
    have hframe : Chg AnyReg AnyPart NoMem s (v.blockRetire 10) :=
      (Chg.refl.fresh.testResult (fun _ _ => trivial) trivial trivial).trans hfault.follows.chg.anywhere
    obtain ⟨h1, h2, h4, -⟩ := blockRetire_shows (r := v) (b := 10) (by decide)
    refine answers_effect _ rfl (heff _ (if_pos h3)) hframe ⟨?_, ?_, ?_, fun _ => ⟨?_, ?_, ?_⟩, fun hlow => by omega⟩
    · exact Follows.ended (v := s.fresh) (kind := 5) (by decide) hfault.follows (by decide) sig.isLt hlt
    · rw [State.seal_test]
      exact hfault.unusable
    · rw [State.fld_seal _ _ (by decide), blockRetire_fld (by decide) (by decide) (by decide), hval]
    · rw [State.rd_seal _ _ (by decide)]
      exact h1
    · rw [State.on_seal _ _ (by decide)]
      exact h2
    · rw [State.on_seal _ _ (by decide)]
      exact h4
  · have hfault : Faulted 10 r (v.toRetry 10) := hfv.toRetry
    have hframe : Chg (Listed (resultRegs 10)) (Parts [.test, .mgmt]) NoMem s (v.toRetry 10) := hrs.updTest _ (by simp)
    refine answers_effect _ rfl (heff _ (if_neg h3)) hframe ⟨?_, ?_, ?_, fun hhigh => by omega, fun _ => ⟨?_, ?_⟩⟩
    · exact Follows.ended (v := s.fresh) (kind := 5) (by decide) hfault.follows (by decide) sig.isLt hlt
    · rw [State.seal_test]
      exact hfault.unusable
    · rw [State.fld_seal _ _ (by decide), fld_toRetry, hval]
    · rw [State.reg_seal _ _ (by decide)]
      exact hframe.reg _ (by unfold Listed; decide)
    · rw [State.seal_test]
      exact toRetry_waits

theorem answers_testEnd_short (h : s.test.running = some 10) (hc : cycles < s.expCycles 10) :
    Answers (.testEnd cycles sig.toNat good memory bad short) s fun t =>
      TestEnded 10 5 cycles sig.toNat t ∧ t.on F.TEST_EVT_ABORTED = true ∧ t.fld (F.TEST_RES_W0_ABORT_WHY 10) = 0 ∧
      t.test.unusable.testBit 10 = true := by
  set r := s.fresh.testResult 10 5 5 0 sig.toNat cycles 0 with hr
  have heff : s.fresh.testEnd cycles sig.toNat good memory bad short = r.softFault 10 := testEnd_short (s := s.fresh) h (by decide) hc
  have hfault : Faulted 10 r (r.softFault 10) := faulted_softFault (.inr rfl)
  have hframe : Chg AnyReg AnyPart NoMem s (r.softFault 10) :=
    (Chg.refl.fresh.testResult (fun _ _ => trivial) trivial trivial).trans hfault.follows.chg.anywhere
  refine answers_effect _ rfl heff hframe ⟨?_, ?_, ?_, ?_⟩
  · exact Follows.ended (v := s.fresh) (kind := 5) (by decide) hfault.follows (by decide) sig.isLt (Nat.lt_trans hc (s.rd_lt _))
  · rw [State.on_seal _ _ (by decide), State.on, hfault.fld _ (by unfold FaultFree; decide)]
    exact testResult_events.2.2 rfl
  · rw [State.fld_seal _ _ (by decide), hfault.fld _ (by unfold FaultFree; decide)]
    exact testResult_why (by decide)
  · rw [State.seal_test]
    exact hfault.unusable

theorem untouched_testEnd {sig : Nat} (h : s.test.running = none) : Untouched (.testEnd cycles sig good memory bad short) s := by
  refine untouched_effect _ rfl ?_
  unfold State.testEnd
  rw [show s.fresh.test.running = none from h]

end

/-! ### Re-initialisation (R522) -/

section
variable {s : State} {dt : Nat}

theorem testReinit_none {t : State} (h : t.test.reinit = none) : t.testReinit = t := by rw [State.testReinit, h]

theorem answers_testReinitComplete_none (h : s.test.reinit = none) :
    Answers (.testReinitComplete dt) s fun t => Framed timeRegs [.time, .clk, .mgmt] s t := by
  have hframe : Chg (Listed timeRegs) (Parts [.time, .clk, .mgmt]) NoMem s (s.fresh.advance dt) :=
    Chg.refl.fresh.advance dt (fun _ h => .inl h) (by simp) (by simp) (by simp)
  refine answers_effect _ rfl (testReinit_none ?_) hframe hframe.framed
  rw [State.advance_test]
  exact h

theorem answers_testReinitComplete (h : s.test.reinit = some 10) (ho : s.bus.owed = []) (hns : NotStarting s) :
    Answers (.testReinitComplete dt) s fun t =>
      t.test = { s.test with reinit := none } ∧ Framed timeRegs [.time, .clk, .mgmt, .test] s t := by
  set v := s.fresh.advance dt with hv
  set u := v.updTest fun t => { t with reinit := none } with hu
  have hvt : v.test = s.test := State.advance_test _ _
  have hut : u.test = { s.test with reinit := none } := congrArg (fun t : TestS => { t with reinit := none }) hvt
  have heff : v.testReinit = u := by
    have howed : u.actOwed = u := State.actOwed_none u (by rw [hu]; exact (congrArg BusS.owed (State.advance_bus _ _)).trans ho)
    have hend : u.startupEnd = u := startupEnd_waits (by rw [NotStarting, hut]; exact hns)
    unfold State.testReinit
    rw [hvt, h]
    dsimp only
    rw [← hu, howed]
    exact hend
  have hframe : Chg (Listed timeRegs) (Parts [.time, .clk, .mgmt, .test]) NoMem s u :=
    (Chg.refl.fresh.advance dt (fun _ h => .inl h) (by simp) (by simp) (by simp)).updTest _ (by simp)
  exact answers_effect _ rfl heff hframe ⟨by rw [State.seal_test, hut], hframe.framed⟩

end

/-! ### The obligation -/

theorem testQueue_holds : TestQueue :=
  ⟨fun _ mask _ _ hd _ => answers_testStartCmd mask hd,
    fun _ _ _ _ hd _ hb hp hr hq hrun hbusy => answers_testClear hd hb hp hr hq hrun hbusy,
    fun _ mask _ _ hd h => untouched_testClear mask hd h,
    fun _ _ _ hd hm hrun hns => answers_testStop_idle hd hm hrun hns,
    fun _ _ _ _ hd hm hb hrun => answers_testStop_running hd hm hb hrun,
    fun _ _ h1 h2 h3 h4 => answers_testRunStart h1 h2 h3 h4,
    fun _ h => untouched_testRunStart h,
    fun _ _ hb hp h1 h2 h3 h4 => answers_softRetry hb hp h1 h2 h3 h4,
    fun _ _ hp h => untouched_softRetry hp h,
    fun _ _ hp => stops_softRetry hp,
    fun _ h => answers_testRequeueQuiet h,
    fun _ h => untouched_testRequeueQuiet h,
    fun _ h => answers_dlyFaultClear h,
    fun _ _ hu h => untouched_dlyFaultClear hu h⟩

theorem testResults_hold : TestResults :=
  ⟨fun _ _ _ _ _ _ _ h hc hlt hg ho => by subst hg; exact answers_testEnd_pass h hc hlt ho,
    fun _ _ _ _ _ _ _ h hc hlt hg ho _ => by subst hg; exact answers_testEnd_restored h hc hlt ho,
    fun _ _ _ _ _ _ h hc hlt => answers_testEnd_fails h hc hlt,
    fun _ _ _ _ _ _ h hc hlt ho => answers_testEnd_softFault h hc hlt ho,
    fun _ _ _ _ _ _ h hc hlt ho => answers_testEnd_retry h hc hlt ho,
    fun _ _ _ _ _ _ _ h hc => answers_testEnd_short h hc,
    fun _ _ _ _ _ _ _ h => untouched_testEnd h,
    fun _ _ h ho hns => answers_testReinitComplete h ho hns,
    fun _ _ h => answers_testReinitComplete_none h⟩

/-- Settles O60. -/
theorem selfTest : Obligations.SelfTest := ⟨testQueue_holds, testResults_hold⟩

end Sys2Proof.Machine
end

section

/-! PROOFS. The event log and the lifetime counters (R472 to R474, R477). -/

namespace Sys2Proof.Machine

/-! ### What records and counts leave of the management state -/

section
variable {s : State}

theorem life_mgmt (s : State) (k n : Nat) : ∃ l b, (s.life k n).mgmt = { s.mgmt with life := l, lifeSat := b } := by
  unfold State.life
  dsimp only
  split
  · exact ⟨_, _, rfl⟩
  · rw [State.event_mgmt]
    exact ⟨_, _, rfl⟩

theorem log_room (r c v : Nat) (p : List Nat) (h : s.mgmt.staging.length < 256) :
    s.log r c v p = { s with mgmt := { s.mgmt with
      staging := s.mgmt.staging ++ [s.mkRecord r c v 0xF 0 p], logSeq := (s.mgmt.logSeq + 1) % 2 ^ 32 } } := if_pos h

theorem mkRecord_congr {t : State} (r c v m l : Nat) (p : List Nat) (h1 : t.mgmt.logSeq = s.mgmt.logSeq)
    (h2 : t.mgmt.timeQuality = s.mgmt.timeQuality) (h3 : t.time = s.time) (h4 : t.modState = s.modState)
    (h5 : t.fld F.CLK_REF_STATUS_STATE = s.fld F.CLK_REF_STATUS_STATE) : t.mkRecord r c v m l p = s.mkRecord r c v m l p := by
  simp only [State.mkRecord, State.tbSec, State.tbNs, h1, h2, h3, h4, h5]

end

/-! ### The oldest staged record is written (R472) -/

section
variable {s : State} {r : List Word} {rest : List (List Word)}

/-- The oldest record has left the staging and is the log's newest. -/
def State.logTaken (s : State) (r : List Word) (rest : List (List Word)) : State :=
  (s.updMgmt fun m => { m with staging := rest }).logCommit r

/-- Records lost since the last loss record are logged. -/
def State.logLosses (v : State) : State :=
  v.when (Nat.blt 0 v.mgmt.logLost) fun s => (s.updMgmt fun m => { m with logLost := 0 }).log 17 0x60 2 [v.mgmt.logLost]

/-- The record's severity asks for a message. -/
def State.logPushes (w : State) (r : List Word) : Bool :=
  Nat.ble (w.fld F.MGMT_LOG_CTL_PUSH_MIN) (recSev r) && Nat.blt (w.fld F.MGMT_LOG_CTL_PUSH_MIN) 5

/-- The message of a record. -/
def State.logMsg (w : State) (r : List Word) : Msg :=
  { queue := w.fld F.MGMT_LOG_CTL_PUSH_Q, prio := getAt [0, 2, 4, 6, 7] (recSev r) 7, src := 4, core := 0, desc := 0, ef := 0, body := r }

/-- The sessions that subscribe to the record take it. -/
def State.logGathered (w : State) (r : List Word) : State :=
  { w with scp := { w.scp with sessions := w.scp.sessions.map fun x => x.gather r } }

theorem logWrite_eq (h : s.mgmt.staging = r :: rest) :
    s.logWrite = ((s.logTaken r rest).logLosses.when ((s.logTaken r rest).logLosses.logPushes r) fun w =>
      w.push ((s.logTaken r rest).logLosses.logMsg r)).logGathered r := by
  unfold State.logWrite
  rw [h]
  rfl

theorem logTaken_mgmt (s : State) (r : List Word) (rest : List (List Word)) : ∃ l b, (s.logTaken r rest).mgmt =
    { s.mgmt with staging := rest, log := (r :: s.mgmt.log).take 65536, life := l, lifeSat := b } := by
  obtain ⟨l, b, h⟩ := life_mgmt ({ s.updMgmt fun m => { m with staging := rest } with
    mgmt := { (s.updMgmt fun m => { m with staging := rest }).mgmt with log := logKeep (r :: s.mgmt.log) } }.wr A.MGMT_LOG_NEWEST (getAt r 0 0).toNat) 22 1
  exact ⟨l, b, h⟩

theorem chg_logTaken : Chg (fun a => a = A.MGMT_LOG_NEWEST ∨ a = A.MGMT_EVT) (Parts [.mgmt]) NoMem s (s.logTaken r rest) :=
  (((Chg.refl.updMgmt _ List.mem_cons_self).mgmt _ List.mem_cons_self).wr _ _ (.inl rfl)).life _ _ (.inr rfl) List.mem_cons_self

theorem logTaken_newest : (s.logTaken r rest).reg A.MGMT_LOG_NEWEST = getAt r 0 0 := by
  unfold State.logTaken State.logCommit
  dsimp only
  rw [State.reg_life_ne _ _ _ (by decide)]
  exact (State.reg_wr_same _ _ _).trans (BitVec.ofNat_toNat ..)

theorem logLosses_none (h : s.mgmt.logLost = 0) : s.logLosses = s := by
  unfold State.logLosses
  rw [h]
  rfl

theorem logWrite_quiet (h : s.mgmt.staging = r :: rest) (hl : s.mgmt.logLost = 0) (hp : (s.logTaken r rest).logPushes r = false) :
    s.logWrite = (s.logTaken r rest).logGathered r := by
  obtain ⟨l, b, hm⟩ := logTaken_mgmt s r rest
  rw [logWrite_eq h, logLosses_none (by rw [hm]; exact hl), hp, State.when_false]

theorem pushMin_logTaken (g : Fld) (h : g.adr = A.MGMT_LOG_CTL) : (s.logTaken r rest).fld g = s.fld g :=
  chg_logTaken.fld (by rw [h]; decide)

theorem chg_logTaken_fresh (parts : List Part) (h : [.mgmt] ⊆ parts) :
    Chg (Listed [A.MGMT_LOG_NEWEST, A.MGMT_EVT]) (Parts parts) NoMem s (s.fresh.logTaken r rest) := by
  have hc : Chg (fun a => a = A.MGMT_LOG_NEWEST ∨ a = A.MGMT_EVT) (Parts [.mgmt]) NoMem s.fresh (s.fresh.logTaken r rest) := chg_logTaken
  refine Chg.refl.fresh.trans (hc.mono (fun a ha => .inl ?_) (fun _ hp => h hp) fun _ h => h)
  rcases ha with rfl | rfl <;> simp

/-- A record whose severity asks for no message is written. -/
theorem answers_logRecordWrite (hpw : s.pwr.powered = true) (h : s.mgmt.staging = r :: rest) (hl : s.mgmt.logLost = 0)
    (hp : recSev r < s.fld F.MGMT_LOG_CTL_PUSH_MIN ∨ 5 ≤ s.fld F.MGMT_LOG_CTL_PUSH_MIN) :
    Answers .logRecordWrite s fun t =>
      t.mgmt.staging = rest ∧ t.mgmt.log = (r :: s.mgmt.log).take 65536 ∧ t.reg A.MGMT_LOG_NEWEST = getAt r 0 0 ∧
      Framed [A.MGMT_LOG_NEWEST, A.MGMT_EVT] [.mgmt, .scp] s t := by
  have hpush : (s.fresh.logTaken r rest).logPushes r = false := by
    rw [State.logPushes, pushMin_logTaken _ rfl, Bool.and_eq_false_iff]
    rcases hp with hp | hp
    · exact .inl (Bool.eq_false_iff.mpr fun hb => Nat.not_le.mpr hp (Nat.ble_eq.mp hb))
    · exact .inr (Bool.eq_false_iff.mpr fun hb => Nat.not_lt.mpr hp (Nat.blt_eq.mp hb))
  obtain ⟨l, b, hm⟩ := logTaken_mgmt s.fresh r rest
  set u := (s.fresh.logTaken r rest).logGathered r with hu
  have heff : s.fresh.when s.fresh.pwr.powered State.logWrite = u := by
    rw [show s.fresh.pwr.powered = true from hpw, State.when_true]
    exact logWrite_quiet (s := s.fresh) h hl hpush
  have hframe : Chg (Listed [A.MGMT_LOG_NEWEST, A.MGMT_EVT]) (Parts [.mgmt, .scp]) NoMem s u := (chg_logTaken_fresh _ (by simp)).scp _ (by simp)
  have hum : u.mgmt = (s.fresh.logTaken r rest).mgmt := rfl
  refine answers_effect _ rfl heff hframe ⟨?_, ?_, ?_, hframe.framed⟩
  · rw [State.seal_mgmt, hum, hm]
  · rw [State.seal_mgmt, hum, hm]
    rfl
  · rw [State.reg_seal _ _ (by decide)]
    exact logTaken_newest (s := s.fresh)

/-- A record whose severity asks for it goes to the host as a message too (R474). -/
theorem answers_logRecordWrite_push (hpw : s.pwr.powered = true) (h : s.mgmt.staging = r :: rest) (hl : s.mgmt.logLost = 0)
    (hp : s.fld F.MGMT_LOG_CTL_PUSH_MIN ≤ recSev r) (h5 : s.fld F.MGMT_LOG_CTL_PUSH_MIN < 5) (hshape : Shaped s) :
    Answers .logRecordWrite s fun t =>
      t.mgmt.staging = rest ∧ t.mgmt.log = (r :: s.mgmt.log).take 65536 ∧
      (t.q (s.fld F.MGMT_LOG_CTL_PUSH_Q)).waiting = (s.q (s.fld F.MGMT_LOG_CTL_PUSH_Q)).waiting ++
        [⟨s.fld F.MGMT_LOG_CTL_PUSH_Q, getAt [0, 2, 4, 6, 7] (recSev r) 7, 4, 0, 0, 0, r⟩] ∧
      QueueOnly (s.fld F.MGMT_LOG_CTL_PUSH_Q) s t ∧ Framed [A.MGMT_LOG_NEWEST, A.MGMT_EVT] [.mgmt, .scp, .hmq] s t := by
  obtain ⟨l, b, hm⟩ := logTaken_mgmt s.fresh r rest
  set q := s.fld F.MGMT_LOG_CTL_PUSH_Q with hq
  set v := s.fresh.logTaken r rest with hv
  have hmsg : v.logMsg r = ⟨q, getAt [0, 2, 4, 6, 7] (recSev r) 7, 4, 0, 0, 0, r⟩ := by
    rw [State.logMsg, hv, pushMin_logTaken _ rfl]
    rfl
  have hpush : v.logPushes r = true := by
    rw [State.logPushes, hv, pushMin_logTaken _ rfl, Bool.and_eq_true]
    exact ⟨Nat.ble_eq.mpr hp, Nat.blt_eq.mpr h5⟩
  have hvq : v.hmq = s.hmq := (chg_logTaken (s := s.fresh) (r := r) (rest := rest)).part .hmq (by simp)
  set m : Msg := ⟨q, getAt [0, 2, 4, 6, 7] (recSev r) 7, 4, 0, 0, 0, r⟩ with hmdef
  set x : Hmq := { v.q q with waiting := (v.q q).waiting ++ [m] } with hx
  set u := (v.putQ q x).logGathered r with hu
  have heff : s.fresh.when s.fresh.pwr.powered State.logWrite = u := by
    rw [show s.fresh.pwr.powered = true from hpw, State.when_true, logWrite_eq (s := s.fresh) h, ← hv,
      logLosses_none (by rw [hm]; exact hl), hpush, State.when_true, hmsg]
    rfl
  have hframe : Chg (Listed [A.MGMT_LOG_NEWEST, A.MGMT_EVT]) (Parts [.mgmt, .scp, .hmq]) NoMem s u :=
    ((chg_logTaken_fresh _ (by simp)).putQ (by simp) _ _).scp _ (by simp)
  have hlen : q < v.hmq.length := by
    rw [hvq, show s.hmq.length = 4 from hmq_length hshape]
    exact s.fld_lt F.MGMT_LOG_CTL_PUSH_Q
  have hqv (k : Nat) : v.q k = s.q k := congrArg (fun l => getAt l k _) hvq
  have huq : QueueIs q x v (s.seal u) := (queueIs_putQ v hlen x).of_hmq (State.seal_hmq s u)
  have hum : u.mgmt = v.mgmt := rfl
  refine answers_effect _ rfl heff hframe ⟨?_, ?_, ?_, fun k hk => ?_, hframe.framed⟩
  · rw [State.seal_mgmt, hum, hm]
  · rw [State.seal_mgmt, hum, hm]
    rfl
  · rw [huq.same, hx, hqv]
  · rw [huq.other k hk, hqv]

/-- Lost records are logged as soon as there is room. -/
theorem answers_logRecordWrite_lost (hpw : s.pwr.powered = true) (h : s.mgmt.staging = r :: rest) (hl : 0 < s.mgmt.logLost)
    (hroom : s.mgmt.staging.length ≤ 256) :
    Answers .logRecordWrite s fun t =>
      t.mgmt.logLost = 0 ∧ t.mgmt.staging = rest ++ [s.mkRecord 17 0x60 2 0xF 0 [s.mgmt.logLost]] ∧
      t.mgmt.logSeq = (s.mgmt.logSeq + 1) % 2 ^ 32 ∧ MemKept s t := by
  obtain ⟨l, b, hm⟩ := logTaken_mgmt s.fresh r rest
  have hc : Chg (fun a => a = A.MGMT_LOG_NEWEST ∨ a = A.MGMT_EVT) (Parts [.mgmt]) NoMem s.fresh (s.fresh.logTaken r rest) := chg_logTaken
  set v := s.fresh.logTaken r rest with hv
  set w := v.updMgmt fun m => { m with logLost := 0 } with hw
  have hwm : w.mgmt = { s.mgmt with staging := rest, log := (r :: s.mgmt.log).take 65536, life := l, lifeSat := b, logLost := 0 } :=
    congrArg (fun m : Mgmt => { m with logLost := 0 }) hm
  have hlen : w.mgmt.staging.length < 256 := by
    rw [hwm]
    rw [h, List.length_cons] at hroom
    exact hroom
  have hlost : v.mgmt.logLost = s.mgmt.logLost := by rw [hm]; rfl
  set x := w.log 17 0x60 2 [s.mgmt.logLost] with hx
  have hlosses : v.logLosses = x := by
    rw [State.logLosses, hlost, Nat.blt_eq.mpr hl]
    rfl
  have hrec : w.mkRecord 17 0x60 2 0xF 0 [s.mgmt.logLost] = s.mkRecord 17 0x60 2 0xF 0 [s.mgmt.logLost] :=
    mkRecord_congr _ _ _ _ _ _ (by rw [hwm]) (by rw [hwm]) (hc.part .time (by simp)) (hc.fld (by decide)) (hc.fld (by decide))
  have hxm : x.mgmt = { w.mgmt with
      staging := rest ++ [s.mkRecord 17 0x60 2 0xF 0 [s.mgmt.logLost]], logSeq := (s.mgmt.logSeq + 1) % 2 ^ 32 } := by
    rw [hx, log_room _ _ _ _ hlen, hrec, hwm]
  set y := x.when (x.logPushes r) fun w => w.push (x.logMsg r) with hy
  have hym : y.mgmt = x.mgmt := State.read_when (·.mgmt) _ _ rfl
  set u := y.logGathered r with hu
  have heff : s.fresh.when s.fresh.pwr.powered State.logWrite = u := by
    rw [show s.fresh.pwr.powered = true from hpw, State.when_true, logWrite_eq (s := s.fresh) h, ← hv, hlosses]
  have hxs : Chg AnyReg AnyPart NoMem s x :=
    ((Chg.refl.fresh.trans hc.anywhere).updMgmt _ trivial).log _ _ _ _ trivial trivial
  have hframe : Chg AnyReg AnyPart NoMem s u := (hxs.when _ _ fun _ => hxs.hmq _ trivial).scp _ trivial
  have hum : u.mgmt = x.mgmt := hym
  refine answers_effect _ rfl heff hframe ⟨?_, ?_, ?_, hframe.memKept⟩
  · rw [State.seal_mgmt, hum, hxm, hwm]
  · rw [State.seal_mgmt, hum, hxm]
  · rw [State.seal_mgmt, hum, hxm]

theorem untouched_logRecordWrite (h : s.pwr.powered = false ∨ s.mgmt.staging = []) : Untouched .logRecordWrite s := by
  refine untouched_effect _ rfl ?_
  rcases h with h | h
  · rw [show s.fresh.pwr.powered = false from h, State.when_false]
  · refine State.read_when id _ _ ?_
    unfold State.logWrite
    rw [show s.fresh.mgmt.staging = [] from h]

end

/-! ### LOG_IDX and what it shows (R473) -/

section
variable {s : State} {m : Master} {priv : Bool}

/-- A register that a word fills: every bit is writable. -/
def Row.fills (r : Row) (a : Nat) : Bool :=
  a % 4 == 0 && a != A.TEST_CTL && r.w1c == 0 && r.sc == 0 && r.wo == 0 && r.rw == 0xFFFFFFFF && r.rsv == 0 && !isPlaceAdr a &&
    ((domainOf a).isNone || r.rwp != 0)

/-- In every variant a word fills the register. -/
abbrev Fills (a : Nat) : Prop := ∀ v, (rowAt v a).any (fun r => r.fills a) = true

/-- A word written to a register that it fills is stored, posted or not, before the rule behind the register acts. -/
theorem Direct.fills {a n : Nat} (h : Direct s m priv a) (hr : Fills a) (hn : n < 2 ^ 32) :
    s.fresh.word m priv a n = (s.fresh.keepWord a n).act m (s.masterPriv m priv) a (s.reg a) 0 := by
  obtain ⟨r, hrow, hs⟩ := (Option.any_eq_true _ _).mp (hr s.variant)
  simp only [Row.fills, Bool.and_eq_true, beq_iff_eq, bne_iff_ne, ne_eq] at hs
  obtain ⟨⟨⟨⟨⟨⟨⟨⟨h1, h2⟩, h3⟩, h4⟩, h5⟩, h6⟩, h7⟩, h8⟩, h9⟩ := hs
  have hd : Direct s.fresh m priv a := h
  have htakes : r.takes a (s.fresh.rd a) n = true := by
    simp only [Row.takes, h1, h3, h7, h8, h9, Nat.and_zero, beq_self_eq_true, Bool.and_true, Bool.and_eq_true, bne_iff_ne, ne_eq]
    exact ⟨Nat.blt_eq.mpr hn, h2⟩
  have hmerged : r.merged (s.fresh.rd a) n = n := by
    rw [Row.merged, h6, h4, h5, show clearBits (0xFFFFFFFF &&& 0xFFFFFFFF) (0 ||| 0) = 0xFFFFFFFF from rfl]
    exact Row.merge_full n _ _ 0 hn (s.fresh.rd_lt a) rfl (Nat.and_zero _)
  rw [State.word_direct s.fresh m priv a n r hd hrow htakes, hmerged, h4, h5, Nat.or_zero, Nat.and_zero, Nat.zero_and]
  rfl

theorem logIdx_fills : Fills A.MGMT_LOG_IDX := fun v => by cases v <;> decide

/-- Each master's index is its own. -/
theorem answers_logIdxWrite (seq : Word) (hd : Direct s m priv A.MGMT_LOG_IDX) :
    Answers (.logIdxWrite seq m priv) s fun t =>
      t.mgmt = { s.mgmt with logIdx := setAt s.mgmt.logIdx m.code seq.toNat } ∧ Framed [A.MGMT_LOG_IDX] [.mgmt] s t := by
  set v := s.fresh.keepWord A.MGMT_LOG_IDX seq.toNat with hv
  set u := (v.updMgmt fun x => { x with logIdx := setAt x.logIdx m.code (v.rd A.MGMT_LOG_IDX) }).clearReg A.MGMT_LOG_IDX with hu
  have howed : v.effectOwed A.MGMT_LOG_IDX = false := by
    have hd' : s.fresh.effectOwed A.MGMT_LOG_IDX = false := hd.2.2
    rw [hv, State.keepWord]
    split
    · exact hd'
    · rw [State.effectOwed_wr _ _ _ _ (by decide) (by decide)]
      exact hd'
  have hvr : v.rd A.MGMT_LOG_IDX = seq.toNat := by
    rw [hv, rd_keepWord_mod]
    exact Nat.mod_eq_of_lt seq.isLt
  have heff : s.fresh.word m priv A.MGMT_LOG_IDX seq.toNat = u :=
    (hd.fills logIdx_fills seq.isLt).trans (State.act_effect v m _ _ _ 0 howed (.inr rfl))
  have hframe : Chg (Listed [A.MGMT_LOG_IDX]) (Parts [.mgmt]) NoMem s u :=
    ((Chg.refl.fresh.keepWord _ _ (.inl List.mem_cons_self)).updMgmt _ List.mem_cons_self).clearReg _ (.inl List.mem_cons_self)
  refine answers_effect _ rfl heff hframe ⟨?_, hframe.framed⟩
  have hvm : v.mgmt = s.mgmt := State.keepWord_mgmt _ _ _
  rw [State.seal_mgmt, hu, State.clearReg_mgmt]
  show { v.mgmt with logIdx := setAt v.mgmt.logIdx m.code (v.rd A.MGMT_LOG_IDX) } = _
  rw [hvm, hvr]

/-! ### LOG_DATA and LOG_STATE -/

theorem logView_row (v : Variant) {k : Nat} (hk : k < 17) : (rowAt v (A.MGMT_LOG_STATE + 4 * k)).any Row.plainRead = true := by
  interval_cases k <;> cases v <;> decide

/-- A plain register of the management unit is read as it stands. -/
theorem busRead_mgmt {a : Nat} (h4 : a % 4 = 0) (hpage : a / 0x10000 = 14) (hrow : (rowAt s.variant a).any Row.plainRead = true)
    (hposts : s.bus.posts = []) (hU : s.unitAwake 0 = true) (he : ∀ t : State, t.readEffect m a = t) :
    s.busRead m priv a = s.responds m (s.liveReg m a) := by
  obtain ⟨r, hrow, hplain⟩ := (Option.any_eq_true _ _).mp hrow
  simp only [Row.plainRead, Bool.and_eq_true, beq_iff_eq] at hplain
  obtain ⟨⟨hsc, hprv⟩, hrc⟩ := hplain
  have hall : r.allPrv = false := by rw [Row.allPrv, hprv]; rfl
  have hunit : unitOf a = 0 := by simp [unitOf, hpage]
  have hread : s.regRead m (s.masterPriv m priv) a r = (s.liveReg m a, s) := by
    have hno : ¬ (a % 0x100 = 0x10 ∧ 14 = 13 ∧ True ∧ a < A.HMQ_RD_DATA 4) := fun h => absurd h.2.1 (by decide)
    simp only [State.regRead, hall, Bool.and_false, hunit, hU, hpage, hno, hsc, hprv, hrc, clearBits_zero, ite_self, he, State.when,
      bne_self_eq_false, if_true, Bool.false_eq_true, if_false]
  have hdrain (d : Nat) : s.drain d = s := by
    rw [State.drain, State.posted, hposts]
    rfl
  have hget : s.busGet m priv a = (s.liveReg m a, s) := by
    rw [State.busGet, if_neg (fun h => h h4)]
    cases domainOf a with
    | none =>
      dsimp only
      rw [hrow]
      exact hread
    | some d =>
      dsimp only
      rw [hdrain, hrow]
      exact hread
  rw [State.busRead, hget]
  rfl

/-- What a read answers, with nothing else changed. -/
theorem answers_slowDomainRead {a w : Nat} (h : s.fresh.busRead m priv a = s.fresh.responds m w) :
    Answers (.slowDomainRead a m priv) s fun t => Returned m (BitVec.ofNat 32 w) s t ∧ Framed [] [.resp] s t := by
  have hframe : Chg (Listed []) (Parts [.resp]) NoMem s (s.fresh.responds m w) := Chg.refl.fresh.resp _ List.mem_cons_self
  exact answers_effect _ rfl h hframe ⟨by rw [Returned, State.seal_resp]; rfl, hframe.framed⟩

theorem logView_readEffect {k : Nat} (hk : k < 17) (t : State) : t.readEffect m (A.MGMT_LOG_STATE + 4 * k) = t := by
  interval_cases k <;> rfl

theorem liveReg_logView (t : State) {k : Nat} (hk : k < 17) : t.liveReg m (A.MGMT_LOG_STATE + 4 * k) = t.logView m (A.MGMT_LOG_STATE + 4 * k) := by
  interval_cases k <;> rfl

theorem busRead_logView {k : Nat} (hk : k < 17) (hposts : s.bus.posts = []) (hU : s.unitAwake 0 = true) :
    s.busRead m priv (A.MGMT_LOG_STATE + 4 * k) = s.responds m (s.logView m (A.MGMT_LOG_STATE + 4 * k)) := by
  rw [← liveReg_logView s hk]
  exact busRead_mgmt (by simp only [A.MGMT_LOG_STATE]; omega) (by simp only [A.MGMT_LOG_STATE]; omega) (logView_row _ hk) hposts hU
    (logView_readEffect hk)

theorem answers_logData {k : Nat} {r : List Word} (hk : k < 16) (hposts : s.bus.posts = []) (hU : s.unitAwake 0 = true)
    (hr : s.logRecord (getAt s.mgmt.logIdx m.code 0) = some r) :
    Answers (.slowDomainRead (A.MGMT_LOG_DATA k) m priv) s fun t => Returned m (getAt r k 0) s t ∧ Framed [] [.resp] s t := by
  have hadr : A.MGMT_LOG_DATA k = A.MGMT_LOG_STATE + 4 * (k + 1) := by simp only [A.MGMT_LOG_DATA, A.MGMT_LOG_STATE]; omega
  have hview : s.fresh.logView m (A.MGMT_LOG_DATA k) = (getAt r k 0).toNat := by
    have hne : A.MGMT_LOG_DATA k ≠ A.MGMT_LOG_STATE := by simp only [A.MGMT_LOG_DATA, A.MGMT_LOG_STATE]; omega
    have hidx : (A.MGMT_LOG_DATA k - A.MGMT_LOG_DATA 0) / 4 = k := by simp only [A.MGMT_LOG_DATA]; omega
    rw [State.logView, show s.fresh.logRecord (getAt s.fresh.mgmt.logIdx m.code 0) = some r from hr]
    dsimp only
    rw [if_neg hne, hidx]
  have hread := busRead_logView (s := s.fresh) (m := m) (priv := priv) (k := k + 1) (by omega) hposts hU
  rw [← hadr, hview] at hread
  have hans := answers_slowDomainRead hread
  rwa [BitVec.ofNat_toNat, BitVec.setWidth_eq] at hans

theorem answers_logState {r : List Word} (hposts : s.bus.posts = []) (hU : s.unitAwake 0 = true)
    (hr : s.logRecord (getAt s.mgmt.logIdx m.code 0) = some r) :
    Answers (.slowDomainRead A.MGMT_LOG_STATE m priv) s fun t =>
      Returned m (if recBad r then 3 else 1) s t ∧ Framed [] [.resp] s t := by
  have hview : s.fresh.logView m A.MGMT_LOG_STATE = if recBad r then 3 else 1 := by
    rw [State.logView, show s.fresh.logRecord (getAt s.fresh.mgmt.logIdx m.code 0) = some r from hr]
    exact if_pos rfl
  have hread := busRead_logView (s := s.fresh) (m := m) (priv := priv) (k := 0) (by omega) hposts hU
  rw [Nat.mul_zero, Nat.add_zero, hview] at hread
  have hans := answers_slowDomainRead hread
  cases hb : recBad r with
  | false =>
    rw [hb] at hans
    exact hans
  | true =>
    rw [hb] at hans
    exact hans

end

/-! ### The lifetime counters' copies (R477) -/

section
variable {s : State}

/-- The generation of the next copy. -/
def State.lifeGen (s : State) : Nat :=
  max (if s.mgmt.lifeA.ok then s.mgmt.lifeA.gen else 0) (if s.mgmt.lifeB.ok then s.mgmt.lifeB.gen else 0) + 1

theorem lifeGen_gt {c : LifeCopy} (hc : c ∈ [s.mgmt.lifeA, s.mgmt.lifeB]) (hok : c.ok = true) : c.gen < s.lifeGen := by
  unfold State.lifeGen
  rcases List.mem_cons.mp hc with rfl | hc
  · rw [hok, if_pos rfl]
    omega
  · rw [List.mem_singleton] at hc
    subst hc
    rw [hok, if_pos rfl]
    omega

theorem answers_lifetimeCounterWrite (h : s.mgmt.started = true) :
    Answers .lifetimeCounterWrite s fun t =>
      t.mgmt.lifeNext = !s.mgmt.lifeNext ∧ (if s.mgmt.lifeNext then t.mgmt.lifeA = s.mgmt.lifeA else t.mgmt.lifeB = s.mgmt.lifeB) ∧
      (if s.mgmt.lifeNext then t.mgmt.lifeB else t.mgmt.lifeA).ok = true ∧
      (if s.mgmt.lifeNext then t.mgmt.lifeB else t.mgmt.lifeA).counts = t.mgmt.life ∧
      (∀ c ∈ [s.mgmt.lifeA, s.mgmt.lifeB], c.ok = true → c.gen < (if s.mgmt.lifeNext then t.mgmt.lifeB else t.mgmt.lifeA).gen) ∧
      Framed [A.MGMT_EVT] [.mgmt] s t := by
  obtain ⟨l, b, hm⟩ := life_mgmt s.fresh 18 4
  set v := s.fresh.life 18 4 with hv
  have hgen : v.lifeGen = s.lifeGen := by
    unfold State.lifeGen
    rw [hm]
    rfl
  set c : LifeCopy := ⟨true, v.lifeGen, v.mgmt.life, v.mgmt.lifeSat⟩ with hc
  set u := v.updMgmt fun m => if m.lifeNext then { m with lifeB := c, lifeNext := false } else { m with lifeA := c, lifeNext := true } with hu
  have heff : s.fresh.when s.fresh.mgmt.started State.lifeWrite = u := by
    rw [show s.fresh.mgmt.started = true from h, State.when_true]
    rfl
  have hframe : Chg (Listed [A.MGMT_EVT]) (Parts [.mgmt]) NoMem s u :=
    (Chg.refl.fresh.life _ _ (.inl List.mem_cons_self) List.mem_cons_self).updMgmt _ List.mem_cons_self
  have hnext : v.mgmt.lifeNext = s.mgmt.lifeNext := by rw [hm]; rfl
  have hum : (s.seal u).mgmt = if s.mgmt.lifeNext then { v.mgmt with lifeB := c, lifeNext := false } else { v.mgmt with lifeA := c, lifeNext := true } := by
    rw [State.seal_mgmt, ← hnext]
    rfl
  have hgt (x : LifeCopy) (hx : x ∈ [s.mgmt.lifeA, s.mgmt.lifeB]) (hok : x.ok = true) : x.gen < v.lifeGen := by
    rw [hgen]
    exact lifeGen_gt hx hok
  refine answers_effect _ rfl heff hframe ?_
  rw [hum]
  cases s.mgmt.lifeNext with
  | false => exact ⟨rfl, by rw [hm]; rfl, rfl, rfl, hgt, hframe.framed⟩
  | true => exact ⟨rfl, by rw [hm]; rfl, rfl, rfl, hgt, hframe.framed⟩

theorem untouched_lifetimeCounterWrite (h : s.mgmt.started = false) : Untouched .lifetimeCounterWrite s :=
  untouched_effect _ rfl (by rw [show s.fresh.mgmt.started = false from h, State.when_false])

theorem logAndLifetimeCounters : LogAndLifetimeCounters :=
  ⟨fun _ _ _ hpw h hl hp => answers_logRecordWrite hpw h hl hp,
    fun _ _ _ hpw h hl hp h5 hs => answers_logRecordWrite_push hpw h hl hp h5 hs,
    fun _ _ _ hpw h hl hroom => answers_logRecordWrite_lost hpw h hl hroom,
    fun _ h => untouched_logRecordWrite h,
    fun _ seq _ _ hd => answers_logIdxWrite seq hd,
    fun _ _ _ _ _ hk hposts hU hr => ⟨answers_logData hk hposts hU hr, answers_logState hposts hU hr⟩,
    fun _ h => answers_lifetimeCounterWrite h,
    fun _ h => untouched_lifetimeCounterWrite h⟩

end

end Sys2Proof.Machine
end

section

/-! PROOFS. The scheduler (R465 to R468): when an entry is due, what an entry that acts leaves, and O57. -/

namespace Sys2Proof.Machine

/-! ### What local time and an entry depend on -/

/-- The registers that local time is computed from. -/
def calendarRegs : List Nat := [A.MGMT_TZ_STD, A.MGMT_TZ_DST 0, A.MGMT_TZ_DST 1, A.CLK_TOD_CFG]

/-- Two states with the same local time. -/
structure SameClock (s t : State) : Prop where
  tb : t.time.tb = s.time.tb
  offset : t.mgmt.utcOffset = s.mgmt.utcOffset
  reg : ∀ a ∈ calendarRegs, t.reg a = s.reg a

/-- Whether an entry is a one-shot is a matter of its second word. -/
theorem oneShot_of_reg {s t : State} {n : Nat} (h : t.reg (A.TBL_SCHED_W1 n) = s.reg (A.TBL_SCHED_W1 n)) : t.oneShot n = s.oneShot n := by
  simp only [State.oneShot, State.fld_eq_of_reg (f := F.TBL_SCHED_W1_YEAR n) h, State.fld_eq_of_reg (f := F.TBL_SCHED_W1_MONTH n) h,
    State.fld_eq_of_reg (f := F.TBL_SCHED_W1_DAY n) h]

section
variable {s t : State} (h : SameClock s t)
include h

theorem SameClock.fld {f : Fld} (hf : f.adr ∈ calendarRegs) : t.fld f = s.fld f := State.fld_eq_of_reg (h.reg _ hf)

theorem SameClock.utcSecs : t.utcSecs = s.utcSecs := by
  simp only [State.utcSecs, State.tbSec, h.tb, h.offset, h.fld (f := F.CLK_TOD_CFG_UTC_OFFSET) (by simp [calendarRegs])]

theorem SameClock.stdOff : t.stdOff = s.stdOff := by
  simp only [State.stdOff, h.fld (f := F.MGMT_TZ_STD_STD_OFF) (by simp [calendarRegs])]

theorem SameClock.dstShift : t.dstShift = s.dstShift := by
  simp only [State.dstShift, h.fld (f := F.MGMT_TZ_STD_DST_SHIFT) (by simp [calendarRegs])]

theorem SameClock.tzEdge {k : Nat} (hk : A.MGMT_TZ_DST k ∈ calendarRegs) (year : Int) : t.tzEdge k year = s.tzEdge k year := by
  simp only [State.tzEdge, h.fld (f := F.MGMT_TZ_DST_MONTH k) hk, h.fld (f := F.MGMT_TZ_DST_WEEK k) hk, h.fld (f := F.MGMT_TZ_DST_DAY k) hk,
    h.fld (f := F.MGMT_TZ_DST_MINUTE k) hk]

theorem SameClock.dstAt (std : Int) : t.dstAt std = s.dstAt std := by
  have hen : t.on F.MGMT_TZ_STD_DST_EN = s.on F.MGMT_TZ_STD_DST_EN := congrArg (· != 0) (h.fld (by simp [calendarRegs]))
  simp only [State.dstAt, hen, h.tzEdge (k := 0) (by simp [calendarRegs]), h.tzEdge (k := 1) (by simp [calendarRegs]), h.dstShift]

theorem SameClock.today : t.today = s.today := by
  simp only [State.today, State.localNow, State.localOf, h.dstAt, h.dstShift, h.utcSecs, h.stdOff]

theorem SameClock.dayNo : t.dayNo = s.dayNo := by
  simp only [State.dayNo, h.today]

theorem SameClock.stdOf (l : Int) : t.stdOf l = s.stdOf l := by
  simp only [State.stdOf, h.dstAt, h.dstShift, h.tzEdge (k := 0) (by simp [calendarRegs])]

section
variable {n : Nat} (h0 : t.reg (A.TBL_SCHED_W0 n) = s.reg (A.TBL_SCHED_W0 n))
include h0

theorem SameClock.schedLate : t.schedLate n = s.schedLate n := by
  simp only [State.schedLate, h.utcSecs, h.stdOff, h.today, h.stdOf, State.fld_eq_of_reg (f := F.TBL_SCHED_W0_TOD n) h0]

theorem SameClock.schedDay (h1 : t.reg (A.TBL_SCHED_W1 n) = s.reg (A.TBL_SCHED_W1 n)) : t.schedDay n = s.schedDay n := by
  unfold State.schedDay
  rw [oneShot_of_reg h1, h.today, State.fld_eq_of_reg (f := F.TBL_SCHED_W0_DAYS n) h0, State.fld_eq_of_reg (f := F.TBL_SCHED_W1_YEAR n) h1,
    State.fld_eq_of_reg (f := F.TBL_SCHED_W1_MONTH n) h1, State.fld_eq_of_reg (f := F.TBL_SCHED_W1_DAY n) h1]

theorem SameClock.schedDue (h1 : t.reg (A.TBL_SCHED_W1 n) = s.reg (A.TBL_SCHED_W1 n))
    (h3 : t.reg (A.TBL_SCHED_W3 n) = s.reg (A.TBL_SCHED_W3 n)) : t.schedDue n = s.schedDue n := by
  simp only [State.schedDue, State.on, h.schedDay h0 h1, h.schedLate h0, h.dayNo, State.fld_eq_of_reg (f := F.TBL_SCHED_W0_EN n) h0,
    State.fld_eq_of_reg (f := F.TBL_SCHED_W3_LAST_DAY n) h3]

end

end

/-! ### A tick in which one entry is due -/

/-- A register that one entry's action may change: of the table the entry's own first and last word. -/
def EntryTouches (n a : Nat) : Prop :=
  a = A.TBL_SCHED_W0 n ∨ a = A.TBL_SCHED_W3 n ∨ a ∉ calendarRegs ∧ (a < A.TBL_SCHED_W0 0 ∨ A.TBL_SCHED_W0 64 ≤ a)

theorem not_entryTouches_calendar {n a : Nat} (hn : n < 64) (h : a ∈ calendarRegs) : ¬ EntryTouches n a := by
  have hlow : a < A.TBL_SCHED_W0 0 := by
    simp only [calendarRegs, List.mem_cons, List.not_mem_nil, or_false] at h
    rcases h with rfl | rfl | rfl | rfl <;> decide
  rintro (rfl | rfl | ⟨hc, -⟩)
  · simp only [A.TBL_SCHED_W0] at hlow
    omega
  · simp only [A.TBL_SCHED_W0, A.TBL_SCHED_W3] at hlow
    omega
  · exact hc h

theorem not_entryTouches_other {n k a : Nat} (hk : k < 64) (hkn : k ≠ n) (ha : a = A.TBL_SCHED_W0 k ∨ a = A.TBL_SCHED_W1 k ∨ a = A.TBL_SCHED_W3 k) :
    ¬ EntryTouches n a := by
  simp only [EntryTouches, A.TBL_SCHED_W0, A.TBL_SCHED_W1, A.TBL_SCHED_W3] at ha ⊢
  omega

theorem not_entryTouches_w1 {n k : Nat} (hk : k < 64) : ¬ EntryTouches n (A.TBL_SCHED_W1 k) := by
  simp only [EntryTouches, A.TBL_SCHED_W0, A.TBL_SCHED_W1, A.TBL_SCHED_W3]
  omega

/-- The clock after an entry's action. -/
theorem SameClock.of_chg {w y : State} {n : Nat} {ps : List Part} {M : Nat → Prop} (hn : n < 64) (hc : Chg (EntryTouches n) (Parts ps) M w y)
    (ht : .time ∉ ps) (ho : y.mgmt.utcOffset = w.mgmt.utcOffset) : SameClock w y :=
  ⟨congrArg TimeS.tb (hc.part .time ht), ho, fun a ha => hc.reg a (not_entryTouches_calendar hn ha)⟩

/-- With one entry due, a tick is that entry's evaluation. -/
theorem schedEvals_once {w y : State} {n : Nat} {ps : List Part} {M : Nat → Prop} (hn : n < 64) (hdue : ∀ k < 64, k ≠ n → w.schedDue k = false)
    (hat : w.schedEval n = y) (hc : Chg (EntryTouches n) (Parts ps) M w y) (ht : .time ∉ ps) (ho : y.mgmt.utcOffset = w.mgmt.utcOffset) :
    forN 64 (fun k s => s.schedEval k) w = y := by
  have hidle {x : State} {k : Nat} (h : x.schedDue k = false) : x.schedEval k = x := by
    unfold State.schedEval
    rw [h]
    rfl
  have hsame := SameClock.of_chg hn hc ht ho
  refine forN_once hn (fun i hi => hidle (hdue i (by omega) (by omega))) hat fun i hi hi' => hidle ?_
  have hreg {a : Nat} (ha : a = A.TBL_SCHED_W0 i ∨ a = A.TBL_SCHED_W1 i ∨ a = A.TBL_SCHED_W3 i) : y.reg a = w.reg a :=
    hc.reg a (not_entryTouches_other hi' (by omega) ha)
  rw [hsame.schedDue (hreg (.inl rfl)) (hreg (.inr (.inl rfl))) (hreg (.inr (.inr rfl)))]
  exact hdue i hi' (by omega)

/-! ### The state that a tick evaluates the entries in -/

/-- Elapsed time keeps the management state but for the clock and the lifetime counters. -/
theorem advance_mgmt (s : State) (dt : Nat) :
    ∃ l b sec tick, (s.advance dt).mgmt = { s.mgmt with life := l, lifeSat := b, rtcSec := sec, rtcTick := tick } := by
  unfold State.advance
  rw [State.updMisalign_mgmt]
  dsimp only
  by_cases hp : (s.pwr.powered && (s.time.up + dt) / secU - s.time.up / secU != 0) = true
  · obtain ⟨l, b, hm⟩ := life_mgmt s 0 ((s.time.up + dt) / secU - s.time.up / secU)
    rw [hp, State.when_true]
    exact ⟨l, b, _, _, by rw [hm]⟩
  · rw [Bool.not_eq_true] at hp
    rw [hp, State.when_false]
    exact ⟨_, _, _, _, rfl⟩

theorem advance_up (s : State) (dt : Nat) : (s.advance dt).time.up = s.time.up + dt := by
  obtain ⟨_, _, _, h⟩ := State.advance_time s dt
  rw [h]

/-- The time base after elapsed time is a matter of the time base. -/
theorem sameClock_fresh (s : State) (dt : Nat) : SameClock (s.advance dt) (s.fresh.advance dt) := by
  have htb : (s.fresh.advance dt).time = (s.advance dt).time := by
    simp only [State.advance, State.updMisalign_time, State.when, apply_ite State.time, State.life_time, ite_self]
    rfl
  refine ⟨congrArg TimeS.tb htb, ?_, fun a ha => ?_⟩
  · obtain ⟨_, _, _, _, h⟩ := advance_mgmt s dt
    obtain ⟨_, _, _, _, h'⟩ := advance_mgmt s.fresh dt
    rw [h, h']
    rfl
  · have hna : a ∉ timeRegs := by
      simp only [calendarRegs, List.mem_cons, List.not_mem_nil, or_false] at ha
      rcases ha with rfl | rfl | rfl | rfl <;> decide
    rw [reg_elapsed s dt hna, State.reg_advance _ _ hna]

/-- The module a tick later: with a source of time, the RTC follows the time base. -/
def State.ticked (s : State) (dt : Nat) : State :=
  (s.fresh.advance dt).when (Nat.ble 2 (s.fld F.MGMT_RTC_STATUS_SRC)) fun s =>
    s.updMgmt fun m => { m with rtcSec := s.time.tb / secU, rtcTick := s.time.tb % secU }

section
variable {s : State} {dt n : Nat}

theorem src_elapsed : (s.fresh.advance dt).fld F.MGMT_RTC_STATUS_SRC = s.fld F.MGMT_RTC_STATUS_SRC :=
  State.fld_eq_of_reg (reg_elapsed s dt (by decide))

theorem started_elapsed : (s.fresh.advance dt).mgmt.started = s.mgmt.started := by
  obtain ⟨_, _, _, _, h⟩ := advance_mgmt s.fresh dt
  rw [h]
  rfl

theorem schedTick_idle (h : s.fld F.MGMT_RTC_STATUS_SRC = 0 ∨ s.mgmt.started = false) : (s.fresh.advance dt).schedTick = s.fresh.advance dt := by
  unfold State.schedTick
  rw [src_elapsed, started_elapsed]
  exact if_pos h

theorem schedTick_eq (h : s.fld F.MGMT_RTC_STATUS_SRC ≠ 0) (hs : s.mgmt.started = true) :
    (s.fresh.advance dt).schedTick = forN 64 (fun k s => s.schedEval k) (s.ticked dt) := by
  unfold State.schedTick
  rw [src_elapsed, started_elapsed]
  exact if_neg (by rw [hs]; simp [h])

theorem chg_ticked : Chg (Listed timeRegs) (Parts [.time, .clk, .mgmt]) NoMem s (s.ticked dt) :=
  (chg_elapsed_time s dt fun _ h => h).when _ _ fun _ => (chg_elapsed_time s dt fun _ h => h).updMgmt _ (by simp)

theorem ticked_chg : Chg (fun _ => False) (Parts [.mgmt]) NoMem (s.fresh.advance dt) (s.ticked dt) :=
  Chg.refl.when _ _ fun _ => Chg.refl.updMgmt _ List.mem_cons_self

theorem reg_ticked {a : Nat} (h : a ∉ timeRegs) : (s.ticked dt).reg a = s.reg a :=
  (ticked_chg.reg a fun h => h).trans (reg_elapsed s dt h)

theorem fld_ticked {f : Fld} (h : f.adr ∉ timeRegs) : (s.ticked dt).fld f = s.fld f := State.fld_eq_of_reg (reg_ticked h)

theorem entry_ticked {a : Nat} (h : 0x190000 ≤ a) : (s.ticked dt).reg a = s.reg a := reg_ticked (notMem_timeRegs (.inr (by omega)))

/-- The parts of the management state that the entries look at. -/
theorem ticked_mgmt : (s.ticked dt).mgmt.utcOffset = (s.fresh.advance dt).mgmt.utcOffset ∧ (s.ticked dt).mgmt.schedRetry = s.mgmt.schedRetry := by
  obtain ⟨_, _, _, _, h⟩ := advance_mgmt s.fresh dt
  have hr : (s.fresh.advance dt).mgmt.schedRetry = s.mgmt.schedRetry := by
    rw [h]
    rfl
  unfold State.ticked State.when
  split
  · exact ⟨rfl, hr⟩
  · exact ⟨rfl, hr⟩

theorem ticked_time : (s.ticked dt).time = (s.fresh.advance dt).time := ticked_chg.part .time (by simp)

theorem ticked_up : (s.ticked dt).time.up = s.time.up + dt := by
  rw [ticked_time, advance_up]
  rfl

theorem sameClock_ticked : SameClock (s.advance dt) (s.ticked dt) :=
  have h := sameClock_fresh s dt
  ⟨(congrArg TimeS.tb ticked_time).trans h.tb, (ticked_mgmt.1).trans h.offset, fun a ha => (ticked_chg.reg a fun h => h).trans (h.reg a ha)⟩

theorem entry_same {a : Nat} (h : 0x190000 ≤ a) : (s.ticked dt).reg a = (s.advance dt).reg a :=
  (entry_ticked h).trans (State.reg_advance _ _ (notMem_timeRegs (.inr (by omega)))).symm

theorem schedDue_ticked (k : Nat) : (s.ticked dt).schedDue k = (s.advance dt).schedDue k :=
  sameClock_ticked.schedDue (entry_same (by simp only [A.TBL_SCHED_W0]; omega)) (entry_same (by simp only [A.TBL_SCHED_W1]; omega))
    (entry_same (by simp only [A.TBL_SCHED_W3]; omega))

theorem schedLate_ticked (k : Nat) : (s.ticked dt).schedLate k = (s.advance dt).schedLate k :=
  sameClock_ticked.schedLate (entry_same (by simp only [A.TBL_SCHED_W0]; omega))

/-- A tick in which one entry is due. -/
theorem answers_onlyDue {P : State → Prop} {ps : List Part} {M : Nat → Prop} {y : State} (h : OnlyDue s dt n)
    (hat : (s.ticked dt).schedEval n = y) (hc : Chg (EntryTouches n) (Parts ps) M (s.ticked dt) y) (ht : .time ∉ ps)
    (ho : y.mgmt.utcOffset = (s.ticked dt).mgmt.utcOffset) (hP : P (s.seal y)) : Answers (.schedulerTick dt) s P := by
  obtain ⟨hn, hs, hsrc, -, hothers⟩ := h
  have heff : (s.fresh.advance dt).schedTick = y := by
    rw [schedTick_eq hsrc hs]
    exact schedEvals_once hn (fun k hk hkn => (schedDue_ticked k).trans (hothers k hk hkn)) hat hc ht ho
  have hv : Chg AnyReg AnyPart (fun _ => True) s y :=
    (chg_ticked.mono (fun _ _ => trivial) (fun _ _ => trivial) fun _ _ => trivial).trans
      (hc.mono (fun _ _ => trivial) (fun _ _ => trivial) fun _ _ => trivial)
  exact answers_effect _ rfl heff hv hP

end

/-! ### What an entry that has acted leaves -/

section
variable {x : State} {n r sev : Nat} {acted : Bool}

theorem free_entry {f g : Fld} (hf : f.ok = true) (hg : g.ok = true) (h : g.adr ≠ f.adr ∨ f.apart g = true) : Fld.free f g = true := by
  rw [Fld.free, hf, hg]
  simpa using h

/-- The entry's own record. -/
def State.schedNoted (x : State) (n r sev : Nat) : State :=
  (x.set (F.TBL_SCHED_W3_RESULT n) r).log 17 0x40 sev ([n, x.fld (F.TBL_SCHED_W0_KIND n), r] ++
    if x.fld (F.TBL_SCHED_W0_KIND n) = 8 then [(x.set (F.TBL_SCHED_W3_RESULT n) r).rd (A.TBL_SCHED_W2 n)] else [])

theorem fld_schedNoted_ne {g : Fld} (h : g.adr ≠ A.TBL_SCHED_W3 n) (h' : g.adr ≠ A.MGMT_EVT) : (x.schedNoted n r sev).fld g = x.fld g :=
  (State.fld_log_ne _ _ _ _ h').trans (State.fld_set_ne _ _ h)

theorem schedNoted_result : (x.schedNoted n r sev).fld (F.TBL_SCHED_W3_RESULT n) = r % 16 :=
  (State.fld_log_ne _ _ _ _ (by simp only [A.TBL_SCHED_W3, A.MGMT_EVT]; omega)).trans (State.fld_set_same _ rfl _)

theorem schedNoted_lastDay : (x.schedNoted n r sev).fld (F.TBL_SCHED_W3_LAST_DAY n) = x.fld (F.TBL_SCHED_W3_LAST_DAY n) :=
  (State.fld_log_ne _ _ _ _ (by simp only [A.TBL_SCHED_W3, A.MGMT_EVT]; omega)).trans
    (State.fld_set_free _ (free_entry rfl rfl (.inr rfl)) _)

theorem schedNoted_oneShot : (x.schedNoted n r sev).oneShot n = x.oneShot n := by
  refine oneShot_of_reg (State.reg_log_ne _ _ _ _ _ ?_ |>.trans (State.reg_set_ne _ _ _ ?_))
  · simp only [A.TBL_SCHED_W1, A.MGMT_EVT]
    omega
  · simp only [A.TBL_SCHED_W1, A.TBL_SCHED_W3]
    omega

theorem schedDone_eq : x.schedDone n r sev acted =
    (x.schedNoted n r sev).when (acted && x.oneShot n) fun s => s.set (F.TBL_SCHED_W0_EN n) 0 := by
  rw [← schedNoted_oneShot (r := r) (sev := sev)]
  rfl

/-- What the end of an entry's action changes. -/
theorem chg_schedDone : Chg (fun a => a = A.TBL_SCHED_W0 n ∨ a = A.TBL_SCHED_W3 n ∨ a = A.MGMT_EVT) (Parts [.mgmt]) NoMem x (x.schedDone n r sev acted) := by
  have hnoted : Chg (fun a => a = A.TBL_SCHED_W0 n ∨ a = A.TBL_SCHED_W3 n ∨ a = A.MGMT_EVT) (Parts [.mgmt]) NoMem x (x.schedNoted n r sev) :=
    (Chg.refl.set _ _ (.inr (.inl rfl))).log _ _ _ _ (.inr (.inr rfl)) List.mem_cons_self
  rw [schedDone_eq]
  exact hnoted.when _ _ fun _ => hnoted.set _ _ (.inl rfl)

theorem fld_schedDone_ne {g : Fld} (h0 : g.adr ≠ A.TBL_SCHED_W0 n) (h3 : g.adr ≠ A.TBL_SCHED_W3 n) (h : g.adr ≠ A.MGMT_EVT) :
    (x.schedDone n r sev acted).fld g = x.fld g :=
  State.fld_eq_of_reg (chg_schedDone.reg _ (by rintro (h' | h' | h') <;> contradiction))

theorem fld_schedDone_low {g : Fld} (hg : g.adr < A.TBL_SCHED_W0 0) (h : g.adr ≠ A.MGMT_EVT) : (x.schedDone n r sev acted).fld g = x.fld g := by
  refine fld_schedDone_ne ?_ ?_ h
  · simp only [A.TBL_SCHED_W0] at hg ⊢
    omega
  · simp only [A.TBL_SCHED_W0, A.TBL_SCHED_W3] at hg ⊢
    omega

theorem schedDone_w3 {g : Fld} (hg : g.adr = A.TBL_SCHED_W3 n) : (x.schedDone n r sev acted).fld g = (x.schedNoted n r sev).fld g := by
  rw [schedDone_eq]
  refine State.fld_when _ _ <| State.fld_set_ne _ _ ?_
  rw [hg]
  simp only [A.TBL_SCHED_W0, A.TBL_SCHED_W3]
  omega

theorem schedDone_result : (x.schedDone n r sev acted).fld (F.TBL_SCHED_W3_RESULT n) = r % 16 :=
  (schedDone_w3 rfl).trans schedNoted_result

theorem schedDone_lastDay : (x.schedDone n r sev acted).fld (F.TBL_SCHED_W3_LAST_DAY n) = x.fld (F.TBL_SCHED_W3_LAST_DAY n) :=
  (schedDone_w3 rfl).trans schedNoted_lastDay

/-- A one-shot that has acted is disabled. -/
theorem schedDone_en (h : x.on (F.TBL_SCHED_W0_EN n) = true) : (x.schedDone n r sev true).on (F.TBL_SCHED_W0_EN n) = !x.oneShot n := by
  have hnoted : (x.schedNoted n r sev).on (F.TBL_SCHED_W0_EN n) = true := by
    rw [State.on, fld_schedNoted_ne (by simp only [A.TBL_SCHED_W0, A.TBL_SCHED_W3]; omega) (by simp only [A.TBL_SCHED_W0, A.MGMT_EVT]; omega)]
    exact h
  rw [schedDone_eq, Bool.true_and]
  cases x.oneShot n with
  | false => exact hnoted
  | true =>
    rw [State.when_true, State.on, State.fld_set_same _ rfl]
    rfl

theorem schedDone_kept : (x.schedDone n r sev acted).mgmt.kept = x.mgmt.kept := by
  have hnoted : (x.schedNoted n r sev).mgmt.kept = x.mgmt.kept := log_kept _ _ _ _ _
  rw [schedDone_eq]
  cases acted && x.oneShot n with
  | false =>
    rw [State.when_false]
    exact hnoted
  | true =>
    rw [State.when_true, State.set_mgmt]
    exact hnoted

theorem offset_of_kept {s t : State} (h : t.mgmt.kept = s.mgmt.kept) : t.mgmt.utcOffset = s.mgmt.utcOffset := by
  have := congrArg Mgmt.utcOffset h
  exact this
theorem retry_of_kept {s t : State} (h : t.mgmt.kept = s.mgmt.kept) : t.mgmt.schedRetry = s.mgmt.schedRetry := by
  have := congrArg Mgmt.schedRetry h
  exact this

/-- An event of the manager's own stays through an entry's record. -/
theorem schedDone_event {g : Fld} (h : F.MGMT_EVT_LOG_LOST.free g = true) (hg : g.adr = A.MGMT_EVT) :
    (x.schedDone n r sev acted).fld g = x.fld g := by
  rw [schedDone_eq]
  refine (State.fld_when _ _ <| State.fld_set_ne _ _ ?_).trans ((fld_log_free _ _ _ _ h).trans (State.fld_set_ne _ _ ?_))
  · rw [hg]
    simp only [A.TBL_SCHED_W0, A.MGMT_EVT]
    omega
  · rw [hg]
    simp only [A.TBL_SCHED_W3, A.MGMT_EVT]
    omega

end

/-! ### The actions (R467) -/

section
variable {x : State} {n : Nat}

theorem schedAct_none (h : x.fld (F.TBL_SCHED_W0_KIND n) = 0 ∨ 8 ≤ x.fld (F.TBL_SCHED_W0_KIND n)) : x.schedAct n = (.done, x) := by
  unfold State.schedAct
  dsimp only
  split
  case h_8 => rfl
  all_goals omega

theorem schedAct_run (h : x.fld (F.TBL_SCHED_W0_KIND n) = 1) (hst : x.modState = stRun) (hrun : x.runOn = false) :
    x.schedAct n = (.done, x.runStart 4) := by
  unfold State.schedAct
  rw [h, hst, hrun]
  rfl

theorem schedAct_save (h : x.fld (F.TBL_SCHED_W0_KIND n) = 7) : x.schedAct n = (.done, x.requestSave) := by
  unfold State.schedAct
  rw [h]
  rfl

/-- QUIET in READY is refused. -/
theorem schedAct_quiet (h : x.fld (F.TBL_SCHED_W0_KIND n) = 4) (hst : x.modState = stReady) : x.schedAct n = (.refused, x.refuse 5 1) := by
  have hcmd : x.modCmd 5 4 = x.refuse 5 1 := by
    unfold State.modCmd State.modQuiet
    rw [hst]
    rfl
  unfold State.schedAct
  rw [h, hst, hcmd]
  rfl

end

/-! ### A due entry -/

/-- The state that a due entry's action runs in: its LAST_DAY holds today. -/
def State.marked (s : State) (dt n : Nat) : State := (s.ticked dt).set (F.TBL_SCHED_W3_LAST_DAY n) (s.ticked dt).dayNo

section
variable {s z : State} {dt n : Nat}

theorem chg_marked : Chg (fun a => a = A.TBL_SCHED_W3 n) (Parts []) NoMem (s.ticked dt) (s.marked dt n) := Chg.refl.set _ _ rfl

theorem fld_marked {f : Fld} (h : f.adr ≠ A.TBL_SCHED_W3 n) : (s.marked dt n).fld f = (s.ticked dt).fld f := State.fld_set_ne _ _ h

theorem marked_lastDay : (s.marked dt n).fld (F.TBL_SCHED_W3_LAST_DAY n) = (s.advance dt).dayNo := by
  have hlt : (s.advance dt).dayNo < 2 ^ 16 := by
    unfold State.dayNo unsgn
    omega
  unfold State.marked
  rw [State.fld_set_same _ rfl, sameClock_ticked.dayNo]
  exact Nat.mod_eq_of_lt hlt

theorem marked_result : (s.marked dt n).fld (F.TBL_SCHED_W3_RESULT n) = s.fld (F.TBL_SCHED_W3_RESULT n) :=
  (State.fld_set_free _ (free_entry rfl rfl (.inr rfl)) _).trans (State.fld_eq_of_reg (entry_ticked (by simp only [A.TBL_SCHED_W3]; omega)))

theorem marked_w0 {f : Fld} (h : f.adr = A.TBL_SCHED_W0 n) : (s.marked dt n).fld f = s.fld f := by
  rw [fld_marked (by rw [h]; simp only [A.TBL_SCHED_W0, A.TBL_SCHED_W3]; omega)]
  exact State.fld_eq_of_reg (by rw [h]; exact entry_ticked (by simp only [A.TBL_SCHED_W0]; omega))

theorem marked_oneShot : (s.marked dt n).oneShot n = s.oneShot n :=
  oneShot_of_reg ((State.reg_set_ne _ _ _ (by simp only [A.TBL_SCHED_W1, A.TBL_SCHED_W3]; omega)).trans
    (entry_ticked (by simp only [A.TBL_SCHED_W1]; omega)))

theorem on_of_due (h : OnlyDue s dt n) : s.on (F.TBL_SCHED_W0_EN n) = true := by
  obtain ⟨-, -, -, hdue, -⟩ := h
  unfold State.schedDue at hdue
  simp only [Bool.and_eq_true] at hdue
  obtain ⟨⟨⟨hon, -⟩, -⟩, -⟩ := hdue
  refine Eq.trans ?_ hon
  have hreg : (s.advance dt).reg (A.TBL_SCHED_W0 n) = s.reg (A.TBL_SCHED_W0 n) :=
    State.reg_advance _ _ (notMem_timeRegs (.inr (by simp only [A.TBL_SCHED_W0]; omega)))
  exact congrArg (· != 0) (State.fld_eq_of_reg hreg).symm

theorem late_of_due (h : OnlyDue s dt n) : 0 ≤ (s.advance dt).schedLate n := by
  obtain ⟨-, -, -, hdue, -⟩ := h
  unfold State.schedDue at hdue
  simp only [Bool.and_eq_true, decide_eq_true_eq] at hdue
  exact hdue.1.2

/-- The entry's words stay through its action. -/
def KeepsEntry (n : Nat) (R : Nat → Prop) : Prop := ∀ a, a = A.TBL_SCHED_W0 n ∨ a = A.TBL_SCHED_W1 n ∨ a = A.TBL_SCHED_W3 n → ¬ R a

theorem keepsEntry_low {R : Nat → Prop} (h : ∀ a, R a → a < A.TBL_SCHED_W0 0) : KeepsEntry n R := by
  rintro a ha hr
  have := h a hr
  simp only [A.TBL_SCHED_W0, A.TBL_SCHED_W1, A.TBL_SCHED_W3] at ha this
  omega

/-- What an entry whose action is done leaves (R467). -/
theorem entryActed_done {R : Nat → Prop} {P : Part → Prop} {M : Nat → Prop} {r sev : Nat} (h : OnlyDue s dt n) (hz : Chg R P M (s.marked dt n) z)
    (hR : KeepsEntry n R) (hr : r < 16) : EntryActed dt n r s (s.seal (z.schedDone n r sev true)) := by
  have hword {f : Fld} (hf : f.adr = A.TBL_SCHED_W0 n ∨ f.adr = A.TBL_SCHED_W1 n ∨ f.adr = A.TBL_SCHED_W3 n) :
      z.fld f = (s.marked dt n).fld f := State.fld_eq_of_reg (hz.reg _ (hR _ hf))
  have hen : z.on (F.TBL_SCHED_W0_EN n) = true := by
    rw [State.on, hword (.inl rfl), marked_w0 rfl]
    exact on_of_due h
  have hseal {f : Fld} (hf : 0x100000 ≤ f.adr) : (s.seal (z.schedDone n r sev true)).fld f = (z.schedDone n r sev true).fld f :=
    State.fld_seal_of (entry_notMem hf)
  refine ⟨?_, ?_, ?_⟩
  · rw [hseal (by simp only [A.TBL_SCHED_W3]; omega), schedDone_result]
    exact Nat.mod_eq_of_lt hr
  · rw [hseal (by simp only [A.TBL_SCHED_W3]; omega), schedDone_lastDay, hword (.inr (.inr rfl)), marked_lastDay]
  · rw [State.on, hseal (by simp only [A.TBL_SCHED_W0]; omega), ← State.on, schedDone_en hen,
      oneShot_of_reg (hz.reg _ (hR _ (.inr (.inl rfl)))), marked_oneShot]

theorem schedEval_fire (h : OnlyDue s dt n) (hl : (s.advance dt).schedLate n ≤ 3600) :
    (s.ticked dt).schedEval n = (s.ticked dt).schedFire n (decide (0 < (s.advance dt).schedLate n)) := by
  obtain ⟨-, -, -, hdue, -⟩ := h
  unfold State.schedEval
  rw [schedDue_ticked, hdue, schedLate_ticked, if_pos rfl]
  exact if_neg (by omega)

theorem schedEval_done (h : OnlyDue s dt n) (hl : (s.advance dt).schedLate n ≤ 3600) (hz : (s.marked dt n).schedAct n = (.done, z)) :
    (s.ticked dt).schedEval n = z.schedDone n (if (s.advance dt).schedLate n = 0 then 1 else 2) 0 true := by
  have hres : (if decide (0 < (s.advance dt).schedLate n) then 2 else 1) = if (s.advance dt).schedLate n = 0 then 1 else 2 := by
    have := late_of_due h
    by_cases h0 : (s.advance dt).schedLate n = 0
    · rw [if_pos h0, h0]
      rfl
    · rw [if_neg h0, if_pos (by simp; omega)]
  rw [schedEval_fire h hl, ← hres]
  unfold State.schedFire
  dsimp only
  rw [show (s.ticked dt).set (F.TBL_SCHED_W3_LAST_DAY n) (s.ticked dt).dayNo = s.marked dt n from rfl, hz]

/-- An entry whose action is done, with the action's own effect. -/
theorem answers_entryDone {P : State → Prop} {R : Nat → Prop} {ps : List Part} {M : Nat → Prop} (h : OnlyDue s dt n)
    (hl : (s.advance dt).schedLate n ≤ 3600) (hz : (s.marked dt n).schedAct n = (.done, z)) (hc : Chg R (Parts ps) M (s.marked dt n) z)
    (hR : ∀ a, R a → a ∉ calendarRegs ∧ a < A.TBL_SCHED_W0 0) (ht : .time ∉ ps) (ho : z.mgmt.utcOffset = (s.marked dt n).mgmt.utcOffset)
    (hP : EntryActed dt n (if (s.advance dt).schedLate n = 0 then 1 else 2) s
      (s.seal (z.schedDone n (if (s.advance dt).schedLate n = 0 then 1 else 2) 0 true)) →
      P (s.seal (z.schedDone n (if (s.advance dt).schedLate n = 0 then 1 else 2) 0 true))) : Answers (.schedulerTick dt) s P := by
  have hmono {R' : Nat → Prop} {ps' : List Part} {M' : Nat → Prop} {a b : State} (hab : Chg R' (Parts ps') M' a b)
      (hr : ∀ a, R' a → EntryTouches n a) (hp : ps' ⊆ .mgmt :: ps) : Chg (EntryTouches n) (Parts (.mgmt :: ps)) (fun _ => True) a b :=
    hab.mono hr (fun _ hp' => hp hp') fun _ _ => trivial
  have hmark := hmono (chg_marked (s := s) (dt := dt) (n := n)) (fun a ha => .inr (.inl ha)) (List.nil_subset _)
  have hact := hmono hc (fun a ha => .inr (.inr ⟨(hR a ha).1, .inl (hR a ha).2⟩)) (List.subset_cons_self _ _)
  have hend := hmono (chg_schedDone (x := z) (n := n) (r := if (s.advance dt).schedLate n = 0 then 1 else 2) (sev := 0) (acted := true))
    (fun a ha => by
      rcases ha with rfl | rfl | rfl
      · exact .inl rfl
      · exact .inr (.inl rfl)
      · exact .inr (.inr ⟨by decide, by decide⟩)) (by simp)
  refine answers_onlyDue h (schedEval_done h hl hz) ((hmark.trans hact).trans hend) (by simp [ht]) ?_
    (hP (entryActed_done h hc (keepsEntry_low fun a ha => (hR a ha).2) (by split <;> omega)))
  rw [offset_of_kept schedDone_kept, ho]
  rfl

end

/-! ### Ticks (R465 to R468) -/

theorem mem_schedRegs {n a : Nat} (h : a = A.TBL_SCHED_W0 n ∨ a = A.TBL_SCHED_W3 n ∨ a = A.MGMT_EVT ∨ a ∈ timeRegs) : a ∈ schedRegs n := by
  rcases h with rfl | rfl | rfl | h
  · exact List.mem_append_right _ List.mem_cons_self
  · exact List.mem_append_right _ (List.mem_cons_of_mem _ List.mem_cons_self)
  · exact List.mem_append_left _ (by decide)
  · exact List.mem_append_left _ h

section
variable {s z : State} {dt n : Nat}

/-- The frame of an entry's action: the action's registers besides the entry's. -/
theorem chg_entryDone {R : Nat → Prop} {l : List Nat} {r sev : Nat} {acted : Bool} (hc : Chg R (Parts [.mgmt]) NoMem (s.marked dt n) z)
    (hl : ∀ a, R a → a ∈ l) (hs : schedRegs n ⊆ l) : Chg (Listed l) (Parts [.time, .clk, .mgmt]) NoMem s (z.schedDone n r sev acted) := by
  have hp {p : Part} (h : Parts [.mgmt] p) : Parts [.time, .clk, .mgmt] p := by
    rw [Parts, List.mem_singleton] at h
    subst h
    simp
  refine ((chg_ticked.mono (fun a ha => ?_) (fun _ h => h) fun _ h => h).trans
    (chg_marked.mono (fun a ha => .inl (hs (mem_schedRegs (.inr (.inl ha))))) (fun p h => absurd h (by simp)) fun _ h => h)).trans
    ((hc.mono (fun a ha => .inl (hl a ha)) (fun _ => hp) fun _ h => h).trans
      (chg_schedDone.mono (fun a ha => .inl (hs (mem_schedRegs (by tauto)))) (fun _ => hp) fun _ h => h))
  exact ha.imp_left fun h => hs (mem_schedRegs (.inr (.inr (.inr h))))

theorem answers_schedulerTick_idle (h : s.fld F.MGMT_RTC_STATUS_SRC = 0 ∨ s.mgmt.started = false) :
    Answers (.schedulerTick dt) s fun t => Framed timeRegs [.time, .clk, .mgmt] s t :=
  have hframe := chg_elapsed_time s dt fun _ h => h
  answers_effect _ rfl (schedTick_idle h) hframe hframe.framed

theorem answers_schedulerTick_none (hsrc : 2 ≤ s.fld F.MGMT_RTC_STATUS_SRC) (hs : s.mgmt.started = true)
    (hdue : ∀ k < 64, (s.advance dt).schedDue k = false) :
    Answers (.schedulerTick dt) s fun t =>
      t.mgmt.rtcSec = t.time.tb / secU ∧ t.mgmt.rtcTick = t.time.tb % secU ∧ Framed timeRegs [.time, .clk, .mgmt] s t := by
  have heff : (s.fresh.advance dt).schedTick = s.ticked dt := by
    rw [schedTick_eq (by omega) hs]
    refine forN_induction (p := fun t => t = s.ticked dt) 64 _ (fun k hk t ht => ?_) rfl
    rw [ht]
    unfold State.schedEval
    rw [schedDue_ticked, hdue k hk]
    rfl
  have hset : s.ticked dt = (s.fresh.advance dt).updMgmt fun m => { m with
      rtcSec := (s.fresh.advance dt).time.tb / secU, rtcTick := (s.fresh.advance dt).time.tb % secU } := by
    unfold State.ticked
    rw [Nat.ble_eq_true_of_le hsrc, State.when_true]
  refine answers_effect _ rfl heff chg_ticked ⟨?_, ?_, chg_ticked.framed⟩
  · rw [State.seal_mgmt, State.seal_time, ticked_time, hset]
    rfl
  · rw [State.seal_mgmt, State.seal_time, ticked_time, hset]
    rfl

/-- An entry with no action of its own (R467). -/
theorem answers_schedulerTick_plain (h : OnlyDue s dt n) (hk : s.fld (F.TBL_SCHED_W0_KIND n) = 0 ∨ 8 ≤ s.fld (F.TBL_SCHED_W0_KIND n))
    (hl : (s.advance dt).schedLate n ≤ 3600) :
    Answers (.schedulerTick dt) s fun t =>
      EntryActed dt n (if (s.advance dt).schedLate n = 0 then 1 else 2) s t ∧ Framed (schedRegs n) [.time, .clk, .mgmt] s t := by
  have hact : (s.marked dt n).schedAct n = (.done, s.marked dt n) := schedAct_none (by rwa [marked_w0 rfl])
  have hc : Chg (fun _ => False) (Parts [.mgmt]) NoMem (s.marked dt n) (s.marked dt n) := Chg.refl
  exact answers_entryDone h hl hact hc (fun _ h => h.elim) (by simp) rfl fun ha =>
    ⟨ha, (chg_entryDone hc (fun _ h => h.elim) (List.Subset.refl _)).framed⟩

/-- A run begun in RUN. -/
def State.runBegun (w : State) : State :=
  (((w.clearRegs (A.TBL_PATH_W0 0) (A.TBL_PATH_W0 128)).updProof fun x => { x with
    number := (x.number + 1) % 2 ^ 32, startUp := w.time.up, woke := false, path := none, swept := 0, failing := 0, paths := [] }).set
      F.PROOF_RUN_STATUS_STATE 1).set F.PROOF_RUN_STATUS_ABORTS 0

theorem runStart_eq {w : State} (hst : w.modState = stRun) (hrun : w.runOn = false) : w.runStart 4 = w.runBegun := by
  unfold State.runStart
  rw [hst, hrun]
  rfl

theorem chg_runBegun (w : State) :
    Chg (fun a => a = A.PROOF_RUN_STATUS ∨ A.TBL_PATH_W0 0 ≤ a ∧ a < A.TBL_PATH_W0 128) (Parts [.proof]) NoMem w w.runBegun :=
  have hclear : Chg (fun a => a = A.PROOF_RUN_STATUS ∨ A.TBL_PATH_W0 0 ≤ a ∧ a < A.TBL_PATH_W0 128) (Parts [.proof]) NoMem w
      (w.clearRegs (A.TBL_PATH_W0 0) (A.TBL_PATH_W0 128)) := Chg.refl.clearRegs _ _ fun _ h1 h2 => .inr ⟨h1, h2⟩
  ((hclear.proof _ List.mem_cons_self).set _ _ (.inl rfl)).set _ _ (.inl rfl)

theorem runBegun_status (w : State) : w.runBegun.fld F.PROOF_RUN_STATUS_STATE = 1 :=
  (State.fld_set_free _ (by decide) _).trans (State.fld_set_same _ (by decide) _)

theorem runBegun_number (w : State) : w.runBegun.proof.number = (w.proof.number + 1) % 2 ^ 32 := by
  unfold State.runBegun
  rw [State.set_proof, State.set_proof]
  rfl

/-- An entry that starts the nightly run. -/
theorem answers_schedulerTick_run (h : OnlyDue s dt n) (hk : s.fld (F.TBL_SCHED_W0_KIND n) = 1) (hl : (s.advance dt).schedLate n = 0)
    (hst : s.modState = 4) (hrun : s.runOn = false) :
    Answers (.schedulerTick dt) s fun t =>
      EntryActed dt n 1 s t ∧ t.fld F.PROOF_RUN_STATUS_STATE = 1 ∧ t.proof.number = (s.proof.number + 1) % 2 ^ 32 ∧ MemKept s t := by
  have hfld {f : Fld} (h3 : f.adr < A.TBL_SCHED_W0 0) (ht : f.adr ∉ timeRegs) : (s.marked dt n).fld f = s.fld f := by
    rw [fld_marked (by simp only [A.TBL_SCHED_W0, A.TBL_SCHED_W3] at h3 ⊢; omega), fld_ticked ht]
  have hst' : (s.marked dt n).modState = stRun := (hfld (by decide) (by decide)).trans hst
  have hrun' : (s.marked dt n).runOn = false := by
    rw [← hrun]
    exact congrArg (fun r => Nat.ble 1 r && Nat.ble r 3) (hfld (f := F.PROOF_RUN_STATUS_STATE) (by decide) (by decide))
  have hact : (s.marked dt n).schedAct n = (.done, (s.marked dt n).runBegun) := by
    rw [schedAct_run ((marked_w0 rfl).trans hk) hst' hrun', runStart_eq hst' hrun']
  have hc := chg_runBegun (s.marked dt n)
  have hproof : (s.marked dt n).proof = s.proof := (State.set_proof _ _ _).trans (chg_ticked.part .proof (by simp))
  refine answers_entryDone h (by omega) hact hc (fun a ha => ?_) (by simp) ?_ fun ha => ?_
  · have hr : a = 0xb0010 ∨ 0x17c000 ≤ a ∧ a < 0x17c800 := ha
    simp only [calendarRegs, List.mem_cons, List.not_mem_nil, or_false, A.MGMT_TZ_STD, A.MGMT_TZ_DST, A.CLK_TOD_CFG, A.TBL_SCHED_W0]
    omega
  · rw [hc.part .mgmt (by simp)]
  · rw [if_pos hl] at ha ⊢
    refine ⟨ha, ?_, ?_, fun a => ?_⟩
    · rw [State.fld_seal _ _ (by decide), fld_schedDone_low (by decide) (by decide)]
      exact runBegun_status _
    · rw [State.seal_proof, chg_schedDone.part .proof (by simp), runBegun_number, hproof]
    · rw [State.byte_seal, chg_schedDone.byte a id, hc.byte a id, chg_marked.byte a id, chg_ticked.byte a id]

theorem requestSave_offset (w : State) : w.requestSave.mgmt.utcOffset = w.mgmt.utcOffset := by
  unfold State.requestSave
  split
  · rw [State.set_mgmt]
  · rw [State.set_mgmt]
    rfl

/-- An entry that saves the configuration. -/
theorem answers_schedulerTick_save (h : OnlyDue s dt n) (hk : s.fld (F.TBL_SCHED_W0_KIND n) = 7) (hl : (s.advance dt).schedLate n = 0) :
    Answers (.schedulerTick dt) s fun t =>
      EntryActed dt n 1 s t ∧ t.on F.MGMT_CFG_STATUS_BUSY = true ∧
      Framed (A.MGMT_CFG_STATUS :: schedRegs n) [.time, .clk, .mgmt] s t := by
  have hact : (s.marked dt n).schedAct n = (.done, (s.marked dt n).requestSave) := schedAct_save ((marked_w0 rfl).trans hk)
  have hc := requestSave_chg (s.marked dt n)
  refine answers_entryDone h (by omega) hact hc (fun a ha => ?_) (by simp) ?_ fun ha => ?_
  · rw [ha]
    decide
  · exact requestSave_offset _
  · rw [if_pos hl] at ha ⊢
    refine ⟨ha, ?_, (chg_entryDone hc (fun a ha => ?_) (List.subset_cons_self _ _)).framed⟩
    · rw [State.on, State.fld_seal _ _ (by decide),
        fld_schedDone_low (by decide) (by decide)]
      exact requestSave_busy _
    · rw [ha]
      exact List.mem_cons_self

/-- An entry passed by more than an hour is missed (R468). -/
theorem answers_schedulerTick_missed (h : OnlyDue s dt n) (hl : 3600 < (s.advance dt).schedLate n) :
    Answers (.schedulerTick dt) s fun t =>
      t.fld (F.TBL_SCHED_W3_RESULT n) = 3 ∧ t.fld (F.TBL_SCHED_W3_LAST_DAY n) = (s.advance dt).dayNo ∧
      t.on F.MGMT_EVT_SCHED_MISSED = true ∧ Framed (schedRegs n) [.time, .clk, .mgmt] s t := by
  set z := (s.marked dt n).event F.MGMT_EVT_SCHED_MISSED with hz
  have hat : (s.ticked dt).schedEval n = z.schedDone n 3 2 false := by
    obtain ⟨-, -, -, hdue, -⟩ := h
    unfold State.schedEval
    rw [schedDue_ticked, hdue, schedLate_ticked, if_pos rfl]
    exact if_pos hl
  have hc : Chg (fun a => a = A.MGMT_EVT) (Parts [.mgmt]) NoMem (s.marked dt n) z := Chg.refl.event _ rfl
  have htouch {a : Nat} (ha : a = A.TBL_SCHED_W0 n ∨ a = A.TBL_SCHED_W3 n ∨ a = A.MGMT_EVT) : EntryTouches n a := by
    rcases ha with rfl | rfl | rfl
    · exact .inl rfl
    · exact .inr (.inl rfl)
    · exact .inr (.inr ⟨by decide, by decide⟩)
  have hsame : Chg (EntryTouches n) (Parts [.mgmt]) NoMem (s.ticked dt) (z.schedDone n 3 2 false) :=
    ((chg_marked.mono (fun a ha => htouch (.inr (.inl ha))) (fun _ h => absurd h (by simp)) fun _ h => h).trans
      (hc.mono (fun a ha => htouch (.inr (.inr ha))) (fun _ h => h) fun _ h => h)).trans
      (chg_schedDone.mono (fun a ha => htouch ha) (fun _ h => h) fun _ h => h)
  have hevt {g : Fld} (hg : g.adr = A.TBL_SCHED_W3 n) : z.fld g = (s.marked dt n).fld g :=
    State.fld_event_ne (by rw [hg]; simp only [A.TBL_SCHED_W3, A.MGMT_EVT]; omega)
  have hseal {f : Fld} (hf : 0x100000 ≤ f.adr) : (s.seal (z.schedDone n 3 2 false)).fld f = (z.schedDone n 3 2 false).fld f :=
    State.fld_seal_of (entry_notMem hf)
  refine answers_onlyDue h hat hsame (by simp) ?_ ⟨?_, ?_, ?_, (chg_entryDone hc (fun a ha => mem_schedRegs (by tauto)) (List.Subset.refl _)).framed⟩
  · exact (offset_of_kept schedDone_kept).trans rfl
  · rw [hseal (by simp only [A.TBL_SCHED_W3]; omega), schedDone_result]
  · rw [hseal (by simp only [A.TBL_SCHED_W3]; omega), schedDone_lastDay, hevt rfl, marked_lastDay]
  · rw [State.on, State.fld_seal _ _ (by decide), schedDone_event (by decide) rfl]
    exact State.on_event_same _ (by decide)

theorem refuse_kept (w : State) (c y : Nat) : (w.refuse c y).mgmt.kept = w.mgmt.kept := by
  unfold State.refuse
  rw [log_kept, State.set_mgmt, State.set_mgmt]

/-- An action that its target refuses is kept for a retry (R467): here QUIET in READY. -/
theorem answers_schedulerTick_refused (h : OnlyDue s dt n) (hk : s.fld (F.TBL_SCHED_W0_KIND n) = 4) (hl : (s.advance dt).schedLate n ≤ 3600)
    (hst : s.modState = 3) (hr : s.mgmt.schedRetry = []) :
    Answers (.schedulerTick dt) s fun t =>
      t.mgmt.schedRetry = [(n, s.time.up + dt)] ∧ t.fld (F.TBL_SCHED_W3_RESULT n) = s.fld (F.TBL_SCHED_W3_RESULT n) ∧
      t.on F.SYS_MOD_STATE_CMD_REFUSED = true ∧ t.modState = 3 ∧
      Framed (A.SYS_MOD_STATE :: schedRegs n) [.time, .clk, .mgmt] s t := by
  have hst' : (s.marked dt n).modState = stReady :=
    ((fld_marked (by simp only [A.SYS_MOD_STATE, A.TBL_SCHED_W3]; omega)).trans (fld_ticked (by decide))).trans hst
  set z := (s.marked dt n).refuse 5 1 with hz
  have hact : (s.marked dt n).schedAct n = (.refused, z) := schedAct_quiet ((marked_w0 rfl).trans hk) hst'
  set y := z.updMgmt fun m => { m with schedRetry := m.schedRetry.filter (fun r => r.1 != n) ++ [(n, s.time.up + dt)] } with hy
  have hup : (s.marked dt n).time.up = s.time.up + dt := by
    rw [State.marked, State.set_time, ticked_up]
  have hat : (s.ticked dt).schedEval n = y := by
    rw [schedEval_fire h hl]
    unfold State.schedFire
    dsimp only
    rw [show (s.ticked dt).set (F.TBL_SCHED_W3_LAST_DAY n) (s.ticked dt).dayNo = s.marked dt n from rfl, hact, hup]
  have hc : Chg (fun a => a = A.SYS_MOD_STATE ∨ a = A.MGMT_EVT) (Parts [.mgmt]) NoMem (s.marked dt n) y :=
    (((Chg.refl.set _ _ (.inl rfl)).set _ _ (.inl rfl)).log _ _ _ _ (.inr rfl) List.mem_cons_self).updMgmt _ List.mem_cons_self
  have hkept : z.mgmt.kept = (s.marked dt n).mgmt.kept := refuse_kept _ _ _
  have hretry : z.mgmt.schedRetry = [] := by
    rw [retry_of_kept hkept, State.marked, State.set_mgmt, ticked_mgmt.2, hr]
  have hoffset : y.mgmt.utcOffset = (s.ticked dt).mgmt.utcOffset := by
    change z.mgmt.utcOffset = _
    rw [offset_of_kept hkept, State.marked, State.set_mgmt]
  have hsame : Chg (EntryTouches n) (Parts [.mgmt]) NoMem (s.ticked dt) y := by
    refine (chg_marked.mono (fun a ha => .inr (.inl ha)) (fun _ h => absurd h (by simp)) fun _ h => h).trans
      (hc.mono (fun a ha => .inr (.inr ?_)) (fun _ h => h) fun _ h => h)
    rcases ha with rfl | rfl <;> decide
  have hframe : Chg (Listed (A.SYS_MOD_STATE :: schedRegs n)) (Parts [.time, .clk, .mgmt]) NoMem s y := by
    refine (chg_ticked.mono (fun a ha => ha.imp_left fun h => List.mem_cons_of_mem _ (mem_schedRegs (.inr (.inr (.inr h))))) (fun _ h => h) fun _ h => h).trans
      ((chg_marked.mono (fun a ha => .inl (List.mem_cons_of_mem _ (mem_schedRegs (.inr (.inl ha))))) (fun _ h => absurd h (by simp)) fun _ h => h).trans
        (hc.mono (fun a ha => .inl ?_) (fun p hp => ?_) fun _ h => h))
    · rcases ha with rfl | rfl
      · exact List.mem_cons_self
      · exact List.mem_cons_of_mem _ (mem_schedRegs (.inr (.inr (.inl rfl))))
    · rw [Parts, List.mem_singleton] at hp
      subst hp
      simp
  have hstate {g : Fld} (hg : F.MGMT_EVT_LOG_LOST.free g = true) :
      y.fld g = (((s.marked dt n).set F.SYS_MOD_STATE_CMD_REFUSED 1).set F.SYS_MOD_STATE_REFUSE_WHY 1).fld g := fld_log_free _ _ _ _ hg
  refine answers_onlyDue h hat hsame (by simp) hoffset ⟨?_, ?_, ?_, ?_, hframe.framed⟩
  · rw [State.seal_mgmt, hy]
    change z.mgmt.schedRetry.filter (fun r => r.1 != n) ++ [(n, s.time.up + dt)] = _
    rw [hretry]
    rfl
  · rw [State.fld_seal_of (entry_notMem (by simp only [A.TBL_SCHED_W3]; omega))]
    refine (State.fld_eq_of_reg (hc.reg _ ?_)).trans marked_result
    simp only [A.TBL_SCHED_W3, A.SYS_MOD_STATE, A.MGMT_EVT]
    omega
  · rw [State.on, State.fld_seal _ _ (by decide), hstate (by decide), State.fld_set_free _ (by decide), State.fld_set_same _ (by decide)]
    rfl
  · rw [State.modState, State.fld_seal _ _ (by decide), hstate (by decide), State.fld_set_free _ (by decide), State.fld_set_free _ (by decide)]
    exact hst'

/-! ### Retries (R467) -/

theorem retry_elapsed : (s.fresh.advance dt).mgmt.schedRetry = s.mgmt.schedRetry := by
  obtain ⟨_, _, _, _, h⟩ := advance_mgmt s.fresh dt
  rw [h]
  rfl

theorem answers_schedulerRetry_none (hr : s.mgmt.schedRetry = []) :
    Answers (.schedulerRetry n dt) s fun t => Framed timeRegs [.time, .clk, .mgmt] s t := by
  have heff : (s.fresh.advance dt).schedAgain n = s.fresh.advance dt := by
    unfold State.schedAgain
    rw [retry_elapsed, hr]
    rfl
  have hframe := chg_elapsed_time s dt fun _ h => h
  exact answers_effect _ rfl heff hframe hframe.framed

/-- The entry's retry is taken off the list. -/
def State.retryDropped (w : State) (n : Nat) : State :=
  w.updMgmt fun m => { m with schedRetry := m.schedRetry.filter fun r => r.1 != n }

theorem retryDropped_retry {w : State} {up : Nat} (h : w.mgmt.schedRetry = [(n, up)]) : (w.retryDropped n).mgmt.schedRetry = [] := by
  have hfilter : w.mgmt.schedRetry.filter (fun r => r.1 != n) = [] := by
    rw [h]
    simp
  exact hfilter

theorem schedAgain_of {w : State} {up : Nat} (h : w.mgmt.schedRetry = [(n, up)]) :
    w.schedAgain n = match w.schedAct n with
      | (.done, x) => (x.retryDropped n).schedDone n 1 0 true
      | (.ignored, x) => (x.retryDropped n).schedDone n 5 0 true
      | (.refused, x) => if up + 3600 * secU ≤ x.time.up then (x.retryDropped n).schedDone n 4 2 true else x := by
  unfold State.schedAgain
  rw [h]
  simp only [List.find?_cons, beq_self_eq_true]
  rfl

theorem chg_schedDone_retry {w x : State} {l : List Nat} {r sev : Nat} (hc : Chg (Listed l) (Parts [.time, .clk, .mgmt]) NoMem w x)
    (hs : schedRegs n ⊆ l) : Chg (Listed l) (Parts [.time, .clk, .mgmt]) NoMem w ((x.retryDropped n).schedDone n r sev true) :=
  (hc.updMgmt _ (by simp)).trans (chg_schedDone.mono (fun a ha => .inl (hs (mem_schedRegs (by tauto))))
    (fun p hp => by
      rw [Parts, List.mem_singleton] at hp
      subst hp
      simp) fun _ h => h)

theorem chg_elapsed_sched {l : List Nat} (hs : schedRegs n ⊆ l) : Chg (Listed l) (Parts [.time, .clk, .mgmt]) NoMem s (s.fresh.advance dt) :=
  chg_elapsed_time s dt fun _ h => hs (mem_schedRegs (.inr (.inr (.inr h))))

theorem seal_schedDone_result {w x : State} {r sev : Nat} {acted : Bool} (hr : r < 16) :
    (w.seal (x.schedDone n r sev acted)).fld (F.TBL_SCHED_W3_RESULT n) = r := by
  rw [State.fld_seal_of (entry_notMem (by simp only [A.TBL_SCHED_W3]; omega)), schedDone_result]
  exact Nat.mod_eq_of_lt hr

theorem elapsed_w0 {f : Fld} (h : f.adr = A.TBL_SCHED_W0 n) : (s.fresh.advance dt).fld f = s.fld f :=
  State.fld_eq_of_reg (entry_elapsed s dt _ (by rw [h]; simp only [A.TBL_SCHED_W0]; omega))

theorem answers_schedulerRetry_plain {up : Nat} (hr : s.mgmt.schedRetry = [(n, up)]) (hk : s.fld (F.TBL_SCHED_W0_KIND n) = 0) :
    Answers (.schedulerRetry n dt) s fun t =>
      t.mgmt.schedRetry = [] ∧ t.fld (F.TBL_SCHED_W3_RESULT n) = 1 ∧ Framed (schedRegs n) [.time, .clk, .mgmt] s t := by
  have hret : (s.fresh.advance dt).mgmt.schedRetry = [(n, up)] := retry_elapsed.trans hr
  have heff : (s.fresh.advance dt).schedAgain n = ((s.fresh.advance dt).retryDropped n).schedDone n 1 0 true := by
    rw [schedAgain_of hret, schedAct_none (.inl ((elapsed_w0 rfl).trans hk))]
  have hframe := chg_schedDone_retry (n := n) (r := 1) (sev := 0) (chg_elapsed_sched (s := s) (dt := dt) (List.Subset.refl (schedRegs n)))
    (List.Subset.refl _)
  refine answers_effect _ rfl heff hframe ⟨?_, seal_schedDone_result (by decide), hframe.framed⟩
  rw [State.seal_mgmt, retry_of_kept schedDone_kept]
  exact retryDropped_retry hret

/-- An action that its target refuses for an hour fails (R467). -/
theorem answers_schedulerRetry_refused {up : Nat} (hr : s.mgmt.schedRetry = [(n, up)]) (hk : s.fld (F.TBL_SCHED_W0_KIND n) = 4) (hst : s.modState = 3) :
    Answers (.schedulerRetry n dt) s fun t =>
      (up + 3600 * secU ≤ s.time.up + dt → t.mgmt.schedRetry = [] ∧ t.fld (F.TBL_SCHED_W3_RESULT n) = 4) ∧
      (s.time.up + dt < up + 3600 * secU →
        t.mgmt.schedRetry = [(n, up)] ∧ t.fld (F.TBL_SCHED_W3_RESULT n) = s.fld (F.TBL_SCHED_W3_RESULT n)) ∧
      Framed (A.SYS_MOD_STATE :: schedRegs n) [.time, .clk, .mgmt] s t := by
  set w := s.fresh.advance dt with hw
  have hret : w.mgmt.schedRetry = [(n, up)] := retry_elapsed.trans hr
  have hst' : w.modState = stReady := (State.fld_eq_of_reg (reg_elapsed s dt (by decide))).trans hst
  have hkept : (w.refuse 5 1).mgmt.kept = w.mgmt.kept := refuse_kept _ _ _
  have hretry : (w.refuse 5 1).mgmt.schedRetry = [(n, up)] := (retry_of_kept hkept).trans hret
  have hup : (w.refuse 5 1).time.up = s.time.up + dt := by
    unfold State.refuse
    rw [State.log_time, State.set_time, State.set_time]
    exact advance_up s.fresh dt
  have hs : schedRegs n ⊆ A.SYS_MOD_STATE :: schedRegs n := List.subset_cons_self _ _
  have hframe : Chg (Listed (A.SYS_MOD_STATE :: schedRegs n)) (Parts [.time, .clk, .mgmt]) NoMem s (w.refuse 5 1) :=
    (((chg_elapsed_sched hs).set _ _ (.inl List.mem_cons_self)).set _ _ (.inl List.mem_cons_self)).log _ _ _ _
      (.inl (hs (mem_schedRegs (.inr (.inr (.inl rfl)))))) (by simp)
  have heff : w.schedAgain n =
      if up + 3600 * secU ≤ s.time.up + dt then ((w.refuse 5 1).retryDropped n).schedDone n 4 2 true else w.refuse 5 1 := by
    rw [schedAgain_of hret, schedAct_quiet ((elapsed_w0 rfl).trans hk) hst', ← hup]
  by_cases hlate : up + 3600 * secU ≤ s.time.up + dt
  · rw [if_pos hlate] at heff
    have hframe' := chg_schedDone_retry (n := n) (r := 4) (sev := 2) hframe hs
    refine answers_effect _ rfl heff hframe' ⟨fun _ => ⟨?_, seal_schedDone_result (by decide)⟩, fun h => absurd h (by omega), hframe'.framed⟩
    rw [State.seal_mgmt, retry_of_kept schedDone_kept]
    exact retryDropped_retry hretry
  · rw [if_neg hlate] at heff
    refine answers_effect _ rfl heff hframe ⟨fun h => absurd h hlate, fun _ => ⟨?_, ?_⟩, hframe.framed⟩
    · rw [State.seal_mgmt, hretry]
    · rw [State.fld_seal_of (entry_notMem (by simp only [A.TBL_SCHED_W3]; omega)), State.refuse,
        State.fld_log_ne _ _ _ _ (by simp only [A.TBL_SCHED_W3, A.MGMT_EVT]; omega),
        State.fld_set_ne _ _ (by simp only [A.TBL_SCHED_W3, A.SYS_MOD_STATE]; omega),
        State.fld_set_ne _ _ (by simp only [A.TBL_SCHED_W3, A.SYS_MOD_STATE]; omega)]
      exact State.fld_eq_of_reg (entry_elapsed s dt _ (by simp only [A.TBL_SCHED_W3]; omega))

theorem scheduler : Scheduler :=
  ⟨fun _ _ h => answers_schedulerTick_idle h,
    fun _ _ hsrc hs hdue => answers_schedulerTick_none hsrc hs hdue,
    fun _ _ _ h hk hl => answers_schedulerTick_plain h hk hl,
    fun _ _ _ h hk hl hst hrun => answers_schedulerTick_run h hk hl hst hrun,
    fun _ _ _ h hk hl => answers_schedulerTick_save h hk hl,
    fun _ _ _ h hl => answers_schedulerTick_missed h hl,
    fun _ _ _ h hk hl hst hr => answers_schedulerTick_refused h hk hl hst hr,
    fun _ _ _ hr => answers_schedulerRetry_none hr,
    fun _ _ _ _ _ hr hk => answers_schedulerRetry_plain hr hk,
    fun _ _ _ _ _ hr hk hst => answers_schedulerRetry_refused hr hk hst⟩

end

/-- Settles O57: the scheduler's ticks and retries, and the log and the lifetime counters. -/
theorem schedulerAndLog : Obligations.SchedulerAndLog := ⟨scheduler, logAndLifetimeCounters⟩

end Sys2Proof.Machine
end

section

/-! PROOFS. SCP sessions (R428 to R430, R475), and O55. -/

namespace Sys2Proof.Machine

/-! ### What the end of a step puts out -/

theorem updScp_out (w : State) (f : ScpS → ScpS) : (w.updScp f).out = w.out := rfl

theorem mem_settleMsix_scp (s : State) (n : Nat) {r : ScpReply} (h : Out.scp r ∈ (s.settleMsix n).out) : Out.scp r ∈ s.out := by
  unfold State.settleMsix at h
  dsimp only at h
  split at h
  · exact h
  · rcases List.mem_append.mp h with h | h
    · exact h
    · simp at h

/-- The end of a step puts out no reply. -/
theorem mem_out_of_seal {s u : State} {r : ScpReply} (h : Out.scp r ∈ (s.seal u).out) : Out.scp r ∈ u.out := by
  have hsettle : Out.scp r ∈ u.settle.out := h
  unfold State.settle at hsettle
  dsimp only at hsettle
  have h1 : u.settleFault.out = u.out := by simp [State.settleFault, State.when]; split <;> simp
  have h2 (v : State) : v.settleAlm.out = v.out := by unfold State.settleAlm; split <;> rfl
  have h3 (v : State) (a n : Nat) : (v.keepWord a n).out = v.out := by unfold State.keepWord; split <;> simp
  have hout := mem_settleMsix_scp _ 0 (mem_settleMsix_scp _ 1 hsettle)
  rwa [h3, h3, h2, h1] at hout

theorem no_reply {s u : State} (h : u.out = []) (r : ScpReply) : Out.scp r ∉ (s.seal u).out := fun hr => by
  have := mem_out_of_seal hr
  rw [h] at this
  exact absurd this List.not_mem_nil

/-! ### Sessions -/

section
variable {s : State} {id : Nat} {f : Session → Session} {x : Session}

/-- An update of a session that keeps its ID finds it again. -/
theorem session_upd (hf : ∀ y, (f y).id = y.id) (h : s.session id = some x) : (s.sessionUpd id f).session id = some (f x) := by
  have hid : x.id = id := by simpa using List.find?_some h
  have hfind (l : List Session) : (l.map fun y => if y.id = id then f y else y).find? (fun y => y.id == id) =
      (l.find? fun y => y.id == id).map f := by
    induction l with
    | nil => rfl
    | cons y l ih =>
      rw [List.map_cons, List.find?_cons, List.find?_cons]
      by_cases hy : y.id = id
      · rw [if_pos hy, hf, hy, beq_self_eq_true]
        rfl
      · rw [if_neg hy, beq_eq_false_iff_ne.mpr hy]
        exact ih
  exact (hfind _).trans (congrArg (Option.map f) h)

theorem sessionUpd_length : (s.sessionUpd id f).scp.sessions.length = s.scp.sessions.length := List.length_map _

/-- A session that holds nothing only leaves the list when it closes. -/
theorem closeSession_eq (h : s.scp.holds = []) :
    s.closeSession id = s.updScp fun q => { q with sessions := q.sessions.filter fun y => y.id != id } := by
  unfold State.closeSession
  rw [h]
  rfl

theorem session_seal {u : State} (id : Nat) : (s.seal u).session id = u.session id := by
  unfold State.session
  rw [State.seal_scp]

/-- The sessions' lists alone: what an answer may change of SCP. -/
structure ScpSame (s t : State) : Prop where
  holds : t.scp.holds = s.scp.holds
  queue : t.scp.queue = s.scp.queue
  tdmOwners : t.scp.tdmOwners = s.scp.tdmOwners
  sessions : t.scp.sessions.length = s.scp.sessions.length

theorem ScpSame.upd {t : State} (h : ScpSame s t) : ScpSame s (t.sessionUpd id f) :=
  ⟨h.holds, h.queue, h.tdmOwners, sessionUpd_length.trans h.sessions⟩

theorem ScpSame.outs {t : State} (h : ScpSame s t) (o : List Out) : ScpSame s { t with out := o } := ⟨h.holds, h.queue, h.tdmOwners, h.sessions⟩

theorem ScpSame.send {t : State} (h : ScpSame s t) (r : ScpReply) : ScpSame s (t.scpSend r) := (h.outs _).upd

theorem answerOnly {u : State} (hc : Chg (Listed timeRegs) (Parts [.time, .clk, .mgmt, .scp]) NoMem s u) (h : ScpSame s u) : AnswerOnly s (s.seal u) := by
  unfold AnswerOnly
  rw [State.seal_scp]
  exact ⟨hc.framed, h.holds, h.queue, h.tdmOwners, h.sessions⟩

theorem Chg.sessionUpd {R : Nat → Prop} {P : Part → Prop} {M : Nat → Prop} {t : State} (h : Chg R P M s t) (hp : P .scp) (id : Nat) (f : Session → Session) :
    Chg R P M s (t.sessionUpd id f) := h.scp _ hp

theorem Chg.scpSend {R : Nat → Prop} {P : Part → Prop} {M : Nat → Prop} {t : State} (h : Chg R P M s t) (hp : P .scp) (r : ScpReply) :
    Chg R P M s (t.scpSend r) := (h.out _).sessionUpd hp _ _

theorem scpSend_out {t : State} (r : ScpReply) : Out.scp r ∈ (t.scpSend r).out := List.mem_append_right _ (List.mem_singleton.mpr rfl)

end

/-! ### A message of an open session -/

/-- The session whose message was taken, with its reception noted. -/
def State.heard (v : State) (m : ScpMsg) : State :=
  v.sessionUpd m.session fun x => { x with last := v.time.up }

section
variable {s v : State} {dt code : Nat} {payload : List Nat} {m : ScpMsg} {x : Session} {f : Session → State → State}

theorem see_id (y : Session) (seq now : Nat) : (y.see seq now).id = y.id := by
  simp only [Session.see, apply_ite Session.id, ite_self]

theorem see_last (y : Session) (seq now : Nat) : (y.see seq now).last = now := by
  simp only [Session.see, apply_ite Session.last, ite_self]

theorem see_level (y : Session) (seq now : Nat) : (y.see seq now).level = y.level := by
  simp only [Session.see, apply_ite Session.level, ite_self]

/-- A message with a good tag and a new sequence number acts. -/
theorem scpTake_new (hu : v.unitOn 3 = true) (hm : m.version = 1) (hx : v.session m.session = some x)
    (hs : scpSigned m x.key code payload = true) (hf : x.fresh m.seq = true) :
    v.scpTake m code payload f = f x ((v.heard m).sessionUpd m.session fun y => y.see m.seq v.time.up) := by
  unfold State.scpTake
  rw [hu, hm, hx, Option.filter_some, if_pos hs]
  dsimp only
  rw [hf]
  rfl

/-- A repeated message is answered from the cache. -/
theorem scpTake_repeat {r : ScpReply} (hu : v.unitOn 3 = true) (hm : m.version = 1) (hx : v.session m.session = some x)
    (hs : scpSigned m x.key code payload = true) (hf : x.fresh m.seq = false) (hr : x.cache.find? (fun r => r.seq == m.seq) = some r) :
    v.scpTake m code payload f = { v.heard m with out := (v.heard m).out ++ [Out.scp r] } := by
  unfold State.scpTake
  rw [hu, hm, hx, Option.filter_some, if_pos hs]
  dsimp only
  rw [hf, hr]
  rfl

/-- A message without a good tag is counted. -/
theorem scpTake_bad (hu : v.unitOn 3 = true) (hm : m.version = 1) (h : ∀ x ∈ v.session m.session, scpSigned m x.key code payload = false) :
    v.scpTake m code payload f = v.updScp fun q => { q with badTags := q.badTags + 1 } := by
  have hnone : (v.session m.session).filter (fun x => scpSigned m x.key code payload) = none := by
    cases hx : v.session m.session with
    | none => rfl
    | some x => rw [Option.filter_some, h x hx, if_neg Bool.false_ne_true]
  unfold State.scpTake
  rw [hu, hm, hnone]
  rfl

theorem session_elapsed (id : Nat) : (s.fresh.advance dt).session id = s.session id := by
  unfold State.session
  rw [scp_elapsed]

theorem chg_elapsed_scp : Chg (Listed timeRegs) (Parts [.time, .clk, .mgmt, .scp]) NoMem s (s.fresh.advance dt) :=
  Chg.refl.fresh.advance dt (fun _ ha => .inl ha) (by simp) (by simp) (by simp)

theorem scpSame_elapsed : ScpSame s (s.fresh.advance dt) := by
  constructor <;> rw [scp_elapsed]

theorem up_elapsed : (s.fresh.advance dt).time.up = s.time.up + dt := advance_up s.fresh dt

/-- The state in which a new message of an open session acts. -/
def State.taken (s : State) (dt : Nat) (m : ScpMsg) : State :=
  ((s.fresh.advance dt).heard m).sessionUpd m.session fun y => y.see m.seq (s.time.up + dt)

theorem chg_taken : Chg (Listed timeRegs) (Parts [.time, .clk, .mgmt, .scp]) NoMem s (s.taken dt m) := by
  unfold State.taken State.heard
  exact (chg_elapsed_scp.sessionUpd (by simp) _ _).sessionUpd (by simp) _ _

theorem scpSame_taken : ScpSame s (s.taken dt m) := scpSame_elapsed.upd.upd

theorem heard_session (hx : v.session m.session = some x) : (v.heard m).session m.session = some { x with last := v.time.up } :=
  session_upd (fun _ => rfl) hx

theorem session_see {y : Session} {id seq now : Nat} {g : Session → Session} (hg : ∀ z, g z = z.see seq now) (h : v.session id = some y) :
    (v.sessionUpd id g).session id = some (y.see seq now) := by
  rw [← hg y]
  exact session_upd (fun z => by rw [hg z, see_id]) h

theorem taken_session (hx : s.session m.session = some x) :
    ∃ y, (s.taken dt m).session m.session = some y ∧ y.last = s.time.up + dt := by
  have hheard := heard_session (v := s.fresh.advance dt) ((session_elapsed _).trans hx)
  unfold State.taken
  exact ⟨_, session_see (fun _ => rfl) hheard, see_last _ _ _⟩

theorem scpTake_talks (h : Talks s m x code payload) : (s.fresh.advance dt).scpTake m code payload f = f x (s.taken dt m) := by
  obtain ⟨hu, hm, hx, hs, hf, -⟩ := h
  rw [scpTake_new ((State.unitOn_elapsed s dt 3).trans hu) hm ((session_elapsed _).trans hx) hs hf, up_elapsed]
  rfl

theorem scpSend_session {t : State} {y : Session} (r : ScpReply) (hr : r.session = m.session) (hy : t.session m.session = some y) :
    (t.scpSend r).session m.session = some { y with cache := (r :: y.cache).take 8 } := by
  unfold State.scpSend
  rw [hr]
  exact session_upd (s := { t with out := t.out ++ [Out.scp r] }) (fun _ => rfl) hy

theorem answers_scpKeepalive_bad (hu : s.unitOn 3 = true) (hm : m.version = 1) (h : ∀ x ∈ s.session m.session, scpSigned m x.key 3 [] = false) :
    Answers (.scpKeepalive dt m) s fun t =>
      (∀ r, Out.scp r ∉ t.out) ∧ t.scp = { s.scp with badTags := s.scp.badTags + 1 } ∧ Framed timeRegs [.time, .clk, .mgmt, .scp] s t := by
  have hframe : Chg (Listed timeRegs) (Parts [.time, .clk, .mgmt, .scp]) NoMem s
      ((s.fresh.advance dt).updScp fun q => { q with badTags := q.badTags + 1 }) := chg_elapsed_scp.scp _ (by simp)
  refine answers_effect _ rfl (scpTake_bad ((State.unitOn_elapsed s dt 3).trans hu) hm (by rwa [session_elapsed])) hframe
    ⟨fun r => no_reply (State.advance_out _ _) r, ?_, hframe.framed⟩
  rw [State.seal_scp, State.updScp, scp_elapsed]

theorem answers_scpKeepalive (h : Talks s m x 3 []) :
    Answers (.scpKeepalive dt m) s fun t =>
      Replies m 0 [] t ∧ (∃ y, t.session m.session = some y ∧ y.last = s.time.up + dt) ∧ AnswerOnly s t := by
  have hgood : scpGood m x = true := h.2.2.2.2.2
  have heff : (s.fresh.advance dt).scpTake m 3 [] (fun x s => s.scpSend (scpReply m (if scpGood m x then scpOk else scpBad) [])) =
      (s.taken dt m).scpSend (scpReply m 0 []) := by
    rw [scpTake_talks h, hgood]
    rfl
  have hframe := chg_taken (s := s) (dt := dt) (m := m) |>.scpSend (by simp) (scpReply m 0 [])
  obtain ⟨y, hy, hlast⟩ := taken_session (dt := dt) h.2.2.1
  refine answers_effect _ rfl heff hframe ⟨State.mem_seal_out _ _ (scpSend_out _), ⟨_, (session_seal _).trans (scpSend_session _ rfl hy), hlast⟩,
    answerOnly hframe (scpSame_taken.send _)⟩

theorem answers_scpKeepalive_repeat {r : ScpReply} (hu : s.unitOn 3 = true) (hm : m.version = 1) (hx : s.session m.session = some x)
    (hs : scpSigned m x.key 3 [] = true) (hf : x.fresh m.seq = false) (hr : x.cache.find? (fun r => r.seq == m.seq) = some r) :
    Answers (.scpKeepalive dt m) s fun t => Out.scp r ∈ t.out ∧ AnswerOnly s t := by
  have hframe : Chg (Listed timeRegs) (Parts [.time, .clk, .mgmt, .scp]) NoMem s
      { (s.fresh.advance dt).heard m with out := ((s.fresh.advance dt).heard m).out ++ [Out.scp r] } :=
    (chg_elapsed_scp.sessionUpd (by simp) _ _).out _
  exact answers_effect _ rfl (scpTake_repeat ((State.unitOn_elapsed s dt 3).trans hu) hm ((session_elapsed _).trans hx) hs hf hr) hframe
    ⟨State.mem_seal_out _ _ (List.mem_append_right _ (List.mem_singleton.mpr rfl)), answerOnly hframe (scpSame_elapsed.upd.outs _)⟩

theorem sessions_filtered {y : State} {l : List Session} (h : y.scp.sessions = l.filter fun y => y.id != m.session) : y.session m.session = none := by
  unfold State.session
  rw [h, List.find?_eq_none]
  intro z hz hid
  have hne := (List.mem_filter.mp hz).2
  rw [bne, hid] at hne
  exact Bool.false_ne_true hne

/-- An update of one session makes no difference once it is gone. -/
theorem filter_sessionUpd {l : List Session} {id : Nat} {g : Session → Session} (hg : ∀ z, (g z).id = z.id) :
    (l.map fun y => if y.id = id then g y else y).filter (fun y => y.id != id) = l.filter fun y => y.id != id := by
  induction l with
  | nil => rfl
  | cons y l ih =>
    rw [List.map_cons]
    by_cases hy : y.id = id
    · rw [if_pos hy, List.filter_cons_of_neg (by simp [hg, hy]), List.filter_cons_of_neg (by simp [hy]), ih]
    · rw [if_neg hy, List.filter_cons_of_pos (by simp [hy]), List.filter_cons_of_pos (by simp [hy]), ih]

theorem sessions_upd_filter {w : State} {id : Nat} {g : Session → Session} (hg : ∀ z, (g z).id = z.id) :
    (w.sessionUpd id g).scp.sessions.filter (fun y => y.id != id) = w.scp.sessions.filter fun y => y.id != id := filter_sessionUpd hg

theorem see_filter {w : State} {id seq now : Nat} {g : Session → Session} (hg : ∀ z, g z = z.see seq now) :
    (w.sessionUpd id g).scp.sessions.filter (fun y => y.id != id) = w.scp.sessions.filter fun y => y.id != id :=
  sessions_upd_filter fun z => by rw [hg z, see_id]

theorem heard_filter {w : State} : (w.heard m).scp.sessions.filter (fun y => y.id != m.session) = w.scp.sessions.filter fun y => y.id != m.session :=
  sessions_upd_filter fun _ => rfl

theorem taken_filter : (s.taken dt m).scp.sessions.filter (fun y => y.id != m.session) = s.scp.sessions.filter fun y => y.id != m.session := by
  unfold State.taken
  rw [see_filter fun _ => rfl, heard_filter, scp_elapsed]

theorem send_filter {w : State} (r : ScpReply) (hr : r.session = m.session) :
    (w.scpSend r).scp.sessions.filter (fun y => y.id != m.session) = w.scp.sessions.filter fun y => y.id != m.session := by
  unfold State.scpSend
  rw [hr]
  exact sessions_upd_filter (w := { w with out := w.out ++ [Out.scp r] }) fun _ => rfl

/-- A session that holds nothing is closed. -/
def State.closed (w : State) (id : Nat) : State := w.updScp fun q => { q with sessions := q.sessions.filter fun y => y.id != id }

theorem closed_sessions {w : State} {id : Nat} : (w.closed id).scp.sessions = w.scp.sessions.filter fun y => y.id != id := rfl
theorem closed_out {w : State} {id : Nat} : (w.closed id).out = w.out := rfl

theorem answers_scpClose (h : Talks s m x 2 []) (hh : s.scp.holds = []) :
    Answers (.scpClose dt m) s fun t =>
      Replies m 0 [] t ∧ t.session m.session = none ∧ t.scp.sessions = s.scp.sessions.filter (fun y => y.id != m.session) ∧
      Framed timeRegs [.time, .clk, .mgmt, .scp] s t := by
  have hgood : scpGood m x = true := h.2.2.2.2.2
  set w := (s.taken dt m).scpSend (scpReply m 0 []) with hw
  set u := w.closed m.session with hu
  have hsame : ScpSame s w := scpSame_taken.send _
  have heff : (s.fresh.advance dt).scpTake m 2 [] (fun x s =>
      if scpGood m x then (s.scpSend (scpReply m scpOk [])).closeSession m.session else s.scpSend (scpReply m scpBad [])) = u := by
    rw [scpTake_talks h, hgood]
    exact closeSession_eq (hsame.holds.trans hh)
  have hframe : Chg (Listed timeRegs) (Parts [.time, .clk, .mgmt, .scp]) NoMem s u := (chg_taken.scpSend (by simp) _).scp _ (by simp)
  have hsess : u.scp.sessions = s.scp.sessions.filter fun y => y.id != m.session := by
    rw [← taken_filter (dt := dt), ← send_filter (scpReply m 0 []) rfl]
    exact closed_sessions
  have hout : u.out = w.out := closed_out
  refine answers_effect _ rfl heff hframe ⟨State.mem_seal_out _ _ ?_, ?_, ?_, hframe.framed⟩
  · rw [hout]
    exact scpSend_out _
  · rw [session_seal]
    exact sessions_filtered hsess
  · rw [State.seal_scp]
    exact hsess

/-- What a subscription makes of its session (R475). -/
def Session.subscribed (level : Nat) (x : Session) : Session :=
  if level = 0xFF then { x with level := none, gathered := [] } else { x with level := some level }

theorem subscribed_id (level : Nat) (y : Session) : (y.subscribed level).id = y.id := by
  simp only [Session.subscribed, apply_ite Session.id, ite_self]

theorem subscribed_level (level : Nat) (y : Session) : (y.subscribed level).level = if level = 255 then none else some level := by
  simp only [Session.subscribed, apply_ite Session.level]

theorem answers_scpSubscribe {level : Nat} (h : Talks s m x 0x30 [level % 256]) :
    Answers (.scpSubscribe dt m level) s fun t =>
      Replies m 0 [] t ∧ AnswerOnly s t ∧
      ∃ y, t.session m.session = some y ∧ y.level = (if level = 255 then none else some level) := by
  have hgood : scpGood m x = true := h.2.2.2.2.2
  set w := (s.taken dt m).sessionUpd m.session (Session.subscribed level) with hw
  have heff : (s.fresh.advance dt).scpTake m 0x30 [level % 256] (fun x s =>
      if scpGood m x then
        (s.sessionUpd m.session (fun x =>
          if level = 0xFF then { x with level := none, gathered := [] } else { x with level := some level })).scpSend (scpReply m scpOk [])
      else s.scpSend (scpReply m scpBad [])) = w.scpSend (scpReply m 0 []) := by
    rw [scpTake_talks h, hgood]
    rfl
  have hframe : Chg (Listed timeRegs) (Parts [.time, .clk, .mgmt, .scp]) NoMem s (w.scpSend (scpReply m 0 [])) :=
    (chg_taken.sessionUpd (by simp) _ _).scpSend (by simp) _
  obtain ⟨y, hy, -⟩ := taken_session (dt := dt) h.2.2.1
  have hsub : w.session m.session = some (y.subscribed level) := session_upd (subscribed_id level) hy
  refine answers_effect _ rfl heff hframe ⟨State.mem_seal_out _ _ (scpSend_out _), answerOnly hframe (scpSame_taken.upd.send _), _,
    (session_seal _).trans (scpSend_session _ rfl hsub), ?_⟩
  exact subscribed_level level y

/-! ### The end of a session, and reports (R430, R475) -/

theorem answers_scpSessionTimeout {id : Nat} (hx : s.session id = some x) (hold : x.last + 60 * secU ≤ s.time.up + dt) (hh : s.scp.holds = []) :
    Answers (.scpSessionTimeout dt id) s fun t =>
      t.scp = { s.scp with sessions := s.scp.sessions.filter (fun y => y.id != id) } ∧ Framed timeRegs [.time, .clk, .mgmt, .scp] s t := by
  set u := (s.fresh.advance dt).updScp fun q => { q with sessions := q.sessions.filter fun y => y.id != id } with hu
  have heff : (match (s.fresh.advance dt).session id with
      | none => s.fresh.advance dt
      | some x => (s.fresh.advance dt).when (Nat.ble (x.last + 60 * secU) (s.fresh.advance dt).time.up) fun s => s.closeSession id) = u := by
    rw [session_elapsed, hx, up_elapsed]
    dsimp only
    rw [Nat.ble_eq_true_of_le hold, State.when_true]
    exact closeSession_eq (by rw [scp_elapsed, hh])
  have hframe : Chg (Listed timeRegs) (Parts [.time, .clk, .mgmt, .scp]) NoMem s u := chg_elapsed_scp.scp _ (by simp)
  refine answers_effect _ rfl heff hframe ⟨?_, hframe.framed⟩
  rw [State.seal_scp, hu, State.updScp, scp_elapsed]

theorem answers_scpSessionTimeout_early {id : Nat} (hx : s.session id = some x) (hnew : s.time.up + dt < x.last + 60 * secU) :
    Answers (.scpSessionTimeout dt id) s fun t => Framed timeRegs [.time, .clk, .mgmt] s t := by
  have heff : (match (s.fresh.advance dt).session id with
      | none => s.fresh.advance dt
      | some x => (s.fresh.advance dt).when (Nat.ble (x.last + 60 * secU) (s.fresh.advance dt).time.up) fun s => s.closeSession id) =
      s.fresh.advance dt := by
    rw [session_elapsed, hx, up_elapsed]
    dsimp only
    rw [Bool.eq_false_iff.mpr fun hb => absurd (Nat.le_of_ble_eq_true hb) (by omega), State.when_false]
  have hframe := chg_elapsed_time s dt fun _ h => h
  exact answers_effect _ rfl heff hframe hframe.framed

/-- A session after a report at uptime `up`. -/
def Session.reported (up : Nat) (x : Session) : Session :=
  { x with gathered := x.gathered.drop 22, reportUp := some up, reports := (x.reports + 1) % 2 ^ 32 }

/-- The report that a session is due. -/
def State.sessionReport (v : State) (id : Nat) (x : Session) : State :=
  { v with out := v.out ++ [Out.report id x.reports (x.gathered.take 22)] }.sessionUpd id (Session.reported v.time.up)

/-- A report falls due 100 ms after the one before. -/
def Session.reportDue (x : Session) (up : Nat) : Bool :=
  match x.reportUp with
  | none => true
  | some t => Nat.ble (t + 100 * msU) up

theorem exec_scpReport (s : State) (dt id : Nat) : exec (.scpReport dt id) s = s.run fun s =>
    match (s.advance dt).session id with
    | none => s.advance dt
    | some x => if x.gathered.isEmpty || !x.reportDue (s.advance dt).time.up then s.advance dt else (s.advance dt).sessionReport id x := rfl

theorem reportDue_iff (up : Nat) : x.reportDue up = true ↔ ∀ u ∈ x.reportUp, u + 100 * msU ≤ up := by
  unfold Session.reportDue
  cases x.reportUp <;> simp

theorem answers_scpReport {id : Nat} (hx : s.session id = some x) (hg : x.gathered ≠ []) (hd : ∀ u ∈ x.reportUp, u + 100 * msU ≤ s.time.up + dt) :
    Answers (.scpReport dt id) s fun t =>
      Out.report id x.reports (x.gathered.take 22) ∈ t.out ∧
      (∃ y, t.session id = some y ∧ y.gathered = x.gathered.drop 22 ∧ y.reports = (x.reports + 1) % 2 ^ 32 ∧
        y.reportUp = some (s.time.up + dt)) ∧ AnswerOnly s t := by
  have hdue : x.reportDue (s.fresh.advance dt).time.up = true := by
    rw [up_elapsed]
    exact (reportDue_iff _).mpr hd
  have hsess := (session_elapsed (s := s) (dt := dt) id).trans hx
  have heff : (match (s.fresh.advance dt).session id with
      | none => s.fresh.advance dt
      | some x => if x.gathered.isEmpty || !x.reportDue (s.fresh.advance dt).time.up then s.fresh.advance dt else (s.fresh.advance dt).sessionReport id x) =
      (s.fresh.advance dt).sessionReport id x := by
    rw [hsess]
    dsimp only
    rw [hdue, List.isEmpty_eq_false_iff.mpr hg]
    rfl
  have hframe : Chg (Listed timeRegs) (Parts [.time, .clk, .mgmt, .scp]) NoMem s ((s.fresh.advance dt).sessionReport id x) :=
    (chg_elapsed_scp.out _).sessionUpd (by simp) _ _
  refine answers_effect _ (exec_scpReport s dt id) heff hframe ⟨State.mem_seal_out _ _ (List.mem_append_right _ (List.mem_singleton.mpr rfl)), ?_,
    answerOnly hframe (scpSame_elapsed.outs _).upd⟩
  refine ⟨x.reported (s.time.up + dt), ?_, rfl, rfl, rfl⟩
  rw [session_seal, ← up_elapsed]
  exact session_upd (fun _ => rfl) hsess

theorem answers_scpReport_none {id : Nat} (hx : s.session id = some x)
    (h : x.gathered = [] ∨ ∃ u ∈ x.reportUp, s.time.up + dt < u + 100 * msU) :
    Answers (.scpReport dt id) s fun t => Framed timeRegs [.time, .clk, .mgmt] s t := by
  have hguard : (x.gathered.isEmpty || !x.reportDue (s.time.up + dt)) = true := by
    rcases h with h | ⟨u, hu, hlt⟩
    · rw [h]
      rfl
    · have hdue : ¬ x.reportDue (s.time.up + dt) = true := fun hd => absurd ((reportDue_iff _).mp hd u hu) (by omega)
      rw [Bool.not_eq_true _ |>.mp hdue, Bool.not_false, Bool.or_true]
  have heff : (match (s.fresh.advance dt).session id with
      | none => s.fresh.advance dt
      | some x => if x.gathered.isEmpty || !x.reportDue (s.fresh.advance dt).time.up then s.fresh.advance dt else (s.fresh.advance dt).sessionReport id x) =
      s.fresh.advance dt := by
    rw [session_elapsed, hx, up_elapsed]
    exact if_pos hguard
  have hframe := chg_elapsed_time s dt fun _ h => h
  exact answers_effect _ (exec_scpReport s dt id) heff hframe hframe.framed

/-! ### Opening (R429) -/

/-- A session ID that a free value gives is new: of 34 in a row one is neither zero nor one of at most 32 in use. -/
theorem newSession_new (w : State) (f : Nat) (h : w.scp.sessions.length ≤ 32) : w.newSession f ≠ 0 ∧ w.session (w.newSession f) = none := by
  set l := (List.range 34).map fun k => (f + k) % 2 ^ 32 with hl
  have hnodup : l.Nodup := by
    refine List.Nodup.map_on (fun a ha b hb hab => ?_) List.nodup_range
    rw [List.mem_range] at ha hb
    omega
  cases hfind : l.find? fun i => i != 0 && (w.session i).isNone with
  | some i =>
    have hnew : w.newSession f = i := congrArg (fun o => Option.getD o 1) hfind
    have hi := List.find?_some hfind
    simp only [Bool.and_eq_true, bne_iff_ne, Option.isNone_iff_eq_none] at hi
    rwa [hnew]
  | none =>
    exfalso
    have hsub : l ⊆ 0 :: w.scp.sessions.map Session.id := fun i hi => by
      have hused := List.find?_eq_none.mp hfind i hi
      by_cases h0 : i = 0
      · rw [h0]
        exact List.mem_cons_self
      · refine List.mem_cons_of_mem _ (List.mem_map.mpr ?_)
        cases hs : w.session i with
        | none => simp [h0, hs] at hused
        | some x => exact ⟨x, List.mem_of_find?_eq_some hs, by simpa using List.find?_some hs⟩
    have hlen := (List.subperm_of_subset hnodup hsub).length_le
    simp only [hl, List.length_map, List.length_range, List.length_cons] at hlen
    omega

/-- A session opens with an ID and a nonce that free values give. -/
def State.letIn (w : State) (m : ScpMsg) (priv : Bool) (k nc : List Nat) : State :=
  let (f, w) := w.free 32
  let (n0, w) := w.free 32
  let (n1, w) := w.free 32
  let (n2, w) := w.free 32
  let (n3, w) := w.free 32
  let id := w.newSession f
  let r : ScpReply := ⟨id, m.seq, scpOk, 0, [n0, n1, n2, n3]⟩
  let x : Session := ⟨id, m.controller, priv, m.seq, 1, [r], w.time.up, none, [], none, 0, sessionKey k nc ([n0, n1, n2, n3].flatMap be32) id⟩
  let w := w.updScp fun q => { q with sessions := q.sessions ++ [x] }
  { w with out := w.out ++ [.scp r] }

/-- What an admitted session has. -/
structure Admitted (w : State) (m : ScpMsg) (priv : Bool) (k nc : List Nat) (x : Session) (nonce : List Nat) : Prop where
  sessions : (w.letIn m priv k nc).scp.sessions = w.scp.sessions ++ [x]
  fromFree : ∃ f, x.id = w.newSession f
  controller : x.controller = m.controller
  privileged : x.privileged = priv
  high : x.high = m.seq
  level : x.level = none
  key : x.key = sessionKey k nc (nonce.flatMap be32) x.id
  out : Out.scp ⟨x.id, m.seq, 0, 0, nonce⟩ ∈ (w.letIn m priv k nc).out
  nonce : nonce.length = 4

theorem letIn_admitted (w : State) (m : ScpMsg) (priv : Bool) (k nc : List Nat) : ∃ x nonce, Admitted w m priv k nc x nonce :=
  ⟨_, _, ⟨rfl, ⟨_, rfl⟩, rfl, rfl, rfl, rfl, rfl, List.mem_append_right _ (List.mem_singleton.mpr rfl), rfl⟩⟩

theorem chg_letIn {R : Nat → Prop} {P : Part → Prop} {M : Nat → Prop} {t : State} (h : Chg R P M s t) (hf : P .free) (hs : P .scp)
    (priv : Bool) (k nc : List Nat) : Chg R P M s (t.letIn m priv k nc) :=
  ((((((h.free 32 hf).free 32 hf).free 32 hf).free 32 hf).free 32 hf).scp _ hs).out _

theorem scpOpen_room {w : State} (h : w.scp.sessions.length < 32) (priv : Bool) (k nc : List Nat) : w.scpOpen m priv k nc = w.letIn m priv k nc := by
  unfold State.scpOpen
  dsimp only
  rw [if_pos h, if_neg (by simp [h])]
  rfl

theorem scpOpen_idle {w : State} {y : Session} (h : w.scp.sessions.length = 32) (hy : w.idleSession = some y) (priv : Bool) (k nc : List Nat) :
    w.scpOpen m priv k nc = (w.closeSession y.id).letIn m priv k nc := by
  unfold State.scpOpen
  dsimp only
  rw [if_neg (show ¬ w.scp.sessions.length < 32 by omega), hy, if_neg (by simp)]
  rfl

theorem scpOpen_full {w : State} (h : w.scp.sessions.length = 32) (hp : w.idleSession = none) (priv : Bool) (k nc : List Nat) :
    w.scpOpen m priv k nc = { w with out := w.out ++ [.scp ⟨0, m.seq, 5, 0, []⟩] } := by
  unfold State.scpOpen
  dsimp only
  rw [if_neg (show ¬ w.scp.sessions.length < 32 by omega), hp, if_pos (by simp [h])]
  rfl

theorem idleSession_none {w : State} (h : ∀ x ∈ w.scp.sessions, x.privileged = true) : w.idleSession = none := by
  have hfilter : w.scp.sessions.filter (fun x => !x.privileged) = [] := List.filter_eq_nil_iff.mpr fun x hx => by simp [h x hx]
  unfold State.idleSession
  rw [hfilter]
  rfl

/-- The openings of the last second. -/
def State.recentOpens (s : State) (dt : Nat) : List (Nat × Nat) := s.scp.opens.filter fun o => Nat.blt (s.time.up + dt) (o.2 + secU)

section
variable {src sel : Nat} {nc k : List Nat}

/-- The state in which an OPEN is judged: it counts among the second's. -/
def State.opening (s : State) (dt src : Nat) : State :=
  (s.fresh.advance dt).updScp fun x => { x with opens := s.recentOpens dt ++ [(src, s.time.up + dt)] }

/-- What an OPEN of an address that has not opened too often does. -/
def State.openJudged (w : State) (sel : Nat) (nc : List Nat) (m : ScpMsg) : State :=
  if w.on F.SYS_STATUS_CFG_DEFAULT && (sel != 1 || w.on F.SYS_STATUS_KEY_FAIL) then w
  else match (w.longKey sel m.controller).filter (fun k => scpSigned m k 1 (openPayload sel nc)) with
  | none => w.updScp (fun x => { x with badTags := x.badTags + 1 })
  | some k => if !m.formed || nc.length != 16 || m.session != 0 || m.controller = 0 || 65535 < m.controller then
      { w with out := w.out ++ [.scp ⟨0, m.seq, scpBad, 0, []⟩] }
    else w.scpOpen m (sel == 1) k nc

/-- What an OPEN does. -/
def State.openTried (s : State) (dt src sel : Nat) (nc : List Nat) (m : ScpMsg) : State :=
  if !s.unitOn 3 || m.version != 1 || Nat.ble 10 ((s.recentOpens dt).filter fun o => o.1 == src).length then
    (s.fresh.advance dt).updScp fun x => { x with opens := s.recentOpens dt }
  else (s.opening dt src).openJudged sel nc m

/-- The effect of an OPEN. -/
def openEffect (dt src sel : Nat) (nc : List Nat) (m : ScpMsg) (s : State) : State :=
  let s := s.advance dt
  let now := s.time.up
  let opens := s.scp.opens.filter (fun o => Nat.blt now (o.2 + secU))
  if !s.unitOn 3 || m.version != 1 || Nat.ble 10 (opens.filter (fun o => o.1 == src)).length then
    s.updScp (fun x => { x with opens := opens })
  else
    let s := s.updScp (fun x => { x with opens := opens ++ [(src, now)] })
    s.openJudged sel nc m

theorem exec_scpOpen (s : State) : exec (.scpOpen dt src sel nc m) s = s.run (openEffect dt src sel nc m) := rfl

theorem openEffect_eq (s : State) : openEffect dt src sel nc m s.fresh = s.openTried dt src sel nc m := by
  unfold openEffect State.openTried State.opening State.recentOpens
  dsimp only
  rw [up_elapsed, State.unitOn_elapsed, scp_elapsed]

theorem openTried_blocked (h : 10 ≤ ((s.recentOpens dt).filter fun o => o.1 == src).length) :
    s.openTried dt src sel nc m = (s.fresh.advance dt).updScp fun x => { x with opens := s.recentOpens dt } := by
  unfold State.openTried
  rw [Nat.ble_eq_true_of_le h, Bool.or_true]
  rfl

theorem openTried_judged (hu : s.unitOn 3 = true) (hm : m.version = 1) (h : ((s.recentOpens dt).filter fun o => o.1 == src).length < 10) :
    s.openTried dt src sel nc m = (s.opening dt src).openJudged sel nc m := by
  unfold State.openTried
  rw [hu, hm, Bool.eq_false_iff.mpr fun hb => absurd (Nat.le_of_ble_eq_true hb) (by omega)]
  rfl

theorem chg_opening : Chg (Listed timeRegs) (Parts [.time, .clk, .mgmt, .scp]) NoMem s (s.opening dt src) := chg_elapsed_scp.scp _ (by simp)

theorem opening_sessions : (s.opening dt src).scp.sessions = s.scp.sessions := by
  have h := congrArg ScpS.sessions (scp_elapsed s dt)
  exact h
theorem opening_holds : (s.opening dt src).scp.holds = s.scp.holds := by
  have h := congrArg ScpS.holds (scp_elapsed s dt)
  exact h
theorem opening_badTags : (s.opening dt src).scp.badTags = s.scp.badTags := by
  have h := congrArg ScpS.badTags (scp_elapsed s dt)
  exact h
theorem opening_out : (s.opening dt src).out = [] := State.advance_out _ _

theorem opening_on {f : Fld} (h : f.adr ∉ timeRegs) : (s.opening dt src).on f = s.on f :=
  congrArg (· != 0) (State.fld_eq_of_reg (reg_elapsed s dt h))

theorem opening_mgmt : (s.opening dt src).mgmt = (s.fresh.advance dt).mgmt := rfl

theorem opening_longKey (c : Nat) : (s.opening dt src).longKey sel c = s.longKey sel c := by
  obtain ⟨_, _, _, _, h⟩ := advance_mgmt s.fresh dt
  unfold State.longKey State.keyInForce
  rw [opening_mgmt, h]
  rfl

theorem opening_idle : (s.opening dt src).idleSession = s.idleSession := by
  unfold State.idleSession
  rw [opening_sessions]

theorem opening_session (id : Nat) : (s.opening dt src).session id = s.session id := by
  unfold State.session
  rw [opening_sessions]

/-- An OPEN with the right key and well formed opens a session. -/
theorem openTried_opens (h : Opens s dt src sel nc m k) : s.openTried dt src sel nc m = (s.opening dt src).scpOpen m (sel == 1) k nc := by
  obtain ⟨hu, hm, hk, hs, hform, hnc, hsess, hc1, hc2, hdef, hcount⟩ := h
  rw [openTried_judged hu hm hcount]
  unfold State.openJudged
  rw [opening_on (by decide), hdef, opening_longKey, hk, Option.filter_some, if_pos hs, Bool.false_and, if_neg Bool.false_ne_true]
  dsimp only
  rw [hform, hnc, hsess, if_neg]
  simp
  omega

theorem answers_scpOpen (h : Opens s dt src sel nc m k) (hroom : s.scp.sessions.length < 32) :
    Answers (.scpOpen dt src sel nc m) s fun t =>
      ∃ id x nonce, id ≠ 0 ∧ s.session id = none ∧ t.scp.sessions = s.scp.sessions ++ [x] ∧ x.id = id ∧
        x.controller = m.controller ∧ x.privileged = (sel == 1) ∧ x.high = m.seq ∧ x.level = none ∧
        x.key = sessionKey k nc (nonce.flatMap be32) id ∧
        Out.scp ⟨id, m.seq, 0, 0, nonce⟩ ∈ t.out ∧ nonce.length = 4 ∧ Framed timeRegs [.time, .clk, .mgmt, .scp, .free] s t := by
  set w := s.opening dt src with hw
  have heff : openEffect dt src sel nc m s.fresh = w.letIn m (sel == 1) k nc := by
    rw [openEffect_eq, openTried_opens h]
    exact scpOpen_room (by rw [opening_sessions]; exact hroom) _ _ _
  have hframe : Chg (Listed timeRegs) (Parts [.time, .clk, .mgmt, .scp, .free]) NoMem s (w.letIn m (sel == 1) k nc) :=
    chg_letIn (chg_opening.mono (fun _ h => h) (by simp +contextual) fun _ h => h) (by simp) (by simp) _ _ _
  obtain ⟨x, nonce, hx⟩ := letIn_admitted w m (sel == 1) k nc
  obtain ⟨f, hid⟩ := hx.fromFree
  obtain ⟨h0, hnew⟩ := newSession_new w f (by rw [opening_sessions]; omega)
  rw [← hid] at h0 hnew
  refine answers_effect _ (exec_scpOpen s) heff hframe ⟨x.id, x, nonce, h0, (opening_session _).symm.trans hnew, ?_, rfl, hx.controller, hx.privileged,
    hx.high, hx.level, hx.key, State.mem_seal_out _ _ hx.out, hx.nonce, hframe.framed⟩
  rw [State.seal_scp, hx.sessions, opening_sessions]

theorem answers_scpOpen_idle {y : Session} (h : Opens s dt src sel nc m k) (hfull : s.scp.sessions.length = 32) (hy : s.idleSession = some y)
    (hh : s.scp.holds = []) :
    Answers (.scpOpen dt src sel nc m) s fun t =>
      ∃ x, t.scp.sessions = s.scp.sessions.filter (fun z => z.id != y.id) ++ [x] ∧ x.controller = m.controller := by
  set w := (s.opening dt src).closed y.id with hw
  have heff : openEffect dt src sel nc m s.fresh = w.letIn m (sel == 1) k nc := by
    rw [openEffect_eq, openTried_opens h, scpOpen_idle (by rw [opening_sessions]; exact hfull) (opening_idle.trans hy),
      closeSession_eq (opening_holds.trans hh)]
    rfl
  have hframe : Chg (Listed timeRegs) (Parts [.time, .clk, .mgmt, .scp, .free]) NoMem s (w.letIn m (sel == 1) k nc) :=
    chg_letIn ((chg_opening.mono (fun _ h => h) (by simp +contextual) fun _ h => h).scp _ (by simp)) (by simp) (by simp) _ _ _
  obtain ⟨x, nonce, hx⟩ := letIn_admitted w m (sel == 1) k nc
  refine answers_effect _ (exec_scpOpen s) heff hframe ⟨x, ?_, hx.controller⟩
  rw [State.seal_scp, hx.sessions, closed_sessions, opening_sessions]

theorem answers_scpOpen_full (h : Opens s dt src sel nc m k) (hfull : s.scp.sessions.length = 32) (hp : ∀ x ∈ s.scp.sessions, x.privileged = true) :
    Answers (.scpOpen dt src sel nc m) s fun t =>
      Out.scp ⟨0, m.seq, 5, 0, []⟩ ∈ t.out ∧ t.scp.sessions = s.scp.sessions ∧ Framed timeRegs [.time, .clk, .mgmt, .scp] s t := by
  set w := s.opening dt src with hw
  have heff : openEffect dt src sel nc m s.fresh = { w with out := w.out ++ [.scp ⟨0, m.seq, 5, 0, []⟩] } := by
    rw [openEffect_eq, openTried_opens h]
    exact scpOpen_full (by rw [opening_sessions]; exact hfull) (opening_idle.trans (idleSession_none hp)) _ _ _
  have hframe := chg_opening (s := s) (dt := dt) (src := src) |>.out (w.out ++ [.scp ⟨0, m.seq, 5, 0, []⟩])
  refine answers_effect _ (exec_scpOpen s) heff hframe
    ⟨State.mem_seal_out _ _ (List.mem_append_right _ (List.mem_singleton.mpr rfl)), ?_, hframe.framed⟩
  rw [State.seal_scp]
  exact opening_sessions

theorem blocked_sessions {l : List (Nat × Nat)} : ((s.fresh.advance dt).updScp fun x => { x with opens := l }).scp.sessions = s.scp.sessions := by
  have h := congrArg ScpS.sessions (scp_elapsed s dt)
  exact h

/-- Beyond ten openings a second an OPEN is dropped. -/
theorem answers_scpOpen_often (h : 10 ≤ ((s.recentOpens dt).filter fun o => o.1 == src).length) :
    Answers (.scpOpen dt src sel nc m) s fun t =>
      (∀ r, Out.scp r ∉ t.out) ∧ t.scp.sessions = s.scp.sessions ∧ Framed timeRegs [.time, .clk, .mgmt, .scp] s t := by
  have heff : openEffect dt src sel nc m s.fresh = (s.fresh.advance dt).updScp fun x => { x with opens := s.recentOpens dt } := by
    rw [openEffect_eq, openTried_blocked h]
  have hframe : Chg (Listed timeRegs) (Parts [.time, .clk, .mgmt, .scp]) NoMem s
      ((s.fresh.advance dt).updScp fun x => { x with opens := s.recentOpens dt }) := chg_elapsed_scp.scp _ (by simp)
  refine answers_effect _ (exec_scpOpen s) heff hframe ⟨fun r => no_reply (State.advance_out _ _) r, ?_, hframe.framed⟩
  rw [State.seal_scp]
  exact blocked_sessions

/-- Under factory defaults no controller's key opens a session. -/
theorem answers_scpOpen_default (hdef : s.on F.SYS_STATUS_CFG_DEFAULT = true) :
    Answers (.scpOpen dt src 0 nc m) s fun t =>
      (∀ r, Out.scp r ∉ t.out) ∧ t.scp.sessions = s.scp.sessions ∧ Framed timeRegs [.time, .clk, .mgmt, .scp] s t := by
  by_cases hguard : (!s.unitOn 3 || m.version != 1 || Nat.ble 10 ((s.recentOpens dt).filter fun o => o.1 == src).length) = true
  · have heff : openEffect dt src 0 nc m s.fresh = (s.fresh.advance dt).updScp fun x => { x with opens := s.recentOpens dt } := by
      rw [openEffect_eq]
      exact if_pos hguard
    have hframe : Chg (Listed timeRegs) (Parts [.time, .clk, .mgmt, .scp]) NoMem s
        ((s.fresh.advance dt).updScp fun x => { x with opens := s.recentOpens dt }) := chg_elapsed_scp.scp _ (by simp)
    refine answers_effect _ (exec_scpOpen s) heff hframe ⟨fun r => no_reply (State.advance_out _ _) r, ?_, hframe.framed⟩
    rw [State.seal_scp]
    exact blocked_sessions
  · have heff : openEffect dt src 0 nc m s.fresh = s.opening dt src := by
      rw [openEffect_eq, State.openTried, if_neg hguard, State.openJudged, opening_on (by decide), hdef]
      rfl
    refine answers_effect _ (exec_scpOpen s) heff chg_opening ⟨fun r => no_reply opening_out r, ?_, chg_opening.framed⟩
    rw [State.seal_scp, opening_sessions]

/-- An OPEN without the right tag is counted. -/
theorem answers_scpOpen_bad (hu : s.unitOn 3 = true) (hm : m.version = 1) (hdef : s.on F.SYS_STATUS_CFG_DEFAULT = false)
    (hcount : ((s.recentOpens dt).filter fun o => o.1 == src).length < 10)
    (hbad : ∀ k ∈ s.longKey sel m.controller, scpSigned m k 1 (openPayload sel nc) = false) :
    Answers (.scpOpen dt src sel nc m) s fun t =>
      (∀ r, Out.scp r ∉ t.out) ∧ t.scp.sessions = s.scp.sessions ∧ t.scp.badTags = s.scp.badTags + 1 ∧
      Framed timeRegs [.time, .clk, .mgmt, .scp] s t := by
  have hnone : (s.longKey sel m.controller).filter (fun k => scpSigned m k 1 (openPayload sel nc)) = none := by
    cases hk : s.longKey sel m.controller with
    | none => rfl
    | some k => rw [Option.filter_some, hbad k hk, if_neg Bool.false_ne_true]
  set u := (s.opening dt src).updScp fun x => { x with badTags := x.badTags + 1 } with hu'
  have heff : openEffect dt src sel nc m s.fresh = u := by
    rw [openEffect_eq, openTried_judged hu hm hcount, State.openJudged, opening_on (by decide), hdef, opening_longKey, hnone]
    rfl
  have hframe : Chg (Listed timeRegs) (Parts [.time, .clk, .mgmt, .scp]) NoMem s u := chg_opening.scp _ (by simp)
  have hout : u.out = [] := (updScp_out _ _).trans opening_out
  refine answers_effect _ (exec_scpOpen s) heff hframe ⟨fun r => no_reply hout r, ?_, ?_, hframe.framed⟩
  · rw [State.seal_scp]
    exact opening_sessions (src := src)
  · rw [State.seal_scp]
    exact congrArg (· + 1) (opening_badTags (src := src))

end

end

/-- Settles O55: openings, messages of open sessions, their end and their reports. -/
theorem sessions : Obligations.Sessions :=
  ⟨fun _ _ _ _ _ _ _ h hroom => answers_scpOpen h hroom,
    fun _ _ _ _ _ _ _ _ h hfull hy hh => answers_scpOpen_idle h hfull hy hh,
    fun _ _ _ _ _ _ _ h hfull hp => answers_scpOpen_full h hfull hp,
    fun _ _ _ _ _ _ h => answers_scpOpen_often h,
    fun _ _ _ _ _ hdef => answers_scpOpen_default hdef,
    fun _ _ _ _ _ _ hu hm hdef hcount hbad => answers_scpOpen_bad hu hm hdef hcount hbad,
    fun _ _ _ hu hm h => answers_scpKeepalive_bad hu hm h,
    fun _ _ _ _ h => answers_scpKeepalive h,
    fun _ _ _ _ _ hu hm hx hs hf hr => answers_scpKeepalive_repeat hu hm hx hs hf hr,
    fun _ _ _ _ h hh => answers_scpClose h hh,
    fun _ _ _ _ _ h => answers_scpSubscribe h,
    fun _ _ _ _ hx hold hh => answers_scpSessionTimeout hx hold hh,
    fun _ _ _ _ hx hnew => answers_scpSessionTimeout_early hx hnew,
    fun _ _ _ _ hx hg hd => answers_scpReport hx hg hd,
    fun _ _ _ _ hx h => answers_scpReport_none hx h⟩

end Sys2Proof.Machine
end

section

/-! PROOFS. Register writes: whole words, contention, faults and posted writes (R414 to R425). -/

namespace Sys2Proof.Machine

/-! ### Access faults (R419 to R421) -/

/-- The bit of ACC_STATUS that a fault sets. -/
def AccBit.status : AccBit → Fld
  | .priv => F.SYS_ACC_STATUS_PRIV_VIOL
  | .err => F.SYS_ACC_STATUS_ACC_ERR
  | .rsv => F.SYS_ACC_STATUS_RSV_WR

/-- The event of a fault. -/
def AccBit.evt : AccBit → Fld
  | .priv => F.SYS_EVT_PRIV_VIOL
  | .err => F.SYS_EVT_ACC_ERR
  | .rsv => F.SYS_EVT_RSV_WR

section
variable {s v u : State} {b : AccBit} {m : Master} {priv : Bool} {a : Nat}

/-- The address register holds the first fault. -/
def State.faultAt (v : State) (m : Master) (a : Nat) : State :=
  v.when (v.rd A.SYS_ACC_STATUS &&& 14 == 0) fun s => (s.set F.SYS_ACC_ADDR_MASTER m.code).set F.SYS_ACC_ADDR_ADDR a

theorem accFault_eq (v : State) (b : AccBit) (m : Master) (a : Nat) : v.accFault b m a = ((v.faultAt m a).set b.status 1).event b.evt := by
  cases b <;> rfl

theorem accBit_adr (b : AccBit) : b.status.adr = A.SYS_ACC_STATUS ∧ b.evt.adr = A.SYS_EVT ∧ b.status.ok = true ∧ b.evt.ok = true ∧
    b.status.width = 1 := by
  cases b <;> decide

theorem Chg.accFault {R : Nat → Prop} {P : Part → Prop} {M : Nat → Prop} (h : Chg R P M s v) (b : AccBit) (m : Master) (a : Nat)
    (hr : ∀ x ∈ accRegs, R x) : Chg R P M s (v.accFault b m a) := by
  obtain ⟨h1, h2, -⟩ := accBit_adr b
  have hat : R A.SYS_ACC_ADDR := hr _ (by decide)
  rw [accFault_eq]
  refine ((h.when _ _ fun _ => (h.set _ _ hat).set _ _ hat).set _ _ ?_).event _ ?_
  · rw [h1]
    exact hr _ (by decide)
  · rw [h2]
    exact hr _ (by decide)

theorem faultAt_addr (h : v.rd A.SYS_ACC_STATUS &&& 14 = 0) :
    (v.faultAt m a).fld F.SYS_ACC_ADDR_MASTER = m.code ∧ (v.faultAt m a).fld F.SYS_ACC_ADDR_ADDR = a % 2 ^ 24 := by
  unfold State.faultAt
  rw [h, beq_self_eq_true, State.when_true]
  refine ⟨?_, State.fld_set_same _ (by decide) _⟩
  rw [State.fld_set_free _ (by decide), State.fld_set_same _ (by decide)]
  cases m <;> rfl

theorem faultAt_kept (h : v.rd A.SYS_ACC_STATUS &&& 14 ≠ 0) : v.faultAt m a = v := by
  unfold State.faultAt
  rw [beq_eq_false_iff_ne.mpr h, State.when_false]

theorem accFault_addr_reg (v : State) (b : AccBit) (m : Master) (a : Nat) : (v.accFault b m a).reg A.SYS_ACC_ADDR = (v.faultAt m a).reg A.SYS_ACC_ADDR := by
  obtain ⟨h1, h2, -⟩ := accBit_adr b
  rw [accFault_eq]
  exact (State.reg_set_ne _ _ _ (by rw [h2]; decide)).trans (State.reg_set_ne _ _ _ (by rw [h1]; decide))

/-- What a fault shows (R419 to R421). -/
theorem accessFault_of (hv : ∀ x ∈ accRegs, v.reg x = s.reg x) (hu : ∀ x ∈ accRegs, u.reg x = (v.accFault b m a).reg x) :
    AccessFault b.status b.evt m a s (s.seal u) := by
  obtain ⟨h1, h2, h3, h4, h5⟩ := accBit_adr b
  have hreg {f : Fld} (hf : f.adr ∈ accRegs) : (s.seal u).fld f = (v.accFault b m a).fld f := by
    have hn : f.adr ∉ summaries := by
      simp only [accRegs, List.mem_cons, List.not_mem_nil, or_false] at hf
      rcases hf with h | h | h <;> rw [h] <;> decide
    exact (State.fld_seal_of hn).trans (State.fld_eq_of_reg (hu _ hf))
  have hstatus : v.rd A.SYS_ACC_STATUS = s.rd A.SYS_ACC_STATUS := State.rd_eq_of_reg (hv _ (by decide))
  have haddr {f : Fld} (hf : f.adr = A.SYS_ACC_ADDR) : (s.seal u).fld f = (v.faultAt m a).fld f := by
    rw [hreg (by rw [hf]; decide)]
    exact State.fld_eq_of_reg (by rw [hf]; exact accFault_addr_reg v b m a)
  refine ⟨?_, ?_, fun h0 => ?_, fun h0 => ?_⟩
  · rw [State.on, hreg (by rw [h1]; decide), accFault_eq, State.fld_event_ne (by rw [h1, h2]; decide), State.fld_set_same _ h3, h5]
    rfl
  · rw [State.on, hreg (by rw [h2]; decide), accFault_eq, ← State.on]
    exact State.on_event_same _ h4
  · rw [haddr rfl, haddr rfl]
    exact faultAt_addr (by rw [hstatus]; exact h0)
  · rw [State.reg_seal _ _ (by decide), hu _ (by decide), accFault_addr_reg, faultAt_kept (by rw [hstatus]; exact h0)]
    exact hv _ (by decide)

/-! ### One access on the bus -/

/-- A whole aligned word on the bus of a register. -/
theorem busWrites_row {w : Word} {r : Row} (ha : a % 4 = 0) (hrow : rowAt v.variant a = some r) :
    v.busWrites a (whole m priv w) =
      let s := v.when (!v.masterPriv m priv && w.toNat &&& r.prv != 0) fun s => s.accFault .priv m a
      match postedAt a r with
      | some d => s.post d a m (v.masterPriv m priv) w
      | none => s.land a r [(m, v.masterPriv m priv, w.toNat)] := by
  unfold State.busWrites whole
  simp only [served_one, List.partition_eq_filter_filter, List.filter_cons, ha, beq_self_eq_true, List.filter_nil, forL,
    Bool.and_self, if_true, Nat.reduceMod, Function.comp, Bool.not_true, List.foldl_nil, List.map_cons, List.map_nil, hrow,
    List.foldl_cons, Bool.false_eq_true, if_false, List.isEmpty_cons, State.contend_one, BitVec.ofNat_toNat, BitVec.setWidth_eq] <;> rfl

theorem words_busWrites {ws : List BusWrite} (h : a ≠ A.TEST_CTL) : v.words a ws = v.busWrites a ws := by
  unfold State.words
  rw [beq_false_of_ne h, State.when_false]

/-- A partial or misaligned access faults and does no more. -/
theorem busWrites_bad {be : Nat} {w : Word} (h : a % 4 ≠ 0 ∨ be % 16 ≠ 15) : v.busWrites a [⟨m, priv, be, w⟩] = v.accFault .err m a := by
  have hbad : (a % 4 == 0 && be % 16 == 15) = false := by
    rcases h with h | h <;> simp [h]
  unfold State.busWrites
  simp only [served_one, List.partition_eq_filter_filter, List.filter_cons, hbad, List.filter_nil, forL, Function.comp, Bool.not_false, if_true,
    Bool.false_eq_true, if_false, List.map_nil, List.foldl_nil, List.foldl_cons, List.isEmpty_nil]
  cases rowAt (v.accFault .err m a).variant a with
  | none => rfl
  | some r =>
    dsimp only
    cases postedAt a r <;> rfl

theorem answers_registerWrite_bad {be : Nat} {x : Word} (h : a % 4 ≠ 0 ∨ be % 16 ≠ 15) (hn : NotStarting s) :
    Answers (.registerWrite a [⟨m, priv, be, x⟩]) s fun t =>
      AccessFault F.SYS_ACC_STATUS_ACC_ERR F.SYS_EVT_ACC_ERR m a s t ∧ Framed accRegs [] s t := by
  have hframe : Chg (Listed accRegs) (Parts []) NoMem s (s.fresh.accFault .err m a) := Chg.refl.fresh.accFault _ _ _ fun _ h => .inl h
  have hstart : NotStarting (s.fresh.accFault .err m a) := by
    unfold NotStarting
    rw [hframe.part .test (by simp)]
    exact hn
  have heff : s.fresh.words a [⟨m, priv, be, x⟩] = s.fresh.accFault .err m a := by
    unfold State.words
    rw [busWrites_bad h]
    cases a == A.TEST_CTL with
    | false => rfl
    | true => rw [State.when_true, startupEnd_waits hstart]
  exact answers_effect _ rfl heff hframe ⟨accessFault_of (b := .err) (v := s.fresh) (fun _ _ => rfl) fun _ _ => rfl, hframe.framed⟩

/-! ### The interrupt enables (R414, R418, R424) -/

/-- In every variant an interrupt enable is a plain register of 20 bits. -/
def Row.enables (r : Row) (a : Nat) : Bool :=
  r.stores a && r.rw == 0xFFFFF && r.rsv == 0xFFF00000 && r.prv == 0

theorem irqEnables_row {a : Nat} (ha : a ∈ irqEnables) (v : Variant) : (rowAt v a).any (fun r => r.enables a) = true := by
  simp only [irqEnables, List.mem_cons, List.not_mem_nil, or_false] at ha
  rcases ha with rfl | rfl | rfl | rfl <;> cases v <;> decide

theorem irqEnables_stores {a : Nat} (ha : a ∈ irqEnables) : StoresEverywhere a := fun v => by
  obtain ⟨r, hrow, hr⟩ := (Option.any_eq_true _ _).mp (irqEnables_row ha v)
  simp only [Row.enables, Bool.and_eq_true] at hr
  exact (Option.any_eq_true _ _).mpr ⟨r, hrow, hr.1.1.1⟩

theorem irqEnables_cases {a : Nat} (ha : a ∈ irqEnables) : a = A.SYS_IRQ_EN_MP ∨ a = A.SYS_IRQ_EN_PIN ∨ a = A.SYS_IRQ_EN_F0 ∨ a = A.SYS_IRQ_EN_F1 := by
  simpa only [irqEnables, List.mem_cons, List.not_mem_nil, or_false] using ha

/-- No rule stands behind an interrupt enable. -/
theorem irqEnables_effect {a : Nat} (ha : a ∈ irqEnables) (t : State) (p : Bool) (old : Word) : t.regEffect m p a old 0 = t := by
  have hpage : a / 0x10000 = 0 ∧ a ≠ A.SYS_MOD_CMD ∧ a ≠ A.SYS_MSIX_EOI 0 ∧ a ≠ A.SYS_MSIX_EOI 1 ∧ a ≠ A.SYS_PCIE_CFG ∧ a ≠ A.SYS_FRAME_DB := by
    rcases irqEnables_cases ha with rfl | rfl | rfl | rfl <;> decide
  obtain ⟨h0, h1, h2, h3, h4, h5⟩ := hpage
  unfold State.regEffect
  rw [h0]
  show t.sysEffect a old 0 = t
  rw [State.sysEffect, if_neg h1, if_neg (not_or.mpr ⟨h2, h3⟩), if_neg h4, if_neg h5]

theorem irqEnables_notMem {a : Nat} (ha : a ∈ irqEnables) : a ∉ summaries ∧ a ∉ accRegs ∧ a ≠ A.PWR_UNIT_STATUS ∧ a ≠ A.SYS_MOD_STATE ∧ a ≠ A.TEST_CTL ∧
    a % 4 = 0 ∧ actsAlways a 0 = false := by
  rcases irqEnables_cases ha with rfl | rfl | rfl | rfl <;> decide

theorem act_irqEnable {a : Nat} (ha : a ∈ irqEnables) (ho : v.effectOwed a = false) (p : Bool) (old : Word) : v.act m p a old 0 = v := by
  unfold State.act
  rw [ho, irqEnables_effect ha]
  simp

/-- A register written as it stands commands nothing. -/
theorem act_idle {p : Bool} (ho : v.effectOwed a = false) (hq : actsAlways a 0 = false) : v.act m p a (v.reg a) 0 = v := by
  unfold State.act
  rw [ho, hq]
  simp

theorem keepWord_reg (w : Word) : (v.keepWord a w.toNat).reg a = w := by
  refine BitVec.eq_of_toNat_eq ?_
  unfold State.keepWord
  split
  case isTrue h => exact h
  case isFalse =>
    rw [State.reg_wr_same, BitVec.ofNat_toNat, BitVec.setWidth_eq]

theorem effectOwed_keepWord (n : Nat) {c : Nat} (h1 : a ≠ A.PWR_UNIT_STATUS) (h2 : a ≠ A.SYS_MOD_STATE) :
    (v.keepWord a n).effectOwed c = v.effectOwed c := by
  unfold State.keepWord
  split
  · rfl
  · exact State.effectOwed_wr _ _ _ _ h1 h2

theorem answers_registerWrite_irq {x : Word} (ha : a ∈ irqEnables) (hd : Direct s m priv a) (hr : AsItReads s a x) :
    Answers (.registerWrite a (whole m priv x)) s fun t => t.reg a = x ∧ Framed [a] [] s t := by
  obtain ⟨hsum, -, -, -, -, -, -⟩ := irqEnables_notMem ha
  obtain ⟨hl, h3, h4⟩ := hd.landsAt hr (irqEnables_stores ha s.variant)
  have heff : s.fresh.words a (whole m priv x) = s.fresh.keepWord a x.toNat :=
    hl.trans (act_irqEnable ha ((effectOwed_keepWord (v := s.fresh) x.toNat h3 h4).trans hd.2.2) _ _)
  have hframe : Chg (Listed [a]) (Parts []) NoMem s (s.fresh.keepWord a x.toNat) := Chg.refl.fresh.keepWord _ _ (.inl List.mem_cons_self)
  refine answers_effect _ rfl heff hframe ⟨?_, hframe.framed⟩
  rw [State.reg_seal _ _ hsum, keepWord_reg]

/-- What owes a register's rule is a matter of power, of the module state and of the tests. -/
theorem effectOwed_of_chg {R : Nat → Prop} {P : Part → Prop} {M : Nat → Prop} {c : Nat} (h : Chg R P M s v) (h1 : ¬ R A.PWR_UNIT_STATUS)
    (h2 : ¬ R A.SYS_MOD_STATE) (hp : ¬ P .pwr) (ht : ¬ P .test) : v.effectOwed c = s.effectOwed c := by
  have hunit (n : Nat) : v.unitAwake n = s.unitAwake n := by
    unfold State.unitAwake State.unitOn State.bitOf State.modState
    rw [State.fld_eq_of_reg (h.reg _ h1), State.fld_eq_of_reg (h.reg _ h2), h.part .pwr hp]
  unfold State.effectOwed
  rw [hunit, h.part .test ht]

/-- One write of a register with no event bits lands. -/
theorem land_single {r : Row} {p : Bool} {n : Nat} (hw : r.w1c = 0) (hp : isPlaceAdr a = false) :
    v.land a r [(m, p, n)] =
      ((v.rsvCheck r m a n).keepWord a (clearBits ((v.rsvCheck r m a n).rd a) (clearBits (r.rw &&& r.mayWrite p) (r.sc ||| r.wo)) |||
        (n &&& clearBits (r.rw &&& r.mayWrite p) (r.sc ||| r.wo)))).act m p a (v.reg a) (n &&& (r.sc ||| r.wo) &&& r.mayWrite p) := by
  simp [State.land, forL, State.when, hw, hp]

/-- The value that changed reserved bits take is open. -/
def State.rsvTaken (v : State) (a d : Nat) : State :=
  ({ v with freeCtr := v.freeCtr + 1 } : State).wr a (clearBits (v.rd a) d ||| ((v.free 32).1 &&& d))

theorem rsvCheck_fault {r : Row} {n : Nat} (h : (n ^^^ v.rd a) &&& r.rsv ≠ 0) :
    v.rsvCheck r m a n = (v.rsvTaken a ((n ^^^ v.rd a) &&& r.rsv)).accFault .rsv m a := by
  unfold State.rsvCheck
  rw [if_neg h]
  rfl

theorem merge_low (y x k : Nat) (hk : k = 0xFFFFF) : (clearBits y k ||| (x &&& k)) % 2 ^ 20 = x % 2 ^ 20 := by
  subst hk
  apply Nat.eq_of_testBit_eq
  intro i
  rw [Nat.testBit_mod_two_pow, Nat.testBit_mod_two_pow, Nat.testBit_or, testBit_clearBits, Nat.testBit_and,
    show (0xFFFFF : Nat) = 2 ^ 20 - 1 from rfl, Nat.testBit_two_pow_sub_one]
  by_cases hi : i < 20 <;> simp [hi]

theorem rsv_ne {x y : Nat} (hx : x < 2 ^ 32) (hy : y < 2 ^ 32) (h : (x ^^^ y) / 2 ^ 20 ≠ 0) : (x ^^^ y) &&& 0xFFF00000 ≠ 0 := by
  intro h0
  refine h (Nat.eq_of_testBit_eq fun i => ?_)
  rw [Nat.testBit_div_two_pow, Nat.zero_testBit]
  have hbit := congrArg (Nat.testBit · (20 + i)) h0
  simp only [Nat.testBit_and, Nat.zero_testBit] at hbit
  by_cases hi : i < 12
  · have hone : (0xFFF00000 : Nat).testBit (20 + i) = true := by
      interval_cases i <;> rfl
    rw [hone, Bool.and_true] at hbit
    rw [Nat.add_comm]
    exact hbit
  · exact Nat.testBit_lt_two_pow (Nat.lt_of_lt_of_le (Nat.xor_lt_two_pow hx hy) (Nat.pow_le_pow_right (by decide) (by omega)))

theorem answers_registerWrite_rsv {x : Word} (ha : a ∈ irqEnables) (hd : Direct s m priv a) (hx : (x.toNat ^^^ s.rd a) / 2 ^ 20 ≠ 0) :
    Answers (.registerWrite a (whole m priv x)) s fun t =>
      t.rd a % 2 ^ 20 = x.toNat % 2 ^ 20 ∧ AccessFault F.SYS_ACC_STATUS_RSV_WR F.SYS_EVT_RSV_WR m a s t ∧
      Framed (a :: accRegs) [.free] s t := by
  obtain ⟨hsum, hacc, hpwr, hmod, htest, h4, -⟩ := irqEnables_notMem ha
  obtain ⟨r, hrow, hr⟩ := (Option.any_eq_true _ _).mp (irqEnables_row ha s.variant)
  simp only [Row.enables, Row.stores, Bool.and_eq_true, beq_iff_eq, bne_iff_ne, ne_eq, Bool.not_eq_true', Option.isNone_iff_eq_none] at hr
  obtain ⟨⟨⟨⟨⟨⟨⟨⟨⟨⟨⟨⟨⟨-, -⟩, -⟩, -⟩, hw⟩, hsc⟩, hwo⟩, hp⟩, hpost⟩, -⟩, -⟩, hrw⟩, hrsv⟩, -⟩ := hr
  set p := s.masterPriv m priv with hpd
  set d := (x.toNat ^^^ s.rd a) &&& r.rsv with hdd
  have hne : d ≠ 0 := by
    rw [hdd, hrsv]
    exact rsv_ne x.isLt (s.rd_lt a) hx
  set v := s.fresh.rsvTaken a d with hv
  have hmask : clearBits (r.rw &&& r.mayWrite p) (r.sc ||| r.wo) = 0xFFFFF := by
    rw [hd.mayWrite hrow, hrw, hsc, hwo]
    rfl
  set n := clearBits ((v.accFault .rsv m a).rd a) 0xFFFFF ||| (x.toNat &&& 0xFFFFF) with hn
  set u := (v.accFault .rsv m a).keepWord a n with hu
  have hfault : Chg (Listed (a :: accRegs)) (Parts [.free]) NoMem s (v.accFault .rsv m a) :=
    ((Chg.refl.fresh.freeCtr _ (by simp)).wr _ _ (.inl List.mem_cons_self)).accFault _ _ _ fun y hy => .inl (List.mem_cons_of_mem _ hy)
  have hframe : Chg (Listed (a :: accRegs)) (Parts [.free]) NoMem s u := hfault.keepWord _ _ (.inl List.mem_cons_self)
  have hout {b : Nat} (h1 : b ≠ a) (h2 : b ∉ accRegs) (h3 : b ∉ summaries) : ¬ Listed (a :: accRegs) b := by
    rintro (h | h)
    · rcases List.mem_cons.mp h with h | h
      · exact h1 h
      · exact h2 h
    · exact h3 h
  have howed : u.effectOwed a = false :=
    (effectOwed_of_chg hframe (hout (Ne.symm hpwr) (by decide) (by decide)) (hout (Ne.symm hmod) (by decide) (by decide)) (by simp) (by simp)).trans hd.2.2
  have heff : s.fresh.words a (whole m priv x) = u := by
    have hcheck : s.fresh.rsvCheck r m a x.toNat = v.accFault .rsv m a := rsvCheck_fault hne
    have hfresh : s.fresh.masterPriv m priv = p := rfl
    rw [State.words_land s.fresh m priv a x r h4 htest hrow (hd.prv hrow _) hpost, land_single hw hp, hcheck, hfresh, hmask, hsc, hwo,
      Nat.or_zero, Nat.and_zero, Nat.zero_and]
    exact act_irqEnable ha howed _ _
  refine answers_effect _ rfl heff hframe ⟨?_, accessFault_of (b := .rsv) (v := v) (fun y hy => ?_) (fun y hy => ?_), hframe.framed⟩
  · rw [State.rd_eq_of_reg (State.reg_seal _ _ hsum), hu, rd_keepWord_mod, Nat.mod_mod_of_dvd _ (by decide)]
    exact merge_low _ _ _ rfl
  · exact State.reg_wr_ne _ _ fun h => hacc (h ▸ hy)
  · exact State.reg_keepWord_ne _ _ fun h => hacc (h ▸ hy)

/-! ### Contention (R424) -/

/-- A contention of SPI's with the management processor, which wins. -/
def State.spiLost (v : State) (a : Nat) : State :=
  ((((((((v.wr A.SYS_CONTEND 0).set F.SYS_CONTEND_WINNER 0).set F.SYS_CONTEND_ADDR a).set F.SYS_CONTEND_LOST_F0 0).set F.SYS_CONTEND_LOST_F1 0).set
    F.SYS_CONTEND_LOST_SPI 1).set F.SYS_CONTEND_LOST_SCP 0).inc A.SYS_CNT_CONTENDS).event F.SYS_EVT_CONTEND

/-- The registers that a contention shows in. -/
def contendRegs : List Nat := [A.SYS_CONTEND, A.SYS_CNT_CONTENDS, A.SYS_CNT_SAT, A.SYS_PCIE_EVT, A.SYS_EVT]

theorem Chg.spiLost {R : Nat → Prop} {P : Part → Prop} {M : Nat → Prop} (h : Chg R P M s v) (a : Nat) (hr : ∀ x ∈ contendRegs, R x) :
    Chg R P M s (v.spiLost a) := by
  have hc : R A.SYS_CONTEND := hr _ (by decide)
  refine (((((((((h.wr _ _ hc).set _ _ hc).set _ _ hc).set _ _ hc).set _ _ hc).set _ _ hc).set _ _ hc).bump _ 1 (hr _ (by decide)) (hr _ (by decide))
    fun f hf => ?_).event _ (hr _ (by decide)))
  have hfe : f = F.SYS_PCIE_EVT_CNT_SAT := (Option.some.inj hf).symm
  rw [hfe]
  exact hr _ (by decide)

theorem spiLost_fld {f : Fld} (hf : f.adr = A.SYS_CONTEND) : (v.spiLost a).fld f =
    (((((((v.wr A.SYS_CONTEND 0).set F.SYS_CONTEND_WINNER 0).set F.SYS_CONTEND_ADDR a).set F.SYS_CONTEND_LOST_F0 0).set F.SYS_CONTEND_LOST_F1 0).set
      F.SYS_CONTEND_LOST_SPI 1).set F.SYS_CONTEND_LOST_SCP 0).fld f := by
  refine (State.fld_event_ne (by rw [hf]; decide)).trans (State.fld_eq_of_reg ?_)
  rw [hf]
  exact (Chg.refl (P := AnyPart) (M := fun _ => True) |>.bump (R := fun x => x ≠ A.SYS_CONTEND) A.SYS_CNT_CONTENDS 1 (by decide) (by decide)
    fun f hf' => by rw [(Option.some.inj hf').symm]; decide).reg _ fun h => h rfl

/-- The two words differ in a writable bit, so SPI's is lost. -/
theorem contend_spi {r : Row} {x y : Nat} {q : Bool} (h : (x ^^^ y) &&& r.rw &&& r.mayWrite true &&& r.mayWrite q ≠ 0) :
    v.contend a r [(.spi, q, y), (.mp, true, x)] = v.spiLost a := by
  simp only [State.contend, List.getLast?_cons_cons, List.getLast?_singleton, List.filter_cons, Nat.xor_self, Nat.zero_and, bne_self_eq_false,
    Bool.false_eq_true, if_false, List.filter_nil, bne_iff_ne, ne_eq, h, not_false_eq_true, if_true, List.isEmpty_cons, List.any_cons, List.any_nil]
  rfl

/-- The last of two writes of one cycle stands. -/
theorem land_two {r : Row} {x y : Nat} {q : Bool} (hw : r.w1c = 0) (hsc : r.sc = 0) (hwo : r.wo = 0) (hprv : r.prv = 0) (hp : isPlaceAdr a = false)
    (hx : x < 2 ^ 32) (hy : y < 2 ^ 32) (hfull : r.rw ||| r.rsv = 0xFFFFFFFF) (hrw : r.rw = 0xFFFFF)
    (hrx : (x ^^^ v.rd a) &&& r.rsv = 0) (hry : (y ^^^ v.rd a) &&& r.rsv = 0) (hrxy : (x ^^^ y) &&& r.rsv = 0) :
    v.land a r [(.spi, q, y), (.mp, true, x)] = ((v.keepWord a y).keepWord a x).act .mp true a (v.reg a) 0 := by
  have hmay (b : Bool) : clearBits (r.rw &&& r.mayWrite b) 0 = r.rw := by
    unfold Row.mayWrite
    rw [hrw, hprv]
    cases b <;> rfl
  have h1 : clearBits (v.rd a) r.rw ||| (y &&& r.rw) = y := Row.merge_full _ _ _ _ hy (v.rd_lt a) hfull hry
  have h2 : clearBits y r.rw ||| (x &&& r.rw) = x := Row.merge_full _ _ _ _ hx hy hfull hrxy
  have hrd : (v.keepWord a y).rd a = y := by
    rw [rd_keepWord_mod, Nat.mod_eq_of_lt hy]
  simp only [State.land, List.foldl_cons, List.foldl_nil, hw, Nat.and_zero, Nat.zero_and, Nat.or_zero, bne_self_eq_false, State.when_false, forL,
    State.rsvCheck, hry, hrx, if_true, hp, Bool.false_eq_true, if_false, hmay, h1, h2, hrd, List.getLast?_cons_cons, List.getLast?_singleton, hsc, hwo]

theorem answers_registerWrite_contend {p q : Bool} {x y : Word} (ha : a ∈ irqEnables) (hd : Direct s .mp p a) (hx : AsItReads s a x)
    (hy : AsItReads s a y) (hne : x ≠ y) :
    Answers (.registerWrite a [⟨.mp, p, 15, x⟩, ⟨.spi, q, 15, y⟩]) s fun t =>
      t.reg a = x ∧ t.fld F.SYS_CONTEND_WINNER = 0 ∧ t.on F.SYS_CONTEND_LOST_SPI = true ∧ t.on F.SYS_CONTEND_LOST_F0 = false ∧
      t.on F.SYS_CONTEND_LOST_F1 = false ∧ t.on F.SYS_CONTEND_LOST_SCP = false ∧ t.fld F.SYS_CONTEND_ADDR = a ∧
      Counts s t A.SYS_CNT_CONTENDS 1 ∧ t.on F.SYS_EVT_CONTEND = true ∧
      Framed [a, A.SYS_CONTEND, A.SYS_CNT_CONTENDS, A.SYS_CNT_SAT, A.SYS_PCIE_EVT, A.SYS_EVT] [] s t := by
  obtain ⟨hsum, -, hpwr, hmod, htest, h4, -⟩ := irqEnables_notMem ha
  obtain ⟨r, hrow, hr⟩ := (Option.any_eq_true _ _).mp (irqEnables_row ha s.variant)
  simp only [Row.enables, Row.stores, Bool.and_eq_true, beq_iff_eq, bne_iff_ne, ne_eq, Bool.not_eq_true', Option.isNone_iff_eq_none] at hr
  obtain ⟨⟨⟨⟨⟨⟨⟨⟨⟨⟨⟨⟨⟨-, -⟩, -⟩, -⟩, hw⟩, hsc⟩, hwo⟩, hp⟩, hpost⟩, hfull⟩, -⟩, hrw⟩, hrsv⟩, hprv⟩ := hr
  have hout : a ∉ contendRegs := by
    rcases irqEnables_cases ha with rfl | rfl | rfl | rfl <;> decide
  have hmay (b : Bool) : r.mayWrite b = 0xFFFFFFFF := by
    unfold Row.mayWrite
    rw [hprv]
    cases b <;> rfl
  have hlow (w : Word) : (w.toNat &&& 0xFFFFFFFF) = w.toNat := (Nat.and_two_pow_sub_one_eq_mod w.toNat 32).trans (Nat.mod_eq_of_lt w.isLt)
  have hxy : (x.toNat ^^^ y.toNat) &&& r.rsv = 0 := by
    have h1 := hx r hrow
    have h2 := hy r hrow
    apply Nat.eq_of_testBit_eq
    intro i
    have b1 := congrArg (Nat.testBit · i) h1
    have b2 := congrArg (Nat.testBit · i) h2
    simp only [Nat.testBit_and, Nat.testBit_xor, Nat.zero_testBit] at b1 b2 ⊢
    revert b1 b2
    cases x.toNat.testBit i <;> cases y.toNat.testBit i <;> cases (s.rd a).testBit i <;> cases r.rsv.testBit i <;> simp
  have hdiff (b : Bool) : (x.toNat ^^^ y.toNat) &&& r.rw &&& r.mayWrite true &&& r.mayWrite b ≠ 0 := by
    rw [hmay, hmay]
    intro h0
    refine hne (BitVec.eq_of_toNat_eq (Nat.eq_of_testBit_eq fun i => ?_))
    by_cases hi : i < 32
    · have b0 := congrArg (Nat.testBit · i) h0
      have b1 := congrArg (Nat.testBit · i) hxy
      have b2 := congrArg (Nat.testBit · i) hfull
      have hone : (0xFFFFFFFF : Nat).testBit i = true := by
        rw [show (0xFFFFFFFF : Nat) = 2 ^ 32 - 1 from rfl, Nat.testBit_two_pow_sub_one]
        simpa using hi
      simp only [Nat.testBit_and, Nat.testBit_xor, Nat.testBit_or, Nat.zero_testBit, hone] at b0 b1 b2
      revert b0 b1 b2
      cases x.toNat.testBit i <;> cases y.toNat.testBit i <;> cases r.rw.testBit i <;> cases r.rsv.testBit i <;> simp
    · rw [Nat.testBit_lt_two_pow (Nat.lt_of_lt_of_le x.isLt (Nat.pow_le_pow_right (by decide) (by omega))),
        Nat.testBit_lt_two_pow (Nat.lt_of_lt_of_le y.isLt (Nat.pow_le_pow_right (by decide) (by omega)))]
  set v := s.fresh.spiLost a with hv
  have hvchg : Chg (fun z => z ∈ contendRegs) (Parts []) NoMem s v := Chg.refl.fresh.spiLost a fun _ h => h
  have hvreg : v.reg a = s.reg a := hvchg.reg a hout
  have hvrd : v.rd a = s.rd a := State.rd_eq_of_reg hvreg
  set u := (v.keepWord a y.toNat).keepWord a x.toNat with hu
  have hframe : Chg (Listed (a :: contendRegs)) (Parts []) NoMem s u :=
    ((hvchg.mono (fun z hz => .inl (List.mem_cons_of_mem _ hz)) (fun _ h => h) fun _ h => h).keepWord _ _ (.inl List.mem_cons_self)).keepWord _ _
      (.inl List.mem_cons_self)
  have hnot {b : Nat} (h1 : b ≠ a) (h2 : b ∉ contendRegs) (h3 : b ∉ summaries) : ¬ Listed (a :: contendRegs) b := by
    rintro (h | h)
    · exact (List.mem_cons.mp h).elim h1 h2
    · exact h3 h
  have howed : u.effectOwed a = false :=
    (effectOwed_of_chg hframe (hnot (Ne.symm hpwr) (by decide) (by decide)) (hnot (Ne.symm hmod) (by decide) (by decide)) (by simp) (by simp)).trans hd.2.2
  have hserved : served [⟨.mp, p, 15, x⟩, ⟨.spi, q, 15, y⟩] = [⟨.spi, q, 15, y⟩, ⟨.mp, p, 15, x⟩] := rfl
  have hrow' : rowAt s.fresh.variant a = some r := hrow
  have heff : s.fresh.words a [⟨.mp, p, 15, x⟩, ⟨.spi, q, 15, y⟩] = u := by
    rw [words_busWrites htest]
    unfold State.busWrites
    simp only [hserved, List.partition_eq_filter_filter, List.filter_cons, h4, beq_self_eq_true, List.filter_nil, forL,
      Bool.and_self, if_true, Nat.reduceMod, Function.comp, Bool.not_true, List.foldl_nil, List.map_cons, List.map_nil, hrow',
      List.foldl_cons, Bool.false_eq_true, if_false, List.isEmpty_cons, hprv, Nat.and_zero, bne_self_eq_false, Bool.and_false, State.when_false, hpost]
    rw [show s.fresh.masterPriv .mp p = true from rfl, contend_spi (hdiff _),
      land_two hw hsc hwo hprv hp x.isLt y.isLt hfull hrw (by rw [← hv, hvrd]; exact hx r hrow) (by rw [← hv, hvrd]; exact hy r hrow) hxy]
    exact act_irqEnable ha howed _ _
  have hfld {f : Fld} (hf : f.adr = A.SYS_CONTEND) : (s.seal u).fld f = v.fld f := by
    refine (State.fld_seal_of (by rw [hf]; decide)).trans (State.fld_eq_of_reg ?_)
    have hfa : f.adr ≠ a := fun h => hout (by rw [← h, hf]; decide)
    rw [hu, State.reg_keepWord_ne _ _ hfa, State.reg_keepWord_ne _ _ hfa]
  have hlt : a < 2 ^ 24 := by
    rcases irqEnables_cases ha with rfl | rfl | rfl | rfl <;> decide
  refine answers_effect _ rfl heff hframe ⟨?_, ?_, ?_, ?_, ?_, ?_, ?_, ?_, ?_, hframe.framed⟩
  · rw [State.reg_seal _ _ hsum]
    exact keepWord_reg x
  · rw [hfld rfl, spiLost_fld rfl]
    simp (disch := decide) only [State.fld_set_free, State.fld_set_same]
    rfl
  · rw [State.on, hfld rfl, spiLost_fld rfl]
    simp (disch := decide) only [State.fld_set_free, State.fld_set_same]
    rfl
  · rw [State.on, hfld rfl, spiLost_fld rfl]
    simp (disch := decide) only [State.fld_set_free, State.fld_set_same]
    rfl
  · rw [State.on, hfld rfl, spiLost_fld rfl]
    simp (disch := decide) only [State.fld_set_free, State.fld_set_same]
    rfl
  · rw [State.on, hfld rfl, spiLost_fld rfl]
    simp (disch := decide) only [State.fld_set_same]
    rfl
  · rw [hfld rfl, spiLost_fld rfl]
    simp (disch := decide) only [State.fld_set_free, State.fld_set_same]
    exact Nat.mod_eq_of_lt hlt
  · have hne' : A.SYS_CNT_CONTENDS ≠ a := fun h => hout (by rw [← h]; decide)
    rw [Counts, State.rd_eq_of_reg (State.reg_seal _ _ (by decide)), hu, State.rd_eq_of_reg (State.reg_keepWord_ne _ _ hne'),
      State.rd_eq_of_reg (State.reg_keepWord_ne _ _ hne'), hv, State.spiLost, State.rd_event_ne (by decide), State.rd_inc_counts (by decide)]
    simp (disch := decide) only [State.rd_set_ne, State.rd_wr_ne]
    rfl
  · have hne' : A.SYS_EVT ≠ a := fun h => hout (by rw [← h]; decide)
    rw [State.on_seal _ _ (by decide), State.on, State.fld_eq_of_reg (State.reg_keepWord_ne _ _ hne'),
      State.fld_eq_of_reg (State.reg_keepWord_ne _ _ hne'), ← State.on]
    exact State.on_event_same _ (by decide)

/-! ### Event bits, privileged fields and addresses with no register (R415, R416, R420, R422) -/

theorem rowAt_sysEvt (v : Variant) : ∃ r, rowAt v A.SYS_EVT = some r ∧ r.w1c = 63 ∧ r.sc = 0 ∧ r.wo = 0 ∧ r.rw = 0 ∧ r.prv = 0 ∧ r.rsv = 0 ∧
    postedAt A.SYS_EVT r = none :=
  ⟨_, by cases v <;> rfl, rfl, rfl, rfl, rfl, rfl, rfl, rfl⟩

theorem clearBits_of_zero (n : Nat) : clearBits n 0 = n := by
  rw [clearBits, Nat.and_zero, Nat.xor_zero]

/-- A write of a register that has only event bits clears those written as 1. -/
theorem land_events {r : Row} {p : Bool} {n : Nat} (hsc : r.sc = 0) (hwo : r.wo = 0) (hrw : r.rw = 0) (hprv : r.prv = 0)
    (hrsv : r.rsv = 0) (hp : isPlaceAdr a = false) :
    v.land a r [(m, p, n)] = (v.keepWord a (clearBits (v.rd a) (n &&& r.w1c &&& 0xFFFFFFFF))).act m p a (v.reg a) 0 := by
  have hmay : r.mayWrite p = 0xFFFFFFFF := by
    unfold Row.mayWrite
    rw [hprv]
    cases p <;> rfl
  have hkeep (t : State) : t.keepWord a (t.rd a) = t := if_pos rfl
  have hnone (t : State) : t.when (n &&& r.w1c &&& 0xFFFFFFFF != 0) (fun s => s.keepWord a (clearBits (s.rd a) (n &&& r.w1c &&& 0xFFFFFFFF))) =
      t.keepWord a (clearBits (t.rd a) (n &&& r.w1c &&& 0xFFFFFFFF)) := by
    by_cases h : n &&& r.w1c &&& 0xFFFFFFFF = 0
    · rw [h, clearBits_of_zero, hkeep]
      rfl
    · rw [bne_iff_ne.mpr h, State.when_true]
  simp only [State.land, List.foldl_cons, List.foldl_nil, Nat.zero_or, hmay, hsc, hwo, hrw, Nat.or_zero, Nat.and_zero, Nat.zero_and, forL,
    State.rsvCheck, hrsv, if_true, hp, Bool.false_eq_true, if_false, List.getLast?_singleton, clearBits_of_zero, hkeep, hnone]

theorem sysEvt_effect (t : State) (p : Bool) (old : Word) : t.regEffect m p A.SYS_EVT old 0 = t := rfl

theorem answers_registerWrite_events {x : Word} (hd : Direct s m priv A.SYS_EVT) :
    Answers (.registerWrite A.SYS_EVT (whole m priv x)) s fun t =>
      t.rd A.SYS_EVT = clearBits (s.rd A.SYS_EVT) (x.toNat % 64) ∧ Framed [A.SYS_EVT] [] s t := by
  obtain ⟨r, hrow, hw, hsc, hwo, hrw, hprv, hrsv, hpost⟩ := rowAt_sysEvt s.variant
  have hmask : x.toNat &&& r.w1c &&& 0xFFFFFFFF = x.toNat % 64 := by
    rw [hw, show (63 : Nat) = 2 ^ 6 - 1 from rfl, Nat.and_two_pow_sub_one_eq_mod, show (0xFFFFFFFF : Nat) = 2 ^ 32 - 1 from rfl,
      Nat.and_two_pow_sub_one_eq_mod]
    exact Nat.mod_eq_of_lt (Nat.lt_of_lt_of_le (Nat.mod_lt _ (by decide)) (by decide))
  set u := s.fresh.keepWord A.SYS_EVT (clearBits (s.rd A.SYS_EVT) (x.toNat % 64)) with hu
  have hframe : Chg (Listed [A.SYS_EVT]) (Parts []) NoMem s u := Chg.refl.fresh.keepWord _ _ (.inl List.mem_cons_self)
  have howed : u.effectOwed A.SYS_EVT = false := (effectOwed_keepWord _ (by decide) (by decide)).trans hd.2.2
  have heff : s.fresh.words A.SYS_EVT (whole m priv x) = u := by
    rw [State.words_land s.fresh m priv _ x r (by decide) (by decide) hrow (hd.prv hrow _) hpost, land_events hsc hwo hrw hprv hrsv (by decide), hmask,
      State.act]
    rw [show (s.fresh.keepWord A.SYS_EVT (clearBits (s.fresh.rd A.SYS_EVT) (x.toNat % 64))) = u from rfl, howed, sysEvt_effect, Bool.false_and,
      if_neg Bool.false_ne_true, ite_self]
  refine answers_effect _ rfl heff hframe ⟨?_, hframe.framed⟩
  rw [State.rd_eq_of_reg (State.reg_seal _ _ (by decide)), hu, rd_keepWord_mod]
  exact Nat.mod_eq_of_lt (clearBits_lt _ _ (s.rd_lt _))

theorem rowAt_spliceCtl (v : Variant) : ∃ r, rowAt v A.SPLICE_CTL = some r ∧ r.w1c = 0 ∧ r.sc = 7 ∧ r.wo = 0 ∧ r.rw = 0 ∧ r.prv = 4 ∧
    postedAt A.SPLICE_CTL r = none :=
  ⟨_, by cases v <;> rfl, rfl, rfl, rfl, rfl, rfl, rfl⟩

/-- An unprivileged write of a privileged command bit faults and commands nothing. -/
theorem answers_registerWrite_priv {x : Word} (ho : s.effectOwed A.SPLICE_CTL = false) (hp : s.masterPriv m priv = false)
    (hr : AsItReads s A.SPLICE_CTL x) (hx : x.toNat % 8 = 4) :
    Answers (.registerWrite A.SPLICE_CTL (whole m priv x)) s fun t =>
      AccessFault F.SYS_ACC_STATUS_PRIV_VIOL F.SYS_EVT_PRIV_VIOL m A.SPLICE_CTL s t ∧ Framed accRegs [] s t := by
  obtain ⟨r, hrow, hw, hsc, hwo, hrw, hprv, hpost⟩ := rowAt_spliceCtl s.variant
  have hlow (k : Nat) (hk : k < 8) : x.toNat &&& k = (x.toNat % 8) &&& k := by
    apply Nat.eq_of_testBit_eq
    intro i
    rw [Nat.testBit_and, Nat.testBit_and, show (8 : Nat) = 2 ^ 3 from rfl, Nat.testBit_mod_two_pow]
    by_cases hi : i < 3
    · simp [hi]
    · rw [Nat.testBit_lt_two_pow (Nat.lt_of_lt_of_le (show k < 2 ^ 3 from hk) (Nat.pow_le_pow_right (by decide) (by omega)))]
      simp
  have h4 : x.toNat &&& r.prv = 4 := by rw [hprv, hlow 4 (by decide), hx]; rfl
  have hcmd : x.toNat &&& (r.sc ||| r.wo) &&& r.mayWrite false = 0 := by
    unfold Row.mayWrite
    rw [hsc, hwo, hprv, show 7 ||| 0 = 7 from rfl, hlow 7 (by decide), hx]
    rfl
  set u := s.fresh.accFault .priv m A.SPLICE_CTL with hu
  have hframe : Chg (Listed accRegs) (Parts []) NoMem s u := Chg.refl.fresh.accFault _ _ _ fun _ h => .inl h
  have hreg : u.reg A.SPLICE_CTL = s.reg A.SPLICE_CTL := hframe.reg _ (by unfold Listed; decide)
  have hrd : u.rd A.SPLICE_CTL = s.rd A.SPLICE_CTL := State.rd_eq_of_reg hreg
  have howed : u.effectOwed A.SPLICE_CTL = false :=
    (effectOwed_of_chg hframe (by unfold Listed; decide) (by unfold Listed; decide) (by simp) (by simp)).trans ho
  have hrow' : rowAt s.fresh.variant A.SPLICE_CTL = some r := hrow
  have hfresh : s.fresh.masterPriv m priv = false := hp
  have heff : s.fresh.words A.SPLICE_CTL (whole m priv x) = u := by
    rw [words_busWrites (by decide), busWrites_row (by decide) hrow']
    dsimp only
    rw [hpost, hfresh, h4, show (!false && (4 : Nat) != 0) = true from rfl, State.when_true]
    dsimp only
    rw [State.land_one _ _ _ _ _ _ hw (by rw [← hu, hrd]; exact hr r hrow) (by decide), hrw, Nat.zero_and, hsc, hwo,
      show clearBits 0 (7 ||| 0) = 0 from rfl, Nat.and_zero, Nat.or_zero, clearBits_of_zero, ← hsc, ← hwo, hcmd, ← hu,
      show u.keepWord A.SPLICE_CTL (u.rd A.SPLICE_CTL) = u from if_pos rfl]
    exact act_idle howed (by decide)
  exact answers_effect _ rfl heff hframe ⟨accessFault_of (b := .priv) (v := s.fresh) (fun _ _ => rfl) fun _ _ => rfl, hframe.framed⟩

/-- A write of an address with no register and no window is ignored. -/
theorem untouched_registerWrite {x : Word} (h4 : a % 4 = 0) (hrow : rowAt s.variant a = none) (ha : a < 0xF000 ∨ (0x10000 ≤ a ∧ a < 0x200000)) :
    Untouched (.registerWrite a (whole m priv x)) s := by
  have htest : a ≠ A.TEST_CTL := fun h => by
    rw [h] at hrow
    cases hv : s.variant <;> rw [hv] at hrow <;> cases hrow
  have hwin (p : Bool) (w : Word) : s.fresh.windowWrite a m p w = none := by
    unfold State.windowWrite
    rw [if_neg (by simp only [bar2Base]; omega), if_neg (by omega), if_neg (by omega), if_neg (by omega), if_neg (by omega)]
  have hrow' : rowAt s.fresh.variant a = none := hrow
  refine untouched_effect _ rfl ?_
  show s.fresh.words a (whole m priv x) = s.fresh
  rw [words_busWrites htest]
  unfold State.busWrites whole
  simp only [served_one, List.partition_eq_filter_filter, List.filter_cons, h4, beq_self_eq_true, List.filter_nil, forL,
    Bool.and_self, if_true, Nat.reduceMod, Function.comp, Bool.not_true, List.foldl_nil, List.map_cons, List.map_nil, hrow',
    List.foldl_cons, Bool.false_eq_true, if_false, hwin, Option.getD_none]

/-! ### Posted writes (R414) -/

theorem rowAt_testYield (v : Variant) : ∃ r, rowAt v A.TEST_YIELD = some r ∧ r.prv = 0 ∧ postedAt A.TEST_YIELD r = some 0 :=
  ⟨_, by cases v <;> rfl, rfl, rfl⟩

theorem words_testYield {x : Word} : s.fresh.words A.TEST_YIELD (whole m priv x) = s.fresh.post 0 A.TEST_YIELD m (s.masterPriv m priv) x := by
  obtain ⟨r, hrow, hprv, hpost⟩ := rowAt_testYield s.variant
  have hrow' : rowAt s.fresh.variant A.TEST_YIELD = some r := hrow
  rw [words_busWrites (by decide), busWrites_row (by decide) hrow']
  dsimp only
  rw [hpost, hprv, Nat.and_zero, bne_self_eq_false, Bool.and_false, State.when_false]
  rfl

theorem answers_registerWrite_post {x : Word} (h : s.posted 0 < 64) :
    Answers (.registerWrite A.TEST_YIELD (whole m priv x)) s fun t =>
      t.bus = { s.bus with posts := s.bus.posts ++ [⟨0, A.TEST_YIELD, x, m, s.masterPriv m priv⟩] } ∧ Framed [] [.bus] s t := by
  set u : State := { s.fresh with bus := { s.bus with posts := s.bus.posts ++ [⟨0, A.TEST_YIELD, x, m, s.masterPriv m priv⟩] } } with hu
  have hroom : ¬ domainDepth 0 ≤ s.fresh.posted 0 := Nat.not_le.mpr h
  have heff : s.fresh.words A.TEST_YIELD (whole m priv x) = u := words_testYield.trans (if_neg hroom)
  have hframe : Chg (Listed []) (Parts [.bus]) NoMem s u := Chg.refl.fresh.bus _ (by simp)
  refine answers_effect _ rfl heff hframe ⟨?_, hframe.framed⟩
  rw [State.seal_bus]

/-- The registers that show a lost posted write. -/
def State.postLostAt (v : State) (d a : Nat) (m : Master) : State :=
  v.when (!v.on F.SYS_POST_STATUS_POST_LOST) fun s =>
    ((s.set F.SYS_POST_LOST_ADDR_MASTER m.code).set F.SYS_POST_LOST_ADDR_DOMAIN d).set F.SYS_POST_LOST_ADDR_ADDR a

theorem answers_registerWrite_lost {x : Word} (h : 64 ≤ s.posted 0) :
    Answers (.registerWrite A.TEST_YIELD (whole m priv x)) s fun t =>
      t.on F.SYS_POST_STATUS_POST_LOST = true ∧ t.on F.SYS_EVT_POST_LOST = true ∧
      (s.on F.SYS_POST_STATUS_POST_LOST = false →
        t.fld F.SYS_POST_LOST_ADDR_MASTER = m.code ∧ t.fld F.SYS_POST_LOST_ADDR_DOMAIN = 0 ∧
        t.fld F.SYS_POST_LOST_ADDR_ADDR = A.TEST_YIELD) ∧
      (s.on F.SYS_POST_STATUS_POST_LOST = true → t.reg A.SYS_POST_LOST_ADDR = s.reg A.SYS_POST_LOST_ADDR) ∧
      Framed [A.SYS_POST_STATUS, A.SYS_POST_LOST_ADDR, A.SYS_EVT] [] s t := by
  set v := s.fresh.postLostAt 0 A.TEST_YIELD m with hv
  set u := (v.set F.SYS_POST_STATUS_POST_LOST 1).event F.SYS_EVT_POST_LOST with hu
  have hfull : domainDepth 0 ≤ s.fresh.posted 0 := h
  have heff : s.fresh.words A.TEST_YIELD (whole m priv x) = u := words_testYield.trans (if_pos hfull)
  have hat : Chg (Listed [A.SYS_POST_STATUS, A.SYS_POST_LOST_ADDR, A.SYS_EVT]) (Parts []) NoMem s v :=
    Chg.refl.fresh.when _ _ fun _ => ((Chg.refl.fresh.set _ _ (by simp)).set _ _ (by simp)).set _ _ (by simp)
  have hframe : Chg (Listed [A.SYS_POST_STATUS, A.SYS_POST_LOST_ADDR, A.SYS_EVT]) (Parts []) NoMem s u := (hat.set _ _ (by simp)).event _ (by simp)
  have haddr {f : Fld} (hf : f.adr = A.SYS_POST_LOST_ADDR) : (s.seal u).fld f = v.fld f := by
    rw [State.fld_seal_of (by rw [hf]; decide), hu, State.fld_event_ne (by rw [hf]; decide), State.fld_set_ne _ _ (by rw [hf]; decide)]
  refine answers_effect _ rfl heff hframe ⟨?_, ?_, fun h0 => ?_, fun h1 => ?_, hframe.framed⟩
  · rw [State.on_seal _ _ (by decide), State.on, hu, State.fld_event_ne (by decide), State.fld_set_same _ (by decide)]
    rfl
  · rw [State.on_seal _ _ (by decide)]
    exact State.on_event_same _ (by decide)
  · have hwhen : v = ((s.fresh.set F.SYS_POST_LOST_ADDR_MASTER m.code).set F.SYS_POST_LOST_ADDR_DOMAIN 0).set F.SYS_POST_LOST_ADDR_ADDR A.TEST_YIELD := by
      rw [hv, State.postLostAt, show s.fresh.on F.SYS_POST_STATUS_POST_LOST = false from h0]
      rfl
    rw [haddr rfl, haddr rfl, haddr rfl, hwhen]
    simp (disch := decide) only [State.fld_set_free, State.fld_set_same]
    exact ⟨by cases m <;> rfl, rfl, rfl⟩
  · have hwhen : v = s.fresh := by
      rw [hv, State.postLostAt, show s.fresh.on F.SYS_POST_STATUS_POST_LOST = true from h1]
      rfl
    rw [State.reg_seal _ _ (by decide), hu, State.reg_event_ne _ _ (by decide), State.reg_set_ne _ _ _ (by decide), hwhen]
    rfl

theorem registerWrites : RegisterWrites :=
  ⟨fun _ _ _ _ _ ha hd hr => answers_registerWrite_irq ha hd hr,
    fun _ _ _ _ _ _ ha hd hx hy hne => answers_registerWrite_contend ha hd hx hy hne,
    fun _ _ _ _ hd _ => answers_registerWrite_events hd,
    fun _ _ _ _ _ _ h hn => answers_registerWrite_bad h hn,
    fun _ _ _ _ _ ha hd hx => answers_registerWrite_rsv ha hd hx,
    fun _ _ _ _ ho hp hr hx => answers_registerWrite_priv ho hp hr hx,
    fun _ _ _ _ _ h4 hrow ha => untouched_registerWrite h4 hrow ha,
    fun _ _ _ _ h => answers_registerWrite_post h,
    fun _ _ _ _ h => answers_registerWrite_lost h⟩

end

end Sys2Proof.Machine
end

section

/-! PROOFS. Posted writes, reads and counters (R67, R414 to R417, R478, R479), and O53. -/

namespace Sys2Proof.Machine

section
variable {s v : State} {m : Master} {priv : Bool} {a : Nat}

/-! ### Posted writes -/

theorem landPost_none {d : Nat} (h : v.posted d = 0) : v.landPost d = v := by
  have hnone : v.bus.posts.find? (fun p => p.domain == d) = none := by
    refine List.find?_eq_none.mpr fun p hp hd => ?_
    have hmem : p ∈ v.bus.posts.filter (fun p => p.domain == d) := List.mem_filter.mpr ⟨hp, hd⟩
    rw [List.eq_nil_of_length_eq_zero h] at hmem
    exact absurd hmem List.not_mem_nil
  unfold State.landPost
  rw [hnone]

theorem untouched_postedWriteLand {d : Fin 5} (h : s.posted d.val = 0) (hn : NotStarting s) : Untouched (.postedWriteLand d) s := by
  refine untouched_effect _ rfl ?_
  show (s.fresh.landPost d.val).startupEnd = s.fresh
  rw [landPost_none (v := s.fresh) h]
  exact startupEnd_waits hn

/-- A register of a slow domain that is no more than what is written to it. -/
def Row.storesLate (r : Row) : Bool :=
  r.w1c == 0 && r.sc == 0 && r.wo == 0 && r.prv == 0 && r.rw == 0x1FFFFF && r.rsv == 0xFFE00000 && r.rc == 0

theorem tzDst_row (x : Variant) {k : Nat} (hk : k < 2) : (rowAt x (A.MGMT_TZ_DST k)).any Row.storesLate = true := by
  interval_cases k <;> cases x <;> decide

/-- A whole word lands in a register of a slow domain. -/
theorem land_late {r : Row} (hr : r.storesLate = true) {p : Bool} {x : Word} (hp : isPlaceAdr a = false) (hx : (x.toNat ^^^ v.rd a) &&& r.rsv = 0) :
    v.land a r [(m, p, x.toNat)] = (v.keepWord a x.toNat).act m p a (v.reg a) 0 := by
  simp only [Row.storesLate, Bool.and_eq_true, beq_iff_eq] at hr
  obtain ⟨⟨⟨⟨⟨⟨hw, hsc⟩, hwo⟩, hprv⟩, hrw⟩, hrsv⟩, -⟩ := hr
  have hmay : r.mayWrite p = 0xFFFFFFFF := by
    unfold Row.mayWrite
    rw [hprv]
    cases p <;> rfl
  have hmask : clearBits (r.rw &&& r.mayWrite p) (r.sc ||| r.wo) = r.rw := by
    rw [hmay, hrw, hsc, hwo]
    rfl
  rw [State.land_one _ _ _ _ _ _ hw hx hp, hmask, Row.merge_full _ _ _ r.rsv x.isLt (v.rd_lt a) (by rw [hrw, hrsv]; rfl) hx, hsc, hwo,
    Nat.or_zero, Nat.and_zero, Nat.zero_and]

theorem tzDst_effect {k : Nat} (hk : k < 2) (t : State) (p : Bool) (old : Word) : t.regEffect m p (A.MGMT_TZ_DST k) old 0 = t := by
  interval_cases k <;> rfl

theorem tzDst_notMem {k : Nat} (hk : k < 2) : A.MGMT_TZ_DST k ∉ summaries ∧ isPlaceAdr (A.MGMT_TZ_DST k) = false ∧
    A.MGMT_TZ_DST k ≠ A.PWR_UNIT_STATUS ∧ A.MGMT_TZ_DST k ≠ A.SYS_MOD_STATE ∧ domainOf (A.MGMT_TZ_DST k) = some 0 ∧ A.MGMT_TZ_DST k % 4 = 0 := by
  interval_cases k <;> decide

/-- The bus with fewer posted writes. -/
def State.unposted (v : State) (rest : List Posted) : State := { v with bus := { v.bus with posts := rest } }

theorem landPost_first {q : Posted} {rest : List Posted} {r : Row} (h : v.bus.posts = q :: rest) (hrow : rowAt v.variant q.adr = some r) :
    v.landPost q.domain = (v.unposted rest).land q.adr r [(q.master, q.priv, q.value.toNat)] := by
  have hfind : v.bus.posts.find? (fun p => p.domain == q.domain) = some q := by
    rw [h, List.find?_cons, beq_self_eq_true]
  have hidx : v.bus.posts.eraseIdx (v.bus.posts.findIdx fun p => p.domain == q.domain) = rest := by
    rw [h, List.findIdx_cons, beq_self_eq_true]
    rfl
  unfold State.landPost
  rw [hfind]
  dsimp only
  rw [hidx, hrow]
  rfl

/-- The oldest write of the management domain, one of a daylight-saving word, lands. -/
theorem landPost_tzDst {k : Nat} {p : Bool} {x : Word} {rest : List Posted} (hk : k < 2)
    (hposts : v.bus.posts = ⟨0, A.MGMT_TZ_DST k, x, m, p⟩ :: rest) (hx : AsItReads v (A.MGMT_TZ_DST k) x)
    (ho : v.effectOwed (A.MGMT_TZ_DST k) = false) : v.landPost 0 = (v.unposted rest).keepWord (A.MGMT_TZ_DST k) x.toNat := by
  obtain ⟨hsum, hplace, hpwr, hmod, -, -⟩ := tzDst_notMem hk
  obtain ⟨r, hrow, hr⟩ := (Option.any_eq_true _ _).mp (tzDst_row v.variant hk)
  have hact (w : State) (old : Word) (hw : w.effectOwed (A.MGMT_TZ_DST k) = false) :
      (w.keepWord (A.MGMT_TZ_DST k) x.toNat).act m p (A.MGMT_TZ_DST k) old 0 = w.keepWord (A.MGMT_TZ_DST k) x.toNat := by
    unfold State.act
    rw [effectOwed_keepWord _ hpwr hmod, hw, tzDst_effect hk, Bool.false_and, if_neg Bool.false_ne_true, ite_self]
  have hfirst : v.landPost 0 = (v.unposted rest).land (A.MGMT_TZ_DST k) r [(m, p, x.toNat)] :=
    landPost_first (q := ⟨0, A.MGMT_TZ_DST k, x, m, p⟩) hposts hrow
  have hrd : (x.toNat ^^^ (v.unposted rest).rd (A.MGMT_TZ_DST k)) &&& r.rsv = 0 := hx r hrow
  have howed : (v.unposted rest).effectOwed (A.MGMT_TZ_DST k) = false := ho
  rw [hfirst, land_late hr hplace hrd]
  exact hact (v.unposted rest) _ howed

theorem answers_postedWriteLand {k : Nat} {p : Bool} {x : Word} {rest : List Posted} (hk : k < 2)
    (hposts : s.bus.posts = ⟨0, A.MGMT_TZ_DST k, x, m, p⟩ :: rest) (hx : AsItReads s (A.MGMT_TZ_DST k) x)
    (ho : s.effectOwed (A.MGMT_TZ_DST k) = false) (hn : NotStarting s) :
    Answers (.postedWriteLand 0) s fun t =>
      t.reg (A.MGMT_TZ_DST k) = x ∧ t.bus = { s.bus with posts := rest } ∧ Framed [A.MGMT_TZ_DST k] [.bus] s t := by
  obtain ⟨hsum, -⟩ := tzDst_notMem hk
  set u := (s.fresh.unposted rest).keepWord (A.MGMT_TZ_DST k) x.toNat with hu
  have hframe : Chg (Listed [A.MGMT_TZ_DST k]) (Parts [.bus]) NoMem s u := (Chg.refl.fresh.bus _ (by simp)).keepWord _ _ (.inl List.mem_cons_self)
  have hstart : NotStarting u := by
    unfold NotStarting
    rw [hframe.part .test (by simp)]
    exact hn
  have heff : (s.fresh.landPost 0).startupEnd = u := by
    rw [landPost_tzDst (v := s.fresh) hk hposts hx ho]
    exact startupEnd_waits hstart
  refine answers_effect _ rfl heff hframe ⟨?_, ?_, hframe.framed⟩
  · rw [State.reg_seal _ _ hsum]
    exact keepWord_reg x
  · rw [State.seal_bus, hu, State.keepWord_bus]
    rfl

/-! ### Reads -/

/-- A plain register is read as it stands. -/
theorem regRead_plain {r : Row} {p : Bool} (hr : r.plainRead = true) (hU : v.unitAwake (unitOf a) = true) (h13 : a / 0x10000 ≠ 13)
    (he : v.readEffect m a = v) : v.regRead m p a r = (v.liveReg m a, v) := by
  simp only [Row.plainRead, Bool.and_eq_true, beq_iff_eq] at hr
  obtain ⟨⟨hsc, hprv⟩, hrc⟩ := hr
  have hall : r.allPrv = false := by rw [Row.allPrv, hprv]; rfl
  have hno : ¬ (a % 0x100 = 0x10 ∧ a / 0x10000 = 13 ∧ True ∧ a < A.HMQ_RD_DATA 4) := fun h => absurd h.2.1 h13
  simp only [State.regRead, hall, Bool.and_false, hU, hno, hsc, hprv, hrc, clearBits_zero, ite_self, he, State.when,
    bne_self_eq_false, if_true, Bool.false_eq_true, if_false]

/-- A read of a slow domain waits for what was posted to it. -/
theorem busRead_slow {w : State} {d : Nat} (h4 : a % 4 = 0) (hdom : domainOf a = some d) (hd : v.drain d = w)
    (hrow : (rowAt w.variant a).any Row.plainRead = true) (hU : w.unitAwake (unitOf a) = true) (h13 : a / 0x10000 ≠ 13) (he : w.readEffect m a = w) :
    v.busRead m priv a = w.responds m (w.liveReg m a) := by
  obtain ⟨r, hrow, hplain⟩ := (Option.any_eq_true _ _).mp hrow
  have hget : v.busGet m priv a = (w.liveReg m a, w) := by
    rw [State.busGet, if_neg (fun h => h h4), hdom]
    dsimp only
    rw [hd, hrow]
    exact regRead_plain hplain hU h13 he
  rw [State.busRead, hget]
  rfl

theorem testYield_plain (x : Variant) : (rowAt x A.TEST_YIELD).any Row.plainRead = true := by cases x <;> decide

theorem tzDst_plain (x : Variant) {k : Nat} (hk : k < 2) : (rowAt x (A.MGMT_TZ_DST k)).any Row.plainRead = true := by
  interval_cases k <;> cases x <;> decide

theorem drain_none {d : Nat} (h : v.bus.posts = []) : v.drain d = v := by
  rw [State.drain, State.posted, h]
  rfl

theorem ofNat_rd (t : State) (a : Nat) : BitVec.ofNat 32 (t.rd a) = t.reg a := by
  rw [State.rd, BitVec.ofNat_toNat, BitVec.setWidth_eq]

theorem liveReg_testYield (t : State) : t.liveReg m A.TEST_YIELD = t.rd A.TEST_YIELD := rfl
theorem testYield_readEffect (t : State) : t.readEffect m A.TEST_YIELD = t := rfl

theorem answers_read_testYield (hposts : s.bus.posts = []) (hU : s.unitAwake 0 = true) :
    Answers (.slowDomainRead A.TEST_YIELD m priv) s fun t => Returned m (s.reg A.TEST_YIELD) s t ∧ Framed [] [.resp] s t := by
  have hread : s.fresh.busRead m priv A.TEST_YIELD = s.fresh.responds m (s.rd A.TEST_YIELD) :=
    busRead_slow (v := s.fresh) (d := 0) (by decide) (by decide) (drain_none hposts) (testYield_plain _) hU (by decide) (testYield_readEffect _)
  have hans := answers_slowDomainRead hread
  rwa [ofNat_rd] at hans

theorem liveReg_tzDst (t : State) {k : Nat} (hk : k < 2) : t.liveReg m (A.MGMT_TZ_DST k) = t.rd (A.MGMT_TZ_DST k) := by
  interval_cases k <;> rfl

theorem tzDst_readEffect (t : State) {k : Nat} (hk : k < 2) : t.readEffect m (A.MGMT_TZ_DST k) = t := by
  interval_cases k <;> rfl

theorem tzDst_unit {k : Nat} (hk : k < 2) : unitOf (A.MGMT_TZ_DST k) = 0 ∧ A.MGMT_TZ_DST k / 0x10000 ≠ 13 ∧ testBlockOf (A.MGMT_TZ_DST k) = none := by
  interval_cases k <;> decide

/-- A read waits for a write posted before it. -/
theorem answers_read_tzDst {k : Nat} {by' : Master} {p : Bool} {x : Word} (hk : k < 2)
    (hposts : s.bus.posts = [⟨0, A.MGMT_TZ_DST k, x, by', p⟩]) (hx : AsItReads s (A.MGMT_TZ_DST k) x) (ho : s.effectOwed (A.MGMT_TZ_DST k) = false) :
    Answers (.slowDomainRead (A.MGMT_TZ_DST k) m priv) s fun t =>
      Returned m x s t ∧ t.bus.posts = [] ∧ t.reg (A.MGMT_TZ_DST k) = x ∧ Framed [A.MGMT_TZ_DST k] [.bus, .resp] s t := by
  obtain ⟨hsum, -, hpwr, hmod, hdom, h4⟩ := tzDst_notMem hk
  obtain ⟨hunit, h13, hblock⟩ := tzDst_unit hk
  set w := (s.fresh.unposted []).keepWord (A.MGMT_TZ_DST k) x.toNat with hw
  have hchg : Chg (Listed [A.MGMT_TZ_DST k]) (Parts [.bus, .resp]) NoMem s w := (Chg.refl.fresh.bus _ (by simp)).keepWord _ _ (.inl List.mem_cons_self)
  have hone : s.fresh.posted 0 = 1 := by
    rw [State.posted, show s.fresh.bus.posts = _ from hposts]
    rfl
  have hdrain : s.fresh.drain 0 = w := by
    rw [State.drain, hone, hw, ← landPost_tzDst (v := s.fresh) hk hposts hx ho]
    rfl
  have hU : w.unitAwake (unitOf (A.MGMT_TZ_DST k)) = true := by
    have howed : w.effectOwed (A.MGMT_TZ_DST k) = false := (effectOwed_keepWord _ hpwr hmod).trans ho
    unfold State.effectOwed at howed
    rw [hblock, Bool.or_false, Bool.not_eq_false'] at howed
    exact howed
  have hread : s.fresh.busRead m priv (A.MGMT_TZ_DST k) = w.responds m (w.rd (A.MGMT_TZ_DST k)) := by
    rw [busRead_slow h4 hdom hdrain (tzDst_plain _ hk) hU h13 (tzDst_readEffect _ hk), liveReg_tzDst _ hk]
  have hframe : Chg (Listed [A.MGMT_TZ_DST k]) (Parts [.bus, .resp]) NoMem s (w.responds m (w.rd (A.MGMT_TZ_DST k))) := hchg.resp _ (by simp)
  have hreg : w.reg (A.MGMT_TZ_DST k) = x := keepWord_reg x
  refine answers_effect _ rfl hread hframe ⟨?_, ?_, ?_, hframe.framed⟩
  · rw [Returned, State.seal_resp, State.responds, ofNat_rd, hreg, hw, State.keepWord_resp]
    rfl
  · rw [State.seal_bus, State.responds, hw, State.keepWord_bus]
    rfl
  · rw [State.reg_seal _ _ hsum]
    exact hreg

theorem answers_read_misaligned (h4 : a % 4 ≠ 0) :
    Answers (.slowDomainRead a m priv) s fun t =>
      Returned m 0 s t ∧ AccessFault F.SYS_ACC_STATUS_ACC_ERR F.SYS_EVT_ACC_ERR m a s t ∧ Framed accRegs [.resp] s t := by
  set w := s.fresh.accFault .err m a with hw
  have hchg : Chg (Listed accRegs) (Parts []) NoMem s w := Chg.refl.fresh.accFault _ _ _ fun _ h => .inl h
  have hread : s.fresh.busRead m priv a = w.responds m 0 := by
    rw [State.busRead, State.busGet, if_pos h4]
    rfl
  have hframe : Chg (Listed accRegs) (Parts [.resp]) NoMem s (w.responds m 0) := (hchg.mono (fun _ h => h) (by simp) fun _ h => h).resp _ (by simp)
  refine answers_effect _ rfl hread hframe ⟨?_, accessFault_of (b := .err) (v := s.fresh) (fun _ _ => rfl) fun _ _ => rfl, hframe.framed⟩
  rw [Returned, State.seal_resp, State.responds, hchg.part .resp (by simp)]
  rfl

/-! ### Counters (R67) -/

/-- A counter that a read clears. -/
def Row.clearsWhenRead (r : Row) : Bool := r.sc ||| r.wo == 0 && r.prv == 0 && r.rc == 0xFFFFFFFF

theorem mstat_row (x : Variant) : ∀ i < 60, (rowAt x (mstatAdr i)).any Row.clearsWhenRead = true := by
  cases x <;> decide

theorem mstat_adr : ∀ i < 60, mstatAdr i % 4 = 0 ∧ mstatAdr i / 0x10000 = 3 ∧ mstatAdr i ∉ summaries ∧ domainOf (mstatAdr i) = none := by decide

theorem liveReg_mstat (t : State) {i : Nat} (hi : i < 60) : t.liveReg m (mstatAdr i) = t.rd (mstatAdr i) := by
  unfold State.liveReg
  rw [(mstat_adr i hi).2.1]
  rfl

theorem mstat_readEffect (t : State) {i : Nat} (hi : i < 60) : t.readEffect m (mstatAdr i) = t := by
  obtain ⟨-, hpage, -, -⟩ := mstat_adr i hi
  have hne {b : Nat} (hb : b / 0x10000 ≠ 3) : mstatAdr i ≠ b := fun h => hb (h ▸ hpage)
  have hlow : mstatAdr i < A.MGMT_LIFE_LO 0 := by
    simp only [A.MGMT_LIFE_LO]
    omega
  have htotal : totalAt (mstatAdr i) = none := by
    unfold totalAt
    exact if_pos (by simp only [A.MGMT_MSTAT_TOTAL]; omega)
  unfold State.readEffect
  rw [if_neg (hne (by decide)), if_neg (hne (by decide)), if_neg (hne (by decide)), if_neg (fun h => absurd h.1 (by omega)), htotal]

theorem answers_counterRead {i : Nat} (hi : i < 60) (hU : s.unitAwake 3 = true) :
    Answers (.counterRead (mstatAdr i) m priv) s fun t =>
      Returned m (s.reg (mstatAdr i)) s t ∧ t.rd (mstatAdr i) = 0 ∧ Framed [mstatAdr i] [.resp] s t := by
  obtain ⟨h4, hpage, hsum, hdom⟩ := mstat_adr i hi
  obtain ⟨r, hrow, hr⟩ := (Option.any_eq_true _ _).mp (mstat_row s.variant i hi)
  simp only [Row.clearsWhenRead, Bool.and_eq_true, beq_iff_eq] at hr
  obtain ⟨⟨hsc, hprv⟩, hrc⟩ := hr
  have hall : r.allPrv = false := by rw [Row.allPrv, hprv]; rfl
  have hunit : unitOf (mstatAdr i) = 3 := by simp [unitOf, hpage]
  have hno : ¬ (mstatAdr i % 0x100 = 0x10 ∧ 3 = 13 ∧ True ∧ mstatAdr i < A.HMQ_RD_DATA 4) := fun h => absurd h.2.1 (by decide)
  set w := s.fresh.keepWord (mstatAdr i) 0 with hw
  have hclear : clearBits (s.fresh.rd (mstatAdr i)) 0xFFFFFFFF = 0 := by
    rw [clearBits, show (0xFFFFFFFF : Nat) = 2 ^ 32 - 1 from rfl, Nat.and_two_pow_sub_one_eq_mod, Nat.mod_eq_of_lt (s.fresh.rd_lt _), Nat.xor_self]
  have hget : s.fresh.regRead m (s.fresh.masterPriv m priv) (mstatAdr i) r = (s.rd (mstatAdr i), w) := by
    have hU' : s.fresh.unitAwake 3 = true := hU
    simp only [State.regRead, hall, Bool.and_false, hunit, hU', hpage, hno, hsc, hprv, hrc, clearBits_zero, ite_self, mstat_readEffect _ hi,
      liveReg_mstat _ hi, State.when_true, if_true, Bool.false_eq_true, if_false, hclear, show ((0xFFFFFFFF : Nat) != 0) = true from rfl]
    rfl
  have hread : s.fresh.busRead m priv (mstatAdr i) = w.responds m (s.rd (mstatAdr i)) := by
    rw [State.busRead, State.busGet, if_neg (fun h => h h4), hdom]
    dsimp only
    rw [show rowAt s.fresh.variant (mstatAdr i) = some r from hrow]
    dsimp only
    rw [hget]
    rfl
  have hframe : Chg (Listed [mstatAdr i]) (Parts [.resp]) NoMem s (w.responds m (s.rd (mstatAdr i))) :=
    (Chg.refl.fresh.keepWord _ _ (.inl List.mem_cons_self)).resp _ (by simp)
  refine answers_effect _ rfl hread hframe ⟨?_, ?_, hframe.framed⟩
  · rw [Returned, State.seal_resp, State.responds, ofNat_rd, hw, State.keepWord_resp]
    rfl
  · rw [State.rd_eq_of_reg (State.reg_seal _ _ hsum)]
    exact rd_keepWord_mod _ _ _

/-! ### Lifetime counters and totals (R478, R479) -/

theorem lifeLo_row (x : Variant) : ∀ k < 23, (rowAt x (A.MGMT_LIFE_LO k)).any Row.plainRead = true := by
  cases x <;> decide

theorem lifeLo_index (k : Nat) : (A.MGMT_LIFE_LO k - A.MGMT_LIFE_LO 0) = 8 * k := by
  simp only [A.MGMT_LIFE_LO]
  omega

theorem liveReg_lifeLo (hs : v.mgmt.started = true) {k : Nat} (hk : k < 23) :
    v.liveReg m (A.MGMT_LIFE_LO k) = getAt v.mgmt.life k 0 % 2 ^ 32 := by
  have hread : v.lifeRead m (A.MGMT_LIFE_LO k) = getAt v.mgmt.life k 0 % 2 ^ 32 := by
    unfold State.lifeRead
    rw [lifeLo_index, hs]
    rw [if_neg (by decide), if_pos (by omega), Nat.mul_div_cancel_left _ (by decide)]
  have hlive : v.liveReg m (A.MGMT_LIFE_LO k) = v.lifeRead m (A.MGMT_LIFE_LO k) := by
    interval_cases k <;> rfl
  rw [hlive, hread]

/-- The low word of a lifetime counter latches the high one. -/
def State.lifeLatched (v : State) (m : Master) (k : Nat) : State :=
  v.updMgmt fun x => { x with
    lifeLatch := setAt x.lifeLatch m.code (getAt x.life k 0 / 2 ^ 32)
    lifeLatchSat := setAt x.lifeLatchSat m.code (x.lifeSat.testBit k) }

theorem lifeLo_readEffect (hs : v.mgmt.started = true) {k : Nat} (hk : k < 23) : v.readEffect m (A.MGMT_LIFE_LO k) = v.lifeLatched m k := by
  unfold State.readEffect
  rw [if_neg (by simp only [A.MGMT_LIFE_LO, A.TIME_TB_NS]; omega), if_neg (by simp only [A.MGMT_LIFE_LO, A.TIME_CAPQ_INFO]; omega),
    if_neg (by simp only [A.MGMT_LIFE_LO, A.PLAY_NOW_EF]; omega),
    if_pos ⟨by simp only [A.MGMT_LIFE_LO]; omega, by simp only [A.MGMT_LIFE_LO]; omega, by simp only [A.MGMT_LIFE_LO]; omega, hs⟩]
  dsimp only
  rw [lifeLo_index, Nat.mul_div_cancel_left _ (by decide)]
  rfl

theorem answers_lifeLow {k : Nat} (hk : k < 23) (hposts : s.bus.posts = []) (hU : s.unitAwake 0 = true) (hs : s.mgmt.started = true) :
    Answers (.lifetimeCounterLowRead (A.MGMT_LIFE_LO k) m priv) s fun t =>
      Returned m (BitVec.ofNat 32 (getAt s.mgmt.life k 0)) s t ∧
      t.mgmt = { s.mgmt with
        lifeLatch := setAt s.mgmt.lifeLatch m.code (getAt s.mgmt.life k 0 / 2 ^ 32)
        lifeLatchSat := setAt s.mgmt.lifeLatchSat m.code (s.mgmt.lifeSat.testBit k) } ∧
      Framed [] [.resp, .mgmt] s t := by
  obtain ⟨r, hrow, hr⟩ := (Option.any_eq_true _ _).mp (lifeLo_row s.variant k hk)
  simp only [Row.plainRead, Bool.and_eq_true, beq_iff_eq] at hr
  obtain ⟨⟨hsc, hprv⟩, hrc⟩ := hr
  have hall : r.allPrv = false := by rw [Row.allPrv, hprv]; rfl
  have hpage : A.MGMT_LIFE_LO k / 0x10000 = 14 := by
    simp only [A.MGMT_LIFE_LO]
    omega
  have h4 : A.MGMT_LIFE_LO k % 4 = 0 := by
    simp only [A.MGMT_LIFE_LO]
    omega
  have hunit : unitOf (A.MGMT_LIFE_LO k) = 0 := by simp [unitOf, hpage]
  have hno : ¬ (A.MGMT_LIFE_LO k % 0x100 = 0x10 ∧ 14 = 13 ∧ True ∧ A.MGMT_LIFE_LO k < A.HMQ_RD_DATA 4) := fun h => absurd h.2.1 (by decide)
  set w := s.fresh.lifeLatched m k with hw
  have hget : s.fresh.regRead m (s.fresh.masterPriv m priv) (A.MGMT_LIFE_LO k) r = (getAt s.mgmt.life k 0 % 2 ^ 32, w) := by
    have hU' : s.fresh.unitAwake 0 = true := hU
    simp only [State.regRead, hall, Bool.and_false, hunit, hU', hpage, hno, hsc, hprv, hrc, clearBits_zero, ite_self,
      lifeLo_readEffect (v := s.fresh) hs hk, liveReg_lifeLo (v := s.fresh) hs hk, State.when_true, if_true, Bool.false_eq_true, if_false,
      bne_self_eq_false, State.when_false]
    rfl
  have hread : s.fresh.busRead m priv (A.MGMT_LIFE_LO k) = w.responds m (getAt s.mgmt.life k 0 % 2 ^ 32) := by
    have hrow' : rowAt s.fresh.variant (A.MGMT_LIFE_LO k) = some r := hrow
    rw [State.busRead, State.busGet, if_neg (fun h => h h4)]
    cases domainOf (A.MGMT_LIFE_LO k) with
    | none =>
      dsimp only
      rw [hrow']
      dsimp only
      rw [hget]
      rfl
    | some d =>
      dsimp only
      rw [drain_none (v := s.fresh) hposts, hrow']
      dsimp only
      rw [hget]
      rfl
  have hframe : Chg (Listed []) (Parts [.resp, .mgmt]) NoMem s (w.responds m (getAt s.mgmt.life k 0 % 2 ^ 32)) :=
    (Chg.refl.fresh.updMgmt _ (by simp)).resp _ (by simp)
  refine answers_effect _ rfl hread hframe ⟨?_, ?_, hframe.framed⟩
  · have hword : BitVec.ofNat 32 (getAt s.mgmt.life k 0 % 2 ^ 32) = BitVec.ofNat 32 (getAt s.mgmt.life k 0) :=
      BitVec.eq_of_toNat_eq (by rw [BitVec.toNat_ofNat, BitVec.toNat_ofNat, Nat.mod_mod])
    rw [Returned, State.seal_resp, State.responds, hword]
    rfl
  · rw [State.seal_mgmt]
    rfl

/-- One counter of MSTAT added to its total. -/
def State.totalTaken (v : State) (i : Nat) : State :=
  (v.updMgmt fun x => { x with totals := setAt x.totals i ((getAt x.totals i 0 + v.rd (mstatAdr i)) % 2 ^ 64) }).keepWord (mstatAdr i) 0

theorem mstatAdr_ne {i k : Nat} (hi : i < 60) (hk : k < 60) (h : i ≠ k) : mstatAdr k ≠ mstatAdr i := by
  simp only [mstatAdr, A.MSTAT_SAT]
  split_ifs <;> omega

/-- What a total and its counter are. -/
def State.totalOf (v : State) (k : Nat) : Nat × Nat × Nat := (getAt v.mgmt.totals k 0, v.rd (mstatAdr k), v.mgmt.totals.length)

theorem totalTaken_ne {i k : Nat} (hi : i < 60) (hk : k < 60) (h : i ≠ k) : (v.totalTaken i).totalOf k = v.totalOf k := by
  unfold State.totalOf State.totalTaken
  rw [State.keepWord_mgmt, State.rd_eq_of_reg (State.reg_keepWord_ne _ _ (mstatAdr_ne hi hk h))]
  simp [State.updMgmt, setAt, getAt, List.getD, h]
  rfl

theorem totalTaken_same {k : Nat} (hk : k < 60) (hlen : v.mgmt.totals.length = 60) :
    getAt (v.totalTaken k).mgmt.totals k 0 = (getAt v.mgmt.totals k 0 + v.rd (mstatAdr k)) % 2 ^ 64 ∧ (v.totalTaken k).rd (mstatAdr k) = 0 := by
  unfold State.totalTaken
  rw [State.keepWord_mgmt, rd_keepWord_mod]
  simp [State.updMgmt, setAt, getAt, List.getD, hlen, hk]

/-- A round of totals is one step for each counter. -/
theorem mstatTotals_eq (v : State) : v.mstatTotals = forN 60 (fun i s => s.totalTaken i) v := rfl

theorem mstatTotals_totals (hlen : v.mgmt.totals.length = 60) {i : Nat} (hi : i < 60) :
    getAt v.mstatTotals.mgmt.totals i 0 = (getAt v.mgmt.totals i 0 + v.rd (mstatAdr i)) % 2 ^ 64 ∧ v.mstatTotals.rd (mstatAdr i) = 0 := by
  have hat := forN_at (fun t => t.totalOf i) (fun x => x.1 = (getAt v.mgmt.totals i 0 + v.rd (mstatAdr i)) % 2 ^ 64 ∧ x.2.1 = 0) 60 i
    (fun i s => s.totalTaken i) v hi (fun k hk hne t => totalTaken_ne hk hi hne) fun t ht => by
      have h1 : getAt t.mgmt.totals i 0 = getAt v.mgmt.totals i 0 := congrArg Prod.fst ht
      have h2 : t.rd (mstatAdr i) = v.rd (mstatAdr i) := congrArg (fun x => x.2.1) ht
      have h3 : t.mgmt.totals.length = v.mgmt.totals.length := congrArg (fun x => x.2.2) ht
      rw [← h1, ← h2]
      exact totalTaken_same hi (h3.trans hlen)
  rw [← mstatTotals_eq] at hat
  simp only [State.totalOf] at hat
  exact hat

theorem chg_mstatTotals {R : Nat → Prop} {P : Part → Prop} {M : Nat → Prop} (h : Chg R P M s v) (hp : P .mgmt) (hr : ∀ i < 60, R (mstatAdr i)) :
    Chg R P M s v.mstatTotals := by
  rw [mstatTotals_eq]
  exact forN_induction (p := fun t => Chg R P M s t) 60 _ (fun i hi t ht => (ht.updMgmt _ hp).keepWord _ _ (hr i hi)) h

theorem answers_mstatTotals (hs : s.mgmt.started = true) (hlen : s.mgmt.totals.length = 60) :
    Answers .mstatTotals s fun t =>
      (∀ i < 60, getAt t.mgmt.totals i 0 = (getAt s.mgmt.totals i 0 + s.rd (mstatAdr i)) % 2 ^ 64 ∧ t.rd (mstatAdr i) = 0) ∧
      Framed ((List.range 60).map mstatAdr) [.mgmt] s t := by
  have heff : s.fresh.when s.fresh.mgmt.started State.mstatTotals = s.fresh.mstatTotals := by
    rw [show s.fresh.mgmt.started = true from hs, State.when_true]
  have hframe : Chg (Listed ((List.range 60).map mstatAdr)) (Parts [.mgmt]) NoMem s s.fresh.mstatTotals :=
    chg_mstatTotals Chg.refl.fresh (by simp) fun i hi => .inl (List.mem_map_of_mem (List.mem_range.mpr hi))
  refine answers_effect _ rfl heff hframe ⟨fun i hi => ?_, hframe.framed⟩
  rw [State.seal_mgmt, State.rd_eq_of_reg (State.reg_seal _ _ (mstat_adr i hi).2.2.1)]
  exact mstatTotals_totals (v := s.fresh) hlen hi

theorem untouched_mstatTotals (h : s.mgmt.started = false) : Untouched .mstatTotals s :=
  untouched_effect _ rfl (by rw [show s.fresh.mgmt.started = false from h, State.when_false])

theorem postedWritesAndReads : PostedWritesAndReads :=
  ⟨fun _ _ h hn => untouched_postedWriteLand h hn,
    fun _ _ _ _ _ _ hk hposts hx ho hn => answers_postedWriteLand hk hposts hx ho hn,
    fun _ _ _ hposts hU => answers_read_testYield hposts hU,
    fun _ _ _ _ _ _ _ hk hposts hx ho => answers_read_tzDst hk hposts hx ho,
    fun _ _ _ _ h4 => answers_read_misaligned h4,
    fun _ _ _ _ hi hU => answers_counterRead hi hU,
    fun _ _ _ _ hk hposts hU hs => answers_lifeLow hk hposts hU hs,
    fun _ hs hlen => answers_mstatTotals hs hlen,
    fun _ h => untouched_mstatTotals h⟩

end

/-- Settles O53: register writes, posted writes, reads and counters. -/
theorem registerAccess : Obligations.RegisterAccess := ⟨registerWrites, postedWritesAndReads⟩

end Sys2Proof.Machine
end

section

/-! PROOFS. The image loader: its commands and its buffer (R287, R288). -/

namespace Sys2Proof.Machine

/-! ### Rules of the loader's state -/

section
variable (s : State)

theorem imgStatus_state {st : Nat} (why : Nat) (h : st < 16) : (s.imgStatus st why).fld F.ENG_IMG_STATUS_STATE = st := by
  rw [State.imgStatus, State.fld_set_free _ (by decide), State.fld_set_free _ (by decide), State.fld_set_same _ (by decide)]
  exact Nat.mod_eq_of_lt h

theorem imgStatus_why (st : Nat) {why : Nat} (h : why < 32) : (s.imgStatus st why).fld F.ENG_IMG_STATUS_WHY = why := by
  rw [State.imgStatus, State.fld_set_free _ (by decide), State.fld_set_same _ (by decide)]
  exact Nat.mod_eq_of_lt h

theorem imgStatus_words (st why : Nat) : (s.imgStatus st why).fld F.ENG_IMG_STATUS_WORDS = min 262144 s.eng.img.length := by
  rw [State.imgStatus, State.fld_set_same _ (by decide)]
  exact Nat.mod_eq_of_lt (lt_of_le_of_lt (min_le_left _ _) (by decide))

theorem imgLeave_eng : s.imgLeave.eng.img = s.eng.img ∧ s.imgLeave.eng.work = s.eng.work := by
  unfold State.imgLeave State.when
  split <;> exact ⟨rfl, rfl⟩

@[simp] theorem imgStatus_eng (st why : Nat) : (s.imgStatus st why).eng = s.eng := by
  rw [State.imgStatus, State.set_eng, State.set_eng, State.set_eng]

variable {s}
variable {R : Nat → Prop} {P : Part → Prop} {M : Nat → Prop} {t : State}

theorem Chg.imgStatus (h : Chg R P M s t) (st why : Nat) (hr : R A.ENG_IMG_STATUS) : Chg R P M s (t.imgStatus st why) :=
  ((h.set _ _ hr).set _ _ hr).set _ _ hr

theorem Chg.imgLeave (h : Chg R P M s t) (hp : P .eng) : Chg R P M s t.imgLeave := h.when _ _ fun _ => h.updEng _ hp

end

/-- What a load in progress may change: its own register and the engine's state. -/
abbrev Loads (s u : State) : Prop := Chg (Listed [A.ENG_IMG_STATUS]) (Parts [.eng]) NoMem s u

/-! ### The command register -/

theorem imgBegin_strikes : Strikes A.ENG_IMG_CTL 1 := fun v => by cases v <;> decide
theorem imgInstall_strikes : Strikes A.ENG_IMG_CTL 2 := fun v => by cases v <;> decide
theorem imgCheck_strikes : Strikes A.ENG_IMG_CTL 4 := fun v => by cases v <;> decide

section
variable {s : State} {m : Master} {priv : Bool}

theorem imgBegin_answers (hd : Direct s m priv A.ENG_IMG_CTL) :
    Answers (.imgBegin m priv) s fun t =>
      t.fld F.ENG_IMG_STATUS_STATE = 1 ∧ t.fld F.ENG_IMG_STATUS_WHY = 0 ∧ t.fld F.ENG_IMG_STATUS_WORDS = 0 ∧ t.eng.img = [] ∧
      t.eng.work = .receiving ∧ Framed [A.ENG_IMG_STATUS] [.eng] s t := by
  set x := s.fresh.imgLeave.updEng (fun e => { e with img := [], work := .receiving }) with hx
  have heff : s.fresh.strike m priv A.ENG_IMG_CTL 1 = x.imgStatus 1 0 := hd.strike imgBegin_strikes
  have hchg : Loads s (x.imgStatus 1 0) := (((Chg.refl.fresh).imgLeave (by simp)).updEng _ (by simp)).imgStatus _ _ (by simp)
  refine answers_effect (State.strike · m priv A.ENG_IMG_CTL 1) rfl heff hchg ⟨?_, ?_, ?_, by simp [hx, State.updEng], by simp [hx, State.updEng], hchg.framed⟩
  · rw [State.fld_seal _ _ (by decide)]; exact imgStatus_state x 0 (by decide)
  · rw [State.fld_seal _ _ (by decide)]; exact imgStatus_why x 1 (by decide)
  · rw [State.fld_seal _ _ (by decide)]; exact (imgStatus_words x 1 0).trans rfl

/-! ### The checks' start -/

theorem imgCheck_starts (b : Bool) (h2 : s.fld F.ENG_IMG_STATUS_STATE ≠ 2) (h3 : s.fld F.ENG_IMG_STATUS_STATE ≠ 3) :
    s.imgCheck b = (s.imgLeave.updEng fun e => { e with work := .checking b }).imgStatus 2 0 :=
  if_neg (not_or.mpr ⟨h2, h3⟩)

theorem imgCheck_idle (b : Bool) (h : s.fld F.ENG_IMG_STATUS_STATE = 2 ∨ s.fld F.ENG_IMG_STATUS_STATE = 3) : s.imgCheck b = s := if_pos h

/-- The checks start with the buffer as it is. -/
theorem answers_imgCheck {i : Instr} {bits : Nat} {b : Bool} (hx : exec i s = s.run (State.strike · m priv A.ENG_IMG_CTL bits))
    (heff : s.fresh.strike m priv A.ENG_IMG_CTL bits = s.fresh.imgCheck b)
    (h2 : s.fld F.ENG_IMG_STATUS_STATE ≠ 2) (h3 : s.fld F.ENG_IMG_STATUS_STATE ≠ 3) :
    Answers i s fun t => t.fld F.ENG_IMG_STATUS_STATE = 2 ∧ t.eng.work = .checking b ∧ t.eng.img = s.eng.img ∧
      Framed [A.ENG_IMG_STATUS] [.eng] s t := by
  set x := s.fresh.imgLeave.updEng (fun e => { e with work := .checking b }) with hxx
  have hstart : s.fresh.imgCheck b = x.imgStatus 2 0 := imgCheck_starts (s := s.fresh) b h2 h3
  have hchg : Loads s (x.imgStatus 2 0) := (((Chg.refl.fresh).imgLeave (by simp)).updEng _ (by simp)).imgStatus _ _ (by simp)
  refine answers_effect _ hx (heff.trans hstart) hchg ⟨?_, by simp [hxx, State.updEng], by simp [hxx, State.updEng, (imgLeave_eng s.fresh).1], hchg.framed⟩
  rw [State.fld_seal _ _ (by decide)]
  exact imgStatus_state x 0 (by decide)

theorem imgChecks_answer (hd : Direct s m priv A.ENG_IMG_CTL) (h2 : s.fld F.ENG_IMG_STATUS_STATE ≠ 2)
    (h3 : s.fld F.ENG_IMG_STATUS_STATE ≠ 3) :
    (Answers (.imgCheck m priv) s fun t =>
      t.fld F.ENG_IMG_STATUS_STATE = 2 ∧ t.eng.work = .checking false ∧ t.eng.img = s.eng.img ∧
      Framed [A.ENG_IMG_STATUS] [.eng] s t) ∧
    (Answers (.imgInstall m priv) s fun t =>
      t.fld F.ENG_IMG_STATUS_STATE = 2 ∧ t.eng.work = .checking true ∧ t.eng.img = s.eng.img ∧
      Framed [A.ENG_IMG_STATUS] [.eng] s t) :=
  ⟨answers_imgCheck rfl (hd.strike imgCheck_strikes) h2 h3, answers_imgCheck rfl (hd.strike imgInstall_strikes) h2 h3⟩

theorem imgChecks_idle (hd : Direct s m priv A.ENG_IMG_CTL)
    (h : s.fld F.ENG_IMG_STATUS_STATE = 2 ∨ s.fld F.ENG_IMG_STATUS_STATE = 3) :
    Untouched (.imgCheck m priv) s ∧ Untouched (.imgInstall m priv) s :=
  ⟨untouched_effect (State.strike · m priv A.ENG_IMG_CTL 4) rfl
      ((hd.strike imgCheck_strikes).trans (imgCheck_idle (s := s.fresh) false h)),
    untouched_effect (State.strike · m priv A.ENG_IMG_CTL 2) rfl
      ((hd.strike imgInstall_strikes).trans (imgCheck_idle (s := s.fresh) true h))⟩

/-! ### The buffer -/

theorem rowAt_imgData (v : Variant) :
    ∃ r, rowAt v A.ENG_IMG_DATA = some r ∧ r.w1c = 0 ∧ r.rw = 0 ∧ r.sc = 0 ∧ r.wo = 0xFFFFFFFF ∧ r.rsv = 0 ∧ r.rwp ≠ 0 :=
  ⟨_, by cases v <;> rfl, rfl, rfl, rfl, rfl, rfl, by decide⟩

theorem imgData_effect (w : Word) (hd : Direct s m priv A.ENG_IMG_DATA) :
    s.fresh.word m priv A.ENG_IMG_DATA w.toNat = s.fresh.imgWord w := by
  obtain ⟨r, hrow, h1, h2, h3, h4, h5, h6⟩ := rowAt_imgData s.variant
  have hd' : Direct s.fresh m priv A.ENG_IMG_DATA := hd
  have htakes : r.takes A.ENG_IMG_DATA (s.fresh.rd A.ENG_IMG_DATA) w.toNat = true := by
    simp [Row.takes, h1, h5, h6]
    exact ⟨⟨w.isLt, rfl⟩, by decide⟩
  have hall : w.toNat &&& (r.sc ||| r.wo) &&& 0xFFFFFFFF = w.toNat := by
    rw [h3, h4]
    exact and_all_ones (n := w.toNat) 0 w.isLt
  rw [State.word_direct s.fresh m priv _ _ r hd' hrow htakes, Row.merged_of_none h2, State.keepWord_self, hall,
    State.act_effect _ _ _ _ _ _ hd'.2.2 (.inr (by simp [actsAlways]))]
  exact congrArg s.fresh.imgWord (BitVec.ofNat_toNat 32 w |>.trans (BitVec.setWidth_eq w))

theorem imgWord_room (s : State) (w : Word) (hs : s.fld F.ENG_IMG_STATUS_STATE = 1) (h : s.eng.img.length < 262144) :
    s.imgWord w = (s.updEng fun e => { e with img := e.img ++ [w] }).imgStatus 1 0 := by
  have hroom : Nat.ble 262144 s.eng.img.length = false :=
    Bool.eq_false_iff.mpr fun g => absurd (Nat.le_of_ble_eq_true g) (Nat.not_le.mpr h)
  rw [State.imgWord, hs, hroom]
  rfl

theorem imgWord_full (s : State) (w : Word) (hs : s.fld F.ENG_IMG_STATUS_STATE = 1) (h : 262144 ≤ s.eng.img.length) :
    s.imgWord w = ((s.updEng fun e => { e with img := e.img ++ [w] }).updEng fun e => { e with work := .none }).imgStatus 6 2 := by
  rw [State.imgWord, hs, Nat.ble_eq.mpr h]
  rfl

theorem imgWord_idle (s : State) (w : Word) (hs : s.fld F.ENG_IMG_STATUS_STATE ≠ 1) : s.imgWord w = s :=
  if_pos (bne_iff_ne.mpr hs)

/-- A word received while the buffer has room is appended. -/
theorem imgData_appends (w : Word) (hd : Direct s m priv A.ENG_IMG_DATA) (hs : s.fld F.ENG_IMG_STATUS_STATE = 1)
    (hlen : s.eng.img.length < 262144) :
    Answers (.imgDataWrite w m priv) s fun t =>
      t.eng.img = s.eng.img ++ [w] ∧ t.fld F.ENG_IMG_STATUS_WORDS = s.eng.img.length + 1 ∧ t.fld F.ENG_IMG_STATUS_STATE = 1 ∧
      t.fld F.ENG_IMG_STATUS_WHY = 0 ∧ Framed [A.ENG_IMG_STATUS] [.eng] s t := by
  set x := s.fresh.updEng (fun e => { e with img := e.img ++ [w] }) with hx
  have hword : s.fresh.imgWord w = x.imgStatus 1 0 := imgWord_room s.fresh w hs hlen
  have hchg : Loads s (x.imgStatus 1 0) := ((Chg.refl.fresh).updEng _ (by simp)).imgStatus _ _ (by simp)
  refine answers_effect (State.word · m priv A.ENG_IMG_DATA w.toNat) rfl ((imgData_effect w hd).trans hword) hchg
    ⟨by simp [hx, State.updEng], ?_, ?_, ?_, hchg.framed⟩
  · rw [State.fld_seal _ _ (by decide), imgStatus_words]
    have hl : x.eng.img.length = s.eng.img.length + 1 := by simp [hx, State.updEng]
    omega
  · rw [State.fld_seal _ _ (by decide)]; exact imgStatus_state x 0 (by decide)
  · rw [State.fld_seal _ _ (by decide)]; exact imgStatus_why x 1 (by decide)

/-- The first word beyond the buffer refuses the image. -/
theorem imgData_overflows (w : Word) (hd : Direct s m priv A.ENG_IMG_DATA) (hs : s.fld F.ENG_IMG_STATUS_STATE = 1)
    (hlen : 262144 ≤ s.eng.img.length) :
    Answers (.imgDataWrite w m priv) s fun t =>
      t.fld F.ENG_IMG_STATUS_STATE = 6 ∧ t.fld F.ENG_IMG_STATUS_WHY = 2 ∧ t.fld F.ENG_IMG_STATUS_WORDS = 262144 ∧
      Framed [A.ENG_IMG_STATUS] [.eng] s t := by
  set x := (s.fresh.updEng (fun e => { e with img := e.img ++ [w] })).updEng (fun e => { e with work := .none }) with hx
  have hword : s.fresh.imgWord w = x.imgStatus 6 2 := imgWord_full s.fresh w hs hlen
  have hchg : Loads s (x.imgStatus 6 2) := (((Chg.refl.fresh).updEng _ (by simp)).updEng _ (by simp)).imgStatus _ _ (by simp)
  refine answers_effect (State.word · m priv A.ENG_IMG_DATA w.toNat) rfl ((imgData_effect w hd).trans hword) hchg
    ⟨?_, ?_, ?_, hchg.framed⟩
  · rw [State.fld_seal _ _ (by decide)]; exact imgStatus_state x 2 (by decide)
  · rw [State.fld_seal _ _ (by decide)]; exact imgStatus_why x 6 (by decide)
  · rw [State.fld_seal _ _ (by decide), imgStatus_words]
    have hl : x.eng.img.length = s.eng.img.length + 1 := by simp [hx, State.updEng]
    omega

theorem imgData_idle (w : Word) (hd : Direct s m priv A.ENG_IMG_DATA) (hs : s.fld F.ENG_IMG_STATUS_STATE ≠ 1) :
    Untouched (.imgDataWrite w m priv) s :=
  untouched_effect (State.word · m priv A.ENG_IMG_DATA w.toNat) rfl ((imgData_effect w hd).trans (imgWord_idle s.fresh w hs))

end
end Sys2Proof.Machine
end

section

/-! PROOFS. The image loader: its checks and the installation (R289 to R295). -/

namespace Sys2Proof.Machine

/-! ### The plan does not depend on what waits to be sent -/

/-- The last part of a result, its outputs emptied. -/
abbrev freshLast {α β : Type} (x : α × β × State) : α × β × State := (x.1, x.2.1, x.2.2.fresh)

theorem forL_freshLast {α β γ : Type} {f : γ → α × β × State → α × β × State}
    (hf : ∀ c x, f c (freshLast x) = freshLast (f c x)) (l : List γ) (x : α × β × State) :
    forL l f (freshLast x) = freshLast (forL l f x) := by
  unfold forL
  induction l generalizing x with
  | nil => rfl
  | cons c l ih => exact (congrArg (fun y => List.foldl _ y l) (hf c x)).trans (ih (f c x))

theorem placeOne_fresh (slot xptNs : Nat) (used : Used) (p : PProg) (n : Nat) (x : List PProg × List Nat × State) :
    State.placeOne slot xptNs used p n (freshLast x) = freshLast (State.placeOne slot xptNs used p n x) := by
  induction n generalizing x with
  | zero => rfl
  | succ n ih =>
    obtain ⟨placed, dropped, s⟩ := x
    have hbest : s.fresh.bestCore slot xptNs used placed p = s.bestCore slot xptNs used placed p := rfl
    simp only [State.placeOne, freshLast, hbest]
    cases s.bestCore slot xptNs used placed p with
    | some c => rfl
    | none =>
      cases victim p.rank placed with
      | none => rfl
      | some v => exact ih (placed.filter (fun q => q.m != v.m), dropped ++ [v.m], s)

theorem placeAll_fresh (s : State) (slot xptNs : Nat) (used : Used) (placed todo : List PProg) :
    s.fresh.placeAll slot xptNs used placed todo = freshLast (s.placeAll slot xptNs used placed todo) :=
  forL_freshLast (fun p x => placeOne_fresh slot xptNs used p 65 x) _ (placed, [], s)

/-- The place chosen among those that fit: the only one, or any of several. -/
def State.choose (es : List Nat) (s : State) : Nat × State := if es.length = 1 then (getAt es 0 0, s) else s.oneOf es

theorem choose_fresh (es : List Nat) (s : State) : s.fresh.choose es = ((s.choose es).1, (s.choose es).2.fresh) := by
  unfold State.choose
  split <;> rfl

/-- The places at which the code and the state of a program that stays on its core may begin. -/
def stayCode (used : Used) (placed : List PProg) (p : PProg) : List Nat :=
  let w := usedWith used placed p.core
  match placed.find? (fun q => q.core == p.core && q.code == p.code && q.from_ == p.from_ && q.imem == p.imem) with
  | some q => [q.entry]
  | none => if w.1.all (fun r => !overlap p.entry p.imem r.1 r.2) then [p.entry] else fitEntry w.1 p

@[inherit_doc stayCode] def stayState (used : Used) (placed : List PProg) (p : PProg) : List Nat :=
  let w := usedWith used placed p.core
  if w.2.all (fun r => !overlap p.sbase p.slen r.1 r.2) then [p.sbase] else fitState w.2 p

/-- A program placed on the core that it has. -/
def stayPut (used : Used) (p : PProg) (x : Bool × List PProg × State) : Bool × List PProg × State :=
  let es := stayCode used x.2.1 p
  let bs := stayState used x.2.1 p
  let e := x.2.2.choose es
  let a := e.2.choose bs
  (x.1 && !es.isEmpty && !bs.isEmpty, x.2.1 ++ [{ p with entry := e.1, sbase := a.1 }], a.2)

theorem stayPut_fresh (used : Used) (p : PProg) (x : Bool × List PProg × State) :
    stayPut used p (freshLast x) = freshLast (stayPut used p x) := by
  obtain ⟨ok, placed, s⟩ := x
  unfold stayPut freshLast
  dsimp only
  rw [choose_fresh, choose_fresh]

theorem imgPlan_eq (s : State) (img b : List Word) (live : Bool) : s.imgPlan img b live =
    let used : Used := if live then s.usedRanges else fun _ => ([], [])
    let progs := s.imgPProgs img b
    let x := forL (progs.filter fun p => s.coreUsable p.core) (stayPut used) (true, [], s)
    let y := x.2.2.placeAll (blockSlot b) (blockXptNs b) used x.2.1 (progs.filter fun p => !s.coreUsable p.core)
    (if !x.1 then 0x0F
      else if y.2.1.any (fun m => progs.any (fun p => p.m == m && p.rank == 7)) && !y.2.2.on F.ENG_IMG_CTL_FORCE then 0x10 else 0, y) := by
  unfold State.imgPlan
  extract_lets used progs own stay todo
  have h : own = stayPut used := by
    funext p x
    simp only [own, stayPut, stayCode, stayState, State.choose] <;> rfl
  rw [h]

theorem imgPlan_fresh (s : State) (img b : List Word) (live : Bool) :
    (s.fresh.imgPlan img b live).1 = (s.imgPlan img b live).1 := by
  simp only [imgPlan_eq]
  rw [show (true, ([] : List PProg), s.fresh) = freshLast (true, [], s) from rfl, forL_freshLast (stayPut_fresh _)]
  simp only [placeAll_fresh]
  rfl

/-! ### The reasons fit their field -/

theorem rateWhy_lt (s : State) (img : List Word) : s.rateWhy img < 32 := by
  unfold State.rateWhy
  dsimp only
  split
  · decide
  · split_ifs <;> decide

theorem ite_lt {c : Prop} [Decidable c] {a b n : Nat} (ha : a < n) (hb : b < n) : (if c then a else b) < n := by
  split
  · exact ha
  · exact hb

theorem imageWhy_lt (s : State) (img : List Word) : s.imageWhy img < 32 := by
  unfold State.imageWhy
  iterate 6 refine ite_lt (by decide) ?_
  refine ite_lt (rateWhy_lt s img) ?_
  iterate 4 refine ite_lt (by decide) ?_
  decide

theorem imgPlan_lt (s : State) (img b : List Word) (live : Bool) : (s.imgPlan img b live).1 < 32 := by
  rw [imgPlan_eq]
  dsimp only
  split_ifs <;> decide

/-! ### The end of a load -/

section
variable (s : State)

theorem imgEnd_eng (id st why : Nat) : (s.imgEnd id st why).eng = { s.eng with work := .none } := by
  simp [State.imgEnd, State.imgDone, State.updEng]

theorem imgEnd_ends (id : Nat) {st why : Nat} (hst : st < 16) (hwhy : why < 32) : ImgEnds st why (s.imgEnd id st why) := by
  have hdone (v : State) : (v.imgDone id st why).on F.ENG_IMG_STATUS_DONE = true := by
    unfold State.on State.imgDone
    rw [fld_log_free _ _ _ _ (by decide), State.fld_set_same _ (by decide)]
    rfl
  refine ⟨?_, ?_, hdone _, by rw [imgEnd_eng]⟩
  · rw [State.imgEnd, State.imgDone, fld_log_free _ _ _ _ (by decide), State.fld_set_free _ (by decide), imgStatus_state _ _ hst]
  · rw [State.imgEnd, State.imgDone, fld_log_free _ _ _ _ (by decide), State.fld_set_free _ (by decide), imgStatus_why _ _ hwhy]

theorem imgEnd_mgmt (id st why : Nat) : (s.imgEnd id st why).mgmt.kept = s.mgmt.kept := by
  rw [State.imgEnd, State.imgDone, log_kept]
  simp [State.imgStatus, State.updEng]

variable {s} {R : Nat → Prop} {P : Part → Prop} {M : Nat → Prop} {t : State}

theorem Chg.imgEnd (h : Chg R P M s t) (id st why : Nat) (hr : R A.ENG_IMG_STATUS) (hv : R A.MGMT_EVT) (he : P .eng) (hm : P .mgmt) :
    Chg R P M s (t.imgEnd id st why) :=
  (((h.updEng _ he).imgStatus _ _ hr).set _ _ hr).log _ _ _ _ hv hm

theorem ImgEnds.seal {st why : Nat} {u : State} (h : ImgEnds st why u) : ImgEnds st why (s.seal u) := by
  obtain ⟨h1, h2, h3, h4⟩ := h
  exact ⟨(State.fld_seal _ _ (by decide)).trans h1, (State.fld_seal _ _ (by decide)).trans h2,
    (State.on_seal _ _ (by decide)).trans h3, by simpa using h4⟩

end

/-! ### What the checks decide -/

section
variable {v : State} {b : List Word}

theorem imgChecked_idle (h : ∀ x, v.eng.work ≠ .checking x) : v.imgChecked = v := by
  unfold State.imgChecked
  split
  · exact absurd ‹_› (h _)
  · rfl

theorem imgChecked_refuses {x : Bool} (hw : v.eng.work = .checking x) (h : v.imageWhy v.eng.img ≠ 0) :
    v.imgChecked = v.imgEnd (imgId v.eng.img) 6 (v.imageWhy v.eng.img) := by
  unfold State.imgChecked
  rw [hw]
  exact if_pos h

theorem imgChecked_passes (hw : v.eng.work = .checking false) (h : v.imageWhy v.eng.img = 0) :
    v.imgChecked = v.imgEnd (imgId v.eng.img) 7 0 := by
  unfold State.imgChecked
  rw [hw]
  exact (if_neg (not_not_intro h)).trans (if_pos rfl)

/-- An image that passes its checks is planned. -/
theorem imgChecked_plans (hw : v.eng.work = .checking true) (h : v.imageWhy v.eng.img = 0)
    (hb : rateBlockOf (imgCert v.eng.img) (v.fld F.CLK_MEDIA_CFG_RATE) = some b) :
    v.imgChecked = if (v.imgPlan v.eng.img b v.trigRuns).1 ≠ 0 then
        v.imgEnd (imgId v.eng.img) 6 (v.imgPlan v.eng.img b v.trigRuns).1
      else if v.imgHeld then (v.updEng fun e => { e with work := .held }).imgStatus 3 0
      else v.imgGo := by
  unfold State.imgChecked
  rw [hw]
  dsimp only
  rw [if_neg (not_not_intro h), if_neg (by decide), hb]

theorem imgRelease_idle (h : v.imgHeld = true ∨ v.eng.work ≠ .held) : v.imgRelease = v := by
  unfold State.imgRelease
  split
  case h_1 hw => exact if_pos (h.resolve_right (not_not_intro hw))
  case h_2 => rfl

theorem imgRelease_goes (hw : v.eng.work = .held) (h : v.imgHeld = false) : v.imgRelease = v.imgGo := by
  unfold State.imgRelease
  rw [hw, h]
  rfl

end

section
variable {s : State}

/-- An end that the checks reach: the verdict, and the log record of it. -/
theorem answers_imgEnd {i : Instr} {f : State → State} {id st why : Nat} (hx : exec i s = s.run f)
    (heff : f s.fresh = s.fresh.imgEnd id st why) (hst : st < 16) (hwhy : why < 32) :
    Answers i s fun t => ImgEnds st why t ∧ Framed [A.ENG_IMG_STATUS, A.MGMT_EVT] [.eng, .mgmt] s t := by
  have hchg : Chg (Listed [A.ENG_IMG_STATUS, A.MGMT_EVT]) (Parts [.eng, .mgmt]) NoMem s (s.fresh.imgEnd id st why) :=
    Chg.refl.fresh.imgEnd _ _ _ (by simp) (by simp) (by simp) (by simp)
  exact answers_effect f hx heff hchg ⟨ImgEnds.seal (imgEnd_ends _ _ hst hwhy), hchg.framed⟩

/-- A plan that fails ends the install; the image installed stays. -/
theorem answers_planFails {i : Instr} {f : State → State} {w : State} {id why : Nat} (hx : exec i s = s.run f)
    (heff : f s.fresh = w.imgEnd id 6 why) (hw : Chg (Listed []) (Parts [.free]) NoMem s w) (hwhy : why < 32) :
    Answers i s fun t => ImgEnds 6 why t ∧ t.reg A.ENG_IMG_ID = s.reg A.ENG_IMG_ID ∧ t.mgmt.image = s.mgmt.image := by
  have hchg : Chg (Listed [A.ENG_IMG_STATUS, A.MGMT_EVT]) (Parts [.eng, .mgmt, .free]) NoMem s (w.imgEnd id 6 why) :=
    Chg.imgEnd (hw.mono (listed_mono (by simp)) (fun p h => by simp [List.mem_singleton.mp h]) fun _ h => h) _ _ _
      (by simp) (by simp) (by simp) (by simp)
  have hm : (w.imgEnd id 6 why).mgmt.kept = s.mgmt.kept :=
    (imgEnd_mgmt w id 6 why).trans (congrArg Mgmt.kept (hw.part .mgmt (by simp)))
  refine answers_effect f hx heff hchg ⟨ImgEnds.seal (imgEnd_ends _ _ (by decide) hwhy), ?_, ?_⟩
  · rw [State.reg_seal _ _ (by decide)]
    exact hchg.reg _ (by unfold Listed; decide)
  · rw [State.seal_mgmt]
    exact (congrArg Mgmt.image hm :)

theorem check_refuses {b : Bool} (hw : s.eng.work = .checking b) (h : s.imageWhy s.eng.img ≠ 0) :
    Answers .imageCheckComplete s fun t =>
      ImgEnds 6 (s.imageWhy s.eng.img) t ∧ Framed [A.ENG_IMG_STATUS, A.MGMT_EVT] [.eng, .mgmt] s t :=
  answers_imgEnd (f := State.imgChecked) rfl (imgChecked_refuses (v := s.fresh) hw h) (by decide) (imageWhy_lt s _)

theorem check_passes (hw : s.eng.work = .checking false) (h : s.imageWhy s.eng.img = 0) :
    Answers .imageCheckComplete s fun t => ImgEnds 7 0 t ∧ Framed [A.ENG_IMG_STATUS, A.MGMT_EVT] [.eng, .mgmt] s t :=
  answers_imgEnd (f := State.imgChecked) rfl (imgChecked_passes (v := s.fresh) hw h) (by decide) (by decide)

theorem check_idle (h : s.eng.work = .none ∨ s.eng.work = .receiving ∨ s.eng.work = .held) : Untouched .imageCheckComplete s := by
  refine untouched_effect State.imgChecked rfl (imgChecked_idle (v := s.fresh) fun x hx => ?_)
  have hx' : s.eng.work = .checking x := hx
  rw [hx'] at h
  simp at h

theorem release_idle (h : s.imgHeld = true ∨ s.eng.work ≠ .held) : Untouched .installHoldRelease s :=
  untouched_effect State.imgRelease rfl (imgRelease_idle (v := s.fresh) h)

variable {b : List Word}

theorem check_holds (hw : s.eng.work = .checking true) (h : s.imageWhy s.eng.img = 0)
    (hb : rateBlockOf (imgCert s.eng.img) (s.fld F.CLK_MEDIA_CFG_RATE) = some b)
    (hp : (s.imgPlan s.eng.img b s.trigRuns).1 = 0) (hheld : s.imgHeld = true) :
    Answers .imageCheckComplete s fun t =>
      t.fld F.ENG_IMG_STATUS_STATE = 3 ∧ t.eng.work = .held ∧ t.eng.img = s.eng.img ∧ Framed [A.ENG_IMG_STATUS] [.eng] s t := by
  set x := s.fresh.updEng fun e => { e with work := .held } with hx
  have heff : s.fresh.imgChecked = x.imgStatus 3 0 := by
    have hplan : (s.fresh.imgPlan s.fresh.eng.img b s.fresh.trigRuns).1 = 0 := (imgPlan_fresh s s.eng.img b s.trigRuns).trans hp
    rw [imgChecked_plans (v := s.fresh) hw h hb, if_neg (not_not_intro hplan), if_pos (show s.fresh.imgHeld = true from hheld)]
  have hchg : Loads s (x.imgStatus 3 0) := (Chg.refl.fresh.updEng _ (by simp)).imgStatus _ _ (by simp)
  refine answers_effect State.imgChecked rfl heff hchg ⟨?_, by simp [hx, State.updEng], by simp [hx, State.updEng], hchg.framed⟩
  rw [State.fld_seal _ _ (by decide)]
  exact imgStatus_state x 0 (by decide)

theorem check_planFails (hw : s.eng.work = .checking true) (h : s.imageWhy s.eng.img = 0)
    (hb : rateBlockOf (imgCert s.eng.img) (s.fld F.CLK_MEDIA_CFG_RATE) = some b)
    (hp : (s.imgPlan s.eng.img b s.trigRuns).1 ≠ 0) :
    Answers .imageCheckComplete s fun t => ImgEnds 6 (s.imgPlan s.eng.img b s.trigRuns).1 t ∧ t.reg A.ENG_IMG_ID = s.reg A.ENG_IMG_ID ∧
      t.mgmt.image = s.mgmt.image := by
  have hplan : (s.fresh.imgPlan s.fresh.eng.img b s.fresh.trigRuns).1 = (s.imgPlan s.eng.img b s.trigRuns).1 :=
    imgPlan_fresh s s.eng.img b s.trigRuns
  have heff : s.fresh.imgChecked = s.fresh.imgEnd (imgId s.eng.img) 6 (s.imgPlan s.eng.img b s.trigRuns).1 := by
    rw [imgChecked_plans (v := s.fresh) hw h hb, hplan, if_pos hp]
    rfl
  exact answers_planFails rfl heff Chg.refl.fresh (imgPlan_lt s _ b _)

end

end Sys2Proof.Machine
end

section

/-! PROOFS. The image loader: the installation of an image (R292 to R295). -/

namespace Sys2Proof.Machine

/-! ### The plan changes nothing but the free choices taken -/

/-- Only free choices have been taken. -/
abbrev Chose (s u : State) : Prop := Chg (Listed []) (Parts [.free]) NoMem s u

section
variable {s : State}

theorem Chose.oneOf {t : State} (h : Chose s t) (l : List Nat) : Chose s (t.oneOf l).2 := h.free 32 (by simp)

theorem Chose.choose {t : State} (h : Chose s t) (l : List Nat) : Chose s (t.choose l).2 := by
  unfold State.choose
  split
  · exact h
  · exact h.oneOf l

theorem Chose.takePlaces {t : State} (h : Chose s t) (used : Used) (placed : List PProg) (p : PProg) :
    Chose s (t.takePlaces used placed p).2 := by
  have h1 := Chose.oneOf h (fitEntry (usedWith used placed p.core).1 p)
  exact Chose.oneOf h1 (fitState (usedWith used placed p.core).2 p)

/-- A pass over a list, each step of which keeps a property of the last part. -/
theorem forL_last {α β γ : Type} {Q : State → Prop} {f : γ → α × β × State → α × β × State}
    (hf : ∀ c x, Q x.2.2 → Q (f c x).2.2) (l : List γ) {x : α × β × State} (h : Q x.2.2) : Q (forL l f x).2.2 := by
  unfold forL
  induction l generalizing x with
  | nil => exact h
  | cons c l ih => exact ih (hf c x h)

theorem placeOne_chose (slot xptNs : Nat) (used : Used) (p : PProg) (n : Nat) {x : List PProg × List Nat × State}
    (h : Chose s x.2.2) : Chose s (State.placeOne slot xptNs used p n x).2.2 := by
  induction n generalizing x with
  | zero => exact h
  | succ n ih =>
    obtain ⟨placed, dropped, t⟩ := x
    unfold State.placeOne
    split
    next c _ => exact Chose.takePlaces (t := t) h used placed { p with core := c }
    · split
      · exact h
      · exact ih h

theorem imgPlan_chose (s : State) (img b : List Word) (live : Bool) : Chose s (s.imgPlan img b live).2.2.2 := by
  rw [imgPlan_eq]
  refine forL_last (fun p x h => placeOne_chose _ _ _ p 65 h) _ (x := (_, _, _)) ?_
  exact forL_last (fun p x h => (Chose.choose h _).choose _) _ (x := (true, [], s)) Chg.refl

end

/-! ### The two ways of an installation -/

/-- Planned with the trigger running: the copies wait for the apply EF. -/
def State.goLive (w : State) (img b : List Word) (placed : List PProg) (dropped : List Nat) : State :=
  let x := (w.imgWrite img b placed).wr A.ENG_PLACE_EF (w.rd A.ENG_IMG_APPLY_EF)
  ((x.commitPlacement x.applyEf dropped).updEng
    (fun e => { e with work := .none, installing := img, applyAt := some x.applyEf, oldInstall := false })).imgStatus 4 0

/-- Planned with the trigger stopped: the tables are the image's, and so is the placement. -/
def State.goAtOnce (w : State) (img b : List Word) (placed : List PProg) (dropped : List Nat) : State :=
  let x := (((w.clearRegs (A.ENG_DESC_W0 0) (A.ENG_DESC_W0 64)).imgWrite img b placed).imgTables img).commitPlacement 0 dropped
  ((x.updEng fun e => { e with installing := [], applyAt := none, oldInstall := false }).imgInstalled img).imgEnd (imgId img) 5 0

section
variable {v : State} {b : List Word}

theorem imgGo_plans (hb : rateBlockOf (imgCert v.eng.img) (v.fld F.CLK_MEDIA_CFG_RATE) = some b) :
    v.imgGo =
      let x := v.imgPlan v.eng.img b v.trigRuns
      if x.1 ≠ 0 then x.2.2.2.imgEnd (imgId v.eng.img) 6 x.1
      else if x.2.2.2.trigRuns then x.2.2.2.goLive v.eng.img b x.2.1 x.2.2.1
      else x.2.2.2.goAtOnce v.eng.img b x.2.1 x.2.2.1 := by
  unfold State.imgGo
  dsimp only
  rw [hb]
  dsimp only [State.goLive, State.goAtOnce]

theorem imgGo_fails (hb : rateBlockOf (imgCert v.eng.img) (v.fld F.CLK_MEDIA_CFG_RATE) = some b)
    (hp : (v.imgPlan v.eng.img b v.trigRuns).1 ≠ 0) :
    ∃ w, Chose v w ∧ v.imgGo = w.imgEnd (imgId v.eng.img) 6 (v.imgPlan v.eng.img b v.trigRuns).1 :=
  ⟨_, imgPlan_chose v _ b _, (imgGo_plans hb).trans (if_pos hp)⟩

theorem imgGo_live (hb : rateBlockOf (imgCert v.eng.img) (v.fld F.CLK_MEDIA_CFG_RATE) = some b)
    (hp : (v.imgPlan v.eng.img b v.trigRuns).1 = 0) (hr : v.play.running = true) :
    ∃ w placed dropped, Chose v w ∧ w.play.running = true ∧ v.imgGo = w.goLive v.eng.img b placed dropped := by
  have hw := imgPlan_chose v v.eng.img b v.trigRuns
  have hr' : (v.imgPlan v.eng.img b v.trigRuns).2.2.2.play.running = true := (congrArg PlayS.running (hw.part .play (by simp))).trans hr
  exact ⟨_, _, _, hw, hr', (imgGo_plans hb).trans ((if_neg (not_not_intro hp)).trans (if_pos hr'))⟩

theorem imgGo_atOnce (hb : rateBlockOf (imgCert v.eng.img) (v.fld F.CLK_MEDIA_CFG_RATE) = some b)
    (hp : (v.imgPlan v.eng.img b v.trigRuns).1 = 0) (hr : v.play.running = false) :
    ∃ w placed dropped, Chose v w ∧ w.play.running = false ∧ v.imgGo = w.goAtOnce v.eng.img b placed dropped := by
  have hw := imgPlan_chose v v.eng.img b v.trigRuns
  have hr' : (v.imgPlan v.eng.img b v.trigRuns).2.2.2.play.running = false := (congrArg PlayS.running (hw.part .play (by simp))).trans hr
  exact ⟨_, _, _, hw, hr', (imgGo_plans hb).trans ((if_neg (not_not_intro hp)).trans (if_neg (Bool.not_eq_true _ ▸ hr')))⟩

end

/-! ### What an installation writes -/

section
variable {v w : State} {img b : List Word} {placed : List PProg} {dropped : List Nat}

/-- Code, state and the pending copies are written; the trigger runs on as it did. -/
def Written (s u : State) : Prop :=
  Chg (fun _ => False) (Parts [.eng, .play]) (fun _ => True) s u ∧ u.play.running = s.play.running

theorem Written.refl (s : State) : Written s s := ⟨Chg.refl, rfl⟩

variable {s t : State}

theorem Written.putPend (h : Written s t) (a n : Nat) : Written s (t.putPend a n) :=
  ⟨h.1.updEng _ (by simp), h.2⟩

theorem Written.putMemWord (h : Written s t) (a : Nat) (x : Word) : Written s (t.putMemWord a x) :=
  ⟨h.1.putMemWord a x fun _ => trivial, h.2⟩

theorem Written.putStateByte (h : Written s t) (a : Nat) (x : BitVec 8) : Written s (t.putStateByte a x) :=
  ⟨(h.1.putByte a x trivial).play _ (by simp), h.2⟩

theorem Written.forL {α : Type} (h : Written s t) (l : List α) (f : α → State → State)
    (hf : ∀ x u, Written s u → Written s (f x u)) : Written s (forL l f t) :=
  forL_induction l f (fun x _ u hu => hf x u hu) h

theorem Written.forN (h : Written s t) (n : Nat) (f : Nat → State → State)
    (hf : ∀ k u, Written s u → Written s (f k u)) : Written s (forN n f t) :=
  forN_induction n f (fun k _ u hu => hf k u hu) h

theorem Written.putCode (h : Written s t) (c entry : Nat) (code : List Word) : Written s (t.putCode c entry code) :=
  h.forN _ _ fun _ _ hu => hu.putMemWord _ _

theorem Written.putInit (h : Written s t) (c base len : Nat) (init : List Word) : Written s (t.putInit c base len init) :=
  h.forN _ _ fun _ _ hu => hu.putStateByte _ _

theorem Written.putCert (h : Written s t) (slot xptNs : Nat) (placed : List PProg) : Written s (t.putCert slot xptNs placed) :=
  (h.forN _ _ fun _ _ hu => hu.putPend _ _).putPend _ _

theorem imgWrite_written (s : State) (img b : List Word) (placed : List PProg) : Written s (s.imgWrite img b placed) := by
  unfold State.imgWrite
  refine Written.putCert (Written.forL (Written.forN (Written.refl s) _ _ fun _ _ hu => hu.putPend _ _) _ _ fun x u hu => ?_) _ _ _
  have hdesc := (hu.forN 7 (fun k s => s.putPend (A.ENG_DESC_W0 x.num + 4 * k) (imgW x.body k)) fun _ _ hu => hu.putPend _ _).putPend
    (A.ENG_DESC_W1 x.num) ((((s.imgPProgs img b).find? fun p => p.m == x.num).map PProg.cyc).getD 0)
  dsimp only
  split
  · exact hdesc
  · exact (((((hdesc.putCode _ _ _).putInit _ _ _ _).putPend _ _).putPend _ _).putPend _ _)

end

/-! ### The image's tables -/

section
variable {s t : State}

/-- The variant stays, and the trigger runs or not as it did. -/
def Steady (s u : State) : Prop := u.variant = s.variant ∧ u.play.running = s.play.running

theorem Steady.of_chg {R : Nat → Prop} {P : Part → Prop} {M : Nat → Prop} (h : Steady s t) {u : State} (hc : Chg R P M t u)
    (hp : ¬ P .play) : Steady s u := ⟨hc.variant.trans h.1, (congrArg PlayS.running (hc.part .play hp)).trans h.2⟩

theorem Written.steady (h : Written s t) : Steady s t := ⟨h.1.variant, h.2⟩

theorem Steady.trans {u : State} (h : Steady s t) (h' : Steady t u) : Steady s u := ⟨h'.1.trans h.1, h'.2.trans h.2⟩

theorem Steady.xpMaster (h : Steady s t) (a : Nat) : Steady s (t.xpMaster a) := by
  unfold State.xpMaster
  dsimp only
  split <;> exact h

theorem Steady.tableWord (h : Steady s t) (a : Nat) (x : Word) : Steady s (t.tableWord a x) := by
  unfold State.tableWord
  split
  · exact h
  · exact Steady.xpMaster (t := t.putReg a _) h a

theorem forN_keeps {α : Type} {p : α → Prop} (n : Nat) (f : Nat → α → α) (hf : ∀ k x, p x → p (f k x)) {x : α} (h : p x) :
    p (forN n f x) := by
  unfold Sys2Proof.Machine.forN
  induction List.range n generalizing x with
  | nil => exact h
  | cons k l ih => exact ih (hf k x h)

theorem chg_imgLines (s : State) (img : List Word) : Chg AnyReg (Parts [.eng]) NoMem s (s.imgLines img) := by
  have hclear : Chg AnyReg (Parts [.eng]) NoMem s (s.clearRegs (A.TBL_DLINE_W0 0) (A.TBL_DLINE_W0 s.dlyLines)) :=
    Chg.refl.clearRegs _ _ fun _ _ _ => trivial
  unfold State.imgLines
  refine Chg.updEng (forN_keeps (p := fun x : State × Nat => Chg AnyReg (Parts [.eng]) NoMem s x.1) _ _ (fun k x hx => ?_)
    (x := (s.clearRegs (A.TBL_DLINE_W0 0) (A.TBL_DLINE_W0 s.dlyLines), 0)) hclear) _ (by simp)
  dsimp only
  split
  · exact hx
  · exact (((hx.set _ _ trivial).set _ _ trivial).set _ _ trivial).set _ _ trivial

theorem imgTables_steady (s : State) (img : List Word) : Steady s (s.imgTables img) := by
  unfold State.imgTables
  dsimp only
  have hcfg : Chg AnyReg (Parts [.eng]) NoMem s
      ((((s.set F.XPT_CFG_FIRST (imgXrange img).1).set F.XPT_CFG_COUNT (imgXrange img).2).xptCfg).updEng
        fun e => { e with xrange := ((imgXrange img).1, (imgXrange img).2) }) :=
    ((((Chg.refl.set _ _ trivial).set _ _ trivial).keep _ _ trivial).keep _ _ trivial).updEng _ (by simp)
  have hlines : Steady s (State.imgLines _ img) := Steady.of_chg ⟨rfl, rfl⟩ (hcfg.trans (chg_imgLines _ img)) (by simp)
  have htab := forL_induction (p := Steady s) (sectsOf img 7) (fun x s =>
    forN (x.body.length - 1) (fun k s => s.tableWord (imgW x.body 0 + 4 * k) (getAt x.body (k + 1) 0)) s)
    (fun x _ u hu => forN_induction _ _ (fun k _ u hu => hu.tableWord _ _) hu) hlines
  split
  · exact htab
  · exact htab.of_chg (Chg.refl.set (P := Parts []) (M := NoMem) _ _ (R := AnyReg) trivial) (by simp)

/-! ### The placement made operative -/

theorem chg_placedUpd (s : State) : Chg AnyReg (Parts []) NoMem s s.placedUpd :=
  (Chg.refl.forN 64 _ fun _ _ _ ht => ht.keep _ _ trivial).forN _ _ fun _ _ _ ht => ht.when _ _ fun _ => ht.keep _ _ trivial

theorem chg_makeOperative (s : State) (l : List (Nat × Word)) : Chg AnyReg (Parts []) NoMem s (s.makeOperative l) :=
  (Chg.refl.forL l _ fun _ _ _ ht => ht.putReg _ _ trivial).trans (chg_placedUpd _)

theorem commitPlacement_runs (h : s.play.running = true) (ap : Nat) (dropped : List Nat) :
    s.commitPlacement ap dropped =
      ((s.set F.PLAY_RW_COST_NS (max (s.fld F.PLAY_RW_COST_NS) (rwOf (plW (s.nextPlacement dropped) A.ENG_SPAN % 2 ^ 24)))).updEng
        fun e => { e with waiting := some (ap, s.nextPlacement dropped) }).set F.ENG_PLACE_CTL_PENDING 1 :=
  if_pos h

theorem commitPlacement_stopped (h : s.play.running = false) (ap : Nat) (dropped : List Nat) :
    s.commitPlacement ap dropped =
      (((s.updEng fun e => { e with waiting := none, old := [] }).makeOperative (s.nextPlacement dropped)).set
        F.ENG_PLACE_CTL_PENDING 0).rwFromSpan :=
  if_neg (by rw [State.trigRuns, h]; decide)

/-! ### The two ends of an installation -/

section
variable {w : State} {img b : List Word} {placed : List PProg} {dropped : List Nat}

/-- The copies wait for the EF that IMG_APPLY_EF named. -/
theorem goLive_waits (hr : w.play.running = true) :
    Chg (Listed [A.ENG_PLACE_EF, A.PLAY_RW_COST, A.ENG_PLACE_CTL, A.ENG_IMG_STATUS]) (Parts [.eng, .play]) (fun _ => True) w
        (w.goLive img b placed dropped) ∧
      (w.goLive img b placed dropped).fld F.ENG_IMG_STATUS_STATE = 4 ∧
      (w.goLive img b placed dropped).on F.ENG_PLACE_CTL_PENDING = true ∧
      (w.goLive img b placed dropped).eng.waiting.isSome = true ∧ (w.goLive img b placed dropped).eng.work = .none ∧
      (w.goLive img b placed dropped).eng.installing = img ∧
      (w.goLive img b placed dropped).reg A.ENG_PLACE_EF = w.reg A.ENG_IMG_APPLY_EF := by
  obtain ⟨hchg, hrun⟩ := imgWrite_written w img b placed
  set x := (w.imgWrite img b placed).wr A.ENG_PLACE_EF (w.rd A.ENG_IMG_APPLY_EF) with hx
  have hxr : x.play.running = true := hrun.trans hr
  have hgo : w.goLive img b placed dropped = ((x.commitPlacement x.applyEf dropped).updEng fun e =>
      { e with work := .none, installing := img, applyAt := some x.applyEf, oldInstall := false }).imgStatus 4 0 := rfl
  rw [hgo, commitPlacement_runs hxr]
  set y := ((x.set F.PLAY_RW_COST_NS (max (x.fld F.PLAY_RW_COST_NS) (rwOf (plW (x.nextPlacement dropped) A.ENG_SPAN % 2 ^ 24)))).updEng
    fun e => { e with waiting := some (x.applyEf, x.nextPlacement dropped) }) with hy
  set z := (y.set F.ENG_PLACE_CTL_PENDING 1).updEng fun e =>
    { e with work := .none, installing := img, applyAt := some x.applyEf, oldInstall := false } with hz
  have hyz : Chg (Listed [A.PLAY_RW_COST, A.ENG_PLACE_CTL, A.ENG_IMG_STATUS]) (Parts [.eng]) NoMem x (z.imgStatus 4 0) :=
    (((((Chg.refl.set _ _ (by simp)).updEng _ (by simp)).set _ _ (by simp)).updEng _ (by simp)).imgStatus _ _ (by simp))
  have hwx : Chg (Listed [A.ENG_PLACE_EF, A.PLAY_RW_COST, A.ENG_PLACE_CTL, A.ENG_IMG_STATUS]) (Parts [.eng, .play]) (fun _ => True) w x :=
    (hchg.mono (fun _ h => h.elim) (fun _ h => h) fun _ h => h).wr _ _ (by simp)
  have hpend : (z.imgStatus 4 0).on F.ENG_PLACE_CTL_PENDING = true := by
    have h1 : (z.imgStatus 4 0).fld F.ENG_PLACE_CTL_PENDING = z.fld F.ENG_PLACE_CTL_PENDING := by
      rw [State.imgStatus, State.fld_set_ne _ _ (by decide), State.fld_set_ne _ _ (by decide), State.fld_set_ne _ _ (by decide)]
    have h2 : z.fld F.ENG_PLACE_CTL_PENDING = 1 := State.fld_set_same y (by decide) 1
    rw [State.on, h1, h2]
    rfl
  refine ⟨hwx.trans (hyz.mono (listed_mono (by simp)) (fun p h => by simp [List.mem_singleton.mp h]) fun _ h => h.elim),
    imgStatus_state z 0 (by decide), hpend, ?_, ?_, ?_, ?_⟩
  · rw [imgStatus_eng, hz]
    simp [State.updEng, hy]
  · rw [imgStatus_eng, hz]
    simp [State.updEng]
  · rw [imgStatus_eng, hz]
    simp [State.updEng]
  · rw [hyz.reg _ (by unfold Listed; decide), hx, State.reg_wr_same, State.rd, BitVec.ofNat_toNat]
    exact BitVec.setWidth_eq _

theorem rowAt_progStatus (v : Variant) {m : Nat} (hm : m < 64) :
    rowAt v (A.ENG_PROG_STATUS m) = some ⟨0x81800, 4, 0x40, 4, 1, 0, 0, 0, 0, 0, 0, 0, 0, 0, 0⟩ := by
  have hwin : rowsAt v (A.ENG_PROG_STATUS m) = rowsENG0 v := by
    unfold rowsAt
    rw [show A.ENG_PROG_STATUS m / 0x10000 = 8 by unfold A.ENG_PROG_STATUS; omega]
    rfl
  rw [rowAt, hwin, rowsENG0, A.ENG_PROG_STATUS]
  cases v <;> simp (disch := omega) only [Variant.pick, find_row_skip, find_row_hit]

/-- The image installed is the one of the register, and its programs' status words are clear. -/
theorem imgInstalled_shows (s : State) (img : List Word) :
    (s.imgInstalled img).rd A.ENG_IMG_ID = imgId img ∧ (∀ m < 64, (s.imgInstalled img).rd (A.ENG_PROG_STATUS m) = 0) ∧
      (s.imgInstalled img).mgmt.image = img ∧ (s.imgInstalled img).mgmt.imageCert = true ∧ (s.imgInstalled img).eng = s.eng ∧
      (s.imgInstalled img).reg A.ENG_PLACE_CTL = s.reg A.ENG_PLACE_CTL := by
  have hreg (a : Nat) (h : a ≠ A.ENG_IMG_ID) :
      (s.imgInstalled img).reg a = (s.clearRegs (A.ENG_PROG_STATUS 0) (A.ENG_PROG_STATUS 64)).reg a := State.reg_wr_ne _ _ h
  refine ⟨?_, fun m hm => ?_, rfl, rfl, rfl, ?_⟩
  · refine (State.rd_wr_same _ _ _).trans (Nat.mod_eq_of_lt ?_)
    exact BitVec.isLt _
  · rw [State.rd, hreg _ (by simp only [A.ENG_PROG_STATUS, A.ENG_IMG_ID]; omega), State.reg_clearRegs,
      if_pos (by simp only [A.ENG_PROG_STATUS]; omega), resetWord, rowAt_progStatus _ hm]
    rfl
  · rw [hreg _ (by decide), State.reg_clearRegs, if_neg (by decide)]

/-- A placement committed with the trigger stopped leaves none waiting. -/
theorem commitPlacement_settles {x : State} (h : x.play.running = false) (ap : Nat) (dropped : List Nat) :
    (x.commitPlacement ap dropped).variant = x.variant ∧ (x.commitPlacement ap dropped).eng.waiting = none ∧
      (x.commitPlacement ap dropped).on F.ENG_PLACE_CTL_PENDING = false := by
  rw [commitPlacement_stopped h]
  set v := x.updEng fun e => { e with waiting := none, old := [] } with hv
  have hop := chg_makeOperative v (x.nextPlacement dropped)
  set y := v.makeOperative (x.nextPlacement dropped) with hy
  have hset : Chg AnyReg (Parts []) NoMem y ((y.set F.ENG_PLACE_CTL_PENDING 0).rwFromSpan) := (Chg.refl.set _ _ trivial).set _ _ trivial
  have hwait : v.eng.waiting = none := rfl
  refine ⟨hset.variant.trans hop.variant, ?_, ?_⟩
  · rw [hset.part .eng (by simp), hop.part .eng (by simp)]
    exact hwait
  · rw [State.on, State.rwFromSpan, State.fld_set_ne _ _ (by decide), State.fld_set_same _ (by decide)]
    rfl

/-- A load that ends with its image installed. -/
def State.installed (z : State) (img : List Word) : State :=
  ((z.updEng fun e => { e with installing := [], applyAt := none, oldInstall := false }).imgInstalled img).imgEnd (imgId img) 5 0

theorem installed_shows (z : State) (img : List Word) :
    (z.installed img).variant = z.variant ∧ ImgEnds 5 0 (z.installed img) ∧ (z.installed img).rd A.ENG_IMG_ID = imgId img ∧
      (z.installed img).mgmt.image = img ∧ (z.installed img).mgmt.imageCert = true ∧
      (z.installed img).on F.ENG_PLACE_CTL_PENDING = z.on F.ENG_PLACE_CTL_PENDING ∧ (z.installed img).eng.waiting = z.eng.waiting ∧
      ∀ m < 64, (z.installed img).rd (A.ENG_PROG_STATUS m) = 0 := by
  set v := z.updEng fun e => { e with installing := [], applyAt := none, oldInstall := false } with hv
  have hvz : v.reg A.ENG_PLACE_CTL = z.reg A.ENG_PLACE_CTL ∧ v.eng.waiting = z.eng.waiting ∧ v.variant = z.variant := ⟨rfl, rfl, rfl⟩
  obtain ⟨hvctl, hvwait, hvvar⟩ := hvz
  obtain ⟨hid, hprog, himage, hcert, heng, hctl⟩ := imgInstalled_shows v img
  have hvar : (v.imgInstalled img).variant = v.variant := rfl
  have hgo : z.installed img = (v.imgInstalled img).imgEnd (imgId img) 5 0 := rfl
  set u := v.imgInstalled img with hu
  have hend : Chg (Listed [A.ENG_IMG_STATUS, A.MGMT_EVT]) (Parts [.eng, .mgmt]) NoMem u (u.imgEnd (imgId img) 5 0) :=
    Chg.refl.imgEnd _ _ _ (by simp) (by simp) (by simp) (by simp)
  have hkept := imgEnd_mgmt u (imgId img) 5 0
  have hends := imgEnd_ends u (imgId img) (st := 5) (why := 0) (by decide) (by decide)
  have heng' := imgEnd_eng u (imgId img) 5 0
  rw [hgo]
  refine ⟨hend.variant.trans (hvar.trans hvvar), hends,
    (State.rd_eq_of_reg (hend.reg _ (by unfold Listed; decide))).trans hid, (congrArg Mgmt.image hkept :).trans himage,
    (congrArg Mgmt.imageCert hkept :).trans hcert, ?_, ?_, fun m hm => ?_⟩
  · rw [State.on, State.on,
      State.fld_eq_of_reg (((hend.reg A.ENG_PLACE_CTL (by unfold Listed; decide)).trans hctl).trans hvctl)]
  · rw [heng', heng]
    exact hvwait
  · refine (State.rd_eq_of_reg (hend.reg _ ?_)).trans (hprog m hm)
    simp only [listed_iff, not_or]
    exact ⟨by simp [A.ENG_PROG_STATUS, A.ENG_IMG_STATUS, A.MGMT_EVT]; omega,
      notMem_summaries (by simp only [A.ENG_PROG_STATUS]; omega)⟩

/-- The image is operative at once, and its load ends INSTALLED. -/
theorem goAtOnce_installs (hr : w.play.running = false) :
    ∃ z : State, w.goAtOnce img b placed dropped = z.installed img ∧ z.variant = w.variant ∧ z.eng.waiting = none ∧
      z.on F.ENG_PLACE_CTL_PENDING = false := by
  have hclear : Steady w (w.clearRegs (A.ENG_DESC_W0 0) (A.ENG_DESC_W0 64)) := ⟨rfl, rfl⟩
  have hwrite := hclear.trans (imgWrite_written _ img b placed).steady
  have hsteady := hwrite.trans (imgTables_steady _ img)
  obtain ⟨hvar, hwait, hpend⟩ := commitPlacement_settles (hsteady.2.trans hr) 0 dropped
  exact ⟨_, rfl, hvar.trans hsteady.1, hwait, hpend⟩

end

end

/-! ### What the loader answers once an image goes in -/

section
variable {s : State} {b : List Word}

/-- What is known once an image waits for its EF. -/
theorem answers_live {i : Instr} {f : State → State} (hx : exec i s = s.run f) (heff : f s.fresh = s.fresh.imgGo)
    (hb : rateBlockOf (imgCert s.eng.img) (s.fld F.CLK_MEDIA_CFG_RATE) = some b)
    (hp : (s.imgPlan s.eng.img b s.trigRuns).1 = 0) (hr : s.play.running = true) :
    Answers i s fun t =>
      t.fld F.ENG_IMG_STATUS_STATE = 4 ∧ t.on F.ENG_PLACE_CTL_PENDING = true ∧ t.eng.waiting.isSome = true ∧ t.eng.work = .none ∧
      t.eng.installing = s.eng.img ∧ t.reg A.ENG_PLACE_EF = s.reg A.ENG_IMG_APPLY_EF ∧ t.reg A.ENG_IMG_ID = s.reg A.ENG_IMG_ID ∧
      t.mgmt.image = s.mgmt.image := by
  have hplan : (s.fresh.imgPlan s.fresh.eng.img b s.fresh.trigRuns).1 = 0 := (imgPlan_fresh s s.eng.img b s.trigRuns).trans hp
  obtain ⟨w, placed, dropped, hw, hwr, hgo⟩ := imgGo_live (v := s.fresh) hb hplan hr
  obtain ⟨hchg, hstate, hpend, hwait, hwork, hinst, hef⟩ := goLive_waits (img := s.eng.img) (b := b) (placed := placed) (dropped := dropped) hwr
  have hgo' : s.fresh.imgGo = w.goLive s.eng.img b placed dropped := hgo
  have hsw : Chose s w := Chg.refl.fresh.trans hw
  set u := w.goLive s.eng.img b placed dropped with hu
  have hall : Chg AnyReg AnyPart (fun _ => True) s u :=
    (hsw.mono (fun _ _ => trivial) (fun _ _ => trivial) fun _ _ => trivial).trans hchg.anywhere
  have hid : u.reg A.ENG_IMG_ID = s.reg A.ENG_IMG_ID :=
    (hchg.reg _ (by unfold Listed; decide)).trans (hsw.reg _ (by unfold Listed; decide))
  have himage : u.mgmt = s.mgmt := Eq.trans (hchg.part .mgmt (by simp)) (hsw.part .mgmt (by simp))
  refine answers_effect f hx (heff.trans hgo') hall ⟨?_, ?_, ?_, ?_, ?_, ?_, ?_, ?_⟩
  · exact (State.fld_seal _ _ (by decide)).trans hstate
  · exact (State.on_seal _ _ (by decide)).trans hpend
  · rw [State.seal_eng]; exact hwait
  · rw [State.seal_eng]; exact hwork
  · rw [State.seal_eng]; exact hinst
  · rw [State.reg_seal _ _ (by decide)]; exact hef.trans (hsw.reg _ (by unfold Listed; decide))
  · exact (State.reg_seal _ _ (by decide)).trans hid
  · rw [State.seal_mgmt, himage]

theorem check_waits (hw : s.eng.work = .checking true) (h : s.imageWhy s.eng.img = 0)
    (hb : rateBlockOf (imgCert s.eng.img) (s.fld F.CLK_MEDIA_CFG_RATE) = some b)
    (hp : (s.imgPlan s.eng.img b s.trigRuns).1 = 0) (hr : s.play.running = true) (hheld : s.imgHeld = false) :
    Answers .imageCheckComplete s fun t =>
      t.fld F.ENG_IMG_STATUS_STATE = 4 ∧ t.on F.ENG_PLACE_CTL_PENDING = true ∧ t.eng.waiting.isSome = true ∧
      t.eng.installing = s.eng.img ∧ t.reg A.ENG_PLACE_EF = s.reg A.ENG_IMG_APPLY_EF ∧ t.reg A.ENG_IMG_ID = s.reg A.ENG_IMG_ID ∧
      t.mgmt.image = s.mgmt.image := by
  have hplan : (s.fresh.imgPlan s.fresh.eng.img b s.fresh.trigRuns).1 = 0 := (imgPlan_fresh s s.eng.img b s.trigRuns).trans hp
  have heff : s.fresh.imgChecked = s.fresh.imgGo := by
    rw [imgChecked_plans (v := s.fresh) hw h hb, if_neg (not_not_intro hplan),
      if_neg (by rw [show s.fresh.imgHeld = false from hheld]; decide)]
  obtain ⟨t, ht, h1, h2, h3, -, h5, h6, h7, h8⟩ := answers_live (i := .imageCheckComplete) (f := State.imgChecked) rfl heff hb hp hr
  exact ⟨t, ht, h1, h2, h3, h5, h6, h7, h8⟩

theorem release_waits (hw : s.eng.work = .held) (hheld : s.imgHeld = false) (hr : s.play.running = true)
    (hb : rateBlockOf (imgCert s.eng.img) (s.fld F.CLK_MEDIA_CFG_RATE) = some b) (hp : (s.imgPlan s.eng.img b true).1 = 0) :
    Answers .installHoldRelease s fun t =>
      t.fld F.ENG_IMG_STATUS_STATE = 4 ∧ t.on F.ENG_PLACE_CTL_PENDING = true ∧ t.eng.waiting.isSome = true ∧ t.eng.work = .none ∧
      t.eng.installing = s.eng.img := by
  have hp' : (s.imgPlan s.eng.img b s.trigRuns).1 = 0 := by rw [State.trigRuns, hr]; exact hp
  obtain ⟨t, ht, h1, h2, h3, h4, h5, -⟩ := answers_live (i := .installHoldRelease) (f := State.imgRelease) rfl (imgRelease_goes (v := s.fresh) hw hheld) hb hp' hr
  exact ⟨t, ht, h1, h2, h3, h4, h5⟩

theorem release_planFails (hw : s.eng.work = .held) (hheld : s.imgHeld = false) (hr : s.play.running = true)
    (hb : rateBlockOf (imgCert s.eng.img) (s.fld F.CLK_MEDIA_CFG_RATE) = some b) (hp : (s.imgPlan s.eng.img b true).1 ≠ 0) :
    Answers .installHoldRelease s fun t => ImgEnds 6 (s.imgPlan s.eng.img b true).1 t ∧ t.mgmt.image = s.mgmt.image := by
  have htrig : s.trigRuns = true := hr
  have hplan : (s.fresh.imgPlan s.fresh.eng.img b s.fresh.trigRuns).1 = (s.imgPlan s.eng.img b true).1 :=
    htrig ▸ imgPlan_fresh s s.eng.img b s.trigRuns
  obtain ⟨w, hchose, hgo⟩ := imgGo_fails (v := s.fresh) hb (hplan ▸ hp)
  rw [hplan] at hgo
  obtain ⟨t, ht, hends, -, himage⟩ := answers_planFails (i := .installHoldRelease) (f := State.imgRelease) rfl
    ((imgRelease_goes (v := s.fresh) hw hheld).trans hgo) (Chg.refl.fresh.trans hchose) (imgPlan_lt s _ b _)
  exact ⟨t, ht, hends, himage⟩

theorem check_installs (hw : s.eng.work = .checking true) (h : s.imageWhy s.eng.img = 0)
    (hb : rateBlockOf (imgCert s.eng.img) (s.fld F.CLK_MEDIA_CFG_RATE) = some b)
    (hp : (s.imgPlan s.eng.img b s.trigRuns).1 = 0) (hr : s.play.running = false) :
    Answers .imageCheckComplete s fun t =>
      ImgEnds 5 0 t ∧ t.rd A.ENG_IMG_ID = imgId s.eng.img ∧ t.mgmt.image = s.eng.img ∧ t.mgmt.imageCert = true ∧
      t.on F.ENG_PLACE_CTL_PENDING = false ∧ t.eng.waiting = none ∧ (∀ m < 64, t.rd (A.ENG_PROG_STATUS m) = 0) := by
  have hplan : (s.fresh.imgPlan s.fresh.eng.img b s.fresh.trigRuns).1 = 0 := (imgPlan_fresh s s.eng.img b s.trigRuns).trans hp
  have hheld : s.fresh.imgHeld = false := by
    have htrig : s.fresh.trigRuns = false := hr
    rw [State.imgHeld, htrig, Bool.false_and, Bool.false_and]
  have heff : s.fresh.imgChecked = s.fresh.imgGo := by
    rw [imgChecked_plans (v := s.fresh) hw h hb, if_neg (not_not_intro hplan), if_neg (by rw [hheld]; decide)]
  obtain ⟨w, placed, dropped, hw, hwr, hgo⟩ := imgGo_atOnce (v := s.fresh) hb hplan hr
  obtain ⟨z, hz, hzv, hwait, hpend⟩ := goAtOnce_installs (img := s.fresh.eng.img) (b := b) (placed := placed) (dropped := dropped) hwr
  have hgo' : s.fresh.imgChecked = z.installed s.eng.img := heff.trans (hgo.trans hz)
  obtain ⟨hv, hends, hid, himage, hcert, hctl, hwait', hprog⟩ := installed_shows z s.eng.img
  have hvar : (z.installed s.eng.img).variant = s.variant := hv.trans (hzv.trans hw.variant)
  refine answers_run State.imgChecked rfl hgo' hvar ⟨ImgEnds.seal hends, ?_, ?_, ?_, ?_, ?_, fun m hm => ?_⟩
  · exact (State.rd_seal _ _ (by decide)).trans hid
  · rw [State.seal_mgmt]; exact himage
  · rw [State.seal_mgmt]; exact hcert
  · exact (State.on_seal _ _ (by decide)).trans (hctl.trans hpend)
  · rw [State.seal_eng]; exact hwait'.trans hwait
  · exact (State.rd_seal _ _ (notMem_summaries (by simp only [A.ENG_PROG_STATUS]; omega))).trans (hprog m hm)

end

/-- Settles O46. -/
theorem imageLoader : Obligations.ImageLoader := by
  unfold Obligations.ImageLoader
  exact ⟨fun s m priv hd => imgBegin_answers hd, fun s m priv w hd hs hl => imgData_appends w hd hs hl,
    fun s m priv w hd hs hl => imgData_overflows w hd hs hl, fun s m priv w hd hs => imgData_idle w hd hs,
    fun s m priv hd h2 h3 => imgChecks_answer hd h2 h3, fun s m priv hd h => imgChecks_idle hd h,
    fun s b hw h => check_refuses hw h, fun s hw h => check_passes hw h,
    fun s b hw h hb hp hheld => check_holds hw h hb hp hheld, fun s b hw h hb hp => check_planFails hw h hb hp,
    fun s b hw h hb hp hr => check_installs hw h hb hp hr, fun s b hw h hb hp hr hheld => check_waits hw h hb hp hr hheld,
    fun s h => check_idle h, fun s h => release_idle h,
    fun s b hw hheld hr hb hp => release_waits hw hheld hr hb hp,
    fun s b hw hheld hr hb hp => release_planFails hw hheld hr hb hp⟩

end Sys2Proof.Machine
end

section

/-! PROOFS. Refutes ScpCommands (O56). -/

namespace Sys2Proof.Machine

/-! ### A module that tests a block it has not -/

/-- The one session of controller c, with an empty key. -/
def openTo (c : Nat) : Session := ⟨1, c, false, 0, 0, [], 0, none, [], none, 0, []⟩

/-- The MP is powered, a session is open, and a block is under test whose result words would stand in the lay table: 6128 is no
block's number, and no command starts a test of it. -/
def strayTest (c : Nat) : State :=
  { State.reset with
    variant := .jk256, regs := [(A.PWR_UNIT_STATUS, 0x7FFF)], test.running := some 6128, scp.sessions := [openTo c] }

/-- A class 7 CLAIM of lay 0, with a tag. -/
def claimTagged (tag : List Nat) (c : Nat) : ScpMsg := ⟨1, false, tag, none, true, 7, none, c, 1, 1, 3, 0⟩

/-- The same, with its own tag. -/
def claimLay (c : Nat) : ScpMsg := claimTagged ((hmac [] (scpBytes (claimTagged [] c) ScpOp.claim.code ScpOp.claim.payload)).take 16) c

theorem strayTest_on : (strayTest 0).unitOn 3 = true := by decide
theorem strayTest_lays : 0 < (strayTest 0).lays := by decide
theorem strayTest_lines : ∀ n < 64, (strayTest 0).lineState n ≠ lnRetrying := by decide
theorem openTo_fresh : (openTo 0).fresh 1 = true := by decide

theorem claimLay_asks {c : Nat} : Asks (strayTest c) (claimLay c) (openTo c) .claim := by
  have hsigned : scpSigned (claimLay c) (openTo c).key ScpOp.claim.code ScpOp.claim.payload = true := by
    unfold scpSigned
    exact beq_self_eq_true _
  have hgood : scpGood (claimLay c) (openTo c) = true := by
    unfold scpGood claimLay claimTagged openTo
    simp
  have hon : (strayTest c).unitOn 3 = true := strayTest_on
  have hsession : (strayTest c).session 1 = some (openTo c) := rfl
  have hfresh : (openTo c).fresh 1 = true := openTo_fresh
  exact ⟨hon, rfl, hsession, hsigned, hfresh, hgood⟩

/-! ### What the claim does to the owner -/

section
variable {v : State} {c : Nat}

/-- Where no line retries, the first class 7 hold changes no line. -/
theorem class7Edge_held (before : Bool) (hc : v.class7 = true) (h : ∀ n < v.lines, v.lineState n ≠ lnRetrying) :
    v.class7Edge before = v := by
  have hbegin : v.class7Begin = v := by
    unfold State.class7Begin
    refine forN_induction (p := fun t => t = v) _ _ (fun n hn t ht => ?_) rfl
    subst ht
    dsimp only
    rw [beq_false_of_ne (h n hn), Bool.false_and, Bool.false_and, State.when_false]
  unfold State.class7Edge
  rw [hc]
  cases before
  · exact hbegin
  · rfl

/-- The registers that the abort of a test may change. -/
def abortRegs (b : Nat) : List Nat := A.TEST_QUEUED :: resultRegs b

/-- A result's signature stands in the block's second result word. -/
theorem testResult_signs {b res kind cf sig cyc why : Nat} (hb : A.TEST_RES_W1 b ∉ [A.TEST_EVT, A.TEST_STATUS, A.MGMT_EVT]) :
    (v.testResult b res kind cf sig cyc why).reg (A.TEST_RES_W1 b) = BitVec.ofNat 32 sig := by
  obtain ⟨k, l, heq⟩ := testResult_eq v b res kind cf sig cyc why
  set w := v.resultWords b res kind cf sig cyc why with hw
  have hlater : Chg (fun a => a ∈ [A.TEST_EVT, A.TEST_STATUS, A.MGMT_EVT]) AnyPart NoMem w (v.testResult b res kind cf sig cyc why) := by
    rw [heq]
    have hd := (Chg.refl (R := fun a => a ∈ [A.TEST_EVT, A.TEST_STATUS, A.MGMT_EVT]) (P := AnyPart) (M := NoMem) (s := w)).event
      F.TEST_EVT_DONE (by simp)
    have hf := hd.when (res == 4) (fun s => s.event F.TEST_EVT_FAIL) fun _ => hd.event _ (by simp)
    exact (((hf.when _ _ fun _ => hf.event _ (by simp)).log _ _ _ _ (by simp) trivial).wr _ _ (by simp)).updTest _ trivial
  rw [hlater.reg _ hb, hw, State.resultWords, State.reg_wr_ne _ _ (by simp only [A.TEST_RES_W1, A.TEST_RES_W2]; omega)]
  exact State.reg_wr_same _ _ _

/-- Abandoned for a class 6 or 7 request, a test leaves a free choice as its signature. -/
theorem testAbort_signs {b : Nat} (h : v.test.running = some b) :
    Chg (fun a => a ∈ abortRegs b) AnyPart NoMem v (v.testAbort 1) ∧
      (A.TEST_RES_W1 b ∉ [A.TEST_QUEUED, A.TEST_EVT, A.TEST_STATUS, A.MGMT_EVT] →
        (v.testAbort 1).reg (A.TEST_RES_W1 b) = BitVec.ofNat 32 ((Config.freeValue v.freeCtr).toNat % 2 ^ 32)) := by
  set w := v.abortChoices with hw
  have hvw : Chg (fun a => a ∈ abortRegs b) AnyPart NoMem v w := ((Chg.refl.free _ trivial).free _ trivial).free _ trivial
  obtain ⟨kind, cyc, c, habort⟩ : ∃ kind cyc c, v.testAbort 1 =
      ((w.testResult b 5 kind 0 ((Config.freeValue v.freeCtr).toNat % 2 ^ 32) cyc 1).updTest fun t =>
        { t with aborts := bumpAt t.aborts b }).when c fun s => s.setBit F.TEST_QUEUED_MASK b true := by
    unfold State.testAbort
    rw [h]
    exact ⟨_, _, _, rfl⟩
  rw [habort]
  set x := w.testResult b 5 kind 0 ((Config.freeValue v.freeCtr).toNat % 2 ^ 32) cyc 1 with hx
  have hwx : Chg (fun a => a ∈ abortRegs b) AnyPart NoMem v x :=
    hvw.testResult (fun a ha => List.mem_cons_of_mem _ ha) trivial trivial
  have hxu : Chg (fun a => a ∈ [A.TEST_QUEUED]) AnyPart NoMem x ((x.updTest fun t => { t with aborts := bumpAt t.aborts b }).when c
      fun s => s.setBit F.TEST_QUEUED_MASK b true) :=
    (Chg.refl.updTest _ trivial).when _ _ fun _ => (Chg.refl.updTest _ trivial).setBit _ _ _ (by simp)
  refine ⟨hwx.trans (hxu.mono (fun a ha => by simp [abortRegs, List.mem_singleton.mp ha]) (fun _ h => h) fun _ h => h), fun hb => ?_⟩
  simp only [List.mem_cons, not_or] at hb
  obtain ⟨hq, hb⟩ := hb
  rw [hxu.reg _ (by simp [hq]), hx, testResult_signs (by simp only [List.mem_cons, not_or]; exact hb)]

end

/-! ### The owner after the claim -/

section
variable {c : Nat}

/-- The claim as it is taken. -/
abbrev heardClaim (c : Nat) : State := (strayTest c).taken 0 (claimLay c)

/-- The hold that the claim takes. -/
def claimHold (c : Nat) : Hold := ⟨3, 0, c, 1, (heardClaim c).ownerOf 3 0, ((heardClaim c).setOwner 3 0 c).time.up⟩

/-- The state in which the claim has taken its hold. -/
def claiming (c : Nat) : State :=
  (((heardClaim c).setOwner 3 0 c).updScp fun x => { x with holds := [claimHold c] }).setOwner 3 0 c

theorem chg_claiming : Chg (Listed (timeRegs ++ [A.TBL_LAY_W1 0])) (Parts [.time, .clk, .mgmt, .scp]) NoMem (strayTest c) (claiming c) := by
  have htaken := (chg_taken (s := strayTest c) (dt := 0) (m := claimLay c)).mono
    (listed_mono (k := timeRegs ++ [A.TBL_LAY_W1 0]) (by simp)) (fun _ h => h) fun _ h => h
  exact ((htaken.keep _ _ (by simp)).scp _ (by simp)).keep _ _ (by simp)

theorem claiming_class7 : (claiming c).class7 = true := by
  have hholds : (claiming c).scp.holds = [claimHold c] := by
    have hlay (v : State) (k : Nat) : v.setOwner 3 0 k = v.keep (F.TBL_LAY_W1_OWNER 0) k := rfl
    rw [claiming, hlay, State.keep_scp]
    rfl
  rw [State.class7, State.held7, hholds, List.isEmpty_cons, Bool.not_false, Bool.or_true]

theorem claiming_lines : ∀ n < (claiming c).lines, (claiming c).lineState n ≠ lnRetrying := by
  intro n hn
  have hvar : (claiming c).variant = .jk256 := chg_claiming.variant
  have hn' : n < 64 := by
    rw [State.lines, hvar] at hn
    exact hn
  have hkept : (claiming c).lineState n = (strayTest c).lineState n := by
    refine State.fld_eq_of_reg (chg_claiming.reg _ ?_)
    simp only [listed_iff, not_or]
    refine ⟨?_, notMem_summaries (by simp only [A.TBL_PLINE_W10]; omega)⟩
    simp only [timeRegs, List.mem_append, List.mem_cons, List.not_mem_nil, or_false, A.CLK_MISALIGN, A.CLK_EVT, A.MGMT_EVT,
      A.TBL_LAY_W1, A.TBL_PLINE_W10]
    omega
  rw [hkept]
  exact strayTest_lines n hn'

/-- What the claim leaves. -/
def claimed (c : Nat) : State := ((claiming c).testAbort 1).updTest fun t => { t with wait67 := true }

theorem heardClaim_holds : ((heardClaim c).setOwner 3 0 c).scp.holds = [] := by
  have hlay : (heardClaim c).setOwner 3 0 c = (heardClaim c).keep (F.TBL_LAY_W1_OWNER 0) c := rfl
  rw [hlay, State.keep_scp]
  exact scpSame_taken.holds

theorem claiming_takes : ((heardClaim c).setOwner 3 0 c).takeHold 3 0 c 1 ((heardClaim c).ownerOf 3 0) = claimed c := by
  unfold State.takeHold State.holdOf
  rw [heardClaim_holds]
  exact congrArg State.testClass67 (class7Edge_held _ claiming_class7 claiming_lines)

/-- The claim touches neither the module's state nor anything beyond the registers named. -/
theorem chg_claimed : Chg (Listed (timeRegs ++ A.TBL_LAY_W1 0 :: abortRegs 6128)) AnyPart NoMem (strayTest c) (claimed c) := by
  have hrun : (claiming c).test.running = some 6128 := congrArg TestS.running (chg_claiming.part .test (by simp))
  have hfirst := (chg_claiming (c := c)).mono (listed_mono (k := timeRegs ++ A.TBL_LAY_W1 0 :: abortRegs 6128) (by simp))
    (fun _ _ => trivial) fun _ h => h
  exact (hfirst.trans ((testAbort_signs hrun).1.mono (fun a ha => .inl (by simp [ha])) (fun _ h => h) fun _ h => h)).updTest _ trivial

theorem claimed_awake : (claimed c).wakeFor 3 = claimed c := by
  refine if_neg ?_
  have h : (claimed c).modState = (strayTest c).modState := State.fld_eq_of_reg (chg_claimed.reg _ (by unfold Listed; decide))
  rw [h]
  exact (by decide : (strayTest 0).modState ≠ stQuiet)

theorem claimed_owner : (claimed c).reg (A.TBL_LAY_W1 0) = BitVec.ofNat 32 ((Config.freeValue 0).toNat % 2 ^ 32) := by
  have hrun : (claiming c).test.running = some 6128 := congrArg TestS.running (chg_claiming.part .test (by simp))
  have hfree : (claiming c).freeCtr = 0 := chg_claiming.part .free (by simp)
  have h := (testAbort_signs hrun).2 (by decide)
  rw [hfree] at h
  exact h

theorem claim_effect : ((strayTest c).fresh.advance 0).scpCommand (claimLay c) .claim = (claimed c).scpSend (scpReply (claimLay c) 0 []) := by
  obtain ⟨-, -, -, -, -, hgood⟩ := claimLay_asks (c := c)
  have hvar : (heardClaim c).variant = .jk256 := chg_taken.variant
  have hfits : (heardClaim c).scpFits (claimLay c) .claim = true := by
    have hhere : (heardClaim c).objHere 3 0 = true := by
      unfold State.objHere State.lays
      rw [hvar]
      rfl
    unfold State.scpFits
    rw [show (claimLay c).kind = 3 from rfl, show (claimLay c).index = 0 from rfl, hhere]
    rfl
  have happly : (heardClaim c).scpApply .claim false 7 c 1 3 0 = (0, [], claimed c) := by
    have hperform : (heardClaim c).scpPerform .claim false c 3 0 = (0, [], (heardClaim c).setOwner 3 0 c) := rfl
    unfold State.scpApply
    rw [hperform]
    dsimp only
    rw [if_pos ⟨rfl, rfl⟩, show ((3 : Nat) != 0) = true from rfl, State.when_true, claiming_takes, claimed_awake]
  have howned : (heardClaim c).scpOwnedBy .claim 7 c 3 0 = false := rfl
  unfold State.scpCommand
  rw [scpTake_talks claimLay_asks, hgood, hfits]
  refine (if_neg (by decide)).trans ((if_neg ?_).trans ?_)
  · exact Bool.eq_false_iff.mp howned
  · change (let (st, ws, s) := (heardClaim c).scpApply .claim false 7 c 1 3 0; s.scpSend (scpReply (claimLay c) st ws)) = _
    rw [happly]

end

/-- Refutes O56: a class 7 command abandons the block under test, and a block's result words stand at its number; with a
number that is no block's, as no command starts it, the signature falls on the lay's OWNER. -/
theorem not_scpCommands : ¬ Obligations.ScpCommands := by
  rintro ⟨⟨-, -, -, -, -, -, -, hclaim, -⟩, -⟩
  have howner (c : Nat) : (F.TBL_LAY_W1_OWNER 0).of ((Config.freeValue 0).toNat % 2 ^ 32 % 2 ^ 32) = c % 2 ^ 16 := by
    obtain ⟨t, ht, -, howner, -⟩ := hclaim (strayTest c) 0 0 (claimLay c) (openTo c) claimLay_asks rfl rfl rfl rfl strayTest_lays rfl
    have hvar : ((claimed c).scpSend (scpReply (claimLay c) 0 [])).variant = (strayTest c).variant := chg_claimed.variant
    have hx : exec (.scpClaim 0 (claimLay c)) (strayTest c) = .next ((strayTest c).seal ((claimed c).scpSend (scpReply (claimLay c) 0 []))) :=
      congrArg Host.Outcome.next ((strayTest c).done_eq _ claim_effect hvar)
    obtain rfl := Host.Outcome.next.inj (hx.symm.trans ht)
    have hsealed : (((strayTest c).seal ((claimed c).scpSend (scpReply (claimLay c) 0 [])))).ownerOf 3 0 = (claimed c).fld (F.TBL_LAY_W1_OWNER 0) :=
      State.fld_seal _ _ (by decide)
    rw [hsealed, State.fld, State.rd, claimed_owner, BitVec.toNat_ofNat] at howner
    exact howner
  exact absurd ((howner 0).symm.trans (howner 1)) (by decide)

end Sys2Proof.Machine
end

section

/-! PROOFS. Refutes EngineFrames (O32). -/

namespace Sys2Proof.Machine

/-- A hitch whose version holds, among the crosspoints' targets, a word of PLAY.NOW_EF, as no EF's version does; and a packet
of the arrival hold that is due at the next tick and rewinds to that hitch. -/
def strayVersion : State :=
  { State.reset with
    variant := .jk256, regs := [(A.TBL_LAY_W0 0, 0x80000000)], clk := { ClkS.reset with running := true },
    strm := { StrmS.reset with held := [⟨0, 192, 1, 0, []⟩] },
    play := { PlayS.reset with running := true, cleat := 10, head := 14,
                               hitches := [some (12, ⟨[], [(A.PLAY_NOW_EF, 7)], [], [], [], []⟩), none, none, none] } }

theorem strayVersion_tick : (strayVersion.fresh.tick []).rd A.PLAY_NOW_EF = 7 ∧ (strayVersion.fresh.tick []).variant = .jk256 := by
  decide +kernel

/-- Refutes O32: a rewind in the tick restores every word of its version, here PLAY.NOW_EF's too. -/
theorem not_engineFrames : ¬ Obligations.EngineFrames := by
  rintro ⟨htick, -⟩
  obtain ⟨t, ht, -, -, -, hnow, -⟩ := htick strayVersion [] rfl rfl rfl
  obtain ⟨hseven, hvar⟩ := strayVersion_tick
  have hx : exec (.efTick []) strayVersion = .next (strayVersion.seal (strayVersion.fresh.tick [])) :=
    congrArg Host.Outcome.next (strayVersion.done_eq (State.when · strayVersion.clk.running (State.tick · [])) (State.when_true _) hvar)
  obtain rfl := Host.Outcome.next.inj (hx.symm.trans ht)
  rw [State.rd_seal _ _ (by decide), hseven] at hnow
  exact absurd hnow (by decide)

end Sys2Proof.Machine
end

section
/-! PROOFS. Supervised lines: what their operations read, show and change (R353 to R360). -/

namespace Sys2Proof.Machine

/-! ### Lines and output slots -/

theorem State.line_of_proof {s t : State} (h : t.proof = s.proof) (n : Nat) : t.line n = s.line n := by rw [State.line, h, State.line]
theorem State.slotG_of_proof {s t : State} (h : t.proof = s.proof) (k : Nat) : t.slotG k = s.slotG k := by rw [State.slotG, h, State.slotG]

theorem State.line_lineUpd (s : State) (n k : Nat) (f : LineS → LineS) :
    (s.lineUpd n f).line k = if k = n then f (s.line n) else s.line k := by
  simp only [State.line, State.lineUpd, State.updProof, Sparse.find_insert]
  split <;> rfl

theorem State.line_lineUpd_same (s : State) (n : Nat) (f : LineS → LineS) : (s.lineUpd n f).line n = f (s.line n) := by
  rw [State.line_lineUpd, if_pos rfl]

theorem State.slotG_slotUpd (s : State) (n k : Nat) (f : SlotG → SlotG) :
    (s.slotUpd n f).slotG k = if k = n then f (s.slotG n) else s.slotG k := by
  simp only [State.slotG, State.slotUpd, State.updProof, Sparse.find_insert]
  split <;> rfl

theorem State.slotG_slotUpd_same (s : State) (n : Nat) (f : SlotG → SlotG) : (s.slotUpd n f).slotG n = f (s.slotG n) := by
  rw [State.slotG_slotUpd, if_pos rfl]

theorem State.slotG_slotUpd_ne (s : State) {n k : Nat} (h : k ≠ n) (f : SlotG → SlotG) : (s.slotUpd n f).slotG k = s.slotG k := by
  rw [State.slotG_slotUpd, if_neg h]

@[simp] theorem State.slotG_lineUpd (s : State) (n k : Nat) (f : LineS → LineS) : (s.lineUpd n f).slotG k = s.slotG k := rfl
@[simp] theorem State.line_slotUpd (s : State) (n k : Nat) (f : SlotG → SlotG) : (s.slotUpd n f).line k = s.line k := rfl
@[simp] theorem State.reg_lineUpd (s : State) (n a : Nat) (f : LineS → LineS) : (s.lineUpd n f).reg a = s.reg a := rfl
@[simp] theorem State.reg_slotUpd (s : State) (n a : Nat) (f : SlotG → SlotG) : (s.slotUpd n f).reg a = s.reg a := rfl
@[simp] theorem State.fld_lineUpd (s : State) (n : Nat) (f : LineS → LineS) (g : Fld) : (s.lineUpd n f).fld g = s.fld g := rfl
@[simp] theorem State.fld_slotUpd (s : State) (n : Nat) (f : SlotG → SlotG) (g : Fld) : (s.slotUpd n f).fld g = s.fld g := rfl

/-- A full slot begins to fade. -/
theorem slotFade_state {s : State} {key : Nat} (h : (s.slotG key).state = 0) : ((s.slotFade key).slotG key).state = 1 := by
  unfold State.slotFade
  dsimp only
  rw [if_pos (.inl h), State.slotG_slotUpd_same]
  rfl

theorem slotFade_carries (s : State) (key k : Nat) : ((s.slotFade key).slotG k).carries = (s.slotG k).carries := by
  unfold State.slotFade
  dsimp only
  split
  · rw [State.slotG_slotUpd]
    split
    · next h => rw [h]
    · rfl
  · rfl

theorem slotFade_ne {s : State} {key k : Nat} (h : k ≠ key) : (s.slotFade key).slotG k = s.slotG k := by
  unfold State.slotFade
  dsimp only
  split
  · exact State.slotG_slotUpd_ne _ h _
  · rfl

@[simp] theorem slotFade_line (s : State) (key n : Nat) : (s.slotFade key).line n = s.line n := by
  unfold State.slotFade
  dsimp only
  split <;> rfl

@[simp] theorem slotFade_reg (s : State) (key a : Nat) : (s.slotFade key).reg a = s.reg a := by
  unfold State.slotFade
  dsimp only
  split <;> rfl

@[simp] theorem slotFade_fld (s : State) (key : Nat) (g : Fld) : (s.slotFade key).fld g = s.fld g :=
  State.fld_eq_of_reg (slotFade_reg s key _)

/-! ### What the operations change -/

section
variable {R : Nat → Prop} {P : Part → Prop} {M : Nat → Prop} {s t : State}

theorem Chg.updProof (h : Chg R P M s t) (f : ProofS → ProofS) (hp : P .proof) : Chg R P M s (t.updProof f) := h.proof _ hp
theorem Chg.lineUpd (h : Chg R P M s t) (n : Nat) (f : LineS → LineS) (hp : P .proof) : Chg R P M s (t.lineUpd n f) := h.proof _ hp
theorem Chg.slotUpd (h : Chg R P M s t) (n : Nat) (f : SlotG → SlotG) (hp : P .proof) : Chg R P M s (t.slotUpd n f) := h.proof _ hp
theorem Chg.setChange (h : Chg R P M s t) (n : Nat) (c : Change) (hp : P .proof) : Chg R P M s (t.setChange n c) := h.proof _ hp
theorem Chg.slotRamp (h : Chg R P M s t) (k : Nat) (hp : P .proof) : Chg R P M s (t.slotRamp k) := h.proof _ hp
theorem Chg.slotSilent (h : Chg R P M s t) (k : Nat) (hp : P .proof) : Chg R P M s (t.slotSilent k) := h.proof _ hp
theorem Chg.slotFull (h : Chg R P M s t) (k : Nat) (hp : P .proof) : Chg R P M s (t.slotFull k) := h.proof _ hp
theorem Chg.lineRestart (h : Chg R P M s t) (n : Nat) (hp : P .proof) : Chg R P M s (t.lineRestart n) := h.proof _ hp
theorem Chg.setLine (h : Chg R P M s t) (n st : Nat) (ha : R (A.TBL_PLINE_W10 n)) : Chg R P M s (t.setLine n st) := h.keep _ _ ha

theorem Chg.slotFade (h : Chg R P M s t) (k : Nat) (hp : P .proof) : Chg R P M s (t.slotFade k) := by
  unfold State.slotFade
  exact Chg.ite (fun _ => h.slotUpd _ _ hp) fun _ => h

theorem Chg.proofStatus (h : Chg R P M s t) (ha : R A.PROOF_STATUS) : Chg R P M s t.proofStatus := by
  unfold State.proofStatus
  exact (((h.keep _ _ ha).keep _ _ ha).keep _ _ ha).keep _ _ ha

theorem Chg.requestSave (h : Chg R P M s t) (ha : R A.MGMT_CFG_STATUS) (hp : P .mgmt) : Chg R P M s t.requestSave :=
  (chg_requestSave ha hp).mpr h

theorem Chg.noteRetired (h : Chg R P M s t) (n : Nat) (on : Bool) (ha : R A.MGMT_CFG_STATUS) (hp : P .mgmt) :
    Chg R P M s (t.noteRetired n on) :=
  Chg.requestSave (Chg.mgmt h _ hp) ha hp

/-- The registers of a line's retirement. -/
structure LineRegs (R : Nat → Prop) (P : Part → Prop) (n : Nat) : Prop where
  word : R (A.TBL_PLINE_W10 n)
  status : R A.PROOF_STATUS
  cfg : R A.MGMT_CFG_STATUS
  mgmt : P .mgmt
  proof : P .proof

theorem Chg.lineRetired (h : Chg R P M s t) {n : Nat} (hl : LineRegs R P n) : Chg R P M s (t.lineRetired n) := by
  unfold State.lineRetired
  exact Chg.proofStatus (((h.setLine n _ hl.word).keep _ _ hl.word).noteRetired n true hl.cfg hl.mgmt) hl.status

theorem Chg.lineFadeOut (h : Chg R P M s t) {n : Nat} (hl : LineRegs R P n) : Chg R P M s (t.lineFadeOut n) := by
  unfold State.lineFadeOut
  exact Chg.ite (fun _ => (h.setChange n _ hl.proof).lineRetired hl) fun _ => (h.slotFade _ hl.proof).setChange n _ hl.proof

theorem Chg.changeover (h : Chg R P M s t) (n : Nat) (hp : P .proof) : Chg R P M s (t.changeover n) := by
  unfold State.changeover
  exact (h.slotFade _ hp).setChange n _ hp

theorem Chg.commFail (h : Chg R P M s t) (n : Nat) (ha : R (A.TBL_PLINE_W8 n)) (he : R A.PROOF_EVT) (hp : P .proof) : Chg R P M s (t.commFail n) := by
  unfold State.commFail
  exact ((h.when _ _ fun _ => (h.wr _ _ ha).lineUpd n _ hp).lineUpd n _ hp).event _ he

theorem Chg.spareLost (h : Chg R P M s t) (m : Nat) (hR : ∀ n < t.lines, R (A.TBL_PLINE_W10 n)) (hc : R A.MGMT_CFG_STATUS) (hm : P .mgmt)
    (hp : P .proof) : Chg R P M s (t.spareLost m) := by
  refine Chg.forN _ _ (fun n hn u hu => ?_) h
  have h1 := (hu.slotUpd (u.lineKey m) (fun g => { g with carries := none }) hp).setChange n .none hp
  exact Chg.ite (fun _ => h1.when _ _ fun _ => (h1.setLine n _ (hR n hn)).noteRetired n true hc hm) fun _ => hu

end

/-! ### Proof state that the register operations leave -/

@[simp] theorem requestSave_proof (s : State) : s.requestSave.proof = s.proof := (requestSave_chg s).part .proof (by simp)

@[simp] theorem noteRetired_proof (s : State) (n : Nat) (on : Bool) : (s.noteRetired n on).proof = s.proof := by
  unfold State.noteRetired
  exact requestSave_proof _

@[simp] theorem proofStatus_proof (s : State) : s.proofStatus.proof = s.proof := by
  simp only [State.proofStatus, State.keep_proof]

theorem proofStatus_chg (s : State) : Chg (· = A.PROOF_STATUS) (Parts []) NoMem s s.proofStatus := Chg.refl.proofStatus rfl

theorem proofStatus_fld (s : State) {f : Fld} (h : f.adr ≠ A.PROOF_STATUS) : s.proofStatus.fld f = s.fld f := (proofStatus_chg s).fld h
theorem proofStatus_on (s : State) {f : Fld} (h : f.adr ≠ A.PROOF_STATUS) : s.proofStatus.on f = s.on f := (proofStatus_chg s).on h

@[simp] theorem setLine_proof (s : State) (n st : Nat) : (s.setLine n st).proof = s.proof := State.keep_proof _ _ _

/-! ### PROOF.STATUS -/

theorem any_lines {s : State} {p : Nat → Bool} {n : Nat} (hn : n < s.lines) (h : p n = true) : (List.range s.lines).any p = true :=
  List.any_eq_true.mpr ⟨n, List.mem_range.mpr hn, h⟩

/-- A bit that a condition rules shows it. -/
theorem on_keep_ite (s : State) {f : Fld} (h : f.ok = true) (b : Bool) : (s.keep f (if b then 1 else 0)).on f = b := by
  have hw : 1 < 2 ^ f.width := Nat.one_lt_two_pow (by simp only [Fld.width]; obtain ⟨h1, -⟩ := Fld.ok_le h; omega)
  rw [State.on, State.fld_keep_same _ h (by split <;> omega)]
  cases b <;> rfl

/-- A supervision that is lost shows. -/
theorem proofStatus_supervision {s : State} {n : Nat} (hn : n < s.lines) (h : (s.line n).supervision = true) :
    s.proofStatus.on F.PROOF_STATUS_SUPERVISION = true ∧ s.proofStatus.on F.PROOF_STATUS_FAULT = true := by
  have hs : (List.range s.lines).any (fun n => (s.line n).supervision) = true := any_lines hn h
  unfold State.proofStatus
  dsimp only
  rw [hs]
  constructor
  · rw [State.on, State.fld_keep_free _ (by decide), State.fld_keep_free _ (by decide)]
    exact on_keep_ite _ (by decide) true
  · rw [on_keep_ite _ (by decide), Bool.or_true, Bool.true_or]

/-- An unproven line shows. -/
theorem proofStatus_unproven {s : State} {n : Nat} (hn : n < s.lines) (h : s.on (F.TBL_PLINE_W10_UNPROVEN n) = true) :
    s.proofStatus.on F.PROOF_STATUS_UNPROVEN = true := by
  have hne : A.TBL_PLINE_W10 n ≠ A.PROOF_STATUS := by simp only [A.TBL_PLINE_W10, A.PROOF_STATUS]; omega
  have hon (t : State) (f : Fld) (hf : f.adr = A.PROOF_STATUS) (v : Nat) (ht : t.on (F.TBL_PLINE_W10_UNPROVEN n) = true) :
      (t.keep f v).on (F.TBL_PLINE_W10_UNPROVEN n) = true := by
    rw [← ht]
    exact State.on_of_reg (State.reg_keep_ne _ _ _ (by rw [hf]; exact hne))
  unfold State.proofStatus
  dsimp only
  rw [State.on, State.fld_keep_free _ (by decide)]
  refine (on_keep_ite _ (by decide) _).trans (any_lines hn ?_)
  exact hon _ _ rfl _ (hon _ _ rfl _ h)

/-- A line that is retired, or pends, is a fault. -/
theorem proofStatus_retired {s : State} {n : Nat} (hn : n < s.lines) (h : s.lineState n = lnRetired ∨ s.lineState n = lnPending) :
    s.proofStatus.on F.PROOF_STATUS_FAULT = true := by
  have hmem : n ∈ (List.range s.lines).filter (fun n => s.lineState n == lnRetired || s.lineState n == lnPending) := by
    refine List.mem_filter.mpr ⟨List.mem_range.mpr hn, ?_⟩
    rcases h with h | h <;> rw [h] <;> decide
  have hlen : ((List.range s.lines).filter (fun n => s.lineState n == lnRetired || s.lineState n == lnPending)).length ≠ 0 :=
    (List.length_pos_of_mem hmem).ne'
  unfold State.proofStatus
  dsimp only
  rw [on_keep_ite _ (by decide), bne_iff_ne.mpr hlen, Bool.true_or, Bool.true_or]

end Sys2Proof.Machine
end

section
/-! PROOFS. Writes of line entries, and what is reported of lines (R351, R353, R356). -/

namespace Sys2Proof.Machine

/-! ### The rows of the line table -/

theorem rowsAt_table17 (v : Variant) {a : Nat} (h : a / 0x10000 = 0x17) : rowsAt v a = rowsTable17 v := by
  unfold rowsAt
  rw [h]
  rfl

theorem rowAt_line (v : Variant) {n w : Nat} (hn : n < v.pick 0x100 0x80 0x40) (h1 : 1 ≤ w) (hw : w < 8) :
    ∃ r, rowAt v (lineAdr n w) = some r ∧ r.Plain := by
  obtain ⟨hc, -⟩ := tables_le v
  rw [rowAt, lineAdr, rowsAt_table17 v (by simp only [A.TBL_PLINE_W0]; omega), rowsTable17, A.TBL_PLINE_W0]
  generalize v.pick 0x100 0x80 0x40 = c at hn hc ⊢
  interval_cases w <;> simp (disch := omega) only [find_row_skip, find_row_hit] <;> exact ⟨_, rfl, Row.plain_mk rfl⟩

theorem rowAt_lineFixed (v : Variant) {n w : Nat} (hn : n < v.pick 0x100 0x80 0x40) (h1 : 8 ≤ w) (hw : w < 16) :
    ∃ r, rowAt v (lineAdr n w) = some r ∧ r.Fixed := by
  obtain ⟨hc, -⟩ := tables_le v
  rw [rowAt, lineAdr, rowsAt_table17 v (by simp only [A.TBL_PLINE_W0]; omega), rowsTable17, A.TBL_PLINE_W0]
  generalize v.pick 0x100 0x80 0x40 = c at hn hc ⊢
  interval_cases w <;> simp (disch := omega) only [find_row_skip, find_row_hit] <;> exact ⟨_, rfl, rfl, rfl, rfl, rfl, rfl, rfl⟩

/-- The writable bits of a line entry's first word: all but SIG_VALID and the reserved ones. -/
def lineRw : Nat := 0xdfff0f1f

theorem rowAt_line0 (v : Variant) {n : Nat} (hn : n < v.pick 0x100 0x80 0x40) :
    ∃ r, rowAt v (lineAdr n 0) = some r ∧ r.rw = lineRw ∧ r.w1c = 0 ∧ r.sc = 0 ∧ r.wo = 0 ∧ r.rwp = 0 ∧ r.prv = 0 := by
  obtain ⟨hc, -⟩ := tables_le v
  rw [rowAt, lineAdr, rowsAt_table17 v (by simp only [A.TBL_PLINE_W0]; omega), rowsTable17, A.TBL_PLINE_W0]
  generalize v.pick 0x100 0x80 0x40 = c at hn hc ⊢
  simp (disch := omega) only [find_row_hit]
  exact ⟨_, rfl, rfl, rfl, rfl, rfl, rfl, rfl⟩

/-! ### What a write of a line entry does -/

theorem line_actsAlways {n k : Nat} (hn : n < 256) (hk : k < 8) : actsAlways (lineAdr n k) 0 = true := by
  have hb : (Nat.ble (A.TBL_PLINE_W0 0) (lineAdr n k) && Nat.blt (lineAdr n k) (A.TBL_SIG_MAG 0 0) && decide (lineAdr n k % 64 < 32)) = true := by
    rw [Bool.and_eq_true, Bool.and_eq_true, Nat.ble_eq, Nat.blt_eq, decide_eq_true_eq]
    simp only [lineAdr, A.TBL_PLINE_W0, A.TBL_SIG_MAG]
    omega
  unfold actsAlways
  rw [hb]
  simp

theorem line_regEffect (s : State) (m : Master) (p : Bool) {n k : Nat} (hn : n < 256) (hk : k < 16) (old : Word) :
    s.regEffect m p (lineAdr n k) old 0 = (s.lineWrite n (k == 0 && s.chg (F.TBL_PLINE_W0_EN n) old)).ownerEffect m (lineAdr n k) old := by
  have hpage : lineAdr n k / 0x10000 = 0x17 := by simp only [lineAdr, A.TBL_PLINE_W0]; omega
  have hlo : lineAdr n k < A.TBL_PATH_W0 0 := by simp only [lineAdr, A.TBL_PLINE_W0, A.TBL_PATH_W0]; omega
  have hsig : lineAdr n k < A.TBL_SIG_MAG 0 0 := by simp only [lineAdr, A.TBL_PLINE_W0, A.TBL_SIG_MAG]; omega
  have hidx : (lineAdr n k - A.TBL_PLINE_W0 0) / 64 = n := by simp only [lineAdr, A.TBL_PLINE_W0]; omega
  have hzero : (lineAdr n k % 64 == 0) = (k == 0) := by
    rw [Bool.eq_iff_iff, beq_iff_eq, beq_iff_eq]
    simp only [lineAdr, A.TBL_PLINE_W0]
    omega
  have heff : s.lineEffect (lineAdr n k) old = s.lineWrite n (k == 0 && s.chg (F.TBL_PLINE_W0_EN n) old) := by
    unfold State.lineEffect
    rw [if_pos hsig]
    simp only [hidx, hzero]
  unfold State.regEffect
  rw [hpage]
  exact (if_pos hlo).trans (by rw [heff])

theorem ownerAt_line0 (n : Nat) : ownerAt (lineAdr n 0) = none := by
  have hav : lineAdr n 0 = 0x170000 + 0x40 * n := by simp only [lineAdr, A.TBL_PLINE_W0]; omega
  rw [hav]
  refine (if_neg ?_).trans ((if_neg ?_).trans ((if_neg ?_).trans (if_neg ?_)))
  · simp only [A.TBL_LISTENER_W13, A.TBL_LISTENER_W0]; omega
  · simp only [A.TBL_TALKER_W13, A.TBL_TALKER_W0]; omega
  · simp only [A.TBL_LAY_W1, A.TBL_LAY_W0]; omega
  · simp only [A.TBL_PLINE_W7, A.TBL_PLINE_W0]; omega

/-- The first word of a line entry as a write leaves it. -/
def State.lineMerged (s : State) (n : Nat) (x : Word) : Nat := clearBits (s.rd (lineAdr n 0)) lineRw ||| (x.toNat &&& lineRw)

theorem lineWord_notMem (n k : Nat) : lineAdr n k ∉ summaries := entry_notMem (by simp only [lineAdr, A.TBL_PLINE_W0]; omega)

theorem line_lt {s : State} {n : Nat} (h : n < s.lines) : n < 256 := Nat.lt_of_lt_of_le h (by unfold State.lines; cases s.variant <;> decide)

theorem line_notPlace {a n k : Nat} (h : a = 0x170000 + 0x40 * n + 4 * k) : isPlaceAdr a = false := by
  simp only [isPlaceAdr, ← Bool.not_eq_true, Bool.or_eq_true, Bool.and_eq_true, beq_iff_eq, Nat.blt_eq, Nat.ble_eq, A.ENG_SPAN, A.ENG_CORE_CERT,
    A.ENG_DESC_W0]
  omega

section
variable {s : State} {n : Nat} {m : Master} {priv : Bool} {x : Word}

/-- A write of the first word: its writable bits are stored, and the entry is judged. -/
theorem line0_words (hn : n < s.lines) (hd : Direct s m priv (lineAdr n 0)) (hr : AsItReads s (lineAdr n 0) x) :
    s.fresh.words (lineAdr n 0) (whole m priv x) = (s.fresh.keepWord (lineAdr n 0) (s.lineMerged n x)).lineWrite n
      ((s.fresh.keepWord (lineAdr n 0) (s.lineMerged n x)).chg (F.TBL_PLINE_W0_EN n) (s.reg (lineAdr n 0))) := by
  have hn256 : n < 256 := line_lt hn
  obtain ⟨r, hrow, hrw, hw1c, hsc, hwo, hrwp, hprv⟩ := rowAt_line0 s.variant hn
  have hd' : Direct s.fresh m priv (lineAdr n 0) := hd
  have hav : lineAdr n 0 = 0x170000 + 0x40 * n := by simp only [lineAdr, A.TBL_PLINE_W0]; omega
  have hpost : postedAt (lineAdr n 0) r = none := by rw [postedAt, if_pos hrwp]
  have hplace : isPlaceAdr (lineAdr n 0) = false := line_notPlace (k := 0) hav
  have hmay (b : Bool) : r.mayWrite b = 0xFFFFFFFF := by
    rw [Row.mayWrite, hprv, clearBits_zero]
    split <;> rfl
  have ho : (s.fresh.keepWord (lineAdr n 0) (s.lineMerged n x)).effectOwed (lineAdr n 0) = false := by
    unfold State.keepWord
    split
    · exact hd.2.2
    · exact (State.effectOwed_wr _ _ _ _ (by simp only [A.PWR_UNIT_STATUS]; omega) (by simp only [A.SYS_MOD_STATE]; omega)).trans hd.2.2
  have hmask : clearBits (lineRw &&& 0xFFFFFFFF) (0 ||| 0) = lineRw := by decide
  have hsame : (x.toNat ^^^ s.fresh.rd (lineAdr n 0)) &&& r.rsv = 0 := hr r hrow
  rw [State.words_land s.fresh m priv _ x r (by omega) (by simp only [A.TEST_CTL]; omega) hrow (hd'.prv hrow _) hpost,
    State.land_one _ _ _ _ _ _ hw1c hsame hplace, hmay, hrw, hsc, hwo, hmask, Nat.or_zero, Nat.and_zero, Nat.zero_and]
  have hnone (t : State) : t.ownerEffect m (lineAdr n 0) (s.reg (lineAdr n 0)) = t := by rw [State.ownerEffect, ownerAt_line0 n]
  exact (State.act_effect _ m _ _ (s.reg (lineAdr n 0)) 0 ho (.inr (line_actsAlways hn256 (by decide)))).trans
    ((line_regEffect _ m _ hn256 (by decide) _).trans (hnone _))

theorem line0_fields (s : State) (n : Nat) (x : Word) :
    (s.fresh.keepWord (lineAdr n 0) (s.lineMerged n x)).fld (F.TBL_PLINE_W0_EN n) = (F.TBL_PLINE_W0_EN n).of x.toNat ∧
    (s.fresh.keepWord (lineAdr n 0) (s.lineMerged n x)).fld (F.TBL_PLINE_W0_SIG_VALID n) = s.fld (F.TBL_PLINE_W0_SIG_VALID n) := by
  have hlt : s.lineMerged n x < 2 ^ 32 :=
    Nat.or_lt_two_pow (clearBits_lt _ _ (s.rd_lt _)) (Nat.lt_of_le_of_lt Nat.and_le_left x.isLt)
  have hrd : (s.fresh.keepWord (lineAdr n 0) (s.lineMerged n x)).rd (A.TBL_PLINE_W0 n) = s.lineMerged n x :=
    State.rd_keepWord_same s.fresh (lineAdr n 0) hlt
  constructor
  · rw [State.fld, hrd]
    exact Fld.of_merge.1 (show ∀ i < 1, lineRw.testBit (31 + i) = true by decide)
  · rw [State.fld, hrd]
    exact Fld.of_merge.2 (show ∀ i < 1, lineRw.testBit (29 + i) = false by decide)

end

/-! ### The verdict on an entry -/

theorem lineWhy_lt (s : State) (n : Nat) : s.lineWhy n < 8 := by
  unfold State.lineWhy
  dsimp only
  repeat' split
  all_goals decide

/-- An enabled entry shows its verdict, and a good one comes into service. -/
def State.lineJudged (s : State) (n why : Nat) : State :=
  let s := (s.keep (F.TBL_PLINE_W10_REFUSED n) (if why = 0 then 0 else 1)).keep (F.TBL_PLINE_W10_WHY n) why
  let s := s.when (why != 0) (fun s => s.event F.PROOF_EVT_REFUSED)
  s.when (why == 0 && s.lineState n == lnDisabled) (fun s => s.setLine n lnService)

/-- An entry that is written is judged where it is enabled, and else supervised no longer. -/
def State.lineVerdict (s : State) (n : Nat) : State :=
  if s.on (F.TBL_PLINE_W0_EN n) then (s.lineJudged n (s.lineWhy n)).proofStatus
  else
    let s := (s.keep (F.TBL_PLINE_W10_REFUSED n) 0).keep (F.TBL_PLINE_W10_WHY n) 0
    let s := s.lineUpd n (fun l => { l with comm := none, sweep := none, noSense := false, supervision := false, unproven := false })
    let s := s.wr (A.TBL_PLINE_W8 n) 0
    (s.when (!(s.line n).perm) (fun s => (s.setLine n lnDisabled).keep (F.TBL_PLINE_W10_RETRY n) 0)).proofStatus

theorem lineWrite_eq (s : State) (n : Nat) (en : Bool) : s.lineWrite n en = (s.when en (fun s => s.lineRestart n)).lineVerdict n := rfl

theorem Chg.lineJudged {R : Nat → Prop} {P : Part → Prop} {M : Nat → Prop} {s t : State} (h : Chg R P M s t) (n why : Nat)
    (h1 : R (A.TBL_PLINE_W10 n)) (h2 : R A.PROOF_EVT) : Chg R P M s (t.lineJudged n why) := by
  have hw : Chg R P M s ((t.keep (F.TBL_PLINE_W10_REFUSED n) (if why = 0 then 0 else 1)).keep (F.TBL_PLINE_W10_WHY n) why) :=
    (h.keep _ _ h1).keep _ _ h1
  have he := hw.when (why != 0) (fun s => s.event F.PROOF_EVT_REFUSED) fun _ => hw.event _ h2
  unfold State.lineJudged
  exact Chg.when he _ (fun s => s.setLine n lnService) fun _ => he.setLine n lnService h1

/-- Fields of a line's status word that lie apart. -/
theorem lineFld_free (n : Nat) :
    Fld.free (F.TBL_PLINE_W10_STATE n) (F.TBL_PLINE_W10_WHY n) = true ∧ Fld.free (F.TBL_PLINE_W10_STATE n) (F.TBL_PLINE_W10_REFUSED n) = true ∧
    Fld.free (F.TBL_PLINE_W10_WHY n) (F.TBL_PLINE_W10_REFUSED n) = true ∧ Fld.free (F.TBL_PLINE_W10_WHY n) (F.TBL_PLINE_W10_STATE n) = true ∧
    Fld.free (F.TBL_PLINE_W10_REFUSED n) (F.TBL_PLINE_W10_STATE n) = true := by
  refine ⟨?_, ?_, ?_, ?_, ?_⟩ <;> simp [Fld.free, Fld.ok, Fld.apart]

theorem lineEvt_free (n : Nat) {f g : Fld} (hf : f.ok = true) (hg : g.ok = true) (ha : f.adr = A.PROOF_EVT) (hb : g.adr = A.TBL_PLINE_W10 n) :
    Fld.free f g = true ∧ Fld.free g f = true := by
  have hne : A.TBL_PLINE_W10 n ≠ A.PROOF_EVT := by simp only [A.TBL_PLINE_W10, A.PROOF_EVT]; omega
  exact ⟨Fld.free_of_adr hf hg (by rw [ha, hb]; exact hne), Fld.free_of_adr hg hf (by rw [ha, hb]; exact hne.symm)⟩

theorem lineJudged_shows (s : State) (n : Nat) {why : Nat} (h : why < 8) :
    (s.lineJudged n why).fld (F.TBL_PLINE_W10_WHY n) = why ∧ (s.lineJudged n why).on (F.TBL_PLINE_W10_REFUSED n) = (why != 0) ∧
    (why ≠ 0 → (s.lineJudged n why).on F.PROOF_EVT_REFUSED = true) ∧
    (why = 0 → s.lineState n = 0 → (s.lineJudged n why).lineState n = 1) ∧
    (s.lineState n ≠ 0 → (s.lineJudged n why).lineState n = s.lineState n) := by
  obtain ⟨h1, h2, h3, h4, h5⟩ := lineFld_free n
  obtain ⟨ew, we⟩ := lineEvt_free n (f := F.PROOF_EVT_REFUSED) (g := F.TBL_PLINE_W10_WHY n) rfl rfl rfl rfl
  obtain ⟨er, re⟩ := lineEvt_free n (f := F.PROOF_EVT_REFUSED) (g := F.TBL_PLINE_W10_REFUSED n) rfl rfl rfl rfl
  obtain ⟨es, se⟩ := lineEvt_free n (f := F.PROOF_EVT_REFUSED) (g := F.TBL_PLINE_W10_STATE n) rfl rfl rfl rfl
  set y := (s.keep (F.TBL_PLINE_W10_REFUSED n) (if why = 0 then 0 else 1)).keep (F.TBL_PLINE_W10_WHY n) why with hy
  set z := y.when (why != 0) (fun s => s.event F.PROOF_EVT_REFUSED) with hz
  have hu : s.lineJudged n why = z.when (why == 0 && z.lineState n == lnDisabled) (fun s => s.setLine n lnService) := rfl
  have hzs : z.lineState n = s.lineState n := by
    rw [State.lineState, hz, State.fld_when_event _ es, hy, State.fld_keep_free _ h4, State.fld_keep_free _ h5]
    rfl
  have hset {f : Fld} (hf : Fld.free (F.TBL_PLINE_W10_STATE n) f = true) : (s.lineJudged n why).fld f = z.fld f := by
    rw [hu]
    exact State.fld_when _ _ (State.fld_keep_free _ hf _)
  have href : z.fld (F.TBL_PLINE_W10_REFUSED n) = if why = 0 then 0 else 1 := by
    rw [hz, State.fld_when_event _ er, hy, State.fld_keep_free _ h3, State.fld_keep_same _ rfl (by simp only [Fld.width]; split <;> decide)]
  refine ⟨?_, ?_, fun hne => ?_, fun h0 hs => ?_, fun hs => ?_⟩
  · rw [hset h1, hz, State.fld_when_event _ ew, hy]
    exact State.fld_keep_same _ rfl h
  · rw [State.on, hset h2, href]
    by_cases h0 : why = 0
    · rw [if_pos h0, h0]
    · rw [if_neg h0, bne_iff_ne.mpr h0]
      rfl
  · rw [State.on, hset se, hz, bne_iff_ne.mpr hne, State.when_true]
    exact State.on_event_same _ (by decide)
  · have hon : (why == 0 && z.lineState n == lnDisabled) = true := by rw [hzs, h0, hs]; decide
    rw [hu, hon, State.when_true]
    exact State.fld_keep_same _ rfl (show 1 < 2 ^ 3 by decide)
  · have hoff : (z.lineState n == lnDisabled) = false := by rw [hzs]; exact beq_false_of_ne hs
    rw [hu, hoff, Bool.and_false, State.when_false]
    exact hzs

/-- The reasons against an entry are read from registers and the variant. -/
theorem lineWhy_of_regs {s t : State} (hv : t.variant = s.variant) (hr : ∀ a, t.reg a = s.reg a) (n : Nat) : t.lineWhy n = s.lineWhy n := by
  have hf (f : Fld) : t.fld f = s.fld f := State.fld_eq_of_reg (hr _)
  have ho (f : Fld) : t.on f = s.on f := State.on_of_reg (hr _)
  have hk (k : Nat) : t.lineKey k = s.lineKey k := by rw [State.lineKey, State.lineKey, hf, hf]
  have hs (k : Nat) : t.spareOf k = s.spareOf k := hf _
  have hl (k : Nat) : t.lineUp k = s.lineUp k := by rw [State.lineUp, State.lineUp, ho, ho]
  have htdm : t.tdmPorts = s.tdmPorts := by rw [State.tdmPorts, State.tdmPorts, hv]
  have hlines : t.lines = s.lines := by rw [State.lines, State.lines, hv]
  have hmul : t.rateMul = s.rateMul := by rw [State.rateMul, State.rateMul, hf]
  have hpilot (k : Nat) : t.pilotOk k = s.pilotOk k := by
    unfold State.pilotOk
    simp only [hf]
  have hsense (p k : Nat) : t.senseSlots p k = s.senseSlots p k := by
    unfold State.senseSlots
    simp only [hf, ho]
  have hport : t.sensePort n = s.sensePort n := by
    unfold State.sensePort
    simp only [hsense, htdm]
  have hclash : t.outClash n = s.outClash n := by
    unfold State.outClash
    simp only [hlines, ho, hk]
  unfold State.lineWhy
  simp only [hf, ho, hs, hl, htdm, hlines, hv, hpilot, hport, hclash]

end Sys2Proof.Machine
end

section
/-! PROOFS. Writes of line entries, and the reports of R356 (R341, R343, R351, R353, R356). -/

namespace Sys2Proof.Machine

section
variable {s : State} {n : Nat}

theorem line10_notMem (n : Nat) : A.TBL_PLINE_W10 n ∉ summaries := entry_notMem (by simp only [A.TBL_PLINE_W10]; omega)
theorem line10_status (n : Nat) : A.TBL_PLINE_W10 n ≠ A.PROOF_STATUS := by simp only [A.TBL_PLINE_W10, A.PROOF_STATUS]; omega

theorem fld_line_shown {u : State} {f : Fld} (hf : f.adr = A.TBL_PLINE_W10 n) : (s.seal u.proofStatus).fld f = u.fld f := by
  rw [State.fld_seal_of (by rw [hf]; exact line10_notMem n), proofStatus_fld _ (by rw [hf]; exact line10_status n)]

theorem on_line_shown {u : State} {f : Fld} (hf : f.adr = A.TBL_PLINE_W10 n) : (s.seal u.proofStatus).on f = u.on f :=
  congrArg (· != 0) (fld_line_shown hf)

theorem on_evt_shown {u : State} {f : Fld} (hf : f.adr = A.PROOF_EVT) : (s.seal u.proofStatus).on f = u.on f := by
  rw [State.on_seal_of (by rw [hf]; decide), proofStatus_on _ (by rw [hf]; decide)]

end

/-- A written word of an enabled line entry is judged (R353). -/
theorem answers_lineEntryWrite_judged (s : State) (n : Nat) (k : Fin 16) (m : Master) (priv : Bool) (x : Word) (hn : n < s.lines) (h1 : 1 ≤ k.val)
    (hk : k.val < 8) (hd : Direct s m priv (lineAdr n k.val)) (hr : AsItReads s (lineAdr n k.val) x) (hh : s.scp.holds = [])
    (hen : s.on (F.TBL_PLINE_W0_EN n) = true) :
    Answers (.lineEntryWrite n k (whole m priv x)) s fun t =>
      t.reg (lineAdr n k.val) = x ∧ t.fld (F.TBL_PLINE_W10_WHY n) = (s.putReg (lineAdr n k.val) x).lineWhy n ∧
      t.on (F.TBL_PLINE_W10_REFUSED n) = (t.fld (F.TBL_PLINE_W10_WHY n) != 0) ∧
      (t.fld (F.TBL_PLINE_W10_WHY n) ≠ 0 → t.on F.PROOF_EVT_REFUSED = true) ∧
      (t.fld (F.TBL_PLINE_W10_WHY n) = 0 → s.lineState n = 0 → t.lineState n = 1) ∧
      (s.lineState n ≠ 0 → t.lineState n = s.lineState n) ∧
      Framed [lineAdr n k.val, A.TBL_PLINE_W10 n, A.PROOF_STATUS, A.PROOF_EVT] [] s t := by
  have hn256 := line_lt hn
  set a := lineAdr n k.val with ha
  have hav : a = 0x170000 + 0x40 * n + 4 * k.val := ha
  have hstore : StoresAt s.variant a := storesAt_of_plain (by omega) (by omega) (by omega) (rowAt_line s.variant hn h1 hk)
  set e := s.fresh.keepWord a x.toNat with he
  set u := (e.lineJudged n (e.lineWhy n)).proofStatus with hu
  have hkeep : Chg (· = a) (Parts []) NoMem s e := Chg.refl.fresh.keepWord _ _ rfl
  have heen : e.on (F.TBL_PLINE_W0_EN n) = true :=
    (hkeep.on (show A.TBL_PLINE_W0 n ≠ a by simp only [A.TBL_PLINE_W0]; omega)).trans hen
  have hframe : Chg (Listed [a, A.TBL_PLINE_W10 n, A.PROOF_STATUS, A.PROOF_EVT]) (Parts []) NoMem s u :=
    Chg.proofStatus (Chg.lineJudged (Chg.refl.fresh.keepWord _ _ (by simp)) n _ (by simp) (by simp)) (by simp)
  have heff : s.fresh.words a (whole m priv x) = u := by
    have hk0 : (k.val == 0) = false := beq_false_of_ne (by omega)
    have hhold : u.scp.holds = [] := by rw [hframe.part .scp (by simp)]; exact hh
    rw [hd.actsAt hr hstore (line_actsAlways hn256 hk), ← he, ha, line_regEffect e m _ hn256 k.isLt, ← ha, hk0, Bool.false_and, lineWrite_eq,
      State.when_false, State.lineVerdict, if_pos heen, ownerEffect_idle hhold]
  have hwhy : e.lineWhy n = (s.putReg a x).lineWhy n := lineWhy_of_regs (s := s.putReg a x) hkeep.variant (reg_keepWord_putReg s a · x) n
  obtain ⟨v1, v2, v3, v4, v5⟩ := lineJudged_shows e n (lineWhy_lt e n)
  have hw10 : A.TBL_PLINE_W10 n ≠ a := by simp only [A.TBL_PLINE_W10]; omega
  have hes : e.lineState n = s.lineState n := hkeep.fld hw10
  have hshown : (s.seal u).fld (F.TBL_PLINE_W10_WHY n) = e.lineWhy n := (fld_line_shown rfl).trans v1
  refine answers_effect _ (State.runIf_true s (decide_eq_true hn) _) heff hframe
    ⟨?_, hshown.trans hwhy, ?_, fun h => ?_, fun h h0 => ?_, fun h => ?_, hframe.framed⟩
  · have hj : Chg (fun b => b = A.TBL_PLINE_W10 n ∨ b = A.PROOF_EVT ∨ b = A.PROOF_STATUS) (Parts []) NoMem e u :=
      Chg.proofStatus (Chg.lineJudged Chg.refl n _ (.inl rfl) (.inr (.inl rfl))) (.inr (.inr rfl))
    have hne : ¬ (a = A.TBL_PLINE_W10 n ∨ a = A.PROOF_EVT ∨ a = A.PROOF_STATUS) := by
      simp only [A.TBL_PLINE_W10, A.PROOF_EVT, A.PROOF_STATUS]; omega
    rw [State.reg_seal _ _ (entry_notMem (by omega)), hj.reg a hne, he, State.reg_keepWord_same]
  · rw [hshown]
    exact (on_line_shown rfl).trans v2
  · rw [hshown] at h
    exact (on_evt_shown rfl).trans (v3 h)
  · rw [hshown] at h
    exact (fld_line_shown rfl).trans (v4 h (hes.trans h0))
  · exact (fld_line_shown rfl).trans ((v5 (hes ▸ h)).trans hes)

/-- EN written starts supervision (R353). -/
theorem answers_lineEntryWrite_starts (s : State) (n : Nat) (m : Master) (priv : Bool) (x : Word) (hn : n < s.lines)
    (hd : Direct s m priv (lineAdr n 0)) (hr : AsItReads s (lineAdr n 0) x) (hoff : s.on (F.TBL_PLINE_W0_EN n) = false)
    (hen : (F.TBL_PLINE_W0_EN n).of x.toNat = 1) :
    Answers (.lineEntryWrite n 0 (whole m priv x)) s fun t =>
      t.on (F.TBL_PLINE_W0_EN n) = true ∧ t.fld (F.TBL_PLINE_W0_SIG_VALID n) = s.fld (F.TBL_PLINE_W0_SIG_VALID n) ∧
      (t.line n).count = 0 ∧ (t.line n).valid = false ∧ (t.line n).winUp = s.time.up ∧
      t.on (F.TBL_PLINE_W10_REFUSED n) = (t.fld (F.TBL_PLINE_W10_WHY n) != 0) ∧
      Framed [lineAdr n 0, A.TBL_PLINE_W10 n, A.PROOF_STATUS, A.PROOF_EVT] [.proof] s t := by
  set e := s.fresh.keepWord (lineAdr n 0) (s.lineMerged n x) with he
  set y := e.lineRestart n with hy
  set u := (y.lineJudged n (y.lineWhy n)).proofStatus with hu
  obtain ⟨f1, f2⟩ := line0_fields s n x
  have heen : e.on (F.TBL_PLINE_W0_EN n) = true := by rw [State.on, f1, hen]; rfl
  have hchg : e.chg (F.TBL_PLINE_W0_EN n) (s.reg (lineAdr n 0)) = true := by
    have hold : (F.TBL_PLINE_W0_EN n).of (s.reg (lineAdr n 0)).toNat = 0 := by
      have : s.fld (F.TBL_PLINE_W0_EN n) = 0 := by simpa [State.on] using hoff
      exact this
    rw [State.chg, f1, hen, hold]
    rfl
  have hframe : Chg (Listed [lineAdr n 0, A.TBL_PLINE_W10 n, A.PROOF_STATUS, A.PROOF_EVT]) (Parts [.proof]) NoMem s u :=
    Chg.proofStatus (Chg.lineJudged ((Chg.refl.fresh.keepWord _ _ (by simp)).lineRestart n (by simp)) n _ (by simp) (by simp)) (by simp)
  have heff : s.fresh.words (lineAdr n 0) (whole m priv x) = u := by
    have hyen : y.on (F.TBL_PLINE_W0_EN n) = true := heen
    rw [line0_words hn hd hr, ← he, hchg, lineWrite_eq, State.when_true, ← hy, State.lineVerdict, if_pos hyen]
  have hj : Chg (fun b => b = A.TBL_PLINE_W10 n ∨ b = A.PROOF_EVT ∨ b = A.PROOF_STATUS) (Parts []) NoMem y u :=
    Chg.proofStatus (Chg.lineJudged Chg.refl n _ (.inl rfl) (.inr (.inl rfl))) (.inr (.inr rfl))
  obtain ⟨v1, v2, -⟩ := lineJudged_shows y n (lineWhy_lt y n)
  have h0 {f : Fld} (hf : f.adr = A.TBL_PLINE_W0 n) : (s.seal u).fld f = e.fld f := by
    have hne : ¬ (f.adr = A.TBL_PLINE_W10 n ∨ f.adr = A.PROOF_EVT ∨ f.adr = A.PROOF_STATUS) := by
      rw [hf]; simp only [A.TBL_PLINE_W0, A.TBL_PLINE_W10, A.PROOF_EVT, A.PROOF_STATUS]; omega
    rw [State.fld_seal_of (by rw [hf]; exact lineWord_notMem n 0), hj.fld hne]
    rfl
  have hline : (s.seal u).line n = { e.line n with count := 0, valid := false, invalid := false, overEf := false, winUp := e.time.up } := by
    rw [State.line_of_proof ((State.seal_proof s u).trans (hj.part .proof (by simp))), hy, State.lineRestart, State.line_lineUpd_same]
  have hup : e.time.up = s.time.up := by rw [he, State.keepWord_time]; rfl
  refine answers_effect _ (State.runIf_true s (decide_eq_true hn) _) heff hframe ⟨?_, (h0 rfl).trans f2, ?_, ?_, ?_, ?_, hframe.framed⟩
  · exact (congrArg (· != 0) (h0 rfl)).trans heen
  · rw [hline]
  · rw [hline]
  · rw [hline]
    exact hup
  · rw [fld_line_shown rfl, v1]
    exact (on_line_shown rfl).trans v2

/-- A disabled entry: no verdict, no supervision, no measurement. -/
def State.lineStopped (s : State) (n : Nat) : State :=
  ((s.keep (F.TBL_PLINE_W10_REFUSED n) 0).keep (F.TBL_PLINE_W10_WHY n) 0).lineUpd n
    (fun l => { l with comm := none, sweep := none, noSense := false, supervision := false, unproven := false })

/-- The line of a disabled entry that is not retired is disabled. -/
def State.lineDisabled (s : State) (n : Nat) : State :=
  (((s.lineStopped n).wr (A.TBL_PLINE_W8 n) 0).setLine n lnDisabled).keep (F.TBL_PLINE_W10_RETRY n) 0

theorem lineVerdict_off {s : State} {n : Nat} (h : s.on (F.TBL_PLINE_W0_EN n) = false) (hp : (s.line n).perm = false) :
    s.lineVerdict n = (s.lineDisabled n).proofStatus := by
  have hperm : (((s.lineStopped n).wr (A.TBL_PLINE_W8 n) 0).line n).perm = false := by
    have hl : ((s.lineStopped n).wr (A.TBL_PLINE_W8 n) 0).line n = (s.lineStopped n).line n := rfl
    rw [hl, State.lineStopped, State.line_lineUpd_same, State.line_of_proof (s := s) (by simp)]
    exact hp
  have hu : s.lineVerdict n = (((s.lineStopped n).wr (A.TBL_PLINE_W8 n) 0).when (!(((s.lineStopped n).wr (A.TBL_PLINE_W8 n) 0).line n).perm)
      (fun s => (s.setLine n lnDisabled).keep (F.TBL_PLINE_W10_RETRY n) 0)).proofStatus := by
    unfold State.lineVerdict
    rw [h, if_neg Bool.false_ne_true]
    rfl
  rw [hu, hperm, Bool.not_false, State.when_true]
  rfl

section
variable {R : Nat → Prop} {P : Part → Prop} {M : Nat → Prop} {s t : State}

theorem Chg.lineDisabled (h : Chg R P M s t) (n : Nat) (h1 : R (A.TBL_PLINE_W10 n)) (h2 : R (A.TBL_PLINE_W8 n)) (hp : P .proof) :
    Chg R P M s (t.lineDisabled n) := by
  have hs : Chg R P M s (t.lineStopped n) := ((h.keep _ _ h1).keep _ _ h1).lineUpd n _ hp
  exact Chg.keep ((hs.wr _ _ h2).setLine n _ h1) _ _ h1

end

theorem lineDisabled_shows (s : State) (n : Nat) :
    (s.lineDisabled n).lineState n = 0 ∧ (s.lineDisabled n).rd (A.TBL_PLINE_W8 n) = 0 ∧ (s.lineDisabled n).on (F.TBL_PLINE_W10_REFUSED n) = false ∧
    ((s.lineDisabled n).line n).comm = none ∧ ((s.lineDisabled n).line n).sweep = none := by
  have h8 : A.TBL_PLINE_W8 n ≠ A.TBL_PLINE_W10 n := by simp only [A.TBL_PLINE_W8, A.TBL_PLINE_W10]; omega
  set y := (s.lineStopped n).wr (A.TBL_PLINE_W8 n) 0 with hy
  have hu : s.lineDisabled n = (y.keep (F.TBL_PLINE_W10_STATE n) 0).keep (F.TBL_PLINE_W10_RETRY n) 0 := rfl
  have hline : (s.lineDisabled n).line n = (s.lineStopped n).line n := by
    rw [hu, State.line_of_proof (s := y) (by simp)]
    rfl
  refine ⟨?_, ?_, ?_, ?_, ?_⟩
  · rw [hu, State.lineState, State.fld_keep_free _ (by simp [Fld.free, Fld.ok, Fld.apart])]
    exact State.fld_keep_same _ rfl (show 0 < 2 ^ 3 by decide)
  · rw [hu, State.rd_eq_of_reg (State.reg_keep_ne _ _ _ h8), State.rd_eq_of_reg (State.reg_keep_ne _ _ _ h8), hy, State.rd_wr_same, Nat.zero_mod]
  · rw [hu, State.on, State.fld_keep_free _ (by simp [Fld.free, Fld.ok, Fld.apart]), State.fld_keep_free _ (by simp [Fld.free, Fld.ok, Fld.apart]), hy,
      State.fld_wr_ne _ _ h8.symm, State.lineStopped, State.fld_lineUpd, State.fld_keep_free _ (by simp [Fld.free, Fld.ok, Fld.apart]),
      State.fld_keep_same _ rfl (show 0 < 2 ^ 1 by decide)]
    rfl
  · rw [hline, State.lineStopped, State.line_lineUpd_same]
  · rw [hline, State.lineStopped, State.line_lineUpd_same]

/-- EN cleared ends supervision (R353). -/
theorem answers_lineEntryWrite_ends (s : State) (n : Nat) (m : Master) (priv : Bool) (x : Word) (hn : n < s.lines)
    (hd : Direct s m priv (lineAdr n 0)) (hr : AsItReads s (lineAdr n 0) x) (hen : (F.TBL_PLINE_W0_EN n).of x.toNat = 0)
    (hp : (s.line n).perm = false) :
    Answers (.lineEntryWrite n 0 (whole m priv x)) s fun t =>
      t.on (F.TBL_PLINE_W0_EN n) = false ∧ t.lineState n = 0 ∧ t.rd (A.TBL_PLINE_W8 n) = 0 ∧ (t.line n).comm = none ∧
      (t.line n).sweep = none ∧ t.on (F.TBL_PLINE_W10_REFUSED n) = false ∧
      Framed [lineAdr n 0, A.TBL_PLINE_W8 n, A.TBL_PLINE_W10 n, A.PROOF_STATUS] [.proof] s t := by
  set e := s.fresh.keepWord (lineAdr n 0) (s.lineMerged n x) with he
  set y := e.when (e.chg (F.TBL_PLINE_W0_EN n) (s.reg (lineAdr n 0))) (fun s => s.lineRestart n) with hy
  set u := (y.lineDisabled n).proofStatus with hu
  have hey : Chg (fun _ => False) (Parts [.proof]) NoMem e y := Chg.refl.when _ _ fun _ => Chg.refl.lineRestart n (by simp)
  have heen : e.on (F.TBL_PLINE_W0_EN n) = false := by rw [State.on, (line0_fields s n x).1, hen]; rfl
  have hyp : (y.line n).perm = false := by
    have hl : e.line n = s.line n := State.line_of_proof (by rw [he, State.keepWord_proof]; rfl) n
    rw [hy, State.when]
    split
    · rw [State.lineRestart, State.line_lineUpd_same, hl]
      exact hp
    · rw [hl]
      exact hp
  have hframe : Chg (Listed [lineAdr n 0, A.TBL_PLINE_W8 n, A.TBL_PLINE_W10 n, A.PROOF_STATUS]) (Parts [.proof]) NoMem s u := by
    have hke : Chg (Listed [lineAdr n 0, A.TBL_PLINE_W8 n, A.TBL_PLINE_W10 n, A.PROOF_STATUS]) (Parts [.proof]) NoMem s e :=
      Chg.refl.fresh.keepWord _ _ (by simp)
    exact Chg.proofStatus (Chg.lineDisabled (hke.when _ _ fun _ => hke.lineRestart n (by simp)) n (by simp) (by simp) (by simp)) (by simp)
  have heff : s.fresh.words (lineAdr n 0) (whole m priv x) = u := by
    have hyen : y.on (F.TBL_PLINE_W0_EN n) = false := (hey.on id).trans heen
    rw [line0_words hn hd hr, ← he, lineWrite_eq, ← hy, lineVerdict_off hyen hyp]
  obtain ⟨v1, v2, v3, v4, v5⟩ := lineDisabled_shows y n
  have hline : (s.seal u).line n = (y.lineDisabled n).line n :=
    State.line_of_proof ((State.seal_proof s u).trans (proofStatus_proof _)) n
  have h8 : A.TBL_PLINE_W8 n ∉ summaries := entry_notMem (by simp only [A.TBL_PLINE_W8]; omega)
  refine answers_effect _ (State.runIf_true s (decide_eq_true hn) _) heff hframe
    ⟨?_, (fld_line_shown rfl).trans v1, ?_, ?_, ?_, (on_line_shown rfl).trans v3, hframe.framed⟩
  · have hju : Chg (fun b => b = A.TBL_PLINE_W8 n ∨ b = A.TBL_PLINE_W10 n ∨ b = A.PROOF_STATUS) (Parts [.proof]) NoMem y u :=
      Chg.proofStatus (Chg.lineDisabled Chg.refl n (.inr (.inl rfl)) (.inl rfl) (by simp)) (.inr (.inr rfl))
    have hne : ¬ (A.TBL_PLINE_W0 n = A.TBL_PLINE_W8 n ∨ A.TBL_PLINE_W0 n = A.TBL_PLINE_W10 n ∨ A.TBL_PLINE_W0 n = A.PROOF_STATUS) := by
      simp only [A.TBL_PLINE_W0, A.TBL_PLINE_W8, A.TBL_PLINE_W10, A.PROOF_STATUS]; omega
    rw [State.on_seal_of (lineWord_notMem n 0), hju.on hne, hey.on id]
    exact heen
  · rw [State.rd_seal _ _ h8, State.rd_eq_of_reg ((proofStatus_chg _).reg _ (by simp only [A.TBL_PLINE_W8, A.PROOF_STATUS]; omega))]
    exact v2
  · rw [hline, v4]
  · rw [hline, v5]

theorem lineReport_silent {a n k : Nat} (h : a = 0x170000 + 0x40 * n + 4 * k) (hn : n < 256) (hk : 8 ≤ k) (hk' : k < 16) : actsAlways a 0 = false := by
  simp only [actsAlways, ← Bool.not_eq_true, Bool.or_eq_true, Bool.and_eq_true, beq_iff_eq, bne_self_eq_false, Nat.blt_eq, Nat.ble_eq, decide_eq_true_eq,
    Bool.false_eq_true, false_or, not_or, not_and, not_lt, A.ENG_IMG_DATA, A.MGMT_FW_DATA, A.MGMT_KEY_STAGE, A.MGMT_LOG_IDX, A.TIME_TPO_START_NS,
    A.TBL_LISTENER_W0, A.TBL_LAY_W0, A.TBL_PLINE_W0, A.TBL_SIG_MAG, A.TBL_SCHED_W0, A.RING_PHY_DATA]
  omega

/-- The words that report are not written (R341). -/
theorem untouched_lineEntryWrite (s : State) (n : Nat) (k : Fin 16) (m : Master) (priv : Bool) (x : Word) (hn : n < s.lines) (hk : 8 ≤ k.val)
    (hd : Direct s m priv (lineAdr n k.val)) : Untouched (.lineEntryWrite n k (whole m priv x)) s := by
  have hn256 := line_lt hn
  have hk16 := k.isLt
  have hav : lineAdr n k.val = 0x170000 + 0x40 * n + 4 * k.val := rfl
  refine untouched_effect _ (State.runIf_true s (decide_eq_true hn) _) ?_
  exact hd.fixed (by omega) (by simp only [A.TEST_CTL]; omega) (line_notPlace hav) (rowAt_lineFixed s.variant hn hk hk16) (lineReport_silent hav hn256 hk hk16)

end Sys2Proof.Machine
end

section
/-! PROOFS. The fades and ramps of a changeover and a restore, and what is reported of lines (R356, R357, R359). -/

namespace Sys2Proof.Machine

/-! ### What a line is read from -/

theorem State.lineKey_of_reg {s t : State} {n : Nat} (h : t.reg (A.TBL_PLINE_W0 n) = s.reg (A.TBL_PLINE_W0 n)) : t.lineKey n = s.lineKey n := by
  rw [State.lineKey, State.lineKey, State.fld_eq_of_reg (f := F.TBL_PLINE_W0_OUT_PORT n) h, State.fld_eq_of_reg (f := F.TBL_PLINE_W0_OUT_SLOT n) h]

theorem State.spareOf_of_reg {s t : State} {n : Nat} (h : t.reg (A.TBL_PLINE_W0 n) = s.reg (A.TBL_PLINE_W0 n)) : t.spareOf n = s.spareOf n :=
  State.fld_eq_of_reg (f := F.TBL_PLINE_W0_SPARE_LINE n) h

theorem line_elapsed (s : State) (dt n : Nat) : (s.fresh.advance dt).line n = s.line n := State.line_of_proof (State.advance_proof _ _) n
theorem slotG_elapsed (s : State) (dt k : Nat) : (s.fresh.advance dt).slotG k = s.slotG k := State.slotG_of_proof (State.advance_proof _ _) k
theorem lineReg_elapsed (s : State) (dt n k : Nat) : (s.fresh.advance dt).reg (lineAdr n k) = s.reg (lineAdr n k) :=
  entry_elapsed s dt _ (by simp only [lineAdr, A.TBL_PLINE_W0]; omega)
theorem lineKey_elapsed (s : State) (dt n : Nat) : (s.fresh.advance dt).lineKey n = s.lineKey n := State.lineKey_of_reg (lineReg_elapsed s dt n 0)
theorem spareOf_elapsed (s : State) (dt n : Nat) : (s.fresh.advance dt).spareOf n = s.spareOf n := State.spareOf_of_reg (lineReg_elapsed s dt n 0)
theorem lineState_elapsed (s : State) (dt n : Nat) : (s.fresh.advance dt).lineState n = s.lineState n := State.fld_eq_of_reg (entry_elapsed s dt (A.TBL_PLINE_W10 n) (by simp only [A.TBL_PLINE_W10]; omega))
theorem lines_elapsed (s : State) (dt : Nat) : (s.fresh.advance dt).lines = s.lines := by rw [State.lines, State.advance_variant]; rfl

theorem lineKey_line (s : State) (n k : Nat) (f : LineS → LineS) : (s.lineUpd k f).lineKey n = s.lineKey n := rfl
theorem lineKey_slot (s : State) (n k : Nat) (f : SlotG → SlotG) : (s.slotUpd k f).lineKey n = s.lineKey n := rfl

@[simp] theorem slotG_setChange (s : State) (n k : Nat) (c : Change) : (s.setChange n c).slotG k = s.slotG k := rfl
@[simp] theorem fld_setChange (s : State) (n : Nat) (c : Change) (f : Fld) : (s.setChange n c).fld f = s.fld f := rfl
theorem line_setChange (s : State) (n : Nat) (c : Change) : (s.setChange n c).line n = { s.line n with change := c } := State.line_lineUpd_same s n _

theorem slotG_lineRestart (s : State) (n k : Nat) : (s.lineRestart n).slotG k = s.slotG k := rfl
theorem reg_lineRestart (s : State) (n a : Nat) : (s.lineRestart n).reg a = s.reg a := rfl
theorem fld_lineRestart (s : State) (n : Nat) (f : Fld) : (s.lineRestart n).fld f = s.fld f := rfl
theorem change_lineRestart (s : State) (n k : Nat) : ((s.lineRestart n).line k).change = (s.line k).change := by
  rw [State.lineRestart, State.line_lineUpd]
  split
  · next h => rw [h]
  · rfl
theorem line_slotRamp (s : State) (k n : Nat) : (s.slotRamp k).line n = s.line n := rfl
theorem slotRamp_state (s : State) (k : Nat) : ((s.slotRamp k).slotG k).state = 3 := by rw [State.slotRamp, State.slotG_slotUpd_same]; rfl
theorem slotRamp_carries (s : State) (k : Nat) : ((s.slotRamp k).slotG k).carries = (s.slotG k).carries := by rw [State.slotRamp, State.slotG_slotUpd_same]
theorem slotFull_state (s : State) (k : Nat) : ((s.slotFull k).slotG k).state = 0 := by rw [State.slotFull, State.slotG_slotUpd_same]; rfl
theorem slotFull_ne (s : State) {k j : Nat} (h : j ≠ k) : (s.slotFull k).slotG j = s.slotG j := by rw [State.slotFull, State.slotG_slotUpd_ne _ h]

/-! ### The steps of a changeover (R357) -/

section
variable {x : State} {n : Nat}

theorem changeStep_spareFade (h : (x.line n).change = .spareFade) : x.changeStep n =
    ((x.slotUpd (x.lineKey (x.spareOf n)) (fun g => { g with carries := some n })).slotRamp (x.lineKey (x.spareOf n))).setChange n .spareRamp := by
  unfold State.changeStep
  dsimp only
  rw [h]

/-- The spare carries the line's signal and shows it. -/
def State.spareShown (s : State) (n : Nat) : State :=
  ((s.slotFull (s.lineKey (s.spareOf n))).set (F.TBL_PLINE_W10_CARRYING (s.spareOf n)) 1).set (F.TBL_PLINE_W10_CHANGED n) 1

/-- A changeover counts and is logged. -/
def State.spareLogged (s : State) (n : Nat) : State :=
  (((s.spareShown n).inc A.PROOF_CNT_CHANGEOVERS).event F.PROOF_EVT_CHANGEOVER).log 11 3 2 [n, s.spareOf n, (Config.openCode 0).toNat]

/-- The spare carries, and both lines' windows begin anew. -/
def State.spareCarries (s : State) (n : Nat) : State := ((s.spareLogged n).lineRestart n).lineRestart (s.spareOf n)

theorem changeStep_spareRamp (h : (x.line n).change = .spareRamp) : x.changeStep n = (x.spareCarries n).lineFadeOut n := by
  unfold State.changeStep
  dsimp only
  rw [h]
  rfl

theorem changeStep_lineFade (h : (x.line n).change = .lineFade) :
    x.changeStep n = ((x.slotSilent (x.lineKey n)).setChange n .none).lineRetired n := by
  unfold State.changeStep
  dsimp only
  rw [h]

theorem changeStep_backRamp (h : (x.line n).change = .backRamp) :
    x.changeStep n = ((x.slotFull (x.lineKey n)).slotFade (x.lineKey (x.spareOf n))).setChange n .backSpareFade := by
  unfold State.changeStep
  dsimp only
  rw [h]

/-- The spare carries no more and ramps back to its own signal. -/
def State.spareBack (s : State) (n : Nat) : State :=
  ((s.slotUpd (s.lineKey (s.spareOf n)) (fun g => { g with carries := none })).slotRamp (s.lineKey (s.spareOf n))).setChange n .backSpareRamp

theorem changeStep_backSpareFade (h : (x.line n).change = .backSpareFade) : x.changeStep n =
    ((((x.spareBack n).set (F.TBL_PLINE_W10_CARRYING (x.spareOf n)) 0).set (F.TBL_PLINE_W10_CHANGED n) 0).lineRestart n).lineRestart (x.spareOf n) := by
  unfold State.changeStep
  dsimp only
  rw [h]
  rfl

theorem changed_free (n m : Nat) : Fld.free (F.TBL_PLINE_W10_CHANGED n) (F.TBL_PLINE_W10_CARRYING m) = true := by
  simp [Fld.free, Fld.ok, Fld.apart]

theorem state_free (n m : Nat) : Fld.free (F.TBL_PLINE_W10_CHANGED n) (F.TBL_PLINE_W10_STATE m) = true ∧
    Fld.free (F.TBL_PLINE_W10_CARRYING n) (F.TBL_PLINE_W10_STATE m) = true := by
  constructor <;> simp [Fld.free, Fld.ok, Fld.apart]

/-- The registers of a changeover that counts. -/
def changeRegs (n m : Nat) : List Nat :=
  [A.TBL_PLINE_W10 n, A.TBL_PLINE_W10 m, A.PROOF_CNT_CHANGEOVERS, A.PROOF_CNT_SAT, A.PROOF_EVT, A.MGMT_EVT]

/-- What follows the count of a changeover. -/
theorem spareCarries_counted (s : State) (n : Nat) : Chg (fun a => a = A.PROOF_EVT ∨ a = A.MGMT_EVT) (Parts [.proof, .mgmt]) NoMem
    ((s.spareShown n).inc A.PROOF_CNT_CHANGEOVERS) (s.spareCarries n) := by
  unfold State.spareCarries State.spareLogged
  exact (((Chg.refl.event _ (.inl rfl)).log _ _ _ _ (.inr rfl) (by simp)).lineRestart n (by simp)).lineRestart _ (by simp)

theorem Chg.spareShown {R : Nat → Prop} {P : Part → Prop} {M : Nat → Prop} {s t : State} (h : Chg R P M s t) (n : Nat) (h1 : R (A.TBL_PLINE_W10 n))
    (h2 : R (A.TBL_PLINE_W10 (t.spareOf n))) (hp : P .proof) : Chg R P M s (t.spareShown n) :=
  ((h.slotFull _ hp).set _ _ h2).set _ _ h1

theorem changeovers_sat : satOf A.PROOF_CNT_CHANGEOVERS = ⟨A.PROOF_CNT_SAT, 6, some F.PROOF_EVT_CNT_SAT⟩ := rfl

theorem spareCarries_chg (s : State) (n : Nat) : Chg (· ∈ changeRegs n (s.spareOf n)) (Parts [.proof, .mgmt]) NoMem s (s.spareCarries n) := by
  have h1 : Chg (· ∈ changeRegs n (s.spareOf n)) (Parts [.proof, .mgmt]) NoMem s (s.spareShown n) :=
    Chg.refl.spareShown n (by simp [changeRegs]) (by simp [changeRegs]) (by simp)
  have h2 : Chg (· ∈ changeRegs n (s.spareOf n)) (Parts [.proof, .mgmt]) NoMem s ((s.spareShown n).inc A.PROOF_CNT_CHANGEOVERS) :=
    h1.inc _ (by simp [changeRegs]) (by rw [changeovers_sat]; simp [changeRegs]) (by rw [changeovers_sat]; simp [changeRegs])
  refine h2.trans ((spareCarries_counted s n).mono (fun a ha => ?_) (fun _ h => h) fun _ h => h)
  rcases ha with h | h <;> simp [changeRegs, h]

theorem spareCarries_slotG (s : State) (n k : Nat) : (s.spareCarries n).slotG k = (s.slotFull (s.lineKey (s.spareOf n))).slotG k := by
  have hp : (s.spareLogged n).proof = (s.slotFull (s.lineKey (s.spareOf n))).proof := by
    rw [State.spareLogged, State.log_proof, State.event_proof, State.inc_proof, State.spareShown, State.set_proof, State.set_proof]
  rw [State.spareCarries, slotG_lineRestart, slotG_lineRestart, State.slotG_of_proof hp]

end

end Sys2Proof.Machine
end

section
/-! PROOFS. CHANGEOVER_STEP, and the reports on lines (R351, R356, R357, R359). -/

namespace Sys2Proof.Machine

theorem Chg.parts {R : Nat → Prop} {l l' : List Part} {M : Nat → Prop} {s t : State} (h : Chg R (Parts l) M s t) (hl : ∀ p ∈ l, p ∈ l') :
    Chg R (Parts l') M s t := h.mono (fun _ h => h) hl fun _ h => h

theorem Chg.wide {R : Nat → Prop} {P : Part → Prop} {M : Nat → Prop} {s t : State} (h : Chg R P M s t) : Chg AnyReg AnyPart M s t :=
  h.mono (fun _ _ => trivial) (fun _ _ => trivial) fun _ h => h

section
variable {s : State} {n dt : Nat}

theorem chg_advanced (s : State) (dt : Nat) : Chg (Listed timeRegs) (Parts [.time, .clk, .mgmt]) NoMem s (s.fresh.advance dt) :=
  Chg.refl.fresh.advance dt (fun a ha => .inl ha) (by simp) (by simp) (by simp)

theorem Chg.seal_memKept {R : Nat → Prop} {P : Part → Prop} {u : State} (h : Chg (Listed timeRegs) (Parts [.time, .clk, .mgmt]) NoMem s (s.fresh.advance dt))
    (h' : Chg R P NoMem (s.fresh.advance dt) u) : MemKept s (s.seal u) :=
  (h.wide.trans h'.wide).memKept

theorem line_sealed (s u : State) (n : Nat) : (s.seal u).line n = u.line n := State.line_of_proof (State.seal_proof s u) n
theorem slotG_sealed (s u : State) (k : Nat) : (s.seal u).slotG k = u.slotG k := State.slotG_of_proof (State.seal_proof s u) k
theorem lineFld_sealed (s u : State) {f : Fld} (h : f.adr = A.TBL_PLINE_W10 n) : (s.seal u).fld f = u.fld f :=
  State.fld_seal_of (by rw [h]; exact line10_notMem n)
theorem lineOn_sealed (s u : State) {f : Fld} (h : f.adr = A.TBL_PLINE_W10 n) : (s.seal u).on f = u.on f := congrArg (· != 0) (lineFld_sealed s u h)

theorem answers_changeoverStep_none (hn : n < s.lines) (hc : (s.line n).change = .none) :
    Answers (.changeoverStep n dt) s fun t => t.time.up = s.time.up + dt ∧ Framed timeRegs [.time, .clk, .mgmt] s t := by
  have hframe := chg_advanced s dt
  have heff : (s.fresh.advance dt).changeStep n = s.fresh.advance dt := by
    unfold State.changeStep
    dsimp only
    rw [line_elapsed, hc]
  refine answers_effect _ (State.runIf_true s (decide_eq_true hn) _) heff hframe ⟨?_, hframe.framed⟩
  rw [State.seal_time, State.up_elapsed]

theorem answers_changeoverStep_spareFade (hn : n < s.lines) (hc : (s.line n).change = .spareFade) :
    Answers (.changeoverStep n dt) s fun t =>
      (t.line n).change = .spareRamp ∧ (t.slotG (s.lineKey (s.spareOf n))).carries = some n ∧
      (t.slotG (s.lineKey (s.spareOf n))).state = 3 ∧ Framed timeRegs [.time, .clk, .mgmt, .proof] s t := by
  set x := s.fresh.advance dt with hx
  have heff := changeStep_spareFade (x := x) (n := n) (by rw [hx, line_elapsed, hc])
  have hkey : x.lineKey (x.spareOf n) = s.lineKey (s.spareOf n) := by rw [hx, spareOf_elapsed, lineKey_elapsed]
  rw [hkey] at heff
  set y := x.slotUpd (s.lineKey (s.spareOf n)) (fun g => { g with carries := some n }) with hy
  have hframe : Chg (Listed timeRegs) (Parts [.time, .clk, .mgmt, .proof]) NoMem s ((y.slotRamp (s.lineKey (s.spareOf n))).setChange n .spareRamp) :=
    ((((chg_advanced s dt).parts (by simp)).slotUpd _ _ (by simp)).slotRamp _ (by simp)).setChange n _ (by simp)
  refine answers_effect _ (State.runIf_true s (decide_eq_true hn) _) heff hframe ⟨?_, ?_, ?_, hframe.framed⟩
  · rw [line_sealed, line_setChange]
  · rw [slotG_sealed, slotG_setChange, slotRamp_carries, hy, State.slotG_slotUpd_same]
  · rw [slotG_sealed, slotG_setChange, slotRamp_state]

theorem answers_changeoverStep_spareRamp (hn : n < s.lines) (hc : (s.line n).change = .spareRamp) (hk : s.lineKey n ≠ s.lineKey (s.spareOf n))
    (hf : (s.slotG (s.lineKey n)).state = 0) :
    Answers (.changeoverStep n dt) s fun t =>
      (t.line n).change = .lineFade ∧ t.on (F.TBL_PLINE_W10_CARRYING (s.spareOf n)) = true ∧
      t.on (F.TBL_PLINE_W10_CHANGED n) = true ∧ Counts s t A.PROOF_CNT_CHANGEOVERS 1 ∧ t.on F.PROOF_EVT_CHANGEOVER = true ∧
      (t.slotG (s.lineKey (s.spareOf n))).state = 0 ∧ (t.slotG (s.lineKey n)).state = 1 ∧ t.lineState n = s.lineState n ∧
      MemKept s t := by
  set x := s.fresh.advance dt with hx
  have hxm : x.spareOf n = s.spareOf n := by rw [hx, spareOf_elapsed]
  have hxk (k : Nat) : x.lineKey k = s.lineKey k := by rw [hx, lineKey_elapsed]
  set y := x.spareCarries n with hy
  have hxy : Chg (· ∈ changeRegs n (x.spareOf n)) (Parts [.proof, .mgmt]) NoMem x y := spareCarries_chg x n
  have hyk : y.lineKey n = s.lineKey n := by
    rw [State.lineKey_of_reg (hxy.reg _ ?_), hxk]
    simp only [changeRegs, List.mem_cons, List.not_mem_nil, or_false, A.TBL_PLINE_W0, A.TBL_PLINE_W10, A.PROOF_CNT_CHANGEOVERS, A.PROOF_CNT_SAT,
      A.PROOF_EVT, A.MGMT_EVT]
    omega
  have hfull : (y.slotG (s.lineKey n)).state = 0 := by
    rw [hy, spareCarries_slotG, slotFull_ne _ (by rw [hxm, hxk]; exact hk), hx, slotG_elapsed, hf]
  set u := (y.slotFade (s.lineKey n)).setChange n .lineFade with hu
  have heff : x.changeStep n = u := by
    rw [changeStep_spareRamp (by rw [hx, line_elapsed, hc]), ← hy, State.lineFadeOut]
    have hnot : y.slotIsSilent (s.lineKey n) = false := by rw [State.slotIsSilent, hfull]; rfl
    rw [hyk, hnot, if_neg Bool.false_ne_true]
  have hyu : Chg (fun _ => False) (Parts [.proof]) NoMem y u := (Chg.refl.slotFade _ (by simp)).setChange n _ (by simp)
  have hsu : Chg (fun a => a = A.PROOF_EVT ∨ a = A.MGMT_EVT) (Parts [.proof, .mgmt]) NoMem ((x.spareShown n).inc A.PROOF_CNT_CHANGEOVERS) u :=
    (spareCarries_counted x n).trans ((hyu.parts (by simp)).mono (fun _ h => h.elim) (fun _ h => h) fun _ h => h)
  have hall : Chg AnyReg AnyPart NoMem x u := hxy.wide.trans hyu.wide
  have hshown {f : Fld} {k : Nat} (hw : f.adr = A.TBL_PLINE_W10 k) : (s.seal u).fld f = (x.spareShown n).fld f := by
    have hne : f.adr ≠ A.PROOF_EVT ∧ f.adr ≠ A.MGMT_EVT ∧ f.adr ≠ A.PROOF_CNT_CHANGEOVERS ∧ f.adr ≠ A.PROOF_CNT_SAT := by
      rw [hw]
      simp only [A.TBL_PLINE_W10, A.PROOF_CNT_CHANGEOVERS, A.PROOF_CNT_SAT, A.PROOF_EVT, A.MGMT_EVT]
      omega
    rw [lineFld_sealed (n := k) s u hw, hsu.fld (by simp [hne.1, hne.2.1])]
    refine State.fld_bump_free 1 ?_
    simp [bumpFree, changeovers_sat, hne.1.symm, hne.2.2.1, hne.2.2.2]
  have hcounts : bumpOk A.PROOF_CNT_CHANGEOVERS = true := by decide
  have hw10 : A.PROOF_CNT_CHANGEOVERS ≠ A.TBL_PLINE_W10 n ∧ A.PROOF_CNT_CHANGEOVERS ≠ A.TBL_PLINE_W10 (x.spareOf n) := by
    simp only [A.TBL_PLINE_W10, A.PROOF_CNT_CHANGEOVERS]; omega
  refine answers_effect _ (State.runIf_true s (decide_eq_true hn) _) heff ((chg_advanced s dt).wide.trans hall) ⟨?_, ?_, ?_, ?_, ?_, ?_, ?_, ?_, (chg_advanced s dt).seal_memKept hall⟩
  · rw [line_sealed, hu, line_setChange]
  · rw [State.on, hshown rfl, ← hxm, State.spareShown, State.fld_set_free _ (changed_free _ _), State.fld_set_same _ rfl]
    rfl
  · rw [State.on, hshown rfl, State.spareShown, State.fld_set_same _ rfl]
    rfl
  · rw [Counts, State.rd_seal _ _ (by decide), State.rd_eq_of_reg (hsu.reg _ (by decide)), State.rd_inc_counts hcounts, State.spareShown,
      State.rd_set_ne _ hw10.1, State.rd_set_ne _ hw10.2, hx]
    exact congrArg (fun v => min (v + 1) 0xFFFFFFFF) (State.rd_eq_of_reg (reg_elapsed s dt (by decide)))
  · rw [State.on_seal _ _ (by decide), hyu.on id, State.on, hy, State.spareCarries, fld_lineRestart, fld_lineRestart, State.spareLogged,
      State.fld_log_ne _ _ _ _ (by decide)]
    exact State.on_event_same _ (by decide)
  · have hne : s.lineKey (s.spareOf n) ≠ s.lineKey n := fun e => hk e.symm
    rw [slotG_sealed, hu, slotG_setChange, slotFade_ne hne, hy, spareCarries_slotG, hxm, hxk, slotFull_state]
  · rw [slotG_sealed, hu, slotG_setChange, slotFade_state hfull]
  · rw [State.lineState, hshown rfl, State.spareShown, State.fld_set_free _ (state_free n n).1, State.fld_set_free _ (state_free _ n).2]
    exact lineState_elapsed s dt n

theorem answers_changeoverStep_lineFade (hn : n < s.lines) (hc : (s.line n).change = .lineFade) :
    Answers (.changeoverStep n dt) s fun t =>
      (t.line n).change = .none ∧ (t.slotG (s.lineKey n)).state = 2 ∧ t.lineState n = 4 ∧ t.on F.PROOF_STATUS_FAULT = true ∧
      MemKept s t := by
  set x := s.fresh.advance dt with hx
  set y := (x.slotSilent (x.lineKey n)).setChange n .none with hy
  have heff : x.changeStep n = y.lineRetired n := changeStep_lineFade (by rw [hx, line_elapsed, hc])
  have hproof : (y.lineRetired n).proof = y.proof := by simp [State.lineRetired]
  have hall : Chg AnyReg AnyPart NoMem x (y.lineRetired n) :=
    ((Chg.refl.slotSilent _ trivial).setChange n _ trivial).lineRetired ⟨trivial, trivial, trivial, trivial, trivial⟩
  set z := ((y.setLine n lnRetired).keep (F.TBL_PLINE_W10_PASSES n) 0).noteRetired n true with hz
  have hzs : z.lineState n = 4 := by
    have hc : Chg (· = A.MGMT_CFG_STATUS) (Parts [.mgmt]) NoMem ((y.setLine n lnRetired).keep (F.TBL_PLINE_W10_PASSES n) 0) z :=
      Chg.refl.noteRetired n true rfl (by simp)
    rw [State.lineState, hc.fld (show A.TBL_PLINE_W10 n ≠ A.MGMT_CFG_STATUS by simp only [A.TBL_PLINE_W10, A.MGMT_CFG_STATUS]; omega),
      State.fld_keep_free _ (by simp [Fld.free, Fld.ok, Fld.apart])]
    exact State.fld_keep_same _ rfl (show 4 < 2 ^ 3 by decide)
  have hlines : z.lines = s.lines := by
    have hv : z.variant = s.variant := by
      have : Chg AnyReg AnyPart NoMem y z := ((Chg.refl.setLine n _ trivial).keep _ _ trivial).noteRetired n true trivial trivial
      rw [this.variant, hy]
      exact (chg_advanced s dt).variant
    rw [State.lines, State.lines, hv]
  refine answers_effect _ (State.runIf_true s (decide_eq_true hn) _) heff ((chg_advanced s dt).wide.trans hall) ⟨?_, ?_, ?_, ?_, (chg_advanced s dt).seal_memKept hall⟩
  · rw [line_sealed, State.line_of_proof hproof, hy, line_setChange]
  · rw [slotG_sealed, State.slotG_of_proof hproof, hy, slotG_setChange, ← lineKey_elapsed s dt n, State.slotSilent, State.slotG_slotUpd_same]
    rfl
  · exact (fld_line_shown (u := z) rfl).trans hzs
  · rw [State.on_seal _ _ (by decide)]
    exact proofStatus_retired (s := z) (n := n) (by rw [hlines]; exact hn) (.inl hzs)

theorem answers_changeoverStep_backRamp (hn : n < s.lines) (hc : (s.line n).change = .backRamp) (hk : s.lineKey n ≠ s.lineKey (s.spareOf n))
    (hf : (s.slotG (s.lineKey (s.spareOf n))).state = 0) :
    Answers (.changeoverStep n dt) s fun t =>
      (t.line n).change = .backSpareFade ∧ (t.slotG (s.lineKey n)).state = 0 ∧ (t.slotG (s.lineKey (s.spareOf n))).state = 1 ∧
      Framed timeRegs [.time, .clk, .mgmt, .proof] s t := by
  set x := s.fresh.advance dt with hx
  have heff := changeStep_backRamp (x := x) (n := n) (by rw [hx, line_elapsed, hc])
  rw [show x.lineKey (x.spareOf n) = s.lineKey (s.spareOf n) by rw [hx, spareOf_elapsed, lineKey_elapsed],
    show x.lineKey n = s.lineKey n from lineKey_elapsed s dt n] at heff
  have hframe : Chg (Listed timeRegs) (Parts [.time, .clk, .mgmt, .proof]) NoMem s
      (((x.slotFull (s.lineKey n)).slotFade (s.lineKey (s.spareOf n))).setChange n .backSpareFade) :=
    ((((chg_advanced s dt).parts (by simp)).slotFull _ (by simp)).slotFade _ (by simp)).setChange n _ (by simp)
  refine answers_effect _ (State.runIf_true s (decide_eq_true hn) _) heff hframe ⟨?_, ?_, ?_, hframe.framed⟩
  · rw [line_sealed, line_setChange]
  · rw [slotG_sealed, slotG_setChange, slotFade_ne hk, slotFull_state]
  · rw [slotG_sealed, slotG_setChange]
    refine slotFade_state ?_
    rw [slotFull_ne _ hk.symm, hx, slotG_elapsed, hf]

theorem answers_changeoverStep_backSpareFade (hn : n < s.lines) (hc : (s.line n).change = .backSpareFade) :
    Answers (.changeoverStep n dt) s fun t =>
      (t.line n).change = .backSpareRamp ∧ (t.slotG (s.lineKey (s.spareOf n))).carries = none ∧
      t.on (F.TBL_PLINE_W10_CARRYING (s.spareOf n)) = false ∧ t.on (F.TBL_PLINE_W10_CHANGED n) = false ∧
      Framed (timeRegs ++ [A.TBL_PLINE_W10 n, A.TBL_PLINE_W10 (s.spareOf n)]) [.time, .clk, .mgmt, .proof] s t := by
  set x := s.fresh.advance dt with hx
  have heff := changeStep_backSpareFade (x := x) (n := n) (by rw [hx, line_elapsed, hc])
  rw [show x.spareOf n = s.spareOf n by rw [hx, spareOf_elapsed]] at heff
  set m := s.spareOf n with hm
  have hback : x.spareBack n = ((x.slotUpd (s.lineKey m) (fun g => { g with carries := none })).slotRamp (s.lineKey m)).setChange n .backSpareRamp := by
    rw [State.spareBack, show x.lineKey (x.spareOf n) = s.lineKey m by rw [hx, spareOf_elapsed, lineKey_elapsed]]
  set y := ((x.spareBack n).set (F.TBL_PLINE_W10_CARRYING m) 0).set (F.TBL_PLINE_W10_CHANGED n) 0 with hy
  have hframe : Chg (Listed (timeRegs ++ [A.TBL_PLINE_W10 n, A.TBL_PLINE_W10 m])) (Parts [.time, .clk, .mgmt, .proof]) NoMem s
      ((y.lineRestart n).lineRestart m) := by
    have hx0 : Chg (Listed (timeRegs ++ [A.TBL_PLINE_W10 n, A.TBL_PLINE_W10 m])) (Parts [.time, .clk, .mgmt, .proof]) NoMem s (x.spareBack n) := by
      rw [hback]
      exact (((((chg_advanced s dt).parts (by simp)).mono (listed_mono (by simp)) (fun _ h => h) fun _ h => h).slotUpd _ _ (by simp)).slotRamp _ (by simp)).setChange n _ (by simp)
    exact ((((hx0.set (F.TBL_PLINE_W10_CARRYING m) 0 (by simp)).set (F.TBL_PLINE_W10_CHANGED n) 0 (by simp)).lineRestart n (by simp)).lineRestart m (by simp))
  refine answers_effect _ (State.runIf_true s (decide_eq_true hn) _) heff hframe ⟨?_, ?_, ?_, ?_, hframe.framed⟩
  · rw [line_sealed, change_lineRestart, change_lineRestart, hy, State.line_of_proof (State.set_proof _ _ _), State.line_of_proof (State.set_proof _ _ _),
      State.spareBack, line_setChange]
  · rw [slotG_sealed, slotG_lineRestart, slotG_lineRestart, hy, State.slotG_of_proof (State.set_proof _ _ _), State.slotG_of_proof (State.set_proof _ _ _),
      hback, slotG_setChange, slotRamp_carries, State.slotG_slotUpd_same]
  · rw [lineOn_sealed (n := m) s _ rfl, State.on, fld_lineRestart, fld_lineRestart, hy, State.fld_set_free _ (changed_free _ _), State.fld_set_same _ rfl]
    rfl
  · rw [lineOn_sealed (n := n) s _ rfl, State.on, fld_lineRestart, fld_lineRestart, hy, State.fld_set_same _ rfl]
    rfl

/-! ### Reports on lines (R351, R356) -/

theorem answers_supervisionLoss_lost (hn : n < s.lines) (h1 : (s.line n).noSense = true) (h2 : (s.line n).supervision = false) :
    Answers (.supervisionLoss n) s fun t =>
      t.on F.PROOF_STATUS_SUPERVISION = true ∧ t.on F.PROOF_STATUS_FAULT = true ∧ t.on F.PROOF_EVT_SUPERVISION = true ∧
      Framed [A.PROOF_STATUS, A.PROOF_EVT] [.proof] s t := by
  set y := (s.fresh.lineUpd n (fun l => { l with supervision := true })).event F.PROOF_EVT_SUPERVISION with hy
  have hframe : Chg (Listed [A.PROOF_STATUS, A.PROOF_EVT]) (Parts [.proof]) NoMem s y.proofStatus :=
    ((Chg.refl.fresh.lineUpd n _ (by simp)).event _ (by simp)).proofStatus (by simp)
  have heff : s.fresh.when ((s.fresh.line n).noSense && !(s.fresh.line n).supervision) (fun s =>
      ((s.lineUpd n (fun l => { l with supervision := true })).event F.PROOF_EVT_SUPERVISION).proofStatus) = y.proofStatus := by
    rw [show s.fresh.line n = s.line n from rfl, h1, h2]
    rfl
  have hsup : (y.line n).supervision = true := by rw [hy, State.line_of_proof (State.event_proof _ _), State.line_lineUpd_same]
  obtain ⟨v1, v2⟩ := proofStatus_supervision (s := y) (n := n) hn hsup
  refine answers_effect _ (State.runIf_true s (decide_eq_true hn) _) heff hframe ⟨?_, ?_, ?_, hframe.framed⟩
  · rw [State.on_seal _ _ (by decide), v1]
  · rw [State.on_seal _ _ (by decide), v2]
  · rw [State.on_seal _ _ (by decide), proofStatus_on _ (by decide)]
    exact State.on_event_same _ (by decide)

theorem untouched_supervisionLoss (hn : n < s.lines) (h : (s.line n).noSense = false ∨ (s.line n).supervision = true) :
    Untouched (.supervisionLoss n) s := by
  refine untouched_effect _ (State.runIf_true s (decide_eq_true hn) _) ?_
  have hb : ((s.fresh.line n).noSense && !(s.fresh.line n).supervision) = false := by
    rw [show s.fresh.line n = s.line n from rfl]
    rcases h with h | h <;> rw [h] <;> simp
  dsimp only
  rw [hb, State.when_false]

theorem answers_unproven_shown (hn : n < s.lines) (h1 : (s.line n).unproven = true) (h2 : s.on (F.TBL_PLINE_W10_UNPROVEN n) = false) :
    Answers (.unproven n) s fun t =>
      t.on (F.TBL_PLINE_W10_UNPROVEN n) = true ∧ t.on F.PROOF_STATUS_UNPROVEN = true ∧ t.on F.PROOF_EVT_UNPROVEN = true ∧
      Framed [A.TBL_PLINE_W10 n, A.PROOF_STATUS, A.PROOF_EVT] [] s t := by
  set y := (s.fresh.set (F.TBL_PLINE_W10_UNPROVEN n) 1).event F.PROOF_EVT_UNPROVEN with hy
  have hframe : Chg (Listed [A.TBL_PLINE_W10 n, A.PROOF_STATUS, A.PROOF_EVT]) (Parts []) NoMem s y.proofStatus :=
    ((Chg.refl.fresh.set _ _ (by simp)).event _ (by simp)).proofStatus (by simp)
  have heff : s.fresh.when ((s.fresh.line n).unproven && !s.fresh.on (F.TBL_PLINE_W10_UNPROVEN n)) (fun s =>
      ((s.set (F.TBL_PLINE_W10_UNPROVEN n) 1).event F.PROOF_EVT_UNPROVEN).proofStatus) = y.proofStatus := by
    rw [show s.fresh.line n = s.line n from rfl, h1, show s.fresh.on (F.TBL_PLINE_W10_UNPROVEN n) = false from h2]
    rfl
  have hon : y.on (F.TBL_PLINE_W10_UNPROVEN n) = true := by
    rw [hy, State.on, State.fld_event_free _ (lineEvt_free n rfl rfl rfl rfl).1, State.fld_set_same _ rfl]
    rfl
  refine answers_effect _ (State.runIf_true s (decide_eq_true hn) _) heff hframe ⟨(on_line_shown rfl).trans hon, ?_, ?_, hframe.framed⟩
  · rw [State.on_seal _ _ (by decide)]
    exact proofStatus_unproven hn hon
  · rw [State.on_seal _ _ (by decide), proofStatus_on _ (by decide)]
    exact State.on_event_same _ (by decide)

theorem answers_commissionTimeout_fails (hn : n < s.lines) (h : (s.line n).comm.isSome = true) :
    Answers (.commissionTimeout n) s fun t =>
      t.on F.PROOF_EVT_COMM_FAIL = true ∧ (t.line n).comm = none ∧
      t.rd (A.TBL_PLINE_W4 n) = s.rd (A.TBL_PLINE_W4 n) ∧ Framed [A.TBL_PLINE_W8 n, A.PROOF_EVT] [.proof] s t := by
  have hframe : Chg (Listed [A.TBL_PLINE_W8 n, A.PROOF_EVT]) (Parts [.proof]) NoMem s (s.fresh.commFail n) :=
    Chg.refl.fresh.commFail n (by simp) (by simp) (by simp)
  have heff : s.fresh.when (s.fresh.line n).comm.isSome (fun s => s.commFail n) = s.fresh.commFail n := by
    rw [show (s.fresh.line n).comm.isSome = true from h, State.when_true]
  refine answers_effect _ (State.runIf_true s (decide_eq_true hn) _) heff hframe ⟨?_, ?_, ?_, hframe.framed⟩
  · rw [State.on_seal _ _ (by decide), State.commFail]
    exact State.on_event_same _ (by decide)
  · rw [line_sealed, State.commFail, State.line_of_proof (State.event_proof _ _), State.line_lineUpd_same]
  · have h4 : A.TBL_PLINE_W4 n ∉ summaries := entry_notMem (by simp only [A.TBL_PLINE_W4]; omega)
    rw [State.rd_seal _ _ h4]
    refine State.rd_eq_of_reg (hframe.reg _ ?_)
    simp only [listed_iff, List.mem_cons, List.not_mem_nil, or_false, not_or]
    exact ⟨⟨by simp only [A.TBL_PLINE_W4, A.TBL_PLINE_W8]; omega, by simp only [A.TBL_PLINE_W4, A.PROOF_EVT]; omega⟩, h4⟩

theorem untouched_commissionTimeout (hn : n < s.lines) (h : (s.line n).comm = none) : Untouched (.commissionTimeout n) s := by
  refine untouched_effect _ (State.runIf_true s (decide_eq_true hn) _) ?_
  rw [show (s.fresh.line n).comm.isSome = false by rw [show s.fresh.line n = s.line n from rfl, h]; rfl, State.when_false]

end

end Sys2Proof.Machine
end

section
/-! PROOFS. PROOF.CMD on one line: the command word, COMMISSION and the refusals (R351, R359). -/

namespace Sys2Proof.Machine

/-! ### The command word -/

/-- The word that names a line and commands it. -/
def lineCmdWord (x n bit : Nat) : Nat := F.PROOF_CMD_LINE.into (F.PROOF_CMD_ALL.into (clearBits x 0x7e) 0) n ||| 2 ^ bit

theorem testBit_lineCmdWord (x n bit i : Nat) : (lineCmdWord x n bit).testBit i =
    ((if 8 ≤ i ∧ i ≤ 15 then n.testBit (i - 8) else if i = 7 then false else x.testBit i && !(0x7e : Nat).testBit i) || decide (bit = i)) := by
  rw [lineCmdWord, Nat.testBit_or, Fld.testBit_into _ (by decide), Fld.testBit_into _ (by decide), testBit_clearBits, Nat.testBit_two_pow, Nat.zero_testBit]
  congr 1
  by_cases h8 : 8 ≤ i ∧ i ≤ 15
  · rw [if_pos h8, if_pos h8]
  · rw [if_neg h8, if_neg h8]
    by_cases h7 : i = 7
    · rw [if_pos h7, if_pos (by constructor <;> simp [h7])]
    · rw [if_neg h7, if_neg (fun h => h7 (Nat.le_antisymm h.2 h.1))]

/-- The command bits of PROOF.CMD. -/
theorem testBit_cmdBits (i : Nat) : (0x7e : Nat).testBit i = decide (1 ≤ i ∧ i ≤ 6) := by
  by_cases h : i < 7
  · interval_cases i <;> decide
  · rw [Nat.testBit_lt_two_pow (Nat.lt_of_lt_of_le (by decide : (0x7e : Nat) < 2 ^ 7) (Nat.pow_le_pow_right (by decide) (by omega)))]
    exact (decide_eq_false (by omega)).symm

theorem testBit_cmdReserved (i : Nat) : (0xffff0001 : Nat).testBit i = decide (i = 0 ∨ 16 ≤ i ∧ i < 32) := by
  by_cases h : i < 32
  · interval_cases i <;> decide
  · rw [Nat.testBit_lt_two_pow (Nat.lt_of_lt_of_le (by decide : (0xffff0001 : Nat) < 2 ^ 32) (Nat.pow_le_pow_right (by decide) (by omega)))]
    exact (decide_eq_false (by omega)).symm

theorem lineCmdWord_lt {x n bit : Nat} (hx : x < 2 ^ 32) (hb : bit < 32) : lineCmdWord x n bit < 2 ^ 32 :=
  Nat.or_lt_two_pow (Fld.into_lt _ (by decide) (by decide) _ _ (Fld.into_lt _ (by decide) (by decide) _ _ (clearBits_lt _ _ hx)))
    (Nat.pow_lt_pow_right (by decide) hb)

/-- A line's command is the only one its word holds. -/
theorem lineCmdWord_bits {x n bit : Nat} (h1 : 1 ≤ bit) (h6 : bit ≤ 6) : lineCmdWord x n bit &&& 0x7e = 2 ^ bit := by
  apply Nat.eq_of_testBit_eq
  intro i
  rw [Nat.testBit_and, testBit_lineCmdWord, testBit_cmdBits, Nat.testBit_two_pow]
  by_cases hb : bit = i
  · have hi : 1 ≤ i ∧ i ≤ 6 := by omega
    simp [hb, hi.1, hi.2]
  · by_cases hi : 1 ≤ i ∧ i ≤ 6
    · have h8 : ¬ (8 ≤ i ∧ i ≤ 15) := by omega
      have h7 : i ≠ 7 := by omega
      simp [hb, hi.1, hi.2, h8, h7]
    · simp [hb, hi]

theorem lineCmdWord_reserved {x n bit : Nat} (h1 : 1 ≤ bit) (h6 : bit ≤ 6) : (lineCmdWord x n bit ^^^ x) &&& 0xffff0001 = 0 := by
  apply Nat.eq_of_testBit_eq
  intro i
  rw [Nat.testBit_and, Nat.testBit_xor, testBit_lineCmdWord, testBit_cmdReserved, testBit_cmdBits, Nat.zero_testBit]
  by_cases hi : i = 0 ∨ 16 ≤ i ∧ i < 32
  · have h8 : ¬ (8 ≤ i ∧ i ≤ 15) := by omega
    have h7 : i ≠ 7 := by omega
    have hc : ¬ (1 ≤ i ∧ i ≤ 6) := by omega
    have hb : bit ≠ i := by omega
    simp [h8, h7, hc, hb]
  · simp [hi]

/-- The register as a line's command leaves it. -/
def State.lineNamed (s : State) (n bit : Nat) : State :=
  s.fresh.keepWord A.PROOF_CMD (clearBits (s.rd A.PROOF_CMD) 0xff80 ||| (lineCmdWord (s.rd A.PROOF_CMD) n bit &&& 0xff80))

theorem lineNamed_fields (s : State) {n bit : Nat} (hn : n < 256) (hb : bit ≤ 6) :
    (s.lineNamed n bit).fld F.PROOF_CMD_LINE = n ∧ (s.lineNamed n bit).on F.PROOF_CMD_ALL = false := by
  have hlt : clearBits (s.rd A.PROOF_CMD) 0xff80 ||| (lineCmdWord (s.rd A.PROOF_CMD) n bit &&& 0xff80) < 2 ^ 32 :=
    Nat.or_lt_two_pow (clearBits_lt _ _ (s.rd_lt _)) (Nat.lt_of_le_of_lt Nat.and_le_right (by decide))
  have hrd : (s.lineNamed n bit).rd A.PROOF_CMD = clearBits (s.rd A.PROOF_CMD) 0xff80 ||| (lineCmdWord (s.rd A.PROOF_CMD) n bit &&& 0xff80) :=
    State.rd_keepWord_same s.fresh A.PROOF_CMD hlt
  constructor
  · rw [State.fld, hrd, (Fld.of_merge (f := F.PROOF_CMD_LINE)).1 (show ∀ i < 8, (0xff80 : Nat).testBit (8 + i) = true by decide)]
    apply Nat.eq_of_testBit_eq
    intro i
    rw [Fld.testBit_of, testBit_lineCmdWord]
    by_cases hi : i < 8
    · have hbi : bit ≠ 8 + i := by omega
      have h8 : 8 ≤ 8 + i ∧ 8 + i ≤ 15 := by omega
      simp [hi, hbi, h8, Fld.width]
    · have hz : n.testBit i = false :=
        Nat.testBit_lt_two_pow (Nat.lt_of_lt_of_le (show n < 2 ^ 8 from hn) (Nat.pow_le_pow_right (by decide) (by omega)))
      have hw : ¬ i < F.PROOF_CMD_LINE.width := hi
      simp [hw, hz]
  · have hz : F.PROOF_CMD_ALL.of (lineCmdWord (s.rd A.PROOF_CMD) n bit) = 0 := by
      apply Nat.eq_of_testBit_eq
      intro i
      rw [Fld.testBit_of, testBit_lineCmdWord, Nat.zero_testBit]
      by_cases hi : i < 1
      · obtain rfl : i = 0 := by omega
        have hb7 : bit ≠ 7 := by omega
        simp [hb7]
      · have hw : ¬ i < F.PROOF_CMD_ALL.width := hi
        simp [hw]
    rw [State.on, State.fld, hrd, (Fld.of_merge (f := F.PROOF_CMD_ALL)).1 (show ∀ i < 1, (0xff80 : Nat).testBit (7 + i) = true by decide), hz]
    rfl

theorem lineNamed_chg (s : State) (n bit : Nat) : Chg (· = A.PROOF_CMD) (Parts []) NoMem s (s.lineNamed n bit) := Chg.refl.fresh.keepWord _ _ rfl

theorem lineNamed_listed (s : State) (n bit : Nat) (l : List Nat) (ps : List Part) :
    Chg (Listed (A.PROOF_CMD :: l)) (Parts ps) NoMem s (s.lineNamed n bit) :=
  (lineNamed_chg s n bit).mono (fun _ h => .inl (by rw [h]; exact List.mem_cons_self)) (fun _ h => absurd h List.not_mem_nil) fun _ h => h

theorem rowAt_proofCmd (v : Variant) : ∃ r, rowAt v A.PROOF_CMD = some r ∧ r.rw = 0xff80 ∧ r.w1c = 0 ∧ r.sc = 0x7e ∧ r.wo = 0 ∧ r.rsv = 0xffff0001 :=
  ⟨_, by cases v <;> rfl, rfl, rfl, rfl, rfl, rfl⟩

/-- A command bit for one line runs the command. -/
theorem lineBit_runs {s : State} {m : Master} {priv : Bool} (hd : Direct s m priv A.PROOF_CMD) (n : Fin 256) {bit : Nat} (h1 : 1 ≤ bit) (h6 : bit ≤ 6) :
    s.fresh.proofBit bit n false m priv = (s.lineNamed n.val bit).proofCmd (2 ^ bit) := by
  obtain ⟨r, hrow, hrw, hw1c, hsc, hwo, hrsv⟩ := rowAt_proofCmd s.variant
  have hd' : Direct s.fresh m priv A.PROOF_CMD := hd
  have hread : s.fresh.asRead m priv A.PROOF_CMD = clearBits (s.rd A.PROOF_CMD) 0x7e := by
    have hq : (if s.fresh.masterPriv m priv then 0 else r.prv) = 0 := by
      rcases hd'.2.1 with hp | hp
      · rw [hp]; rfl
      · rw [hp r hrow]; simp
    have hrow' : rowAt s.fresh.variant A.PROOF_CMD = some r := hrow
    rw [State.asRead, hrow']
    simp only [hq, hsc, hwo]
    rfl
  have hlt := lineCmdWord_lt (s.rd_lt A.PROOF_CMD) (n := n.val) (show bit < 32 by omega)
  have htakes : r.takes A.PROOF_CMD (s.fresh.rd A.PROOF_CMD) (lineCmdWord (s.rd A.PROOF_CMD) n.val bit) = true := by
    have hres := lineCmdWord_reserved (x := s.rd A.PROOF_CMD) (n := n.val) h1 h6
    have hdom : (domainOf A.PROOF_CMD).isNone = true := by decide
    have hpl : isPlaceAdr A.PROOF_CMD = false := by decide
    have hte : (A.PROOF_CMD != A.TEST_CTL) = true := by decide
    have hal : (A.PROOF_CMD % 4 == 0) = true := by decide
    rw [Row.takes, hw1c, hrsv, hdom, hpl, hte, hal, Nat.blt_eq.mpr hlt, show s.fresh.rd A.PROOF_CMD = s.rd A.PROOF_CMD from rfl, hres]
    rfl
  have hmask : clearBits (0xff80 &&& 0xFFFFFFFF) (0x7e ||| 0) = 0xff80 := by decide
  have hall (x : Nat) : x &&& (0x7e ||| 0) &&& 0xFFFFFFFF = x &&& 0x7e := by
    rw [Nat.and_assoc]
    rfl
  have hword : s.fresh.proofBit bit n false m priv = s.fresh.word m priv A.PROOF_CMD (lineCmdWord (s.rd A.PROOF_CMD) n.val bit) := by
    rw [State.proofBit, hread]
    rfl
  rw [hword, State.word_direct s.fresh m priv A.PROOF_CMD _ r hd' hrow htakes, Row.merged, hrw, hsc, hwo, hmask, hall, lineCmdWord_bits h1 h6]
  have ho : (s.lineNamed n.val bit).effectOwed A.PROOF_CMD = false :=
    (effectOwed_keepWord _ (by decide) (by decide)).trans hd.2.2
  have hacts : actsAlways A.PROOF_CMD (2 ^ bit) = true := by
    have h0 : (2 ^ bit != 0) = true := bne_iff_ne.mpr (Nat.two_pow_pos bit).ne'
    unfold actsAlways
    rw [h0, Bool.true_or]
    simp only [Bool.true_or]
  exact State.act_effect (s.lineNamed n.val bit) m _ A.PROOF_CMD _ _ ho (.inr hacts)

section
variable {e : State}

/-- What a line's command runs: nothing but itself. -/
theorem proofCmd_line {bit : Nat} (hall : e.on F.PROOF_CMD_ALL = false) (hb : bit = 1 ∨ bit = 2 ∨ bit = 3) :
    e.proofCmd (2 ^ bit) = if e.lines ≤ e.fld F.PROOF_CMD_LINE then e.event F.PROOF_EVT_CMD_REFUSED
      else e.lineCmd (e.fld F.PROOF_CMD_LINE) (bit == 1) (bit == 2) (bit == 3) := by
  have hbit (i : Nat) : (2 ^ bit).testBit i = decide (bit = i) := Nat.testBit_two_pow
  unfold State.proofCmd
  simp only [hbit, hall]
  rcases hb with rfl | rfl | rfl <;> rfl

theorem lineCmd_commission {n : Nat} (hup : e.lineUp n = true) (hs : e.lineState n ≠ lnRetired ∧ e.lineState n ≠ lnPending)
    (hc : e.on (F.TBL_PLINE_W10_CARRYING n) = false) (hg : e.on (F.TBL_PLINE_W10_CHANGED n) = false) :
    e.lineCmd n true false false = e.lineUpd n (fun l => { l with comm := some [], sweep := none }) := by
  unfold State.lineCmd
  simp only [hup, Bool.not_true, Bool.false_eq_true, if_false, State.when_false, Bool.false_and, hc, hg, or_false, hs.1, hs.2, if_true]

theorem lineCmd_clear {n : Nat} (hup : e.lineUp n = true) : e.lineCmd n false false true = e.clearLine n := by
  unfold State.lineCmd
  simp only [hup, Bool.not_true, Bool.false_eq_true, if_false, State.when_false, State.when_true, Bool.false_and]

theorem clearLine_retrying {n : Nat} (h : e.lineState n = 2) (hp : (e.line n).perm = false) :
    e.clearLine n = (e.setLine n lnService).keep (F.TBL_PLINE_W10_RETRY n) 0 := by
  have h1 : ¬ (e.lineState n = lnRetired ∨ e.lineState n = lnPending) := by rw [h]; decide
  unfold State.clearLine
  dsimp only
  rw [if_neg h1, if_pos (show e.lineState n = lnRetrying from h), hp, if_neg Bool.false_ne_true]

theorem clearLine_retired {n : Nat} (h : e.lineState n = 4) : e.clearLine n = e.restoreLine n := by
  unfold State.clearLine
  dsimp only
  rw [if_pos (.inl h)]

theorem lineCmd_retire {n : Nat} (hup : e.lineUp n = true) (hs : e.lineState n ≠ lnRetired) (hp : (e.line n).perm = false) :
    e.lineCmd n false true false = e.faultPermanent n (e.fld (F.TBL_PLINE_W10_VERDICT n)) byCommand false := by
  have hb : (e.lineState n != lnRetired) = true := bne_iff_ne.mpr hs
  unfold State.lineCmd
  simp only [hup, Bool.not_true, Bool.false_eq_true, if_false, State.when_false, hb, hp, Bool.not_false, Bool.and_self, State.when_true]

end

section
variable {s : State} {n : Fin 256} {m : Master} {priv : Bool}

/-- The state in which a line's command finds its line. -/
theorem lineNamed_line (s : State) (k bit : Nat) (j : Nat) : (s.lineNamed k bit).line j = s.line j :=
  State.line_of_proof ((lineNamed_chg s k bit).part .proof (by simp)) j
theorem lineNamed_slotG (s : State) (k bit j : Nat) : (s.lineNamed k bit).slotG j = s.slotG j :=
  State.slotG_of_proof ((lineNamed_chg s k bit).part .proof (by simp)) j
theorem lineNamed_reg (s : State) (k bit : Nat) {a : Nat} (h : a ≠ A.PROOF_CMD) : (s.lineNamed k bit).reg a = s.reg a := (lineNamed_chg s k bit).reg a h
theorem lineNamed_fld (s : State) (k bit : Nat) {f : Fld} (h : f.adr ≠ A.PROOF_CMD) : (s.lineNamed k bit).fld f = s.fld f := (lineNamed_chg s k bit).fld h
theorem lineNamed_on (s : State) (k bit : Nat) {f : Fld} (h : f.adr ≠ A.PROOF_CMD) : (s.lineNamed k bit).on f = s.on f := (lineNamed_chg s k bit).on h
theorem lineNamed_lines (s : State) (k bit : Nat) : (s.lineNamed k bit).lines = s.lines := by
  rw [State.lines, State.lines, (lineNamed_chg s k bit).variant]

theorem lineWord_ne (j k : Nat) : lineAdr j k ≠ A.PROOF_CMD := by simp only [lineAdr, A.TBL_PLINE_W0, A.PROOF_CMD]; omega
theorem line0_ne (j : Nat) : A.TBL_PLINE_W0 j ≠ A.PROOF_CMD := by simp only [A.TBL_PLINE_W0, A.PROOF_CMD]; omega
theorem line10_ne (j : Nat) : A.TBL_PLINE_W10 j ≠ A.PROOF_CMD := by simp only [A.TBL_PLINE_W10, A.PROOF_CMD]; omega

theorem lineNamed_lineUp (s : State) (k bit j : Nat) : (s.lineNamed k bit).lineUp j = s.lineUp j := by
  rw [State.lineUp, State.lineUp, lineNamed_on s k bit (f := F.TBL_PLINE_W0_EN j) (line0_ne j),
    lineNamed_on s k bit (f := F.TBL_PLINE_W10_REFUSED j) (line10_ne j)]

theorem lineNamed_lineState (s : State) (k bit j : Nat) : (s.lineNamed k bit).lineState j = s.lineState j := lineNamed_fld s k bit (line10_ne j)
theorem lineNamed_lineKey (s : State) (k bit j : Nat) : (s.lineNamed k bit).lineKey j = s.lineKey j := State.lineKey_of_reg (lineNamed_reg s k bit (line0_ne j))
theorem lineNamed_spareOf (s : State) (k bit j : Nat) : (s.lineNamed k bit).spareOf j = s.spareOf j := State.spareOf_of_reg (lineNamed_reg s k bit (line0_ne j))

/-- A line's command on a line that is present. -/
theorem lineBit_line (hd : Direct s m priv A.PROOF_CMD) (hn : n.val < s.lines) {bit : Nat} (hb : bit = 1 ∨ bit = 2 ∨ bit = 3) :
    s.fresh.proofBit bit n false m priv = (s.lineNamed n.val bit).lineCmd n.val (bit == 1) (bit == 2) (bit == 3) := by
  obtain ⟨hf, ha⟩ := lineNamed_fields s n.isLt (show bit ≤ 6 by omega)
  rw [lineBit_runs hd n (by omega) (by omega), proofCmd_line ha hb, hf, lineNamed_lines, if_neg (Nat.not_le.mpr hn)]

/-- A command on a line that is absent, or not supervised, is refused. -/
theorem lineBit_refused (hd : Direct s m priv A.PROOF_CMD) (hn : s.lines ≤ n.val ∨ s.lineUp n.val = false) {bit : Nat} (hb : bit = 1 ∨ bit = 2 ∨ bit = 3) :
    s.fresh.proofBit bit n false m priv = (s.lineNamed n.val bit).event F.PROOF_EVT_CMD_REFUSED := by
  obtain ⟨hf, ha⟩ := lineNamed_fields s n.isLt (show bit ≤ 6 by omega)
  rw [lineBit_runs hd n (by omega) (by omega), proofCmd_line ha hb, hf, lineNamed_lines]
  split
  · rfl
  · next h =>
    have hup : s.lineUp n.val = false := hn.resolve_left h
    rw [State.lineCmd, lineNamed_lineUp, hup]
    rfl

theorem refusedLine_answers {i : Instr} {bit : Nat} (hx : exec i s = s.run fun s => s.proofBit bit n false m priv)
    (hd : Direct s m priv A.PROOF_CMD) (hn : s.lines ≤ n.val ∨ s.lineUp n.val = false) (hb : bit = 1 ∨ bit = 2 ∨ bit = 3) :
    Answers i s fun t => t.on F.PROOF_EVT_CMD_REFUSED = true ∧ Framed [A.PROOF_CMD, A.PROOF_EVT] [] s t := by
  have hframe : Chg (Listed [A.PROOF_CMD, A.PROOF_EVT]) (Parts []) NoMem s ((s.lineNamed n.val bit).event F.PROOF_EVT_CMD_REFUSED) :=
    Chg.event (lineNamed_listed s _ _ _ _) _ (by simp)
  refine answers_effect (fun s => s.proofBit bit n false m priv) hx (lineBit_refused hd hn hb) hframe ⟨?_, hframe.framed⟩
  rw [State.on_seal _ _ (by decide)]
  exact State.on_event_same _ (by decide)

theorem answers_proofCmdCommission (hn : n.val < s.lines) (hd : Direct s m priv A.PROOF_CMD) (hup : s.lineUp n.val = true)
    (h3 : s.lineState n.val ≠ 3) (h4 : s.lineState n.val ≠ 4) (hc : s.on (F.TBL_PLINE_W10_CARRYING n.val) = false)
    (hg : s.on (F.TBL_PLINE_W10_CHANGED n.val) = false) :
    Answers (.proofCmdCommission n false m priv) s fun t =>
      (t.line n.val).comm = some [] ∧ (t.line n.val).sweep = none ∧ t.fld F.PROOF_CMD_LINE = n.val ∧
      Framed [A.PROOF_CMD] [.proof] s t := by
  set e := s.lineNamed n.val 1 with he
  set u := e.lineUpd n.val (fun l => { l with comm := some [], sweep := none }) with hu
  have hframe : Chg (Listed [A.PROOF_CMD]) (Parts [.proof]) NoMem s u := Chg.lineUpd (lineNamed_listed s _ _ _ _) _ _ (by simp)
  have heff : s.fresh.proofBit 1 n false m priv = u := by
    have hs : e.lineState n.val ≠ lnRetired ∧ e.lineState n.val ≠ lnPending := by
      rw [he, lineNamed_lineState]
      exact ⟨h4, h3⟩
    have hc' : e.on (F.TBL_PLINE_W10_CARRYING n.val) = false := (lineNamed_on s _ _ (line10_ne _)).trans hc
    have hg' : e.on (F.TBL_PLINE_W10_CHANGED n.val) = false := (lineNamed_on s _ _ (line10_ne _)).trans hg
    have heup : e.lineUp n.val = true := by rw [he, lineNamed_lineUp, hup]
    rw [lineBit_line hd hn (.inl rfl), ← he]
    exact lineCmd_commission heup hs hc' hg'
  refine answers_effect (fun s => s.proofBit 1 n false m priv) rfl heff hframe ⟨?_, ?_, ?_, hframe.framed⟩
  · rw [line_sealed, hu, State.line_lineUpd_same]
  · rw [line_sealed, hu, State.line_lineUpd_same]
  · rw [State.fld_seal _ _ (by decide), hu, State.fld_lineUpd]
    exact (lineNamed_fields s n.isLt (by decide)).1

theorem answers_proofCmdClear_retrying (hn : n.val < s.lines) (hd : Direct s m priv A.PROOF_CMD) (hup : s.lineUp n.val = true)
    (h2 : s.lineState n.val = 2) (hp : (s.line n.val).perm = false) :
    Answers (.proofCmdClear n false m priv) s fun t =>
      t.lineState n.val = 1 ∧ t.fld (F.TBL_PLINE_W10_RETRY n.val) = 0 ∧ Framed [A.PROOF_CMD, A.TBL_PLINE_W10 n.val] [] s t := by
  set e := s.lineNamed n.val 3 with he
  set u := (e.setLine n.val lnService).keep (F.TBL_PLINE_W10_RETRY n.val) 0 with hu
  have hframe : Chg (Listed [A.PROOF_CMD, A.TBL_PLINE_W10 n.val]) (Parts []) NoMem s u :=
    Chg.keep (Chg.setLine (lineNamed_listed s _ _ _ _) _ _ (by simp)) _ _ (by simp)
  have hclear : e.clearLine n.val = u := by
    have hst : e.lineState n.val = 2 := by rw [he, lineNamed_lineState, h2]
    have hperm : (e.line n.val).perm = false := by rw [he, lineNamed_line, hp]
    exact clearLine_retrying hst hperm
  have heff : s.fresh.proofBit 3 n false m priv = u := by
    have heup : e.lineUp n.val = true := by rw [he, lineNamed_lineUp, hup]
    rw [lineBit_line hd hn (.inr (.inr rfl)), ← he, ← hclear]
    exact lineCmd_clear heup
  refine answers_effect (fun s => s.proofBit 3 n false m priv) rfl heff hframe ⟨?_, ?_, hframe.framed⟩
  · rw [State.lineState, lineFld_sealed (n := n.val) s u rfl, hu, State.fld_keep_free _ (by simp [Fld.free, Fld.ok, Fld.apart])]
    exact State.fld_keep_same _ rfl (show 1 < 2 ^ 3 by decide)
  · rw [lineFld_sealed (n := n.val) s u rfl, hu]
    exact State.fld_keep_same _ rfl (show 0 < 2 ^ 2 by decide)

end

end Sys2Proof.Machine
end

section
/-! PROOFS. CMD.RETIRE and CMD.CLEAR on a line, and O49 (R357 to R359). -/

namespace Sys2Proof.Machine

/-! ### What lines are judged by -/

/-- Two states that agree on the line table, on what is kept of lines, and on the lays and holds. -/
structure SameLines (s t : State) : Prop where
  variant : t.variant = s.variant
  proof : t.proof = s.proof
  holds : t.scp.holds = s.scp.holds
  reg : ∀ a, 0x100000 ≤ a → t.reg a = s.reg a

theorem line0_ge (n : Nat) : 0x100000 ≤ A.TBL_PLINE_W0 n := by simp only [A.TBL_PLINE_W0]; omega
theorem line10_ge (n : Nat) : 0x100000 ≤ A.TBL_PLINE_W10 n := by simp only [A.TBL_PLINE_W10]; omega

/-- Class 7 is read from the lays and the holds. -/
theorem class7_of_lays {s t : State} (hv : t.variant = s.variant) (hh : t.scp.holds = s.scp.holds)
    (hr : ∀ a, 0x108000 ≤ a → a < 0x170000 → t.reg a = s.reg a) : t.class7 = s.class7 := by
  have hfld {f : Fld} (h1 : 0x108000 ≤ f.adr) (h2 : f.adr < 0x170000) : t.fld f = s.fld f := State.fld_eq_of_reg (hr _ h1 h2)
  have hlay : t.layActive (fun c => c == 7) = s.layActive (fun c => c == 7) := by
    have hla : s.lays ≤ 64 := (tables_le s.variant).2
    have hlays : t.lays = s.lays := by rw [State.lays, State.lays, hv]
    unfold State.layActive
    rw [hlays]
    refine anyN_congr fun k hk => ?_
    rw [State.on, State.on, hfld (f := F.TBL_LAY_W2_ACTIVE k) (by simp only [A.TBL_LAY_W2]; omega) (by simp only [A.TBL_LAY_W2]; omega),
      hfld (f := F.TBL_LAY_W0_CLASS k) (by simp only [A.TBL_LAY_W0]; omega) (by simp only [A.TBL_LAY_W0]; omega)]
  rw [State.class7, State.class7, hlay, State.held7, State.held7, hh]

section
variable {s t : State} (h : SameLines s t)
include h

theorem SameLines.fld {f : Fld} (hf : 0x100000 ≤ f.adr) : t.fld f = s.fld f := State.fld_eq_of_reg (h.reg _ hf)
theorem SameLines.on {f : Fld} (hf : 0x100000 ≤ f.adr) : t.on f = s.on f := State.on_of_reg (h.reg _ hf)
theorem SameLines.lines : t.lines = s.lines := by rw [State.lines, State.lines, h.variant]
theorem SameLines.line (n : Nat) : t.line n = s.line n := State.line_of_proof h.proof n
theorem SameLines.slotG (k : Nat) : t.slotG k = s.slotG k := State.slotG_of_proof h.proof k

theorem SameLines.spareOf (n : Nat) : t.spareOf n = s.spareOf n := State.spareOf_of_reg (h.reg _ (line0_ge n))
theorem SameLines.lineKey (n : Nat) : t.lineKey n = s.lineKey n := State.lineKey_of_reg (h.reg _ (line0_ge n))
theorem SameLines.lineState (n : Nat) : t.lineState n = s.lineState n := h.fld (line10_ge n)
theorem SameLines.lineUp (n : Nat) : t.lineUp n = s.lineUp n := by
  rw [State.lineUp, State.lineUp, h.on (f := F.TBL_PLINE_W0_EN n) (line0_ge n), h.on (f := F.TBL_PLINE_W10_REFUSED n) (line10_ge n)]

theorem SameLines.class7 : t.class7 = s.class7 :=
  class7_of_lays h.variant h.holds fun a ha _ => h.reg a (by omega)

theorem SameLines.spareFree (n bit : Nat) : t.spareFree n bit = s.spareFree n bit := by
  have hmask : t.bitOf (F.TBL_PLINE_W7_CHG_MASK n) bit = s.bitOf (F.TBL_PLINE_W7_CHG_MASK n) bit :=
    congrArg (Nat.testBit · bit) (h.fld (by simp only [A.TBL_PLINE_W7]; omega))
  have hen : t.on (F.TBL_PLINE_W0_SPARE_EN n) = s.on (F.TBL_PLINE_W0_SPARE_EN n) := h.on (line0_ge n)
  have hcar : t.on (F.TBL_PLINE_W10_CARRYING (s.spareOf n)) = s.on (F.TBL_PLINE_W10_CARRYING (s.spareOf n)) := h.on (line10_ge _)
  unfold State.spareFree
  dsimp only
  simp only [h.spareOf, hen, hmask, h.lines, h.lineUp, h.lineState, hcar, h.line]

theorem SameLines.trans {u : State} (h' : SameLines t u) : SameLines s u :=
  ⟨h'.variant.trans h.variant, h'.proof.trans h.proof, h'.holds.trans h.holds, fun a ha => (h'.reg a ha).trans (h.reg a ha)⟩

end

theorem sameLines_of_chg {s t : State} {R : Nat → Prop} {P : Part → Prop} {M : Nat → Prop} (h : Chg R P M s t) (hR : ∀ a, 0x100000 ≤ a → ¬ R a)
    (hp : ¬ P .proof) (hs : ¬ P .scp) : SameLines s t :=
  ⟨h.variant, h.part .proof hp, by rw [h.part .scp hs], fun a ha => h.reg a (hR a ha)⟩

theorem lineNamed_same (s : State) (n bit : Nat) : SameLines s (s.lineNamed n bit) :=
  sameLines_of_chg (lineNamed_chg s n bit) (fun a ha e => by simp only [A.PROOF_CMD] at e; omega) (by simp) (by simp)

/-! ### A spare that is lost (R360) -/

/-- A line that is in no changeover keeps its state, and every slot its gain, as lines lose it for a spare. -/
theorem spareLost_keeps {s : State} {n : Nat} (h : (s.line n).change = .none) :
    (s.spareLost n).line n = s.line n ∧ (∀ k, ((s.spareLost n).slotG k).state = (s.slotG k).state) ∧
      (s.spareLost n).lineState n = s.lineState n := by
  refine forN_induction (p := fun t => t.line n = s.line n ∧ (∀ k, (t.slotG k).state = (s.slotG k).state) ∧ t.lineState n = s.lineState n)
    s.lines _ (fun i _ t ht => ?_) ⟨rfl, fun _ => rfl, rfl⟩
  obtain ⟨h1, h2, h3⟩ := ht
  dsimp only
  split
  · next hc =>
    have hin : n ≠ i := by
      rintro rfl
      rw [h1, h] at hc
      rcases hc.2 with hc | hc <;> cases hc
    set y := (t.slotUpd (t.lineKey n) (fun g => { g with carries := none })).setChange i .none with hy
    have hyu : Chg (fun a => a = A.TBL_PLINE_W10 i ∨ a = A.MGMT_CFG_STATUS) (Parts [.mgmt]) NoMem y
        (y.when (y.lineState i != lnRetired) (fun s => (s.setLine i lnPending).noteRetired i true)) :=
      Chg.refl.when _ _ fun _ => (Chg.refl.setLine i _ (.inl rfl)).noteRetired i true (.inr rfl) (by simp)
    refine ⟨?_, fun k => ?_, ?_⟩
    · rw [State.line_of_proof (hyu.part .proof (by simp)), hy, State.setChange, State.line_lineUpd, if_neg hin]
      exact h1
    · rw [State.slotG_of_proof (hyu.part .proof (by simp)), hy, slotG_setChange, State.slotG_slotUpd]
      split
      · next e => rw [e]; exact h2 _
      · exact h2 k
    · have hne : ¬ (A.TBL_PLINE_W10 n = A.TBL_PLINE_W10 i ∨ A.TBL_PLINE_W10 n = A.MGMT_CFG_STATUS) := by
        simp only [A.TBL_PLINE_W10, A.MGMT_CFG_STATUS]; omega
      rw [State.lineState, hyu.fld hne]
      exact h3
  · exact ⟨h1, h2, h3⟩

/-! ### A permanent fault (R357, R358) -/

/-- A fault that has become permanent, counted and logged. -/
def State.faultLogged (s : State) (n v bit : Nat) : State :=
  let x := ((s.inc A.PROOF_CNT_RETIREMENTS).event F.PROOF_EVT_RETIRED).life 14 1
  x.log 11 2 (if s.spareFree n bit then 3 else 4) [n, v, x.spareOf n]

/-- A commissioning in progress fails. -/
def State.faultComm (s : State) (n v bit : Nat) : State :=
  (s.faultLogged n v bit).when ((s.faultLogged n v bit).line n).comm.isSome (fun s => s.commFail n)

/-- The line's fault is permanent. -/
def State.faultNoted (s : State) (n v bit : Nat) : State :=
  ((s.faultComm n v bit).spareLost n).lineUpd n (fun l => { l with perm := true, hard := false, lastFail := bit })

theorem faultPermanent_eq (s : State) (n v bit : Nat) : s.faultPermanent n v bit false =
    (if s.spareFree n bit then (s.faultNoted n v bit).changeover n
     else if (s.faultNoted n v bit).class7 then ((s.faultNoted n v bit).setLine n lnPending).noteRetired n true
     else (s.faultNoted n v bit).lineFadeOut n).proofStatus := by
  unfold State.faultPermanent
  simp only [Bool.false_eq_true, if_false, State.when_false]
  rfl

section
variable {s : State} {n v bit : Nat}

theorem retirements_sat : satOf A.PROOF_CNT_RETIREMENTS = ⟨A.PROOF_CNT_SAT, 5, some F.PROOF_EVT_CNT_SAT⟩ := rfl

theorem faultLogged_same (s : State) (n v bit : Nat) : SameLines s (s.faultLogged n v bit) := by
  have hc : Chg (· < 0x100000) (Parts [.mgmt]) NoMem s (s.faultLogged n v bit) := by
    unfold State.faultLogged
    dsimp only
    exact Chg.log (Chg.life (Chg.event (Chg.refl.inc _ (by decide) (by decide) (by decide)) _ (by decide)) _ _ (by decide) (by simp)) _ _ _ _
      (by decide) (by simp)
  exact sameLines_of_chg hc (fun a ha => Nat.not_lt.mpr ha) (by simp) (by simp)

/-- What follows the count of a retirement leaves the counter. -/
theorem Chg.faultNoted {R : Nat → Prop} (hR : ∀ a, a ≠ A.PROOF_CNT_RETIREMENTS → a ≠ A.PROOF_CNT_SAT → R a) :
    Chg R AnyPart NoMem ((s.inc A.PROOF_CNT_RETIREMENTS).event F.PROOF_EVT_RETIRED) (s.faultNoted n v bit) := by
  have h8 : R (A.TBL_PLINE_W8 n) := hR _ (by simp only [A.TBL_PLINE_W8, A.PROOF_CNT_RETIREMENTS]; omega) (by simp only [A.TBL_PLINE_W8, A.PROOF_CNT_SAT]; omega)
  have h10 (k : Nat) : R (A.TBL_PLINE_W10 k) :=
    hR _ (by simp only [A.TBL_PLINE_W10, A.PROOF_CNT_RETIREMENTS]; omega) (by simp only [A.TBL_PLINE_W10, A.PROOF_CNT_SAT]; omega)
  have hm : R A.MGMT_EVT := hR _ (by decide) (by decide)
  have he : R A.PROOF_EVT := hR _ (by decide) (by decide)
  have hc : R A.MGMT_CFG_STATUS := hR _ (by decide) (by decide)
  have hlog : Chg R AnyPart NoMem ((s.inc A.PROOF_CNT_RETIREMENTS).event F.PROOF_EVT_RETIRED) (s.faultLogged n v bit) :=
    Chg.log (Chg.refl.life _ _ hm trivial) _ _ _ _ hm trivial
  have hcomm : Chg R AnyPart NoMem ((s.inc A.PROOF_CNT_RETIREMENTS).event F.PROOF_EVT_RETIRED) (s.faultComm n v bit) :=
    hlog.when _ _ fun _ => hlog.commFail n h8 he trivial
  exact (hcomm.spareLost n (fun k _ => h10 k) hc trivial trivial).lineUpd n _ trivial

theorem commFail_shows (s : State) (n : Nat) : ((s.commFail n).line n).change = (s.line n).change ∧ ∀ k, (s.commFail n).slotG k = s.slotG k := by
  obtain ⟨b, hb⟩ : ∃ b, s.commFail n = ((s.when b fun s => (s.wr (A.TBL_PLINE_W8 n) 0).lineUpd n (fun l => { l with sweep := none })).lineUpd n
    (fun l => { l with comm := none })).event F.PROOF_EVT_COMM_FAIL := ⟨_, rfl⟩
  rw [hb]
  constructor
  · rw [State.line_of_proof (State.event_proof _ _), State.line_lineUpd_same]
    cases b
    · rfl
    · rw [State.when_true, State.line_lineUpd_same, State.line_of_proof (State.wr_proof _ _ _)]
  · intro k
    rw [State.slotG_of_proof (State.event_proof _ _), State.slotG_lineUpd]
    cases b
    · rfl
    · rw [State.when_true, State.slotG_lineUpd, State.slotG_of_proof (State.wr_proof _ _ _)]

theorem faultComm_shows (h : (s.line n).change = .none) :
    ((s.faultComm n v bit).line n).change = .none ∧ (∀ k, (s.faultComm n v bit).slotG k = s.slotG k) ∧
      (s.faultComm n v bit).lineState n = s.lineState n := by
  have hl := faultLogged_same s n v bit
  set y := s.faultLogged n v bit with hy
  have hyn : (y.line n).change = .none := by rw [hl.line, h]
  rw [State.faultComm, ← hy, State.when]
  split
  · refine ⟨?_, fun k => ?_, ?_⟩
    · rw [(commFail_shows y n).1]
      exact hyn
    · rw [(commFail_shows y n).2]
      exact hl.slotG k
    · have hc : Chg (fun a => a = A.TBL_PLINE_W8 n ∨ a = A.PROOF_EVT) AnyPart NoMem y (y.commFail n) := Chg.refl.commFail n (.inl rfl) (.inr rfl) trivial
      have hne : ¬ (A.TBL_PLINE_W10 n = A.TBL_PLINE_W8 n ∨ A.TBL_PLINE_W10 n = A.PROOF_EVT) := by
        simp only [A.TBL_PLINE_W10, A.TBL_PLINE_W8, A.PROOF_EVT]; omega
      rw [State.lineState, hc.fld hne]
      exact hl.lineState n
  · exact ⟨hyn, hl.slotG, hl.lineState n⟩

theorem faultNoted_shows (h : (s.line n).change = .none) :
    ((s.faultNoted n v bit).line n).change = .none ∧ ((s.faultNoted n v bit).line n).perm = true ∧
      ((s.faultNoted n v bit).line n).hard = false ∧ (∀ k, ((s.faultNoted n v bit).slotG k).state = (s.slotG k).state) ∧
      (s.faultNoted n v bit).lineState n = s.lineState n := by
  obtain ⟨h1, h2, h3⟩ := faultComm_shows (v := v) (bit := bit) h
  obtain ⟨g1, g2, g3⟩ := spareLost_keeps h1
  have hl : (s.faultNoted n v bit).line n = { ((s.faultComm n v bit).spareLost n).line n with perm := true, hard := false, lastFail := bit } := by
    rw [State.faultNoted, State.line_lineUpd_same]
  refine ⟨?_, ?_, ?_, fun k => ?_, ?_⟩
  · rw [hl, g1]
    exact h1
  · rw [hl]
  · rw [hl]
  · rw [State.faultNoted, State.slotG_lineUpd, g2, h2]
  · rw [State.faultNoted, State.lineState, State.fld_lineUpd]
    exact g3.trans h3

/-- The registers a line's key and spare are read from, and class 7, are as before the fault. -/
theorem faultNoted_keys (s : State) (n v bit : Nat) :
    (∀ k, (s.faultNoted n v bit).lineKey k = s.lineKey k) ∧ (∀ k, (s.faultNoted n v bit).spareOf k = s.spareOf k) ∧
      (s.faultNoted n v bit).class7 = s.class7 ∧ (s.faultNoted n v bit).variant = s.variant := by
  have hl := faultLogged_same s n v bit
  set y := s.faultLogged n v bit with hy
  have hc : Chg (fun a => a = A.TBL_PLINE_W8 n ∨ a = A.PROOF_EVT ∨ a = A.MGMT_CFG_STATUS ∨ ∃ k, a = A.TBL_PLINE_W10 k) (Parts [.proof, .mgmt]) NoMem y
      (s.faultNoted n v bit) := by
    have h1 : Chg (fun a => a = A.TBL_PLINE_W8 n ∨ a = A.PROOF_EVT ∨ a = A.MGMT_CFG_STATUS ∨ ∃ k, a = A.TBL_PLINE_W10 k) (Parts [.proof, .mgmt]) NoMem y
        (s.faultComm n v bit) := Chg.refl.when _ _ fun _ => Chg.refl.commFail n (.inl rfl) (.inr (.inl rfl)) (by simp)
    exact (h1.spareLost n (fun k _ => .inr (.inr (.inr ⟨k, rfl⟩))) (.inr (.inr (.inl rfl))) (by simp) (by simp)).lineUpd n _ (by simp)
  have h0 (k : Nat) : (s.faultNoted n v bit).reg (A.TBL_PLINE_W0 k) = s.reg (A.TBL_PLINE_W0 k) := by
    rw [hc.reg _ ?_, hl.reg _ (line0_ge k)]
    rintro (e | e | e | ⟨j, e⟩) <;> simp only [A.TBL_PLINE_W0, A.TBL_PLINE_W8, A.PROOF_EVT, A.MGMT_CFG_STATUS, A.TBL_PLINE_W10] at e <;> omega
  refine ⟨fun k => State.lineKey_of_reg (h0 k), fun k => State.spareOf_of_reg (h0 k), ?_, hc.variant.trans hl.variant⟩
  refine (class7_of_lays hc.variant (by rw [hc.part .scp (by simp)]) fun a h1 h2 => hc.reg a ?_).trans hl.class7
  rintro (e | e | e | ⟨j, e⟩) <;> simp only [A.TBL_PLINE_W8, A.PROOF_EVT, A.MGMT_CFG_STATUS, A.TBL_PLINE_W10] at e <;> omega

end

end Sys2Proof.Machine
end

section
/-! PROOFS. CMD.RETIRE on a line (R357, R358). -/

namespace Sys2Proof.Machine

/-- The state in which CMD.RETIRE has noted the line's fault. -/
def State.lineFaulted (s : State) (n : Nat) : State :=
  (s.lineNamed n 2).faultNoted n ((s.lineNamed n 2).fld (F.TBL_PLINE_W10_VERDICT n)) byCommand

/-- What follows the note of a fault: the line's word, its status and the save. -/
def FaultRegs (n a : Nat) : Prop := a = A.TBL_PLINE_W10 n ∨ a = A.PROOF_STATUS ∨ a = A.MGMT_CFG_STATUS

theorem faultRegs_line (n : Nat) : LineRegs (FaultRegs n) AnyPart n := ⟨.inl rfl, .inr (.inl rfl), .inr (.inr rfl), trivial, trivial⟩

theorem faultNoted_retired (s : State) (n v bit : Nat) : (s.faultNoted n v bit).on F.PROOF_EVT_RETIRED = true := by
  have hl : (s.faultLogged n v bit).on F.PROOF_EVT_RETIRED = true := by
    have hc : Chg (· = A.MGMT_EVT) (Parts [.mgmt]) NoMem ((s.inc A.PROOF_CNT_RETIREMENTS).event F.PROOF_EVT_RETIRED) (s.faultLogged n v bit) := by
      unfold State.faultLogged
      dsimp only
      have hp : Parts [.mgmt] .mgmt := by simp
      exact Chg.log (Chg.life Chg.refl _ _ (by rfl) hp) _ _ _ _ (by rfl) hp
    rw [hc.on (by decide)]
    exact State.on_event_same _ (by decide)
  have hcomm : (s.faultComm n v bit).on F.PROOF_EVT_RETIRED = true := by
    rw [State.faultComm, State.when]
    split
    · set y := s.faultLogged n v bit with hy
      obtain ⟨b, hb⟩ : ∃ b, y.commFail n = ((y.when b fun s => (s.wr (A.TBL_PLINE_W8 n) 0).lineUpd n (fun l => { l with sweep := none })).lineUpd n
        (fun l => { l with comm := none })).event F.PROOF_EVT_COMM_FAIL := ⟨_, rfl⟩
      have hc : Chg (· = A.TBL_PLINE_W8 n) (Parts [.proof]) NoMem y ((y.when b fun s => (s.wr (A.TBL_PLINE_W8 n) 0).lineUpd n
          (fun l => { l with sweep := none })).lineUpd n (fun l => { l with comm := none })) :=
        have hp : Parts [.proof] .proof := by simp
        Chg.lineUpd (Chg.when Chg.refl b _ fun _ => (Chg.refl.wr _ _ (by rfl)).lineUpd n _ hp) n _ hp
      have hne : A.PROOF_EVT ≠ A.TBL_PLINE_W8 n := by simp only [A.PROOF_EVT, A.TBL_PLINE_W8]; omega
      rw [hb, State.on, State.fld_event_free _ (by decide), hc.fld hne]
      exact hl
    · exact hl
  have hc : Chg (fun a => a = A.MGMT_CFG_STATUS ∨ ∃ k, a = A.TBL_PLINE_W10 k) (Parts [.proof, .mgmt]) NoMem (s.faultComm n v bit) (s.faultNoted n v bit) :=
    (Chg.refl.spareLost n (fun k _ => .inr ⟨k, rfl⟩) (.inl rfl) (by simp) (by simp)).lineUpd n _ (by simp)
  rw [hc.on ?_]
  · exact hcomm
  · rintro (e | ⟨k, e⟩) <;> simp only [A.PROOF_EVT, A.MGMT_CFG_STATUS, A.TBL_PLINE_W10] at e <;> omega

section
variable {s : State} {n : Fin 256} {m : Master} {priv : Bool}

/-- What CMD.RETIRE makes of a line in service: its fault is noted, and a spare takes over, or it waits for one, or fades. -/
def State.lineGivenUp (s : State) (n : Nat) : State :=
  if s.spareFree n byCommand then (s.lineFaulted n).changeover n
  else if s.class7 then ((s.lineFaulted n).setLine n lnPending).noteRetired n true
  else (s.lineFaulted n).lineFadeOut n

theorem lineFaulted_chg (s : State) (n : Nat) : Chg AnyReg AnyPart NoMem s (s.lineFaulted n) :=
  (lineNamed_chg s n 2).wide.trans
    (((Chg.refl.inc (R := AnyReg) (P := AnyPart) _ trivial trivial fun _ _ => trivial).event _ trivial).trans (Chg.faultNoted fun _ _ _ => trivial))

theorem lineGivenUp_chg (s : State) (n : Nat) : Chg (FaultRegs n) AnyPart NoMem (s.lineFaulted n) (s.lineGivenUp n) := by
  unfold State.lineGivenUp
  exact Chg.ite (fun _ => Chg.refl.changeover n trivial) fun _ => Chg.ite
    (fun _ => (Chg.refl.setLine n _ (faultRegs_line n).word).noteRetired n true (faultRegs_line n).cfg trivial)
    fun _ => Chg.refl.lineFadeOut (faultRegs_line n)

theorem lineShown_chg (s : State) (n : Nat) : Chg (FaultRegs n) AnyPart NoMem (s.lineFaulted n) (s.lineGivenUp n).proofStatus :=
  (lineGivenUp_chg s n).proofStatus (faultRegs_line n).status

theorem answers_proofCmdRetire {Q : State → Prop} (hn : n.val < s.lines) (hd : Direct s m priv A.PROOF_CMD) (hup : s.lineUp n.val = true)
    (h4 : s.lineState n.val ≠ 4) (hp : (s.line n.val).perm = false) (h : Q (s.seal (s.lineGivenUp n.val).proofStatus)) :
    Answers (.proofCmdRetire n false m priv) s Q := by
  have hsame := lineNamed_same s n.val 2
  have heff : s.fresh.proofBit 2 n false m priv = (s.lineGivenUp n.val).proofStatus := by
    have heup : (s.lineNamed n.val 2).lineUp n.val = true := (hsame.lineUp _).trans hup
    have hest : (s.lineNamed n.val 2).lineState n.val ≠ lnRetired := by rw [hsame.lineState]; exact h4
    have hep : ((s.lineNamed n.val 2).line n.val).perm = false := by rw [hsame.line]; exact hp
    have hcls : (s.lineFaulted n.val).class7 = s.class7 := ((faultNoted_keys _ _ _ _).2.2.1).trans hsame.class7
    rw [lineBit_line hd hn (.inr (.inl rfl))]
    refine (lineCmd_retire heup hest hep).trans ?_
    rw [faultPermanent_eq, hsame.spareFree, ← State.lineFaulted, hcls, State.lineGivenUp]
  exact answers_effect (fun s => s.proofBit 2 n false m priv) rfl heff ((lineFaulted_chg s n.val).trans (lineShown_chg s n.val).wide) h

/-- What the note of the fault shows of the line (R357). -/
theorem lineFaulted_shows {n : Nat} (h : (s.line n).change = .none) :
    ((s.lineFaulted n).line n).change = .none ∧ ((s.lineFaulted n).line n).perm = true ∧ ((s.lineFaulted n).line n).hard = false ∧
      (∀ k, ((s.lineFaulted n).slotG k).state = (s.slotG k).state) ∧ (s.lineFaulted n).lineState n = s.lineState n := by
  have hsame := lineNamed_same s n 2
  obtain ⟨h1, h2, h3, h4, h5⟩ := faultNoted_shows (s := s.lineNamed n 2) (n := n) (v := (s.lineNamed n 2).fld (F.TBL_PLINE_W10_VERDICT n))
    (bit := byCommand) (by rw [hsame.line]; exact h)
  exact ⟨h1, h2, h3, fun k => (h4 k).trans (by rw [hsame.slotG]), h5.trans (hsame.lineState n)⟩

theorem lineFaulted_keys (s : State) (n : Nat) : (s.lineFaulted n).lineKey n = s.lineKey n ∧
    (s.lineFaulted n).lineKey ((s.lineFaulted n).spareOf n) = s.lineKey (s.spareOf n) ∧ (s.lineFaulted n).lines = s.lines := by
  have hsame := lineNamed_same s n 2
  obtain ⟨h1, h2, -, h4⟩ := faultNoted_keys (s.lineNamed n 2) n ((s.lineNamed n 2).fld (F.TBL_PLINE_W10_VERDICT n)) byCommand
  refine ⟨(h1 n).trans (hsame.lineKey n), ?_, ?_⟩
  · rw [State.lineFaulted, h2, h1, hsame.lineKey, hsame.spareOf]
  · rw [State.lines, State.lines, State.lineFaulted, h4, hsame.variant]

theorem counts_lineGivenUp (s : State) (n : Nat) : Counts s (s.seal (s.lineGivenUp n).proofStatus) A.PROOF_CNT_RETIREMENTS 1 := by
  have hrw : A.PROOF_CNT_RETIREMENTS ≠ A.TBL_PLINE_W10 n := by simp only [A.TBL_PLINE_W10, A.PROOF_CNT_RETIREMENTS]; omega
  have hc : Chg (· ≠ A.PROOF_CNT_RETIREMENTS) AnyPart NoMem (((s.lineNamed n 2).inc A.PROOF_CNT_RETIREMENTS).event F.PROOF_EVT_RETIRED)
      (s.lineGivenUp n).proofStatus := by
    refine (Chg.faultNoted fun a h _ => h).trans ((lineShown_chg s n).mono (fun a h => ?_) (fun _ _ => trivial) fun _ h => h)
    rcases h with rfl | rfl | rfl
    · exact hrw.symm
    · decide
    · decide
  rw [Counts, State.rd_seal _ _ (by decide), State.rd_eq_of_reg (hc.reg _ (by simp)), State.rd_event_ne (by decide), State.rd_inc_counts (by decide),
    State.rd_eq_of_reg (lineNamed_reg s n 2 (by decide))]

theorem retired_lineGivenUp (s : State) (n : Nat) : (s.seal (s.lineGivenUp n).proofStatus).on F.PROOF_EVT_RETIRED = true := by
  have hne : ¬ FaultRegs n A.PROOF_EVT := by
    rintro (e | e | e)
    · simp only [A.PROOF_EVT, A.TBL_PLINE_W10] at e; omega
    · revert e; decide
    · revert e; decide
  rw [State.on_seal _ _ (by decide), (lineShown_chg s n).on hne]
  exact faultNoted_retired _ _ _ _

theorem line_shown (s u : State) (k : Nat) : (s.seal u.proofStatus).line k = u.line k := by rw [line_sealed, State.line_of_proof (proofStatus_proof u)]
theorem slotG_shown (s u : State) (k : Nat) : (s.seal u.proofStatus).slotG k = u.slotG k := by rw [slotG_sealed, State.slotG_of_proof (proofStatus_proof u)]

theorem answers_proofCmdRetire_fades (hn : n.val < s.lines) (hd : Direct s m priv A.PROOF_CMD) (hup : s.lineUp n.val = true)
    (h4 : s.lineState n.val ≠ 4) (hp : (s.line n.val).perm = false) (hc : (s.line n.val).change = .none)
    (hsp : s.spareFree n.val byCommand = false) (h7 : s.class7 = false) (hf : (s.slotG (s.lineKey n.val)).state = 0) :
    Answers (.proofCmdRetire n false m priv) s fun t =>
      (t.line n.val).perm = true ∧ (t.line n.val).hard = false ∧ (t.line n.val).change = .lineFade ∧
      (t.slotG (s.lineKey n.val)).state = 1 ∧ Counts s t A.PROOF_CNT_RETIREMENTS 1 ∧ t.on F.PROOF_EVT_RETIRED = true ∧
      MemKept s t := by
  obtain ⟨-, y2, y3, y4, -⟩ := lineFaulted_shows hc
  have hkey := (lineFaulted_keys s n.val).1
  have hsl : ((s.lineFaulted n.val).slotG (s.lineKey n.val)).state = 0 := (y4 _).trans hf
  have hgu : s.lineGivenUp n.val = ((s.lineFaulted n.val).slotFade (s.lineKey n.val)).setChange n.val .lineFade := by
    have hnot : (s.lineFaulted n.val).slotIsSilent (s.lineKey n.val) = false := by rw [State.slotIsSilent, hsl]; rfl
    rw [State.lineGivenUp, hsp, h7, if_neg Bool.false_ne_true, if_neg Bool.false_ne_true, State.lineFadeOut, hkey, hnot, if_neg Bool.false_ne_true]
  refine answers_proofCmdRetire hn hd hup h4 hp ⟨?_, ?_, ?_, ?_, counts_lineGivenUp s _, retired_lineGivenUp s _,
    ((lineFaulted_chg s n.val).trans (lineShown_chg s n.val).wide).memKept⟩
  · rw [line_shown, hgu, line_setChange, slotFade_line, y2]
  · rw [line_shown, hgu, line_setChange, slotFade_line, y3]
  · rw [line_shown, hgu, line_setChange]
  · rw [slotG_shown, hgu, slotG_setChange, slotFade_state hsl]

theorem answers_proofCmdRetire_waits (hn : n.val < s.lines) (hd : Direct s m priv A.PROOF_CMD) (hup : s.lineUp n.val = true)
    (h4 : s.lineState n.val ≠ 4) (hp : (s.line n.val).perm = false) (hc : (s.line n.val).change = .none)
    (hsp : s.spareFree n.val byCommand = false) (h7 : s.class7 = true) :
    Answers (.proofCmdRetire n false m priv) s fun t =>
      (t.line n.val).perm = true ∧ t.lineState n.val = 3 ∧ t.on F.PROOF_STATUS_FAULT = true ∧
      (t.slotG (s.lineKey n.val)).state = (s.slotG (s.lineKey n.val)).state ∧ Counts s t A.PROOF_CNT_RETIREMENTS 1 := by
  obtain ⟨-, y2, -, y4, -⟩ := lineFaulted_shows hc
  have hlines := (lineFaulted_keys s n.val).2.2
  have hgu : s.lineGivenUp n.val = ((s.lineFaulted n.val).setLine n.val lnPending).noteRetired n.val true := by
    rw [State.lineGivenUp, hsp, h7, if_neg Bool.false_ne_true, if_pos rfl]
  have hproof : (s.lineGivenUp n.val).proof = (s.lineFaulted n.val).proof := by rw [hgu, noteRetired_proof, setLine_proof]
  have hst : (s.lineGivenUp n.val).lineState n.val = 3 := by
    have hc : Chg (· = A.MGMT_CFG_STATUS) (Parts [.mgmt]) NoMem ((s.lineFaulted n.val).setLine n.val lnPending) (s.lineGivenUp n.val) := by
      rw [hgu]
      exact Chg.refl.noteRetired n.val true rfl (by simp)
    rw [State.lineState, hc.fld (show A.TBL_PLINE_W10 n.val ≠ A.MGMT_CFG_STATUS by simp only [A.TBL_PLINE_W10, A.MGMT_CFG_STATUS]; omega)]
    exact State.fld_keep_same _ rfl (show 3 < 2 ^ 3 by decide)
  refine answers_proofCmdRetire hn hd hup h4 hp ⟨?_, ?_, ?_, ?_, counts_lineGivenUp s _⟩
  · rw [line_shown, State.line_of_proof hproof, y2]
  · exact (fld_line_shown (u := s.lineGivenUp n.val) rfl).trans hst
  · rw [State.on_seal _ _ (by decide)]
    refine proofStatus_retired (n := n.val) ?_ (.inr hst)
    have hv : (s.lineGivenUp n.val).lines = s.lines := by
      rw [← hlines, State.lines, State.lines, (lineGivenUp_chg s n.val).variant]
    rw [hv]
    exact hn
  · rw [slotG_shown, State.slotG_of_proof hproof, y4]

theorem answers_proofCmdRetire_spare (hn : n.val < s.lines) (hd : Direct s m priv A.PROOF_CMD) (hup : s.lineUp n.val = true)
    (h1 : s.lineState n.val = 1) (hp : (s.line n.val).perm = false) (hc : (s.line n.val).change = .none)
    (hsp : s.spareFree n.val byCommand = true) (hf : (s.slotG (s.lineKey (s.spareOf n.val))).state = 0) :
    Answers (.proofCmdRetire n false m priv) s fun t =>
      (t.line n.val).perm = true ∧ (t.line n.val).change = .spareFade ∧ (t.slotG (s.lineKey (s.spareOf n.val))).state = 1 ∧
      t.lineState n.val = 1 ∧ Counts s t A.PROOF_CNT_RETIREMENTS 1 := by
  obtain ⟨-, y2, -, y4, y5⟩ := lineFaulted_shows hc
  have hkey := (lineFaulted_keys s n.val).2.1
  have hsl : ((s.lineFaulted n.val).slotG (s.lineKey (s.spareOf n.val))).state = 0 := (y4 _).trans hf
  have hgu : s.lineGivenUp n.val = ((s.lineFaulted n.val).slotFade (s.lineKey (s.spareOf n.val))).setChange n.val .spareFade := by
    rw [State.lineGivenUp, hsp, if_pos rfl, State.changeover, hkey]
  refine answers_proofCmdRetire hn hd hup (by rw [h1]; decide) hp ⟨?_, ?_, ?_, ?_, counts_lineGivenUp s _⟩
  · rw [line_shown, hgu, line_setChange, slotFade_line, y2]
  · rw [line_shown, hgu, line_setChange]
  · rw [slotG_shown, hgu, slotG_setChange, slotFade_state hsl]
  · have hst : (s.lineGivenUp n.val).lineState n.val = 1 := by
      rw [hgu, State.lineState, fld_setChange, slotFade_fld]
      exact y5.trans h1
    exact (fld_line_shown (u := s.lineGivenUp n.val) rfl).trans hst

end

end Sys2Proof.Machine
end

section
/-! PROOFS. CMD.CLEAR on a retired line (R359). -/

namespace Sys2Proof.Machine

/-- A line back in service: its word, and what is kept of its fault. -/
def State.lineHealed (s : State) (n : Nat) : State :=
  (((s.setLine n lnService).lineUpd n (fun l => { l with perm := false, hard := false })).keep (F.TBL_PLINE_W10_RETRY n) 0).keep
    (F.TBL_PLINE_W10_PASSES n) 0

/-- The restore counted, logged and to be saved. -/
def State.lineNoted (s : State) (n : Nat) : State :=
  let x := s.lineHealed n
  (((x.inc A.PROOF_CNT_RESTORES).event F.PROOF_EVT_RESTORED).log 11 3 2 [n, x.spareOf n, (Config.openCode 1).toNat]).noteRetired n false

/-- The line's slot ramps up, and a spare in its place hands back, or the line proves itself. -/
def State.lineBack (s : State) (n : Nat) : State :=
  let x := (s.lineNoted n).lineRestart n
  let y := x.slotRamp (s.lineKey n)
  y.setChange n (if y.on (F.TBL_PLINE_W10_CHANGED n) || false then .backRamp else .probeRamp)

section
variable {s : State} {n : Nat}

theorem restoreLine_eq (h4 : s.lineState n = lnRetired) (hc : (s.line n).change = .none)
    (hup : ((s.lineNoted n).lineRestart n).slotIsUp (s.lineKey n) = false) : s.restoreLine n = (s.lineBack n).proofStatus.pendingSpares := by
  have ht : ((s.line n).change == Change.spareFade || (s.line n).change == Change.spareRamp) = false := by rw [hc]; rfl
  unfold State.restoreLine
  dsimp only
  rw [if_pos (.inl h4), ht]
  change ((State.when ((s.lineNoted n).lineRestart n) (!((s.lineNoted n).lineRestart n).slotIsUp (s.lineKey n))
    fun s' => s'.slotRamp (s.lineKey n)).setChange n _).proofStatus.pendingSpares = _
  rw [hup]
  rfl

/-- No line waits for a spare and no class 7 service is in force: nothing is taken over. -/
theorem pendingSpares_idle (h : ∀ k < s.lines, s.lineState k ≠ 3) (h7 : s.class7 = false) : s.pendingSpares = s := by
  have hf : forN s.lines (fun n s => s.when (s.lineState n == lnPending && (s.line n).change == .none && s.spareFree n (s.line n).lastFail)
      (fun s => s.changeover n)) s = s := by
    refine forN_induction (p := fun t => t = s) s.lines _ (fun k hk t ht => ?_) rfl
    subst ht
    have hne : (t.lineState k == lnPending) = false := beq_eq_false_iff_ne.mpr (h k hk)
    rw [hne]
    rfl
  unfold State.pendingSpares
  dsimp only
  rw [hf, h7]
  rfl

theorem lineHealed_chg (s : State) (n : Nat) : Chg (· = A.TBL_PLINE_W10 n) (Parts [.proof]) NoMem s (s.lineHealed n) := by
  have hp : Parts [.proof] .proof := by simp
  exact (((Chg.refl.setLine n _ (by rfl)).lineUpd n _ hp).keep _ _ (by rfl)).keep _ _ (by rfl)

/-- What the restore's count, record and save touch. -/
def NotedRegs (a : Nat) : Prop := a = A.PROOF_CNT_RESTORES ∨ a = A.PROOF_CNT_SAT ∨ a = A.PROOF_EVT ∨ a = A.MGMT_EVT ∨ a = A.MGMT_CFG_STATUS

theorem restores_sat : satOf A.PROOF_CNT_RESTORES = ⟨A.PROOF_CNT_SAT, 7, some F.PROOF_EVT_CNT_SAT⟩ := rfl

theorem lineNoted_chg (s : State) (n : Nat) : Chg NotedRegs (Parts [.mgmt]) NoMem (s.lineHealed n) (s.lineNoted n) := by
  have hp : Parts [.mgmt] .mgmt := by simp
  unfold State.lineNoted
  dsimp only
  refine ((((Chg.refl.inc _ (.inl rfl) (.inr (.inl rfl)) ?_).event _ (.inr (.inr (.inl rfl)))).log _ _ _ _ (.inr (.inr (.inr (.inl rfl)))) hp).noteRetired
    n false (.inr (.inr (.inr (.inr rfl)))) hp)
  rw [restores_sat]
  rintro f ⟨⟩
  exact .inr (.inr (.inl rfl))

theorem not_notedRegs (k : Nat) : ¬ NotedRegs (A.TBL_PLINE_W10 k) := by
  rintro (e | e | e | e | e) <;>
    simp only [A.TBL_PLINE_W10, A.PROOF_CNT_RESTORES, A.PROOF_CNT_SAT, A.PROOF_EVT, A.MGMT_EVT, A.MGMT_CFG_STATUS] at e <;> omega

theorem lineBack_chg (s : State) (n : Nat) : Chg (fun _ => False) (Parts [.proof]) NoMem (s.lineNoted n) (s.lineBack n) := by
  have hp : Parts [.proof] .proof := by simp
  exact ((Chg.refl.lineRestart n hp).slotRamp _ hp).setChange n _ hp

theorem lineBack_word {f : Fld} {k : Nat} (hf : f.adr = A.TBL_PLINE_W10 k) : (s.lineBack n).fld f = (s.lineHealed n).fld f := by
  rw [(lineBack_chg s n).fld id, (lineNoted_chg s n).fld (hf ▸ not_notedRegs k)]

theorem lineHealed_line (s : State) (n : Nat) : (s.lineHealed n).line n = { s.line n with perm := false, hard := false } := by
  have h1 : (s.lineHealed n).proof = ((s.setLine n lnService).lineUpd n (fun l => { l with perm := false, hard := false })).proof := by
    rw [State.lineHealed, State.keep_proof, State.keep_proof]
  rw [State.line_of_proof h1, State.line_lineUpd_same, State.line_of_proof (setLine_proof s n _)]

theorem lineHealed_slotG (s : State) (n k : Nat) : (s.lineHealed n).slotG k = s.slotG k := by
  have h1 : (s.lineHealed n).proof = ((s.setLine n lnService).lineUpd n (fun l => { l with perm := false, hard := false })).proof := by
    rw [State.lineHealed, State.keep_proof, State.keep_proof]
  rw [State.slotG_of_proof h1, State.slotG_lineUpd, State.slotG_of_proof (setLine_proof s n _)]

theorem lineNoted_proof (s : State) (n : Nat) : (s.lineNoted n).proof = (s.lineHealed n).proof := (lineNoted_chg s n).part .proof (by simp)

theorem lineNoted_slotG (s : State) (n k : Nat) : ((s.lineNoted n).lineRestart n).slotG k = s.slotG k := by
  rw [slotG_lineRestart, State.slotG_of_proof (lineNoted_proof s n), lineHealed_slotG]

/-- The fields of the line's word, as the restore leaves them. -/
theorem lineHealed_flds (s : State) (n : Nat) :
    (s.lineHealed n).lineState n = 1 ∧ (s.lineHealed n).fld (F.TBL_PLINE_W10_RETRY n) = 0 ∧ (s.lineHealed n).fld (F.TBL_PLINE_W10_PASSES n) = 0 ∧
      (s.lineHealed n).fld (F.TBL_PLINE_W10_CHANGED n) = s.fld (F.TBL_PLINE_W10_CHANGED n) := by
  have hst : (s.setLine n lnService).lineState n = 1 := State.fld_keep_same _ rfl (show 1 < 2 ^ 3 by decide)
  refine ⟨?_, ?_, State.fld_keep_same _ rfl (show 0 < 2 ^ 8 by decide), ?_⟩
  · rw [State.lineState, State.lineHealed, State.fld_keep_free _ (by simp [Fld.free, Fld.ok, Fld.apart]),
      State.fld_keep_free _ (by simp [Fld.free, Fld.ok, Fld.apart]), State.fld_lineUpd]
    exact hst
  · rw [State.lineHealed, State.fld_keep_free _ (by simp [Fld.free, Fld.ok, Fld.apart])]
    exact State.fld_keep_same _ rfl (show 0 < 2 ^ 2 by decide)
  · rw [State.lineHealed, State.fld_keep_free _ (by simp [Fld.free, Fld.ok, Fld.apart]), State.fld_keep_free _ (by simp [Fld.free, Fld.ok, Fld.apart]),
      State.fld_lineUpd, State.setLine, State.fld_keep_free _ (by simp [Fld.free, Fld.ok, Fld.apart])]

theorem lineHealed_other {n k : Nat} (h : k ≠ n) : (s.lineHealed n).lineState k = s.lineState k :=
  (lineHealed_chg s n).fld (show A.TBL_PLINE_W10 k ≠ A.TBL_PLINE_W10 n by simp only [A.TBL_PLINE_W10]; omega)

theorem lineBack_line (s : State) (n : Nat) : ((s.lineBack n).line n).perm = false ∧
    ((s.lineBack n).line n).change = (if s.on (F.TBL_PLINE_W10_CHANGED n) then .backRamp else .probeRamp) := by
  have hl : (s.lineNoted n).line n = { s.line n with perm := false, hard := false } := by
    rw [State.line_of_proof (lineNoted_proof s n), lineHealed_line]
  have hch : (((s.lineNoted n).lineRestart n).slotRamp (s.lineKey n)).on (F.TBL_PLINE_W10_CHANGED n) = s.on (F.TBL_PLINE_W10_CHANGED n) := by
    rw [State.on, State.on, ← (lineHealed_flds s n).2.2.2]
    exact congrArg (· != 0) ((lineNoted_chg s n).fld (not_notedRegs n))
  rw [State.lineBack]
  rw [line_setChange, hch, Bool.or_false]
  refine ⟨?_, rfl⟩
  rw [line_slotRamp, State.lineRestart, State.line_lineUpd_same, hl]

end

section
variable {s : State} {n : Fin 256} {m : Master} {priv : Bool}

theorem answers_proofCmdClear_retired (hn : n.val < s.lines) (hd : Direct s m priv A.PROOF_CMD) (hup : s.lineUp n.val = true)
    (h4 : s.lineState n.val = 4) (hc : (s.line n.val).change = .none) (hf : (s.slotG (s.lineKey n.val)).state = 2)
    (h3 : ∀ k < s.lines, s.lineState k ≠ 3) (h7 : s.class7 = false) :
    Answers (.proofCmdClear n false m priv) s fun t =>
      t.lineState n.val = 1 ∧ (t.line n.val).perm = false ∧ t.fld (F.TBL_PLINE_W10_RETRY n.val) = 0 ∧
      t.fld (F.TBL_PLINE_W10_PASSES n.val) = 0 ∧ (t.slotG (s.lineKey n.val)).state = 3 ∧
      (t.line n.val).change = (if s.on (F.TBL_PLINE_W10_CHANGED n.val) then .backRamp else .probeRamp) ∧
      Counts s t A.PROOF_CNT_RESTORES 1 ∧ t.on F.PROOF_EVT_RESTORED = true ∧ MemKept s t := by
  have hsame := lineNamed_same s n.val 3
  set e := s.lineNamed n.val 3 with he
  set u := e.lineBack n.val with hu
  have hkey : e.lineKey n.val = s.lineKey n.val := hsame.lineKey _
  have heu : Chg (fun a => NotedRegs a ∨ a = A.TBL_PLINE_W10 n.val) (Parts [.proof, .mgmt]) NoMem e u :=
    (((lineHealed_chg e n.val).parts (by simp)).mono (fun _ => .inr) (fun _ h => h) fun _ h => h).trans
      ((((lineNoted_chg e n.val).parts (by simp)).mono (fun _ => .inl) (fun _ h => h) fun _ h => h).trans
        (((lineBack_chg e n.val).parts (by simp)).mono (fun _ h => h.elim) (fun _ h => h) fun _ h => h))
  have hword {f : Fld} {k : Nat} (hf : f.adr = A.TBL_PLINE_W10 k) : (s.seal u.proofStatus).fld f = (e.lineHealed n.val).fld f :=
    (fld_line_shown hf).trans (lineBack_word hf)
  have hslot : ((e.lineNoted n.val).lineRestart n.val).slotIsUp (e.lineKey n.val) = false := by
    rw [State.slotIsUp, lineNoted_slotG, hkey, hsame.slotG, hf]
    rfl
  have hv : u.proofStatus.variant = s.variant := ((proofStatus_chg u).variant).trans (heu.variant.trans hsame.variant)
  have hidle : u.proofStatus.pendingSpares = u.proofStatus := by
    refine pendingSpares_idle (fun k hk => ?_) ?_
    · have hk' : k < s.lines := by rwa [State.lines, hv] at hk
      rw [State.lineState, proofStatus_fld u (line10_status k), lineBack_word rfl]
      by_cases hkn : k = n.val
      · rw [hkn]
        exact ne_of_eq_of_ne (lineHealed_flds e n.val).1 (by decide)
      · exact ne_of_eq_of_ne ((lineHealed_other (s := e) hkn).trans (hsame.lineState k)) (h3 k hk')
    · refine (class7_of_lays ((proofStatus_chg u).variant.trans heu.variant) ?_ fun a h1 h2 => ?_).trans (hsame.class7.trans h7)
      · rw [(proofStatus_chg u).part .scp (by simp), heu.part .scp (by simp)]
      · rw [(proofStatus_chg u).reg a (by simp only [A.PROOF_STATUS]; omega), heu.reg a ?_]
        rintro ((e | e | e | e | e) | e) <;>
          simp only [A.TBL_PLINE_W10, A.PROOF_CNT_RESTORES, A.PROOF_CNT_SAT, A.PROOF_EVT, A.MGMT_EVT, A.MGMT_CFG_STATUS] at e <;> omega
  have heff : s.fresh.proofBit 3 n false m priv = u.proofStatus := by
    have heup : e.lineUp n.val = true := (hsame.lineUp _).trans hup
    have hest : e.lineState n.val = 4 := (hsame.lineState _).trans h4
    have hech : (e.line n.val).change = .none := by rw [hsame.line, hc]
    rw [lineBit_line hd hn (.inr (.inr rfl)), ← he]
    refine (lineCmd_clear heup).trans ((clearLine_retired hest).trans ?_)
    rw [restoreLine_eq hest hech hslot, hidle]
  have hall : Chg AnyReg AnyPart NoMem s u.proofStatus :=
    (lineNamed_chg s n.val 3).wide.trans (heu.wide.trans (proofStatus_chg u).wide)
  refine answers_effect (fun s => s.proofBit 3 n false m priv) rfl heff hall ⟨?_, ?_, ?_, ?_, ?_, ?_, ?_, ?_, hall.memKept⟩
  · exact (hword rfl).trans (lineHealed_flds e n.val).1
  · rw [line_shown]
    exact (lineBack_line e n.val).1
  · exact (hword rfl).trans (lineHealed_flds e n.val).2.1
  · exact (hword rfl).trans (lineHealed_flds e n.val).2.2.1
  · rw [slotG_shown, hu, State.lineBack, slotG_setChange, hkey, slotRamp_state]
  · rw [line_shown, (lineBack_line e n.val).2, hsame.on (line10_ge n.val)]
  · have hc : Chg (fun a => a = A.PROOF_EVT ∨ a = A.MGMT_EVT ∨ a = A.MGMT_CFG_STATUS) (Parts [.mgmt, .proof]) NoMem
        ((e.lineHealed n.val).inc A.PROOF_CNT_RESTORES) u := by
      have hp : Parts [.mgmt, .proof] .mgmt := by simp
      refine Chg.trans ?_ (((lineBack_chg e n.val).parts (by simp)).mono (fun _ h => h.elim) (fun _ h => h) fun _ h => h)
      unfold State.lineNoted
      dsimp only
      exact ((Chg.refl.event _ (.inl rfl)).log _ _ _ _ (.inr (.inl rfl)) hp).noteRetired n.val false (.inr (.inr rfl)) hp
    have hne : A.PROOF_CNT_RESTORES ≠ A.TBL_PLINE_W10 n.val := by simp only [A.TBL_PLINE_W10, A.PROOF_CNT_RESTORES]; omega
    rw [Counts, State.rd_seal _ _ (by decide), State.rd_eq_of_reg ((proofStatus_chg u).reg _ (by decide)), State.rd_eq_of_reg (hc.reg _ (by decide)),
      State.rd_inc_counts (by decide), State.rd_eq_of_reg ((lineHealed_chg e n.val).reg _ hne),
      State.rd_eq_of_reg (lineNamed_reg s n.val 3 (by decide))]
  · have hr : (e.lineNoted n.val).on F.PROOF_EVT_RESTORED = true := by
      have hp : Parts [.mgmt] .mgmt := by simp
      set x := ((e.lineHealed n.val).inc A.PROOF_CNT_RESTORES).event F.PROOF_EVT_RESTORED with hx
      have hc : Chg (fun a => a = A.MGMT_EVT ∨ a = A.MGMT_CFG_STATUS) (Parts [.mgmt]) NoMem x (e.lineNoted n.val) := by
        unfold State.lineNoted
        dsimp only
        exact (Chg.refl.log _ _ _ _ (.inl rfl) hp).noteRetired n.val false (.inr rfl) hp
      rw [hc.on (by decide), hx]
      exact State.on_event_same _ (by decide)
    rw [State.on_seal _ _ (by decide), proofStatus_on u (by decide), hu, (lineBack_chg e n.val).on id]
    exact hr

end

/-- Settles O49: each clause by the lemma of its line entry, changeover step, report or command. -/
theorem proofLines : Obligations.ProofLines := by
  unfold Obligations.ProofLines
  refine ⟨answers_lineEntryWrite_judged, answers_lineEntryWrite_starts, answers_lineEntryWrite_ends,
    fun s n k m priv x hn hk hd _ => untouched_lineEntryWrite s n k m priv x hn hk hd,
    fun _ _ _ hn hc => answers_changeoverStep_none hn hc, fun _ _ _ hn hc => answers_changeoverStep_spareFade hn hc,
    fun _ _ _ hn hc hk hf => answers_changeoverStep_spareRamp hn hc hk hf, fun _ _ _ hn hc => answers_changeoverStep_lineFade hn hc,
    fun _ _ _ hn hc hk hf => answers_changeoverStep_backRamp hn hc hk hf, fun _ _ _ hn hc => answers_changeoverStep_backSpareFade hn hc,
    fun _ _ hn h1 h2 => answers_supervisionLoss_lost hn h1 h2, fun _ _ hn h => untouched_supervisionLoss hn h,
    fun _ _ hn h1 h2 => answers_unproven_shown hn h1 h2,
    fun _ _ _ _ hn hd hup h3 h4 hc hg => answers_proofCmdCommission hn hd hup h3 h4 hc hg,
    fun _ _ _ _ hd hn => ⟨refusedLine_answers rfl hd hn (.inl rfl), refusedLine_answers rfl hd hn (.inr (.inl rfl)),
      refusedLine_answers rfl hd hn (.inr (.inr rfl))⟩,
    fun _ _ _ _ hn hd hup h4 hp hc hs h7 hf => answers_proofCmdRetire_fades hn hd hup h4 hp hc hs h7 hf,
    fun _ _ _ _ hn hd hup h4 hp hc hs h7 => answers_proofCmdRetire_waits hn hd hup h4 hp hc hs h7,
    fun _ _ _ _ hn hd hup h1 hp hc hs hf => answers_proofCmdRetire_spare hn hd hup h1 hp hc hs hf,
    fun _ _ _ _ hn hd hup h4 hc hf h3 h7 => answers_proofCmdClear_retired hn hd hup h4 hc hf h3 h7,
    fun _ _ _ _ hn hd hup h2 hp => answers_proofCmdClear_retrying hn hd hup h2 hp,
    fun _ _ hn h => answers_commissionTimeout_fails hn h, fun _ _ hn h => untouched_commissionTimeout hn h⟩

end Sys2Proof.Machine
end

section
/-! PROOFS. Forwarded accesses (R391, R395), a part of O52. -/

namespace Sys2Proof.Machine

theorem fwdWrite_strikes : Strikes A.SPLICE_FWD_CTL 1 := fun v => by cases v <;> decide
theorem fwdRead_strikes : Strikes A.SPLICE_FWD_CTL 2 := fun v => by cases v <;> decide

section
variable {R : Nat → Prop} {P : Part → Prop} {M : Nat → Prop} {s t : State}

theorem Chg.spUpd (h : Chg R P M s t) (p : Nat) (f : SplicePort → SplicePort) (hp : P .splice) : Chg R P M s (t.spUpd p f) := h.splice _ hp

theorem Chg.fwdEnd (h : Chg R P M s t) (r : Nat) (hc : R A.SPLICE_FWD_CTL) (he : R A.SPLICE_EVT) (hp : P .splice) : Chg R P M s (t.fwdEnd r) :=
  Chg.updSplice (((h.set _ _ hc).set _ _ hc).event _ he) _ hp

end

@[simp] theorem fld_updSplice (s : State) (f : SpliceS → SpliceS) (g : Fld) : (s.updSplice f).fld g = s.fld g := rfl
@[simp] theorem on_updSplice (s : State) (f : SpliceS → SpliceS) (g : Fld) : (s.updSplice f).on g = s.on g := rfl

theorem sp_spUpd_same (s : State) {p : Nat} (h : p < s.splice.ports.length) (f : SplicePort → SplicePort) : (s.spUpd p f).sp p = f (s.sp p) := by
  simp only [State.spUpd, State.updSplice, State.sp, getAt, updAt, List.getD_eq_getElem?_getD, List.getElem?_modify_eq]
  rw [List.getElem?_eq_getElem h]
  rfl

theorem sp_spUpd_ne (s : State) {p q : Nat} (h : q ≠ p) (f : SplicePort → SplicePort) : (s.spUpd p f).sp q = s.sp q := by
  simp only [State.spUpd, State.updSplice, State.sp, getAt, updAt, List.getD_eq_getElem?_getD, List.getElem?_modify_ne _ _ (Ne.symm h)]

theorem State.sp_of_splice {s t : State} (h : t.splice = s.splice) (p : Nat) : t.sp p = s.sp p := by rw [State.sp, h, State.sp]

theorem fwdEnd_shows (s x : State) {r : Nat} (hr : r < 16) : FwdEnded r (s.seal (x.fwdEnd r)) := by
  refine ⟨?_, ?_, ?_, ?_⟩
  · rw [State.on_seal _ _ (by decide), State.fwdEnd, on_updSplice, State.on, State.fld_event_free _ (by decide), State.fld_set_free _ (by decide),
      State.fld_set_same _ (by decide)]
    rfl
  · rw [State.fld_seal _ _ (by decide), State.fwdEnd, fld_updSplice, State.fld_event_free _ (by decide), State.fld_set_same _ (by decide)]
    exact Nat.mod_eq_of_lt hr
  · rw [State.on_seal _ _ (by decide), State.fwdEnd, on_updSplice]
    exact State.on_event_same _ (by decide)
  · rw [State.seal_splice]
    rfl

section
variable {s : State} {m : Master} {priv : Bool}

/-- What the command bit of a forwarded access runs. -/
theorem fwdWrite_runs (hd : Direct s m priv A.SPLICE_FWD_CTL) : s.fresh.strike m priv A.SPLICE_FWD_CTL 1 = s.fresh.fwd false (s.masterPriv m priv) := by
  rw [hd.strike fwdWrite_strikes]
  rfl

theorem fwdRead_runs (hd : Direct s m priv A.SPLICE_FWD_CTL) : s.fresh.strike m priv A.SPLICE_FWD_CTL 2 = s.fresh.fwd true (s.masterPriv m priv) := by
  rw [hd.strike fwdRead_strikes]
  rfl

theorem fwd_busy {x : State} {read pr : Bool} (h : x.on F.SPLICE_FWD_CTL_BUSY = true) : x.fwd read pr = x.event F.SPLICE_EVT_FWD_REFUSED := by
  unfold State.fwd
  rw [if_pos h]

theorem fwd_misaligned {x : State} {read pr : Bool} (h : x.on F.SPLICE_FWD_CTL_BUSY = false) (ha : x.fld F.SPLICE_FWD_ADDR_ADDR % 4 ≠ 0) :
    x.fwd read pr = x.fwdEnd 5 := by
  unfold State.fwd
  dsimp only
  rw [h, if_neg Bool.false_ne_true, if_pos ha]

theorem fwd_nowhere {x : State} {read pr : Bool} (h : x.on F.SPLICE_FWD_CTL_BUSY = false) (ha : x.fld F.SPLICE_FWD_ADDR_ADDR % 4 = 0)
    (hp : x.fld F.SPLICE_FWD_ADDR_POS = 0 ∨ x.fld F.SPLICE_STATUS_STACK_SIZE ≤ x.fld F.SPLICE_FWD_ADDR_POS) : x.fwd read pr = x.fwdEnd 1 := by
  unfold State.fwd
  dsimp only
  rw [h, if_neg Bool.false_ne_true, if_neg (not_not.mpr ha), if_pos hp]

/-- The record of a forwarded access. -/
def State.fwdRecord (s : State) (read pr : Bool) : Ctrl :=
  .access s.position (s.fld F.SPLICE_FWD_ADDR_POS) (s.fld F.SPLICE_FWD_ADDR_ADDR) (if read then none else some (s.rd A.SPLICE_FWD_DATA)) pr

theorem fwd_sends {x : State} {read pr : Bool} (h : x.on F.SPLICE_FWD_CTL_BUSY = false) (ha : x.fld F.SPLICE_FWD_ADDR_ADDR % 4 = 0)
    (h0 : x.fld F.SPLICE_FWD_ADDR_POS ≠ 0) (hs : x.fld F.SPLICE_FWD_ADDR_POS < x.fld F.SPLICE_STATUS_STACK_SIZE)
    (hl : (x.sp (x.towards (x.fld F.SPLICE_FWD_ADDR_POS))).ctrl.length < 64) :
    x.fwd read pr = ((x.set F.SPLICE_FWD_CTL_BUSY 1).updSplice (fun y => { y with fwd := some read })).spUpd
      (x.towards (x.fld F.SPLICE_FWD_ADDR_POS)) (fun y => { y with ctrl := y.ctrl ++ [x.fwdRecord read pr] }) := by
  have hsp : ((x.set F.SPLICE_FWD_CTL_BUSY 1).updSplice (fun y => { y with fwd := some read })).sp (x.towards (x.fld F.SPLICE_FWD_ADDR_POS)) =
      x.sp (x.towards (x.fld F.SPLICE_FWD_ADDR_POS)) := by
    rw [State.sp, State.sp, State.updSplice, State.set_splice]
  unfold State.fwd
  dsimp only
  rw [h, if_neg Bool.false_ne_true, if_neg (not_not.mpr ha), if_neg (not_or.mpr ⟨h0, Nat.not_le.mpr hs⟩), State.ctrlSend, hsp,
    if_neg (Nat.not_le.mpr hl)]
  rfl

theorem answers_fwd_busy {i : Instr} {read : Bool} {f : State → State} (hx : exec i s = s.run f) (hf : f s.fresh = s.fresh.fwd read (s.masterPriv m priv))
    (hb : s.on F.SPLICE_FWD_CTL_BUSY = true) : Answers i s fun t => t.on F.SPLICE_EVT_FWD_REFUSED = true ∧ Framed [A.SPLICE_EVT] [] s t := by
  have hframe : Chg (Listed [A.SPLICE_EVT]) (Parts []) NoMem s (s.fresh.event F.SPLICE_EVT_FWD_REFUSED) := Chg.refl.fresh.event _ (by simp)
  refine answers_effect f hx (hf.trans (fwd_busy hb)) hframe ⟨?_, hframe.framed⟩
  rw [State.on_seal _ _ (by decide)]
  exact State.on_event_same _ (by decide)

theorem answers_fwd_ended {i : Instr} {read : Bool} {f : State → State} (hx : exec i s = s.run f) (hf : f s.fresh = s.fresh.fwd read (s.masterPriv m priv))
    {r : Nat} (hr : r < 16) (he : s.fresh.fwd read (s.masterPriv m priv) = s.fresh.fwdEnd r) :
    Answers i s fun t => FwdEnded r t ∧ Framed [A.SPLICE_FWD_CTL, A.SPLICE_EVT] [.splice] s t := by
  have hframe : Chg (Listed [A.SPLICE_FWD_CTL, A.SPLICE_EVT]) (Parts [.splice]) NoMem s (s.fresh.fwdEnd r) :=
    Chg.refl.fresh.fwdEnd r (by simp) (by simp) (by simp)
  exact answers_effect f hx (hf.trans he) hframe ⟨fwdEnd_shows s _ hr, hframe.framed⟩

theorem answers_fwd_sends {i : Instr} {read : Bool} {f : State → State} {pos : Nat} (hx : exec i s = s.run f)
    (hf : f s.fresh = s.fresh.fwd read (s.masterPriv m priv)) (hsh : Shaped s)
    (hb : s.on F.SPLICE_FWD_CTL_BUSY = false) (ha : s.fld F.SPLICE_FWD_ADDR_ADDR % 4 = 0) (hp : s.fld F.SPLICE_FWD_ADDR_POS = pos) (h0 : pos ≠ 0)
    (hs : pos < s.fld F.SPLICE_STATUS_STACK_SIZE) (hl : (s.sp (s.towards pos)).ctrl.length < 64) :
    Answers i s fun t => t.on F.SPLICE_FWD_CTL_BUSY = true ∧ t.splice.fwd = some read ∧
      (t.sp (s.towards pos)).ctrl = (s.sp (s.towards pos)).ctrl ++
        [.access s.position pos (s.fld F.SPLICE_FWD_ADDR_ADDR) (if read then none else some (s.rd A.SPLICE_FWD_DATA)) (s.masterPriv m priv)] ∧
      Framed [A.SPLICE_FWD_CTL] [.splice] s t := by
  subst hp
  set pos := s.fld F.SPLICE_FWD_ADDR_POS with hpos
  have hport : s.towards pos < s.splice.ports.length := by
    obtain ⟨-, -, -, -, -, -, -, -, h2, -⟩ := hsh
    rw [h2, State.towards]
    split <;> decide
  set x := (s.fresh.set F.SPLICE_FWD_CTL_BUSY 1).updSplice (fun y => { y with fwd := some read }) with hx'
  set u := x.spUpd (s.towards pos) (fun y => { y with ctrl := y.ctrl ++ [s.fwdRecord read (s.masterPriv m priv)] }) with hu
  have hxs : x.splice.ports = s.splice.ports := by rw [hx', State.updSplice, State.set_splice]; rfl
  have hframe : Chg (Listed [A.SPLICE_FWD_CTL]) (Parts [.splice]) NoMem s u :=
    ((Chg.refl.fresh.set _ _ (by simp)).updSplice _ (by simp)).spUpd _ _ (by simp)
  have heff : f s.fresh = u := hf.trans (fwd_sends hb ha h0 hs hl)
  refine answers_effect f hx heff hframe ⟨?_, ?_, ?_, hframe.framed⟩
  · rw [State.on_seal _ _ (by decide), hu, State.spUpd, on_updSplice, hx', on_updSplice]
    exact State.on_event_same _ (by decide)
  · rw [State.seal_splice]
    rfl
  · rw [State.sp_of_splice (State.seal_splice s u), hu, sp_spUpd_same x (hxs ▸ hport), State.sp, hxs]
    rfl

end

section
variable {s : State} {dt : Nat}

theorem answers_fwdComplete_busy (h : s.on F.SPLICE_FWD_CTL_BUSY = true) :
    Answers (.fwdComplete dt) s fun t =>
      FwdEnded 2 t ∧ Framed (timeRegs ++ [A.SPLICE_FWD_CTL, A.SPLICE_EVT]) [.time, .clk, .mgmt, .splice] s t := by
  set x := s.fresh.advance dt with hx
  have hxb : x.on F.SPLICE_FWD_CTL_BUSY = true := (State.on_of_reg (reg_elapsed s dt (by decide))).trans h
  have hframe : Chg (Listed (timeRegs ++ [A.SPLICE_FWD_CTL, A.SPLICE_EVT])) (Parts [.time, .clk, .mgmt, .splice]) NoMem s (x.fwdEnd 2) :=
    Chg.fwdEnd (((chg_advanced s dt).parts (by simp)).mono (fun a h => listed_mono (by simp) a h) (fun _ h => h) fun _ h => h) 2
      (by simp [Listed]) (by simp [Listed]) (by simp)
  have heff : x.when (x.on F.SPLICE_FWD_CTL_BUSY) (fun s => s.fwdEnd 2) = x.fwdEnd 2 := by
    rw [hxb]
    rfl
  exact answers_effect _ rfl heff hframe ⟨fwdEnd_shows s x (by decide), hframe.framed⟩

theorem answers_fwdComplete_idle (h : s.on F.SPLICE_FWD_CTL_BUSY = false) :
    Answers (.fwdComplete dt) s fun t => Framed timeRegs [.time, .clk, .mgmt] s t := by
  set x := s.fresh.advance dt with hx
  have hxb : x.on F.SPLICE_FWD_CTL_BUSY = false := (State.on_of_reg (reg_elapsed s dt (by decide))).trans h
  have heff : x.when (x.on F.SPLICE_FWD_CTL_BUSY) (fun s => s.fwdEnd 2) = x := by
    rw [hxb]
    rfl
  exact answers_effect _ rfl heff (chg_advanced s dt) (chg_advanced s dt).framed

end

/-! ### A completion that arrives (R391) -/

section
variable {R : Nat → Prop} {P : Part → Prop} {M : Nat → Prop} {s t : State}

theorem Chg.sendLate (h : Chg R P M s t) (hl : R (A.SPLICE_PASS_LATE 0)) (hs : R (A.SPLICE_SAT 0)) (he : R A.SPLICE_EVT) (hp : P .splice) :
    Chg R P M s (t.sendLate 0) := by
  unfold State.sendLate
  split
  · exact h
  · exact Chg.out (Chg.spUpd (h.bump _ _ hl hs (by rintro f ⟨⟩; exact he)) _ _ hp) _

theorem Chg.passOn (h : Chg R P M s t) (f : SpliceFrame) (hl : R (A.SPLICE_PASS_LATE 0)) (hs : R (A.SPLICE_SAT 0)) (he : R A.SPLICE_EVT) (hp : P .splice) :
    Chg R P M s (t.passOn 0 f) := by
  unfold State.passOn
  split
  · exact h
  · dsimp only
    exact Chg.ite (fun _ => Chg.out (h.spUpd _ _ hp) _) fun _ => h.sendLate hl hs he hp

end

theorem sendLate_fwd (s : State) : (s.sendLate 0).splice.fwd = s.splice.fwd := by
  unfold State.sendLate
  split
  · rfl
  · rw [State.putOut, State.spUpd, State.updSplice]
    dsimp only
    rw [State.bump_splice]

theorem passOn_fwd (s : State) (f : SpliceFrame) : (s.passOn 0 f).splice.fwd = s.splice.fwd := by
  unfold State.passOn
  split
  · rfl
  · dsimp only
    split
    · rfl
    · exact sendLate_fwd s

section
variable {s : State} {dt r w : Nat} {f : SpliceFrame} {read : Bool}

/-- The frame counted, and kept as the port's last. -/
def State.dnHeard (s : State) (f : SpliceFrame) : State :=
  let x := s.inc (A.SPLICE_FRAMES_RX 1)
  (x.spUpd 1 (fun y => { y with heard := some (f.ef, x.time.up), frame := some f })).passOn 0 f

theorem dnHeard_chg {R : Nat → Prop} (hR : ∀ a ∈ [A.SPLICE_FRAMES_RX 1, A.SPLICE_PASS_LATE 0, A.SPLICE_SAT 0, A.SPLICE_SAT 1, A.SPLICE_EVT], R a) :
    Chg R (Parts [.splice]) NoMem s (s.dnHeard f) := by
  have hp : Parts [.splice] .splice := by simp
  have hsat : R (satOf (A.SPLICE_FRAMES_RX 1)).adr := hR (A.SPLICE_SAT 1) (by simp)
  exact ((Chg.refl.inc _ (hR _ (by simp)) hsat (by rintro g ⟨⟩; exact hR _ (by simp))).spUpd _ _ hp).passOn f (hR _ (by simp)) (hR _ (by simp))
    (hR _ (by simp)) hp

theorem dnHeard_fwd (s : State) (f : SpliceFrame) : (s.dnHeard f).splice.fwd = s.splice.fwd := by
  rw [State.dnHeard, passOn_fwd, State.spUpd, State.updSplice]
  dsimp only
  rw [State.inc_splice]

/-- The stack's size that a leader learns. -/
theorem hearDn_chg (s : State) (f : SpliceFrame) : Chg (· = A.SPLICE_STATUS) (Parts []) NoMem s (s.spliceHearDn f) := by
  unfold State.spliceHearDn
  exact Chg.ite (fun _ => Chg.refl) fun _ => Chg.refl.keep _ _ rfl

theorem hearDn_position (s : State) (f : SpliceFrame) : (s.spliceHearDn f).position = s.position := by
  unfold State.spliceHearDn
  split
  · rfl
  · exact State.fld_keep_free _ (show Fld.free F.SPLICE_STATUS_STACK_SIZE F.SPLICE_STATUS_POSITION = true by decide) _

/-- The frame as an access's completion finds the module. -/
def State.dnTaken (s : State) (f : SpliceFrame) : State := (s.dnHeard f).spliceHearDn f

theorem dnTaken_chg (s : State) (f : SpliceFrame) :
    Chg (· ∈ [A.SPLICE_STATUS, A.SPLICE_FRAMES_RX 1, A.SPLICE_PASS_LATE 0, A.SPLICE_SAT 0, A.SPLICE_SAT 1, A.SPLICE_EVT]) (Parts [.splice]) NoMem s
      (s.dnTaken f) :=
  (dnHeard_chg (by simp)).trans (((hearDn_chg (s.dnHeard f) f).parts (by simp)).mono (fun a h => by simp [h]) (fun _ h => h) fun _ h => h)

/-- A frame on DN that brings one completion, with no EF under way. -/
theorem spliceFrameRx_done {x : State} (hon : x.spliceOn = true) (hup : x.spliceUp 1 = true) (hcrc : f.crcOk = true) (hecho : f.echo = none)
    (hplay : x.play.running = false) (hctrl : f.ctrl = [.done x.position r w]) :
    (if !x.spliceOn || !x.spliceUp 1 then x
      else if !f.crcOk then x.spliceCrcErr 1
      else
        let y := (x.inc (A.SPLICE_FRAMES_RX 1)).takeEcho 1 f.echo
        let z := (y.spUpd 1 (fun a => { a with heard := some (f.ef, y.time.up), frame := some f })).passOn (1 - 1) f
        let z := z.spliceHearDn f
        forL f.ctrl (fun c a => a.ctrlTake 1 c) (z.spliceAudio 1 f)) = (x.dnTaken f).fwdDone r w := by
  have hpos : (x.dnTaken f).position = x.position := by
    have hc : Chg (· ≠ A.SPLICE_STATUS) (Parts [.splice]) NoMem x (x.dnHeard f) := dnHeard_chg (by decide)
    rw [State.dnTaken, hearDn_position]
    exact hc.fld (by simp)
  have hlisten : (x.dnTaken f).spliceListens 1 f = false := by
    rw [State.spliceListens, (dnTaken_chg x f).part .play (by simp), hplay]
    simp only [Bool.false_and]
  have haudio : (x.dnTaken f).spliceAudio 1 f = x.dnTaken f := by
    rw [State.spliceAudio, hlisten, if_neg Bool.false_ne_true]
  rw [hon, hup, hcrc, hecho, hctrl]
  simp only [Bool.not_true, Bool.or_self, Bool.false_eq_true, if_false, State.takeEcho, Nat.sub_self]
  change ((x.dnTaken f).spliceAudio 1 f).ctrlTake 1 (.done x.position r w) = _
  rw [haudio, State.ctrlTake, hpos, if_pos rfl]

theorem answers_spliceFrameRx_done (hon : s.spliceOn = true) (hup : s.spliceUp 1 = true) (hcrc : f.crcOk = true) (hecho : f.echo = none)
    (hplay : s.play.running = false) (hfwd : s.splice.fwd = some read) (hctrl : f.ctrl = [.done s.position r w]) (hr : r < 16) :
    Answers (.spliceFrameRx dt .dn f) s fun t =>
      FwdEnded r t ∧ t.rd A.SPLICE_FWD_DATA = (if read = true ∧ r = 0 then w % 2 ^ 32 else s.rd A.SPLICE_FWD_DATA) := by
  set x := s.fresh.advance dt with hx
  have hxc : Chg (Listed timeRegs) (Parts [.time, .clk, .mgmt]) NoMem s x := chg_advanced s dt
  have hxon : x.spliceOn = true := by
    rw [← hon, State.spliceOn, State.spliceOn, hx, State.blockOk_elapsed, State.unitOn_elapsed]
  have hxup : x.spliceUp 1 = true := (State.on_of_reg (reg_elapsed s dt (by decide))).trans hup
  have hxpos : x.position = s.position := State.fld_eq_of_reg (reg_elapsed s dt (by decide))
  have hxplay : x.play.running = false := by rw [hx, State.advance_play]; exact hplay
  set y := x.dnTaken f with hy
  have hyf : y.splice.fwd = some read := by
    rw [hy, State.dnTaken, (hearDn_chg _ f).part .splice (by simp), dnHeard_fwd, hx, State.advance_splice]
    exact hfwd
  set z := y.when (read && r == 0) (fun a => a.wr A.SPLICE_FWD_DATA w) with hz
  have hyz : Chg (· = A.SPLICE_FWD_DATA) (Parts [.splice]) NoMem y z := Chg.refl.when _ _ fun _ => Chg.refl.wr _ _ rfl
  have heff : y.fwdDone r w = z.fwdEnd r := by rw [State.fwdDone, hyf]
  have hall : Chg AnyReg AnyPart NoMem s (z.fwdEnd r) :=
    hxc.wide.trans ((dnTaken_chg x f).wide.trans (hyz.wide.trans (Chg.refl.fwdEnd r trivial trivial trivial)))
  refine answers_effect _ rfl ((spliceFrameRx_done hxon hxup hcrc hecho hxplay (hxpos ▸ hctrl)).trans heff) hall ⟨fwdEnd_shows s z hr, ?_⟩
  have hend : Chg (fun a => a = A.SPLICE_FWD_CTL ∨ a = A.SPLICE_EVT) (Parts [.splice]) NoMem z (z.fwdEnd r) :=
    Chg.refl.fwdEnd r (.inl rfl) (.inr rfl) (by simp)
  have hyd : y.rd A.SPLICE_FWD_DATA = s.rd A.SPLICE_FWD_DATA := by
    rw [State.rd_eq_of_reg ((dnTaken_chg x f).reg _ (by decide)), State.rd_eq_of_reg (reg_elapsed s dt (by decide))]
  rw [State.rd_seal _ _ (by decide), State.rd_eq_of_reg (hend.reg _ (by decide)), hz]
  by_cases hc : read = true ∧ r = 0
  · obtain ⟨rfl, rfl⟩ := hc
    rw [if_pos ⟨rfl, rfl⟩]
    exact State.rd_wr_same _ _ _
  · have hb : (read && r == 0) = false := by
      rw [Bool.and_eq_false_iff, beq_eq_false_iff_ne, ← Bool.not_eq_true]
      exact not_and_or.mp hc
    rw [if_neg hc, hb]
    exact hyd

end

/-- Forwarded accesses, each form by its lemma. -/
theorem forwardedAccesses : ForwardedAccesses := by
  unfold ForwardedAccesses
  refine ⟨fun s m priv hd hb => ⟨?_, ?_⟩, fun s m priv hd hb ha => ⟨?_, ?_⟩, fun s m priv hd hb ha hp => ⟨?_, ?_⟩,
    fun s m priv pos hsh hd hb ha hp h0 hs hl => ⟨?_, ?_⟩,
    fun s dt r w f read hon hup hcrc hecho hplay hfwd hctrl hr => answers_spliceFrameRx_done hon hup hcrc hecho hplay hfwd hctrl hr,
    fun s dt h => answers_fwdComplete_busy h, fun s dt h => answers_fwdComplete_idle h⟩
  · exact answers_fwd_busy rfl (fwdWrite_runs hd) hb
  · exact answers_fwd_busy rfl (fwdRead_runs hd) hb
  · exact answers_fwd_ended rfl (fwdWrite_runs hd) (by decide) (fwd_misaligned hb ha)
  · exact answers_fwd_ended rfl (fwdRead_runs hd) (by decide) (fwd_misaligned hb ha)
  · exact answers_fwd_ended rfl (fwdWrite_runs hd) (by decide) (fwd_nowhere hb ha hp)
  · exact answers_fwd_ended rfl (fwdRead_runs hd) (by decide) (fwd_nowhere hb ha hp)
  · exact answers_fwd_sends rfl (fwdWrite_runs hd) hsh hb ha hp h0 hs hl
  · exact answers_fwd_sends rfl (fwdRead_runs hd) hsh hb ha hp h0 hs hl

end Sys2Proof.Machine
end

section
/-! PROOFS. A TDM port that fades, and what its commands leave of the others' registers (R331 to R333). -/

namespace Sys2Proof.Machine

theorem State.tp_of_tdm {s t : State} (h : t.tdm = s.tdm) (n : Nat) : t.tp n = s.tp n := by rw [State.tp, h, State.tp]

theorem State.tp_tpUpd_same {s : State} {n : Nat} (h : n < s.tdm.length) (f : TdmPort → TdmPort) : (s.tpUpd n f).tp n = f (s.tp n) := by
  simp only [State.tpUpd, State.tp, getAt, updAt, List.getD_eq_getElem?_getD, List.getElem?_modify_eq]
  rw [List.getElem?_eq_getElem h]
  rfl

theorem State.tdm_tpUpd_length (s : State) (n : Nat) (f : TdmPort → TdmPort) : (s.tpUpd n f).tdm.length = s.tdm.length := List.length_modify _ _ _

theorem tdm_notMem {a : Nat} (h : 0xa0000 ≤ a ∧ a < 0xb0000) : a ∉ summaries := notMem_summaries (by omega)

/-- A field that counting at an address leaves: in another register, or apart from the saturation event. -/
def bumpApart (g : Fld) (b : Nat) : Bool := g.adr != b && g.adr != (satOf b).adr && (satOf b).event.all fun f => f.free g

theorem State.fld_bump_apart {s : State} {g : Fld} {b : Nat} (n : Nat) (h : bumpApart g b = true) : (s.bump b n).fld g = s.fld g := by
  simp only [bumpApart, Bool.and_eq_true, bne_iff_ne, ne_eq] at h
  obtain ⟨⟨h1, h2⟩, h3⟩ := h
  have hput (x : Word) : ((s.wr b 0xFFFFFFFF).putReg (satOf b).adr x).fld g = s.fld g :=
    State.fld_eq_of_reg ((State.reg_putReg_ne _ _ h2).trans (State.reg_wr_ne _ _ h1))
  unfold State.bump
  dsimp only
  split
  · exact State.fld_wr_ne _ _ h1
  · split
    · rfl
    · split
      · exact hput _
      · next f hf =>
        rw [hf, Option.all_some] at h3
        rw [State.fld_event_free _ h3]
        exact hput _

/-- The registers that a port's fade may change. -/
abbrev portRegs (n : Nat) : List Nat := [A.TDM_STATUS n, A.TDM_FADES n, A.TDM_SAT n, A.TDM_SENSE_OK, A.TDM_EVT]

theorem Chg.tdmFade {R : Nat → Prop} {P : Part → Prop} {M : Nat → Prop} {s t : State} (h : Chg R P M s t) {n : Nat} (hn : n < 8)
    (hr : ∀ a ∈ portRegs n, R a) (hp : P .tdm) : Chg R P M s (t.tdmFade n) :=
  Chg.senseDrop (h.tdmFadeOnly hn (fun a ha => hr a (by simp only [fadeRegs, List.mem_cons, List.not_mem_nil, or_false] at ha ⊢; omega)) hp) n
    (hr _ (by simp)) hp

section
variable {y : State} {n : Nat}

/-- The port as a fade from Full leaves it. -/
def State.fadedPort (y : State) (n : Nat) : TdmPort :=
  { y.tp n with g0 := 2 ^ 30, fadeUp := y.time.up, fadeLen := y.fadeMs * msU, clean := 0, dirty := true, senseClean := 0 }

theorem tdmFadeOnly_full (h : y.fld (F.TDM_STATUS_GAIN_STATE n) = 0) : y.tdmFadeOnly n =
    ((y.tpUpd n (fun p => { p with g0 := 2 ^ 30, fadeUp := y.time.up, fadeLen := y.fadeMs * msU, clean := 0, dirty := true })).set
      (F.TDM_STATUS_GAIN_STATE n) 1).inc (A.TDM_FADES n) := by
  have hg : min (y.tdmGain n) (2 ^ 30) = 2 ^ 30 := by
    rw [State.tdmGain, if_pos (show y.fld (F.TDM_STATUS_GAIN_STATE n) = gainFull from h), Nat.min_self]
  have hl : y.fadeTime (2 ^ 30) = y.fadeMs * msU := Nat.mul_div_cancel _ (by decide)
  rw [State.tdmFadeOnly]
  dsimp only
  rw [if_pos (.inl h), hg, hl]
  rfl

theorem tp_tdmFade (h : y.fld (F.TDM_STATUS_GAIN_STATE n) = 0) (hn : n < y.tdm.length) : (y.tdmFade n).tp n = y.fadedPort n := by
  set z := y.tpUpd n (fun p => { p with g0 := 2 ^ 30, fadeUp := y.time.up, fadeLen := y.fadeMs * msU, clean := 0, dirty := true }) with hz
  have hw : (y.tdmFadeOnly n).tdm = z.tdm := by rw [tdmFadeOnly_full h, State.inc_tdm, State.set_tdm]
  have hlen : n < (y.tdmFadeOnly n).tdm.length := by rw [hw, hz, State.tdm_tpUpd_length]; exact hn
  rw [State.tdmFade, State.senseDrop, State.tp_of_tdm (State.setBit_tdm _ _ _ _), State.tp_tpUpd_same hlen, State.tp_of_tdm hw, hz,
    State.tp_tpUpd_same hn]
  rfl

theorem tdmFade_length (h : y.fld (F.TDM_STATUS_GAIN_STATE n) = 0) : (y.tdmFade n).tdm.length = y.tdm.length := by
  rw [State.tdmFade, State.senseDrop, State.setBit_tdm, State.tdm_tpUpd_length, tdmFadeOnly_full h, State.inc_tdm, State.set_tdm, State.tdm_tpUpd_length]

/-- A field that the fade leaves. -/
theorem fld_tdmFade (h : y.fld (F.TDM_STATUS_GAIN_STATE n) = 0) {f : Fld} (h1 : f.adr ≠ A.TDM_SENSE_OK) (h2 : bumpApart f (A.TDM_FADES n) = true)
    (h3 : Fld.free (F.TDM_STATUS_GAIN_STATE n) f = true) : (y.tdmFade n).fld f = y.fld f := by
  rw [State.tdmFade, State.senseDrop, State.fld_eq_of_reg (State.reg_setBit_ne _ _ _ _ h1), State.fld_tpUpd, tdmFadeOnly_full h,
    State.inc, State.fld_bump_apart 1 h2, State.fld_set_free _ h3, State.fld_tpUpd]

theorem gain_tdmFade (h : y.fld (F.TDM_STATUS_GAIN_STATE n) = 0) (hn : n < 8) : (y.tdmFade n).fld (F.TDM_STATUS_GAIN_STATE n) = 1 := by
  have h1 : bumpApart (F.TDM_STATUS_GAIN_STATE n) (A.TDM_FADES n) = true := by interval_cases n <;> decide
  have h2 : A.TDM_STATUS n ≠ A.TDM_SENSE_OK := by simp only [A.TDM_STATUS, A.TDM_SENSE_OK]; omega
  rw [State.tdmFade, State.senseDrop, State.fld_eq_of_reg (State.reg_setBit_ne _ _ _ _ h2), State.fld_tpUpd, tdmFadeOnly_full h,
    State.inc, State.fld_bump_apart 1 h1]
  exact State.fld_set_same _ rfl 1

theorem fades_tdmFade (h : y.fld (F.TDM_STATUS_GAIN_STATE n) = 0) (hn : n < 8) :
    (y.tdmFade n).rd (A.TDM_FADES n) = min (y.rd (A.TDM_FADES n) + 1) 0xFFFFFFFF := by
  have h1 : bumpOk (A.TDM_FADES n) = true := by interval_cases n <;> decide
  have h2 : A.TDM_FADES n ≠ A.TDM_SENSE_OK := by simp only [A.TDM_FADES, A.TDM_SENSE_OK]; omega
  have h3 : A.TDM_FADES n ≠ A.TDM_STATUS n := by simp only [A.TDM_FADES, A.TDM_STATUS]; omega
  rw [State.tdmFade, State.senseDrop, State.rd_eq_of_reg (State.reg_setBit_ne _ _ _ _ h2), State.rd_eq_of_reg (State.reg_tpUpd _ _ _ _), tdmFadeOnly_full h,
    State.rd_inc_counts h1, State.rd_set_ne _ h3, State.rd_eq_of_reg (State.reg_tpUpd _ _ _ _)]

theorem time_tdmFade (y : State) (n : Nat) : (y.tdmFade n).time = y.time := by
  unfold State.tdmFade State.senseDrop State.tdmFadeOnly
  dsimp only
  rw [State.setBit_time]
  split
  · rw [State.tpUpd]
    dsimp only
    rw [State.inc_time, State.set_time, State.tpUpd]
  · rfl

/-- The port fades from now (R332), as the module shows it. -/
theorem fades_shown {s u : State} (hn : n < 8) (hlen : n < y.tdm.length) (hg : y.fld (F.TDM_STATUS_GAIN_STATE n) = 0) (hms : y.fadeMs = s.fadeMs)
    (hrd : y.rd (A.TDM_FADES n) = s.rd (A.TDM_FADES n)) (hgain : u.fld (F.TDM_STATUS_GAIN_STATE n) = (y.tdmFade n).fld (F.TDM_STATUS_GAIN_STATE n))
    (hg0 : (u.tp n).g0 = ((y.tdmFade n).tp n).g0) (hup : (u.tp n).fadeUp = ((y.tdmFade n).tp n).fadeUp)
    (hfl : (u.tp n).fadeLen = ((y.tdmFade n).tp n).fadeLen) (htime : u.time = y.time)
    (hcnt : u.rd (A.TDM_FADES n) = (y.tdmFade n).rd (A.TDM_FADES n)) : Fades n s (s.seal u) := by
  have hport := tp_tdmFade hg hlen
  have htp : (s.seal u).tp n = u.tp n := State.tp_of_tdm (State.seal_tdm s u) n
  rw [hport] at hg0 hup hfl
  refine ⟨?_, ?_, ?_, ?_, ?_⟩
  · rw [State.fld_seal _ _ (tdmGain_kept hn), hgain, gain_tdmFade hg hn]
  · rw [htp, hg0]
    rfl
  · rw [htp, hup, State.seal_time, htime]
    rfl
  · rw [htp, hfl, ← hms]
    rfl
  · rw [Counts, State.rd_seal _ _ (tdm_notMem (by simp only [A.TDM_FADES]; omega)), hcnt, fades_tdmFade hg hn, hrd]

end

theorem fadeMs_of_reg {s t : State} (h : t.reg A.TDM_FADE_CFG = s.reg A.TDM_FADE_CFG) : t.fadeMs = s.fadeMs := by
  rw [State.fadeMs, State.fld_eq_of_reg h, State.fadeMs]

theorem rampMs_of_reg {s t : State} (h : t.reg A.TDM_FADE_CFG = s.reg A.TDM_FADE_CFG) : t.rampMs = s.rampMs := by
  rw [State.rampMs, State.fld_eq_of_reg h, State.rampMs]

theorem tdm_fld_sealed {s u : State} {f : Fld} (h : 0xa0000 ≤ f.adr ∧ f.adr < 0xb0000) : (s.seal u).fld f = u.fld f := State.fld_seal_of (tdm_notMem h)
theorem tdm_on_sealed {s u : State} {f : Fld} (h : 0xa0000 ≤ f.adr ∧ f.adr < 0xb0000) : (s.seal u).on f = u.on f := State.on_seal_of (tdm_notMem h)
theorem tdm_bitOf_sealed {s u : State} {f : Fld} (h : 0xa0000 ≤ f.adr ∧ f.adr < 0xb0000) (k : Nat) : (s.seal u).bitOf f k = u.bitOf f k :=
  congrArg (Nat.testBit · k) (tdm_fld_sealed h)

theorem port_lt {s : State} {n : Nat} (h : n < s.tdmPorts) : n < 8 := Nat.lt_of_lt_of_le h s.tdmPorts_le

end Sys2Proof.Machine
end

section
/-! PROOFS. Clock supervision, fades done and ramps of a TDM port (R329, R330, R332). -/

namespace Sys2Proof.Machine

section
variable {s : State} {n : Nat}

/-! ### Clocks gone (R329) -/

/-- The port's clocks are noted as gone. -/
def State.clocksLost (s : State) (n : Nat) : State :=
  (((s.set (F.TDM_STATUS_NO_CLOCK n) 1).inc (A.TDM_LOS n)).eventBit F.TDM_EVT_NO_CLOCK n).tpUpd n
    (fun p => { p with causes := p.causes ||| 2 ^ causeNoClock })

theorem noClock_eq (hm : cfgMaster (s.tp n).opCfg = false) (hl : s.portLive n = true) (hc : s.on (F.TDM_STATUS_NO_CLOCK n) = false) :
    s.noClock n = (((s.clocksLost n).tdmFade n).keep (F.TDM_STATUS_RUNNING n) 0).tpUpd n (fun p => { p with clocksGone := true }) := by
  unfold State.noClock
  dsimp only
  rw [hm, hl, hc, if_neg (by decide)]
  rfl

theorem noClock_idle (h : cfgMaster (s.tp n).opCfg = true ∨ s.portLive n = false ∨ s.on (F.TDM_STATUS_NO_CLOCK n) = true) : s.noClock n = s := by
  unfold State.noClock
  dsimp only
  rw [if_pos]
  rcases h with h | h | h <;> simp [h]

theorem tdmLos_sat (hn : n < 8) : (satOf (A.TDM_LOS n)).adr = A.TDM_SAT n ∧ (satOf (A.TDM_LOS n)).event = some F.TDM_EVT_CNT_SAT := by
  interval_cases n <;> exact ⟨rfl, rfl⟩

theorem clocksLost_chg (hn : n < 8) : Chg (Listed [A.TDM_LOS n, A.TDM_STATUS n, A.TDM_SAT n, A.TDM_EVT]) (Parts [.tdm]) NoMem s (s.clocksLost n) := by
  obtain ⟨h1, h2⟩ := tdmLos_sat hn
  refine Chg.tpUpd (Chg.setBit (Chg.inc (Chg.refl.set _ _ (by simp [Listed])) _ (by simp [Listed]) (by rw [h1]; simp [Listed]) ?_) _ _ _ (by simp [Listed])) _ _
    (by simp)
  rw [h2]
  rintro f ⟨⟩
  simp [Listed]

theorem clocksLost_tdm (s : State) (n : Nat) : (s.clocksLost n).tdm = (s.tpUpd n (fun p => { p with causes := p.causes ||| 2 ^ causeNoClock })).tdm := by
  rw [State.clocksLost, State.tpUpd, State.tpUpd]
  dsimp only
  rw [State.eventBit, State.setBit_tdm, State.inc_tdm, State.set_tdm]

theorem clocksLost_fld (hn : n < 8) {f : Fld} (hf : f = F.TDM_STATUS_GAIN_STATE n ∨ f = F.TDM_STATUS_RUNNING n) : (s.clocksLost n).fld f = s.fld f := by
  have h1 : f.adr ≠ A.TDM_EVT := by
    rcases hf with rfl | rfl <;> simp only [A.TDM_STATUS, A.TDM_EVT] <;> omega
  have h2 : bumpApart f (A.TDM_LOS n) = true := by
    rcases hf with rfl | rfl <;> interval_cases n <;> decide
  have h3 : Fld.free (F.TDM_STATUS_NO_CLOCK n) f = true := by
    rcases hf with rfl | rfl <;> simp [Fld.free, Fld.ok, Fld.apart]
  rw [State.clocksLost, State.fld_tpUpd, State.fld_eq_of_reg (State.reg_eventBit_ne _ _ _ h1), State.inc, State.fld_bump_apart 1 h2,
    State.fld_set_free _ h3]

theorem answers_tdmNoClock_lost (hsh : Shaped s) (hn : n < s.tdmPorts) (hl : s.portLive n = true) (hm : cfgMaster (s.tp n).opCfg = false)
    (hc : s.on (F.TDM_STATUS_NO_CLOCK n) = false) (hg : s.fld (F.TDM_STATUS_GAIN_STATE n) = 0) :
    Answers (.tdmNoClock n) s fun t =>
      t.on (F.TDM_STATUS_NO_CLOCK n) = true ∧ t.tdmRunning n = false ∧ Counts s t (A.TDM_LOS n) 1 ∧
      t.bitOf F.TDM_EVT_NO_CLOCK n = true ∧ (t.tp n).causes.testBit causeNoClock = true ∧ (t.tp n).clocksGone = true ∧ Fades n s t ∧
      Framed (A.TDM_LOS n :: portRegs n) [.tdm] s t := by
  have hn8 := port_lt hn
  obtain ⟨-, -, -, -, -, hlen, -⟩ := hsh
  set y := s.fresh.clocksLost n with hy
  have hylen : n < y.tdm.length := by
    rw [hy, clocksLost_tdm, State.tdm_tpUpd_length]
    exact hlen.symm ▸ hn8
  have hyg : y.fld (F.TDM_STATUS_GAIN_STATE n) = 0 := (clocksLost_fld hn8 (.inl rfl)).trans hg
  have hyp : y.tp n = { s.tp n with causes := (s.tp n).causes ||| 2 ^ causeNoClock } := by
    rw [hy, State.tp_of_tdm (clocksLost_tdm s.fresh n), State.tp_tpUpd_same (hlen.symm ▸ hn8)]
    rfl
  set z := (y.tdmFade n).keep (F.TDM_STATUS_RUNNING n) 0 with hz
  set u := z.tpUpd n (fun p => { p with clocksGone := true }) with hu
  have hyc : Chg (Listed [A.TDM_LOS n, A.TDM_STATUS n, A.TDM_SAT n, A.TDM_EVT]) (Parts [.tdm]) NoMem s y := Chg.refl.fresh.trans (clocksLost_chg hn8)
  have hframe : Chg (Listed (A.TDM_LOS n :: portRegs n)) (Parts [.tdm]) NoMem s u :=
    Chg.tpUpd (Chg.keep (Chg.tdmFade (hyc.mono (fun a h => listed_mono (by simp) a h) (fun _ h => h) fun _ h => h) hn8 (fun a ha => .inl (List.mem_cons_of_mem _ ha)) (by simp)) _ _ (by simp [Listed])) _ _ (by simp)
  have hfade : Chg (Listed (portRegs n)) (Parts [.tdm]) NoMem y u :=
    Chg.tpUpd (Chg.keep (Chg.refl.tdmFade hn8 (fun a ha => .inl ha) (by simp)) _ _ (by simp [Listed])) _ _ (by simp)
  have hztdm : z.tdm = (y.tdmFade n).tdm := State.keep_tdm _ _ _
  have hzp : z.tp n = y.fadedPort n := (State.tp_of_tdm hztdm n).trans (tp_tdmFade hyg hylen)
  have hzlen : n < z.tdm.length := by
    rw [hztdm, tdmFade_length hyg]
    exact hylen
  have hup : u.tp n = { y.fadedPort n with clocksGone := true } := by
    rw [hu, State.tp_tpUpd_same hzlen, hzp]
  have hshown : (s.seal u).tp n = u.tp n := State.tp_of_tdm (State.seal_tdm s u) n
  have heff : s.fresh.noClock n = u := noClock_eq hm hl hc
  refine answers_effect _ (State.runIf_true s (decide_eq_true hn) _) heff hframe ⟨?_, ?_, ?_, ?_, ?_, ?_, ?_, hframe.framed⟩
  · have h1 : bumpApart (F.TDM_STATUS_NO_CLOCK n) (A.TDM_FADES n) = true := by interval_cases n <;> decide
    have h2 : bumpApart (F.TDM_STATUS_NO_CLOCK n) (A.TDM_LOS n) = true := by interval_cases n <;> decide
    have h3 : A.TDM_STATUS n ≠ A.TDM_EVT ∧ A.TDM_STATUS n ≠ A.TDM_SENSE_OK := by simp only [A.TDM_STATUS, A.TDM_EVT, A.TDM_SENSE_OK]; omega
    rw [tdm_on_sealed (by simp only [A.TDM_STATUS]; omega), State.on, hu, State.fld_tpUpd, hz,
      State.fld_keep_free _ (by simp [Fld.free, Fld.ok, Fld.apart]), fld_tdmFade hyg h3.2 h1 (by simp [Fld.free, Fld.ok, Fld.apart]), hy, State.clocksLost,
      State.fld_tpUpd, State.fld_eq_of_reg (State.reg_eventBit_ne _ _ _ h3.1), State.inc, State.fld_bump_apart 1 h2, State.fld_set_same _ rfl]
    rfl
  · rw [State.tdmRunning, tdm_on_sealed (by simp only [A.TDM_STATUS]; omega), State.on, hu, State.fld_tpUpd, hz, State.fld_keep_same _ rfl (show 0 < 2 ^ 1 by decide)]
    rfl
  · have h1 : bumpOk (A.TDM_LOS n) = true := by interval_cases n <;> decide
    have h2 : A.TDM_LOS n ≠ A.TDM_EVT ∧ A.TDM_LOS n ≠ A.TDM_STATUS n := by simp only [A.TDM_LOS, A.TDM_EVT, A.TDM_STATUS]; omega
    have h3 : ¬ Listed (portRegs n) (A.TDM_LOS n) := by
      refine not_or.mpr ⟨?_, tdm_notMem (by simp only [A.TDM_LOS]; omega)⟩
      simp only [portRegs, List.mem_cons, List.not_mem_nil, or_false, A.TDM_LOS, A.TDM_STATUS, A.TDM_FADES, A.TDM_SAT, A.TDM_SENSE_OK, A.TDM_EVT]
      omega
    rw [Counts, State.rd_seal _ _ (tdm_notMem (by simp only [A.TDM_LOS]; omega)), State.rd_eq_of_reg (hfade.reg _ h3), hy, State.clocksLost,
      State.rd_eq_of_reg (State.reg_tpUpd _ _ _ _), State.rd_eq_of_reg (State.reg_eventBit_ne _ _ _ h2.1), State.rd_inc_counts h1, State.rd_set_ne _ h2.2]
    rfl
  · have h1 : bumpApart F.TDM_EVT_NO_CLOCK (A.TDM_FADES n) = true := by interval_cases n <;> decide
    have h2 : A.TDM_EVT ≠ A.TDM_STATUS n := by simp only [A.TDM_STATUS, A.TDM_EVT]; omega
    have h3 : Fld.free (F.TDM_STATUS_GAIN_STATE n) F.TDM_EVT_NO_CLOCK = true := by simp [Fld.free, Fld.ok, h2]
    have hsame : u.fld F.TDM_EVT_NO_CLOCK = y.fld F.TDM_EVT_NO_CLOCK := by
      rw [hu, State.fld_tpUpd, hz, State.fld_eq_of_reg (State.reg_keep_ne _ _ _ h2), fld_tdmFade hyg (by decide) h1 h3]
    rw [tdm_bitOf_sealed (by decide), State.bitOf, hsame]
    exact State.bitOf_eventBit_same _ (by decide) (show n < 8 from hn8)
  · rw [hshown, hup]
    simp only [State.fadedPort, hyp, Nat.testBit_or, Nat.testBit_two_pow_self, Bool.or_true]
  · rw [hshown, hup]
  · have hrd : y.rd (A.TDM_FADES n) = s.rd (A.TDM_FADES n) := by
      refine State.rd_eq_of_reg (hyc.reg _ (not_or.mpr ⟨?_, tdm_notMem (by simp only [A.TDM_FADES]; omega)⟩))
      simp only [List.mem_cons, List.not_mem_nil, or_false, A.TDM_LOS, A.TDM_STATUS, A.TDM_FADES, A.TDM_SAT, A.TDM_EVT]
      omega
    have hcfg : y.reg A.TDM_FADE_CFG = s.reg A.TDM_FADE_CFG := by
      refine hyc.reg _ (not_or.mpr ⟨?_, by decide⟩)
      simp only [List.mem_cons, List.not_mem_nil, or_false, A.TDM_LOS, A.TDM_STATUS, A.TDM_FADE_CFG, A.TDM_SAT, A.TDM_EVT]
      omega
    have hk : A.TDM_FADES n ≠ A.TDM_STATUS n := by simp only [A.TDM_STATUS, A.TDM_FADES]; omega
    refine fades_shown hn8 hylen hyg (fadeMs_of_reg hcfg) hrd ?_ ?_ ?_ ?_ ?_ ?_
    · rw [hu, State.fld_tpUpd, hz, State.fld_keep_free _ (by simp [Fld.free, Fld.ok, Fld.apart])]
    · rw [hup, tp_tdmFade hyg hylen]
    · rw [hup, tp_tdmFade hyg hylen]
    · rw [hup, tp_tdmFade hyg hylen]
    · rw [hfade.part .time (by simp)]
    · rw [hu, State.rd_eq_of_reg (State.reg_tpUpd _ _ _ _), hz, State.rd_keep_ne _ hk]

end

end Sys2Proof.Machine
end

section
/-! PROOFS. The rate gate, fades done and ramps of a TDM port (R330, R332). -/

namespace Sys2Proof.Machine

section
variable {s : State} {n mHz : Nat}

/-! ### The rate gate (R330) -/

/-- The rate measured, as RATE shows it. -/
def State.rated (s : State) (n c : Nat) (ppm : Int) : State :=
  (((s.when (s.fld (F.TDM_RATE_CLASS n) != c) (fun s => s.eventBit F.TDM_EVT_RATE_CHG n)).set (F.TDM_RATE_CLASS n) c).set (F.TDM_RATE_PPM n)
    (unsgn 24 ppm)).set (F.TDM_RATE_VALID n) 1

/-- The deviation of a measured rate in ppm. -/
def ratePpm (mHz c : Nat) : Int := if c = 7 then 0 else roundDiv (((mHz : Int) - (rateHz c * 1000 : Nat)) * 1000) (rateHz c)

theorem rated_chg (s : State) (n c : Nat) (ppm : Int) : Chg (Listed [A.TDM_RATE n, A.TDM_EVT]) (Parts []) NoMem s (s.rated n c ppm) := by
  unfold State.rated
  exact (((Chg.refl.when _ _ fun _ => Chg.refl.setBit _ _ _ (by simp [Listed])).set _ _ (by simp [Listed])).set _ _ (by simp [Listed])).set _ _
    (by simp [Listed])

theorem rated_fields (s : State) (n : Nat) {c : Nat} (hc : c < 8) (ppm : Int) : (s.rated n c ppm).fld (F.TDM_RATE_CLASS n) = c ∧
    (s.rated n c ppm).fld (F.TDM_RATE_PPM n) = unsgn 24 ppm % 2 ^ 24 ∧ (s.rated n c ppm).on (F.TDM_RATE_VALID n) = true := by
  refine ⟨?_, ?_, ?_⟩
  · rw [State.rated, State.fld_set_free _ (by simp [Fld.free, Fld.ok, Fld.apart]), State.fld_set_free _ (by simp [Fld.free, Fld.ok, Fld.apart]),
      State.fld_set_same _ rfl]
    exact Nat.mod_eq_of_lt hc
  · rw [State.rated, State.fld_set_free _ (by simp [Fld.free, Fld.ok, Fld.apart]), State.fld_set_same _ rfl]
    rfl
  · exact State.on_event_same _ rfl

theorem rated_event (hn : n < 8) {c : Nat} (ppm : Int) (h : s.fld (F.TDM_RATE_CLASS n) ≠ c) : (s.rated n c ppm).bitOf F.TDM_EVT_RATE_CHG n = true := by
  have hne : A.TDM_EVT ≠ A.TDM_RATE n := by simp only [A.TDM_EVT, A.TDM_RATE]; omega
  rw [State.bitOf, State.rated, State.fld_set_ne _ _ hne, State.fld_set_ne _ _ hne, State.fld_set_ne _ _ hne, bne_iff_ne.mpr h, State.when_true]
  exact State.bitOf_eventBit_same _ (by decide) (show n < 8 from hn)

theorem rateGate_master (hl : s.portLive n = true) (hm : cfgMaster (s.tp n).opCfg = true) :
    s.rateGate n mHz = s.rated n (s.fld F.CLK_MEDIA_CFG_RATE) 0 := by
  unfold State.rateGate
  dsimp only
  rw [hl, hm]
  simp only [Bool.not_true, Bool.false_eq_true, if_false, if_true, true_or]
  rfl

theorem rateGate_slave (hl : s.portLive n = true) (hm : cfgMaster (s.tp n).opCfg = false) :
    s.rateGate n mHz =
      let x := s.rated n (rateClass mHz) (ratePpm mHz (rateClass mHz))
      if rateClass mHz = s.fld F.CLK_MEDIA_CFG_RATE then
        let y := x.when (x.on (F.TDM_STATUS_WRONG_RATE n)) (fun s => (s.set (F.TDM_STATUS_WRONG_RATE n) 0).tdmCauseOff n causeWrongRate)
        y.when (y.on (F.TDM_STATUS_NO_CLOCK n) && !(y.tp n).clocksGone) (fun s =>
          ((s.set (F.TDM_STATUS_NO_CLOCK n) 0).tdmCauseOff n causeNoClock).tpUpd n (fun p => { p with inBuf := centred (s.zeroSlots n) }))
      else if x.on (F.TDM_STATUS_WRONG_RATE n) then x
      else (x.set (F.TDM_STATUS_WRONG_RATE n) 1).tdmCauseOn n causeWrongRate := by
  unfold State.rateGate
  dsimp only
  rw [hl, hm]
  simp only [Bool.not_true, Bool.false_eq_true, if_false, false_or]
  rfl

theorem rateClass_lt (mHz : Nat) : rateClass mHz < 8 := by
  unfold rateClass
  cases h : (List.range 6).find? (fun c => Nat.ble (rateHz c * 999) mHz && Nat.ble mHz (rateHz c * 1001)) with
  | none => decide
  | some c =>
    have hc := List.mem_range.mp (List.mem_of_find?_eq_some h)
    change c < 8
    omega

theorem answers_tdmRateGate_master (hn : n < s.tdmPorts) (hl : s.portLive n = true) (hm : cfgMaster (s.tp n).opCfg = true) :
    Answers (.tdmRateGate n mHz) s fun t =>
      t.fld (F.TDM_RATE_CLASS n) = s.fld F.CLK_MEDIA_CFG_RATE ∧ t.fld (F.TDM_RATE_PPM n) = 0 ∧ t.on (F.TDM_RATE_VALID n) = true ∧
      (s.fld (F.TDM_RATE_CLASS n) ≠ s.fld F.CLK_MEDIA_CFG_RATE → t.bitOf F.TDM_EVT_RATE_CHG n = true) ∧
      Framed [A.TDM_RATE n, A.TDM_EVT] [] s t := by
  have hn8 := port_lt hn
  set u := s.fresh.rated n (s.fld F.CLK_MEDIA_CFG_RATE) 0 with hu
  have hframe : Chg (Listed [A.TDM_RATE n, A.TDM_EVT]) (Parts []) NoMem s u := Chg.refl.fresh.trans (rated_chg _ _ _ _)
  have hw : 0xa0000 ≤ A.TDM_RATE n ∧ A.TDM_RATE n < 0xb0000 := by simp only [A.TDM_RATE]; omega
  have hlt : s.fld F.CLK_MEDIA_CFG_RATE < 8 := s.fld_lt _
  obtain ⟨h1, h2, h3⟩ := rated_fields s.fresh n hlt 0
  refine answers_effect _ (State.runIf_true s (decide_eq_true hn) _) (rateGate_master hl hm) hframe ⟨?_, ?_, ?_, fun h => ?_, hframe.framed⟩
  · rw [tdm_fld_sealed hw]
    exact h1
  · rw [tdm_fld_sealed hw]
    exact h2
  · rw [tdm_on_sealed hw]
    exact h3
  · rw [tdm_bitOf_sealed (by decide)]
    exact rated_event hn8 0 h

theorem answers_tdmRateGate_wrong (hsh : Shaped s) (hn : n < s.tdmPorts) (hl : s.portLive n = true) (hm : cfgMaster (s.tp n).opCfg = false)
    (hr : rateClass mHz ≠ s.fld F.CLK_MEDIA_CFG_RATE) (hw : s.on (F.TDM_STATUS_WRONG_RATE n) = false)
    (hg : s.fld (F.TDM_STATUS_GAIN_STATE n) = 0) :
    Answers (.tdmRateGate n mHz) s fun t =>
      t.fld (F.TDM_RATE_CLASS n) = rateClass mHz ∧ t.on (F.TDM_STATUS_WRONG_RATE n) = true ∧
      (t.tp n).causes.testBit causeWrongRate = true ∧ Fades n s t ∧ Framed (A.TDM_RATE n :: portRegs n) [.tdm] s t := by
  have hn8 := port_lt hn
  obtain ⟨-, -, -, -, -, hlen, -⟩ := hsh
  set x := s.fresh.rated n (rateClass mHz) (ratePpm mHz (rateClass mHz)) with hx
  have hxf := rated_fields s.fresh n (rateClass_lt mHz) (ratePpm mHz (rateClass mHz))
  rw [← hx] at hxf
  have hxc : Chg (Listed [A.TDM_RATE n, A.TDM_EVT]) (Parts []) NoMem s x := Chg.refl.fresh.trans (rated_chg _ _ _ _)
  have hxtdm : x.tdm = s.tdm := hxc.part .tdm (by simp)
  have hkept {a : Nat} (h : a ≠ A.TDM_RATE n ∧ a ≠ A.TDM_EVT ∧ a ∉ summaries) : x.reg a = s.reg a := by
    refine hxc.reg _ (not_or.mpr ⟨?_, h.2.2⟩)
    simp only [List.mem_cons, List.not_mem_nil, or_false, not_or]
    exact ⟨h.1, h.2.1⟩
  have hstat : x.reg (A.TDM_STATUS n) = s.reg (A.TDM_STATUS n) :=
    hkept ⟨by simp only [A.TDM_STATUS, A.TDM_RATE]; omega, by simp only [A.TDM_STATUS, A.TDM_EVT]; omega, tdm_notMem (by simp only [A.TDM_STATUS]; omega)⟩
  set y := (x.set (F.TDM_STATUS_WRONG_RATE n) 1).tpUpd n (fun p => { p with causes := p.causes ||| 2 ^ causeWrongRate }) with hy
  have hyg : y.fld (F.TDM_STATUS_GAIN_STATE n) = 0 := by
    rw [hy, State.fld_tpUpd, State.fld_set_free _ (by simp [Fld.free, Fld.ok, Fld.apart]), State.fld_eq_of_reg (f := F.TDM_STATUS_GAIN_STATE n) hstat, hg]
  have hxset : (x.set (F.TDM_STATUS_WRONG_RATE n) 1).tdm = s.tdm := (State.set_tdm _ _ _).trans hxtdm
  have hylen : n < y.tdm.length := by
    rw [hy, State.tdm_tpUpd_length, hxset, hlen]
    exact hn8
  have hyp : y.tp n = { s.tp n with causes := (s.tp n).causes ||| 2 ^ causeWrongRate } := by
    have hxlen : n < (x.set (F.TDM_STATUS_WRONG_RATE n) 1).tdm.length := by
      rw [hxset, hlen]
      exact hn8
    rw [hy, State.tp_tpUpd_same hxlen, State.tp_of_tdm hxset]
  have hreg {a : Nat} (h : a ≠ A.TDM_STATUS n) : y.reg a = x.reg a := by
    rw [hy, State.reg_tpUpd, State.reg_set_ne _ _ _ h]
  have heff : s.fresh.rateGate n mHz = y.tdmFade n := by
    have hr' : rateClass mHz ≠ s.fresh.fld F.CLK_MEDIA_CFG_RATE := hr
    have hxw : x.on (F.TDM_STATUS_WRONG_RATE n) = false := (State.on_of_reg hstat).trans hw
    rw [rateGate_slave (s := s.fresh) hl hm]
    dsimp only
    rw [← hx, if_neg hr', hxw, if_neg Bool.false_ne_true]
    rfl
  have hframe : Chg (Listed (A.TDM_RATE n :: portRegs n)) (Parts [.tdm]) NoMem s (y.tdmFade n) :=
    Chg.tdmFade (Chg.tpUpd (Chg.set ((hxc.parts (by simp)).mono (fun a h => listed_mono (by simp) a h) (fun _ h => h) fun _ h => h) _ _
      (by simp [Listed])) _ _ (by simp)) hn8 (fun a ha => .inl (List.mem_cons_of_mem _ ha)) (by simp)
  have hfade : Chg (Listed (portRegs n)) (Parts [.tdm]) NoMem y (y.tdmFade n) := Chg.refl.tdmFade hn8 (fun a ha => .inl ha) (by simp)
  have hrate : A.TDM_RATE n ∉ portRegs n := by
    simp only [portRegs, List.mem_cons, List.not_mem_nil, or_false, A.TDM_RATE, A.TDM_STATUS, A.TDM_FADES, A.TDM_SAT, A.TDM_SENSE_OK, A.TDM_EVT]
    omega
  have hrs : A.TDM_RATE n ≠ A.TDM_STATUS n := by simp only [A.TDM_RATE, A.TDM_STATUS]; omega
  have hrate' : A.TDM_RATE n ∉ summaries := tdm_notMem (by simp only [A.TDM_RATE]; omega)
  refine answers_effect _ (State.runIf_true s (decide_eq_true hn) _) heff hframe ⟨?_, ?_, ?_, ?_, hframe.framed⟩
  · rw [State.fld_seal_of (f := F.TDM_RATE_CLASS n) hrate', hfade.fld (g := F.TDM_RATE_CLASS n) (not_or.mpr ⟨hrate, hrate'⟩),
      show y.fld (F.TDM_RATE_CLASS n) = x.fld (F.TDM_RATE_CLASS n) from State.fld_eq_of_reg (hreg hrs)]
    exact hxf.1
  · have h1 : bumpApart (F.TDM_STATUS_WRONG_RATE n) (A.TDM_FADES n) = true := by interval_cases n <;> decide
    rw [tdm_on_sealed (by simp only [A.TDM_STATUS]; omega), State.on,
      fld_tdmFade hyg (by simp only [A.TDM_STATUS, A.TDM_SENSE_OK]; omega) h1 (by simp [Fld.free, Fld.ok, Fld.apart]), hy, State.fld_tpUpd,
      State.fld_set_same _ rfl]
    rfl
  · rw [State.tp_of_tdm (State.seal_tdm s _), tp_tdmFade hyg hylen]
    simp only [State.fadedPort, hyp, Nat.testBit_or, Nat.testBit_two_pow_self, Bool.or_true]
  · have hcfg : y.reg A.TDM_FADE_CFG = s.reg A.TDM_FADE_CFG :=
      (hreg (by simp only [A.TDM_FADE_CFG, A.TDM_STATUS]; omega)).trans (hkept ⟨by simp only [A.TDM_FADE_CFG, A.TDM_RATE]; omega, by decide, by decide⟩)
    have hcnt : y.reg (A.TDM_FADES n) = s.reg (A.TDM_FADES n) :=
      (hreg (by simp only [A.TDM_FADES, A.TDM_STATUS]; omega)).trans (hkept ⟨by simp only [A.TDM_FADES, A.TDM_RATE]; omega,
        by simp only [A.TDM_FADES, A.TDM_EVT]; omega, tdm_notMem (by simp only [A.TDM_FADES]; omega)⟩)
    exact fades_shown hn8 hylen hyg (fadeMs_of_reg hcfg) (State.rd_eq_of_reg hcnt) rfl rfl rfl rfl (time_tdmFade y n) rfl

theorem answers_tdmRateGate_right (hsh : Shaped s) (hn : n < s.tdmPorts) (hl : s.portLive n = true) (hm : cfgMaster (s.tp n).opCfg = false)
    (hr : rateClass mHz = s.fld F.CLK_MEDIA_CFG_RATE) (hw : s.on (F.TDM_STATUS_WRONG_RATE n) = true) (hc : s.on (F.TDM_STATUS_NO_CLOCK n) = false) :
    Answers (.tdmRateGate n mHz) s fun t =>
      t.fld (F.TDM_RATE_CLASS n) = rateClass mHz ∧ t.on (F.TDM_STATUS_WRONG_RATE n) = false ∧
      (t.tp n).causes.testBit causeWrongRate = false ∧
      t.fld (F.TDM_STATUS_GAIN_STATE n) = s.fld (F.TDM_STATUS_GAIN_STATE n) ∧
      Framed [A.TDM_RATE n, A.TDM_EVT, A.TDM_STATUS n] [.tdm] s t := by
  have hn8 := port_lt hn
  obtain ⟨-, -, -, -, -, hlen, -⟩ := hsh
  set x := s.fresh.rated n (rateClass mHz) (ratePpm mHz (rateClass mHz)) with hx
  have hxf := rated_fields s.fresh n (rateClass_lt mHz) (ratePpm mHz (rateClass mHz))
  rw [← hx] at hxf
  have hxc : Chg (Listed [A.TDM_RATE n, A.TDM_EVT]) (Parts []) NoMem s x := Chg.refl.fresh.trans (rated_chg _ _ _ _)
  have hxtdm : x.tdm = s.tdm := hxc.part .tdm (by simp)
  have hstat : x.reg (A.TDM_STATUS n) = s.reg (A.TDM_STATUS n) := by
    refine hxc.reg _ (not_or.mpr ⟨?_, tdm_notMem (by simp only [A.TDM_STATUS]; omega)⟩)
    simp only [List.mem_cons, List.not_mem_nil, or_false, A.TDM_STATUS, A.TDM_RATE, A.TDM_EVT]
    omega
  have hr' : rateClass mHz = s.fresh.fld F.CLK_MEDIA_CFG_RATE := hr
  have hrs : A.TDM_RATE n ≠ A.TDM_STATUS n := by simp only [A.TDM_RATE, A.TDM_STATUS]; omega
  set u := (x.set (F.TDM_STATUS_WRONG_RATE n) 0).tdmCauseOff n causeWrongRate with hu
  have hfree {f : Fld} (h : Fld.free (F.TDM_STATUS_WRONG_RATE n) f = true) : u.fld f = x.fld f := by
    rw [hu, State.tdmCauseOff, State.fld_tpUpd, State.fld_set_free _ h]
  have heff : s.fresh.rateGate n mHz = u := by
    have hxw : x.on (F.TDM_STATUS_WRONG_RATE n) = true := (State.on_of_reg hstat).trans hw
    have hxn : u.on (F.TDM_STATUS_NO_CLOCK n) = false := by
      rw [State.on, hfree (by simp [Fld.free, Fld.ok, Fld.apart]), State.fld_eq_of_reg (f := F.TDM_STATUS_NO_CLOCK n) hstat]
      exact hc
    rw [rateGate_slave (s := s.fresh) hl hm]
    dsimp only
    rw [← hx, if_pos hr', hxw, State.when_true, ← hu, hxn, Bool.false_and, State.when_false]
  have hframe : Chg (Listed [A.TDM_RATE n, A.TDM_EVT, A.TDM_STATUS n]) (Parts [.tdm]) NoMem s u :=
    Chg.tpUpd (Chg.set ((hxc.parts (by simp)).mono (fun a h => listed_mono (by simp) a h) (fun _ h => h) fun _ h => h) _ _ (by simp [Listed])) _ _ (by simp)
  have hw10 : 0xa0000 ≤ A.TDM_STATUS n ∧ A.TDM_STATUS n < 0xb0000 := by simp only [A.TDM_STATUS]; omega
  refine answers_effect _ (State.runIf_true s (decide_eq_true hn) _) heff hframe ⟨?_, ?_, ?_, ?_, hframe.framed⟩
  · rw [tdm_fld_sealed (by simp only [A.TDM_RATE]; omega)]
    rw [hu, State.tdmCauseOff, State.fld_tpUpd, State.fld_set_ne (f := F.TDM_STATUS_WRONG_RATE n) (g := F.TDM_RATE_CLASS n) _ _ hrs]
    exact hxf.1
  · rw [tdm_on_sealed hw10, State.on, hu, State.tdmCauseOff, State.fld_tpUpd, State.fld_set_same _ rfl]
    rfl
  · have hxset : n < (x.set (F.TDM_STATUS_WRONG_RATE n) 0).tdm.length := by
      rw [State.set_tdm, hxtdm, hlen]
      exact hn8
    rw [State.tp_of_tdm (State.seal_tdm s _), hu, State.tdmCauseOff, State.tp_tpUpd_same hxset]
    simp [testBit_clearBits]
  · rw [tdm_fld_sealed hw10, hfree (by simp [Fld.free, Fld.ok, Fld.apart]), State.fld_eq_of_reg (f := F.TDM_STATUS_GAIN_STATE n) hstat]

/-! ### Fades done and ramps (R332) -/

theorem answers_tdmFadeComplete (dt : Nat) (hsh : Shaped s) (hn : n < s.tdmPorts) (hg : s.fld (F.TDM_STATUS_GAIN_STATE n) = 1) :
    Answers (.tdmFadeComplete n dt) s fun t =>
      t.fld (F.TDM_STATUS_GAIN_STATE n) = 2 ∧ (t.tp n).clean = 0 ∧ (t.tp n).dirty = true ∧
      Framed (timeRegs ++ [A.TDM_STATUS n]) [.time, .clk, .mgmt, .tdm] s t := by
  have hn8 := port_lt hn
  obtain ⟨-, -, -, -, -, hlen, -⟩ := hsh
  set x := s.fresh.advance dt with hx
  have hxg : x.fld (F.TDM_STATUS_GAIN_STATE n) = gainFading :=
    (State.fld_eq_of_reg (reg_elapsed s dt (notMem_timeRegs (by simp only [A.TDM_STATUS]; omega)))).trans hg
  have hxlen : n < (x.set (F.TDM_STATUS_GAIN_STATE n) gainSilent).tdm.length := by
    rw [State.set_tdm, hx, State.advance_tdm]
    exact hlen.symm ▸ hn8
  set u := (x.set (F.TDM_STATUS_GAIN_STATE n) gainSilent).tpUpd n (fun p => { p with
      clean := 0, dirty := true, testing := p.testing || p.causes.testBit causeTest }) with hu
  have heff : x.tdmFadeDone n = u := by rw [State.tdmFadeDone, if_pos hxg]
  have hframe : Chg (Listed (timeRegs ++ [A.TDM_STATUS n])) (Parts [.time, .clk, .mgmt, .tdm]) NoMem s u :=
    Chg.tpUpd (Chg.set (((chg_advanced s dt).parts (by simp)).mono (fun a h => listed_mono (by simp) a h) (fun _ h => h) fun _ h => h) _ _
      (by simp [Listed])) _ _ (by simp)
  refine answers_effect _ (State.runIf_true s (decide_eq_true hn) _) heff hframe ⟨?_, ?_, ?_, hframe.framed⟩
  · rw [tdm_fld_sealed (by simp only [A.TDM_STATUS]; omega), hu, State.fld_tpUpd, State.fld_set_same _ rfl]
    rfl
  · rw [State.tp_of_tdm (State.seal_tdm s _), hu, State.tp_tpUpd_same hxlen]
  · rw [State.tp_of_tdm (State.seal_tdm s _), hu, State.tp_tpUpd_same hxlen]

theorem answers_tdmRampStart (hsh : Shaped s) (hn : n < s.tdmPorts) (hg : s.fld (F.TDM_STATUS_GAIN_STATE n) = 2) (hc : 2 ≤ (s.tp n).clean) :
    Answers (.tdmRampStart n) s fun t =>
      t.fld (F.TDM_STATUS_GAIN_STATE n) = 3 ∧ (t.tp n).fadeUp = s.time.up ∧ (t.tp n).fadeLen = s.rampMs * msU ∧
      Framed [A.TDM_STATUS n] [.tdm] s t := by
  have hn8 := port_lt hn
  obtain ⟨-, -, -, -, -, hlen, -⟩ := hsh
  set x := s.fresh.set (F.TDM_STATUS_GAIN_STATE n) gainRamping with hx
  have hxlen : n < x.tdm.length := by
    rw [hx, State.set_tdm]
    exact hlen.symm ▸ hn8
  set u := x.tpUpd n (fun p => { p with fadeUp := s.fresh.time.up, fadeLen := s.fresh.rampMs * msU }) with hu
  have heff : s.fresh.tdmRampStart n = u := by
    have hc' : s.fresh.fld (F.TDM_STATUS_GAIN_STATE n) = gainSilent ∧ 2 ≤ (s.fresh.tp n).clean := ⟨hg, hc⟩
    rw [State.tdmRampStart, if_pos hc']
  have hframe : Chg (Listed [A.TDM_STATUS n]) (Parts [.tdm]) NoMem s u :=
    Chg.tpUpd (Chg.refl.fresh.set _ _ (by simp [Listed])) _ _ (by simp)
  refine answers_effect _ (State.runIf_true s (decide_eq_true hn) _) heff hframe ⟨?_, ?_, ?_, hframe.framed⟩
  · rw [tdm_fld_sealed (by simp only [A.TDM_STATUS]; omega), hu, State.fld_tpUpd, hx, State.fld_set_same _ rfl]
    rfl
  · rw [State.tp_of_tdm (State.seal_tdm s _), hu, State.tp_tpUpd_same hxlen]
    rfl
  · rw [State.tp_of_tdm (State.seal_tdm s _), hu, State.tp_tpUpd_same hxlen]
    rfl

theorem untouched_tdmRampStart (hn : n < s.tdmPorts) (h : s.fld (F.TDM_STATUS_GAIN_STATE n) ≠ 2 ∨ (s.tp n).clean < 2) :
    Untouched (.tdmRampStart n) s := by
  refine untouched_effect _ (State.runIf_true s (decide_eq_true hn) _) (if_neg ?_)
  rintro ⟨h1, h2⟩
  rcases h with h | h
  · exact h h1
  · exact absurd h2 (Nat.not_le.mpr h)

theorem untouched_tdmNoClock (hn : n < s.tdmPorts)
    (h : cfgMaster (s.tp n).opCfg = true ∨ s.portLive n = false ∨ s.on (F.TDM_STATUS_NO_CLOCK n) = true) : Untouched (.tdmNoClock n) s :=
  untouched_effect _ (State.runIf_true s (decide_eq_true hn) _) (noClock_idle (s := s.fresh) h)

theorem answers_tdmRampComplete (dt : Nat) (hn : n < s.tdmPorts) (hg : s.fld (F.TDM_STATUS_GAIN_STATE n) = 3) :
    Answers (.tdmRampComplete n dt) s fun t =>
      t.fld (F.TDM_STATUS_GAIN_STATE n) = 0 ∧ Framed (timeRegs ++ [A.TDM_STATUS n]) [.time, .clk, .mgmt] s t := by
  have hn8 := port_lt hn
  set x := s.fresh.advance dt with hx
  have hxg : x.fld (F.TDM_STATUS_GAIN_STATE n) = gainRamping :=
    (State.fld_eq_of_reg (reg_elapsed s dt (notMem_timeRegs (by simp only [A.TDM_STATUS]; omega)))).trans hg
  have heff : x.tdmRampDone n = x.set (F.TDM_STATUS_GAIN_STATE n) gainFull := by rw [State.tdmRampDone, if_pos hxg]
  have hframe : Chg (Listed (timeRegs ++ [A.TDM_STATUS n])) (Parts [.time, .clk, .mgmt]) NoMem s (x.set (F.TDM_STATUS_GAIN_STATE n) gainFull) :=
    Chg.set ((chg_advanced s dt).mono (fun a h => listed_mono (by simp) a h) (fun _ h => h) fun _ h => h) _ _ (by simp [Listed])
  refine answers_effect _ (State.runIf_true s (decide_eq_true hn) _) heff hframe ⟨?_, hframe.framed⟩
  rw [tdm_fld_sealed (by simp only [A.TDM_STATUS]; omega), State.fld_set_same _ rfl]
  rfl

end

end Sys2Proof.Machine
end

section
/-! PROOFS. TDM port configuration, maps, mute and loopback written (R331, R333, R334, R336). -/

namespace Sys2Proof.Machine

/-! ### The registers and the rules behind them -/

theorem tdmCfg_stores {v : Variant} {n : Nat} (hn : n < v.pick 8 4 2) : StoresAt v (A.TDM_PORT_CFG n) := by
  cases v <;> (replace hn : n < _ := hn; simp only [Variant.pick] at hn; interval_cases n <;> decide)

theorem tdmCtl_offered {v : Variant} {n : Nat} (hn : n < v.pick 8 4 2) : OffersAt v (F.TDM_CTL_MUTE n) ∧ OffersAt v (F.TDM_CTL_LOOP n) := by
  cases v <;> (replace hn : n < _ := hn; simp only [Variant.pick] at hn; interval_cases n <;> decide)

theorem tdmMap_stores {v : Variant} {n k : Nat} (hn : n < v.pick 8 4 2) (hk : k < 32) :
    StoresAt v (A.TDM_OUT_MAP n k) ∧ StoresAt v (A.TDM_IN_MAP n k) := by
  have hc : v.pick 8 4 2 ≤ 8 := by cases v <;> decide
  have hpage {a : Nat} (h : a / 0x10000 = 10) : rowsAt v a = rowsTDM0 v := by
    unfold rowsAt
    rw [h]
    rfl
  constructor
  · refine storesAt_of_plain (by simp only [A.TDM_OUT_MAP]; omega) (by simp only [A.TDM_OUT_MAP]; omega) (by simp only [A.TDM_OUT_MAP]; omega) ?_
    rw [rowAt, hpage (by simp only [A.TDM_OUT_MAP]; omega), rowsTDM0, A.TDM_OUT_MAP]
    generalize v.pick 8 4 2 = c at hn hc ⊢
    simp (disch := omega) only [find_row_skip, find_row_hit]
    exact ⟨_, rfl, Row.plain_mk rfl⟩
  · refine storesAt_of_plain (by simp only [A.TDM_IN_MAP]; omega) (by simp only [A.TDM_IN_MAP]; omega) (by simp only [A.TDM_IN_MAP]; omega) ?_
    rw [rowAt, hpage (by simp only [A.TDM_IN_MAP]; omega), rowsTDM0, A.TDM_IN_MAP]
    generalize v.pick 8 4 2 = c at hn hc ⊢
    simp (disch := omega) only [find_row_skip, find_row_hit]
    exact ⟨_, rfl, Row.plain_mk rfl⟩

section
variable {t : State} {m : Master} {p : Bool} {n : Nat} {old : Word} {d : Nat}

theorem regEffect_tdm {a : Nat} (h : a / 0x10000 = 10) : t.regEffect m p a old d = t.tdmEffect a old := by
  unfold State.regEffect
  rw [h]
  rfl

theorem regEffect_tdmCfg (hn : n < 8) : t.regEffect m p (A.TDM_PORT_CFG n) old d = t.tdmPortCfg n old := by
  have ho : A.TDM_PORT_CFG n % 0x10000 = 0x100 * n := by simp only [A.TDM_PORT_CFG]; omega
  rw [regEffect_tdm (by simp only [A.TDM_PORT_CFG]; omega)]
  unfold State.tdmEffect
  dsimp only
  rw [ho, if_pos (by omega), Nat.mul_div_cancel_left n (by decide)]

theorem regEffect_tdmCtl (hn : n < 8) : t.regEffect m p (A.TDM_CTL n) old d = t.tdmMute n ((F.TDM_CTL_MUTE n).of old.toNat == 1) := by
  have ho : A.TDM_CTL n % 0x10000 = 0x100 * n + 4 := by simp only [A.TDM_CTL]; omega
  have hq : (0x100 * n + 4) / 0x100 = n := by omega
  rw [regEffect_tdm (by simp only [A.TDM_CTL]; omega)]
  unfold State.tdmEffect
  dsimp only
  rw [ho, if_neg (by omega), if_pos (by omega), hq]

theorem regEffect_tdmMap (hn : n < 8) {a k : Nat} (hk : k < 32) (ha : a = A.TDM_OUT_MAP n k ∨ a = A.TDM_IN_MAP n k) :
    t.regEffect m p a old d = t.tdmMapWrite n := by
  have hlo : a / 0x10000 = 10 ∧ 0x1000 ≤ a % 0x10000 ∧ a % 0x10000 < 0x1800 ∧ (a % 0x10000 - 0x1000) / 0x100 = n ∧ a ≠ A.TDM_BIST_CFG := by
    rcases ha with rfl | rfl
    · simp only [A.TDM_OUT_MAP, A.TDM_BIST_CFG]; omega
    · simp only [A.TDM_IN_MAP, A.TDM_BIST_CFG]; omega
  obtain ⟨h1, h2, h3, h4, h5⟩ := hlo
  rw [regEffect_tdm h1]
  unfold State.tdmEffect
  dsimp only
  rw [if_neg (by omega), if_neg (by omega), if_neg h5, if_pos ⟨h2, h3⟩, h4]

end

/-! ### Maps and configurations that become operative (R334, R338) -/

section
variable {R : Nat → Prop} {P : Part → Prop} {M : Nat → Prop} {s t : State} {n : Nat}

theorem Chg.mapOverUpd (h : Chg R P M s t) (hs : R (A.TDM_STATUS n)) (he : R A.TDM_EVT) : Chg R P M s (t.mapOverUpd n) := by
  unfold State.mapOverUpd
  exact (h.when _ _ fun _ => h.event _ he).keep _ _ hs

theorem Chg.loadMaps (h : Chg R P M s t) (hs : R (A.TDM_STATUS n)) (he : R A.TDM_EVT) (hp : P .tdm) : Chg R P M s (t.loadMaps n) :=
  (h.tpUpd n _ hp).mapOverUpd hs he

theorem Chg.noSlaveClocks (h : Chg R P M s t) (hs : R (A.TDM_STATUS n)) (hph : R (A.TDM_PHASE n)) (hp : P .tdm) : Chg R P M s (t.noSlaveClocks n) :=
  (((((h.keep _ _ hs).keep _ _ hs).keep _ _ hs).keepWord _ _ hph).tpUpd n _ hp).tpUpd n _ hp

theorem Chg.loadCfg (h : Chg R P M s t) (hs : R (A.TDM_STATUS n)) (hph : R (A.TDM_PHASE n)) (he : R A.TDM_EVT) (hp : P .tdm) : Chg R P M s (t.loadCfg n) := by
  have h1 := (h.tpUpd n (fun p => { p with opCfg := t.reg (A.TDM_PORT_CFG n), pendCfg := false }) hp).keep (F.TDM_STATUS_REFUSED n)
    (if cfgEn (t.reg (A.TDM_PORT_CFG n)) && t.bclkOver (t.reg (A.TDM_PORT_CFG n)) then 1 else 0) hs
  have h2 := h1.when (cfgEn (t.reg (A.TDM_PORT_CFG n)) && t.bclkOver (t.reg (A.TDM_PORT_CFG n)) || !cfgEn (t.reg (A.TDM_PORT_CFG n)))
    (fun s => (s.keep (F.TDM_STATUS_RUNNING n) 0).keep (F.TDM_STATUS_FILL n) 0) fun _ => (h1.keep _ _ hs).keep _ _ hs
  exact (h2.when _ _ fun _ => h2.noSlaveClocks hs hph hp).mapOverUpd hs he

end

section
variable {s : State} {n : Nat}

@[simp] theorem mapOverUpd_tdm (s : State) (n : Nat) : (s.mapOverUpd n).tdm = s.tdm :=
  (Chg.refl.mapOverUpd (R := AnyReg) (P := Parts []) (M := NoMem) (s := s) (t := s) (n := n) trivial trivial).part .tdm (by simp)

/-- A field of STATUS that the map's excess is not. -/
theorem fld_mapOverUpd (s : State) {f : Fld} (hf : Fld.free (F.TDM_STATUS_MAP_OVER n) f = true) (he : f.adr ≠ A.TDM_EVT) :
    (s.mapOverUpd n).fld f = s.fld f := by
  unfold State.mapOverUpd
  dsimp only
  rw [State.fld_keep_free _ hf, State.when]
  split
  · exact State.fld_set_ne (f := F.TDM_EVT_MAP_OVER) _ _ he
  · rfl

theorem loadMaps_port (hlen : n < s.tdm.length) : (s.loadMaps n).tp n = { s.tp n with
    opOut := (List.range 32).map (fun k => s.reg (A.TDM_OUT_MAP n k))
    opIn := (List.range 32).map (fun k => s.reg (A.TDM_IN_MAP n k))
    pendMap := false } := by
  rw [State.loadMaps, State.tp_of_tdm (mapOverUpd_tdm _ n), State.tp_tpUpd_same hlen]

/-- The configuration taken, with REFUSED. -/
def State.cfgTaken (s : State) (n : Nat) : State :=
  (s.tpUpd n (fun p => { p with opCfg := s.reg (A.TDM_PORT_CFG n), pendCfg := false })).keep (F.TDM_STATUS_REFUSED n)
    (if cfgEn (s.reg (A.TDM_PORT_CFG n)) && s.bclkOver (s.reg (A.TDM_PORT_CFG n)) then 1 else 0)

/-- A port that may not run stops. -/
def State.cfgStopped (s : State) (n : Nat) : State :=
  (s.cfgTaken n).when (cfgEn (s.reg (A.TDM_PORT_CFG n)) && s.bclkOver (s.reg (A.TDM_PORT_CFG n)) || !cfgEn (s.reg (A.TDM_PORT_CFG n)))
    (fun s => (s.keep (F.TDM_STATUS_RUNNING n) 0).keep (F.TDM_STATUS_FILL n) 0)

theorem loadCfg_eq (s : State) (n : Nat) : s.loadCfg n =
    ((s.cfgStopped n).when (cfgMaster (s.reg (A.TDM_PORT_CFG n))) (fun s => s.noSlaveClocks n)).mapOverUpd n := rfl

theorem noSlaveClocks_fld (s : State) : (s.noSlaveClocks n).fld (F.TDM_STATUS_REFUSED n) = s.fld (F.TDM_STATUS_REFUSED n) := by
  have hne : A.TDM_STATUS n ≠ A.TDM_PHASE n := by simp only [A.TDM_STATUS, A.TDM_PHASE]; omega
  unfold State.noSlaveClocks State.tdmCauseOff
  dsimp only
  rw [State.fld_tpUpd, State.fld_tpUpd, State.fld_eq_of_reg (State.reg_keepWord_ne _ _ hne), State.fld_keep_free _ (by simp [Fld.free, Fld.ok, Fld.apart]),
    State.fld_keep_free _ (by simp [Fld.free, Fld.ok, Fld.apart]), State.fld_keep_free _ (by simp [Fld.free, Fld.ok, Fld.apart])]

theorem loadCfg_refused (s : State) (n : Nat) :
    (s.loadCfg n).on (F.TDM_STATUS_REFUSED n) = (cfgEn (s.reg (A.TDM_PORT_CFG n)) && s.bclkOver (s.reg (A.TDM_PORT_CFG n))) := by
  have hne : A.TDM_STATUS n ≠ A.TDM_EVT := by simp only [A.TDM_STATUS, A.TDM_EVT]; omega
  have hstop : (s.cfgStopped n).fld (F.TDM_STATUS_REFUSED n) = (s.cfgTaken n).fld (F.TDM_STATUS_REFUSED n) := by
    rw [State.cfgStopped, State.when]
    split
    · rw [State.fld_keep_free _ (by simp [Fld.free, Fld.ok, Fld.apart]), State.fld_keep_free _ (by simp [Fld.free, Fld.ok, Fld.apart])]
    · rfl
  have hmaster : ((s.cfgStopped n).when (cfgMaster (s.reg (A.TDM_PORT_CFG n))) (fun s => s.noSlaveClocks n)).fld (F.TDM_STATUS_REFUSED n) =
      (s.cfgStopped n).fld (F.TDM_STATUS_REFUSED n) := by
    rw [State.when]
    split
    · exact noSlaveClocks_fld _
    · rfl
  rw [State.on, loadCfg_eq, fld_mapOverUpd _ (by simp [Fld.free, Fld.ok, Fld.apart]) hne, hmaster, hstop]
  exact on_keep_ite _ rfl _

theorem loadCfg_port (hlen : n < s.tdm.length) : ((s.loadCfg n).tp n).opCfg = s.reg (A.TDM_PORT_CFG n) ∧ ((s.loadCfg n).tp n).pendCfg = false := by
  set x := s.tpUpd n (fun p => { p with opCfg := s.reg (A.TDM_PORT_CFG n), pendCfg := false }) with hx
  have hxp : (x.tp n).opCfg = s.reg (A.TDM_PORT_CFG n) ∧ (x.tp n).pendCfg = false := by
    rw [hx, State.tp_tpUpd_same hlen]
    exact ⟨rfl, rfl⟩
  have hstop : (s.cfgStopped n).tdm = x.tdm := by
    rw [State.cfgStopped, State.when]
    split
    · rw [State.keep_tdm, State.keep_tdm, State.cfgTaken, State.keep_tdm]
    · rw [State.cfgTaken, State.keep_tdm]
  have hlen' : n < (s.cfgStopped n).tdm.length := by
    rw [hstop, hx, State.tdm_tpUpd_length]
    exact hlen
  have hclk (y : State) (hy : n < y.tdm.length) : ((y.noSlaveClocks n).tp n).opCfg = (y.tp n).opCfg ∧ ((y.noSlaveClocks n).tp n).pendCfg = (y.tp n).pendCfg := by
    unfold State.noSlaveClocks State.tdmCauseOff
    dsimp only
    set z := (((y.keep (F.TDM_STATUS_NO_CLOCK n) 0).keep (F.TDM_STATUS_WRONG_RATE n) 0).keep (F.TDM_STATUS_FILL n) 0).keepWord (A.TDM_PHASE n) 0 with hz
    have hzt : z.tdm = y.tdm := by rw [hz, State.keepWord_tdm, State.keep_tdm, State.keep_tdm, State.keep_tdm]
    have hzl : n < z.tdm.length := by rw [hzt]; exact hy
    rw [State.tp_tpUpd_same (by rw [State.tdm_tpUpd_length]; exact hzl), State.tp_tpUpd_same hzl, State.tp_of_tdm hzt]
    exact ⟨rfl, rfl⟩
  rw [loadCfg_eq, State.tp_of_tdm (mapOverUpd_tdm _ n), State.when]
  split
  · rw [(hclk _ hlen').1, (hclk _ hlen').2, State.tp_of_tdm hstop]
    exact hxp
  · rw [State.tp_of_tdm hstop]
    exact hxp

end

end Sys2Proof.Machine
end

section
/-! PROOFS. What masters write to a TDM port: its configuration, its maps, MUTE and LOOP (R331 to R336). -/

namespace Sys2Proof.Machine

section
variable {s : State} {n : Nat} {m : Master} {priv : Bool} {w : Word}

/-! ### PORT_CFG -/

/-- A reserved code gives way to the one before (R338). -/
def State.fixCode (s : State) (f : Fld) (old : Word) : State := s.when (s.fld f == 3) (fun s => s.set f (f.of old.toNat))

/-- The configuration as it stands once reserved codes have given way. -/
def State.cfgFixed (s : State) (n : Nat) (old : Word) : State :=
  ((s.fixCode (F.TDM_PORT_CFG_FORMAT n) old).fixCode (F.TDM_PORT_CFG_SLOT_W n) old).fixCode (F.TDM_PORT_CFG_DATA_W n) old

theorem tdmPortCfg_eq (s : State) (n : Nat) (old : Word) : s.tdmPortCfg n old =
    if (s.cfgFixed n old).tdmRunning n || ((s.cfgFixed n old).tp n).testing || (s.cfgFixed n old).on (F.TDM_STATUS_NO_CLOCK n) then
      (s.cfgFixed n old).tpUpd n (fun p => { p with pendCfg := true })
    else (s.cfgFixed n old).loadCfg n := rfl

theorem fixCode_idle {f : Fld} {old : Word} (h : s.fld f ≠ 3) : s.fixCode f old = s := by
  rw [State.fixCode, beq_eq_false_iff_ne.mpr h, State.when_false]

theorem cfgFixed_idle {old : Word} (h1 : s.fld (F.TDM_PORT_CFG_FORMAT n) ≠ 3) (h2 : s.fld (F.TDM_PORT_CFG_SLOT_W n) ≠ 3)
    (h3 : s.fld (F.TDM_PORT_CFG_DATA_W n) ≠ 3) : s.cfgFixed n old = s := by
  rw [State.cfgFixed, fixCode_idle h1, fixCode_idle h2, fixCode_idle h3]

theorem cfgFixed_chg (s : State) (n : Nat) (old : Word) : Chg (· = A.TDM_PORT_CFG n) (Parts []) NoMem s (s.cfgFixed n old) := by
  have hfix {x : State} {f : Fld} (hx : Chg (· = A.TDM_PORT_CFG n) (Parts []) NoMem s x) (hf : f.adr = A.TDM_PORT_CFG n) :
      Chg (· = A.TDM_PORT_CFG n) (Parts []) NoMem s (x.fixCode f old) := hx.when _ _ fun _ => hx.set _ _ hf
  exact hfix (hfix (hfix Chg.refl rfl) rfl) rfl

/-- PORT_CFG written: the word stored, and the rule behind it. -/
theorem tdmCfg_lands (hn : n < s.tdmPorts) (hd : Direct s m priv (A.TDM_PORT_CFG n)) (hr : AsItReads s (A.TDM_PORT_CFG n) w)
    (hne : s.reg (A.TDM_PORT_CFG n) ≠ w) : s.fresh.words (A.TDM_PORT_CFG n) (whole m priv w) =
      (s.fresh.wr (A.TDM_PORT_CFG n) w.toNat).tdmPortCfg n (s.reg (A.TDM_PORT_CFG n)) := by
  rw [hd.storesAt hr (tdmCfg_stores hn) hne, regEffect_tdmCfg (port_lt hn)]

theorem reg_wr_word (s : State) (a : Nat) (w : Word) : (s.wr a w.toNat).reg a = w := by
  rw [State.reg_wr_same, BitVec.ofNat_toNat, BitVec.setWidth_eq]

/-- A configuration with no reserved code is stored as written. -/
theorem cfgWritten_fixed (old : Word) (h1 : (F.TDM_PORT_CFG_FORMAT n).of w.toNat ≠ 3) (h2 : (F.TDM_PORT_CFG_SLOT_W n).of w.toNat ≠ 3)
    (h3 : (F.TDM_PORT_CFG_DATA_W n).of w.toNat ≠ 3) : (s.wr (A.TDM_PORT_CFG n) w.toNat).cfgFixed n old = s.wr (A.TDM_PORT_CFG n) w.toNat := by
  refine cfgFixed_idle ?_ ?_ ?_
  · rw [State.fld_wr_word s (A.TDM_PORT_CFG n) w rfl]
    exact h1
  · rw [State.fld_wr_word s (A.TDM_PORT_CFG n) w rfl]
    exact h2
  · rw [State.fld_wr_word s (A.TDM_PORT_CFG n) w rfl]
    exact h3

theorem statusOn_wrCfg {f : Fld} (hf : f.adr = A.TDM_STATUS n) (v : Nat) : (s.wr (A.TDM_PORT_CFG n) v).on f = s.on f := by
  have hne : f.adr ≠ A.TDM_PORT_CFG n := by rw [hf]; simp only [A.TDM_STATUS, A.TDM_PORT_CFG]; omega
  rw [State.on, State.fld_wr_ne _ _ hne, State.on]

theorem cfg_notMem (n : Nat) (hn : n < 8) : A.TDM_PORT_CFG n ∉ summaries := tdm_notMem (by simp only [A.TDM_PORT_CFG]; omega)

theorem answers_tdmPortCfgWrite_waits (hsh : Shaped s) (hn : n < s.tdmPorts) (hd : Direct s m priv (A.TDM_PORT_CFG n))
    (hr : AsItReads s (A.TDM_PORT_CFG n) w) (hne : s.reg (A.TDM_PORT_CFG n) ≠ w) (h1 : (F.TDM_PORT_CFG_FORMAT n).of w.toNat ≠ 3)
    (h2 : (F.TDM_PORT_CFG_SLOT_W n).of w.toNat ≠ 3) (h3 : (F.TDM_PORT_CFG_DATA_W n).of w.toNat ≠ 3) (hrun : s.tdmRunning n = true) :
    Answers (.tdmPortCfgWrite n (whole m priv w)) s fun t =>
      t.reg (A.TDM_PORT_CFG n) = w ∧ (t.tp n).pendCfg = true ∧ (t.tp n).opCfg = (s.tp n).opCfg ∧
      Framed [A.TDM_PORT_CFG n] [.tdm] s t := by
  have hn8 := port_lt hn
  obtain ⟨-, -, -, -, -, hlen, -⟩ := hsh
  set x := s.fresh.wr (A.TDM_PORT_CFG n) w.toNat with hx
  have hxt : x.tdm = s.tdm := State.wr_tdm _ _ _
  have hxl : n < x.tdm.length := by rw [hxt, hlen]; exact hn8
  have hxrun : x.tdmRunning n = true := (statusOn_wrCfg (s := s.fresh) rfl _).trans hrun
  set u := x.tpUpd n (fun p => { p with pendCfg := true }) with hu
  have heff : s.fresh.words (A.TDM_PORT_CFG n) (whole m priv w) = u := by
    rw [tdmCfg_lands hn hd hr hne, tdmPortCfg_eq, cfgWritten_fixed _ h1 h2 h3, ← hx, hxrun, Bool.true_or, Bool.true_or, if_pos rfl]
  have hframe : Chg (Listed [A.TDM_PORT_CFG n]) (Parts [.tdm]) NoMem s u := (Chg.refl.fresh.wr _ _ (by simp [Listed])).tpUpd _ _ (by simp)
  refine answers_effect _ (State.runIf_true s (decide_eq_true hn) _) heff hframe ⟨?_, ?_, ?_, hframe.framed⟩
  · rw [State.reg_seal _ _ (cfg_notMem n hn8), hu, State.reg_tpUpd, hx, reg_wr_word]
  · rw [State.tp_of_tdm (State.seal_tdm s _), hu, State.tp_tpUpd_same hxl]
  · rw [State.tp_of_tdm (State.seal_tdm s _), hu, State.tp_tpUpd_same hxl]
    dsimp only
    rw [State.tp_of_tdm hxt]

theorem bclkOver_of_regs {s t : State} (h : t.reg A.CLK_MEDIA_CFG = s.reg A.CLK_MEDIA_CFG) (w : Word) :
    t.bclkOver w = s.bclkOver w := by
  have hf : t.fld F.CLK_MEDIA_CFG_RATE = s.fld F.CLK_MEDIA_CFG_RATE := State.fld_eq_of_reg h
  rw [State.bclkOver, State.bclkOver, State.fs, State.fs, hf]

theorem answers_tdmPortCfgWrite_acts (hsh : Shaped s) (hn : n < s.tdmPorts) (hd : Direct s m priv (A.TDM_PORT_CFG n))
    (hr : AsItReads s (A.TDM_PORT_CFG n) w) (hne : s.reg (A.TDM_PORT_CFG n) ≠ w) (h1 : (F.TDM_PORT_CFG_FORMAT n).of w.toNat ≠ 3)
    (h2 : (F.TDM_PORT_CFG_SLOT_W n).of w.toNat ≠ 3) (h3 : (F.TDM_PORT_CFG_DATA_W n).of w.toNat ≠ 3) (hrun : s.tdmRunning n = false)
    (hc : s.on (F.TDM_STATUS_NO_CLOCK n) = false) (ht : (s.tp n).testing = false) :
    Answers (.tdmPortCfgWrite n (whole m priv w)) s fun t =>
      t.reg (A.TDM_PORT_CFG n) = w ∧ (t.tp n).opCfg = w ∧ (t.tp n).pendCfg = false ∧
      t.on (F.TDM_STATUS_REFUSED n) = (cfgEn w && s.bclkOver w) ∧
      Framed [A.TDM_PORT_CFG n, A.TDM_STATUS n, A.TDM_PHASE n, A.TDM_EVT] [.tdm] s t := by
  have hn8 := port_lt hn
  obtain ⟨-, -, -, -, -, hlen, -⟩ := hsh
  set x := s.fresh.wr (A.TDM_PORT_CFG n) w.toNat with hx
  have hxt : x.tdm = s.tdm := State.wr_tdm _ _ _
  have hxl : n < x.tdm.length := by rw [hxt, hlen]; exact hn8
  have hxrun : x.tdmRunning n = false := (statusOn_wrCfg (s := s.fresh) rfl _).trans hrun
  have hxc : x.on (F.TDM_STATUS_NO_CLOCK n) = false := (statusOn_wrCfg (s := s.fresh) rfl _).trans hc
  have hxtest : (x.tp n).testing = false := by rw [State.tp_of_tdm hxt, ht]
  have hxw : x.reg (A.TDM_PORT_CFG n) = w := reg_wr_word _ _ _
  have hxb : x.bclkOver w = s.bclkOver w :=
    bclkOver_of_regs (State.reg_wr_ne _ _ (by simp only [A.CLK_MEDIA_CFG, A.TDM_PORT_CFG]; omega)) w
  have heff : s.fresh.words (A.TDM_PORT_CFG n) (whole m priv w) = x.loadCfg n := by
    rw [tdmCfg_lands hn hd hr hne, tdmPortCfg_eq, cfgWritten_fixed _ h1 h2 h3, ← hx, hxrun, hxc, hxtest, Bool.or_self, Bool.or_self,
      if_neg Bool.false_ne_true]
  have hload : Chg (Listed [A.TDM_STATUS n, A.TDM_PHASE n, A.TDM_EVT]) (Parts [.tdm]) NoMem x (x.loadCfg n) :=
    Chg.refl.loadCfg (by simp [Listed]) (by simp [Listed]) (by simp [Listed]) (by simp)
  have hframe : Chg (Listed [A.TDM_PORT_CFG n, A.TDM_STATUS n, A.TDM_PHASE n, A.TDM_EVT]) (Parts [.tdm]) NoMem s (x.loadCfg n) :=
    (Chg.refl.fresh.wr _ _ (by simp [Listed])).trans (hload.mono (fun a h => listed_mono (by simp) a h) (fun _ h => h) fun _ h => h)
  have hcfg : ¬ Listed [A.TDM_STATUS n, A.TDM_PHASE n, A.TDM_EVT] (A.TDM_PORT_CFG n) := by
    refine not_or.mpr ⟨?_, cfg_notMem n hn8⟩
    simp only [List.mem_cons, List.not_mem_nil, or_false, A.TDM_PORT_CFG, A.TDM_STATUS, A.TDM_PHASE, A.TDM_EVT]
    omega
  obtain ⟨g1, g2⟩ := loadCfg_port hxl
  refine answers_effect _ (State.runIf_true s (decide_eq_true hn) _) heff hframe ⟨?_, ?_, ?_, ?_, hframe.framed⟩
  · rw [State.reg_seal _ _ (cfg_notMem n hn8), hload.reg _ hcfg, hxw]
  · rw [State.tp_of_tdm (State.seal_tdm s _), g1, hxw]
  · rw [State.tp_of_tdm (State.seal_tdm s _), g2]
  · rw [tdm_on_sealed (by simp only [A.TDM_STATUS]; omega), loadCfg_refused, hxw, hxb]

theorem answers_tdmPortCfgWrite_reserved (hn : n < s.tdmPorts) (hd : Direct s m priv (A.TDM_PORT_CFG n)) (hr : AsItReads s (A.TDM_PORT_CFG n) w)
    (h3 : (F.TDM_PORT_CFG_FORMAT n).of w.toNat = 3) (hold : s.fld (F.TDM_PORT_CFG_FORMAT n) ≠ 3) :
    Answers (.tdmPortCfgWrite n (whole m priv w)) s fun t =>
      t.fld (F.TDM_PORT_CFG_FORMAT n) = s.fld (F.TDM_PORT_CFG_FORMAT n) ∧ t.fld (F.TDM_PORT_CFG_SLOTS n) =
        (F.TDM_PORT_CFG_SLOTS n).of w.toNat := by
  have hn8 := port_lt hn
  have hne : s.reg (A.TDM_PORT_CFG n) ≠ w := fun e => hold (by
    rw [← h3, ← e]
    rfl)
  set x := s.fresh.wr (A.TDM_PORT_CFG n) w.toNat with hx
  have hxf (f : Fld) (hf : f.adr = A.TDM_PORT_CFG n) : x.fld f = f.of w.toNat := State.fld_wr_word _ _ _ hf
  set old := s.reg (A.TDM_PORT_CFG n) with hold'
  have hfix (y : State) (f g : Fld) (h : Fld.free f g = true) : (y.fixCode f old).fld g = y.fld g := State.fld_when _ _ (State.fld_set_free _ h _)
  set y := x.cfgFixed n old with hy
  have hfmt : y.fld (F.TDM_PORT_CFG_FORMAT n) = s.fld (F.TDM_PORT_CFG_FORMAT n) := by
    rw [hy, State.cfgFixed, hfix _ _ _ (by simp [Fld.free, Fld.ok, Fld.apart]), hfix _ _ _ (by simp [Fld.free, Fld.ok, Fld.apart]), State.fixCode,
      hxf _ rfl, h3]
    change (x.set (F.TDM_PORT_CFG_FORMAT n) ((F.TDM_PORT_CFG_FORMAT n).of old.toNat)).fld (F.TDM_PORT_CFG_FORMAT n) = _
    rw [State.fld_set_same _ rfl]
    exact Nat.mod_eq_of_lt (Fld.of_lt _ _)
  have hslots : y.fld (F.TDM_PORT_CFG_SLOTS n) = (F.TDM_PORT_CFG_SLOTS n).of w.toNat := by
    rw [hy, State.cfgFixed, hfix _ _ _ (by simp [Fld.free, Fld.ok, Fld.apart]), hfix _ _ _ (by simp [Fld.free, Fld.ok, Fld.apart]),
      hfix _ _ _ (by simp [Fld.free, Fld.ok, Fld.apart]), hxf _ rfl]
  have hload : Chg (fun a => a ≠ A.TDM_PORT_CFG n) AnyPart NoMem y (x.tdmPortCfg n old) := by
    have h1 : A.TDM_STATUS n ≠ A.TDM_PORT_CFG n := by simp only [A.TDM_STATUS, A.TDM_PORT_CFG]; omega
    have h2 : A.TDM_PHASE n ≠ A.TDM_PORT_CFG n := by simp only [A.TDM_PHASE, A.TDM_PORT_CFG]; omega
    have h3 : A.TDM_EVT ≠ A.TDM_PORT_CFG n := by simp only [A.TDM_EVT, A.TDM_PORT_CFG]; omega
    rw [tdmPortCfg_eq]
    exact Chg.ite (fun _ => Chg.refl.tpUpd _ _ trivial) fun _ => Chg.refl.loadCfg h1 h2 h3 trivial
  have hall : Chg AnyReg AnyPart NoMem s (x.tdmPortCfg n old) :=
    ((Chg.refl.fresh.wr _ _ trivial).trans (cfgFixed_chg x n old).wide).trans hload.wide
  refine answers_effect _ (State.runIf_true s (decide_eq_true hn) _) (tdmCfg_lands hn hd hr hne) hall ⟨?_, ?_⟩
  · rw [State.fld_seal_of (f := F.TDM_PORT_CFG_FORMAT n) (cfg_notMem n hn8), hload.fld (g := F.TDM_PORT_CFG_FORMAT n) (by simp), hfmt]
  · rw [State.fld_seal_of (f := F.TDM_PORT_CFG_SLOTS n) (cfg_notMem n hn8), hload.fld (g := F.TDM_PORT_CFG_SLOTS n) (by simp), hslots]

end

end Sys2Proof.Machine
end

section
/-! PROOFS. MUTE, LOOP and the maps of a TDM port (R331, R334, R336). -/

namespace Sys2Proof.Machine

section
variable {s : State} {n : Nat} {m : Master} {priv : Bool} {w : Word}

theorem ctl_notMem (hn : n < 8) : A.TDM_CTL n ∉ summaries := tdm_notMem (by simp only [A.TDM_CTL]; omega)
theorem status_ne_ctl (n : Nat) : A.TDM_STATUS n ≠ A.TDM_CTL n := by simp only [A.TDM_CTL, A.TDM_STATUS]; omega

theorem ctl_silent (hn : n < 8) : actsAlways (A.TDM_CTL n) 0 = false := by interval_cases n <;> decide

/-- MUTE written: the rule behind it. -/
theorem tdmMute_lands (hn : n < s.tdmPorts) (hd : Direct s m priv (A.TDM_CTL n)) {v : Nat} (hv : v < 2) (hne : s.fld (F.TDM_CTL_MUTE n) ≠ v) :
    s.fresh.strikeFld m priv (F.TDM_CTL_MUTE n) v = (s.fresh.set (F.TDM_CTL_MUTE n) v).tdmMute n (s.fld (F.TDM_CTL_MUTE n) == 1) := by
  rw [Direct.strikeFldAt (f := F.TDM_CTL_MUTE n) hd (tdmCtl_offered hn).1 hv hne, regEffect_tdmCtl (port_lt hn)]
  rfl

theorem fld_mute_bit (h : s.on (F.TDM_CTL_MUTE n) = true) : s.fld (F.TDM_CTL_MUTE n) = 1 := by
  have hlt : s.fld (F.TDM_CTL_MUTE n) < 2 ^ 1 := s.fld_lt _
  have hne : s.fld (F.TDM_CTL_MUTE n) ≠ 0 := bne_iff_ne.mp h
  omega

theorem answers_tdmMute_on (hsh : Shaped s) (hn : n < s.tdmPorts) (hd : Direct s m priv (A.TDM_CTL n)) (hoff : s.on (F.TDM_CTL_MUTE n) = false)
    (hg : s.fld (F.TDM_STATUS_GAIN_STATE n) = 0) :
    Answers (.tdmMute n true m priv) s fun t =>
      t.on (F.TDM_CTL_MUTE n) = true ∧ (t.tp n).causes.testBit causeMute = true ∧ Fades n s t ∧
      t.fld (F.TDM_CTL_LOOP n) = s.fld (F.TDM_CTL_LOOP n) ∧ Framed (A.TDM_CTL n :: portRegs n) [.tdm] s t := by
  have hn8 := port_lt hn
  obtain ⟨-, -, -, -, -, hlen, -⟩ := hsh
  have h0 : s.fld (F.TDM_CTL_MUTE n) = 0 := bne_eq_false_iff_eq.mp hoff
  set x := s.fresh.set (F.TDM_CTL_MUTE n) 1 with hx
  have hxt : x.tdm = s.tdm := State.set_tdm _ _ _
  have hxl : n < x.tdm.length := by rw [hxt, hlen]; exact hn8
  have hxon : x.on (F.TDM_CTL_MUTE n) = true := State.on_event_same _ rfl
  set y := x.tpUpd n (fun p => { p with causes := p.causes ||| 2 ^ causeMute }) with hy
  have hreg {a : Nat} (h : a ≠ A.TDM_CTL n) : y.reg a = s.reg a := by
    rw [hy, State.reg_tpUpd, hx, State.reg_set_ne _ _ _ h]
    rfl
  have hyg : y.fld (F.TDM_STATUS_GAIN_STATE n) = 0 := (State.fld_eq_of_reg (f := F.TDM_STATUS_GAIN_STATE n) (hreg (status_ne_ctl n))).trans hg
  have hyl : n < y.tdm.length := by rw [hy, State.tdm_tpUpd_length]; exact hxl
  have heff : s.fresh.strikeFld m priv (F.TDM_CTL_MUTE n) 1 = y.tdmFade n := by
    rw [tdmMute_lands hn hd (by decide) (by rw [h0]; decide), h0, ← hx, State.tdmMute, hxon]
    rfl
  have hfade : Chg (Listed (portRegs n)) (Parts [.tdm]) NoMem y (y.tdmFade n) := Chg.refl.tdmFade hn8 (fun a ha => .inl ha) (by simp)
  have hframe : Chg (Listed (A.TDM_CTL n :: portRegs n)) (Parts [.tdm]) NoMem s (y.tdmFade n) :=
    ((Chg.refl.fresh.set _ _ (by simp [Listed])).tpUpd _ _ (by simp)).trans
      (hfade.mono (fun a h => listed_mono (List.subset_cons_self _ _) a h) (fun _ h => h) fun _ h => h)
  have hctl : ¬ Listed (portRegs n) (A.TDM_CTL n) := by
    refine not_or.mpr ⟨?_, ctl_notMem hn8⟩
    simp only [portRegs, List.mem_cons, List.not_mem_nil, or_false, A.TDM_CTL, A.TDM_STATUS, A.TDM_FADES, A.TDM_SAT, A.TDM_SENSE_OK, A.TDM_EVT]
    omega
  refine answers_effect (fun s => s.strikeFld m priv (F.TDM_CTL_MUTE n) 1) (State.runIf_true s (decide_eq_true hn) _) heff hframe
    ⟨?_, ?_, ?_, ?_, hframe.framed⟩
  · rw [State.on_seal_of (f := F.TDM_CTL_MUTE n) (ctl_notMem hn8), hfade.on (g := F.TDM_CTL_MUTE n) hctl]
    exact hxon
  · rw [State.tp_of_tdm (State.seal_tdm s _), tp_tdmFade hyg hyl]
    simp only [State.fadedPort, hy, State.tp_tpUpd_same hxl, Nat.testBit_or, Nat.testBit_two_pow_self, Bool.or_true]
  · have hcfg : y.reg A.TDM_FADE_CFG = s.reg A.TDM_FADE_CFG := hreg (by simp only [A.TDM_FADE_CFG, A.TDM_CTL]; omega)
    have hcnt : y.reg (A.TDM_FADES n) = s.reg (A.TDM_FADES n) := hreg (by simp only [A.TDM_FADES, A.TDM_CTL]; omega)
    exact fades_shown hn8 hyl hyg (fadeMs_of_reg hcfg) (State.rd_eq_of_reg hcnt) rfl rfl rfl rfl (time_tdmFade y n) rfl
  · rw [State.fld_seal_of (f := F.TDM_CTL_LOOP n) (ctl_notMem hn8), hfade.fld (g := F.TDM_CTL_LOOP n) hctl, hy, State.fld_tpUpd, hx,
      State.fld_set_free _ (by simp [Fld.free, Fld.ok, Fld.apart])]
    rfl

theorem answers_tdmMute_off (hsh : Shaped s) (hn : n < s.tdmPorts) (hd : Direct s m priv (A.TDM_CTL n)) (hon : s.on (F.TDM_CTL_MUTE n) = true) :
    Answers (.tdmMute n false m priv) s fun t =>
      t.on (F.TDM_CTL_MUTE n) = false ∧ (t.tp n).causes.testBit causeMute = false ∧ Framed [A.TDM_CTL n] [.tdm] s t := by
  have hn8 := port_lt hn
  obtain ⟨-, -, -, -, -, hlen, -⟩ := hsh
  have h1 := fld_mute_bit hon
  set x := s.fresh.set (F.TDM_CTL_MUTE n) 0 with hx
  have hxl : n < x.tdm.length := by
    rw [hx, State.set_tdm]
    exact hlen.symm ▸ hn8
  have hxoff : x.on (F.TDM_CTL_MUTE n) = false := by
    rw [State.on, hx, State.fld_set_same _ rfl]
    rfl
  set u := x.tdmCauseOff n causeMute with hu
  have heff : s.fresh.strikeFld m priv (F.TDM_CTL_MUTE n) 0 = u := by
    rw [tdmMute_lands hn hd (by decide) (by rw [h1]; decide), h1, ← hx, State.tdmMute, hxoff]
    rfl
  have hframe : Chg (Listed [A.TDM_CTL n]) (Parts [.tdm]) NoMem s u := (Chg.refl.fresh.set _ _ (by simp [Listed])).tpUpd _ _ (by simp)
  refine answers_effect (fun s => s.strikeFld m priv (F.TDM_CTL_MUTE n) 0) (State.runIf_true s (decide_eq_true hn) _) heff hframe
    ⟨?_, ?_, hframe.framed⟩
  · rw [State.on_seal_of (f := F.TDM_CTL_MUTE n) (ctl_notMem hn8), State.on, hu, State.tdmCauseOff, State.fld_tpUpd]
    exact hxoff
  · rw [State.tp_of_tdm (State.seal_tdm s _), hu, State.tdmCauseOff, State.tp_tpUpd_same hxl]
    simp [testBit_clearBits]

theorem untouched_tdmMute (hn : n < s.tdmPorts) (hd : Direct s m priv (A.TDM_CTL n)) :
    Untouched (.tdmMute n (s.on (F.TDM_CTL_MUTE n)) m priv) s := by
  have hsame : (if s.on (F.TDM_CTL_MUTE n) then 1 else 0) = s.fld (F.TDM_CTL_MUTE n) := by
    split
    · next h => rw [fld_mute_bit h]
    · next h => rw [bne_eq_false_iff_eq.mp (Bool.not_eq_true _ ▸ h : s.on (F.TDM_CTL_MUTE n) = false)]
  have heff : s.fresh.strikeFld m priv (F.TDM_CTL_MUTE n) (if s.on (F.TDM_CTL_MUTE n) then 1 else 0) = s.fresh := by
    rw [hsame]
    exact Direct.strikeFld_same (f := F.TDM_CTL_MUTE n) hd (tdmCtl_offered hn).1 (ctl_silent (port_lt hn))
  exact untouched_effect (fun x => x.strikeFld m priv (F.TDM_CTL_MUTE n) (if s.on (F.TDM_CTL_MUTE n) then 1 else 0))
    (State.runIf_true s (decide_eq_true hn) _) heff

theorem answers_tdmLoop (mode : Fin 4) (hn : n < s.tdmPorts) (hd : Direct s m priv (A.TDM_CTL n)) :
    Answers (.tdmLoop n mode m priv) s fun t =>
      t.fld (F.TDM_CTL_LOOP n) = mode.val ∧ t.fld (F.TDM_CTL_MUTE n) = s.fld (F.TDM_CTL_MUTE n) ∧
      Framed [A.TDM_CTL n] [] s t := by
  have hn8 := port_lt hn
  have hoff := (tdmCtl_offered hn).2
  by_cases hne : s.fld (F.TDM_CTL_LOOP n) = mode.val
  · have heff : s.fresh.strikeFld m priv (F.TDM_CTL_LOOP n) mode.val = s.fresh := by
      rw [← hne]
      exact Direct.strikeFld_same (f := F.TDM_CTL_LOOP n) hd hoff (ctl_silent hn8)
    have hframe : Chg (Listed [A.TDM_CTL n]) (Parts []) NoMem s s.fresh := Chg.refl.fresh
    refine answers_effect (fun s => s.strikeFld m priv (F.TDM_CTL_LOOP n) mode.val) (State.runIf_true s (decide_eq_true hn) _) heff hframe
      ⟨?_, ?_, hframe.framed⟩
    · rw [State.fld_seal_of (f := F.TDM_CTL_LOOP n) (ctl_notMem hn8), ← hne]
      rfl
    · rw [State.fld_seal_of (f := F.TDM_CTL_MUTE n) (ctl_notMem hn8)]
      rfl
  · set x := s.fresh.set (F.TDM_CTL_LOOP n) mode.val with hx
    have hmute : x.fld (F.TDM_CTL_MUTE n) = s.fld (F.TDM_CTL_MUTE n) := State.fld_set_free s.fresh (f := F.TDM_CTL_LOOP n) (g := F.TDM_CTL_MUTE n)
      (by simp [Fld.free, Fld.ok, Fld.apart]) _
    have hwas : x.on (F.TDM_CTL_MUTE n) = ((F.TDM_CTL_MUTE n).of (s.reg (A.TDM_CTL n)).toNat == 1) := by
      have hlt : s.fld (F.TDM_CTL_MUTE n) < 2 ^ 1 := s.fld_lt _
      rw [State.on, hmute]
      change (s.fld (F.TDM_CTL_MUTE n) != 0) = (s.fld (F.TDM_CTL_MUTE n) == 1)
      generalize s.fld (F.TDM_CTL_MUTE n) = b at hlt
      interval_cases b <;> rfl
    have heff : s.fresh.strikeFld m priv (F.TDM_CTL_LOOP n) mode.val = x := by
      rw [Direct.strikeFldAt (f := F.TDM_CTL_LOOP n) hd hoff mode.isLt hne, regEffect_tdmCtl hn8, ← hx, State.tdmMute]
      dsimp only
      rw [if_pos hwas]
    have hframe : Chg (Listed [A.TDM_CTL n]) (Parts []) NoMem s x := Chg.refl.fresh.set _ _ (by simp [Listed])
    refine answers_effect (fun s => s.strikeFld m priv (F.TDM_CTL_LOOP n) mode.val) (State.runIf_true s (decide_eq_true hn) _) heff hframe
      ⟨?_, ?_, hframe.framed⟩
    · rw [State.fld_seal_of (f := F.TDM_CTL_LOOP n) (ctl_notMem hn8), hx, State.fld_set_same _ rfl]
      exact Nat.mod_eq_of_lt mode.isLt
    · rw [State.fld_seal_of (f := F.TDM_CTL_MUTE n) (ctl_notMem hn8), hmute]

/-! ### Map words (R334) -/

theorem getAt_mapWords (g : Nat → Word) {k : Nat} (hk : k < 32) : getAt ((List.range 32).map g) k 0 = g k := by
  rw [getAt, List.getD_eq_getElem?_getD, List.getElem?_map, List.getElem?_range hk]
  rfl

/-- A map word written: the rule behind it. -/
theorem tdmMap_lands (hn : n < s.tdmPorts) (output : Bool) (k : Fin 32)
    (hd : Direct s m priv (if output then A.TDM_OUT_MAP n k.val else A.TDM_IN_MAP n k.val))
    (hr : AsItReads s (if output then A.TDM_OUT_MAP n k.val else A.TDM_IN_MAP n k.val) w)
    (hne : s.reg (if output then A.TDM_OUT_MAP n k.val else A.TDM_IN_MAP n k.val) ≠ w) :
    s.fresh.words (if output then A.TDM_OUT_MAP n k.val else A.TDM_IN_MAP n k.val) (whole m priv w) =
      (s.fresh.wr (if output then A.TDM_OUT_MAP n k.val else A.TDM_IN_MAP n k.val) w.toNat).tdmMapWrite n := by
  have hst := tdmMap_stores hn k.isLt
  cases output
  · exact (hd.storesAt hr hst.2 hne).trans (regEffect_tdmMap (port_lt hn) k.isLt (.inr rfl))
  · exact (hd.storesAt hr hst.1 hne).trans (regEffect_tdmMap (port_lt hn) k.isLt (.inl rfl))

theorem mapAdr_facts (hn : n < 8) (output : Bool) (k : Fin 32) :
    let a := if output then A.TDM_OUT_MAP n k.val else A.TDM_IN_MAP n k.val
    0xa1000 ≤ a ∧ a < 0xa1800 := by
  have := k.isLt
  cases output
  · simp only [Bool.false_eq_true, if_false, A.TDM_IN_MAP]; omega
  · simp only [if_true, A.TDM_OUT_MAP]; omega

theorem answers_tdmMapWrite (hsh : Shaped s) (hn : n < s.tdmPorts) (output : Bool) (k : Fin 32) :
    let a := if output then A.TDM_OUT_MAP n k.val else A.TDM_IN_MAP n k.val
    Direct s m priv a → AsItReads s a w → s.reg a ≠ w →
    (s.tdmRunning n = true →
      Answers (.tdmMapWrite n output k (whole m priv w)) s fun t =>
        t.reg a = w ∧ (t.tp n).pendMap = true ∧ (t.tp n).opOut = (s.tp n).opOut ∧ (t.tp n).opIn = (s.tp n).opIn ∧
        Framed [a] [.tdm] s t) ∧
    (s.tdmRunning n = false → (s.tp n).testing = false →
      Answers (.tdmMapWrite n output k (whole m priv w)) s fun t =>
        t.reg a = w ∧ getAt (if output then (t.tp n).opOut else (t.tp n).opIn) k.val 0 = w ∧ (t.tp n).pendMap = false ∧
        Framed [a, A.TDM_STATUS n, A.TDM_EVT] [.tdm] s t) := by
  intro a hd hr hne
  have hn8 := port_lt hn
  obtain ⟨-, -, -, -, -, hlen, -⟩ := hsh
  have hlands : s.fresh.words a (whole m priv w) = (s.fresh.wr a w.toNat).tdmMapWrite n := tdmMap_lands hn output k hd hr hne
  obtain ⟨ha1, ha2⟩ : 0xa1000 ≤ a ∧ a < 0xa1800 := mapAdr_facts hn8 output k
  have hword : a = (if output then A.TDM_OUT_MAP n k.val else A.TDM_IN_MAP n k.val) := rfl
  have hexec : exec (.tdmMapWrite n output k (whole m priv w)) s = .next (s.done fun s => s.words a (whole m priv w)) :=
    State.runIf_true s (decide_eq_true hn) _
  clear_value a
  have hsum : a ∉ summaries := tdm_notMem (by omega)
  set x := s.fresh.wr a w.toNat with hx
  have hxt : x.tdm = s.tdm := State.wr_tdm _ _ _
  have hxl : n < x.tdm.length := by rw [hxt, hlen]; exact hn8
  have hxw : x.reg a = w := reg_wr_word _ _ _
  have hxrun : x.tdmRunning n = s.tdmRunning n :=
    congrArg (· != 0) (State.fld_wr_ne (s := s.fresh) (g := F.TDM_STATUS_RUNNING n) _ _ (show A.TDM_STATUS n ≠ a by simp only [A.TDM_STATUS]; omega))
  refine ⟨fun hrun => ?_, fun hrun htest => ?_⟩
  · set u := x.tpUpd n (fun p => { p with pendMap := true }) with hu
    have heff : s.fresh.words a (whole m priv w) = u := by
      rw [hlands, State.tdmMapWrite, hxrun, hrun, Bool.true_or, if_pos rfl]
    have hframe : Chg (Listed [a]) (Parts [.tdm]) NoMem s u := (Chg.refl.fresh.wr _ _ (by simp [Listed])).tpUpd _ _ (by simp)
    refine answers_effect _ hexec heff hframe ⟨?_, ?_, ?_, ?_, hframe.framed⟩
    · rw [State.reg_seal _ _ hsum, hu, State.reg_tpUpd, hxw]
    · rw [State.tp_of_tdm (State.seal_tdm s _), hu, State.tp_tpUpd_same hxl]
    · rw [State.tp_of_tdm (State.seal_tdm s _), hu, State.tp_tpUpd_same hxl]
      dsimp only
      rw [State.tp_of_tdm hxt]
    · rw [State.tp_of_tdm (State.seal_tdm s _), hu, State.tp_tpUpd_same hxl]
      dsimp only
      rw [State.tp_of_tdm hxt]
  · have hxtest : (x.tp n).testing = false := by rw [State.tp_of_tdm hxt, htest]
    have heff : s.fresh.words a (whole m priv w) = x.loadMaps n := by
      rw [hlands, State.tdmMapWrite, hxrun, hrun, hxtest, Bool.or_self, if_neg Bool.false_ne_true]
    have hload : Chg (Listed [A.TDM_STATUS n, A.TDM_EVT]) (Parts [.tdm]) NoMem x (x.loadMaps n) :=
      Chg.refl.loadMaps (by simp [Listed]) (by simp [Listed]) (by simp)
    have hframe : Chg (Listed [a, A.TDM_STATUS n, A.TDM_EVT]) (Parts [.tdm]) NoMem s (x.loadMaps n) :=
      (Chg.refl.fresh.wr _ _ (by simp [Listed])).trans (hload.mono (fun a h => listed_mono (by simp) a h) (fun _ h => h) fun _ h => h)
    have hna : ¬ Listed [A.TDM_STATUS n, A.TDM_EVT] a := by
      refine not_or.mpr ⟨?_, hsum⟩
      simp only [List.mem_cons, List.not_mem_nil, or_false, A.TDM_STATUS, A.TDM_EVT]
      omega
    have hport := loadMaps_port hxl
    have hlw : (x.loadMaps n).reg a = w := (hload.reg _ hna).trans hxw
    refine answers_effect _ hexec heff hframe ⟨?_, ?_, ?_, hframe.framed⟩
    · rw [State.reg_seal _ _ hsum, hlw]
    · rw [State.tp_of_tdm (State.seal_tdm s _), hport]
      rw [hword] at hxw
      cases output
      · rw [if_neg Bool.false_ne_true] at hxw
        exact (getAt_mapWords (fun k => x.reg (A.TDM_IN_MAP n k)) k.isLt).trans hxw
      · rw [if_pos rfl] at hxw
        exact (getAt_mapWords (fun k => x.reg (A.TDM_OUT_MAP n k)) k.isLt).trans hxw
    · rw [State.tp_of_tdm (State.seal_tdm s _), hport]

end

end Sys2Proof.Machine
end

section
/-! PROOFS. Frames of a TDM port: idle ports and master ports (R325, R326). -/

namespace Sys2Proof.Machine

section
variable {s : State} {n dt : Nat} {din : List Word} {bad : Bool}

/-! ### What time leaves of a port -/

theorem tdm_elapsed (s : State) (dt : Nat) : (s.fresh.advance dt).tdm = s.tdm := State.advance_tdm s.fresh dt
theorem tp_elapsed (s : State) (dt n : Nat) : (s.fresh.advance dt).tp n = s.tp n := State.tp_of_tdm (tdm_elapsed s dt) n

theorem tdmReg_elapsed (s : State) (dt : Nat) {a : Nat} (h : 0xa0000 ≤ a ∧ a < 0xb0000) : (s.fresh.advance dt).reg a = s.reg a :=
  reg_elapsed s dt (notMem_timeRegs (by omega))

theorem rate_elapsed (s : State) (dt : Nat) : (s.fresh.advance dt).fld F.CLK_MEDIA_CFG_RATE = s.fld F.CLK_MEDIA_CFG_RATE :=
  State.fld_eq_of_reg (reg_elapsed s dt (by decide))

theorem bclkOver_elapsed (s : State) (dt : Nat) (w : Word) : (s.fresh.advance dt).bclkOver w = s.bclkOver w :=
  bclkOver_of_regs (reg_elapsed s dt (by decide)) w

theorem portLive_elapsed (s : State) (dt n : Nat) : (s.fresh.advance dt).portLive n = s.portLive n := by
  have hmod : (s.fresh.advance dt).modState = s.modState := State.fld_eq_of_reg (reg_elapsed s dt (by decide))
  have hret : (s.fresh.advance dt).rd A.TEST_RETIRED = s.rd A.TEST_RETIRED := State.rd_eq_of_reg (reg_elapsed s dt (by decide))
  have hbad : (s.fresh.advance dt).blockBad (16 + n) = s.blockBad (16 + n) := by
    rw [State.blockBad, State.advance_test, hret, State.blockBad]
    rfl
  rw [State.portLive, State.unitOn_elapsed, hmod, hbad, tp_elapsed, bclkOver_elapsed, State.portLive]

theorem tdmRunning_elapsed (s : State) (dt : Nat) (hn : n < 8) : (s.fresh.advance dt).tdmRunning n = s.tdmRunning n :=
  State.on_of_reg (f := F.TDM_STATUS_RUNNING n) (tdmReg_elapsed s dt (by simp only [A.TDM_STATUS]; omega))

theorem loop_elapsed (s : State) (dt : Nat) (hn : n < 8) : (s.fresh.advance dt).fld (F.TDM_CTL_LOOP n) = s.fld (F.TDM_CTL_LOOP n) :=
  State.fld_eq_of_reg (f := F.TDM_CTL_LOOP n) (tdmReg_elapsed s dt (by simp only [A.TDM_CTL]; omega))

theorem padFrame_elapsed (s : State) (dt : Nat) (hn : n < 8) (f : List (Option Word)) : (s.fresh.advance dt).padFrame n f = s.padFrame n f := by
  rw [State.padFrame, tp_elapsed, loop_elapsed s dt hn, State.padFrame]

/-! ### The frame's branches -/

theorem frameStart_idle {x : State} {q : Nat} (h1 : (x.tp n).pendMap = false) (h2 : (x.tp n).pendCfg = false) : x.frameStart n q = x := by
  unfold State.frameStart
  split
  · rfl
  · dsimp only
    rw [h1, State.when_false, h2, State.when_false]

theorem tdmFrame_dead {x : State} (h1 : (x.tp n).pendMap = false) (h2 : (x.tp n).pendCfg = false) (h : x.portLive n = false ∨ x.clk.running = false) :
    x.tdmFrame n din bad = x := by
  unfold State.tdmFrame
  dsimp only
  rw [frameStart_idle h1 h2, if_pos]
  rcases h with h | h <;> simp [h]

theorem tdmFrame_master {x : State} (h1 : (x.tp n).pendMap = false) (h2 : (x.tp n).pendCfg = false) (hl : x.portLive n = true)
    (hk : x.clk.running = true) (hr : x.tdmRunning n = true) (hm : cfgMaster (x.tp n).opCfg = true) :
    x.tdmFrame n din bad = x.masterFrame n x.chainIdx din := by
  unfold State.tdmFrame
  dsimp only
  rw [frameStart_idle h1 h2, hl, hk, hr, if_neg (by decide), Bool.not_true, State.when_false, if_pos hm]

/-- A frame that comes in from the pads. -/
def padSlots (w : Word) (din : List Word) : List Word := (List.range (cfgSlots w)).map fun k => getAt din k 0

theorem inFrame_pads {x : State} {own : List (Option Word)} (h : x.fld (F.TDM_CTL_LOOP n) = 0) :
    x.inFrame n own din = (padSlots (x.tp n).opCfg din, x) := by
  unfold State.inFrame
  dsimp only
  rw [h, if_neg (by decide)]
  rfl

theorem masterFrame_pads {x : State} {q : Nat} (h : x.fld (F.TDM_CTL_LOOP n) = 0) : x.masterFrame n q din =
    (x.capture n q (padSlots (x.tp n).opCfg din)).tpUpd n (fun p => { p with
      dout := x.padFrame n (x.outFrame n q), lastIdx := q }) := by
  unfold State.masterFrame
  dsimp only
  rw [inFrame_pads h]

theorem capture_idle {x : State} {q : Nat} {f : List Word} (h : x.play.running = false) : x.capture n q f = x := by
  unfold State.capture
  rw [h, if_neg Bool.false_ne_true]

/-! ### Clauses -/

theorem answers_tdmFrame_dead (hn : n < s.tdmPorts) (h1 : (s.tp n).pendMap = false) (h2 : (s.tp n).pendCfg = false)
    (h : s.portLive n = false ∨ s.clk.running = false) :
    Answers (.tdmFrame n din bad dt) s fun t => t.time.up = s.time.up + dt ∧ Framed timeRegs [.time, .clk, .mgmt] s t := by
  set x := s.fresh.advance dt with hx
  have hxp : x.tp n = s.tp n := tp_elapsed s dt n
  have heff : x.tdmFrame n din bad = x := by
    refine tdmFrame_dead (by rw [hxp, h1]) (by rw [hxp, h2]) ?_
    rw [hx, portLive_elapsed, State.running_elapsed]
    exact h
  refine answers_effect _ (State.runIf_true s (decide_eq_true hn) _) heff (chg_advanced s dt) ⟨?_, (chg_advanced s dt).framed⟩
  rw [State.seal_time]
  exact State.up_elapsed s dt

theorem answers_tdmFrame_master (hsh : Shaped s) (hn : n < s.tdmPorts) (h1 : (s.tp n).pendMap = false) (h2 : (s.tp n).pendCfg = false)
    (hl : s.portLive n = true) (hk : s.clk.running = true) (hr : s.tdmRunning n = true) (hm : cfgMaster (s.tp n).opCfg = true)
    (hloop : s.fld (F.TDM_CTL_LOOP n) = 0) (hplay : s.play.running = false) :
    Answers (.tdmFrame n din bad dt) s fun t =>
      (t.tp n).lastIdx = (s.advance dt).chainIdx ∧
      (t.tp n).dout = s.padFrame n ((s.advance dt).outFrame n (s.advance dt).chainIdx) ∧
      Framed timeRegs [.time, .clk, .mgmt, .tdm] s t := by
  have hn8 := port_lt hn
  obtain ⟨-, -, -, -, -, hlen, -⟩ := hsh
  set x := s.fresh.advance dt with hx
  have hxp : x.tp n = s.tp n := tp_elapsed s dt n
  have hxl : n < x.tdm.length := by rw [hx, tdm_elapsed, hlen]; exact hn8
  have hfresh : x = (s.advance dt).fresh := State.advance_fresh s dt
  have hq : x.chainIdx = (s.advance dt).chainIdx := by
    rw [hfresh]
    rfl
  have hown : x.outFrame n (s.advance dt).chainIdx = (s.advance dt).outFrame n (s.advance dt).chainIdx := by
    rw [hfresh]
    rfl
  set u := x.tpUpd n (fun p => { p with
    dout := s.padFrame n ((s.advance dt).outFrame n (s.advance dt).chainIdx), lastIdx := (s.advance dt).chainIdx }) with hu
  have heff : x.tdmFrame n din bad = u := by
    have hxl' : x.portLive n = true := (portLive_elapsed s dt n).trans hl
    have hxk : x.clk.running = true := (State.running_elapsed s dt).trans hk
    have hxr : x.tdmRunning n = true := (tdmRunning_elapsed s dt hn8).trans hr
    have hxplay : x.play.running = false := by rw [hx, play_elapsed, hplay]
    rw [tdmFrame_master (by rw [hxp, h1]) (by rw [hxp, h2]) hxl' hxk hxr (by rw [hxp, hm]), masterFrame_pads ((loop_elapsed s dt hn8).trans hloop),
      capture_idle hxplay, hq, hown, hx, padFrame_elapsed s dt hn8]
  have hframe : Chg (Listed timeRegs) (Parts [.time, .clk, .mgmt, .tdm]) NoMem s u := ((chg_advanced s dt).parts (by simp)).tpUpd _ _ (by simp)
  refine answers_effect _ (State.runIf_true s (decide_eq_true hn) _) heff hframe ⟨?_, ?_, hframe.framed⟩
  · rw [State.tp_of_tdm (State.seal_tdm s _), hu, State.tp_tpUpd_same hxl]
  · rw [State.tp_of_tdm (State.seal_tdm s _), hu, State.tp_tpUpd_same hxl]

theorem getAt_padSlots {w : Word} {k : Nat} (hk : k < cfgSlots w) : getAt (padSlots w din) k 0 = getAt din k 0 := by
  rw [padSlots, getAt, List.getD_eq_getElem?_getD, List.getElem?_map, List.getElem?_range hk]
  rfl

/-- One slot captured: it enters bus memory at the position that its index has (R192). -/
theorem capture_one {x : State} {q k : Nat} {f : List Word} (hplay : x.play.running = true) (hacts : x.mapActs (x.tp n).opCfg (x.tp n).opIn = [k])
    (hkind : wbits (getAt (x.tp n).opIn k 0) 30 29 = 0) (hz : (x.tp n).zeroTo ≤ q) (hen : wbits (x.tp n).opCfg 13 13 = 1) (ht : (x.tp n).testing = false) :
    x.capture n q f = x.putSample (wbits (getAt (x.tp n).opIn k 0) 11 0) (x.capturePos q)
      (scaleBy (fromSlot (cfgDataW (x.tp n).opCfg) (getAt f k 0)) (x.tdmGain n)) := by
  have hdead : (Nat.blt q (x.tp n).zeroTo || wbits (x.tp n).opCfg 13 13 == 0 || (x.tp n).testing) = false := by
    have hb : Nat.blt q (x.tp n).zeroTo = false := by
      rw [← Bool.not_eq_true, Nat.blt_eq]
      omega
    rw [hb, hen, ht]
    rfl
  unfold State.capture
  dsimp only
  rw [hplay, if_pos rfl, hacts, hdead]
  change (if wbits (getAt (x.tp n).opIn k 0) 30 29 = 0 then _ else _) = _
  rw [if_pos hkind]
  rfl

theorem answers_tdmFrame_captures {k : Nat} (hn : n < s.tdmPorts) (h1 : (s.tp n).pendMap = false) (h2 : (s.tp n).pendCfg = false)
    (hl : s.portLive n = true) (hck : s.clk.running = true) (hr : s.tdmRunning n = true) (hm : cfgMaster (s.tp n).opCfg = true)
    (hloop : s.fld (F.TDM_CTL_LOOP n) = 0) (hplay : s.play.running = true) (htest : (s.tp n).testing = false)
    (hacts : s.mapActs (s.tp n).opCfg (s.tp n).opIn = [k]) (hk : k < cfgSlots (s.tp n).opCfg) (hkind : wbits (getAt (s.tp n).opIn k 0) 30 29 = 0)
    (hen : wbits (s.tp n).opCfg 13 13 = 1) (hz : (s.tp n).zeroTo ≤ (s.advance dt).chainIdx) :
    Answers (.tdmFrame n din bad dt) s fun t =>
      let u := s.advance dt
      let a := s.busAdr (wbits (getAt (s.tp n).opIn k 0) 11 0) (s.capturePos u.chainIdx)
      t.memWord a = scaleBy (fromSlot (cfgDataW (s.tp n).opCfg) (getAt din k 0)) (u.tdmGain n) ∧ MemKeptBut a 4 s t ∧
      RegsKept timeRegs s t := by
  have hn8 := port_lt hn
  set x := s.fresh.advance dt with hx
  have hxp : x.tp n = s.tp n := tp_elapsed s dt n
  have hfresh : x = (s.advance dt).fresh := State.advance_fresh s dt
  have hq : x.chainIdx = (s.advance dt).chainIdx := by
    rw [hfresh]
    rfl
  have hgain : x.tdmGain n = (s.advance dt).tdmGain n := by
    rw [hfresh]
    rfl
  have hmul : x.rateMul = s.rateMul := by rw [State.rateMul, hx, rate_elapsed, State.rateMul]
  have hhi : x.hiRate = s.hiRate := by rw [State.hiRate, hx, rate_elapsed, State.hiRate]
  have hxacts : x.mapActs (x.tp n).opCfg (x.tp n).opIn = [k] := by
    rw [← hacts, hxp, State.mapActs, State.mapCap, hmul, hhi, State.mapActs, State.mapCap]
  set a := s.busAdr (wbits (getAt (s.tp n).opIn k 0) 11 0) (s.capturePos (s.advance dt).chainIdx) with ha
  set w := scaleBy (fromSlot (cfgDataW (s.tp n).opCfg) (getAt din k 0)) ((s.advance dt).tdmGain n) with hw
  have hput : x.capture n x.chainIdx (padSlots (x.tp n).opCfg din) = x.putMemWord a w := by
    have hpos : x.capturePos x.chainIdx = s.capturePos (s.advance dt).chainIdx := by
      rw [State.capturePos, State.efLen, hmul, hq, hx, play_elapsed, State.capturePos, State.efLen]
    have hadr (b : Nat) (p : Int) : x.busAdr b p = s.busAdr b p := by rw [State.busAdr, State.slotLen, hhi, State.busAdr, State.slotLen]
    rw [capture_one (by rw [hx, play_elapsed, hplay]) hxacts (by rw [hxp, hkind]) (by rw [hxp, hq]; exact hz) (by rw [hxp, hen]) (by rw [hxp, htest]),
      State.putSample, hpos, hadr, hxp, getAt_padSlots hk, hgain]
  obtain ⟨g, hg⟩ : ∃ g, x.tdmFrame n din bad = (x.putMemWord a w).tpUpd n g := by
    have hxl' : x.portLive n = true := (portLive_elapsed s dt n).trans hl
    have hxk : x.clk.running = true := (State.running_elapsed s dt).trans hck
    have hxr : x.tdmRunning n = true := (tdmRunning_elapsed s dt hn8).trans hr
    rw [tdmFrame_master (by rw [hxp, h1]) (by rw [hxp, h2]) hxl' hxk hxr (by rw [hxp, hm]), masterFrame_pads ((loop_elapsed s dt hn8).trans hloop), hput]
    exact ⟨_, rfl⟩
  have hframe : Chg (Listed timeRegs) AnyPart (fun b => a ≤ b ∧ b < a + 4) s ((x.putMemWord a w).tpUpd n g) :=
    (((chg_advanced s dt).mono (fun _ h => h) (fun _ _ => trivial) fun _ h => h.elim).trans
      ((chg_putMemWord x a w).mono (fun _ h => h.elim) (fun _ _ => trivial) fun _ h => h)).tpUpd _ _ trivial
  refine answers_effect _ (State.runIf_true s (decide_eq_true hn) _) hg hframe ⟨?_, fun b hb => ?_, hframe.regsKept⟩
  · rw [State.memWord_seal]
    exact State.memWord_putMemWord_same x a w
  · exact (State.byte_seal s _ b).trans (hframe.byte b (by omega))

end

end Sys2Proof.Machine
end

section
/-! PROOFS. Frames of a slave TDM port, and O48 (R328, R329). -/

namespace Sys2Proof.Machine

/-! ### A frame taken -/

section
variable {x z : State} {n q : Nat} {din : List Word} {bad fresh : Bool}

theorem inFrame_chg (x : State) (n : Nat) (own : List (Option Word)) (din : List Word) :
    Chg (fun _ => False) (Parts [.free]) NoMem x (x.inFrame n own din).2 := by
  have hfold (l : List (Option Word)) : ∀ (o : List Word) (y : State), Chg (fun _ => False) (Parts [.free]) NoMem x y →
      Chg (fun _ => False) (Parts [.free]) NoMem x (l.foldl (fun (p : List Word × State) c => match c with
        | some w => (p.1 ++ [w], p.2)
        | none =>
          let (v, s) := p.2.free 32
          (p.1 ++ [BitVec.ofNat 32 v], s)) (o, y)).2 := by
    induction l with
    | nil => exact fun _ _ h => h
    | cons c l ih =>
      intro o y h
      cases c with
      | some w => exact ih _ _ h
      | none => exact ih _ _ (h.free 32 (by simp))
  unfold State.inFrame
  dsimp only
  split
  · exact hfold own [] x Chg.refl
  · exact Chg.refl

theorem inFrame_tdm (x : State) (n : Nat) (own : List (Option Word)) (din : List Word) : (x.inFrame n own din).2.tdm = x.tdm :=
  (inFrame_chg x n own din).part .tdm (by simp)

/-- The slave port as a frame finds it: started afresh, and its frame error noted. -/
def State.slaveReady (x : State) (n q : Nat) (bad fresh : Bool) : State :=
  (x.when fresh (fun s => s.tpUpd n (fun p => { p with inBuf := centred (s.zeroSlots n), lastIdx := q }))).when bad
    (fun s => (s.inc (A.TDM_FRAME_ERR n)).portSlip n)

/-- The frame enters the elastic buffer. -/
def State.slaveBuffered (y : State) (n q : Nat) (own : List (Option Word)) (f : List Word) : State :=
  let full := Nat.ble 8 (y.tdmFill n)
  let s := y.when full (fun s => (s.inc (A.TDM_OVERRUN n)).portSlip n)
  let s := s.tpUpd n (fun p => { p with
    inBuf := if full then p.inBuf.take 1 ++ (p.inBuf.drop 6 ++ [f]) else p.inBuf ++ [f]
    dout := s.padFrame n own, lastIdx := max p.lastIdx q })
  let m := roundDiv (s.chainTime * s.fs) secU
  let phase := s.chainTime - m * secU / s.fs
  (s.keep (F.TDM_STATUS_FILL n) (s.tdmFill n)).keep (F.TDM_PHASE_NS n) (unsgn 32 (toNs phase))

/-- A frame with no chain edge since the last. -/
theorem slaveFrame_eq (hz : x.slaveReady n q bad fresh = z) (hq : q ≤ (z.tp n).lastIdx) : x.slaveFrame n q din bad fresh =
    (z.inFrame n (z.outFrame n (q - z.tdmFill n)) din).2.slaveBuffered n q (z.outFrame n (q - z.tdmFill n))
      (z.inFrame n (z.outFrame n (q - z.tdmFill n)) din).1 := by
  have hall : x.slaveFrame n q din bad fresh =
      (let y := forN (q - ((x.slaveReady n q bad fresh).tp n).lastIdx)
        (fun i s => s.chainTake n (((x.slaveReady n q bad fresh).tp n).lastIdx + 1 + i)) (x.slaveReady n q bad fresh)
       (y.inFrame n (y.outFrame n (q - y.tdmFill n)) din).2.slaveBuffered n q (y.outFrame n (q - y.tdmFill n))
        (y.inFrame n (y.outFrame n (q - y.tdmFill n)) din).1) := rfl
  rw [hall, hz, Nat.sub_eq_zero_of_le hq]
  rfl

/-- A frame enters a buffer that has room. -/
theorem slaveBuffered_room {y : State} {own : List (Option Word)} {f : List Word} (hf : y.tdmFill n < 8) :
    ∃ d a b, y.slaveBuffered n q own f =
      ((y.tpUpd n (fun p => { p with inBuf := p.inBuf ++ [f], dout := d, lastIdx := max p.lastIdx q })).keep (F.TDM_STATUS_FILL n) a).keep
        (F.TDM_PHASE_NS n) b := by
  have hfull : Nat.ble 8 (y.tdmFill n) = false := by
    rw [← Bool.not_eq_true, Nat.ble_eq]
    exact Nat.not_le.mpr hf
  refine ⟨y.padFrame n own, ?_⟩
  unfold State.slaveBuffered
  dsimp only
  rw [hfull, State.when_false]
  exact ⟨_, _, rfl⟩

theorem fill_inFrame (z : State) (own : List (Option Word)) : (z.inFrame n own din).2.tdmFill n = z.tdmFill n := by
  rw [State.tdmFill, State.tp_of_tdm (inFrame_tdm z n own din), State.tdmFill]

/-- The port once the frame is in its buffer. -/
def State.slaveDone (z : State) (n q : Nat) (din : List Word) : State :=
  ((z.inFrame n (z.outFrame n (q - z.tdmFill n)) din).2.slaveBuffered n q (z.outFrame n (q - z.tdmFill n))
    (z.inFrame n (z.outFrame n (q - z.tdmFill n)) din).1).tpUpd n (fun p => { p with clocksGone := false })

section
variable (hlen : n < z.tdm.length) (hf : z.tdmFill n < 8)
include hf

theorem slaveDone_chg (q : Nat) (din : List Word) :
    Chg (fun a => a = A.TDM_STATUS n ∨ a = A.TDM_PHASE n) (Parts [.free, .tdm]) NoMem z (z.slaveDone n q din) := by
  have hp : Parts [.free, .tdm] .tdm := by simp
  have hin := inFrame_chg z n (z.outFrame n (q - z.tdmFill n)) din
  obtain ⟨d, a, b, h⟩ := slaveBuffered_room (n := n) (q := q) (own := z.outFrame n (q - z.tdmFill n))
    (f := (z.inFrame n (z.outFrame n (q - z.tdmFill n)) din).1) ((fill_inFrame z _).symm ▸ hf)
  rw [State.slaveDone, h]
  exact Chg.tpUpd ((Chg.tpUpd ((hin.parts (by simp)).mono (fun _ h => h.elim) (fun _ h => h) fun _ h => h) n _ hp).keep _ _ (.inl rfl) |>.keep _ _ (.inr rfl)) n _ hp

theorem slaveDone_fld (q : Nat) (din : List Word) {f : Fld} (h1 : f.adr = A.TDM_STATUS n) (h2 : Fld.free (F.TDM_STATUS_FILL n) f = true) :
    (z.slaveDone n q din).fld f = z.fld f := by
  have hin := inFrame_chg z n (z.outFrame n (q - z.tdmFill n)) din
  have hne : f.adr ≠ A.TDM_PHASE n := by rw [h1]; simp only [A.TDM_STATUS, A.TDM_PHASE]; omega
  obtain ⟨d, a, b, h⟩ := slaveBuffered_room (n := n) (q := q) (own := z.outFrame n (q - z.tdmFill n))
    (f := (z.inFrame n (z.outFrame n (q - z.tdmFill n)) din).1) ((fill_inFrame z _).symm ▸ hf)
  rw [State.slaveDone, h, State.fld_tpUpd, State.fld_eq_of_reg (State.reg_keep_ne _ _ _ hne), State.fld_keep_free _ h2, State.fld_tpUpd, hin.fld id]

include hlen

theorem slaveDone_port (q : Nat) (din : List Word) : ∃ d i, (z.slaveDone n q din).tp n =
    { z.tp n with
      inBuf := (z.tp n).inBuf ++ [(z.inFrame n (z.outFrame n (q - z.tdmFill n)) din).1], dout := d, lastIdx := i, clocksGone := false } := by
  obtain ⟨d, a, b, h⟩ := slaveBuffered_room (n := n) (q := q) (own := z.outFrame n (q - z.tdmFill n))
    (f := (z.inFrame n (z.outFrame n (q - z.tdmFill n)) din).1) ((fill_inFrame z _).symm ▸ hf)
  have htdm := inFrame_tdm z n (z.outFrame n (q - z.tdmFill n)) din
  set v := (z.inFrame n (z.outFrame n (q - z.tdmFill n)) din).2 with hv
  set f := (z.inFrame n (z.outFrame n (q - z.tdmFill n)) din).1 with hf'
  have hvl : n < v.tdm.length := by rw [htdm]; exact hlen
  set w := v.tpUpd n (fun p => { p with inBuf := p.inBuf ++ [f], dout := d, lastIdx := max p.lastIdx q }) with hw
  have hwt : ((w.keep (F.TDM_STATUS_FILL n) a).keep (F.TDM_PHASE_NS n) b).tdm = w.tdm := by rw [State.keep_tdm, State.keep_tdm]
  have hwl : n < ((w.keep (F.TDM_STATUS_FILL n) a).keep (F.TDM_PHASE_NS n) b).tdm.length := by
    rw [hwt, hw, State.tdm_tpUpd_length]
    exact hvl
  refine ⟨d, max (z.tp n).lastIdx q, ?_⟩
  rw [State.slaveDone, ← hv, ← hf', h, State.tp_tpUpd_same hwl, State.tp_of_tdm hwt, hw, State.tp_tpUpd_same hvl, State.tp_of_tdm htdm]

end

end

/-! ### Clauses -/

section
variable {s : State} {n dt : Nat} {din : List Word} {bad : Bool}

/-- A port that does not run starts, silent (R329). -/
def State.freshened (x : State) (n : Nat) : State :=
  x.when (!x.tdmRunning n) (fun s => ((s.set (F.TDM_STATUS_RUNNING n) 1).set (F.TDM_RATE_VALID n) 0).when
    (!s.on (F.TDM_STATUS_NO_CLOCK n)) (fun s => s.portSilent n))

theorem tdmFrame_slave {x z : State} (h1 : (x.tp n).pendMap = false) (h2 : (x.tp n).pendCfg = false) (hl : x.portLive n = true)
    (hk : x.clk.running = true) (hm : cfgMaster ((x.freshened n).tp n).opCfg = false)
    (hz : (x.freshened n).slaveReady n x.chainIdx bad (!x.tdmRunning n) = z) (hq : x.chainIdx ≤ (z.tp n).lastIdx) :
    x.tdmFrame n din bad = z.slaveDone n x.chainIdx din := by
  unfold State.tdmFrame
  dsimp only
  rw [frameStart_idle h1 h2, hl, hk, if_neg (by decide)]
  change (if cfgMaster ((x.freshened n).tp n).opCfg then _ else ((x.freshened n).slaveFrame n x.chainIdx din bad (!x.tdmRunning n)).tpUpd n _) = _
  rw [hm, if_neg Bool.false_ne_true, slaveFrame_eq hz hq]
  rfl

theorem frameErr_sat (hn : n < 8) : (satOf (A.TDM_FRAME_ERR n)).adr = A.TDM_SAT n ∧ (satOf (A.TDM_FRAME_ERR n)).event = some F.TDM_EVT_CNT_SAT := by
  interval_cases n <;> exact ⟨rfl, rfl⟩

/-- A frame error counted, and its slip noted. -/
def State.slipNoted (x : State) (n : Nat) : State := (x.inc (A.TDM_FRAME_ERR n)).eventBit F.TDM_EVT_SLIP n

theorem slipNoted_chg {x : State} (hn : n < 8) :
    Chg (Listed [A.TDM_FRAME_ERR n, A.TDM_SAT n, A.TDM_EVT]) (Parts []) NoMem x (x.slipNoted n) := by
  obtain ⟨h1, h2⟩ := frameErr_sat hn
  refine Chg.setBit (Chg.inc Chg.refl _ (by simp [Listed]) (by rw [h1]; simp [Listed]) ?_) _ _ _ (by simp [Listed])
  rw [h2]
  rintro f ⟨⟩
  simp [Listed]

theorem answers_tdmFrame_slips (hsh : Shaped s) (hn : n < s.tdmPorts) (h1 : (s.tp n).pendMap = false) (h2 : (s.tp n).pendCfg = false)
    (hl : s.portLive n = true) (hk : s.clk.running = true) (hr : s.tdmRunning n = true) (hm : cfgMaster (s.tp n).opCfg = false)
    (hg : s.fld (F.TDM_STATUS_GAIN_STATE n) = 0) (hq : (s.advance dt).chainIdx ≤ (s.tp n).lastIdx) (hf : s.tdmFill n < 8) :
    Answers (.tdmFrame n din true dt) s fun t =>
      Counts s t (A.TDM_FRAME_ERR n) 1 ∧ t.bitOf F.TDM_EVT_SLIP n = true ∧ Fades n s t ∧ (t.tp n).causes = (s.tp n).causes ∧
      MemKept s t := by
  have hn8 := port_lt hn
  obtain ⟨-, -, -, -, -, hlen, -⟩ := hsh
  set x := s.fresh.advance dt with hx
  have hxc : Chg (Listed timeRegs) (Parts [.time, .clk, .mgmt]) NoMem s x := chg_advanced s dt
  have hxp : x.tp n = s.tp n := tp_elapsed s dt n
  have hxr : x.tdmRunning n = true := (tdmRunning_elapsed s dt hn8).trans hr
  have hxq : x.chainIdx = (s.advance dt).chainIdx := by
    rw [hx, State.advance_fresh]
    rfl
  set y := x.slipNoted n with hy
  have hyc : Chg (Listed [A.TDM_FRAME_ERR n, A.TDM_SAT n, A.TDM_EVT]) (Parts []) NoMem x y := slipNoted_chg hn8
  have hyx : y.tdm = x.tdm := hyc.part .tdm (by simp)
  have hytdm : y.tdm = s.tdm := hyx.trans (tdm_elapsed s dt)
  have hyl : n < y.tdm.length := by rw [hytdm, hlen]; exact hn8
  have hkept {a : Nat} (ha : 0xa0000 ≤ a ∧ a < 0xb0000) (h : a ≠ A.TDM_FRAME_ERR n ∧ a ≠ A.TDM_SAT n ∧ a ≠ A.TDM_EVT) : y.reg a = s.reg a := by
    refine (hyc.reg _ (not_or.mpr ⟨?_, tdm_notMem ha⟩)).trans (tdmReg_elapsed s dt ha)
    simp only [List.mem_cons, List.not_mem_nil, or_false, not_or]
    exact h
  have hstat : y.reg (A.TDM_STATUS n) = s.reg (A.TDM_STATUS n) := by
    refine hkept ?_ ?_ <;> simp only [A.TDM_STATUS, A.TDM_FRAME_ERR, A.TDM_SAT, A.TDM_EVT] <;> omega
  have hyg : y.fld (F.TDM_STATUS_GAIN_STATE n) = 0 := (State.fld_eq_of_reg (f := F.TDM_STATUS_GAIN_STATE n) hstat).trans hg
  set z := y.tdmFade n with hz
  have hzl : n < z.tdm.length := by rw [hz, tdmFade_length hyg]; exact hyl
  have hzp : z.tp n = y.fadedPort n := tp_tdmFade hyg hyl
  have hyp : y.tp n = s.tp n := State.tp_of_tdm hytdm n
  have hzq : x.chainIdx ≤ (z.tp n).lastIdx := by
    rw [hxq, hzp, State.fadedPort, hyp]
    exact hq
  have hzf : z.tdmFill n < 8 := by
    rw [State.tdmFill, hzp, State.fadedPort, hyp]
    exact hf
  have heff : x.tdmFrame n din true = z.slaveDone n x.chainIdx din := by
    have hfr : x.freshened n = x := by rw [State.freshened, hxr, Bool.not_true, State.when_false]
    refine tdmFrame_slave (by rw [hxp, h1]) (by rw [hxp, h2]) ((portLive_elapsed s dt n).trans hl) ((State.running_elapsed s dt).trans hk) ?_ ?_ hzq
    · rw [hfr, hxp, hm]
    · rw [hfr, hxr]
      rfl
  set u := z.slaveDone n x.chainIdx din with hu
  have huc : Chg (fun a => a = A.TDM_STATUS n ∨ a = A.TDM_PHASE n) (Parts [.free, .tdm]) NoMem z u := slaveDone_chg hzf _ _
  have hfade : Chg (Listed (portRegs n)) (Parts [.tdm]) NoMem y z := Chg.refl.tdmFade hn8 (fun a ha => .inl ha) (by simp)
  have hall : Chg AnyReg AnyPart NoMem s u := hxc.wide.trans (hyc.wide.trans (hfade.wide.trans huc.wide))
  obtain ⟨d, i, hup⟩ := slaveDone_port hzl hzf x.chainIdx din
  rw [← hu, hzp] at hup
  refine answers_effect _ (State.runIf_true s (decide_eq_true hn) _) heff hall ⟨?_, ?_, ?_, ?_, hall.memKept⟩
  · have hne1 : ¬ (A.TDM_FRAME_ERR n = A.TDM_STATUS n ∨ A.TDM_FRAME_ERR n = A.TDM_PHASE n) := by
      simp only [A.TDM_FRAME_ERR, A.TDM_STATUS, A.TDM_PHASE]; omega
    have hsum : A.TDM_FRAME_ERR n ∉ summaries := tdm_notMem (by simp only [A.TDM_FRAME_ERR]; omega)
    have hne2 : ¬ Listed (portRegs n) (A.TDM_FRAME_ERR n) := by
      refine not_or.mpr ⟨?_, hsum⟩
      simp only [portRegs, List.mem_cons, List.not_mem_nil, or_false, A.TDM_FRAME_ERR, A.TDM_STATUS, A.TDM_FADES, A.TDM_SAT, A.TDM_SENSE_OK, A.TDM_EVT]
      omega
    have hok : bumpOk (A.TDM_FRAME_ERR n) = true := by interval_cases n <;> decide
    have hne3 : A.TDM_FRAME_ERR n ≠ A.TDM_EVT := by simp only [A.TDM_FRAME_ERR, A.TDM_EVT]; omega
    have hxe : x.rd (A.TDM_FRAME_ERR n) = s.rd (A.TDM_FRAME_ERR n) :=
      State.rd_eq_of_reg (tdmReg_elapsed s dt (by simp only [A.TDM_FRAME_ERR]; omega))
    rw [Counts, State.rd_seal _ _ hsum, State.rd_eq_of_reg (huc.reg _ hne1), State.rd_eq_of_reg (hfade.reg _ hne2), hy, State.slipNoted,
      State.rd_eq_of_reg (State.reg_eventBit_ne _ _ _ hne3), State.rd_inc_counts hok, hxe]
  · have hne : A.TDM_EVT ≠ A.TDM_STATUS n ∧ A.TDM_EVT ≠ A.TDM_PHASE n := by simp only [A.TDM_EVT, A.TDM_STATUS, A.TDM_PHASE]; omega
    have hap : bumpApart F.TDM_EVT_SLIP (A.TDM_FADES n) = true := by interval_cases n <;> decide
    have hfree : Fld.free (F.TDM_STATUS_GAIN_STATE n) F.TDM_EVT_SLIP = true := by simp [Fld.free, Fld.ok, hne.1]
    have hsame : u.fld F.TDM_EVT_SLIP = y.fld F.TDM_EVT_SLIP := by
      rw [huc.fld (not_or.mpr hne), hz, fld_tdmFade hyg (by decide) hap hfree]
    rw [tdm_bitOf_sealed (by decide), State.bitOf, hsame]
    exact State.bitOf_eventBit_same _ (by decide) (show n < 8 from hn8)
  · have hcfg : y.reg A.TDM_FADE_CFG = s.reg A.TDM_FADE_CFG := by
      refine hkept ?_ ?_ <;> simp only [A.TDM_FADE_CFG, A.TDM_FRAME_ERR, A.TDM_SAT, A.TDM_EVT] <;> omega
    have hcnt : y.reg (A.TDM_FADES n) = s.reg (A.TDM_FADES n) := by
      refine hkept ?_ ?_ <;> simp only [A.TDM_FADES, A.TDM_FRAME_ERR, A.TDM_SAT, A.TDM_EVT] <;> omega
    have hne : ¬ (A.TDM_FADES n = A.TDM_STATUS n ∨ A.TDM_FADES n = A.TDM_PHASE n) := by
      simp only [A.TDM_FADES, A.TDM_STATUS, A.TDM_PHASE]; omega
    refine fades_shown hn8 hyl hyg (fadeMs_of_reg hcfg) (State.rd_eq_of_reg hcnt) (slaveDone_fld hzf _ _ rfl (by simp [Fld.free, Fld.ok, Fld.apart]))
      ?_ ?_ ?_ ?_ (State.rd_eq_of_reg (huc.reg _ hne))
    · rw [hup, tp_tdmFade hyg hyl]
    · rw [hup, tp_tdmFade hyg hyl]
    · rw [hup, tp_tdmFade hyg hyl]
    · rw [huc.part .time (by simp)]
      exact time_tdmFade y n
  · rw [State.tp_of_tdm (State.seal_tdm s _), hup, State.fadedPort, hyp]

/-- A port that starts: running, its rate not yet measured, and silent (R329). -/
def State.startedSilent (x : State) (n : Nat) : State := ((x.set (F.TDM_STATUS_RUNNING n) 1).set (F.TDM_RATE_VALID n) 0).portSilent n

theorem freshened_starts {x : State} (hr : x.tdmRunning n = false) (hc : x.on (F.TDM_STATUS_NO_CLOCK n) = false) : x.freshened n = x.startedSilent n := by
  rw [State.freshened, hr, Bool.not_false, State.when_true, hc, Bool.not_false, State.when_true]
  rfl

theorem startedSilent_chg (x : State) (n : Nat) : Chg (fun a => a = A.TDM_STATUS n ∨ a = A.TDM_RATE n ∨ a = A.TDM_SENSE_OK) (Parts [.tdm]) NoMem x (x.startedSilent n) := by
  refine Chg.senseDrop (Chg.tpUpd (Chg.keep (Chg.set (Chg.set Chg.refl _ _ ?_) _ _ ?_) _ _ ?_) _ _ (by simp)) _ ?_ (by simp)
  · exact .inl rfl
  · exact .inr (.inl rfl)
  · exact .inl rfl
  · exact .inr (.inr rfl)

theorem startedSilent_length (x : State) (n : Nat) : (x.startedSilent n).tdm.length = x.tdm.length := by
  rw [State.startedSilent, State.portSilent, State.senseDrop, State.setBit_tdm, State.tdm_tpUpd_length, State.tdm_tpUpd_length, State.keep_tdm,
    State.set_tdm, State.set_tdm]

theorem startedSilent_port {x : State} (hlen : n < x.tdm.length) :
    (x.startedSilent n).tp n = { x.tp n with clean := 0, dirty := true, senseClean := 0 } := by
  set y := ((x.set (F.TDM_STATUS_RUNNING n) 1).set (F.TDM_RATE_VALID n) 0).keep (F.TDM_STATUS_GAIN_STATE n) gainSilent with hy
  have hyt : y.tdm = x.tdm := by rw [hy, State.keep_tdm, State.set_tdm, State.set_tdm]
  have hyl : n < y.tdm.length := by rw [hyt]; exact hlen
  rw [State.startedSilent, State.portSilent, ← hy, State.senseDrop, State.tp_of_tdm (State.setBit_tdm _ _ _ _),
    State.tp_tpUpd_same (by rw [State.tdm_tpUpd_length]; exact hyl), State.tp_tpUpd_same hyl, State.tp_of_tdm hyt]

theorem startedSilent_fields (x : State) (hn : n < 8) : (x.startedSilent n).fld (F.TDM_STATUS_GAIN_STATE n) = 2 ∧
    (x.startedSilent n).fld (F.TDM_STATUS_RUNNING n) = 1 ∧ (x.startedSilent n).bitOf F.TDM_SENSE_OK_PORT n = false := by
  have hs : A.TDM_STATUS n ≠ A.TDM_SENSE_OK := by simp only [A.TDM_STATUS, A.TDM_SENSE_OK]; omega
  have hr : A.TDM_STATUS n ≠ A.TDM_RATE n := by simp only [A.TDM_STATUS, A.TDM_RATE]; omega
  rw [State.startedSilent, State.portSilent, State.senseDrop]
  refine ⟨?_, ?_, ?_⟩
  · rw [State.fld_eq_of_reg (f := F.TDM_STATUS_GAIN_STATE n) (State.reg_setBit_ne _ _ _ _ hs), State.fld_tpUpd, State.fld_tpUpd,
      State.fld_keep_same _ rfl (show gainSilent < 2 ^ 2 by decide)]
    rfl
  · rw [State.fld_eq_of_reg (f := F.TDM_STATUS_RUNNING n) (State.reg_setBit_ne _ _ _ _ hs), State.fld_tpUpd, State.fld_tpUpd,
      State.fld_keep_free _ (by simp [Fld.free, Fld.ok, Fld.apart]), State.fld_set_ne (f := F.TDM_RATE_VALID n) (g := F.TDM_STATUS_RUNNING n) _ _ hr,
      State.fld_set_same _ rfl]
    rfl
  · exact (State.bitOf_setBit _ (by decide) (show n < 8 from hn) false n).trans (if_pos rfl)

theorem answers_tdmFrame_starts (hsh : Shaped s) (hn : n < s.tdmPorts) (h1 : (s.tp n).pendMap = false) (h2 : (s.tp n).pendCfg = false)
    (hl : s.portLive n = true) (hk : s.clk.running = true) (hr : s.tdmRunning n = false) (hm : cfgMaster (s.tp n).opCfg = false)
    (hloop : s.fld (F.TDM_CTL_LOOP n) = 0) (hc : s.on (F.TDM_STATUS_NO_CLOCK n) = false) :
    Answers (.tdmFrame n din false dt) s fun t =>
      t.tdmRunning n = true ∧ t.fld (F.TDM_STATUS_GAIN_STATE n) = 2 ∧ t.bitOf F.TDM_SENSE_OK_PORT n = false ∧
      (t.tp n).inBuf = centred (s.zeroSlots n) ++ [(List.range (cfgSlots (s.tp n).opCfg)).map fun k => getAt din k 0] ∧
      (t.tp n).clocksGone = false ∧ MemKept s t := by
  have hn8 := port_lt hn
  obtain ⟨-, -, -, -, -, hlen, -⟩ := hsh
  set x := s.fresh.advance dt with hx
  have hxc : Chg (Listed timeRegs) (Parts [.time, .clk, .mgmt]) NoMem s x := chg_advanced s dt
  have hxp : x.tp n = s.tp n := tp_elapsed s dt n
  have hxl : n < x.tdm.length := by rw [tdm_elapsed, hlen]; exact hn8
  have hxr : x.tdmRunning n = false := (tdmRunning_elapsed s dt hn8).trans hr
  have hxn : x.on (F.TDM_STATUS_NO_CLOCK n) = false :=
    (State.on_of_reg (f := F.TDM_STATUS_NO_CLOCK n) (tdmReg_elapsed s dt (by simp only [A.TDM_STATUS]; omega))).trans hc
  set y := x.startedSilent n with hy
  have hyc := startedSilent_chg x n
  have hyl : n < y.tdm.length := by rw [hy, startedSilent_length]; exact hxl
  have hyp : y.tp n = { s.tp n with clean := 0, dirty := true, senseClean := 0 } := by rw [hy, startedSilent_port hxl, hxp]
  obtain ⟨hyg, hyr, hyb⟩ := startedSilent_fields x hn8
  set z := y.tpUpd n (fun p => { p with inBuf := centred (s.zeroSlots n), lastIdx := x.chainIdx }) with hz
  have hzl : n < z.tdm.length := by rw [hz, State.tdm_tpUpd_length]; exact hyl
  have hzp : z.tp n = { s.tp n with
      clean := 0, dirty := true, senseClean := 0, inBuf := centred (s.zeroSlots n), lastIdx := x.chainIdx } := by
    rw [hz, State.tp_tpUpd_same hyl, hyp]
  have hzf : z.tdmFill n < 8 := by
    rw [State.tdmFill, hzp]
    exact (show 4 < 8 by decide)
  have hzq : x.chainIdx ≤ (z.tp n).lastIdx := by rw [hzp]
  have hready : (x.freshened n).slaveReady n x.chainIdx false (!x.tdmRunning n) = z := by
    rw [freshened_starts hxr hxn, ← hy, State.slaveReady, hxr, Bool.not_false, State.when_true, State.when_false, hz, State.zeroSlots, hyp, State.zeroSlots]
  have heff : x.tdmFrame n din false = z.slaveDone n x.chainIdx din :=
    tdmFrame_slave (by rw [hxp, h1]) (by rw [hxp, h2]) ((portLive_elapsed s dt n).trans hl) ((State.running_elapsed s dt).trans hk)
      (by rw [freshened_starts hxr hxn, ← hy, hyp]; exact hm) hready hzq
  set u := z.slaveDone n x.chainIdx din with hu
  have huc : Chg (fun a => a = A.TDM_STATUS n ∨ a = A.TDM_PHASE n) (Parts [.free, .tdm]) NoMem z u := slaveDone_chg hzf _ _
  have hzc : Chg (fun a => a = A.TDM_STATUS n ∨ a = A.TDM_RATE n ∨ a = A.TDM_SENSE_OK) (Parts [.tdm]) NoMem x z := hyc.tpUpd _ _ (by simp)
  have hall : Chg AnyReg AnyPart NoMem s u := hxc.wide.trans (hzc.wide.trans huc.wide)
  obtain ⟨d, i, hup⟩ := slaveDone_port hzl hzf x.chainIdx din
  have hzloop : z.fld (F.TDM_CTL_LOOP n) = 0 := by
    refine ((hzc.fld ?_).trans (loop_elapsed s dt hn8)).trans hloop
    simp only [A.TDM_CTL, A.TDM_STATUS, A.TDM_RATE, A.TDM_SENSE_OK]
    omega
  rw [← hu, inFrame_pads hzloop, hzp] at hup
  have hstat : 0xa0000 ≤ A.TDM_STATUS n ∧ A.TDM_STATUS n < 0xb0000 := by simp only [A.TDM_STATUS]; omega
  refine answers_effect _ (State.runIf_true s (decide_eq_true hn) _) heff hall ⟨?_, ?_, ?_, ?_, ?_, hall.memKept⟩
  · rw [State.tdmRunning, tdm_on_sealed hstat, State.on, hu, slaveDone_fld hzf _ _ rfl (by simp [Fld.free, Fld.ok, Fld.apart]), hz, State.fld_tpUpd, hyr]
    rfl
  · rw [tdm_fld_sealed hstat, hu, slaveDone_fld hzf _ _ rfl (by simp [Fld.free, Fld.ok, Fld.apart]), hz, State.fld_tpUpd, hyg]
  · have hne : A.TDM_SENSE_OK ≠ A.TDM_STATUS n ∧ A.TDM_SENSE_OK ≠ A.TDM_PHASE n := by simp only [A.TDM_SENSE_OK, A.TDM_STATUS, A.TDM_PHASE]; omega
    have hsame : u.fld F.TDM_SENSE_OK_PORT = y.fld F.TDM_SENSE_OK_PORT := by
      rw [huc.fld (g := F.TDM_SENSE_OK_PORT) (not_or.mpr hne), hz, State.fld_tpUpd]
    rw [tdm_bitOf_sealed (by decide), State.bitOf, hsame]
    exact hyb
  · rw [State.tp_of_tdm (State.seal_tdm s _), hup]
    rfl
  · rw [State.tp_of_tdm (State.seal_tdm s _), hup]

end

/-- Settles O48: each clause of a TDM port's frames, supervision, gain, configuration and maps is a lemma above. -/
theorem tdmPorts : Obligations.TdmPorts := by
  exact ⟨fun s n dt din bad hn h1 h2 h => answers_tdmFrame_dead hn h1 h2 h,
    fun s n dt din bad hsh hn h1 h2 hl hk hr hm hloop hp => answers_tdmFrame_master hsh hn h1 h2 hl hk hr hm hloop hp,
    fun s n dt k din bad _ hn h1 h2 hl hck hr hm hloop hp ht ha hk hki he hz => answers_tdmFrame_captures hn h1 h2 hl hck hr hm hloop hp ht ha hk hki he hz,
    fun s n dt din hsh hn h1 h2 _ hl hk hr hm _ hg hq hf => answers_tdmFrame_slips hsh hn h1 h2 hl hk hr hm hg hq hf,
    fun s n dt din hsh hn h1 h2 _ hl hk hr hm _ hloop hc => answers_tdmFrame_starts hsh hn h1 h2 hl hk hr hm hloop hc,
    fun s n hsh hn hl hm hc hg => answers_tdmNoClock_lost hsh hn hl hm hc hg,
    fun s n hn h => untouched_tdmNoClock hn h,
    fun s n mHz hn hl hm => answers_tdmRateGate_master hn hl hm,
    fun s n mHz hsh hn hl hm hc hw hg => answers_tdmRateGate_wrong hsh hn hl hm hc hw hg,
    fun s n mHz hsh hn hl hm hc hw hg => answers_tdmRateGate_right hsh hn hl hm hc hw hg,
    fun s n dt hsh hn hg => answers_tdmFadeComplete dt hsh hn hg,
    fun s n hsh hn hg hc => answers_tdmRampStart hsh hn hg hc,
    fun s n hn h => untouched_tdmRampStart hn h,
    fun s n dt hn hg => answers_tdmRampComplete dt hn hg,
    fun s n m priv w hsh hn hd hr hw hf hsw hdw hrun => answers_tdmPortCfgWrite_waits hsh hn hd hr hw hf hsw hdw hrun,
    fun s n m priv w hsh hn hd hr hw hf hsw hdw hrun hc ht => answers_tdmPortCfgWrite_acts hsh hn hd hr hw hf hsw hdw hrun hc ht,
    fun s n m priv w hn hd hr hf hs => answers_tdmPortCfgWrite_reserved hn hd hr hf hs,
    fun s n m priv hsh hn hd hoff hg => answers_tdmMute_on hsh hn hd hoff hg,
    fun s n m priv hsh hn hd hon => answers_tdmMute_off hsh hn hd hon,
    fun s n m priv hn hd => untouched_tdmMute hn hd,
    fun s n mode m priv hn hd => answers_tdmLoop mode hn hd,
    fun s n output k m priv w hsh hn => answers_tdmMapWrite hsh hn output k⟩

end Sys2Proof.Machine
end

section
/-! PROOFS. Core control: STOP, RESUME, RETIRE and CLEAR_RETIRE (R232, R233, R236). -/

namespace Sys2Proof.Machine

/-! ### The command bits -/

theorem coreCtl_row {v : Variant} {c bit : Nat} (hc : c < v.pick 16 8 4) (hb : bit < 5) :
    (rowAt v (A.ENG_CORE_CTL c)).any (fun r => r.strikes (A.ENG_CORE_CTL c) (2 ^ bit)) = true := by
  cases v <;> (replace hc : c < _ := hc; simp only [Variant.pick] at hc; interval_cases c <;> interval_cases bit <;> decide)

theorem regEffect_eng {t : State} {m : Master} {p : Bool} {a : Nat} {old : Word} {d : Nat} (h : a / 0x10000 = 8) :
    t.regEffect m p a old d = t.engEffect a old d := by
  unfold State.regEffect
  rw [h]
  rfl

theorem regEffect_coreCtl {t : State} {m : Master} {p : Bool} {c : Nat} {old : Word} {d : Nat} (hc : c < 16) :
    t.regEffect m p (A.ENG_CORE_CTL c) old d = t.coreCtl c d := by
  have h1 : A.ENG_CORE_CTL c ≠ A.ENG_CFG := by simp only [A.ENG_CORE_CTL, A.ENG_CFG]; omega
  have h2 : A.ENG_CORE_CTL c ≠ A.ENG_PLACE_CTL := by simp only [A.ENG_CORE_CTL, A.ENG_PLACE_CTL]; omega
  have ho : A.ENG_CORE_CTL c % 0x10000 = 0x100 + 4 * c := by simp only [A.ENG_CORE_CTL]; omega
  have hq : (0x100 + 4 * c - 0x100) / 4 = c := by omega
  rw [regEffect_eng (by simp only [A.ENG_CORE_CTL]; omega)]
  unfold State.engEffect
  dsimp only
  rw [if_neg h1, if_neg h2, ho, if_pos (by omega), hq]

section
variable {s : State} {c : Nat} {m : Master} {priv : Bool}

/-- A command bit of a core acts on the core as the write finds it. -/
theorem coreBit_eq (hc : c < s.cores) (hd : Direct s m priv (A.ENG_CORE_CTL c)) {bit : Nat} (hb : bit < 5) :
    s.fresh.coreBit c bit m priv = s.fresh.coreCtl c (2 ^ bit) := by
  obtain ⟨r, hrow, hs⟩ := (Option.any_eq_true _ _).mp (coreCtl_row (v := s.variant) hc hb)
  rw [State.coreBit, State.strike_direct s.fresh m priv _ _ hd ⟨r, hrow, hs⟩, regEffect_coreCtl (Nat.lt_of_lt_of_le hc s.cores_le)]

variable (s c) in
theorem coreCtl_stop : s.coreCtl c (2 ^ 0) =
    if s.coreState c = 3 then
      (match (s.set (F.ENG_CORE_STATUS_STATE c) 5).progsAll c with
      | [] => s.set (F.ENG_CORE_STATUS_STATE c) 5
      | m :: _ => (s.set (F.ENG_CORE_STATUS_STATE c) 5).enterProg c m)
    else s.event F.ENG_EVT_CTL_REFUSED := rfl

variable (s c) in
theorem coreCtl_resume : s.coreCtl c (2 ^ 1) =
    if s.coreState c = 5 then
      (s.coreUpd c (fun k => { k with prog := none, half := none, loops := [(0, 0), (0, 0)] })).set (F.ENG_CORE_STATUS_STATE c) 3
    else s.event F.ENG_EVT_CTL_REFUSED := rfl

variable (s c) in
theorem coreCtl_step : s.coreCtl c (2 ^ 2) = if s.coreState c = 5 then s.coreStepOp c else s.event F.ENG_EVT_CTL_REFUSED := rfl

variable (s c) in
theorem coreCtl_retire : s.coreCtl c (2 ^ 3) =
    if s.coreState c = 0 ∨ s.coreState c = 6 then s.event F.ENG_EVT_CTL_REFUSED else s.coreRetire c 4 := rfl

variable (s c) in
theorem coreCtl_clear : s.coreCtl c (2 ^ 4) =
    if s.coreState c = 6 then
      (((s.set (F.ENG_CORE_STATUS_STATE c) 1).updTest (fun t => { t with clearing := t.clearing ||| 2 ^ c })).testQueue (12 + c / 4) 5)
    else s.event F.ENG_EVT_CTL_REFUSED := rfl

/-! ### A command that the core's state does not take -/

/-- A core command whose state does not take it. -/
theorem answers_coreRefused {i : Instr} {bit : Nat} (hx : exec i s = s.runIf (decide (c < s.cores)) fun s => s.coreBit c bit m priv) (hc : c < s.cores)
    (hd : Direct s m priv (A.ENG_CORE_CTL c)) (hb : bit < 5) (h : s.fresh.coreCtl c (2 ^ bit) = s.fresh.event F.ENG_EVT_CTL_REFUSED) :
    Answers i s fun t => t.on F.ENG_EVT_CTL_REFUSED = true ∧ Framed [A.ENG_EVT] [] s t := by
  have hframe : Chg (Listed [A.ENG_EVT]) (Parts []) NoMem s (s.fresh.event F.ENG_EVT_CTL_REFUSED) := Chg.refl.fresh.event _ (by simp)
  refine answers_effect _ (hx.trans (State.runIf_true s (decide_eq_true hc) _)) ((coreBit_eq hc hd hb).trans h) hframe ⟨?_, hframe.framed⟩
  rw [State.on_seal _ _ (by decide)]
  exact State.on_event_same _ (by decide)

theorem coreStop_refused (hc : c < s.cores) (hd : Direct s m priv (A.ENG_CORE_CTL c)) (h : s.coreState c ≠ 3) :
    Answers (.coreStop c m priv) s fun t => t.on F.ENG_EVT_CTL_REFUSED = true ∧ Framed [A.ENG_EVT] [] s t :=
  answers_coreRefused rfl hc hd (by decide) ((coreCtl_stop s.fresh c).trans (if_neg h))

theorem coreStep_refused (hc : c < s.cores) (hd : Direct s m priv (A.ENG_CORE_CTL c)) (h : s.coreState c ≠ 5) :
    Answers (.coreStep c m priv) s fun t => t.on F.ENG_EVT_CTL_REFUSED = true ∧ Framed [A.ENG_EVT] [] s t :=
  answers_coreRefused rfl hc hd (by decide) ((coreCtl_step s.fresh c).trans (if_neg h))

theorem coreResume_refused (hc : c < s.cores) (hd : Direct s m priv (A.ENG_CORE_CTL c)) (h : s.coreState c ≠ 5) :
    Answers (.coreResume c m priv) s fun t => t.on F.ENG_EVT_CTL_REFUSED = true ∧ Framed [A.ENG_EVT] [] s t :=
  answers_coreRefused rfl hc hd (by decide) ((coreCtl_resume s.fresh c).trans (if_neg h))

theorem coreRetire_refused (hc : c < s.cores) (hd : Direct s m priv (A.ENG_CORE_CTL c)) (h : s.coreState c = 0 ∨ s.coreState c = 6) :
    Answers (.coreRetire c m priv) s fun t => t.on F.ENG_EVT_CTL_REFUSED = true ∧ Framed [A.ENG_EVT] [] s t :=
  answers_coreRefused rfl hc hd (by decide) ((coreCtl_retire s.fresh c).trans (if_pos h))

theorem coreClearRetire_refused (hc : c < s.cores) (hd : Direct s m priv (A.ENG_CORE_CTL c)) (h : s.coreState c ≠ 6) :
    Answers (.coreClearRetire c m priv) s fun t => t.on F.ENG_EVT_CTL_REFUSED = true ∧ Framed [A.ENG_EVT] [] s t :=
  answers_coreRefused rfl hc hd (by decide) ((coreCtl_clear s.fresh c).trans (if_neg h))

/-! ### STOP and RESUME (R233) -/

theorem CoreMoves.setStatus (c : Nat) (s : State) {f : Fld} (hf : f.adr = A.ENG_CORE_STATUS c) (v : Nat) : CoreMoves c s (s.set f v) where
  cores k _ := by simp [State.core]
  count := by simp
  eng := by simp
  regs a ha := s.reg_set_ne _ v (by rw [hf]; exact ha)
  mem := by simp
  parts p _ := by cases p <;> simp [Part.Same]
  variant := by simp

/-- What a command answers changes only the core that its effect moves, from where a command starts. -/
theorem CoreMoves.coreOnly_fresh {u : State} (h : CoreMoves c s.fresh u) : CoreOnly c [] s (s.seal u) :=
  CoreMoves.coreOnly (s := s) ⟨h.cores, h.count, h.eng, h.regs, h.mem, h.parts, h.variant⟩

section
variable {u : State} (h : CoreMoves c s u) (hc : c < 16)
include h

theorem moved_comp : u.eng.comp = s.eng.comp := by simpa using congrArg EngS.comp h.eng

theorem moved_efLen : u.efLen = s.efLen := by
  have hr : u.fld F.CLK_MEDIA_CFG_RATE = s.fld F.CLK_MEDIA_CFG_RATE :=
    State.fld_eq_of_reg (h.regs _ (by simp only [A.CLK_MEDIA_CFG, A.ENG_CORE_STATUS]; omega))
  rw [State.efLen, State.rateMul, hr, State.efLen, State.rateMul]

include hc

theorem moved_desc {f : Fld} (hf : 0x81000 ≤ f.adr) : u.place f = s.place f :=
  h.place (by simp only [A.ENG_CORE_STATUS]; omega)
theorem moved_progsAll (k : Nat) : u.progsAll k = s.progsAll k := by
  have hone (p q : Nat) : u.progOn p q = s.progOn p q := by
    rw [State.progOn, moved_desc h hc (f := F.ENG_DESC_W0_PLACED p) (by simp only [A.ENG_DESC_W0]; omega),
      moved_desc h hc (f := F.ENG_DESC_W0_CORE p) (by simp only [A.ENG_DESC_W0]; omega), State.progOn]
  have hphase (q : Nat) : u.progsOf k q = s.progsOf k q := by
    refine List.filter_congr fun p _ => ?_
    rw [hone, moved_desc h hc (f := F.ENG_DESC_W0_PHASE p) (by simp only [A.ENG_DESC_W0]; omega)]
  rw [State.progsAll, funext hphase, State.progsAll]

theorem moved_entryRegs (k p : Nat) : u.entryRegs k p = s.entryRegs k p := by
  have hcomp := moved_comp h
  have hrate : u.fld F.CLK_MEDIA_CFG_RATE = s.fld F.CLK_MEDIA_CFG_RATE :=
    State.fld_eq_of_reg (h.regs _ (by simp only [A.CLK_MEDIA_CFG, A.ENG_CORE_STATUS]; omega))
  rw [State.entryRegs, moved_efLen h, hrate, State.computing, State.curEf, hcomp,
    moved_desc h hc (f := F.ENG_DESC_W3_STATE_BASE p) (by simp only [A.ENG_DESC_W3]; omega),
    moved_desc h hc (f := F.ENG_DESC_W4_SCRATCH_BASE p) (by simp only [A.ENG_DESC_W4]; omega)]
  rfl

end

/-- Fields of CORE_STATUS are not among the summaries. -/
theorem coreStatus_notMem (hc : c < 16) : A.ENG_CORE_STATUS c ∉ summaries := notMem_summaries (by simp only [A.ENG_CORE_STATUS]; omega)

theorem coreState_seal (u : State) (hc : c < 16) : (s.seal u).coreState c = u.coreState c := State.fld_seal_of (coreStatus_notMem hc)

theorem coreState_set (x : State) {v : Nat} (hv : v < 8) : (x.set (F.ENG_CORE_STATUS_STATE c) v).coreState c = v :=
  (State.fld_set_same _ rfl v).trans (Nat.mod_eq_of_lt hv)

theorem place_lt {f : Fld} {k : Nat} (hw : f.width = k) : s.place f < 2 ^ k := by
  rw [State.place, ← hw]
  exact Fld.of_lt f _

theorem coreStop_stops {p : Nat} {l : List Nat} (hsh : Shaped s) (hc : c < s.cores) (hd : Direct s m priv (A.ENG_CORE_CTL c))
    (h : s.coreState c = 3) (hp : s.progsAll c = p :: l) :
    Answers (.coreStop c m priv) s fun t =>
      t.coreState c = 5 ∧ t.fld (F.ENG_CORE_STATUS_PC c) = s.place (F.ENG_DESC_W2_ENTRY p) ∧ (t.core c).prog = some p ∧
      (t.core c).regs = s.entryRegs c p ∧ CoreOnly c [] s t := by
  have hc16 : c < 16 := Nat.lt_of_lt_of_le hc s.cores_le
  set x := s.fresh.set (F.ENG_CORE_STATUS_STATE c) 5 with hx
  have hmx : CoreMoves c s.fresh x := CoreMoves.setStatus c _ rfl 5
  set u := x.enterProg c p with hu
  have heff : s.fresh.coreBit c 0 m priv = u := by
    rw [coreBit_eq hc hd (by decide), coreCtl_stop, if_pos (show s.fresh.coreState c = 3 from h), ← hx,
      (moved_progsAll hmx hc16 c).trans (show s.fresh.progsAll c = p :: l from hp)]
  have hmoves : CoreMoves c s.fresh u := hmx.trans ((CoreMoves.coreUpd c x _).trans (CoreMoves.setPc c _ _))
  have hxl : c < x.eng.cores.length := by rw [hmx.count]; exact length_of_shaped hsh hc
  set y := x.coreUpd c fun k => { k with regs := x.entryRegs c p, prog := some p, half := none, loops := [(0, 0), (0, 0)] } with hy
  have hyl : c < y.eng.cores.length := by rw [hy, (CoreMoves.coreUpd c x _).count]; exact hxl
  have hcore : u.core c = { x.core c with
      regs := x.entryRegs c p, prog := some p, half := none, loops := [(0, 0), (0, 0)], pc := x.place (F.ENG_DESC_W2_ENTRY p) % 4096 } := by
    rw [hu, State.enterProg, ← hy, State.core_setPc_same y hyl, hy, State.core_coreUpd_same x hxl]
  refine answers_runIf _ _ rfl (decide_eq_true hc) heff hmoves.variant ⟨?_, ?_, ?_, ?_, hmoves.coreOnly_fresh⟩
  · rw [coreState_seal u hc16, State.coreState, hu, State.enterProg, State.setPc, State.fld_keep_free _ (by simp [Fld.free, Fld.ok, Fld.apart])]
    exact coreState_set s.fresh (by decide)
  · have hentry : x.place (F.ENG_DESC_W2_ENTRY p) = s.place (F.ENG_DESC_W2_ENTRY p) :=
      moved_desc hmx hc16 (f := F.ENG_DESC_W2_ENTRY p) (by simp only [A.ENG_DESC_W2]; omega)
    have hlt : s.place (F.ENG_DESC_W2_ENTRY p) < 4096 := place_lt (k := 12) rfl
    rw [State.fld_seal_of (f := F.ENG_CORE_STATUS_PC c) (coreStatus_notMem hc16), hu, State.enterProg, State.setPc, hentry, Nat.mod_eq_of_lt hlt]
    exact State.fld_keep_same _ rfl hlt
  · rw [core_seal, hcore]
  · rw [core_seal, hcore]
    exact moved_entryRegs hmx hc16 c p

theorem coreResume_resumes (hsh : Shaped s) (hc : c < s.cores) (hd : Direct s m priv (A.ENG_CORE_CTL c)) (h : s.coreState c = 5) :
    Answers (.coreResume c m priv) s fun t => t.coreState c = 3 ∧ (t.core c).prog = none ∧ CoreOnly c [] s t := by
  have hc16 : c < 16 := Nat.lt_of_lt_of_le hc s.cores_le
  set x := s.fresh.coreUpd c fun k => { k with prog := none, half := none, loops := [(0, 0), (0, 0)] } with hx
  have heff : s.fresh.coreBit c 1 m priv = x.set (F.ENG_CORE_STATUS_STATE c) 3 := by
    rw [coreBit_eq hc hd (by decide), coreCtl_resume, if_pos (show s.fresh.coreState c = 5 from h)]
  have hset := CoreMoves.setStatus c x (f := F.ENG_CORE_STATUS_STATE c) rfl 3
  have hmoves : CoreMoves c s.fresh (x.set (F.ENG_CORE_STATUS_STATE c) 3) := (CoreMoves.coreUpd c s.fresh _).trans hset
  refine answers_runIf _ _ rfl (decide_eq_true hc) heff hmoves.variant ⟨?_, ?_, hmoves.coreOnly_fresh⟩
  · rw [coreState_seal _ hc16]
    exact coreState_set x (by decide)
  · rw [core_seal, State.core, State.set_eng, ← State.core, hx, State.core_coreUpd_same s.fresh (length_of_shaped hsh hc)]

/-! ### RETIRE and CLEAR_RETIRE (R236, R238) -/

theorem retireOwed_retired (x : State) (c cause : Nat) : (c, cause) ∈ (x.retireOwed c cause).mgmt.retiredCores := by
  have hsave (y : State) : y.requestSave.mgmt.retiredCores = y.mgmt.retiredCores := by
    unfold State.requestSave
    split
    · rw [State.set_mgmt]
    · rw [State.set_mgmt]
      rfl
  rw [State.retireOwed, hsave]
  exact List.mem_cons_self

/-- The placed flags of a core's programs are cleared. -/
theorem unplaced (x : State) (c : Nat) {p : Nat} (hp : p < 64) (hcore : x.fld (F.ENG_DESC_W0_CORE p) = c) :
    (forL ((List.range 64).filter (fun m => x.on (F.ENG_DESC_W0_PLACED m) && x.fld (F.ENG_DESC_W0_CORE m) == c))
      (fun m s => s.set (F.ENG_DESC_W0_PLACED m) 0) x).on (F.ENG_DESC_W0_PLACED p) = false := by
  have hstays (l : List Nat) : ∀ y : State, y.on (F.ENG_DESC_W0_PLACED p) = false →
      (forL l (fun m s => s.set (F.ENG_DESC_W0_PLACED m) 0) y).on (F.ENG_DESC_W0_PLACED p) = false := fun y hy =>
    forL_induction l _ (p := fun y => y.on (F.ENG_DESC_W0_PLACED p) = false) (fun m _ z hz => by
      by_cases hm : m = p
      · rw [hm, State.on, State.fld_set_same _ rfl]
        rfl
      · rw [State.on, State.fld_set_ne (f := F.ENG_DESC_W0_PLACED m) (g := F.ENG_DESC_W0_PLACED p) _ _ (by simp only [A.ENG_DESC_W0]; omega)]
        exact hz) hy
  by_cases hon : x.on (F.ENG_DESC_W0_PLACED p) = true
  · have hmem : p ∈ (List.range 64).filter (fun m => x.on (F.ENG_DESC_W0_PLACED m) && x.fld (F.ENG_DESC_W0_CORE m) == c) := by
      rw [List.mem_filter, List.mem_range, hon, hcore]
      exact ⟨hp, by simp⟩
    obtain ⟨l1, l2, hl⟩ := List.append_of_mem hmem
    rw [hl, forL, List.foldl_append, List.foldl_cons]
    refine hstays l2 _ ?_
    rw [State.on, State.fld_set_same _ rfl]
    rfl
  · exact hstays _ x (Bool.not_eq_true _ ▸ hon)

/-- What a retirement does beside its programs' placed flags. -/
theorem retireOwed_rest (x : State) (c cause : Nat) :
    Chg (Listed [A.ENG_EVT, A.MGMT_EVT, A.MGMT_CFG_STATUS]) (Parts [.eng, .mgmt]) NoMem
      (forL ((List.range 64).filter (fun m => x.on (F.ENG_DESC_W0_PLACED m) && x.fld (F.ENG_DESC_W0_CORE m) == c))
        (fun m s => s.set (F.ENG_DESC_W0_PLACED m) 0) x) (x.retireOwed c cause) := by
  unfold State.retireOwed
  refine (chg_requestSave (by simp [Listed]) (by simp)).mpr (Chg.updMgmt ?_ _ (by simp))
  refine Chg.log (Chg.event ?_ _ (by simp [Listed])) _ _ _ _ (by simp [Listed]) (by simp)
  exact Chg.refl.when _ _ fun _ => Chg.refl.eng _ (by simp)

theorem retireOwed_unplaced (x : State) (c cause : Nat) {p : Nat} (hp : p < 64) (hcore : x.fld (F.ENG_DESC_W0_CORE p) = c) :
    (x.retireOwed c cause).on (F.ENG_DESC_W0_PLACED p) = false := by
  have hne : (F.ENG_DESC_W0_PLACED p).adr ∉ [A.ENG_EVT, A.MGMT_EVT, A.MGMT_CFG_STATUS] ++ summaries := by
    refine fun h => (List.mem_append.mp h).elim (fun h => ?_) fun h => ?_
    · simp only [List.mem_cons, List.not_mem_nil, or_false, A.ENG_DESC_W0, A.ENG_EVT, A.MGMT_EVT, A.MGMT_CFG_STATUS] at h
      omega
    · exact notMem_summaries (a := A.ENG_DESC_W0 p) (by simp only [A.ENG_DESC_W0]; omega) h
  rw [(retireOwed_rest x c cause).on_off (g := F.ENG_DESC_W0_PLACED p) hne]
  exact unplaced x c hp hcore

theorem coreRetire_retires (hc : c < s.cores) (hd : Direct s m priv (A.ENG_CORE_CTL c)) (h0 : s.coreState c ≠ 0) (h6 : s.coreState c ≠ 6) :
    Answers (.coreRetire c m priv) s fun t =>
      t.coreState c = 6 ∧ t.fld (F.ENG_CORE_STATUS_CAUSE c) = 4 ∧ t.on F.ENG_EVT_RETIRED = true ∧
      (∀ p < 64, s.fld (F.ENG_DESC_W0_CORE p) = c → t.on (F.ENG_DESC_W0_PLACED p) = false) ∧ (c, 4) ∈ t.mgmt.retiredCores ∧
      Framed ([A.ENG_CORE_STATUS c, A.ENG_EVT, A.MGMT_EVT, A.MGMT_CFG_STATUS] ++ (List.range 64).map fun p => A.ENG_DESC_W0 p)
        [.eng, .mgmt] s t := by
  have hc16 : c < 16 := Nat.lt_of_lt_of_le hc s.cores_le
  set x := (s.fresh.set (F.ENG_CORE_STATUS_STATE c) 6).set (F.ENG_CORE_STATUS_CAUSE c) 4 with hx
  set u := x.retireOwed c 4 with hu
  have heff : s.fresh.coreBit c 3 m priv = u := by
    have hn : ¬ (s.fresh.coreState c = 0 ∨ s.fresh.coreState c = 6) := not_or.mpr ⟨h0, h6⟩
    rw [coreBit_eq hc hd (by decide), coreCtl_retire, if_neg hn, State.coreRetire_eq (s := s.fresh) h6]
  set l := [A.ENG_CORE_STATUS c, A.ENG_EVT, A.MGMT_EVT, A.MGMT_CFG_STATUS] ++ (List.range 64).map fun p => A.ENG_DESC_W0 p with hl
  have hxc : Chg (Listed l) (Parts [.eng, .mgmt]) NoMem s x := (Chg.refl.fresh.set _ _ (by simp [hl, Listed])).set _ _ (by simp [hl, Listed])
  have howed := chg_retireOwed (s := x) (c := c) 4
  have hframe : Chg (Listed l) (Parts [.eng, .mgmt]) NoMem s u := by
    refine hxc.trans (howed.mono (fun a ha => .inl ?_) (fun _ h => h) fun _ h => h)
    rcases ha with ⟨p, hp, rfl⟩ | rfl | rfl | rfl
    · exact List.mem_append_right _ (List.mem_map.mpr ⟨p, List.mem_range.mpr hp, rfl⟩)
    all_goals exact List.mem_append_left _ (by simp)
  have hstat {g : Fld} (hg : g.adr = A.ENG_CORE_STATUS c) : (s.seal u).fld g = x.fld g := by
    rw [State.fld_seal_of (by rw [hg]; exact coreStatus_notMem hc16)]
    refine howed.fld ?_
    rw [hg]
    simp only [A.ENG_CORE_STATUS, A.ENG_DESC_W0, A.ENG_EVT, A.MGMT_EVT, A.MGMT_CFG_STATUS]
    omega
  refine answers_runIf _ _ rfl (decide_eq_true hc) heff hframe.variant ⟨?_, ?_, ?_, fun p hp hcore => ?_, ?_, hframe.framed⟩
  · rw [State.coreState, hstat rfl, hx, State.fld_set_free _ (by simp [Fld.free, Fld.ok, Fld.apart])]
    exact coreState_set s.fresh (by decide)
  · rw [hstat rfl, hx]
    exact (State.fld_set_same _ rfl 4).trans (Nat.mod_eq_of_lt (show 4 < 2 ^ 4 by decide))
  · rw [State.on_seal _ _ (by decide)]
    exact retireOwed_event x c 4
  · rw [State.on_seal_of (f := F.ENG_DESC_W0_PLACED p) (notMem_summaries (by simp only [A.ENG_DESC_W0]; omega))]
    have hne : A.ENG_DESC_W0 p ≠ A.ENG_CORE_STATUS c := by simp only [A.ENG_DESC_W0, A.ENG_CORE_STATUS]; omega
    refine retireOwed_unplaced x c 4 hp ?_
    rw [hx, State.fld_set_ne (f := F.ENG_CORE_STATUS_CAUSE c) (g := F.ENG_DESC_W0_CORE p) _ _ hne,
      State.fld_set_ne (f := F.ENG_CORE_STATUS_STATE c) (g := F.ENG_DESC_W0_CORE p) _ _ hne]
    exact hcore
  · rw [State.seal_mgmt]
    exact retireOwed_retired x c 4

theorem coreClearRetire_queues (hc : c < s.cores) (hd : Direct s m priv (A.ENG_CORE_CTL c)) (h : s.coreState c = 6)
    (hq : s.bitOf F.TEST_QUEUED_MASK (12 + c / 4) = false) (hr : s.test.running ≠ some (12 + c / 4)) :
    Answers (.coreClearRetire c m priv) s fun t =>
      t.coreState c = 1 ∧ t.bitOf F.TEST_QUEUED_MASK (12 + c / 4) = true ∧ t.fld (F.TEST_RES_W0_STATE (12 + c / 4)) = 1 ∧
      t.fld (F.TEST_RES_W0_ORIGIN (12 + c / 4)) = 5 ∧
      Framed [A.ENG_CORE_STATUS c, A.TEST_QUEUED, A.TEST_RES_W0 (12 + c / 4)] [.test] s t := by
  have hc16 : c < 16 := Nat.lt_of_lt_of_le hc s.cores_le
  have hb : 12 + c / 4 < 32 := by omega
  set b := 12 + c / 4 with hbdef
  set x := (s.fresh.set (F.ENG_CORE_STATUS_STATE c) 1).updTest (fun t => { t with clearing := t.clearing ||| 2 ^ c }) with hx
  set u := x.testQueue b 5 with hu
  have heff : s.fresh.coreBit c 4 m priv = u := by
    rw [coreBit_eq hc hd (by decide), coreCtl_clear, if_pos (show s.fresh.coreState c = 6 from h)]
  have hxc : Chg (Listed [A.ENG_CORE_STATUS c, A.TEST_QUEUED, A.TEST_RES_W0 b]) (Parts [.test]) NoMem s x :=
    (Chg.refl.fresh.set _ _ (by simp [Listed])).updTest _ (by simp)
  have hframe : Chg (Listed [A.ENG_CORE_STATUS c, A.TEST_QUEUED, A.TEST_RES_W0 b]) (Parts [.test]) NoMem s u :=
    hxc.testQueue b 5 (by simp [Listed]) (by simp [Listed]) (by simp)
  have hpresent : blockPresent s.variant b = true := by
    rw [hbdef]
    replace hc : c < s.variant.pick 16 8 4 := hc
    generalize s.variant = v at hc
    cases v <;> (replace hc : c < _ := hc; simp only [Variant.pick] at hc; interval_cases c <;> rfl)
  have hqueues : x.queues b := by
    refine ⟨by rw [hxc.variant]; exact hpresent, ?_, hr⟩
    have hne : A.TEST_QUEUED ≠ A.ENG_CORE_STATUS c := by simp only [A.TEST_QUEUED, A.ENG_CORE_STATUS]; omega
    rw [State.bitOf, hx, State.fld_updTest, State.fld_set_ne (f := F.ENG_CORE_STATUS_STATE c) (g := F.TEST_QUEUED_MASK) _ _ hne]
    exact hq
  obtain ⟨h1, h2, h3⟩ := isQueued_testQueue hb (o := 5) (by decide) hqueues
  have hn := resW0_notMem b hb
  refine answers_runIf _ _ rfl (decide_eq_true hc) heff hframe.variant ⟨?_, ?_, ?_, ?_, hframe.framed⟩
  · have hkept : Chg (fun a => a = A.TEST_QUEUED ∨ a = A.TEST_RES_W0 b) (Parts [.test]) NoMem x u :=
      Chg.refl.testQueue b 5 (.inl rfl) (.inr rfl) (by simp)
    have hne : ¬ (A.ENG_CORE_STATUS c = A.TEST_QUEUED ∨ A.ENG_CORE_STATUS c = A.TEST_RES_W0 b) := by
      simp only [A.ENG_CORE_STATUS, A.TEST_QUEUED, A.TEST_RES_W0]; omega
    rw [coreState_seal u hc16, State.coreState, hkept.fld hne, hx, State.fld_updTest]
    exact coreState_set s.fresh (by decide)
  · exact (State.bitOf_seal _ _ (by decide) b).trans h1
  · exact (State.fld_seal_of (f := F.TEST_RES_W0_STATE b) hn).trans h2
  · exact (State.fld_seal_of (f := F.TEST_RES_W0_ORIGIN b) hn).trans h3

end

end Sys2Proof.Machine
end

section
/-! PROOFS. Overruns and forced halts (R234, R235). -/

namespace Sys2Proof.Machine

theorem satOf_halts {c : Nat} (hc : c < 16) :
    satOf (A.ENG_CORE_OVERRUNS c) = ⟨A.ENG_CORE_SAT c, (satOf (A.ENG_CORE_OVERRUNS c)).bit, some F.ENG_EVT_CNT_SAT⟩ ∧
      satOf (A.ENG_CORE_FORCED_HALTS c) = ⟨A.ENG_CORE_SAT c, (satOf (A.ENG_CORE_FORCED_HALTS c)).bit, some F.ENG_EVT_CNT_SAT⟩ := by
  interval_cases c <;> exact ⟨rfl, rfl⟩

theorem bumpOk_halts {c : Nat} (hc : c < 16) : bumpOk (A.ENG_CORE_OVERRUNS c) = true ∧ bumpOk (A.ENG_CORE_FORCED_HALTS c) = true := by
  interval_cases c <;> decide

section
variable {s : State} {c : Nat}

theorem answers_coreOverrun {k : Comp} (hc : c < s.cores) (hk : s.eng.comp = some k) (hw : s.working c = true) (ho : k.overrun.testBit c = false) :
    Answers (.coreOverrun c) s fun t =>
      Counts s t (A.ENG_CORE_OVERRUNS c) 1 ∧ t.on F.ENG_EVT_OVERRUN = true ∧ t.core c = s.core c ∧
      Framed [A.ENG_CORE_OVERRUNS c, A.ENG_CORE_SAT c, A.ENG_EVT] [.eng] s t := by
  have hc16 : c < 16 := Nat.lt_of_lt_of_le hc s.cores_le
  set x := s.fresh.updEng fun e => { e with comp := some { k with overrun := k.overrun ||| 2 ^ c } } with hx
  set u := (x.inc (A.ENG_CORE_OVERRUNS c)).event F.ENG_EVT_OVERRUN with hu
  have heff : s.fresh.coreOverrun c = u := by
    unfold State.coreOverrun
    rw [show s.fresh.eng.comp = some k from hk]
    dsimp only
    rw [show s.fresh.working c = true from hw, ho]
    rfl
  obtain ⟨hsat, -⟩ := satOf_halts hc16
  have hframe : Chg (Listed [A.ENG_CORE_OVERRUNS c, A.ENG_CORE_SAT c, A.ENG_EVT]) (Parts [.eng]) NoMem s u := by
    refine Chg.event (Chg.inc (Chg.refl.fresh.updEng _ (by simp)) _ (by simp [Listed]) ?_ ?_) _ (by simp [Listed])
    · rw [hsat]; simp [Listed]
    · rw [hsat]; simp [Listed]
  refine answers_runIf _ _ rfl (decide_eq_true hc) heff hframe.variant ⟨?_, ?_, ?_, hframe.framed⟩
  · have hne : A.ENG_CORE_OVERRUNS c ∉ summaries := notMem_summaries (by simp only [A.ENG_CORE_OVERRUNS]; omega)
    rw [Counts, State.rd_seal _ _ hne, hu, State.rd_event_ne (by simp only [A.ENG_CORE_OVERRUNS, A.ENG_EVT]; omega), State.rd_inc_counts (bumpOk_halts hc16).1]
    rfl
  · rw [State.on_seal _ _ (by decide)]
    exact State.on_event_same _ (by decide)
  · rw [core_seal, State.core, hu, State.event_eng, State.inc_eng]
    rfl

/-! ### A forced halt -/

/-- The core is out of the computation, halted by force. -/
def State.halted (s : State) (c : Nat) : State :=
  (s.coreOut c).updEng (fun e => { e with comp := e.comp.map (fun k => { k with halted := k.halted ||| 2 ^ c }) })

/-- The halt is counted, and shown with its cause. -/
def State.haltNoted (s : State) (c : Nat) : State :=
  ((s.inc (A.ENG_CORE_FORCED_HALTS c)).event F.ENG_EVT_FORCED_HALT).set (F.ENG_CORE_STATUS_CAUSE c) 5

/-- The halts in a row. -/
def State.consecSet (s : State) (c : Nat) : State := s.set (F.ENG_CORE_STATUS_CONSEC c) (min 3 (s.fld (F.ENG_CORE_STATUS_CONSEC c) + 1))

theorem forcedHalt_eq (hw : s.working c = true) : s.forcedHalt c =
    (((s.halted c).haltNoted c).consecSet c).when (min 3 (((s.halted c).haltNoted c).fld (F.ENG_CORE_STATUS_CONSEC c) + 1) == 3)
      (fun s => s.coreRetire c 2) := by
  unfold State.forcedHalt
  rw [if_pos hw]
  rfl

theorem halted_chg (s : State) (c : Nat) : Chg (fun _ => False) (Parts [.eng]) (fun _ => True) s (s.halted c) :=
  Chg.updEng (Chg.refl.coreOut (by simp) (fun _ => trivial) c) _ (by simp)

theorem haltNoted_chg (s : State) (hc : c < 16) :
    Chg (Listed [A.ENG_CORE_FORCED_HALTS c, A.ENG_CORE_SAT c, A.ENG_EVT, A.ENG_CORE_STATUS c]) (Parts []) NoMem s (s.haltNoted c) := by
  obtain ⟨-, hsat⟩ := satOf_halts hc
  refine Chg.set (Chg.event (Chg.inc Chg.refl _ (by simp [Listed]) ?_ ?_) _ (by simp [Listed])) _ _ (by simp [Listed])
  · rw [hsat]; simp [Listed]
  · rw [hsat]; simp [Listed]

/-- Fields of CORE_STATUS beside CAUSE are as they were. -/
theorem haltNoted_status (s : State) (hc : c < 16) {f : Fld} (hf : f.adr = A.ENG_CORE_STATUS c) (hfree : Fld.free (F.ENG_CORE_STATUS_CAUSE c) f = true) :
    ((s.halted c).haltNoted c).fld f = s.fld f := by
  have hbump : bumpFree f.adr (A.ENG_CORE_FORCED_HALTS c) = true := by
    rw [hf]
    interval_cases c <;> decide
  have hne : f.adr ≠ A.ENG_EVT := by rw [hf]; simp only [A.ENG_CORE_STATUS, A.ENG_EVT]; omega
  rw [State.haltNoted, State.fld_set_free _ hfree, State.fld_eq_of_reg (State.reg_event_ne _ _ hne), State.fld_inc_free hbump, (halted_chg s c).fld id]

/-- The engine keeps as many cores as it has. -/
def SameCount (s u : State) : Prop := u.eng.cores.length = s.eng.cores.length

theorem SameCount.putDly {u : State} (h : SameCount s u) (k q : Nat) (w : Word) : SameCount s (u.putDly k q w) := h

theorem SameCount.xferDo {u : State} (h : SameCount s u) (k : Nat) (x : Xfer) (bad : List Nat) : SameCount s (u.xferDo k x bad) := by
  unfold State.xferDo
  dsimp only
  split
  · refine forN_induction (p := SameCount s) _ _ (fun _ _ _ ht => ?_) h
    exact ht
  · split
    · exact forN_induction (p := SameCount s) _ _ (fun _ _ _ ht => ht.putDly _ _ _) h
    · exact h

theorem SameCount.coreUpd {u : State} (h : SameCount s u) (k : Nat) (f : Core → Core) : SameCount s (u.coreUpd k f) :=
  (CoreMoves.coreUpd k u f).count.trans h

theorem SameCount.xferAll {u : State} (h : SameCount s u) (k : Nat) : SameCount s (u.xferAll k) := by
  refine forL_induction (p := SameCount s) _ _ (fun _ _ t ht => ?_) h
  unfold State.xferPop
  split
  · exact ht
  · exact (ht.xferDo _ _ _).coreUpd _ _

/-- The core has left its computation. -/
theorem halted_out (s : State) (hlen : c < s.eng.cores.length) (hw : s.working c = true) :
    ((s.halted c).core c).prog = none ∧ (s.halted c).computing c = false := by
  obtain ⟨k, hk⟩ : ∃ k, s.eng.comp = some k := by
    rw [State.working, Bool.and_eq_true, State.computing] at hw
    cases h : s.eng.comp with
    | none => rw [h] at hw; exact absurd hw.1 Bool.false_ne_true
    | some k => exact ⟨k, rfl⟩
  set y := forL ((s.progsAll c).filter (fun m => !k.ended.contains m)) (fun m s => s.zeroOut m) s with hy
  have hyc : Chg (fun _ => False) (Parts []) (fun _ => True) s y := Chg.forL _ _ (fun _ _ _ hu => hu.zeroOut (fun _ => trivial) _) Chg.refl
  have heng : y.eng = s.eng := hyc.part .eng (by simp)
  have hsame : SameCount s y := congrArg (fun e : EngS => e.cores.length) heng
  have hcount : SameCount s (y.xferAll c) := hsame.xferAll c
  have hout : s.coreOut c = (y.xferAll c).updEng fun e => { e with
      comp := some { k with out := k.out ||| 2 ^ c }
      cores := updAt e.cores c fun x => { x with prog := none, half := none, loops := [(0, 0), (0, 0)] } } := by
    unfold State.coreOut
    rw [hk]
  have hcomp : (s.halted c).eng.comp = some { k with out := k.out ||| 2 ^ c, halted := k.halted ||| 2 ^ c } := by
    rw [State.halted, hout]
    rfl
  constructor
  · have hcore : (s.halted c).core c = ((y.xferAll c).coreUpd c fun x => { x with prog := none, half := none, loops := [(0, 0), (0, 0)] }).core c := by
      rw [State.halted, hout]
      rfl
    rw [hcore, State.core_coreUpd_same _ (hlen.trans_eq hcount.symm)]
  · rw [State.computing, hcomp]
    simp

/-- The halted core as the third halt, or an earlier one, finds it. -/
def State.haltShown (s : State) (c : Nat) : State := ((s.halted c).haltNoted c).consecSet c

theorem haltShown_chg (s : State) (hc : c < 16) :
    Chg (Listed [A.ENG_CORE_FORCED_HALTS c, A.ENG_CORE_SAT c, A.ENG_EVT, A.ENG_CORE_STATUS c]) (Parts [.eng]) (fun _ => True) s (s.haltShown c) :=
  (((halted_chg s c).mono (fun _ h => h.elim) (fun _ h => h) fun _ h => h).trans
    (((haltNoted_chg _ hc).parts (by simp)).mono (fun _ h => h) (fun _ h => h) fun _ h => h.elim)).set _ _ (by simp [Listed])

theorem haltShown_fields (s : State) (hc : c < 16) :
    (s.haltShown c).fld (F.ENG_CORE_STATUS_CAUSE c) = 5 ∧
    (s.haltShown c).fld (F.ENG_CORE_STATUS_CONSEC c) = min 3 (s.fld (F.ENG_CORE_STATUS_CONSEC c) + 1) ∧
    (s.haltShown c).coreState c = s.coreState c := by
  have hconsec := haltNoted_status s hc (f := F.ENG_CORE_STATUS_CONSEC c) rfl (by simp [Fld.free, Fld.ok, Fld.apart])
  have hstate := haltNoted_status s hc (f := F.ENG_CORE_STATUS_STATE c) rfl (by simp [Fld.free, Fld.ok, Fld.apart])
  rw [State.haltShown, State.consecSet, hconsec]
  refine ⟨?_, ?_, ?_⟩
  · rw [State.fld_set_free _ (by simp [Fld.free, Fld.ok, Fld.apart]), State.haltNoted]
    exact (State.fld_set_same _ rfl 5).trans (Nat.mod_eq_of_lt (show 5 < 2 ^ 4 by decide))
  · refine (State.fld_set_same _ rfl _).trans (Nat.mod_eq_of_lt ?_)
    show _ < 2 ^ 2
    omega
  · rw [State.coreState, State.fld_set_free _ (by simp [Fld.free, Fld.ok, Fld.apart]), hstate]
    rfl

theorem haltShown_counts (s : State) (hc : c < 16) : Counts s (s.haltShown c) (A.ENG_CORE_FORCED_HALTS c) 1 := by
  have h1 : A.ENG_CORE_FORCED_HALTS c ≠ A.ENG_CORE_STATUS c := by simp only [A.ENG_CORE_FORCED_HALTS, A.ENG_CORE_STATUS]; omega
  have h2 : A.ENG_CORE_FORCED_HALTS c ≠ A.ENG_EVT := by simp only [A.ENG_CORE_FORCED_HALTS, A.ENG_EVT]; omega
  rw [Counts, State.haltShown, State.consecSet, State.rd_set_ne _ h1, State.haltNoted, State.rd_set_ne _ h1, State.rd_event_ne h2,
    State.rd_inc_counts (bumpOk_halts hc).2, State.rd_eq_of_reg ((halted_chg s c).reg _ id)]

theorem haltShown_event (s : State) (c : Nat) : (s.haltShown c).on F.ENG_EVT_FORCED_HALT = true := by
  have h : A.ENG_EVT ≠ A.ENG_CORE_STATUS c := by simp only [A.ENG_CORE_STATUS, A.ENG_EVT]; omega
  rw [State.on, State.haltShown, State.consecSet, State.fld_set_ne (f := F.ENG_CORE_STATUS_CONSEC c) (g := F.ENG_EVT_FORCED_HALT) _ _ h, State.haltNoted,
    State.fld_set_ne (f := F.ENG_CORE_STATUS_CAUSE c) (g := F.ENG_EVT_FORCED_HALT) _ _ h]
  exact State.on_event_same _ (by decide)

theorem haltShown_eng (s : State) (c : Nat) : (s.haltShown c).eng = (s.halted c).eng := by
  rw [State.haltShown, State.consecSet, State.set_eng, State.haltNoted, State.set_eng, State.event_eng, State.inc_eng]

theorem forcedHalt_shown (hw : s.working c = true) (hc : c < 16) :
    s.forcedHalt c = (s.haltShown c).when (min 3 (s.fld (F.ENG_CORE_STATUS_CONSEC c) + 1) == 3) (fun s => s.coreRetire c 2) := by
  rw [forcedHalt_eq hw, haltNoted_status s hc (f := F.ENG_CORE_STATUS_CONSEC c) rfl (by simp [Fld.free, Fld.ok, Fld.apart])]
  rfl

theorem answers_forcedHalt (hsh : Shaped s) (hc : c < s.cores) (hw : s.working c = true) (hn : s.fld (F.ENG_CORE_STATUS_CONSEC c) < 2) :
    Answers (.forcedHalt c) s fun t =>
      Counts s t (A.ENG_CORE_FORCED_HALTS c) 1 ∧ t.on F.ENG_EVT_FORCED_HALT = true ∧ t.fld (F.ENG_CORE_STATUS_CAUSE c) = 5 ∧
      t.fld (F.ENG_CORE_STATUS_CONSEC c) = s.fld (F.ENG_CORE_STATUS_CONSEC c) + 1 ∧ t.coreState c = s.coreState c ∧
      (t.core c).prog = none ∧ t.computing c = false ∧
      RegsKept [A.ENG_CORE_FORCED_HALTS c, A.ENG_CORE_SAT c, A.ENG_EVT, A.ENG_CORE_STATUS c] s t := by
  have hc16 : c < 16 := Nat.lt_of_lt_of_le hc s.cores_le
  set u := s.fresh.haltShown c with hu
  have heff : s.fresh.forcedHalt c = u := by
    have h3 : (min 3 (s.fresh.fld (F.ENG_CORE_STATUS_CONSEC c) + 1) == 3) = false := by
      have hn' : s.fresh.fld (F.ENG_CORE_STATUS_CONSEC c) < 2 := hn
      exact beq_false_of_ne (by omega)
    rw [forcedHalt_shown (s := s.fresh) hw hc16, h3, State.when_false]
  have hframe := Chg.refl.fresh.trans (haltShown_chg s.fresh hc16)
  obtain ⟨h1, h2, h3⟩ := haltShown_fields s.fresh hc16
  obtain ⟨ho1, ho2⟩ := halted_out s.fresh (length_of_shaped hsh hc) hw
  have hsum := coreStatus_notMem hc16
  refine answers_runIf _ _ rfl (decide_eq_true hc) heff hframe.variant ⟨?_, ?_, ?_, ?_, ?_, ?_, ?_, hframe.regsKept⟩
  · have hne : A.ENG_CORE_FORCED_HALTS c ∉ summaries := notMem_summaries (by simp only [A.ENG_CORE_FORCED_HALTS]; omega)
    rw [Counts, State.rd_seal _ _ hne]
    exact haltShown_counts s.fresh hc16
  · rw [State.on_seal _ _ (by decide)]
    exact haltShown_event s.fresh c
  · exact (State.fld_seal_of (f := F.ENG_CORE_STATUS_CAUSE c) hsum).trans h1
  · refine (State.fld_seal_of (f := F.ENG_CORE_STATUS_CONSEC c) hsum).trans (h2.trans (Nat.min_eq_right ?_))
    exact Nat.succ_le_of_lt (Nat.lt_succ_of_lt hn)
  · exact (coreState_seal u hc16).trans h3
  · rw [core_seal, State.core, hu, haltShown_eng]
    exact ho1
  · rw [State.computing, State.seal_eng, hu, haltShown_eng]
    exact ho2

theorem answers_forcedHalt_third (hc : c < s.cores) (hw : s.working c = true) (h6 : s.coreState c ≠ 6) (hn : s.fld (F.ENG_CORE_STATUS_CONSEC c) = 2) :
    Answers (.forcedHalt c) s fun t =>
      t.coreState c = 6 ∧ t.fld (F.ENG_CORE_STATUS_CAUSE c) = 2 ∧ t.fld (F.ENG_CORE_STATUS_CONSEC c) = 3 ∧
      t.on F.ENG_EVT_RETIRED = true ∧ (c, 2) ∈ t.mgmt.retiredCores := by
  have hc16 : c < 16 := Nat.lt_of_lt_of_le hc s.cores_le
  set y := s.fresh.haltShown c with hy
  have hframe := Chg.refl.fresh.trans (haltShown_chg s.fresh hc16)
  obtain ⟨-, h2, h3⟩ := haltShown_fields s.fresh hc16
  set x := (y.set (F.ENG_CORE_STATUS_STATE c) 6).set (F.ENG_CORE_STATUS_CAUSE c) 2 with hx
  set u := x.retireOwed c 2 with hu
  have heff : s.fresh.forcedHalt c = u := by
    have hn' : s.fresh.fld (F.ENG_CORE_STATUS_CONSEC c) = 2 := hn
    rw [forcedHalt_shown (s := s.fresh) hw hc16, hn']
    exact State.coreRetire_eq (by rw [h3]; exact h6) 2
  have howed := chg_retireOwed (s := x) (c := c) 2
  have hstat {g : Fld} (hg : g.adr = A.ENG_CORE_STATUS c) : (s.seal u).fld g = x.fld g := by
    rw [State.fld_seal_of (by rw [hg]; exact coreStatus_notMem hc16)]
    refine howed.fld ?_
    rw [hg]
    simp only [A.ENG_CORE_STATUS, A.ENG_DESC_W0, A.ENG_EVT, A.MGMT_EVT, A.MGMT_CFG_STATUS]
    omega
  have hvar : u.variant = s.variant := by
    rw [howed.variant, hx, State.set_variant, State.set_variant, hframe.variant]
  refine answers_runIf _ _ rfl (decide_eq_true hc) heff hvar ⟨?_, ?_, ?_, ?_, ?_⟩
  · rw [State.coreState, hstat rfl, hx, State.fld_set_free _ (by simp [Fld.free, Fld.ok, Fld.apart])]
    exact coreState_set y (by decide)
  · rw [hstat rfl, hx]
    exact (State.fld_set_same _ rfl 2).trans (Nat.mod_eq_of_lt (show 2 < 2 ^ 4 by decide))
  · have hn' : s.fresh.fld (F.ENG_CORE_STATUS_CONSEC c) = 2 := hn
    rw [hstat rfl, hx, State.fld_set_free _ (by simp [Fld.free, Fld.ok, Fld.apart]), State.fld_set_free _ (by simp [Fld.free, Fld.ok, Fld.apart]), h2, hn']
    rfl
  · rw [State.on_seal _ _ (by decide)]
    exact retireOwed_event x c 2
  · rw [State.seal_mgmt]
    exact retireOwed_retired x c 2

end

end Sys2Proof.Machine
end

section
/-! PROOFS. Core memory written by a master, and ENG.CFG (R224, R226, R238). -/

namespace Sys2Proof.Machine

section
variable {s : State} {c : Nat} {m : Master} {priv : Bool} {w : Word} {off : Fin 0x20000}

/-! ### The window of a core's memories -/

/-- A word of a core's window: its core, its offset, and that no register lies there. -/
theorem coreWindow_facts (hc : c < 16) (off : Fin 0x20000) :
    (coreBase c + off.val - 0x200000) / 0x20000 = c ∧ (coreBase c + off.val) % 0x20000 = off.val ∧
      0x200000 ≤ coreBase c + off.val ∧ coreBase c + off.val < 0x400000 ∧ unitOf (coreBase c + off.val) = 8 + c / 4 := by
  have hoff := off.isLt
  have h1 : (coreBase c + off.val - 0x200000) / 0x20000 = c := by simp only [coreBase]; omega
  have h2 : (coreBase c + off.val) % 0x20000 = off.val := by simp only [coreBase]; omega
  have h3 : 0x200000 ≤ coreBase c + off.val := by simp only [coreBase]; omega
  have h4 : coreBase c + off.val < 0x400000 := by simp only [coreBase]; omega
  refine ⟨h1, h2, h3, h4, ?_⟩
  have hq : (coreBase c + off.val) / 0x10000 = 0x20 + 2 * c + off.val / 0x10000 := by simp only [coreBase]; omega
  have hlt : off.val / 0x10000 < 2 := by omega
  unfold unitOf
  rw [hq]
  generalize off.val / 0x10000 = q at hlt
  interval_cases c <;> interval_cases q <;> rfl

theorem coreWindow_row {a : Nat} (h : 0x200000 ≤ a ∧ a < 0x400000) (v : Variant) : rowAt v a = none := by
  have hq : ∃ k, a / 0x10000 = k + 0x20 := ⟨a / 0x10000 - 0x20, by omega⟩
  obtain ⟨k, hk⟩ := hq
  have hrows : rowsAt v a = [] := by
    unfold rowsAt
    rw [hk]
    rfl
  rw [rowAt, hrows]
  rfl

/-- A word written to a core's memory that is there and awake. -/
theorem words_coreWindow (hc : c < s.cores) (h4 : off.val % 4 = 0) (hu : s.unitAwake (8 + c / 4) = true) (hb : s.blockOk (12 + c / 4) = true)
    (hp : off.val < 0x10000 ∨ 0x18000 ≤ off.val ∨ s.masterPriv m priv = true) :
    s.words (coreBase c + off.val) (whole m priv w) = s.coreMemWrite (coreBase c + off.val) w := by
  obtain ⟨h1, h2, h3, h5, hunit⟩ := coreWindow_facts (Nat.lt_of_lt_of_le hc s.cores_le) off
  have hmod : (coreBase c + off.val) % 4 = 0 := by simp only [coreBase]; omega
  have hpriv : (Nat.ble 0x10000 off.val && Nat.blt off.val 0x18000 && !s.masterPriv m priv) = false := by
    rw [← Bool.not_eq_true]
    simp only [Bool.and_eq_true, Nat.ble_eq, Nat.blt_eq, Bool.not_eq_true']
    rintro ⟨⟨ha, hb⟩, hn⟩
    rcases hp with h | h | h
    · omega
    · omega
    · rw [hn] at h
      exact Bool.false_ne_true h
  have hwin : s.coreWindow (coreBase c + off.val) m (s.masterPriv m priv) w = s.coreMemWrite (coreBase c + off.val) w := by
    unfold State.coreWindow
    dsimp only
    rw [h1, h2, if_neg (Nat.not_le.mpr hc), hpriv, if_neg Bool.false_ne_true, hunit, hu, hb]
    rfl
  have hw : s.windowWrite (coreBase c + off.val) m (s.masterPriv m priv) w = some (s.coreMemWrite (coreBase c + off.val) w) := by
    unfold State.windowWrite
    rw [if_neg (by simp only [bar2Base]; omega), if_neg (by omega), if_pos ⟨h3, h5⟩, hwin]
  have ht : (coreBase c + off.val == A.TEST_CTL) = false := beq_false_of_ne (by simp only [A.TEST_CTL]; omega)
  rw [State.words, ht, State.when_false]
  exact busWrites_window hmod w (coreWindow_row ⟨h3, h5⟩ _) hw

/-! ### State memory, with the snapshots it is kept in (R201) -/

/-- The four bytes of a word of state memory, in memory and in each snapshot. -/
def State.stateWord (s : State) (a : Nat) (w : Word) : State := forN 4 (fun k s => s.putStateByte (a + k) (w.extractLsb' (8 * k) 8)) s

theorem stateWord_mem (s : State) (a : Nat) (w : Word) : (s.stateWord a w).mem = (s.putMemWord a w).mem := rfl

/-- A snapshot with the bytes of a word put. -/
def Snap.putWord (v : Snap) (a : Nat) (w : Word) : Snap :=
  { v with core := Sparse.put 0 (Sparse.put 0 (Sparse.put 0 (Sparse.put 0 v.core a (w.extractLsb' 0 8)) (a + 1) (w.extractLsb' 8 8)) (a + 2)
      (w.extractLsb' 16 8)) (a + 3) (w.extractLsb' 24 8) }

theorem stateWord_hitch {k e : Nat} {v : Snap} (a : Nat) (h : getAt s.play.hitches k none = some (e, v)) :
    getAt (s.stateWord a w).play.hitches k none = some (e, v.putWord a w) := by
  have hstep (x : State) (b : Nat) (d : BitVec 8) (v : Snap) (h : getAt x.play.hitches k none = some (e, v)) :
      getAt (x.putStateByte b d).play.hitches k none = some (e, { v with core := Sparse.put 0 v.core b d }) := by
    have he : (x.putStateByte b d).play.hitches = x.play.hitches.map fun h => h.map fun (e, v) => (e, { v with core := Sparse.put 0 v.core b d }) := rfl
    rw [he]
    rw [getAt, List.getD_eq_getElem?_getD] at h ⊢
    rw [List.getElem?_map]
    cases hx : x.play.hitches[k]? with
    | none => rw [hx] at h; exact absurd h (by simp)
    | some o =>
      rw [hx, Option.getD_some] at h
      rw [h]
      rfl
  exact hstep _ _ _ _ (hstep _ _ _ _ (hstep _ _ _ _ (hstep _ _ _ _ h)))

theorem find_put (l : List Host.Cell) (a b : Nat) (x : BitVec 8) :
    Sparse.find (Sparse.put 0 l a x) b = if b = a then (if x = 0 then none else some x) else Sparse.find l b := by
  unfold Sparse.put
  by_cases hx : x = 0
  · rw [if_pos hx, Sparse.find_filter_ne, if_pos hx]
  · rw [if_neg hx, Sparse.find_insert, if_neg hx]

theorem find_putWord (v : Snap) (a : Nat) {j : Nat} (hj : j < 4) : Sparse.find (v.putWord a w).core (a + j) =
    if w.extractLsb' (8 * j) 8 = 0 then none else some (w.extractLsb' (8 * j) 8) := by
  unfold Snap.putWord
  interval_cases j <;> (simp only [find_put]; simp)

/-! ### Core memory written (R226) -/

theorem stateWord_chg (s : State) (a : Nat) (w : Word) :
    Chg (fun _ => False) (Parts [.play]) (fun b => a ≤ b ∧ b < a + 4) s (s.stateWord a w) :=
  Chg.forN _ _ (fun k hk _ hu => Chg.play (hu.putByte _ _ ⟨by omega, by omega⟩) _ (by simp)) Chg.refl

theorem coreMemWrite_eq (hc : c < 16) (off : Fin 0x20000) : s.coreMemWrite (coreBase c + off.val) w =
    if 0x18000 ≤ off.val then s
    else if 0x8000 ≤ off.val ∧ off.val < 0xC000 then s.stateWord (coreBase c + off.val) w
    else if !s.pwr.trig then s.putMemWord (coreBase c + off.val) w
    else if off.val < 0x10000 then s.event F.ENG_EVT_IMEM_REFUSED
    else if s.inOperative c off.val then s.event F.ENG_EVT_IMEM_REFUSED
    else s.putMemWord (coreBase c + off.val) w := by
  obtain ⟨h1, h2, h3, h5, -⟩ := coreWindow_facts hc off
  have hstate : isStateMem (coreBase c + off.val) = decide (0x8000 ≤ off.val ∧ off.val < 0xC000) := by
    rw [isStateMem, h2, Bool.eq_iff_iff]
    simp only [Bool.and_eq_true, Nat.ble_eq, Nat.blt_eq, decide_eq_true_eq]
    exact ⟨fun ⟨⟨_, h⟩, h'⟩ => ⟨h, h'⟩, fun ⟨h, h'⟩ => ⟨⟨⟨h3, h5⟩, h⟩, h'⟩⟩
  unfold State.coreMemWrite
  dsimp only
  rw [h1, h2, hstate]
  simp only [decide_eq_true_eq]
  rfl

theorem answers_coreMemoryWrite_state (hc : c < s.cores) (h4 : off.val % 4 = 0) (hlo : 0x8000 ≤ off.val) (hhi : off.val < 0xC000)
    (hu : s.unitAwake (8 + c / 4) = true) (hb : s.blockOk (12 + c / 4) = true) :
    Answers (.coreMemoryWrite c off (whole m priv w)) s fun t =>
      t.memWord (coreBase c + off.val) = w ∧ MemKeptBut (coreBase c + off.val) 4 s t ∧ RegsKept [] s t ∧
      (∀ (k e : Nat) (v : Snap), getAt s.play.hitches k none = some (e, v) →
        ∃ u, getAt t.play.hitches k none = some (e, u) ∧
          ∀ j < 4, Sparse.find u.core (coreBase c + off.val + j) =
            if w.extractLsb' (8 * j) 8 = 0 then none else some (w.extractLsb' (8 * j) 8)) := by
  have hc16 : c < 16 := Nat.lt_of_lt_of_le hc s.cores_le
  set a := coreBase c + off.val with ha
  set u := s.fresh.stateWord a w with hudef
  have heff : s.fresh.words a (whole m priv w) = u := by
    rw [ha, words_coreWindow (s := s.fresh) hc h4 hu hb (.inl (by omega)), coreMemWrite_eq hc16, if_neg (by omega), if_pos ⟨hlo, hhi⟩]
  have hframe : Chg (Listed []) (Parts [.play]) (fun b => a ≤ b ∧ b < a + 4) s u :=
    (Chg.refl.fresh.trans (stateWord_chg s.fresh a w)).mono (fun _ h => h.elim) (fun _ h => h) fun _ h => h
  refine answers_runIf _ _ rfl (decide_eq_true hc) heff hframe.variant ⟨?_, fun b hb => ?_, hframe.regsKept, fun k e v hk => ?_⟩
  · have hmem : u.memWord a = (s.fresh.putMemWord a w).memWord a := by
      simp only [State.memWord, State.byte, hudef, stateWord_mem]
    rw [State.memWord_seal, hmem, State.memWord_putMemWord_same]
  · exact (State.byte_seal s _ b).trans (hframe.byte b (by omega))
  · rw [State.seal_play]
    exact ⟨_, stateWord_hitch a hk, fun j hj => find_putWord v a hj⟩

theorem answers_coreMemoryWrite_stopped (hc : c < s.cores) (h4 : off.val % 4 = 0)
    (hoff : off.val < 0x8000 ∨ (0x10000 ≤ off.val ∧ off.val < 0x18000 ∧ s.masterPriv m priv = true)) (htrig : s.pwr.trig = false)
    (hu : s.unitAwake (8 + c / 4) = true) (hb : s.blockOk (12 + c / 4) = true) :
    Answers (.coreMemoryWrite c off (whole m priv w)) s fun t =>
      t.memWord (coreBase c + off.val) = w ∧ MemKeptBut (coreBase c + off.val) 4 s t ∧ RegsKept [] s t := by
  have hc16 : c < 16 := Nat.lt_of_lt_of_le hc s.cores_le
  set a := coreBase c + off.val with ha
  set u := s.fresh.putMemWord a w with hudef
  have heff : s.fresh.words a (whole m priv w) = u := by
    have htrig' : s.fresh.pwr.trig = false := htrig
    rw [ha, words_coreWindow (s := s.fresh) hc h4 hu hb (hoff.elim (fun h => .inl (by omega)) fun h => .inr (.inr h.2.2)), coreMemWrite_eq hc16,
      if_neg (by omega), if_neg (by omega), htrig']
    rfl
  have hframe : Chg (Listed []) (Parts []) (fun b => a ≤ b ∧ b < a + 4) s u :=
    (Chg.refl.fresh.trans (chg_putMemWord s.fresh a w)).mono (fun _ h => h.elim) (fun _ h => h) fun _ h => h
  refine answers_runIf _ _ rfl (decide_eq_true hc) heff hframe.variant ⟨?_, fun b hb => ?_, hframe.regsKept⟩
  · rw [State.memWord_seal, hudef, State.memWord_putMemWord_same]
  · exact (State.byte_seal s _ b).trans (hframe.byte b (by omega))

theorem answers_coreMemoryWrite_refused (hc : c < s.cores) (h4 : off.val % 4 = 0)
    (hoff : off.val < 0x8000 ∨ (0x10000 ≤ off.val ∧ off.val < 0x18000 ∧ s.masterPriv m priv = true ∧ s.inOperative c off.val = true))
    (htrig : s.pwr.trig = true) (hu : s.unitAwake (8 + c / 4) = true) (hb : s.blockOk (12 + c / 4) = true) :
    Answers (.coreMemoryWrite c off (whole m priv w)) s fun t => t.on F.ENG_EVT_IMEM_REFUSED = true ∧ Framed [A.ENG_EVT] [] s t := by
  have hc16 : c < 16 := Nat.lt_of_lt_of_le hc s.cores_le
  set u := s.fresh.event F.ENG_EVT_IMEM_REFUSED with hudef
  have heff : s.fresh.words (coreBase c + off.val) (whole m priv w) = u := by
    have htrig' : s.fresh.pwr.trig = true := htrig
    rw [words_coreWindow (s := s.fresh) hc h4 hu hb (hoff.elim (fun h => .inl (by omega)) fun h => .inr (.inr h.2.2.1)), coreMemWrite_eq hc16,
      if_neg (by omega), if_neg (by omega), htrig']
    rcases hoff with h | ⟨hlo, hhi, -, hop⟩
    · rw [if_neg (by decide), if_pos (by omega)]
    · rw [if_neg (by decide), if_neg (by omega), if_pos (show s.fresh.inOperative c off.val = true from hop)]
  have hframe : Chg (Listed [A.ENG_EVT]) (Parts []) NoMem s u := Chg.refl.fresh.event _ (by simp [Listed])
  refine answers_runIf _ _ rfl (decide_eq_true hc) heff hframe.variant ⟨?_, hframe.framed⟩
  rw [State.on_seal _ _ (by decide)]
  exact State.on_event_same _ (by decide)

/-! ### ENG.CFG (R238) -/

theorem engCfg_stores : StoresEverywhere A.ENG_CFG := fun v => by cases v <;> decide

theorem regEffect_engCfg (t : State) (m : Master) (p : Bool) (old : Word) (d : Nat) : t.regEffect m p A.ENG_CFG old d = t.engCfg old := rfl

theorem answers_engCfgWrite_taken (hd : Direct s m priv A.ENG_CFG) (hr : AsItReads s A.ENG_CFG w)
    (h : s.pwr.trig = false ∨ F.ENG_CFG_XPT_SLOT.of w.toNat = s.fld F.ENG_CFG_XPT_SLOT) :
    Answers (.engCfgWrite (whole m priv w)) s fun t => t.reg A.ENG_CFG = w ∧ Framed [A.ENG_CFG] [] s t := by
  by_cases heq : s.reg A.ENG_CFG = w
  · have heff : s.fresh.words A.ENG_CFG (whole m priv w) = s.fresh := hd.stores_same hr engCfg_stores rfl heq
    have hframe : Chg (Listed [A.ENG_CFG]) (Parts []) NoMem s s.fresh := Chg.refl.fresh
    exact answers_effect (·.words A.ENG_CFG (whole m priv w)) rfl heff hframe ⟨(State.reg_seal s s.fresh (by decide)).trans heq, hframe.framed⟩
  · have heff : s.fresh.words A.ENG_CFG (whole m priv w) = s.fresh.wr A.ENG_CFG w.toNat := by
      have hn : ((s.fresh.wr A.ENG_CFG w.toNat).chg F.ENG_CFG_XPT_SLOT (s.reg A.ENG_CFG) && (s.fresh.wr A.ENG_CFG w.toNat).pwr.trig) = false := by
        rw [State.wr_pwr, State.chg, State.fld_wr_word (g := F.ENG_CFG_XPT_SLOT) _ A.ENG_CFG _ rfl]
        rcases h with h | h
        · rw [show s.fresh.pwr.trig = false from h, Bool.and_false]
        · rw [h, State.fld, State.rd, bne_self_eq_false, Bool.false_and]
      rw [hd.stores hr engCfg_stores heq, regEffect_engCfg, State.engCfg, hn, if_neg Bool.false_ne_true]
    have hframe : Chg (Listed [A.ENG_CFG]) (Parts []) NoMem s (s.fresh.wr A.ENG_CFG w.toNat) := Chg.refl.fresh.wr _ _ (by simp [Listed])
    refine answers_effect (·.words A.ENG_CFG (whole m priv w)) rfl heff hframe ⟨?_, hframe.framed⟩
    rw [State.reg_seal _ _ (by decide)]
    exact reg_wr_word s.fresh A.ENG_CFG w

theorem answers_engCfgWrite_refused (hd : Direct s m priv A.ENG_CFG) (hr : AsItReads s A.ENG_CFG w) (htrig : s.pwr.trig = true)
    (hx : F.ENG_CFG_XPT_SLOT.of w.toNat ≠ s.fld F.ENG_CFG_XPT_SLOT) :
    Answers (.engCfgWrite (whole m priv w)) s fun t =>
      t.fld F.ENG_CFG_XPT_SLOT = s.fld F.ENG_CFG_XPT_SLOT ∧ t.fld F.ENG_CFG_REMAP_EN = F.ENG_CFG_REMAP_EN.of w.toNat ∧
      t.on F.ENG_EVT_CFG_REFUSED = true ∧ Framed [A.ENG_CFG, A.ENG_EVT] [] s t := by
  have hne : s.reg A.ENG_CFG ≠ w := fun h => hx (by rw [State.fld, State.rd, h])
  set x := s.fresh.wr A.ENG_CFG w.toNat with hxdef
  set u := (x.set F.ENG_CFG_XPT_SLOT (s.fld F.ENG_CFG_XPT_SLOT)).event F.ENG_EVT_CFG_REFUSED with hu
  have heff : s.fresh.words A.ENG_CFG (whole m priv w) = u := by
    have hy : (x.chg F.ENG_CFG_XPT_SLOT (s.reg A.ENG_CFG) && x.pwr.trig) = true := by
      rw [hxdef, State.wr_pwr, show s.fresh.pwr.trig = true from htrig, State.chg, State.fld_wr_word (g := F.ENG_CFG_XPT_SLOT) _ A.ENG_CFG _ rfl, Bool.and_true, bne_iff_ne]
      exact hx
    rw [hd.stores hr engCfg_stores hne, regEffect_engCfg, State.engCfg, ← hxdef, hy, if_pos rfl]
    rfl
  have hframe : Chg (Listed [A.ENG_CFG, A.ENG_EVT]) (Parts []) NoMem s u :=
    ((Chg.refl.fresh.wr _ _ (by simp [Listed])).set _ _ (by simp [Listed])).event _ (by simp [Listed])
  refine answers_effect (·.words A.ENG_CFG (whole m priv w)) rfl heff hframe ⟨?_, ?_, ?_, hframe.framed⟩
  · rw [State.fld_seal _ _ (by decide), hu, State.fld_event_free _ (by decide), State.fld_set_same _ (by decide)]
    exact Nat.mod_eq_of_lt (s.fld_lt F.ENG_CFG_XPT_SLOT)
  · rw [State.fld_seal _ _ (by decide), hu, State.fld_event_free _ (by decide), State.fld_set_free _ (by decide), hxdef,
      State.fld_wr_word (g := F.ENG_CFG_REMAP_EN) _ A.ENG_CFG _ rfl]
  · rw [State.on_seal _ _ (by decide)]
    exact State.on_event_same _ (by decide)

end

end Sys2Proof.Machine
end

section
/-! PROOFS. Placements that become operative (R230 to R232). -/

namespace Sys2Proof.Machine

/-! ### The words of a placement -/

/-- The words of a placement, put one after the other. -/
def State.putAll (x : State) (l : List (Nat × Word)) : State := forL l (fun (a, w) s => s.putReg a w) x

section
variable {x y : State} {l : List (Nat × Word)} {a m : Nat}

theorem putAll_chg (x : State) (l : List (Nat × Word)) : Chg (fun a => a ∈ l.map Prod.fst) (Parts []) NoMem x (x.putAll l) :=
  Chg.forL _ _ (fun p hp _ hu => hu.putReg _ _ (List.mem_map.mpr ⟨p, hp, rfl⟩)) Chg.refl

theorem putAll_rd (hn : (l.map Prod.fst).Nodup) (ha : a ∈ l.map Prod.fst) (x : State) : (x.putAll l).rd a = plW l a := by
  induction l generalizing x with
  | nil => exact absurd ha List.not_mem_nil
  | cons p l ih =>
    obtain ⟨b, w⟩ := p
    have hrest : x.putAll ((b, w) :: l) = (x.putReg b w).putAll l := rfl
    simp only [List.map_cons, List.nodup_cons] at hn
    rw [hrest]
    by_cases hab : b = a
    · subst hab
      rw [State.rd, (putAll_chg _ l).reg _ hn.1, State.reg_putReg_same, plW, Sparse.find, if_pos rfl, Option.getD_some]
    · have hmem : a ∈ l.map Prod.fst := (List.mem_cons.mp ha).resolve_left (Ne.symm hab)
      rw [ih hn.2 hmem, plW, plW, Sparse.find, if_neg hab]

theorem mem_placeAdrs {cores : Nat} : a ∈ placeAdrs cores ↔
    a = A.ENG_SPAN ∨ (∃ c < cores, a = A.ENG_CORE_CERT c) ∨ ∃ k < 512, a = A.ENG_DESC_W0 0 + 4 * k := by
  simp only [placeAdrs, List.mem_cons, List.mem_append, List.mem_map, List.mem_range, List.cons_append]
  constructor
  · rintro (h | ⟨c, hc, h⟩ | ⟨k, hk, h⟩)
    · exact .inl h
    · exact .inr (.inl ⟨c, hc, h.symm⟩)
    · exact .inr (.inr ⟨k, hk, h.symm⟩)
  · rintro (h | ⟨c, hc, h⟩ | ⟨k, hk, h⟩)
    · exact .inl h
    · exact .inr (.inl ⟨c, hc, h.symm⟩)
    · exact .inr (.inr ⟨k, hk, h.symm⟩)

theorem desc_mem_placeAdrs {cores k : Nat} (hm : m < 64) (hk : k < 8) : A.ENG_DESC_W0 m + 4 * k ∈ placeAdrs cores :=
  mem_placeAdrs.mpr (.inr (.inr ⟨8 * m + k, by omega, by simp only [A.ENG_DESC_W0]; omega⟩))

theorem placeAdrs_nodup {cores : Nat} (h : cores ≤ 16) : (placeAdrs cores).Nodup := by
  have hcert : ((List.range cores).map fun n => A.ENG_CORE_CERT n).Nodup :=
    List.nodup_range.map fun i j hij => by simp only [A.ENG_CORE_CERT] at hij; omega
  have hdesc : ((List.range 512).map fun k => A.ENG_DESC_W0 0 + 4 * k).Nodup :=
    List.nodup_range.map fun i j hij => by simp only [A.ENG_DESC_W0] at hij; omega
  rw [placeAdrs, List.cons_append, List.nodup_cons]
  refine ⟨fun hm => ?_, hcert.append hdesc fun a ha hb => ?_⟩
  · simp only [List.mem_append, List.mem_map, List.mem_range, A.ENG_SPAN, A.ENG_CORE_CERT, A.ENG_DESC_W0] at hm
    omega
  · simp only [List.mem_map, List.mem_range, A.ENG_CORE_CERT, A.ENG_DESC_W0] at ha hb
    omega

/-! ### PLACED (R230) -/

/-- The PLACED flag that a program's descriptor gives it. -/
def State.placedFlag (s : State) (m : Nat) : Nat :=
  if s.on (F.ENG_DESC_W0_EN m) && !s.on (F.ENG_DESC_W0_DROPPED m) && s.coreUsable (s.fld (F.ENG_DESC_W0_CORE m)) then 1 else 0

/-- The PLACED flags of all programs. -/
def State.flagsPlaced (s : State) : State := forN 64 (fun m s => s.keep (F.ENG_DESC_W0_PLACED m) (s.placedFlag m)) s

/-- Cores that wait for a program become READY or EMPTY. -/
def State.coresPlaced (s : State) : State :=
  forN s.cores (fun c s => s.when (s.coreState c == 2 || s.coreState c == 3) (fun s =>
    s.keep (F.ENG_CORE_STATUS_STATE c) (if s.corePlaced c then 3 else 2))) s

theorem makeOperative_eq (x : State) (l : List (Nat × Word)) : x.makeOperative l = ((x.putAll l).flagsPlaced).coresPlaced := rfl

theorem flagsPlaced_chg (x : State) : Chg (fun a => ∃ m < 64, a = A.ENG_DESC_W0 m) (Parts []) NoMem x x.flagsPlaced :=
  Chg.forN _ _ (fun m hm _ hu => hu.keep _ _ ⟨m, hm, rfl⟩) Chg.refl

theorem coresPlaced_chg (x : State) : Chg (fun a => ∃ c < x.cores, a = A.ENG_CORE_STATUS c) (Parts []) NoMem x x.coresPlaced :=
  Chg.forN _ _ (fun c hc _ hu => hu.when _ _ fun _ => hu.keep _ _ ⟨c, hc, rfl⟩) Chg.refl

theorem coreUsable_of {t : State} (hv : t.variant = y.variant) (h : ∀ c < 16, t.reg (A.ENG_CORE_STATUS c) = y.reg (A.ENG_CORE_STATUS c)) (c : Nat) :
    t.coreUsable c = y.coreUsable c := by
  have hcores : t.cores = y.cores := by rw [State.cores, hv, State.cores]
  by_cases hc : c < 16
  · rw [State.coreUsable, State.coreState, hcores, State.fld_eq_of_reg (f := F.ENG_CORE_STATUS_STATE c) (h c hc), State.coreUsable, State.coreState]
  · have hblt : Nat.blt c y.cores = false := by
      rw [← Bool.not_eq_true, Nat.blt_eq]
      have := y.cores_le
      omega
    rw [State.coreUsable, State.coreUsable, hcores, hblt]
    rfl

theorem placedFlag_lt (m : Nat) : y.placedFlag m < 2 := by
  unfold State.placedFlag
  split <;> decide

/-- A descriptor's first word with its PLACED flag set. -/
theorem flagsPlaced_word (y : State) (hm : m < 64) :
    (∀ f : Fld, f.adr = A.ENG_DESC_W0 m → Fld.free (F.ENG_DESC_W0_PLACED m) f = true → y.flagsPlaced.fld f = y.fld f) ∧
      y.flagsPlaced.fld (F.ENG_DESC_W0_PLACED m) = y.placedFlag m := by
  have hstatus (t : State) (k c v : Nat) (hc : c < 16) : (t.keep (F.ENG_DESC_W0_PLACED k) v).reg (A.ENG_CORE_STATUS c) = t.reg (A.ENG_CORE_STATUS c) :=
    State.reg_keep_ne _ _ _ (by simp only [A.ENG_CORE_STATUS, A.ENG_DESC_W0]; omega)
  have hat := forN_at (fun t => (t.reg (A.ENG_DESC_W0 m), fun c => t.coreUsable c))
    (fun x => (∀ f : Fld, f.adr = A.ENG_DESC_W0 m → Fld.free (F.ENG_DESC_W0_PLACED m) f = true → f.of x.1.toNat = y.fld f) ∧
      (F.ENG_DESC_W0_PLACED m).of x.1.toNat = y.placedFlag m) 64 m
    (fun m s => s.keep (F.ENG_DESC_W0_PLACED m) (s.placedFlag m)) y hm (fun k _ hk t => ?_) fun t ht => ?_
  · refine ⟨fun f hf hfree => ?_, ?_⟩
    · rw [State.fld, State.rd, hf]
      exact hat.1 f hf hfree
    · exact hat.2
  · refine Prod.ext (State.reg_keep_ne _ _ _ (by simp only [A.ENG_DESC_W0]; omega)) (funext fun c => ?_)
    exact coreUsable_of (State.keep_variant ..) (fun c hc => hstatus t k c _ hc) c
  · obtain ⟨hw, hu⟩ := Prod.mk.inj ht
    have hfld {f : Fld} (hf : f.adr = A.ENG_DESC_W0 m) : t.fld f = y.fld f := State.fld_eq_of_reg (by rw [hf]; exact hw)
    have hflag : t.placedFlag m = y.placedFlag m := by
      rw [State.placedFlag, State.on, State.on, hfld (f := F.ENG_DESC_W0_EN m) rfl, hfld (f := F.ENG_DESC_W0_DROPPED m) rfl,
        hfld (f := F.ENG_DESC_W0_CORE m) rfl, congrFun hu _]
      rfl
    refine ⟨fun f hf hfree => ?_, ?_⟩
    · have h : (t.keep (F.ENG_DESC_W0_PLACED m) (t.placedFlag m)).fld f = y.fld f := (State.fld_keep_free _ hfree _).trans (hfld hf)
      rw [State.fld, State.rd, hf] at h
      exact h
    · exact (State.fld_keep_same _ rfl (placedFlag_lt m)).trans hflag

/-! ### A placement that is operative -/

/-- One bit of a number, as a field reads it. -/
theorem of_bit (a k w : Nat) : ((Fld.mk a k k).of w != 0) = w.testBit k := by
  have h : (Fld.mk a k k).of w = w / 2 ^ k % 2 := by simp [Fld.of, Fld.width, Nat.shiftRight_eq_div_pow]
  rw [h, Nat.testBit_eq_decide_div_mod_eq]
  rcases Nat.mod_two_eq_zero_or_one (w / 2 ^ k) with h0 | h1
  · rw [h0]; rfl
  · rw [h1]; rfl

theorem coreUsable_putAll (x : State) (hl : l.map Prod.fst = placeAdrs x.cores) (c : Nat) : (x.putAll l).coreUsable c = x.coreUsable c := by
  have hchg := putAll_chg x l
  refine coreUsable_of hchg.variant (fun c hc => hchg.reg _ fun hmem => ?_) c
  rw [hl, mem_placeAdrs] at hmem
  simp only [A.ENG_CORE_STATUS, A.ENG_SPAN, A.ENG_CORE_CERT, A.ENG_DESC_W0] at hmem
  have := x.cores_le
  omega

theorem makeOperative_chg (x : State) (l : List (Nat × Word)) (hl : l.map Prod.fst = placeAdrs x.cores) :
    Chg (Listed (placeRegs x)) (Parts []) NoMem x (x.makeOperative l) := by
  have hput := putAll_chg x l
  rw [hl] at hput
  have hflags := flagsPlaced_chg (x.putAll l)
  have hcores := coresPlaced_chg (x.putAll l).flagsPlaced
  have hcount : (x.putAll l).flagsPlaced.cores = x.cores := by rw [State.cores, hflags.variant, hput.variant, State.cores]
  rw [hcount] at hcores
  have h1 : Chg (Listed (placeRegs x)) (Parts []) NoMem x (x.putAll l) :=
    hput.mono (fun a ha => .inl (List.mem_append_left _ ha)) (fun _ h => h) fun _ h => h
  have h2 : Chg (Listed (placeRegs x)) (Parts []) NoMem (x.putAll l) (x.putAll l).flagsPlaced := by
    refine hflags.mono (fun a ha => .inl ?_) (fun _ h => h) fun _ h => h
    obtain ⟨m, hm, rfl⟩ := ha
    exact List.mem_append_left _ (desc_mem_placeAdrs (k := 0) hm (by decide))
  have h3 : Chg (Listed (placeRegs x)) (Parts []) NoMem (x.putAll l).flagsPlaced (x.makeOperative l) := by
    refine hcores.mono (fun a ha => .inl ?_) (fun _ h => h) fun _ h => h
    obtain ⟨c, hc, rfl⟩ := ha
    exact List.mem_append_right _ (List.mem_map.mpr ⟨c, List.mem_range.mpr hc, rfl⟩)
  exact h1.trans (h2.trans h3)

theorem makeOperative_operative (x : State) (l : List (Nat × Word)) (hl : l.map Prod.fst = placeAdrs x.cores) :
    Operative x (x.makeOperative l) l := by
  have hnodup : (l.map Prod.fst).Nodup := by rw [hl]; exact placeAdrs_nodup x.cores_le
  set z := x.putAll l with hz
  have hword {a : Nat} (ha : a ∈ placeAdrs x.cores) : z.rd a = plW l a := putAll_rd hnodup (by rw [hl]; exact ha) x
  have hflags := flagsPlaced_chg z
  have hcores := coresPlaced_chg z.flagsPlaced
  have hcount : z.flagsPlaced.cores ≤ 16 := State.cores_le _
  have hlast {a : Nat} (ha : ∀ c < 16, a ≠ A.ENG_CORE_STATUS c) : (x.makeOperative l).reg a = z.flagsPlaced.reg a := by
    rw [makeOperative_eq]
    exact hcores.reg _ fun ⟨c, hc, h⟩ => ha c (Nat.lt_of_lt_of_le hc hcount) h
  have hkept {a : Nat} (ha : ∀ c < 16, a ≠ A.ENG_CORE_STATUS c) (hd : ∀ m < 64, a ≠ A.ENG_DESC_W0 m) : (x.makeOperative l).rd a = z.rd a :=
    State.rd_eq_of_reg ((hlast ha).trans (hflags.reg _ fun ⟨m, hm, h⟩ => hd m hm h))
  refine ⟨?_, fun c hc => ?_, fun m hm k hk hk0 => ?_, fun m hm => ?_⟩
  · rw [hkept (by simp only [A.ENG_SPAN, A.ENG_CORE_STATUS]; omega) (by simp only [A.ENG_SPAN, A.ENG_DESC_W0]; omega)]
    exact hword (mem_placeAdrs.mpr (.inl rfl))
  · have := x.cores_le
    rw [hkept (by simp only [A.ENG_CORE_CERT, A.ENG_CORE_STATUS]; omega) (by simp only [A.ENG_CORE_CERT, A.ENG_DESC_W0]; omega)]
    exact hword (mem_placeAdrs.mpr (.inr (.inl ⟨c, hc, rfl⟩)))
  · rw [hkept (by simp only [A.ENG_DESC_W0, A.ENG_CORE_STATUS]; omega) (by simp only [A.ENG_DESC_W0]; omega)]
    exact hword (desc_mem_placeAdrs hm hk)
  · have hw : z.rd (A.ENG_DESC_W0 m) = plW l (A.ENG_DESC_W0 m) := hword (desc_mem_placeAdrs (k := 0) hm (by decide))
    set w := plW l (A.ENG_DESC_W0 m) with hwdef
    have hin {f : Fld} (hf : f.adr = A.ENG_DESC_W0 m) : z.fld f = f.of w := by rw [State.fld, hf, hw]
    have hout {f : Fld} (hf : f.adr = A.ENG_DESC_W0 m) : (x.makeOperative l).fld f = z.flagsPlaced.fld f := by
      refine State.fld_eq_of_reg (hlast fun c hc => ?_)
      rw [hf]
      simp only [A.ENG_DESC_W0, A.ENG_CORE_STATUS]
      omega
    obtain ⟨hfields, hplaced⟩ := flagsPlaced_word z hm
    have hfld {f : Fld} (hf : f.adr = A.ENG_DESC_W0 m) (hfree : Fld.free (F.ENG_DESC_W0_PLACED m) f = true) : (x.makeOperative l).fld f = f.of w := by
      rw [hout hf, hfields f hf hfree, hin hf]
    have hen : z.on (F.ENG_DESC_W0_EN m) = w.testBit 31 := by
      rw [State.on, hin (f := F.ENG_DESC_W0_EN m) rfl]
      exact of_bit _ 31 w
    have hdrop : z.on (F.ENG_DESC_W0_DROPPED m) = w.testBit 29 := by
      rw [State.on, hin (f := F.ENG_DESC_W0_DROPPED m) rfl]
      exact of_bit _ 29 w
    dsimp only
    refine ⟨hfld rfl (by simp [Fld.free, Fld.ok, Fld.apart]), hfld rfl (by simp [Fld.free, Fld.ok, Fld.apart]), ?_, ?_, ?_⟩
    · rw [State.on, hfld (f := F.ENG_DESC_W0_EN m) rfl (by simp [Fld.free, Fld.ok, Fld.apart])]
      exact of_bit _ 31 w
    · rw [State.on, hfld (f := F.ENG_DESC_W0_DROPPED m) rfl (by simp [Fld.free, Fld.ok, Fld.apart])]
      exact of_bit _ 29 w
    · rw [State.on, hout (f := F.ENG_DESC_W0_PLACED m) rfl, hplaced, State.placedFlag, hen, hdrop, hin (f := F.ENG_DESC_W0_CORE m) rfl,
        coreUsable_putAll x hl]
      cases (w.testBit 31 && !w.testBit 29 && x.coreUsable ((F.ENG_DESC_W0_CORE m).of w)) <;> rfl

/-- A placement stays operative while its words stay. -/
theorem operative_of {s t : State} (h : Operative x y l) (hv : x.variant = s.variant) (hs : ∀ c, x.coreUsable c = s.coreUsable c)
    (hr : ∀ a ∈ placeAdrs s.cores, t.reg a = y.reg a) : Operative s t l := by
  obtain ⟨h1, h2, h3, h4⟩ := h
  have hcores : x.cores = s.cores := by rw [State.cores, hv, State.cores]
  have hrd {a : Nat} (ha : a ∈ placeAdrs s.cores) : t.rd a = y.rd a := State.rd_eq_of_reg (hr a ha)
  refine ⟨(hrd (mem_placeAdrs.mpr (.inl rfl))).trans h1, fun c hc => ?_, fun m hm k hk hk0 => ?_, fun m hm => ?_⟩
  · exact (hrd (mem_placeAdrs.mpr (.inr (.inl ⟨c, hc, rfl⟩)))).trans (h2 c (hcores ▸ hc))
  · exact (hrd (desc_mem_placeAdrs hm hk)).trans (h3 m hm k hk hk0)
  · have hw := hr _ (desc_mem_placeAdrs (k := 0) hm (by decide))
    have hf {f : Fld} (hf : f.adr = A.ENG_DESC_W0 m) : t.fld f = y.fld f := State.fld_eq_of_reg (by rw [hf]; exact hw)
    obtain ⟨g1, g2, g3, g4, g5⟩ := h4 m hm
    refine ⟨(hf rfl).trans g1, (hf rfl).trans g2, ?_, ?_, ?_⟩
    · rw [State.on, hf (f := F.ENG_DESC_W0_EN m) rfl]
      exact g3
    · rw [State.on, hf (f := F.ENG_DESC_W0_DROPPED m) rfl]
      exact g4
    · rw [State.on, hf (f := F.ENG_DESC_W0_PLACED m) rfl, ← hs]
      exact g5

end

end Sys2Proof.Machine
end

section
/-! PROOFS. Placements committed and applied (R231). -/

namespace Sys2Proof.Machine

section
variable {s : State} {m : Master} {priv : Bool}

theorem nextPlacement_keys (s : State) (d : List Nat) : (s.nextPlacement d).map Prod.fst = placeAdrs s.cores := by
  rw [State.nextPlacement, List.map_map]
  refine (List.map_congr_left fun a _ => ?_).trans (List.map_id _)
  simp only [Function.comp_apply, id_eq]
  split <;> rfl

theorem rwOf_lt (n : Nat) : rwOf n < 2 ^ 24 := Nat.lt_of_le_of_lt (Nat.min_le_left 0xFFFFFF _) (by decide)

theorem placeCommit_strikes : Strikes A.ENG_PLACE_CTL 1 := fun v => by cases v <;> decide

theorem placeCommit_eq (hd : Direct s m priv A.ENG_PLACE_CTL) :
    s.fresh.strike m priv A.ENG_PLACE_CTL 1 = s.fresh.commitPlacement s.fresh.applyEf [] := hd.strike placeCommit_strikes

/-- The registers of a placement are none of those that only a commit changes. -/
theorem placeRegs_apart {a b : Nat} (h : a ∈ placeAdrs s.cores)
    (hb : b = A.ENG_PLACE_CTL ∨ b = A.PLAY_RW_COST ∨ b = A.ENG_IMG_STATUS) : a ≠ b := by
  have := s.cores_le
  rcases mem_placeAdrs.mp h with rfl | ⟨c, hc, rfl⟩ | ⟨k, hk, rfl⟩ <;> rcases hb with rfl | rfl | rfl <;>
    simp only [A.ENG_SPAN, A.ENG_CORE_CERT, A.ENG_DESC_W0, A.ENG_PLACE_CTL, A.PLAY_RW_COST, A.ENG_IMG_STATUS] <;> omega

theorem placeAdrs_notMem {a : Nat} (h : a ∈ placeAdrs s.cores) : a ∉ summaries := by
  have := s.cores_le
  refine notMem_summaries ?_
  rcases mem_placeAdrs.mp h with rfl | ⟨c, hc, rfl⟩ | ⟨k, hk, rfl⟩ <;> simp only [A.ENG_SPAN, A.ENG_CORE_CERT, A.ENG_DESC_W0] <;> omega

theorem answers_placeCommit_stopped (hd : Direct s m priv A.ENG_PLACE_CTL) (hp : s.play.running = false) :
    Answers (.placeCommit m priv) s fun t =>
      Operative s t (s.nextPlacement []) ∧ t.on F.ENG_PLACE_CTL_PENDING = false ∧
      t.fld F.PLAY_RW_COST_NS = rwOf (t.fld F.ENG_SPAN_NS) ∧ t.eng.waiting = none ∧ t.eng.old = [] ∧
      Framed (placeRegs s ++ [A.ENG_PLACE_CTL, A.PLAY_RW_COST]) [.eng] s t := by
  set x := s.fresh.updEng fun e => { e with waiting := none, old := [] } with hx
  have hl : (s.nextPlacement []).map Prod.fst = placeAdrs x.cores := nextPlacement_keys s []
  set y := x.makeOperative (s.nextPlacement []) with hy
  set z := y.set F.ENG_PLACE_CTL_PENDING 0 with hz
  set u := z.rwFromSpan with hu
  have heff : s.fresh.strike m priv A.ENG_PLACE_CTL 1 = u := by
    rw [placeCommit_eq hd, commitPlacement_stopped (s := s.fresh) hp]
    rfl
  set r := placeRegs s ++ [A.ENG_PLACE_CTL, A.PLAY_RW_COST] with hr
  have hmade : Chg (Listed (placeRegs s)) (Parts []) NoMem x y := makeOperative_chg x _ hl
  have hframe : Chg (Listed r) (Parts [.eng]) NoMem s u := by
    have hsx : Chg (Listed r) (Parts [.eng]) NoMem s x := Chg.refl.fresh.updEng _ (by simp)
    have hsy := hsx.trans ((hmade.parts (by simp)).mono (fun a ha => listed_mono (by simp [hr]) a ha) (fun _ h => h) fun _ h => h)
    exact (hsy.set _ _ (by simp [Listed, hr])).set _ _ (by simp [Listed, hr])
  have heng : u.eng = x.eng := by
    rw [hu, State.rwFromSpan, State.set_eng, hz, State.set_eng]
    exact hmade.part .eng (by simp)
  refine answers_effect (·.strike m priv A.ENG_PLACE_CTL 1) rfl heff hframe ⟨?_, ?_, ?_, ?_, ?_, hframe.framed⟩
  · refine operative_of (makeOperative_operative x _ hl) rfl (fun _ => rfl) fun a ha => ?_
    rw [State.reg_seal _ _ (placeAdrs_notMem ha), hu, State.rwFromSpan, State.reg_set_ne _ _ _ (placeRegs_apart ha (.inr (.inl rfl))), hz,
      State.reg_set_ne _ _ _ (placeRegs_apart ha (.inl rfl))]
  · rw [State.on_seal _ _ (by decide), State.on, hu, State.rwFromSpan, State.fld_set_ne _ _ (by decide), hz, State.fld_set_same _ (by decide)]
    rfl
  · have hspan : u.fld F.ENG_SPAN_NS = z.fld F.ENG_SPAN_NS := State.fld_set_ne _ _ (by decide)
    have hcost : u.fld F.PLAY_RW_COST_NS = rwOf (z.fld F.ENG_SPAN_NS) % 2 ^ F.PLAY_RW_COST_NS.width := State.fld_set_same _ (by decide) _
    rw [State.fld_seal _ _ (by decide), State.fld_seal _ _ (by decide), hspan, hcost]
    exact Nat.mod_eq_of_lt (rwOf_lt (z.fld F.ENG_SPAN_NS))
  · rw [State.seal_eng, heng]
    rfl
  · rw [State.seal_eng, heng]
    rfl

theorem answers_placeCommit_runs (hd : Direct s m priv A.ENG_PLACE_CTL) (hp : s.play.running = true) :
    Answers (.placeCommit m priv) s fun t =>
      t.eng.waiting = some (s.applyEf, s.nextPlacement []) ∧ t.on F.ENG_PLACE_CTL_PENDING = true ∧
      t.fld F.PLAY_RW_COST_NS = max (s.fld F.PLAY_RW_COST_NS) (rwOf (plW (s.nextPlacement []) A.ENG_SPAN % 2 ^ 24)) ∧
      s.play.head ≤ s.applyEf ∧ Framed [A.ENG_PLACE_CTL, A.PLAY_RW_COST] [.eng] s t := by
  set cost := max (s.fld F.PLAY_RW_COST_NS) (rwOf (plW (s.nextPlacement []) A.ENG_SPAN % 2 ^ 24)) with hcost
  set u := ((s.fresh.set F.PLAY_RW_COST_NS cost).updEng fun e => { e with waiting := some (s.applyEf, s.nextPlacement []) }).set
    F.ENG_PLACE_CTL_PENDING 1 with hu
  have heff : s.fresh.strike m priv A.ENG_PLACE_CTL 1 = u := by
    rw [placeCommit_eq hd, commitPlacement_runs (s := s.fresh) hp]
    rfl
  have hframe : Chg (Listed [A.ENG_PLACE_CTL, A.PLAY_RW_COST]) (Parts [.eng]) NoMem s u :=
    ((Chg.refl.fresh.set _ _ (by simp [Listed])).updEng _ (by simp)).set _ _ (by simp [Listed])
  refine answers_effect (·.strike m priv A.ENG_PLACE_CTL 1) rfl heff hframe ⟨?_, ?_, ?_, ?_, hframe.framed⟩
  · rw [State.seal_eng, hu, State.set_eng]
    rfl
  · rw [State.on_seal _ _ (by decide), hu, State.on, State.fld_set_same _ (by decide)]
    rfl
  · rw [State.fld_seal _ _ (by decide), hu, State.fld_set_ne _ _ (by decide), (show ∀ (x : State) f, (x.updEng f).fld F.PLAY_RW_COST_NS = x.fld F.PLAY_RW_COST_NS from fun _ _ => rfl),
      State.fld_set_same _ (by decide)]
    exact Nat.mod_eq_of_lt (max_lt (s.fld_lt F.PLAY_RW_COST_NS) (rwOf_lt _))
  · unfold State.applyEf
    dsimp only
    split
    · exact Nat.le_add_right _ _
    · exact Nat.le_refl _

theorem linesRestart_chg (x : State) : Chg (fun _ => False) (Parts [.proof]) NoMem x x.linesRestart :=
  Chg.forN _ _ (fun _ _ _ hu => hu.when _ _ fun _ => hu.lineRestart _ (by simp)) Chg.refl

theorem imgApplied_idle {x : State} (h1 : x.eng.oldInstall = false) (h2 : x.fld F.ENG_IMG_STATUS_STATE ≠ 4) : x.imgApplied = x := by
  unfold State.imgApplied
  dsimp only
  rw [h1, if_neg Bool.false_ne_true, if_neg h2]

theorem answers_placementApply {ap : Nat} {l : List (Nat × Word)} (hw : s.eng.waiting = some (ap, l)) (hl : l.map Prod.fst = placeAdrs s.cores)
    (hc : s.eng.comp = none) (hp : s.play.running = true) (hap : ap ≤ s.nextEf) (ho : s.eng.oldInstall = false)
    (hi : s.fld F.ENG_IMG_STATUS_STATE ≠ 4) :
    Answers .placementApply s fun t =>
      Operative s t l ∧ t.on F.ENG_PLACE_CTL_PENDING = false ∧ t.eng.waiting = none ∧
      t.eng.old = s.eng.old ++ [(ap, s.opPlacement)] ∧
      Framed (placeRegs s ++ [A.ENG_PLACE_CTL]) [.eng, .proof] s t := by
  set x := s.fresh.updEng fun e => { e with old := e.old ++ [(ap, s.opPlacement)], waiting := none } with hx
  set y := x.makeOperative l with hy
  set z := y.set F.ENG_PLACE_CTL_PENDING 0 with hz
  set u := z.linesRestart with hu
  set r := placeRegs s ++ [A.ENG_PLACE_CTL] with hr
  have hmade : Chg (Listed (placeRegs s)) (Parts []) NoMem x y := makeOperative_chg x l hl
  have hlines := linesRestart_chg z
  have hframe : Chg (Listed r) (Parts [.eng, .proof]) NoMem s u := by
    have hxy : Chg (Listed r) (Parts [.eng, .proof]) NoMem s y := (Chg.refl.fresh.updEng _ (by simp)).trans
      ((hmade.parts (by simp)).mono (fun a ha => listed_mono (by simp [hr]) a ha) (fun _ h => h) fun _ h => h)
    exact (hxy.set _ _ (by simp [Listed, hr])).trans ((hlines.parts (by simp)).mono (fun _ h => h.elim) (fun _ h => h) fun _ h => h)
  have heng : u.eng = x.eng := by
    have h1 : u.eng = z.eng := hlines.part .eng (by simp)
    rw [h1, hz, State.set_eng]
    exact hmade.part .eng (by simp)
  have himg : A.ENG_IMG_STATUS ∉ placeRegs s ++ summaries := by
    refine fun h => (List.mem_append.mp h).elim (fun h => ?_) fun h => ?_
    · rcases List.mem_append.mp h with h | h
      · exact placeRegs_apart h (.inr (.inr rfl)) rfl
      · have := s.cores_le
        simp only [List.mem_map, List.mem_range, A.ENG_CORE_STATUS, A.ENG_IMG_STATUS] at h
        omega
    · exact absurd h (by decide)
  have heff : s.fresh.placementApply = u := by
    have happly : s.fresh.placementApply = u.imgApplied := by
      unfold State.placementApply
      rw [show s.fresh.eng.waiting = some (ap, l) from hw]
      rfl
    have hstat : u.fld F.ENG_IMG_STATUS_STATE = s.fld F.ENG_IMG_STATUS_STATE := by
      rw [hlines.fld id, hz, State.fld_set_ne _ _ (by decide), hmade.fld_off (g := F.ENG_IMG_STATUS_STATE) himg]
      rfl
    rw [happly, imgApplied_idle (by rw [heng]; exact ho) (by rw [hstat]; exact hi)]
  refine answers_effect (fun s => match s.eng.waiting with
    | some (ap, _) => s.when (s.eng.comp.isNone && s.trigRuns && Nat.ble ap s.nextEf) State.placementApply
    | none => s) rfl ?_ hframe ⟨?_, ?_, ?_, ?_, hframe.framed⟩
  · have hgo : (s.fresh.eng.comp.isNone && s.fresh.trigRuns && Nat.ble ap s.fresh.nextEf) = true := by
      rw [show s.fresh.eng.comp = none from hc, show s.fresh.trigRuns = true from hp, Nat.ble_eq_true_of_le (show ap ≤ s.fresh.nextEf from hap)]
      rfl
    rw [show s.fresh.eng.waiting = some (ap, l) from hw]
    change s.fresh.when (s.fresh.eng.comp.isNone && s.fresh.trigRuns && Nat.ble ap s.fresh.nextEf) State.placementApply = u
    rw [hgo, State.when_true, heff]
  · refine operative_of (makeOperative_operative x l hl) rfl (fun _ => rfl) fun a ha => ?_
    rw [State.reg_seal _ _ (placeAdrs_notMem ha), hlines.reg _ id, hz, State.reg_set_ne _ _ _ (placeRegs_apart ha (.inl rfl))]
  · rw [State.on_seal _ _ (by decide), State.on, hlines.fld id, hz, State.fld_set_same _ (by decide)]
    rfl
  · rw [State.seal_eng, heng]
    rfl
  · rw [State.seal_eng, heng]
    rfl

end

end Sys2Proof.Machine
end

section
/-! PROOFS. Re-mapping (R237, R238). -/

namespace Sys2Proof.Machine

/-- Of the registers the count of re-mappings stays. -/
abbrev KeepsRemaps (s u : State) : Prop := Chg (fun a => a ≠ A.ENG_REMAPS) AnyPart (fun _ => True) s u

section
variable {s t : State}

theorem KeepsRemaps.of_chg {u : State} {P : Part → Prop} {M : Nat → Prop} (h : KeepsRemaps s t) (g : Chg (fun _ => False) P M t u) : KeepsRemaps s u :=
  h.trans (g.mono (fun _ h => h.elim) (fun _ _ => trivial) fun _ _ => trivial)

theorem notListed_remaps : ¬ Listed [] A.ENG_REMAPS := not_or.mpr ⟨List.not_mem_nil, by decide⟩

theorem KeepsRemaps.of_chose {u : State} (h : KeepsRemaps s t) (g : Chose t u) : KeepsRemaps s u :=
  h.trans (g.mono (fun a ha => by rintro rfl; exact notListed_remaps ha) (fun _ _ => trivial) fun _ _ => trivial)

theorem placeAll_chose (s : State) (slot xptNs : Nat) (used : Used) (placed todo : List PProg) :
    Chose s (s.placeAll slot xptNs used placed todo).2.2 :=
  forL_last (fun p _ h => placeOne_chose _ _ _ p 65 h) _ (x := (placed, [], s)) Chg.refl

theorem freeWords_chose (s : State) (n : Nat) : Chose s (s.freeWords n).2 := by
  induction n generalizing s with
  | zero => exact Chg.refl
  | succ n ih => exact Chg.trans (Chg.refl.free 32 (by simp)) (ih _)

theorem KeepsRemaps.moveProg (h : KeepsRemaps s t) (img : List Word) (old new : PProg) : KeepsRemaps s (t.moveProg img old new) := by
  unfold State.moveProg
  dsimp only
  split
  · exact h.of_chg ((Written.refl _).putCode _ _ _ |>.putInit _ _ _ _).1
  · exact (h.of_chose (freeWords_chose _ _)).of_chg ((Written.refl _).putCode _ _ _ |>.putInit _ _ _ _).1

theorem KeepsRemaps.commitPlacement (h : KeepsRemaps s t) (ap : Nat) (dropped : List Nat) : KeepsRemaps s (t.commitPlacement ap dropped) := by
  cases hp : t.play.running with
  | true =>
    rw [commitPlacement_runs hp]
    exact ((h.set _ _ (by decide)).updEng _ trivial).set _ _ (by decide)
  | false =>
    rw [commitPlacement_stopped hp]
    have hmade := makeOperative_chg (t.updEng fun e => { e with waiting := none, old := [] }) (t.nextPlacement dropped) (nextPlacement_keys t dropped)
    refine Chg.set (Chg.set ((h.updEng _ trivial).trans (hmade.mono (fun a ha => ?_) (fun _ _ => trivial) fun _ h => h.elim)) _ _ (by decide)) _ _ (by decide)
    rintro rfl
    refine ha.elim (fun hm => ?_) (by decide)
    have hlt := t.cores_le
    simp only [placeRegs, List.mem_append, List.mem_map, List.mem_range, mem_placeAdrs] at hm
    simp only [A.ENG_REMAPS, A.ENG_SPAN, A.ENG_CORE_CERT, A.ENG_DESC_W0, A.ENG_CORE_STATUS] at hm
    have hc : (t.updEng fun e => { e with waiting := none, old := [] }).cores = t.cores := rfl
    omega

/-- A re-mapping up to its commit, and how it is noted. -/
theorem remap_works (h : s.eng.remap ≠ 0) : ∃ v l, KeepsRemaps s v ∧
    s.remap = (((v.inc A.ENG_REMAPS).event F.ENG_EVT_REMAPPED).log 8 2 2 l).updEng fun e => { e with remap := 0 } := by
  unfold State.remap
  rw [if_neg h]
  dsimp only
  refine ⟨_, _, ?_, rfl⟩
  refine KeepsRemaps.commitPlacement (Chg.wr ?_ _ _ (by decide)) _ _
  refine Chg.forL _ _ (fun _ _ u hu => ?_) ?_
  · exact (hu.inc _ (by decide) (by decide) (by decide)).event _ (by decide)
  · refine KeepsRemaps.of_chg (P := Parts [.eng, .play]) (M := fun _ => True) (Chg.forL _ _ (fun q _ u hu => ?_) ?_) (Written.putCert (Written.refl _) _ _ _).1
    · exact (((KeepsRemaps.moveProg hu _ _ _).updEng _ trivial).updEng _ trivial).updEng _ trivial
    · refine KeepsRemaps.of_chose ?_ (placeAll_chose _ _ _ _ _ _)
      split
      · exact Chg.refl
      · exact Chg.refl.free 32 trivial

theorem answers_remap (h : s.eng.remap ≠ 0) :
    Answers .remap s fun t => t.eng.remap = 0 ∧ Counts s t A.ENG_REMAPS 1 ∧ t.on F.ENG_EVT_REMAPPED = true := by
  obtain ⟨v, l, hv, heq⟩ := remap_works (s := s.fresh) h
  set y := (v.inc A.ENG_REMAPS).event F.ENG_EVT_REMAPPED with hy
  set u := (y.log 8 2 2 l).updEng fun e => { e with remap := 0 } with hu
  have hlog : Chg (Listed [A.MGMT_EVT]) AnyPart NoMem y u := (Chg.refl.log _ _ _ _ (by simp [Listed]) trivial).updEng _ trivial
  have hvar : u.variant = s.variant := by
    rw [hlog.variant, hy, State.event_variant, State.inc_variant, hv.variant]
    rfl
  refine answers_run State.remap rfl heq hvar ⟨?_, ?_, ?_⟩
  · rw [State.seal_eng]
    rfl
  · have hcount : v.rd A.ENG_REMAPS = s.rd A.ENG_REMAPS := State.rd_eq_of_reg (hv.reg _ (not_not_intro rfl))
    rw [Counts, State.rd_seal _ _ (by decide), State.rd_eq_of_reg (hlog.reg _ (not_or.mpr ⟨by decide, by decide⟩)), hy, State.rd_event_ne (by decide),
      State.rd_inc_counts (by decide), hcount]
  · rw [State.on_seal _ _ (by decide), hlog.on_off (g := F.ENG_EVT_REMAPPED) (by decide)]
    exact State.on_event_same _ (by decide)

theorem answers_remap_idle (h : s.eng.remap = 0) : Answers .remap s fun t => Framed [] [] s t := by
  have heff : s.fresh.remap = s.fresh := if_pos h
  have hframe : Chg (Listed []) (Parts []) NoMem s s.fresh := Chg.refl.fresh
  exact answers_effect State.remap rfl heff hframe hframe.framed

end

end Sys2Proof.Machine
end

section
/-! PROOFS. STEP of a stopped core (R233, R281), and O45. -/

namespace Sys2Proof.Machine

/-- Of the module only core c and its status register differ, beside what settles. -/
structure CoreSettles (c : Nat) (s u : State) : Prop where
  cores : ∀ k, k ≠ c → u.core k = s.core k
  count : u.eng.cores.length = s.eng.cores.length
  eng : { u.eng with cores := s.eng.cores } = s.eng
  regs : ∀ a, a ≠ A.ENG_CORE_STATUS c → a ∉ summaries → u.reg a = s.reg a
  mem : ∀ a, u.byte a = s.byte a
  parts : ∀ p : Part, p ≠ .eng → p.Same s u
  variant : u.variant = s.variant

namespace CoreSettles

section
variable {c : Nat} {s u v : State}

theorem of_moves (h : CoreMoves c s u) : CoreSettles c s u where
  cores := h.cores
  count := h.count
  eng := h.eng
  regs a ha _ := h.regs a ha
  mem a := by rw [State.byte, h.mem, ← State.byte]
  parts := h.parts
  variant := h.variant

theorem trans (h : CoreSettles c s u) (g : CoreSettles c u v) : CoreSettles c s v where
  cores k hk := (g.cores k hk).trans (h.cores k hk)
  count := g.count.trans h.count
  eng := (congrArg (fun e : EngS => { e with cores := s.eng.cores }) g.eng).trans h.eng
  regs a ha hs := (g.regs a ha hs).trans (h.regs a ha hs)
  mem a := (g.mem a).trans (h.mem a)
  parts p hp := (h.parts p hp).trans (g.parts p hp)
  variant := g.variant.trans h.variant

theorem settled (h : CoreSettles c s u) : CoreSettles c s (s.seal u) where
  cores k hk := (core_seal s u k).trans (h.cores k hk)
  count := by rw [State.seal_eng]; exact h.count
  eng := by rw [State.seal_eng]; exact h.eng
  regs a ha hs := (State.reg_seal s u hs).trans (h.regs a ha hs)
  mem a := (State.byte_seal s u a).trans (h.mem a)
  parts p hp := Part.same_seal (h.parts p hp)
  variant := (State.seal_variant s u).trans h.variant

theorem of_fresh (h : CoreSettles c s.fresh u) : CoreSettles c s u := ⟨h.cores, h.count, h.eng, h.regs, h.mem, h.parts, h.variant⟩

theorem place (h : CoreSettles c s u) {f : Fld} (hf : f.adr ≠ A.ENG_CORE_STATUS c) (hs : f.adr ∉ summaries) : u.place f = s.place f := by
  have hcomp : u.eng.comp = s.eng.comp := by simpa using congrArg EngS.comp h.eng
  have hold : u.eng.old = s.eng.old := by simpa using congrArg EngS.old h.eng
  have hrd : u.rd f.adr = s.rd f.adr := State.rd_eq_of_reg (h.regs _ hf hs)
  unfold State.place State.placeWord State.oldPlacement
  rw [hcomp, hold, hrd, h.variant]

theorem coreOnly (h : CoreSettles c s u) : CoreOnly c [] s (s.seal u) := by
  refine ⟨h.settled.cores, h.settled.eng, frame_seal _ _ s u h.variant (fun a ha hs => ?_) h.mem fun p hp => ?_⟩
  · exact h.regs a (by simpa using ha) hs
  · exact h.parts p (by simpa using hp)

end

end CoreSettles

theorem decode_zero (c : Nat) (sl : Slot) : decodeAcson c sl 0 = .nop c sl := rfl

section
variable {s : State} {c p : Nat} {m : Master} {priv : Bool}

theorem runIf_next {b : Bool} {f : State → State} {u : State} (hb : b = true) (hu : f s.fresh = u) (hv : u.variant = s.variant) :
    s.runIf b f = .next (s.seal u) := (State.runIf_true s hb f).trans (congrArg Host.Outcome.next (s.done_eq f hu hv))

/-- A nop in slot S opens the bundle. -/
theorem run_nop_s (hc : c < s.cores) (hh : (s.core c).half = none) :
    runAcson (.nop c .s) s = .next (s.seal (s.fresh.openBundle c ⟨(s.core c).regs, [], 1, .seq⟩)) :=
  runIf_next (decide_eq_true hc) (slot_s_eff (s := s.fresh) hh rfl rfl) rfl

/-- A nop in slot M completes it. -/
theorem run_nop_m {h : Half} {u : State} (hc : c < s.cores) (hlen : c < s.eng.cores.length) (hh : (s.core c).half = some h)
    (hu : s.fresh.endBundle c = u) (hv : u.variant = s.variant) : runAcson (.nop c .m) s = .next (s.seal u) := by
  refine runIf_next (decide_eq_true hc) ?_ hv
  rw [slot_m_pure (s := s.fresh) hh, lasting_nil, nop_eq hlen hh, hu]

/-- The core with its bundle open. -/
def Core.opened (k : Core) : Core := { k with half := some ⟨k.regs, [], 1, .seq⟩ }

/-! ### The program's bundles while summaries settle -/

/-- TEST.EVT loses no bit as the summaries settle. -/
theorem testBit_testEvt_settle (s : State) {i : Nat} (h : (s.rd A.TEST_EVT).testBit i = true) : (s.settle.rd A.TEST_EVT).testBit i = true := by
  have hkept (v : Nat) : ((s.keep F.PWR_STATUS_FAULT v).keepWord A.TEST_FAULT (ofBits s.faultBits)).rd A.TEST_EVT = s.rd A.TEST_EVT :=
    State.rd_eq_of_reg (by rw [State.reg_keepWord_ne _ _ (by decide), State.reg_keep_ne _ _ _ (by decide)])
  have hset : s.settle.rd A.TEST_EVT = s.settleFault.rd A.TEST_EVT := by
    refine State.rd_eq_of_reg ?_
    simp only [State.settle, State.reg_settleMsix]
    rw [State.reg_keepWord_ne _ _ (by decide), State.reg_keepWord_ne _ _ (by decide), State.reg_settleAlm]
  rw [hset]
  simp only [State.settleFault, State.when]
  split
  · rw [State.event, State.rd_set (f := F.TEST_EVT_FAULT_CHG) _ (by decide), hkept, Fld.testBit_into _ (by decide)]
    split
    · next hi =>
      have h5 : i = 5 := Nat.le_antisymm hi.2 hi.1
      subst h5
      rfl
    · exact h
  · rw [hkept]
    exact h

theorem of_le_of_bits {f : Fld} {a b : Nat} (h : ∀ i, a.testBit i = true → b.testBit i = true) : f.of a ≤ f.of b := by
  have hand : f.of a &&& f.of b = f.of a := by
    refine Nat.eq_of_testBit_eq fun i => ?_
    rw [Nat.testBit_and, Fld.testBit_of, Fld.testBit_of]
    cases ha : a.testBit (f.lo + i) with
    | false => simp
    | true => rw [h _ ha]; simp
  rw [← hand]
  exact Nat.and_le_right

/-- The descriptor words that settling may change are none but TEST.EVT. -/
theorem descW2_summary (h : A.ENG_DESC_W2 p ∈ summaries) : A.ENG_DESC_W2 p = A.TEST_EVT := by
  simp only [summaries, List.mem_cons, List.not_mem_nil, or_false, A.PWR_STATUS, A.TEST_FAULT, A.TEST_EVT, A.MSTAT_SAT_SUM, A.SYS_IRQ_STATUS,
    A.ENG_DESC_W2] at h ⊢
  omega

/-- A program's window of bundles does not shrink as a core moves and the summaries settle. -/
theorem window_settles {x : State} (h : CoreMoves c s.fresh x) (hc : c < 16) (p : Nat) :
    (s.seal x).place (F.ENG_DESC_W2_ENTRY p) = s.place (F.ENG_DESC_W2_ENTRY p) ∧
      s.place (F.ENG_DESC_W2_IMEM_LEN p) ≤ (s.seal x).place (F.ENG_DESC_W2_IMEM_LEN p) := by
  have hset : CoreSettles c s (s.seal x) := (CoreSettles.of_fresh (.of_moves h)).settled
  by_cases hs : A.ENG_DESC_W2 p ∈ summaries
  · have hadr := descW2_summary hs
    have hrd : x.rd A.TEST_EVT = s.rd A.TEST_EVT := State.rd_eq_of_reg (h.regs _ (by rw [← hadr]; exact descW2_ne_coreStatus p hc))
    have hword : (s.seal x).placeWord (A.ENG_DESC_W2 p) = s.placeWord (A.ENG_DESC_W2 p) ∨
        (s.placeWord (A.ENG_DESC_W2 p) = s.rd A.TEST_EVT ∧ (s.seal x).placeWord (A.ENG_DESC_W2 p) = x.settle.rd A.TEST_EVT) := by
      have hcomp : (s.seal x).eng.comp = s.eng.comp := by simpa using congrArg EngS.comp hset.eng
      have hold : (s.seal x).eng.old = s.eng.old := by simpa using congrArg EngS.old hset.eng
      unfold State.placeWord State.oldPlacement
      rw [hcomp, hold, hset.variant, hadr]
      split
      · exact .inr ⟨rfl, rfl⟩
      · split
        · exact .inr ⟨rfl, rfl⟩
        · exact .inl rfl
    rcases hword with hw | ⟨hw, hw'⟩
    · exact ⟨congrArg (F.ENG_DESC_W2_ENTRY p).of hw, (congrArg (F.ENG_DESC_W2_IMEM_LEN p).of hw).ge⟩
    · rw [State.place, State.place, State.place, State.place]
      change (F.ENG_DESC_W2_ENTRY p).of ((s.seal x).placeWord (A.ENG_DESC_W2 p)) = (F.ENG_DESC_W2_ENTRY p).of (s.placeWord (A.ENG_DESC_W2 p)) ∧
        (F.ENG_DESC_W2_IMEM_LEN p).of (s.placeWord (A.ENG_DESC_W2 p)) ≤ (F.ENG_DESC_W2_IMEM_LEN p).of ((s.seal x).placeWord (A.ENG_DESC_W2 p))
      rw [hw, hw']
      refine ⟨?_, of_le_of_bits fun i hi => testBit_testEvt_settle x (by rw [hrd]; exact hi)⟩
      have hfree : Fld.free F.TEST_EVT_FAULT_CHG ⟨A.TEST_EVT, 27, 16⟩ = true := by decide
      have hfld : x.settle.fld ⟨A.TEST_EVT, 27, 16⟩ = x.fld ⟨A.TEST_EVT, 27, 16⟩ := State.fld_settle_testEvt x rfl hfree
      rw [State.fld, State.fld, hrd] at hfld
      exact hfld
  · have hne := descW2_ne_coreStatus p hc
    exact ⟨hset.place hne hs, (hset.place (f := F.ENG_DESC_W2_IMEM_LEN p) hne hs).ge⟩

theorem fld_coreUpd (s : State) (c : Nat) (f : Core → Core) (g : Fld) : (s.coreUpd c f).fld g = s.fld g := rfl
theorem fld_fresh (s : State) (g : Fld) : s.fresh.fld g = s.fld g := rfl

/-- A bundle of two nops, at the program's inside with no loop running. -/
theorem nops_step (hc : c < s.cores) (hlen : c < s.eng.cores.length) (hhalf : (s.core c).half = none) (h0 : (s.core c).regs.lv 0 = 0)
    (h1 : (s.core c).regs.lv 1 = 0) (hprog : (s.core c).prog = some p) (hpc : (s.core c).pc + 1 < 4096)
    (hlo : s.place (F.ENG_DESC_W2_ENTRY p) ≤ (s.core c).pc + 1)
    (hhi : (s.core c).pc + 1 < s.place (F.ENG_DESC_W2_ENTRY p) + s.place (F.ENG_DESC_W2_IMEM_LEN p)) :
    ∃ y v, runAcson (.nop c .s) s = .next y ∧ runAcson (.nop c .m) y = .next v ∧ CoreSettles c s v ∧
      v.core c = { s.core c with half := none, pc := (s.core c).pc + 1 } ∧ v.fld (F.ENG_CORE_STATUS_PC c) = (s.core c).pc + 1 ∧
      v.coreState c = s.coreState c := by
  have hc16 : c < 16 := Nat.lt_of_lt_of_le hc s.cores_le
  have hstat := coreStatus_notMem hc16
  set x := s.fresh.openBundle c ⟨(s.core c).regs, [], 1, .seq⟩ with hx
  set y := s.seal x with hy
  have hsy : CoreSettles c s y := (CoreSettles.of_fresh (.of_moves (openBundle_moves s.fresh c _))).settled
  have hyc : y.core c = (s.core c).opened := (core_seal s x c).trans (openBundle_core s.fresh hlen _)
  have hylen : c < y.eng.cores.length := by rw [hsy.count]; exact hlen
  have hycores : c < y.cores := by rw [State.cores, hsy.variant]; exact hc
  obtain ⟨hentry, hlen'⟩ := window_settles (openBundle_moves s.fresh c ⟨(s.core c).regs, [], 1, .seq⟩) hc16 p
  rw [← hx, ← hy] at hentry hlen'
  have hyhalf : (y.core c).half = some ⟨(s.core c).regs, [], 1, .seq⟩ := by rw [hyc]; rfl
  have hend : y.fresh.endBundle c = (y.fresh.coreUpd c fun k => { k with half := none }).setPc c ((s.core c).pc + 1) := by
    have hypc : (y.core c).pc = (s.core c).pc := by rw [hyc]; rfl
    rw [y.fresh.endBundle_seq hc16 hylen hyhalf rfl (by rw [show y.fresh.core c = y.core c from rfl, hyc]; exact ⟨h0, h1⟩) ?_]
    · rw [show (y.fresh.core c).pc = (s.core c).pc from hypc]
    · refine ⟨p, (congrArg Core.prog hyc).trans hprog, ?_⟩
      rw [show (y.fresh.core c).pc = (s.core c).pc from hypc]
      refine ⟨hpc, ?_, ?_⟩
      · exact hentry.trans_le hlo
      · refine Nat.lt_of_lt_of_le hhi ?_
        show _ ≤ y.place (F.ENG_DESC_W2_ENTRY p) + y.place (F.ENG_DESC_W2_IMEM_LEN p)
        rw [hentry]
        exact Nat.add_le_add_left hlen' _
  set w := y.fresh.coreUpd c fun k => { k with half := none } with hw
  set v := w.setPc c ((s.core c).pc + 1) with hv
  have hmoves : CoreMoves c y.fresh v := (CoreMoves.coreUpd c y.fresh _).trans (CoreMoves.setPc c w _)
  have hyv : CoreSettles c y (y.seal v) := (CoreSettles.of_fresh (.of_moves hmoves)).settled
  have hwlen : c < w.eng.cores.length := by rw [hw, (CoreMoves.coreUpd c y.fresh _).count]; exact hylen
  refine ⟨y, y.seal v, run_nop_s hc hhalf, run_nop_m hycores hylen hyhalf hend hmoves.variant, hsy.trans hyv, ?_, ?_, ?_⟩
  · rw [core_seal, hv, State.core_setPc_same w hwlen, hw, State.core_coreUpd_same y.fresh hylen, show y.fresh.core c = y.core c from rfl, hyc,
      Nat.mod_eq_of_lt hpc]
    rfl
  · rw [State.fld_seal_of (f := F.ENG_CORE_STATUS_PC c) hstat, hv, State.setPc, Nat.mod_eq_of_lt hpc]
    exact State.fld_keep_same _ rfl hpc
  · rw [coreState_seal v hc16, State.coreState, hv, State.setPc, State.fld_keep_free _ (by simp [Fld.free, Fld.ok, Fld.apart]), fld_coreUpd, hw, fld_coreUpd,
      fld_fresh, hy, State.fld_seal_of (f := F.ENG_CORE_STATUS_STATE c) hstat, hx, State.openBundle, fld_coreUpd, fld_fresh, State.coreState]

theorem xferAll_none (h : (s.core c).xfers = []) : s.xferAll c = s := by rw [State.xferAll, h]; rfl

theorem coreStep_steps (hsh : Shaped s) (hc : c < s.cores) (hd : Direct s m priv (A.ENG_CORE_CTL c)) (h5 : s.coreState c = 5)
    (hhalf : (s.core c).half = none) (h0 : (s.core c).regs.lv 0 = 0) (h1 : (s.core c).regs.lv 1 = 0) (hx : (s.core c).xfers = [])
    (hprog : (s.core c).prog = some p) (hpc : (s.core c).pc + 1 < 4096) (hlo : s.place (F.ENG_DESC_W2_ENTRY p) ≤ (s.core c).pc + 1)
    (hhi : (s.core c).pc + 1 < s.place (F.ENG_DESC_W2_ENTRY p) + s.place (F.ENG_DESC_W2_IMEM_LEN p)) (hb : s.bundle c (s.core c).pc = (0, 0)) :
    Answers (.coreStep c m priv) s fun t =>
      GoesTo c ((s.core c).pc + 1) t ∧ t.fld (F.ENG_CORE_STATUS_PC c) = (s.core c).pc + 1 ∧ t.coreState c = 5 ∧
      (t.core c).regs = (s.core c).regs ∧ (t.core c).prog = some p ∧ CoreOnly c [] s t := by
  have hc16 : c < 16 := Nat.lt_of_lt_of_le hc s.cores_le
  obtain ⟨y, v, hy, hv, hset, hcore, hfld, hst⟩ := nops_step (s := s.fresh) hc (length_of_shaped hsh hc) hhalf h0 h1 hprog hpc hlo hhi
  have hset' : CoreSettles c s v := .of_fresh hset
  have hstopped : s.fresh.stopped c = true := beq_iff_eq.mpr h5
  have heff : s.fresh.coreBit c 2 m priv = v := by
    rw [coreBit_eq hc hd (by decide), coreCtl_step, if_pos (show s.fresh.coreState c = 5 from h5), State.coreStepOp, hstopped, if_pos rfl,
      show s.fresh.bundle c (s.fresh.core c).pc = (0, 0) from hb]
    dsimp only
    rw [decode_zero, decode_zero, hy, Result.get, hv, Result.get]
    exact xferAll_none ((congrArg Core.xfers hcore).trans hx)
  refine answers_runIf _ _ rfl (decide_eq_true hc) heff hset'.variant ⟨⟨?_, ?_⟩, ?_, ?_, ?_, ?_, hset'.coreOnly⟩
  · rw [core_seal, hcore]
  · rw [core_seal, hcore]
    rfl
  · exact (State.fld_seal_of (f := F.ENG_CORE_STATUS_PC c) (coreStatus_notMem hc16)).trans hfld
  · exact (coreState_seal v hc16).trans (hst.trans h5)
  · rw [core_seal, hcore]
    rfl
  · rw [core_seal, hcore]
    exact hprog

end

/-- Settles O45: placements, overruns, core control, core memory and re-mapping, each by its lemma above. -/
theorem coresAndPlacements : Obligations.CoresAndPlacements :=
  ⟨fun _ _ _ hd hp => answers_placeCommit_stopped hd hp,
    fun _ _ _ hd hp => answers_placeCommit_runs hd hp,
    fun _ _ _ hw hl hc hp hap ho hi => answers_placementApply hw hl hc hp hap ho hi,
    fun _ _ _ hc hk hw ho => answers_coreOverrun hc hk hw ho,
    fun _ _ hsh hc hw hn => answers_forcedHalt hsh hc hw hn,
    fun _ _ hc hw h6 hn => answers_forcedHalt_third hc hw h6 hn,
    fun _ _ _ _ _ _ hsh hc hd h hp => coreStop_stops hsh hc hd h hp,
    fun _ _ _ _ hc hd h => coreStop_refused hc hd h,
    fun _ _ _ _ _ hsh hc hd h5 hh h0 h1 hx hp hpc hlo hhi hb => coreStep_steps hsh hc hd h5 hh h0 h1 hx hp hpc hlo hhi hb,
    fun _ _ _ _ hc hd h => coreStep_refused hc hd h,
    fun _ _ _ _ hsh hc hd h => coreResume_resumes hsh hc hd h,
    fun _ _ _ _ hc hd h => coreResume_refused hc hd h,
    fun _ _ _ _ hc hd h0 h6 => coreRetire_retires hc hd h0 h6,
    fun _ _ _ _ hc hd h => coreRetire_refused hc hd h,
    fun _ _ _ _ hc hd h hq hr => coreClearRetire_queues hc hd h hq hr,
    fun _ _ _ _ hc hd h => coreClearRetire_refused hc hd h,
    fun _ _ _ _ _ _ hc h4 hlo hhi hu hb => answers_coreMemoryWrite_state hc h4 hlo hhi hu hb,
    fun _ _ _ _ _ _ hc h4 hoff ht hu hb => answers_coreMemoryWrite_stopped hc h4 hoff ht hu hb,
    fun _ _ _ _ _ _ hc h4 hoff ht hu hb => answers_coreMemoryWrite_refused hc h4 hoff ht hu hb,
    fun _ _ _ _ hd hr h => answers_engCfgWrite_taken hd hr h,
    fun _ _ _ _ hd hr ht hx => answers_engCfgWrite_refused hd hr ht hx,
    fun _ h => answers_remap h,
    fun _ h => answers_remap_idle h⟩

end Sys2Proof.Machine
end
